-- ==== Sys2Proof/Word.lean ====
section
/-! DEFINITION. The word types of the TH4016's buses and memories and their plainest arithmetic. -/

namespace Sys2Proof

/-- A bus word: every register of the device is 32 bits wide (R437). -/
abbrev Word := BitVec 32

/-- A byte of a memory, the smallest addressable unit (R18, R438). -/
abbrev Byte := BitVec 8

/-- The word with numeric value `n`, modulo 2^32. -/
abbrev word (n : Nat) : Word := BitVec.ofNat 32 n

/-- The byte with numeric value `n`, modulo 256. -/
abbrev byte (n : Nat) : Byte := BitVec.ofNat 8 n

end Sys2Proof
end

