-- ==== Sys2Proof/Config.lean ====
section
/-! DEFINITION. What the spec leaves to a device or leaves open: opaque constants, which no proof can look into.
A statement about the machine holds whatever they are. -/

namespace Sys2Proof.Config

/-- DESIGN CHOICE (assumption 3). The `k`-th value that the spec leaves open along a run: measured noise, TRNG output
and every value an instruction's rule names without giving it. The state's `freeCount` counts the draws. -/
opaque freeValue : Nat → Nat

/-- DESIGN CHOICE (assumption 3). Byte `i` of the commissioning tag's UID, fixed per device (R333, object 0x4101). -/
opaque uidByte : Nat → Nat

/-- DESIGN CHOICE (assumption 3). The device serial number (object 0x0100:05, "per device"). -/
opaque serial : Nat

/-- DESIGN CHOICE (assumption 3). The device's EUI-48 (object 0x1002:01, "per device"). -/
opaque macAddress : Nat

/-- DESIGN CHOICE (assumption 3). The device's base core voltage in mV (R519, AGE VCORE.VBASE, "per device"). -/
opaque vbase : Nat

/-- DESIGN CHOICE (assumption 3). Byte `i` of the maker's signing key in slot 0 (object 0x0135:01). -/
opaque signKeyByte : Nat → Nat

/-- DESIGN CHOICE (assumption 22). Entry `k` of the default shaping tables: the raised cosine's rounding is not stated (R93). -/
opaque shapeEntry : Nat → Nat

/-- DESIGN CHOICE (assumption 22). DAC of entry `i` of the default dim curve: linear, its rounding not stated (object 0x5003). -/
opaque curveDac : Nat → Nat

/-- DESIGN CHOICE (assumption 22). Byte `i` of the six entries of the reference HF frame table, which the spec names and does
not spell out (object 0x4010). -/
opaque hfRefByte : Nat → Nat

/-- DESIGN CHOICE (assumption 23). Whether the quotient of `a` by `b`, where it is no whole number, is rounded up (nonzero
modulo 2), for figures whose rounding the spec does not give. -/
opaque roundUp : Nat → Nat → Nat

/-- DESIGN CHOICE (assumption 3). The MRAM sense window measured at test, W0 of R521, in 0.1 mV, per device. -/
opaque mramW0 : Nat

/-- DESIGN CHOICE (assumption 23). Whether a level half-way between entries `i` and `i + 1` takes ARC from the upper one: R337
says the nearest. -/
opaque arcTie : Nat → Nat

/-- DESIGN CHOICE (assumption 48). The period, in Q24.8 REFCLK cycles, at which the mains DPLL runs after an accepted edge: the type-2 loop of
R39 as a function of its bandwidth code, the phase error of the edge, the period at which it ran, and the measured period. The spec
names the loop's type and bandwidth and not its gains. -/
opaque dpllPeriod : Nat → Nat → Nat → Nat → Nat

end Sys2Proof.Config
end

