-- ==== Sys2Proof/Machine/Bits.lean ====
section
/-! DEFINITION. Bit-field, sign, byte-order and CRC helpers that the blocks share. Byte lists hold numbers below 256. -/

namespace Sys2Proof.Machine

/-- Bits `hi` down to `lo` of `v`. -/
def bits (v hi lo : Nat) : Nat := v / 2 ^ lo % 2 ^ (hi + 1 - lo)

/-- Bit `k` of `v`. -/
def bitOf (v k : Nat) : Bool := v / 2 ^ k % 2 == 1

/-- 1 or 0 for a truth value. -/
def b2n (b : Bool) : Nat := if b then 1 else 0

/-- `v` with bit `k` made `b`. -/
def putBit (v k : Nat) (b : Bool) : Nat := (if bitOf v k then v - 2 ^ k else v) + b2n b * 2 ^ k

/-- The set bits of a mask, lowest first, among the first `w` places. -/
def setBits (w mask : Nat) : List Nat := (List.range w).filter fun k => bitOf mask k

/-- The number of set bits among the first `w` places. -/
def popcount (w mask : Nat) : Nat := (setBits w mask).length

/-- The two's-complement value of the low `w` bits of `v`. -/
def sint (w v : Nat) : Int := if v % 2 ^ w < 2 ^ (w - 1) then (v % 2 ^ w : Nat) else (v % 2 ^ w : Nat) - (2 ^ w : Nat)

/-- The low `w` bits of an integer, as a number. -/
def unsignedOf (w : Nat) (i : Int) : Nat := (i % (2 ^ w : Nat)).toNat

/-- Byte `i` of a byte list, 0 past its end. -/
def byteAt (b : List Nat) (i : Nat) : Nat := b.getD i 0

/-- The 16-bit little-endian value at offset `i` (R7). -/
def le16 (b : List Nat) (i : Nat) : Nat := byteAt b i + 256 * byteAt b (i + 1)

/-- The 32-bit little-endian value at offset `i` (R7). -/
def le32 (b : List Nat) (i : Nat) : Nat := le16 b i + 65536 * le16 b (i + 2)

/-- The 64-bit little-endian value at offset `i` (R7). -/
def le64 (b : List Nat) (i : Nat) : Nat := le32 b i + 4294967296 * le32 b (i + 4)

/-- The `n` little-endian bytes of `v`. -/
def toLe (n v : Nat) : List Nat := (List.range n).map fun i => v / 256 ^ i % 256

/-- The little-endian value of a whole byte list. -/
def ofLe (b : List Nat) : Nat := b.foldr (fun x a => x % 256 + 256 * a) 0

/-- The `n` big-endian bytes of `v`. -/
def toBe (n v : Nat) : List Nat := (toLe n v).reverse

/-- The big-endian value of a whole byte list. -/
def ofBe (b : List Nat) : Nat := ofLe b.reverse

/-- Bytes `off` to `off + n - 1`, zeros past the end. -/
def slice (b : List Nat) (off n : Nat) : List Nat := (List.range n).map fun i => byteAt b (off + i)

/-- The list with bytes from `off` replaced by `v`, padded with zeros where it was shorter. -/
def patch (b : List Nat) (off : Nat) (v : List Nat) : List Nat :=
  slice b 0 off ++ v ++ b.drop (off + v.length)

/-- A byte list cut or padded with zeros to `n` bytes. -/
def padTo (n : Nat) (b : List Nat) : List Nat := slice b 0 n

/-- The low `w` bits of `v`, most significant first, as sent on air. -/
def bitsMsb (w v : Nat) : List Bool := (List.range w).map fun i => bitOf v (w - 1 - i)

/-- The number whose bits are given most significant first. -/
def ofBitsMsb (l : List Bool) : Nat := l.foldl (fun a b => 2 * a + b2n b) 0

/-- Pack bits into bytes, first bit in bit 7, zero-filled. Structural on the fuel `n`, the number of bytes. -/
def packBits (n : Nat) (l : List Bool) : List Nat :=
  match n with
  | 0 => []
  | n + 1 => ofBitsMsb ((l.take 8) ++ List.replicate (8 - (l.take 8).length) false) :: packBits n (l.drop 8)

/-- The bits of bytes, bit 7 first (R223). -/
def unpackBits (b : List Nat) : List Bool := b.flatMap fun x => bitsMsb 8 x

/-- One bit of a CRC computed most significant bit first: register width `w`, polynomial `p` without its top term. -/
def crcBit (w p r : Nat) (b : Bool) : Nat :=
  if (bitOf r (w - 1)) != b then ((2 * r) % 2 ^ w).xor p else (2 * r) % 2 ^ w

/-- The CRC-5 of R192 over the command bits: x^5 + x^3 + 1, preset 0b01001. -/
def crc5 (l : List Bool) : Nat := l.foldl (crcBit 5 0x09) 0x09

/-- The CRC-16 register of R192 over bits: x^16 + x^12 + x^5 + 1, preset 0xFFFF, before the complement. -/
def crc16 (l : List Bool) : Nat := l.foldl (crcBit 16 0x1021) 0xFFFF

/-- The CRC-16 check of R192: residue 0x1D0F over payload and CRC. -/
def crc16Ok (l : List Bool) : Bool := crc16 l == 0x1D0F

/-- Eight steps of the reflected CRC-32C (R421) on a register that a byte has been added to. -/
def crc32cStep (n r : Nat) : Nat :=
  match n with
  | 0 => r
  | n + 1 => crc32cStep n (if r % 2 == 1 then (r / 2).xor 0x82F63B78 else r / 2)

/-- The CRC-32C of a byte list (R421). -/
def crc32c (b : List Nat) : Nat :=
  (b.foldl (fun r x => crc32cStep 8 (r.xor (x % 256))) 0xFFFFFFFF).xor 0xFFFFFFFF

/-- The header of a TBL1 table (R565): bytes 0 to 15 in front of a body. -/
def tblHeader (fmt level : Nat) (body : List Nat) : List Nat :=
  [0x54, 0x42, 0x4C, 0x31] ++ toLe 2 fmt ++ [level % 256, 0] ++ toLe 4 (16 + body.length) ++ toLe 4 (crc32c body)

/-- The header check of R565 for a table of format `fmt`, level `level` and length `len` over the bytes supplied. -/
def tblHeaderOk (t : List Nat) (fmt level len : Nat) : Bool :=
  t.length == len && le32 t 0 == 0x314C4254 && byteAt t 7 == 0 && le16 t 4 == fmt && byteAt t 6 == level &&
  le32 t 8 == len && le32 t 12 == crc32c (t.drop 16)

/-- The bits of bytes, bit 0 first (R285). -/
def unpackLsb (b : List Nat) : List Bool := b.flatMap fun x => (bitsMsb 8 x).reverse

/-- Pack bits into `n` bytes, first bit in bit 0, zero-filled (R285). -/
def packLsb (n : Nat) (l : List Bool) : List Nat :=
  match n with
  | 0 => []
  | n + 1 => ofBitsMsb (((l.take 8) ++ List.replicate (8 - (l.take 8).length) false).reverse) :: packLsb n (l.drop 8)

/-- One bit of the reflected CRC-16 of R286. -/
def crcHfBit (r : Nat) (b : Bool) : Nat := if bitOf r 0 != b then (r / 2).xor 0x8408 else r / 2

/-- The CRC register of R286 over bits in air order, from its preset. -/
def crcHf (preset : Nat) (l : List Bool) : Nat := l.foldl crcHfBit preset

/-- A quotient whose rounding the spec leaves open: one of its two neighbours (assumption 23). -/
def divOpen (a b : Nat) : Nat := a / b + (if a % b == 0 then 0 else Config.roundUp a b % 2)

end Sys2Proof.Machine
end

