-- ==== Sys2Proof/Syntax.lean ====
section
/-! DEFINITION. The commands of the block: one constructor per row of the opcode table, with the operands that the
sender of the command supplies. -/

namespace Sys2Proof

/-- The masters that make register and memory accesses: Core A, Core B, Core P and the Host Link bridge through the
crossbar (R12, R22), and each link sequencer through its private port (R16, R222). -/
inductive Master where
  | coreA | coreB | coreP | hostLink
  | seq (n : Nat)
  deriving DecidableEq, Repr

/-- The decode of one source on the beam that nulls the rest (R266, R268): its SINR in 0.25 dB, LEV, VIOL and its bits. -/
structure SourceEvidence where
  sinr : Nat := 0
  lev : Nat := 2
  viol : Nat := 0
  bits : List Bool := []
  deriving DecidableEq, Repr

/-- What the receive path measures over one reply window, as the analogue and DSP front end delivers it in the decision
cycle: the payload bits of the sheaf-beam decode, the bit-level figures LEV and VIOL (R262), the eigenvalues of the spatial covariance
in falling order, each by how many 0.25 dB it exceeds the mean noise eigenvalue (R263), the separating-beam decode with its figures
(R266), whether an RN16's encoding is valid (R193), the decodes of the other sources in order of falling power (R268), and per receive
chain the phasor, the RSSI and the noise floor (R122). -/
structure ReplyEvidence where
  bits : List Bool := []
  lev : Nat := 2
  viol : Nat := 0
  eigs : List Nat := []
  capBits : List Bool := []
  capLev : Nat := 2
  capViol : Nat := 0
  capSinr : Nat := 0
  powerRatio : Nat := 0
  corr : Nat := 0
  valid : Bool := true
  others : List SourceEvidence := []
  phasors : List (Nat × Nat) := []
  rssi : List Nat := []
  noise : List Nat := []
  deriving DecidableEq, Repr


/-- What the HF receive path delivers for one reply (R286, R290 to R292): the data bits in air order with parity and
framing removed and the CRC still on, the parity bit of each byte received whole, the first collided bit counted in the data bits where
there is one, with whether it is instead the parity bit that follows them, whether coding failed, the level in 1/16 dBm, and the frame
delay in carrier cycles. -/
structure HfEvidence where
  bits : List Bool := []
  coll : Option Nat := none
  parity : List Bool := []
  collPar : Bool := false
  codingBad : Bool := false
  rssi : Nat := 0
  fdt : Nat := 0
  deriving DecidableEq, Repr

/-- A short APDU as the tag receives it (R323): header, command data with any MAC, Le, and the harvest that the engine
measures at its end, VHARV in mV and AVAIL in µA (R310). -/
structure Apdu where
  cla : Nat := 0x90
  ins : Nat := 0
  p1 : Nat := 0
  p2 : Nat := 0
  data : List Nat := []
  le : Nat := 0
  vharv : Nat := 0
  avail : Nat := 0
  deriving DecidableEq, Repr

/-- The commands that the block takes, one constructor per row of the opcode table. A sequencer is named by its number `n`,
a sheaf by `s`, a transmit chain or synthesizer by `n`, a receive chain by `ch`; `m` is the master that makes the access. -/
inductive Instr where
  /-- R10 A master writes a register field that has no row of its own; the field behaves per its type code. -/
  | registerWrite (m : Master) (addr width value : Nat)
  /-- R445 A read of a register holding read-clear bits returns them and clears them. -/
  | rcRead (m : Master) (addr width : Nat)
  /-- R440 A read of a shadowed LO register returns the low word and latches the high word into the reading master's shadow. -/
  | loReadShadow (m : Master) (addr : Nat)
  /-- R28 A write of SYS IRQ_CFG changes enable or priority of a source from the next CLK_BUS cycle. -/
  | irqCfgWrite (m : Master) (value : Nat)
  /-- R17 A core writes a sequencer's memory; a write to a running sequencer raises a bus error. -/
  | seqMemoryWrite (m : Master) (addr width value : Nat)
  /-- R27 A core is debug-halted; timers and watchdogs it owns freeze where so configured. -/
  | debugHalt (core : Nat)
  /-- R456 A debug-halted core is released and frozen timers resume. -/
  | debugRelease (core : Nat)
  /-- R567 Setting ATB CTRL.EN restarts angle advance and enters ACQUIRE or FREE by source. -/
  | atbEnable
  /-- R567 Clearing ATB CTRL.EN enters OFF, holds the position, clears CYCLE_VALID, discards the anchor and ends any slot. -/
  | atbDisable
  /-- R566 A change of CTRL.SRC while enabled restarts the ATB in the new source and ends any running slot. -/
  | atbSourceChange (src : Nat)
  /-- R62 Clearing CTRL.STANDALONE ends a running slot where slots then become suppressed. -/
  | atbStandaloneClear
  /-- R57 A write of ATB OFFSET is held and applied as a phase step at the next boundary while SRC is MAINS. -/
  | atbOffsetWrite (v : Nat)
  /-- R39 A filtered MAINS_SYNC edge is accepted or discarded and drives the DPLL. -/
  | mainsSyncEdge (rising : Bool) (held angle spacing : Nat)
  /-- R41 No accepted edge for two expected periods, or PTP loss in SYNTH, enters HOLDOVER. -/
  | holdover
  /-- R45 HOLDOVER reaches its limit of measured periods and enters fallback SYNTH or FREE, ending any slot. -/
  | holdExpired
  /-- R57 At a cycle boundary the ATB increments CYCLE, applies adjustments and offset, swaps plans and evaluates slots. -/
  | cycleBoundary (ptpNs : Nat)
  /-- R47 A write of ANCHOR_PTP_NS evaluates the anchor against stored boundary timestamps and arms a cycle adjustment. -/
  | anchorEvaluate (ptpNs : Nat)
  /-- R48 CMD.ADJ_GO arms CYCLE_ADJ for the next boundary. -/
  | adjGo
  /-- R55 CMD.ARM checks the pending plan and arms it or writes a refusal code. -/
  | planArm
  /-- R58 CMD.DISARM disarms the pending plan. -/
  | planDisarm
  /-- R58 A PLAN_DATA access reads or writes a slot word at WADDR and advances WADDR. -/
  | planDataAccess (write : Bool) (v : Nat)
  /-- R56 A write of object 0x2100 loads and arms the pending plan, or aborts with BUSY while armed. -/
  | pendingPlanWrite (body : List Nat)
  /-- R59 PREP_LEAD before a due slot's START the ATB raises SLOT_PREP. -/
  | slotPrep (slot : Nat)
  /-- R60 At a due slot's START the ATB presents the slot to the leaseholder and opens the carrier window. -/
  | slotStart (slot : Nat)
  /-- R61 At a slot's END the ATB signals the RGE and sets SLOT_END. -/
  | slotEnd (slot : Nat)
  /-- R64 A selected edge on a capture source stamps the ATB position into CAPn. -/
  | atbCapture (ch src : Nat) (rising : Bool) (ns : Nat)
  /-- R65 ANGLE reaches or passes an event's compare angle and the event fires on its routes. -/
  | angleEvent (ev : Nat)
  /-- R71 A request for OFF ramps down as needed and powers the chain off. -/
  | utxReqOff (n : Nat) (m : Master)
  /-- R71 A request for STANDBY moves the chain through intermediate states to STANDBY. -/
  | utxReqStandby (n : Nat) (m : Master)
  /-- R71 A request for READY moves the chain to READY, ramping down from carrier. -/
  | utxReqReady (n : Nat) (m : Master)
  /-- R84 A request for CW waits for lock and supply, requests a grant and ramps up. -/
  | utxReqCw (n : Nat) (m : Master)
  /-- R69 A request for LISTEN opens the receive window with or without carrier. -/
  | utxReqListen (n : Nat) (m : Master)
  /-- R70 The chain's bias-up completes and it reaches STANDBY. -/
  | biasUpDone (n : Nat)
  /-- R95 A ramp-up finishes playing and the chain is in CW. -/
  | rampUpDone (n : Nat)
  /-- R96 A ramp-down finishes, UTXn_PA_EN is deasserted and the chain leaves carrier. -/
  | rampDownDone (n : Nat)
  /-- R76 960 CLK_DSP cycles after a frame end the chain enters LISTEN and signals receive-ready. -/
  | receiveReady (sheaf : Nat)
  /-- R74 The turnaround count expires and the next frame's first modulation edge is sent. -/
  | turnaroundEdge (sheaf : Nat)
  /-- R84 SYNTH_WAIT expires before lock and supply are ready and the request fails. -/
  | waitFail (n : Nat)
  /-- R91 FWD differs from EXPECT beyond TOL for TOL_US and a PA fault is raised. -/
  | paFault (n fwd : Nat)
  /-- R88 A write of PWR.IDX changes the effective index at once, at frame end or after a ramp. -/
  | utxPwrWrite (n : Nat) (m : Master) (idx : Nat)
  /-- R92 A MOD_CFG write takes effect at the next frame start. -/
  | utxModCfgWrite (n : Nat) (m : Master) (value : Nat)
  /-- R99 A STEER write settles the LO phase, or waits for the frame end in MOD. -/
  | utxSteerWrite (n : Nat) (m : Master) (steer : Nat)
  /-- R97 A LO_SRC write forms or leaves a gang, or is refused with GANG. -/
  | utxLoSrcWrite (n : Nat) (m : Master) (src : Nat)
  /-- R84 A FREQ write sets channel and frequency, ignored with BAD_STATE while a fed chain is in carrier. -/
  | rfsFreqWrite (n : Nat) (m : Master) (value : Nat)
  /-- R78 CMD.LOCK starts a hinted or full lock, powering the synthesizer up if needed. -/
  | rfsLock (n : Nat) (m : Master)
  /-- R78 CMD.FULL starts a lock with a full band search. -/
  | rfsFull (n : Nat) (m : Master)
  /-- R82 CMD.CAL runs the synthesizer calibration ending in a full re-lock. -/
  | rfsCal (n : Nat) (m : Master)
  /-- R79 At the end of the third hinted step a missed hint restarts a full search. -/
  | hintMiss (n : Nat)
  /-- R78 A lock completes and the synthesizer enters LOCKED. -/
  | synthLocked (n band lockTime vtune : Nat)
  /-- R83 A locked synthesizer loses lock, enters COAST and ramps fed chains down. -/
  | synthLossOfLock (n : Nat)
  /-- R81 A due temperature calibration starts once its deferral conditions clear. -/
  | tempCalStart (n : Nat)
  /-- R81 A synthesizer calibration completes, updating hints and CAL_TEMP and re-locking. -/
  | synthCalDone (n temp : Nat) (bands : List Nat)
  /-- R89 Buck B reaches its raised target, releasing waiting requests. -/
  | paRailReached
  /-- R114 A chain's residual first falls to the hold limit after ACQUIRE and it enters TRACK. -/
  | nullFirstHold (ch resid crs vecI vecQ : Nat)
  /-- R114 Residual above the limit for HOLD_US loses the hold and applies the hold policy. -/
  | holdLost (ch resid crs vecI vecQ : Nat)
  /-- R114 Residual below the limit less hysteresis for 50 µs regains the hold. -/
  | rejoin (ch resid crs vecI vecQ : Nat)
  /-- R117 An ADC overload in four consecutive samples is flagged and the hold policy applied. -/
  | overload (ch : Nat)
  /-- R117 The nuller vector reaches full scale at CRS 0 and CNV_SAT is set. -/
  | cnvSat (ch vecI vecQ resid : Nat)
  /-- R118 The tone tracker acquires a foreign carrier and reports FOFS. -/
  | foreignToneLock (ch fofs level : Nat)
  /-- R197 A reply preamble is detected within the T1 window, freezing the tracking loop. -/
  | preambleDetect (sheaf : Nat)
  /-- R197 A reply ends in a decision; per-chain outputs, RXSTAT, reply buffer and RXD are produced. -/
  | replyDecision (sheaf : Nat) (ev : ReplyEvidence)
  /-- R197 No accepted preamble by the window's end closes it with an EMPTY decision. -/
  | emptyDecision (sheaf : Nat) (ev : ReplyEvidence)
  /-- R109 An OFS_TRIM or IQ_TRIM write is taken only in OFF or IDLE. -/
  | urxTrimWrite (ch : Nat) (m : Master) (iq : Bool) (value : Nat)
  /-- R123 A CNV_VEC write is taken only while frozen and unleased. -/
  | cnvVecWrite (ch : Nat) (m : Master) (value : Nat)
  /-- R126 CAP_CTRL.ARM checks the capture configuration and arms the engine. -/
  | capArm
  /-- R127 CAP_CTRL.TRIG is a software trigger for an armed capture. -/
  | capTrig
  /-- R129 CAP_CTRL.STOP ends a capture at the current instant. -/
  | capStop (stored before ptr : Nat) (samples : List Nat)
  /-- R126 A hardware trigger source fires for an armed capture. -/
  | captureTrigger (src unit : Nat)
  /-- R126 A capture stores its last instant and reports DONE with pointers and stamp. -/
  | captureDone (before ptr : Nat) (samples : List Nat)
  /-- R138 A chain about to ramp requests a carrier grant from the RGE. -/
  | grantRequest (n : Nat)
  /-- R138 The LBT measurement ends and the RGE grants or denies. -/
  | lbtDecision (n power : Nat)
  /-- R142 A continuous check breaches and the RGE withdraws the grant, logs and holds the chain off. -/
  | rgeViolation (n code fwd : Nat)
  /-- R146 RFKILL_N low passes its filter and the kill withdraws all carrier and the HF field. -/
  | killPin
  /-- R148 RFKILL_N high passes its filter and the kill releases if KILL.KILL is 0. -/
  | killPinRelease
  /-- R146 A write of RGE.KILL.KILL with 1 asserts the software kill. -/
  | killReg (m : Master)
  /-- R148 A write of KILL.KILL with 0 releases the kill if the pin is high. -/
  | killRegClear (m : Master)
  /-- R143 Core P's write of QUIET_CLR clears the QUIET latch. -/
  | quietClr (m : Master)
  /-- R144 A read of LOG_LO pops the oldest log entry and latches its cycle. -/
  | rgeLogPop (m : Master)
  /-- R150 Core P writes CTRL.RF_EN; other masters' writes are ignored. -/
  | rfEnWrite (m : Master) (v : Nat)
  /-- R155 LEASE_CMD.GO takes a sheaf lease all or nothing or refuses it. -/
  | leaseGo (sh : Nat) (m : Master) (slot seq : Nat)
  /-- R157 LEASE_CMD.RELEASE ramps the sheaf's chains down on the normal section. -/
  | leaseRelease (sh : Nat) (m : Master)
  /-- R157 Once the ramps complete the lease's parts are freed and RETURNED set. -/
  | leaseFreed (sh : Nat)
  /-- R160 An ANT_SEL write changes antenna fields that pass their checks. -/
  | antSelWrite (m : Master) (value : Nat)
  /-- R167 A BEAM.SEL write applies the beam and steering at the next window opening. -/
  | beamSelWrite (sh : Nat) (m : Master) (sel : Nat)
  /-- R162 An ISO write stores an isolation entry while no sheaf is leased. -/
  | isoWrite (m : Master) (value : Nat)
  /-- R168 A GEO_DATA write stores an element position while no sheaf is leased. -/
  | geoDataWrite (m : Master) (value : Nat)
  /-- R165 A BW_DATA access reads or writes a beam word and advances BW_ADDR. -/
  | bwDataAccess (sh : Nat) (write : Bool) (v : Nat)
  /-- R172 6.00 µs after a marked decision the bearing result lands and may be pushed. -/
  | bearRdy (sh : Nat)
  /-- R174 Command follow parses a foreign command and opens a decision window. -/
  | cfCommandParsed (sh : Nat) (bits : List Bool) (level : Nat)
  /-- R175 The foreign carrier stays below MIN for LOST_US and command follow enters LOST. -/
  | cfLost (sh level : Nat)
  /-- R175 After LOST the level returns above MIN plus 3 dB and command follow enters SEARCH. -/
  | cfSearch (sh level : Nat)
  /-- R198 A held frame begins once 2.0 RTcal have passed since the previous frame. -/
  | frameHoldRelease (sh : Nat)
  /-- R233 CMD.START runs the load checks and enters RUN at PC_INIT. -/
  | seqStart (n : Nat) (m : Master)
  /-- R233 CMD.IDLE runs the load checks and enters IDLE. -/
  | seqIdle (n : Nat) (m : Master)
  /-- R210 CMD.STOP stops the sequencer at the next instruction boundary. -/
  | seqStop (n : Nat) (m : Master)
  /-- R210 CMD.RESET asserts the LSn reset at once. -/
  | seqReset (n : Nat) (m : Master)
  /-- R233 GCMD.START starts the masked sequencers in one cycle. -/
  | gcmdStart (m : Master) (mask : Nat)
  /-- R236 GCMD.STOP stops the masked sequencers. -/
  | gcmdStop (m : Master) (mask : Nat)
  /-- R218 A write of DOORBELL.RING raises DBL. -/
  | doorbell (n : Nat) (m : Master)
  /-- R229 HF_CMD.GO leases the HF reader or HF tag to a sequencer. -/
  | hfLeaseGo (m : Master) (target seq entry : Nat)
  /-- R229 HF_CMD.RELEASE ends an HF lease. -/
  | hfLeaseRelease (m : Master) (target : Nat)
  /-- R219 A masked event ends a sequencer WAIT. -/
  | waitEventEnd (n : Nat)
  /-- R220 A sequencer WAIT reaches its bound and ends with T set. -/
  | waitExpiry (n : Nat)
  /-- R227 QUE drains a sequencer push buffer's block into its queue. -/
  | pushDrain (n : Nat)
  /-- R217 An absent opcode or reserved condition faults with ILLEGAL. -/
  | lsiIllegal (n w : Nat)
  /-- R215 NOP does nothing. -/
  | lsiNop (n : Nat)
  /-- R215 ADD writes Ga + Gb. -/
  | lsiAdd (n d a b : Nat)
  /-- R215 SUB writes Ga − Gb. -/
  | lsiSub (n d a b : Nat)
  /-- R215 AND writes Ga & Gb. -/
  | lsiAnd (n d a b : Nat)
  /-- R215 OR writes Ga | Gb. -/
  | lsiOr (n d a b : Nat)
  /-- R215 XOR writes Ga ^ Gb. -/
  | lsiXor (n d a b : Nat)
  /-- R215 SHL shifts left by Gb. -/
  | lsiShl (n d a b : Nat)
  /-- R215 SHR shifts right logically by Gb. -/
  | lsiShr (n d a b : Nat)
  /-- R215 MINU writes the unsigned minimum. -/
  | lsiMinu (n d a b : Nat)
  /-- R215 MAXU writes the unsigned maximum. -/
  | lsiMaxu (n d a b : Nat)
  /-- R215 MUL writes the low 32 bits of the product. -/
  | lsiMul (n d a b : Nat)
  /-- R215 EXT extracts a bit field. -/
  | lsiExt (n d a pos len : Nat)
  /-- R215 CLZ counts leading zeros. -/
  | lsiClz (n d a : Nat)
  /-- R215 CMP sets flags from Ga − Gb. -/
  | lsiCmp (n a b : Nat)
  /-- R215 ADDI adds a sign-extended immediate. -/
  | lsiAddi (n d a imm : Nat)
  /-- R215 ANDI ands a zero-extended immediate. -/
  | lsiAndi (n d a imm : Nat)
  /-- R215 ORI ors an immediate. -/
  | lsiOri (n d a imm : Nat)
  /-- R215 XORI xors an immediate. -/
  | lsiXori (n d a imm : Nat)
  /-- R215 SHLI shifts left by an immediate. -/
  | lsiShli (n d a imm : Nat)
  /-- R215 SHRI shifts right by an immediate. -/
  | lsiShri (n d a imm : Nat)
  /-- R215 LUI loads an immediate shifted left by 14. -/
  | lsiLui (n d imm : Nat)
  /-- R215 CMPI sets flags from Ga minus an immediate. -/
  | lsiCmpi (n a imm : Nat)
  /-- R212 LDW loads a word from sequencer memory. -/
  | lsiLdw (n d a imm : Nat)
  /-- R212 LDH loads a zero-extended halfword. -/
  | lsiLdh (n d a imm : Nat)
  /-- R212 LDB loads a zero-extended byte. -/
  | lsiLdb (n d a imm : Nat)
  /-- R212 STW stores a word. -/
  | lsiStw (n d a imm : Nat)
  /-- R212 STH stores a halfword. -/
  | lsiSth (n d a imm : Nat)
  /-- R212 STB stores a byte. -/
  | lsiStb (n d a imm : Nat)
  /-- R216 BR branches when its condition holds. -/
  | lsiBr (n cond tgt : Nat)
  /-- R215 DBNZ decrements and branches when nonzero. -/
  | lsiDbnz (n d tgt : Nat)
  /-- R215 CALL pushes the return address and branches. -/
  | lsiCall (n tgt : Nat)
  /-- R215 RET pops the PC. -/
  | lsiRet (n : Nat)
  /-- R215 JR jumps to the address in Ga. -/
  | lsiJr (n a : Nat)
  /-- R215 HALT releases any lease and stops the sequencer. -/
  | lsiHalt (n : Nat)
  /-- R215 DONE releases any lease and enters IDLE. -/
  | lsiDone (n : Nat)
  /-- R215 EVT sets a program event bit in LSC STATUS. -/
  | lsiEvt (n e : Nat)
  /-- R213 RDS reads a special register. -/
  | lsiRds (n d sreg : Nat)
  /-- R213 WRS writes a writable special register. -/
  | lsiWrs (n d sreg : Nat)
  /-- R60 RDPOS reads ANGLE and CYCLE atomically. -/
  | lsiRdpos (n d : Nat)
  /-- R222 PLD reads a block register through the private port. -/
  | lsiPld (n d a blk off : Nat)
  /-- R222 PST writes a block register through the private port. -/
  | lsiPst (n d a blk off : Nat)
  /-- R224 RQS requests a state on the leased chains. -/
  | lsiRqs (n chmask req : Nat)
  /-- R215 LOCK writes the sheaf synthesizer's FREQ and issues LOCK or FULL. -/
  | lsiLock (n a full : Nat)
  /-- R223 TXF sends a frame entry with latched operands. -/
  | lsiTxf (n fidx : Nat)
  /-- R227 PUSH reserves room and pushes a word. -/
  | lsiPush (n a q : Nat)
  /-- R227 PUSHB pushes N words from memory, all or none. -/
  | lsiPushb (n a q cnt : Nat)
  /-- R215 POP takes a word from a queue. -/
  | lsiPop (n d q : Nat)
  /-- R227 PUSHREC pushes the record bank and clears VALID. -/
  | lsiPushrec (n q : Nat)
  /-- R226 STREC stores the record bank to memory. -/
  | lsiStrec (n a : Nat)
  /-- R219 WAIT waits for a masked event bounded by its encoding. -/
  | lsiWait (n mask unit count : Nat)
  /-- R219 WAITR waits bounded by Gb cycles. -/
  | lsiWaitr (n mask b : Nat)
  /-- R215 CLREV clears latched events. -/
  | lsiClrev (n mask : Nat)
  /-- R279 An HF reader state transition completes. -/
  | hfStateDone (railOk : Bool)
  /-- R279 HFSYN not locked 150 µs after a CW request fails it. -/
  | hfSynthTimeout
  /-- R279 HF driver current above the limit for 20 µs drops the field. -/
  | drvFault
  /-- R287 A held HF frame begins after the protocol minimum and GUARD. -/
  | hfFrameHoldRelease
  /-- R292 An HF reply decides 2.0 µs after its end with RXSTAT and RXD. -/
  | hfReplyDecision (ev : HfEvidence)
  /-- R289 An HF wait expires without reply and decides EMPTY. -/
  | hfWaitExpiry
  /-- R288 An S(WTX) reply is answered by the engine and the wait extended. -/
  | hfWtxAnswer
  /-- R283 An FT_DATA access reads or writes an HF frame table word and advances FT_ADDR. -/
  | ftDataAccess (write : Bool) (v : Nat)
  /-- R281 50 µs after the reader field or ping ends the tag is released from the self-field guard. -/
  | tagGuardRelease
  /-- R295 The Gleaner ping period elapses and it pings and measures the antenna. -/
  | gleanerPing (amp phase : Nat)
  /-- R297 GL_CMD.ARM arms the Gleaner. -/
  | glArm
  /-- R297 GL_CMD.RESUME returns a woken Gleaner to ARMED. -/
  | glResume
  /-- R297 GL_CMD.REBASE rearms with a new baseline from the next ping. -/
  | glRebase
  /-- R297 GL_CMD.STOP turns the Gleaner off. -/
  | glStop
  /-- R313 An external field appears at the tag coil and the engine starts. -/
  | fieldOn (vharv avail : Nat)
  /-- R313 The field is lost and the engine enters NO_FIELD. -/
  | fieldOff
  /-- R313 REQA moves an idle tag to READY with ATQA. -/
  | tagReqa
  /-- R313 WUPA moves an idle or halted tag to READY. -/
  | tagWupa
  /-- R305 ANTICOLL answers the UID bits of a cascade level. -/
  | tagAnticoll (level : Nat) (known : List Bool)
  /-- R305 SELECT answers SAK and at level 2 enters ACTIVE. -/
  | tagSelect (level : Nat) (cln : List Nat)
  /-- R305 RATS answers the ATS and enters OPEN. -/
  | tagRats (fsdi cid : Nat)
  /-- R313 HLTA in ACTIVE enters HALT. -/
  | tagHlta
  /-- R304 A PPS with DRI and DSI 0 is acknowledged. -/
  | tagPps (dri dsi : Nat)
  /-- R313 S(DESELECT) drops authentication and enters HALT. -/
  | tagDeselect
  /-- R307 The handheld's S(WTX) response starts a new waiting time. -/
  | tagWtxResponse
  /-- R307 A reply not ready 30 ms into the waiting time sends S(WTX). -/
  | tagWtxRequest
  /-- R323 Select of the NDEF application. -/
  | tagSelectNdefApp (a : Apdu)
  /-- R323 Select of the CC file or NDEF file. -/
  | tagSelectFile (a : Apdu)
  /-- R323 READ BINARY returns bytes of the selected file. -/
  | tagReadBinary (a : Apdu)
  /-- R323 UPDATE BINARY commits the touched NDEF records one by one. -/
  | tagUpdateBinary (a : Apdu)
  /-- R323 GET_INFO returns state, harvest and UID. -/
  | getInfo (a : Apdu)
  /-- R314 VERIFY checks the installer password. -/
  | verify (a : Apdu)
  /-- R315 AUTH1 returns E(K, RndB) for a key slot. -/
  | auth1 (a : Apdu)
  /-- R315 AUTH2 checks RndB′ and enters SECURED_FACTORY. -/
  | auth2 (a : Apdu)
  /-- R323 READ_RECORD returns record data under the rights. -/
  | readRecord (a : Apdu)
  /-- R325 WRITE_RECORD commits record data atomically. -/
  | writeRecord (a : Apdu)
  /-- R322 INC_COUNTER increments a monotonic counter. -/
  | incCounter (a : Apdu)
  /-- R323 READ_COUNTERS returns MONO0 to MONO3. -/
  | readCounters (a : Apdu)
  /-- R331 A CLA 0x90 INS 0x80–0xBF APDU is refused or passed to a core or sequencer. -/
  | tagPassthroughApdu (a : Apdu)
  /-- R325 A record commit finishes step 5, clears the marker and releases the arbiter. -/
  | tagCommitDone
  /-- R317 5.0 s of field absence ends the lockout and clears FAILS. -/
  | lockoutEnd
  /-- R329 WCMD.GO with OP READ copies a record into WBUF under the grant. -/
  | wiredRead (m : Master) (record : Nat) (nowait : Bool)
  /-- R329 WCMD.GO with OP WRITE commits WBUF to a record under the grant. -/
  | wiredWrite (m : Master) (record : Nat) (nowait : Bool)
  /-- R328 A waiting wired request is granted when the field command releases. -/
  | wgrant
  /-- R331 PCMD.RESPOND sends the response in PBUF. -/
  | pcmdRespond (m : Master) (rlen : Nat)
  /-- R331 PCMD.REJECT answers 0x6D00. -/
  | pcmdReject (m : Master)
  /-- R331 500 ms without an answer sends 0x6F00 and clears PENDING. -/
  | passthroughTimeout
  /-- R336 A LEVEL.TARGET write starts a fade from the present level. -/
  | levelWrite (m : Master) (v : Nat)
  /-- R337 A CURVE_DATA access loads a curve word and advances CURVE_ADDR. -/
  | curveDataAccess (m : Master) (write : Bool) (v : Nat)
  /-- R342 DALI_CMD.GO sends a forward frame after settling. -/
  | daliSend (m : Master) (v : Nat)
  /-- R342 DALI_RX differs from DALI_TX and the engine stops and releases the bus. -/
  | daliCollision
  /-- R342 A forward frame completes. -/
  | daliDone
  /-- R342 A backward frame arrives within the answer window. -/
  | daliBackwardFrame (data : Nat) (framingOk : Bool)
  /-- R342 The answer window closes without a backward frame. -/
  | daliNoAnswer
  /-- R339 A queued automatic DAPC is sent once the engine is idle and the gap has passed. -/
  | autoDapcSend
  /-- R344 FS_CTRL.KICK restarts the lamp keepalive. -/
  | kick (m : Master)
  /-- R344 FS_CTRL.CLR disengages the failsafe if its conditions hold. -/
  | fsClr (m : Master)
  /-- R344 Setting FS_CTRL.FORCE engages the failsafe. -/
  | fsForce (m : Master)
  /-- R344 KA_MS passes without a KICK and the failsafe engages. -/
  | keepaliveLapse
  /-- R346 A photodiode integration ends and its result lands. -/
  | pdRdy (range pa : Nat) (clip : Bool)
  /-- R347 |FILT| at or above THR for PERSIST samples raises a motion event. -/
  | motion (filt : Nat)
  /-- R347 |FILT| below THR for PERSIST samples re-arms the detector. -/
  | pirRearm (filt : Nat)
  /-- R358 IND_CMD.GO starts an indirect xSPI command. -/
  | indGo (m : Master) (v : Nat)
  /-- R358 An indirect command completes and DONE is set. -/
  | indDone (data : List Nat)
  /-- R360 After GAP_US an auto-poll status read is issued and compared. -/
  | pollRead (status : Nat)
  /-- R360 POLL_TMO.MS passes and the command ends with POLL_TIMEOUT. -/
  | pollTimeout
  /-- R357 A transaction overruns TXN_US and is ended. -/
  | txnTimeout
  /-- R362 An access through the XIP window hits the cache or starts a line fill. -/
  | xipFetch (m : Master) (addr : Nat)
  /-- R363 A line fill completes and the fetch is answered. -/
  | xipFillDone (line : List Nat)
  /-- R363 CACHE.INV invalidates the line cache. -/
  | cacheInv (m : Master)
  /-- R363 An XWINn write remaps a window and invalidates the cache. -/
  | xwinWrite (m : Master) (n v : Nat)
  /-- R364 An RCFG write enables or disables a decryption region after checks. -/
  | rcfgWrite (m : Master) (v : Nat)
  /-- R359 An IBUF write stores data, ignored while BUSY. -/
  | ibufWrite (m : Master) (addr width v : Nat)
  /-- R367 GRN CTRL.EN set checks the geometry and starts the engine. -/
  | grnEnable (m : Master)
  /-- R369 The engine pops a record and folds it into index and journal. -/
  | recordFold
  /-- R370 The sweep period elapses and the engine walks the index for departures. -/
  | sweepStep
  /-- R373 CMD.FORMAT draws a nonce and zeroes the Granary area. -/
  | grnFormat
  /-- R378 CMD.RECOVER picks a superblock, clears torn entries and replays the journal. -/
  | grnRecover
  /-- R377 CMD.COMMIT writes the staged block and the inactive superblock. -/
  | grnCommit
  /-- R377 COMMIT_MS elapses and a commit starts. -/
  | grnCommitTimer
  /-- R374 A write of NR_TAIL frees ring entries and resumes folding. -/
  | nrTailWrite (m : Master) (v : Nat)
  /-- R371 A write of TAG_WATCH sets or clears WATCH on an entry. -/
  | tagWatch (body : List Nat)
  /-- R382 A write of TAG_QUERY looks up an index entry for reading. -/
  | tagQuery (body : List Nat)
  /-- R384 The 10BASE-T1L link comes up or goes down. -/
  | phyLinkChange (up : Bool) (level sqi : Nat)
  /-- R385 A frame is received and accepted or discarded by the MAC. -/
  | macFrameRx (frame : List Nat) (fcsOk : Bool)
  /-- R390 The PD class changes and the PA budget is recomputed. -/
  | pdClassChange (cls : Nat)
  /-- R395 A Sync message updates the PTP servo. -/
  | ptpSyncRx (offset : Int) (delay ptpNs : Nat)
  /-- R395 The servo loses lock on offset or missed Syncs. -/
  | ptpLoss
  /-- R402 A TOT READ_REQ is checked and answered with READ_RSP. -/
  | readReq (d : List Nat)
  /-- R402 A TOT WRITE_REQ applies entries in order and answers WRITE_RSP. -/
  | writeReq (d : List Nat)
  /-- R403 XFER_INIT opens a transfer or answers BUSY. -/
  | xferInit (d : List Nat)
  /-- R403 XFER_DATA stages a segment and acknowledges as the kind requires. -/
  | xferData (d : List Nat)
  /-- R403 XFER_ACK advances or resends an outgoing transfer. -/
  | xferAck (d : List Nat)
  /-- R404 XFER_END checks TOTAL and CRC and applies the staged value. -/
  | xferEnd (d : List Nat)
  /-- R403 XFER_ABORT ends a transfer. -/
  | xferAbort (d : List Nat)
  /-- R405 SUBSCRIBE creates, renews or cancels a subscription. -/
  | subscribe (d : List Nat)
  /-- R406 NOTIFY_ACK acknowledges a notification by NSEQ. -/
  | notifyAck (d : List Nat)
  /-- R407 PLAN_MCAST evaluates its anchor and applies a newer plan for this node. -/
  | planMcast (d : List Nat)
  /-- R401 A datagram with an unlisted TYPE is counted and discarded. -/
  | totUnknownType (d : List Nat)
  /-- R403 REQ_TIMEOUT_MS without progress resends from NEXT or aborts. -/
  | xferResendTimeout (k : Nat)
  /-- R403 A transfer idle for 2 s is aborted. -/
  | xferIdleTimeout (k : Nat)
  /-- R406 A notification falls due and NOTIFY is sent. -/
  | notifySend (k : Nat)
  /-- R406 An unacknowledged NOTIFY is resent or the subscription dropped. -/
  | notifyResendTimeout (k : Nat)
  /-- R405 LIFE_S passes without renewal and the subscription is dropped. -/
  | subscriptionExpiry (k : Nat)
  /-- R410 STORE writes all RWP values to the inactive bank and flips it. -/
  | store
  /-- R410 RESTORE returns every RWP object to its default. -/
  | restore
  /-- R417 HL_CS_N falls, the SPI mode is sampled and the reply starts. -/
  | hlCsFall (sclk : Bool)
  /-- R422 A host frame fails a check at HL_CS_N rise and is ignored. -/
  | hlFrameReject (clocks : Nat) (frame : List Nat)
  /-- R426 A NOP frame is accepted and produces no result. -/
  | hlNop (frame : List Nat)
  /-- R426 A SYNC frame sets the ALIVE reference. -/
  | hlSync (frame : List Nat)
  /-- R428 REG_READ reads up to 14 words along the block pointer. -/
  | regRead (frame : List Nat)
  /-- R428 REG_WRITE_AT writes words from ADDR. -/
  | regWriteAt (frame : List Nat)
  /-- R428 REG_WRITE_NEXT writes words at the pointer. -/
  | regWriteNext (frame : List Nat)
  /-- R431 OBJ_READ returns up to 44 bytes of an object value. -/
  | objRead (frame : List Nat)
  /-- R431 OBJ_WRITE writes or stages an object value segment. -/
  | objWrite (frame : List Nat)
  /-- R431 A staged Host Link object write idle for 2 s is dropped. -/
  | hlStagedWriteTimeout
  /-- R432 HOST_IRQ.SET sets LEVEL and asserts HL_IRQ_N. -/
  | hostIrqSet (m : Master)
  /-- R432 HOST_IRQ.CLR clears LEVEL. -/
  | hostIrqClr (m : Master)
  /-- R449 A write of PUSH stores a word or overflows. -/
  | quePush (q : Nat) (m : Master) (v : Nat) (mismatch : Bool)
  /-- R449 A read of POP takes the head word or reports underflow. -/
  | quePop (q : Nat) (m : Master) (mismatch : Bool)
  /-- R460 FLUSH empties the masked queues. -/
  | queFlush (m : Master) (mask : Nat)
  /-- R448 Setting QCFG.EN checks the region and starts an empty queue. -/
  | queEnable (q : Nat) (m : Master) (base depth : Nat)
  /-- R448 Clearing QCFG.EN empties the queue and cancels reservations. -/
  | queDisable (q : Nat) (m : Master)
  /-- R456 CMD.ARM loads COUNT from LOAD. -/
  | tmrArm (n : Nat) (m : Master)
  /-- R456 CMD.START starts an armed timer. -/
  | tmrStart (n : Nat) (m : Master)
  /-- R456 CMD.STOP returns a timer to IDLE. -/
  | tmrStop (n : Nat) (m : Master)
  /-- R458 GSTART starts every armed masked timer. -/
  | tmrGstart (m : Master) (mask : Nat)
  /-- R458 GSTOP stops every masked timer. -/
  | tmrGstop (m : Master) (mask : Nat)
  /-- R456 A timer's COUNT reaches 0, setting DONE, pulsing outputs and releasing its chain. -/
  | tmrExpiry (n : Nat)
  /-- R459 A capture source edge copies COUNT into CAPT. -/
  | tmrCapture (n src : Nat) (rising : Bool)
  /-- R503 The uptime counter reaches its compare value. -/
  | uptMatch
  /-- R443 Each slow-clock edge scrubs every voted field, correcting or escalating. -/
  | voteScrub (f c0 c1 c2 : Nat)
  /-- R466 REFCLK counts out of range in two periods, hard-stopping radio and holding WARM. -/
  | refFail
  /-- R466 REFCLK in range for 1 ms releases the reset. -/
  | refclkRecovery
  /-- R465 1,024 good crystal periods switch the slow clock to the crystal. -/
  | slowXtalQualified
  /-- R465 A missing or bad crystal period switches the slow clock to RC. -/
  | slowFail
  /-- R465 CMD.SLOW_RETRY restarts crystal qualification. -/
  | slowRetry (m : Master)
  /-- R470 SYSPLL loses lock, outputs go to bypass and lock restarts. -/
  | pllLol
  /-- R467 SYSPLL declares lock after its search and settle. -/
  | pllLock (band : Nat)
  /-- R472 100 µs of stable lock enters LOCKED_WAIT and may return outputs. -/
  | relock
  /-- R472 CMD.RETURN returns outputs to SYSPLL. -/
  | clkReturn (m : Master)
  /-- R478 CMD.BYPASS forces all outputs to bypass. -/
  | clkBypass (m : Master)
  /-- R473 A MULT write by Core P changes the SYSPLL frequency via bypass. -/
  | pllMultWrite (m : Master) (v : Nat)
  /-- R468 A DIV write changes CLK_CPU's divider at a period boundary. -/
  | clkDivWrite (m : Master) (n v : Nat)
  /-- R469 An OUTn.EN write by Core P enables or disables an output. -/
  | clkOutEnWrite (m : Master) (n : Nat) (en : Bool)
  /-- R469 An OUTn.DELAY write shifts the output without shortening a period. -/
  | clkDelayWrite (m : Master) (n v : Nat)
  /-- R485 Power-on runs Core P's bring-up sequence. -/
  | powerOn (cls : Nat)
  /-- R25 WARM resets everything but AON and MRAM and reruns bring-up from step 3. -/
  | warmReset
  /-- R551 A filtered low pulse on RESET_N asserts WARM. -/
  | resetNPin
  /-- R25 A CORE_A or CORE_B reset resets that core and its caches. -/
  | coreReset (core : Nat)
  /-- R483 Line early warning asserts and carriers and new commits are stopped. -/
  | lew (lineMv : Nat)
  /-- R483 The line stays above threshold plus hysteresis for 10 ms and the warning clears. -/
  | lewEnd
  /-- R484 The 5.0 V rail falls below 4.50 V and WARM is asserted. -/
  | brownOut (mv : Nat) (vharv : Bool)
  /-- R487 Core P switches the RADIO, HFR or MRAM domain on or off. -/
  | domCtrlWrite (m : Master) (v : Nat)
  /-- R499 The hotter die reaches WARN_C. -/
  | thermalWarn (tMain tPower : Nat)
  /-- R499 The cap-step interval elapses and the sheaf cap falls or rises by one. -/
  | thermalCapStep
  /-- R499 The hotter die reaches QUIET_C and the device enters QUIET. -/
  | thermalQuiet (tMain tPower : Nat)
  /-- R499 HARD_C reached kills radio in hardware and removes RADIO and HFR power. -/
  | hardTherm (tMain tPower : Nat)
  /-- R497 All QUIET causes clear and Core P repeats bring-up step 7. -/
  | quietExit
  /-- R494 LC_REQUEST runs an allowed life-cycle transition with its wipes. -/
  | lcRequest (v : Nat)
  /-- R493 BOOT_REQUEST points at the inactive images and trial-boots them. -/
  | bootRequest (v : Nat)
  /-- R493 CONFIRM ends the trial and raises the rollback counters. -/
  | confirm
  /-- R504 A write of 1 to RESTART asserts WARM. -/
  | restart
  /-- R445 SWI_SET sets software doorbell bits. -/
  | swiSet (m : Master) (v : Nat)
  /-- R509 CMD.RUN starts a Fulling sequence after its preconditions. -/
  | calRun (m : Master) (seq target : Nat)
  /-- R512 CMD.ABORT ends a running sequence at the next measurement step. -/
  | calAbort (m : Master)
  /-- R505 A sequence completes and its trims are applied. -/
  | calSequenceEnd (code : Nat) (res : List (Nat × List Nat))
  /-- R516 CMD.COMMIT writes the working record into the inactive bank and flips the pointer. -/
  | calCommit (m : Master) (readbackOk : Bool)
  /-- R519 The hourly ring-oscillator measurement updates slowdown and the core voltage. -/
  | ageRoMeasure (core radio aon : Nat)
  /-- R520 A PA-path sample updates drift statistics and the guard candidate. -/
  | agePaSample (n fwd : Nat)
  /-- R518 The band-gap drift measurement runs every 10 min. -/
  | ageBgMeasure (drift : Nat)
  /-- R521 The daily MRAM sense-window measurement sets the scrub interval. -/
  | ageMramMeasure (w : Nat)
  /-- R534 Setting WDTn_CTRL.EN starts the watchdog. -/
  | wdtEnable (m : Master) (n : Nat)
  /-- R534 A KICK with the right key reloads the watchdog. -/
  | wdtKick (m : Master) (n key : Nat)
  /-- R535 WARN_MS before expiry the watchdog sets WARN. -/
  | wdtWarn (n : Nat)
  /-- R535 The watchdog expires and resets its core. -/
  | wdtExpiry (n : Nat)
  /-- R71 A frame's last rising edge is sent: TXE is raised, the chain leaves MOD, and requests, power-index, STEER and MOD_CFG changes held for the frame end take effect. -/
  | frameEnd (sh : Nat)
  /-- R159 ANT_CFG.SETTLE elapses after an antenna change and a ramp-up request held back by it may proceed. -/
  | antennaSettle (n : Nat)
  /-- R336 During a fade the present level moves towards TARGET at FADE_RATE, looks up the curve and may queue an automatic DAPC on an ARC change. -/
  | presentLevelUpdate
  /-- R81 The synthesizer's local temperature comes to differ from CAL_TEMP by TDELTA, making a calibration due or setting CAL_PENDING and CAL_DEFER. -/
  | temperatureTrigger (n temp : Nat)
  /-- R521 HINT_SWEEP_DAYS pass since the last sweep and AGE sets DUE_HINT. -/
  | dueHint
  /-- R522 The MRAM scrub interval elapses and AGE sets DUE_SCRUB for Core P. -/
  | dueScrub
  /-- R348 HOLD_S seconds pass after the last motion or badge sighting and the node becomes vacant. -/
  | occupancyHoldEnd
  deriving DecidableEq, Repr

end Sys2Proof
end

