-- ==== Sys2Proof/Decode.lean ====
section
/-! DEFINITION. The commands that a word of the opcode table spells, none, for no row gives bits; and the LSI instruction that a word of
a sequencer's memory spells (R214, R215). -/

namespace Sys2Proof

open Sys2Proof.Machine

/-- The command that a word spells by the table's bits: none, for no row has any. -/
def decodeTableWord (_nbits _w : Nat) : Option Instr := none

/-- An instruction, where the fields that it leaves unused are 0 (R214). -/
def lsiOnly (unused : Bool) (i : Instr) : Option Instr := if unused then some i else none

/-- Formats R and I: opcodes 0x00 to 0x1D (R214, R215). -/
def lsiAlu (n op w : Nat) : Option Instr :=
  let d := bits w 25 22
  let a := bits w 21 18
  let b := bits w 17 14
  let imm := bits w 17 0
  let r := fun (i : Instr) => lsiOnly (bits w 13 0 == 0) i
  match op with
  | 0x00 => lsiOnly (bits w 25 0 == 0) (.lsiNop n)
  | 0x01 => r (.lsiAdd n d a b)
  | 0x02 => r (.lsiSub n d a b)
  | 0x03 => r (.lsiAnd n d a b)
  | 0x04 => r (.lsiOr n d a b)
  | 0x05 => r (.lsiXor n d a b)
  | 0x06 => r (.lsiShl n d a b)
  | 0x07 => r (.lsiShr n d a b)
  | 0x08 => r (.lsiMinu n d a b)
  | 0x09 => r (.lsiMaxu n d a b)
  | 0x0A => r (.lsiMul n d a b)
  | 0x0B => lsiOnly (b == 0 && bits w 3 0 == 0) (.lsiExt n d a (bits w 13 9) (bits w 8 4 + 1))
  | 0x0C => lsiOnly (imm == 0) (.lsiClz n d a)
  | 0x0D => lsiOnly (d == 0 && bits w 13 0 == 0) (.lsiCmp n a b)
  | 0x10 => some (.lsiAddi n d a imm)
  | 0x11 => some (.lsiAndi n d a imm)
  | 0x12 => some (.lsiOri n d a imm)
  | 0x13 => some (.lsiXori n d a imm)
  | 0x14 => some (.lsiShli n d a imm)
  | 0x15 => some (.lsiShri n d a imm)
  | 0x16 => lsiOnly (a == 0) (.lsiLui n d imm)
  | 0x17 => lsiOnly (d == 0) (.lsiCmpi n a imm)
  | 0x18 => some (.lsiLdw n d a imm)
  | 0x19 => some (.lsiLdh n d a imm)
  | 0x1A => some (.lsiLdb n d a imm)
  | 0x1B => some (.lsiStw n d a imm)
  | 0x1C => some (.lsiSth n d a imm)
  | 0x1D => some (.lsiStb n d a imm)
  | _ => none

/-- Formats B, S and P, and the opcodes without a format, 0x20 to 0x2D (R214 to R217). A condition above 12 and RDPOS with D = 15 are no
instruction (R217). -/
def lsiFlow (n op w : Nat) : Option Instr :=
  let d := bits w 25 22
  let a := bits w 21 18
  let tgt := bits w 12 0
  match op with
  | 0x20 => lsiOnly (bits w 21 13 == 0 && decide (d ≤ 12)) (.lsiBr n d tgt)
  | 0x21 => lsiOnly (bits w 21 13 == 0) (.lsiDbnz n d tgt)
  | 0x22 => lsiOnly (bits w 25 13 == 0) (.lsiCall n tgt)
  | 0x23 => lsiOnly (bits w 25 0 == 0) (.lsiRet n)
  | 0x24 => lsiOnly (d == 0 && bits w 17 0 == 0) (.lsiJr n a)
  | 0x25 => lsiOnly (bits w 25 0 == 0) (.lsiHalt n)
  | 0x26 => lsiOnly (bits w 25 0 == 0) (.lsiDone n)
  | 0x27 => lsiOnly (bits w 25 3 == 0) (.lsiEvt n (bits w 2 0))
  | 0x28 => lsiOnly (bits w 21 8 == 0) (.lsiRds n d (bits w 7 0))
  | 0x29 => lsiOnly (bits w 21 8 == 0) (.lsiWrs n d (bits w 7 0))
  | 0x2A => lsiOnly (bits w 21 0 == 0 && d != 15) (.lsiRdpos n d)
  | 0x2C => lsiOnly (bits w 14 14 == 0) (.lsiPld n d a (bits w 17 15) (bits w 13 0))
  | 0x2D => lsiOnly (bits w 14 14 == 0) (.lsiPst n d a (bits w 17 15) (bits w 13 0))
  | _ => none

/-- Formats F, Q, W and WR, RQS, LOCK and CLREV, 0x30 to 0x3E (R214, R215). -/
def lsiRadio (n op w : Nat) : Option Instr :=
  let d := bits w 25 22
  let q := bits w 21 18
  match op with
  | 0x30 => lsiOnly (bits w 21 3 == 0) (.lsiRqs n d (bits w 2 0))
  | 0x31 => lsiOnly (d == 0 && bits w 17 1 == 0) (.lsiLock n q (bits w 0 0))
  | 0x32 => lsiOnly (bits w 19 0 == 0) (.lsiTxf n (bits w 25 20))
  | 0x34 => lsiOnly (bits w 17 0 == 0) (.lsiPush n d q)
  | 0x35 => lsiOnly (bits w 17 17 == 0 && bits w 12 0 == 0) (.lsiPushb n d q (bits w 16 13 + 1))
  | 0x36 => lsiOnly (bits w 17 0 == 0) (.lsiPop n d q)
  | 0x37 => lsiOnly (d == 0 && bits w 17 0 == 0) (.lsiPushrec n q)
  | 0x38 => lsiOnly (bits w 21 0 == 0) (.lsiStrec n d)
  | 0x3C => some (.lsiWait n (bits w 25 16) (bits w 15 14) (bits w 13 0))
  | 0x3D => lsiOnly (bits w 15 4 == 0) (.lsiWaitr n (bits w 25 16) (bits w 3 0))
  | 0x3E => lsiOnly (bits w 15 0 == 0) (.lsiClrev n (bits w 25 16))
  | _ => none

/-- The instruction of sequencer `n` that a 32-bit word spells, its opcode in bits [31:26] (R214, R215); none where the opcode is absent,
where R217 makes it illegal, or where an unused field is not 0 (assumption 54). -/
def lsiDecode (n w : Nat) : Option Instr :=
  let op := bits w 31 26
  if op ≤ 0x1D then lsiAlu n op w else if op ≤ 0x2D then lsiFlow n op w else lsiRadio n op w

end Sys2Proof
end

