-- ==== Sys2Proof/Machine/Bearing.lean ====
section
/-! DEFINITION. The bearing estimator of R169 and R170 in whole numbers (assumption 51): angles as parts of a turn in 2^-32, sines and
cosines in 2^-30, directions in 1/65,536 of the grid step of 0.02, angles reported to the nearest 0.01°. -/

namespace Sys2Proof.Machine

/-- One in the scale of the sines. -/
def trigOne : Nat := 2 ^ 30

/-- The series of a sine or cosine in the square of its angle, the factors of its successive terms given. -/
def trigSeries (a2 : Nat) (ks : List Nat) : Nat := ks.foldr (fun k t => trigOne - a2 * t / (trigOne * k)) trigOne

/-- One in the scale of squares of sines, 2^60. -/
def bearOne : Int := 1152921504606846976

/-- The sine of `r` parts in 2^30 of a quarter turn; π/2 is 1,686,629,713 in 2^-30. -/
def sinQuarter (r : Nat) : Nat :=
  let rad := fun (x : Nat) => x * 1686629713 / trigOne
  if r ≤ 2 ^ 29 then rad r * trigSeries (rad r * rad r / trigOne) [6, 20, 42, 72, 110] / trigOne
  else trigSeries (rad (2 ^ 30 - r) * rad (2 ^ 30 - r) / trigOne) [2, 12, 30, 56, 90]

/-- The sine of an angle in 2^-32 turns. -/
def sinTurn (p : Int) : Int :=
  let m := (p % 4294967296).toNat
  let r := m % 2 ^ 30
  match m / 2 ^ 30 with
  | 0 => sinQuarter r
  | 1 => sinQuarter (2 ^ 30 - r)
  | 2 => -(sinQuarter r : Int)
  | _ => -(sinQuarter (2 ^ 30 - r) : Int)

/-- The cosine of an angle in 2^-32 turns. -/
def cosTurn (p : Int) : Int := sinTurn (p + 2 ^ 30)

/-- The greatest number below 2^k, and up to 18,000, of steps of 0.005° for which a condition holds that once false stays false; to the
nearest 0.01°. -/
def angleSteps (ok : Int → Bool) (k acc : Nat) : Nat :=
  match k with
  | 0 => (acc + 1) / 2
  | k + 1 =>
    let c := acc + 2 ^ k
    angleSteps ok k (if c ≤ 18000 && ok (c * 4294967296 / 72000) then c else acc)

/-- What the estimator takes from one chain: its phasor, I and Q, and its element's position in mm. -/
structure BearIn where
  i : Int
  q : Int
  x : Int
  y : Int
  deriving DecidableEq, Repr

/-- The phasor of a chain turned back by its element's path towards (u, v): p · exp(−j2π(xu + yv)/λ), with λ = 299,792,458 mm over the
frequency in kHz. -/
def BearIn.turned (e : BearIn) (khz : Nat) (u v : Int) : Int × Int :=
  let p := (e.x * u + e.y * v) * khz * 65536 / (50 * 299792458)
  (e.i * cosTurn p + e.q * sinTurn p, e.q * cosTurn p - e.i * sinTurn p)

/-- b(u, v) of R169, in 2^-60. -/
def bearPower (l : List BearIn) (khz : Nat) (u v : Int) : Int :=
  let z := l.foldl (fun a e => (a.1 + (e.turned khz u v).1, a.2 + (e.turned khz u v).2)) ((0, 0) : Int × Int)
  z.1 * z.1 + z.2 * z.2

/-- A grid point within the limit off boresight (R169). -/
def bearIn (fov : Nat) (i j : Int) : Bool :=
  decide ((i * i + j * j) * bearOne ≤ 2500 * (sinTurn (fov * 4294967296 / 360) * sinTurn (fov * 4294967296 / 360)))

/-- The grid within the limit with b at each point, u rising and within it v. -/
def bearGrid (l : List BearIn) (khz fov : Nat) : List (Int × Int × Int) :=
  (List.range 101).flatMap fun a => (List.range 101).filterMap fun b =>
    let i : Int := (a : Int) - 50
    let j : Int := (b : Int) - 50
    if bearIn fov i j then some (i, j, bearPower l khz (65536 * i) (65536 * j)) else none

/-- The grid's maximum; of equal ones the first. -/
def bearPeak (g : List (Int × Int × Int)) : Int × Int × Int :=
  g.foldl (fun m p => if m.2.2 < p.2.2 then p else m) (0, 0, -1)

/-- The vertex of the parabola through three neighbours, in 1/65,536 of a step from the middle one; the middle one itself where it is
no maximum of the three. -/
def bearVertex (a b c : Int) : Int := if b < a || b < c || a + c == 2 * b then 0 else 32768 * (a - c) / (a - 2 * b + c)

/-- Another local maximum at least 0.2 away reaches 0.9 of the peak (R170). -/
def bearAmbig (g : List (Int × Int × Int)) (m : Int × Int × Int) : Bool :=
  g.any fun p => decide (100 ≤ (p.1 - m.1) * (p.1 - m.1) + (p.2.1 - m.2.1) * (p.2.1 - m.2.1)) && decide (9 * m.2.2 ≤ 10 * p.2.2) &&
    g.all fun o => decide (1 < (o.1 - p.1).natAbs) || decide (1 < (o.2.1 - p.2.1).natAbs) || decide (o.2.2 ≤ p.2.2)

/-- The peak lies on the limit: a neighbour of it on the grid lies beyond (R170). -/
def bearEdge (fov : Nat) (m : Int × Int × Int) : Bool :=
  !(bearIn fov (m.1 + 1) m.2.1 && bearIn fov (m.1 - 1) m.2.1 && bearIn fov m.1 (m.2.1 + 1) && bearIn fov m.1 (m.2.1 - 1))

/-- A result of the estimator: azimuth and elevation in 0.01°, the two flags, and COH. -/
structure Bearing where
  az : Int
  el : Int
  ambig : Bool
  edge : Bool
  coh : Nat
  deriving DecidableEq, Repr

/-- atan2 in 0.01°, −18,000 to 18,000. -/
def bearAtan (v u : Int) : Int :=
  let c : Int := angleSteps (fun p => decide (u.natAbs * sinTurn p ≤ v.natAbs * cosTurn p)) 15 0
  let a := if u < 0 then 18000 - c else c
  if v < 0 then -a else a

/-- The sine of an angle is at most the length of (u, v). -/
def bearBelow (u v p : Int) : Bool := decide (sinTurn p * sinTurn p * 10737418240000 ≤ (u * u + v * v) * bearOne)

/-- COH of R170: floor(255 × coh), coh a power over the chains' count and the sum of their phasors' squares. -/
def bearCoh (l : List BearIn) (power : Int) : Nat :=
  let energy := l.foldl (fun a e => a + e.i * e.i + e.q * e.q) 0
  min 255 (255 * power / (bearOne * (l.length : Int) * energy)).toNat

/-- The estimate of R169 with the flags of R170: grid, maximum, refinement, angles and coherence. -/
def bearing (l : List BearIn) (khz fov : Nat) : Bearing :=
  let g := bearGrid l khz fov
  let m := bearPeak g
  let b := fun (i j : Int) => bearPower l khz (65536 * i) (65536 * j)
  let u := 65536 * m.1 + bearVertex (b (m.1 - 1) m.2.1) m.2.2 (b (m.1 + 1) m.2.1)
  let v := 65536 * m.2.1 + bearVertex (b m.1 (m.2.1 - 1)) m.2.2 (b m.1 (m.2.1 + 1))
  let el : Int := 9000 - (angleSteps (bearBelow u v) 15 0 : Int)
  { az := if 8800 < el then 0 else bearAtan v u, el := el, ambig := bearAmbig g m, edge := bearEdge fov m
    coh := bearCoh l (bearPower l khz u v) }

end Sys2Proof.Machine
end

