-- ==== Sys2Proof/Machine/Tab.lean ====
section
/-! DEFINITION. Sparse tables: a list of (key, value) pairs with keys strictly rising and no entry equal
to the default that an unlisted key reads as. Memories, the register field file and the numbered tables of
the blocks are all held in this one form, so that equal contents are equal data. -/

namespace Sys2Proof.Machine

/-- A sparse table from a numeric key to a value. -/
abbrev Tab (α : Type) := List (Nat × α)

/-- The value at key `k`; `d` where the table lists nothing. -/
def Tab.get {α : Type} (d : α) (t : Tab α) (k : Nat) : α :=
  match t with
  | [] => d
  | (j, v) :: r => if j = k then v else Tab.get d r k

/-- The table without any entry at key `k`. -/
def Tab.erase {α : Type} (t : Tab α) (k : Nat) : Tab α :=
  match t with
  | [] => []
  | (j, v) :: r => if j = k then Tab.erase r k else (j, v) :: Tab.erase r k

/-- The entry `(k, v)` put in its place before the first key that is not below `k`. -/
def Tab.ins {α : Type} (t : Tab α) (k : Nat) (v : α) : Tab α :=
  match t with
  | [] => [(k, v)]
  | (j, w) :: r => if k ≤ j then (k, v) :: (j, w) :: r else (j, w) :: Tab.ins r k v

/-- The table with key `k` reading as `v`: writing the default removes the entry. -/
def Tab.set {α : Type} [DecidableEq α] (d : α) (t : Tab α) (k : Nat) (v : α) : Tab α :=
  if v = d then Tab.erase t k else Tab.ins (Tab.erase t k) k v

/-- The canonical form, as a check that can be run: keys strictly rising, no entry equal to `d`. -/
def Tab.wf {α : Type} [DecidableEq α] (d : α) (t : Tab α) : Bool :=
  match t with
  | [] => true
  | (j, v) :: r => !(decide (v = d)) && (r.all fun p => decide (j < p.1)) && Tab.wf d r

/-- Keys strictly rising, as a check that can be run. -/
def Tab.rising {α : Type} (t : Tab α) : Bool :=
  match t with
  | [] => true
  | e :: r => (r.all fun p => decide (e.1 < p.1)) && Tab.rising r

/-- The table with every entry whose key satisfies `p` removed (those keys read as the default again). -/
def Tab.clear {α : Type} (p : Nat → Bool) (t : Tab α) : Tab α := t.filter fun e => !(p e.1)

/-- The table changed at `k` by a function of the value there. -/
def Tab.upd {α : Type} [DecidableEq α] (d : α) (t : Tab α) (k : Nat) (g : α → α) : Tab α :=
  Tab.set d t k (g (Tab.get d t k))

end Sys2Proof.Machine
end

