-- ==== Sys2Proof/Machine/Field.lean ====
section
/-! DEFINITION. What a register field is: its address, its place in the word, its type code (R10), its reset domain
(R25) and its reset value, as one row of a register table of the spec. -/

namespace Sys2Proof.Machine

/-- The type codes of R10: RO, RW, RC (cleared by a read), WP (a write acts once), RWV (three voted copies, R443)
and BW (RW with byte-lane writes, R437). -/
inductive Acc where
  | ro | rw | rc | wp | rwv | bw
  deriving DecidableEq, Repr

/-- The reset domains of R25 that a register line names: WARM, COLD, LSn. -/
inductive Dom where
  | warm | cold | ls
  deriving DecidableEq, Repr

/-- One field of one register of the spec's register tables. `addr` is the address of instance 0, `stride` and
`count` lay out the instances, `hi` and `lo` are the field's bits, `aon` says that software sees it through the
AON copy (type AC, R441), `reset` is the reset value and `resets` the reset values of the instances where the table
gives each its own. -/
structure Fld where
  addr : Nat
  stride : Nat
  count : Nat
  hi : Nat
  lo : Nat
  acc : Acc
  dom : Dom
  aon : Bool
  reset : Nat
  resets : List Nat
  deriving DecidableEq, Repr

/-- The width of a field in bits. -/
def Fld.width (f : Fld) : Nat := f.hi + 1 - f.lo

/-- The address of instance `n` of the field's register. -/
def Fld.at (f : Fld) (n : Nat) : Nat := f.addr + n * f.stride

/-- The key of instance `n` of a field in the register field file: its register's address and its lowest bit. -/
def Fld.key (f : Fld) (n : Nat) : Nat := f.at n * 32 + f.lo

/-- The reset value of instance `n` of a field. -/
def Fld.rst (f : Fld) (n : Nat) : Nat := f.resets.getD n f.reset

end Sys2Proof.Machine
end

