-- ==== Sys2Proof/Machine/RegsNode.lean ====
section
/-! DEFINITION. The register fields of HFR, HFT, LUM, MPT, GRN and HLK, one constant per row of the register tables
of the spec (address, stride, instances, high bit, low bit, type code, reset domain, AON copy, reset value). -/

namespace Sys2Proof.Machine

/-- R301 ID [31:16] RO: block code -/
def HFR.ID_BLOCK : Fld := ⟨0x400D0000, 0x0, 1, 31, 16, .ro, .warm, false, 13, []⟩
/-- R301 ID [15:0] RO: block revision -/
def HFR.ID_REV : Fld := ⟨0x400D0000, 0x0, 1, 15, 0, .ro, .warm, false, 256, []⟩
/-- R301 CTRL [2:2] RW: Gleaner enable (R295) -/
def HFR.CTRL_GL_EN : Fld := ⟨0x400D0004, 0x0, 1, 2, 2, .rw, .warm, false, 0, []⟩
/-- R301 CTRL [1:1] RW: R281 -/
def HFR.CTRL_TAG_PRIO : Fld := ⟨0x400D0004, 0x0, 1, 1, 1, .rw, .warm, false, 1, []⟩
/-- R301 CTRL [0:0] RW: reader enable; while 0, HF_CMD GO is refused with RADIO_OFF -/
def HFR.CTRL_EN : Fld := ⟨0x400D0004, 0x0, 1, 0, 0, .rw, .warm, false, 0, []⟩
/-- R301 STATE [20:20] AC: commissioning tag reports a field -/
def HFR.STATE_TAG_FIELD : Fld := ⟨0x400D0008, 0x0, 1, 20, 20, .ro, .warm, true, 0, []⟩
/-- R301 STATE [18:16] RO: 0 OFF, 1 ARMED, 2 WOKEN -/
def HFR.STATE_GL_STATE : Fld := ⟨0x400D0008, 0x0, 1, 18, 16, .ro, .warm, false, 0, []⟩
/-- R301 STATE [11:8] RO: R279 -/
def HFR.STATE_LAST_ERR : Fld := ⟨0x400D0008, 0x0, 1, 11, 8, .ro, .warm, false, 0, []⟩
/-- R301 STATE [4:4] RO: field present -/
def HFR.STATE_FIELD : Fld := ⟨0x400D0008, 0x0, 1, 4, 4, .ro, .warm, false, 0, []⟩
/-- R301 STATE [3:3] RO: HFSYN locked -/
def HFR.STATE_SYN_LOCK : Fld := ⟨0x400D0008, 0x0, 1, 3, 3, .ro, .warm, false, 0, []⟩
/-- R301 STATE [2:0] RO: R279 -/
def HFR.STATE_STATE : Fld := ⟨0x400D0008, 0x0, 1, 2, 0, .ro, .warm, false, 0, []⟩
/-- R301 STATUS [9:9] RC: a write was ignored -/
def HFR.STATUS_CMD_ERR : Fld := ⟨0x400D000C, 0x0, 1, 9, 9, .rc, .warm, false, 0, []⟩
/-- R301 STATUS [8:8] RC: a counter saturated -/
def HFR.STATUS_SAT : Fld := ⟨0x400D000C, 0x0, 1, 8, 8, .rc, .warm, false, 0, []⟩
/-- R301 STATUS [7:7] RC: field dropped by RF kill -/
def HFR.STATUS_KILLED : Fld := ⟨0x400D000C, 0x0, 1, 7, 7, .rc, .warm, false, 0, []⟩
/-- R301 STATUS [6:6] RC: PA_FAULT -/
def HFR.STATUS_DRV_FAULT : Fld := ⟨0x400D000C, 0x0, 1, 6, 6, .rc, .warm, false, 0, []⟩
/-- R301 STATUS [5:5] RC: R281 -/
def HFR.STATUS_TAG_BLOCK : Fld := ⟨0x400D000C, 0x0, 1, 5, 5, .rc, .warm, false, 0, []⟩
/-- R301 STATUS [4:4] RC: R296 -/
def HFR.STATUS_GL_WAKE : Fld := ⟨0x400D000C, 0x0, 1, 4, 4, .rc, .warm, false, 0, []⟩
/-- R301 STATUS [3:3] RC: R288 -/
def HFR.STATUS_WTX_LIMIT : Fld := ⟨0x400D000C, 0x0, 1, 3, 3, .rc, .warm, false, 0, []⟩
/-- R301 STATUS [2:2] RC: R289 -/
def HFR.STATUS_CEILING : Fld := ⟨0x400D000C, 0x0, 1, 2, 2, .rc, .warm, false, 0, []⟩
/-- R301 STATUS [1:1] RC: decision with HERR ≠ 0 or CRC_OK = 0 -/
def HFR.STATUS_FRAME_ERR : Fld := ⟨0x400D000C, 0x0, 1, 1, 1, .rc, .warm, false, 0, []⟩
/-- R301 STATUS [0:0] RC: decision made -/
def HFR.STATUS_FRAME_DONE : Fld := ⟨0x400D000C, 0x0, 1, 0, 0, .rc, .warm, false, 0, []⟩
/-- R301 DRV [12:8] RW: 10 % ASK index, 5 % + code × 1 % (R282) -/
def HFR.DRV_DEPTH : Fld := ⟨0x400D0010, 0x0, 1, 12, 8, .rw, .warm, false, 6, []⟩
/-- R301 DRV [4:0] RW: field output, 1.0 W less 0.5 dB × code -/
def HFR.DRV_LEVEL : Fld := ⟨0x400D0010, 0x0, 1, 4, 0, .rw, .warm, false, 6, []⟩
/-- R301 DRV_MON [31:16] RO: driver temperature, signed, 0.125 °C -/
def HFR.DRV_MON_TEMP : Fld := ⟨0x400D0014, 0x0, 1, 31, 16, .ro, .warm, false, 0, []⟩
/-- R301 DRV_MON [15:0] RO: driver current, mA -/
def HFR.DRV_MON_CURRENT : Fld := ⟨0x400D0014, 0x0, 1, 15, 0, .ro, .warm, false, 0, []⟩
/-- R301 SYN [15:0] RW: signed carrier offset, Hz, clamped to ±7,000 -/
def HFR.SYN_OFS_HZ : Fld := ⟨0x400D0018, 0x0, 1, 15, 0, .rw, .warm, false, 0, []⟩
/-- R301 WAIT_CFG [23:16] RW: S(WTX) answers per exchange; 0 answers none -/
def HFR.WAIT_CFG_WTX_MAX : Fld := ⟨0x400D001C, 0x0, 1, 23, 16, .rw, .warm, false, 16, []⟩
/-- R301 WAIT_CFG [15:0] RW: wait ceiling, ms; 0 acts as 1 (R289) -/
def HFR.WAIT_CFG_CEIL_MS : Fld := ⟨0x400D001C, 0x0, 1, 15, 0, .rw, .warm, false, 1000, []⟩
/-- R301 RX_CFG [15:8] RO: Fulling receive-threshold trim, signed -/
def HFR.RX_CFG_THR_TRIM : Fld := ⟨0x400D0020, 0x0, 1, 15, 8, .ro, .warm, false, 0, []⟩
/-- R301 RX_CFG [1:0] RW: receive gain, 0 to 3, 6 dB steps -/
def HFR.RX_CFG_GAIN : Fld := ⟨0x400D0020, 0x0, 1, 1, 0, .rw, .warm, false, 2, []⟩
/-- R301 FT_ADDR [7:0] RW: entry × 4 + word; increments modulo 256 after each FT_DATA access -/
def HFR.FT_ADDR_WADDR : Fld := ⟨0x400D0024, 0x0, 1, 7, 0, .rw, .warm, false, 0, []⟩
/-- R301 FT_DATA [31:0] RW: entry word at WADDR, little-endian per R284; ignored under lease -/
def HFR.FT_DATA_DATA : Fld := ⟨0x400D0028, 0x0, 1, 31, 0, .rw, .warm, false, 0, []⟩
/-- R301 LAST_RX [23:16] RO: S(WTX) answered in the last exchange -/
def HFR.LAST_RX_WTXN : Fld := ⟨0x400D002C, 0x0, 1, 23, 16, .ro, .warm, false, 0, []⟩
/-- R301 LAST_RX [15:0] RO: last reply level, signed, 1/16 dBm -/
def HFR.LAST_RX_RSSI : Fld := ⟨0x400D002C, 0x0, 1, 15, 0, .ro, .warm, false, 0, []⟩
/-- R301 FDT_MEAS [23:0] RO: end of frame to first reply modulation, carrier cycles -/
def HFR.FDT_MEAS_CYCLES : Fld := ⟨0x400D0030, 0x0, 1, 23, 0, .ro, .warm, false, 0, []⟩
/-- R301 GL_CFG [23:16] RW: baseline time constant, s; 0 acts as 1 -/
def HFR.GL_CFG_TAU : Fld := ⟨0x400D0034, 0x0, 1, 23, 16, .rw, .warm, false, 60, []⟩
/-- R301 GL_CFG [13:12] RW: consecutive pings to wake, code + 1 -/
def HFR.GL_CFG_CONFIRM : Fld := ⟨0x400D0034, 0x0, 1, 13, 12, .rw, .warm, false, 1, []⟩
/-- R301 GL_CFG [6:0] RW: ping period, 10 ms units, clamped to 10 to 100 -/
def HFR.GL_CFG_PERIOD : Fld := ⟨0x400D0034, 0x0, 1, 6, 0, .rw, .warm, false, 25, []⟩
/-- R301 GL_THR [23:16] RW: blanking after a coupled carrier, ms -/
def HFR.GL_THR_FREEZE_HOLD : Fld := ⟨0x400D0038, 0x0, 1, 23, 16, .rw, .warm, false, 20, []⟩
/-- R301 GL_THR [15:8] RW: phase threshold, 0.1° -/
def HFR.GL_THR_PH_THR : Fld := ⟨0x400D0038, 0x0, 1, 15, 8, .rw, .warm, false, 20, []⟩
/-- R301 GL_THR [7:0] RW: amplitude threshold, 0.05 dB -/
def HFR.GL_THR_AMP_THR : Fld := ⟨0x400D0038, 0x0, 1, 7, 0, .rw, .warm, false, 10, []⟩
/-- R301 GL_CMD [3:3] WP: R297 -/
def HFR.GL_CMD_STOP : Fld := ⟨0x400D003C, 0x0, 1, 3, 3, .wp, .warm, false, 0, []⟩
/-- R301 GL_CMD [2:2] WP: R297 -/
def HFR.GL_CMD_REBASE : Fld := ⟨0x400D003C, 0x0, 1, 2, 2, .wp, .warm, false, 0, []⟩
/-- R301 GL_CMD [1:1] WP: R297 -/
def HFR.GL_CMD_RESUME : Fld := ⟨0x400D003C, 0x0, 1, 1, 1, .wp, .warm, false, 0, []⟩
/-- R301 GL_CMD [0:0] WP: R297 -/
def HFR.GL_CMD_ARM : Fld := ⟨0x400D003C, 0x0, 1, 0, 0, .wp, .warm, false, 0, []⟩
/-- R301 GL_MEAS [31:16] RO: signed, 0.01° -/
def HFR.GL_MEAS_PHASE : Fld := ⟨0x400D0040, 0x0, 1, 31, 16, .ro, .warm, false, 0, []⟩
/-- R301 GL_MEAS [15:0] RO: signed, 0.01 dB; GL_MEAS: last ping; GL_BASE: baseline -/
def HFR.GL_MEAS_AMP : Fld := ⟨0x400D0040, 0x0, 1, 15, 0, .ro, .warm, false, 0, []⟩
/-- R301 GL_BASE [31:16] RO: signed, 0.01° -/
def HFR.GL_BASE_PHASE : Fld := ⟨0x400D0044, 0x0, 1, 31, 16, .ro, .warm, false, 0, []⟩
/-- R301 GL_BASE [15:0] RO: signed, 0.01 dB; GL_MEAS: last ping; GL_BASE: baseline -/
def HFR.GL_BASE_AMP : Fld := ⟨0x400D0044, 0x0, 1, 15, 0, .ro, .warm, false, 0, []⟩
/-- R301 COUPLING [4:4] RW: R298 -/
def HFR.COUPLING_TAG : Fld := ⟨0x400D0048, 0x0, 1, 4, 4, .rw, .warm, false, 1, []⟩
/-- R301 COUPLING [3:0] RW: UTX3 to UTX0 (R298) -/
def HFR.COUPLING_UTX : Fld := ⟨0x400D0048, 0x0, 1, 3, 0, .rw, .warm, false, 15, []⟩
/-- R301 CNT_FRAME [31:0] RW: decisions; FRAME_ERR decisions; S(WTX) answers; pings taken; wakes; pings blanked or skipped; saturating -/
def HFR.CNT_FRAME_COUNT : Fld := ⟨0x400D004C, 0x0, 1, 31, 0, .rw, .warm, false, 0, []⟩
/-- R301 CNT_ERR [31:0] RW: decisions; FRAME_ERR decisions; S(WTX) answers; pings taken; wakes; pings blanked or skipped; saturating -/
def HFR.CNT_ERR_COUNT : Fld := ⟨0x400D0050, 0x0, 1, 31, 0, .rw, .warm, false, 0, []⟩
/-- R301 CNT_WTX [31:0] RW: decisions; FRAME_ERR decisions; S(WTX) answers; pings taken; wakes; pings blanked or skipped; saturating -/
def HFR.CNT_WTX_COUNT : Fld := ⟨0x400D0054, 0x0, 1, 31, 0, .rw, .warm, false, 0, []⟩
/-- R301 CNT_PING [31:0] RW: decisions; FRAME_ERR decisions; S(WTX) answers; pings taken; wakes; pings blanked or skipped; saturating -/
def HFR.CNT_PING_COUNT : Fld := ⟨0x400D0058, 0x0, 1, 31, 0, .rw, .warm, false, 0, []⟩
/-- R301 CNT_WAKE [31:0] RW: decisions; FRAME_ERR decisions; S(WTX) answers; pings taken; wakes; pings blanked or skipped; saturating -/
def HFR.CNT_WAKE_COUNT : Fld := ⟨0x400D005C, 0x0, 1, 31, 0, .rw, .warm, false, 0, []⟩
/-- R301 CNT_BLANK [31:0] RW: decisions; FRAME_ERR decisions; S(WTX) answers; pings taken; wakes; pings blanked or skipped; saturating -/
def HFR.CNT_BLANK_COUNT : Fld := ⟨0x400D0060, 0x0, 1, 31, 0, .rw, .warm, false, 0, []⟩
/-- R301 HSEQ [15:0] RO: advances by one per decision and wraps; read before and after LAST_RX and FDT_MEAS for a coherent set -/
def HFR.HSEQ_SEQ : Fld := ⟨0x400D0064, 0x0, 1, 15, 0, .ro, .warm, false, 0, []⟩

/-- The fields of HFR, part 0. -/
def HFR.fields0 : List Fld := [HFR.ID_BLOCK, HFR.ID_REV, HFR.CTRL_GL_EN, HFR.CTRL_TAG_PRIO, HFR.CTRL_EN, HFR.STATE_TAG_FIELD, HFR.STATE_GL_STATE, HFR.STATE_LAST_ERR, HFR.STATE_FIELD, HFR.STATE_SYN_LOCK, HFR.STATE_STATE, HFR.STATUS_CMD_ERR, HFR.STATUS_SAT, HFR.STATUS_KILLED, HFR.STATUS_DRV_FAULT, HFR.STATUS_TAG_BLOCK, HFR.STATUS_GL_WAKE, HFR.STATUS_WTX_LIMIT, HFR.STATUS_CEILING, HFR.STATUS_FRAME_ERR, HFR.STATUS_FRAME_DONE, HFR.DRV_DEPTH, HFR.DRV_LEVEL, HFR.DRV_MON_TEMP, HFR.DRV_MON_CURRENT, HFR.SYN_OFS_HZ, HFR.WAIT_CFG_WTX_MAX, HFR.WAIT_CFG_CEIL_MS, HFR.RX_CFG_THR_TRIM, HFR.RX_CFG_GAIN, HFR.FT_ADDR_WADDR, HFR.FT_DATA_DATA, HFR.LAST_RX_WTXN, HFR.LAST_RX_RSSI, HFR.FDT_MEAS_CYCLES, HFR.GL_CFG_TAU, HFR.GL_CFG_CONFIRM, HFR.GL_CFG_PERIOD, HFR.GL_THR_FREEZE_HOLD, HFR.GL_THR_PH_THR]
/-- The fields of HFR, part 1. -/
def HFR.fields1 : List Fld := [HFR.GL_THR_AMP_THR, HFR.GL_CMD_STOP, HFR.GL_CMD_REBASE, HFR.GL_CMD_RESUME, HFR.GL_CMD_ARM, HFR.GL_MEAS_PHASE, HFR.GL_MEAS_AMP, HFR.GL_BASE_PHASE, HFR.GL_BASE_AMP, HFR.COUPLING_TAG, HFR.COUPLING_UTX, HFR.CNT_FRAME_COUNT, HFR.CNT_ERR_COUNT, HFR.CNT_WTX_COUNT, HFR.CNT_PING_COUNT, HFR.CNT_WAKE_COUNT, HFR.CNT_BLANK_COUNT, HFR.HSEQ_SEQ]
/-- Every field of the register tables of HFR. -/
def HFR.fields : List Fld := HFR.fields0 ++ HFR.fields1

/-- R333 ID [31:16] RO: block code -/
def HFT.ID_BLOCK : Fld := ⟨0x400E0000, 0x0, 1, 31, 16, .ro, .cold, false, 14, []⟩
/-- R333 ID [15:0] RO: block revision -/
def HFT.ID_REV : Fld := ⟨0x400E0000, 0x0, 1, 15, 0, .ro, .cold, false, 256, []⟩
/-- R333 CTRL [2:1] RW: R331; 3 acts as 0 -/
def HFT.CTRL_PASS : Fld := ⟨0x400E0004, 0x0, 1, 2, 1, .rw, .cold, false, 0, []⟩
/-- R333 CTRL [0:0] RW: 0 detunes the tag; loaded from MRAM at each AON power-up -/
def HFT.CTRL_EN : Fld := ⟨0x400E0004, 0x0, 1, 0, 0, .rw, .cold, false, 1, []⟩
/-- R333 STATE [27:24] AC: R317 -/
def HFT.STATE_FAILS : Fld := ⟨0x400E0008, 0x0, 1, 27, 24, .ro, .cold, true, 0, []⟩
/-- R333 STATE [23:23] AC: R317 -/
def HFT.STATE_LOCKOUT : Fld := ⟨0x400E0008, 0x0, 1, 23, 23, .ro, .cold, true, 0, []⟩
/-- R333 STATE [22:22] AC: R310 -/
def HFT.STATE_HARV_LOW : Fld := ⟨0x400E0008, 0x0, 1, 22, 22, .ro, .cold, true, 0, []⟩
/-- R333 STATE [21:21] AC: held by the self-field guard (R281) -/
def HFT.STATE_GUARD : Fld := ⟨0x400E0008, 0x0, 1, 21, 21, .ro, .cold, true, 0, []⟩
/-- R333 STATE [20:20] AC: field present -/
def HFT.STATE_FIELD : Fld := ⟨0x400E0008, 0x0, 1, 20, 20, .ro, .cold, true, 0, []⟩
/-- R333 STATE [19:19] AC: AON supplied from the line -/
def HFT.STATE_LINE : Fld := ⟨0x400E0008, 0x0, 1, 19, 19, .ro, .cold, true, 0, []⟩
/-- R333 STATE [3:0] AC: R313 -/
def HFT.STATE_TSTATE : Fld := ⟨0x400E0008, 0x0, 1, 3, 0, .ro, .cold, true, 0, []⟩
/-- R333 STATUS [9:9] RC, AC: a counter saturated -/
def HFT.STATUS_SAT : Fld := ⟨0x400E000C, 0x0, 1, 9, 9, .rc, .cold, true, 0, []⟩
/-- R333 STATUS [8:8] RC, AC: R327 -/
def HFT.STATUS_RECOV_FAIL : Fld := ⟨0x400E000C, 0x0, 1, 8, 8, .rc, .cold, true, 0, []⟩
/-- R333 STATUS [7:7] RC, AC: recovery acted (RECOV) -/
def HFT.STATUS_RECOVERED : Fld := ⟨0x400E000C, 0x0, 1, 7, 7, .rc, .cold, true, 0, []⟩
/-- R333 STATUS [6:6] RC, AC: lockout began -/
def HFT.STATUS_LOCKOUT : Fld := ⟨0x400E000C, 0x0, 1, 6, 6, .rc, .cold, true, 0, []⟩
/-- R333 STATUS [5:5] RC, AC: a failure was counted -/
def HFT.STATUS_AUTH_FAIL : Fld := ⟨0x400E000C, 0x0, 1, 5, 5, .rc, .cold, true, 0, []⟩
/-- R333 STATUS [4:4] RC, AC: APDU in PBUF -/
def HFT.STATUS_PASS_REQ : Fld := ⟨0x400E000C, 0x0, 1, 4, 4, .rc, .cold, true, 0, []⟩
/-- R333 STATUS [3:3] RC, AC: wired grant given -/
def HFT.STATUS_WGRANT : Fld := ⟨0x400E000C, 0x0, 1, 3, 3, .rc, .cold, true, 0, []⟩
/-- R333 STATUS [2:2] RC, AC: a commit completed, either side -/
def HFT.STATUS_COMMITTED : Fld := ⟨0x400E000C, 0x0, 1, 2, 2, .rc, .cold, true, 0, []⟩
/-- R333 STATUS [1:1] RC, AC: field lost -/
def HFT.STATUS_FIELD_OFF : Fld := ⟨0x400E000C, 0x0, 1, 1, 1, .rc, .cold, true, 0, []⟩
/-- R333 STATUS [0:0] RC, AC: field appeared -/
def HFT.STATUS_FIELD_ON : Fld := ⟨0x400E000C, 0x0, 1, 0, 0, .rc, .cold, true, 0, []⟩
/-- R333 WCMD [31:31] WP: start (R329) -/
def HFT.WCMD_GO : Fld := ⟨0x400E0010, 0x0, 1, 31, 31, .wp, .cold, false, 0, []⟩
/-- R333 WCMD [30:30] RW: BUSY instead of waiting -/
def HFT.WCMD_NOWAIT : Fld := ⟨0x400E0010, 0x0, 1, 30, 30, .rw, .cold, false, 0, []⟩
/-- R333 WCMD [29:28] RW: 1 READ, 2 WRITE; 0 and 3 give BAD_OP -/
def HFT.WCMD_OP : Fld := ⟨0x400E0010, 0x0, 1, 29, 28, .rw, .cold, false, 0, []⟩
/-- R333 WCMD [7:0] RW: record number -/
def HFT.WCMD_RECORD : Fld := ⟨0x400E0010, 0x0, 1, 7, 0, .rw, .cold, false, 0, []⟩
/-- R333 WSTAT [31:31] AC: operation in progress -/
def HFT.WSTAT_PENDING : Fld := ⟨0x400E0014, 0x0, 1, 31, 31, .ro, .cold, true, 0, []⟩
/-- R333 WSTAT [27:24] AC: 0 OK, 1 BUSY, 2 DENIED, 3 BAD_OP, 4 MEM_FAIL -/
def HFT.WSTAT_RESULT : Fld := ⟨0x400E0014, 0x0, 1, 27, 24, .ro, .cold, true, 0, []⟩
/-- R333 WSTAT [23:16] AC: record of the last operation -/
def HFT.WSTAT_RECORD : Fld := ⟨0x400E0014, 0x0, 1, 23, 16, .ro, .cold, true, 0, []⟩
/-- R333 WSTAT [15:0] AC: its generation afterwards -/
def HFT.WSTAT_GEN : Fld := ⟨0x400E0014, 0x0, 1, 15, 0, .ro, .cold, true, 0, []⟩
/-- R333 HARV [31:16] AC: VHARV, mV -/
def HFT.HARV_VHARV : Fld := ⟨0x400E0018, 0x0, 1, 31, 16, .ro, .cold, true, 0, []⟩
/-- R333 HARV [15:0] AC: harvest left for an external load, µA -/
def HFT.HARV_AVAIL : Fld := ⟨0x400E0018, 0x0, 1, 15, 0, .ro, .cold, true, 0, []⟩
/-- R333 RECOV [15:8] AC: record or counter acted on -/
def HFT.RECOV_RECORD : Fld := ⟨0x400E001C, 0x0, 1, 15, 8, .ro, .cold, true, 0, []⟩
/-- R333 RECOV [2:0] AC: 0 none, 1 rolled back, 2 rolled forward, 3 marker cleared, 4 counter repaired, 5 failed -/
def HFT.RECOV_ACTION : Fld := ⟨0x400E001C, 0x0, 1, 2, 0, .ro, .cold, true, 0, []⟩
/-- R333 PCMD [31:31] WP: send RLEN bytes of PBUF -/
def HFT.PCMD_RESPOND : Fld := ⟨0x400E0020, 0x0, 1, 31, 31, .wp, .cold, false, 0, []⟩
/-- R333 PCMD [30:30] WP: answer 0x6D00 -/
def HFT.PCMD_REJECT : Fld := ⟨0x400E0020, 0x0, 1, 30, 30, .wp, .cold, false, 0, []⟩
/-- R333 PCMD [8:0] RW: response bytes including SW, 2 to 258; a RESPOND with any other value is ignored (R331) -/
def HFT.PCMD_RLEN : Fld := ⟨0x400E0020, 0x0, 1, 8, 0, .rw, .cold, false, 0, []⟩
/-- R333 PSTAT [31:31] AC: APDU awaits an answer -/
def HFT.PSTAT_PENDING : Fld := ⟨0x400E0024, 0x0, 1, 31, 31, .ro, .cold, true, 0, []⟩
/-- R333 PSTAT [8:0] AC: C-APDU bytes in PBUF -/
def HFT.PSTAT_CLEN : Fld := ⟨0x400E0024, 0x0, 1, 8, 0, .ro, .cold, true, 0, []⟩
/-- R333 MONO [23:0] AC: counter value (R322) -/
def HFT.MONO_VALUE : Fld := ⟨0x400E0028, 0x4, 4, 23, 0, .ro, .cold, true, 0, []⟩
/-- R333 UID_LO [31:0] RO:  -/
def HFT.UID_LO_UID : Fld := ⟨0x400E0038, 0x0, 1, 31, 0, .ro, .cold, false, 0, []⟩
/-- R333 UID_HI [23:0] RO:  -/
def HFT.UID_HI_UID : Fld := ⟨0x400E003C, 0x0, 1, 23, 0, .ro, .cold, false, 0, []⟩
/-- R333 CNT_CMD [31:0] RW: APDUs processed; failures counted; commits; saturating -/
def HFT.CNT_CMD_COUNT : Fld := ⟨0x400E0040, 0x0, 1, 31, 0, .rw, .cold, false, 0, []⟩
/-- R333 CNT_AUTHFAIL [31:0] RW: APDUs processed; failures counted; commits; saturating -/
def HFT.CNT_AUTHFAIL_COUNT : Fld := ⟨0x400E0044, 0x0, 1, 31, 0, .rw, .cold, false, 0, []⟩
/-- R333 CNT_COMMIT [31:0] RW: APDUs processed; failures counted; commits; saturating -/
def HFT.CNT_COMMIT_COUNT : Fld := ⟨0x400E0048, 0x0, 1, 31, 0, .rw, .cold, false, 0, []⟩
/-- R333 WBUF [31:0] RW, BW: WBUF: record data (R329), bytes 0–247; PBUF: 512 bytes, APDU in, response out (R331) -/
def HFT.WBUF_DATA : Fld := ⟨0x400E0100, 0x4, 64, 31, 0, .bw, .cold, false, 0, []⟩
/-- R333 PBUF [31:0] RW, BW: WBUF: record data (R329), bytes 0–247; PBUF: 512 bytes, APDU in, response out (R331) -/
def HFT.PBUF_DATA : Fld := ⟨0x400E0200, 0x4, 128, 31, 0, .bw, .cold, false, 0, []⟩

/-- The fields of HFT, part 0. -/
def HFT.fields0 : List Fld := [HFT.ID_BLOCK, HFT.ID_REV, HFT.CTRL_PASS, HFT.CTRL_EN, HFT.STATE_FAILS, HFT.STATE_LOCKOUT, HFT.STATE_HARV_LOW, HFT.STATE_GUARD, HFT.STATE_FIELD, HFT.STATE_LINE, HFT.STATE_TSTATE, HFT.STATUS_SAT, HFT.STATUS_RECOV_FAIL, HFT.STATUS_RECOVERED, HFT.STATUS_LOCKOUT, HFT.STATUS_AUTH_FAIL, HFT.STATUS_PASS_REQ, HFT.STATUS_WGRANT, HFT.STATUS_COMMITTED, HFT.STATUS_FIELD_OFF, HFT.STATUS_FIELD_ON, HFT.WCMD_GO, HFT.WCMD_NOWAIT, HFT.WCMD_OP, HFT.WCMD_RECORD, HFT.WSTAT_PENDING, HFT.WSTAT_RESULT, HFT.WSTAT_RECORD, HFT.WSTAT_GEN, HFT.HARV_VHARV, HFT.HARV_AVAIL, HFT.RECOV_RECORD, HFT.RECOV_ACTION, HFT.PCMD_RESPOND, HFT.PCMD_REJECT, HFT.PCMD_RLEN, HFT.PSTAT_PENDING, HFT.PSTAT_CLEN, HFT.MONO_VALUE, HFT.UID_LO_UID]
/-- The fields of HFT, part 1. -/
def HFT.fields1 : List Fld := [HFT.UID_HI_UID, HFT.CNT_CMD_COUNT, HFT.CNT_AUTHFAIL_COUNT, HFT.CNT_COMMIT_COUNT, HFT.WBUF_DATA, HFT.PBUF_DATA]
/-- Every field of the register tables of HFT. -/
def HFT.fields : List Fld := HFT.fields0 ++ HFT.fields1

/-- R352 ID [31:16] RO: block code -/
def LUM.ID_BLOCK : Fld := ⟨0x400F0000, 0x0, 1, 31, 16, .ro, .warm, false, 15, []⟩
/-- R352 ID [15:0] RO: block revision -/
def LUM.ID_REV : Fld := ⟨0x400F0000, 0x0, 1, 15, 0, .ro, .warm, false, 256, []⟩
/-- R352 CTRL [3:3] RW: R339 -/
def LUM.CTRL_AUTO_DAPC : Fld := ⟨0x400F0004, 0x0, 1, 3, 3, .rw, .warm, false, 0, []⟩
/-- R352 CTRL [2:0] RW: DALI, DAC, PWM -/
def LUM.CTRL_OUT_EN : Fld := ⟨0x400F0004, 0x0, 1, 2, 0, .rw, .warm, false, 1, []⟩
/-- R352 STATUS [7:7] RC: a counter saturated -/
def LUM.STATUS_SAT : Fld := ⟨0x400F0008, 0x0, 1, 7, 7, .rc, .warm, false, 0, []⟩
/-- R352 STATUS [6:6] RC: a write was ignored -/
def LUM.STATUS_CMD_ERR : Fld := ⟨0x400F0008, 0x0, 1, 6, 6, .rc, .warm, false, 0, []⟩
/-- R352 STATUS [5:5] RC: R344 -/
def LUM.STATUS_FS_ENGAGED : Fld := ⟨0x400F0008, 0x0, 1, 5, 5, .rc, .warm, false, 0, []⟩
/-- R352 STATUS [4:4] RC: R347 -/
def LUM.STATUS_MOTION : Fld := ⟨0x400F0008, 0x0, 1, 4, 4, .rc, .warm, false, 0, []⟩
/-- R352 STATUS [3:3] RC: result overwritten -/
def LUM.STATUS_PD_OVR : Fld := ⟨0x400F0008, 0x0, 1, 3, 3, .rc, .warm, false, 0, []⟩
/-- R352 STATUS [2:2] RC: new PD result -/
def LUM.STATUS_PD_RDY : Fld := ⟨0x400F0008, 0x0, 1, 2, 2, .rc, .warm, false, 0, []⟩
/-- R352 STATUS [1:1] RC: RESULT 3 -/
def LUM.STATUS_DALI_ERR : Fld := ⟨0x400F0008, 0x0, 1, 1, 1, .rc, .warm, false, 0, []⟩
/-- R352 STATUS [0:0] RC: frame finished -/
def LUM.STATUS_DALI_DONE : Fld := ⟨0x400F0008, 0x0, 1, 0, 0, .rc, .warm, false, 0, []⟩
/-- R352 LEVEL [31:16] RW: Q8.8 levels per ms -/
def LUM.LEVEL_FADE_RATE : Fld := ⟨0x400F000C, 0x0, 1, 31, 16, .rw, .warm, false, 256, []⟩
/-- R352 LEVEL [15:0] RW: Q8.8 level -/
def LUM.LEVEL_TARGET : Fld := ⟨0x400F000C, 0x0, 1, 15, 0, .rw, .warm, false, 0, []⟩
/-- R352 OUT [31:16] RO:  -/
def LUM.OUT_NOW : Fld := ⟨0x400F0010, 0x0, 1, 31, 16, .ro, .warm, false, 0, []⟩
/-- R352 OUT [15:0] RO:  -/
def LUM.OUT_PWM : Fld := ⟨0x400F0010, 0x0, 1, 15, 0, .ro, .warm, false, 0, []⟩
/-- R352 OUT_B [23:16] RO:  -/
def LUM.OUT_B_ARC : Fld := ⟨0x400F0014, 0x0, 1, 23, 16, .ro, .warm, false, 0, []⟩
/-- R352 OUT_B [11:0] RO:  -/
def LUM.OUT_B_DAC : Fld := ⟨0x400F0014, 0x0, 1, 11, 0, .ro, .warm, false, 0, []⟩
/-- R352 PWM_CFG [1:1] RW: invert DIM_PWM -/
def LUM.PWM_CFG_POL : Fld := ⟨0x400F0018, 0x0, 1, 1, 1, .rw, .warm, false, 0, []⟩
/-- R352 PWM_CFG [0:0] RW: R338 -/
def LUM.PWM_CFG_MODE : Fld := ⟨0x400F0018, 0x0, 1, 0, 0, .rw, .warm, false, 0, []⟩
/-- R352 CURVE_ADDR [8:0] RW:  -/
def LUM.CURVE_ADDR_ADDR : Fld := ⟨0x400F001C, 0x0, 1, 8, 0, .rw, .warm, false, 0, []⟩
/-- R352 CURVE_DATA [31:0] RW:  -/
def LUM.CURVE_DATA_DATA : Fld := ⟨0x400F0020, 0x0, 1, 31, 0, .rw, .warm, false, 0, []⟩
/-- R352 FS_LEVEL [27:16] RWV, AC: failsafe DAC code -/
def LUM.FS_LEVEL_FS_DAC : Fld := ⟨0x400F0024, 0x0, 1, 27, 16, .rwv, .cold, true, 4095, []⟩
/-- R352 FS_LEVEL [15:0] RWV, AC: failsafe duty -/
def LUM.FS_LEVEL_FS_PWM : Fld := ⟨0x400F0024, 0x0, 1, 15, 0, .rwv, .cold, true, 65535, []⟩
/-- R352 FS_CTRL [31:16] RW, AC: keepalive, ms; 0 disables -/
def LUM.FS_CTRL_KA_MS : Fld := ⟨0x400F0028, 0x0, 1, 31, 16, .rw, .cold, true, 1000, []⟩
/-- R352 FS_CTRL [4:4] WP: keepalive -/
def LUM.FS_CTRL_KICK : Fld := ⟨0x400F0028, 0x0, 1, 4, 4, .wp, .cold, false, 0, []⟩
/-- R352 FS_CTRL [3:3] RW, AC: R345 -/
def LUM.FS_CTRL_FS_DALI : Fld := ⟨0x400F0028, 0x0, 1, 3, 3, .rw, .cold, true, 1, []⟩
/-- R352 FS_CTRL [2:2] RW, AC: engage -/
def LUM.FS_CTRL_FORCE : Fld := ⟨0x400F0028, 0x0, 1, 2, 2, .rw, .cold, true, 0, []⟩
/-- R352 FS_CTRL [1:1] WP: disengage (R344) -/
def LUM.FS_CTRL_CLR : Fld := ⟨0x400F0028, 0x0, 1, 1, 1, .wp, .cold, false, 0, []⟩
/-- R352 FS_CTRL [0:0] AC: failsafe on the pins -/
def LUM.FS_CTRL_ENGAGED : Fld := ⟨0x400F0028, 0x0, 1, 0, 0, .ro, .cold, true, 1, []⟩
/-- R352 DALI_CFG [15:8] RW: automatic DAPC spacing, 10 ms -/
def LUM.DALI_CFG_GAP : Fld := ⟨0x400F002C, 0x0, 1, 15, 8, .rw, .warm, false, 10, []⟩
/-- R352 DALI_CFG [2:0] RW: settling priority 1 to 5; others act as 5 -/
def LUM.DALI_CFG_PRIO : Fld := ⟨0x400F002C, 0x0, 1, 2, 0, .rw, .warm, false, 1, []⟩
/-- R352 DALI_CMD [31:31] WP: send -/
def LUM.DALI_CMD_GO : Fld := ⟨0x400F0030, 0x0, 1, 31, 31, .wp, .warm, false, 0, []⟩
/-- R352 DALI_CMD [30:30] RW: send twice -/
def LUM.DALI_CMD_TWICE : Fld := ⟨0x400F0030, 0x0, 1, 30, 30, .rw, .warm, false, 0, []⟩
/-- R352 DALI_CMD [29:29] RW: await a backward frame -/
def LUM.DALI_CMD_EXPECT : Fld := ⟨0x400F0030, 0x0, 1, 29, 29, .rw, .warm, false, 0, []⟩
/-- R352 DALI_CMD [28:28] RW: 24-bit frame -/
def LUM.DALI_CMD_LEN24 : Fld := ⟨0x400F0030, 0x0, 1, 28, 28, .rw, .warm, false, 0, []⟩
/-- R352 DALI_CMD [23:0] RW: forward frame, right-aligned -/
def LUM.DALI_CMD_FRAME : Fld := ⟨0x400F0030, 0x0, 1, 23, 0, .rw, .warm, false, 0, []⟩
/-- R352 DALI_RX [31:30] RO: R342 -/
def LUM.DALI_RX_RESULT : Fld := ⟨0x400F0034, 0x0, 1, 31, 30, .ro, .warm, false, 0, []⟩
/-- R352 DALI_RX [29:29] RO: engine active -/
def LUM.DALI_RX_BUSY : Fld := ⟨0x400F0034, 0x0, 1, 29, 29, .ro, .warm, false, 0, []⟩
/-- R352 DALI_RX [28:28] RO: forward collision -/
def LUM.DALI_RX_COLLISION : Fld := ⟨0x400F0034, 0x0, 1, 28, 28, .ro, .warm, false, 0, []⟩
/-- R352 DALI_RX [7:0] RO: backward frame -/
def LUM.DALI_RX_DATA : Fld := ⟨0x400F0034, 0x0, 1, 7, 0, .ro, .warm, false, 0, []⟩
/-- R352 PD_CFG [7:7] RW: auto-range -/
def LUM.PD_CFG_AUTO : Fld := ⟨0x400F0038, 0x0, 1, 7, 7, .rw, .warm, false, 1, []⟩
/-- R352 PD_CFG [6:5] RW: forced range, 0 most sensitive -/
def LUM.PD_CFG_RANGE : Fld := ⟨0x400F0038, 0x0, 1, 6, 5, .rw, .warm, false, 0, []⟩
/-- R352 PD_CFG [4:4] RW: 0 cycle boundary, 1 angle event -/
def LUM.PD_CFG_TRIG : Fld := ⟨0x400F0038, 0x0, 1, 4, 4, .rw, .warm, false, 0, []⟩
/-- R352 PD_CFG [3:0] RW: cycles − 1 -/
def LUM.PD_CFG_INT : Fld := ⟨0x400F0038, 0x0, 1, 3, 0, .rw, .warm, false, 0, []⟩
/-- R352 PD_RES [31:30] RO: range used -/
def LUM.PD_RES_RANGE : Fld := ⟨0x400F003C, 0x0, 1, 31, 30, .ro, .warm, false, 0, []⟩
/-- R352 PD_RES [29:29] RO: R346 -/
def LUM.PD_RES_UNSYNC : Fld := ⟨0x400F003C, 0x0, 1, 29, 29, .ro, .warm, false, 0, []⟩
/-- R352 PD_RES [28:28] RO: ceiling reached -/
def LUM.PD_RES_CLIP : Fld := ⟨0x400F003C, 0x0, 1, 28, 28, .ro, .warm, false, 0, []⟩
/-- R352 PD_RES [23:0] RO: mean current, pA -/
def LUM.PD_RES_PA : Fld := ⟨0x400F003C, 0x0, 1, 23, 0, .ro, .warm, false, 0, []⟩
/-- R352 PIR_CFG [31:16] RW:  -/
def LUM.PIR_CFG_THR : Fld := ⟨0x400F0040, 0x0, 1, 31, 16, .rw, .warm, false, 2000, []⟩
/-- R352 PIR_CFG [15:8] RW:  -/
def LUM.PIR_CFG_PERSIST : Fld := ⟨0x400F0040, 0x0, 1, 15, 8, .rw, .warm, false, 3, []⟩
/-- R352 PIR_CFG [0:0] RW:  -/
def LUM.PIR_CFG_EN : Fld := ⟨0x400F0040, 0x0, 1, 0, 0, .rw, .warm, false, 1, []⟩
/-- R352 PIR_RES [15:0] RO:  -/
def LUM.PIR_RES_FILT : Fld := ⟨0x400F0044, 0x0, 1, 15, 0, .ro, .warm, false, 0, []⟩
/-- R352 CNT_MOTION [31:0] RW: motion events; DALI errors; failsafe engagements; automatic frames; PD results; saturating -/
def LUM.CNT_MOTION_COUNT : Fld := ⟨0x400F0048, 0x0, 1, 31, 0, .rw, .warm, false, 0, []⟩
/-- R352 CNT_DALI_ERR [31:0] RW: motion events; DALI errors; failsafe engagements; automatic frames; PD results; saturating -/
def LUM.CNT_DALI_ERR_COUNT : Fld := ⟨0x400F004C, 0x0, 1, 31, 0, .rw, .warm, false, 0, []⟩
/-- R352 CNT_FS [31:0] RW: motion events; DALI errors; failsafe engagements; automatic frames; PD results; saturating -/
def LUM.CNT_FS_COUNT : Fld := ⟨0x400F0050, 0x0, 1, 31, 0, .rw, .warm, false, 0, []⟩
/-- R352 CNT_DAPC [31:0] RW: motion events; DALI errors; failsafe engagements; automatic frames; PD results; saturating -/
def LUM.CNT_DAPC_COUNT : Fld := ⟨0x400F0054, 0x0, 1, 31, 0, .rw, .warm, false, 0, []⟩
/-- R352 CNT_PD [31:0] RW: motion events; DALI errors; failsafe engagements; automatic frames; PD results; saturating -/
def LUM.CNT_PD_COUNT : Fld := ⟨0x400F0058, 0x0, 1, 31, 0, .rw, .warm, false, 0, []⟩

/-- The fields of LUM, part 0. -/
def LUM.fields0 : List Fld := [LUM.ID_BLOCK, LUM.ID_REV, LUM.CTRL_AUTO_DAPC, LUM.CTRL_OUT_EN, LUM.STATUS_SAT, LUM.STATUS_CMD_ERR, LUM.STATUS_FS_ENGAGED, LUM.STATUS_MOTION, LUM.STATUS_PD_OVR, LUM.STATUS_PD_RDY, LUM.STATUS_DALI_ERR, LUM.STATUS_DALI_DONE, LUM.LEVEL_FADE_RATE, LUM.LEVEL_TARGET, LUM.OUT_NOW, LUM.OUT_PWM, LUM.OUT_B_ARC, LUM.OUT_B_DAC, LUM.PWM_CFG_POL, LUM.PWM_CFG_MODE, LUM.CURVE_ADDR_ADDR, LUM.CURVE_DATA_DATA, LUM.FS_LEVEL_FS_DAC, LUM.FS_LEVEL_FS_PWM, LUM.FS_CTRL_KA_MS, LUM.FS_CTRL_KICK, LUM.FS_CTRL_FS_DALI, LUM.FS_CTRL_FORCE, LUM.FS_CTRL_CLR, LUM.FS_CTRL_ENGAGED, LUM.DALI_CFG_GAP, LUM.DALI_CFG_PRIO, LUM.DALI_CMD_GO, LUM.DALI_CMD_TWICE, LUM.DALI_CMD_EXPECT, LUM.DALI_CMD_LEN24, LUM.DALI_CMD_FRAME, LUM.DALI_RX_RESULT, LUM.DALI_RX_BUSY, LUM.DALI_RX_COLLISION]
/-- The fields of LUM, part 1. -/
def LUM.fields1 : List Fld := [LUM.DALI_RX_DATA, LUM.PD_CFG_AUTO, LUM.PD_CFG_RANGE, LUM.PD_CFG_TRIG, LUM.PD_CFG_INT, LUM.PD_RES_RANGE, LUM.PD_RES_UNSYNC, LUM.PD_RES_CLIP, LUM.PD_RES_PA, LUM.PIR_CFG_THR, LUM.PIR_CFG_PERSIST, LUM.PIR_CFG_EN, LUM.PIR_RES_FILT, LUM.CNT_MOTION_COUNT, LUM.CNT_DALI_ERR_COUNT, LUM.CNT_FS_COUNT, LUM.CNT_DAPC_COUNT, LUM.CNT_PD_COUNT]
/-- Every field of the register tables of LUM. -/
def LUM.fields : List Fld := LUM.fields0 ++ LUM.fields1

/-- R380 ID [31:16] RO: block code -/
def MPT.ID_BLOCK : Fld := ⟨0x40100000, 0x0, 1, 31, 16, .ro, .warm, false, 16, []⟩
/-- R380 ID [15:0] RO: block revision -/
def MPT.ID_REV : Fld := ⟨0x40100000, 0x0, 1, 15, 0, .ro, .warm, false, 256, []⟩
/-- R380 CTRL [3:3] RW: MP_RESET_N level -/
def MPT.CTRL_RSTN : Fld := ⟨0x40100004, 0x0, 1, 3, 3, .rw, .warm, false, 0, []⟩
/-- R380 CTRL [2:2] RW: line cache -/
def MPT.CTRL_CACHE_EN : Fld := ⟨0x40100004, 0x0, 1, 2, 2, .rw, .warm, false, 1, []⟩
/-- R380 CTRL [1:1] RW: XIP window -/
def MPT.CTRL_XIP_EN : Fld := ⟨0x40100004, 0x0, 1, 1, 1, .rw, .warm, false, 0, []⟩
/-- R380 CTRL [0:0] RW: Memory Port -/
def MPT.CTRL_EN : Fld := ⟨0x40100004, 0x0, 1, 0, 0, .rw, .warm, false, 0, []⟩
/-- R380 STATUS [4:4] RC: a counter saturated -/
def MPT.STATUS_SAT : Fld := ⟨0x40100008, 0x0, 1, 4, 4, .rc, .warm, false, 0, []⟩
/-- R380 STATUS [3:3] RC: a write was ignored or refused -/
def MPT.STATUS_CMD_ERR : Fld := ⟨0x40100008, 0x0, 1, 3, 3, .rc, .warm, false, 0, []⟩
/-- R380 STATUS [2:2] RC: transaction or poll timeout -/
def MPT.STATUS_TMO : Fld := ⟨0x40100008, 0x0, 1, 2, 2, .rc, .warm, false, 0, []⟩
/-- R380 STATUS [1:1] RC: error; see LAST_ERR -/
def MPT.STATUS_ERR : Fld := ⟨0x40100008, 0x0, 1, 1, 1, .rc, .warm, false, 0, []⟩
/-- R380 STATUS [0:0] RC: indirect command complete -/
def MPT.STATUS_DONE : Fld := ⟨0x40100008, 0x0, 1, 0, 0, .rc, .warm, false, 0, []⟩
/-- R380 STATE [11:8] RO: 0 none, 1 TIMEOUT, 2 POLL_TIMEOUT, 3 XIP_BUSY, 4 ALIGN, 5 REGION_OVL, 6 REGION_RANGE, 7 KEY_EMPTY, 8 WINDOW -/
def MPT.STATE_LAST_ERR : Fld := ⟨0x4010000C, 0x0, 1, 11, 8, .ro, .warm, false, 0, []⟩
/-- R380 STATE [7:4] RO: selects 3 to 0 under auto-poll -/
def MPT.STATE_POLLING : Fld := ⟨0x4010000C, 0x0, 1, 7, 4, .ro, .warm, false, 0, []⟩
/-- R380 STATE [3:2] RO: select of the current transaction -/
def MPT.STATE_CUR_SEL : Fld := ⟨0x4010000C, 0x0, 1, 3, 2, .ro, .warm, false, 0, []⟩
/-- R380 STATE [1:1] RO: line fill in progress -/
def MPT.STATE_XFILL : Fld := ⟨0x4010000C, 0x0, 1, 1, 1, .ro, .warm, false, 0, []⟩
/-- R380 STATE [0:0] RO: indirect command in progress -/
def MPT.STATE_BUSY : Fld := ⟨0x4010000C, 0x0, 1, 0, 0, .ro, .warm, false, 0, []⟩
/-- R380 SEL_CFG [31:27] RW: select size 2^SIZE bytes, 16 to 32 -/
def MPT.SEL_CFG_SIZE : Fld := ⟨0x40100010, 0x4, 4, 31, 27, .rw, .warm, false, 24, []⟩
/-- R380 SEL_CFG [23:20] RW: MP_CLK = CLK_MEM / (DIV + 1) -/
def MPT.SEL_CFG_DIV : Fld := ⟨0x40100010, 0x4, 4, 23, 20, .rw, .warm, false, 15, []⟩
/-- R380 SEL_CFG [15:15] RW: strobe sampling -/
def MPT.SEL_CFG_DQS : Fld := ⟨0x40100010, 0x4, 4, 15, 15, .rw, .warm, false, 0, []⟩
/-- R380 SEL_CFG [14:14] RW: XIP reads in DDR -/
def MPT.SEL_CFG_DDR : Fld := ⟨0x40100010, 0x4, 4, 14, 14, .rw, .warm, false, 0, []⟩
/-- R380 SEL_CFG [13:13] RW: 4-byte addresses -/
def MPT.SEL_CFG_ADDR4 : Fld := ⟨0x40100010, 0x4, 4, 13, 13, .rw, .warm, false, 0, []⟩
/-- R380 SEL_CFG [12:12] RW: 16-bit opcodes -/
def MPT.SEL_CFG_CMD16 : Fld := ⟨0x40100010, 0x4, 4, 12, 12, .rw, .warm, false, 0, []⟩
/-- R380 SEL_CFG [5:4] RW: XIP phases: 0 one, 1 two, 2 four, 3 eight lanes -/
def MPT.SEL_CFG_CMD_LANES : Fld := ⟨0x40100010, 0x4, 4, 5, 4, .rw, .warm, false, 0, []⟩
/-- R380 SEL_CFG [3:2] RW:  -/
def MPT.SEL_CFG_ADDR_LANES : Fld := ⟨0x40100010, 0x4, 4, 3, 2, .rw, .warm, false, 0, []⟩
/-- R380 SEL_CFG [1:0] RW:  -/
def MPT.SEL_CFG_DATA_LANES : Fld := ⟨0x40100010, 0x4, 4, 1, 0, .rw, .warm, false, 0, []⟩
/-- R380 SEL_XRD [28:24] RW: XIP read dummy cycles -/
def MPT.SEL_XRD_DUMMY_RD : Fld := ⟨0x40100020, 0x4, 4, 28, 24, .rw, .warm, false, 8, []⟩
/-- R380 SEL_XRD [23:20] RW: minimum select-high time, MP_CLK cycles -/
def MPT.SEL_XRD_CSH : Fld := ⟨0x40100020, 0x4, 4, 23, 20, .rw, .warm, false, 2, []⟩
/-- R380 SEL_XRD [15:0] RW: XIP read opcode -/
def MPT.SEL_XRD_XRD : Fld := ⟨0x40100020, 0x4, 4, 15, 0, .rw, .warm, false, 11, []⟩
/-- R380 IND_ADDR [31:0] RW: offset within the select -/
def MPT.IND_ADDR_ADDR : Fld := ⟨0x40100030, 0x0, 1, 31, 0, .rw, .warm, false, 0, []⟩
/-- R380 IND_OP [15:0] RW: opcode -/
def MPT.IND_OP_OP : Fld := ⟨0x40100034, 0x0, 1, 15, 0, .rw, .warm, false, 0, []⟩
/-- R380 IND_FMT [24:16] RW: data bytes, 0 to 256 -/
def MPT.IND_FMT_LEN : Fld := ⟨0x40100038, 0x0, 1, 24, 16, .rw, .warm, false, 0, []⟩
/-- R380 IND_FMT [15:11] RW: dummy cycles -/
def MPT.IND_FMT_DUMMY : Fld := ⟨0x40100038, 0x0, 1, 15, 11, .rw, .warm, false, 0, []⟩
/-- R380 IND_FMT [10:10] RW: DDR -/
def MPT.IND_FMT_DDR : Fld := ⟨0x40100038, 0x0, 1, 10, 10, .rw, .warm, false, 0, []⟩
/-- R380 IND_FMT [5:4] RW: as SELn_CFG -/
def MPT.IND_FMT_CMD_LANES : Fld := ⟨0x40100038, 0x0, 1, 5, 4, .rw, .warm, false, 0, []⟩
/-- R380 IND_FMT [3:2] RW:  -/
def MPT.IND_FMT_ADDR_LANES : Fld := ⟨0x40100038, 0x0, 1, 3, 2, .rw, .warm, false, 0, []⟩
/-- R380 IND_FMT [1:0] RW:  -/
def MPT.IND_FMT_DATA_LANES : Fld := ⟨0x40100038, 0x0, 1, 1, 0, .rw, .warm, false, 0, []⟩
/-- R380 IND_CMD [31:31] WP: start (R358) -/
def MPT.IND_CMD_GO : Fld := ⟨0x4010003C, 0x0, 1, 31, 31, .wp, .warm, false, 0, []⟩
/-- R380 IND_CMD [30:30] RW: 1 IBUF to memory -/
def MPT.IND_CMD_WRITE : Fld := ⟨0x4010003C, 0x0, 1, 30, 30, .rw, .warm, false, 0, []⟩
/-- R380 IND_CMD [29:29] RW: auto-poll (R360) -/
def MPT.IND_CMD_POLL : Fld := ⟨0x4010003C, 0x0, 1, 29, 29, .rw, .warm, false, 0, []⟩
/-- R380 IND_CMD [28:28] RW: address phase -/
def MPT.IND_CMD_ADDR : Fld := ⟨0x4010003C, 0x0, 1, 28, 28, .rw, .warm, false, 1, []⟩
/-- R380 IND_CMD [27:26] RW: select -/
def MPT.IND_CMD_SEL : Fld := ⟨0x4010003C, 0x0, 1, 27, 26, .rw, .warm, false, 0, []⟩
/-- R380 POLL_CFG [31:24] RW: status read opcode -/
def MPT.POLL_CFG_OP : Fld := ⟨0x40100040, 0x0, 1, 31, 24, .rw, .warm, false, 5, []⟩
/-- R380 POLL_CFG [23:16] RW:  -/
def MPT.POLL_CFG_MASK : Fld := ⟨0x40100040, 0x0, 1, 23, 16, .rw, .warm, false, 1, []⟩
/-- R380 POLL_CFG [15:8] RW:  -/
def MPT.POLL_CFG_MATCH : Fld := ⟨0x40100040, 0x0, 1, 15, 8, .rw, .warm, false, 0, []⟩
/-- R380 POLL_CFG [7:0] RW: spacing of status reads, µs -/
def MPT.POLL_CFG_GAP_US : Fld := ⟨0x40100040, 0x0, 1, 7, 0, .rw, .warm, false, 10, []⟩
/-- R380 POLL_TMO [15:0] RW:  -/
def MPT.POLL_TMO_MS : Fld := ⟨0x40100044, 0x0, 1, 15, 0, .rw, .warm, false, 2000, []⟩
/-- R380 TMO_CFG [15:0] RW:  -/
def MPT.TMO_CFG_TXN_US : Fld := ⟨0x40100048, 0x0, 1, 15, 0, .rw, .warm, false, 1000, []⟩
/-- R380 CACHE [0:0] WP: invalidate the line cache -/
def MPT.CACHE_INV : Fld := ⟨0x4010004C, 0x0, 1, 0, 0, .wp, .warm, false, 0, []⟩
/-- R380 XWIN [31:31] RW: window enable -/
def MPT.XWIN_EN : Fld := ⟨0x40100050, 0x4, 4, 31, 31, .rw, .warm, false, 0, []⟩
/-- R380 XWIN [17:16] RW: select -/
def MPT.XWIN_SEL : Fld := ⟨0x40100050, 0x4, 4, 17, 16, .rw, .warm, false, 0, []⟩
/-- R380 XWIN [15:0] RW: select offset, 64 KiB units -/
def MPT.XWIN_OFFSET : Fld := ⟨0x40100050, 0x4, 4, 15, 0, .rw, .warm, false, 0, []⟩
/-- R380 RSEL [2:0] RW: region addressed by RCFG, RSTART, REND, RNONCE_LO and RNONCE_HI at 0x064 to 0x074; each region keeps its own c -/
def MPT.RSEL_REGION : Fld := ⟨0x40100060, 0x0, 1, 2, 0, .rw, .warm, false, 0, []⟩
/-- R380 RCFG [31:31] RW: region enable (R364) -/
def MPT.RCFG_EN : Fld := ⟨0x40100064, 0x0, 1, 31, 31, .rw, .warm, false, 0, []⟩
/-- R380 RCFG [30:30] RW: AES-256 -/
def MPT.RCFG_KEY256 : Fld := ⟨0x40100064, 0x0, 1, 30, 30, .rw, .warm, false, 0, []⟩
/-- R380 RCFG [29:28] RW: select -/
def MPT.RCFG_SEL : Fld := ⟨0x40100064, 0x0, 1, 29, 28, .rw, .warm, false, 0, []⟩
/-- R380 RCFG [7:0] RW: security block key slot -/
def MPT.RCFG_KEYSLOT : Fld := ⟨0x40100064, 0x0, 1, 7, 0, .rw, .warm, false, 0, []⟩
/-- R380 RSTART [31:12] RW: first / last 4 KiB page included -/
def MPT.RSTART_PAGE : Fld := ⟨0x40100068, 0x0, 1, 31, 12, .rw, .warm, false, 0, []⟩
/-- R380 REND [31:12] RW: first / last 4 KiB page included -/
def MPT.REND_PAGE : Fld := ⟨0x4010006C, 0x0, 1, 31, 12, .rw, .warm, false, 0, []⟩
/-- R380 RNONCE_LO [31:0] RW: NONCE [31:0] / [63:32] -/
def MPT.RNONCE_LO_NONCE : Fld := ⟨0x40100070, 0x0, 1, 31, 0, .rw, .warm, false, 0, []⟩
/-- R380 RNONCE_HI [31:0] RW: NONCE [31:0] / [63:32] -/
def MPT.RNONCE_HI_NONCE : Fld := ⟨0x40100074, 0x0, 1, 31, 0, .rw, .warm, false, 0, []⟩
/-- R380 ERR_ADDR [31:0] RO: select offset of the last error; select in CUR_SEL -/
def MPT.ERR_ADDR_ADDR : Fld := ⟨0x40100078, 0x0, 1, 31, 0, .ro, .warm, false, 0, []⟩
/-- R380 CNT_FILL [31:0] RW: line fills; cache hits; indirect commands; errors; saturating -/
def MPT.CNT_FILL_COUNT : Fld := ⟨0x40100080, 0x0, 1, 31, 0, .rw, .warm, false, 0, []⟩
/-- R380 CNT_HIT [31:0] RW: line fills; cache hits; indirect commands; errors; saturating -/
def MPT.CNT_HIT_COUNT : Fld := ⟨0x40100084, 0x0, 1, 31, 0, .rw, .warm, false, 0, []⟩
/-- R380 CNT_IND [31:0] RW: line fills; cache hits; indirect commands; errors; saturating -/
def MPT.CNT_IND_COUNT : Fld := ⟨0x40100088, 0x0, 1, 31, 0, .rw, .warm, false, 0, []⟩
/-- R380 CNT_ERR [31:0] RW: line fills; cache hits; indirect commands; errors; saturating -/
def MPT.CNT_ERR_COUNT : Fld := ⟨0x4010008C, 0x0, 1, 31, 0, .rw, .warm, false, 0, []⟩
/-- R380 IBUF [31:0] RW, BW: indirect data, byte 0 first (R358, R359) -/
def MPT.IBUF_DATA : Fld := ⟨0x40100100, 0x4, 64, 31, 0, .bw, .warm, false, 0, []⟩

/-- The fields of MPT, part 0. -/
def MPT.fields0 : List Fld := [MPT.ID_BLOCK, MPT.ID_REV, MPT.CTRL_RSTN, MPT.CTRL_CACHE_EN, MPT.CTRL_XIP_EN, MPT.CTRL_EN, MPT.STATUS_SAT, MPT.STATUS_CMD_ERR, MPT.STATUS_TMO, MPT.STATUS_ERR, MPT.STATUS_DONE, MPT.STATE_LAST_ERR, MPT.STATE_POLLING, MPT.STATE_CUR_SEL, MPT.STATE_XFILL, MPT.STATE_BUSY, MPT.SEL_CFG_SIZE, MPT.SEL_CFG_DIV, MPT.SEL_CFG_DQS, MPT.SEL_CFG_DDR, MPT.SEL_CFG_ADDR4, MPT.SEL_CFG_CMD16, MPT.SEL_CFG_CMD_LANES, MPT.SEL_CFG_ADDR_LANES, MPT.SEL_CFG_DATA_LANES, MPT.SEL_XRD_DUMMY_RD, MPT.SEL_XRD_CSH, MPT.SEL_XRD_XRD, MPT.IND_ADDR_ADDR, MPT.IND_OP_OP, MPT.IND_FMT_LEN, MPT.IND_FMT_DUMMY, MPT.IND_FMT_DDR, MPT.IND_FMT_CMD_LANES, MPT.IND_FMT_ADDR_LANES, MPT.IND_FMT_DATA_LANES, MPT.IND_CMD_GO, MPT.IND_CMD_WRITE, MPT.IND_CMD_POLL, MPT.IND_CMD_ADDR]
/-- The fields of MPT, part 1. -/
def MPT.fields1 : List Fld := [MPT.IND_CMD_SEL, MPT.POLL_CFG_OP, MPT.POLL_CFG_MASK, MPT.POLL_CFG_MATCH, MPT.POLL_CFG_GAP_US, MPT.POLL_TMO_MS, MPT.TMO_CFG_TXN_US, MPT.CACHE_INV, MPT.XWIN_EN, MPT.XWIN_SEL, MPT.XWIN_OFFSET, MPT.RSEL_REGION, MPT.RCFG_EN, MPT.RCFG_KEY256, MPT.RCFG_SEL, MPT.RCFG_KEYSLOT, MPT.RSTART_PAGE, MPT.REND_PAGE, MPT.RNONCE_LO_NONCE, MPT.RNONCE_HI_NONCE, MPT.ERR_ADDR_ADDR, MPT.CNT_FILL_COUNT, MPT.CNT_HIT_COUNT, MPT.CNT_IND_COUNT, MPT.CNT_ERR_COUNT, MPT.IBUF_DATA]
/-- Every field of the register tables of MPT. -/
def MPT.fields : List Fld := MPT.fields0 ++ MPT.fields1

/-- R381 ID [31:16] RO: block code -/
def GRN.ID_BLOCK : Fld := ⟨0x40110000, 0x0, 1, 31, 16, .ro, .warm, false, 17, []⟩
/-- R381 ID [15:0] RO: block revision -/
def GRN.ID_REV : Fld := ⟨0x40110000, 0x0, 1, 15, 0, .ro, .warm, false, 256, []⟩
/-- R381 CTRL [19:16] RW: record queue -/
def GRN.CTRL_QSRC : Fld := ⟨0x40110004, 0x0, 1, 19, 16, .rw, .warm, false, 4, []⟩
/-- R381 CTRL [15:8] RW: sweep period, s; 0 acts as 1 -/
def GRN.CTRL_SWEEP_S : Fld := ⟨0x40110004, 0x0, 1, 15, 8, .rw, .warm, false, 10, []⟩
/-- R381 CTRL [2:2] RW: R370 -/
def GRN.CTRL_SWEEP_EN : Fld := ⟨0x40110004, 0x0, 1, 2, 2, .rw, .warm, false, 1, []⟩
/-- R381 CTRL [1:1] RW: stop at the next record boundary -/
def GRN.CTRL_PAUSE : Fld := ⟨0x40110004, 0x0, 1, 1, 1, .rw, .warm, false, 0, []⟩
/-- R381 CTRL [0:0] RW: engine enable (R367) -/
def GRN.CTRL_EN : Fld := ⟨0x40110004, 0x0, 1, 0, 0, .rw, .warm, false, 0, []⟩
/-- R381 CMD [2:2] WP: R373 -/
def GRN.CMD_FORMAT : Fld := ⟨0x40110008, 0x0, 1, 2, 2, .wp, .warm, false, 0, []⟩
/-- R381 CMD [1:1] WP: R378 -/
def GRN.CMD_RECOVER : Fld := ⟨0x40110008, 0x0, 1, 1, 1, .wp, .warm, false, 0, []⟩
/-- R381 CMD [0:0] WP: R377 -/
def GRN.CMD_COMMIT : Fld := ⟨0x40110008, 0x0, 1, 0, 0, .wp, .warm, false, 0, []⟩
/-- R381 STATUS [7:7] RC: a counter saturated -/
def GRN.STATUS_SAT : Fld := ⟨0x4011000C, 0x0, 1, 7, 7, .rc, .warm, false, 0, []⟩
/-- R381 STATUS [6:6] RC: recovery complete -/
def GRN.STATUS_RECOV_DONE : Fld := ⟨0x4011000C, 0x0, 1, 6, 6, .rc, .warm, false, 0, []⟩
/-- R381 STATUS [5:5] RC: engine stopped on an error -/
def GRN.STATUS_ENGINE_ERR : Fld := ⟨0x4011000C, 0x0, 1, 5, 5, .rc, .warm, false, 0, []⟩
/-- R381 STATUS [4:4] RC: R374 -/
def GRN.STATUS_NRING_FULL : Fld := ⟨0x4011000C, 0x0, 1, 4, 4, .rc, .warm, false, 0, []⟩
/-- R381 STATUS [3:3] RC: R369 -/
def GRN.STATUS_IDX_FULL : Fld := ⟨0x4011000C, 0x0, 1, 3, 3, .rc, .warm, false, 0, []⟩
/-- R381 STATUS [2:2] RC: record CRC failed -/
def GRN.STATUS_REC_BAD : Fld := ⟨0x4011000C, 0x0, 1, 2, 2, .rc, .warm, false, 0, []⟩
/-- R381 STATUS [1:1] RC: R377 -/
def GRN.STATUS_COMMIT_DONE : Fld := ⟨0x4011000C, 0x0, 1, 1, 1, .rc, .warm, false, 0, []⟩
/-- R381 STATUS [0:0] RC: notification written -/
def GRN.STATUS_NOTE : Fld := ⟨0x4011000C, 0x0, 1, 0, 0, .rc, .warm, false, 0, []⟩
/-- R381 STATE [7:4] RO: 0 none, 1 GEOM, 2 MPT, 3 NO_SUPERBLOCK, 4 KEY_EMPTY -/
def GRN.STATE_ERR : Fld := ⟨0x40110010, 0x0, 1, 7, 4, .ro, .warm, false, 0, []⟩
/-- R381 STATE [2:0] RO: 0 OFF, 1 RECOVER, 2 RUN, 3 PAUSED, 4 COMMIT, 5 ERROR, 6 FORMAT -/
def GRN.STATE_STATE : Fld := ⟨0x40110010, 0x0, 1, 2, 0, .ro, .warm, false, 0, []⟩
/-- R381 AREA [31:30] RW:  -/
def GRN.AREA_SEL : Fld := ⟨0x40110014, 0x0, 1, 31, 30, .rw, .warm, false, 0, []⟩
/-- R381 AREA [15:0] RW:  -/
def GRN.AREA_BASE : Fld := ⟨0x40110014, 0x0, 1, 15, 0, .rw, .warm, false, 0, []⟩
/-- R381 GEOM [31:27] RW:  -/
def GRN.GEOM_IDX_LOG2 : Fld := ⟨0x40110018, 0x0, 1, 31, 27, .rw, .warm, false, 0, []⟩
/-- R381 GEOM [23:0] RW:  -/
def GRN.GEOM_JBLOCKS : Fld := ⟨0x40110018, 0x0, 1, 23, 0, .rw, .warm, false, 0, []⟩
/-- R381 NRING_BASE [31:0] RW:  -/
def GRN.NRING_BASE_VALUE : Fld := ⟨0x4011001C, 0x0, 1, 31, 0, .rw, .warm, false, 0, []⟩
/-- R381 NRING_CFG [31:0] RW:  -/
def GRN.NRING_CFG_ENTRIES : Fld := ⟨0x40110020, 0x0, 1, 31, 0, .rw, .warm, false, 0, []⟩
/-- R381 NR_HEAD [31:0] RO:  -/
def GRN.NR_HEAD_VALUE : Fld := ⟨0x40110024, 0x0, 1, 31, 0, .ro, .warm, false, 0, []⟩
/-- R381 NR_TAIL [31:0] RW:  -/
def GRN.NR_TAIL_VALUE : Fld := ⟨0x40110028, 0x0, 1, 31, 0, .rw, .warm, false, 0, []⟩
/-- R381 JSTAGE [31:0] RW:  -/
def GRN.JSTAGE_VALUE : Fld := ⟨0x4011002C, 0x0, 1, 31, 0, .rw, .warm, false, 0, []⟩
/-- R381 SECT [19:16] RW: sightings to confirm a move -/
def GRN.SECT_CONFIRM : Fld := ⟨0x40110030, 0x0, 1, 19, 16, .rw, .warm, false, 2, []⟩
/-- R381 SECT [15:8] RW: elevation band, degrees, 5 to 90 -/
def GRN.SECT_EL_DEG : Fld := ⟨0x40110030, 0x0, 1, 15, 8, .rw, .warm, false, 30, []⟩
/-- R381 SECT [7:0] RW: azimuth sector, degrees, 5 to 90 -/
def GRN.SECT_AZ_DEG : Fld := ⟨0x40110030, 0x0, 1, 7, 0, .rw, .warm, false, 30, []⟩
/-- R381 DEPART [31:0] RW:  -/
def GRN.DEPART_VALUE : Fld := ⟨0x40110034, 0x0, 1, 31, 0, .rw, .warm, false, 500, []⟩
/-- R381 OCC [31:0] RO:  -/
def GRN.OCC_VALUE : Fld := ⟨0x40110038, 0x0, 1, 31, 0, .ro, .warm, false, 0, []⟩
/-- R381 JSEQ_LO [31:0] RO:  -/
def GRN.JSEQ_LO_VALUE : Fld := ⟨0x4011003C, 0x0, 1, 31, 0, .ro, .warm, false, 0, []⟩
/-- R381 JSEQ_HI [31:0] RO:  -/
def GRN.JSEQ_HI_VALUE : Fld := ⟨0x40110040, 0x0, 1, 31, 0, .ro, .warm, false, 0, []⟩
/-- R381 CNT_REC [31:0] RW: records folded; NEW; DEPARTED; MOVED; bad records; saturating -/
def GRN.CNT_REC_COUNT : Fld := ⟨0x40110044, 0x0, 1, 31, 0, .rw, .warm, false, 0, []⟩
/-- R381 CNT_NEW [31:0] RW: records folded; NEW; DEPARTED; MOVED; bad records; saturating -/
def GRN.CNT_NEW_COUNT : Fld := ⟨0x40110048, 0x0, 1, 31, 0, .rw, .warm, false, 0, []⟩
/-- R381 CNT_DEPART [31:0] RW: records folded; NEW; DEPARTED; MOVED; bad records; saturating -/
def GRN.CNT_DEPART_COUNT : Fld := ⟨0x4011004C, 0x0, 1, 31, 0, .rw, .warm, false, 0, []⟩
/-- R381 CNT_MOVE [31:0] RW: records folded; NEW; DEPARTED; MOVED; bad records; saturating -/
def GRN.CNT_MOVE_COUNT : Fld := ⟨0x40110050, 0x0, 1, 31, 0, .rw, .warm, false, 0, []⟩
/-- R381 CNT_BAD [31:0] RW: records folded; NEW; DEPARTED; MOVED; bad records; saturating -/
def GRN.CNT_BAD_COUNT : Fld := ⟨0x40110054, 0x0, 1, 31, 0, .rw, .warm, false, 0, []⟩

/-- The fields of GRN, part 0. -/
def GRN.fields0 : List Fld := [GRN.ID_BLOCK, GRN.ID_REV, GRN.CTRL_QSRC, GRN.CTRL_SWEEP_S, GRN.CTRL_SWEEP_EN, GRN.CTRL_PAUSE, GRN.CTRL_EN, GRN.CMD_FORMAT, GRN.CMD_RECOVER, GRN.CMD_COMMIT, GRN.STATUS_SAT, GRN.STATUS_RECOV_DONE, GRN.STATUS_ENGINE_ERR, GRN.STATUS_NRING_FULL, GRN.STATUS_IDX_FULL, GRN.STATUS_REC_BAD, GRN.STATUS_COMMIT_DONE, GRN.STATUS_NOTE, GRN.STATE_ERR, GRN.STATE_STATE, GRN.AREA_SEL, GRN.AREA_BASE, GRN.GEOM_IDX_LOG2, GRN.GEOM_JBLOCKS, GRN.NRING_BASE_VALUE, GRN.NRING_CFG_ENTRIES, GRN.NR_HEAD_VALUE, GRN.NR_TAIL_VALUE, GRN.JSTAGE_VALUE, GRN.SECT_CONFIRM, GRN.SECT_EL_DEG, GRN.SECT_AZ_DEG, GRN.DEPART_VALUE, GRN.OCC_VALUE, GRN.JSEQ_LO_VALUE, GRN.JSEQ_HI_VALUE, GRN.CNT_REC_COUNT, GRN.CNT_NEW_COUNT, GRN.CNT_DEPART_COUNT, GRN.CNT_MOVE_COUNT]
/-- The fields of GRN, part 1. -/
def GRN.fields1 : List Fld := [GRN.CNT_BAD_COUNT]
/-- Every field of the register tables of GRN. -/
def GRN.fields : List Fld := GRN.fields0 ++ GRN.fields1

/-- R434 ID [31:16] RO: block code -/
def HLK.ID_BLOCK : Fld := ⟨0x40140000, 0x0, 1, 31, 16, .ro, .warm, false, 20, []⟩
/-- R434 ID [15:0] RO: block revision -/
def HLK.ID_REV : Fld := ⟨0x40140000, 0x0, 1, 15, 0, .ro, .warm, false, 256, []⟩
/-- R434 CTRL [2:2] RW: register writes (R430) -/
def HLK.CTRL_WR_EN : Fld := ⟨0x40140004, 0x0, 1, 2, 2, .rw, .warm, false, 1, []⟩
/-- R434 CTRL [1:1] RW: object frames (R431) -/
def HLK.CTRL_OBJ_EN : Fld := ⟨0x40140004, 0x0, 1, 1, 1, .rw, .warm, false, 1, []⟩
/-- R434 CTRL [0:0] RW: Host Link enable; while 0, HL_MISO is high impedance -/
def HLK.CTRL_EN : Fld := ⟨0x40140004, 0x0, 1, 0, 0, .rw, .warm, false, 0, []⟩
/-- R434 STATUS [8:8] RC: a counter saturated -/
def HLK.STATUS_SAT : Fld := ⟨0x40140008, 0x0, 1, 8, 8, .rc, .warm, false, 0, []⟩
/-- R434 STATUS [7:7] RC: R429 -/
def HLK.STATUS_BUS_ERR : Fld := ⟨0x40140008, 0x0, 1, 7, 7, .rc, .warm, false, 0, []⟩
/-- R434 STATUS [6:6] RC: R422 -/
def HLK.STATUS_BAD_TYPE : Fld := ⟨0x40140008, 0x0, 1, 6, 6, .rc, .warm, false, 0, []⟩
/-- R434 STATUS [5:5] RC: R422 -/
def HLK.STATUS_BUSY : Fld := ⟨0x40140008, 0x0, 1, 5, 5, .rc, .warm, false, 0, []⟩
/-- R434 STATUS [4:4] RC: R422 -/
def HLK.STATUS_LONG : Fld := ⟨0x40140008, 0x0, 1, 4, 4, .rc, .warm, false, 0, []⟩
/-- R434 STATUS [3:3] RC: R422 -/
def HLK.STATUS_SHORT : Fld := ⟨0x40140008, 0x0, 1, 3, 3, .rc, .warm, false, 0, []⟩
/-- R434 STATUS [2:2] RC: R422 -/
def HLK.STATUS_BAD_ALIVE : Fld := ⟨0x40140008, 0x0, 1, 2, 2, .rc, .warm, false, 0, []⟩
/-- R434 STATUS [1:1] RC: R422 -/
def HLK.STATUS_BAD_CRC : Fld := ⟨0x40140008, 0x0, 1, 1, 1, .rc, .warm, false, 0, []⟩
/-- R434 STATUS [0:0] RC: frame accepted -/
def HLK.STATUS_FRAME_OK : Fld := ⟨0x40140008, 0x0, 1, 0, 0, .rc, .warm, false, 0, []⟩
/-- R434 STATE [25:25] RO: R428 -/
def HLK.STATE_PTR_VALID : Fld := ⟨0x4014000C, 0x0, 1, 25, 25, .ro, .warm, false, 0, []⟩
/-- R434 STATE [24:24] RO: 0 mode 0, 1 mode 3 -/
def HLK.STATE_MODE : Fld := ⟨0x4014000C, 0x0, 1, 24, 24, .ro, .warm, false, 0, []⟩
/-- R434 STATE [23:16] RO: device ALIVE of the last reply -/
def HLK.STATE_DEV_ALIVE : Fld := ⟨0x4014000C, 0x0, 1, 23, 16, .ro, .warm, false, 0, []⟩
/-- R434 STATE [15:8] RO: last accepted host ALIVE -/
def HLK.STATE_LAST_ALIVE : Fld := ⟨0x4014000C, 0x0, 1, 15, 8, .ro, .warm, false, 0, []⟩
/-- R434 STATE [7:4] RO: results waiting -/
def HLK.STATE_READY : Fld := ⟨0x4014000C, 0x0, 1, 7, 4, .ro, .warm, false, 0, []⟩
/-- R434 STATE [3:0] RO: R425 -/
def HLK.STATE_OUTSTANDING : Fld := ⟨0x4014000C, 0x0, 1, 3, 0, .ro, .warm, false, 0, []⟩
/-- R434 PTR [31:0] RO: bridge pointer (R428) -/
def HLK.PTR_ADDR : Fld := ⟨0x40140010, 0x0, 1, 31, 0, .ro, .warm, false, 0, []⟩
/-- R434 ERR_INFO [31:0] RO: ERR of the last frame that faulted, layout of R429 -/
def HLK.ERR_INFO_ERR : Fld := ⟨0x40140014, 0x0, 1, 31, 0, .ro, .warm, false, 0, []⟩
/-- R434 HOST_IRQ [2:2] RO: doorbell pending (R432) -/
def HLK.HOST_IRQ_LEVEL : Fld := ⟨0x40140018, 0x0, 1, 2, 2, .ro, .warm, false, 0, []⟩
/-- R434 HOST_IRQ [1:1] WP: clear LEVEL -/
def HLK.HOST_IRQ_CLR : Fld := ⟨0x40140018, 0x0, 1, 1, 1, .wp, .warm, false, 0, []⟩
/-- R434 HOST_IRQ [0:0] WP: set LEVEL -/
def HLK.HOST_IRQ_SET : Fld := ⟨0x40140018, 0x0, 1, 0, 0, .wp, .warm, false, 0, []⟩
/-- R434 CNT_OK [31:0] RW: frames accepted; frames rejected for any flag of R422; of those, BUSY; bus errors; saturating -/
def HLK.CNT_OK_COUNT : Fld := ⟨0x4014001C, 0x0, 1, 31, 0, .rw, .warm, false, 0, []⟩
/-- R434 CNT_REJ [31:0] RW: frames accepted; frames rejected for any flag of R422; of those, BUSY; bus errors; saturating -/
def HLK.CNT_REJ_COUNT : Fld := ⟨0x40140020, 0x0, 1, 31, 0, .rw, .warm, false, 0, []⟩
/-- R434 CNT_BUSY [31:0] RW: frames accepted; frames rejected for any flag of R422; of those, BUSY; bus errors; saturating -/
def HLK.CNT_BUSY_COUNT : Fld := ⟨0x40140024, 0x0, 1, 31, 0, .rw, .warm, false, 0, []⟩
/-- R434 CNT_BUSERR [31:0] RW: frames accepted; frames rejected for any flag of R422; of those, BUSY; bus errors; saturating -/
def HLK.CNT_BUSERR_COUNT : Fld := ⟨0x40140028, 0x0, 1, 31, 0, .rw, .warm, false, 0, []⟩

/-- The fields of HLK, part 0. -/
def HLK.fields0 : List Fld := [HLK.ID_BLOCK, HLK.ID_REV, HLK.CTRL_WR_EN, HLK.CTRL_OBJ_EN, HLK.CTRL_EN, HLK.STATUS_SAT, HLK.STATUS_BUS_ERR, HLK.STATUS_BAD_TYPE, HLK.STATUS_BUSY, HLK.STATUS_LONG, HLK.STATUS_SHORT, HLK.STATUS_BAD_ALIVE, HLK.STATUS_BAD_CRC, HLK.STATUS_FRAME_OK, HLK.STATE_PTR_VALID, HLK.STATE_MODE, HLK.STATE_DEV_ALIVE, HLK.STATE_LAST_ALIVE, HLK.STATE_READY, HLK.STATE_OUTSTANDING, HLK.PTR_ADDR, HLK.ERR_INFO_ERR, HLK.HOST_IRQ_LEVEL, HLK.HOST_IRQ_CLR, HLK.HOST_IRQ_SET, HLK.CNT_OK_COUNT, HLK.CNT_REJ_COUNT, HLK.CNT_BUSY_COUNT, HLK.CNT_BUSERR_COUNT]
/-- Every field of the register tables of HLK. -/
def HLK.fields : List Fld := HLK.fields0

end Sys2Proof.Machine
end

