-- ==== Sys2Proof/Machine/RegsRadio.lean ====
section
/-! DEFINITION. The register fields of the radio blocks UTX, RFS, URX, SHF, LSC and WNW, one constant per row of the register tables
of the spec (address, stride, instances, high bit, low bit, type code, reset domain, AON copy, reset value). -/

namespace Sys2Proof.Machine

/-- R101 ID [31:16] RO: block code -/
def UTX.ID_BLOCK : Fld := ⟨0x40060000, 0x100, 4, 31, 16, .ro, .warm, false, 6, []⟩
/-- R101 ID [15:0] RO: block revision -/
def UTX.ID_REV : Fld := ⟨0x40060000, 0x100, 4, 15, 0, .ro, .warm, false, 256, []⟩
/-- R101 CTRL [9:8] RW: synthesizer feeding this chain (R97) -/
def UTX.CTRL_LO_SRC : Fld := ⟨0x40060004, 0x100, 4, 9, 8, .rw, .warm, false, 0, [0, 1, 2, 3]⟩
/-- R101 CTRL [2:2] RW: 0 send late frame, 1 drop it (R75) -/
def UTX.CTRL_LATE_POLICY : Fld := ⟨0x40060004, 0x100, 4, 2, 2, .rw, .warm, false, 0, []⟩
/-- R101 CTRL [1:1] RW: ramp down on PA fault (R91) -/
def UTX.CTRL_PA_CHECK : Fld := ⟨0x40060004, 0x100, 4, 1, 1, .rw, .warm, false, 1, []⟩
/-- R101 CMD [2:0] WP: 1 OFF, 2 STANDBY, 3 READY, 4 CW, 5 LISTEN; 6 and 7 refused with BAD_STATE -/
def UTX.CMD_REQ : Fld := ⟨0x40060008, 0x100, 4, 2, 0, .wp, .warm, false, 0, []⟩
/-- R101 STATE [20:20] RO: chain is leased -/
def UTX.STATE_LEASED : Fld := ⟨0x4006000C, 0x100, 4, 20, 20, .ro, .warm, false, 0, []⟩
/-- R101 STATE [19:16] RO: sequencer holding the lease -/
def UTX.STATE_OWNER : Fld := ⟨0x4006000C, 0x100, 4, 19, 16, .ro, .warm, false, 0, []⟩
/-- R101 STATE [11:8] RO: R73 -/
def UTX.STATE_LAST_ERR : Fld := ⟨0x4006000C, 0x100, 4, 11, 8, .ro, .warm, false, 0, []⟩
/-- R101 STATE [5:5] RO: RF present -/
def UTX.STATE_CARRIER : Fld := ⟨0x4006000C, 0x100, 4, 5, 5, .ro, .warm, false, 0, []⟩
/-- R101 STATE [4:4] RO: ramp in progress -/
def UTX.STATE_RAMP : Fld := ⟨0x4006000C, 0x100, 4, 4, 4, .ro, .warm, false, 0, []⟩
/-- R101 STATE [3:3] RO: waiting for lock or supply (R84) -/
def UTX.STATE_WAIT : Fld := ⟨0x4006000C, 0x100, 4, 3, 3, .ro, .warm, false, 0, []⟩
/-- R101 STATE [2:0] RO: R69 -/
def UTX.STATE_STATE : Fld := ⟨0x4006000C, 0x100, 4, 2, 0, .ro, .warm, false, 0, []⟩
/-- R101 STATUS [8:8] RC: a counter saturated -/
def UTX.STATUS_SAT : Fld := ⟨0x40060010, 0x100, 4, 8, 8, .rc, .warm, false, 0, []⟩
/-- R101 STATUS [7:7] RC: frame issued after the turnaround -/
def UTX.STATUS_TA_LATE : Fld := ⟨0x40060010, 0x100, 4, 7, 7, .rc, .warm, false, 0, []⟩
/-- R101 STATUS [6:6] RC: R91 -/
def UTX.STATUS_PA_FAULT : Fld := ⟨0x40060010, 0x100, 4, 6, 6, .rc, .warm, false, 0, []⟩
/-- R101 STATUS [5:5] RC: ramped down on loss of lock -/
def UTX.STATUS_LOL_RAMP : Fld := ⟨0x40060010, 0x100, 4, 5, 5, .rc, .warm, false, 0, []⟩
/-- R101 STATUS [4:4] RC: grant refused or withdrawn -/
def UTX.STATUS_RGE_DENY : Fld := ⟨0x40060010, 0x100, 4, 4, 4, .rc, .warm, false, 0, []⟩
/-- R101 STATUS [3:3] RC: request refused; see LAST_ERR -/
def UTX.STATUS_CMD_ERR : Fld := ⟨0x40060010, 0x100, 4, 3, 3, .rc, .warm, false, 0, []⟩
/-- R101 STATUS [2:2] RC: SYNTH_NOT_READY or SUPPLY_NOT_READY -/
def UTX.STATUS_WAIT_FAIL : Fld := ⟨0x40060010, 0x100, 4, 2, 2, .rc, .warm, false, 0, []⟩
/-- R101 STATUS [1:1] RC: a ramp completed -/
def UTX.STATUS_RAMP_DONE : Fld := ⟨0x40060010, 0x100, 4, 1, 1, .rc, .warm, false, 0, []⟩
/-- R101 STATUS [0:0] RC: state changed -/
def UTX.STATUS_STATE_CHG : Fld := ⟨0x40060010, 0x100, 4, 0, 0, .rc, .warm, false, 0, []⟩
/-- R101 PWR [22:16] RO: effective index (R88) -/
def UTX.PWR_EFF_IDX : Fld := ⟨0x40060014, 0x100, 4, 22, 16, .ro, .warm, false, 127, []⟩
/-- R101 PWR [9:8] RO: band group (R87) -/
def UTX.PWR_GROUP : Fld := ⟨0x40060014, 0x100, 4, 9, 8, .ro, .warm, false, 0, []⟩
/-- R101 PWR [6:0] RW: requested power index -/
def UTX.PWR_IDX : Fld := ⟨0x40060014, 0x100, 4, 6, 0, .rw, .warm, false, 127, []⟩
/-- R101 MOD_CFG [15:9] RW: turnaround pad, 0.25 µs steps -/
def UTX.MOD_CFG_PAD : Fld := ⟨0x40060018, 0x100, 4, 15, 9, .rw, .warm, false, 0, []⟩
/-- R101 MOD_CFG [8:7] RW: shaping table 0 to 3 -/
def UTX.MOD_CFG_SHAPE : Fld := ⟨0x40060018, 0x100, 4, 8, 7, .rw, .warm, false, 0, []⟩
/-- R101 MOD_CFG [6:5] RW: 0 DSB-ASK, 1 SSB-ASK, 2 PR-ASK, 3 reserved -/
def UTX.MOD_CFG_MODE : Fld := ⟨0x40060018, 0x100, 4, 6, 5, .rw, .warm, false, 0, []⟩
/-- R101 MOD_CFG [4:0] RW: 80 % + code × 1 % -/
def UTX.MOD_CFG_DEPTH : Fld := ⟨0x40060018, 0x100, 4, 4, 0, .rw, .warm, false, 20, []⟩
/-- R101 PHASE [13:8] RO: Fulling phase trim, 5.625° steps -/
def UTX.PHASE_TRIM : Fld := ⟨0x4006001C, 0x100, 4, 13, 8, .ro, .warm, false, 0, []⟩
/-- R101 PHASE [5:0] RW: steering phase, 5.625° steps -/
def UTX.PHASE_STEER : Fld := ⟨0x4006001C, 0x100, 4, 5, 0, .rw, .warm, false, 0, []⟩
/-- R101 FWD [31:16] RO: EXPECT of the effective entry, Q8.8 dBm -/
def UTX.FWD_EXPECT : Fld := ⟨0x40060020, 0x100, 4, 31, 16, .ro, .warm, false, 0, []⟩
/-- R101 FWD [15:0] RO: measured forward power, Q8.8 dBm; 0x8000 not valid -/
def UTX.FWD_FWD : Fld := ⟨0x40060020, 0x100, 4, 15, 0, .ro, .warm, false, 32768, []⟩
/-- R101 PA [31:31] RO: UTXn_PA_EN level -/
def UTX.PA_PA_EN : Fld := ⟨0x40060024, 0x100, 4, 31, 31, .ro, .warm, false, 0, []⟩
/-- R101 PA [30:24] RO: applied DRV_GAIN -/
def UTX.PA_DRV : Fld := ⟨0x40060024, 0x100, 4, 30, 24, .ro, .warm, false, 0, []⟩
/-- R101 PA [23:16] RO: PA_SUPPLY requested by this chain -/
def UTX.PA_SUPPLY : Fld := ⟨0x40060024, 0x100, 4, 23, 16, .ro, .warm, false, 0, []⟩
/-- R101 PA [9:0] RO: applied bias DAC code, trim included -/
def UTX.PA_BIAS : Fld := ⟨0x40060024, 0x100, 4, 9, 0, .ro, .warm, false, 0, []⟩
/-- R101 LIMITS [25:16] RW: wait limit, µs, clamped to 60 to 1,000 -/
def UTX.LIMITS_SYNTH_WAIT : Fld := ⟨0x40060028, 0x100, 4, 25, 16, .rw, .warm, false, 150, []⟩
/-- R101 LIMITS [15:8] RW: PA-fault persistence, µs -/
def UTX.LIMITS_TOL_US : Fld := ⟨0x40060028, 0x100, 4, 15, 8, .rw, .warm, false, 64, []⟩
/-- R101 LIMITS [7:0] RW: PA-fault tolerance, 1/16 dB -/
def UTX.LIMITS_TOL : Fld := ⟨0x40060028, 0x100, 4, 7, 0, .rw, .warm, false, 32, []⟩
/-- R101 TEMP [15:0] RO: chain temperature, signed, 0.125 °C -/
def UTX.TEMP_TEMP : Fld := ⟨0x4006002C, 0x100, 4, 15, 0, .ro, .warm, false, 0, []⟩
/-- R101 CNT_KEY [31:0] RW: CNT_KEY: completed ramp-ups; CNT_ON: carrier-on time, 10 µs units; CNT_DENY: RGE refusals and withdrawals, slo -/
def UTX.CNT_KEY_COUNT : Fld := ⟨0x40060030, 0x100, 4, 31, 0, .rw, .warm, false, 0, []⟩
/-- R101 CNT_ON [31:0] RW: CNT_KEY: completed ramp-ups; CNT_ON: carrier-on time, 10 µs units; CNT_DENY: RGE refusals and withdrawals, slo -/
def UTX.CNT_ON_COUNT : Fld := ⟨0x40060034, 0x100, 4, 31, 0, .rw, .warm, false, 0, []⟩
/-- R101 CNT_DENY [31:0] RW: CNT_KEY: completed ramp-ups; CNT_ON: carrier-on time, 10 µs units; CNT_DENY: RGE refusals and withdrawals, slo -/
def UTX.CNT_DENY_COUNT : Fld := ⟨0x40060038, 0x100, 4, 31, 0, .rw, .warm, false, 0, []⟩
/-- R101 CNT_FAULT [31:0] RW: CNT_KEY: completed ramp-ups; CNT_ON: carrier-on time, 10 µs units; CNT_DENY: RGE refusals and withdrawals, slo -/
def UTX.CNT_FAULT_COUNT : Fld := ⟨0x4006003C, 0x100, 4, 31, 0, .rw, .warm, false, 0, []⟩

/-- The fields of UTX, part 0. -/
def UTX.fields0 : List Fld := [UTX.ID_BLOCK, UTX.ID_REV, UTX.CTRL_LO_SRC, UTX.CTRL_LATE_POLICY, UTX.CTRL_PA_CHECK, UTX.CMD_REQ, UTX.STATE_LEASED, UTX.STATE_OWNER, UTX.STATE_LAST_ERR, UTX.STATE_CARRIER, UTX.STATE_RAMP, UTX.STATE_WAIT, UTX.STATE_STATE, UTX.STATUS_SAT, UTX.STATUS_TA_LATE, UTX.STATUS_PA_FAULT, UTX.STATUS_LOL_RAMP, UTX.STATUS_RGE_DENY, UTX.STATUS_CMD_ERR, UTX.STATUS_WAIT_FAIL, UTX.STATUS_RAMP_DONE, UTX.STATUS_STATE_CHG, UTX.PWR_EFF_IDX, UTX.PWR_GROUP, UTX.PWR_IDX, UTX.MOD_CFG_PAD, UTX.MOD_CFG_SHAPE, UTX.MOD_CFG_MODE, UTX.MOD_CFG_DEPTH, UTX.PHASE_TRIM, UTX.PHASE_STEER, UTX.FWD_EXPECT, UTX.FWD_FWD, UTX.PA_PA_EN, UTX.PA_DRV, UTX.PA_SUPPLY, UTX.PA_BIAS, UTX.LIMITS_SYNTH_WAIT, UTX.LIMITS_TOL_US, UTX.LIMITS_TOL]
/-- The fields of UTX, part 1. -/
def UTX.fields1 : List Fld := [UTX.TEMP_TEMP, UTX.CNT_KEY_COUNT, UTX.CNT_ON_COUNT, UTX.CNT_DENY_COUNT, UTX.CNT_FAULT_COUNT]
/-- Every field of the register tables of UTX. -/
def UTX.fields : List Fld := UTX.fields0 ++ UTX.fields1

/-- R102 ID [31:16] RO: block code -/
def RFS.ID_BLOCK : Fld := ⟨0x40070000, 0x100, 4, 31, 16, .ro, .warm, false, 7, []⟩
/-- R102 ID [15:0] RO: block revision -/
def RFS.ID_REV : Fld := ⟨0x40070000, 0x100, 4, 15, 0, .ro, .warm, false, 256, []⟩
/-- R102 CTRL [12:8] RW: calibration trigger, °C; 0 acts as 1 -/
def RFS.CTRL_TDELTA : Fld := ⟨0x40070004, 0x100, 4, 12, 8, .rw, .warm, false, 6, []⟩
/-- R102 CTRL [2:2] RW: temperature trigger enable (R81) -/
def RFS.CTRL_AUTO_TCAL : Fld := ⟨0x40070004, 0x100, 4, 2, 2, .rw, .warm, false, 1, []⟩
/-- R102 CTRL [1:1] RW: use band hints (R78) -/
def RFS.CTRL_HINT_EN : Fld := ⟨0x40070004, 0x100, 4, 1, 1, .rw, .warm, false, 1, []⟩
/-- R102 FREQ [25:20] RW: channel index for hint lookup -/
def RFS.FREQ_CHAN : Fld := ⟨0x40070008, 0x100, 4, 25, 20, .rw, .warm, false, 0, []⟩
/-- R102 FREQ [19:0] RW: output frequency, kHz (840,000 at reset) -/
def RFS.FREQ_KHZ : Fld := ⟨0x40070008, 0x100, 4, 19, 0, .rw, .warm, false, 840000, []⟩
/-- R102 CMD [2:2] WP: run the synthesizer calibration (R82); written with FULL or LOCK, CAL alone acts, since it ends in a full re-l -/
def RFS.CMD_CAL : Fld := ⟨0x4007000C, 0x100, 4, 2, 2, .wp, .warm, false, 0, []⟩
/-- R102 CMD [1:1] WP: lock with a full search; written with LOCK, FULL acts -/
def RFS.CMD_FULL : Fld := ⟨0x4007000C, 0x100, 4, 1, 1, .wp, .warm, false, 0, []⟩
/-- R102 CMD [0:0] WP: lock, hinted where possible -/
def RFS.CMD_LOCK : Fld := ⟨0x4007000C, 0x100, 4, 0, 0, .wp, .warm, false, 0, []⟩
/-- R102 STATE [17:17] RO: temperature calibration deferred -/
def RFS.STATE_CAL_PENDING : Fld := ⟨0x40070010, 0x100, 4, 17, 17, .ro, .warm, false, 0, []⟩
/-- R102 STATE [16:16] RO: last lock used a hint -/
def RFS.STATE_HINT_USED : Fld := ⟨0x40070010, 0x100, 4, 16, 16, .ro, .warm, false, 0, []⟩
/-- R102 STATE [13:8] RO: current VCO band -/
def RFS.STATE_BAND : Fld := ⟨0x40070010, 0x100, 4, 13, 8, .ro, .warm, false, 0, []⟩
/-- R102 STATE [7:4] RO: temperature bin (R80) -/
def RFS.STATE_TBIN : Fld := ⟨0x40070010, 0x100, 4, 7, 4, .ro, .warm, false, 0, []⟩
/-- R102 STATE [2:0] RO: 0 OFF, 1 IDLE, 2 SEARCH, 3 SETTLE, 4 LOCKED, 5 COAST, 6 CAL -/
def RFS.STATE_STATE : Fld := ⟨0x40070010, 0x100, 4, 2, 0, .ro, .warm, false, 0, []⟩
/-- R102 STATUS [6:6] RC: command refused: to a gang member's synthesizer (R97), or LOCK or FULL while a fed chain carries carrier (R84) -/
def RFS.STATUS_REFUSED : Fld := ⟨0x40070014, 0x100, 4, 6, 6, .rc, .warm, false, 0, []⟩
/-- R102 STATUS [5:5] RC: KHZ outside range -/
def RFS.STATUS_RANGE_ERR : Fld := ⟨0x40070014, 0x100, 4, 5, 5, .rc, .warm, false, 0, []⟩
/-- R102 STATUS [4:4] RC: R79 -/
def RFS.STATUS_HINT_MISS : Fld := ⟨0x40070014, 0x100, 4, 4, 4, .rc, .warm, false, 0, []⟩
/-- R102 STATUS [3:3] RC: R81 -/
def RFS.STATUS_CAL_DEFER : Fld := ⟨0x40070014, 0x100, 4, 3, 3, .rc, .warm, false, 0, []⟩
/-- R102 STATUS [2:2] RC: calibration completed -/
def RFS.STATUS_CAL_DONE : Fld := ⟨0x40070014, 0x100, 4, 2, 2, .rc, .warm, false, 0, []⟩
/-- R102 STATUS [1:1] RC: loss of lock -/
def RFS.STATUS_LOL : Fld := ⟨0x40070014, 0x100, 4, 1, 1, .rc, .warm, false, 0, []⟩
/-- R102 STATUS [0:0] RC: lock achieved -/
def RFS.STATUS_LOCK : Fld := ⟨0x40070014, 0x100, 4, 0, 0, .rc, .warm, false, 0, []⟩
/-- R102 MON [31:20] RO: tuning-voltage monitor, 12-bit -/
def RFS.MON_VTUNE : Fld := ⟨0x40070018, 0x100, 4, 31, 20, .ro, .warm, false, 0, []⟩
/-- R102 MON [15:0] RO: duration of the last lock, REFCLK cycles -/
def RFS.MON_LOCK_TIME : Fld := ⟨0x40070018, 0x100, 4, 15, 0, .ro, .warm, false, 0, []⟩
/-- R102 TEMP [31:16] RO: temperature at the last calibration, signed, 0.125 °C; 0x8000 none; loaded from the calibration record at RADI -/
def RFS.TEMP_CAL_TEMP : Fld := ⟨0x4007001C, 0x100, 4, 31, 16, .ro, .warm, false, 32768, []⟩
/-- R102 TEMP [15:0] RO: synthesizer temperature, signed, 0.125 °C -/
def RFS.TEMP_TEMP : Fld := ⟨0x4007001C, 0x100, 4, 15, 0, .ro, .warm, false, 0, []⟩

/-- The fields of RFS, part 0. -/
def RFS.fields0 : List Fld := [RFS.ID_BLOCK, RFS.ID_REV, RFS.CTRL_TDELTA, RFS.CTRL_AUTO_TCAL, RFS.CTRL_HINT_EN, RFS.FREQ_CHAN, RFS.FREQ_KHZ, RFS.CMD_CAL, RFS.CMD_FULL, RFS.CMD_LOCK, RFS.STATE_CAL_PENDING, RFS.STATE_HINT_USED, RFS.STATE_BAND, RFS.STATE_TBIN, RFS.STATE_STATE, RFS.STATUS_REFUSED, RFS.STATUS_RANGE_ERR, RFS.STATUS_HINT_MISS, RFS.STATUS_CAL_DEFER, RFS.STATUS_CAL_DONE, RFS.STATUS_LOL, RFS.STATUS_LOCK, RFS.MON_VTUNE, RFS.MON_LOCK_TIME, RFS.TEMP_CAL_TEMP, RFS.TEMP_TEMP]
/-- Every field of the register tables of RFS. -/
def RFS.fields : List Fld := RFS.fields0

/-- R130 ID [31:16] RO: block code -/
def URX.ID_BLOCK : Fld := ⟨0x40080000, 0x0, 1, 31, 16, .ro, .warm, false, 8, []⟩
/-- R130 ID [15:0] RO: block revision -/
def URX.ID_REV : Fld := ⟨0x40080000, 0x0, 1, 15, 0, .ro, .warm, false, 256, []⟩
/-- R130 CAP_CTRL [2:2] WP: end the capture at the current instant -/
def URX.CAP_CTRL_STOP : Fld := ⟨0x40080004, 0x0, 1, 2, 2, .wp, .warm, false, 0, []⟩
/-- R130 CAP_CTRL [1:1] WP: software trigger (TSRC 0) -/
def URX.CAP_CTRL_TRIG : Fld := ⟨0x40080004, 0x0, 1, 1, 1, .wp, .warm, false, 0, []⟩
/-- R130 CAP_CTRL [0:0] WP: check and arm (R126) -/
def URX.CAP_CTRL_ARM : Fld := ⟨0x40080004, 0x0, 1, 0, 0, .wp, .warm, false, 0, []⟩
/-- R130 CAP_CFG [31:16] RW: chains URX15 to URX0 captured -/
def URX.CAP_CFG_MASK : Fld := ⟨0x40080008, 0x0, 1, 31, 16, .rw, .warm, false, 0, []⟩
/-- R130 CAP_CFG [9:8] RW: sheaf for TSRC 5 -/
def URX.CAP_CFG_TSHEAF : Fld := ⟨0x40080008, 0x0, 1, 9, 8, .rw, .warm, false, 0, []⟩
/-- R130 CAP_CFG [6:4] RW: trigger source (R127) -/
def URX.CAP_CFG_TSRC : Fld := ⟨0x40080008, 0x0, 1, 6, 4, .rw, .warm, false, 0, []⟩
/-- R130 CAP_CFG [3:3] RW: 0 linear, 1 ring with pre-trigger -/
def URX.CAP_CFG_RING : Fld := ⟨0x40080008, 0x0, 1, 3, 3, .rw, .warm, false, 0, []⟩
/-- R130 CAP_CFG [1:0] RW: tap (R125) -/
def URX.CAP_CFG_POINT : Fld := ⟨0x40080008, 0x0, 1, 1, 0, .rw, .warm, false, 0, []⟩
/-- R130 CAP_LEN [18:0] RW: CAP_LEN: instants stored from the trigger; CAP_PRE: instants kept before it (RING = 1) -/
def URX.CAP_LEN_INSTANTS : Fld := ⟨0x4008000C, 0x0, 1, 18, 0, .rw, .warm, false, 0, []⟩
/-- R130 CAP_PRE [18:0] RW: CAP_LEN: instants stored from the trigger; CAP_PRE: instants kept before it (RING = 1) -/
def URX.CAP_PRE_INSTANTS : Fld := ⟨0x40080010, 0x0, 1, 18, 0, .rw, .warm, false, 0, []⟩
/-- R130 CAP_STATUS [9:9] RO: armed, awaiting the trigger -/
def URX.CAP_STATUS_ARMED : Fld := ⟨0x40080014, 0x0, 1, 9, 9, .ro, .warm, false, 0, []⟩
/-- R130 CAP_STATUS [8:8] RO: storing -/
def URX.CAP_STATUS_RUNNING : Fld := ⟨0x40080014, 0x0, 1, 8, 8, .ro, .warm, false, 0, []⟩
/-- R130 CAP_STATUS [3:3] RC: trigger ignored -/
def URX.CAP_STATUS_TRIG_LOST : Fld := ⟨0x40080014, 0x0, 1, 3, 3, .rc, .warm, false, 0, []⟩
/-- R130 CAP_STATUS [2:2] RC: aborted by RADIO power-off -/
def URX.CAP_STATUS_ABORT : Fld := ⟨0x40080014, 0x0, 1, 2, 2, .rc, .warm, false, 0, []⟩
/-- R130 CAP_STATUS [1:1] RC: ARM refused -/
def URX.CAP_STATUS_CFG_ERR : Fld := ⟨0x40080014, 0x0, 1, 1, 1, .rc, .warm, false, 0, []⟩
/-- R130 CAP_STATUS [0:0] RC: capture complete -/
def URX.CAP_STATUS_DONE : Fld := ⟨0x40080014, 0x0, 1, 0, 0, .rc, .warm, false, 0, []⟩
/-- R130 CAP_PTR [18:0] RO: CAP_PTR: oldest instant; CAP_COUNT: instants stored; CAP_TIDX: trigger instant -/
def URX.CAP_PTR_INDEX : Fld := ⟨0x40080018, 0x0, 1, 18, 0, .ro, .warm, false, 0, []⟩
/-- R130 CAP_COUNT [18:0] RO: CAP_PTR: oldest instant; CAP_COUNT: instants stored; CAP_TIDX: trigger instant -/
def URX.CAP_COUNT_INDEX : Fld := ⟨0x4008001C, 0x0, 1, 18, 0, .ro, .warm, false, 0, []⟩
/-- R130 CAP_TIDX [18:0] RO: CAP_PTR: oldest instant; CAP_COUNT: instants stored; CAP_TIDX: trigger instant -/
def URX.CAP_TIDX_INDEX : Fld := ⟨0x40080028, 0x0, 1, 18, 0, .ro, .warm, false, 0, []⟩
/-- R130 CAP_STAMP_LO [15:0] RO: trigger angle; the read latches the cycle into this master's shadow -/
def URX.CAP_STAMP_LO_ANGLE : Fld := ⟨0x40080020, 0x0, 1, 15, 0, .ro, .warm, false, 0, []⟩
/-- R130 CAP_STAMP_HI [31:0] RO: this master's shadow of the trigger cycle -/
def URX.CAP_STAMP_HI_CYCLE : Fld := ⟨0x40080024, 0x0, 1, 31, 0, .ro, .warm, false, 0, []⟩
/-- R130 HOLD_SUM [31:16] RO: chains URX15 to URX0 excluded -/
def URX.HOLD_SUM_EXCL : Fld := ⟨0x4008002C, 0x0, 1, 31, 16, .ro, .warm, false, 0, []⟩
/-- R130 HOLD_SUM [15:0] RO: chains URX15 to URX0 with NULL_READY -/
def URX.HOLD_SUM_HELD : Fld := ⟨0x4008002C, 0x0, 1, 15, 0, .ro, .warm, false, 0, []⟩
/-- R130 OVL_SUM [31:16] RO: chains with STATE.COAST -/
def URX.OVL_SUM_COAST : Fld := ⟨0x40080030, 0x0, 1, 31, 16, .ro, .warm, false, 0, []⟩
/-- R130 OVL_SUM [15:0] RO: chains overloaded in the current window -/
def URX.OVL_SUM_OVL : Fld := ⟨0x40080030, 0x0, 1, 15, 0, .ro, .warm, false, 0, []⟩
/-- R130 REPLY_SEQ [15:0] RO: tag of the last decided window; wraps (R122) -/
def URX.REPLY_SEQ_SEQ : Fld := ⟨0x40080034, 0x0, 1, 15, 0, .ro, .warm, false, 0, []⟩
/-- R130 DIG_CFG [5:4] RW: DC corner: 0 500 Hz, 1 1 kHz, 2 2 kHz, 3 4 kHz -/
def URX.DIG_CFG_HPF : Fld := ⟨0x40080038, 0x0, 1, 5, 4, .rw, .warm, false, 1, []⟩
/-- R130 DIG_CFG [1:1] RW: foreign-carrier tone tracker (R118) -/
def URX.DIG_CFG_FTRK : Fld := ⟨0x40080038, 0x0, 1, 1, 1, .rw, .warm, false, 1, []⟩
/-- R130 DIG_CFG [0:0] RW: residual-carrier removal (R121) -/
def URX.DIG_CFG_RCR : Fld := ⟨0x40080038, 0x0, 1, 0, 0, .rw, .warm, false, 1, []⟩
/-- R130 HOLD_CFG [31:16] RW: hold limit, Q8.8 dBm (−55.00) -/
def URX.HOLD_CFG_LIM : Fld := ⟨0x4008003C, 0x0, 1, 31, 16, .rw, .warm, false, 51456, []⟩
/-- R130 HOLD_CFG [15:8] RW: persistence, µs; 0 acts as 1 -/
def URX.HOLD_CFG_HOLD_US : Fld := ⟨0x4008003C, 0x0, 1, 15, 8, .rw, .warm, false, 8, []⟩
/-- R130 HOLD_CFG [7:4] RW: rejoin hysteresis, dB -/
def URX.HOLD_CFG_HYST : Fld := ⟨0x4008003C, 0x0, 1, 7, 4, .rw, .warm, false, 3, []⟩
/-- R130 HOLD_CFG [1:0] RW: R115 -/
def URX.HOLD_CFG_POLICY : Fld := ⟨0x4008003C, 0x0, 1, 1, 0, .rw, .warm, false, 1, []⟩
/-- R130 CTRL [8:8] RW: per-window gain choice (R120) -/
def URX.CTRL_AGC : Fld := ⟨0x40080400, 0x40, 16, 8, 8, .rw, .warm, false, 1, []⟩
/-- R130 CTRL [6:4] RW: baseband gain, 6 dB steps -/
def URX.CTRL_GAIN : Fld := ⟨0x40080400, 0x40, 16, 6, 4, .rw, .warm, false, 7, []⟩
/-- R130 CTRL [3:2] RW: R112 -/
def URX.CTRL_TRK_BW : Fld := ⟨0x40080400, 0x40, 16, 3, 2, .rw, .warm, false, 2, []⟩
/-- R130 CTRL [1:1] RW: seed from cache (R111) -/
def URX.CTRL_SEED_EN : Fld := ⟨0x40080400, 0x40, 16, 1, 1, .rw, .warm, false, 1, []⟩
/-- R130 CTRL [0:0] RW: chain enable -/
def URX.CTRL_EN : Fld := ⟨0x40080400, 0x40, 16, 0, 0, .rw, .warm, false, 1, []⟩
/-- R130 STATE [21:20] RO: bound sheaf -/
def URX.STATE_SHEAF : Fld := ⟨0x40080404, 0x40, 16, 21, 20, .ro, .warm, false, 0, []⟩
/-- R130 STATE [19:18] RO: synthesizer supplying the LO -/
def URX.STATE_LO_SRC : Fld := ⟨0x40080404, 0x40, 16, 19, 18, .ro, .warm, false, 0, []⟩
/-- R130 STATE [14:12] RO: applied gain -/
def URX.STATE_GAIN_APP : Fld := ⟨0x40080404, 0x40, 16, 14, 12, .ro, .warm, false, 7, []⟩
/-- R130 STATE [7:7] RO: excluded (R115) -/
def URX.STATE_EXCL : Fld := ⟨0x40080404, 0x40, 16, 7, 7, .ro, .warm, false, 0, []⟩
/-- R130 STATE [6:6] RO: LO coasting (R119) -/
def URX.STATE_COAST : Fld := ⟨0x40080404, 0x40, 16, 6, 6, .ro, .warm, false, 0, []⟩
/-- R130 STATE [5:5] RO: holding -/
def URX.STATE_NULL_READY : Fld := ⟨0x40080404, 0x40, 16, 5, 5, .ro, .warm, false, 0, []⟩
/-- R130 STATE [2:0] RO: R106 -/
def URX.STATE_STATE : Fld := ⟨0x40080404, 0x40, 16, 2, 0, .ro, .warm, false, 0, []⟩
/-- R130 STATUS [7:7] RC: a counter saturated -/
def URX.STATUS_SAT : Fld := ⟨0x40080408, 0x40, 16, 7, 7, .rc, .warm, false, 0, []⟩
/-- R130 STATUS [6:6] RC: write ignored -/
def URX.STATUS_CMD_ERR : Fld := ⟨0x40080408, 0x40, 16, 6, 6, .rc, .warm, false, 0, []⟩
/-- R130 STATUS [5:5] RC: vector at full scale -/
def URX.STATUS_CNV_SAT : Fld := ⟨0x40080408, 0x40, 16, 5, 5, .rc, .warm, false, 0, []⟩
/-- R130 STATUS [4:4] RC: hold regained -/
def URX.STATUS_REJOIN : Fld := ⟨0x40080408, 0x40, 16, 4, 4, .rc, .warm, false, 0, []⟩
/-- R130 STATUS [3:3] RC: ADC overload -/
def URX.STATUS_OVERLOAD : Fld := ⟨0x40080408, 0x40, 16, 3, 3, .rc, .warm, false, 0, []⟩
/-- R130 STATUS [2:2] RC: hold lost -/
def URX.STATUS_HOLD_LOST : Fld := ⟨0x40080408, 0x40, 16, 2, 2, .rc, .warm, false, 0, []⟩
/-- R130 STATUS [1:1] RC: window opened before first hold -/
def URX.STATUS_ACQ_LATE : Fld := ⟨0x40080408, 0x40, 16, 1, 1, .rc, .warm, false, 0, []⟩
/-- R130 STATUS [0:0] RC: state changed -/
def URX.STATUS_STATE_CHG : Fld := ⟨0x40080408, 0x40, 16, 0, 0, .rc, .warm, false, 0, []⟩
/-- R130 OFS_TRIM [15:8] RW: I offset, signed, 0.25 mV -/
def URX.OFS_TRIM_OFS_I : Fld := ⟨0x4008040C, 0x40, 16, 15, 8, .rw, .warm, false, 0, []⟩
/-- R130 OFS_TRIM [7:0] RW: Q offset, signed, 0.25 mV -/
def URX.OFS_TRIM_OFS_Q : Fld := ⟨0x4008040C, 0x40, 16, 7, 0, .rw, .warm, false, 0, []⟩
/-- R130 IQ_TRIM [13:7] RW: signed, 0.1° -/
def URX.IQ_TRIM_PHASE : Fld := ⟨0x40080410, 0x40, 16, 13, 7, .rw, .warm, false, 0, []⟩
/-- R130 IQ_TRIM [5:0] RW: signed, 0.05 dB -/
def URX.IQ_TRIM_GAIN : Fld := ⟨0x40080410, 0x40, 16, 5, 0, .rw, .warm, false, 0, []⟩
/-- R130 CNV_CTRL [8:8] RW: stop the loop (test) -/
def URX.CNV_CTRL_FREEZE : Fld := ⟨0x40080414, 0x40, 16, 8, 8, .rw, .warm, false, 0, []⟩
/-- R130 CNV_CTRL [1:0] RO: coarse attenuation (R110) -/
def URX.CNV_CTRL_CRS : Fld := ⟨0x40080414, 0x40, 16, 1, 0, .ro, .warm, false, 0, []⟩
/-- R130 CNV_VEC [27:16] RW: signed; writable per R123 -/
def URX.CNV_VEC_VEC_Q : Fld := ⟨0x40080418, 0x40, 16, 27, 16, .rw, .warm, false, 0, []⟩
/-- R130 CNV_VEC [11:0] RW: signed; writable per R123 -/
def URX.CNV_VEC_VEC_I : Fld := ⟨0x40080418, 0x40, 16, 11, 0, .rw, .warm, false, 0, []⟩
/-- R130 CNV_MON [31:16] RO: residual, Q8.8 dBm; 0x8000 not valid -/
def URX.CNV_MON_RESID : Fld := ⟨0x4008041C, 0x40, 16, 31, 16, .ro, .warm, false, 32768, []⟩
/-- R130 CNV_MON [15:0] RO: JAM − RESID, Q8.8 dB -/
def URX.CNV_MON_DEPTH : Fld := ⟨0x4008041C, 0x40, 16, 15, 0, .ro, .warm, false, 0, []⟩
/-- R130 JAM [15:0] RO: JAM: cancelled jammer, Q8.8 dBm (R110); FOFS: foreign-carrier offset, signed, Hz (R118) -/
def URX.JAM_VALUE : Fld := ⟨0x40080420, 0x40, 16, 15, 0, .ro, .warm, false, 0, []⟩
/-- R130 FOFS [15:0] RO: JAM: cancelled jammer, Q8.8 dBm (R110); FOFS: foreign-carrier offset, signed, Hz (R118) -/
def URX.FOFS_VALUE : Fld := ⟨0x40080424, 0x40, 16, 15, 0, .ro, .warm, false, 0, []⟩
/-- R130 PHASOR [31:16] RO: last reply phasor, signed -/
def URX.PHASOR_Q : Fld := ⟨0x40080428, 0x40, 16, 31, 16, .ro, .warm, false, 0, []⟩
/-- R130 PHASOR [15:0] RO: last reply phasor, signed -/
def URX.PHASOR_I : Fld := ⟨0x40080428, 0x40, 16, 15, 0, .ro, .warm, false, 0, []⟩
/-- R130 RSSI [31:16] RO: noise floor, signed, 1/16 dBm -/
def URX.RSSI_NOISE : Fld := ⟨0x4008042C, 0x40, 16, 31, 16, .ro, .warm, false, 0, []⟩
/-- R130 RSSI [15:0] RO: last reply, signed, 1/16 dBm -/
def URX.RSSI_RSSI : Fld := ⟨0x4008042C, 0x40, 16, 15, 0, .ro, .warm, false, 0, []⟩
/-- R130 REPLY [31:16] RO: tag of the reply held in PHASOR and RSSI -/
def URX.REPLY_SEQ : Fld := ⟨0x40080430, 0x40, 16, 31, 16, .ro, .warm, false, 0, []⟩
/-- R130 REPLY [4:4] RO: received in RX_FOREIGN -/
def URX.REPLY_FOREIGN : Fld := ⟨0x40080430, 0x40, 16, 4, 4, .ro, .warm, false, 0, []⟩
/-- R130 REPLY [3:3] RO: received while coasting -/
def URX.REPLY_COAST : Fld := ⟨0x40080430, 0x40, 16, 3, 3, .ro, .warm, false, 0, []⟩
/-- R130 REPLY [2:2] RO: overload during the reply -/
def URX.REPLY_OVL : Fld := ⟨0x40080430, 0x40, 16, 2, 2, .ro, .warm, false, 0, []⟩
/-- R130 REPLY [1:1] RO: chain excluded -/
def URX.REPLY_EXCL : Fld := ⟨0x40080430, 0x40, 16, 1, 1, .ro, .warm, false, 0, []⟩
/-- R130 REPLY [0:0] RO: null held -/
def URX.REPLY_HELD : Fld := ⟨0x40080430, 0x40, 16, 0, 0, .ro, .warm, false, 0, []⟩
/-- R130 CNT_REPLY [31:0] RW: CNT_REPLY: decided replies; CNT_HOLD: hold losses; CNT_OVL: overloads; saturating -/
def URX.CNT_REPLY_COUNT : Fld := ⟨0x40080434, 0x40, 16, 31, 0, .rw, .warm, false, 0, []⟩
/-- R130 CNT_HOLD [31:0] RW: CNT_REPLY: decided replies; CNT_HOLD: hold losses; CNT_OVL: overloads; saturating -/
def URX.CNT_HOLD_COUNT : Fld := ⟨0x40080438, 0x40, 16, 31, 0, .rw, .warm, false, 0, []⟩
/-- R130 CNT_OVL [31:0] RW: CNT_REPLY: decided replies; CNT_HOLD: hold losses; CNT_OVL: overloads; saturating -/
def URX.CNT_OVL_COUNT : Fld := ⟨0x4008043C, 0x40, 16, 31, 0, .rw, .warm, false, 0, []⟩

/-- The fields of URX, part 0. -/
def URX.fields0 : List Fld := [URX.ID_BLOCK, URX.ID_REV, URX.CAP_CTRL_STOP, URX.CAP_CTRL_TRIG, URX.CAP_CTRL_ARM, URX.CAP_CFG_MASK, URX.CAP_CFG_TSHEAF, URX.CAP_CFG_TSRC, URX.CAP_CFG_RING, URX.CAP_CFG_POINT, URX.CAP_LEN_INSTANTS, URX.CAP_PRE_INSTANTS, URX.CAP_STATUS_ARMED, URX.CAP_STATUS_RUNNING, URX.CAP_STATUS_TRIG_LOST, URX.CAP_STATUS_ABORT, URX.CAP_STATUS_CFG_ERR, URX.CAP_STATUS_DONE, URX.CAP_PTR_INDEX, URX.CAP_COUNT_INDEX, URX.CAP_TIDX_INDEX, URX.CAP_STAMP_LO_ANGLE, URX.CAP_STAMP_HI_CYCLE, URX.HOLD_SUM_EXCL, URX.HOLD_SUM_HELD, URX.OVL_SUM_COAST, URX.OVL_SUM_OVL, URX.REPLY_SEQ_SEQ, URX.DIG_CFG_HPF, URX.DIG_CFG_FTRK, URX.DIG_CFG_RCR, URX.HOLD_CFG_LIM, URX.HOLD_CFG_HOLD_US, URX.HOLD_CFG_HYST, URX.HOLD_CFG_POLICY, URX.CTRL_AGC, URX.CTRL_GAIN, URX.CTRL_TRK_BW, URX.CTRL_SEED_EN, URX.CTRL_EN]
/-- The fields of URX, part 1. -/
def URX.fields1 : List Fld := [URX.STATE_SHEAF, URX.STATE_LO_SRC, URX.STATE_GAIN_APP, URX.STATE_EXCL, URX.STATE_COAST, URX.STATE_NULL_READY, URX.STATE_STATE, URX.STATUS_SAT, URX.STATUS_CMD_ERR, URX.STATUS_CNV_SAT, URX.STATUS_REJOIN, URX.STATUS_OVERLOAD, URX.STATUS_HOLD_LOST, URX.STATUS_ACQ_LATE, URX.STATUS_STATE_CHG, URX.OFS_TRIM_OFS_I, URX.OFS_TRIM_OFS_Q, URX.IQ_TRIM_PHASE, URX.IQ_TRIM_GAIN, URX.CNV_CTRL_FREEZE, URX.CNV_CTRL_CRS, URX.CNV_VEC_VEC_Q, URX.CNV_VEC_VEC_I, URX.CNV_MON_RESID, URX.CNV_MON_DEPTH, URX.JAM_VALUE, URX.FOFS_VALUE, URX.PHASOR_Q, URX.PHASOR_I, URX.RSSI_NOISE, URX.RSSI_RSSI, URX.REPLY_SEQ, URX.REPLY_FOREIGN, URX.REPLY_COAST, URX.REPLY_OVL, URX.REPLY_EXCL, URX.REPLY_HELD, URX.CNT_REPLY_COUNT, URX.CNT_HOLD_COUNT, URX.CNT_OVL_COUNT]
/-- Every field of the register tables of URX. -/
def URX.fields : List Fld := URX.fields0 ++ URX.fields1

/-- R182 ID [31:16] RO: block code -/
def SHF.ID_BLOCK : Fld := ⟨0x40090000, 0x0, 1, 31, 16, .ro, .warm, false, 9, []⟩
/-- R182 ID [15:0] RO: block revision -/
def SHF.ID_REV : Fld := ⟨0x40090000, 0x0, 1, 15, 0, .ro, .warm, false, 256, []⟩
/-- R182 ANT_SEL [15:12] RW: ANT3_SEL (R159, R160) -/
def SHF.ANT_SEL_ANT3 : Fld := ⟨0x40090004, 0x0, 1, 15, 12, .rw, .warm, false, 0, []⟩
/-- R182 ANT_SEL [11:8] RW: ANT2_SEL -/
def SHF.ANT_SEL_ANT2 : Fld := ⟨0x40090004, 0x0, 1, 11, 8, .rw, .warm, false, 0, []⟩
/-- R182 ANT_SEL [7:4] RW: ANT1_SEL -/
def SHF.ANT_SEL_ANT1 : Fld := ⟨0x40090004, 0x0, 1, 7, 4, .rw, .warm, false, 0, []⟩
/-- R182 ANT_SEL [3:0] RW: ANT0_SEL -/
def SHF.ANT_SEL_ANT0 : Fld := ⟨0x40090004, 0x0, 1, 3, 0, .rw, .warm, false, 0, []⟩
/-- R182 ANT_CFG [7:0] RW: switch settle, 0.1 µs units -/
def SHF.ANT_CFG_SETTLE : Fld := ⟨0x40090008, 0x0, 1, 7, 0, .rw, .warm, false, 10, []⟩
/-- R182 ISO [13:8] RW: chain × 16 + antenna index -/
def SHF.ISO_ADDR : Fld := ⟨0x4009000C, 0x0, 1, 13, 8, .rw, .warm, false, 0, []⟩
/-- R182 ISO [7:0] RW: isolation, dB; a write stores DATA at ADDR; a read returns the entry at ADDR; ignored while any sheaf is lease -/
def SHF.ISO_DATA : Fld := ⟨0x4009000C, 0x0, 1, 7, 0, .rw, .warm, false, 0, []⟩
/-- R182 GEO_ADDR [3:0] RW: receive chain addressed by GEO_DATA -/
def SHF.GEO_ADDR_CHAIN : Fld := ⟨0x40090010, 0x0, 1, 3, 0, .rw, .warm, false, 0, []⟩
/-- R182 GEO_DATA [31:16] RW: signed mm; 0x8000 in both fields means no element -/
def SHF.GEO_DATA_Y : Fld := ⟨0x40090014, 0x0, 1, 31, 16, .rw, .warm, false, 0, []⟩
/-- R182 GEO_DATA [15:0] RW: signed mm; writes ignored while any sheaf is leased -/
def SHF.GEO_DATA_X : Fld := ⟨0x40090014, 0x0, 1, 15, 0, .rw, .warm, false, 0, []⟩
/-- R182 BEAR_CFG [31:31] RW: estimator enable -/
def SHF.BEAR_CFG_EN : Fld := ⟨0x40090018, 0x0, 1, 31, 31, .rw, .warm, false, 1, []⟩
/-- R182 BEAR_CFG [15:8] RW: search limit off boresight, degrees; clamped to 10 to 85 -/
def SHF.BEAR_CFG_FOV : Fld := ⟨0x40090018, 0x0, 1, 15, 8, .rw, .warm, false, 75, []⟩
/-- R182 BEAR_CFG [4:0] RW: fewest chains for a result; clamped to 3 to 16 -/
def SHF.BEAR_CFG_MIN_CHAINS : Fld := ⟨0x40090018, 0x0, 1, 4, 0, .rw, .warm, false, 6, []⟩
/-- R182 GSTATUS [0:0] RC: an ANT_SEL, ISO or GEO_DATA write was ignored -/
def SHF.GSTATUS_CMD_ERR : Fld := ⟨0x4009001C, 0x0, 1, 0, 0, .rc, .warm, false, 0, []⟩
/-- R182 LEASE_CMD [31:31] WP: end the lease (R157) -/
def SHF.LEASE_CMD_RELEASE : Fld := ⟨0x40090400, 0x100, 4, 31, 31, .wp, .warm, false, 0, []⟩
/-- R182 LEASE_CMD [30:30] WP: take the lease (R154) -/
def SHF.LEASE_CMD_GO : Fld := ⟨0x40090400, 0x100, 4, 30, 30, .wp, .warm, false, 0, []⟩
/-- R182 LEASE_CMD [12:8] RW: slot index in the plan -/
def SHF.LEASE_CMD_SLOT : Fld := ⟨0x40090400, 0x100, 4, 12, 8, .rw, .warm, false, 0, []⟩
/-- R182 LEASE_CMD [3:0] RW: sequencer to lease to -/
def SHF.LEASE_CMD_SEQ : Fld := ⟨0x40090400, 0x100, 4, 3, 0, .rw, .warm, false, 0, []⟩
/-- R182 LEASE_STATE [31:31] RO: lease held -/
def SHF.LEASE_STATE_HELD : Fld := ⟨0x40090404, 0x100, 4, 31, 31, .ro, .warm, false, 0, []⟩
/-- R182 LEASE_STATE [27:24] RO: holding sequencer -/
def SHF.LEASE_STATE_OWNER : Fld := ⟨0x40090404, 0x100, 4, 27, 24, .ro, .warm, false, 0, []⟩
/-- R182 LEASE_STATE [23:20] RO: last refusal code (R156) -/
def SHF.LEASE_STATE_REFUSE : Fld := ⟨0x40090404, 0x100, 4, 23, 20, .ro, .warm, false, 0, []⟩
/-- R182 LEASE_STATE [19:18] RO: sheaf against which a pair check failed -/
def SHF.LEASE_STATE_OTHER : Fld := ⟨0x40090404, 0x100, 4, 19, 18, .ro, .warm, false, 0, []⟩
/-- R182 LEASE_STATE [15:8] RO: signed dB over the limit (R161) -/
def SHF.LEASE_STATE_MARGIN : Fld := ⟨0x40090404, 0x100, 4, 15, 8, .ro, .warm, false, 0, []⟩
/-- R182 LEASE_STATE [4:0] RO: slot of the lease held -/
def SHF.LEASE_STATE_SLOT : Fld := ⟨0x40090404, 0x100, 4, 4, 0, .ro, .warm, false, 0, []⟩
/-- R182 COMP [31:30] RO: R52 -/
def SHF.COMP_ROLE : Fld := ⟨0x40090408, 0x100, 4, 31, 30, .ro, .warm, false, 0, []⟩
/-- R182 COMP [29:24] RO: channel index -/
def SHF.COMP_CHAN : Fld := ⟨0x40090408, 0x100, 4, 29, 24, .ro, .warm, false, 0, []⟩
/-- R182 COMP [23:20] RO: UTX3 to UTX0 -/
def SHF.COMP_TXMASK : Fld := ⟨0x40090408, 0x100, 4, 23, 20, .ro, .warm, false, 0, []⟩
/-- R182 COMP [17:16] RO: synthesizer supplying the LO -/
def SHF.COMP_LO_USED : Fld := ⟨0x40090408, 0x100, 4, 17, 16, .ro, .warm, false, 0, []⟩
/-- R182 COMP [15:0] RO: URX15 to URX0 -/
def SHF.COMP_RXMASK : Fld := ⟨0x40090408, 0x100, 4, 15, 0, .ro, .warm, false, 0, []⟩
/-- R182 LO_CFG [1:0] RW: synthesizer of a LISTEN sheaf (R158); ignored while leased -/
def SHF.LO_CFG_LO_SYN : Fld := ⟨0x4009040C, 0x100, 4, 1, 0, .rw, .warm, false, 0, [0, 1, 2, 3]⟩
/-- R182 BEAM [20:20] RW: push bearing results (R172) -/
def SHF.BEAM_BQ_EN : Fld := ⟨0x40090410, 0x100, 4, 20, 20, .rw, .warm, false, 0, []⟩
/-- R182 BEAM [19:16] RW: queue for bearing results -/
def SHF.BEAM_BQ : Fld := ⟨0x40090410, 0x100, 4, 19, 16, .rw, .warm, false, 0, []⟩
/-- R182 BEAM [12:8] RO: beams loaded -/
def SHF.BEAM_NBEAMS : Fld := ⟨0x40090410, 0x100, 4, 12, 8, .ro, .warm, false, 1, []⟩
/-- R182 BEAM [3:0] RW: beam in use (R167) -/
def SHF.BEAM_SEL : Fld := ⟨0x40090410, 0x100, 4, 3, 0, .rw, .warm, false, 0, []⟩
/-- R182 STATUS [8:8] RC: a counter saturated -/
def SHF.STATUS_SAT : Fld := ⟨0x40090414, 0x100, 4, 8, 8, .rc, .warm, false, 0, []⟩
/-- R182 STATUS [7:7] RC: a write was ignored -/
def SHF.STATUS_CMD_ERR : Fld := ⟨0x40090414, 0x100, 4, 7, 7, .rc, .warm, false, 0, []⟩
/-- R182 STATUS [6:6] RC: command CRC failed -/
def SHF.STATUS_CF_ERR : Fld := ⟨0x40090414, 0x100, 4, 6, 6, .rc, .warm, false, 0, []⟩
/-- R182 STATUS [5:5] RC: command follow lost the carrier -/
def SHF.STATUS_CF_LOST : Fld := ⟨0x40090414, 0x100, 4, 5, 5, .rc, .warm, false, 0, []⟩
/-- R182 STATUS [4:4] RC: result overwritten or not pushed -/
def SHF.STATUS_BEAR_OVR : Fld := ⟨0x40090414, 0x100, 4, 4, 4, .rc, .warm, false, 0, []⟩
/-- R182 STATUS [3:3] RC: too few chains -/
def SHF.STATUS_BEAR_FAIL : Fld := ⟨0x40090414, 0x100, 4, 3, 3, .rc, .warm, false, 0, []⟩
/-- R182 STATUS [2:2] RC: new result -/
def SHF.STATUS_BEAR_RDY : Fld := ⟨0x40090414, 0x100, 4, 2, 2, .rc, .warm, false, 0, []⟩
/-- R182 STATUS [1:1] RC: lease refused -/
def SHF.STATUS_REFUSED : Fld := ⟨0x40090414, 0x100, 4, 1, 1, .rc, .warm, false, 0, []⟩
/-- R182 STATUS [0:0] RC: lease ended -/
def SHF.STATUS_RETURNED : Fld := ⟨0x40090414, 0x100, 4, 0, 0, .rc, .warm, false, 0, []⟩
/-- R182 CF_STATE [31:16] RO: foreign carrier, Q8.8 dBm; 0x8000 not valid -/
def SHF.CF_STATE_LEVEL : Fld := ⟨0x40090418, 0x100, 4, 31, 16, .ro, .warm, false, 32768, []⟩
/-- R182 CF_STATE [15:8] RO: 0 none, 1 Query, 2 QueryAdjust, 3 QueryRep, 4 ACK, 5 NAK, 6 Req_RN, 7 Select, 8 Read, 9 Write, 10 other native -/
def SHF.CF_STATE_LAST_CMD : Fld := ⟨0x40090418, 0x100, 4, 15, 8, .ro, .warm, false, 0, []⟩
/-- R182 CF_STATE [1:0] RO: R175 -/
def SHF.CF_STATE_STATE : Fld := ⟨0x40090418, 0x100, 4, 1, 0, .ro, .warm, false, 0, []⟩
/-- R182 CF_CFG [31:16] RW: follow threshold, Q8.8 dBm (−70.00) -/
def SHF.CF_CFG_MIN : Fld := ⟨0x4009041C, 0x100, 4, 31, 16, .rw, .warm, false, 47616, []⟩
/-- R182 CF_CFG [15:8] RW: loss persistence, µs; 0 acts as 1 -/
def SHF.CF_CFG_LOST_US : Fld := ⟨0x4009041C, 0x100, 4, 15, 8, .rw, .warm, false, 100, []⟩
/-- R182 CF_CFG [0:0] RW: link parameters from the program (R174) -/
def SHF.CF_CFG_PRESET : Fld := ⟨0x4009041C, 0x100, 4, 0, 0, .rw, .warm, false, 0, []⟩
/-- R182 BEAR [31:16] RO: elevation, array frame, signed 0.01° -/
def SHF.BEAR_EL : Fld := ⟨0x40090420, 0x100, 4, 31, 16, .ro, .warm, false, 32768, []⟩
/-- R182 BEAR [15:0] RO: azimuth, array frame, signed 0.01° -/
def SHF.BEAR_AZ : Fld := ⟨0x40090420, 0x100, 4, 15, 0, .ro, .warm, false, 32768, []⟩
/-- R182 BEAR_Q [31:16] RO: REPLY_SEQ of the reply -/
def SHF.BEAR_Q_SEQ : Fld := ⟨0x40090424, 0x100, 4, 31, 16, .ro, .warm, false, 0, []⟩
/-- R182 BEAR_Q [15:0] RO: R170 -/
def SHF.BEAR_Q_QUAL : Fld := ⟨0x40090424, 0x100, 4, 15, 0, .ro, .warm, false, 0, []⟩
/-- R182 BW_ADDR [8:5] RW: beam -/
def SHF.BW_ADDR_BEAM : Fld := ⟨0x40090428, 0x100, 4, 8, 5, .rw, .warm, false, 0, []⟩
/-- R182 BW_ADDR [4:0] RW: 0 to 15 weight W[ENTRY], 16 STEER; after each BW_DATA access it advances, from 16 to entry 0 of the next beam, -/
def SHF.BW_ADDR_ENTRY : Fld := ⟨0x40090428, 0x100, 4, 4, 0, .rw, .warm, false, 0, []⟩
/-- R182 BW_DATA [31:0] RW: weight or STEER word (R165); writes ignored while leased -/
def SHF.BW_DATA_DATA : Fld := ⟨0x4009042C, 0x100, 4, 31, 0, .rw, .warm, false, 0, []⟩
/-- R182 CNT_BEAR [31:0] RW: results; failures; commands followed; follow errors; saturating -/
def SHF.CNT_BEAR_COUNT : Fld := ⟨0x40090430, 0x100, 4, 31, 0, .rw, .warm, false, 0, []⟩
/-- R182 CNT_BFAIL [31:0] RW: results; failures; commands followed; follow errors; saturating -/
def SHF.CNT_BFAIL_COUNT : Fld := ⟨0x40090434, 0x100, 4, 31, 0, .rw, .warm, false, 0, []⟩
/-- R182 CNT_CF [31:0] RW: results; failures; commands followed; follow errors; saturating -/
def SHF.CNT_CF_COUNT : Fld := ⟨0x40090438, 0x100, 4, 31, 0, .rw, .warm, false, 0, []⟩
/-- R182 CNT_CFERR [31:0] RW: results; failures; commands followed; follow errors; saturating -/
def SHF.CNT_CFERR_COUNT : Fld := ⟨0x4009043C, 0x100, 4, 31, 0, .rw, .warm, false, 0, []⟩

/-- The fields of SHF, part 0. -/
def SHF.fields0 : List Fld := [SHF.ID_BLOCK, SHF.ID_REV, SHF.ANT_SEL_ANT3, SHF.ANT_SEL_ANT2, SHF.ANT_SEL_ANT1, SHF.ANT_SEL_ANT0, SHF.ANT_CFG_SETTLE, SHF.ISO_ADDR, SHF.ISO_DATA, SHF.GEO_ADDR_CHAIN, SHF.GEO_DATA_Y, SHF.GEO_DATA_X, SHF.BEAR_CFG_EN, SHF.BEAR_CFG_FOV, SHF.BEAR_CFG_MIN_CHAINS, SHF.GSTATUS_CMD_ERR, SHF.LEASE_CMD_RELEASE, SHF.LEASE_CMD_GO, SHF.LEASE_CMD_SLOT, SHF.LEASE_CMD_SEQ, SHF.LEASE_STATE_HELD, SHF.LEASE_STATE_OWNER, SHF.LEASE_STATE_REFUSE, SHF.LEASE_STATE_OTHER, SHF.LEASE_STATE_MARGIN, SHF.LEASE_STATE_SLOT, SHF.COMP_ROLE, SHF.COMP_CHAN, SHF.COMP_TXMASK, SHF.COMP_LO_USED, SHF.COMP_RXMASK, SHF.LO_CFG_LO_SYN, SHF.BEAM_BQ_EN, SHF.BEAM_BQ, SHF.BEAM_NBEAMS, SHF.BEAM_SEL, SHF.STATUS_SAT, SHF.STATUS_CMD_ERR, SHF.STATUS_CF_ERR, SHF.STATUS_CF_LOST]
/-- The fields of SHF, part 1. -/
def SHF.fields1 : List Fld := [SHF.STATUS_BEAR_OVR, SHF.STATUS_BEAR_FAIL, SHF.STATUS_BEAR_RDY, SHF.STATUS_REFUSED, SHF.STATUS_RETURNED, SHF.CF_STATE_LEVEL, SHF.CF_STATE_LAST_CMD, SHF.CF_STATE_STATE, SHF.CF_CFG_MIN, SHF.CF_CFG_LOST_US, SHF.CF_CFG_PRESET, SHF.BEAR_EL, SHF.BEAR_AZ, SHF.BEAR_Q_SEQ, SHF.BEAR_Q_QUAL, SHF.BW_ADDR_BEAM, SHF.BW_ADDR_ENTRY, SHF.BW_DATA_DATA, SHF.CNT_BEAR_COUNT, SHF.CNT_BFAIL_COUNT, SHF.CNT_CF_COUNT, SHF.CNT_CFERR_COUNT]
/-- Every field of the register tables of SHF. -/
def SHF.fields : List Fld := SHF.fields0 ++ SHF.fields1

/-- R236 ID [31:16] RO: block code -/
def LSC.ID_BLOCK : Fld := ⟨0x400B0000, 0x0, 1, 31, 16, .ro, .warm, false, 11, []⟩
/-- R236 ID [15:0] RO: block revision -/
def LSC.ID_REV : Fld := ⟨0x400B0000, 0x0, 1, 15, 0, .ro, .warm, false, 256, []⟩
/-- R236 CAPS [23:16] RO: call stack depth -/
def LSC.CAPS_STACK : Fld := ⟨0x400B0004, 0x0, 1, 23, 16, .ro, .warm, false, 8, []⟩
/-- R236 CAPS [15:8] RO: sequencers -/
def LSC.CAPS_NSEQ : Fld := ⟨0x400B0004, 0x0, 1, 15, 8, .ro, .warm, false, 16, []⟩
/-- R236 CAPS [7:0] RO: LSI level -/
def LSC.CAPS_LEVEL : Fld := ⟨0x400B0004, 0x0, 1, 7, 0, .ro, .warm, false, 3, []⟩
/-- R236 NODE [11:0] RW: node ID placed in records -/
def LSC.NODE_NODE : Fld := ⟨0x400B0008, 0x0, 1, 11, 0, .rw, .warm, false, 0, []⟩
/-- R236 HF_CMD [31:31] WP: end the HF lease of TARGET -/
def LSC.HF_CMD_RELEASE : Fld := ⟨0x400B000C, 0x0, 1, 31, 31, .wp, .warm, false, 0, []⟩
/-- R236 HF_CMD [30:30] WP: take it (R229) -/
def LSC.HF_CMD_GO : Fld := ⟨0x400B000C, 0x0, 1, 30, 30, .wp, .warm, false, 0, []⟩
/-- R236 HF_CMD [28:28] RW: 0 HF reader, 1 HF tag -/
def LSC.HF_CMD_TARGET : Fld := ⟨0x400B000C, 0x0, 1, 28, 28, .rw, .warm, false, 0, []⟩
/-- R236 HF_CMD [27:24] RW: sequencer -/
def LSC.HF_CMD_SEQ : Fld := ⟨0x400B000C, 0x0, 1, 27, 24, .rw, .warm, false, 0, []⟩
/-- R236 HF_CMD [14:2] RW: entry point, word address -/
def LSC.HF_CMD_ENTRY : Fld := ⟨0x400B000C, 0x0, 1, 14, 2, .rw, .warm, false, 0, []⟩
/-- R236 HF_STATE [31:31] RO: HF tag leased -/
def LSC.HF_STATE_HFT_HELD : Fld := ⟨0x400B0010, 0x0, 1, 31, 31, .ro, .warm, false, 0, []⟩
/-- R236 HF_STATE [27:24] RO: holder -/
def LSC.HF_STATE_HFT_OWNER : Fld := ⟨0x400B0010, 0x0, 1, 27, 24, .ro, .warm, false, 0, []⟩
/-- R236 HF_STATE [15:15] RO: HF reader leased -/
def LSC.HF_STATE_HFR_HELD : Fld := ⟨0x400B0010, 0x0, 1, 15, 15, .ro, .warm, false, 0, []⟩
/-- R236 HF_STATE [11:8] RO: holder -/
def LSC.HF_STATE_HFR_OWNER : Fld := ⟨0x400B0010, 0x0, 1, 11, 8, .ro, .warm, false, 0, []⟩
/-- R236 HF_STATE [3:0] RO: last refusal, codes of R156 -/
def LSC.HF_STATE_REFUSE : Fld := ⟨0x400B0010, 0x0, 1, 3, 0, .ro, .warm, false, 0, []⟩
/-- R236 RUN_SUM [31:16] RO: LS15 to LS0 in IDLE -/
def LSC.RUN_SUM_IDLE : Fld := ⟨0x400B0014, 0x0, 1, 31, 16, .ro, .warm, false, 0, []⟩
/-- R236 RUN_SUM [15:0] RO: LS15 to LS0 in RUN or WAIT -/
def LSC.RUN_SUM_RUN : Fld := ⟨0x400B0014, 0x0, 1, 15, 0, .ro, .warm, false, 0, []⟩
/-- R236 GCMD [31:16] WP: stop the masked sequencers; wins over START -/
def LSC.GCMD_STOP : Fld := ⟨0x400B0018, 0x0, 1, 31, 16, .wp, .warm, false, 0, []⟩
/-- R236 GCMD [15:0] WP: start the masked sequencers (R233) in the same cycle -/
def LSC.GCMD_START : Fld := ⟨0x400B0018, 0x0, 1, 15, 0, .wp, .warm, false, 0, []⟩
/-- R236 IRQ_SUM [15:0] RO: sources 47 to 32 pending -/
def LSC.IRQ_SUM_PEND : Fld := ⟨0x400B001C, 0x0, 1, 15, 0, .ro, .warm, false, 0, []⟩
/-- R236 CMD [3:3] WP: LSn reset (R210) -/
def LSC.CMD_RESET : Fld := ⟨0x400B0400, 0x40, 16, 3, 3, .wp, .warm, false, 0, []⟩
/-- R236 CMD [2:2] WP: stop at the next boundary -/
def LSC.CMD_STOP : Fld := ⟨0x400B0400, 0x40, 16, 2, 2, .wp, .warm, false, 0, []⟩
/-- R236 CMD [1:1] WP: check, then IDLE -/
def LSC.CMD_IDLE : Fld := ⟨0x400B0400, 0x40, 16, 1, 1, .wp, .warm, false, 0, []⟩
/-- R236 CMD [0:0] WP: check, then RUN at PC_INIT -/
def LSC.CMD_START : Fld := ⟨0x400B0400, 0x40, 16, 0, 0, .wp, .warm, false, 0, []⟩
/-- R236 PC_INIT [14:2] RW: start address, word address -/
def LSC.PC_INIT_WADDR : Fld := ⟨0x400B0404, 0x40, 16, 14, 2, .rw, .warm, false, 8, []⟩
/-- R236 STATE [28:16] RO: current PC, word address -/
def LSC.STATE_PCW : Fld := ⟨0x400B0408, 0x40, 16, 28, 16, .ro, .ls, false, 8, []⟩
/-- R236 STATE [15:11] RO: Z, N, C, T, F from bit 15 down -/
def LSC.STATE_FLAGS : Fld := ⟨0x400B0408, 0x40, 16, 15, 11, .ro, .ls, false, 0, []⟩
/-- R236 STATE [10:8] RO: 0 none, 1–4 sheaf 0–3, 5 HF reader, 6 HF tag -/
def LSC.STATE_LTYPE : Fld := ⟨0x400B0408, 0x40, 16, 10, 8, .ro, .ls, false, 0, []⟩
/-- R236 STATE [7:4] RO: call stack entries -/
def LSC.STATE_DEPTH : Fld := ⟨0x400B0408, 0x40, 16, 7, 4, .ro, .ls, false, 0, []⟩
/-- R236 STATE [2:0] RO: R209 -/
def LSC.STATE_STATE : Fld := ⟨0x400B0408, 0x40, 16, 2, 0, .ro, .ls, false, 0, []⟩
/-- R236 STATUS [15:8] RC: program events 7 to 0 -/
def LSC.STATUS_EVT : Fld := ⟨0x400B040C, 0x40, 16, 15, 8, .rc, .warm, false, 0, []⟩
/-- R236 STATUS [7:7] RC: a counter saturated -/
def LSC.STATUS_SAT : Fld := ⟨0x400B040C, 0x40, 16, 7, 7, .rc, .warm, false, 0, []⟩
/-- R236 STATUS [6:6] RC: start refused (R233) -/
def LSC.STATUS_LOADERR : Fld := ⟨0x400B040C, 0x40, 16, 6, 6, .rc, .warm, false, 0, []⟩
/-- R236 STATUS [5:5] RC: push refused -/
def LSC.STATUS_QFULL : Fld := ⟨0x400B040C, 0x40, 16, 5, 5, .rc, .warm, false, 0, []⟩
/-- R236 STATUS [4:4] RC: port write ignored -/
def LSC.STATUS_PORT_DENY : Fld := ⟨0x400B040C, 0x40, 16, 4, 4, .rc, .warm, false, 0, []⟩
/-- R236 STATUS [3:3] RC: slot ended under lease -/
def LSC.STATUS_CUT : Fld := ⟨0x400B040C, 0x40, 16, 3, 3, .rc, .warm, false, 0, []⟩
/-- R236 STATUS [2:2] RC: a wait expired -/
def LSC.STATUS_TMO : Fld := ⟨0x400B040C, 0x40, 16, 2, 2, .rc, .warm, false, 0, []⟩
/-- R236 STATUS [1:1] RC: R231 -/
def LSC.STATUS_FAULT : Fld := ⟨0x400B040C, 0x40, 16, 1, 1, .rc, .warm, false, 0, []⟩
/-- R236 STATUS [0:0] RC: HALT executed -/
def LSC.STATUS_HALTED : Fld := ⟨0x400B040C, 0x40, 16, 0, 0, .rc, .warm, false, 0, []⟩
/-- R236 IRQ_EN [15:0] RW: enables, STATUS layout -/
def LSC.IRQ_EN_EN : Fld := ⟨0x400B0410, 0x40, 16, 15, 0, .rw, .warm, false, 65347, []⟩
/-- R236 FAULT [31:24] RO: R231 -/
def LSC.FAULT_CODE : Fld := ⟨0x400B0414, 0x40, 16, 31, 24, .ro, .warm, false, 0, []⟩
/-- R236 FAULT [12:0] RO: faulting instruction, word address -/
def LSC.FAULT_PCW : Fld := ⟨0x400B0414, 0x40, 16, 12, 0, .ro, .warm, false, 0, []⟩
/-- R236 DOORBELL [0:0] WP: raise DBL -/
def LSC.DOORBELL_RING : Fld := ⟨0x400B0418, 0x40, 16, 0, 0, .wp, .warm, false, 0, []⟩
/-- R236 MBOX_IN [31:0] RW:  -/
def LSC.MBOX_IN_DATA : Fld := ⟨0x400B041C, 0x40, 16, 31, 0, .rw, .warm, false, 0, []⟩
/-- R236 MBOX_OUT [31:0] RO:  -/
def LSC.MBOX_OUT_DATA : Fld := ⟨0x400B0420, 0x40, 16, 31, 0, .ro, .warm, false, 0, []⟩
/-- R236 EVP [9:0] RO: latched events (R218) -/
def LSC.EVP_EVP : Fld := ⟨0x400B0424, 0x40, 16, 9, 0, .ro, .warm, false, 0, []⟩
/-- R236 DIAG [15:8] RO: last failure (R224) -/
def LSC.DIAG_ERR : Fld := ⟨0x400B0428, 0x40, 16, 15, 8, .ro, .warm, false, 0, []⟩
/-- R236 DIAG [7:0] RO: last load check result (R233) -/
def LSC.DIAG_LOAD : Fld := ⟨0x400B0428, 0x40, 16, 7, 0, .ro, .warm, false, 0, []⟩
/-- R236 CNT_TXF [31:0] RW: frames issued; decisions; wait expiries; words pushed; saturating -/
def LSC.CNT_TXF_COUNT : Fld := ⟨0x400B042C, 0x40, 16, 31, 0, .rw, .warm, false, 0, []⟩
/-- R236 CNT_RXD [31:0] RW: frames issued; decisions; wait expiries; words pushed; saturating -/
def LSC.CNT_RXD_COUNT : Fld := ⟨0x400B0430, 0x40, 16, 31, 0, .rw, .warm, false, 0, []⟩
/-- R236 CNT_TMO [31:0] RW: frames issued; decisions; wait expiries; words pushed; saturating -/
def LSC.CNT_TMO_COUNT : Fld := ⟨0x400B0434, 0x40, 16, 31, 0, .rw, .warm, false, 0, []⟩
/-- R236 CNT_PUSH [31:0] RW: frames issued; decisions; wait expiries; words pushed; saturating -/
def LSC.CNT_PUSH_COUNT : Fld := ⟨0x400B0438, 0x40, 16, 31, 0, .rw, .warm, false, 0, []⟩

/-- The fields of LSC, part 0. -/
def LSC.fields0 : List Fld := [LSC.ID_BLOCK, LSC.ID_REV, LSC.CAPS_STACK, LSC.CAPS_NSEQ, LSC.CAPS_LEVEL, LSC.NODE_NODE, LSC.HF_CMD_RELEASE, LSC.HF_CMD_GO, LSC.HF_CMD_TARGET, LSC.HF_CMD_SEQ, LSC.HF_CMD_ENTRY, LSC.HF_STATE_HFT_HELD, LSC.HF_STATE_HFT_OWNER, LSC.HF_STATE_HFR_HELD, LSC.HF_STATE_HFR_OWNER, LSC.HF_STATE_REFUSE, LSC.RUN_SUM_IDLE, LSC.RUN_SUM_RUN, LSC.GCMD_STOP, LSC.GCMD_START, LSC.IRQ_SUM_PEND, LSC.CMD_RESET, LSC.CMD_STOP, LSC.CMD_IDLE, LSC.CMD_START, LSC.PC_INIT_WADDR, LSC.STATE_PCW, LSC.STATE_FLAGS, LSC.STATE_LTYPE, LSC.STATE_DEPTH, LSC.STATE_STATE, LSC.STATUS_EVT, LSC.STATUS_SAT, LSC.STATUS_LOADERR, LSC.STATUS_QFULL, LSC.STATUS_PORT_DENY, LSC.STATUS_CUT, LSC.STATUS_TMO, LSC.STATUS_FAULT, LSC.STATUS_HALTED]
/-- The fields of LSC, part 1. -/
def LSC.fields1 : List Fld := [LSC.IRQ_EN_EN, LSC.FAULT_CODE, LSC.FAULT_PCW, LSC.DOORBELL_RING, LSC.MBOX_IN_DATA, LSC.MBOX_OUT_DATA, LSC.EVP_EVP, LSC.DIAG_ERR, LSC.DIAG_LOAD, LSC.CNT_TXF_COUNT, LSC.CNT_RXD_COUNT, LSC.CNT_TMO_COUNT, LSC.CNT_PUSH_COUNT]
/-- Every field of the register tables of LSC. -/
def LSC.fields : List Fld := LSC.fields0 ++ LSC.fields1

/-- R275 ID [31:16] RO: block code -/
def WNW.ID_BLOCK : Fld := ⟨0x400A0000, 0x0, 1, 31, 16, .ro, .warm, false, 10, []⟩
/-- R275 ID [15:0] RO: block revision -/
def WNW.ID_REV : Fld := ⟨0x400A0000, 0x0, 1, 15, 0, .ro, .warm, false, 256, []⟩
/-- R275 CFG [31:31] RW: capture (R266) -/
def WNW.CFG_CAP_EN : Fld := ⟨0x400A0004, 0x0, 1, 31, 31, .rw, .warm, false, 1, []⟩
/-- R275 CFG [30:30] RW: recover other sources (R268) -/
def WNW.CFG_OTHER_EN : Fld := ⟨0x400A0004, 0x0, 1, 30, 30, .rw, .warm, false, 1, []⟩
/-- R275 CFG [29:29] RW: carry captures (R269) -/
def WNW.CFG_CARRY_EN : Fld := ⟨0x400A0004, 0x0, 1, 29, 29, .rw, .warm, false, 1, []⟩
/-- R275 CFG [28:24] RW: fewest chains for spatial evidence; clamped to 3 to 16 -/
def WNW.CFG_SPAT_MIN : Fld := ⟨0x400A0004, 0x0, 1, 28, 24, .rw, .warm, false, 4, []⟩
/-- R275 CFG [23:16] RW: capture margin, 0.25 dB (10.00 dB) -/
def WNW.CFG_CAP_MARGIN : Fld := ⟨0x400A0004, 0x0, 1, 23, 16, .rw, .warm, false, 40, []⟩
/-- R275 CFG [15:8] RW: eigenvalue threshold over noise, 0.25 dB (10.00 dB) -/
def WNW.CFG_SRC_THR : Fld := ⟨0x400A0004, 0x0, 1, 15, 8, .rw, .warm, false, 40, []⟩
/-- R275 CFG [7:4] RW: violations allowed for one tag (R262) -/
def WNW.CFG_VIOL_MAX : Fld := ⟨0x400A0004, 0x0, 1, 7, 4, .rw, .warm, false, 2, []⟩
/-- R275 DEC [31:16] RO: REPLY_SEQ of the decision (R122) -/
def WNW.DEC_SEQ : Fld := ⟨0x400A0400, 0x100, 4, 31, 16, .ro, .warm, false, 0, []⟩
/-- R275 DEC [13:13] RO: spatial evidence unavailable (R261) -/
def WNW.DEC_SPAT_OFF : Fld := ⟨0x400A0400, 0x100, 4, 13, 13, .ro, .warm, false, 0, []⟩
/-- R275 DEC [12:10] RO: spatial estimate -/
def WNW.DEC_NS : Fld := ⟨0x400A0400, 0x100, 4, 12, 10, .ro, .warm, false, 0, []⟩
/-- R275 DEC [9:7] RO: bit-level estimate -/
def WNW.DEC_NB : Fld := ⟨0x400A0400, 0x100, 4, 9, 7, .ro, .warm, false, 0, []⟩
/-- R275 DEC [4:4] RO: CAPT carried from the acknowledged RN16 -/
def WNW.DEC_CARRY : Fld := ⟨0x400A0400, 0x100, 4, 4, 4, .ro, .warm, false, 0, []⟩
/-- R275 DEC [3:3] RO: captured -/
def WNW.DEC_CAPT : Fld := ⟨0x400A0400, 0x100, 4, 3, 3, .ro, .warm, false, 0, []⟩
/-- R275 DEC [2:0] RO: R264 -/
def WNW.DEC_CLASS : Fld := ⟨0x400A0400, 0x100, 4, 2, 0, .ro, .warm, false, 0, []⟩
/-- R275 METRIC [31:24] RO: second eigenvalue below the first, 0.25 dB; 0xFF none -/
def WNW.METRIC_SPREAD : Fld := ⟨0x400A0404, 0x100, 4, 31, 24, .ro, .warm, false, 0, []⟩
/-- R275 METRIC [23:16] RO: clusters, 2 to 9 -/
def WNW.METRIC_LEV : Fld := ⟨0x400A0404, 0x100, 4, 23, 16, .ro, .warm, false, 0, []⟩
/-- R275 METRIC [15:8] RO: violations, saturating at 255 -/
def WNW.METRIC_VIOL : Fld := ⟨0x400A0404, 0x100, 4, 15, 8, .ro, .warm, false, 0, []⟩
/-- R275 CAPINFO [31:24] RO: dominant SINR on the separating beam, 0.25 dB -/
def WNW.CAPINFO_SINR : Fld := ⟨0x400A0408, 0x100, 4, 31, 24, .ro, .warm, false, 0, []⟩
/-- R275 CAPINFO [23:16] RO: power ratio estimate, 0.25 dB -/
def WNW.CAPINFO_PR : Fld := ⟨0x400A0408, 0x100, 4, 23, 16, .ro, .warm, false, 0, []⟩
/-- R275 CAPINFO [15:8] RO: spatial correlation, 0 to 255 -/
def WNW.CAPINFO_CORR : Fld := ⟨0x400A0408, 0x100, 4, 15, 8, .ro, .warm, false, 0, []⟩
/-- R275 CAPINFO [1:0] RO: nulls placed -/
def WNW.CAPINFO_NULLS : Fld := ⟨0x400A0408, 0x100, 4, 1, 0, .ro, .warm, false, 0, []⟩
/-- R275 CAPT_RN [16:16] RO: the last decision was captured -/
def WNW.CAPT_RN_VALID : Fld := ⟨0x400A040C, 0x100, 4, 16, 16, .ro, .warm, false, 0, []⟩
/-- R275 CAPT_RN [15:0] RO: captured RN16 -/
def WNW.CAPT_RN_RN : Fld := ⟨0x400A040C, 0x100, 4, 15, 0, .ro, .warm, false, 0, []⟩
/-- R275 OTHER01 [31:16] RO: second recovered source -/
def WNW.OTHER01_RN1 : Fld := ⟨0x400A0410, 0x100, 4, 31, 16, .ro, .warm, false, 0, []⟩
/-- R275 OTHER01 [15:0] RO: first recovered source -/
def WNW.OTHER01_RN0 : Fld := ⟨0x400A0410, 0x100, 4, 15, 0, .ro, .warm, false, 0, []⟩
/-- R275 OTHER2 [18:16] RO: RN2 to RN0 valid -/
def WNW.OTHER2_VALID : Fld := ⟨0x400A0414, 0x100, 4, 18, 16, .ro, .warm, false, 0, []⟩
/-- R275 OTHER2 [15:0] RO: third recovered source -/
def WNW.OTHER2_RN2 : Fld := ⟨0x400A0414, 0x100, 4, 15, 0, .ro, .warm, false, 0, []⟩
/-- R275 STATUS [3:3] RC: a counter saturated -/
def WNW.STATUS_SAT : Fld := ⟨0x400A0418, 0x100, 4, 3, 3, .rc, .warm, false, 0, []⟩
/-- R275 STATUS [2:2] RC: R269 -/
def WNW.STATUS_CAPT_MISS : Fld := ⟨0x400A0418, 0x100, 4, 2, 2, .rc, .warm, false, 0, []⟩
/-- R275 STATUS [1:1] RC: block overwritten -/
def WNW.STATUS_CENS_OVR : Fld := ⟨0x400A0418, 0x100, 4, 1, 1, .rc, .warm, false, 0, []⟩
/-- R275 STATUS [0:0] RC: block latched -/
def WNW.STATUS_CENS_RDY : Fld := ⟨0x400A0418, 0x100, 4, 0, 0, .rc, .warm, false, 0, []⟩
/-- R275 CENS_CFG [31:31] RW: census counting -/
def WNW.CENS_CFG_EN : Fld := ⟨0x400A041C, 0x100, 4, 31, 31, .rw, .warm, false, 1, []⟩
/-- R275 CENS_CFG [30:30] RW: clear running counts at lease start -/
def WNW.CENS_CFG_LEASE_RST : Fld := ⟨0x400A041C, 0x100, 4, 30, 30, .rw, .warm, false, 1, []⟩
/-- R275 CENS_CFG [29:29] RW: 0 RN16 windows, 1 every window -/
def WNW.CENS_CFG_KIND : Fld := ⟨0x400A041C, 0x100, 4, 29, 29, .rw, .warm, false, 0, []⟩
/-- R275 CENS_CFG [15:0] RW: windows per block; 0 acts as 1 -/
def WNW.CENS_CFG_LEN : Fld := ⟨0x400A041C, 0x100, 4, 15, 0, .rw, .warm, false, 256, []⟩
/-- R275 CENS_A [31:16] RO: A: SINGLE; B: COLLIDED_3; C: captures; D: PC/EPC CRC failures -/
def WNW.CENS_A_HIGH : Fld := ⟨0x400A0420, 0x100, 4, 31, 16, .ro, .warm, false, 0, []⟩
/-- R275 CENS_A [15:0] RO: A: EMPTY; B: COLLIDED_2; C: COLLIDED_4PLUS; D: windows counted -/
def WNW.CENS_A_LOW : Fld := ⟨0x400A0420, 0x100, 4, 15, 0, .ro, .warm, false, 0, []⟩
/-- R275 CENS_B [31:16] RO: A: SINGLE; B: COLLIDED_3; C: captures; D: PC/EPC CRC failures -/
def WNW.CENS_B_HIGH : Fld := ⟨0x400A0424, 0x100, 4, 31, 16, .ro, .warm, false, 0, []⟩
/-- R275 CENS_B [15:0] RO: A: EMPTY; B: COLLIDED_2; C: COLLIDED_4PLUS; D: windows counted -/
def WNW.CENS_B_LOW : Fld := ⟨0x400A0424, 0x100, 4, 15, 0, .ro, .warm, false, 0, []⟩
/-- R275 CENS_C [31:16] RO: A: SINGLE; B: COLLIDED_3; C: captures; D: PC/EPC CRC failures -/
def WNW.CENS_C_HIGH : Fld := ⟨0x400A0428, 0x100, 4, 31, 16, .ro, .warm, false, 0, []⟩
/-- R275 CENS_C [15:0] RO: A: EMPTY; B: COLLIDED_2; C: COLLIDED_4PLUS; D: windows counted -/
def WNW.CENS_C_LOW : Fld := ⟨0x400A0428, 0x100, 4, 15, 0, .ro, .warm, false, 0, []⟩
/-- R275 CENS_D [31:16] RO: A: SINGLE; B: COLLIDED_3; C: captures; D: PC/EPC CRC failures -/
def WNW.CENS_D_HIGH : Fld := ⟨0x400A042C, 0x100, 4, 31, 16, .ro, .warm, false, 0, []⟩
/-- R275 CENS_D [15:0] RO: A: EMPTY; B: COLLIDED_2; C: COLLIDED_4PLUS; D: windows counted -/
def WNW.CENS_D_LOW : Fld := ⟨0x400A042C, 0x100, 4, 15, 0, .ro, .warm, false, 0, []⟩
/-- R275 CENS_E [31:31] RO: block latched at lease end -/
def WNW.CENS_E_PARTIAL : Fld := ⟨0x400A0430, 0x100, 4, 31, 31, .ro, .warm, false, 0, []⟩
/-- R275 CENS_E [30:16] RO: sources recovered, saturating -/
def WNW.CENS_E_RECOV : Fld := ⟨0x400A0430, 0x100, 4, 30, 16, .ro, .warm, false, 0, []⟩
/-- R275 CENS_E [15:0] RO: capture misses -/
def WNW.CENS_E_MISS : Fld := ⟨0x400A0430, 0x100, 4, 15, 0, .ro, .warm, false, 0, []⟩
/-- R275 CNT_COLL [31:0] RW: collided windows; captures; capture misses; saturating -/
def WNW.CNT_COLL_COUNT : Fld := ⟨0x400A0434, 0x100, 4, 31, 0, .rw, .warm, false, 0, []⟩
/-- R275 CNT_CAPT [31:0] RW: collided windows; captures; capture misses; saturating -/
def WNW.CNT_CAPT_COUNT : Fld := ⟨0x400A0438, 0x100, 4, 31, 0, .rw, .warm, false, 0, []⟩
/-- R275 CNT_MISS [31:0] RW: collided windows; captures; capture misses; saturating -/
def WNW.CNT_MISS_COUNT : Fld := ⟨0x400A043C, 0x100, 4, 31, 0, .rw, .warm, false, 0, []⟩

/-- The fields of WNW, part 0. -/
def WNW.fields0 : List Fld := [WNW.ID_BLOCK, WNW.ID_REV, WNW.CFG_CAP_EN, WNW.CFG_OTHER_EN, WNW.CFG_CARRY_EN, WNW.CFG_SPAT_MIN, WNW.CFG_CAP_MARGIN, WNW.CFG_SRC_THR, WNW.CFG_VIOL_MAX, WNW.DEC_SEQ, WNW.DEC_SPAT_OFF, WNW.DEC_NS, WNW.DEC_NB, WNW.DEC_CARRY, WNW.DEC_CAPT, WNW.DEC_CLASS, WNW.METRIC_SPREAD, WNW.METRIC_LEV, WNW.METRIC_VIOL, WNW.CAPINFO_SINR, WNW.CAPINFO_PR, WNW.CAPINFO_CORR, WNW.CAPINFO_NULLS, WNW.CAPT_RN_VALID, WNW.CAPT_RN_RN, WNW.OTHER01_RN1, WNW.OTHER01_RN0, WNW.OTHER2_VALID, WNW.OTHER2_RN2, WNW.STATUS_SAT, WNW.STATUS_CAPT_MISS, WNW.STATUS_CENS_OVR, WNW.STATUS_CENS_RDY, WNW.CENS_CFG_EN, WNW.CENS_CFG_LEASE_RST, WNW.CENS_CFG_KIND, WNW.CENS_CFG_LEN, WNW.CENS_A_HIGH, WNW.CENS_A_LOW, WNW.CENS_B_HIGH]
/-- The fields of WNW, part 1. -/
def WNW.fields1 : List Fld := [WNW.CENS_B_LOW, WNW.CENS_C_HIGH, WNW.CENS_C_LOW, WNW.CENS_D_HIGH, WNW.CENS_D_LOW, WNW.CENS_E_PARTIAL, WNW.CENS_E_RECOV, WNW.CENS_E_MISS, WNW.CNT_COLL_COUNT, WNW.CNT_CAPT_COUNT, WNW.CNT_MISS_COUNT]
/-- Every field of the register tables of WNW. -/
def WNW.fields : List Fld := WNW.fields0 ++ WNW.fields1

end Sys2Proof.Machine
end

