-- ==== Sys2Proof/Machine/RegsSys.lean ====
section
/-! DEFINITION. The register fields of SYS (with the watchdogs), PWR, AON, CAL and AGE, one constant per row of the register tables
of the spec (address, stride, instances, high bit, low bit, type code, reset domain, AON copy, reset value). -/

namespace Sys2Proof.Machine

/-- R501 ID [31:16] RO: block code -/
def SYS.ID_BLOCK : Fld := ⟨0x40000000, 0x0, 1, 31, 16, .ro, .warm, false, 0, []⟩
/-- R501 ID [15:0] RO: block revision -/
def SYS.ID_REV : Fld := ⟨0x40000000, 0x0, 1, 15, 0, .ro, .warm, false, 256, []⟩
/-- R501 LC [2:0] RWV: life-cycle code (R494); Core P -/
def SYS.LC_STATE : Fld := ⟨0x40000004, 0x0, 1, 2, 0, .rwv, .warm, false, 1, []⟩
/-- R501 MODE [23:16] RW: Core P: [0] RGE, [1] BUDGET, [2] THERMAL, [3] INCOMPATIBLE, [4] APP_FAULT, [5] RETIRED, [6] VOTE or WDT, [7] N -/
def SYS.MODE_CAUSE : Fld := ⟨0x40000008, 0x0, 1, 23, 16, .rw, .warm, false, 0, []⟩
/-- R501 MODE [1:0] RW: Core P: 0 FULL, 1 QUIET, 2 LAMP_KEEP, 3 FAILSAFE -/
def SYS.MODE_MODE : Fld := ⟨0x40000008, 0x0, 1, 1, 0, .rw, .warm, false, 3, []⟩
/-- R501 RST_CAUSE [7:7] RC, AC: CORE_B reset -/
def SYS.RST_CAUSE_CORE_B : Fld := ⟨0x4000000C, 0x0, 1, 7, 7, .rc, .cold, true, 0, []⟩
/-- R501 RST_CAUSE [6:6] RC, AC: CORE_A reset -/
def SYS.RST_CAUSE_CORE_A : Fld := ⟨0x4000000C, 0x0, 1, 6, 6, .rc, .cold, true, 0, []⟩
/-- R501 RST_CAUSE [5:5] RC, AC: R484 -/
def SYS.RST_CAUSE_BROWN_OUT : Fld := ⟨0x4000000C, 0x0, 1, 5, 5, .rc, .cold, true, 0, []⟩
/-- R501 RST_CAUSE [4:4] RC, AC: R466 -/
def SYS.RST_CAUSE_REF_FAIL : Fld := ⟨0x4000000C, 0x0, 1, 4, 4, .rc, .cold, true, 0, []⟩
/-- R501 RST_CAUSE [3:3] RC, AC: Core P software reset -/
def SYS.RST_CAUSE_SOFT : Fld := ⟨0x4000000C, 0x0, 1, 3, 3, .rc, .cold, true, 0, []⟩
/-- R501 RST_CAUSE [2:2] RC, AC: second watchdog expiry -/
def SYS.RST_CAUSE_WDT2 : Fld := ⟨0x4000000C, 0x0, 1, 2, 2, .rc, .cold, true, 0, []⟩
/-- R501 RST_CAUSE [1:1] RC, AC: RESET_N -/
def SYS.RST_CAUSE_PIN : Fld := ⟨0x4000000C, 0x0, 1, 1, 1, .rc, .cold, true, 0, []⟩
/-- R501 RST_CAUSE [0:0] RC, AC: power-on -/
def SYS.RST_CAUSE_COLD : Fld := ⟨0x4000000C, 0x0, 1, 0, 0, .rc, .cold, true, 1, []⟩
/-- R501 BOOT [15:12] RO: 0 paired, 1 FW only, 2 no FW -/
def SYS.BOOT_RESULT : Fld := ⟨0x40000010, 0x0, 1, 15, 12, .ro, .warm, false, 0, []⟩
/-- R501 BOOT [11:8] RO: [0] FW A, [1] FW B, [2] LSQ pointer slot, [3] TBL pointer slot rejected -/
def SYS.BOOT_FAIL : Fld := ⟨0x40000010, 0x0, 1, 11, 8, .ro, .warm, false, 0, []⟩
/-- R501 BOOT [3:3] RO: trial boot -/
def SYS.BOOT_TRIAL : Fld := ⟨0x40000010, 0x0, 1, 3, 3, .ro, .warm, false, 0, []⟩
/-- R501 BOOT [2:2] RO: TBL slot used, 0 A, 1 B -/
def SYS.BOOT_TBL : Fld := ⟨0x40000010, 0x0, 1, 2, 2, .ro, .warm, false, 0, []⟩
/-- R501 BOOT [1:1] RO: LSQ slot used -/
def SYS.BOOT_LSQ : Fld := ⟨0x40000010, 0x0, 1, 1, 1, .ro, .warm, false, 0, []⟩
/-- R501 BOOT [0:0] RO: FW slot used -/
def SYS.BOOT_FW : Fld := ⟨0x40000010, 0x0, 1, 0, 0, .ro, .warm, false, 0, []⟩
/-- R501 STATUS [2:2] RC: a counter saturated -/
def SYS.STATUS_SAT : Fld := ⟨0x40000014, 0x0, 1, 2, 2, .rc, .warm, false, 0, []⟩
/-- R501 STATUS [1:1] RC: single disagreement corrected (R443) -/
def SYS.STATUS_VOTE_FIX : Fld := ⟨0x40000014, 0x0, 1, 1, 1, .rc, .warm, false, 0, []⟩
/-- R501 STATUS [0:0] RC: bus error (R19) -/
def SYS.STATUS_BUS_ERR : Fld := ⟨0x40000014, 0x0, 1, 0, 0, .rc, .warm, false, 0, []⟩
/-- R501 BUSERR_ADDR [31:0] RO:  -/
def SYS.BUSERR_ADDR_VALUE : Fld := ⟨0x40000018, 0x0, 1, 31, 0, .ro, .warm, false, 0, []⟩
/-- R501 BUSERR_INFO [7:4] RO:  -/
def SYS.BUSERR_INFO_INIT : Fld := ⟨0x4000001C, 0x0, 1, 7, 4, .ro, .warm, false, 0, []⟩
/-- R501 BUSERR_INFO [1:1] RO:  -/
def SYS.BUSERR_INFO_WR : Fld := ⟨0x4000001C, 0x0, 1, 1, 1, .ro, .warm, false, 0, []⟩
/-- R501 BUSERR_INFO [0:0] RO:  -/
def SYS.BUSERR_INFO_DENIED : Fld := ⟨0x4000001C, 0x0, 1, 0, 0, .ro, .warm, false, 0, []⟩
/-- R501 VOTE_INFO [7:0] RO:  -/
def SYS.VOTE_INFO_FIELD : Fld := ⟨0x40000020, 0x0, 1, 7, 0, .ro, .warm, false, 0, []⟩
/-- R501 IRQ_SEL [6:0] RW: source addressed by IRQ_CFG -/
def SYS.IRQ_SEL_SRC : Fld := ⟨0x40000024, 0x0, 1, 6, 0, .rw, .warm, false, 0, []⟩
/-- R501 IRQ_CFG [7:7] RW: enable to Core B (R28) -/
def SYS.IRQ_CFG_B_EN : Fld := ⟨0x40000028, 0x0, 1, 7, 7, .rw, .warm, false, 0, []⟩
/-- R501 IRQ_CFG [6:4] RW: priority to Core B -/
def SYS.IRQ_CFG_B_PRI : Fld := ⟨0x40000028, 0x0, 1, 6, 4, .rw, .warm, false, 0, []⟩
/-- R501 IRQ_CFG [3:3] RW: enable to Core A -/
def SYS.IRQ_CFG_A_EN : Fld := ⟨0x40000028, 0x0, 1, 3, 3, .rw, .warm, false, 0, []⟩
/-- R501 IRQ_CFG [2:0] RW: priority to Core A -/
def SYS.IRQ_CFG_A_PRI : Fld := ⟨0x40000028, 0x0, 1, 2, 0, .rw, .warm, false, 0, []⟩
/-- R501 IRQ_CLAIM_A [31:31] RO: a source is presented -/
def SYS.IRQ_CLAIM_A_VALID : Fld := ⟨0x4000002C, 0x0, 1, 31, 31, .ro, .warm, false, 0, []⟩
/-- R501 IRQ_CLAIM_A [6:0] RO: source presented (R30); a read clears nothing (R29) -/
def SYS.IRQ_CLAIM_A_SRC : Fld := ⟨0x4000002C, 0x0, 1, 6, 0, .ro, .warm, false, 0, []⟩
/-- R501 IRQ_CLAIM_B [31:31] RO: a source is presented -/
def SYS.IRQ_CLAIM_B_VALID : Fld := ⟨0x40000030, 0x0, 1, 31, 31, .ro, .warm, false, 0, []⟩
/-- R501 IRQ_CLAIM_B [6:0] RO: source presented (R30); a read clears nothing (R29) -/
def SYS.IRQ_CLAIM_B_SRC : Fld := ⟨0x40000030, 0x0, 1, 6, 0, .ro, .warm, false, 0, []⟩
/-- R501 IRQ_PEND [31:0] RO: sources 32k + 31 to 32k pending, k the register number -/
def SYS.IRQ_PEND_PEND : Fld := ⟨0x40000034, 0x4, 4, 31, 0, .ro, .warm, false, 0, []⟩
/-- R501 SWI_SET [4:0] WP:  -/
def SYS.SWI_SET_SWI : Fld := ⟨0x40000044, 0x0, 1, 4, 0, .wp, .warm, false, 0, []⟩
/-- R501 SWI_STATUS [4:0] RC:  -/
def SYS.SWI_STATUS_SWI : Fld := ⟨0x40000048, 0x0, 1, 4, 0, .rc, .warm, false, 0, []⟩
/-- R501 CNT_BUSERR [31:0] RW: bus errors; vote corrections; saturating -/
def SYS.CNT_BUSERR_COUNT : Fld := ⟨0x4000004C, 0x0, 1, 31, 0, .rw, .warm, false, 0, []⟩
/-- R501 CNT_VOTE [31:0] RW: bus errors; vote corrections; saturating -/
def SYS.CNT_VOTE_COUNT : Fld := ⟨0x40000050, 0x0, 1, 31, 0, .rw, .warm, false, 0, []⟩
/-- R538 WDT_CTRL [31:31] RW: enable; a write of 0 is ignored (R534) -/
def SYS.WDT_CTRL_EN : Fld := ⟨0x40000080, 0x20, 2, 31, 31, .rw, .warm, false, 0, []⟩
/-- R538 WDT_CTRL [30:30] RW: count while the core is halted (R537) -/
def SYS.WDT_CTRL_DBGRUN : Fld := ⟨0x40000080, 0x20, 2, 30, 30, .rw, .warm, false, 0, []⟩
/-- R538 WDT_TIMEOUT [31:16] RW: pre-expiry lead; ignored while EN -/
def SYS.WDT_TIMEOUT_WARN_MS : Fld := ⟨0x40000084, 0x20, 2, 31, 16, .rw, .warm, false, 100, []⟩
/-- R538 WDT_TIMEOUT [15:0] RW: timeout; 0 acts as 1; ignored while EN -/
def SYS.WDT_TIMEOUT_MS : Fld := ⟨0x40000084, 0x20, 2, 15, 0, .rw, .warm, false, 1000, []⟩
/-- R538 WDT_KICK [15:0] WP: 0xA55A reloads the count -/
def SYS.WDT_KICK_KEY : Fld := ⟨0x40000088, 0x20, 2, 15, 0, .wp, .warm, false, 0, []⟩
/-- R538 WDT_STATE [31:16] RO: ms remaining -/
def SYS.WDT_STATE_LEFT : Fld := ⟨0x4000008C, 0x20, 2, 31, 16, .ro, .warm, false, 0, []⟩
/-- R538 WDT_STATE [0:0] RO: expired with no kick since (R535) -/
def SYS.WDT_STATE_AFTER : Fld := ⟨0x4000008C, 0x20, 2, 0, 0, .ro, .warm, false, 0, []⟩
/-- R538 WDT_STATUS [3:3] RC: CNT saturated -/
def SYS.WDT_STATUS_SAT : Fld := ⟨0x40000090, 0x20, 2, 3, 3, .rc, .warm, false, 0, []⟩
/-- R538 WDT_STATUS [2:2] RC: wrong key -/
def SYS.WDT_STATUS_BADKICK : Fld := ⟨0x40000090, 0x20, 2, 2, 2, .rc, .warm, false, 0, []⟩
/-- R538 WDT_STATUS [1:1] RC: expiry -/
def SYS.WDT_STATUS_EXPIRED : Fld := ⟨0x40000090, 0x20, 2, 1, 1, .rc, .warm, false, 0, []⟩
/-- R538 WDT_STATUS [0:0] RC: pre-expiry -/
def SYS.WDT_STATUS_WARN : Fld := ⟨0x40000090, 0x20, 2, 0, 0, .rc, .warm, false, 0, []⟩
/-- R538 WDT_CNT [31:0] RW: expiries; saturating -/
def SYS.WDT_CNT_COUNT : Fld := ⟨0x40000094, 0x20, 2, 31, 0, .rw, .warm, false, 0, []⟩

/-- The fields of SYS, part 0. -/
def SYS.fields0 : List Fld := [SYS.ID_BLOCK, SYS.ID_REV, SYS.LC_STATE, SYS.MODE_CAUSE, SYS.MODE_MODE, SYS.RST_CAUSE_CORE_B, SYS.RST_CAUSE_CORE_A, SYS.RST_CAUSE_BROWN_OUT, SYS.RST_CAUSE_REF_FAIL, SYS.RST_CAUSE_SOFT, SYS.RST_CAUSE_WDT2, SYS.RST_CAUSE_PIN, SYS.RST_CAUSE_COLD, SYS.BOOT_RESULT, SYS.BOOT_FAIL, SYS.BOOT_TRIAL, SYS.BOOT_TBL, SYS.BOOT_LSQ, SYS.BOOT_FW, SYS.STATUS_SAT, SYS.STATUS_VOTE_FIX, SYS.STATUS_BUS_ERR, SYS.BUSERR_ADDR_VALUE, SYS.BUSERR_INFO_INIT, SYS.BUSERR_INFO_WR, SYS.BUSERR_INFO_DENIED, SYS.VOTE_INFO_FIELD, SYS.IRQ_SEL_SRC, SYS.IRQ_CFG_B_EN, SYS.IRQ_CFG_B_PRI, SYS.IRQ_CFG_A_EN, SYS.IRQ_CFG_A_PRI, SYS.IRQ_CLAIM_A_VALID, SYS.IRQ_CLAIM_A_SRC, SYS.IRQ_CLAIM_B_VALID, SYS.IRQ_CLAIM_B_SRC, SYS.IRQ_PEND_PEND, SYS.SWI_SET_SWI, SYS.SWI_STATUS_SWI, SYS.CNT_BUSERR_COUNT]
/-- The fields of SYS, part 1. -/
def SYS.fields1 : List Fld := [SYS.CNT_VOTE_COUNT, SYS.WDT_CTRL_EN, SYS.WDT_CTRL_DBGRUN, SYS.WDT_TIMEOUT_WARN_MS, SYS.WDT_TIMEOUT_MS, SYS.WDT_KICK_KEY, SYS.WDT_STATE_LEFT, SYS.WDT_STATE_AFTER, SYS.WDT_STATUS_SAT, SYS.WDT_STATUS_BADKICK, SYS.WDT_STATUS_EXPIRED, SYS.WDT_STATUS_WARN, SYS.WDT_CNT_COUNT]
/-- Every field of the register tables of SYS. -/
def SYS.fields : List Fld := SYS.fields0 ++ SYS.fields1

/-- R502 ID [31:16] RO: block code -/
def PWR.ID_BLOCK : Fld := ⟨0x40020000, 0x0, 1, 31, 16, .ro, .cold, false, 2, []⟩
/-- R502 ID [15:0] RO: block revision -/
def PWR.ID_REV : Fld := ⟨0x40020000, 0x0, 1, 15, 0, .ro, .cold, false, 256, []⟩
/-- R502 STATE [31:24] AC: PD class powered -/
def PWR.STATE_CLASS : Fld := ⟨0x40020004, 0x0, 1, 31, 24, .ro, .cold, true, 255, []⟩
/-- R502 STATE [19:19] AC: line above 20 V -/
def PWR.STATE_LINE_OK : Fld := ⟨0x40020004, 0x0, 1, 19, 19, .ro, .cold, true, 0, []⟩
/-- R502 STATE [18:18] AC: warning asserted -/
def PWR.STATE_LEW : Fld := ⟨0x40020004, 0x0, 1, 18, 18, .ro, .cold, true, 0, []⟩
/-- R502 STATE [17:17] AC: AON on harvest -/
def PWR.STATE_HARV : Fld := ⟨0x40020004, 0x0, 1, 17, 17, .ro, .cold, true, 0, []⟩
/-- R502 STATE [16:16] AC: buck B running -/
def PWR.STATE_BUCKB_ON : Fld := ⟨0x40020004, 0x0, 1, 16, 16, .ro, .cold, true, 0, []⟩
/-- R502 STATE [10:8] AC: thermal cap (R499) -/
def PWR.STATE_SHEAF_CAP : Fld := ⟨0x40020004, 0x0, 1, 10, 8, .ro, .cold, true, 4, []⟩
/-- R502 STATE [3:0] AC: [0] RADIO, [1] HFR, [2] MRAM, [3] CORE powered -/
def PWR.STATE_DOM : Fld := ⟨0x40020004, 0x0, 1, 3, 0, .ro, .cold, true, 4, []⟩
/-- R502 LINE [31:16] AC:  -/
def PWR.LINE_VBUCKA_MV : Fld := ⟨0x40020008, 0x0, 1, 31, 16, .ro, .cold, true, 0, []⟩
/-- R502 LINE [15:0] AC:  -/
def PWR.LINE_LINE_MV : Fld := ⟨0x40020008, 0x0, 1, 15, 0, .ro, .cold, true, 0, []⟩
/-- R502 RAIL [31:16] AC:  -/
def PWR.RAIL_VBUCKB_MV : Fld := ⟨0x4002000C, 0x0, 1, 31, 16, .ro, .cold, true, 0, []⟩
/-- R502 RAIL [7:0] AC:  -/
def PWR.RAIL_BUCKB_TGT : Fld := ⟨0x4002000C, 0x0, 1, 7, 0, .ro, .cold, true, 0, []⟩
/-- R502 THERM [31:16] AC: main die, signed, 0.125 °C -/
def PWR.THERM_T_MAIN : Fld := ⟨0x40020010, 0x0, 1, 31, 16, .ro, .cold, true, 0, []⟩
/-- R502 THERM [15:0] AC: power die, signed, 0.125 °C -/
def PWR.THERM_T_POWER : Fld := ⟨0x40020010, 0x0, 1, 15, 0, .ro, .cold, true, 0, []⟩
/-- R502 THERM_CFG [31:24] RO: R499 -/
def PWR.THERM_CFG_HARD_C : Fld := ⟨0x40020014, 0x0, 1, 31, 24, .ro, .cold, false, 128, []⟩
/-- R502 THERM_CFG [23:16] RW, AC: °C -/
def PWR.THERM_CFG_QUIET_C : Fld := ⟨0x40020014, 0x0, 1, 23, 16, .rw, .cold, true, 122, []⟩
/-- R502 THERM_CFG [15:8] RW, AC: °C -/
def PWR.THERM_CFG_WARN_C : Fld := ⟨0x40020014, 0x0, 1, 15, 8, .rw, .cold, true, 115, []⟩
/-- R502 THERM_CFG [7:4] RW, AC: °C -/
def PWR.THERM_CFG_HYST : Fld := ⟨0x40020014, 0x0, 1, 7, 4, .rw, .cold, true, 5, []⟩
/-- R502 LEW_CFG [23:16] RW, AC: 0.1 V units -/
def PWR.LEW_CFG_HYST : Fld := ⟨0x40020018, 0x0, 1, 23, 16, .rw, .cold, true, 10, []⟩
/-- R502 LEW_CFG [15:0] RW, AC: threshold, mV; clamped to 18,000 to 22,000 -/
def PWR.LEW_CFG_LEW_MV : Fld := ⟨0x40020018, 0x0, 1, 15, 0, .rw, .cold, true, 19000, []⟩
/-- R502 DOM_CTRL [2:2] RW, AC: Core P -/
def PWR.DOM_CTRL_MRAM : Fld := ⟨0x4002001C, 0x0, 1, 2, 2, .rw, .cold, true, 1, []⟩
/-- R502 DOM_CTRL [1:1] RW, AC: Core P -/
def PWR.DOM_CTRL_HFR : Fld := ⟨0x4002001C, 0x0, 1, 1, 1, .rw, .cold, true, 0, []⟩
/-- R502 DOM_CTRL [0:0] RW, AC: Core P; refused, with CMD_ERR, while MULT ≠ 24 (R473) -/
def PWR.DOM_CTRL_RADIO : Fld := ⟨0x4002001C, 0x0, 1, 0, 0, .rw, .cold, true, 0, []⟩
/-- R502 STATUS [7:7] RC, AC: a counter saturated -/
def PWR.STATUS_SAT : Fld := ⟨0x40020020, 0x0, 1, 7, 7, .rc, .cold, true, 0, []⟩
/-- R502 STATUS [6:6] RC, AC: a write was ignored -/
def PWR.STATUS_CMD_ERR : Fld := ⟨0x40020020, 0x0, 1, 6, 6, .rc, .cold, true, 0, []⟩
/-- R502 STATUS [5:5] RC, AC: R499 -/
def PWR.STATUS_HARD_THERM : Fld := ⟨0x40020020, 0x0, 1, 5, 5, .rc, .cold, true, 0, []⟩
/-- R502 STATUS [4:4] RC, AC: R484 -/
def PWR.STATUS_BROWN_OUT : Fld := ⟨0x40020020, 0x0, 1, 4, 4, .rc, .cold, true, 0, []⟩
/-- R502 STATUS [3:3] RC, AC: PD class changed -/
def PWR.STATUS_CLASS_CHG : Fld := ⟨0x40020020, 0x0, 1, 3, 3, .rc, .cold, true, 0, []⟩
/-- R502 STATUS [2:2] RC, AC: WARN_C reached -/
def PWR.STATUS_THERM : Fld := ⟨0x40020020, 0x0, 1, 2, 2, .rc, .cold, true, 0, []⟩
/-- R502 STATUS [1:1] RC, AC: warning cleared -/
def PWR.STATUS_LEW_END : Fld := ⟨0x40020020, 0x0, 1, 1, 1, .rc, .cold, true, 0, []⟩
/-- R502 STATUS [0:0] RC, AC: R483 -/
def PWR.STATUS_LEW : Fld := ⟨0x40020020, 0x0, 1, 0, 0, .rc, .cold, true, 0, []⟩
/-- R502 CNT_LEW [31:0] RW, AC: warnings; thermal events; class changes; saturating -/
def PWR.CNT_LEW_COUNT : Fld := ⟨0x40020024, 0x0, 1, 31, 0, .rw, .cold, true, 0, []⟩
/-- R502 CNT_THERM [31:0] RW, AC: warnings; thermal events; class changes; saturating -/
def PWR.CNT_THERM_COUNT : Fld := ⟨0x40020028, 0x0, 1, 31, 0, .rw, .cold, true, 0, []⟩
/-- R502 CNT_CLASS [31:0] RW, AC: warnings; thermal events; class changes; saturating -/
def PWR.CNT_CLASS_COUNT : Fld := ⟨0x4002002C, 0x0, 1, 31, 0, .rw, .cold, true, 0, []⟩

/-- The fields of PWR, part 0. -/
def PWR.fields0 : List Fld := [PWR.ID_BLOCK, PWR.ID_REV, PWR.STATE_CLASS, PWR.STATE_LINE_OK, PWR.STATE_LEW, PWR.STATE_HARV, PWR.STATE_BUCKB_ON, PWR.STATE_SHEAF_CAP, PWR.STATE_DOM, PWR.LINE_VBUCKA_MV, PWR.LINE_LINE_MV, PWR.RAIL_VBUCKB_MV, PWR.RAIL_BUCKB_TGT, PWR.THERM_T_MAIN, PWR.THERM_T_POWER, PWR.THERM_CFG_HARD_C, PWR.THERM_CFG_QUIET_C, PWR.THERM_CFG_WARN_C, PWR.THERM_CFG_HYST, PWR.LEW_CFG_HYST, PWR.LEW_CFG_LEW_MV, PWR.DOM_CTRL_MRAM, PWR.DOM_CTRL_HFR, PWR.DOM_CTRL_RADIO, PWR.STATUS_SAT, PWR.STATUS_CMD_ERR, PWR.STATUS_HARD_THERM, PWR.STATUS_BROWN_OUT, PWR.STATUS_CLASS_CHG, PWR.STATUS_THERM, PWR.STATUS_LEW_END, PWR.STATUS_LEW, PWR.CNT_LEW_COUNT, PWR.CNT_THERM_COUNT, PWR.CNT_CLASS_COUNT]
/-- Every field of the register tables of PWR. -/
def PWR.fields : List Fld := PWR.fields0

/-- R503 ID [31:16] RO: block code -/
def AON.ID_BLOCK : Fld := ⟨0x40190000, 0x0, 1, 31, 16, .ro, .cold, false, 25, []⟩
/-- R503 ID [15:0] RO: block revision -/
def AON.ID_REV : Fld := ⟨0x40190000, 0x0, 1, 15, 0, .ro, .cold, false, 256, []⟩
/-- R503 UPT_LO [31:0] AC: uptime, low and high words; read per R442 -/
def AON.UPT_LO_UPT : Fld := ⟨0x40190004, 0x0, 1, 31, 0, .ro, .cold, true, 0, []⟩
/-- R503 UPT_HI [31:0] AC: uptime, low and high words; read per R442 -/
def AON.UPT_HI_UPT : Fld := ⟨0x40190008, 0x0, 1, 31, 0, .ro, .cold, true, 0, []⟩
/-- R503 UPT_CMP_LO [31:0] RW, AC: compare value; matched once the HI write has reached AON -/
def AON.UPT_CMP_LO_CMP : Fld := ⟨0x4019000C, 0x0, 1, 31, 0, .rw, .cold, true, 4294967295, []⟩
/-- R503 UPT_CMP_HI [31:0] RW, AC: compare value; matched once the HI write has reached AON -/
def AON.UPT_CMP_HI_CMP : Fld := ⟨0x40190010, 0x0, 1, 31, 0, .rw, .cold, true, 4294967295, []⟩
/-- R503 BOOT_PTR [8:8] RWV, AC: R493; Core P -/
def AON.BOOT_PTR_TRIAL : Fld := ⟨0x40190014, 0x0, 1, 8, 8, .rwv, .cold, true, 0, []⟩
/-- R503 BOOT_PTR [7:4] RWV, AC: boots left -/
def AON.BOOT_PTR_TRIES : Fld := ⟨0x40190014, 0x0, 1, 7, 4, .rwv, .cold, true, 0, []⟩
/-- R503 BOOT_PTR [2:2] RWV, AC: slot, 0 A, 1 B -/
def AON.BOOT_PTR_TBL : Fld := ⟨0x40190014, 0x0, 1, 2, 2, .rwv, .cold, true, 0, []⟩
/-- R503 BOOT_PTR [1:1] RWV, AC: slot -/
def AON.BOOT_PTR_LSQ : Fld := ⟨0x40190014, 0x0, 1, 1, 1, .rwv, .cold, true, 0, []⟩
/-- R503 BOOT_PTR [0:0] RWV, AC: slot -/
def AON.BOOT_PTR_FW : Fld := ⟨0x40190014, 0x0, 1, 0, 0, .rwv, .cold, true, 0, []⟩
/-- R503 WAKE [7:0] RC, AC: Core P wake inputs 7 to 0 latched (R32) -/
def AON.WAKE_WAKE : Fld := ⟨0x40190018, 0x0, 1, 7, 0, .rc, .cold, true, 0, []⟩
/-- R503 STATUS [1:1] RC, AC: retention SRAM wiped (R486) -/
def AON.STATUS_RET_LOST : Fld := ⟨0x4019001C, 0x0, 1, 1, 1, .rc, .cold, true, 1, []⟩
/-- R503 STATUS [0:0] RC, AC: UPT reached the compare value -/
def AON.STATUS_UPT_MATCH : Fld := ⟨0x4019001C, 0x0, 1, 0, 0, .rc, .cold, true, 0, []⟩
/-- R503 SCRATCH [31:0] RW, AC: kept through WARM; cleared with retention SRAM -/
def AON.SCRATCH_DATA : Fld := ⟨0x40190020, 0x4, 4, 31, 0, .rw, .cold, true, 0, []⟩

/-- The fields of AON, part 0. -/
def AON.fields0 : List Fld := [AON.ID_BLOCK, AON.ID_REV, AON.UPT_LO_UPT, AON.UPT_HI_UPT, AON.UPT_CMP_LO_CMP, AON.UPT_CMP_HI_CMP, AON.BOOT_PTR_TRIAL, AON.BOOT_PTR_TRIES, AON.BOOT_PTR_TBL, AON.BOOT_PTR_LSQ, AON.BOOT_PTR_FW, AON.WAKE_WAKE, AON.STATUS_RET_LOST, AON.STATUS_UPT_MATCH, AON.SCRATCH_DATA]
/-- Every field of the register tables of AON. -/
def AON.fields : List Fld := AON.fields0

/-- R524 ID [31:16] RO: block code -/
def CAL.ID_BLOCK : Fld := ⟨0x40150000, 0x0, 1, 31, 16, .ro, .warm, false, 21, []⟩
/-- R524 ID [15:0] RO: block revision -/
def CAL.ID_REV : Fld := ⟨0x40150000, 0x0, 1, 15, 0, .ro, .warm, false, 256, []⟩
/-- R524 CTRL [0:0] RW: termination fitted (R509) -/
def CAL.CTRL_TERM : Fld := ⟨0x40150004, 0x0, 1, 0, 0, .rw, .warm, false, 0, []⟩
/-- R524 CMD [31:31] WP: start SEQ (R509) -/
def CAL.CMD_RUN : Fld := ⟨0x40150008, 0x0, 1, 31, 31, .wp, .warm, false, 0, []⟩
/-- R524 CMD [30:30] WP: R512 -/
def CAL.CMD_ABORT : Fld := ⟨0x40150008, 0x0, 1, 30, 30, .wp, .warm, false, 0, []⟩
/-- R524 CMD [29:29] WP: R516 -/
def CAL.CMD_COMMIT : Fld := ⟨0x40150008, 0x0, 1, 29, 29, .wp, .warm, false, 0, []⟩
/-- R524 CMD [23:20] RW: sequence -/
def CAL.CMD_SEQ : Fld := ⟨0x40150008, 0x0, 1, 23, 20, .rw, .warm, false, 0, []⟩
/-- R524 CMD [15:0] RW: chains, synthesizers or sheaves; 0 all -/
def CAL.CMD_TARGET : Fld := ⟨0x40150008, 0x0, 1, 15, 0, .rw, .warm, false, 0, []⟩
/-- R524 STATE [8:8] RO: trims written after RADIO power-up (R508) -/
def CAL.STATE_APPLIED : Fld := ⟨0x4015000C, 0x0, 1, 8, 8, .ro, .warm, false, 0, []⟩
/-- R524 STATE [7:4] RO: sequence running -/
def CAL.STATE_SEQ : Fld := ⟨0x4015000C, 0x0, 1, 7, 4, .ro, .warm, false, 0, []⟩
/-- R524 STATE [1:1] RO: commit in progress -/
def CAL.STATE_COMMITTING : Fld := ⟨0x4015000C, 0x0, 1, 1, 1, .ro, .warm, false, 0, []⟩
/-- R524 STATE [0:0] RO: sequence running -/
def CAL.STATE_BUSY : Fld := ⟨0x4015000C, 0x0, 1, 0, 0, .ro, .warm, false, 0, []⟩
/-- R524 STATUS [6:6] RC: a counter saturated -/
def CAL.STATUS_SAT : Fld := ⟨0x40150010, 0x0, 1, 6, 6, .rc, .warm, false, 0, []⟩
/-- R524 STATUS [5:5] RC: a write was ignored -/
def CAL.STATUS_CMD_ERR : Fld := ⟨0x40150010, 0x0, 1, 5, 5, .rc, .warm, false, 0, []⟩
/-- R524 STATUS [4:4] RC: R517 -/
def CAL.STATUS_FALLBACK : Fld := ⟨0x40150010, 0x0, 1, 4, 4, .rc, .warm, false, 0, []⟩
/-- R524 STATUS [3:3] RC: R516 -/
def CAL.STATUS_COMMIT_FAIL : Fld := ⟨0x40150010, 0x0, 1, 3, 3, .rc, .warm, false, 0, []⟩
/-- R524 STATUS [2:2] RC: R516 -/
def CAL.STATUS_COMMIT_DONE : Fld := ⟨0x40150010, 0x0, 1, 2, 2, .rc, .warm, false, 0, []⟩
/-- R524 STATUS [1:1] RC: sequence aborted -/
def CAL.STATUS_ABORTED : Fld := ⟨0x40150010, 0x0, 1, 1, 1, .rc, .warm, false, 0, []⟩
/-- R524 STATUS [0:0] RC: sequence completed -/
def CAL.STATUS_DONE : Fld := ⟨0x40150010, 0x0, 1, 0, 0, .rc, .warm, false, 0, []⟩
/-- R524 RESULT [31:28] RO: last sequence -/
def CAL.RESULT_SEQ : Fld := ⟨0x40150014, 0x0, 1, 31, 28, .ro, .warm, false, 0, []⟩
/-- R524 RESULT [27:24] RO: R513 -/
def CAL.RESULT_CODE : Fld := ⟨0x40150014, 0x0, 1, 27, 24, .ro, .warm, false, 0, []⟩
/-- R524 RESULT [15:0] RO: units completed, TARGET layout -/
def CAL.RESULT_UNIT : Fld := ⟨0x40150014, 0x0, 1, 15, 0, .ro, .warm, false, 0, []⟩
/-- R524 BANK [31:31] RWV, RO: bank in force, 0 A, 1 B; written only by the commit -/
def CAL.BANK_PTR : Fld := ⟨0x40150018, 0x0, 1, 31, 31, .ro, .warm, false, 0, []⟩
/-- R524 BANK [30:0] RO: GEN of the bank in force -/
def CAL.BANK_GEN : Fld := ⟨0x40150018, 0x0, 1, 30, 0, .ro, .warm, false, 0, []⟩
/-- R524 VALID [31:0] RO: record VALID field (R515) -/
def CAL.VALID_VALID : Fld := ⟨0x4015001C, 0x0, 1, 31, 0, .ro, .warm, false, 0, []⟩
/-- R524 REC_ADDR [10:0] RW: word of the working record; increments modulo 2,048 per REC_DATA read -/
def CAL.REC_ADDR_WADDR : Fld := ⟨0x40150020, 0x0, 1, 10, 0, .rw, .warm, false, 0, []⟩
/-- R524 REC_DATA [31:0] RO: working-record word at WADDR -/
def CAL.REC_DATA_DATA : Fld := ⟨0x40150024, 0x0, 1, 31, 0, .ro, .warm, false, 0, []⟩
/-- R524 CNT_RUN [31:0] RW: sequences run; aborts; commits; commit failures; fallbacks; saturating -/
def CAL.CNT_RUN_COUNT : Fld := ⟨0x40150028, 0x0, 1, 31, 0, .rw, .warm, false, 0, []⟩
/-- R524 CNT_ABORT [31:0] RW: sequences run; aborts; commits; commit failures; fallbacks; saturating -/
def CAL.CNT_ABORT_COUNT : Fld := ⟨0x4015002C, 0x0, 1, 31, 0, .rw, .warm, false, 0, []⟩
/-- R524 CNT_COMMIT [31:0] RW: sequences run; aborts; commits; commit failures; fallbacks; saturating -/
def CAL.CNT_COMMIT_COUNT : Fld := ⟨0x40150030, 0x0, 1, 31, 0, .rw, .warm, false, 0, []⟩
/-- R524 CNT_FAIL [31:0] RW: sequences run; aborts; commits; commit failures; fallbacks; saturating -/
def CAL.CNT_FAIL_COUNT : Fld := ⟨0x40150034, 0x0, 1, 31, 0, .rw, .warm, false, 0, []⟩
/-- R524 CNT_FALLBACK [31:0] RW: sequences run; aborts; commits; commit failures; fallbacks; saturating -/
def CAL.CNT_FALLBACK_COUNT : Fld := ⟨0x40150038, 0x0, 1, 31, 0, .rw, .warm, false, 0, []⟩

/-- The fields of CAL, part 0. -/
def CAL.fields0 : List Fld := [CAL.ID_BLOCK, CAL.ID_REV, CAL.CTRL_TERM, CAL.CMD_RUN, CAL.CMD_ABORT, CAL.CMD_COMMIT, CAL.CMD_SEQ, CAL.CMD_TARGET, CAL.STATE_APPLIED, CAL.STATE_SEQ, CAL.STATE_COMMITTING, CAL.STATE_BUSY, CAL.STATUS_SAT, CAL.STATUS_CMD_ERR, CAL.STATUS_FALLBACK, CAL.STATUS_COMMIT_FAIL, CAL.STATUS_COMMIT_DONE, CAL.STATUS_ABORTED, CAL.STATUS_DONE, CAL.RESULT_SEQ, CAL.RESULT_CODE, CAL.RESULT_UNIT, CAL.BANK_PTR, CAL.BANK_GEN, CAL.VALID_VALID, CAL.REC_ADDR_WADDR, CAL.REC_DATA_DATA, CAL.CNT_RUN_COUNT, CAL.CNT_ABORT_COUNT, CAL.CNT_COMMIT_COUNT, CAL.CNT_FAIL_COUNT, CAL.CNT_FALLBACK_COUNT]
/-- Every field of the register tables of CAL. -/
def CAL.fields : List Fld := CAL.fields0

/-- R525 ID [31:16] RO: block code -/
def AGE.ID_BLOCK : Fld := ⟨0x40160000, 0x0, 1, 31, 16, .ro, .warm, false, 22, []⟩
/-- R525 ID [15:0] RO: block revision -/
def AGE.ID_REV : Fld := ⟨0x40160000, 0x0, 1, 15, 0, .ro, .warm, false, 256, []⟩
/-- R525 CTRL [4:4] RW: R519 -/
def AGE.CTRL_AVS_EN : Fld := ⟨0x40160004, 0x0, 1, 4, 4, .rw, .warm, false, 1, []⟩
/-- R525 CTRL [3:0] RW: [0] oscillators, [1] PA path, [2] band-gap, [3] MRAM -/
def AGE.CTRL_EN : Fld := ⟨0x40160004, 0x0, 1, 3, 0, .rw, .warm, false, 15, []⟩
/-- R525 STATUS [9:9] RC: a counter saturated -/
def AGE.STATUS_SAT : Fld := ⟨0x40160008, 0x0, 1, 9, 9, .rc, .warm, false, 0, []⟩
/-- R525 STATUS [8:8] RC: R520 -/
def AGE.STATUS_GUARD_UP : Fld := ⟨0x40160008, 0x0, 1, 8, 8, .rc, .warm, false, 0, []⟩
/-- R525 STATUS [7:7] RC: R522 -/
def AGE.STATUS_DUE_SCRUB : Fld := ⟨0x40160008, 0x0, 1, 7, 7, .rc, .warm, false, 0, []⟩
/-- R525 STATUS [6:6] RC: R522 -/
def AGE.STATUS_DUE_HINT : Fld := ⟨0x40160008, 0x0, 1, 6, 6, .rc, .warm, false, 0, []⟩
/-- R525 STATUS [5:5] RC: a margin reached 0 % -/
def AGE.STATUS_EXHAUST : Fld := ⟨0x40160008, 0x0, 1, 5, 5, .rc, .warm, false, 0, []⟩
/-- R525 STATUS [4:0] RC: [0] core, [1] TX, [2] band-gap, [3] MRAM, [4] hints -/
def AGE.STATUS_WARN : Fld := ⟨0x40160008, 0x0, 1, 4, 0, .rc, .warm, false, 0, []⟩
/-- R525 RO_CORE [15:0] RO: slowdown, 0.01 % -/
def AGE.RO_CORE_SLOW : Fld := ⟨0x4016000C, 0x0, 1, 15, 0, .ro, .warm, false, 0, []⟩
/-- R525 RO_RADIO [15:0] RO: slowdown, 0.01 % -/
def AGE.RO_RADIO_SLOW : Fld := ⟨0x40160010, 0x0, 1, 15, 0, .ro, .warm, false, 0, []⟩
/-- R525 RO_AON [15:0] RO: slowdown, 0.01 % -/
def AGE.RO_AON_SLOW : Fld := ⟨0x40160014, 0x0, 1, 15, 0, .ro, .warm, false, 0, []⟩
/-- R525 VCORE [31:16] RO: mV -/
def AGE.VCORE_VBASE : Fld := ⟨0x40160018, 0x0, 1, 31, 16, .ro, .warm, false, 0, []⟩
/-- R525 VCORE [15:0] RO: mV (R519) -/
def AGE.VCORE_VTARGET : Fld := ⟨0x40160018, 0x0, 1, 15, 0, .ro, .warm, false, 0, []⟩
/-- R525 PA_SEL [3:2] RW: chain shown in PA_DRIFT -/
def AGE.PA_SEL_CHAIN : Fld := ⟨0x4016001C, 0x0, 1, 3, 2, .rw, .warm, false, 0, []⟩
/-- R525 PA_SEL [1:0] RW: band group shown -/
def AGE.PA_SEL_GROUP : Fld := ⟨0x4016001C, 0x0, 1, 1, 0, .rw, .warm, false, 0, []⟩
/-- R525 PA_DRIFT [31:16] RO: signed, Q8.8 dB -/
def AGE.PA_DRIFT_MEAN : Fld := ⟨0x40160020, 0x0, 1, 31, 16, .ro, .warm, false, 0, []⟩
/-- R525 PA_DRIFT [15:0] RO: Q8.8 dB -/
def AGE.PA_DRIFT_SIGMA : Fld := ⟨0x40160020, 0x0, 1, 15, 0, .ro, .warm, false, 0, []⟩
/-- R525 GUARD_CAND [15:0] RO: candidate, Q8.8 dB (R520) -/
def AGE.GUARD_CAND_GUARD : Fld := ⟨0x40160024, 0x0, 1, 15, 0, .ro, .warm, false, 768, []⟩
/-- R525 BG [15:0] RO:  -/
def AGE.BG_LO : Fld := ⟨0x40160028, 0x0, 1, 15, 0, .ro, .warm, false, 0, []⟩
/-- R525 MRAM [31:16] RO:  -/
def AGE.MRAM_HI : Fld := ⟨0x4016002C, 0x0, 1, 31, 16, .ro, .warm, false, 0, []⟩
/-- R525 MRAM [15:0] RO:  -/
def AGE.MRAM_LO : Fld := ⟨0x4016002C, 0x0, 1, 15, 0, .ro, .warm, false, 0, []⟩
/-- R525 HINT [31:16] RO:  -/
def AGE.HINT_HI : Fld := ⟨0x40160030, 0x0, 1, 31, 16, .ro, .warm, false, 0, []⟩
/-- R525 HINT [15:0] RO:  -/
def AGE.HINT_LO : Fld := ⟨0x40160030, 0x0, 1, 15, 0, .ro, .warm, false, 0, []⟩
/-- R525 MARGIN0 [31:24] RO:  -/
def AGE.MARGIN0_A : Fld := ⟨0x40160034, 0x0, 1, 31, 24, .ro, .warm, false, 100, []⟩
/-- R525 MARGIN0 [23:16] RO:  -/
def AGE.MARGIN0_B : Fld := ⟨0x40160034, 0x0, 1, 23, 16, .ro, .warm, false, 100, []⟩
/-- R525 MARGIN0 [15:8] RO:  -/
def AGE.MARGIN0_C : Fld := ⟨0x40160034, 0x0, 1, 15, 8, .ro, .warm, false, 100, []⟩
/-- R525 MARGIN0 [7:0] RW:  -/
def AGE.MARGIN0_WARN_PCT : Fld := ⟨0x40160034, 0x0, 1, 7, 0, .rw, .warm, false, 25, []⟩
/-- R525 MARGIN1 [31:24] RO:  -/
def AGE.MARGIN1_A : Fld := ⟨0x40160038, 0x0, 1, 31, 24, .ro, .warm, false, 100, []⟩
/-- R525 MARGIN1 [23:16] RO:  -/
def AGE.MARGIN1_B : Fld := ⟨0x40160038, 0x0, 1, 23, 16, .ro, .warm, false, 100, []⟩
/-- R525 CNT_WARN [31:0] RW: warnings raised; saturating -/
def AGE.CNT_WARN_COUNT : Fld := ⟨0x4016003C, 0x0, 1, 31, 0, .rw, .warm, false, 0, []⟩

/-- The fields of AGE, part 0. -/
def AGE.fields0 : List Fld := [AGE.ID_BLOCK, AGE.ID_REV, AGE.CTRL_AVS_EN, AGE.CTRL_EN, AGE.STATUS_SAT, AGE.STATUS_GUARD_UP, AGE.STATUS_DUE_SCRUB, AGE.STATUS_DUE_HINT, AGE.STATUS_EXHAUST, AGE.STATUS_WARN, AGE.RO_CORE_SLOW, AGE.RO_RADIO_SLOW, AGE.RO_AON_SLOW, AGE.VCORE_VBASE, AGE.VCORE_VTARGET, AGE.PA_SEL_CHAIN, AGE.PA_SEL_GROUP, AGE.PA_DRIFT_MEAN, AGE.PA_DRIFT_SIGMA, AGE.GUARD_CAND_GUARD, AGE.BG_LO, AGE.MRAM_HI, AGE.MRAM_LO, AGE.HINT_HI, AGE.HINT_LO, AGE.MARGIN0_A, AGE.MARGIN0_B, AGE.MARGIN0_C, AGE.MARGIN0_WARN_PCT, AGE.MARGIN1_A, AGE.MARGIN1_B, AGE.CNT_WARN_COUNT]
/-- Every field of the register tables of AGE. -/
def AGE.fields : List Fld := AGE.fields0

end Sys2Proof.Machine
end

