-- ==== Sys2Proof/Machine/RegsTime.lean ====
section
/-! DEFINITION. The register fields of the timebase, enforcer, timers, queues and clocks: ATB, RGE, TMR, QUE, CLK, one constant per row of the register tables
of the spec (address, stride, instances, high bit, low bit, type code, reset domain, AON copy, reset value). -/

namespace Sys2Proof.Machine

/-- R66 ID [31:16] RO: block code -/
def ATB.ID_BLOCK : Fld := ⟨0x40030000, 0x0, 1, 31, 16, .ro, .warm, false, 3, []⟩
/-- R66 ID [15:0] RO: block revision -/
def ATB.ID_REV : Fld := ⟨0x40030000, 0x0, 1, 15, 0, .ro, .warm, false, 256, []⟩
/-- R66 CTRL [8:8] RW: radio slots in any state except OFF (R42) -/
def ATB.CTRL_STANDALONE : Fld := ⟨0x40030004, 0x0, 1, 8, 8, .rw, .warm, false, 0, []⟩
/-- R66 CTRL [7:6] RW: MAINS_SYNC filter: 0 20 µs, 1 50 µs, 2 100 µs, 3 200 µs -/
def ATB.CTRL_MFILT : Fld := ⟨0x40030004, 0x0, 1, 7, 6, .rw, .warm, false, 0, []⟩
/-- R66 CTRL [5:4] RW: DPLL bandwidth: 0 0.25 Hz, 1 0.5 Hz, 2 1 Hz, 3 2 Hz -/
def ATB.CTRL_BW : Fld := ⟨0x40030004, 0x0, 1, 5, 4, .rw, .warm, false, 1, []⟩
/-- R66 CTRL [3:3] RW: 0 rising edge, 1 falling edge -/
def ATB.CTRL_MPOL : Fld := ⟨0x40030004, 0x0, 1, 3, 3, .rw, .warm, false, 0, []⟩
/-- R66 CTRL [2:2] RW: nominal frequency: 0 50 Hz, 1 60 Hz -/
def ATB.CTRL_NOM : Fld := ⟨0x40030004, 0x0, 1, 2, 2, .rw, .warm, false, 0, []⟩
/-- R66 CTRL [1:1] RW: 0 MAINS, 1 SYNTH; a change while EN = 1 acts under R566 -/
def ATB.CTRL_SRC : Fld := ⟨0x40030004, 0x0, 1, 1, 1, .rw, .warm, false, 0, []⟩
/-- R66 CTRL [0:0] RW: enable; position in OFF and on re-enable per R567 -/
def ATB.CTRL_EN : Fld := ⟨0x40030004, 0x0, 1, 0, 0, .rw, .warm, false, 0, []⟩
/-- R66 STATE [4:4] RO: PTP servo locked -/
def ATB.STATE_PTP_OK : Fld := ⟨0x40030008, 0x0, 1, 4, 4, .ro, .warm, false, 0, []⟩
/-- R66 STATE [3:3] RO: anchor applied since the last ACQUIRE step -/
def ATB.STATE_CYCLE_VALID : Fld := ⟨0x40030008, 0x0, 1, 3, 3, .ro, .warm, false, 0, []⟩
/-- R66 STATE [2:0] RO: state code of R41 -/
def ATB.STATE_STATE : Fld := ⟨0x40030008, 0x0, 1, 2, 0, .ro, .warm, false, 0, []⟩
/-- R66 STATUS [13:13] RC: a due slot was suppressed -/
def ATB.STATUS_SLOT_SUPPRESSED : Fld := ⟨0x4003000C, 0x0, 1, 13, 13, .rc, .warm, false, 0, []⟩
/-- R66 STATUS [12:12] RC: HOLDOVER limit reached -/
def ATB.STATUS_HOLD_EXPIRED : Fld := ⟨0x4003000C, 0x0, 1, 12, 12, .rc, .warm, false, 0, []⟩
/-- R66 STATUS [11:11] RC: mains frequency outside ±5 % -/
def ATB.STATUS_FREQ_RANGE : Fld := ⟨0x4003000C, 0x0, 1, 11, 11, .rc, .warm, false, 0, []⟩
/-- R66 STATUS [10:10] RC: an edge was discarded -/
def ATB.STATUS_BAD_EDGE : Fld := ⟨0x4003000C, 0x0, 1, 10, 10, .rc, .warm, false, 0, []⟩
/-- R66 STATUS [9:9] RC: state 2 or 3 entered -/
def ATB.STATUS_LOCKED : Fld := ⟨0x4003000C, 0x0, 1, 9, 9, .rc, .warm, false, 0, []⟩
/-- R66 STATUS [8:8] RC: HOLDOVER entered -/
def ATB.STATUS_SYNC_LOST : Fld := ⟨0x4003000C, 0x0, 1, 8, 8, .rc, .warm, false, 0, []⟩
/-- R66 STATUS [7:7] RC: CYCLE_ADJ applied -/
def ATB.STATUS_CYCLE_STEP : Fld := ⟨0x4003000C, 0x0, 1, 7, 7, .rc, .warm, false, 0, []⟩
/-- R66 STATUS [5:5] RC: banks swapped -/
def ATB.STATUS_PLAN_ACT : Fld := ⟨0x4003000C, 0x0, 1, 5, 5, .rc, .warm, false, 0, []⟩
/-- R66 STATUS [4:4] RC: CYCLE wrapped -/
def ATB.STATUS_WRAP : Fld := ⟨0x4003000C, 0x0, 1, 4, 4, .rc, .warm, false, 0, []⟩
/-- R66 STATUS [3:3] RC: cycle boundary -/
def ATB.STATUS_CYCLE : Fld := ⟨0x4003000C, 0x0, 1, 3, 3, .rc, .warm, false, 0, []⟩
/-- R66 STATUS [2:2] RC: a slot ended -/
def ATB.STATUS_SLOT_END : Fld := ⟨0x4003000C, 0x0, 1, 2, 2, .rc, .warm, false, 0, []⟩
/-- R66 STATUS [1:1] RC: a slot started -/
def ATB.STATUS_SLOT_START : Fld := ⟨0x4003000C, 0x0, 1, 1, 1, .rc, .warm, false, 0, []⟩
/-- R66 STATUS [0:0] RC: a slot prep fell due -/
def ATB.STATUS_SLOT_PREP : Fld := ⟨0x4003000C, 0x0, 1, 0, 0, .rc, .warm, false, 0, []⟩
/-- R66 POS_LO [15:0] RO: current angle; the read latches CYCLE into this master's shadow -/
def ATB.POS_LO_ANGLE : Fld := ⟨0x40030010, 0x0, 1, 15, 0, .ro, .warm, false, 0, []⟩
/-- R66 POS_HI [31:0] RO: this master's shadow of CYCLE -/
def ATB.POS_HI_CYCLE : Fld := ⟨0x40030014, 0x0, 1, 31, 0, .ro, .warm, false, 0, []⟩
/-- R66 OFFSET [15:0] RW: angle of the local edge (R40); applied at the next boundary while SRC = MAINS (R57) -/
def ATB.OFFSET_OFFSET : Fld := ⟨0x40030018, 0x0, 1, 15, 0, .rw, .warm, false, 0, []⟩
/-- R66 PERIOD [31:0] RO: measured cycle period in REFCLK cycles, Q24.8 (204,800,000 at 50.000 Hz) -/
def ATB.PERIOD_PERIOD : Fld := ⟨0x4003001C, 0x0, 1, 31, 0, .ro, .warm, false, 0, []⟩
/-- R66 PHERR [15:0] RO: signed phase error at the last accepted edge, au -/
def ATB.PHERR_PHERR : Fld := ⟨0x40030020, 0x0, 1, 15, 0, .ro, .warm, false, 0, []⟩
/-- R66 CYCLE_ADJ [31:0] RW: added to CYCLE modulo 2^32 at the boundary after ADJ_GO -/
def ATB.CYCLE_ADJ_DELTA : Fld := ⟨0x40030024, 0x0, 1, 31, 0, .rw, .warm, false, 0, []⟩
/-- R66 CMD [2:2] WP: apply DELTA at the next boundary -/
def ATB.CMD_ADJ_GO : Fld := ⟨0x40030028, 0x0, 1, 2, 2, .wp, .warm, false, 0, []⟩
/-- R66 CMD [1:1] WP: disarm the pending plan; written together with ARM, it acts first (R58) -/
def ATB.CMD_DISARM : Fld := ⟨0x40030028, 0x0, 1, 1, 1, .wp, .warm, false, 0, []⟩
/-- R66 CMD [0:0] WP: check and arm the pending plan (R55) -/
def ATB.CMD_ARM : Fld := ⟨0x40030028, 0x0, 1, 0, 0, .wp, .warm, false, 0, []⟩
/-- R66 PLAN_CTRL [31:16] RW: pending plan ID; writes ignored while ARMED (R58) -/
def ATB.PLAN_CTRL_PLAN_ID : Fld := ⟨0x4003002C, 0x0, 1, 31, 16, .rw, .warm, false, 0, []⟩
/-- R66 PLAN_CTRL [13:8] RW: pending slot count; writes ignored while ARMED (R58) -/
def ATB.PLAN_CTRL_SLOTS : Fld := ⟨0x4003002C, 0x0, 1, 13, 8, .rw, .warm, false, 0, []⟩
/-- R66 PLAN_CTRL [7:7] RO: bank now active -/
def ATB.PLAN_CTRL_ACTIVE_BANK : Fld := ⟨0x4003002C, 0x0, 1, 7, 7, .ro, .warm, false, 0, []⟩
/-- R66 PLAN_CTRL [5:5] RO: pending plan armed -/
def ATB.PLAN_CTRL_ARMED : Fld := ⟨0x4003002C, 0x0, 1, 5, 5, .ro, .warm, false, 0, []⟩
/-- R66 PLAN_CTRL [4:0] RO: result of the last ARM (R55) -/
def ATB.PLAN_CTRL_REFUSE : Fld := ⟨0x4003002C, 0x0, 1, 4, 0, .ro, .warm, false, 0, []⟩
/-- R66 PLAN_ACT [31:0] RW: activation cycle of the pending plan; writes ignored while ARMED (R58) -/
def ATB.PLAN_ACT_ACT_CYCLE : Fld := ⟨0x40030030, 0x0, 1, 31, 0, .rw, .warm, false, 0, []⟩
/-- R66 PLAN_ADDR [31:31] RW: 0 pending bank, 1 active bank (read only) -/
def ATB.PLAN_ADDR_BANKSEL : Fld := ⟨0x40030034, 0x0, 1, 31, 31, .rw, .warm, false, 0, []⟩
/-- R66 PLAN_ADDR [6:0] RW: slot × 4 + word; increments modulo 128 after each PLAN_DATA access -/
def ATB.PLAN_ADDR_WADDR : Fld := ⟨0x40030034, 0x0, 1, 6, 0, .rw, .warm, false, 0, []⟩
/-- R66 PLAN_DATA [31:0] RW: slot word at WADDR; writes to the active bank, or while ARMED, are ignored -/
def ATB.PLAN_DATA_DATA : Fld := ⟨0x40030038, 0x0, 1, 31, 0, .rw, .warm, false, 0, []⟩
/-- R66 PREP [15:0] RW: prep lead in au (R59) -/
def ATB.PREP_PREP_LEAD : Fld := ⟨0x4003003C, 0x0, 1, 15, 0, .rw, .warm, false, 400, []⟩
/-- R66 HOLDOVER [31:16] RO: whole measured periods elapsed since entry into the current HOLDOVER (R45) -/
def ATB.HOLDOVER_COUNT : Fld := ⟨0x40030040, 0x0, 1, 31, 16, .ro, .warm, false, 0, []⟩
/-- R66 HOLDOVER [15:0] RW: HOLDOVER limit in measured periods from entry (R45) -/
def ATB.HOLDOVER_LIMIT : Fld := ⟨0x40030040, 0x0, 1, 15, 0, .rw, .warm, false, 100, []⟩
/-- R66 CUR_SLOT [31:16] RO: PLAN_ID of the active plan -/
def ATB.CUR_SLOT_ACTIVE_PLAN_ID : Fld := ⟨0x40030044, 0x0, 1, 31, 16, .ro, .warm, false, 0, []⟩
/-- R66 CUR_SLOT [11:8] RO: sheaf 3 to 0 inside a running slot -/
def ATB.CUR_SLOT_IN_SLOT : Fld := ⟨0x40030044, 0x0, 1, 11, 8, .ro, .warm, false, 0, []⟩
/-- R66 CUR_SLOT [4:0] RO: index of the slot that started last -/
def ATB.CUR_SLOT_LAST_START : Fld := ⟨0x40030044, 0x0, 1, 4, 0, .ro, .warm, false, 0, []⟩
/-- R66 CAP_CFG [6:4] RW:  -/
def ATB.CAP_CFG_FILT0 : Fld := ⟨0x40030048, 0x0, 1, 6, 4, .rw, .warm, false, 0, []⟩
/-- R66 CAP_CFG [3:2] RW:  -/
def ATB.CAP_CFG_EDGE0 : Fld := ⟨0x40030048, 0x0, 1, 3, 2, .rw, .warm, false, 0, []⟩
/-- R66 CAP_CFG [1:0] RW:  -/
def ATB.CAP_CFG_SRC0 : Fld := ⟨0x40030048, 0x0, 1, 1, 0, .rw, .warm, false, 0, []⟩
/-- R66 CAP_CFG [14:12] RW:  -/
def ATB.CAP_CFG_FILT1 : Fld := ⟨0x40030048, 0x0, 1, 14, 12, .rw, .warm, false, 0, []⟩
/-- R66 CAP_CFG [11:10] RW:  -/
def ATB.CAP_CFG_EDGE1 : Fld := ⟨0x40030048, 0x0, 1, 11, 10, .rw, .warm, false, 0, []⟩
/-- R66 CAP_CFG [9:8] RW:  -/
def ATB.CAP_CFG_SRC1 : Fld := ⟨0x40030048, 0x0, 1, 9, 8, .rw, .warm, false, 0, []⟩
/-- R66 CAP_CFG [22:20] RW:  -/
def ATB.CAP_CFG_FILT2 : Fld := ⟨0x40030048, 0x0, 1, 22, 20, .rw, .warm, false, 0, []⟩
/-- R66 CAP_CFG [19:18] RW:  -/
def ATB.CAP_CFG_EDGE2 : Fld := ⟨0x40030048, 0x0, 1, 19, 18, .rw, .warm, false, 0, []⟩
/-- R66 CAP_CFG [17:16] RW:  -/
def ATB.CAP_CFG_SRC2 : Fld := ⟨0x40030048, 0x0, 1, 17, 16, .rw, .warm, false, 0, []⟩
/-- R66 CAP_CFG [30:28] RW:  -/
def ATB.CAP_CFG_FILT3 : Fld := ⟨0x40030048, 0x0, 1, 30, 28, .rw, .warm, false, 0, []⟩
/-- R66 CAP_CFG [27:26] RW:  -/
def ATB.CAP_CFG_EDGE3 : Fld := ⟨0x40030048, 0x0, 1, 27, 26, .rw, .warm, false, 0, []⟩
/-- R66 CAP_CFG [25:24] RW:  -/
def ATB.CAP_CFG_SRC3 : Fld := ⟨0x40030048, 0x0, 1, 25, 24, .rw, .warm, false, 0, []⟩
/-- R66 CAP_STATUS [7:4] RC: CAP3 to CAP0 overwritten -/
def ATB.CAP_STATUS_OVR : Fld := ⟨0x4003004C, 0x0, 1, 7, 4, .rc, .warm, false, 0, []⟩
/-- R66 CAP_STATUS [3:0] RC: CAP3 to CAP0 captured -/
def ATB.CAP_STATUS_CAPT : Fld := ⟨0x4003004C, 0x0, 1, 3, 0, .rc, .warm, false, 0, []⟩
/-- R66 CAP_LO [15:0] RO: captured angle; the read latches the captured cycle into this master's shadow -/
def ATB.CAP_LO_ANGLE : Fld := ⟨0x40030050, 0x8, 4, 15, 0, .ro, .warm, false, 0, []⟩
/-- R66 CAP_HI [31:0] RO: this master's shadow of the captured cycle -/
def ATB.CAP_HI_CYCLE : Fld := ⟨0x40030054, 0x8, 4, 31, 0, .ro, .warm, false, 0, []⟩
/-- R66 AEV_SEL [2:0] RW: event addressed by AEV_CFG and AEV_CMP -/
def ATB.AEV_SEL_CH : Fld := ⟨0x40030070, 0x0, 1, 2, 0, .rw, .warm, false, 0, []⟩
/-- R66 AEV_CFG [7:4] RW: bit 7 ATB_EVOUT, bit 6 LUM trigger, bit 5 sequencer event lines, bit 4 source 70 -/
def ATB.AEV_CFG_ROUTE : Fld := ⟨0x40030074, 0x0, 1, 7, 4, .rw, .warm, false, 0, []⟩
/-- R66 AEV_CFG [1:0] RW: 0 off, 1 every cycle, 2 one-shot, 3 acts as 0 (off) (R65) -/
def ATB.AEV_CFG_MODE : Fld := ⟨0x40030074, 0x0, 1, 1, 0, .rw, .warm, false, 0, []⟩
/-- R66 AEV_CMP [15:0] RW: compare angle -/
def ATB.AEV_CMP_ANGLE : Fld := ⟨0x40030078, 0x0, 1, 15, 0, .rw, .warm, false, 0, []⟩
/-- R66 AEV_STATUS [7:0] RC: AEV7 to AEV0 fired -/
def ATB.AEV_STATUS_FIRED : Fld := ⟨0x4003007C, 0x0, 1, 7, 0, .rc, .warm, false, 0, []⟩

/-- The fields of ATB, part 0. -/
def ATB.fields0 : List Fld := [ATB.ID_BLOCK, ATB.ID_REV, ATB.CTRL_STANDALONE, ATB.CTRL_MFILT, ATB.CTRL_BW, ATB.CTRL_MPOL, ATB.CTRL_NOM, ATB.CTRL_SRC, ATB.CTRL_EN, ATB.STATE_PTP_OK, ATB.STATE_CYCLE_VALID, ATB.STATE_STATE, ATB.STATUS_SLOT_SUPPRESSED, ATB.STATUS_HOLD_EXPIRED, ATB.STATUS_FREQ_RANGE, ATB.STATUS_BAD_EDGE, ATB.STATUS_LOCKED, ATB.STATUS_SYNC_LOST, ATB.STATUS_CYCLE_STEP, ATB.STATUS_PLAN_ACT, ATB.STATUS_WRAP, ATB.STATUS_CYCLE, ATB.STATUS_SLOT_END, ATB.STATUS_SLOT_START, ATB.STATUS_SLOT_PREP, ATB.POS_LO_ANGLE, ATB.POS_HI_CYCLE, ATB.OFFSET_OFFSET, ATB.PERIOD_PERIOD, ATB.PHERR_PHERR, ATB.CYCLE_ADJ_DELTA, ATB.CMD_ADJ_GO, ATB.CMD_DISARM, ATB.CMD_ARM, ATB.PLAN_CTRL_PLAN_ID, ATB.PLAN_CTRL_SLOTS, ATB.PLAN_CTRL_ACTIVE_BANK, ATB.PLAN_CTRL_ARMED, ATB.PLAN_CTRL_REFUSE, ATB.PLAN_ACT_ACT_CYCLE]
/-- The fields of ATB, part 1. -/
def ATB.fields1 : List Fld := [ATB.PLAN_ADDR_BANKSEL, ATB.PLAN_ADDR_WADDR, ATB.PLAN_DATA_DATA, ATB.PREP_PREP_LEAD, ATB.HOLDOVER_COUNT, ATB.HOLDOVER_LIMIT, ATB.CUR_SLOT_ACTIVE_PLAN_ID, ATB.CUR_SLOT_IN_SLOT, ATB.CUR_SLOT_LAST_START, ATB.CAP_CFG_FILT0, ATB.CAP_CFG_EDGE0, ATB.CAP_CFG_SRC0, ATB.CAP_CFG_FILT1, ATB.CAP_CFG_EDGE1, ATB.CAP_CFG_SRC1, ATB.CAP_CFG_FILT2, ATB.CAP_CFG_EDGE2, ATB.CAP_CFG_SRC2, ATB.CAP_CFG_FILT3, ATB.CAP_CFG_EDGE3, ATB.CAP_CFG_SRC3, ATB.CAP_STATUS_OVR, ATB.CAP_STATUS_CAPT, ATB.CAP_LO_ANGLE, ATB.CAP_HI_CYCLE, ATB.AEV_SEL_CH, ATB.AEV_CFG_ROUTE, ATB.AEV_CFG_MODE, ATB.AEV_CMP_ANGLE, ATB.AEV_STATUS_FIRED]
/-- Every field of the register tables of ATB. -/
def ATB.fields : List Fld := ATB.fields0 ++ ATB.fields1

/-- R152 ID [31:16] RO: block code -/
def RGE.ID_BLOCK : Fld := ⟨0x40050000, 0x0, 1, 31, 16, .ro, .warm, false, 5, []⟩
/-- R152 ID [15:0] RO: block revision -/
def RGE.ID_REV : Fld := ⟨0x40050000, 0x0, 1, 15, 0, .ro, .warm, false, 256, []⟩
/-- R152 CTRL [1:1] RW, RWL: grants outside slot windows, FACTORY only (R138) -/
def RGE.CTRL_TESTWIN : Fld := ⟨0x40050004, 0x0, 1, 1, 1, .rw, .warm, false, 0, []⟩
/-- R152 CTRL [0:0] RWV: carrier may be granted; Core P only (R150) -/
def RGE.CTRL_RF_EN : Fld := ⟨0x40050004, 0x0, 1, 0, 0, .rwv, .warm, false, 0, []⟩
/-- R152 KILL [1:1] RO: RFKILL_N asserted, after the filter -/
def RGE.KILL_PIN : Fld := ⟨0x40050008, 0x0, 1, 1, 1, .ro, .warm, false, 0, []⟩
/-- R152 KILL [0:0] RW: software kill (R146) -/
def RGE.KILL_KILL : Fld := ⟨0x40050008, 0x0, 1, 0, 0, .rw, .warm, false, 0, []⟩
/-- R152 STATUS [9:9] RC: a counter saturated -/
def RGE.STATUS_SAT : Fld := ⟨0x4005000C, 0x0, 1, 9, 9, .rc, .warm, false, 0, []⟩
/-- R152 STATUS [8:8] RC: GUARD increased -/
def RGE.STATUS_GUARD_UP : Fld := ⟨0x4005000C, 0x0, 1, 8, 8, .rc, .warm, false, 0, []⟩
/-- R152 STATUS [7:7] RC: voted copy corrected -/
def RGE.STATUS_VOTE_FIX : Fld := ⟨0x4005000C, 0x0, 1, 7, 7, .rc, .warm, false, 0, []⟩
/-- R152 STATUS [6:6] RC: log entry overwritten -/
def RGE.STATUS_LOG_OVR : Fld := ⟨0x4005000C, 0x0, 1, 6, 6, .rc, .warm, false, 0, []⟩
/-- R152 STATUS [5:5] RC: slot-end cut -/
def RGE.STATUS_CUT : Fld := ⟨0x4005000C, 0x0, 1, 5, 5, .rc, .warm, false, 0, []⟩
/-- R152 STATUS [4:4] RC: escalation (R143) -/
def RGE.STATUS_QUIET : Fld := ⟨0x4005000C, 0x0, 1, 4, 4, .rc, .warm, false, 0, []⟩
/-- R152 STATUS [3:3] RC: software kill asserted -/
def RGE.STATUS_KILL_REG : Fld := ⟨0x4005000C, 0x0, 1, 3, 3, .rc, .warm, false, 0, []⟩
/-- R152 STATUS [2:2] RC: pin kill asserted -/
def RGE.STATUS_KILL_PIN : Fld := ⟨0x4005000C, 0x0, 1, 2, 2, .rc, .warm, false, 0, []⟩
/-- R152 STATUS [1:1] RC: a grant was denied -/
def RGE.STATUS_DENY : Fld := ⟨0x4005000C, 0x0, 1, 1, 1, .rc, .warm, false, 0, []⟩
/-- R152 STATUS [0:0] RC: a violation was logged -/
def RGE.STATUS_VIOL : Fld := ⟨0x4005000C, 0x0, 1, 0, 0, .rc, .warm, false, 0, []⟩
/-- R152 STATE [25:24] RO: violations within the last VIOL_WIN_S, 0 to 2 -/
def RGE.STATE_VIOL_RECENT : Fld := ⟨0x40050010, 0x0, 1, 25, 24, .ro, .warm, false, 0, []⟩
/-- R152 STATE [23:20] RO: UTX3 to UTX0 pre-granted, awaiting START -/
def RGE.STATE_PREGRANT : Fld := ⟨0x40050010, 0x0, 1, 23, 20, .ro, .warm, false, 0, []⟩
/-- R152 STATE [19:16] RO: UTX3 to UTX0 inside a carrier window -/
def RGE.STATE_WINDOW : Fld := ⟨0x40050010, 0x0, 1, 19, 16, .ro, .warm, false, 0, []⟩
/-- R152 STATE [15:12] RO: UTX3 to UTX0 held off (R142) -/
def RGE.STATE_HOLD : Fld := ⟨0x40050010, 0x0, 1, 15, 12, .ro, .warm, false, 0, []⟩
/-- R152 STATE [11:8] RO: UTX3 to UTX0 granted -/
def RGE.STATE_GRANT : Fld := ⟨0x40050010, 0x0, 1, 11, 8, .ro, .warm, false, 0, []⟩
/-- R152 STATE [5:5] RO: kill in force -/
def RGE.STATE_KILL_ACTIVE : Fld := ⟨0x40050010, 0x0, 1, 5, 5, .ro, .warm, false, 0, []⟩
/-- R152 STATE [4:4] RO: R143 -/
def RGE.STATE_QUIET_LATCH : Fld := ⟨0x40050010, 0x0, 1, 4, 4, .ro, .warm, false, 0, []⟩
/-- R152 STATE [3:2] RO: slot in force -/
def RGE.STATE_PROFILE_SEL : Fld := ⟨0x40050010, 0x0, 1, 3, 2, .ro, .warm, false, 0, []⟩
/-- R152 STATE [0:0] RO: profile valid (R133) -/
def RGE.STATE_PROFILE_OK : Fld := ⟨0x40050010, 0x0, 1, 0, 0, .ro, .warm, false, 0, []⟩
/-- R152 GUARD [23:16] RO: ceil(GUARD × 4) -/
def RGE.GUARD_STEPS : Fld := ⟨0x40050014, 0x0, 1, 23, 16, .ro, .warm, false, 12, []⟩
/-- R152 GUARD [15:0] RO: guard band, Q8.8 dB (R139) -/
def RGE.GUARD_GUARD : Fld := ⟨0x40050014, 0x0, 1, 15, 0, .ro, .warm, false, 768, []⟩
/-- R152 CHAIN_SEL [1:0] RW: chain shown in CHAIN_INFO -/
def RGE.CHAIN_SEL_CH : Fld := ⟨0x40050018, 0x0, 1, 1, 0, .rw, .warm, false, 0, []⟩
/-- R152 CHAIN_INFO [31:27] RO: last deny or violation code (R144) -/
def RGE.CHAIN_INFO_LAST_CODE : Fld := ⟨0x4005001C, 0x0, 1, 31, 27, .ro, .warm, false, 0, []⟩
/-- R152 CHAIN_INFO [26:16] RO: current duty, 0.1 % -/
def RGE.CHAIN_INFO_DUTY : Fld := ⟨0x4005001C, 0x0, 1, 26, 16, .ro, .warm, false, 0, []⟩
/-- R152 CHAIN_INFO [14:8] RO: applied ceiling index -/
def RGE.CHAIN_INFO_CEIL : Fld := ⟨0x4005001C, 0x0, 1, 14, 8, .ro, .warm, false, 127, []⟩
/-- R152 CHAIN_INFO [6:6] RO: synthesizer word matches a listed channel -/
def RGE.CHAIN_INFO_CHAN_VALID : Fld := ⟨0x4005001C, 0x0, 1, 6, 6, .ro, .warm, false, 0, []⟩
/-- R152 CHAIN_INFO [5:0] RO: matched channel index -/
def RGE.CHAIN_INFO_CHAN : Fld := ⟨0x4005001C, 0x0, 1, 5, 0, .ro, .warm, false, 0, []⟩
/-- R152 OCC [21:16] RW: channel index shown -/
def RGE.OCC_CH : Fld := ⟨0x40050020, 0x0, 1, 21, 16, .rw, .warm, false, 0, []⟩
/-- R152 OCC [15:0] RO: occupancy of that channel in the window, ms -/
def RGE.OCC_MS : Fld := ⟨0x40050020, 0x0, 1, 15, 0, .ro, .warm, false, 0, []⟩
/-- R152 LOG_LO [31:31] RO: entry present; the read pops it -/
def RGE.LOG_LO_VALID : Fld := ⟨0x40050024, 0x0, 1, 31, 31, .ro, .warm, false, 0, []⟩
/-- R152 LOG_LO [28:24] RO: R144 -/
def RGE.LOG_LO_CODE : Fld := ⟨0x40050024, 0x0, 1, 28, 24, .ro, .warm, false, 0, []⟩
/-- R152 LOG_LO [23:22] RO: chain -/
def RGE.LOG_LO_CHAIN : Fld := ⟨0x40050024, 0x0, 1, 23, 22, .ro, .warm, false, 0, []⟩
/-- R152 LOG_LO [21:16] RO: channel index -/
def RGE.LOG_LO_CHAN : Fld := ⟨0x40050024, 0x0, 1, 21, 16, .ro, .warm, false, 0, []⟩
/-- R152 LOG_LO [15:0] RO: ATB angle of the event; the read latches the cycle into this master's shadow -/
def RGE.LOG_LO_ANGLE : Fld := ⟨0x40050024, 0x0, 1, 15, 0, .ro, .warm, false, 0, []⟩
/-- R152 LOG_HI [31:0] RO: this master's shadow of the entry's cycle -/
def RGE.LOG_HI_CYCLE : Fld := ⟨0x40050028, 0x0, 1, 31, 0, .ro, .warm, false, 0, []⟩
/-- R152 QUIET_CLR [0:0] WP: clear QUIET_LATCH; Core P only -/
def RGE.QUIET_CLR_CLR : Fld := ⟨0x4005002C, 0x0, 1, 0, 0, .wp, .warm, false, 0, []⟩
/-- R152 CNT_DENY [31:0] RW: denials; violations; slot-end cuts; kill assertions; saturating -/
def RGE.CNT_DENY_COUNT : Fld := ⟨0x40050030, 0x0, 1, 31, 0, .rw, .warm, false, 0, []⟩
/-- R152 CNT_VIOL [31:0] RW: denials; violations; slot-end cuts; kill assertions; saturating -/
def RGE.CNT_VIOL_COUNT : Fld := ⟨0x40050034, 0x0, 1, 31, 0, .rw, .warm, false, 0, []⟩
/-- R152 CNT_CUT [31:0] RW: denials; violations; slot-end cuts; kill assertions; saturating -/
def RGE.CNT_CUT_COUNT : Fld := ⟨0x40050038, 0x0, 1, 31, 0, .rw, .warm, false, 0, []⟩
/-- R152 CNT_KILL [31:0] RW: denials; violations; slot-end cuts; kill assertions; saturating -/
def RGE.CNT_KILL_COUNT : Fld := ⟨0x4005003C, 0x0, 1, 31, 0, .rw, .warm, false, 0, []⟩

/-- The fields of RGE, part 0. -/
def RGE.fields0 : List Fld := [RGE.ID_BLOCK, RGE.ID_REV, RGE.CTRL_TESTWIN, RGE.CTRL_RF_EN, RGE.KILL_PIN, RGE.KILL_KILL, RGE.STATUS_SAT, RGE.STATUS_GUARD_UP, RGE.STATUS_VOTE_FIX, RGE.STATUS_LOG_OVR, RGE.STATUS_CUT, RGE.STATUS_QUIET, RGE.STATUS_KILL_REG, RGE.STATUS_KILL_PIN, RGE.STATUS_DENY, RGE.STATUS_VIOL, RGE.STATE_VIOL_RECENT, RGE.STATE_PREGRANT, RGE.STATE_WINDOW, RGE.STATE_HOLD, RGE.STATE_GRANT, RGE.STATE_KILL_ACTIVE, RGE.STATE_QUIET_LATCH, RGE.STATE_PROFILE_SEL, RGE.STATE_PROFILE_OK, RGE.GUARD_STEPS, RGE.GUARD_GUARD, RGE.CHAIN_SEL_CH, RGE.CHAIN_INFO_LAST_CODE, RGE.CHAIN_INFO_DUTY, RGE.CHAIN_INFO_CEIL, RGE.CHAIN_INFO_CHAN_VALID, RGE.CHAIN_INFO_CHAN, RGE.OCC_CH, RGE.OCC_MS, RGE.LOG_LO_VALID, RGE.LOG_LO_CODE, RGE.LOG_LO_CHAIN, RGE.LOG_LO_CHAN, RGE.LOG_LO_ANGLE]
/-- The fields of RGE, part 1. -/
def RGE.fields1 : List Fld := [RGE.LOG_HI_CYCLE, RGE.QUIET_CLR_CLR, RGE.CNT_DENY_COUNT, RGE.CNT_VIOL_COUNT, RGE.CNT_CUT_COUNT, RGE.CNT_KILL_COUNT]
/-- Every field of the register tables of RGE. -/
def RGE.fields : List Fld := RGE.fields0 ++ RGE.fields1

/-- R461 ID [31:16] RO: block code -/
def TMR.ID_BLOCK : Fld := ⟨0x40040000, 0x0, 1, 31, 16, .ro, .warm, false, 4, []⟩
/-- R461 ID [15:0] RO: block revision -/
def TMR.ID_REV : Fld := ⟨0x40040000, 0x0, 1, 15, 0, .ro, .warm, false, 256, []⟩
/-- R461 GSTART [15:0] WP: start armed timers; stop timers (R458) -/
def TMR.GSTART_MASK : Fld := ⟨0x40040004, 0x0, 1, 15, 0, .wp, .warm, false, 0, []⟩
/-- R461 GSTOP [15:0] WP: start armed timers; stop timers (R458) -/
def TMR.GSTOP_MASK : Fld := ⟨0x40040008, 0x0, 1, 15, 0, .wp, .warm, false, 0, []⟩
/-- R461 SUM [31:16] RO: TMR15 to TMR0 RUNNING or FROZEN -/
def TMR.SUM_RUNNING : Fld := ⟨0x4004000C, 0x0, 1, 31, 16, .ro, .warm, false, 0, []⟩
/-- R461 SUM [15:0] RO: TMR15 to TMR0 ARMED -/
def TMR.SUM_ARMED : Fld := ⟨0x4004000C, 0x0, 1, 15, 0, .ro, .warm, false, 0, []⟩
/-- R461 CTRL [16:15] RW: 0 rising, 1 falling, 2 both; 3 acts as 2 -/
def TMR.CTRL_CAP_EDGE : Fld := ⟨0x40040400, 0x40, 16, 16, 15, .rw, .warm, false, 0, []⟩
/-- R461 CTRL [14:12] RW: R459 -/
def TMR.CTRL_CAP_SRC : Fld := ⟨0x40040400, 0x40, 16, 14, 12, .rw, .warm, false, 0, []⟩
/-- R461 CTRL [11:11] RW: pulse TMR_OUTn; timers 0 to 3 only (R457) -/
def TMR.CTRL_OUT_EN : Fld := ⟨0x40040400, 0x40, 16, 11, 11, .rw, .warm, false, 0, []⟩
/-- R461 CTRL [10:10] RW: 1 keep counting while the owner is halted -/
def TMR.CTRL_DBGRUN : Fld := ⟨0x40040400, 0x40, 16, 10, 10, .rw, .warm, false, 0, []⟩
/-- R461 CTRL [9:8] RW: R457 -/
def TMR.CTRL_OWNER : Fld := ⟨0x40040400, 0x40, 16, 9, 8, .rw, .warm, false, 2, []⟩
/-- R461 CTRL [7:0] RW: tick = PRE + 1 CLK_BUS cycles -/
def TMR.CTRL_PRE : Fld := ⟨0x40040400, 0x40, 16, 7, 0, .rw, .warm, false, 0, []⟩
/-- R461 LOAD [31:0] RW: ticks; copied to COUNT at ARM -/
def TMR.LOAD_LOAD : Fld := ⟨0x40040404, 0x40, 16, 31, 0, .rw, .warm, false, 0, []⟩
/-- R461 COUNT [31:0] RO: ticks remaining -/
def TMR.COUNT_COUNT : Fld := ⟨0x40040408, 0x40, 16, 31, 0, .ro, .warm, false, 0, []⟩
/-- R461 CMD [2:2] WP: R456 -/
def TMR.CMD_STOP : Fld := ⟨0x4004040C, 0x40, 16, 2, 2, .wp, .warm, false, 0, []⟩
/-- R461 CMD [1:1] WP: R456 -/
def TMR.CMD_START : Fld := ⟨0x4004040C, 0x40, 16, 1, 1, .wp, .warm, false, 0, []⟩
/-- R461 CMD [0:0] WP: R456 -/
def TMR.CMD_ARM : Fld := ⟨0x4004040C, 0x40, 16, 0, 0, .wp, .warm, false, 0, []⟩
/-- R461 STATE [1:0] RO: 0 IDLE, 1 ARMED, 2 RUNNING, 3 FROZEN -/
def TMR.STATE_STATE : Fld := ⟨0x40040410, 0x40, 16, 1, 0, .ro, .warm, false, 0, []⟩
/-- R461 STATUS [4:4] RC: command ignored -/
def TMR.STATUS_CMD_ERR : Fld := ⟨0x40040414, 0x40, 16, 4, 4, .rc, .warm, false, 0, []⟩
/-- R461 STATUS [3:3] RC: CNT_EXP saturated -/
def TMR.STATUS_SAT : Fld := ⟨0x40040414, 0x40, 16, 3, 3, .rc, .warm, false, 0, []⟩
/-- R461 STATUS [2:2] RC: capture overwritten -/
def TMR.STATUS_OVR : Fld := ⟨0x40040414, 0x40, 16, 2, 2, .rc, .warm, false, 0, []⟩
/-- R461 STATUS [1:1] RC: capture landed -/
def TMR.STATUS_CAPT : Fld := ⟨0x40040414, 0x40, 16, 1, 1, .rc, .warm, false, 0, []⟩
/-- R461 STATUS [0:0] RC: timer expired -/
def TMR.STATUS_DONE : Fld := ⟨0x40040414, 0x40, 16, 0, 0, .rc, .warm, false, 0, []⟩
/-- R461 CAPT [31:0] RO: COUNT at the last capture -/
def TMR.CAPT_COUNT : Fld := ⟨0x40040418, 0x40, 16, 31, 0, .ro, .warm, false, 0, []⟩
/-- R461 CHAIN [15:0] RW: timers released at expiry (R457) -/
def TMR.CHAIN_MASK : Fld := ⟨0x4004041C, 0x40, 16, 15, 0, .rw, .warm, false, 0, []⟩
/-- R461 CNT_EXP [31:0] RW: expiries; saturating -/
def TMR.CNT_EXP_COUNT : Fld := ⟨0x40040420, 0x40, 16, 31, 0, .rw, .warm, false, 0, []⟩

/-- The fields of TMR, part 0. -/
def TMR.fields0 : List Fld := [TMR.ID_BLOCK, TMR.ID_REV, TMR.GSTART_MASK, TMR.GSTOP_MASK, TMR.SUM_RUNNING, TMR.SUM_ARMED, TMR.CTRL_CAP_EDGE, TMR.CTRL_CAP_SRC, TMR.CTRL_OUT_EN, TMR.CTRL_DBGRUN, TMR.CTRL_OWNER, TMR.CTRL_PRE, TMR.LOAD_LOAD, TMR.COUNT_COUNT, TMR.CMD_STOP, TMR.CMD_START, TMR.CMD_ARM, TMR.STATE_STATE, TMR.STATUS_CMD_ERR, TMR.STATUS_SAT, TMR.STATUS_OVR, TMR.STATUS_CAPT, TMR.STATUS_DONE, TMR.CAPT_COUNT, TMR.CHAIN_MASK, TMR.CNT_EXP_COUNT]
/-- Every field of the register tables of TMR. -/
def TMR.fields : List Fld := TMR.fields0

/-- R460 ID [31:16] RO: block code -/
def QUE.ID_BLOCK : Fld := ⟨0x400C0000, 0x0, 1, 31, 16, .ro, .warm, false, 12, []⟩
/-- R460 ID [15:0] RO: block revision -/
def QUE.ID_REV : Fld := ⟨0x400C0000, 0x0, 1, 15, 0, .ro, .warm, false, 256, []⟩
/-- R460 SUM [31:16] RO: QUE15 to QUE0 hold words -/
def QUE.SUM_NONEMPTY : Fld := ⟨0x400C0004, 0x0, 1, 31, 16, .ro, .warm, false, 0, []⟩
/-- R460 SUM [15:0] RO: QUE15 to QUE0 above their watermark -/
def QUE.SUM_ABOVE : Fld := ⟨0x400C0004, 0x0, 1, 15, 0, .ro, .warm, false, 0, []⟩
/-- R460 FLUSH [15:0] WP: empty QUE15 to QUE0; reservations kept; no QERR -/
def QUE.FLUSH_FLUSH : Fld := ⟨0x400C0008, 0x0, 1, 15, 0, .wp, .warm, false, 0, []⟩
/-- R460 QCFG [31:31] RW: queue enable (R448) -/
def QUE.QCFG_EN : Fld := ⟨0x400C0400, 0x40, 16, 31, 31, .rw, .warm, false, 0, []⟩
/-- R460 QCFG [23:16] RW: (DEPTH + 1) × 64 words -/
def QUE.QCFG_DEPTH : Fld := ⟨0x400C0400, 0x40, 16, 23, 16, .rw, .warm, false, 0, []⟩
/-- R460 QCFG [7:0] RW: first word, 64-word units -/
def QUE.QCFG_BASE : Fld := ⟨0x400C0400, 0x40, 16, 7, 0, .rw, .warm, false, 0, []⟩
/-- R460 WM [14:0] RW: watermark, words (R454) -/
def QUE.WM_WM : Fld := ⟨0x400C0404, 0x40, 16, 14, 0, .rw, .warm, false, 0, []⟩
/-- R460 LEVEL [31:31] RO: LEVEL > WM -/
def QUE.LEVEL_ABOVE : Fld := ⟨0x400C0408, 0x40, 16, 31, 31, .ro, .warm, false, 0, []⟩
/-- R460 LEVEL [30:30] RO: LEVEL equals the depth -/
def QUE.LEVEL_FULL : Fld := ⟨0x400C0408, 0x40, 16, 30, 30, .ro, .warm, false, 0, []⟩
/-- R460 LEVEL [29:29] RO: LEVEL = 0 -/
def QUE.LEVEL_EMPTY : Fld := ⟨0x400C0408, 0x40, 16, 29, 29, .ro, .warm, false, 1, []⟩
/-- R460 LEVEL [28:16] RO: words reserved by push buffers -/
def QUE.LEVEL_RSV : Fld := ⟨0x400C0408, 0x40, 16, 28, 16, .ro, .warm, false, 0, []⟩
/-- R460 LEVEL [14:0] RO: words stored -/
def QUE.LEVEL_LEVEL : Fld := ⟨0x400C0408, 0x40, 16, 14, 0, .ro, .warm, false, 0, []⟩
/-- R460 STATUS [6:6] RC: a counter saturated -/
def QUE.STATUS_SAT : Fld := ⟨0x400C040C, 0x40, 16, 6, 6, .rc, .warm, false, 0, []⟩
/-- R460 STATUS [5:5] RC: enable refused (R448) -/
def QUE.STATUS_CFG_ERR : Fld := ⟨0x400C040C, 0x40, 16, 5, 5, .rc, .warm, false, 0, []⟩
/-- R460 STATUS [4:4] RC: pop of an empty queue -/
def QUE.STATUS_UNF : Fld := ⟨0x400C040C, 0x40, 16, 4, 4, .rc, .warm, false, 0, []⟩
/-- R460 STATUS [3:3] RC: push refused -/
def QUE.STATUS_OVF : Fld := ⟨0x400C040C, 0x40, 16, 3, 3, .rc, .warm, false, 0, []⟩
/-- R460 STATUS [2:2] RC: pointer mismatch (R452) -/
def QUE.STATUS_QERR : Fld := ⟨0x400C040C, 0x40, 16, 2, 2, .rc, .warm, false, 0, []⟩
/-- R460 STATUS [1:1] RC: crossed to WM or below -/
def QUE.STATUS_WM_DN : Fld := ⟨0x400C040C, 0x40, 16, 1, 1, .rc, .warm, false, 0, []⟩
/-- R460 STATUS [0:0] RC: crossed above WM -/
def QUE.STATUS_WM_UP : Fld := ⟨0x400C040C, 0x40, 16, 0, 0, .rc, .warm, false, 0, []⟩
/-- R460 PUSH [31:0] WP: a write pushes DATA (R449); reads 0 -/
def QUE.PUSH_DATA : Fld := ⟨0x400C0410, 0x40, 16, 31, 0, .wp, .warm, false, 0, []⟩
/-- R460 POP [31:0] RC: a read pops the head word; 0 and UNF when empty -/
def QUE.POP_DATA : Fld := ⟨0x400C0414, 0x40, 16, 31, 0, .rc, .warm, false, 0, []⟩
/-- R460 PEEK [31:0] RO: head word without popping; 0 when empty -/
def QUE.PEEK_DATA : Fld := ⟨0x400C0418, 0x40, 16, 31, 0, .ro, .warm, false, 0, []⟩
/-- R460 CNT_PUSH [31:0] RW: words pushed; words popped; pushes refused; saturating -/
def QUE.CNT_PUSH_COUNT : Fld := ⟨0x400C041C, 0x40, 16, 31, 0, .rw, .warm, false, 0, []⟩
/-- R460 CNT_POP [31:0] RW: words pushed; words popped; pushes refused; saturating -/
def QUE.CNT_POP_COUNT : Fld := ⟨0x400C0420, 0x40, 16, 31, 0, .rw, .warm, false, 0, []⟩
/-- R460 CNT_OVF [31:0] RW: words pushed; words popped; pushes refused; saturating -/
def QUE.CNT_OVF_COUNT : Fld := ⟨0x400C0424, 0x40, 16, 31, 0, .rw, .warm, false, 0, []⟩

/-- The fields of QUE, part 0. -/
def QUE.fields0 : List Fld := [QUE.ID_BLOCK, QUE.ID_REV, QUE.SUM_NONEMPTY, QUE.SUM_ABOVE, QUE.FLUSH_FLUSH, QUE.QCFG_EN, QUE.QCFG_DEPTH, QUE.QCFG_BASE, QUE.WM_WM, QUE.LEVEL_ABOVE, QUE.LEVEL_FULL, QUE.LEVEL_EMPTY, QUE.LEVEL_RSV, QUE.LEVEL_LEVEL, QUE.STATUS_SAT, QUE.STATUS_CFG_ERR, QUE.STATUS_UNF, QUE.STATUS_OVF, QUE.STATUS_QERR, QUE.STATUS_WM_DN, QUE.STATUS_WM_UP, QUE.PUSH_DATA, QUE.POP_DATA, QUE.PEEK_DATA, QUE.CNT_PUSH_COUNT, QUE.CNT_POP_COUNT, QUE.CNT_OVF_COUNT]
/-- Every field of the register tables of QUE. -/
def QUE.fields : List Fld := QUE.fields0

/-- R479 ID [31:16] RO: block code -/
def CLK.ID_BLOCK : Fld := ⟨0x40010000, 0x0, 1, 31, 16, .ro, .warm, false, 1, []⟩
/-- R479 ID [15:0] RO: block revision -/
def CLK.ID_REV : Fld := ⟨0x40010000, 0x0, 1, 15, 0, .ro, .warm, false, 256, []⟩
/-- R479 CTRL [8:8] RW: R476 -/
def CLK.CTRL_SPUR_EN : Fld := ⟨0x40010004, 0x0, 1, 8, 8, .rw, .warm, false, 1, []⟩
/-- R479 CTRL [5:4] RW: 0 off, 1 0.5 %, 2 1.0 %, 3 acts as 2 -/
def CLK.CTRL_SS : Fld := ⟨0x40010004, 0x0, 1, 5, 4, .rw, .warm, false, 0, []⟩
/-- R479 CTRL [3:3] RW: spread CLK_BUS -/
def CLK.CTRL_SS_BUS : Fld := ⟨0x40010004, 0x0, 1, 3, 3, .rw, .warm, false, 0, []⟩
/-- R479 CTRL [2:2] RW: spread CLK_CPU -/
def CLK.CTRL_SS_CPU : Fld := ⟨0x40010004, 0x0, 1, 2, 2, .rw, .warm, false, 0, []⟩
/-- R479 CTRL [0:0] RW: R472 -/
def CLK.CTRL_AUTO_RETURN : Fld := ⟨0x40010004, 0x0, 1, 0, 0, .rw, .warm, false, 1, []⟩
/-- R479 PLL_CFG [4:0] RW: 12 to 24; Core P only (R473) -/
def CLK.PLL_CFG_MULT : Fld := ⟨0x40010008, 0x0, 1, 4, 0, .rw, .warm, false, 24, []⟩
/-- R479 CMD [2:2] WP: requalify the crystal (R465) -/
def CLK.CMD_SLOW_RETRY : Fld := ⟨0x4001000C, 0x0, 1, 2, 2, .wp, .warm, false, 0, []⟩
/-- R479 CMD [1:1] WP: force all outputs to bypass; Core P only -/
def CLK.CMD_BYPASS : Fld := ⟨0x4001000C, 0x0, 1, 1, 1, .wp, .warm, false, 0, []⟩
/-- R479 CMD [0:0] WP: return outputs (R472) -/
def CLK.CMD_RETURN : Fld := ⟨0x4001000C, 0x0, 1, 0, 0, .wp, .warm, false, 0, []⟩
/-- R479 STATE [12:8] RO: delay band -/
def CLK.STATE_BAND : Fld := ⟨0x40010010, 0x0, 1, 12, 8, .ro, .warm, false, 0, []⟩
/-- R479 STATE [7:7] RO: spreading running -/
def CLK.STATE_SS_ACTIVE : Fld := ⟨0x40010010, 0x0, 1, 7, 7, .ro, .warm, false, 0, []⟩
/-- R479 STATE [6:6] RO: spreading suspended (R476) -/
def CLK.STATE_SS_SUSP : Fld := ⟨0x40010010, 0x0, 1, 6, 6, .ro, .warm, false, 0, []⟩
/-- R479 STATE [5:5] AC: slow clock on RC -/
def CLK.STATE_SLOW_RC : Fld := ⟨0x40010010, 0x0, 1, 5, 5, .ro, .warm, true, 1, []⟩
/-- R479 STATE [4:4] RO: CLK_PHY on AONCLK -/
def CLK.STATE_PHY_AON : Fld := ⟨0x40010010, 0x0, 1, 4, 4, .ro, .warm, false, 1, []⟩
/-- R479 STATE [3:3] RO: outputs on bypass -/
def CLK.STATE_ON_BYPASS : Fld := ⟨0x40010010, 0x0, 1, 3, 3, .ro, .warm, false, 1, []⟩
/-- R479 STATE [2:0] RO: 0 OFF, 1 SEARCH, 2 LOCKED_WAIT, 3 LOCKED -/
def CLK.STATE_PLL_STATE : Fld := ⟨0x40010010, 0x0, 1, 2, 0, .ro, .warm, false, 1, []⟩
/-- R479 STATUS [6:6] RC: a counter saturated -/
def CLK.STATUS_SAT : Fld := ⟨0x40010014, 0x0, 1, 6, 6, .rc, .warm, false, 0, []⟩
/-- R479 STATUS [5:5] RC: a write was ignored -/
def CLK.STATUS_CMD_ERR : Fld := ⟨0x40010014, 0x0, 1, 5, 5, .rc, .warm, false, 0, []⟩
/-- R479 STATUS [4:4] RC, AC: R465 -/
def CLK.STATUS_SLOW_FAIL : Fld := ⟨0x40010014, 0x0, 1, 4, 4, .rc, .warm, true, 0, []⟩
/-- R479 STATUS [3:3] RC, AC: R466 -/
def CLK.STATUS_REF_FAIL : Fld := ⟨0x40010014, 0x0, 1, 3, 3, .rc, .warm, true, 0, []⟩
/-- R479 STATUS [2:2] RC: outputs back on SYSPLL -/
def CLK.STATUS_RETURNED : Fld := ⟨0x40010014, 0x0, 1, 2, 2, .rc, .warm, false, 0, []⟩
/-- R479 STATUS [1:1] RC: 100 µs of stable lock -/
def CLK.STATUS_RELOCK : Fld := ⟨0x40010014, 0x0, 1, 1, 1, .rc, .warm, false, 0, []⟩
/-- R479 STATUS [0:0] RC: loss of lock -/
def CLK.STATUS_LOL : Fld := ⟨0x40010014, 0x0, 1, 0, 0, .rc, .warm, false, 0, []⟩
/-- R479 OUT [31:31] RW: output enable; Core P only -/
def CLK.OUT_EN : Fld := ⟨0x40010018, 0x4, 6, 31, 31, .rw, .warm, false, 1, []⟩
/-- R479 OUT [11:8] RW: 1/16-period steps (R469) -/
def CLK.OUT_DELAY : Fld := ⟨0x40010018, 0x4, 6, 11, 8, .rw, .warm, false, 0, []⟩
/-- R479 OUT [4:0] RW (n = 0), RO: divider (R468) -/
def CLK.OUT_DIV : Fld := ⟨0x40010018, 0x4, 6, 4, 0, .ro, .warm, false, 0, [2, 4, 4, 5, 8, 16]⟩
/-- R479 SPUR_CUR [8:8] RO: a lease matches an entry -/
def CLK.SPUR_CUR_MATCH : Fld := ⟨0x40010030, 0x0, 1, 8, 8, .ro, .warm, false, 0, []⟩
/-- R479 SPUR_CUR [4:0] RO: lowest matching entry -/
def CLK.SPUR_CUR_ENTRY : Fld := ⟨0x40010030, 0x0, 1, 4, 0, .ro, .warm, false, 0, []⟩
/-- R479 CNT_LOL [31:0] RW: losses of lock; spreading suspensions; saturating -/
def CLK.CNT_LOL_COUNT : Fld := ⟨0x40010034, 0x0, 1, 31, 0, .rw, .warm, false, 0, []⟩
/-- R479 CNT_SUSP [31:0] RW: losses of lock; spreading suspensions; saturating -/
def CLK.CNT_SUSP_COUNT : Fld := ⟨0x40010038, 0x0, 1, 31, 0, .rw, .warm, false, 0, []⟩

/-- The fields of CLK, part 0. -/
def CLK.fields0 : List Fld := [CLK.ID_BLOCK, CLK.ID_REV, CLK.CTRL_SPUR_EN, CLK.CTRL_SS, CLK.CTRL_SS_BUS, CLK.CTRL_SS_CPU, CLK.CTRL_AUTO_RETURN, CLK.PLL_CFG_MULT, CLK.CMD_SLOW_RETRY, CLK.CMD_BYPASS, CLK.CMD_RETURN, CLK.STATE_BAND, CLK.STATE_SS_ACTIVE, CLK.STATE_SS_SUSP, CLK.STATE_SLOW_RC, CLK.STATE_PHY_AON, CLK.STATE_ON_BYPASS, CLK.STATE_PLL_STATE, CLK.STATUS_SAT, CLK.STATUS_CMD_ERR, CLK.STATUS_SLOW_FAIL, CLK.STATUS_REF_FAIL, CLK.STATUS_RETURNED, CLK.STATUS_RELOCK, CLK.STATUS_LOL, CLK.OUT_EN, CLK.OUT_DELAY, CLK.OUT_DIV, CLK.SPUR_CUR_MATCH, CLK.SPUR_CUR_ENTRY, CLK.CNT_LOL_COUNT, CLK.CNT_SUSP_COUNT]
/-- Every field of the register tables of CLK. -/
def CLK.fields : List Fld := CLK.fields0

end Sys2Proof.Machine
end

