-- ==== Sys2Proof/Machine/Types.lean ====
section
/-! DEFINITION. The state that the blocks of the inner ring keep beside their registers: timebase, transmit and receive
chains, synthesizers, enforcer, sheaves, frame engines and link sequencers. -/

namespace Sys2Proof.Machine

open Sys2Proof

/-- An anchor held by the timebase (R46, R49): a site cycle number and the PTP time of its boundary, in ns. -/
structure Anchor where
  cycle : Nat
  ptpNs : Nat
  deriving DecidableEq, Repr

/-- The timebase's state beside its registers (R35 to R65). `cycle` and `angle` are the live position; `angle` and `frac` are the upper
and lower halves of the 32-bit phase accumulator and `rem` the remainder that its increment carries (R36); `rate` is the period at
which the accumulator runs in Q24.8 REFCLK cycles, 0 for the nominal one; `offApplied` the OFFSET in force (R57), `holdAt` the time at which HOLDOVER was
entered, `ptpNs` the PTP time at time `ptpAt`; `slotPrep` and `slotStart` hold, per slot index, 1 + the cycle number in
which the slot was last prepared and started or suppressed (R44); `running` holds, per sheaf, 1 + the index of its
running slot. -/
structure Atb where
  angle : Nat := 0
  cycle : Nat := 0
  frac : Nat := 0
  rem : Nat := 0
  rate : Nat := 0
  anchor : Option Anchor := none
  stamps : List Nat := []
  adjArmed : Bool := false
  offApplied : Nat := 0
  acqStepped : Bool := false
  goodEdges : Nat := 0
  holdAt : Nat := 0
  ptpNs : Nat := 0
  ptpAt : Nat := 0
  pendWords : Tab Nat := []
  actWords : Tab Nat := []
  actId : Nat := 0
  actCycle : Nat := 0
  actSlots : Nat := 0
  slotPrep : Tab Nat := []
  slotStart : Tab Nat := []
  running : Tab Nat := []
  deriving DecidableEq, Repr

/-- The angle-triggered events, the per-channel captured cycles, and the channels, as a mask, whose capture has not been read (R63 to
R65, R446). -/
structure AtbEvents where
  route : Tab Nat := []
  mode : Tab Nat := []
  cmp : Tab Nat := []
  fired : Tab Nat := []
  capCycle : Tab Nat := []
  unread : Nat := 0
  deriving DecidableEq, Repr

/-- A ramp being played (R95, R96): direction, section, position of its start in CLK_DSP cycles of the section, and the
time of that start. -/
structure Ramp where
  up : Bool
  fast : Bool
  pos : Nat
  since : Nat
  deriving DecidableEq, Repr

/-- A transmit chain's state beside its registers: the state requested and not yet reached (R71), bias-up under way,
the ramp, the state a ramp-down ends in and the error it carries, LISTEN after loss of lock (R83), a grant request or
pre-grant outstanding (R138), a STEER code held for the frame end (R99), the antenna still settling (R159), whether a
sequencer's RQS waits on it (R224), the MOD_CFG word of the frame on air (R92) and its modulation depth in percent, none for
PR-ASK (R92). -/
structure UtxChain where
  want : Option Nat := none
  biasUp : Bool := false
  ramp : Option Ramp := none
  downTo : Nat := 2
  downErr : Nat := 0
  lolListen : Bool := false
  grantAsked : Bool := false
  steerHeld : Option Nat := none
  antSettling : Bool := false
  rqs : Bool := false
  modNow : Nat := 0
  depthNow : Option Nat := none
  deriving DecidableEq, Repr

/-- A synthesizer's state beside its registers: powered by a command (R78), the frequency word applied at the last lock
(R84, R140), in kHz, the time at which the search under way passes into SETTLE or a power-up reaches IDLE (R78), the lock that
a power-up leads to, as whether it is full (R78), and a calibration whose re-lock has not ended (R81). -/
structure Synth where
  byCommand : Bool := false
  applied : Nat := 840000
  settleAt : Option Nat := none
  bootFull : Option Bool := none
  relock : Bool := false
  deriving DecidableEq, Repr

/-- A receive chain's state beside its registers (R111, R114): whether it has held since ACQUIRE began, the loop frozen
for a reply, STOP policy waiting for the next ramp-up, regained and awaiting the next window, excluded in the current
window (R115), the time at which an overload stopped it while it held (R129), and the seed cache by channel index: coarse step,
then the vector's I and Q. -/
structure UrxChain where
  everHeld : Bool := false
  frozen : Bool := false
  stopped : Bool := false
  rejoined : Bool := false
  exclNow : Bool := false
  ovlNow : Bool := false
  ovlStop : Option Nat := none
  seeds : Tab (Nat × Nat × Nat) := []
  deriving DecidableEq, Repr

/-- The capture engine beside its registers (R126): the trigger has come, at this ATB position. -/
structure Capture where
  triggered : Bool := false
  angle : Nat := 0
  cycle : Nat := 0
  deriving DecidableEq, Repr

/-- The reply kinds of R188 and R190. -/
inductive ReplyKind where
  | none | rn16 | pcEpc | handle | read | delayed | raw
  deriving DecidableEq, Repr

/-- A UHF frame that a sequencer has issued, or a foreign command that command follow has parsed: its command code, the
bytes of its frame and link entries (R201, R202), the latched operands O0 to O3 (R223), the bits on air after the
preamble or frame-sync, CRC included, the kind of reply it predicts (R188, R190), the flags of its entry, and whether it
carries a capture through (R269); the WordCount and RXBITS from which the reply's length follows (R190), the memory operand's bits as
they stand (R223), and the time of its first edge. -/
structure Frame where
  seq : Nat
  cmd : Nat
  entry : List Nat := []
  link : List Nat := []
  ops : List Nat := []
  bits : List Bool := []
  reply : Bool
  kind : ReplyKind
  bear : Bool
  delayed : Bool
  trunc : Bool
  checkCrc : Bool
  carry : Bool := false
  words : Nat := 0
  rxbits : Nat := 0
  mem : List Bool := []
  began : Nat := 0
  deriving DecidableEq, Repr

/-- Why an issued frame has not begun (R74, R198). -/
inductive FrameWait where
  | turnaround | hold
  deriving DecidableEq, Repr

/-- The Winnower's CFG as latched at a window opening (R274). -/
structure WnwCfg where
  capEn : Bool := true
  otherEn : Bool := true
  carryEn : Bool := true
  spatMin : Nat := 4
  capMargin : Nat := 40
  violMax : Nat := 2
  srcThr : Nat := 40
  deriving DecidableEq, Repr

/-- The frame engine of a sheaf: the frame on air, the frame issued and held, the turnaround count running or expired
(R74, R75), the 2.0 RTcal hold running (R198), the 4.00 µs after a frame that asks for a window (R76), and the open
reply window with whether its preamble was accepted (R197), the RN16 captured by the last decision (R269) and the
Winnower's configuration for the window. -/
structure FrameEng where
  sending : Option Frame := none
  held : Option (Frame × FrameWait) := none
  taRunning : Bool := false
  taExpired : Bool := false
  minGap : Bool := false
  afterFrame : Option Frame := none
  window : Option Frame := none
  preamble : Bool := false
  captRn : Option Nat := none
  wnw : WnwCfg := {}
  deriving DecidableEq, Repr

/-- How a lease is being ended (R157). -/
inductive LeaseEnd where
  | release | cut | fault
  deriving DecidableEq, Repr

/-- A sheaf beside its registers: the slot entry leased (R154), how the lease is ending, a BEAM.SEL waiting for the next
window (R167), whether the carrier followed has stood at MIN since START (R175), the marked reply whose bearing result is due, as its tag and its usable chains (R169, R172), the return link of command follow (R174), whether the
leased slot has started, and the clocks and the lowest spur-exclusion entry that the lease matches (R476). -/
structure Sheaf where
  slotWords : List Nat := [0, 0, 0, 0]
  ending : Option LeaseEnd := none
  beamPending : Option Nat := none
  bearDue : Option (Nat × Nat) := none
  beamNow : Nat := 0
  cfSeen : Bool := false
  cfLink : Option Nat := none
  started : Bool := false
  spurMask : Nat := 0
  spurEntry : Option Nat := none
  deriving DecidableEq, Repr

/-- SHF's tables: isolation by chain × 16 + antenna (R162), element positions by receive chain (R168), beam words by
sheaf, beam and entry (R165), and whether a geometry written under a lease waits to be loaded (R183). -/
structure ShfTables where
  iso : Tab Nat := []
  geoX : Tab Nat := []
  geoY : Tab Nat := []
  beam : Tab Nat := []
  geoOwed : Bool := false
  deriving DecidableEq, Repr

/-- One entry of the enforcer's log (R144). -/
structure RgeEntry where
  code : Nat
  chain : Nat
  chan : Nat
  angle : Nat
  cycle : Nat
  deriving DecidableEq, Repr

/-- The enforcer's state beside its registers: the profile in force (the bytes of R135), the log ring, the times of the
last two violations, the channel granted to each chain, the last code per chain, the time each chain's carrier came on,
the occupancy and duty bins of R141 (per channel and per chain, newest first), the slots prepared and not yet started
per chain (R138), the detector curves latched at boot (R140), and the chains, as a mask, whose grant a kill last withdrew, with the
time of it (R151). -/
structure Rge where
  profile : List Nat := []
  log : List RgeEntry := []
  viols : List Nat := []
  granted : Tab Nat := []
  lastCode : Tab Nat := []
  onTime : Tab Nat := []
  occ : Tab (List Nat) := []
  duty : Tab (List Nat) := []
  prepped : Tab Nat := []
  curve : List Nat := []
  cutMask : Nat := 0
  cutAt : Nat := 0
  deriving DecidableEq, Repr

/-- A sequencer's WAIT: its mask, its unit and bound (R219, R220). -/
structure WaitRec where
  mask : Nat
  unit : Nat
  bound : Nat
  deriving DecidableEq, Repr

/-- A sequencer's RQS in progress: the chains still to answer (R224). -/
structure RqsRec where
  mask : Nat
  deriving DecidableEq, Repr

/-- A block of words in a push buffer, bound for one queue (R227). -/
structure PushBlock where
  queue : Nat
  words : List Nat
  deriving DecidableEq, Repr

/-- A link sequencer beside its LSC registers (R211, R213, R226): general registers, call stack, the special registers
that are not LSC registers, the record bank and its continuation, the wait in progress, the push buffer, RQS and LOCK
under way with the code of the last one that failed, and the cut of R230 still running. -/
structure Seq where
  g : Tab Nat := []
  stack : List Nat := []
  why : Nat := 0
  rxstat : Nat := 0
  rxrn : Nat := 0
  rxb : Nat := 0
  nfmt : Nat := 0
  fmtBase : Nat := 0
  recFlags : Nat := 0
  recBank : List Nat := []
  recCont : List Nat := []
  cfcmd : Nat := 0
  dects : Nat := 0
  ctx0 : Nat := 0
  ctx1 : Nat := 0
  ctx2 : Nat := 0
  ctx3 : Nat := 0
  deriving DecidableEq, Repr

/-- The part of a sequencer's state that concerns operations still under way. -/
structure SeqOps where
  wait : Option WaitRec := none
  push : List PushBlock := []
  rqs : Option RqsRec := none
  rqsErr : Nat := 0
  lockPending : Bool := false
  lockErr : Nat := 0
  cutting : Bool := false
  deriving DecidableEq, Repr

/-- What the HF engine puts on air (R286): a start and an end of frame, and bits of one element each. -/
inductive HfSym where
  | start | stop
  | bit (b : Bool)
  deriving DecidableEq, Repr

/-- An HF frame that a sequencer has issued (R284, R285): the bytes of its entry, its latched operands, the bits in air order, and
what is on air with parity and framing (R286). -/
structure HfFrame where
  seq : Nat
  entry : List Nat
  ops : List Nat
  bits : List Bool
  air : List HfSym := []
  deriving DecidableEq, Repr

/-- The HF reader beside its registers: the state requested and the one that the transition under way enters (R279),
the drive settings in force (R282), the frame table (R283), the frame on air, the frame held and the minimum
of R287 running, the open window with its wait in carrier cycles, an S(WTX) reply to be answered, the number answered
and the last response sent (R288), and the ATQA and UID collected (R293). -/
structure Hfr where
  want : Option Nat := none
  step : Option Nat := none
  levelNow : Nat := 6
  depthNow : Nat := 6
  ofsNow : Nat := 0
  table : Tab Nat := []
  sending : Option HfFrame := none
  held : Option HfFrame := none
  minGap : Bool := false
  window : Option HfFrame := none
  waitCyc : Nat := 0
  wtxReply : List Nat := []
  wtxCount : Nat := 0
  wtxSent : List HfSym := []
  atqa : Nat := 0
  uid : List Nat := []
  deriving DecidableEq, Repr

/-- The Gleaner beside its registers (R296, R297): the baseline is to be set from the next ping, the baseline in
65,536ths of its register's units, and the run of pings over the threshold. -/
structure Gleaner where
  rebase : Bool := false
  baseAmp : Int := 0
  basePhase : Int := 0
  overRun : Nat := 0
  deriving DecidableEq, Repr

/-- A record commit under way (R325): record, new generation, the 256 bytes of its new slot, whether the field asked for
it, the further records of an UPDATE BINARY, and the answer that the field then gets. -/
structure Commit where
  record : Nat
  gen : Nat
  slot : List Nat
  field : Bool
  rest : List (Nat × List Nat)
  answer : List Nat
  deriving DecidableEq, Repr

/-- The commissioning tag beside its registers. In MRAM (R318): the primary slots of records written (R318), the backup slot, the two copies of the
generation counters, the commit marker, the records that failed recovery (R327), FAILS, and the two copies of the monotonic
counters, with those whose CRC fails, counter c as c and 4 + c (R322). In the engine: the commit under way, a field command and a wired request waiting for the arbiter, the
last answer to the field, and the I-blocks it is chained in (R308), the cascade level reached, the CID, the selected application and file, the authentication and
session values of R315 and R316, the CTR of the command in hand, and who answers a passed-through APDU. -/
structure Hft where
  slots : Tab (Option (List Nat)) := []
  backup : List Nat := []
  genP : Tab Nat := []
  genB : Tab Nat := []
  marker : Option (Nat × Nat) := none
  failed : List Nat := []
  fails : Nat := 0
  monoP : Tab Nat := []
  monoB : Tab Nat := []
  monoBad : List Nat := []
  commit : Option Commit := none
  fieldWait : Option Apdu := none
  wiredWait : Option (Nat × Bool) := none
  reply : List Nat := []
  blocks : List (List Nat) := []
  cascade : Nat := 1
  cid : Nat := 0
  fsd : Nat := 0
  app : Bool := false
  file : Nat := 0
  rndB : List Nat := []
  key : List Nat := []
  sk : List Nat := []
  ctr : Nat := 0
  macCtr : Option Nat := none
  passSeq : Bool := false
  deriving DecidableEq, Repr

end Sys2Proof.Machine
end

