-- ==== Sys2Proof/Machine/NodeTypes.lean ====
section
/-! DEFINITION. The state that the blocks of the node keep beside their registers: what MRAM holds for Core P and the
stores, Core P's own figures, luminaire, Memory Port, Granary, network and transport, Host Link, calibration and ageing. -/

namespace Sys2Proof.Machine

open Sys2Proof

/-- One bank of the object store (R410): its generation, the schema it was written under, and the RWP values by
index × 256 + subindex. -/
structure OdBank where
  gen : Nat := 0
  schema : Nat := 0
  values : Tab (Option (List Nat)) := []
  deriving DecidableEq, Repr

/-- What MRAM holds for Core P and the stores beside the memory map, the objects and the tag (R398, R400, R410, R488, R493,
R494, R516): life-cycle, its pending record, the boot pointer in the layout of AON BOOT_PTR and the pointer before a trial,
the calibration pointer, both copies of the rollback counters, the object store and its pointer, the highest accepted
counter per TOT sender (0 none, else 1 + CTR), the TOT counter reserve and the Granary's journal key slot. -/
structure Nv where
  lc : Nat := 1
  lcPending : Option Nat := none
  bootPtr : Nat := 0
  bootPrev : Nat := 0
  calPtr : Nat := 0
  rollP : Tab Nat := []
  rollB : Tab Nat := []
  bankA : OdBank := {}
  bankB : OdBank := {}
  odPtr : Bool := false
  replay : Tab Nat := []
  ctrReserve : Nat := 0
  deriving DecidableEq, Repr

/-- What Core P keeps (R493, R497, R534, R536): times and cores of recent core resets, the time of the last RGE escalation,
whether QUIET is held until a RESTART, a reset held by REF_FAIL, whether step 7 is owed once LEW ends, per watchdog the
time at which its count runs out and, while held by a halt, the count left, the header of the firmware that runs, its
level list, a crystal failure with no SLOW_RETRY since (R465), SYSPLL's declared lock (R467), and the pad settings applied (R550). -/
structure CoreP where
  resets : List (Nat × Nat) := []
  escalated : Option Nat := none
  quietHeld : Bool := false
  refHeld : Bool := false
  fwHdr : List Nat := []
  levels : List (Nat × Nat) := []
  slowHeld : Bool := false
  pllLocked : Bool := false
  pads : List Nat := []
  wdtDue : Tab Nat := []
  wdtHeld : Tab Nat := []
  deriving DecidableEq, Repr

/-- LUM beside its registers: the dim curve's words, a KICK since the failsafe engaged (R344), the DALI engine sending, the
second sending of TWICE owed, a frame that is an automatic DAPC, the answer window open, the newest ARC queued (R339), the
detector armed (R347), the node occupied, the lux loop's figures in Q16.16 and Q8.8 (R348, R349), and the
photodiode's integration under way: the cycle boundaries still to come in it, and whether the angle has not run through it (R346). In
the AON stage: the duty of the present DIM_PWM period and its number modulo 16 (R338). `dali` holds the start bit and the data bits
of the frame on the bus (R340). -/
structure Lum where
  curve : Tab Nat := []
  kicked : Bool := false
  sending : Bool := false
  again : Bool := false
  auto : Bool := false
  window : Bool := false
  queued : Option Nat := none
  disarmed : Bool := false
  occupied : Bool := false
  lux : Nat := 0
  pdLeft : Option Nat := none
  pdUnsync : Bool := false
  duty : Nat := 0xFFFF
  pwmPeriod : Nat := 0
  dali : List Bool := []
  deriving DecidableEq, Repr

/-- A region of R364 as its registers hold it: RCFG, RSTART, REND and the nonce. -/
structure MptRegion where
  cfg : Nat := 0
  start : Nat := 0
  last : Nat := 0
  nonce : Nat := 0
  deriving DecidableEq, Repr

/-- A line of the line cache (R363): select, line number, its 64 bytes. A set is a list, most recently used first. -/
structure CacheLine where
  sel : Nat
  line : Nat
  data : List Nat
  deriving DecidableEq, Repr

/-- A transaction of the Memory Port: one low period of a select (R355, R356, R358). The select, whether it is a line fill,
the opcode and its bytes, the address as it is sent and its bytes (0: no address phase), the dummy cycles, the data bytes and
their direction, the lanes of the command, address and data phases, DDR, strobe sampling, and MP_CLK's divider DIV + 1. -/
structure MptTxn where
  sel : Nat := 0
  fill : Bool := false
  op : Nat := 0
  opBytes : Nat := 1
  addr : Nat := 0
  addrBytes : Nat := 0
  dummy : Nat := 0
  len : Nat := 0
  write : Bool := false
  lanes : List Nat := []
  ddr : Bool := false
  dqs : Bool := false
  div : Nat := 1
  deriving DecidableEq, Repr

/-- The Memory Port beside its registers: its eight regions, the cache sets by set number, the fetches that wait for a line
fill as master and address, the transaction in progress, the latest one's phases, the command in progress with its data phase
over, the bytes that the last data phase sent (assumption 6), and the memory on the selects, byte by
select × 2^32 + offset, which the Granary engine uses (assumption 28). -/
structure Mpt where
  regions : Tab MptRegion := []
  cache : Tab (List CacheLine) := []
  fills : List (Nat × Nat) := []
  txn : Option MptTxn := none
  last : MptTxn := {}
  dataDone : Bool := false
  out : List Nat := []
  ext : Tab Nat := []
  deriving DecidableEq, Repr

/-- The Granary engine beside its registers (R369 to R377): the journal nonce, generation and active copy of the superblock,
the records staged and the CYCLE of the first, the entries that have no sector yet, the notifications that wait for room in
the ring, and the words that its DMA writes to registers in the next bus cycle, by address (R22). -/
structure Grn where
  jnonce : Nat := 0
  gen : Nat := 0
  copyB : Bool := false
  nrec : Nat := 0
  firstCycle : Nat := 0
  unplaced : List Nat := []
  notes : List (Nat × List Nat) := []
  dma : List (Nat × Nat) := []
  deriving DecidableEq, Repr

/-- A transfer (R403): its peer and tag, the object, direction (0 to the node), kind, total and CRC announced, the bytes
staged or to be sent, the peer's NEXT, the resends without progress, and whether the Host Link opened it (R431). -/
structure Xfer where
  src : Nat
  tid : Nat
  kid : Nat
  index : Nat
  sub : Nat
  out : Bool
  kind : Nat
  total : Nat
  crc : Nat
  data : List Nat
  next : Nat
  segs : Nat
  resends : Nat
  host : Bool
  deriving DecidableEq, Repr

/-- A subscription (R405, R406): subscriber and identifier, mode, object, spacing, life, confirmation, the payload awaiting acknowledgement with its resends, the payloads queued behind it, the time of the last renewal,
and the value last sent. -/
structure Subscr where
  src : Nat
  id : Nat
  mode : Nat
  index : Nat
  sub : Nat
  minMs : Nat
  life : Nat
  conf : Bool
  waiting : Option (List Nat)
  resends : Nat
  queued : List (List Nat)
  since : Nat
  last : List Nat
  deriving DecidableEq, Repr

/-- The network firmware (R384 to R407): PTP servo counts, the figures of its objects, TOT's window per sender, the counter of
the next datagram, transfers, subscriptions, the datagrams sent by the last command (assumption 6), the object counters, the
figures of the power budget, the addresses taken from router advertisements, the record writes that
Core A owes the tag, and the NSEQ of the last NOTIFY per subscriber. -/
structure Net where
  linkUp : Bool := false
  txLevel : Nat := 1
  sqi : Nat := 0
  frame : List Nat := []
  ptpGood : Nat := 0
  ptpOffset : Nat := 0
  ptpDelay : Nat := 0
  windows : Tab Nat := []
  ctr : Nat := 0
  planSeq : Nat := 0
  xfers : List Xfer := []
  subs : List Subscr := []
  sent : List (List Nat) := []
  counts : Tab Nat := []
  unserved : Nat := 0
  adjusted : Nat := 0
  slaac : List (List Nat) := []
  owed : List Nat := []
  nseqs : Tab Nat := []
  deriving DecidableEq, Repr

/-- A Host Link result (R421, R423): TYPE, TAG, whether it ends its block, and the body from byte 4. -/
structure HlResult where
  typ : Nat
  tag : Nat
  eob : Bool
  body : List Nat
  deriving DecidableEq, Repr

/-- The Host Link beside its registers: no frame accepted since reset, the results not yet delivered, the FLAGS bits of
frame k - 1, the reply being shifted out, and whether it carries the oldest result. A staged object write is a transfer of `Net`. -/
structure Hlk where
  seen : Bool := false
  results : List HlResult := []
  flags : Nat := 0
  reply : List Nat := []
  carries : Bool := false
  deriving DecidableEq, Repr

/-- Fulling and the ageing monitors beside their registers (R505, R516, R518 to R522): a commit waiting for a sequence, the
PA-path samples by chain × 4 + group, newest first, as time and code in Q8.8 dB, a guard candidate computed since start, locks
and hint misses of the last 24 h as time and miss, the RADIO slowdown at the last sweep, the margins that have warned
and that are exhausted, and the sequences of a boot set that are still to run while one is under way (R514). -/
structure Ageing where
  commitWait : Bool := false
  pa : Tab (List (Nat × Nat)) := []
  candidate : Bool := false
  locks : List (Nat × Bool) := []
  slowAtSweep : Nat := 0
  warned : Nat := 0
  exhausted : Nat := 0
  bootSet : Option (List Nat) := none
  deriving DecidableEq, Repr

end Sys2Proof.Machine
end

