-- ==== Sys2Proof/Machine/State.lean ====
section
/-! DEFINITION. The machine's state, its faults and refusals, and the state after reset. -/

namespace Sys2Proof.Machine

open Sys2Proof

/-- The last response that a read returned to a master, the model's own record of what the bus carries (assumption 6). -/
structure BusResp where
  value : Nat := 0
  error : Bool := false
  deriving DecidableEq, Repr

/-- What the model keeps for the crossbar and the interrupt controller: the last response, the AON copies that software
sees with the keys written and not yet carried (R441), the LO/HI shadows by pair and master (R440), the interrupt
configuration in force and the one written in this CLK_BUS cycle (R28), the debug halts of Cores A and B, the time from
which the logger may write its next BUS_ERR entry (R532), and, as a mask over the source numbers of R31, the events of NET, PTP and
DBG since reset, whose blocks have no status register in the spec. -/
structure Bus where
  resp : BusResp := {}
  copies : Tab Nat := []
  dirty : List Nat := []
  shadow : Tab Nat := []
  irqCfg : Tab Nat := []
  irqNew : Option (Nat × Nat) := none
  haltedA : Bool := false
  haltedB : Bool := false
  busErrNext : Nat := 0
  events : Nat := 0
  deriving DecidableEq, Repr

/-- The radio blocks' state beside their registers. `buckLevel` is the level that the PA rail is known to have
reached, in the codes of R85 (assumption 10); `lastCap` the oldest instant, number of instants and of chains of the last
completed capture; `offAt` the time at which each chain's carrier last ended (R298). -/
structure Radio where
  utx : Tab UtxChain := []
  synth : Tab Synth := []
  urx : Tab UrxChain := []
  capture : Capture := {}
  lastCap : Option (Nat × Nat × Nat) := none
  eng : Tab FrameEng := []
  sheaf : Tab Sheaf := []
  shf : ShfTables := {}
  buckLevel : Nat := 0
  offAt : Tab Nat := []
  census : Tab (List Nat) := []
  seqs : Tab Seq := []
  seqOps : Tab SeqOps := []
  badWords : List Nat := []
  drained : Nat := 15
  deriving DecidableEq, Repr

/-- The block's whole state. `pending` is the queue of commands that wait, first in first out; `now` counts CLK_DSP cycles of
240 to the microsecond since reset and `dsp` the cycles that CLK_DSP itself has made (assumption 1); `freeCount` counts the
open values drawn, the model's own field (assumption 3). `regs` is the register field file: every field of every register of
the spec, under the key of `Fld.key`, its reset value where nothing is listed. `mem` holds the bytes of the memory map (R18).
`objs` holds the objects that keep their own bytes, by index × 256 + subindex (R408); `badVotes` the voted fields whose copies
differ, each with its three copies (R443); `que` the words in each hardware queue (R449); `tmrPre` the prescalers of the timers
and `tmrUnread` the mask of those whose CAPT has not been read since a capture (R446, R456); `pulses` the pulses that each output pin has given (assumption 14); `calWork` the working calibration record and
`calTarget` the units that the running sequence names (R506, R509). The other fields are one structure per block. -/
structure State where
  pending : List Instr := []
  now : Nat := 0
  dsp : Nat := 0
  freeCount : Nat := 0
  regs : Tab Nat := []
  mem : List Host.Cell := []
  objs : Tab (Option (List Nat)) := []
  badVotes : Tab (Nat × Nat × Nat) := []
  bus : Bus := {}
  atb : Atb := {}
  aev : AtbEvents := {}
  radio : Radio := {}
  rge : Rge := {}
  hfr : Hfr := {}
  gl : Gleaner := {}
  hft : Hft := {}
  que : Tab (List Nat) := []
  tmrPre : Tab Nat := []
  tmrUnread : Nat := 0
  pulses : Tab Nat := []
  calWork : Tab Nat := []
  calTarget : Nat := 0
  nv : Nv := {}
  coreP : CoreP := {}
  lum : Lum := {}
  mpt : Mpt := {}
  grn : Grn := {}
  net : Net := {}
  hlk : Hlk := {}
  age : Ageing := {}
  deriving DecidableEq, Repr

/-- The reasons for which the machine stops with a fault: none. Every error that the spec describes (bus errors, refusals,
aborts, resets, FAILSAFE) is an effect on the state, after which the device goes on. -/
inductive Fault
  deriving DecidableEq, Repr

/-- The reasons for which a command has no meaning here. -/
inductive Refusal where
  /-- A command of the table without a meaning yet, by its mnemonic; no arm of the model raises it. Safe: nothing is claimed. -/
  | notModelled (mnemonic : String)
  /-- REGISTER_WRITE, RC_READ, HL_FRAME_ACCEPT and the other commands that carry a bus access raise it where the access falls in
  the window of NET, PTP, SEC or DBG at `base`, whose registers the spec does not list. Safe: the machine stops where the
  device would go on, and no claim is made of what it does. -/
  | registersNotGiven (base : Nat)
  deriving DecidableEq, Repr

/-- The machine right after a COLD reset with the line not yet reported: every register at the reset value of its table
(an unlisted key of `regs` reads as it), memories with nothing listed, no command waiting. Bring-up is the effect of
POWER_ON and WARM_RESET. -/
def State.reset : State := {}

end Sys2Proof.Machine
end

