-- ==== Sys2Proof/Machine/Ops.lean ====
section
/-! DEFINITION. The named operations over registers, memory and the fault log that every block uses. -/

namespace Sys2Proof.Machine

open Sys2Proof

/-- The outcome of a command. -/
abbrev Out := Host.Outcome State Fault Refusal

/-- Apply `g` where `c` holds. -/
def State.when (s : State) (c : Bool) (g : State → State) : State := if c then g s else s

/-- Apply `g 0`, `g 1`, …, `g (k - 1)` in this order. -/
def State.forN (s : State) (k : Nat) (g : Nat → State → State) : State := (List.range k).foldl (fun t i => g i t) s

/-- Apply `g` for each member of a list in order. -/
def State.forL {α : Type} (s : State) (l : List α) (g : α → State → State) : State := l.foldl (fun t i => g i t) s

/-- The value of instance `n` of a register field. -/
def State.get (s : State) (f : Fld) (n : Nat := 0) : Nat := Tab.get (f.rst n) s.regs (f.key n)

/-- Instance `n` of a register field given the value `v`, cut to the field's width. -/
def State.set (s : State) (f : Fld) (v : Nat) (n : Nat := 0) : State :=
  { s with regs := Tab.set (f.rst n) s.regs (f.key n) (v % 2 ^ f.width) }

/-- Whether a field is nonzero. -/
def State.on (s : State) (f : Fld) (n : Nat := 0) : Bool := s.get f n != 0

/-- Bit `k` of a field. -/
def State.bit (s : State) (f : Fld) (k : Nat) (n : Nat := 0) : Bool := bitOf (s.get f n) k

/-- Bit `k` of a field made `b`. -/
def State.setBit (s : State) (f : Fld) (k : Nat) (b : Bool) (n : Nat := 0) : State :=
  s.set f (putBit (s.get f n) k b) n

/-- An event counter advanced by `k`, saturating at 0xFFFF_FFFF with the block's SAT bit set (R446, R447). -/
def State.bump (s : State) (cnt sat : Fld) (n : Nat := 0) (k : Nat := 1) : State :=
  if s.get cnt n + k ≤ 0xFFFFFFFF then s.set cnt (s.get cnt n + k) n else (s.set cnt 0xFFFFFFFF n).set sat 1 n

/-- The counter rule of R446 for a block whose SAT bit is not indexed as its counter is. -/
def State.bumpG (s : State) (cnt : Fld) (n : Nat) (sat : Fld) (m : Nat) (k : Nat := 1) : State :=
  if s.get cnt n + k ≤ 0xFFFFFFFF then s.set cnt (s.get cnt n + k) n else (s.set cnt 0xFFFFFFFF n).set sat 1 m

/-- The next open value of the run (assumption 3). -/
def State.fresh (s : State) : Nat × State := (Config.freeValue s.freeCount, { s with freeCount := s.freeCount + 1 })

/-- `k` open values of the run, each below `m`. -/
def State.freshL (s : State) (k m : Nat) : List Nat × State :=
  ((List.range k).map fun i => Config.freeValue (s.freeCount + i) % m, { s with freeCount := s.freeCount + k })

/-- The byte at an address of the map of R18, 0 where nothing has been written (assumption 5). -/
def State.rd8 (s : State) (a : Nat) : Nat := (Tab.get 0 s.mem a).toNat

/-- The canonical form of a memory: addresses strictly rising, and no byte listed that equals what an unlisted address reads
as. -/
def Memory.wf (m : List Host.Cell) : Bool := Tab.wf 0 m

/-- One byte written. -/
def State.wr8 (s : State) (a v : Nat) : State := { s with mem := Tab.set 0 s.mem a (BitVec.ofNat 8 v) }

/-- `n` bytes from an address. -/
def State.rdBytes (s : State) (a n : Nat) : List Nat := (List.range n).map fun i => s.rd8 (a + i)

/-- Bytes written from an address, in ascending order. -/
def State.wrBytes (s : State) (a : Nat) (b : List Nat) : State :=
  match b with
  | [] => s
  | x :: r => (s.wr8 a x).wrBytes (a + 1) r

/-- The 32-bit little-endian word at an address (R7). -/
def State.rd32 (s : State) (a : Nat) : Nat := ofLe (s.rdBytes a 4)

/-- A 32-bit little-endian word written (R7). -/
def State.wr32 (s : State) (a v : Nat) : State := s.wrBytes a (toLe 4 v)

/-- The bytes of memory from `lo` to `hi - 1` made zero: the wiper of R486. -/
def State.wipe (s : State) (lo hi : Nat) : State :=
  { s with mem := Tab.clear (fun a => decide (lo ≤ a) && decide (a < hi)) s.mem }

/-- Base of the memory of sequencer `n` (R18). -/
def seqBase (n : Nat) : Nat := 0x20000000 + n * 0x8000

/-- The value of an object that holds its own bytes, the default `d` where nothing was written. -/
def State.obj (s : State) (index sub : Nat) (d : List Nat) : List Nat :=
  match Tab.get none s.objs (index * 256 + sub) with
  | some v => v
  | none => d

/-- An object that holds a number of its own, `dflt` by default. -/
def State.objNum (s : State) (index sub dflt : Nat) : Nat := ofLe (s.obj index sub (toLe 4 dflt))

/-- An object's own bytes written. -/
def State.setObj (s : State) (index sub : Nat) (v : List Nat) : State :=
  { s with objs := Tab.set none s.objs (index * 256 + sub) (some v) }

/-- An object returned to its default. -/
def State.clearObj (s : State) (index sub : Nat) : State :=
  { s with objs := Tab.set none s.objs (index * 256 + sub) none }

/-- The number by which a master is named in R22's column order and in the shadows of R440: A, B, P, Host Link, then
LS0 to LS15 from 16 on. -/
def masterNum : Master → Nat
  | .coreA => 0
  | .coreB => 1
  | .coreP => 2
  | .hostLink => 3
  | .seq n => 16 + n

/-- Whether a master is a core (Core A, B or P). -/
def masterIsCore : Master → Bool
  | .coreA => true
  | .coreB => true
  | .coreP => true
  | _ => false

/-- Record entry `a` of a fault log ring (R530, R531): header at `base`, `cap` entries. A writer that finds MAGIC
absent initialises the header first; the entry's words are stored, then HEAD and COUNT (R532). -/
def State.faultLog (s : State) (base cap code inst data : Nat) : State :=
  let fresh := s.rd32 base != 0x31544C46
  let head := if fresh then 0 else ofLe (s.rdBytes (base + 4) 2) % cap
  let count := if fresh then 0 else s.rd32 (base + 8)
  let count' := min 0xFFFFFFFF (count + 1)
  let entry := toLe 4 (s.get AON.UPT_LO_UPT) ++ toLe 4 s.atb.cycle ++ toLe 2 s.atb.angle ++
    [code % 256, inst % 256] ++ toLe 2 data ++ [128 * s.get ATB.STATE_CYCLE_VALID, count' % 256]
  ((s.wr32 base 0x31544C46).wrBytes (base + 16 + 16 * head) entry).wrBytes (base + 4)
    (toLe 2 ((head + 1) % cap) ++ [0, 0] ++ toLe 4 count' ++ [0, 0, 0, 0])

/-- An entry of ring HW, written by the SYS fault logger (R530). -/
def State.logHW (s : State) (code inst data : Nat) : State := s.faultLog 0x2803F000 64 code inst data

/-- An entry of ring P, written by Core P (R530). -/
def State.logP (s : State) (code inst data : Nat) : State := s.faultLog 0x2803F410 16 code inst data

/-- An entry of ring A, written by Core A (R530). -/
def State.logA (s : State) (code inst data : Nat) : State := s.faultLog 0x2803F520 64 code inst data

/-- One of Core P's eight wake inputs is raised and latched (R32, AON WAKE). -/
def State.wakeP (s : State) (input : Nat) : State := s.setBit AON.WAKE_WAKE input true

/-- The event of a source whose block has no status register in the spec (R31). -/
def State.sourceEvent (s : State) (k : Nat) : State := { s with bus.events := putBit s.bus.events k true }

/-- A bus error (R19): address, initiator (R22 column order), direction and kind are kept, counted, and logged at most
once per millisecond (R532). -/
def State.busError (s : State) (a init : Nat) (write denied : Bool) : State :=
  let s1 := ((((s.set SYS.BUSERR_ADDR_VALUE a).set SYS.BUSERR_INFO_INIT init).set SYS.BUSERR_INFO_WR (b2n write)).set
    SYS.BUSERR_INFO_DENIED (b2n denied)).set SYS.STATUS_BUS_ERR 1
  let s2 := s1.bump SYS.CNT_BUSERR_COUNT SYS.STATUS_SAT
  let info := 16 * init + 2 * b2n write + b2n denied
  if s.now < s.bus.busErrNext then s2 else
    { s2.logHW 0x01 init info with bus := { s2.bus with busErrNext := s.now + 240000 } }

/-- A pulse on an output pin: 0 to 3 TMR_OUT0 to TMR_OUT3, 4 ATB_EVOUT (assumption 14). -/
def State.pulse (s : State) (pin : Nat) : State :=
  { s with pulses := Tab.set 0 s.pulses pin (Tab.get 0 s.pulses pin + 1) }

/-- The result of a read returned to a master. -/
def State.respond (s : State) (v : Nat) (err : Bool) : State := { s with bus := { s.bus with resp := { value := v, error := err } } }

/-- The position of the timebase in microseconds is not held: `now` counts CLK_DSP cycles, 240 to the microsecond. -/
def usTicks (us : Nat) : Nat := 240 * us

end Sys2Proof.Machine
end

