-- ==== Sys2Proof/Machine/LscOps.lean ====
section
/-! DEFINITION. Operations on the link sequencers that other blocks use: the state of one sequencer, its events, the
completion of RQS and LOCK, and the lease that it holds. -/

namespace Sys2Proof.Machine

/-- The sequencer's special state. -/
def State.seqAt (s : State) (n : Nat) : Seq := Tab.get {} s.radio.seqs n

/-- The sequencer's special state replaced. -/
def State.setSeq (s : State) (n : Nat) (q : Seq) : State := { s with radio.seqs := Tab.set {} s.radio.seqs n q }

/-- The sequencer's operations under way. -/
def State.opsAt (s : State) (n : Nat) : SeqOps := Tab.get {} s.radio.seqOps n

/-- The sequencer's operations under way replaced. -/
def State.setOps (s : State) (n : Nat) (o : SeqOps) : State := { s with radio.seqOps := Tab.set {} s.radio.seqOps n o }

/-- The frame engine of sheaf `sh`. -/
def State.engAt (s : State) (sh : Nat) : FrameEng := Tab.get {} s.radio.eng sh

/-- The frame engine of sheaf `sh` replaced. -/
def State.setEng (s : State) (sh : Nat) (e : FrameEng) : State := { s with radio.eng := Tab.set {} s.radio.eng sh e }

/-- SHF's own state of sheaf `sh`. -/
def State.sheafAt (s : State) (sh : Nat) : Sheaf := Tab.get {} s.radio.sheaf sh

/-- SHF's own state of sheaf `sh` replaced. -/
def State.setSheaf (s : State) (sh : Nat) (x : Sheaf) : State := { s with radio.sheaf := Tab.set {} s.radio.sheaf sh x }

/-- The events of R218, by bit. -/
def evRXD : Nat := 0
def evTXE : Nat := 1
def evRDY : Nat := 2
def evLCK : Nat := 3
def evSLS : Nat := 4
def evSLE : Nat := 5
def evAEV : Nat := 6
def evCFC : Nat := 7
def evLSE : Nat := 8
def evDBL : Nat := 9

/-- Sequencer states of R209. -/
def seqSTOPPED : Nat := 0
def seqIDLE : Nat := 1
def seqRUN : Nat := 2
def seqWAIT : Nat := 3
def seqFAULT : Nat := 4

/-- An event is latched in EVP, whatever the sequencer is doing (R219). -/
def State.seqEvent (s : State) (n ev : Nat) : State := s.setBit LSC.EVP_EVP ev true n

/-- Memory of a sequencer written at node address `a`: the words take fresh parity (R212; assumption 53). -/
def State.freshPar (s : State) (a len : Nat) : State :=
  if s.radio.badWords.isEmpty then s
  else { s with radio.badWords := s.radio.badWords.filter fun w => decide (w + 4 ≤ a) || decide (a + len ≤ w) }

/-- The word of sequencer `n`'s memory that byte `ea` lies in fails its parity (R212). -/
def State.parBad (s : State) (n ea : Nat) : Bool := s.radio.badWords.contains (seqBase n + ea / 4 * 4)

/-- The sequencer that holds the lease of a sheaf. -/
def State.sheafSeq (s : State) (sh : Nat) : Option Nat :=
  if s.on SHF.LEASE_STATE_HELD sh then some (s.get SHF.LEASE_STATE_OWNER sh) else none

/-- An event for the sequencer that leases a sheaf; nothing where no lease is held. -/
def State.sheafEvent (s : State) (sh ev : Nat) : State :=
  match s.sheafSeq sh with
  | some n => s.seqEvent n ev
  | none => s

/-- The sheaf that sequencer `n` leases (R155). -/
def State.seqSheaf (s : State) (n : Nat) : Option Nat :=
  (List.range 4).find? fun sh => s.on SHF.LEASE_STATE_HELD sh && s.get SHF.LEASE_STATE_OWNER sh == n

/-- Sequencer `n` holds the HF reader, or the HF tag (R229). -/
def State.holdsHfr (s : State) (n : Nat) : Bool := s.on LSC.HF_STATE_HFR_HELD && s.get LSC.HF_STATE_HFR_OWNER == n
def State.holdsHft (s : State) (n : Nat) : Bool := s.on LSC.HF_STATE_HFT_HELD && s.get LSC.HF_STATE_HFT_OWNER == n

/-- Sequencer `n` holds a lease, be it one that is still ending after its reset (R157, R228). -/
def State.seqBound (s : State) (n : Nat) : Bool := (s.seqSheaf n).isSome || s.holdsHfr n || s.holdsHft n

/-- The sheaf whose held lease includes transmit chain `ch`: in TXMASK, or as the LO chain of a LISTEN sheaf (R158). -/
def State.chainSheaf (s : State) (ch : Nat) : Option Nat :=
  (List.range 4).find? fun sh => s.on SHF.LEASE_STATE_HELD sh &&
    (s.bit SHF.COMP_TXMASK ch sh || (s.get SHF.COMP_TXMASK sh == 0 && s.get SHF.COMP_LO_USED sh == ch))

/-- The sheaf that receive chain `ch` is bound to (R105). -/
def State.rxSheaf (s : State) (ch : Nat) : Option Nat :=
  (List.range 4).find? fun sh => s.on SHF.LEASE_STATE_HELD sh && s.bit SHF.COMP_RXMASK ch sh

/-- An RQS of sequencer `n` on chain `ch` has ended with code `err`, 0 for reached (R218 RDY, R224). -/
def State.rqsAnswer (s : State) (n ch err : Nat) : State :=
  match (s.opsAt n).rqs with
  | none => s
  | some r =>
    if err != 0 then (s.setOps n { s.opsAt n with rqs := none, rqsErr := err }).seqEvent n evRDY
    else if putBit r.mask ch false == 0 then
      (s.setOps n { s.opsAt n with rqs := none, rqsErr := 0 }).seqEvent n evRDY
    else s.setOps n { s.opsAt n with rqs := some { mask := putBit r.mask ch false } }

/-- A LOCK that a sequencer waits for on synthesizer `m` has ended with code `err` (R218 LCK). -/
def State.lockAnswer (s : State) (m err : Nat) : State :=
  s.forN 4 fun sh t =>
    match t.sheafSeq sh with
    | some n =>
      if (t.opsAt n).lockPending && t.get SHF.COMP_LO_USED sh == m then
        (t.setOps n { t.opsAt n with lockPending := false, lockErr := err }).seqEvent n evLCK
      else t
    | none => t

/-- The LSn reset of R25 and R211: registers, flags, stack and event latch cleared, PC to PC_INIT, state STOPPED; memory
is kept. -/
def State.seqReset (s : State) (n : Nat) : State :=
  let s1 := (s.setSeq n { s.seqAt n with
      g := [], stack := [], why := 0, rxstat := 0, rxrn := 0, rxb := 0, nfmt := 0, fmtBase := 0, recFlags := 0
      recBank := [], recCont := [], cfcmd := 0, dects := 0 }).setOps n
    { s.opsAt n with wait := none, rqs := none, rqsErr := 0, lockPending := false, lockErr := 0 }
  ((((((s1.set LSC.EVP_EVP 0 n).set LSC.STATE_LTYPE 0 n).set LSC.STATE_FLAGS 0 n).set LSC.STATE_DEPTH 0 n).set LSC.STATE_PCW
    (s.get LSC.PC_INIT_WADDR n) n).set LSC.STATE_STATE seqSTOPPED n)

end Sys2Proof.Machine
end

