-- ==== Sys2Proof/Machine/Pa.lean ====
section
/-! DEFINITION. The transmit chains' power path and the enforcer's view of them: chains and synthesizers, the region
profile in force, power tables, band groups, the effective index, the PA rail and the calibration record's bytes. -/

namespace Sys2Proof.Machine

/-- Chain states of R69. -/
def txOFF : Nat := 0
def txSTANDBY : Nat := 1
def txREADY : Nat := 2
def txCW : Nat := 3
def txMOD : Nat := 4
def txLISTEN : Nat := 5

/-- Codes of UTX LAST_ERR (R73). -/
def errBAD_STATE : Nat := 1
def errNOT_OWNER : Nat := 2
def errSYNTH_NOT_READY : Nat := 3
def errSUPPLY_NOT_READY : Nat := 4
def errRGE_DENY : Nat := 5
def errTABLE_INVALID : Nat := 6
def errSHAPE_LONG : Nat := 7
def errGANG : Nat := 8
def errPA_FAULT : Nat := 9
def errLOL : Nat := 10

/-- Synthesizer states of RFS STATE.STATE. -/
def synOFF : Nat := 0
def synIDLE : Nat := 1
def synSEARCH : Nat := 2
def synSETTLE : Nat := 3
def synLOCKED : Nat := 4
def synCOAST : Nat := 5
def synCAL : Nat := 6

/-- The transmit chain's own state. -/
def State.utxAt (s : State) (n : Nat) : UtxChain := Tab.get {} s.radio.utx n

/-- The transmit chain's own state replaced. -/
def State.setUtx (s : State) (n : Nat) (u : UtxChain) : State := { s with radio.utx := Tab.set {} s.radio.utx n u }

/-- The synthesizer's own state. -/
def State.synthAt (s : State) (n : Nat) : Synth := Tab.get {} s.radio.synth n

/-- The synthesizer's own state replaced. -/
def State.setSynth (s : State) (n : Nat) (y : Synth) : State := { s with radio.synth := Tab.set {} s.radio.synth n y }

/-- The receive chain's own state. -/
def State.urxAt (s : State) (ch : Nat) : UrxChain := Tab.get {} s.radio.urx ch

/-- The receive chain's own state replaced. -/
def State.setUrx (s : State) (ch : Nat) (u : UrxChain) : State := { s with radio.urx := Tab.set {} s.radio.urx ch u }

/-- The synthesizer that feeds chain `n` (R97). -/
def State.loOf (s : State) (n : Nat) : Nat := s.get UTX.CTRL_LO_SRC n

/-- Chain `n` is a gang member: its LO comes from another chain's synthesizer (R97). -/
def State.isMember (s : State) (n : Nat) : Bool := s.loOf n != n

/-- The chains that synthesizer `m` feeds. -/
def State.fed (s : State) (m : Nat) : List Nat := (List.range 4).filter fun c => s.loOf c == m

/-- The state of transmit chain `n`. -/
def State.ust (s : State) (n : Nat) : Nat := s.get UTX.STATE_STATE n

/-- RF present on chain `n`, ramps included. -/
def State.carrier (s : State) (n : Nat) : Bool := s.on UTX.STATE_CARRIER n

/-- The chain is in CW, MOD or LISTEN (R81, R82). -/
def State.inUse (s : State) (n : Nat) : Bool := 3 ≤ s.ust n

/-- The synthesizer's state. -/
def State.sst (s : State) (m : Nat) : Nat := s.get RFS.STATE_STATE m

/-- The frequency word applied to synthesizer `m`, in kHz (R140). -/
def State.khz (s : State) (m : Nat) : Nat := (s.synthAt m).applied

/-- The sheaf whose lease holds synthesizer `m` (R155). -/
def State.synthSheaf (s : State) (m : Nat) : Option Nat :=
  (List.range 4).find? fun sh => s.on SHF.LEASE_STATE_HELD sh && s.get SHF.COMP_LO_USED sh == m

/-- R72: a leased part is commanded by the sequencer that holds its lease alone; an unleased one by cores. -/
def State.ownerOk (s : State) (sheaf : Option Nat) (m : Master) : Bool :=
  match sheaf with
  | some sh => m == .seq (s.get SHF.LEASE_STATE_OWNER sh)
  | none => match m with
    | .seq _ => false
    | _ => true

/-- A byte of Fulling's working record (R515). -/
def State.calByte (s : State) (off : Nat) : Nat := Tab.get 0 s.calWork off

/-- A 16-bit little-endian value of the working record (R515). -/
def State.cal16 (s : State) (off : Nat) : Nat := s.calByte off + 256 * s.calByte (off + 1)

/-- Bytes written into the working record. -/
def State.setCal (s : State) (off : Nat) (b : List Nat) : State :=
  match b with
  | [] => s
  | x :: r => ({ s with calWork := Tab.set 0 s.calWork off (x % 256) } : State).setCal (off + 1) r

/-- The working record's offset of a band hint: synthesizer `m`, channel index `c`, temperature bin `b` (R80, R515). -/
def hintOff (m c b : Nat) : Nat := 0x500 + m * 1024 + c * 16 + b

/-- The temperature bin of R80 for a temperature in 0.125 °C units, 16-bit signed. -/
def tempBin (t : Nat) : Nat := (max 0 (min 15 ((sint 16 t + 320) / 80))).toNat

/-! ### The profile in force (R135) -/

/-- PROFILE_OK: the enforcer holds a valid profile (R133). -/
def State.profOk (s : State) : Bool := s.on RGE.STATE_PROFILE_OK

/-- NCHAN of the profile in force; 0 without one. -/
def State.nchan (s : State) : Nat := if s.profOk then byteAt s.rge.profile 18 else 0

/-- A flag of the profile: 0 LISTEN_OK, 1 LBT_EN, 2 OCC_EN, 3 DUTY_EN. -/
def State.profFlag (s : State) (k : Nat) : Bool := s.profOk && bitOf (byteAt s.rge.profile 19) k

/-- The centre frequency of channel `c`, kHz. -/
def State.chanKhz (s : State) (c : Nat) : Nat := le32 s.rge.profile (64 + 8 * c) % 2 ^ 20

/-- CEIL_DBM of channel `c`, Q8.8. -/
def State.ceilDbm (s : State) (c : Nat) : Int := sint 16 (le16 s.rge.profile (64 + 8 * c + 6))

/-- The channel whose frequency is exactly `khz` (R138). -/
def State.findChan (s : State) (khz : Nat) : Option Nat := (List.range s.nchan).find? fun c => s.chanKhz c == khz

/-- The applied ceiling index of a channel (R139); 127 where the profile lists no such channel (assumption 11). -/
def State.ceilOf (s : State) (c : Option Nat) : Nat :=
  match c with
  | some c => min 127 (byteAt s.rge.profile (64 + 8 * c + 4) % 128 + s.get RGE.GUARD_STEPS)
  | none => 127

/-- The channel that chain `n`'s synthesizer word matches. -/
def State.chanNow (s : State) (n : Nat) : Option Nat := s.findChan (s.khz (s.loOf n))

/-! ### Power tables (R85, R87) -/

/-- The band group of a frequency (R87). -/
def bandGroup (khz : Nat) : Nat := if khz < 870000 then 0 else if khz < 900000 then 1 else if khz < 930000 then 2 else 3

/-- The valid power table of chain `n` for a band group, if there is one (R85, object 0x3100). -/
def State.powerTable (s : State) (n g : Nat) : Option (List Nat) :=
  if (s.obj (0x3100 + 4 * n + g) 0 []).length == 1040 then some (s.obj (0x3100 + 4 * n + g) 0 []) else none

/-- EXPECT of entry `i` of a power table, Q8.8 dBm. -/
def entExpect (t : List Nat) (i : Nat) : Int := sint 16 (le16 t (16 + 8 * min 127 i + 4))

/-- PA_USE of entry `i`. -/
def entUse (t : List Nat) (i : Nat) : Bool := bitOf (byteAt t (16 + 8 * min 127 i + 6)) 0

/-- EXPECT of chain `n` at index `i` for a frequency; none without a valid table. -/
def State.expectAt (s : State) (n khz i : Nat) : Option Int :=
  (s.powerTable n (bandGroup khz)).map fun t => entExpect t i

/-- The valid ramp table, if there is one (R95, object 0x3130). -/
def State.rampTable (s : State) : Option (List Nat) :=
  if (s.obj 0x3130 0 []).length == 276 then some (s.obj 0x3130 0 []) else none

/-! ### Effective index and rail (R88 to R90) -/

/-- The slot's PWR_CEIL for chain `n`; 0 on a chain that no lease holds (R88). -/
def State.slotCeil (s : State) (n : Nat) : Nat :=
  match s.chainSheaf n with
  | some sh => bits ((s.sheafAt sh).slotWords.getD 1 0) 22 16 % 128
  | none => 0

/-- The effective index of R88. -/
def State.effTarget (s : State) (n : Nat) : Nat :=
  max (s.get UTX.PWR_IDX n) (max (s.slotCeil n) (s.ceilOf (s.chanNow n)))

/-- Buck B's target: the highest PA_SUPPLY among chains in READY, CW, MOD and LISTEN (R89). -/
def State.buckTarget (s : State) : Nat :=
  (List.range 4).foldl (fun a c => if 2 ≤ s.ust c then max a (s.get UTX.PA_SUPPLY c) else a) 0

/-- The rail follows a lowered target; a raised one is reached at PA_RAIL_REACHED (R89, assumption 10). -/
def State.buckUpdate (s : State) : State := { s with radio.buckLevel := min s.radio.buckLevel s.buckTarget }

/-- The rail lies within 40 mV, two codes, of its target (R84, R89). -/
def State.supplyOk (s : State) : Bool := s.buckTarget ≤ s.radio.buckLevel + 2

/-- The effective entry of chain `n` applied to its registers: index, group, EXPECT, drive, supply, and bias with
Fulling's trim, clamped to 0 to 1,023 (R87, R88, R90). -/
def State.applyPwr (s : State) (n : Nat) : State :=
  let g := bandGroup (s.khz (s.loOf n))
  let i := s.effTarget n
  let t := (s.powerTable n g).getD []
  let at_ := 16 + 8 * i
  let bias := (max 0 (min 1023 ((le16 t at_ % 1024 : Nat) + sint 16 (s.cal16 (0x60 + 8 * n + 6))))).toNat
  let present := t.length == 1040
  (((((((s.set UTX.PWR_EFF_IDX i n).set UTX.PWR_GROUP g n).set UTX.FWD_EXPECT (le16 t (at_ + 4)) n).set
    UTX.PA_DRV (byteAt t (at_ + 2)) n).set UTX.PA_SUPPLY (byteAt t (at_ + 3)) n).set
    UTX.PA_BIAS (if present then bias else 0) n).set UTX.PHASE_TRIM (s.calByte (0x80 + 4 * n + g)) n).buckUpdate

/-- The effective index taken up now, or held while the chain is in MOD or ramps (R88). -/
def State.refreshPwr (s : State) (n : Nat) : State :=
  if s.ust n == txMOD || s.on UTX.STATE_RAMP n then s else s.applyPwr n

/-- A new STATE code for chain `n` (R69): STATE_CHG, and the rail's target with it. -/
def State.setUst (s : State) (n st : Nat) : State :=
  if s.ust n == st then s else ((s.set UTX.STATE_STATE st n).set UTX.STATUS_STATE_CHG 1 n).buckUpdate

/-- LAST_ERR written. -/
def State.noteErr (s : State) (n code : Nat) : State := s.set UTX.STATE_LAST_ERR code n

/-- A refused request or write: CMD_ERR and LAST_ERR (R73). -/
def State.utxRefuse (s : State) (n code : Nat) : State := (s.noteErr n code).set UTX.STATUS_CMD_ERR 1 n

/-- A write to a leased chain by another than its holder is ignored: CMD_ERR, LAST_ERR = NOT_OWNER (R72). -/
def State.utxOwned (s : State) (n : Nat) (m : Master) (k : State → State) : State :=
  if s.ownerOk (s.chainSheaf n) m then k s else s.utxRefuse n errNOT_OWNER

/-- An answer for the sequencer whose RQS waits on chain `n` (R218, R224). -/
def State.utxReport (s : State) (n err : Nat) : State :=
  if (s.utxAt n).rqs then
    let s1 := s.setUtx n { s.utxAt n with rqs := false }
    match s.chainSheaf n with
    | some sh => s1.rqsAnswer (s.get SHF.LEASE_STATE_OWNER sh) n err
    | none => s1
  else s

/-- The wait of R84 ends. -/
def State.endWait (s : State) (n : Nat) : State := s.set UTX.STATE_WAIT 0 n

/-- A request fails (R73, R84): LAST_ERR, its status bit, no request outstanding, and the RQS answered. -/
def State.utxFail (s : State) (n code : Nat) : State :=
  let s1 := s.noteErr n code
  let s2 := if code == errSYNTH_NOT_READY || code == errSUPPLY_NOT_READY then s1.set UTX.STATUS_WAIT_FAIL 1 n
    else s1.set UTX.STATUS_CMD_ERR 1 n
  ((s2.setUtx n { s2.utxAt n with want := none }).endWait n).utxReport n code

end Sys2Proof.Machine
end

