-- ==== Sys2Proof/Machine/UrxOps.lean ====
section
/-! DEFINITION. What happens to the receive chains: carrier on and off, window openings, the hold policy, gain choice and
the binding to a sheaf. -/

namespace Sys2Proof.Machine

/-- Receive chain states of R106. -/
def rxOFF : Nat := 0
def rxIDLE : Nat := 1
def rxACQUIRE : Nat := 2
def rxTRACK : Nat := 3
def rxCW : Nat := 4
def rxFOREIGN : Nat := 5

/-- The state of receive chain `ch`. -/
def State.rst (s : State) (ch : Nat) : Nat := s.get URX.STATE_STATE ch

/-- The receive chains bound to a leased sheaf (R105). -/
def State.rxOf (s : State) (sh : Nat) : List Nat :=
  if s.on SHF.LEASE_STATE_HELD sh then setBits 16 (s.get SHF.COMP_RXMASK sh) else []

/-- The transmit chains in a leased sheaf's TXMASK. -/
def State.txOf (s : State) (sh : Nat) : List Nat :=
  if s.on SHF.LEASE_STATE_HELD sh then setBits 4 (s.get SHF.COMP_TXMASK sh) else []

/-- A new STATE code for receive chain `ch` (R106). -/
def State.setRst (s : State) (ch st : Nat) : State :=
  if s.rst ch == st then s else (s.set URX.STATE_STATE st ch).set URX.STATUS_STATE_CHG 1 ch

/-- The nuller switched off with its vector kept: IDLE, not holding (R106, R114). -/
def State.rxIdle (s : State) (ch : Nat) : State :=
  ((s.setUrx ch { s.urxAt ch with everHeld := false, frozen := false }).set URX.STATE_NULL_READY 0 ch).setRst ch rxIDLE

/-- The vector of a chain replaced: coarse step and components (R110). -/
def State.setVec (s : State) (ch crs i q : Nat) : State :=
  ((s.set URX.CNV_CTRL_CRS crs ch).set URX.CNV_VEC_VEC_I i ch).set URX.CNV_VEC_VEC_Q q ch

/-- The square of a vector's magnitude, its components 12-bit two's complement (R109, R110). -/
def vecSq (i q : Nat) : Nat := (sint 12 i).natAbs ^ 2 + (sint 12 q).natAbs ^ 2

/-- The magnitude of a vector to the nearest code. -/
def vecMag (i q : Nat) : Nat := (Nat.sqrt (4 * vecSq i q) + 1) / 2

/-- The least `j` below 2^k with 10^j · x^2560 ≥ y^2560, found bit by bit from the highest: −j is 2,560 × log10(x / y) rounded down. -/
def dbSteps (x y k acc : Nat) : Nat :=
  match k with
  | 0 => acc
  | k + 1 => dbSteps x y k (if 10 ^ (acc + 2 ^ k - 1) * x < y then acc + 2 ^ k else acc)

/-- JAM of R110 in Q8.8 dBm: +10 dBm less 10 dB a coarse step, and the magnitude against 2,047, rounded down (assumption 50). -/
def jamOf (crs i q : Nat) : Int :=
  2560 - 2560 * (crs : Int) - (dbSteps (vecSq i q ^ 2560) ((2047 ^ 2) ^ 2560) 15 0 : Nat)

/-- JAM and DEPTH = JAM − RESID as the chain's vector and residual now give them (R110, R113). A vector of 0 cancels nothing, for
which the spec states no figure: the value is left open (assumption 3). -/
def State.jamReport (s : State) (ch : Nat) : State :=
  let i := s.get URX.CNV_VEC_VEC_I ch
  let q := s.get URX.CNV_VEC_VEC_Q ch
  let r := if vecSq i q == 0 then s.fresh else (unsignedOf 16 (jamOf (s.get URX.CNV_CTRL_CRS ch) i q), s)
  (r.2.set URX.JAM_VALUE r.1 ch).set URX.CNV_MON_DEPTH
    (unsignedOf 16 (sint 16 r.1 - sint 16 (s.get URX.CNV_MON_RESID ch))) ch

/-- The seed of R111: the cache entry for the channel where seeding is enabled and it is valid, else Fulling's vector
for the band group, whose coarse step the spec does not state (assumption 12). -/
def State.seedVec (s : State) (ch lo : Nat) : State :=
  let cached := (s.urxAt ch).seeds.find? fun e => e.1 == s.get RFS.FREQ_CHAN lo
  match s.on URX.CTRL_SEED_EN ch, cached with
  | true, some (_, crs, i, q) => s.setVec ch crs i q
  | _, _ =>
    let off := 0x1A0 + 64 * bandGroup (s.khz lo) + 4 * ch
    s.fresh.2.setVec ch (s.fresh.1 % 4) (s.cal16 off) (s.cal16 (off + 2))

/-- A ramp-up starts on a transmit chain of the sheaf: ACQUIRE, seeded (R106, R111). -/
def State.rxAcquire (s : State) (sh : Nat) : State :=
  s.forL (s.rxOf sh) fun ch t =>
    if t.rst ch == rxOFF then t else
      let t1 := t.setUrx ch { t.urxAt ch with everHeld := false, frozen := false, stopped := false, ovlStop := none }
      ((t1.seedVec ch (t.get SHF.COMP_LO_USED sh)).jamReport ch |>.set URX.STATE_NULL_READY 0 ch).setRst ch rxACQUIRE

/-- A ramp-down starts: the cache entry of a chain that holds takes the vector held at this moment; an excluded one keeps its entry
from before the loss (R111, R129). -/
def State.rxCache (s : State) (sh : Nat) : State :=
  s.forL (s.rxOf sh) fun ch t =>
    if t.on URX.STATE_NULL_READY ch && !t.on URX.STATE_EXCL ch then
      let k := t.get RFS.FREQ_CHAN (t.get SHF.COMP_LO_USED sh)
      let v := (t.get URX.CNV_CTRL_CRS ch, t.get URX.CNV_VEC_VEC_I ch, t.get URX.CNV_VEC_VEC_Q ch)
      t.setUrx ch { t.urxAt ch with seeds := Tab.ins (Tab.erase (t.urxAt ch).seeds k) k v }
    else t

/-- The last carrier of the sheaf has ramped down: its chains in ACQUIRE, TRACK or RX_CW return to IDLE (R106). -/
def State.rxCarrierGone (s : State) (sh : Nat) : State :=
  if (s.txOf sh).any fun c => s.carrier c then s else
    s.forL (s.rxOf sh) fun ch t =>
      if t.rst ch == rxACQUIRE || t.rst ch == rxTRACK || t.rst ch == rxCW then t.rxIdle ch else t

/-- The hold policy of R115. -/
def State.rxPolicy (s : State) (ch : Nat) : State :=
  let p := s.get URX.HOLD_CFG_POLICY
  if p == 0 then s
  else
    let s1 := (s.set URX.STATE_EXCL 1 ch).setUrx ch { s.urxAt ch with rejoined := false }
    if p == 2 then (s1.setUrx ch { s1.urxAt ch with stopped := true }).rxIdle ch else s1

/-- The highest code, no higher than GAIN, whose clip level stays 12 dB above the pre-window level (R120). -/
def agcGain (gain : Nat) (level : Int) : Nat :=
  (List.range (gain + 1)).foldl (fun (a g : Nat) => if level + 3072 ≤ (-40 + 6 * (7 - (g : Int))) * 256 then g else a) 0

/-- The applied gain of a window opening (R120). -/
def State.rxGain (s : State) (ch : Nat) (level : Nat) : State :=
  s.set URX.STATE_GAIN_APP (if s.on URX.CTRL_AGC ch then agcGain (s.get URX.CTRL_GAIN ch) (sint 16 level)
    else s.get URX.CTRL_GAIN ch) ch

/-- A chain is told that it lies in a window that opens: EXCL clears if it has regained its hold, and what it is now
stands for the window (R115). -/
def State.rxEnter (s : State) (ch : Nat) : State :=
  let s1 := if (s.urxAt ch).rejoined then s.set URX.STATE_EXCL 0 ch else s
  let u := s1.urxAt ch
  (s1.setUrx ch { u with
    rejoined := false, ovlNow := false, exclNow := s1.on URX.STATE_EXCL ch }).set URX.OVL_SUM_OVL
    (putBit (s1.get URX.OVL_SUM_OVL) ch false)

/-- Receive-ready with carrier on a sheaf (R76, R106, R114): a chain still in ACQUIRE that never held is late and meets
the policy, whose exclusion holds for the window that opens with it (assumption 50); a chain that STOP keeps in IDLE stays there. -/
def State.rxOpenCw (s : State) (sh : Nat) : State :=
  s.forL (s.rxOf sh) fun ch t =>
    let late := t.rst ch == rxACQUIRE && !(t.urxAt ch).everHeld
    let t0 := if t.rst ch == rxACQUIRE || t.rst ch == rxTRACK then t.setRst ch rxCW else t
    let t1 := t0.rxEnter ch
    let t2 := if late then
        let u := ((t1.set URX.STATUS_ACQ_LATE 1 ch).set URX.STATUS_HOLD_LOST 1 ch).rxPolicy ch
        u.setUrx ch { u.urxAt ch with exclNow := u.on URX.STATE_EXCL ch }
      else t1
    if t2.rst ch == rxCW then t2.rxGain ch (t2.get URX.CNV_MON_RESID ch) else t2

/-- A window opens without carrier of the sheaf's own: RX_FOREIGN, the CNV off with vector 0 (R106, R118). The foreign carrier's
level before it is measured, so open (R120, assumption 3). A chain that STOP keeps in IDLE stays there (R115). -/
def State.rxOpenForeign (s : State) (sh : Nat) : State :=
  s.forL (s.rxOf sh) fun ch t =>
    if t.rst ch == rxOFF || (t.urxAt ch).stopped then t else
      let t1 := ((t.setRst ch rxFOREIGN).setVec ch 0 0 0).rxEnter ch
      let t2 := t1.set URX.STATE_COAST (b2n (t.sst (t.get SHF.COMP_LO_USED sh) == synCOAST)) ch
      t2.fresh.2.rxGain ch t2.fresh.1

/-- The window without carrier closes (R106). -/
def State.rxCloseForeign (s : State) (sh : Nat) : State :=
  s.forL (s.rxOf sh) fun ch t => if t.rst ch == rxFOREIGN then t.rxIdle ch else t

/-- The chains listening on a coasting synthesizer mark it (R119). -/
def State.rxCoast (s : State) (m : Nat) : State :=
  s.forN 4 fun sh t =>
    if t.on SHF.LEASE_STATE_HELD sh && t.get SHF.COMP_LO_USED sh == m then
      t.forL (t.rxOf sh) fun ch u => if u.rst ch == rxFOREIGN then u.set URX.STATE_COAST 1 ch else u
    else t

/-- COAST clears at the next LOCK of the synthesizer (R119). -/
def State.rxCoastEnd (s : State) (m : Nat) : State :=
  s.forN 16 fun ch t => if t.get URX.STATE_LO_SRC ch == m then t.set URX.STATE_COAST 0 ch else t

/-- The seed cache of a chain invalidated in whole (R111). -/
def State.rxForget (s : State) (ch : Nat) : State := s.setUrx ch { s.urxAt ch with seeds := [] }

/-- A receive chain bound to sheaf `sh` on synthesizer `lo`; a change of sheaf empties its seed cache (R105, R111) and ends a STOP.
A lease that ends leaves SHEAF and LO_SRC as they are, and a new lease by the same sheaf is no change (assumption 50). -/
def State.rxBind (s : State) (ch sh lo : Nat) : State :=
  let s1 := if s.get URX.STATE_SHEAF ch == sh then s
    else (s.rxForget ch).setUrx ch { (s.rxForget ch).urxAt ch with stopped := false }
  (s1.set URX.STATE_SHEAF sh ch).set URX.STATE_LO_SRC lo ch

/-- The frame engine of a sheaf abandons what it is doing: the frame on air is truncated, a held frame is dropped, an
open window closes without a decision (R157, R183, R206). -/
def State.engAbort (s : State) (sh : Nat) : State :=
  let s1 := s.setEng sh { s.engAt sh with
    sending := none, held := none, taRunning := false, taExpired := false, afterFrame := none
    minGap := (s.engAt sh).minGap || (s.engAt sh).sending.isSome
    window := none, preamble := false }
  s1.forL (s1.rxOf sh) fun ch t => t.setUrx ch { t.urxAt ch with frozen := false }

end Sys2Proof.Machine
end

