-- ==== Sys2Proof/Machine/UtxOps.lean ====
section
/-! DEFINITION. Ramps, carrier grants and requests of the transmit chains, and the synthesizers that feed them: what the
commands of UTX, RFS and RGE share. -/

namespace Sys2Proof.Machine

open Sys2Proof

/-! ### The enforcer's log and answers (R142 to R145) -/

/-- An entry of the enforcer's 16-entry ring; a full ring loses its oldest (R144). -/
def State.rgeLog (s : State) (code n : Nat) (chan : Option Nat) : State :=
  let e : RgeEntry := { code := code, chain := n, chan := chan.getD 0 % 64, angle := s.atb.angle, cycle := s.atb.cycle }
  if s.rge.log.length < 16 then { s with rge.log := s.rge.log ++ [e] }
  else ({ s with rge.log := s.rge.log.drop 1 ++ [e] } : State).set RGE.STATUS_LOG_OVR 1

/-- The channel granted to chain `n`, or else the one its synthesizer word matches. -/
def State.grantChan (s : State) (n : Nat) : Option Nat :=
  if s.bit RGE.STATE_GRANT n then some (Tab.get 0 s.rge.granted n) else s.chanNow n

/-- The last deny or violation code of a chain (CHAIN_INFO). -/
def State.rgeLast (s : State) (n code : Nat) : State :=
  { s with rge.lastCode := Tab.set 0 s.rge.lastCode n code }

/-- A chain's grant ends. -/
def State.endGrant (s : State) (n : Nat) : State := s.setBit RGE.STATE_GRANT n false

/-- The chain is told that the enforcer refuses or withdraws carrier (R142, R145). -/
def State.utxDeny (s : State) (n : Nat) : State :=
  ((s.noteErr n errRGE_DENY).set UTX.STATUS_RGE_DENY 1 n).bump UTX.CNT_DENY_COUNT UTX.STATUS_SAT n

/-- A refused grant in the enforcer's own registers: logged and counted (R142). -/
def State.rgeRefuse (s : State) (n code : Nat) : State :=
  (((s.rgeLog code n (s.chanNow n)).rgeLast n code).bump RGE.CNT_DENY_COUNT RGE.STATUS_SAT).set RGE.STATUS_DENY 1

/-- A denial: logged, counted, and nothing else; the request fails in READY (R142). -/
def State.rgeDeny (s : State) (n code : Nat) : State :=
  let s2 := (s.rgeRefuse n code).utxDeny n
  ((s2.setUtx n { s2.utxAt n with want := none, grantAsked := false }).endWait n).utxReport n errRGE_DENY

/-- The pre-grant of a chain is dropped (R138, R151). -/
def State.unPre (s : State) (n : Nat) : State := s.setBit RGE.STATE_PREGRANT n false

/-- A request or pre-grant that no longer stands is given up. -/
def State.giveUp (s : State) (n : Nat) : State :=
  (s.setUtx n { s.utxAt n with grantAsked := false }).unPre n

/-! ### Ramps (R90, R95, R96) -/

/-- The number of entries of a section: 120 normal, 10 fast (R95). -/
def rampLen (fast : Bool) : Nat := if fast then 10 else 120

/-- Entry `i` of a section of the ramp table (R95). -/
def rampEntry (t : List Nat) (fast : Bool) (i : Nat) : Nat := le16 t ((if fast then 256 else 16) + 2 * i)

/-- The entry that a ramp has reached at time `now`; a ramp plays one entry each 60 CLK_DSP cycles, 0.25 µs (R95). -/
def rampPos (r : Ramp) (now : Nat) : Nat :=
  if r.up then min (rampLen r.fast - 1) (r.pos + (now - r.since) / 60) else r.pos - (now - r.since) / 60

/-- The amplitude that a ramp has reached: `f` of the 60 cycles of an entry have passed on the way to the next, which is
interpolated linearly (R95). -/
def rampValue (t : List Nat) (r : Ramp) (now : Nat) : Nat :=
  let i := rampPos r now
  let f := (now - r.since) % 60
  let a := rampEntry t r.fast i
  let b := rampEntry t r.fast (if r.up then min (rampLen r.fast - 1) (i + 1) else i - 1)
  (a * (60 - f) + b * f) / 60

/-- The present amplitude of a chain's carrier as a fraction of 0xFFFF. -/
def State.amplitude (s : State) (n : Nat) : Nat :=
  match (s.utxAt n).ramp with
  | some r => rampValue (s.rampTable.getD []) r s.now
  | none => 0xFFFF

/-- The highest entry of a section that does not exceed an amplitude (R96). -/
def rampFrom (t : List Nat) (fast : Bool) (amp : Nat) : Nat :=
  (List.range (rampLen fast)).foldl (fun a i => if rampEntry t fast i ≤ amp then i else a) 0

/-- A ramp-up starts: the chain is in CW with RAMP set, PA_EN follows its entry's PA_USE, the receive chains of its
sheaf acquire (R68, R90, R95, R106; assumption 13). -/
def State.rampUp (s : State) (n : Nat) : State :=
  let t := (s.powerTable n (bandGroup (s.khz (s.loOf n)))).getD []
  let s1 := (((s.setUtx n { s.utxAt n with
      ramp := some { up := true, fast := false, pos := 0, since := s.now }, grantAsked := false }).endWait n).setUst n
    txCW)
  let s2 := ((s1.set UTX.STATE_CARRIER 1 n).set UTX.STATE_RAMP 1 n).set UTX.PA_PA_EN
    (b2n (entUse t (s.get UTX.PWR_EFF_IDX n))) n
  let s3 := { s2 with rge.onTime := Tab.set 0 s2.rge.onTime n s.now }
  match s.chainSheaf n with
  | some sh => s3.rxAcquire sh
  | none => s3

/-- Another chain of sheaf `sh` than `n` still carries the frame on air, or with none on air still holds a steady carrier. -/
def State.othersOn (s : State) (sh n : Nat) : Bool :=
  (s.txOf sh).any fun c => c != n && s.carrier c && (s.utxAt c).ramp.isNone &&
    (s.ust c == txMOD || (s.engAt sh).sending.isNone)

/-- A chain that carries begins to ramp down, with `u` for its own state. -/
def State.rampDownFrom (s : State) (n : Nat) (u : UtxChain) : State :=
  let s1 := (s.setUtx n { u with steerHeld := none }).set UTX.STATE_RAMP 1 n
  let s2 := if s.ust n == txMOD then s1.setUst n txCW else s1
  match s.chainSheaf n with
  | some sh => if s.othersOn sh n then s2.rxCache sh else (s2.rxCache sh).engAbort sh
  | none => s2

/-- A ramp-down starts, or one under way is made faster (R96, R100): the vectors held are cached, the chain's frame is truncated
and its window closes, which ends the frame or window of the sheaf unless another of its chains goes on with it (R71, R111, R145,
R183). `dest` is the state it ends in and `err` the error that a pending request then takes. -/
def State.rampDown (s : State) (n : Nat) (fast : Bool) (dest err : Nat) : State :=
  if !s.carrier n then s else
  let u := s.utxAt n
  let pos := rampFrom (s.rampTable.getD []) fast (s.amplitude n)
  let start : Ramp := { up := false, fast := fast, pos := pos, since := s.now }
  let err' := if err == 0 then u.downErr else err
  match u.ramp with
  | some r =>
    if r.up then s.rampDownFrom n { u with ramp := some start, downTo := dest, downErr := err' }
    else s.setUtx n { u with
      ramp := if fast && !r.fast then some start else some r, downTo := min u.downTo dest, downErr := err' }
  | none => s.rampDownFrom n { u with ramp := some start, downTo := dest, downErr := err' }

/-- The enforcer withdraws a grant: the chain ramps down on the section named (R142, R145, R146). -/
def State.withdraw (s : State) (n : Nat) (fast : Bool) : State :=
  ((s.endGrant n).utxDeny n).rampDown n fast txREADY errRGE_DENY

/-! ### The grant decision (R138) -/

/-- The slots prepared and not yet started of chain `n`, as a mask. -/
def State.preppedOf (s : State) (n : Nat) : Nat := Tab.get 0 s.rge.prepped n

/-- Occupancy of channel `c` in the window, in 10 µs units: the current bin and the 64 before it (R141). -/
def State.occUnits (s : State) (c : Nat) : Nat := (Tab.get [] s.rge.occ c).foldl (· + ·) 0

/-- Duty of chain `n` in the window, in 10 µs units (R141). -/
def State.dutyUnits (s : State) (n : Nat) : Nat := (Tab.get [] s.rge.duty n).foldl (· + ·) 0

/-- The duty figure of a chain in 0.1 % of the window, DUTY_WIN in 100 ms units (R141). -/
def State.dutyPermil (s : State) (n : Nat) : Nat := s.dutyUnits n / (10 * max 1 (le16 s.rge.profile 36))

/-- The receive chains of the sheaf that chain `n` belongs to. -/
def State.sheafRx (s : State) (n : Nat) : Nat :=
  match s.chainSheaf n with
  | some sh => s.get SHF.COMP_RXMASK sh
  | none => 0

/-- The checks of R138 before LBT: 0 or a deny code. `pre` stands for a request made between SLOT_PREP and START. -/
def State.rgeCheck (s : State) (n : Nat) (pre : Bool) : Nat :=
  let khz := s.khz (s.loOf n)
  let test := s.on RGE.CTRL_TESTWIN && s.get SYS.LC_STATE == 1
  let i := max (s.get UTX.PWR_EFF_IDX n) (s.ceilOf (s.chanNow n))
  if !s.on RGE.CTRL_RF_EN then 13
  else if !s.profOk then 9
  else if s.on RGE.STATE_QUIET_LATCH then 12
  else if s.on RGE.STATE_KILL_ACTIVE then 11
  else if s.bit RGE.STATE_HOLD n then 10
  else if !(pre || s.bit RGE.STATE_WINDOW n || test) then 2
  else match s.chanNow n with
    | none => 1
    | some c =>
      if khz < le32 s.rge.profile 20 || le32 s.rge.profile 24 < khz then 1
      else if (s.rampTable.map fun t => crc32c (t.drop 16)) != some (le32 s.rge.profile 48) then 8
      else match s.expectAt n khz i with
        | none => 7
        | some e =>
          if s.ceilDbm c - (s.get RGE.GUARD_GUARD : Nat) < e then 7
          else if s.profFlag 2 && le16 s.rge.profile 28 * 100 ≤ s.occUnits c then 5
          else if s.profFlag 3 && le16 s.rge.profile 34 ≤ s.dutyPermil n then 6
          else if s.profFlag 1 && s.sheafRx n == 0 then 4
          else 0

/-- The grant given: the channel is held with it, and the ramp begins (R138). A request the chain has given up meanwhile
gets nothing. -/
def State.rgeGrant (s : State) (n : Nat) : State :=
  let s1 := ({ s with rge.granted := Tab.set 0 s.rge.granted n ((s.chanNow n).getD 0) } : State).setBit
    RGE.STATE_GRANT n true
  s1.rampUp n

/-- A ramp-up that may not start yet, for the antenna switch has not settled: the request waits, and is made again (R159). -/
def State.antHold (s : State) (n : Nat) : State := (s.giveUp n).set UTX.STATE_WAIT 1 n

/-- A request decided: a wait for the antenna, a denial, a grant, or an LBT measurement that LBT_DECISION ends (R138, R159). -/
def State.rgeDecide (s : State) (n : Nat) : State :=
  let code := s.rgeCheck n false
  if (s.utxAt n).antSettling then s.antHold n
  else if code != 0 then s.rgeDeny n code
  else if s.profFlag 1 then s
  else s.rgeGrant n

/-- A chain requests a grant. Between SLOT_PREP and START of a slot of the chain the request is checked at once, shown in
PREGRANT, and decided at START; otherwise it is decided now (R138). -/
def State.rgeRequest (s : State) (n : Nat) : State :=
  let s1 := s.setUtx n { s.utxAt n with grantAsked := true }
  if !s.bit RGE.STATE_WINDOW n && s.preppedOf n != 0 then
    s1.setBit RGE.STATE_PREGRANT n (s.rgeCheck n true == 0)
  else s1.rgeDecide n

/-! ### Requests for a chain state (R70, R71, R84) -/

/-- A lock of synthesizer `m` is under way: its power-up, search or settle, or a calibration, which a re-lock ends (R78, R81). -/
def State.synLocking (s : State) (m : Nat) : Bool :=
  s.sst m == synSEARCH || s.sst m == synSETTLE || s.sst m == synCAL || (s.synthAt m).bootFull.isSome

/-- In READY with a request that needs a ramp or a window: the conditions of R84, R159 and R471 (a CW request on bypass is
refused), then the grant. -/
def State.utxKey (s : State) (n want : Nat) : State :=
  let st := s.sst (s.loOf n)
  if st == synCOAST || (want == txCW && s.on CLK.STATE_ON_BYPASS) then s.utxFail n errLOL
  else if st != synLOCKED then
    if s.synLocking (s.loOf n) then s.set UTX.STATE_WAIT 1 n
    else s.utxFail n errSYNTH_NOT_READY
  else if !s.supplyOk then s.set UTX.STATE_WAIT 1 n
  else if want == txCW && (s.utxAt n).antSettling then s.set UTX.STATE_WAIT 1 n
  else if want == txLISTEN then s.endWait n
  else if (s.utxAt n).grantAsked then s
  else if s.rampTable.isNone || (s.powerTable n (bandGroup (s.khz (s.loOf n)))).isNone then s.utxFail n errTABLE_INVALID
  else (s.endWait n).rgeRequest n

/-- The synthesizer of an unused leader, powered neither by a command, a lease nor a chain above OFF, is off; one that is
wanted is at least in IDLE (R69, R78, R97, R98, R158). -/
def State.rfsPower (s : State) (m : Nat) : State :=
  let wanted := !s.isMember m && ((s.synthAt m).byCommand || (s.synthSheaf m).isSome ||
    (s.fed m).any fun c => s.ust c != txOFF)
  if wanted then
    if s.sst m == synOFF then s.set RFS.STATE_STATE synIDLE m else s
  else ((s.setSynth m { s.synthAt m with bootFull := none, settleAt := none, relock := false }).set RFS.STATE_STATE synOFF m).set
    RFS.STATE_CAL_PENDING 0 m

/-- OFF reached: a synthesizer that a command powered goes off once its chain is requested into OFF with no fed chain
above OFF (R78). -/
def State.rfsRelease (s : State) (m : Nat) : State :=
  let s1 := if (s.fed m).all fun c => s.ust c == txOFF then s.setSynth m { s.synthAt m with byCommand := false } else s
  s1.rfsPower m

/-- The requested state is reached. -/
def State.utxReached (s : State) (n : Nat) : State :=
  let u := s.utxAt n
  let s1 := ((s.setUtx n { u with want := none, biasUp := u.biasUp && s.ust n != txOFF }).endWait n).utxReport n 0
  if s.ust n == txOFF then s1.rfsRelease n else s1

/-- An open reply window closes without a decision, and the nullers go on tracking (R69, R112). -/
def State.windowShut (s : State) (sh : Nat) : State :=
  if (s.engAt sh).window.isNone then s
  else
    let s1 := s.setEng sh { s.engAt sh with window := none, preamble := false }
    s1.forL (s1.rxOf sh) fun ch t => t.setUrx ch { t.urxAt ch with frozen := false }

/-- A window opened or closed by a chain's move into or out of LISTEN (R69, R72): it opens with carrier where any chain of the sheaf
carries (R106), and closes once no other chain of the sheaf listens. A chain that no lease holds has no receive chains of its own, and opens a window on none (assumption 49). -/
def State.utxWindow (s : State) (n : Nat) (isOpen : Bool) : State :=
  match s.chainSheaf n with
  | some sh =>
    let carries := (s.txOf sh).any fun c => s.carrier c
    if isOpen then (if carries then s.rxOpenCw sh else s.rxOpenForeign sh)
    else if (s.txOf sh).any fun c => c != n && s.ust c == txLISTEN then s
    else if carries then s.windowShut sh
    else s.rxCloseForeign sh
  | none => s

/-- A request above STANDBY goes on: READY with the synthesizer locked, a wait while it locks, a failure in COAST, in IDLE and in
OFF (R71, R84; assumption 49). -/
def State.utxStandby (s : State) (n : Nat) : State :=
  let st := s.sst (s.loOf n)
  if st == synLOCKED then ((s.setUst n txREADY).endWait n).refreshPwr n
  else if st == synCOAST then s.utxFail n errLOL
  else if s.synLocking (s.loOf n) then s.set UTX.STATE_WAIT 1 n
  else s.utxFail n errSYNTH_NOT_READY

/-- A request carried on through the intermediate states as far as it goes now (R70, R71, R100). A chain in READY leaves it downwards
only once a calibration's re-lock has ended (R81). `fuel` bounds the number
of states passed through; eight exceed the longest path. -/
def State.utxProgress (s : State) (fuel n : Nat) : State :=
  match fuel with
  | 0 => s
  | fuel + 1 =>
    let u := s.utxAt n
    match u.want with
    | none => s
    | some w =>
      let st := s.ust n
      match u.ramp with
      | some r => if r.up && w < txCW then s.rampDown n false txREADY 0 else s
      | none =>
        if st == txMOD then (if w < txCW then s.rampDown n false txREADY 0 else s)
        else if s.carrier n then
          if w == st then s.utxReached n
          else if w == txCW || w == txLISTEN then
            (((s.setUst n w).utxWindow n (w == txLISTEN))).utxProgress fuel n
          else s.rampDown n false txREADY 0
        else if w == st then s.utxReached n
        else if st == txLISTEN then
          ((((s.utxWindow n false).setUtx n { u with lolListen := false }).setUst n
            (if u.lolListen then txSTANDBY else txREADY)).refreshPwr n).utxProgress fuel n
        else if st == txREADY then
          if w < txREADY then (if (s.synthAt (s.loOf n)).relock then s else (s.setUst n txSTANDBY).utxProgress fuel n)
          else
            let s1 := s.utxKey n w
            if w == txLISTEN && !s1.on UTX.STATE_WAIT n && (s1.utxAt n).want == some w then
              ((s1.setUst n txLISTEN).utxWindow n true).utxProgress fuel n
            else s1
        else if st == txSTANDBY then
          if w == txOFF then ((s.setUst n txOFF).rfsPower (s.loOf n)).utxProgress fuel n
          else
            let s1 := s.utxStandby n
            if s1.ust n == txREADY then s1.utxProgress fuel n else s1
        else if u.biasUp then s
        else s.setUtx n { u with biasUp := true }

/-- A request for state `w` by a master that may make it (R71, R72). A request for anything but CW gives up a grant still
asked for. -/
def State.utxRequest (s : State) (n w : Nat) : State :=
  let s1 := (s.setUtx n { s.utxAt n with want := some w, downErr := 0 }).endWait n
  (if w == txCW then s1 else s1.giveUp n).utxProgress 8 n

/-- The chain is brought down and left in READY at the end of its lease (R157). -/
def State.forceDown (s : State) (n : Nat) (fast : Bool) : State :=
  let u := s.utxAt n
  let s1 := ((s.setUtx n { u with want := none, rqs := false }).giveUp n).endWait n
  if s.carrier n then s1.rampDown n fast txREADY 0
  else if s.ust n == txLISTEN then
    ((s1.utxWindow n false).setUtx n { s1.utxAt n with lolListen := false }).setUst n
      (if u.lolListen then txSTANDBY else txREADY)
  else s1

/-! ### Synthesizers (R77 to R83) -/

/-- A lock accepted: the word in force is applied, hinted where R78 allows, and the search begins: three steps of 10 µs
hinted, six otherwise, after which the analogue settle follows. -/
def State.rfsSearch (s : State) (m : Nat) (full : Bool) : State :=
  let h := s.calByte (hintOff m (s.get RFS.FREQ_CHAN m) (s.get RFS.STATE_TBIN m))
  let hinted := s.on RFS.CTRL_HINT_EN m && !full && 128 ≤ h
  let at_ := some (s.now + (if hinted then 7200 else 14400))
  ((s.setSynth m { s.synthAt m with applied := s.get RFS.FREQ_KHZ m, settleAt := at_, bootFull := none }).set RFS.STATE_HINT_USED
    (b2n hinted) m).set RFS.STATE_STATE synSEARCH m

/-- A synthesizer in OFF is powered up by a command, and locks once it reaches IDLE, within 200 µs (R78). -/
def State.rfsBoot (s : State) (m : Nat) (full : Bool) : State :=
  s.setSynth m { s.synthAt m with byCommand := true, bootFull := some full, settleAt := some (s.now + 48000) }

/-- LOCK or FULL on synthesizer `m` by a master that may command it (R77, R78, R81, R84, R97). -/
def State.rfsLock (s : State) (m : Nat) (full : Bool) : State :=
  let carrying := (s.fed m).filter fun c => s.carrier c
  if s.isMember m then (s.set RFS.STATUS_REFUSED 1 m).lockAnswer m errBAD_STATE
  else if s.sst m == synCAL then s
  else if carrying != [] then
    ((s.set RFS.STATUS_REFUSED 1 m).forL carrying fun c t => t.utxRefuse c errBAD_STATE).lockAnswer m errBAD_STATE
  else if s.get RFS.FREQ_KHZ m < 840000 || 960000 < s.get RFS.FREQ_KHZ m then
    (s.set RFS.STATUS_RANGE_ERR 1 m).lockAnswer m errBAD_STATE
  else if s.sst m == synOFF || (s.synthAt m).bootFull.isSome then s.rfsBoot m full
  else s.rfsSearch m full

/-- The chains fed by a synthesizer go on with what they were waiting for (R84, R98). -/
def State.rfsWake (s : State) (m : Nat) : State :=
  s.forL (s.fed m) fun c t => (t.refreshPwr c).utxProgress 8 c

/-- A temperature calibration of `m` is due (R81). -/
def State.tcalDue (s : State) (m : Nat) : Bool :=
  let d := if s.get RFS.CTRL_TDELTA m == 0 then 1 else s.get RFS.CTRL_TDELTA m
  let t := s.get RFS.TEMP_CAL_TEMP m
  s.on RFS.CTRL_AUTO_TCAL m &&
    (t == 0x8000 || 8 * d ≤ (sint 16 (s.get RFS.TEMP_TEMP m) - sint 16 t).natAbs)

/-- A calibration may start: no lock under way, no fed chain in CW, MOD or LISTEN, none waiting under R84 (R81). -/
def State.calFree (s : State) (m : Nat) : Bool :=
  !s.synLocking m && s.sst m != synOFF &&
    (s.fed m).all fun c => !s.inUse c && !s.on UTX.STATE_WAIT c

end Sys2Proof.Machine
end

