-- ==== Sys2Proof/Machine/Plan.lean ====
section
/-! DEFINITION. Slot plans: the fields of a slot entry (R52), the two banks, when a slot is due, and the checks that ARM
makes (R54, R55). -/

namespace Sys2Proof.Machine

/-- Word `w` of slot `k` in a bank. -/
def slotWord (bank : Tab Nat) (k w : Nat) : Nat := Tab.get 0 bank (4 * k + w)

/-- The four words of slot `k`. -/
def slotWords (bank : Tab Nat) (k : Nat) : List Nat := (List.range 4).map fun w => slotWord bank k w

def slStart (e : List Nat) : Nat := bits (e.getD 0 0) 15 0

/-- END, exclusive; a stored 0 means 65,536 (R52). -/
def slEnd (e : List Nat) : Nat := if bits (e.getD 0 0) 31 16 == 0 then 65536 else bits (e.getD 0 0) 31 16
def slRole (e : List Nat) : Nat := bits (e.getD 1 0) 31 30
def slChan (e : List Nat) : Nat := bits (e.getD 1 0) 29 24
def slCeil (e : List Nat) : Nat := bits (e.getD 1 0) 22 16
def slSheaf (e : List Nat) : Nat := bits (e.getD 1 0) 15 14
def slTxmask (e : List Nat) : Nat := bits (e.getD 1 0) 13 10
def slPeriod (e : List Nat) : Nat := bits (e.getD 1 0) 9 8
def slPhase (e : List Nat) : Nat := bits (e.getD 1 0) 7 5
def slRxmask (e : List Nat) : Nat := bits (e.getD 2 0) 31 16
def slEntry (e : List Nat) : Nat := bits (e.getD 2 0) 15 0
def slPeer (e : List Nat) : Nat := bits (e.getD 3 0) 31 20
def slTag (e : List Nat) : Nat := bits (e.getD 3 0) 15 0

/-- Roles of R52. -/
def roleIDLE : Nat := 0
def roleIL : Nat := 1
def roleILLUM : Nat := 2
def roleLISTEN : Nat := 3

/-- The role carries carrier (R61). -/
def slCarries (e : List Nat) : Bool := slRole e == roleIL || slRole e == roleILLUM

/-- The role receives (R161). -/
def slReceives (e : List Nat) : Bool := slRole e == roleIL || slRole e == roleLISTEN

/-- `a` lies strictly after `b` under the half-range rule (R50). -/
def cycAfter (a b : Nat) : Bool :=
  let d := (a + (4294967296 - b % 4294967296)) % 4294967296
  d != 0 && d < 2147483648

/-- A slot is due in a cycle (R59). -/
def slDue (e : List Nat) (cycle : Nat) : Bool := slRole e != roleIDLE && cycle % 2 ^ slPeriod e == slPhase e

/-- The number of the cycle after the present one, an adjustment armed for its boundary included (R48, R57). -/
def State.nextCycle (s : State) : Nat :=
  (s.atb.cycle + 1 + (if s.atb.adjArmed then s.get ATB.CYCLE_ADJ_DELTA else 0)) % 4294967296

/-- The pending plan will be active in the next cycle (R57, R58). -/
def State.swapNext (s : State) : Bool :=
  s.on ATB.PLAN_CTRL_ARMED && !cycAfter (s.get ATB.PLAN_ACT_ACT_CYCLE) s.nextCycle

/-- Bank and slot count of the plan active in the present cycle, or with `ahead` in the next. -/
def State.planFor (s : State) (ahead : Bool) : Tab Nat × Nat :=
  if ahead && s.swapNext then (s.atb.pendWords, s.get ATB.PLAN_CTRL_SLOTS) else (s.atb.actWords, s.atb.actSlots)

/-- Radio slots are suppressed in the present state (R41, R42, R62). -/
def State.suppressed (s : State) : Bool :=
  let st := s.get ATB.STATE_STATE
  if s.on ATB.CTRL_STANDALONE then st == 0
  else !(st == 2 || st == 4 || (st == 3 && s.on ATB.CTRL_SRC)) || !s.on ATB.STATE_CYCLE_VALID

/-- 1 + the index of the slot that runs on a sheaf; 0 for none. -/
def State.runningSlot (s : State) (sh : Nat) : Nat := Tab.get 0 s.atb.running sh

/-- The slot entry that a lease of sheaf `sh` for slot `k` takes, and whether it is running: it runs now, or it starts
within the next 65,536 au, in this cycle or the next (R154, R156 NO_SLOT). -/
def State.leaseSlot (s : State) (sh k : Nat) : Option (List Nat × Bool) :=
  let here := slotWords s.atb.actWords k
  let next := s.planFor true
  let there := slotWords next.1 k
  if s.get ATB.STATE_STATE == 0 then none
  else if s.runningSlot sh == k + 1 then some (here, true)
  else if k < s.atb.actSlots && slSheaf here == sh && slDue here s.atb.cycle && s.atb.angle ≤ slStart here &&
      Tab.get 0 s.atb.slotStart k != s.atb.cycle + 1 then some (here, false)
  else if k < next.2 && slSheaf there == sh && slDue there s.nextCycle && slStart there ≤ s.atb.angle then
    some (there, false)
  else none

/-! ### The checks of R55 -/

/-- Two slots overlap in time. -/
def slOverlap (a b : List Nat) : Bool := decide (slStart a < slEnd b) && decide (slStart b < slEnd a)

/-- The minimum gap between consecutive slots of one sheaf (R54). -/
def slGap (a b : List Nat) : Nat :=
  if slChan a != slChan b then 480
  else if slRole a != slRole b || slTxmask a != slTxmask b || slRxmask a != slRxmask b then 160
  else 0

/-- Some pair of a list, earlier member first, satisfies `p`. -/
def anyPair {α : Type} (p : α → α → Bool) (l : List α) : Bool :=
  match l with
  | [] => false
  | x :: r => r.any (p x) || anyPair p r

/-- Some neighbouring pair of a list satisfies `p`. -/
def anyNext {α : Type} (p : α → α → Bool) (l : List α) : Bool :=
  match l with
  | [] => false
  | [_] => false
  | x :: y :: r => p x y || anyNext p (y :: r)

/-- A gap of R54 is too short among the non-IDLE slots of one sheaf, the gap across the boundary included. -/
def gapShort (l : List (List Nat)) : Bool :=
  anyNext (fun a b => decide (slStart b < slEnd a + slGap a b)) l ||
    (match l.head?, l.getLast? with
     | some f, some z => decide (65536 + slStart f < slEnd z + slGap z f)
     | _, _ => false)

/-- ROLE_MASK fails for a slot (R55). -/
def roleMaskBad (e : List Nat) : Bool :=
  (slCarries e && slTxmask e == 0) || (slRole e == roleLISTEN && slTxmask e != 0) || (slReceives e && slRxmask e == 0)

/-- The first failing check of R55 among the codes other than BUSY, for `n` slots of the pending bank activating in
`act`; 0 where none fails. `site` says whether the object path's SITE check fails. -/
def State.planCheck (s : State) (n act : Nat) (site : Bool) : Nat :=
  let all := (List.range n).map fun k => slotWords s.atb.pendWords k
  let run := all.filter fun e => slRole e != roleIDLE
  let cross := fun (p : List Nat → List Nat → Bool) =>
    anyPair (fun a b => slSheaf a != slSheaf b && slOverlap a b && p a b) run
  if 32 < n then 1
  else if all.any fun e => decide (slEnd e ≤ slStart e) then 2
  else if anyNext (fun a b => decide (slStart b < slStart a)) all then 3
  else if anyPair (fun a b => slSheaf a == slSheaf b && slOverlap a b) run then 4
  else if (List.range 4).any fun sh => gapShort (run.filter fun e => slSheaf e == sh) then 5
  else if cross fun a b => (slTxmask a).land (slTxmask b) != 0 then 6
  else if cross fun a b => (slRxmask a).land (slRxmask b) != 0 then 7
  else if run.any roleMaskBad then 8
  else if run.any fun e => decide (s.nchan ≤ slChan e) then 9
  else if !s.profFlag 0 && run.any fun e => slRole e == roleLISTEN then 10
  else if run.any fun e => slEntry e % 4 != 0 || decide (0x8000 ≤ slEntry e) then 11
  else if all.any fun e => decide (2 ^ slPeriod e ≤ slPhase e) then 12
  else if !cycAfter act s.atb.cycle then 13
  else if site then 15
  else 0

end Sys2Proof.Machine
end

