-- ==== Sys2Proof/Machine/ClkOps.lean ====
section
/-! DEFINITION. Clock spreading and its suspension by leases (R475 to R477). -/

namespace Sys2Proof.Machine

/-- The body of the default spur-exclusion table (R477): two entries, both naming CPU and BUS. -/
def spurDefault : List Nat :=
  [2, 0, 0, 0] ++ toLe 4 840000 ++ toLe 4 (841000 + 3 * 2 ^ 20) ++ toLe 4 950000 ++ toLe 4 (960000 + 3 * 2 ^ 20)

/-- The body of the spur-exclusion table in force (object 0x3160). -/
def State.spurBody (s : State) : List Nat :=
  match Tab.get none s.objs 0x316000 with
  | some t => t.drop 16
  | none => spurDefault

/-- The entries that a channel frequency lies in, with the clocks that each names: bit 0 CPU, bit 1 BUS. -/
def State.spurHits (s : State) (khz : Nat) : List (Nat × Nat) :=
  let b := s.spurBody
  ((List.range (byteAt b 0)).filter fun e =>
    decide (le32 b (4 + 8 * e) % 2 ^ 20 ≤ khz) && decide (khz ≤ le32 b (8 + 8 * e) % 2 ^ 20)).map fun e =>
      (e, bits (le32 b (8 + 8 * e)) 21 20)

/-- The clocks whose spreading some lease suspends. -/
def State.spurSusp (s : State) : Nat :=
  (List.range 4).foldl (fun a sh => a.lor (s.sheafAt sh).spurMask) 0

/-- SS_ACTIVE, SS_SUSP and SPUR_CUR brought up to date; a suspension that begins is counted (R476). -/
def State.clkSpread (s : State) : State :=
  let m := s.spurSusp
  let run := fun (f : Fld) (k : Nat) => s.on f && !bitOf m k
  let active := s.on CLK.CTRL_SS && !s.on CLK.STATE_ON_BYPASS && (run CLK.CTRL_SS_CPU 0 || run CLK.CTRL_SS_BUS 1)
  let hits := (List.range 4).filterMap fun sh => (s.sheafAt sh).spurEntry
  let s1 := if m != 0 && !s.on CLK.STATE_SS_SUSP then s.bump CLK.CNT_SUSP_COUNT CLK.STATUS_SAT else s
  (((s1.set CLK.STATE_SS_SUSP (b2n (m != 0))).set CLK.STATE_SS_ACTIVE (b2n active)).set CLK.SPUR_CUR_MATCH
    (b2n (hits != []))).set CLK.SPUR_CUR_ENTRY (hits.foldl min 31 % (if hits == [] then 1 else 32))

/-- A lease on sheaf `sh` with a role that receives on channel frequency `khz` begins (R476). -/
def State.spurLease (s : State) (sh khz : Nat) (receives : Bool) : State :=
  let hits := if receives then s.spurHits khz else []
  let mask := if s.on CLK.CTRL_SPUR_EN then hits.foldl (fun a h => a.lor h.2) 0 else 0
  (s.setSheaf sh { s.sheafAt sh with spurMask := mask, spurEntry := hits.head?.map (·.1) }).clkSpread

/-- The lease on sheaf `sh` ends (R476). -/
def State.spurFree (s : State) (sh : Nat) : State :=
  (s.setSheaf sh { s.sheafAt sh with spurMask := 0, spurEntry := none }).clkSpread

end Sys2Proof.Machine
end

