-- ==== Sys2Proof/Machine/Que.lean ====
section
/-! DEFINITION. The queues QUE0 to QUE15: their operations and the commands that reach them. -/

namespace Sys2Proof.Machine

open Sys2Proof

/-- The words of a queue, head first. -/
def State.queWords (s : State) (q : Nat) : List Nat := Tab.get [] s.que q

/-- A queue's words replaced, with the watermark events of R454 for the crossing that this makes. -/
def State.queSet (s : State) (q : Nat) (w : List Nat) : State :=
  let wm := s.get QUE.WM_WM q
  let old := (s.queWords q).length
  let s1 : State := { s with que := Tab.set [] s.que q w }
  if old ≤ wm ∧ wm < w.length then s1.set QUE.STATUS_WM_UP 1 q
  else if wm < old ∧ w.length ≤ wm then s1.set QUE.STATUS_WM_DN 1 q
  else s1

/-- The depth of a queue in words; 0 while it is disabled (R448). -/
def State.queDepth (s : State) (q : Nat) : Nat := if s.on QUE.QCFG_EN q then (s.get QUE.QCFG_DEPTH q + 1) * 64 else 0

/-- The free words of a queue, less those that push buffers hold for it (R449). -/
def State.queRoom (s : State) (q : Nat) : Nat :=
  s.queDepth q - ((s.queWords q).length + s.get QUE.LEVEL_RSV q)

/-- A word stored at the tail, and counted. -/
def State.quePut (s : State) (q w : Nat) : State :=
  (s.queSet q (s.queWords q ++ [w])).bump QUE.CNT_PUSH_COUNT QUE.STATUS_SAT q

/-- Words refused: OVF, counted (R449). -/
def State.queRefuse (s : State) (q k : Nat) : State :=
  (s.set QUE.STATUS_OVF 1 q).bump QUE.CNT_OVF_COUNT QUE.STATUS_SAT q k

/-- A push by a requester without a reservation (R449). -/
def State.quePush (s : State) (q w : Nat) : State := if s.queRoom q == 0 then s.queRefuse q 1 else s.quePut q w

/-- A pop: the head word, or 0 with UNF (R449). -/
def State.quePop (s : State) (q : Nat) : Nat × State :=
  match s.queWords q with
  | [] => (0, s.set QUE.STATUS_UNF 1 q)
  | w :: r => (w, (s.queSet q r).bump QUE.CNT_POP_COUNT QUE.STATUS_SAT q)

/-- The pointer check of R452: on a mismatch the queue is emptied, QERR set, and an entry logged with the level before. -/
def State.queCheck (s : State) (q : Nat) (mismatch : Bool) : State :=
  if mismatch then ((s.queSet q []).set QUE.STATUS_QERR 1 q).logHW 0x04 q (s.queWords q).length else s

/-- The access of a master to a queue's data port: a sequencer's private port does not reach it (R449). -/
def reachesData (m : Master) : Bool :=
  match m with
  | .seq _ => false
  | _ => true

/-- QUE_PUSH (R449, R452). `mismatch` says that the pointer copies are found to differ. -/
def execQuePush (q : Nat) (m : Master) (v : Nat) (mismatch : Bool) (s : State) : Out :=
  if reachesData m then .next ((s.queCheck q mismatch).quePush q (v % 4294967296)) else .next s

/-- QUE_POP (R449, R452). -/
def execQuePop (q : Nat) (m : Master) (mismatch : Bool) (s : State) : Out :=
  if reachesData m then
    let r := (s.queCheck q mismatch).quePop q
    .next (r.2.respond r.1 false)
  else .next (s.respond 0 false)

/-- QUE_FLUSH (R454, R460): the masked queues are emptied, reservations kept. -/
def execQueFlush (_m : Master) (mask : Nat) (s : State) : Out :=
  .next (s.forL (setBits 16 mask) fun q t => t.queSet q [])

/-- The first word and the word after the last of a queue's region (R448). -/
def State.queRegion (s : State) (q : Nat) : Nat × Nat :=
  let b := 64 * s.get QUE.QCFG_BASE q
  (b, b + (s.get QUE.QCFG_DEPTH q + 1) * 64)

/-- The region of queue `q` runs past the RAM or overlaps another enabled queue's (R448). -/
def State.queClash (s : State) (q : Nat) : Bool :=
  let r := s.queRegion q
  decide (16384 < r.2) || (List.range 16).any fun p =>
    p != q && s.on QUE.QCFG_EN p && decide (r.1 < (s.queRegion p).2) && decide ((s.queRegion p).1 < r.2)

/-- A queue enabled (R448): BASE and DEPTH are taken only while EN = 0; a refused enable leaves EN at 0. -/
def State.queEnable (s : State) (q base depth : Nat) : State :=
  if s.on QUE.QCFG_EN q then s
  else
    let s1 := (s.set QUE.QCFG_BASE base q).set QUE.QCFG_DEPTH depth q
    if s1.queClash q then s1.set QUE.STATUS_CFG_ERR 1 q
    else (s1.set QUE.QCFG_EN 1 q).queSet q []

/-- QUE_ENABLE (R448). -/
def execQueEnable (q : Nat) (_m : Master) (base depth : Nat) (s : State) : Out := .next (s.queEnable q base depth)

/-- The words that the push buffer of sequencer `n` holds for queue `q`. -/
def State.heldFor (s : State) (n q : Nat) : Nat :=
  (s.opsAt n).push.foldl (fun a b => if b.queue == q then a + b.words.length else a) 0

/-- A queue disabled (R448): it is emptied, reservations are cancelled and their words counted as overflows. -/
def State.queDisable (s : State) (q : Nat) : State :=
  if !s.on QUE.QCFG_EN q then s
  else
    let lost := (List.range 16).foldl (fun a n => a + s.heldFor n q) 0
    let s1 := ((s.queSet q []).set QUE.QCFG_EN 0 q).set QUE.LEVEL_RSV 0 q
    let s2 := s1.forN 16 fun n t =>
      t.setOps n { t.opsAt n with push := (t.opsAt n).push.filter fun b => b.queue != q }
    if lost == 0 then s2 else s2.queRefuse q lost

/-- QUE_DISABLE (R448). -/
def execQueDisable (q : Nat) (_m : Master) (s : State) : Out := .next (s.queDisable q)

/-- The words that a sequencer's push buffer holds (R227). -/
def State.pushHeld (s : State) (n : Nat) : Nat := (s.opsAt n).push.foldl (fun a b => a + b.words.length) 0

/-- A block reserved for a queue in a sequencer's push buffer, all or none (R227). -/
def State.reserve (s : State) (n q : Nat) (words : List Nat) : Option State :=
  if words.length ≤ s.queRoom q && s.pushHeld n + words.length ≤ 32 then
    some (((s.setOps n { s.opsAt n with push := (s.opsAt n).push ++ [{ queue := q, words := words }] }).set QUE.LEVEL_RSV
      (s.get QUE.LEVEL_RSV q + words.length) q).bump LSC.CNT_PUSH_COUNT LSC.STATUS_SAT n words.length)
  else none

/-- The sequencer whose push buffer is drained next: the first after the last one drained whose buffer holds a block (R227;
assumption 53). -/
def State.drainNext (s : State) : Option Nat :=
  ((List.range 16).map fun i => (s.radio.drained + 1 + i) % 16).find? fun n => !(s.opsAt n).push.isEmpty

/-- PUSH_DRAIN (R227): the oldest block of a sequencer's push buffer lands whole in its queue, in the round-robin order of the
buffers. -/
def execPushDrain (n : Nat) (s : State) : Out :=
  match (s.opsAt n).push with
  | [] => .next s
  | b :: r =>
    if s.drainNext != some n then .next s
    else
    let s0 : State := { s with radio.drained := n }
    let s1 := (s0.setOps n { s0.opsAt n with push := r }).set QUE.LEVEL_RSV
      (s.get QUE.LEVEL_RSV b.queue - b.words.length) b.queue
    .next (s1.forL b.words fun w t => t.quePut b.queue w)

end Sys2Proof.Machine
end

