-- ==== Sys2Proof/Machine/ShfOps.lean ====
section
/-! DEFINITION. Leases of sheaves: the checks (R155, R156, R161, R163), taking one, ending one and freeing its parts. -/

namespace Sys2Proof.Machine

/-- The sequence's units that a running calibration sequence holds as though leased (R511); a target of 0 names all. -/
def State.calHolds (s : State) (seqs : List Nat) (k : Nat) : Bool :=
  s.on CAL.STATE_BUSY && seqs.contains (s.get CAL.STATE_SEQ) && (s.calTarget == 0 || bitOf s.calTarget k)

/-- A transmit chain is leased, or held by Fulling. -/
def State.txTaken (s : State) (n : Nat) : Bool := (s.chainSheaf n).isSome || s.calHolds [6, 9, 10] n

/-- The composition that a slot entry gives a lease (R154, R158). -/
structure LeasePlan where
  entry : List Nat
  started : Bool
  chains : List Nat
  lo : Nat
  deriving DecidableEq, Repr

/-- The composition of a lease that is held. -/
def State.heldPlan (s : State) (sh : Nat) : LeasePlan :=
  { entry := (s.sheafAt sh).slotWords, started := (s.sheafAt sh).started
    chains := setBits 4 (s.get SHF.COMP_TXMASK sh), lo := s.get SHF.COMP_LO_USED sh }

/-- The selected antenna of chain `n` (R159). -/
def State.antOf (s : State) (n : Nat) : Nat :=
  match n with
  | 0 => s.get SHF.ANT_SEL_ANT0
  | 1 => s.get SHF.ANT_SEL_ANT1
  | 2 => s.get SHF.ANT_SEL_ANT2
  | _ => s.get SHF.ANT_SEL_ANT3

/-- The antenna field of chain `n` written. -/
def State.setAnt (s : State) (n v : Nat) : State :=
  match n with
  | 0 => s.set SHF.ANT_SEL_ANT0 v
  | 1 => s.set SHF.ANT_SEL_ANT1 v
  | 2 => s.set SHF.ANT_SEL_ANT2 v
  | _ => s.set SHF.ANT_SEL_ANT3 v

/-- The isolation entry of chain `n` with its selected antenna, dB; 0 where nothing was measured (R162). -/
def State.isoOf (s : State) (n : Nat) : Nat := Tab.get 0 s.radio.shf.iso (16 * n + s.antOf n)

/-- P_B of R161 in Q8.8 dBm: the highest EXPECT over the chains at the slot's index, plus the gang term; none where no
chain has a valid table. -/
def State.pairPower (s : State) (b : LeasePlan) : Option Int :=
  let khz := s.chanKhz (slChan b.entry)
  let i := max (slCeil b.entry) (s.ceilOf (some (slChan b.entry)))
  let e := b.chains.filterMap fun c => s.expectAt c khz i
  match e with
  | [] => none
  | x :: r =>
    let gang : Int := if b.chains.length ≤ 1 then 0 else if b.chains.length == 2 then 768 else 1536
    some (r.foldl max x + gang)

/-- The limit of R161 on L for a channel distance in kHz, Q8.8 dBm; none below 1.000 MHz. -/
def pairLimit (df : Nat) : Option Int :=
  if df < 1000 then none else if df < 4000 then some (-1280) else if df < 10000 then some 1280 else some 2560

/-- The rounding of MARGIN: whole dB, rounded up, from Q8.8 dB (R161). -/
def ceilDb (q : Int) : Int := -((-q) / 256)

/-- The ordered pair (A, B) of R161: A receives, B carries. A refusal code with its margin, or none. -/
def State.pairFails (s : State) (a b : LeasePlan) : Option (Nat × Int) :=
  if !(slReceives a.entry && slCarries b.entry) then none
  else
    let fa : Int := s.chanKhz (slChan a.entry)
    let fb : Int := s.chanKhz (slChan b.entry)
    match pairLimit (fa - fb).natAbs, s.pairPower b with
    | none, _ => some (8, 0)
    | some _, none => none
    | some lim, some p =>
      let iso := (b.chains.map fun c => s.isoOf c).foldl min 255
      let exc := p - 256 * (iso : Int) - lim
      if 0 < exc then some (9, ceilDb exc) else none

/-- A product 2f(a) − f(b) of two carrying sheaves lies within ±500 kHz of a receiving one (R163), for the triples that
take in both `n` and `o`. -/
def State.im3Fails (s : State) (all : List LeasePlan) (n o : LeasePlan) : Bool :=
  let f := fun (p : LeasePlan) => (s.chanKhz (slChan p.entry) : Int)
  let idx := (List.range all.length).map fun k => (k, all.getD k n)
  let car := idx.filter fun x => slCarries x.2.entry
  let rec_ := idx.filter fun x => slReceives x.2.entry
  car.any fun a => car.any fun b => a.1 != b.1 && rec_.any fun r =>
    (a.2 == n || b.2 == n || r.2 == n) && (a.2 == o || b.2 == o || r.2 == o) &&
      (f r.2 - (2 * f a.2 - f b.2)).natAbs ≤ 500

/-- The pair checks of a new lease against the sheaf `o` that is leased: SEP, ISOLATION, then IM3. -/
def State.pairCheck (s : State) (new : LeasePlan) (o : Nat) : Option (Nat × Int) :=
  let other := s.heldPlan o
  let held := ((List.range 4).filter fun k => s.on SHF.LEASE_STATE_HELD k).map fun k => s.heldPlan k
  match s.pairFails new other, s.pairFails other new with
  | some (8, m), _ => some (8, m)
  | _, some (8, m) => some (8, m)
  | some r, _ => some r
  | none, some r => some r
  | none, none => if s.im3Fails (held ++ [new]) new other then some (10, 0) else none

/-- The RADIO domain is powered and the device is in FULL. -/
def State.radioReady (s : State) : Bool := s.bit PWR.STATE_DOM 0 && s.get SYS.MODE_MODE == 0

/-- The checks of R156 in their order, and the composition that a lease would take. -/
def State.leaseTry (s : State) (sh slot seq : Nat) : (Nat × Nat × Int) ⊕ LeasePlan :=
  let no := fun (c : Nat) => Sum.inl (c, 0, 0)
  if !s.radioReady then no 11
  else if s.on SHF.LEASE_STATE_HELD sh then no 1
  else match s.leaseSlot sh slot with
    | none => no 2
    | some (e, started) =>
      let seqSt := s.get LSC.STATE_STATE seq
      let listen := slRole e == roleLISTEN
      let syn := s.get SHF.LO_CFG_LO_SYN sh
      let chains := if listen then [syn] else setBits 4 (slTxmask e)
      let lo := if listen then syn else s.loOf (chains.headD 0)
      let p : LeasePlan := { entry := e, started := started, chains := setBits 4 (slTxmask e), lo := lo }
      let rxTaken := (setBits 16 (slRxmask e)).any fun k => (s.rxSheaf k).isSome || s.calHolds [2, 3, 4, 5] k
      if seqSt == seqSTOPPED || seqSt == seqFAULT || s.seqBound seq then no 3
      else if chains.any fun c => s.txTaken c then no 4
      else if !listen && chains.any fun c => s.loOf c != lo then no 5
      else if listen && s.isMember syn then no 12
      else if (s.synthSheaf lo).isSome || s.calHolds [7, 8] lo || (s.fed lo).any fun c => (s.chainSheaf c).isSome then no 6
      else if rxTaken then no 7
      else match ((List.range 4).filter fun o => s.on SHF.LEASE_STATE_HELD o).findSome? fun o =>
          (s.pairCheck p o).map fun r => (r.1, o, r.2) with
        | some r => Sum.inl r
        | none => Sum.inr p

/-- The slot word of CTX1: TAG and ENTRY (R213). -/
def ctx1Of (e : List Nat) : Nat := 65536 * slTag e + slEntry e

/-- CTX2: STARTED, slot index, LTYPE (R213). -/
def ctx2Of (started : Bool) (slot sh : Nat) : Nat := 2147483648 * b2n started + 256 * slot + (sh + 1)

/-- COMP as a word (R154, R213). -/
def State.compWord (s : State) (sh : Nat) : Nat :=
  1073741824 * s.get SHF.COMP_ROLE sh + 16777216 * s.get SHF.COMP_CHAN sh + 1048576 * s.get SHF.COMP_TXMASK sh +
    65536 * s.get SHF.COMP_LO_USED sh + s.get SHF.COMP_RXMASK sh

/-- A sequencer takes a lease of type `ltype` with entry point `entry` (byte address): from IDLE it runs there with a
clear event latch, in RUN or WAIT it is told by LSE (R228). -/
def State.seqLease (s : State) (n ltype entry : Nat) (c0 c1 c2 c3 : Nat) : State :=
  let s1 := (s.setSeq n { s.seqAt n with ctx0 := c0, ctx1 := c1, ctx2 := c2, ctx3 := c3 }).set LSC.STATE_LTYPE ltype n
  if s.get LSC.STATE_STATE n == seqIDLE then
    ((s1.set LSC.EVP_EVP 0 n).set LSC.STATE_PCW (entry / 4) n).set LSC.STATE_STATE seqRUN n
  else s1.seqEvent n evLSE

/-- A sequencer's lease is over: context 0, nothing of the leased engine under way (R213, R228). -/
def State.seqFree (s : State) (n : Nat) : State :=
  ((s.setSeq n { s.seqAt n with ctx0 := 0, ctx1 := 0, ctx2 := 0, ctx3 := 0 }).setOps n
    { s.opsAt n with rqs := none, lockPending := false, cutting := false }).set LSC.STATE_LTYPE 0 n

/-- The LEASED and OWNER bits of chain `c` (R155). -/
def State.markChain (s : State) (c : Nat) (leased : Bool) (seq : Nat) : State :=
  (s.set UTX.STATE_LEASED (b2n leased) c).set UTX.STATE_OWNER seq c

/-- The chain of a LISTEN sheaf's LO_SYN is brought to OFF, and held there (R158). -/
def State.keepOff (s : State) (n : Nat) : State :=
  if s.ust n == txOFF && (s.utxAt n).want.isNone && !(s.utxAt n).biasUp then s else s.utxRequest n txOFF

/-- A lease taken (R154, R155, R158, R271): composition copied, parts bound, the running census cleared, the sequencer
told. -/
def State.leaseTake (s : State) (sh slot seq : Nat) (p : LeasePlan) : State :=
  let e := p.entry
  let s1 := ((((s.set SHF.COMP_ROLE (slRole e) sh).set SHF.COMP_CHAN (slChan e) sh).set SHF.COMP_TXMASK (slTxmask e)
    sh).set SHF.COMP_LO_USED p.lo sh).set SHF.COMP_RXMASK (slRxmask e) sh
  let s2 := ((s1.set SHF.LEASE_STATE_HELD 1 sh).set SHF.LEASE_STATE_OWNER seq sh).set SHF.LEASE_STATE_SLOT slot sh
  let s3 := s2.setSheaf sh { s2.sheafAt sh with
    slotWords := e, started := p.started, ending := none, bearDue := none, cfLink := none, cfSeen := false }
  let s3' := if s3.on WNW.CENS_CFG_LEASE_RST sh then
      { s3 with radio.census := Tab.set [] s3.radio.census sh [] } else s3
  let chains := if slRole e == roleLISTEN then [p.lo] else p.chains
  let s4' := (s3'.forL chains fun c t => t.markChain c true seq).rfsPower p.lo
  let s4 := if slRole e == roleLISTEN then s4'.keepOff p.lo else s4'
  let s5 := s4.forL (setBits 16 (slRxmask e)) fun ch t => t.rxBind ch sh p.lo
  let s6 := (s5.forL p.chains fun c t => t.refreshPwr c).spurLease sh (s.chanKhz (slChan e)) (slReceives e)
  let s7 := if p.started && slRole e == roleLISTEN then (s6.rxOpenForeign sh).set SHF.CF_STATE_STATE 1 sh else s6
  s7.seqLease seq (sh + 1) (slEntry e) (s7.compWord sh) (ctx1Of e) (ctx2Of p.started slot sh)
    (1048576 * slChan e + s.chanKhz (slChan e))

/-- The running census counts of a sheaf, in the order of R271: windows, EMPTY, SINGLE, COLLIDED_2, COLLIDED_3,
COLLIDED_4PLUS, captures, PC/EPC CRC failures, misses, recovered sources. -/
def State.census (s : State) (sh : Nat) : List Nat := Tab.get [] s.radio.census sh

/-- A census block latched into CENS_A to CENS_E (R271). A full block starts the next; the partial one of a lease's end
leaves the running counts, which LEASE_RST clears (assumption 52). -/
def State.censusLatch (s : State) (sh : Nat) (partialBlock : Bool) : State :=
  let c := fun k => (s.census sh).getD k 0
  let s1 := if s.on WNW.STATUS_CENS_RDY sh then s.set WNW.STATUS_CENS_OVR 1 sh else s
  let s2 := ((((s1.set WNW.CENS_A_LOW (c 1) sh).set WNW.CENS_A_HIGH (c 2) sh).set WNW.CENS_B_LOW (c 3) sh).set
    WNW.CENS_B_HIGH (c 4) sh).set WNW.CENS_C_LOW (c 5) sh
  let s3 := (((s2.set WNW.CENS_C_HIGH (c 6) sh).set WNW.CENS_D_HIGH (c 7) sh).set WNW.CENS_D_LOW (c 0) sh).set
    WNW.CENS_E_MISS (c 8) sh
  let s4 := ((s3.set WNW.CENS_E_RECOV (min 0x7FFF (c 9)) sh).set WNW.CENS_E_PARTIAL (b2n partialBlock) sh).set
    WNW.STATUS_CENS_RDY 1 sh
  if partialBlock then s4 else { s4 with radio.census := Tab.set [] s4.radio.census sh [] }

/-- No sheaf is leased. -/
def State.noLease (s : State) : Bool := (List.range 4).all fun sh => !s.on SHF.LEASE_STATE_HELD sh

/-- Element positions of the reference array, 16-bit two's complement mm (R168). -/
def refGeoX (k : Nat) : Nat := unsignedOf 16 (-246 + 164 * ((k % 4 : Nat) : Int))
def refGeoY (k : Nat) : Nat := unsignedOf 16 (-246 + 164 * ((k / 4 : Nat) : Int))

/-- X, Y and ISO of the antenna geometry loaded into SHF; a chain that no element names has none (R168). -/
def State.geoLoad (s : State) (t : List Nat) : State :=
  let at_ := fun (k : Nat) => (List.range (byteAt t 16)).find? fun e => byteAt t (34 + 8 * e) == k
  let pos := fun (k o : Nat) => match at_ k with
    | some e => le16 t (o + 8 * e)
    | none => 0x8000
  let s1 := s.forN 16 fun k u => { u with
    radio.shf.geoX := Tab.set (refGeoX k) u.radio.shf.geoX k (pos k 28)
    radio.shf.geoY := Tab.set (refGeoY k) u.radio.shf.geoY k (pos k 30) }
  { s1.forN 64 fun k u => { u with radio.shf.iso := Tab.set 0 u.radio.shf.iso k (byteAt t (156 + k)) } with
    radio.shf.geoOwed := false }

/-- A geometry written under a lease is loaded once no sheaf is leased (R183). -/
def State.geoDue (s : State) : State :=
  if s.radio.shf.geoOwed && s.noLease then s.geoLoad (s.obj 0x3410 0 []) else s

/-- The parts of a lease freed once its ramps are complete (R157, R158), in the reverse of the order of R155. -/
def State.leaseFree (s : State) (sh : Nat) : State :=
  let seq := s.get SHF.LEASE_STATE_OWNER sh
  let lo := s.get SHF.COMP_LO_USED sh
  let listen := s.get SHF.COMP_ROLE sh == roleLISTEN
  let s1 := (s.forL (s.rxOf sh) fun ch t => if rxIDLE < t.rst ch then t.rxIdle ch else t).engAbort sh
  let s2 := if s1.census sh != [] then s1.censusLatch sh true else s1
  let s3 := ((s2.set SHF.LEASE_STATE_HELD 0 sh).set SHF.LEASE_STATE_OWNER 0 sh).set SHF.STATUS_RETURNED 1 sh
  let chains := if listen then [lo] else s.txOf sh
  let s4 := s3.forL chains fun c t => (t.markChain c false 0).refreshPwr c
  let s5 := ((s4.setSheaf sh { s4.sheafAt sh with ending := none, started := false }).set
    SHF.CF_STATE_STATE 0 sh).spurFree sh
  ((s5.seqFree seq).rfsRelease lo).geoDue

/-- The lease can be freed: it is ending and no chain of it carries carrier any more. -/
def State.leaseDone (s : State) (sh : Nat) : Bool :=
  s.on SHF.LEASE_STATE_HELD sh && (s.sheafAt sh).ending.isSome && !(s.txOf sh).any fun c => s.carrier c

/-- A lease begins to end (R157, R183): a frame is truncated, windows close; after RELEASE the chains ramp down on the
normal section, after a reset or fault of the holder on the fast one; a lease without carrier is freed at once. -/
def State.leaseEnd (s : State) (sh : Nat) (how : LeaseEnd) : State :=
  if !s.on SHF.LEASE_STATE_HELD sh then s
  else
    let s1 := (s.setSheaf sh { s.sheafAt sh with ending := some how }).engAbort sh
    let s2 := match how with
      | .cut => s1
      | .release => s1.forL (s.txOf sh) fun c t => t.forceDown c false
      | .fault => s1.forL (s.txOf sh) fun c t => t.forceDown c true
    if s2.leaseDone sh then s2.leaseFree sh else s2

/-- A lease of sequencer `n`, of whatever kind, ended by a stop, reset or fault: sheaf leases (R157, R210). -/
def State.seqLeaseEnd (s : State) (n : Nat) (how : LeaseEnd) : State :=
  match s.seqSheaf n with
  | some sh => s.leaseEnd sh how
  | none => s

end Sys2Proof.Machine
end

