-- ==== Sys2Proof/Machine/Shf.lean ====
section
/-! DEFINITION. The commands of SHF: leases, antennas, isolation, geometry, beams and bearing results. -/

namespace Sys2Proof.Machine

open Sys2Proof

/-- A write of SHF that is ignored sets the sheaf's CMD_ERR. -/
def State.shfErr (s : State) (sh : Nat) : State := s.set SHF.STATUS_CMD_ERR 1 sh

/-- Whether a master may write GO: Core B or a sequencer (R154). -/
def mayGo (m : Master) : Bool :=
  match m with
  | .coreB => true
  | .seq _ => true
  | _ => false

/-- LEASE_CMD.GO (R154 to R156, R161 to R164). -/
def State.leaseGo (s : State) (sh : Nat) (m : Master) (slot seq : Nat) : State :=
  let s0 := (s.set SHF.LEASE_CMD_SLOT slot sh).set SHF.LEASE_CMD_SEQ seq sh
  if !mayGo m then s0.shfErr sh
  else match s0.leaseTry sh slot seq with
    | .inl (code, other, margin) =>
      (((s0.set SHF.LEASE_STATE_REFUSE code sh).set SHF.LEASE_STATE_OTHER other sh).set SHF.LEASE_STATE_MARGIN
        (unsignedOf 8 (max (-128) (min 127 margin))) sh).set SHF.STATUS_REFUSED 1 sh
    | .inr p => s0.leaseTake sh slot seq p

/-- LEASE_GO (R155). -/
def execLeaseGo (sh : Nat) (m : Master) (slot seq : Nat) (s : State) : Out := .next (s.leaseGo sh m slot seq)

/-- Whether a master may write RELEASE: the holding sequencer, Core B or Core P (R154). -/
def State.mayRelease (s : State) (sh : Nat) (m : Master) : Bool :=
  match m with
  | .coreB => true
  | .coreP => true
  | .seq n => s.on SHF.LEASE_STATE_HELD sh && s.get SHF.LEASE_STATE_OWNER sh == n
  | _ => false

/-- LEASE_CMD.RELEASE (R157, R183). -/
def State.leaseRelease (s : State) (sh : Nat) (m : Master) : State :=
  if s.mayRelease sh m then s.leaseEnd sh .release else s.shfErr sh

/-- LEASE_RELEASE (R157). -/
def execLeaseRelease (sh : Nat) (m : Master) (s : State) : Out := .next (s.leaseRelease sh m)

/-- LEASE_FREED (R157): once the ramps of an ending lease are complete. -/
def execLeaseFreed (sh : Nat) (s : State) : Out := .next (if s.leaseDone sh then s.leaseFree sh else s)

/-- Whether the writer may change chain `n`'s antenna: its lease's holder, or a core where it is unleased (R160). -/
def State.antWriter (s : State) (n : Nat) (m : Master) : Bool :=
  match s.chainSheaf n with
  | some sh => m == .seq (s.get SHF.LEASE_STATE_OWNER sh)
  | none => masterIsCore m

/-- The R161 check of chain `n`'s lease with its new antenna against every other leased sheaf (R160). -/
def State.antPairOk (s : State) (n v : Nat) : Bool :=
  match s.chainSheaf n with
  | none => true
  | some sh =>
    let t := s.setAnt n v
    let me := t.heldPlan sh
    (List.range 4).all fun o => o == sh || !t.on SHF.LEASE_STATE_HELD o ||
      ((t.pairFails me (t.heldPlan o)).isNone && (t.pairFails (t.heldPlan o) me).isNone)

/-- One ANTn field of an ANT_SEL write (R111, R159, R160). -/
def State.antWrite (s : State) (n v : Nat) (m : Master) : State :=
  if v == s.antOf n then s
  else if s.carrier n || !s.antWriter n m || !s.antPairOk n v then s.set SHF.GSTATUS_CMD_ERR 1
  else
    let s1 := (s.setAnt n v).setUtx n { s.utxAt n with antSettling := s.get SHF.ANT_CFG_SETTLE != 0 }
    s1.forN 16 fun ch t =>
      if t.bit SHF.COMP_TXMASK n (t.get URX.STATE_SHEAF ch) then t.rxForget ch else t

/-- ANT_SEL_WRITE (R159, R160). -/
def execAntSelWrite (m : Master) (value : Nat) (s : State) : Out :=
  .next (s.forN 4 fun n t => t.antWrite n (bits value (4 * n + 3) (4 * n)) m)

/-- ISO written: taken while no sheaf is leased (R162). -/
def State.isoWrite (s : State) (v : Nat) : State :=
  if s.noLease then
    { (s.set SHF.ISO_ADDR (bits v 13 8)).set SHF.ISO_DATA (bits v 7 0) with
      radio.shf.iso := Tab.set 0 s.radio.shf.iso (bits v 13 8) (bits v 7 0) }
  else s.set SHF.GSTATUS_CMD_ERR 1

/-- ISO_WRITE (R162). -/
def execIsoWrite (_m : Master) (value : Nat) (s : State) : Out := .next (s.isoWrite value)

/-- The position of chain `k`'s element: X and Y (R168). -/
def State.geoOf (s : State) (k : Nat) : Nat × Nat :=
  (Tab.get (refGeoX k) s.radio.shf.geoX k, Tab.get (refGeoY k) s.radio.shf.geoY k)

/-- Chain `k` has an element (R169). -/
def State.hasElement (s : State) (k : Nat) : Bool := s.geoOf k != (0x8000, 0x8000)

/-- GEO_DATA written: taken while no sheaf is leased (R168). -/
def State.geoWrite (s : State) (v : Nat) : State :=
  let k := s.get SHF.GEO_ADDR_CHAIN
  if s.noLease then
    { s with
      radio.shf.geoX := Tab.set (refGeoX k) s.radio.shf.geoX k (bits v 15 0)
      radio.shf.geoY := Tab.set (refGeoY k) s.radio.shf.geoY k (bits v 31 16) }
  else s.set SHF.GSTATUS_CMD_ERR 1

/-- GEO_DATA_WRITE (R168). -/
def execGeoDataWrite (_m : Master) (value : Nat) (s : State) : Out := .next (s.geoWrite value)

/-- What an unwritten beam word reads as: the default set's first beam has every weight 1.0 (R165, assumption 15). -/
def beamDefault (b e : Nat) : Nat := if b == 0 && e < 16 then 0x4000 else 0

/-- Word `e` of beam `b` of a sheaf (R165). -/
def State.beamWord (s : State) (sh b e : Nat) : Nat :=
  Tab.get (beamDefault b e) s.radio.shf.beam (sh * 1024 + b * 32 + e)

/-- BW_ADDR advanced: from entry 16 to entry 0 of the next beam. -/
def State.bwNext (s : State) (sh : Nat) : State :=
  if s.get SHF.BW_ADDR_ENTRY sh < 16 then s.set SHF.BW_ADDR_ENTRY (s.get SHF.BW_ADDR_ENTRY sh + 1) sh
  else (s.set SHF.BW_ADDR_ENTRY 0 sh).set SHF.BW_ADDR_BEAM (s.get SHF.BW_ADDR_BEAM sh + 1) sh

/-- A write of BW_DATA: ignored while the sheaf is leased; otherwise stored, the set reaching up to the beam written
(assumption 15). -/
def State.bwWrite (s : State) (sh v : Nat) : State :=
  let b := s.get SHF.BW_ADDR_BEAM sh
  let e := s.get SHF.BW_ADDR_ENTRY sh
  let s1 := if s.on SHF.LEASE_STATE_HELD sh then s.shfErr sh
    else { s.set SHF.BEAM_NBEAMS (b + 1) sh with
      radio.shf.beam := Tab.set (beamDefault b e) s.radio.shf.beam (sh * 1024 + b * 32 + e) (v % 4294967296) }
  s1.bwNext sh

/-- BW_DATA_ACCESS (R165). -/
def execBwDataAccess (sh : Nat) (write : Bool) (v : Nat) (s : State) : Out :=
  if write then .next (s.bwWrite sh v)
  else
    let w := s.beamWord sh (s.get SHF.BW_ADDR_BEAM sh) (s.get SHF.BW_ADDR_ENTRY sh)
    .next ((s.bwNext sh).respond w false)

/-- BEAM.SEL written: it takes effect at the next window opening; a beam beyond the set is ignored (R167). -/
def State.beamSel (s : State) (sh sel : Nat) : State :=
  if s.get SHF.BEAM_NBEAMS sh ≤ sel then s.shfErr sh
  else (s.set SHF.BEAM_SEL sel sh).setSheaf sh { s.sheafAt sh with beamPending := some sel }

/-- BEAM_SEL_WRITE (R167). -/
def execBeamSelWrite (sh : Nat) (_m : Master) (sel : Nat) (s : State) : Out := .next (s.beamSel sh sel)

/-- MIN_CHAINS, clamped (R169). -/
def State.bearMin (s : State) : Nat := max 3 (min 16 (s.get SHF.BEAR_CFG_MIN_CHAINS))

/-- QUAL (R170). -/
def qualWord (nch : Nat) (ambig edge : Bool) (coh : Nat) : Nat :=
  2048 * nch + 1024 * b2n ambig + 512 * b2n edge + 256 * b2n (decide (nch < 16)) + coh % 256

/-- A bearing result lands (R170, R172): the result registers, BEAR_RDY, BEAR_OVR, and the push of both words. -/
def State.bearLand (s : State) (sh az el qual tag : Nat) : State :=
  let s1 := if s.on SHF.STATUS_BEAR_RDY sh then s.set SHF.STATUS_BEAR_OVR 1 sh else s
  let s2 := ((((s1.set SHF.BEAR_AZ az sh).set SHF.BEAR_EL el sh).set SHF.BEAR_Q_QUAL qual sh).set SHF.BEAR_Q_SEQ tag
    sh).set SHF.STATUS_BEAR_RDY 1 sh
  let s3 := s2.setSheaf sh { s2.sheafAt sh with bearDue := none }
  let q := s.get SHF.BEAM_BQ sh
  if !s.on SHF.BEAM_BQ_EN sh then s3
  else if s3.queRoom q < 2 then s3.set SHF.STATUS_BEAR_OVR 1 sh
  else (s3.quePut q (65536 * (el % 65536) + az % 65536)).quePut q (65536 * (tag % 65536) + qual % 65536)

/-- What the estimator takes from chain `ch`: the phasor of the last reply and the element's position (R122, R169). -/
def State.bearInput (s : State) (ch : Nat) : BearIn :=
  { i := sint 16 (s.get URX.PHASOR_I ch), q := sint 16 (s.get URX.PHASOR_Q ch), x := sint 16 (s.geoOf ch).1
    y := sint 16 (s.geoOf ch).2 }

/-- The estimate for the usable chains `mask` of a sheaf: AZ, EL and QUAL (R169, R170). Phasors all 0 point nowhere, for which the spec
states no result: it is left open (assumption 3). -/
def State.bearResult (s : State) (sh mask : Nat) : (Nat × Nat × Nat) × State :=
  let l := (setBits 16 mask).map fun ch => s.bearInput ch
  let nch := popcount 16 mask
  if l.all fun e => e.i == 0 && e.q == 0 then
    let d := s.freshL 3 65536
    ((d.1.getD 0 0, d.1.getD 1 0, 2048 * nch + 256 * b2n (decide (nch < 16)) + d.1.getD 2 0 % 256), d.2)
  else
    let r := bearing l (s.khz (s.get SHF.COMP_LO_USED sh)) (s.get SHF.BEAR_CFG_FOV)
    ((unsignedOf 16 r.az, unsignedOf 16 r.el, qualWord nch r.ambig r.edge r.coh), s)

/-- BEAR_RDY (R169, R170, R172): 6.00 µs after a marked decision the estimate lands; too few usable chains fail it. -/
def execBearRdy (sh : Nat) (s : State) : Out :=
  match (s.sheafAt sh).bearDue with
  | none => .next s
  | some (tag, mask) =>
    if !s.on SHF.BEAR_CFG_EN || popcount 16 mask < s.bearMin then
      .next (((s.bearLand sh 0x8000 0x8000 0 tag).set SHF.STATUS_BEAR_FAIL 1 sh).bump SHF.CNT_BFAIL_COUNT
        SHF.STATUS_SAT sh)
    else
      let r := s.bearResult sh mask
      .next ((r.2.bearLand sh r.1.1 r.1.2.1 r.1.2.2 tag).bump SHF.CNT_BEAR_COUNT SHF.STATUS_SAT sh)

/-- The foreign carrier level of a LISTEN sheaf measured (R174), and whether it has stood at MIN (R175). -/
def State.cfLevel (s : State) (sh level : Nat) : State :=
  let s1 := s.set SHF.CF_STATE_LEVEL level sh
  if sint 16 level < sint 16 (s.get SHF.CF_CFG_MIN sh) then s1
  else s1.setSheaf sh { s1.sheafAt sh with cfSeen := true }

/-- CF_LOST (R175, R177): the level, which has stood at MIN since START, stayed below it for LOST_US in SEARCH or FOLLOW; a reply under
way is abandoned without a decision. -/
def execCfLost (sh level : Nat) (s : State) : Out :=
  let st := s.get SHF.CF_STATE_STATE sh
  if (st == 2 || (st == 1 && (s.sheafAt sh).cfSeen)) && sint 16 level < sint 16 (s.get SHF.CF_CFG_MIN sh) then
    let s1 := ((s.cfLevel sh level).set SHF.CF_STATE_STATE 3 sh).set SHF.STATUS_CF_LOST 1 sh
    .next (s1.setEng sh { s1.engAt sh with window := none, preamble := false })
  else .next s

/-- CF_SEARCH (R175): after LOST the level is back at MIN + 3 dB or above. -/
def execCfSearch (sh level : Nat) (s : State) : Out :=
  if s.get SHF.CF_STATE_STATE sh == 3 && sint 16 (s.get SHF.CF_CFG_MIN sh) + 768 ≤ sint 16 level then
    .next ((s.cfLevel sh level).set SHF.CF_STATE_STATE 1 sh)
  else .next s

end Sys2Proof.Machine
end

