-- ==== Sys2Proof/Machine/Utx.lean ====
section
/-! DEFINITION. The commands of the transmit chains UTX0 to UTX3. -/

namespace Sys2Proof.Machine

open Sys2Proof

/-- Chain `n` is the LO chain of a leased LISTEN sheaf, held in OFF (R158). -/
def State.heldOff (s : State) (n : Nat) : Bool :=
  match s.chainSheaf n with
  | some sh => s.get SHF.COMP_TXMASK sh == 0
  | none => false

/-- A state request by master `m` (R71, R72); a chain held in OFF takes none but that for OFF (R158). -/
def State.utxReq (s : State) (n : Nat) (m : Master) (w : Nat) : State :=
  s.utxOwned n m fun t => if t.heldOff n && w != txOFF then t.utxRefuse n errBAD_STATE else t.utxRequest n w

/-- UTX_REQ_OFF (R71). -/
def execUtxReqOff (n : Nat) (m : Master) (s : State) : Out := .next (s.utxReq n m txOFF)

/-- UTX_REQ_STANDBY (R71). -/
def execUtxReqStandby (n : Nat) (m : Master) (s : State) : Out := .next (s.utxReq n m txSTANDBY)

/-- UTX_REQ_READY (R71). -/
def execUtxReqReady (n : Nat) (m : Master) (s : State) : Out := .next (s.utxReq n m txREADY)

/-- UTX_REQ_CW (R84, R138). -/
def execUtxReqCw (n : Nat) (m : Master) (s : State) : Out := .next (s.utxReq n m txCW)

/-- UTX_REQ_LISTEN (R69, R84). -/
def execUtxReqListen (n : Nat) (m : Master) (s : State) : Out := .next (s.utxReq n m txLISTEN)

/-- BIAS_UP_DONE (R70): the bias is up, the chain is in STANDBY with its synthesizer powered. -/
def execBiasUpDone (n : Nat) (s : State) : Out :=
  if (s.utxAt n).biasUp then
    .next ((((s.setUtx n { s.utxAt n with biasUp := false }).setUst n txSTANDBY).rfsPower (s.loOf n)).utxProgress 8 n)
  else .next s

/-- RAMP_UP_DONE (R88, R91, R95): the chain stands at full carrier; a held change of index takes effect. -/
def execRampUpDone (n : Nat) (s : State) : Out :=
  match (s.utxAt n).ramp with
  | some r =>
    if r.up then
      let s1 := ((s.setUtx n { s.utxAt n with ramp := none }).set UTX.STATE_RAMP 0 n).set UTX.STATUS_RAMP_DONE 1 n
      .next (((s1.bump UTX.CNT_KEY_COUNT UTX.STATUS_SAT n).applyPwr n).utxProgress 8 n)
    else .next s
  | none => .next s

/-- The end of a ramp-down: no RF, PA_EN deasserted, the grant spent, the chain in the state that the ramp led to
(R90, R96, R138). -/
def State.rampDownEnd (s : State) (n : Nat) : State :=
  let u := s.utxAt n
  let s1 := (((s.setUtx n { u with ramp := none, downTo := txREADY, downErr := 0 }).set UTX.STATE_RAMP 0 n).set
    UTX.STATE_CARRIER 0 n).set UTX.PA_PA_EN 0 n
  let s1' := { s1 with radio.offAt := Tab.set 0 s1.radio.offAt n s1.now }
  let s2 := ((s1'.set UTX.STATUS_RAMP_DONE 1 n).endGrant n).setUst n u.downTo
  let s3 := match s2.chainSheaf n with
    | some sh => s2.rxCarrierGone sh
    | none => s2
  let s4 := s3.refreshPwr n
  if u.downErr != 0 && u.want.isSome then
    ((s4.setUtx n { s4.utxAt n with want := none }).endWait n).utxReport n u.downErr
  else s4.utxProgress 8 n

/-- RAMP_DOWN_DONE (R96). -/
def execRampDownDone (n : Nat) (s : State) : Out :=
  match (s.utxAt n).ramp with
  | some r => if r.up then .next s else .next (s.rampDownEnd n)
  | none => .next s

/-- WAIT_FAIL (R84): the chain stays in its state. -/
def execWaitFail (n : Nat) (s : State) : Out :=
  if s.on UTX.STATE_WAIT n then
    .next (s.utxFail n (if s.sst (s.loOf n) == synLOCKED then errSUPPLY_NOT_READY else errSYNTH_NOT_READY))
  else .next s

/-- FWD, where it is valid, lies farther than TOL, in 1/16 dB, from EXPECT (R91). -/
def State.paOut (s : State) (n : Nat) : Bool :=
  let f := s.get UTX.FWD_FWD n
  f != 0x8000 && 16 * s.get UTX.LIMITS_TOL n < (sint 16 f - sint 16 (s.get UTX.FWD_EXPECT n)).natAbs

/-- PA_FAULT (R91): |FWD − EXPECT| has exceeded TOL for TOL_US, against the value held in MOD. Flagged and counted; with PA_CHECK the
chain ramps down to READY on the normal section. -/
def execPaFault (n fwd : Nat) (s : State) : Out :=
  let s1 := if s.ust n == txMOD then s else s.set UTX.FWD_FWD fwd n
  if s.carrier n && (s.utxAt n).ramp.isNone && s1.paOut n then
    let s2 := (s1.set UTX.STATUS_PA_FAULT 1 n).bump UTX.CNT_FAULT_COUNT UTX.STATUS_SAT n
    if s.on UTX.CTRL_PA_CHECK n then .next ((s2.noteErr n errPA_FAULT).rampDown n false txREADY errPA_FAULT)
    else .next s2
  else .next s

/-- UTX_PWR_WRITE (R72, R88). -/
def execUtxPwrWrite (n : Nat) (m : Master) (idx : Nat) (s : State) : Out :=
  .next (s.utxOwned n m fun t => (t.set UTX.PWR_IDX idx n).refreshPwr n)

/-- The fields of a MOD_CFG word written (R92). -/
def State.modCfg (s : State) (n v : Nat) : State :=
  (((s.set UTX.MOD_CFG_PAD (bits v 15 9) n).set UTX.MOD_CFG_SHAPE (bits v 8 7) n).set UTX.MOD_CFG_MODE (bits v 6 5) n).set
    UTX.MOD_CFG_DEPTH (bits v 4 0) n

/-- The modulation depth that a MOD_CFG word selects, in percent: 80 with its DEPTH code, of which 21 to 31 count as 20; PR-ASK
ignores it (R92). -/
def modDepth (w : Nat) : Option Nat := if bits w 6 5 == 2 then none else some (80 + min 20 (bits w 4 0))

/-- The LO phase of a chain in steps of 5.625° (R99): the code held for the frame end, else STEER, with TRIM. -/
def State.loPhase (s : State) (n : Nat) : Nat :=
  ((s.utxAt n).steerHeld.getD (s.get UTX.PHASE_STEER n) + s.get UTX.PHASE_TRIM n) % 64

/-- The MOD_CFG word of a chain. -/
def State.modWord (s : State) (n : Nat) : Nat :=
  512 * s.get UTX.MOD_CFG_PAD n + 128 * s.get UTX.MOD_CFG_SHAPE n + 32 * s.get UTX.MOD_CFG_MODE n +
    s.get UTX.MOD_CFG_DEPTH n

/-- UTX_MOD_CFG_WRITE (R72, R92): the frame on air keeps the word it began with. -/
def execUtxModCfgWrite (n : Nat) (m : Master) (value : Nat) (s : State) : Out :=
  .next (s.utxOwned n m fun t => t.modCfg n value)

/-- A STEER code written: the phase applied before stays until the frame end where the chain is in MOD (R99). -/
def State.steer (s : State) (n v : Nat) : State :=
  let s1 := if s.ust n == txMOD && (s.utxAt n).steerHeld.isNone then
      s.setUtx n { s.utxAt n with steerHeld := some (s.get UTX.PHASE_STEER n) }
    else s
  s1.set UTX.PHASE_STEER v n

/-- UTX_STEER_WRITE (R72, R99). -/
def execUtxSteerWrite (n : Nat) (m : Master) (steer : Nat) (s : State) : Out :=
  .next (s.utxOwned n m fun t => t.steer n steer)

/-- A write of LO_SRC (R97): group, ceiling, effective index and TRIM follow the new synthesizer (R87, R88, R99). -/
def State.loSrc (s : State) (n src : Nat) : State :=
  let old := s.loOf n
  if src == old then s
  else if (src != n && s.isMember src) || txSTANDBY < s.ust n || txSTANDBY < s.ust src then s.utxRefuse n errGANG
  else ((((s.set UTX.CTRL_LO_SRC src n).rfsPower old).rfsPower src).rfsPower n).refreshPwr n

/-- UTX_LO_SRC_WRITE (R97). -/
def execUtxLoSrcWrite (n : Nat) (_m : Master) (src : Nat) (s : State) : Out := .next (s.loSrc n (src % 4))

/-- PA_RAIL_REACHED (R84, R89): the rail stands at its target and waiting requests go on. -/
def execPaRailReached (s : State) : Out :=
  .next (({ s with radio.buckLevel := s.buckTarget } : State).forN 4 fun n t => t.utxProgress 8 n)

/-- ANTENNA_SETTLE (R159): a ramp-up held back by the antenna switch may go on. -/
def execAntennaSettle (n : Nat) (s : State) : Out :=
  if (s.utxAt n).antSettling then .next ((s.setUtx n { s.utxAt n with antSettling := false }).utxProgress 8 n)
  else .next s

end Sys2Proof.Machine
end

