-- ==== Sys2Proof/Machine/Gen2.lean ====
section
/-! DEFINITION. The Gen2 air interface: frame format tables, the frame builder, and the parser of command follow. -/

namespace Sys2Proof.Machine

/-! ### Frame format tables (R200 to R203) -/

/-- The base address of the frame format table copy that sequencer `n` runs with. -/
def State.fmtAt (s : State) (n : Nat) : Nat := seqBase n + (s.seqAt n).fmtBase

/-- Link entry `l` of sequencer `n`'s table. -/
def State.linkEntry (s : State) (n l : Nat) : List Nat := s.rdBytes (s.fmtAt n + 20 + 16 * l) 16

/-- NLINK of sequencer `n`'s table. -/
def State.nlink (s : State) (n : Nat) : Nat := s.rd8 (s.fmtAt n + 16)

/-- Frame entry `f` of sequencer `n`'s table. -/
def State.frameEntry (s : State) (n f : Nat) : List Nat := s.rdBytes (s.fmtAt n + 20 + 16 * s.nlink n + 16 * f) 16

def feCmd (e : List Nat) : Nat := byteAt e 0
def feLink (e : List Nat) : Nat := byteAt e 1
def feReply (e : List Nat) : Bool := bitOf (byteAt e 2) 1
def feBear (e : List Nat) : Bool := bitOf (byteAt e 2) 2
def feDelayed (e : List Nat) : Bool := bitOf (byteAt e 2) 3
def feTrunc (e : List Nat) : Bool := bitOf (byteAt e 2) 4
def feFixed (e : List Nat) : Nat := le16 e 4
def feWords (e : List Nat) : Nat := le16 e 6
def feRxbits (e : List Nat) : Nat := le16 e 8

/-- TMO_US: the DELAYED span in µs, 0 for 20,000 (R199). -/
def feTmo (e : List Nat) : Nat := if le16 e 10 == 0 then 20000 else le16 e 10

def lkDr (l : List Nat) : Nat := bits (byteAt l 1) 0 0
def lkM (l : List Nat) : Nat := bits (byteAt l 1) 2 1
def lkTrext (l : List Nat) : Nat := bits (byteAt l 1) 3 3
def lkPw (l : List Nat) : Nat := le16 l 6
def lkFrt (l : List Nat) : Nat := byteAt l 8
def lkPad (l : List Nat) : Nat := byteAt l 9 % 128

/-- Tari in 25 ns units (R201). -/
def lkTari (l : List Nat) : Nat := 250 * 2 ^ (byteAt l 0 % 4)

/-- RTcal in 25 ns units: data-0 plus data-1 (R186). -/
def lkRtcal (l : List Nat) : Nat := lkTari l + le16 l 2

/-- TRcal in 25 ns units. -/
def lkTrcal (l : List Nat) : Nat := le16 l 4

/-- Tpri in units of 25 ns / 64: TRcal / DR with DR 8 or 64/3 (R187). -/
def lkTpri (l : List Nat) : Nat := if lkDr l == 0 then 8 * lkTrcal l else 3 * lkTrcal l

/-- The preamble's length in bit times (R187). -/
def lkPreamble (l : List Nat) : Nat :=
  (if lkM l == 0 then 6 else 10) + (if lkTrext l == 0 then 0 else 12)

/-- T1max plus the preamble reaches 2.0 RTcal (R194, R197, R198), in units of 25 ns / 6400. -/
def lkEmptyClears (l : List Nat) : Bool :=
  let nominal := max (64 * lkRtcal l) (10 * lkTpri l)
  decide (12800 * lkRtcal l ≤
    nominal * (100 + lkFrt l) + 100 * (5120 + lkPreamble l * (lkTpri l * 2 ^ lkM l)))

/-- A DELAYED span plus the preamble's duration reaches 2.0 RTcal (R198, R199), in the same units. -/
def lkSpanClears (l : List Nat) (tmo : Nat) : Bool :=
  decide (12800 * lkRtcal l ≤ 256000 * tmo + 100 * (lkPreamble l * (lkTpri l * 2 ^ lkM l)))

/-- SHAPE table LEN, 40 by default (R93). -/
def State.shapeLen (s : State) (k : Nat) : Nat :=
  if (s.obj (0x3120 + k) 0 []).length == 148 then byteAt (s.obj (0x3120 + k) 0 []) 16 else 40

/-! ### The frame builder (R188, R189, R223) -/

/-- The number of 7-bit groups of an EBV-8 pointer (R189): 1 to 5 for a 32-bit operand. -/
def ebvGroups (v : Nat) : Nat :=
  if v < 128 then 1 else if v < 16384 then 2 else if v < 2097152 then 3 else if v < 268435456 then 4 else 5

/-- A pointer as EBV-8: groups most significant first, the extension bit set on all but the last (R189). -/
def ebv (v : Nat) : List Bool :=
  (List.range (ebvGroups v)).flatMap fun i =>
    decide (i + 1 < ebvGroups v) :: bitsMsb 7 (v / 128 ^ (ebvGroups v - 1 - i))

/-- `k` bits of sequencer `n`'s memory from byte address `a`, first byte first, bit 7 first (R223). -/
def State.memBits (s : State) (n a k : Nat) : List Bool :=
  (unpackBits (s.rdBytes (seqBase n + a) ((k + 7) / 8))).take k

/-- The bits followed by their CRC-16, sent as the ones' complement (R192). -/
def withCrc16 (b : List Bool) : List Bool := b ++ bitsMsb 16 ((crc16 b).xor 0xFFFF)

/-- The bits followed by their CRC-5 (R192). -/
def withCrc5 (b : List Bool) : List Bool := b ++ bitsMsb 5 (crc5 b)

/-- The body bits of a RAW frame: the override in O1 where it is nonzero, else WORDS (R223). -/
def rawBits (e ops : List Nat) : Nat :=
  if bits (ops.getD 1 0) 12 0 != 0 then bits (ops.getD 1 0) 12 0 else feWords e

/-- The reply length of a RAW frame: the override in O1 where it is nonzero, else RXBITS (R223). -/
def rawRx (e ops : List Nat) : Nat :=
  if bits (ops.getD 1 0) 28 16 != 0 then bits (ops.getD 1 0) 28 16 else feRxbits e

/-- The bits that a frame puts on air after its preamble or frame-sync (R188, R189, R203, R223). -/
def frameBits (f : Frame) : List Bool :=
  let e := f.entry
  let fx := feFixed e
  let o0 := f.ops.getD 0 0
  let o1 := f.ops.getD 1 0
  let o2 := f.ops.getD 2 0
  let code := fun (v : Nat) => bitsMsb 8 v
  let rn := bitsMsb 16 o1
  let wc := bitsMsb 8 (feWords e)
  let bank := bitsMsb 2 (bits fx 7 6)
  let covered := fun (v : Nat) => bitsMsb 16 ((v % 65536).xor (o2 % 65536))
  if f.cmd == 1 then
    let q := if bitOf o0 4 then o0 % 16 else bits fx 8 5
    withCrc5 (bitsMsb 4 8 ++ bitsMsb 1 (lkDr f.link) ++ bitsMsb 2 (lkM f.link) ++ bitsMsb 1 (lkTrext f.link) ++
      bitsMsb 2 (bits fx 1 0) ++ bitsMsb 2 (bits fx 3 2) ++ bitsMsb 1 (bits fx 4 4) ++ bitsMsb 4 q)
  else if f.cmd == 2 then
    bitsMsb 4 9 ++ bitsMsb 2 (bits fx 3 2) ++ bitsMsb 3 (if bitOf o0 4 then o0 % 8 else bits fx 11 9)
  else if f.cmd == 3 then bitsMsb 2 0 ++ bitsMsb 2 (bits fx 3 2)
  else if f.cmd == 4 then bitsMsb 2 1 ++ bitsMsb 16 o0
  else if f.cmd == 5 then code 0xC0
  else if f.cmd == 6 then withCrc16 (code 0xC1 ++ bitsMsb 16 o0)
  else if f.cmd == 7 then
    withCrc16 (bitsMsb 4 10 ++ bitsMsb 3 (bits fx 2 0) ++ bitsMsb 3 (bits fx 5 3) ++ bank ++ ebv o0 ++ wc ++
      f.mem ++ bitsMsb 1 (bits fx 12 12))
  else if f.cmd == 8 then withCrc16 (code 0xC2 ++ bank ++ ebv o0 ++ wc ++ rn)
  else if f.cmd == 9 then withCrc16 (code 0xC3 ++ bank ++ ebv o0 ++ covered (o1 / 65536) ++ rn)
  else if f.cmd == 10 then
    withCrc16 (code 0xC4 ++ covered o0 ++ bitsMsb 3 (if bitOf o1 31 then bits fx 2 0 else 0) ++ rn)
  else if f.cmd == 11 then withCrc16 (code 0xC5 ++ bitsMsb 20 o0 ++ rn)
  else if f.cmd == 12 then withCrc16 (code 0xC6 ++ covered o0 ++ rn)
  else if f.cmd == 13 then withCrc16 (code 0xC7 ++ bank ++ ebv o0 ++ wc ++ f.mem ++ rn)
  else if f.cmd == 14 then withCrc16 (code 0xC8 ++ bank ++ ebv o0 ++ wc ++ rn)
  else if f.cmd == 15 then
    withCrc16 (code 0xC9 ++ bitsMsb 8 0 ++ bitsMsb 1 (bits fx 13 13) ++ bank ++ ebv o0 ++ wc ++
      (if bitOf fx 13 then f.mem else []) ++ rn)
  else
    let c := bits fx 1 0
    if c == 1 then withCrc16 f.mem else if c == 2 then withCrc5 f.mem else f.mem

/-- The memory operand of a frame: its byte address and its length in bits, where it has one (R223). -/
def memOperand (e ops : List Nat) : Option (Nat × Nat) :=
  let cmd := feCmd e
  if cmd == 7 then some (ops.getD 1 0, feWords e)
  else if cmd == 13 then some (ops.getD 2 0, 16 * feWords e)
  else if cmd == 15 && bitOf (feFixed e) 13 then some (ops.getD 2 0, 16 * feWords e)
  else if cmd == 32 then some (ops.getD 0 0, rawBits e ops)
  else none

/-- The bits that a frame sends before its memory operand (R188, R189). -/
def memLead (f : Frame) : Nat :=
  let g := 8 * ebvGroups (f.ops.getD 0 0)
  if f.cmd == 7 then 20 + g else if f.cmd == 13 then 18 + g else if f.cmd == 15 then 27 + g else 0

/-- A frame as its memory operand stands when `sent` of its bits are on air: the bits sent before keep, those not yet sent are read
from memory (R223). -/
def State.frameRead (s : State) (f : Frame) (sent : Nat) : Frame :=
  let now := match memOperand f.entry f.ops with
    | some (a, k) => s.memBits f.seq a k
    | none => []
  let k := sent - memLead f
  let g := { f with mem := f.mem.take k ++ now.drop k }
  { g with bits := frameBits g }

/-- The time that a frame's preamble or frame-sync takes, in CLK_DSP cycles of 1/240 µs: delimiter, data-0, RTcal and, in a preamble,
TRcal (R186). -/
def syncTime (f : Frame) : Nat :=
  6 * (500 + lkTari f.link + lkRtcal f.link + (if bitOf (byteAt f.entry 2) 0 then lkTrcal f.link else 0))

/-- The bits whose symbol has begun `t` cycles into the symbols `b` (R186). -/
def pieBegun (l : List Nat) (t : Nat) (b : List Bool) : Nat :=
  match b with
  | [] => 0
  | x :: r =>
    let d := 6 * (if x then le16 l 2 else lkTari l)
    if d ≤ t then 1 + pieBegun l (t - d) r else 1

/-- The bits of a frame on air whose symbol has begun by now (R186, R223). -/
def State.bitsSent (s : State) (f : Frame) : Nat :=
  if s.now < f.began + syncTime f then 0 else pieBegun f.link (s.now - f.began - syncTime f) f.bits

/-- The operands are bad (R224, code 20): a memory operand past 0x7FFF, a RAW override out of range, or a RAW reply of
unknown length. -/
def operandBad (e ops : List Nat) : Bool :=
  (match memOperand e ops with
   | some (a, k) => k != 0 && decide (0x8000 < a + (k + 7) / 8)
   | none => false) ||
  (feCmd e == 32 && (decide (4095 < rawBits e ops) || decide (4128 < rawRx e ops) ||
    (feReply e && rawRx e ops == 0)))

/-- The kind of reply that a frame calls for (R188). -/
def replyKind (e ops : List Nat) : ReplyKind :=
  let cmd := feCmd e
  if !feReply e then .none
  else if cmd ≤ 3 then .rn16
  else if cmd == 4 then .pcEpc
  else if cmd == 6 || cmd == 12 then .handle
  else if cmd == 8 then .read
  else if cmd == 10 then (if bitOf (ops.getD 1 0) 31 then .delayed else .handle)
  else if cmd == 15 then (if bitOf (feFixed e) 13 then .delayed else .read)
  else if cmd == 32 then .raw
  else .delayed

/-- The frame that sequencer `n` issues from entry `e` with operands `ops`. -/
def State.mkFrame (s : State) (n : Nat) (e ops : List Nat) : Frame :=
  { seq := n, cmd := feCmd e, entry := e, link := s.linkEntry n (feLink e), ops := ops, reply := feReply e
    kind := replyKind e ops, bear := feBear e, delayed := feDelayed e, trunc := feTrunc e
    checkCrc := feCmd e != 32 || bitOf (feFixed e) 2
    words := feWords e, rxbits := if feCmd e == 32 then rawRx e ops else feRxbits e }

/-- The number of XPC words of a PC/EPC reply, and of its EPC words (R190). -/
def pcX (b : List Bool) : Nat :=
  if bitOf (ofBitsMsb (b.take 16)) 9 then (if b.getD 16 false then 2 else 1) else 0
def pcL (b : List Bool) : Nat := ofBitsMsb (b.take 16) / 2048

/-- The payload length n that the device predicts for a frame's reply, in part from the reply's own bits (R190). -/
def replyLen (f : Frame) (b : List Bool) : Nat :=
  match f.kind with
  | .none => 0
  | .rn16 => 16
  | .pcEpc => if f.trunc then f.rxbits else min 560 (16 * (1 + pcX b + pcL b) + 16)
  | .handle => 32
  | .read => if b.getD 0 false then 41 else if f.words == 0 then f.rxbits else 33 + 16 * f.words
  | .delayed => if b.getD 0 false then 41 else 33
  | .raw => f.rxbits

/-- The payload decoded from a reply (R190): the first n bits; bits that the evidence does not give count as 0 (assumption 52). -/
def payloadOf (f : Frame) (b : List Bool) : List Bool := (b ++ List.replicate (replyLen f b) false).take (replyLen f b)

/-! ### Command follow's parser (R174) -/

/-- A number from bits `i` to `i + k - 1` of a parsed command. -/
def cfField (b : List Bool) (i k : Nat) : Nat := ofBitsMsb ((b.drop i).take k)

/-- The bit at which a pointer that starts at bit `i` ends: EBV groups are read while the extension bit is set. -/
def ebvEnd (b : List Bool) (fuel i : Nat) : Nat :=
  match fuel with
  | 0 => i
  | fuel + 1 => if b.getD i false then ebvEnd b fuel (i + 8) else i + 8

/-- The command code of R188 that the bits spell, 0 where they spell none; the lengths are those of R188. -/
def cfCode (b : List Bool) : Nat :=
  let n := b.length
  let after := ebvEnd b 5 10
  let word := fun k => cfField b after k
  if cfField b 0 4 == 8 then (if n == 22 then 1 else 0)
  else if cfField b 0 4 == 9 then (if n == 9 then 2 else 0)
  else if cfField b 0 4 == 10 then
    (let p := ebvEnd b 5 12
     if n == p + 8 + cfField b p 8 + 17 then 7 else 0)
  else if cfField b 0 2 == 0 then (if n == 4 then 3 else 0)
  else if cfField b 0 2 == 1 then (if n == 18 then 4 else 0)
  else
    match cfField b 0 8 with
    | 0xC0 => if n == 8 then 5 else 0
    | 0xC1 => if n == 40 then 6 else 0
    | 0xC2 => if n == after + 40 then 8 else 0
    | 0xC3 => if n == after + 48 then 9 else 0
    | 0xC4 => if n == 59 then 10 else 0
    | 0xC5 => if n == 60 then 11 else 0
    | 0xC6 => if n == 56 then 12 else 0
    | 0xC7 => if n == after + 8 + 16 * word 8 + 32 then 13 else 0
    | 0xC8 => if n == after + 40 then 14 else 0
    | 0xC9 =>
      let p := ebvEnd b 5 19
      if n == p + 8 + (if b.getD 16 false then 16 * cfField b p 8 else 0) + 32 then 15 else 0
    | _ => 0

/-- The CRC of a parsed command over its own bits: CRC-5 for a Query, none for the other commands of inventory, CRC-16 for the rest
(R174, R192). -/
def cfCrcOk (b : List Bool) : Bool :=
  match cfCode b with
  | 1 => crc5 (b.take (b.length - 5)) == cfField b (b.length - 5) 5
  | 2 => true
  | 3 => true
  | 4 => true
  | 5 => true
  | _ => crc16Ok b

/-- The reply that a parsed command calls for. A Kill is taken as a second step where its RFU/Recom bits are not 0
(assumption 18). -/
def cfKind (b : List Bool) : ReplyKind :=
  match cfCode b with
  | 1 => .rn16
  | 2 => .rn16
  | 3 => .rn16
  | 4 => .pcEpc
  | 6 => .handle
  | 8 => .read
  | 10 => if cfField b 24 3 != 0 then .delayed else .handle
  | 12 => .handle
  | 15 => if b.getD 16 false then .delayed else .read
  | 0 => .none
  | 5 => .none
  | 7 => .none
  | _ => .delayed

/-- The WordCount or BlockRange of a parsed Read or BlockPermalock, from which its reply's length follows (R174, R190). -/
def cfWords (b : List Bool) : Nat := cfField b (ebvEnd b 5 (if cfCode b == 15 then 19 else 10)) 8

/-- A parsed command whose reply's length its fields do not give: a Read of WordCount 0 (R174, R191). -/
def cfOpen (b : List Bool) : Bool := cfCode b == 8 && cfWords b == 0

/-- LAST_CMD of a parsed command (SHF CF_STATE). -/
def cfLast (code : Nat) : Nat := if code == 0 then 255 else min code 10

end Sys2Proof.Machine
end

