-- ==== Sys2Proof/Machine/Wnw.lean ====
section
/-! DEFINITION. The Winnower: classes, capture, carry and the census (R260 to R275). -/

namespace Sys2Proof.Machine

open Sys2Proof

/-- CFG as a window takes it at its opening (R274). -/
def State.wnwNow (s : State) (sh : Nat) : WnwCfg :=
  { capEn := s.on WNW.CFG_CAP_EN sh, otherEn := s.on WNW.CFG_OTHER_EN sh, carryEn := s.on WNW.CFG_CARRY_EN sh
    spatMin := max 3 (min 16 (s.get WNW.CFG_SPAT_MIN sh)), capMargin := s.get WNW.CFG_CAP_MARGIN sh
    violMax := s.get WNW.CFG_VIOL_MAX sh, srcThr := s.get WNW.CFG_SRC_THR sh }

/-- NB from the bit-level figures (R262). -/
def wnwNB (cfg : WnwCfg) (lev viol : Nat) : Nat :=
  if lev ≤ 2 then (if viol ≤ cfg.violMax then 1 else 2) else if lev ≤ 4 then 2 else if lev ≤ 8 then 3 else 4

/-- The capture test on a decode (R266). -/
def capTest (f : Frame) (cfg : WnwCfg) (sinr lev viol : Nat) (b : List Bool) : Bool :=
  decide (cfg.capMargin ≤ sinr) && lev == 2 && decide (viol ≤ cfg.violMax) && (f.kind == .rn16 || crc16Ok (payloadOf f b))

/-- NS from the eigenvalues (R263). -/
def wnwNS (cfg : WnwCfg) (eigs : List Nat) : Nat := max 1 (min 4 (eigs.filter fun x => decide (cfg.srcThr ≤ x)).length)

/-- SPREAD: the second eigenvalue below the first, 0xFF where there is none (R263). -/
def wnwSpread (eigs : List Nat) : Nat :=
  match eigs with
  | x :: y :: _ => min 255 (x - y)
  | _ => 255

/-- What the Winnower finds for one decided window. -/
structure Verdict where
  spatOff : Bool
  ns : Nat
  nb : Nat
  cls : Nat
  tried : Bool
  nulls : Nat
  capt : Bool
  payload : List Bool
  others : List Nat
  deriving DecidableEq, Repr

/-- The chain set of R261: the chains of RXMASK not excluded in the window. -/
def State.chainSet (s : State) (sh : Nat) : List Nat :=
  (s.rxOf sh).filter fun ch =>
    !(s.urxAt ch).exclNow && s.rst ch != rxOFF && (s.rst ch != rxIDLE || (s.urxAt ch).stopped)

/-- A window decided with a reply, or EMPTY (R261 to R268). The other sources tried are those that the spatial estimate counts beside
the dominant one (assumption 52). -/
def State.winnow (s : State) (sh : Nat) (cfg : WnwCfg) (f : Frame) (isEmpty : Bool) (ev : ReplyEvidence) : Verdict :=
  let off := decide ((s.chainSet sh).length < cfg.spatMin)
  if isEmpty then
    { spatOff := off, ns := 0, nb := 0, cls := 0, tried := false, nulls := 0, capt := false, payload := [], others := [] }
  else
    let ns := if off then 1 else wnwNS cfg ev.eigs
    let nb := wnwNB cfg ev.lev ev.viol
    let cls := min 4 (max nb ns)
    let tried := (f.kind == .rn16 || f.kind == .pcEpc) && cfg.capEn && decide (2 ≤ cls)
    let capt := tried && capTest f cfg ev.capSinr ev.capLev ev.capViol ev.capBits
    let found := (ev.others.take (ns - 1)).filter fun o => capTest f cfg o.sinr o.lev o.viol o.bits
    { spatOff := off, ns := ns, nb := nb, cls := cls, tried := tried, nulls := if tried then min 3 (ns - 1) else 0
      capt := capt, payload := payloadOf f (if capt then ev.capBits else ev.bits)
      others := if capt && cfg.otherEn then found.map fun o => ofBitsMsb ((payloadOf f o.bits).take 16) else [] }

/-- Count `k` of a running census block advanced. -/
def State.censAdd (s : State) (sh k n : Nat) : State :=
  let c := (List.range 10).map fun i => (s.census sh).getD i 0 + (if i == k then n else 0)
  { s with radio.census := Tab.set [] s.radio.census sh c }

/-- A decided window counted, and the block latched where it is full (R271). -/
def State.censCount (s : State) (sh : Nat) (kind : ReplyKind) (v : Verdict) (pcFail miss : Bool) : State :=
  if !s.on WNW.CENS_CFG_EN sh then s
  else
    let s1 := (s.when pcFail fun t => t.censAdd sh 7 1).when miss fun t => t.censAdd sh 8 1
    if s.on WNW.CENS_CFG_KIND sh || kind == .rn16 then
      let s2 := ((s1.censAdd sh 0 1).censAdd sh (1 + v.cls) 1).when v.capt fun t =>
        (t.censAdd sh 6 1).censAdd sh 9 v.others.length
      if max 1 (s.get WNW.CENS_CFG_LEN sh) ≤ (s2.census sh).getD 0 0 then s2.censusLatch sh false else s2
    else s1

/-- The Winnower's registers after a decision (R263, R264, R266 to R269, R271). `crcOk` is the result for the payload
delivered, `carried` that the window follows a matching ACK. -/
def State.wnwReport (s : State) (sh seq : Nat) (f : Frame) (cfg : WnwCfg) (v : Verdict) (ev : ReplyEvidence)
    (crcOk isEmpty : Bool) : State :=
  let carry := f.carry && cfg.carryEn
  let miss := carry && (isEmpty || !crcOk)
  let first := ofBitsMsb ((v.payload ++ List.replicate 16 false).take 16)
  let s1 := ((((((s.set WNW.DEC_SEQ seq sh).set WNW.DEC_SPAT_OFF (b2n v.spatOff) sh).set WNW.DEC_NS v.ns sh).set
    WNW.DEC_NB v.nb sh).set WNW.DEC_CARRY (b2n carry) sh).set WNW.DEC_CAPT (b2n v.capt) sh).set WNW.DEC_CLASS v.cls sh
  let s2 := ((s1.set WNW.METRIC_SPREAD (if isEmpty then 0 else wnwSpread ev.eigs) sh).set WNW.METRIC_LEV
    (if isEmpty then 0 else ev.lev) sh).set WNW.METRIC_VIOL (if isEmpty then 0 else min 255 ev.viol) sh
  let s3 := (((s2.set WNW.CAPINFO_SINR (if v.tried then ev.capSinr else 0) sh).set WNW.CAPINFO_PR
    (if v.tried then ev.powerRatio else 0) sh).set WNW.CAPINFO_CORR (if v.tried then ev.corr else 0) sh).set
    WNW.CAPINFO_NULLS v.nulls sh
  let s4 := s3.set WNW.CAPT_RN_VALID (b2n v.capt) sh
  let s5 := if v.capt then s4.set WNW.CAPT_RN_RN first sh else s4
  let s6 := (((s5.set WNW.OTHER01_RN0 (v.others.getD 0 0) sh).set WNW.OTHER01_RN1 (v.others.getD 1 0) sh).set
    WNW.OTHER2_RN2 (v.others.getD 2 0) sh).set WNW.OTHER2_VALID (2 ^ v.others.length - 1) sh
  let s7 := s6.when (decide (2 ≤ v.cls)) fun t => t.bump WNW.CNT_COLL_COUNT WNW.STATUS_SAT sh
  let s8 := s7.when v.capt fun t => t.bump WNW.CNT_CAPT_COUNT WNW.STATUS_SAT sh
  let s9 := s8.when miss fun t => (t.set WNW.STATUS_CAPT_MISS 1 sh).bump WNW.CNT_MISS_COUNT WNW.STATUS_SAT sh
  (s9.setEng sh { s9.engAt sh with captRn := if v.capt then some first else none }).censCount sh f.kind v
    (f.kind == .pcEpc && !isEmpty && !crcOk) miss

end Sys2Proof.Machine
end

