-- ==== Sys2Proof/Machine/Eng.lean ====
section
/-! DEFINITION. The UHF frame engine: frames issued, held and sent, receive windows, decisions, and command follow. -/

namespace Sys2Proof.Machine

open Sys2Proof

/-! ### Frames (R73 to R76, R198, R223, R224) -/

/-- The chains of a sheaf on which a frame can be sent: in CW or in LISTEN with carrier, not ramping (R75). -/
def State.txReady (s : State) (sh : Nat) : List Nat :=
  (s.txOf sh).filter fun c => s.carrier c && (s.ust c == txCW || s.ust c == txLISTEN) && (s.utxAt c).ramp.isNone

/-- A frame begins on the chains `on`: MOD with the MOD_CFG word of this moment, an open window closed without a
decision, the bits as memory has them until they are sent (R92, R206, R223; assumption 16), and the carry of a capture settled (R269).
`began` holds the delay from now to the first edge (R224). -/
def State.beginFrame (s : State) (sh : Nat) (f : Frame) (on : List Nat) : State :=
  let e := s.engAt sh
  if on == [] then s.setEng sh { e with held := none, taRunning := false, taExpired := false }
  else
    let f' := { s.frameRead { f with mem := [] } 0 with
      carry := f.cmd == 4 && e.captRn == some (f.ops.getD 0 0 % 65536), began := s.now + f.began }
    let s1 := s.setEng sh { e with
      sending := some f', held := none, taRunning := false, taExpired := false, minGap := false, afterFrame := none
      window := none, preamble := false, captRn := none }
    let s2 := s1.forL (s1.rxOf sh) fun ch t => t.setUrx ch { t.urxAt ch with frozen := false }
    s2.forL on fun c t => (t.setUtx c { t.utxAt c with modNow := t.modWord c, depthNow := modDepth (t.modWord c) }).setUst c txMOD

/-- A frame issued after its turnaround expired: TA_LATE, and LATE_POLICY on each chain (R75). -/
def State.lateFrame (s : State) (sh : Nat) (f : Frame) : State :=
  let on := s.txReady sh
  (s.forL on fun c t => t.set UTX.STATUS_TA_LATE 1 c).beginFrame sh f
    (on.filter fun c => !s.on UTX.CTRL_LATE_POLICY c)

/-- A TXF accepted: it is held for the running turnaround or for the 2.0 RTcal hold, or begins (R74, R75, R195, R198). An
open window closes without a decision (R206). -/
def State.issueFrame (s : State) (n sh : Nat) (f : Frame) : State :=
  let s1 := (s.forL (s.txOf sh) fun c t => t.set UTX.MOD_CFG_PAD (lkPad f.link) c).bump LSC.CNT_TXF_COUNT
    LSC.STATUS_SAT n
  let e := { s1.engAt sh with window := none, preamble := false }
  let s2 := s1.setEng sh e
  if e.taRunning then s2.setEng sh { e with held := some (f, .turnaround) }
  else if e.taExpired then s2.lateFrame sh f
  else if e.minGap then s2.setEng sh { e with held := some (f, .hold) }
  else s2.beginFrame sh { f with began := 24 } (s2.txReady sh)

/-- TXF under a sheaf lease: an ERR code of R224, or the state after the issue. -/
def State.txfUhf (s : State) (n sh fidx : Nat) : (Nat × State) ⊕ State :=
  let e := s.engAt sh
  let fe := s.frameEntry n fidx
  let ops := (List.range 4).map fun k => Tab.get 0 (s.seqAt n).g (12 + k)
  let f := s.mkFrame n fe ops
  let on := s.txReady sh
  let bad := on.filter fun c => s.get UTX.MOD_CFG_MODE c == 3
  let long := on.filter fun c => decide (min 500 (lkPw f.link) < s.shapeLen (s.get UTX.MOD_CFG_SHAPE c))
  if s.get SHF.COMP_ROLE sh == roleLISTEN then .inl (17, s)
  else if (s.opsAt n).cutting then .inl (25, s)
  else if e.sending.isSome || e.held.isSome then .inl (18, s)
  else if (s.seqAt n).fmtBase == 0 || (s.seqAt n).nfmt ≤ fidx then .inl (19, s)
  else if operandBad fe ops then .inl (20, s)
  else if on == [] then .inl (errBAD_STATE, s)
  else if bad != [] then .inl (errBAD_STATE, s.forL bad fun c t => t.utxRefuse c errBAD_STATE)
  else if long != [] then .inl (errSHAPE_LONG, s.forL long fun c t => t.utxRefuse c errSHAPE_LONG)
  else .inr (s.issueFrame n sh f)

/-- FRAME_END (R71, R88, R92, R99, R186): TXE, the chains leave MOD, what was held for the frame end takes effect. -/
def State.frameEnd (s : State) (sh : Nat) (f : Frame) : State :=
  let s1 := (s.setEng sh { s.engAt sh with
    sending := none, minGap := true, afterFrame := if f.reply then some f else none }).sheafEvent sh evTXE
  let on := (s1.txOf sh).filter fun c => s1.ust c == txMOD
  s1.forL on fun c t =>
    (((t.setUtx c { t.utxAt c with steerHeld := none }).setUst c txCW).refreshPwr c).utxProgress 8 c

/-- FRAME_END (R71). -/
def execFrameEnd (sh : Nat) (s : State) : Out :=
  match (s.engAt sh).sending with
  | some f => .next (s.frameEnd sh f)
  | none => .next s

/-- TURNAROUND_EDGE (R74, R75): a frame that waited begins; without one the turnaround has expired. -/
def execTurnaroundEdge (sh : Nat) (s : State) : Out :=
  let e := s.engAt sh
  if e.taRunning then
    match e.held with
    | some (f, .turnaround) => .next (s.beginFrame sh f (s.txReady sh))
    | _ => .next (s.setEng sh { e with taRunning := false, taExpired := true })
  else .next s

/-- FRAME_HOLD_RELEASE (R198): 2.0 RTcal have passed since the last rising edge of the previous frame. -/
def execFrameHoldRelease (sh : Nat) (s : State) : Out :=
  let e := s.engAt sh
  let s1 := s.setEng sh { e with minGap := false }
  match e.held with
  | some (f, .hold) => .next (s1.beginFrame sh f (s1.txReady sh))
  | _ => .next s1

/-! ### Windows (R76, R167, R197, R274) -/

/-- The STEER codes of the beam in use written to the sheaf's chains (R167). -/
def State.beamApply (s : State) (sh : Nat) : State :=
  match (s.sheafAt sh).beamPending with
  | none => s
  | some b =>
    let w := s.beamWord sh b 16
    (s.setSheaf sh { s.sheafAt sh with beamPending := none, beamNow := b }).forL (s.txOf sh) fun c t =>
      t.steer c (bits w (8 * c + 5) (8 * c))

/-- A reply window opens for a frame (R76, R174). -/
def State.windowOpen (s : State) (sh : Nat) (f : Frame) : State :=
  let s1 := s.beamApply sh
  s1.setEng sh { s1.engAt sh with window := some f, preamble := false, afterFrame := none, wnw := s1.wnwNow sh }

/-- RECEIVE_READY (R76): the chains of the sheaf enter LISTEN with carrier, and the window opens. -/
def execReceiveReady (sh : Nat) (s : State) : Out :=
  match (s.engAt sh).afterFrame with
  | none => .next s
  | some f =>
    let on := (s.txOf sh).filter fun c => s.carrier c && s.ust c == txCW && (s.utxAt c).ramp.isNone
    if on == [] then .next s
    else
      let s1 := (s.forL on fun c t => t.setUst c txLISTEN).rxOpenCw sh
      .next ((s1.windowOpen sh f).forL on fun c t => t.utxProgress 8 c)

/-- PREAMBLE_DETECT (R112, R197): the preamble is accepted; tracking freezes until the end of the reply. -/
def execPreambleDetect (sh : Nat) (s : State) : Out :=
  let e := s.engAt sh
  if e.window.isSome && !e.preamble then
    .next ((s.setEng sh { e with preamble := true }).forL (s.rxOf sh) fun ch t =>
      t.setUrx ch { t.urxAt ch with frozen := true })
  else .next s

/-! ### Decisions (R122, R193, R225, R226) -/

/-- The per-chain outputs of a decided window (R122). -/
def State.rxOutputs (s : State) (sh seq : Nat) (isEmpty : Bool) (ev : ReplyEvidence) : State :=
  s.forL (s.rxOf sh) fun ch t =>
    let ph := ev.phasors.getD ch (0, 0)
    let u := t.urxAt ch
    let t1 := (((t.set URX.PHASOR_I ph.1 ch).set URX.PHASOR_Q ph.2 ch).set URX.RSSI_RSSI (ev.rssi.getD ch 0) ch).set
      URX.RSSI_NOISE (ev.noise.getD ch 0) ch
    let t2 := (((((t1.set URX.REPLY_SEQ seq ch).set URX.REPLY_HELD (t.get URX.STATE_NULL_READY ch) ch).set URX.REPLY_EXCL
      (b2n u.exclNow) ch).set URX.REPLY_OVL (b2n u.ovlNow) ch).set URX.REPLY_COAST (t.get URX.STATE_COAST ch) ch).set
      URX.REPLY_FOREIGN (b2n (t.rst ch == rxFOREIGN)) ch
    let t3 := t2.setUrx ch { u with frozen := false }
    if isEmpty then t3 else t3.bump URX.CNT_REPLY_COUNT URX.STATUS_SAT ch

/-- The highest RSSI among the chains that contributed, as a 16-bit two's-complement value (R226). -/
def maxRssi (l : List Nat) : Nat :=
  match l with
  | [] => 0
  | x :: r => unsignedOf 16 (r.foldl (fun a y => max a (sint 16 y)) (sint 16 x))

/-- The header of a record, bytes 0 to 23 (R226, R251). -/
def State.recHead (s : State) (cls port chan len pc rssi flags : Nat) : List Nat :=
  toLe 4 s.atb.cycle ++ toLe 2 s.atb.angle ++ toLe 2 (s.get LSC.NODE_NODE) ++ [port, chan, cls, len] ++ toLe 2 pc ++
    toLe 2 rssi ++ [0, 0, 0, 0, 0, 0] ++ toLe 2 flags

/-- The record bank filled: its record and, past 32 EPC bytes, a continuation (R226, R251). The CRC-32C bytes are left 0
until the record is pushed or stored. -/
def State.recFill (s : State) (n cls port chan pc rssi : Nat) (epc xpc : List Nat) : State :=
  let fl := (s.seqAt n).recFlags
  let first := s.recHead cls port chan (min 32 epc.length) pc rssi fl ++ padTo 32 epc ++ padTo 4 xpc ++ [0, 0, 0, 0]
  let cont := if epc.length ≤ 32 then [] else
    s.recHead (128 + cls) port chan (epc.length - 32) pc rssi fl ++ padTo 32 (epc.drop 32) ++ [0, 0, 0, 0, 0, 0, 0, 0]
  s.setSeq n { s.seqAt n with recBank := first, recCont := cont }

/-- The record of a PC/EPC decision with CRC_OK (R226). A truncated reply has no PC word: that value is left open, and its
EPC is what it carries before its CRC (assumption 17). -/
def State.recUhf (s : State) (n sh : Nat) (f : Frame) (v : Verdict) (capt : Bool) (ev : ReplyEvidence) : State :=
  let listen := s.get SHF.COMP_ROLE sh == roleLISTEN
  let tx := if listen then s.get SHF.LO_CFG_LO_SYN sh else (s.txOf sh).headD 0
  let port := 64 * sh + 16 * tx + s.antOf tx
  let cls := if listen then 2 else b2n capt
  let rssi := maxRssi ((s.chainSet sh).map fun ch => ev.rssi.getD ch 0)
  let chan := s.get SHF.COMP_CHAN sh
  if f.trunc then
    let k := (v.payload.length - 16 + 7) / 8
    s.fresh.2.recFill n cls port chan (s.fresh.1 % 65536) rssi (packBits k (v.payload.take (v.payload.length - 16))) []
  else
    let x := pcX v.payload
    let xpc := (packBits (2 * x) ((v.payload.drop 16).take (16 * x)))
    let epc := packBits (2 * pcL v.payload) ((v.payload.drop (16 + 16 * x)).take (16 * pcL v.payload))
    s.recFill n cls port chan (cfField v.payload 0 16) rssi epc
      ([byteAt xpc 1, byteAt xpc 0, byteAt xpc 3, byteAt xpc 2])

/-- A decision delivered to the sequencer: the reply buffer zero-filled to a word boundary, RXRN, DECTS, RXSTAT and RXD
(R225); a payload past 0x7FFF is cut there. -/
def State.seqDecision (s : State) (n rxstat : Nat) (payload : List Bool) : State :=
  let k := min ((payload.length + 31) / 32 * 4) (0x8000 - (s.seqAt n).rxb)
  let s1 := (s.wrBytes (seqBase n + (s.seqAt n).rxb) (packBits k payload)).freshPar (seqBase n + (s.seqAt n).rxb) k
  ((s1.setSeq n { s1.seqAt n with
    rxstat := rxstat, rxrn := ofBitsMsb ((payload ++ List.replicate 16 false).take 16)
    dects := s.dsp % 4294967296 }).seqEvent n evRXD).bump LSC.CNT_RXD_COUNT LSC.STATUS_SAT n

/-- CRC_OK of a payload (R193, R203). -/
def crcResult (f : Frame) (payload : List Bool) (valid : Bool) : Bool :=
  if f.kind == .rn16 then valid else f.checkCrc && crc16Ok payload

/-- The window of frame `f` ends in a decision (R122, R193, R225, R226, R260, R271, R172). -/
def State.decideWindow (s : State) (sh : Nat) (f : Frame) (isEmpty : Bool) (ev : ReplyEvidence) : State :=
  let n := s.get SHF.LEASE_STATE_OWNER sh
  let seq := (s.get URX.REPLY_SEQ_SEQ + 1) % 65536
  let e := s.engAt sh
  let v := s.winnow sh e.wnw f isEmpty ev
  let crcOk := !isEmpty && crcResult f v.payload (v.capt || ev.valid)
  let capt := v.capt || (f.carry && e.wnw.carryEn)
  let hdr := (f.kind == .read || f.kind == .delayed) && v.payload.getD 0 false
  let listen := s.get SHF.COMP_ROLE sh == roleLISTEN
  let rxstat := 65536 * v.payload.length + (if hdr then 256 * cfField v.payload 1 8 else 0) + 128 * b2n listen +
    64 * b2n f.delayed + 32 * b2n hdr + 16 * b2n crcOk + 8 * b2n capt + v.cls
  let s1 := (s.set URX.REPLY_SEQ_SEQ seq).setEng sh { e with
    window := none, preamble := false, taRunning := !isEmpty && !listen, taExpired := false
    minGap := e.minGap && isEmpty && !(if f.delayed then lkSpanClears f.link (feTmo f.entry) else lkEmptyClears f.link) }
  let s2 := (s1.rxOutputs sh seq isEmpty ev).wnwReport sh seq f e.wnw v ev crcOk isEmpty
  let s3 := s2.seqDecision n rxstat v.payload
  let s4 := if f.kind == .pcEpc && crcOk then s3.recUhf n sh f v capt ev else s3
  if f.bear then
    let mask := ((s.chainSet sh).filter fun ch => s.hasElement ch).foldl (fun a ch => a + 2 ^ ch) 0
    s4.setSheaf sh { s4.sheafAt sh with bearDue := some (seq, mask) }
  else s4

/-- REPLY_DECISION (R197): the reply whose preamble was accepted has ended. -/
def execReplyDecision (sh : Nat) (ev : ReplyEvidence) (s : State) : Out :=
  match (s.engAt sh).window with
  | some f => if (s.engAt sh).preamble then .next (s.decideWindow sh f false ev) else .next s
  | none => .next s

/-- EMPTY_DECISION (R197, R199): no preamble was accepted. -/
def execEmptyDecision (sh : Nat) (ev : ReplyEvidence) (s : State) : Out :=
  match (s.engAt sh).window with
  | some f => if (s.engAt sh).preamble then .next s else .next (s.decideWindow sh f true ev)
  | none => .next s

/-! ### Command follow (R174 to R177, R269) -/

/-- The table of the LISTEN program marks the command's window for the bearing estimator (assumption 19). -/
def State.cfBear (s : State) (n code : Nat) : Bool :=
  (s.seqAt n).fmtBase != 0 && (List.range (s.seqAt n).nfmt).any fun k =>
    feCmd (s.frameEntry n k) == code && feBear (s.frameEntry n k)

/-- The window that a parsed command opens. -/
def State.cfFrame (s : State) (n : Nat) (b : List Bool) (carry : Bool) : Frame :=
  { seq := n, cmd := cfCode b, bits := b, reply := true, kind := cfKind b, bear := s.cfBear n (cfCode b)
    delayed := cfKind b == .delayed, trunc := false, checkCrc := true, carry := carry, words := cfWords b }

/-- A command parsed on a sheaf that follows (R174, R175). -/
def State.cfParsed (s : State) (sh : Nat) (b : List Bool) : State :=
  let n := s.get SHF.LEASE_STATE_OWNER sh
  let code := cfCode b
  let replies := cfKind b != .none
  let e := s.engAt sh
  let carry := code == 4 && e.captRn == some (cfField b 2 16)
  let s1 := (((s.set SHF.CF_STATE_STATE 2 sh).set SHF.CF_STATE_LAST_CMD (cfLast code) sh).bump SHF.CNT_CF_COUNT
    SHF.STATUS_SAT sh).setSeq n { s.seqAt n with cfcmd := 256 * b2n replies + cfLast code }
  let s2 := (s1.setEng sh { e with captRn := none, window := none, preamble := false }).seqEvent n evCFC
  let s3 := if code == 1 then s2.setSheaf sh { s2.sheafAt sh with cfLink := some (cfField b 4 4) } else s2
  if replies && !cfOpen b && (s.on SHF.CF_CFG_PRESET sh || (s3.sheafAt sh).cfLink.isSome) then
    ((s3.forL (s3.rxOf sh) fun ch t => (t.rxEnter ch).rxGain ch (t.get SHF.CF_STATE_LEVEL sh)).windowOpen sh (s.cfFrame n b carry))
  else s3

/-- CF_COMMAND_PARSED (R174, R177): `bits` are the decoded PIE symbols with their CRC. A frame that is not taken up ends the carry of a
capture, as any next frame does (R269). -/
def execCfCommandParsed (sh : Nat) (b : List Bool) (level : Nat) (s : State) : Out :=
  let st := s.get SHF.CF_STATE_STATE sh
  let s1 := s.cfLevel sh level
  if !(st == 1 || st == 2) || !s.on SHF.LEASE_STATE_HELD sh then .next s
  else if sint 16 level < sint 16 (s.get SHF.CF_CFG_MIN sh) then .next s1
  else
    let s2 := s1.setEng sh { s1.engAt sh with captRn := none }
    if cfCode b == 0 then .next ((s2.set SHF.CF_STATE_LAST_CMD 255 sh).bump SHF.CNT_CFERR_COUNT SHF.STATUS_SAT sh)
    else if !cfCrcOk b then .next ((s2.set SHF.STATUS_CF_ERR 1 sh).bump SHF.CNT_CFERR_COUNT SHF.STATUS_SAT sh)
    else .next (s1.cfParsed sh b)

end Sys2Proof.Machine
end

