-- ==== Sys2Proof/Machine/AtbOps.lean ====
section
/-! DEFINITION. The angle timebase: slot events, phase steps, the cycle boundary, and the states of R41. -/

namespace Sys2Proof.Machine

open Sys2Proof

/-- ATB states of R41. -/
def abOFF : Nat := 0
def abACQUIRE : Nat := 1
def abLOCKED : Nat := 2
def abSYNTH : Nat := 3
def abHOLDOVER : Nat := 4
def abFREE : Nat := 5

/-- The ATB's own state changed. -/
def State.updAtb (s : State) (g : Atb → Atb) : State := { s with atb := g s.atb }

/-- The state of the ATB. -/
def State.atbSt (s : State) : Nat := s.get ATB.STATE_STATE

/-- The nominal frequency in Hz (R39). -/
def State.nomHz (s : State) : Nat := if s.on ATB.CTRL_NOM then 60 else 50

/-- The nominal period in Q24.8 REFCLK cycles (R567). -/
def State.atbNominal (s : State) : Nat := if s.on ATB.CTRL_NOM then 170666667 else 204800000

/-- The measured period in Q24.8 REFCLK cycles; the nominal one before any is measured (R36, R39). -/
def State.atbPeriod (s : State) : Nat :=
  if s.get ATB.PERIOD_PERIOD != 0 then s.get ATB.PERIOD_PERIOD else s.atbNominal

/-- The period at which the phase accumulator runs, in Q24.8 REFCLK cycles (R36, R41, R49, R567). -/
def State.atbRate (s : State) : Nat := if s.atb.rate == 0 then s.atbNominal else s.atb.rate

/-- A cycle lasts P and not the measured period: the source is SYNTH, or SYNTH is the fallback of MAINS (R45, R49). -/
def State.onGrid (s : State) : Bool := s.on ATB.CTRL_SRC || s.atbSt == abSYNTH

/-- P of R49 in thirds of a nanosecond, of which both nominal periods are whole numbers. -/
def State.atbP3 (s : State) : Nat := if s.on ATB.CTRL_NOM then 50000000 else 60000000

/-- The signed distance of an angle from another, the shorter way (R39). -/
def angleErr (a b : Nat) : Int := sint 16 ((a + 65536 - b % 65536) % 65536)

/-- The PTP time now: the time of the last synchronisation plus the REFCLK time since. -/
def State.ptpNow (s : State) : Nat := s.atb.ptpNs + (s.now - s.atb.ptpAt) * 25 / 6

/-- The angle that the grid of R49 gives for PTP time `t`. -/
def State.gridAngle (s : State) (a : Anchor) (t : Nat) : Nat :=
  let d : Int := 3 * ((t : Int) - a.ptpNs)
  ((d % (s.atbP3 : Int)) * 65536 / (s.atbP3 : Int)).toNat % 65536

/-- The rate steered in SYNTH (R49): the cycle lengthened or shortened by at most 1,024 au so that its end falls on the grid, from the
angle that it has at PTP time `t`; the period P without an anchor. -/
def State.synthSteer (s : State) (t : Nat) : State :=
  match s.atb.anchor with
  | none => s.updAtb fun a => { a with rate := 0 }
  | some anc =>
    let e := max (-1024) (min 1024 (angleErr (s.gridAngle anc t) s.atb.angle))
    let left : Int := 65536 - s.atb.angle
    s.updAtb fun a => { a with rate := max 1 (((s.atbNominal : Int) * (left - e)) / left).toNat }

/-! ### Photodiode integrations (R65, R346) -/

/-- An integration starts: PD_CFG.INT + 1 cycles. -/
def State.pdBegin (s : State) : State :=
  { s with lum.pdLeft := some (s.get LUM.PD_CFG_INT + 1), lum.pdUnsync := false }

/-- A cycle boundary counts towards the integration under way; with TRIG = 0 the first one starts it. -/
def State.pdBoundary (s : State) : State :=
  match s.lum.pdLeft with
  | some k => { s with lum.pdLeft := some (k - 1) }
  | none => if s.on LUM.PD_CFG_TRIG then s else s.pdBegin

/-- The angle-triggered event routed to LUM starts an integration when TRIG = 1. -/
def State.pdTrigger (s : State) : State :=
  if s.on LUM.PD_CFG_TRIG && s.lum.pdLeft.isNone then s.pdBegin else s

/-- An integration that the ATB steps through, or during which it leaves LOCKED_MAINS or SYNTH, is UNSYNC. -/
def State.pdSpoil (s : State) : State := { s with lum.pdUnsync := true }

/-! ### Angle-triggered events (R65) -/

/-- An angle-triggered event fires on its routes: the sequencers' event lines, the LUM trigger and ATB_EVOUT; source 70 follows from
AEV_STATUS. -/
def State.aevFire (s : State) (ev : Nat) : State :=
  let route := Tab.get 0 s.aev.route ev
  let mode := Tab.get 0 s.aev.mode ev
  let s1 : State := { s.setBit ATB.AEV_STATUS_FIRED ev true with
    aev.fired := Tab.set 0 s.aev.fired ev (s.atb.cycle + 1)
    aev.mode := if mode == 2 then Tab.set 0 s.aev.mode ev 0 else s.aev.mode }
  let s2 := if bitOf route 1 then s1.forN 16 fun n t => t.seqEvent n evAEV else s1
  let s3 := if bitOf route 2 then s2.pdTrigger else s2
  if bitOf route 3 then s3.pulse 4 else s3

/-- An event may fire in the present cycle: modes 1 and 2, once per cycle number. -/
def State.aevReady (s : State) (ev : Nat) : Bool :=
  let mode := Tab.get 0 s.aev.mode ev
  (mode == 1 || mode == 2) && Tab.get 0 s.aev.fired ev != s.atb.cycle + 1

/-- The events whose compare angles a forward phase step passes or reaches, from `lo` up to before `hi`. -/
def State.aevPass (s : State) (lo hi : Nat) : State :=
  s.forN 8 fun ev t =>
    let c := Tab.get 0 t.aev.cmp ev
    if t.aevReady ev && lo ≤ c && c < hi then t.aevFire ev else t

/-! ### Slots (R44, R59 to R62, R145, R230) -/

/-- The chains of a slot's TXMASK. -/
def slChains (e : List Nat) : List Nat := setBits 4 (slTxmask e)

/-- The lease of a slot's sheaf is held for that slot. -/
def State.slotLeased (s : State) (sh k : Nat) : Bool :=
  s.on SHF.LEASE_STATE_HELD sh && s.get SHF.LEASE_STATE_SLOT sh == k

/-- A slot's mark among the slots prepared and not yet started of its chains (R138). -/
def State.prepMark (s : State) (k : Nat) (e : List Nat) (on : Bool) : State :=
  s.forL (slChains e) fun c t => { t with rge.prepped := Tab.set 0 t.rge.prepped c (putBit (t.preppedOf c) k on) }

/-- SLOT_PREP raised for slot `k` of cycle `cyc` (R44, R59). -/
def State.slotPrep (s : State) (k : Nat) (e : List Nat) (cyc : Nat) : State :=
  let s1 := (s.updAtb fun a => { a with slotPrep := Tab.set 0 a.slotPrep k (cyc + 1) }).set ATB.STATUS_SLOT_PREP 1
  if slCarries e then s1.prepMark k e true else s1

/-- The grant of every chain of a slot that still carries carrier is withdrawn at its END (R145). -/
def State.slotCut (s : State) (e : List Nat) : State :=
  s.forL ((slChains e).filter fun c => s.carrier c && s.bit RGE.STATE_GRANT c) fun c t =>
    let t1 := ((t.rgeLog 24 c (t.grantChan c)).bump RGE.CNT_CUT_COUNT RGE.STATUS_SAT).set RGE.STATUS_CUT 1
    t1.withdraw c true

/-- SLE latched, and implicit in the mask of the WAIT under way even after the lease is freed (R221, R230). -/
def State.seqOver (s : State) (n : Nat) : State :=
  let s1 := s.seqEvent n evSLE
  match (s1.opsAt n).wait with
  | some w => s1.setOps n { s1.opsAt n with wait := some { w with mask := putBit w.mask evSLE true } }
  | none => s1

/-- What the END of a leased slot means to its holder (R157, R230). -/
def State.slotEndLease (s : State) (sh : Nat) : State :=
  let n := s.get SHF.LEASE_STATE_OWNER sh
  let s1 := (s.seqOver n).set LSC.STATUS_CUT 1 n
  let s2 := match (s1.opsAt n).rqs with
    | some _ => (s1.setOps n { s1.opsAt n with rqs := none, rqsErr := errRGE_DENY }).seqEvent n evRDY
    | none => s1
  (s2.setOps n { s2.opsAt n with cutting := true }).leaseEnd sh .cut

/-- A running slot of sheaf `sh` ends (R44, R61, R62, R145, R173). -/
def State.slotEnd (s : State) (sh : Nat) : State :=
  if s.runningSlot sh == 0 then s
  else
    let k := s.runningSlot sh - 1
    let e := slotWords s.atb.actWords k
    let s1 := ((s.updAtb fun a => { a with running := Tab.set 0 a.running sh 0 }).setBit ATB.CUR_SLOT_IN_SLOT sh
      false).set ATB.STATUS_SLOT_END 1
    let s2 := s1.forL (slChains e) fun c t => t.setBit RGE.STATE_WINDOW c false
    let s3 := s2.slotCut e
    let s4 := if slRole e == roleLISTEN then
        ((s3.rxCloseForeign sh).set SHF.CF_STATE_STATE 0 sh).setEng sh { s3.engAt sh with window := none, preamble := false }
      else s3
    if s.slotLeased sh k then s4.slotEndLease sh else s4

/-- Every running slot ends: radio becomes suppressed, or a phase step moves the angle (R44, R62). -/
def State.slotEndAll (s : State) : State := s.forN 4 fun sh t => t.slotEnd sh

/-- Running slots end where the ATB's state now suppresses radio (R62). -/
def State.slotCheck (s : State) : State := if s.suppressed then s.slotEndAll else s

/-- A slot that falls due but does not run: SLOT_SUPPRESSED, and SLE for its holder (R62, R218). -/
def State.slotSuppress (s : State) (k : Nat) (e : List Nat) : State :=
  let s1 := ((s.updAtb fun a => { a with slotStart := Tab.set 0 a.slotStart k (a.cycle + 1) }).set
    ATB.STATUS_SLOT_SUPPRESSED 1).prepMark k e false
  if s1.slotLeased (slSheaf e) k then s1.sheafEvent (slSheaf e) evSLE else s1

/-- A LISTEN slot's window opens on its leased sheaf, command follow searching (R106, R173, R175). -/
def State.listenStart (s : State) (sh : Nat) : State :=
  let s1 := (s.rxOpenForeign sh).set SHF.CF_STATE_STATE 1 sh
  s1.setSheaf sh { s1.sheafAt sh with cfSeen := false }

/-- A chain's carrier window opens: the hold ends, but not in FAILSAFE (R149), and a request that waits is checked again and decided
(R138, R142). -/
def State.windowStart (s : State) (c k : Nat) : State :=
  let s0 := if s.get SYS.MODE_MODE == 3 then s else s.setBit RGE.STATE_HOLD c false
  let s1 := (s0.setBit RGE.STATE_WINDOW c true).unPre c
  let s2 := { s1 with rge.prepped := Tab.set 0 s1.rge.prepped c (putBit (s1.preppedOf c) k false) }
  if (s2.utxAt c).grantAsked then s2.rgeDecide c else s2

/-- SLOT_START of slot `k` (R60, R61, R173, R228). -/
def State.slotRun (s : State) (k : Nat) (e : List Nat) : State :=
  let sh := slSheaf e
  let s1 := (((s.updAtb fun a => { a with
      slotStart := Tab.set 0 a.slotStart k (a.cycle + 1), running := Tab.set 0 a.running sh (k + 1) }).setBit
    ATB.CUR_SLOT_IN_SLOT sh true).set ATB.CUR_SLOT_LAST_START k).set ATB.STATUS_SLOT_START 1
  let s2 := if s1.slotLeased sh k then
      let n := s1.get SHF.LEASE_STATE_OWNER sh
      let t := (s1.setSheaf sh { s1.sheafAt sh with started := true }).setSeq n { s1.seqAt n with
        ctx1 := ctx1Of e, ctx2 := ctx2Of true k sh }
      (if slRole e == roleLISTEN then t.listenStart sh else t).seqEvent n evSLS
    else s1
  if slCarries e then s2.forL (slChains e) fun c t => t.windowStart c k else s2

/-- The slots of the active plan, with their indices. -/
def State.actSlotList (s : State) : List (Nat × List Nat) :=
  (List.range s.atb.actSlots).map fun k => (k, slotWords s.atb.actWords k)

/-- Slot `k` has been started, or found suppressed, in the present cycle (R44). -/
def State.slotSeen (s : State) (k : Nat) : Bool := Tab.get 0 s.atb.slotStart k == s.atb.cycle + 1

/-- SLOT_PREP has been raised for slot `k` of cycle `cyc` (R44). -/
def State.slotPrepped (s : State) (k cyc : Nat) : Bool := Tab.get 0 s.atb.slotPrep k == cyc + 1

/-! ### Phase steps (R43, R44) -/

/-- What a forward step from angle `a` to `b` passes (R44): the STARTs of slots not yet started, and prep angles. A slot whose
START is `b` has still to start. -/
def State.stepPass (s : State) (a b : Nat) : State :=
  s.forL s.actSlotList fun p t =>
    let k := p.1
    let e := p.2
    if !slDue e t.atb.cycle || t.slotSeen k then t
    else if a ≤ slStart e && slStart e < b then t.slotSuppress k e
    else if b ≤ slStart e && slStart e ≤ b + t.get ATB.PREP_PREP_LEAD && !t.slotPrepped k t.atb.cycle && !t.suppressed then
      t.slotPrep k e t.atb.cycle
    else t

/-- The prep angles that a forward step to angle `b` passes for slots of the next cycle, which start earlier in it than the prep
lead (R44, R58, R59). -/
def State.stepPassNext (s : State) (b : Nat) : State :=
  let next := s.planFor true
  s.forN next.2 fun k t =>
    let e := slotWords next.1 k
    if slDue e t.nextCycle && slStart e < t.get ATB.PREP_PREP_LEAD && 65536 + slStart e ≤ b + t.get ATB.PREP_PREP_LEAD &&
        !t.slotPrepped k t.nextCycle && !t.suppressed then t.slotPrep k e t.nextCycle
    else t

/-- The angle moved within its cycle, or back across its start, the shorter way round (R43): running slots end, and with
STANDALONE the slots passed are resolved (R44). -/
def State.stepShort (s : State) (new : Nat) : State :=
  let old := s.atb.angle
  let d := (new + 65536 - old) % 65536
  if d == 0 then s.updAtb fun a => { a with angle := new }
  else
    let s1 := s.slotEndAll.pdSpoil
    if d < 32768 then
      (((s1.stepPass old new).stepPassNext new).updAtb fun a => { a with angle := new, frac := 0 }).aevPass (old + 1) (new + 1)
    else if old < new then
      s1.updAtb fun a => { a with angle := new, frac := 0, cycle := (a.cycle + 4294967295) % 4294967296 }
    else s1.updAtb fun a => { a with angle := new, frac := 0 }

/-! ### States (R41, R62, R566, R567) -/

/-- A state entered: LOCKED and SYNC_LOST bits, the rate that the state gives the accumulator, and the slots that it suppresses
end. -/
def State.atbEnter (s : State) (st : Nat) : State :=
  if s.atbSt == st then s
  else
    let s1 := s.set ATB.STATE_STATE st
    let s2 := s1.when (st == abLOCKED || st == abSYNTH) fun t => t.set ATB.STATUS_LOCKED 1
    let s3 := s2.when (st == abHOLDOVER) fun t => (t.set ATB.STATUS_SYNC_LOST 1).updAtb fun a => { a with holdAt := t.now }
    let s4 := s3.when (st == abACQUIRE) fun t => t.updAtb fun a => { a with acqStepped := false, goodEdges := 0 }
    let s5 := s4.when (st == abHOLDOVER) fun t => t.updAtb fun a => { a with
      rate := if s.on ATB.CTRL_SRC then 0 else s.atbPeriod }
    let s6 := s5.when (st == abSYNTH) fun t => t.synthSteer t.ptpNow
    (s6.when ((s.atbSt == abLOCKED || s.atbSt == abSYNTH) && st != abLOCKED && st != abSYNTH) State.pdSpoil).slotCheck

/-! ### The boundary (R57) -/

/-- An OFFSET written since it was last applied takes effect at a boundary, where ANGLE is 0, as a phase step the shorter way
round, a backward one taking CYCLE back, and the ATB acquires again (R43, R57). -/
def State.offsetApply (s : State) : State :=
  let new := s.get ATB.OFFSET_OFFSET
  if s.on ATB.CTRL_SRC || new == s.atb.offApplied then s
  else
    let d := (65536 + new - s.atb.offApplied) % 65536
    let s1 := s.pdSpoil.updAtb fun a => { a with
      offApplied := new, angle := d, cycle := if d < 32768 then a.cycle else (a.cycle + 4294967295) % 4294967296 }
    (s1.atbEnter abACQUIRE).updAtb fun a => { a with acqStepped := false, goodEdges := 0 }

/-- The slots of the cycle that has begun, of the plan then active: those that a forward OFFSET step has passed (R44, R57). -/
def State.offsetPass (s : State) (cyc : Nat) : State :=
  if s.atb.angle != 0 && s.atb.cycle == cyc then
    ((s.stepPass 0 s.atb.angle).stepPassNext s.atb.angle).aevPass 0 (s.atb.angle + 1)
  else s

/-- CYCLE_ADJ armed by ADJ_GO is applied (R48). -/
def State.adjApply (s : State) : State :=
  if s.atb.adjArmed then
    ((s.updAtb fun a => { a with adjArmed := false, cycle := (a.cycle + s.get ATB.CYCLE_ADJ_DELTA) % 4294967296 }).set
      ATB.STATUS_CYCLE_STEP 1).set ATB.STATE_CYCLE_VALID 1
  else s

/-- The banks swapped where an armed plan's cycle has come (R57, R58). PLAN_ID, SLOTS and PLAN_ACT keep the activated plan's values, and
the pending bank's words become the former plan's (DESIGN CHOICE, assumption 48). -/
def State.planSwap (s : State) : State :=
  if s.on ATB.PLAN_CTRL_ARMED && !cycAfter (s.get ATB.PLAN_ACT_ACT_CYCLE) s.atb.cycle then
    let s1 := s.updAtb fun a => { a with
      actWords := a.pendWords, pendWords := a.actWords, actSlots := s.get ATB.PLAN_CTRL_SLOTS
      actId := s.get ATB.PLAN_CTRL_PLAN_ID, actCycle := s.get ATB.PLAN_ACT_ACT_CYCLE }
    (((s1.set ATB.PLAN_CTRL_ARMED 0).set ATB.PLAN_CTRL_ACTIVE_BANK (1 - s.get ATB.PLAN_CTRL_ACTIVE_BANK)).set
      ATB.CUR_SLOT_ACTIVE_PLAN_ID (s.get ATB.PLAN_CTRL_PLAN_ID)).set ATB.STATUS_PLAN_ACT 1
  else s

/-- Marks of slots prepared for other cycles than the present one are dropped. -/
def State.prepClean (s : State) : State :=
  s.forN 4 fun c t =>
    let m := ((setBits 32 (t.preppedOf c)).filter fun k => t.slotPrepped k t.atb.cycle).foldl (fun a k => a + 2 ^ k) 0
    { t with rge.prepped := Tab.set 0 t.rge.prepped c m }

/-- A cycle boundary whose PTP timestamp is `ns` (R47, R50, R57). -/
def State.boundary (s : State) (ns : Nat) : State :=
  let s1 := s.slotEndAll
  let cyc := (s1.atb.cycle + 1) % 4294967296
  let s2 := (s1.updAtb fun a => { a with
    angle := 0, frac := 0, cycle := cyc, stamps := (ns :: a.stamps).take 256 }).set ATB.STATUS_CYCLE 1
  let s3 := if cyc == 0 then s2.set ATB.STATUS_WRAP 1 else s2
  let s4 := s3.adjApply
  let s5 := (s4.pdBoundary.offsetApply.planSwap.prepClean).offsetPass s4.atb.cycle
  s5.when (s5.atbSt == abSYNTH) fun t => t.synthSteer ns

/-- A phase step to angle `new` the shorter way round; a forward one past 65,535 raises one boundary (R43). -/
def State.phaseStep (s : State) (new : Nat) : State :=
  let old := s.atb.angle
  let d := (new + 65536 - old) % 65536
  if d != 0 && d < 32768 && new < old then
    let s1 := ((s.slotEndAll.stepPass old 65536).aevPass (old + 1) 65536).boundary s.ptpNow
    ((((s1.stepPass 0 new).stepPassNext new).updAtb fun a => { a with angle := new, frac := 0 }).aevPass 0 (new + 1)).pdSpoil
  else s.stepShort new

/-- SYNTH entered where the servo is locked and an anchor is held: from FREE by a single step onto the grid (R49). -/
def State.synthEnter (s : State) : State :=
  match s.atb.anchor with
  | some a =>
    if s.on ATB.STATE_PTP_OK && s.on ATB.CTRL_SRC && (s.atbSt == abFREE || s.atbSt == abHOLDOVER) then
      if s.atbSt == abFREE then
        let s1 := (s.atbEnter abSYNTH).phaseStep (s.gridAngle a s.ptpNow)
        s1.synthSteer s1.ptpNow
      else s.atbEnter abSYNTH
    else s
  | none => s

/-- The angle brought to `a` where it still lies before it: an event at that angle has come. -/
def State.angleTo (s : State) (a : Nat) : State :=
  if s.atb.angle < a then s.updAtb fun b => { b with angle := min 65535 a, frac := 0 } else s

end Sys2Proof.Machine
end

