-- ==== Sys2Proof/Machine/Bud.lean ====
section
/-! DEFINITION. The power budget: what a slot costs, what the leases held use, and what remains (R386 to R391). -/

namespace Sys2Proof.Machine

open Sys2Proof

/-- The power of a PD class in mW (R386); without a class that the spec lists, UNCLASSED_MW. -/
def State.classMw (s : State) : Nat :=
  let c := s.get PWR.STATE_CLASS
  if 10 ≤ c && c ≤ 15 then [1230, 3200, 8400, 7700, 20000, 52000].getD (c - 10) 0 else s.objNum 0x1010 4 0

/-- The PA budget in mW (R387). -/
def State.budget (s : State) : Int :=
  (min (s.objNum 0x1011 0 13000) s.classMw : Nat) - (s.objNum 0x1012 0 6500 : Nat)

/-- One bit of the search for the greatest `p` whose 2560th power stays within a bound. -/
def rootStep (k bound p : Nat) : Nat := if (p + 2 ^ k) ^ 2560 ≤ bound then p + 2 ^ k else p

/-- The greatest `p` whose 2560th power stays within a bound, below 2^54. -/
def root2560 (bound : Nat) : Nat := (List.range 54).foldl (fun p i => rootStep (53 - i) bound p) 0

/-- 10^(EXPECT / 10) mW of an EXPECT in Q8.8 dBm, in whole microwatts, rounded down (assumption 23). -/
def dbmUw (e : Int) : Nat := if e + 7680 < 0 then 0 else root2560 (10 ^ (e + 7680).toNat)

/-- The cost of a chain at an index for a frequency, in microwatts (R387). -/
def State.chainCost (s : State) (n khz i : Nat) : Nat :=
  match s.powerTable n (bandGroup khz) with
  | some t => if entUse t i then dbmUw (entExpect t i) * 100 / s.objNum 0x1013 0 40 + 1000 * s.objNum 0x1014 0 250 else 0
  | none => 0

/-- The cost of a slot's chains with PWR_CEIL taken as `ceil` (R387). -/
def State.slotCostAt (s : State) (e : List Nat) (ceil : Nat) : Nat :=
  (setBits 4 (slTxmask e)).foldl (fun a n =>
    a + s.chainCost n (s.chanKhz (slChan e)) (max ceil (s.ceilOf (some (slChan e))))) 0

/-- The cost of a slot; a slot without a carrier role costs nothing. -/
def State.slotCost (s : State) (e : List Nat) : Nat := if slCarries e then s.slotCostAt e (slCeil e) else 0

/-- The sheaves leased with carrier roles. -/
def State.carrierSheaves (s : State) : List Nat :=
  (List.range 4).filter fun sh => s.on SHF.LEASE_STATE_HELD sh && slCarries (s.sheafAt sh).slotWords

/-- The cost of the sheaves leased with carrier roles, in microwatts (R389, object 0x1016:02). -/
def State.budgetUsed (s : State) : Nat :=
  s.carrierSheaves.foldl (fun a sh => a + s.slotCost (s.sheafAt sh).slotWords) 0

/-- A cost in microwatts fits the budget. -/
def State.fits (s : State) (uw : Nat) : Bool := decide ((uw : Int) ≤ 1000 * s.budget)

/-- A slot under PWR_CEIL `i`. -/
def slWithCeil (e : List Nat) (i : Nat) : List Nat :=
  let w := e.getD 1 0
  e.set 1 (w - bits w 22 16 * 65536 + i % 128 * 65536)

/-- A slot turned into IDLE. -/
def slIdle (e : List Nat) : List Nat := e.set 1 (bits (e.getD 1 0) 29 0)

/-- A slot as Core A adjusts it to the budget: the smallest index at which it fits, else IDLE (R388). -/
def State.slotAdjust (s : State) (e : List Nat) : List Nat :=
  if !slCarries e || s.fits (s.slotCost e) then e
  else match ((List.range 128).filter fun i => slCeil e ≤ i).find? fun i => s.fits (s.slotCostAt e i) with
    | some i => slWithCeil e i
    | none => slIdle e

/-- Core B's check at a slot's prep: above the budget or the thermal cap the slot runs unserved (R389, R499). -/
def State.prepServe (s : State) (e : List Nat) : State :=
  if slCarries e && (!s.fits (s.budgetUsed + s.slotCost e) || s.get PWR.STATE_SHEAF_CAP ≤ s.carrierSheaves.length) then
    { s with net.unserved := min 4294967295 (s.net.unserved + 1) }
  else s

end Sys2Proof.Machine
end

