-- ==== Sys2Proof/Machine/RegAcc.lean ====
section
/-! DEFINITION. Register access common to every block: decoding and aliases, the word that a register reads as, the lanes
that a write takes, read-clear bits and AON copies (R436 to R445). -/

namespace Sys2Proof.Machine

open Sys2Proof

/-- A block of the peripheral map (R20, R439): its base, the mask of its page 0, the mask of its page 1 where bit 10 of
the offset selects a page, and its fields. -/
structure Blk where
  base : Nat
  mask0 : Nat
  mask1 : Option Nat
  fields : List Fld
  deriving DecidableEq, Repr

/-- The blocks that have register tables, with the masks of their register sections. -/
def blocks : List Blk := [
  ⟨0x40000000, 0x0FC, none, SYS.fields⟩, ⟨0x40010000, 0x07C, none, CLK.fields⟩, ⟨0x40020000, 0x03C, none, PWR.fields⟩,
  ⟨0x40030000, 0x07C, none, ATB.fields⟩, ⟨0x40040000, 0x01C, some 0x7FC, TMR.fields⟩, ⟨0x40050000, 0x03C, none, RGE.fields⟩,
  ⟨0x40060000, 0x33C, none, UTX.fields⟩, ⟨0x40070000, 0x31C, none, RFS.fields⟩, ⟨0x40080000, 0x03C, some 0x7FC, URX.fields⟩,
  ⟨0x40090000, 0x01C, some 0x73C, SHF.fields⟩, ⟨0x400A0000, 0x01C, some 0x73C, WNW.fields⟩,
  ⟨0x400B0000, 0x01C, some 0x7FC, LSC.fields⟩, ⟨0x400C0000, 0x01C, some 0x7FC, QUE.fields⟩, ⟨0x400D0000, 0x07C, none, HFR.fields⟩,
  ⟨0x400E0000, 0x3FC, none, HFT.fields⟩, ⟨0x400F0000, 0x07C, none, LUM.fields⟩, ⟨0x40100000, 0x1FC, none, MPT.fields⟩,
  ⟨0x40110000, 0x07C, none, GRN.fields⟩, ⟨0x40140000, 0x03C, none, HLK.fields⟩, ⟨0x40150000, 0x03C, none, CAL.fields⟩,
  ⟨0x40160000, 0x07C, none, AGE.fields⟩, ⟨0x40190000, 0x03C, none, AON.fields⟩]

/-- The block whose 64 KiB window holds an address. -/
def blockAt (a : Nat) : Option Blk := blocks.find? fun b => b.base == a / 65536 * 65536

/-- The register that an address decodes to (R439). -/
def Blk.decode (b : Blk) (a : Nat) : Nat :=
  let x := a % 65536
  match b.mask1 with
  | some m => b.base + (if bitOf x 10 then Nat.land x m else Nat.land x b.mask0)
  | none => b.base + Nat.land x b.mask0

/-- The instance of a field that lies in the register at `a`. -/
def Fld.inst (f : Fld) (a : Nat) : Option Nat :=
  if f.stride == 0 then (if a == f.addr then some 0 else none)
  else if f.addr ≤ a && (a - f.addr) % f.stride == 0 && (a - f.addr) / f.stride < f.count then some ((a - f.addr) / f.stride)
  else none

/-- The fields of the register at `a`, each with its instance. -/
def Blk.at (b : Blk) (a : Nat) : List (Fld × Nat) := b.fields.filterMap fun f => (f.inst a).map fun n => (f, n)

/-- A field as software reads it: an AON field through its copy (R441). -/
def State.seen (s : State) (f : Fld) (n : Nat) : Nat :=
  if f.aon then Tab.get (f.rst n) s.bus.copies (f.key n) else s.get f n

/-- A field's value changed as software sees it. -/
def State.setSeen (s : State) (f : Fld) (n v : Nat) : State :=
  if f.aon then { s with bus.copies := Tab.set (f.rst n) s.bus.copies (f.key n) (v % 2 ^ f.width) } else s.set f v n

/-- The word of a register's stored fields. -/
def State.wordOf (s : State) (fs : List (Fld × Nat)) : Nat := fs.foldl (fun a p => a + s.seen p.1 p.2 * 2 ^ p.1.lo) 0

/-- The word of the register that holds instance `n` of a field. -/
def State.regWord (s : State) (f : Fld) (n : Nat := 0) : Nat :=
  match blockAt f.addr with
  | some b => s.wordOf (b.at (f.at n))
  | none => 0

/-- The bits of a 32-bit word that an access of `w` bytes at byte `o` reaches (R437). -/
def laneMask (o w : Nat) : Nat := (2 ^ (8 * w) - 1) * 2 ^ (8 * o)

/-- The value of a field after the bits `m` of the word `v` are written to it. -/
def fieldMerge (f : Fld) (old v m : Nat) : Nat :=
  let k := bits m f.hi f.lo
  Nat.lor (Nat.land old ((2 ^ f.width - 1) - k)) (Nat.land (bits v f.hi f.lo) k)

/-- Read-clear bits of a register cleared in the lanes read, in the copy and in the AON domain (R437, R441, R445). -/
def State.rcClear (s : State) (fs : List (Fld × Nat)) (m : Nat) : State :=
  s.forL fs fun p t =>
    if p.1.acc == .rc then
      let t1 := t.set p.1 (fieldMerge p.1 (t.get p.1 p.2) 0 m) p.2
      if p.1.aon then t1.setSeen p.1 p.2 (fieldMerge p.1 (t.seen p.1 p.2) 0 m) else t1
    else t

/-- Whether software may write a field. -/
def Acc.writable : Acc → Bool
  | .rw => true
  | .rwv => true
  | .bw => true
  | _ => false

/-- The number, in the order of R444, of the voted field that a register field belongs to: 0 life-cycle state, 1 profile, 2
ceiling index and GUARD, 3 RF enable, 4 failsafe level, 5 boot image pointer, 6 calibration bank pointer. -/
def votedNo (f : Fld) : Option Nat :=
  if f == SYS.LC_STATE then some 0
  else if f == RGE.GUARD_GUARD || f == RGE.GUARD_STEPS then some 2
  else if f == RGE.CTRL_RF_EN then some 3
  else if f.addr == LUM.FS_LEVEL_FS_PWM.addr then some 4
  else if f.addr == AON.BOOT_PTR_FW.addr then some 5
  else if f == CAL.BANK_PTR then some 6
  else none

/-- The three copies of voted field `k` made equal by a write (R443). -/
def State.voteClean (s : State) (k : Nat) : State := { s with badVotes := Tab.set (0, 0, 0) s.badVotes k (0, 0, 0) }

/-- The value that a clamped field takes where `v` is written to it: SYNTH_WAIT (R84), FOV and MIN_CHAINS (R182), SPAT_MIN (R275),
OFS_HZ (R282), PERIOD (R295), LEW_MV (R483);
assumption 39. -/
def Fld.clamp (f : Fld) (v : Nat) : Nat :=
  if f == UTX.LIMITS_SYNTH_WAIT then max 60 (min 1000 v)
  else if f == SHF.BEAR_CFG_FOV then max 10 (min 85 v)
  else if f == SHF.BEAR_CFG_MIN_CHAINS then max 3 (min 16 v)
  else if f == WNW.CFG_SPAT_MIN then max 3 (min 16 v)
  else if f == HFR.SYN_OFS_HZ then unsignedOf 16 (max (-7000) (min 7000 (sint 16 v)))
  else if f == HFR.GL_CFG_PERIOD then max 10 (min 100 v)
  else if f == PWR.LEW_CFG_LEW_MV then max 18000 (min 22000 v)
  else v

/-- A write to the writable fields of a register: AON fields in their copies, to be carried at the next slow-clock edge
(R441); the three copies of a voted field together (R443). -/
def State.plainWrite (s : State) (fs : List (Fld × Nat)) (v m : Nat) : State :=
  s.forL fs fun p t =>
    let k := p.1.key p.2
    if !p.1.acc.writable then t
    else
      let t1 := t.setSeen p.1 p.2 (p.1.clamp (fieldMerge p.1 (t.seen p.1 p.2) v m))
      let t2 : State := if p.1.aon then
          { t1 with bus.dirty := if t1.bus.dirty.contains k then t1.bus.dirty else t1.bus.dirty ++ [k] } else t1
      match votedNo p.1 with
      | some k => t2.voteClean k
      | none => t2

/-- The fields seen through AON copies. -/
def aonFields : List Fld := (blocks.flatMap fun b => b.fields).filter fun f => f.aon

/-- The AON field and instance of a key. -/
def aonOf (k : Nat) : Option (Fld × Nat) :=
  aonFields.findSome? fun f => if f.lo == k % 32 then (f.inst (k / 32)).map fun n => (f, n) else none

/-- A rising edge of the slow clock (R441): written copies are carried to the AON domain, then every copy is refreshed. -/
def State.aonEdge (s : State) : State :=
  let s1 := s.forL s.bus.dirty fun k t =>
    match aonOf k with
    | some (f, n) => t.set f (t.seen f n) n
    | none => t
  { s1 with
    bus.dirty := []
    bus.copies := s1.regs.filter fun e => (aonOf e.1).isSome }

/-- The key of a LO/HI pair's shadow for a master (R440). -/
def shadowKey (lo : Nat) (m : Master) : Nat := lo * 64 + masterNum m

/-- A read of LO latches the high word into the reader's shadow (R440). -/
def State.latch (s : State) (lo : Nat) (m : Master) (hi : Nat) : State :=
  { s with bus.shadow := Tab.set 0 s.bus.shadow (shadowKey lo m) hi }

/-- A master's shadow of a pair (R440). -/
def State.shadowOf (s : State) (lo : Nat) (m : Master) : Nat := Tab.get 0 s.bus.shadow (shadowKey lo m)

/-- The state that a command leads to; the state itself where the command stops. -/
def Out.after (o : Out) (s : State) : State :=
  match o with
  | .next t => t
  | _ => s

end Sys2Proof.Machine
end

