-- ==== Sys2Proof/Machine/Tmr.lean ====
section
/-! DEFINITION. The timers TMR0 to TMR15. -/

namespace Sys2Proof.Machine

open Sys2Proof

/-- Timer states of R456. -/
def tmIDLE : Nat := 0
def tmARMED : Nat := 1
def tmRUNNING : Nat := 2
def tmFROZEN : Nat := 3

/-- The timer's owner core is debug-halted and the timer freezes with it (R456, R457). -/
def State.tmrHalted (s : State) (n : Nat) : Bool :=
  !s.on TMR.CTRL_DBGRUN n &&
    ((s.get TMR.CTRL_OWNER n == 0 && s.bus.haltedA) || (s.get TMR.CTRL_OWNER n == 1 && s.bus.haltedB))

/-- An armed timer started: RUNNING with the prescaler restarted, or FROZEN while its owner is halted (R456). -/
def State.tmrStart (s : State) (n : Nat) : State :=
  if s.get TMR.STATE_STATE n == tmARMED then
    ({ s with tmrPre := Tab.set 0 s.tmrPre n 0 } : State).set TMR.STATE_STATE
      (if s.tmrHalted n then tmFROZEN else tmRUNNING) n
  else s

/-- A timer stopped: COUNT holds, no DONE (R456). -/
def State.tmrStop (s : State) (n : Nat) : State := s.set TMR.STATE_STATE tmIDLE n

/-- ARM (R456): from IDLE or ARMED, COUNT takes LOAD, a LOAD of 0 acting as 1. -/
def State.tmrArm (s : State) (n : Nat) : State :=
  if s.get TMR.STATE_STATE n ≤ tmARMED then
    (s.set TMR.COUNT_COUNT (max 1 (s.get TMR.LOAD_LOAD n)) n).set TMR.STATE_STATE tmARMED n
  else s.set TMR.STATUS_CMD_ERR 1 n

/-- TMR_ARM (R456). -/
def execTmrArm (n : Nat) (_m : Master) (s : State) : Out := .next (s.tmrArm n)

/-- START by command (R456): CMD_ERR unless the timer is ARMED. -/
def State.tmrCmdStart (s : State) (n : Nat) : State :=
  if s.get TMR.STATE_STATE n == tmARMED then s.tmrStart n else s.set TMR.STATUS_CMD_ERR 1 n

/-- TMR_START (R456). -/
def execTmrStart (n : Nat) (_m : Master) (s : State) : Out := .next (s.tmrCmdStart n)

/-- TMR_STOP (R456). -/
def execTmrStop (n : Nat) (_m : Master) (s : State) : Out := .next (s.tmrStop n)

/-- TMR_GSTART (R458). -/
def execTmrGstart (_m : Master) (mask : Nat) (s : State) : Out :=
  .next (s.forL (setBits 16 mask) fun n t => t.tmrStart n)

/-- TMR_GSTOP (R458). -/
def execTmrGstop (_m : Master) (mask : Nat) (s : State) : Out :=
  .next (s.forL (setBits 16 mask) fun n t => t.tmrStop n)

/-- TMR_EXPIRY (R456, R457): DONE, counted, the output pulsed, the chain released. -/
def execTmrExpiry (n : Nat) (s : State) : Out :=
  if s.get TMR.STATE_STATE n == tmRUNNING then
    let s1 := (((s.set TMR.COUNT_COUNT 0 n).set TMR.STATE_STATE tmIDLE n).set TMR.STATUS_DONE 1 n).bump
      TMR.CNT_EXP_COUNT TMR.STATUS_SAT n
    let s2 := if n < 4 && s.on TMR.CTRL_OUT_EN n then s1.pulse n else s1
    .next (s2.forL (setBits 16 (s.get TMR.CHAIN_MASK n)) fun k t => t.tmrStart k)
  else .next s

/-- TMR_CAPTURE (R446, R459): COUNT captured on the selected edge of the selected source while RUNNING or FROZEN; OVR where the one
before has not been read. -/
def execTmrCapture (n src : Nat) (rising : Bool) (s : State) : Out :=
  let e := s.get TMR.CTRL_CAP_EDGE n
  let hit := 1 ≤ src && src ≤ 4 && s.get TMR.CTRL_CAP_SRC n == src && (2 ≤ e || (e == 0) == rising)
  if hit && tmRUNNING ≤ s.get TMR.STATE_STATE n then
    let s1 := if bitOf s.tmrUnread n then s.set TMR.STATUS_OVR 1 n else s
    let s2 := (s1.set TMR.CAPT_COUNT (s.get TMR.COUNT_COUNT n) n).set TMR.STATUS_CAPT 1 n
    .next { s2 with tmrUnread := putBit s2.tmrUnread n true }
  else .next s

end Sys2Proof.Machine
end

