-- ==== Sys2Proof/Machine/Atb.lean ====
section
/-! DEFINITION. The commands of the angle timebase. -/

namespace Sys2Proof.Machine

open Sys2Proof

/-- CTRL.EN set (R567): the nominal rate, ACQUIRE or FREE by source; from FREE the grid is taken up at once where R49 allows. -/
def State.atbEnable (s : State) : State :=
  if s.on ATB.CTRL_EN then s
  else (((s.set ATB.CTRL_EN 1).updAtb fun a => { a with rate := 0 }).atbEnter (if s.on ATB.CTRL_SRC then abFREE else abACQUIRE)).synthEnter

/-- ATB_ENABLE (R567). -/
def execAtbEnable (s : State) : Out := .next s.atbEnable

/-- CTRL.EN cleared (R62, R567): the position holds. -/
def State.atbDisable (s : State) : State :=
  if s.on ATB.CTRL_EN then
    (((s.set ATB.CTRL_EN 0).set ATB.STATE_CYCLE_VALID 0).updAtb fun a => { a with anchor := none }).atbEnter abOFF
  else s

/-- ATB_DISABLE (R567). -/
def execAtbDisable (s : State) : Out := .next s.atbDisable

/-- CTRL.SRC changed (R566): a running slot ends, the ATB restarts in the new source. -/
def State.atbSource (s : State) (src : Nat) : State :=
  if src % 2 == s.get ATB.CTRL_SRC then s
  else if !s.on ATB.CTRL_EN then s.set ATB.CTRL_SRC src
  else
    let s1 := ((s.slotEndAll.set ATB.CTRL_SRC src).set ATB.STATE_CYCLE_VALID 0).updAtb fun a => { a with anchor := none }
    let s2 := s1.atbEnter (if src % 2 == 1 then abFREE else abACQUIRE)
    (s2.updAtb fun a => { a with acqStepped := false, goodEdges := 0 }).slotCheck

/-- ATB_SOURCE_CHANGE (R566). -/
def execAtbSourceChange (src : Nat) (s : State) : Out := .next (s.atbSource src)

/-- CTRL.STANDALONE cleared (R62). -/
def State.atbStandaloneClear (s : State) : State := (s.set ATB.CTRL_STANDALONE 0).slotCheck

/-- ATB_STANDALONE_CLEAR (R62). -/
def execAtbStandaloneClear (s : State) : Out := .next s.atbStandaloneClear

/-- ATB_OFFSET_WRITE (R57): held until the next boundary. -/
def execAtbOffsetWrite (v : Nat) (s : State) : Out := .next (s.set ATB.OFFSET_OFFSET v)

/-- A period in Q24.8 REFCLK cycles lies within ±5 % of the nominal frequency (R39). -/
def State.freqOk (s : State) (p : Nat) : Bool :=
  decide (p * s.nomHz * 95 ≤ 1024000000000) && decide (1024000000000 ≤ p * s.nomHz * 105)

/-- The rate of the accumulator given a value. -/
def State.setRate (s : State) (p : Nat) : State := s.updAtb fun a => { a with rate := p }

/-- The loop's answer to an accepted edge after the first (R39). -/
def State.dpllRun (s : State) (err : Int) (p : Nat) : State :=
  s.setRate (max 1 (Config.dpllPeriod (s.get ATB.CTRL_BW) (unsignedOf 16 err) s.atbRate p))

/-- An accepted edge of period `p` with phase error `err` (R39, R41, R43): the first in ACQUIRE steps the angle, each later one corrects
it through the loop. The edge of the step is not among the eight, and PHERR holds its error before the step (DESIGN CHOICE,
assumption 48). -/
def State.edgeAccept (s : State) (err : Int) (p : Nat) : State :=
  let first := s.atbSt == abFREE || s.atbSt == abSYNTH || (s.atbSt == abACQUIRE && !s.atb.acqStepped)
  let s1 := (s.set ATB.PHERR_PHERR (unsignedOf 16 err)).set ATB.PERIOD_PERIOD p
  if first then
    let off := s.get ATB.OFFSET_OFFSET
    let s2 := ((s1.atbEnter abACQUIRE).set ATB.STATE_CYCLE_VALID 0).updAtb fun a => { a with offApplied := off, rate := p }
    ((s2.phaseStep off).updAtb fun a => { a with acqStepped := true, goodEdges := 0 }).slotCheck
  else
    let good := if err.natAbs ≤ 16 then s.atb.goodEdges + 1 else 0
    let s2 := (s1.dpllRun err p).updAtb fun a => { a with goodEdges := good }
    if 8 ≤ good && s.atbSt != abLOCKED then s2.atbEnter abLOCKED else s2

/-- The length of the filter that CTRL.MFILT sets, in µs. -/
def mfiltUs (code : Nat) : Nat := [20, 50, 100, 200].getD code 20

/-- An edge of MAINS_SYNC, after which the pin keeps its level for `held` µs, passes the selection of CTRL.MPOL, the fixed 20 µs filter
and that of CTRL.MFILT (R38). -/
def State.mainsPasses (s : State) (rising : Bool) (held : Nat) : Bool :=
  rising != s.on ATB.CTRL_MPOL && decide (20 ≤ held) && decide (mfiltUs (s.get ATB.CTRL_MFILT) ≤ held)

/-- A filtered MAINS_SYNC edge at ATB angle `angle`, the filters' delay removed, `spacing` Q24.8 REFCLK cycles after the
previous one (R38, R39, R41, R43). An edge refused restarts the run of good edges in ACQUIRE and leaves it alone in HOLDOVER (DESIGN
CHOICE, assumption 48). -/
def State.mainsEdge (s : State) (angle spacing : Nat) : State :=
  let st := s.atbSt
  if st == abOFF || s.on ATB.CTRL_SRC then s
  else if st == abLOCKED || st == abHOLDOVER then
    let k := max 1 ((2 * spacing + s.atbPeriod) / (2 * s.atbPeriod))
    let err := angleErr angle s.atb.offApplied
    if 1024 < err.natAbs || !s.freqOk (spacing / k) then
      (s.when (decide (1024 < err.natAbs)) fun t => t.set ATB.STATUS_BAD_EDGE 1).when (!s.freqOk (spacing / k)) fun t =>
        t.set ATB.STATUS_FREQ_RANGE 1
    else s.edgeAccept err (spacing / k)
  else if !s.freqOk spacing then (s.set ATB.STATUS_FREQ_RANGE 1).updAtb fun a => { a with goodEdges := 0 }
  else s.edgeAccept (angleErr angle (if st == abACQUIRE && s.atb.acqStepped then s.atb.offApplied
    else s.get ATB.OFFSET_OFFSET)) spacing

/-- MAINS_SYNC_EDGE (R38, R39). -/
def execMainsSyncEdge (rising : Bool) (held angle spacing : Nat) (s : State) : Out :=
  .next (if s.mainsPasses rising held then s.mainsEdge (angle % 65536) spacing else s)

/-- HOLDOVER (R41): two expected periods without an accepted edge in LOCKED_MAINS; PTP lost in SYNTH. -/
def execHoldover (s : State) : Out :=
  if s.atbSt == abLOCKED || (s.atbSt == abSYNTH && s.on ATB.CTRL_SRC) then
    .next ((s.updAtb fun a => { a with goodEdges := 0 }).atbEnter abHOLDOVER)
  else .next s

/-- HOLD_EXPIRED (R41, R45): fallback SYNTH for MAINS with PTP locked, FREE otherwise. -/
def execHoldExpired (s : State) : Out :=
  if s.atbSt == abHOLDOVER then
    let dst := if !s.on ATB.CTRL_SRC && s.on ATB.STATE_PTP_OK then abSYNTH else abFREE
    .next ((s.set ATB.STATUS_HOLD_EXPIRED 1).atbEnter dst)
  else .next s

/-- CYCLE_BOUNDARY (R57): `ptpNs` is the PTP timestamp of the boundary (R47). -/
def execCycleBoundary (ptpNs : Nat) (s : State) : Out := if s.atbSt == abOFF then .next s else .next (s.boundary ptpNs)

/-- A time of `d` ns is at most 16,384 au, a quarter of a cycle (R47, R49). -/
def State.quarterCycle (s : State) (d : Nat) : Bool :=
  if s.onGrid then decide (12 * d ≤ s.atbP3) else decide (d * 4 * 256 ≤ s.atbPeriod * 25)

/-- The stored boundary that R47 takes for an anchor time: within ±16,384 au, the nearest, of two equally near the later.
Its place counts back from the latest boundary. -/
def State.anchorFind (s : State) (ns : Nat) : Option Nat :=
  let dist := fun (t : Nat) => ((t : Int) - ns).natAbs
  let near := (List.range s.atb.stamps.length).filter fun i => s.quarterCycle (dist (s.atb.stamps.getD i 0))
  near.foldl (fun (b : Option Nat) i => match b with
    | none => some i
    | some j => if dist (s.atb.stamps.getD i 0) < dist (s.atb.stamps.getD j 0) then some i else some j) none

/-- The anchor evaluated (R47): the result code, and for an accepted one CYCLE_ADJ, ADJ_GO and the anchor held (R49). -/
def State.anchorEval (s : State) (ns : Nat) : State :=
  let cyc := ofLe (s.obj 0x2020 1 [0, 0, 0, 0])
  let s0 := s.setObj 0x2020 2 (toLe 8 ns)
  let res := fun (t : State) (c : Nat) => t.setObj 0x2020 3 [c]
  if s.atbSt == abOFF || s.atbSt == abACQUIRE then res s0 3
  else if !s.on ATB.STATE_PTP_OK then res s0 2
  else match s.anchorFind ns with
    | none => res s0 1
    | some i =>
      let d := (cyc + i + 4294967296 - s.atb.cycle) % 4294967296
      let s1 := (s0.set ATB.CYCLE_ADJ_DELTA d).updAtb fun a => { a with
        adjArmed := true, anchor := some { cycle := cyc, ptpNs := ns } }
      let s2 := (res s1 0).synthEnter
      s2.when (s.atbSt == abSYNTH) fun t => t.synthSteer t.ptpNow

/-- ANCHOR_EVALUATE (R46, R47): a write of 0x2020:02. -/
def execAnchorEvaluate (ptpNs : Nat) (s : State) : Out := .next (s.anchorEval ptpNs)

/-- ADJ_GO (R48). -/
def execAdjGo (s : State) : Out := .next (s.updAtb fun a => { a with adjArmed := true })

/-- ARM (R55): BUSY first, then the checks in order. -/
def State.planArm (s : State) (site : Bool) : State :=
  if s.on ATB.PLAN_CTRL_ARMED then s.set ATB.PLAN_CTRL_REFUSE 14
  else
    let c := s.planCheck (s.get ATB.PLAN_CTRL_SLOTS) (s.get ATB.PLAN_ACT_ACT_CYCLE) site
    (s.set ATB.PLAN_CTRL_REFUSE c).set ATB.PLAN_CTRL_ARMED (b2n (c == 0))

/-- PLAN_ARM (R55). -/
def execPlanArm (s : State) : Out := .next (s.planArm false)

/-- DISARM (R58). -/
def State.planDisarm (s : State) : State := s.set ATB.PLAN_CTRL_ARMED 0

/-- PLAN_DISARM (R58). -/
def execPlanDisarm (s : State) : Out := .next s.planDisarm

/-- WADDR advanced modulo 128 after a PLAN_DATA access. -/
def State.planNext (s : State) : State := s.set ATB.PLAN_ADDR_WADDR (s.get ATB.PLAN_ADDR_WADDR + 1)

/-- PLAN_DATA written: taken for the pending bank while no plan is armed (R58). -/
def State.planWrite (s : State) (v : Nat) : State :=
  let w := s.get ATB.PLAN_ADDR_WADDR
  let s1 := if s.on ATB.PLAN_ADDR_BANKSEL || s.on ATB.PLAN_CTRL_ARMED then s
    else s.updAtb fun a => { a with pendWords := Tab.set 0 a.pendWords w (v % 4294967296) }
  s1.planNext

/-- The word that PLAN_DATA reads. -/
def State.planRead (s : State) : Nat :=
  Tab.get 0 (if s.on ATB.PLAN_ADDR_BANKSEL then s.atb.actWords else s.atb.pendWords) (s.get ATB.PLAN_ADDR_WADDR)

/-- PLAN_DATA_ACCESS (R56, R58). -/
def execPlanDataAccess (write : Bool) (v : Nat) (s : State) : Out :=
  if write then .next (s.planWrite v) else .next (s.planNext.respond s.planRead false)

/-- SLOT_PREP of slot `k` (R44, R58, R59, R389): in the present cycle, or in the cycle before for a slot that starts earlier
than the prep lead. -/
def State.slotPrepAt (s : State) (k : Nat) : State :=
  let lead := s.get ATB.PREP_PREP_LEAD
  let here := slotWords s.atb.actWords k
  let next := s.planFor true
  let there := slotWords next.1 k
  if s.suppressed || s.atbSt == abOFF then s
  else if k < s.atb.actSlots && slDue here s.atb.cycle && lead ≤ slStart here && !s.slotPrepped k s.atb.cycle &&
      !s.slotSeen k && s.atb.angle ≤ slStart here then
    ((s.angleTo (slStart here - lead)).slotPrep k here s.atb.cycle).prepServe here
  else if k < next.2 && slDue there s.nextCycle && slStart there < lead && !s.slotPrepped k s.nextCycle then
    ((s.angleTo (65536 + slStart there - lead)).slotPrep k there s.nextCycle).prepServe there
  else s

/-- SLOT_PREP (R59). -/
def execSlotPrep (slot : Nat) (s : State) : Out := .next (s.slotPrepAt slot)

/-- SLOT_START of slot `k` (R44, R60, R62): a due slot of the active plan whose START the angle has not passed. -/
def State.slotStartAt (s : State) (k : Nat) : State :=
  let e := slotWords s.atb.actWords k
  if s.atbSt != abOFF && k < s.atb.actSlots && slDue e s.atb.cycle && !s.slotSeen k && s.atb.angle ≤ slStart e then
    let s1 := s.angleTo (slStart e)
    if s1.suppressed then s1.slotSuppress k e else s1.slotRun k e
  else s

/-- SLOT_START (R60). -/
def execSlotStart (slot : Nat) (s : State) : Out := .next (s.slotStartAt slot)

/-- SLOT_END (R61): of a slot that runs. -/
def execSlotEnd (slot : Nat) (s : State) : Out :=
  let e := slotWords s.atb.actWords slot
  if s.runningSlot (slSheaf e) == slot + 1 then .next ((s.angleTo (slEnd e)).slotEnd (slSheaf e)) else .next s

/-- An edge of source `src` whose level is then held for `ns` nanoseconds is the one that channel `ch` selects (R63): its source, its
edge and its glitch filter; MAINS_SYNC passes the filters of R38 first. -/
def State.capSelects (s : State) (ch src : Nat) (rising : Bool) (ns : Nat) : Bool :=
  let cfg := s.regWord ATB.CAP_CFG_SRC0 / 256 ^ ch
  let edge := bits cfg 3 2
  bits cfg 1 0 == src && (if rising then bitOf edge 0 else bitOf edge 1) && decide (100 * bits cfg 6 4 ≤ ns) &&
    (src != 2 || (decide (20000 ≤ ns) && decide (1000 * mfiltUs (s.get ATB.CTRL_MFILT) ≤ ns)))

/-- ATB_CAPTURE (R63, R64, R446): the position kept on the selected edge; OVR where the one before has not been read. -/
def execAtbCapture (ch src : Nat) (rising : Bool) (ns : Nat) (s : State) : Out :=
  if s.capSelects (ch % 4) src rising ns then
    let s1 := if bitOf s.aev.unread (ch % 4) then s.setBit ATB.CAP_STATUS_OVR (ch % 4) true else s
    let s2 := (s1.setBit ATB.CAP_STATUS_CAPT (ch % 4) true).set ATB.CAP_LO_ANGLE s.atb.angle (ch % 4)
    .next { s2 with
      aev.capCycle := Tab.set 0 s2.aev.capCycle (ch % 4) s.atb.cycle, aev.unread := putBit s2.aev.unread (ch % 4) true }
  else .next s

/-- ANGLE_EVENT (R65): at most once per cycle number, in modes 1 and 2. -/
def execAngleEvent (ev : Nat) (s : State) : Out :=
  if s.aevReady ev && s.atbSt != abOFF then
    .next ((s.angleTo (Tab.get 0 s.aev.cmp ev)).aevFire ev)
  else .next s

end Sys2Proof.Machine
end

