-- ==== Sys2Proof/Machine/Map.lean ====
section
/-! DEFINITION. The address map and the access table of the crossbar (R18, R19, R22). -/

namespace Sys2Proof.Machine

open Sys2Proof

/-- The row of R22's table that an address lies in, none outside the map of R18: 0 boot ROM, 1 system SRAM, 2 sample buffer, 3
sequencer memories, 4 AON retention SRAM, 5 MRAM, 6 its tag area, 7 peripheral blocks, 8 XIP window. -/
def mapRow (a : Nat) : Option Nat :=
  if a < 0x10000 then some 0
  else if 0x10000000 ≤ a && a < 0x10400000 then some 1
  else if 0x18000000 ≤ a && a < 0x18100000 then some 2
  else if 0x20000000 ≤ a && a < 0x20080000 then some 3
  else if 0x28000000 ≤ a && a < 0x28040000 then some 4
  else if 0x30000000 ≤ a && a < 0x301EF000 then some 5
  else if 0x301EF000 ≤ a && a < 0x30200000 then some 6
  else if 0x40000000 ≤ a && a < 0x401A0000 then some 7
  else if 0x80000000 ≤ a && a < 0x100000000 then some 8
  else none

/-- The columns of R22's table: Core A, Core B, Core P, Host Link bridge, DSP DMA, Granary DMA. -/
def colDSP : Nat := 4
def colGRN : Nat := 5

/-- The initiators that may read a row of R22's table. -/
def mapReaders (row : Nat) : List Nat :=
  [[2], [0, 1, 2, 3, 5], [0, 1, 2, 3], [0, 1, 2], [0, 1, 2, 3], [0, 1, 2], [], [0, 1, 2, 3, 5], [0, 1, 2]].getD row []

/-- The initiators that may write a row of R22's table. -/
def mapWriters (row : Nat) : List Nat :=
  [[], [0, 1, 2, 3, 4, 5], [0, 1, 2, 4], [0, 1, 2], [0, 2], [0, 2], [], [0, 1, 2, 3, 5], []].getD row []

/-- Limits of a column within the peripheral blocks: the Host Link bridge not SEC and DBG, the Granary DMA only MPT and GRN. -/
def mapBlockOk (init a : Nat) : Bool :=
  let b := a / 65536 % 32
  if init == 3 then b != 0x17 && b != 0x18 else if init == colGRN then b == 0x10 || b == 0x11 else true

/-- Whether an initiator may make an access (R22). -/
def mapOk (init a : Nat) (write : Bool) : Bool :=
  match mapRow a with
  | some r => (if write then mapWriters r else mapReaders r).contains init && (r != 7 || mapBlockOk init a)
  | none => false

/-- An access that the map or R22 does not permit: a bus error, told from one outside the map (R19). -/
def State.mapError (s : State) (init a : Nat) (write : Bool) : State :=
  s.busError a init write (mapRow a).isSome

end Sys2Proof.Machine
end

