-- ==== Sys2Proof/Machine/Aes.lean ====
section
/-! DEFINITION. The AES block cipher and CMAC, which R315, R316 and R365 use by name (assumption 20: the cipher itself is
FIPS 197 and SP 800-38B, outside the spec). Blocks and keys are byte lists. -/

namespace Sys2Proof.Machine

/-- Multiplication by x in GF(2^8) modulo x^8 + x^4 + x^3 + x + 1. -/
def gfX (a : Nat) : Nat := if 128 ≤ a then ((2 * a) % 256).xor 0x1B else 2 * a

/-- Multiplication in GF(2^8), over the `n` low bits of `b`. -/
def gfMul (n a b : Nat) : Nat :=
  match n with
  | 0 => 0
  | n + 1 => (if b % 2 == 1 then a else 0).xor (gfMul n (gfX a) (b / 2))

/-- The inverse in GF(2^8), as the 254th power; 0 for 0. -/
def gfInv (a : Nat) : Nat :=
  let sq := fun x => gfMul 8 x x
  let a2 := sq a
  let a4 := sq a2
  let a8 := sq a4
  let a16 := sq a8
  let a32 := sq a16
  let a64 := sq a32
  let a128 := sq a64
  [a4, a8, a16, a32, a64, a128].foldl (fun x y => gfMul 8 x y) a2

/-- A byte rotated left by `k`. -/
def rotl8 (a k : Nat) : Nat := (a * 2 ^ k + a / 2 ^ (8 - k)) % 256

/-- The AES S-box. -/
def aesSub (a : Nat) : Nat :=
  let b := gfInv a
  ((((b.xor (rotl8 b 1)).xor (rotl8 b 2)).xor (rotl8 b 3)).xor (rotl8 b 4)).xor 0x63

/-- The inverse S-box. -/
def aesInvSub (a : Nat) : Nat := gfInv ((((rotl8 a 1).xor (rotl8 a 3)).xor (rotl8 a 6)).xor 0x05)

/-- Two byte lists added. -/
def xorBytes (a b : List Nat) : List Nat := List.zipWith Nat.xor a b

/-- The key schedule continued by `n` words: `w` holds the words so far, last first; `nk` words form the key; `i` is the
number of the next word and `rc` the next round constant. -/
def aesExpand (n nk i rc : Nat) (w : List (List Nat)) : List (List Nat) :=
  match n with
  | 0 => w
  | n + 1 =>
    let t := w.headD []
    let t1 :=
      if i % nk == 0 then xorBytes ((t.drop 1 ++ t.take 1).map aesSub) [rc, 0, 0, 0]
      else if 6 < nk && i % nk == 4 then t.map aesSub
      else t
    aesExpand n nk (i + 1) (if i % nk == 0 then gfX rc else rc) (xorBytes (w.getD (nk - 1) []) t1 :: w)

/-- The round keys of a key of 16 or 32 bytes, 16 bytes each. -/
def aesKeys (key : List Nat) : List (List Nat) :=
  let nk := key.length / 4
  let w0 := (List.range nk).map fun i => slice key (4 * i) 4
  let w := (aesExpand (4 * (nk + 7) - nk) nk nk 1 w0.reverse).reverse
  (List.range (nk + 7)).map fun r => (List.range 4).flatMap fun c => w.getD (4 * r + c) []

/-- One column multiplied by the circulant matrix with first row `m`. -/
def aesMixCol (m c : List Nat) : List Nat :=
  (List.range 4).map fun r =>
    (List.range 4).foldl (fun a k => a.xor (gfMul 8 (c.getD k 0) (m.getD ((k + 4 - r) % 4) 0))) 0

/-- All four columns multiplied. -/
def aesMix (m b : List Nat) : List Nat := (List.range 4).flatMap fun c => aesMixCol m (slice b (4 * c) 4)

/-- The rows shifted: row `r` left by `r`, or right where `inv`. -/
def aesShift (inv : Bool) (b : List Nat) : List Nat :=
  (List.range 16).map fun i =>
    let r := i % 4
    let c := i / 4
    byteAt b (4 * ((if inv then c + 4 - r else c + r) % 4) + r)

/-- One block encrypted. -/
def aesEnc (key block : List Nat) : List Nat :=
  match aesKeys key with
  | [] => block
  | k0 :: ks =>
    let last := ks.length - 1
    (ks.zipIdx.foldl (fun b k =>
      let b1 := aesShift false (b.map aesSub)
      xorBytes (if k.2 == last then b1 else aesMix [2, 3, 1, 1] b1) k.1) (xorBytes block k0))

/-- One block decrypted. -/
def aesDec (key block : List Nat) : List Nat :=
  match (aesKeys key).reverse with
  | [] => block
  | k0 :: ks =>
    let last := ks.length - 1
    (ks.zipIdx.foldl (fun b k =>
      let b1 := xorBytes ((aesShift true b).map aesInvSub) k.1
      if k.2 == last then b1 else aesMix [14, 11, 13, 9] b1) (xorBytes block k0))

/-- A block doubled in GF(2^128), for the CMAC subkeys. -/
def cmacDouble (b : List Nat) : List Nat :=
  let v := ofBe b
  toBe 16 (if v < 2 ^ 127 then 2 * v else ((2 * v) % 2 ^ 128).xor 0x87)

/-- AES-CMAC of a message. -/
def aesCmac (key msg : List Nat) : List Nat :=
  let k1 := cmacDouble (aesEnc key (List.replicate 16 0))
  let n := max 1 ((msg.length + 15) / 16)
  let tail := msg.drop (16 * (n - 1))
  let last := if tail.length == 16 then xorBytes tail k1 else
    xorBytes (padTo 16 (tail ++ [0x80])) (cmacDouble k1)
  let x := (List.range (n - 1)).foldl (fun a i => aesEnc key (xorBytes a (slice msg (16 * i) 16))) (List.replicate 16 0)
  aesEnc key (xorBytes x last)

end Sys2Proof.Machine
end

