-- ==== Sys2Proof/Machine/HftOps.lean ====
section
/-! DEFINITION. The commissioning tag: record memory, commits, recovery, rights and authentication. -/

namespace Sys2Proof.Machine

open Sys2Proof

/-- The tag's own state changed. -/
def State.updHft (s : State) (g : Hft → Hft) : State := { s with hft := g s.hft }

/-- Tag engine states of R313. -/
def tgNO_FIELD : Nat := 0
def tgIDLE : Nat := 1
def tgREADY : Nat := 2
def tgACTIVE : Nat := 3
def tgHALT : Nat := 4
def tgOPEN : Nat := 5
def tgINSTALLER : Nat := 6
def tgFACTORY : Nat := 7

/-- The tag engine's state. -/
def State.tgSt (s : State) : Nat := s.get HFT.STATE_TSTATE

/-- Life-cycle codes of R494. -/
def lcFACTORY : Nat := 1
def lcSEALED : Nat := 2
def lcFIELD : Nat := 3
def lcRETIRED : Nat := 4

/-- The life-cycle state in force. -/
def State.lc (s : State) : Nat := s.get SYS.LC_STATE

/-- The life-cycle states in which SEAL records are read-only (R319, R320). -/
def State.lcSealed (s : State) : Bool := s.lc == lcSEALED || s.lc == lcFIELD || s.lc == lcRETIRED

/-- The seven UID bytes (R305). -/
def uid7 : List Nat := (List.range 7).map fun i => Config.uidByte i % 256

/-! ### Records, rights and counters (R318 to R322) -/

/-- A record's 256-byte slot: DATA, RNUM, GEN and CRC (R318). -/
def recSlot (data : List Nat) (r gen : Nat) : List Nat :=
  let b := padTo 248 data ++ [r % 256, 0] ++ toLe 2 gen
  b ++ toLe 4 (crc32c b)

/-- A slot's CRC holds (R318). -/
def slotOk (b : List Nat) : Bool := b.length == 256 && le32 b 252 == crc32c (b.take 252)

/-- The primary slot of record `r`: zeros under generation 0 until it is first written. -/
def State.recPrimary (s : State) (r : Nat) : List Nat :=
  match Tab.get none s.hft.slots r with
  | some b => b
  | none => recSlot [] r 0

/-- DATA of record `r`; record 0 is maintained by the engine (R321). -/
def State.recData (s : State) (r : Nat) : List Nat :=
  if r == 0 then padTo 248 (uid7 ++ [0xB0, s.lc]) else (s.recPrimary r).take 248

/-- The rights byte of record `r` in the default table of R321: HIDE, WRO, SEAL, FWRITE and FREAD. -/
def rightsDefault (r : Nat) : Nat :=
  if r == 0 then 0x2C
  else if r ≤ 4 || r == 8 then 0x04
  else if (0x10 ≤ r && r ≤ 0x13) || r == 0x20 then 0x47
  else if 0x30 ≤ r && r ≤ 0x7F then 0x1A
  else 0x05

/-- The rights byte of record `r` in force (R319, object 0x4104). -/
def State.rights (s : State) (r : Nat) : Nat :=
  byteAt (s.obj 0x4104 0 ((List.range 256).map rightsDefault)) r

/-- The field state's level as FREAD and FWRITE code it: OPEN 0, SECURED_INSTALLER 1, SECURED_FACTORY 2. -/
def State.tgLevel (s : State) : Nat := s.tgSt - tgOPEN

/-- Why the field may not read record `r`: a status word of R324, or none (R319, R320, R327). -/
def State.readRefusal (s : State) (r : Nat) : Option Nat :=
  let f := s.rights r % 4
  if f == 3 || s.tgLevel < f then some 0x6982
  else if s.lc == lcRETIRED && f != 0 then some 0x6985
  else if s.hft.failed.contains r then some 0x6581
  else none

/-- Why the field may not write record `r` (R319, R320). -/
def State.writeRefusal (s : State) (r : Nat) : Option Nat :=
  let f := s.rights r / 4 % 4
  if f == 3 || s.tgLevel < f then some 0x6982
  else if s.lc == lcRETIRED || (bitOf (s.rights r) 4 && s.lcSealed) then some 0x6985
  else none

/-- A monotonic counter (R322). -/
def State.mono (s : State) (c : Nat) : Nat := Tab.get 0 s.hft.monoP c

/-- Both copies of a counter written, primary first (R322). -/
def State.setMono (s : State) (c v : Nat) : State :=
  (s.updHft fun h => { h with
    monoP := Tab.set 0 h.monoP c v, monoB := Tab.set 0 h.monoB c v
    monoBad := h.monoBad.filter fun k => k != c && k != 4 + c }).set HFT.MONO_VALUE v c

/-! ### Commits and recovery (R325 to R327) -/

/-- The number of 32-bit words that a commit writes: backup slot, generation, marker, primary slot, generation, marker. -/
def commitWords : Nat := 132

/-- The first `k` words of a commit written (R311, R325). -/
def State.commitPrefix (s : State) (c : Commit) (k : Nat) : State :=
  s.updHft fun h =>
    let h1 := { h with backup := patch (padTo 256 h.backup) 0 (c.slot.take (4 * min k 64)) }
    let h2 := if 65 ≤ k then { h1 with genP := Tab.set 0 h1.genP c.record c.gen } else h1
    let h3 := if 66 ≤ k then { h2 with marker := some (c.record, c.gen) } else h2
    let h4 := if 67 ≤ k then { h3 with
        slots := Tab.set none h3.slots c.record
          (some (patch (s.recPrimary c.record) 0 (c.slot.take (4 * min (k - 66) 64)))) } else h3
    let h5 := if 131 ≤ k then { h4 with genB := Tab.set 0 h4.genB c.record c.gen } else h4
    if 132 ≤ k then { h5 with marker := none } else h5

/-- A commit begins; it holds the arbiter (R325, R328). -/
def State.commitStart (s : State) (r : Nat) (data : List Nat) (field : Bool) (rest : List (Nat × List Nat))
    (answer : List Nat) : State :=
  let g := (Tab.get 0 s.hft.genP r + 1) % 65536
  s.updHft fun h => { h with
    commit := some { record := r, gen := g, slot := recSlot data r g, field := field, rest := rest, answer := answer } }

/-- The blocks that an answer is chained in where it exceeds what a frame of the handheld holds (R308). -/
def chainBlocks (fuel room : Nat) (b : List Nat) : List (List Nat) :=
  match fuel with
  | 0 => []
  | fuel + 1 => if b.length ≤ room then [b] else b.take room :: chainBlocks fuel room (b.drop room)

/-- An answer of layer 4 sent (R308): a frame of FSD bytes holds PCB, CID where the card has one other than 0, and CRC_A beside the
data (assumption 56). -/
def State.tagReply (s : State) (b : List Nat) : State :=
  s.updHft fun h => { h with
    reply := b, blocks := chainBlocks b.length (max 1 (h.fsd - (if h.cid == 0 then 3 else 4))) b }

/-- A commit stopped at a word boundary that the spec does not fix (R311, R332). A wired write interrupted so stays
requested (assumption 21). The answer goes out once step 4 is complete. -/
def State.commitCut (s : State) : State :=
  match s.hft.commit with
  | none => s
  | some c =>
    let k := s.fresh.1 % (commitWords + 1)
    let s1 := (s.fresh.2.commitPrefix c k).updHft fun h => { h with
      commit := none, wiredWait := if c.field then h.wiredWait else some (c.record, true) }
    if c.field && c.rest == [] && c.answer != [] && 130 ≤ k then s1.tagReply c.answer else s1

/-- The recovery pass has acted on a record or counter (RECOV, STATUS). -/
def State.recovered (s : State) (action r : Nat) : State :=
  let s1 := ((s.set HFT.RECOV_ACTION action).set HFT.RECOV_RECORD r).set HFT.STATUS_RECOVERED 1
  if action == 5 then
    (s1.set HFT.STATUS_RECOV_FAIL 1).updHft fun h =>
      { h with failed := if h.failed.contains r then h.failed else h.failed ++ [r] }
  else s1

/-- Recovery of the marked record `r` at generation `g` (R326, R327). -/
def State.recoverMarked (s : State) (r g : Nat) : State :=
  let h := s.hft
  let clear := fun (t : State) => t.updHft fun h => { h with marker := none }
  if Tab.get 0 h.genB r == g then (clear s).recovered 3 r
  else if slotOk h.backup && byteAt h.backup 248 == r then
    (clear (s.updHft fun h => { h with
      slots := Tab.set none h.slots r (some h.backup), genP := Tab.set 0 h.genP r g
      genB := Tab.set 0 h.genB r g })).recovered 2 r
  else
    (clear (s.updHft fun h => { h with genP := Tab.set 0 h.genP r (Tab.get 0 h.genB r) })).recovered 5 r

/-- Generation copies that disagree without a marker are rolled back (R326). -/
def State.recoverGens (s : State) : State :=
  let ks := ((s.hft.genP.map Prod.fst) ++ (s.hft.genB.map Prod.fst)).filter fun r =>
    Tab.get 0 s.hft.genP r != Tab.get 0 s.hft.genB r
  s.forL ks fun r t =>
    (t.updHft fun h => { h with genP := Tab.set 0 h.genP r (Tab.get 0 h.genB r) }).recovered 1 r

/-- Counter copies that disagree, or whose CRC fails, are repaired: a valid primary that exceeds its backup is copied to it, an invalid
one restored from it (R322). -/
def State.recoverMono (s : State) : State :=
  s.forN 4 fun c t =>
    let p := Tab.get 0 t.hft.monoP c
    let b := Tab.get 0 t.hft.monoB c
    if t.hft.monoBad.contains c then (if t.hft.monoBad.contains (4 + c) then t else (t.setMono c b).recovered 4 c)
    else if t.hft.monoBad.contains (4 + c) then (t.setMono c p).recovered 4 c
    else if p == b then t
    else (t.setMono c (max p b)).recovered 4 c

/-- Primary slots whose CRC fails with nothing to repair them (R327). -/
def State.recoverSlots (s : State) : State :=
  s.forL (s.hft.slots.map Prod.fst) fun r t =>
    if slotOk (t.recPrimary r) || t.hft.failed.contains r then t else t.recovered 5 r

/-- The recovery pass (R312, R326). -/
def State.recoveryPass (s : State) : State :=
  let s1 := match s.hft.marker with
    | some (r, g) => s.recoverMarked r g
    | none => s.recoverGens
  s1.recoverSlots.recoverMono

/-! ### Session, answers and authentication (R313 to R317) -/

/-- Authentication and session values dropped, with the answer that a field commit under way would have got (R313, R332). -/
def State.tagDrop (s : State) (st : Nat) : State :=
  (s.updHft fun h => { h with
    rndB := [], key := [], sk := [], ctr := 0, macCtr := none, app := false, file := 0, cascade := 1
    fieldWait := none, commit := h.commit.map fun c => { c with answer := [] } }).set HFT.STATE_TSTATE st

/-- A passed-through APDU no longer awaits an answer. -/
def State.passClear (s : State) : State := s.set HFT.PSTAT_PENDING 0

/-- The engine held in reset: no session, and a commit stopped (R281, R313, R332). -/
def State.tagHold (s : State) : State := (s.commitCut.tagDrop tgNO_FIELD).passClear

/-- The engine released from reset: recovery, then IDLE where a field is present and the tag is enabled (R312, R313). -/
def State.tagRelease (s : State) : State :=
  let s1 := s.recoveryPass
  if s1.on HFT.STATE_FIELD && s1.on HFT.CTRL_EN then s1.set HFT.STATE_TSTATE tgIDLE else s1

/-- The self-field guard asserted (R281). -/
def State.tagGuard (s : State) : State :=
  if s.on HFT.STATE_GUARD then s else s.tagHold.set HFT.STATE_GUARD 1

/-- The bytes that the tag sends, the model's own record of the air side (assumption 6). -/
def State.tagSend (s : State) (b : List Nat) : State := s.updHft fun h => { h with reply := b, blocks := [] }

/-- An R-APDU: response data, the MAC of R316 where the command was MACed, and the status word. -/
def State.rApdu (s : State) (data : List Nat) (sw : Nat) : List Nat :=
  let w := toBe 2 sw
  match s.hft.macCtr with
  | some c => if s.tgSt == tgFACTORY then data ++ (aesCmac s.hft.sk (toLe 2 c ++ data ++ w)).take 8 ++ w else data ++ w
  | none => data ++ w

/-- The answer to a command sent. -/
def State.tagAnswer (s : State) (data : List Nat) (sw : Nat) : State := s.tagReply (s.rApdu data sw)

/-- FAILS given a value (R317). -/
def State.setFails (s : State) (k : Nat) : State := (s.updHft fun h => { h with fails := k }).set HFT.STATE_FAILS k

/-- A failure counted; at 8 the lockout begins (R317). -/
def State.authFail (s : State) : State :=
  let s1 := ((s.setFails (min 8 (s.hft.fails + 1))).set HFT.STATUS_AUTH_FAIL 1).bump HFT.CNT_AUTHFAIL_COUNT
    HFT.STATUS_SAT
  if 8 ≤ s1.hft.fails then (s1.set HFT.STATE_LOCKOUT 1).set HFT.STATUS_LOCKOUT 1 else s1

/-- A return to OPEN without authentication (R313). -/
def State.tagOpen (s : State) : State :=
  (s.updHft fun h => { h with rndB := [], sk := [], macCtr := none }).set HFT.STATE_TSTATE tgOPEN

/-- The tag has enough harvest to start a commit (R310). -/
def State.harvestOk (s : State) (a : Apdu) : Bool := s.on HFT.STATE_LINE || (2800 ≤ a.vharv && 3000 ≤ a.avail)

/-- The memory as the next wired grant finds it: the field command under way has committed its records, and a guarded engine has run its
recovery pass (R303, R312, R325, R328). -/
def State.recGranted (s : State) : State :=
  match s.hft.commit with
  | some c => s.updHft fun h => { h with
      commit := none, failed := h.failed.filter fun r => r != c.record && !(c.rest.map Prod.fst).contains r
      slots := ((c.record, c.slot) :: c.rest.map fun p => (p.1, recSlot p.2 p.1 0)).foldl
        (fun a p => Tab.set none a p.1 (some p.2)) h.slots }
  | none => if s.on HFT.STATE_GUARD then s.recoveryPass else s

/-- DATA of a record as a wired read gets it, none where the record failed recovery (R303, R318, R327). -/
def State.recWired (s : State) (r : Nat) : Option (List Nat) :=
  if s.recGranted.hft.failed.contains r then none else some (s.recGranted.recData r)

/-- Whether the crossbar side holds or awaits the arbiter (R328). -/
def State.wiredBusy (s : State) : Bool := s.hft.commit.isSome || s.hft.wiredWait.isSome

/-- One data byte rotation: byte 0 to the end (R315). -/
def rot1 (b : List Nat) : List Nat := b.drop 1 ++ b.take 1

/-- A decision of an HF engine delivered to its sequencer: reply buffer in air order, RXRN, DECTS, RXSTAT and RXD (R225,
R285, R292). -/
def State.hfDeliver (s : State) (n rxstat : Nat) (l : List Bool) : State :=
  let k := min ((l.length + 31) / 32 * 4) (0x8000 - (s.seqAt n).rxb)
  let s1 := (s.wrBytes (seqBase n + (s.seqAt n).rxb) (packLsb k l)).freshPar (seqBase n + (s.seqAt n).rxb) k
  ((s1.setSeq n { s1.seqAt n with
    rxstat := rxstat, rxrn := ofBitsMsb ((l ++ List.replicate 16 false).take 16)
    dects := s.dsp % 4294967296 }).seqEvent n evRXD).bump LSC.CNT_RXD_COUNT LSC.STATUS_SAT n

end Sys2Proof.Machine
end

