-- ==== Sys2Proof/Machine/Hft.lean ====
section
/-! DEFINITION. The commands of the commissioning tag: field, layer 3 and 4, APDUs, commits, wired access and passthrough. -/

namespace Sys2Proof.Machine

open Sys2Proof

/-! ### Field and layer 3 (R305, R306, R313) -/

/-- A command acts only in the states named. -/
def State.tagIn (s : State) (sts : List Nat) (g : State → State) : Out :=
  .next (if sts.contains s.tgSt then g s else s)

/-- FIELD_ON (R23, R32, R281, R312, R313): the field is reported, wakes Core P and without the line supplies the AON domain; the
engine starts where it is enabled and not held. -/
def execFieldOn (vharv avail : Nat) (s : State) : Out :=
  let s0 := ((((s.set HFT.STATE_FIELD 1).set HFT.STATUS_FIELD_ON 1).set HFR.STATE_TAG_FIELD 1).set HFT.HARV_VHARV
    vharv).set HFT.HARV_AVAIL avail
  let s1 := (s0.when (!s0.on HFT.STATE_LINE) fun t => t.set PWR.STATE_HARV 1).wakeP 5
  if s1.on HFT.STATE_GUARD then .next s1
  else if s1.on HFT.STATE_LINE then .next (s1.when (s1.on HFT.CTRL_EN) fun t => t.set HFT.STATE_TSTATE tgIDLE)
  else .next s1.tagRelease

/-- READY entered with the answer ATQA (R305). -/
def State.tagWake (s : State) : State :=
  ((s.tagDrop tgREADY)).tagSend [0x44, 0x00]

/-- TAG_REQA (R313). -/
def execTagReqa (s : State) : Out := s.tagIn [tgIDLE] State.tagWake

/-- TAG_WUPA (R313). -/
def execTagWupa (s : State) : Out := s.tagIn [tgIDLE, tgHALT] State.tagWake

/-- The five CLn bytes of a cascade level (R305). -/
def tagCln (level : Nat) : List Nat :=
  let b := if level == 1 then 0x88 :: uid7.take 3 else uid7.drop 3
  b ++ [b.foldl Nat.xor 0]

/-- TAG_ANTICOLL (R305, R290): the remaining bits of CLn where the known ones match; no reply otherwise. -/
def execTagAnticoll (level : Nat) (known : List Bool) (s : State) : Out :=
  s.tagIn [tgREADY] fun t =>
    let l := unpackLsb (tagCln level)
    if level == t.hft.cascade && known.length < 40 && l.take known.length == known then
      t.tagSend (packLsb ((47 - known.length) / 8) (l.drop known.length))
    else t

/-- TAG_SELECT (R305, R313): SAK; level 1 leads to level 2, level 2 to ACTIVE. -/
def execTagSelect (level : Nat) (cln : List Nat) (s : State) : Out :=
  s.tagIn [tgREADY] fun t =>
    if level == t.hft.cascade && cln == tagCln level then
      if level == 1 then (t.updHft fun h => { h with cascade := 2 }).tagSend [0x04]
      else (t.set HFT.STATE_TSTATE tgACTIVE).tagSend [0x20]
    else t

/-- The frame size that an FSDI codes, of ISO/IEC 14443-4, which R304 cites (assumption 20). -/
def fsdOf (fsdi : Nat) : Nat := [16, 24, 32, 40, 48, 64, 96, 128, 256].getD fsdi 256

/-- TAG_RATS (R304, R305, R313). -/
def execTagRats (fsdi cid : Nat) (s : State) : Out :=
  s.tagIn [tgACTIVE] fun t =>
    if 14 < cid then t
    else ((t.tagDrop tgOPEN).updHft fun h => { h with cid := cid, fsd := fsdOf fsdi }).tagSend [0x05, 0x78, 0x00, 0x70, 0x02]

/-- TAG_HLTA (R313). -/
def execTagHlta (s : State) : Out := s.tagIn [tgACTIVE] fun t => t.tagDrop tgHALT

/-- TAG_PPS (R304): acknowledged where DRI and DSI are 0; any other gets no answer. -/
def execTagPps (dri dsi : Nat) (s : State) : Out :=
  s.tagIn [tgOPEN, tgINSTALLER, tgFACTORY] fun t =>
    if dri == 0 && dsi == 0 then t.tagSend [0xD0 + t.hft.cid] else t

/-- TAG_DESELECT (R313, R332): answered, authentication dropped, HALT. -/
def execTagDeselect (s : State) : Out :=
  s.tagIn [tgOPEN, tgINSTALLER, tgFACTORY] fun t => ((t.tagDrop tgHALT).passClear).tagSend [0xC2]

/-- An answer is outstanding: a commit, the arbiter, or a passed-through APDU (R307). -/
def State.tagOwes (s : State) : Bool :=
  (match s.hft.commit with
   | some c => c.field && c.answer != []
   | none => false) || s.hft.fieldWait.isSome || s.on HFT.PSTAT_PENDING

/-- TAG_WTX_REQUEST (R307): 30.00 ms into the waiting time the engine sends S(WTX) with WTXM = 1. -/
def execTagWtxRequest (s : State) : Out :=
  s.tagIn [tgOPEN, tgINSTALLER, tgFACTORY] fun t => if t.tagOwes then t.tagSend [0xF2, 0x01] else t

/-- TAG_WTX_RESPONSE (R307): a new waiting time starts; its length is timing, which the model leaves to the arrival of
TAG_WTX_REQUEST. -/
def execTagWtxResponse (s : State) : Out :=
  s.tagIn [tgOPEN, tgINSTALLER, tgFACTORY] fun t => t.tagSend []

/-- LOCKOUT_END (R317): the field has been absent for 5.0 s. -/
def execLockoutEnd (s : State) : Out :=
  if s.on HFT.STATE_LOCKOUT && !s.on HFT.STATE_FIELD then .next ((s.setFails 0).set HFT.STATE_LOCKOUT 0) else .next s

/-! ### APDUs (R314 to R316, R323, R324) -/

/-- Command data that must be `k` bytes long (R324). -/
def State.withLen (s : State) (a : Apdu) (k : Nat) (g : State → State) : State :=
  if a.data.length == k then g s else s.tagAnswer [] 0x6700

/-- A command that carries no data and asks for `le` bytes (R323, R324). -/
def State.withLe (s : State) (a : Apdu) (le : Nat) (g : State → State) : State :=
  if a.data == [] && a.le == le then g s else s.tagAnswer [] 0x6700

/-- The harvest measured at the command's end (R309, R310). -/
def State.harvest (s : State) (a : Apdu) : State := (s.set HFT.HARV_VHARV a.vharv).set HFT.HARV_AVAIL a.avail

/-- Select of the NDEF application. -/
def State.cSelectApp (s : State) (a : Apdu) : State :=
  if a.p2 != 0 then s.tagAnswer [] 0x6A86
  else if a.data == [0xD2, 0x76, 0x00, 0x00, 0x85, 0x01, 0x01] then
    (s.updHft fun h => { h with app := true, file := 0 }).tagAnswer [] 0x9000
  else s.tagAnswer [] 0x6A82

/-- Select of the CC file or the NDEF file. -/
def State.cSelectFile (s : State) (a : Apdu) : State :=
  if a.p1 != 0 || a.p2 != 0x0C then s.tagAnswer [] 0x6A86
  else if s.hft.app && (a.data == [0xE1, 0x03] || a.data == [0xE1, 0x04]) then
    (s.updHft fun h => { h with file := byteAt a.data 1 }).tagAnswer [] 0x9000
  else s.tagAnswer [] 0x6A82

/-- The capability container (R323). -/
def ccFile : List Nat := [0x00, 0x0F, 0x20, 0x00, 0xF8, 0x00, 0xF8, 0x04, 0x06, 0xE1, 0x04, 0x03, 0xE0, 0x00, 0xFF]

/-- The records that bytes `off` to `off + n - 1` of the NDEF file lie in (R321). -/
def ndefRecords (off n : Nat) : List Nat :=
  (List.range 4).filterMap fun i => if off < 248 * (i + 1) && 248 * i < off + n then some (i + 1) else none

/-- READ BINARY (R323). -/
def State.cReadBinary (s : State) (a : Apdu) : State :=
  let off := 256 * a.p1 + a.p2
  let len := if s.hft.file == 3 then 15 else 992
  if s.hft.file == 0 then s.tagAnswer [] 0x6A82
  else if len ≤ off then s.tagAnswer [] 0x6A86
  else if a.le == 0 || 248 < a.le || len < off + a.le then s.tagAnswer [] 0x6700
  else if s.hft.file == 3 then s.tagAnswer (slice ccFile off a.le) 0x9000
  else match (ndefRecords off a.le).findSome? fun r => s.readRefusal r with
    | some sw => s.tagAnswer [] sw
    | none => s.tagAnswer (slice ((List.range 4).flatMap fun i => s.recData (i + 1)) off a.le) 0x9000

/-- The records that an UPDATE BINARY rewrites, each with its new DATA (R321, R323). -/
def State.ndefWrites (s : State) (off : Nat) (d : List Nat) : List (Nat × List Nat) :=
  let file := patch ((List.range 4).flatMap fun i => s.recData (i + 1)) off d
  (ndefRecords off d.length).map fun r => (r, slice file (248 * (r - 1)) 248)

/-- Commits begun for a field command, one after another (R323, R325), where the harvest allows them (R310). -/
def State.fieldCommit (s : State) (a : Apdu) (w : List (Nat × List Nat)) : State :=
  let s1 := s.harvest a
  if !s.harvestOk a then (s1.set HFT.STATE_HARV_LOW 1).tagAnswer [] 0x6985
  else match w with
    | [] => s1.tagAnswer [] 0x9000
    | (r, d) :: rest => (s1.set HFT.STATE_HARV_LOW 0).commitStart r d true rest (s.rApdu [] 0x9000)

/-- UPDATE BINARY (R323). -/
def State.cUpdateBinary (s : State) (a : Apdu) : State :=
  let off := 256 * a.p1 + a.p2
  if s.hft.file == 0 then s.tagAnswer [] 0x6A82
  else if s.hft.file == 3 then s.tagAnswer [] 0x6982
  else if 992 ≤ off then s.tagAnswer [] 0x6A86
  else if a.data == [] || 992 < off + a.data.length then s.tagAnswer [] 0x6700
  else match (ndefRecords off a.data.length).findSome? fun r => s.writeRefusal r with
    | some sw => s.tagAnswer [] sw
    | none => s.fieldCommit a (s.ndefWrites off a.data)

/-- GET_INFO (R323). -/
def State.cGetInfo (s : State) (a : Apdu) : State :=
  if a.p1 != 0 || a.p2 != 0 then s.tagAnswer [] 0x6A86
  else s.withLe a 16 fun s => (s.harvest a).tagAnswer ([s.tgSt, s.lc, s.hft.fails, s.get HFT.STATE_LOCKOUT] ++ toLe 2 a.avail ++
    toLe 2 a.vharv ++ uid7 ++ [0]) 0x9000

/-- VERIFY (R314, R317). -/
def State.cVerify (s : State) (a : Apdu) : State :=
  let pw := (s.recData 0x20).take 8
  let t := s.tagOpen
  if t.on HFT.STATE_LOCKOUT then t.tagAnswer [] 0x6983
  else if a.p1 != 0 || a.p2 != 0 then t.tagAnswer [] 0x6A86
  else t.withLen a 8 fun t =>
    if pw.all fun x => x == 0 then t.tagAnswer [] 0x6985
    else if a.data == pw then ((t.setFails 0).set HFT.STATE_TSTATE tgINSTALLER).tagAnswer [] 0x9000
    else t.authFail.tagAnswer [] (0x63C0 + (8 - t.authFail.hft.fails))

/-- AUTH1 (R315, R317). -/
def State.cAuth1 (s : State) (a : Apdu) : State :=
  let t := s.tagOpen
  if t.on HFT.STATE_LOCKOUT then t.tagAnswer [] 0x6983
  else if 3 < a.p1 || a.p2 != 0 then t.tagAnswer [] 0x6A86
  else if a.data != [] || a.le != 16 then t.tagAnswer [] 0x6700
  else if t.lc == lcRETIRED then t.tagAnswer [] 0x6985
  else match t.obj 0x4105 (a.p1 + 1) [] with
    | [] => t.tagAnswer [] 0x6A88
    | key =>
      let rnd := t.freshL 16 256
      (rnd.2.updHft fun h => { h with rndB := rnd.1, key := key }).tagAnswer (aesEnc key rnd.1) 0x9000

/-- AUTH2 (R315, R317). Without an AUTH1 before it the conditions are not met. -/
def State.cAuth2 (s : State) (a : Apdu) : State :=
  if s.on HFT.STATE_LOCKOUT then s.tagAnswer [] 0x6983
  else if a.p1 != 0 || a.p2 != 0 then s.tagAnswer [] 0x6A86
  else if s.hft.rndB == [] then s.tagAnswer [] 0x6985
  else s.withLen a 32 fun s =>
    let k := s.hft.key
    let rndA := aesDec k (a.data.take 16)
    let rndB' := xorBytes (aesDec k (a.data.drop 16)) (a.data.take 16)
    if rndB' == rot1 s.hft.rndB then
      let sk := aesEnc k (rndA.take 8 ++ s.hft.rndB.take 8)
      let s1 := ((s.updHft fun h => { h with sk := sk, ctr := 0, macCtr := none, rndB := [] }).setFails 0).set
        HFT.STATE_TSTATE tgFACTORY
      s1.tagAnswer (aesEnc k (rot1 rndA)) 0x9000
    else s.tagOpen.authFail.tagAnswer [] 0x6300

/-- READ_RECORD (R323). -/
def State.cReadRecord (s : State) (a : Apdu) : State :=
  if 248 ≤ a.p2 then s.tagAnswer [] 0x6A86
  else if a.data != [] || a.le == 0 || 248 - a.p2 < a.le then s.tagAnswer [] 0x6700
  else match s.readRefusal a.p1 with
    | some sw => s.tagAnswer [] sw
    | none => s.tagAnswer (slice (s.recData a.p1) a.p2 a.le) 0x9000

/-- WRITE_RECORD (R323, R325). -/
def State.cWriteRecord (s : State) (a : Apdu) : State :=
  if 248 ≤ a.p2 then s.tagAnswer [] 0x6A86
  else if a.data == [] || 248 - a.p2 < a.data.length then s.tagAnswer [] 0x6700
  else match s.writeRefusal a.p1 with
    | some sw => s.tagAnswer [] sw
    | none => s.fieldCommit a [(a.p1, patch (s.recData a.p1) a.p2 a.data)]

/-- INC_COUNTER (R310, R322). -/
def State.cIncCounter (s : State) (a : Apdu) : State :=
  let s1 := s.harvest a
  if 3 < a.p1 || a.p2 != 0 then s.tagAnswer [] 0x6A86
  else if a.data != [] || a.le != 3 then s.tagAnswer [] 0x6700
  else if s.tgLevel < (if a.p1 < 2 then 1 else 2) then s.tagAnswer [] 0x6982
  else if s.lc == lcRETIRED then s.tagAnswer [] 0x6985
  else if s.mono a.p1 == 0xFFFFFF then (s.set HFT.STATUS_SAT 1).tagAnswer [] 0x6985
  else if !s.harvestOk a then (s1.set HFT.STATE_HARV_LOW 1).tagAnswer [] 0x6985
  else ((s1.set HFT.STATE_HARV_LOW 0).setMono a.p1 (s.mono a.p1 + 1)).tagAnswer (toLe 3 (s.mono a.p1 + 1)) 0x9000

/-- READ_COUNTERS (R322, R323). -/
def State.cReadCounters (s : State) (a : Apdu) : State :=
  if a.p1 != 0 || a.p2 != 0 then s.tagAnswer [] 0x6A86
  else s.withLe a 12 fun s => s.tagAnswer ((List.range 4).flatMap fun c => toLe 3 (s.mono c)) 0x9000

/-- The C-APDU as passed through, any MAC stripped (R331). -/
def apduBytes (a : Apdu) : List Nat :=
  [a.cla, a.ins, a.p1, a.p2] ++ (if a.data == [] then [] else a.data.length :: a.data) ++ (if a.le == 0 then [] else [a.le % 256])

/-- Bytes written to PBUF from its start (R331). -/
def State.pbufPut (s : State) (b : List Nat) : State :=
  s.forN ((b.length + 3) / 4) fun i t => t.set HFT.PBUF_DATA (le32 b (4 * i)) i

/-- The bytes of PBUF. -/
def State.pbuf (s : State) (n : Nat) : List Nat :=
  ((List.range ((n + 3) / 4)).flatMap fun i => toLe 4 (s.get HFT.PBUF_DATA i)).take n

/-- A passed-through APDU (R331); CLA and INS that the tag does not support are answered here too (R324). -/
def State.cPass (s : State) (a : Apdu) : State :=
  let b := apduBytes a
  if a.cla != 0x90 then s.tagAnswer [] (if a.cla == 0 then 0x6D00 else 0x6E00)
  else if a.ins < 0x80 || 0xBF < a.ins then s.tagAnswer [] 0x6D00
  else if s.get HFT.CTRL_PASS == 0 || s.get HFT.CTRL_PASS == 3 then s.tagAnswer [] 0x6D00
  else if !s.bit PWR.STATE_DOM 3 then s.tagAnswer [] 0x6F00
  else if s.get HFT.CTRL_PASS == 1 then
    ((((s.pbufPut b).set HFT.PSTAT_CLEN b.length).set HFT.PSTAT_PENDING 1).set HFT.STATUS_PASS_REQ 1).updHft
      fun h => { h with passSeq := false }
  else if !s.on LSC.HF_STATE_HFT_HELD then s.tagAnswer [] 0x6F00
  else
    let n := s.get LSC.HF_STATE_HFT_OWNER
    (((s.set HFT.PSTAT_CLEN b.length).set HFT.PSTAT_PENDING 1).updHft fun h => { h with passSeq := true }).hfDeliver n
      (65536 * (8 * b.length) + 17) (unpackLsb b)

/-- A command run by its CLA and INS (R323). -/
def State.apduRun (s : State) (a : Apdu) : State :=
  if a.cla == 0 && a.ins == 0xA4 then (if a.p1 == 4 then s.cSelectApp a else s.cSelectFile a)
  else if a.cla == 0 && a.ins == 0xB0 then s.cReadBinary a
  else if a.cla == 0 && a.ins == 0xD6 then s.cUpdateBinary a
  else if a.cla == 0x90 && a.ins == 0x10 then s.cGetInfo a
  else if a.cla == 0x90 && a.ins == 0x20 then s.cVerify a
  else if a.cla == 0x90 && a.ins == 0x30 then s.cAuth1 a
  else if a.cla == 0x90 && a.ins == 0x31 then s.cAuth2 a
  else if a.cla == 0x90 && a.ins == 0x40 then s.cReadRecord a
  else if a.cla == 0x90 && a.ins == 0x42 then s.cWriteRecord a
  else if a.cla == 0x90 && a.ins == 0x44 then s.cIncCounter a
  else if a.cla == 0x90 && a.ins == 0x46 then s.cReadCounters a
  else s.cPass a

/-- The MAC of a command in SECURED_FACTORY checked and stripped, CTR counted (R316). -/
def State.apduMac (s : State) (a : Apdu) : State :=
  let n := a.data.length - 8
  let c := s.hft.ctr
  let d := a.data.take n
  let mac := (aesCmac s.hft.sk (toLe 2 c ++ [a.cla, a.ins, a.p1, a.p2] ++ d)).take 8
  if 8 ≤ a.data.length && a.data.drop n == mac then
    (s.updHft fun h => { h with ctr := (c + 1) % 65536, macCtr := some c }).apduRun { a with data := d }
  else s.tagOpen.authFail.tagAnswer [] 0x6988

/-- An APDU received whole (R308) in OPEN or a secured state: it waits for a wired operation, or runs (R316, R328). -/
def State.tagApdu (s : State) (a : Apdu) : State :=
  if s.wiredBusy then s.updHft fun h => { h with fieldWait := some a }
  else
    let s1 := (s.updHft fun h => { h with fieldWait := none, macCtr := none }).bump HFT.CNT_CMD_COUNT HFT.STATUS_SAT
    if s1.tgSt == tgFACTORY then s1.apduMac a else s1.apduRun a

/-- A short APDU: at most 255 bytes of data, any MAC among them, and at most 256 asked for (R304, R323). -/
def Apdu.short (a : Apdu) : Bool := decide (a.data.length ≤ 255) && decide (a.le ≤ 256)

/-- A short APDU acts in OPEN and the secured states (R323); one of extended length is not supported and gets no answer (R304, R306;
assumption 56). -/
def State.apduIn (s : State) (a : Apdu) : Out :=
  s.tagIn [tgOPEN, tgINSTALLER, tgFACTORY] fun t => if Apdu.short a then t.tagApdu a else t

/-- TAG_SELECT_NDEF_APP (R323). -/
def execTagSelectNdefApp (a : Apdu) (s : State) : Out := s.apduIn { a with cla := 0, ins := 0xA4, p1 := 4 }

/-- TAG_SELECT_FILE (R323). -/
def execTagSelectFile (a : Apdu) (s : State) : Out := s.apduIn { a with cla := 0, ins := 0xA4, p1 := 0 }

/-- TAG_READ_BINARY (R323). -/
def execTagReadBinary (a : Apdu) (s : State) : Out := s.apduIn { a with cla := 0, ins := 0xB0 }

/-- TAG_UPDATE_BINARY (R323). -/
def execTagUpdateBinary (a : Apdu) (s : State) : Out := s.apduIn { a with cla := 0, ins := 0xD6 }

/-- GET_INFO (R323). -/
def execGetInfo (a : Apdu) (s : State) : Out := s.apduIn { a with cla := 0x90, ins := 0x10 }

/-- VERIFY (R314). -/
def execVerify (a : Apdu) (s : State) : Out := s.apduIn { a with cla := 0x90, ins := 0x20 }

/-- AUTH1 (R315). -/
def execAuth1 (a : Apdu) (s : State) : Out := s.apduIn { a with cla := 0x90, ins := 0x30 }

/-- AUTH2 (R315). -/
def execAuth2 (a : Apdu) (s : State) : Out := s.apduIn { a with cla := 0x90, ins := 0x31 }

/-- READ_RECORD (R323). -/
def execReadRecord (a : Apdu) (s : State) : Out := s.apduIn { a with cla := 0x90, ins := 0x40 }

/-- WRITE_RECORD (R325). -/
def execWriteRecord (a : Apdu) (s : State) : Out := s.apduIn { a with cla := 0x90, ins := 0x42 }

/-- INC_COUNTER (R322). -/
def execIncCounter (a : Apdu) (s : State) : Out := s.apduIn { a with cla := 0x90, ins := 0x44 }

/-- READ_COUNTERS (R323). -/
def execReadCounters (a : Apdu) (s : State) : Out := s.apduIn { a with cla := 0x90, ins := 0x46 }

/-- TAG_PASSTHROUGH_APDU (R331). -/
def execTagPassthroughApdu (a : Apdu) (s : State) : Out := s.apduIn a

/-! ### Commits, wired access, passthrough (R325, R328, R329, R331) -/

/-- A wired operation has ended with a result (R329). -/
def State.wiredDone (s : State) (r result : Nat) : State :=
  (((s.set HFT.WSTAT_PENDING 0).set HFT.WSTAT_RESULT result).set HFT.WSTAT_RECORD r).set HFT.WSTAT_GEN
    (Tab.get 0 s.hft.genP r)

/-- A field command that waited for the arbiter runs (R328). -/
def State.fieldGo (s : State) : State :=
  match s.hft.fieldWait with
  | some a => if s.wiredBusy then s else s.tagApdu a
  | none => s

/-- A commit's step 5 complete: COMMITTED set and the arbiter released (R325). -/
def State.commitDone (s : State) (c : Commit) : State :=
  let s1 := (s.commitPrefix c commitWords).updHft fun h => { h with
    commit := none, failed := h.failed.filter fun r => r != c.record }
  let s2 := (s1.set HFT.STATUS_COMMITTED 1).bump HFT.CNT_COMMIT_COUNT HFT.STATUS_SAT
  if c.field then
    match c.rest with
    | (r, d) :: rest => s2.commitStart r d true rest c.answer
    | [] => if c.answer == [] then s2 else s2.tagReply c.answer
  else (s2.wiredDone c.record 0).fieldGo

/-- WBUF as bytes. -/
def State.wbuf (s : State) : List Nat := ((List.range 62).flatMap fun i => toLe 4 (s.get HFT.WBUF_DATA i))

/-- A wired operation under its grant: a READ completes, a WRITE begins its commit (R325, R329). -/
def State.wiredRun (s : State) (r : Nat) (write : Bool) : State :=
  let s1 := (s.set HFT.STATUS_WGRANT 1).updHft fun h => { h with wiredWait := none }
  if write then s1.commitStart r s.wbuf false [] []
  else if s.hft.failed.contains r then (s1.wiredDone r 4).fieldGo
  else
    let d := s.recData r
    ((s1.forN 62 fun i t => t.set HFT.WBUF_DATA (le32 d (4 * i)) i).wiredDone r 0).fieldGo

/-- A wired GO (R319, R328, R329): ignored while one is pending; DENIED under the rights; BUSY under NOWAIT while the
grant is held; else granted, or waiting. -/
def State.wiredGo (s : State) (m : Master) (r : Nat) (nowait write : Bool) : State :=
  let rt := s.rights r
  let denied := if write then bitOf rt 5 || (bitOf rt 4 && s.lcSealed) else bitOf rt 6 && m == .hostLink
  if s.on HFT.WSTAT_PENDING then s
  else
    let s1 := ((s.set HFT.WCMD_RECORD r).set HFT.WCMD_NOWAIT (b2n nowait)).set HFT.WCMD_OP (if write then 2 else 1)
    if denied then s1.wiredDone r 2
    else
      let s2 := (s1.set HFT.WSTAT_PENDING 1).set HFT.WSTAT_RECORD r
      if s.hft.commit.isSome then
        if nowait then s1.wiredDone r 1 else s2.updHft fun h => { h with wiredWait := some (r, write) }
      else if s.on HFT.STATE_GUARD then s2.updHft fun h => { h with wiredWait := some (r, write) }
      else s2.wiredRun r write

/-- WIRED_READ (R329). -/
def execWiredRead (m : Master) (record : Nat) (nowait : Bool) (s : State) : Out :=
  .next (s.wiredGo m (record % 256) nowait false)

/-- WIRED_WRITE (R329). -/
def execWiredWrite (m : Master) (record : Nat) (nowait : Bool) (s : State) : Out :=
  .next (s.wiredGo m (record % 256) nowait true)

/-- WGRANT (R328): a waiting wired request is granted once the field command has released and no guard holds. -/
def execWgrant (s : State) : Out :=
  match s.hft.wiredWait with
  | some (r, w) => if s.hft.commit.isSome || s.on HFT.STATE_GUARD then .next s else .next (s.wiredRun r w)
  | none => .next s

/-- The answer of a passed-through APDU sent: response data and status word, MACed in SECURED_FACTORY (R316, R331). -/
def State.passAnswer (s : State) (b : List Nat) : State :=
  s.passClear.tagAnswer (b.take (b.length - 2)) (ofBe (b.drop (b.length - 2)))

/-- A core's answer is awaited. -/
def State.passCore (s : State) : Bool := s.on HFT.PSTAT_PENDING && !s.hft.passSeq

/-- PCMD_RESPOND (R331). -/
def execPcmdRespond (_m : Master) (rlen : Nat) (s : State) : Out :=
  let s1 := s.set HFT.PCMD_RLEN rlen
  if s.passCore && 2 ≤ rlen && rlen ≤ 258 then .next (s1.passAnswer (s.pbuf rlen)) else .next s1

/-- PCMD_REJECT (R331). -/
def execPcmdReject (_m : Master) (s : State) : Out :=
  .next (if s.passCore then s.passAnswer [0x6D, 0x00] else s)

/-- PASSTHROUGH_TIMEOUT (R331): 500 ms after the command's end. -/
def execPassthroughTimeout (s : State) : Out :=
  .next (if s.on HFT.PSTAT_PENDING then s.passAnswer [0x6F, 0x00] else s)

/-- TXF under an HF tag lease (R331): FIDX 0 with the response at O0 and its bits in O1. -/
def State.txfTag (s : State) (n fidx : Nat) : (Nat × State) ⊕ State :=
  let o := fun k => Tab.get 0 (s.seqAt n).g (12 + k)
  if fidx != 0 then .inl (19, s)
  else if o 1 % 8 != 0 || o 1 < 16 || 2064 < o 1 || 0x8000 < o 0 + o 1 / 8 then .inl (20, s)
  else if !(s.on HFT.PSTAT_PENDING && s.hft.passSeq) then .inl (1, s)
  else .inr (((s.passAnswer (s.rdBytes (seqBase n + o 0) (o 1 / 8))).seqEvent n evTXE).bump LSC.CNT_TXF_COUNT
    LSC.STATUS_SAT n)

end Sys2Proof.Machine
end

