-- ==== Sys2Proof/Machine/HfOps.lean ====
section
/-! DEFINITION. The HF reader's field states, frames, windows and decisions, and the HF leases. -/

namespace Sys2Proof.Machine

open Sys2Proof

/-- The reader's own state changed. -/
def State.updHfr (s : State) (g : Hfr → Hfr) : State := { s with hfr := g s.hfr }

/-- The reader's state, in the codes of R69. -/
def State.hst (s : State) : Nat := s.get HFR.STATE_STATE

/-- The sequencer that holds the HF reader. -/
def State.hfSeq (s : State) : Option Nat :=
  if s.on LSC.HF_STATE_HFR_HELD then some (s.get LSC.HF_STATE_HFR_OWNER) else none

/-! ### Frame entries (R283, R284) -/

/-- The sixteen bytes of entry `e` of the HF frame table. -/
def State.hfEntry (s : State) (e : Nat) : List Nat :=
  (List.range 4).flatMap fun w => toLe 4 (Tab.get 0 s.hfr.table (4 * e + w))

def heProto (e : List Nat) : Nat := byteAt e 0 % 4
def heRxRate (e : List Nat) : Nat := byteAt e 1 / 4 % 4
def heTxCrc (e : List Nat) : Bool := bitOf (byteAt e 2) 0
def heRxCrc (e : List Nat) : Bool := bitOf (byteAt e 2) 1
def heShort (e : List Nat) : Bool := bitOf (byteAt e 2) 2
def heAnticoll (e : List Nat) : Bool := bitOf (byteAt e 2) 3
def heReply (e : List Nat) : Bool := bitOf (byteAt e 2) 4
def heEofOnly (e : List Nat) : Bool := bitOf (byteAt e 2) 5
def heIsodep (e : List Nat) : Bool := bitOf (byteAt e 2) 6
def heRecord (e : List Nat) : Bool := bitOf (byteAt e 2) 7
def heWaitMode (e : List Nat) : Nat := le16 e 4 / 16384
def heWaitVal (e : List Nat) : Nat := le16 e 4 % 16384
def heRxMax (e : List Nat) : Nat := le16 e 6

/-- An entry that the table check of R284 would refuse. -/
def heBad (e : List Nat) : Bool :=
  heProto e == 3 || (heShort e && (heTxCrc e || heProto e != 0)) || (heAnticoll e && (heProto e != 0 || heRxRate e != 0)) ||
    (heEofOnly e && heProto e != 2) || (heIsodep e && heProto e == 2) || heWaitMode e == 3 || heRxMax e == 0 || 1023 < heRxMax e ||
    byteAt e 0 / 4 != 0 || byteAt e 1 / 16 != 0 || byteAt e 3 != 0 || (e.drop 10).any fun x => x != 0

/-- The FWI in use: 15 acts as 4 (R287). -/
def heFwi (f : HfFrame) : Nat :=
  let v := if heWaitMode f.entry == 2 then f.ops.getD 2 0 % 16 else heWaitVal f.entry % 16
  if v == 15 then 4 else v

/-- The FWT, or for MODE 0 the wait itself, in carrier cycles (R287). -/
def heFwt (f : HfFrame) : Nat := if heWaitMode f.entry == 0 then 128 * heWaitVal f.entry else 4096 * 2 ^ heFwi f

/-- The wait of a frame's window in carrier cycles (R287). -/
def heWait (f : HfFrame) : Nat := if heWaitMode f.entry == 0 then heFwt f else heFwt f + 49152

/-- The wait ceiling in carrier cycles (R289). -/
def State.hfCeil (s : State) : Nat := 13560 * max 1 (s.get HFR.WAIT_CFG_CEIL_MS)

/-! ### Frames on air (R285, R286, R290) -/

/-- The CRC of R286 in air order: CRC_A as it stands, CRC_B and ISO/IEC 15693 complemented. -/
def hfCrcBits (proto : Nat) (l : List Bool) : List Bool :=
  unpackLsb (toLe 2 (if proto == 0 then crcHf 0x6363 l else 0xFFFF - crcHf 0xFFFF l))

/-- Data with its CRC checks (R286). -/
def hfCrcOk (proto : Nat) (l : List Bool) : Bool :=
  16 ≤ l.length && (if proto == 0 then crcHf 0x6363 (l.take (l.length - 16)) == ofLe (packLsb 2 (l.drop (l.length - 16)))
    else crcHf 0xFFFF l == 0xF0B8)

/-- Operand values that R285 does not list. -/
def hfOperandBad (e : List Nat) (o : List Nat) : Bool :=
  let k := fun i => o.getD i 0
  if heEofOnly e then false
  else if heAnticoll e then k 0 == 0 || 3 < k 0 || 40 < k 1 || 0x7FFB < k 2
  else if heShort e then k 1 != 7 || 0x7FFF < k 0
  else k 1 % 8 != 0 || 8184 < k 1 || 0x8000 < k 0 + k 1 / 8 || (heWaitMode e == 2 && 15 < k 2)

/-- The bits of a frame between start and end of communication, parity and character framing aside (R286, R290). -/
def State.hfBits (s : State) (n : Nat) (e o : List Nat) : List Bool :=
  let k := fun i => o.getD i 0
  let body := fun a len => (unpackLsb (s.rdBytes (seqBase n + a) ((len + 7) / 8))).take len
  if heEofOnly e then []
  else if heAnticoll e then
    let nvb := 16 * (2 + k 1 / 8) + k 1 % 8
    let l := unpackLsb [0x91 + 2 * k 0, nvb] ++ body (k 2) (k 1)
    if k 1 == 40 then l ++ hfCrcBits 0 l else l
  else if heShort e then body (k 0) 7
  else
    let l := body (k 0) (k 1)
    if heTxCrc e then l ++ hfCrcBits (heProto e) l else l

/-- Bits with odd parity after each whole byte (R286, R290). -/
def oddParity (fuel : Nat) (l : List Bool) : List Bool :=
  match fuel with
  | 0 => l
  | fuel + 1 =>
    if l.length < 8 then l
    else l.take 8 ++ (((l.take 8).filter fun b => b).length % 2 == 0) :: oddParity fuel (l.drop 8)

/-- Characters of type B: a start bit of 0, eight bits, a stop bit of 1 (R286). -/
def typeBChars (l : List Bool) : List Bool :=
  (List.range (l.length / 8)).flatMap fun i => false :: (l.drop (8 * i)).take 8 ++ [true]

/-- What a frame of bits `l` puts on air (R286): type A with its parity, type B with SOF, characters and EOF in etu, ISO/IEC 15693
with the SOF and EOF of its code, or the EOF alone. -/
def hfAir (e : List Nat) (l : List Bool) : List HfSym :=
  let sym := fun (b : List Bool) => b.map HfSym.bit
  if heEofOnly e then [.stop]
  else if heProto e == 0 then .start :: sym (if heShort e then l else oddParity l.length l) ++ [.stop]
  else if heProto e == 1 then
    sym (List.replicate 10 false ++ [true, true] ++ typeBChars l ++ List.replicate 10 false)
  else .start :: sym l ++ [.stop]

/-- A frame begins: MOD, an open window closed without a decision (R206, R279), the UID assembly restarted where R293 says. -/
def State.hfBegin (s : State) (f : HfFrame) : State :=
  let bs := s.hfBits f.seq f.entry f.ops
  let f' := { f with bits := bs, air := hfAir f.entry bs }
  let first := (heShort f.entry && (bs == (unpackLsb [0x26]).take 7 || bs == (unpackLsb [0x52]).take 7)) ||
    (heAnticoll f.entry && f.ops.getD 0 0 == 1)
  (s.updHfr fun h => { h with
    sending := some f', held := none, window := none, minGap := false, wtxReply := [], wtxCount := 0
    uid := if first then [] else h.uid }).set HFR.STATE_STATE txMOD

/-- TXF under an HF reader lease: an ERR code of R224, or the state after the issue (R279, R284, R285, R287). Outside CW and LISTEN,
in MOD too, it fails with BAD_STATE (R279, R300). -/
def State.txfHf (s : State) (n fidx : Nat) : (Nat × State) ⊕ State :=
  let e := s.hfEntry fidx
  let ops := (List.range 4).map fun k => Tab.get 0 (s.seqAt n).g (12 + k)
  let f : HfFrame := { seq := n, entry := e, ops := ops, bits := [] }
  if !(s.hst == txCW || s.hst == txLISTEN) || s.hfr.step.isSome then .inl (1, s.set HFR.STATE_LAST_ERR 1)
  else if s.hfr.sending.isSome || s.hfr.held.isSome then .inl (18, s)
  else if heBad e then .inl (19, s)
  else if hfOperandBad e ops then .inl (20, s)
  else
    let s1 := s.bump LSC.CNT_TXF_COUNT LSC.STATUS_SAT n
    .inr (if s1.hfr.minGap then s1.updHfr fun h => { h with held := some f, window := none } else s1.hfBegin f)

/-! ### Decisions (R288 to R293) -/

/-- The drive settings in force from a transition to CW; DEPTH clamped (R282). -/
def State.hfDrive (s : State) : State :=
  let o := max (-7000) (min 7000 (sint 16 (s.get HFR.SYN_OFS_HZ)))
  s.updHfr fun h => { h with
    levelNow := s.get HFR.DRV_LEVEL, depthNow := min 25 (s.get HFR.DRV_DEPTH), ofsNow := unsignedOf 16 o }

/-- The reader enters CW: the drive settings written since the last entry take effect (R282). -/
def State.hfToCw (s : State) : State := (s.set HFR.STATE_STATE txCW).hfDrive

/-- The counters, flags and figures of one decision, and its delivery to the sequencer of the frame (R292). -/
def State.hfDecision (s : State) (f : HfFrame) (herr collpos cls : Nat) (crcOk : Bool) (payload : List Bool) : State :=
  let wtx := s.hfr.wtxCount
  let bad := herr != 0 || !crcOk
  let rxstat := 536870912 * herr + 65536 * payload.length + 256 * min 255 collpos + 128 * b2n (wtx != 0) +
    16 * b2n crcOk + cls
  let s1 := (((s.updHfr fun h => { h with window := none, wtxReply := [], wtxCount := 0, minGap := h.minGap || cls != 0 }).set
    HFR.HSEQ_SEQ (s.get HFR.HSEQ_SEQ + 1)).set HFR.STATUS_FRAME_DONE 1).bump HFR.CNT_FRAME_COUNT HFR.STATUS_SAT
  let s2 := if bad then (s1.set HFR.STATUS_FRAME_ERR 1).bump HFR.CNT_ERR_COUNT HFR.STATUS_SAT else s1
  let s3 := if herr == 4 then s2.set HFR.STATUS_WTX_LIMIT 1 else if herr == 5 then s2.set HFR.STATUS_CEILING 1 else s2
  let s4 := (s3.set HFR.LAST_RX_WTXN wtx).when (s3.hst == txLISTEN) State.hfToCw
  s4.hfDeliver f.seq rxstat payload

/-- The open window decided because the field goes off (R292). -/
def State.hfFieldOff (s : State) : State :=
  let s1 := s.updHfr fun h => { h with sending := none, held := none }
  let s2 := if s1.hst == txMOD then s1.set HFR.STATE_STATE txCW else s1
  match s2.hfr.window with
  | some f => s2.hfDecision f 6 0 0 (!heRxCrc f.entry) []
  | none => s2

/-- The UID with the CLn of cascade level `lv` added: four bytes, or three after the cascade tag (R293). -/
def uidAdd (uid cln : List Nat) (lv : Nat) : List Nat :=
  uid.take (3 * (lv - 1)) ++ (if byteAt cln 0 == 0x88 then (cln.drop 1).take 3 else cln.take 4)

/-- The record bank filled from an HF decision (R293). -/
def State.recHf (s : State) (f : HfFrame) (payload : List Bool) : State :=
  let b := packLsb ((payload.length + 7) / 8) payload
  let p := heProto f.entry
  let rssi := s.get HFR.LAST_RX_RSSI
  if p == 0 then
    if heAnticoll f.entry && f.ops.getD 1 0 == 40 && !bitOf (byteAt b 0) 2 then
      s.recFill f.seq 3 0 255 s.hfr.atqa rssi s.hfr.uid [byteAt b 0, 0, 0, 0]
    else s
  else if p == 1 then s.recFill f.seq 3 0 255 0 rssi (slice b 1 4) [0, 1, 0, 0]
  else s.recFill f.seq 3 0 255 0 rssi (slice b 2 8) [0, 2, 0, 0]

/-- The WTXM of an S(WTX) request that the engine answers, 0 where the reply is none (R288). -/
def wtxmOf (b : List Nat) : Nat :=
  let inf := if b.length == 2 && byteAt b 0 == 0xF2 then byteAt b 1 % 64
    else if b.length == 3 && byteAt b 0 == 0xFA then byteAt b 2 % 64 else 0
  if inf ≤ 59 then inf else 0

/-- The frame is a REQA or a WUPA: a SHORT frame of 0x26 or 0x52 (R293). -/
def heCall (f : HfFrame) : Bool :=
  heShort f.entry && (f.bits == (unpackLsb [0x26]).take 7 || f.bits == (unpackLsb [0x52]).take 7)

/-- Parity holds for every byte received whole that ends before bit `lim` of the reply's data bits (R286, R291). The first `lead` bits
complete a byte begun in the frame and are not received as a whole one. A byte whose parity bit the evidence does not give counts as
right (assumption 55). -/
def parityOk (lead lim : Nat) (b par : List Bool) : Bool :=
  (List.range ((min lim b.length - lead) / 8)).all fun i =>
    match par[i]? with
    | some p => (((b.drop (lead + 8 * i)).take 8).filter fun x => x).length % 2 == (if p then 0 else 1)
    | none => true

/-- The identifiers that a decided reply adds: the ATQA of a REQA or WUPA, and the CLn of a SELECT (R293). -/
def State.hfIdent (s : State) (f : HfFrame) (payload : List Bool) : State :=
  if heCall f then s.updHfr fun h => { h with atqa := ofLe (packLsb 2 payload) }
  else if heAnticoll f.entry && f.ops.getD 1 0 == 40 then
    s.updHfr fun h => { h with uid := uidAdd h.uid (packLsb 5 ((f.bits.drop 16).take 40)) (f.ops.getD 0 0) }
  else s

/-- The ATQA of a call whose replies collide (R293): the bits decoded, the rest left open (assumption 55). -/
def State.atqaOpen (s : State) (pay : List Bool) : State :=
  let k := min 16 pay.length
  s.fresh.2.updHfr fun h => { h with atqa := ofLe (packLsb 2 (pay.take k)) + 2 ^ k * (s.fresh.1 % 2 ^ (16 - k)) }

/-- A reply decided (R288 to R293). A reply that collides where no collision is detected is SINGLE with a failed CRC, or with CODING
where no CRC is checked (R300); only a reply that carries a CRC is checked and stripped (R286, R290). -/
def State.hfReply (s : State) (f : HfFrame) (ev : HfEvidence) : State :=
  let e := f.entry
  let k := if heAnticoll e then f.ops.getD 1 0 else 0
  let known := if heAnticoll e && k < 40 then (f.bits.drop 16).take k else []
  let detects := (heProto e == 0 && heRxRate e == 0) || heProto e == 2
  let checks := heRxCrc e && !(heAnticoll e && k < 40)
  let lead := if heAnticoll e && k < 40 then (8 - k % 8) % 8 else 0
  let cap := min (8 * heRxMax e) (8 * (0x8000 - (s.seqAt f.seq).rxb))
  let hidden := ev.coll.isSome && !detects
  let badPar := fun lim => heProto e == 0 && !parityOk lead lim ev.bits ev.parity
  let s0 := ((s.set HFR.LAST_RX_RSSI ev.rssi).set HFR.FDT_MEAS_CYCLES ev.fdt)
  match if detects then ev.coll else none with
  | some c' =>
    let c := if ev.collPar then c' - 1 else c'
    let pay := known ++ ev.bits.take c
    let s1 := if heCall f then s0.atqaOpen pay else s0
    s1.hfDecision f (if badPar c then 1 else if ev.codingBad then 2 else if cap < pay.length then 3 else 0) pay.length 2
      (!heRxCrc e) (pay.take cap)
  | none =>
    let crcOk := !heRxCrc e || (checks && !hidden && hfCrcOk (heProto e) ev.bits)
    let pay := known ++ (if checks then ev.bits.take (ev.bits.length - 16) else ev.bits)
    let herr := if badPar ev.bits.length then 1 else if ev.codingBad || (hidden && !heRxCrc e) then 2
      else if cap < pay.length then 3 else 0
    let wtxm := if heIsodep e && crcOk && herr == 0 then wtxmOf (packLsb ((pay.length + 7) / 8) pay) else 0
    if wtxm != 0 && s.hfr.wtxCount < s.get HFR.WAIT_CFG_WTX_MAX then
      s0.updHfr fun h => { h with wtxReply := packLsb (pay.length / 8) pay }
    else
      let s1 := if crcOk then s0.hfIdent f pay else s0
      let s2 := s1.hfDecision f (if wtxm != 0 then 4 else herr) 0 1 crcOk (pay.take cap)
      if crcOk && heRecord e then s2.recHf f pay else s2

/-! ### Field states (R279 to R282) -/

/-- An RQS under the lease answered, and the failure kept in LAST_ERR (R279). -/
def State.hfAnswer (s : State) (err : Nat) : State :=
  let s1 := (s.updHfr fun h => { h with want := none }).when (err != 0) fun t => t.set HFR.STATE_LAST_ERR err
  match s1.hfSeq with
  | some n => s1.rqsAnswer n 0 err
  | none => s1

/-- The next step towards the state requested (R279). -/
def State.hfProgress (s : State) : State :=
  match s.hfr.want, s.hfr.step with
  | some w, none =>
    let st := s.hst
    if w == st then s.hfAnswer 0
    else if 3 ≤ st then
      if w < 3 then s.hfFieldOff.updHfr fun h => { h with step := some 2 } else s
    else s.updHfr fun h => { h with step := some (if st < w then st + 1 else st - 1) }
  | _, _ => s

/-- A state requested under the lease (R279, R280, R281). -/
def State.hfRequest (s : State) (w : Nat) : State :=
  if 3 < w then s.hfAnswer 1
  else if w == 3 && s.on RGE.STATE_KILL_ACTIVE then s.hfAnswer 5
  else if w == 3 && s.on HFR.CTRL_TAG_PRIO && s.on HFR.STATE_TAG_FIELD then
    (s.set HFR.STATUS_TAG_BLOCK 1).hfAnswer 1
  else (s.updHfr fun h => { h with want := some w }).hfProgress

/-- A step between field states completed (R279, R281). -/
def State.hfStepDone (s : State) (k : Nat) (railOk : Bool) : State :=
  let s1 := s.updHfr fun h => { h with step := none }
  let st := s.hst
  if k == 1 && st == 0 && !railOk then s1.hfAnswer 4
  else if k == 3 then (s1.hfToCw.set HFR.STATE_FIELD 1).tagGuard.hfProgress
  else
    let s2 := s1.set HFR.STATE_STATE k
    let s3 := if k == 2 then (s2.set HFR.STATE_SYN_LOCK 1).set HFR.STATE_FIELD 0 else s2.set HFR.STATE_SYN_LOCK 0
    s3.hfProgress

/-- The frame on air has ended: TXE, and LISTEN with a window or CW (R279, R287). -/
def State.hfFrameEnd (s : State) (f : HfFrame) : State :=
  let s1 := (s.updHfr fun h => { h with
    sending := none, window := if heReply f.entry then some f else none, waitCyc := heWait f })
  let s2 := if heReply f.entry then s1.set HFR.STATE_STATE txLISTEN else s1.hfToCw
  (s2.seqEvent f.seq evTXE).hfProgress

/-- RF kill (R146, R279, R300): the field drops, pending requests fail. -/
def State.hfKill (s : State) : State :=
  let s1 := if 3 ≤ s.hst || s.hfr.step == some 3 then
      ((s.hfFieldOff.set HFR.STATE_STATE 2).set HFR.STATE_FIELD 0).set HFR.STATUS_KILLED 1
    else s
  let s2 := if s1.hfr.want == some 3 || 3 ≤ s.hst then s1.updHfr fun h => { h with step := none } else s1
  if s2.hfr.want.isSome && (s2.hfr.want == some 3 || 3 ≤ s.hst) then s2.hfAnswer 5 else s2

/-! ### The Gleaner's states (R297) -/

/-- The Gleaner off, its baseline discarded. -/
def State.glOff (s : State) : State := ({ s with gl := {} } : State).set HFR.STATE_GL_STATE 0

/-! ### HF leases (R229, R300) -/

/-- The HF reader's lease ends: the field is ramped down, an open window decided, the sequencer freed. -/
def State.hfrEnd (s : State) : State :=
  match s.hfSeq with
  | none => s
  | some n =>
    let s1 := s.hfFieldOff
    let s2 := s1.updHfr fun h => { h with
      want := if 3 ≤ s1.hst || h.step == some 3 then some 2 else none
      step := if 3 ≤ s1.hst then some 2 else if h.step == some 3 then none else h.step, minGap := false }
    (((s2.set LSC.HF_STATE_HFR_HELD 0).set LSC.HF_STATE_HFR_OWNER 0).seqFree n).hfProgress

/-- The HF tag's lease ends. -/
def State.hftEnd (s : State) : State :=
  if s.on LSC.HF_STATE_HFT_HELD then
    let n := s.get LSC.HF_STATE_HFT_OWNER
    ((s.set LSC.HF_STATE_HFT_HELD 0).set LSC.HF_STATE_HFT_OWNER 0).seqFree n
  else s

/-- Whatever lease sequencer `n` holds ends (R157, R210, R215, R231). -/
def State.leaseEndAny (s : State) (n : Nat) (how : LeaseEnd) : State :=
  if s.holdsHfr n then s.hfrEnd else if s.holdsHft n then s.hftEnd else s.seqLeaseEnd n how

/-- The HFR domain switched off: field and Gleaner off, the lease over (R300). -/
def State.hfrOff (s : State) : State :=
  let s1 := s.hfrEnd
  (((s1.updHfr fun h => { h with want := none, step := none, sending := none, held := none, window := none }).set
    HFR.STATE_STATE 0).set HFR.STATE_FIELD 0).set HFR.STATE_SYN_LOCK 0 |>.glOff

/-- The refusal code of an HF lease, 0 for none (R229, CTRL.EN). -/
def State.hfLeaseCheck (s : State) (target seq : Nat) : Nat :=
  let st := s.get LSC.STATE_STATE seq
  if !s.bit PWR.STATE_DOM 1 || (target == 0 && !s.on HFR.CTRL_EN) then 11
  else if (if target == 0 then s.on LSC.HF_STATE_HFR_HELD else s.on LSC.HF_STATE_HFT_HELD) then 1
  else if st == seqSTOPPED || st == seqFAULT || s.seqBound seq then 3
  else 0

/-- HF_CMD.GO (R228, R229). -/
def State.hfLeaseGo (s : State) (target seq entry : Nat) : State :=
  let s0 := ((s.set LSC.HF_CMD_TARGET target).set LSC.HF_CMD_SEQ seq).set LSC.HF_CMD_ENTRY entry
  let c := s0.hfLeaseCheck target seq
  if c != 0 then s0.set LSC.HF_STATE_REFUSE c
  else if target == 0 then
    ((s0.set LSC.HF_STATE_HFR_HELD 1).set LSC.HF_STATE_HFR_OWNER seq).seqLease seq 5 (4 * entry) 0 0 5 0
  else ((s0.set LSC.HF_STATE_HFT_HELD 1).set LSC.HF_STATE_HFT_OWNER seq).seqLease seq 6 (4 * entry) 0 0 6 0

end Sys2Proof.Machine
end

