-- ==== Sys2Proof/Machine/Lsc.lean ====
section
/-! DEFINITION. The commands of LSC: starting, stopping and resetting sequencers, load checks, waits and faults. -/

namespace Sys2Proof.Machine

open Sys2Proof

/-- The sequencer's state code (R209). -/
def State.seqSt (s : State) (n : Nat) : Nat := s.get LSC.STATE_STATE n

/-! ### Load checks (R232, R233) -/

/-- The frame format table copy at FMT_BASE: its base and its length field, 0 where no TBL1 header stands there. -/
def State.loadTable (s : State) (n : Nat) : Nat × Nat :=
  let fb := ofLe (s.rdBytes (seqBase n + 6) 2)
  (fb, if fb != 0 && fb + 16 ≤ 0x8000 && s.rd32 (seqBase n + fb) == 0x314C4254 then s.rd32 (seqBase n + fb + 8) else 0)

/-- The bytes that CODE_CRC covers: 32 to IMAGE_LEN - 1 without the table copy. -/
def State.codeBytes (s : State) (n ilen : Nat) : List Nat :=
  let t := s.loadTable n
  let a := if t.2 == 0 then ilen else max 32 (min t.1 ilen)
  let b := if t.2 == 0 then ilen else max a (min (t.1 + t.2) ilen)
  s.rdBytes (seqBase n + 32) (a - 32) ++ s.rdBytes (seqBase n + b) (ilen - b)

/-- The first failing check of R233, 0 where all hold. -/
def State.loadCheck (s : State) (n : Nat) : Nat :=
  let h := s.rdBytes (seqBase n) 32
  let ilen := le32 h 12
  let t := s.loadTable n
  let pc := 4 * s.get LSC.PC_INIT_WADDR n
  let rxb := le16 h 8
  if le32 h 0 != 0x5145534C then 1
  else if byteAt h 4 == 0 || 3 < byteAt h 4 then 2
  else if ilen < 32 || 32768 < ilen || le16 h 10 != 0 || (h.drop 20).any (fun x => x != 0) then 3
  else if crc32c (s.codeBytes n ilen) != le32 h 16 then 4
  else if t.1 != 0 && (t.2 == 0 || 0x8000 < t.1 + t.2) then 5
  else if t.1 != 0 && (ofLe (s.rdBytes (seqBase n + t.1 + 4) 2) != 0x40 || s.rd8 (seqBase n + t.1 + 6) != byteAt h 5 ||
    byteAt h 5 != 1) then 6
  else if t.1 != 0 && crc32c (s.rdBytes (seqBase n + t.1 + 16) (t.2 - 16)) != s.rd32 (seqBase n + t.1 + 12) then 7
  else if ilen ≤ pc || pc < 32 then 8
  else if rxb % 4 != 0 || 0x7DFC < rxb then 9
  else 0

/-- START or IDLE after the load checks (R209, R233): only out of STOPPED. -/
def State.seqStart (s : State) (n target : Nat) : State :=
  if s.seqSt n != seqSTOPPED then s
  else
    let c := s.loadCheck n
    let s1 := s.set LSC.DIAG_LOAD c n
    if c != 0 then s1.set LSC.STATUS_LOADERR 1 n
    else
      let fb := (s.loadTable n).1
      let s2 := s1.setSeq n { s1.seqAt n with
        rxb := ofLe (s.rdBytes (seqBase n + 8) 2), fmtBase := fb
        nfmt := if fb == 0 then 0 else s.rd8 (seqBase n + fb + 17) }
      (if target == seqRUN then s2.set LSC.STATE_PCW (s.get LSC.PC_INIT_WADDR n) n else s2).set LSC.STATE_STATE target n

/-- CMD.STOP at an instruction boundary (R210): a WAIT is abandoned, a lease ends as on RELEASE. IDLE stops too. -/
def State.seqStop (s : State) (n : Nat) : State :=
  let st := s.seqSt n
  if st == seqIDLE || st == seqRUN || st == seqWAIT then
    ((s.setOps n { s.opsAt n with wait := none }).set LSC.STATE_STATE seqSTOPPED n).leaseEndAny n .release
  else s

/-- CMD.RESET (R25, R210): the LSn reset at once, a lease ending as on a fault. -/
def State.seqResetCmd (s : State) (n : Nat) : State := (s.seqReset n).leaseEndAny n .fault

/-- SEQ_START (R209, R233). -/
def execSeqStart (n : Nat) (_m : Master) (s : State) : Out := .next (s.seqStart n seqRUN)

/-- SEQ_IDLE (R209, R233). -/
def execSeqIdle (n : Nat) (_m : Master) (s : State) : Out := .next (s.seqStart n seqIDLE)

/-- SEQ_STOP (R210). -/
def execSeqStop (n : Nat) (_m : Master) (s : State) : Out := .next (s.seqStop n)

/-- SEQ_RESET (R210). -/
def execSeqReset (n : Nat) (_m : Master) (s : State) : Out := .next (s.seqResetCmd n)

/-- GCMD_START (R233): the masked sequencers started in the same cycle. -/
def execGcmdStart (_m : Master) (mask : Nat) (s : State) : Out :=
  .next (s.forL (setBits 16 mask) fun n t => t.seqStart n seqRUN)

/-- GCMD_STOP (R210). -/
def execGcmdStop (_m : Master) (mask : Nat) (s : State) : Out :=
  .next (s.forL (setBits 16 mask) fun n t => t.seqStop n)

/-- LSC CMD as a word: RESET wins, then STOP, then IDLE, then START. -/
def State.seqCmd (s : State) (n v : Nat) : State :=
  if bitOf v 3 then s.seqResetCmd n
  else
    let s1 := if bitOf v 2 then s.seqStop n else s
    if bitOf v 1 then s1.seqStart n seqIDLE else if bitOf v 0 then s1.seqStart n seqRUN else s1

/-- DOORBELL (R218). -/
def execDoorbell (n : Nat) (_m : Master) (s : State) : Out := .next (s.seqEvent n evDBL)

/-! ### Flags and waits (R211, R219 to R221) -/

/-- Flag positions in STATE.FLAGS and in special register FLAGS (R213). -/
def flF : Nat := 0
def flT : Nat := 1
def flC : Nat := 2
def flN : Nat := 3
def flZ : Nat := 4

/-- A flag. -/
def State.flag (s : State) (n k : Nat) : Bool := s.bit LSC.STATE_FLAGS k n

/-- A flag written. -/
def State.setFlag (s : State) (n k : Nat) (b : Bool) : State := s.setBit LSC.STATE_FLAGS k b n

/-- F after an instruction marked F: cleared on success, else set with ERR written (R215, R224). -/
def State.seqResult (s : State) (n err : Nat) : State :=
  if err == 0 then s.setFlag n flF false else (s.setFlag n flF true).set LSC.DIAG_ERR err n

/-- The events that end a WAIT of mask `mask`: SLE is implicit under a sheaf lease (R221). -/
def State.waitBits (s : State) (n mask : Nat) : Nat :=
  Nat.land (s.get LSC.EVP_EVP n) (if (s.seqSheaf n).isSome then putBit mask evSLE true else mask)

/-- A WAIT ended by the events `why` (R219). -/
def State.waitEvent (s : State) (n why : Nat) : State :=
  let o := s.opsAt n
  let err := if bitOf why evSLE then 25 else if bitOf why evRDY && o.rqsErr != 0 then o.rqsErr
    else if bitOf why evLCK && o.lockErr != 0 then o.lockErr else 0
  let s1 := (s.setSeq n { s.seqAt n with why := why }).set LSC.EVP_EVP (s.get LSC.EVP_EVP n - why) n
  ((s1.setOps n { s1.opsAt n with wait := none }).setFlag n flT false).seqResult n err

/-- A WAIT ended by its bound (R219). -/
def State.waitExpire (s : State) (n : Nat) : State :=
  let s1 := (s.setSeq n { s.seqAt n with why := 0 }).setOps n { s.opsAt n with wait := none }
  (((s1.setFlag n flT true).setFlag n flF false).set LSC.STATUS_TMO 1 n).bump LSC.CNT_TMO_COUNT LSC.STATUS_SAT n

/-- A WAIT or WAITR issued (R219, R220): its condition may hold already; a bound of 0 polls; au expire at once while the
ATB is OFF. -/
def State.waitIssue (s : State) (n : Nat) (w : WaitRec) : State :=
  let why := s.waitBits n w.mask
  if why != 0 then s.waitEvent n why
  else if w.bound == 0 || (w.unit == 2 && s.get ATB.STATE_STATE == 0) then s.waitExpire n
  else (s.setOps n { s.opsAt n with wait := some w }).set LSC.STATE_STATE seqWAIT n

/-- WAIT_EVENT_END (R219). -/
def execWaitEventEnd (n : Nat) (s : State) : Out :=
  match (s.opsAt n).wait with
  | some w =>
    let why := s.waitBits n w.mask
    if s.seqSt n == seqWAIT && why != 0 then .next ((s.set LSC.STATE_STATE seqRUN n).waitEvent n why) else .next s
  | none => .next s

/-- WAIT_EXPIRY (R219, R235): a masked event in the cycle of expiry wins. -/
def execWaitExpiry (n : Nat) (s : State) : Out :=
  match (s.opsAt n).wait with
  | some w =>
    let why := s.waitBits n w.mask
    let s1 := s.set LSC.STATE_STATE seqRUN n
    if s.seqSt n != seqWAIT then .next s
    else .next (if why != 0 then s1.waitEvent n why else s1.waitExpire n)
  | none => .next s

/-- A fault of sequencer `n` at its present instruction (R231): FAULT, until the LSn reset that follows (R209). -/
def State.seqFault (s : State) (n code : Nat) : State :=
  let pc := s.get LSC.STATE_PCW n
  let s1 := ((s.set LSC.FAULT_CODE code n).set LSC.FAULT_PCW pc n).set LSC.STATUS_FAULT 1 n
  (s1.logHW 0x03 n (8192 * (code % 8) + pc)).set LSC.STATE_STATE seqFAULT n

/-- The LSn reset one CLK_DSP cycle after a fault (R209, R231). -/
def State.faultTick (s : State) (n : Nat) : State := if s.seqSt n == seqFAULT then s.seqResetCmd n else s

end Sys2Proof.Machine
end

