-- ==== Sys2Proof/Machine/AgeOps.lean ====
section
/-! DEFINITION. The ageing margins as operations (R519 to R522). -/

namespace Sys2Proof.Machine

open Sys2Proof

/-- CLK_DSP cycles in 24 h. -/
def dayTicks : Nat := 86400 * 240000000

/-- A margin in percent: `num / den`, clamped to 0 to 100 (R521). Whole percents, the rest dropped (assumption 27). -/
def marginPct (num den : Int) : Nat := if num ≤ 0 || den ≤ 0 then 0 else (min 100 (100 * num / den)).toNat

/-- Margin `k` of AGE STATUS.WARN has come to `pct` (R522): a warning where it falls to AGE_WARN_PCT or below, EXHAUST and an
entry of the log where it reaches 0. -/
def State.margin (s : State) (k pct : Nat) : State :=
  let low := decide (pct ≤ s.get AGE.MARGIN0_WARN_PCT)
  let s1 := if low && !bitOf s.age.warned k then
      (s.setBit AGE.STATUS_WARN k true).bump AGE.CNT_WARN_COUNT AGE.STATUS_SAT else s
  let s2 := if pct == 0 && !bitOf s.age.exhausted k then (s1.set AGE.STATUS_EXHAUST 1).logHW 0x08 k 0 else s1
  { s2 with age.warned := putBit s.age.warned k low, age.exhausted := putBit s.age.exhausted k (pct == 0) }

/-- A lock, or a hint miss, enters the statistics of the band hints (R521). -/
def State.ageHint (s : State) (miss : Bool) : State :=
  let l := ((s.now, miss) :: s.age.locks).filter fun e => decide (s.now ≤ e.1 + dayTicks)
  let s1 : State := { s with age.locks := l }
  let misses := (l.filter fun e => e.2).length
  let locks := l.length - misses
  if locks == 0 then s1
  else
    let pct := marginPct (50 * locks - 1000 * misses) (50 * locks)
    let s2 := ((s1.set AGE.HINT_LO (divOpen (1000 * misses) locks)).set AGE.MARGIN1_B pct).margin 4 pct
    if 20 * locks < 1000 * misses then s2.set AGE.STATUS_DUE_HINT 1 else s2

end Sys2Proof.Machine
end

