-- ==== Sys2Proof/Machine/Rfs.lean ====
section
/-! DEFINITION. The commands of the synthesizers RFS0 to RFS3. -/

namespace Sys2Proof.Machine

open Sys2Proof

/-- A write to a synthesizer of a lease by another than its holder is ignored and noted on each chain that it feeds
(R72). -/
def State.rfsOwned (s : State) (n : Nat) (m : Master) (k : State → State) : State :=
  if s.ownerOk (s.synthSheaf n) m then k s else s.forL (s.fed n) fun c t => t.utxRefuse c errNOT_OWNER

/-- FREQ written: ignored while a fed chain carries carrier (R84). -/
def State.rfsFreq (s : State) (n v : Nat) : State :=
  let carrying := (s.fed n).filter fun c => s.carrier c
  if carrying != [] then s.forL carrying fun c t => t.utxRefuse c errBAD_STATE
  else (s.set RFS.FREQ_CHAN (bits v 25 20) n).set RFS.FREQ_KHZ (bits v 19 0) n

/-- RFS_FREQ_WRITE (R72, R84). -/
def execRfsFreqWrite (n : Nat) (m : Master) (value : Nat) (s : State) : Out :=
  .next (s.rfsOwned n m fun t => t.rfsFreq n value)

/-- RFS_LOCK (R78). -/
def execRfsLock (n : Nat) (m : Master) (s : State) : Out := .next (s.rfsOwned n m fun t => t.rfsLock n false)

/-- RFS_FULL (R78). -/
def execRfsFull (n : Nat) (m : Master) (s : State) : Out := .next (s.rfsOwned n m fun t => t.rfsLock n true)

/-- Fulling ends a sequence with an abort code: every trim as before (R505, R513). -/
def State.calAborted (s : State) (seq code : Nat) : State :=
  ((((((s.set CAL.STATE_BUSY 0).set CAL.STATE_SEQ 0).set CAL.RESULT_SEQ seq).set CAL.RESULT_CODE code).set
    CAL.RESULT_UNIT 0).set CAL.STATUS_ABORTED 1).bump CAL.CNT_ABORT_COUNT CAL.STATUS_SAT

/-- VALID of the working record: the results of sequence `seq` are held (R515). -/
def State.calValid (s : State) (seq : Nat) : State :=
  let v := (s.cal16 0x18 + 65536 * s.cal16 0x1A).lor (2 ^ seq)
  (s.setCal 0x18 (toLe 4 v)).set CAL.VALID_VALID v

/-- Fulling ends a sequence with its results (R513); the sequence is counted. -/
def State.calFinished (s : State) (seq units : Nat) : State :=
  (((((((s.set CAL.STATE_BUSY 0).set CAL.STATE_SEQ 0).set CAL.RESULT_SEQ seq).set CAL.RESULT_CODE 0).set
    CAL.RESULT_UNIT units).set CAL.STATUS_DONE 1).bump CAL.CNT_RUN_COUNT CAL.STATUS_SAT).calValid seq

/-- The synthesizer enters CAL, powered up first where it was off (R81, R82). -/
def State.rfsCalStart (s : State) (n : Nat) : State :=
  let y := s.synthAt n
  let s1 := s.setSynth n { y with
    byCommand := y.byCommand || s.sst n == synOFF, relock := true, bootFull := none, settleAt := none }
  (s1.set RFS.STATE_CAL_PENDING 0 n).set RFS.STATE_STATE synCAL n

/-- RFS_CAL (R82): refused to a gang member's synthesizer (R97), aborted with INPUT_ACTIVE where a fed chain is in CW,
MOD or LISTEN, otherwise Fulling's sequence 7 on this synthesizer. -/
def State.rfsCal (s : State) (n : Nat) : State :=
  if s.isMember n then s.set RFS.STATUS_REFUSED 1 n
  else if s.on CAL.STATE_BUSY then s.set CAL.STATUS_CMD_ERR 1
  else if (s.fed n).any fun c => s.inUse c then s.calAborted 7 1
  else { ((s.rfsCalStart n).set CAL.STATE_BUSY 1).set CAL.STATE_SEQ 7 with calTarget := 2 ^ n }

/-- RFS_CAL (R82). -/
def execRfsCal (n : Nat) (m : Master) (s : State) : Out := .next (s.rfsOwned n m fun t => t.rfsCal n)

/-- HINT_MISS (R79): only a hinted search can miss; a full search restarts. -/
def execHintMiss (n : Nat) (s : State) : Out :=
  if s.on RFS.STATE_HINT_USED n && (s.sst n == synSEARCH || s.sst n == synSETTLE) then
    .next (((((s.setSynth n { s.synthAt n with settleAt := some (s.now + 14400) }).set RFS.STATUS_HINT_MISS 1 n).set
      RFS.STATE_HINT_USED 0 n).set RFS.STATE_STATE synSEARCH n).ageHint true)
  else .next s

/-- SYNTH_LOCKED (R78), the end of a search and settle, which a power-up by command may have led to: band, lock time in REFCLK cycles and tuning voltage are measured; waiting chains and a waiting
sequencer go on. -/
def execSynthLocked (n band lockTime vtune : Nat) (s : State) : Out :=
  if s.sst n == synSEARCH || s.sst n == synSETTLE || (s.synthAt n).bootFull.isSome then
    let s0 := match (s.synthAt n).bootFull with
      | some full => s.rfsSearch n full
      | none => s
    let s1 := ((((s0.set RFS.STATE_STATE synLOCKED n).set RFS.STATE_BAND band n).set RFS.MON_LOCK_TIME
      (min 0xFFFF lockTime) n).set RFS.MON_VTUNE vtune n).set RFS.STATUS_LOCK 1 n
    let s2 := (s1.setSynth n { s1.synthAt n with settleAt := none, relock := false }).rxCoastEnd n
    .next (((s2.rfsWake n).lockAnswer n 0).ageHint false)
  else .next s

/-- What a chain does when its synthesizer loses lock (R83, R84, R98). -/
def State.utxLol (s : State) (n : Nat) : State :=
  if s.carrier n then
    (((s.set UTX.STATUS_LOL_RAMP 1 n).noteErr n errLOL).bump UTX.CNT_FAULT_COUNT UTX.STATUS_SAT n).rampDown n true
      txSTANDBY errLOL
  else if s.ust n == txLISTEN then s.setUtx n { s.utxAt n with lolListen := true }
  else if s.ust n == txREADY then
    let s1 := ((s.giveUp n).endWait n).setUst n txSTANDBY
    if (s.utxAt n).want.isSome then s1.utxFail n errLOL else s1
  else s

/-- SYNTH_LOSS_OF_LOCK (R83): declared in LOCKED only. -/
def execSynthLossOfLock (n : Nat) (s : State) : Out :=
  if s.sst n == synLOCKED then
    let s1 := ((s.set RFS.STATE_STATE synCOAST n).set RFS.STATUS_LOL 1 n).rxCoast n
    .next (s1.forL (s1.fed n) fun c t => t.utxLol c)
  else .next s

/-- TEMPERATURE_TRIGGER (R81): the temperature is taken; a calibration that is due and may not start is pending. One that falls due
with the synthesizer in OFF neither starts nor pends (assumption 49). -/
def execTemperatureTrigger (n temp : Nat) (s : State) : Out :=
  let s1 := (s.set RFS.TEMP_TEMP temp n).set RFS.STATE_TBIN (tempBin temp) n
  let held := s.calHolds [7, 8] n
  if s.isMember n || s.sst n == synOFF || (s.sst n == synCAL && !held) || !s1.tcalDue n then .next s1
  else if (s1.calFree n && !held) || s1.on RFS.STATE_CAL_PENDING n then .next s1
  else .next ((s1.set RFS.STATE_CAL_PENDING 1 n).set RFS.STATUS_CAL_DEFER 1 n)

/-- TEMP_CAL_START (R81, R523): a due calibration starts where nothing defers it. -/
def execTempCalStart (n : Nat) (s : State) : Out :=
  if !s.isMember n && s.tcalDue n && s.calFree n && !s.calHolds [7, 8] n then
    .next (s.rfsCalStart n)
  else .next s

/-- The band hints of the current bin updated for the channels of the profile in force (R81). -/
def State.hintUpdate (s : State) (n bin : Nat) (bands : List Nat) : State :=
  s.forN (min 64 s.nchan) fun c t => t.setCal (hintOff n c bin) [128 + bands.getD c 0 % 64]

/-- The results of a synthesizer calibration: hints, CAL_TEMP and the working record (R81, R515). -/
def State.synthTrims (s : State) (n temp : Nat) (bands : List Nat) : State :=
  let s1 := ((s.set RFS.TEMP_TEMP temp n).set RFS.STATE_TBIN (tempBin temp) n).set RFS.TEMP_CAL_TEMP temp n
  ((s1.hintUpdate n (tempBin temp) bands).setCal (0x1500 + 2 * n) (toLe 2 temp)).set RFS.STATUS_CAL_DONE 1 n

/-- The re-lock with a full search that ends a calibration (R81). -/
def State.calRelock (s : State) (n : Nat) : State := (s.set RFS.STATE_STATE synIDLE n).rfsLock n true

/-- SYNTH_CAL_DONE (R81, R82): bands of the profile's channels and the temperature are measured; hints, CAL_TEMP and the
working record follow, and the synthesizer re-locks to FREQ with a full search. A synthesizer that a sequence of several
units holds keeps its results until the sequence ends (R505). -/
def execSynthCalDone (n temp : Nat) (bands : List Nat) (s : State) : Out :=
  if s.sst n == synCAL then
    if s.calHolds [7] n then
      .next (if s.calTarget == 2 ^ n then ((s.synthTrims n temp bands).calFinished 7 (2 ^ n)).calRelock n else s)
    else .next (((s.synthTrims n temp bands).bump CAL.CNT_RUN_COUNT CAL.STATUS_SAT).calRelock n)
  else .next s

end Sys2Proof.Machine
end

