-- ==== Sys2Proof/Machine/Urx.lean ====
section
/-! DEFINITION. The commands of the receive chains URX0 to URX15 and of the sample-buffer capture. -/

namespace Sys2Proof.Machine

open Sys2Proof

/-- A receive window of the chain's sheaf is open (R110). -/
def State.rxInWindow (s : State) (ch : Nat) : Bool :=
  match s.rxSheaf ch with
  | some sh => (s.engAt sh).window.isSome
  | none => false

/-- The envelope of chain `c` has stood at 25 % of full or above for 1 µs, 240 cycles (R112). -/
def State.envHigh (s : State) (c : Nat) : Bool :=
  s.carrier c && match (s.utxAt c).ramp with
    | none => true
    | some r =>
      let t := s.rampTable.getD []
      decide (r.since + 240 ≤ s.now) && decide (0x4000 ≤ rampValue t r s.now) && decide (0x4000 ≤ rampValue t r (s.now - 240))

/-- The tracking loop of a chain runs: neither frozen for a reply nor by FREEZE, and a carrier of its sheaf stands at 25 % (R112). -/
def State.loopRuns (s : State) (ch : Nat) : Bool :=
  !(s.urxAt ch).frozen && !s.on URX.CNV_CTRL_FREEZE ch &&
    match s.rxSheaf ch with
    | some sh => (s.txOf sh).any fun c => s.envHigh c
    | none => false

/-- A coarse step and vector that the CNV can stand at (R110): the magnitude within 2,047; in a receive window the step it has, outside
one the largest step that holds the magnitude. -/
def State.vecLegal (s : State) (ch crs i q : Nat) : Bool :=
  decide (vecMag i q ≤ 2047) && decide (crs < 4) &&
    (if s.rxInWindow ch then crs == s.get URX.CNV_CTRL_CRS ch else crs == 3 || decide (2047 ^ 2 < 10 * vecSq i q))

/-- A measurement of a chain: the residual, and the vector to which a loop that runs has come, with JAM and DEPTH (R110, R112,
R113). -/
def State.rxMeasure (s : State) (ch resid crs i q : Nat) : State :=
  let s1 := if s.loopRuns ch && s.vecLegal ch crs i q then s.setVec ch crs i q else s
  (s1.set URX.CNV_MON_RESID resid ch).jamReport ch

/-- The chain is one whose hold is evaluated: ACQUIRE, TRACK or RX_CW (R114). -/
def State.rxNulling (s : State) (ch : Nat) : Bool :=
  s.rst ch == rxACQUIRE || s.rst ch == rxTRACK || s.rst ch == rxCW

/-- NULL_FIRST_HOLD (R106, R114): the first hold after ACQUIRE sets NULL_READY without the 50 µs wait; a chain in ACQUIRE
enters TRACK. Residual and vector are measured. -/
def execNullFirstHold (ch resid crs vecI vecQ : Nat) (s : State) : Out :=
  if s.rxNulling ch && !(s.urxAt ch).everHeld && sint 16 resid ≤ sint 16 (s.get URX.HOLD_CFG_LIM) then
    let s1 := (s.rxMeasure ch resid crs vecI vecQ).set URX.STATE_NULL_READY 1 ch
    let s2 := s1.setUrx ch { s1.urxAt ch with everHeld := true, rejoined := true }
    .next (if s.rst ch == rxACQUIRE then s2.setRst ch rxTRACK else s2)
  else .next s

/-- HOLD_LOST (R114, R115): RESID has stood above the limit for HOLD_US. In the microsecond in which an overload has stopped the
chain, it is flagged and counted, and the policy is not applied again (R129). -/
def execHoldLost (ch resid crs vecI vecQ : Nat) (s : State) : Out :=
  let lost : State := (s.set URX.STATUS_HOLD_LOST 1 ch).bump URX.CNT_HOLD_COUNT URX.STATUS_SAT ch
  if sint 16 resid ≤ sint 16 (s.get URX.HOLD_CFG_LIM) then .next s
  else if s.rxNulling ch && s.on URX.STATE_NULL_READY ch then
    .next (((lost.rxMeasure ch resid crs vecI vecQ).set URX.STATE_NULL_READY 0 ch).rxPolicy ch)
  else if (s.urxAt ch).ovlStop.map (· / 240) == some (s.now / 240) then
    .next (lost.setUrx ch { lost.urxAt ch with ovlStop := none })
  else .next s

/-- REJOIN (R114): the hold regained after 50 µs at or below the limit less the hysteresis; a chain in ACQUIRE has none to regain. -/
def execRejoin (ch resid crs vecI vecQ : Nat) (s : State) : Out :=
  if (s.rst ch == rxTRACK || s.rst ch == rxCW) && !s.on URX.STATE_NULL_READY ch &&
      sint 16 resid ≤ sint 16 (s.get URX.HOLD_CFG_LIM) - 256 * (s.get URX.HOLD_CFG_HYST : Nat) then
    let s1 := ((s.rxMeasure ch resid crs vecI vecQ).set URX.STATE_NULL_READY 1 ch).set URX.STATUS_REJOIN 1 ch
    .next (s1.setUrx ch { s1.urxAt ch with everHeld := true, rejoined := true })
  else .next s

/-- OVERLOAD (R117): flagged, counted, marked on the reply in progress, and the hold policy applied. -/
def execOverload (ch : Nat) (s : State) : Out :=
  if s.rst ch == rxOFF then .next s
  else
    let s1 := (s.set URX.STATUS_OVERLOAD 1 ch).bump URX.CNT_OVL_COUNT URX.STATUS_SAT ch
    let stop := s.on URX.STATE_NULL_READY ch && s.get URX.HOLD_CFG_POLICY == 2
    let s2 := (s1.setUrx ch { s1.urxAt ch with
      ovlNow := true, ovlStop := if stop then some s.now else (s1.urxAt ch).ovlStop }).setBit URX.OVL_SUM_OVL ch true
    .next (s2.rxPolicy ch)

/-- CNV_SAT (R110, R117): flagged where the vector, as the loop now stands, has the magnitude 2,047 at CRS 0. -/
def execCnvSat (ch vecI vecQ resid : Nat) (s : State) : Out :=
  let s1 := s.rxMeasure ch resid 0 vecI vecQ
  if s.rxNulling ch && s1.get URX.CNV_CTRL_CRS ch == 0 &&
      vecMag (s1.get URX.CNV_VEC_VEC_I ch) (s1.get URX.CNV_VEC_VEC_Q ch) == 2047 then
    .next (s1.set URX.STATUS_CNV_SAT 1 ch)
  else .next s

/-- A foreign carrier at MIN on a chain of a sheaf that follows it (R175). -/
def State.cfCarrier (s : State) (ch level : Nat) : State :=
  match s.rxSheaf ch with
  | some sh =>
    if sint 16 level < sint 16 (s.get SHF.CF_CFG_MIN sh) then s else s.setSheaf sh { s.sheafAt sh with cfSeen := true }
  | none => s

/-- FOREIGN_TONE_LOCK (R118): with FTRK, in RX_FOREIGN, onto a carrier within ±20 kHz; one below −60 dBm reports 0. -/
def execForeignToneLock (ch fofs level : Nat) (s : State) : Out :=
  if s.rst ch == rxFOREIGN && s.on URX.DIG_CFG_FTRK && (sint 16 fofs).natAbs ≤ 20000 then
    .next ((s.cfCarrier ch level).set URX.FOFS_VALUE (if sint 16 level < -15360 then 0 else fofs) ch)
  else .next s

/-- URX_TRIM_WRITE (R109): OFS_TRIM or, with `iq`, IQ_TRIM; taken in OFF and IDLE only. -/
def State.rxTrim (s : State) (ch : Nat) (iq : Bool) (v : Nat) : State :=
  if rxIDLE < s.rst ch then s.set URX.STATUS_CMD_ERR 1 ch
  else if iq then (s.set URX.IQ_TRIM_PHASE (bits v 13 7) ch).set URX.IQ_TRIM_GAIN (bits v 5 0) ch
  else (s.set URX.OFS_TRIM_OFS_I (bits v 15 8) ch).set URX.OFS_TRIM_OFS_Q (bits v 7 0) ch

/-- URX_TRIM_WRITE (R109). -/
def execUrxTrimWrite (ch : Nat) (_m : Master) (iq : Bool) (value : Nat) (s : State) : Out := .next (s.rxTrim ch iq value)

/-- CNV_VEC written: taken while FREEZE is set and the chain's sheaf is unleased (R123). -/
def State.rxVecWrite (s : State) (ch v : Nat) : State :=
  if s.on URX.CNV_CTRL_FREEZE ch && (s.rxSheaf ch).isNone then
    ((s.set URX.CNV_VEC_VEC_Q (bits v 27 16) ch).set URX.CNV_VEC_VEC_I (bits v 11 0) ch).jamReport ch
  else s.set URX.STATUS_CMD_ERR 1 ch

/-- CNV_VEC_WRITE (R123). -/
def execCnvVecWrite (ch : Nat) (_m : Master) (value : Nat) (s : State) : Out := .next (s.rxVecWrite ch value)

/-- The number of chains captured. -/
def State.capChains (s : State) : Nat := popcount 16 (s.get URX.CAP_CFG_MASK)

/-- ARM's checks (R126). -/
def State.capBad (s : State) : Bool :=
  let n := s.capChains
  let len := s.get URX.CAP_LEN_INSTANTS
  n == 0 || s.get URX.CAP_CFG_POINT == 3 || 6 ≤ s.get URX.CAP_CFG_TSRC || len == 0 ||
    (if s.on URX.CAP_CFG_RING then decide (262144 < (s.get URX.CAP_PRE_INSTANTS + len) * n)
     else decide (262144 < len * n))

/-- CAP_ARM (R126, R129): refused while armed or capturing; in ring mode storing starts at once. -/
def State.capArm (s : State) : State :=
  if s.on URX.CAP_STATUS_ARMED || s.on URX.CAP_STATUS_RUNNING || s.capBad then s.set URX.CAP_STATUS_CFG_ERR 1
  else (({ s with radio.capture := {} } : State).set URX.CAP_STATUS_ARMED 1).set URX.CAP_STATUS_RUNNING
    (s.get URX.CAP_CFG_RING)

/-- CAP_ARM (R126). -/
def execCapArm (s : State) : Out := .next s.capArm

/-- The trigger source `src` fires for unit `unit` (R127): it is the source selected, on the chain or sheaf it names. -/
def State.capHit (s : State) (src unit : Nat) : Bool :=
  let mask := s.get URX.CAP_CFG_MASK
  s.get URX.CAP_CFG_TSRC == src &&
    (src == 0 || (src == 1 && (setBits 16 mask).head? == some unit) ||
      (2 ≤ src && src ≤ 4 && bitOf mask unit) || (src == 5 && s.get URX.CAP_CFG_TSHEAF == unit))

/-- A trigger for the capture (R126, R129): lost while the post-trigger instants are being stored. -/
def State.capTrigger (s : State) (src unit : Nat) : State :=
  if !s.capHit src unit then s
  else if s.radio.capture.triggered && s.on URX.CAP_STATUS_RUNNING then s.set URX.CAP_STATUS_TRIG_LOST 1
  else if s.on URX.CAP_STATUS_ARMED then
    (({ s with radio.capture := { triggered := true, angle := s.atb.angle, cycle := s.atb.cycle } } : State).set
      URX.CAP_STATUS_ARMED 0).set URX.CAP_STATUS_RUNNING 1
  else s

/-- CAP_TRIG (R127). -/
def execCapTrig (s : State) : Out := .next (s.capTrigger 0 0)

/-- CAPTURE_TRIGGER (R126, R127). -/
def execCaptureTrigger (src unit : Nat) (s : State) : Out := .next (s.capTrigger src unit)

/-- A word of the buffer (R124): Q above I, at the ADC tap each a 14-bit value sign-extended. -/
def sampleWord (point w : Nat) : Nat :=
  let ext := fun v => if point == 0 then unsignedOf 16 (sint 14 v) else v % 65536
  65536 * ext (w / 65536) + ext w

/-- The `k`-th word of a capture: measured, and open where the command does not carry it (assumption 3). -/
def State.capWord (s : State) (words : List Nat) (k : Nat) : Nat × State :=
  match words[k]? with
  | some w => (sampleWord (s.get URX.CAP_CFG_POINT) w, s)
  | none => (sampleWord (s.get URX.CAP_CFG_POINT) s.fresh.1, s.fresh.2)

/-- The `count` words of a capture stored from instant `ptr` on, wrapping at the end of the instants that fit (R124). -/
def State.capStore (s : State) (ptr size count : Nat) (words : List Nat) : State :=
  s.forN count fun k t =>
    let w := t.capWord words k
    w.2.wr32 (0x18000000 + 4 * ((ptr * s.capChains + k) % max 1 size)) w.1

/-- The end of a capture of `count` instants with the trigger at the `before`-th (R126): DONE, pointers, and the trigger's index and
stamp where it has come. A ring that has not filled starts at instant 0. -/
def State.capEnd (s : State) (count before ptr : Nat) (samples : List Nat) : State :=
  let n := max 1 s.capChains
  let fit := 262144 / n
  let c := min fit count
  let p := if s.on URX.CAP_CFG_RING && c == fit then ptr % fit else 0
  let s1 := s.capStore p (fit * n) (c * n) samples
  let s2 := (((s1.set URX.CAP_STATUS_ARMED 0).set URX.CAP_STATUS_RUNNING 0).set URX.CAP_STATUS_DONE 1).set
    URX.CAP_COUNT_INDEX c
  let s3 : State := { s2.set URX.CAP_PTR_INDEX p with radio.capture := {}, radio.lastCap := some (p, c, n) }
  if s.radio.capture.triggered then
    ((s3.set URX.CAP_TIDX_INDEX ((p + before) % fit)).set URX.CAP_STAMP_LO_ANGLE s.radio.capture.angle).set
      URX.CAP_STAMP_HI_CYCLE s.radio.capture.cycle
  else s3

/-- The instants that a ring keeps from before the trigger: at least CAP_PRE and no more than fit beside CAP_LEN; none without a ring
(R126). -/
def State.capBefore (s : State) (before : Nat) : Nat :=
  if s.on URX.CAP_CFG_RING then
    max (s.get URX.CAP_PRE_INSTANTS) (min before (262144 / max 1 s.capChains - s.get URX.CAP_LEN_INSTANTS))
  else 0

/-- CAPTURE_DONE (R126). -/
def execCaptureDone (before ptr : Nat) (samples : List Nat) (s : State) : Out :=
  if s.radio.capture.triggered && s.on URX.CAP_STATUS_RUNNING then
    let b := s.capBefore before
    .next (s.capEnd (b + s.get URX.CAP_LEN_INSTANTS) b ptr samples)
  else .next s

/-- What a capture stopped now can have stored: nothing before a trigger without a ring, and no more than CAP_LEN after it (R126,
R129). -/
def State.capSoFar (s : State) (stored : Nat) : Nat :=
  if s.on URX.CAP_CFG_RING then stored
  else if s.radio.capture.triggered then min stored (s.get URX.CAP_LEN_INSTANTS)
  else 0

/-- A capture in progress ends at the current instant (R129). -/
def State.capStop (s : State) (stored before ptr : Nat) (samples : List Nat) : State :=
  let c := s.capSoFar stored
  s.capEnd c (if s.on URX.CAP_CFG_RING then min before c else 0) ptr samples

/-- CAP_STOP (R129). -/
def execCapStop (stored before ptr : Nat) (samples : List Nat) (s : State) : Out :=
  .next (if s.on URX.CAP_STATUS_ARMED || s.on URX.CAP_STATUS_RUNNING then s.capStop stored before ptr samples else s)

/-- A capture in progress ends at the current instant with no figures of it known: its count, place and contents are open (R129,
R471, assumption 3). -/
def State.captureCut (s : State) : State :=
  let d := s.freshL 3 262144
  if s.on URX.CAP_STATUS_ARMED || s.on URX.CAP_STATUS_RUNNING then
    d.2.capStop (d.1.getD 0 0) (d.1.getD 1 0) (d.1.getD 2 0) []
  else s

end Sys2Proof.Machine
end

