-- ==== Sys2Proof/Machine/Port.lean ====
section
/-! DEFINITION. Register reads and writes of the blocks that the private port reaches: UTX, RFS, URX, SHF, WNW, QUE and
ATB (R16, R222). The crossbar reaches the same registers through the same functions. -/

namespace Sys2Proof.Machine

open Sys2Proof

/-! ### Writes -/

/-- UTX CMD.REQ (R70 to R73). -/
def State.utxCmd (s : State) (n : Nat) (m : Master) (req : Nat) : State :=
  if req == 0 then s
  else if 5 < req then s.utxOwned n m fun t => t.utxRefuse n errBAD_STATE
  else s.utxReq n m (if req == 5 then txLISTEN else req - 1)

/-- UTX CTRL: LO_SRC under R97, the other fields as written. -/
def State.utxCtrl (s : State) (n v : Nat) : State :=
  ((s.set UTX.CTRL_LATE_POLICY (bits v 2 2) n).set UTX.CTRL_PA_CHECK (bits v 1 1) n).loSrc n (bits v 9 8)

/-- RFS CMD: CAL acts alone; FULL acts where it is written with LOCK. -/
def State.rfsCmd (s : State) (n : Nat) (m : Master) (v : Nat) : State :=
  s.rfsOwned n m fun t =>
    if bitOf v 2 then t.rfsCal n else if bitOf v 1 then t.rfsLock n true else if bitOf v 0 then t.rfsLock n false else t

/-- Whether a write to a leased receive chain is barred: R123 admits its holder alone. -/
def State.rxBarred (s : State) (ch : Nat) (m : Master) : Bool :=
  match s.rxSheaf ch with
  | some sh => m != .seq (s.get SHF.LEASE_STATE_OWNER sh)
  | none => false

/-- CTRL.EN of a receive chain (R106): OFF while 0; IDLE once enabled with the RADIO domain on. -/
def State.rxEnable (s : State) (ch : Nat) (en : Bool) : State :=
  if !en then (if s.rst ch == rxOFF then s else (s.rxIdle ch).setRst ch rxOFF)
  else if s.rst ch == rxOFF && s.bit PWR.STATE_DOM 0 then s.setRst ch rxIDLE
  else s

/-- URX CTRL and CNV_CTRL (R106, R123); with AGC 0 the gain written is applied (R120). -/
def State.rxCtrl (s : State) (fs : List (Fld × Nat)) (ch : Nat) (m : Master) (v : Nat) (isCtrl : Bool) : State :=
  if s.rxBarred ch m then s.set URX.STATUS_CMD_ERR 1 ch
  else if isCtrl then
    let s1 := (s.plainWrite fs v 0xFFFFFFFF).rxEnable ch (bitOf v 0)
    if bitOf v 8 then s1 else s1.set URX.STATE_GAIN_APP (bits v 6 4) ch
  else s.plainWrite fs v 0xFFFFFFFF

/-- CAP_CTRL (R126, R127, R129). What a capture ended by STOP has stored is measured, so a STOP written here ends it with
an open count, place and contents. -/
def State.capCtrl (s : State) (v : Nat) : State :=
  let s1 := if bitOf v 0 then s.capArm else s
  let s2 := if bitOf v 1 then s1.capTrigger 0 0 else s1
  if bitOf v 2 then s2.captureCut else s2

/-- LEASE_CMD (R154, R157). -/
def State.leaseCmd (s : State) (sh : Nat) (m : Master) (v : Nat) : State :=
  let s1 := if bitOf v 31 then s.leaseRelease sh m else s
  if bitOf v 30 then s1.leaseGo sh m (bits v 12 8) (bits v 3 0)
  else (s1.set SHF.LEASE_CMD_SLOT (bits v 12 8) sh).set SHF.LEASE_CMD_SEQ (bits v 3 0) sh

/-- BEAM: the queue of bearing results, and SEL under R167. -/
def State.beamWrite (s : State) (fs : List (Fld × Nat)) (sh v : Nat) : State :=
  (s.plainWrite (fs.filter fun p => p.1 != SHF.BEAM_SEL) v 0xFFFFFFFF).beamSel sh (bits v 3 0)

/-- QCFG (R448): BASE and DEPTH only while EN = 0. -/
def State.queCfg (s : State) (q v : Nat) : State :=
  if bitOf v 31 then s.queEnable q (bits v 7 0) (bits v 23 16)
  else if s.on QUE.QCFG_EN q then s.queDisable q
  else (s.set QUE.QCFG_BASE (bits v 7 0) q).set QUE.QCFG_DEPTH (bits v 23 16) q

/-- ATB CTRL (R42, R62, R566, R567). -/
def State.atbCtrl (s : State) (fs : List (Fld × Nat)) (v : Nat) : State :=
  let keep := [ATB.CTRL_EN, ATB.CTRL_SRC, ATB.CTRL_STANDALONE]
  let s1 := s.plainWrite (fs.filter fun p => !keep.contains p.1) v 0xFFFFFFFF
  let s2 := if bitOf v 0 then (s1.atbSource (bits v 1 1)).atbEnable else s1.atbDisable.atbSource (bits v 1 1)
  if bitOf v 8 then s2.set ATB.CTRL_STANDALONE 1 else s2.atbStandaloneClear

/-- ATB CMD (R48, R55, R58): DISARM acts before ARM. -/
def State.atbCmd (s : State) (v : Nat) : State :=
  let s1 := if bitOf v 1 then s.planDisarm else s
  let s2 := if bitOf v 0 then s1.planArm false else s1
  if bitOf v 2 then s2.updAtb fun a => { a with adjArmed := true } else s2

/-- AEV_CFG and AEV_CMP of the event that AEV_SEL names (R65). -/
def State.aevCfg (s : State) (v : Nat) : State :=
  let e := s.get ATB.AEV_SEL_CH
  { s with
    aev.route := Tab.set 0 s.aev.route e (bits v 7 4)
    aev.mode := Tab.set 0 s.aev.mode e (bits v 1 0) }

/-- The effect of a write to a register of these blocks that does more than store its fields. -/
def State.portHook (s : State) (fs : List (Fld × Nat)) (m : Master) (a v : Nat) : Option State :=
  ((UTX.CTRL_LO_SRC.inst a).map fun n => s.utxCtrl n v) <|>
  ((UTX.CMD_REQ.inst a).map fun n => s.utxCmd n m (bits v 2 0)) <|>
  ((UTX.PWR_IDX.inst a).map fun n => s.utxOwned n m fun t => (t.set UTX.PWR_IDX (bits v 6 0) n).refreshPwr n) <|>
  ((UTX.MOD_CFG_DEPTH.inst a).map fun n => s.utxOwned n m fun t => t.modCfg n v) <|>
  ((UTX.PHASE_STEER.inst a).map fun n => s.utxOwned n m fun t => t.steer n (bits v 5 0)) <|>
  ((RFS.FREQ_KHZ.inst a).map fun n => s.rfsOwned n m fun t => t.rfsFreq n v) <|>
  ((RFS.CMD_LOCK.inst a).map fun n => s.rfsCmd n m v) <|>
  ((URX.CAP_CTRL_ARM.inst a).map fun _ => s.capCtrl v) <|>
  ((URX.CTRL_EN.inst a).map fun ch => s.rxCtrl fs ch m v true) <|>
  ((URX.CNV_CTRL_FREEZE.inst a).map fun ch => s.rxCtrl fs ch m v false) <|>
  ((URX.CNV_VEC_VEC_I.inst a).map fun ch => s.rxVecWrite ch v) <|>
  ((URX.OFS_TRIM_OFS_I.inst a).map fun ch => s.rxTrim ch false v) <|>
  ((URX.IQ_TRIM_GAIN.inst a).map fun ch => s.rxTrim ch true v) <|>
  ((SHF.ANT_SEL_ANT0.inst a).map fun _ => s.forN 4 fun n t => t.antWrite n (bits v (4 * n + 3) (4 * n)) m) <|>
  ((SHF.ISO_ADDR.inst a).map fun _ => s.isoWrite v) <|>
  ((SHF.GEO_DATA_X.inst a).map fun _ => s.geoWrite v) <|>
  ((SHF.LEASE_CMD_GO.inst a).map fun sh => s.leaseCmd sh m v) <|>
  ((SHF.LO_CFG_LO_SYN.inst a).map fun sh =>
    if s.on SHF.LEASE_STATE_HELD sh then s.shfErr sh else s.set SHF.LO_CFG_LO_SYN v sh) <|>
  ((SHF.BEAM_SEL.inst a).map fun sh => s.beamWrite fs sh v) <|>
  ((SHF.BW_DATA_DATA.inst a).map fun sh => s.bwWrite sh v) <|>
  ((QUE.FLUSH_FLUSH.inst a).map fun _ => s.forL (setBits 16 v) fun q t => t.queSet q []) <|>
  ((QUE.QCFG_EN.inst a).map fun q => s.queCfg q v) <|>
  ((QUE.PUSH_DATA.inst a).map fun q => if reachesData m then s.quePush q v else s) <|>
  ((ATB.CTRL_EN.inst a).map fun _ => s.atbCtrl fs v) <|>
  ((ATB.CMD_ARM.inst a).map fun _ => s.atbCmd v) <|>
  ((ATB.PLAN_CTRL_SLOTS.inst a).map fun _ => if s.on ATB.PLAN_CTRL_ARMED then s else s.plainWrite fs v 0xFFFFFFFF) <|>
  ((ATB.PLAN_ACT_ACT_CYCLE.inst a).map fun _ => if s.on ATB.PLAN_CTRL_ARMED then s else s.plainWrite fs v 0xFFFFFFFF) <|>
  ((ATB.PLAN_DATA_DATA.inst a).map fun _ => s.planWrite v) <|>
  ((ATB.AEV_CFG_MODE.inst a).map fun _ => s.aevCfg v) <|>
  ((ATB.AEV_CMP_ANGLE.inst a).map fun _ =>
    { s with aev.cmp := Tab.set 0 s.aev.cmp (s.get ATB.AEV_SEL_CH) (bits v 15 0) })

/-- A write that an ownership rule makes the target ignore (R72, R123, R154, R160, R222, R449). -/
def State.portDenied (s : State) (m : Master) (a v : Nat) : Bool :=
  let d := (([UTX.CMD_REQ, UTX.PWR_IDX, UTX.MOD_CFG_DEPTH, UTX.PHASE_STEER].findSome? fun f => f.inst a).map fun n =>
      !s.ownerOk (s.chainSheaf n) m) <|>
    (([RFS.FREQ_KHZ, RFS.CMD_LOCK].findSome? fun f => f.inst a).map fun n => !s.ownerOk (s.synthSheaf n) m) <|>
    (([URX.CTRL_EN, URX.CNV_CTRL_FREEZE].findSome? fun f => f.inst a).map fun ch => s.rxBarred ch m) <|>
    ((URX.CNV_VEC_VEC_I.inst a).map fun ch => !s.on URX.CNV_CTRL_FREEZE ch || (s.rxSheaf ch).isSome) <|>
    ((SHF.ANT_SEL_ANT0.inst a).map fun _ => (List.range 4).any fun n =>
      bits v (4 * n + 3) (4 * n) != s.antOf n && !s.antWriter n m) <|>
    ((SHF.LEASE_CMD_GO.inst a).map fun sh => bitOf v 31 && !s.mayRelease sh m) <|>
    (([QUE.PUSH_DATA, QUE.POP_DATA, QUE.PEEK_DATA].findSome? fun f => f.inst a).map fun _ => !reachesData m)
  d.getD false

/-! ### Reads -/

/-- LEVEL of a queue (R454). -/
def State.queLevel (s : State) (q : Nat) : Nat :=
  let l := (s.queWords q).length
  2147483648 * b2n (s.get QUE.WM_WM q < l) + 1073741824 * b2n (s.on QUE.QCFG_EN q && l == s.queDepth q) +
    536870912 * b2n (l == 0) + 65536 * s.get QUE.LEVEL_RSV q + l

/-- A mask over `k` units. -/
def maskOf (k : Nat) (p : Nat → Bool) : Nat := (List.range k).foldl (fun a i => a + b2n (p i) * 2 ^ i) 0

/-- Whole periods since HOLDOVER was entered (R45): measured ones, counted in REFCLK cycles, Q24.8; in SYNTH mode those of P. -/
def State.holdCount (s : State) : Nat :=
  if s.atbSt == abHOLDOVER then
    min 65535 (if s.on ATB.CTRL_SRC then (s.now - s.atb.holdAt) * 25 / (2 * s.atbP3)
      else (s.now - s.atb.holdAt) * 256 / (6 * max 1 s.atbPeriod))
  else 0

/-- The registers of these blocks whose word is not a word of stored fields. -/
def State.portView (s : State) (m : Master) (a : Nat) : Option Nat :=
  ((URX.HOLD_SUM_HELD.inst a).map fun _ =>
    65536 * maskOf 16 (fun ch => s.on URX.STATE_EXCL ch) + maskOf 16 (fun ch => s.on URX.STATE_NULL_READY ch)) <|>
  ((URX.OVL_SUM_OVL.inst a).map fun _ =>
    65536 * maskOf 16 (fun ch => s.on URX.STATE_COAST ch) + s.get URX.OVL_SUM_OVL) <|>
  ((URX.CAP_STAMP_HI_CYCLE.inst a).map fun _ => s.shadowOf URX.CAP_STAMP_LO_ANGLE.addr m) <|>
  ((SHF.ISO_ADDR.inst a).map fun _ =>
    256 * s.get SHF.ISO_ADDR + Tab.get 0 s.radio.shf.iso (s.get SHF.ISO_ADDR)) <|>
  ((SHF.GEO_DATA_X.inst a).map fun _ =>
    65536 * (s.geoOf (s.get SHF.GEO_ADDR_CHAIN)).2 + (s.geoOf (s.get SHF.GEO_ADDR_CHAIN)).1) <|>
  ((SHF.BW_DATA_DATA.inst a).map fun sh => s.beamWord sh (s.get SHF.BW_ADDR_BEAM sh) (s.get SHF.BW_ADDR_ENTRY sh)) <|>
  ((UTX.TEMP_TEMP.inst a).map fun _ => Config.freeValue s.freeCount % 65536) <|>
  ((QUE.SUM_NONEMPTY.inst a).map fun _ =>
    65536 * maskOf 16 (fun q => !(s.queWords q).isEmpty) +
      maskOf 16 (fun q => decide (s.get QUE.WM_WM q < (s.queWords q).length))) <|>
  ((QUE.LEVEL_LEVEL.inst a).map fun q => s.queLevel q) <|>
  ((QUE.PEEK_DATA.inst a).map fun q => if reachesData m then (s.queWords q).headD 0 else 0) <|>
  ((QUE.POP_DATA.inst a).map fun q => if reachesData m then (s.queWords q).headD 0 else 0) <|>
  ((QUE.PUSH_DATA.inst a).map fun _ => 0) <|>
  ((ATB.POS_LO_ANGLE.inst a).map fun _ => s.atb.angle) <|>
  ((ATB.POS_HI_CYCLE.inst a).map fun _ => s.shadowOf ATB.POS_LO_ANGLE.addr m) <|>
  ((ATB.CAP_HI_CYCLE.inst a).map fun ch => s.shadowOf (ATB.CAP_LO_ANGLE.at ch) m) <|>
  ((ATB.HOLDOVER_COUNT.inst a).map fun _ => 65536 * s.holdCount + s.get ATB.HOLDOVER_LIMIT) <|>
  ((ATB.PLAN_DATA_DATA.inst a).map fun _ => s.planRead) <|>
  ((ATB.AEV_CFG_MODE.inst a).map fun _ =>
    16 * Tab.get 0 s.aev.route (s.get ATB.AEV_SEL_CH) + Tab.get 0 s.aev.mode (s.get ATB.AEV_SEL_CH)) <|>
  ((ATB.AEV_CMP_ANGLE.inst a).map fun _ => Tab.get 0 s.aev.cmp (s.get ATB.AEV_SEL_CH))

/-- What a read of these blocks does beside clearing read-clear bits: shadows latched, a word popped, an address advanced. -/
def State.portReadFx (s : State) (m : Master) (a : Nat) : State :=
  let t := ((ATB.POS_LO_ANGLE.inst a).map fun _ => s.latch a m s.atb.cycle) <|>
    ((ATB.CAP_LO_ANGLE.inst a).map fun ch =>
      { s.latch a m (Tab.get 0 s.aev.capCycle ch) with aev.unread := putBit s.aev.unread ch false }) <|>
    ((URX.CAP_STAMP_LO_ANGLE.inst a).map fun _ => s.latch a m (s.get URX.CAP_STAMP_HI_CYCLE)) <|>
    ((QUE.POP_DATA.inst a).map fun q => if reachesData m then (s.quePop q).2 else s) <|>
    ((SHF.BW_DATA_DATA.inst a).map fun sh => s.bwNext sh) <|> ((UTX.TEMP_TEMP.inst a).map fun _ => s.fresh.2) <|>
    ((ATB.PLAN_DATA_DATA.inst a).map fun _ => s.planNext)
  t.getD s

/-- The window bases of the private port's blocks (R222). -/
def portBase (blk : Nat) : Nat :=
  [0x40060000, 0x40070000, 0x40080000, 0x40090000, 0x400A0000, 0x400C0000, 0x40030000].getD blk 0

/-- A read through the private port (R222): the word and the state after its side effects. -/
def State.portRead (s : State) (n blk off : Nat) : Nat × State :=
  match blockAt (portBase blk) with
  | none => (0, s)
  | some b =>
    let a := b.decode (portBase blk + off)
    let fs := b.at a
    ((s.portView (.seq n) a).getD (s.wordOf fs), (s.portReadFx (.seq n) a).rcClear fs 0xFFFFFFFF)

/-- A write through the private port (R222); POP_DATA's read-clear type is no target. -/
def State.portWrite (s : State) (n blk off v : Nat) : State :=
  match blockAt (portBase blk) with
  | none => s
  | some b =>
    let a := b.decode (portBase blk + off)
    let fs := b.at a
    (s.portHook fs (.seq n) a v).getD (s.plainWrite fs v 0xFFFFFFFF)

end Sys2Proof.Machine
end

