-- ==== Sys2Proof/Machine/Lsi.lean ====
section
/-! DEFINITION. The LSI instructions of the link sequencers (R211 to R227). Each command is one instruction executed by
sequencer `n`, decoded: register numbers, the immediate as its bits, the target as a word address. -/

namespace Sys2Proof.Machine

open Sys2Proof

/-! ### Operands, results and flow -/

/-- General register `k` of sequencer `n` (R211): G0 reads 0. -/
def State.greg (s : State) (n k : Nat) : Nat := if k % 16 == 0 then 0 else Tab.get 0 (s.seqAt n).g (k % 16)

/-- A general register written: G0 discards (R211). -/
def State.setG (s : State) (n k v : Nat) : State :=
  if k % 16 == 0 then s
  else s.setSeq n { s.seqAt n with g := Tab.set 0 (s.seqAt n).g (k % 16) (v % 4294967296) }

/-- An 18-bit immediate sign-extended to 32 bits. -/
def sext18 (imm : Nat) : Nat := unsignedOf 32 (sint 18 imm)

/-- The next instruction's word address (R211). -/
def State.pcNext (s : State) (n : Nat) : State := s.set LSC.STATE_PCW (s.get LSC.STATE_PCW n + 1) n

/-- An instruction acts in RUN alone (R209); a parity error on its fetch faults (R212, R231). -/
def State.seqDo (s : State) (n : Nat) (g : State → State) : Out :=
  .next (if s.seqSt n == seqRUN then (if s.parBad n (4 * s.get LSC.STATE_PCW n) then s.seqFault n 7 else g s) else s)

/-- An instruction that goes on to the next one. -/
def State.seqOp (s : State) (n : Nat) (g : State → State) : Out := s.seqDo n fun t => g (t.pcNext n)

/-- Z and N of a 32-bit result (R211). -/
def State.flagZN (s : State) (n v : Nat) : State := (s.setFlag n flZ (v == 0)).setFlag n flN (bitOf v 31)

/-- A result with Z and N. -/
def State.aluZN (s : State) (n d v : Nat) : State := (s.flagZN n (v % 4294967296)).setG n d v

/-- A result with Z, N and C. -/
def State.aluZNC (s : State) (n d v : Nat) (c : Bool) : State := (s.setFlag n flC c).aluZN n d v

/-- `x - y` modulo 2^32. -/
def sub32 (x y : Nat) : Nat := (x + 4294967296 - y % 4294967296) % 4294967296

/-- An addition with carry out (R211). -/
def State.aluAdd (s : State) (n d x y : Nat) : State := s.aluZNC n d ((x + y) % 4294967296) (4294967296 ≤ x + y)

/-- A subtraction; C means no borrow (R211). -/
def State.aluSub (s : State) (n d x y : Nat) : State := s.aluZNC n d (sub32 x y) (y ≤ x)

/-- A left shift; C is the last bit shifted out, unchanged for a shift of 0 (R215). -/
def State.aluShl (s : State) (n d x k : Nat) : State :=
  if k == 0 then s.aluZN n d x else s.aluZNC n d (x * 2 ^ k % 4294967296) (bitOf x (32 - k))

/-- A logical right shift, C as for the left one (R215). -/
def State.aluShr (s : State) (n d x k : Nat) : State :=
  if k == 0 then s.aluZN n d x else s.aluZNC n d (x / 2 ^ k) (bitOf x (k - 1))

/-- Leading zeros of a 32-bit word. -/
def clz32 (v : Nat) : Nat := ((List.range 32).find? fun i => bitOf v (31 - i)).getD 32

/-- Whether a branch condition holds (R216). -/
def State.condHolds (s : State) (n cond : Nat) : Bool :=
  match cond with
  | 0 => true
  | 1 => s.flag n flZ
  | 2 => !s.flag n flZ
  | 3 => s.flag n flC
  | 4 => !s.flag n flC
  | 5 => s.flag n flN
  | 6 => !s.flag n flN
  | 7 => s.flag n flT
  | 8 => !s.flag n flT
  | 9 => s.flag n flF
  | 10 => !s.flag n flF
  | 11 => s.flag n flC && !s.flag n flZ
  | _ => !s.flag n flC || s.flag n flZ

/-- The call stack (R211), newest first, with STATE.DEPTH. -/
def State.setStack (s : State) (n : Nat) (l : List Nat) : State :=
  (s.setSeq n { s.seqAt n with stack := l }).set LSC.STATE_DEPTH l.length n

/-- A memory access of `w` bytes at `ea` (R212): the fault it raises, 0 for none. -/
def memFault (ea w : Nat) : Nat := if 0x7FFF < ea then 3 else if ea % w != 0 then 2 else 0

/-- The effective address of a load or store (R212, R215). -/
def State.seqEa (s : State) (n a imm : Nat) : Nat := (s.greg n a + sext18 imm) % 4294967296

/-- A load (R212, R215). -/
def State.seqLoad (s : State) (n d a imm w : Nat) : Out :=
  s.seqDo n fun t =>
    let ea := t.seqEa n a imm
    if memFault ea w != 0 then t.seqFault n (memFault ea w)
    else if t.parBad n ea then t.seqFault n 7
    else (t.pcNext n).setG n d (ofLe (t.rdBytes (seqBase n + ea) w))

/-- Bytes that an instruction stores in its sequencer's memory: fresh parity, and a frame on air takes what it has not yet sent from the
memory as it now stands (R212, R223). -/
def State.seqPut (s : State) (n ea : Nat) (b : List Nat) : State :=
  let s1 := (s.wrBytes (seqBase n + ea) b).freshPar (seqBase n + ea) b.length
  match s1.seqSheaf n with
  | none => s1
  | some sh =>
    match (s1.engAt sh).sending with
    | some f => if f.seq == n then s1.setEng sh { s1.engAt sh with sending := some (s1.frameRead f (s1.bitsSent f)) } else s1
    | none => s1

/-- A store of the low bytes of GD (R212, R215). -/
def State.seqStore (s : State) (n d a imm w : Nat) : Out :=
  s.seqDo n fun t =>
    let ea := t.seqEa n a imm
    if memFault ea w != 0 then t.seqFault n (memFault ea w)
    else (t.pcNext n).seqPut n ea (toLe w (t.greg n d))

/-! ### Arithmetic and logic (R215) -/

/-- LSI_ILLEGAL (R217): a word that is no instruction faults. A word that is one is not this event, and nothing happens. -/
def execLsiIllegal (n w : Nat) (s : State) : Out :=
  if (lsiDecode n w).isSome then .next s else s.seqDo n fun t => t.seqFault n 1

/-- LSI_NOP (R215). -/
def execLsiNop (n : Nat) (s : State) : Out := s.seqOp n fun t => t

/-- LSI_ADD (R215). -/
def execLsiAdd (n d a b : Nat) (s : State) : Out := s.seqOp n fun t => t.aluAdd n d (t.greg n a) (t.greg n b)

/-- LSI_SUB (R215). -/
def execLsiSub (n d a b : Nat) (s : State) : Out := s.seqOp n fun t => t.aluSub n d (t.greg n a) (t.greg n b)

/-- LSI_AND (R215). -/
def execLsiAnd (n d a b : Nat) (s : State) : Out :=
  s.seqOp n fun t => t.aluZN n d (Nat.land (t.greg n a) (t.greg n b))

/-- LSI_OR (R215). -/
def execLsiOr (n d a b : Nat) (s : State) : Out := s.seqOp n fun t => t.aluZN n d (Nat.lor (t.greg n a) (t.greg n b))

/-- LSI_XOR (R215). -/
def execLsiXor (n d a b : Nat) (s : State) : Out :=
  s.seqOp n fun t => t.aluZN n d (Nat.xor (t.greg n a) (t.greg n b))

/-- LSI_SHL (R215). -/
def execLsiShl (n d a b : Nat) (s : State) : Out :=
  s.seqOp n fun t => t.aluShl n d (t.greg n a) (t.greg n b % 32)

/-- LSI_SHR (R215). -/
def execLsiShr (n d a b : Nat) (s : State) : Out :=
  s.seqOp n fun t => t.aluShr n d (t.greg n a) (t.greg n b % 32)

/-- LSI_MINU (R215). -/
def execLsiMinu (n d a b : Nat) (s : State) : Out := s.seqOp n fun t => t.aluZN n d (min (t.greg n a) (t.greg n b))

/-- LSI_MAXU (R215). -/
def execLsiMaxu (n d a b : Nat) (s : State) : Out := s.seqOp n fun t => t.aluZN n d (max (t.greg n a) (t.greg n b))

/-- LSI_MUL (R215). -/
def execLsiMul (n d a b : Nat) (s : State) : Out :=
  s.seqOp n fun t => t.aluZN n d (t.greg n a * t.greg n b % 4294967296)

/-- LSI_EXT (R215): `len` bits from bit `pos`. -/
def execLsiExt (n d a pos len : Nat) (s : State) : Out :=
  s.seqOp n fun t => t.aluZN n d (t.greg n a / 2 ^ (pos % 32) % 2 ^ len)

/-- LSI_CLZ (R215): Z alone changes. -/
def execLsiClz (n d a : Nat) (s : State) : Out :=
  s.seqOp n fun t => (t.setFlag n flZ (clz32 (t.greg n a) == 0)).setG n d (clz32 (t.greg n a))

/-- LSI_CMP (R215). -/
def execLsiCmp (n a b : Nat) (s : State) : Out := s.seqOp n fun t => t.aluSub n 0 (t.greg n a) (t.greg n b)

/-- LSI_ADDI (R215). -/
def execLsiAddi (n d a imm : Nat) (s : State) : Out := s.seqOp n fun t => t.aluAdd n d (t.greg n a) (sext18 imm)

/-- LSI_ANDI (R215). -/
def execLsiAndi (n d a imm : Nat) (s : State) : Out :=
  s.seqOp n fun t => t.aluZN n d (Nat.land (t.greg n a) (imm % 262144))

/-- LSI_ORI (R215). -/
def execLsiOri (n d a imm : Nat) (s : State) : Out :=
  s.seqOp n fun t => t.aluZN n d (Nat.lor (t.greg n a) (imm % 262144))

/-- LSI_XORI (R215). -/
def execLsiXori (n d a imm : Nat) (s : State) : Out :=
  s.seqOp n fun t => t.aluZN n d (Nat.xor (t.greg n a) (imm % 262144))

/-- LSI_SHLI (R215). -/
def execLsiShli (n d a imm : Nat) (s : State) : Out := s.seqOp n fun t => t.aluShl n d (t.greg n a) (imm % 32)

/-- LSI_SHRI (R215). -/
def execLsiShri (n d a imm : Nat) (s : State) : Out := s.seqOp n fun t => t.aluShr n d (t.greg n a) (imm % 32)

/-- LSI_LUI (R215). -/
def execLsiLui (n d imm : Nat) (s : State) : Out := s.seqOp n fun t => t.setG n d (imm % 262144 * 16384)

/-- LSI_CMPI (R215). -/
def execLsiCmpi (n a imm : Nat) (s : State) : Out := s.seqOp n fun t => t.aluSub n 0 (t.greg n a) (sext18 imm)

/-! ### Memory (R212, R215) -/

/-- LSI_LDW (R215). -/
def execLsiLdw (n d a imm : Nat) (s : State) : Out := s.seqLoad n d a imm 4

/-- LSI_LDH (R215). -/
def execLsiLdh (n d a imm : Nat) (s : State) : Out := s.seqLoad n d a imm 2

/-- LSI_LDB (R215). -/
def execLsiLdb (n d a imm : Nat) (s : State) : Out := s.seqLoad n d a imm 1

/-- LSI_STW (R215). -/
def execLsiStw (n d a imm : Nat) (s : State) : Out := s.seqStore n d a imm 4

/-- LSI_STH (R215). -/
def execLsiSth (n d a imm : Nat) (s : State) : Out := s.seqStore n d a imm 2

/-- LSI_STB (R215). -/
def execLsiStb (n d a imm : Nat) (s : State) : Out := s.seqStore n d a imm 1

/-! ### Flow (R215 to R217) -/

/-- LSI_BR (R216, R217). -/
def execLsiBr (n cond tgt : Nat) (s : State) : Out :=
  s.seqDo n fun t =>
    if 12 < cond then t.seqFault n 1
    else if t.condHolds n cond then t.set LSC.STATE_PCW tgt n else t.pcNext n

/-- LSI_DBNZ (R215): the test is on GD as it then reads. -/
def execLsiDbnz (n d tgt : Nat) (s : State) : Out :=
  s.seqDo n fun t =>
    let t1 := t.setG n d (sub32 (t.greg n d) 1)
    if t1.greg n d != 0 then t1.set LSC.STATE_PCW tgt n else t1.pcNext n

/-- LSI_CALL (R215, R217). -/
def execLsiCall (n tgt : Nat) (s : State) : Out :=
  s.seqDo n fun t =>
    if 8 ≤ (t.seqAt n).stack.length then t.seqFault n 4
    else (t.setStack n ((t.get LSC.STATE_PCW n + 1) % 8192 :: (t.seqAt n).stack)).set LSC.STATE_PCW tgt n

/-- LSI_RET (R215, R217). -/
def execLsiRet (n : Nat) (s : State) : Out :=
  s.seqDo n fun t =>
    match (t.seqAt n).stack with
    | [] => t.seqFault n 4
    | r :: l => (t.setStack n l).set LSC.STATE_PCW r n

/-- LSI_JR (R215). -/
def execLsiJr (n a : Nat) (s : State) : Out := s.seqDo n fun t => t.set LSC.STATE_PCW (t.greg n a / 4) n

/-- LSI_HALT (R215). -/
def execLsiHalt (n : Nat) (s : State) : Out :=
  s.seqOp n fun t => ((t.set LSC.STATE_STATE seqSTOPPED n).set LSC.STATUS_HALTED 1 n).leaseEndAny n .release

/-- Core A's log of an exit report: a program that served a sheaf and did not end at its tail (R240, R533; assumption 37). -/
def State.exitReport (s : State) (n : Nat) : State :=
  let code := s.get LSC.MBOX_OUT_DATA n % 256
  match s.seqSheaf n with
  | some sh => if 2 ≤ code && code ≤ 5 then s.logA 0x42 sh code else s
  | none => s

/-- LSI_DONE (R215). -/
def execLsiDone (n : Nat) (s : State) : Out :=
  s.seqOp n fun t => (t.exitReport n |>.set LSC.STATE_STATE seqIDLE n).leaseEndAny n .release

/-- LSI_EVT (R215). -/
def execLsiEvt (n e : Nat) (s : State) : Out := s.seqOp n fun t => t.setBit LSC.STATUS_EVT (e % 8) true n

/-! ### Special registers and position (R60, R213) -/

/-- FLAGS as a special register: F, T, C, N, Z from bit 4 down. -/
def State.flagsWord (s : State) (n : Nat) : Nat :=
  16 * b2n (s.flag n flF) + 8 * b2n (s.flag n flT) + 4 * b2n (s.flag n flC) + 2 * b2n (s.flag n flN) + b2n (s.flag n flZ)

/-- A special register; none where the number is unlisted (R213). -/
def State.sreg (s : State) (n k : Nat) : Option Nat :=
  let q := s.seqAt n
  match k with
  | 0x00 => some q.ctx0
  | 0x01 => some q.ctx1
  | 0x02 => some q.ctx2
  | 0x03 => some q.ctx3
  | 0x04 => some (s.get LSC.EVP_EVP n)
  | 0x05 => some q.why
  | 0x06 => some (s.flagsWord n)
  | 0x07 => some (s.get LSC.DIAG_ERR n)
  | 0x08 => some q.rxstat
  | 0x09 => some q.rxrn
  | 0x0A => some q.rxb
  | 0x0B => some (65536 * q.nfmt + q.fmtBase)
  | 0x0C => some q.recFlags
  | 0x0D => some (2 * b2n (!q.recCont.isEmpty) + b2n (!q.recBank.isEmpty))
  | 0x0E => some (s.get LSC.MBOX_IN_DATA n)
  | 0x0F => some (s.get LSC.MBOX_OUT_DATA n)
  | 0x10 => some q.cfcmd
  | 0x11 => some (s.dsp % 4294967296)
  | 0x12 => some q.dects
  | 0x13 => some n
  | _ => none

/-- A write of a special register; none where the register is not RW or the value is refused (R213). -/
def State.setSreg (s : State) (n k v : Nat) : Option State :=
  match k with
  | 0x06 => some (((((s.setFlag n flF (bitOf v 4)).setFlag n flT (bitOf v 3)).setFlag n flC (bitOf v 2)).setFlag n flN
      (bitOf v 1)).setFlag n flZ (bitOf v 0))
  | 0x0A => if v % 4 == 0 && v ≤ 0x7DFC then some (s.setSeq n { s.seqAt n with rxb := v }) else none
  | 0x0C => some (s.setSeq n { s.seqAt n with recFlags := v % 65536 })
  | 0x0F => some (s.set LSC.MBOX_OUT_DATA v n)
  | _ => none

/-- LSI_RDS (R213). -/
def execLsiRds (n d sreg : Nat) (s : State) : Out :=
  s.seqDo n fun t =>
    match t.sreg n sreg with
    | some v => (t.pcNext n).setG n d v
    | none => t.seqFault n 5

/-- LSI_WRS (R213). -/
def execLsiWrs (n d sreg : Nat) (s : State) : Out :=
  s.seqDo n fun t =>
    match t.setSreg n sreg (t.greg n d) with
    | some t1 => t1.pcNext n
    | none => t.seqFault n 5

/-- LSI_RDPOS (R60, R217). -/
def execLsiRdpos (n d : Nat) (s : State) : Out :=
  s.seqDo n fun t =>
    if d % 16 == 15 then t.seqFault n 1
    else ((t.pcNext n).setG n d t.atb.angle).setG n (d + 1) t.atb.cycle

/-! ### Private port (R222) -/

/-- The effective offset of a port access. -/
def State.portEa (s : State) (n a off : Nat) : Nat := (off + s.greg n a) % 4294967296

/-- The fault of a port access, 0 for none. -/
def portFault (blk ea : Nat) : Nat := if blk == 7 then 6 else if 0x10000 ≤ ea then 3 else if ea % 4 != 0 then 2 else 0

/-- LSI_PLD (R222). -/
def execLsiPld (n d a blk off : Nat) (s : State) : Out :=
  s.seqDo n fun t =>
    let ea := t.portEa n a off
    if portFault blk ea != 0 then t.seqFault n (portFault blk ea)
    else
      let r := t.portRead n blk ea
      ((r.2.pcNext n).setG n d r.1).seqResult n 0

/-- A write through the port, and whether an ownership rule made the target ignore it. -/
def State.portPut (s : State) (n blk ea v : Nat) : State × Bool :=
  match blockAt (portBase blk) with
  | none => (s, false)
  | some b => (s.portWrite n blk ea v, s.portDenied (.seq n) (b.decode (portBase blk + ea)) v)

/-- LSI_PST (R222). -/
def execLsiPst (n d a blk off : Nat) (s : State) : Out :=
  s.seqDo n fun t =>
    let ea := t.portEa n a off
    if portFault blk ea != 0 then t.seqFault n (portFault blk ea)
    else
      let r := (t.pcNext n).portPut n blk ea (t.greg n d)
      if r.2 then (r.1.set LSC.STATUS_PORT_DENY 1 n).seqResult n 24 else r.1.seqResult n 0

/-! ### Radio (R223, R224, R230) -/

/-- Why an instruction for the leased engine fails at once: no lease, or a cut still running; 0 for neither. -/
def State.radioErr (s : State) (n : Nat) : Nat :=
  if s.get LSC.STATE_LTYPE n == 0 then 16 else if (s.opsAt n).cutting then 25 else 0

/-- RQS on the chains of a sheaf: each is asked; a chain outside TXMASK fails with NOT_OWNER, a reserved code with BAD_STATE,
and the answer comes at RDY (R218, R224). -/
def State.rqsUhf (s : State) (n sh chmask req : Nat) : State :=
  let tx := s.get SHF.COMP_TXMASK sh
  let mask := if chmask == 0 then tx else chmask
  let s1 := s.setOps n { s.opsAt n with rqs := some { mask := mask }, rqsErr := 0 }
  if mask == 0 then (s1.setOps n { s1.opsAt n with rqs := none }).seqEvent n evRDY
  else s1.forL (setBits 4 mask) fun c t =>
    if !bitOf tx c then t.rqsAnswer n c errNOT_OWNER
    else if req == 0 || 5 < req then (t.utxRefuse c errBAD_STATE).rqsAnswer n c errBAD_STATE
    else (t.setUtx c { t.utxAt c with rqs := true }).utxRequest c (if req == 5 then txLISTEN else req - 1)

/-- RQS by kind of lease: an ERR code, or the state after the request is made (R224, R279). -/
def State.seqRqs (s : State) (n chmask req : Nat) : Nat × State :=
  if s.radioErr n != 0 then (s.radioErr n, s)
  else match s.seqSheaf n with
    | some sh =>
      if s.get SHF.COMP_ROLE sh == roleLISTEN && req == 4 then (17, s) else (0, s.rqsUhf n sh chmask req)
    | none =>
      if s.get LSC.STATE_LTYPE n == 5 then
        (0, ((s.setOps n { s.opsAt n with rqs := some { mask := 1 }, rqsErr := 0 }).hfRequest
          (if 1 ≤ req && req ≤ 4 then req - 1 else 7)))
      else (17, s)

/-- LSI_RQS (R224). -/
def execLsiRqs (n chmask req : Nat) (s : State) : Out :=
  s.seqOp n fun t => (t.seqRqs n chmask req).2.seqResult n (t.seqRqs n chmask req).1

/-- LOCK of the leased sheaf's synthesizer: FREQ written, then LOCK or FULL (R215, R224). -/
def State.seqLock (s : State) (n v : Nat) (full : Bool) : Nat × State :=
  if s.radioErr n != 0 then (s.radioErr n, s)
  else match s.seqSheaf n with
    | none => (17, s)
    | some sh =>
      let lo := s.get SHF.COMP_LO_USED sh
      (0, ((s.setOps n { s.opsAt n with lockPending := true, lockErr := 0 }).rfsFreq lo v).rfsLock lo full)

/-- LSI_LOCK (R224). -/
def execLsiLock (n a full : Nat) (s : State) : Out :=
  s.seqOp n fun t => (t.seqLock n (t.greg n a) (full == 1)).2.seqResult n (t.seqLock n (t.greg n a) (full == 1)).1

/-- TXF by kind of lease (R223, R285, R331). -/
def State.seqTxf (s : State) (n fidx : Nat) : (Nat × State) ⊕ State :=
  if s.radioErr n != 0 then .inl (s.radioErr n, s)
  else match s.seqSheaf n with
    | some sh => s.txfUhf n sh fidx
    | none => if s.get LSC.STATE_LTYPE n == 5 then s.txfHf n fidx else s.txfTag n fidx

/-- LSI_TXF (R223, R224). -/
def execLsiTxf (n fidx : Nat) (s : State) : Out :=
  s.seqOp n fun t =>
    match t.seqTxf n (fidx % 64) with
    | .inl (err, t1) => t1.seqResult n err
    | .inr t1 => t1.seqResult n 0

/-! ### Queues and records (R226, R227) -/

/-- A block pushed, all or none (R227): F with QFULL where room is short. -/
def State.seqPush (s : State) (n q : Nat) (words : List Nat) : Nat × State :=
  match s.reserve n (q % 16) words with
  | some t => (0, t.seqResult n 0)
  | none => (22, (s.set LSC.STATUS_QFULL 1 n).seqResult n 22)

/-- LSI_PUSH (R227). -/
def execLsiPush (n a q : Nat) (s : State) : Out := s.seqOp n fun t => (t.seqPush n q [t.greg n a]).2

/-- The fault of a block access of `len` bytes at `ea` (R212). -/
def blockFault (ea len : Nat) : Nat := if 0x8000 < ea + len then 3 else if ea % 4 != 0 then 2 else 0

/-- LSI_PUSHB (R227): `cnt` words from memory at GA. -/
def execLsiPushb (n a q cnt : Nat) (s : State) : Out :=
  s.seqDo n fun t =>
    let ea := t.greg n a
    if blockFault ea (4 * cnt) != 0 then t.seqFault n (blockFault ea (4 * cnt))
    else ((t.pcNext n).seqPush n q ((List.range cnt).map fun i => t.rd32 (seqBase n + ea + 4 * i))).2

/-- LSI_POP (R215, R449): 0 and F where the queue is empty. -/
def execLsiPop (n d q : Nat) (s : State) : Out :=
  s.seqOp n fun t =>
    let r := t.quePop (q % 16)
    (r.2.setG n d r.1).seqResult n (if (t.queWords (q % 16)).isEmpty then 23 else 0)

/-- The record bank with its CRC-32C bytes computed, the continuation after it (R226, R251). -/
def State.recBytes (s : State) (n : Nat) : List Nat :=
  let sealed := fun (b : List Nat) => if b == [] then [] else b.take 60 ++ toLe 4 (crc32c (b.take 60))
  sealed (s.seqAt n).recBank ++ sealed (s.seqAt n).recCont

/-- LSI_PUSHREC (R226, R227): VALID is cleared where the push succeeds. -/
def execLsiPushrec (n q : Nat) (s : State) : Out :=
  s.seqOp n fun t =>
    let b := t.recBytes n
    if b == [] then t.seqResult n 21
    else
      let r := t.seqPush n q ((List.range (b.length / 4)).map fun i => le32 b (4 * i))
      if r.1 == 0 then r.2.setSeq n { r.2.seqAt n with recBank := [], recCont := [] } else r.2

/-- LSI_STREC (R226): the bank stored at GA, VALID kept. -/
def execLsiStrec (n a : Nat) (s : State) : Out :=
  s.seqDo n fun t =>
    let b := t.recBytes n
    let ea := t.greg n a
    if b == [] then (t.pcNext n).seqResult n 21
    else if blockFault ea b.length != 0 then t.seqFault n (blockFault ea b.length)
    else ((t.pcNext n).seqPut n ea b).seqResult n 0

/-! ### Waits (R219, R220) -/

/-- LSI_WAIT (R219). -/
def execLsiWait (n mask unit count : Nat) (s : State) : Out :=
  s.seqOp n fun t => t.waitIssue n { mask := mask % 1024, unit := unit % 4, bound := count % 16384 }

/-- LSI_WAITR (R219). -/
def execLsiWaitr (n mask b : Nat) (s : State) : Out :=
  s.seqOp n fun t => t.waitIssue n { mask := mask % 1024, unit := 0, bound := t.greg n b }

/-- LSI_CLREV (R219). -/
def execLsiClrev (n mask : Nat) (s : State) : Out :=
  s.seqOp n fun t =>
    t.set LSC.EVP_EVP (t.get LSC.EVP_EVP n - Nat.land (t.get LSC.EVP_EVP n) (mask % 1024)) n

end Sys2Proof.Machine
end

