-- ==== Sys2Proof/Machine/RgeOps.lean ====
section
/-! DEFINITION. The enforcer's withdrawals: the kill and its release, violations, and GUARD (R139, R142, R146, R148). -/

namespace Sys2Proof.Machine

open Sys2Proof

/-- Whether chain `n` carries under a grant. -/
def State.granted (s : State) (n : Nat) : Bool := s.bit RGE.STATE_GRANT n

/-- Chain `n` is still ramping up under its grant. -/
def State.rampingUp (s : State) (n : Nat) : Bool := (s.utxAt n).ramp.any fun r => r.up

/-- A pending request or pre-grant of chain `n` is denied KILLED, one whose ramp-up runs is logged so; a grant is withdrawn on the
fast section (R146, R151). -/
def State.killChain (s : State) (n : Nat) : State :=
  let s1 := if (s.utxAt n).grantAsked then (s.giveUp n).rgeDeny n 11 else s
  if s1.granted n then
    let s2 := if s1.rampingUp n then s1.rgeRefuse n 11 else s1
    { s2.withdraw n true with rge.cutMask := putBit s2.rge.cutMask n true }
  else s1

/-- The kill is in force: grants, ramps and the HF driver (R146). -/
def State.killNow (s : State) : State :=
  let s1 : State := { s.set RGE.STATE_KILL_ACTIVE 1 with rge.cutMask := 0, rge.cutAt := s.now }
  (s1.forN 4 fun n t => t.killChain n).hfKill

/-- An input of the kill is asserted: its status bit, an entry of the log, and one more assertion counted (R144, R146). -/
def State.killBy (s : State) (status : Fld) (code : Nat) : State :=
  (((s.set status 1).rgeLog code 0 none).bump RGE.CNT_KILL_COUNT RGE.STATUS_SAT).killNow

/-- KILL.KILL written with 1 (R146). -/
def State.killReg (s : State) : State :=
  if s.on RGE.KILL_KILL then s else (s.set RGE.KILL_KILL 1).killBy RGE.STATUS_KILL_REG 26

/-- The kill ends where neither input asserts it: all four chains come under the hold (R148). -/
def State.killRelease (s : State) : State :=
  if s.on RGE.STATE_KILL_ACTIVE && !s.on RGE.KILL_KILL && !s.on RGE.KILL_PIN then
    (s.set RGE.STATE_KILL_ACTIVE 0).set RGE.STATE_HOLD 15
  else s

/-- KILL.KILL written with 0 (R148). -/
def State.killRegClear (s : State) : State := (s.set RGE.KILL_KILL 0).killRelease

/-- GUARD and STEPS = ceil(GUARD × 4), GUARD in Q8.8 dB (R139). -/
def State.setGuard (s : State) (g : Nat) : State :=
  ((s.set RGE.GUARD_GUARD g).set RGE.GUARD_STEPS ((4 * g + 255) / 256)).voteClean 2

/-- AGE raises GUARD: applied at once, chains in carrier stepping down under R88 (R139). -/
def State.guardUp (s : State) (g : Nat) : State :=
  if g ≤ s.get RGE.GUARD_GUARD then s
  else ((s.setGuard g).set RGE.STATUS_GUARD_UP 1).forN 4 fun n t => t.refreshPwr n

/-- The chain held off until its next slot (R142). -/
def State.holdOff (s : State) (n : Nat) : State := s.setBit RGE.STATE_HOLD n true

/-- A violation: logged, counted, the chain held, its grant withdrawn where a kill of the same cycle has not done so (R142, R151). -/
def State.violate (s : State) (n code : Nat) : State :=
  let s0 := (s.rgeLog code n (some (Tab.get 0 s.rge.granted n))).rgeLast n code
  let s1 := if s0.granted n then s0.withdraw n true else s0
  ((s1.bump RGE.CNT_VIOL_COUNT RGE.STATUS_SAT).set RGE.STATUS_VIOL 1).holdOff n

/-- The forward power that a violation exceeds: CEIL_DBM less GUARD, with FWD_TOL, for the granted channel (R140). -/
def State.fwdLimit (s : State) (n : Nat) : Int :=
  s.ceilDbm (Tab.get 0 s.rge.granted n) - (s.get RGE.GUARD_GUARD : Nat) + (le16 s.rge.profile 42 : Nat)

/-- Whether a check of R140 is breached on chain `n`: code 16 against the mean `fwd`, signed Q8.8 dBm, the others against what the
enforcer has counted and the synthesizer word. -/
def State.breached (s : State) (n code fwd : Nat) : Bool :=
  let c := Tab.get 0 s.rge.granted n
  match code with
  | 16 => s.on UTX.PA_PA_EN n && !s.on UTX.STATE_RAMP n && decide (s.fwdLimit n < sint 16 fwd)
  | 17 => le16 s.rge.profile 32 != 0 && decide (le16 s.rge.profile 32 * 240000 < s.now - Tab.get 0 s.rge.onTime n)
  | 18 => s.profFlag 2 && decide (le16 s.rge.profile 28 * 100 ≤ s.occUnits c)
  | 19 => s.profFlag 3 && decide (le16 s.rge.profile 34 ≤ s.dutyPermil n)
  | 20 => s.khz (s.loOf n) != s.chanKhz c
  | _ => false

/-- A chain under the continuous checks: it carries under a grant, or a kill has withdrawn it in this REFCLK cycle (R140, R151). -/
def State.underCheck (s : State) (n : Nat) : Bool :=
  s.granted n || (bitOf s.rge.cutMask n && s.rge.cutAt / 6 == s.now / 6)

/-- VIOL_WIN_S of the profile in CLK_DSP cycles. -/
def State.violWin (s : State) : Nat := 240000000 * le16 s.rge.profile 46

/-- The violation's time kept; whether the violation two before it lies within VIOL_WIN_S (R143). -/
def State.violCount (s : State) : Bool × State :=
  let old := s.rge.viols
  let hit := match old with
    | _ :: t2 :: _ => decide (s.now ≤ t2 + s.violWin)
    | _ => false
  (hit, { s with rge.viols := (s.now :: old).take 2 })

/-- The QUIET latch set: every chain ramped down on the fast section (R143). -/
def State.quietLatch (s : State) : State :=
  if s.on RGE.STATE_QUIET_LATCH then s
  else
    let s1 := ((s.set RGE.STATE_QUIET_LATCH 1).set RGE.STATUS_QUIET 1).rgeLog 27 0 none
    s1.forN 4 fun n t => if t.granted n then t.withdraw n true else t.rampDown n true txREADY errRGE_DENY

end Sys2Proof.Machine
end

