-- ==== Sys2Proof/Machine/PwrOps.lean ====
section
/-! DEFINITION. Power domains, degraded modes and resets as operations: RADIO and HFR on and off, entering QUIET, LAMP_KEEP and
FAILSAFE, the lamp failsafe, and the reset of a core (R23, R25, R344, R487, R497, R508). -/

namespace Sys2Proof.Machine

open Sys2Proof

/-- Modes of SYS.MODE (R497). -/
def mdFULL : Nat := 0
def mdQUIET : Nat := 1
def mdLAMP : Nat := 2
def mdFAILSAFE : Nat := 3

/-- Bits of MODE.CAUSE (R501). -/
def csRGE : Nat := 0
def csBUDGET : Nat := 1
def csTHERMAL : Nat := 2
def csINCOMPATIBLE : Nat := 3
def csAPP : Nat := 4
def csRETIRED : Nat := 5
def csVOTE : Nat := 6
def csNOIMAGE : Nat := 7

/-- The mode in force. -/
def State.mode (s : State) : Nat := s.get SYS.MODE_MODE

/-- The mode set; each entry into a degraded mode is an entry of ring P (R497, R533). -/
def State.setMode (s : State) (m : Nat) : State :=
  if s.mode == m then s
  else if m == mdFULL then s.set SYS.MODE_MODE m
  else (s.set SYS.MODE_MODE m).logP 0x25 m (s.get SYS.MODE_CAUSE)

/-- Every register, and every shadow, with an address from `lo` to `hi - 1` at its reset value (R440). -/
def State.resetRange (s : State) (lo hi : Nat) : State :=
  { s with
    regs := Tab.clear (fun k => decide (lo ≤ k / 32) && decide (k / 32 < hi)) s.regs
    bus.shadow := Tab.clear (fun k => decide (lo ≤ k / 64) && decide (k / 64 < hi)) s.bus.shadow }

/-- The clock outputs' enables (R469, R487). -/
def State.outEn (s : State) (n : Nat) (en : Bool) : State := s.set CLK.OUT_EN (b2n en) n

/-- CLK_AUX is disabled while HFR and LUM's CORE half are both off (R487). -/
def State.auxGate (s : State) : State := s.outEn 4 (s.bit PWR.STATE_DOM 1 || s.bit PWR.STATE_DOM 3)

/-- A running Fulling sequence of the list aborts with `code` (R510). -/
def State.calStop (s : State) (seqs : List Nat) (code : Nat) : State :=
  if s.on CAL.STATE_BUSY && seqs.contains (s.get CAL.STATE_SEQ) then s.calAborted (s.get CAL.STATE_SEQ) code else s

/-- RADIO switched off: leases and captures end, Fulling's RADIO sequences abort, grants go, the registers of UTX, RFS, URX,
SHF, WNW and LSC reset, sample buffer and sequencer memories lose their contents, buck B stops (R101, R102, R128, R130,
R482, R487, R508). -/
def State.radioOff (s : State) : State :=
  let capturing := s.on URX.CAP_STATUS_ARMED || s.on URX.CAP_STATUS_RUNNING
  let s1 := (s.forN 16 fun n t => t.leaseEndAny n .fault).calStop [2, 3, 4, 5, 6, 7, 8, 9, 10] 10
  let off := (List.range 4).foldl (fun a c => if s.carrier c then Tab.set 0 a c s.now else a) s.radio.offAt
  let s2 := { (s1.resetRange 0x40060000 0x400C0000) with radio := { offAt := off } }
  let s3 := ((s2.wipe 0x18000000 0x18100000).wipe 0x20000000 0x20080000).forN 16 fun q t => t.set QUE.LEVEL_RSV 0 q
  let s4 := ((s3.set RGE.STATE_GRANT 0).set RGE.STATE_PREGRANT 0).set CAL.STATE_APPLIED 0
  let s5 := ((s4.setBit PWR.STATE_DOM 0 false).set PWR.STATE_BUCKB_ON 0).outEn 2 false
  (if capturing then s5.set URX.CAP_STATUS_ABORT 1 else s5).clkSpread

/-- The trims of the working record written back at RADIO power-up, APPLIED with them (R508, R515). -/
def State.trimApply (s : State) : State :=
  let s1 := s.forN 16 fun k t =>
    let o := s.cal16 (0x20 + 2 * k)
    let q := s.cal16 (0x40 + 2 * k)
    (((t.set URX.OFS_TRIM_OFS_I (o / 256) k).set URX.OFS_TRIM_OFS_Q o k).set URX.IQ_TRIM_PHASE (bits q 13 7) k).set
      URX.IQ_TRIM_GAIN q k
  let s2 := s1.forN 4 fun n t =>
    (t.set RFS.TEMP_CAL_TEMP (s.cal16 (0x1500 + 2 * n)) n).set UTX.PHASE_TRIM (s.calByte (0x80 + 4 * n)) n
  s2.set CAL.STATE_APPLIED 1

/-- RADIO switched on (R473, R482, R487, R508): enabled receive chains are in IDLE (R106). -/
def State.radioOn (s : State) : State :=
  if s.bit PWR.STATE_DOM 0 then s
  else
    let s1 := (((s.resetRange 0x40060000 0x400C0000).setBit PWR.STATE_DOM 0 true).set PWR.STATE_BUCKB_ON 1).outEn 2 true
    s1.trimApply.forN 16 fun ch t => if t.on URX.CTRL_EN ch then t.setRst ch rxIDLE else t

/-- HFR switched off or on (R300, R487, R510). -/
def State.hfrPower (s : State) (en : Bool) : State :=
  if en then (s.setBit PWR.STATE_DOM 1 true).auxGate
  else (((s.calStop [11, 12] 10).hfrOff).setBit PWR.STATE_DOM 1 false).auxGate

/-- The failsafe takes the dim pins (R343, R344). -/
def State.fsEngage (s : State) : State :=
  if s.on LUM.FS_CTRL_ENGAGED then s
  else
    let s1 := ((s.set LUM.FS_CTRL_ENGAGED 1).set LUM.STATUS_FS_ENGAGED 1).bump LUM.CNT_FS_COUNT LUM.STATUS_SAT
    { s1 with lum.kicked := false }

/-- Radio taken away: kill, RF_EN cleared, RADIO and HFR off, kill released unless the line warning holds it (R483, R497). -/
def State.radioStop (s : State) : State :=
  let s1 := ((s.killReg.set RGE.CTRL_RF_EN 0).voteClean 3).radioOff.hfrPower false
  let s2 := (s1.set PWR.DOM_CTRL_RADIO 0).set PWR.DOM_CTRL_HFR 0
  if s.on PWR.STATE_LEW then s2 else s2.killRegClear

/-- A trigger of QUIET: the cause is kept; QUIET is entered from FULL (R497, R500). -/
def State.enterQuiet (s : State) (cause : Nat) : State :=
  let s1 := s.setBit SYS.MODE_CAUSE cause true
  if s1.mode == mdFULL then s1.radioStop.setMode mdQUIET else s1

/-- A trigger of LAMP_KEEP (R497). -/
def State.enterLampKeep (s : State) (cause : Nat) : State :=
  let s1 := s.setBit SYS.MODE_CAUSE cause true
  if s1.mode == mdFAILSAFE then s1
  else (if s1.mode == mdFULL then s1.radioStop else s1).setMode mdLAMP

/-- The fields that a WARM reset leaves alone: those of the AON and MRAM domains (R25, R479, R501 to R503). -/
def keptFields : List Fld := (blocks.flatMap fun b => b.fields).filter fun f => f.aon || f.dom == .cold

/-- Whether a key of the field file belongs to a field that WARM leaves alone; the life-cycle state and the calibration bank
pointer are loaded at bring-up step 3 (R501, R524). -/
def keptKey (k : Nat) : Bool :=
  (keptFields.any fun f => f.lo == k % 32 && (f.inst (k / 32)).isSome) || k == SYS.LC_STATE.key 0 || k == CAL.BANK_PTR.key 0

/-- Every field but those that WARM leaves alone, and every shadow, at its reset value (R440). -/
def State.resetCore (s : State) : State :=
  { s with
    regs := s.regs.filter fun e => keptKey e.1
    bus.shadow := [] }

/-- The state that blocks of the CORE domain keep beside their registers, as after a reset. The PHY keeps its link (R464,
R537). -/
def State.dropCore (s : State) : State :=
  { s with
    que := [], tmrPre := [], tmrUnread := 0, hfr := {}, gl := {}, mpt := { ext := s.mpt.ext }, grn := {}, hlk := {}, age := {}
    net := { linkUp := s.net.linkUp, txLevel := s.net.txLevel, sqi := s.net.sqi }
    calWork := [], calTarget := 0, lum := { duty := s.lum.duty, pwmPeriod := s.lum.pwmPeriod }, coreP := { s.coreP with wdtDue := [], wdtHeld := [] }
    bus := { s.bus with irqCfg := [], irqNew := none, haltedA := false, haltedB := false, events := 0 } }

/-- A watchdog's count stands: what is left of it waits (R537). -/
def State.wdtPark (s : State) (n : Nat) : State :=
  let due := Tab.get 0 s.coreP.wdtDue n
  if due == 0 then s
  else { s with coreP := { s.coreP with
      wdtHeld := Tab.set 0 s.coreP.wdtHeld n (max 1 (due - s.now)), wdtDue := Tab.erase s.coreP.wdtDue n } }

/-- The CORE domain loses power, all but RGE and ATB (R23, R497). No block's section names that power-off, so every register field
stays as it was (R8); system SRAM, caches and what the engines of the domain were doing are lost. -/
def State.coreOff (s : State) : State :=
  let s1 := s.forN 2 fun n t => t.wdtPark n
  { s1 with
    mem := Tab.clear (fun a => decide (a < 0x28000000)) s1.mem
    mpt := { s1.mpt with cache := [], fills := [], txn := none, dataDone := false, out := [] }
    grn := {}, hlk := {}, lum := { curve := s1.lum.curve, duty := s1.lum.duty, pwmPeriod := s1.lum.pwmPeriod, kicked := s1.lum.kicked }, age := { pa := s1.age.pa }
    net := { linkUp := s1.net.linkUp, txLevel := s1.net.txLevel, sqi := s1.net.sqi } }

/-- The TOT counter started at the stored reserve, and a reserve 65,536 higher written (R398). -/
def State.ctrStart (s : State) : State :=
  { s with net.ctr := s.nv.ctrReserve, nv.ctrReserve := s.nv.ctrReserve + 65536 }

/-- FAILSAFE (R345, R487, R497): radio off, CORE off, the failsafe level on the pins, every chain held off; Core P's responder
starts (R498). -/
def State.enterFailsafe (s : State) (cause : Nat) : State :=
  let s1 := s.setBit SYS.MODE_CAUSE cause true
  if s1.mode == mdFAILSAFE then s1
  else
    let s2 := (((if s1.mode == mdFULL then s1.radioStop else s1).coreOff.fsEngage).setBit PWR.STATE_DOM 3 false).outEn 0 false
    ((s2.auxGate.set RGE.STATE_HOLD 15).ctrStart).setMode mdFAILSAFE

/-- A CORE_A or CORE_B reset (R25): that core alone; three within 600 s lead to LAMP_KEEP, both cores within 1 s to FAILSAFE
(R497). -/
def State.coreReset (s : State) (core : Nat) : State :=
  let s1 := if core == 0 then s.set SYS.RST_CAUSE_CORE_A 1 else s.set SYS.RST_CAUSE_CORE_B 1
  let s2 := { s1 with
    coreP.resets := ((s.now, core) :: s.coreP.resets).take 8 }
  let near := fun (d : Nat) => s2.coreP.resets.filter fun e => decide (s.now ≤ e.1 + d)
  if (near 240000000).any fun e => e.2 != core then s2.enterFailsafe csVOTE
  else if 3 ≤ (near (600 * 240000000)).length then s2.enterLampKeep csAPP
  else s2

end Sys2Proof.Machine
end

