-- ==== Sys2Proof/Machine/Rge.lean ====
section
/-! DEFINITION. The commands of the regulatory enforcer. -/

namespace Sys2Proof.Machine

open Sys2Proof

/-- GRANT_REQUEST (R138): a chain in READY that is to key up, and waits for nothing else, requests its grant. -/
def execGrantRequest (n : Nat) (s : State) : Out :=
  let u := s.utxAt n
  if u.want == some txCW && s.ust n == txREADY && !s.on UTX.STATE_RAMP n && !s.on UTX.STATE_WAIT n && !u.grantAsked then
    .next (s.rgeRequest n)
  else .next s

/-- The end of the LBT measurement of chain `n`, `power` in the code of LBT_THR, signed Q8.8 dBm (R138). -/
def State.lbtEnd (s : State) (n power : Nat) : State :=
  let code := s.rgeCheck n false
  let s1 := s.giveUp n
  if (s.utxAt n).antSettling then s.antHold n
  else if code != 0 then s1.rgeDeny n code
  else if sint 16 (le16 s.rge.profile 40) < sint 16 power then s1.rgeDeny n 3
  else s1.rgeGrant n

/-- LBT_DECISION (R138). -/
def execLbtDecision (n power : Nat) (s : State) : Out :=
  .next (if (s.utxAt n).grantAsked && s.profFlag 1 then s.lbtEnd n power else s)

/-- QUIET entered by the enforcer's escalation (R143, R497, R500): a second one within 3,600 s is kept until a RESTART. -/
def State.rgeEscalate (s : State) : State :=
  let again := match s.coreP.escalated with
    | some t => decide (s.now ≤ t + 3600 * 240000000)
    | none => false
  let s1 := s.quietLatch
  ({ s1 with coreP.escalated := some s.now, coreP.quietHeld := s1.coreP.quietHeld || again } : State).enterQuiet csRGE

/-- A violation with what it leads to (R142, R143). -/
def State.rgeViolation (s : State) (n code : Nat) : State :=
  let r := (s.violate n code).violCount
  if r.1 && !s.on RGE.STATE_QUIET_LATCH then r.2.rgeEscalate else r.2

/-- RGE_VIOLATION (R140, R142, R143, R151): a check of code 16 to 20 that is breached, the forward power's mean given, on a chain
under check. -/
def execRgeViolation (n code fwd : Nat) (s : State) : Out :=
  .next (if s.underCheck n && s.breached n code fwd then
    { s.rgeViolation n code with rge.cutMask := putBit (s.rgeViolation n code).rge.cutMask n false } else s)

/-- The checks of R140 among `codes` made of every chain that carries under a grant; the first breached is the violation. -/
def State.rgeWatch (s : State) (codes : List Nat) : State :=
  s.forN 4 fun n t =>
    if t.granted n then
      match codes.find? fun c => t.breached n c 0 with
      | some c => t.rgeViolation n c
      | none => t
    else t

/-- KILL_PIN (R146). -/
def execKillPin (s : State) : Out :=
  .next (if s.on RGE.KILL_PIN then s else (s.set RGE.KILL_PIN 1).killBy RGE.STATUS_KILL_PIN 25)

/-- KILL_PIN_RELEASE (R148). -/
def execKillPinRelease (s : State) : Out := .next (s.set RGE.KILL_PIN 0).killRelease

/-- KILL_REG (R146): any master's write of 1. -/
def execKillReg (_m : Master) (s : State) : Out := .next s.killReg

/-- KILL_REG_CLEAR (R148): any master's write of 0. -/
def execKillRegClear (_m : Master) (s : State) : Out := .next s.killRegClear

/-- QUIET_CLR (R143): from Core P alone. -/
def execQuietClr (m : Master) (s : State) : Out :=
  .next (if m == .coreP then s.set RGE.STATE_QUIET_LATCH 0 else s)

/-- LOG_LO of an entry as a word (R144). -/
def rgeEntryWord (e : RgeEntry) : Nat :=
  2147483648 + e.code % 32 * 2 ^ 24 + e.chain % 4 * 2 ^ 22 + e.chan % 64 * 2 ^ 16 + e.angle % 65536

/-- Core B hands a popped entry to Core A: object 0x3312 keeps the last 64, ring A of the fault log takes it (R144, R533). -/
def State.rgeHand (s : State) (e : RgeEntry) : State :=
  let b := s.obj 0x3312 0 [] ++ toLe 4 (rgeEntryWord e) ++ toLe 4 e.cycle
  (s.setObj 0x3312 0 (b.drop (b.length - 512))).logA 0x40 e.chain (2048 * (e.code % 32) + e.chan % 64)

/-- A read of LOG_LO: the oldest entry is popped, its cycle latched for the reader (R144). An empty ring reads VALID 0. -/
def State.rgePop (s : State) (m : Master) : Nat × State :=
  match s.rge.log with
  | [] => (0, s)
  | e :: r =>
    let s1 := ({ s with rge.log := r } : State).latch (RGE.LOG_LO_VALID.at 0) m e.cycle
    (rgeEntryWord e, if m == .coreB then s1.rgeHand e else s1)

/-- RGE_LOG_POP (R144). -/
def execRgeLogPop (m : Master) (s : State) : Out :=
  let r := s.rgePop m
  .next (r.2.respond r.1 false)

/-- CTRL.RF_EN written: Core P alone, its three copies together (R150, R443). -/
def State.rfEnWrite (s : State) (m : Master) (v : Nat) : State :=
  if m == .coreP then (s.set RGE.CTRL_RF_EN v).voteClean 3 else s

/-- RF_EN_WRITE (R150). -/
def execRfEnWrite (m : Master) (v : Nat) (s : State) : Out := .next (s.rfEnWrite m v)

end Sys2Proof.Machine
end

