-- ==== Sys2Proof/Machine/Tables.lean ====
section
/-! DEFINITION. The tables with a TBL1 header that objects hold: the check that each one's own rule makes before it is stored,
and the tables that are defaults (R51, R85, R86, R93, R95, R135, R136, R165, R168, R200 to R204, R283, R284, R337, R477, R565). -/

namespace Sys2Proof.Machine

open Sys2Proof

/-- Every byte from `lo` to `hi - 1` is 0. -/
def zeroAt (t : List Nat) (lo hi : Nat) : Bool := (List.range (hi - lo)).all fun i => byteAt t (lo + i) == 0

/-- `p` holds for 0, 1, …, `k - 1`. -/
def allN (k : Nat) (p : Nat → Bool) : Bool := (List.range k).all p

/-- No two members of a list are equal. -/
def distinct (l : List Nat) : Bool :=
  match l with
  | [] => true
  | x :: r => !r.contains x && distinct r

/-! ### Power, shape and ramp tables -/

/-- R86. -/
def powerOk (t : List Nat) : Bool :=
  allN 128 fun i =>
    let o := 16 + 8 * i
    let e := sint 16 (le16 t (o + 4))
    decide (le16 t o < 1024) && decide (byteAt t (o + 3) ≤ 235) && decide (byteAt t (o + 6) ≤ 1) && byteAt t (o + 7) == 0 &&
      decide (e ≤ 0x2100) && (bitOf (byteAt t (o + 6)) 0 || decide (e ≤ 0x1400)) &&
      (i == 127 || decide (sint 16 (le16 t (o + 12)) ≤ e))

/-- R93. -/
def shapeOk (t : List Nat) : Bool :=
  let n := byteAt t 16
  let e := fun (k : Nat) => le16 t (20 + 2 * k)
  decide (1 ≤ n) && decide (n ≤ 64) && e (n - 1) == 0xFFFF && allN (n - 1) (fun k => decide (e k ≤ e (k + 1))) &&
    allN (64 - n) fun k => e (n + k) == 0

/-- A section of a ramp table: `n` entries from offset `o` (R95). -/
def rampOk (t : List Nat) (o n : Nat) : Bool :=
  let e := fun (k : Nat) => le16 t (o + 2 * k)
  decide (e 0 ≤ 0x100) && e (n - 1) == 0xFFFF && allN (n - 1) fun k => decide (e k ≤ e (k + 1))

/-! ### Region profile -/

/-- R136, the header aside. -/
def profileOk (t : List Nat) : Bool :=
  let n := byteAt t 18
  let f := byteAt t 19
  let lo := le32 t 20
  let hi := le32 t 24
  let khz := fun (c : Nat) => le32 t (64 + 8 * c)
  decide (1 ≤ n) && decide (n ≤ 64) && decide (f < 16) && decide (840000 ≤ lo) && decide (hi ≤ 960000) && decide (lo < hi) &&
    zeroAt t 52 64 &&
    allN n (fun c => decide (lo ≤ khz c) && decide (khz c ≤ hi) && (c == 0 || decide (khz (c - 1) < khz c)) &&
      decide (byteAt t (68 + 8 * c) < 128) && byteAt t (69 + 8 * c) == 0 && decide (sint 16 (le16 t (70 + 8 * c)) ≤ 0x2100)) &&
    (!bitOf f 2 || (le16 t 30 != 0 && decide (le16 t 28 ≤ 100 * le16 t 30))) &&
    (!bitOf f 3 || (le16 t 36 != 0 && decide (1 ≤ le16 t 34) && decide (le16 t 34 ≤ 1000))) &&
    (!bitOf f 1 || (decide (5 ≤ le16 t 38) && decide (le16 t 38 ≤ 10000))) && le16 t 44 != 0 && le16 t 46 != 0

/-! ### Sheaf tables -/

/-- R165. -/
def beamOk (t : List Nat) : Bool :=
  let n := byteAt t 16
  let w := fun (o : Nat) => decide ((sint 16 (le16 t o)).natAbs ≤ 16384)
  decide (1 ≤ n) && decide (n ≤ 16) && zeroAt t 17 20 &&
    allN n fun b =>
      let o := 20 + 72 * b
      allN 32 (fun k => w (o + 2 * k)) && allN 4 (fun k => decide (byteAt t (o + 64 + k) < 64)) && zeroAt t (o + 68) (o + 72)

/-- R168. -/
def geometryOk (t : List Nat) : Bool :=
  let n := byteAt t 16
  let z := fun (e : Nat) => sint 16 (le16 t (32 + 8 * e))
  decide (4 ≤ n) && decide (n ≤ 16) && zeroAt t 17 20 && zeroAt t 26 28 &&
    allN 3 (fun k => decide ((sint 16 (le16 t (20 + 2 * k))).natAbs ≤ 18000)) &&
    distinct ((List.range n).map fun e => byteAt t (34 + 8 * e)) &&
    allN n (fun e => decide (byteAt t (34 + 8 * e) ≤ 15) && byteAt t (35 + 8 * e) == 0 &&
      allN n fun f => decide ((z e - z f).natAbs ≤ 10)) &&
    zeroAt t (28 + 8 * n) 156

/-! ### Frame format tables -/

/-- A link entry within the bounds of R186, R187, R195, R196, R201 and R204. -/
def linkOk (l : List Nat) : Bool :=
  let tari := lkTari l
  let tr := lkTrcal l
  let num := if lkDr l == 0 then 320000 else 2560000
  let den := if lkDr l == 0 then tr else 3 * tr
  let blf := if den == 0 then 0 else (2 * num + den) / (2 * den)
  let t2 := 22528 + 640 * lkPad l
  let slow := decide (103808 < 3 * lkTpri l)
  decide (byteAt l 0 < 3) && decide (byteAt l 1 < 32) && decide (byteAt l 9 < 128) && zeroAt l 10 16 &&
    decide (3 * tari ≤ 2 * le16 l 2) && decide (le16 l 2 ≤ 2 * tari) &&
    decide (80 ≤ lkPw l) && decide (265 * tari ≤ 1000 * lkPw l) && decide (1000 * lkPw l ≤ 525 * tari) &&
    decide (11 * lkRtcal l ≤ 10 * tr) && decide (tr ≤ 3 * lkRtcal l) && decide (40 ≤ blf) && decide (blf ≤ 640) &&
    decide (1 ≤ lkFrt l) && decide (lkFrt l ≤ 22) && bitOf (byteAt l 1) 4 == slow &&
    (slow || (decide (3 * lkTpri l ≤ t2) && decide (t2 ≤ 20 * lkTpri l)))

/-- FIXED of a frame entry: its reserved bits and the values that the standard leaves undefined (R203, R204). -/
def fixedOk (cmd fx : Nat) : Bool :=
  if cmd == 1 then decide (fx < 512)
  else if cmd == 2 then fx.land 0xF1F3 == 0 && [0, 6, 3].contains (bits fx 11 9)
  else if cmd == 3 then fx.land 0xFFF3 == 0
  else if cmd == 7 then fx.land 0xEF00 == 0 && decide (fx % 8 ≤ 4)
  else if cmd == 8 || cmd == 9 || cmd == 13 || cmd == 14 then fx.land 0xFF3F == 0
  else if cmd == 15 then fx.land 0xDF3F == 0
  else if cmd == 10 then decide (fx < 8)
  else if cmd == 32 then decide (fx < 8) && fx % 4 != 3
  else fx == 0

/-- WORDS of a frame entry (R202). -/
def wordsOk (cmd w : Nat) : Bool :=
  if cmd == 8 || cmd == 7 then decide (w ≤ 255)
  else if cmd == 13 || cmd == 14 || cmd == 15 then decide (1 ≤ w) && decide (w ≤ 255)
  else if cmd == 32 then decide (1 ≤ w) && decide (w ≤ 4095)
  else w == 0

/-- A frame entry (R188, R191, R202, R203, R204). -/
def frameOk (e : List Nat) (nlink : Nat) : Bool :=
  let cmd := feCmd e
  let fl := byteAt e 2
  let known := (decide (1 ≤ cmd) && decide (cmd ≤ 15)) || cmd == 32
  let needs := feTrunc e || (cmd == 8 && feWords e == 0)
  known && decide (feLink e < nlink) && decide (fl < 32) && byteAt e 3 == 0 && zeroAt e 12 16 &&
    (cmd == 32 || (bitOf fl 0 == (cmd == 1) && feReply e == !(cmd == 5 || cmd == 7))) &&
    (!feTrunc e || cmd == 4) && fixedOk cmd (feFixed e) && wordsOk cmd (feWords e) &&
    decide (feRxbits e ≤ 4128) && (if needs then feRxbits e != 0 else cmd == 32 || feRxbits e == 0)

/-- R204. -/
def formatOk (t : List Nat) : Bool :=
  let nl := byteAt t 16
  let nf := byteAt t 17
  decide (1 ≤ nl) && decide (nl ≤ 16) && decide (1 ≤ nf) && decide (nf ≤ 64) && zeroAt t 18 20 &&
    allN nl (fun l => linkOk (slice t (20 + 16 * l) 16)) &&
    allN nf fun f => frameOk (slice t (20 + 16 * nl + 16 * f) 16) nl

/-! ### HF frame table, spur exclusion, dim curve -/

/-- R283, R284. -/
def hfTableOk (t : List Nat) : Bool :=
  let n := byteAt t 16
  decide (1 ≤ n) && decide (n ≤ 64) && zeroAt t 17 20 && allN n fun e => !heBad (slice t (20 + 16 * e) 16)

/-- R477. -/
def spurOk (t : List Nat) : Bool :=
  let n := byteAt t 16
  decide (n ≤ 32) && zeroAt t 17 20 &&
    allN n fun e =>
      let lo := le32 t (20 + 8 * e)
      let hi := le32 t (24 + 8 * e)
      decide (lo < 2 ^ 20) && decide (hi < 2 ^ 22) && decide (2 ^ 20 ≤ hi) && decide (lo ≤ hi % 2 ^ 20)

/-- R337. -/
def curveOk (t : List Nat) : Bool :=
  zeroAt t 16 24 &&
    allN 256 fun i =>
      let o := 16 + 8 * i
      decide (le16 t (o + 2) < 4096) && byteAt t (o + 4) != 255 && zeroAt t (o + 5) (o + 8) &&
        (i == 255 || (decide (le16 t o ≤ le16 t (o + 8)) && decide (le16 t (o + 2) ≤ le16 t (o + 10)) &&
          decide (byteAt t (o + 4) ≤ byteAt t (o + 12))))

/-! ### The check of a table object -/

/-- A table object: its format ID, the length that its rule gives, and its own check. -/
structure TblRule where
  fmt : Nat
  len : List Nat → Nat
  ok : List Nat → Bool

/-- The rule of the table that an object holds; none for an object that holds no table. Of a plan table's reserved bytes only byte 19
is checked (R51; DESIGN CHOICE, assumption 48). -/
def tblRule (index : Nat) : Option TblRule :=
  if 0x3100 ≤ index && index ≤ 0x310F then some ⟨0x30, fun _ => 1040, powerOk⟩
  else if 0x3120 ≤ index && index ≤ 0x3123 then some ⟨0x31, fun _ => 148, shapeOk⟩
  else if index == 0x3130 then some ⟨0x32, fun _ => 276, fun t => rampOk t 16 120 && rampOk t 256 10⟩
  else if index == 0x3160 then some ⟨0x35, fun t => 20 + 8 * byteAt t 16, spurOk⟩
  else if 0x3300 ≤ index && index ≤ 0x3303 then some ⟨0x50, fun t => 64 + 8 * byteAt t 18, profileOk⟩
  else if index == 0x3410 then some ⟨0x61, fun _ => 220, geometryOk⟩
  else if 0x3420 ≤ index && index ≤ 0x3423 then some ⟨0x62, fun t => 20 + 72 * byteAt t 16, beamOk⟩
  else if 0x3500 ≤ index && index ≤ 0x3503 then
    some ⟨0x40, fun t => 20 + 16 * (byteAt t 16 + byteAt t 17), formatOk⟩
  else if index == 0x4010 then some ⟨0x45, fun t => 20 + 16 * byteAt t 16, hfTableOk⟩
  else if index == 0x5003 then some ⟨0x70, fun _ => 2064, curveOk⟩
  else if index == 0x2100 then some ⟨0x21, fun t => 32 + 16 * byteAt t 18, fun t => byteAt t 19 == 0⟩
  else none

/-- The running firmware declares a format and level (R412, R565). -/
def State.levelKnown (s : State) (fmt level : Nat) : Bool :=
  s.coreP.levels.any fun p => p.1 == fmt && decide (level ≤ p.2)

/-- The abort code of a table write: TABLE_LEVEL before the content is examined, then TABLE_INVALID (R412, R565). -/
def State.tableAbort (s : State) (r : TblRule) (t : List Nat) : Nat :=
  if 16 ≤ t.length && !s.levelKnown (le16 t 4) (byteAt t 6) then 7
  else if tblHeaderOk t r.fmt (byteAt t 6) (r.len t) && byteAt t 6 == 1 && r.ok t then 0
  else 6

/-! ### Default tables -/

/-- A TBL1 table: its header in front of its body (R565). -/
def tbl1 (fmt level : Nat) (body : List Nat) : List Nat := tblHeader fmt level body ++ body

/-- The default shaping table: a raised cosine with LEN 40 (R93). -/
def shapeDefault : List Nat :=
  let e := (List.range 39).flatMap fun k => toLe 2 (Config.shapeEntry k)
  tbl1 0x31 1 ([40, 0, 0, 0] ++ e ++ [255, 255] ++ List.replicate 48 0)

/-- The reference array, angles and ISO 0 (R168). -/
def geometryDefault : List Nat :=
  let el := (List.range 16).flatMap fun k =>
    toLe 2 (unsignedOf 16 (164 * (k % 4 : Nat) - 246)) ++ toLe 2 (unsignedOf 16 (164 * (k / 4 : Nat) - 246)) ++ [0, 0, k, 0]
  tbl1 0x61 1 ([16] ++ List.replicate 11 0 ++ el ++ List.replicate 64 0)

/-- One boresight beam (R165). -/
def beamSetDefault : List Nat :=
  tbl1 0x62 1 ([1, 0, 0, 0] ++ (List.range 16).flatMap (fun _ => [0, 0x40, 0, 0]) ++ List.replicate 8 0)

/-- A frame entry on link 0 of the reference table (R202). -/
def refEntry (cmd flags fixed words tmo : Nat) : List Nat :=
  [cmd, 0, flags, 0] ++ toLe 2 fixed ++ toLe 2 words ++ [0, 0] ++ toLe 2 tmo ++ [0, 0, 0, 0]

/-- The reference frame format table: link 0 and the frame entries 0 to 14 (R205, R241). -/
def formatDefault : List Nat :=
  tbl1 0x40 1 ([1, 15, 0, 0] ++ [0, 3] ++ toLe 2 0x1F4 ++ toLe 2 0x535 ++ toLe 2 0x64 ++ [15, 0, 0, 0, 0, 0, 0, 0] ++
    refEntry 1 3 0x84 0 0 ++ refEntry 2 2 0x4 0 0 ++ refEntry 3 2 0x4 0 0 ++ refEntry 4 6 0 0 0 ++ refEntry 5 0 0 0 0 ++
    refEntry 6 2 0 0 0 ++ refEntry 7 0 0x41 96 0 ++ refEntry 8 2 0x40 1 0 ++ refEntry 9 10 0x40 0 10000 ++
    refEntry 10 10 0 0 10000 ++ refEntry 11 10 0 0 10000 ++ refEntry 12 2 0 0 0 ++ refEntry 13 10 0x40 1 10000 ++
    refEntry 14 10 0x40 1 10000 ++ refEntry 15 2 0xC0 1 0)

/-- The flags that the names of the reference entries fix: REQA and WUPA are SHORT, entry 1 is ANTICOLL with RECORD, entry 5 has ISODEP,
and each asks for a reply (R284, R294, object 0x4010). -/
def hfRefFlags (e : Nat) : Nat := [0x14, 0x98, 0x10, 0x14, 0x10, 0x50].getD e 0x10

/-- Entry `e` of the reference HF frame table: type A, with its named flags and zeros in the reserved bits. The rates, the CRC flags of
entries that are not SHORT, RX_CRC, WAIT, RXMAX and GUARD are left open, within what R284 accepts (assumption 22). -/
def hfRefEntry (e : Nat) : List Nat :=
  let o := fun k => Config.hfRefByte (16 * e + k)
  let short := bitOf (hfRefFlags e) 2
  [0, o 1 % (if bitOf (hfRefFlags e) 3 then 4 else 16), hfRefFlags e + (if short then 2 * (o 2 % 2) else o 2 % 4), 0] ++
    toLe 2 (16384 * (o 4 % 3) + o 5 % 16384) ++ toLe 2 (1 + o 6 % 1023) ++ toLe 2 (o 8 % 65536) ++ [0, 0, 0, 0, 0, 0]

/-- The reference HF frame table: six entries (object 0x4010). -/
def hfTableDefault : List Nat := tbl1 0x45 1 ([6, 0, 0, 0] ++ (List.range 6).flatMap hfRefEntry)

/-- The default dim curve: linear PWM and DAC, ARC = i - 1 above entry 0 (object 0x5003). -/
def curveDefault : List Nat :=
  tbl1 0x70 1 ((List.range 256).flatMap fun i =>
    toLe 2 (257 * i) ++ toLe 2 (if i == 0 then 0 else if i == 255 then 4095 else Config.curveDac i % 4096) ++ [i - 1, 0, 0, 0])

/-- The default of a table object; an empty value where the object has no table by default. -/
def tblDefault (index : Nat) : List Nat :=
  if 0x3120 ≤ index && index ≤ 0x3123 then shapeDefault
  else if index == 0x3160 then tbl1 0x35 1 spurDefault
  else if index == 0x3410 then geometryDefault
  else if 0x3420 ≤ index && index ≤ 0x3423 then beamSetDefault
  else if index == 0x3500 then formatDefault
  else if index == 0x4010 then hfTableDefault
  else if index == 0x5003 then curveDefault
  else []

end Sys2Proof.Machine
end

