-- ==== Sys2Proof/Machine/Lum.lean ====
section
/-! DEFINITION. The luminaire block: level, fade and curve, DALI, failsafe, photodiode and occupancy, with Core A's lux loop. -/

namespace Sys2Proof.Machine

open Sys2Proof

/-- LUM's own state changed. -/
def State.updLum (s : State) (g : Lum → Lum) : State := { s with lum := g s.lum }

/-- Word `w` of the dim curve: PWM and DAC of entry i at 2i, ARC at 2i + 1 (R337). -/
def State.curveWord (s : State) (w : Nat) : Nat := Tab.get 0 s.lum.curve w

/-- Linear interpolation between neighbouring entries (R337); its rounding is open (assumption 23). -/
def lerp (a b f : Nat) : Nat := divOpen (a * (256 - f) + b * f) 256

/-- The target in force: above 0xFF00 it acts as 0xFF00 (R336). -/
def State.lumTarget (s : State) : Nat := min 0xFF00 (s.get LUM.LEVEL_TARGET)

/-- A fade is under way. -/
def State.fading (s : State) : Bool := s.get LUM.OUT_NOW != s.lumTarget

/-- The ARC of a level: the entry nearest to it (R337). -/
def State.arcOf (s : State) (l : Nat) : Nat :=
  let i := l / 256
  let f := l % 256
  let up := decide (128 < f) || (f == 128 && Config.arcTie i % 2 == 1)
  s.curveWord (2 * (if up then i + 1 else i) + 1) % 256

/-- The present level set and looked up; a change of ARC queues the newest automatic DAPC (R336, R337, R339). -/
def State.outApply (s : State) (l : Nat) : State :=
  let i := l / 256
  let w0 := s.curveWord (2 * i)
  let w1 := s.curveWord (2 * (i + 1))
  let arc := s.arcOf l
  let s1 := (((s.set LUM.OUT_NOW l).set LUM.OUT_PWM (lerp (w0 % 65536) (w1 % 65536) (l % 256))).set LUM.OUT_B_DAC
    (lerp (bits w0 27 16) (bits w1 27 16) (l % 256))).set LUM.OUT_B_ARC arc
  if arc != s.get LUM.OUT_B_ARC && s.on LUM.CTRL_AUTO_DAPC then s1.updLum fun u => { u with queued := some arc } else s1

/-- One millisecond of a fade (R336). -/
def State.fadeStep (s : State) : State :=
  let now := s.get LUM.OUT_NOW
  let t := s.lumTarget
  let r := s.get LUM.LEVEL_FADE_RATE
  if now == t then s
  else if r == 0 then s.outApply t
  else if now < t then s.outApply (min t (now + r))
  else s.outApply (max t (now - r))

/-- LEVEL.TARGET given: a fade starts from the present level, or the level steps where FADE_RATE is 0 (R336). -/
def State.levelTo (s : State) (t : Nat) : State :=
  let s1 := s.set LUM.LEVEL_TARGET t
  if s1.get LUM.LEVEL_FADE_RATE == 0 then s1.fadeStep else s1

/-- LEVEL written (R336). -/
def State.levelWrite (s : State) (v : Nat) : State := (s.set LUM.LEVEL_FADE_RATE (v / 65536)).levelTo (v % 65536)

/-- LEVEL_WRITE (R336). -/
def execLevelWrite (_m : Master) (v : Nat) (s : State) : Out := .next (s.levelWrite v)

/-- PRESENT_LEVEL_UPDATE (R336): one millisecond of a fade (assumption 24). -/
def execPresentLevelUpdate (s : State) : Out := .next s.fadeStep

/-- CURVE_ADDR advanced. -/
def State.curveNext (s : State) : State := s.set LUM.CURVE_ADDR_ADDR (s.get LUM.CURVE_ADDR_ADDR + 1)

/-- CURVE_DATA written: ignored during a fade (R337, R351). -/
def State.curveWrite (s : State) (v : Nat) : State :=
  if s.fading then s.set LUM.STATUS_CMD_ERR 1
  else (s.updLum fun u => { u with curve := Tab.set 0 u.curve (s.get LUM.CURVE_ADDR_ADDR) (v % 4294967296) }).curveNext

/-- CURVE_DATA_ACCESS (R337). -/
def execCurveDataAccess (_m : Master) (write : Bool) (v : Nat) (s : State) : Out :=
  if write then .next (s.curveWrite v)
  else .next ((s.respond (s.curveWord (s.get LUM.CURVE_ADDR_ADDR)) false).curveNext)

/-! ### The output stage (R338, R339, R343, R345) -/

/-- The CORE half drives DIM_PWM, or DIM_DAC, at its own value: the failsafe is not engaged and OUT_EN enables the output. -/
def State.outEnabled (s : State) (k : Nat) : Bool := s.bit LUM.CTRL_OUT_EN k

/-- The length of a DIM_PWM period, in REFCLK cycles (R338). -/
def State.pwmLength (s : State) : Nat := if s.on LUM.PWM_CFG_MODE then 65536 else 4096

/-- At a period boundary DIM_PWM takes the failsafe duty while engaged, else the level's (R338, R343). -/
def State.pwmTick (s : State) : State :=
  if s.now % (6 * s.pwmLength) == 0 then s.updLum fun u => { u with
    duty := if s.on LUM.FS_CTRL_ENGAGED then s.get LUM.FS_LEVEL_FS_PWM else s.get LUM.OUT_PWM
    pwmPeriod := (u.pwmPeriod + 1) % 16 }
  else s

/-- The counts of the present period for which DIM_PWM is active: in mode 0 the low four bits of the duty add one in that many of 16
periods, the first ones (R338; assumption 57). -/
def State.pwmCount (s : State) : Nat :=
  if s.on LUM.PWM_CFG_MODE then s.lum.duty else s.lum.duty / 16 + b2n (decide (s.lum.pwmPeriod < s.lum.duty % 16))

/-- The DIM_PWM pin (R338, R339, R343): active for the duty from the period's start, inverted by POL; inactive where disabled, but for
the failsafe, which OUT_EN does not keep off the pin (assumption 57). -/
def State.dimPwm (s : State) : Bool :=
  ((s.on LUM.FS_CTRL_ENGAGED || s.outEnabled 0) && decide (s.now / 6 % s.pwmLength < s.pwmCount)) != s.on LUM.PWM_CFG_POL

/-- The DIM_DAC code at the pin (R338, R339, R343). -/
def State.dimDac (s : State) : Nat :=
  if s.on LUM.FS_CTRL_ENGAGED then s.get LUM.FS_LEVEL_FS_DAC else if s.outEnabled 1 then s.get LUM.OUT_B_DAC else 0

/-- DALI_TX while no frame is sent: high, idle; in FAILSAFE low where FS_DALI is set (R341, R345). -/
def State.daliTx (s : State) : Bool := !(s.mode == mdFAILSAFE && s.on LUM.FS_CTRL_FS_DALI)

/-! ### DALI (R339 to R342) -/

/-- The bits of a forward frame on the bus: a start bit, then 16 or 24 data bits; none where the DALI output is disabled (R339, R340). -/
def State.daliBits (s : State) (len24 : Bool) (frame : Nat) : List Bool :=
  if s.outEnabled 2 then true :: bitsMsb (if len24 then 24 else 16) frame else []

/-- The engine begins to send a frame. -/
def State.daliBegin (s : State) (again auto : Bool) (b : List Bool) : State :=
  (s.set LUM.DALI_RX_BUSY 1).updLum fun u => { u with
    sending := true, again := again, auto := auto, window := false, dali := b }

/-- The engine is idle again. -/
def State.daliIdle (s : State) : State :=
  (s.set LUM.DALI_RX_BUSY 0).updLum fun u => { u with sending := false, again := false, auto := false, window := false, dali := [] }

/-- RESULT 3 (R342). -/
def State.daliErr (s : State) : State :=
  ((s.set LUM.DALI_RX_RESULT 3).set LUM.STATUS_DALI_ERR 1).bump LUM.CNT_DALI_ERR_COUNT LUM.STATUS_SAT

/-- DALI_CMD written: GO starts a frame, or is ignored while one is in progress (R342, R351). -/
def State.daliCmd (s : State) (v : Nat) : State :=
  if s.on LUM.DALI_RX_BUSY && bitOf v 31 then s.set LUM.STATUS_CMD_ERR 1
  else
    let s1 := (((s.set LUM.DALI_CMD_TWICE (bits v 30 30)).set LUM.DALI_CMD_EXPECT (bits v 29 29)).set LUM.DALI_CMD_LEN24
      (bits v 28 28)).set LUM.DALI_CMD_FRAME v
    if bitOf v 31 then ((s1.set LUM.DALI_RX_RESULT 0).set LUM.DALI_RX_COLLISION 0).daliBegin (bitOf v 30) false
      (s.daliBits (bitOf v 28) v) else s1

/-- DALI_SEND (R342): DALI_CMD written with GO. -/
def execDaliSend (_m : Master) (v : Nat) (s : State) : Out := .next (s.daliCmd (if bitOf v 31 then v else v + 2147483648))

/-- DALI_COLLISION (R342): the engine stops and releases the bus. -/
def execDaliCollision (s : State) : Out :=
  .next (if s.lum.sending then (s.daliIdle.set LUM.DALI_RX_COLLISION 1).daliErr else s)

/-- A sending completes: the second one of TWICE follows, or the frame is finished and the answer window opens (R342). -/
def State.daliSent (s : State) : State :=
  if s.lum.again then s.updLum fun u => { u with again := false }
  else
    let s1 := s.set LUM.STATUS_DALI_DONE 1
    if s.on LUM.DALI_CMD_EXPECT && !s.lum.auto then s1.updLum fun u => { u with sending := false, window := true, dali := [] }
    else s1.daliIdle

/-- DALI_DONE (R342). -/
def execDaliDone (s : State) : Out := .next (if s.lum.sending then s.daliSent else s)

/-- DALI_BACKWARD_FRAME (R342). -/
def execDaliBackwardFrame (data : Nat) (framingOk : Bool) (s : State) : Out :=
  if s.lum.window then
    let s1 := s.daliIdle.set LUM.DALI_RX_DATA data
    .next (if framingOk then s1.set LUM.DALI_RX_RESULT 1 else s1.daliErr)
  else .next s

/-- DALI_NO_ANSWER (R342). -/
def execDaliNoAnswer (s : State) : Out := .next (if s.lum.window then s.daliIdle.set LUM.DALI_RX_RESULT 2 else s)

/-- AUTO_DAPC_SEND (R339): the newest queued ARC goes out once the engine is idle. -/
def execAutoDapcSend (s : State) : Out :=
  match s.lum.queued with
  | some arc =>
    if s.on LUM.DALI_RX_BUSY then .next s
    else .next (((s.updLum fun u => { u with queued := none }).daliBegin false true
      (s.daliBits false (0xFE00 + arc))).bump LUM.CNT_DAPC_COUNT LUM.STATUS_SAT)
  | none => .next s

/-! ### Failsafe (R343 to R345) -/

/-- FS_CTRL.KICK (R344). -/
def State.lampKick (s : State) : State := s.updLum fun u => { u with kicked := true }

/-- KICK (R344). -/
def execKick (_m : Master) (s : State) : Out := .next s.lampKick

/-- FS_CTRL.CLR (R344): from Core A, outside FAILSAFE, with FORCE 0 and a KICK since the engagement. -/
def State.fsClr (s : State) (m : Master) : State :=
  if m == .coreA && s.mode != mdFAILSAFE && !s.on LUM.FS_CTRL_FORCE && s.lum.kicked then s.set LUM.FS_CTRL_ENGAGED 0
  else s.set LUM.STATUS_CMD_ERR 1

/-- FS_CLR (R344). -/
def execFsClr (m : Master) (s : State) : Out := .next (s.fsClr m)

/-- FS_FORCE (R344). -/
def execFsForce (_m : Master) (s : State) : Out := .next (s.set LUM.FS_CTRL_FORCE 1).fsEngage

/-- KEEPALIVE_LAPSE (R344). -/
def execKeepaliveLapse (s : State) : Out := .next (if s.on LUM.FS_CTRL_KA_MS then s.fsEngage else s)

/-! ### Daylight and occupancy (R346 to R349) -/

/-- The level that the lux loop asks for (R349); the quotient with a setpoint of 0 is open (assumption 3). Division as the
program's, towards zero (assumption 25). -/
def State.luxLevel (s : State) (lux target : Nat) : Nat × State :=
  let lo := s.objNum 0x5024 0 0x1000
  let hi := s.objNum 0x5025 0 0xFF00
  let gain := s.objNum 0x5023 0 0x200
  let clampL := fun (l : Int) => (min (hi : Int) (max lo l)).toNat
  if target == 0 then (clampL (s.fresh.1 % 65536 : Nat), s.fresh.2)
  else
    let d : Int := (gain : Int) * ((65536 * target : Nat) - (lux : Int))
    (clampL ((s.get LUM.LEVEL_TARGET : Nat) + Int.tdiv d (65536 * target : Nat)), s)

/-- Core A's lux loop on a photodiode result of `pa` pA (R349, R411): not in LAMP_KEEP or FAILSAFE. -/
def State.luxLoop (s : State) (pa : Nat) : State :=
  if s.objNum 0x5029 0 1 == 0 || mdLAMP ≤ s.mode then s
  else
    let lux := pa * s.objNum 0x5027 0 0x01F40000 / 1000000
    let s1 := s.updLum fun u => { u with lux := lux }
    let r := s1.luxLevel lux (if s.lum.occupied then s.objNum 0x5020 0 500 else s.objNum 0x5021 0 100)
    r.2.levelTo r.1

/-- An integration has run its length: its cycles are complete, or the ATB is OFF and REFCLK times it (R346). -/
def State.pdComplete (s : State) : Bool := s.lum.pdLeft == some 0 || s.atbSt == abOFF

/-- The next integration: with TRIG = 0 from this boundary on, with TRIG = 1 at the next trigger (R346). -/
def State.pdAgain (s : State) : State :=
  if s.on LUM.PD_CFG_TRIG || s.atbSt == abOFF then { s with lum.pdLeft := none, lum.pdUnsync := false } else s.pdBegin

/-- The range of an integration: the one forced, or under AUTO the stage's choice, which after a clipped result is the next less sensitive
one (R346; assumption 57). -/
def State.pdRange (s : State) (range : Nat) : Nat :=
  if !s.on LUM.PD_CFG_AUTO then s.get LUM.PD_CFG_RANGE
  else if s.on LUM.PD_RES_CLIP then min 3 (s.get LUM.PD_RES_RANGE + 1)
  else range

/-- The result of an integration lands (R346). In OFF every result is UNSYNC. -/
def State.pdLand (s : State) (range pa : Nat) (clip : Bool) : State :=
  let un := s.lum.pdUnsync || s.atbSt == abOFF
  let s1 := if s.on LUM.STATUS_PD_RDY then s.set LUM.STATUS_PD_OVR 1 else s
  let s2 := ((s1.set LUM.PD_RES_RANGE (s.pdRange range)).set LUM.PD_RES_PA pa).set
    LUM.PD_RES_CLIP (b2n clip)
  let s3 := ((s2.set LUM.PD_RES_UNSYNC (b2n un)).set LUM.STATUS_PD_RDY 1).bump LUM.CNT_PD_COUNT LUM.STATUS_SAT
  (if un then s3 else s3.luxLoop (pa % 2 ^ 24)).pdAgain

/-- PD_RDY (R346). -/
def execPdRdy (range pa : Nat) (clip : Bool) (s : State) : Out :=
  .next (if s.pdComplete then s.pdLand range pa clip else s)

/-- |FILT| reaches THR (R347). -/
def State.pirHigh (s : State) (filt : Nat) : Bool := decide (s.get LUM.PIR_CFG_THR ≤ (sint 16 filt).natAbs)

/-- The node is occupied, or no longer (R348). -/
def State.setOccupied (s : State) (b : Bool) : State := s.updLum fun u => { u with occupied := b }

/-- MOTION (R347, R348). -/
def execMotion (filt : Nat) (s : State) : Out :=
  if s.on LUM.PIR_CFG_EN && !s.lum.disarmed && s.pirHigh filt then
    let s1 := ((s.set LUM.PIR_RES_FILT filt).set LUM.STATUS_MOTION 1).bump LUM.CNT_MOTION_COUNT LUM.STATUS_SAT
    .next ((s1.updLum fun u => { u with disarmed := true }).setOccupied true)
  else .next s

/-- PIR_REARM (R347). -/
def execPirRearm (filt : Nat) (s : State) : Out :=
  if s.on LUM.PIR_CFG_EN && s.lum.disarmed && !s.pirHigh filt then
    .next ((s.set LUM.PIR_RES_FILT filt).updLum fun u => { u with disarmed := false })
  else .next s

/-- OCCUPANCY_HOLD_END (R348). -/
def execOccupancyHoldEnd (s : State) : Out := .next (s.setOccupied false)

end Sys2Proof.Machine
end

