-- ==== Sys2Proof/Machine/Clk.lean ====
section
/-! DEFINITION. The commands of the clock block: loss of lock, return, bypass, dividers, enables and the slow clock. -/

namespace Sys2Proof.Machine

open Sys2Proof

/-- What moving the outputs to bypass does to a transmit chain with carrier: a loss-of-lock ramp (R96, R101, R471). -/
def State.bypassChain (s : State) (n : Nat) : State :=
  if s.carrier n then
    (((s.set UTX.STATUS_LOL_RAMP 1 n).noteErr n errLOL).bump UTX.CNT_FAULT_COUNT UTX.STATUS_SAT n).rampDown n true txREADY errLOL
  else s

/-- Every output on its bypass source, the 100 µs of lock before a return begun anew, and what the device does meanwhile (R470,
R471, R473, R478). -/
def State.clkBypass (s : State) : State :=
  let s1 := ((s.set CLK.STATE_ON_BYPASS 1).set CLK.STATE_PHY_AON 1).set CLK.STATE_PLL_STATE 1
  let s2 := (s1.forN 4 fun n t => t.bypassChain n).forN 4 fun sh t => t.engAbort sh
  s2.captureCut.clkSpread

/-- The outputs return to SYSPLL (R472, R473). -/
def State.clkReturn (s : State) : State :=
  let s1 := ((s.set CLK.STATE_ON_BYPASS 0).set CLK.STATE_PLL_STATE 3).set CLK.STATUS_RETURNED 1
  (s1.set CLK.STATE_PHY_AON (b2n (s.get CLK.PLL_CFG_MULT != 24))).clkSpread

/-- The lock of SYSPLL restarted (R467, R470, R473). CMD.BYPASS restarts none, though PLL_STATE then shows SEARCH (assumption 59). -/
def State.pllSearch (s : State) : State := { s with coreP.pllLocked := false }

/-- PLL_LOL (R470): of a SYSPLL that had declared lock. -/
def execPllLol (s : State) : Out :=
  if s.coreP.pllLocked then
    let s1 := (s.logHW 0x05 0 (s.get CLK.STATE_BAND)).clkBypass.pllSearch
    .next ((s1.set CLK.STATUS_LOL 1).bump CLK.CNT_LOL_COUNT CLK.STATUS_SAT)
  else .next s

/-- PLL_LOCK (R467): lock declared, in the band that the search selected. -/
def execPllLock (band : Nat) (s : State) : Out :=
  .next (if s.coreP.pllLocked || s.get CLK.STATE_PLL_STATE != 1 then s
    else { s.set CLK.STATE_BAND band with coreP.pllLocked := true })

/-- RELOCK (R472): lock held for 100 µs. -/
def State.relock (s : State) : State :=
  let s1 := (s.set CLK.STATE_PLL_STATE 2).set CLK.STATUS_RELOCK 1
  if s1.on CLK.CTRL_AUTO_RETURN then s1.clkReturn else s1

/-- RELOCK (R472): of a SYSPLL that has declared lock. -/
def execRelock (s : State) : Out := .next (if s.coreP.pllLocked && s.get CLK.STATE_PLL_STATE == 1 then s.relock else s)

/-- CLK CMD_ERR. -/
def State.clkErr (s : State) : State := s.set CLK.STATUS_CMD_ERR 1

/-- CMD.RETURN: before LOCKED_WAIT it is ignored (R472). -/
def State.clkCmdReturn (s : State) : State :=
  if s.get CLK.STATE_PLL_STATE < 2 then s.clkErr
  else if s.on CLK.STATE_ON_BYPASS then s.clkReturn
  else s

/-- CLK_RETURN (R472). -/
def execClkReturn (_m : Master) (s : State) : Out := .next s.clkCmdReturn

/-- CMD.BYPASS: Core P alone (R478). -/
def State.clkCmdBypass (s : State) (m : Master) : State := if m == .coreP then s.clkBypass else s.clkErr

/-- CLK_BYPASS (R478). -/
def execClkBypass (m : Master) (s : State) : Out := .next (s.clkCmdBypass m)

/-- PLL_CFG.MULT written: Core P alone, RADIO off, 12 to 24 (R473). -/
def State.multWrite (s : State) (m : Master) (v : Nat) : State :=
  if m == .coreP && !s.bit PWR.STATE_DOM 0 && 12 ≤ v && v ≤ 24 then (s.set CLK.PLL_CFG_MULT v).clkBypass.pllSearch
  else s.clkErr

/-- PLL_MULT_WRITE (R473). -/
def execPllMultWrite (m : Master) (v : Nat) (s : State) : Out := .next (s.multWrite m v)

/-- DIV of output `n` written: CLK_CPU's takes 2, 4 and 8, the others are fixed (R468). -/
def State.divWrite (s : State) (n v : Nat) : State :=
  if n == 0 && (v == 2 || v == 4 || v == 8) then s.set CLK.OUT_DIV v 0 else s.clkErr

/-- CLK_DIV_WRITE (R468). -/
def execClkDivWrite (_m : Master) (n v : Nat) (s : State) : Out := .next (s.divWrite n v)

/-- EN of output `n` written: Core P alone (R469). -/
def State.outEnWrite (s : State) (m : Master) (n : Nat) (en : Bool) : State :=
  if m == .coreP then s.outEn n en else s.clkErr

/-- CLK_OUT_EN_WRITE (R469). -/
def execClkOutEnWrite (m : Master) (n : Nat) (en : Bool) (s : State) : Out := .next (s.outEnWrite m n en)

/-- CLK_DELAY_WRITE (R469). -/
def execClkDelayWrite (_m : Master) (n v : Nat) (s : State) : Out := .next (s.set CLK.OUT_DELAY v n)

/-! ### Slow clock (R465) -/

/-- SLOW_XTAL_QUALIFIED (R465): with REFCLK valid; after a SLOW_FAIL the RC stays until COLD or SLOW_RETRY. -/
def execSlowXtalQualified (s : State) : Out :=
  .next (if s.coreP.slowHeld || s.coreP.refHeld then s else s.set CLK.STATE_SLOW_RC 0)

/-- The slow clock on the RC oscillator after the crystal failed (R465, R533). -/
def State.slowFail (s : State) : State :=
  let s1 := ((s.set CLK.STATE_SLOW_RC 1).set CLK.STATUS_SLOW_FAIL 1).logHW 0x0A 0 0
  { s1 with coreP.slowHeld := true }

/-- SLOW_FAIL (R465): crystal selected. -/
def execSlowFail (s : State) : Out := .next (if s.on CLK.STATE_SLOW_RC then s else s.slowFail)

/-- CMD.SLOW_RETRY while on RC (R465). -/
def State.slowRetry (s : State) : State :=
  if s.on CLK.STATE_SLOW_RC then { s with coreP.slowHeld := false } else s

/-- SLOW_RETRY (R465). -/
def execSlowRetry (_m : Master) (s : State) : Out := .next s.slowRetry

end Sys2Proof.Machine
end

