-- ==== Sys2Proof/Machine/Cal.lean ====
section
/-! DEFINITION. Fulling calibration and the ageing monitors (R505 to R522). -/

namespace Sys2Proof.Machine

open Sys2Proof

/-- The number of units that sequence `seq` applies to: receive chains, transmit chains or synthesizers (R509). -/
def calUnits (seq : Nat) : Nat :=
  if 2 ≤ seq && seq ≤ 5 then 16 else if 6 ≤ seq && seq ≤ 10 then 4 else 0

/-- Chain `n` belongs to a gang of at least two (R97). -/
def State.ganged (s : State) (n : Nat) : Bool := 2 ≤ (s.fed (s.loOf n)).length

/-- The units that a run of `seq` with TARGET `t` names; 0 names every unit it applies to (R509). -/
def State.calNamed (s : State) (seq t : Nat) : List Nat :=
  if t != 0 then setBits (calUnits seq) t
  else if seq == 10 then (List.range 4).filter s.ganged
  else List.range (calUnits seq)

/-- RF on some chain of the node. -/
def State.anyCarrier (s : State) : Bool := (List.range 4).any s.carrier

/-- Some sheaf is leased. -/
def State.anyLease (s : State) : Bool := (List.range 4).any fun sh => s.on SHF.LEASE_STATE_HELD sh

/-- The abort code of the first precondition that fails; 0 where none does (R509, R510). -/
def State.calPre (s : State) (seq : Nat) (units : List Nat) : Nat :=
  let rx := units.any fun ch => !(s.rst ch == rxOFF || s.rst ch == rxIDLE)
  let fld := decide (2 ≤ s.hst) || s.on HFT.STATE_FIELD
  if 2 ≤ seq && seq ≤ 10 && !s.bit PWR.STATE_DOM 0 then 10
  else if (seq == 11 || seq == 12) && !s.bit PWR.STATE_DOM 1 then 10
  else if seq == 1 then (if s.coreP.refHeld then 5 else 0)
  else if seq == 2 then (if rx || s.anyCarrier then 1 else 0)
  else if seq == 3 then
    (if rx || s.anyCarrier then 1 else if (List.range 4).all fun m => (s.synthSheaf m).isSome then 4 else 0)
  else if seq == 4 || seq == 5 then (if s.anyLease then 3 else if s.anyCarrier then 1 else 0)
  else if seq == 6 then
    (if units.any fun n => (s.chainSheaf n).isSome then 3
     else if units.any fun n => !(s.ust n == txSTANDBY || s.ust n == txREADY) then 13
     else if s.anyCarrier then 1 else 0)
  else if seq == 7 then (if units.any fun m => (s.fed m).any s.inUse then 1 else 0)
  else if seq == 8 then (if units.any fun m => (s.synthSheaf m).isSome then 3 else 0)
  else if seq == 9 || seq == 10 then
    (if !(s.lc == lcFACTORY && s.on RGE.CTRL_TESTWIN) then 6
     else if !s.on CAL.CTRL_TERM then 7
     else if seq == 10 && (units == [] || !units.all s.ganged) then 13 else 0)
  else if seq == 11 then (if fld then 2 else 0)
  else if seq == 12 then (if fld then 2 else if s.get HFR.STATE_GL_STATE == 2 then 13 else 0)
  else 0

/-- The running sequence aborts with `code` (R505, R513); a synthesizer in CAL for it re-locks (R81). -/
def State.calAbort (s : State) (code : Nat) : State :=
  let s1 := s.calAborted (s.get CAL.STATE_SEQ) code
  if s.get CAL.STATE_SEQ == 7 then
    s1.forL (s.calNamed 7 s.calTarget) fun n t => if t.sst n == synCAL then t.calRelock n else t
  else s1

/-- CMD.RUN (R509, R512). -/
def State.calRun (s : State) (seq target : Nat) : State :=
  if s.on CAL.STATE_BUSY then s.set CAL.STATUS_CMD_ERR 1
  else
    let units := s.calNamed seq target
    if seq == 0 || 13 < seq || 2 ^ calUnits seq ≤ target then s.calAborted seq 12
    else
      let code := s.calPre seq units
      if code != 0 then s.calAborted seq code
      else
        let s1 : State := { (s.set CAL.STATE_BUSY 1).set CAL.STATE_SEQ seq with calTarget := target }
        if seq == 7 then
          s1.forL units fun n t => if t.isMember n then t.set RFS.STATUS_REFUSED 1 n else t.rfsCalStart n
        else s1

/-- CAL_RUN (R509): CMD written with RUN. -/
def execCalRun (_m : Master) (seq target : Nat) (s : State) : Out :=
  let s1 := (s.set CAL.CMD_SEQ seq).set CAL.CMD_TARGET target
  .next (s1.calRun (s1.get CAL.CMD_SEQ) (s1.get CAL.CMD_TARGET))

/-! ### The commit (R515, R516) -/

/-- The bytes of the working record from 16 on. -/
def State.calBody (s : State) : List Nat := (List.range 8176).map fun i => s.calByte (16 + i)

/-- The base of a calibration bank in MRAM (R516). -/
def calBase (bank : Nat) : Nat := 0x301D0000 + 0x2000 * (bank % 2)

/-- The fields that a commit fills into the working record: GEN, GUARD where a candidate has been computed, and the ageing
baselines in the model's own layout (assumption 26). -/
def State.calStamp (s : State) : State :=
  let gen := (s.get CAL.BANK_GEN + 1) % 4294967296
  let s1 := s.setCal 0x10 (toLe 4 gen)
  let s2 := if s.age.candidate then s1.setCal 0x14 (toLe 2 (s.get AGE.GUARD_CAND_GUARD)) else s1
  s2.setCal 0x4A0 (toLe 2 (s.get AGE.RO_CORE_SLOW) ++ toLe 2 (s.get AGE.RO_RADIO_SLOW) ++ toLe 2 (s.get AGE.RO_AON_SLOW) ++
    toLe 2 (s.get AGE.BG_LO) ++ toLe 2 (s.get AGE.HINT_HI) ++ toLe 2 s.age.slowAtSweep)

/-- A commit: the inactive bank written, read back, and the pointer flipped (R516). A bank whose read-back fails holds one
byte that differs, and the spec does not say which. -/
def State.calCommit (s : State) (readbackOk : Bool) : State :=
  let s1 := s.calStamp
  let bank := 1 - s.get CAL.BANK_PTR
  let body := s1.calBody
  let rec_ := tblHeader 0x80 1 body ++ body
  let s2 := s1.wrBytes (calBase bank) rec_
  if readbackOk then
    let s3 : State := { s2 with nv.calPtr := bank }
    ((((s3.set CAL.BANK_PTR bank).voteClean 6).set CAL.BANK_GEN (s1.cal16 0x10 + 65536 * s1.cal16 0x12)).set
      CAL.STATUS_COMMIT_DONE 1).bump CAL.CNT_COMMIT_COUNT CAL.STATUS_SAT
  else
    let a := calBase bank + 16 + s2.fresh.1 % 8176
    let s3 := s2.fresh.2.wr8 a (s2.rd8 a + 1)
    (((s3.set CAL.STATUS_COMMIT_FAIL 1).bump CAL.CNT_FAIL_COUNT CAL.STATUS_SAT).logHW 0x07 0 bank)

/-- CMD.COMMIT: ignored while LEW stands, waiting while a sequence runs (R516, R523). -/
def State.calCmdCommit (s : State) (readbackOk : Bool) : State :=
  if s.on PWR.STATE_LEW then s.set CAL.STATUS_CMD_ERR 1
  else if s.on CAL.STATE_BUSY then { s with age.commitWait := true }
  else s.calCommit readbackOk

/-- CAL_COMMIT (R516). -/
def execCalCommit (_m : Master) (readbackOk : Bool) (s : State) : Out := .next (s.calCmdCommit readbackOk)

/-- The results that a boot set has left differ from what the bank in force holds (R514, R515); GEN, GUARD and the baselines that
every commit fills in stand aside (assumption 59). -/
def State.calDiffers (s : State) : Bool :=
  let base := calBase (s.get CAL.BANK_PTR)
  (List.range 8192).any fun i => (decide (0x20 ≤ i) && decide (i < 0x4A0) || decide (0x500 ≤ i) || (decide (0x18 ≤ i) &&
    decide (i < 0x1C))) && s.calByte i != s.rd8 (base + i)

/-- The boot set is done: Core B commits the record where a result differs from the stored one (R514). Whether the read-back agrees is
open (assumption 3). -/
def State.calBootStore (s : State) : State :=
  if s.calDiffers then s.fresh.2.calCmdCommit (s.fresh.1 % 2 == 1) else s

/-- The sequences of a boot set still to run, each started when the one before has ended; one that aborts does not delay the others
(R514). Structural on the list. -/
def State.calBootRun (s : State) (l : List Nat) : State :=
  match l with
  | [] => if s.on CAL.STATE_BUSY then { s with age.bootSet := some [] } else ({ s with age.bootSet := none } : State).calBootStore
  | q :: r => if s.on CAL.STATE_BUSY then { s with age.bootSet := some (q :: r) } else (s.calRun q 0).calBootRun r

/-- The boot set under way goes on (R514). -/
def State.calBootGo (s : State) : State :=
  match s.age.bootSet with
  | some l => s.calBootRun l
  | none => s

/-- Core B runs the sequences of CAL_BOOT_SET in ascending order after bring-up step 7 (R514). -/
def State.calBootStart (s : State) : State :=
  ({ s with age.bootSet := some (setBits 16 (s.objNum 0x7402 0 0x297E)) } : State).calBootGo

/-- What follows the end of a sequence: a commit that waited for it, and the next sequence of a boot set (R514, R516). -/
def State.calOwed (s : State) : State :=
  (if s.age.commitWait && !s.on CAL.STATE_BUSY then ({ s with age.commitWait := false } : State).calCommit true else s).calBootGo

/-- CAL_ABORT (R512). -/
def execCalAbort (_m : Master) (s : State) : Out :=
  .next (if s.on CAL.STATE_BUSY then (s.calAbort 11).calOwed else s)

/-! ### Results (R506, R507, R515) -/

/-- A 16-bit code lies within `lo` to `hi`. -/
def inRange (lo hi : Int) (v : Nat) : Bool := decide (lo ≤ sint 16 v) && decide (sint 16 v ≤ hi)

/-- The results of one unit lie within their trims' ranges (R506, R507). -/
def calInRange (seq : Nat) (v : List Nat) : Bool :=
  let a := v.getD 0 0
  let b := v.getD 1 0
  if seq == 1 then inRange (-64) 63 a
  else if seq == 2 then inRange (-128) 127 a && inRange (-128) 127 b
  else if seq == 3 then inRange (-32) 31 a && inRange (-64) 63 b
  else if seq == 4 then inRange (-16384) 16384 a && inRange (-16384) 16384 b
  else if seq == 5 then inRange (-2048) 2047 a && inRange (-2048) 2047 b
  else if seq == 6 then
    inRange (-512) 511 a && inRange (-512) 511 b && inRange (-32) 31 (v.getD 2 0) && inRange (-64) 63 (v.getD 3 0)
  else if seq == 9 then inRange (-128) 127 a
  else if seq == 10 then decide (a < 64)
  else if seq == 11 then inRange (-128) 127 a
  else if seq == 12 then inRange (-2000) 2000 a && inRange (-18000) 18000 b
  else if seq == 13 then inRange (-512) 511 a
  else true

/-- The unit that a result belongs to: the key names a chain or synthesizer, with a band group for PA_CAL and GANG_CAL
(4 n + g), RX_MATCH and CNV_CAL (16 g + k), and a temperature bin for HINT_SWEEP (16 n + b). -/
def calUnit (seq key : Nat) : Nat :=
  if seq == 4 || seq == 5 then key % 16 else if seq == 8 then key / 16 else if seq == 9 || seq == 10 then key / 4 else key

/-- The results of one unit into the working record and the trims that its registers hold (R506, R508, R515). -/
def State.calApply (s : State) (seq key : Nat) (v : List Nat) : State :=
  let a := v.getD 0 0
  let b := v.getD 1 0
  if seq == 1 then s.setCal 0x90 (toLe 2 a)
  else if seq == 2 then
    ((s.setCal (0x20 + 2 * key) [b % 256, a % 256]).set URX.OFS_TRIM_OFS_I a key).set URX.OFS_TRIM_OFS_Q b key
  else if seq == 3 then
    ((s.setCal (0x40 + 2 * key) (toLe 2 (a % 64 + 128 * (b % 128)))).set URX.IQ_TRIM_GAIN a key).set URX.IQ_TRIM_PHASE b key
  else if seq == 4 then s.setCal (0xA0 + 64 * (key / 16) + 4 * (key % 16)) (toLe 2 a ++ toLe 2 b)
  else if seq == 5 then s.setCal (0x1A0 + 64 * (key / 16) + 4 * (key % 16)) (toLe 2 a ++ toLe 2 b)
  else if seq == 6 then s.setCal (0x60 + 8 * key) (toLe 2 a ++ toLe 2 b ++ [v.getD 2 0 % 256, v.getD 3 0 % 256])
  else if seq == 7 then if s.sst key == synCAL then (s.synthTrims key a (v.drop 1)).calRelock key else s
  else if seq == 8 then
    let n := key / 16
    let t := s.get RFS.TEMP_TEMP n
    ((s.hintUpdate n (key % 16) v).setCal (0x1500 + 2 * n) (toLe 2 t)).set RFS.TEMP_CAL_TEMP t n
  else if seq == 9 then
    let s1 := s.setCal (0x60 + 8 * (key / 4) + 6) (toLe 2 a)
    (s1.setCal (0x2A0 + 32 * key) ((v.drop 1).take 16 |>.flatMap fun x => toLe 2 x)).refreshPwr (key / 4)
  else if seq == 10 then (s.setCal (0x80 + key) [a % 256]).refreshPwr (key / 4)
  else if seq == 11 then (s.setCal 0x94 [a % 256]).set HFR.RX_CFG_THR_TRIM a
  else if seq == 12 then s.setCal 0x96 (toLe 2 a ++ toLe 2 b)
  else if seq == 13 then s.setCal 0x92 (toLe 2 a)
  else s

/-- A hint sweep restarts what makes the next one due (R521). -/
def State.sweepDone (s : State) (seq : Nat) : State :=
  if seq == 8 then { s.set AGE.HINT_HI 0 with age.slowAtSweep := s.get AGE.RO_RADIO_SLOW } else s

/-- Units as a mask in the layout of TARGET. -/
def unitMask (l : List Nat) : Nat := l.foldl (fun a u => a.lor (2 ^ u)) 0

/-- A running sequence ends: `code` is 0 with its results per unit, or says what the measurement found, RANGE or UNSTABLE (R505,
R507, R513). A precondition that has failed aborts it (R510); the other codes are no measurement's, and change nothing. -/
def State.calEnd (s : State) (code : Nat) (res : List (Nat × List Nat)) : State :=
  let seq := s.get CAL.STATE_SEQ
  let named := s.calNamed seq s.calTarget
  let pre := s.calPre seq named
  let mine := res.filter fun r => calUnits seq == 0 || named.contains (calUnit seq r.1)
  if pre != 0 then s.calAbort pre
  else if code == 8 || code == 9 then s.calAbort code
  else if code != 0 then s
  else if !mine.all fun r => calInRange seq r.2 then s.calAbort 8
  else ((s.forL mine fun r t => t.calApply seq r.1 r.2).sweepDone seq).calFinished seq
    (unitMask ((mine.map fun r => calUnit seq r.1).filter fun u => named.contains u))

/-- CAL_SEQUENCE_END (R505). -/
def execCalSequenceEnd (code : Nat) (res : List (Nat × List Nat)) (s : State) : Out :=
  .next (if s.on CAL.STATE_BUSY then (s.calEnd code res).calOwed else s)

/-- The preconditions checked while a sequence runs (R510); between sequences a boot set goes on (R514). -/
def State.calWatch (s : State) : State :=
  if s.on CAL.STATE_BUSY then
    let seq := s.get CAL.STATE_SEQ
    let pre := s.calPre seq (s.calNamed seq s.calTarget)
    if pre != 0 then (s.calAbort pre).calOwed else s
  else s.calBootGo

/-! ### Ageing (R518 to R522) -/

/-- VBASE of the device, 780 mV to 820 mV (R519). -/
def vbaseMv : Nat := 780 + Config.vbase % 41

/-- VTARGET for a slowdown in 0.01 % units (R519). -/
def vTarget (slow : Nat) : Nat := min 880 ((100 * vbaseMv + 4 * slow + 499) / 500 * 5)

/-- A raised target of the 0.8 V rail applied, and the core margin (R519). -/
def State.vcore (s : State) (slow : Nat) : State :=
  let v := if s.on AGE.CTRL_AVS_EN then max (s.get AGE.VCORE_VTARGET) (vTarget slow) else s.get AGE.VCORE_VTARGET
  let pct := marginPct (880 - (v : Int)) (880 - (vbaseMv : Int))
  ((s.set AGE.VCORE_VTARGET v).set AGE.MARGIN0_A pct).margin 0 pct

/-- AGE_RO_MEASURE (R518, R519, R521): slowdowns in 0.01 % units. -/
def execAgeRoMeasure (core radio aon : Nat) (s : State) : Out :=
  if s.bit AGE.CTRL_EN 0 then
    let s1 := ((s.set AGE.RO_CORE_SLOW core).set AGE.RO_RADIO_SLOW radio).set AGE.RO_AON_SLOW aon
    let s2 := s1.vcore (max (s1.get AGE.RO_CORE_SLOW) (s1.get AGE.RO_RADIO_SLOW))
    let d : Int := (s1.get AGE.RO_RADIO_SLOW : Int) - s.age.slowAtSweep
    .next (if 50 ≤ d.natAbs then s2.set AGE.STATUS_DUE_HINT 1 else s2)
  else .next s

/-- Sum, and sum of squares times count less the square of the sum, of samples in Q8.8. -/
def driftSums (l : List (Nat × Nat)) : Int × Nat :=
  let x := l.map fun e => sint 16 e.2
  let sum := x.foldl (· + ·) 0
  let sq := x.foldl (fun a b => a + b * b) 0
  (sum, ((l.length : Int) * sq - sum * sum).toNat)

/-- Whether `c` / 256 dB is at least the guard candidate of one chain and group with a band-gap drift of `bg` µV (R520). σ is
the standard deviation of the samples themselves (assumption 27). -/
def guardCovers (l : List (Nat × Nat)) (bg c : Nat) : Bool :=
  let d := driftSums l
  let lhs : Int := (c * l.length * 1250 : Nat) - (1250 * d.1.natAbs + 16 * bg * l.length : Nat)
  decide (0 ≤ lhs) && decide ((6250000 * d.2 : Nat) ≤ lhs * lhs)

/-- The guard candidate of R520 from the chains and groups with at least 256 samples. -/
def State.guardCand (s : State) : State :=
  let full := s.age.pa.filter fun e => decide (256 ≤ e.2.length)
  if full == [] then s
  else
    let bg := (sint 16 (s.get AGE.BG_LO)).natAbs
    let c := ((List.range 769).find? fun c => full.all fun e => guardCovers e.2 bg c).getD 768
    let s1 : State := { s.set AGE.GUARD_CAND_GUARD c with age.candidate := true }
    let s2 := if s.get RGE.GUARD_GUARD < c then (s1.guardUp c).set AGE.STATUS_GUARD_UP 1 else s1
    let pct := marginPct (768 - (c : Int)) 768
    (s2.set AGE.MARGIN0_B pct).margin 1 pct

/-- AGE_PA_SAMPLE (R91, R518, R520): FWD of a chain in CW after its ramp, in Q8.8 dBm, as the chain's register then shows it. -/
def execAgePaSample (n fwd : Nat) (s : State) : Out :=
  if s.bit AGE.CTRL_EN 1 && s.ust n == txCW && s.carrier n && !s.on UTX.STATE_RAMP n then
    let x := unsignedOf 16 (sint 16 fwd - sint 16 (s.get UTX.FWD_EXPECT n))
    let k := 4 * n + s.get UTX.PWR_GROUP n
    let l := ((s.now, x) :: Tab.get [] s.age.pa k).filter fun e => decide (s.now ≤ e.1 + dayTicks)
    .next ({ s.set UTX.FWD_FWD fwd n with age.pa := Tab.set [] s.age.pa k l } : State).guardCand
  else .next s

/-- AGE_BG_MEASURE (R518, R520, R521): the band-gap drift in µV, signed. -/
def execAgeBgMeasure (drift : Nat) (s : State) : Out :=
  if s.bit AGE.CTRL_EN 2 then
    let pct := marginPct (6000 - ((sint 16 drift).natAbs : Int)) 6000
    .next (((s.set AGE.BG_LO drift).guardCand.set AGE.MARGIN0_C pct).margin 2 pct)
  else .next s

/-- The scrub interval in days for a sense window in 0.1 mV (R521). -/
def scrubDays (w : Nat) : Nat := if 400 ≤ w then 30 else if 250 ≤ w then 7 else 1

/-- AGE_MRAM_MEASURE (R518, R521): the sense window in 0.1 mV. -/
def execAgeMramMeasure (w : Nat) (s : State) : Out :=
  if s.bit AGE.CTRL_EN 3 then
    let pct := marginPct ((w : Int) - 150) ((Config.mramW0 : Int) - 150)
    .next ((((s.set AGE.MRAM_LO w).set AGE.MRAM_HI (scrubDays w)).set AGE.MARGIN1_A pct).margin 3 pct)
  else .next s

/-- DUE_HINT (R521, R522): HINT_SWEEP_DAYS have passed since the last sweep. -/
def execDueHint (s : State) : Out :=
  .next ((s.set AGE.HINT_HI (s.objNum 0x7504 0 30)).set AGE.STATUS_DUE_HINT 1)

/-- DUE_SCRUB (R522). -/
def execDueScrub (s : State) : Out := .next (s.set AGE.STATUS_DUE_SCRUB 1)

end Sys2Proof.Machine
end

