-- ==== Sys2Proof/Machine/Mpt.lean ====
section
/-! DEFINITION. The Memory Port: indirect commands, auto-poll, execute-in-place with its line cache, and region decryption
(R354 to R366). What the memory on a select answers is an operand. -/

namespace Sys2Proof.Machine

open Sys2Proof

/-- MPT's own state changed. -/
def State.updMpt (s : State) (g : Mpt → Mpt) : State := { s with mpt := g s.mpt }

/-- Region `r` (R364). -/
def State.region (s : State) (r : Nat) : MptRegion := Tab.get {} s.mpt.regions r

/-- Region `r` replaced. -/
def State.setRegion (s : State) (r : Nat) (g : MptRegion) : State :=
  s.updMpt fun m => { m with regions := Tab.set {} m.regions r g }

def MptRegion.en (g : MptRegion) : Bool := bitOf g.cfg 31
def MptRegion.sel (g : MptRegion) : Nat := bits g.cfg 29 28
def MptRegion.slot (g : MptRegion) : Nat := g.cfg % 256
def MptRegion.first (g : MptRegion) : Nat := g.start / 4096 * 4096

/-- The first offset past a region. -/
def MptRegion.stop (g : MptRegion) : Nat := (g.last / 4096 + 1) * 4096

/-- The key of a region (R364, R496): the key slot's bytes; slots 16 and above are empty. -/
def State.regionKey (s : State) (g : MptRegion) : List Nat :=
  if g.slot < 16 then s.obj 0x0136 (g.slot + 1) [] else []

/-- The enabled regions of a select that the `len` bytes from offset `a` touch. -/
def State.touched (s : State) (sel a len : Nat) : List MptRegion :=
  ((List.range 8).map s.region).filter fun g => g.en && g.sel == sel && decide (a < g.stop) && decide (g.first < a + len)

/-- The counter block of the 16-byte block at select offset `a` (R365). -/
def ctrBlock (nonce sel a : Nat) : List Nat := toBe 8 nonce ++ toBe 8 (sel % 4 * 2 ^ 62 + a / 16 % 2 ^ 28)

/-- Bytes from select offset `a` through a region's AES-CTR, both ways alike (R365). -/
def State.regionCrypt (s : State) (g : MptRegion) (a : Nat) (b : List Nat) : List Nat :=
  let key := s.regionKey g
  let ks := (List.range ((b.length + 15) / 16)).flatMap fun k => aesEnc key (ctrBlock g.nonce g.sel (a + 16 * k))
  xorBytes b ks

/-- Bytes read or written at select offset `a` as the other side of the regions sees them. -/
def State.throughRegions (s : State) (sel a : Nat) (b : List Nat) : List Nat :=
  match s.touched sel a b.length with
  | g :: _ => s.regionCrypt g a b
  | [] => b

/-- MPT CMD_ERR. -/
def State.mptCmdErr (s : State) : State := s.set MPT.STATUS_CMD_ERR 1

/-- An error of the port: LAST_ERR, ERR, the offset and select, counted. -/
def State.mptErr (s : State) (code sel off : Nat) : State :=
  (((((s.set MPT.STATE_LAST_ERR code).set MPT.STATUS_ERR 1).set MPT.ERR_ADDR_ADDR off).set MPT.STATE_CUR_SEL sel).bump
    MPT.CNT_ERR_COUNT MPT.STATUS_SAT)

/-- The line cache invalidated completely (R363). -/
def State.cacheInv (s : State) : State := s.updMpt fun m => { m with cache := [] }

/-- The lines that overlap `len` bytes from offset `a` of a select invalidated; with no data, the line that holds `a`
(R363, assumption 28). -/
def State.cacheDrop (s : State) (sel a len : Nat) : State :=
  let gone := fun (c : CacheLine) => c.sel == sel && decide (a / 64 ≤ c.line) && decide (64 * c.line < a + max 1 len)
  s.updMpt fun m => { m with cache := (m.cache.map fun e => (e.1, e.2.filter fun c => !gone c)).filter fun e => e.2 != [] }

/-- The words of the registers that stand for the addressed region (R364). -/
def State.mptView (s : State) (a : Nat) : Option Nat :=
  let g := s.region (s.get MPT.RSEL_REGION)
  ((MPT.RCFG_EN.inst a).map fun _ => g.cfg) <|>
  ((MPT.RSTART_PAGE.inst a).map fun _ => g.start) <|>
  ((MPT.REND_PAGE.inst a).map fun _ => g.last) <|>
  ((MPT.RNONCE_LO_NONCE.inst a).map fun _ => g.nonce % 4294967296) <|>
  ((MPT.RNONCE_HI_NONCE.inst a).map fun _ => g.nonce / 4294967296)

/-! ### Line fills (R356, R362, R363) -/

/-- The select and offset that an XIP address maps to. -/
def State.xipMap (s : State) (a : Nat) : Nat × Nat :=
  let n := (a - 0x80000000) / 0x20000000
  (s.get MPT.XWIN_SEL n, s.get MPT.XWIN_OFFSET n * 65536 + a % 0x20000000)

/-- The lanes of a code of SELn_CFG and IND_FMT: one, two, four or eight (R355). -/
def laneCount (c : Nat) : Nat := 2 ^ (c % 4)

/-- What every transaction of a select takes from it: opcode and address bytes, strobe and clock (R355). -/
def State.selTxn (s : State) (sel op : Nat) : MptTxn :=
  let two := s.on MPT.SEL_CFG_CMD16 sel
  { sel := sel, op := if two then op else op % 256, opBytes := if two then 2 else 1,
    dqs := s.on MPT.SEL_CFG_DQS sel, div := s.get MPT.SEL_CFG_DIV sel + 1 }

/-- A transaction with an address phase: an offset in the select's 3 or 4 bytes, of three the low 24 bits (R355, assumption 58). -/
def State.withAddr (s : State) (t : MptTxn) (a : Nat) : MptTxn :=
  let n := if s.on MPT.SEL_CFG_ADDR4 t.sel then 4 else 3
  { t with addr := a % 256 ^ n, addrBytes := n }

/-- The transaction of a line fill: the select's XRD and DUMMY_RD with its lanes and rate, from the fetched word on (R362,
R363). -/
def State.fillTxn (s : State) (sel off : Nat) : MptTxn :=
  let t := s.withAddr (s.selTxn sel (s.get MPT.SEL_XRD_XRD sel)) (off / 4 * 4)
  { t with
    fill := true, dummy := s.get MPT.SEL_XRD_DUMMY_RD sel, len := 64, ddr := s.on MPT.SEL_CFG_DDR sel
    lanes := [laneCount (s.get MPT.SEL_CFG_CMD_LANES sel), laneCount (s.get MPT.SEL_CFG_ADDR_LANES sel),
      laneCount (s.get MPT.SEL_CFG_DATA_LANES sel)] }

/-- The lanes and rate of the command in hand (R358). -/
def State.indLanes (s : State) (t : MptTxn) : MptTxn :=
  { t with
    ddr := s.on MPT.IND_FMT_DDR
    lanes := [laneCount (s.get MPT.IND_FMT_CMD_LANES), laneCount (s.get MPT.IND_FMT_ADDR_LANES),
      laneCount (s.get MPT.IND_FMT_DATA_LANES)] }

/-- The transaction of the indirect command in hand: the opcode, the address if ADDR = 1, DUMMY cycles, then LEN bytes (R358). -/
def State.indTxn (s : State) : MptTxn :=
  let sel := s.get MPT.IND_CMD_SEL
  let t := s.indLanes (s.selTxn sel (s.get MPT.IND_OP_OP))
  let u := if s.on MPT.IND_CMD_ADDR then s.withAddr t (s.get MPT.IND_ADDR_ADDR) else t
  { u with dummy := s.get MPT.IND_FMT_DUMMY, len := min 256 (s.get MPT.IND_FMT_LEN), write := s.on MPT.IND_CMD_WRITE }

/-- The transaction of a status read under auto-poll: POLL_CFG.OP with one data byte, on the command's lanes (R360). -/
def State.pollTxn (s : State) : MptTxn :=
  { s.indLanes (s.selTxn (s.get MPT.IND_CMD_SEL) (s.get MPT.POLL_CFG_OP)) with len := 1 }

/-- A transaction begins: its select shows in CUR_SEL, a line fill in XFILL. -/
def State.txnBegin (s : State) (t : MptTxn) : State :=
  ((s.set MPT.STATE_CUR_SEL t.sel).set MPT.STATE_XFILL (b2n t.fill)).updMpt fun m => { m with txn := some t, last := t }

/-- The transaction in progress ends. -/
def State.txnEnd (s : State) : State := (s.set MPT.STATE_XFILL 0).updMpt fun m => { m with txn := none }

/-- The next transaction where none is in progress: a waiting line fill ahead of a waiting indirect command (R356). -/
def State.txnNext (s : State) : State :=
  if s.mpt.txn != none then s
  else match s.mpt.fills with
  | f :: _ => let p := s.xipMap f.2
    s.txnBegin (s.fillTxn p.1 p.2)
  | [] => if s.on MPT.STATE_BUSY && !s.mpt.dataDone then s.txnBegin s.indTxn else s

/-- The transaction in progress is a line fill. -/
def State.onFill (s : State) : Bool := s.mpt.txn.any fun t => t.fill

/-- The transaction in progress is that of the indirect command. -/
def State.onInd (s : State) : Bool := s.mpt.txn.any fun t => !t.fill

/-- The level of MP_RESET_N (R355). -/
def State.mpResetN (s : State) : Bool := s.on MPT.CTRL_RSTN

/-- A line as the most recently used of its set of four (R363). -/
def State.cachePut (s : State) (c : CacheLine) : State :=
  let k := c.line % 256
  let old := (Tab.get [] s.mpt.cache k).filter fun d => !(d.sel == c.sel && d.line == c.line)
  s.updMpt fun m => { m with cache := Tab.set [] m.cache k ((c :: old).take 4) }

/-- The word at an offset of a line. -/
def lineWord (b : List Nat) (off : Nat) : Nat := le32 b (off % 64 / 4 * 4)

/-- An XIP access that ends in a bus error of the fetching master (R19, R361, R362). -/
def State.xipFail (s : State) (m : Master) (a : Nat) : State :=
  ((s.busError a (masterNum m) false false).respond 0 true)

/-- A read through the XIP window by a master that may make it (R22, R361, R362, R363). -/
def State.xipRead (s : State) (m : Master) (a : Nat) : State :=
  let n := (a - 0x80000000) / 0x20000000
  let p := s.xipMap a
  if !s.on MPT.CTRL_EN || !s.on MPT.CTRL_XIP_EN || !s.on MPT.XWIN_EN n || 2 ^ s.get MPT.SEL_CFG_SIZE p.1 ≤ p.2 then
    (s.mptErr 8 p.1 p.2).xipFail m a
  else if s.bit MPT.STATE_POLLING p.1 then (s.mptErr 3 p.1 p.2).xipFail m a
  else
    let hit := (Tab.get [] s.mpt.cache (p.2 / 64 % 256)).find? fun c => c.sel == p.1 && c.line == p.2 / 64
    match hit with
    | some c =>
      if s.on MPT.CTRL_CACHE_EN then
        ((s.cachePut c).bump MPT.CNT_HIT_COUNT MPT.STATUS_SAT).respond (lineWord c.data p.2) false
      else (s.updMpt fun m' => { m' with fills := m'.fills ++ [(masterNum m, a)] }).txnNext
    | none => (s.updMpt fun m' => { m' with fills := m'.fills ++ [(masterNum m, a)] }).txnNext

/-- XIP_FETCH (R22, R362): a read of a word by a core; the Host Link bridge has no access, a sequencer no path. -/
def execXipFetch (m : Master) (addr : Nat) (s : State) : Out :=
  if addr < 0x80000000 || 0x100000000 ≤ addr || addr % 4 != 0 then .next (s.xipFail m addr)
  else match m with
    | .seq _ => .next s
    | .hostLink => .next ((s.busError addr 3 false true).respond 0 true)
    | _ => .next (s.xipRead m addr)

/-- XIP_FILL_DONE (R363, R365): the line is decrypted where a region covers it, kept, and the fetch answered. -/
def execXipFillDone (line : List Nat) (s : State) : Out :=
  match s.mpt.fills with
  | f :: r =>
    if s.onFill then
      let p := s.xipMap f.2
      let b := s.throughRegions p.1 (p.2 / 64 * 64) ((padTo 64 line).map (· % 256))
      let s1 := ((s.updMpt fun m => { m with fills := r }).txnEnd.bump MPT.CNT_FILL_COUNT
        MPT.STATUS_SAT).respond (lineWord b p.2) false
      let s2 := if s.on MPT.CTRL_CACHE_EN then s1.cachePut { sel := p.1, line := p.2 / 64, data := b } else s1
      .next s2.txnNext
    else .next s
  | [] => .next s

/-- CACHE_INV (R363). -/
def execCacheInv (_m : Master) (s : State) : Out := .next s.cacheInv

/-- XWINn written (R363). -/
def State.xwinWrite (s : State) (n v : Nat) : State :=
  (((s.set MPT.XWIN_EN (bits v 31 31) n).set MPT.XWIN_SEL (bits v 17 16) n).set MPT.XWIN_OFFSET v n).cacheInv

/-- XWIN_WRITE (R363). -/
def execXwinWrite (_m : Master) (n v : Nat) (s : State) : Out := .next (s.xwinWrite (n % 4) v)

/-! ### Indirect commands (R358 to R360) -/

/-- Byte `i` of IBUF. -/
def State.ibuf (s : State) (i : Nat) : Nat := s.get MPT.IBUF_DATA (i / 4) / 256 ^ (i % 4) % 256

/-- The bytes of IBUF from its start. -/
def State.ibufBytes (s : State) (n : Nat) : List Nat := (List.range n).map s.ibuf

/-- Bytes into IBUF from its start. -/
def State.ibufPut (s : State) (b : List Nat) : State :=
  let all := b ++ (List.range (256 - b.length)).map fun i => s.ibuf (b.length + i)
  s.forN 64 fun w t => t.set MPT.IBUF_DATA (le32 all (4 * w)) w

/-- The data length of the command in hand. -/
def State.indLen (s : State) : Nat := min 256 (s.get MPT.IND_FMT_LEN)

/-- The offset of the command in hand, where it has an address phase. -/
def State.indAddr (s : State) : Option Nat := if s.on MPT.IND_CMD_ADDR then some (s.get MPT.IND_ADDR_ADDR) else none

/-- The command touches a region and is not aligned to it (R365). -/
def State.indMisaligned (s : State) : Bool :=
  match s.indAddr with
  | some a =>
    (s.touched (s.get MPT.IND_CMD_SEL) a s.indLen).any fun g =>
      a % 16 != 0 || s.indLen % 16 != 0 || decide (a < g.first) || decide (g.stop < a + s.indLen)
  | none => false

/-- IND_CMD written: GO starts a command, refused while one is in progress and where a region forbids it (R358, R359, R365). -/
def State.indCmd (s : State) (v : Nat) : State :=
  if bitOf v 31 && (s.on MPT.STATE_BUSY || !s.on MPT.CTRL_EN) then s.mptCmdErr
  else
    let s1 := (((s.set MPT.IND_CMD_WRITE (bits v 30 30)).set MPT.IND_CMD_POLL (bits v 29 29)).set MPT.IND_CMD_ADDR
      (bits v 28 28)).set MPT.IND_CMD_SEL (bits v 27 26)
    let sel := s1.get MPT.IND_CMD_SEL
    if !bitOf v 31 then s1
    else if s1.indMisaligned then s1.mptErr 4 sel (s1.get MPT.IND_ADDR_ADDR)
    else
      let data := s1.ibufBytes s1.indLen
      let sent := match s1.indAddr with
        | some a => s1.throughRegions sel a data
        | none => data
      (((s1.set MPT.STATE_BUSY 1).bump MPT.CNT_IND_COUNT MPT.STATUS_SAT).updMpt fun m =>
        { m with dataDone := false, out := if bitOf v 30 then sent else [] }).txnNext

/-- IND_GO (R358): IND_CMD written with GO. -/
def execIndGo (_m : Master) (v : Nat) (s : State) : Out := .next (s.indCmd (if bitOf v 31 then v else v + 2147483648))

/-- The command in progress is over. -/
def State.indIdle (s : State) : State :=
  ((s.set MPT.STATE_BUSY 0).set MPT.STATE_POLLING 0).updMpt fun m => { m with dataDone := false }

/-- The data phase ends: data read lands in IBUF, lines written over are invalidated; DONE, or the poll begins (R358, R360,
R363, R365). -/
def State.indData (s : State) (data : List Nat) : State :=
  let sel := s.get MPT.IND_CMD_SEL
  let b := (padTo s.indLen data).map (· % 256)
  let s1 :=
    if s.on MPT.IND_CMD_WRITE then
      match s.indAddr with
      | some a => s.cacheDrop sel a s.indLen
      | none => s
    else match s.indAddr with
      | some a => s.ibufPut (s.throughRegions sel a b)
      | none => s.ibufPut b
  if s.on MPT.IND_CMD_POLL then (s1.setBit MPT.STATE_POLLING sel true).updMpt fun m => { m with dataDone := true }
  else s1.indIdle.set MPT.STATUS_DONE 1

/-- IND_DONE (R358). -/
def execIndDone (data : List Nat) (s : State) : Out :=
  if s.onInd then .next (s.txnEnd.indData data).txnNext else .next s

/-- POLL_READ (R356, R360): a status read, in no other transaction. -/
def execPollRead (status : Nat) (s : State) : Out :=
  if s.on MPT.STATE_BUSY && s.mpt.dataDone && s.mpt.txn == none then
    let s1 := (s.updMpt fun m => { m with last := s.pollTxn }).set MPT.STATE_CUR_SEL (s.get MPT.IND_CMD_SEL)
    .next (if (status % 256).land (s.get MPT.POLL_CFG_MASK) == s.get MPT.POLL_CFG_MATCH then s1.indIdle.set MPT.STATUS_DONE 1
      else s1)
  else .next s

/-- The command in progress ends with a time-out. -/
def State.indTimeout (s : State) (code : Nat) : State :=
  ((s.mptErr code (s.get MPT.IND_CMD_SEL) (s.get MPT.IND_ADDR_ADDR)).set MPT.STATUS_TMO 1).indIdle

/-- POLL_TIMEOUT (R360). -/
def execPollTimeout (s : State) : Out :=
  .next (if s.on MPT.STATE_BUSY && s.mpt.dataDone then s.indTimeout 2 else s)

/-- The master with a number of `masterNum`, among the cores. -/
def coreOf (k : Nat) : Master := if k == 0 then .coreA else if k == 1 then .coreB else .coreP

/-- The Granary engine stops on an error: STATE ERROR, ENGINE_ERR, an entry of ring A (R379, R533). -/
def State.grnStop (s : State) (code : Nat) : State :=
  (((s.set GRN.STATE_STATE 5).set GRN.STATE_ERR code).set GRN.STATUS_ENGINE_ERR 1).logA 0x41 0 code

/-- The Granary engine works: RUN or COMMIT. -/
def State.grnBusy (s : State) : Bool := s.get GRN.STATE_STATE == 2 || s.get GRN.STATE_STATE == 4

/-- TXN_TIMEOUT (R357): a fill that overruns gives its master a bus error; a command that overruns ends; with neither in
progress the transaction is the Granary engine's, which stops (R379). -/
def execTxnTimeout (s : State) : Out :=
  if s.onFill then
    match s.mpt.fills with
    | f :: r =>
      let p := s.xipMap f.2
      let s1 := ((s.updMpt fun m => { m with fills := r }).txnEnd.mptErr 1 p.1 p.2).set MPT.STATUS_TMO 1
      .next (((s1.logHW 0x09 p.1 1).xipFail (coreOf f.1) f.2).txnNext)
    | [] => .next s
  else if s.on MPT.STATE_BUSY then .next ((s.logHW 0x09 (s.get MPT.IND_CMD_SEL) 1).txnEnd.indTimeout 1).txnNext
  else if s.grnBusy then
    let sel := s.get GRN.AREA_SEL
    .next (((((s.logHW 0x09 sel 1).set MPT.STATE_LAST_ERR 1).set MPT.STATUS_TMO 1).bump MPT.CNT_ERR_COUNT
      MPT.STATUS_SAT).grnStop 2)
  else .next s

/-- IBUF written in the lanes reached; ignored while a command runs (R359, R437). -/
def State.ibufWrite (s : State) (off width v : Nat) : State :=
  if s.on MPT.STATE_BUSY then s.mptCmdErr
  else
    let w := off / 4 % 64
    let o := off % 4
    let old := s.get MPT.IBUF_DATA w
    s.set MPT.IBUF_DATA (ofLe (patch (toLe 4 old) o (toLe (min width (4 - o)) v))) w

/-- IBUF_WRITE (R359). -/
def execIbufWrite (_m : Master) (addr width v : Nat) (s : State) : Out := .next (s.ibufWrite (addr % 256) width v)

/-! ### Regions (R364) -/

/-- Why RCFG.EN = 1 is refused: a LAST_ERR code, or 0. -/
def State.regionRefuse (s : State) (r : Nat) (g : MptRegion) : Nat :=
  let others := ((List.range 8).filter fun k => k != r).map s.region
  if others.any fun h => h.en && h.sel == g.sel && decide (g.first < h.stop) && decide (h.first < g.stop) then 5
  else if g.last / 4096 < g.start / 4096 || 2 ^ s.get MPT.SEL_CFG_SIZE g.sel < g.stop then 6
  else if (s.regionKey g).length != (if bitOf g.cfg 30 then 32 else 16) then 7
  else 0

/-- RCFG of region `r` written, its reserved bits 27 to 8 dropped (R9, R363, R364). -/
def State.rcfgWrite (s : State) (r v : Nat) : State :=
  let old := s.region r
  let new := { old with cfg := bits v 31 28 * 2 ^ 28 + v % 256 }
  if old.en && new.en then s.mptCmdErr
  else if old.en then (s.setRegion r new).cacheInv
  else if new.en then
    let code := s.regionRefuse r new
    if code == 0 then (s.setRegion r new).cacheInv else (s.set MPT.STATE_LAST_ERR code).mptCmdErr
  else s.setRegion r new

/-- RCFG_WRITE (R364): the region that RSEL addresses. -/
def execRcfgWrite (_m : Master) (v : Nat) (s : State) : Out := .next (s.rcfgWrite (s.get MPT.RSEL_REGION) v)

/-- RSTART, REND or RNONCE of the addressed region written: ignored while it is enabled (R364). -/
def State.regionWrite (s : State) (g : MptRegion → MptRegion) : State :=
  let r := s.get MPT.RSEL_REGION
  if (s.region r).en then s.mptCmdErr else s.setRegion r (g (s.region r))

end Sys2Proof.Machine
end

