-- ==== Sys2Proof/Machine/GrnOps.lean ====
section
/-! DEFINITION. The Granary's index, journal, notifications and superblocks as operations (R367 to R378). The engine reaches
the memory on its select through the Memory Port's regions (R354, R365) and system SRAM by DMA (R22). -/

namespace Sys2Proof.Machine

open Sys2Proof

/-- The Granary engine's own state changed. -/
def State.updGrn (s : State) (g : Grn → Grn) : State := { s with grn := g s.grn }

/-! ### External memory and system SRAM -/

/-- Bytes of the memory on a select as the engine reads them. -/
def State.extRead (s : State) (sel off n : Nat) : List Nat :=
  s.throughRegions sel off ((List.range n).map fun i => Tab.get 0 s.mpt.ext (sel * 4294967296 + off + i))

/-- Bytes stored on a select. -/
def extPut (t : Tab Nat) (k : Nat) (b : List Nat) : Tab Nat :=
  match b with
  | [] => t
  | x :: r => extPut (Tab.set 0 t k x) (k + 1) r

/-- Bytes written by the engine; the lines that they overlap are invalidated (R363). -/
def State.extWrite (s : State) (sel off : Nat) (b : List Nat) : State :=
  let c := s.throughRegions sel off b
  (s.updMpt fun m => { m with ext := extPut m.ext (sel * 4294967296 + off) c }).cacheDrop sel off b.length

/-- `n` bytes from an offset made zero. -/
def State.extZero (s : State) (sel off n : Nat) : State :=
  if s.touched sel off n == [] then
    let lo := sel * 4294967296 + off
    (s.updMpt fun m => { m with ext := Tab.clear (fun k => decide (lo ≤ k) && decide (k < lo + n)) m.ext }).cacheDrop sel off n
  else s.extWrite sel off (List.replicate n 0)

/-- Words of four bytes written by the Granary DMA from an address on: to system SRAM at once, to the registers of MPT and GRN as
accesses that wait for the next bus cycle (R22, assumption 46); elsewhere a bus error, which stops the engine and with it the port
(R19).
Whether the port goes on stands first. Structural on the list. -/
def State.grnDma (s : State) (a : Nat) (w : List (List Nat)) : Bool × State :=
  match w with
  | [] => (true, s)
  | b :: r =>
    if s.get GRN.STATE_STATE == 5 then (false, s)
    else if !mapOk colGRN a true then (false, (s.mapError colGRN a true).grnStop (s.get GRN.STATE_ERR))
    else if mapRow a == some 1 then (s.wrBytes a b).grnDma (a + 4) r
    else (s.updGrn fun g => { g with dma := g.dma ++ [(a - a % 4, ofLe b)] }).grnDma (a + 4) r

/-- A byte list in words of four. -/
def words4 (b : List Nat) : List (List Nat) := (List.range ((b.length + 3) / 4)).map fun k => slice b (4 * k) 4

/-- The first word among `n` from an address that the Granary DMA may not read. -/
def dmaBar (a n : Nat) : Option Nat := ((List.range n).map fun k => a + 4 * k).find? fun x => !mapOk colGRN x false

/-- A word as the Granary DMA reads it: of system SRAM, or of a register of MPT or GRN (R22). -/
def State.dmaWord (s : State) (a : Nat) : Nat :=
  match blockAt a with
  | some b => ((s.mptView (b.decode (a - a % 4))).getD (s.wordOf (b.at (b.decode (a - a % 4))))) % 4294967296
  | none => s.rd32 a

/-- Bytes that the Granary DMA reads, where it may read them all. -/
def State.dmaRead (s : State) (a n : Nat) : List Nat :=
  (List.range (n / 4)).flatMap fun k => toLe 4 (s.dmaWord (a + 4 * k))

/-! ### Geometry (R367) -/

/-- The select of the area. -/
def State.grnSel (s : State) : Nat := s.get GRN.AREA_SEL

/-- The offset of the area on its select. -/
def State.grnBase (s : State) : Nat := s.get GRN.AREA_BASE * 65536

/-- The number of index slots. -/
def State.grnSlots (s : State) : Nat := 2 ^ s.get GRN.GEOM_IDX_LOG2

/-- The offset of an index slot. -/
def State.slotOff (s : State) (h : Nat) : Nat := s.grnBase + 0x10000 + 64 * h

/-- The offset of the journal. -/
def State.jrnOff (s : State) : Nat := s.slotOff s.grnSlots

/-- The area runs past the select, or has fewer than 16 journal blocks. -/
def State.geomBad (s : State) : Bool :=
  decide (2 ^ s.get MPT.SEL_CFG_SIZE s.grnSel < s.jrnOff + 4096 * s.get GRN.GEOM_JBLOCKS) || decide (s.get GRN.GEOM_JBLOCKS < 16)

/-- The journal key (object 0x6019). -/
def State.journalKey (s : State) : List Nat := s.obj 0x6019 0 []

/-- A write of CTRL.EN: 1 is refused with GEOM or KEY_EMPTY; in force the engine folds, or pauses (R367, object 0x6019). -/
def State.grnEnable (s : State) (en : Bool) : State :=
  if !en then (s.set GRN.CTRL_EN 0).set GRN.STATE_STATE 0
  else if s.on GRN.CTRL_EN then s
  else if s.geomBad then s.set GRN.STATE_ERR 1
  else if s.journalKey.length != 16 then s.set GRN.STATE_ERR 4
  else ((s.set GRN.CTRL_EN 1).set GRN.STATE_ERR 0).set GRN.STATE_STATE (if s.on GRN.CTRL_PAUSE then 3 else 2)

/-- CTRL.PAUSE takes effect at a record boundary. -/
def State.grnPause (s : State) : State :=
  let st := s.get GRN.STATE_STATE
  if st == 2 || st == 3 then s.set GRN.STATE_STATE (if s.on GRN.CTRL_PAUSE then 3 else 2) else s

/-! ### Index entries (R368) -/

/-- The entry in a slot. -/
def State.entry (s : State) (h : Nat) : List Nat := s.extRead s.grnSel (s.slotOff h) 64

/-- An entry written with its CRC. -/
def State.entryPut (s : State) (h : Nat) (e : List Nat) : State :=
  let b := padTo 60 e
  s.extWrite s.grnSel (s.slotOff h) (b ++ toLe 4 (crc32c b))

def enUSED (e : List Nat) : Bool := bitOf (byteAt e 5) 0
def enPRESENT (e : List Nat) : Bool := bitOf (byteAt e 5) 1
def enBADGE (e : List Nat) : Bool := bitOf (byteAt e 5) 2
def enWATCH (e : List Nat) : Bool := bitOf (byteAt e 5) 3

/-- An EFLAGS bit of an entry made `b`. -/
def enFlag (e : List Nat) (k : Nat) (b : Bool) : List Nat := patch e 5 [putBit (byteAt e 5) k b]

/-- The slots probed for a key: 16 at most. -/
def State.probe (s : State) (key : Nat) : List Nat :=
  (List.range (min 16 s.grnSlots)).map fun i => (key + i) % s.grnSlots

/-- The slot that holds an identity: KEY, IDLEN and ID agree. -/
def State.grnFind (s : State) (id : List Nat) : Option Nat :=
  let key := crc32c id
  (s.probe key).find? fun h =>
    let e := s.entry h
    enUSED e && le32 e 0 == key && byteAt e 4 == id.length % 256 && slice e 24 32 == padTo 32 id

/-- The slot for a new identity: the first unused one, else the one with PRESENT = 0 and the oldest LAST_CYCLE (R369). -/
def State.grnRoom (s : State) (id : List Nat) : Option Nat :=
  let p := s.probe (crc32c id)
  match p.find? fun h => !enUSED (s.entry h) with
  | some h => some h
  | none =>
    (p.filter fun h => !enPRESENT (s.entry h)).foldl (fun a h =>
      match a with
      | none => some h
      | some g => if cycAfter (le32 (s.entry g) 12) (le32 (s.entry h) 12) then some h else some g) none

/-- A record's identity matches an entry of BADGE_FILTER (R371). -/
def State.badgeMatch (s : State) (id : List Nat) : Bool :=
  let t := s.obj 0x6020 0 (List.replicate 128 0)
  (List.range 8).any fun i =>
    let n := byteAt t (16 * i)
    0 < n && n ≤ 96 && n ≤ 8 * id.length && (unpackBits (slice t (16 * i + 4) 12)).take n == (unpackBits id).take n

/-! ### Notifications (R374) -/

/-- The ring is full: indices that run free, ENTRIES entries held (assumption 29). -/
def State.ringFull (s : State) : Bool :=
  decide (s.get GRN.NRING_CFG_ENTRIES ≤ (s.get GRN.NR_HEAD_VALUE + 4294967296 - s.get GRN.NR_TAIL_VALUE) % 4294967296)

/-- The notifications that wait, oldest first, written while the ring has room and the DMA port goes on. Structural on their
list. -/
def State.ringDrain (s : State) (l : List (Nat × List Nat)) : State :=
  match l with
  | [] => s.updGrn fun g => { g with notes := [] }
  | n :: r =>
    if s.ringFull then (s.set GRN.STATUS_NRING_FULL 1).updGrn fun g => { g with notes := n :: r }
    else
      let head := s.get GRN.NR_HEAD_VALUE
      let slot := s.get GRN.NRING_BASE_VALUE + 64 * (head % s.get GRN.NRING_CFG_ENTRIES)
      let d := s.grnDma slot (words4 (n.1 % 256 :: n.2))
      if d.1 then ((d.2.set GRN.NR_HEAD_VALUE (head + 1)).set GRN.STATUS_NOTE 1).ringDrain r
      else d.2.updGrn fun g => { g with notes := n :: r }

/-- A notification: KIND, handle and bytes 0 to 59 of the entry; counted by kind. -/
def State.note (s : State) (kind h : Nat) (e : List Nat) : State :=
  let s1 := if kind == 1 then s.bump GRN.CNT_NEW_COUNT GRN.STATUS_SAT
    else if kind == 2 then s.bump GRN.CNT_DEPART_COUNT GRN.STATUS_SAT
    else if kind == 3 then s.bump GRN.CNT_MOVE_COUNT GRN.STATUS_SAT
    else s
  s1.ringDrain (s1.grn.notes ++ [(kind, toLe 3 h ++ padTo 60 e)])

/-- The engine stops folding at a record boundary while the ring is full. -/
def State.ringMark (s : State) : State := s.when s.ringFull fun t => t.set GRN.STATUS_NRING_FULL 1

/-! ### Journal (R372) -/

/-- The next journal block's SEQ. -/
def State.jseq (s : State) : Nat := s.get GRN.JSEQ_LO_VALUE + 4294967296 * s.get GRN.JSEQ_HI_VALUE

/-- JSEQ set. -/
def State.setJseq (s : State) (q : Nat) : State := (s.set GRN.JSEQ_LO_VALUE q).set GRN.JSEQ_HI_VALUE (q / 4294967296)

/-- The offset of a block. -/
def State.blockOff (s : State) (seq : Nat) : Nat := s.jrnOff + 4096 * (seq % s.get GRN.GEOM_JBLOCKS)

/-- A block's record bytes through AES-128-CTR under the journal key (R372). -/
def State.jrnCrypt (s : State) (seq : Nat) (b : List Nat) : List Nat :=
  xorBytes b ((List.range ((b.length + 15) / 16)).flatMap fun k =>
    aesEnc s.journalKey (toBe 8 s.grn.jnonce ++ toBe 7 seq ++ [k % 256]))

/-- The first 60 bytes of a block's header. -/
def blockHead (nrec seq cycle : Nat) : List Nat :=
  [0x4A, 0x42, 0x4B, 0x31, nrec % 256, 0, 0, 0] ++ toLe 8 (seq % 2 ^ 56) ++ toLe 4 cycle ++ List.replicate 40 0

/-- The staged block written, where it holds a record; the next record starts a new one. A word of it that the DMA may not read is
a bus error, which stops the engine (R19, R22). -/
def State.blockWrite (s : State) : State :=
  if s.grn.nrec == 0 then s
  else match dmaBar (s.get GRN.JSTAGE_VALUE + 64) (16 * s.grn.nrec) with
  | some a => (s.mapError colGRN a false).grnStop (s.get GRN.STATE_ERR)
  | none =>
    let seq := s.jseq
    let body := s.jrnCrypt seq (s.dmaRead (s.get GRN.JSTAGE_VALUE + 64) (64 * s.grn.nrec))
    let head := blockHead s.grn.nrec seq s.grn.firstCycle
    let s1 := s.extWrite s.grnSel (s.blockOff seq) (head ++ toLe 4 (crc32c (head ++ body)) ++ body)
    (s1.setJseq ((seq + 1) % 2 ^ 56)).updGrn fun g => { g with nrec := 0 }

/-- A record put into the staged block; a full block is written. A record that the DMA cannot stage is not counted in. -/
def State.journal (s : State) (rec : List Nat) : State :=
  let n := s.grn.nrec
  let d := s.grnDma (s.get GRN.JSTAGE_VALUE + 64 + 64 * n) (words4 (padTo 64 rec))
  if !d.1 then d.2
  else
    let s1 := d.2.updGrn fun g => { g with nrec := n + 1, firstCycle := if n == 0 then le32 rec 0 else g.firstCycle }
    if n + 1 == 63 then s1.blockWrite else s1

/-! ### Folding (R369) -/

/-- A record's CRC is right. -/
def recOk (b : List Nat) : Bool := le32 b 60 == crc32c (padTo 60 b)

/-- The record is a continuation (R251). -/
def recCont (b : List Nat) : Bool := bitOf (byteAt b 10) 7

/-- The identity bytes of a record and its continuations. -/
def fullId (recs : List (List Nat)) : List Nat := recs.flatMap fun b => slice b 24 (min 32 (byteAt b 11))

/-- floor((centidegrees / 100 + offset) / step), as a byte; open for a step of 0 (assumption 3). -/
def State.sectorPart (s : State) (v : Int) (step : Nat) : Nat × State :=
  if step == 0 then (s.fresh.1 % 256, s.fresh.2) else (unsignedOf 8 (v / (100 * step : Nat)), s)

/-- sector() of a record that carries a bearing, for an entry whose band is `band`. -/
def State.sectorOf (s : State) (rec : List Nat) (band : Nat) : Nat × State :=
  let a := s.sectorPart (sint 16 (le16 rec 16) + 18000) (s.get GRN.SECT_AZ_DEG)
  if le16 rec 18 == 0x8000 then (a.1 + 256 * band, a.2)
  else
    let b := a.2.sectorPart (sint 16 (le16 rec 18) + 9000) (s.get GRN.SECT_EL_DEG)
    (a.1 + 256 * b.1, b.2)

/-- The fields of the latest sighting taken from a record. -/
def lastFrom (e rec : List Nat) : List Nat :=
  patch e 12 (slice rec 0 4 ++ slice rec 4 2 ++ [byteAt rec 8, byteAt rec 10 % 128] ++ slice rec 14 2)

/-- A record is not older than an entry's latest sighting: R50 on (CYCLE, ANGLE). -/
def notOlder (e rec : List Nat) : Bool :=
  cycAfter (le32 rec 0) (le32 e 12) || (le32 rec 0 == le32 e 12 && decide (le16 e 16 ≤ le16 rec 4))

/-- init(): the entry of a new identity over the slot's old content `old`; `sec` is its sector. -/
def newEntry (old id rec : List Nat) (sec : Nat) (rebuilt badge : Bool) : List Nat :=
  let flags := 3 + 4 * b2n badge + 16 * b2n rebuilt + 32 * b2n (byteAt rec 10 % 128 == 3)
  let e := toLe 4 (crc32c id) ++ [id.length % 256, flags] ++ toLe 2 sec ++ slice rec 0 4
  patch (lastFrom (padTo 60 e) rec) 22 ([1, 0] ++ padTo 32 id ++ [0, 0, 0, (byteAt old 59 + 1) % 256])

/-- A bearing folded into an entry: its sector, or the candidate for a move (R369). `quiet` says that nothing is notified. -/
def State.foldSector (s : State) (h : Nat) (e rec : List Nat) (quiet : Bool) : List Nat × State :=
  if le16 rec 16 == 0x8000 then (e, s)
  else
    let q := s.sectorOf rec (byteAt e 7)
    if s.grn.unplaced.contains h then
      (patch e 6 (toLe 2 q.1), q.2.updGrn fun g => { g with unplaced := g.unplaced.filter fun k => k != h })
    else if q.1 == le16 e 6 then (patch e 58 [0], q.2)
    else
      let n := (if q.1 == le16 e 56 then byteAt e 58 else 0) + 1
      if s.get GRN.SECT_CONFIRM ≤ n then
        let e1 := patch (patch e 6 (toLe 2 q.1)) 56 (toLe 2 q.1 ++ [0])
        (e1, if quiet then q.2 else q.2.note 3 h e1)
      else (patch e 56 (toLe 2 q.1 ++ [n]), q.2)

/-- A sighting on this node of a badge makes the node occupied where BADGE_PRESENCE is 1 (R348). -/
def State.badgeSeen (s : State) (e rec : List Nat) : State :=
  if enBADGE e && s.objNum 0x5032 0 0 != 0 && le16 rec 6 == s.get LSC.NODE_NODE then s.setOccupied true else s

/-- The entry after a fold: WATCHED where it is watched, then written with its CRC. -/
def State.foldEnd (s : State) (h : Nat) (e rec : List Nat) (quiet : Bool) : State :=
  ((s.when (enWATCH e && !quiet) fun t => t.note 4 h e).entryPut h e).badgeSeen e rec

/-- A record with its continuations folded into the index; false where no slot was found (R369). `replay`: without
notifications, and a new entry is REBUILT (R378). -/
def State.foldIndex (s : State) (recs : List (List Nat)) (replay : Bool) : Bool × State :=
  let rec0 := recs.headD []
  let id := fullId recs
  match s.grnFind id with
  | some h =>
    let e0 := s.entry h
    let e1 := enFlag e0 1 true
    let s1 := s.when (!enPRESENT e0 && !replay) fun t => t.note 1 h e1
    let e2 := if notOlder e1 rec0 then lastFrom e1 rec0 else e1
    let e3 := patch e2 22 (toLe 2 (min 0xFFFF (le16 e2 22 + 1)))
    let q := s1.foldSector h e3 rec0 replay
    (true, q.2.foldEnd h q.1 rec0 replay)
  | none =>
    match s.grnRoom id with
    | none => (false, s.set GRN.STATUS_IDX_FULL 1)
    | some h =>
      let old := s.entry h
      let placed := le16 rec0 16 != 0x8000
      let f := s.fresh
      let q := if placed then f.2.sectorOf rec0 (f.1 / 256 % 256) else (f.1 % 65536, f.2)
      let e := newEntry old id rec0 q.1 replay (s.badgeMatch id)
      let s1 := (q.2.when (!enUSED old) fun t => t.set GRN.OCC_VALUE (t.get GRN.OCC_VALUE + 1)).updGrn fun g =>
        { g with unplaced := if placed then g.unplaced.filter fun k => k != h else h :: g.unplaced.filter fun k => k != h }
      (true, (s1.when (!replay) fun t => t.note 1 h e).foldEnd h e rec0 replay)

/-- The words of a queue as records: `n` records from its head. -/
def wordsRec (w : List Nat) (k : Nat) : List Nat := ((w.drop (16 * k)).take 16).flatMap fun x => toLe 4 x

/-- The continuations that follow the first record in a queue's words. Structural on the fuel. -/
def contRecs (n : Nat) (w : List Nat) (k : Nat) : List (List Nat) :=
  match n with
  | 0 => []
  | n + 1 =>
    let b := wordsRec w k
    if 16 * (k + 1) ≤ w.length && recCont b && recOk b then b :: contRecs n w (k + 1) else []

/-- `n` words popped from a queue. -/
def State.popWords (s : State) (q n : Nat) : State := s.forN n fun _ t => (t.quePop q).2

/-- How many of a queue's words are discarded until a record checks (R453); all but an incomplete tail where none does. -/
def resyncLen (w : List Nat) (n : Nat) : Nat :=
  match n with
  | 0 => 0
  | n + 1 =>
    match w with
    | [] => 0
    | _ :: r => if w.length < 16 || (recOk (wordsRec w 0) && !recCont (wordsRec w 0)) then 0 else 1 + resyncLen r n

/-- One record popped and folded (R369). -/
def State.grnFold (s : State) : State :=
  let q := s.get GRN.CTRL_QSRC
  let w := s.queWords q
  let rec0 := wordsRec w 0
  if recOk rec0 && !recCont rec0 then
    let recs := rec0 :: contRecs 8 w 1
    let r := (s.popWords q (16 * recs.length)).foldIndex recs false
    let s1 := if r.1 then r.2.bump GRN.CNT_REC_COUNT GRN.STATUS_SAT
      else r.2.setObj 0x6030 6 (toLe 4 (r.2.objNum 0x6030 6 0 + 1))
    (s1.forL recs fun b t => t.journal b).ringMark
  else
    let s1 := ((s.popWords q 16).set GRN.STATUS_REC_BAD 1).bump GRN.CNT_BAD_COUNT GRN.STATUS_SAT
    let rest := s1.queWords q
    s1.popWords q (resyncLen rest rest.length)

/-! ### Superblocks (R373, R376 to R378) -/

/-- The offset of a superblock. -/
def State.superOff (s : State) (copyB : Bool) : Nat := s.grnBase + 4096 * b2n copyB

/-- A superblock written as the engine's state stands, under a generation (R376). -/
def State.superWrite (s : State) (copyB : Bool) (gen : Nat) : State :=
  let q := s.jseq
  let b := [0x47, 0x53, 0x42, 0x31] ++ toLe 4 gen ++ toLe 8 q ++ toLe 8 (q - s.get GRN.GEOM_JBLOCKS) ++
    toLe 4 (s.get GRN.OCC_VALUE) ++ toLe 4 (s.get GRN.GEOM_IDX_LOG2 * 2 ^ 27 + s.get GRN.GEOM_JBLOCKS) ++
    toLe 8 s.grn.jnonce ++ List.replicate 20 0
  (s.extWrite s.grnSel (s.superOff copyB) (b ++ toLe 4 (crc32c b))).updGrn fun g => { g with gen := gen, copyB := copyB }

/-- A superblock that checks. -/
def State.superRead (s : State) (copyB : Bool) : Option (List Nat) :=
  let b := s.extRead s.grnSel (s.superOff copyB) 64
  if le32 b 0 == 0x31425347 && recOk b then some b else none

/-- A commit (R377): the staged block, then the inactive superblock. -/
def State.grnCommit (s : State) : State :=
  let st := s.get GRN.STATE_STATE
  if st == 2 || st == 3 then
    if s.on MPT.CTRL_EN then
      let s1 := s.blockWrite
      if s1.get GRN.STATE_STATE == 5 then s1
      else (s1.superWrite (!s1.grn.copyB) ((s1.grn.gen + 1) % 4294967296)).set GRN.STATUS_COMMIT_DONE 1
    else s.grnStop 2
  else s

/-- The slots of the index of which the memory holds a nonzero byte, from 0 up. An unlisted slot is all zeros, which is no
entry. -/
def State.heldSlots (s : State) : List Nat :=
  let lo := s.grnSel * 4294967296 + s.slotOff 0
  (s.mpt.ext.foldr (fun e a =>
    let h := (e.1 - lo) / 64
    if lo ≤ e.1 && h < s.grnSlots && a.head? != some h then h :: a else a) [])

/-- The slots that hold an entry once those that fail their CRC are cleared (R378). -/
def State.clearTorn (s : State) : State :=
  let s1 := s.forL s.heldSlots fun h t => if recOk (t.entry h) then t else t.extZero t.grnSel (t.slotOff h) 64
  s1.set GRN.OCC_VALUE (s1.heldSlots.filter fun h => enUSED (s1.entry h)).length

/-- The records of the journal blocks from `seq` on, up to the first that does not follow, and that block's SEQ. Structural
on the fuel, the number of blocks. -/
def State.jrnRead (s : State) (n seq : Nat) : List (List Nat) × Nat :=
  match n with
  | 0 => ([], seq)
  | n + 1 =>
    let off := s.blockOff seq
    let head := s.extRead s.grnSel off 64
    let k := byteAt head 4
    let body := s.extRead s.grnSel (off + 64) (64 * min 63 k)
    if le32 head 0 == 0x314B424A && 0 < k && k ≤ 63 && le64 head 8 == seq && le32 head 60 == crc32c (padTo 60 head ++ body) then
      let clear := s.jrnCrypt seq body
      let r := s.jrnRead n ((seq + 1) % 2 ^ 56)
      ((List.range k).map (fun i => slice clear (64 * i) 64) ++ r.1, r.2)
    else ([], seq)

/-- Replayed records grouped, each with its continuations. -/
def groupRecs (l : List (List Nat)) : List (List (List Nat)) :=
  l.foldr (fun b a =>
    match a with
    | g :: r => if recCont (g.headD []) then (b :: g) :: r else [b] :: a
    | [] => [[b]]) []

/-- RECOVER (R378). -/
def State.grnRecover (s : State) : State :=
  let pick := match s.superRead false, s.superRead true with
    | some a, some b => if cycAfter (le32 b 4) (le32 a 4) then some (true, b) else some (false, a)
    | some a, none => some (false, a)
    | none, some b => some (true, b)
    | none, none => none
  match pick with
  | none => s.grnStop 3
  | some p =>
    let s1 := s.updGrn fun g => { g with
      jnonce := le64 p.2 32, gen := le32 p.2 4, copyB := p.1, nrec := 0, unplaced := [] }
    let s2 := s1.clearTorn
    let r := s2.jrnRead (s.get GRN.GEOM_JBLOCKS) (le64 p.2 8)
    let s3 := s2.forL (groupRecs r.1) fun g t => (t.foldIndex g true).2
    (((s3.setJseq r.2).set GRN.STATE_ERR 0).set GRN.STATE_STATE (if s.on GRN.CTRL_PAUSE then 3 else 2)).set
      GRN.STATUS_RECOV_DONE 1

/-- FORMAT (R373). -/
def State.grnFormat (s : State) : State :=
  let d := s.freshL 2 4294967296
  let s1 := (d.2.extZero s.grnSel (s.slotOff 0) (64 * s.grnSlots)).extZero s.grnSel s.grnBase 8192
  let s2 := ((s1.setJseq 0).set GRN.OCC_VALUE 0).updGrn fun g => { g with
    jnonce := d.1.getD 0 0 + 4294967296 * d.1.getD 1 0, nrec := 0, unplaced := [] }
  ((s2.superWrite false 1).set GRN.STATE_ERR 0).set GRN.STATE_STATE (if s.on GRN.CTRL_PAUSE then 3 else 2)

end Sys2Proof.Machine
end

