-- ==== Sys2Proof/Machine/Grn.lean ====
section
/-! DEFINITION. The Granary engine's commands (R367 to R379). -/

namespace Sys2Proof.Machine

open Sys2Proof

/-- GRN_ENABLE (R367). -/
def execGrnEnable (_m : Master) (s : State) : Out := .next (s.grnEnable true)

/-- RECORD_FOLD (R369, R374, R379): in RUN, with a whole record waiting and room in the ring. -/
def execRecordFold (s : State) : Out :=
  if s.get GRN.STATE_STATE != 2 || (s.queWords (s.get GRN.CTRL_QSRC)).length < 16 then .next s
  else if s.ringFull || s.grn.notes != [] then .next s.ringMark
  else if s.on MPT.CTRL_EN then .next s.grnFold
  else .next (s.grnStop 2)

/-- An entry that the sweep finds departed (R370). -/
def State.sweepSlot (s : State) (h : Nat) : State :=
  let e := s.entry h
  let d := (s.atb.cycle + 4294967296 - le32 e 12) % 4294967296
  if enUSED e && enPRESENT e && d < 2147483648 && s.get GRN.DEPART_VALUE ≤ d then
    let e1 := enFlag e 1 false
    (s.note 2 h e1).entryPut h e1
  else s

/-- SWEEP_STEP (R370): one walk of the whole index. -/
def execSweepStep (s : State) : Out :=
  if s.on GRN.CTRL_SWEEP_EN && s.get GRN.STATE_STATE == 2 then
    if s.on MPT.CTRL_EN then .next (s.forL s.heldSlots fun h t => t.sweepSlot h) else .next (s.grnStop 2)
  else .next s

/-- A command that needs the engine enabled and the Memory Port reachable. -/
def State.grnCmd (s : State) (g : State → State) : State :=
  if s.on GRN.CTRL_EN then (if s.on MPT.CTRL_EN then g s else s.grnStop 2) else s

/-- GRN_FORMAT (R373). -/
def execGrnFormat (s : State) : Out := .next (s.grnCmd State.grnFormat)

/-- GRN_RECOVER (R378). -/
def execGrnRecover (s : State) : Out := .next (s.grnCmd State.grnRecover)

/-- GRN_COMMIT (R377). -/
def execGrnCommit (s : State) : Out := .next s.grnCommit

/-- GRN_COMMIT_TIMER (R377). -/
def execGrnCommitTimer (s : State) : Out := .next s.grnCommit

/-- NR_TAIL written: the notifications that wait go into the ring (R374). -/
def State.nrTail (s : State) (v : Nat) : State :=
  let s1 := s.set GRN.NR_TAIL_VALUE v
  s1.ringDrain s1.grn.notes

/-- NR_TAIL_WRITE (R374). -/
def execNrTailWrite (_m : Master) (v : Nat) (s : State) : Out := .next (s.nrTail v)

/-- WATCH of the entry of an EPC or UID set or cleared; nothing where the index holds no such entry (R371, object 0x6022). -/
def State.tagWatch (s : State) (body : List Nat) : State :=
  let id := body.dropLast
  match s.grnFind id with
  | some h => if s.on GRN.CTRL_EN then s.entryPut h (enFlag (s.entry h) 3 (body.getLastD 0 == 1)) else s
  | none => s

/-- TAG_WATCH (R371). -/
def execTagWatch (body : List Nat) (s : State) : Out := .next (s.tagWatch body)

/-- TAG_QUERY looks up an entry; the object then reads as it, or as empty (object 0x6021). -/
def State.tagQuery (s : State) (body : List Nat) : State :=
  match s.grnFind body with
  | some h => s.setObj 0x6021 0 (if s.on GRN.CTRL_EN then s.entry h else [])
  | none => s.setObj 0x6021 0 []

/-- TAG_QUERY (R382). -/
def execTagQuery (body : List Nat) (s : State) : Out := .next (s.tagQuery body)

/-- CMD of GRN: FORMAT, RECOVER and COMMIT as separate bits; FORMAT acts before RECOVER, RECOVER before COMMIT. -/
def State.grnCmdWrite (s : State) (v : Nat) : State :=
  let s1 := if bitOf v 2 then s.grnCmd State.grnFormat else s
  let s2 := if bitOf v 1 then s1.grnCmd State.grnRecover else s1
  if bitOf v 0 then s2.grnCommit else s2

end Sys2Proof.Machine
end

