-- ==== Sys2Proof/Machine/Hfr.lean ====
section
/-! DEFINITION. The commands of the HF reader, its leases, and the Gleaner. -/

namespace Sys2Proof.Machine

open Sys2Proof

/-- HF_LEASE_GO (R229). -/
def execHfLeaseGo (_m : Master) (target seq entry : Nat) (s : State) : Out :=
  .next (s.hfLeaseGo (target % 2) (seq % 16) (entry % 8192))

/-- HF_LEASE_RELEASE (R229, R300). -/
def execHfLeaseRelease (_m : Master) (target : Nat) (s : State) : Out :=
  .next (if target % 2 == 0 then s.hfrEnd else s.hftEnd)

/-- HF_STATE_DONE (R279): the step under way is complete, or the frame on air has ended. -/
def execHfStateDone (railOk : Bool) (s : State) : Out :=
  match s.hfr.step, s.hfr.sending with
  | some k, _ => .next (s.hfStepDone k railOk)
  | none, some f => .next (s.hfFrameEnd f)
  | none, none => .next s

/-- HF_SYNTH_TIMEOUT (R279). -/
def execHfSynthTimeout (s : State) : Out :=
  if s.hfr.step == some 2 && s.hst == 1 then .next ((s.updHfr fun h => { h with step := none }).hfAnswer 3) else .next s

/-- DRV_FAULT (R279): the field drops to OFF. -/
def execDrvFault (s : State) : Out :=
  if 3 ≤ s.hst || s.on HFR.STATE_FIELD then
    let s1 := ((((s.hfFieldOff.set HFR.STATE_STATE 0).set HFR.STATE_FIELD 0).set HFR.STATE_SYN_LOCK 0).set
      HFR.STATUS_DRV_FAULT 1).updHfr fun h => { h with step := none }
    .next (s1.hfAnswer 9)
  else .next s

/-- HF_FRAME_HOLD_RELEASE (R287): the minimum after the previous reply, and the entry's GUARD, have passed. -/
def execHfFrameHoldRelease (s : State) : Out :=
  let s1 := s.updHfr fun h => { h with minGap := false }
  match s.hfr.held with
  | some f => .next (s1.hfBegin f)
  | none => .next s1

/-- HF_REPLY_DECISION (R292). -/
def execHfReplyDecision (ev : HfEvidence) (s : State) : Out :=
  match s.hfr.window with
  | some f => if s.hfr.wtxReply == [] then .next (s.hfReply f ev).hfProgress else .next s
  | none => .next s

/-- HF_WAIT_EXPIRY (R287, R289): EMPTY; CEILING where the ceiling shortened the wait. -/
def execHfWaitExpiry (s : State) : Out :=
  match s.hfr.window with
  | some f =>
    if s.hfr.wtxReply == [] then
      .next (s.hfDecision f (if s.hfCeil < s.hfr.waitCyc then 5 else 0) 0 0 (!heRxCrc f.entry) []).hfProgress
    else .next s
  | none => .next s

/-- The S(WTX) response: PCB, CID and INF echoed, with CRC_A (R288). -/
def wtxAir (e b : List Nat) : List HfSym := hfAir e (unpackLsb b ++ hfCrcBits 0 (unpackLsb b))

/-- HF_WTX_ANSWER (R288): the S(WTX) response is sent and the wait extended. -/
def execHfWtxAnswer (s : State) : Out :=
  match s.hfr.window with
  | some f =>
    if s.hfr.wtxReply == [] then .next s
    else
      let w := min 67108864 (heFwt f * wtxmOf s.hfr.wtxReply) + 49152
      .next ((s.updHfr fun h => { h with
        wtxReply := [], wtxCount := h.wtxCount + 1, waitCyc := w, wtxSent := wtxAir f.entry s.hfr.wtxReply }).bump
        HFR.CNT_WTX_COUNT HFR.STATUS_SAT)
  | none => .next s

/-- FT_DATA_ACCESS (R283): word FT_ADDR.WADDR written or read, then WADDR advanced; writes under lease are ignored. -/
def execFtDataAccess (write : Bool) (v : Nat) (s : State) : Out :=
  let a := s.get HFR.FT_ADDR_WADDR
  let s1 := s.set HFR.FT_ADDR_WADDR (a + 1)
  if !write then .next (s1.respond (Tab.get 0 s.hfr.table a) false)
  else if s.hfSeq.isSome then .next (s1.set HFR.STATUS_CMD_ERR 1)
  else .next (s1.updHfr fun h => { h with table := Tab.set 0 h.table a (v % 4294967296) })

/-- TAG_GUARD_RELEASE (R281, R312). -/
def execTagGuardRelease (s : State) : Out :=
  if s.on HFT.STATE_GUARD && s.hst < 3 then .next (s.set HFT.STATE_GUARD 0).tagRelease else .next s

/-! ### The Gleaner (R295 to R298) -/

/-- A named UHF chain carries carrier, or did within FREEZE_HOLD (R298). -/
def State.glBlanked (s : State) : Bool :=
  (List.range 4).any fun c => s.bit HFR.COUPLING_UTX c &&
    (s.carrier c || (Tab.get 0 s.radio.offAt c != 0 &&
      s.now ≤ Tab.get 0 s.radio.offAt c + 240000 * s.get HFR.GL_THR_FREEZE_HOLD))

/-- A phase difference in 0.01° wrapped to ±180° (R296), in 65,536ths. -/
def wrapPhase (d : Int) : Int := (d + 18000 * 65536) % (36000 * 65536) - 18000 * 65536

/-- GL_BASE from the baseline kept in 65,536ths. -/
def State.glShow (s : State) : State :=
  (s.set HFR.GL_BASE_AMP (unsignedOf 16 (s.gl.baseAmp / 65536))).set HFR.GL_BASE_PHASE
    (unsignedOf 16 (s.gl.basePhase / 65536))

/-- The evaluation of a ping (R296, R297). -/
def State.glEval (s : State) (amp phase : Int) : State :=
  let g := s.gl
  let da := amp * 65536 - g.baseAmp
  let dp := wrapPhase (phase * 65536 - g.basePhase)
  let period := max 10 (min 100 (s.get HFR.GL_CFG_PERIOD))
  let tau := max 1 (s.get HFR.GL_CFG_TAU)
  if g.rebase then ({ s with gl := { baseAmp := amp * 65536, basePhase := phase * 65536 } } : State).glShow
  else if 5 * 65536 * s.get HFR.GL_THR_AMP_THR < da.natAbs || 10 * 65536 * s.get HFR.GL_THR_PH_THR < dp.natAbs then
    if s.get HFR.GL_CFG_CONFIRM + 1 ≤ g.overRun + 1 then
      ((({ s with gl := { g with overRun := 0 } } : State).set HFR.STATUS_GL_WAKE 1).set HFR.STATE_GL_STATE 2).bump
        HFR.CNT_WAKE_COUNT HFR.STATUS_SAT
    else { s with gl := { g with overRun := g.overRun + 1 } }
  else
    let k : Int := (10 * period : Nat)
    let d : Int := (1000 * tau : Nat)
    let ba := g.baseAmp + da * k / d
    let bp := wrapPhase (g.basePhase + dp * k / d)
    ({ s with gl := { g with overRun := 0, baseAmp := ba, basePhase := bp } } : State).glShow

/-- GLEANER_PING (R281, R295, R296, R298). -/
def execGleanerPing (amp phase : Nat) (s : State) : Out :=
  if s.on HFR.CTRL_GL_EN && s.get SYS.MODE_MODE == 0 && s.bit PWR.STATE_DOM 1 && s.hfSeq.isNone &&
      s.get HFR.STATE_GL_STATE == 1 then
    if s.on HFR.STATE_TAG_FIELD then .next (s.bump HFR.CNT_BLANK_COUNT HFR.STATUS_SAT)
    else
      let s1 := (((s.set HFR.GL_MEAS_AMP amp).set HFR.GL_MEAS_PHASE phase).bump HFR.CNT_PING_COUNT HFR.STATUS_SAT).tagGuard
      .next (if s.glBlanked then s1.bump HFR.CNT_BLANK_COUNT HFR.STATUS_SAT else s1.glEval (sint 16 amp) (sint 16 phase))
  else .next s

/-- The Gleaner can be armed: enabled, the HFR domain powered (R297). -/
def State.glReady (s : State) : Bool := s.on HFR.CTRL_GL_EN && s.bit PWR.STATE_DOM 1

/-- GL_ARM (R297). -/
def execGlArm (s : State) : Out :=
  if s.get HFR.STATE_GL_STATE == 0 && s.glReady then
    .next (({ s with gl := { rebase := true } } : State).set HFR.STATE_GL_STATE 1)
  else .next s

/-- GL_RESUME (R297). -/
def execGlResume (s : State) : Out :=
  if s.get HFR.STATE_GL_STATE == 2 then .next (s.set HFR.STATE_GL_STATE 1) else .next s

/-- GL_REBASE (R297). -/
def execGlRebase (s : State) : Out :=
  if s.get HFR.STATE_GL_STATE != 0 then
    .next (({ s with gl := { s.gl with rebase := true, overRun := 0 } } : State).set HFR.STATE_GL_STATE 1)
  else .next s

/-- GL_STOP (R297). -/
def execGlStop (s : State) : Out := .next s.glOff

end Sys2Proof.Machine
end

