-- ==== Sys2Proof/Machine/SysCmd.lean ====
section
/-! DEFINITION. Doorbells, the uptime compare, the watchdogs' writes, and debug halts (R27, R432, R445, R456, R503, R534,
R535, R537). -/

namespace Sys2Proof.Machine

open Sys2Proof

/-- SWI_SET: bits of SWI_STATUS set; bit 4 wakes Core P (R445, R501). -/
def State.swiSet (s : State) (v : Nat) : State :=
  (s.set SYS.SWI_STATUS_SWI (Nat.lor (s.get SYS.SWI_STATUS_SWI) (v % 32))).when (bitOf v 4) fun t => t.wakeP 7

/-- SWI_SET (R445). -/
def execSwiSet (_m : Master) (v : Nat) (s : State) : Out := .next (s.swiSet v)

/-- HOST_IRQ: SET and CLR drive LEVEL (R432); with both, SET acts after CLR. -/
def State.hostIrq (s : State) (v : Nat) : State :=
  if bitOf v 0 then s.set HLK.HOST_IRQ_LEVEL 1 else if bitOf v 1 then s.set HLK.HOST_IRQ_LEVEL 0 else s

/-- HOST_IRQ_SET (R432). -/
def execHostIrqSet (_m : Master) (s : State) : Out := .next (s.hostIrq 1)

/-- HOST_IRQ_CLR (R432). -/
def execHostIrqClr (_m : Master) (s : State) : Out := .next (s.hostIrq 2)

/-- UPT_MATCH (R503). -/
def execUptMatch (s : State) : Out := .next ((s.set AON.STATUS_UPT_MATCH 1).wakeP 6)

/-! ### Watchdogs (R534, R535) -/

/-- Only the watched core and Core P may write a watchdog (R534). -/
def wdtWriter (n : Nat) (m : Master) : Bool := m == .coreP || m == (if n == 0 then .coreA else .coreB)

/-- A watchdog's core is debug-halted and its count holds (R537). -/
def State.wdtHalted (s : State) (n : Nat) : Bool :=
  !s.on SYS.WDT_CTRL_DBGRUN n && (if n == 0 then s.bus.haltedA else s.bus.haltedB)

/-- A watchdog's full count in cycles of CLK_DSP; a MS of 0 acts as 1. -/
def State.wdtFull (s : State) (n : Nat) : Nat := usTicks (1000 * max 1 (s.get SYS.WDT_TIMEOUT_MS n))

/-- The count reloaded, held where the core is halted. -/
def State.wdtLoad (s : State) (n : Nat) : State :=
  if s.wdtHalted n then
    { s with coreP := { s.coreP with
        wdtHeld := Tab.set 0 s.coreP.wdtHeld n (s.wdtFull n), wdtDue := Tab.erase s.coreP.wdtDue n } }
  else
    { s with coreP := { s.coreP with
        wdtDue := Tab.set 0 s.coreP.wdtDue n (s.now + s.wdtFull n), wdtHeld := Tab.erase s.coreP.wdtHeld n } }

/-- The count left in milliseconds, rounded up (STATE.LEFT). -/
def State.wdtLeft (s : State) (n : Nat) : Nat :=
  if s.on SYS.WDT_CTRL_EN n then
    let held := Tab.get 0 s.coreP.wdtHeld n
    let t := if held == 0 then Tab.get 0 s.coreP.wdtDue n - s.now else held
    (t + 239999) / 240000
  else 0

/-- The count taken into hold, or resumed, as the core is halted or released (R537). -/
def State.wdtHold (s : State) (n : Nat) : State :=
  let due := Tab.get 0 s.coreP.wdtDue n
  let held := Tab.get 0 s.coreP.wdtHeld n
  if !s.on SYS.WDT_CTRL_EN n then s
  else if s.wdtHalted n then
    if held == 0 then { s with coreP := { s.coreP with
        wdtHeld := Tab.set 0 s.coreP.wdtHeld n (max 1 (due - s.now)), wdtDue := Tab.erase s.coreP.wdtDue n } } else s
  else if held == 0 then s
  else { s with coreP := { s.coreP with
      wdtDue := Tab.set 0 s.coreP.wdtDue n (s.now + held), wdtHeld := Tab.erase s.coreP.wdtHeld n } }

/-- CTRL of a watchdog: EN starts the count and is not cleared by a write (R534). -/
def State.wdtCtrl (s : State) (n : Nat) (m : Master) (v : Nat) : State :=
  if wdtWriter n m then
    let s1 := (s.set SYS.WDT_CTRL_DBGRUN (bits v 30 30) n).wdtHold n
    if bitOf v 31 && !s.on SYS.WDT_CTRL_EN n then (s1.set SYS.WDT_CTRL_EN 1 n).wdtLoad n else s1
  else s

/-- WDT_ENABLE (R534). -/
def execWdtEnable (m : Master) (n : Nat) (s : State) : Out :=
  let k := n % 2
  .next (if wdtWriter k m && !s.on SYS.WDT_CTRL_EN k then (s.set SYS.WDT_CTRL_EN 1 k).wdtLoad k else s)

/-- KICK of a watchdog (R534, R535). -/
def State.wdtKick (s : State) (n : Nat) (m : Master) (key : Nat) : State :=
  if !wdtWriter n m then s
  else if key % 65536 != 0xA55A then s.set SYS.WDT_STATUS_BADKICK 1 n
  else if s.on SYS.WDT_CTRL_EN n then (s.set SYS.WDT_STATE_AFTER 0 n).wdtLoad n
  else s.set SYS.WDT_STATE_AFTER 0 n

/-- WDT_KICK (R534). -/
def execWdtKick (m : Master) (n key : Nat) (s : State) : Out := .next (s.wdtKick (n % 2) m key)

/-- WDT_WARN (R535); a held count does not run (R537). -/
def execWdtWarn (n : Nat) (s : State) : Out :=
  .next (if s.on SYS.WDT_CTRL_EN (n % 2) && !s.wdtHalted (n % 2) then s.set SYS.WDT_STATUS_WARN 1 (n % 2) else s)

/-! ### Debug halts (R27, R456, R537) -/

/-- A timer frozen or resumed as its owner core is halted or released (R456). -/
def State.tmrHold (s : State) (n : Nat) : State :=
  let st := s.get TMR.STATE_STATE n
  if st == tmRUNNING && s.tmrHalted n then s.set TMR.STATE_STATE tmFROZEN n
  else if st == tmFROZEN && !s.tmrHalted n then s.set TMR.STATE_STATE tmRUNNING n
  else s

/-- A core halted or released: the timers and the watchdog that it owns follow. A halt of Core P freezes none. -/
def State.debug (s : State) (core : Nat) (halt : Bool) : State :=
  let s1 := if core == 0 then { s with bus.haltedA := halt } else if core == 1 then { s with bus.haltedB := halt } else s
  (s1.forN 16 fun n t => t.tmrHold n).forN 2 fun n t => t.wdtHold n

/-- DEBUG_HALT (R27, R456, R537), the debug request of source 122 (R31). -/
def execDebugHalt (core : Nat) (s : State) : Out := .next ((s.sourceEvent 122).debug core true)

/-- DEBUG_RELEASE (R456, R537). -/
def execDebugRelease (core : Nat) (s : State) : Out := .next (s.debug core false)

end Sys2Proof.Machine
end

