-- ==== Sys2Proof/Machine/RegW.lean ====
section
/-! DEFINITION. Writes to the registers of the blocks that the private port does not reach: what a write does beside storing
its fields. -/

namespace Sys2Proof.Machine

open Sys2Proof

/-- A stored write of Core P's registers; from any other master it is ignored (R501). -/
def State.coreWrite (s : State) (m : Master) (fs : List (Fld × Nat)) (v : Nat) : State :=
  if m == .coreP then s.plainWrite fs v 0xFFFFFFFF else s

/-- DOM_CTRL (R473, R482, R487): Core P alone; RADIO is refused while MULT is not 24. -/
def State.domCtrl (s : State) (m : Master) (v : Nat) : State :=
  if m != .coreP then s
  else
    let refuse := bitOf v 0 && !s.bit PWR.STATE_DOM 0 && s.get CLK.PLL_CFG_MULT != 24
    let s1 := if refuse then s.set PWR.STATUS_CMD_ERR 1
      else if bitOf v 0 then (s.radioOn).set PWR.DOM_CTRL_RADIO 1
      else if s.bit PWR.STATE_DOM 0 then (s.radioOff).set PWR.DOM_CTRL_RADIO 0
      else s.set PWR.DOM_CTRL_RADIO 0
    let s2 := if bitOf v 1 then s1.hfrPower true else if s1.bit PWR.STATE_DOM 1 then s1.hfrPower false else s1
    ((s2.set PWR.DOM_CTRL_HFR (bits v 1 1)).set PWR.DOM_CTRL_MRAM (bits v 2 2)).setBit PWR.STATE_DOM 2 (bitOf v 2)

/-- DOM_CTRL_WRITE (R487). -/
def execDomCtrlWrite (m : Master) (v : Nat) (s : State) : Out := .next (s.domCtrl m v)

/-- CLK CMD: BYPASS, RETURN and SLOW_RETRY, in this order. -/
def State.clkCmd (s : State) (m : Master) (v : Nat) : State :=
  let s1 := if bitOf v 1 then s.clkCmdBypass m else s
  let s2 := if bitOf v 0 then s1.clkCmdReturn else s1
  if bitOf v 2 then s2.slowRetry else s2

/-- OUTn (R468, R469): a field counts as written where its bits change. -/
def State.clkOut (s : State) (n : Nat) (m : Master) (v : Nat) : State :=
  let s1 := if bits v 31 31 != s.get CLK.OUT_EN n then s.outEnWrite m n (bitOf v 31) else s
  let s2 := if bits v 4 0 != s.get CLK.OUT_DIV n then s1.divWrite n (bits v 4 0) else s1
  s2.set CLK.OUT_DELAY (bits v 11 8) n

/-- A timer's CMD: ARM, START, STOP; a STOP wins (R456, R458). -/
def State.tmrCmd (s : State) (n v : Nat) : State :=
  let s1 := if bitOf v 0 then s.tmrArm n else s
  let s2 := if bitOf v 1 then s1.tmrCmdStart n else s1
  if bitOf v 2 then s2.tmrStop n else s2

/-- A timer's CTRL: OUT_EN exists for timers 0 to 3; a freeze follows OWNER and DBGRUN (R456, R457). -/
def State.tmrCtrl (s : State) (n : Nat) (fs : List (Fld × Nat)) (v : Nat) : State :=
  let s1 := s.plainWrite fs v 0xFFFFFFFF
  (if n < 4 then s1 else s1.set TMR.CTRL_OUT_EN 0 n).tmrHold n

/-- RGE CTRL: RF_EN from Core P alone; TESTWIN until SEALED (R138, R150, type RWL of R10). -/
def State.rgeCtrl (s : State) (m : Master) (v : Nat) : State :=
  (if s.lc < 2 then s.set RGE.CTRL_TESTWIN (bits v 1 1) else s).rfEnWrite m (bits v 0 0)

/-- HFR CTRL: GL_EN = 0 puts the Gleaner OFF (R297). -/
def State.hfrCtrl (s : State) (fs : List (Fld × Nat)) (v : Nat) : State :=
  let s1 := s.plainWrite fs v 0xFFFFFFFF
  if bitOf v 2 then s1 else s1.glOff

/-- GL_CMD (R297): ARM, RESUME, REBASE, then STOP. -/
def State.glCmd (s : State) (v : Nat) : State :=
  let go := fun (t : State) (k : Nat) (g : State → Out) => if bitOf v k then (g t).after t else t
  go (go (go (go s 0 execGlArm) 1 execGlResume) 2 execGlRebase) 3 execGlStop

/-- HFT CTRL (R333): EN = 0 detunes the tag, which loses its session as with the field; the engine goes on (assumption 21). -/
def State.hftCtrl (s : State) (fs : List (Fld × Nat)) (v : Nat) : State :=
  let s1 := s.plainWrite fs v 0xFFFFFFFF
  if bitOf v 0 == s.on HFT.CTRL_EN then s1
  else if bitOf v 0 then s1.when (!s.on HFT.STATE_GUARD && s.on HFT.STATE_FIELD) fun t => t.set HFT.STATE_TSTATE tgIDLE
  else (s1.tagDrop tgNO_FIELD).passClear

/-- WCMD (R329): GO with OP 1 or 2 starts an operation; another OP gives BAD_OP; a GO while PENDING is ignored. -/
def State.wcmd (s : State) (m : Master) (fs : List (Fld × Nat)) (v : Nat) : State :=
  let op := bits v 29 28
  if !bitOf v 31 then s.plainWrite fs v 0xFFFFFFFF
  else if op == 1 || op == 2 then s.wiredGo m (bits v 7 0) (bitOf v 30) (op == 2)
  else if s.on HFT.WSTAT_PENDING then s
  else (s.plainWrite fs v 0xFFFFFFFF).wiredDone (bits v 7 0) 3

/-- PCMD (R331): RLEN, then REJECT or RESPOND. -/
def State.pcmd (s : State) (m : Master) (v : Nat) : State :=
  let s1 := s.set HFT.PCMD_RLEN (bits v 8 0)
  if bitOf v 30 then (execPcmdReject m s1).after s1
  else if bitOf v 31 then (execPcmdRespond m (bits v 8 0) s1).after s1
  else s1

/-- LUM FS_CTRL (R344): its fields, then KICK, FORCE and CLR. -/
def State.fsCtrl (s : State) (m : Master) (fs : List (Fld × Nat)) (v : Nat) : State :=
  let s1 := s.plainWrite fs v 0xFFFFFFFF
  let s2 := if bitOf v 4 then s1.lampKick else s1
  let s3 := if bitOf v 2 then (s2.set LUM.FS_CTRL_FORCE 1).fsEngage else s2.set LUM.FS_CTRL_FORCE 0
  if bitOf v 1 then s3.fsClr m else s3

/-- GRN CTRL: EN under R367, PAUSE at a record boundary. -/
def State.grnCtrl (s : State) (fs : List (Fld × Nat)) (v : Nat) : State :=
  ((s.plainWrite (fs.filter fun p => p.1 != GRN.CTRL_EN) v 0xFFFFFFFF).grnEnable (bitOf v 0)).grnPause

/-- CAL CMD (R509, R512, R516): SEQ and TARGET, then ABORT, RUN and COMMIT. Whether a commit's read-back agrees is open
(assumption 3). -/
def State.calCmd (s : State) (m : Master) (v : Nat) : State :=
  let s1 := (s.set CAL.CMD_SEQ (bits v 23 20)).set CAL.CMD_TARGET (bits v 15 0)
  let s2 := if bitOf v 30 then (execCalAbort m s1).after s1 else s1
  let s3 := if bitOf v 31 then s2.calRun (bits v 23 20) (bits v 15 0) else s2
  if bitOf v 29 then s3.fresh.2.calCmdCommit (s3.fresh.1 % 2 == 1) else s3

/-- BOOT_PTR: Core P alone, kept in MRAM (R493). -/
def State.bootPtrWrite (s : State) (m : Master) (fs : List (Fld × Nat)) (v : Nat) : State :=
  if m == .coreP then
    let s1 := s.plainWrite fs v 0xFFFFFFFF
    { s1 with nv.bootPtr := bits v 8 8 * 256 + bits v 7 4 * 16 + bits v 2 0 }
  else s

/-- IRQ_CFG of the source that IRQ_SEL names: one written before is in force by now, this one from the next cycle on (R28). -/
def State.irqCfgWrite (s : State) (v : Nat) : State :=
  let cfg := match s.bus.irqNew with
    | some (k, w) => Tab.set 0 s.bus.irqCfg k w
    | none => s.bus.irqCfg
  { s with bus.irqCfg := cfg, bus.irqNew := some (s.get SYS.IRQ_SEL_SRC, v % 256) }

/-- LSC HF_CMD (R229, R236): TARGET, SEQ and ENTRY as written; RELEASE, then GO. -/
def State.hfCmd (s : State) (fs : List (Fld × Nat)) (v : Nat) : State :=
  let s1 := s.plainWrite fs v 0xFFFFFFFF
  let s2 := if bitOf v 31 then (if bitOf v 28 then s1.hftEnd else s1.hfrEnd) else s1
  if bitOf v 30 then s2.hfLeaseGo (bits v 28 28) (bits v 27 24) (bits v 14 2) else s2

/-- The effect of a write to a register that does more than store its fields, in the blocks of this file. -/
def State.nodeHook (s : State) (fs : List (Fld × Nat)) (m : Master) (a v : Nat) : Option State :=
  let all := 0xFFFFFFFF
  ((SYS.LC_STATE.inst a).map fun _ => s.coreWrite m fs v) <|>
  ((SYS.MODE_MODE.inst a).map fun _ => s.coreWrite m fs v) <|>
  ((SYS.IRQ_CFG_A_EN.inst a).map fun _ => s.irqCfgWrite v) <|>
  ((SYS.SWI_SET_SWI.inst a).map fun _ => s.swiSet v) <|>
  ((SYS.WDT_CTRL_EN.inst a).map fun n => s.wdtCtrl n m v) <|>
  ((SYS.WDT_TIMEOUT_MS.inst a).map fun n =>
    if wdtWriter n m && !s.on SYS.WDT_CTRL_EN n then s.plainWrite fs v all else s) <|>
  ((SYS.WDT_KICK_KEY.inst a).map fun n => s.wdtKick n m v) <|>
  ((SYS.WDT_CNT_COUNT.inst a).map fun n => if wdtWriter n m then s.plainWrite fs v all else s) <|>
  ((CLK.CTRL_SS.inst a).map fun _ => (s.plainWrite fs v all).clkSpread) <|>
  ((CLK.PLL_CFG_MULT.inst a).map fun _ => s.multWrite m (bits v 4 0)) <|>
  ((CLK.CMD_BYPASS.inst a).map fun _ => s.clkCmd m v) <|>
  ((CLK.OUT_EN.inst a).map fun n => s.clkOut n m v) <|>
  ((PWR.DOM_CTRL_RADIO.inst a).map fun _ => s.domCtrl m v) <|>
  ((LSC.CMD_START.inst a).map fun n => s.seqCmd n v) <|>
  ((LSC.DOORBELL_RING.inst a).map fun n => if bitOf v 0 then s.seqEvent n evDBL else s) <|>
  ((LSC.GCMD_START.inst a).map fun _ =>
    (s.forL (setBits 16 v) fun n t => if bitOf v (16 + n) then t else t.seqStart n seqRUN).forL (setBits 16 (v / 65536))
      fun n t => t.seqStop n) <|>
  ((LSC.HF_CMD_GO.inst a).map fun _ => s.hfCmd fs v) <|>
  ((TMR.GSTART_MASK.inst a).map fun _ => s.forL (setBits 16 v) fun n t => t.tmrStart n) <|>
  ((TMR.GSTOP_MASK.inst a).map fun _ => s.forL (setBits 16 v) fun n t => t.tmrStop n) <|>
  ((TMR.CTRL_OWNER.inst a).map fun n => s.tmrCtrl n fs v) <|>
  ((TMR.CMD_ARM.inst a).map fun n => s.tmrCmd n v) <|>
  ((RGE.CTRL_RF_EN.inst a).map fun _ => s.rgeCtrl m v) <|>
  ((RGE.KILL_KILL.inst a).map fun _ => if bitOf v 0 then s.killReg else s.killRegClear) <|>
  ((RGE.QUIET_CLR_CLR.inst a).map fun _ =>
    if bitOf v 0 && m == .coreP then s.set RGE.STATE_QUIET_LATCH 0 else s) <|>
  ((HFR.CTRL_EN.inst a).map fun _ => s.hfrCtrl fs v) <|>
  ((HFR.FT_DATA_DATA.inst a).map fun _ => (execFtDataAccess true v s).after s) <|>
  ((HFR.GL_CMD_ARM.inst a).map fun _ => s.glCmd v) <|>
  ((HFT.CTRL_EN.inst a).map fun _ => s.hftCtrl fs v) <|>
  ((HFT.WCMD_GO.inst a).map fun _ => s.wcmd m fs v) <|>
  ((HFT.PCMD_RESPOND.inst a).map fun _ => s.pcmd m v) <|>
  ((LUM.LEVEL_TARGET.inst a).map fun _ => s.levelWrite v) <|>
  ((LUM.CURVE_DATA_DATA.inst a).map fun _ => s.curveWrite v) <|>
  ((LUM.FS_CTRL_KICK.inst a).map fun _ => s.fsCtrl m fs v) <|>
  ((LUM.DALI_CMD_GO.inst a).map fun _ => s.daliCmd v) <|>
  ((MPT.IND_CMD_GO.inst a).map fun _ => s.indCmd v) <|>
  ((MPT.CACHE_INV.inst a).map fun _ => if bitOf v 0 then s.cacheInv else s) <|>
  ((MPT.XWIN_EN.inst a).map fun n => s.xwinWrite n v) <|>
  ((MPT.RCFG_EN.inst a).map fun _ => s.rcfgWrite (s.get MPT.RSEL_REGION) v) <|>
  ((MPT.RSTART_PAGE.inst a).map fun _ => s.regionWrite fun g => { g with start := v - v % 4096 }) <|>
  ((MPT.REND_PAGE.inst a).map fun _ => s.regionWrite fun g => { g with last := v - v % 4096 }) <|>
  ((MPT.RNONCE_LO_NONCE.inst a).map fun _ => s.regionWrite fun g =>
    { g with nonce := g.nonce - g.nonce % 4294967296 + v }) <|>
  ((MPT.RNONCE_HI_NONCE.inst a).map fun _ => s.regionWrite fun g =>
    { g with nonce := g.nonce % 4294967296 + 4294967296 * v }) <|>
  ((GRN.CTRL_EN.inst a).map fun _ => s.grnCtrl fs v) <|>
  ((GRN.CMD_COMMIT.inst a).map fun _ => s.grnCmdWrite v) <|>
  ((GRN.AREA_SEL.inst a).map fun _ => if s.on GRN.CTRL_EN then s else s.plainWrite fs v all) <|>
  ((GRN.GEOM_JBLOCKS.inst a).map fun _ => if s.on GRN.CTRL_EN then s else s.plainWrite fs v all) <|>
  ((GRN.NR_TAIL_VALUE.inst a).map fun _ => s.nrTail v) <|>
  ((HLK.HOST_IRQ_SET.inst a).map fun _ => s.hostIrq v) <|>
  ((CAL.CMD_RUN.inst a).map fun _ => s.calCmd m v) <|>
  ((AON.BOOT_PTR_FW.inst a).map fun _ => s.bootPtrWrite m fs v)

/-- A write of the 32-bit word `v` to the register at `a` of a block, by any master. -/
def State.wordWrite (s : State) (b : Blk) (m : Master) (a v : Nat) : State :=
  let fs := b.at a
  ((s.portHook fs m a v) <|> (s.nodeHook fs m a v)).getD (s.plainWrite fs v 0xFFFFFFFF)

/-- One field of instance `n` written by a master, the register's other fields keeping the values that reads return. -/
def State.fieldWrite (s : State) (f : Fld) (n : Nat) (m : Master) (v : Nat) : State :=
  match blockAt f.addr with
  | none => s
  | some b =>
    let a := f.at n
    let fs := (b.at a).filter fun p => p.1.acc.writable && p.1 != f
    s.wordWrite b m a (s.wordOf fs + v % 2 ^ f.width * 2 ^ f.lo)

end Sys2Proof.Machine
end

