-- ==== Sys2Proof/Machine/View.lean ====
section
/-! DEFINITION. Interrupt sources and claims (R28 to R33), and what reads of the registers return whose word is no word of
stored fields, in the blocks that the private port does not reach. -/

namespace Sys2Proof.Machine

open Sys2Proof

/-! ### Interrupt sources -/

/-- The sources whose block has no register in the spec: NET, PTP, SEC and DBG (R31). From the event that R31 names on, one of them
may be pending; whether firmware has taken its status since is open, for the spec gives no register to take it by. Of the two of
SEC the spec names no event, so they are open throughout (assumption 3). -/
def State.openSource (s : State) (k : Nat) : Bool :=
  if (decide (101 ≤ k) && decide (k ≤ 105)) || k == 122 then bitOf s.bus.events k else k == 111 || k == 112

/-- Whether interrupt source `k` is pending (R29, R31). -/
def State.srcPend (s : State) (k : Nat) : Bool :=
  let any := fun (f : Fld) (n mask : Nat) => (s.regWord f n).land mask != 0
  if k < 16 then any QUE.STATUS_WM_UP k 0x7
  else if k < 32 then any TMR.STATUS_DONE (k - 16) 1
  else if k < 48 then (s.regWord LSC.STATUS_HALTED (k - 32)).land (s.get LSC.IRQ_EN_EN (k - 32)) != 0
  else if k < 52 then s.regWord UTX.STATUS_STATE_CHG (k - 48) != 0
  else if k < 56 then any RFS.STATUS_LOCK (k - 52) 0x7
  else if k < 60 then any SHF.STATUS_RETURNED (k - 56) 0x5
  else if k < 64 then any WNW.STATUS_CENS_RDY (k - 60) 0x3
  else if k == 64 then any RGE.STATUS_VIOL 0 1
  else if k == 65 then any RGE.STATUS_VIOL 0 0x1C
  else if k == 66 then any ATB.STATUS_SLOT_PREP 0 0x3
  else if k == 67 then any ATB.STATUS_SLOT_PREP 0 0x2004
  else if k == 68 then any ATB.STATUS_SLOT_PREP 0 0x18
  else if k == 69 then any ATB.CAP_STATUS_CAPT 0 0xFF
  else if k == 70 then (List.range 8).any fun e => s.bit ATB.AEV_STATUS_FIRED e && bitOf (Tab.get 0 s.aev.route e) 0
  else if k == 71 then any ATB.STATUS_SLOT_PREP 0 0x20
  else if k < 88 then any URX.STATUS_STATE_CHG (k - 72) 0xC
  else if k == 88 then any HFR.STATUS_FRAME_DONE 0 1
  else if k == 89 then any HFR.STATUS_FRAME_DONE 0 0xE
  else if k == 90 then any HFR.STATUS_FRAME_DONE 0 0x10
  else if k == 91 then any HFT.STATUS_FIELD_ON 0 0x10
  else if k == 92 then any HFT.STATUS_FIELD_ON 0 0x3
  else if k == 93 then any HFT.STATUS_FIELD_ON 0 0xC
  else if k == 94 then any LUM.STATUS_DALI_DONE 0 0x3
  else if k == 95 then any LUM.STATUS_DALI_DONE 0 0x14
  else if k == 96 then any LUM.STATUS_DALI_DONE 0 0x20
  else if k == 97 then any MPT.STATUS_DONE 0 1
  else if k == 98 then any MPT.STATUS_DONE 0 0x6
  else if k == 99 then any GRN.STATUS_NOTE 0 1
  else if k == 100 then any GRN.STATUS_NOTE 0 0x38
  else if k == 106 then any HLK.STATUS_FRAME_OK 0 1
  else if k == 107 then any HLK.STATUS_FRAME_OK 0 0xFE
  else if k == 108 then any CAL.STATUS_DONE 0 0x5
  else if k == 109 then any CAL.STATUS_DONE 0 0x1A
  else if k == 110 then any AGE.STATUS_WARN 0 0xFF
  else if k == 113 then any CLK.STATUS_LOL 0 1
  else if k == 114 then any CLK.STATUS_LOL 0 2
  else if k == 115 then any PWR.STATUS_LEW 0 1
  else if k == 116 then any PWR.STATUS_LEW 0 0x24
  else if k == 117 then any PWR.STATUS_LEW 0 0x8
  else if k == 118 then any AON.STATUS_UPT_MATCH 0 1
  else if k == 119 then any SYS.STATUS_BUS_ERR 0 1
  else if k == 120 then any SYS.STATUS_BUS_ERR 0 2
  else if k == 121 then s.on SYS.WDT_STATUS_WARN 0 || s.on SYS.WDT_STATUS_WARN 1
  else if k == 123 then any URX.CAP_STATUS_DONE 0 0xF
  else if 124 ≤ k && k ≤ 127 then s.bit SYS.SWI_STATUS_SWI (k - 124)
  else if s.openSource k then bitOf (Config.freeValue s.freeCount) k
  else false

/-- The configuration in force of a source, in IRQ_CFG's layout (R28). -/
def State.irqCfgOf (s : State) (k : Nat) : Nat := Tab.get 0 s.bus.irqCfg k

/-- The source presented to Core A (`core` 0) or Core B: of the enabled pending ones the highest priority, then the lowest
number (R30). -/
def State.irqClaim (s : State) (core : Nat) : Option Nat :=
  let on := (s.bus.irqCfg.map Prod.fst).filter fun k => bitOf (s.irqCfgOf k) (3 + 4 * core) && s.srcPend k
  let pri := fun (k : Nat) => bits (s.irqCfgOf k) (2 + 4 * core) (4 * core)
  on.foldl (fun (b : Option Nat) k => match b with
    | none => some k
    | some j => if pri j < pri k then some k else some j) none

/-- A claim register's word. -/
def State.claimWord (s : State) (core : Nat) : Nat :=
  match s.irqClaim core with
  | some k => 2147483648 + k
  | none => 0

/-- An IRQ_CFG written in an earlier cycle takes effect (R28). -/
def State.irqTake (s : State) : State :=
  match s.bus.irqNew with
  | some (k, v) => { s with bus := { s.bus with irqCfg := Tab.set 0 s.bus.irqCfg k v, irqNew := none } }
  | none => s

/-! ### Words that are computed -/

/-- The square root of `v`, rounded down, below 2^32. -/
def isqrt (v : Nat) : Nat :=
  (List.range 32).foldl (fun r i => if (r + 2 ^ (31 - i)) ^ 2 ≤ v then r + 2 ^ (31 - i) else r) 0

/-- PA_DRIFT of the chain and group selected: mean and standard deviation of the samples, rounding open (assumption 23). -/
def State.paDrift (s : State) : Nat :=
  let l := Tab.get [] s.age.pa (4 * s.get AGE.PA_SEL_CHAIN + s.get AGE.PA_SEL_GROUP)
  let d := driftSums l
  let n := max 1 l.length
  let mean : Int := if d.1 < 0 then -(divOpen d.1.natAbs n : Nat) else (divOpen d.1.natAbs n : Nat)
  let r := isqrt (d.2 / (n * n))
  let sig := if r * r * n * n == d.2 then r else r + Config.roundUp d.2 (n * n) % 2
  65536 * unsignedOf 16 mean + min 65535 sig

/-- CHAIN_INFO of the chain selected (R144, R152). -/
def State.chainInfo (s : State) : Nat :=
  let n := s.get RGE.CHAIN_SEL_CH
  let c := s.chanNow n
  Tab.get 0 s.rge.lastCode n % 32 * 2 ^ 27 + min 2047 (s.dutyPermil n) * 65536 + s.ceilOf c * 256 +
    64 * b2n c.isSome + c.getD 0

/-- Violations within the last VIOL_WIN_S. -/
def State.violRecent (s : State) : Nat := (s.rge.viols.filter fun t => decide (s.now ≤ t + s.violWin)).length

/-- The registers of these blocks whose word is not a word of stored fields. -/
def State.nodeView (s : State) (m : Master) (a : Nat) : Option Nat :=
  let stored := fun (f : Fld) => s.regWord f
  ((SYS.IRQ_CFG_A_EN.inst a).map fun _ =>
    match s.bus.irqNew with
    | some (k, v) => if k == s.get SYS.IRQ_SEL_SRC then v else s.irqCfgOf (s.get SYS.IRQ_SEL_SRC)
    | none => s.irqCfgOf (s.get SYS.IRQ_SEL_SRC)) <|>
  ((SYS.IRQ_CLAIM_A_VALID.inst a).map fun _ => s.claimWord 0) <|>
  ((SYS.IRQ_CLAIM_B_VALID.inst a).map fun _ => s.claimWord 1) <|>
  ((SYS.IRQ_PEND_PEND.inst a).map fun k => maskOf 32 fun i => s.srcPend (32 * k + i)) <|>
  ((SYS.WDT_STATE_LEFT.inst a).map fun n => 65536 * min 65535 (s.wdtLeft n) + s.get SYS.WDT_STATE_AFTER n) <|>
  ((TMR.SUM_ARMED.inst a).map fun _ =>
    65536 * maskOf 16 (fun n => tmRUNNING ≤ s.get TMR.STATE_STATE n) + maskOf 16 fun n => s.get TMR.STATE_STATE n == tmARMED) <|>
  ((RGE.STATE_PROFILE_OK.inst a).map fun _ => stored RGE.STATE_PROFILE_OK + s.violRecent * 2 ^ 24) <|>
  ((RGE.CHAIN_INFO_CHAN.inst a).map fun _ => s.chainInfo) <|>
  ((RGE.OCC_MS.inst a).map fun _ =>
    65536 * s.get RGE.OCC_CH + min 65535 (s.occUnits (s.get RGE.OCC_CH) / 100)) <|>
  ((RGE.LOG_LO_VALID.inst a).map fun _ => (s.rgePop m).1) <|>
  ((RGE.LOG_HI_CYCLE.inst a).map fun _ => s.shadowOf (RGE.LOG_LO_VALID.at 0) m) <|>
  ((LSC.RUN_SUM_RUN.inst a).map fun _ =>
    65536 * maskOf 16 (fun n => s.seqSt n == seqIDLE) + maskOf 16 fun n => s.seqSt n == seqRUN || s.seqSt n == seqWAIT) <|>
  ((LSC.IRQ_SUM_PEND.inst a).map fun _ => maskOf 16 fun n => s.srcPend (32 + n)) <|>
  ((GRN.JSEQ_HI_VALUE.inst a).map fun _ => s.shadowOf (GRN.JSEQ_LO_VALUE.at 0) m) <|>
  ((HFR.FT_DATA_DATA.inst a).map fun _ => Tab.get 0 s.hfr.table (s.get HFR.FT_ADDR_WADDR)) <|>
  ((HFT.UID_LO_UID.inst a).map fun _ => le32 uid7 0) <|>
  ((HFT.UID_HI_UID.inst a).map fun _ => le32 uid7 4) <|>
  ((LUM.CURVE_DATA_DATA.inst a).map fun _ => s.curveWord (s.get LUM.CURVE_ADDR_ADDR)) <|>
  s.mptView a <|>
  ((CAL.REC_DATA_DATA.inst a).map fun _ =>
    s.cal16 (4 * s.get CAL.REC_ADDR_WADDR) + 65536 * s.cal16 (4 * s.get CAL.REC_ADDR_WADDR + 2)) <|>
  ((AGE.PA_DRIFT_MEAN.inst a).map fun _ => s.paDrift) <|>
  ((PWR.RAIL_BUCKB_TGT.inst a).map fun _ =>
    Config.freeValue s.freeCount % 65536 * 65536 + (if s.on PWR.STATE_BUCKB_ON then s.buckTarget % 256 else 0)) <|>
  ((PWR.LINE_LINE_MV.inst a).map fun _ =>
    Config.freeValue s.freeCount % 65536 * 65536 + s.seen PWR.LINE_LINE_MV 0) <|>
  ((HFR.DRV_MON_TEMP.inst a).map fun _ => Config.freeValue s.freeCount % 4294967296)

/-- The registers whose words hold an open value: sensors that no command feeds, and sources of blocks without registers. -/
def openRead (a : Nat) : Bool :=
  (PWR.RAIL_BUCKB_TGT.inst a).isSome || (PWR.LINE_LINE_MV.inst a).isSome ||
  (HFR.DRV_MON_TEMP.inst a).isSome || (SYS.IRQ_CLAIM_A_VALID.inst a).isSome || (SYS.IRQ_CLAIM_B_VALID.inst a).isSome ||
  (SYS.IRQ_PEND_PEND.inst a).isSome

/-- What a read of these blocks does beside clearing read-clear bits: an entry popped, an address advanced, an open value
drawn. -/
def State.nodeReadFx (s : State) (m : Master) (a : Nat) : Option State :=
  ((RGE.LOG_LO_VALID.inst a).map fun _ => (s.rgePop m).2) <|>
  ((TMR.CAPT_COUNT.inst a).map fun n => { s with tmrUnread := putBit s.tmrUnread n false }) <|>
  ((GRN.JSEQ_LO_VALUE.inst a).map fun _ => s.latch a m (s.get GRN.JSEQ_HI_VALUE)) <|>
  ((HFR.FT_DATA_DATA.inst a).map fun _ => s.set HFR.FT_ADDR_WADDR (s.get HFR.FT_ADDR_WADDR + 1)) <|>
  ((LUM.CURVE_DATA_DATA.inst a).map fun _ => s.curveNext) <|>
  ((CAL.REC_DATA_DATA.inst a).map fun _ => s.set CAL.REC_ADDR_WADDR (s.get CAL.REC_ADDR_WADDR + 1)) <|>
  (if openRead a then some s.fresh.2 else none)

end Sys2Proof.Machine
end

