-- ==== Sys2Proof/Machine/Bus.lean ====
section
/-! DEFINITION. Reads and writes of the crossbar by the cores and the Host Link bridge: the map, widths and alignment, memories
and peripheral registers, and the commands that are such accesses (R10, R17 to R22, R28, R436 to R440, R445). -/

namespace Sys2Proof.Machine

open Sys2Proof

/-- What an access comes to: a value, a bus error, or a register of a block whose registers the spec does not list. -/
inductive BusRes where
  | ok (v : Nat)
  | error
  | unlisted (base : Nat)
  deriving DecidableEq, Repr

/-! ### Registers -/

/-- The ports that take no narrow access (R437). -/
def queuePort (a : Nat) : Bool :=
  (QUE.PUSH_DATA.inst a).isSome || (QUE.POP_DATA.inst a).isSome || (QUE.PEEK_DATA.inst a).isSome

/-- The lanes of a word that an access of `w` bytes at `a` reaches, as a value. -/
def laneValue (v a w : Nat) : Nat := v / 256 ^ (a % 4) % 256 ^ w

/-- Core B's read of CENS_E ends its copy of a census block into LAST_CENSUS (R276). -/
def State.censCopy (s : State) (m : Master) (a : Nat) : State :=
  match WNW.CENS_E_PARTIAL.inst a with
  | some sh =>
    if m == .coreB then
      s.setObj 0x3720 (sh + 1) (([WNW.CENS_A_LOW, WNW.CENS_B_LOW, WNW.CENS_C_LOW, WNW.CENS_D_LOW,
        WNW.CENS_E_PARTIAL].flatMap fun f => toLe 4 (s.regWord f sh)))
    else s
  | none => s

/-- A read of `w` bytes at `a`, aligned, in a block (R437): the lanes returned, RC bits in them cleared, and what else the read
does. -/
def State.regRead (s : State) (b : Blk) (m : Master) (a w : Nat) : Nat × State :=
  let r := b.decode (a - a % 4)
  let fs := b.at r
  let v := ((s.portView m r) <|> (s.nodeView m r)).getD (s.wordOf fs)
  let s1 := ((s.portReadFx m r).nodeReadFx m r).getD (s.portReadFx m r)
  (laneValue v a w, (s1.rcClear fs (laneMask (a % 4) w)).censCopy m r)

/-- A write of `w` bytes at `a`, aligned, to a block (R437): whole words to any register, lanes to a BW one; none where the
width faults. -/
def State.regWrite (s : State) (b : Blk) (m : Master) (a w v : Nat) : Option State :=
  let r := b.decode (a - a % 4)
  let fs := b.at r
  if (MPT.IBUF_DATA.inst r).isSome then some (s.ibufWrite ((r - MPT.IBUF_DATA.addr) + a % 4) w (v % 256 ^ w))
  else if w == 4 then some (s.wordWrite b m r (v % 4294967296))
  else if fs.any fun p => p.1.acc == .bw then
    some (s.plainWrite fs (v % 256 ^ w * 256 ^ (a % 4)) (laneMask (a % 4) w))
  else none

/-! ### One access -/

/-- The column of R22 that a master stands in. -/
def busInit (m : Master) : Nat := masterNum m

/-- An access that faults: recorded and counted (R19). -/
def State.busFault (s : State) (m : Master) (a : Nat) (write : Bool) : BusRes × State :=
  (.error, if mapOk (busInit m) a write then s.busError a (busInit m) write false else s.mapError (busInit m) a write)

/-- The widths of an access, and its alignment (R437, R438). -/
def busAligned (a w : Nat) : Bool := (w == 1 || w == 2 || w == 4) && a % w == 0

/-- The instruction and data path of a core reads the XIP window through the Memory Port; its answer is the response, an access
fault where the port refuses (R19, R361, R362). -/
def State.xipBus (s : State) (m : Master) (a w : Nat) : BusRes × State :=
  let t := (s.respond 0 false).xipRead m (a - a % 4)
  (if t.bus.resp.error then .error else .ok (laneValue t.bus.resp.value a w), t)

/-- One read of 1, 2 or 4 bytes. What the boot ROM holds is open (assumption 3), and so is the sample buffer while a capture stores
into it: a mixture of old and new instants (R129). -/
def State.busRead1 (s : State) (m : Master) (a w : Nat) : BusRes × State :=
  if !mapOk (busInit m) a false || !busAligned a w then s.busFault m a false
  else match mapRow a with
    | some 0 => (.ok (s.fresh.1 % 256 ^ w), s.fresh.2)
    | some 2 =>
      if s.on URX.CAP_STATUS_RUNNING then (.ok (s.fresh.1 % 256 ^ w), s.fresh.2) else (.ok (ofLe (s.rdBytes a w)), s)
    | some 7 =>
      match blockAt a with
      | none => (.unlisted (a / 65536 * 65536), s)
      | some b =>
        if w != 4 && queuePort (b.decode (a - a % 4)) then s.busFault m a false
        else
          let r := s.regRead b m a w
          (.ok r.1, r.2)
    | some 8 => s.xipBus m a w
    | _ => (.ok (ofLe (s.rdBytes a w)), s)

/-- One write of 1, 2 or 4 bytes. A sequencer's memory takes it only while the sequencer is STOPPED (R17). -/
def State.busWrite1 (s : State) (m : Master) (a w v : Nat) : BusRes × State :=
  if !mapOk (busInit m) a true || !busAligned a w then s.busFault m a true
  else match mapRow a with
    | some 7 =>
      match blockAt a with
      | none => (.unlisted (a / 65536 * 65536), s)
      | some b =>
        match s.regWrite b m a w v with
        | some t => (.ok 0, t)
        | none => s.busFault m a true
    | some 3 =>
      if s.get LSC.STATE_STATE (a / 0x8000 % 16) == seqSTOPPED then
        (.ok 0, (s.wrBytes a (toLe w v)).freshPar a w) else s.busFault m a true
    | _ => (.ok 0, s.wrBytes a (toLe w v))

/-- A read; one of 8 bytes, aligned to 4, is split into LO then HI, and a fault of LO suppresses HI (R437, R438). -/
def State.busRead (s : State) (m : Master) (a w : Nat) : BusRes × State :=
  if w == 8 && a % 4 == 0 then
    match s.busRead1 m a 4 with
    | (.ok lo, t) =>
      match t.busRead1 m (a + 4) 4 with
      | (.ok hi, u) => (.ok (lo + 4294967296 * hi), u)
      | r => r
    | r => r
  else s.busRead1 m a w

/-- A write; one of 8 bytes, aligned to 4, is split into LO then HI (R437, R438). -/
def State.busWrite (s : State) (m : Master) (a w v : Nat) : BusRes × State :=
  if w == 8 && a % 4 == 0 then
    match s.busWrite1 m a 4 (v % 4294967296) with
    | (.ok _, t) => t.busWrite1 m (a + 4) 4 (v / 4294967296 % 4294967296)
    | r => r
  else s.busWrite1 m a w v

/-! ### Commands -/

/-- The private port's window that an address lies in (R222). -/
def portOf (a : Nat) : Option Nat := (List.range 7).find? fun k => portBase k == a / 65536 * 65536

/-- A read by a master, answered with its value or an error (R19). A sequencer reads through its private port alone (R16). -/
def State.readCmd (s : State) (m : Master) (a w : Nat) : Out :=
  match m with
  | .seq n =>
    match portOf a with
    | some k =>
      let r := s.portRead n k (a % 65536 - a % 4)
      .next (r.2.respond r.1 false)
    | none => .next s
  | _ =>
    match s.busRead m a w with
    | (.ok v, t) => .next (t.respond v false)
    | (.error, t) => .next (t.respond 0 true)
    | (.unlisted b, _) => .refused (.registersNotGiven b)

/-- A write by a master (R19); a sequencer's goes through its private port (R16). -/
def State.writeCmd (s : State) (m : Master) (a w v : Nat) : Out :=
  match m with
  | .seq n =>
    match portOf a with
    | some k => .next (s.portWrite n k (a % 65536 - a % 4) (v % 4294967296))
    | none => .next s
  | _ =>
    match s.busWrite m a w v with
    | (.ok _, t) => .next t
    | (.error, t) => .next (t.respond 0 true)
    | (.unlisted b, _) => .refused (.registersNotGiven b)

/-- REGISTER_WRITE (R10, R437): a write of `width` bytes by a master. -/
def execRegisterWrite (m : Master) (addr width value : Nat) (s : State) : Out := s.writeCmd m addr width value

/-- RC_READ (R437, R445): a read of `width` bytes by a master. -/
def execRcRead (m : Master) (addr width : Nat) (s : State) : Out := s.readCmd m addr width

/-- LO_READ_SHADOW (R440): a read of a LO register. -/
def execLoReadShadow (m : Master) (addr : Nat) (s : State) : Out := s.readCmd m addr 4

/-- IRQ_CFG_WRITE (R28): a write of IRQ_CFG, for the source that IRQ_SEL names. -/
def execIrqCfgWrite (m : Master) (value : Nat) (s : State) : Out := s.writeCmd m (SYS.IRQ_CFG_A_EN.at 0) 4 value

/-- SEQ_MEMORY_WRITE (R17): a write into the sequencer memories. -/
def execSeqMemoryWrite (m : Master) (addr width value : Nat) (s : State) : Out :=
  if mapRow addr == some 3 then s.writeCmd m addr width value else .next s

end Sys2Proof.Machine
end

