-- ==== Sys2Proof/Machine/ObjTab.lean ====
section
/-! DEFINITION. The object dictionary as the spec's object tables list it (R408, R413, R415, R416 and the object tables of the
other chapters): index and subindex ranges, type, access, where the value comes from, and the default. -/

namespace Sys2Proof.Machine

open Sys2Proof

/-- The access codes of R11: read-only, read-write, read-write persistent on STORE, write in FACTORY only and kept, write-only,
constant. -/
inductive OAcc where
  | ro | rw | rwp | rws | wo | cst
  deriving DecidableEq, Repr

/-- Where an object's value comes from: its own bytes, a register field of the instance that the subindex names, the word of a
register, or a computation of its own. -/
inductive OSrc where
  | own
  | fld (f : Fld)
  | word (f : Fld)
  | comp
  deriving DecidableEq, Repr

/-- A line of an object table. `fx` are the register fields into which firmware copies the value, every instance of them. -/
structure ObjDef where
  index : Nat
  nIndex : Nat
  sub : Nat
  nSub : Nat
  ty : Nat
  acc : OAcc
  src : OSrc
  fx : List Fld
  dflt : List Nat
  deriving DecidableEq, Repr

/-- Objects from index 0x0100: VENDOR, PART, STEPPING, ORDER_CODE, SERIAL, NODE_ID, SITE_ID, OD_SCHEMA, INTERFACE_EPOCH, TABLE_LEVELS, STORE, RESTORE, STORE_GEN, STORE_RESULT, LIFECYCLE, LC_REQUEST, LC_PENDING, IMAGE, IMAGE_HEADER, BOOT_STATE, CONFIRM, ROLLBACK_COUNTER, SIGN_KEY, SEC_KEY, BOOT_REQUEST, MODE, MODE_CAUSE, QUIET_HOLD_S, RESTART. -/
def objs0 : List ObjDef := [
  ⟨0x0100, 1, 1, 1, 11, .cst, .own, [], [69, 110, 97, 118, 97, 104, 97, 108]⟩,
  ⟨0x0100, 1, 2, 1, 11, .cst, .own, [], [84, 72, 52, 48, 49, 54]⟩,
  ⟨0x0100, 1, 3, 1, 1, .cst, .own, [], [176]⟩,
  ⟨0x0100, 1, 4, 1, 11, .cst, .own, [], [84, 72, 52, 48, 49, 54, 66, 48, 45, 71, 73]⟩,
  ⟨0x0100, 1, 5, 1, 4, .cst, .comp, [], []⟩,
  ⟨0x0102, 1, 1, 1, 2, .rwp, .own, [LSC.NODE_NODE], [0, 0]⟩,
  ⟨0x0102, 1, 2, 1, 2, .rwp, .own, [], [0, 0]⟩,
  ⟨0x0103, 1, 0, 1, 2, .ro, .comp, [], []⟩,
  ⟨0x0104, 1, 0, 1, 2, .ro, .comp, [], []⟩,
  ⟨0x0105, 1, 0, 1, 12, .ro, .comp, [], []⟩,
  ⟨0x0110, 1, 0, 1, 1, .wo, .own, [], []⟩,
  ⟨0x0111, 1, 0, 1, 1, .wo, .own, [], []⟩,
  ⟨0x0112, 1, 1, 1, 3, .ro, .comp, [], [0, 0, 0, 0]⟩,
  ⟨0x0112, 1, 2, 1, 1, .ro, .comp, [], [0]⟩,
  ⟨0x0120, 1, 0, 1, 1, .ro, .fld SYS.LC_STATE, [], [1]⟩,
  ⟨0x0121, 1, 0, 1, 3, .wo, .own, [], []⟩,
  ⟨0x0122, 1, 0, 1, 1, .ro, .comp, [], [255]⟩,
  ⟨0x0130, 1, 1, 3, 12, .rw, .comp, [], []⟩,
  ⟨0x0131, 1, 1, 6, 12, .ro, .comp, [], []⟩,
  ⟨0x0132, 1, 0, 1, 3, .ro, .word SYS.BOOT_FW, [], [0, 0, 0, 0]⟩,
  ⟨0x0133, 1, 0, 1, 1, .wo, .own, [], []⟩,
  ⟨0x0134, 1, 1, 3, 3, .ro, .comp, [], [0, 0, 0, 0]⟩,
  ⟨0x0135, 1, 1, 2, 12, .rws, .own, [], []⟩,
  ⟨0x0136, 1, 1, 16, 12, .wo, .own, [], []⟩,
  ⟨0x0137, 1, 0, 1, 1, .wo, .own, [], []⟩,
  ⟨0x0140, 1, 1, 1, 1, .ro, .fld SYS.MODE_MODE, [], [3]⟩,
  ⟨0x0140, 1, 2, 1, 1, .ro, .fld SYS.MODE_CAUSE, [], [0]⟩,
  ⟨0x0141, 1, 0, 1, 2, .rwp, .own, [], [88, 2]⟩,
  ⟨0x0142, 1, 0, 1, 1, .wo, .own, [], []⟩]

/-- Objects from index 0x1000: LINK_UP, TX_LEVEL, SQI, TX_LEVEL_ALLOW, MAC_ADDRESS, IPV6_ADDRESSES, PD_CLASS_ADV, PD_CLASS, LINE_MV, UNCLASSED_MW, NODE_POWER_CEILING_MW, DEVICE_RESERVE_MW, PA_EFF_PCT, PA_IDLE_MW, MIN_PA_BUDGET_MW, BUDGET_MW, BUDGET_USED_MW, SLOTS_UNSERVED, SLOTS_ADJUSTED, PTP_DOMAIN, PTP_DELAY_MECH, PTP_SLAVE_ONLY, PTP_PRIORITY1, PTP_LOCKED, PTP_OFFSET_NS, PTP_PATH_DELAY_NS, TOT_PORT, TOT_GROUP, SITE_KEY, TX_KEY_ID, REQ_TIMEOUT_MS, RETRIES, PLAN_SEQ, SUBSCRIPTIONS, CNT_FORMAT, CNT_SITE, CNT_KEY, CNT_REPLAY, CNT_AUTH, CNT_TX. -/
def objs1a : List ObjDef := [
  ⟨0x1000, 1, 1, 1, 10, .ro, .comp, [], [0]⟩,
  ⟨0x1000, 1, 2, 1, 1, .ro, .comp, [], [1]⟩,
  ⟨0x1000, 1, 3, 1, 1, .ro, .comp, [], [0]⟩,
  ⟨0x1001, 1, 0, 1, 1, .rwp, .own, [], [3]⟩,
  ⟨0x1002, 1, 1, 1, 4, .cst, .comp, [], []⟩,
  ⟨0x1002, 1, 2, 1, 12, .ro, .comp, [], []⟩,
  ⟨0x1010, 1, 1, 1, 1, .rwp, .own, [], [14]⟩,
  ⟨0x1010, 1, 2, 1, 1, .ro, .fld PWR.STATE_CLASS, [], [255]⟩,
  ⟨0x1010, 1, 3, 1, 3, .ro, .fld PWR.LINE_LINE_MV, [], [0, 0, 0, 0]⟩,
  ⟨0x1010, 1, 4, 1, 3, .rwp, .own, [], [0, 0, 0, 0]⟩,
  ⟨0x1011, 1, 0, 1, 3, .rwp, .own, [], [200, 50, 0, 0]⟩,
  ⟨0x1012, 1, 0, 1, 3, .rwp, .own, [], [100, 25, 0, 0]⟩,
  ⟨0x1013, 1, 0, 1, 1, .rwp, .own, [], [40]⟩,
  ⟨0x1014, 1, 0, 1, 2, .rwp, .own, [], [250, 0]⟩,
  ⟨0x1015, 1, 0, 1, 2, .rwp, .own, [], [232, 3]⟩,
  ⟨0x1016, 1, 1, 1, 7, .ro, .comp, [], [0, 0, 0, 0]⟩,
  ⟨0x1016, 1, 2, 1, 3, .ro, .comp, [], [0, 0, 0, 0]⟩,
  ⟨0x1016, 1, 3, 1, 3, .ro, .comp, [], [0, 0, 0, 0]⟩,
  ⟨0x1016, 1, 4, 1, 2, .ro, .comp, [], [0, 0]⟩,
  ⟨0x1020, 1, 1, 1, 1, .rwp, .own, [], [0]⟩,
  ⟨0x1020, 1, 2, 1, 1, .rwp, .own, [], [0]⟩,
  ⟨0x1020, 1, 3, 1, 10, .rwp, .own, [], [1]⟩,
  ⟨0x1020, 1, 4, 1, 1, .rwp, .own, [], [248]⟩,
  ⟨0x1020, 1, 5, 1, 10, .ro, .fld ATB.STATE_PTP_OK, [], [0]⟩,
  ⟨0x1020, 1, 6, 1, 7, .ro, .comp, [], [0, 0, 0, 0]⟩,
  ⟨0x1020, 1, 7, 1, 3, .ro, .comp, [], [0, 0, 0, 0]⟩,
  ⟨0x1030, 1, 0, 1, 2, .cst, .own, [], [228, 167]⟩,
  ⟨0x1031, 1, 0, 1, 12, .rwp, .own, [], [255, 5, 0, 0, 0, 0, 0, 0, 0, 0, 0, 0, 0, 1, 167, 228]⟩,
  ⟨0x1033, 1, 1, 2, 12, .wo, .own, [], []⟩,
  ⟨0x1034, 1, 0, 1, 1, .rwp, .own, [], [0]⟩,
  ⟨0x1035, 1, 0, 1, 2, .rwp, .own, [], [200, 0]⟩,
  ⟨0x1036, 1, 0, 1, 1, .rwp, .own, [], [3]⟩,
  ⟨0x1037, 1, 0, 1, 3, .ro, .comp, [], [0, 0, 0, 0]⟩,
  ⟨0x1038, 1, 0, 1, 12, .ro, .comp, [], []⟩,
  ⟨0x1040, 1, 1, 1, 3, .ro, .comp, [], [0, 0, 0, 0]⟩,
  ⟨0x1040, 1, 2, 1, 3, .ro, .comp, [], [0, 0, 0, 0]⟩,
  ⟨0x1040, 1, 3, 1, 3, .ro, .comp, [], [0, 0, 0, 0]⟩,
  ⟨0x1040, 1, 4, 1, 3, .ro, .comp, [], [0, 0, 0, 0]⟩,
  ⟨0x1040, 1, 5, 1, 3, .ro, .comp, [], [0, 0, 0, 0]⟩,
  ⟨0x1040, 1, 6, 1, 3, .ro, .comp, [], [0, 0, 0, 0]⟩]

/-- Objects from index 0x1040: CNT_NOKEY, HL_ENABLE, HL_REG_WRITE, HL_OBJECTS, HL_COUNTS. -/
def objs1b : List ObjDef := [
  ⟨0x1040, 1, 7, 1, 3, .ro, .comp, [], [0, 0, 0, 0]⟩,
  ⟨0x1050, 1, 0, 1, 10, .rwp, .own, [HLK.CTRL_EN], [0]⟩,
  ⟨0x1051, 1, 0, 1, 10, .rwp, .own, [HLK.CTRL_WR_EN], [1]⟩,
  ⟨0x1052, 1, 0, 1, 10, .rwp, .own, [HLK.CTRL_OBJ_EN], [1]⟩,
  ⟨0x1053, 1, 1, 4, 3, .ro, .comp, [], [0, 0, 0, 0]⟩]

/-- Objects from index 0x2000: ATB_STATE, CYCLE, ANGLE, PERIOD_NS, SOURCE, NOMINAL_HZ, LOOP_BW, MAINS_FILTER, HOLDOVER_LIMIT, STANDALONE, PHASE_AU, DETECTOR_DELAY_AU, ANCHOR_CYCLE, ANCHOR_PTP_NS, ANCHOR_RESULT, PENDING_PLAN, ACTIVE_PLAN, PLAN_STATE, PLAN_REFUSE, ACTIVE_PLAN_ID, PREP_LEAD_AU. -/
def objs2 : List ObjDef := [
  ⟨0x2000, 1, 1, 1, 1, .ro, .fld ATB.STATE_STATE, [], [0]⟩,
  ⟨0x2000, 1, 2, 1, 3, .ro, .comp, [], [0, 0, 0, 0]⟩,
  ⟨0x2000, 1, 3, 1, 2, .ro, .comp, [], [0, 0]⟩,
  ⟨0x2000, 1, 4, 1, 3, .ro, .comp, [], [0, 0, 0, 0]⟩,
  ⟨0x2001, 1, 1, 1, 1, .rwp, .own, [], [0]⟩,
  ⟨0x2001, 1, 2, 1, 1, .rwp, .own, [], [50]⟩,
  ⟨0x2001, 1, 3, 1, 1, .rwp, .own, [ATB.CTRL_BW], [1]⟩,
  ⟨0x2001, 1, 4, 1, 1, .rwp, .own, [ATB.CTRL_MFILT], [0]⟩,
  ⟨0x2001, 1, 5, 1, 2, .rwp, .own, [ATB.HOLDOVER_LIMIT], [100, 0]⟩,
  ⟨0x2001, 1, 6, 1, 10, .rwp, .own, [], [0]⟩,
  ⟨0x2010, 1, 1, 1, 2, .rwp, .own, [], [0, 0]⟩,
  ⟨0x2010, 1, 2, 1, 6, .rwp, .own, [], [0, 0]⟩,
  ⟨0x2020, 1, 1, 1, 3, .rw, .own, [], [0, 0, 0, 0]⟩,
  ⟨0x2020, 1, 2, 1, 4, .rw, .own, [], [0, 0, 0, 0, 0, 0, 0, 0]⟩,
  ⟨0x2020, 1, 3, 1, 1, .ro, .own, [], [1]⟩,
  ⟨0x2100, 1, 0, 1, 12, .rw, .comp, [], []⟩,
  ⟨0x2101, 1, 0, 1, 12, .ro, .comp, [], []⟩,
  ⟨0x2102, 1, 1, 1, 1, .ro, .fld ATB.PLAN_CTRL_ARMED, [], [0]⟩,
  ⟨0x2102, 1, 2, 1, 1, .ro, .fld ATB.PLAN_CTRL_REFUSE, [], [0]⟩,
  ⟨0x2102, 1, 3, 1, 2, .ro, .fld ATB.CUR_SLOT_ACTIVE_PLAN_ID, [], [0, 0]⟩,
  ⟨0x2110, 1, 0, 1, 2, .rwp, .own, [ATB.PREP_PREP_LEAD], [144, 1]⟩]

/-- Objects from index 0x3000: TX_STATE, TX_FWD, TX_TEMP, KEY_COUNT, CARRIER_TIME, SYNTH_STATE, SYNTH_WAIT_US, TCAL_DELTA_C, PA_TOL, PA_TOL_US, HINT_ENABLE, POWER_TABLE, SHAPE_TABLE, RAMP_TABLE, BAND_HINTS, GANG_TRIM, SPUR_EXCLUSION, RX_STATE, RX_RESID, HOLD_LOST_COUNT, RX_FOREIGN_HZ, HOLD_LIM, HOLD_US, HOLD_HYST_DB, HOLD_POLICY, TRACK_BW, RX_ENABLE, AGC_ENABLE, DC_HPF, LAST_CAPTURE, REGION_PROFILE, PROFILE_SELECT, ACTIVE_PROFILE, RGE_STATE, PROFILE_OK, GUARD_DB, DENY_COUNT, VIOL_COUNT, CUT_COUNT, KILL_COUNT. -/
def objs3a : List ObjDef := [
  ⟨0x3000, 1, 1, 4, 1, .ro, .fld UTX.STATE_STATE, [], [0]⟩,
  ⟨0x3001, 1, 1, 4, 6, .ro, .fld UTX.FWD_FWD, [], [0, 128]⟩,
  ⟨0x3002, 1, 1, 4, 6, .ro, .fld UTX.TEMP_TEMP, [], [0, 0]⟩,
  ⟨0x3003, 1, 1, 4, 3, .ro, .fld UTX.CNT_KEY_COUNT, [], [0, 0, 0, 0]⟩,
  ⟨0x3004, 1, 1, 4, 3, .ro, .fld UTX.CNT_ON_COUNT, [], [0, 0, 0, 0]⟩,
  ⟨0x3005, 1, 1, 4, 1, .ro, .fld RFS.STATE_STATE, [], [0]⟩,
  ⟨0x3010, 1, 0, 1, 2, .rwp, .own, [UTX.LIMITS_SYNTH_WAIT], [150, 0]⟩,
  ⟨0x3011, 1, 0, 1, 1, .rwp, .own, [RFS.CTRL_TDELTA], [6]⟩,
  ⟨0x3012, 1, 0, 1, 1, .rwp, .own, [UTX.LIMITS_TOL], [32]⟩,
  ⟨0x3013, 1, 0, 1, 1, .rwp, .own, [UTX.LIMITS_TOL_US], [64]⟩,
  ⟨0x3014, 1, 0, 1, 10, .rwp, .own, [RFS.CTRL_HINT_EN], [1]⟩,
  ⟨0x3100, 16, 0, 1, 12, .rws, .own, [], []⟩,
  ⟨0x3120, 4, 0, 1, 12, .rws, .own, [], []⟩,
  ⟨0x3130, 1, 0, 1, 12, .rws, .own, [], []⟩,
  ⟨0x3140, 1, 0, 1, 12, .ro, .comp, [], []⟩,
  ⟨0x3150, 1, 1, 4, 1, .ro, .fld UTX.PHASE_TRIM, [], [0]⟩,
  ⟨0x3160, 1, 0, 1, 12, .rwp, .own, [], []⟩,
  ⟨0x3200, 1, 1, 16, 1, .ro, .fld URX.STATE_STATE, [], [0]⟩,
  ⟨0x3201, 1, 1, 16, 6, .ro, .fld URX.CNV_MON_RESID, [], [0, 128]⟩,
  ⟨0x3202, 1, 1, 16, 3, .ro, .fld URX.CNT_HOLD_COUNT, [], [0, 0, 0, 0]⟩,
  ⟨0x3203, 1, 1, 16, 6, .ro, .fld URX.FOFS_VALUE, [], [0, 0]⟩,
  ⟨0x3210, 1, 0, 1, 6, .rwp, .own, [URX.HOLD_CFG_LIM], [0, 201]⟩,
  ⟨0x3211, 1, 0, 1, 1, .rwp, .own, [URX.HOLD_CFG_HOLD_US], [8]⟩,
  ⟨0x3212, 1, 0, 1, 1, .rwp, .own, [URX.HOLD_CFG_HYST], [3]⟩,
  ⟨0x3213, 1, 0, 1, 1, .rwp, .own, [URX.HOLD_CFG_POLICY], [1]⟩,
  ⟨0x3214, 1, 0, 1, 1, .rwp, .own, [URX.CTRL_TRK_BW], [2]⟩,
  ⟨0x3215, 1, 0, 1, 2, .rwp, .own, [], [255, 255]⟩,
  ⟨0x3216, 1, 0, 1, 10, .rwp, .own, [URX.CTRL_AGC], [1]⟩,
  ⟨0x3217, 1, 0, 1, 1, .rwp, .own, [URX.DIG_CFG_HPF], [1]⟩,
  ⟨0x3220, 1, 0, 1, 12, .ro, .comp, [], []⟩,
  ⟨0x3300, 4, 0, 1, 12, .rws, .own, [], []⟩,
  ⟨0x3304, 1, 0, 1, 1, .rws, .own, [], [0]⟩,
  ⟨0x3305, 1, 0, 1, 12, .ro, .comp, [], []⟩,
  ⟨0x3310, 1, 1, 1, 3, .ro, .word RGE.STATE_PROFILE_OK, [], [0, 0, 0, 0]⟩,
  ⟨0x3310, 1, 2, 1, 10, .ro, .fld RGE.STATE_PROFILE_OK, [], [0]⟩,
  ⟨0x3310, 1, 3, 1, 2, .ro, .fld RGE.GUARD_GUARD, [], [0, 3]⟩,
  ⟨0x3311, 1, 1, 1, 3, .ro, .fld RGE.CNT_DENY_COUNT, [], [0, 0, 0, 0]⟩,
  ⟨0x3311, 1, 2, 1, 3, .ro, .fld RGE.CNT_VIOL_COUNT, [], [0, 0, 0, 0]⟩,
  ⟨0x3311, 1, 3, 1, 3, .ro, .fld RGE.CNT_CUT_COUNT, [], [0, 0, 0, 0]⟩,
  ⟨0x3311, 1, 4, 1, 3, .ro, .fld RGE.CNT_KILL_COUNT, [], [0, 0, 0, 0]⟩]

/-- Objects from index 0x3312: RGE_LOG, RF_KILL, OCCUPANCY_MS, SHEAF_LEASE, CF_STATE, BEAR_COUNT, ANTENNA_GEOMETRY, BEAR_MIN_CHAINS, BEAR_FOV_DEG, CF_MIN, CF_PRESET, ANT_SETTLE, BEAM_SET, FRAME_FORMAT, GEN2_VERSION, T2_DECISION_NS, SEQ_STATE, SEQ_FAULT, SEQ_TMO_COUNT, LSI_LEVEL, COLL_COUNT, CAPT_COUNT, CAPT_MISS_COUNT, CAPTURE_ENABLE, CAP_MARGIN_Q2, SRC_THR_Q2, VIOL_MAX, SPAT_MIN, CENSUS_LEN, LAST_CENSUS. -/
def objs3b : List ObjDef := [
  ⟨0x3312, 1, 0, 1, 12, .ro, .own, [], []⟩,
  ⟨0x3313, 1, 0, 1, 10, .rw, .fld RGE.KILL_KILL, [], [0]⟩,
  ⟨0x3314, 1, 1, 64, 2, .ro, .comp, [], [0, 0]⟩,
  ⟨0x3400, 1, 1, 4, 3, .ro, .word SHF.LEASE_STATE_HELD, [], [0, 0, 0, 0]⟩,
  ⟨0x3401, 1, 1, 4, 1, .ro, .fld SHF.CF_STATE_STATE, [], [0]⟩,
  ⟨0x3402, 1, 1, 4, 3, .ro, .fld SHF.CNT_BEAR_COUNT, [], [0, 0, 0, 0]⟩,
  ⟨0x3410, 1, 0, 1, 12, .rwp, .own, [], []⟩,
  ⟨0x3411, 1, 0, 1, 1, .rwp, .own, [SHF.BEAR_CFG_MIN_CHAINS], [6]⟩,
  ⟨0x3412, 1, 0, 1, 1, .rwp, .own, [SHF.BEAR_CFG_FOV], [75]⟩,
  ⟨0x3413, 1, 0, 1, 6, .rwp, .own, [SHF.CF_CFG_MIN], [0, 186]⟩,
  ⟨0x3414, 1, 0, 1, 10, .rwp, .own, [SHF.CF_CFG_PRESET], [0]⟩,
  ⟨0x3415, 1, 0, 1, 1, .rwp, .own, [SHF.ANT_CFG_SETTLE], [10]⟩,
  ⟨0x3420, 4, 0, 1, 12, .rwp, .own, [], []⟩,
  ⟨0x3500, 4, 0, 1, 12, .rwp, .own, [], []⟩,
  ⟨0x3510, 1, 0, 1, 2, .cst, .own, [], [1, 2]⟩,
  ⟨0x3511, 1, 0, 1, 2, .cst, .own, [], [32, 3]⟩,
  ⟨0x3600, 1, 1, 16, 1, .ro, .fld LSC.STATE_STATE, [], [0]⟩,
  ⟨0x3601, 1, 1, 16, 3, .ro, .word LSC.FAULT_CODE, [], [0, 0, 0, 0]⟩,
  ⟨0x3602, 1, 1, 16, 3, .ro, .fld LSC.CNT_TMO_COUNT, [], [0, 0, 0, 0]⟩,
  ⟨0x3603, 1, 0, 1, 1, .cst, .own, [], [3]⟩,
  ⟨0x3700, 1, 1, 4, 3, .ro, .fld WNW.CNT_COLL_COUNT, [], [0, 0, 0, 0]⟩,
  ⟨0x3701, 1, 1, 4, 3, .ro, .fld WNW.CNT_CAPT_COUNT, [], [0, 0, 0, 0]⟩,
  ⟨0x3702, 1, 1, 4, 3, .ro, .fld WNW.CNT_MISS_COUNT, [], [0, 0, 0, 0]⟩,
  ⟨0x3710, 1, 0, 1, 10, .rwp, .own, [WNW.CFG_CAP_EN], [1]⟩,
  ⟨0x3711, 1, 0, 1, 1, .rwp, .own, [WNW.CFG_CAP_MARGIN], [40]⟩,
  ⟨0x3712, 1, 0, 1, 1, .rwp, .own, [WNW.CFG_SRC_THR], [40]⟩,
  ⟨0x3713, 1, 0, 1, 1, .rwp, .own, [WNW.CFG_VIOL_MAX], [2]⟩,
  ⟨0x3714, 1, 0, 1, 1, .rwp, .own, [WNW.CFG_SPAT_MIN], [4]⟩,
  ⟨0x3715, 1, 0, 1, 2, .rwp, .own, [WNW.CENS_CFG_LEN], [0, 1]⟩,
  ⟨0x3720, 1, 1, 4, 12, .ro, .own, [], []⟩]

/-- Objects from index 0x4000: HFR_STATE, GLEANER_STATE, HF_READER_ENABLE, DRIVE_LEVEL, MOD_DEPTH, CARRIER_OFS_HZ, WAIT_CEIL_MS, WTX_MAX, TAG_PRIORITY, HF_FRAME_TABLE, GLEANER_ENABLE, GL_PERIOD_MS, GL_AMP_THR, GL_PHASE_THR, GL_CONFIRM, GL_TAU_S, GL_FREEZE_HOLD_MS, COUPLING_MAP, FRAME_COUNT, ERROR_COUNT, WTX_COUNT, PING_COUNT, WAKE_COUNT, BLANK_COUNT, TAG_STATE, TAG_FIELD, HARVEST_UA, VHARV_MV, LOCKOUT, AUTH_FAILS, TAG_UID, TAG_ENABLE, PASSTHROUGH, RECORD_RIGHTS, TAG_KEY, MONO_COUNTER, CMD_COUNT, AUTH_FAIL_COUNT, COMMIT_COUNT, LAST_RECOVERY. -/
def objs4a : List ObjDef := [
  ⟨0x4000, 1, 1, 1, 1, .ro, .fld HFR.STATE_STATE, [], [0]⟩,
  ⟨0x4000, 1, 2, 1, 1, .ro, .fld HFR.STATE_GL_STATE, [], [0]⟩,
  ⟨0x4001, 1, 0, 1, 10, .rwp, .own, [HFR.CTRL_EN], [0]⟩,
  ⟨0x4002, 1, 0, 1, 1, .rwp, .own, [HFR.DRV_LEVEL], [6]⟩,
  ⟨0x4003, 1, 0, 1, 1, .rwp, .own, [HFR.DRV_DEPTH], [6]⟩,
  ⟨0x4004, 1, 0, 1, 6, .rwp, .own, [HFR.SYN_OFS_HZ], [0, 0]⟩,
  ⟨0x4005, 1, 0, 1, 2, .rwp, .own, [HFR.WAIT_CFG_CEIL_MS], [232, 3]⟩,
  ⟨0x4006, 1, 0, 1, 1, .rwp, .own, [HFR.WAIT_CFG_WTX_MAX], [16]⟩,
  ⟨0x4007, 1, 0, 1, 10, .rwp, .own, [HFR.CTRL_TAG_PRIO], [1]⟩,
  ⟨0x4010, 1, 0, 1, 12, .rwp, .own, [], []⟩,
  ⟨0x4020, 1, 0, 1, 10, .rwp, .own, [], [0]⟩,
  ⟨0x4021, 1, 0, 1, 2, .rwp, .own, [], [250, 0]⟩,
  ⟨0x4022, 1, 0, 1, 1, .rwp, .own, [HFR.GL_THR_AMP_THR], [10]⟩,
  ⟨0x4023, 1, 0, 1, 1, .rwp, .own, [HFR.GL_THR_PH_THR], [20]⟩,
  ⟨0x4024, 1, 0, 1, 1, .rwp, .own, [], [2]⟩,
  ⟨0x4025, 1, 0, 1, 1, .rwp, .own, [HFR.GL_CFG_TAU], [60]⟩,
  ⟨0x4026, 1, 0, 1, 1, .rwp, .own, [HFR.GL_THR_FREEZE_HOLD], [20]⟩,
  ⟨0x4027, 1, 0, 1, 1, .rwp, .own, [], [31]⟩,
  ⟨0x4030, 1, 1, 1, 3, .ro, .fld HFR.CNT_FRAME_COUNT, [], [0, 0, 0, 0]⟩,
  ⟨0x4030, 1, 2, 1, 3, .ro, .fld HFR.CNT_ERR_COUNT, [], [0, 0, 0, 0]⟩,
  ⟨0x4030, 1, 3, 1, 3, .ro, .fld HFR.CNT_WTX_COUNT, [], [0, 0, 0, 0]⟩,
  ⟨0x4030, 1, 4, 1, 3, .ro, .fld HFR.CNT_PING_COUNT, [], [0, 0, 0, 0]⟩,
  ⟨0x4030, 1, 5, 1, 3, .ro, .fld HFR.CNT_WAKE_COUNT, [], [0, 0, 0, 0]⟩,
  ⟨0x4030, 1, 6, 1, 3, .ro, .fld HFR.CNT_BLANK_COUNT, [], [0, 0, 0, 0]⟩,
  ⟨0x4100, 1, 1, 1, 1, .ro, .fld HFT.STATE_TSTATE, [], [0]⟩,
  ⟨0x4100, 1, 2, 1, 10, .ro, .fld HFT.STATE_FIELD, [], [0]⟩,
  ⟨0x4100, 1, 3, 1, 2, .ro, .fld HFT.HARV_AVAIL, [], [0, 0]⟩,
  ⟨0x4100, 1, 4, 1, 2, .ro, .fld HFT.HARV_VHARV, [], [0, 0]⟩,
  ⟨0x4100, 1, 5, 1, 10, .ro, .fld HFT.STATE_LOCKOUT, [], [0]⟩,
  ⟨0x4100, 1, 6, 1, 1, .ro, .fld HFT.STATE_FAILS, [], [0]⟩,
  ⟨0x4101, 1, 0, 1, 4, .cst, .comp, [], []⟩,
  ⟨0x4102, 1, 0, 1, 10, .rwp, .own, [], [1]⟩,
  ⟨0x4103, 1, 0, 1, 1, .rwp, .own, [HFT.CTRL_PASS], [0]⟩,
  ⟨0x4104, 1, 0, 1, 12, .rws, .own, [], []⟩,
  ⟨0x4105, 1, 1, 4, 12, .wo, .own, [], []⟩,
  ⟨0x4106, 1, 1, 4, 3, .ro, .fld HFT.MONO_VALUE, [], [0, 0, 0, 0]⟩,
  ⟨0x4107, 1, 1, 1, 3, .ro, .fld HFT.CNT_CMD_COUNT, [], [0, 0, 0, 0]⟩,
  ⟨0x4107, 1, 2, 1, 3, .ro, .fld HFT.CNT_AUTHFAIL_COUNT, [], [0, 0, 0, 0]⟩,
  ⟨0x4107, 1, 3, 1, 3, .ro, .fld HFT.CNT_COMMIT_COUNT, [], [0, 0, 0, 0]⟩,
  ⟨0x4108, 1, 0, 1, 3, .ro, .word HFT.RECOV_RECORD, [], [0, 0, 0, 0]⟩]

/-- Objects from index 0x4200: COMM_RECORD. -/
def objs4b : List ObjDef := [
  ⟨0x4200, 256, 0, 1, 12, .rw, .comp, [], []⟩]

/-- Objects from index 0x5000: LEVEL_NOW, FS_ENGAGED, LUX, OCCUPIED, OUTPUT_SELECT, PWM_MODE, DIM_CURVE, AUTO_DAPC, DALI_PRIORITY, FS_PWM, FS_DAC, FS_DALI, KEEPALIVE_MS, SETPOINT_OCC_LUX, SETPOINT_VAC_LUX, HOLD_S, LOOP_GAIN, MIN_LEVEL, MAX_LEVEL, DEFAULT_LEVEL, LUX_PER_UA, PD_INT_CYCLES, LOOP_ENABLE, PIR_THRESHOLD, PIR_PERSIST, BADGE_PRESENCE. -/
def objs5 : List ObjDef := [
  ⟨0x5000, 1, 1, 1, 2, .ro, .fld LUM.OUT_NOW, [], [0, 0]⟩,
  ⟨0x5000, 1, 2, 1, 10, .ro, .fld LUM.FS_CTRL_ENGAGED, [], [1]⟩,
  ⟨0x5000, 1, 3, 1, 3, .ro, .comp, [], [0, 0, 0, 0]⟩,
  ⟨0x5000, 1, 4, 1, 10, .ro, .comp, [], [0]⟩,
  ⟨0x5001, 1, 0, 1, 1, .rwp, .own, [LUM.CTRL_OUT_EN], [1]⟩,
  ⟨0x5002, 1, 0, 1, 1, .rwp, .own, [LUM.PWM_CFG_MODE], [0]⟩,
  ⟨0x5003, 1, 0, 1, 12, .rwp, .own, [], []⟩,
  ⟨0x5004, 1, 0, 1, 10, .rwp, .own, [LUM.CTRL_AUTO_DAPC], [0]⟩,
  ⟨0x5005, 1, 0, 1, 1, .rwp, .own, [LUM.DALI_CFG_PRIO], [1]⟩,
  ⟨0x5010, 1, 1, 1, 2, .rwp, .own, [LUM.FS_LEVEL_FS_PWM], [255, 255]⟩,
  ⟨0x5010, 1, 2, 1, 2, .rwp, .own, [LUM.FS_LEVEL_FS_DAC], [255, 15]⟩,
  ⟨0x5010, 1, 3, 1, 10, .rwp, .own, [LUM.FS_CTRL_FS_DALI], [1]⟩,
  ⟨0x5011, 1, 0, 1, 2, .rwp, .own, [LUM.FS_CTRL_KA_MS], [232, 3]⟩,
  ⟨0x5020, 1, 0, 1, 2, .rwp, .own, [], [244, 1]⟩,
  ⟨0x5021, 1, 0, 1, 2, .rwp, .own, [], [100, 0]⟩,
  ⟨0x5022, 1, 0, 1, 2, .rwp, .own, [], [132, 3]⟩,
  ⟨0x5023, 1, 0, 1, 2, .rwp, .own, [], [0, 2]⟩,
  ⟨0x5024, 1, 0, 1, 2, .rwp, .own, [], [0, 16]⟩,
  ⟨0x5025, 1, 0, 1, 2, .rwp, .own, [], [0, 255]⟩,
  ⟨0x5026, 1, 0, 1, 2, .rwp, .own, [], [0, 192]⟩,
  ⟨0x5027, 1, 0, 1, 3, .rwp, .own, [], [0, 0, 244, 1]⟩,
  ⟨0x5028, 1, 0, 1, 1, .rwp, .own, [], [1]⟩,
  ⟨0x5029, 1, 0, 1, 10, .rwp, .own, [], [1]⟩,
  ⟨0x5030, 1, 0, 1, 2, .rwp, .own, [LUM.PIR_CFG_THR], [208, 7]⟩,
  ⟨0x5031, 1, 0, 1, 1, .rwp, .own, [LUM.PIR_CFG_PERSIST], [3]⟩,
  ⟨0x5032, 1, 0, 1, 10, .rwp, .own, [], [0]⟩]

/-- Objects from index 0x6000: MP_SEL_CFG, MP_SEL_XRD, MP_XIP_WINDOW, MP_REGIONS, MP_TXN_TMO_US, MP_POLL_TMO_MS, GRN_STATE, GRN_OCCUPANCY, GRN_JSEQ, GRANARY_AREA, GRANARY_GEOM, AGG_MS, DEPART_CYCLES, SECTOR_AZ_DEG, SECTOR_EL_DEG, MOVE_CONFIRM, COMMIT_MS, JOURNAL_KEY, BADGE_FILTER, TAG_QUERY, TAG_WATCH, TRANSIENT, GRN_COUNTS, IDX_FULL_COUNT, QUE4_DROPS. -/
def objs6 : List ObjDef := [
  ⟨0x6000, 1, 1, 4, 3, .rwp, .own, [], [0, 0, 240, 192]⟩,
  ⟨0x6001, 1, 1, 4, 3, .rwp, .own, [], [11, 0, 32, 8]⟩,
  ⟨0x6002, 1, 1, 4, 3, .rws, .own, [], [0, 0, 0, 0]⟩,
  ⟨0x6003, 1, 0, 1, 12, .rws, .own, [], List.replicate 192 0⟩,
  ⟨0x6004, 1, 0, 1, 2, .rwp, .own, [MPT.TMO_CFG_TXN_US], [232, 3]⟩,
  ⟨0x6005, 1, 0, 1, 2, .rwp, .own, [MPT.POLL_TMO_MS], [208, 7]⟩,
  ⟨0x6010, 1, 1, 1, 1, .ro, .fld GRN.STATE_STATE, [], [0]⟩,
  ⟨0x6010, 1, 2, 1, 3, .ro, .fld GRN.OCC_VALUE, [], [0, 0, 0, 0]⟩,
  ⟨0x6010, 1, 3, 1, 4, .ro, .comp, [], [0, 0, 0, 0, 0, 0, 0, 0]⟩,
  ⟨0x6011, 1, 0, 1, 3, .rwp, .own, [], [0, 0, 0, 0]⟩,
  ⟨0x6012, 1, 0, 1, 3, .rwp, .own, [], [0, 0, 0, 0]⟩,
  ⟨0x6013, 1, 0, 1, 2, .rwp, .own, [], [250, 0]⟩,
  ⟨0x6014, 1, 0, 1, 3, .rwp, .own, [GRN.DEPART_VALUE], [244, 1, 0, 0]⟩,
  ⟨0x6015, 1, 0, 1, 1, .rwp, .own, [GRN.SECT_AZ_DEG], [30]⟩,
  ⟨0x6016, 1, 0, 1, 1, .rwp, .own, [GRN.SECT_EL_DEG], [30]⟩,
  ⟨0x6017, 1, 0, 1, 1, .rwp, .own, [GRN.SECT_CONFIRM], [2]⟩,
  ⟨0x6018, 1, 0, 1, 2, .rwp, .own, [], [232, 3]⟩,
  ⟨0x6019, 1, 0, 1, 12, .wo, .own, [], []⟩,
  ⟨0x6020, 1, 0, 1, 12, .rwp, .own, [], List.replicate 128 0⟩,
  ⟨0x6021, 1, 0, 1, 12, .rw, .own, [], []⟩,
  ⟨0x6022, 1, 0, 1, 12, .wo, .own, [], []⟩,
  ⟨0x6023, 1, 0, 1, 10, .rwp, .own, [], [0]⟩,
  ⟨0x6030, 1, 1, 5, 3, .ro, .comp, [], [0, 0, 0, 0]⟩,
  ⟨0x6030, 1, 6, 1, 3, .ro, .own, [], [0, 0, 0, 0]⟩,
  ⟨0x6030, 1, 7, 1, 3, .ro, .own, [], [0, 0, 0, 0]⟩]

/-- Objects from index 0x7000: FAULT_LOG, FAULT_COUNT, WDT_TIMEOUT_MS, WDT_WARN_MS, WDT_EXPIRIES, T_MAIN, T_POWER, SHEAF_CAP, THERM_WARN_C, THERM_QUIET_C, LEW_MV, LEW_COUNT, PAD_CFG, PLL_STATE, ON_BYPASS, SLOW_SOURCE, LOL_COUNT, SPREAD_MODE, AUTO_RETURN, SPUR_ENABLE, CAL_STATE, CAL_RESULT, CAL_BANK_GEN, CAL_RUN, CAL_BOOT_SET, CAL_RECORD, CAL_COMMIT, VCORE_MARGIN_PCT, TX_MARGIN_PCT, BG_MARGIN_PCT, MRAM_MARGIN_PCT, HINT_MARGIN_PCT, AGE_WARN_PCT, VCORE_TARGET_MV, GUARD_CANDIDATE, SCRUB_DAYS, HINT_SWEEP_DAYS, AVS_ENABLE. -/
def objs7 : List ObjDef := [
  ⟨0x7000, 1, 1, 3, 12, .ro, .comp, [], []⟩,
  ⟨0x7001, 1, 1, 3, 3, .ro, .comp, [], [0, 0, 0, 0]⟩,
  ⟨0x7010, 1, 0, 1, 2, .rwp, .own, [SYS.WDT_TIMEOUT_MS], [232, 3]⟩,
  ⟨0x7011, 1, 0, 1, 2, .rwp, .own, [SYS.WDT_TIMEOUT_WARN_MS], [100, 0]⟩,
  ⟨0x7012, 1, 1, 2, 3, .ro, .fld SYS.WDT_CNT_COUNT, [], [0, 0, 0, 0]⟩,
  ⟨0x7100, 1, 1, 1, 6, .ro, .fld PWR.THERM_T_MAIN, [], [0, 0]⟩,
  ⟨0x7100, 1, 2, 1, 6, .ro, .fld PWR.THERM_T_POWER, [], [0, 0]⟩,
  ⟨0x7100, 1, 3, 1, 1, .ro, .fld PWR.STATE_SHEAF_CAP, [], [4]⟩,
  ⟨0x7101, 1, 0, 1, 1, .rwp, .own, [PWR.THERM_CFG_WARN_C], [115]⟩,
  ⟨0x7102, 1, 0, 1, 1, .rwp, .own, [PWR.THERM_CFG_QUIET_C], [122]⟩,
  ⟨0x7103, 1, 0, 1, 2, .rwp, .own, [PWR.LEW_CFG_LEW_MV], [56, 74]⟩,
  ⟨0x7104, 1, 0, 1, 3, .ro, .fld PWR.CNT_LEW_COUNT, [], [0, 0, 0, 0]⟩,
  ⟨0x7200, 1, 1, 6, 1, .rwp, .own, [], []⟩,
  ⟨0x7300, 1, 1, 1, 1, .ro, .fld CLK.STATE_PLL_STATE, [], [1]⟩,
  ⟨0x7300, 1, 2, 1, 10, .ro, .fld CLK.STATE_ON_BYPASS, [], [1]⟩,
  ⟨0x7300, 1, 3, 1, 1, .ro, .fld CLK.STATE_SLOW_RC, [], [1]⟩,
  ⟨0x7300, 1, 4, 1, 3, .ro, .fld CLK.CNT_LOL_COUNT, [], [0, 0, 0, 0]⟩,
  ⟨0x7301, 1, 0, 1, 1, .rwp, .own, [], [13]⟩,
  ⟨0x7302, 1, 0, 1, 10, .rwp, .own, [CLK.CTRL_AUTO_RETURN], [1]⟩,
  ⟨0x7303, 1, 0, 1, 10, .rwp, .own, [CLK.CTRL_SPUR_EN], [1]⟩,
  ⟨0x7400, 1, 1, 1, 3, .ro, .word CAL.STATE_BUSY, [], [0, 0, 0, 0]⟩,
  ⟨0x7400, 1, 2, 1, 3, .ro, .word CAL.RESULT_CODE, [], [0, 0, 0, 0]⟩,
  ⟨0x7400, 1, 3, 1, 3, .ro, .fld CAL.BANK_GEN, [], [0, 0, 0, 0]⟩,
  ⟨0x7401, 1, 0, 1, 3, .wo, .own, [], []⟩,
  ⟨0x7402, 1, 0, 1, 2, .rwp, .own, [], [126, 41]⟩,
  ⟨0x7403, 1, 0, 1, 12, .ro, .comp, [], []⟩,
  ⟨0x7404, 1, 0, 1, 1, .wo, .own, [], []⟩,
  ⟨0x7500, 1, 1, 1, 1, .ro, .fld AGE.MARGIN0_A, [], [100]⟩,
  ⟨0x7500, 1, 2, 1, 1, .ro, .fld AGE.MARGIN0_B, [], [100]⟩,
  ⟨0x7500, 1, 3, 1, 1, .ro, .fld AGE.MARGIN0_C, [], [100]⟩,
  ⟨0x7500, 1, 4, 1, 1, .ro, .fld AGE.MARGIN1_A, [], [100]⟩,
  ⟨0x7500, 1, 5, 1, 1, .ro, .fld AGE.MARGIN1_B, [], [100]⟩,
  ⟨0x7501, 1, 0, 1, 1, .rwp, .own, [AGE.MARGIN0_WARN_PCT], [25]⟩,
  ⟨0x7502, 1, 1, 1, 2, .ro, .fld AGE.VCORE_VTARGET, [], []⟩,
  ⟨0x7502, 1, 2, 1, 2, .ro, .fld AGE.GUARD_CAND_GUARD, [], [0, 3]⟩,
  ⟨0x7503, 1, 0, 1, 2, .ro, .comp, [], [30, 0]⟩,
  ⟨0x7504, 1, 0, 1, 2, .rwp, .own, [], [30, 0]⟩,
  ⟨0x7505, 1, 0, 1, 10, .rwp, .own, [AGE.CTRL_AVS_EN], [1]⟩]

/-- Every object of the device. -/
def objTable : List ObjDef :=
  objs0 ++ objs1a ++ objs1b ++ objs2 ++ objs3a ++ objs3b ++ objs4a ++ objs4b ++ objs5 ++ objs6 ++ objs7

end Sys2Proof.Machine
end

