-- ==== Sys2Proof/Machine/Push.lean ====
section
/-! DEFINITION. Finding an object, its value, and the firmware's copy of a value into the registers that it stands for (R413,
R415, R416 and the object tables of the other chapters). -/

namespace Sys2Proof.Machine

open Sys2Proof

/-- Whether a line of an object table lists an object. -/
def ObjDef.has (d : ObjDef) (i sub : Nat) : Bool :=
  decide (d.index ≤ i) && decide (i < d.index + d.nIndex) && decide (d.sub ≤ sub) && decide (sub < d.sub + d.nSub)

/-- The line that lists an object. -/
def objFind (i sub : Nat) : Option ObjDef := objTable.find? fun d => d.has i sub

/-- The default of an object that holds its own bytes. The filter code of a pad group is 0 by default (R549 gives the drive
settings; DEDUCED, assumption 34). -/
def objDflt (i sub : Nat) : List Nat :=
  if i == 0x4104 then (List.range 256).map rightsDefault
  else if i == 0x0135 && sub == 1 then (List.range 64).map fun k => Config.signKeyByte k % 256
  else if (tblRule i).isSome && i != 0x2100 then tblDefault i
  else if i == 0x7200 then [[3, 1, 0, 0, 0, 1].getD (sub - 1) 0]
  else match objFind i sub with
    | some d => d.dflt
    | none => []

/-- The bytes of an object that holds its own. -/
def State.objBytes (s : State) (i sub : Nat) : List Nat := s.obj i sub (objDflt i sub)

/-- Every instance of a register field given a value by firmware. -/
def State.pushField (s : State) (f : Fld) (v : Nat) : State :=
  s.forN (if f.stride == 0 then 1 else f.count) fun n t => t.fieldWrite f n .coreP v

/-! ### Tables into registers -/

/-- The antenna geometry into SHF: at once while no sheaf is leased, else once the last lease ends (R168, R183). -/
def State.pushGeometry (s : State) (t : List Nat) : State :=
  if s.noLease then s.geoLoad t else { s with radio.shf.geoOwed := true }

/-- A beam set into SHF (R165): only while the sheaf is unleased. -/
def State.pushBeams (s : State) (sh : Nat) (t : List Nat) : State :=
  if s.on SHF.LEASE_STATE_HELD sh then s
  else
    let n := byteAt t 16
    let s1 := s.forN n fun b u => u.forN 17 fun e w =>
      { w with radio.shf.beam :=
          Tab.set (beamDefault b e) w.radio.shf.beam (sh * 1024 + b * 32 + e) (le32 t (20 + 72 * b + 4 * e)) }
    s1.set SHF.BEAM_NBEAMS n sh

/-- The HF frame table into HFR (R283): not while a reader lease is held. -/
def State.pushHfTable (s : State) (t : List Nat) : State :=
  if s.hfSeq.isSome then s.set HFR.STATUS_CMD_ERR 1
  else s.updHfr fun h => { h with
    table := (List.range (4 * byteAt t 16)).foldl (fun a w => Tab.set 0 a w (le32 t (20 + 4 * w))) h.table }

/-- The dim curve into LUM (R337). -/
def State.pushCurve (s : State) (t : List Nat) : State :=
  s.updLum fun u => { u with
    curve := (List.range 512).foldl (fun a w => Tab.set 0 a w (le32 t (16 + 4 * w))) u.curve }

/-- MP_REGIONS: RCFG, RSTART, REND and NONCE of each region in 24 bytes, the last four unused (object 0x6003). -/
def State.pushRegions (s : State) (t : List Nat) : State :=
  s.forN 8 fun r u =>
    let o := 24 * r
    let u1 := u.rcfgWrite r 0
    (u1.setRegion r { u1.region r with start := le32 t (o + 4) / 4096 * 4096, last := le32 t (o + 8) / 4096 * 4096
                                       nonce := le64 t (o + 12) }).rcfgWrite r (le32 t o)

/-- A whole register word written by firmware. -/
def State.pushWord (s : State) (a v : Nat) : State :=
  match blockAt a with
  | some b => s.wordWrite b .coreP a (v % 4294967296)
  | none => s

/-- What firmware does with the value of an object that is no plain copy into a register field. -/
def State.pushSpecial (s : State) (i sub : Nat) (t : List Nat) : State :=
  let v := ofLe t
  if i == 0x2001 && sub == 1 then s.atbSource (v % 2)
  else if i == 0x2001 && sub == 2 then s.pushField ATB.CTRL_NOM (b2n (v == 60))
  else if i == 0x2001 && sub == 6 then (if v == 1 then s.set ATB.CTRL_STANDALONE 1 else s.atbStandaloneClear)
  else if i == 0x2010 then
    s.set ATB.OFFSET_OFFSET ((s.objNum 0x2010 1 0 + ofLe (s.objBytes 0x2010 2)) % 65536)
  else if i == 0x3160 then s.clkSpread
  else if i == 0x3215 then s.forN 16 fun ch u => u.fieldWrite URX.CTRL_EN ch .coreP (b2n (bitOf v ch))
  else if i == 0x3410 then s.pushGeometry t
  else if 0x3420 ≤ i && i ≤ 0x3423 then s.pushBeams (i - 0x3420) t
  else if i == 0x4010 then s.pushHfTable t
  else if i == 0x4020 then s.pushField HFR.CTRL_GL_EN v
  else if i == 0x4021 then s.pushField HFR.GL_CFG_PERIOD (min 127 (v / 10))
  else if i == 0x4024 then s.pushField HFR.GL_CFG_CONFIRM (v - 1)
  else if i == 0x4027 then (s.pushField HFR.COUPLING_UTX (v % 16)).pushField HFR.COUPLING_TAG (bits v 4 4)
  else if i == 0x4102 then s.pushField HFT.CTRL_EN v
  else if i == 0x5003 then s.pushCurve t
  else if i == 0x5028 then s.pushField LUM.PD_CFG_INT (v - 1)
  else if i == 0x6000 then s.pushWord (MPT.SEL_CFG_SIZE.at (sub - 1)) v
  else if i == 0x6001 then s.pushWord (MPT.SEL_XRD_XRD.at (sub - 1)) v
  else if i == 0x6002 then s.xwinWrite (sub - 1) v
  else if i == 0x6003 then s.pushRegions t
  else if i == 0x6011 then s.pushWord (GRN.AREA_SEL.at 0) v
  else if i == 0x6012 then s.pushWord (GRN.GEOM_JBLOCKS.at 0) v
  else if i == 0x7301 then
    (((s.pushField CLK.CTRL_SS (v % 4)).pushField CLK.CTRL_SS_CPU (bits v 2 2)).pushField CLK.CTRL_SS_BUS (bits v 3 3))
  else s

/-- An address of the RADIO domain's blocks. -/
def radioAddr (a : Nat) : Bool := decide (0x40060000 ≤ a) && decide (a < 0x400C0000)

/-- The objects of the radio chapters whose special copies reach the RADIO domain. -/
def radioObj (i : Nat) : Bool := i == 0x3215 || i == 0x3410 || (decide (0x3420 ≤ i) && decide (i ≤ 0x3423))

/-- Firmware copies an object's value into the registers that it stands for; those of RADIO while that domain is powered
(R411). -/
def State.push (s : State) (i sub : Nat) : State :=
  match objFind i sub with
  | none => s
  | some d =>
    let t := s.objBytes i sub
    let on := s.bit PWR.STATE_DOM 0
    let s1 := s.forL d.fx fun f u => if radioAddr f.addr && !on then u else u.pushField f (ofLe t)
    if radioObj i && !on then s1 else s1.pushSpecial i sub t

/-- The objects of a line, as index and subindex. -/
def ObjDef.each (d : ObjDef) : List (Nat × Nat) :=
  (List.range d.nIndex).flatMap fun a => (List.range d.nSub).map fun b => (d.index + a, d.sub + b)

/-- The persistent objects that firmware copies at start-up. -/
def pushed : List (Nat × Nat) := (objTable.filter fun d => d.acc == .rwp || d.acc == .rws).flatMap ObjDef.each

/-- Whether the copy of an object reaches the RADIO domain. -/
def radioPushed (p : Nat × Nat) : Bool :=
  radioObj p.1 || (match objFind p.1 p.2 with
    | some d => d.fx.any fun f => radioAddr f.addr
    | none => false)

/-- Every persistent object copied. -/
def State.pushAll (s : State) : State := s.forL pushed fun p t => t.push p.1 p.2

/-- The objects of the RADIO domain copied, once it is powered. -/
def State.pushRadio (s : State) : State := s.forL (pushed.filter radioPushed) fun p t => t.push p.1 p.2

end Sys2Proof.Machine
end

