-- ==== Sys2Proof/Machine/Sha.lean ====
section
/-! DEFINITION. SHA-256, ECDSA P-256 verification and AES-GCM, which the spec names and does not spell out (R396, R489, R490;
PRESUMED, assumption 20: FIPS 180-4, FIPS 186-5 and SEC 1, NIST SP 800-38D). -/

namespace Sys2Proof.Machine

/-! ### SHA-256 -/

/-- A 32-bit rotation to the right. -/
def rotr32 (x k : Nat) : Nat := (x / 2 ^ k + x * 2 ^ (32 - k)) % 4294967296

/-- The largest `r` with `r ^ e ≤ x`, settled bit by bit below 2^`n`. -/
def rootBelow (e x n r : Nat) : Nat :=
  match n with
  | 0 => r
  | n + 1 => rootBelow e x n (if (r + 2 ^ n) ^ e ≤ x then r + 2 ^ n else r)

/-- The primes up to 311: below 361 a number without a prime factor under 19 is prime. -/
def shaPrimes : List Nat :=
  (List.range 312).filter fun p => 1 < p && (List.range 18).all fun d => d < 2 || p % d != 0 || p == d

/-- The first 32 bits of the fraction of the `e`-th root of a prime. -/
def rootFraction (e p : Nat) : Nat := rootBelow e (p * 2 ^ (32 * e)) 37 0 % 2 ^ 32

/-- The round constants: the cube roots of the 64 primes up to 311. -/
def shaKs : List Nat := shaPrimes.map (rootFraction 3)

/-- The initial hash: the square roots of the first eight primes. -/
def shaStart : List Nat := (shaPrimes.take 8).map (rootFraction 2)

/-- The message schedule, newest word first. Structural on the number of words to add. -/
def shaExpand (n : Nat) (w : List Nat) : List Nat :=
  match n with
  | 0 => w
  | n + 1 =>
    let a := w.getD 14 0
    let b := w.getD 1 0
    let s0 := ((rotr32 a 7).xor (rotr32 a 18)).xor (a / 8)
    let s1 := ((rotr32 b 17).xor (rotr32 b 19)).xor (b / 1024)
    shaExpand n ((w.getD 15 0 + s0 + w.getD 6 0 + s1) % 4294967296 :: w)

/-- One round on the eight working words. -/
def shaRound (h : List Nat) (kw : Nat) : List Nat :=
  let g := fun i => h.getD i 0
  let e1 := ((rotr32 (g 4) 6).xor (rotr32 (g 4) 11)).xor (rotr32 (g 4) 25)
  let ch := ((g 4).land (g 5)).xor ((4294967295 - g 4).land (g 6))
  let t1 := g 7 + e1 + ch + kw
  let a0 := ((rotr32 (g 0) 2).xor (rotr32 (g 0) 13)).xor (rotr32 (g 0) 22)
  let mj := (((g 0).land (g 1)).xor ((g 0).land (g 2))).xor ((g 1).land (g 2))
  [(t1 + a0 + mj) % 4294967296, g 0, g 1, g 2, (g 3 + t1) % 4294967296, g 4, g 5, g 6]

/-- One 64-byte block. -/
def shaBlock (h b : List Nat) : List Nat :=
  let w0 := (List.range 16).map fun i => ofBe (slice b (4 * i) 4)
  let w := (shaExpand 48 w0.reverse).reverse
  let r := (List.zipWith (· + ·) shaKs w).foldl shaRound h
  List.zipWith (fun x y => (x + y) % 4294967296) h r

/-- Blocks in order. Structural on their number. -/
def shaBlocks (n : Nat) (h b : List Nat) : List Nat :=
  match n with
  | 0 => h
  | n + 1 => shaBlocks n (shaBlock h (b.take 64)) (b.drop 64)

/-- SHA-256 of a byte list. -/
def sha256 (m : List Nat) : List Nat :=
  let pad := (119 - m.length % 64) % 64
  let b := m ++ [0x80] ++ List.replicate pad 0 ++ toBe 8 (8 * m.length)
  (shaBlocks (b.length / 64) shaStart b).flatMap (toBe 4)

/-! ### P-256 -/

def p256P : Nat := 2 ^ 256 - 2 ^ 224 + 2 ^ 192 + 2 ^ 96 - 1
def p256N : Nat := 0xFFFFFFFF00000000FFFFFFFFFFFFFFFFBCE6FAADA7179E84F3B9CAC2FC632551
def p256B : Nat := 0x5AC635D8AA3A93E7B3EBBD55769886BC651D06B0CC53B0F63BCE3C3E27D2604B
def p256Gx : Nat := 0x6B17D1F2E12C4247F8BCE6E563A440F277037D812DEB33A0F4A13945D898C296
def p256Gy : Nat := 0x4FE342E2FE1A7F9B8EE7EB4A7C0F9E162BCE33576B315ECECBB6406837BF51F5

/-- `x ^ e` modulo `m`, over the lowest `n` bits of `e`. -/
def powMod (n x e m : Nat) : Nat :=
  match n with
  | 0 => 1 % m
  | n + 1 => (powMod n (x * x % m) (e / 2) m * (if e % 2 == 1 then x else 1)) % m

/-- The inverse modulo a prime. -/
def invMod (x m : Nat) : Nat := powMod 256 (x % m) (m - 2) m

/-- A difference modulo `m`. -/
def subMod (a b m : Nat) : Nat := (a + (m - b % m)) % m

/-- A point of the curve, none at infinity. -/
abbrev P256 := Option (Nat × Nat)

/-- The sum of two points. -/
def p256Add (a b : P256) : P256 :=
  match a, b with
  | none, q => q
  | q, none => q
  | some (x1, y1), some (x2, y2) =>
    if x1 == x2 && (y1 + y2) % p256P == 0 then none
    else
      let l := if x1 == x2 then (3 * x1 * x1 + p256P - 3) * invMod (2 * y1) p256P % p256P
        else subMod y2 y1 p256P * invMod (subMod x2 x1 p256P) p256P % p256P
      let x3 := subMod (subMod (l * l) x1 p256P) x2 p256P
      some (x3, subMod (l * subMod x1 x3 p256P) y1 p256P)

/-- `k` times a point, over the lowest `n` bits of `k`. -/
def p256Mul (n k : Nat) (a : P256) : P256 :=
  match n with
  | 0 => none
  | n + 1 => p256Add (if k % 2 == 1 then a else none) (p256Mul n (k / 2) (p256Add a a))

/-- An ECDSA P-256 signature `r` then `s`, big-endian, over a message with SHA-256 under a public key X then Y. -/
def ecdsaOk (key sig msg : List Nat) : Bool :=
  let x := ofBe (slice key 0 32)
  let y := ofBe (slice key 32 32)
  let r := ofBe (slice sig 0 32)
  let s := ofBe (slice sig 32 32)
  let curve := x < p256P && y < p256P && (y * y + 3 * x) % p256P == (x * x * x + p256B) % p256P
  if key.length == 64 && curve && 0 < r && r < p256N && 0 < s && s < p256N then
    let w := invMod s p256N
    let u := p256Mul 256 (ofBe (sha256 msg) * w % p256N) (some (p256Gx, p256Gy))
    let v := p256Mul 256 (r * w % p256N) (some (x, y))
    match p256Add u v with
    | some (px, _) => px % p256N == r
    | none => false
  else false

/-! ### GCM -/

/-- Multiplication in the field of GCM, over the highest `n` bits of `x`, first bit first. -/
def gcmMul (n x z v : Nat) : Nat :=
  match n with
  | 0 => z
  | n + 1 =>
    gcmMul n x (if bitOf x n then z.xor v else z)
      (if v % 2 == 1 then (v / 2).xor (0xE1 * 2 ^ 120) else v / 2)

/-- GHASH of whole 16-byte blocks under the hash key. Structural on their number. -/
def ghash (n h a : Nat) (b : List Nat) : Nat :=
  match n with
  | 0 => a
  | n + 1 => ghash n h (gcmMul 128 (a.xor (ofBe (b.take 16))) 0 h) (b.drop 16)

/-- A byte list padded with zeros to whole blocks of 16. -/
def pad16 (b : List Nat) : List Nat := b ++ List.replicate ((16 - b.length % 16) % 16) 0

/-- The key stream of GCM for a 12-byte nonce, from counter 2. -/
def gcmStream (key nonce : List Nat) (n : Nat) : List Nat :=
  (List.range ((n + 15) / 16)).flatMap fun k => aesEnc key (nonce ++ toBe 4 (k + 2))

/-- The tag over additional data and ciphertext. -/
def gcmTag (key nonce aad c : List Nat) : List Nat :=
  let h := ofBe (aesEnc key (List.replicate 16 0))
  let b := pad16 aad ++ pad16 c ++ toBe 8 (8 * aad.length) ++ toBe 8 (8 * c.length)
  xorBytes (toBe 16 (ghash (b.length / 16) h 0 b)) (aesEnc key (nonce ++ [0, 0, 0, 1]))

/-- Encryption: ciphertext, then the tag. -/
def gcmSeal (key nonce aad p : List Nat) : List Nat :=
  let c := xorBytes p (gcmStream key nonce p.length)
  c ++ gcmTag key nonce aad c

/-- Decryption of ciphertext and tag; none where the tag does not verify. -/
def gcmOpen (key nonce aad ct : List Nat) : Option (List Nat) :=
  let n := ct.length - 16
  let c := ct.take n
  if 16 ≤ ct.length && gcmTag key nonce aad c == ct.drop n then some (xorBytes c (gcmStream key nonce n)) else none

end Sys2Proof.Machine
end

