-- ==== Sys2Proof/Machine/Dict.lean ====
section
/-! DEFINITION. Reading the object dictionary, and writing an object that only holds a value: type, range and table checks,
and firmware's copy into registers (R408, R411, R412, R415, R416, R565). -/

namespace Sys2Proof.Machine

open Sys2Proof

/-! ### Abort codes (R412) -/

def odOK : Nat := 0
def odNO_OBJECT : Nat := 1
def odNO_SUB : Nat := 2
def odACCESS : Nat := 3
def odTYPE : Nat := 4
def odRANGE : Nat := 5
def odTABLE_INVALID : Nat := 6
def odTABLE_LEVEL : Nat := 7
def odBUSY : Nat := 8
def odTIMEOUT : Nat := 9
def odSEQUENCE : Nat := 10
def odCRC : Nat := 11
def odSTATE : Nat := 12
def odNO_MEMORY : Nat := 13
def odSITE : Nat := 14
def odTOO_LARGE : Nat := 15
def odNOT_DONE : Nat := 16

/-! ### Identity -/

/-- NODE_ID (object 0x0102:01). -/
def State.nodeId (s : State) : Nat := s.objNum 0x0102 1 0 % 65536

/-- SITE_ID (object 0x0102:02). -/
def State.siteId (s : State) : Nat := s.objNum 0x0102 2 0 % 65536

/-- The six bytes of the EUI-48, first byte first (object 0x1002:01 holds them as a number in bits 47:0). -/
def eui48 : List Nat := toBe 6 (Config.macAddress % 2 ^ 48)

/-- The interface identifier: modified EUI-64 of the EUI-48 (R392; PRESUMED, assumption 20: RFC 4291). -/
def eui64 : List Nat :=
  let b := eui48
  [(byteAt b 0).xor 2] ++ slice b 1 2 ++ [0xFF, 0xFE] ++ slice b 3 3

/-- The node's addresses, link-local first (object 0x1002:02). -/
def State.ipv6 (s : State) : List (List Nat) :=
  if s.net.linkUp then ([0xFE, 0x80, 0, 0, 0, 0, 0, 0] ++ eui64) :: s.net.slaac else []

/-! ### Images (R488, R489) -/

/-- The base of an image slot: kind 0 FW, 1 LSQ, 2 TBL; slot 0 A, 1 B. -/
def imgBase (kind slot : Nat) : Nat :=
  if kind == 0 then 0x30000000 + slot * 0xC0000
  else if kind == 1 then 0x30180000 + slot * 0x10000
  else 0x301A0000 + slot * 0x10000

/-- The size of an image slot. -/
def imgSize (kind : Nat) : Nat := if kind == 0 then 0xC0000 else 0x10000

/-- The header that a slot holds. -/
def State.imgHdr (s : State) (kind slot : Nat) : List Nat := s.rdBytes (imgBase kind slot) 160

/-- The body behind a header. -/
def State.imgBody (s : State) (kind slot : Nat) : List Nat :=
  s.rdBytes (imgBase kind slot + 160) (le32 (s.imgHdr kind slot) 8)

/-- MAGIC "THIM", KIND, HDR_VER and a body that fits the slot. -/
def imgForm (h : List Nat) (kind : Nat) : Bool :=
  h.take 4 == [0x54, 0x48, 0x49, 0x4D] && byteAt h 4 == kind + 1 && byteAt h 5 == 1 && byteAt h 6 ≤ 1 && byteAt h 7 == 0 &&
    decide (le32 h 8 ≤ imgSize kind - 160)

/-- Core P accepts the image of a slot (R490). -/
def State.imgOk (s : State) (kind slot : Nat) : Bool :=
  let h := s.imgHdr kind slot
  if imgForm h kind && decide (byteAt h 20 ≤ 0xB0) && decide (0xB0 ≤ byteAt h 21) &&
      decide (Tab.get 0 s.nv.rollP kind ≤ le32 h 16) then
    ecdsaOk (s.objBytes 0x0135 (byteAt h 6 + 1)) (slice h 96 64) (h.take 96) && sha256 (s.imgBody kind slot) == slice h 64 32
  else false

/-- The slot in use of a kind, as SYS.BOOT reports it (R492); none where the boot used none of that kind. -/
def State.imgUsed (s : State) (kind : Nat) : Option Nat :=
  if s.coreP.fwHdr == [] then none
  else if kind == 0 then some (s.get SYS.BOOT_FW)
  else if s.on SYS.BOOT_RESULT then none
  else some (s.get (if kind == 1 then SYS.BOOT_LSQ else SYS.BOOT_TBL))

/-! ### Values that are computed -/

/-- The bank of the object store in force (R410). -/
def State.odBank (s : State) : OdBank := if s.nv.odPtr then s.nv.bankB else s.nv.bankA

/-- A slot plan as a table (R51). -/
def planTable (id slots site act : Nat) (words : Tab Nat) : List Nat :=
  tbl1 0x21 1 (toLe 2 id ++ [slots % 256, 0] ++ toLe 2 site ++ [0, 0] ++ toLe 4 act ++ [0, 0, 0, 0] ++
    (List.range (4 * min 32 slots)).flatMap fun w => toLe 4 (Tab.get 0 words w))

/-- A ring of the fault log, oldest entry first (R530, R531): entries recorded, and their bytes. -/
def State.ring (s : State) (r : Nat) : Nat × List Nat :=
  let base := [0x2803F000, 0x2803F410, 0x2803F520].getD r 0
  let cap := [64, 16, 64].getD r 1
  if s.rd32 base != 0x31544C46 then (0, [])
  else
    let n := s.rd32 (base + 8)
    let head := ofLe (s.rdBytes (base + 4) 2) % cap
    let k := min cap n
    (n, (List.range k).flatMap fun i => s.rdBytes (base + 16 + 16 * ((head + cap - k + i) % cap)) 16)

/-- The stored instants of the last completed capture, oldest first (object 0x3220). -/
def State.lastCapture (s : State) : List Nat :=
  match s.radio.lastCap with
  | none => []
  | some (p, c, n) =>
    let size := 262144 / n * n
    (List.range (c * n)).flatMap fun k => s.rdBytes (0x18000000 + 4 * ((p * n + k) % max 1 size)) 4

/-- The entry of a subscription in object 0x1038, in 12 bytes: the seventh of them is unused (DESIGN CHOICE, assumption 30). -/
def State.subEntry (s : State) (x : Subscr) : List Nat :=
  toLe 2 x.src ++ [x.id % 256, x.mode % 256] ++ toLe 2 x.index ++ [x.sub % 256, 0] ++ toLe 2 x.minMs ++
    toLe 2 (x.life - (s.now - x.since) / 240000000)

/-- A number as the bytes of a type. -/
def tyBytes (ty v : Nat) : List Nat := toLe ([1, 2, 4, 8, 1, 2, 4, 8, 4, 1].getD (ty - 1) 4) v

/-- The value of an object that is computed; of the register-wide ones the present word. -/
def State.objComp (s : State) (i sub : Nat) : List Nat :=
  if i == 0x0100 then toLe 8 Config.serial
  else if i == 0x0103 then toLe 2 (le16 s.coreP.fwHdr 30)
  else if i == 0x0104 then toLe 2 (le16 s.coreP.fwHdr 24)
  else if i == 0x0105 then s.coreP.levels.flatMap fun p => toLe 2 p.1 ++ toLe 2 p.2
  else if i == 0x0112 then (if sub == 1 then toLe 4 s.odBank.gen else [0])
  else if i == 0x0122 then [s.nv.lcPending.getD 255]
  else if i == 0x0130 then
    (match s.imgUsed (sub - 1) with
     | some slot => if sub == 1 then s.coreP.fwHdr else s.imgHdr (sub - 1) slot
     | none => [])
  else if i == 0x0131 then
    (if s.imgOk ((sub - 1) / 2) ((sub - 1) % 2) then s.imgHdr ((sub - 1) / 2) ((sub - 1) % 2) else [])
  else if i == 0x0134 then toLe 4 (Tab.get 0 s.nv.rollP (sub - 1))
  else if i == 0x1000 then (if sub == 1 then [b2n s.net.linkUp] else if sub == 2 then [s.net.txLevel] else [s.net.sqi])
  else if i == 0x1002 then (if sub == 1 then toLe 8 (Config.macAddress % 2 ^ 48) else s.ipv6.flatten)
  else if i == 0x1016 then
    (if sub == 1 then toLe 4 (unsignedOf 32 s.budget) else if sub == 2 then toLe 4 (s.budgetUsed / 1000)
     else if sub == 3 then toLe 4 s.net.unserved else toLe 2 s.net.adjusted)
  else if i == 0x1020 then toLe 4 (if sub == 6 then s.net.ptpOffset else s.net.ptpDelay)
  else if i == 0x1037 then toLe 4 s.net.planSeq
  else if i == 0x1038 then s.net.subs.flatMap s.subEntry
  else if i == 0x1040 then toLe 4 (Tab.get 0 s.net.counts sub)
  else if i == 0x1053 then
    toLe 4 (s.get (if sub == 1 then HLK.CNT_OK_COUNT else if sub == 2 then HLK.CNT_REJ_COUNT
      else if sub == 3 then HLK.CNT_BUSY_COUNT else HLK.CNT_BUSERR_COUNT))
  else if i == 0x2000 then
    (if sub == 2 then toLe 4 s.atb.cycle else if sub == 3 then toLe 2 s.atb.angle
     else toLe 4 (divOpen (25 * s.get ATB.PERIOD_PERIOD) 256))
  else if i == 0x2100 then
    planTable (s.get ATB.PLAN_CTRL_PLAN_ID) (s.get ATB.PLAN_CTRL_SLOTS) s.siteId (s.get ATB.PLAN_ACT_ACT_CYCLE) s.atb.pendWords
  else if i == 0x2101 then planTable s.atb.actId s.atb.actSlots s.siteId s.atb.actCycle s.atb.actWords
  else if i == 0x3140 then tbl1 0x33 1 ((List.range 4096).map fun k => s.calByte (0x500 + k))
  else if i == 0x3220 then s.lastCapture
  else if i == 0x3305 then s.rge.profile
  else if i == 0x3314 then toLe 2 (min 65535 (s.occUnits (sub - 1) / 100))
  else if i == 0x4101 then uid7 ++ [0]
  else if 0x4200 ≤ i && i ≤ 0x42FF then (s.recWired (i - 0x4200)).getD []
  else if i == 0x5000 then (if sub == 3 then toLe 4 s.lum.lux else [b2n s.lum.occupied])
  else if i == 0x6010 then toLe 8 s.jseq
  else if i == 0x6030 then
    toLe 4 (s.get (if sub == 1 then GRN.CNT_REC_COUNT else if sub == 2 then GRN.CNT_NEW_COUNT
      else if sub == 3 then GRN.CNT_DEPART_COUNT else if sub == 4 then GRN.CNT_MOVE_COUNT else GRN.CNT_BAD_COUNT))
  else if i == 0x7000 then (s.ring (sub - 1)).2
  else if i == 0x7001 then toLe 4 (s.ring (sub - 1)).1
  else if i == 0x7403 then tblHeader 0x80 1 s.calBody ++ s.calBody
  else if i == 0x7503 then toLe 2 (if s.on AGE.MRAM_HI then s.get AGE.MRAM_HI else 30)
  else []

/-- The instance of a register field that an object of a line stands for. -/
def ObjDef.unit (d : ObjDef) (i sub : Nat) : Nat := if 1 < d.nSub then sub - d.sub else i - d.index

/-- An object's value (R408). -/
def State.objValue (s : State) (i sub : Nat) : List Nat :=
  match objFind i sub with
  | none => []
  | some d =>
    match d.src with
    | .own => s.objBytes i sub
    | .comp => s.objComp i sub
    | .fld f =>
      if f == UTX.TEMP_TEMP then toLe 2 (Config.freeValue s.freeCount % 65536)
      else tyBytes d.ty (s.seen f (d.unit i sub))
    | .word f => toLe 4 ((s.nodeView .coreA (f.at (d.unit i sub))).getD (s.regWord f (d.unit i sub)))

/-! ### Access in the present mode and life-cycle -/

/-- The index is listed at some subindex. -/
def odIndex (i : Nat) : Bool := objTable.any fun d => decide (d.index ≤ i) && decide (i < d.index + d.nIndex)

/-- What R411 and R413 make of an index in the present mode: an abort code, or 0. -/
def State.odReach (s : State) (i : Nat) (write : Bool) : Nat :=
  if 0xF000 ≤ i then (if write then odACCESS else odNO_OBJECT)
  else if !odIndex i then odNO_OBJECT
  else if s.mode == mdLAMP && !((decide (0x0100 ≤ i) && decide (i ≤ 0x1FFF)) || (decide (0x4200 ≤ i) && decide (i ≤ 0x42FF)) ||
      (decide (0x5000 ≤ i) && decide (i ≤ 0x5FFF))) then odSTATE
  else if s.mode == mdFAILSAFE then odSTATE
  else odOK

/-- A read of an object by a requester: an abort code and the value (R402, R412). A record is read through the arbiter, as the grant finds
it; one that failed recovery aborts with STATE (R318, R327; assumption 56). -/
def State.odRead (s : State) (i sub : Nat) : Nat × List Nat :=
  let r := s.odReach i false
  if r != odOK then (r, [])
  else match objFind i sub with
    | none => (odNO_SUB, [])
    | some d =>
      if d.acc == .wo then (odACCESS, [])
      else if 0x4200 ≤ i && i ≤ 0x42FF && (s.recWired (i - 0x4200)).isNone then (odSTATE, [])
      else (odOK, s.objValue i sub)

/-- A length fits a type (R408). -/
def tyLenOk (ty len : Nat) : Bool :=
  if ty == 11 then decide (len ≤ 255) else if ty == 12 then decide (len ≤ 16777216)
  else len == (tyBytes ty 0).length

/-- The range that the spec states for an object's value beside its type; an object that stands for a register field takes the
values that the field holds (DEDUCED, assumption 33). -/
def objInRange (d : ObjDef) (i sub v : Nat) : Bool :=
  if i == 0x0102 && sub == 1 then decide (v ≤ 4095)
  else if i == 0x1010 && sub == 1 then decide (10 ≤ v) && decide (v ≤ 15)
  else if i == 0x1011 then decide (1000 ≤ v) && decide (v ≤ 50000)
  else if i == 0x1013 then decide (10 ≤ v) && decide (v ≤ 80)
  else if i == 0x1020 && sub == 2 then decide (v ≤ 1)
  else if i == 0x2001 && sub == 1 then decide (v ≤ 1)
  else if i == 0x2001 && sub == 2 then v == 50 || v == 60
  else if i == 0x3304 then decide (v ≤ 3)
  else if i == 0x4024 then decide (1 ≤ v) && decide (v ≤ 4)
  else if i == 0x5028 then decide (1 ≤ v) && decide (v ≤ 2 ^ LUM.PD_CFG_INT.width)
  else if i == 0x7301 || i == 0x7200 then decide (v < 16)
  else d.fx.all fun f => decide (v < 2 ^ f.width)

/-- The length that a DOMAIN object without a table header has; 0 where any is taken. -/
def domainLen (i : Nat) : Nat :=
  if i == 0x1031 then 16 else if i == 0x4104 then 256 else if i == 0x6003 then 192 else if i == 0x6020 then 128
  else if i == 0x6019 || i == 0x4105 then 16 else if 0x4200 ≤ i && i ≤ 0x42FF then 248 else if i == 0x0135 then 64 else 0

/-- The object's own validation of a value: its abort code (R408, R412). -/
def State.odCheck (s : State) (d : ObjDef) (i sub : Nat) (v : List Nat) : Nat :=
  if !tyLenOk d.ty v.length then odTYPE
  else if d.ty == 12 then
    (match tblRule i with
     | some r => s.tableAbort r v
     | none => if domainLen i != 0 && v.length != domainLen i then odTYPE else odOK)
  else if d.ty == 10 && 1 < byteAt v 0 then odRANGE
  else if !objInRange d i sub (ofLe v) then odRANGE
  else odOK

/-- A checked value stored and copied into the registers that it stands for (R410). -/
def State.objStore (s : State) (i sub : Nat) (v : List Nat) : State := (s.setObj i sub v).push i sub

end Sys2Proof.Machine
end

