-- ==== Sys2Proof/Machine/Boot.lean ====
section
/-! DEFINITION. Bring-up by Core P: votes, clocks, images, profile, calibration, firmware start and radio; the WARM reset that
leads to it (R25, R485 to R497, R508, R517). -/

namespace Sys2Proof.Machine

open Sys2Proof

/-! ### Life-cycle wipes (R486, R494, R495) -/

/-- AON retention SRAM wiped. -/
def State.wipeRetention (s : State) : State :=
  ((s.wipe 0x28000000 0x28040000).set AON.STATUS_RET_LOST 1).set AON.SCRATCH_DATA 0

/-- A record of the tag erased. -/
def State.wipeRecord (s : State) (r : Nat) : State :=
  s.updHft fun h => { h with
    slots := Tab.set none h.slots r none, genP := Tab.set 0 h.genP r 0, genB := Tab.set 0 h.genB r 0
    failed := h.failed.filter fun k => k != r }

/-- What decommissioning wipes. -/
def State.wipeSite (s : State) : State :=
  let s1 := ((s.forL [0x10, 0x11, 0x12, 0x20] fun r t => t.wipeRecord r).clearObj 0x6019 0).clearObj 0x6011 0
  { s1.wipeRetention with
    nv.replay := [], nv.bankA := {}, nv.bankB := {}, nv.odPtr := false }

/-- The wipes of a transition to a state. -/
def State.lcWipe (s : State) (old new : Nat) : State :=
  if new == lcRETIRED then
    let s1 := (s.wipeSite.forN 4 fun k t => t.clearObj 0x4105 (k + 1)).forN 16 fun k t => t.clearObj 0x0136 (k + 1)
    { s1 with nv.ctrReserve := 0 }
  else if new == lcSEALED && old == lcFIELD then s.wipeSite
  else if new == lcFIELD then { s.wipeRetention with nv.replay := [] }
  else s.wipeRetention

/-- The pending record of a transition carried out: wipes, voted copies, record cleared (R495). -/
def State.lcFinish (s : State) : State :=
  match s.nv.lcPending with
  | none => s
  | some new =>
    let s1 := s.lcWipe s.nv.lc new
    ({ s1 with nv.lc := new, nv.lcPending := none } : State).logP 0x28 new 0

/-! ### Step 3 -/

/-- BOOT_PTR as AON holds it, from MRAM's word. -/
def State.bootPtrLoad (s : State) : State :=
  let v := s.nv.bootPtr
  ((((s.set AON.BOOT_PTR_FW v).set AON.BOOT_PTR_LSQ (v / 2)).set AON.BOOT_PTR_TBL (v / 4)).set AON.BOOT_PTR_TRIES (v / 16)).set
    AON.BOOT_PTR_TRIAL (v / 256)

/-- The boot pointer given a value in MRAM and in AON. -/
def State.bootPtrTo (s : State) (v : Nat) : State := ({ s with nv.bootPtr := v } : State).bootPtrLoad

/-- A boot of a trial: TRIES counted down, or the previous pointer restored where none is left (R493). -/
def State.bootTrial (s : State) : State :=
  let v := s.nv.bootPtr
  if !bitOf v 8 then s.bootPtrLoad
  else if bits v 7 4 == 0 then s.bootPtrTo (s.nv.bootPrev % 8)
  else s.bootPtrTo (v - 16)

/-- The value of an object in the bank of the store in force; its default where the store holds none. -/
def State.odStored (s : State) (i sub : Nat) : List Nat :=
  match Tab.get none s.odBank.values (i * 256 + sub) with
  | some v => v
  | none => objDflt i sub

/-- Step 3: voted fields loaded, failsafe engaged, pad settings applied, a pending transition finished (R444, R485, R495,
R550); the counters' backups repaired (R500). -/
def State.bootVotes (s : State) : State :=
  let s1 := s.lcFinish
  let s2 : State := { s1 with
    badVotes := [], nv.rollB := s1.nv.rollP
    coreP.pads := (List.range 6).map fun k => byteAt (s1.odStored 0x7200 (k + 1)) 0 }
  let s3 := ((s2.set SYS.LC_STATE s2.nv.lc).set CAL.BANK_PTR s2.nv.calPtr).bootTrial
  ((s3.set LUM.FS_LEVEL_FS_PWM (ofLe (s3.odStored 0x5010 1))).set LUM.FS_LEVEL_FS_DAC (ofLe (s3.odStored 0x5010 2))).fsEngage

/-! ### Step 4 -/

/-- Step 4: SYSPLL locked in a band that the search selects, outputs gated with their domains, SRAM wiped (R485 to R487). -/
def State.bootClocks (s : State) : State :=
  let s1 := (s.fresh.2.set CLK.STATE_BAND (s.fresh.1 % 32)).set CLK.STATE_PLL_STATE 3
  let s2 := (((s1.set CLK.STATE_ON_BYPASS 0).set CLK.STATE_PHY_AON 0).outEn 2 false).auxGate
  { s2 with coreP.pllLocked := true, mem := Tab.clear (fun a => decide (a < 0x28000000)) s2.mem }

/-! ### Step 5 (R491, R492) -/

/-- The tables of a TBL image's body, as format and level; the tables stand one after the other (DEDUCED, assumption 34). Structural on the
fuel. -/
def tblParts (fuel : Nat) (b : List Nat) : Option (List (Nat × Nat)) :=
  match fuel with
  | 0 => none
  | k + 1 =>
    if b.isEmpty then some []
    else if le32 b 0 == 0x314C4254 && decide (16 ≤ le32 b 8) && decide (le32 b 8 ≤ b.length) then
      (tblParts k (b.drop (le32 b 8))).map fun l => (le16 b 4, byteAt b 6) :: l
    else none

/-- The table levels that a firmware image lists. -/
def fwLevels (h body : List Nat) : List (Nat × Nat) :=
  let o := le32 h 36
  (List.range (le16 body o)).map fun k => (le16 body (o + 2 + 4 * k), le16 body (o + 4 + 4 * k))

/-- Each image's epoch lies in the other's range (R491). -/
def epochOk (f g : List Nat) : Bool :=
  let fits := fun (a b : List Nat) => decide (le16 b 26 ≤ le16 a 24) && decide (le16 a 24 ≤ le16 b 28)
  fits f g && fits g f

/-- An LSQ image suits a firmware image (R491). -/
def lsqCompat (f q : List Nat) : Bool :=
  epochOk f q && decide (byteAt f 22 ≤ byteAt q 22) && decide (byteAt q 22 ≤ byteAt f 23) && decide (byteAt q 22 ≤ 3)

/-- A TBL image suits a firmware image (R491). -/
def tblCompat (f t : List Nat) (levels : List (Nat × Nat)) (body : List Nat) : Bool :=
  epochOk f t && (match tblParts 4097 body with
    | none => false
    | some l => l.all fun p => levels.any fun q => q.1 == p.1 && decide (p.2 ≤ q.2))

/-- The slots of a kind in the order in which they are tried. -/
def bootOrder (ptr : Nat) : List Nat := [ptr % 2, 1 - ptr % 2]

/-- The pairs of LSQ and TBL slots in the order in which R492 tries them. -/
def State.bootPairs (s : State) : List (Nat × Nat) :=
  (bootOrder (s.get AON.BOOT_PTR_LSQ)).flatMap fun q => (bootOrder (s.get AON.BOOT_PTR_TBL)).map fun t => (q, t)

/-- A pair runs with the firmware of a slot. -/
def State.pairOk (s : State) (fw : Nat) (p : Nat × Nat) : Bool :=
  let h := s.imgHdr 0 fw
  s.imgOk 1 p.1 && s.imgOk 2 p.2 && lsqCompat h (s.imgHdr 1 p.1) &&
    tblCompat h (s.imgHdr 2 p.2) (fwLevels h (s.imgBody 0 fw)) (s.imgBody 2 p.2)

/-- The slots, in 0x0131's order from 0, that the choice looked at and rejected. -/
def State.bootRejects (s : State) (fw : Option Nat) (pair : Option (Nat × Nat)) : List Nat :=
  let f := (bootOrder (s.get AON.BOOT_PTR_FW)).filter fun k => some k != fw && (fw == none || k == s.get AON.BOOT_PTR_FW)
  let tried := match fw with
    | none => []
    | some _ => (s.bootPairs.take (match pair with
        | some p => (s.bootPairs.findIdx? fun q => q == p).getD 0 + 1
        | none => 4))
  let q := ((tried.map fun p => p.1).eraseDups).filter fun k => !s.imgOk 1 k
  let t := (((tried.filter fun p => s.imgOk 1 p.1).map fun p => p.2).eraseDups).filter fun k => !s.imgOk 2 k
  f ++ q.map (2 + ·) ++ t.map (4 + ·)

/-- SYS.BOOT and the log entries of the choice (R492, R501, R533). -/
def State.bootReport (s : State) (fw : Option Nat) (pair : Option (Nat × Nat)) : State :=
  let rej := s.bootRejects fw pair
  let fail := b2n (rej.contains 0) + 2 * b2n (rej.contains 1) + 4 * b2n (rej.contains (2 + s.get AON.BOOT_PTR_LSQ)) +
    8 * b2n (rej.contains (4 + s.get AON.BOOT_PTR_TBL))
  let s1 := ((s.set SYS.BOOT_FW (fw.getD 0)).set SYS.BOOT_LSQ ((pair.map Prod.fst).getD 0)).set SYS.BOOT_TBL
    ((pair.map Prod.snd).getD 0)
  let s2 := ((s1.set SYS.BOOT_TRIAL (s.get AON.BOOT_PTR_TRIAL)).set SYS.BOOT_FAIL fail).set SYS.BOOT_RESULT
    (if fw.isNone then 2 else if pair.isNone then 1 else 0)
  s2.forL rej fun k t => t.logP 0x27 k fail

/-- The region profile copied into the enforcer and validated (R133). -/
def State.bootProfile (s : State) : State :=
  let sel := s.objNum 0x3304 0 0 % 4
  let t := s.objBytes (0x3300 + sel) 0
  let ok := tblHeaderOk t 0x50 1 (64 + 8 * byteAt t 18) && profileOk t
  ({ (s.set RGE.STATE_PROFILE_SEL sel).set RGE.STATE_PROFILE_OK (b2n ok) with rge.profile := if ok then t else [] } : State)

/-- A calibration bank passes its check (R515, R517). -/
def State.calBankOk (s : State) (bank : Nat) : Bool :=
  if s.rd32 (calBase bank) == 0x314C4254 then tblHeaderOk (s.rdBytes (calBase bank) 8192) 0x80 1 8192 else false

/-- The working record loaded from a bank, GUARD, the detector curves and the ageing baselines with it (R139, R140, R515). -/
def State.calLoad (s : State) (bank : Nat) : State :=
  let rec_ := (List.range 8192).filterMap fun i =>
    if s.rd8 (calBase bank + i) == 0 then none else some (i, s.rd8 (calBase bank + i))
  let s1 : State := { s with calWork := rec_ }
  let s2 := ((s1.set CAL.BANK_GEN (s1.cal16 0x10 + 65536 * s1.cal16 0x12)).set CAL.VALID_VALID
    (s1.cal16 0x18 + 65536 * s1.cal16 0x1A)).setGuard (s1.cal16 0x14)
  let s3 := (((s2.set AGE.RO_CORE_SLOW (s2.cal16 0x4A0)).set AGE.RO_RADIO_SLOW (s2.cal16 0x4A2)).set AGE.RO_AON_SLOW
    (s2.cal16 0x4A4)).set AGE.BG_LO (s2.cal16 0x4A6)
  { s3.set AGE.HINT_HI (s3.cal16 0x4A8) with age.slowAtSweep := s3.cal16 0x4AA }

/-- Neither bank passes: no record, calibration temperatures 0x8000, GUARD 3.00 dB (R517). -/
def State.calNone (s : State) : State :=
  (({ s with calWork := [] } : State).setCal 0x1500 [0, 0x80, 0, 0x80, 0, 0x80, 0, 0x80]).setGuard 0x300

/-- The calibration store loaded (R485, R517), with the device's base voltage and target (R519). -/
def State.bootCal (s : State) : State :=
  let b := s.get CAL.BANK_PTR
  let s1 := if s.calBankOk b then s.calLoad b
    else if s.calBankOk (1 - b) then
      (((s.calLoad (1 - b)).set CAL.STATUS_FALLBACK 1).bump CAL.CNT_FALLBACK_COUNT CAL.STATUS_SAT).logP 0x26 (1 - b) 0
    else s.calNone
  let slow := max (s1.get AGE.RO_CORE_SLOW) (s1.get AGE.RO_RADIO_SLOW)
  let s2 := (s1.set AGE.VCORE_VBASE vbaseMv).set AGE.VCORE_VTARGET (vTarget slow)
  { s2 with rge.curve := (List.range 512).map fun i => s2.calByte (0x2A0 + i) }

/-! ### Step 6: Core A's firmware (R321, R397, R398, R410) -/

/-- The objects whose values MRAM keeps whatever the store holds. -/
def objKept (k : Nat) : Bool :=
  let i := k / 256
  i == 0x0136 || i == 0x4105 || i == 0x6019 || (match objFind i (k % 256) with
    | some d => d.acc == .rws
    | none => false)

/-- An object that the store keeps (R410). -/
def objStored (k : Nat) : Bool :=
  match objFind (k / 256) (k % 256) with
  | some d => d.acc == .rwp
  | none => false

/-- The object values at a firmware start: the bank in force where the firmware takes its schema, else defaults (R410, R491). -/
def State.odLoad (s : State) : State :=
  let b := s.odBank
  let ok := b.gen != 0 && decide (le16 s.coreP.fwHdr 32 ≤ b.schema) && decide (b.schema ≤ le16 s.coreP.fwHdr 30)
  let base := s.objs.filter fun e => objKept e.1
  { s with objs := if ok then b.values.foldl (fun a e => Tab.set none a e.1 e.2) base else base }

/-- An object given a value by Core A from a record, where the object takes it (R321, R409). -/
def State.recObj (s : State) (i sub : Nat) (v : List Nat) : State :=
  match objFind i sub with
  | some d => if s.odCheck d i sub v == odOK then s.objStore i sub v else s
  | none => s

/-- The parts of a record that stand for objects: offset, length, index and subindex (R321, R350). -/
def recMap (r : Nat) : List (Nat × Nat × Nat × Nat) :=
  if r == 8 then [(0, 2, 0x0102, 1), (2, 2, 0x0102, 2)]
  else if r == 9 then [(0, 2, 0x2010, 1), (2, 2, 0x2010, 2)]
  else if r == 10 then [(0, 220, 0x3410, 0)]
  else if r == 11 then [(0, 2, 0x5026, 0), (2, 2, 0x5010, 1), (4, 2, 0x5010, 2), (6, 2, 0x5020, 0), (8, 2, 0x5021, 0),
    (10, 2, 0x5022, 0), (12, 1, 0x5001, 0)]
  else []

/-- A record applied to its objects; one never written has nothing to apply (DEDUCED, assumption 34). -/
def State.recApply (s : State) (r : Nat) : State :=
  if (Tab.get none s.hft.slots r).isSome then
    s.forL (recMap r) fun p t => t.recObj p.2.2.1 p.2.2.2 (slice (t.recData r) p.1 p.2.1)
  else s

/-- A site key record: KEY_ID and key, where VALID is 1 (R397). -/
def State.siteKey (s : State) (r : Nat) : Option (Nat × List Nat) :=
  let d := s.recData r
  if byteAt d 1 == 1 then some (byteAt d 0, slice d 4 16) else none

/-- The valid site keys. -/
def State.siteKeys (s : State) : List (Nat × List Nat) := [0x10, 0x11].filterMap s.siteKey

/-- Cores A and B start: objects, records and registers as firmware sets them up. -/
def State.fwStart (s : State) : State :=
  let s1 := ((s.setBit PWR.STATE_DOM 3 true).outEn 0 true).auxGate.odLoad
  let s2 := s1.forL [8, 9, 10, 11] fun r t => t.recApply r
  let s3 := (match s2.siteKey 0x12 with
    | some (_, k) => s2.setObj 0x6019 0 k
    | none => s2).pushAll
  (s3.levelTo (s3.objNum 0x5026 0 0xC000)).ctrStart

/-! ### Step 7 (R391, R485, R500) -/

/-- The hotter die, in 0.125 °C. -/
def State.hotter (s : State) : Int := max (sint 16 (s.get PWR.THERM_T_MAIN)) (sint 16 (s.get PWR.THERM_T_POWER))

/-- The budget allows radio. -/
def State.budgetOk (s : State) : Bool := decide ((s.objNum 0x1015 0 1000 : Int) ≤ s.budget)

/-- QUIET entered where radio is off already. -/
def State.stayQuiet (s : State) : State := (s.set SYS.MODE_MODE mdFULL).setMode mdQUIET

/-- Radio and HF on: FULL. -/
def State.radioStart (s : State) : State :=
  let s1 := (s.radioOn.set PWR.DOM_CTRL_RADIO 1).pushRadio
  let s2 := ((s1.hfrPower true).set PWR.DOM_CTRL_HFR 1).set RGE.CTRL_RF_EN 1
  ((s2.voteClean 3).set SYS.MODE_MODE mdFULL).calBootStart

/-- Step 7. While LEW is set it is not entered (R500); the mode is QUIET meanwhile (DEDUCED, assumption 34). -/
def State.step7 (s : State) : State :=
  if s.on PWR.STATE_LEW then s.stayQuiet
  else
    let hot := decide ((8 * s.get PWR.THERM_CFG_WARN_C : Nat) ≤ s.hotter)
    if s.budgetOk && !hot then s.radioStart
    else
      let s1 := if s.budgetOk then s else s.setBit SYS.MODE_CAUSE csBUDGET true
      (if hot then s1.setBit SYS.MODE_CAUSE csTHERMAL true else s1).stayQuiet

/-! ### The whole -/

/-- Steps 3 to 7 (R485, R492, R494, R497). -/
def State.bringUp (s : State) : State :=
  let s1 := ((s.bootVotes.bootClocks).set SYS.MODE_MODE mdQUIET)
  match (bootOrder (s1.get AON.BOOT_PTR_FW)).find? fun k => s1.imgOk 0 k with
  | none => (s1.bootReport none none).enterFailsafe csNOIMAGE
  | some fw =>
    let pair := s1.bootPairs.find? fun p => s1.pairOk fw p
    let h := s1.imgHdr 0 fw
    let s2 : State := { s1.bootReport (some fw) pair with
      coreP.fwHdr := h, coreP.levels := fwLevels h (s1.imgBody 0 fw) }
    let s3 := s2.bootProfile.bootCal.fwStart
    if s3.lc == lcRETIRED then
      (if pair.isNone then s3.setBit SYS.MODE_CAUSE csINCOMPATIBLE true else s3).enterLampKeep csRETIRED
    else if pair.isNone then s3.enterLampKeep csINCOMPATIBLE
    else s3.step7

/-- What AON's copies show after a reset: the AON domain itself. -/
def State.copiesFresh (s : State) : State :=
  { s with bus.dirty := [], bus.copies := s.regs.filter fun e => (aonOf e.1).isSome }

/-- WARM asserted: everything but AON and MRAM at its reset values; an RFKILL_N that is low asserts the kill again (R25, R26,
R486). RADIO, HFR and buck B go off with their DOM_CTRL requests, and Core P's records of core resets, of the last RGE
escalation and of a held QUIET request start anew (DESIGN CHOICE, assumption 47). -/
def State.warmBase (s : State) : State :=
  let pin := s.on RGE.KILL_PIN
  let s1 := s.resetCore.dropCore
  let s2 : State := { s1 with
    radio := {}, atb := {}, aev := {}, rge := {}, pulses := []
    coreP := { s1.coreP with resets := [], escalated := none, quietHeld := false, pllLocked := false, fwHdr := [], levels := [] }
    mem := Tab.clear (fun a => decide (a < 0x28000000)) s1.mem }
  let s3 := (((s2.setBit PWR.STATE_DOM 0 false).setBit PWR.STATE_DOM 1 false).set PWR.STATE_BUCKB_ON 0).set PWR.DOM_CTRL_RADIO 0
  let s4 := (s3.set PWR.DOM_CTRL_HFR 0).copiesFresh
  if pin then (s4.set RGE.KILL_PIN 1).killBy RGE.STATUS_KILL_PIN 25 else s4

/-- Core A finds the node commissioned: SEALED, with an identity and a site key (R494). -/
def State.wantsField (s : State) : Bool :=
  s.lc == lcSEALED && s.bit PWR.STATE_DOM 3 && s.nodeId != 0 && s.siteId != 0 && s.siteKeys != []

/-- A transition begun: its pending record (R495). -/
def State.lcBegin (s : State) (new : Nat) : State := { s with nv.lcPending := some new }

/-- Bring-up from step 3. A pending transition is finished in it; a node found commissioned goes on to FIELD by one WARM
more (R494, R495). -/
def State.rise (s : State) : State :=
  let s1 := s.bringUp
  if s1.wantsField then ((s1.lcBegin lcFIELD).set SYS.RST_CAUSE_SOFT 1).warmBase.bringUp else s1

/-- A WARM reset and the bring-up that follows, unless REF_FAIL holds the device (R466, R485). -/
def State.warm (s : State) : State := if s.warmBase.coreP.refHeld then s.warmBase else s.warmBase.rise

end Sys2Proof.Machine
end

