-- ==== Sys2Proof/Machine/Pwr.lean ====
section
/-! DEFINITION. Resets, the line warning, the thermal governor, the power budget's changes, watchdog expiry and the vote scrub
(R25, R388, R390, R391, R443, R466, R483, R484, R493 to R500, R535, R536). -/

namespace Sys2Proof.Machine

open Sys2Proof

/-! ### Resets -/

/-- COLD: everything but MRAM, the memories on the Memory Port and what stands outside the device at its reset values (R25);
what the tag holds in MRAM goes on (R318), a commit stopped at a word boundary as the supply goes (R311). -/
def State.coldBase (s0 : State) : State :=
  let s := s0.commitCut
  let h : Hft := { slots := s.hft.slots, backup := s.hft.backup, genP := s.hft.genP, genB := s.hft.genB
                   marker := s.hft.marker, failed := s.hft.failed, fails := s.hft.fails
                   monoP := s.hft.monoP, monoB := s.hft.monoB, monoBad := s.hft.monoBad }
  let s1 : State := { State.reset with
    pending := s.pending, now := s.now, freeCount := s.freeCount, objs := s.objs, nv := s.nv, hft := h
    mpt := { ext := s.mpt.ext }, mem := Tab.clear (fun a => decide (a < 0x30000000)) s.mem }
  let s2 := ((s1.setFails s.hft.fails).set HFT.STATE_LOCKOUT (b2n (8 ≤ s.hft.fails))).forN 4 fun c t =>
    t.set HFT.MONO_VALUE (t.mono c) c
  let s3 := ((s2.set HFT.STATE_FIELD (s.get HFT.STATE_FIELD)).set HFR.STATE_TAG_FIELD (s.get HFR.STATE_TAG_FIELD)).set
    SYS.LC_STATE s.nv.lc
  if s.on RGE.KILL_PIN then (s3.set RGE.KILL_PIN 1).killBy RGE.STATUS_KILL_PIN 25 else s3

/-- The line supplies the device under a PD class (R23, R309). -/
def State.lineOn (s : State) (cls : Nat) : State :=
  (((s.set PWR.STATE_CLASS cls).set PWR.STATE_LINE_OK 1).set PWR.STATE_HARV 0).set HFT.STATE_LINE 1

/-- Power-on under a PD class: COLD, AON released, the tag's recovery pass, then bring-up (R25, R312, R485). Where the AON domain has
been running on harvest it has not lost its supply, and bring-up alone follows (R23, R25; DEDUCED, assumption 37). -/
def State.powerOn (s : State) (cls : Nat) : State :=
  if s.on PWR.STATE_HARV then (s.lineOn cls).rise
  else (s.coldBase.lineOn cls).tagRelease.copiesFresh.rise

/-- POWER_ON (R485). -/
def execPowerOn (cls : Nat) (s : State) : Out := .next (s.powerOn cls)

/-- A Core P software reset (R25). -/
def State.softReset (s : State) : State := (s.set SYS.RST_CAUSE_SOFT 1).warm

/-- WARM_RESET (R25, R485). -/
def execWarmReset (s : State) : Out := .next s.softReset

/-- RESET_N_PIN (R25, R551). -/
def execResetNPin (s : State) : Out := .next (s.set SYS.RST_CAUSE_PIN 1).warm

/-- CORE_RESET (R25, R497). -/
def execCoreReset (core : Nat) (s : State) : Out := .next (s.coreReset (core % 2))

/-- A brown-out (R484): WARM; the AON domain then runs on harvest until POWER_ON brings the line back, where a field is present and
supplies it (R309). Without VHARV, COLD. -/
def State.brownOut (s : State) (mv : Nat) (vharv : Bool) : State :=
  if 4500 ≤ mv then s
  else if vharv && s.on HFT.STATE_FIELD then
    let s1 := ((s.set PWR.STATUS_BROWN_OUT 1).set SYS.RST_CAUSE_BROWN_OUT 1).warmBase.logP 0x23 0 (mv / 16)
    (((s1.set PWR.STATE_LINE_OK 0).set PWR.STATE_HARV 1).set HFT.STATE_LINE 0).setBit PWR.STATE_DOM 3 false
  else s.coldBase

/-- BROWN_OUT (R484). -/
def execBrownOut (mv : Nat) (vharv : Bool) (s : State) : Out := .next (s.brownOut mv vharv)

/-- FIELD_OFF (R313, R332): with the line the engine drops its session and a commit runs on; without it the supply collapses at a
word boundary of a commit, and with both supplies gone COLD follows (R25, R311). -/
def execFieldOff (s : State) : Out :=
  let s1 := ((((s.set HFT.STATE_FIELD 0).set HFT.STATUS_FIELD_OFF 1).set HFR.STATE_TAG_FIELD 0).set HFT.HARV_VHARV 0).set
    HFT.HARV_AVAIL 0
  if s1.on HFT.STATE_LINE then .next ((s1.tagDrop tgNO_FIELD).passClear)
  else .next s1.coldBase

/-- REF_FAIL (R466): hard stop, the failsafe level on the pins, WARM held. -/
def execRefFail (s : State) : Out :=
  if s.coreP.refHeld then .next s
  else
    let s1 := ((s.set CLK.STATUS_REF_FAIL 1).set SYS.RST_CAUSE_REF_FAIL 1).fsEngage.warmBase
    .next { s1 with coreP.refHeld := true }

/-- REFCLK_RECOVERY (R466): the reset released; Core P's entry of the failure, then bring-up. -/
def execRefclkRecovery (s : State) : Out :=
  if s.coreP.refHeld then
    let s1 : State := { s with coreP.refHeld := false }
    .next (s1.logP 0x21 0 0).rise
  else .next s

/-- WDT_EXPIRY (R535 to R537): the watched core reset; on a second expiry WARM and FAILSAFE. -/
def execWdtExpiry (n : Nat) (s : State) : Out :=
  let k := n % 2
  if !s.on SYS.WDT_CTRL_EN k || s.wdtHalted k then .next s
  else if s.on SYS.WDT_STATE_AFTER k then
    let s1 := ((s.set SYS.RST_CAUSE_WDT2 1).warmBase.bootVotes).logP 0x22 k 0
    .next ((s1.set SYS.MODE_MODE mdQUIET).enterFailsafe csVOTE)
  else
    let s1 := (((s.logHW 0x06 k 0).set SYS.WDT_STATUS_EXPIRED 1 k).set SYS.WDT_STATE_AFTER 1 k).bumpG
      SYS.WDT_CNT_COUNT k SYS.WDT_STATUS_SAT k
    .next (((s1.wakeP 3).wdtLoad k).coreReset k)

/-! ### QUIET and its end (R497) -/

/-- The causes of QUIET in force. -/
def State.quietCauses (s : State) : Nat := s.get SYS.MODE_CAUSE % 8

/-- Every cause of QUIET gone: QUIET_CLR and step 7. -/
def State.quietLeave (s : State) : State :=
  if s.mode == mdQUIET && s.quietCauses == 0 then (s.set RGE.STATE_QUIET_LATCH 0).step7 else s

/-- QUIET_EXIT (R497): the causes that have cleared are dropped; with none left, step 7. -/
def execQuietExit (s : State) : Out :=
  if s.mode != mdQUIET then .next s
  else
    let cool := decide (s.hotter < 8 * ((s.get PWR.THERM_CFG_QUIET_C : Int) - s.get PWR.THERM_CFG_HYST))
    let drop := fun (t : State) (c : Nat) (b : Bool) => if b then t.setBit SYS.MODE_CAUSE c false else t
    .next (drop (drop (drop s csRGE (!s.coreP.quietHeld)) csTHERMAL cool) csBUDGET s.budgetOk).quietLeave

/-! ### Line warning (R483) -/

/-- LEW (R483): carriers killed, the Granary's staged records committed; commits of the stores are refused while it stands. -/
def execLew (lineMv : Nat) (s : State) : Out :=
  let s1 := (s.set PWR.LINE_LINE_MV lineMv).set PWR.STATE_LINE_OK (b2n (20000 < lineMv))
  if s.on PWR.STATE_LEW || s.get PWR.LEW_CFG_LEW_MV ≤ lineMv then .next s1
  else
    let s2 := ((s1.set PWR.STATE_LEW 1).set PWR.STATUS_LEW 1).bump PWR.CNT_LEW_COUNT PWR.STATUS_SAT
    let s3 := (s2.wakeP 0).killReg
    .next (if s3.bit PWR.STATE_DOM 3 then s3.grnCommit else s3)

/-- LEW_END (R483, R500). Whether a line above a threshold that lies below 20 V is itself above 20 V is open. -/
def execLewEnd (s : State) : Out :=
  if s.on PWR.STATE_LEW then
    let sure := decide (20000 ≤ s.get PWR.LEW_CFG_LEW_MV + 100 * s.get PWR.LEW_CFG_HYST)
    let s1 := if sure then s.set PWR.STATE_LINE_OK 1 else s.fresh.2.set PWR.STATE_LINE_OK (s.fresh.1 % 2)
    .next (((s1.set PWR.STATE_LEW 0).set PWR.STATUS_LEW_END 1).killRegClear).quietLeave
  else .next s

/-! ### Thermal governor (R499) -/

/-- Both die temperatures reported, in 0.125 °C, two's complement. -/
def State.therm (s : State) (tMain tPower : Nat) : State :=
  (s.set PWR.THERM_T_MAIN tMain).set PWR.THERM_T_POWER tPower

/-- The hotter die is at or above a temperature in °C. -/
def State.atLeast (s : State) (c : Nat) : Bool := decide (((8 * c : Nat) : Int) ≤ s.hotter)

/-- THERMAL_WARN (R32, R499). -/
def execThermalWarn (tMain tPower : Nat) (s : State) : Out :=
  let s1 := s.therm tMain tPower
  .next (if s1.atLeast (s1.get PWR.THERM_CFG_WARN_C) then
    ((s1.set PWR.STATUS_THERM 1).bump PWR.CNT_THERM_COUNT PWR.STATUS_SAT).wakeP 1 else s1)

/-- THERMAL_CAP_STEP (R499). -/
def execThermalCapStep (s : State) : Out :=
  let cap := s.get PWR.STATE_SHEAF_CAP
  let low := 8 * ((s.get PWR.THERM_CFG_WARN_C : Int) - s.get PWR.THERM_CFG_HYST)
  .next (if s.atLeast (s.get PWR.THERM_CFG_WARN_C) then s.set PWR.STATE_SHEAF_CAP (max 1 (cap - 1))
    else if s.hotter < low then s.set PWR.STATE_SHEAF_CAP (min 4 (cap + 1)) else s)

/-- THERMAL_QUIET (R497, R499). -/
def execThermalQuiet (tMain tPower : Nat) (s : State) : Out :=
  let s1 := s.therm tMain tPower
  .next (if s1.atLeast (s1.get PWR.THERM_CFG_QUIET_C) then (s1.wakeP 1).enterQuiet csTHERMAL else s1)

/-- HARD_THERM (R499): the kill path without KILL_REG, RADIO and HFR off, then QUIET. -/
def execHardTherm (tMain tPower : Nat) (s : State) : Out :=
  let s1 := s.therm tMain tPower
  if !s1.atLeast (s1.get PWR.THERM_CFG_HARD_C) then .next s1
  else
    let s2 := (s1.killNow.radioOff).hfrPower false
    let s3 := (((s2.set PWR.DOM_CTRL_RADIO 0).set PWR.DOM_CTRL_HFR 0).set RGE.CTRL_RF_EN 0).voteClean 3
    let s4 := ((s3.killRelease.set PWR.STATUS_HARD_THERM 1).wakeP 1).logP 0x24 0
      (unsignedOf 16 (sint 16 (s3.get PWR.THERM_T_MAIN) / 8))
    let s5 := s4.setBit SYS.MODE_CAUSE csTHERMAL true
    .next (if s5.mode == mdFULL then s5.setMode mdQUIET else s5)

/-! ### Slot plans through the object path and the power budget (R388, R390, R391) -/

/-- A plan loaded into the pending bank, adjusted to the budget, and armed (R56, R388); with `site`, for another site. -/
def State.planLoad (s : State) (id n act : Nat) (site : Bool) (e : Nat → List Nat) : State :=
  if s.on ATB.PLAN_CTRL_ARMED then s.set ATB.PLAN_CTRL_REFUSE 14
  else
    let old := (List.range (min 32 n)).map e
    let new := old.map s.slotAdjust
    let words := (new.flatMap fun x => x).zipIdx.foldl (fun (a : Tab Nat) p => Tab.set 0 a p.2 p.1) []
    let s1 : State := { s with
      net.adjusted := ((old.zip new).filter fun p => p.1 != p.2).length
      atb.pendWords := words }
    let s2 := ((s1.set ATB.PLAN_CTRL_PLAN_ID id).set ATB.PLAN_CTRL_SLOTS n).set ATB.PLAN_ACT_ACT_CYCLE act
    if 32 < n then s2.set ATB.PLAN_CTRL_REFUSE 1 else s2.planArm site

/-- The cost of the carrier sheaves whose leases are not ending. -/
def State.keptCost (s : State) : Nat :=
  (s.carrierSheaves.filter fun sh => (s.sheafAt sh).ending.isNone).foldl
    (fun a sh => a + s.slotCost (s.sheafAt sh).slotWords) 0

/-- Leases released until the sum fits, highest sheaf number first (R390). -/
def State.budgetRelease (s : State) : State :=
  [3, 2, 1, 0].foldl (fun t sh =>
    if !t.fits t.keptCost && t.carrierSheaves.contains sh && (t.sheafAt sh).ending.isNone then
      t.leaseRelease sh .coreB else t) s

/-- The active plan reloaded for the next cycle boundary (R390). -/
def State.planReload (s : State) : State :=
  s.planLoad s.atb.actId s.atb.actSlots s.nextCycle false fun k => slotWords s.atb.actWords k

/-- The budget held against its minimum (R391, R497, R500). -/
def State.budgetMin (s : State) : State :=
  if s.mode == mdFAILSAFE then s
  else if s.budgetOk then (s.setBit SYS.MODE_CAUSE csBUDGET false).quietLeave
  else if s.bit SYS.MODE_CAUSE csBUDGET then s
  else s.enterQuiet csBUDGET

/-- A change of the budget (R390, R391). The active plan is reloaded where leases exceeded the budget or a slot of it must be
adjusted (DEDUCED, assumption 35). -/
def State.budgetChange (s : State) : State :=
  if s.mode == mdFAILSAFE then s
  else
    let slots := (List.range (min 32 s.atb.actSlots)).map fun k => slotWords s.atb.actWords k
    let need := !s.fits s.keptCost || slots.any fun e => s.slotAdjust e != e
    let s1 := s.budgetRelease
    (if need then s1.planReload else s1).budgetMin

/-- PD_CLASS_CHANGE (R32, R390). -/
def execPdClassChange (cls : Nat) (s : State) : Out :=
  if s.get PWR.STATE_CLASS == cls % 256 then .next s
  else
    let s1 := ((s.set PWR.STATE_CLASS cls).set PWR.STATUS_CLASS_CHG 1).bump PWR.CNT_CLASS_COUNT PWR.STATUS_SAT
    .next (s1.wakeP 2).budgetChange

/-! ### Vote scrub (R443, R444) -/

/-- The voted value of field `f` as one number, and its width. -/
def State.voteValue (s : State) (f : Nat) : Nat × Nat :=
  if f == 0 then (s.get SYS.LC_STATE, 3)
  else if f == 1 then (s.get RGE.STATE_PROFILE_SEL + 4 * ofLe s.rge.profile, 2 + 8 * s.rge.profile.length)
  else if f == 2 then (s.regWord RGE.GUARD_GUARD, 32)
  else if f == 3 then (s.get RGE.CTRL_RF_EN, 1)
  else if f == 4 then (s.get LUM.FS_LEVEL_FS_PWM + 65536 * s.get LUM.FS_LEVEL_FS_DAC, 28)
  else if f == 5 then (s.get AON.BOOT_PTR_FW + 2 * s.get AON.BOOT_PTR_LSQ + 4 * s.get AON.BOOT_PTR_TBL +
    16 * s.get AON.BOOT_PTR_TRIES + 256 * s.get AON.BOOT_PTR_TRIAL, 9)
  else (s.get CAL.BANK_PTR, 1)

/-- The voted value of field `f` given a value. -/
def State.votePut (s : State) (f v : Nat) : State :=
  if f == 0 then s.set SYS.LC_STATE v
  else if f == 1 then
    { (s.set RGE.STATE_PROFILE_SEL v) with rge.profile := toLe s.rge.profile.length (v / 4) }
  else if f == 2 then (s.set RGE.GUARD_GUARD (bits v RGE.GUARD_GUARD.hi RGE.GUARD_GUARD.lo)).set RGE.GUARD_STEPS
    (bits v RGE.GUARD_STEPS.hi RGE.GUARD_STEPS.lo)
  else if f == 3 then s.set RGE.CTRL_RF_EN v
  else if f == 4 then (s.set LUM.FS_LEVEL_FS_PWM v).set LUM.FS_LEVEL_FS_DAC (v / 65536)
  else if f == 5 then ((((s.set AON.BOOT_PTR_FW v).set AON.BOOT_PTR_LSQ (v / 2)).set AON.BOOT_PTR_TBL (v / 4)).set
    AON.BOOT_PTR_TRIES (v / 16)).set AON.BOOT_PTR_TRIAL (v / 256)
  else s.set CAL.BANK_PTR v

/-- A copy whose flipped bits, its parity bit among them above the field's, are even in number passes its parity. -/
def voteValid (w m : Nat) : Bool := popcount (w + 1) m % 2 == 0

/-- Flips of a whole copy that leave its parity right: the field's bits `m`, and the parity bit that goes with them. -/
def voteShift (w m : Nat) : Nat := m % 2 ^ w + 2 ^ w * (popcount w m % 2)

/-- The bits in which at least two of three flips agree to be set. -/
def flipMajority (a b c : Nat) : Nat := ((a.land b).lor (a.land c)).lor (b.land c)

/-- Fewer than two valid copies, or two that differ: some bit has no majority. -/
def voteLost (w : Nat) (m : Nat × Nat × Nat) : Bool :=
  match [m.1, m.2.1, m.2.2].filter (voteValid w) with
  | [_, _, _] => false
  | [a, b] => a != b
  | _ => true

/-- One copy out of step with two that are valid and equal: the flips of those two. -/
def voteFix (w : Nat) (m : Nat × Nat × Nat) : Option Nat :=
  match [m.1, m.2.1, m.2.2].filter (voteValid w) with
  | [a, b, c] => if a == b && b == c then none else if a == b || a == c then some a else if b == c then some b else none
  | [a, b] => if a == b then some a else none
  | _ => none

/-- The scrub of field `f` whose copies have suffered the flips `c`, parity bits included. -/
def State.scrub (s : State) (f : Nat) (c : Nat × Nat × Nat) : State :=
  let w := (s.voteValue f).2
  let old := Tab.get (0, 0, 0) s.badVotes f
  let cut := fun (a b : Nat) => a.xor (b % 2 ^ (w + 1))
  let m := (cut old.1 c.1, cut old.2.1 c.2.1, cut old.2.2 c.2.2)
  let keep := fun (t : State) (m : Nat × Nat × Nat) => ({ t with badVotes := Tab.set (0, 0, 0) t.badVotes f m } : State)
  let move := fun (t : State) (d : Nat) => if d % 2 ^ w == 0 then t else t.votePut f ((t.voteValue f).1.xor (d % 2 ^ w))
  if voteLost w m then
    if voteLost w old then keep s m
    else ((((keep s m).fsEngage).wakeP 4).logP 0x20 f 0).enterFailsafe csVOTE
  else match voteFix w m with
    | some d =>
      let s1 := ((((move (keep s (0, 0, 0)) d).set SYS.STATUS_VOTE_FIX 1).bump SYS.CNT_VOTE_COUNT SYS.STATUS_SAT).set
        SYS.VOTE_INFO_FIELD f).logHW 0x02 f 0
      if 1 ≤ f && f ≤ 3 then s1.set RGE.STATUS_VOTE_FIX 1 else s1
    | none =>
      let d := voteShift w (flipMajority m.1 m.2.1 m.2.2)
      keep (move s d) (m.1.xor d, m.2.1.xor d, m.2.2.xor d)

/-- VOTE_SCRUB (R443): a slow-clock edge at which the copies of field `f`, numbered as R444 lists them, have bits flipped. -/
def execVoteScrub (f c0 c1 c2 : Nat) (s : State) : Out := .next (s.scrub (f % 7) (c0, c1, c2))

end Sys2Proof.Machine
end

