-- ==== Sys2Proof/Machine/Obj.lean ====
section
/-! DEFINITION. Writes of the object dictionary: access, exclusion and checks, the objects whose write is a command of its own,
and the commissioning records that follow their objects (R56, R321, R350, R388, R404, R408 to R412, R488, R493, R494, R504). -/

namespace Sys2Proof.Machine

open Sys2Proof

/-! ### Records and their objects (R321, R350) -/

/-- DATA of a record with its objects' values in their places. -/
def State.recBack (s : State) (r : Nat) : List Nat :=
  (recMap r).foldl (fun d p => patch d p.1 (padTo p.2.1 (s.objBytes p.2.2.1 p.2.2.2))) (s.recData r)

/-- A commit of a record started for the wired side through the arbiter (R328, R329). -/
def State.recWrite (s : State) (r : Nat) (d : List Nat) : State :=
  (s.forN 62 fun i t => t.set HFT.WBUF_DATA (le32 d (4 * i)) i).wiredGo .coreA r false true

/-- The record writes that Core A owes, as far as the arbiter takes them; the others wait for the operation under way. -/
def State.owedGo (s : State) : State :=
  s.net.owed.foldl (fun t r =>
    if t.on HFT.WSTAT_PENDING then { t with net.owed := t.net.owed ++ [r] } else t.recWrite r (t.recBack r))
    { s with net.owed := [] }

/-- The records that follow an object (R321). Core A writes them when the object's write has been accepted (DEDUCED, assumption 33). -/
def recsOf (i sub : Nat) : List Nat := [8, 9, 10, 11].filter fun r => (recMap r).any fun p => p.2.2 == (i, sub)

/-- The records owed for an object that has been written. -/
def State.recOwe (s : State) (l : List Nat) : State := ({ s with net.owed := s.net.owed ++ l } : State).owedGo

/-- Core A requests SEALED to FIELD itself once record 0x08 and a site key are valid (R494). -/
def State.fieldRise (s : State) : State :=
  if s.wantsField && !s.on PWR.STATE_LEW then (s.lcBegin lcFIELD).softReset else s

/-- What Core A does at COMMITTED: the record applied to its objects, the next record owed, a node found commissioned (R321,
R494). -/
def State.committed (s : State) (r : Nat) : State :=
  if s.bit PWR.STATE_DOM 3 then (s.recApply r).owedGo.fieldRise else s

/-- TAG_COMMIT_DONE (R321, R325). -/
def execTagCommitDone (s : State) : Out :=
  match s.hft.commit with
  | none => .next s
  | some c => .next ((s.commitDone c).committed c.record)

/-! ### The store (R410) -/

/-- Every RWP value written to the inactive bank, then the pointer flipped. -/
def State.storeAll (s : State) : State :=
  let b : OdBank := { gen := (s.odBank.gen + 1) % 4294967296, schema := le16 s.coreP.fwHdr 30
                      values := s.objs.filter fun e => objStored e.1 }
  if s.nv.odPtr then { s with nv.bankA := b, nv.odPtr := false } else { s with nv.bankB := b, nv.odPtr := true }

/-- Every RWP object returned to its default, firmware's copies with it. -/
def State.restoreAll (s : State) : State :=
  let s1 : State := { s with objs := s.objs.filter fun e => !objStored e.1 }
  let s2 := s1.forL (pushed.filter fun p => objStored (p.1 * 256 + p.2)) fun p t => t.push p.1 p.2
  (s2.recOwe ([8, 9, 10, 11].filter fun r => s2.recBack r != s2.recData r)).budgetChange

/-! ### Life-cycle, images, restarts (R488, R493, R494) -/

/-- The slot of a kind that is not in use. -/
def State.imgSpare (s : State) (kind : Nat) : Nat :=
  match s.imgUsed kind with
  | some k => 1 - k
  | none => 1 - s.get (if kind == 0 then AON.BOOT_PTR_FW else if kind == 1 then AON.BOOT_PTR_LSQ else AON.BOOT_PTR_TBL)

/-- An image staged into the spare slot: its header zeroed, then the bytes written (R488). -/
def State.imgWrite (s : State) (kind : Nat) (v : List Nat) : State :=
  let b := imgBase kind (s.imgSpare kind)
  (s.wrBytes b (List.replicate 160 0)).wrBytes b v

/-- A transfer is open that writes an image. -/
def State.imgXfer (s : State) : Bool := s.net.xfers.any fun x => x.index == 0x0130 && !x.out

/-- The transition is one of R494's and none of its refusals holds. -/
def State.lcAllowed (s : State) (new : Nat) : Bool :=
  let old := s.lc
  if old == lcFACTORY && new == lcSEALED then
    s.on RGE.STATE_PROFILE_OK && (s.objBytes 0x0135 1 != [] || s.objBytes 0x0135 2 != [])
  else if old == lcSEALED && new == lcFIELD then s.nodeId != 0 && s.siteId != 0 && s.siteKeys != []
  else (old == lcFIELD && new == lcSEALED) || ((old == lcSEALED || old == lcFIELD) && new == lcRETIRED)

/-- LC_REQUEST: [7:0] the target, [31:8] 0x4C4331 (R494, R500). -/
def State.lcRequest (s : State) (v : Nat) : Nat × State :=
  if s.imgXfer then (odBUSY, s)
  else if v / 256 == 0x4C4331 && s.lcAllowed (v % 256) && !s.on PWR.STATE_LEW then
    (odOK, (s.lcBegin (v % 256)).softReset)
  else (odSTATE, s)

/-- BOOT_REQUEST (R493). -/
def State.bootRequest (s : State) : State :=
  let pick := fun (k : Nat) (f : Fld) => if s.imgOk k (s.imgSpare k) then s.imgSpare k else s.get f
  let v := pick 0 AON.BOOT_PTR_FW + 2 * pick 1 AON.BOOT_PTR_LSQ + 4 * pick 2 AON.BOOT_PTR_TBL + 3 * 16 + 256
  let s1 := ({ s with nv.bootPrev := s.nv.bootPtr } : State).bootPtrTo v
  (s1.voteClean 5).softReset

/-- CONFIRM (R493): the trial ends; each counter raised to the image in use, primary copy first. -/
def State.confirm (s : State) : Nat × State :=
  if s.mode != mdFULL then (odSTATE, s)
  else
    let roll := fun (t : State) (k : Nat) => match s.imgUsed k with
      | some slot => max (Tab.get 0 t.nv.rollP k) (le32 (if k == 0 then s.coreP.fwHdr else s.imgHdr k slot) 16)
      | none => Tab.get 0 t.nv.rollP k
    let s1 := s.forN 3 fun k t => { t with nv.rollP := Tab.set 0 t.nv.rollP k (roll t k) }
    let s2 : State := { s1 with nv.rollB := s1.nv.rollP }
    (odOK, (s2.bootPtrTo (s2.nv.bootPtr % 256)).voteClean 5)

/-! ### Plans and records through their objects -/

/-- A write of 0x2100 (R55, R56, R388): BUSY while a plan is armed, whatever the content; then the table's own check, then the
arming. A plan that the ATB refuses fails its own validation (R412). -/
def State.planObj (s : State) (t : List Nat) : Nat × State :=
  if s.on ATB.PLAN_CTRL_ARMED then (odBUSY, s.set ATB.PLAN_CTRL_REFUSE 14)
  else
    let c := match tblRule 0x2100 with
      | some r => s.tableAbort r t
      | none => odOK
    if c != odOK then (c, s)
    else
      let s1 := s.planLoad (le16 t 16) (byteAt t 18) (le32 t 24) (le16 t 20 != s.siteId) fun k =>
        (List.range 4).map fun w => le32 t (32 + 16 * k + 4 * w)
      let r := s1.get ATB.PLAN_CTRL_REFUSE
      (if r == 0 then odOK else if r == 15 then odSITE else odTABLE_INVALID, s1)

/-- A record written through its object under the wired rights of R319 (objects 0x1033 and 0x4200 to 0x42FF). -/
def State.recObjWrite (s : State) (r : Nat) (d : List Nat) : Nat × State :=
  let rt := s.rights r
  if bitOf rt 5 || (bitOf rt 4 && s.lcSealed) then (odACCESS, s)
  else if s.on HFT.WSTAT_PENDING then (odBUSY, s)
  else (odOK, s.recWrite r d)

/-! ### The write -/

/-- A write that asks for nothing but a 1; another value is out of range (DEDUCED, assumption 33). -/
def oneOnly (v : List Nat) (r : Nat × State) (s : State) : Nat × State := if ofLe v == 1 then r else (odRANGE, s)

/-- A lease holds what an object sets (R412; R165, R283). The geometry is taken under one and loaded after it (R183). -/
def State.objHeld (s : State) (i : Nat) : Bool :=
  (decide (0x3420 ≤ i) && decide (i ≤ 0x3423) && s.on SHF.LEASE_STATE_HELD (i - 0x3420)) ||
    (i == 0x4010 && s.hfSeq.isSome)

/-- What follows a stored value: the budget recomputed, records written back. -/
def State.objAfter (s : State) (i sub : Nat) : State :=
  let s1 := if i == 0x1011 || i == 0x1012 then s.budgetChange
    else if (i == 0x1010 && sub == 4) || i == 0x1015 then s.budgetMin
    else s
  s1.recOwe (recsOf i sub)

/-- An accepted value takes effect: an abort code and the state. -/
def State.objApply (s : State) (d : ObjDef) (i sub : Nat) (v : List Nat) : Nat × State :=
  let n := ofLe v
  if i == 0x2100 then s.planObj v
  else
    let c := s.odCheck d i sub v
    if i == 0x0136 then
      (if s.lc != lcFACTORY then (odACCESS, s)
       else if v.length == 16 || v.length == 32 then (odOK, s.setObj i sub v) else (odTYPE, s))
    else if i == 0x4105 && s.lcSealed then (odACCESS, s)
    else if c != odOK then (c, s)
    else if i == 0x0110 then oneOnly v (if s.on PWR.STATE_LEW then (odSTATE, s) else (odOK, s.storeAll)) s
    else if i == 0x0111 then oneOnly v (odOK, s.restoreAll) s
    else if i == 0x0121 then s.lcRequest n
    else if i == 0x0130 then
      (if s.on PWR.STATE_LEW then (odSTATE, s)
       else if imgSize (sub - 1) < v.length then (odNO_MEMORY, s) else (odOK, s.imgWrite (sub - 1) v))
    else if i == 0x0133 then oneOnly v s.confirm s
    else if i == 0x0137 then oneOnly v (odOK, s.bootRequest) s
    else if i == 0x0142 then oneOnly v (odOK, s.softReset) s
    else if i == 0x1033 then
      (if 20 ≤ v.length && v.length ≤ 248 then s.recObjWrite (0x0F + sub) v else (odTYPE, s))
    else if i == 0x2020 && sub == 2 then (odOK, s.anchorEval n)
    else if i == 0x3313 then (odOK, if n == 1 then s.killReg else s.killRegClear)
    else if 0x4200 ≤ i && i ≤ 0x42FF then s.recObjWrite (i - 0x4200) v
    else if i == 0x6021 then (odOK, s.tagQuery v)
    else if i == 0x6022 then (odOK, s.tagWatch v)
    else if i == 0x7401 then
      (odOK, ((s.set CAL.CMD_SEQ (bits n 23 20)).set CAL.CMD_TARGET n).calRun (bits n 23 20) (bits n 15 0))
    else if i == 0x7404 then oneOnly v (odOK, s.fresh.2.calCmdCommit (s.fresh.1 % 2 == 1)) s
    else if s.objHeld i then (odSTATE, s)
    else (odOK, (s.objStore i sub v).objAfter i sub)

/-- An object is the target of an open transfer (R409). -/
def State.xferOpen (s : State) (i sub : Nat) : Bool := s.net.xfers.any fun x => x.index == i && x.sub == sub && !x.out

/-- Why an object may not be written at all: an abort code, or 0 (R411, R412). -/
def State.odBar (s : State) (i sub : Nat) : Nat :=
  let r := s.odReach i true
  if r != odOK then r
  else match objFind i sub with
    | none => odNO_SUB
    | some d =>
      if d.acc == .ro || d.acc == .cst || (d.acc == .rws && 2 ≤ s.lc) then odACCESS else odOK

/-- A value for an object, its type code given, transfers aside. -/
def State.odPut (s : State) (i sub ty : Nat) (v : List Nat) : Nat × State :=
  let b := s.odBar i sub
  if b != odOK then (b, s)
  else match objFind i sub with
    | none => (odNO_SUB, s)
    | some d => if ty != d.ty then (odTYPE, s) else s.objApply d i sub v

/-- A write of an object: an abort code and the state (R409, R412). -/
def State.odWrite (s : State) (i sub ty : Nat) (v : List Nat) : Nat × State :=
  if s.odBar i sub == odOK && s.xferOpen i sub then (odBUSY, s) else s.odPut i sub ty v

/-- An accepted write of these objects ends in a WARM reset, which overtakes its answer (DEDUCED, assumption 33). -/
def resetObj (i : Nat) : Bool := i == 0x0121 || i == 0x0137 || i == 0x0142

/-! ### Commands that are writes of one object -/

/-- PENDING_PLAN_WRITE (R56). -/
def execPendingPlanWrite (body : List Nat) (s : State) : Out := .next (s.odWrite 0x2100 0 12 body).2

/-- STORE (R410). -/
def execStore (s : State) : Out := .next (s.odWrite 0x0110 0 1 [1]).2

/-- RESTORE (R410). -/
def execRestore (s : State) : Out := .next (s.odWrite 0x0111 0 1 [1]).2

/-- LC_REQUEST (R494, R495). -/
def execLcRequest (v : Nat) (s : State) : Out := .next (s.odWrite 0x0121 0 3 (toLe 4 v)).2

/-- BOOT_REQUEST (R493). -/
def execBootRequest (v : Nat) (s : State) : Out := .next (s.odWrite 0x0137 0 1 (toLe 1 v)).2

/-- CONFIRM (R493). -/
def execConfirm (s : State) : Out := .next (s.odWrite 0x0133 0 1 [1]).2

/-- RESTART (R504); in FAILSAFE the recovery responder serves it (R498). -/
def execRestart (s : State) : Out := .next s.softReset

end Sys2Proof.Machine
end

