-- ==== Sys2Proof/Machine/Tot.lean ====
section
/-! DEFINITION. TOT: datagrams, keys and counters, reads and writes, transfers, subscriptions and the slot-plan multicast (R396
to R407), and Core P's recovery responder (R498). Where the spec names a message's fields and not their places, they stand in
the order named, without gaps (DESIGN CHOICE, assumption 31). -/

namespace Sys2Proof.Machine

open Sys2Proof

/-- The network state changed. -/
def State.updNet (s : State) (g : Net → Net) : State := { s with net := g s.net }

/-- A counter of 0x1040 advanced, saturating (R414). -/
def State.netCount (s : State) (k : Nat) : State :=
  s.updNet fun n => { n with counts := Tab.set 0 n.counts k (min 4294967295 (Tab.get 0 n.counts k + 1)) }

/-- The key of a KEY_ID among the valid key records (R397). -/
def State.totKey (s : State) (kid : Nat) : Option (List Nat) := (s.siteKeys.find? fun p => p.1 == kid).map Prod.snd

/-! ### Sending (R396, R398) -/

/-- The address from which the node sends TOT: its first SLAAC address, else its link-local one; none without a link (R393). -/
def State.totSource (s : State) : Option (List Nat) := (s.ipv6.drop 1 ++ s.ipv6.take 1).head?

/-- A datagram sealed and sent, the counter taken below the reserve (R396, R398). -/
def State.totSend (s : State) (ty dst kid flags tid : Nat) (key p : List Nat) : State :=
  let ctr := s.net.ctr
  let h := [1, ty] ++ toLe 2 s.siteId ++ toLe 2 s.nodeId ++ toLe 2 dst ++ [kid % 256, flags] ++ toLe 2 tid ++ toLe 8 ctr ++
    toLe 2 p.length ++ [0, 0]
  let d := h ++ gcmSeal key (slice h 4 2 ++ [0, 0] ++ slice h 12 8) h p
  let s1 : State := { s with
    net.ctr := ctr + 1, net.sent := s.net.sent ++ [d]
    nv.ctrReserve := if s.nv.ctrReserve ≤ ctr + 1 then s.nv.ctrReserve + 65536 else s.nv.ctrReserve }
  (s1.sourceEvent 102).netCount 6

/-- A datagram under a KEY_ID; withheld and counted where no valid record holds it (R397). -/
def State.totOut (s : State) (ty dst kid flags tid : Nat) (p : List Nat) : State :=
  match s.totKey kid with
  | some key => s.totSend ty dst kid flags tid key p
  | none => s.netCount 7

/-! ### Receiving (R399, R400) -/

/-- A received message whose checks have passed: header, payload and the key it was opened with. -/
structure TotMsg where
  hdr : List Nat
  body : List Nat
  key : List Nat

def TotMsg.src (m : TotMsg) : Nat := le16 m.hdr 4
def TotMsg.tid (m : TotMsg) : Nat := le16 m.hdr 10
def TotMsg.kid (m : TotMsg) : Nat := byteAt m.hdr 8
def TotMsg.group (m : TotMsg) : Bool := le16 m.hdr 6 == 0xFFFF

/-- A sender's counter is fresh (R400): above the highest, or unseen within the 64 below it. -/
def State.totFresh (s : State) (src ctr : Nat) : Bool :=
  let h := Tab.get 0 s.nv.replay src
  h == 0 || h ≤ ctr || (ctr + 1 < h && h ≤ ctr + 65 && bitOf (Tab.get 0 s.net.windows src) (h - 2 - ctr))

/-- A counter marked as seen; the window holds a 1 for each counter below the highest that has not been seen (R400). -/
def State.totSeen (s : State) (src ctr : Nat) : State :=
  let h := Tab.get 0 s.nv.replay src
  let w := Tab.get 0 s.net.windows src
  if h == 0 then
    { s with nv.replay := Tab.set 0 s.nv.replay src (ctr + 1)
             net.windows := Tab.set 0 s.net.windows src (2 ^ min 64 ctr - 1) }
  else if h ≤ ctr then
    let d := ctr + 1 - h
    { s with nv.replay := Tab.set 0 s.nv.replay src (ctr + 1)
             net.windows := Tab.set 0 s.net.windows src (if d ≤ 64 then (w * 2 ^ d + 2 ^ (d - 1) - 1) % 2 ^ 64 else 2 ^ 64 - 1) }
  else { s with net.windows := Tab.set 0 s.net.windows src (putBit w (h - 2 - ctr) false) }

/-- The checks of R399 in order; the message where all pass. -/
def State.totOpen (s : State) (d : List Nat) : State × Option TotMsg :=
  let h := d.take 24
  if d.length < 40 || byteAt d 0 != 1 || le16 d 20 != d.length - 40 then (s.netCount 1, none)
  else if le16 d 2 != s.siteId || s.siteId == 0 then (s.netCount 2, none)
  else if s.nodeId == 0 || (le16 d 6 != s.nodeId && le16 d 6 != 0xFFFF) then (s, none)
  else match s.totKey (byteAt d 8) with
    | none => (s.netCount 3, none)
    | some key =>
      if !s.totFresh (le16 d 4) (le64 d 12) then (s.netCount 4, none)
      else match gcmOpen key (slice d 4 2 ++ [0, 0] ++ slice d 12 8) h (d.drop 24) with
        | none => (s.netCount 5, none)
        | some p => (s.totSeen (le16 d 4) (le64 d 12), some { hdr := h, body := p, key := key })

/-- A response under the request's KEY_ID and TID (R397). -/
def State.totReply (s : State) (m : TotMsg) (ty : Nat) (p : List Nat) : State := s.totSend ty m.src m.kid 0 m.tid m.key p

/-! ### Reads and writes (R402, R498) -/

/-- The entries of a payload: head and value. Structural on the fuel. -/
def totEntries (fuel : Nat) (p : List Nat) : List (List Nat × List Nat) :=
  match fuel with
  | 0 => []
  | k + 1 =>
    if p.length < 8 || p.length < 8 + le16 p 6 then []
    else (p.take 8, (p.drop 8).take (le16 p 6)) :: totEntries k (p.drop (8 + le16 p 6))

/-- What the recovery responder reads (R498). -/
def recoverRead (i : Nat) : Bool :=
  (decide (0x0100 ≤ i) && decide (i ≤ 0x0105)) || i == 0x0120 || i == 0x0131 || i == 0x0132 || i == 0x0140

/-- An object read for TOT: an abort code, type and value. -/
def State.totGet (s : State) (i sub : Nat) : Nat × Nat × List Nat :=
  let ty := match objFind i sub with
    | some d => d.ty
    | none => 0
  if s.mode == mdFAILSAFE && recoverRead i && ty != 0 then (odOK, ty, s.objValue i sub)
  else
    let r := s.odRead i sub
    (r.1, if r.1 == odOK then ty else 0, r.2)

/-- An object written for TOT; in FAILSAFE the images and RESTART alone (R498). -/
def State.totPut (s : State) (i sub ty : Nat) (v : List Nat) : Nat × State :=
  if s.mode == mdFAILSAFE then
    (if i == 0x0142 && sub == 0 then oneOnly v (odOK, s.softReset) s else (odSTATE, s))
  else s.odWrite i sub ty v

/-- A READ_RSP entry; a value that leaves no room is TOO_LARGE. -/
def readEntry (h : List Nat) (r : Nat × Nat × List Nat) (room : Nat) : List Nat :=
  if r.1 != odOK then h.take 3 ++ [0] ++ toLe 2 r.1 ++ [0, 0]
  else if room < 8 + r.2.2.length then h.take 3 ++ [0] ++ toLe 2 odTOO_LARGE ++ [0, 0]
  else h.take 3 ++ [r.2.1] ++ toLe 2 odOK ++ toLe 2 r.2.2.length ++ r.2.2

/-- The entries of a READ_REQ answered in order, room kept for the heads still to come. -/
def State.readAll (s : State) (es : List (List Nat × List Nat)) (used : Nat) : List Nat :=
  match es with
  | [] => []
  | (h, _) :: r =>
    let x := readEntry h (if byteAt h 3 != 0 || le16 h 6 != 0 then (odTYPE, 0, []) else s.totGet (le16 h 0) (byteAt h 2))
      (1192 - used - 8 * r.length)
    x ++ s.readAll r (used + x.length)

/-- READ_REQ. -/
def State.totRead (s : State) (m : TotMsg) : State :=
  if m.group then s
  else s.fresh.2.totReply m 2 (s.readAll (totEntries m.body.length m.body) 0)

/-- The entries of a WRITE_REQ applied in order up to the first abort: the heads answered, the state, and whether a reset has
overtaken the answer. -/
def State.writeAll (s : State) (es : List (List Nat × List Nat)) : List Nat × State × Bool :=
  match es with
  | [] => ([], s, false)
  | (h, v) :: r =>
    let w := s.totPut (le16 h 0) (byteAt h 2) (byteAt h 3) v
    let head := fun (x : List Nat) (c : Nat) => x.take 4 ++ toLe 2 c ++ [0, 0]
    if w.1 != odOK then (head h w.1 ++ r.flatMap fun e => head e.1 odNOT_DONE, w.2, false)
    else if resetObj (le16 h 0) then ([], w.2, true)
    else
      let t := w.2.writeAll r
      (head h odOK ++ t.1, t.2.1, t.2.2)

/-- WRITE_REQ; to the group it is applied without a response. -/
def State.totWrite (s : State) (m : TotMsg) : State :=
  let w := s.writeAll (totEntries m.body.length m.body)
  if m.group || w.2.2 then w.2.1 else w.2.1.totReply m 4 w.1

/-! ### Transfers (R403, R404) -/

/-- The transfers changed. -/
def State.setXfers (s : State) (l : List Xfer) : State := s.updNet fun n => { n with xfers := l }

/-- A transfer as a message names it: by sender and TID. -/
def Xfer.is (x : Xfer) (src tid : Nat) : Bool := !x.host && x.src == src && x.tid == tid

/-- The node's transfer with a peer under a TID. -/
def State.xferOf (s : State) (src tid : Nat) : Option Xfer := s.net.xfers.find? fun x => x.is src tid

/-- A transfer put in the place of the one of the same peer and TID. -/
def State.xferPut (s : State) (x : Xfer) : State :=
  s.setXfers (s.net.xfers.map fun y => if y.is x.src x.tid then x else y)

/-- A transfer dropped. -/
def State.xferDrop (s : State) (x : Xfer) : State := s.setXfers (s.net.xfers.filter fun y => !y.is x.src x.tid)

/-- A message of a transfer, under the KEY_ID of its XFER_INIT. -/
def State.xferSend (s : State) (x : Xfer) (ty : Nat) (p : List Nat) : State := s.totOut ty x.src x.kid 0 x.tid p

/-- The segments of an outgoing transfer's window from NEXT; its end where nothing is left. -/
def State.xferWindow (s : State) (x : Xfer) : State :=
  if x.total ≤ x.next then s.xferSend x 0x13 []
  else s.forN (if x.kind == 0 then 1 else 16) fun k t =>
    let o := x.next + 1024 * k
    if o < x.total then t.xferSend x 0x11 (toLe 4 o ++ (x.data.drop o).take 1024) else t

/-- Why a transfer to the node is refused at XFER_INIT: an abort code, or 0. Staging space is the 4 MiB of system SRAM, for an
image its slot (DEDUCED, assumption 33). -/
def State.xferInBar (s : State) (i sub kind total : Nat) : Nat :=
  let b := if s.mode == mdFAILSAFE then (if i == 0x0130 && 1 ≤ sub && sub ≤ 3 then odOK else odSTATE) else s.odBar i sub
  let dom := match objFind i sub with
    | some d => d.ty == 12
    | none => false
  if b != odOK then b
  else if kind == 1 && !dom then odTYPE
  else if (if kind == 0 then 65536 else 16777216) < total then odTOO_LARGE
  else if s.xferOpen i sub then odBUSY
  else if i == 0x0130 && s.on PWR.STATE_LEW then odSTATE
  else if (if i == 0x0130 then imgSize (sub - 1) else 4194304) < total then odNO_MEMORY
  else odOK

/-- Why a transfer from the node is refused: an abort code, or 0. -/
def State.xferOutBar (s : State) (i sub kind : Nat) : Nat :=
  let r := s.totGet i sub
  if r.1 != odOK then r.1
  else if kind == 1 && r.2.1 != 12 then odTYPE
  else if (if kind == 0 then 65536 else 16777216) < r.2.2.length then odTOO_LARGE
  else odOK

/-- XFER_INIT: INDEX, SUB, DIR, KIND, TOTAL and, to the node, CRC. Acceptance of a transfer to the node is an XFER_ACK with NEXT
0; one from the node is answered with XFER_INIT, TOTAL and CRC in it, and the first window (DESIGN CHOICE, assumption 31). -/
def State.xferInit (s : State) (m : TotMsg) : State :=
  let b := m.body
  let i := le16 b 0
  let sub := byteAt b 2
  let kind := byteAt b 4
  let dirOut := byteAt b 3 == 1
  let s1 := match s.xferOf m.src m.tid with
    | some x => s.xferDrop x
    | none => s
  let refuse := fun (c : Nat) => s1.totReply m 0x14 (toLe 2 c)
  if m.group then s
  else if 1 < byteAt b 3 || 1 < kind then refuse odRANGE
  else if 4 ≤ s1.net.xfers.length then refuse odBUSY
  else if dirOut then
    let c := s1.xferOutBar i sub kind
    if c != odOK then refuse c
    else
      let v := (s1.totGet i sub).2.2
      let x : Xfer := { src := m.src, tid := m.tid, kid := m.kid, index := i, sub := sub, out := true, kind := kind
                        total := v.length, crc := crc32c v, data := v, next := 0, segs := 0, resends := 0, host := false }
      let s2 := (s1.setXfers (s1.net.xfers ++ [x])).fresh.2
      (s2.totReply m 0x10 (b.take 5 ++ toLe 4 v.length ++ toLe 4 x.crc)).xferWindow x
  else
    let c := s1.xferInBar i sub kind (le32 b 5)
    if c != odOK then refuse c
    else
      let x : Xfer := { src := m.src, tid := m.tid, kid := m.kid, index := i, sub := sub, out := false, kind := kind
                        total := le32 b 5, crc := le32 b 9, data := [], next := 0, segs := 0, resends := 0, host := false }
      (s1.setXfers (s1.net.xfers ++ [x])).totReply m 0x12 (toLe 4 0)

/-- A segment of an image written to its slot, the header zeroed before the first (R404, R488). -/
def State.imgSegment (s : State) (x : Xfer) (off : Nat) (seg : List Nat) : State :=
  if x.index != 0x0130 then s
  else
    let b := imgBase (x.sub - 1) (s.imgSpare (x.sub - 1))
    (if off == 0 then s.wrBytes b (List.replicate 160 0) else s).wrBytes (b + off) seg

/-- XFER_DATA: OFFSET and the segment. A segment that repeats bytes received is acknowledged again. -/
def State.xferData (s : State) (m : TotMsg) : State :=
  match s.xferOf m.src m.tid with
  | none => s
  | some x =>
    let off := le32 m.body 0
    let seg := m.body.drop 4
    let next := x.data.length
    let ack := fun (t : State) (n : Nat) => t.totReply m 0x12 (toLe 4 n)
    let fail := (s.xferDrop x).totReply m 0x14 (toLe 2 odSEQUENCE)
    if m.group || x.out then s
    else if 1024 < seg.length || x.total < off + seg.length || next + (if x.kind == 0 then 1024 else 16384) ≤ off then fail
    else if off != next || seg == [] then ack s next
    else
      let y : Xfer := { x with data := x.data ++ seg, segs := x.segs + 1 }
      let s1 := (s.xferPut y).imgSegment x off seg
      if y.kind == 0 || y.segs % 16 == 0 || y.data.length == y.total then ack s1 y.data.length else s1

/-- XFER_ACK: NEXT. -/
def State.xferAck (s : State) (m : TotMsg) : State :=
  match s.xferOf m.src m.tid with
  | none => s
  | some x =>
    let n := le32 m.body 0
    if m.group || !x.out || x.total < n || n < x.next then s
    else
      let y : Xfer := { x with next := n, resends := if x.next < n then 0 else x.resends }
      (s.xferPut y).xferWindow y

/-- The staged value of a finished transfer applied: its STATUS (R404). -/
def State.xferApply (s : State) (x : Xfer) : Nat × State :=
  let ty := match objFind x.index x.sub with
    | some d => d.ty
    | none => 0
  if x.data.length != x.total then (odSEQUENCE, s)
  else if crc32c x.data != x.crc then (odCRC, s)
  else if s.mode == mdFAILSAFE then (odOK, s.imgWrite (x.sub - 1) x.data)
  else s.odPut x.index x.sub ty x.data

/-- XFER_END: to the node, the value is checked and applied, and the STATUS answered; from the node, it closes the transfer. -/
def State.xferEnd (s : State) (m : TotMsg) : State :=
  match s.xferOf m.src m.tid with
  | none => s
  | some x =>
    if m.group then s
    else if x.out then s.xferDrop x
    else
      let r := (s.xferDrop x).xferApply x
      if r.1 == odOK && resetObj x.index then r.2 else r.2.totReply m 0x13 (toLe 2 r.1)

/-- XFER_ABORT. -/
def State.xferAbort (s : State) (m : TotMsg) : State :=
  match s.xferOf m.src m.tid with
  | some x => if m.group then s else s.xferDrop x
  | none => s

/-! ### Subscriptions and notifications (R397, R405, R406) -/

/-- The subscriptions changed. -/
def State.setSubs (s : State) (l : List Subscr) : State := s.updNet fun n => { n with subs := l }

/-- Same subscriber and identifier. -/
def Subscr.is (x : Subscr) (src id : Nat) : Bool := x.src == src && x.id == id

/-- A subscription put in the place of the one with its subscriber and identifier. -/
def State.subPut (s : State) (x : Subscr) : State := s.setSubs (s.net.subs.map fun y => if y.is x.src x.id then x else y)

/-- A subscription dropped. -/
def State.subDrop (s : State) (x : Subscr) : State := s.setSubs (s.net.subs.filter fun y => !y.is x.src x.id)

/-- NSEQ of a queued payload. -/
def notifySeq (p : List Nat) : Nat := le32 p 1

/-- The subscription of a subscriber whose queued notification has the lowest NSEQ. -/
def State.notifyFirst (s : State) (src : Nat) : Option (Subscr × List Nat) :=
  (s.net.subs.filter fun x => x.src == src).foldl (fun (b : Option (Subscr × List Nat)) x =>
    match x.queued, b with
    | [], _ => b
    | p :: _, none => some (x, p)
    | p :: _, some c => if notifySeq p < notifySeq c.2 then some (x, p) else b) none

/-- Queued notifications of a subscriber sent in NSEQ order, up to one that awaits its acknowledgement; none while 0x1034 names
no valid key. Structural on the fuel. -/
def State.notifyPump (s : State) (src fuel : Nat) : State :=
  match fuel with
  | 0 => s
  | k + 1 =>
    let kid := s.objNum 0x1034 0 0 % 256
    if s.net.subs.any fun x => x.src == src && x.waiting.isSome then s
    else match s.notifyFirst src, s.totKey kid with
      | some (x, p), some key =>
        let y : Subscr := { x with
          queued := x.queued.drop 1, waiting := if x.conf then some p else none, resends := 0 }
        ((s.subPut y).totSend 0x22 src kid (b2n x.conf) (notifySeq p) key p).notifyPump src k
      | _, _ => s

/-- The notifications that wait for a subscriber. -/
def State.notifyQueued (s : State) (src : Nat) : Nat :=
  s.net.subs.foldl (fun a x => if x.src == src then a + x.queued.length else a) 0

/-- Queued notifications of a subscriber sent. -/
def State.notifyGo (s : State) (src : Nat) : State := s.notifyPump src (s.notifyQueued src)

/-- A notification queued under the subscriber's next NSEQ; counted where 0x1034 names no valid key (R397). -/
def State.notifyPut (s : State) (x : Subscr) (p : List Nat) : State :=
  let n := (Tab.get 0 s.net.nseqs x.src + 1) % 4294967296
  let s1 := (s.updNet fun t => { t with nseqs := Tab.set 0 t.nseqs x.src n }).subPut
    { x with queued := x.queued ++ [[x.id % 256] ++ toLe 4 n ++ p] }
  if (s1.totKey (s1.objNum 0x1034 0 0 % 256)).isNone then s1.netCount 7 else s1

/-- SUBSCRIBE: SUB_ID, MODE, INDEX, SUB, MIN_MS, LIFE_S; answered with SUB_ID and STATUS. -/
def State.subscribe (s : State) (m : TotMsg) : State :=
  let b := m.body
  let id := byteAt b 0
  let old := s.net.subs.find? fun x => x.is m.src id
  let life := le16 b 7
  let c := if byteAt b 1 < 2 then (s.totGet (le16 b 2) (byteAt b 4)).1 else odOK
  let say := fun (t : State) (c : Nat) => t.totReply m 0x21 ([id] ++ toLe 2 c)
  if m.group then s
  else if life == 0 then
    say (match old with
      | some x => s.subDrop x
      | none => s) odOK
  else if 2 < byteAt b 1 then say s odRANGE
  else if c != odOK then say s c
  else
    let x : Subscr := { src := m.src, id := id, mode := byteAt b 1, index := le16 b 2, sub := byteAt b 4, minMs := le16 b 5
                        life := life, conf := bitOf (byteAt m.hdr 9) 0, waiting := none, resends := 0, queued := []
                        since := s.now, last := [] }
    match old with
    | some y => say (s.subPut { x with waiting := y.waiting, resends := y.resends, queued := y.queued, last := y.last }) odOK
    | none => if 16 ≤ s.net.subs.length then say s odBUSY else say (s.setSubs (s.net.subs ++ [x])) odOK

/-- NOTIFY_ACK: NSEQ. The next notification follows. -/
def State.notifyAck (s : State) (m : TotMsg) : State :=
  match s.net.subs.find? fun x => x.src == m.src && (match x.waiting with
    | some p => notifySeq p == le32 m.body 0
    | none => false) with
  | some x => if m.group then s else (s.subPut { x with waiting := none, resends := 0 }).notifyGo m.src
  | none => s

/-- One event of a handle joined to the net changes so far (R375). -/
def netJoin (transient : Bool) (acc : List (List Nat)) (e : List Nat) : List (List Nat) :=
  let kind := fun (x : List Nat) => byteAt x 0
  let same := fun (x : List Nat) => slice x 1 3 == slice e 1 3 && kind x != 4
  let swap := fun (new : List (List Nat)) => match acc.reverse.findIdx? same with
    | some k => acc.take (acc.length - 1 - k) ++ new ++ acc.drop (acc.length - k)
    | none => acc
  if kind e == 4 then acc ++ [e]
  else match acc.reverse.find? same with
    | none => acc ++ [e]
    | some p =>
      if kind p == 1 && kind e == 3 then swap [1 :: e.drop 1]
      else if kind p == 1 && kind e == 2 then (if transient then acc ++ [e] else swap [])
      else if kind p == 2 && kind e == 1 then (if slice p 10 2 == slice e 10 2 then swap [] else swap [3 :: e.drop 1])
      else swap [e]

/-- The entries in the notification ring, oldest first (R374). -/
def State.ringEntries (s : State) : List (List Nat) :=
  let n := min (s.get GRN.NRING_CFG_ENTRIES)
    ((s.get GRN.NR_HEAD_VALUE + 4294967296 - s.get GRN.NR_TAIL_VALUE) % 4294967296)
  (List.range n).map fun k => s.rdBytes (s.get GRN.NRING_BASE_VALUE + 64 * ((s.get GRN.NR_TAIL_VALUE + k) %
    max 1 (s.get GRN.NRING_CFG_ENTRIES))) 64

/-- Groups of at most `k` members. Structural on the fuel. -/
def chunks {α : Type} (fuel k : Nat) (l : List α) : List (List α) :=
  match fuel with
  | 0 => []
  | n + 1 => if l.isEmpty then [] else l.take k :: chunks n k (l.drop k)

/-- An aggregation window closed: its net changes queued for every subscription of MODE 2, NR_TAIL moved on (R375, R406). -/
def State.windowClose (s : State) : State :=
  let es := s.ringEntries
  let net := es.foldl (netJoin (s.objNum 0x6023 0 0 == 1)) []
  let s1 := if es == [] then s else s.nrTail ((s.get GRN.NR_TAIL_VALUE + es.length) % 4294967296)
  s1.forL (s1.net.subs.filter fun x => x.mode == 2) fun x t =>
    (chunks net.length 18 net).foldl (fun u c => match u.net.subs.find? fun y => y.is x.src x.id with
      | some y => u.notifyPut y (c.length :: c.flatten)
      | none => u) t

/-- A notification of subscription `x` falls due (R406). -/
def State.notifyDue (s : State) (x : Subscr) : State :=
  if x.mode == 2 then s.windowClose.notifyGo x.src
  else
    let r := s.totGet x.index x.sub
    let p := readEntry (toLe 2 x.index ++ [x.sub]) r 1187
    if x.mode == 0 && p == x.last then s.notifyGo x.src
    else (s.fresh.2.notifyPut { x with last := p } p).notifyGo x.src

/-! ### Slot-plan multicast (R407) -/

/-- The plan entry for a node among the entries of a part. Structural on their number. -/
def planEntry (n node : Nat) (p : List Nat) : Option (List Nat) :=
  match n with
  | 0 => none
  | k + 1 =>
    if p.length < 4 || p.length < 4 + le16 p 2 then none
    else if le16 p 0 == node then some ((p.drop 4).take (le16 p 2))
    else planEntry k node (p.drop (4 + le16 p 2))

/-- PLAN_MCAST. -/
def State.planMcast (s : State) (m : TotMsg) : State :=
  let b := m.body
  let s1 := if le64 b 4 == 0 then s
    else ((s.odWrite 0x2020 1 3 (slice b 0 4)).2.odWrite 0x2020 2 4 (slice b 4 8)).2
  if !m.group || b.length < 20 then s
  else match planEntry (byteAt b 18) s1.nodeId (b.drop 20) with
    | none => s1
    | some plan =>
      if !cycAfter (le32 b 12) s1.net.planSeq || s1.odReach 0x2100 true != odOK then s1
      else ((s1.planDisarm.odWrite 0x2100 0 12 plan).2).updNet fun n => { n with planSeq := le32 b 12 }

/-! ### Dispatch (R401) -/

/-- The types of R401. -/
def totTypes : List Nat := [1, 2, 3, 4, 0x10, 0x11, 0x12, 0x13, 0x14, 0x20, 0x21, 0x22, 0x23, 0x30]

/-- What a message does in FAILSAFE (R498). -/
def State.totRecover (s : State) (m : TotMsg) (ty : Nat) : State :=
  if ty == 1 then s.totRead m else if ty == 3 then s.totWrite m else if ty == 0x10 then s.xferInit m
  else if ty == 0x11 then s.xferData m else if ty == 0x12 then s.xferAck m else if ty == 0x13 then s.xferEnd m
  else if ty == 0x14 then s.xferAbort m else s

/-- What a message does by its TYPE. -/
def State.totDispatch (s : State) (m : TotMsg) : State :=
  let ty := byteAt m.hdr 1
  if !totTypes.contains ty then s.netCount 1
  else if s.mode == mdFAILSAFE then s.totRecover m ty
  else if ty == 0x20 then s.subscribe m
  else if ty == 0x23 then s.notifyAck m
  else if ty == 0x30 then s.planMcast m
  else s.totRecover m ty

/-- A UDP datagram to port 42980 received (R399). -/
def State.totRx (s : State) (d : List Nat) : State :=
  if s.coreP.refHeld then s
  else match (s.updNet fun n => { n with sent := [] }).totOpen d with
    | (t, none) => t
    | (t, some m) => t.totDispatch m

/-- A datagram of the TYPE that a command stands for. -/
def State.totCmd (s : State) (ty : Nat) (d : List Nat) : Out := .next (if byteAt d 1 == ty then s.totRx d else s)

/-- READ_REQ (R399, R402). -/
def execReadReq (d : List Nat) (s : State) : Out := s.totCmd 0x01 d

/-- WRITE_REQ (R399, R402). -/
def execWriteReq (d : List Nat) (s : State) : Out := s.totCmd 0x03 d

/-- XFER_INIT (R399, R403). -/
def execXferInit (d : List Nat) (s : State) : Out := s.totCmd 0x10 d

/-- XFER_DATA (R399, R403). -/
def execXferData (d : List Nat) (s : State) : Out := s.totCmd 0x11 d

/-- XFER_ACK (R399, R403). -/
def execXferAck (d : List Nat) (s : State) : Out := s.totCmd 0x12 d

/-- XFER_END (R399, R404). -/
def execXferEnd (d : List Nat) (s : State) : Out := s.totCmd 0x13 d

/-- XFER_ABORT (R399, R403). -/
def execXferAbort (d : List Nat) (s : State) : Out := s.totCmd 0x14 d

/-- SUBSCRIBE (R399, R405). -/
def execSubscribe (d : List Nat) (s : State) : Out := s.totCmd 0x20 d

/-- NOTIFY_ACK (R399, R406). -/
def execNotifyAck (d : List Nat) (s : State) : Out := s.totCmd 0x23 d

/-- PLAN_MCAST (R399, R407). -/
def execPlanMcast (d : List Nat) (s : State) : Out := s.totCmd 0x30 d

/-- TOT_UNKNOWN_TYPE (R399, R401). -/
def execTotUnknownType (d : List Nat) (s : State) : Out :=
  .next (if totTypes.contains (byteAt d 1) then s else s.totRx d)

/-! ### Times that pass (R403, R405, R406) -/

/-- The record of what is sent cleared; nothing runs while the device is held in reset. -/
def State.netTime (s : State) (g : State → State) : Out :=
  .next (if s.coreP.refHeld then s else g (s.updNet fun n => { n with sent := [] }))

/-- XFER_RESEND_TIMEOUT (R403): of the `k`-th transfer. -/
def execXferResendTimeout (k : Nat) (s : State) : Out :=
  s.netTime fun t =>
    match t.net.xfers[k]? with
    | none => t
    | some x =>
      if !x.out then t
      else if x.resends < t.objNum 0x1036 0 3 % 256 then
        (t.xferPut { x with resends := x.resends + 1 }).xferWindow x
      else (t.xferDrop x).xferSend x 0x14 (toLe 2 odTIMEOUT)

/-- XFER_IDLE_TIMEOUT (R403): of the `k`-th transfer. -/
def execXferIdleTimeout (k : Nat) (s : State) : Out :=
  s.netTime fun t =>
    match t.net.xfers[k]? with
    | none => t
    | some x => if x.host then t else (t.xferDrop x).xferSend x 0x14 (toLe 2 odTIMEOUT)

/-- NOTIFY_SEND (R406): of the `k`-th subscription. -/
def execNotifySend (k : Nat) (s : State) : Out :=
  s.netTime fun t =>
    match t.net.subs[k]? with
    | some x => t.notifyDue x
    | none => t

/-- NOTIFY_RESEND_TIMEOUT (R397, R406): of the `k`-th subscription. -/
def execNotifyResendTimeout (k : Nat) (s : State) : Out :=
  s.netTime fun t =>
    match t.net.subs[k]? with
    | none => t
    | some x =>
      match x.waiting with
      | none => t
      | some p =>
        let kid := t.objNum 0x1034 0 0 % 256
        if (t.totKey kid).isNone then t.netCount 7
        else if x.resends < t.objNum 0x1036 0 3 % 256 then
          (t.subPut { x with resends := x.resends + 1 }).totOut 0x22 x.src kid (b2n x.conf) (notifySeq p) p
        else (t.subDrop x).notifyGo x.src

/-- SUBSCRIPTION_EXPIRY (R405): of the `k`-th subscription. -/
def execSubscriptionExpiry (k : Nat) (s : State) : Out :=
  s.netTime fun t =>
    match t.net.subs[k]? with
    | some x => (t.subDrop x).notifyGo x.src
    | none => t

end Sys2Proof.Machine
end

