-- ==== Sys2Proof/Machine/Eth.lean ====
section
/-! DEFINITION. The PHY's link, received Ethernet frames down to the TOT port, and the PTP servo (R384, R385, R392 to R395).
Layouts of Ethernet, IPv6, UDP and router advertisements are those of the standards that R385 and R392 name (PRESUMED, assumption
20). -/

namespace Sys2Proof.Machine

open Sys2Proof

/-- The transmit level that a negotiated level comes to under 0x1001:00 (R384); where that allows neither, 2.4 Vpp. -/
def State.txLevelFor (s : State) (level : Nat) : Nat :=
  let allow := s.objNum 0x1001 0 3 % 4
  if allow == 0 then 1 else if bitOf allow (level % 2) then level % 2 else 1 - level % 2

/-- PHY_LINK_CHANGE (R384). -/
def execPhyLinkChange (up : Bool) (level sqi : Nat) (s : State) : Out :=
  .next ((s.updNet fun n => { n with
    linkUp := up, sqi := sqi % 8, txLevel := if up then s.txLevelFor level else n.txLevel }).sourceEvent 103)

/-- One's-complement sum of big-endian 16-bit words, an odd byte padded. -/
def inetSum (b : List Nat) : Nat :=
  let t := (List.range ((b.length + 1) / 2)).foldl (fun a k => a + 256 * byteAt b (2 * k) + byteAt b (2 * k + 1)) 0
  let f := t / 65536 + t % 65536
  f / 65536 + f % 65536

/-- The checksum of an upper-layer packet holds over the IPv6 pseudo-header. -/
def inetOk (ip pkt : List Nat) (next : Nat) : Bool :=
  inetSum (slice ip 8 32 ++ toBe 4 pkt.length ++ [0, 0, 0, next] ++ pkt) % 65535 == 0

/-- The solicited-node group of an address. -/
def solicited (a : List Nat) : List Nat := [0xFF, 2, 0, 0, 0, 0, 0, 0, 0, 0, 0, 1, 0xFF] ++ slice a 13 3

/-- The groups that the node has joined (R392, R394). -/
def State.groups (s : State) : List (List Nat) :=
  let g := fun (sc : Nat) (lo : Nat) => [0xFF, sc] ++ List.replicate 12 0 ++ toBe 2 lo
  [g 2 1, g 0x0E 0x181, g 2 0x6B, s.objBytes 0x1031 0] ++ s.ipv6.map solicited

/-- A prefix option of a router advertisement as an address, where it asks for one of 64 bits (R392). -/
def raAddress (o : List Nat) : Option (List Nat) :=
  if byteAt o 0 == 3 && byteAt o 1 == 4 && byteAt o 2 == 64 && bitOf (byteAt o 3) 6 && ofBe (slice o 4 4) != 0 then
    some (slice o 16 8 ++ eui64)
  else none

/-- The addresses that the options of a router advertisement give. Structural on the fuel. -/
def raAddresses (fuel : Nat) (o : List Nat) : List (List Nat) :=
  match fuel with
  | 0 => []
  | k + 1 =>
    if o.length < 8 || byteAt o 1 == 0 then []
    else (raAddress o).toList ++ raAddresses k (o.drop (8 * byteAt o 1))

/-- SLAAC (R392): up to two addresses, duplicate address detection taken to find none. -/
def State.slaacAdd (s : State) (l : List (List Nat)) : State :=
  s.updNet fun n => { n with slaac := (n.slaac ++ l.filter fun a => !n.slaac.contains a).eraseDups.take 2 }

/-- An IPv6 packet for the node: TOT over UDP, or a router advertisement. No other changes the node's state; fragments are
discarded (R392, R393). -/
def State.ipRx (s : State) (p : List Nat) : State :=
  let len := ofBe (slice p 4 2)
  let pkt := slice p 40 len
  let dst := slice p 24 16
  let next := byteAt p 6
  if p.length < 40 + len || byteAt p 0 / 16 != 6 || !(s.ipv6.contains dst || s.groups.contains dst) then s
  else if next == 17 then
    (if len < 8 || ofBe (slice pkt 4 2) != len || ofBe (slice pkt 6 2) == 0 || !inetOk p pkt 17 ||
        ofBe (slice pkt 2 2) != 42980 then s
     else s.totRx (pkt.drop 8))
  else if next == 58 && byteAt pkt 0 == 134 && 16 ≤ len && byteAt p 7 == 255 && inetOk p pkt 58 && s.bit PWR.STATE_DOM 3 then
    s.slaacAdd (raAddresses len (pkt.drop 16))
  else s

/-- The MAC takes a frame (R385): good check sequence, at most 1,518 bytes with it, no VLAN tag, no pause frame, and for the
node's address or a group. -/
def macTakes (f : List Nat) (fcsOk : Bool) : Bool :=
  let ty := ofBe (slice f 12 2)
  fcsOk && decide (18 ≤ f.length) && decide (f.length ≤ 1518) && ty != 0x8100 && ty != 0x8808 &&
    (slice f 0 6 == eui48 || bitOf (byteAt f 0) 0)

/-- MAC_FRAME_RX (R385): a frame from the destination address to its check sequence. -/
def execMacFrameRx (frame : List Nat) (fcsOk : Bool) (s : State) : Out :=
  if !macTakes frame fcsOk || s.coreP.refHeld || !s.net.linkUp then .next s
  else
    let s1 := (s.updNet fun n => { n with frame := frame }).sourceEvent 101
    .next (if ofBe (slice frame 12 2) == 0x86DD then s1.ipRx (slice frame 14 (frame.length - 18)) else s1)

/-! ### PTP (R395) -/

/-- The servo locks: ATB STATE.PTP_OK, and SYNTH where an anchor is held (R49). -/
def State.ptpLock (s : State) : State := if s.on ATB.STATE_PTP_OK then s else ((s.sourceEvent 105).set ATB.STATE_PTP_OK 1).synthEnter

/-- The servo loses lock; SYNTH then goes on in HOLDOVER (R38, R49). -/
def State.ptpLose (s : State) : State :=
  let s1 := ((s.sourceEvent 105).set ATB.STATE_PTP_OK 0).updNet fun n => { n with ptpGood := 0 }
  if s.on ATB.STATE_PTP_OK && s1.on ATB.CTRL_SRC && s1.atbSt == abSYNTH then
    (s1.updAtb fun a => { a with goodEdges := 0 }).atbEnter abHOLDOVER
  else s1

/-- A Sync with its offsetFromMaster in ns, the mean path delay and the PTP time (R395). -/
def State.ptpSync (s : State) (offset : Int) (delay ptpNs : Nat) : State :=
  let ok := decide (offset.natAbs ≤ 1000)
  let s1 : State := { s with
    net.ptpOffset := unsignedOf 32 offset, net.ptpDelay := delay % 4294967296
    net.ptpGood := if ok then min 8 (s.net.ptpGood + 1) else 0, atb.ptpNs := ptpNs, atb.ptpAt := s.now }
  if 10000 < offset.natAbs then s1.ptpLose
  else if 8 ≤ s1.net.ptpGood then s1.ptpLock
  else s1

/-- PTP_SYNC_RX (R395), with its timestamp captured (R31). -/
def execPtpSyncRx (offset : Int) (delay ptpNs : Nat) (s : State) : Out :=
  .next (if s.bit PWR.STATE_DOM 3 then (s.sourceEvent 104).ptpSync offset delay ptpNs else s)

/-- PTP_LOSS (R395): three Sync intervals without a Sync. -/
def execPtpLoss (s : State) : Out := .next (if s.bit PWR.STATE_DOM 3 then s.ptpLose else s)

end Sys2Proof.Machine
end

