-- ==== Sys2Proof/Machine/Hlk.lean ====
section
/-! DEFINITION. The Host Link: transactions, the checks of a frame, register frames along the block pointer, object frames
(R417 to R433). -/

namespace Sys2Proof.Machine

open Sys2Proof

/-- The Host Link's own state changed. -/
def State.updHlk (s : State) (g : Hlk → Hlk) : State := { s with hlk := g s.hlk }

/-- The link runs: enabled, with the CORE domain powered and out of reset (R420). -/
def State.hlOn (s : State) : Bool := s.on HLK.CTRL_EN && s.bit PWR.STATE_DOM 3 && !s.coreP.refHeld

/-- READY and OUTSTANDING follow the results held: the bridge finishes a frame's accesses at once. -/
def State.hlShow (s : State) : State :=
  (s.set HLK.STATE_READY s.hlk.results.length).set HLK.STATE_OUTSTANDING s.hlk.results.length

/-- FLAGS of a reply (R424): of frame k - 1, of the result carried, and PENDING where further results wait or LEVEL is set. -/
def State.hlFlags (s : State) : Nat :=
  let eob := match s.hlk.results.head? with
    | some r => r.eob
    | none => false
  s.hlk.flags % 64 + 64 * b2n eob + 128 * b2n (decide (1 < s.hlk.results.length) || s.on HLK.HOST_IRQ_LEVEL)

/-- A reply frame (R421, R423). -/
def State.hlReply (s : State) : List Nat :=
  let alive := (s.get HLK.STATE_DEV_ALIVE + 1) % 256
  let b := match s.hlk.results.head? with
    | some r => [alive, r.typ % 256, r.tag % 256, s.hlFlags] ++ padTo 56 r.body
    | none => [alive, 0, 0, s.hlFlags] ++ List.replicate 56 0
  b ++ toLe 4 (crc32c b)

/-- HL_CS_FALL (R417, R418): the SPI mode taken from HL_SCLK, the reply begun. -/
def execHlCsFall (sclk : Bool) (s : State) : Out :=
  if !s.hlOn then .next s
  else
    let s1 := s.updHlk fun h => { h with reply := s.hlReply, carries := !s.hlk.results.isEmpty }
    .next ((s1.set HLK.STATE_MODE (b2n sclk)).set HLK.STATE_DEV_ALIVE (s.get HLK.STATE_DEV_ALIVE + 1))

/-- The transaction ends: with exactly 512 clocks the result that it carried is delivered (R423). -/
def State.hlEnd (s : State) (clocks : Nat) : State :=
  (s.updHlk fun h => { h with
    results := if h.carries && clocks == 512 then h.results.drop 1 else h.results, reply := [], carries := false }).hlShow

/-- TYPE is listed and COUNT and the reserved fields are in range (R422, R426, R427, R430, R431). -/
def State.hlTypeOk (s : State) (f : List Nat) : Bool :=
  let ty := byteAt f 1
  let n := byteAt f 3
  let addr := le32 f 4 % 4 == 0
  if ty == 0x00 || ty == 0x01 then n == 0
  else if ty == 0x11 then decide (1 ≤ n) && decide (n ≤ 14) && addr
  else if ty == 0x12 then decide (1 ≤ n) && decide (n ≤ 13) && addr && s.on HLK.CTRL_WR_EN
  else if ty == 0x13 then decide (1 ≤ n) && decide (n ≤ 14) && s.on HLK.CTRL_WR_EN
  else if ty == 0x20 then n == 0 && byteAt f 7 == 0 && s.on HLK.CTRL_OBJ_EN
  else if ty == 0x21 then
    n == 0 && decide (le16 f 16 ≤ 40) && decide (byteAt f 18 < 2) && byteAt f 19 == 0 && s.on HLK.CTRL_OBJ_EN
  else false

/-- The FLAGS bit and the status bit of the first check of R422 that fails. -/
def State.hlCheck (s : State) (clocks : Nat) (f : List Nat) : Option (Nat × Fld) :=
  if clocks < 512 then some (2, HLK.STATUS_SHORT)
  else if 512 < clocks then some (3, HLK.STATUS_LONG)
  else if f.length != 64 || crc32c (f.take 60) != le32 f 60 then some (0, HLK.STATUS_BAD_CRC)
  else if s.hlk.seen && byteAt f 1 != 1 && byteAt f 0 != (s.get HLK.STATE_LAST_ALIVE + 1) % 256 then
    some (1, HLK.STATUS_BAD_ALIVE)
  else if 8 ≤ s.hlk.results.length then some (4, HLK.STATUS_BUSY)
  else if !s.hlTypeOk f then some (5, HLK.STATUS_BAD_TYPE)
  else none

/-- A frame rejected (R422): its flag, its status bit, counted. -/
def State.hlReject (s : State) (bit : Nat) (f : Fld) : State :=
  let s1 := ((s.updHlk fun h => { h with flags := 2 ^ bit }).set f 1).bump HLK.CNT_REJ_COUNT HLK.STATUS_SAT
  if bit == 4 then s1.bump HLK.CNT_BUSY_COUNT HLK.STATUS_SAT else s1

/-- A frame accepted (R422). -/
def State.hlAccept (s : State) (f : List Nat) : State :=
  ((((s.updHlk fun h => { h with flags := 0, seen := true }).set HLK.STATE_LAST_ALIVE (byteAt f 0)).set
    HLK.STATUS_FRAME_OK 1).bump HLK.CNT_OK_COUNT HLK.STATUS_SAT)

/-- A result queued for the host (R423). -/
def State.hlResult (s : State) (f : List Nat) (eob : Bool) (body : List Nat) : State :=
  (s.updHlk fun h => { h with
    results := h.results ++ [{ typ := byteAt f 1, tag := byteAt f 2, eob := eob, body := body }] }).hlShow

/-- A frame of TYPE `ty` at the rise of HL_CS_N after 512 clocks: checked, and where accepted given to `g`. -/
def State.hlFrame (s : State) (ty : Nat) (f : List Nat) (g : State → Out) : Out :=
  if !s.hlOn || byteAt f 1 != ty then .next s
  else
    let s1 := s.hlEnd 512
    match s1.hlCheck 512 f with
    | some c => .next (s1.hlReject c.1 c.2)
    | none => g (s1.hlAccept f)

/-- HL_FRAME_REJECT (R422): a transaction whose frame fails a check. -/
def execHlFrameReject (clocks : Nat) (frame : List Nat) (s : State) : Out :=
  if !s.hlOn then .next s
  else
    let s1 := s.hlEnd clocks
    match s1.hlCheck clocks frame with
    | some c => .next (s1.hlReject c.1 c.2)
    | none => .next s

/-- HL_NOP (R426). -/
def execHlNop (frame : List Nat) (s : State) : Out := s.hlFrame 0x00 frame fun t => .next t

/-- HL_SYNC (R422, R426). -/
def execHlSync (frame : List Nat) (s : State) : Out := s.hlFrame 0x01 frame fun t => .next t

/-! ### Register frames (R427 to R430) -/

/-- The next address of the same block or memory; none where it has ended (R428). -/
def nextAddr (a : Nat) : Option Nat :=
  match mapRow a with
  | some 7 =>
    match blockAt a with
    | some b => ((List.range 512).find? fun k =>
        decide (a % 65536 < 4 * k) && b.decode (b.base + 4 * k) == b.base + 4 * k).map fun k => b.base + 4 * k
    | none => none
  | some r => if mapRow (a + 4) == some r then some (a + 4) else none
  | none => none

/-- A register frame under way: the pointer, words completed, values read, a fault's word, a block without listed registers. -/
structure HlRun where
  ptr : Option Nat
  done : Nat := 0
  vals : List Nat := []
  fault : Option Nat := none
  unlisted : Option Nat := none
  deriving DecidableEq, Repr

/-- One word of a frame: read, or the word of `w` written (R428, R429). -/
def State.hlWord (p : State × HlRun) (w : Option Nat) : State × HlRun :=
  match p.2.ptr, p.2.fault, p.2.unlisted with
  | some a, none, none =>
    let r := match w with
      | some v => p.1.busWrite .hostLink a 4 v
      | none => p.1.busRead .hostLink a 4
    match r with
    | (.ok v, t) => (t, { p.2 with ptr := nextAddr a, done := p.2.done + 1, vals := p.2.vals ++ [v] })
    | (.error, t) => (t, { p.2 with ptr := none, fault := some p.2.done })
    | (.unlisted b, t) => (t, { p.2 with unlisted := some b })
  | _, _, _ => p

/-- ERR of a frame (R429). -/
def hlErr (r : HlRun) : Nat :=
  match r.fault with
  | some k => 2147483648 + 16 * k + r.done
  | none => r.done

/-- A register frame's words done: pointer, errors and result; `read` says that the values are the result's body. -/
def State.hlWords (s : State) (f : List Nat) (start : Option Nat) (ws : List (Option Nat)) (read : Bool) : Out :=
  let p := ws.foldl State.hlWord (s, { ptr := start })
  match p.2.unlisted with
  | some b => .refused (.registersNotGiven b)
  | none =>
    let s1 := p.1.set HLK.STATE_PTR_VALID (b2n p.2.ptr.isSome)
    let s2 := match p.2.ptr with
      | some a => s1.set HLK.PTR_ADDR a
      | none => s1
    let s3 := if p.2.fault.isSome then
        ((s2.set HLK.STATUS_BUS_ERR 1).bump HLK.CNT_BUSERR_COUNT HLK.STATUS_SAT).set HLK.ERR_INFO_ERR (hlErr p.2)
      else s2
    .next (s3.hlResult f (p.2.ptr.isNone && p.2.fault.isNone)
      (if read then p.2.vals.flatMap fun v => toLe 4 v else toLe 4 (hlErr p.2)))

/-- The words that a write frame carries from byte `o`. -/
def hlPayload (f : List Nat) (o : Nat) : List (Option Nat) :=
  (List.range (byteAt f 3)).map fun k => some (le32 f (o + 4 * k))

/-- The pointer as REG_WRITE_NEXT finds it. -/
def State.hlPtr (s : State) : Option Nat := if s.on HLK.STATE_PTR_VALID then some (s.get HLK.PTR_ADDR) else none

/-- REG_READ (R426 to R429). -/
def execRegRead (frame : List Nat) (s : State) : Out :=
  s.hlFrame 0x11 frame fun t => t.hlWords frame (some (le32 frame 4)) (List.replicate (byteAt frame 3) none) true

/-- REG_WRITE_AT (R426 to R430). -/
def execRegWriteAt (frame : List Nat) (s : State) : Out :=
  s.hlFrame 0x12 frame fun t => t.hlWords frame (some (le32 frame 4)) (hlPayload frame 8) false

/-- REG_WRITE_NEXT (R426 to R430). -/
def execRegWriteNext (frame : List Nat) (s : State) : Out :=
  s.hlFrame 0x13 frame fun t => t.hlWords frame t.hlPtr (hlPayload frame 4) false

/-! ### Object frames (R431) -/

/-- An object read for the host: a record under HIDE is not readable (R319). -/
def State.hlGet (s : State) (i sub : Nat) : Nat × List Nat :=
  let r := s.odRead i sub
  if r.1 == odOK && 0x4200 ≤ i && i ≤ 0x42FF && bitOf (s.rights (i - 0x4200)) 6 then (odACCESS, []) else r

/-- OBJ_READ (R431): up to 44 bytes of the value from OFFSET. -/
def State.hlObjRead (s : State) (f : List Nat) : State :=
  let i := le16 f 4
  let r := s.hlGet i (byteAt f 6)
  let off := le32 f 8
  let ty := match objFind i (byteAt f 6) with
    | some d => d.ty
    | none => 0
  let body := if r.1 != odOK then toLe 2 r.1
    else if r.2.length < off then toLe 2 odSEQUENCE ++ [ty, 0] ++ toLe 4 r.2.length
    else
      let v := (r.2.drop off).take 44
      toLe 2 odOK ++ [ty, 0] ++ toLe 4 r.2.length ++ toLe 2 v.length ++ [0, 0] ++ v
  s.fresh.2.hlResult f false body

/-- OBJ_READ (R431). -/
def execObjRead (frame : List Nat) (s : State) : Out := s.hlFrame 0x20 frame fun t => .next (t.hlObjRead frame)

/-- The Host Link's staged write of an object. -/
def State.hlStaged (s : State) (i sub : Nat) : Option Xfer :=
  s.net.xfers.find? fun x => x.host && x.index == i && x.sub == sub

/-- The staged writes without one of an object. -/
def State.hlUnstage (s : State) (i sub : Nat) : State :=
  s.setXfers (s.net.xfers.filter fun x => !(x.host && x.index == i && x.sub == sub))

/-- STATUS and NEXT of an OBJ_WRITE. -/
def State.hlObjDone (s : State) (f : List Nat) (c next : Nat) : State :=
  s.hlResult f false (toLe 2 c ++ [0, 0] ++ toLe 4 next)

/-- A segment for a staged write: appended, and at LAST the value applied. The write keeps its place behind those that have been
idle longer. -/
def State.hlSegment (s : State) (f : List Nat) (x : Xfer) : State :=
  let seg := slice f 20 (le16 f 16)
  let off := le32 f 8
  let y : Xfer := { x with data := x.data ++ seg }
  if off != x.data.length || x.total < y.data.length then s.hlObjDone f odSEQUENCE x.data.length
  else
    let s1 := (s.hlUnstage x.index x.sub).imgSegment x off seg
    if byteAt f 18 == 0 then (s1.setXfers (s1.net.xfers ++ [y])).hlObjDone f odOK y.data.length
    else if y.data.length != y.total then s1.hlObjDone f odSEQUENCE y.data.length
    else
      let r := s1.odPut x.index x.sub (byteAt f 7) y.data
      if r.1 == odOK && resetObj x.index then r.2 else r.2.hlObjDone f r.1 y.data.length

/-- A staged write opened (R404, R431). -/
def State.hlOpen (s : State) (f : List Nat) (i sub : Nat) : State :=
  let total := le32 f 12
  let c := s.odBar i sub
  if c != odOK then s.hlObjDone f c 0
  else if s.xferOpen i sub || 4 ≤ s.net.xfers.length then s.hlObjDone f odBUSY 0
  else if i == 0x0130 && s.on PWR.STATE_LEW then s.hlObjDone f odSTATE 0
  else if (if i == 0x0130 then imgSize (sub - 1) else 4194304) < total then s.hlObjDone f odNO_MEMORY 0
  else
    let x : Xfer := { src := 0, tid := 0, kid := 0, index := i, sub := sub, out := false, kind := 0, total := total, crc := 0
                      data := [], next := 0, segs := 0, resends := 0, host := true }
    (s.setXfers (s.net.xfers ++ [x])).hlSegment f x

/-- OBJ_WRITE (R431): a single write, or a segment of a staged one. -/
def State.hlObjWrite (s : State) (f : List Nat) : State :=
  let i := le16 f 4
  let sub := byteAt f 6
  let off := le32 f 8
  let n := le16 f 16
  match s.hlStaged i sub with
  | some x => if off == 0 && byteAt f 18 == 1 then s.hlObjDone f odBUSY 0 else s.hlSegment f x
  | none =>
    if off != 0 then s.hlObjDone f odSEQUENCE 0
    else if byteAt f 18 == 0 then s.hlOpen f i sub
    else if le32 f 12 != n then s.hlObjDone f odSEQUENCE 0
    else
      let r := s.odWrite i sub (byteAt f 7) (slice f 20 n)
      if r.1 == odOK && resetObj i then r.2 else r.2.hlObjDone f r.1 (if r.1 == odOK then n else 0)

/-- OBJ_WRITE (R431). -/
def execObjWrite (frame : List Nat) (s : State) : Out := s.hlFrame 0x21 frame fun t => .next (t.hlObjWrite frame)

/-- HL_STAGED_WRITE_TIMEOUT (R431): the staged write that has been idle longest is dropped. -/
def execHlStagedWriteTimeout (s : State) : Out :=
  .next (match s.net.xfers.find? fun x => x.host with
    | some x => s.hlUnstage x.index x.sub
    | none => s)

end Sys2Proof.Machine
end

