-- ==== Sys2Proof/Machine/Dispatch.lean ====
section
/-! DEFINITION. Which meaning each command has: one arm per row of the opcode table. -/

namespace Sys2Proof.Machine

open Sys2Proof

def exec (i : Instr) (s : State) : Host.Outcome State Fault Refusal :=
  match i with
  | .registerWrite m addr width value => Sys2Proof.Machine.execRegisterWrite m addr width value s
  | .rcRead m addr width => Sys2Proof.Machine.execRcRead m addr width s
  | .loReadShadow m addr => Sys2Proof.Machine.execLoReadShadow m addr s
  | .irqCfgWrite m value => Sys2Proof.Machine.execIrqCfgWrite m value s
  | .seqMemoryWrite m addr width value => Sys2Proof.Machine.execSeqMemoryWrite m addr width value s
  | .debugHalt core => Sys2Proof.Machine.execDebugHalt core s
  | .debugRelease core => Sys2Proof.Machine.execDebugRelease core s
  | .atbEnable => Sys2Proof.Machine.execAtbEnable s
  | .atbDisable => Sys2Proof.Machine.execAtbDisable s
  | .atbSourceChange src => Sys2Proof.Machine.execAtbSourceChange src s
  | .atbStandaloneClear => Sys2Proof.Machine.execAtbStandaloneClear s
  | .atbOffsetWrite v => Sys2Proof.Machine.execAtbOffsetWrite v s
  | .mainsSyncEdge rising held angle spacing => Sys2Proof.Machine.execMainsSyncEdge rising held angle spacing s
  | .holdover => Sys2Proof.Machine.execHoldover s
  | .holdExpired => Sys2Proof.Machine.execHoldExpired s
  | .cycleBoundary ptpNs => Sys2Proof.Machine.execCycleBoundary ptpNs s
  | .anchorEvaluate ptpNs => Sys2Proof.Machine.execAnchorEvaluate ptpNs s
  | .adjGo => Sys2Proof.Machine.execAdjGo s
  | .planArm => Sys2Proof.Machine.execPlanArm s
  | .planDisarm => Sys2Proof.Machine.execPlanDisarm s
  | .planDataAccess write v => Sys2Proof.Machine.execPlanDataAccess write v s
  | .pendingPlanWrite body => Sys2Proof.Machine.execPendingPlanWrite body s
  | .slotPrep slot => Sys2Proof.Machine.execSlotPrep slot s
  | .slotStart slot => Sys2Proof.Machine.execSlotStart slot s
  | .slotEnd slot => Sys2Proof.Machine.execSlotEnd slot s
  | .atbCapture ch src rising ns => Sys2Proof.Machine.execAtbCapture ch src rising ns s
  | .angleEvent ev => Sys2Proof.Machine.execAngleEvent ev s
  | .utxReqOff n m => Sys2Proof.Machine.execUtxReqOff n m s
  | .utxReqStandby n m => Sys2Proof.Machine.execUtxReqStandby n m s
  | .utxReqReady n m => Sys2Proof.Machine.execUtxReqReady n m s
  | .utxReqCw n m => Sys2Proof.Machine.execUtxReqCw n m s
  | .utxReqListen n m => Sys2Proof.Machine.execUtxReqListen n m s
  | .biasUpDone n => Sys2Proof.Machine.execBiasUpDone n s
  | .rampUpDone n => Sys2Proof.Machine.execRampUpDone n s
  | .rampDownDone n => Sys2Proof.Machine.execRampDownDone n s
  | .receiveReady sheaf => Sys2Proof.Machine.execReceiveReady sheaf s
  | .turnaroundEdge sheaf => Sys2Proof.Machine.execTurnaroundEdge sheaf s
  | .waitFail n => Sys2Proof.Machine.execWaitFail n s
  | .paFault n fwd => Sys2Proof.Machine.execPaFault n fwd s
  | .utxPwrWrite n m idx => Sys2Proof.Machine.execUtxPwrWrite n m idx s
  | .utxModCfgWrite n m value => Sys2Proof.Machine.execUtxModCfgWrite n m value s
  | .utxSteerWrite n m steer => Sys2Proof.Machine.execUtxSteerWrite n m steer s
  | .utxLoSrcWrite n m src => Sys2Proof.Machine.execUtxLoSrcWrite n m src s
  | .rfsFreqWrite n m value => Sys2Proof.Machine.execRfsFreqWrite n m value s
  | .rfsLock n m => Sys2Proof.Machine.execRfsLock n m s
  | .rfsFull n m => Sys2Proof.Machine.execRfsFull n m s
  | .rfsCal n m => Sys2Proof.Machine.execRfsCal n m s
  | .hintMiss n => Sys2Proof.Machine.execHintMiss n s
  | .synthLocked n band lockTime vtune => Sys2Proof.Machine.execSynthLocked n band lockTime vtune s
  | .synthLossOfLock n => Sys2Proof.Machine.execSynthLossOfLock n s
  | .tempCalStart n => Sys2Proof.Machine.execTempCalStart n s
  | .synthCalDone n temp bands => Sys2Proof.Machine.execSynthCalDone n temp bands s
  | .paRailReached => Sys2Proof.Machine.execPaRailReached s
  | .nullFirstHold ch resid crs vecI vecQ => Sys2Proof.Machine.execNullFirstHold ch resid crs vecI vecQ s
  | .holdLost ch resid crs vecI vecQ => Sys2Proof.Machine.execHoldLost ch resid crs vecI vecQ s
  | .rejoin ch resid crs vecI vecQ => Sys2Proof.Machine.execRejoin ch resid crs vecI vecQ s
  | .overload ch => Sys2Proof.Machine.execOverload ch s
  | .cnvSat ch vecI vecQ resid => Sys2Proof.Machine.execCnvSat ch vecI vecQ resid s
  | .foreignToneLock ch fofs level => Sys2Proof.Machine.execForeignToneLock ch fofs level s
  | .preambleDetect sheaf => Sys2Proof.Machine.execPreambleDetect sheaf s
  | .replyDecision sheaf ev => Sys2Proof.Machine.execReplyDecision sheaf ev s
  | .emptyDecision sheaf ev => Sys2Proof.Machine.execEmptyDecision sheaf ev s
  | .urxTrimWrite ch m iq value => Sys2Proof.Machine.execUrxTrimWrite ch m iq value s
  | .cnvVecWrite ch m value => Sys2Proof.Machine.execCnvVecWrite ch m value s
  | .capArm => Sys2Proof.Machine.execCapArm s
  | .capTrig => Sys2Proof.Machine.execCapTrig s
  | .capStop stored before ptr samples => Sys2Proof.Machine.execCapStop stored before ptr samples s
  | .captureTrigger src unit => Sys2Proof.Machine.execCaptureTrigger src unit s
  | .captureDone before ptr samples => Sys2Proof.Machine.execCaptureDone before ptr samples s
  | .grantRequest n => Sys2Proof.Machine.execGrantRequest n s
  | .lbtDecision n power => Sys2Proof.Machine.execLbtDecision n power s
  | .rgeViolation n code fwd => Sys2Proof.Machine.execRgeViolation n code fwd s
  | .killPin => Sys2Proof.Machine.execKillPin s
  | .killPinRelease => Sys2Proof.Machine.execKillPinRelease s
  | .killReg m => Sys2Proof.Machine.execKillReg m s
  | .killRegClear m => Sys2Proof.Machine.execKillRegClear m s
  | .quietClr m => Sys2Proof.Machine.execQuietClr m s
  | .rgeLogPop m => Sys2Proof.Machine.execRgeLogPop m s
  | .rfEnWrite m v => Sys2Proof.Machine.execRfEnWrite m v s
  | .leaseGo sh m slot seq => Sys2Proof.Machine.execLeaseGo sh m slot seq s
  | .leaseRelease sh m => Sys2Proof.Machine.execLeaseRelease sh m s
  | .leaseFreed sh => Sys2Proof.Machine.execLeaseFreed sh s
  | .antSelWrite m value => Sys2Proof.Machine.execAntSelWrite m value s
  | .beamSelWrite sh m sel => Sys2Proof.Machine.execBeamSelWrite sh m sel s
  | .isoWrite m value => Sys2Proof.Machine.execIsoWrite m value s
  | .geoDataWrite m value => Sys2Proof.Machine.execGeoDataWrite m value s
  | .bwDataAccess sh write v => Sys2Proof.Machine.execBwDataAccess sh write v s
  | .bearRdy sh => Sys2Proof.Machine.execBearRdy sh s
  | .cfCommandParsed sh bits level => Sys2Proof.Machine.execCfCommandParsed sh bits level s
  | .cfLost sh level => Sys2Proof.Machine.execCfLost sh level s
  | .cfSearch sh level => Sys2Proof.Machine.execCfSearch sh level s
  | .frameHoldRelease sh => Sys2Proof.Machine.execFrameHoldRelease sh s
  | .seqStart n m => Sys2Proof.Machine.execSeqStart n m s
  | .seqIdle n m => Sys2Proof.Machine.execSeqIdle n m s
  | .seqStop n m => Sys2Proof.Machine.execSeqStop n m s
  | .seqReset n m => Sys2Proof.Machine.execSeqReset n m s
  | .gcmdStart m mask => Sys2Proof.Machine.execGcmdStart m mask s
  | .gcmdStop m mask => Sys2Proof.Machine.execGcmdStop m mask s
  | .doorbell n m => Sys2Proof.Machine.execDoorbell n m s
  | .hfLeaseGo m target seq entry => Sys2Proof.Machine.execHfLeaseGo m target seq entry s
  | .hfLeaseRelease m target => Sys2Proof.Machine.execHfLeaseRelease m target s
  | .waitEventEnd n => Sys2Proof.Machine.execWaitEventEnd n s
  | .waitExpiry n => Sys2Proof.Machine.execWaitExpiry n s
  | .pushDrain n => Sys2Proof.Machine.execPushDrain n s
  | .lsiIllegal n w => Sys2Proof.Machine.execLsiIllegal n w s
  | .lsiNop n => Sys2Proof.Machine.execLsiNop n s
  | .lsiAdd n d a b => Sys2Proof.Machine.execLsiAdd n d a b s
  | .lsiSub n d a b => Sys2Proof.Machine.execLsiSub n d a b s
  | .lsiAnd n d a b => Sys2Proof.Machine.execLsiAnd n d a b s
  | .lsiOr n d a b => Sys2Proof.Machine.execLsiOr n d a b s
  | .lsiXor n d a b => Sys2Proof.Machine.execLsiXor n d a b s
  | .lsiShl n d a b => Sys2Proof.Machine.execLsiShl n d a b s
  | .lsiShr n d a b => Sys2Proof.Machine.execLsiShr n d a b s
  | .lsiMinu n d a b => Sys2Proof.Machine.execLsiMinu n d a b s
  | .lsiMaxu n d a b => Sys2Proof.Machine.execLsiMaxu n d a b s
  | .lsiMul n d a b => Sys2Proof.Machine.execLsiMul n d a b s
  | .lsiExt n d a pos len => Sys2Proof.Machine.execLsiExt n d a pos len s
  | .lsiClz n d a => Sys2Proof.Machine.execLsiClz n d a s
  | .lsiCmp n a b => Sys2Proof.Machine.execLsiCmp n a b s
  | .lsiAddi n d a imm => Sys2Proof.Machine.execLsiAddi n d a imm s
  | .lsiAndi n d a imm => Sys2Proof.Machine.execLsiAndi n d a imm s
  | .lsiOri n d a imm => Sys2Proof.Machine.execLsiOri n d a imm s
  | .lsiXori n d a imm => Sys2Proof.Machine.execLsiXori n d a imm s
  | .lsiShli n d a imm => Sys2Proof.Machine.execLsiShli n d a imm s
  | .lsiShri n d a imm => Sys2Proof.Machine.execLsiShri n d a imm s
  | .lsiLui n d imm => Sys2Proof.Machine.execLsiLui n d imm s
  | .lsiCmpi n a imm => Sys2Proof.Machine.execLsiCmpi n a imm s
  | .lsiLdw n d a imm => Sys2Proof.Machine.execLsiLdw n d a imm s
  | .lsiLdh n d a imm => Sys2Proof.Machine.execLsiLdh n d a imm s
  | .lsiLdb n d a imm => Sys2Proof.Machine.execLsiLdb n d a imm s
  | .lsiStw n d a imm => Sys2Proof.Machine.execLsiStw n d a imm s
  | .lsiSth n d a imm => Sys2Proof.Machine.execLsiSth n d a imm s
  | .lsiStb n d a imm => Sys2Proof.Machine.execLsiStb n d a imm s
  | .lsiBr n cond tgt => Sys2Proof.Machine.execLsiBr n cond tgt s
  | .lsiDbnz n d tgt => Sys2Proof.Machine.execLsiDbnz n d tgt s
  | .lsiCall n tgt => Sys2Proof.Machine.execLsiCall n tgt s
  | .lsiRet n => Sys2Proof.Machine.execLsiRet n s
  | .lsiJr n a => Sys2Proof.Machine.execLsiJr n a s
  | .lsiHalt n => Sys2Proof.Machine.execLsiHalt n s
  | .lsiDone n => Sys2Proof.Machine.execLsiDone n s
  | .lsiEvt n e => Sys2Proof.Machine.execLsiEvt n e s
  | .lsiRds n d sreg => Sys2Proof.Machine.execLsiRds n d sreg s
  | .lsiWrs n d sreg => Sys2Proof.Machine.execLsiWrs n d sreg s
  | .lsiRdpos n d => Sys2Proof.Machine.execLsiRdpos n d s
  | .lsiPld n d a blk off => Sys2Proof.Machine.execLsiPld n d a blk off s
  | .lsiPst n d a blk off => Sys2Proof.Machine.execLsiPst n d a blk off s
  | .lsiRqs n chmask req => Sys2Proof.Machine.execLsiRqs n chmask req s
  | .lsiLock n a full => Sys2Proof.Machine.execLsiLock n a full s
  | .lsiTxf n fidx => Sys2Proof.Machine.execLsiTxf n fidx s
  | .lsiPush n a q => Sys2Proof.Machine.execLsiPush n a q s
  | .lsiPushb n a q cnt => Sys2Proof.Machine.execLsiPushb n a q cnt s
  | .lsiPop n d q => Sys2Proof.Machine.execLsiPop n d q s
  | .lsiPushrec n q => Sys2Proof.Machine.execLsiPushrec n q s
  | .lsiStrec n a => Sys2Proof.Machine.execLsiStrec n a s
  | .lsiWait n mask unit count => Sys2Proof.Machine.execLsiWait n mask unit count s
  | .lsiWaitr n mask b => Sys2Proof.Machine.execLsiWaitr n mask b s
  | .lsiClrev n mask => Sys2Proof.Machine.execLsiClrev n mask s
  | .hfStateDone railOk => Sys2Proof.Machine.execHfStateDone railOk s
  | .hfSynthTimeout => Sys2Proof.Machine.execHfSynthTimeout s
  | .drvFault => Sys2Proof.Machine.execDrvFault s
  | .hfFrameHoldRelease => Sys2Proof.Machine.execHfFrameHoldRelease s
  | .hfReplyDecision ev => Sys2Proof.Machine.execHfReplyDecision ev s
  | .hfWaitExpiry => Sys2Proof.Machine.execHfWaitExpiry s
  | .hfWtxAnswer => Sys2Proof.Machine.execHfWtxAnswer s
  | .ftDataAccess write v => Sys2Proof.Machine.execFtDataAccess write v s
  | .tagGuardRelease => Sys2Proof.Machine.execTagGuardRelease s
  | .gleanerPing amp phase => Sys2Proof.Machine.execGleanerPing amp phase s
  | .glArm => Sys2Proof.Machine.execGlArm s
  | .glResume => Sys2Proof.Machine.execGlResume s
  | .glRebase => Sys2Proof.Machine.execGlRebase s
  | .glStop => Sys2Proof.Machine.execGlStop s
  | .fieldOn vharv avail => Sys2Proof.Machine.execFieldOn vharv avail s
  | .fieldOff => Sys2Proof.Machine.execFieldOff s
  | .tagReqa => Sys2Proof.Machine.execTagReqa s
  | .tagWupa => Sys2Proof.Machine.execTagWupa s
  | .tagAnticoll level known => Sys2Proof.Machine.execTagAnticoll level known s
  | .tagSelect level cln => Sys2Proof.Machine.execTagSelect level cln s
  | .tagRats fsdi cid => Sys2Proof.Machine.execTagRats fsdi cid s
  | .tagHlta => Sys2Proof.Machine.execTagHlta s
  | .tagPps dri dsi => Sys2Proof.Machine.execTagPps dri dsi s
  | .tagDeselect => Sys2Proof.Machine.execTagDeselect s
  | .tagWtxResponse => Sys2Proof.Machine.execTagWtxResponse s
  | .tagWtxRequest => Sys2Proof.Machine.execTagWtxRequest s
  | .tagSelectNdefApp a => Sys2Proof.Machine.execTagSelectNdefApp a s
  | .tagSelectFile a => Sys2Proof.Machine.execTagSelectFile a s
  | .tagReadBinary a => Sys2Proof.Machine.execTagReadBinary a s
  | .tagUpdateBinary a => Sys2Proof.Machine.execTagUpdateBinary a s
  | .getInfo a => Sys2Proof.Machine.execGetInfo a s
  | .verify a => Sys2Proof.Machine.execVerify a s
  | .auth1 a => Sys2Proof.Machine.execAuth1 a s
  | .auth2 a => Sys2Proof.Machine.execAuth2 a s
  | .readRecord a => Sys2Proof.Machine.execReadRecord a s
  | .writeRecord a => Sys2Proof.Machine.execWriteRecord a s
  | .incCounter a => Sys2Proof.Machine.execIncCounter a s
  | .readCounters a => Sys2Proof.Machine.execReadCounters a s
  | .tagPassthroughApdu a => Sys2Proof.Machine.execTagPassthroughApdu a s
  | .tagCommitDone => Sys2Proof.Machine.execTagCommitDone s
  | .lockoutEnd => Sys2Proof.Machine.execLockoutEnd s
  | .wiredRead m record nowait => Sys2Proof.Machine.execWiredRead m record nowait s
  | .wiredWrite m record nowait => Sys2Proof.Machine.execWiredWrite m record nowait s
  | .wgrant => Sys2Proof.Machine.execWgrant s
  | .pcmdRespond m rlen => Sys2Proof.Machine.execPcmdRespond m rlen s
  | .pcmdReject m => Sys2Proof.Machine.execPcmdReject m s
  | .passthroughTimeout => Sys2Proof.Machine.execPassthroughTimeout s
  | .levelWrite m v => Sys2Proof.Machine.execLevelWrite m v s
  | .curveDataAccess m write v => Sys2Proof.Machine.execCurveDataAccess m write v s
  | .daliSend m v => Sys2Proof.Machine.execDaliSend m v s
  | .daliCollision => Sys2Proof.Machine.execDaliCollision s
  | .daliDone => Sys2Proof.Machine.execDaliDone s
  | .daliBackwardFrame data framingOk => Sys2Proof.Machine.execDaliBackwardFrame data framingOk s
  | .daliNoAnswer => Sys2Proof.Machine.execDaliNoAnswer s
  | .autoDapcSend => Sys2Proof.Machine.execAutoDapcSend s
  | .kick m => Sys2Proof.Machine.execKick m s
  | .fsClr m => Sys2Proof.Machine.execFsClr m s
  | .fsForce m => Sys2Proof.Machine.execFsForce m s
  | .keepaliveLapse => Sys2Proof.Machine.execKeepaliveLapse s
  | .pdRdy range pa clip => Sys2Proof.Machine.execPdRdy range pa clip s
  | .motion filt => Sys2Proof.Machine.execMotion filt s
  | .pirRearm filt => Sys2Proof.Machine.execPirRearm filt s
  | .indGo m v => Sys2Proof.Machine.execIndGo m v s
  | .indDone data => Sys2Proof.Machine.execIndDone data s
  | .pollRead status => Sys2Proof.Machine.execPollRead status s
  | .pollTimeout => Sys2Proof.Machine.execPollTimeout s
  | .txnTimeout => Sys2Proof.Machine.execTxnTimeout s
  | .xipFetch m addr => Sys2Proof.Machine.execXipFetch m addr s
  | .xipFillDone line => Sys2Proof.Machine.execXipFillDone line s
  | .cacheInv m => Sys2Proof.Machine.execCacheInv m s
  | .xwinWrite m n v => Sys2Proof.Machine.execXwinWrite m n v s
  | .rcfgWrite m v => Sys2Proof.Machine.execRcfgWrite m v s
  | .ibufWrite m addr width v => Sys2Proof.Machine.execIbufWrite m addr width v s
  | .grnEnable m => Sys2Proof.Machine.execGrnEnable m s
  | .recordFold => Sys2Proof.Machine.execRecordFold s
  | .sweepStep => Sys2Proof.Machine.execSweepStep s
  | .grnFormat => Sys2Proof.Machine.execGrnFormat s
  | .grnRecover => Sys2Proof.Machine.execGrnRecover s
  | .grnCommit => Sys2Proof.Machine.execGrnCommit s
  | .grnCommitTimer => Sys2Proof.Machine.execGrnCommitTimer s
  | .nrTailWrite m v => Sys2Proof.Machine.execNrTailWrite m v s
  | .tagWatch body => Sys2Proof.Machine.execTagWatch body s
  | .tagQuery body => Sys2Proof.Machine.execTagQuery body s
  | .phyLinkChange up level sqi => Sys2Proof.Machine.execPhyLinkChange up level sqi s
  | .macFrameRx frame fcsOk => Sys2Proof.Machine.execMacFrameRx frame fcsOk s
  | .pdClassChange cls => Sys2Proof.Machine.execPdClassChange cls s
  | .ptpSyncRx offset delay ptpNs => Sys2Proof.Machine.execPtpSyncRx offset delay ptpNs s
  | .ptpLoss => Sys2Proof.Machine.execPtpLoss s
  | .readReq d => Sys2Proof.Machine.execReadReq d s
  | .writeReq d => Sys2Proof.Machine.execWriteReq d s
  | .xferInit d => Sys2Proof.Machine.execXferInit d s
  | .xferData d => Sys2Proof.Machine.execXferData d s
  | .xferAck d => Sys2Proof.Machine.execXferAck d s
  | .xferEnd d => Sys2Proof.Machine.execXferEnd d s
  | .xferAbort d => Sys2Proof.Machine.execXferAbort d s
  | .subscribe d => Sys2Proof.Machine.execSubscribe d s
  | .notifyAck d => Sys2Proof.Machine.execNotifyAck d s
  | .planMcast d => Sys2Proof.Machine.execPlanMcast d s
  | .totUnknownType d => Sys2Proof.Machine.execTotUnknownType d s
  | .xferResendTimeout k => Sys2Proof.Machine.execXferResendTimeout k s
  | .xferIdleTimeout k => Sys2Proof.Machine.execXferIdleTimeout k s
  | .notifySend k => Sys2Proof.Machine.execNotifySend k s
  | .notifyResendTimeout k => Sys2Proof.Machine.execNotifyResendTimeout k s
  | .subscriptionExpiry k => Sys2Proof.Machine.execSubscriptionExpiry k s
  | .store => Sys2Proof.Machine.execStore s
  | .restore => Sys2Proof.Machine.execRestore s
  | .hlCsFall sclk => Sys2Proof.Machine.execHlCsFall sclk s
  | .hlFrameReject clocks frame => Sys2Proof.Machine.execHlFrameReject clocks frame s
  | .hlNop frame => Sys2Proof.Machine.execHlNop frame s
  | .hlSync frame => Sys2Proof.Machine.execHlSync frame s
  | .regRead frame => Sys2Proof.Machine.execRegRead frame s
  | .regWriteAt frame => Sys2Proof.Machine.execRegWriteAt frame s
  | .regWriteNext frame => Sys2Proof.Machine.execRegWriteNext frame s
  | .objRead frame => Sys2Proof.Machine.execObjRead frame s
  | .objWrite frame => Sys2Proof.Machine.execObjWrite frame s
  | .hlStagedWriteTimeout => Sys2Proof.Machine.execHlStagedWriteTimeout s
  | .hostIrqSet m => Sys2Proof.Machine.execHostIrqSet m s
  | .hostIrqClr m => Sys2Proof.Machine.execHostIrqClr m s
  | .quePush q m v mismatch => Sys2Proof.Machine.execQuePush q m v mismatch s
  | .quePop q m mismatch => Sys2Proof.Machine.execQuePop q m mismatch s
  | .queFlush m mask => Sys2Proof.Machine.execQueFlush m mask s
  | .queEnable q m base depth => Sys2Proof.Machine.execQueEnable q m base depth s
  | .queDisable q m => Sys2Proof.Machine.execQueDisable q m s
  | .tmrArm n m => Sys2Proof.Machine.execTmrArm n m s
  | .tmrStart n m => Sys2Proof.Machine.execTmrStart n m s
  | .tmrStop n m => Sys2Proof.Machine.execTmrStop n m s
  | .tmrGstart m mask => Sys2Proof.Machine.execTmrGstart m mask s
  | .tmrGstop m mask => Sys2Proof.Machine.execTmrGstop m mask s
  | .tmrExpiry n => Sys2Proof.Machine.execTmrExpiry n s
  | .tmrCapture n src rising => Sys2Proof.Machine.execTmrCapture n src rising s
  | .uptMatch => Sys2Proof.Machine.execUptMatch s
  | .voteScrub f c0 c1 c2 => Sys2Proof.Machine.execVoteScrub f c0 c1 c2 s
  | .refFail => Sys2Proof.Machine.execRefFail s
  | .refclkRecovery => Sys2Proof.Machine.execRefclkRecovery s
  | .slowXtalQualified => Sys2Proof.Machine.execSlowXtalQualified s
  | .slowFail => Sys2Proof.Machine.execSlowFail s
  | .slowRetry m => Sys2Proof.Machine.execSlowRetry m s
  | .pllLol => Sys2Proof.Machine.execPllLol s
  | .pllLock band => Sys2Proof.Machine.execPllLock band s
  | .relock => Sys2Proof.Machine.execRelock s
  | .clkReturn m => Sys2Proof.Machine.execClkReturn m s
  | .clkBypass m => Sys2Proof.Machine.execClkBypass m s
  | .pllMultWrite m v => Sys2Proof.Machine.execPllMultWrite m v s
  | .clkDivWrite m n v => Sys2Proof.Machine.execClkDivWrite m n v s
  | .clkOutEnWrite m n en => Sys2Proof.Machine.execClkOutEnWrite m n en s
  | .clkDelayWrite m n v => Sys2Proof.Machine.execClkDelayWrite m n v s
  | .powerOn cls => Sys2Proof.Machine.execPowerOn cls s
  | .warmReset => Sys2Proof.Machine.execWarmReset s
  | .resetNPin => Sys2Proof.Machine.execResetNPin s
  | .coreReset core => Sys2Proof.Machine.execCoreReset core s
  | .lew lineMv => Sys2Proof.Machine.execLew lineMv s
  | .lewEnd => Sys2Proof.Machine.execLewEnd s
  | .brownOut mv vharv => Sys2Proof.Machine.execBrownOut mv vharv s
  | .domCtrlWrite m v => Sys2Proof.Machine.execDomCtrlWrite m v s
  | .thermalWarn tMain tPower => Sys2Proof.Machine.execThermalWarn tMain tPower s
  | .thermalCapStep => Sys2Proof.Machine.execThermalCapStep s
  | .thermalQuiet tMain tPower => Sys2Proof.Machine.execThermalQuiet tMain tPower s
  | .hardTherm tMain tPower => Sys2Proof.Machine.execHardTherm tMain tPower s
  | .quietExit => Sys2Proof.Machine.execQuietExit s
  | .lcRequest v => Sys2Proof.Machine.execLcRequest v s
  | .bootRequest v => Sys2Proof.Machine.execBootRequest v s
  | .confirm => Sys2Proof.Machine.execConfirm s
  | .restart => Sys2Proof.Machine.execRestart s
  | .swiSet m v => Sys2Proof.Machine.execSwiSet m v s
  | .calRun m seq target => Sys2Proof.Machine.execCalRun m seq target s
  | .calAbort m => Sys2Proof.Machine.execCalAbort m s
  | .calSequenceEnd code res => Sys2Proof.Machine.execCalSequenceEnd code res s
  | .calCommit m readbackOk => Sys2Proof.Machine.execCalCommit m readbackOk s
  | .ageRoMeasure core radio aon => Sys2Proof.Machine.execAgeRoMeasure core radio aon s
  | .agePaSample n fwd => Sys2Proof.Machine.execAgePaSample n fwd s
  | .ageBgMeasure drift => Sys2Proof.Machine.execAgeBgMeasure drift s
  | .ageMramMeasure w => Sys2Proof.Machine.execAgeMramMeasure w s
  | .wdtEnable m n => Sys2Proof.Machine.execWdtEnable m n s
  | .wdtKick m n key => Sys2Proof.Machine.execWdtKick m n key s
  | .wdtWarn n => Sys2Proof.Machine.execWdtWarn n s
  | .wdtExpiry n => Sys2Proof.Machine.execWdtExpiry n s
  | .frameEnd sh => Sys2Proof.Machine.execFrameEnd sh s
  | .antennaSettle n => Sys2Proof.Machine.execAntennaSettle n s
  | .presentLevelUpdate => Sys2Proof.Machine.execPresentLevelUpdate s
  | .temperatureTrigger n temp => Sys2Proof.Machine.execTemperatureTrigger n temp s
  | .dueHint => Sys2Proof.Machine.execDueHint s
  | .dueScrub => Sys2Proof.Machine.execDueScrub s
  | .occupancyHoldEnd => Sys2Proof.Machine.execOccupancyHoldEnd s

end Sys2Proof.Machine
end

