-- ==== Sys2Proof/Machine/Tick.lean ====
section
/-! DEFINITION. What the clocks do when no command waits: one CLK_DSP cycle, 1/240 of a microsecond (assumption 1). -/

namespace Sys2Proof.Machine

open Sys2Proof

/-- Cycles that an output of nominally 240 MHz makes by time `t`: REFCLK × MULT / 4 on SYSPLL, REFCLK on bypass (R468, R470). -/
def State.busCycles (s : State) (t : Nat) : Nat :=
  t * (if s.on CLK.STATE_ON_BYPASS then 4 else s.get CLK.PLL_CFG_MULT) / 24

/-- Whether time `t` to `t + 1` takes in a rising edge of the slow clock, 32,768 to the second (R441, R465). -/
def slowEdge (t : Nat) : Bool := (t + 1) * 32 / 234375 != t * 32 / 234375

/-- One CLK_BUS cycle of timer `n` (R456): the prescaler, then COUNT, which TMR_EXPIRY takes from 1 to 0. -/
def State.tmrTick (s : State) (n : Nat) : State :=
  if s.get TMR.STATE_STATE n == tmRUNNING then
    let p := Tab.get 0 s.tmrPre n
    if p < s.get TMR.CTRL_PRE n then { s with tmrPre := Tab.set 0 s.tmrPre n (p + 1) }
    else ({ s with tmrPre := Tab.set 0 s.tmrPre n 0 } : State).set TMR.COUNT_COUNT (max 1 (s.get TMR.COUNT_COUNT n - 1)) n
  else s

/-- The words that the Granary DMA has sent to registers of MPT and GRN are written (R22, assumption 46). -/
def State.dmaTake (s : State) : State :=
  (s.updGrn fun g => { g with dma := [] }).forL s.grn.dma fun p t =>
    match blockAt p.1 with
    | some b => (t.regWrite b .coreA p.1 4 p.2).getD t
    | none => t

/-- A CLK_BUS and CLK_DSP cycle: the interrupt configuration written before is in force (R28), the timers count (R456) while the
CORE domain has power (R8, R23), and the Granary DMA's register writes arrive. -/
def State.busTick (s : State) : State :=
  let s1 := ({ s with dsp := s.dsp + 1 } : State).irqTake.dmaTake
  if s1.mode == mdFAILSAFE && !s1.bit PWR.STATE_DOM 3 then s1 else s1.forN 16 fun n t => t.tmrTick n

/-- One REFCLK cycle of the 32-bit phase accumulator (R36): 2^32 over a period in Q24.8 REFCLK cycles, the remainder of the increment
carried. Before it would carry out of 32 bits it waits for CYCLE_BOUNDARY (assumption 38). -/
def State.phaseTick (s : State) : State :=
  if s.atbSt == abOFF then s
  else
    let n := s.atb.rem + 2 ^ 40
    let acc := min (2 ^ 32 - 1) (65536 * s.atb.angle + s.atb.frac + n / s.atbRate)
    s.updAtb fun a => { a with angle := acc / 65536, frac := acc % 65536, rem := n % s.atbRate }

/-- A rising edge of the slow clock: UPT advances (R442), then the copies are exchanged (R441). -/
def State.slowTick (s : State) : State :=
  let lo := s.get AON.UPT_LO_UPT + 1
  let s1 := s.set AON.UPT_LO_UPT lo
  (if lo == 2 ^ 32 then s1.set AON.UPT_HI_UPT (s.get AON.UPT_HI_UPT + 1) else s1).aonEdge

/-- A synthesizer's search reaches its end, SETTLE; or its power-up by a command reaches IDLE, and its lock begins (R78). -/
def State.searchTick (s : State) (m : Nat) : State :=
  match (s.synthAt m).settleAt with
  | some t =>
    if !decide (t ≤ s.now) then s
    else match (s.synthAt m).bootFull with
    | some full => s.rfsSearch m full
    | none =>
      if s.sst m == synSEARCH then (s.setSynth m { s.synthAt m with settleAt := none }).set RFS.STATE_STATE synSETTLE m
      else s
  | none => s

/-- Each microsecond FWD of a chain in CW, or in LISTEN with carrier, once its ramp is complete: measured, so open (R91,
assumption 3). -/
def State.fwdTick (s : State) (n : Nat) : State :=
  if (s.ust n == txCW || s.ust n == txLISTEN) && s.carrier n && !s.on UTX.STATE_RAMP n then
    s.fresh.2.set UTX.FWD_FWD s.fresh.1 n
  else s

/-- Ten microseconds added to the newest bin of a window (R141). -/
def binAdd (l : List Nat) : List Nat :=
  match l with
  | [] => [1]
  | x :: r => (x + 1) :: r

/-- Carrier time of chain `n` over 10 µs: CNT_ON, and the duty bin (R85, R141). -/
def State.onTick (s : State) (n : Nat) : State :=
  if s.carrier n then
    let s1 := s.bump UTX.CNT_ON_COUNT UTX.STATUS_SAT n
    { s1 with rge.duty := Tab.set [] s1.rge.duty n (binAdd (Tab.get [] s1.rge.duty n)) }
  else s

/-- The channels on which some chain carries, each once (R141). -/
def State.carriedChans (s : State) : List Nat :=
  (((List.range 4).filter fun n => s.carrier n).map fun n => Tab.get 0 s.rge.granted n).eraseDups

/-- Ten microseconds on a channel that any chain carries on (R141). -/
def State.occTick (s : State) (c : Nat) : State :=
  { s with rge.occ := Tab.set [] s.rge.occ c (binAdd (Tab.get [] s.rge.occ c)) }

/-- The bins of a window of `win` × 100 ms slide every 1/64 of it; the current bin and the 64 before it are kept (R141). -/
def binSlide (win now : Nat) (t : Tab (List Nat)) : Tab (List Nat) :=
  if win != 0 && now % (win * 375000) == 0 then t.map fun e => (e.1, (0 :: e.2).take 65) else t

/-- What happens every 10 µs: carrier times (R141), the enforcer's checks of them (R140) and the preconditions of a running sequence
(R510). -/
def State.tenTick (s : State) : State :=
  let s1 := (s.forN 4 fun n t => t.onTick n).forL s.carriedChans fun c t => t.occTick c
  (s1.rgeWatch [17, 18, 19]).calWatch

/-- What happens every microsecond: FWD, and the enforcer's check of the synthesizer word (R91, R140). -/
def State.usTick (s : State) : State := (s.forN 4 fun n u => u.fwdTick n).rgeWatch [20]

/-- The windows of R141 slide, each at every 1/64 of its own length. -/
def State.binTick (s : State) : State :=
  { s with
    rge.occ := binSlide (le16 s.rge.profile 30) s.now s.rge.occ
    rge.duty := binSlide (le16 s.rge.profile 36) s.now s.rge.duty }

/-- One tick of time, 1/240 µs, with no command (assumption 1). -/
def State.tick (s : State) : State :=
  let s1 : State := { s with now := s.now + 1 }
  let s2 := s1.when (s.busCycles s1.now != s.busCycles s.now) State.busTick
  let s3 := (s2.when (s1.now % 6 == 0) State.phaseTick).pwmTick
  let s4 := (s3.when (slowEdge s.now) State.slowTick).forN 4 fun m t => t.searchTick m
  let s5 := (s4.when (s1.now % 240 == 0) State.usTick).forN 16 fun n t => t.faultTick n
  (s5.when (s1.now % 2400 == 0) State.tenTick).binTick

end Sys2Proof.Machine
end

