-- ==== Sys2Proof/Safety.lean ====
section
/-! DEFINITION. What the claims call sound: the invariant of the machine's data, what is left unchanged, and the run of
commands. -/

namespace Sys2Proof.Machine

open Sys2Proof

/-- The data of a state are in their canonical forms: memory in `Memory.wf`, the register file's keys strictly rising, so that
equal contents are equal data. -/
def State.Inv (s : State) : Prop := Memory.wf s.mem = true ∧ Tab.rising s.regs = true

/-- Every register field reads in `t` as in `s`, but for the fields under the keys of `ks`. -/
def regsSame (s t : State) (ks : List Nat) : Prop := ∀ (f : Fld) (n : Nat), f.key n ∉ ks → t.get f n = s.get f n

/-- Every byte of memory reads in `t` as in `s`, but for the `n` bytes from `a`. -/
def memSame (s t : State) (a n : Nat) : Prop := ∀ x, ¬(a ≤ x ∧ x < a + n) → t.rd8 x = s.rd8 x

/-- Sequencer `n` is in RUN, and the word at its program counter is sound, so that it executes it (R209, R212). -/
def State.seqRuns (s : State) (n : Nat) : Bool := s.seqSt n == seqRUN && !s.parBad n (4 * s.get LSC.STATE_PCW n)

/-- What an instruction of sequencer `n` with destination `d` leaves: memory, queues and objects, the operations under way, the
other general registers and sequencers, and every register field but those under the keys of `ks` (R211). -/
def seqFrame (s t : State) (n d : Nat) (ks : List Nat) : Prop :=
  t.mem = s.mem ∧ t.que = s.que ∧ t.objs = s.objs ∧ t.radio.seqOps = s.radio.seqOps ∧
  (∀ k, k % 16 ≠ d % 16 → t.greg n k = s.greg n k) ∧ (∀ m, m ≠ n → t.seqAt m = s.seqAt m) ∧ regsSame s t ks

/-- An arithmetic or logic instruction of sequencer `n` done (R211, R215): GD is `r`, G0 reading 0; Z and N are those of `r`, C is
`c`; T and F stay; the next word is next; nothing else changes. -/
def aluDone (s t : State) (n d r : Nat) (c : Bool) : Prop :=
  t.greg n d = (if d % 16 = 0 then 0 else r) ∧ t.flag n flZ = decide (r = 0) ∧ t.flag n flN = bitOf r 31 ∧ t.flag n flC = c ∧
  t.flag n flT = s.flag n flT ∧ t.flag n flF = s.flag n flF ∧ t.get LSC.STATE_PCW n = (s.get LSC.STATE_PCW n + 1) % 8192 ∧
  seqFrame s t n d [LSC.STATE_PCW.key n, LSC.STATE_FLAGS.key n]

/-- The record of datagrams sent cleared, as every network command begins (assumption 6). -/
def State.unsent (s : State) : State := { s with net := { s.net with sent := [] } }

/-- The APDU that a tag command carries, under the command's own CLA and INS (R323). -/
def apduOf (c : Instr) : Option Apdu :=
  match c with
  | .tagSelectNdefApp a => some { a with cla := 0, ins := 0xA4, p1 := 4 }
  | .tagSelectFile a => some { a with cla := 0, ins := 0xA4, p1 := 0 }
  | .tagReadBinary a => some { a with cla := 0, ins := 0xB0 }
  | .tagUpdateBinary a => some { a with cla := 0, ins := 0xD6 }
  | .getInfo a => some { a with cla := 0x90, ins := 0x10 }
  | .verify a => some { a with cla := 0x90, ins := 0x20 }
  | .auth1 a => some { a with cla := 0x90, ins := 0x30 }
  | .auth2 a => some { a with cla := 0x90, ins := 0x31 }
  | .readRecord a => some { a with cla := 0x90, ins := 0x40 }
  | .writeRecord a => some { a with cla := 0x90, ins := 0x42 }
  | .incCounter a => some { a with cla := 0x90, ins := 0x44 }
  | .readCounters a => some { a with cla := 0x90, ins := 0x46 }
  | .tagPassthroughApdu a => some a
  | _ => none

/-- The tag as it starts on an APDU received whole: no APDU waiting, the command counted (R323, R328). -/
def State.apduStart (s : State) : State :=
  (({ s with hft := { s.hft with fieldWait := none, macCtr := none } } : State)).bump HFT.CNT_CMD_COUNT HFT.STATUS_SAT

/-- A command outside SECURED_FACTORY, where it needs no MAC, while nothing wired is in progress (R313, R316, R328). -/
def State.tagFree (s : State) : Prop := (s.tgSt = tgOPEN ∨ s.tgSt = tgINSTALLER) ∧ s.wiredBusy = false

/-- The MRAM of the tag needs no repair beside a commit marker (R326, R327). -/
def State.tagSound (s : State) : Prop :=
  (∀ r ∈ s.hft.slots.map Prod.fst, slotOk (s.recPrimary r) = true) ∧ s.hft.monoP = s.hft.monoB ∧ s.hft.monoBad = []

/-- `c` is the command that a datagram on the TOT port stands for, by its TYPE (R401). -/
def isTot (d : List Nat) (c : Instr) : Prop :=
  (byteAt d 1 = 0x01 ∧ c = .readReq d) ∨ (byteAt d 1 = 0x03 ∧ c = .writeReq d) ∨ (byteAt d 1 = 0x10 ∧ c = .xferInit d) ∨
  (byteAt d 1 = 0x11 ∧ c = .xferData d) ∨ (byteAt d 1 = 0x12 ∧ c = .xferAck d) ∨ (byteAt d 1 = 0x13 ∧ c = .xferEnd d) ∨
  (byteAt d 1 = 0x14 ∧ c = .xferAbort d) ∨ (byteAt d 1 = 0x20 ∧ c = .subscribe d) ∨ (byteAt d 1 = 0x23 ∧ c = .notifyAck d) ∨
  (byteAt d 1 = 0x30 ∧ c = .planMcast d) ∨ (totTypes.contains (byteAt d 1) = false ∧ c = .totUnknownType d)

end Sys2Proof.Machine
end

