-- ==== Sys2Proof/Certificates/Slice0/Obligations.lean ====
section
/-! DEFINITION. The statements for the provers: what the commands do, family by family, from the numbered rules of the spec. A
clause that rests on a choice of the model names its log entry at the end of the docstring. -/

open Sys2Proof Sys2Proof.Machine

/-! ### The step, the tables and the access paths (R8 to R34, R434 to R447) -/

/-- The command at the front of the queue runs on the state with the queue's rest; nothing else is added around it. The queue is the
model's (assumption 2). Where a clause rests on the model's own choice, that is one of assumptions 1 or 2. -/
def Obligations.StepRunsFrontCommand : Prop :=
  ∀ (s : State) (c : Instr) (r : List Instr),
    step { s with pending := c :: r } = exec c { s with pending := r }

/-- On an empty queue a step is one tick of time, 1/240 µs (assumption 1): `now` advances by one, no command is put into the queue
and none runs. Where a clause rests on the model's own choice, that is assumption 1. -/
def Obligations.StepIdlesOneCycle : Prop :=
  ∀ s : State, s.Inv → s.pending = [] →
    ∃ t, step s = .next t ∧ t.now = s.now + 1 ∧ t.pending = []

/-- After reset every register field reads the reset value of its table's line, no command waits and memory lists nothing (R25,
R440); what an unwritten byte reads as is the model's choice (assumption 5). Where a clause rests on the model's own choice,
that is assumption 4. -/
def Obligations.ResetLeavesTheTables : Prop :=
  (∀ (f : Fld) (n : Nat), State.reset.get f n = f.rst n) ∧ State.reset.pending = [] ∧
  (∀ a, State.reset.rd8 a = 0) ∧
  State.reset.get SYS.MODE_MODE = SYS.MODE_MODE.reset ∧ State.reset.get CLK.PLL_CFG_MULT = 24 ∧
  State.reset.get RGE.STATE_HOLD = RGE.STATE_HOLD.reset ∧ (∀ n, n < 4 → State.reset.get UTX.STATE_STATE n = 0)

/-- The machine after reset is in its canonical form. Where a clause rests on the model's own choice, that is assumption 5. -/
def Obligations.ResetIsCanonical : Prop :=
  State.reset.Inv

/-- Every step, whichever command stands in front, keeps the canonical form of the memory and of the register file, so that equal
contents stay equal data. Where a clause rests on the model's own choice, that is assumption 5. -/
def Obligations.StepKeepsCanonicalForm : Prop :=
  ∀ s t : State, s.Inv → step s = .next t → t.Inv

/-- No command touches the commands that wait behind it or the time, and none takes back an open value that was drawn. Where a
clause rests on the model's own choice, that is one of assumptions 1 or 2. -/
def Obligations.CommandsKeepQueueAndTime : Prop :=
  ∀ (i : Instr) (s t : State), s.Inv → exec i s = .next t →
    t.pending = s.pending ∧ t.now = s.now ∧ s.freeCount ≤ t.freeCount

/-- REGISTER_WRITE (R10, R22, R437, R441, R443): an aligned store into the system SRAM by a core or the Host Link bridge stores the
low bytes of the value, little-endian, and nothing else; the frame is the equation's. An RW field takes the value cut to its
width (TMR LOAD). A field of another type does not take it: a RO register word is left as it was (TMR COUNT). An access outside
the map of R18 is answered with a bus error: its address, initiator and direction are kept, BUS_ERR is set, and DENIED stays 0
since no row of the map forbids it (R19). RC_READ (R445): a word read of a register with read-clear bits answers them and clears
them, and changes nothing else (TMR STATUS). LO_READ_SHADOW (R440): a read of the low register of a LO/HI pair answers the low
word and latches the high word, as it is at that moment, into the shadow of the master that reads; no other master's shadow and
no register moves (ATB POS). Where a clause rests on the model's own choice, that is one of assumptions 5, 6 or 7. -/
def Obligations.RegisterAccess : Prop :=
  (∀ (s : State) (m : Master) (a w v : Nat), masterNum m < 4 → (w = 1 ∨ w = 2 ∨ w = 4) → a % w = 0 →
    0x10000000 ≤ a → a < 0x10400000 → exec (.registerWrite m a w v) s = .next (s.wrBytes a (toLe w v))) ∧
  (∀ (s : State) (m : Master) (n v : Nat), masterNum m < 4 → n < 16 →
    exec (.registerWrite m (TMR.LOAD_LOAD.at n) 4 v) s = .next (s.set TMR.LOAD_LOAD v n)) ∧
  (∀ (s : State) (m : Master) (n v : Nat), masterNum m < 4 → n < 16 →
    exec (.registerWrite m (TMR.COUNT_COUNT.at n) 4 v) s = .next s) ∧
  (∀ (s : State) (m : Master) (a w v : Nat), masterNum m < 4 → (w = 1 ∨ w = 2 ∨ w = 4) → mapRow a = none → a < 4294967296 →
    ∃ t, exec (.registerWrite m a w v) s = .next t ∧ t.get SYS.BUSERR_ADDR_VALUE = a ∧ t.get SYS.BUSERR_INFO_INIT = masterNum m ∧
      t.get SYS.BUSERR_INFO_WR = 1 ∧ t.get SYS.BUSERR_INFO_DENIED = 0 ∧ t.get SYS.STATUS_BUS_ERR = 1 ∧
      t.bus.resp = { value := 0, error := true }) ∧
  (∀ (s : State) (m : Master) (n : Nat), masterNum m < 4 → n < 16 →
    exec (.rcRead m (TMR.STATUS_DONE.at n) 4) s = .next
      ((((((s.set TMR.STATUS_CMD_ERR 0 n).set TMR.STATUS_SAT 0 n).set TMR.STATUS_OVR 0 n).set TMR.STATUS_CAPT 0 n).set
        TMR.STATUS_DONE 0 n).respond
        ((s.get TMR.STATUS_DONE n + 2 * s.get TMR.STATUS_CAPT n + 4 * s.get TMR.STATUS_OVR n + 8 * s.get TMR.STATUS_SAT n +
          16 * s.get TMR.STATUS_CMD_ERR n) %
          4294967296) false)) ∧
  (∀ (s : State) (m : Master), masterNum m < 4 →
    exec (.loReadShadow m (ATB.POS_LO_ANGLE.at 0)) s =
      .next ((s.latch (ATB.POS_LO_ANGLE.at 0) m s.atb.cycle).respond (s.atb.angle % 4294967296) false))

/-- SEQ_MEMORY_WRITE (R17): while its sequencer is STOPPED the memory takes a core's bytes; while it runs, waits or stands in FAULT
the write raises a bus error, whose address and initiator are kept, and every byte of the memory stays. -/
def Obligations.SequencerMemoryWrite : Prop :=
  (∀ (s : State) (m : Master) (n off w v : Nat), masterNum m < 3 → n < 16 → (w = 1 ∨ w = 2 ∨ w = 4) → off % w = 0 → off < 0x8000 →
    s.get LSC.STATE_STATE n = 0 →
    exec (.seqMemoryWrite m (seqBase n + off) w v) s = .next (s.wrBytes (seqBase n + off) (toLe w v))) ∧
  (∀ (s : State) (m : Master) (n off w v : Nat), masterNum m < 3 → n < 16 → (w = 1 ∨ w = 2 ∨ w = 4) → off % w = 0 → off < 0x8000 →
    s.get LSC.STATE_STATE n ≠ 0 →
    ∃ t, exec (.seqMemoryWrite m (seqBase n + off) w v) s = .next t ∧ t.bus.resp = { value := 0, error := true } ∧
      t.get SYS.BUSERR_ADDR_VALUE = seqBase n + off ∧ t.get SYS.BUSERR_INFO_INIT = masterNum m ∧ t.get SYS.BUSERR_INFO_WR = 1 ∧
      t.get SYS.STATUS_BUS_ERR = 1 ∧ memSame s t 0x2803F000 1040)

/-- IRQ_CFG_WRITE (R28): the word goes to the source that IRQ_SEL names and is in force from the next CLK_BUS cycle on. Doorbells of
SYS and the Host Link (R445, R432, R503): SWI_SET sets the bits written, bit 4 waking Core P; HOST_IRQ SET and CLR drive LEVEL;
the uptime compare sets UPT_MATCH and wakes Core P. -/
def Obligations.InterruptConfigAndDoorbells : Prop :=
  (∀ (s : State) (m : Master) (v : Nat), masterNum m < 4 → s.bus.irqNew = none →
    ∃ t, exec (.irqCfgWrite m v) s = .next t ∧ t.bus.irqCfg = s.bus.irqCfg ∧ t.regs = s.regs ∧ t.mem = s.mem ∧
      t.bus.irqNew = some (s.get SYS.IRQ_SEL_SRC, v % 256) ∧
      t.irqTake.irqCfgOf (s.get SYS.IRQ_SEL_SRC) = v % 256) ∧
  (∀ (s : State) (m : Master) (v : Nat), bitOf v 4 = false →
    exec (.swiSet m v) s = .next (s.set SYS.SWI_STATUS_SWI (Nat.lor (s.get SYS.SWI_STATUS_SWI) (v % 32)))) ∧
  (∀ (s : State) (m : Master) (v : Nat), bitOf v 4 = true →
    exec (.swiSet m v) s = .next ((s.set SYS.SWI_STATUS_SWI (Nat.lor (s.get SYS.SWI_STATUS_SWI) (v % 32))).setBit
      AON.WAKE_WAKE 7 true)) ∧
  (∀ (s : State) (m : Master), exec (.hostIrqSet m) s = .next (s.set HLK.HOST_IRQ_LEVEL 1)) ∧
  (∀ (s : State) (m : Master), exec (.hostIrqClr m) s = .next (s.set HLK.HOST_IRQ_LEVEL 0)) ∧
  (∀ s : State, exec .uptMatch s = .next ((s.set AON.STATUS_UPT_MATCH 1).setBit AON.WAKE_WAKE 6 true))

/-- DEBUG_HALT and DEBUG_RELEASE (R27, R456): the running timers that the halted core owns, DBGRUN clear, are FROZEN; a release lets
those that the released core owns run on. A timer that neither concerns keeps its state: one that does not run, one with DBGRUN
set, and one that the other core owns, which that core's own halt holds or not as before. Every COUNT, the memory, the objects
and the queues are as before. Where a clause rests on the model's own choice, that is assumption 39. -/
def Obligations.DebugHaltFreezesTimers : Prop :=
  (∀ (s : State) (core : Nat), core < 2 →
    ∃ t, exec (.debugHalt core) s = .next t ∧ t.mem = s.mem ∧ t.objs = s.objs ∧ t.que = s.que ∧
      t.bus.haltedA = (core == 0 || s.bus.haltedA) ∧ t.bus.haltedB = (core == 1 || s.bus.haltedB) ∧
      (∀ n, n < 16 → s.get TMR.STATE_STATE n = 2 → s.get TMR.CTRL_DBGRUN n = 0 → s.get TMR.CTRL_OWNER n = core →
        t.get TMR.STATE_STATE n = 3) ∧
      (∀ n, n < 16 → s.get TMR.STATE_STATE n = 2 → (s.get TMR.CTRL_DBGRUN n ≠ 0 ∨ s.get TMR.CTRL_OWNER n ≠ core) →
        s.tmrHalted n = false → t.get TMR.STATE_STATE n = 2) ∧
      (∀ n, n < 16 → s.get TMR.STATE_STATE n = 3 → s.tmrHalted n = true → t.get TMR.STATE_STATE n = 3) ∧
      (∀ n, n < 16 → s.get TMR.STATE_STATE n < 2 → t.get TMR.STATE_STATE n = s.get TMR.STATE_STATE n) ∧
      (∀ n, n < 16 → t.get TMR.COUNT_COUNT n = s.get TMR.COUNT_COUNT n)) ∧
  (∀ (s : State) (core : Nat), core < 2 →
    ∃ t, exec (.debugRelease core) s = .next t ∧ t.mem = s.mem ∧ t.objs = s.objs ∧ t.que = s.que ∧
      t.bus.haltedA = (core != 0 && s.bus.haltedA) ∧ t.bus.haltedB = (core != 1 && s.bus.haltedB) ∧
      (∀ n, n < 16 → s.get TMR.STATE_STATE n = 3 → s.get TMR.CTRL_OWNER n = core → t.get TMR.STATE_STATE n = 2) ∧
      (∀ n, n < 16 → s.get TMR.STATE_STATE n = 3 → s.get TMR.CTRL_OWNER n ≠ core → s.tmrHalted n = true →
        t.get TMR.STATE_STATE n = 3) ∧
      (∀ n, n < 16 → s.get TMR.STATE_STATE n = 2 → s.tmrHalted n = false → t.get TMR.STATE_STATE n = 2) ∧
      (∀ n, n < 16 → s.get TMR.STATE_STATE n < 2 → t.get TMR.STATE_STATE n = s.get TMR.STATE_STATE n) ∧
      (∀ n, n < 16 → t.get TMR.COUNT_COUNT n = s.get TMR.COUNT_COUNT n))

/-- Watchdogs (R534, R535, R537): Core P or the watched core (`wdtWriter`) starts the count, which a second enable does not restart;
the key 0xA55A clears AFTER and, where the count runs, reloads it; another key sets BADKICK and reloads nothing; any other master
changes nothing. While its core is debug-halted with DBGRUN clear the count is held: it is loaded and does not run, and no
warning comes; else the warning of a running count sets WARN. Where a clause rests on the model's own choice, that is assumption
1. -/
def Obligations.WatchdogEnableKickWarn : Prop :=
  (∀ (s : State) (m : Master) (n : Nat), n < 2 → wdtWriter n m = true → s.get SYS.WDT_CTRL_EN n = 0 →
    ∃ t, exec (.wdtEnable m n) s = .next t ∧ t.get SYS.WDT_CTRL_EN n = 1 ∧ t.mem = s.mem ∧
      (s.wdtHalted n = false → Tab.get 0 t.coreP.wdtDue n = s.now + 240000 * max 1 (s.get SYS.WDT_TIMEOUT_MS n)) ∧
      (s.wdtHalted n = true → Tab.get 0 t.coreP.wdtHeld n = 240000 * max 1 (s.get SYS.WDT_TIMEOUT_MS n) ∧
        Tab.get 0 t.coreP.wdtDue n = 0)) ∧
  (∀ (s : State) (m : Master) (n : Nat), n < 2 → s.get SYS.WDT_CTRL_EN n ≠ 0 → exec (.wdtEnable m n) s = .next s) ∧
  (∀ (s : State) (m : Master) (n : Nat), n < 2 → wdtWriter n m = true → s.get SYS.WDT_CTRL_EN n = 1 →
    ∃ t, exec (.wdtKick m n 0xA55A) s = .next t ∧ t.get SYS.WDT_STATE_AFTER n = 0 ∧ t.mem = s.mem ∧
      (s.wdtHalted n = false → Tab.get 0 t.coreP.wdtDue n = s.now + 240000 * max 1 (s.get SYS.WDT_TIMEOUT_MS n)) ∧
      (s.wdtHalted n = true → Tab.get 0 t.coreP.wdtHeld n = 240000 * max 1 (s.get SYS.WDT_TIMEOUT_MS n) ∧
        Tab.get 0 t.coreP.wdtDue n = 0)) ∧
  (∀ (s : State) (m : Master) (n : Nat), n < 2 → wdtWriter n m = true → s.get SYS.WDT_CTRL_EN n = 0 →
    exec (.wdtKick m n 0xA55A) s = .next (s.set SYS.WDT_STATE_AFTER 0 n)) ∧
  (∀ (s : State) (m : Master) (n key : Nat), n < 2 → wdtWriter n m = true → key < 65536 → key ≠ 0xA55A →
    exec (.wdtKick m n key) s = .next (s.set SYS.WDT_STATUS_BADKICK 1 n)) ∧
  (∀ (s : State) (m : Master) (n key : Nat), n < 2 → wdtWriter n m = false →
    exec (.wdtKick m n key) s = .next s ∧ exec (.wdtEnable m n) s = .next s) ∧
  (∀ (s : State) (n : Nat), n < 2 → s.get SYS.WDT_CTRL_EN n = 1 → s.wdtHalted n = false →
    exec (.wdtWarn n) s = .next (s.set SYS.WDT_STATUS_WARN 1 n)) ∧
  (∀ (s : State) (n : Nat), n < 2 → (s.get SYS.WDT_CTRL_EN n = 0 ∨ s.wdtHalted n = true) → exec (.wdtWarn n) s = .next s)

/-- ARM, START and STOP of one timer (R456): each from every state, its own effect or CMD_ERR; a start while the owner core is
debug-halted, DBGRUN clear, leads to FROZEN in place of RUNNING. GSTART and GSTOP (R458): every masked timer that is ARMED starts
in the same cycle, one that is not is left without CMD_ERR; every masked timer is stopped; an unmasked one keeps its state. The
end of a count (R456, R457): a RUNNING timer goes to IDLE with COUNT 0, DONE set and its expiries counted (a count at its
largest stays, with SAT), and releases the ARMED timers of its chain mask; a timer that does not run has none. A capture (R446,
R459): on the selected edge of the selected source, while RUNNING or FROZEN, it takes COUNT and sets CAPT, and OVR too where the
one before has not been read; any other edge or source, and a timer in IDLE or ARMED, captures nothing. Where a clause rests on
the model's own choice, that is one of assumptions 14 or 39. -/
def Obligations.TimersCountAndCapture : Prop :=
  (∀ (s : State) (n : Nat) (m : Master), s.get TMR.STATE_STATE n ≤ 1 →
    exec (.tmrArm n m) s = .next ((s.set TMR.COUNT_COUNT (max 1 (s.get TMR.LOAD_LOAD n)) n).set TMR.STATE_STATE 1 n)) ∧
  (∀ (s : State) (n : Nat) (m : Master), 2 ≤ s.get TMR.STATE_STATE n →
    exec (.tmrArm n m) s = .next (s.set TMR.STATUS_CMD_ERR 1 n)) ∧
  (∀ (s : State) (n : Nat) (m : Master), s.get TMR.STATE_STATE n = 1 →
    exec (.tmrStart n m) s = .next (({ s with tmrPre := Tab.set 0 s.tmrPre n 0 } : State).set TMR.STATE_STATE
      (if s.tmrHalted n then 3 else 2) n)) ∧
  (∀ (s : State) (n : Nat) (m : Master), s.get TMR.STATE_STATE n ≠ 1 →
    exec (.tmrStart n m) s = .next (s.set TMR.STATUS_CMD_ERR 1 n)) ∧
  (∀ (s : State) (n : Nat) (m : Master), exec (.tmrStop n m) s = .next (s.set TMR.STATE_STATE 0 n)) ∧
  (∀ (s : State) (m : Master) (mask : Nat),
    ∃ t, exec (.tmrGstart m mask) s = .next t ∧ t.mem = s.mem ∧
      (∀ n, n < 16 → bitOf mask n = true → s.get TMR.STATE_STATE n = 1 →
        t.get TMR.STATE_STATE n = if s.tmrHalted n then 3 else 2) ∧
      (∀ n, n < 16 → (bitOf mask n = false ∨ s.get TMR.STATE_STATE n ≠ 1) →
        t.get TMR.STATE_STATE n = s.get TMR.STATE_STATE n) ∧
      (∀ n, n < 16 → t.get TMR.STATUS_CMD_ERR n = s.get TMR.STATUS_CMD_ERR n ∧ t.get TMR.COUNT_COUNT n = s.get TMR.COUNT_COUNT n)) ∧
  (∀ (s : State) (m : Master) (mask : Nat),
    ∃ t, exec (.tmrGstop m mask) s = .next t ∧ t.mem = s.mem ∧
      (∀ n, n < 16 → bitOf mask n = true → t.get TMR.STATE_STATE n = 0) ∧
      (∀ n, n < 16 → bitOf mask n = false → t.get TMR.STATE_STATE n = s.get TMR.STATE_STATE n) ∧
      (∀ n, n < 16 → t.get TMR.COUNT_COUNT n = s.get TMR.COUNT_COUNT n ∧ t.get TMR.STATUS_DONE n = s.get TMR.STATUS_DONE n)) ∧
  (∀ (s : State) (n : Nat), n < 16 → s.get TMR.STATE_STATE n = 2 →
    ∃ t, exec (.tmrExpiry n) s = .next t ∧ t.mem = s.mem ∧ t.get TMR.COUNT_COUNT n = 0 ∧ t.get TMR.STATUS_DONE n = 1 ∧
      (s.get TMR.CNT_EXP_COUNT n < 0xFFFFFFFF → t.get TMR.CNT_EXP_COUNT n = s.get TMR.CNT_EXP_COUNT n + 1) ∧
      (s.get TMR.CNT_EXP_COUNT n = 0xFFFFFFFF → t.get TMR.CNT_EXP_COUNT n = 0xFFFFFFFF ∧ t.get TMR.STATUS_SAT n = 1) ∧
      t.get TMR.STATE_STATE n = 0 ∧
      (∀ k, k < 16 → k ≠ n → bitOf (s.get TMR.CHAIN_MASK n) k = true → s.get TMR.STATE_STATE k = 1 →
        t.get TMR.STATE_STATE k = if s.tmrHalted k then 3 else 2) ∧
      (∀ k, k < 16 → k ≠ n → (bitOf (s.get TMR.CHAIN_MASK n) k = false ∨ s.get TMR.STATE_STATE k ≠ 1) →
        t.get TMR.STATE_STATE k = s.get TMR.STATE_STATE k)) ∧
  (∀ (s : State) (n : Nat), s.get TMR.STATE_STATE n ≠ 2 → exec (.tmrExpiry n) s = .next s) ∧
  (∀ (s : State) (n src : Nat) (rising : Bool), n < 16 → 1 ≤ src → src ≤ 4 → s.get TMR.CTRL_CAP_SRC n = src →
    (s.get TMR.CTRL_CAP_EDGE n = 0 ∧ rising = true ∨ s.get TMR.CTRL_CAP_EDGE n = 1 ∧ rising = false ∨
      2 ≤ s.get TMR.CTRL_CAP_EDGE n) →
    2 ≤ s.get TMR.STATE_STATE n → bitOf s.tmrUnread n = false →
    ∃ t, exec (.tmrCapture n src rising) s = .next t ∧ t.get TMR.CAPT_COUNT n = s.get TMR.COUNT_COUNT n ∧
      t.get TMR.STATUS_CAPT n = 1 ∧ t.get TMR.STATUS_OVR n = s.get TMR.STATUS_OVR n ∧ bitOf t.tmrUnread n = true ∧
      t.mem = s.mem ∧ regsSame s t [TMR.CAPT_COUNT.key n, TMR.STATUS_CAPT.key n]) ∧
  (∀ (s : State) (n src : Nat) (rising : Bool), n < 16 → 1 ≤ src → src ≤ 4 → s.get TMR.CTRL_CAP_SRC n = src →
    (s.get TMR.CTRL_CAP_EDGE n = 0 ∧ rising = true ∨ s.get TMR.CTRL_CAP_EDGE n = 1 ∧ rising = false ∨
      2 ≤ s.get TMR.CTRL_CAP_EDGE n) →
    2 ≤ s.get TMR.STATE_STATE n → bitOf s.tmrUnread n = true →
    ∃ t, exec (.tmrCapture n src rising) s = .next t ∧ t.get TMR.CAPT_COUNT n = s.get TMR.COUNT_COUNT n ∧
      t.get TMR.STATUS_CAPT n = 1 ∧ t.get TMR.STATUS_OVR n = 1 ∧ bitOf t.tmrUnread n = true ∧
      t.mem = s.mem ∧ regsSame s t [TMR.CAPT_COUNT.key n, TMR.STATUS_CAPT.key n, TMR.STATUS_OVR.key n]) ∧
  (∀ (s : State) (n src : Nat) (rising : Bool), (s.get TMR.CTRL_CAP_SRC n ≠ src ∨ s.get TMR.STATE_STATE n < 2 ∨
      s.get TMR.CTRL_CAP_EDGE n = 0 ∧ rising = false ∨ s.get TMR.CTRL_CAP_EDGE n = 1 ∧ rising = true) →
    exec (.tmrCapture n src rising) s = .next s)

/-! ### The enforcer (R138 to R151) -/

/-- GRANT_REQUEST and LBT_DECISION (R138): a chain in READY that is to key up inside its window and passes the checks is granted and
ramps up; one that fails a check is denied: the code is kept, DENY set, and it stays without carrier. With LBT the measurement
decides: a level above LBT_THR is denied LBT_BUSY, code 3. Where a clause rests on the model's own choice, that is assumption 9. -/
def Obligations.GrantDecisions : Prop :=
  (∀ (s : State) (n : Nat), n < 4 → (s.utxAt n).want = some 3 → s.get UTX.STATE_STATE n = 2 → s.get UTX.STATE_RAMP n = 0 →
    s.get UTX.STATE_WAIT n = 0 → (s.utxAt n).grantAsked = false → s.bit RGE.STATE_WINDOW n = true → s.profFlag 1 = false →
    s.rgeCheck n false = 0 →
    ∃ t, exec (.grantRequest n) s = .next t ∧ t.granted n = true ∧ t.get UTX.STATE_STATE n = 3 ∧ t.get UTX.STATE_CARRIER n = 1 ∧
      t.get UTX.STATE_RAMP n = 1 ∧ t.mem = s.mem) ∧
  (∀ (s : State) (n : Nat), n < 4 → (s.utxAt n).want = some 3 → s.get UTX.STATE_STATE n = 2 → s.get UTX.STATE_RAMP n = 0 →
    s.get UTX.STATE_WAIT n = 0 → (s.utxAt n).grantAsked = false → s.bit RGE.STATE_WINDOW n = true →
    s.rgeCheck n false ≠ 0 →
    ∃ t, exec (.grantRequest n) s = .next t ∧ t.get RGE.STATE_GRANT = s.get RGE.STATE_GRANT ∧ t.get UTX.STATE_STATE n = 2 ∧
      t.get UTX.STATE_CARRIER n = s.get UTX.STATE_CARRIER n ∧ t.get RGE.STATUS_DENY = 1 ∧ t.get UTX.STATE_LAST_ERR n = 5 ∧
      Tab.get 0 t.rge.lastCode n = s.rgeCheck n false ∧ (t.utxAt n).want = none ∧ t.mem = s.mem) ∧
  (∀ (s : State) (n power : Nat), n < 4 → (s.utxAt n).grantAsked = true → s.profFlag 1 = true → s.rgeCheck n false = 0 →
    sint 16 power ≤ sint 16 (le16 s.rge.profile 40) →
    ∃ t, exec (.lbtDecision n power) s = .next t ∧ t.granted n = true ∧ t.get UTX.STATE_STATE n = 3 ∧
      t.get UTX.STATE_CARRIER n = 1) ∧
  (∀ (s : State) (n power : Nat), n < 4 → (s.utxAt n).grantAsked = true → s.profFlag 1 = true → s.rgeCheck n false = 0 →
    sint 16 (le16 s.rge.profile 40) < sint 16 power →
    ∃ t, exec (.lbtDecision n power) s = .next t ∧ t.get RGE.STATE_GRANT = s.get RGE.STATE_GRANT ∧ t.get RGE.STATUS_DENY = 1 ∧
      Tab.get 0 t.rge.lastCode n = 3 ∧ (t.utxAt n).grantAsked = false)

/-- RGE_VIOLATION (R140, R142): a check breached on a chain that carries under its grant, by code 16 to 20, withdraws the grant, sets
VIOL, counts the violation and holds the chain off; on a chain not under check, or where no check is breached, nothing happens. The
kill (R146): asserted by the pin or by any master's write, it leaves no chain with a grant, shows KILL_ACTIVE and
the status of its input, and is idempotent on each input. The release of the kill (R148): the kill ends only when neither input
asserts it; then all four chains come under the hold. The enforcer's registers of Core P, and its log (R143, R144, R150):
QUIET_CLR and RF_EN act for Core P alone, RF_EN with its three copies; a read of LOG_LO answers and pops the oldest entry and
latches its cycle for the reader, and an empty ring reads 0; a pop by Core B also reaches Core A's log, and no register. Where a clause rests on the model's own choice, that is assumption
9. -/
def Obligations.KillAndViolations : Prop :=
  (∀ (s : State) (n code fwd : Nat), n < 4 → s.granted n = true → s.rge.viols = [] → s.get RGE.CNT_VIOL_COUNT < 0xFFFFFFFF →
    ((code = 20 ∧ s.khz (s.loOf n) ≠ s.chanKhz (Tab.get 0 s.rge.granted n)) ∨
      (code = 16 ∧ s.get UTX.PA_PA_EN n = 1 ∧ s.get UTX.STATE_RAMP n = 0 ∧ s.fwdLimit n < sint 16 fwd) ∨
      (code = 17 ∧ le16 s.rge.profile 32 ≠ 0 ∧ le16 s.rge.profile 32 * 240000 < s.now - Tab.get 0 s.rge.onTime n) ∨
      (code = 18 ∧ s.profFlag 2 = true ∧ le16 s.rge.profile 28 * 100 ≤ s.occUnits (Tab.get 0 s.rge.granted n)) ∨
      (code = 19 ∧ s.profFlag 3 = true ∧ le16 s.rge.profile 34 ≤ s.dutyPermil n)) →
    ∃ t, exec (.rgeViolation n code fwd) s = .next t ∧ t.granted n = false ∧ t.bit RGE.STATE_HOLD n = true ∧
      t.get RGE.STATUS_VIOL = 1 ∧ t.get RGE.CNT_VIOL_COUNT = s.get RGE.CNT_VIOL_COUNT + 1 ∧
      Tab.get 0 t.rge.lastCode n = code ∧ t.rge.viols = [s.now] ∧ t.mem = s.mem) ∧
  (∀ (s : State) (n code fwd : Nat), (s.underCheck n = false ∨ s.breached n code fwd = false) →
    exec (.rgeViolation n code fwd) s = .next s) ∧
  (∀ s : State, s.get RGE.KILL_PIN = 0 →
    ∃ t, exec .killPin s = .next t ∧ t.get RGE.KILL_PIN = 1 ∧ t.get RGE.STATUS_KILL_PIN = 1 ∧ t.get RGE.STATE_KILL_ACTIVE = 1 ∧
      (∀ n, n < 4 → t.granted n = false)) ∧
  (∀ (s : State) (m : Master), s.get RGE.KILL_KILL = 0 →
    ∃ t, exec (.killReg m) s = .next t ∧ t.get RGE.KILL_KILL = 1 ∧ t.get RGE.STATUS_KILL_REG = 1 ∧
      t.get RGE.STATE_KILL_ACTIVE = 1 ∧ (∀ n, n < 4 → t.granted n = false)) ∧
  (∀ s : State, s.get RGE.KILL_PIN ≠ 0 → exec .killPin s = .next s) ∧
  (∀ (s : State) (m : Master), s.get RGE.KILL_KILL ≠ 0 → exec (.killReg m) s = .next s) ∧
  (∀ s : State, s.get RGE.STATE_KILL_ACTIVE = 1 → s.get RGE.KILL_KILL = 0 →
    exec .killPinRelease s = .next (((s.set RGE.KILL_PIN 0).set RGE.STATE_KILL_ACTIVE 0).set RGE.STATE_HOLD 15)) ∧
  (∀ s : State, s.get RGE.KILL_KILL ≠ 0 → exec .killPinRelease s = .next (s.set RGE.KILL_PIN 0)) ∧
  (∀ (s : State) (m : Master), s.get RGE.STATE_KILL_ACTIVE = 1 → s.get RGE.KILL_PIN = 0 →
    exec (.killRegClear m) s = .next (((s.set RGE.KILL_KILL 0).set RGE.STATE_KILL_ACTIVE 0).set RGE.STATE_HOLD 15)) ∧
  (∀ (s : State) (m : Master), s.get RGE.KILL_PIN ≠ 0 → exec (.killRegClear m) s = .next (s.set RGE.KILL_KILL 0)) ∧
  (∀ s : State, exec (.quietClr .coreP) s = .next (s.set RGE.STATE_QUIET_LATCH 0)) ∧
  (∀ (s : State) (v : Nat), exec (.rfEnWrite .coreP v) s = .next ((s.set RGE.CTRL_RF_EN v).voteClean 3)) ∧
  (∀ (s : State) (m : Master) (v : Nat), m ≠ .coreP →
    exec (.quietClr m) s = .next s ∧ exec (.rfEnWrite m v) s = .next s) ∧
  (∀ (s : State) (m : Master) (e : RgeEntry) (r : List RgeEntry), m ≠ .coreB → s.rge.log = e :: r →
    exec (.rgeLogPop m) s = .next ((({ s with rge.log := r } : State).latch (RGE.LOG_LO_VALID.at 0) m e.cycle).respond
      (2147483648 + e.code % 32 * 2 ^ 24 + e.chain % 4 * 2 ^ 22 + e.chan % 64 * 2 ^ 16 + e.angle % 65536) false)) ∧
  (∀ (s : State) (e : RgeEntry) (r : List RgeEntry), s.rge.log = e :: r →
    ∃ t, exec (.rgeLogPop .coreB) s = .next t ∧ t.rge.log = r ∧ t.bus.resp = { value := rgeEntryWord e, error := false } ∧
      t.regs = s.regs ∧ memSame s t 0x2803F520 1040) ∧
  (∀ (s : State) (m : Master), s.rge.log = [] → exec (.rgeLogPop m) s = .next (s.respond 0 false))

/-! ### Transmit chains and synthesizers (R68 to R100) -/

/-- State requests that are granted at once (R70, R71): STANDBY to OFF, READY to STANDBY where no calibration's re-lock is under way
(R81), STANDBY up to READY on a locked synthesizer, READY to LISTEN. The request is answered and no longer outstanding.
UTX_REQ_CW (R84, R138): from READY with every condition met and the checks passed, the chain is granted and ramps up. A command
to a leased chain from another than the holder of its lease is ignored but for CMD_ERR and LAST_ERR = NOT_OWNER (R72), and the
LO chain of a LISTEN sheaf, held in OFF (R158), takes from the holder no request above OFF: CMD_ERR, LAST_ERR = BAD_STATE. Where a clause rests on
the model's own choice, that is assumption 13. -/
def Obligations.ChainRequests : Prop :=
  (∀ (s : State) (n : Nat) (m : Master), n < 4 → s.ownerOk (s.chainSheaf n) m = true → s.get UTX.STATE_STATE n = 1 →
    s.carrier n = false → (s.utxAt n).ramp = none →
    ∃ t, exec (.utxReqOff n m) s = .next t ∧ t.get UTX.STATE_STATE n = 0 ∧ (t.utxAt n).want = none ∧ t.mem = s.mem) ∧
  (∀ (s : State) (n : Nat) (m : Master), n < 4 → s.ownerOk (s.chainSheaf n) m = true → s.get UTX.STATE_STATE n = 2 →
    s.carrier n = false → (s.utxAt n).ramp = none → s.heldOff n = false → (s.synthAt (s.loOf n)).relock = false →
    ∃ t, exec (.utxReqStandby n m) s = .next t ∧ t.get UTX.STATE_STATE n = 1 ∧ (t.utxAt n).want = none ∧ t.mem = s.mem) ∧
  (∀ (s : State) (n : Nat) (m : Master), n < 4 → s.ownerOk (s.chainSheaf n) m = true → s.get UTX.STATE_STATE n = 1 →
    s.carrier n = false → (s.utxAt n).ramp = none → s.heldOff n = false → s.sst (s.loOf n) = 4 →
    ∃ t, exec (.utxReqReady n m) s = .next t ∧ t.get UTX.STATE_STATE n = 2 ∧ (t.utxAt n).want = none ∧ t.mem = s.mem) ∧
  (∀ (s : State) (n : Nat) (m : Master), n < 4 → s.ownerOk (s.chainSheaf n) m = true → s.get UTX.STATE_STATE n = 2 →
    s.carrier n = false → (s.utxAt n).ramp = none → s.heldOff n = false → s.sst (s.loOf n) = 4 → s.supplyOk = true →
    ∃ t, exec (.utxReqListen n m) s = .next t ∧ t.get UTX.STATE_STATE n = 5 ∧ (t.utxAt n).want = none ∧ t.mem = s.mem) ∧
  (∀ (s : State) (n : Nat) (m : Master), n < 4 → s.ownerOk (s.chainSheaf n) m = true → s.get UTX.STATE_STATE n = 2 →
    s.carrier n = false → (s.utxAt n).ramp = none → s.heldOff n = false → s.sst (s.loOf n) = 4 → s.supplyOk = true →
    s.get CLK.STATE_ON_BYPASS = 0 → (s.utxAt n).antSettling = false → (s.utxAt n).grantAsked = false →
    s.rampTable.isSome = true → (s.powerTable n (bandGroup (s.khz (s.loOf n)))).isSome = true →
    s.bit RGE.STATE_WINDOW n = true → s.profFlag 1 = false → s.rgeCheck n false = 0 →
    ∃ t, exec (.utxReqCw n m) s = .next t ∧ t.get UTX.STATE_STATE n = 3 ∧ t.get UTX.STATE_CARRIER n = 1 ∧
      t.get UTX.STATE_RAMP n = 1 ∧ t.granted n = true ∧ (∃ r, (t.utxAt n).ramp = some r ∧ r.up = true)) ∧
  (∀ (s : State) (n : Nat) (m : Master) (v : Nat), s.ownerOk (s.chainSheaf n) m = false →
    exec (.utxReqOff n m) s = .next ((s.set UTX.STATE_LAST_ERR 2 n).set UTX.STATUS_CMD_ERR 1 n) ∧
    exec (.utxReqStandby n m) s = .next ((s.set UTX.STATE_LAST_ERR 2 n).set UTX.STATUS_CMD_ERR 1 n) ∧
    exec (.utxReqReady n m) s = .next ((s.set UTX.STATE_LAST_ERR 2 n).set UTX.STATUS_CMD_ERR 1 n) ∧
    exec (.utxReqCw n m) s = .next ((s.set UTX.STATE_LAST_ERR 2 n).set UTX.STATUS_CMD_ERR 1 n) ∧
    exec (.utxReqListen n m) s = .next ((s.set UTX.STATE_LAST_ERR 2 n).set UTX.STATUS_CMD_ERR 1 n) ∧
    exec (.utxPwrWrite n m v) s = .next ((s.set UTX.STATE_LAST_ERR 2 n).set UTX.STATUS_CMD_ERR 1 n) ∧
    exec (.utxModCfgWrite n m v) s = .next ((s.set UTX.STATE_LAST_ERR 2 n).set UTX.STATUS_CMD_ERR 1 n) ∧
    exec (.utxSteerWrite n m v) s = .next ((s.set UTX.STATE_LAST_ERR 2 n).set UTX.STATUS_CMD_ERR 1 n)) ∧
  (∀ (s : State) (n : Nat) (m : Master), s.ownerOk (s.chainSheaf n) m = true → s.heldOff n = true →
    exec (.utxReqStandby n m) s = .next ((s.set UTX.STATE_LAST_ERR 1 n).set UTX.STATUS_CMD_ERR 1 n) ∧
    exec (.utxReqReady n m) s = .next ((s.set UTX.STATE_LAST_ERR 1 n).set UTX.STATUS_CMD_ERR 1 n) ∧
    exec (.utxReqCw n m) s = .next ((s.set UTX.STATE_LAST_ERR 1 n).set UTX.STATUS_CMD_ERR 1 n) ∧
    exec (.utxReqListen n m) s = .next ((s.set UTX.STATE_LAST_ERR 1 n).set UTX.STATUS_CMD_ERR 1 n))

/-- What the chain's own events bring about with no request outstanding (R84, R88, R90, R91, R96): bias up ends in STANDBY; a
ramp-up ends at full carrier, counted; a ramp-down ends without RF, PA and grant in the state that it led to; a wait fails with
its code; the rail stands at its target; the antenna has settled. PA_FAULT (R91), FWD lying farther than TOL from EXPECT on a
chain that carries: FWD, kept in MOD, the flag and the count; with PA_CHECK the chain starts down on the normal section. Where a clause rests on the model's own choice, that is one of assumptions 9, 10 or 13. -/
def Obligations.ChainEventsAndFaults : Prop :=
  (∀ (s : State) (n : Nat), n < 4 → (s.utxAt n).biasUp = true → (s.utxAt n).want = none →
    ∃ t, exec (.biasUpDone n) s = .next t ∧ t.get UTX.STATE_STATE n = 1 ∧ (t.utxAt n).biasUp = false ∧ t.mem = s.mem) ∧
  (∀ (s : State) (n : Nat) (r : Ramp), n < 4 → (s.utxAt n).ramp = some r → r.up = true → (s.utxAt n).want = none →
    s.get UTX.CNT_KEY_COUNT n < 0xFFFFFFFF →
    ∃ t, exec (.rampUpDone n) s = .next t ∧ t.get UTX.STATE_RAMP n = 0 ∧ t.get UTX.STATUS_RAMP_DONE n = 1 ∧
      t.get UTX.CNT_KEY_COUNT n = s.get UTX.CNT_KEY_COUNT n + 1 ∧ (t.utxAt n).ramp = none ∧ t.mem = s.mem) ∧
  (∀ (s : State) (n : Nat) (r : Ramp), n < 4 → (s.utxAt n).ramp = some r → r.up = false → (s.utxAt n).want = none →
    (s.utxAt n).downTo ≤ 2 →
    ∃ t, exec (.rampDownDone n) s = .next t ∧ t.get UTX.STATE_CARRIER n = 0 ∧ t.get UTX.STATE_RAMP n = 0 ∧
      t.get UTX.PA_PA_EN n = 0 ∧ t.granted n = false ∧ t.get UTX.STATE_STATE n = (s.utxAt n).downTo ∧ t.mem = s.mem) ∧
  (∀ (s : State) (n : Nat), n < 4 → s.get UTX.STATE_WAIT n = 1 → (s.utxAt n).rqs = false →
    ∃ t, exec (.waitFail n) s = .next t ∧ t.get UTX.STATE_STATE n = s.get UTX.STATE_STATE n ∧ t.get UTX.STATUS_WAIT_FAIL n = 1 ∧
      t.get UTX.STATE_WAIT n = 0 ∧ (t.utxAt n).want = none ∧
      t.get UTX.STATE_LAST_ERR n = (if s.sst (s.loOf n) = 4 then 4 else 3)) ∧
  (∀ s : State, (∀ n, n < 4 → (s.utxAt n).want = none) →
    exec .paRailReached s = .next { s with radio.buckLevel := s.buckTarget }) ∧
  (∀ (s : State) (n : Nat), (s.utxAt n).antSettling = true → (s.utxAt n).want = none →
    exec (.antennaSettle n) s = .next (s.setUtx n { s.utxAt n with antSettling := false })) ∧
  (∀ (s : State) (n fwd : Nat), s.carrier n = true → (s.utxAt n).ramp = none → s.get UTX.STATE_STATE n ≠ 4 →
    s.get UTX.CTRL_PA_CHECK n = 0 → (s.set UTX.FWD_FWD fwd n).paOut n = true →
    exec (.paFault n fwd) s = .next (((s.set UTX.FWD_FWD fwd n).set UTX.STATUS_PA_FAULT 1 n).bump UTX.CNT_FAULT_COUNT
      UTX.STATUS_SAT n)) ∧
  (∀ (s : State) (n fwd : Nat), s.carrier n = true → (s.utxAt n).ramp = none → s.get UTX.STATE_STATE n = 4 →
    s.get UTX.CTRL_PA_CHECK n = 0 → s.paOut n = true →
    exec (.paFault n fwd) s = .next ((s.set UTX.STATUS_PA_FAULT 1 n).bump UTX.CNT_FAULT_COUNT UTX.STATUS_SAT n)) ∧
  (∀ (s : State) (n fwd : Nat), n < 4 → s.carrier n = true → (s.utxAt n).ramp = none → s.get UTX.CTRL_PA_CHECK n = 1 →
    (s.get UTX.STATE_STATE n = 4 ∧ s.paOut n = true ∨ s.get UTX.STATE_STATE n ≠ 4 ∧ (s.set UTX.FWD_FWD fwd n).paOut n = true) →
    ∃ t r, exec (.paFault n fwd) s = .next t ∧ t.get UTX.STATUS_PA_FAULT n = 1 ∧ t.get UTX.STATE_LAST_ERR n = 9 ∧
      t.get UTX.STATE_RAMP n = 1 ∧ (t.utxAt n).ramp = some r ∧ r.up = false ∧ r.fast = false ∧ (t.utxAt n).downTo = 2)

/-- Writes to a chain's registers by its owner (R72, R88, R92, R97, R99): the index with the effective index that follows it, held
while the chain ramps; MOD_CFG; STEER, kept for the frame end in MOD; LO_SRC, refused GANG above STANDBY and where the source is
itself a gang member. Where a clause rests on the model's own choice, that is assumption 11. -/
def Obligations.ChainRegisterWrites : Prop :=
  (∀ (s : State) (n : Nat) (m : Master) (v : Nat), s.ownerOk (s.chainSheaf n) m = true → s.get UTX.STATE_RAMP n = 1 →
    n < 4 → exec (.utxPwrWrite n m v) s = .next (s.set UTX.PWR_IDX v n)) ∧
  (∀ (s : State) (n : Nat) (m : Master) (v : Nat), n < 4 → v < 128 → s.ownerOk (s.chainSheaf n) m = true →
    s.get UTX.STATE_RAMP n = 0 → s.get UTX.STATE_STATE n ≠ 4 →
    ∃ t, exec (.utxPwrWrite n m v) s = .next t ∧ t.get UTX.PWR_IDX n = v ∧
      t.get UTX.PWR_EFF_IDX n = max v (max (s.slotCeil n) (s.ceilOf (s.chanNow n))) % 128 ∧ t.mem = s.mem) ∧
  (∀ (s : State) (n : Nat) (m : Master) (v : Nat), s.ownerOk (s.chainSheaf n) m = true →
    exec (.utxModCfgWrite n m v) s = .next ((((s.set UTX.MOD_CFG_PAD (bits v 15 9) n).set UTX.MOD_CFG_SHAPE (bits v 8 7) n).set
      UTX.MOD_CFG_MODE (bits v 6 5) n).set UTX.MOD_CFG_DEPTH (bits v 4 0) n)) ∧
  (∀ (s : State) (n : Nat) (m : Master) (v : Nat), s.ownerOk (s.chainSheaf n) m = true → s.get UTX.STATE_STATE n ≠ 4 →
    exec (.utxSteerWrite n m v) s = .next (s.set UTX.PHASE_STEER v n)) ∧
  (∀ (s : State) (n : Nat) (m : Master) (v : Nat), s.ownerOk (s.chainSheaf n) m = true → s.get UTX.STATE_STATE n = 4 →
    (s.utxAt n).steerHeld = none →
    exec (.utxSteerWrite n m v) s = .next ((s.setUtx n { s.utxAt n with
      steerHeld := some (s.get UTX.PHASE_STEER n) }).set UTX.PHASE_STEER v n)) ∧
  (∀ (s : State) (n : Nat) (m : Master) (src : Nat), n < 4 → src < 4 → src ≠ s.get UTX.CTRL_LO_SRC n →
    (src = n ∨ s.get UTX.CTRL_LO_SRC src = src) → s.get UTX.STATE_STATE n ≤ 1 → s.get UTX.STATE_STATE src ≤ 1 →
    ∃ t, exec (.utxLoSrcWrite n m src) s = .next t ∧ t.get UTX.CTRL_LO_SRC n = src ∧
      t.get UTX.STATE_STATE n = s.get UTX.STATE_STATE n ∧ t.mem = s.mem) ∧
  (∀ (s : State) (n : Nat) (m : Master) (src : Nat), src < 4 → src ≠ s.get UTX.CTRL_LO_SRC n → 1 < s.get UTX.STATE_STATE n →
    exec (.utxLoSrcWrite n m src) s = .next ((s.set UTX.STATE_LAST_ERR 8 n).set UTX.STATUS_CMD_ERR 1 n)) ∧
  (∀ (s : State) (n : Nat) (m : Master) (src : Nat), src < 4 → src ≠ s.get UTX.CTRL_LO_SRC n → src ≠ n →
    s.get UTX.CTRL_LO_SRC src ≠ src →
    exec (.utxLoSrcWrite n m src) s = .next ((s.set UTX.STATE_LAST_ERR 8 n).set UTX.STATUS_CMD_ERR 1 n))

/-- Synthesizer commands by their owner (R72, R78, R81, R82, R84): a word written with no fed carrier; LOCK and FULL begin a search
with the word applied; CAL enters CAL as Fulling's sequence 7; a due temperature calibration starts. Synthesizer events (R78,
R79, R81, R83): a lock ends the search with its measured figures; a missed hint begins a full search; a loss of lock from LOCKED
coasts; a temperature is taken with its bin; a calibration that no sequence holds ends in a full search. Where a clause rests on
the model's own choice, that is assumption 9. -/
def Obligations.Synthesizers : Prop :=
  (∀ (s : State) (n : Nat) (m : Master) (v : Nat), s.ownerOk (s.synthSheaf n) m = true →
    (∀ c, c < 4 → s.carrier c = false) →
    exec (.rfsFreqWrite n m v) s = .next ((s.set RFS.FREQ_CHAN (bits v 25 20) n).set RFS.FREQ_KHZ (bits v 19 0) n)) ∧
  (∀ (s : State) (n : Nat) (m : Master), n < 4 → s.ownerOk (s.synthSheaf n) m = true → s.get UTX.CTRL_LO_SRC n = n →
    (∀ c, c < 4 → s.carrier c = false) → (s.sst n = 1 ∨ s.sst n = 4) → 840000 ≤ s.get RFS.FREQ_KHZ n →
    s.get RFS.FREQ_KHZ n ≤ 960000 →
    ∃ t, exec (.rfsLock n m) s = .next t ∧ t.get RFS.STATE_STATE n = 2 ∧ (t.synthAt n).applied = s.get RFS.FREQ_KHZ n ∧
      (t.synthAt n).settleAt = some (s.now + if t.get RFS.STATE_HINT_USED n = 1 then 7200 else 14400) ∧ t.mem = s.mem) ∧
  (∀ (s : State) (n : Nat) (m : Master), n < 4 → s.ownerOk (s.synthSheaf n) m = true → s.get UTX.CTRL_LO_SRC n = n →
    (∀ c, c < 4 → s.carrier c = false) → (s.sst n = 1 ∨ s.sst n = 4) → 840000 ≤ s.get RFS.FREQ_KHZ n →
    s.get RFS.FREQ_KHZ n ≤ 960000 →
    ∃ t, exec (.rfsFull n m) s = .next t ∧ t.get RFS.STATE_STATE n = 2 ∧ t.get RFS.STATE_HINT_USED n = 0 ∧
      (t.synthAt n).applied = s.get RFS.FREQ_KHZ n ∧ (t.synthAt n).settleAt = some (s.now + 14400) ∧ t.mem = s.mem) ∧
  (∀ (s : State) (n : Nat) (m : Master), n < 4 → s.ownerOk (s.synthSheaf n) m = true → s.get UTX.CTRL_LO_SRC n = n →
    s.get CAL.STATE_BUSY = 0 → (∀ c, c < 4 → s.inUse c = false) →
    ∃ t, exec (.rfsCal n m) s = .next t ∧ t.get RFS.STATE_STATE n = 6 ∧ t.get CAL.STATE_BUSY = 1 ∧ t.get CAL.STATE_SEQ = 7 ∧
      t.calTarget = 2 ^ n ∧ t.mem = s.mem) ∧
  (∀ (s : State) (n : Nat), n < 4 → s.get UTX.CTRL_LO_SRC n = n → s.tcalDue n = true → s.calFree n = true →
    s.calHolds [7, 8] n = false →
    ∃ t, exec (.tempCalStart n) s = .next t ∧ t.get RFS.STATE_STATE n = 6 ∧ t.get RFS.STATE_CAL_PENDING n = 0 ∧ t.mem = s.mem) ∧
  (∀ (s : State) (n band lt vt : Nat), n < 4 → band < 64 → s.sst n = 3 → (∀ c, c < 4 → (s.utxAt c).want = none) →
    ∃ t, exec (.synthLocked n band lt vt) s = .next t ∧ t.get RFS.STATE_STATE n = 4 ∧ t.get RFS.STATE_BAND n = band ∧
      t.get RFS.STATUS_LOCK n = 1 ∧ t.get RFS.MON_LOCK_TIME n = min 0xFFFF lt) ∧
  (∀ (s : State) (n : Nat), n < 4 → s.get RFS.STATE_HINT_USED n = 1 → s.sst n = 2 →
    ∃ t, exec (.hintMiss n) s = .next t ∧ t.get RFS.STATE_STATE n = 2 ∧ t.get RFS.STATE_HINT_USED n = 0 ∧
      t.get RFS.STATUS_HINT_MISS n = 1 ∧ (t.synthAt n).settleAt = some (s.now + 14400)) ∧
  (∀ (s : State) (n : Nat), n < 4 → s.sst n = 4 →
    ∃ t, exec (.synthLossOfLock n) s = .next t ∧ t.get RFS.STATE_STATE n = 5 ∧ t.get RFS.STATUS_LOL n = 1) ∧
  (∀ (s : State) (n : Nat), s.sst n ≠ 4 → exec (.synthLossOfLock n) s = .next s) ∧
  (∀ (s : State) (n temp : Nat), n < 4 → temp < 65536 →
    ∃ t, exec (.temperatureTrigger n temp) s = .next t ∧ t.get RFS.TEMP_TEMP n = temp ∧ t.get RFS.STATE_TBIN n = tempBin temp ∧
      t.get RFS.STATE_STATE n = s.get RFS.STATE_STATE n ∧ t.mem = s.mem) ∧
  (∀ (s : State) (n temp : Nat) (bands : List Nat), n < 4 → temp < 65536 → s.sst n = 6 → s.calHolds [7] n = false →
    s.get UTX.CTRL_LO_SRC n = n → (∀ c, c < 4 → s.carrier c = false) → 840000 ≤ s.get RFS.FREQ_KHZ n →
    s.get RFS.FREQ_KHZ n ≤ 960000 →
    ∃ t, exec (.synthCalDone n temp bands) s = .next t ∧ t.get RFS.STATE_STATE n = 2 ∧ t.get RFS.STATE_HINT_USED n = 0 ∧
      t.get RFS.TEMP_CAL_TEMP n = temp ∧ t.get RFS.STATUS_CAL_DONE n = 1)

/-! ### Receive chains and captures (R101 to R130) -/

/-- The nuller's events (R110, R112, R114, R115, R117): the first hold sets NULL_READY and ends ACQUIRE in TRACK, RX_CW staying; a hold
lost clears NULL_READY and is counted, one regained in TRACK or RX_CW sets NULL_READY and REJOIN; the residual is taken with each,
and the vector where the loop runs, JAM then following it; an overload is flagged and counted. A lost hold and an overload meet the
policy: MARK alone leaves EXCL, and STOP takes the chain to IDLE. CNV_SAT stands where the vector has the magnitude 2,047 at CRS 0.
Receive-chain writes and the foreign tone (R109, R118, R123): trims are taken in OFF and IDLE and refused above; the vector is taken
while FREEZE is set on an unleased chain, and refused otherwise; with FTRK a foreign carrier's offset within 20 kHz is reported, 0
below −60 dBm.
Where a clause rests on the model's own choice, that is one of assumptions 9, 12 or 50. -/
def Obligations.NullersAndReceiveChains : Prop :=
  (∀ (s : State) (ch resid crs vi vq : Nat), ch < 16 → resid < 65536 → vi < 4096 → vq < 4096 →
    (s.get URX.STATE_STATE ch = 2 ∨ s.get URX.STATE_STATE ch = 3 ∨ s.get URX.STATE_STATE ch = 4) →
    (s.urxAt ch).everHeld = false → sint 16 resid ≤ sint 16 (s.get URX.HOLD_CFG_LIM) →
    ∃ t, exec (.nullFirstHold ch resid crs vi vq) s = .next t ∧ t.get URX.STATE_NULL_READY ch = 1 ∧
      t.get URX.STATE_STATE ch = (if s.get URX.STATE_STATE ch = 4 then 4 else 3) ∧ t.get URX.CNV_MON_RESID ch = resid ∧
      (s.loopRuns ch = true → s.vecLegal ch crs vi vq = true → t.get URX.CNV_CTRL_CRS ch = crs ∧ t.get URX.CNV_VEC_VEC_I ch = vi ∧
        t.get URX.CNV_VEC_VEC_Q ch = vq ∧ (vecSq vi vq ≠ 0 → t.get URX.JAM_VALUE ch = unsignedOf 16 (jamOf crs vi vq))) ∧
      (s.loopRuns ch = false → t.get URX.CNV_CTRL_CRS ch = s.get URX.CNV_CTRL_CRS ch ∧
        t.get URX.CNV_VEC_VEC_I ch = s.get URX.CNV_VEC_VEC_I ch ∧ t.get URX.CNV_VEC_VEC_Q ch = s.get URX.CNV_VEC_VEC_Q ch) ∧
      t.mem = s.mem) ∧
  (∀ (s : State) (ch resid crs vi vq : Nat), ch < 16 → resid < 65536 →
    (s.get URX.STATE_STATE ch = 3 ∨ s.get URX.STATE_STATE ch = 2 ∨ s.get URX.STATE_STATE ch = 4) →
    s.get URX.STATE_NULL_READY ch = 1 → sint 16 (s.get URX.HOLD_CFG_LIM) < sint 16 resid →
    s.get URX.CNT_HOLD_COUNT ch < 0xFFFFFFFF →
    ∃ t, exec (.holdLost ch resid crs vi vq) s = .next t ∧ t.get URX.STATE_NULL_READY ch = 0 ∧ t.get URX.STATUS_HOLD_LOST ch = 1 ∧
      t.get URX.CNT_HOLD_COUNT ch = s.get URX.CNT_HOLD_COUNT ch + 1 ∧ t.get URX.CNV_MON_RESID ch = resid ∧
      t.get URX.STATE_STATE ch = (if s.get URX.HOLD_CFG_POLICY = 2 then 1 else s.get URX.STATE_STATE ch) ∧
      t.get URX.STATE_EXCL ch = (if s.get URX.HOLD_CFG_POLICY = 0 then s.get URX.STATE_EXCL ch else 1) ∧ t.mem = s.mem) ∧
  (∀ (s : State) (ch resid crs vi vq : Nat), sint 16 resid ≤ sint 16 (s.get URX.HOLD_CFG_LIM) →
    exec (.holdLost ch resid crs vi vq) s = .next s) ∧
  (∀ (s : State) (ch resid crs vi vq : Nat), ch < 16 → resid < 65536 →
    (s.get URX.STATE_STATE ch = 3 ∨ s.get URX.STATE_STATE ch = 4) → s.get URX.STATE_NULL_READY ch = 0 →
    sint 16 resid ≤ sint 16 (s.get URX.HOLD_CFG_LIM) - 256 * (s.get URX.HOLD_CFG_HYST : Nat) →
    ∃ t, exec (.rejoin ch resid crs vi vq) s = .next t ∧ t.get URX.STATE_NULL_READY ch = 1 ∧ t.get URX.STATUS_REJOIN ch = 1 ∧
      t.get URX.CNV_MON_RESID ch = resid ∧ t.get URX.STATE_STATE ch = s.get URX.STATE_STATE ch ∧ (t.urxAt ch).rejoined = true ∧
      t.mem = s.mem) ∧
  (∀ (s : State) (ch : Nat), ch < 16 → s.get URX.STATE_STATE ch ≠ 0 → s.get URX.CNT_OVL_COUNT ch < 0xFFFFFFFF →
    ∃ t, exec (.overload ch) s = .next t ∧ t.get URX.STATUS_OVERLOAD ch = 1 ∧ t.bit URX.OVL_SUM_OVL ch = true ∧
      t.get URX.CNT_OVL_COUNT ch = s.get URX.CNT_OVL_COUNT ch + 1 ∧
      t.get URX.STATE_STATE ch = (if s.get URX.HOLD_CFG_POLICY = 2 then 1 else s.get URX.STATE_STATE ch) ∧
      t.get URX.STATE_EXCL ch = (if s.get URX.HOLD_CFG_POLICY = 0 then s.get URX.STATE_EXCL ch else 1) ∧ t.mem = s.mem) ∧
  (∀ (s : State) (ch vi vq resid : Nat), ch < 16 → vi < 4096 → vq < 4096 →
    (s.get URX.STATE_STATE ch = 3 ∨ s.get URX.STATE_STATE ch = 2 ∨ s.get URX.STATE_STATE ch = 4) → s.loopRuns ch = true →
    s.vecLegal ch 0 vi vq = true → vecMag vi vq = 2047 →
    ∃ t, exec (.cnvSat ch vi vq resid) s = .next t ∧ t.get URX.STATUS_CNV_SAT ch = 1 ∧ t.get URX.CNV_CTRL_CRS ch = 0 ∧
      t.get URX.CNV_VEC_VEC_I ch = vi ∧ t.get URX.CNV_VEC_VEC_Q ch = vq ∧
      t.get URX.JAM_VALUE ch = unsignedOf 16 (jamOf 0 vi vq) ∧ t.mem = s.mem) ∧
  (∀ (s : State) (ch vi vq resid : Nat), s.loopRuns ch = false →
    (s.get URX.CNV_CTRL_CRS ch ≠ 0 ∨ vecMag (s.get URX.CNV_VEC_VEC_I ch) (s.get URX.CNV_VEC_VEC_Q ch) ≠ 2047) →
    exec (.cnvSat ch vi vq resid) s = .next s) ∧
  (∀ (s : State) (ch : Nat) (m : Master) (v : Nat), s.get URX.STATE_STATE ch ≤ 1 →
    exec (.urxTrimWrite ch m true v) s = .next ((s.set URX.IQ_TRIM_PHASE (bits v 13 7) ch).set URX.IQ_TRIM_GAIN (bits v 5 0) ch) ∧
    exec (.urxTrimWrite ch m false v) s = .next ((s.set URX.OFS_TRIM_OFS_I (bits v 15 8) ch).set URX.OFS_TRIM_OFS_Q
      (bits v 7 0) ch)) ∧
  (∀ (s : State) (ch : Nat) (m : Master) (iq : Bool) (v : Nat), 1 < s.get URX.STATE_STATE ch →
    exec (.urxTrimWrite ch m iq v) s = .next (s.set URX.STATUS_CMD_ERR 1 ch)) ∧
  (∀ (s : State) (ch : Nat) (m : Master) (v : Nat), ch < 16 → s.get URX.CNV_CTRL_FREEZE ch = 1 → s.rxSheaf ch = none →
    ∃ t, exec (.cnvVecWrite ch m v) s = .next t ∧ t.get URX.CNV_VEC_VEC_I ch = bits v 11 0 ∧ t.get URX.CNV_VEC_VEC_Q ch = bits v 27 16 ∧
      (vecSq (bits v 11 0) (bits v 27 16) ≠ 0 → t.get URX.JAM_VALUE ch =
        unsignedOf 16 (jamOf (s.get URX.CNV_CTRL_CRS ch) (bits v 11 0) (bits v 27 16))) ∧ t.mem = s.mem ∧
      regsSame s t [URX.CNV_VEC_VEC_I.key ch, URX.CNV_VEC_VEC_Q.key ch, URX.JAM_VALUE.key ch, URX.CNV_MON_DEPTH.key ch]) ∧
  (∀ (s : State) (ch : Nat) (m : Master) (v : Nat), (s.get URX.CNV_CTRL_FREEZE ch = 0 ∨ s.rxSheaf ch ≠ none) →
    exec (.cnvVecWrite ch m v) s = .next (s.set URX.STATUS_CMD_ERR 1 ch)) ∧
  (∀ (s : State) (ch fofs level : Nat), fofs < 65536 → s.get URX.STATE_STATE ch = 5 → s.get URX.DIG_CFG_FTRK = 1 →
    (sint 16 fofs).natAbs ≤ 20000 →
    ∃ t, exec (.foreignToneLock ch fofs level) s = .next t ∧
      t.get URX.FOFS_VALUE ch = (if sint 16 level < -15360 then 0 else fofs) ∧ t.mem = s.mem ∧
      regsSame s t [URX.FOFS_VALUE.key ch]) ∧
  (∀ (s : State) (ch fofs level : Nat), (s.get URX.STATE_STATE ch ≠ 5 ∨ s.get URX.DIG_CFG_FTRK = 0 ∨ 20000 < (sint 16 fofs).natAbs) →
    exec (.foreignToneLock ch fofs level) s = .next s)

/-- CAP_ARM (R126, R129): with a sound configuration (a chain selected, a POINT and a TSRC that exist, CAP_LEN above 0, room for
every instant) it arms, and a ring stores at once; refused with CFG_ERR while a capture is armed or running, or with an unsound
configuration. CAP_TRIG and CAPTURE_TRIGGER (R126, R127): the trigger that TSRC selects, by software, on the lowest chain of the
mask, on a chain of the mask, or of the sheaf TSHEAF, stamps the position and starts storing where a capture is armed; one that
comes while instants are being stored is lost, TRIG_LOST; any other does nothing. CAPTURE_DONE and CAP_STOP (R124, R126, R129):
DONE with neither ARMED nor RUNNING, the count of instants, within what the buffer holds, the start of a full ring, the index and
stamp of the trigger, and the words in the buffer; a register outside these and a byte outside the buffer keep their value. With
no capture to end they do nothing. Where a clause rests on the model's own choice, that is assumption 9. -/
def Obligations.Captures : Prop :=
  (∀ s : State, s.capBad = false ↔ s.capChains ≠ 0 ∧ s.get URX.CAP_CFG_POINT ≠ 3 ∧ s.get URX.CAP_CFG_TSRC < 6 ∧
    s.get URX.CAP_LEN_INSTANTS ≠ 0 ∧
    ((if s.get URX.CAP_CFG_RING = 0 then 0 else s.get URX.CAP_PRE_INSTANTS) + s.get URX.CAP_LEN_INSTANTS) * s.capChains ≤ 262144) ∧
  (∀ s : State, s.get URX.CAP_STATUS_ARMED = 0 → s.get URX.CAP_STATUS_RUNNING = 0 → s.capBad = false →
    exec .capArm s = .next ((({ s with radio.capture := {} } : State).set URX.CAP_STATUS_ARMED 1).set URX.CAP_STATUS_RUNNING
      (s.get URX.CAP_CFG_RING))) ∧
  (∀ s : State, (s.get URX.CAP_STATUS_ARMED ≠ 0 ∨ s.get URX.CAP_STATUS_RUNNING ≠ 0 ∨ s.capBad = true) →
    exec .capArm s = .next (s.set URX.CAP_STATUS_CFG_ERR 1)) ∧
  (∀ s : State, s.get URX.CAP_CFG_TSRC = 0 → s.get URX.CAP_STATUS_ARMED = 1 →
    (s.radio.capture.triggered = false ∨ s.get URX.CAP_STATUS_RUNNING = 0) →
    exec .capTrig s = .next ((({ s with radio.capture := { triggered := true, angle := s.atb.angle, cycle := s.atb.cycle } } :
      State).set URX.CAP_STATUS_ARMED 0).set URX.CAP_STATUS_RUNNING 1)) ∧
  (∀ s : State, s.get URX.CAP_CFG_TSRC = 0 → s.get URX.CAP_STATUS_RUNNING = 1 → s.radio.capture.triggered = true →
    exec .capTrig s = .next (s.set URX.CAP_STATUS_TRIG_LOST 1)) ∧
  (∀ s : State, (s.get URX.CAP_CFG_TSRC ≠ 0 ∨ s.get URX.CAP_STATUS_ARMED = 0 ∧ s.get URX.CAP_STATUS_RUNNING = 0) →
    exec .capTrig s = .next s) ∧
  (∀ (s : State) (src unit : Nat), s.get URX.CAP_CFG_TSRC = src → s.get URX.CAP_STATUS_ARMED = 1 →
    (s.radio.capture.triggered = false ∨ s.get URX.CAP_STATUS_RUNNING = 0) →
    (src = 5 ∧ s.get URX.CAP_CFG_TSHEAF = unit ∨ 2 ≤ src ∧ src ≤ 4 ∧ bitOf (s.get URX.CAP_CFG_MASK) unit = true ∨
      src = 1 ∧ (setBits 16 (s.get URX.CAP_CFG_MASK)).head? = some unit) →
    exec (.captureTrigger src unit) s = .next ((({ s with radio.capture := { triggered := true, angle := s.atb.angle, cycle := s.atb.cycle } } :
      State).set URX.CAP_STATUS_ARMED 0).set URX.CAP_STATUS_RUNNING 1)) ∧
  (∀ (s : State) (src unit : Nat), s.get URX.CAP_CFG_TSRC = src → s.get URX.CAP_STATUS_RUNNING = 1 →
    s.radio.capture.triggered = true →
    (src = 5 ∧ s.get URX.CAP_CFG_TSHEAF = unit ∨ 2 ≤ src ∧ src ≤ 4 ∧ bitOf (s.get URX.CAP_CFG_MASK) unit = true ∨
      src = 1 ∧ (setBits 16 (s.get URX.CAP_CFG_MASK)).head? = some unit) →
    exec (.captureTrigger src unit) s = .next (s.set URX.CAP_STATUS_TRIG_LOST 1)) ∧
  (∀ (s : State) (src unit : Nat), (s.get URX.CAP_CFG_TSRC ≠ src ∨ src = 5 ∧ s.get URX.CAP_CFG_TSHEAF ≠ unit ∨
      2 ≤ src ∧ src ≤ 4 ∧ bitOf (s.get URX.CAP_CFG_MASK) unit = false ∨
      src = 1 ∧ (setBits 16 (s.get URX.CAP_CFG_MASK)).head? ≠ some unit ∨
      s.get URX.CAP_STATUS_ARMED = 0 ∧ s.get URX.CAP_STATUS_RUNNING = 0) →
    exec (.captureTrigger src unit) s = .next s) ∧
  (∀ (s : State) (before ptr c b p n fit : Nat) (samples : List Nat), s.radio.capture.triggered = true →
    s.get URX.CAP_STATUS_RUNNING = 1 → n = max 1 s.capChains → fit = 262144 / n →
    b = (if s.get URX.CAP_CFG_RING = 0 then 0 else
      max (s.get URX.CAP_PRE_INSTANTS) (min before (fit - s.get URX.CAP_LEN_INSTANTS))) →
    c = min fit (b + s.get URX.CAP_LEN_INSTANTS) →
    p = (if s.get URX.CAP_CFG_RING ≠ 0 ∧ c = fit then ptr % fit else 0) →
    ∃ t, exec (.captureDone before ptr samples) s = .next t ∧ t.get URX.CAP_STATUS_DONE = 1 ∧ t.get URX.CAP_STATUS_RUNNING = 0 ∧
      t.get URX.CAP_STATUS_ARMED = 0 ∧ t.radio.capture.triggered = false ∧
      t.get URX.CAP_COUNT_INDEX = c ∧ t.get URX.CAP_PTR_INDEX = p ∧ t.get URX.CAP_TIDX_INDEX = (p + b) % fit ∧
      t.get URX.CAP_STAMP_LO_ANGLE = s.radio.capture.angle % 65536 ∧
      t.get URX.CAP_STAMP_HI_CYCLE = s.radio.capture.cycle % 4294967296 ∧
      (∀ k, k < min (c * s.capChains) samples.length → t.rd32 (0x18000000 + 4 * ((p * s.capChains + k) % (fit * n))) =
        sampleWord (s.get URX.CAP_CFG_POINT) (samples.getD k 0)) ∧
      regsSame s t [URX.CAP_STATUS_DONE.key 0, URX.CAP_STATUS_RUNNING.key 0, URX.CAP_STATUS_ARMED.key 0, URX.CAP_COUNT_INDEX.key 0,
        URX.CAP_PTR_INDEX.key 0, URX.CAP_TIDX_INDEX.key 0, URX.CAP_STAMP_LO_ANGLE.key 0, URX.CAP_STAMP_HI_CYCLE.key 0] ∧ memSame s t 0x18000000 1048576) ∧
  (∀ (s : State) (before ptr : Nat) (samples : List Nat), (s.radio.capture.triggered = false ∨ s.get URX.CAP_STATUS_RUNNING = 0) →
    exec (.captureDone before ptr samples) s = .next s) ∧
  (∀ (s : State) (stored before ptr c p n fit : Nat) (samples : List Nat),
    (s.get URX.CAP_STATUS_ARMED = 1 ∨ s.get URX.CAP_STATUS_RUNNING = 1) → n = max 1 s.capChains → fit = 262144 / n →
    c = min fit (if s.get URX.CAP_CFG_RING ≠ 0 then stored else if s.radio.capture.triggered = true then
      min stored (s.get URX.CAP_LEN_INSTANTS) else 0) →
    p = (if s.get URX.CAP_CFG_RING ≠ 0 ∧ c = fit then ptr % fit else 0) →
    ∃ t, exec (.capStop stored before ptr samples) s = .next t ∧ t.get URX.CAP_STATUS_DONE = 1 ∧ t.get URX.CAP_STATUS_RUNNING = 0 ∧
      t.get URX.CAP_STATUS_ARMED = 0 ∧ t.radio.capture.triggered = false ∧
      t.get URX.CAP_COUNT_INDEX = c ∧ t.get URX.CAP_PTR_INDEX = p ∧
      (s.radio.capture.triggered = false → t.get URX.CAP_TIDX_INDEX = s.get URX.CAP_TIDX_INDEX ∧
        t.get URX.CAP_STAMP_LO_ANGLE = s.get URX.CAP_STAMP_LO_ANGLE ∧ t.get URX.CAP_STAMP_HI_CYCLE = s.get URX.CAP_STAMP_HI_CYCLE) ∧
      (s.radio.capture.triggered = true → t.get URX.CAP_STAMP_LO_ANGLE = s.radio.capture.angle % 65536 ∧
        t.get URX.CAP_STAMP_HI_CYCLE = s.radio.capture.cycle % 4294967296) ∧
      (∀ k, k < min (c * s.capChains) samples.length → t.rd32 (0x18000000 + 4 * ((p * s.capChains + k) % (fit * n))) =
        sampleWord (s.get URX.CAP_CFG_POINT) (samples.getD k 0)) ∧
      regsSame s t [URX.CAP_STATUS_DONE.key 0, URX.CAP_STATUS_RUNNING.key 0, URX.CAP_STATUS_ARMED.key 0, URX.CAP_COUNT_INDEX.key 0,
        URX.CAP_PTR_INDEX.key 0, URX.CAP_TIDX_INDEX.key 0, URX.CAP_STAMP_LO_ANGLE.key 0, URX.CAP_STAMP_HI_CYCLE.key 0] ∧ memSame s t 0x18000000 1048576) ∧
  (∀ (s : State) (stored before ptr : Nat) (samples : List Nat), s.get URX.CAP_STATUS_ARMED = 0 →
    s.get URX.CAP_STATUS_RUNNING = 0 → exec (.capStop stored before ptr samples) s = .next s)

/-! ### Sheaves, frames and sequencers (R152 to R233) -/

/-- LEASE_GO (R154, R155, R156): a lease that no check refuses takes its parts: HELD, owner, slot and composition, and the
sequencer's lease type. A refused one changes REFUSE, OTHER, MARGIN and REFUSED beside the fields written: the code is 11 where
RADIO or the mode does not allow it, else 1 where the sheaf is leased, else 2 where the slot is none of its own to be leased now, else 3
where the sequencer is stopped, in FAULT or bound already. One from a master that may not write GO, any but Core B and the
sequencers, is ignored but for CMD_ERR. LEASE_RELEASE and LEASE_FREED (R157): a release by Core B, by Core P or by the holder, of
a lease without carrier, frees its parts at once; with carrier it stays held while its chains ramp down, and the release stands;
LEASE_FREED then frees it once no chain carries, and does nothing before. A release by a master that may not is ignored but for
CMD_ERR; one of a sheaf that no lease holds does nothing. Where a clause rests on the model's own choice, that is assumption 40. -/
def Obligations.SheafLeases : Prop :=
  (∀ (s : State) (sh slot seq : Nat) (m : Master) (p : LeasePlan), sh < 4 → slot < 32 → seq < 16 → mayGo m = true →
    ((s.set SHF.LEASE_CMD_SLOT slot sh).set SHF.LEASE_CMD_SEQ seq sh).leaseTry sh slot seq = Sum.inr p →
    ∃ t, exec (.leaseGo sh m slot seq) s = .next t ∧ t.get SHF.LEASE_STATE_HELD sh = 1 ∧ t.get SHF.LEASE_STATE_OWNER sh = seq ∧
      t.get SHF.LEASE_STATE_SLOT sh = slot ∧ t.get SHF.COMP_RXMASK sh = slRxmask p.entry % 65536 ∧
      t.get SHF.COMP_TXMASK sh = slTxmask p.entry % 16 ∧ t.get LSC.STATE_LTYPE seq = sh + 1 ∧ (t.sheafAt sh).slotWords = p.entry) ∧
  (∀ (s : State) (sh slot seq code other : Nat) (margin : Int) (m : Master), mayGo m = true →
    ((s.set SHF.LEASE_CMD_SLOT slot sh).set SHF.LEASE_CMD_SEQ seq sh).leaseTry sh slot seq = Sum.inl (code, other, margin) →
    exec (.leaseGo sh m slot seq) s = .next ((((((s.set SHF.LEASE_CMD_SLOT slot sh).set SHF.LEASE_CMD_SEQ seq sh).set
      SHF.LEASE_STATE_REFUSE code sh).set SHF.LEASE_STATE_OTHER other sh).set SHF.LEASE_STATE_MARGIN
      (unsignedOf 8 (max (-128) (min 127 margin))) sh).set SHF.STATUS_REFUSED 1 sh)) ∧
  (∀ (s : State) (sh slot seq : Nat) (m : Master), sh < 4 → slot < 32 → seq < 16 → mayGo m = true →
    (s.radioReady = false ∨ s.get SHF.LEASE_STATE_HELD sh = 1 ∨ s.leaseSlot sh slot = none ∨ s.get LSC.STATE_STATE seq = 0 ∨
      s.get LSC.STATE_STATE seq = 4 ∨ s.seqBound seq = true) →
    ∃ t, exec (.leaseGo sh m slot seq) s = .next t ∧ t.get SHF.STATUS_REFUSED sh = 1 ∧
      t.get SHF.LEASE_STATE_HELD sh = s.get SHF.LEASE_STATE_HELD sh ∧ t.get LSC.STATE_LTYPE seq = s.get LSC.STATE_LTYPE seq ∧
      t.get SHF.LEASE_STATE_REFUSE sh = (if s.radioReady = false then 11 else if s.get SHF.LEASE_STATE_HELD sh = 1 then 1 else
        if s.leaseSlot sh slot = none then 2 else 3)) ∧
  (∀ (s : State) (sh slot seq : Nat) (m : Master), mayGo m = false → exec (.leaseGo sh m slot seq) s =
    .next (((s.set SHF.LEASE_CMD_SLOT slot sh).set SHF.LEASE_CMD_SEQ seq sh).set SHF.STATUS_CMD_ERR 1 sh)) ∧
  (∀ (s : State) (sh : Nat) (m : Master), sh < 4 →
    (m = .coreB ∨ m = .coreP ∨ m = .seq (s.get SHF.LEASE_STATE_OWNER sh)) → s.get SHF.LEASE_STATE_HELD sh = 1 →
    (∀ c, c < 4 → s.bit SHF.COMP_TXMASK c sh = true → s.get UTX.STATE_CARRIER c = 0) →
    ∃ t, exec (.leaseRelease sh m) s = .next t ∧ t.get SHF.LEASE_STATE_HELD sh = 0 ∧ t.get SHF.STATUS_RETURNED sh = 1 ∧
      t.get LSC.STATE_LTYPE (s.get SHF.LEASE_STATE_OWNER sh) = 0 ∧
      (∀ c, c < 4 → s.bit SHF.COMP_TXMASK c sh = true → s.get SHF.COMP_ROLE sh ≠ roleLISTEN → t.get UTX.STATE_LEASED c = 0) ∧
      (s.get SHF.COMP_ROLE sh = roleLISTEN → t.get UTX.STATE_LEASED (s.get SHF.COMP_LO_USED sh) = 0)) ∧
  (∀ (s : State) (sh k : Nat) (m : Master), sh < 4 → k < 4 →
    (m = .coreB ∨ m = .coreP ∨ m = .seq (s.get SHF.LEASE_STATE_OWNER sh)) → s.get SHF.LEASE_STATE_HELD sh = 1 →
    s.bit SHF.COMP_TXMASK k sh = true → s.get UTX.STATE_CARRIER k = 1 →
    ∃ t, exec (.leaseRelease sh m) s = .next t ∧ t.get SHF.LEASE_STATE_HELD sh = 1 ∧
      t.get SHF.LEASE_STATE_OWNER sh = s.get SHF.LEASE_STATE_OWNER sh ∧ t.get SHF.STATUS_RETURNED sh = s.get SHF.STATUS_RETURNED sh ∧
      (t.sheafAt sh).ending = some .release ∧ t.get UTX.STATE_CARRIER k = 1 ∧
      (t.utxAt k).ramp.any (fun r => !r.up) = true) ∧
  (∀ (s : State) (sh : Nat) (m : Master), (m = .coreB ∨ m = .coreP) → s.get SHF.LEASE_STATE_HELD sh = 0 →
    exec (.leaseRelease sh m) s = .next s) ∧
  (∀ (s : State) (sh : Nat) (m : Master), s.mayRelease sh m = false →
    exec (.leaseRelease sh m) s = .next (s.set SHF.STATUS_CMD_ERR 1 sh)) ∧
  (∀ (s : State) (sh : Nat) (how : LeaseEnd), sh < 4 → s.get SHF.LEASE_STATE_HELD sh = 1 → (s.sheafAt sh).ending = some how →
    (∀ c, c < 4 → s.bit SHF.COMP_TXMASK c sh = true → s.get UTX.STATE_CARRIER c = 0) →
    ∃ t, exec (.leaseFreed sh) s = .next t ∧ t.get SHF.LEASE_STATE_HELD sh = 0 ∧ t.get SHF.STATUS_RETURNED sh = 1 ∧
      t.get LSC.STATE_LTYPE (s.get SHF.LEASE_STATE_OWNER sh) = 0 ∧
      (∀ c, c < 4 → s.bit SHF.COMP_TXMASK c sh = true → s.get SHF.COMP_ROLE sh ≠ roleLISTEN → t.get UTX.STATE_LEASED c = 0) ∧
      (s.get SHF.COMP_ROLE sh = roleLISTEN → t.get UTX.STATE_LEASED (s.get SHF.COMP_LO_USED sh) = 0)) ∧
  (∀ (s : State) (sh : Nat), ((s.sheafAt sh).ending = none ∨ s.get SHF.LEASE_STATE_HELD sh = 0) →
    exec (.leaseFreed sh) s = .next s) ∧
  (∀ (s : State) (sh k : Nat), k < 4 → s.bit SHF.COMP_TXMASK k sh = true → s.get UTX.STATE_CARRIER k = 1 → exec (.leaseFreed sh) s = .next s)

/-- ANT_SEL (R159, R160): an antenna changes while its chain has no carrier, by a core where the chain is unleased and by the holder
of its lease where R161 then holds, and the switch settles; else the field keeps its value and CMD_ERR is set. ISO and GEO_DATA
(R162, R168): taken while no sheaf is leased, refused while one is. BW_DATA (R165): a beam word is stored while the sheaf is
unleased and ignored otherwise, or read, with the address moving on, past entry 16 to the next beam. BEAM.SEL (R167): held for the next
window; a beam beyond the set is ignored but for CMD_ERR. Where a clause rests on the model's own choice, that is assumption 15. -/
def Obligations.ApertureWrites : Prop :=
  (∀ (s : State) (m : Master) (v : Nat), (∀ n, n < 4 → s.carrier n = false) → (∀ n, n < 4 → s.chainSheaf n = none) →
    masterIsCore m = true → v < 65536 →
    ∃ t, exec (.antSelWrite m v) s = .next t ∧ t.mem = s.mem ∧ (∀ n, n < 4 → t.antOf n = bits v (4 * n + 3) (4 * n)) ∧
      (∀ n, n < 4 → s.antOf n ≠ bits v (4 * n + 3) (4 * n) →
        (t.utxAt n).antSettling = decide (s.get SHF.ANT_CFG_SETTLE ≠ 0)) ∧
      t.get SHF.GSTATUS_CMD_ERR = s.get SHF.GSTATUS_CMD_ERR) ∧
  (∀ (s : State) (m : Master) (v n : Nat), n < 4 → bits v (4 * n + 3) (4 * n) ≠ s.antOf n →
    (s.carrier n = true ∨ s.antWriter n m = false) →
    ∃ t, exec (.antSelWrite m v) s = .next t ∧ t.antOf n = s.antOf n ∧ t.get SHF.GSTATUS_CMD_ERR = 1 ∧ t.mem = s.mem) ∧
  (∀ (s : State) (sh v n : Nat), n < 4 → s.chainSheaf n = some sh → s.carrier n = false →
    (∀ k, k < 4 → k ≠ n → bits v (4 * k + 3) (4 * k) = s.antOf k) → s.antPairOk n (bits v (4 * n + 3) (4 * n)) = true →
    ∃ t, exec (.antSelWrite (.seq (s.get SHF.LEASE_STATE_OWNER sh)) v) s = .next t ∧ t.antOf n = bits v (4 * n + 3) (4 * n) ∧
      t.get SHF.GSTATUS_CMD_ERR = s.get SHF.GSTATUS_CMD_ERR ∧ t.mem = s.mem) ∧
  (∀ (s : State) (m : Master) (v n : Nat), n < 4 → bits v (4 * n + 3) (4 * n) ≠ s.antOf n →
    (∀ k, k < 4 → k ≠ n → bits v (4 * k + 3) (4 * k) = s.antOf k) → s.antPairOk n (bits v (4 * n + 3) (4 * n)) = false →
    exec (.antSelWrite m v) s = .next (s.set SHF.GSTATUS_CMD_ERR 1)) ∧
  (∀ (s : State) (m : Master) (v : Nat), s.noLease = true →
    exec (.isoWrite m v) s = .next { (s.set SHF.ISO_ADDR (bits v 13 8)).set SHF.ISO_DATA (bits v 7 0) with
      radio.shf.iso := Tab.set 0 s.radio.shf.iso (bits v 13 8) (bits v 7 0) }) ∧
  (∀ (s : State) (m : Master) (v : Nat), s.noLease = true →
    ∃ t, exec (.geoDataWrite m v) s = .next t ∧ t.geoOf (s.get SHF.GEO_ADDR_CHAIN) = (bits v 15 0, bits v 31 16) ∧
      (∀ k, k ≠ s.get SHF.GEO_ADDR_CHAIN → t.geoOf k = s.geoOf k) ∧ t.regs = s.regs ∧ t.mem = s.mem) ∧
  (∀ (s : State) (m : Master) (v : Nat), s.noLease = false →
    exec (.isoWrite m v) s = .next (s.set SHF.GSTATUS_CMD_ERR 1) ∧ exec (.geoDataWrite m v) s = .next (s.set SHF.GSTATUS_CMD_ERR 1)) ∧
  (∀ (s : State) (sh v : Nat), sh < 4 → v < 4294967296 → s.get SHF.LEASE_STATE_HELD sh = 0 →
    ∃ t, exec (.bwDataAccess sh true v) s = .next t ∧
      t.beamWord sh (s.get SHF.BW_ADDR_BEAM sh) (s.get SHF.BW_ADDR_ENTRY sh) = v ∧
      (s.get SHF.BW_ADDR_ENTRY sh < 16 → t.get SHF.BW_ADDR_ENTRY sh = s.get SHF.BW_ADDR_ENTRY sh + 1 ∧
        t.get SHF.BW_ADDR_BEAM sh = s.get SHF.BW_ADDR_BEAM sh) ∧
      (16 ≤ s.get SHF.BW_ADDR_ENTRY sh → t.get SHF.BW_ADDR_ENTRY sh = 0 ∧
        t.get SHF.BW_ADDR_BEAM sh = (s.get SHF.BW_ADDR_BEAM sh + 1) % 16) ∧ t.mem = s.mem) ∧
  (∀ (s : State) (sh v : Nat), s.get SHF.LEASE_STATE_HELD sh = 1 →
    exec (.bwDataAccess sh true v) s = .next ((s.set SHF.STATUS_CMD_ERR 1 sh).bwNext sh)) ∧
  (∀ (s : State) (sh v : Nat), s.get SHF.BW_ADDR_ENTRY sh < 16 →
    exec (.bwDataAccess sh false v) s = .next ((s.set SHF.BW_ADDR_ENTRY (s.get SHF.BW_ADDR_ENTRY sh + 1) sh).respond
      (s.beamWord sh (s.get SHF.BW_ADDR_BEAM sh) (s.get SHF.BW_ADDR_ENTRY sh)) false)) ∧
  (∀ (s : State) (sh v : Nat), 16 ≤ s.get SHF.BW_ADDR_ENTRY sh →
    exec (.bwDataAccess sh false v) s = .next (((s.set SHF.BW_ADDR_ENTRY 0 sh).set SHF.BW_ADDR_BEAM
      (s.get SHF.BW_ADDR_BEAM sh + 1) sh).respond
      (s.beamWord sh (s.get SHF.BW_ADDR_BEAM sh) (s.get SHF.BW_ADDR_ENTRY sh)) false)) ∧
  (∀ (s : State) (sh sel : Nat) (m : Master), sel < s.get SHF.BEAM_NBEAMS sh →
    exec (.beamSelWrite sh m sel) s = .next ((s.set SHF.BEAM_SEL sel sh).setSheaf sh { s.sheafAt sh with beamPending := some sel })) ∧
  (∀ (s : State) (sh sel : Nat) (m : Master), s.get SHF.BEAM_NBEAMS sh ≤ sel →
    exec (.beamSelWrite sh m sel) s = .next (s.set SHF.STATUS_CMD_ERR 1 sh))

/-- BEAR_RDY (R169, R170, R172): the estimate from the phasors and element positions of the usable chains lands, counted, with the
tag of its reply: azimuth, elevation, the count of chains and the flags; phasors all 0 give a result that is open, landing all the
same. With the estimator off or too few usable chains azimuth and elevation are 0x8000 and BEAR_FAIL is set. A result that finds
the one before unread sets BEAR_OVR. Where no result is due nothing happens. Command follow (R174, R175, R177): a command at or above
MIN whose own CRC holds enters FOLLOW, is counted and told to the sequencer; one whose CRC fails, and one that is none of the
commands, counts as an error and changes no state of following; one below MIN leaves its level alone; the loss of a carrier that
has stood at MIN leads from SEARCH or FOLLOW to LOST, its return at MIN + 3 dB to SEARCH. Where a clause rests on the model's own
choice, that is one of assumptions 9, 19 or 51. -/
def Obligations.BearingAndCommandFollow : Prop :=
  (∀ (s : State) (sh tag mask : Nat) (r : Bearing), sh < 4 → tag < 65536 →
    (s.sheafAt sh).bearDue = some (tag, mask) → s.get SHF.BEAR_CFG_EN = 1 → s.bearMin ≤ popcount 16 mask →
    ((setBits 16 mask).map s.bearInput).all (fun e => e.i == 0 && e.q == 0) = false →
    r = bearing ((setBits 16 mask).map s.bearInput) (s.khz (s.get SHF.COMP_LO_USED sh)) (s.get SHF.BEAR_CFG_FOV) →
    ∃ t, exec (.bearRdy sh) s = .next t ∧ t.get SHF.BEAR_AZ sh = unsignedOf 16 r.az ∧ t.get SHF.BEAR_EL sh = unsignedOf 16 r.el ∧
      t.get SHF.BEAR_Q_QUAL sh = qualWord (popcount 16 mask) r.ambig r.edge r.coh % 65536 ∧ t.get SHF.BEAR_Q_SEQ sh = tag ∧
      t.get SHF.STATUS_BEAR_RDY sh = 1 ∧ (s.get SHF.STATUS_BEAR_RDY sh = 1 → t.get SHF.STATUS_BEAR_OVR sh = 1) ∧
      (s.get SHF.CNT_BEAR_COUNT sh < 0xFFFFFFFF → t.get SHF.CNT_BEAR_COUNT sh = s.get SHF.CNT_BEAR_COUNT sh + 1) ∧
      (t.sheafAt sh).bearDue = none) ∧
  (∀ (s : State) (sh tag mask : Nat), sh < 4 → tag < 65536 →
    (s.sheafAt sh).bearDue = some (tag, mask) → s.get SHF.BEAR_CFG_EN = 1 → s.bearMin ≤ popcount 16 mask →
    ((setBits 16 mask).map s.bearInput).all (fun e => e.i == 0 && e.q == 0) = true →
    ∃ t, exec (.bearRdy sh) s = .next t ∧ t.get SHF.BEAR_Q_SEQ sh = tag ∧ t.get SHF.STATUS_BEAR_RDY sh = 1 ∧
      (t.sheafAt sh).bearDue = none) ∧
  (∀ (s : State) (sh tag mask : Nat), sh < 4 → tag < 65536 →
    (s.sheafAt sh).bearDue = some (tag, mask) → (s.get SHF.BEAR_CFG_EN = 0 ∨ popcount 16 mask < s.bearMin) →
    ∃ t, exec (.bearRdy sh) s = .next t ∧ t.get SHF.BEAR_AZ sh = 0x8000 ∧ t.get SHF.BEAR_EL sh = 0x8000 ∧
      t.get SHF.BEAR_Q_QUAL sh = 0 ∧ t.get SHF.BEAR_Q_SEQ sh = tag ∧ t.get SHF.STATUS_BEAR_FAIL sh = 1 ∧
      t.get SHF.STATUS_BEAR_RDY sh = 1 ∧ (t.sheafAt sh).bearDue = none) ∧
  (∀ (s : State) (sh : Nat), (s.sheafAt sh).bearDue = none → exec (.bearRdy sh) s = .next s) ∧
  (∀ (s : State) (sh level : Nat) (b : List Bool), sh < 4 → s.get SHF.LEASE_STATE_HELD sh = 1 →
    (s.get SHF.CF_STATE_STATE sh = 1 ∨ s.get SHF.CF_STATE_STATE sh = 2) →
    sint 16 (s.get SHF.CF_CFG_MIN sh) ≤ sint 16 level → cfCode b ≠ 0 → cfCrcOk b = true →
    ∃ t, exec (.cfCommandParsed sh b level) s = .next t ∧ t.get SHF.CF_STATE_STATE sh = 2 ∧
      t.get SHF.CF_STATE_LEVEL sh = level % 65536 ∧ t.get SHF.CF_STATE_LAST_CMD sh = cfLast (cfCode b) % 256 ∧
      (s.get SHF.CNT_CF_COUNT sh < 0xFFFFFFFF → t.get SHF.CNT_CF_COUNT sh = s.get SHF.CNT_CF_COUNT sh + 1) ∧
      t.bit LSC.EVP_EVP 7 (s.get SHF.LEASE_STATE_OWNER sh) = true ∧ t.mem = s.mem) ∧
  (∀ (s : State) (sh level : Nat) (b : List Bool), sh < 4 → s.get SHF.LEASE_STATE_HELD sh = 1 →
    (s.get SHF.CF_STATE_STATE sh = 1 ∨ s.get SHF.CF_STATE_STATE sh = 2) →
    sint 16 (s.get SHF.CF_CFG_MIN sh) ≤ sint 16 level → cfCode b ≠ 0 → cfCrcOk b = false →
    ∃ t, exec (.cfCommandParsed sh b level) s = .next t ∧ t.get SHF.CF_STATE_STATE sh = s.get SHF.CF_STATE_STATE sh ∧
      t.get SHF.CF_STATE_LEVEL sh = level % 65536 ∧ t.get SHF.STATUS_CF_ERR sh = 1 ∧
      (s.get SHF.CNT_CFERR_COUNT sh < 0xFFFFFFFF → t.get SHF.CNT_CFERR_COUNT sh = s.get SHF.CNT_CFERR_COUNT sh + 1) ∧
      t.get LSC.EVP_EVP = s.get LSC.EVP_EVP ∧ t.mem = s.mem) ∧
  (∀ (s : State) (sh level : Nat) (b : List Bool), sh < 4 → s.get SHF.LEASE_STATE_HELD sh = 1 →
    (s.get SHF.CF_STATE_STATE sh = 1 ∨ s.get SHF.CF_STATE_STATE sh = 2) →
    sint 16 (s.get SHF.CF_CFG_MIN sh) ≤ sint 16 level → cfCode b = 0 →
    ∃ t, exec (.cfCommandParsed sh b level) s = .next t ∧ t.get SHF.CF_STATE_STATE sh = s.get SHF.CF_STATE_STATE sh ∧
      t.get SHF.CF_STATE_LAST_CMD sh = 255 ∧
      (s.get SHF.CNT_CFERR_COUNT sh < 0xFFFFFFFF → t.get SHF.CNT_CFERR_COUNT sh = s.get SHF.CNT_CFERR_COUNT sh + 1) ∧
      t.mem = s.mem) ∧
  (∀ (s : State) (sh level : Nat) (b : List Bool), s.get SHF.LEASE_STATE_HELD sh = 1 →
    (s.get SHF.CF_STATE_STATE sh = 1 ∨ s.get SHF.CF_STATE_STATE sh = 2) →
    sint 16 level < sint 16 (s.get SHF.CF_CFG_MIN sh) →
    exec (.cfCommandParsed sh b level) s = .next (s.set SHF.CF_STATE_LEVEL level sh)) ∧
  (∀ (s : State) (sh level : Nat) (b : List Bool), (s.get SHF.LEASE_STATE_HELD sh = 0 ∨ s.get SHF.CF_STATE_STATE sh = 0 ∨
    s.get SHF.CF_STATE_STATE sh = 3) → exec (.cfCommandParsed sh b level) s = .next s) ∧
  (∀ (s : State) (sh level : Nat),
    (s.get SHF.CF_STATE_STATE sh = 2 ∨ s.get SHF.CF_STATE_STATE sh = 1 ∧ (s.sheafAt sh).cfSeen = true) →
    sint 16 level < sint 16 (s.get SHF.CF_CFG_MIN sh) →
    exec (.cfLost sh level) s = .next (((((s.set SHF.CF_STATE_LEVEL level sh).set SHF.CF_STATE_STATE 3 sh).set
      SHF.STATUS_CF_LOST 1 sh)).setEng sh { s.engAt sh with window := none, preamble := false })) ∧
  (∀ (s : State) (sh level : Nat),
    (s.get SHF.CF_STATE_STATE sh = 0 ∨ s.get SHF.CF_STATE_STATE sh = 3 ∨
      s.get SHF.CF_STATE_STATE sh = 1 ∧ (s.sheafAt sh).cfSeen = false ∨
      sint 16 (s.get SHF.CF_CFG_MIN sh) ≤ sint 16 level) →
    exec (.cfLost sh level) s = .next s) ∧
  (∀ (s : State) (sh level : Nat), sh < 4 → s.get SHF.CF_STATE_STATE sh = 3 →
    sint 16 (s.get SHF.CF_CFG_MIN sh) + 768 ≤ sint 16 level →
    ∃ t, exec (.cfSearch sh level) s = .next t ∧ t.get SHF.CF_STATE_STATE sh = 1 ∧ t.get SHF.CF_STATE_LEVEL sh = level % 65536 ∧
      (t.sheafAt sh).cfSeen = true ∧ t.mem = s.mem ∧ regsSame s t [SHF.CF_STATE_STATE.key sh, SHF.CF_STATE_LEVEL.key sh]) ∧
  (∀ (s : State) (sh level : Nat), (s.get SHF.CF_STATE_STATE sh ≠ 3 ∨
    sint 16 level < sint 16 (s.get SHF.CF_CFG_MIN sh) + 768) → exec (.cfSearch sh level) s = .next s)

/-- Frames (R71, R74, R75, R198): the end of the frame on air tells the sequencer by TXE; a held frame begins when its turnaround or
its 2.0 RTcal hold has passed, and without one the turnaround has expired, or the hold alone ends. Windows and decisions (R76,
R112, R197, R199, R225): receive-ready opens the window of the frame just sent; the preamble is accepted once; a decision closes
the window, numbers the reply, tells the sequencer by RXD and starts the turnaround, an empty one ends without it. Where a
clause rests on the model's own choice, that is one of assumptions 9, 16, 17 or 18. -/
def Obligations.FramesAndWindows : Prop :=
  (∀ (s : State) (sh : Nat) (f : Frame), sh < 4 → (s.engAt sh).sending = some f → s.get SHF.LEASE_STATE_HELD sh = 1 →
    (∀ c, c < 4 → (s.utxAt c).want = none) →
    ∃ t, exec (.frameEnd sh) s = .next t ∧ (t.engAt sh).sending = none ∧
      (t.engAt sh).afterFrame = (if f.reply then some f else none) ∧ (t.engAt sh).minGap = true ∧
      t.bit LSC.EVP_EVP 1 (s.get SHF.LEASE_STATE_OWNER sh) = true ∧ t.mem = s.mem ∧
      (∀ c, c < 4 → c ∈ s.txOf sh → s.get UTX.STATE_STATE c = 4 → t.get UTX.STATE_STATE c = 3)) ∧
  (∀ (s : State) (sh : Nat), (s.engAt sh).taRunning = true → (s.engAt sh).held = none →
    exec (.turnaroundEdge sh) s = .next (s.setEng sh { s.engAt sh with taRunning := false, taExpired := true })) ∧
  (∀ (s : State) (sh c : Nat) (f : Frame), sh < 4 → (s.engAt sh).taRunning = true → (s.engAt sh).held = some (f, .turnaround) →
    c ∈ s.txReady sh →
    ∃ t g, exec (.turnaroundEdge sh) s = .next t ∧ (t.engAt sh).sending = some g ∧ g.cmd = f.cmd ∧ (t.engAt sh).held = none ∧
      (t.engAt sh).taRunning = false ∧ t.get UTX.STATE_STATE c = 4 ∧ t.mem = s.mem) ∧
  (∀ (s : State) (sh : Nat), (s.engAt sh).held = none →
    exec (.frameHoldRelease sh) s = .next (s.setEng sh { s.engAt sh with minGap := false })) ∧
  (∀ (s : State) (sh c : Nat) (f : Frame), sh < 4 → (s.engAt sh).held = some (f, .hold) → c ∈ s.txReady sh →
    ∃ t g, exec (.frameHoldRelease sh) s = .next t ∧ (t.engAt sh).sending = some g ∧ g.cmd = f.cmd ∧ (t.engAt sh).held = none ∧
      t.get UTX.STATE_STATE c = 4 ∧ t.mem = s.mem) ∧
  (∀ (s : State) (sh c : Nat) (f : Frame), sh < 4 → (s.engAt sh).afterFrame = some f → c ∈ s.txOf sh → s.carrier c = true →
    s.get UTX.STATE_STATE c = 3 → (s.utxAt c).ramp = none → (∀ k, k < 4 → (s.utxAt k).want = none) →
    ∃ t, exec (.receiveReady sh) s = .next t ∧ (t.engAt sh).window = some f ∧ (t.engAt sh).preamble = false ∧
      t.get UTX.STATE_STATE c = 5 ∧ t.mem = s.mem) ∧
  (∀ (s : State) (sh : Nat) (f : Frame), (s.engAt sh).window = some f → (s.engAt sh).preamble = false →
    ∃ t, exec (.preambleDetect sh) s = .next t ∧ (t.engAt sh).preamble = true ∧ (t.engAt sh).window = some f ∧ t.regs = s.regs ∧
      t.mem = s.mem) ∧
  (∀ (s : State) (sh : Nat) (f : Frame) (ev : ReplyEvidence), sh < 4 → (s.engAt sh).window = some f → (s.engAt sh).preamble = true →
    s.get LSC.CNT_RXD_COUNT (s.get SHF.LEASE_STATE_OWNER sh) < 0xFFFFFFFF →
    ∃ t, exec (.replyDecision sh ev) s = .next t ∧ (t.engAt sh).window = none ∧
      (t.engAt sh).taRunning = (s.get SHF.COMP_ROLE sh != roleLISTEN) ∧
      t.get URX.REPLY_SEQ_SEQ = (s.get URX.REPLY_SEQ_SEQ + 1) % 65536 ∧
      t.bit LSC.EVP_EVP 0 (s.get SHF.LEASE_STATE_OWNER sh) = true ∧
      t.get LSC.CNT_RXD_COUNT (s.get SHF.LEASE_STATE_OWNER sh) = s.get LSC.CNT_RXD_COUNT (s.get SHF.LEASE_STATE_OWNER sh) + 1) ∧
  (∀ (s : State) (sh : Nat) (f : Frame) (ev : ReplyEvidence), sh < 4 → (s.engAt sh).window = some f → (s.engAt sh).preamble = false →
    s.get LSC.CNT_RXD_COUNT (s.get SHF.LEASE_STATE_OWNER sh) < 0xFFFFFFFF →
    ∃ t, exec (.emptyDecision sh ev) s = .next t ∧ (t.engAt sh).window = none ∧ (t.engAt sh).taRunning = false ∧
      t.get WNW.DEC_CLASS sh = 0 ∧ t.get WNW.DEC_CAPT sh = 0 ∧
      t.get URX.REPLY_SEQ_SEQ = (s.get URX.REPLY_SEQ_SEQ + 1) % 65536 ∧
      t.bit LSC.EVP_EVP 0 (s.get SHF.LEASE_STATE_OWNER sh) = true ∧
      (t.seqAt (s.get SHF.LEASE_STATE_OWNER sh)).rxstat / 65536 = 0)

/-- Sequencer commands (R209, R210, R218, R233): START and IDLE take a STOPPED sequencer whose image passes the load checks to RUN
at PC_INIT and to IDLE, and a failing image leaves it STOPPED with LOADERR and the check's number; STOP ends in STOPPED from IDLE,
RUN and WAIT and leaves STOPPED and FAULT alone; RESET ends in STOPPED, registers and event latch cleared, from every state; a sheaf lease held then
ends; the group forms do the same to every masked sequencer and leave the others; a doorbell latches DBL. Waits and push buffers
(R219, R221, R227): a masked event ends the wait with WHY and T clear; the bound ends it with T set; in the cycle of expiry the
event wins; the oldest block of the push buffer whose turn it is lands whole in its queue, one whose turn it is not stays. Where a
clause rests on the model's own choice, that is one of assumptions 40 or 53. -/
def Obligations.SequencersAndPushBuffers : Prop :=
  (∀ (s : State) (n : Nat) (m : Master), n < 16 → s.get LSC.STATE_STATE n = 0 → s.loadCheck n = 0 →
    ∃ t, exec (.seqStart n m) s = .next t ∧ t.get LSC.STATE_STATE n = 2 ∧ t.get LSC.STATE_PCW n = s.get LSC.PC_INIT_WADDR n ∧
      t.get LSC.DIAG_LOAD n = 0 ∧ t.mem = s.mem) ∧
  (∀ (s : State) (n : Nat) (m : Master), n < 16 → s.get LSC.STATE_STATE n = 0 → s.loadCheck n = 0 →
    ∃ t, exec (.seqIdle n m) s = .next t ∧ t.get LSC.STATE_STATE n = 1 ∧ t.get LSC.STATE_PCW n = s.get LSC.STATE_PCW n ∧
      t.mem = s.mem) ∧
  (∀ (s : State) (n : Nat) (m : Master), s.get LSC.STATE_STATE n = 0 → s.loadCheck n ≠ 0 →
    exec (.seqStart n m) s = .next ((s.set LSC.DIAG_LOAD (s.loadCheck n) n).set LSC.STATUS_LOADERR 1 n) ∧
    exec (.seqIdle n m) s = .next ((s.set LSC.DIAG_LOAD (s.loadCheck n) n).set LSC.STATUS_LOADERR 1 n)) ∧
  (∀ (s : State) (n : Nat) (m : Master), s.get LSC.STATE_STATE n ≠ 0 →
    exec (.seqStart n m) s = .next s ∧ exec (.seqIdle n m) s = .next s) ∧
  (∀ (s : State) (n : Nat) (m : Master), n < 16 → s.seqBound n = false →
    (s.get LSC.STATE_STATE n = 1 ∨ s.get LSC.STATE_STATE n = 2 ∨ s.get LSC.STATE_STATE n = 3) →
    exec (.seqStop n m) s = .next ((s.setOps n { s.opsAt n with wait := none }).set LSC.STATE_STATE 0 n)) ∧
  (∀ (s : State) (n : Nat) (m : Master), (s.get LSC.STATE_STATE n = 0 ∨ s.get LSC.STATE_STATE n = 4) →
    exec (.seqStop n m) s = .next s) ∧
  (∀ (s : State) (n sh : Nat) (m : Master), n < 16 → s.seqSheaf n = some sh → s.holdsHfr n = false → s.holdsHft n = false →
    (s.get LSC.STATE_STATE n = 1 ∨ s.get LSC.STATE_STATE n = 2 ∨ s.get LSC.STATE_STATE n = 3) →
    ∃ t, exec (.seqStop n m) s = .next t ∧ t.get LSC.STATE_STATE n = 0 ∧ (t.opsAt n).wait = none ∧ (t.get SHF.LEASE_STATE_HELD sh = 0 ∨ (t.sheafAt sh).ending = some .release) ∧ t.mem = s.mem) ∧
  (∀ (s : State) (n : Nat) (m : Master), n < 16 →
    ∃ t, exec (.seqReset n m) s = .next t ∧ t.get LSC.STATE_STATE n = 0 ∧ t.get LSC.EVP_EVP n = 0 ∧
      t.get LSC.STATE_PCW n = s.get LSC.PC_INIT_WADDR n % 8192 ∧ (∀ d, Tab.get 0 (t.seqAt n).g d = 0) ∧
      (t.seqAt n).stack = [] ∧ t.get LSC.STATE_FLAGS n = 0 ∧ t.mem = s.mem) ∧
  (∀ (s : State) (m : Master) (mask : Nat),
    ∃ t, exec (.gcmdStop m mask) s = .next t ∧ t.mem = s.mem ∧
      (∀ n, n < 16 → bitOf mask n = true → s.get LSC.STATE_STATE n < 4 → t.get LSC.STATE_STATE n = 0) ∧
      (∀ n, n < 16 → (bitOf mask n = false ∨ 4 ≤ s.get LSC.STATE_STATE n) → t.get LSC.STATE_STATE n = s.get LSC.STATE_STATE n)) ∧
  (∀ (s : State) (m : Master) (mask : Nat),
    ∃ t, exec (.gcmdStart m mask) s = .next t ∧ t.mem = s.mem ∧
      (∀ n, n < 16 → bitOf mask n = true → s.get LSC.STATE_STATE n = 0 → s.loadCheck n = 0 →
        t.get LSC.STATE_STATE n = 2 ∧ t.get LSC.STATE_PCW n = s.get LSC.PC_INIT_WADDR n) ∧
      (∀ n, n < 16 → bitOf mask n = true → s.get LSC.STATE_STATE n = 0 → s.loadCheck n ≠ 0 →
        t.get LSC.STATE_STATE n = 0 ∧ t.get LSC.STATUS_LOADERR n = 1 ∧ t.get LSC.DIAG_LOAD n = s.loadCheck n % 16) ∧
      (∀ n, n < 16 → (bitOf mask n = false ∨ s.get LSC.STATE_STATE n ≠ 0) →
        t.get LSC.STATE_STATE n = s.get LSC.STATE_STATE n)) ∧
  (∀ (s : State) (n : Nat) (m : Master), exec (.doorbell n m) s = .next (s.setBit LSC.EVP_EVP 9 true n)) ∧
  (∀ (s : State) (n : Nat) (w : WaitRec), n < 16 → s.get LSC.STATE_STATE n = 3 → (s.opsAt n).wait = some w → s.waitBits n w.mask ≠ 0 →
    ∃ t, exec (.waitEventEnd n) s = .next t ∧ t.get LSC.STATE_STATE n = 2 ∧ (t.seqAt n).why = s.waitBits n w.mask ∧
      t.flag n flT = false ∧ (t.opsAt n).wait = none ∧
      t.get LSC.EVP_EVP n = s.get LSC.EVP_EVP n - s.waitBits n w.mask ∧ t.mem = s.mem) ∧
  (∀ (s : State) (n : Nat) (w : WaitRec), n < 16 → s.get LSC.STATE_STATE n = 3 → (s.opsAt n).wait = some w → s.waitBits n w.mask = 0 →
    exec (.waitEventEnd n) s = .next s) ∧
  (∀ (s : State) (n : Nat), (s.get LSC.STATE_STATE n ≠ 3 ∨ (s.opsAt n).wait = none) →
    exec (.waitEventEnd n) s = .next s ∧ exec (.waitExpiry n) s = .next s) ∧
  (∀ (s : State) (n : Nat) (w : WaitRec), n < 16 → s.get LSC.STATE_STATE n = 3 → (s.opsAt n).wait = some w → s.waitBits n w.mask = 0 →
    ∃ t, exec (.waitExpiry n) s = .next t ∧ t.get LSC.STATE_STATE n = 2 ∧ (t.seqAt n).why = 0 ∧ t.flag n flT = true ∧
      t.flag n flF = false ∧ t.get LSC.STATUS_TMO n = 1 ∧
      (s.get LSC.CNT_TMO_COUNT n < 0xFFFFFFFF → t.get LSC.CNT_TMO_COUNT n = s.get LSC.CNT_TMO_COUNT n + 1) ∧
      (t.opsAt n).wait = none ∧ t.mem = s.mem) ∧
  (∀ (s : State) (n : Nat) (w : WaitRec), n < 16 → s.get LSC.STATE_STATE n = 3 → (s.opsAt n).wait = some w → s.waitBits n w.mask ≠ 0 →
    exec (.waitExpiry n) s = exec (.waitEventEnd n) s) ∧
  (∀ (s : State) (n : Nat) (b : PushBlock) (r : List PushBlock), n < 16 → b.queue < 16 → (s.opsAt n).push = b :: r →
    s.drainNext = some n →
    ∃ t, exec (.pushDrain n) s = .next t ∧ t.queWords b.queue = s.queWords b.queue ++ b.words ∧ (t.opsAt n).push = r ∧
      t.get QUE.LEVEL_RSV b.queue = s.get QUE.LEVEL_RSV b.queue - b.words.length ∧ t.mem = s.mem) ∧
  (∀ (s : State) (n : Nat), ((s.opsAt n).push = [] ∨ s.drainNext ≠ some n) → exec (.pushDrain n) s = .next s)

/-! ### The LSI instruction set (R211 to R227) -/

/-- Addition, subtraction, comparison and multiplication (R211, R215) for every register and immediate: the result modulo 2^32, C
the carry out of an addition and no borrow of a subtraction, kept by the others; a comparison writes no register. Logic, shifts
and fields (R211, R215): immediates are zero-extended in the logic forms; a shift takes its count modulo 32, C the last bit
shifted out, kept for a count of 0. NOP, LUI and CLZ (R215): NOP changes the program counter alone; LUI writes the immediate at
bit 14 and no flag; CLZ counts the leading zeros and sets Z alone. -/
def Obligations.LsiArithmeticAndLogic : Prop :=
  (∀ (s : State) (n d a b imm : Nat), s.seqRuns n = true →
    (∃ t, exec (.lsiAdd n d a b) s = .next t ∧
      aluDone s t n d ((s.greg n a + s.greg n b) % 2 ^ 32) (decide (2 ^ 32 ≤ s.greg n a + s.greg n b))) ∧
    (∃ t, exec (.lsiSub n d a b) s = .next t ∧
      aluDone s t n d (sub32 (s.greg n a) (s.greg n b)) (decide (s.greg n b ≤ s.greg n a))) ∧
    (∃ t, exec (.lsiAddi n d a imm) s = .next t ∧
      aluDone s t n d ((s.greg n a + sext18 imm) % 2 ^ 32) (decide (2 ^ 32 ≤ s.greg n a + sext18 imm))) ∧
    (∃ t, exec (.lsiCmp n a b) s = .next t ∧
      aluDone s t n 0 (sub32 (s.greg n a) (s.greg n b)) (decide (s.greg n b ≤ s.greg n a))) ∧
    (∃ t, exec (.lsiCmpi n a imm) s = .next t ∧
      aluDone s t n 0 (sub32 (s.greg n a) (sext18 imm)) (decide (sext18 imm ≤ s.greg n a))) ∧
    (∃ t, exec (.lsiMul n d a b) s = .next t ∧
      aluDone s t n d (s.greg n a * s.greg n b % 2 ^ 32) (s.flag n flC)) ∧
    (∃ t, exec (.lsiMinu n d a b) s = .next t ∧
      aluDone s t n d (min (s.greg n a) (s.greg n b) % 2 ^ 32) (s.flag n flC)) ∧
    (∃ t, exec (.lsiMaxu n d a b) s = .next t ∧
      aluDone s t n d (max (s.greg n a) (s.greg n b) % 2 ^ 32) (s.flag n flC))) ∧
  (∀ (s : State) (n d a b imm pos len : Nat), s.seqRuns n = true →
    (∃ t, exec (.lsiAnd n d a b) s = .next t ∧
      aluDone s t n d (Nat.land (s.greg n a) (s.greg n b) % 2 ^ 32) (s.flag n flC)) ∧
    (∃ t, exec (.lsiOr n d a b) s = .next t ∧
      aluDone s t n d (Nat.lor (s.greg n a) (s.greg n b) % 2 ^ 32) (s.flag n flC)) ∧
    (∃ t, exec (.lsiXor n d a b) s = .next t ∧
      aluDone s t n d (Nat.xor (s.greg n a) (s.greg n b) % 2 ^ 32) (s.flag n flC)) ∧
    (∃ t, exec (.lsiAndi n d a imm) s = .next t ∧
      aluDone s t n d (Nat.land (s.greg n a) (imm % 262144) % 2 ^ 32) (s.flag n flC)) ∧
    (∃ t, exec (.lsiOri n d a imm) s = .next t ∧
      aluDone s t n d (Nat.lor (s.greg n a) (imm % 262144) % 2 ^ 32) (s.flag n flC)) ∧
    (∃ t, exec (.lsiXori n d a imm) s = .next t ∧
      aluDone s t n d (Nat.xor (s.greg n a) (imm % 262144) % 2 ^ 32) (s.flag n flC)) ∧
    (∃ t, exec (.lsiShl n d a b) s = .next t ∧
      aluDone s t n d (s.greg n a * 2 ^ (s.greg n b % 32) % 2 ^ 32)
        (if s.greg n b % 32 = 0 then s.flag n flC else bitOf (s.greg n a) (32 - s.greg n b % 32))) ∧
    (∃ t, exec (.lsiShr n d a b) s = .next t ∧
      aluDone s t n d (s.greg n a / 2 ^ (s.greg n b % 32) % 2 ^ 32)
        (if s.greg n b % 32 = 0 then s.flag n flC else bitOf (s.greg n a) (s.greg n b % 32 - 1))) ∧
    (∃ t, exec (.lsiShli n d a imm) s = .next t ∧
      aluDone s t n d (s.greg n a * 2 ^ (imm % 32) % 2 ^ 32)
        (if imm % 32 = 0 then s.flag n flC else bitOf (s.greg n a) (32 - imm % 32))) ∧
    (∃ t, exec (.lsiShri n d a imm) s = .next t ∧
      aluDone s t n d (s.greg n a / 2 ^ (imm % 32) % 2 ^ 32)
        (if imm % 32 = 0 then s.flag n flC else bitOf (s.greg n a) (imm % 32 - 1))) ∧
    (∃ t, exec (.lsiExt n d a pos len) s = .next t ∧
      aluDone s t n d (s.greg n a / 2 ^ (pos % 32) % 2 ^ len % 2 ^ 32) (s.flag n flC))) ∧
  (∀ (s : State) (n d a imm : Nat), s.seqRuns n = true →
    exec (.lsiNop n) s = .next (s.set LSC.STATE_PCW (s.get LSC.STATE_PCW n + 1) n) ∧
    (∃ t, exec (.lsiLui n d imm) s = .next t ∧ t.greg n d = (if d % 16 = 0 then 0 else imm % 262144 * 16384) ∧
      t.get LSC.STATE_PCW n = (s.get LSC.STATE_PCW n + 1) % 8192 ∧ seqFrame s t n d [LSC.STATE_PCW.key n]) ∧
    (∃ t k, exec (.lsiClz n d a) s = .next t ∧ k ≤ 32 ∧ (∀ i, i < k → bitOf (s.greg n a) (31 - i) = false) ∧
      (k < 32 → bitOf (s.greg n a) (31 - k) = true) ∧ t.greg n d = (if d % 16 = 0 then 0 else k) ∧
      t.flag n flZ = decide (k = 0) ∧ t.flag n flN = s.flag n flN ∧ t.flag n flC = s.flag n flC ∧
      t.get LSC.STATE_PCW n = (s.get LSC.STATE_PCW n + 1) % 8192 ∧
      seqFrame s t n d [LSC.STATE_PCW.key n, LSC.STATE_FLAGS.key n]))

/-- Loads (R212, R215): at an aligned address within the memory, whose word is sound, GD takes the bytes there, little-endian and
zero-extended, no flag changes, and nothing else does. Stores (R212, R215): the low bytes of GD go to the effective address,
little-endian; every other byte of memory, every register but the program counter, the queues and every general register stay.
Where a clause rests on the model's own choice, that is assumption 53. -/
def Obligations.LsiLoadsAndStores : Prop :=
  (∀ (s : State) (n d a imm : Nat), s.seqRuns n = true → s.seqEa n a imm ≤ 0x7FFF → s.parBad n (s.seqEa n a imm) = false →
    (s.seqEa n a imm % 4 = 0 → ∃ t, exec (.lsiLdw n d a imm) s = .next t ∧
      t.greg n d = (if d % 16 = 0 then 0 else ofLe (s.rdBytes (seqBase n + s.seqEa n a imm) 4)) ∧
      t.get LSC.STATE_PCW n = (s.get LSC.STATE_PCW n + 1) % 8192 ∧ seqFrame s t n d [LSC.STATE_PCW.key n]) ∧
    (s.seqEa n a imm % 2 = 0 → ∃ t, exec (.lsiLdh n d a imm) s = .next t ∧
      t.greg n d = (if d % 16 = 0 then 0 else ofLe (s.rdBytes (seqBase n + s.seqEa n a imm) 2)) ∧
      t.get LSC.STATE_PCW n = (s.get LSC.STATE_PCW n + 1) % 8192 ∧ seqFrame s t n d [LSC.STATE_PCW.key n]) ∧
    (∃ t, exec (.lsiLdb n d a imm) s = .next t ∧
      t.greg n d = (if d % 16 = 0 then 0 else s.rd8 (seqBase n + s.seqEa n a imm)) ∧
      t.get LSC.STATE_PCW n = (s.get LSC.STATE_PCW n + 1) % 8192 ∧ seqFrame s t n d [LSC.STATE_PCW.key n])) ∧
  (∀ (s : State) (n d a imm : Nat), s.seqRuns n = true → s.seqEa n a imm ≤ 0x7FFF →
    (s.seqEa n a imm % 4 = 0 → ∃ t, exec (.lsiStw n d a imm) s = .next t ∧
      t.rdBytes (seqBase n + s.seqEa n a imm) 4 = toLe 4 (s.greg n d) ∧ memSame s t (seqBase n + s.seqEa n a imm) 4 ∧
      t.get LSC.STATE_PCW n = (s.get LSC.STATE_PCW n + 1) % 8192 ∧ regsSame s t [LSC.STATE_PCW.key n] ∧ t.que = s.que ∧
      t.objs = s.objs ∧ (∀ m, t.seqAt m = s.seqAt m) ∧ t.radio.seqOps = s.radio.seqOps) ∧
    (s.seqEa n a imm % 2 = 0 → ∃ t, exec (.lsiSth n d a imm) s = .next t ∧
      t.rdBytes (seqBase n + s.seqEa n a imm) 2 = toLe 2 (s.greg n d) ∧ memSame s t (seqBase n + s.seqEa n a imm) 2 ∧
      t.get LSC.STATE_PCW n = (s.get LSC.STATE_PCW n + 1) % 8192 ∧ regsSame s t [LSC.STATE_PCW.key n] ∧ t.que = s.que ∧
      t.objs = s.objs ∧ (∀ m, t.seqAt m = s.seqAt m) ∧ t.radio.seqOps = s.radio.seqOps) ∧
    (∃ t, exec (.lsiStb n d a imm) s = .next t ∧
      t.rd8 (seqBase n + s.seqEa n a imm) = s.greg n d % 256 ∧ memSame s t (seqBase n + s.seqEa n a imm) 1 ∧
      t.get LSC.STATE_PCW n = (s.get LSC.STATE_PCW n + 1) % 8192 ∧ regsSame s t [LSC.STATE_PCW.key n] ∧ t.que = s.que ∧
      t.objs = s.objs ∧ (∀ m, t.seqAt m = s.seqAt m) ∧ t.radio.seqOps = s.radio.seqOps))

/-- Where a sequencer faults (R212, R217, R222, R231): a word that is no instruction and the illegal forms of BR and RDPOS with
code 1, a misaligned access with 2, one outside the memory with 3, a RET on an empty stack and a CALL on a full one with 4, an
unlisted special register, and a write to a read-only one or of a bad RXB, with 5, the port's absent block with 6, a parity error
on the fetch or on a load with 7. The fault leaves it in FAULT with code and program counter kept, and its memory keeps its
bytes; the next cycle of time ends in STOPPED. Flow (R215, R216): every condition of BR on its flags; DBNZ on the decremented GD,
G0 reading 0; CALL and RET on the stack; JR; EVT; HALT and DONE, which end the sheaf lease that is held. Where a clause rests on
the model's own choice, that is one of assumptions 40, 53 or 54. -/
def Obligations.LsiFlowAndFaults : Prop :=
  (∀ (s : State) (n d a imm w tgt k q cnt : Nat), n < 16 → s.seqRuns n = true →
    let stops := fun (c : Instr) (code : Nat) => ∃ t, exec c s = .next t ∧ t.get LSC.STATE_STATE n = 4 ∧
      t.get LSC.FAULT_CODE n = code ∧ t.get LSC.FAULT_PCW n = s.get LSC.STATE_PCW n % 8192 ∧ t.get LSC.STATUS_FAULT n = 1 ∧
      (∀ x, x < 0x28000000 → t.rd8 x = s.rd8 x)
    (lsiDecode n w = none → stops (.lsiIllegal n w) 1) ∧ (12 < k → stops (.lsiBr n k tgt) 1) ∧
    (d % 16 = 15 → stops (.lsiRdpos n d) 1) ∧
    (0x7FFF < s.seqEa n a imm → stops (.lsiLdw n d a imm) 3 ∧ stops (.lsiLdh n d a imm) 3 ∧ stops (.lsiLdb n d a imm) 3 ∧
      stops (.lsiStw n d a imm) 3 ∧ stops (.lsiSth n d a imm) 3 ∧ stops (.lsiStb n d a imm) 3) ∧
    (s.seqEa n a imm ≤ 0x7FFF → s.seqEa n a imm % 4 ≠ 0 → stops (.lsiLdw n d a imm) 2 ∧ stops (.lsiStw n d a imm) 2) ∧
    (s.seqEa n a imm ≤ 0x7FFF → s.seqEa n a imm % 2 ≠ 0 → stops (.lsiLdh n d a imm) 2 ∧ stops (.lsiSth n d a imm) 2) ∧
    (s.seqEa n a imm ≤ 0x7FFF → s.parBad n (s.seqEa n a imm) = true → stops (.lsiLdb n d a imm) 7) ∧
    (0x8000 < s.greg n a + 4 * cnt → stops (.lsiPushb n a q cnt) 3) ∧
    (s.greg n a + 4 * cnt ≤ 0x8000 → s.greg n a % 4 ≠ 0 → stops (.lsiPushb n a q cnt) 2) ∧
    ((s.seqAt n).recBank.length = 64 → 0x7FC0 < s.greg n a → stops (.lsiStrec n a) 3) ∧
    ((s.seqAt n).stack = [] → stops (.lsiRet n) 4) ∧ (8 ≤ (s.seqAt n).stack.length → stops (.lsiCall n tgt) 4) ∧
    (0x13 < k → stops (.lsiRds n d k) 5) ∧ (k ∉ [0x06, 0x0A, 0x0C, 0x0F] → stops (.lsiWrs n d k) 5) ∧
    ((s.greg n d % 4 ≠ 0 ∨ 0x7DFC < s.greg n d) → stops (.lsiWrs n d 0x0A) 5) ∧
    stops (.lsiPld n d a 7 imm) 6 ∧ stops (.lsiPst n d a 7 imm) 6 ∧
    (k < 7 → 0x10000 ≤ s.portEa n a imm → stops (.lsiPld n d a k imm) 3 ∧ stops (.lsiPst n d a k imm) 3) ∧
    (k < 7 → s.portEa n a imm < 0x10000 → s.portEa n a imm % 4 ≠ 0 → stops (.lsiPld n d a k imm) 2 ∧ stops (.lsiPst n d a k imm) 2)) ∧
  (∀ (s : State) (n : Nat), n < 16 → s.get LSC.STATE_STATE n = 2 → s.parBad n (4 * s.get LSC.STATE_PCW n) = true →
    ∃ t, exec (.lsiNop n) s = .next t ∧ t.get LSC.STATE_STATE n = 4 ∧ t.get LSC.FAULT_CODE n = 7 ∧
      t.get LSC.FAULT_PCW n = s.get LSC.STATE_PCW n % 8192) ∧
  (∀ (s : State) (n : Nat), n < 16 → s.Inv → s.pending = [] → s.get LSC.STATE_STATE n = 4 →
    ∃ t, step s = .next t ∧ t.get LSC.STATE_STATE n = 0) ∧
  (∀ (s : State) (n w : Nat), lsiDecode n w ≠ none → exec (.lsiIllegal n w) s = .next s) ∧
  (∀ (s : State) (n d a e tgt : Nat), n < 16 → s.seqRuns n = true →
    (∀ cond, cond ≤ 12 → exec (.lsiBr n cond tgt) s = .next (s.set LSC.STATE_PCW
      (if [true, s.flag n flZ, !s.flag n flZ, s.flag n flC, !s.flag n flC, s.flag n flN, !s.flag n flN, s.flag n flT, !s.flag n flT,
        s.flag n flF, !s.flag n flF, s.flag n flC && !s.flag n flZ, !s.flag n flC || s.flag n flZ].getD cond false
        then tgt else s.get LSC.STATE_PCW n + 1) n)) ∧
    (d % 16 ≠ 0 → ∃ t, exec (.lsiDbnz n d tgt) s = .next t ∧ t.greg n d = sub32 (s.greg n d) 1 ∧
      t.get LSC.STATE_PCW n = (if sub32 (s.greg n d) 1 = 0 then s.get LSC.STATE_PCW n + 1 else tgt) % 8192 ∧
      seqFrame s t n d [LSC.STATE_PCW.key n]) ∧
    (d % 16 = 0 → exec (.lsiDbnz n d tgt) s = .next (s.set LSC.STATE_PCW (s.get LSC.STATE_PCW n + 1) n)) ∧
    ((s.seqAt n).stack.length < 8 → exec (.lsiCall n tgt) s = .next (((s.setSeq n { s.seqAt n with
      stack := (s.get LSC.STATE_PCW n + 1) % 8192 :: (s.seqAt n).stack }).set LSC.STATE_DEPTH ((s.seqAt n).stack.length + 1) n).set
      LSC.STATE_PCW tgt n)) ∧
    (∀ r l, (s.seqAt n).stack = r :: l → exec (.lsiRet n) s = .next (((s.setSeq n { s.seqAt n with stack := l }).set
      LSC.STATE_DEPTH l.length n).set LSC.STATE_PCW r n)) ∧
    exec (.lsiJr n a) s = .next (s.set LSC.STATE_PCW (s.greg n a / 4) n) ∧
    exec (.lsiEvt n e) s = .next ((s.set LSC.STATE_PCW (s.get LSC.STATE_PCW n + 1) n).setBit LSC.STATUS_EVT (e % 8) true n) ∧
    (s.seqBound n = false → exec (.lsiHalt n) s = .next (((s.set LSC.STATE_PCW (s.get LSC.STATE_PCW n + 1) n).set
      LSC.STATE_STATE 0 n).set LSC.STATUS_HALTED 1 n) ∧
      exec (.lsiDone n) s = .next ((s.set LSC.STATE_PCW (s.get LSC.STATE_PCW n + 1) n).set LSC.STATE_STATE 1 n)) ∧
    (∀ sh, s.seqSheaf n = some sh → s.holdsHfr n = false → s.holdsHft n = false →
      (∃ t, exec (.lsiHalt n) s = .next t ∧ t.get LSC.STATE_STATE n = 0 ∧ t.get LSC.STATUS_HALTED n = 1 ∧ (t.get SHF.LEASE_STATE_HELD sh = 0 ∨ (t.sheafAt sh).ending = some .release)) ∧
      (∃ t, exec (.lsiDone n) s = .next t ∧ t.get LSC.STATE_STATE n = 1 ∧ (t.get SHF.LEASE_STATE_HELD sh = 0 ∨ (t.sheafAt sh).ending = some .release))))

/-- Special registers, position and events (R60, R213, R219): what RDS reads, of every register; what WRS writes to each that is RW;
RDPOS gives angle and cycle in two registers; CLREV clears the masked events alone. The private port (R16, R222): PLD reads a
register's word and PST writes one, F clear; a write that an ownership rule makes its target ignore sets F, ERR = 24 and
PORT_DENY. WAIT and WAITR (R219, R220): a masked event that is there ends the wait at once; a bound of 0, and one in au while the
ATB is OFF, expires at once, setting T; otherwise the sequencer waits with its mask, unit and bound. Where a clause rests on the
model's own choice, that is assumption 40. -/
def Obligations.LsiSpecialsPortAndWaits : Prop :=
  (∀ (s : State) (n d m : Nat), n < 16 → s.seqRuns n = true →
    (∀ k v, (k, v) ∈ [(0x00, (s.seqAt n).ctx0), (0x01, (s.seqAt n).ctx1), (0x02, (s.seqAt n).ctx2), (0x03, (s.seqAt n).ctx3),
      (0x04, s.get LSC.EVP_EVP n), (0x05, (s.seqAt n).why), (0x07, s.get LSC.DIAG_ERR n), (0x08, (s.seqAt n).rxstat),
      (0x09, (s.seqAt n).rxrn), (0x0A, (s.seqAt n).rxb), (0x0C, (s.seqAt n).recFlags), (0x0E, s.get LSC.MBOX_IN_DATA n),
      (0x0F, s.get LSC.MBOX_OUT_DATA n), (0x10, (s.seqAt n).cfcmd), (0x12, (s.seqAt n).dects), (0x13, n),
      (0x06, 16 * b2n (s.flag n flF) + 8 * b2n (s.flag n flT) + 4 * b2n (s.flag n flC) + 2 * b2n (s.flag n flN) + b2n (s.flag n flZ)),
      (0x0B, 65536 * (s.seqAt n).nfmt + (s.seqAt n).fmtBase), (0x11, s.dsp),
      (0x0D, 2 * b2n (!(s.seqAt n).recCont.isEmpty) + b2n (!(s.seqAt n).recBank.isEmpty))] →
      ∃ t, exec (.lsiRds n d k) s = .next t ∧ t.greg n d = (if d % 16 = 0 then 0 else v % 2 ^ 32) ∧
        t.get LSC.STATE_PCW n = (s.get LSC.STATE_PCW n + 1) % 8192 ∧ seqFrame s t n d [LSC.STATE_PCW.key n]) ∧
    (∃ t, exec (.lsiWrs n d 0x06) s = .next t ∧ t.flag n flF = bitOf (s.greg n d) 4 ∧ t.flag n flT = bitOf (s.greg n d) 3 ∧
      t.flag n flC = bitOf (s.greg n d) 2 ∧ t.flag n flN = bitOf (s.greg n d) 1 ∧ t.flag n flZ = bitOf (s.greg n d) 0 ∧
      t.get LSC.STATE_PCW n = (s.get LSC.STATE_PCW n + 1) % 8192 ∧ t.mem = s.mem ∧ t.seqAt n = s.seqAt n ∧
      regsSame s t [LSC.STATE_PCW.key n, LSC.STATE_FLAGS.key n]) ∧
    exec (.lsiWrs n d 0x0C) s = .next ((s.setSeq n { s.seqAt n with recFlags := s.greg n d % 65536 }).set LSC.STATE_PCW
      (s.get LSC.STATE_PCW n + 1) n) ∧
    exec (.lsiWrs n d 0x0F) s = .next ((s.set LSC.MBOX_OUT_DATA (s.greg n d) n).set LSC.STATE_PCW (s.get LSC.STATE_PCW n + 1) n) ∧
    (s.greg n d % 4 = 0 → s.greg n d ≤ 0x7DFC → exec (.lsiWrs n d 0x0A) s = .next ((s.setSeq n { s.seqAt n with
      rxb := s.greg n d }).set LSC.STATE_PCW (s.get LSC.STATE_PCW n + 1) n)) ∧
    (d % 16 ≠ 0 → d % 16 ≠ 15 → ∃ t, exec (.lsiRdpos n d) s = .next t ∧ t.greg n d = s.atb.angle % 2 ^ 32 ∧
      t.greg n (d + 1) = s.atb.cycle % 2 ^ 32 ∧ t.mem = s.mem ∧ regsSame s t [LSC.STATE_PCW.key n]) ∧
    exec (.lsiClrev n m) s = .next ((s.set LSC.STATE_PCW (s.get LSC.STATE_PCW n + 1) n).set LSC.EVP_EVP
      (s.get LSC.EVP_EVP n - Nat.land (s.get LSC.EVP_EVP n) (m % 1024)) n)) ∧
  (∀ (s : State) (n d k : Nat), n < 16 → k < 4 → s.seqRuns n = true →
    (∃ t, exec (.lsiPld n d 0 1 (RFS.FREQ_KHZ.at k % 65536)) s = .next t ∧
      t.greg n d = (if d % 16 = 0 then 0 else (s.get RFS.FREQ_KHZ k + 2 ^ 20 * s.get RFS.FREQ_CHAN k) % 2 ^ 32) ∧
      t.flag n flF = false ∧ seqFrame s t n d [LSC.STATE_PCW.key n, LSC.STATE_FLAGS.key n]) ∧
    (∀ q, q < 16 → ∃ t, exec (.lsiPst n d 0 5 (QUE.WM_WM.at q % 65536)) s = .next t ∧
      t.get QUE.WM_WM q = s.greg n d % 2 ^ QUE.WM_WM.width ∧ t.flag n flF = false ∧
      regsSame s t [LSC.STATE_PCW.key n, LSC.STATE_FLAGS.key n, QUE.WM_WM.key q] ∧ t.mem = s.mem) ∧
    (s.ownerOk (s.chainSheaf k) (.seq n) = false → ∃ t, exec (.lsiPst n d 0 0 (UTX.PWR_IDX.at k % 65536)) s = .next t ∧
      t.get UTX.PWR_IDX k = s.get UTX.PWR_IDX k ∧ t.flag n flF = true ∧ t.get LSC.DIAG_ERR n = 24 ∧
      t.get LSC.STATUS_PORT_DENY n = 1 ∧ t.get UTX.STATE_LAST_ERR k = 2)) ∧
  (∀ (s : State) (n mask unit cnt b : Nat), n < 16 → s.seqRuns n = true →
    (s.waitBits n (mask % 1024) = 0 → cnt % 16384 ≠ 0 → (unit % 4 ≠ 2 ∨ s.get ATB.STATE_STATE ≠ 0) →
      exec (.lsiWait n mask unit cnt) s = .next (((s.set LSC.STATE_PCW (s.get LSC.STATE_PCW n + 1) n).setOps n { s.opsAt n with
        wait := some { mask := mask % 1024, unit := unit % 4, bound := cnt % 16384 } }).set LSC.STATE_STATE 3 n)) ∧
    (s.waitBits n (mask % 1024) = 0 → s.greg n b ≠ 0 →
      exec (.lsiWaitr n mask b) s = .next (((s.set LSC.STATE_PCW (s.get LSC.STATE_PCW n + 1) n).setOps n { s.opsAt n with
        wait := some { mask := mask % 1024, unit := 0, bound := s.greg n b } }).set LSC.STATE_STATE 3 n)) ∧
    (s.waitBits n (mask % 1024) ≠ 0 → ∀ c ∈ [Instr.lsiWait n mask unit cnt, Instr.lsiWaitr n mask b],
      ∃ t, exec c s = .next t ∧ t.get LSC.STATE_STATE n = 2 ∧ (t.seqAt n).why = s.waitBits n (mask % 1024) ∧
        t.flag n flT = false ∧ t.mem = s.mem) ∧
    (s.waitBits n (mask % 1024) = 0 → (cnt % 16384 = 0 ∨ unit % 4 = 2 ∧ s.get ATB.STATE_STATE = 0) →
      ∃ t, exec (.lsiWait n mask unit cnt) s = .next t ∧
        t.get LSC.STATE_STATE n = 2 ∧ (t.seqAt n).why = 0 ∧ t.flag n flT = true ∧ t.flag n flF = false ∧ t.mem = s.mem) ∧
    (s.waitBits n (mask % 1024) = 0 → s.greg n b = 0 → ∃ t, exec (.lsiWaitr n mask b) s = .next t ∧
      t.get LSC.STATE_STATE n = 2 ∧ (t.seqAt n).why = 0 ∧ t.flag n flT = true ∧ t.flag n flF = false ∧ t.mem = s.mem))

/-- RQS, LOCK and TXF (R218, R223, R224): a chain asked for a lower state answers RDY at once, one outside TXMASK with NOT_OWNER and
a reserved code with BAD_STATE; LOCK writes the word and begins the search of the leased synthesizer, hinted or full; a sound frame
waits for the running turnaround, or begins; one that LISTEN, a frame under way, its index, its operands or the chains' states do not
allow sets F with ERR 17, 18, 19, 20 or 1 and is not sent; without a lease each sets F with ERR = 16 alone, and while a cut runs with 25.
Queues and records (R226, R227, R449): PUSH, PUSHB and PUSHREC reserve a block all or none, F and QFULL without room; POP takes
the head, F with 0 on an empty queue; PUSHREC takes the bank with its continuation and clears VALID; STREC stores both with the
CRC-32C; without a record each sets F with ERR = 21. Where a clause rests on the model's own choice, that is one of assumptions
16 or 40. -/
def Obligations.LsiRadioAndQueues : Prop :=
  (∀ (s : State) (n sh c : Nat), n < 16 → sh < 4 → c < 4 → s.seqRuns n = true → s.get LSC.STATE_LTYPE n = sh + 1 → s.seqSheaf n = some sh → (s.opsAt n).cutting = false →
    s.get SHF.COMP_ROLE sh ≠ roleLISTEN → s.bit SHF.COMP_TXMASK c sh = true →
    s.chainSheaf c = some sh → s.get UTX.STATE_STATE c = 2 → s.carrier c = false →
    (s.utxAt c).ramp = none → (s.synthAt (s.loOf c)).relock = false →
    ∃ t, exec (.lsiRqs n (2 ^ c) 2) s = .next t ∧ t.get UTX.STATE_STATE c = 1 ∧ t.bit LSC.EVP_EVP 2 n = true ∧
      (t.opsAt n).rqs = none ∧ t.flag n flF = false ∧ t.mem = s.mem) ∧
  (∀ (s : State) (n sh c req : Nat), n < 16 → sh < 4 → c < 4 → s.seqRuns n = true → s.get LSC.STATE_LTYPE n = sh + 1 → s.seqSheaf n = some sh → (s.opsAt n).cutting = false →
    (s.get SHF.COMP_ROLE sh ≠ roleLISTEN ∨ req ≠ 4) → (s.bit SHF.COMP_TXMASK c sh = false ∨ req = 0 ∨ 5 < req) →
    ∃ t, exec (.lsiRqs n (2 ^ c) req) s = .next t ∧ t.get UTX.STATE_STATE c = s.get UTX.STATE_STATE c ∧
      t.bit LSC.EVP_EVP 2 n = true ∧ (t.opsAt n).rqs = none ∧
      (t.opsAt n).rqsErr = (if s.bit SHF.COMP_TXMASK c sh then 1 else 2) ∧ t.flag n flF = false ∧ t.mem = s.mem) ∧
  (∀ (s : State) (n sh lo a full : Nat), n < 16 → sh < 4 → lo < 4 → s.seqRuns n = true → s.get LSC.STATE_LTYPE n = sh + 1 → s.seqSheaf n = some sh → (s.opsAt n).cutting = false →
    s.get SHF.COMP_LO_USED sh = lo → s.get UTX.CTRL_LO_SRC lo = lo →
    (s.sst lo = 1 ∨ s.sst lo = 4) → (s.synthAt lo).bootFull = none →
    (∀ c, c < 4 → s.carrier c = false) → 840000 ≤ bits (s.greg n a) 19 0 → bits (s.greg n a) 19 0 ≤ 960000 →
    ∃ t, exec (.lsiLock n a full) s = .next t ∧ t.get RFS.STATE_STATE lo = 2 ∧ t.get RFS.FREQ_KHZ lo = bits (s.greg n a) 19 0 ∧
      t.get RFS.FREQ_CHAN lo = bits (s.greg n a) 25 20 ∧ (full = 1 → t.get RFS.STATE_HINT_USED lo = 0) ∧ t.flag n flF = false ∧
      (t.opsAt n).lockPending = true ∧ t.mem = s.mem) ∧
  (∀ (s : State) (n sh fidx : Nat), n < 16 → sh < 4 → fidx < 64 → s.seqRuns n = true → s.get LSC.STATE_LTYPE n = sh + 1 → s.seqSheaf n = some sh → (s.opsAt n).cutting = false →
    s.get SHF.COMP_ROLE sh ≠ roleLISTEN → (s.engAt sh).sending = none → (s.engAt sh).held = none →
    (s.seqAt n).fmtBase ≠ 0 → fidx < (s.seqAt n).nfmt →
    operandBad (s.frameEntry n fidx) ((List.range 4).map fun k => Tab.get 0 (s.seqAt n).g (12 + k)) = false →
    s.txReady sh ≠ [] → (∀ c ∈ s.txReady sh, s.get UTX.MOD_CFG_MODE c ≠ 3) →
    (∀ c ∈ s.txReady sh, s.shapeLen (s.get UTX.MOD_CFG_SHAPE c) = 0) →
    ((s.engAt sh).taRunning = true → ∃ t f, exec (.lsiTxf n fidx) s = .next t ∧ (t.engAt sh).held = some (f, .turnaround) ∧
      t.flag n flF = false ∧ t.mem = s.mem) ∧
    ((s.engAt sh).taRunning = false → (s.engAt sh).taExpired = false → (s.engAt sh).minGap = false →
      ∃ t f, exec (.lsiTxf n fidx) s = .next t ∧ (t.engAt sh).sending = some f ∧ f.seq = n ∧ t.flag n flF = false ∧
        (∀ c ∈ s.txReady sh, t.get UTX.STATE_STATE c = 4) ∧ t.mem = s.mem)) ∧
  (∀ (s : State) (n sh fidx : Nat), n < 16 → sh < 4 → fidx < 64 → s.seqRuns n = true → s.get LSC.STATE_LTYPE n = sh + 1 → s.seqSheaf n = some sh → (s.opsAt n).cutting = false →
    (s.get SHF.COMP_ROLE sh = roleLISTEN → (∃ t, exec (.lsiTxf n fidx) s = .next t ∧ t.flag n flF = true ∧ t.get LSC.DIAG_ERR n = 17 ∧ t.mem = s.mem)) ∧
    (s.get SHF.COMP_ROLE sh ≠ roleLISTEN → ((s.engAt sh).sending ≠ none ∨ (s.engAt sh).held ≠ none) → (∃ t, exec (.lsiTxf n fidx) s = .next t ∧ t.flag n flF = true ∧ t.get LSC.DIAG_ERR n = 18 ∧ t.mem = s.mem)) ∧
    (s.get SHF.COMP_ROLE sh ≠ roleLISTEN → (s.engAt sh).sending = none → (s.engAt sh).held = none →
      (((s.seqAt n).fmtBase = 0 ∨ (s.seqAt n).nfmt ≤ fidx) → (∃ t, exec (.lsiTxf n fidx) s = .next t ∧ t.flag n flF = true ∧ t.get LSC.DIAG_ERR n = 19 ∧ t.mem = s.mem)) ∧
      ((s.seqAt n).fmtBase ≠ 0 → fidx < (s.seqAt n).nfmt →
        (operandBad (s.frameEntry n fidx) ((List.range 4).map fun k => Tab.get 0 (s.seqAt n).g (12 + k)) = true →
          (∃ t, exec (.lsiTxf n fidx) s = .next t ∧ t.flag n flF = true ∧ t.get LSC.DIAG_ERR n = 20 ∧ t.mem = s.mem)) ∧
        (operandBad (s.frameEntry n fidx) ((List.range 4).map fun k => Tab.get 0 (s.seqAt n).g (12 + k)) = false →
          s.txReady sh = [] → (∃ t, exec (.lsiTxf n fidx) s = .next t ∧ t.flag n flF = true ∧ t.get LSC.DIAG_ERR n = 1 ∧ t.mem = s.mem))))) ∧
  (∀ (s : State) (n c r a full fidx : Nat), s.seqRuns n = true → (s.get LSC.STATE_LTYPE n = 0 ∨ (s.opsAt n).cutting = true) →
    let e := ((s.set LSC.STATE_PCW (s.get LSC.STATE_PCW n + 1) n).setFlag n flF true).set LSC.DIAG_ERR
      (if s.get LSC.STATE_LTYPE n = 0 then 16 else 25) n
    exec (.lsiRqs n c r) s = .next e ∧ exec (.lsiLock n a full) s = .next e ∧ exec (.lsiTxf n fidx) s = .next e) ∧
  (∀ (s : State) (n a q : Nat), n < 16 → q < 16 → s.seqRuns n = true → 1 ≤ s.queRoom q → s.pushHeld n < 32 →
    s.get QUE.LEVEL_RSV q < 8191 →
    ∃ t, exec (.lsiPush n a q) s = .next t ∧ (t.opsAt n).push = (s.opsAt n).push ++ [{ queue := q, words := [s.greg n a] }] ∧
      t.get QUE.LEVEL_RSV q = s.get QUE.LEVEL_RSV q + 1 ∧ t.flag n flF = false ∧ t.que = s.que ∧ t.mem = s.mem) ∧
  (∀ (s : State) (n a q cnt : Nat), n < 16 → q < 16 → s.seqRuns n = true → 1 ≤ cnt → s.greg n a % 4 = 0 →
    s.greg n a + 4 * cnt ≤ 0x8000 → (s.queRoom q = 0 ∨ 32 ≤ s.pushHeld n) → ∀ c ∈ [Instr.lsiPush n a q, Instr.lsiPushb n a q cnt],
    ∃ t, exec c s = .next t ∧ t.radio.seqOps = s.radio.seqOps ∧ t.flag n flF = true ∧ t.get LSC.DIAG_ERR n = 22 ∧
      t.get LSC.STATUS_QFULL n = 1 ∧ t.que = s.que ∧ t.mem = s.mem) ∧
  (∀ (s : State) (n a q cnt : Nat), n < 16 → q < 16 → cnt ≤ 32 → s.seqRuns n = true → s.greg n a % 4 = 0 →
    s.greg n a + 4 * cnt ≤ 0x8000 → cnt ≤ s.queRoom q → s.pushHeld n + cnt ≤ 32 →
    ∃ t, exec (.lsiPushb n a q cnt) s = .next t ∧ (t.opsAt n).push = (s.opsAt n).push ++
      [{ queue := q, words := (List.range cnt).map fun i => s.rd32 (seqBase n + s.greg n a + 4 * i) }] ∧
      t.flag n flF = false ∧ t.que = s.que ∧ t.mem = s.mem) ∧
  (∀ (s : State) (n d q w : Nat) (r : List Nat), n < 16 → q < 16 → w < 4294967296 → s.seqRuns n = true →
    s.queWords q = w :: r →
    ∃ t, exec (.lsiPop n d q) s = .next t ∧ t.greg n d = (if d % 16 = 0 then 0 else w) ∧ t.queWords q = r ∧
      t.flag n flF = false ∧ t.mem = s.mem) ∧
  (∀ (s : State) (n d q : Nat), n < 16 → q < 16 → s.seqRuns n = true → s.queWords q = [] →
    ∃ t, exec (.lsiPop n d q) s = .next t ∧ t.greg n d = 0 ∧ t.flag n flF = true ∧ t.get LSC.DIAG_ERR n = 23 ∧
      t.get QUE.STATUS_UNF q = 1 ∧ t.mem = s.mem) ∧
  (∀ (s : State) (n q k : Nat), n < 16 → q < 16 → s.seqRuns n = true → (s.seqAt n).recBank.length = 64 →
    ((s.seqAt n).recCont = [] ∧ k = 16 ∨ (s.seqAt n).recCont.length = 64 ∧ k = 32) → k ≤ s.queRoom q → s.pushHeld n + k ≤ 32 →
    ∃ t, exec (.lsiPushrec n q) s = .next t ∧ (t.opsAt n).push = (s.opsAt n).push ++
      [{ queue := q, words := (List.range k).map fun i => le32 (s.recBytes n) (4 * i) }] ∧
      (t.seqAt n).recBank = [] ∧ (t.seqAt n).recCont = [] ∧ t.flag n flF = false ∧ t.mem = s.mem) ∧
  (∀ (s : State) (n a k : Nat), n < 16 → s.seqRuns n = true → (s.seqAt n).recBank.length = 64 →
    ((s.seqAt n).recCont = [] ∧ k = 64 ∨ (s.seqAt n).recCont.length = 64 ∧ k = 128) →
    s.greg n a % 4 = 0 → s.greg n a + k ≤ 0x8000 →
    ∃ t, exec (.lsiStrec n a) s = .next t ∧ memSame s t (seqBase n + s.greg n a) k ∧
      t.rd32 (seqBase n + s.greg n a + 60) = crc32c ((s.seqAt n).recBank.take 60) % 2 ^ 32 ∧
      (k = 128 → t.rd32 (seqBase n + s.greg n a + 124) = crc32c ((s.seqAt n).recCont.take 60) % 2 ^ 32) ∧ t.seqAt n = s.seqAt n ∧
      t.flag n flF = false) ∧
  (∀ (s : State) (n a q : Nat), n < 16 → s.seqRuns n = true → (s.seqAt n).recBank = [] → (s.seqAt n).recCont = [] →
    ∀ c ∈ [Instr.lsiPushrec n q, Instr.lsiStrec n a], (∃ t, exec (c) s = .next t ∧ t.flag n flF = true ∧ t.get LSC.DIAG_ERR n = 21 ∧ t.mem = s.mem))

/-! ### The HF reader, the Gleaner and the tag (R274 to R333) -/

/-- HF leases (R228, R229, R300, CTRL.EN): a GO that no check refuses takes the reader or the tag for the sequencer; an IDLE sequencer
enters RUN at the entry's word with no event pending, any other gets the event LSE. A refused one changes REFUSE alone beside the fields
written: 11 where the HFR domain is off or, for the reader, CTRL.EN is 0; else 1 where the target is leased; else 3 where the
sequencer is stopped, in FAULT or bound already. A release frees the sequencer; of the reader it closes an open window with HERR
FIELD_OFF and ramps the field down where it stands, and a target not leased keeps everything. FT_DATA and the self-field guard (R281,
R283, R312): a word of the HF frame table is written or read and WADDR moves on; under the lease a write is ignored but for
CMD_ERR; with the field gone the guard's release runs the recovery pass and starts an enabled tag in IDLE where a field is present.
Where a clause rests on the model's own choice, that is one of assumptions 21 or 41. -/
def Obligations.HfLeasesTableAndGuard : Prop :=
  (∀ (s : State) (m : Master) (seq entry : Nat), seq < 16 → entry < 8192 → s.bit PWR.STATE_DOM 1 = true → s.get HFR.CTRL_EN ≠ 0 →
    s.get LSC.HF_STATE_HFR_HELD = 0 → s.get LSC.STATE_STATE seq ≠ seqSTOPPED → s.get LSC.STATE_STATE seq ≠ seqFAULT → s.seqBound seq = false →
    ∃ t, exec (.hfLeaseGo m 0 seq entry) s = .next t ∧ t.get LSC.HF_STATE_HFR_HELD = 1 ∧ t.get LSC.HF_STATE_HFR_OWNER = seq ∧
      t.get LSC.STATE_LTYPE seq = 5 ∧
      (s.get LSC.STATE_STATE seq = seqIDLE → t.get LSC.STATE_STATE seq = seqRUN ∧ t.get LSC.STATE_PCW seq = entry ∧ t.get LSC.EVP_EVP seq = 0) ∧
      (s.get LSC.STATE_STATE seq ≠ seqIDLE → t.bit LSC.EVP_EVP evLSE seq = true) ∧ t.mem = s.mem ∧
      regsSame s t [LSC.HF_CMD_TARGET.key 0, LSC.HF_CMD_SEQ.key 0, LSC.HF_CMD_ENTRY.key 0, LSC.HF_STATE_HFR_HELD.key 0,
        LSC.HF_STATE_HFR_OWNER.key 0, LSC.STATE_LTYPE.key seq, LSC.EVP_EVP.key seq, LSC.STATE_PCW.key seq, LSC.STATE_STATE.key seq] ∧
      (s.get LSC.STATE_STATE seq ≠ seqIDLE → t.get LSC.STATE_STATE seq = s.get LSC.STATE_STATE seq ∧
        t.get LSC.STATE_PCW seq = s.get LSC.STATE_PCW seq)) ∧
  (∀ (s : State) (m : Master) (seq entry : Nat), seq < 16 → entry < 8192 → s.bit PWR.STATE_DOM 1 = true →
    s.get LSC.HF_STATE_HFT_HELD = 0 → s.get LSC.STATE_STATE seq ≠ seqSTOPPED → s.get LSC.STATE_STATE seq ≠ seqFAULT → s.seqBound seq = false →
    ∃ t, exec (.hfLeaseGo m 1 seq entry) s = .next t ∧ t.get LSC.HF_STATE_HFT_HELD = 1 ∧ t.get LSC.HF_STATE_HFT_OWNER = seq ∧
      t.get LSC.STATE_LTYPE seq = 6 ∧
      (s.get LSC.STATE_STATE seq = seqIDLE → t.get LSC.STATE_STATE seq = seqRUN ∧ t.get LSC.STATE_PCW seq = entry ∧ t.get LSC.EVP_EVP seq = 0) ∧
      (s.get LSC.STATE_STATE seq ≠ seqIDLE → t.bit LSC.EVP_EVP evLSE seq = true) ∧ t.mem = s.mem ∧
      regsSame s t [LSC.HF_CMD_TARGET.key 0, LSC.HF_CMD_SEQ.key 0, LSC.HF_CMD_ENTRY.key 0, LSC.HF_STATE_HFT_HELD.key 0,
        LSC.HF_STATE_HFT_OWNER.key 0, LSC.STATE_LTYPE.key seq, LSC.EVP_EVP.key seq, LSC.STATE_PCW.key seq, LSC.STATE_STATE.key seq] ∧
      (s.get LSC.STATE_STATE seq ≠ seqIDLE → t.get LSC.STATE_STATE seq = s.get LSC.STATE_STATE seq ∧
        t.get LSC.STATE_PCW seq = s.get LSC.STATE_PCW seq)) ∧
  (∀ (s : State) (m : Master) (target seq entry : Nat), target < 2 → seq < 16 → entry < 8192 →
    (s.bit PWR.STATE_DOM 1 = false ∨ target = 0 ∧ s.get HFR.CTRL_EN = 0) →
    exec (.hfLeaseGo m target seq entry) s = .next ((((s.set LSC.HF_CMD_TARGET target).set LSC.HF_CMD_SEQ seq).set
      LSC.HF_CMD_ENTRY entry).set LSC.HF_STATE_REFUSE 11)) ∧
  (∀ (s : State) (m : Master) (target seq entry : Nat), target < 2 → seq < 16 → entry < 8192 → s.bit PWR.STATE_DOM 1 = true →
    (target = 0 ∧ s.get HFR.CTRL_EN ≠ 0 ∧ s.get LSC.HF_STATE_HFR_HELD ≠ 0 ∨ target = 1 ∧ s.get LSC.HF_STATE_HFT_HELD ≠ 0) →
    exec (.hfLeaseGo m target seq entry) s = .next ((((s.set LSC.HF_CMD_TARGET target).set LSC.HF_CMD_SEQ seq).set
      LSC.HF_CMD_ENTRY entry).set LSC.HF_STATE_REFUSE 1)) ∧
  (∀ (s : State) (m : Master) (target seq entry : Nat), target < 2 → seq < 16 → entry < 8192 → s.bit PWR.STATE_DOM 1 = true →
    (target = 0 ∧ s.get HFR.CTRL_EN ≠ 0 ∧ s.get LSC.HF_STATE_HFR_HELD = 0 ∨ target = 1 ∧ s.get LSC.HF_STATE_HFT_HELD = 0) →
    (s.get LSC.STATE_STATE seq = seqSTOPPED ∨ s.get LSC.STATE_STATE seq = seqFAULT ∨ s.seqBound seq = true) →
    exec (.hfLeaseGo m target seq entry) s = .next ((((s.set LSC.HF_CMD_TARGET target).set LSC.HF_CMD_SEQ seq).set
      LSC.HF_CMD_ENTRY entry).set LSC.HF_STATE_REFUSE 3)) ∧
  (∀ (s : State) (m : Master), s.get LSC.HF_STATE_HFT_HELD ≠ 0 →
    exec (.hfLeaseRelease m 1) s = .next (((s.set LSC.HF_STATE_HFT_HELD 0).set LSC.HF_STATE_HFT_OWNER 0).seqFree
      (s.get LSC.HF_STATE_HFT_OWNER))) ∧
  (∀ (s : State) (m : Master), s.get LSC.HF_STATE_HFT_HELD = 0 → exec (.hfLeaseRelease m 1) s = .next s) ∧
  (∀ (s : State) (m : Master), s.get LSC.HF_STATE_HFR_HELD = 0 → exec (.hfLeaseRelease m 0) s = .next s) ∧
  (∀ (s : State) (m : Master), s.get LSC.HF_STATE_HFR_HELD ≠ 0 → s.get LSC.HF_STATE_HFR_OWNER < 16 → 3 ≤ s.hst → s.hfr.window = none →
    ∃ t, exec (.hfLeaseRelease m 0) s = .next t ∧ t.get LSC.HF_STATE_HFR_HELD = 0 ∧
      t.get LSC.STATE_LTYPE (s.get LSC.HF_STATE_HFR_OWNER) = 0 ∧ t.hfr.want = some 2 ∧ t.hfr.step = some 2 ∧ t.hfr.sending = none ∧
      t.hfr.held = none ∧ t.hst = (if s.hst = txMOD then txCW else s.hst) ∧ t.get HFR.STATE_FIELD = s.get HFR.STATE_FIELD ∧ t.mem = s.mem) ∧
  (∀ (s : State) (m : Master) (f : HfFrame), s.get LSC.HF_STATE_HFR_HELD ≠ 0 → s.get LSC.HF_STATE_HFR_OWNER < 16 → s.hst = txLISTEN →
    s.hfr.window = some f → f.seq < 16 →
    ∃ t, exec (.hfLeaseRelease m 0) s = .next t ∧ t.get LSC.HF_STATE_HFR_HELD = 0 ∧
      t.get LSC.STATE_LTYPE (s.get LSC.HF_STATE_HFR_OWNER) = 0 ∧ t.hfr.want = some 2 ∧ t.hfr.step = some 2 ∧ t.hfr.window = none ∧
      t.hst = txCW ∧ (t.seqAt f.seq).rxstat / 536870912 = 6 ∧ t.bit LSC.EVP_EVP evRXD f.seq = true ∧ t.get HFR.STATUS_FRAME_ERR = 1) ∧
  (∀ (s : State) (m : Master), s.get LSC.HF_STATE_HFR_HELD ≠ 0 → s.get LSC.HF_STATE_HFR_OWNER < 16 → s.hst < 3 → s.hfr.window = none →
    ∃ t, exec (.hfLeaseRelease m 0) s = .next t ∧ t.get LSC.HF_STATE_HFR_HELD = 0 ∧
      t.get LSC.STATE_LTYPE (s.get LSC.HF_STATE_HFR_OWNER) = 0 ∧ t.hst = s.hst ∧ t.mem = s.mem ∧
      (s.hfr.step ≠ some 3 → t.hfr.want = none ∧ t.hfr.step = s.hfr.step) ∧
      (s.hfr.step = some 3 → s.hst = 2 → t.hfr.want = none ∧ t.hfr.step = none)) ∧
  (∀ (s : State) (v : Nat), s.get LSC.HF_STATE_HFR_HELD = 0 →
    exec (.ftDataAccess true v) s = .next { (s.set HFR.FT_ADDR_WADDR (s.get HFR.FT_ADDR_WADDR + 1)) with
      hfr := { s.hfr with table := Tab.set 0 s.hfr.table (s.get HFR.FT_ADDR_WADDR) (v % 4294967296) } }) ∧
  (∀ (s : State) (v : Nat), s.get LSC.HF_STATE_HFR_HELD ≠ 0 →
    exec (.ftDataAccess true v) s = .next ((s.set HFR.FT_ADDR_WADDR (s.get HFR.FT_ADDR_WADDR + 1)).set HFR.STATUS_CMD_ERR 1)) ∧
  (∀ (s : State) (v : Nat), exec (.ftDataAccess false v) s =
    .next ((s.set HFR.FT_ADDR_WADDR (s.get HFR.FT_ADDR_WADDR + 1)).respond (Tab.get 0 s.hfr.table (s.get HFR.FT_ADDR_WADDR)) false)) ∧
  (∀ s : State, s.get HFT.STATE_GUARD ≠ 0 → s.hst < 3 →
    ∃ t, exec .tagGuardRelease s = .next t ∧ t.get HFT.STATE_GUARD = 0 ∧ t.mem = s.mem ∧
      (s.get HFT.STATE_FIELD ≠ 0 → s.get HFT.CTRL_EN ≠ 0 → t.get HFT.STATE_TSTATE = tgIDLE) ∧
      (s.get HFT.STATE_FIELD = 0 ∨ s.get HFT.CTRL_EN = 0 →
        t = (s.set HFT.STATE_GUARD 0).recoveryPass ∧ t.get HFT.STATE_TSTATE = s.get HFT.STATE_TSTATE)) ∧
  (∀ s : State, (3 ≤ s.hst ∨ s.get HFT.STATE_GUARD = 0) → exec .tagGuardRelease s = .next s)

/-- The reader's field states (R69, R279, R281, R282): each step reached moves STATE by one towards the state requested, with SYN_LOCK
from READY up; reaching CW takes up LEVEL, DEPTH and OFS_HZ and guards the commissioning tag; the state requested ends the request
and answers a waiting RQS; without the 5.0 V rail the first step fails with SUPPLY_NOT_READY. The frame's end opens a window where
the entry expects a reply, else the reader is in CW. A synthesizer that does not lock answers code 3; a driver fault drops the field
to OFF with code 9 and closes an open window with HERR FIELD_OFF. With nothing under way the events do nothing. The reader's windows
(R286 to R292): a held frame begins, with its bits and framing, once its minimum has passed. A reply that collides where collisions
are detected is CLASS 2, with COLLPOS at its first collided bit; any other is CLASS 1, with CRC_OK where the CRC holds or none is
checked; both count, wake the sequencer with RXD and close the window. An S(WTX) request below WTX_MAX keeps the window open to be
answered; one beyond it is HERR WTX_LIMIT. An expired wait is EMPTY, with HERR CEILING where the ceiling shortened it. The S(WTX)
response echoes the request, extends the wait and is counted. With no window open they do nothing. Where a clause rests on the model's
own choice, that is one of assumptions 9, 16, 41 or 55. -/
def Obligations.HfFieldAndWindows : Prop :=
  (∀ (s : State) (r : Bool) (k : Nat), k < 3 → s.hfr.step = some k → (k = 1 → s.hst = 0 → r = true) →
    ∃ t, exec (.hfStateDone r) s = .next t ∧ t.hst = k ∧ t.get HFR.STATE_SYN_LOCK = (if k = 2 then 1 else 0) ∧
      t.get HFR.STATE_FIELD = (if k = 2 then 0 else s.get HFR.STATE_FIELD) ∧ t.mem = s.mem ∧
      t.hfr.want = (if s.hfr.want = some k then none else s.hfr.want) ∧
      (∀ w, s.hfr.want = some w → t.hfr.step = (if w = k then none else some (if k < w then k + 1 else k - 1))) ∧
      (s.hfr.want = none → t.hfr.step = none) ∧
      (s.hfr.want = some k → s.get LSC.HF_STATE_HFR_HELD ≠ 0 → (s.opsAt (s.get LSC.HF_STATE_HFR_OWNER)).rqs = some { mask := 1 } →
        t.bit LSC.EVP_EVP evRDY (s.get LSC.HF_STATE_HFR_OWNER) = true) ∧
      regsSame s t [HFR.STATE_STATE.key 0, HFR.STATE_SYN_LOCK.key 0, HFR.STATE_FIELD.key 0,
        LSC.EVP_EVP.key (s.get LSC.HF_STATE_HFR_OWNER)]) ∧
  (∀ s : State, s.hfr.step = some 1 → s.hst = 0 →
    ∃ t, exec (.hfStateDone false) s = .next t ∧ t.hst = 0 ∧ t.get HFR.STATE_LAST_ERR = 4 ∧ t.hfr.step = none ∧ t.hfr.want = none ∧
      t.mem = s.mem ∧ regsSame s t [HFR.STATE_LAST_ERR.key 0, LSC.EVP_EVP.key (s.get LSC.HF_STATE_HFR_OWNER)]) ∧
  (∀ (s : State) (r : Bool), s.hfr.step = some 3 → s.hfr.window = none →
    ∃ t, exec (.hfStateDone r) s = .next t ∧ t.hst = 3 ∧ t.get HFR.STATE_FIELD = 1 ∧ t.get HFT.STATE_GUARD = 1 ∧
      (s.get HFT.STATE_GUARD = 0 → t.get HFT.STATE_TSTATE = tgNO_FIELD) ∧
      (s.hfr.want = some 3 → t.hfr.step = none ∧ t.hfr.want = none) ∧ (s.hfr.want = some 2 → t.hfr.step = some 2) ∧
      t.hfr.levelNow = s.get HFR.DRV_LEVEL ∧ t.hfr.depthNow = min 25 (s.get HFR.DRV_DEPTH) ∧
      t.hfr.ofsNow = unsignedOf 16 (max (-7000) (min 7000 (sint 16 (s.get HFR.SYN_OFS_HZ)))) ∧ t.mem = s.mem) ∧
  (∀ (s : State) (r : Bool) (f : HfFrame), s.hfr.step = none → s.hfr.sending = some f → (s.hfr.want = none ∨ s.hfr.want = some 3) → f.seq < 16 →
    ∃ t, exec (.hfStateDone r) s = .next t ∧ t.hfr.sending = none ∧ t.bit LSC.EVP_EVP evTXE f.seq = true ∧
      t.hst = (if heReply f.entry then txLISTEN else txCW) ∧ t.hfr.window = (if heReply f.entry then some f else none) ∧
      t.hfr.want = (if heReply f.entry then s.hfr.want else none) ∧ t.hfr.waitCyc = heWait f ∧
      t.mem = s.mem ∧ regsSame s t [HFR.STATE_STATE.key 0, LSC.EVP_EVP.key f.seq, LSC.EVP_EVP.key (s.get LSC.HF_STATE_HFR_OWNER)]) ∧
  (∀ (s : State) (r : Bool), s.hfr.step = none → s.hfr.sending = none → exec (.hfStateDone r) s = .next s) ∧
  (∀ s : State, s.hfr.step = some 2 → s.hst = 1 →
    ∃ t, exec .hfSynthTimeout s = .next t ∧ t.hfr.step = none ∧ t.hfr.want = none ∧ t.get HFR.STATE_LAST_ERR = 3 ∧ t.mem = s.mem ∧
      (s.get LSC.HF_STATE_HFR_HELD ≠ 0 → (s.opsAt (s.get LSC.HF_STATE_HFR_OWNER)).rqs ≠ none →
        t.bit LSC.EVP_EVP evRDY (s.get LSC.HF_STATE_HFR_OWNER) = true ∧ (t.opsAt (s.get LSC.HF_STATE_HFR_OWNER)).rqs = none ∧
        (t.opsAt (s.get LSC.HF_STATE_HFR_OWNER)).rqsErr = 3) ∧
      regsSame s t [HFR.STATE_LAST_ERR.key 0, LSC.EVP_EVP.key (s.get LSC.HF_STATE_HFR_OWNER)]) ∧
  (∀ s : State, (s.hfr.step ≠ some 2 ∨ s.hst ≠ 1) → exec .hfSynthTimeout s = .next s) ∧
  (∀ s : State, (3 ≤ s.hst ∨ s.get HFR.STATE_FIELD ≠ 0) → s.hfr.window = none →
    ∃ t, exec .drvFault s = .next t ∧ t.hst = 0 ∧ t.get HFR.STATE_FIELD = 0 ∧ t.get HFR.STATE_SYN_LOCK = 0 ∧
      t.get HFR.STATUS_DRV_FAULT = 1 ∧ t.get HFR.STATE_LAST_ERR = 9 ∧ t.hfr.want = none ∧ t.hfr.step = none ∧ t.hfr.sending = none ∧
      t.hfr.held = none ∧ t.mem = s.mem ∧
      regsSame s t [HFR.STATE_STATE.key 0, HFR.STATE_FIELD.key 0, HFR.STATE_SYN_LOCK.key 0, HFR.STATUS_DRV_FAULT.key 0,
        HFR.STATE_LAST_ERR.key 0, LSC.EVP_EVP.key (s.get LSC.HF_STATE_HFR_OWNER)]) ∧
  (∀ (s : State) (f : HfFrame), (3 ≤ s.hst ∨ s.get HFR.STATE_FIELD ≠ 0) → s.hfr.window = some f → f.seq < 16 →
    ∃ t, exec .drvFault s = .next t ∧ t.hst = 0 ∧ t.get HFR.STATE_FIELD = 0 ∧ t.get HFR.STATE_SYN_LOCK = 0 ∧
      t.get HFR.STATUS_DRV_FAULT = 1 ∧ t.get HFR.STATE_LAST_ERR = 9 ∧ t.hfr.want = none ∧ t.hfr.window = none ∧
      (t.seqAt f.seq).rxstat / 536870912 = 6 ∧ t.bit LSC.EVP_EVP evRXD f.seq = true) ∧
  (∀ s : State, s.hst < 3 → s.get HFR.STATE_FIELD = 0 → exec .drvFault s = .next s) ∧
  (∀ (s : State) (f : HfFrame), s.hfr.held = some f →
    ∃ t, exec .hfFrameHoldRelease s = .next t ∧ t.hfr.held = none ∧ t.hfr.minGap = false ∧ t.hst = txMOD ∧ t.hfr.window = none ∧
      t.hfr.sending = some { f with
        bits := s.hfBits f.seq f.entry f.ops, air := hfAir f.entry (s.hfBits f.seq f.entry f.ops) } ∧
      t.mem = s.mem ∧ regsSame s t [HFR.STATE_STATE.key 0]) ∧
  (∀ s : State, s.hfr.held = none → exec .hfFrameHoldRelease s = .next { s with hfr := { s.hfr with minGap := false } }) ∧
  (∀ (s : State) (f : HfFrame) (ev : HfEvidence) (c c' p : Nat), s.hfr.window = some f → f.seq < 16 → s.hfr.wtxReply = [] →
    (heProto f.entry = 0 ∧ heRxRate f.entry = 0 ∨ heProto f.entry = 2) → heRxMax f.entry ≤ 1023 → ev.coll = some c' → (if ev.collPar then c' - 1 else c') = c → c ≤ ev.bits.length →
    (if heAnticoll f.entry = true ∧ f.ops.getD 1 0 < 40 then f.ops.getD 1 0 else 0) = p → (p = 0 ∨ p + 16 ≤ f.bits.length) →
    ∃ t, exec (.hfReplyDecision ev) s = .next t ∧ t.hfr.window = none ∧ t.get HFR.STATUS_FRAME_DONE = 1 ∧
      t.get HFR.HSEQ_SEQ = (s.get HFR.HSEQ_SEQ + 1) % 65536 ∧ (t.seqAt f.seq).rxstat % 16 = 2 ∧
      (t.seqAt f.seq).rxstat / 256 % 256 = min 255 (p + c) ∧
      (t.seqAt f.seq).rxstat / 65536 % 8192 = min (p + c) (min (8 * heRxMax f.entry) (8 * (0x8000 - (s.seqAt f.seq).rxb))) ∧
      t.bit LSC.EVP_EVP evRXD f.seq = true) ∧
  (∀ (s : State) (f : HfFrame) (ev : HfEvidence) (b : List Bool) (ok : Bool), s.hfr.window = some f → f.seq < 16 → s.hfr.wtxReply = [] →
    heAnticoll f.entry = false → heIsodep f.entry = false → heRxMax f.entry ≤ 1023 → ev.coll = none →
    b = (if heRxCrc f.entry then ev.bits.take (ev.bits.length - 16) else ev.bits) →
    ok = (!heRxCrc f.entry || hfCrcOk (heProto f.entry) ev.bits) →
    ∃ t, exec (.hfReplyDecision ev) s = .next t ∧ t.hfr.window = none ∧ t.get HFR.STATUS_FRAME_DONE = 1 ∧
      t.get HFR.HSEQ_SEQ = (s.get HFR.HSEQ_SEQ + 1) % 65536 ∧ (t.seqAt f.seq).rxstat % 16 = 1 ∧
      bitOf (t.seqAt f.seq).rxstat 4 = ok ∧
      (t.seqAt f.seq).rxstat / 65536 % 8192 = min b.length (min (8 * heRxMax f.entry) (8 * (0x8000 - (s.seqAt f.seq).rxb))) ∧
      (ok = false → t.get HFR.STATUS_FRAME_ERR = 1) ∧ t.bit LSC.EVP_EVP evRXD f.seq = true) ∧
  (∀ (s : State) (f : HfFrame) (ev : HfEvidence), s.hfr.window = some f → f.seq < 16 → s.hfr.wtxReply = [] →
    (ev.coll = none ∨ heProto f.entry = 1 ∨ heProto f.entry = 0 ∧ heRxRate f.entry ≠ 0) →
    ∃ t, exec (.hfReplyDecision ev) s = .next t ∧ t.get HFR.LAST_RX_RSSI = ev.rssi % 65536 ∧
      t.get HFR.FDT_MEAS_CYCLES = ev.fdt % 16777216 ∧
      (t.hfr.window = none ∧ (t.seqAt f.seq).rxstat % 16 = 1 ∧ t.get HFR.STATUS_FRAME_DONE = 1 ∧ t.bit LSC.EVP_EVP evRXD f.seq = true ∨
        heIsodep f.entry = true ∧ t.hfr.wtxReply ≠ [] ∧ t.hfr.window = s.hfr.window)) ∧
  (∀ (s : State) (f : HfFrame) (ev : HfEvidence) (b : List Bool), s.hfr.window = some f → f.seq < 16 → s.hfr.wtxReply = [] →
    heAnticoll f.entry = false → heIsodep f.entry = true → ev.coll = none → ev.codingBad = false → heProto f.entry = 1 →
    b = (if heRxCrc f.entry then ev.bits.take (ev.bits.length - 16) else ev.bits) →
    (heRxCrc f.entry = false ∨ hfCrcOk 1 ev.bits = true) → b.length ≤ min (8 * heRxMax f.entry) (8 * (0x8000 - (s.seqAt f.seq).rxb)) →
    wtxmOf (packLsb ((b.length + 7) / 8) b) ≠ 0 → heRxMax f.entry ≤ 1023 →
    ∃ t, exec (.hfReplyDecision ev) s = .next t ∧
      (s.hfr.wtxCount < s.get HFR.WAIT_CFG_WTX_MAX → t.hfr.window = some f ∧ t.hfr.wtxReply = packLsb (b.length / 8) b ∧
        t.bit LSC.EVP_EVP evRXD f.seq = s.bit LSC.EVP_EVP evRXD f.seq ∧ t.mem = s.mem) ∧
      (s.get HFR.WAIT_CFG_WTX_MAX ≤ s.hfr.wtxCount → t.hfr.window = none ∧ t.get HFR.STATUS_WTX_LIMIT = 1 ∧
        (t.seqAt f.seq).rxstat / 536870912 = 4)) ∧
  (∀ (s : State) (ev : HfEvidence), (s.hfr.window = none ∨ s.hfr.wtxReply ≠ []) → exec (.hfReplyDecision ev) s = .next s) ∧
  (∀ (s : State) (f : HfFrame), s.hfr.window = some f → f.seq < 16 → s.hfr.wtxReply = [] →
    ∃ t, exec .hfWaitExpiry s = .next t ∧ t.hfr.window = none ∧ (t.seqAt f.seq).rxstat % 16 = 0 ∧
      t.bit LSC.EVP_EVP evRXD f.seq = true ∧ t.get HFR.HSEQ_SEQ = (s.get HFR.HSEQ_SEQ + 1) % 65536 ∧
      (s.hfCeil < s.hfr.waitCyc → t.get HFR.STATUS_CEILING = 1 ∧ (t.seqAt f.seq).rxstat / 536870912 = 5) ∧
      (s.hfr.waitCyc ≤ s.hfCeil → t.get HFR.STATUS_CEILING = s.get HFR.STATUS_CEILING ∧ (t.seqAt f.seq).rxstat / 536870912 = 0) ∧
      (s.hst = txLISTEN → t.hst = txCW)) ∧
  (∀ s : State, (s.hfr.window = none ∨ s.hfr.wtxReply ≠ []) → exec .hfWaitExpiry s = .next s) ∧
  (∀ s : State, (s.hfr.window = none ∨ s.hfr.wtxReply = []) → exec .hfWtxAnswer s = .next s) ∧
  (∀ (s : State) (f : HfFrame), s.hfr.window = some f → s.hfr.wtxReply ≠ [] →
    exec .hfWtxAnswer s = .next (({ s with hfr := { s.hfr with wtxReply := [], wtxCount := s.hfr.wtxCount + 1, waitCyc := min 67108864 (heFwt f * wtxmOf s.hfr.wtxReply) + 49152, wtxSent := hfAir f.entry (unpackLsb s.hfr.wtxReply ++ hfCrcBits 0 (unpackLsb s.hfr.wtxReply)) } } : State).bump
      HFR.CNT_WTX_COUNT HFR.STATUS_SAT))

/-- The Gleaner (R281, R295 to R298): GL_ARM, GL_RESUME, GL_REBASE and GL_STOP move it between its states; GL_ARM needs GL_EN and the
HFR domain. A ping in ARMED measures, counts and guards the tag. The first ping after an ARM or REBASE is the baseline. A ping past
either threshold keeps the baseline, and the one that completes the run of CONFIRM + 1 wakes. A ping within both moves the
baseline towards the measurement by the PERIOD over TAU, and ends the run. A ping while a chain named in COUPLING carries, or did
within FREEZE_HOLD, is counted as blanked and neither wakes nor moves the baseline; one while the tag reports a field is skipped and
counted; in any other state, under a reader lease or outside FULL there is no ping. Where a clause rests on the model's own choice, that is one of
assumptions 9 or 41. -/
def Obligations.GleanerCommands : Prop :=
  (∀ s : State, s.get HFR.STATE_GL_STATE = 0 → s.get HFR.CTRL_GL_EN ≠ 0 → s.bit PWR.STATE_DOM 1 = true →
    exec .glArm s = .next (({ s with gl := { rebase := true } } : State).set HFR.STATE_GL_STATE 1)) ∧
  (∀ s : State, (s.get HFR.STATE_GL_STATE ≠ 0 ∨ s.get HFR.CTRL_GL_EN = 0 ∨ s.bit PWR.STATE_DOM 1 = false) → exec .glArm s = .next s) ∧
  (∀ s : State, exec .glResume s = .next (if s.get HFR.STATE_GL_STATE = 2 then s.set HFR.STATE_GL_STATE 1 else s)) ∧
  (∀ s : State, s.get HFR.STATE_GL_STATE ≠ 0 →
    exec .glRebase s = .next (({ s with gl := { s.gl with rebase := true, overRun := 0 } } : State).set HFR.STATE_GL_STATE 1)) ∧
  (∀ s : State, s.get HFR.STATE_GL_STATE = 0 → exec .glRebase s = .next s) ∧
  (∀ s : State, exec .glStop s = .next (({ s with gl := {} } : State).set HFR.STATE_GL_STATE 0)) ∧
  (∀ (s : State) (amp phase : Nat), amp < 65536 → phase < 65536 → s.get HFR.CTRL_GL_EN ≠ 0 → s.get SYS.MODE_MODE = 0 →
    s.bit PWR.STATE_DOM 1 = true → s.get LSC.HF_STATE_HFR_HELD = 0 → s.get HFR.STATE_GL_STATE = 1 → s.get HFR.STATE_TAG_FIELD = 0 →
    ∃ t, exec (.gleanerPing amp phase) s = .next t ∧ t.get HFR.GL_MEAS_AMP = amp ∧ t.get HFR.GL_MEAS_PHASE = phase ∧
      t.get HFT.STATE_GUARD = 1 ∧
      t.get HFR.CNT_PING_COUNT = (s.bump HFR.CNT_PING_COUNT HFR.STATUS_SAT).get HFR.CNT_PING_COUNT ∧ t.mem = s.mem ∧
      (s.glBlanked = true →
        t.get HFR.CNT_BLANK_COUNT = (s.bump HFR.CNT_BLANK_COUNT HFR.STATUS_SAT).get HFR.CNT_BLANK_COUNT ∧ t.gl = s.gl ∧
        t.get HFR.STATE_GL_STATE = 1 ∧ t.get HFR.STATUS_GL_WAKE = s.get HFR.STATUS_GL_WAKE) ∧
      (s.glBlanked = false → s.gl.rebase = true → t.get HFR.GL_BASE_AMP = amp ∧ t.get HFR.GL_BASE_PHASE = phase ∧ t.gl.rebase = false ∧
        t.get HFR.STATE_GL_STATE = 1 ∧ t.get HFR.STATUS_GL_WAKE = s.get HFR.STATUS_GL_WAKE)) ∧
  (∀ (s : State) (amp phase : Nat), s.get HFR.CTRL_GL_EN ≠ 0 → s.get SYS.MODE_MODE = 0 →
    s.bit PWR.STATE_DOM 1 = true → s.get LSC.HF_STATE_HFR_HELD = 0 → s.get HFR.STATE_GL_STATE = 1 →
    s.get HFR.STATE_TAG_FIELD = 0 → s.glBlanked = false → s.gl.rebase = false →
    (5 * 65536 * s.get HFR.GL_THR_AMP_THR < (sint 16 amp * 65536 - s.gl.baseAmp).natAbs ∨
      10 * 65536 * s.get HFR.GL_THR_PH_THR < (wrapPhase (sint 16 phase * 65536 - s.gl.basePhase)).natAbs) →
    ∃ t, exec (.gleanerPing amp phase) s = .next t ∧ t.get HFR.GL_BASE_AMP = s.get HFR.GL_BASE_AMP ∧
      t.get HFR.GL_BASE_PHASE = s.get HFR.GL_BASE_PHASE ∧ t.mem = s.mem ∧
      (s.get HFR.GL_CFG_CONFIRM ≤ s.gl.overRun → t.get HFR.STATUS_GL_WAKE = 1 ∧ t.get HFR.STATE_GL_STATE = 2 ∧ t.gl.overRun = 0) ∧
      (s.gl.overRun < s.get HFR.GL_CFG_CONFIRM → t.get HFR.STATUS_GL_WAKE = s.get HFR.STATUS_GL_WAKE ∧ t.get HFR.STATE_GL_STATE = 1 ∧
        t.gl = { s.gl with overRun := s.gl.overRun + 1 })) ∧
  (∀ (s : State) (amp phase : Nat) (k d : Int), s.get HFR.CTRL_GL_EN ≠ 0 → s.get SYS.MODE_MODE = 0 →
    s.bit PWR.STATE_DOM 1 = true → s.get LSC.HF_STATE_HFR_HELD = 0 → s.get HFR.STATE_GL_STATE = 1 →
    s.get HFR.STATE_TAG_FIELD = 0 → s.glBlanked = false → s.gl.rebase = false →
    (sint 16 amp * 65536 - s.gl.baseAmp).natAbs ≤ 5 * 65536 * s.get HFR.GL_THR_AMP_THR →
    (wrapPhase (sint 16 phase * 65536 - s.gl.basePhase)).natAbs ≤ 10 * 65536 * s.get HFR.GL_THR_PH_THR →
    k = ((10 * max 10 (min 100 (s.get HFR.GL_CFG_PERIOD)) : Nat) : Int) → d = ((1000 * max 1 (s.get HFR.GL_CFG_TAU) : Nat) : Int) →
    ∃ t, exec (.gleanerPing amp phase) s = .next t ∧ t.gl.overRun = 0 ∧ t.gl.rebase = false ∧
      t.gl.baseAmp = s.gl.baseAmp + (sint 16 amp * 65536 - s.gl.baseAmp) * k / d ∧
      t.gl.basePhase = wrapPhase (s.gl.basePhase + wrapPhase (sint 16 phase * 65536 - s.gl.basePhase) * k / d) ∧
      t.get HFR.GL_BASE_AMP = unsignedOf 16 (t.gl.baseAmp / 65536) ∧ t.get HFR.GL_BASE_PHASE = unsignedOf 16 (t.gl.basePhase / 65536) ∧
      t.get HFR.STATE_GL_STATE = 1 ∧ t.get HFR.STATUS_GL_WAKE = s.get HFR.STATUS_GL_WAKE ∧ t.mem = s.mem) ∧
  (∀ (s : State) (amp phase : Nat), s.get HFR.CTRL_GL_EN ≠ 0 → s.get SYS.MODE_MODE = 0 →
    s.bit PWR.STATE_DOM 1 = true → s.get LSC.HF_STATE_HFR_HELD = 0 → s.get HFR.STATE_GL_STATE = 1 →
    s.get HFR.STATE_TAG_FIELD ≠ 0 →
    exec (.gleanerPing amp phase) s = .next (s.bump HFR.CNT_BLANK_COUNT HFR.STATUS_SAT)) ∧
  (∀ (s : State) (amp phase : Nat), (s.get HFR.CTRL_GL_EN = 0 ∨ s.get SYS.MODE_MODE ≠ 0 ∨ s.bit PWR.STATE_DOM 1 = false ∨
      s.get LSC.HF_STATE_HFR_HELD ≠ 0 ∨ s.get HFR.STATE_GL_STATE ≠ 1) →
    exec (.gleanerPing amp phase) s = .next s)

/-- The tag's supply and field (R23, R32, R281, R310 to R313, R317, R326, R327): a field is reported, wakes Core P and, without the line,
supplies the AON domain; it starts an enabled engine in IDLE, by way of the recovery pass where the line did not keep it on; a
disabled or guarded engine only reports it. The pass clears the marker of a commit that was complete, rolls a marked one with a valid
backup forward, and fails the record of one without. Losing the field drops the session with the line, and without it COLD follows, MRAM
keeping what a commit under way has written; five seconds without it end a lockout. The tag's layer 3 and 4 (R304, R305, R307, R308, R313): REQA wakes
an idle tag and WUPA a halted one too, with ATQA 0x0044; the cascade of anticollision and SELECT leads to ACTIVE with SAK 0x20; RATS
with a CID up to 14 opens layer 4 with the ATS; HLTA and DESELECT halt; PPS is acknowledged for DRI and DSI 0; S(WTX) asks for
time while an answer is owed. In another state, or with other values, they are ignored. Where a clause rests on the model's own choice, that is one
of assumptions 6, 21, 37, 41 or 56. -/
def Obligations.TagFieldAndLayers : Prop :=
  (∀ (s : State) (vharv avail : Nat), s.get HFT.STATE_GUARD = 0 → s.get HFT.CTRL_EN ≠ 0 → s.get HFT.STATE_LINE ≠ 0 →
    exec (.fieldOn vharv avail) s = .next (((((((s.set HFT.STATE_FIELD 1).set HFT.STATUS_FIELD_ON 1).set HFR.STATE_TAG_FIELD 1).set
      HFT.HARV_VHARV vharv).set HFT.HARV_AVAIL avail).setBit AON.WAKE_WAKE 5 true).set
      HFT.STATE_TSTATE tgIDLE)) ∧
  (∀ (s : State) (vharv avail : Nat), s.get HFT.STATE_LINE ≠ 0 → (s.get HFT.STATE_GUARD ≠ 0 ∨ s.get HFT.CTRL_EN = 0) →
    exec (.fieldOn vharv avail) s = .next ((((((s.set HFT.STATE_FIELD 1).set HFT.STATUS_FIELD_ON 1).set HFR.STATE_TAG_FIELD 1).set
      HFT.HARV_VHARV vharv).set HFT.HARV_AVAIL avail).setBit AON.WAKE_WAKE 5 true)) ∧
  (∀ (s : State) (vharv avail : Nat), s.get HFT.STATE_LINE = 0 → s.get HFT.STATE_GUARD ≠ 0 →
    exec (.fieldOn vharv avail) s = .next (((((((s.set HFT.STATE_FIELD 1).set HFT.STATUS_FIELD_ON 1).set HFR.STATE_TAG_FIELD 1).set
      HFT.HARV_VHARV vharv).set HFT.HARV_AVAIL avail).set PWR.STATE_HARV 1).setBit
      AON.WAKE_WAKE 5 true)) ∧
  (∀ (s : State) (vharv avail : Nat), s.get HFT.STATE_LINE = 0 → s.get HFT.STATE_GUARD = 0 →
    ∃ t, exec (.fieldOn vharv avail) s = .next t ∧ t.get HFT.STATE_FIELD = 1 ∧ t.get PWR.STATE_HARV = 1 ∧
      t.bit AON.WAKE_WAKE 5 = true ∧ t.get HFT.STATE_TSTATE = (if s.get HFT.CTRL_EN = 0 then s.get HFT.STATE_TSTATE else tgIDLE) ∧
      t.mem = s.mem) ∧
  (∀ (s : State) (vharv avail : Nat), s.get HFT.STATE_GUARD = 0 → s.get HFT.CTRL_EN ≠ 0 → s.get HFT.STATE_LINE = 0 →
    s.hft.marker = none → s.hft.genP = s.hft.genB → s.tagSound →
    exec (.fieldOn vharv avail) s = .next ((((((((s.set HFT.STATE_FIELD 1).set HFT.STATUS_FIELD_ON 1).set HFR.STATE_TAG_FIELD 1).set
      HFT.HARV_VHARV vharv).set HFT.HARV_AVAIL avail).set PWR.STATE_HARV 1).setBit
      AON.WAKE_WAKE 5 true).set HFT.STATE_TSTATE tgIDLE)) ∧
  (∀ (s : State) (vharv avail r g : Nat), s.get HFT.STATE_GUARD = 0 → s.get HFT.STATE_LINE = 0 → s.tagSound → s.hft.marker = some (r, g) →
    r < 256 →
    ∃ t, exec (.fieldOn vharv avail) s = .next t ∧ t.hft.marker = none ∧ t.get HFT.STATUS_RECOVERED = 1 ∧ t.get HFT.RECOV_RECORD = r ∧
      (Tab.get 0 s.hft.genB r = g → t.get HFT.RECOV_ACTION = 3 ∧ t.hft.slots = s.hft.slots) ∧
      (Tab.get 0 s.hft.genB r ≠ g → slotOk s.hft.backup = true → byteAt s.hft.backup 248 = r →
        t.get HFT.RECOV_ACTION = 2 ∧ Tab.get none t.hft.slots r = some s.hft.backup ∧ Tab.get 0 t.hft.genP r = g ∧
        Tab.get 0 t.hft.genB r = g) ∧
      (Tab.get 0 s.hft.genB r ≠ g → slotOk s.hft.backup = false → t.get HFT.RECOV_ACTION = 5 ∧ t.get HFT.STATUS_RECOV_FAIL = 1 ∧
        t.hft.slots = s.hft.slots ∧ Tab.get 0 t.hft.genP r = Tab.get 0 s.hft.genB r ∧ t.hft.failed.contains r = true)) ∧
  (∀ s : State, s.get HFT.STATE_LINE ≠ 0 →
    ∃ t, exec .fieldOff s = .next t ∧ t.get HFT.STATE_FIELD = 0 ∧ t.get HFT.STATUS_FIELD_OFF = 1 ∧ t.get HFR.STATE_TAG_FIELD = 0 ∧
      t.get HFT.STATE_TSTATE = tgNO_FIELD ∧ t.get HFT.PSTAT_PENDING = 0 ∧ t.get HFT.HARV_VHARV = 0 ∧ t.get HFT.HARV_AVAIL = 0 ∧
      t.hft.sk = [] ∧ t.hft.rndB = [] ∧ t.hft.app = false ∧ t.hft.fieldWait = none ∧
      t.hft.commit = s.hft.commit.map (fun c => { c with answer := [] }) ∧ t.mem = s.mem ∧
      regsSame s t [HFT.STATE_FIELD.key 0, HFT.STATUS_FIELD_OFF.key 0, HFR.STATE_TAG_FIELD.key 0, HFT.STATE_TSTATE.key 0,
        HFT.PSTAT_PENDING.key 0, HFT.HARV_VHARV.key 0, HFT.HARV_AVAIL.key 0]) ∧
  (∀ s : State, s.get HFT.STATE_LINE = 0 →
    ∃ t, exec .fieldOff s = .next t ∧ t.hft.commit = none ∧ t.get HFT.STATE_TSTATE = tgNO_FIELD ∧ t.get HFT.STATE_FIELD = 0 ∧
      t.get PWR.STATE_HARV = 0 ∧ t.hft.sk = [] ∧ t.hft.fails = s.hft.fails ∧ t.hft.monoP = s.hft.monoP ∧
      (s.hft.commit = none → t.hft.slots = s.hft.slots ∧ t.hft.marker = s.hft.marker)) ∧
  (∀ s : State, s.get HFT.STATE_LOCKOUT ≠ 0 → s.get HFT.STATE_FIELD = 0 →
    ∃ t, exec .lockoutEnd s = .next t ∧ t.hft.fails = 0 ∧ t.get HFT.STATE_FAILS = 0 ∧ t.get HFT.STATE_LOCKOUT = 0 ∧ t.mem = s.mem ∧
      regsSame s t [HFT.STATE_FAILS.key 0, HFT.STATE_LOCKOUT.key 0]) ∧
  (∀ s : State, (s.get HFT.STATE_FIELD ≠ 0 ∨ s.get HFT.STATE_LOCKOUT = 0) → exec .lockoutEnd s = .next s) ∧
  (∀ s : State, s.tgSt = tgIDLE →
    ∃ t, exec .tagReqa s = .next t ∧ t.tgSt = tgREADY ∧ t.hft.reply = [0x44, 0x00] ∧ t.hft.blocks = [] ∧ t.hft.cascade = 1 ∧
      t.mem = s.mem ∧ regsSame s t [HFT.STATE_TSTATE.key 0]) ∧
  (∀ s : State, s.tgSt ≠ tgIDLE → exec .tagReqa s = .next s) ∧
  (∀ s : State, (s.tgSt = tgIDLE ∨ s.tgSt = tgHALT) →
    ∃ t, exec .tagWupa s = .next t ∧ t.tgSt = tgREADY ∧ t.hft.reply = [0x44, 0x00] ∧ t.hft.blocks = [] ∧ t.hft.cascade = 1 ∧
      t.mem = s.mem ∧ regsSame s t [HFT.STATE_TSTATE.key 0]) ∧
  (∀ s : State, s.tgSt ≠ tgIDLE → s.tgSt ≠ tgHALT → exec .tagWupa s = .next s) ∧
  (∀ (s : State) (k : Nat), s.tgSt = tgREADY → 1 ≤ s.hft.cascade → s.hft.cascade ≤ 2 → k < 40 →
    exec (.tagAnticoll s.hft.cascade ((unpackLsb (tagCln s.hft.cascade)).take k)) s =
      .next { s with hft := { s.hft with reply := packLsb ((47 - k) / 8) ((unpackLsb (tagCln s.hft.cascade)).drop k), blocks := [] } }) ∧
  (∀ (s : State) (level : Nat) (known : List Bool), (s.tgSt ≠ tgREADY ∨ level ≠ s.hft.cascade ∨ 40 ≤ known.length ∨
      (unpackLsb (tagCln level)).take known.length ≠ known) →
    exec (.tagAnticoll level known) s = .next s) ∧
  (∀ s : State, s.tgSt = tgREADY → s.hft.cascade = 1 →
    exec (.tagSelect 1 (tagCln 1)) s = .next { s with hft := { s.hft with cascade := 2, reply := [0x04], blocks := [] } }) ∧
  (∀ s : State, s.tgSt = tgREADY → s.hft.cascade = 2 →
    exec (.tagSelect 2 (tagCln 2)) s =
      .next { s.set HFT.STATE_TSTATE tgACTIVE with hft := { s.hft with reply := [0x20], blocks := [] } }) ∧
  (∀ (s : State) (level : Nat) (cln : List Nat), (s.tgSt ≠ tgREADY ∨ level ≠ s.hft.cascade ∨ cln ≠ tagCln level) →
    exec (.tagSelect level cln) s = .next s) ∧
  (∀ (s : State) (fsdi cid : Nat), s.tgSt = tgACTIVE → cid ≤ 14 →
    ∃ t, exec (.tagRats fsdi cid) s = .next t ∧ t.tgSt = tgOPEN ∧ t.hft.cid = cid ∧ t.hft.fsd = fsdOf fsdi ∧
      t.hft.reply = [0x05, 0x78, 0x00, 0x70, 0x02] ∧ t.mem = s.mem ∧ regsSame s t [HFT.STATE_TSTATE.key 0]) ∧
  (∀ (s : State) (fsdi cid : Nat), (s.tgSt ≠ tgACTIVE ∨ 14 < cid) → exec (.tagRats fsdi cid) s = .next s) ∧
  (∀ s : State, s.tgSt = tgACTIVE →
    ∃ t, exec .tagHlta s = .next t ∧ t.tgSt = tgHALT ∧ t.hft.reply = s.hft.reply ∧ t.mem = s.mem ∧
      regsSame s t [HFT.STATE_TSTATE.key 0]) ∧
  (∀ s : State, s.tgSt ≠ tgACTIVE → exec .tagHlta s = .next s) ∧
  (∀ s : State, tgOPEN ≤ s.tgSt → s.tgSt ≤ tgFACTORY →
    exec (.tagPps 0 0) s = .next { s with hft := { s.hft with reply := [0xD0 + s.hft.cid], blocks := [] } }) ∧
  (∀ (s : State) (dri dsi : Nat), (dri ≠ 0 ∨ dsi ≠ 0 ∨ s.tgSt < tgOPEN) → exec (.tagPps dri dsi) s = .next s) ∧
  (∀ s : State, tgOPEN ≤ s.tgSt → s.tgSt ≤ tgFACTORY →
    ∃ t, exec .tagDeselect s = .next t ∧ t.tgSt = tgHALT ∧ t.hft.reply = [0xC2] ∧ t.hft.blocks = [] ∧ t.hft.sk = [] ∧
      t.get HFT.PSTAT_PENDING = 0 ∧ t.mem = s.mem ∧ regsSame s t [HFT.STATE_TSTATE.key 0, HFT.PSTAT_PENDING.key 0]) ∧
  (∀ s : State, tgOPEN ≤ s.tgSt → s.tgSt ≤ tgFACTORY →
    (s.get HFT.PSTAT_PENDING ≠ 0 ∨ s.hft.fieldWait ≠ none ∨ s.hft.commit.any (fun c => c.field && c.answer != []) = true) →
    exec .tagWtxRequest s = .next { s with hft := { s.hft with reply := [0xF2, 0x01], blocks := [] } }) ∧
  (∀ s : State, s.get HFT.PSTAT_PENDING = 0 → s.hft.fieldWait = none → s.hft.commit.any (fun c => c.field && c.answer != []) = false →
    exec .tagWtxRequest s = .next s) ∧
  (∀ s : State, s.tgSt < tgOPEN → exec .tagDeselect s = .next s ∧ exec .tagWtxRequest s = .next s ∧ exec .tagWtxResponse s = .next s) ∧
  (∀ s : State, tgOPEN ≤ s.tgSt → s.tgSt ≤ tgFACTORY →
    exec .tagWtxResponse s = .next { s with hft := { s.hft with reply := [], blocks := [] } })

/-- The tag's APDUs (R304, R308, R313, R316, R323, R328): in OPEN and the secured states a short APDU waits while a wired operation or a
commit is in progress, and runs otherwise; in SECURED_FACTORY the MAC at its end must be right, else 0x6988, OPEN and one more
failure, and it runs on the data without it under the next count; in another state, or of extended length, it is ignored. The
file and information commands (R321, R323, R324), stated where no MAC is carried: the NDEF application and its files are selected; reads answer
the bytes asked for and 0x9000; a command out of order, out of range, with the wrong length or without the rights answers its status
word; each is counted. The writing commands (R310, R311, R322, R325): UPDATE BINARY and WRITE_RECORD, allowed and with the harvest that
they need, begin the commit of the first record under its next generation; INC_COUNTER advances both copies of a counter and answers its new
value, and at its maximum sets SAT; without the harvest they answer 0x6985 and set HARV_LOW. A commit's end stores the slot in MRAM under the new generation, sets COMMITTED, and
answers the field, begins the next record's commit, or ends the wired operation; the premise that the CORE domain is off says that no firmware acts on it. Where a
clause rests on the model's own choice, that is one of assumptions 6, 21, 41 or 56. -/
def Obligations.TagFilesAndCommits : Prop :=
  (∀ (s : State) (c : Instr) (a : Apdu), apduOf c = some a → (s.tgSt < tgOPEN ∨ 255 < a.data.length ∨ 256 < a.le) → exec c s = .next s) ∧
  (∀ (s : State) (c : Instr) (a : Apdu), apduOf c = some a → tgOPEN ≤ s.tgSt → a.data.length ≤ 255 → a.le ≤ 256 → s.wiredBusy = true →
    exec c s = .next { s with hft := { s.hft with fieldWait := some a } }) ∧
  (∀ (s : State) (c : Instr) (a : Apdu), apduOf c = some a → s.tagFree → a.data.length ≤ 255 → a.le ≤ 256 →
    exec c s = .next (s.apduStart.apduRun a)) ∧
  (∀ (s : State) (c : Instr) (a : Apdu) (d : List Nat), apduOf c = some a → s.tgSt = tgFACTORY → s.wiredBusy = false → a.le ≤ 256 →
    a.data = d ++ (aesCmac s.hft.sk (toLe 2 s.hft.ctr ++ [a.cla, a.ins, a.p1, a.p2] ++ d)).take 8 → a.data.length = d.length + 8 →
    a.data.length ≤ 255 →
    exec c s = .next ((s.apduStart.updHft fun h => { h with
      ctr := (s.hft.ctr + 1) % 65536, macCtr := some s.hft.ctr }).apduRun { a with data := d })) ∧
  (∀ (s : State) (c : Instr) (a : Apdu), apduOf c = some a → s.tgSt = tgFACTORY → s.wiredBusy = false → a.data.length ≤ 255 → a.le ≤ 256 →
    (∀ d, a.data ≠ d ++ (aesCmac s.hft.sk (toLe 2 s.hft.ctr ++ [a.cla, a.ins, a.p1, a.p2] ++ d)).take 8) →
    ∃ t, exec c s = .next t ∧ t.tgSt = tgOPEN ∧ t.hft.reply = [0x69, 0x88] ∧ t.hft.fails = min 8 (s.hft.fails + 1) ∧ t.hft.sk = [] ∧
      t.mem = s.mem) ∧
  (∀ (s : State) (a : Apdu), s.tagFree → a.le ≤ 256 → a.p2 = 0 → a.data = [0xD2, 0x76, 0x00, 0x00, 0x85, 0x01, 0x01] →
    exec (.tagSelectNdefApp a) s = .next ((s.apduStart.updHft fun h => { h with app := true, file := 0 }).tagReply [0x90, 0x00])) ∧
  (∀ (s : State) (a : Apdu), s.tagFree → a.le ≤ 256 → a.p2 = 0x0C → s.hft.app = true → (a.data = [0xE1, 0x03] ∨ a.data = [0xE1, 0x04]) →
    exec (.tagSelectFile a) s = .next ((s.apduStart.updHft fun h => { h with file := byteAt a.data 1 }).tagReply [0x90, 0x00])) ∧
  (∀ (s : State) (a : Apdu), s.tagFree → a.data.length ≤ 255 → s.hft.file = 3 → a.p1 = 0 → 1 ≤ a.le → a.p2 + a.le ≤ 15 →
    exec (.tagReadBinary a) s = .next (s.apduStart.tagReply (slice ccFile a.p2 a.le ++ [0x90, 0x00]))) ∧
  (∀ (s : State) (a : Apdu), s.tagFree → a.data.length ≤ 255 → s.hft.file = 4 → 1 ≤ a.le → a.le ≤ 248 → 256 * a.p1 + a.p2 + a.le ≤ 992 →
    (∀ r, 1 ≤ r → r ≤ 4 → s.readRefusal r = none) →
    exec (.tagReadBinary a) s = .next (s.apduStart.tagReply
      (slice (s.recData 1 ++ s.recData 2 ++ s.recData 3 ++ s.recData 4) (256 * a.p1 + a.p2) a.le ++ [0x90, 0x00]))) ∧
  (∀ (s : State) (a : Apdu), s.tagFree → a.p1 = 0 → a.p2 = 0 → a.data = [] → a.le = 16 →
    exec (.getInfo a) s = .next (((s.apduStart.set HFT.HARV_VHARV a.vharv).set HFT.HARV_AVAIL a.avail).tagReply
      ([s.tgSt, s.lc, s.hft.fails, s.get HFT.STATE_LOCKOUT] ++ toLe 2 a.avail ++ toLe 2 a.vharv ++ uid7 ++ [0, 0x90, 0x00]))) ∧
  (∀ (s : State) (a : Apdu), s.tagFree → a.p1 = 0 → a.p2 = 0 → a.data = [] → a.le = 12 →
    exec (.readCounters a) s = .next (s.apduStart.tagReply (((List.range 4).flatMap fun c => toLe 3 (s.mono c)) ++ [0x90, 0x00]))) ∧
  (∀ (s : State) (a : Apdu), s.tagFree → a.data = [] → 1 ≤ a.le → a.p2 + a.le ≤ 248 → s.readRefusal a.p1 = none →
    exec (.readRecord a) s = .next (s.apduStart.tagReply (slice (s.recData a.p1) a.p2 a.le ++ [0x90, 0x00]))) ∧
  (∀ (s : State) (c : Instr) (a : Apdu) (off sw : Nat), s.tagFree → a.data.length ≤ 255 → a.le ≤ 256 → off = 256 * a.p1 + a.p2 →
    (c = .tagSelectNdefApp a ∧ (a.p2 ≠ 0 ∧ sw = 0x6A86 ∨ a.p2 = 0 ∧ a.data ≠ [0xD2, 0x76, 0x00, 0x00, 0x85, 0x01, 0x01] ∧ sw = 0x6A82) ∨
     c = .tagSelectFile a ∧ (a.p2 ≠ 0x0C ∧ sw = 0x6A86 ∨
       a.p2 = 0x0C ∧ (s.hft.app = false ∨ a.data ≠ [0xE1, 0x03] ∧ a.data ≠ [0xE1, 0x04]) ∧ sw = 0x6A82) ∨
     (c = .tagReadBinary a ∨ c = .tagUpdateBinary a) ∧ s.hft.file = 0 ∧ sw = 0x6A82 ∨
     c = .tagReadBinary a ∧ s.hft.file = 3 ∧ (15 ≤ off ∧ sw = 0x6A86 ∨ off < 15 ∧ (a.le = 0 ∨ 15 < off + a.le) ∧ sw = 0x6700) ∨
     c = .tagReadBinary a ∧ s.hft.file = 4 ∧ (992 ≤ off ∧ sw = 0x6A86 ∨
       off < 992 ∧ (a.le = 0 ∨ 248 < a.le ∨ 992 < off + a.le) ∧ sw = 0x6700) ∨
     c = .tagUpdateBinary a ∧ s.hft.file = 3 ∧ sw = 0x6982 ∨
     c = .tagUpdateBinary a ∧ s.hft.file = 4 ∧ (992 ≤ off ∧ sw = 0x6A86 ∨
       off < 992 ∧ (a.data = [] ∨ 992 < off + a.data.length) ∧ sw = 0x6700) ∨
     c = .getInfo a ∧ (off ≠ 0 ∧ sw = 0x6A86 ∨ off = 0 ∧ (a.data ≠ [] ∨ a.le ≠ 16) ∧ sw = 0x6700) ∨
     c = .readCounters a ∧ (off ≠ 0 ∧ sw = 0x6A86 ∨ off = 0 ∧ (a.data ≠ [] ∨ a.le ≠ 12) ∧ sw = 0x6700) ∨
     (c = .readRecord a ∨ c = .writeRecord a) ∧ 248 ≤ a.p2 ∧ sw = 0x6A86 ∨
     c = .readRecord a ∧ a.p2 < 248 ∧ (a.data ≠ [] ∨ a.le = 0 ∨ 248 < a.p2 + a.le) ∧ sw = 0x6700 ∨
     c = .writeRecord a ∧ a.p2 < 248 ∧ (a.data = [] ∨ 248 < a.p2 + a.data.length) ∧ sw = 0x6700 ∨
     c = .readRecord a ∧ a.data = [] ∧ 1 ≤ a.le ∧ a.p2 + a.le ≤ 248 ∧ s.readRefusal a.p1 = some sw ∨
     c = .writeRecord a ∧ a.data ≠ [] ∧ a.p2 + a.data.length ≤ 248 ∧ s.writeRefusal a.p1 = some sw ∨
     c = .incCounter a ∧ ((3 < a.p1 ∨ a.p2 ≠ 0) ∧ sw = 0x6A86 ∨ a.p1 ≤ 3 ∧ a.p2 = 0 ∧ (a.data ≠ [] ∨ a.le ≠ 3) ∧ sw = 0x6700 ∨
       a.p1 ≤ 3 ∧ a.p2 = 0 ∧ a.data = [] ∧ a.le = 3 ∧ (s.tgSt = tgOPEN ∨ 2 ≤ a.p1) ∧ sw = 0x6982)) →
    exec c s = .next (s.apduStart.tagReply (toBe 2 sw))) ∧
  (∀ (s : State) (a : Apdu), s.tagFree → a.data ≠ [] → a.le ≤ 256 → a.p2 + a.data.length ≤ 248 → s.writeRefusal a.p1 = none →
    s.harvestOk a = true →
    ∃ t, exec (.writeRecord a) s = .next t ∧ t.hft.commit = some { record := a.p1, gen := (Tab.get 0 s.hft.genP a.p1 + 1) % 65536, slot := recSlot (patch (s.recData a.p1) a.p2 a.data) a.p1 ((Tab.get 0 s.hft.genP a.p1 + 1) % 65536), field := true, rest := [], answer := [0x90, 0x00] } ∧
      t.hft.slots = s.hft.slots ∧ t.hft.reply = s.hft.reply ∧ t.get HFT.STATE_HARV_LOW = 0 ∧ t.mem = s.mem) ∧
  (∀ (s : State) (a : Apdu) (r : Nat) (d : List Nat) (rest : List (Nat × List Nat)), s.tagFree → s.hft.file = 4 → a.data ≠ [] → a.le ≤ 256 →
    a.data.length ≤ 255 → 256 * a.p1 + a.p2 + a.data.length ≤ 992 → (∀ k, 1 ≤ k → k ≤ 4 → s.writeRefusal k = none) → s.harvestOk a = true →
    s.ndefWrites (256 * a.p1 + a.p2) a.data = (r, d) :: rest →
    ∃ t, exec (.tagUpdateBinary a) s = .next t ∧ t.hft.commit = some { record := r, gen := (Tab.get 0 s.hft.genP r + 1) % 65536, slot := recSlot d r ((Tab.get 0 s.hft.genP r + 1) % 65536), field := true, rest := rest, answer := [0x90, 0x00] } ∧
      r = (256 * a.p1 + a.p2) / 248 + 1 ∧ t.hft.slots = s.hft.slots ∧ t.get HFT.STATE_HARV_LOW = 0 ∧ t.mem = s.mem) ∧
  (∀ (s : State) (a : Apdu), s.tagFree → s.harvestOk a = false → a.data ≠ [] → a.data.length ≤ 255 → a.le ≤ 256 → ∀ c,
    (c = Instr.writeRecord a ∧ a.p2 + a.data.length ≤ 248 ∧ s.writeRefusal a.p1 = none ∨
      c = Instr.tagUpdateBinary a ∧ s.hft.file = 4 ∧ 256 * a.p1 + a.p2 + a.data.length ≤ 992 ∧
        (∀ k, 1 ≤ k → k ≤ 4 → s.writeRefusal k = none)) →
    ∃ t, exec c s = .next t ∧ t.hft.commit = none ∧ t.get HFT.STATE_HARV_LOW = 1 ∧ t.hft.reply = [0x69, 0x85] ∧ t.mem = s.mem) ∧
  (∀ (s : State) (a : Apdu), s.tgSt = tgINSTALLER → s.wiredBusy = false → a.p1 < 2 → a.p2 = 0 → a.data = [] → a.le = 3 →
    ∃ t, exec (.incCounter a) s = .next t ∧ t.mem = s.mem ∧
      (s.lc = lcRETIRED ∨ s.mono a.p1 = 0xFFFFFF ∨ s.harvestOk a = false →
        t.hft.reply = [0x69, 0x85] ∧ t.hft.monoP = s.hft.monoP ∧ t.hft.monoB = s.hft.monoB) ∧
      (s.lc ≠ lcRETIRED → s.mono a.p1 = 0xFFFFFF → t.get HFT.STATUS_SAT = 1) ∧
      (s.lc ≠ lcRETIRED → s.mono a.p1 ≠ 0xFFFFFF → s.harvestOk a = false → t.get HFT.STATE_HARV_LOW = 1) ∧
      (s.lc ≠ lcRETIRED → s.mono a.p1 < 0xFFFFFF → s.harvestOk a = true →
        t.mono a.p1 = s.mono a.p1 + 1 ∧ t.get HFT.MONO_VALUE a.p1 = s.mono a.p1 + 1 ∧
        Tab.get 0 t.hft.monoB a.p1 = s.mono a.p1 + 1 ∧ t.hft.reply = toLe 3 (s.mono a.p1 + 1) ++ [0x90, 0x00])) ∧
  (∀ (s : State) (c : Commit), s.hft.commit = some c → c.field = true → c.slot.length = 256 →
    (s.recPrimary c.record).length = 256 → s.bit PWR.STATE_DOM 3 = false →
    ∃ t, exec .tagCommitDone s = .next t ∧ Tab.get none t.hft.slots c.record = some c.slot ∧
      Tab.get 0 t.hft.genP c.record = c.gen ∧ Tab.get 0 t.hft.genB c.record = c.gen ∧ t.hft.marker = none ∧
      t.get HFT.STATUS_COMMITTED = 1 ∧ t.mem = s.mem ∧
      (c.rest = [] → t.hft.commit = none ∧ t.hft.reply = (if c.answer = [] then s.hft.reply else c.answer)) ∧
      (∀ r d rest, c.rest = (r, d) :: rest → t.hft.reply = s.hft.reply ∧
        ∃ c', t.hft.commit = some c' ∧ c'.record = r ∧ c'.rest = rest ∧ c'.field = true ∧ c'.answer = c.answer ∧
          c'.slot = recSlot d r c'.gen)) ∧
  (∀ (s : State) (c : Commit), s.hft.commit = some c → c.field = false → c.slot.length = 256 → c.record < 256 →
    (s.recPrimary c.record).length = 256 → s.bit PWR.STATE_DOM 3 = false → s.hft.fieldWait = none →
    ∃ t, exec .tagCommitDone s = .next t ∧ Tab.get none t.hft.slots c.record = some c.slot ∧ t.hft.commit = none ∧
      t.get HFT.STATUS_COMMITTED = 1 ∧ t.get HFT.WSTAT_PENDING = 0 ∧ t.get HFT.WSTAT_RESULT = 0 ∧ t.get HFT.WSTAT_RECORD = c.record ∧
      t.get HFT.WSTAT_GEN = c.gen % 65536 ∧ t.mem = s.mem) ∧
  (∀ s : State, s.hft.commit = none → exec .tagCommitDone s = .next s)

/-- The tag's authentication (R314 to R317, R323, R324), stated where no MAC is carried: VERIFY returns a secured engine to OPEN; with the password it enters SECURED_INSTALLER and clears FAILS, with none stored
it answers 0x6985, and a wrong one is counted and answered 0x63Cx, at the eighth locked out; AUTH1 answers the encrypted challenge,
0x6A88 where no key is stored and 0x6985 in RETIRED; AUTH2 without AUTH1 answers 0x6985, with the rotated challenge enters
SECURED_FACTORY under the session key, and with a wrong one answers 0x6300, OPEN and counted; in lockout each answers 0x6983 and evaluates nothing. The challenge is an open value
(assumption 3). Wired access and passthrough (R319, R324, R327 to R329, R331): a wired READ fills WBUF and a WRITE begins a commit under
the grant, else DENIED under the rights, MEM_FAIL for a record that failed recovery, or BUSY under NOWAIT while a commit runs; a
second GO while one is pending is ignored; a request that waits is granted when the commit and the guard have ended. An APDU that the tag passes through waits in PBUF for
the core's answer, its refusal, or 500 ms, or goes to the sequencer of the tag lease; with no target it answers 0x6F00, and with
PASS 0 0x6D00. Where a clause rests on the model's own choice, that is one of assumptions 6, 20, 21, 41 or 56. -/
def Obligations.TagAuthenticationAndPassthrough : Prop :=
  (∀ (s : State) (a : Apdu) (pw : List Nat), s.tagFree → a.le ≤ 256 → a.p1 = 0 → a.p2 = 0 → s.get HFT.STATE_LOCKOUT = 0 → a.data.length = 8 →
    pw = (s.recData 0x20).take 8 → s.hft.fails ≤ 8 →
    ∃ t, exec (.verify a) s = .next t ∧ t.mem = s.mem ∧ t.hft.rndB = [] ∧ t.hft.sk = [] ∧
      ((∀ x ∈ pw, x = 0) → t.tgSt = tgOPEN ∧ t.hft.fails = s.hft.fails ∧ t.hft.reply = [0x69, 0x85]) ∧
      ((∃ x ∈ pw, x ≠ 0) → a.data = pw →
        t.tgSt = tgINSTALLER ∧ t.hft.fails = 0 ∧ t.get HFT.STATE_FAILS = 0 ∧ t.hft.reply = [0x90, 0x00]) ∧
      ((∃ x ∈ pw, x ≠ 0) → a.data ≠ pw → t.tgSt = tgOPEN ∧ t.hft.fails = min 8 (s.hft.fails + 1) ∧
        t.get HFT.STATE_FAILS = min 8 (s.hft.fails + 1) ∧ t.get HFT.STATUS_AUTH_FAIL = 1 ∧
        t.hft.reply = [0x63, 0xC0 + (8 - min 8 (s.hft.fails + 1))] ∧
        t.get HFT.STATE_LOCKOUT = (if 7 ≤ s.hft.fails then 1 else 0) ∧ (7 ≤ s.hft.fails → t.get HFT.STATUS_LOCKOUT = 1))) ∧
  (∀ (s : State) (a : Apdu) (c : Instr), s.tagFree → a.data.length ≤ 255 → a.le ≤ 256 → s.get HFT.STATE_LOCKOUT ≠ 0 →
    (c = .verify a ∨ c = .auth1 a ∨ c = .auth2 a) →
    ∃ t, exec c s = .next t ∧ t.hft.reply = [0x69, 0x83] ∧ t.hft.fails = s.hft.fails ∧ t.get HFT.STATE_LOCKOUT = s.get HFT.STATE_LOCKOUT ∧
      t.tgSt = (if c = .auth2 a then s.tgSt else tgOPEN) ∧ t.mem = s.mem) ∧
  (∀ (s : State) (a : Apdu) (c : Instr) (sw : Nat), s.tagFree → a.data.length ≤ 255 → a.le ≤ 256 → s.get HFT.STATE_LOCKOUT = 0 →
    (c = .verify a ∧ ((a.p1 ≠ 0 ∨ a.p2 ≠ 0) ∧ sw = 0x6A86 ∨ a.p1 = 0 ∧ a.p2 = 0 ∧ a.data.length ≠ 8 ∧ sw = 0x6700) ∨
     c = .auth1 a ∧ ((3 < a.p1 ∨ a.p2 ≠ 0) ∧ sw = 0x6A86 ∨ a.p1 ≤ 3 ∧ a.p2 = 0 ∧ (a.data ≠ [] ∨ a.le ≠ 16) ∧ sw = 0x6700 ∨
       a.p1 ≤ 3 ∧ a.p2 = 0 ∧ a.data = [] ∧ a.le = 16 ∧ s.lc = lcRETIRED ∧ sw = 0x6985 ∨
       a.p1 ≤ 3 ∧ a.p2 = 0 ∧ a.data = [] ∧ a.le = 16 ∧ s.lc ≠ lcRETIRED ∧ s.obj 0x4105 (a.p1 + 1) [] = [] ∧ sw = 0x6A88) ∨
     c = .auth2 a ∧ ((a.p1 ≠ 0 ∨ a.p2 ≠ 0) ∧ sw = 0x6A86 ∨ a.p1 = 0 ∧ a.p2 = 0 ∧ s.hft.rndB = [] ∧ sw = 0x6985 ∨
       a.p1 = 0 ∧ a.p2 = 0 ∧ s.hft.rndB ≠ [] ∧ a.data.length ≠ 32 ∧ sw = 0x6700)) →
    ∃ t, exec c s = .next t ∧ t.hft.reply = toBe 2 sw ∧ t.hft.fails = s.hft.fails ∧ t.tgSt = (if c = .auth2 a then s.tgSt else tgOPEN) ∧
      (c = .auth1 a → t.hft.rndB = []) ∧ t.mem = s.mem) ∧
  (∀ (s : State) (a : Apdu) (key : List Nat), s.tagFree → a.p1 ≤ 3 → a.p2 = 0 → a.data = [] → a.le = 16 → s.get HFT.STATE_LOCKOUT = 0 →
    s.lc ≠ lcRETIRED → s.obj 0x4105 (a.p1 + 1) [] = key → key ≠ [] →
    ∃ t, exec (.auth1 a) s = .next t ∧ t.tgSt = tgOPEN ∧ t.hft.rndB = (s.freshL 16 256).1 ∧ t.hft.key = key ∧
      t.hft.reply = aesEnc key (s.freshL 16 256).1 ++ [0x90, 0x00] ∧ t.mem = s.mem) ∧
  (∀ (s : State) (a : Apdu), s.tagFree → a.le ≤ 256 → a.p1 = 0 → a.p2 = 0 → s.get HFT.STATE_LOCKOUT = 0 → s.hft.rndB ≠ [] →
    a.data.length = 32 →
    ∃ t, exec (.auth2 a) s = .next t ∧ t.hft.rndB = [] ∧ t.mem = s.mem ∧
      (xorBytes (aesDec s.hft.key (a.data.drop 16)) (a.data.take 16) = rot1 s.hft.rndB →
        t.tgSt = tgFACTORY ∧ t.hft.fails = 0 ∧ t.hft.ctr = 0 ∧
        t.hft.sk = aesEnc s.hft.key ((aesDec s.hft.key (a.data.take 16)).take 8 ++ s.hft.rndB.take 8) ∧
        t.hft.reply = aesEnc s.hft.key (rot1 (aesDec s.hft.key (a.data.take 16))) ++ [0x90, 0x00]) ∧
      (xorBytes (aesDec s.hft.key (a.data.drop 16)) (a.data.take 16) ≠ rot1 s.hft.rndB →
        t.tgSt = tgOPEN ∧ t.hft.fails = min 8 (s.hft.fails + 1) ∧ t.hft.sk = [] ∧ t.hft.reply = [0x63, 0x00])) ∧
  (∀ (s : State) (m : Master) (r : Nat) (nw : Bool), r < 256 → s.get HFT.WSTAT_PENDING = 0 → s.hft.commit = none →
    s.get HFT.STATE_GUARD = 0 → (bitOf (s.rights r) 6 = false ∨ m ≠ .hostLink) → s.hft.fieldWait = none →
    ∃ t, exec (.wiredRead m r nw) s = .next t ∧ t.get HFT.WSTAT_PENDING = 0 ∧ t.get HFT.WSTAT_RECORD = r ∧ t.get HFT.STATUS_WGRANT = 1 ∧
      (s.hft.failed.contains r = false → t.get HFT.WSTAT_RESULT = 0 ∧
        ∀ i, i < 62 → t.get HFT.WBUF_DATA i = le32 (s.recData r) (4 * i) % 4294967296) ∧
      (s.hft.failed.contains r = true → t.get HFT.WSTAT_RESULT = 4 ∧
        ∀ i, i < 62 → t.get HFT.WBUF_DATA i = s.get HFT.WBUF_DATA i) ∧ t.mem = s.mem) ∧
  (∀ (s : State) (m : Master) (r : Nat) (nw : Bool), r < 256 → s.get HFT.WSTAT_PENDING = 0 → s.hft.commit = none →
    s.get HFT.STATE_GUARD = 0 → bitOf (s.rights r) 5 = false → (bitOf (s.rights r) 4 = false ∨ s.lcSealed = false) →
    ∃ t c, exec (.wiredWrite m r nw) s = .next t ∧ t.get HFT.WSTAT_PENDING = 1 ∧ t.get HFT.STATUS_WGRANT = 1 ∧
      t.hft.commit = some c ∧ c.record = r ∧ c.field = false ∧ c.gen = (Tab.get 0 s.hft.genP r + 1) % 65536 ∧
      c.slot = recSlot s.wbuf r c.gen ∧ t.mem = s.mem) ∧
  (∀ (s : State) (m : Master) (r : Nat) (nw : Bool), r < 256 → s.get HFT.WSTAT_PENDING = 0 →
    (bitOf (s.rights r) 6 = true → m = .hostLink →
      ∃ t, exec (.wiredRead m r nw) s = .next t ∧ t.get HFT.WSTAT_RESULT = 2 ∧ t.get HFT.WSTAT_PENDING = 0 ∧ t.hft = s.hft ∧ t.mem = s.mem ∧
        ∀ i, i < 62 → t.get HFT.WBUF_DATA i = s.get HFT.WBUF_DATA i) ∧
    ((bitOf (s.rights r) 5 = true ∨ bitOf (s.rights r) 4 = true ∧ s.lcSealed = true) →
      ∃ t, exec (.wiredWrite m r nw) s = .next t ∧ t.get HFT.WSTAT_RESULT = 2 ∧ t.get HFT.WSTAT_PENDING = 0 ∧ t.hft = s.hft ∧
        t.mem = s.mem)) ∧
  (∀ (s : State) (m : Master) (r : Nat) (nw : Bool), s.get HFT.WSTAT_PENDING ≠ 0 →
    exec (.wiredRead m r nw) s = .next s ∧ exec (.wiredWrite m r nw) s = .next s) ∧
  (∀ (s : State) (m : Master) (r : Nat), r < 256 → s.get HFT.WSTAT_PENDING = 0 → s.hft.commit ≠ none → ∀ c,
    (c = Instr.wiredRead m r true ∧ (bitOf (s.rights r) 6 = false ∨ m ≠ .hostLink) ∨
      c = Instr.wiredWrite m r true ∧ bitOf (s.rights r) 5 = false ∧ (bitOf (s.rights r) 4 = false ∨ s.lcSealed = false)) →
    ∃ t, exec c s = .next t ∧ t.get HFT.WSTAT_RESULT = 1 ∧ t.get HFT.WSTAT_PENDING = 0 ∧ t.hft = s.hft ∧ t.mem = s.mem) ∧
  (∀ (s : State) (m : Master) (r : Nat) (nw w : Bool), r < 256 → s.get HFT.WSTAT_PENDING = 0 →
    (s.hft.commit ≠ none ∧ nw = false ∨ s.hft.commit = none ∧ s.get HFT.STATE_GUARD ≠ 0) → ∀ c,
    (c = Instr.wiredRead m r nw ∧ w = false ∧ (bitOf (s.rights r) 6 = false ∨ m ≠ .hostLink) ∨
      c = Instr.wiredWrite m r nw ∧ w = true ∧ bitOf (s.rights r) 5 = false ∧ (bitOf (s.rights r) 4 = false ∨ s.lcSealed = false)) →
    ∃ t, exec c s = .next t ∧ t.get HFT.WSTAT_PENDING = 1 ∧ t.get HFT.WSTAT_RECORD = r ∧ t.hft.wiredWait = some (r, w) ∧
      t.hft.commit = s.hft.commit ∧ t.mem = s.mem) ∧
  (∀ (s : State) (r : Nat), s.hft.wiredWait = some (r, true) → s.hft.commit = none → s.get HFT.STATE_GUARD = 0 →
    ∃ t c, exec .wgrant s = .next t ∧ t.get HFT.STATUS_WGRANT = 1 ∧ t.hft.wiredWait = none ∧ t.hft.commit = some c ∧
      c.record = r ∧ c.slot = recSlot s.wbuf r c.gen ∧ t.mem = s.mem) ∧
  (∀ (s : State) (r : Nat), r < 256 → s.hft.wiredWait = some (r, false) → s.hft.commit = none → s.get HFT.STATE_GUARD = 0 →
    s.hft.fieldWait = none →
    ∃ t, exec .wgrant s = .next t ∧ t.get HFT.STATUS_WGRANT = 1 ∧ t.hft.wiredWait = none ∧ t.get HFT.WSTAT_PENDING = 0 ∧
      (s.hft.failed.contains r = false → t.get HFT.WSTAT_RESULT = 0 ∧
        ∀ i, i < 62 → t.get HFT.WBUF_DATA i = le32 (s.recData r) (4 * i) % 4294967296) ∧
      (s.hft.failed.contains r = true → t.get HFT.WSTAT_RESULT = 4) ∧ t.mem = s.mem) ∧
  (∀ s : State, (s.hft.wiredWait = none ∨ s.hft.commit ≠ none ∨ s.get HFT.STATE_GUARD ≠ 0) → exec .wgrant s = .next s) ∧
  (∀ (s : State) (a : Apdu), s.tagFree → a.cla = 0x90 → 0x80 ≤ a.ins → a.ins ≤ 0xBF → a.p1 < 256 → a.p2 < 256 → a.data.length ≤ 255 →
    a.le ≤ 256 → (∀ x ∈ a.data, x < 256) → s.get HFT.CTRL_PASS = 1 → s.bit PWR.STATE_DOM 3 = true →
    ∃ t, exec (.tagPassthroughApdu a) s = .next t ∧ t.get HFT.PSTAT_PENDING = 1 ∧ t.get HFT.PSTAT_CLEN = (apduBytes a).length ∧
      t.get HFT.STATUS_PASS_REQ = 1 ∧ t.hft.passSeq = false ∧ t.pbuf (apduBytes a).length = apduBytes a ∧ t.hft.reply = s.hft.reply ∧
      t.mem = s.mem) ∧
  (∀ (s : State) (a : Apdu) (n : Nat), s.tagFree → a.cla = 0x90 → 0x80 ≤ a.ins → a.ins ≤ 0xBF → a.data.length ≤ 255 →
    a.le ≤ 256 → s.get HFT.CTRL_PASS = 2 → s.bit PWR.STATE_DOM 3 = true → s.get LSC.HF_STATE_HFT_HELD ≠ 0 →
    s.get LSC.HF_STATE_HFT_OWNER = n → n < 16 →
    ∃ t, exec (.tagPassthroughApdu a) s = .next t ∧ t.get HFT.PSTAT_PENDING = 1 ∧ t.hft.passSeq = true ∧
      (t.seqAt n).rxstat = 65536 * (8 * (apduBytes a).length) + 17 ∧ t.bit LSC.EVP_EVP evRXD n = true ∧ t.hft.reply = s.hft.reply) ∧
  (∀ (s : State) (a : Apdu) (sw : Nat), s.tagFree → a.data.length ≤ 255 → a.le ≤ 256 →
    (a.cla ≠ 0 ∧ a.cla ≠ 0x90 ∧ sw = 0x6E00 ∨ a.cla = 0 ∧ a.ins ≠ 0xA4 ∧ a.ins ≠ 0xB0 ∧ a.ins ≠ 0xD6 ∧ sw = 0x6D00 ∨
     a.cla = 0x90 ∧ (0xBF < a.ins ∨ a.ins < 0x80 ∧ a.ins ∉ [0x10, 0x20, 0x30, 0x31, 0x40, 0x42, 0x44, 0x46]) ∧ sw = 0x6D00 ∨
     a.cla = 0x90 ∧ 0x80 ≤ a.ins ∧ a.ins ≤ 0xBF ∧ ((s.get HFT.CTRL_PASS = 0 ∨ s.get HFT.CTRL_PASS = 3) ∧ sw = 0x6D00 ∨
       (s.get HFT.CTRL_PASS = 1 ∨ s.get HFT.CTRL_PASS = 2) ∧ s.bit PWR.STATE_DOM 3 = false ∧ sw = 0x6F00 ∨
       s.get HFT.CTRL_PASS = 2 ∧ s.get LSC.HF_STATE_HFT_HELD = 0 ∧ sw = 0x6F00)) →
    exec (.tagPassthroughApdu a) s = .next (s.apduStart.tagReply (toBe 2 sw))) ∧
  (∀ (s : State) (m : Master) (n : Nat), s.get HFT.PSTAT_PENDING ≠ 0 → s.hft.passSeq = false → 2 ≤ n → n ≤ 258 →
    exec (.pcmdRespond m n) s = .next (((s.set HFT.PCMD_RLEN n).set HFT.PSTAT_PENDING 0).tagReply
      (s.rApdu ((s.pbuf n).take (n - 2)) (ofBe ((s.pbuf n).drop (n - 2)))))) ∧
  (∀ (s : State) (m : Master) (n : Nat), s.get HFT.PSTAT_PENDING ≠ 0 → s.hft.passSeq = false → s.hft.macCtr = none → 2 ≤ n →
    n ≤ 258 →
    ∃ t, exec (.pcmdRespond m n) s = .next t ∧ t.get HFT.PSTAT_PENDING = 0 ∧ t.hft.reply = s.pbuf n ∧ t.get HFT.PCMD_RLEN = n ∧
      t.mem = s.mem ∧ regsSame s t [HFT.PSTAT_PENDING.key 0, HFT.PCMD_RLEN.key 0]) ∧
  (∀ (s : State) (m : Master) (n : Nat), (s.get HFT.PSTAT_PENDING = 0 ∨ s.hft.passSeq = true ∨ n < 2 ∨ 258 < n) →
    exec (.pcmdRespond m n) s = .next (s.set HFT.PCMD_RLEN n)) ∧
  (∀ (s : State) (m : Master), s.get HFT.PSTAT_PENDING ≠ 0 → s.hft.passSeq = false →
    exec (.pcmdReject m) s = .next ((s.set HFT.PSTAT_PENDING 0).tagReply (s.rApdu [] 0x6D00))) ∧
  (∀ s : State, s.get HFT.PSTAT_PENDING ≠ 0 →
    exec .passthroughTimeout s = .next ((s.set HFT.PSTAT_PENDING 0).tagReply (s.rApdu [] 0x6F00))) ∧
  (∀ (s : State) (m : Master), (s.get HFT.PSTAT_PENDING = 0 ∨ s.hft.passSeq = true) → exec (.pcmdReject m) s = .next s) ∧
  (∀ s : State, s.get HFT.PSTAT_PENDING = 0 → exec .passthroughTimeout s = .next s)

/-! ### The angle timebase (R35 to R67, R566, R567) -/

/-- ATB enable, disable and source (R41, R62, R566, R567), no slot running: EN set enters ACQUIRE with the mains source and FREE with
SYNTH, at the nominal rate; EN cleared enters OFF, the position holds and the anchor is discarded; a source change restarts it in
ACQUIRE or FREE, CYCLE_VALID cleared and the anchor discarded; a write that changes nothing is ignored. The mains edges and the
holdover (R38, R39, R41, R43, R45): an edge of the polarity that MPOL selects whose level outlasts the filters is taken. In LOCKED_MAINS and HOLDOVER
one within the window and the frequency range goes into PHERR and PERIOD and steers the loop, and one outside is BAD_EDGE or FREQ_RANGE and moves
nothing else. The first one in ACQUIRE, FREE or the fallback SYNTH steps ANGLE to OFFSET and enters ACQUIRE; the eighth good one in a row enters LOCKED_MAINS;
one off frequency is FREQ_RANGE. Any other edge is ignored. Without edges LOCKED_MAINS goes to HOLDOVER at the last measured period,
as SYNTH does without PTP, and at its limit to FREE, or to SYNTH where PTP is locked and the source is the mains. Where a clause rests on the
model's own choice, that is one of assumptions 38 or 48. -/
def Obligations.AtbSourceEdgesAndHoldover : Prop :=
  (∀ s : State, s.get ATB.CTRL_EN = 0 → s.get ATB.CTRL_SRC = 0 → s.atbSt = abOFF → (∀ k, k < 4 → s.runningSlot k = 0) →
    exec .atbEnable s = .next { (s.set ATB.CTRL_EN 1).set ATB.STATE_STATE abACQUIRE with
      atb := { s.atb with rate := 0, acqStepped := false, goodEdges := 0 } }) ∧
  (∀ s : State, s.get ATB.CTRL_EN = 0 → s.get ATB.CTRL_SRC = 1 → s.atbSt = abOFF → (∀ k, k < 4 → s.runningSlot k = 0) →
    (s.atb.anchor = none ∨ s.get ATB.STATE_PTP_OK = 0) →
    exec .atbEnable s = .next { (s.set ATB.CTRL_EN 1).set ATB.STATE_STATE abFREE with atb := { s.atb with rate := 0 } }) ∧
  (∀ s : State, s.get ATB.CTRL_EN ≠ 0 → exec .atbEnable s = .next s) ∧
  (∀ s : State, s.get ATB.CTRL_EN ≠ 0 → s.atbSt ≠ abOFF → (∀ k, k < 4 → s.runningSlot k = 0) →
    ∃ t, exec .atbDisable s = .next t ∧ t.get ATB.CTRL_EN = 0 ∧ t.get ATB.STATE_CYCLE_VALID = 0 ∧ t.atbSt = abOFF ∧
      t.atb = { s.atb with anchor := none } ∧ t.mem = s.mem ∧
      regsSame s t [ATB.CTRL_EN.key 0, ATB.STATE_CYCLE_VALID.key 0, ATB.STATE_STATE.key 0]) ∧
  (∀ s : State, s.get ATB.CTRL_EN = 0 → exec .atbDisable s = .next s) ∧
  (∀ (s : State) (src : Nat), s.get ATB.CTRL_EN ≠ 0 → src % 2 ≠ s.get ATB.CTRL_SRC → (∀ k, k < 4 → s.runningSlot k = 0) →
    ∃ t, exec (.atbSourceChange src) s = .next t ∧ t.get ATB.CTRL_SRC = src % 2 ∧ t.get ATB.STATE_CYCLE_VALID = 0 ∧
      t.atbSt = (if src % 2 = 1 then abFREE else abACQUIRE) ∧
      t.atb = { s.atb with anchor := none, acqStepped := false, goodEdges := 0 } ∧ t.mem = s.mem ∧
      regsSame s t [ATB.CTRL_SRC.key 0, ATB.STATE_CYCLE_VALID.key 0, ATB.STATE_STATE.key 0]) ∧
  (∀ (s : State) (src : Nat), src % 2 = s.get ATB.CTRL_SRC → exec (.atbSourceChange src) s = .next s) ∧
  (∀ (s : State) (src : Nat), src % 2 ≠ s.get ATB.CTRL_SRC → s.get ATB.CTRL_EN = 0 →
    exec (.atbSourceChange src) s = .next (s.set ATB.CTRL_SRC src)) ∧
  (∀ s : State, (∀ k, k < 4 → s.runningSlot k = 0) → exec .atbStandaloneClear s = .next (s.set ATB.CTRL_STANDALONE 0)) ∧
  (∀ (s : State) (v : Nat), exec (.atbOffsetWrite v) s = .next (s.set ATB.OFFSET_OFFSET v)) ∧
  (∀ (s : State) (rising : Bool) (held angle spacing p g : Nat) (err : Int), angle < 65536 → s.mainsPasses rising held = true →
    (s.atbSt = abLOCKED ∨ s.atbSt = abHOLDOVER) → s.get ATB.CTRL_SRC = 0 → (∀ k, k < 4 → s.runningSlot k = 0) →
    p = spacing / max 1 ((2 * spacing + s.atbPeriod) / (2 * s.atbPeriod)) → err = angleErr angle s.atb.offApplied →
    err.natAbs ≤ 1024 → s.freqOk p = true → p < 4294967296 → g = (if err.natAbs ≤ 16 then s.atb.goodEdges + 1 else 0) →
    ∃ t, exec (.mainsSyncEdge rising held angle spacing) s = .next t ∧ t.get ATB.PHERR_PHERR = unsignedOf 16 err ∧
      t.get ATB.PERIOD_PERIOD = p ∧ t.atbSt = (if 8 ≤ g then abLOCKED else s.atbSt) ∧
      t.atb = { s.atb with rate := max 1 (Config.dpllPeriod (s.get ATB.CTRL_BW) (unsignedOf 16 err) s.atbRate p), goodEdges := g } ∧
      t.mem = s.mem) ∧
  (∀ (s : State) (rising : Bool) (held angle spacing p : Nat), angle < 65536 → s.mainsPasses rising held = true →
    (s.atbSt = abLOCKED ∨ s.atbSt = abHOLDOVER) → s.get ATB.CTRL_SRC = 0 →
    p = spacing / max 1 ((2 * spacing + s.atbPeriod) / (2 * s.atbPeriod)) →
    (1024 < (angleErr angle s.atb.offApplied).natAbs → s.freqOk p = true →
      exec (.mainsSyncEdge rising held angle spacing) s = .next (s.set ATB.STATUS_BAD_EDGE 1)) ∧
    ((angleErr angle s.atb.offApplied).natAbs ≤ 1024 → s.freqOk p = false →
      exec (.mainsSyncEdge rising held angle spacing) s = .next (s.set ATB.STATUS_FREQ_RANGE 1)) ∧
    (1024 < (angleErr angle s.atb.offApplied).natAbs → s.freqOk p = false →
      exec (.mainsSyncEdge rising held angle spacing) s = .next ((s.set ATB.STATUS_BAD_EDGE 1).set ATB.STATUS_FREQ_RANGE 1))) ∧
  (∀ (s : State) (rising : Bool) (held angle spacing g : Nat) (err : Int), angle < 65536 → s.mainsPasses rising held = true → s.atbSt = abACQUIRE →
    s.atb.acqStepped = true → s.get ATB.CTRL_SRC = 0 → (∀ k, k < 4 → s.runningSlot k = 0) → s.freqOk spacing = true → spacing < 4294967296 →
    err = angleErr angle s.atb.offApplied → g = (if err.natAbs ≤ 16 then s.atb.goodEdges + 1 else 0) →
    ∃ t, exec (.mainsSyncEdge rising held angle spacing) s = .next t ∧ t.get ATB.PHERR_PHERR = unsignedOf 16 err ∧
      t.get ATB.PERIOD_PERIOD = spacing ∧ t.atbSt = (if 8 ≤ g then abLOCKED else abACQUIRE) ∧
      (8 ≤ g → t.get ATB.STATUS_LOCKED = 1) ∧
      t.atb = { s.atb with rate := max 1 (Config.dpllPeriod (s.get ATB.CTRL_BW) (unsignedOf 16 err) s.atbRate spacing), goodEdges := g } ∧
      t.mem = s.mem) ∧
  (∀ (s : State) (rising : Bool) (held angle spacing : Nat), angle < 65536 → s.mainsPasses rising held = true → s.get ATB.CTRL_SRC = 0 →
    (s.atbSt = abFREE ∨ s.atbSt = abSYNTH ∨ s.atbSt = abACQUIRE ∧ s.atb.acqStepped = false) → (∀ k, k < 4 → s.runningSlot k = 0) →
    s.freqOk spacing = true → spacing < 4294967296 →
    ∃ t, exec (.mainsSyncEdge rising held angle spacing) s = .next t ∧ t.atbSt = abACQUIRE ∧ t.atb.angle = s.get ATB.OFFSET_OFFSET ∧
      t.atb.offApplied = s.get ATB.OFFSET_OFFSET ∧ t.atb.acqStepped = true ∧ t.atb.goodEdges = 0 ∧
      t.get ATB.PERIOD_PERIOD = spacing ∧ t.get ATB.PHERR_PHERR = unsignedOf 16 (angleErr angle (s.get ATB.OFFSET_OFFSET)) ∧
      (s.atb.adjArmed = false → t.get ATB.STATE_CYCLE_VALID = 0)) ∧
  (∀ (s : State) (rising : Bool) (held angle spacing : Nat), s.mainsPasses rising held = true → s.get ATB.CTRL_SRC = 0 →
    (s.atbSt = abACQUIRE ∨ s.atbSt = abFREE ∨ s.atbSt = abSYNTH) → s.freqOk spacing = false →
    exec (.mainsSyncEdge rising held angle spacing) s = .next { s.set ATB.STATUS_FREQ_RANGE 1 with atb := { s.atb with goodEdges := 0 } }) ∧
  (∀ (s : State) (rising : Bool) (held angle spacing : Nat), (s.atbSt = abOFF ∨ s.get ATB.CTRL_SRC ≠ 0 ∨ s.mainsPasses rising held = false) →
    exec (.mainsSyncEdge rising held angle spacing) s = .next s) ∧
  (∀ s : State, (s.atbSt = abLOCKED ∨ s.atbSt = abSYNTH ∧ s.get ATB.CTRL_SRC ≠ 0) → (∀ k, k < 4 → s.runningSlot k = 0) →
    ∃ t, exec .holdover s = .next t ∧ t.atbSt = abHOLDOVER ∧ t.get ATB.STATUS_SYNC_LOST = 1 ∧
      t.atb = { s.atb with goodEdges := 0, holdAt := s.now, rate := if s.get ATB.CTRL_SRC = 0 then s.atbPeriod else 0 } ∧
      t.lum.pdUnsync = true ∧ t.mem = s.mem ∧ regsSame s t [ATB.STATE_STATE.key 0, ATB.STATUS_SYNC_LOST.key 0]) ∧
  (∀ s : State, s.atbSt ≠ abLOCKED → (s.atbSt ≠ abSYNTH ∨ s.get ATB.CTRL_SRC = 0) → exec .holdover s = .next s) ∧
  (∀ s : State, s.atbSt = abHOLDOVER → (s.get ATB.STATE_PTP_OK = 0 ∨ s.get ATB.CTRL_SRC ≠ 0) → (∀ k, k < 4 → s.runningSlot k = 0) →
    exec .holdExpired s = .next ((s.set ATB.STATUS_HOLD_EXPIRED 1).set ATB.STATE_STATE abFREE)) ∧
  (∀ s : State, s.atbSt = abHOLDOVER → s.get ATB.CTRL_SRC = 0 → s.get ATB.STATE_PTP_OK ≠ 0 →
    (∀ k, k < 4 → s.runningSlot k = 0) →
    ∃ t, exec .holdExpired s = .next t ∧ t.atbSt = abSYNTH ∧ t.get ATB.STATUS_HOLD_EXPIRED = 1 ∧ t.get ATB.STATUS_LOCKED = 1 ∧
      (s.atb.anchor = none → t.atb = { s.atb with rate := 0 }) ∧ t.atb.cycle = s.atb.cycle ∧ t.atb.angle = s.atb.angle ∧ t.mem = s.mem ∧
      regsSame s t [ATB.STATUS_HOLD_EXPIRED.key 0, ATB.STATE_STATE.key 0, ATB.STATUS_LOCKED.key 0]) ∧
  (∀ s : State, s.atbSt ≠ abHOLDOVER → exec .holdExpired s = .next s)

/-- The cycle boundary and the anchor (R46 to R50, R57), no slot running: CYCLE advances by one modulo 2^32 with WRAP at its wrap,
the angle is 0 and the boundary's timestamp is kept; an armed plan whose cycle has come is swapped in; an OFFSET written since is a phase step
into ACQUIRE. An anchor is refused in OFF and ACQUIRE with 3, without PTP lock with 2, without a boundary near it with 1; an accepted one
sets CYCLE_ADJ from the boundaries since the nearest and arms it. Plans (R55, R56, R58): ARM is BUSY while a
plan is armed, else checked; SLOTS above 32 is refused with 1 and an empty plan for a later cycle is armed; DISARM disarms; a slot word is
written to the pending bank or read, WADDR moving on, and the active bank or an armed plan takes no write; the object's write is
BUSY while armed. Where a clause rests on the model's own choice, that is one of assumptions 35, 38 or 48. -/
def Obligations.AtbBoundariesAndPlans : Prop :=
  (∀ (s : State) (ns : Nat), s.atbSt ≠ abOFF → (∀ k, k < 4 → s.runningSlot k = 0) → s.atb.adjArmed = false →
    (s.get ATB.OFFSET_OFFSET = s.atb.offApplied ∨ s.get ATB.CTRL_SRC ≠ 0) → s.get ATB.PLAN_CTRL_ARMED = 0 →
    ∃ t, exec (.cycleBoundary ns) s = .next t ∧ t.atb.cycle = (s.atb.cycle + 1) % 4294967296 ∧ t.atb.angle = 0 ∧ t.atb.frac = 0 ∧
      t.get ATB.STATUS_CYCLE = 1 ∧ (s.atb.cycle = 4294967295 → t.get ATB.STATUS_WRAP = 1) ∧
      t.atb.stamps = (ns :: s.atb.stamps).take 256 ∧ t.mem = s.mem ∧ regsSame s t [ATB.STATUS_CYCLE.key 0, ATB.STATUS_WRAP.key 0]) ∧
  (∀ (s : State) (ns : Nat), s.atbSt ≠ abOFF → (∀ k, k < 4 → s.runningSlot k = 0) → s.atb.adjArmed = false →
    (s.get ATB.OFFSET_OFFSET = s.atb.offApplied ∨ s.get ATB.CTRL_SRC ≠ 0) → s.get ATB.PLAN_CTRL_ARMED = 1 →
    ∃ t, exec (.cycleBoundary ns) s = .next t ∧
      (cycAfter (s.get ATB.PLAN_ACT_ACT_CYCLE) ((s.atb.cycle + 1) % 4294967296) = false →
        t.atb.actWords = s.atb.pendWords ∧ t.atb.pendWords = s.atb.actWords ∧
        t.atb.actSlots = s.get ATB.PLAN_CTRL_SLOTS ∧ t.get ATB.PLAN_CTRL_ARMED = 0 ∧ t.get ATB.STATUS_PLAN_ACT = 1) ∧
      (cycAfter (s.get ATB.PLAN_ACT_ACT_CYCLE) ((s.atb.cycle + 1) % 4294967296) = true →
        t.atb.actWords = s.atb.actWords ∧ t.atb.pendWords = s.atb.pendWords ∧ t.get ATB.PLAN_CTRL_ARMED = 1) ∧
      t.atb.cycle = (s.atb.cycle + 1) % 4294967296 ∧ t.mem = s.mem) ∧
  (∀ (s : State) (ns : Nat), s.atbSt ≠ abOFF → (∀ k, k < 4 → s.runningSlot k = 0) → s.atb.adjArmed = false →
    s.get ATB.OFFSET_OFFSET ≠ s.atb.offApplied → s.get ATB.CTRL_SRC = 0 →
    ∃ t, exec (.cycleBoundary ns) s = .next t ∧ t.atb.angle = (65536 + s.get ATB.OFFSET_OFFSET - s.atb.offApplied) % 65536 ∧
      t.atb.offApplied = s.get ATB.OFFSET_OFFSET ∧ t.atbSt = abACQUIRE ∧ t.atb.acqStepped = false ∧ t.atb.goodEdges = 0) ∧
  (∀ (s : State) (ns : Nat), s.atbSt = abOFF → exec (.cycleBoundary ns) s = .next s) ∧
  (∀ (s : State) (ns : Nat), (s.atbSt = abOFF ∨ s.atbSt = abACQUIRE) →
    exec (.anchorEvaluate ns) s = .next ((s.setObj 0x2020 2 (toLe 8 ns)).setObj 0x2020 3 [3])) ∧
  (∀ (s : State) (ns : Nat), s.atbSt ≠ abOFF → s.atbSt ≠ abACQUIRE → s.get ATB.STATE_PTP_OK = 0 →
    exec (.anchorEvaluate ns) s = .next ((s.setObj 0x2020 2 (toLe 8 ns)).setObj 0x2020 3 [2])) ∧
  (∀ (s : State) (ns : Nat), s.atbSt ≠ abOFF → s.atbSt ≠ abACQUIRE → s.get ATB.STATE_PTP_OK ≠ 0 →
    (∀ x ∈ s.atb.stamps, s.quarterCycle ((x : Int) - ns).natAbs = false) →
    exec (.anchorEvaluate ns) s = .next ((s.setObj 0x2020 2 (toLe 8 ns)).setObj 0x2020 3 [1])) ∧
  (∀ (s : State) (ns i : Nat), (s.atbSt = abLOCKED ∨ s.atbSt = abSYNTH ∨ s.get ATB.CTRL_SRC = 0 ∧ (s.atbSt = abHOLDOVER ∨ s.atbSt = abFREE)) →
    s.get ATB.STATE_PTP_OK ≠ 0 → s.anchorFind ns = some i →
    ∃ t, exec (.anchorEvaluate ns) s = .next t ∧ t.get ATB.CYCLE_ADJ_DELTA =
        (ofLe (s.obj 0x2020 1 [0, 0, 0, 0]) + i + 4294967296 - s.atb.cycle) % 4294967296 ∧ t.atb.adjArmed = true ∧
      t.atb.anchor = some { cycle := ofLe (s.obj 0x2020 1 [0, 0, 0, 0]), ptpNs := ns } ∧ t.obj 0x2020 3 [] = [0] ∧
      t.obj 0x2020 2 [] = toLe 8 ns ∧ t.atb.cycle = s.atb.cycle ∧ t.atb.angle = s.atb.angle ∧ t.mem = s.mem ∧
      regsSame s t [ATB.CYCLE_ADJ_DELTA.key 0]) ∧
  (∀ (s : State) (ns : Nat), s.atbSt = abLOCKED → s.get ATB.STATE_PTP_OK ≠ 0 → s.atb.stamps = [ns] →
    exec (.anchorEvaluate ns) s = .next (({ (s.setObj 0x2020 2 (toLe 8 ns)).set ATB.CYCLE_ADJ_DELTA
      ((ofLe (s.obj 0x2020 1 [0, 0, 0, 0]) + 4294967296 - s.atb.cycle) % 4294967296) with atb := { s.atb with adjArmed := true, anchor := some { cycle := ofLe (s.obj 0x2020 1 [0, 0, 0, 0]), ptpNs := ns } } } : State).setObj 0x2020 3 [0])) ∧
  (∀ s : State, s.get ATB.PLAN_CTRL_ARMED ≠ 0 → exec .planArm s = .next (s.set ATB.PLAN_CTRL_REFUSE 14)) ∧
  (∀ (s : State) (c : Nat), s.get ATB.PLAN_CTRL_ARMED = 0 → s.planCheck (s.get ATB.PLAN_CTRL_SLOTS) (s.get ATB.PLAN_ACT_ACT_CYCLE) false = c →
    exec .planArm s = .next ((s.set ATB.PLAN_CTRL_REFUSE c).set ATB.PLAN_CTRL_ARMED (if c = 0 then 1 else 0))) ∧
  (∀ s : State, s.get ATB.PLAN_CTRL_ARMED = 0 → 32 < s.get ATB.PLAN_CTRL_SLOTS →
    exec .planArm s = .next ((s.set ATB.PLAN_CTRL_REFUSE 1).set ATB.PLAN_CTRL_ARMED 0)) ∧
  (∀ s : State, s.get ATB.PLAN_CTRL_ARMED = 0 → s.get ATB.PLAN_CTRL_SLOTS = 0 →
    cycAfter (s.get ATB.PLAN_ACT_ACT_CYCLE) s.atb.cycle = true →
    exec .planArm s = .next ((s.set ATB.PLAN_CTRL_REFUSE 0).set ATB.PLAN_CTRL_ARMED 1)) ∧
  (∀ s : State, exec .planDisarm s = .next (s.set ATB.PLAN_CTRL_ARMED 0)) ∧
  (∀ (s : State) (v : Nat), s.get ATB.PLAN_ADDR_BANKSEL = 0 → s.get ATB.PLAN_CTRL_ARMED = 0 →
    exec (.planDataAccess true v) s = .next { s.set ATB.PLAN_ADDR_WADDR (s.get ATB.PLAN_ADDR_WADDR + 1) with
      atb := { s.atb with pendWords := Tab.set 0 s.atb.pendWords (s.get ATB.PLAN_ADDR_WADDR) (v % 4294967296) } }) ∧
  (∀ (s : State) (v : Nat), (s.get ATB.PLAN_ADDR_BANKSEL ≠ 0 ∨ s.get ATB.PLAN_CTRL_ARMED ≠ 0) →
    exec (.planDataAccess true v) s = .next (s.set ATB.PLAN_ADDR_WADDR (s.get ATB.PLAN_ADDR_WADDR + 1))) ∧
  (∀ (s : State) (v : Nat), exec (.planDataAccess false v) s =
    .next ((s.set ATB.PLAN_ADDR_WADDR (s.get ATB.PLAN_ADDR_WADDR + 1)).respond
      (Tab.get 0 (if s.get ATB.PLAN_ADDR_BANKSEL = 0 then s.atb.pendWords else s.atb.actWords) (s.get ATB.PLAN_ADDR_WADDR)) false)) ∧
  (∀ (s : State) (b : List Nat), s.odBar 0x2100 0 = odOK → s.xferOpen 0x2100 0 = false → s.get ATB.PLAN_CTRL_ARMED ≠ 0 →
    exec (.pendingPlanWrite b) s = .next (s.set ATB.PLAN_CTRL_REFUSE 14)) ∧
  (∀ (s : State) (b : List Nat), s.odBar 0x2100 0 = odOK → s.xferOpen 0x2100 0 = false → s.get ATB.PLAN_CTRL_ARMED = 0 →
    (∀ r, tblRule 0x2100 = some r → s.tableAbort r b = 0) → byteAt b 18 = 0 → le16 b 20 = s.siteId →
    cycAfter (le32 b 24 % 4294967296) s.atb.cycle = true →
    ∃ t, exec (.pendingPlanWrite b) s = .next t ∧ t.get ATB.PLAN_CTRL_ARMED = 1 ∧ t.get ATB.PLAN_CTRL_REFUSE = 0 ∧
      t.get ATB.PLAN_CTRL_SLOTS = 0 ∧ t.get ATB.PLAN_CTRL_PLAN_ID = le16 b 16 % 65536 ∧ t.mem = s.mem)

/-- Slots, captures and angle events (R44, R59 to R65, R446): a due slot that is not suppressed is prepared, in its own cycle or in the
one before where it starts earlier than the prep lead, starts and ends with its STATUS bits and its mark in CUR_SLOT; its start opens
the windows of its chains and is SLS for the holder of its lease, its end closes them, withdraws the grant of a chain that still
carries, and is SLE and CUT for the holder; a suppressed one only says so. A capture takes the position on the edge that CAP_CFG selects, OVR where the
one before was not read, and nothing on another; an event fires once per cycle on its routes, and a one-shot one turns itself off. The slots started here
have no request waiting for their window, and a leased one is no LISTEN slot. Where a clause rests on the model's own choice, that is one of assumptions
38 or 14. -/
def Obligations.AtbSlotsAndEvents : Prop :=
  (∀ (s : State) (k : Nat) (e : List Nat), e = slotWords s.atb.actWords k → s.suppressed = false → s.atbSt ≠ abOFF →
    k < s.atb.actSlots → slDue e s.atb.cycle = true → s.get ATB.PREP_PREP_LEAD ≤ slStart e → s.slotPrepped k s.atb.cycle = false →
    s.slotSeen k = false → s.atb.angle ≤ slStart e →
    ∃ t, exec (.slotPrep k) s = .next t ∧ t.get ATB.STATUS_SLOT_PREP = 1 ∧ t.slotPrepped k s.atb.cycle = true ∧
      t.atb.angle = (if s.atb.angle < slStart e - s.get ATB.PREP_PREP_LEAD then min 65535 (slStart e - s.get ATB.PREP_PREP_LEAD)
        else s.atb.angle) ∧
      (slCarries e = true → ∀ c ∈ slChains e, bitOf (t.preppedOf c) k = true) ∧ t.mem = s.mem ∧ t.radio = s.radio ∧
      regsSame s t [ATB.STATUS_SLOT_PREP.key 0]) ∧
  (∀ (s : State) (k : Nat) (e : List Nat), e = slotWords (s.planFor true).1 k → s.suppressed = false → s.atbSt ≠ abOFF →
    k < (s.planFor true).2 → slDue e s.nextCycle = true → slStart e < s.get ATB.PREP_PREP_LEAD → s.slotPrepped k s.nextCycle = false →
    (s.atb.actSlots ≤ k ∨ slDue (slotWords s.atb.actWords k) s.atb.cycle = false ∨ s.slotSeen k = true ∨
      slStart (slotWords s.atb.actWords k) < s.get ATB.PREP_PREP_LEAD) →
    ∃ t, exec (.slotPrep k) s = .next t ∧ t.get ATB.STATUS_SLOT_PREP = 1 ∧ t.slotPrepped k s.nextCycle = true ∧
      (slCarries e = true → ∀ c ∈ slChains e, bitOf (t.preppedOf c) k = true) ∧ t.mem = s.mem ∧ regsSame s t [ATB.STATUS_SLOT_PREP.key 0]) ∧
  (∀ (s : State) (k : Nat), (s.suppressed = true ∨ s.atbSt = abOFF) → exec (.slotPrep k) s = .next s) ∧
  (∀ (s : State) (k : Nat) (e : List Nat), e = slotWords s.atb.actWords k → k < 32 → s.suppressed = false → s.atbSt ≠ abOFF →
    k < s.atb.actSlots → slDue e s.atb.cycle = true → s.slotSeen k = false → s.atb.angle ≤ slStart e →
    (∀ c ∈ slChains e, (s.utxAt c).grantAsked = false) → (s.slotLeased (slSheaf e) k = true → slRole e ≠ roleLISTEN) →
    ∃ t, exec (.slotStart k) s = .next t ∧ t.runningSlot (slSheaf e) = k + 1 ∧ t.slotSeen k = true ∧
      t.bit ATB.CUR_SLOT_IN_SLOT (slSheaf e) = true ∧ t.get ATB.CUR_SLOT_LAST_START = k ∧ t.get ATB.STATUS_SLOT_START = 1 ∧
      (slCarries e = true → ∀ c ∈ slChains e, t.bit RGE.STATE_WINDOW c = true ∧
        (s.get SYS.MODE_MODE ≠ 3 → t.bit RGE.STATE_HOLD c = false)) ∧
      (s.slotLeased (slSheaf e) k = true → t.bit LSC.EVP_EVP evSLS (s.get SHF.LEASE_STATE_OWNER (slSheaf e)) = true) ∧ t.mem = s.mem) ∧
  (∀ (s : State) (k : Nat) (e : List Nat), e = slotWords s.atb.actWords k → k < 32 → s.suppressed = false → s.atbSt ≠ abOFF →
    k < s.atb.actSlots → slDue e s.atb.cycle = true → s.slotSeen k = false → s.atb.angle = slStart e →
    s.slotLeased (slSheaf e) k = false → slCarries e = false →
    ∃ t, exec (.slotStart k) s = .next t ∧ t.runningSlot (slSheaf e) = k + 1 ∧ t.mem = s.mem ∧ t.radio = s.radio ∧
      regsSame s t [ATB.CUR_SLOT_IN_SLOT.key 0, ATB.CUR_SLOT_LAST_START.key 0, ATB.STATUS_SLOT_START.key 0]) ∧
  (∀ (s : State) (k : Nat) (e : List Nat), e = slotWords s.atb.actWords k → s.suppressed = true → s.atbSt ≠ abOFF →
    k < s.atb.actSlots → slDue e s.atb.cycle = true → s.slotSeen k = false → s.atb.angle ≤ slStart e →
    ∃ t, exec (.slotStart k) s = .next t ∧ t.slotSeen k = true ∧ t.atb.running = s.atb.running ∧
      t.get ATB.STATUS_SLOT_SUPPRESSED = 1 ∧ t.mem = s.mem ∧
      (s.slotLeased (slSheaf e) k = false → regsSame s t [ATB.STATUS_SLOT_SUPPRESSED.key 0]) ∧
      (s.slotLeased (slSheaf e) k = true → t.bit LSC.EVP_EVP evSLE (s.get SHF.LEASE_STATE_OWNER (slSheaf e)) = true)) ∧
  (∀ (s : State) (k : Nat), (s.atb.actSlots ≤ k ∨ s.atbSt = abOFF ∨ s.slotSeen k = true ∨ slDue (slotWords s.atb.actWords k) s.atb.cycle = false ∨
    slStart (slotWords s.atb.actWords k) < s.atb.angle) → exec (.slotStart k) s = .next s) ∧
  (∀ (s : State) (k : Nat) (e : List Nat), e = slotWords s.atb.actWords k → s.runningSlot (slSheaf e) = k + 1 →
    (∀ c, c < 4 → s.carrier c = false) → slRole e ≠ roleLISTEN → s.slotLeased (slSheaf e) k = false →
    ∃ t, exec (.slotEnd k) s = .next t ∧ t.runningSlot (slSheaf e) = 0 ∧ t.bit ATB.CUR_SLOT_IN_SLOT (slSheaf e) = false ∧
      t.get ATB.STATUS_SLOT_END = 1 ∧ (∀ c ∈ slChains e, t.bit RGE.STATE_WINDOW c = false) ∧ t.mem = s.mem ∧ t.radio = s.radio) ∧
  (∀ (s : State) (k : Nat) (e : List Nat), e = slotWords s.atb.actWords k → s.runningSlot (slSheaf e) = k + 1 →
    (∀ c, c < 4 → s.carrier c = false) → s.slotLeased (slSheaf e) k = true →
    ∃ t, exec (.slotEnd k) s = .next t ∧ t.runningSlot (slSheaf e) = 0 ∧ t.get ATB.STATUS_SLOT_END = 1 ∧
      t.bit LSC.EVP_EVP evSLE (s.get SHF.LEASE_STATE_OWNER (slSheaf e)) = true ∧
      t.get LSC.STATUS_CUT (s.get SHF.LEASE_STATE_OWNER (slSheaf e)) = 1 ∧ t.get SHF.LEASE_STATE_HELD (slSheaf e) = 0) ∧
  (∀ (s : State) (k c : Nat) (e : List Nat), e = slotWords s.atb.actWords k → s.runningSlot (slSheaf e) = k + 1 → c ∈ slChains e →
    s.carrier c = true → s.bit RGE.STATE_GRANT c = true → s.slotLeased (slSheaf e) k = false →
    ∃ t, exec (.slotEnd k) s = .next t ∧ t.runningSlot (slSheaf e) = 0 ∧ t.get ATB.STATUS_SLOT_END = 1 ∧ t.get RGE.STATUS_CUT = 1 ∧
      t.bit RGE.STATE_GRANT c = false ∧ t.bit RGE.STATE_WINDOW c = false) ∧
  (∀ (s : State) (k : Nat), s.runningSlot (slSheaf (slotWords s.atb.actWords k)) ≠ k + 1 → exec (.slotEnd k) s = .next s) ∧
  (∀ (s : State) (ch src ns : Nat) (rising : Bool), ch < 4 → s.capSelects ch src rising ns = true →
    ∃ t, exec (.atbCapture ch src rising ns) s = .next t ∧ t.get ATB.CAP_LO_ANGLE ch = s.atb.angle % 65536 ∧
      Tab.get 0 t.aev.capCycle ch = s.atb.cycle ∧ t.bit ATB.CAP_STATUS_CAPT ch = true ∧ bitOf t.aev.unread ch = true ∧
      t.bit ATB.CAP_STATUS_OVR ch = (s.bit ATB.CAP_STATUS_OVR ch || bitOf s.aev.unread ch) ∧ t.mem = s.mem ∧
      regsSame s t [ATB.CAP_LO_ANGLE.key ch, ATB.CAP_STATUS_CAPT.key 0, ATB.CAP_STATUS_OVR.key 0]) ∧
  (∀ (s : State) (ch src ns : Nat) (rising : Bool), ch < 4 → s.capSelects ch src rising ns = false →
    exec (.atbCapture ch src rising ns) s = .next s) ∧
  (∀ (s : State) (ev : Nat), ev < 8 → (Tab.get 0 s.aev.mode ev = 1 ∨ Tab.get 0 s.aev.mode ev = 2) → s.atbSt ≠ abOFF →
    Tab.get 0 s.aev.fired ev ≠ s.atb.cycle + 1 →
    ∃ t, exec (.angleEvent ev) s = .next t ∧ t.bit ATB.AEV_STATUS_FIRED ev = true ∧
      Tab.get 0 t.aev.mode ev = (if Tab.get 0 s.aev.mode ev = 2 then 0 else 1) ∧
      Tab.get 0 t.aev.fired ev = s.atb.cycle + 1 ∧ t.mem = s.mem ∧
      (bitOf (Tab.get 0 s.aev.route ev) 1 = true → ∀ n, n < 16 → t.bit LSC.EVP_EVP evAEV n = true) ∧
      (bitOf (Tab.get 0 s.aev.route ev) 2 = true → t.lum = s.pdTrigger.lum) ∧
      (bitOf (Tab.get 0 s.aev.route ev) 3 = true → Tab.get 0 t.pulses 4 = Tab.get 0 s.pulses 4 + 1) ∧
      (bitOf (Tab.get 0 s.aev.route ev) 1 = false → regsSame s t [ATB.AEV_STATUS_FIRED.key 0]) ∧
      (bitOf (Tab.get 0 s.aev.route ev) 2 = false → t.lum = s.lum) ∧ (bitOf (Tab.get 0 s.aev.route ev) 3 = false → t.pulses = s.pulses)) ∧
  (∀ (s : State) (ev : Nat), (s.aevReady ev = false ∨ s.atbSt = abOFF) → exec (.angleEvent ev) s = .next s)

/-- R48: an adjustment that ADJ_GO has armed is added to CYCLE, modulo 2^32, at the next boundary, with CYCLE_STEP and CYCLE_VALID;
a backward OFFSET step due there as well (R57) takes one back; an adjustment of 0, no OFFSET being due, leaves everything else
as the boundary alone leaves it. -/
def Obligations.CycleAdjustAtTheNextBoundary : Prop :=
  (∀ s : State, exec .adjGo s = .next { s with atb := { s.atb with adjArmed := true } }) ∧
  (∀ (s : State) (ns : Nat), s.atbSt ≠ abOFF → s.atb.adjArmed = true →
    ∃ t, exec (.cycleBoundary ns) s = .next t ∧
      t.atb.cycle = (s.atb.cycle + 1 + s.get ATB.CYCLE_ADJ_DELTA +
        (if s.get ATB.CTRL_SRC = 0 ∧ 32768 ≤ (65536 + s.get ATB.OFFSET_OFFSET - s.atb.offApplied) % 65536 then 4294967295
          else 0)) % 4294967296 ∧ t.atb.adjArmed = false ∧
      t.get ATB.STATUS_CYCLE_STEP = 1 ∧ t.get ATB.STATE_CYCLE_VALID = 1) ∧
  (∀ (s : State) (ns : Nat), s.atbSt ≠ abOFF → s.atb.adjArmed = true → s.get ATB.CYCLE_ADJ_DELTA = 0 →
    s.get ATB.OFFSET_OFFSET = s.atb.offApplied → (∀ k, k < 4 → s.runningSlot k = 0) →
    ∃ t u, exec (.cycleBoundary ns) s = .next t ∧
      exec (.cycleBoundary ns) { s with atb := { s.atb with adjArmed := false } } = .next u ∧ t.atb = u.atb ∧ t.mem = u.mem ∧
      regsSame u t [ATB.STATUS_CYCLE_STEP.key 0, ATB.STATE_CYCLE_VALID.key 0])

/-! ### The luminaire, the Memory Port and the Granary (R336 to R383) -/

/-- Level, fade and curve (R336, R337, R351): a level is taken with its fade rate, at once where the rate is 0, by at most the rate
per millisecond otherwise; the level reached is looked up in the curve, and an automatic DAPC queued where its ARC changes; the
curve's words are written and read in turn, and during a fade a write is ignored but for CMD_ERR.
The millisecond is the model's step of a fade (assumption 24). The DALI engine (R339, R340, R342, R351): GO starts a frame with its bits on the bus, or is
ignored but for CMD_ERR while one is in progress; a collision ends it with RESULT 3; the frame done, the second sending follows where TWICE asks, then the answer window opens
where an answer is expected; an answer is RESULT 1, a faulty one RESULT 3 and its absence RESULT 2; the queued ARC goes out once the engine is idle.
Where a clause rests on the model's own choice, that is one of assumptions 23, 24 or 57. -/
def Obligations.LevelCurveAndDali : Prop :=
  (∀ (s : State) (m : Master) (v : Nat), 65536 ≤ v → v < 4294967296 →
    exec (.levelWrite m v) s = .next ((s.set LUM.LEVEL_FADE_RATE (v / 65536)).set LUM.LEVEL_TARGET (v % 65536))) ∧
  (∀ (s : State) (m : Master) (v : Nat), v < 65536 →
    ∃ t, exec (.levelWrite m v) s = .next t ∧ t.get LUM.LEVEL_TARGET = v ∧ t.get LUM.LEVEL_FADE_RATE = 0 ∧
      t.get LUM.OUT_NOW = min 0xFF00 v ∧ t.mem = s.mem ∧
      (s.get LUM.OUT_NOW ≠ min 0xFF00 v → t.get LUM.OUT_B_ARC = s.arcOf (min 0xFF00 v)) ∧
      regsSame s t [LUM.LEVEL_FADE_RATE.key 0, LUM.LEVEL_TARGET.key 0, LUM.OUT_NOW.key 0, LUM.OUT_PWM.key 0, LUM.OUT_B_DAC.key 0,
        LUM.OUT_B_ARC.key 0]) ∧
  (∀ (s : State) (l : Nat), s.get LUM.OUT_NOW ≠ s.lumTarget → s.get LUM.LEVEL_FADE_RATE ≠ 0 →
    l = (if s.get LUM.OUT_NOW < s.lumTarget then min s.lumTarget (s.get LUM.OUT_NOW + s.get LUM.LEVEL_FADE_RATE)
      else max s.lumTarget (s.get LUM.OUT_NOW - s.get LUM.LEVEL_FADE_RATE)) →
    ∃ t, exec .presentLevelUpdate s = .next t ∧ t.get LUM.OUT_NOW = l ∧
      t.get LUM.OUT_PWM = lerp (s.curveWord (2 * (l / 256)) % 65536) (s.curveWord (2 * (l / 256 + 1)) % 65536) (l % 256) % 65536 ∧
      t.get LUM.OUT_B_ARC = s.arcOf l ∧
      t.lum.queued = (if s.arcOf l ≠ s.get LUM.OUT_B_ARC ∧ s.get LUM.CTRL_AUTO_DAPC ≠ 0 then some (s.arcOf l) else s.lum.queued) ∧
      t.mem = s.mem ∧ regsSame s t [LUM.OUT_NOW.key 0, LUM.OUT_PWM.key 0, LUM.OUT_B_DAC.key 0, LUM.OUT_B_ARC.key 0]) ∧
  (∀ s : State, s.get LUM.OUT_NOW ≠ s.lumTarget → s.get LUM.LEVEL_FADE_RATE = 0 →
    ∃ t, exec .presentLevelUpdate s = .next t ∧ t.get LUM.OUT_NOW = s.lumTarget ∧ t.get LUM.OUT_B_ARC = s.arcOf s.lumTarget ∧
      t.mem = s.mem) ∧
  (∀ s : State, s.get LUM.OUT_NOW = s.lumTarget → exec .presentLevelUpdate s = .next s) ∧
  (∀ (s : State) (m : Master) (v : Nat), s.get LUM.OUT_NOW = s.lumTarget →
    exec (.curveDataAccess m true v) s = .next (({ s with lum := { s.lum with curve := Tab.set 0 s.lum.curve (s.get LUM.CURVE_ADDR_ADDR) (v % 4294967296) } } : State).set
      LUM.CURVE_ADDR_ADDR (s.get LUM.CURVE_ADDR_ADDR + 1))) ∧
  (∀ (s : State) (m : Master) (v : Nat), s.get LUM.OUT_NOW ≠ s.lumTarget →
    exec (.curveDataAccess m true v) s = .next (s.set LUM.STATUS_CMD_ERR 1)) ∧
  (∀ (s : State) (m : Master) (v : Nat), exec (.curveDataAccess m false v) s =
    .next ((s.respond (s.curveWord (s.get LUM.CURVE_ADDR_ADDR)) false).set LUM.CURVE_ADDR_ADDR (s.get LUM.CURVE_ADDR_ADDR + 1))) ∧
  (∀ (s : State) (m : Master) (v : Nat), s.get LUM.DALI_RX_BUSY = 0 → 2147483648 ≤ v → v < 4294967296 →
    ∃ t, exec (.daliSend m v) s = .next t ∧ t.get LUM.DALI_RX_BUSY = 1 ∧ t.get LUM.DALI_CMD_FRAME = v % 16777216 ∧
      t.get LUM.DALI_CMD_TWICE = bits v 30 30 ∧ t.get LUM.DALI_CMD_EXPECT = bits v 29 29 ∧ t.get LUM.DALI_CMD_LEN24 = bits v 28 28 ∧
      t.get LUM.DALI_RX_RESULT = 0 ∧ t.get LUM.DALI_RX_COLLISION = 0 ∧ t.lum.sending = true ∧ t.lum.again = bitOf v 30 ∧
      t.lum.dali = (if s.bit LUM.CTRL_OUT_EN 2 then true :: bitsMsb (if bitOf v 28 then 24 else 16) v else []) ∧
      t.mem = s.mem ∧ regsSame s t [LUM.DALI_RX_BUSY.key 0, LUM.DALI_CMD_FRAME.key 0, LUM.DALI_CMD_TWICE.key 0, LUM.DALI_CMD_EXPECT.key 0,
        LUM.DALI_CMD_LEN24.key 0, LUM.DALI_RX_RESULT.key 0, LUM.DALI_RX_COLLISION.key 0]) ∧
  (∀ (s : State) (m : Master) (v : Nat), s.get LUM.DALI_RX_BUSY ≠ 0 → 2147483648 ≤ v → v < 4294967296 →
    exec (.daliSend m v) s = .next (s.set LUM.STATUS_CMD_ERR 1)) ∧
  (∀ (s : State) (m : Master) (v : Nat), v < 2147483648 → exec (.daliSend m v) s = exec (.daliSend m (v + 2147483648)) s) ∧
  (∀ s : State, s.lum.sending = true →
    ∃ t, exec .daliCollision s = .next t ∧ t.get LUM.DALI_RX_COLLISION = 1 ∧ t.get LUM.DALI_RX_RESULT = 3 ∧
      t.get LUM.STATUS_DALI_ERR = 1 ∧ t.get LUM.DALI_RX_BUSY = 0 ∧ t.lum.sending = false ∧ t.lum.dali = [] ∧
      t.get LUM.CNT_DALI_ERR_COUNT = (s.bump LUM.CNT_DALI_ERR_COUNT LUM.STATUS_SAT).get LUM.CNT_DALI_ERR_COUNT ∧ t.mem = s.mem) ∧
  (∀ s : State, s.lum.sending = false → exec .daliCollision s = .next s ∧ exec .daliDone s = .next s) ∧
  (∀ s : State, s.lum.sending = true → s.lum.again = true →
    exec .daliDone s = .next { s with lum := { s.lum with again := false } }) ∧
  (∀ s : State, s.lum.sending = true → s.lum.again = false → s.lum.auto = false → s.get LUM.DALI_CMD_EXPECT = 1 →
    exec .daliDone s = .next { s.set LUM.STATUS_DALI_DONE 1 with lum := { s.lum with sending := false, window := true, dali := [] } }) ∧
  (∀ s : State, s.lum.sending = true → s.lum.again = false → (s.get LUM.DALI_CMD_EXPECT = 0 ∨ s.lum.auto = true) →
    exec .daliDone s = .next { (s.set LUM.STATUS_DALI_DONE 1).set LUM.DALI_RX_BUSY 0 with lum := { s.lum with sending := false, again := false, auto := false, window := false, dali := [] } }) ∧
  (∀ (s : State) (d : Nat), s.lum.window = true →
    exec (.daliBackwardFrame d true) s = .next (((({ s with lum := { s.lum with sending := false, again := false, auto := false, window := false, dali := [] } } : State).set
      LUM.DALI_RX_BUSY 0).set LUM.DALI_RX_DATA d).set LUM.DALI_RX_RESULT 1)) ∧
  (∀ (s : State) (d : Nat), s.lum.window = true →
    ∃ t, exec (.daliBackwardFrame d false) s = .next t ∧ t.get LUM.DALI_RX_RESULT = 3 ∧ t.get LUM.STATUS_DALI_ERR = 1 ∧
      t.get LUM.DALI_RX_BUSY = 0 ∧ t.lum.window = false ∧ t.mem = s.mem) ∧
  (∀ s : State, s.lum.window = true →
    exec .daliNoAnswer s = .next ((({ s with lum := { s.lum with sending := false, again := false, auto := false, window := false, dali := [] } } : State).set
      LUM.DALI_RX_BUSY 0).set LUM.DALI_RX_RESULT 2)) ∧
  (∀ (s : State) (d : Nat) (ok : Bool), s.lum.window = false →
    exec (.daliBackwardFrame d ok) s = .next s ∧ exec .daliNoAnswer s = .next s) ∧
  (∀ (s : State) (a : Nat), s.lum.queued = some a → s.get LUM.DALI_RX_BUSY = 0 →
    exec .autoDapcSend s = .next ((({ s with lum := { s.lum with queued := none, sending := true, again := false, auto := true, window := false, dali := if s.bit LUM.CTRL_OUT_EN 2 then true :: bitsMsb 16 (0xFE00 + a) else [] } } : State).set
      LUM.DALI_RX_BUSY 1).bump LUM.CNT_DAPC_COUNT LUM.STATUS_SAT)) ∧
  (∀ s : State, (s.lum.queued = none ∨ s.get LUM.DALI_RX_BUSY ≠ 0) → exec .autoDapcSend s = .next s)

/-- Failsafe, daylight and occupancy (R343, R344, R346 to R348): FORCE and a lapsed keepalive engage the failsafe, counted; CLR
disengages it only for Core A, after a KICK, outside FAILSAFE and without FORCE, and is CMD_ERR otherwise. A photodiode result lands
when its cycles are complete, or the ATB is OFF, with OVR where the last one was not read; out of step with the cycle it is UNSYNC and
drives nothing; the range is the one forced, and under AUTO after a clipped result the next less sensitive. Motion occupies the node until
its hold ends and the detector re-arms below the threshold; a disabled detector does neither. Where a clause rests on the model's own choice,
that is one of assumptions 9, 25 or 57. -/
def Obligations.FailsafeAndSensors : Prop :=
  (∀ (s : State) (m : Master), exec (.kick m) s = .next { s with lum := { s.lum with kicked := true } }) ∧
  (∀ s : State, s.mode ≠ mdFAILSAFE → s.get LUM.FS_CTRL_FORCE = 0 → s.lum.kicked = true →
    exec (.fsClr .coreA) s = .next (s.set LUM.FS_CTRL_ENGAGED 0)) ∧
  (∀ (s : State) (m : Master), (m ≠ .coreA ∨ s.mode = mdFAILSAFE ∨ s.get LUM.FS_CTRL_FORCE ≠ 0 ∨ s.lum.kicked = false) →
    exec (.fsClr m) s = .next (s.set LUM.STATUS_CMD_ERR 1)) ∧
  (∀ (s : State) (m : Master), s.get LUM.FS_CTRL_ENGAGED = 0 →
    exec (.fsForce m) s = .next { (((s.set LUM.FS_CTRL_FORCE 1).set LUM.FS_CTRL_ENGAGED 1).set LUM.STATUS_FS_ENGAGED 1).bump
      LUM.CNT_FS_COUNT LUM.STATUS_SAT with lum := { s.lum with kicked := false } }) ∧
  (∀ (s : State) (m : Master), s.get LUM.FS_CTRL_ENGAGED ≠ 0 → exec (.fsForce m) s = .next (s.set LUM.FS_CTRL_FORCE 1)) ∧
  (∀ s : State, s.get LUM.FS_CTRL_KA_MS ≠ 0 → s.get LUM.FS_CTRL_ENGAGED = 0 →
    exec .keepaliveLapse s = .next { ((s.set LUM.FS_CTRL_ENGAGED 1).set LUM.STATUS_FS_ENGAGED 1).bump
      LUM.CNT_FS_COUNT LUM.STATUS_SAT with lum := { s.lum with kicked := false } }) ∧
  (∀ s : State, (s.get LUM.FS_CTRL_KA_MS = 0 ∨ s.get LUM.FS_CTRL_ENGAGED ≠ 0) → exec .keepaliveLapse s = .next s) ∧
  (∀ (s : State) (r pa : Nat) (clip : Bool), r < 4 → pa < 16777216 → (s.lum.pdLeft = some 0 ∨ s.atbSt = abOFF) →
    ∃ t, exec (.pdRdy r pa clip) s = .next t ∧
      t.get LUM.PD_RES_RANGE = (if s.get LUM.PD_CFG_AUTO = 0 then s.get LUM.PD_CFG_RANGE else
        if s.get LUM.PD_RES_CLIP = 0 then r else min 3 (s.get LUM.PD_RES_RANGE + 1)) ∧ t.get LUM.PD_RES_PA = pa ∧
      t.get LUM.PD_RES_CLIP = b2n clip ∧ t.get LUM.PD_RES_UNSYNC = (if s.lum.pdUnsync = true ∨ s.atbSt = abOFF then 1 else 0) ∧
      t.get LUM.STATUS_PD_RDY = 1 ∧ t.get LUM.STATUS_PD_OVR = (if s.get LUM.STATUS_PD_RDY = 0 then s.get LUM.STATUS_PD_OVR else 1) ∧
      t.get LUM.CNT_PD_COUNT = (s.bump LUM.CNT_PD_COUNT LUM.STATUS_SAT).get LUM.CNT_PD_COUNT ∧
      t.lum.pdLeft = (if s.get LUM.PD_CFG_TRIG ≠ 0 ∨ s.atbSt = abOFF then none else some (s.get LUM.PD_CFG_INT + 1)) ∧ t.mem = s.mem ∧
      (s.lum.pdUnsync = true ∨ s.atbSt = abOFF → regsSame s t [LUM.PD_RES_RANGE.key 0, LUM.PD_RES_PA.key 0, LUM.PD_RES_CLIP.key 0,
        LUM.PD_RES_UNSYNC.key 0, LUM.STATUS_PD_RDY.key 0, LUM.STATUS_PD_OVR.key 0, LUM.CNT_PD_COUNT.key 0, LUM.STATUS_SAT.key 0])) ∧
  (∀ (s : State) (r pa : Nat) (clip : Bool), s.lum.pdLeft ≠ some 0 → s.atbSt ≠ abOFF → exec (.pdRdy r pa clip) s = .next s) ∧
  (∀ (s : State) (f : Nat), s.get LUM.PIR_CFG_EN ≠ 0 → s.lum.disarmed = false → s.get LUM.PIR_CFG_THR ≤ (sint 16 f).natAbs →
    exec (.motion f) s = .next { ((s.set LUM.PIR_RES_FILT f).set LUM.STATUS_MOTION 1).bump LUM.CNT_MOTION_COUNT
      LUM.STATUS_SAT with lum := { s.lum with disarmed := true, occupied := true } }) ∧
  (∀ (s : State) (f : Nat), (s.lum.disarmed = true ∨ (sint 16 f).natAbs < s.get LUM.PIR_CFG_THR ∨ s.get LUM.PIR_CFG_EN = 0) →
    exec (.motion f) s = .next s) ∧
  (∀ (s : State) (f : Nat), s.get LUM.PIR_CFG_EN ≠ 0 → s.lum.disarmed = true → (sint 16 f).natAbs < s.get LUM.PIR_CFG_THR →
    exec (.pirRearm f) s = .next { s.set LUM.PIR_RES_FILT f with lum := { s.lum with disarmed := false } }) ∧
  (∀ (s : State) (f : Nat), (s.lum.disarmed = false ∨ s.get LUM.PIR_CFG_THR ≤ (sint 16 f).natAbs ∨ s.get LUM.PIR_CFG_EN = 0) →
    exec (.pirRearm f) s = .next s) ∧
  (∀ s : State, exec .occupancyHoldEnd s = .next { s with lum := { s.lum with occupied := false } })

/-- Indirect commands and auto-poll (R356 to R360, R365, R437): GO starts a command, on the port at once where no transaction is in
progress, with its bytes through a region that its address touches; it is CMD_ERR while one runs and LAST_ERR 4 where it is not aligned
to the region; the data read lands in IBUF and DONE is set, or the poll begins; a poll ends with DONE at the match, goes on
otherwise, or ends with LAST_ERR 2 and TMO. A transaction that overruns ends with LAST_ERR 1 and TMO: a fill with a bus error of its
master, a command over, the Granary engine's with the engine stopped; with none there is nothing to end. IBUF takes writes, in the
bytes reached, while no command runs. The XIP window, the line cache and the regions (R9, R19, R22, R361
to R365): a cached line answers at once, any other starts a fill that answers the fetch, decrypted where a region covers it, and is kept; a window that is
off or too small is LAST_ERR 8 and a select that polls LAST_ERR 3, each a bus error, as an address outside the window is; the Host Link bridge has no
access and a sequencer no path; CACHE.INV and a remapped window empty the cache; an enabled region is disabled before it is changed, and enabling one is
refused with its code. Where a clause rests on the model's own choice, that is one of assumptions 28 or 58. -/
def Obligations.MemoryPortCommands : Prop :=
  (∀ (s : State) (m : Master) (v sel a n : Nat) (b : List Nat), 2147483648 ≤ v → v < 4294967296 → s.get MPT.STATE_BUSY = 0 →
    s.get MPT.CTRL_EN ≠ 0 → sel = bits v 27 26 → a = s.get MPT.IND_ADDR_ADDR → n = min 256 (s.get MPT.IND_FMT_LEN) →
    (bits v 28 28 = 1 → ∀ g ∈ s.touched sel a n, a % 16 = 0 ∧ n % 16 = 0 ∧ g.first ≤ a ∧ a + n ≤ g.stop) →
    b = (if bits v 28 28 = 1 then s.throughRegions sel a (s.ibufBytes n) else s.ibufBytes n) →
    ∃ t, exec (.indGo m v) s = .next t ∧ t.get MPT.STATE_BUSY = 1 ∧ t.get MPT.IND_CMD_WRITE = bits v 30 30 ∧
      t.get MPT.IND_CMD_POLL = bits v 29 29 ∧ t.get MPT.IND_CMD_ADDR = bits v 28 28 ∧ t.get MPT.IND_CMD_SEL = sel ∧
      t.get MPT.CNT_IND_COUNT = (s.bump MPT.CNT_IND_COUNT MPT.STATUS_SAT).get MPT.CNT_IND_COUNT ∧ t.mpt.dataDone = false ∧
      t.mpt.out = (if bitOf v 30 then b else []) ∧ t.mem = s.mem ∧
      (s.mpt.txn = none → s.mpt.fills = [] → t.onInd = true ∧ t.get MPT.STATE_CUR_SEL = sel) ∧
      (s.mpt.txn ≠ none → t.mpt.txn = s.mpt.txn)) ∧
  (∀ (s : State) (m : Master) (v sel a n : Nat), 2147483648 ≤ v → v < 4294967296 → s.get MPT.STATE_BUSY = 0 →
    s.get MPT.CTRL_EN ≠ 0 → sel = bits v 27 26 → a = s.get MPT.IND_ADDR_ADDR → n = min 256 (s.get MPT.IND_FMT_LEN) → bits v 28 28 = 1 →
    (∃ g ∈ s.touched sel a n, ¬(a % 16 = 0 ∧ n % 16 = 0 ∧ g.first ≤ a ∧ a + n ≤ g.stop)) →
    ∃ t, exec (.indGo m v) s = .next t ∧ t.get MPT.STATE_LAST_ERR = 4 ∧ t.get MPT.STATUS_ERR = 1 ∧ t.get MPT.STATE_BUSY = 0 ∧
      t.get MPT.ERR_ADDR_ADDR = a ∧ t.mpt = s.mpt ∧ t.mem = s.mem) ∧
  (∀ (s : State) (m : Master) (v : Nat), 2147483648 ≤ v → v < 4294967296 → (s.get MPT.STATE_BUSY ≠ 0 ∨ s.get MPT.CTRL_EN = 0) →
    exec (.indGo m v) s = .next (s.set MPT.STATUS_CMD_ERR 1)) ∧
  (∀ (s : State) (m : Master) (v : Nat), v < 2147483648 → exec (.indGo m v) s = exec (.indGo m (v + 2147483648)) s) ∧
  (∀ (s : State) (d b : List Nat), s.onInd = true → s.get MPT.IND_CMD_WRITE = 0 → d.length = min 256 (s.get MPT.IND_FMT_LEN) →
    (∀ x ∈ d, x < 256) →
    b = (if s.get MPT.IND_CMD_ADDR = 0 then d else s.throughRegions (s.get MPT.IND_CMD_SEL) (s.get MPT.IND_ADDR_ADDR) d) →
    b.length = d.length → (∀ x ∈ b, x < 256) →
    ∃ t, exec (.indDone d) s = .next t ∧ (∀ i, i < b.length → t.ibuf i = b.getD i 0) ∧
      (∀ i, b.length ≤ i → i < 256 → t.ibuf i = s.ibuf i) ∧ t.mem = s.mem ∧
      (s.get MPT.IND_CMD_POLL = 0 → t.get MPT.STATE_BUSY = 0 ∧ t.get MPT.STATUS_DONE = 1) ∧
      (s.get MPT.IND_CMD_POLL ≠ 0 → t.get MPT.STATE_BUSY = s.get MPT.STATE_BUSY ∧ t.mpt.dataDone = true ∧
        t.bit MPT.STATE_POLLING (s.get MPT.IND_CMD_SEL) = true)) ∧
  (∀ (s : State) (d : List Nat), s.onInd = true → s.get MPT.IND_CMD_WRITE ≠ 0 →
    ∃ t, exec (.indDone d) s = .next t ∧ (∀ i, i < 256 → t.ibuf i = s.ibuf i) ∧ t.mem = s.mem ∧
      (s.get MPT.IND_CMD_POLL = 0 → t.get MPT.STATE_BUSY = 0 ∧ t.get MPT.STATUS_DONE = 1) ∧
      (s.get MPT.IND_CMD_POLL ≠ 0 → t.mpt.dataDone = true ∧ t.bit MPT.STATE_POLLING (s.get MPT.IND_CMD_SEL) = true)) ∧
  (∀ (s : State) (d : List Nat), s.onInd = false → exec (.indDone d) s = .next s) ∧
  (∀ (s : State) (st : Nat), s.get MPT.STATE_BUSY ≠ 0 → s.mpt.dataDone = true → s.mpt.txn = none →
    (st % 256).land (s.get MPT.POLL_CFG_MASK) = s.get MPT.POLL_CFG_MATCH →
    exec (.pollRead st) s = .next { (((s.set MPT.STATE_CUR_SEL (s.get MPT.IND_CMD_SEL)).set MPT.STATE_BUSY 0).set MPT.STATE_POLLING 0).set MPT.STATUS_DONE 1 with
      mpt := { s.mpt with last := s.pollTxn, dataDone := false } }) ∧
  (∀ (s : State) (st : Nat), s.get MPT.STATE_BUSY ≠ 0 → s.mpt.dataDone = true → s.mpt.txn = none →
    (st % 256).land (s.get MPT.POLL_CFG_MASK) ≠ s.get MPT.POLL_CFG_MATCH →
    exec (.pollRead st) s = .next { s.set MPT.STATE_CUR_SEL (s.get MPT.IND_CMD_SEL) with mpt := { s.mpt with last := s.pollTxn } }) ∧
  (∀ (s : State) (st : Nat), (s.get MPT.STATE_BUSY = 0 ∨ s.mpt.dataDone = false ∨ s.mpt.txn ≠ none) → exec (.pollRead st) s = .next s) ∧
  (∀ s : State, s.get MPT.STATE_BUSY ≠ 0 → s.mpt.dataDone = true →
    ∃ t, exec .pollTimeout s = .next t ∧ t.get MPT.STATE_LAST_ERR = 2 ∧ t.get MPT.STATUS_ERR = 1 ∧ t.get MPT.STATUS_TMO = 1 ∧
      t.get MPT.STATE_BUSY = 0 ∧ t.get MPT.STATE_POLLING = 0 ∧
      t.get MPT.CNT_ERR_COUNT = (s.bump MPT.CNT_ERR_COUNT MPT.STATUS_SAT).get MPT.CNT_ERR_COUNT ∧
      t.mpt.dataDone = false ∧ t.mem = s.mem) ∧
  (∀ s : State, (s.mpt.dataDone = false ∨ s.get MPT.STATE_BUSY = 0) → exec .pollTimeout s = .next s) ∧
  (∀ (s : State) (f : Nat × Nat) (r : List (Nat × Nat)), s.onFill = true → s.mpt.fills = f :: r →
    ∃ t, exec .txnTimeout s = .next t ∧ t.get MPT.STATE_LAST_ERR = 1 ∧ t.get MPT.STATUS_TMO = 1 ∧ t.get MPT.STATUS_ERR = 1 ∧
      t.mpt.fills = r ∧ t.bus.resp.error = true) ∧
  (∀ s : State, s.onFill = false → s.get MPT.STATE_BUSY ≠ 0 → s.mpt.fills = [] →
    ∃ t, exec .txnTimeout s = .next t ∧ t.get MPT.STATE_LAST_ERR = 1 ∧ t.get MPT.STATUS_TMO = 1 ∧ t.get MPT.STATUS_ERR = 1 ∧
      t.get MPT.STATE_BUSY = 0 ∧ t.mpt.txn = none ∧ memSame s t 0x2803F000 1040) ∧
  (∀ s : State, s.onFill = false → s.get MPT.STATE_BUSY = 0 → (s.get GRN.STATE_STATE = 2 ∨ s.get GRN.STATE_STATE = 4) →
    ∃ t, exec .txnTimeout s = .next t ∧ t.get MPT.STATE_LAST_ERR = 1 ∧ t.get MPT.STATUS_TMO = 1 ∧ t.get GRN.STATE_STATE = 5 ∧
      t.get GRN.STATE_ERR = 2 ∧ t.get GRN.STATUS_ENGINE_ERR = 1) ∧
  (∀ s : State, s.onFill = false → s.get MPT.STATE_BUSY = 0 → s.get GRN.STATE_STATE ≠ 2 → s.get GRN.STATE_STATE ≠ 4 →
    exec .txnTimeout s = .next s) ∧
  (∀ (s : State) (m : Master) (k v : Nat), k < 64 → s.get MPT.STATE_BUSY = 0 →
    exec (.ibufWrite m (4 * k) 4 v) s = .next (s.set MPT.IBUF_DATA v k)) ∧
  (∀ (s : State) (m : Master) (a w v : Nat), a < 256 → s.get MPT.STATE_BUSY = 0 →
    ∃ t, exec (.ibufWrite m a w v) s = .next t ∧ (∀ i, i < min w (4 - a % 4) → t.ibuf (a + i) = v / 256 ^ i % 256) ∧
      (∀ j, j < 256 → ¬(a ≤ j ∧ j < a + min w (4 - a % 4)) → t.ibuf j = s.ibuf j) ∧ t.mem = s.mem ∧
      regsSame s t [MPT.IBUF_DATA.key (a / 4)]) ∧
  (∀ (s : State) (m : Master) (a w v : Nat), s.get MPT.STATE_BUSY ≠ 0 →
    exec (.ibufWrite m a w v) s = .next (s.set MPT.STATUS_CMD_ERR 1)) ∧
  (∀ (s : State) (m : Master) (a : Nat) (c : CacheLine), (m = .coreA ∨ m = .coreB ∨ m = .coreP) → 0x80000000 ≤ a → a < 0x100000000 →
    a % 4 = 0 → s.get MPT.CTRL_EN ≠ 0 → s.get MPT.CTRL_XIP_EN ≠ 0 → s.get MPT.XWIN_EN ((a - 0x80000000) / 0x20000000) ≠ 0 →
    (s.xipMap a).2 < 2 ^ s.get MPT.SEL_CFG_SIZE (s.xipMap a).1 → s.bit MPT.STATE_POLLING (s.xipMap a).1 = false → s.get MPT.CTRL_CACHE_EN ≠ 0 →
    (Tab.get [] s.mpt.cache ((s.xipMap a).2 / 64 % 256)).find? (fun c => c.sel == (s.xipMap a).1 && c.line == (s.xipMap a).2 / 64) = some c →
    ∃ t, exec (.xipFetch m a) s = .next t ∧ t.bus.resp = { value := lineWord c.data (s.xipMap a).2, error := false } ∧
      t.get MPT.CNT_HIT_COUNT = (s.bump MPT.CNT_HIT_COUNT MPT.STATUS_SAT).get MPT.CNT_HIT_COUNT ∧ t.mpt.fills = s.mpt.fills ∧
      t.mem = s.mem ∧ regsSame s t [MPT.CNT_HIT_COUNT.key 0, MPT.STATUS_SAT.key 0]) ∧
  (∀ (s : State) (m : Master) (a : Nat), (m = .coreA ∨ m = .coreB ∨ m = .coreP) → 0x80000000 ≤ a → a < 0x100000000 → a % 4 = 0 →
    s.get MPT.CTRL_EN ≠ 0 → s.get MPT.CTRL_XIP_EN ≠ 0 → s.get MPT.XWIN_EN ((a - 0x80000000) / 0x20000000) ≠ 0 →
    (s.xipMap a).2 < 2 ^ s.get MPT.SEL_CFG_SIZE (s.xipMap a).1 → s.bit MPT.STATE_POLLING (s.xipMap a).1 = false →
    (s.get MPT.CTRL_CACHE_EN = 0 ∨ (Tab.get [] s.mpt.cache ((s.xipMap a).2 / 64 % 256)).find? (fun c =>
      c.sel == (s.xipMap a).1 && c.line == (s.xipMap a).2 / 64) = none) →
    ∃ t, exec (.xipFetch m a) s = .next t ∧ t.mpt.fills = s.mpt.fills ++ [(masterNum m, a)] ∧ t.bus = s.bus ∧ t.mem = s.mem ∧
      (s.mpt.txn = none → t.onFill = true ∧ t.get MPT.STATE_XFILL = 1) ∧ (s.mpt.txn ≠ none → t.mpt.txn = s.mpt.txn) ∧
      regsSame s t [MPT.STATE_XFILL.key 0, MPT.STATE_CUR_SEL.key 0]) ∧
  (∀ (s : State) (m : Master) (a : Nat), (m = .coreA ∨ m = .coreB ∨ m = .coreP) → 0x80000000 ≤ a → a < 0x100000000 → a % 4 = 0 →
    (s.get MPT.CTRL_EN = 0 ∨ s.get MPT.CTRL_XIP_EN = 0 ∨ s.get MPT.XWIN_EN ((a - 0x80000000) / 0x20000000) = 0 ∨
      2 ^ s.get MPT.SEL_CFG_SIZE (s.xipMap a).1 ≤ (s.xipMap a).2) →
    ∃ t, exec (.xipFetch m a) s = .next t ∧ t.bus.resp = { value := 0, error := true } ∧ t.get MPT.STATE_LAST_ERR = 8 ∧ t.mpt = s.mpt) ∧
  (∀ (s : State) (m : Master) (a : Nat), (m = .coreA ∨ m = .coreB ∨ m = .coreP) → 0x80000000 ≤ a → a < 0x100000000 → a % 4 = 0 →
    s.get MPT.CTRL_EN ≠ 0 → s.get MPT.CTRL_XIP_EN ≠ 0 → s.get MPT.XWIN_EN ((a - 0x80000000) / 0x20000000) ≠ 0 →
    (s.xipMap a).2 < 2 ^ s.get MPT.SEL_CFG_SIZE (s.xipMap a).1 → s.bit MPT.STATE_POLLING (s.xipMap a).1 = true →
    ∃ t, exec (.xipFetch m a) s = .next t ∧ t.bus.resp = { value := 0, error := true } ∧ t.get MPT.STATE_LAST_ERR = 3 ∧ t.mpt = s.mpt) ∧
  (∀ (s : State) (a : Nat), 0x80000000 ≤ a → a < 0x100000000 → a % 4 = 0 →
    exec (.xipFetch .hostLink a) s = .next ((s.busError a 3 false true).respond 0 true)) ∧
  (∀ (s : State) (n a : Nat), 0x80000000 ≤ a → a < 0x100000000 → a % 4 = 0 → exec (.xipFetch (.seq n) a) s = .next s) ∧
  (∀ (s : State) (m : Master) (a : Nat), (a < 0x80000000 ∨ 0x100000000 ≤ a ∨ a % 4 ≠ 0) →
    exec (.xipFetch m a) s = .next ((s.busError a (masterNum m) false false).respond 0 true)) ∧
  (∀ (s : State) (f : Nat × Nat) (r : List (Nat × Nat)) (l b : List Nat), s.mpt.fills = f :: r → s.onFill = true → l.length = 64 →
    (∀ x ∈ l, x < 256) → b = s.throughRegions (s.xipMap f.2).1 ((s.xipMap f.2).2 / 64 * 64) l →
    ∃ t, exec (.xipFillDone l) s = .next t ∧ t.mpt.fills = r ∧ (r = [] → s.get MPT.STATE_BUSY = 0 → t.mpt.txn = none ∧ t.get MPT.STATE_XFILL = 0) ∧
      t.bus.resp = { value := lineWord b (s.xipMap f.2).2, error := false } ∧
      (s.get MPT.CTRL_CACHE_EN ≠ 0 → (Tab.get [] t.mpt.cache ((s.xipMap f.2).2 / 64 % 256)).head? =
        some { sel := (s.xipMap f.2).1, line := (s.xipMap f.2).2 / 64, data := b }) ∧
      t.get MPT.CNT_FILL_COUNT = (s.bump MPT.CNT_FILL_COUNT MPT.STATUS_SAT).get MPT.CNT_FILL_COUNT ∧ t.mem = s.mem) ∧
  (∀ (s : State) (l : List Nat), (s.mpt.fills = [] ∨ s.onFill = false) → exec (.xipFillDone l) s = .next s) ∧
  (∀ (s : State) (m : Master), exec (.cacheInv m) s = .next { s with mpt := { s.mpt with cache := [] } }) ∧
  (∀ (s : State) (m : Master) (n v : Nat), n < 4 → exec (.xwinWrite m n v) s =
    .next { ((s.set MPT.XWIN_EN (bits v 31 31) n).set MPT.XWIN_SEL (bits v 17 16) n).set MPT.XWIN_OFFSET v n with
      mpt := { s.mpt with cache := [] } }) ∧
  (∀ (s : State) (m : Master) (v : Nat), (s.region (s.get MPT.RSEL_REGION)).en = true → bitOf v 31 = true → v < 4294967296 →
    exec (.rcfgWrite m v) s = .next (s.set MPT.STATUS_CMD_ERR 1)) ∧
  (∀ (s : State) (m : Master) (v : Nat), bitOf v 31 = false → v < 4294967296 →
    ∃ t, exec (.rcfgWrite m v) s = .next t ∧ (t.region (s.get MPT.RSEL_REGION)).cfg = bits v 31 28 * 2 ^ 28 + v % 256 ∧
      ((s.region (s.get MPT.RSEL_REGION)).en = true → t.mpt.cache = []) ∧ t.regs = s.regs ∧ t.mem = s.mem) ∧
  (∀ (s : State) (m : Master) (v : Nat) (g : MptRegion), g = { s.region (s.get MPT.RSEL_REGION) with cfg := bits v 31 28 * 2 ^ 28 + v % 256 } →
    (s.region (s.get MPT.RSEL_REGION)).en = false → bitOf v 31 = true → v < 4294967296 →
    s.regionRefuse (s.get MPT.RSEL_REGION) g = 0 →
    ∃ t, exec (.rcfgWrite m v) s = .next t ∧ t.region (s.get MPT.RSEL_REGION) = g ∧ t.mpt.cache = [] ∧ t.regs = s.regs ∧
      t.mem = s.mem) ∧
  (∀ (s : State) (m : Master) (v c : Nat) (g : MptRegion), g = { s.region (s.get MPT.RSEL_REGION) with cfg := bits v 31 28 * 2 ^ 28 + v % 256 } →
    (s.region (s.get MPT.RSEL_REGION)).en = false → bitOf v 31 = true → v < 4294967296 →
    s.regionRefuse (s.get MPT.RSEL_REGION) g = c → c ≠ 0 →
    exec (.rcfgWrite m v) s = .next ((s.set MPT.STATE_LAST_ERR c).set MPT.STATUS_CMD_ERR 1))

/-- The Granary engine (R367 to R379): EN is refused on its geometry and without a key, and starts the engine otherwise. In RUN a
fold takes at least one record off its queue: a record of
a tag that the index holds present, without bearing and unwatched, is counted and journalled, a bad one counted and discarded; a full
ring or a waiting notification stops the folding. The sweep walks the slots that memory holds; FORMAT, RECOVER and COMMIT leave the engine's
figures as they say, RECOVER from the newer valid superblock, and without one the engine stops with error 3; without the Memory Port each
stops it with error 2. The ring's tail written lets waiting notifications in. Watch and query
act on the entry of the identity. Where a clause rests on the model's own choice, that is one of assumptions 28, 29, 42 or 46. -/
def Obligations.GranaryEngine : Prop :=
  (∀ (s : State) (m : Master), s.get GRN.CTRL_EN = 0 → s.geomBad = false → s.journalKey.length = 16 →
    exec (.grnEnable m) s = .next (((s.set GRN.CTRL_EN 1).set GRN.STATE_ERR 0).set GRN.STATE_STATE
      (if s.get GRN.CTRL_PAUSE = 0 then 2 else 3))) ∧
  (∀ (s : State) (m : Master), s.get GRN.CTRL_EN = 0 → s.geomBad = true → exec (.grnEnable m) s = .next (s.set GRN.STATE_ERR 1)) ∧
  (∀ (s : State) (m : Master), s.get GRN.CTRL_EN = 0 → s.geomBad = false → s.journalKey.length ≠ 16 →
    exec (.grnEnable m) s = .next (s.set GRN.STATE_ERR 4)) ∧
  (∀ (s : State) (m : Master), s.get GRN.CTRL_EN ≠ 0 → exec (.grnEnable m) s = .next s) ∧
  (∀ (s : State) (q : Nat), q = s.get GRN.CTRL_QSRC → q < 16 → s.get GRN.STATE_STATE = 2 → 16 ≤ (s.queWords q).length →
    s.ringFull = false → s.grn.notes = [] → s.get MPT.CTRL_EN ≠ 0 →
    ∃ t, exec .recordFold s = .next t ∧ (t.queWords q).length + 16 ≤ (s.queWords q).length) ∧
  (∀ (s : State) (r : List Nat) (h q : Nat), q = s.get GRN.CTRL_QSRC → q < 16 → s.get GRN.STATE_STATE = 2 →
    (s.queWords q).length = 16 → r = wordsRec (s.queWords q) 0 → recOk r = true → recCont r = false → s.ringFull = false →
    s.grn.notes = [] → s.get MPT.CTRL_EN ≠ 0 → s.grnFind (fullId [r]) = some h → enPRESENT (s.entry h) = true →
    enWATCH (s.entry h) = false → le16 r 16 = 0x8000 → s.grn.nrec < 62 → 0x10000000 ≤ s.get GRN.JSTAGE_VALUE →
    s.get GRN.JSTAGE_VALUE < 0x103FF000 →
    ∃ t, exec .recordFold s = .next t ∧ t.queWords q = [] ∧
      t.get GRN.CNT_REC_COUNT = (s.bump GRN.CNT_REC_COUNT GRN.STATUS_SAT).get GRN.CNT_REC_COUNT ∧
      t.grn.nrec = s.grn.nrec + 1 ∧ t.get GRN.NR_HEAD_VALUE = s.get GRN.NR_HEAD_VALUE ∧
      memSame s t (s.get GRN.JSTAGE_VALUE + 64 + 64 * s.grn.nrec) 64) ∧
  (∀ (s : State) (q : Nat), q = s.get GRN.CTRL_QSRC → q < 16 → s.get GRN.STATE_STATE = 2 → (s.queWords q).length = 16 →
    (recOk (wordsRec (s.queWords q) 0) = false ∨ recCont (wordsRec (s.queWords q) 0) = true) → s.ringFull = false → s.grn.notes = [] →
    s.get MPT.CTRL_EN ≠ 0 →
    ∃ t, exec .recordFold s = .next t ∧ t.queWords q = [] ∧ t.get GRN.STATUS_REC_BAD = 1 ∧
      t.get GRN.CNT_BAD_COUNT = (s.bump GRN.CNT_BAD_COUNT GRN.STATUS_SAT).get GRN.CNT_BAD_COUNT ∧ t.grn = s.grn ∧ t.mpt = s.mpt ∧
      t.mem = s.mem) ∧
  (∀ s : State, s.get GRN.STATE_STATE = 2 → 16 ≤ (s.queWords (s.get GRN.CTRL_QSRC)).length → (s.ringFull = true ∨ s.grn.notes ≠ []) →
    exec .recordFold s = .next (if s.ringFull then s.set GRN.STATUS_NRING_FULL 1 else s)) ∧
  (∀ s : State, (s.get GRN.STATE_STATE ≠ 2 ∨ (s.queWords (s.get GRN.CTRL_QSRC)).length < 16) → exec .recordFold s = .next s) ∧
  (∀ s : State, (s.get GRN.STATE_STATE ≠ 2 ∨ s.get GRN.CTRL_SWEEP_EN = 0) → exec .sweepStep s = .next s) ∧
  (∀ s : State, s.get GRN.CTRL_SWEEP_EN ≠ 0 → s.get GRN.STATE_STATE = 2 → s.get MPT.CTRL_EN ≠ 0 →
    exec .sweepStep s = .next (s.heldSlots.foldl (fun t h => t.sweepSlot h) s)) ∧
  (∀ (s : State) (c : Instr), s.get MPT.CTRL_EN = 0 →
    (c = .sweepStep ∧ s.get GRN.CTRL_SWEEP_EN ≠ 0 ∧ s.get GRN.STATE_STATE = 2 ∨
      c = .recordFold ∧ s.get GRN.STATE_STATE = 2 ∧ 16 ≤ (s.queWords (s.get GRN.CTRL_QSRC)).length ∧ s.ringFull = false ∧ s.grn.notes = [] ∨
      (c = .grnFormat ∨ c = .grnRecover) ∧ s.get GRN.CTRL_EN ≠ 0 ∨
      (c = .grnCommit ∨ c = .grnCommitTimer) ∧ (s.get GRN.STATE_STATE = 2 ∨ s.get GRN.STATE_STATE = 3)) →
    ∃ t, exec c s = .next t ∧ t.get GRN.STATE_STATE = 5 ∧ t.get GRN.STATE_ERR = 2 ∧ t.get GRN.STATUS_ENGINE_ERR = 1 ∧ t.grn = s.grn ∧
      t.mpt = s.mpt) ∧
  (∀ s : State, s.get GRN.CTRL_EN ≠ 0 → s.get MPT.CTRL_EN ≠ 0 →
    ∃ t, exec .grnFormat s = .next t ∧ t.get GRN.STATE_STATE = (if s.get GRN.CTRL_PAUSE = 0 then 2 else 3) ∧
      t.get GRN.STATE_ERR = 0 ∧ t.jseq = 0 ∧ t.get GRN.OCC_VALUE = 0 ∧ t.grn.gen = 1 ∧ t.grn.copyB = false ∧ t.grn.nrec = 0 ∧
      t.mem = s.mem) ∧
  (∀ s : State, s.get GRN.CTRL_EN ≠ 0 → s.get MPT.CTRL_EN ≠ 0 → (s.superRead false ≠ none ∨ s.superRead true ≠ none) →
    ∃ t, exec .grnRecover s = .next t ∧ t.get GRN.STATUS_RECOV_DONE = 1 ∧ t.get GRN.STATE_ERR = 0 ∧
      t.get GRN.STATE_STATE = (if s.get GRN.CTRL_PAUSE = 0 then 2 else 3)) ∧
  (∀ s : State, s.get GRN.CTRL_EN ≠ 0 → s.get MPT.CTRL_EN ≠ 0 → s.superRead false = none → s.superRead true = none →
    ∃ t, exec .grnRecover s = .next t ∧ t.get GRN.STATE_STATE = 5 ∧ t.get GRN.STATE_ERR = 3 ∧ t.get GRN.STATUS_ENGINE_ERR = 1 ∧
      t.grn = s.grn ∧ t.mpt = s.mpt) ∧
  (∀ s : State, s.get GRN.CTRL_EN = 0 → exec .grnFormat s = .next s ∧ exec .grnRecover s = .next s) ∧
  (∀ (s : State) (c : Instr), (c = .grnCommit ∨ c = .grnCommitTimer) → (s.get GRN.STATE_STATE = 2 ∨ s.get GRN.STATE_STATE = 3) →
    s.get MPT.CTRL_EN ≠ 0 → (s.grn.nrec = 0 ∨ dmaBar (s.get GRN.JSTAGE_VALUE + 64) (16 * s.grn.nrec) = none) →
    ∃ t, exec c s = .next t ∧ t.get GRN.STATUS_COMMIT_DONE = 1 ∧ t.grn.gen = (s.grn.gen + 1) % 4294967296 ∧
      t.grn.copyB = !s.grn.copyB ∧ t.grn.nrec = 0 ∧ t.mem = s.mem) ∧
  (∀ (s : State) (c : Instr), (c = .grnCommit ∨ c = .grnCommitTimer) → s.get GRN.STATE_STATE ≠ 2 → s.get GRN.STATE_STATE ≠ 3 →
    exec c s = .next s) ∧
  (∀ (s : State) (m : Master) (v : Nat), s.grn.notes = [] → exec (.nrTailWrite m v) s = .next (s.set GRN.NR_TAIL_VALUE v)) ∧
  (∀ (s : State) (m : Master) (v a : Nat) (n : Nat × List Nat), s.grn.notes = [n] → n.2.length = 63 → (s.set GRN.NR_TAIL_VALUE v).ringFull = false →
    s.get GRN.STATE_STATE ≠ 5 →
    a = s.get GRN.NRING_BASE_VALUE + 64 * (s.get GRN.NR_HEAD_VALUE % s.get GRN.NRING_CFG_ENTRIES) → 0x10000000 ≤ a → a < 0x103FFF00 →
    ∃ t, exec (.nrTailWrite m v) s = .next t ∧ t.get GRN.NR_HEAD_VALUE = (s.get GRN.NR_HEAD_VALUE + 1) % 4294967296 ∧
      t.get GRN.STATUS_NOTE = 1 ∧ t.grn.notes = [] ∧ memSame s t a 64) ∧
  (∀ (s : State) (m : Master) (v : Nat), s.grn.notes ≠ [] → (s.set GRN.NR_TAIL_VALUE v).ringFull = true →
    exec (.nrTailWrite m v) s = .next ((s.set GRN.NR_TAIL_VALUE v).set GRN.STATUS_NRING_FULL 1)) ∧
  (∀ (s : State) (id : List Nat) (b h : Nat), s.grnFind id = some h → s.get GRN.CTRL_EN ≠ 0 →
    exec (.tagWatch (id ++ [b])) s = .next (s.entryPut h (enFlag (s.entry h) 3 (b == 1)))) ∧
  (∀ (s : State) (id : List Nat) (b : Nat), (s.grnFind id = none ∨ s.get GRN.CTRL_EN = 0) → exec (.tagWatch (id ++ [b])) s = .next s) ∧
  (∀ (s : State) (id : List Nat) (h : Nat), s.grnFind id = some h → s.get GRN.CTRL_EN ≠ 0 →
    exec (.tagQuery id) s = .next (s.setObj 0x6021 0 (s.entry h))) ∧
  (∀ (s : State) (id : List Nat), (s.grnFind id = none ∨ s.get GRN.CTRL_EN = 0) → exec (.tagQuery id) s = .next (s.setObj 0x6021 0 []))

/-! ### The network, TOT and the Host Link (R384 to R433) -/

/-- Link, frames, PTP and power class (R31, R384, R385, R390, R392, R393, R395): the PHY's link and level are kept and source 103
noted; a frame that the MAC does not take, or that comes while the link is down or the device held in reset, changes nothing; one
taken is kept with source 101, and where it is IPv6 its packet is received: one of another version or for no address of the node
changes nothing more, a whole UDP datagram to port 42980 goes to TOT. The servo: without the CORE domain nothing happens; a Sync
is kept with source 104; the eighth good one in a row locks it, one within 1 µs before that counts, one beyond 1 µs starts the
count anew, one beyond 10 µs or a loss of Syncs clears the lock, and SYNTH then goes on in HOLDOVER; a lock with an anchor held
enters SYNTH. An unchanged power class changes nothing; another is kept, counted and wakes Core P, and the budget follows. Where
a clause rests on the model's own choice, that is one of assumptions 3, 9, 20, 35 or 44. -/
def Obligations.NetworkEvents : Prop :=
  (∀ (s : State) (level sqi : Nat), exec (.phyLinkChange true level sqi) s =
    .next (({ s with net := { s.net with linkUp := true, sqi := sqi % 8, txLevel := s.txLevelFor level } } : State).sourceEvent 103)) ∧
  (∀ (s : State) (level sqi : Nat), exec (.phyLinkChange false level sqi) s =
    .next (({ s with net := { s.net with linkUp := false, sqi := sqi % 8 } } : State).sourceEvent 103)) ∧
  (∀ (s : State) (f : List Nat) (ok : Bool), (macTakes f ok = false ∨ s.net.linkUp = false ∨ s.coreP.refHeld = true) →
    exec (.macFrameRx f ok) s = .next s) ∧
  (∀ (s : State) (f : List Nat) (ok : Bool), macTakes f ok = true → s.net.linkUp = true → s.coreP.refHeld = false →
    ofBe (slice f 12 2) ≠ 0x86DD →
    exec (.macFrameRx f ok) s = .next (({ s with net := { s.net with frame := f } } : State).sourceEvent 101)) ∧
  (∀ (s : State) (f p : List Nat) (ok : Bool), macTakes f ok = true → s.net.linkUp = true → s.coreP.refHeld = false →
    ofBe (slice f 12 2) = 0x86DD → p = slice f 14 (f.length - 18) →
    (p.length < 40 + ofBe (slice p 4 2) ∨ byteAt p 0 / 16 ≠ 6 ∨
      (s.ipv6.contains (slice p 24 16) = false ∧ s.groups.contains (slice p 24 16) = false)) →
    exec (.macFrameRx f ok) s = .next (({ s with net := { s.net with frame := f } } : State).sourceEvent 101)) ∧
  (∀ (s : State) (f p d : List Nat) (ok : Bool), macTakes f ok = true → s.net.linkUp = true → s.coreP.refHeld = false →
    ofBe (slice f 12 2) = 0x86DD → p = slice f 14 (f.length - 18) → 40 + ofBe (slice p 4 2) ≤ p.length → byteAt p 0 / 16 = 6 →
    (s.ipv6.contains (slice p 24 16) = true ∨ s.groups.contains (slice p 24 16) = true) → byteAt p 6 = 17 →
    d = slice p 40 (ofBe (slice p 4 2)) → 8 ≤ ofBe (slice p 4 2) → ofBe (slice d 4 2) = ofBe (slice p 4 2) →
    ofBe (slice d 6 2) ≠ 0 → inetOk p d 17 = true → ofBe (slice d 2 2) = 42980 →
    exec (.macFrameRx f ok) s = .next ((({ s with net := { s.net with frame := f } } : State).sourceEvent 101).totRx (d.drop 8))) ∧
  (∀ (s : State) (f : List Nat) (ok : Bool), macTakes f ok = true → s.net.linkUp = true → s.coreP.refHeld = false →
    ofBe (slice f 12 2) = 0x86DD → exec (.macFrameRx f ok) s = .next ((({ s with net := { s.net with frame := f } } : State).sourceEvent 101).ipRx
      (slice f 14 (f.length - 18)))) ∧
  (∀ (s : State) (o : Int) (delay ns : Nat), s.bit PWR.STATE_DOM 3 = false →
    exec (.ptpSyncRx o delay ns) s = .next s ∧ exec .ptpLoss s = .next s) ∧
  (∀ (s : State) (o : Int) (delay ns : Nat), s.bit PWR.STATE_DOM 3 = true → o.natAbs ≤ 1000 → s.net.ptpGood < 7 →
    exec (.ptpSyncRx o delay ns) s = .next { s.sourceEvent 104 with net := { s.net with ptpOffset := unsignedOf 32 o, ptpDelay := delay % 4294967296, ptpGood := s.net.ptpGood + 1 }, atb := { s.atb with ptpNs := ns, ptpAt := s.now } }) ∧
  (∀ (s : State) (o : Int) (delay ns : Nat), s.bit PWR.STATE_DOM 3 = true → o.natAbs ≤ 1000 → 7 ≤ s.net.ptpGood →
    s.get ATB.STATE_PTP_OK ≠ 0 →
    exec (.ptpSyncRx o delay ns) s = .next { s.sourceEvent 104 with net := { s.net with ptpOffset := unsignedOf 32 o, ptpDelay := delay % 4294967296, ptpGood := 8 }, atb := { s.atb with ptpNs := ns, ptpAt := s.now } }) ∧
  (∀ (s u : State) (o : Int) (delay ns : Nat), s.bit PWR.STATE_DOM 3 = true → o.natAbs ≤ 1000 → 7 ≤ s.net.ptpGood →
    s.get ATB.STATE_PTP_OK = 0 →
    u = ((({ s.sourceEvent 104 with net := { s.net with ptpOffset := unsignedOf 32 o, ptpDelay := delay % 4294967296, ptpGood := 8 }, atb := { s.atb with ptpNs := ns, ptpAt := s.now } } : State).sourceEvent 105).set
      ATB.STATE_PTP_OK 1) →
    (s.atb.anchor = none → exec (.ptpSyncRx o delay ns) s = .next u) ∧
    (s.get ATB.CTRL_SRC = 0 → exec (.ptpSyncRx o delay ns) s = .next u) ∧
    (∀ a, s.atb.anchor = some a → s.get ATB.CTRL_SRC ≠ 0 → s.atbSt = abHOLDOVER →
      exec (.ptpSyncRx o delay ns) s = .next (u.atbEnter abSYNTH)) ∧
    (∀ a, s.atb.anchor = some a → s.get ATB.CTRL_SRC ≠ 0 → s.atbSt = abFREE →
      exec (.ptpSyncRx o delay ns) s = .next (((u.atbEnter abSYNTH).phaseStep (u.gridAngle a u.ptpNow)).synthSteer
        ((u.atbEnter abSYNTH).phaseStep (u.gridAngle a u.ptpNow)).ptpNow))) ∧
  (∀ (s : State) (o : Int) (delay ns : Nat), s.bit PWR.STATE_DOM 3 = true → 1000 < o.natAbs → o.natAbs ≤ 10000 →
    exec (.ptpSyncRx o delay ns) s = .next { s.sourceEvent 104 with net := { s.net with ptpOffset := unsignedOf 32 o, ptpDelay := delay % 4294967296, ptpGood := 0 }, atb := { s.atb with ptpNs := ns, ptpAt := s.now } }) ∧
  (∀ (s : State) (o : Int) (delay ns : Nat), s.bit PWR.STATE_DOM 3 = true → 10000 < o.natAbs →
    (s.get ATB.STATE_PTP_OK = 0 ∨ s.get ATB.CTRL_SRC = 0 ∨ s.atbSt ≠ abSYNTH) →
    exec (.ptpSyncRx o delay ns) s = .next ((({ s.sourceEvent 104 with net := { s.net with ptpOffset := unsignedOf 32 o, ptpDelay := delay % 4294967296, ptpGood := 0 }, atb := { s.atb with ptpNs := ns, ptpAt := s.now } } : State).sourceEvent 105).set
      ATB.STATE_PTP_OK 0)) ∧
  (∀ s : State, s.bit PWR.STATE_DOM 3 = true →
    (s.get ATB.STATE_PTP_OK = 0 ∨ s.get ATB.CTRL_SRC = 0 ∨ s.atbSt ≠ abSYNTH) →
    exec .ptpLoss s = .next ((({ s with net := { s.net with ptpGood := 0 } } : State).sourceEvent 105).set ATB.STATE_PTP_OK 0)) ∧
  (∀ (s : State) (c : Instr) (o : Int) (delay ns : Nat), s.bit PWR.STATE_DOM 3 = true →
    (c = .ptpLoss ∨ (c = .ptpSyncRx o delay ns ∧ 10000 < o.natAbs)) →
    s.get ATB.STATE_PTP_OK ≠ 0 → s.get ATB.CTRL_SRC ≠ 0 → s.atbSt = abSYNTH →
    ∃ t, exec c s = .next t ∧ t.atbSt = abHOLDOVER ∧ t.get ATB.STATE_PTP_OK = 0 ∧ t.net.ptpGood = 0 ∧ t.atb.goodEdges = 0 ∧
      t.get ATB.STATUS_SYNC_LOST = 1 ∧ t.atb.holdAt = s.now ∧ t.atb.anchor = s.atb.anchor) ∧
  (∀ (s : State) (c : Nat), s.get PWR.STATE_CLASS = c % 256 → exec (.pdClassChange c) s = .next s) ∧
  (∀ (s u : State) (c : Nat), s.get PWR.STATE_CLASS ≠ c % 256 →
    u = (((s.set PWR.STATE_CLASS c).set PWR.STATUS_CLASS_CHG 1).bump PWR.CNT_CLASS_COUNT PWR.STATUS_SAT).wakeP 2 →
    (s.mode = mdFAILSAFE → exec (.pdClassChange c) s = .next u) ∧
    (s.mode = mdFULL → u.carrierSheaves = [] → u.atb.actSlots = 0 → u.fits u.keptCost = true → u.budgetOk = true →
      exec (.pdClassChange c) s = .next (u.setBit SYS.MODE_CAUSE csBUDGET false)) ∧
    (exec (.pdClassChange c) s = .next u.budgetChange))

/-- Datagrams (R398 to R404). A command whose datagram is of another TYPE, or that comes while the device is held in reset, changes
nothing. Datagrams that no key opens (R399, R400, R401): whatever their TYPE, one too short or of another version is counted as
malformed, one of another site, key, counter or tag counted as such, one for another node dropped; nothing else changes. A
datagram that opens and whose TYPE is not listed is counted as malformed. Requests that open: READ_REQ is answered with its
entries' values and to the group not at all; WRITE_REQ applies its entries in order and answers their STATUS, up to the first
that aborts, and to the group applies without an answer; XFER_INIT is refused with its abort code, or opens a transfer,
acknowledging NEXT 0 or sending TOTAL, CRC and the first window; a segment in place is staged and acknowledged as its KIND asks,
one that repeats acknowledged again, one beyond the window or the total aborts; XFER_END checks and applies what came and
answers; XFER_ACK moves an outgoing transfer's NEXT and sends on; XFER_ABORT drops a transfer. What names no transfer of the node
changes nothing. `t` is the state once the datagram has been opened, `u` without a transfer of the same peer and TID. Where a
clause rests on the model's own choice, that is one of assumptions 6, 20, 31, 33 or 44. -/
def Obligations.TotDatagrams : Prop :=
  (∀ (s : State) (d : List Nat) (c : Instr), s.coreP.refHeld = true → isTot d c → exec c s = .next s) ∧
  (∀ (s : State) (d : List Nat) (k : Nat) (c : Instr), byteAt d 1 ≠ k →
    ((k = 0x01 ∧ c = .readReq d) ∨ (k = 0x03 ∧ c = .writeReq d) ∨ (k = 0x10 ∧ c = .xferInit d) ∨ (k = 0x11 ∧ c = .xferData d) ∨
      (k = 0x12 ∧ c = .xferAck d) ∨ (k = 0x13 ∧ c = .xferEnd d) ∨ (k = 0x14 ∧ c = .xferAbort d) ∨ (k = 0x20 ∧ c = .subscribe d) ∨
      (k = 0x23 ∧ c = .notifyAck d) ∨ (k = 0x30 ∧ c = .planMcast d)) → exec c s = .next s) ∧
  (∀ (s : State) (d : List Nat), totTypes.contains (byteAt d 1) = true → exec (.totUnknownType d) s = .next s) ∧
  (∀ (s : State) (d : List Nat) (c : Instr), s.coreP.refHeld = false →
    (d.length < 40 ∨ byteAt d 0 ≠ 1 ∨ le16 d 20 ≠ d.length - 40) → isTot d c →
    exec c s = .next (s.unsent.netCount 1)) ∧
  (∀ (s : State) (d : List Nat) (c : Instr), s.coreP.refHeld = false → 40 ≤ d.length → byteAt d 0 = 1 → le16 d 20 = d.length - 40 →
    (le16 d 2 ≠ s.siteId ∨ s.siteId = 0) → isTot d c →
    exec c s = .next (s.unsent.netCount 2)) ∧
  (∀ (s : State) (d : List Nat) (c : Instr), s.coreP.refHeld = false → 40 ≤ d.length → byteAt d 0 = 1 → le16 d 20 = d.length - 40 →
    le16 d 2 = s.siteId → s.siteId ≠ 0 → (s.nodeId = 0 ∨ (le16 d 6 ≠ s.nodeId ∧ le16 d 6 ≠ 0xFFFF)) → isTot d c →
    exec c s = .next s.unsent) ∧
  (∀ (s : State) (d : List Nat) (c : Instr), s.coreP.refHeld = false → 40 ≤ d.length → byteAt d 0 = 1 → le16 d 20 = d.length - 40 →
    le16 d 2 = s.siteId → s.siteId ≠ 0 → s.nodeId ≠ 0 → (le16 d 6 = s.nodeId ∨ le16 d 6 = 0xFFFF) →
    s.totKey (byteAt d 8) = none → isTot d c →
    exec c s = .next (s.unsent.netCount 3)) ∧
  (∀ (s : State) (d key : List Nat) (c : Instr), s.coreP.refHeld = false → 40 ≤ d.length → byteAt d 0 = 1 → le16 d 20 = d.length - 40 →
    le16 d 2 = s.siteId → s.siteId ≠ 0 → s.nodeId ≠ 0 → (le16 d 6 = s.nodeId ∨ le16 d 6 = 0xFFFF) →
    s.totKey (byteAt d 8) = some key → s.totFresh (le16 d 4) (le64 d 12) = false → isTot d c →
    exec c s = .next (s.unsent.netCount 4)) ∧
  (∀ (s : State) (d key : List Nat) (c : Instr), s.coreP.refHeld = false → 40 ≤ d.length → byteAt d 0 = 1 → le16 d 20 = d.length - 40 →
    le16 d 2 = s.siteId → s.siteId ≠ 0 → s.nodeId ≠ 0 → (le16 d 6 = s.nodeId ∨ le16 d 6 = 0xFFFF) →
    s.totKey (byteAt d 8) = some key → s.totFresh (le16 d 4) (le64 d 12) = true →
    gcmOpen key (slice d 4 2 ++ [0, 0] ++ slice d 12 8) (d.take 24) (d.drop 24) = none → isTot d c →
    exec c s = .next (s.unsent.netCount 5)) ∧
  (∀ (s t : State) (d : List Nat) (m : TotMsg), s.coreP.refHeld = false → s.unsent.totOpen d = (t, some m) →
    totTypes.contains (byteAt d 1) = false → exec (.totUnknownType d) s = .next (t.netCount 1)) ∧
  (∀ (s t : State) (d : List Nat) (m : TotMsg), s.coreP.refHeld = false → s.unsent.totOpen d = (t, some m) → byteAt d 1 = 0x01 →
    m.group = false →
    exec (.readReq d) s = .next (t.fresh.2.totReply m 0x02 (t.readAll (totEntries m.body.length m.body) 0))) ∧
  (∀ (s t : State) (d : List Nat) (m : TotMsg), s.coreP.refHeld = false → s.unsent.totOpen d = (t, some m) → byteAt d 1 = 0x01 → m.group = true → exec (.readReq d) s = .next t) ∧
  (∀ (s t : State) (d h v : List Nat) (m : TotMsg), s.coreP.refHeld = false → s.unsent.totOpen d = (t, some m) → byteAt d 1 = 0x03 →
    m.group = false → totEntries m.body.length m.body = [(h, v)] → resetObj (le16 h 0) = false →
    exec (.writeReq d) s = .next ((t.totPut (le16 h 0) (byteAt h 2) (byteAt h 3) v).2.totReply m 0x04
      (h.take 4 ++ toLe 2 (t.totPut (le16 h 0) (byteAt h 2) (byteAt h 3) v).1 ++ [0, 0]))) ∧
  (∀ (s t : State) (d h v h2 v2 : List Nat) (m : TotMsg), s.coreP.refHeld = false → s.unsent.totOpen d = (t, some m) → byteAt d 1 = 0x03 →
    m.group = false → totEntries m.body.length m.body = [(h, v), (h2, v2)] →
    (t.totPut (le16 h 0) (byteAt h 2) (byteAt h 3) v).1 ≠ odOK →
    exec (.writeReq d) s = .next ((t.totPut (le16 h 0) (byteAt h 2) (byteAt h 3) v).2.totReply m 0x04
      (h.take 4 ++ toLe 2 (t.totPut (le16 h 0) (byteAt h 2) (byteAt h 3) v).1 ++ [0, 0] ++
        (h2.take 4 ++ toLe 2 odNOT_DONE ++ [0, 0])))) ∧
  (∀ (s t : State) (d w : List Nat) (v : State) (m : TotMsg), s.coreP.refHeld = false → s.unsent.totOpen d = (t, some m) → byteAt d 1 = 0x03 →
    t.writeAll (totEntries m.body.length m.body) = (w, v, false) → m.group = false →
    exec (.writeReq d) s = .next (v.totReply m 0x04 w)) ∧
  (∀ (s t : State) (d w : List Nat) (v : State) (b : Bool) (m : TotMsg), s.coreP.refHeld = false → s.unsent.totOpen d = (t, some m) → byteAt d 1 = 0x03 →
    t.writeAll (totEntries m.body.length m.body) = (w, v, b) → (m.group = true ∨ b = true) →
    exec (.writeReq d) s = .next v) ∧
  (∀ (s t : State) (d : List Nat) (m : TotMsg), s.coreP.refHeld = false → s.unsent.totOpen d = (t, some m) → byteAt d 1 = 0x10 → m.group = true → exec (.xferInit d) s = .next t) ∧
  (∀ (s t u : State) (d : List Nat) (m : TotMsg) (e : Nat), s.coreP.refHeld = false → s.unsent.totOpen d = (t, some m) → byteAt d 1 = 0x10 → m.group = false →
    u = { t with net := { t.net with xfers := t.net.xfers.filter fun y => !y.is m.src m.tid } } →
    (((1 < byteAt m.body 3 ∨ 1 < byteAt m.body 4) ∧ e = odRANGE) ∨
      (byteAt m.body 3 ≤ 1 ∧ byteAt m.body 4 ≤ 1 ∧ 4 ≤ u.net.xfers.length ∧ e = odBUSY) ∨
      (byteAt m.body 3 = 1 ∧ byteAt m.body 4 ≤ 1 ∧ u.net.xfers.length < 4 ∧ e ≠ odOK ∧
        e = u.xferOutBar (le16 m.body 0) (byteAt m.body 2) (byteAt m.body 4)) ∨
      (byteAt m.body 3 = 0 ∧ byteAt m.body 4 ≤ 1 ∧ u.net.xfers.length < 4 ∧ e ≠ odOK ∧
        e = u.xferInBar (le16 m.body 0) (byteAt m.body 2) (byteAt m.body 4) (le32 m.body 5))) →
    exec (.xferInit d) s = .next (u.totReply m 0x14 (toLe 2 e))) ∧
  (∀ (s t u : State) (d : List Nat) (m : TotMsg), s.coreP.refHeld = false → s.unsent.totOpen d = (t, some m) → byteAt d 1 = 0x10 → m.group = false →
    u = { t with net := { t.net with xfers := t.net.xfers.filter fun y => !y.is m.src m.tid } } →
    u.net.xfers.length < 4 → byteAt m.body 3 = 0 → byteAt m.body 4 ≤ 1 →
    u.xferInBar (le16 m.body 0) (byteAt m.body 2) (byteAt m.body 4) (le32 m.body 5) = odOK →
    exec (.xferInit d) s = .next (({ u with net := { u.net with xfers := u.net.xfers ++ [{ src := m.src, tid := m.tid, kid := m.kid, index := le16 m.body 0, sub := byteAt m.body 2, out := false, kind := byteAt m.body 4, total := le32 m.body 5, crc := le32 m.body 9, data := [], next := 0, segs := 0, resends := 0, host := false }] } } : State).totReply m 0x12 (toLe 4 0))) ∧
  (∀ (s t u : State) (d v : List Nat) (m : TotMsg) (x : Xfer), s.coreP.refHeld = false → s.unsent.totOpen d = (t, some m) → byteAt d 1 = 0x10 → m.group = false →
    u = { t with net := { t.net with xfers := t.net.xfers.filter fun y => !y.is m.src m.tid } } →
    u.net.xfers.length < 4 → byteAt m.body 3 = 1 → byteAt m.body 4 ≤ 1 →
    u.xferOutBar (le16 m.body 0) (byteAt m.body 2) (byteAt m.body 4) = odOK →
    v = (u.totGet (le16 m.body 0) (byteAt m.body 2)).2.2 →
    x = { src := m.src, tid := m.tid, kid := m.kid, index := le16 m.body 0, sub := byteAt m.body 2, out := true, kind := byteAt m.body 4, total := v.length, crc := crc32c v, data := v, next := 0, segs := 0, resends := 0, host := false } →
    exec (.xferInit d) s = .next ((({ u with net := { u.net with xfers := u.net.xfers ++ [x] } } : State).fresh.2.totReply m 0x10
      (m.body.take 5 ++ toLe 4 v.length ++ toLe 4 (crc32c v))).xferWindow x)) ∧
  (∀ (s t : State) (d : List Nat) (m : TotMsg) (c : Instr), s.coreP.refHeld = false → s.unsent.totOpen d = (t, some m) →
    (t.xferOf m.src m.tid = none ∨ m.group = true) →
    ((byteAt d 1 = 0x11 ∧ c = .xferData d) ∨ (byteAt d 1 = 0x12 ∧ c = .xferAck d) ∨ (byteAt d 1 = 0x13 ∧ c = .xferEnd d) ∨
      (byteAt d 1 = 0x14 ∧ c = .xferAbort d)) → exec c s = .next t) ∧
  (∀ (s t : State) (d : List Nat) (m : TotMsg) (x : Xfer), s.coreP.refHeld = false → s.unsent.totOpen d = (t, some m) → byteAt d 1 = 0x11 → m.group = false → t.net.xfers = [x] →
    x.is m.src m.tid = true → x.out = false → x.kind = 0 →
    x.index ≠ 0x0130 → le32 m.body 0 = x.data.length → 4 < m.body.length → m.body.length ≤ 1028 →
    x.data.length + (m.body.length - 4) ≤ x.total →
    exec (.xferData d) s = .next (({ t with net := { t.net with xfers := [{ x with data := x.data ++ m.body.drop 4, segs := x.segs + 1 }] } } : State).totReply m 0x12
      (toLe 4 (x.data.length + (m.body.length - 4))))) ∧
  (∀ (s t : State) (d : List Nat) (m : TotMsg) (x y : Xfer), s.coreP.refHeld = false → s.unsent.totOpen d = (t, some m) → byteAt d 1 = 0x11 → m.group = false →
    t.xferOf m.src m.tid = some x → x.out = false → le32 m.body 0 = x.data.length → 4 < m.body.length → m.body.length ≤ 1028 →
    x.data.length + (m.body.length - 4) ≤ x.total → y = { x with data := x.data ++ m.body.drop 4, segs := x.segs + 1 } →
    ((x.kind = 0 ∨ y.segs % 16 = 0 ∨ y.data.length = x.total) → exec (.xferData d) s =
      .next (((t.xferPut y).imgSegment x (le32 m.body 0) (m.body.drop 4)).totReply m 0x12 (toLe 4 y.data.length))) ∧
    (x.kind ≠ 0 → y.segs % 16 ≠ 0 → y.data.length ≠ x.total →
      exec (.xferData d) s = .next ((t.xferPut y).imgSegment x (le32 m.body 0) (m.body.drop 4)))) ∧
  (∀ (s t : State) (d : List Nat) (m : TotMsg) (x : Xfer), s.coreP.refHeld = false → s.unsent.totOpen d = (t, some m) → byteAt d 1 = 0x11 → m.group = false →
    t.xferOf m.src m.tid = some x → x.out = true → exec (.xferData d) s = .next t) ∧
  (∀ (s t : State) (d : List Nat) (m : TotMsg) (x : Xfer), s.coreP.refHeld = false → s.unsent.totOpen d = (t, some m) → byteAt d 1 = 0x11 → m.group = false →
    t.xferOf m.src m.tid = some x → x.out = false →
    (1028 < m.body.length ∨ x.total < le32 m.body 0 + (m.body.length - 4) ∨
      x.data.length + (if x.kind = 0 then 1024 else 16384) ≤ le32 m.body 0) →
    exec (.xferData d) s = .next ((t.xferDrop x).totReply m 0x14 (toLe 2 odSEQUENCE))) ∧
  (∀ (s t : State) (d : List Nat) (m : TotMsg) (x : Xfer), s.coreP.refHeld = false → s.unsent.totOpen d = (t, some m) → byteAt d 1 = 0x11 → m.group = false →
    t.xferOf m.src m.tid = some x → x.out = false → m.body.length ≤ 1028 → le32 m.body 0 + (m.body.length - 4) ≤ x.total →
    le32 m.body 0 < x.data.length + (if x.kind = 0 then 1024 else 16384) →
    (le32 m.body 0 ≠ x.data.length ∨ m.body.length ≤ 4) →
    exec (.xferData d) s = .next (t.totReply m 0x12 (toLe 4 x.data.length))) ∧
  (∀ (s t : State) (d : List Nat) (m : TotMsg) (x : Xfer), s.coreP.refHeld = false → s.unsent.totOpen d = (t, some m) → byteAt d 1 = 0x13 → m.group = false → t.net.xfers = [x] →
    x.is m.src m.tid = true → x.out = false →
    resetObj x.index = false →
    exec (.xferEnd d) s = .next ((({ t with net := { t.net with xfers := [] } } : State).xferApply x).2.totReply m 0x13
      (toLe 2 (({ t with net := { t.net with xfers := [] } } : State).xferApply x).1))) ∧
  (∀ (s t v : State) (d : List Nat) (m : TotMsg) (x : Xfer) (e : Nat), s.coreP.refHeld = false → s.unsent.totOpen d = (t, some m) → byteAt d 1 = 0x13 → m.group = false →
    t.xferOf m.src m.tid = some x → x.out = false → (t.xferDrop x).xferApply x = (e, v) →
    (x.data.length ≠ x.total → e = odSEQUENCE ∧ v = t.xferDrop x) ∧
    (x.data.length = x.total → crc32c x.data ≠ x.crc → e = odCRC ∧ v = t.xferDrop x) ∧
    ((e ≠ odOK ∨ resetObj x.index = false) → exec (.xferEnd d) s = .next (v.totReply m 0x13 (toLe 2 e))) ∧
    (e = odOK → resetObj x.index = true → exec (.xferEnd d) s = .next v)) ∧
  (∀ (s t : State) (d : List Nat) (m : TotMsg) (x : Xfer), s.coreP.refHeld = false → s.unsent.totOpen d = (t, some m) → byteAt d 1 = 0x13 → m.group = false →
    t.xferOf m.src m.tid = some x → x.out = true → exec (.xferEnd d) s = .next (t.xferDrop x)) ∧
  (∀ (s t : State) (d : List Nat) (m : TotMsg) (x : Xfer), s.coreP.refHeld = false → s.unsent.totOpen d = (t, some m) → byteAt d 1 = 0x12 → m.group = false → t.net.xfers = [x] →
    x.is m.src m.tid = true → x.out = true → x.next < le32 m.body 0 →
    le32 m.body 0 ≤ x.total →
    exec (.xferAck d) s = .next (({ t with net := { t.net with xfers := [{ x with next := le32 m.body 0, resends := 0 }] } } : State).xferWindow
      { x with next := le32 m.body 0, resends := 0 })) ∧
  (∀ (s t : State) (d : List Nat) (m : TotMsg) (x y : Xfer), s.coreP.refHeld = false → s.unsent.totOpen d = (t, some m) → byteAt d 1 = 0x12 → m.group = false →
    t.xferOf m.src m.tid = some x → x.out = true → x.next ≤ le32 m.body 0 → le32 m.body 0 ≤ x.total →
    y = { x with next := le32 m.body 0, resends := if x.next < le32 m.body 0 then 0 else x.resends } →
    exec (.xferAck d) s = .next ((t.xferPut y).xferWindow y)) ∧
  (∀ (s t : State) (d : List Nat) (m : TotMsg) (x : Xfer), s.coreP.refHeld = false → s.unsent.totOpen d = (t, some m) → byteAt d 1 = 0x12 → m.group = false →
    t.xferOf m.src m.tid = some x → (x.out = false ∨ x.total < le32 m.body 0 ∨ le32 m.body 0 < x.next) →
    exec (.xferAck d) s = .next t) ∧
  (∀ (s t : State) (d : List Nat) (m : TotMsg) (x : Xfer), s.coreP.refHeld = false → s.unsent.totOpen d = (t, some m) → byteAt d 1 = 0x14 → m.group = false →
    t.xferOf m.src m.tid = some x → exec (.xferAbort d) s = .next (t.xferDrop x))

/-- Subscriptions, multicast and the network's times (R397, R403, R405, R406, R407, R498): a SUBSCRIBE is taken and answered 0, in
the place of the one with its identifier, or refused for its MODE, its entry or for want of room; one with LIFE_S 0 ends it;
NOTIFY_ACK with the NSEQ that waits frees the subscription, another changes nothing; a plan multicast sets the time it carries,
and writes the plan named for the node where its sequence is newer; in FAILSAFE none of the three does anything. A transfer left
idle is aborted, an outgoing one sent again or aborted; a notification falls due for a subscription, one not acknowledged is sent
again or its subscription dropped, and a subscription not renewed is dropped. A time of what there is not, or while the device is
held in reset, changes nothing. `t` is the state once the datagram has been opened. Where a clause rests on the model's own
choice, that is one of assumptions 6, 31 or 44. -/
def Obligations.TotSubscriptionsAndTimes : Prop :=
  (∀ (s t : State) (d : List Nat) (m : TotMsg) (c : Instr), s.coreP.refHeld = false → s.unsent.totOpen d = (t, some m) →
    ((byteAt d 1 = 0x20 ∧ c = .subscribe d ∧ m.group = true) ∨ (byteAt d 1 = 0x30 ∧ c = .planMcast d ∧ m.group = false) ∨
      (byteAt d 1 = 0x23 ∧ c = .notifyAck d ∧ m.group = true) ∨ (s.mode = mdFAILSAFE ∧
        ((byteAt d 1 = 0x20 ∧ c = .subscribe d) ∨ (byteAt d 1 = 0x23 ∧ c = .notifyAck d) ∨ (byteAt d 1 = 0x30 ∧ c = .planMcast d)))) →
    exec c s = .next t) ∧
  (∀ (s t : State) (d : List Nat) (m : TotMsg), s.coreP.refHeld = false → s.mode ≠ mdFAILSAFE → s.unsent.totOpen d = (t, some m) → byteAt d 1 = 0x20 → m.group = false → byteAt m.body 1 ≤ 2 →
    (byteAt m.body 1 = 2 ∨ (t.totGet (le16 m.body 2) (byteAt m.body 4)).1 = odOK) → le16 m.body 7 ≠ 0 →
    (t.net.subs.find? fun x => x.is m.src (byteAt m.body 0)) = none → t.net.subs.length < 16 →
    exec (.subscribe d) s = .next (({ t with net := { t.net with subs := t.net.subs ++ [{ src := m.src, id := byteAt m.body 0, mode := byteAt m.body 1, index := le16 m.body 2, sub := byteAt m.body 4, minMs := le16 m.body 5, life := le16 m.body 7, conf := bitOf (byteAt m.hdr 9) 0, waiting := none, resends := 0, queued := [], since := t.now, last := [] }] } } : State).totReply m 0x21
      ([byteAt m.body 0] ++ toLe 2 odOK))) ∧
  (∀ (s t : State) (d : List Nat) (m : TotMsg) (x y : Subscr), s.coreP.refHeld = false → s.mode ≠ mdFAILSAFE → s.unsent.totOpen d = (t, some m) → byteAt d 1 = 0x20 → m.group = false → byteAt m.body 1 ≤ 2 →
    (byteAt m.body 1 = 2 ∨ (t.totGet (le16 m.body 2) (byteAt m.body 4)).1 = odOK) → le16 m.body 7 ≠ 0 →
    (t.net.subs.find? fun x => x.is m.src (byteAt m.body 0)) = some y →
    x = { src := m.src, id := byteAt m.body 0, mode := byteAt m.body 1, index := le16 m.body 2, sub := byteAt m.body 4, minMs := le16 m.body 5, life := le16 m.body 7, conf := bitOf (byteAt m.hdr 9) 0, waiting := y.waiting, resends := y.resends, queued := y.queued, since := t.now, last := y.last } →
    exec (.subscribe d) s = .next ((t.subPut x).totReply m 0x21 ([byteAt m.body 0] ++ toLe 2 odOK))) ∧
  (∀ (s t : State) (d : List Nat) (m : TotMsg) (e : Nat), s.coreP.refHeld = false → s.mode ≠ mdFAILSAFE → s.unsent.totOpen d = (t, some m) → byteAt d 1 = 0x20 → m.group = false → le16 m.body 7 ≠ 0 →
    ((2 < byteAt m.body 1 ∧ e = odRANGE) ∨
      (byteAt m.body 1 < 2 ∧ e = (t.totGet (le16 m.body 2) (byteAt m.body 4)).1 ∧ e ≠ odOK) ∨
      (byteAt m.body 1 = 2 ∧ (t.net.subs.find? fun x => x.is m.src (byteAt m.body 0)) = none ∧ 16 ≤ t.net.subs.length ∧
        e = odBUSY)) →
    exec (.subscribe d) s = .next (t.totReply m 0x21 ([byteAt m.body 0] ++ toLe 2 e))) ∧
  (∀ (s t : State) (d : List Nat) (m : TotMsg), s.coreP.refHeld = false → s.mode ≠ mdFAILSAFE → s.unsent.totOpen d = (t, some m) → byteAt d 1 = 0x20 → m.group = false → le16 m.body 7 = 0 →
    exec (.subscribe d) s = .next (({ t with net := { t.net with subs := t.net.subs.filter fun x => !x.is m.src (byteAt m.body 0) } } : State).totReply m 0x21
      ([byteAt m.body 0] ++ toLe 2 odOK))) ∧
  (∀ (s t : State) (d p : List Nat) (m : TotMsg) (x : Subscr), s.coreP.refHeld = false → s.mode ≠ mdFAILSAFE → s.unsent.totOpen d = (t, some m) → byteAt d 1 = 0x23 → m.group = false → t.net.subs = [x] → x.src = m.src →
    x.waiting = some p → notifySeq p = le32 m.body 0 → x.queued = [] →
    exec (.notifyAck d) s = .next { t with net := { t.net with subs := [{ x with waiting := none, resends := 0 }] } }) ∧
  (∀ (s t : State) (d p : List Nat) (m : TotMsg) (x : Subscr), s.coreP.refHeld = false → s.mode ≠ mdFAILSAFE → s.unsent.totOpen d = (t, some m) → byteAt d 1 = 0x23 → m.group = false → t.net.subs = [x] → x.src = m.src →
    x.waiting = some p → notifySeq p = le32 m.body 0 →
    exec (.notifyAck d) s = .next (({ t with net := { t.net with subs := [{ x with waiting := none, resends := 0 }] } } : State).notifyGo
      m.src)) ∧
  (∀ (s t : State) (d : List Nat) (m : TotMsg), s.coreP.refHeld = false → s.mode ≠ mdFAILSAFE → s.unsent.totOpen d = (t, some m) → byteAt d 1 = 0x23 → m.group = false →
    (∀ x ∈ t.net.subs, x.src = m.src → ∀ p, x.waiting = some p → notifySeq p ≠ le32 m.body 0) →
    exec (.notifyAck d) s = .next t) ∧
  (∀ (s t : State) (d : List Nat) (m : TotMsg), s.coreP.refHeld = false → s.mode ≠ mdFAILSAFE → s.unsent.totOpen d = (t, some m) → byteAt d 1 = 0x30 → m.group = true → m.body.length < 20 →
    exec (.planMcast d) s = .next t) ∧
  (∀ (s t v : State) (d : List Nat) (m : TotMsg), s.coreP.refHeld = false → s.mode ≠ mdFAILSAFE → s.unsent.totOpen d = (t, some m) → byteAt d 1 = 0x30 → m.group = true → 20 ≤ m.body.length →
    ((le64 m.body 4 = 0 ∧ v = t) ∨ (le64 m.body 4 ≠ 0 ∧
      v = ((t.odWrite 0x2020 1 3 (slice m.body 0 4)).2.odWrite 0x2020 2 4 (slice m.body 4 8)).2)) →
    (planEntry (byteAt m.body 18) v.nodeId (m.body.drop 20) = none ∨ cycAfter (le32 m.body 12) v.net.planSeq = false ∨
      v.odReach 0x2100 true ≠ odOK) → exec (.planMcast d) s = .next v) ∧
  (∀ (s t v w : State) (d p : List Nat) (m : TotMsg), s.coreP.refHeld = false → s.mode ≠ mdFAILSAFE → s.unsent.totOpen d = (t, some m) → byteAt d 1 = 0x30 → m.group = true → 20 ≤ m.body.length →
    ((le64 m.body 4 = 0 ∧ v = t) ∨ (le64 m.body 4 ≠ 0 ∧
      v = ((t.odWrite 0x2020 1 3 (slice m.body 0 4)).2.odWrite 0x2020 2 4 (slice m.body 4 8)).2)) →
    planEntry (byteAt m.body 18) v.nodeId (m.body.drop 20) = some p → cycAfter (le32 m.body 12) v.net.planSeq = true →
    v.odReach 0x2100 true = odOK →
    w = (v.planDisarm.odWrite 0x2100 0 12 p).2 →
    exec (.planMcast d) s = .next { w with net := { w.net with planSeq := le32 m.body 12 } }) ∧
  (∀ (s : State) (k : Nat), s.coreP.refHeld = true →
    ∀ c ∈ [Instr.xferResendTimeout k, .xferIdleTimeout k, .notifySend k, .notifyResendTimeout k, .subscriptionExpiry k],
      exec c s = .next s) ∧
  (∀ (s : State) (k : Nat), s.coreP.refHeld = false → s.net.subs.length ≤ k → s.net.xfers.length ≤ k →
    ∀ c ∈ [Instr.xferResendTimeout k, .xferIdleTimeout k, .notifySend k, .notifyResendTimeout k, .subscriptionExpiry k],
      exec c s = .next s.unsent) ∧
  (∀ (s : State) (x : Xfer), s.coreP.refHeld = false → s.net.xfers = [x] → x.out = true → x.host = false →
    x.resends < s.objNum 0x1036 0 3 % 256 →
    exec (.xferResendTimeout 0) s = .next (({ s.unsent with net := { s.unsent.net with xfers := [{ x with resends := x.resends + 1 }] } } : State).xferWindow
      x)) ∧
  (∀ (s : State) (k : Nat) (x : Xfer), s.coreP.refHeld = false → s.net.xfers[k]? = some x →
    (x.out = false → exec (.xferResendTimeout k) s = .next s.unsent) ∧
    (x.out = true → x.resends < s.objNum 0x1036 0 3 % 256 →
      exec (.xferResendTimeout k) s = .next ((s.unsent.xferPut { x with resends := x.resends + 1 }).xferWindow x)) ∧
    (x.out = true → s.objNum 0x1036 0 3 % 256 ≤ x.resends →
      exec (.xferResendTimeout k) s = .next ((s.unsent.xferDrop x).xferSend x 0x14 (toLe 2 odTIMEOUT))) ∧
    (x.host = true → exec (.xferIdleTimeout k) s = .next s.unsent) ∧
    (x.host = false → exec (.xferIdleTimeout k) s = .next ((s.unsent.xferDrop x).xferSend x 0x14 (toLe 2 odTIMEOUT)))) ∧
  (∀ (s : State) (x : Xfer), s.coreP.refHeld = false → s.net.xfers = [x] → x.host = false →
    exec (.xferIdleTimeout 0) s = .next (({ s.unsent with net := { s.unsent.net with xfers := [] } } : State).xferSend x 0x14
      (toLe 2 odTIMEOUT))) ∧
  (∀ (s : State) (x : Subscr), s.coreP.refHeld = false → s.net.subs = [x] → x.mode = 1 →
    ∃ t, exec (.notifySend 0) s = .next t ∧ Tab.get 0 t.net.nseqs x.src = (Tab.get 0 s.net.nseqs x.src + 1) % 4294967296) ∧
  (∀ (s : State) (k : Nat) (x : Subscr) (p : List Nat), s.coreP.refHeld = false → s.net.subs[k]? = some x →
    p = readEntry (toLe 2 x.index ++ [x.sub]) (s.unsent.totGet x.index x.sub) 1187 →
    (x.mode = 2 → exec (.notifySend k) s = .next (s.unsent.windowClose.notifyGo x.src)) ∧
    (x.mode = 0 → p = x.last → exec (.notifySend k) s = .next (s.unsent.notifyGo x.src)) ∧
    (x.mode ≠ 2 → (x.mode ≠ 0 ∨ p ≠ x.last) →
      exec (.notifySend k) s = .next ((s.unsent.fresh.2.notifyPut { x with last := p } p).notifyGo x.src))) ∧
  (∀ (s : State) (x : Subscr) (p key : List Nat), s.coreP.refHeld = false → s.net.subs = [x] → x.waiting = some p →
    s.totKey (s.objNum 0x1034 0 0 % 256) = some key → x.resends < s.objNum 0x1036 0 3 % 256 →
    exec (.notifyResendTimeout 0) s = .next (({ s.unsent with net := { s.unsent.net with subs := [{ x with resends := x.resends + 1 }] } } : State).totSend
      0x22 x.src (s.objNum 0x1034 0 0 % 256) (b2n x.conf) (notifySeq p) key p)) ∧
  (∀ (s : State) (k : Nat) (x : Subscr), s.coreP.refHeld = false → s.net.subs[k]? = some x →
    (x.waiting = none → exec (.notifyResendTimeout k) s = .next s.unsent) ∧
    (∀ p, x.waiting = some p → s.totKey (s.objNum 0x1034 0 0 % 256) = none →
      exec (.notifyResendTimeout k) s = .next (s.unsent.netCount 7)) ∧
    (∀ p key, x.waiting = some p → s.totKey (s.objNum 0x1034 0 0 % 256) = some key → x.resends < s.objNum 0x1036 0 3 % 256 →
      exec (.notifyResendTimeout k) s = .next ((s.unsent.subPut { x with resends := x.resends + 1 }).totSend
        0x22 x.src (s.objNum 0x1034 0 0 % 256) (b2n x.conf) (notifySeq p) key p)) ∧
    (∀ p key, x.waiting = some p → s.totKey (s.objNum 0x1034 0 0 % 256) = some key → s.objNum 0x1036 0 3 % 256 ≤ x.resends →
      exec (.notifyResendTimeout k) s = .next ((s.unsent.subDrop x).notifyGo x.src)) ∧
    exec (.subscriptionExpiry k) s = .next ((s.unsent.subDrop x).notifyGo x.src)) ∧
  (∀ (s : State) (x : Subscr), s.coreP.refHeld = false → s.net.subs = [x] →
    exec (.subscriptionExpiry 0) s = .next { s.unsent with net := { s.unsent.net with subs := [] } })

/-- Host Link transactions (R417 to R426): the falling select takes the SPI mode and the reply begins with the next ALIVE; a
transaction of exactly 512 clocks delivers the result that its reply carried; a frame that fails a check sets that check's status
bit and FLAGS bit alone and is counted, BUSY twice, and queues no result; a frame of another TYPE or while the link is off changes
nothing; a frame accepted sets FRAME_OK, takes ALIVE and is counted. NOP and SYNC do no more. Register frames that are accepted
(R427 to R430): their words are read or written in order along the pointer, which stands at the next word after; a bus error ends
them, with BUS_ERR, ERR_INFO and the pointer invalid; one word of system SRAM is read, or written and nothing else. Object frames
(R431): a value is read from OFFSET, or its abort code answered; a single write is applied with its STATUS; a staged write is
opened, goes on segment by segment, and is refused out of place; the one idle longest is dropped at its time-out. `t` is the
state once the frame is accepted. A frame that reaches a block without listed registers is refused by name. Where a clause rests
on the model's own choice, that is one of assumptions 6, 30 or 43. -/
def Obligations.HostLink : Prop :=
  (∀ (s : State) (c : Bool), s.hlOn = true →
    exec (.hlCsFall c) s = .next ((({ s with hlk := { s.hlk with reply := s.hlReply, carries := !s.hlk.results.isEmpty } } : State).set
      HLK.STATE_MODE (b2n c)).set HLK.STATE_DEV_ALIVE (s.get HLK.STATE_DEV_ALIVE + 1))) ∧
  (∀ (s : State) (c : Instr) (f : List Nat) (k : Nat) (b : Bool), s.hlOn = false →
    c ∈ [Instr.hlCsFall b, .hlFrameReject k f, .hlNop f, .hlSync f, .regRead f, .regWriteAt f, .regWriteNext f, .objRead f, .objWrite f] →
    exec c s = .next s) ∧
  (∀ (s : State) (c : Instr) (f : List Nat) (ty : Nat), byteAt f 1 ≠ ty →
    (ty, c) ∈ [(0x00, Instr.hlNop f), (0x01, .hlSync f), (0x11, .regRead f), (0x12, .regWriteAt f), (0x13, .regWriteNext f),
      (0x20, .objRead f), (0x21, .objWrite f)] → exec c s = .next s) ∧
  (∀ (s t : State) (f : List Nat) (k bit : Nat) (g : Fld), s.hlOn = true → s.hlEnd k = t →
    ((k < 512 ∧ bit = 2 ∧ g = HLK.STATUS_SHORT) ∨ (512 < k ∧ bit = 3 ∧ g = HLK.STATUS_LONG) ∨
      (k = 512 ∧ (f.length ≠ 64 ∨ crc32c (f.take 60) ≠ le32 f 60) ∧ bit = 0 ∧ g = HLK.STATUS_BAD_CRC) ∨
      (k = 512 ∧ f.length = 64 ∧ crc32c (f.take 60) = le32 f 60 ∧ s.hlk.seen = true ∧ byteAt f 1 ≠ 1 ∧
        byteAt f 0 ≠ (s.get HLK.STATE_LAST_ALIVE + 1) % 256 ∧ bit = 1 ∧ g = HLK.STATUS_BAD_ALIVE) ∨
      (k = 512 ∧ f.length = 64 ∧ crc32c (f.take 60) = le32 f 60 ∧ (s.hlk.seen = false ∨ byteAt f 1 = 1 ∨
        byteAt f 0 = (s.get HLK.STATE_LAST_ALIVE + 1) % 256) ∧ t.hlk.results.length < 8 ∧ s.hlTypeOk f = false ∧ bit = 5 ∧
        g = HLK.STATUS_BAD_TYPE)) →
    exec (.hlFrameReject k f) s = .next ((({ t with hlk := { t.hlk with flags := 2 ^ bit } } : State).set g 1).bump
      HLK.CNT_REJ_COUNT HLK.STATUS_SAT) ∧ t.mem = s.mem ∧ t.hlk.results = s.hlk.results.drop (b2n (s.hlk.carries && k == 512)) ∧
      regsSame s t [HLK.STATE_READY.key 0, HLK.STATE_OUTSTANDING.key 0]) ∧
  (∀ (s t : State) (f : List Nat), s.hlOn = true → s.hlEnd 512 = t → f.length = 64 → crc32c (f.take 60) = le32 f 60 →
    (s.hlk.seen = false ∨ byteAt f 1 = 1 ∨ byteAt f 0 = (s.get HLK.STATE_LAST_ALIVE + 1) % 256) → 8 ≤ t.hlk.results.length →
    exec (.hlFrameReject 512 f) s = .next (((({ t with hlk := { t.hlk with flags := 16 } } : State).set HLK.STATUS_BUSY 1).bump
      HLK.CNT_REJ_COUNT HLK.STATUS_SAT).bump HLK.CNT_BUSY_COUNT HLK.STATUS_SAT)) ∧
  (∀ (s : State) (f : List Nat) (p : Nat × Fld) (c : Instr), s.hlOn = true → (s.hlEnd 512).hlCheck 512 f = some p →
    (byteAt f 1, c) ∈ [(0x00, Instr.hlNop f), (0x01, .hlSync f), (0x11, .regRead f), (0x12, .regWriteAt f), (0x13, .regWriteNext f),
      (0x20, .objRead f), (0x21, .objWrite f)] → exec c s = exec (.hlFrameReject 512 f) s) ∧
  (∀ (s : State) (f : List Nat), s.hlOn = true → (s.hlEnd 512).hlCheck 512 f = none →
    exec (.hlFrameReject 512 f) s = .next s) ∧
  (∀ (s t : State) (f : List Nat) (c : Instr), s.hlOn = true → (s.hlEnd 512).hlCheck 512 f = none →
    t = (s.hlEnd 512).hlAccept f → ((byteAt f 1 = 0 ∧ c = .hlNop f) ∨ (byteAt f 1 = 1 ∧ c = .hlSync f)) →
    exec c s = .next t ∧ t.get HLK.STATUS_FRAME_OK = 1 ∧ t.get HLK.STATE_LAST_ALIVE = byteAt f 0 % 256 ∧
      t.get HLK.CNT_OK_COUNT = min (s.get HLK.CNT_OK_COUNT + 1) 0xFFFFFFFF ∧ t.hlk.flags = 0 ∧ t.hlk.seen = true ∧
      t.hlk.results = s.hlk.results.drop (b2n s.hlk.carries) ∧
      t.mem = s.mem ∧ regsSame s t ([HLK.STATUS_FRAME_OK, HLK.STATE_LAST_ALIVE, HLK.CNT_OK_COUNT, HLK.STATUS_SAT, HLK.STATE_READY,
        HLK.STATE_OUTSTANDING].map fun g => g.key 0)) ∧
  (∀ (s : State) (f : List Nat), s.hlOn = true → (s.hlEnd 512).hlCheck 512 f = none → byteAt f 1 = 0x11 →
    byteAt f 3 = 1 → 0x10000000 ≤ le32 f 4 → le32 f 4 < 0x103FFFFC → le32 f 4 % 4 = 0 →
    ∃ t, exec (.regRead f) s = .next t ∧ t.get HLK.PTR_ADDR = le32 f 4 + 4 ∧ t.get HLK.STATE_PTR_VALID = 1 ∧
      t.hlk.results = s.hlk.results.drop (b2n s.hlk.carries) ++ [{ typ := 0x11, tag := byteAt f 2, eob := false, body := toLe 4 (s.rd32 (le32 f 4)) }] ∧
      t.mem = s.mem ∧ regsSame s t ([HLK.STATUS_FRAME_OK, HLK.STATE_LAST_ALIVE, HLK.CNT_OK_COUNT, HLK.STATUS_SAT, HLK.STATE_READY, HLK.STATE_OUTSTANDING, HLK.PTR_ADDR, HLK.STATE_PTR_VALID].map fun g => g.key 0)) ∧
  (∀ (s : State) (f : List Nat), s.hlOn = true → (s.hlEnd 512).hlCheck 512 f = none → byteAt f 1 = 0x12 →
    byteAt f 3 = 1 → 0x10000000 ≤ le32 f 4 → le32 f 4 < 0x103FFFFC → le32 f 4 % 4 = 0 →
    ∃ t, exec (.regWriteAt f) s = .next t ∧ t.get HLK.PTR_ADDR = le32 f 4 + 4 ∧ t.get HLK.STATE_PTR_VALID = 1 ∧
      t.hlk.results = s.hlk.results.drop (b2n s.hlk.carries) ++ [{ typ := 0x12, tag := byteAt f 2, eob := false, body := toLe 4 1 }] ∧
      t.mem = (s.wrBytes (le32 f 4) (toLe 4 (le32 f 8))).mem ∧ memSame s t (le32 f 4) 4 ∧ regsSame s t ([HLK.STATUS_FRAME_OK, HLK.STATE_LAST_ALIVE, HLK.CNT_OK_COUNT, HLK.STATUS_SAT, HLK.STATE_READY, HLK.STATE_OUTSTANDING, HLK.PTR_ADDR, HLK.STATE_PTR_VALID].map fun g => g.key 0)) ∧
  (∀ (s : State) (f : List Nat) (a : Nat), s.hlOn = true → (s.hlEnd 512).hlCheck 512 f = none → byteAt f 1 = 0x13 →
    byteAt f 3 = 1 → s.get HLK.STATE_PTR_VALID = 1 → a = s.get HLK.PTR_ADDR → 0x10000000 ≤ a → a < 0x103FFFFC → a % 4 = 0 →
    ∃ t, exec (.regWriteNext f) s = .next t ∧ t.get HLK.PTR_ADDR = a + 4 ∧
      t.hlk.results = s.hlk.results.drop (b2n s.hlk.carries) ++ [{ typ := 0x13, tag := byteAt f 2, eob := false, body := toLe 4 1 }] ∧
      t.mem = (s.wrBytes a (toLe 4 (le32 f 4))).mem ∧ memSame s t a 4 ∧ regsSame s t ([HLK.STATUS_FRAME_OK, HLK.STATE_LAST_ALIVE, HLK.CNT_OK_COUNT, HLK.STATUS_SAT, HLK.STATE_READY, HLK.STATE_OUTSTANDING, HLK.PTR_ADDR, HLK.STATE_PTR_VALID].map fun g => g.key 0)) ∧
  (∀ (s t : State) (f : List Nat), s.hlOn = true → (s.hlEnd 512).hlCheck 512 f = none → byteAt f 1 = 0x13 → s.get HLK.STATE_PTR_VALID = 0 → t = (s.hlEnd 512).hlAccept f →
    exec (.regWriteNext f) s = .next ((t.set HLK.STATE_PTR_VALID 0).hlResult f true (toLe 4 0))) ∧
  (∀ (s t u v w : State) (f : List Nat) (a : Nat) (c : Instr) (b : List Nat), s.hlOn = true → (s.hlEnd 512).hlCheck 512 f = none →
    t = (s.hlEnd 512).hlAccept f →
    ((byteAt f 1 = 0x11 ∧ c = .regRead f ∧ a = le32 f 4 ∧ t.busRead .hostLink a 4 = (.error, u) ∧ b = []) ∨
      (byteAt f 1 = 0x12 ∧ c = .regWriteAt f ∧ a = le32 f 4 ∧ t.busWrite .hostLink a 4 (le32 f 8) = (.error, u) ∧
        b = toLe 4 2147483648) ∨
      (byteAt f 1 = 0x13 ∧ c = .regWriteNext f ∧ s.get HLK.STATE_PTR_VALID ≠ 0 ∧ a = s.get HLK.PTR_ADDR ∧
        t.busWrite .hostLink a 4 (le32 f 4) = (.error, u) ∧ b = toLe 4 2147483648)) →
    v = ((u.set HLK.STATE_PTR_VALID 0).set HLK.STATUS_BUS_ERR 1).bump HLK.CNT_BUSERR_COUNT HLK.STATUS_SAT →
    w = v.set HLK.ERR_INFO_ERR 2147483648 → exec c s = .next (w.hlResult f false b)) ∧
  (∀ (s t : State) (f : List Nat), s.hlOn = true → (s.hlEnd 512).hlCheck 512 f = none →
    t = (s.hlEnd 512).hlAccept f →
    (byteAt f 1 = 0x11 → exec (.regRead f) s = t.hlWords f (some (le32 f 4)) (List.replicate (byteAt f 3) none) true) ∧
    (byteAt f 1 = 0x12 → exec (.regWriteAt f) s = t.hlWords f (some (le32 f 4)) (hlPayload f 8) false) ∧
    (byteAt f 1 = 0x13 → exec (.regWriteNext f) s = t.hlWords f t.hlPtr (hlPayload f 4) false)) ∧
  (∀ (s : State) (f : List Nat) (g : Nat × List Nat), s.hlOn = true → (s.hlEnd 512).hlCheck 512 f = none → byteAt f 1 = 0x20 →
    g = ((s.hlEnd 512).hlAccept f).hlGet (le16 f 4) (byteAt f 6) → g.1 = odOK → le32 f 8 ≤ g.2.length →
    ∃ t ty, exec (.objRead f) s = .next t ∧ t.hlk.results = s.hlk.results.drop (b2n s.hlk.carries) ++ [{ typ := 0x20, tag := byteAt f 2, eob := false, body := toLe 2 odOK ++ [ty, 0] ++ toLe 4 g.2.length ++ toLe 2 ((g.2.drop (le32 f 8)).take 44).length ++ [0, 0] ++ (g.2.drop (le32 f 8)).take 44 }] ∧
      (∀ d, objFind (le16 f 4) (byteAt f 6) = some d → ty = d.ty) ∧ t.mem = s.mem ∧ regsSame s t ([HLK.STATUS_FRAME_OK, HLK.STATE_LAST_ALIVE, HLK.CNT_OK_COUNT, HLK.STATUS_SAT, HLK.STATE_READY, HLK.STATE_OUTSTANDING, HLK.PTR_ADDR, HLK.STATE_PTR_VALID].map fun g => g.key 0)) ∧
  (∀ (s : State) (f : List Nat) (g : Nat × List Nat), s.hlOn = true → (s.hlEnd 512).hlCheck 512 f = none → byteAt f 1 = 0x20 →
    g = ((s.hlEnd 512).hlAccept f).hlGet (le16 f 4) (byteAt f 6) → g.1 = odOK → g.2.length < le32 f 8 →
    ∃ t ty, exec (.objRead f) s = .next t ∧ t.hlk.results = s.hlk.results.drop (b2n s.hlk.carries) ++ [{ typ := 0x20, tag := byteAt f 2, eob := false, body := toLe 2 odSEQUENCE ++ [ty, 0] ++ toLe 4 g.2.length }] ∧
      (∀ d, objFind (le16 f 4) (byteAt f 6) = some d → ty = d.ty) ∧ t.mem = s.mem ∧ regsSame s t ([HLK.STATUS_FRAME_OK, HLK.STATE_LAST_ALIVE, HLK.CNT_OK_COUNT, HLK.STATUS_SAT, HLK.STATE_READY, HLK.STATE_OUTSTANDING, HLK.PTR_ADDR, HLK.STATE_PTR_VALID].map fun g => g.key 0)) ∧
  (∀ (s : State) (f : List Nat) (g : Nat × List Nat), s.hlOn = true → (s.hlEnd 512).hlCheck 512 f = none → byteAt f 1 = 0x20 →
    g = ((s.hlEnd 512).hlAccept f).hlGet (le16 f 4) (byteAt f 6) → g.1 ≠ odOK →
    ∃ t, exec (.objRead f) s = .next t ∧
      t.hlk.results = s.hlk.results.drop (b2n s.hlk.carries) ++ [{ typ := 0x20, tag := byteAt f 2, eob := false, body := toLe 2 g.1 }] ∧
      t.mem = s.mem ∧ regsSame s t ([HLK.STATUS_FRAME_OK, HLK.STATE_LAST_ALIVE, HLK.CNT_OK_COUNT, HLK.STATUS_SAT, HLK.STATE_READY, HLK.STATE_OUTSTANDING, HLK.PTR_ADDR, HLK.STATE_PTR_VALID].map fun g => g.key 0)) ∧
  (∀ (s t u : State) (f : List Nat) (i sub e : Nat), s.hlOn = true → (s.hlEnd 512).hlCheck 512 f = none → byteAt f 1 = 0x21 → t = (s.hlEnd 512).hlAccept f →
    i = le16 f 4 → sub = byteAt f 6 → t.hlStaged i sub = none →
    (le32 f 8 ≠ 0 → exec (.objWrite f) s = .next (t.hlObjDone f odSEQUENCE 0)) ∧
    (le32 f 8 = 0 → byteAt f 18 = 1 → le32 f 12 ≠ le16 f 16 → exec (.objWrite f) s = .next (t.hlObjDone f odSEQUENCE 0)) ∧
    (le32 f 8 = 0 → byteAt f 18 = 1 → le32 f 12 = le16 f 16 →
      t.odWrite i sub (byteAt f 7) (slice f 20 (le16 f 16)) = (e, u) → (e ≠ odOK ∨ resetObj i = false) →
      exec (.objWrite f) s = .next (u.hlObjDone f e (if e = odOK then le16 f 16 else 0))) ∧
    (le32 f 8 = 0 → byteAt f 18 = 1 → le32 f 12 = le16 f 16 →
      t.odWrite i sub (byteAt f 7) (slice f 20 (le16 f 16)) = (odOK, u) → resetObj i = true → exec (.objWrite f) s = .next u) ∧
    (le32 f 8 = 0 → byteAt f 18 = 0 →
      (((e = t.odBar i sub ∧ e ≠ odOK) ∨ (t.odBar i sub = odOK ∧ e = odBUSY ∧ (t.xferOpen i sub = true ∨ 4 ≤ t.net.xfers.length)) ∨
        (t.odBar i sub = odOK ∧ t.xferOpen i sub = false ∧ t.net.xfers.length < 4 ∧ i ≠ 0x0130 ∧ 4194304 < le32 f 12 ∧
          e = odNO_MEMORY) ∨
        (t.odBar i sub = odOK ∧ t.xferOpen i sub = false ∧ t.net.xfers.length < 4 ∧ i = 0x0130 ∧ s.get PWR.STATE_LEW ≠ 0 ∧
          e = odSTATE) ∨
        (t.odBar i sub = odOK ∧ t.xferOpen i sub = false ∧ t.net.xfers.length < 4 ∧ i = 0x0130 ∧ s.get PWR.STATE_LEW = 0 ∧
          imgSize (sub - 1) < le32 f 12 ∧ e = odNO_MEMORY)) → exec (.objWrite f) s = .next (t.hlObjDone f e 0)) ∧
      (∀ x : Xfer, t.odBar i sub = odOK → t.xferOpen i sub = false → t.net.xfers.length < 4 → (i ≠ 0x0130 ∨ s.get PWR.STATE_LEW = 0) →
        le32 f 12 ≤ (if i = 0x0130 then imgSize (sub - 1) else 4194304) →
        x = { src := 0, tid := 0, kid := 0, index := i, sub := sub, out := false, kind := 0, total := le32 f 12, crc := 0, data := [], next := 0, segs := 0, resends := 0, host := true } →
        exec (.objWrite f) s = .next (({ t with net := { t.net with xfers := t.net.xfers ++ [x] } } : State).hlSegment f x)) ∧
      (t.odBar i sub = odOK → t.xferOpen i sub = false → t.net.xfers.length < 4 → i ≠ 0x0130 → le32 f 12 ≤ 4194304 →
        le16 f 16 ≤ le32 f 12 →
        exec (.objWrite f) s = .next (({ t with net := { t.net with xfers := (t.net.xfers.filter fun y => !(y.host && y.index == i && y.sub == sub)) ++ [{ src := 0, tid := 0, kid := 0, index := i, sub := sub, out := false, kind := 0, total := le32 f 12, crc := 0, data := slice f 20 (le16 f 16), next := 0, segs := 0, resends := 0, host := true }] } } : State).hlObjDone
          f odOK (le16 f 16))))) ∧
  (∀ (s t u : State) (f : List Nat) (x y : Xfer) (e : Nat), s.hlOn = true → (s.hlEnd 512).hlCheck 512 f = none → byteAt f 1 = 0x21 → t = (s.hlEnd 512).hlAccept f →
    t.hlStaged (le16 f 4) (byteAt f 6) = some x → y = { x with data := x.data ++ slice f 20 (le16 f 16) } →
    (le32 f 8 = 0 → byteAt f 18 = 1 → exec (.objWrite f) s = .next (t.hlObjDone f odBUSY 0)) ∧
    ((le32 f 8 ≠ 0 ∨ byteAt f 18 ≠ 1) → (le32 f 8 ≠ x.data.length ∨ x.total < y.data.length) →
      exec (.objWrite f) s = .next (t.hlObjDone f odSEQUENCE x.data.length)) ∧
    (byteAt f 18 = 0 → le32 f 8 = x.data.length → y.data.length ≤ x.total → u = ((t.hlUnstage x.index x.sub).imgSegment x (le32 f 8) (slice f 20 (le16 f 16))) →
      exec (.objWrite f) s = .next (({ u with net := { u.net with xfers := u.net.xfers ++ [y] } } : State).hlObjDone f odOK y.data.length)) ∧
    (byteAt f 18 = 1 → le32 f 8 ≠ 0 → le32 f 8 = x.data.length → y.data.length < x.total →
      u = ((t.hlUnstage x.index x.sub).imgSegment x (le32 f 8) (slice f 20 (le16 f 16))) →
      exec (.objWrite f) s = .next (u.hlObjDone f odSEQUENCE y.data.length)) ∧
    (byteAt f 18 = 1 → le32 f 8 ≠ 0 → le32 f 8 = x.data.length → y.data.length = x.total →
      ((t.hlUnstage x.index x.sub).imgSegment x (le32 f 8) (slice f 20 (le16 f 16))).odPut x.index x.sub (byteAt f 7) y.data = (e, u) →
      (e ≠ odOK ∨ resetObj x.index = false) → exec (.objWrite f) s = .next (u.hlObjDone f e y.data.length))) ∧
  (∀ (s : State) (x : Xfer), (s.net.xfers.find? fun y => y.host) = some x →
    exec .hlStagedWriteTimeout s = .next { s with net := { s.net with xfers := s.net.xfers.filter fun y => !(y.host && y.index == x.index && y.sub == x.sub) } }) ∧
  (∀ s : State, (∀ y ∈ s.net.xfers, y.host = false) → exec .hlStagedWriteTimeout s = .next s)

/-! ### Queues, clocks, power and life-cycle (R25, R410 to R412, R443 to R537) -/

/-- Pushes and pops (R449, R452, R454): with room the word goes to the tail and is counted, WM_UP set where the level rises above
WM; without room, or on a disabled queue, it is discarded, OVF set and counted; a pop answers the head word, WM_DN set where the
level falls to WM, and an empty queue answers 0 with UNF; a sequencer's private port reaches neither; a pointer mismatch empties
the queue first, with QERR and a log entry. Flush, enable and disable (R448, R454): a flush empties the masked queues alone and
keeps reservations; an enable takes BASE and DEPTH and starts empty, a region past the RAM or into another enabled queue's sets
CFG_ERR and leaves EN at 0, an enabled queue keeps its layout; a disable empties the queue, cancels its reservations, drops what
push buffers hold for it and counts those words as overflows. -/
def Obligations.QueueOperations : Prop :=
  (∀ (s : State) (q v : Nat) (m : Master), reachesData m = true → s.get QUE.QCFG_EN q ≠ 0 →
    (s.queWords q).length + s.get QUE.LEVEL_RSV q < (s.get QUE.QCFG_DEPTH q + 1) * 64 →
    (s.queWords q).length ≠ s.get QUE.WM_WM q →
    exec (.quePush q m v false) s = .next (({ s with que := Tab.set [] s.que q (s.queWords q ++ [v % 4294967296]) } : State).bump
      QUE.CNT_PUSH_COUNT QUE.STATUS_SAT q)) ∧
  (∀ (s : State) (q v : Nat) (m : Master), reachesData m = true → s.get QUE.QCFG_EN q ≠ 0 →
    (s.queWords q).length + s.get QUE.LEVEL_RSV q < (s.get QUE.QCFG_DEPTH q + 1) * 64 →
    (s.queWords q).length = s.get QUE.WM_WM q →
    exec (.quePush q m v false) s = .next ((({ s with que := Tab.set [] s.que q (s.queWords q ++ [v % 4294967296]) } : State).set
      QUE.STATUS_WM_UP 1 q).bump QUE.CNT_PUSH_COUNT QUE.STATUS_SAT q)) ∧
  (∀ (s : State) (q v : Nat) (m : Master), reachesData m = true →
    (s.get QUE.QCFG_EN q = 0 ∨ (s.get QUE.QCFG_DEPTH q + 1) * 64 ≤ (s.queWords q).length + s.get QUE.LEVEL_RSV q) →
    exec (.quePush q m v false) s = .next ((s.set QUE.STATUS_OVF 1 q).bump QUE.CNT_OVF_COUNT QUE.STATUS_SAT q)) ∧
  (∀ (s : State) (q w : Nat) (r : List Nat) (m : Master), reachesData m = true → s.queWords q = w :: r →
    r.length ≠ s.get QUE.WM_WM q →
    exec (.quePop q m false) s = .next ((({ s with que := Tab.set [] s.que q r } : State).bump QUE.CNT_POP_COUNT
      QUE.STATUS_SAT q).respond w false)) ∧
  (∀ (s : State) (q w : Nat) (r : List Nat) (m : Master), reachesData m = true → s.queWords q = w :: r →
    r.length = s.get QUE.WM_WM q →
    exec (.quePop q m false) s = .next (((({ s with que := Tab.set [] s.que q r } : State).set QUE.STATUS_WM_DN 1 q).bump
      QUE.CNT_POP_COUNT QUE.STATUS_SAT q).respond w false)) ∧
  (∀ (s : State) (q : Nat) (m : Master), reachesData m = true → s.queWords q = [] →
    exec (.quePop q m false) s = .next ((s.set QUE.STATUS_UNF 1 q).respond 0 false)) ∧
  (∀ (s : State) (q v n : Nat) (b : Bool),
    exec (.quePush q (.seq n) v b) s = .next s ∧ exec (.quePop q (.seq n) b) s = .next (s.respond 0 false)) ∧
  (∀ (s : State) (q v : Nat) (m : Master), reachesData m = true → s.get QUE.QCFG_EN q ≠ 0 →
    s.get QUE.LEVEL_RSV q < (s.get QUE.QCFG_DEPTH q + 1) * 64 →
    ∃ t, exec (.quePush q m v true) s = .next t ∧ t.queWords q = [v % 4294967296] ∧ t.get QUE.STATUS_QERR q = 1 ∧
      (∀ p, p ≠ q → t.queWords p = s.queWords p) ∧ memSame s t 0x2803F000 1040) ∧
  (∀ (s : State) (q v : Nat) (m : Master), reachesData m = true →
    (s.get QUE.QCFG_EN q = 0 ∨ (s.get QUE.QCFG_DEPTH q + 1) * 64 ≤ s.get QUE.LEVEL_RSV q) →
    ∃ t, exec (.quePush q m v true) s = .next t ∧ t.queWords q = [] ∧ t.get QUE.STATUS_QERR q = 1 ∧
      t.get QUE.STATUS_OVF q = 1 ∧ (∀ p, p ≠ q → t.queWords p = s.queWords p) ∧ memSame s t 0x2803F000 1040) ∧
  (∀ (s : State) (q : Nat) (m : Master), reachesData m = true →
    ∃ t, exec (.quePop q m true) s = .next t ∧ t.queWords q = [] ∧ t.get QUE.STATUS_QERR q = 1 ∧ t.get QUE.STATUS_UNF q = 1 ∧
      t.bus.resp = { value := 0, error := false } ∧ (∀ p, p ≠ q → t.queWords p = s.queWords p) ∧
      memSame s t 0x2803F000 1040) ∧
  (∀ (s : State) (m : Master) (mask : Nat),
    ∃ t, exec (.queFlush m mask) s = .next t ∧ (∀ q, q < 16 → bitOf mask q = true → t.queWords q = []) ∧
      (∀ q, (16 ≤ q ∨ bitOf mask q = false) → t.queWords q = s.queWords q) ∧ t.mem = s.mem ∧ t.objs = s.objs ∧
      (∀ q, q < 16 → bitOf mask q = true → s.get QUE.WM_WM q < (s.queWords q).length → t.get QUE.STATUS_WM_DN q = 1) ∧
      regsSame s t (((List.range 16).filter fun q => bitOf mask q && decide (s.get QUE.WM_WM q < (s.queWords q).length)).map fun q =>
        QUE.STATUS_WM_DN.key q)) ∧
  (∀ (s : State) (q base depth : Nat) (m : Master), s.get QUE.QCFG_EN q ≠ 0 →
    exec (.queEnable q m base depth) s = .next s) ∧
  (∀ (s : State) (q base depth : Nat) (m : Master), s.get QUE.QCFG_EN q = 0 → s.queWords q = [] →
    ((s.set QUE.QCFG_BASE base q).set QUE.QCFG_DEPTH depth q).queClash q = false →
    exec (.queEnable q m base depth) s = .next { ((s.set QUE.QCFG_BASE base q).set QUE.QCFG_DEPTH depth q).set QUE.QCFG_EN 1 q with que := Tab.set [] s.que q [] }) ∧
  (∀ (s u : State) (q base depth : Nat) (m : Master), s.get QUE.QCFG_EN q = 0 →
    u = (s.set QUE.QCFG_BASE base q).set QUE.QCFG_DEPTH depth q →
    (u.queClash q = true → exec (.queEnable q m base depth) s = .next (u.set QUE.STATUS_CFG_ERR 1 q)) ∧
    (u.queClash q = false → exec (.queEnable q m base depth) s = .next ((u.set QUE.QCFG_EN 1 q).queSet q []))) ∧
  (∀ (s : State) (q base depth : Nat) (m : Master), s.get QUE.QCFG_EN q = 0 → base < 256 → depth < 256 → 255 < base + depth →
    exec (.queEnable q m base depth) s =
      .next (((s.set QUE.QCFG_BASE base q).set QUE.QCFG_DEPTH depth q).set QUE.STATUS_CFG_ERR 1 q)) ∧
  (∀ (s : State) (q p base depth : Nat) (m : Master), q < 16 → p < 16 → q ≠ p → s.get QUE.QCFG_EN q = 0 → base < 256 →
    depth < 256 → s.get QUE.QCFG_EN p ≠ 0 → base ≤ s.get QUE.QCFG_BASE p + s.get QUE.QCFG_DEPTH p →
    s.get QUE.QCFG_BASE p ≤ base + depth →
    exec (.queEnable q m base depth) s =
      .next (((s.set QUE.QCFG_BASE base q).set QUE.QCFG_DEPTH depth q).set QUE.STATUS_CFG_ERR 1 q)) ∧
  (∀ (s : State) (q : Nat) (m : Master), s.get QUE.QCFG_EN q = 0 → exec (.queDisable q m) s = .next s) ∧
  (∀ (s : State) (q : Nat) (m : Master), s.get QUE.QCFG_EN q ≠ 0 →
    ∃ t, exec (.queDisable q m) s = .next t ∧ t.get QUE.QCFG_EN q = 0 ∧ t.get QUE.LEVEL_RSV q = 0 ∧ t.queWords q = [] ∧
      (∀ p, p ≠ q → t.queWords p = s.queWords p) ∧ (∀ n b, n < 16 → b ∈ (t.opsAt n).push → b.queue ≠ q) ∧
      (∀ n b, n < 16 → b.queue ≠ q → b ∈ (s.opsAt n).push → b ∈ (t.opsAt n).push) ∧
      ((∃ n, n < 16 ∧ s.heldFor n q ≠ 0) → t.get QUE.STATUS_OVF q = 1) ∧
      t.get QUE.CNT_OVF_COUNT q = min 0xFFFFFFFF (s.get QUE.CNT_OVF_COUNT q + ((List.range 16).map fun n => s.heldFor n q).sum) ∧
      t.mem = s.mem ∧ regsSame s t ([QUE.QCFG_EN, QUE.LEVEL_RSV, QUE.STATUS_WM_DN, QUE.STATUS_OVF, QUE.CNT_OVF_COUNT,
        QUE.STATUS_SAT].map fun f => f.key q))

/-- Loss of lock and the way back (R467, R470, R471, R472): a loss of declared lock puts every output on bypass, restarts the search,
stops the spreading, ends open windows and drops carriers with LOL_RAMP and LAST_ERR = LOL; declared lock reports the band; lock
held ends in LOCKED_WAIT with RELOCK and, with AUTO_RETURN, in the return; RETURN before that is refused. What cannot be at the
moment (a loss without lock, a second lock, a relock outside the search) changes nothing. Writes of the clock block (R465, R468,
R469, R473, R478): BYPASS and EN are Core P's, MULT takes 12 to 24 from Core P with RADIO off, puts the outputs on bypass and
restarts the lock, CLK_CPU alone has a divider of 2, 4 or 8, DELAY is any master's; what is refused sets CMD_ERR and nothing
else. The slow clock follows its crystal: on a failure it takes the RC oscillator and stays there until SLOW_RETRY. Where a
clause rests on the model's own choice, that is assumption 39 or 59. -/
def Obligations.ClocksAndLossOfLock : Prop :=
  (∀ s : State, s.coreP.pllLocked = true →
    ∃ t, exec .pllLol s = .next t ∧ t.get CLK.STATE_ON_BYPASS = 1 ∧ t.get CLK.STATE_PHY_AON = 1 ∧ t.get CLK.STATE_PLL_STATE = 1 ∧
      t.get CLK.STATUS_LOL = 1 ∧ t.get CLK.CNT_LOL_COUNT = min 0xFFFFFFFF (s.get CLK.CNT_LOL_COUNT + 1) ∧
      t.get CLK.STATE_SS_ACTIVE = 0 ∧ t.coreP.pllLocked = false ∧
      (∀ n, n < 4 → s.carrier n = true → t.get UTX.STATUS_LOL_RAMP n = 1 ∧ t.get UTX.STATE_LAST_ERR n = errLOL) ∧
      (∀ sh, sh < 4 → (t.engAt sh).window = none)) ∧
  (∀ s : State, s.coreP.pllLocked = false → exec .pllLol s = .next s) ∧
  (∀ (s : State) (band : Nat), s.coreP.pllLocked = false → s.get CLK.STATE_PLL_STATE = 1 →
    exec (.pllLock band) s = .next { s.set CLK.STATE_BAND band with coreP.pllLocked := true }) ∧
  (∀ (s : State) (band : Nat), (s.coreP.pllLocked = true ∨ s.get CLK.STATE_PLL_STATE ≠ 1) →
    exec (.pllLock band) s = .next s) ∧
  (∀ s : State, (s.coreP.pllLocked = false ∨ s.get CLK.STATE_PLL_STATE ≠ 1) → exec .relock s = .next s) ∧
  (∀ s : State, s.coreP.pllLocked = true → s.get CLK.STATE_PLL_STATE = 1 → s.get CLK.CTRL_AUTO_RETURN = 0 →
    exec .relock s = .next ((s.set CLK.STATE_PLL_STATE 2).set CLK.STATUS_RELOCK 1)) ∧
  (∀ s : State, s.coreP.pllLocked = true → s.get CLK.STATE_PLL_STATE = 1 → s.get CLK.CTRL_AUTO_RETURN ≠ 0 →
    ∃ t, exec .relock s = .next t ∧ t.get CLK.STATE_ON_BYPASS = 0 ∧ t.get CLK.STATE_PLL_STATE = 3 ∧
      t.get CLK.STATUS_RELOCK = 1 ∧ t.get CLK.STATUS_RETURNED = 1 ∧
      t.get CLK.STATE_PHY_AON = (if s.get CLK.PLL_CFG_MULT = 24 then 0 else 1) ∧ t.mem = s.mem ∧
      regsSame s t ([CLK.STATE_ON_BYPASS, CLK.STATE_PLL_STATE, CLK.STATUS_RELOCK, CLK.STATUS_RETURNED, CLK.STATE_PHY_AON,
        CLK.STATE_SS_SUSP, CLK.STATE_SS_ACTIVE, CLK.SPUR_CUR_MATCH, CLK.SPUR_CUR_ENTRY, CLK.CNT_SUSP_COUNT,
        CLK.STATUS_SAT].map fun f => f.key 0)) ∧
  (∀ (s : State) (m : Master), s.get CLK.STATE_PLL_STATE < 2 → exec (.clkReturn m) s = .next (s.set CLK.STATUS_CMD_ERR 1)) ∧
  (∀ (s : State) (m : Master), 2 ≤ s.get CLK.STATE_PLL_STATE → s.get CLK.STATE_ON_BYPASS = 0 →
    exec (.clkReturn m) s = .next s) ∧
  (∀ (s : State) (m : Master), 2 ≤ s.get CLK.STATE_PLL_STATE → s.get CLK.STATE_ON_BYPASS ≠ 0 →
    ∃ t, exec (.clkReturn m) s = .next t ∧ t.get CLK.STATE_ON_BYPASS = 0 ∧ t.get CLK.STATE_PLL_STATE = 3 ∧
      t.get CLK.STATUS_RETURNED = 1 ∧ t.get CLK.STATE_PHY_AON = (if s.get CLK.PLL_CFG_MULT = 24 then 0 else 1) ∧ t.mem = s.mem ∧
      regsSame s t ([CLK.STATE_ON_BYPASS, CLK.STATE_PLL_STATE, CLK.STATUS_RETURNED, CLK.STATE_PHY_AON,
        CLK.STATE_SS_SUSP, CLK.STATE_SS_ACTIVE, CLK.SPUR_CUR_MATCH, CLK.SPUR_CUR_ENTRY, CLK.CNT_SUSP_COUNT,
        CLK.STATUS_SAT].map fun f => f.key 0)) ∧
  (∀ (s : State) (m : Master), m ≠ .coreP → exec (.clkBypass m) s = .next (s.set CLK.STATUS_CMD_ERR 1)) ∧
  (∀ s : State, ∃ t, exec (.clkBypass .coreP) s = .next t ∧ t.get CLK.STATE_ON_BYPASS = 1 ∧ t.get CLK.STATE_PLL_STATE = 1 ∧
    t.get CLK.STATE_PHY_AON = 1 ∧ t.get CLK.STATUS_LOL = s.get CLK.STATUS_LOL ∧ t.get CLK.STATE_SS_ACTIVE = 0 ∧
    t.coreP.pllLocked = s.coreP.pllLocked ∧
    (∀ n, n < 4 → s.carrier n = true → t.get UTX.STATUS_LOL_RAMP n = 1 ∧ t.get UTX.STATE_LAST_ERR n = errLOL) ∧
    (∀ sh, sh < 4 → (t.engAt sh).window = none)) ∧
  (∀ (s : State) (m : Master) (v : Nat), (m ≠ .coreP ∨ s.bit PWR.STATE_DOM 0 = true ∨ v < 12 ∨ 24 < v) →
    exec (.pllMultWrite m v) s = .next (s.set CLK.STATUS_CMD_ERR 1)) ∧
  (∀ (s : State) (v : Nat), s.bit PWR.STATE_DOM 0 = false → 12 ≤ v → v ≤ 24 →
    ∃ t, exec (.pllMultWrite .coreP v) s = .next t ∧ t.get CLK.PLL_CFG_MULT = v ∧ t.get CLK.STATE_ON_BYPASS = 1 ∧
      t.get CLK.STATE_PLL_STATE = 1 ∧ t.get CLK.STATUS_LOL = s.get CLK.STATUS_LOL ∧ t.coreP.pllLocked = false) ∧
  (∀ (s : State) (m : Master) (v : Nat), (v = 2 ∨ v = 4 ∨ v = 8) → exec (.clkDivWrite m 0 v) s = .next (s.set CLK.OUT_DIV v)) ∧
  (∀ (s : State) (m : Master) (n v : Nat), (n ≠ 0 ∨ (v ≠ 2 ∧ v ≠ 4 ∧ v ≠ 8)) →
    exec (.clkDivWrite m n v) s = .next (s.set CLK.STATUS_CMD_ERR 1)) ∧
  (∀ (s : State) (n : Nat) (en : Bool), exec (.clkOutEnWrite .coreP n en) s = .next (s.set CLK.OUT_EN (if en then 1 else 0) n)) ∧
  (∀ (s : State) (m : Master) (n : Nat) (en : Bool), m ≠ .coreP →
    exec (.clkOutEnWrite m n en) s = .next (s.set CLK.STATUS_CMD_ERR 1)) ∧
  (∀ (s : State) (m : Master) (n v : Nat), exec (.clkDelayWrite m n v) s = .next (s.set CLK.OUT_DELAY v n)) ∧
  (∀ s : State, s.coreP.slowHeld = false → s.coreP.refHeld = false → exec .slowXtalQualified s = .next (s.set CLK.STATE_SLOW_RC 0)) ∧
  (∀ s : State, (s.coreP.slowHeld = true ∨ s.coreP.refHeld = true) → exec .slowXtalQualified s = .next s) ∧
  (∀ s : State, s.get CLK.STATE_SLOW_RC = 0 →
    ∃ t, exec .slowFail s = .next t ∧ t.get CLK.STATE_SLOW_RC = 1 ∧ t.get CLK.STATUS_SLOW_FAIL = 1 ∧ t.coreP.slowHeld = true ∧
      memSame s t 0x2803F000 1040 ∧ regsSame s t [CLK.STATE_SLOW_RC.key 0, CLK.STATUS_SLOW_FAIL.key 0]) ∧
  (∀ s : State, s.get CLK.STATE_SLOW_RC ≠ 0 → exec .slowFail s = .next s) ∧
  (∀ (s : State) (m : Master), s.get CLK.STATE_SLOW_RC ≠ 0 →
    exec (.slowRetry m) s = .next { s with coreP.slowHeld := false }) ∧
  (∀ (s : State) (m : Master), s.get CLK.STATE_SLOW_RC = 0 → exec (.slowRetry m) s = .next s)

/-- Resets (R8, R23, R25, R26, R484, R485, R494, R504): WARM by Core P, the pin or RESTART notes its cause; while REF_FAIL holds the
device every register outside AON and MRAM reads its reset value, the kill again where RFKILL_N is low, memory below the
retention SRAM reads 0 and the rest of memory and the MRAM store are kept; once released bring-up follows, a node found
commissioned going on to FIELD by one WARM more; without an accepted firmware image it ends in FAILSAFE with the failsafe on the
pins. POWER_ON brings the line: COLD and bring-up, bring-up alone where AON has been running on harvest. A 5.0 V rail at 4.50 V or
above is no brown-out; below it, with a field that supplies the tag, WARM with AON on harvest, and COLD without. Where a clause
rests on the model's own choice, that is one of assumptions 5, 34, 37 or 47. -/
def Obligations.WarmResets : Prop :=
  (∀ (s : State) (c : Instr) (f : Fld), s.coreP.refHeld = true → s.get RGE.KILL_PIN = 0 →
    ((c = .warmReset ∧ f = SYS.RST_CAUSE_SOFT) ∨ (c = .restart ∧ f = SYS.RST_CAUSE_SOFT) ∨
      (c = .resetNPin ∧ f = SYS.RST_CAUSE_PIN)) →
    ∃ t, exec c s = .next t ∧ t.get f = 1 ∧
      (∀ g n, keptKey (Fld.key g n) = false → t.get g n = g.rst n) ∧
      (∀ g n, keptKey (Fld.key g n) = true → g.key n ∉ ([f, SYS.LC_STATE, CAL.BANK_PTR, PWR.STATE_DOM, PWR.STATE_BUCKB_ON,
        PWR.DOM_CTRL_RADIO, PWR.DOM_CTRL_HFR].map fun h => h.key 0) → t.get g n = s.get g n) ∧
      (∀ a, a < 0x28000000 → t.rd8 a = 0) ∧ (∀ a, 0x28000000 ≤ a → t.rd8 a = s.rd8 a) ∧ t.nv = s.nv ∧ t.objs = s.objs ∧
      t.que = []) ∧
  (∀ (s : State) (c : Instr) (f : Fld), s.coreP.refHeld = true → s.get RGE.KILL_PIN ≠ 0 →
    ((c = .warmReset ∧ f = SYS.RST_CAUSE_SOFT) ∨ (c = .restart ∧ f = SYS.RST_CAUSE_SOFT) ∨
      (c = .resetNPin ∧ f = SYS.RST_CAUSE_PIN)) →
    ∃ t, exec c s = .next t ∧ t.get f = 1 ∧ t.get RGE.KILL_PIN = 1 ∧ t.get RGE.STATE_KILL_ACTIVE = 1 ∧
      t.get RGE.STATUS_KILL_PIN = 1 ∧ (∀ a, a < 0x28000000 → t.rd8 a = 0) ∧ t.nv = s.nv ∧ t.objs = s.objs ∧ t.que = []) ∧
  (∀ (s u : State) (c : Instr) (f : Fld), s.coreP.refHeld = false →
    ((c = .warmReset ∧ f = SYS.RST_CAUSE_SOFT) ∨ (c = .restart ∧ f = SYS.RST_CAUSE_SOFT) ∨
      (c = .resetNPin ∧ f = SYS.RST_CAUSE_PIN)) → u = (s.set f 1).warmBase →
    (∀ k, k < 2 → (u.bootVotes.bootClocks.set SYS.MODE_MODE 1).imgOk 0 k = false) →
    ∃ t, exec c s = .next t ∧ t.mode = 3 ∧ t.bit SYS.MODE_CAUSE 7 = true ∧ t.get LUM.FS_CTRL_ENGAGED ≠ 0 ∧
      t.bit PWR.STATE_DOM 3 = false) ∧
  (∀ (s u : State) (c : Instr) (f : Fld), s.coreP.refHeld = false →
    ((c = .warmReset ∧ f = SYS.RST_CAUSE_SOFT) ∨ (c = .restart ∧ f = SYS.RST_CAUSE_SOFT) ∨
      (c = .resetNPin ∧ f = SYS.RST_CAUSE_PIN)) → u = (s.set f 1).warmBase →
    exec c s = .next (if u.bringUp.wantsField = true then ((u.bringUp.lcBegin lcFIELD).set SYS.RST_CAUSE_SOFT 1).warmBase.bringUp
      else u.bringUp)) ∧
  (∀ (s u : State) (cls : Nat),
    ((s.get PWR.STATE_HARV = 0 ∧ u = (s.coldBase.lineOn cls).tagRelease.copiesFresh) ∨
      (s.get PWR.STATE_HARV ≠ 0 ∧ u = s.lineOn cls)) →
    exec (.powerOn cls) s = .next (if u.bringUp.wantsField = true then
      ((u.bringUp.lcBegin lcFIELD).set SYS.RST_CAUSE_SOFT 1).warmBase.bringUp else u.bringUp)) ∧
  (∀ (s : State) (mv : Nat) (b : Bool), 4500 ≤ mv → exec (.brownOut mv b) s = .next s) ∧
  (∀ (s : State) (mv : Nat) (b : Bool), mv < 4500 → (b = false ∨ s.get HFT.STATE_FIELD = 0) →
    ∃ t, exec (.brownOut mv b) s = .next t ∧ (∀ a, a < 0x30000000 → t.rd8 a = 0) ∧
      (∀ a, 0x30000000 ≤ a → t.rd8 a = s.rd8 a) ∧ t.nv = s.nv ∧ t.objs = s.objs ∧ t.que = [] ∧ t.get HFT.STATE_LINE = 0 ∧
      t.get PWR.STATE_HARV = 0) ∧
  (∀ (s : State) (mv : Nat), mv < 4500 → s.get HFT.STATE_FIELD ≠ 0 →
    ∃ t, exec (.brownOut mv true) s = .next t ∧ t.get PWR.STATUS_BROWN_OUT = 1 ∧ t.get SYS.RST_CAUSE_BROWN_OUT = 1 ∧
      t.get PWR.STATE_HARV = 1 ∧ t.get HFT.STATE_LINE = 0 ∧ t.bit PWR.STATE_DOM 3 = false ∧
      (∀ a, a < 0x28000000 → t.rd8 a = 0) ∧ t.nv = s.nv ∧ t.objs = s.objs ∧ t.que = [])

/-- Loss of REFCLK, a core's reset and a watchdog's expiry (R25, R466, R497, R535, R537): REF_FAIL holds the device in WARM until
REFCLK is back, and bring-up follows then; a core's reset changes its cause and is remembered, three within 600 s lead to
LAMP_KEEP and both cores within 1 s to FAILSAFE; a first expiry of a watchdog that is enabled and not held sets EXPIRED and AFTER,
is counted, wakes Core P and resets its core. The vote scrub (R443): copies without flips change nothing; one copy that differs is
corrected, the field keeping its value, with VOTE_FIX and one event counted, and the fields of the enforcer set its own VOTE_FIX
too; a field that loses its majority leads to FAILSAFE. Where a clause rests on the model's own choice, that is one of assumptions
34, 36 or 37. -/
def Obligations.CoreResetsWatchdogsAndScrub : Prop :=
  (∀ s : State, s.coreP.refHeld = false →
    ∃ t, exec .refFail s = .next t ∧ t.coreP.refHeld = true ∧ t.get CLK.STATUS_REF_FAIL = 1 ∧
      t.get SYS.RST_CAUSE_REF_FAIL = 1 ∧ (∀ a, a < 0x28000000 → t.rd8 a = 0) ∧ t.nv = s.nv ∧ t.objs = s.objs) ∧
  (∀ s : State, s.coreP.refHeld = true → exec .refFail s = .next s) ∧
  (∀ s : State, s.coreP.refHeld = false → exec .refclkRecovery s = .next s) ∧
  (∀ s u : State, s.coreP.refHeld = true → u = ({ s with coreP.refHeld := false } : State).logP 0x21 0 0 →
    exec .refclkRecovery s = .next (if u.bringUp.wantsField = true then
      ((u.bringUp.lcBegin lcFIELD).set SYS.RST_CAUSE_SOFT 1).warmBase.bringUp else u.bringUp)) ∧
  (∀ s : State, s.coreP.resets = [] →
    exec (.coreReset 0) s = .next { s.set SYS.RST_CAUSE_CORE_A 1 with coreP.resets := [(s.now, 0)] } ∧
    exec (.coreReset 1) s = .next { s.set SYS.RST_CAUSE_CORE_B 1 with coreP.resets := [(s.now, 1)] }) ∧
  (∀ (s u : State) (k : Nat) (l : List (Nat × Nat)), k < 2 → l = ((s.now, k) :: s.coreP.resets).take 8 →
    u = { s.set (if k = 0 then SYS.RST_CAUSE_CORE_A else SYS.RST_CAUSE_CORE_B) 1 with coreP.resets := l } →
    ((∀ e ∈ l, s.now ≤ e.1 + 240000000 → e.2 = k) → (l.filter fun e => decide (s.now ≤ e.1 + 144000000000)).length < 3 →
      exec (.coreReset k) s = .next u) ∧
    ((∀ e ∈ l, s.now ≤ e.1 + 240000000 → e.2 = k) → 3 ≤ (l.filter fun e => decide (s.now ≤ e.1 + 144000000000)).length →
      ∃ t, exec (.coreReset k) s = .next t ∧ t.mode = (if s.mode = 3 then 3 else 2) ∧ t.bit SYS.MODE_CAUSE 4 = true) ∧
    ((∃ e ∈ l, s.now ≤ e.1 + 240000000 ∧ e.2 ≠ k) →
      ∃ t, exec (.coreReset k) s = .next t ∧ t.mode = 3 ∧ t.bit SYS.MODE_CAUSE 6 = true)) ∧
  (∀ (s : State) (n : Nat), n < 2 → (s.get SYS.WDT_CTRL_EN n = 0 ∨ s.wdtHalted n = true) → exec (.wdtExpiry n) s = .next s) ∧
  (∀ (s : State) (n : Nat), n < 2 → s.get SYS.WDT_CTRL_EN n ≠ 0 → s.wdtHalted n = false → s.get SYS.WDT_STATE_AFTER n = 0 →
    s.coreP.resets = [] →
    ∃ t, exec (.wdtExpiry n) s = .next t ∧ t.get SYS.WDT_STATUS_EXPIRED n = 1 ∧ t.get SYS.WDT_STATE_AFTER n = 1 ∧
      t.get SYS.WDT_CNT_COUNT n = min 0xFFFFFFFF (s.get SYS.WDT_CNT_COUNT n + 1) ∧
      t.get (if n = 0 then SYS.RST_CAUSE_CORE_A else SYS.RST_CAUSE_CORE_B) = 1 ∧ t.bit AON.WAKE_WAKE 3 = true ∧
      t.mode = s.mode ∧ t.coreP.resets = [(s.now, n)] ∧ memSame s t 0x2803F000 1040) ∧
  (∀ (s : State) (n : Nat), n < 2 → s.get SYS.WDT_CTRL_EN n ≠ 0 → s.wdtHalted n = false → s.get SYS.WDT_STATE_AFTER n = 0 →
    ∃ t, exec (.wdtExpiry n) s = .next t ∧ t.get SYS.WDT_STATUS_EXPIRED n = 1 ∧ t.get SYS.WDT_STATE_AFTER n = 1 ∧
      t.get SYS.WDT_CNT_COUNT n = min 0xFFFFFFFF (s.get SYS.WDT_CNT_COUNT n + 1) ∧
      t.get (if n = 0 then SYS.RST_CAUSE_CORE_A else SYS.RST_CAUSE_CORE_B) = 1 ∧ t.bit AON.WAKE_WAKE 3 = true ∧
      t.coreP.resets = ((s.now, n) :: s.coreP.resets).take 8) ∧
  (∀ (s : State) (f : Nat), Tab.get (0, 0, 0) s.badVotes (f % 7) = (0, 0, 0) →
    ∃ t, exec (.voteScrub f 0 0 0) s = .next t ∧ t.regs = s.regs ∧ t.mem = s.mem ∧
      (∀ k, Tab.get (0, 0, 0) t.badVotes k = Tab.get (0, 0, 0) s.badVotes k)) ∧
  (∀ (s : State) (f c : Nat) (i : Instr), f < 7 → Tab.get (0, 0, 0) s.badVotes f = (0, 0, 0) → 0 < c →
    c < 2 ^ ((s.voteValue f).2 + 1) → i ∈ [Instr.voteScrub f c 0 0, .voteScrub f 0 c 0, .voteScrub f 0 0 c] →
    ∃ t, exec i s = .next t ∧ (t.voteValue f).1 = (s.voteValue f).1 ∧ t.get SYS.STATUS_VOTE_FIX = 1 ∧
      t.get SYS.CNT_VOTE_COUNT = min 0xFFFFFFFF (s.get SYS.CNT_VOTE_COUNT + 1) ∧ t.get SYS.VOTE_INFO_FIELD = f ∧ t.mode = s.mode ∧
      (1 ≤ f → f ≤ 3 → t.get RGE.STATUS_VOTE_FIX = 1) ∧ Tab.get (0, 0, 0) t.badVotes f = (0, 0, 0) ∧
      memSame s t 0x2803F000 1040) ∧
  (∀ (s : State) (f : Nat), f < 7 → Tab.get (0, 0, 0) s.badVotes f = (0, 0, 0) →
    ∃ t, exec (.voteScrub f 1 1 0) s = .next t ∧ t.mode = 3 ∧ t.bit SYS.MODE_CAUSE 6 = true) ∧
  (∀ (s : State) (f a b c w : Nat), f < 7 → Tab.get (0, 0, 0) s.badVotes f = (0, 0, 0) → w = (s.voteValue f).2 →
    a < 2 ^ (w + 1) → b < 2 ^ (w + 1) → c < 2 ^ (w + 1) → voteLost w (a, b, c) = true →
    ∃ t, exec (.voteScrub f a b c) s = .next t ∧ t.mode = 3 ∧ t.bit SYS.MODE_CAUSE 6 = true)

/-- R536: an expiry while AFTER is set asserts WARM, sets RST_CAUSE.WDT2 and leads to FAILSAFE with the failsafe level on the dim
outputs. -/
def Obligations.SecondWatchdogExpiry : Prop :=
  ∀ (s : State) (n : Nat), n < 2 → s.get SYS.WDT_CTRL_EN n ≠ 0 → s.wdtHalted n = false → s.get SYS.WDT_STATE_AFTER n ≠ 0 →
    ∃ t, exec (.wdtExpiry n) s = .next t ∧ t.mode = 3 ∧ t.get SYS.RST_CAUSE_WDT2 = 1 ∧ t.bit SYS.MODE_CAUSE 6 = true ∧
      t.get LUM.FS_CTRL_ENGAGED ≠ 0 ∧ (∀ a, a < 0x28000000 → t.rd8 a = 0) ∧ t.que = [] ∧
      (∀ k, k < 2 → t.get SYS.WDT_CTRL_EN k = 0)

/-- The line warning and the domains (R473, R482, R483, R487): a line above the threshold only shows its voltage; below it LEW is set
and counted and the kill asserted, the Granary's staged records committed while CORE is powered; its end releases the kill, and
with no cause of QUIET left step 7 follows. DOM_CTRL acts for Core P alone: RADIO and HFR on or off as its bits say, RADIO refused
while MULT is not 24. The thermal governor and QUIET (R497, R499, R500): WARN_C by the hotter die sets THERM, counts and wakes Core
P; the cap on sheaves falls to no less than 1 and rises to no more than 4; QUIET_C leads from FULL to QUIET with RADIO and HFR off;
HARD_C takes the power at once; QUIET_EXIT drops the causes that have cleared, and with none left step 7 follows. Where a clause
rests on the model's own choice, that is one of assumptions 34 or 37. -/
def Obligations.LineAndTemperature : Prop :=
  (∀ (s : State) (mv : Nat), (s.get PWR.STATE_LEW ≠ 0 ∨ s.get PWR.LEW_CFG_LEW_MV ≤ mv) →
    exec (.lew mv) s = .next ((s.set PWR.LINE_LINE_MV mv).set PWR.STATE_LINE_OK (if 20000 < mv then 1 else 0))) ∧
  (∀ (s u : State) (mv : Nat), s.get PWR.STATE_LEW = 0 → mv < s.get PWR.LEW_CFG_LEW_MV →
    u = (((((s.set PWR.LINE_LINE_MV mv).set PWR.STATE_LINE_OK (if 20000 < mv then 1 else 0)).set PWR.STATE_LEW 1).set
      PWR.STATUS_LEW 1).bump PWR.CNT_LEW_COUNT PWR.STATUS_SAT).setBit AON.WAKE_WAKE 0 true →
    (s.bit PWR.STATE_DOM 3 = false → exec (.lew mv) s = .next u.killReg) ∧
    (s.bit PWR.STATE_DOM 3 = true → exec (.lew mv) s = .next u.killReg.grnCommit)) ∧
  (∀ s : State, s.get PWR.STATE_LEW = 0 → exec .lewEnd s = .next s) ∧
  (∀ s : State, s.get PWR.STATE_LEW ≠ 0 → 20000 ≤ s.get PWR.LEW_CFG_LEW_MV + 100 * s.get PWR.LEW_CFG_HYST → s.mode ≠ 1 →
    s.get RGE.STATE_KILL_ACTIVE ≠ 0 → s.get RGE.KILL_PIN = 0 →
    exec .lewEnd s = .next ((((((s.set PWR.STATE_LINE_OK 1).set PWR.STATE_LEW 0).set PWR.STATUS_LEW_END 1).set
      RGE.KILL_KILL 0).set RGE.STATE_KILL_ACTIVE 0).set RGE.STATE_HOLD 15)) ∧
  (∀ s : State, s.get PWR.STATE_LEW ≠ 0 → (s.mode ≠ 1 ∨ s.quietCauses ≠ 0) →
    ∃ t, exec .lewEnd s = .next t ∧ t.get PWR.STATE_LEW = 0 ∧ t.get PWR.STATUS_LEW_END = 1 ∧ t.get RGE.KILL_KILL = 0 ∧
      t.mode = s.mode ∧ t.mem = s.mem) ∧
  (∀ (s u : State) (b : Nat), s.get PWR.STATE_LEW ≠ 0 → s.mode = 1 → s.quietCauses = 0 →
    (20000 ≤ s.get PWR.LEW_CFG_LEW_MV + 100 * s.get PWR.LEW_CFG_HYST → u = s ∧ b = 1) →
    (s.get PWR.LEW_CFG_LEW_MV + 100 * s.get PWR.LEW_CFG_HYST < 20000 → u = s.fresh.2 ∧ b = s.fresh.1 % 2) →
    exec .lewEnd s = .next (((((u.set PWR.STATE_LINE_OK b).set PWR.STATE_LEW 0).set PWR.STATUS_LEW_END 1).killRegClear.set
      RGE.STATE_QUIET_LATCH 0).step7)) ∧
  (∀ (s : State) (m : Master) (v : Nat), m ≠ .coreP → exec (.domCtrlWrite m v) s = .next s) ∧
  (∀ (s : State) (v : Nat), bitOf v 0 = false → bitOf v 1 = false → s.bit PWR.STATE_DOM 0 = false →
    s.bit PWR.STATE_DOM 1 = false →
    exec (.domCtrlWrite .coreP v) s = .next ((((s.set PWR.DOM_CTRL_RADIO 0).set PWR.DOM_CTRL_HFR 0).set PWR.DOM_CTRL_MRAM
      (bits v 2 2)).setBit PWR.STATE_DOM 2 (bitOf v 2))) ∧
  (∀ (s : State) (v : Nat), bitOf v 0 = true → bitOf v 1 = true → s.bit PWR.STATE_DOM 0 = false → s.get CLK.PLL_CFG_MULT = 24 →
    ∃ t, exec (.domCtrlWrite .coreP v) s = .next t ∧ t.bit PWR.STATE_DOM 0 = true ∧ t.bit PWR.STATE_DOM 1 = true ∧
      t.get PWR.STATE_BUCKB_ON = 1 ∧ t.get PWR.DOM_CTRL_RADIO = 1 ∧ t.get CAL.STATE_APPLIED = 1 ∧ t.mem = s.mem) ∧
  (∀ (s : State) (v : Nat), bitOf v 0 = true → (s.bit PWR.STATE_DOM 0 = true ∨ s.get CLK.PLL_CFG_MULT = 24) →
    ∃ t, exec (.domCtrlWrite .coreP v) s = .next t ∧ t.bit PWR.STATE_DOM 0 = true ∧ t.bit PWR.STATE_DOM 1 = bitOf v 1 ∧
      t.bit PWR.STATE_DOM 2 = bitOf v 2 ∧ t.get PWR.DOM_CTRL_RADIO = 1 ∧ t.get PWR.DOM_CTRL_HFR = bits v 1 1 ∧
      t.get PWR.DOM_CTRL_MRAM = bits v 2 2) ∧
  (∀ (s : State) (v : Nat), bitOf v 0 = true → s.bit PWR.STATE_DOM 0 = false → s.get CLK.PLL_CFG_MULT ≠ 24 →
    ∃ t, exec (.domCtrlWrite .coreP v) s = .next t ∧ t.bit PWR.STATE_DOM 0 = false ∧ t.get PWR.STATUS_CMD_ERR = 1 ∧
      t.bit PWR.STATE_DOM 1 = bitOf v 1 ∧ t.get PWR.DOM_CTRL_HFR = bits v 1 1) ∧
  (∀ (s : State) (v : Nat), bitOf v 0 = false → s.bit PWR.STATE_DOM 0 = true →
    ∃ t, exec (.domCtrlWrite .coreP v) s = .next t ∧ t.bit PWR.STATE_DOM 0 = false ∧ t.get PWR.STATE_BUCKB_ON = 0 ∧
      t.get PWR.DOM_CTRL_RADIO = 0 ∧ t.get RGE.STATE_GRANT = 0 ∧ t.bit PWR.STATE_DOM 1 = bitOf v 1 ∧
      t.get PWR.DOM_CTRL_HFR = bits v 1 1) ∧
  (∀ (s : State) (v : Nat), bitOf v 0 = false → s.bit PWR.STATE_DOM 0 = false →
    ∃ t, exec (.domCtrlWrite .coreP v) s = .next t ∧ t.bit PWR.STATE_DOM 0 = false ∧ t.get PWR.DOM_CTRL_RADIO = 0 ∧
      t.bit PWR.STATE_DOM 1 = bitOf v 1 ∧ t.get PWR.DOM_CTRL_HFR = bits v 1 1) ∧
  (∀ (s : State) (a b : Nat), a < 65536 → b < 65536 →
    ((8 * s.get PWR.THERM_CFG_WARN_C : Nat) : Int) ≤ max (sint 16 a) (sint 16 b) →
    exec (.thermalWarn a b) s = .next (((((s.set PWR.THERM_T_MAIN a).set PWR.THERM_T_POWER b).set PWR.STATUS_THERM 1).bump
      PWR.CNT_THERM_COUNT PWR.STATUS_SAT).setBit AON.WAKE_WAKE 1 true)) ∧
  (∀ (s : State) (a b : Nat), a < 65536 → b < 65536 →
    max (sint 16 a) (sint 16 b) < ((8 * s.get PWR.THERM_CFG_WARN_C : Nat) : Int) →
    exec (.thermalWarn a b) s = .next ((s.set PWR.THERM_T_MAIN a).set PWR.THERM_T_POWER b)) ∧
  (∀ s : State, ((8 * s.get PWR.THERM_CFG_WARN_C : Nat) : Int) ≤ s.hotter →
    exec .thermalCapStep s = .next (s.set PWR.STATE_SHEAF_CAP (max 1 (s.get PWR.STATE_SHEAF_CAP - 1)))) ∧
  (∀ s : State, s.hotter < 8 * ((s.get PWR.THERM_CFG_WARN_C : Int) - s.get PWR.THERM_CFG_HYST) →
    exec .thermalCapStep s = .next (s.set PWR.STATE_SHEAF_CAP (min 4 (s.get PWR.STATE_SHEAF_CAP + 1)))) ∧
  (∀ s : State, 8 * ((s.get PWR.THERM_CFG_WARN_C : Int) - s.get PWR.THERM_CFG_HYST) ≤ s.hotter →
    s.hotter < ((8 * s.get PWR.THERM_CFG_WARN_C : Nat) : Int) → exec .thermalCapStep s = .next s) ∧
  (∀ (s : State) (a b : Nat), a < 65536 → b < 65536 →
    max (sint 16 a) (sint 16 b) < ((8 * s.get PWR.THERM_CFG_QUIET_C : Nat) : Int) →
    exec (.thermalQuiet a b) s = .next ((s.set PWR.THERM_T_MAIN a).set PWR.THERM_T_POWER b)) ∧
  (∀ (s : State) (a b : Nat), a < 65536 → b < 65536 →
    ((8 * s.get PWR.THERM_CFG_QUIET_C : Nat) : Int) ≤ max (sint 16 a) (sint 16 b) → s.mode ≠ 0 →
    exec (.thermalQuiet a b) s = .next ((((s.set PWR.THERM_T_MAIN a).set PWR.THERM_T_POWER b).setBit AON.WAKE_WAKE 1 true).setBit
      SYS.MODE_CAUSE 2 true)) ∧
  (∀ (s : State) (a b : Nat), a < 65536 → b < 65536 →
    ((8 * s.get PWR.THERM_CFG_QUIET_C : Nat) : Int) ≤ max (sint 16 a) (sint 16 b) → s.mode = 0 →
    ∃ t, exec (.thermalQuiet a b) s = .next t ∧ t.mode = 1 ∧ t.bit SYS.MODE_CAUSE 2 = true ∧ t.bit PWR.STATE_DOM 0 = false ∧
      t.bit PWR.STATE_DOM 1 = false ∧ t.get RGE.CTRL_RF_EN = 0 ∧ t.get RGE.STATE_GRANT = 0) ∧
  (∀ (s : State) (a b : Nat), a < 65536 → b < 65536 →
    max (sint 16 a) (sint 16 b) < ((8 * s.get PWR.THERM_CFG_HARD_C : Nat) : Int) →
    exec (.hardTherm a b) s = .next ((s.set PWR.THERM_T_MAIN a).set PWR.THERM_T_POWER b)) ∧
  (∀ (s : State) (a b : Nat), a < 65536 → b < 65536 →
    ((8 * s.get PWR.THERM_CFG_HARD_C : Nat) : Int) ≤ max (sint 16 a) (sint 16 b) →
    ∃ t, exec (.hardTherm a b) s = .next t ∧ t.get PWR.STATUS_HARD_THERM = 1 ∧ t.bit PWR.STATE_DOM 0 = false ∧
      t.bit PWR.STATE_DOM 1 = false ∧ t.get RGE.CTRL_RF_EN = 0 ∧ t.get RGE.STATE_GRANT = 0 ∧ t.bit SYS.MODE_CAUSE 2 = true ∧
      t.mode = (if s.mode = 0 then 1 else s.mode)) ∧
  (∀ s : State, s.mode ≠ 1 → exec .quietExit s = .next s) ∧
  (∀ s u v w : State, s.mode = 1 → u = (if s.coreP.quietHeld = true then s else s.setBit SYS.MODE_CAUSE 0 false) →
    v = (if s.hotter < 8 * ((s.get PWR.THERM_CFG_QUIET_C : Int) - s.get PWR.THERM_CFG_HYST) then u.setBit SYS.MODE_CAUSE 2 false else u) →
    w = (if s.budgetOk = true then v.setBit SYS.MODE_CAUSE 1 false else v) →
    (w.quietCauses ≠ 0 → exec .quietExit s = .next w) ∧
    (w.quietCauses = 0 → exec .quietExit s = .next ((w.set RGE.STATE_QUIET_LATCH 0).step7))) ∧
  (∀ s : State, s.mode = 1 → s.coreP.quietHeld = true → s.budgetOk = false → s.quietCauses ≠ 0 →
    8 * ((s.get PWR.THERM_CFG_QUIET_C : Int) - s.get PWR.THERM_CFG_HYST) ≤ s.hotter → exec .quietExit s = .next s) ∧
  (∀ s : State, s.mode = 1 → s.coreP.quietHeld = false → s.budgetOk = true → s.get PWR.STATE_LEW = 0 →
    s.hotter < 8 * ((s.get PWR.THERM_CFG_QUIET_C : Int) - s.get PWR.THERM_CFG_HYST) →
    s.hotter < ((8 * s.get PWR.THERM_CFG_WARN_C : Nat) : Int) →
    ∃ t, exec .quietExit s = .next t ∧ t.mode = 0 ∧ t.get RGE.CTRL_RF_EN = 1)

/-- Commands that are writes of one object (R410, R411, R412, R493, R494, R498, R504): in FAILSAFE none of them has an effect, nor
while a transfer to the object is open; STORE writes every stored value to the bank out of force and flips the pointer, and is
refused under LEW; RESTORE returns every stored object to its default; a life-cycle request that the rules allow leaves its
pending record and asserts WARM, and is refused under LEW, without its magic or while an image is transferred; BOOT_REQUEST turns
the pointer to the spare slots that hold accepted images, with TRIAL and three TRIES; CONFIRM in FULL clears TRIAL and lowers no
rollback counter. Where a clause rests on the model's own choice, that is one of assumptions 33 or 34. -/
def Obligations.ObjectCommands : Prop :=
  (∀ (s : State) (v : Nat) (c : Instr), s.mode = 3 → (c = .store ∨ c = .restore ∨ c = .lcRequest v ∨ c = .bootRequest v ∨ c = .confirm) →
    exec c s = .next s) ∧
  (∀ (s : State) (v i : Nat) (c : Instr), s.xferOpen i 0 = true →
    (i, c) ∈ [(0x0110, Instr.store), (0x0111, .restore), (0x0121, .lcRequest v), (0x0137, .bootRequest v), (0x0133, .confirm)] →
    exec c s = .next s) ∧
  (∀ s : State, s.mode ≠ 3 → s.xferOpen 0x0110 0 = false → s.get PWR.STATE_LEW = 0 → s.nv.odPtr = true →
    exec .store s = .next { s with nv := { s.nv with odPtr := false, bankA := { gen := (s.nv.bankB.gen + 1) % 4294967296, schema := le16 s.coreP.fwHdr 30, values := s.objs.filter fun e => objStored e.1 } } }) ∧
  (∀ s : State, s.mode ≠ 3 → s.xferOpen 0x0110 0 = false → s.get PWR.STATE_LEW = 0 → s.nv.odPtr = false →
    exec .store s = .next { s with nv := { s.nv with odPtr := true, bankB := { gen := (s.nv.bankA.gen + 1) % 4294967296, schema := le16 s.coreP.fwHdr 30, values := s.objs.filter fun e => objStored e.1 } } }) ∧
  (∀ s : State, s.get PWR.STATE_LEW ≠ 0 → exec .store s = .next s) ∧
  (∀ s : State, s.mode ≠ 3 → s.xferOpen 0x0111 0 = false → exec .restore s = .next s.restoreAll) ∧
  (∀ (s : State) (v : Nat), v < 2 ^ 32 →
    (v / 256 ≠ 0x4C4331 ∨ s.lcAllowed (v % 256) = false ∨ s.get PWR.STATE_LEW ≠ 0 ∨ s.imgXfer = true) →
    exec (.lcRequest v) s = .next s) ∧
  (∀ (s : State) (new : Nat), s.mode ≠ 3 → s.xferOpen 0x0121 0 = false → s.imgXfer = false → new < 256 →
    s.lcAllowed new = true → s.get PWR.STATE_LEW = 0 → s.coreP.refHeld = true →
    ∃ t, exec (.lcRequest (0x4C433100 + new)) s = .next t ∧ t.nv = { s.nv with lcPending := some new } ∧
      t.get SYS.RST_CAUSE_SOFT = 1 ∧ t.objs = s.objs) ∧
  (∀ (s : State) (new : Nat), s.mode ≠ 3 → s.xferOpen 0x0121 0 = false → s.imgXfer = false → new < 256 →
    s.lcAllowed new = true → s.get PWR.STATE_LEW = 0 →
    exec (.lcRequest (0x4C433100 + new)) s = .next (({ s with nv.lcPending := some new } : State).set SYS.RST_CAUSE_SOFT 1).warm) ∧
  (∀ (s : State) (v : Nat), v % 256 ≠ 1 → exec (.bootRequest v) s = .next s) ∧
  (∀ s : State, s.mode ≠ 3 → s.xferOpen 0x0137 0 = false → s.coreP.refHeld = true → s.get AON.BOOT_PTR_FW < 2 →
    s.get AON.BOOT_PTR_LSQ < 2 → s.get AON.BOOT_PTR_TBL < 2 →
    ∃ t, exec (.bootRequest 1) s = .next t ∧ t.nv.bootPrev = s.nv.bootPtr ∧ bitOf t.nv.bootPtr 8 = true ∧
      bits t.nv.bootPtr 7 4 = 3 ∧ t.get SYS.RST_CAUSE_SOFT = 1 ∧
      (s.imgOk 0 (s.imgSpare 0) = true → t.nv.bootPtr % 2 = s.imgSpare 0)) ∧
  (∀ (s : State) (v : Nat), s.mode ≠ 3 → s.xferOpen 0x0137 0 = false → v % 256 = 1 →
    exec (.bootRequest v) s = .next s.bootRequest) ∧
  (∀ s : State, s.mode ≠ 0 → exec .confirm s = .next s) ∧
  (∀ s : State, s.mode = 0 → s.xferOpen 0x0133 0 = false →
    ∃ t, exec .confirm s = .next t ∧ t.nv.bootPtr = s.nv.bootPtr % 256 ∧ t.get AON.BOOT_PTR_TRIAL = 0 ∧ t.nv.rollB = t.nv.rollP ∧
      (∀ k, k < 3 → Tab.get 0 s.nv.rollP k ≤ Tab.get 0 t.nv.rollP k) ∧ t.mem = s.mem ∧ t.objs = s.objs)

/-- R134: in FACTORY with PROFILE_OK at 0 the request for SEALED changes nothing. -/
def Obligations.SealingNeedsAProfile : Prop :=
  ∀ s : State, s.lc = lcFACTORY → s.get RGE.STATE_PROFILE_OK = 0 → exec (.lcRequest 0x4C433102) s = .next s

/-! ### Calibration and ageing (R505 to R523) -/

/-- Fulling's sequences (R505, R507, R509, R510, R512, R513, R514): a RUN is ignored with CMD_ERR while one runs, aborts with 12
where SEQ is unknown or TARGET names a unit that the sequence lacks and with the code of the first precondition that fails, and
otherwise starts, a synthesizer calibration with its synthesizers in CAL; an abort reports code 11; an end whose precondition has
failed aborts with that code, one that the measurement found wrong with 8 or 9, results out of range abort with 8, and each
leaves the trims; a code that no measurement gives changes nothing; results in range enter the record and their registers with
DONE and the units measured. What was owed to the end of the sequence then follows: a commit that waited, and the next sequence
of a boot set. Where a clause rests on the model's own choice, that is one of assumptions 9, 26 or 59. -/
def Obligations.CalibrationSequences : Prop :=
  (∀ (s : State) (m : Master) (q t : Nat), s.get CAL.STATE_BUSY ≠ 0 →
    exec (.calRun m q t) s = .next (((s.set CAL.CMD_SEQ q).set CAL.CMD_TARGET t).set CAL.STATUS_CMD_ERR 1)) ∧
  (∀ (s u : State) (m : Master) (q t : Nat), q < 16 → t < 65536 → s.get CAL.STATE_BUSY = 0 →
    u = (s.set CAL.CMD_SEQ q).set CAL.CMD_TARGET t → (q = 0 ∨ 13 < q ∨ 2 ^ calUnits q ≤ t) →
    ∃ v, exec (.calRun m q t) s = .next v ∧ v.get CAL.RESULT_CODE = 12 ∧ v.get CAL.RESULT_SEQ = q ∧ v.get CAL.STATUS_ABORTED = 1 ∧
      v.get CAL.STATE_BUSY = 0 ∧ v.get CAL.CNT_ABORT_COUNT = min 0xFFFFFFFF (s.get CAL.CNT_ABORT_COUNT + 1) ∧ v.mem = s.mem ∧
      v.calWork = s.calWork) ∧
  (∀ (s u : State) (m : Master) (q t : Nat), 1 ≤ q → q ≤ 13 → t < 65536 → t < 2 ^ calUnits q → s.get CAL.STATE_BUSY = 0 →
    u = (s.set CAL.CMD_SEQ q).set CAL.CMD_TARGET t → u.calPre q (u.calNamed q t) ≠ 0 →
    ∃ v, exec (.calRun m q t) s = .next v ∧ v.get CAL.RESULT_CODE = u.calPre q (u.calNamed q t) ∧ v.get CAL.RESULT_SEQ = q ∧
      v.get CAL.STATUS_ABORTED = 1 ∧ v.get CAL.STATE_BUSY = 0 ∧
      v.get CAL.CNT_ABORT_COUNT = min 0xFFFFFFFF (s.get CAL.CNT_ABORT_COUNT + 1) ∧ v.mem = s.mem ∧ v.calWork = s.calWork) ∧
  (∀ (s u : State) (m : Master) (q t : Nat), 1 ≤ q → q ≤ 13 → q ≠ 7 → t < 65536 → t < 2 ^ calUnits q → s.get CAL.STATE_BUSY = 0 →
    u = (s.set CAL.CMD_SEQ q).set CAL.CMD_TARGET t → u.calPre q (u.calNamed q t) = 0 →
    exec (.calRun m q t) s = .next { (u.set CAL.STATE_BUSY 1).set CAL.STATE_SEQ q with calTarget := t }) ∧
  (∀ (s u : State) (m : Master) (t : Nat), t < 16 → s.get CAL.STATE_BUSY = 0 →
    u = (s.set CAL.CMD_SEQ 7).set CAL.CMD_TARGET t → u.calPre 7 (u.calNamed 7 t) = 0 →
    ∃ v, exec (.calRun m 7 t) s = .next v ∧ v.get CAL.STATE_BUSY = 1 ∧ v.get CAL.STATE_SEQ = 7 ∧ v.calTarget = t ∧
      (∀ n, n ∈ u.calNamed 7 t → s.isMember n = false → v.sst n = synCAL) ∧
      (∀ n, n ∈ u.calNamed 7 t → s.isMember n = true → v.get RFS.STATUS_REFUSED n = 1) ∧ v.mem = s.mem) ∧
  (∀ (s : State) (m : Master), s.get CAL.STATE_BUSY = 0 → exec (.calAbort m) s = .next s) ∧
  (∀ (s : State) (m : Master), s.get CAL.STATE_BUSY ≠ 0 → exec (.calAbort m) s = .next (s.calAbort 11).calOwed) ∧
  (∀ (s : State) (m : Master), s.get CAL.STATE_BUSY ≠ 0 → s.get CAL.STATE_SEQ ≠ 7 → s.get CAL.STATE_SEQ < 16 →
    s.age.commitWait = false → s.age.bootSet = none →
    ∃ v, exec (.calAbort m) s = .next v ∧ v.get CAL.STATE_BUSY = 0 ∧ v.get CAL.RESULT_CODE = 11 ∧
      v.get CAL.RESULT_SEQ = s.get CAL.STATE_SEQ ∧ v.get CAL.STATUS_ABORTED = 1 ∧ v.mem = s.mem ∧ v.calWork = s.calWork) ∧
  (∀ (s : State) (m : Master), s.get CAL.STATE_BUSY ≠ 0 → s.get CAL.STATE_SEQ = 7 → s.age.commitWait = false → s.age.bootSet = none →
    ∃ v, exec (.calAbort m) s = .next v ∧ v.get CAL.STATE_BUSY = 0 ∧ v.get CAL.RESULT_CODE = 11 ∧ v.get CAL.RESULT_SEQ = 7 ∧
      v.get CAL.STATUS_ABORTED = 1 ∧ v.calWork = s.calWork) ∧
  (∀ (s : State) (code : Nat) (res : List (Nat × List Nat)), s.get CAL.STATE_BUSY = 0 →
    exec (.calSequenceEnd code res) s = .next s) ∧
  (∀ (s : State) (code p : Nat) (res : List (Nat × List Nat)), s.get CAL.STATE_BUSY ≠ 0 →
    p = s.calPre (s.get CAL.STATE_SEQ) (s.calNamed (s.get CAL.STATE_SEQ) s.calTarget) →
    (p ≠ 0 → exec (.calSequenceEnd code res) s = .next (s.calAbort p).calOwed) ∧
    (p = 0 → (code = 8 ∨ code = 9) → exec (.calSequenceEnd code res) s = .next (s.calAbort code).calOwed) ∧
    (p = 0 → code ≠ 0 → code ≠ 8 → code ≠ 9 → exec (.calSequenceEnd code res) s = .next s)) ∧
  (∀ (s : State) (code p e : Nat) (res : List (Nat × List Nat)), s.get CAL.STATE_BUSY ≠ 0 → s.get CAL.STATE_SEQ ≠ 7 → s.age.commitWait = false → s.age.bootSet = none →
    p = s.calPre (s.get CAL.STATE_SEQ) (s.calNamed (s.get CAL.STATE_SEQ) s.calTarget) →
    ((p ≠ 0 ∧ e = p) ∨ (p = 0 ∧ (code = 8 ∨ code = 9) ∧ e = code)) →
    ∃ v, exec (.calSequenceEnd code res) s = .next v ∧ v.get CAL.STATE_BUSY = 0 ∧ v.get CAL.RESULT_CODE = e ∧
      v.get CAL.STATUS_ABORTED = 1 ∧ v.mem = s.mem ∧ v.calWork = s.calWork) ∧
  (∀ (s : State) (q : Nat) (named : List Nat) (res mine : List (Nat × List Nat)), s.get CAL.STATE_BUSY ≠ 0 →
    q = s.get CAL.STATE_SEQ → named = s.calNamed q s.calTarget → s.calPre q named = 0 →
    mine = (res.filter fun r => calUnits q == 0 || named.contains (calUnit q r.1)) → (∀ r ∈ mine, calInRange q r.2 = true) →
    exec (.calSequenceEnd 0 res) s = .next (((s.forL mine fun r t => t.calApply q r.1 r.2).sweepDone q).calFinished q
      (unitMask ((mine.map fun r => calUnit q r.1).filter fun u => named.contains u))).calOwed) ∧
  (∀ (s : State) (k a b : Nat), s.get CAL.STATE_BUSY ≠ 0 → s.get CAL.STATE_SEQ = 2 → s.age.commitWait = false → s.age.bootSet = none → k < 16 →
    (s.calTarget = 0 ∨ (s.calTarget < 65536 ∧ bitOf s.calTarget k = true)) → s.calPre 2 (s.calNamed 2 s.calTarget) = 0 →
    inRange (-128) 127 a = true → inRange (-128) 127 b = true →
    ∃ v, exec (.calSequenceEnd 0 [(k, [a, b])]) s = .next v ∧ v.get CAL.STATE_BUSY = 0 ∧ v.get CAL.RESULT_CODE = 0 ∧
      v.get CAL.RESULT_SEQ = 2 ∧ v.get CAL.RESULT_UNIT = 2 ^ k ∧ v.get CAL.STATUS_DONE = 1 ∧
      v.get CAL.CNT_RUN_COUNT = min 0xFFFFFFFF (s.get CAL.CNT_RUN_COUNT + 1) ∧
      v.get URX.OFS_TRIM_OFS_I k = a % 2 ^ URX.OFS_TRIM_OFS_I.width ∧
      v.get URX.OFS_TRIM_OFS_Q k = b % 2 ^ URX.OFS_TRIM_OFS_Q.width ∧ v.calByte (0x20 + 2 * k) = b % 256 ∧
      v.calByte (0x21 + 2 * k) = a % 256 ∧ bitOf (v.get CAL.VALID_VALID) 2 = true ∧ v.mem = s.mem) ∧
  (∀ (s : State) (k a b : Nat), s.get CAL.STATE_BUSY ≠ 0 → s.get CAL.STATE_SEQ = 2 → s.age.commitWait = false → s.age.bootSet = none → k < 16 →
    (s.calTarget = 0 ∨ (s.calTarget < 65536 ∧ bitOf s.calTarget k = true)) → s.calPre 2 (s.calNamed 2 s.calTarget) = 0 →
    (inRange (-128) 127 a = false ∨ inRange (-128) 127 b = false) →
    ∃ v, exec (.calSequenceEnd 0 [(k, [a, b])]) s = .next v ∧ v.get CAL.STATE_BUSY = 0 ∧ v.get CAL.RESULT_CODE = 8 ∧
      v.get CAL.STATUS_ABORTED = 1 ∧ v.calWork = s.calWork ∧ v.get URX.OFS_TRIM_OFS_I k = s.get URX.OFS_TRIM_OFS_I k ∧ v.mem = s.mem)

/-- R507: whatever the sequence, a result of one of its units that falls outside its trim's range aborts it with RANGE, code 8, and
what was owed to its end follows; with no commit waiting and no boot set under way, the working record and memory are as
before. -/
def Obligations.ResultOutOfRangeAborts : Prop :=
  ∀ (s : State) (res : List (Nat × List Nat)) (r : Nat × List Nat), s.get CAL.STATE_BUSY ≠ 0 →
    s.get CAL.STATE_SEQ < 16 → s.calPre (s.get CAL.STATE_SEQ) (s.calNamed (s.get CAL.STATE_SEQ) s.calTarget) = 0 → r ∈ res →
    (calUnits (s.get CAL.STATE_SEQ) = 0 ∨
      (s.calNamed (s.get CAL.STATE_SEQ) s.calTarget).contains (calUnit (s.get CAL.STATE_SEQ) r.1) = true) →
    calInRange (s.get CAL.STATE_SEQ) r.2 = false →
    exec (.calSequenceEnd 0 res) s = .next (s.calAbort 8).calOwed ∧ (s.calAbort 8).get CAL.STATE_BUSY = 0 ∧
      (s.calAbort 8).get CAL.RESULT_CODE = 8 ∧ (s.calAbort 8).get CAL.RESULT_SEQ = s.get CAL.STATE_SEQ ∧
      (s.calAbort 8).get CAL.STATUS_ABORTED = 1 ∧
      (s.age.commitWait = false → s.age.bootSet = none →
        (s.calAbort 8).calOwed.calWork = s.calWork ∧ (s.calAbort 8).calOwed.mem = s.mem)

/-- Commits of the calibration record (R515, R516, R523): refused under LEW, waiting while a sequence runs; a commit whose bank reads
back right flips the pointer to it, advances the generation and sets COMMIT_DONE; one whose bank does not leaves pointer and
generation, with COMMIT_FAIL counted and logged. Only the bank out of force is written. The ageing monitors (R518 to R522): one
that is disabled measures nothing; the oscillators give their slowdowns and, with AVS_EN, a target of the 0.8 V rail that never
falls; a carrier sample shows in FWD and joins its chain's and group's of the last 24 h; the band-gap and MRAM readings give
their margins, the sense window the scrub interval; what has fallen due is flagged. Where a clause rests on the model's own
choice, that is one of assumptions 9, 26, 27 or 59. -/
def Obligations.CommitsAndAgeing : Prop :=
  (∀ (s : State) (m : Master) (ok : Bool), s.get PWR.STATE_LEW ≠ 0 →
    exec (.calCommit m ok) s = .next (s.set CAL.STATUS_CMD_ERR 1)) ∧
  (∀ (s : State) (m : Master) (ok : Bool), s.get PWR.STATE_LEW = 0 → s.get CAL.STATE_BUSY ≠ 0 →
    exec (.calCommit m ok) s = .next { s with age.commitWait := true }) ∧
  (∀ (s : State) (m : Master) (b : Nat), s.get PWR.STATE_LEW = 0 → s.get CAL.STATE_BUSY = 0 → s.get CAL.BANK_PTR = b → b < 2 →
    ∃ t, exec (.calCommit m true) s = .next t ∧ t.get CAL.BANK_PTR = 1 - b ∧ t.nv.calPtr = 1 - b ∧ t.get CAL.STATUS_COMMIT_DONE = 1 ∧
      t.get CAL.BANK_GEN = (s.get CAL.BANK_GEN + 1) % 2147483648 ∧
      t.get CAL.CNT_COMMIT_COUNT = min 0xFFFFFFFF (s.get CAL.CNT_COMMIT_COUNT + 1) ∧
      t.rd32 (calBase (1 - b)) = 0x314C4254 ∧ memSame s t (calBase (1 - b)) 8192) ∧
  (∀ (s : State) (m : Master) (b : Nat), s.get PWR.STATE_LEW = 0 → s.get CAL.STATE_BUSY = 0 → s.get CAL.BANK_PTR = b → b < 2 →
    ∃ t, exec (.calCommit m false) s = .next t ∧ t.get CAL.BANK_PTR = b ∧ t.nv.calPtr = s.nv.calPtr ∧
      t.get CAL.STATUS_COMMIT_FAIL = 1 ∧ t.get CAL.BANK_GEN = s.get CAL.BANK_GEN ∧
      t.get CAL.CNT_FAIL_COUNT = min 0xFFFFFFFF (s.get CAL.CNT_FAIL_COUNT + 1) ∧
      (∀ a, ¬(calBase (1 - b) ≤ a ∧ a < calBase (1 - b) + 8192) → ¬(0x2803F000 ≤ a ∧ a < 0x2803F410) → t.rd8 a = s.rd8 a)) ∧
  (∀ (s : State) (a b c : Nat), s.bit AGE.CTRL_EN 0 = false → exec (.ageRoMeasure a b c) s = .next s) ∧
  (∀ (s : State) (a b c : Nat), s.bit AGE.CTRL_EN 0 = true → a < 65536 → b < 65536 → c < 65536 →
    ∃ t, exec (.ageRoMeasure a b c) s = .next t ∧ t.get AGE.RO_CORE_SLOW = a ∧ t.get AGE.RO_RADIO_SLOW = b ∧
      t.get AGE.RO_AON_SLOW = c ∧
      t.get AGE.VCORE_VTARGET = (if s.get AGE.CTRL_AVS_EN = 0 then s.get AGE.VCORE_VTARGET
        else max (s.get AGE.VCORE_VTARGET) (vTarget (max a b))) % 65536 ∧
      (50 ≤ ((b : Int) - s.age.slowAtSweep).natAbs → t.get AGE.STATUS_DUE_HINT = 1) ∧ memSame s t 0x2803F000 1040) ∧
  (∀ (s : State) (n fwd : Nat), (s.bit AGE.CTRL_EN 1 = false ∨ s.ust n ≠ 3 ∨ s.carrier n = false ∨ s.get UTX.STATE_RAMP n ≠ 0) →
    exec (.agePaSample n fwd) s = .next s) ∧
  (∀ (s : State) (n fwd : Nat), n < 4 → s.bit AGE.CTRL_EN 1 = true → s.ust n = 3 → s.carrier n = true → s.get UTX.STATE_RAMP n = 0 →
    s.age.pa = [] →
    exec (.agePaSample n fwd) s = .next { s.set UTX.FWD_FWD fwd n with age.pa := [(4 * n + s.get UTX.PWR_GROUP n, [(s.now, unsignedOf 16 (sint 16 fwd - sint 16 (s.get UTX.FWD_EXPECT n)))])] }) ∧
  (∀ (s : State) (n fwd k x : Nat), s.bit AGE.CTRL_EN 1 = true → s.ust n = 3 → s.carrier n = true → s.get UTX.STATE_RAMP n = 0 →
    k = 4 * n + s.get UTX.PWR_GROUP n → x = unsignedOf 16 (sint 16 fwd - sint 16 (s.get UTX.FWD_EXPECT n)) →
    exec (.agePaSample n fwd) s = .next (({ s.set UTX.FWD_FWD fwd n with age.pa := Tab.set [] s.age.pa k ((s.now, x) :: (Tab.get [] s.age.pa k).filter fun e => decide (s.now ≤ e.1 + dayTicks)) } : State).guardCand)) ∧
  (∀ (s : State) (d : Nat), s.bit AGE.CTRL_EN 2 = false → exec (.ageBgMeasure d) s = .next s) ∧
  (∀ (s : State) (d : Nat), s.bit AGE.CTRL_EN 2 = true → d < 65536 →
    ∃ t, exec (.ageBgMeasure d) s = .next t ∧ t.get AGE.BG_LO = d ∧
      t.get AGE.MARGIN0_C = 100 * (6000 - (sint 16 d).natAbs) / 6000 ∧
      (100 * (6000 - (sint 16 d).natAbs) / 6000 = 0 → bitOf s.age.exhausted 2 = false → t.get AGE.STATUS_EXHAUST = 1) ∧
      memSame s t 0x2803F000 1040) ∧
  (∀ (s : State) (w : Nat), s.bit AGE.CTRL_EN 3 = false → exec (.ageMramMeasure w) s = .next s) ∧
  (∀ (s : State) (w : Nat), s.bit AGE.CTRL_EN 3 = true → w < 65536 →
    ∃ t, exec (.ageMramMeasure w) s = .next t ∧ t.get AGE.MRAM_LO = w ∧
      t.get AGE.MRAM_HI = (if 400 ≤ w then 30 else if 250 ≤ w then 7 else 1) ∧
      t.get AGE.MARGIN1_A = marginPct ((w : Int) - 150) ((Config.mramW0 : Int) - 150) ∧ t.get AGE.MARGIN1_A ≤ 100 ∧
      memSame s t 0x2803F000 1040) ∧
  (∀ s : State, exec .dueHint s = .next ((s.set AGE.HINT_HI (s.objNum 0x7504 0 30)).set AGE.STATUS_DUE_HINT 1)) ∧
  (∀ s : State, exec .dueScrub s = .next (s.set AGE.STATUS_DUE_SCRUB 1))

/-- The words of the LSI level 3 instructions (R214 to R217): with the opcode in bits [31:26] and the fields where the formats R, I, B, P,
S, F, Q, W and WR and the instructions without a format place them, a word spells the instruction of its opcode with those operands,
at every value of each field; a word whose opcode is absent, a BR whose condition is above 12 and an RDPOS whose D is 15 spell none.
That an unused field other than 0 spells none, stated of format R, is the model's choice (assumption 54). -/
def Obligations.LsiWordsSpellTheirInstructions : Prop :=
  (∀ n d a b, d < 16 → a < 16 → b < 16 →
    ∀ p ∈ [(0x01, Instr.lsiAdd n d a b), (0x02, .lsiSub n d a b), (0x03, .lsiAnd n d a b), (0x04, .lsiOr n d a b),
      (0x05, .lsiXor n d a b), (0x06, .lsiShl n d a b), (0x07, .lsiShr n d a b), (0x08, .lsiMinu n d a b), (0x09, .lsiMaxu n d a b),
      (0x0A, .lsiMul n d a b)],
      lsiDecode n (p.1 * 2 ^ 26 + d * 2 ^ 22 + a * 2 ^ 18 + b * 2 ^ 14) = some p.2) ∧
  (∀ n d a pos len, d < 16 → a < 16 → pos < 32 → 1 ≤ len → len ≤ 32 →
    lsiDecode n (0x0B * 2 ^ 26 + d * 2 ^ 22 + a * 2 ^ 18 + pos * 2 ^ 9 + (len - 1) * 2 ^ 4) = some (.lsiExt n d a pos len)) ∧
  (∀ n d a b, d < 16 → a < 16 → b < 16 →
    lsiDecode n (0x0C * 2 ^ 26 + d * 2 ^ 22 + a * 2 ^ 18) = some (.lsiClz n d a) ∧
    lsiDecode n (0x0D * 2 ^ 26 + a * 2 ^ 18 + b * 2 ^ 14) = some (.lsiCmp n a b)) ∧
  (∀ n d a imm, d < 16 → a < 16 → imm < 2 ^ 18 →
    (∀ p ∈ [(0x10, Instr.lsiAddi n d a imm), (0x11, .lsiAndi n d a imm), (0x12, .lsiOri n d a imm), (0x13, .lsiXori n d a imm),
      (0x14, .lsiShli n d a imm), (0x15, .lsiShri n d a imm), (0x18, .lsiLdw n d a imm), (0x19, .lsiLdh n d a imm),
      (0x1A, .lsiLdb n d a imm), (0x1B, .lsiStw n d a imm), (0x1C, .lsiSth n d a imm), (0x1D, .lsiStb n d a imm)],
      lsiDecode n (p.1 * 2 ^ 26 + d * 2 ^ 22 + a * 2 ^ 18 + imm) = some p.2) ∧
    lsiDecode n (0x16 * 2 ^ 26 + d * 2 ^ 22 + imm) = some (.lsiLui n d imm) ∧
    lsiDecode n (0x17 * 2 ^ 26 + a * 2 ^ 18 + imm) = some (.lsiCmpi n a imm)) ∧
  (∀ n k d a tgt, k ≤ 12 → d < 16 → a < 16 → tgt < 2 ^ 13 →
    lsiDecode n (0x20 * 2 ^ 26 + k * 2 ^ 22 + tgt) = some (.lsiBr n k tgt) ∧
    lsiDecode n (0x21 * 2 ^ 26 + d * 2 ^ 22 + tgt) = some (.lsiDbnz n d tgt) ∧
    lsiDecode n (0x22 * 2 ^ 26 + tgt) = some (.lsiCall n tgt) ∧ lsiDecode n (0x24 * 2 ^ 26 + a * 2 ^ 18) = some (.lsiJr n a)) ∧
  (∀ n, lsiDecode n 0 = some (.lsiNop n) ∧ lsiDecode n (0x23 * 2 ^ 26) = some (.lsiRet n) ∧
    lsiDecode n (0x25 * 2 ^ 26) = some (.lsiHalt n) ∧ lsiDecode n (0x26 * 2 ^ 26) = some (.lsiDone n)) ∧
  (∀ n d sr e, d < 16 → sr < 256 → e < 8 →
    lsiDecode n (0x27 * 2 ^ 26 + e) = some (.lsiEvt n e) ∧ lsiDecode n (0x28 * 2 ^ 26 + d * 2 ^ 22 + sr) = some (.lsiRds n d sr) ∧
    lsiDecode n (0x29 * 2 ^ 26 + d * 2 ^ 22 + sr) = some (.lsiWrs n d sr) ∧
    (d ≠ 15 → lsiDecode n (0x2A * 2 ^ 26 + d * 2 ^ 22) = some (.lsiRdpos n d))) ∧
  (∀ n d a blk off, d < 16 → a < 16 → blk < 8 → off < 2 ^ 14 →
    lsiDecode n (0x2C * 2 ^ 26 + d * 2 ^ 22 + a * 2 ^ 18 + blk * 2 ^ 15 + off) = some (.lsiPld n d a blk off) ∧
    lsiDecode n (0x2D * 2 ^ 26 + d * 2 ^ 22 + a * 2 ^ 18 + blk * 2 ^ 15 + off) = some (.lsiPst n d a blk off)) ∧
  (∀ n chmask req a full fidx, chmask < 16 → req < 8 → a < 16 → full < 2 → fidx < 64 →
    lsiDecode n (0x30 * 2 ^ 26 + chmask * 2 ^ 22 + req) = some (.lsiRqs n chmask req) ∧
    lsiDecode n (0x31 * 2 ^ 26 + a * 2 ^ 18 + full) = some (.lsiLock n a full) ∧
    lsiDecode n (0x32 * 2 ^ 26 + fidx * 2 ^ 20) = some (.lsiTxf n fidx)) ∧
  (∀ n d q cnt, d < 16 → q < 16 → 1 ≤ cnt → cnt ≤ 16 →
    lsiDecode n (0x34 * 2 ^ 26 + d * 2 ^ 22 + q * 2 ^ 18) = some (.lsiPush n d q) ∧
    lsiDecode n (0x35 * 2 ^ 26 + d * 2 ^ 22 + q * 2 ^ 18 + (cnt - 1) * 2 ^ 13) = some (.lsiPushb n d q cnt) ∧
    lsiDecode n (0x36 * 2 ^ 26 + d * 2 ^ 22 + q * 2 ^ 18) = some (.lsiPop n d q) ∧
    lsiDecode n (0x37 * 2 ^ 26 + q * 2 ^ 18) = some (.lsiPushrec n q) ∧ lsiDecode n (0x38 * 2 ^ 26 + d * 2 ^ 22) = some (.lsiStrec n d)) ∧
  (∀ n mask unit cnt b, mask < 1024 → unit < 4 → cnt < 2 ^ 14 → b < 16 →
    lsiDecode n (0x3C * 2 ^ 26 + mask * 2 ^ 16 + unit * 2 ^ 14 + cnt) = some (.lsiWait n mask unit cnt) ∧
    lsiDecode n (0x3D * 2 ^ 26 + mask * 2 ^ 16 + b) = some (.lsiWaitr n mask b) ∧
    lsiDecode n (0x3E * 2 ^ 26 + mask * 2 ^ 16) = some (.lsiClrev n mask)) ∧
  (∀ n w, bits w 31 26 ∈ [0x0E, 0x0F, 0x1E, 0x1F, 0x2B, 0x2E, 0x2F, 0x33, 0x39, 0x3A, 0x3B, 0x3F] → lsiDecode n w = none) ∧
  (∀ n w, bits w 31 26 = 0x20 → 12 < bits w 25 22 → lsiDecode n w = none) ∧
  (∀ n w, bits w 31 26 = 0x2A → bits w 25 22 = 15 → lsiDecode n w = none) ∧
  (∀ n w, bits w 31 26 ≤ 0x0A → bits w 13 0 ≠ 0 → lsiDecode n w = none)
end

