-- ==== Sys2Proof/Laws/Tab.lean ====
section
/-! SUPPORT. The laws of the sparse tables: reads after writes, and the canonical form that every operation keeps. -/

namespace Sys2Proof.Machine

variable {α : Type}

@[simp] theorem Tab.get_nil (d : α) (k : Nat) : Tab.get d [] k = d := rfl

theorem Tab.get_erase_same (d : α) (t : Tab α) (k : Nat) : Tab.get d (Tab.erase t k) k = d := by
  induction t with
  | nil => rfl
  | cons e r ih =>
    obtain ⟨j, v⟩ := e
    by_cases h : j = k
    · simp [Tab.erase, h, ih]
    · simp [Tab.erase, Tab.get, h, ih]

theorem Tab.get_erase_ne (d : α) (t : Tab α) {j k : Nat} (h : j ≠ k) : Tab.get d (Tab.erase t k) j = Tab.get d t j := by
  induction t with
  | nil => rfl
  | cons e r ih =>
    obtain ⟨i, v⟩ := e
    by_cases hi : i = k
    · have : i ≠ j := fun c => h (c ▸ hi)
      simp [Tab.erase, Tab.get, hi, ih, h.symm]
    · by_cases hj : i = j <;> simp [Tab.erase, Tab.get, hi, hj, ih]
      simp [hj ▸ hi]
      simp [Tab.get]

theorem Tab.get_ins_same (d : α) (t : Tab α) (k : Nat) (v : α) (h : ∀ e ∈ t, e.1 ≠ k) :
    Tab.get d (Tab.ins t k v) k = v := by
  induction t with
  | nil => simp [Tab.ins, Tab.get]
  | cons e r ih =>
    obtain ⟨i, w⟩ := e
    have hi : i ≠ k := h (i, w) (by simp)
    by_cases hk : k ≤ i
    · simp [Tab.ins, Tab.get, hk]
    · simp only [Tab.ins, hk, if_false, Tab.get, hi]
      exact ih fun e he => h e (by simp [he])

theorem Tab.get_ins_ne (d : α) (t : Tab α) {j k : Nat} (v : α) (h : j ≠ k) :
    Tab.get d (Tab.ins t k v) j = Tab.get d t j := by
  induction t with
  | nil => simp [Tab.ins, Tab.get, h.symm]
  | cons e r ih =>
    obtain ⟨i, w⟩ := e
    by_cases hk : k ≤ i
    · simp [Tab.ins, Tab.get, hk, h.symm]
    · by_cases hj : i = j <;> simp [Tab.ins, Tab.get, hk, hj, ih]
      simp [hj ▸ hk]
      simp [Tab.get]

theorem Tab.erase_no_key (t : Tab α) (k : Nat) : ∀ e ∈ Tab.erase t k, e.1 ≠ k := by
  induction t with
  | nil => simp [Tab.erase]
  | cons e r ih =>
    obtain ⟨i, w⟩ := e
    by_cases hi : i = k
    · simpa [Tab.erase, hi] using ih
    · intro e he
      simp only [Tab.erase, hi, if_false, List.mem_cons] at he
      rcases he with rfl | he
      · exact hi
      · exact ih e he

/-- A read of the key just written gives the value written. -/
@[simp] theorem Tab.get_set_same [DecidableEq α] (d : α) (t : Tab α) (k : Nat) (v : α) :
    Tab.get d (Tab.set d t k v) k = v := by
  unfold Tab.set
  split
  · next h => simpa [h] using Tab.get_erase_same d t k
  · exact Tab.get_ins_same d _ k v (Tab.erase_no_key t k)

/-- A write leaves every other key as it was, under any default. -/
theorem Tab.get_set_ne [DecidableEq α] (c d : α) (t : Tab α) {j k : Nat} (v : α) (h : j ≠ k) :
    Tab.get c (Tab.set d t k v) j = Tab.get c t j := by
  unfold Tab.set
  split
  · exact Tab.get_erase_ne c t h
  · rw [Tab.get_ins_ne c _ v h, Tab.get_erase_ne c t h]

theorem Tab.mem_erase {t : Tab α} {k : Nat} {e : Nat × α} (h : e ∈ Tab.erase t k) : e ∈ t := by
  induction t with
  | nil => simp [Tab.erase] at h
  | cons x r ih =>
    obtain ⟨i, w⟩ := x
    by_cases hi : i = k
    · simp only [Tab.erase, hi, if_true] at h
      exact List.mem_cons_of_mem _ (ih h)
    · simp only [Tab.erase, hi, if_false, List.mem_cons] at h
      rcases h with rfl | h
      · simp
      · exact List.mem_cons_of_mem _ (ih h)

theorem Tab.mem_ins {t : Tab α} {k : Nat} {v : α} {e : Nat × α} (h : e ∈ Tab.ins t k v) : e = (k, v) ∨ e ∈ t := by
  induction t with
  | nil => left; simpa [Tab.ins] using h
  | cons x r ih =>
    obtain ⟨i, w⟩ := x
    by_cases hk : k ≤ i
    · simpa [Tab.ins, hk] using h
    · simp only [Tab.ins, hk, if_false, List.mem_cons] at h
      rcases h with rfl | h
      · right; simp
      · rcases ih h with h | h
        · left; exact h
        · right; exact List.mem_cons_of_mem _ h

theorem Tab.rising_erase (t : Tab α) (k : Nat) (h : Tab.rising t = true) : Tab.rising (Tab.erase t k) = true := by
  induction t with
  | nil => rfl
  | cons e r ih =>
    obtain ⟨i, v⟩ := e
    simp only [Tab.rising, Bool.and_eq_true, List.all_eq_true] at h
    by_cases hi : i = k
    · simpa [Tab.erase, hi] using ih h.2
    · simp only [Tab.erase, hi, if_false, Tab.rising, Bool.and_eq_true, List.all_eq_true]
      exact ⟨fun p hp => h.1 p (Tab.mem_erase hp), ih h.2⟩

theorem Tab.rising_ins (t : Tab α) (k : Nat) (v : α) (h : Tab.rising t = true) (hk : ∀ e ∈ t, e.1 ≠ k) :
    Tab.rising (Tab.ins t k v) = true := by
  induction t with
  | nil => rfl
  | cons e r ih =>
    obtain ⟨i, w⟩ := e
    have hr := h
    simp only [Tab.rising, Bool.and_eq_true, List.all_eq_true, decide_eq_true_eq] at h
    have hi : i ≠ k := hk (i, w) (by simp)
    by_cases hle : k ≤ i
    · have hlt : k < i := by omega
      simp only [Tab.ins, hle, if_true, Tab.rising, Bool.and_eq_true, List.all_eq_true, decide_eq_true_eq, List.mem_cons]
      refine ⟨?_, h.1, h.2⟩
      rintro p (rfl | hp)
      · exact hlt
      · exact Nat.lt_trans hlt (h.1 p hp)
    · simp only [Tab.ins, hle, if_false, Tab.rising, Bool.and_eq_true, List.all_eq_true, decide_eq_true_eq]
      refine ⟨?_, ih h.2 fun e he => hk e (by simp [he])⟩
      intro p hp
      rcases Tab.mem_ins hp with rfl | hp
      · show i < k
        omega
      · exact h.1 p hp

theorem Tab.rising_set [DecidableEq α] (d : α) (t : Tab α) (k : Nat) (v : α) (h : Tab.rising t = true) :
    Tab.rising (Tab.set d t k v) = true := by
  unfold Tab.set
  split
  · exact Tab.rising_erase t k h
  · exact Tab.rising_ins _ k v (Tab.rising_erase t k h) (Tab.erase_no_key t k)

theorem Tab.rising_filter (p : Nat × α → Bool) (t : Tab α) (h : Tab.rising t = true) :
    Tab.rising (t.filter p) = true := by
  induction t with
  | nil => rfl
  | cons e r ih =>
    simp only [Tab.rising, Bool.and_eq_true, List.all_eq_true] at h
    by_cases hp : p e = true
    · simp only [List.filter_cons, hp, if_true, Tab.rising, Bool.and_eq_true, List.all_eq_true]
      exact ⟨fun q hq => h.1 q (List.mem_filter.mp hq).1, ih h.2⟩
    · simpa [List.filter_cons, hp] using ih h.2

/-- The canonical form is rising keys and no entry equal to the default. -/
theorem Tab.wf_iff [DecidableEq α] (d : α) (t : Tab α) :
    Tab.wf d t = true ↔ Tab.rising t = true ∧ ∀ e ∈ t, e.2 ≠ d := by
  induction t with
  | nil => simp [Tab.wf, Tab.rising]
  | cons e r ih =>
    obtain ⟨j, v⟩ := e
    simp only [Tab.wf, Tab.rising, Bool.and_eq_true, Bool.not_eq_true', decide_eq_false_iff_not, List.mem_cons, ih]
    constructor
    · rintro ⟨⟨h1, h2⟩, h3, h4⟩
      refine ⟨⟨h2, h3⟩, ?_⟩
      rintro e (rfl | he)
      · exact h1
      · exact h4 e he
    · rintro ⟨⟨h2, h3⟩, h⟩
      exact ⟨⟨h (j, v) (Or.inl rfl), h2⟩, h3, fun e he => h e (Or.inr he)⟩

/-- A write keeps the canonical form. -/
theorem Tab.wf_set [DecidableEq α] (d : α) (t : Tab α) (k : Nat) (v : α) (h : Tab.wf d t = true) :
    Tab.wf d (Tab.set d t k v) = true := by
  rw [Tab.wf_iff] at h ⊢
  refine ⟨Tab.rising_set d t k v h.1, ?_⟩
  intro e he
  unfold Tab.set at he
  split at he
  · exact h.2 e (Tab.mem_erase he)
  · next hv =>
    rcases Tab.mem_ins he with rfl | he
    · exact hv
    · exact h.2 e (Tab.mem_erase he)

/-- Removing entries keeps the canonical form. -/
theorem Tab.wf_filter [DecidableEq α] (d : α) (p : Nat × α → Bool) (t : Tab α) (h : Tab.wf d t = true) :
    Tab.wf d (t.filter p) = true := by
  rw [Tab.wf_iff] at h ⊢
  exact ⟨Tab.rising_filter p t h.1, fun e he => h.2 e (List.mem_filter.mp he).1⟩

/-- Clearing keys keeps the canonical form. -/
theorem Tab.wf_clear [DecidableEq α] (d : α) (p : Nat → Bool) (t : Tab α) (h : Tab.wf d t = true) :
    Tab.wf d (Tab.clear p t) = true := Tab.wf_filter d _ t h

theorem Tab.rising_clear (p : Nat → Bool) (t : Tab α) (h : Tab.rising t = true) :
    Tab.rising (Tab.clear p t) = true := Tab.rising_filter _ t h

/-- A key that is not cleared reads as before. -/
theorem Tab.get_clear_keep (d : α) (p : Nat → Bool) (t : Tab α) {k : Nat} (h : p k = false) :
    Tab.get d (Tab.clear p t) k = Tab.get d t k := by
  unfold Tab.clear
  induction t with
  | nil => rfl
  | cons e r ih =>
    obtain ⟨j, v⟩ := e
    by_cases hj : j = k
    · simp [Tab.get, hj, h]
    · by_cases hp : p j = true <;> simp [Tab.get, hj, hp, ih]

/-- A cleared key reads as the default. -/
theorem Tab.get_clear_gone (d : α) (p : Nat → Bool) (t : Tab α) {k : Nat} (h : p k = true) :
    Tab.get d (Tab.clear p t) k = d := by
  unfold Tab.clear
  induction t with
  | nil => rfl
  | cons e r ih =>
    obtain ⟨j, v⟩ := e
    by_cases hj : j = k
    · simp only [List.filter_cons, hj, h]; simpa using ih
    · by_cases hp : p j = true <;> simp [Tab.get, hj, hp, ih]

end Sys2Proof.Machine
end

