-- ==== Sys2Proof/Laws/State.lean ====
section
/-! SUPPORT. What each update of the state leaves as it was, field by field, and what a register field reads after writes. -/

namespace Sys2Proof.Machine

open Sys2Proof

variable (s : State)

@[simp] theorem State.set_pending (f : Fld) (v n : Nat) : (s.set f v n).pending = s.pending := rfl
@[simp] theorem State.set_now (f : Fld) (v n : Nat) : (s.set f v n).now = s.now := rfl
@[simp] theorem State.set_dsp (f : Fld) (v n : Nat) : (s.set f v n).dsp = s.dsp := rfl
@[simp] theorem State.set_freeCount (f : Fld) (v n : Nat) : (s.set f v n).freeCount = s.freeCount := rfl
@[simp] theorem State.set_mem (f : Fld) (v n : Nat) : (s.set f v n).mem = s.mem := rfl
@[simp] theorem State.set_objs (f : Fld) (v n : Nat) : (s.set f v n).objs = s.objs := rfl
@[simp] theorem State.set_badVotes (f : Fld) (v n : Nat) : (s.set f v n).badVotes = s.badVotes := rfl
@[simp] theorem State.set_bus (f : Fld) (v n : Nat) : (s.set f v n).bus = s.bus := rfl
@[simp] theorem State.set_atb (f : Fld) (v n : Nat) : (s.set f v n).atb = s.atb := rfl
@[simp] theorem State.set_aev (f : Fld) (v n : Nat) : (s.set f v n).aev = s.aev := rfl
@[simp] theorem State.set_radio (f : Fld) (v n : Nat) : (s.set f v n).radio = s.radio := rfl
@[simp] theorem State.set_rge (f : Fld) (v n : Nat) : (s.set f v n).rge = s.rge := rfl
@[simp] theorem State.set_hfr (f : Fld) (v n : Nat) : (s.set f v n).hfr = s.hfr := rfl
@[simp] theorem State.set_gl (f : Fld) (v n : Nat) : (s.set f v n).gl = s.gl := rfl
@[simp] theorem State.set_hft (f : Fld) (v n : Nat) : (s.set f v n).hft = s.hft := rfl
@[simp] theorem State.set_que (f : Fld) (v n : Nat) : (s.set f v n).que = s.que := rfl
@[simp] theorem State.set_tmrPre (f : Fld) (v n : Nat) : (s.set f v n).tmrPre = s.tmrPre := rfl
@[simp] theorem State.set_tmrUnread (f : Fld) (v n : Nat) : (s.set f v n).tmrUnread = s.tmrUnread := rfl
@[simp] theorem State.set_pulses (f : Fld) (v n : Nat) : (s.set f v n).pulses = s.pulses := rfl
@[simp] theorem State.set_calWork (f : Fld) (v n : Nat) : (s.set f v n).calWork = s.calWork := rfl
@[simp] theorem State.set_calTarget (f : Fld) (v n : Nat) : (s.set f v n).calTarget = s.calTarget := rfl
@[simp] theorem State.set_nv (f : Fld) (v n : Nat) : (s.set f v n).nv = s.nv := rfl
@[simp] theorem State.set_coreP (f : Fld) (v n : Nat) : (s.set f v n).coreP = s.coreP := rfl
@[simp] theorem State.set_lum (f : Fld) (v n : Nat) : (s.set f v n).lum = s.lum := rfl
@[simp] theorem State.set_mpt (f : Fld) (v n : Nat) : (s.set f v n).mpt = s.mpt := rfl
@[simp] theorem State.set_grn (f : Fld) (v n : Nat) : (s.set f v n).grn = s.grn := rfl
@[simp] theorem State.set_net (f : Fld) (v n : Nat) : (s.set f v n).net = s.net := rfl
@[simp] theorem State.set_hlk (f : Fld) (v n : Nat) : (s.set f v n).hlk = s.hlk := rfl
@[simp] theorem State.set_age (f : Fld) (v n : Nat) : (s.set f v n).age = s.age := rfl

@[simp] theorem State.setBit_pending (f : Fld) (k : Nat) (b : Bool) (n : Nat) : (s.setBit f k b n).pending = s.pending := rfl
@[simp] theorem State.setBit_now (f : Fld) (k : Nat) (b : Bool) (n : Nat) : (s.setBit f k b n).now = s.now := rfl
@[simp] theorem State.setBit_dsp (f : Fld) (k : Nat) (b : Bool) (n : Nat) : (s.setBit f k b n).dsp = s.dsp := rfl
@[simp] theorem State.setBit_freeCount (f : Fld) (k : Nat) (b : Bool) (n : Nat) : (s.setBit f k b n).freeCount = s.freeCount := rfl
@[simp] theorem State.setBit_mem (f : Fld) (k : Nat) (b : Bool) (n : Nat) : (s.setBit f k b n).mem = s.mem := rfl
@[simp] theorem State.setBit_objs (f : Fld) (k : Nat) (b : Bool) (n : Nat) : (s.setBit f k b n).objs = s.objs := rfl
@[simp] theorem State.setBit_badVotes (f : Fld) (k : Nat) (b : Bool) (n : Nat) : (s.setBit f k b n).badVotes = s.badVotes := rfl
@[simp] theorem State.setBit_bus (f : Fld) (k : Nat) (b : Bool) (n : Nat) : (s.setBit f k b n).bus = s.bus := rfl
@[simp] theorem State.setBit_atb (f : Fld) (k : Nat) (b : Bool) (n : Nat) : (s.setBit f k b n).atb = s.atb := rfl
@[simp] theorem State.setBit_aev (f : Fld) (k : Nat) (b : Bool) (n : Nat) : (s.setBit f k b n).aev = s.aev := rfl
@[simp] theorem State.setBit_radio (f : Fld) (k : Nat) (b : Bool) (n : Nat) : (s.setBit f k b n).radio = s.radio := rfl
@[simp] theorem State.setBit_rge (f : Fld) (k : Nat) (b : Bool) (n : Nat) : (s.setBit f k b n).rge = s.rge := rfl
@[simp] theorem State.setBit_hfr (f : Fld) (k : Nat) (b : Bool) (n : Nat) : (s.setBit f k b n).hfr = s.hfr := rfl
@[simp] theorem State.setBit_gl (f : Fld) (k : Nat) (b : Bool) (n : Nat) : (s.setBit f k b n).gl = s.gl := rfl
@[simp] theorem State.setBit_hft (f : Fld) (k : Nat) (b : Bool) (n : Nat) : (s.setBit f k b n).hft = s.hft := rfl
@[simp] theorem State.setBit_que (f : Fld) (k : Nat) (b : Bool) (n : Nat) : (s.setBit f k b n).que = s.que := rfl
@[simp] theorem State.setBit_tmrPre (f : Fld) (k : Nat) (b : Bool) (n : Nat) : (s.setBit f k b n).tmrPre = s.tmrPre := rfl
@[simp] theorem State.setBit_tmrUnread (f : Fld) (k : Nat) (b : Bool) (n : Nat) : (s.setBit f k b n).tmrUnread = s.tmrUnread := rfl
@[simp] theorem State.setBit_pulses (f : Fld) (k : Nat) (b : Bool) (n : Nat) : (s.setBit f k b n).pulses = s.pulses := rfl
@[simp] theorem State.setBit_calWork (f : Fld) (k : Nat) (b : Bool) (n : Nat) : (s.setBit f k b n).calWork = s.calWork := rfl
@[simp] theorem State.setBit_calTarget (f : Fld) (k : Nat) (b : Bool) (n : Nat) : (s.setBit f k b n).calTarget = s.calTarget := rfl
@[simp] theorem State.setBit_nv (f : Fld) (k : Nat) (b : Bool) (n : Nat) : (s.setBit f k b n).nv = s.nv := rfl
@[simp] theorem State.setBit_coreP (f : Fld) (k : Nat) (b : Bool) (n : Nat) : (s.setBit f k b n).coreP = s.coreP := rfl
@[simp] theorem State.setBit_lum (f : Fld) (k : Nat) (b : Bool) (n : Nat) : (s.setBit f k b n).lum = s.lum := rfl
@[simp] theorem State.setBit_mpt (f : Fld) (k : Nat) (b : Bool) (n : Nat) : (s.setBit f k b n).mpt = s.mpt := rfl
@[simp] theorem State.setBit_grn (f : Fld) (k : Nat) (b : Bool) (n : Nat) : (s.setBit f k b n).grn = s.grn := rfl
@[simp] theorem State.setBit_net (f : Fld) (k : Nat) (b : Bool) (n : Nat) : (s.setBit f k b n).net = s.net := rfl
@[simp] theorem State.setBit_hlk (f : Fld) (k : Nat) (b : Bool) (n : Nat) : (s.setBit f k b n).hlk = s.hlk := rfl
@[simp] theorem State.setBit_age (f : Fld) (k : Nat) (b : Bool) (n : Nat) : (s.setBit f k b n).age = s.age := rfl

@[simp] theorem State.wr8_pending (a v : Nat) : (s.wr8 a v).pending = s.pending := rfl
@[simp] theorem State.wr8_now (a v : Nat) : (s.wr8 a v).now = s.now := rfl
@[simp] theorem State.wr8_dsp (a v : Nat) : (s.wr8 a v).dsp = s.dsp := rfl
@[simp] theorem State.wr8_freeCount (a v : Nat) : (s.wr8 a v).freeCount = s.freeCount := rfl
@[simp] theorem State.wr8_regs (a v : Nat) : (s.wr8 a v).regs = s.regs := rfl
@[simp] theorem State.wr8_objs (a v : Nat) : (s.wr8 a v).objs = s.objs := rfl
@[simp] theorem State.wr8_badVotes (a v : Nat) : (s.wr8 a v).badVotes = s.badVotes := rfl
@[simp] theorem State.wr8_bus (a v : Nat) : (s.wr8 a v).bus = s.bus := rfl
@[simp] theorem State.wr8_atb (a v : Nat) : (s.wr8 a v).atb = s.atb := rfl
@[simp] theorem State.wr8_aev (a v : Nat) : (s.wr8 a v).aev = s.aev := rfl
@[simp] theorem State.wr8_radio (a v : Nat) : (s.wr8 a v).radio = s.radio := rfl
@[simp] theorem State.wr8_rge (a v : Nat) : (s.wr8 a v).rge = s.rge := rfl
@[simp] theorem State.wr8_hfr (a v : Nat) : (s.wr8 a v).hfr = s.hfr := rfl
@[simp] theorem State.wr8_gl (a v : Nat) : (s.wr8 a v).gl = s.gl := rfl
@[simp] theorem State.wr8_hft (a v : Nat) : (s.wr8 a v).hft = s.hft := rfl
@[simp] theorem State.wr8_que (a v : Nat) : (s.wr8 a v).que = s.que := rfl
@[simp] theorem State.wr8_tmrPre (a v : Nat) : (s.wr8 a v).tmrPre = s.tmrPre := rfl
@[simp] theorem State.wr8_tmrUnread (a v : Nat) : (s.wr8 a v).tmrUnread = s.tmrUnread := rfl
@[simp] theorem State.wr8_pulses (a v : Nat) : (s.wr8 a v).pulses = s.pulses := rfl
@[simp] theorem State.wr8_calWork (a v : Nat) : (s.wr8 a v).calWork = s.calWork := rfl
@[simp] theorem State.wr8_calTarget (a v : Nat) : (s.wr8 a v).calTarget = s.calTarget := rfl
@[simp] theorem State.wr8_nv (a v : Nat) : (s.wr8 a v).nv = s.nv := rfl
@[simp] theorem State.wr8_coreP (a v : Nat) : (s.wr8 a v).coreP = s.coreP := rfl
@[simp] theorem State.wr8_lum (a v : Nat) : (s.wr8 a v).lum = s.lum := rfl
@[simp] theorem State.wr8_mpt (a v : Nat) : (s.wr8 a v).mpt = s.mpt := rfl
@[simp] theorem State.wr8_grn (a v : Nat) : (s.wr8 a v).grn = s.grn := rfl
@[simp] theorem State.wr8_net (a v : Nat) : (s.wr8 a v).net = s.net := rfl
@[simp] theorem State.wr8_hlk (a v : Nat) : (s.wr8 a v).hlk = s.hlk := rfl
@[simp] theorem State.wr8_age (a v : Nat) : (s.wr8 a v).age = s.age := rfl

@[simp] theorem State.wipe_pending (lo hi : Nat) : (s.wipe lo hi).pending = s.pending := rfl
@[simp] theorem State.wipe_now (lo hi : Nat) : (s.wipe lo hi).now = s.now := rfl
@[simp] theorem State.wipe_dsp (lo hi : Nat) : (s.wipe lo hi).dsp = s.dsp := rfl
@[simp] theorem State.wipe_freeCount (lo hi : Nat) : (s.wipe lo hi).freeCount = s.freeCount := rfl
@[simp] theorem State.wipe_regs (lo hi : Nat) : (s.wipe lo hi).regs = s.regs := rfl
@[simp] theorem State.wipe_objs (lo hi : Nat) : (s.wipe lo hi).objs = s.objs := rfl
@[simp] theorem State.wipe_badVotes (lo hi : Nat) : (s.wipe lo hi).badVotes = s.badVotes := rfl
@[simp] theorem State.wipe_bus (lo hi : Nat) : (s.wipe lo hi).bus = s.bus := rfl
@[simp] theorem State.wipe_atb (lo hi : Nat) : (s.wipe lo hi).atb = s.atb := rfl
@[simp] theorem State.wipe_aev (lo hi : Nat) : (s.wipe lo hi).aev = s.aev := rfl
@[simp] theorem State.wipe_radio (lo hi : Nat) : (s.wipe lo hi).radio = s.radio := rfl
@[simp] theorem State.wipe_rge (lo hi : Nat) : (s.wipe lo hi).rge = s.rge := rfl
@[simp] theorem State.wipe_hfr (lo hi : Nat) : (s.wipe lo hi).hfr = s.hfr := rfl
@[simp] theorem State.wipe_gl (lo hi : Nat) : (s.wipe lo hi).gl = s.gl := rfl
@[simp] theorem State.wipe_hft (lo hi : Nat) : (s.wipe lo hi).hft = s.hft := rfl
@[simp] theorem State.wipe_que (lo hi : Nat) : (s.wipe lo hi).que = s.que := rfl
@[simp] theorem State.wipe_tmrPre (lo hi : Nat) : (s.wipe lo hi).tmrPre = s.tmrPre := rfl
@[simp] theorem State.wipe_tmrUnread (lo hi : Nat) : (s.wipe lo hi).tmrUnread = s.tmrUnread := rfl
@[simp] theorem State.wipe_pulses (lo hi : Nat) : (s.wipe lo hi).pulses = s.pulses := rfl
@[simp] theorem State.wipe_calWork (lo hi : Nat) : (s.wipe lo hi).calWork = s.calWork := rfl
@[simp] theorem State.wipe_calTarget (lo hi : Nat) : (s.wipe lo hi).calTarget = s.calTarget := rfl
@[simp] theorem State.wipe_nv (lo hi : Nat) : (s.wipe lo hi).nv = s.nv := rfl
@[simp] theorem State.wipe_coreP (lo hi : Nat) : (s.wipe lo hi).coreP = s.coreP := rfl
@[simp] theorem State.wipe_lum (lo hi : Nat) : (s.wipe lo hi).lum = s.lum := rfl
@[simp] theorem State.wipe_mpt (lo hi : Nat) : (s.wipe lo hi).mpt = s.mpt := rfl
@[simp] theorem State.wipe_grn (lo hi : Nat) : (s.wipe lo hi).grn = s.grn := rfl
@[simp] theorem State.wipe_net (lo hi : Nat) : (s.wipe lo hi).net = s.net := rfl
@[simp] theorem State.wipe_hlk (lo hi : Nat) : (s.wipe lo hi).hlk = s.hlk := rfl
@[simp] theorem State.wipe_age (lo hi : Nat) : (s.wipe lo hi).age = s.age := rfl

@[simp] theorem State.setObj_pending (i k : Nat) (v : List Nat) : (s.setObj i k v).pending = s.pending := rfl
@[simp] theorem State.setObj_now (i k : Nat) (v : List Nat) : (s.setObj i k v).now = s.now := rfl
@[simp] theorem State.setObj_dsp (i k : Nat) (v : List Nat) : (s.setObj i k v).dsp = s.dsp := rfl
@[simp] theorem State.setObj_freeCount (i k : Nat) (v : List Nat) : (s.setObj i k v).freeCount = s.freeCount := rfl
@[simp] theorem State.setObj_regs (i k : Nat) (v : List Nat) : (s.setObj i k v).regs = s.regs := rfl
@[simp] theorem State.setObj_mem (i k : Nat) (v : List Nat) : (s.setObj i k v).mem = s.mem := rfl
@[simp] theorem State.setObj_badVotes (i k : Nat) (v : List Nat) : (s.setObj i k v).badVotes = s.badVotes := rfl
@[simp] theorem State.setObj_bus (i k : Nat) (v : List Nat) : (s.setObj i k v).bus = s.bus := rfl
@[simp] theorem State.setObj_atb (i k : Nat) (v : List Nat) : (s.setObj i k v).atb = s.atb := rfl
@[simp] theorem State.setObj_aev (i k : Nat) (v : List Nat) : (s.setObj i k v).aev = s.aev := rfl
@[simp] theorem State.setObj_radio (i k : Nat) (v : List Nat) : (s.setObj i k v).radio = s.radio := rfl
@[simp] theorem State.setObj_rge (i k : Nat) (v : List Nat) : (s.setObj i k v).rge = s.rge := rfl
@[simp] theorem State.setObj_hfr (i k : Nat) (v : List Nat) : (s.setObj i k v).hfr = s.hfr := rfl
@[simp] theorem State.setObj_gl (i k : Nat) (v : List Nat) : (s.setObj i k v).gl = s.gl := rfl
@[simp] theorem State.setObj_hft (i k : Nat) (v : List Nat) : (s.setObj i k v).hft = s.hft := rfl
@[simp] theorem State.setObj_que (i k : Nat) (v : List Nat) : (s.setObj i k v).que = s.que := rfl
@[simp] theorem State.setObj_tmrPre (i k : Nat) (v : List Nat) : (s.setObj i k v).tmrPre = s.tmrPre := rfl
@[simp] theorem State.setObj_tmrUnread (i k : Nat) (v : List Nat) : (s.setObj i k v).tmrUnread = s.tmrUnread := rfl
@[simp] theorem State.setObj_pulses (i k : Nat) (v : List Nat) : (s.setObj i k v).pulses = s.pulses := rfl
@[simp] theorem State.setObj_calWork (i k : Nat) (v : List Nat) : (s.setObj i k v).calWork = s.calWork := rfl
@[simp] theorem State.setObj_calTarget (i k : Nat) (v : List Nat) : (s.setObj i k v).calTarget = s.calTarget := rfl
@[simp] theorem State.setObj_nv (i k : Nat) (v : List Nat) : (s.setObj i k v).nv = s.nv := rfl
@[simp] theorem State.setObj_coreP (i k : Nat) (v : List Nat) : (s.setObj i k v).coreP = s.coreP := rfl
@[simp] theorem State.setObj_lum (i k : Nat) (v : List Nat) : (s.setObj i k v).lum = s.lum := rfl
@[simp] theorem State.setObj_mpt (i k : Nat) (v : List Nat) : (s.setObj i k v).mpt = s.mpt := rfl
@[simp] theorem State.setObj_grn (i k : Nat) (v : List Nat) : (s.setObj i k v).grn = s.grn := rfl
@[simp] theorem State.setObj_net (i k : Nat) (v : List Nat) : (s.setObj i k v).net = s.net := rfl
@[simp] theorem State.setObj_hlk (i k : Nat) (v : List Nat) : (s.setObj i k v).hlk = s.hlk := rfl
@[simp] theorem State.setObj_age (i k : Nat) (v : List Nat) : (s.setObj i k v).age = s.age := rfl

@[simp] theorem State.respond_pending (v : Nat) (e : Bool) : (s.respond v e).pending = s.pending := rfl
@[simp] theorem State.respond_now (v : Nat) (e : Bool) : (s.respond v e).now = s.now := rfl
@[simp] theorem State.respond_dsp (v : Nat) (e : Bool) : (s.respond v e).dsp = s.dsp := rfl
@[simp] theorem State.respond_freeCount (v : Nat) (e : Bool) : (s.respond v e).freeCount = s.freeCount := rfl
@[simp] theorem State.respond_regs (v : Nat) (e : Bool) : (s.respond v e).regs = s.regs := rfl
@[simp] theorem State.respond_mem (v : Nat) (e : Bool) : (s.respond v e).mem = s.mem := rfl
@[simp] theorem State.respond_objs (v : Nat) (e : Bool) : (s.respond v e).objs = s.objs := rfl
@[simp] theorem State.respond_badVotes (v : Nat) (e : Bool) : (s.respond v e).badVotes = s.badVotes := rfl
@[simp] theorem State.respond_atb (v : Nat) (e : Bool) : (s.respond v e).atb = s.atb := rfl
@[simp] theorem State.respond_aev (v : Nat) (e : Bool) : (s.respond v e).aev = s.aev := rfl
@[simp] theorem State.respond_radio (v : Nat) (e : Bool) : (s.respond v e).radio = s.radio := rfl
@[simp] theorem State.respond_rge (v : Nat) (e : Bool) : (s.respond v e).rge = s.rge := rfl
@[simp] theorem State.respond_hfr (v : Nat) (e : Bool) : (s.respond v e).hfr = s.hfr := rfl
@[simp] theorem State.respond_gl (v : Nat) (e : Bool) : (s.respond v e).gl = s.gl := rfl
@[simp] theorem State.respond_hft (v : Nat) (e : Bool) : (s.respond v e).hft = s.hft := rfl
@[simp] theorem State.respond_que (v : Nat) (e : Bool) : (s.respond v e).que = s.que := rfl
@[simp] theorem State.respond_tmrPre (v : Nat) (e : Bool) : (s.respond v e).tmrPre = s.tmrPre := rfl
@[simp] theorem State.respond_tmrUnread (v : Nat) (e : Bool) : (s.respond v e).tmrUnread = s.tmrUnread := rfl
@[simp] theorem State.respond_pulses (v : Nat) (e : Bool) : (s.respond v e).pulses = s.pulses := rfl
@[simp] theorem State.respond_calWork (v : Nat) (e : Bool) : (s.respond v e).calWork = s.calWork := rfl
@[simp] theorem State.respond_calTarget (v : Nat) (e : Bool) : (s.respond v e).calTarget = s.calTarget := rfl
@[simp] theorem State.respond_nv (v : Nat) (e : Bool) : (s.respond v e).nv = s.nv := rfl
@[simp] theorem State.respond_coreP (v : Nat) (e : Bool) : (s.respond v e).coreP = s.coreP := rfl
@[simp] theorem State.respond_lum (v : Nat) (e : Bool) : (s.respond v e).lum = s.lum := rfl
@[simp] theorem State.respond_mpt (v : Nat) (e : Bool) : (s.respond v e).mpt = s.mpt := rfl
@[simp] theorem State.respond_grn (v : Nat) (e : Bool) : (s.respond v e).grn = s.grn := rfl
@[simp] theorem State.respond_net (v : Nat) (e : Bool) : (s.respond v e).net = s.net := rfl
@[simp] theorem State.respond_hlk (v : Nat) (e : Bool) : (s.respond v e).hlk = s.hlk := rfl
@[simp] theorem State.respond_age (v : Nat) (e : Bool) : (s.respond v e).age = s.age := rfl

@[simp] theorem State.latch_pending (lo : Nat) (m : Master) (v : Nat) : (s.latch lo m v).pending = s.pending := rfl
@[simp] theorem State.latch_now (lo : Nat) (m : Master) (v : Nat) : (s.latch lo m v).now = s.now := rfl
@[simp] theorem State.latch_dsp (lo : Nat) (m : Master) (v : Nat) : (s.latch lo m v).dsp = s.dsp := rfl
@[simp] theorem State.latch_freeCount (lo : Nat) (m : Master) (v : Nat) : (s.latch lo m v).freeCount = s.freeCount := rfl
@[simp] theorem State.latch_regs (lo : Nat) (m : Master) (v : Nat) : (s.latch lo m v).regs = s.regs := rfl
@[simp] theorem State.latch_mem (lo : Nat) (m : Master) (v : Nat) : (s.latch lo m v).mem = s.mem := rfl
@[simp] theorem State.latch_objs (lo : Nat) (m : Master) (v : Nat) : (s.latch lo m v).objs = s.objs := rfl
@[simp] theorem State.latch_badVotes (lo : Nat) (m : Master) (v : Nat) : (s.latch lo m v).badVotes = s.badVotes := rfl
@[simp] theorem State.latch_atb (lo : Nat) (m : Master) (v : Nat) : (s.latch lo m v).atb = s.atb := rfl
@[simp] theorem State.latch_aev (lo : Nat) (m : Master) (v : Nat) : (s.latch lo m v).aev = s.aev := rfl
@[simp] theorem State.latch_radio (lo : Nat) (m : Master) (v : Nat) : (s.latch lo m v).radio = s.radio := rfl
@[simp] theorem State.latch_rge (lo : Nat) (m : Master) (v : Nat) : (s.latch lo m v).rge = s.rge := rfl
@[simp] theorem State.latch_hfr (lo : Nat) (m : Master) (v : Nat) : (s.latch lo m v).hfr = s.hfr := rfl
@[simp] theorem State.latch_gl (lo : Nat) (m : Master) (v : Nat) : (s.latch lo m v).gl = s.gl := rfl
@[simp] theorem State.latch_hft (lo : Nat) (m : Master) (v : Nat) : (s.latch lo m v).hft = s.hft := rfl
@[simp] theorem State.latch_que (lo : Nat) (m : Master) (v : Nat) : (s.latch lo m v).que = s.que := rfl
@[simp] theorem State.latch_tmrPre (lo : Nat) (m : Master) (v : Nat) : (s.latch lo m v).tmrPre = s.tmrPre := rfl
@[simp] theorem State.latch_tmrUnread (lo : Nat) (m : Master) (v : Nat) : (s.latch lo m v).tmrUnread = s.tmrUnread := rfl
@[simp] theorem State.latch_pulses (lo : Nat) (m : Master) (v : Nat) : (s.latch lo m v).pulses = s.pulses := rfl
@[simp] theorem State.latch_calWork (lo : Nat) (m : Master) (v : Nat) : (s.latch lo m v).calWork = s.calWork := rfl
@[simp] theorem State.latch_calTarget (lo : Nat) (m : Master) (v : Nat) : (s.latch lo m v).calTarget = s.calTarget := rfl
@[simp] theorem State.latch_nv (lo : Nat) (m : Master) (v : Nat) : (s.latch lo m v).nv = s.nv := rfl
@[simp] theorem State.latch_coreP (lo : Nat) (m : Master) (v : Nat) : (s.latch lo m v).coreP = s.coreP := rfl
@[simp] theorem State.latch_lum (lo : Nat) (m : Master) (v : Nat) : (s.latch lo m v).lum = s.lum := rfl
@[simp] theorem State.latch_mpt (lo : Nat) (m : Master) (v : Nat) : (s.latch lo m v).mpt = s.mpt := rfl
@[simp] theorem State.latch_grn (lo : Nat) (m : Master) (v : Nat) : (s.latch lo m v).grn = s.grn := rfl
@[simp] theorem State.latch_net (lo : Nat) (m : Master) (v : Nat) : (s.latch lo m v).net = s.net := rfl
@[simp] theorem State.latch_hlk (lo : Nat) (m : Master) (v : Nat) : (s.latch lo m v).hlk = s.hlk := rfl
@[simp] theorem State.latch_age (lo : Nat) (m : Master) (v : Nat) : (s.latch lo m v).age = s.age := rfl

@[simp] theorem State.voteClean_pending (k : Nat) : (s.voteClean k).pending = s.pending := rfl
@[simp] theorem State.voteClean_now (k : Nat) : (s.voteClean k).now = s.now := rfl
@[simp] theorem State.voteClean_dsp (k : Nat) : (s.voteClean k).dsp = s.dsp := rfl
@[simp] theorem State.voteClean_freeCount (k : Nat) : (s.voteClean k).freeCount = s.freeCount := rfl
@[simp] theorem State.voteClean_regs (k : Nat) : (s.voteClean k).regs = s.regs := rfl
@[simp] theorem State.voteClean_mem (k : Nat) : (s.voteClean k).mem = s.mem := rfl
@[simp] theorem State.voteClean_objs (k : Nat) : (s.voteClean k).objs = s.objs := rfl
@[simp] theorem State.voteClean_bus (k : Nat) : (s.voteClean k).bus = s.bus := rfl
@[simp] theorem State.voteClean_atb (k : Nat) : (s.voteClean k).atb = s.atb := rfl
@[simp] theorem State.voteClean_aev (k : Nat) : (s.voteClean k).aev = s.aev := rfl
@[simp] theorem State.voteClean_radio (k : Nat) : (s.voteClean k).radio = s.radio := rfl
@[simp] theorem State.voteClean_rge (k : Nat) : (s.voteClean k).rge = s.rge := rfl
@[simp] theorem State.voteClean_hfr (k : Nat) : (s.voteClean k).hfr = s.hfr := rfl
@[simp] theorem State.voteClean_gl (k : Nat) : (s.voteClean k).gl = s.gl := rfl
@[simp] theorem State.voteClean_hft (k : Nat) : (s.voteClean k).hft = s.hft := rfl
@[simp] theorem State.voteClean_que (k : Nat) : (s.voteClean k).que = s.que := rfl
@[simp] theorem State.voteClean_tmrPre (k : Nat) : (s.voteClean k).tmrPre = s.tmrPre := rfl
@[simp] theorem State.voteClean_tmrUnread (k : Nat) : (s.voteClean k).tmrUnread = s.tmrUnread := rfl
@[simp] theorem State.voteClean_pulses (k : Nat) : (s.voteClean k).pulses = s.pulses := rfl
@[simp] theorem State.voteClean_calWork (k : Nat) : (s.voteClean k).calWork = s.calWork := rfl
@[simp] theorem State.voteClean_calTarget (k : Nat) : (s.voteClean k).calTarget = s.calTarget := rfl
@[simp] theorem State.voteClean_nv (k : Nat) : (s.voteClean k).nv = s.nv := rfl
@[simp] theorem State.voteClean_coreP (k : Nat) : (s.voteClean k).coreP = s.coreP := rfl
@[simp] theorem State.voteClean_lum (k : Nat) : (s.voteClean k).lum = s.lum := rfl
@[simp] theorem State.voteClean_mpt (k : Nat) : (s.voteClean k).mpt = s.mpt := rfl
@[simp] theorem State.voteClean_grn (k : Nat) : (s.voteClean k).grn = s.grn := rfl
@[simp] theorem State.voteClean_net (k : Nat) : (s.voteClean k).net = s.net := rfl
@[simp] theorem State.voteClean_hlk (k : Nat) : (s.voteClean k).hlk = s.hlk := rfl
@[simp] theorem State.voteClean_age (k : Nat) : (s.voteClean k).age = s.age := rfl

@[simp] theorem State.fresh_pending : (s.fresh.2).pending = s.pending := rfl
@[simp] theorem State.fresh_now : (s.fresh.2).now = s.now := rfl
@[simp] theorem State.fresh_dsp : (s.fresh.2).dsp = s.dsp := rfl
@[simp] theorem State.fresh_regs : (s.fresh.2).regs = s.regs := rfl
@[simp] theorem State.fresh_mem : (s.fresh.2).mem = s.mem := rfl
@[simp] theorem State.fresh_objs : (s.fresh.2).objs = s.objs := rfl
@[simp] theorem State.fresh_badVotes : (s.fresh.2).badVotes = s.badVotes := rfl
@[simp] theorem State.fresh_bus : (s.fresh.2).bus = s.bus := rfl
@[simp] theorem State.fresh_atb : (s.fresh.2).atb = s.atb := rfl
@[simp] theorem State.fresh_aev : (s.fresh.2).aev = s.aev := rfl
@[simp] theorem State.fresh_radio : (s.fresh.2).radio = s.radio := rfl
@[simp] theorem State.fresh_rge : (s.fresh.2).rge = s.rge := rfl
@[simp] theorem State.fresh_hfr : (s.fresh.2).hfr = s.hfr := rfl
@[simp] theorem State.fresh_gl : (s.fresh.2).gl = s.gl := rfl
@[simp] theorem State.fresh_hft : (s.fresh.2).hft = s.hft := rfl
@[simp] theorem State.fresh_que : (s.fresh.2).que = s.que := rfl
@[simp] theorem State.fresh_tmrPre : (s.fresh.2).tmrPre = s.tmrPre := rfl
@[simp] theorem State.fresh_tmrUnread : (s.fresh.2).tmrUnread = s.tmrUnread := rfl
@[simp] theorem State.fresh_pulses : (s.fresh.2).pulses = s.pulses := rfl
@[simp] theorem State.fresh_calWork : (s.fresh.2).calWork = s.calWork := rfl
@[simp] theorem State.fresh_calTarget : (s.fresh.2).calTarget = s.calTarget := rfl
@[simp] theorem State.fresh_nv : (s.fresh.2).nv = s.nv := rfl
@[simp] theorem State.fresh_coreP : (s.fresh.2).coreP = s.coreP := rfl
@[simp] theorem State.fresh_lum : (s.fresh.2).lum = s.lum := rfl
@[simp] theorem State.fresh_mpt : (s.fresh.2).mpt = s.mpt := rfl
@[simp] theorem State.fresh_grn : (s.fresh.2).grn = s.grn := rfl
@[simp] theorem State.fresh_net : (s.fresh.2).net = s.net := rfl
@[simp] theorem State.fresh_hlk : (s.fresh.2).hlk = s.hlk := rfl
@[simp] theorem State.fresh_age : (s.fresh.2).age = s.age := rfl

@[simp] theorem State.updAtb_pending (g : Atb → Atb) : (s.updAtb g).pending = s.pending := rfl
@[simp] theorem State.updAtb_now (g : Atb → Atb) : (s.updAtb g).now = s.now := rfl
@[simp] theorem State.updAtb_dsp (g : Atb → Atb) : (s.updAtb g).dsp = s.dsp := rfl
@[simp] theorem State.updAtb_freeCount (g : Atb → Atb) : (s.updAtb g).freeCount = s.freeCount := rfl
@[simp] theorem State.updAtb_regs (g : Atb → Atb) : (s.updAtb g).regs = s.regs := rfl
@[simp] theorem State.updAtb_mem (g : Atb → Atb) : (s.updAtb g).mem = s.mem := rfl
@[simp] theorem State.updAtb_objs (g : Atb → Atb) : (s.updAtb g).objs = s.objs := rfl
@[simp] theorem State.updAtb_badVotes (g : Atb → Atb) : (s.updAtb g).badVotes = s.badVotes := rfl
@[simp] theorem State.updAtb_bus (g : Atb → Atb) : (s.updAtb g).bus = s.bus := rfl
@[simp] theorem State.updAtb_aev (g : Atb → Atb) : (s.updAtb g).aev = s.aev := rfl
@[simp] theorem State.updAtb_radio (g : Atb → Atb) : (s.updAtb g).radio = s.radio := rfl
@[simp] theorem State.updAtb_rge (g : Atb → Atb) : (s.updAtb g).rge = s.rge := rfl
@[simp] theorem State.updAtb_hfr (g : Atb → Atb) : (s.updAtb g).hfr = s.hfr := rfl
@[simp] theorem State.updAtb_gl (g : Atb → Atb) : (s.updAtb g).gl = s.gl := rfl
@[simp] theorem State.updAtb_hft (g : Atb → Atb) : (s.updAtb g).hft = s.hft := rfl
@[simp] theorem State.updAtb_que (g : Atb → Atb) : (s.updAtb g).que = s.que := rfl
@[simp] theorem State.updAtb_tmrPre (g : Atb → Atb) : (s.updAtb g).tmrPre = s.tmrPre := rfl
@[simp] theorem State.updAtb_tmrUnread (g : Atb → Atb) : (s.updAtb g).tmrUnread = s.tmrUnread := rfl
@[simp] theorem State.updAtb_pulses (g : Atb → Atb) : (s.updAtb g).pulses = s.pulses := rfl
@[simp] theorem State.updAtb_calWork (g : Atb → Atb) : (s.updAtb g).calWork = s.calWork := rfl
@[simp] theorem State.updAtb_calTarget (g : Atb → Atb) : (s.updAtb g).calTarget = s.calTarget := rfl
@[simp] theorem State.updAtb_nv (g : Atb → Atb) : (s.updAtb g).nv = s.nv := rfl
@[simp] theorem State.updAtb_coreP (g : Atb → Atb) : (s.updAtb g).coreP = s.coreP := rfl
@[simp] theorem State.updAtb_lum (g : Atb → Atb) : (s.updAtb g).lum = s.lum := rfl
@[simp] theorem State.updAtb_mpt (g : Atb → Atb) : (s.updAtb g).mpt = s.mpt := rfl
@[simp] theorem State.updAtb_grn (g : Atb → Atb) : (s.updAtb g).grn = s.grn := rfl
@[simp] theorem State.updAtb_net (g : Atb → Atb) : (s.updAtb g).net = s.net := rfl
@[simp] theorem State.updAtb_hlk (g : Atb → Atb) : (s.updAtb g).hlk = s.hlk := rfl
@[simp] theorem State.updAtb_age (g : Atb → Atb) : (s.updAtb g).age = s.age := rfl

@[simp] theorem State.setUtx_pending (n : Nat) (u : UtxChain) : (s.setUtx n u).pending = s.pending := rfl
@[simp] theorem State.setUtx_now (n : Nat) (u : UtxChain) : (s.setUtx n u).now = s.now := rfl
@[simp] theorem State.setUtx_dsp (n : Nat) (u : UtxChain) : (s.setUtx n u).dsp = s.dsp := rfl
@[simp] theorem State.setUtx_freeCount (n : Nat) (u : UtxChain) : (s.setUtx n u).freeCount = s.freeCount := rfl
@[simp] theorem State.setUtx_regs (n : Nat) (u : UtxChain) : (s.setUtx n u).regs = s.regs := rfl
@[simp] theorem State.setUtx_mem (n : Nat) (u : UtxChain) : (s.setUtx n u).mem = s.mem := rfl
@[simp] theorem State.setUtx_objs (n : Nat) (u : UtxChain) : (s.setUtx n u).objs = s.objs := rfl
@[simp] theorem State.setUtx_badVotes (n : Nat) (u : UtxChain) : (s.setUtx n u).badVotes = s.badVotes := rfl
@[simp] theorem State.setUtx_bus (n : Nat) (u : UtxChain) : (s.setUtx n u).bus = s.bus := rfl
@[simp] theorem State.setUtx_atb (n : Nat) (u : UtxChain) : (s.setUtx n u).atb = s.atb := rfl
@[simp] theorem State.setUtx_aev (n : Nat) (u : UtxChain) : (s.setUtx n u).aev = s.aev := rfl
@[simp] theorem State.setUtx_rge (n : Nat) (u : UtxChain) : (s.setUtx n u).rge = s.rge := rfl
@[simp] theorem State.setUtx_hfr (n : Nat) (u : UtxChain) : (s.setUtx n u).hfr = s.hfr := rfl
@[simp] theorem State.setUtx_gl (n : Nat) (u : UtxChain) : (s.setUtx n u).gl = s.gl := rfl
@[simp] theorem State.setUtx_hft (n : Nat) (u : UtxChain) : (s.setUtx n u).hft = s.hft := rfl
@[simp] theorem State.setUtx_que (n : Nat) (u : UtxChain) : (s.setUtx n u).que = s.que := rfl
@[simp] theorem State.setUtx_tmrPre (n : Nat) (u : UtxChain) : (s.setUtx n u).tmrPre = s.tmrPre := rfl
@[simp] theorem State.setUtx_tmrUnread (n : Nat) (u : UtxChain) : (s.setUtx n u).tmrUnread = s.tmrUnread := rfl
@[simp] theorem State.setUtx_pulses (n : Nat) (u : UtxChain) : (s.setUtx n u).pulses = s.pulses := rfl
@[simp] theorem State.setUtx_calWork (n : Nat) (u : UtxChain) : (s.setUtx n u).calWork = s.calWork := rfl
@[simp] theorem State.setUtx_calTarget (n : Nat) (u : UtxChain) : (s.setUtx n u).calTarget = s.calTarget := rfl
@[simp] theorem State.setUtx_nv (n : Nat) (u : UtxChain) : (s.setUtx n u).nv = s.nv := rfl
@[simp] theorem State.setUtx_coreP (n : Nat) (u : UtxChain) : (s.setUtx n u).coreP = s.coreP := rfl
@[simp] theorem State.setUtx_lum (n : Nat) (u : UtxChain) : (s.setUtx n u).lum = s.lum := rfl
@[simp] theorem State.setUtx_mpt (n : Nat) (u : UtxChain) : (s.setUtx n u).mpt = s.mpt := rfl
@[simp] theorem State.setUtx_grn (n : Nat) (u : UtxChain) : (s.setUtx n u).grn = s.grn := rfl
@[simp] theorem State.setUtx_net (n : Nat) (u : UtxChain) : (s.setUtx n u).net = s.net := rfl
@[simp] theorem State.setUtx_hlk (n : Nat) (u : UtxChain) : (s.setUtx n u).hlk = s.hlk := rfl
@[simp] theorem State.setUtx_age (n : Nat) (u : UtxChain) : (s.setUtx n u).age = s.age := rfl

@[simp] theorem State.setSynth_pending (n : Nat) (y : Synth) : (s.setSynth n y).pending = s.pending := rfl
@[simp] theorem State.setSynth_now (n : Nat) (y : Synth) : (s.setSynth n y).now = s.now := rfl
@[simp] theorem State.setSynth_dsp (n : Nat) (y : Synth) : (s.setSynth n y).dsp = s.dsp := rfl
@[simp] theorem State.setSynth_freeCount (n : Nat) (y : Synth) : (s.setSynth n y).freeCount = s.freeCount := rfl
@[simp] theorem State.setSynth_regs (n : Nat) (y : Synth) : (s.setSynth n y).regs = s.regs := rfl
@[simp] theorem State.setSynth_mem (n : Nat) (y : Synth) : (s.setSynth n y).mem = s.mem := rfl
@[simp] theorem State.setSynth_objs (n : Nat) (y : Synth) : (s.setSynth n y).objs = s.objs := rfl
@[simp] theorem State.setSynth_badVotes (n : Nat) (y : Synth) : (s.setSynth n y).badVotes = s.badVotes := rfl
@[simp] theorem State.setSynth_bus (n : Nat) (y : Synth) : (s.setSynth n y).bus = s.bus := rfl
@[simp] theorem State.setSynth_atb (n : Nat) (y : Synth) : (s.setSynth n y).atb = s.atb := rfl
@[simp] theorem State.setSynth_aev (n : Nat) (y : Synth) : (s.setSynth n y).aev = s.aev := rfl
@[simp] theorem State.setSynth_rge (n : Nat) (y : Synth) : (s.setSynth n y).rge = s.rge := rfl
@[simp] theorem State.setSynth_hfr (n : Nat) (y : Synth) : (s.setSynth n y).hfr = s.hfr := rfl
@[simp] theorem State.setSynth_gl (n : Nat) (y : Synth) : (s.setSynth n y).gl = s.gl := rfl
@[simp] theorem State.setSynth_hft (n : Nat) (y : Synth) : (s.setSynth n y).hft = s.hft := rfl
@[simp] theorem State.setSynth_que (n : Nat) (y : Synth) : (s.setSynth n y).que = s.que := rfl
@[simp] theorem State.setSynth_tmrPre (n : Nat) (y : Synth) : (s.setSynth n y).tmrPre = s.tmrPre := rfl
@[simp] theorem State.setSynth_tmrUnread (n : Nat) (y : Synth) : (s.setSynth n y).tmrUnread = s.tmrUnread := rfl
@[simp] theorem State.setSynth_pulses (n : Nat) (y : Synth) : (s.setSynth n y).pulses = s.pulses := rfl
@[simp] theorem State.setSynth_calWork (n : Nat) (y : Synth) : (s.setSynth n y).calWork = s.calWork := rfl
@[simp] theorem State.setSynth_calTarget (n : Nat) (y : Synth) : (s.setSynth n y).calTarget = s.calTarget := rfl
@[simp] theorem State.setSynth_nv (n : Nat) (y : Synth) : (s.setSynth n y).nv = s.nv := rfl
@[simp] theorem State.setSynth_coreP (n : Nat) (y : Synth) : (s.setSynth n y).coreP = s.coreP := rfl
@[simp] theorem State.setSynth_lum (n : Nat) (y : Synth) : (s.setSynth n y).lum = s.lum := rfl
@[simp] theorem State.setSynth_mpt (n : Nat) (y : Synth) : (s.setSynth n y).mpt = s.mpt := rfl
@[simp] theorem State.setSynth_grn (n : Nat) (y : Synth) : (s.setSynth n y).grn = s.grn := rfl
@[simp] theorem State.setSynth_net (n : Nat) (y : Synth) : (s.setSynth n y).net = s.net := rfl
@[simp] theorem State.setSynth_hlk (n : Nat) (y : Synth) : (s.setSynth n y).hlk = s.hlk := rfl
@[simp] theorem State.setSynth_age (n : Nat) (y : Synth) : (s.setSynth n y).age = s.age := rfl

@[simp] theorem State.setUrx_pending (n : Nat) (u : UrxChain) : (s.setUrx n u).pending = s.pending := rfl
@[simp] theorem State.setUrx_now (n : Nat) (u : UrxChain) : (s.setUrx n u).now = s.now := rfl
@[simp] theorem State.setUrx_dsp (n : Nat) (u : UrxChain) : (s.setUrx n u).dsp = s.dsp := rfl
@[simp] theorem State.setUrx_freeCount (n : Nat) (u : UrxChain) : (s.setUrx n u).freeCount = s.freeCount := rfl
@[simp] theorem State.setUrx_regs (n : Nat) (u : UrxChain) : (s.setUrx n u).regs = s.regs := rfl
@[simp] theorem State.setUrx_mem (n : Nat) (u : UrxChain) : (s.setUrx n u).mem = s.mem := rfl
@[simp] theorem State.setUrx_objs (n : Nat) (u : UrxChain) : (s.setUrx n u).objs = s.objs := rfl
@[simp] theorem State.setUrx_badVotes (n : Nat) (u : UrxChain) : (s.setUrx n u).badVotes = s.badVotes := rfl
@[simp] theorem State.setUrx_bus (n : Nat) (u : UrxChain) : (s.setUrx n u).bus = s.bus := rfl
@[simp] theorem State.setUrx_atb (n : Nat) (u : UrxChain) : (s.setUrx n u).atb = s.atb := rfl
@[simp] theorem State.setUrx_aev (n : Nat) (u : UrxChain) : (s.setUrx n u).aev = s.aev := rfl
@[simp] theorem State.setUrx_rge (n : Nat) (u : UrxChain) : (s.setUrx n u).rge = s.rge := rfl
@[simp] theorem State.setUrx_hfr (n : Nat) (u : UrxChain) : (s.setUrx n u).hfr = s.hfr := rfl
@[simp] theorem State.setUrx_gl (n : Nat) (u : UrxChain) : (s.setUrx n u).gl = s.gl := rfl
@[simp] theorem State.setUrx_hft (n : Nat) (u : UrxChain) : (s.setUrx n u).hft = s.hft := rfl
@[simp] theorem State.setUrx_que (n : Nat) (u : UrxChain) : (s.setUrx n u).que = s.que := rfl
@[simp] theorem State.setUrx_tmrPre (n : Nat) (u : UrxChain) : (s.setUrx n u).tmrPre = s.tmrPre := rfl
@[simp] theorem State.setUrx_tmrUnread (n : Nat) (u : UrxChain) : (s.setUrx n u).tmrUnread = s.tmrUnread := rfl
@[simp] theorem State.setUrx_pulses (n : Nat) (u : UrxChain) : (s.setUrx n u).pulses = s.pulses := rfl
@[simp] theorem State.setUrx_calWork (n : Nat) (u : UrxChain) : (s.setUrx n u).calWork = s.calWork := rfl
@[simp] theorem State.setUrx_calTarget (n : Nat) (u : UrxChain) : (s.setUrx n u).calTarget = s.calTarget := rfl
@[simp] theorem State.setUrx_nv (n : Nat) (u : UrxChain) : (s.setUrx n u).nv = s.nv := rfl
@[simp] theorem State.setUrx_coreP (n : Nat) (u : UrxChain) : (s.setUrx n u).coreP = s.coreP := rfl
@[simp] theorem State.setUrx_lum (n : Nat) (u : UrxChain) : (s.setUrx n u).lum = s.lum := rfl
@[simp] theorem State.setUrx_mpt (n : Nat) (u : UrxChain) : (s.setUrx n u).mpt = s.mpt := rfl
@[simp] theorem State.setUrx_grn (n : Nat) (u : UrxChain) : (s.setUrx n u).grn = s.grn := rfl
@[simp] theorem State.setUrx_net (n : Nat) (u : UrxChain) : (s.setUrx n u).net = s.net := rfl
@[simp] theorem State.setUrx_hlk (n : Nat) (u : UrxChain) : (s.setUrx n u).hlk = s.hlk := rfl
@[simp] theorem State.setUrx_age (n : Nat) (u : UrxChain) : (s.setUrx n u).age = s.age := rfl

@[simp] theorem State.setSeq_pending (n : Nat) (q : Seq) : (s.setSeq n q).pending = s.pending := rfl
@[simp] theorem State.setSeq_now (n : Nat) (q : Seq) : (s.setSeq n q).now = s.now := rfl
@[simp] theorem State.setSeq_dsp (n : Nat) (q : Seq) : (s.setSeq n q).dsp = s.dsp := rfl
@[simp] theorem State.setSeq_freeCount (n : Nat) (q : Seq) : (s.setSeq n q).freeCount = s.freeCount := rfl
@[simp] theorem State.setSeq_regs (n : Nat) (q : Seq) : (s.setSeq n q).regs = s.regs := rfl
@[simp] theorem State.setSeq_mem (n : Nat) (q : Seq) : (s.setSeq n q).mem = s.mem := rfl
@[simp] theorem State.setSeq_objs (n : Nat) (q : Seq) : (s.setSeq n q).objs = s.objs := rfl
@[simp] theorem State.setSeq_badVotes (n : Nat) (q : Seq) : (s.setSeq n q).badVotes = s.badVotes := rfl
@[simp] theorem State.setSeq_bus (n : Nat) (q : Seq) : (s.setSeq n q).bus = s.bus := rfl
@[simp] theorem State.setSeq_atb (n : Nat) (q : Seq) : (s.setSeq n q).atb = s.atb := rfl
@[simp] theorem State.setSeq_aev (n : Nat) (q : Seq) : (s.setSeq n q).aev = s.aev := rfl
@[simp] theorem State.setSeq_rge (n : Nat) (q : Seq) : (s.setSeq n q).rge = s.rge := rfl
@[simp] theorem State.setSeq_hfr (n : Nat) (q : Seq) : (s.setSeq n q).hfr = s.hfr := rfl
@[simp] theorem State.setSeq_gl (n : Nat) (q : Seq) : (s.setSeq n q).gl = s.gl := rfl
@[simp] theorem State.setSeq_hft (n : Nat) (q : Seq) : (s.setSeq n q).hft = s.hft := rfl
@[simp] theorem State.setSeq_que (n : Nat) (q : Seq) : (s.setSeq n q).que = s.que := rfl
@[simp] theorem State.setSeq_tmrPre (n : Nat) (q : Seq) : (s.setSeq n q).tmrPre = s.tmrPre := rfl
@[simp] theorem State.setSeq_tmrUnread (n : Nat) (q : Seq) : (s.setSeq n q).tmrUnread = s.tmrUnread := rfl
@[simp] theorem State.setSeq_pulses (n : Nat) (q : Seq) : (s.setSeq n q).pulses = s.pulses := rfl
@[simp] theorem State.setSeq_calWork (n : Nat) (q : Seq) : (s.setSeq n q).calWork = s.calWork := rfl
@[simp] theorem State.setSeq_calTarget (n : Nat) (q : Seq) : (s.setSeq n q).calTarget = s.calTarget := rfl
@[simp] theorem State.setSeq_nv (n : Nat) (q : Seq) : (s.setSeq n q).nv = s.nv := rfl
@[simp] theorem State.setSeq_coreP (n : Nat) (q : Seq) : (s.setSeq n q).coreP = s.coreP := rfl
@[simp] theorem State.setSeq_lum (n : Nat) (q : Seq) : (s.setSeq n q).lum = s.lum := rfl
@[simp] theorem State.setSeq_mpt (n : Nat) (q : Seq) : (s.setSeq n q).mpt = s.mpt := rfl
@[simp] theorem State.setSeq_grn (n : Nat) (q : Seq) : (s.setSeq n q).grn = s.grn := rfl
@[simp] theorem State.setSeq_net (n : Nat) (q : Seq) : (s.setSeq n q).net = s.net := rfl
@[simp] theorem State.setSeq_hlk (n : Nat) (q : Seq) : (s.setSeq n q).hlk = s.hlk := rfl
@[simp] theorem State.setSeq_age (n : Nat) (q : Seq) : (s.setSeq n q).age = s.age := rfl

@[simp] theorem State.setOps_pending (n : Nat) (o : SeqOps) : (s.setOps n o).pending = s.pending := rfl
@[simp] theorem State.setOps_now (n : Nat) (o : SeqOps) : (s.setOps n o).now = s.now := rfl
@[simp] theorem State.setOps_dsp (n : Nat) (o : SeqOps) : (s.setOps n o).dsp = s.dsp := rfl
@[simp] theorem State.setOps_freeCount (n : Nat) (o : SeqOps) : (s.setOps n o).freeCount = s.freeCount := rfl
@[simp] theorem State.setOps_regs (n : Nat) (o : SeqOps) : (s.setOps n o).regs = s.regs := rfl
@[simp] theorem State.setOps_mem (n : Nat) (o : SeqOps) : (s.setOps n o).mem = s.mem := rfl
@[simp] theorem State.setOps_objs (n : Nat) (o : SeqOps) : (s.setOps n o).objs = s.objs := rfl
@[simp] theorem State.setOps_badVotes (n : Nat) (o : SeqOps) : (s.setOps n o).badVotes = s.badVotes := rfl
@[simp] theorem State.setOps_bus (n : Nat) (o : SeqOps) : (s.setOps n o).bus = s.bus := rfl
@[simp] theorem State.setOps_atb (n : Nat) (o : SeqOps) : (s.setOps n o).atb = s.atb := rfl
@[simp] theorem State.setOps_aev (n : Nat) (o : SeqOps) : (s.setOps n o).aev = s.aev := rfl
@[simp] theorem State.setOps_rge (n : Nat) (o : SeqOps) : (s.setOps n o).rge = s.rge := rfl
@[simp] theorem State.setOps_hfr (n : Nat) (o : SeqOps) : (s.setOps n o).hfr = s.hfr := rfl
@[simp] theorem State.setOps_gl (n : Nat) (o : SeqOps) : (s.setOps n o).gl = s.gl := rfl
@[simp] theorem State.setOps_hft (n : Nat) (o : SeqOps) : (s.setOps n o).hft = s.hft := rfl
@[simp] theorem State.setOps_que (n : Nat) (o : SeqOps) : (s.setOps n o).que = s.que := rfl
@[simp] theorem State.setOps_tmrPre (n : Nat) (o : SeqOps) : (s.setOps n o).tmrPre = s.tmrPre := rfl
@[simp] theorem State.setOps_tmrUnread (n : Nat) (o : SeqOps) : (s.setOps n o).tmrUnread = s.tmrUnread := rfl
@[simp] theorem State.setOps_pulses (n : Nat) (o : SeqOps) : (s.setOps n o).pulses = s.pulses := rfl
@[simp] theorem State.setOps_calWork (n : Nat) (o : SeqOps) : (s.setOps n o).calWork = s.calWork := rfl
@[simp] theorem State.setOps_calTarget (n : Nat) (o : SeqOps) : (s.setOps n o).calTarget = s.calTarget := rfl
@[simp] theorem State.setOps_nv (n : Nat) (o : SeqOps) : (s.setOps n o).nv = s.nv := rfl
@[simp] theorem State.setOps_coreP (n : Nat) (o : SeqOps) : (s.setOps n o).coreP = s.coreP := rfl
@[simp] theorem State.setOps_lum (n : Nat) (o : SeqOps) : (s.setOps n o).lum = s.lum := rfl
@[simp] theorem State.setOps_mpt (n : Nat) (o : SeqOps) : (s.setOps n o).mpt = s.mpt := rfl
@[simp] theorem State.setOps_grn (n : Nat) (o : SeqOps) : (s.setOps n o).grn = s.grn := rfl
@[simp] theorem State.setOps_net (n : Nat) (o : SeqOps) : (s.setOps n o).net = s.net := rfl
@[simp] theorem State.setOps_hlk (n : Nat) (o : SeqOps) : (s.setOps n o).hlk = s.hlk := rfl
@[simp] theorem State.setOps_age (n : Nat) (o : SeqOps) : (s.setOps n o).age = s.age := rfl

@[simp] theorem State.setEng_pending (sh : Nat) (e : FrameEng) : (s.setEng sh e).pending = s.pending := rfl
@[simp] theorem State.setEng_now (sh : Nat) (e : FrameEng) : (s.setEng sh e).now = s.now := rfl
@[simp] theorem State.setEng_dsp (sh : Nat) (e : FrameEng) : (s.setEng sh e).dsp = s.dsp := rfl
@[simp] theorem State.setEng_freeCount (sh : Nat) (e : FrameEng) : (s.setEng sh e).freeCount = s.freeCount := rfl
@[simp] theorem State.setEng_regs (sh : Nat) (e : FrameEng) : (s.setEng sh e).regs = s.regs := rfl
@[simp] theorem State.setEng_mem (sh : Nat) (e : FrameEng) : (s.setEng sh e).mem = s.mem := rfl
@[simp] theorem State.setEng_objs (sh : Nat) (e : FrameEng) : (s.setEng sh e).objs = s.objs := rfl
@[simp] theorem State.setEng_badVotes (sh : Nat) (e : FrameEng) : (s.setEng sh e).badVotes = s.badVotes := rfl
@[simp] theorem State.setEng_bus (sh : Nat) (e : FrameEng) : (s.setEng sh e).bus = s.bus := rfl
@[simp] theorem State.setEng_atb (sh : Nat) (e : FrameEng) : (s.setEng sh e).atb = s.atb := rfl
@[simp] theorem State.setEng_aev (sh : Nat) (e : FrameEng) : (s.setEng sh e).aev = s.aev := rfl
@[simp] theorem State.setEng_rge (sh : Nat) (e : FrameEng) : (s.setEng sh e).rge = s.rge := rfl
@[simp] theorem State.setEng_hfr (sh : Nat) (e : FrameEng) : (s.setEng sh e).hfr = s.hfr := rfl
@[simp] theorem State.setEng_gl (sh : Nat) (e : FrameEng) : (s.setEng sh e).gl = s.gl := rfl
@[simp] theorem State.setEng_hft (sh : Nat) (e : FrameEng) : (s.setEng sh e).hft = s.hft := rfl
@[simp] theorem State.setEng_que (sh : Nat) (e : FrameEng) : (s.setEng sh e).que = s.que := rfl
@[simp] theorem State.setEng_tmrPre (sh : Nat) (e : FrameEng) : (s.setEng sh e).tmrPre = s.tmrPre := rfl
@[simp] theorem State.setEng_tmrUnread (sh : Nat) (e : FrameEng) : (s.setEng sh e).tmrUnread = s.tmrUnread := rfl
@[simp] theorem State.setEng_pulses (sh : Nat) (e : FrameEng) : (s.setEng sh e).pulses = s.pulses := rfl
@[simp] theorem State.setEng_calWork (sh : Nat) (e : FrameEng) : (s.setEng sh e).calWork = s.calWork := rfl
@[simp] theorem State.setEng_calTarget (sh : Nat) (e : FrameEng) : (s.setEng sh e).calTarget = s.calTarget := rfl
@[simp] theorem State.setEng_nv (sh : Nat) (e : FrameEng) : (s.setEng sh e).nv = s.nv := rfl
@[simp] theorem State.setEng_coreP (sh : Nat) (e : FrameEng) : (s.setEng sh e).coreP = s.coreP := rfl
@[simp] theorem State.setEng_lum (sh : Nat) (e : FrameEng) : (s.setEng sh e).lum = s.lum := rfl
@[simp] theorem State.setEng_mpt (sh : Nat) (e : FrameEng) : (s.setEng sh e).mpt = s.mpt := rfl
@[simp] theorem State.setEng_grn (sh : Nat) (e : FrameEng) : (s.setEng sh e).grn = s.grn := rfl
@[simp] theorem State.setEng_net (sh : Nat) (e : FrameEng) : (s.setEng sh e).net = s.net := rfl
@[simp] theorem State.setEng_hlk (sh : Nat) (e : FrameEng) : (s.setEng sh e).hlk = s.hlk := rfl
@[simp] theorem State.setEng_age (sh : Nat) (e : FrameEng) : (s.setEng sh e).age = s.age := rfl

@[simp] theorem State.setSheaf_pending (sh : Nat) (x : Sheaf) : (s.setSheaf sh x).pending = s.pending := rfl
@[simp] theorem State.setSheaf_now (sh : Nat) (x : Sheaf) : (s.setSheaf sh x).now = s.now := rfl
@[simp] theorem State.setSheaf_dsp (sh : Nat) (x : Sheaf) : (s.setSheaf sh x).dsp = s.dsp := rfl
@[simp] theorem State.setSheaf_freeCount (sh : Nat) (x : Sheaf) : (s.setSheaf sh x).freeCount = s.freeCount := rfl
@[simp] theorem State.setSheaf_regs (sh : Nat) (x : Sheaf) : (s.setSheaf sh x).regs = s.regs := rfl
@[simp] theorem State.setSheaf_mem (sh : Nat) (x : Sheaf) : (s.setSheaf sh x).mem = s.mem := rfl
@[simp] theorem State.setSheaf_objs (sh : Nat) (x : Sheaf) : (s.setSheaf sh x).objs = s.objs := rfl
@[simp] theorem State.setSheaf_badVotes (sh : Nat) (x : Sheaf) : (s.setSheaf sh x).badVotes = s.badVotes := rfl
@[simp] theorem State.setSheaf_bus (sh : Nat) (x : Sheaf) : (s.setSheaf sh x).bus = s.bus := rfl
@[simp] theorem State.setSheaf_atb (sh : Nat) (x : Sheaf) : (s.setSheaf sh x).atb = s.atb := rfl
@[simp] theorem State.setSheaf_aev (sh : Nat) (x : Sheaf) : (s.setSheaf sh x).aev = s.aev := rfl
@[simp] theorem State.setSheaf_rge (sh : Nat) (x : Sheaf) : (s.setSheaf sh x).rge = s.rge := rfl
@[simp] theorem State.setSheaf_hfr (sh : Nat) (x : Sheaf) : (s.setSheaf sh x).hfr = s.hfr := rfl
@[simp] theorem State.setSheaf_gl (sh : Nat) (x : Sheaf) : (s.setSheaf sh x).gl = s.gl := rfl
@[simp] theorem State.setSheaf_hft (sh : Nat) (x : Sheaf) : (s.setSheaf sh x).hft = s.hft := rfl
@[simp] theorem State.setSheaf_que (sh : Nat) (x : Sheaf) : (s.setSheaf sh x).que = s.que := rfl
@[simp] theorem State.setSheaf_tmrPre (sh : Nat) (x : Sheaf) : (s.setSheaf sh x).tmrPre = s.tmrPre := rfl
@[simp] theorem State.setSheaf_tmrUnread (sh : Nat) (x : Sheaf) : (s.setSheaf sh x).tmrUnread = s.tmrUnread := rfl
@[simp] theorem State.setSheaf_pulses (sh : Nat) (x : Sheaf) : (s.setSheaf sh x).pulses = s.pulses := rfl
@[simp] theorem State.setSheaf_calWork (sh : Nat) (x : Sheaf) : (s.setSheaf sh x).calWork = s.calWork := rfl
@[simp] theorem State.setSheaf_calTarget (sh : Nat) (x : Sheaf) : (s.setSheaf sh x).calTarget = s.calTarget := rfl
@[simp] theorem State.setSheaf_nv (sh : Nat) (x : Sheaf) : (s.setSheaf sh x).nv = s.nv := rfl
@[simp] theorem State.setSheaf_coreP (sh : Nat) (x : Sheaf) : (s.setSheaf sh x).coreP = s.coreP := rfl
@[simp] theorem State.setSheaf_lum (sh : Nat) (x : Sheaf) : (s.setSheaf sh x).lum = s.lum := rfl
@[simp] theorem State.setSheaf_mpt (sh : Nat) (x : Sheaf) : (s.setSheaf sh x).mpt = s.mpt := rfl
@[simp] theorem State.setSheaf_grn (sh : Nat) (x : Sheaf) : (s.setSheaf sh x).grn = s.grn := rfl
@[simp] theorem State.setSheaf_net (sh : Nat) (x : Sheaf) : (s.setSheaf sh x).net = s.net := rfl
@[simp] theorem State.setSheaf_hlk (sh : Nat) (x : Sheaf) : (s.setSheaf sh x).hlk = s.hlk := rfl
@[simp] theorem State.setSheaf_age (sh : Nat) (x : Sheaf) : (s.setSheaf sh x).age = s.age := rfl

/-! ### Register fields after writes -/

/-- A field reads as the value just written to it, cut to its width. -/
@[simp] theorem State.get_set_same (f : Fld) (v n : Nat) : (s.set f v n).get f n = v % 2 ^ f.width := by
  simp [State.get, State.set]

/-- A field under another key reads as before. -/
theorem State.get_set_ne (f g : Fld) (v n k : Nat) (h : g.key k ≠ f.key n) : (s.set f v n).get g k = s.get g k := by
  simp [State.get, State.set, Tab.get_set_ne _ _ _ _ h]

/-- A byte written reads as written. -/
@[simp] theorem State.rd8_wr8_same (a v : Nat) : (s.wr8 a v).rd8 a = v % 256 := by
  simp [State.rd8, State.wr8]

/-- Another byte reads as before. -/
theorem State.rd8_wr8_ne {a b : Nat} (v : Nat) (h : b ≠ a) : (s.wr8 a v).rd8 b = s.rd8 b := by
  simp [State.rd8, State.wr8, Tab.get_set_ne _ _ _ _ h]

/-- Bytes outside a stored block read as before. -/
theorem State.rd8_wrBytes_out (l : List Nat) (a b : Nat) (h : ¬(a ≤ b ∧ b < a + l.length)) :
    (s.wrBytes a l).rd8 b = s.rd8 b := by
  induction l generalizing s a with
  | nil => rfl
  | cons x r ih =>
    simp only [List.length_cons] at h
    rw [State.wrBytes, ih _ _ (by omega), State.rd8_wr8_ne _ _ (by omega)]

@[simp] theorem State.wrBytes_regs (l : List Nat) (a : Nat) : (s.wrBytes a l).regs = s.regs := by
  induction l generalizing s a with
  | nil => rfl
  | cons x r ih => rw [State.wrBytes, ih]; rfl

/-- A register write changes the register file alone. -/
theorem State.set_bare (f : Fld) (v n : Nat) : ({ s.set f v n with regs := [] } : State) = { s with regs := [] } := rfl

/-- The general register written reads as written, modulo nothing: `seqAt` after `setSeq`. -/
@[simp] theorem State.seqAt_setSeq_same (n : Nat) (q : Seq) : (s.setSeq n q).seqAt n = q := by
  simp [State.seqAt, State.setSeq]

theorem State.seqAt_setSeq_ne (n k : Nat) (q : Seq) (h : k ≠ n) : (s.setSeq n q).seqAt k = s.seqAt k := by
  simp [State.seqAt, State.setSeq, Tab.get_set_ne _ _ _ _ h]

@[simp] theorem State.opsAt_setOps_same (n : Nat) (o : SeqOps) : (s.setOps n o).opsAt n = o := by
  simp [State.opsAt, State.setOps]

@[simp] theorem State.utxAt_setUtx_same (n : Nat) (u : UtxChain) : (s.setUtx n u).utxAt n = u := by
  simp [State.utxAt, State.setUtx]

@[simp] theorem State.synthAt_setSynth_same (n : Nat) (y : Synth) : (s.setSynth n y).synthAt n = y := by
  simp [State.synthAt, State.setSynth]

@[simp] theorem State.urxAt_setUrx_same (n : Nat) (u : UrxChain) : (s.setUrx n u).urxAt n = u := by
  simp [State.urxAt, State.setUrx]

@[simp] theorem State.engAt_setEng_same (sh : Nat) (e : FrameEng) : (s.setEng sh e).engAt sh = e := by
  simp [State.engAt, State.setEng]

@[simp] theorem State.sheafAt_setSheaf_same (sh : Nat) (x : Sheaf) : (s.setSheaf sh x).sheafAt sh = x := by
  simp [State.sheafAt, State.setSheaf]

/-- What reads a sequencer's own state does not see a register write. -/
@[simp] theorem State.seqAt_set (f : Fld) (v n k : Nat) : (s.set f v n).seqAt k = s.seqAt k := rfl

@[simp] theorem State.opsAt_set (f : Fld) (v n k : Nat) : (s.set f v n).opsAt k = s.opsAt k := rfl

@[simp] theorem State.utxAt_set (f : Fld) (v n k : Nat) : (s.set f v n).utxAt k = s.utxAt k := rfl

@[simp] theorem State.synthAt_set (f : Fld) (v n k : Nat) : (s.set f v n).synthAt k = s.synthAt k := rfl

@[simp] theorem State.get_setSeq (f : Fld) (n k : Nat) (q : Seq) : (s.setSeq n q).get f k = s.get f k := rfl

@[simp] theorem State.get_setOps (f : Fld) (n k : Nat) (o : SeqOps) : (s.setOps n o).get f k = s.get f k := rfl

@[simp] theorem State.get_setUtx (f : Fld) (n k : Nat) (u : UtxChain) : (s.setUtx n u).get f k = s.get f k := rfl

@[simp] theorem State.get_updAtb (f : Fld) (k : Nat) (g : Atb → Atb) : (s.updAtb g).get f k = s.get f k := rfl

end Sys2Proof.Machine
end

