-- ==== Sys2Proof/Laws/Fold.lean ====
section
/-! SUPPORT. What the repeated operations do: a property that every turn keeps, and what one turn brings about and the later ones
keep. -/

namespace Sys2Proof.Machine

open Sys2Proof

/-- A property that every turn keeps holds at the end. -/
theorem State.forL_keep {α : Type} (P : State → Prop) (g : α → State → State) (l : List α) (s : State) (h0 : P s)
    (h : ∀ i ∈ l, ∀ t, P t → P (g i t)) : P (s.forL l g) := by
  induction l generalizing s with
  | nil => exact h0
  | cons a r ih => exact ih (g a s) (h a (by simp) s h0) fun i hi => h i (by simp [hi])

/-- What turn `i` brings about from `P`, which the turns before it keep, holds at the end where the turns after it keep it. -/
theorem State.forL_hit {α : Type} (P Q : State → Prop) (g : α → State → State) (l : List α) (i : α) (s : State) (hi : i ∈ l)
    (h0 : P s) (hp : ∀ j ∈ l, ∀ t, P t → P (g j t)) (hpq : ∀ t, P t → Q (g i t)) (hq : ∀ j ∈ l, ∀ t, Q t → Q (g j t)) :
    Q (s.forL l g) := by
  induction l generalizing s with
  | nil => simp at hi
  | cons a r ih =>
    rcases List.mem_cons.1 hi with rfl | hr
    · exact State.forL_keep Q g r (g i s) (hpq s h0) fun j hj => hq j (by simp [hj])
    · exact ih (g a s) hr (hp a (by simp) s h0) (fun j hj => hp j (by simp [hj])) fun j hj => hq j (by simp [hj])

/-- The repetition by number is the repetition over the numbers below. -/
theorem State.forN_eq (s : State) (k : Nat) (g : Nat → State → State) : s.forN k g = s.forL (List.range k) g := rfl

/-- A property that every turn keeps holds at the end. -/
theorem State.forN_keep (P : State → Prop) (g : Nat → State → State) (k : Nat) (s : State) (h0 : P s)
    (h : ∀ i, i < k → ∀ t, P t → P (g i t)) : P (s.forN k g) := by
  rw [State.forN_eq]; exact State.forL_keep P g _ s h0 fun i hi => h i (List.mem_range.1 hi)

/-- What turn `i` brings about from `P`, which the other turns keep, holds at the end where the other turns keep it. -/
theorem State.forN_hit (P Q : State → Prop) (g : Nat → State → State) (k i : Nat) (s : State) (hi : i < k)
    (h0 : P s) (hp : ∀ j, j < k → ∀ t, P t → P (g j t)) (hpq : ∀ t, P t → Q (g i t))
    (hq : ∀ j, j < k → ∀ t, Q t → Q (g j t)) : Q (s.forN k g) := by
  rw [State.forN_eq]
  exact State.forL_hit P Q g _ i s (List.mem_range.2 hi) h0 (fun j hj => hp j (List.mem_range.1 hj)) hpq
    fun j hj => hq j (List.mem_range.1 hj)

/-- Which numbers the set bits of a mask are. -/
theorem mem_setBits (w mask k : Nat) : k ∈ setBits w mask ↔ k < w ∧ bitOf mask k = true := by
  simp [setBits]

/-- A field under another instance or of another register reads as before. -/
theorem State.get_setBit_ne (s : State) (f g : Fld) (b : Bool) (j n k : Nat) (h : g.key k ≠ f.key n) :
    (s.setBit f j b n).get g k = s.get g k := State.get_set_ne s f g _ n k h

/-- A bit of a field within its width. -/
theorem bitOf_lt (v k w : Nat) (h : v < 2 ^ w) (hk : w ≤ k) : bitOf v k = false := by
  have : v / 2 ^ k = 0 := Nat.div_eq_of_lt (lt_of_lt_of_le h (Nat.pow_le_pow_right (by decide) hk))
  simp [bitOf, this]

/-- A counter below its ceiling advances by the step, and nothing but it changes (R446). -/
theorem State.bump_below (s : State) (c f : Fld) (n k : Nat) (h : s.get c n + k ≤ 0xFFFFFFFF) :
    s.bump c f n k = s.set c (s.get c n + k) n := by simp [State.bump, h]

/-- A counter that would pass its ceiling stands at it, SAT set (R446). -/
theorem State.bump_over (s : State) (c f : Fld) (n k : Nat) (h : 0xFFFFFFFF < s.get c n + k) :
    s.bump c f n k = (s.set c 0xFFFFFFFF n).set f 1 n := by
  have : ¬ s.get c n + k ≤ 0xFFFFFFFF := by omega
  simp [State.bump, this]

end Sys2Proof.Machine
end

