-- ==== Sys2Proof/Laws/Gcm.lean ====
section
/-! SUPPORT. What GCM opens is what it sealed: the lengths of the cipher's blocks, and the round trip of a payload. -/

namespace Sys2Proof.Machine

theorem xorBytes_length (a b : List Nat) : (xorBytes a b).length = min a.length b.length := by simp [xorBytes]

theorem xorBytes_twice (p k : List Nat) (h : p.length ≤ k.length) : xorBytes (xorBytes p k) k = p := by
  induction p generalizing k with
  | nil => rfl
  | cons x p ih =>
    cases k with
    | nil => simp at h
    | cons y k =>
      have := ih k (by simpa using h)
      simp only [xorBytes, List.zipWith_cons_cons] at this ⊢
      rw [this]
      congr 1
      exact Nat.xor_xor_cancel_right x y

theorem aesShift_length (inv : Bool) (b : List Nat) : (aesShift inv b).length = 16 := by simp [aesShift]

theorem aesMix_length (m b : List Nat) : (aesMix m b).length = 16 := by simp [aesMix, aesMixCol, List.length_flatMap]

/-- A block comes out with 16 bytes under round keys of 16 bytes. -/
theorem aesEnc_length (key block : List Nat) (h : 2 ≤ (aesKeys key).length) (hk : ∀ k ∈ aesKeys key, k.length = 16) :
    (aesEnc key block).length = 16 := by
  unfold aesEnc
  generalize aesKeys key = l at h hk
  match l with
  | [] => simp at h
  | [_] => simp at h
  | k0 :: k1 :: ks =>
    have fold : ∀ (l : List (List Nat × Nat)) (b : List Nat) (last : Nat), (∀ k ∈ l, k.1.length = 16) →
        (l ≠ [] ∨ b.length = 16) → (l.foldl (fun b k =>
          xorBytes (if k.2 == last then aesShift false (b.map aesSub) else aesMix [2, 3, 1, 1] (aesShift false (b.map aesSub))) k.1)
          b).length = 16 := by
      intro l
      induction l with
      | nil => intro b _ _ hb; simpa using hb
      | cons x r ih =>
        intro b last hl _
        refine ih _ last (fun k m => hl k (List.mem_cons_of_mem _ m)) (.inr ?_)
        rw [xorBytes_length, hl x List.mem_cons_self]
        split <;> simp [aesShift_length, aesMix_length]
    refine fold _ _ _ (fun k m => ?_) (.inl (by simp))
    obtain ⟨n, hn⟩ := List.mem_iff_getElem?.mp m
    have := (List.mem_zipIdx' m).2
    exact hk _ (List.mem_cons_of_mem _ (this ▸ List.getElem_mem _))

theorem toBe_length (n v : Nat) : (toBe n v).length = n := by simp [toBe, toLe]

theorem gcmTag_length (key nonce aad c : List Nat) (h : ∀ b, (aesEnc key b).length = 16) : (gcmTag key nonce aad c).length = 16 := by
  simp [gcmTag, xorBytes_length, toBe_length, h]

theorem gcmStream_length (key nonce : List Nat) (n : Nat) (h : ∀ b, (aesEnc key b).length = 16) :
    n ≤ (gcmStream key nonce n).length := by
  simp only [gcmStream, List.length_flatMap, h, List.map_const', List.length_range, List.sum_replicate_nat]
  omega

theorem gcmSeal_length (key nonce aad p : List Nat) (h : ∀ b, (aesEnc key b).length = 16) :
    (gcmSeal key nonce aad p).length = p.length + 16 := by
  have := gcmStream_length key nonce p.length h
  simp [gcmSeal, xorBytes_length, gcmTag_length _ _ _ _ h, this]

/-- What was sealed opens to the payload. -/
theorem gcmOpen_gcmSeal (key nonce aad p : List Nat) (h : ∀ b, (aesEnc key b).length = 16) :
    gcmOpen key nonce aad (gcmSeal key nonce aad p) = some p := by
  have hs := gcmStream_length key nonce p.length h
  have hc : (xorBytes p (gcmStream key nonce p.length)).length = p.length := by simp [xorBytes_length, hs]
  simp only [gcmOpen, gcmSeal_length _ _ _ _ h, Nat.add_sub_cancel]
  simp only [gcmSeal, List.take_append, List.drop_append, hc, Nat.sub_self, List.take_zero, List.append_nil,
    List.take_of_length_le (Nat.le_of_eq hc), List.drop_of_length_le (Nat.le_of_eq hc), List.drop_zero, List.nil_append]
  simp [xorBytes_twice _ _ hs]

end Sys2Proof.Machine
end

