-- ==== Sys2Proof/Laws/Keep.lean ====
section
/-! SUPPORT. What every operation of the model keeps: a mark on a state, and the rules by which operations are put together. -/

namespace Sys2Proof.Machine

open Sys2Proof

/-- A mark: the queue, the time and the number of open values drawn, as some command found them. -/
structure Mark where
  queue : List Instr
  time : Nat
  draws : Nat

/-- A state keeps a mark: same queue, same time, no draw taken back, the memory in canonical form, the register file's keys
strictly rising. -/
structure Mark.ok (w : Mark) (s : State) : Prop where
  pending : s.pending = w.queue
  now : s.now = w.time
  draws : w.draws ≤ s.freeCount
  mem : Tab.wf 0 s.mem = true
  regs : Tab.rising s.regs = true

/-- The state that an outcome leads to keeps the mark. -/
structure Mark.okOut (w : Mark) (o : Out) : Prop where
  all : ∀ t, o = .next t → w.ok t

/-- The state that an optional result holds keeps the mark. -/
structure Mark.okOpt (w : Mark) (o : Option State) : Prop where
  all : ∀ t, o = some t → w.ok t

/-- The state on either side of a result keeps the mark. -/
structure Mark.okSum (w : Mark) (r : (Nat × State) ⊕ State) : Prop where
  left : ∀ p, r = .inl p → w.ok p.2
  right : ∀ t, r = .inr t → w.ok t

variable {w : Mark} {s t : State}

theorem Keep.mk {a1 a2 a3 a4 a5 a6 a7 a8 a9 a10 a11 a12 a13 a14 a15 a16 a17 a18 a19 a20 a21 a22 a23 a24 a25} (h : w.ok s) :
    w.ok (State.mk s.pending s.now a1 s.freeCount s.regs s.mem a2 a3 a4 a5 a6 a7 a8 a9 a10 a11 a12 a13 a14 a15 a16 a17 a18 a19
      a20 a21 a22 a23 a24 a25) := ⟨h.1, h.2, h.3, h.4, h.5⟩

theorem Keep.mkMem {a1 a2 a3 a4 a5 a6 a7 a8 a9 a10 a11 a12 a13 a14 a15 a16 a17 a18 a19 a20 a21 a22 a23 a24 a25} {p : Nat → Bool}
    (h : w.ok s) : w.ok (State.mk s.pending s.now a1 s.freeCount s.regs (Tab.clear p s.mem) a2 a3 a4 a5 a6 a7 a8 a9 a10 a11 a12 a13 a14 a15 a16 a17 a18
      a19 a20 a21 a22 a23 a24 a25) :=
  ⟨h.1, h.2, h.3, Tab.wf_clear _ _ _ h.4, h.5⟩

theorem Keep.mkRegs {a1 a2 a3 a4 a5 a6 a7 a8 a9 a10 a11 a12 a13 a14 a15 a16 a17 a18 a19 a20 a21 a22 a23 a24 a25} {p : Nat → Bool}
    (h : w.ok s) : w.ok (State.mk s.pending s.now a1 s.freeCount (Tab.clear p s.regs) s.mem a2 a3 a4 a5 a6 a7 a8 a9 a10 a11 a12 a13 a14 a15 a16 a17 a18
      a19 a20 a21 a22 a23 a24 a25) :=
  ⟨h.1, h.2, h.3, h.4, Tab.rising_clear _ _ h.5⟩

theorem Keep.mkRegsFilter {a1 a2 a3 a4 a5 a6 a7 a8 a9 a10 a11 a12 a13 a14 a15 a16 a17 a18 a19 a20 a21 a22 a23 a24 a25}
    {p : Nat × Nat → Bool} (h : w.ok s) : w.ok (State.mk s.pending s.now a1 s.freeCount (s.regs.filter p) s.mem a2 a3 a4 a5 a6 a7 a8 a9 a10 a11 a12 a13 a14 a15 a16 a17 a18
      a19 a20 a21 a22 a23 a24 a25) :=
  ⟨h.1, h.2, h.3, h.4, Tab.rising_filter _ _ h.5⟩

theorem Keep.mkReset {a1 a2 a3 a4 a5 a6 a7 a8 a9 a10 a11 a12 a13 a14 a15 a16 a17 a18 a19 a20 a21 a22 a23 a24 a25} {p : Nat → Bool}
    (h : w.ok s) : w.ok (State.mk s.pending s.now a1 s.freeCount State.reset.regs (Tab.clear p s.mem) a2 a3 a4 a5 a6 a7 a8 a9 a10 a11 a12 a13 a14 a15 a16 a17 a18
      a19 a20 a21 a22 a23 a24 a25) :=
  ⟨h.1, h.2, h.3, Tab.wf_clear _ _ _ h.4, rfl⟩

theorem Keep.next (h : w.ok s) : w.okOut (.next s) := ⟨by rintro t ⟨⟩; exact h⟩

theorem Keep.refused {r : Refusal} : w.okOut (.refused r) := ⟨by rintro t ⟨⟩⟩

theorem Keep.ite {c : Prop} [Decidable c] (h1 : w.ok s) (h2 : w.ok t) : w.ok (if c then s else t) := by
  split <;> assumption

theorem Keep.iteO {c : Prop} [Decidable c] {a b : Out} (h1 : w.okOut a) (h2 : w.okOut b) :
    w.okOut (if c then a else b) := by
  split <;> assumption

theorem Keep.optNone : w.okOpt none := ⟨by rintro t ⟨⟩⟩

theorem Keep.optSome (h : w.ok s) : w.okOpt (Option.some s) := ⟨by rintro t ⟨⟩; exact h⟩

theorem Keep.inl {k : Nat} (h : w.ok s) : w.okSum (.inl (k, s)) := ⟨by rintro p ⟨⟩; exact h, by rintro p ⟨⟩⟩

theorem Keep.inr (h : w.ok s) : w.okSum (.inr s) := ⟨by rintro p ⟨⟩, by rintro p ⟨⟩; exact h⟩

theorem Keep.iteS {c : Prop} [Decidable c] {a b : (Nat × State) ⊕ State} (h1 : w.okSum a) (h2 : w.okSum b) :
    w.okSum (if c then a else b) := by
  split <;> assumption

theorem Keep.iteP {α : Type} {c : Prop} [Decidable c] {a b : α × State} (h1 : w.ok a.2) (h2 : w.ok b.2) :
    w.ok (if c then a else b).2 := by
  split <;> assumption

theorem Keep.iteOpt {c : Prop} [Decidable c] {a b : Option State} (h1 : w.okOpt a) (h2 : w.okOpt b) :
    w.okOpt (if c then a else b) := by
  split <;> assumption

theorem Keep.orElse {a b : Option State} (h1 : w.okOpt a) (h2 : w.okOpt b) : w.okOpt (a <|> b) := by
  cases a with
  | none => simpa using h2
  | some x => simpa using h1

theorem Keep.map {α : Type} {o : Option α} {g : α → State} (h : ∀ n, w.ok (g n)) : w.okOpt (o.map g) := by
  cases o with
  | none => exact ⟨by rintro t ⟨⟩⟩
  | some n => exact ⟨by rintro t ⟨⟩; exact h n⟩

theorem Keep.getD {o : Option State} (h1 : w.okOpt o) (h2 : w.ok s) : w.ok (o.getD s) := by
  cases o with
  | none => exact h2
  | some x => exact h1.all x rfl

theorem Keep.fromSome {o : Option State} (e : o = Option.some t) (h : w.okOpt o) : w.ok t := h.all t e

theorem Keep.fromInl {r : (Nat × State) ⊕ State} {k : Nat} (e : r = .inl (k, t)) (h : w.okSum r) : w.ok t := h.left _ e

theorem Keep.fromInr {r : (Nat × State) ⊕ State} (e : r = .inr t) (h : w.okSum r) : w.ok t := h.right t e

theorem Keep.fromPair {α : Type} {r : α × State} {a : α} (e : r = (a, t)) (h : w.ok r.2) : w.ok t := by
  rw [e] at h
  exact h

theorem Keep.fromPair1 {α : Type} {r : State × α} {a : α} (e : r = (t, a)) (h : w.ok r.1) : w.ok t := by
  rw [e] at h
  exact h

theorem Keep.after {o : Out} (h1 : w.okOut o) (h2 : w.ok s) : w.ok (o.after s) := by
  unfold Out.after
  split
  · exact h1.all _ rfl
  · exact h2

theorem Keep.when {c : Bool} {g : State → State} (h : w.ok s) (hg : ∀ t, w.ok t → w.ok (g t)) : w.ok (s.when c g) := by
  unfold State.when
  split
  · exact hg s h
  · exact h

theorem Keep.foldl {α : Type} {g : State → α → State} {l : List α} (h : w.ok s) (hg : ∀ t i, w.ok t → w.ok (g t i)) :
    w.ok (l.foldl g s) := by
  induction l generalizing s with
  | nil => exact h
  | cons i r ih => exact ih (hg s i h)

theorem Keep.forN {k : Nat} {g : Nat → State → State} (h : w.ok s) (hg : ∀ i t, w.ok t → w.ok (g i t)) :
    w.ok (s.forN k g) := Keep.foldl h fun t i => hg i t

theorem Keep.forL {α : Type} {l : List α} {g : α → State → State} (h : w.ok s) (hg : ∀ i t, w.ok t → w.ok (g i t)) :
    w.ok (s.forL l g) := Keep.foldl h fun t i => hg i t

theorem Keep.set {f : Fld} {v n : Nat} (h : w.ok s) : w.ok (s.set f v n) :=
  ⟨h.1, h.2, h.3, h.4, Tab.rising_set _ _ _ _ h.5⟩

theorem Keep.wr8 {a v : Nat} (h : w.ok s) : w.ok (s.wr8 a v) := ⟨h.1, h.2, h.3, Tab.wf_set _ _ _ _ h.4, h.5⟩

theorem Keep.wrBytes {a : Nat} {b : List Nat} (h : w.ok s) : w.ok (s.wrBytes a b) := by
  induction b generalizing s a with
  | nil => exact h
  | cons x r ih => exact ih (Keep.wr8 h)

theorem Keep.memClear {p : Nat → Bool} (h : w.ok s) : w.ok { s with mem := Tab.clear p s.mem } :=
  ⟨h.1, h.2, h.3, Tab.wf_clear _ _ _ h.4, h.5⟩

theorem Keep.wipe {lo hi : Nat} (h : w.ok s) : w.ok (s.wipe lo hi) := Keep.memClear h

theorem Keep.fresh (h : w.ok s) : w.ok s.fresh.2 := ⟨h.1, h.2, Nat.le_succ_of_le h.3, h.4, h.5⟩

theorem Keep.freshL {k m : Nat} (h : w.ok s) : w.ok (s.freshL k m).2 :=
  ⟨h.1, h.2, Nat.le_trans h.3 (Nat.le_add_right _ _), h.4, h.5⟩

end Sys2Proof.Machine
end

