-- ==== Sys2Proof/Laws/KeepOps.lean ====
section
/-! SUPPORT. What the operations of Machine/Ops.lean keep of a mark. -/

namespace Sys2Proof.Machine

open Sys2Proof

set_option linter.unreachableTactic false
set_option linter.unusedTactic false

theorem Keep.State_setBit {μ : Mark} (s : State) (f : Fld) (k : Nat) (b : Bool) (n : Nat) (h_s : μ.ok s) : μ.ok (State.setBit s f k b n) := by
  unfold State.setBit
  try dsimp only
  repeat' (first | with_reducible assumption | with_reducible apply Keep.set | with_reducible apply Keep.ite)

theorem Keep.State_bump {μ : Mark} (s : State) (cnt sat : Fld) (n : Nat) (k : Nat) (h_s : μ.ok s) : μ.ok (State.bump s cnt sat n k) := by
  unfold State.bump
  try dsimp only
  repeat' (first | with_reducible assumption | with_reducible apply Keep.set | with_reducible apply Keep.ite)

theorem Keep.State_bumpG {μ : Mark} (s : State) (cnt : Fld) (n : Nat) (sat : Fld) (m : Nat) (k : Nat) (h_s : μ.ok s) : μ.ok (State.bumpG s cnt n sat m k) := by
  unfold State.bumpG
  try dsimp only
  repeat' (first | with_reducible assumption | with_reducible apply Keep.set | with_reducible apply Keep.ite)

theorem Keep.State_wr32 {μ : Mark} (s : State) (a v : Nat) (h_s : μ.ok s) : μ.ok (State.wr32 s a v) := by
  unfold State.wr32
  try dsimp only
  repeat' (first | with_reducible assumption | with_reducible apply Keep.wrBytes | with_reducible apply Keep.ite)

theorem Keep.State_setObj {μ : Mark} (s : State) (index sub : Nat) (v : List Nat) (h_s : μ.ok s) : μ.ok (State.setObj s index sub v) := by
  unfold State.setObj
  try dsimp only
  repeat' (first | with_reducible assumption | with_reducible apply Keep.set | with_reducible apply Keep.ite | with_reducible apply Keep.mk)

theorem Keep.State_clearObj {μ : Mark} (s : State) (index sub : Nat) (h_s : μ.ok s) : μ.ok (State.clearObj s index sub) := by
  unfold State.clearObj
  try dsimp only
  repeat' (first | with_reducible assumption | with_reducible apply Keep.set | with_reducible apply Keep.ite | with_reducible apply Keep.mk)

theorem Keep.State_faultLog {μ : Mark} (s : State) (base cap code inst data : Nat) (h_s : μ.ok s) : μ.ok (State.faultLog s base cap code inst data) := by
  unfold State.faultLog
  try dsimp only
  repeat' (first | with_reducible assumption | with_reducible apply Keep.wrBytes | with_reducible apply Keep.State_wr32 | with_reducible apply Keep.ite | with_reducible apply Keep.iteP)

theorem Keep.State_logHW {μ : Mark} (s : State) (code inst data : Nat) (h_s : μ.ok s) : μ.ok (State.logHW s code inst data) := by
  unfold State.logHW
  try dsimp only
  repeat' (first | with_reducible assumption | with_reducible apply Keep.State_faultLog | with_reducible apply Keep.ite)

theorem Keep.State_logP {μ : Mark} (s : State) (code inst data : Nat) (h_s : μ.ok s) : μ.ok (State.logP s code inst data) := by
  unfold State.logP
  try dsimp only
  repeat' (first | with_reducible assumption | with_reducible apply Keep.State_faultLog | with_reducible apply Keep.ite)

theorem Keep.State_logA {μ : Mark} (s : State) (code inst data : Nat) (h_s : μ.ok s) : μ.ok (State.logA s code inst data) := by
  unfold State.logA
  try dsimp only
  repeat' (first | with_reducible assumption | with_reducible apply Keep.State_faultLog | with_reducible apply Keep.ite)

theorem Keep.State_wakeP {μ : Mark} (s : State) (input : Nat) (h_s : μ.ok s) : μ.ok (State.wakeP s input) := by
  unfold State.wakeP
  try dsimp only
  repeat' (first | with_reducible assumption | with_reducible apply Keep.State_setBit | with_reducible apply Keep.ite)

theorem Keep.State_sourceEvent {μ : Mark} (s : State) (k : Nat) (h_s : μ.ok s) : μ.ok (State.sourceEvent s k) := by
  unfold State.sourceEvent
  try dsimp only
  repeat' (first | with_reducible assumption | with_reducible apply Keep.ite | with_reducible apply Keep.mk)

theorem Keep.State_busError {μ : Mark} (s : State) (a init : Nat) (write denied : Bool) (h_s : μ.ok s) : μ.ok (State.busError s a init write denied) := by
  unfold State.busError
  try dsimp only
  repeat' (first | with_reducible assumption | with_reducible apply Keep.set | with_reducible apply Keep.State_bump | with_reducible apply Keep.State_logHW | with_reducible apply Keep.ite | with_reducible apply Keep.mk)

theorem Keep.State_pulse {μ : Mark} (s : State) (pin : Nat) (h_s : μ.ok s) : μ.ok (State.pulse s pin) := by
  unfold State.pulse
  try dsimp only
  repeat' (first | with_reducible assumption | with_reducible apply Keep.set | with_reducible apply Keep.ite | with_reducible apply Keep.mk)

theorem Keep.State_respond {μ : Mark} (s : State) (v : Nat) (err : Bool) (h_s : μ.ok s) : μ.ok (State.respond s v err) := by
  unfold State.respond
  try dsimp only
  repeat' (first | with_reducible assumption | with_reducible apply Keep.ite | with_reducible apply Keep.mk)

end Sys2Proof.Machine
end

