-- ==== Sys2Proof/Laws/KeepLscOps.lean ====
section
/-! SUPPORT. What the operations of Machine/LscOps.lean keep of a mark. -/

namespace Sys2Proof.Machine

open Sys2Proof

set_option linter.unreachableTactic false
set_option linter.unusedTactic false

theorem Keep.State_setSeq {μ : Mark} (s : State) (n : Nat) (q : Seq) (h_s : μ.ok s) : μ.ok (State.setSeq s n q) := by
  unfold State.setSeq
  try dsimp only
  repeat' (first | with_reducible assumption | with_reducible apply Keep.set | with_reducible apply Keep.ite | with_reducible apply Keep.mk)

theorem Keep.State_setOps {μ : Mark} (s : State) (n : Nat) (o : SeqOps) (h_s : μ.ok s) : μ.ok (State.setOps s n o) := by
  unfold State.setOps
  try dsimp only
  repeat' (first | with_reducible assumption | with_reducible apply Keep.set | with_reducible apply Keep.ite | with_reducible apply Keep.mk)

theorem Keep.State_setEng {μ : Mark} (s : State) (sh : Nat) (e : FrameEng) (h_s : μ.ok s) : μ.ok (State.setEng s sh e) := by
  unfold State.setEng
  try dsimp only
  repeat' (first | with_reducible assumption | with_reducible apply Keep.set | with_reducible apply Keep.ite | with_reducible apply Keep.mk)

theorem Keep.State_setSheaf {μ : Mark} (s : State) (sh : Nat) (x : Sheaf) (h_s : μ.ok s) : μ.ok (State.setSheaf s sh x) := by
  unfold State.setSheaf
  try dsimp only
  repeat' (first | with_reducible assumption | with_reducible apply Keep.set | with_reducible apply Keep.ite | with_reducible apply Keep.mk)

theorem Keep.State_seqEvent {μ : Mark} (s : State) (n ev : Nat) (h_s : μ.ok s) : μ.ok (State.seqEvent s n ev) := by
  unfold State.seqEvent
  try dsimp only
  repeat' (first | with_reducible assumption | with_reducible apply Keep.State_setBit | with_reducible apply Keep.ite)

theorem Keep.State_freshPar {μ : Mark} (s : State) (a len : Nat) (h_s : μ.ok s) : μ.ok (State.freshPar s a len) := by
  unfold State.freshPar
  try dsimp only
  repeat' (first | with_reducible assumption | intro _ | with_reducible apply Keep.ite | with_reducible apply Keep.mk)

theorem Keep.State_sheafEvent {μ : Mark} (s : State) (sh ev : Nat) (h_s : μ.ok s) : μ.ok (State.sheafEvent s sh ev) := by
  unfold State.sheafEvent
  try dsimp only
  repeat' (first | with_reducible assumption | with_reducible apply Keep.State_seqEvent | with_reducible apply Keep.ite | split | with_reducible refine Keep.fromSome (by with_reducible assumption) ?_ | with_reducible refine Keep.fromInr (by with_reducible assumption) ?_ | with_reducible refine Keep.fromInl (by with_reducible assumption) ?_ | with_reducible refine Keep.fromPair (by with_reducible assumption) ?_ | with_reducible refine Keep.fromPair1 (by with_reducible assumption) ?_)

theorem Keep.State_rqsAnswer {μ : Mark} (s : State) (n ch err : Nat) (h_s : μ.ok s) : μ.ok (State.rqsAnswer s n ch err) := by
  unfold State.rqsAnswer
  try dsimp only
  repeat' (first | with_reducible assumption | with_reducible apply Keep.State_setOps | with_reducible apply Keep.State_seqEvent | with_reducible apply Keep.ite | split | with_reducible refine Keep.fromSome (by with_reducible assumption) ?_ | with_reducible refine Keep.fromInr (by with_reducible assumption) ?_ | with_reducible refine Keep.fromInl (by with_reducible assumption) ?_ | with_reducible refine Keep.fromPair (by with_reducible assumption) ?_ | with_reducible refine Keep.fromPair1 (by with_reducible assumption) ?_ | with_reducible apply Keep.mk)

theorem Keep.State_lockAnswer {μ : Mark} (s : State) (m err : Nat) (h_s : μ.ok s) : μ.ok (State.lockAnswer s m err) := by
  unfold State.lockAnswer
  try dsimp only
  repeat' (first | with_reducible assumption | intro _ | with_reducible apply Keep.forN | with_reducible apply Keep.State_setOps | with_reducible apply Keep.State_seqEvent | with_reducible apply Keep.ite | split | with_reducible refine Keep.fromSome (by with_reducible assumption) ?_ | with_reducible refine Keep.fromInr (by with_reducible assumption) ?_ | with_reducible refine Keep.fromInl (by with_reducible assumption) ?_ | with_reducible refine Keep.fromPair (by with_reducible assumption) ?_ | with_reducible refine Keep.fromPair1 (by with_reducible assumption) ?_ | with_reducible apply Keep.mk)

theorem Keep.State_seqReset {μ : Mark} (s : State) (n : Nat) (h_s : μ.ok s) : μ.ok (State.seqReset s n) := by
  unfold State.seqReset
  try dsimp only
  repeat' (first | with_reducible assumption | with_reducible apply Keep.set | with_reducible apply Keep.State_setSeq | with_reducible apply Keep.State_setOps | with_reducible apply Keep.ite | with_reducible apply Keep.mk)

end Sys2Proof.Machine
end

