-- ==== Sys2Proof/Laws/KeepPa.lean ====
section
/-! SUPPORT. What the operations of Machine/Pa.lean keep of a mark. -/

namespace Sys2Proof.Machine

open Sys2Proof

set_option linter.unreachableTactic false
set_option linter.unusedTactic false

theorem Keep.State_setUtx {μ : Mark} (s : State) (n : Nat) (u : UtxChain) (h_s : μ.ok s) : μ.ok (State.setUtx s n u) := by
  unfold State.setUtx
  try dsimp only
  repeat' (first | with_reducible assumption | with_reducible apply Keep.set | with_reducible apply Keep.ite | with_reducible apply Keep.mk)

theorem Keep.State_setSynth {μ : Mark} (s : State) (n : Nat) (y : Synth) (h_s : μ.ok s) : μ.ok (State.setSynth s n y) := by
  unfold State.setSynth
  try dsimp only
  repeat' (first | with_reducible assumption | with_reducible apply Keep.set | with_reducible apply Keep.ite | with_reducible apply Keep.mk)

theorem Keep.State_setUrx {μ : Mark} (s : State) (ch : Nat) (u : UrxChain) (h_s : μ.ok s) : μ.ok (State.setUrx s ch u) := by
  unfold State.setUrx
  try dsimp only
  repeat' (first | with_reducible assumption | with_reducible apply Keep.set | with_reducible apply Keep.ite | with_reducible apply Keep.mk)

theorem Keep.State_setCal {μ : Mark} (s : State) (off : Nat) (b : List Nat) (h_s : μ.ok s) : μ.ok (State.setCal s off b) := by
  induction b generalizing off s with
  | nil =>
    unfold State.setCal
    repeat' (first | with_reducible assumption | with_reducible apply Keep.set | with_reducible apply Keep.ite | split | with_reducible refine Keep.fromSome (by with_reducible assumption) ?_ | with_reducible refine Keep.fromInr (by with_reducible assumption) ?_ | with_reducible refine Keep.fromInl (by with_reducible assumption) ?_ | with_reducible refine Keep.fromPair (by with_reducible assumption) ?_ | with_reducible refine Keep.fromPair1 (by with_reducible assumption) ?_ | with_reducible apply Keep.mk)
  | cons x r ih =>
    unfold State.setCal
    try dsimp only
    repeat' (first | with_reducible assumption | with_reducible apply ih | with_reducible apply Keep.set | with_reducible apply Keep.ite | split | with_reducible refine Keep.fromSome (by with_reducible assumption) ?_ | with_reducible refine Keep.fromInr (by with_reducible assumption) ?_ | with_reducible refine Keep.fromInl (by with_reducible assumption) ?_ | with_reducible refine Keep.fromPair (by with_reducible assumption) ?_ | with_reducible refine Keep.fromPair1 (by with_reducible assumption) ?_ | with_reducible apply Keep.mk)

theorem Keep.State_buckUpdate {μ : Mark} (s : State) (h_s : μ.ok s) : μ.ok (State.buckUpdate s) := by
  unfold State.buckUpdate
  try dsimp only
  repeat' (first | with_reducible assumption | with_reducible apply Keep.ite | with_reducible apply Keep.mk)

theorem Keep.State_applyPwr {μ : Mark} (s : State) (n : Nat) (h_s : μ.ok s) : μ.ok (State.applyPwr s n) := by
  unfold State.applyPwr
  try dsimp only
  repeat' (first | with_reducible assumption | with_reducible apply Keep.set | with_reducible apply Keep.State_buckUpdate | with_reducible apply Keep.ite | with_reducible apply Keep.getD)

theorem Keep.State_refreshPwr {μ : Mark} (s : State) (n : Nat) (h_s : μ.ok s) : μ.ok (State.refreshPwr s n) := by
  unfold State.refreshPwr
  try dsimp only
  repeat' (first | with_reducible assumption | with_reducible apply Keep.State_applyPwr | with_reducible apply Keep.ite)

theorem Keep.State_setUst {μ : Mark} (s : State) (n st : Nat) (h_s : μ.ok s) : μ.ok (State.setUst s n st) := by
  unfold State.setUst
  try dsimp only
  repeat' (first | with_reducible assumption | with_reducible apply Keep.set | with_reducible apply Keep.State_buckUpdate | with_reducible apply Keep.ite)

theorem Keep.State_noteErr {μ : Mark} (s : State) (n code : Nat) (h_s : μ.ok s) : μ.ok (State.noteErr s n code) := by
  unfold State.noteErr
  try dsimp only
  repeat' (first | with_reducible assumption | with_reducible apply Keep.set | with_reducible apply Keep.ite)

theorem Keep.State_utxRefuse {μ : Mark} (s : State) (n code : Nat) (h_s : μ.ok s) : μ.ok (State.utxRefuse s n code) := by
  unfold State.utxRefuse
  try dsimp only
  repeat' (first | with_reducible assumption | with_reducible apply Keep.set | with_reducible apply Keep.State_noteErr | with_reducible apply Keep.ite)

theorem Keep.State_utxOwned {μ : Mark} (s : State) (n : Nat) (m : Master) (k : State → State) (h_s : μ.ok s) (h_k : ∀ t, μ.ok t → μ.ok (k t)) : μ.ok (State.utxOwned s n m k) := by
  unfold State.utxOwned
  try dsimp only
  repeat' (first | with_reducible assumption | intro _ | with_reducible apply h_k | with_reducible apply Keep.State_utxRefuse | with_reducible apply Keep.ite)

theorem Keep.State_utxReport {μ : Mark} (s : State) (n err : Nat) (h_s : μ.ok s) : μ.ok (State.utxReport s n err) := by
  unfold State.utxReport
  try dsimp only
  repeat' (first | with_reducible assumption | with_reducible apply Keep.State_setUtx | with_reducible apply Keep.State_rqsAnswer | with_reducible apply Keep.ite | split | with_reducible refine Keep.fromSome (by with_reducible assumption) ?_ | with_reducible refine Keep.fromInr (by with_reducible assumption) ?_ | with_reducible refine Keep.fromInl (by with_reducible assumption) ?_ | with_reducible refine Keep.fromPair (by with_reducible assumption) ?_ | with_reducible refine Keep.fromPair1 (by with_reducible assumption) ?_ | with_reducible apply Keep.mk)

theorem Keep.State_endWait {μ : Mark} (s : State) (n : Nat) (h_s : μ.ok s) : μ.ok (State.endWait s n) := by
  unfold State.endWait
  try dsimp only
  repeat' (first | with_reducible assumption | with_reducible apply Keep.set | with_reducible apply Keep.ite)

theorem Keep.State_utxFail {μ : Mark} (s : State) (n code : Nat) (h_s : μ.ok s) : μ.ok (State.utxFail s n code) := by
  unfold State.utxFail
  try dsimp only
  repeat' (first | with_reducible assumption | with_reducible apply Keep.set | with_reducible apply Keep.State_noteErr | with_reducible apply Keep.State_setUtx | with_reducible apply Keep.State_endWait | with_reducible apply Keep.State_utxReport | with_reducible apply Keep.ite | with_reducible apply Keep.mk)

end Sys2Proof.Machine
end

