-- ==== Sys2Proof/Laws/KeepAgeOps.lean ====
section
/-! SUPPORT. What the operations of Machine/AgeOps.lean keep of a mark. -/

namespace Sys2Proof.Machine

open Sys2Proof

set_option linter.unreachableTactic false
set_option linter.unusedTactic false

theorem Keep.State_margin {μ : Mark} (s : State) (k pct : Nat) (h_s : μ.ok s) : μ.ok (State.margin s k pct) := by
  unfold State.margin
  try dsimp only
  repeat' (first | with_reducible assumption | with_reducible apply Keep.set | with_reducible apply Keep.State_setBit | with_reducible apply Keep.State_bump | with_reducible apply Keep.State_logHW | with_reducible apply Keep.ite | with_reducible apply Keep.mk)

theorem Keep.State_ageHint {μ : Mark} (s : State) (miss : Bool) (h_s : μ.ok s) : μ.ok (State.ageHint s miss) := by
  unfold State.ageHint
  try dsimp only
  repeat' (first | with_reducible assumption | intro _ | with_reducible apply Keep.set | with_reducible apply Keep.State_margin | with_reducible apply Keep.ite | with_reducible apply Keep.mk)

end Sys2Proof.Machine
end

