-- ==== Sys2Proof/Laws/KeepUrxOps.lean ====
section
/-! SUPPORT. What the operations of Machine/UrxOps.lean keep of a mark. -/

namespace Sys2Proof.Machine

open Sys2Proof

set_option linter.unreachableTactic false
set_option linter.unusedTactic false

theorem Keep.State_setRst {μ : Mark} (s : State) (ch st : Nat) (h_s : μ.ok s) : μ.ok (State.setRst s ch st) := by
  unfold State.setRst
  try dsimp only
  repeat' (first | with_reducible assumption | with_reducible apply Keep.set | with_reducible apply Keep.ite)

theorem Keep.State_rxIdle {μ : Mark} (s : State) (ch : Nat) (h_s : μ.ok s) : μ.ok (State.rxIdle s ch) := by
  unfold State.rxIdle
  try dsimp only
  repeat' (first | with_reducible assumption | with_reducible apply Keep.set | with_reducible apply Keep.State_setUrx | with_reducible apply Keep.State_setRst | with_reducible apply Keep.ite | with_reducible apply Keep.mk)

theorem Keep.State_setVec {μ : Mark} (s : State) (ch crs i q : Nat) (h_s : μ.ok s) : μ.ok (State.setVec s ch crs i q) := by
  unfold State.setVec
  try dsimp only
  repeat' (first | with_reducible assumption | with_reducible apply Keep.set | with_reducible apply Keep.ite)

theorem Keep.State_jamReport {μ : Mark} (s : State) (ch : Nat) (h_s : μ.ok s) : μ.ok (State.jamReport s ch) := by
  unfold State.jamReport
  try dsimp only
  repeat' (first | with_reducible assumption | with_reducible apply Keep.set | with_reducible apply Keep.fresh | with_reducible apply Keep.ite | with_reducible apply Keep.iteP)

theorem Keep.State_seedVec {μ : Mark} (s : State) (ch lo : Nat) (h_s : μ.ok s) : μ.ok (State.seedVec s ch lo) := by
  unfold State.seedVec
  try dsimp only
  repeat' (first | with_reducible assumption | intro _ | with_reducible apply Keep.fresh | with_reducible apply Keep.State_setVec | with_reducible apply Keep.ite | with_reducible apply Keep.iteP | split | with_reducible refine Keep.fromSome (by with_reducible assumption) ?_ | with_reducible refine Keep.fromInr (by with_reducible assumption) ?_ | with_reducible refine Keep.fromInl (by with_reducible assumption) ?_ | with_reducible refine Keep.fromPair (by with_reducible assumption) ?_ | with_reducible refine Keep.fromPair1 (by with_reducible assumption) ?_)

theorem Keep.State_rxAcquire {μ : Mark} (s : State) (sh : Nat) (h_s : μ.ok s) : μ.ok (State.rxAcquire s sh) := by
  unfold State.rxAcquire
  try dsimp only
  repeat' (first | with_reducible assumption | intro _ | with_reducible apply Keep.set | with_reducible apply Keep.forL | with_reducible apply Keep.State_setUrx | with_reducible apply Keep.State_seedVec | with_reducible apply Keep.State_jamReport | with_reducible apply Keep.State_setRst | with_reducible apply Keep.ite | with_reducible apply Keep.mk)

theorem Keep.State_rxCache {μ : Mark} (s : State) (sh : Nat) (h_s : μ.ok s) : μ.ok (State.rxCache s sh) := by
  unfold State.rxCache
  try dsimp only
  repeat' (first | with_reducible assumption | intro _ | with_reducible apply Keep.forL | with_reducible apply Keep.State_setUrx | with_reducible apply Keep.ite | with_reducible apply Keep.mk)

theorem Keep.State_rxCarrierGone {μ : Mark} (s : State) (sh : Nat) (h_s : μ.ok s) : μ.ok (State.rxCarrierGone s sh) := by
  unfold State.rxCarrierGone
  try dsimp only
  repeat' (first | with_reducible assumption | intro _ | with_reducible apply Keep.forL | with_reducible apply Keep.State_rxIdle | with_reducible apply Keep.ite)

theorem Keep.State_rxPolicy {μ : Mark} (s : State) (ch : Nat) (h_s : μ.ok s) : μ.ok (State.rxPolicy s ch) := by
  unfold State.rxPolicy
  try dsimp only
  repeat' (first | with_reducible assumption | with_reducible apply Keep.set | with_reducible apply Keep.State_setUrx | with_reducible apply Keep.State_rxIdle | with_reducible apply Keep.ite | with_reducible apply Keep.mk)

theorem Keep.State_rxGain {μ : Mark} (s : State) (ch : Nat) (level : Nat) (h_s : μ.ok s) : μ.ok (State.rxGain s ch level) := by
  unfold State.rxGain
  try dsimp only
  repeat' (first | with_reducible assumption | with_reducible apply Keep.set | with_reducible apply Keep.ite)

theorem Keep.State_rxEnter {μ : Mark} (s : State) (ch : Nat) (h_s : μ.ok s) : μ.ok (State.rxEnter s ch) := by
  unfold State.rxEnter
  try dsimp only
  repeat' (first | with_reducible assumption | with_reducible apply Keep.set | with_reducible apply Keep.State_setUrx | with_reducible apply Keep.ite | with_reducible apply Keep.mk)

theorem Keep.State_rxOpenCw {μ : Mark} (s : State) (sh : Nat) (h_s : μ.ok s) : μ.ok (State.rxOpenCw s sh) := by
  unfold State.rxOpenCw
  try dsimp only
  repeat' (first | with_reducible assumption | intro _ | with_reducible apply Keep.set | with_reducible apply Keep.forL | with_reducible apply Keep.State_setRst | with_reducible apply Keep.State_rxEnter | with_reducible apply Keep.State_rxPolicy | with_reducible apply Keep.State_setUrx | with_reducible apply Keep.State_rxGain | with_reducible apply Keep.ite | with_reducible apply Keep.mk)

theorem Keep.State_rxOpenForeign {μ : Mark} (s : State) (sh : Nat) (h_s : μ.ok s) : μ.ok (State.rxOpenForeign s sh) := by
  unfold State.rxOpenForeign
  try dsimp only
  repeat' (first | with_reducible assumption | intro _ | with_reducible apply Keep.set | with_reducible apply Keep.fresh | with_reducible apply Keep.forL | with_reducible apply Keep.State_setRst | with_reducible apply Keep.State_setVec | with_reducible apply Keep.State_rxEnter | with_reducible apply Keep.State_rxGain | with_reducible apply Keep.ite | with_reducible apply Keep.iteP)

theorem Keep.State_rxCloseForeign {μ : Mark} (s : State) (sh : Nat) (h_s : μ.ok s) : μ.ok (State.rxCloseForeign s sh) := by
  unfold State.rxCloseForeign
  try dsimp only
  repeat' (first | with_reducible assumption | intro _ | with_reducible apply Keep.forL | with_reducible apply Keep.State_rxIdle | with_reducible apply Keep.ite)

theorem Keep.State_rxCoast {μ : Mark} (s : State) (m : Nat) (h_s : μ.ok s) : μ.ok (State.rxCoast s m) := by
  unfold State.rxCoast
  try dsimp only
  repeat' (first | with_reducible assumption | intro _ | with_reducible apply Keep.set | with_reducible apply Keep.forN | with_reducible apply Keep.forL | with_reducible apply Keep.ite)

theorem Keep.State_rxCoastEnd {μ : Mark} (s : State) (m : Nat) (h_s : μ.ok s) : μ.ok (State.rxCoastEnd s m) := by
  unfold State.rxCoastEnd
  try dsimp only
  repeat' (first | with_reducible assumption | intro _ | with_reducible apply Keep.set | with_reducible apply Keep.forN | with_reducible apply Keep.ite)

theorem Keep.State_rxForget {μ : Mark} (s : State) (ch : Nat) (h_s : μ.ok s) : μ.ok (State.rxForget s ch) := by
  unfold State.rxForget
  try dsimp only
  repeat' (first | with_reducible assumption | with_reducible apply Keep.State_setUrx | with_reducible apply Keep.ite | with_reducible apply Keep.mk)

theorem Keep.State_rxBind {μ : Mark} (s : State) (ch sh lo : Nat) (h_s : μ.ok s) : μ.ok (State.rxBind s ch sh lo) := by
  unfold State.rxBind
  try dsimp only
  repeat' (first | with_reducible assumption | with_reducible apply Keep.set | with_reducible apply Keep.State_rxForget | with_reducible apply Keep.State_setUrx | with_reducible apply Keep.ite | with_reducible apply Keep.mk)

theorem Keep.State_engAbort {μ : Mark} (s : State) (sh : Nat) (h_s : μ.ok s) : μ.ok (State.engAbort s sh) := by
  unfold State.engAbort
  try dsimp only
  repeat' (first | with_reducible assumption | intro _ | with_reducible apply Keep.forL | with_reducible apply Keep.State_setEng | with_reducible apply Keep.State_setUrx | with_reducible apply Keep.ite | with_reducible apply Keep.mk)

end Sys2Proof.Machine
end

