-- ==== Sys2Proof/Laws/KeepUtxOps.lean ====
section
/-! SUPPORT. What the operations of Machine/UtxOps.lean keep of a mark. -/

namespace Sys2Proof.Machine

open Sys2Proof

set_option linter.unreachableTactic false
set_option linter.unusedTactic false

theorem Keep.State_rgeLog {μ : Mark} (s : State) (code n : Nat) (chan : Option Nat) (h_s : μ.ok s) : μ.ok (State.rgeLog s code n chan) := by
  unfold State.rgeLog
  try dsimp only
  repeat' (first | with_reducible assumption | with_reducible apply Keep.set | with_reducible apply Keep.ite | with_reducible apply Keep.getD | with_reducible apply Keep.mk)

theorem Keep.State_rgeLast {μ : Mark} (s : State) (n code : Nat) (h_s : μ.ok s) : μ.ok (State.rgeLast s n code) := by
  unfold State.rgeLast
  try dsimp only
  repeat' (first | with_reducible assumption | with_reducible apply Keep.set | with_reducible apply Keep.ite | with_reducible apply Keep.mk)

theorem Keep.State_endGrant {μ : Mark} (s : State) (n : Nat) (h_s : μ.ok s) : μ.ok (State.endGrant s n) := by
  unfold State.endGrant
  try dsimp only
  repeat' (first | with_reducible assumption | with_reducible apply Keep.State_setBit | with_reducible apply Keep.ite)

theorem Keep.State_utxDeny {μ : Mark} (s : State) (n : Nat) (h_s : μ.ok s) : μ.ok (State.utxDeny s n) := by
  unfold State.utxDeny
  try dsimp only
  repeat' (first | with_reducible assumption | with_reducible apply Keep.set | with_reducible apply Keep.State_noteErr | with_reducible apply Keep.State_bump | with_reducible apply Keep.ite)

theorem Keep.State_rgeRefuse {μ : Mark} (s : State) (n code : Nat) (h_s : μ.ok s) : μ.ok (State.rgeRefuse s n code) := by
  unfold State.rgeRefuse
  try dsimp only
  repeat' (first | with_reducible assumption | with_reducible apply Keep.set | with_reducible apply Keep.State_rgeLog | with_reducible apply Keep.State_rgeLast | with_reducible apply Keep.State_bump | with_reducible apply Keep.ite)

theorem Keep.State_rgeDeny {μ : Mark} (s : State) (n code : Nat) (h_s : μ.ok s) : μ.ok (State.rgeDeny s n code) := by
  unfold State.rgeDeny
  try dsimp only
  repeat' (first | with_reducible assumption | with_reducible apply Keep.State_rgeRefuse | with_reducible apply Keep.State_utxDeny | with_reducible apply Keep.State_setUtx | with_reducible apply Keep.State_endWait | with_reducible apply Keep.State_utxReport | with_reducible apply Keep.ite | with_reducible apply Keep.mk)

theorem Keep.State_unPre {μ : Mark} (s : State) (n : Nat) (h_s : μ.ok s) : μ.ok (State.unPre s n) := by
  unfold State.unPre
  try dsimp only
  repeat' (first | with_reducible assumption | with_reducible apply Keep.State_setBit | with_reducible apply Keep.ite)

theorem Keep.State_giveUp {μ : Mark} (s : State) (n : Nat) (h_s : μ.ok s) : μ.ok (State.giveUp s n) := by
  unfold State.giveUp
  try dsimp only
  repeat' (first | with_reducible assumption | with_reducible apply Keep.State_setUtx | with_reducible apply Keep.State_unPre | with_reducible apply Keep.ite | with_reducible apply Keep.mk)

theorem Keep.State_rampUp {μ : Mark} (s : State) (n : Nat) (h_s : μ.ok s) : μ.ok (State.rampUp s n) := by
  unfold State.rampUp
  try dsimp only
  repeat' (first | with_reducible assumption | with_reducible apply Keep.set | with_reducible apply Keep.State_setUtx | with_reducible apply Keep.State_endWait | with_reducible apply Keep.State_setUst | with_reducible apply Keep.State_rxAcquire | with_reducible apply Keep.ite | with_reducible apply Keep.getD | split | with_reducible refine Keep.fromSome (by with_reducible assumption) ?_ | with_reducible refine Keep.fromInr (by with_reducible assumption) ?_ | with_reducible refine Keep.fromInl (by with_reducible assumption) ?_ | with_reducible refine Keep.fromPair (by with_reducible assumption) ?_ | with_reducible refine Keep.fromPair1 (by with_reducible assumption) ?_ | with_reducible apply Keep.mk)

theorem Keep.State_rampDownFrom {μ : Mark} (s : State) (n : Nat) (u : UtxChain) (h_s : μ.ok s) : μ.ok (State.rampDownFrom s n u) := by
  unfold State.rampDownFrom
  try dsimp only
  repeat' (first | with_reducible assumption | with_reducible apply Keep.set | with_reducible apply Keep.State_setUtx | with_reducible apply Keep.State_setUst | with_reducible apply Keep.State_rxCache | with_reducible apply Keep.State_engAbort | with_reducible apply Keep.ite | split | with_reducible refine Keep.fromSome (by with_reducible assumption) ?_ | with_reducible refine Keep.fromInr (by with_reducible assumption) ?_ | with_reducible refine Keep.fromInl (by with_reducible assumption) ?_ | with_reducible refine Keep.fromPair (by with_reducible assumption) ?_ | with_reducible refine Keep.fromPair1 (by with_reducible assumption) ?_ | with_reducible apply Keep.mk)

theorem Keep.State_rampDown {μ : Mark} (s : State) (n : Nat) (fast : Bool) (dest err : Nat) (h_s : μ.ok s) : μ.ok (State.rampDown s n fast dest err) := by
  unfold State.rampDown
  try dsimp only
  repeat' (first | with_reducible assumption | with_reducible apply Keep.State_rampDownFrom | with_reducible apply Keep.State_setUtx | with_reducible apply Keep.ite | with_reducible apply Keep.getD | split | with_reducible refine Keep.fromSome (by with_reducible assumption) ?_ | with_reducible refine Keep.fromInr (by with_reducible assumption) ?_ | with_reducible refine Keep.fromInl (by with_reducible assumption) ?_ | with_reducible refine Keep.fromPair (by with_reducible assumption) ?_ | with_reducible refine Keep.fromPair1 (by with_reducible assumption) ?_ | with_reducible apply Keep.mk)

theorem Keep.State_withdraw {μ : Mark} (s : State) (n : Nat) (fast : Bool) (h_s : μ.ok s) : μ.ok (State.withdraw s n fast) := by
  unfold State.withdraw
  try dsimp only
  repeat' (first | with_reducible assumption | with_reducible apply Keep.State_endGrant | with_reducible apply Keep.State_utxDeny | with_reducible apply Keep.State_rampDown | with_reducible apply Keep.ite)

theorem Keep.State_rgeGrant {μ : Mark} (s : State) (n : Nat) (h_s : μ.ok s) : μ.ok (State.rgeGrant s n) := by
  unfold State.rgeGrant
  try dsimp only
  repeat' (first | with_reducible assumption | with_reducible apply Keep.set | with_reducible apply Keep.State_setBit | with_reducible apply Keep.State_rampUp | with_reducible apply Keep.ite | with_reducible apply Keep.getD | with_reducible apply Keep.mk)

theorem Keep.State_antHold {μ : Mark} (s : State) (n : Nat) (h_s : μ.ok s) : μ.ok (State.antHold s n) := by
  unfold State.antHold
  try dsimp only
  repeat' (first | with_reducible assumption | with_reducible apply Keep.set | with_reducible apply Keep.State_giveUp | with_reducible apply Keep.ite)

theorem Keep.State_rgeDecide {μ : Mark} (s : State) (n : Nat) (h_s : μ.ok s) : μ.ok (State.rgeDecide s n) := by
  unfold State.rgeDecide
  try dsimp only
  repeat' (first | with_reducible assumption | with_reducible apply Keep.State_antHold | with_reducible apply Keep.State_rgeDeny | with_reducible apply Keep.State_rgeGrant | with_reducible apply Keep.ite)

theorem Keep.State_rgeRequest {μ : Mark} (s : State) (n : Nat) (h_s : μ.ok s) : μ.ok (State.rgeRequest s n) := by
  unfold State.rgeRequest
  try dsimp only
  repeat' (first | with_reducible assumption | with_reducible apply Keep.State_setUtx | with_reducible apply Keep.State_setBit | with_reducible apply Keep.State_rgeDecide | with_reducible apply Keep.ite | with_reducible apply Keep.mk)

theorem Keep.State_utxKey {μ : Mark} (s : State) (n want : Nat) (h_s : μ.ok s) : μ.ok (State.utxKey s n want) := by
  unfold State.utxKey
  try dsimp only
  repeat' (first | with_reducible assumption | with_reducible apply Keep.set | with_reducible apply Keep.State_utxFail | with_reducible apply Keep.State_endWait | with_reducible apply Keep.State_rgeRequest | with_reducible apply Keep.ite)

theorem Keep.State_rfsPower {μ : Mark} (s : State) (m : Nat) (h_s : μ.ok s) : μ.ok (State.rfsPower s m) := by
  unfold State.rfsPower
  try dsimp only
  repeat' (first | with_reducible assumption | intro _ | with_reducible apply Keep.set | with_reducible apply Keep.State_setSynth | with_reducible apply Keep.State_relock | with_reducible apply Keep.ite | with_reducible apply Keep.mk)

theorem Keep.State_rfsRelease {μ : Mark} (s : State) (m : Nat) (h_s : μ.ok s) : μ.ok (State.rfsRelease s m) := by
  unfold State.rfsRelease
  try dsimp only
  repeat' (first | with_reducible assumption | intro _ | with_reducible apply Keep.State_setSynth | with_reducible apply Keep.State_rfsPower | with_reducible apply Keep.ite | with_reducible apply Keep.mk)

theorem Keep.State_utxReached {μ : Mark} (s : State) (n : Nat) (h_s : μ.ok s) : μ.ok (State.utxReached s n) := by
  unfold State.utxReached
  try dsimp only
  repeat' (first | with_reducible assumption | with_reducible apply Keep.State_setUtx | with_reducible apply Keep.State_endWait | with_reducible apply Keep.State_utxReport | with_reducible apply Keep.State_rfsRelease | with_reducible apply Keep.ite | with_reducible apply Keep.mk)

theorem Keep.State_windowShut {μ : Mark} (s : State) (sh : Nat) (h_s : μ.ok s) : μ.ok (State.windowShut s sh) := by
  unfold State.windowShut
  try dsimp only
  repeat' (first | with_reducible assumption | intro _ | with_reducible apply Keep.forL | with_reducible apply Keep.State_setEng | with_reducible apply Keep.State_setUrx | with_reducible apply Keep.ite | with_reducible apply Keep.mk)

theorem Keep.State_utxWindow {μ : Mark} (s : State) (n : Nat) (isOpen : Bool) (h_s : μ.ok s) : μ.ok (State.utxWindow s n isOpen) := by
  unfold State.utxWindow
  try dsimp only
  repeat' (first | with_reducible assumption | intro _ | with_reducible apply Keep.State_rxOpenCw | with_reducible apply Keep.State_rxOpenForeign | with_reducible apply Keep.State_windowShut | with_reducible apply Keep.State_rxCloseForeign | with_reducible apply Keep.ite | split | with_reducible refine Keep.fromSome (by with_reducible assumption) ?_ | with_reducible refine Keep.fromInr (by with_reducible assumption) ?_ | with_reducible refine Keep.fromInl (by with_reducible assumption) ?_ | with_reducible refine Keep.fromPair (by with_reducible assumption) ?_ | with_reducible refine Keep.fromPair1 (by with_reducible assumption) ?_)

theorem Keep.State_utxStandby {μ : Mark} (s : State) (n : Nat) (h_s : μ.ok s) : μ.ok (State.utxStandby s n) := by
  unfold State.utxStandby
  try dsimp only
  repeat' (first | with_reducible assumption | with_reducible apply Keep.set | with_reducible apply Keep.State_setUst | with_reducible apply Keep.State_endWait | with_reducible apply Keep.State_refreshPwr | with_reducible apply Keep.State_utxFail | with_reducible apply Keep.ite | with_reducible apply Keep.iteP)

theorem Keep.State_utxProgress {μ : Mark} (s : State) (fuel n : Nat) (h_s : μ.ok s) : μ.ok (State.utxProgress s fuel n) := by
  induction fuel generalizing s with
  | zero =>
    unfold State.utxProgress
    repeat' (first | with_reducible assumption | with_reducible apply Keep.State_rampDown | with_reducible apply Keep.State_utxReached | with_reducible apply Keep.State_setUst | with_reducible apply Keep.State_utxWindow | with_reducible apply Keep.State_setUtx | with_reducible apply Keep.State_refreshPwr | with_reducible apply Keep.State_relock | with_reducible apply Keep.State_utxKey | with_reducible apply Keep.State_rfsPower | with_reducible apply Keep.State_utxStandby | with_reducible apply Keep.ite | with_reducible apply Keep.iteP | split | with_reducible refine Keep.fromSome (by with_reducible assumption) ?_ | with_reducible refine Keep.fromInr (by with_reducible assumption) ?_ | with_reducible refine Keep.fromInl (by with_reducible assumption) ?_ | with_reducible refine Keep.fromPair (by with_reducible assumption) ?_ | with_reducible refine Keep.fromPair1 (by with_reducible assumption) ?_ | with_reducible apply Keep.mk)
  | succ fuel ih =>
    unfold State.utxProgress
    try dsimp only
    repeat' (first | with_reducible assumption | with_reducible apply ih | with_reducible apply Keep.State_rampDown | with_reducible apply Keep.State_utxReached | with_reducible apply Keep.State_setUst | with_reducible apply Keep.State_utxWindow | with_reducible apply Keep.State_setUtx | with_reducible apply Keep.State_refreshPwr | with_reducible apply Keep.State_relock | with_reducible apply Keep.State_utxKey | with_reducible apply Keep.State_rfsPower | with_reducible apply Keep.State_utxStandby | with_reducible apply Keep.ite | with_reducible apply Keep.iteP | split | with_reducible refine Keep.fromSome (by with_reducible assumption) ?_ | with_reducible refine Keep.fromInr (by with_reducible assumption) ?_ | with_reducible refine Keep.fromInl (by with_reducible assumption) ?_ | with_reducible refine Keep.fromPair (by with_reducible assumption) ?_ | with_reducible refine Keep.fromPair1 (by with_reducible assumption) ?_ | with_reducible apply Keep.mk)

theorem Keep.State_utxRequest {μ : Mark} (s : State) (n w : Nat) (h_s : μ.ok s) : μ.ok (State.utxRequest s n w) := by
  unfold State.utxRequest
  try dsimp only
  repeat' (first | with_reducible assumption | with_reducible apply Keep.State_setUtx | with_reducible apply Keep.State_endWait | with_reducible apply Keep.State_giveUp | with_reducible apply Keep.State_utxProgress | with_reducible apply Keep.ite | with_reducible apply Keep.mk)

theorem Keep.State_forceDown {μ : Mark} (s : State) (n : Nat) (fast : Bool) (h_s : μ.ok s) : μ.ok (State.forceDown s n fast) := by
  unfold State.forceDown
  try dsimp only
  repeat' (first | with_reducible assumption | with_reducible apply Keep.State_setUtx | with_reducible apply Keep.State_giveUp | with_reducible apply Keep.State_endWait | with_reducible apply Keep.State_rampDown | with_reducible apply Keep.State_utxWindow | with_reducible apply Keep.State_setUst | with_reducible apply Keep.ite | with_reducible apply Keep.mk)

theorem Keep.State_rfsSearch {μ : Mark} (s : State) (m : Nat) (full : Bool) (h_s : μ.ok s) : μ.ok (State.rfsSearch s m full) := by
  unfold State.rfsSearch
  try dsimp only
  repeat' (first | with_reducible assumption | with_reducible apply Keep.set | with_reducible apply Keep.State_setSynth | with_reducible apply Keep.ite | with_reducible apply Keep.mk)

theorem Keep.State_rfsBoot {μ : Mark} (s : State) (m : Nat) (full : Bool) (h_s : μ.ok s) : μ.ok (State.rfsBoot s m full) := by
  unfold State.rfsBoot
  try dsimp only
  repeat' (first | with_reducible assumption | with_reducible apply Keep.State_setSynth | with_reducible apply Keep.ite | with_reducible apply Keep.mk)

theorem Keep.State_rfsLock {μ : Mark} (s : State) (m : Nat) (full : Bool) (h_s : μ.ok s) : μ.ok (State.rfsLock s m full) := by
  unfold State.rfsLock
  try dsimp only
  repeat' (first | with_reducible assumption | intro _ | with_reducible apply Keep.set | with_reducible apply Keep.forL | with_reducible apply Keep.State_lockAnswer | with_reducible apply Keep.State_utxRefuse | with_reducible apply Keep.State_rfsBoot | with_reducible apply Keep.State_rfsSearch | with_reducible apply Keep.ite)

theorem Keep.State_rfsWake {μ : Mark} (s : State) (m : Nat) (h_s : μ.ok s) : μ.ok (State.rfsWake s m) := by
  unfold State.rfsWake
  try dsimp only
  repeat' (first | with_reducible assumption | intro _ | with_reducible apply Keep.forL | with_reducible apply Keep.State_refreshPwr | with_reducible apply Keep.State_utxProgress | with_reducible apply Keep.ite | with_reducible apply Keep.iteP)

end Sys2Proof.Machine
end

