-- ==== Sys2Proof/Laws/KeepClkOps.lean ====
section
/-! SUPPORT. What the operations of Machine/ClkOps.lean keep of a mark. -/

namespace Sys2Proof.Machine

open Sys2Proof

set_option linter.unreachableTactic false
set_option linter.unusedTactic false

theorem Keep.State_clkSpread {μ : Mark} (s : State) (h_s : μ.ok s) : μ.ok (State.clkSpread s) := by
  unfold State.clkSpread
  try dsimp only
  repeat' (first | with_reducible assumption | intro _ | with_reducible apply Keep.set | with_reducible apply Keep.State_bump | with_reducible apply Keep.foldl | with_reducible apply Keep.ite)

theorem Keep.State_spurLease {μ : Mark} (s : State) (sh khz : Nat) (receives : Bool) (h_s : μ.ok s) : μ.ok (State.spurLease s sh khz receives) := by
  unfold State.spurLease
  try dsimp only
  repeat' (first | with_reducible assumption | intro _ | with_reducible apply Keep.State_setSheaf | with_reducible apply Keep.State_clkSpread | with_reducible apply Keep.foldl | with_reducible apply Keep.ite | with_reducible apply Keep.mk)

theorem Keep.State_spurFree {μ : Mark} (s : State) (sh : Nat) (h_s : μ.ok s) : μ.ok (State.spurFree s sh) := by
  unfold State.spurFree
  try dsimp only
  repeat' (first | with_reducible assumption | with_reducible apply Keep.State_setSheaf | with_reducible apply Keep.State_clkSpread | with_reducible apply Keep.ite | with_reducible apply Keep.mk)

end Sys2Proof.Machine
end

