-- ==== Sys2Proof/Laws/KeepQue.lean ====
section
/-! SUPPORT. What the operations of Machine/Que.lean keep of a mark. -/

namespace Sys2Proof.Machine

open Sys2Proof

set_option linter.unreachableTactic false
set_option linter.unusedTactic false

theorem Keep.State_queSet {μ : Mark} (s : State) (q : Nat) (w : List Nat) (h_s : μ.ok s) : μ.ok (State.queSet s q w) := by
  unfold State.queSet
  try dsimp only
  repeat' (first | with_reducible assumption | with_reducible apply Keep.set | with_reducible apply Keep.ite | with_reducible apply Keep.mk)

theorem Keep.State_quePut {μ : Mark} (s : State) (q w : Nat) (h_s : μ.ok s) : μ.ok (State.quePut s q w) := by
  unfold State.quePut
  try dsimp only
  repeat' (first | with_reducible assumption | with_reducible apply Keep.State_queSet | with_reducible apply Keep.State_bump | with_reducible apply Keep.ite)

theorem Keep.State_queRefuse {μ : Mark} (s : State) (q k : Nat) (h_s : μ.ok s) : μ.ok (State.queRefuse s q k) := by
  unfold State.queRefuse
  try dsimp only
  repeat' (first | with_reducible assumption | with_reducible apply Keep.set | with_reducible apply Keep.State_bump | with_reducible apply Keep.ite)

theorem Keep.State_quePush {μ : Mark} (s : State) (q w : Nat) (h_s : μ.ok s) : μ.ok (State.quePush s q w) := by
  unfold State.quePush
  try dsimp only
  repeat' (first | with_reducible assumption | with_reducible apply Keep.State_queRefuse | with_reducible apply Keep.State_quePut | with_reducible apply Keep.ite)

theorem Keep.State_quePop {μ : Mark} (s : State) (q : Nat) (h_s : μ.ok s) : μ.ok (State.quePop s q).2 := by
  unfold State.quePop
  try dsimp only
  repeat' (first | with_reducible assumption | with_reducible apply Keep.set | with_reducible apply Keep.State_queSet | with_reducible apply Keep.State_bump | with_reducible apply Keep.ite | with_reducible apply Keep.iteP | split | with_reducible refine Keep.fromSome (by with_reducible assumption) ?_ | with_reducible refine Keep.fromInr (by with_reducible assumption) ?_ | with_reducible refine Keep.fromInl (by with_reducible assumption) ?_ | with_reducible refine Keep.fromPair (by with_reducible assumption) ?_ | with_reducible refine Keep.fromPair1 (by with_reducible assumption) ?_)

theorem Keep.State_queCheck {μ : Mark} (s : State) (q : Nat) (mismatch : Bool) (h_s : μ.ok s) : μ.ok (State.queCheck s q mismatch) := by
  unfold State.queCheck
  try dsimp only
  repeat' (first | with_reducible assumption | with_reducible apply Keep.set | with_reducible apply Keep.State_queSet | with_reducible apply Keep.State_logHW | with_reducible apply Keep.ite | split | with_reducible refine Keep.fromSome (by with_reducible assumption) ?_ | with_reducible refine Keep.fromInr (by with_reducible assumption) ?_ | with_reducible refine Keep.fromInl (by with_reducible assumption) ?_ | with_reducible refine Keep.fromPair (by with_reducible assumption) ?_ | with_reducible refine Keep.fromPair1 (by with_reducible assumption) ?_)

theorem Keep.c_execQuePush {μ : Mark} (q : Nat) (m : Master) (v : Nat) (mismatch : Bool) (s : State) (h_s : μ.ok s) : μ.okOut (execQuePush q m v mismatch s) := by
  unfold execQuePush
  try dsimp only
  repeat' (first | with_reducible assumption | with_reducible apply Keep.State_queCheck | with_reducible apply Keep.State_quePush | with_reducible apply Keep.next | with_reducible apply Keep.ite | with_reducible apply Keep.iteO | split | with_reducible refine Keep.fromSome (by with_reducible assumption) ?_ | with_reducible refine Keep.fromInr (by with_reducible assumption) ?_ | with_reducible refine Keep.fromInl (by with_reducible assumption) ?_ | with_reducible refine Keep.fromPair (by with_reducible assumption) ?_ | with_reducible refine Keep.fromPair1 (by with_reducible assumption) ?_)

theorem Keep.c_execQuePop {μ : Mark} (q : Nat) (m : Master) (mismatch : Bool) (s : State) (h_s : μ.ok s) : μ.okOut (execQuePop q m mismatch s) := by
  unfold execQuePop
  try dsimp only
  repeat' (first | with_reducible assumption | with_reducible apply Keep.State_queCheck | with_reducible apply Keep.State_quePop | with_reducible apply Keep.State_respond | with_reducible apply Keep.next | with_reducible apply Keep.ite | with_reducible apply Keep.iteO | split | with_reducible refine Keep.fromSome (by with_reducible assumption) ?_ | with_reducible refine Keep.fromInr (by with_reducible assumption) ?_ | with_reducible refine Keep.fromInl (by with_reducible assumption) ?_ | with_reducible refine Keep.fromPair (by with_reducible assumption) ?_ | with_reducible refine Keep.fromPair1 (by with_reducible assumption) ?_)

theorem Keep.c_execQueFlush {μ : Mark} (_m : Master) (mask : Nat) (s : State) (h_s : μ.ok s) : μ.okOut (execQueFlush _m mask s) := by
  unfold execQueFlush
  try dsimp only
  repeat' (first | with_reducible assumption | intro _ | with_reducible apply Keep.forL | with_reducible apply Keep.State_queSet | with_reducible apply Keep.next | with_reducible apply Keep.ite | with_reducible apply Keep.iteO)

theorem Keep.State_queEnable {μ : Mark} (s : State) (q base depth : Nat) (h_s : μ.ok s) : μ.ok (State.queEnable s q base depth) := by
  unfold State.queEnable
  try dsimp only
  repeat' (first | with_reducible assumption | with_reducible apply Keep.set | with_reducible apply Keep.State_queSet | with_reducible apply Keep.ite)

theorem Keep.c_execQueEnable {μ : Mark} (q : Nat) (_m : Master) (base depth : Nat) (s : State) (h_s : μ.ok s) : μ.okOut (execQueEnable q _m base depth s) := by
  unfold execQueEnable
  try dsimp only
  repeat' (first | with_reducible assumption | with_reducible apply Keep.State_queEnable | with_reducible apply Keep.next | with_reducible apply Keep.ite | with_reducible apply Keep.iteO)

theorem Keep.State_queDisable {μ : Mark} (s : State) (q : Nat) (h_s : μ.ok s) : μ.ok (State.queDisable s q) := by
  unfold State.queDisable
  try dsimp only
  repeat' (first | with_reducible assumption | intro _ | with_reducible apply Keep.set | with_reducible apply Keep.forN | with_reducible apply Keep.State_queSet | with_reducible apply Keep.State_setOps | with_reducible apply Keep.State_push | with_reducible apply Keep.State_queRefuse | with_reducible apply Keep.foldl | with_reducible apply Keep.ite | with_reducible apply Keep.mk)

theorem Keep.c_execQueDisable {μ : Mark} (q : Nat) (_m : Master) (s : State) (h_s : μ.ok s) : μ.okOut (execQueDisable q _m s) := by
  unfold execQueDisable
  try dsimp only
  repeat' (first | with_reducible assumption | with_reducible apply Keep.State_queDisable | with_reducible apply Keep.next | with_reducible apply Keep.ite | with_reducible apply Keep.iteO)

theorem Keep.State_reserve {μ : Mark} (s : State) (n q : Nat) (words : List Nat) (h_s : μ.ok s) : μ.okOpt (State.reserve s n q words) := by
  unfold State.reserve
  try dsimp only
  repeat' (first | with_reducible assumption | with_reducible apply Keep.set | with_reducible apply Keep.State_setOps | with_reducible apply Keep.State_push | with_reducible apply Keep.State_bump | with_reducible apply Keep.ite | with_reducible apply Keep.orElse | with_reducible apply Keep.map | with_reducible apply Keep.iteOpt | with_reducible apply Keep.optSome | with_reducible apply Keep.optNone | with_reducible apply Keep.mk)

theorem Keep.c_execPushDrain {μ : Mark} (n : Nat) (s : State) (h_s : μ.ok s) : μ.okOut (execPushDrain n s) := by
  unfold execPushDrain
  try dsimp only
  repeat' (first | with_reducible assumption | intro _ | with_reducible apply Keep.set | with_reducible apply Keep.forL | with_reducible apply Keep.State_push | with_reducible apply Keep.State_setOps | with_reducible apply Keep.State_quePut | with_reducible apply Keep.next | with_reducible apply Keep.ite | with_reducible apply Keep.iteO | split | with_reducible refine Keep.fromSome (by with_reducible assumption) ?_ | with_reducible refine Keep.fromInr (by with_reducible assumption) ?_ | with_reducible refine Keep.fromInl (by with_reducible assumption) ?_ | with_reducible refine Keep.fromPair (by with_reducible assumption) ?_ | with_reducible refine Keep.fromPair1 (by with_reducible assumption) ?_ | with_reducible apply Keep.mk)

end Sys2Proof.Machine
end

