-- ==== Sys2Proof/Laws/KeepShfOps.lean ====
section
/-! SUPPORT. What the operations of Machine/ShfOps.lean keep of a mark. -/

namespace Sys2Proof.Machine

open Sys2Proof

set_option linter.unreachableTactic false
set_option linter.unusedTactic false

theorem Keep.State_setAnt {μ : Mark} (s : State) (n v : Nat) (h_s : μ.ok s) : μ.ok (State.setAnt s n v) := by
  unfold State.setAnt
  try dsimp only
  repeat' (first | with_reducible assumption | with_reducible apply Keep.set | with_reducible apply Keep.ite | split | with_reducible refine Keep.fromSome (by with_reducible assumption) ?_ | with_reducible refine Keep.fromInr (by with_reducible assumption) ?_ | with_reducible refine Keep.fromInl (by with_reducible assumption) ?_ | with_reducible refine Keep.fromPair (by with_reducible assumption) ?_ | with_reducible refine Keep.fromPair1 (by with_reducible assumption) ?_)

theorem Keep.State_seqLease {μ : Mark} (s : State) (n ltype entry : Nat) (c0 c1 c2 c3 : Nat) (h_s : μ.ok s) : μ.ok (State.seqLease s n ltype entry c0 c1 c2 c3) := by
  unfold State.seqLease
  try dsimp only
  repeat' (first | with_reducible assumption | with_reducible apply Keep.set | with_reducible apply Keep.State_setSeq | with_reducible apply Keep.State_seqEvent | with_reducible apply Keep.ite | with_reducible apply Keep.mk)

theorem Keep.State_seqFree {μ : Mark} (s : State) (n : Nat) (h_s : μ.ok s) : μ.ok (State.seqFree s n) := by
  unfold State.seqFree
  try dsimp only
  repeat' (first | with_reducible assumption | with_reducible apply Keep.set | with_reducible apply Keep.State_setSeq | with_reducible apply Keep.State_setOps | with_reducible apply Keep.ite | with_reducible apply Keep.mk)

theorem Keep.State_markChain {μ : Mark} (s : State) (c : Nat) (leased : Bool) (seq : Nat) (h_s : μ.ok s) : μ.ok (State.markChain s c leased seq) := by
  unfold State.markChain
  try dsimp only
  repeat' (first | with_reducible assumption | with_reducible apply Keep.set | with_reducible apply Keep.ite)

theorem Keep.State_keepOff {μ : Mark} (s : State) (n : Nat) (h_s : μ.ok s) : μ.ok (State.keepOff s n) := by
  unfold State.keepOff
  try dsimp only
  repeat' (first | with_reducible assumption | with_reducible apply Keep.State_utxRequest | with_reducible apply Keep.ite)

theorem Keep.State_leaseTake {μ : Mark} (s : State) (sh slot seq : Nat) (p : LeasePlan) (h_s : μ.ok s) : μ.ok (State.leaseTake s sh slot seq p) := by
  unfold State.leaseTake
  try dsimp only
  repeat' (first | with_reducible assumption | intro _ | with_reducible apply Keep.set | with_reducible apply Keep.forL | with_reducible apply Keep.State_setSheaf | with_reducible apply Keep.State_markChain | with_reducible apply Keep.State_rfsPower | with_reducible apply Keep.State_keepOff | with_reducible apply Keep.State_rxBind | with_reducible apply Keep.State_refreshPwr | with_reducible apply Keep.State_spurLease | with_reducible apply Keep.State_rxOpenForeign | with_reducible apply Keep.State_seqLease | with_reducible apply Keep.ite | with_reducible apply Keep.iteP | with_reducible apply Keep.mk)

theorem Keep.State_censusLatch {μ : Mark} (s : State) (sh : Nat) (partialBlock : Bool) (h_s : μ.ok s) : μ.ok (State.censusLatch s sh partialBlock) := by
  unfold State.censusLatch
  try dsimp only
  repeat' (first | with_reducible assumption | intro _ | with_reducible apply Keep.set | with_reducible apply Keep.ite | with_reducible apply Keep.getD | with_reducible apply Keep.mk)

theorem Keep.State_geoLoad {μ : Mark} (s : State) (t : List Nat) (h_s : μ.ok s) : μ.ok (State.geoLoad s t) := by
  unfold State.geoLoad
  try dsimp only
  repeat' (first | with_reducible assumption | intro _ | with_reducible apply Keep.set | with_reducible apply Keep.forN | with_reducible apply Keep.ite | split | with_reducible refine Keep.fromSome (by with_reducible assumption) ?_ | with_reducible refine Keep.fromInr (by with_reducible assumption) ?_ | with_reducible refine Keep.fromInl (by with_reducible assumption) ?_ | with_reducible refine Keep.fromPair (by with_reducible assumption) ?_ | with_reducible refine Keep.fromPair1 (by with_reducible assumption) ?_ | with_reducible apply Keep.mk)

theorem Keep.State_geoDue {μ : Mark} (s : State) (h_s : μ.ok s) : μ.ok (State.geoDue s) := by
  unfold State.geoDue
  try dsimp only
  repeat' (first | with_reducible assumption | with_reducible apply Keep.State_geoLoad | with_reducible apply Keep.ite)

theorem Keep.State_leaseFree {μ : Mark} (s : State) (sh : Nat) (h_s : μ.ok s) : μ.ok (State.leaseFree s sh) := by
  unfold State.leaseFree
  try dsimp only
  repeat' (first | with_reducible assumption | intro _ | with_reducible apply Keep.set | with_reducible apply Keep.forL | with_reducible apply Keep.State_rxIdle | with_reducible apply Keep.State_engAbort | with_reducible apply Keep.State_censusLatch | with_reducible apply Keep.State_markChain | with_reducible apply Keep.State_refreshPwr | with_reducible apply Keep.State_setSheaf | with_reducible apply Keep.State_spurFree | with_reducible apply Keep.State_seqFree | with_reducible apply Keep.State_rfsRelease | with_reducible apply Keep.State_geoDue | with_reducible apply Keep.ite | with_reducible apply Keep.iteP | with_reducible apply Keep.mk)

theorem Keep.State_leaseEnd {μ : Mark} (s : State) (sh : Nat) (how : LeaseEnd) (h_s : μ.ok s) : μ.ok (State.leaseEnd s sh how) := by
  unfold State.leaseEnd
  try dsimp only
  repeat' (first | with_reducible assumption | intro _ | with_reducible apply Keep.forL | with_reducible apply Keep.State_setSheaf | with_reducible apply Keep.State_engAbort | with_reducible apply Keep.State_forceDown | with_reducible apply Keep.State_leaseFree | with_reducible apply Keep.ite | split | with_reducible refine Keep.fromSome (by with_reducible assumption) ?_ | with_reducible refine Keep.fromInr (by with_reducible assumption) ?_ | with_reducible refine Keep.fromInl (by with_reducible assumption) ?_ | with_reducible refine Keep.fromPair (by with_reducible assumption) ?_ | with_reducible refine Keep.fromPair1 (by with_reducible assumption) ?_ | with_reducible apply Keep.mk)

theorem Keep.State_seqLeaseEnd {μ : Mark} (s : State) (n : Nat) (how : LeaseEnd) (h_s : μ.ok s) : μ.ok (State.seqLeaseEnd s n how) := by
  unfold State.seqLeaseEnd
  try dsimp only
  repeat' (first | with_reducible assumption | with_reducible apply Keep.State_leaseEnd | with_reducible apply Keep.ite | split | with_reducible refine Keep.fromSome (by with_reducible assumption) ?_ | with_reducible refine Keep.fromInr (by with_reducible assumption) ?_ | with_reducible refine Keep.fromInl (by with_reducible assumption) ?_ | with_reducible refine Keep.fromPair (by with_reducible assumption) ?_ | with_reducible refine Keep.fromPair1 (by with_reducible assumption) ?_)

end Sys2Proof.Machine
end

