-- ==== Sys2Proof/Laws/KeepShf.lean ====
section
/-! SUPPORT. What the operations of Machine/Shf.lean keep of a mark. -/

namespace Sys2Proof.Machine

open Sys2Proof

set_option linter.unreachableTactic false
set_option linter.unusedTactic false

theorem Keep.State_shfErr {μ : Mark} (s : State) (sh : Nat) (h_s : μ.ok s) : μ.ok (State.shfErr s sh) := by
  unfold State.shfErr
  try dsimp only
  repeat' (first | with_reducible assumption | with_reducible apply Keep.set | with_reducible apply Keep.ite)

theorem Keep.State_leaseGo {μ : Mark} (s : State) (sh : Nat) (m : Master) (slot seq : Nat) (h_s : μ.ok s) : μ.ok (State.leaseGo s sh m slot seq) := by
  unfold State.leaseGo
  try dsimp only
  repeat' (first | with_reducible assumption | with_reducible apply Keep.set | with_reducible apply Keep.State_shfErr | with_reducible apply Keep.State_margin | with_reducible apply Keep.State_leaseTake | with_reducible apply Keep.ite | split | with_reducible refine Keep.fromSome (by with_reducible assumption) ?_ | with_reducible refine Keep.fromInr (by with_reducible assumption) ?_ | with_reducible refine Keep.fromInl (by with_reducible assumption) ?_ | with_reducible refine Keep.fromPair (by with_reducible assumption) ?_ | with_reducible refine Keep.fromPair1 (by with_reducible assumption) ?_)

theorem Keep.c_execLeaseGo {μ : Mark} (sh : Nat) (m : Master) (slot seq : Nat) (s : State) (h_s : μ.ok s) : μ.okOut (execLeaseGo sh m slot seq s) := by
  unfold execLeaseGo
  try dsimp only
  repeat' (first | with_reducible assumption | with_reducible apply Keep.State_leaseGo | with_reducible apply Keep.next | with_reducible apply Keep.ite | with_reducible apply Keep.iteO)

theorem Keep.State_leaseRelease {μ : Mark} (s : State) (sh : Nat) (m : Master) (h_s : μ.ok s) : μ.ok (State.leaseRelease s sh m) := by
  unfold State.leaseRelease
  try dsimp only
  repeat' (first | with_reducible assumption | with_reducible apply Keep.State_leaseEnd | with_reducible apply Keep.State_shfErr | with_reducible apply Keep.ite)

theorem Keep.c_execLeaseRelease {μ : Mark} (sh : Nat) (m : Master) (s : State) (h_s : μ.ok s) : μ.okOut (execLeaseRelease sh m s) := by
  unfold execLeaseRelease
  try dsimp only
  repeat' (first | with_reducible assumption | with_reducible apply Keep.State_leaseRelease | with_reducible apply Keep.next | with_reducible apply Keep.ite | with_reducible apply Keep.iteO)

theorem Keep.c_execLeaseFreed {μ : Mark} (sh : Nat) (s : State) (h_s : μ.ok s) : μ.okOut (execLeaseFreed sh s) := by
  unfold execLeaseFreed
  try dsimp only
  repeat' (first | with_reducible assumption | with_reducible apply Keep.State_leaseFree | with_reducible apply Keep.next | with_reducible apply Keep.ite | with_reducible apply Keep.iteO)

theorem Keep.State_antWrite {μ : Mark} (s : State) (n v : Nat) (m : Master) (h_s : μ.ok s) : μ.ok (State.antWrite s n v m) := by
  unfold State.antWrite
  try dsimp only
  repeat' (first | with_reducible assumption | intro _ | with_reducible apply Keep.set | with_reducible apply Keep.forN | with_reducible apply Keep.State_setAnt | with_reducible apply Keep.State_setUtx | with_reducible apply Keep.State_rxForget | with_reducible apply Keep.ite | with_reducible apply Keep.mk)

theorem Keep.c_execAntSelWrite {μ : Mark} (m : Master) (value : Nat) (s : State) (h_s : μ.ok s) : μ.okOut (execAntSelWrite m value s) := by
  unfold execAntSelWrite
  try dsimp only
  repeat' (first | with_reducible assumption | intro _ | with_reducible apply Keep.forN | with_reducible apply Keep.State_antWrite | with_reducible apply Keep.next | with_reducible apply Keep.ite | with_reducible apply Keep.iteO)

theorem Keep.State_isoWrite {μ : Mark} (s : State) (v : Nat) (h_s : μ.ok s) : μ.ok (State.isoWrite s v) := by
  unfold State.isoWrite
  try dsimp only
  repeat' (first | with_reducible assumption | with_reducible apply Keep.set | with_reducible apply Keep.ite | with_reducible apply Keep.mk)

theorem Keep.c_execIsoWrite {μ : Mark} (_m : Master) (value : Nat) (s : State) (h_s : μ.ok s) : μ.okOut (execIsoWrite _m value s) := by
  unfold execIsoWrite
  try dsimp only
  repeat' (first | with_reducible assumption | with_reducible apply Keep.State_isoWrite | with_reducible apply Keep.next | with_reducible apply Keep.ite | with_reducible apply Keep.iteO)

theorem Keep.State_geoWrite {μ : Mark} (s : State) (v : Nat) (h_s : μ.ok s) : μ.ok (State.geoWrite s v) := by
  unfold State.geoWrite
  try dsimp only
  repeat' (first | with_reducible assumption | with_reducible apply Keep.set | with_reducible apply Keep.ite | with_reducible apply Keep.mk)

theorem Keep.c_execGeoDataWrite {μ : Mark} (_m : Master) (value : Nat) (s : State) (h_s : μ.ok s) : μ.okOut (execGeoDataWrite _m value s) := by
  unfold execGeoDataWrite
  try dsimp only
  repeat' (first | with_reducible assumption | with_reducible apply Keep.State_geoWrite | with_reducible apply Keep.next | with_reducible apply Keep.ite | with_reducible apply Keep.iteO)

theorem Keep.State_bwNext {μ : Mark} (s : State) (sh : Nat) (h_s : μ.ok s) : μ.ok (State.bwNext s sh) := by
  unfold State.bwNext
  try dsimp only
  repeat' (first | with_reducible assumption | with_reducible apply Keep.set | with_reducible apply Keep.ite)

theorem Keep.State_bwWrite {μ : Mark} (s : State) (sh v : Nat) (h_s : μ.ok s) : μ.ok (State.bwWrite s sh v) := by
  unfold State.bwWrite
  try dsimp only
  repeat' (first | with_reducible assumption | with_reducible apply Keep.set | with_reducible apply Keep.State_shfErr | with_reducible apply Keep.State_bwNext | with_reducible apply Keep.ite | with_reducible apply Keep.mk)

theorem Keep.c_execBwDataAccess {μ : Mark} (sh : Nat) (write : Bool) (v : Nat) (s : State) (h_s : μ.ok s) : μ.okOut (execBwDataAccess sh write v s) := by
  unfold execBwDataAccess
  try dsimp only
  repeat' (first | with_reducible assumption | with_reducible apply Keep.State_bwWrite | with_reducible apply Keep.State_bwNext | with_reducible apply Keep.State_respond | with_reducible apply Keep.next | with_reducible apply Keep.ite | with_reducible apply Keep.iteO)

theorem Keep.State_beamSel {μ : Mark} (s : State) (sh sel : Nat) (h_s : μ.ok s) : μ.ok (State.beamSel s sh sel) := by
  unfold State.beamSel
  try dsimp only
  repeat' (first | with_reducible assumption | with_reducible apply Keep.set | with_reducible apply Keep.State_shfErr | with_reducible apply Keep.State_setSheaf | with_reducible apply Keep.ite | with_reducible apply Keep.mk)

theorem Keep.c_execBeamSelWrite {μ : Mark} (sh : Nat) (_m : Master) (sel : Nat) (s : State) (h_s : μ.ok s) : μ.okOut (execBeamSelWrite sh _m sel s) := by
  unfold execBeamSelWrite
  try dsimp only
  repeat' (first | with_reducible assumption | with_reducible apply Keep.State_beamSel | with_reducible apply Keep.next | with_reducible apply Keep.ite | with_reducible apply Keep.iteO)

theorem Keep.State_bearLand {μ : Mark} (s : State) (sh az el qual tag : Nat) (h_s : μ.ok s) : μ.ok (State.bearLand s sh az el qual tag) := by
  unfold State.bearLand
  try dsimp only
  repeat' (first | with_reducible assumption | with_reducible apply Keep.set | with_reducible apply Keep.State_setSheaf | with_reducible apply Keep.State_quePut | with_reducible apply Keep.ite | with_reducible apply Keep.mk)

theorem Keep.State_bearResult {μ : Mark} (s : State) (sh mask : Nat) (h_s : μ.ok s) : μ.ok (State.bearResult s sh mask).2 := by
  unfold State.bearResult
  try dsimp only
  repeat' (first | with_reducible assumption | intro _ | with_reducible apply Keep.freshL | with_reducible apply Keep.ite | with_reducible apply Keep.iteP | with_reducible apply Keep.getD)

theorem Keep.c_execBearRdy {μ : Mark} (sh : Nat) (s : State) (h_s : μ.ok s) : μ.okOut (execBearRdy sh s) := by
  unfold execBearRdy
  try dsimp only
  repeat' (first | with_reducible assumption | with_reducible apply Keep.set | with_reducible apply Keep.State_bearLand | with_reducible apply Keep.State_bump | with_reducible apply Keep.State_bearResult | with_reducible apply Keep.next | with_reducible apply Keep.ite | with_reducible apply Keep.iteO | split | with_reducible refine Keep.fromSome (by with_reducible assumption) ?_ | with_reducible refine Keep.fromInr (by with_reducible assumption) ?_ | with_reducible refine Keep.fromInl (by with_reducible assumption) ?_ | with_reducible refine Keep.fromPair (by with_reducible assumption) ?_ | with_reducible refine Keep.fromPair1 (by with_reducible assumption) ?_)

theorem Keep.State_cfLevel {μ : Mark} (s : State) (sh level : Nat) (h_s : μ.ok s) : μ.ok (State.cfLevel s sh level) := by
  unfold State.cfLevel
  try dsimp only
  repeat' (first | with_reducible assumption | with_reducible apply Keep.set | with_reducible apply Keep.State_setSheaf | with_reducible apply Keep.ite | with_reducible apply Keep.mk)

theorem Keep.c_execCfLost {μ : Mark} (sh level : Nat) (s : State) (h_s : μ.ok s) : μ.okOut (execCfLost sh level s) := by
  unfold execCfLost
  try dsimp only
  repeat' (first | with_reducible assumption | with_reducible apply Keep.set | with_reducible apply Keep.State_cfLevel | with_reducible apply Keep.State_setEng | with_reducible apply Keep.next | with_reducible apply Keep.ite | with_reducible apply Keep.iteO | with_reducible apply Keep.mk)

theorem Keep.c_execCfSearch {μ : Mark} (sh level : Nat) (s : State) (h_s : μ.ok s) : μ.okOut (execCfSearch sh level s) := by
  unfold execCfSearch
  try dsimp only
  repeat' (first | with_reducible assumption | with_reducible apply Keep.set | with_reducible apply Keep.State_cfLevel | with_reducible apply Keep.next | with_reducible apply Keep.ite | with_reducible apply Keep.iteO)

end Sys2Proof.Machine
end

