-- ==== Sys2Proof/Laws/KeepUtx.lean ====
section
/-! SUPPORT. What the operations of Machine/Utx.lean keep of a mark. -/

namespace Sys2Proof.Machine

open Sys2Proof

set_option linter.unreachableTactic false
set_option linter.unusedTactic false

theorem Keep.State_utxReq {μ : Mark} (s : State) (n : Nat) (m : Master) (w : Nat) (h_s : μ.ok s) : μ.ok (State.utxReq s n m w) := by
  unfold State.utxReq
  try dsimp only
  repeat' (first | with_reducible assumption | intro _ | with_reducible apply Keep.State_utxOwned | with_reducible apply Keep.State_utxRefuse | with_reducible apply Keep.State_utxRequest | with_reducible apply Keep.ite)

theorem Keep.c_execUtxReqOff {μ : Mark} (n : Nat) (m : Master) (s : State) (h_s : μ.ok s) : μ.okOut (execUtxReqOff n m s) := by
  unfold execUtxReqOff
  try dsimp only
  repeat' (first | with_reducible assumption | with_reducible apply Keep.State_utxReq | with_reducible apply Keep.next | with_reducible apply Keep.ite | with_reducible apply Keep.iteO)

theorem Keep.c_execUtxReqStandby {μ : Mark} (n : Nat) (m : Master) (s : State) (h_s : μ.ok s) : μ.okOut (execUtxReqStandby n m s) := by
  unfold execUtxReqStandby
  try dsimp only
  repeat' (first | with_reducible assumption | with_reducible apply Keep.State_utxReq | with_reducible apply Keep.next | with_reducible apply Keep.ite | with_reducible apply Keep.iteO)

theorem Keep.c_execUtxReqReady {μ : Mark} (n : Nat) (m : Master) (s : State) (h_s : μ.ok s) : μ.okOut (execUtxReqReady n m s) := by
  unfold execUtxReqReady
  try dsimp only
  repeat' (first | with_reducible assumption | with_reducible apply Keep.State_utxReq | with_reducible apply Keep.next | with_reducible apply Keep.ite | with_reducible apply Keep.iteO)

theorem Keep.c_execUtxReqCw {μ : Mark} (n : Nat) (m : Master) (s : State) (h_s : μ.ok s) : μ.okOut (execUtxReqCw n m s) := by
  unfold execUtxReqCw
  try dsimp only
  repeat' (first | with_reducible assumption | with_reducible apply Keep.State_utxReq | with_reducible apply Keep.next | with_reducible apply Keep.ite | with_reducible apply Keep.iteO)

theorem Keep.c_execUtxReqListen {μ : Mark} (n : Nat) (m : Master) (s : State) (h_s : μ.ok s) : μ.okOut (execUtxReqListen n m s) := by
  unfold execUtxReqListen
  try dsimp only
  repeat' (first | with_reducible assumption | with_reducible apply Keep.State_utxReq | with_reducible apply Keep.next | with_reducible apply Keep.ite | with_reducible apply Keep.iteO)

theorem Keep.c_execBiasUpDone {μ : Mark} (n : Nat) (s : State) (h_s : μ.ok s) : μ.okOut (execBiasUpDone n s) := by
  unfold execBiasUpDone
  try dsimp only
  repeat' (first | with_reducible assumption | with_reducible apply Keep.State_setUtx | with_reducible apply Keep.State_setUst | with_reducible apply Keep.State_rfsPower | with_reducible apply Keep.State_utxProgress | with_reducible apply Keep.next | with_reducible apply Keep.ite | with_reducible apply Keep.iteO | with_reducible apply Keep.mk)

theorem Keep.c_execRampUpDone {μ : Mark} (n : Nat) (s : State) (h_s : μ.ok s) : μ.okOut (execRampUpDone n s) := by
  unfold execRampUpDone
  try dsimp only
  repeat' (first | with_reducible assumption | with_reducible apply Keep.set | with_reducible apply Keep.State_setUtx | with_reducible apply Keep.State_bump | with_reducible apply Keep.State_applyPwr | with_reducible apply Keep.State_utxProgress | with_reducible apply Keep.next | with_reducible apply Keep.ite | with_reducible apply Keep.iteO | split | with_reducible refine Keep.fromSome (by with_reducible assumption) ?_ | with_reducible refine Keep.fromInr (by with_reducible assumption) ?_ | with_reducible refine Keep.fromInl (by with_reducible assumption) ?_ | with_reducible refine Keep.fromPair (by with_reducible assumption) ?_ | with_reducible refine Keep.fromPair1 (by with_reducible assumption) ?_ | with_reducible apply Keep.mk)

theorem Keep.State_rampDownEnd {μ : Mark} (s : State) (n : Nat) (h_s : μ.ok s) : μ.ok (State.rampDownEnd s n) := by
  unfold State.rampDownEnd
  try dsimp only
  repeat' (first | with_reducible assumption | with_reducible apply Keep.set | with_reducible apply Keep.State_setUtx | with_reducible apply Keep.State_endGrant | with_reducible apply Keep.State_setUst | with_reducible apply Keep.State_rxCarrierGone | with_reducible apply Keep.State_refreshPwr | with_reducible apply Keep.State_endWait | with_reducible apply Keep.State_utxReport | with_reducible apply Keep.State_utxProgress | with_reducible apply Keep.ite | with_reducible apply Keep.iteP | split | with_reducible refine Keep.fromSome (by with_reducible assumption) ?_ | with_reducible refine Keep.fromInr (by with_reducible assumption) ?_ | with_reducible refine Keep.fromInl (by with_reducible assumption) ?_ | with_reducible refine Keep.fromPair (by with_reducible assumption) ?_ | with_reducible refine Keep.fromPair1 (by with_reducible assumption) ?_ | with_reducible apply Keep.mk)

theorem Keep.c_execRampDownDone {μ : Mark} (n : Nat) (s : State) (h_s : μ.ok s) : μ.okOut (execRampDownDone n s) := by
  unfold execRampDownDone
  try dsimp only
  repeat' (first | with_reducible assumption | with_reducible apply Keep.State_rampDownEnd | with_reducible apply Keep.next | with_reducible apply Keep.ite | with_reducible apply Keep.iteO | split | with_reducible refine Keep.fromSome (by with_reducible assumption) ?_ | with_reducible refine Keep.fromInr (by with_reducible assumption) ?_ | with_reducible refine Keep.fromInl (by with_reducible assumption) ?_ | with_reducible refine Keep.fromPair (by with_reducible assumption) ?_ | with_reducible refine Keep.fromPair1 (by with_reducible assumption) ?_)

theorem Keep.c_execWaitFail {μ : Mark} (n : Nat) (s : State) (h_s : μ.ok s) : μ.okOut (execWaitFail n s) := by
  unfold execWaitFail
  try dsimp only
  repeat' (first | with_reducible assumption | with_reducible apply Keep.State_utxFail | with_reducible apply Keep.next | with_reducible apply Keep.ite | with_reducible apply Keep.iteO)

theorem Keep.c_execPaFault {μ : Mark} (n fwd : Nat) (s : State) (h_s : μ.ok s) : μ.okOut (execPaFault n fwd s) := by
  unfold execPaFault
  try dsimp only
  repeat' (first | with_reducible assumption | with_reducible apply Keep.set | with_reducible apply Keep.State_bump | with_reducible apply Keep.State_noteErr | with_reducible apply Keep.State_rampDown | with_reducible apply Keep.next | with_reducible apply Keep.ite | with_reducible apply Keep.iteO)

theorem Keep.c_execUtxPwrWrite {μ : Mark} (n : Nat) (m : Master) (idx : Nat) (s : State) (h_s : μ.ok s) : μ.okOut (execUtxPwrWrite n m idx s) := by
  unfold execUtxPwrWrite
  try dsimp only
  repeat' (first | with_reducible assumption | intro _ | with_reducible apply Keep.set | with_reducible apply Keep.State_utxOwned | with_reducible apply Keep.State_refreshPwr | with_reducible apply Keep.next | with_reducible apply Keep.ite | with_reducible apply Keep.iteO | with_reducible apply Keep.iteP)

theorem Keep.State_modCfg {μ : Mark} (s : State) (n v : Nat) (h_s : μ.ok s) : μ.ok (State.modCfg s n v) := by
  unfold State.modCfg
  try dsimp only
  repeat' (first | with_reducible assumption | with_reducible apply Keep.set | with_reducible apply Keep.ite)

theorem Keep.c_execUtxModCfgWrite {μ : Mark} (n : Nat) (m : Master) (value : Nat) (s : State) (h_s : μ.ok s) : μ.okOut (execUtxModCfgWrite n m value s) := by
  unfold execUtxModCfgWrite
  try dsimp only
  repeat' (first | with_reducible assumption | intro _ | with_reducible apply Keep.State_utxOwned | with_reducible apply Keep.State_modCfg | with_reducible apply Keep.next | with_reducible apply Keep.ite | with_reducible apply Keep.iteO)

theorem Keep.State_steer {μ : Mark} (s : State) (n v : Nat) (h_s : μ.ok s) : μ.ok (State.steer s n v) := by
  unfold State.steer
  try dsimp only
  repeat' (first | with_reducible assumption | with_reducible apply Keep.set | with_reducible apply Keep.State_setUtx | with_reducible apply Keep.ite | with_reducible apply Keep.mk)

theorem Keep.c_execUtxSteerWrite {μ : Mark} (n : Nat) (m : Master) (steer : Nat) (s : State) (h_s : μ.ok s) : μ.okOut (execUtxSteerWrite n m steer s) := by
  unfold execUtxSteerWrite
  try dsimp only
  repeat' (first | with_reducible assumption | intro _ | with_reducible apply Keep.State_utxOwned | with_reducible apply Keep.State_steer | with_reducible apply Keep.next | with_reducible apply Keep.ite | with_reducible apply Keep.iteO)

theorem Keep.State_loSrc {μ : Mark} (s : State) (n src : Nat) (h_s : μ.ok s) : μ.ok (State.loSrc s n src) := by
  unfold State.loSrc
  try dsimp only
  repeat' (first | with_reducible assumption | with_reducible apply Keep.set | with_reducible apply Keep.State_utxRefuse | with_reducible apply Keep.State_rfsPower | with_reducible apply Keep.State_refreshPwr | with_reducible apply Keep.ite | with_reducible apply Keep.iteP)

theorem Keep.c_execUtxLoSrcWrite {μ : Mark} (n : Nat) (_m : Master) (src : Nat) (s : State) (h_s : μ.ok s) : μ.okOut (execUtxLoSrcWrite n _m src s) := by
  unfold execUtxLoSrcWrite
  try dsimp only
  repeat' (first | with_reducible assumption | with_reducible apply Keep.State_loSrc | with_reducible apply Keep.next | with_reducible apply Keep.ite | with_reducible apply Keep.iteO)

theorem Keep.c_execPaRailReached {μ : Mark} (s : State) (h_s : μ.ok s) : μ.okOut (execPaRailReached s) := by
  unfold execPaRailReached
  try dsimp only
  repeat' (first | with_reducible assumption | intro _ | with_reducible apply Keep.forN | with_reducible apply Keep.State_utxProgress | with_reducible apply Keep.next | with_reducible apply Keep.ite | with_reducible apply Keep.iteO | with_reducible apply Keep.mk)

theorem Keep.c_execAntennaSettle {μ : Mark} (n : Nat) (s : State) (h_s : μ.ok s) : μ.okOut (execAntennaSettle n s) := by
  unfold execAntennaSettle
  try dsimp only
  repeat' (first | with_reducible assumption | with_reducible apply Keep.State_setUtx | with_reducible apply Keep.State_utxProgress | with_reducible apply Keep.next | with_reducible apply Keep.ite | with_reducible apply Keep.iteO | with_reducible apply Keep.mk)

end Sys2Proof.Machine
end

