-- ==== Sys2Proof/Laws/KeepWnw.lean ====
section
/-! SUPPORT. What the operations of Machine/Wnw.lean keep of a mark. -/

namespace Sys2Proof.Machine

open Sys2Proof

set_option linter.unreachableTactic false
set_option linter.unusedTactic false

theorem Keep.State_censAdd {μ : Mark} (s : State) (sh k n : Nat) (h_s : μ.ok s) : μ.ok (State.censAdd s sh k n) := by
  unfold State.censAdd
  try dsimp only
  repeat' (first | with_reducible assumption | intro _ | with_reducible apply Keep.set | with_reducible apply Keep.ite | with_reducible apply Keep.getD | with_reducible apply Keep.mk)

theorem Keep.State_censCount {μ : Mark} (s : State) (sh : Nat) (kind : ReplyKind) (v : Verdict) (pcFail miss : Bool) (h_s : μ.ok s) : μ.ok (State.censCount s sh kind v pcFail miss) := by
  unfold State.censCount
  try dsimp only
  repeat' (first | with_reducible assumption | intro _ | with_reducible apply Keep.when | with_reducible apply Keep.State_censAdd | with_reducible apply Keep.State_censusLatch | with_reducible apply Keep.ite | with_reducible apply Keep.getD)

theorem Keep.State_wnwReport {μ : Mark} (s : State) (sh seq : Nat) (f : Frame) (cfg : WnwCfg) (v : Verdict) (ev : ReplyEvidence) (crcOk isEmpty : Bool) (h_s : μ.ok s) : μ.ok (State.wnwReport s sh seq f cfg v ev crcOk isEmpty) := by
  unfold State.wnwReport
  try dsimp only
  repeat' (first | with_reducible assumption | intro _ | with_reducible apply Keep.set | with_reducible apply Keep.when | with_reducible apply Keep.State_bump | with_reducible apply Keep.State_setEng | with_reducible apply Keep.State_censCount | with_reducible apply Keep.ite | with_reducible apply Keep.getD | with_reducible apply Keep.mk)

end Sys2Proof.Machine
end

