-- ==== Sys2Proof/Laws/KeepEng.lean ====
section
/-! SUPPORT. What the operations of Machine/Eng.lean keep of a mark. -/

namespace Sys2Proof.Machine

open Sys2Proof

set_option linter.unreachableTactic false
set_option linter.unusedTactic false

theorem Keep.State_beginFrame {μ : Mark} (s : State) (sh : Nat) (f : Frame) (on : List Nat) (h_s : μ.ok s) : μ.ok (State.beginFrame s sh f on) := by
  unfold State.beginFrame
  try dsimp only
  repeat' (first | with_reducible assumption | intro _ | with_reducible apply Keep.forL | with_reducible apply Keep.State_setEng | with_reducible apply Keep.State_setUrx | with_reducible apply Keep.State_setUtx | with_reducible apply Keep.State_setUst | with_reducible apply Keep.ite | with_reducible apply Keep.getD | with_reducible apply Keep.mkMem | with_reducible apply Keep.mkRegs | with_reducible apply Keep.mkRegsFilter | with_reducible apply Keep.mkReset | with_reducible apply Keep.mk)

theorem Keep.State_lateFrame {μ : Mark} (s : State) (sh : Nat) (f : Frame) (h_s : μ.ok s) : μ.ok (State.lateFrame s sh f) := by
  unfold State.lateFrame
  try dsimp only
  repeat' (first | with_reducible assumption | intro _ | with_reducible apply Keep.set | with_reducible apply Keep.forL | with_reducible apply Keep.State_beginFrame | with_reducible apply Keep.ite)

theorem Keep.State_issueFrame {μ : Mark} (s : State) (n sh : Nat) (f : Frame) (h_s : μ.ok s) : μ.ok (State.issueFrame s n sh f) := by
  unfold State.issueFrame
  try dsimp only
  repeat' (first | with_reducible assumption | intro _ | with_reducible apply Keep.set | with_reducible apply Keep.forL | with_reducible apply Keep.State_bump | with_reducible apply Keep.State_setEng | with_reducible apply Keep.State_lateFrame | with_reducible apply Keep.State_beginFrame | with_reducible apply Keep.ite | with_reducible apply Keep.mk)

theorem Keep.State_txfUhf {μ : Mark} (s : State) (n sh fidx : Nat) (h_s : μ.ok s) : μ.okSum (State.txfUhf s n sh fidx) := by
  unfold State.txfUhf
  try dsimp only
  repeat' (first | with_reducible assumption | intro _ | with_reducible apply Keep.forL | with_reducible apply Keep.State_utxRefuse | with_reducible apply Keep.State_issueFrame | with_reducible apply Keep.ite | with_reducible apply Keep.iteS | with_reducible apply Keep.inl | with_reducible apply Keep.inr)

theorem Keep.State_frameEnd {μ : Mark} (s : State) (sh : Nat) (f : Frame) (h_s : μ.ok s) : μ.ok (State.frameEnd s sh f) := by
  unfold State.frameEnd
  try dsimp only
  repeat' (first | with_reducible assumption | intro _ | with_reducible apply Keep.forL | with_reducible apply Keep.State_setEng | with_reducible apply Keep.State_sheafEvent | with_reducible apply Keep.State_setUtx | with_reducible apply Keep.State_setUst | with_reducible apply Keep.State_refreshPwr | with_reducible apply Keep.State_utxProgress | with_reducible apply Keep.ite | with_reducible apply Keep.iteP | with_reducible apply Keep.mk)

theorem Keep.c_execFrameEnd {μ : Mark} (sh : Nat) (s : State) (h_s : μ.ok s) : μ.okOut (execFrameEnd sh s) := by
  unfold execFrameEnd
  try dsimp only
  repeat' (first | with_reducible assumption | with_reducible apply Keep.State_frameEnd | with_reducible apply Keep.next | with_reducible apply Keep.ite | with_reducible apply Keep.iteO | split | with_reducible refine Keep.fromSome (by with_reducible assumption) ?_ | with_reducible refine Keep.fromInr (by with_reducible assumption) ?_ | with_reducible refine Keep.fromInl (by with_reducible assumption) ?_ | with_reducible refine Keep.fromPair (by with_reducible assumption) ?_ | with_reducible refine Keep.fromPair1 (by with_reducible assumption) ?_)

theorem Keep.c_execTurnaroundEdge {μ : Mark} (sh : Nat) (s : State) (h_s : μ.ok s) : μ.okOut (execTurnaroundEdge sh s) := by
  unfold execTurnaroundEdge
  try dsimp only
  repeat' (first | with_reducible assumption | with_reducible apply Keep.State_beginFrame | with_reducible apply Keep.State_setEng | with_reducible apply Keep.next | with_reducible apply Keep.ite | with_reducible apply Keep.iteO | split | with_reducible refine Keep.fromSome (by with_reducible assumption) ?_ | with_reducible refine Keep.fromInr (by with_reducible assumption) ?_ | with_reducible refine Keep.fromInl (by with_reducible assumption) ?_ | with_reducible refine Keep.fromPair (by with_reducible assumption) ?_ | with_reducible refine Keep.fromPair1 (by with_reducible assumption) ?_ | with_reducible apply Keep.mk)

theorem Keep.c_execFrameHoldRelease {μ : Mark} (sh : Nat) (s : State) (h_s : μ.ok s) : μ.okOut (execFrameHoldRelease sh s) := by
  unfold execFrameHoldRelease
  try dsimp only
  repeat' (first | with_reducible assumption | with_reducible apply Keep.State_setEng | with_reducible apply Keep.State_beginFrame | with_reducible apply Keep.next | with_reducible apply Keep.ite | with_reducible apply Keep.iteO | split | with_reducible refine Keep.fromSome (by with_reducible assumption) ?_ | with_reducible refine Keep.fromInr (by with_reducible assumption) ?_ | with_reducible refine Keep.fromInl (by with_reducible assumption) ?_ | with_reducible refine Keep.fromPair (by with_reducible assumption) ?_ | with_reducible refine Keep.fromPair1 (by with_reducible assumption) ?_ | with_reducible apply Keep.mk)

theorem Keep.State_beamApply {μ : Mark} (s : State) (sh : Nat) (h_s : μ.ok s) : μ.ok (State.beamApply s sh) := by
  unfold State.beamApply
  try dsimp only
  repeat' (first | with_reducible assumption | intro _ | with_reducible apply Keep.forL | with_reducible apply Keep.State_setSheaf | with_reducible apply Keep.State_steer | with_reducible apply Keep.ite | split | with_reducible refine Keep.fromSome (by with_reducible assumption) ?_ | with_reducible refine Keep.fromInr (by with_reducible assumption) ?_ | with_reducible refine Keep.fromInl (by with_reducible assumption) ?_ | with_reducible refine Keep.fromPair (by with_reducible assumption) ?_ | with_reducible refine Keep.fromPair1 (by with_reducible assumption) ?_ | with_reducible apply Keep.mk)

theorem Keep.State_windowOpen {μ : Mark} (s : State) (sh : Nat) (f : Frame) (h_s : μ.ok s) : μ.ok (State.windowOpen s sh f) := by
  unfold State.windowOpen
  try dsimp only
  repeat' (first | with_reducible assumption | with_reducible apply Keep.State_beamApply | with_reducible apply Keep.State_setEng | with_reducible apply Keep.ite | with_reducible apply Keep.mk)

theorem Keep.c_execReceiveReady {μ : Mark} (sh : Nat) (s : State) (h_s : μ.ok s) : μ.okOut (execReceiveReady sh s) := by
  unfold execReceiveReady
  try dsimp only
  repeat' (first | with_reducible assumption | intro _ | with_reducible apply Keep.forL | with_reducible apply Keep.State_setUst | with_reducible apply Keep.State_rxOpenCw | with_reducible apply Keep.State_windowOpen | with_reducible apply Keep.State_utxProgress | with_reducible apply Keep.next | with_reducible apply Keep.ite | with_reducible apply Keep.iteO | split | with_reducible refine Keep.fromSome (by with_reducible assumption) ?_ | with_reducible refine Keep.fromInr (by with_reducible assumption) ?_ | with_reducible refine Keep.fromInl (by with_reducible assumption) ?_ | with_reducible refine Keep.fromPair (by with_reducible assumption) ?_ | with_reducible refine Keep.fromPair1 (by with_reducible assumption) ?_)

theorem Keep.c_execPreambleDetect {μ : Mark} (sh : Nat) (s : State) (h_s : μ.ok s) : μ.okOut (execPreambleDetect sh s) := by
  unfold execPreambleDetect
  try dsimp only
  repeat' (first | with_reducible assumption | intro _ | with_reducible apply Keep.forL | with_reducible apply Keep.State_setEng | with_reducible apply Keep.State_setUrx | with_reducible apply Keep.next | with_reducible apply Keep.ite | with_reducible apply Keep.iteO | with_reducible apply Keep.mk)

theorem Keep.State_rxOutputs {μ : Mark} (s : State) (sh seq : Nat) (isEmpty : Bool) (ev : ReplyEvidence) (h_s : μ.ok s) : μ.ok (State.rxOutputs s sh seq isEmpty ev) := by
  unfold State.rxOutputs
  try dsimp only
  repeat' (first | with_reducible assumption | intro _ | with_reducible apply Keep.set | with_reducible apply Keep.forL | with_reducible apply Keep.State_setUrx | with_reducible apply Keep.State_bump | with_reducible apply Keep.ite | with_reducible apply Keep.getD | with_reducible apply Keep.mk)

theorem Keep.State_recFill {μ : Mark} (s : State) (n cls port chan pc rssi : Nat) (epc xpc : List Nat) (h_s : μ.ok s) : μ.ok (State.recFill s n cls port chan pc rssi epc xpc) := by
  unfold State.recFill
  try dsimp only
  repeat' (first | with_reducible assumption | with_reducible apply Keep.State_setSeq | with_reducible apply Keep.ite | with_reducible apply Keep.mk)

theorem Keep.State_recUhf {μ : Mark} (s : State) (n sh : Nat) (f : Frame) (v : Verdict) (capt : Bool) (ev : ReplyEvidence) (h_s : μ.ok s) : μ.ok (State.recUhf s n sh f v capt ev) := by
  unfold State.recUhf
  try dsimp only
  repeat' (first | with_reducible assumption | intro _ | with_reducible apply Keep.fresh | with_reducible apply Keep.State_recFill | with_reducible apply Keep.ite | with_reducible apply Keep.iteP | with_reducible apply Keep.getD)

theorem Keep.State_seqDecision {μ : Mark} (s : State) (n rxstat : Nat) (payload : List Bool) (h_s : μ.ok s) : μ.ok (State.seqDecision s n rxstat payload) := by
  unfold State.seqDecision
  try dsimp only
  repeat' (first | with_reducible assumption | with_reducible apply Keep.wrBytes | with_reducible apply Keep.State_freshPar | with_reducible apply Keep.State_setSeq | with_reducible apply Keep.State_seqEvent | with_reducible apply Keep.State_bump | with_reducible apply Keep.ite | with_reducible apply Keep.iteP | with_reducible apply Keep.mk)

theorem Keep.State_decideWindow {μ : Mark} (s : State) (sh : Nat) (f : Frame) (isEmpty : Bool) (ev : ReplyEvidence) (h_s : μ.ok s) : μ.ok (State.decideWindow s sh f isEmpty ev) := by
  unfold State.decideWindow
  try dsimp only
  repeat' (first | with_reducible assumption | intro _ | with_reducible apply Keep.set | with_reducible apply Keep.State_setEng | with_reducible apply Keep.State_rxOutputs | with_reducible apply Keep.State_wnwReport | with_reducible apply Keep.State_seqDecision | with_reducible apply Keep.State_recUhf | with_reducible apply Keep.State_setSheaf | with_reducible apply Keep.foldl | with_reducible apply Keep.ite | with_reducible apply Keep.getD | with_reducible apply Keep.mk)

theorem Keep.c_execReplyDecision {μ : Mark} (sh : Nat) (ev : ReplyEvidence) (s : State) (h_s : μ.ok s) : μ.okOut (execReplyDecision sh ev s) := by
  unfold execReplyDecision
  try dsimp only
  repeat' (first | with_reducible assumption | with_reducible apply Keep.State_decideWindow | with_reducible apply Keep.next | with_reducible apply Keep.ite | with_reducible apply Keep.iteO | split | with_reducible refine Keep.fromSome (by with_reducible assumption) ?_ | with_reducible refine Keep.fromInr (by with_reducible assumption) ?_ | with_reducible refine Keep.fromInl (by with_reducible assumption) ?_ | with_reducible refine Keep.fromPair (by with_reducible assumption) ?_ | with_reducible refine Keep.fromPair1 (by with_reducible assumption) ?_)

theorem Keep.c_execEmptyDecision {μ : Mark} (sh : Nat) (ev : ReplyEvidence) (s : State) (h_s : μ.ok s) : μ.okOut (execEmptyDecision sh ev s) := by
  unfold execEmptyDecision
  try dsimp only
  repeat' (first | with_reducible assumption | with_reducible apply Keep.State_decideWindow | with_reducible apply Keep.next | with_reducible apply Keep.ite | with_reducible apply Keep.iteO | split | with_reducible refine Keep.fromSome (by with_reducible assumption) ?_ | with_reducible refine Keep.fromInr (by with_reducible assumption) ?_ | with_reducible refine Keep.fromInl (by with_reducible assumption) ?_ | with_reducible refine Keep.fromPair (by with_reducible assumption) ?_ | with_reducible refine Keep.fromPair1 (by with_reducible assumption) ?_)

theorem Keep.State_cfParsed {μ : Mark} (s : State) (sh : Nat) (b : List Bool) (h_s : μ.ok s) : μ.ok (State.cfParsed s sh b) := by
  unfold State.cfParsed
  try dsimp only
  repeat' (first | with_reducible assumption | intro _ | with_reducible apply Keep.set | with_reducible apply Keep.forL | with_reducible apply Keep.State_bump | with_reducible apply Keep.State_setSeq | with_reducible apply Keep.State_setEng | with_reducible apply Keep.State_seqEvent | with_reducible apply Keep.State_setSheaf | with_reducible apply Keep.State_rxEnter | with_reducible apply Keep.State_rxGain | with_reducible apply Keep.State_windowOpen | with_reducible apply Keep.ite | with_reducible apply Keep.mk)

theorem Keep.c_execCfCommandParsed {μ : Mark} (sh : Nat) (b : List Bool) (level : Nat) (s : State) (h_s : μ.ok s) : μ.okOut (execCfCommandParsed sh b level s) := by
  unfold execCfCommandParsed
  try dsimp only
  repeat' (first | with_reducible assumption | with_reducible apply Keep.set | with_reducible apply Keep.State_cfLevel | with_reducible apply Keep.State_setEng | with_reducible apply Keep.State_bump | with_reducible apply Keep.State_cfParsed | with_reducible apply Keep.next | with_reducible apply Keep.ite | with_reducible apply Keep.iteO | with_reducible apply Keep.mk)

end Sys2Proof.Machine
end

