-- ==== Sys2Proof/Laws/KeepAtbOps.lean ====
section
/-! SUPPORT. What the operations of Machine/AtbOps.lean keep of a mark. -/

namespace Sys2Proof.Machine

open Sys2Proof

set_option linter.unreachableTactic false
set_option linter.unusedTactic false

theorem Keep.State_updAtb {μ : Mark} (s : State) (g : Atb → Atb) (h_s : μ.ok s) : μ.ok (State.updAtb s g) := by
  unfold State.updAtb
  try dsimp only
  repeat' (first | with_reducible assumption | with_reducible apply Keep.ite | with_reducible apply Keep.mk)

theorem Keep.State_synthSteer {μ : Mark} (s : State) (t : Nat) (h_s : μ.ok s) : μ.ok (State.synthSteer s t) := by
  unfold State.synthSteer
  try dsimp only
  repeat' (first | with_reducible assumption | intro _ | with_reducible apply Keep.State_updAtb | with_reducible apply Keep.ite | split | with_reducible refine Keep.fromSome (by with_reducible assumption) ?_ | with_reducible refine Keep.fromInr (by with_reducible assumption) ?_ | with_reducible refine Keep.fromInl (by with_reducible assumption) ?_ | with_reducible refine Keep.fromPair (by with_reducible assumption) ?_ | with_reducible refine Keep.fromPair1 (by with_reducible assumption) ?_ | with_reducible apply Keep.mk)

theorem Keep.State_pdBegin {μ : Mark} (s : State) (h_s : μ.ok s) : μ.ok (State.pdBegin s) := by
  unfold State.pdBegin
  try dsimp only
  repeat' (first | with_reducible assumption | with_reducible apply Keep.ite | with_reducible apply Keep.mk)

theorem Keep.State_pdBoundary {μ : Mark} (s : State) (h_s : μ.ok s) : μ.ok (State.pdBoundary s) := by
  unfold State.pdBoundary
  try dsimp only
  repeat' (first | with_reducible assumption | with_reducible apply Keep.State_pdBegin | with_reducible apply Keep.ite | split | with_reducible refine Keep.fromSome (by with_reducible assumption) ?_ | with_reducible refine Keep.fromInr (by with_reducible assumption) ?_ | with_reducible refine Keep.fromInl (by with_reducible assumption) ?_ | with_reducible refine Keep.fromPair (by with_reducible assumption) ?_ | with_reducible refine Keep.fromPair1 (by with_reducible assumption) ?_ | with_reducible apply Keep.mk)

theorem Keep.State_pdTrigger {μ : Mark} (s : State) (h_s : μ.ok s) : μ.ok (State.pdTrigger s) := by
  unfold State.pdTrigger
  try dsimp only
  repeat' (first | with_reducible assumption | with_reducible apply Keep.State_pdBegin | with_reducible apply Keep.ite)

theorem Keep.State_pdSpoil {μ : Mark} (s : State) (h_s : μ.ok s) : μ.ok (State.pdSpoil s) := by
  unfold State.pdSpoil
  try dsimp only
  repeat' (first | with_reducible assumption | with_reducible apply Keep.ite | with_reducible apply Keep.mk)

theorem Keep.State_aevFire {μ : Mark} (s : State) (ev : Nat) (h_s : μ.ok s) : μ.ok (State.aevFire s ev) := by
  unfold State.aevFire
  try dsimp only
  repeat' (first | with_reducible assumption | intro _ | with_reducible apply Keep.set | with_reducible apply Keep.forN | with_reducible apply Keep.State_setBit | with_reducible apply Keep.State_seqEvent | with_reducible apply Keep.State_pdTrigger | with_reducible apply Keep.State_pulse | with_reducible apply Keep.ite | with_reducible apply Keep.mk)

theorem Keep.State_aevPass {μ : Mark} (s : State) (lo hi : Nat) (h_s : μ.ok s) : μ.ok (State.aevPass s lo hi) := by
  unfold State.aevPass
  try dsimp only
  repeat' (first | with_reducible assumption | intro _ | with_reducible apply Keep.forN | with_reducible apply Keep.State_aevFire | with_reducible apply Keep.ite)

theorem Keep.State_prepMark {μ : Mark} (s : State) (k : Nat) (e : List Nat) (on : Bool) (h_s : μ.ok s) : μ.ok (State.prepMark s k e on) := by
  unfold State.prepMark
  try dsimp only
  repeat' (first | with_reducible assumption | intro _ | with_reducible apply Keep.set | with_reducible apply Keep.forL | with_reducible apply Keep.ite | with_reducible apply Keep.mk)

theorem Keep.State_slotPrep {μ : Mark} (s : State) (k : Nat) (e : List Nat) (cyc : Nat) (h_s : μ.ok s) : μ.ok (State.slotPrep s k e cyc) := by
  unfold State.slotPrep
  try dsimp only
  repeat' (first | with_reducible assumption | intro _ | with_reducible apply Keep.set | with_reducible apply Keep.State_updAtb | with_reducible apply Keep.State_prepMark | with_reducible apply Keep.ite | with_reducible apply Keep.mk)  -- REC

theorem Keep.State_slotCut {μ : Mark} (s : State) (e : List Nat) (h_s : μ.ok s) : μ.ok (State.slotCut s e) := by
  unfold State.slotCut
  try dsimp only
  repeat' (first | with_reducible assumption | intro _ | with_reducible apply Keep.set | with_reducible apply Keep.forL | with_reducible apply Keep.State_rgeLog | with_reducible apply Keep.State_bump | with_reducible apply Keep.State_withdraw | with_reducible apply Keep.ite)

theorem Keep.State_seqOver {μ : Mark} (s : State) (n : Nat) (h_s : μ.ok s) : μ.ok (State.seqOver s n) := by
  unfold State.seqOver
  try dsimp only
  repeat' (first | with_reducible assumption | with_reducible apply Keep.State_seqEvent | with_reducible apply Keep.State_setOps | with_reducible apply Keep.ite | split | with_reducible refine Keep.fromSome (by with_reducible assumption) ?_ | with_reducible refine Keep.fromInr (by with_reducible assumption) ?_ | with_reducible refine Keep.fromInl (by with_reducible assumption) ?_ | with_reducible refine Keep.fromPair (by with_reducible assumption) ?_ | with_reducible refine Keep.fromPair1 (by with_reducible assumption) ?_ | with_reducible apply Keep.mk)

theorem Keep.State_slotEndLease {μ : Mark} (s : State) (sh : Nat) (h_s : μ.ok s) : μ.ok (State.slotEndLease s sh) := by
  unfold State.slotEndLease
  try dsimp only
  repeat' (first | with_reducible assumption | with_reducible apply Keep.set | with_reducible apply Keep.State_seqOver | with_reducible apply Keep.State_setOps | with_reducible apply Keep.State_seqEvent | with_reducible apply Keep.State_leaseEnd | with_reducible apply Keep.ite | split | with_reducible refine Keep.fromSome (by with_reducible assumption) ?_ | with_reducible refine Keep.fromInr (by with_reducible assumption) ?_ | with_reducible refine Keep.fromInl (by with_reducible assumption) ?_ | with_reducible refine Keep.fromPair (by with_reducible assumption) ?_ | with_reducible refine Keep.fromPair1 (by with_reducible assumption) ?_ | with_reducible apply Keep.mk)

theorem Keep.State_slotEnd {μ : Mark} (s : State) (sh : Nat) (h_s : μ.ok s) : μ.ok (State.slotEnd s sh) := by
  unfold State.slotEnd
  try dsimp only
  repeat' (first | with_reducible assumption | intro _ | with_reducible apply Keep.set | with_reducible apply Keep.forL | with_reducible apply Keep.State_updAtb | with_reducible apply Keep.State_setBit | with_reducible apply Keep.State_slotCut | with_reducible apply Keep.State_rxCloseForeign | with_reducible apply Keep.State_setEng | with_reducible apply Keep.State_slotEndLease | with_reducible apply Keep.ite | with_reducible apply Keep.mk)

theorem Keep.State_slotEndAll {μ : Mark} (s : State) (h_s : μ.ok s) : μ.ok (State.slotEndAll s) := by
  unfold State.slotEndAll
  try dsimp only
  repeat' (first | with_reducible assumption | intro _ | with_reducible apply Keep.forN | with_reducible apply Keep.State_slotEnd | with_reducible apply Keep.ite)

theorem Keep.State_slotCheck {μ : Mark} (s : State) (h_s : μ.ok s) : μ.ok (State.slotCheck s) := by
  unfold State.slotCheck
  try dsimp only
  repeat' (first | with_reducible assumption | with_reducible apply Keep.State_slotEndAll | with_reducible apply Keep.ite)

theorem Keep.State_slotSuppress {μ : Mark} (s : State) (k : Nat) (e : List Nat) (h_s : μ.ok s) : μ.ok (State.slotSuppress s k e) := by
  unfold State.slotSuppress
  try dsimp only
  repeat' (first | with_reducible assumption | intro _ | with_reducible apply Keep.set | with_reducible apply Keep.State_updAtb | with_reducible apply Keep.State_prepMark | with_reducible apply Keep.State_sheafEvent | with_reducible apply Keep.ite | with_reducible apply Keep.mk)

theorem Keep.State_listenStart {μ : Mark} (s : State) (sh : Nat) (h_s : μ.ok s) : μ.ok (State.listenStart s sh) := by
  unfold State.listenStart
  try dsimp only
  repeat' (first | with_reducible assumption | with_reducible apply Keep.set | with_reducible apply Keep.State_rxOpenForeign | with_reducible apply Keep.State_setSheaf | with_reducible apply Keep.ite | with_reducible apply Keep.mk)

theorem Keep.State_windowStart {μ : Mark} (s : State) (c k : Nat) (h_s : μ.ok s) : μ.ok (State.windowStart s c k) := by
  unfold State.windowStart
  try dsimp only
  repeat' (first | with_reducible assumption | with_reducible apply Keep.set | with_reducible apply Keep.State_setBit | with_reducible apply Keep.State_unPre | with_reducible apply Keep.State_rgeDecide | with_reducible apply Keep.ite | with_reducible apply Keep.mk)

theorem Keep.State_slotRun {μ : Mark} (s : State) (k : Nat) (e : List Nat) (h_s : μ.ok s) : μ.ok (State.slotRun s k e) := by
  unfold State.slotRun
  try dsimp only
  repeat' (first | with_reducible assumption | intro _ | with_reducible apply Keep.set | with_reducible apply Keep.forL | with_reducible apply Keep.State_updAtb | with_reducible apply Keep.State_setBit | with_reducible apply Keep.State_setSheaf | with_reducible apply Keep.State_setSeq | with_reducible apply Keep.State_listenStart | with_reducible apply Keep.State_seqEvent | with_reducible apply Keep.State_windowStart | with_reducible apply Keep.ite | with_reducible apply Keep.mk)

theorem Keep.State_stepPass {μ : Mark} (s : State) (a b : Nat) (h_s : μ.ok s) : μ.ok (State.stepPass s a b) := by
  unfold State.stepPass
  try dsimp only
  repeat' (first | with_reducible assumption | intro _ | with_reducible apply Keep.forL | with_reducible apply Keep.State_slotSuppress | with_reducible apply Keep.State_slotPrep | with_reducible apply Keep.ite)

theorem Keep.State_stepPassNext {μ : Mark} (s : State) (b : Nat) (h_s : μ.ok s) : μ.ok (State.stepPassNext s b) := by
  unfold State.stepPassNext
  try dsimp only
  repeat' (first | with_reducible assumption | intro _ | with_reducible apply Keep.forN | with_reducible apply Keep.State_slotPrep | with_reducible apply Keep.ite)

theorem Keep.State_stepShort {μ : Mark} (s : State) (new : Nat) (h_s : μ.ok s) : μ.ok (State.stepShort s new) := by
  unfold State.stepShort
  try dsimp only
  repeat' (first | with_reducible assumption | intro _ | with_reducible apply Keep.State_slotEndAll | with_reducible apply Keep.State_pdSpoil | with_reducible apply Keep.State_stepPass | with_reducible apply Keep.State_stepPassNext | with_reducible apply Keep.State_updAtb | with_reducible apply Keep.State_aevPass | with_reducible apply Keep.ite | with_reducible apply Keep.mk)

theorem Keep.State_atbEnter {μ : Mark} (s : State) (st : Nat) (h_s : μ.ok s) : μ.ok (State.atbEnter s st) := by
  unfold State.atbEnter
  try dsimp only
  repeat' (first | with_reducible assumption | intro _ | with_reducible apply Keep.set | with_reducible apply Keep.when | with_reducible apply Keep.State_updAtb | with_reducible apply Keep.State_synthSteer | with_reducible apply Keep.State_pdSpoil | with_reducible apply Keep.State_slotCheck | with_reducible apply Keep.ite | with_reducible apply Keep.mk)

theorem Keep.State_offsetApply {μ : Mark} (s : State) (h_s : μ.ok s) : μ.ok (State.offsetApply s) := by
  unfold State.offsetApply
  try dsimp only
  repeat' (first | with_reducible assumption | intro _ | with_reducible apply Keep.State_pdSpoil | with_reducible apply Keep.State_updAtb | with_reducible apply Keep.State_atbEnter | with_reducible apply Keep.ite | with_reducible apply Keep.mk)

theorem Keep.State_offsetPass {μ : Mark} (s : State) (cyc : Nat) (h_s : μ.ok s) : μ.ok (State.offsetPass s cyc) := by
  unfold State.offsetPass
  try dsimp only
  repeat' (first | with_reducible assumption | with_reducible apply Keep.State_stepPass | with_reducible apply Keep.State_stepPassNext | with_reducible apply Keep.State_aevPass | with_reducible apply Keep.ite)

theorem Keep.State_adjApply {μ : Mark} (s : State) (h_s : μ.ok s) : μ.ok (State.adjApply s) := by
  unfold State.adjApply
  try dsimp only
  repeat' (first | with_reducible assumption | intro _ | with_reducible apply Keep.set | with_reducible apply Keep.State_updAtb | with_reducible apply Keep.ite | with_reducible apply Keep.mk)

theorem Keep.State_planSwap {μ : Mark} (s : State) (h_s : μ.ok s) : μ.ok (State.planSwap s) := by
  unfold State.planSwap
  try dsimp only
  repeat' (first | with_reducible assumption | intro _ | with_reducible apply Keep.set | with_reducible apply Keep.State_updAtb | with_reducible apply Keep.ite | with_reducible apply Keep.mk)

theorem Keep.State_prepClean {μ : Mark} (s : State) (h_s : μ.ok s) : μ.ok (State.prepClean s) := by
  unfold State.prepClean
  try dsimp only
  repeat' (first | with_reducible assumption | intro _ | with_reducible apply Keep.set | with_reducible apply Keep.forN | with_reducible apply Keep.foldl | with_reducible apply Keep.ite | with_reducible apply Keep.mk)

theorem Keep.State_boundary {μ : Mark} (s : State) (ns : Nat) (h_s : μ.ok s) : μ.ok (State.boundary s ns) := by
  unfold State.boundary
  try dsimp only
  repeat' (first | with_reducible assumption | intro _ | with_reducible apply Keep.set | with_reducible apply Keep.when | with_reducible apply Keep.State_slotEndAll | with_reducible apply Keep.State_updAtb | with_reducible apply Keep.State_adjApply | with_reducible apply Keep.State_pdBoundary | with_reducible apply Keep.State_offsetApply | with_reducible apply Keep.State_planSwap | with_reducible apply Keep.State_prepClean | with_reducible apply Keep.State_offsetPass | with_reducible apply Keep.State_synthSteer | with_reducible apply Keep.ite | with_reducible apply Keep.mk)

theorem Keep.State_phaseStep {μ : Mark} (s : State) (new : Nat) (h_s : μ.ok s) : μ.ok (State.phaseStep s new) := by
  unfold State.phaseStep
  try dsimp only
  repeat' (first | with_reducible assumption | intro _ | with_reducible apply Keep.State_slotEndAll | with_reducible apply Keep.State_stepPass | with_reducible apply Keep.State_aevPass | with_reducible apply Keep.State_boundary | with_reducible apply Keep.State_stepPassNext | with_reducible apply Keep.State_updAtb | with_reducible apply Keep.State_pdSpoil | with_reducible apply Keep.State_stepShort | with_reducible apply Keep.ite | with_reducible apply Keep.mk)

theorem Keep.State_synthEnter {μ : Mark} (s : State) (h_s : μ.ok s) : μ.ok (State.synthEnter s) := by
  unfold State.synthEnter
  try dsimp only
  repeat' (first | with_reducible assumption | with_reducible apply Keep.State_atbEnter | with_reducible apply Keep.State_phaseStep | with_reducible apply Keep.State_synthSteer | with_reducible apply Keep.ite | split | with_reducible refine Keep.fromSome (by with_reducible assumption) ?_ | with_reducible refine Keep.fromInr (by with_reducible assumption) ?_ | with_reducible refine Keep.fromInl (by with_reducible assumption) ?_ | with_reducible refine Keep.fromPair (by with_reducible assumption) ?_ | with_reducible refine Keep.fromPair1 (by with_reducible assumption) ?_)

theorem Keep.State_angleTo {μ : Mark} (s : State) (a : Nat) (h_s : μ.ok s) : μ.ok (State.angleTo s a) := by
  unfold State.angleTo
  try dsimp only
  repeat' (first | with_reducible assumption | intro _ | with_reducible apply Keep.State_updAtb | with_reducible apply Keep.ite | with_reducible apply Keep.mk)

end Sys2Proof.Machine
end

