-- ==== Sys2Proof/Laws/KeepBud.lean ====
section
/-! SUPPORT. What the operations of Machine/Bud.lean keep of a mark. -/

namespace Sys2Proof.Machine

open Sys2Proof

set_option linter.unreachableTactic false
set_option linter.unusedTactic false

theorem Keep.State_prepServe {μ : Mark} (s : State) (e : List Nat) (h_s : μ.ok s) : μ.ok (State.prepServe s e) := by
  unfold State.prepServe
  try dsimp only
  repeat' (first | with_reducible assumption | with_reducible apply Keep.ite | with_reducible apply Keep.mk)

end Sys2Proof.Machine
end

