-- ==== Sys2Proof/Laws/KeepRegAcc.lean ====
section
/-! SUPPORT. What the operations of Machine/RegAcc.lean keep of a mark. -/

namespace Sys2Proof.Machine

open Sys2Proof

set_option linter.unreachableTactic false
set_option linter.unusedTactic false

theorem Keep.State_setSeen {μ : Mark} (s : State) (f : Fld) (n v : Nat) (h_s : μ.ok s) : μ.ok (State.setSeen s f n v) := by
  unfold State.setSeen
  try dsimp only
  repeat' (first | with_reducible assumption | with_reducible apply Keep.set | with_reducible apply Keep.ite | with_reducible apply Keep.mk)

theorem Keep.State_rcClear {μ : Mark} (s : State) (fs : List (Fld × Nat)) (m : Nat) (h_s : μ.ok s) : μ.ok (State.rcClear s fs m) := by
  unfold State.rcClear
  try dsimp only
  repeat' (first | with_reducible assumption | intro _ | with_reducible apply Keep.set | with_reducible apply Keep.forL | with_reducible apply Keep.State_setSeen | with_reducible apply Keep.ite)

theorem Keep.State_voteClean {μ : Mark} (s : State) (k : Nat) (h_s : μ.ok s) : μ.ok (State.voteClean s k) := by
  unfold State.voteClean
  try dsimp only
  repeat' (first | with_reducible assumption | with_reducible apply Keep.set | with_reducible apply Keep.ite | with_reducible apply Keep.mk)

theorem Keep.State_plainWrite {μ : Mark} (s : State) (fs : List (Fld × Nat)) (v m : Nat) (h_s : μ.ok s) : μ.ok (State.plainWrite s fs v m) := by
  unfold State.plainWrite
  try dsimp only
  repeat' (first | with_reducible assumption | intro _ | with_reducible apply Keep.forL | with_reducible apply Keep.State_setSeen | with_reducible apply Keep.State_voteClean | with_reducible apply Keep.ite | split | with_reducible refine Keep.fromSome (by with_reducible assumption) ?_ | with_reducible refine Keep.fromInr (by with_reducible assumption) ?_ | with_reducible refine Keep.fromInl (by with_reducible assumption) ?_ | with_reducible refine Keep.fromPair (by with_reducible assumption) ?_ | with_reducible refine Keep.fromPair1 (by with_reducible assumption) ?_ | with_reducible apply Keep.mk)

theorem Keep.State_aonEdge {μ : Mark} (s : State) (h_s : μ.ok s) : μ.ok (State.aonEdge s) := by
  unfold State.aonEdge
  try dsimp only
  repeat' (first | with_reducible assumption | intro _ | with_reducible apply Keep.set | with_reducible apply Keep.forL | with_reducible apply Keep.ite | split | with_reducible refine Keep.fromSome (by with_reducible assumption) ?_ | with_reducible refine Keep.fromInr (by with_reducible assumption) ?_ | with_reducible refine Keep.fromInl (by with_reducible assumption) ?_ | with_reducible refine Keep.fromPair (by with_reducible assumption) ?_ | with_reducible refine Keep.fromPair1 (by with_reducible assumption) ?_ | with_reducible apply Keep.mk)

theorem Keep.State_latch {μ : Mark} (s : State) (lo : Nat) (m : Master) (hi : Nat) (h_s : μ.ok s) : μ.ok (State.latch s lo m hi) := by
  unfold State.latch
  try dsimp only
  repeat' (first | with_reducible assumption | with_reducible apply Keep.set | with_reducible apply Keep.ite | with_reducible apply Keep.mk)

end Sys2Proof.Machine
end

