-- ==== Sys2Proof/Laws/KeepTmr.lean ====
section
/-! SUPPORT. What the operations of Machine/Tmr.lean keep of a mark. -/

namespace Sys2Proof.Machine

open Sys2Proof

set_option linter.unreachableTactic false
set_option linter.unusedTactic false

theorem Keep.State_tmrStart {μ : Mark} (s : State) (n : Nat) (h_s : μ.ok s) : μ.ok (State.tmrStart s n) := by
  unfold State.tmrStart
  try dsimp only
  repeat' (first | with_reducible assumption | with_reducible apply Keep.set | with_reducible apply Keep.ite | with_reducible apply Keep.mk)

theorem Keep.State_tmrStop {μ : Mark} (s : State) (n : Nat) (h_s : μ.ok s) : μ.ok (State.tmrStop s n) := by
  unfold State.tmrStop
  try dsimp only
  repeat' (first | with_reducible assumption | with_reducible apply Keep.set | with_reducible apply Keep.ite)

theorem Keep.State_tmrArm {μ : Mark} (s : State) (n : Nat) (h_s : μ.ok s) : μ.ok (State.tmrArm s n) := by
  unfold State.tmrArm
  try dsimp only
  repeat' (first | with_reducible assumption | with_reducible apply Keep.set | with_reducible apply Keep.ite)

theorem Keep.c_execTmrArm {μ : Mark} (n : Nat) (_m : Master) (s : State) (h_s : μ.ok s) : μ.okOut (execTmrArm n _m s) := by
  unfold execTmrArm
  try dsimp only
  repeat' (first | with_reducible assumption | with_reducible apply Keep.State_tmrArm | with_reducible apply Keep.next | with_reducible apply Keep.ite | with_reducible apply Keep.iteO)

theorem Keep.State_tmrCmdStart {μ : Mark} (s : State) (n : Nat) (h_s : μ.ok s) : μ.ok (State.tmrCmdStart s n) := by
  unfold State.tmrCmdStart
  try dsimp only
  repeat' (first | with_reducible assumption | with_reducible apply Keep.set | with_reducible apply Keep.State_tmrStart | with_reducible apply Keep.ite)

theorem Keep.c_execTmrStart {μ : Mark} (n : Nat) (_m : Master) (s : State) (h_s : μ.ok s) : μ.okOut (execTmrStart n _m s) := by
  unfold execTmrStart
  try dsimp only
  repeat' (first | with_reducible assumption | with_reducible apply Keep.State_tmrCmdStart | with_reducible apply Keep.next | with_reducible apply Keep.ite | with_reducible apply Keep.iteO)

theorem Keep.c_execTmrStop {μ : Mark} (n : Nat) (_m : Master) (s : State) (h_s : μ.ok s) : μ.okOut (execTmrStop n _m s) := by
  unfold execTmrStop
  try dsimp only
  repeat' (first | with_reducible assumption | with_reducible apply Keep.State_tmrStop | with_reducible apply Keep.next | with_reducible apply Keep.ite | with_reducible apply Keep.iteO)

theorem Keep.c_execTmrGstart {μ : Mark} (_m : Master) (mask : Nat) (s : State) (h_s : μ.ok s) : μ.okOut (execTmrGstart _m mask s) := by
  unfold execTmrGstart
  try dsimp only
  repeat' (first | with_reducible assumption | intro _ | with_reducible apply Keep.forL | with_reducible apply Keep.State_tmrStart | with_reducible apply Keep.next | with_reducible apply Keep.ite | with_reducible apply Keep.iteO)

theorem Keep.c_execTmrGstop {μ : Mark} (_m : Master) (mask : Nat) (s : State) (h_s : μ.ok s) : μ.okOut (execTmrGstop _m mask s) := by
  unfold execTmrGstop
  try dsimp only
  repeat' (first | with_reducible assumption | intro _ | with_reducible apply Keep.forL | with_reducible apply Keep.State_tmrStop | with_reducible apply Keep.next | with_reducible apply Keep.ite | with_reducible apply Keep.iteO)

theorem Keep.c_execTmrExpiry {μ : Mark} (n : Nat) (s : State) (h_s : μ.ok s) : μ.okOut (execTmrExpiry n s) := by
  unfold execTmrExpiry
  try dsimp only
  repeat' (first | with_reducible assumption | intro _ | with_reducible apply Keep.set | with_reducible apply Keep.forL | with_reducible apply Keep.State_bump | with_reducible apply Keep.State_pulse | with_reducible apply Keep.State_tmrStart | with_reducible apply Keep.next | with_reducible apply Keep.ite | with_reducible apply Keep.iteO)

theorem Keep.c_execTmrCapture {μ : Mark} (n src : Nat) (rising : Bool) (s : State) (h_s : μ.ok s) : μ.okOut (execTmrCapture n src rising s) := by
  unfold execTmrCapture
  try dsimp only
  repeat' (first | with_reducible assumption | with_reducible apply Keep.set | with_reducible apply Keep.next | with_reducible apply Keep.ite | with_reducible apply Keep.iteO | with_reducible apply Keep.mk)

end Sys2Proof.Machine
end

