-- ==== Sys2Proof/Laws/KeepAtb.lean ====
section
/-! SUPPORT. What the operations of Machine/Atb.lean keep of a mark. -/

namespace Sys2Proof.Machine

open Sys2Proof

set_option linter.unreachableTactic false
set_option linter.unusedTactic false

theorem Keep.State_atbEnable {μ : Mark} (s : State) (h_s : μ.ok s) : μ.ok (State.atbEnable s) := by
  unfold State.atbEnable
  try dsimp only
  repeat' (first | with_reducible assumption | intro _ | with_reducible apply Keep.set | with_reducible apply Keep.State_updAtb | with_reducible apply Keep.State_atbEnter | with_reducible apply Keep.State_synthEnter | with_reducible apply Keep.ite | with_reducible apply Keep.mk)

theorem Keep.c_execAtbEnable {μ : Mark} (s : State) (h_s : μ.ok s) : μ.okOut (execAtbEnable s) := by
  unfold execAtbEnable
  try dsimp only
  repeat' (first | with_reducible assumption | with_reducible apply Keep.State_atbEnable | with_reducible apply Keep.next | with_reducible apply Keep.ite | with_reducible apply Keep.iteO)

theorem Keep.State_atbDisable {μ : Mark} (s : State) (h_s : μ.ok s) : μ.ok (State.atbDisable s) := by
  unfold State.atbDisable
  try dsimp only
  repeat' (first | with_reducible assumption | intro _ | with_reducible apply Keep.set | with_reducible apply Keep.State_updAtb | with_reducible apply Keep.State_atbEnter | with_reducible apply Keep.ite | with_reducible apply Keep.mk)

theorem Keep.c_execAtbDisable {μ : Mark} (s : State) (h_s : μ.ok s) : μ.okOut (execAtbDisable s) := by
  unfold execAtbDisable
  try dsimp only
  repeat' (first | with_reducible assumption | with_reducible apply Keep.State_atbDisable | with_reducible apply Keep.next | with_reducible apply Keep.ite | with_reducible apply Keep.iteO)

theorem Keep.State_atbSource {μ : Mark} (s : State) (src : Nat) (h_s : μ.ok s) : μ.ok (State.atbSource s src) := by
  unfold State.atbSource
  try dsimp only
  repeat' (first | with_reducible assumption | intro _ | with_reducible apply Keep.set | with_reducible apply Keep.State_slotEndAll | with_reducible apply Keep.State_updAtb | with_reducible apply Keep.State_atbEnter | with_reducible apply Keep.State_slotCheck | with_reducible apply Keep.ite | with_reducible apply Keep.mk)

theorem Keep.c_execAtbSourceChange {μ : Mark} (src : Nat) (s : State) (h_s : μ.ok s) : μ.okOut (execAtbSourceChange src s) := by
  unfold execAtbSourceChange
  try dsimp only
  repeat' (first | with_reducible assumption | with_reducible apply Keep.State_atbSource | with_reducible apply Keep.next | with_reducible apply Keep.ite | with_reducible apply Keep.iteO)

theorem Keep.State_atbStandaloneClear {μ : Mark} (s : State) (h_s : μ.ok s) : μ.ok (State.atbStandaloneClear s) := by
  unfold State.atbStandaloneClear
  try dsimp only
  repeat' (first | with_reducible assumption | with_reducible apply Keep.set | with_reducible apply Keep.State_slotCheck | with_reducible apply Keep.ite)

theorem Keep.c_execAtbStandaloneClear {μ : Mark} (s : State) (h_s : μ.ok s) : μ.okOut (execAtbStandaloneClear s) := by
  unfold execAtbStandaloneClear
  try dsimp only
  repeat' (first | with_reducible assumption | with_reducible apply Keep.State_atbStandaloneClear | with_reducible apply Keep.next | with_reducible apply Keep.ite | with_reducible apply Keep.iteO)

theorem Keep.c_execAtbOffsetWrite {μ : Mark} (v : Nat) (s : State) (h_s : μ.ok s) : μ.okOut (execAtbOffsetWrite v s) := by
  unfold execAtbOffsetWrite
  try dsimp only
  repeat' (first | with_reducible assumption | with_reducible apply Keep.set | with_reducible apply Keep.next | with_reducible apply Keep.ite | with_reducible apply Keep.iteO)

theorem Keep.State_setRate {μ : Mark} (s : State) (p : Nat) (h_s : μ.ok s) : μ.ok (State.setRate s p) := by
  unfold State.setRate
  try dsimp only
  repeat' (first | with_reducible assumption | intro _ | with_reducible apply Keep.State_updAtb | with_reducible apply Keep.ite | with_reducible apply Keep.mk)

theorem Keep.State_dpllRun {μ : Mark} (s : State) (err : Int) (p : Nat) (h_s : μ.ok s) : μ.ok (State.dpllRun s err p) := by
  unfold State.dpllRun
  try dsimp only
  repeat' (first | with_reducible assumption | with_reducible apply Keep.State_setRate | with_reducible apply Keep.ite)

theorem Keep.State_edgeAccept {μ : Mark} (s : State) (err : Int) (p : Nat) (h_s : μ.ok s) : μ.ok (State.edgeAccept s err p) := by
  unfold State.edgeAccept
  try dsimp only
  repeat' (first | with_reducible assumption | intro _ | with_reducible apply Keep.set | with_reducible apply Keep.State_atbEnter | with_reducible apply Keep.State_updAtb | with_reducible apply Keep.State_phaseStep | with_reducible apply Keep.State_slotCheck | with_reducible apply Keep.State_dpllRun | with_reducible apply Keep.ite | with_reducible apply Keep.mk)

theorem Keep.State_mainsEdge {μ : Mark} (s : State) (angle spacing : Nat) (h_s : μ.ok s) : μ.ok (State.mainsEdge s angle spacing) := by
  unfold State.mainsEdge
  try dsimp only
  repeat' (first | with_reducible assumption | intro _ | with_reducible apply Keep.set | with_reducible apply Keep.when | with_reducible apply Keep.State_edgeAccept | with_reducible apply Keep.State_updAtb | with_reducible apply Keep.ite | with_reducible apply Keep.mk)

theorem Keep.c_execMainsSyncEdge {μ : Mark} (rising : Bool) (held angle spacing : Nat) (s : State) (h_s : μ.ok s) : μ.okOut (execMainsSyncEdge rising held angle spacing s) := by
  unfold execMainsSyncEdge
  try dsimp only
  repeat' (first | with_reducible assumption | with_reducible apply Keep.State_mainsEdge | with_reducible apply Keep.next | with_reducible apply Keep.ite | with_reducible apply Keep.iteO)

theorem Keep.c_execHoldover {μ : Mark} (s : State) (h_s : μ.ok s) : μ.okOut (execHoldover s) := by
  unfold execHoldover
  try dsimp only
  repeat' (first | with_reducible assumption | intro _ | with_reducible apply Keep.State_updAtb | with_reducible apply Keep.State_atbEnter | with_reducible apply Keep.next | with_reducible apply Keep.ite | with_reducible apply Keep.iteO | with_reducible apply Keep.mk)

theorem Keep.c_execHoldExpired {μ : Mark} (s : State) (h_s : μ.ok s) : μ.okOut (execHoldExpired s) := by
  unfold execHoldExpired
  try dsimp only
  repeat' (first | with_reducible assumption | with_reducible apply Keep.set | with_reducible apply Keep.State_atbEnter | with_reducible apply Keep.next | with_reducible apply Keep.ite | with_reducible apply Keep.iteO)

theorem Keep.c_execCycleBoundary {μ : Mark} (ptpNs : Nat) (s : State) (h_s : μ.ok s) : μ.okOut (execCycleBoundary ptpNs s) := by
  unfold execCycleBoundary
  try dsimp only
  repeat' (first | with_reducible assumption | with_reducible apply Keep.State_boundary | with_reducible apply Keep.next | with_reducible apply Keep.ite | with_reducible apply Keep.iteO)

theorem Keep.State_anchorEval {μ : Mark} (s : State) (ns : Nat) (h_s : μ.ok s) : μ.ok (State.anchorEval s ns) := by
  unfold State.anchorEval
  try dsimp only
  repeat' (first | with_reducible assumption | intro _ | with_reducible apply Keep.set | with_reducible apply Keep.when | with_reducible apply Keep.State_setObj | with_reducible apply Keep.State_updAtb | with_reducible apply Keep.State_synthEnter | with_reducible apply Keep.State_synthSteer | with_reducible apply Keep.ite | split | with_reducible refine Keep.fromSome (by with_reducible assumption) ?_ | with_reducible refine Keep.fromInr (by with_reducible assumption) ?_ | with_reducible refine Keep.fromInl (by with_reducible assumption) ?_ | with_reducible refine Keep.fromPair (by with_reducible assumption) ?_ | with_reducible refine Keep.fromPair1 (by with_reducible assumption) ?_ | with_reducible apply Keep.mk)

theorem Keep.c_execAnchorEvaluate {μ : Mark} (ptpNs : Nat) (s : State) (h_s : μ.ok s) : μ.okOut (execAnchorEvaluate ptpNs s) := by
  unfold execAnchorEvaluate
  try dsimp only
  repeat' (first | with_reducible assumption | with_reducible apply Keep.State_anchorEval | with_reducible apply Keep.next | with_reducible apply Keep.ite | with_reducible apply Keep.iteO)

theorem Keep.c_execAdjGo {μ : Mark} (s : State) (h_s : μ.ok s) : μ.okOut (execAdjGo s) := by
  unfold execAdjGo
  try dsimp only
  repeat' (first | with_reducible assumption | intro _ | with_reducible apply Keep.State_updAtb | with_reducible apply Keep.next | with_reducible apply Keep.ite | with_reducible apply Keep.iteO | with_reducible apply Keep.mk)

theorem Keep.State_planArm {μ : Mark} (s : State) (site : Bool) (h_s : μ.ok s) : μ.ok (State.planArm s site) := by
  unfold State.planArm
  try dsimp only
  repeat' (first | with_reducible assumption | with_reducible apply Keep.set | with_reducible apply Keep.ite)

theorem Keep.c_execPlanArm {μ : Mark} (s : State) (h_s : μ.ok s) : μ.okOut (execPlanArm s) := by
  unfold execPlanArm
  try dsimp only
  repeat' (first | with_reducible assumption | with_reducible apply Keep.State_planArm | with_reducible apply Keep.next | with_reducible apply Keep.ite | with_reducible apply Keep.iteO)

theorem Keep.State_planDisarm {μ : Mark} (s : State) (h_s : μ.ok s) : μ.ok (State.planDisarm s) := by
  unfold State.planDisarm
  try dsimp only
  repeat' (first | with_reducible assumption | with_reducible apply Keep.set | with_reducible apply Keep.ite)

theorem Keep.c_execPlanDisarm {μ : Mark} (s : State) (h_s : μ.ok s) : μ.okOut (execPlanDisarm s) := by
  unfold execPlanDisarm
  try dsimp only
  repeat' (first | with_reducible assumption | with_reducible apply Keep.State_planDisarm | with_reducible apply Keep.next | with_reducible apply Keep.ite | with_reducible apply Keep.iteO)

theorem Keep.State_planNext {μ : Mark} (s : State) (h_s : μ.ok s) : μ.ok (State.planNext s) := by
  unfold State.planNext
  try dsimp only
  repeat' (first | with_reducible assumption | with_reducible apply Keep.set | with_reducible apply Keep.ite)

theorem Keep.State_planWrite {μ : Mark} (s : State) (v : Nat) (h_s : μ.ok s) : μ.ok (State.planWrite s v) := by
  unfold State.planWrite
  try dsimp only
  repeat' (first | with_reducible assumption | intro _ | with_reducible apply Keep.set | with_reducible apply Keep.State_updAtb | with_reducible apply Keep.State_planNext | with_reducible apply Keep.ite | with_reducible apply Keep.mk)

theorem Keep.c_execPlanDataAccess {μ : Mark} (write : Bool) (v : Nat) (s : State) (h_s : μ.ok s) : μ.okOut (execPlanDataAccess write v s) := by
  unfold execPlanDataAccess
  try dsimp only
  repeat' (first | with_reducible assumption | with_reducible apply Keep.State_planWrite | with_reducible apply Keep.State_planNext | with_reducible apply Keep.State_respond | with_reducible apply Keep.next | with_reducible apply Keep.ite | with_reducible apply Keep.iteO)

theorem Keep.State_slotPrepAt {μ : Mark} (s : State) (k : Nat) (h_s : μ.ok s) : μ.ok (State.slotPrepAt s k) := by
  unfold State.slotPrepAt
  try dsimp only
  repeat' (first | with_reducible assumption | with_reducible apply Keep.State_angleTo | with_reducible apply Keep.State_slotPrep | with_reducible apply Keep.State_prepServe | with_reducible apply Keep.ite)

theorem Keep.c_execSlotPrep {μ : Mark} (slot : Nat) (s : State) (h_s : μ.ok s) : μ.okOut (execSlotPrep slot s) := by
  unfold execSlotPrep
  try dsimp only
  repeat' (first | with_reducible assumption | with_reducible apply Keep.State_slotPrepAt | with_reducible apply Keep.next | with_reducible apply Keep.ite | with_reducible apply Keep.iteO)

theorem Keep.State_slotStartAt {μ : Mark} (s : State) (k : Nat) (h_s : μ.ok s) : μ.ok (State.slotStartAt s k) := by
  unfold State.slotStartAt
  try dsimp only
  repeat' (first | with_reducible assumption | with_reducible apply Keep.State_angleTo | with_reducible apply Keep.State_slotSuppress | with_reducible apply Keep.State_slotRun | with_reducible apply Keep.ite)

theorem Keep.c_execSlotStart {μ : Mark} (slot : Nat) (s : State) (h_s : μ.ok s) : μ.okOut (execSlotStart slot s) := by
  unfold execSlotStart
  try dsimp only
  repeat' (first | with_reducible assumption | with_reducible apply Keep.State_slotStartAt | with_reducible apply Keep.next | with_reducible apply Keep.ite | with_reducible apply Keep.iteO)

theorem Keep.c_execSlotEnd {μ : Mark} (slot : Nat) (s : State) (h_s : μ.ok s) : μ.okOut (execSlotEnd slot s) := by
  unfold execSlotEnd
  try dsimp only
  repeat' (first | with_reducible assumption | with_reducible apply Keep.State_angleTo | with_reducible apply Keep.State_slotEnd | with_reducible apply Keep.next | with_reducible apply Keep.ite | with_reducible apply Keep.iteO)

theorem Keep.c_execAtbCapture {μ : Mark} (ch src : Nat) (rising : Bool) (ns : Nat) (s : State) (h_s : μ.ok s) : μ.okOut (execAtbCapture ch src rising ns s) := by
  unfold execAtbCapture
  try dsimp only
  repeat' (first | with_reducible assumption | with_reducible apply Keep.set | with_reducible apply Keep.State_setBit | with_reducible apply Keep.next | with_reducible apply Keep.ite | with_reducible apply Keep.iteO | with_reducible apply Keep.mk)

theorem Keep.c_execAngleEvent {μ : Mark} (ev : Nat) (s : State) (h_s : μ.ok s) : μ.okOut (execAngleEvent ev s) := by
  unfold execAngleEvent
  try dsimp only
  repeat' (first | with_reducible assumption | with_reducible apply Keep.State_angleTo | with_reducible apply Keep.State_aevFire | with_reducible apply Keep.next | with_reducible apply Keep.ite | with_reducible apply Keep.iteO)

end Sys2Proof.Machine
end

