-- ==== Sys2Proof/Laws/KeepHftOps.lean ====
section
/-! SUPPORT. What the operations of Machine/HftOps.lean keep of a mark. -/

namespace Sys2Proof.Machine

open Sys2Proof

set_option linter.unreachableTactic false
set_option linter.unusedTactic false

theorem Keep.State_updHft {μ : Mark} (s : State) (g : Hft → Hft) (h_s : μ.ok s) : μ.ok (State.updHft s g) := by
  unfold State.updHft
  try dsimp only
  repeat' (first | with_reducible assumption | with_reducible apply Keep.ite | with_reducible apply Keep.mk)

theorem Keep.State_setMono {μ : Mark} (s : State) (c v : Nat) (h_s : μ.ok s) : μ.ok (State.setMono s c v) := by
  unfold State.setMono
  try dsimp only
  repeat' (first | with_reducible assumption | intro _ | with_reducible apply Keep.set | with_reducible apply Keep.State_updHft | with_reducible apply Keep.ite | with_reducible apply Keep.mk)

theorem Keep.State_commitPrefix {μ : Mark} (s : State) (c : Commit) (k : Nat) (h_s : μ.ok s) : μ.ok (State.commitPrefix s c k) := by
  unfold State.commitPrefix
  try dsimp only
  repeat' (first | with_reducible assumption | intro _ | with_reducible apply Keep.set | with_reducible apply Keep.State_updHft | with_reducible apply Keep.ite | with_reducible apply Keep.mk)

theorem Keep.State_commitStart {μ : Mark} (s : State) (r : Nat) (data : List Nat) (field : Bool) (rest : List (Nat × List Nat)) (answer : List Nat) (h_s : μ.ok s) : μ.ok (State.commitStart s r data field rest answer) := by
  unfold State.commitStart
  try dsimp only
  repeat' (first | with_reducible assumption | intro _ | with_reducible apply Keep.State_updHft | with_reducible apply Keep.ite | with_reducible apply Keep.mk)

theorem Keep.State_tagReply {μ : Mark} (s : State) (b : List Nat) (h_s : μ.ok s) : μ.ok (State.tagReply s b) := by
  unfold State.tagReply
  try dsimp only
  repeat' (first | with_reducible assumption | intro _ | with_reducible apply Keep.State_updHft | with_reducible apply Keep.ite | with_reducible apply Keep.mk)

theorem Keep.State_commitCut {μ : Mark} (s : State) (h_s : μ.ok s) : μ.ok (State.commitCut s) := by
  unfold State.commitCut
  try dsimp only
  repeat' (first | with_reducible assumption | intro _ | with_reducible apply Keep.fresh | with_reducible apply Keep.State_commitPrefix | with_reducible apply Keep.State_updHft | with_reducible apply Keep.State_tagReply | with_reducible apply Keep.ite | with_reducible apply Keep.iteP | split | with_reducible refine Keep.fromSome (by with_reducible assumption) ?_ | with_reducible refine Keep.fromInr (by with_reducible assumption) ?_ | with_reducible refine Keep.fromInl (by with_reducible assumption) ?_ | with_reducible refine Keep.fromPair (by with_reducible assumption) ?_ | with_reducible refine Keep.fromPair1 (by with_reducible assumption) ?_ | with_reducible apply Keep.mk)

theorem Keep.State_recovered {μ : Mark} (s : State) (action r : Nat) (h_s : μ.ok s) : μ.ok (State.recovered s action r) := by
  unfold State.recovered
  try dsimp only
  repeat' (first | with_reducible assumption | intro _ | with_reducible apply Keep.set | with_reducible apply Keep.State_updHft | with_reducible apply Keep.ite | with_reducible apply Keep.mk)

theorem Keep.State_recoverMarked {μ : Mark} (s : State) (r g : Nat) (h_s : μ.ok s) : μ.ok (State.recoverMarked s r g) := by
  unfold State.recoverMarked
  try dsimp only
  repeat' (first | with_reducible assumption | intro _ | with_reducible apply Keep.set | with_reducible apply Keep.State_updHft | with_reducible apply Keep.State_recovered | with_reducible apply Keep.ite | with_reducible apply Keep.mk)

theorem Keep.State_recoverGens {μ : Mark} (s : State) (h_s : μ.ok s) : μ.ok (State.recoverGens s) := by
  unfold State.recoverGens
  try dsimp only
  repeat' (first | with_reducible assumption | intro _ | with_reducible apply Keep.set | with_reducible apply Keep.forL | with_reducible apply Keep.State_updHft | with_reducible apply Keep.State_recovered | with_reducible apply Keep.ite | with_reducible apply Keep.mk)

theorem Keep.State_recoverMono {μ : Mark} (s : State) (h_s : μ.ok s) : μ.ok (State.recoverMono s) := by
  unfold State.recoverMono
  try dsimp only
  repeat' (first | with_reducible assumption | intro _ | with_reducible apply Keep.forN | with_reducible apply Keep.State_setMono | with_reducible apply Keep.State_recovered | with_reducible apply Keep.ite)

theorem Keep.State_recoverSlots {μ : Mark} (s : State) (h_s : μ.ok s) : μ.ok (State.recoverSlots s) := by
  unfold State.recoverSlots
  try dsimp only
  repeat' (first | with_reducible assumption | intro _ | with_reducible apply Keep.forL | with_reducible apply Keep.State_recovered | with_reducible apply Keep.ite)

theorem Keep.State_recoveryPass {μ : Mark} (s : State) (h_s : μ.ok s) : μ.ok (State.recoveryPass s) := by
  unfold State.recoveryPass
  try dsimp only
  repeat' (first | with_reducible assumption | with_reducible apply Keep.State_recoverMarked | with_reducible apply Keep.State_recoverGens | with_reducible apply Keep.State_recoverSlots | with_reducible apply Keep.State_recoverMono | with_reducible apply Keep.ite | split | with_reducible refine Keep.fromSome (by with_reducible assumption) ?_ | with_reducible refine Keep.fromInr (by with_reducible assumption) ?_ | with_reducible refine Keep.fromInl (by with_reducible assumption) ?_ | with_reducible refine Keep.fromPair (by with_reducible assumption) ?_ | with_reducible refine Keep.fromPair1 (by with_reducible assumption) ?_)

theorem Keep.State_tagDrop {μ : Mark} (s : State) (st : Nat) (h_s : μ.ok s) : μ.ok (State.tagDrop s st) := by
  unfold State.tagDrop
  try dsimp only
  repeat' (first | with_reducible assumption | intro _ | with_reducible apply Keep.set | with_reducible apply Keep.State_updHft | with_reducible apply Keep.ite | with_reducible apply Keep.mk)

theorem Keep.State_passClear {μ : Mark} (s : State) (h_s : μ.ok s) : μ.ok (State.passClear s) := by
  unfold State.passClear
  try dsimp only
  repeat' (first | with_reducible assumption | with_reducible apply Keep.set | with_reducible apply Keep.ite)

theorem Keep.State_tagHold {μ : Mark} (s : State) (h_s : μ.ok s) : μ.ok (State.tagHold s) := by
  unfold State.tagHold
  try dsimp only
  repeat' (first | with_reducible assumption | with_reducible apply Keep.State_commitCut | with_reducible apply Keep.State_tagDrop | with_reducible apply Keep.State_passClear | with_reducible apply Keep.ite)

theorem Keep.State_tagRelease {μ : Mark} (s : State) (h_s : μ.ok s) : μ.ok (State.tagRelease s) := by
  unfold State.tagRelease
  try dsimp only
  repeat' (first | with_reducible assumption | with_reducible apply Keep.set | with_reducible apply Keep.State_recoveryPass | with_reducible apply Keep.ite)

theorem Keep.State_tagGuard {μ : Mark} (s : State) (h_s : μ.ok s) : μ.ok (State.tagGuard s) := by
  unfold State.tagGuard
  try dsimp only
  repeat' (first | with_reducible assumption | with_reducible apply Keep.set | with_reducible apply Keep.State_tagHold | with_reducible apply Keep.ite)

theorem Keep.State_tagSend {μ : Mark} (s : State) (b : List Nat) (h_s : μ.ok s) : μ.ok (State.tagSend s b) := by
  unfold State.tagSend
  try dsimp only
  repeat' (first | with_reducible assumption | intro _ | with_reducible apply Keep.State_updHft | with_reducible apply Keep.ite | with_reducible apply Keep.mk)

theorem Keep.State_tagAnswer {μ : Mark} (s : State) (data : List Nat) (sw : Nat) (h_s : μ.ok s) : μ.ok (State.tagAnswer s data sw) := by
  unfold State.tagAnswer
  try dsimp only
  repeat' (first | with_reducible assumption | with_reducible apply Keep.State_tagReply | with_reducible apply Keep.ite)

theorem Keep.State_setFails {μ : Mark} (s : State) (k : Nat) (h_s : μ.ok s) : μ.ok (State.setFails s k) := by
  unfold State.setFails
  try dsimp only
  repeat' (first | with_reducible assumption | intro _ | with_reducible apply Keep.set | with_reducible apply Keep.State_updHft | with_reducible apply Keep.ite | with_reducible apply Keep.mk)

theorem Keep.State_authFail {μ : Mark} (s : State) (h_s : μ.ok s) : μ.ok (State.authFail s) := by
  unfold State.authFail
  try dsimp only
  repeat' (first | with_reducible assumption | with_reducible apply Keep.set | with_reducible apply Keep.State_setFails | with_reducible apply Keep.State_bump | with_reducible apply Keep.ite)

theorem Keep.State_tagOpen {μ : Mark} (s : State) (h_s : μ.ok s) : μ.ok (State.tagOpen s) := by
  unfold State.tagOpen
  try dsimp only
  repeat' (first | with_reducible assumption | intro _ | with_reducible apply Keep.set | with_reducible apply Keep.State_updHft | with_reducible apply Keep.ite | with_reducible apply Keep.mk)

theorem Keep.State_recGranted {μ : Mark} (s : State) (h_s : μ.ok s) : μ.ok (State.recGranted s) := by
  unfold State.recGranted
  try dsimp only
  repeat' (first | with_reducible assumption | intro _ | with_reducible apply Keep.set | with_reducible apply Keep.State_updHft | with_reducible apply Keep.State_recoveryPass | with_reducible apply Keep.foldl | with_reducible apply Keep.ite | split | with_reducible refine Keep.fromSome (by with_reducible assumption) ?_ | with_reducible refine Keep.fromInr (by with_reducible assumption) ?_ | with_reducible refine Keep.fromInl (by with_reducible assumption) ?_ | with_reducible refine Keep.fromPair (by with_reducible assumption) ?_ | with_reducible refine Keep.fromPair1 (by with_reducible assumption) ?_ | with_reducible apply Keep.mk)

theorem Keep.State_hfDeliver {μ : Mark} (s : State) (n rxstat : Nat) (l : List Bool) (h_s : μ.ok s) : μ.ok (State.hfDeliver s n rxstat l) := by
  unfold State.hfDeliver
  try dsimp only
  repeat' (first | with_reducible assumption | with_reducible apply Keep.wrBytes | with_reducible apply Keep.State_freshPar | with_reducible apply Keep.State_setSeq | with_reducible apply Keep.State_seqEvent | with_reducible apply Keep.State_bump | with_reducible apply Keep.ite | with_reducible apply Keep.iteP | with_reducible apply Keep.mk)

end Sys2Proof.Machine
end

