-- ==== Sys2Proof/Laws/KeepHft.lean ====
section
/-! SUPPORT. What the operations of Machine/Hft.lean keep of a mark. -/

namespace Sys2Proof.Machine

open Sys2Proof

set_option linter.unreachableTactic false
set_option linter.unusedTactic false

theorem Keep.State_tagIn {μ : Mark} (s : State) (sts : List Nat) (g : State → State) (h_s : μ.ok s) (h_g : ∀ t, μ.ok t → μ.ok (g t)) : μ.okOut (State.tagIn s sts g) := by
  unfold State.tagIn
  try dsimp only
  repeat' (first | with_reducible assumption | intro _ | with_reducible apply h_g | with_reducible apply Keep.next | with_reducible apply Keep.ite | with_reducible apply Keep.iteO)

theorem Keep.c_execFieldOn {μ : Mark} (vharv avail : Nat) (s : State) (h_s : μ.ok s) : μ.okOut (execFieldOn vharv avail s) := by
  unfold execFieldOn
  try dsimp only
  repeat' (first | with_reducible assumption | intro _ | with_reducible apply Keep.set | with_reducible apply Keep.when | with_reducible apply Keep.State_wakeP | with_reducible apply Keep.State_tagRelease | with_reducible apply Keep.next | with_reducible apply Keep.ite | with_reducible apply Keep.iteO)

theorem Keep.State_tagWake {μ : Mark} (s : State) (h_s : μ.ok s) : μ.ok (State.tagWake s) := by
  unfold State.tagWake
  try dsimp only
  repeat' (first | with_reducible assumption | with_reducible apply Keep.State_tagDrop | with_reducible apply Keep.State_tagSend | with_reducible apply Keep.ite)

theorem Keep.c_execTagReqa {μ : Mark} (s : State) (h_s : μ.ok s) : μ.okOut (execTagReqa s) := by
  unfold execTagReqa
  try dsimp only
  repeat' (first | with_reducible assumption | with_reducible apply Keep.State_tagIn | with_reducible apply Keep.State_tagWake | with_reducible apply Keep.next | with_reducible apply Keep.ite | with_reducible apply Keep.iteO)

theorem Keep.c_execTagWupa {μ : Mark} (s : State) (h_s : μ.ok s) : μ.okOut (execTagWupa s) := by
  unfold execTagWupa
  try dsimp only
  repeat' (first | with_reducible assumption | with_reducible apply Keep.State_tagIn | with_reducible apply Keep.State_tagWake | with_reducible apply Keep.next | with_reducible apply Keep.ite | with_reducible apply Keep.iteO)

theorem Keep.c_execTagAnticoll {μ : Mark} (level : Nat) (known : List Bool) (s : State) (h_s : μ.ok s) : μ.okOut (execTagAnticoll level known s) := by
  unfold execTagAnticoll
  try dsimp only
  repeat' (first | with_reducible assumption | intro _ | with_reducible apply Keep.State_tagIn | with_reducible apply Keep.State_tagSend | with_reducible apply Keep.next | with_reducible apply Keep.ite | with_reducible apply Keep.iteO)

theorem Keep.c_execTagSelect {μ : Mark} (level : Nat) (cln : List Nat) (s : State) (h_s : μ.ok s) : μ.okOut (execTagSelect level cln s) := by
  unfold execTagSelect
  try dsimp only
  repeat' (first | with_reducible assumption | intro _ | with_reducible apply Keep.set | with_reducible apply Keep.State_tagIn | with_reducible apply Keep.State_updHft | with_reducible apply Keep.State_tagSend | with_reducible apply Keep.next | with_reducible apply Keep.ite | with_reducible apply Keep.iteO | with_reducible apply Keep.mk)

theorem Keep.c_execTagRats {μ : Mark} (fsdi cid : Nat) (s : State) (h_s : μ.ok s) : μ.okOut (execTagRats fsdi cid s) := by
  unfold execTagRats
  try dsimp only
  repeat' (first | with_reducible assumption | intro _ | with_reducible apply Keep.State_tagIn | with_reducible apply Keep.State_tagDrop | with_reducible apply Keep.State_updHft | with_reducible apply Keep.State_tagSend | with_reducible apply Keep.next | with_reducible apply Keep.ite | with_reducible apply Keep.iteO | with_reducible apply Keep.mk)

theorem Keep.c_execTagHlta {μ : Mark} (s : State) (h_s : μ.ok s) : μ.okOut (execTagHlta s) := by
  unfold execTagHlta
  try dsimp only
  repeat' (first | with_reducible assumption | intro _ | with_reducible apply Keep.State_tagIn | with_reducible apply Keep.State_tagDrop | with_reducible apply Keep.next | with_reducible apply Keep.ite | with_reducible apply Keep.iteO)

theorem Keep.c_execTagPps {μ : Mark} (dri dsi : Nat) (s : State) (h_s : μ.ok s) : μ.okOut (execTagPps dri dsi s) := by
  unfold execTagPps
  try dsimp only
  repeat' (first | with_reducible assumption | intro _ | with_reducible apply Keep.State_tagIn | with_reducible apply Keep.State_tagSend | with_reducible apply Keep.next | with_reducible apply Keep.ite | with_reducible apply Keep.iteO)

theorem Keep.c_execTagDeselect {μ : Mark} (s : State) (h_s : μ.ok s) : μ.okOut (execTagDeselect s) := by
  unfold execTagDeselect
  try dsimp only
  repeat' (first | with_reducible assumption | intro _ | with_reducible apply Keep.State_tagIn | with_reducible apply Keep.State_tagDrop | with_reducible apply Keep.State_passClear | with_reducible apply Keep.State_tagSend | with_reducible apply Keep.next | with_reducible apply Keep.ite | with_reducible apply Keep.iteO)

theorem Keep.c_execTagWtxRequest {μ : Mark} (s : State) (h_s : μ.ok s) : μ.okOut (execTagWtxRequest s) := by
  unfold execTagWtxRequest
  try dsimp only
  repeat' (first | with_reducible assumption | intro _ | with_reducible apply Keep.State_tagIn | with_reducible apply Keep.State_tagSend | with_reducible apply Keep.next | with_reducible apply Keep.ite | with_reducible apply Keep.iteO)

theorem Keep.c_execTagWtxResponse {μ : Mark} (s : State) (h_s : μ.ok s) : μ.okOut (execTagWtxResponse s) := by
  unfold execTagWtxResponse
  try dsimp only
  repeat' (first | with_reducible assumption | intro _ | with_reducible apply Keep.State_tagIn | with_reducible apply Keep.State_tagSend | with_reducible apply Keep.next | with_reducible apply Keep.ite | with_reducible apply Keep.iteO)

theorem Keep.c_execLockoutEnd {μ : Mark} (s : State) (h_s : μ.ok s) : μ.okOut (execLockoutEnd s) := by
  unfold execLockoutEnd
  try dsimp only
  repeat' (first | with_reducible assumption | with_reducible apply Keep.set | with_reducible apply Keep.State_setFails | with_reducible apply Keep.next | with_reducible apply Keep.ite | with_reducible apply Keep.iteO)

theorem Keep.State_withLen {μ : Mark} (s : State) (a : Apdu) (k : Nat) (g : State → State) (h_s : μ.ok s) (h_g : ∀ t, μ.ok t → μ.ok (g t)) : μ.ok (State.withLen s a k g) := by
  unfold State.withLen
  try dsimp only
  repeat' (first | with_reducible assumption | intro _ | with_reducible apply h_g | with_reducible apply Keep.State_tagAnswer | with_reducible apply Keep.ite)

theorem Keep.State_withLe {μ : Mark} (s : State) (a : Apdu) (le : Nat) (g : State → State) (h_s : μ.ok s) (h_g : ∀ t, μ.ok t → μ.ok (g t)) : μ.ok (State.withLe s a le g) := by
  unfold State.withLe
  try dsimp only
  repeat' (first | with_reducible assumption | intro _ | with_reducible apply h_g | with_reducible apply Keep.State_tagAnswer | with_reducible apply Keep.ite)

theorem Keep.State_harvest {μ : Mark} (s : State) (a : Apdu) (h_s : μ.ok s) : μ.ok (State.harvest s a) := by
  unfold State.harvest
  try dsimp only
  repeat' (first | with_reducible assumption | with_reducible apply Keep.set | with_reducible apply Keep.ite)

theorem Keep.State_cSelectApp {μ : Mark} (s : State) (a : Apdu) (h_s : μ.ok s) : μ.ok (State.cSelectApp s a) := by
  unfold State.cSelectApp
  try dsimp only
  repeat' (first | with_reducible assumption | intro _ | with_reducible apply Keep.State_tagAnswer | with_reducible apply Keep.State_updHft | with_reducible apply Keep.ite | with_reducible apply Keep.mk)

theorem Keep.State_cSelectFile {μ : Mark} (s : State) (a : Apdu) (h_s : μ.ok s) : μ.ok (State.cSelectFile s a) := by
  unfold State.cSelectFile
  try dsimp only
  repeat' (first | with_reducible assumption | intro _ | with_reducible apply Keep.State_tagAnswer | with_reducible apply Keep.State_updHft | with_reducible apply Keep.ite | with_reducible apply Keep.mk)

theorem Keep.State_cReadBinary {μ : Mark} (s : State) (a : Apdu) (h_s : μ.ok s) : μ.ok (State.cReadBinary s a) := by
  unfold State.cReadBinary
  try dsimp only
  repeat' (first | with_reducible assumption | intro _ | with_reducible apply Keep.State_tagAnswer | with_reducible apply Keep.ite | split | with_reducible refine Keep.fromSome (by with_reducible assumption) ?_ | with_reducible refine Keep.fromInr (by with_reducible assumption) ?_ | with_reducible refine Keep.fromInl (by with_reducible assumption) ?_ | with_reducible refine Keep.fromPair (by with_reducible assumption) ?_ | with_reducible refine Keep.fromPair1 (by with_reducible assumption) ?_)

theorem Keep.State_fieldCommit {μ : Mark} (s : State) (a : Apdu) (w : List (Nat × List Nat)) (h_s : μ.ok s) : μ.ok (State.fieldCommit s a w) := by
  unfold State.fieldCommit
  try dsimp only
  repeat' (first | with_reducible assumption | with_reducible apply Keep.set | with_reducible apply Keep.State_harvest | with_reducible apply Keep.State_tagAnswer | with_reducible apply Keep.State_commitStart | with_reducible apply Keep.ite | split | with_reducible refine Keep.fromSome (by with_reducible assumption) ?_ | with_reducible refine Keep.fromInr (by with_reducible assumption) ?_ | with_reducible refine Keep.fromInl (by with_reducible assumption) ?_ | with_reducible refine Keep.fromPair (by with_reducible assumption) ?_ | with_reducible refine Keep.fromPair1 (by with_reducible assumption) ?_)

theorem Keep.State_cUpdateBinary {μ : Mark} (s : State) (a : Apdu) (h_s : μ.ok s) : μ.ok (State.cUpdateBinary s a) := by
  unfold State.cUpdateBinary
  try dsimp only
  repeat' (first | with_reducible assumption | intro _ | with_reducible apply Keep.State_tagAnswer | with_reducible apply Keep.State_fieldCommit | with_reducible apply Keep.ite | split | with_reducible refine Keep.fromSome (by with_reducible assumption) ?_ | with_reducible refine Keep.fromInr (by with_reducible assumption) ?_ | with_reducible refine Keep.fromInl (by with_reducible assumption) ?_ | with_reducible refine Keep.fromPair (by with_reducible assumption) ?_ | with_reducible refine Keep.fromPair1 (by with_reducible assumption) ?_)

theorem Keep.State_cGetInfo {μ : Mark} (s : State) (a : Apdu) (h_s : μ.ok s) : μ.ok (State.cGetInfo s a) := by
  unfold State.cGetInfo
  try dsimp only
  repeat' (first | with_reducible assumption | intro _ | with_reducible apply Keep.State_tagAnswer | with_reducible apply Keep.State_withLe | with_reducible apply Keep.State_harvest | with_reducible apply Keep.ite)

theorem Keep.State_cVerify {μ : Mark} (s : State) (a : Apdu) (h_s : μ.ok s) : μ.ok (State.cVerify s a) := by
  unfold State.cVerify
  try dsimp only
  repeat' (first | with_reducible assumption | intro _ | with_reducible apply Keep.set | with_reducible apply Keep.State_tagOpen | with_reducible apply Keep.State_tagAnswer | with_reducible apply Keep.State_withLen | with_reducible apply Keep.State_setFails | with_reducible apply Keep.State_authFail | with_reducible apply Keep.ite)

theorem Keep.State_cAuth1 {μ : Mark} (s : State) (a : Apdu) (h_s : μ.ok s) : μ.ok (State.cAuth1 s a) := by
  unfold State.cAuth1
  try dsimp only
  repeat' (first | with_reducible assumption | intro _ | with_reducible apply Keep.freshL | with_reducible apply Keep.State_tagOpen | with_reducible apply Keep.State_tagAnswer | with_reducible apply Keep.State_updHft | with_reducible apply Keep.ite | with_reducible apply Keep.iteP | split | with_reducible refine Keep.fromSome (by with_reducible assumption) ?_ | with_reducible refine Keep.fromInr (by with_reducible assumption) ?_ | with_reducible refine Keep.fromInl (by with_reducible assumption) ?_ | with_reducible refine Keep.fromPair (by with_reducible assumption) ?_ | with_reducible refine Keep.fromPair1 (by with_reducible assumption) ?_ | with_reducible apply Keep.mk)

theorem Keep.State_cAuth2 {μ : Mark} (s : State) (a : Apdu) (h_s : μ.ok s) : μ.ok (State.cAuth2 s a) := by
  unfold State.cAuth2
  try dsimp only
  repeat' (first | with_reducible assumption | intro _ | with_reducible apply Keep.set | with_reducible apply Keep.State_tagAnswer | with_reducible apply Keep.State_withLen | with_reducible apply Keep.State_updHft | with_reducible apply Keep.State_setFails | with_reducible apply Keep.State_tagOpen | with_reducible apply Keep.State_authFail | with_reducible apply Keep.ite | with_reducible apply Keep.mk)

theorem Keep.State_cReadRecord {μ : Mark} (s : State) (a : Apdu) (h_s : μ.ok s) : μ.ok (State.cReadRecord s a) := by
  unfold State.cReadRecord
  try dsimp only
  repeat' (first | with_reducible assumption | with_reducible apply Keep.State_tagAnswer | with_reducible apply Keep.ite | split | with_reducible refine Keep.fromSome (by with_reducible assumption) ?_ | with_reducible refine Keep.fromInr (by with_reducible assumption) ?_ | with_reducible refine Keep.fromInl (by with_reducible assumption) ?_ | with_reducible refine Keep.fromPair (by with_reducible assumption) ?_ | with_reducible refine Keep.fromPair1 (by with_reducible assumption) ?_)

theorem Keep.State_cWriteRecord {μ : Mark} (s : State) (a : Apdu) (h_s : μ.ok s) : μ.ok (State.cWriteRecord s a) := by
  unfold State.cWriteRecord
  try dsimp only
  repeat' (first | with_reducible assumption | with_reducible apply Keep.State_tagAnswer | with_reducible apply Keep.State_fieldCommit | with_reducible apply Keep.ite | split | with_reducible refine Keep.fromSome (by with_reducible assumption) ?_ | with_reducible refine Keep.fromInr (by with_reducible assumption) ?_ | with_reducible refine Keep.fromInl (by with_reducible assumption) ?_ | with_reducible refine Keep.fromPair (by with_reducible assumption) ?_ | with_reducible refine Keep.fromPair1 (by with_reducible assumption) ?_)

theorem Keep.State_cIncCounter {μ : Mark} (s : State) (a : Apdu) (h_s : μ.ok s) : μ.ok (State.cIncCounter s a) := by
  unfold State.cIncCounter
  try dsimp only
  repeat' (first | with_reducible assumption | with_reducible apply Keep.set | with_reducible apply Keep.State_harvest | with_reducible apply Keep.State_tagAnswer | with_reducible apply Keep.State_setMono | with_reducible apply Keep.ite)

theorem Keep.State_cReadCounters {μ : Mark} (s : State) (a : Apdu) (h_s : μ.ok s) : μ.ok (State.cReadCounters s a) := by
  unfold State.cReadCounters
  try dsimp only
  repeat' (first | with_reducible assumption | intro _ | with_reducible apply Keep.State_tagAnswer | with_reducible apply Keep.State_withLe | with_reducible apply Keep.ite)

theorem Keep.State_pbufPut {μ : Mark} (s : State) (b : List Nat) (h_s : μ.ok s) : μ.ok (State.pbufPut s b) := by
  unfold State.pbufPut
  try dsimp only
  repeat' (first | with_reducible assumption | intro _ | with_reducible apply Keep.set | with_reducible apply Keep.forN | with_reducible apply Keep.ite)

theorem Keep.State_cPass {μ : Mark} (s : State) (a : Apdu) (h_s : μ.ok s) : μ.ok (State.cPass s a) := by
  unfold State.cPass
  try dsimp only
  repeat' (first | with_reducible assumption | intro _ | with_reducible apply Keep.set | with_reducible apply Keep.State_tagAnswer | with_reducible apply Keep.State_pbufPut | with_reducible apply Keep.State_updHft | with_reducible apply Keep.State_hfDeliver | with_reducible apply Keep.ite | with_reducible apply Keep.mk)

theorem Keep.State_apduRun {μ : Mark} (s : State) (a : Apdu) (h_s : μ.ok s) : μ.ok (State.apduRun s a) := by
  unfold State.apduRun
  try dsimp only
  repeat' (first | with_reducible assumption | with_reducible apply Keep.State_cSelectApp | with_reducible apply Keep.State_cSelectFile | with_reducible apply Keep.State_cReadBinary | with_reducible apply Keep.State_cUpdateBinary | with_reducible apply Keep.State_cGetInfo | with_reducible apply Keep.State_cVerify | with_reducible apply Keep.State_cAuth1 | with_reducible apply Keep.State_cAuth2 | with_reducible apply Keep.State_cReadRecord | with_reducible apply Keep.State_cWriteRecord | with_reducible apply Keep.State_cIncCounter | with_reducible apply Keep.State_cReadCounters | with_reducible apply Keep.State_cPass | with_reducible apply Keep.ite)

theorem Keep.State_apduMac {μ : Mark} (s : State) (a : Apdu) (h_s : μ.ok s) : μ.ok (State.apduMac s a) := by
  unfold State.apduMac
  try dsimp only
  repeat' (first | with_reducible assumption | intro _ | with_reducible apply Keep.State_updHft | with_reducible apply Keep.State_apduRun | with_reducible apply Keep.State_tagOpen | with_reducible apply Keep.State_authFail | with_reducible apply Keep.State_tagAnswer | with_reducible apply Keep.ite | with_reducible apply Keep.mk)

theorem Keep.State_tagApdu {μ : Mark} (s : State) (a : Apdu) (h_s : μ.ok s) : μ.ok (State.tagApdu s a) := by
  unfold State.tagApdu
  try dsimp only
  repeat' (first | with_reducible assumption | intro _ | with_reducible apply Keep.State_updHft | with_reducible apply Keep.State_bump | with_reducible apply Keep.State_apduMac | with_reducible apply Keep.State_apduRun | with_reducible apply Keep.ite | with_reducible apply Keep.mk)

theorem Keep.State_apduIn {μ : Mark} (s : State) (a : Apdu) (h_s : μ.ok s) : μ.okOut (State.apduIn s a) := by
  unfold State.apduIn
  try dsimp only
  repeat' (first | with_reducible assumption | intro _ | with_reducible apply Keep.State_tagIn | with_reducible apply Keep.State_tagApdu | with_reducible apply Keep.next | with_reducible apply Keep.ite | with_reducible apply Keep.iteO)

theorem Keep.c_execTagSelectNdefApp {μ : Mark} (a : Apdu) (s : State) (h_s : μ.ok s) : μ.okOut (execTagSelectNdefApp a s) := by
  unfold execTagSelectNdefApp
  try dsimp only
  repeat' (first | with_reducible assumption | with_reducible apply Keep.State_apduIn | with_reducible apply Keep.next | with_reducible apply Keep.ite | with_reducible apply Keep.iteO | with_reducible apply Keep.mk)

theorem Keep.c_execTagSelectFile {μ : Mark} (a : Apdu) (s : State) (h_s : μ.ok s) : μ.okOut (execTagSelectFile a s) := by
  unfold execTagSelectFile
  try dsimp only
  repeat' (first | with_reducible assumption | with_reducible apply Keep.State_apduIn | with_reducible apply Keep.next | with_reducible apply Keep.ite | with_reducible apply Keep.iteO | with_reducible apply Keep.mk)

theorem Keep.c_execTagReadBinary {μ : Mark} (a : Apdu) (s : State) (h_s : μ.ok s) : μ.okOut (execTagReadBinary a s) := by
  unfold execTagReadBinary
  try dsimp only
  repeat' (first | with_reducible assumption | with_reducible apply Keep.State_apduIn | with_reducible apply Keep.next | with_reducible apply Keep.ite | with_reducible apply Keep.iteO | with_reducible apply Keep.mk)

theorem Keep.c_execTagUpdateBinary {μ : Mark} (a : Apdu) (s : State) (h_s : μ.ok s) : μ.okOut (execTagUpdateBinary a s) := by
  unfold execTagUpdateBinary
  try dsimp only
  repeat' (first | with_reducible assumption | with_reducible apply Keep.State_apduIn | with_reducible apply Keep.next | with_reducible apply Keep.ite | with_reducible apply Keep.iteO | with_reducible apply Keep.mk)

theorem Keep.c_execGetInfo {μ : Mark} (a : Apdu) (s : State) (h_s : μ.ok s) : μ.okOut (execGetInfo a s) := by
  unfold execGetInfo
  try dsimp only
  repeat' (first | with_reducible assumption | with_reducible apply Keep.State_apduIn | with_reducible apply Keep.next | with_reducible apply Keep.ite | with_reducible apply Keep.iteO | with_reducible apply Keep.mk)

theorem Keep.c_execVerify {μ : Mark} (a : Apdu) (s : State) (h_s : μ.ok s) : μ.okOut (execVerify a s) := by
  unfold execVerify
  try dsimp only
  repeat' (first | with_reducible assumption | with_reducible apply Keep.State_apduIn | with_reducible apply Keep.next | with_reducible apply Keep.ite | with_reducible apply Keep.iteO | with_reducible apply Keep.mk)

theorem Keep.c_execAuth1 {μ : Mark} (a : Apdu) (s : State) (h_s : μ.ok s) : μ.okOut (execAuth1 a s) := by
  unfold execAuth1
  try dsimp only
  repeat' (first | with_reducible assumption | with_reducible apply Keep.State_apduIn | with_reducible apply Keep.next | with_reducible apply Keep.ite | with_reducible apply Keep.iteO | with_reducible apply Keep.mk)

theorem Keep.c_execAuth2 {μ : Mark} (a : Apdu) (s : State) (h_s : μ.ok s) : μ.okOut (execAuth2 a s) := by
  unfold execAuth2
  try dsimp only
  repeat' (first | with_reducible assumption | with_reducible apply Keep.State_apduIn | with_reducible apply Keep.next | with_reducible apply Keep.ite | with_reducible apply Keep.iteO | with_reducible apply Keep.mk)

theorem Keep.c_execReadRecord {μ : Mark} (a : Apdu) (s : State) (h_s : μ.ok s) : μ.okOut (execReadRecord a s) := by
  unfold execReadRecord
  try dsimp only
  repeat' (first | with_reducible assumption | with_reducible apply Keep.State_apduIn | with_reducible apply Keep.next | with_reducible apply Keep.ite | with_reducible apply Keep.iteO | with_reducible apply Keep.mk)

theorem Keep.c_execWriteRecord {μ : Mark} (a : Apdu) (s : State) (h_s : μ.ok s) : μ.okOut (execWriteRecord a s) := by
  unfold execWriteRecord
  try dsimp only
  repeat' (first | with_reducible assumption | with_reducible apply Keep.State_apduIn | with_reducible apply Keep.next | with_reducible apply Keep.ite | with_reducible apply Keep.iteO | with_reducible apply Keep.mk)

theorem Keep.c_execIncCounter {μ : Mark} (a : Apdu) (s : State) (h_s : μ.ok s) : μ.okOut (execIncCounter a s) := by
  unfold execIncCounter
  try dsimp only
  repeat' (first | with_reducible assumption | with_reducible apply Keep.State_apduIn | with_reducible apply Keep.next | with_reducible apply Keep.ite | with_reducible apply Keep.iteO | with_reducible apply Keep.mk)

theorem Keep.c_execReadCounters {μ : Mark} (a : Apdu) (s : State) (h_s : μ.ok s) : μ.okOut (execReadCounters a s) := by
  unfold execReadCounters
  try dsimp only
  repeat' (first | with_reducible assumption | with_reducible apply Keep.State_apduIn | with_reducible apply Keep.next | with_reducible apply Keep.ite | with_reducible apply Keep.iteO | with_reducible apply Keep.mk)

theorem Keep.c_execTagPassthroughApdu {μ : Mark} (a : Apdu) (s : State) (h_s : μ.ok s) : μ.okOut (execTagPassthroughApdu a s) := by
  unfold execTagPassthroughApdu
  try dsimp only
  repeat' (first | with_reducible assumption | with_reducible apply Keep.State_apduIn | with_reducible apply Keep.next | with_reducible apply Keep.ite | with_reducible apply Keep.iteO)

theorem Keep.State_wiredDone {μ : Mark} (s : State) (r result : Nat) (h_s : μ.ok s) : μ.ok (State.wiredDone s r result) := by
  unfold State.wiredDone
  try dsimp only
  repeat' (first | with_reducible assumption | with_reducible apply Keep.set | with_reducible apply Keep.ite)

theorem Keep.State_fieldGo {μ : Mark} (s : State) (h_s : μ.ok s) : μ.ok (State.fieldGo s) := by
  unfold State.fieldGo
  try dsimp only
  repeat' (first | with_reducible assumption | with_reducible apply Keep.State_tagApdu | with_reducible apply Keep.ite | split | with_reducible refine Keep.fromSome (by with_reducible assumption) ?_ | with_reducible refine Keep.fromInr (by with_reducible assumption) ?_ | with_reducible refine Keep.fromInl (by with_reducible assumption) ?_ | with_reducible refine Keep.fromPair (by with_reducible assumption) ?_ | with_reducible refine Keep.fromPair1 (by with_reducible assumption) ?_)

theorem Keep.State_commitDone {μ : Mark} (s : State) (c : Commit) (h_s : μ.ok s) : μ.ok (State.commitDone s c) := by
  unfold State.commitDone
  try dsimp only
  repeat' (first | with_reducible assumption | intro _ | with_reducible apply Keep.set | with_reducible apply Keep.State_commitPrefix | with_reducible apply Keep.State_updHft | with_reducible apply Keep.State_bump | with_reducible apply Keep.State_commitStart | with_reducible apply Keep.State_tagReply | with_reducible apply Keep.State_wiredDone | with_reducible apply Keep.State_fieldGo | with_reducible apply Keep.ite | split | with_reducible refine Keep.fromSome (by with_reducible assumption) ?_ | with_reducible refine Keep.fromInr (by with_reducible assumption) ?_ | with_reducible refine Keep.fromInl (by with_reducible assumption) ?_ | with_reducible refine Keep.fromPair (by with_reducible assumption) ?_ | with_reducible refine Keep.fromPair1 (by with_reducible assumption) ?_ | with_reducible apply Keep.mk)

theorem Keep.State_wiredRun {μ : Mark} (s : State) (r : Nat) (write : Bool) (h_s : μ.ok s) : μ.ok (State.wiredRun s r write) := by
  unfold State.wiredRun
  try dsimp only
  repeat' (first | with_reducible assumption | intro _ | with_reducible apply Keep.set | with_reducible apply Keep.forN | with_reducible apply Keep.State_updHft | with_reducible apply Keep.State_commitStart | with_reducible apply Keep.State_wiredDone | with_reducible apply Keep.State_fieldGo | with_reducible apply Keep.ite | with_reducible apply Keep.mk)

theorem Keep.State_wiredGo {μ : Mark} (s : State) (m : Master) (r : Nat) (nowait write : Bool) (h_s : μ.ok s) : μ.ok (State.wiredGo s m r nowait write) := by
  unfold State.wiredGo
  try dsimp only
  repeat' (first | with_reducible assumption | intro _ | with_reducible apply Keep.set | with_reducible apply Keep.State_wiredDone | with_reducible apply Keep.State_updHft | with_reducible apply Keep.State_wiredRun | with_reducible apply Keep.ite | with_reducible apply Keep.mk)

theorem Keep.c_execWiredRead {μ : Mark} (m : Master) (record : Nat) (nowait : Bool) (s : State) (h_s : μ.ok s) : μ.okOut (execWiredRead m record nowait s) := by
  unfold execWiredRead
  try dsimp only
  repeat' (first | with_reducible assumption | with_reducible apply Keep.State_wiredGo | with_reducible apply Keep.next | with_reducible apply Keep.ite | with_reducible apply Keep.iteO)

theorem Keep.c_execWiredWrite {μ : Mark} (m : Master) (record : Nat) (nowait : Bool) (s : State) (h_s : μ.ok s) : μ.okOut (execWiredWrite m record nowait s) := by
  unfold execWiredWrite
  try dsimp only
  repeat' (first | with_reducible assumption | with_reducible apply Keep.State_wiredGo | with_reducible apply Keep.next | with_reducible apply Keep.ite | with_reducible apply Keep.iteO)

theorem Keep.c_execWgrant {μ : Mark} (s : State) (h_s : μ.ok s) : μ.okOut (execWgrant s) := by
  unfold execWgrant
  try dsimp only
  repeat' (first | with_reducible assumption | with_reducible apply Keep.State_wiredRun | with_reducible apply Keep.next | with_reducible apply Keep.ite | with_reducible apply Keep.iteO | split | with_reducible refine Keep.fromSome (by with_reducible assumption) ?_ | with_reducible refine Keep.fromInr (by with_reducible assumption) ?_ | with_reducible refine Keep.fromInl (by with_reducible assumption) ?_ | with_reducible refine Keep.fromPair (by with_reducible assumption) ?_ | with_reducible refine Keep.fromPair1 (by with_reducible assumption) ?_)

theorem Keep.State_passAnswer {μ : Mark} (s : State) (b : List Nat) (h_s : μ.ok s) : μ.ok (State.passAnswer s b) := by
  unfold State.passAnswer
  try dsimp only
  repeat' (first | with_reducible assumption | with_reducible apply Keep.State_passClear | with_reducible apply Keep.State_tagAnswer | with_reducible apply Keep.ite)

theorem Keep.c_execPcmdRespond {μ : Mark} (_m : Master) (rlen : Nat) (s : State) (h_s : μ.ok s) : μ.okOut (execPcmdRespond _m rlen s) := by
  unfold execPcmdRespond
  try dsimp only
  repeat' (first | with_reducible assumption | with_reducible apply Keep.set | with_reducible apply Keep.State_passAnswer | with_reducible apply Keep.next | with_reducible apply Keep.ite | with_reducible apply Keep.iteO)

theorem Keep.c_execPcmdReject {μ : Mark} (_m : Master) (s : State) (h_s : μ.ok s) : μ.okOut (execPcmdReject _m s) := by
  unfold execPcmdReject
  try dsimp only
  repeat' (first | with_reducible assumption | with_reducible apply Keep.State_passAnswer | with_reducible apply Keep.next | with_reducible apply Keep.ite | with_reducible apply Keep.iteO)

theorem Keep.c_execPassthroughTimeout {μ : Mark} (s : State) (h_s : μ.ok s) : μ.okOut (execPassthroughTimeout s) := by
  unfold execPassthroughTimeout
  try dsimp only
  repeat' (first | with_reducible assumption | with_reducible apply Keep.State_passAnswer | with_reducible apply Keep.next | with_reducible apply Keep.ite | with_reducible apply Keep.iteO)

theorem Keep.State_txfTag {μ : Mark} (s : State) (n fidx : Nat) (h_s : μ.ok s) : μ.okSum (State.txfTag s n fidx) := by
  unfold State.txfTag
  try dsimp only
  repeat' (first | with_reducible assumption | intro _ | with_reducible apply Keep.State_passAnswer | with_reducible apply Keep.State_seqEvent | with_reducible apply Keep.State_bump | with_reducible apply Keep.ite | with_reducible apply Keep.iteS | with_reducible apply Keep.inl | with_reducible apply Keep.inr)

end Sys2Proof.Machine
end

