-- ==== Sys2Proof/Laws/KeepHfOps.lean ====
section
/-! SUPPORT. What the operations of Machine/HfOps.lean keep of a mark. -/

namespace Sys2Proof.Machine

open Sys2Proof

set_option linter.unreachableTactic false
set_option linter.unusedTactic false

theorem Keep.State_updHfr {μ : Mark} (s : State) (g : Hfr → Hfr) (h_s : μ.ok s) : μ.ok (State.updHfr s g) := by
  unfold State.updHfr
  try dsimp only
  repeat' (first | with_reducible assumption | with_reducible apply Keep.ite | with_reducible apply Keep.mk)

theorem Keep.State_hfBegin {μ : Mark} (s : State) (f : HfFrame) (h_s : μ.ok s) : μ.ok (State.hfBegin s f) := by
  unfold State.hfBegin
  try dsimp only
  repeat' (first | with_reducible assumption | intro _ | with_reducible apply Keep.set | with_reducible apply Keep.State_updHfr | with_reducible apply Keep.ite | with_reducible apply Keep.getD | with_reducible apply Keep.mk)

theorem Keep.State_txfHf {μ : Mark} (s : State) (n fidx : Nat) (h_s : μ.ok s) : μ.okSum (State.txfHf s n fidx) := by
  unfold State.txfHf
  try dsimp only
  repeat' (first | with_reducible assumption | intro _ | with_reducible apply Keep.set | with_reducible apply Keep.State_bump | with_reducible apply Keep.State_updHfr | with_reducible apply Keep.State_hfBegin | with_reducible apply Keep.ite | with_reducible apply Keep.iteS | with_reducible apply Keep.inl | with_reducible apply Keep.inr | with_reducible apply Keep.mk)

theorem Keep.State_hfDrive {μ : Mark} (s : State) (h_s : μ.ok s) : μ.ok (State.hfDrive s) := by
  unfold State.hfDrive
  try dsimp only
  repeat' (first | with_reducible assumption | intro _ | with_reducible apply Keep.State_updHfr | with_reducible apply Keep.ite | with_reducible apply Keep.mk)

theorem Keep.State_hfToCw {μ : Mark} (s : State) (h_s : μ.ok s) : μ.ok (State.hfToCw s) := by
  unfold State.hfToCw
  try dsimp only
  repeat' (first | with_reducible assumption | with_reducible apply Keep.set | with_reducible apply Keep.State_hfDrive | with_reducible apply Keep.ite)

theorem Keep.State_hfDecision {μ : Mark} (s : State) (f : HfFrame) (herr collpos cls : Nat) (crcOk : Bool) (payload : List Bool) (h_s : μ.ok s) : μ.ok (State.hfDecision s f herr collpos cls crcOk payload) := by
  unfold State.hfDecision
  try dsimp only
  repeat' (first | with_reducible assumption | intro _ | with_reducible apply Keep.set | with_reducible apply Keep.when | with_reducible apply Keep.State_updHfr | with_reducible apply Keep.State_bump | with_reducible apply Keep.State_hfToCw | with_reducible apply Keep.State_hfDeliver | with_reducible apply Keep.ite | with_reducible apply Keep.mk)

theorem Keep.State_hfFieldOff {μ : Mark} (s : State) (h_s : μ.ok s) : μ.ok (State.hfFieldOff s) := by
  unfold State.hfFieldOff
  try dsimp only
  repeat' (first | with_reducible assumption | intro _ | with_reducible apply Keep.set | with_reducible apply Keep.State_updHfr | with_reducible apply Keep.State_hfDecision | with_reducible apply Keep.ite | split | with_reducible refine Keep.fromSome (by with_reducible assumption) ?_ | with_reducible refine Keep.fromInr (by with_reducible assumption) ?_ | with_reducible refine Keep.fromInl (by with_reducible assumption) ?_ | with_reducible refine Keep.fromPair (by with_reducible assumption) ?_ | with_reducible refine Keep.fromPair1 (by with_reducible assumption) ?_ | with_reducible apply Keep.mk)

theorem Keep.State_recHf {μ : Mark} (s : State) (f : HfFrame) (payload : List Bool) (h_s : μ.ok s) : μ.ok (State.recHf s f payload) := by
  unfold State.recHf
  try dsimp only
  repeat' (first | with_reducible assumption | with_reducible apply Keep.State_recFill | with_reducible apply Keep.ite | with_reducible apply Keep.getD)

theorem Keep.State_hfIdent {μ : Mark} (s : State) (f : HfFrame) (payload : List Bool) (h_s : μ.ok s) : μ.ok (State.hfIdent s f payload) := by
  unfold State.hfIdent
  try dsimp only
  repeat' (first | with_reducible assumption | intro _ | with_reducible apply Keep.State_updHfr | with_reducible apply Keep.ite | with_reducible apply Keep.getD | with_reducible apply Keep.mk)

theorem Keep.State_atqaOpen {μ : Mark} (s : State) (pay : List Bool) (h_s : μ.ok s) : μ.ok (State.atqaOpen s pay) := by
  unfold State.atqaOpen
  try dsimp only
  repeat' (first | with_reducible assumption | intro _ | with_reducible apply Keep.fresh | with_reducible apply Keep.State_updHfr | with_reducible apply Keep.ite | with_reducible apply Keep.iteP | with_reducible apply Keep.mk)

theorem Keep.State_hfReply {μ : Mark} (s : State) (f : HfFrame) (ev : HfEvidence) (h_s : μ.ok s) : μ.ok (State.hfReply s f ev) := by
  unfold State.hfReply
  try dsimp only
  repeat' (first | with_reducible assumption | intro _ | with_reducible apply Keep.set | with_reducible apply Keep.State_atqaOpen | with_reducible apply Keep.State_hfDecision | with_reducible apply Keep.State_updHfr | with_reducible apply Keep.State_hfIdent | with_reducible apply Keep.State_recHf | with_reducible apply Keep.ite | with_reducible apply Keep.getD | split | with_reducible refine Keep.fromSome (by with_reducible assumption) ?_ | with_reducible refine Keep.fromInr (by with_reducible assumption) ?_ | with_reducible refine Keep.fromInl (by with_reducible assumption) ?_ | with_reducible refine Keep.fromPair (by with_reducible assumption) ?_ | with_reducible refine Keep.fromPair1 (by with_reducible assumption) ?_ | with_reducible apply Keep.mk)

theorem Keep.State_hfAnswer {μ : Mark} (s : State) (err : Nat) (h_s : μ.ok s) : μ.ok (State.hfAnswer s err) := by
  unfold State.hfAnswer
  try dsimp only
  repeat' (first | with_reducible assumption | intro _ | with_reducible apply Keep.set | with_reducible apply Keep.when | with_reducible apply Keep.State_updHfr | with_reducible apply Keep.State_rqsAnswer | with_reducible apply Keep.ite | split | with_reducible refine Keep.fromSome (by with_reducible assumption) ?_ | with_reducible refine Keep.fromInr (by with_reducible assumption) ?_ | with_reducible refine Keep.fromInl (by with_reducible assumption) ?_ | with_reducible refine Keep.fromPair (by with_reducible assumption) ?_ | with_reducible refine Keep.fromPair1 (by with_reducible assumption) ?_ | with_reducible apply Keep.mk)

theorem Keep.State_hfProgress {μ : Mark} (s : State) (h_s : μ.ok s) : μ.ok (State.hfProgress s) := by
  unfold State.hfProgress
  try dsimp only
  repeat' (first | with_reducible assumption | intro _ | with_reducible apply Keep.State_hfAnswer | with_reducible apply Keep.State_hfFieldOff | with_reducible apply Keep.State_updHfr | with_reducible apply Keep.ite | split | with_reducible refine Keep.fromSome (by with_reducible assumption) ?_ | with_reducible refine Keep.fromInr (by with_reducible assumption) ?_ | with_reducible refine Keep.fromInl (by with_reducible assumption) ?_ | with_reducible refine Keep.fromPair (by with_reducible assumption) ?_ | with_reducible refine Keep.fromPair1 (by with_reducible assumption) ?_ | with_reducible apply Keep.mk)

theorem Keep.State_hfRequest {μ : Mark} (s : State) (w : Nat) (h_s : μ.ok s) : μ.ok (State.hfRequest s w) := by
  unfold State.hfRequest
  try dsimp only
  repeat' (first | with_reducible assumption | intro _ | with_reducible apply Keep.set | with_reducible apply Keep.State_hfAnswer | with_reducible apply Keep.State_updHfr | with_reducible apply Keep.State_hfProgress | with_reducible apply Keep.ite | with_reducible apply Keep.mk)

theorem Keep.State_hfStepDone {μ : Mark} (s : State) (k : Nat) (railOk : Bool) (h_s : μ.ok s) : μ.ok (State.hfStepDone s k railOk) := by
  unfold State.hfStepDone
  try dsimp only
  repeat' (first | with_reducible assumption | intro _ | with_reducible apply Keep.set | with_reducible apply Keep.State_updHfr | with_reducible apply Keep.State_hfAnswer | with_reducible apply Keep.State_hfToCw | with_reducible apply Keep.State_tagGuard | with_reducible apply Keep.State_hfProgress | with_reducible apply Keep.ite | with_reducible apply Keep.mk)

theorem Keep.State_hfFrameEnd {μ : Mark} (s : State) (f : HfFrame) (h_s : μ.ok s) : μ.ok (State.hfFrameEnd s f) := by
  unfold State.hfFrameEnd
  try dsimp only
  repeat' (first | with_reducible assumption | intro _ | with_reducible apply Keep.set | with_reducible apply Keep.State_updHfr | with_reducible apply Keep.State_hfToCw | with_reducible apply Keep.State_seqEvent | with_reducible apply Keep.State_hfProgress | with_reducible apply Keep.ite | with_reducible apply Keep.mk)

theorem Keep.State_hfKill {μ : Mark} (s : State) (h_s : μ.ok s) : μ.ok (State.hfKill s) := by
  unfold State.hfKill
  try dsimp only
  repeat' (first | with_reducible assumption | intro _ | with_reducible apply Keep.set | with_reducible apply Keep.State_hfFieldOff | with_reducible apply Keep.State_updHfr | with_reducible apply Keep.State_hfAnswer | with_reducible apply Keep.ite | with_reducible apply Keep.mk)

theorem Keep.State_glOff {μ : Mark} (s : State) (h_s : μ.ok s) : μ.ok (State.glOff s) := by
  unfold State.glOff
  try dsimp only
  repeat' (first | with_reducible assumption | with_reducible apply Keep.set | with_reducible apply Keep.ite | with_reducible apply Keep.mk)

theorem Keep.State_hfrEnd {μ : Mark} (s : State) (h_s : μ.ok s) : μ.ok (State.hfrEnd s) := by
  unfold State.hfrEnd
  try dsimp only
  repeat' (first | with_reducible assumption | intro _ | with_reducible apply Keep.set | with_reducible apply Keep.State_hfFieldOff | with_reducible apply Keep.State_updHfr | with_reducible apply Keep.State_seqFree | with_reducible apply Keep.State_hfProgress | with_reducible apply Keep.ite | split | with_reducible refine Keep.fromSome (by with_reducible assumption) ?_ | with_reducible refine Keep.fromInr (by with_reducible assumption) ?_ | with_reducible refine Keep.fromInl (by with_reducible assumption) ?_ | with_reducible refine Keep.fromPair (by with_reducible assumption) ?_ | with_reducible refine Keep.fromPair1 (by with_reducible assumption) ?_ | with_reducible apply Keep.mk)

theorem Keep.State_hftEnd {μ : Mark} (s : State) (h_s : μ.ok s) : μ.ok (State.hftEnd s) := by
  unfold State.hftEnd
  try dsimp only
  repeat' (first | with_reducible assumption | with_reducible apply Keep.set | with_reducible apply Keep.State_seqFree | with_reducible apply Keep.ite)

theorem Keep.State_leaseEndAny {μ : Mark} (s : State) (n : Nat) (how : LeaseEnd) (h_s : μ.ok s) : μ.ok (State.leaseEndAny s n how) := by
  unfold State.leaseEndAny
  try dsimp only
  repeat' (first | with_reducible assumption | with_reducible apply Keep.State_hfrEnd | with_reducible apply Keep.State_hftEnd | with_reducible apply Keep.State_seqLeaseEnd | with_reducible apply Keep.ite)

theorem Keep.State_hfrOff {μ : Mark} (s : State) (h_s : μ.ok s) : μ.ok (State.hfrOff s) := by
  unfold State.hfrOff
  try dsimp only
  repeat' (first | with_reducible assumption | intro _ | with_reducible apply Keep.set | with_reducible apply Keep.State_hfrEnd | with_reducible apply Keep.State_updHfr | with_reducible apply Keep.State_glOff | with_reducible apply Keep.ite | with_reducible apply Keep.mk)

theorem Keep.State_hfLeaseGo {μ : Mark} (s : State) (target seq entry : Nat) (h_s : μ.ok s) : μ.ok (State.hfLeaseGo s target seq entry) := by
  unfold State.hfLeaseGo
  try dsimp only
  repeat' (first | with_reducible assumption | with_reducible apply Keep.set | with_reducible apply Keep.State_seqLease | with_reducible apply Keep.ite)

end Sys2Proof.Machine
end

