-- ==== Sys2Proof/Laws/KeepLsc.lean ====
section
/-! SUPPORT. What the operations of Machine/Lsc.lean keep of a mark. -/

namespace Sys2Proof.Machine

open Sys2Proof

set_option linter.unreachableTactic false
set_option linter.unusedTactic false

theorem Keep.State_seqStart {μ : Mark} (s : State) (n target : Nat) (h_s : μ.ok s) : μ.ok (State.seqStart s n target) := by
  unfold State.seqStart
  try dsimp only
  repeat' (first | with_reducible assumption | with_reducible apply Keep.set | with_reducible apply Keep.State_setSeq | with_reducible apply Keep.ite | with_reducible apply Keep.mk)

theorem Keep.State_seqStop {μ : Mark} (s : State) (n : Nat) (h_s : μ.ok s) : μ.ok (State.seqStop s n) := by
  unfold State.seqStop
  try dsimp only
  repeat' (first | with_reducible assumption | with_reducible apply Keep.set | with_reducible apply Keep.State_setOps | with_reducible apply Keep.State_leaseEndAny | with_reducible apply Keep.ite | with_reducible apply Keep.mk)

theorem Keep.State_seqResetCmd {μ : Mark} (s : State) (n : Nat) (h_s : μ.ok s) : μ.ok (State.seqResetCmd s n) := by
  unfold State.seqResetCmd
  try dsimp only
  repeat' (first | with_reducible assumption | with_reducible apply Keep.State_seqReset | with_reducible apply Keep.State_leaseEndAny | with_reducible apply Keep.ite)

theorem Keep.c_execSeqStart {μ : Mark} (n : Nat) (_m : Master) (s : State) (h_s : μ.ok s) : μ.okOut (execSeqStart n _m s) := by
  unfold execSeqStart
  try dsimp only
  repeat' (first | with_reducible assumption | with_reducible apply Keep.State_seqStart | with_reducible apply Keep.next | with_reducible apply Keep.ite | with_reducible apply Keep.iteO)

theorem Keep.c_execSeqIdle {μ : Mark} (n : Nat) (_m : Master) (s : State) (h_s : μ.ok s) : μ.okOut (execSeqIdle n _m s) := by
  unfold execSeqIdle
  try dsimp only
  repeat' (first | with_reducible assumption | with_reducible apply Keep.State_seqStart | with_reducible apply Keep.next | with_reducible apply Keep.ite | with_reducible apply Keep.iteO)

theorem Keep.c_execSeqStop {μ : Mark} (n : Nat) (_m : Master) (s : State) (h_s : μ.ok s) : μ.okOut (execSeqStop n _m s) := by
  unfold execSeqStop
  try dsimp only
  repeat' (first | with_reducible assumption | with_reducible apply Keep.State_seqStop | with_reducible apply Keep.next | with_reducible apply Keep.ite | with_reducible apply Keep.iteO)

theorem Keep.c_execSeqReset {μ : Mark} (n : Nat) (_m : Master) (s : State) (h_s : μ.ok s) : μ.okOut (execSeqReset n _m s) := by
  unfold execSeqReset
  try dsimp only
  repeat' (first | with_reducible assumption | with_reducible apply Keep.State_seqResetCmd | with_reducible apply Keep.next | with_reducible apply Keep.ite | with_reducible apply Keep.iteO)

theorem Keep.c_execGcmdStart {μ : Mark} (_m : Master) (mask : Nat) (s : State) (h_s : μ.ok s) : μ.okOut (execGcmdStart _m mask s) := by
  unfold execGcmdStart
  try dsimp only
  repeat' (first | with_reducible assumption | intro _ | with_reducible apply Keep.forL | with_reducible apply Keep.State_seqStart | with_reducible apply Keep.next | with_reducible apply Keep.ite | with_reducible apply Keep.iteO)

theorem Keep.c_execGcmdStop {μ : Mark} (_m : Master) (mask : Nat) (s : State) (h_s : μ.ok s) : μ.okOut (execGcmdStop _m mask s) := by
  unfold execGcmdStop
  try dsimp only
  repeat' (first | with_reducible assumption | intro _ | with_reducible apply Keep.forL | with_reducible apply Keep.State_seqStop | with_reducible apply Keep.next | with_reducible apply Keep.ite | with_reducible apply Keep.iteO)

theorem Keep.State_seqCmd {μ : Mark} (s : State) (n v : Nat) (h_s : μ.ok s) : μ.ok (State.seqCmd s n v) := by
  unfold State.seqCmd
  try dsimp only
  repeat' (first | with_reducible assumption | with_reducible apply Keep.State_seqResetCmd | with_reducible apply Keep.State_seqStop | with_reducible apply Keep.State_seqStart | with_reducible apply Keep.ite)

theorem Keep.c_execDoorbell {μ : Mark} (n : Nat) (_m : Master) (s : State) (h_s : μ.ok s) : μ.okOut (execDoorbell n _m s) := by
  unfold execDoorbell
  try dsimp only
  repeat' (first | with_reducible assumption | with_reducible apply Keep.State_seqEvent | with_reducible apply Keep.next | with_reducible apply Keep.ite | with_reducible apply Keep.iteO)

theorem Keep.State_setFlag {μ : Mark} (s : State) (n k : Nat) (b : Bool) (h_s : μ.ok s) : μ.ok (State.setFlag s n k b) := by
  unfold State.setFlag
  try dsimp only
  repeat' (first | with_reducible assumption | with_reducible apply Keep.State_setBit | with_reducible apply Keep.ite)

theorem Keep.State_seqResult {μ : Mark} (s : State) (n err : Nat) (h_s : μ.ok s) : μ.ok (State.seqResult s n err) := by
  unfold State.seqResult
  try dsimp only
  repeat' (first | with_reducible assumption | with_reducible apply Keep.set | with_reducible apply Keep.State_setFlag | with_reducible apply Keep.ite)

theorem Keep.State_waitEvent {μ : Mark} (s : State) (n why : Nat) (h_s : μ.ok s) : μ.ok (State.waitEvent s n why) := by
  unfold State.waitEvent
  try dsimp only
  repeat' (first | with_reducible assumption | with_reducible apply Keep.set | with_reducible apply Keep.State_setSeq | with_reducible apply Keep.State_setOps | with_reducible apply Keep.State_setFlag | with_reducible apply Keep.State_seqResult | with_reducible apply Keep.ite | with_reducible apply Keep.mk)

theorem Keep.State_waitExpire {μ : Mark} (s : State) (n : Nat) (h_s : μ.ok s) : μ.ok (State.waitExpire s n) := by
  unfold State.waitExpire
  try dsimp only
  repeat' (first | with_reducible assumption | with_reducible apply Keep.set | with_reducible apply Keep.State_setSeq | with_reducible apply Keep.State_setOps | with_reducible apply Keep.State_setFlag | with_reducible apply Keep.State_bump | with_reducible apply Keep.ite | with_reducible apply Keep.mk)

theorem Keep.State_waitIssue {μ : Mark} (s : State) (n : Nat) (w : WaitRec) (h_s : μ.ok s) : μ.ok (State.waitIssue s n w) := by
  unfold State.waitIssue
  try dsimp only
  repeat' (first | with_reducible assumption | with_reducible apply Keep.set | with_reducible apply Keep.State_waitEvent | with_reducible apply Keep.State_waitExpire | with_reducible apply Keep.State_setOps | with_reducible apply Keep.ite | with_reducible apply Keep.mk)

theorem Keep.c_execWaitEventEnd {μ : Mark} (n : Nat) (s : State) (h_s : μ.ok s) : μ.okOut (execWaitEventEnd n s) := by
  unfold execWaitEventEnd
  try dsimp only
  repeat' (first | with_reducible assumption | with_reducible apply Keep.set | with_reducible apply Keep.State_waitEvent | with_reducible apply Keep.next | with_reducible apply Keep.ite | with_reducible apply Keep.iteO | split | with_reducible refine Keep.fromSome (by with_reducible assumption) ?_ | with_reducible refine Keep.fromInr (by with_reducible assumption) ?_ | with_reducible refine Keep.fromInl (by with_reducible assumption) ?_ | with_reducible refine Keep.fromPair (by with_reducible assumption) ?_ | with_reducible refine Keep.fromPair1 (by with_reducible assumption) ?_)

theorem Keep.c_execWaitExpiry {μ : Mark} (n : Nat) (s : State) (h_s : μ.ok s) : μ.okOut (execWaitExpiry n s) := by
  unfold execWaitExpiry
  try dsimp only
  repeat' (first | with_reducible assumption | with_reducible apply Keep.set | with_reducible apply Keep.State_waitEvent | with_reducible apply Keep.State_waitExpire | with_reducible apply Keep.next | with_reducible apply Keep.ite | with_reducible apply Keep.iteO | split | with_reducible refine Keep.fromSome (by with_reducible assumption) ?_ | with_reducible refine Keep.fromInr (by with_reducible assumption) ?_ | with_reducible refine Keep.fromInl (by with_reducible assumption) ?_ | with_reducible refine Keep.fromPair (by with_reducible assumption) ?_ | with_reducible refine Keep.fromPair1 (by with_reducible assumption) ?_)

theorem Keep.State_seqFault {μ : Mark} (s : State) (n code : Nat) (h_s : μ.ok s) : μ.ok (State.seqFault s n code) := by
  unfold State.seqFault
  try dsimp only
  repeat' (first | with_reducible assumption | with_reducible apply Keep.set | with_reducible apply Keep.State_logHW | with_reducible apply Keep.ite)

theorem Keep.State_faultTick {μ : Mark} (s : State) (n : Nat) (h_s : μ.ok s) : μ.ok (State.faultTick s n) := by
  unfold State.faultTick
  try dsimp only
  repeat' (first | with_reducible assumption | with_reducible apply Keep.State_seqResetCmd | with_reducible apply Keep.ite)

end Sys2Proof.Machine
end

