-- ==== Sys2Proof/Laws/KeepRfs.lean ====
section
/-! SUPPORT. What the operations of Machine/Rfs.lean keep of a mark. -/

namespace Sys2Proof.Machine

open Sys2Proof

set_option linter.unreachableTactic false
set_option linter.unusedTactic false

theorem Keep.State_rfsOwned {μ : Mark} (s : State) (n : Nat) (m : Master) (k : State → State) (h_s : μ.ok s) (h_k : ∀ t, μ.ok t → μ.ok (k t)) : μ.ok (State.rfsOwned s n m k) := by
  unfold State.rfsOwned
  try dsimp only
  repeat' (first | with_reducible assumption | intro _ | with_reducible apply h_k | with_reducible apply Keep.forL | with_reducible apply Keep.State_utxRefuse | with_reducible apply Keep.ite)

theorem Keep.State_rfsFreq {μ : Mark} (s : State) (n v : Nat) (h_s : μ.ok s) : μ.ok (State.rfsFreq s n v) := by
  unfold State.rfsFreq
  try dsimp only
  repeat' (first | with_reducible assumption | intro _ | with_reducible apply Keep.set | with_reducible apply Keep.forL | with_reducible apply Keep.State_utxRefuse | with_reducible apply Keep.ite)

theorem Keep.c_execRfsFreqWrite {μ : Mark} (n : Nat) (m : Master) (value : Nat) (s : State) (h_s : μ.ok s) : μ.okOut (execRfsFreqWrite n m value s) := by
  unfold execRfsFreqWrite
  try dsimp only
  repeat' (first | with_reducible assumption | intro _ | with_reducible apply Keep.State_rfsOwned | with_reducible apply Keep.State_rfsFreq | with_reducible apply Keep.next | with_reducible apply Keep.ite | with_reducible apply Keep.iteO)

theorem Keep.c_execRfsLock {μ : Mark} (n : Nat) (m : Master) (s : State) (h_s : μ.ok s) : μ.okOut (execRfsLock n m s) := by
  unfold execRfsLock
  try dsimp only
  repeat' (first | with_reducible assumption | intro _ | with_reducible apply Keep.State_rfsOwned | with_reducible apply Keep.State_rfsLock | with_reducible apply Keep.next | with_reducible apply Keep.ite | with_reducible apply Keep.iteO)

theorem Keep.c_execRfsFull {μ : Mark} (n : Nat) (m : Master) (s : State) (h_s : μ.ok s) : μ.okOut (execRfsFull n m s) := by
  unfold execRfsFull
  try dsimp only
  repeat' (first | with_reducible assumption | intro _ | with_reducible apply Keep.State_rfsOwned | with_reducible apply Keep.State_rfsLock | with_reducible apply Keep.next | with_reducible apply Keep.ite | with_reducible apply Keep.iteO)

theorem Keep.State_calAborted {μ : Mark} (s : State) (seq code : Nat) (h_s : μ.ok s) : μ.ok (State.calAborted s seq code) := by
  unfold State.calAborted
  try dsimp only
  repeat' (first | with_reducible assumption | with_reducible apply Keep.set | with_reducible apply Keep.State_bump | with_reducible apply Keep.ite)

theorem Keep.State_calValid {μ : Mark} (s : State) (seq : Nat) (h_s : μ.ok s) : μ.ok (State.calValid s seq) := by
  unfold State.calValid
  try dsimp only
  repeat' (first | with_reducible assumption | with_reducible apply Keep.set | with_reducible apply Keep.State_setCal | with_reducible apply Keep.ite)

theorem Keep.State_calFinished {μ : Mark} (s : State) (seq units : Nat) (h_s : μ.ok s) : μ.ok (State.calFinished s seq units) := by
  unfold State.calFinished
  try dsimp only
  repeat' (first | with_reducible assumption | with_reducible apply Keep.set | with_reducible apply Keep.State_bump | with_reducible apply Keep.State_calValid | with_reducible apply Keep.ite)

theorem Keep.State_rfsCalStart {μ : Mark} (s : State) (n : Nat) (h_s : μ.ok s) : μ.ok (State.rfsCalStart s n) := by
  unfold State.rfsCalStart
  try dsimp only
  repeat' (first | with_reducible assumption | with_reducible apply Keep.set | with_reducible apply Keep.State_setSynth | with_reducible apply Keep.State_relock | with_reducible apply Keep.ite | with_reducible apply Keep.mk)

theorem Keep.State_rfsCal {μ : Mark} (s : State) (n : Nat) (h_s : μ.ok s) : μ.ok (State.rfsCal s n) := by
  unfold State.rfsCal
  try dsimp only
  repeat' (first | with_reducible assumption | intro _ | with_reducible apply Keep.set | with_reducible apply Keep.State_calAborted | with_reducible apply Keep.State_rfsCalStart | with_reducible apply Keep.ite | with_reducible apply Keep.mk)

theorem Keep.c_execRfsCal {μ : Mark} (n : Nat) (m : Master) (s : State) (h_s : μ.ok s) : μ.okOut (execRfsCal n m s) := by
  unfold execRfsCal
  try dsimp only
  repeat' (first | with_reducible assumption | intro _ | with_reducible apply Keep.State_rfsOwned | with_reducible apply Keep.State_rfsCal | with_reducible apply Keep.next | with_reducible apply Keep.ite | with_reducible apply Keep.iteO)

theorem Keep.c_execHintMiss {μ : Mark} (n : Nat) (s : State) (h_s : μ.ok s) : μ.okOut (execHintMiss n s) := by
  unfold execHintMiss
  try dsimp only
  repeat' (first | with_reducible assumption | with_reducible apply Keep.set | with_reducible apply Keep.State_setSynth | with_reducible apply Keep.State_ageHint | with_reducible apply Keep.next | with_reducible apply Keep.ite | with_reducible apply Keep.iteO | with_reducible apply Keep.mk)

theorem Keep.c_execSynthLocked {μ : Mark} (n band lockTime vtune : Nat) (s : State) (h_s : μ.ok s) : μ.okOut (execSynthLocked n band lockTime vtune s) := by
  unfold execSynthLocked
  try dsimp only
  repeat' (first | with_reducible assumption | with_reducible apply Keep.set | with_reducible apply Keep.State_rfsSearch | with_reducible apply Keep.State_setSynth | with_reducible apply Keep.State_relock | with_reducible apply Keep.State_rxCoastEnd | with_reducible apply Keep.State_rfsWake | with_reducible apply Keep.State_lockAnswer | with_reducible apply Keep.State_ageHint | with_reducible apply Keep.next | with_reducible apply Keep.ite | with_reducible apply Keep.iteO | split | with_reducible refine Keep.fromSome (by with_reducible assumption) ?_ | with_reducible refine Keep.fromInr (by with_reducible assumption) ?_ | with_reducible refine Keep.fromInl (by with_reducible assumption) ?_ | with_reducible refine Keep.fromPair (by with_reducible assumption) ?_ | with_reducible refine Keep.fromPair1 (by with_reducible assumption) ?_ | with_reducible apply Keep.mk)

theorem Keep.State_utxLol {μ : Mark} (s : State) (n : Nat) (h_s : μ.ok s) : μ.ok (State.utxLol s n) := by
  unfold State.utxLol
  try dsimp only
  repeat' (first | with_reducible assumption | with_reducible apply Keep.set | with_reducible apply Keep.State_noteErr | with_reducible apply Keep.State_bump | with_reducible apply Keep.State_rampDown | with_reducible apply Keep.State_setUtx | with_reducible apply Keep.State_giveUp | with_reducible apply Keep.State_endWait | with_reducible apply Keep.State_setUst | with_reducible apply Keep.State_utxFail | with_reducible apply Keep.ite | with_reducible apply Keep.mk)

theorem Keep.c_execSynthLossOfLock {μ : Mark} (n : Nat) (s : State) (h_s : μ.ok s) : μ.okOut (execSynthLossOfLock n s) := by
  unfold execSynthLossOfLock
  try dsimp only
  repeat' (first | with_reducible assumption | intro _ | with_reducible apply Keep.set | with_reducible apply Keep.forL | with_reducible apply Keep.State_rxCoast | with_reducible apply Keep.State_utxLol | with_reducible apply Keep.next | with_reducible apply Keep.ite | with_reducible apply Keep.iteO)

theorem Keep.c_execTemperatureTrigger {μ : Mark} (n temp : Nat) (s : State) (h_s : μ.ok s) : μ.okOut (execTemperatureTrigger n temp s) := by
  unfold execTemperatureTrigger
  try dsimp only
  repeat' (first | with_reducible assumption | with_reducible apply Keep.set | with_reducible apply Keep.next | with_reducible apply Keep.ite | with_reducible apply Keep.iteO)

theorem Keep.c_execTempCalStart {μ : Mark} (n : Nat) (s : State) (h_s : μ.ok s) : μ.okOut (execTempCalStart n s) := by
  unfold execTempCalStart
  try dsimp only
  repeat' (first | with_reducible assumption | with_reducible apply Keep.State_rfsCalStart | with_reducible apply Keep.next | with_reducible apply Keep.ite | with_reducible apply Keep.iteO)

theorem Keep.State_hintUpdate {μ : Mark} (s : State) (n bin : Nat) (bands : List Nat) (h_s : μ.ok s) : μ.ok (State.hintUpdate s n bin bands) := by
  unfold State.hintUpdate
  try dsimp only
  repeat' (first | with_reducible assumption | intro _ | with_reducible apply Keep.forN | with_reducible apply Keep.State_setCal | with_reducible apply Keep.ite | with_reducible apply Keep.getD)

theorem Keep.State_synthTrims {μ : Mark} (s : State) (n temp : Nat) (bands : List Nat) (h_s : μ.ok s) : μ.ok (State.synthTrims s n temp bands) := by
  unfold State.synthTrims
  try dsimp only
  repeat' (first | with_reducible assumption | with_reducible apply Keep.set | with_reducible apply Keep.State_hintUpdate | with_reducible apply Keep.State_setCal | with_reducible apply Keep.ite)

theorem Keep.State_calRelock {μ : Mark} (s : State) (n : Nat) (h_s : μ.ok s) : μ.ok (State.calRelock s n) := by
  unfold State.calRelock
  try dsimp only
  repeat' (first | with_reducible assumption | with_reducible apply Keep.set | with_reducible apply Keep.State_rfsLock | with_reducible apply Keep.ite)

theorem Keep.c_execSynthCalDone {μ : Mark} (n temp : Nat) (bands : List Nat) (s : State) (h_s : μ.ok s) : μ.okOut (execSynthCalDone n temp bands s) := by
  unfold execSynthCalDone
  try dsimp only
  repeat' (first | with_reducible assumption | with_reducible apply Keep.State_synthTrims | with_reducible apply Keep.State_calFinished | with_reducible apply Keep.State_calRelock | with_reducible apply Keep.State_bump | with_reducible apply Keep.next | with_reducible apply Keep.ite | with_reducible apply Keep.iteO)

end Sys2Proof.Machine
end

