-- ==== Sys2Proof/Laws/KeepUrx.lean ====
section
/-! SUPPORT. What the operations of Machine/Urx.lean keep of a mark. -/

namespace Sys2Proof.Machine

open Sys2Proof

set_option linter.unreachableTactic false
set_option linter.unusedTactic false

theorem Keep.State_rxMeasure {μ : Mark} (s : State) (ch resid crs i q : Nat) (h_s : μ.ok s) : μ.ok (State.rxMeasure s ch resid crs i q) := by
  unfold State.rxMeasure
  try dsimp only
  repeat' (first | with_reducible assumption | with_reducible apply Keep.set | with_reducible apply Keep.State_setVec | with_reducible apply Keep.State_jamReport | with_reducible apply Keep.ite)

theorem Keep.c_execNullFirstHold {μ : Mark} (ch resid crs vecI vecQ : Nat) (s : State) (h_s : μ.ok s) : μ.okOut (execNullFirstHold ch resid crs vecI vecQ s) := by
  unfold execNullFirstHold
  try dsimp only
  repeat' (first | with_reducible assumption | with_reducible apply Keep.set | with_reducible apply Keep.State_rxMeasure | with_reducible apply Keep.State_setUrx | with_reducible apply Keep.State_setRst | with_reducible apply Keep.next | with_reducible apply Keep.ite | with_reducible apply Keep.iteO | with_reducible apply Keep.mk)

theorem Keep.c_execHoldLost {μ : Mark} (ch resid crs vecI vecQ : Nat) (s : State) (h_s : μ.ok s) : μ.okOut (execHoldLost ch resid crs vecI vecQ s) := by
  unfold execHoldLost
  try dsimp only
  repeat' (first | with_reducible assumption | with_reducible apply Keep.set | with_reducible apply Keep.State_bump | with_reducible apply Keep.State_rxMeasure | with_reducible apply Keep.State_rxPolicy | with_reducible apply Keep.State_setUrx | with_reducible apply Keep.next | with_reducible apply Keep.ite | with_reducible apply Keep.iteO | with_reducible apply Keep.mk)

theorem Keep.c_execRejoin {μ : Mark} (ch resid crs vecI vecQ : Nat) (s : State) (h_s : μ.ok s) : μ.okOut (execRejoin ch resid crs vecI vecQ s) := by
  unfold execRejoin
  try dsimp only
  repeat' (first | with_reducible assumption | with_reducible apply Keep.set | with_reducible apply Keep.State_rxMeasure | with_reducible apply Keep.State_setUrx | with_reducible apply Keep.next | with_reducible apply Keep.ite | with_reducible apply Keep.iteO | with_reducible apply Keep.mk)

theorem Keep.c_execOverload {μ : Mark} (ch : Nat) (s : State) (h_s : μ.ok s) : μ.okOut (execOverload ch s) := by
  unfold execOverload
  try dsimp only
  repeat' (first | with_reducible assumption | with_reducible apply Keep.set | with_reducible apply Keep.State_bump | with_reducible apply Keep.State_setUrx | with_reducible apply Keep.State_setBit | with_reducible apply Keep.State_rxPolicy | with_reducible apply Keep.next | with_reducible apply Keep.ite | with_reducible apply Keep.iteO | with_reducible apply Keep.mk)

theorem Keep.c_execCnvSat {μ : Mark} (ch vecI vecQ resid : Nat) (s : State) (h_s : μ.ok s) : μ.okOut (execCnvSat ch vecI vecQ resid s) := by
  unfold execCnvSat
  try dsimp only
  repeat' (first | with_reducible assumption | with_reducible apply Keep.set | with_reducible apply Keep.State_rxMeasure | with_reducible apply Keep.next | with_reducible apply Keep.ite | with_reducible apply Keep.iteO)

theorem Keep.State_cfCarrier {μ : Mark} (s : State) (ch level : Nat) (h_s : μ.ok s) : μ.ok (State.cfCarrier s ch level) := by
  unfold State.cfCarrier
  try dsimp only
  repeat' (first | with_reducible assumption | with_reducible apply Keep.State_setSheaf | with_reducible apply Keep.ite | split | with_reducible refine Keep.fromSome (by with_reducible assumption) ?_ | with_reducible refine Keep.fromInr (by with_reducible assumption) ?_ | with_reducible refine Keep.fromInl (by with_reducible assumption) ?_ | with_reducible refine Keep.fromPair (by with_reducible assumption) ?_ | with_reducible refine Keep.fromPair1 (by with_reducible assumption) ?_ | with_reducible apply Keep.mk)

theorem Keep.c_execForeignToneLock {μ : Mark} (ch fofs level : Nat) (s : State) (h_s : μ.ok s) : μ.okOut (execForeignToneLock ch fofs level s) := by
  unfold execForeignToneLock
  try dsimp only
  repeat' (first | with_reducible assumption | with_reducible apply Keep.set | with_reducible apply Keep.State_cfCarrier | with_reducible apply Keep.next | with_reducible apply Keep.ite | with_reducible apply Keep.iteO)

theorem Keep.State_rxTrim {μ : Mark} (s : State) (ch : Nat) (iq : Bool) (v : Nat) (h_s : μ.ok s) : μ.ok (State.rxTrim s ch iq v) := by
  unfold State.rxTrim
  try dsimp only
  repeat' (first | with_reducible assumption | with_reducible apply Keep.set | with_reducible apply Keep.ite)

theorem Keep.c_execUrxTrimWrite {μ : Mark} (ch : Nat) (_m : Master) (iq : Bool) (value : Nat) (s : State) (h_s : μ.ok s) : μ.okOut (execUrxTrimWrite ch _m iq value s) := by
  unfold execUrxTrimWrite
  try dsimp only
  repeat' (first | with_reducible assumption | with_reducible apply Keep.State_rxTrim | with_reducible apply Keep.next | with_reducible apply Keep.ite | with_reducible apply Keep.iteO)

theorem Keep.State_rxVecWrite {μ : Mark} (s : State) (ch v : Nat) (h_s : μ.ok s) : μ.ok (State.rxVecWrite s ch v) := by
  unfold State.rxVecWrite
  try dsimp only
  repeat' (first | with_reducible assumption | with_reducible apply Keep.set | with_reducible apply Keep.State_jamReport | with_reducible apply Keep.ite)

theorem Keep.c_execCnvVecWrite {μ : Mark} (ch : Nat) (_m : Master) (value : Nat) (s : State) (h_s : μ.ok s) : μ.okOut (execCnvVecWrite ch _m value s) := by
  unfold execCnvVecWrite
  try dsimp only
  repeat' (first | with_reducible assumption | with_reducible apply Keep.State_rxVecWrite | with_reducible apply Keep.next | with_reducible apply Keep.ite | with_reducible apply Keep.iteO)

theorem Keep.State_capArm {μ : Mark} (s : State) (h_s : μ.ok s) : μ.ok (State.capArm s) := by
  unfold State.capArm
  try dsimp only
  repeat' (first | with_reducible assumption | with_reducible apply Keep.set | with_reducible apply Keep.ite | with_reducible apply Keep.mk)

theorem Keep.c_execCapArm {μ : Mark} (s : State) (h_s : μ.ok s) : μ.okOut (execCapArm s) := by
  unfold execCapArm
  try dsimp only
  repeat' (first | with_reducible assumption | with_reducible apply Keep.State_capArm | with_reducible apply Keep.next | with_reducible apply Keep.ite | with_reducible apply Keep.iteO)

theorem Keep.State_capTrigger {μ : Mark} (s : State) (src unit : Nat) (h_s : μ.ok s) : μ.ok (State.capTrigger s src unit) := by
  unfold State.capTrigger
  try dsimp only
  repeat' (first | with_reducible assumption | with_reducible apply Keep.set | with_reducible apply Keep.ite | with_reducible apply Keep.mk)

theorem Keep.c_execCapTrig {μ : Mark} (s : State) (h_s : μ.ok s) : μ.okOut (execCapTrig s) := by
  unfold execCapTrig
  try dsimp only
  repeat' (first | with_reducible assumption | with_reducible apply Keep.State_capTrigger | with_reducible apply Keep.next | with_reducible apply Keep.ite | with_reducible apply Keep.iteO)

theorem Keep.c_execCaptureTrigger {μ : Mark} (src unit : Nat) (s : State) (h_s : μ.ok s) : μ.okOut (execCaptureTrigger src unit s) := by
  unfold execCaptureTrigger
  try dsimp only
  repeat' (first | with_reducible assumption | with_reducible apply Keep.State_capTrigger | with_reducible apply Keep.next | with_reducible apply Keep.ite | with_reducible apply Keep.iteO)

theorem Keep.State_capWord {μ : Mark} (s : State) (words : List Nat) (k : Nat) (h_s : μ.ok s) : μ.ok (State.capWord s words k).2 := by
  unfold State.capWord
  try dsimp only
  repeat' (first | with_reducible assumption | with_reducible apply Keep.fresh | with_reducible apply Keep.ite | with_reducible apply Keep.iteP | split | with_reducible refine Keep.fromSome (by with_reducible assumption) ?_ | with_reducible refine Keep.fromInr (by with_reducible assumption) ?_ | with_reducible refine Keep.fromInl (by with_reducible assumption) ?_ | with_reducible refine Keep.fromPair (by with_reducible assumption) ?_ | with_reducible refine Keep.fromPair1 (by with_reducible assumption) ?_)

theorem Keep.State_capStore {μ : Mark} (s : State) (ptr size count : Nat) (words : List Nat) (h_s : μ.ok s) : μ.ok (State.capStore s ptr size count words) := by
  unfold State.capStore
  try dsimp only
  repeat' (first | with_reducible assumption | intro _ | with_reducible apply Keep.forN | with_reducible apply Keep.State_capWord | with_reducible apply Keep.State_wr32 | with_reducible apply Keep.ite)

theorem Keep.State_capEnd {μ : Mark} (s : State) (count before ptr : Nat) (samples : List Nat) (h_s : μ.ok s) : μ.ok (State.capEnd s count before ptr samples) := by
  unfold State.capEnd
  try dsimp only
  repeat' (first | with_reducible assumption | with_reducible apply Keep.set | with_reducible apply Keep.State_capStore | with_reducible apply Keep.ite | with_reducible apply Keep.mk)

theorem Keep.c_execCaptureDone {μ : Mark} (before ptr : Nat) (samples : List Nat) (s : State) (h_s : μ.ok s) : μ.okOut (execCaptureDone before ptr samples s) := by
  unfold execCaptureDone
  try dsimp only
  repeat' (first | with_reducible assumption | with_reducible apply Keep.State_capEnd | with_reducible apply Keep.next | with_reducible apply Keep.ite | with_reducible apply Keep.iteO)

theorem Keep.State_capStop {μ : Mark} (s : State) (stored before ptr : Nat) (samples : List Nat) (h_s : μ.ok s) : μ.ok (State.capStop s stored before ptr samples) := by
  unfold State.capStop
  try dsimp only
  repeat' (first | with_reducible assumption | with_reducible apply Keep.State_capEnd | with_reducible apply Keep.ite)

theorem Keep.c_execCapStop {μ : Mark} (stored before ptr : Nat) (samples : List Nat) (s : State) (h_s : μ.ok s) : μ.okOut (execCapStop stored before ptr samples s) := by
  unfold execCapStop
  try dsimp only
  repeat' (first | with_reducible assumption | with_reducible apply Keep.State_capStop | with_reducible apply Keep.next | with_reducible apply Keep.ite | with_reducible apply Keep.iteO)

theorem Keep.State_captureCut {μ : Mark} (s : State) (h_s : μ.ok s) : μ.ok (State.captureCut s) := by
  unfold State.captureCut
  try dsimp only
  repeat' (first | with_reducible assumption | with_reducible apply Keep.freshL | with_reducible apply Keep.State_capStop | with_reducible apply Keep.ite | with_reducible apply Keep.iteP | with_reducible apply Keep.getD)

end Sys2Proof.Machine
end

