-- ==== Sys2Proof/Laws/KeepPort.lean ====
section
/-! SUPPORT. What the operations of Machine/Port.lean keep of a mark. -/

namespace Sys2Proof.Machine

open Sys2Proof

set_option linter.unreachableTactic false
set_option linter.unusedTactic false

theorem Keep.State_utxCmd {μ : Mark} (s : State) (n : Nat) (m : Master) (req : Nat) (h_s : μ.ok s) : μ.ok (State.utxCmd s n m req) := by
  unfold State.utxCmd
  try dsimp only
  repeat' (first | with_reducible assumption | intro _ | with_reducible apply Keep.State_utxOwned | with_reducible apply Keep.State_utxRefuse | with_reducible apply Keep.State_utxReq | with_reducible apply Keep.ite)

theorem Keep.State_utxCtrl {μ : Mark} (s : State) (n v : Nat) (h_s : μ.ok s) : μ.ok (State.utxCtrl s n v) := by
  unfold State.utxCtrl
  try dsimp only
  repeat' (first | with_reducible assumption | with_reducible apply Keep.set | with_reducible apply Keep.State_loSrc | with_reducible apply Keep.ite)

theorem Keep.State_rfsCmd {μ : Mark} (s : State) (n : Nat) (m : Master) (v : Nat) (h_s : μ.ok s) : μ.ok (State.rfsCmd s n m v) := by
  unfold State.rfsCmd
  try dsimp only
  repeat' (first | with_reducible assumption | intro _ | with_reducible apply Keep.State_rfsOwned | with_reducible apply Keep.State_rfsCal | with_reducible apply Keep.State_rfsLock | with_reducible apply Keep.ite)

theorem Keep.State_rxEnable {μ : Mark} (s : State) (ch : Nat) (en : Bool) (h_s : μ.ok s) : μ.ok (State.rxEnable s ch en) := by
  unfold State.rxEnable
  try dsimp only
  repeat' (first | with_reducible assumption | with_reducible apply Keep.State_rxIdle | with_reducible apply Keep.State_setRst | with_reducible apply Keep.ite)

theorem Keep.State_rxCtrl {μ : Mark} (s : State) (fs : List (Fld × Nat)) (ch : Nat) (m : Master) (v : Nat) (isCtrl : Bool) (h_s : μ.ok s) : μ.ok (State.rxCtrl s fs ch m v isCtrl) := by
  unfold State.rxCtrl
  try dsimp only
  repeat' (first | with_reducible assumption | with_reducible apply Keep.set | with_reducible apply Keep.State_plainWrite | with_reducible apply Keep.State_rxEnable | with_reducible apply Keep.ite)

theorem Keep.State_capCtrl {μ : Mark} (s : State) (v : Nat) (h_s : μ.ok s) : μ.ok (State.capCtrl s v) := by
  unfold State.capCtrl
  try dsimp only
  repeat' (first | with_reducible assumption | with_reducible apply Keep.State_capArm | with_reducible apply Keep.State_capTrigger | with_reducible apply Keep.State_captureCut | with_reducible apply Keep.ite)

theorem Keep.State_leaseCmd {μ : Mark} (s : State) (sh : Nat) (m : Master) (v : Nat) (h_s : μ.ok s) : μ.ok (State.leaseCmd s sh m v) := by
  unfold State.leaseCmd
  try dsimp only
  repeat' (first | with_reducible assumption | with_reducible apply Keep.set | with_reducible apply Keep.State_leaseRelease | with_reducible apply Keep.State_leaseGo | with_reducible apply Keep.ite)

theorem Keep.State_beamWrite {μ : Mark} (s : State) (fs : List (Fld × Nat)) (sh v : Nat) (h_s : μ.ok s) : μ.ok (State.beamWrite s fs sh v) := by
  unfold State.beamWrite
  try dsimp only
  repeat' (first | with_reducible assumption | intro _ | with_reducible apply Keep.State_plainWrite | with_reducible apply Keep.State_beamSel | with_reducible apply Keep.ite)

theorem Keep.State_queCfg {μ : Mark} (s : State) (q v : Nat) (h_s : μ.ok s) : μ.ok (State.queCfg s q v) := by
  unfold State.queCfg
  try dsimp only
  repeat' (first | with_reducible assumption | with_reducible apply Keep.set | with_reducible apply Keep.State_queEnable | with_reducible apply Keep.State_queDisable | with_reducible apply Keep.ite)

theorem Keep.State_atbCtrl {μ : Mark} (s : State) (fs : List (Fld × Nat)) (v : Nat) (h_s : μ.ok s) : μ.ok (State.atbCtrl s fs v) := by
  unfold State.atbCtrl
  try dsimp only
  repeat' (first | with_reducible assumption | intro _ | with_reducible apply Keep.set | with_reducible apply Keep.State_plainWrite | with_reducible apply Keep.State_atbSource | with_reducible apply Keep.State_atbEnable | with_reducible apply Keep.State_atbDisable | with_reducible apply Keep.State_atbStandaloneClear | with_reducible apply Keep.ite)

theorem Keep.State_atbCmd {μ : Mark} (s : State) (v : Nat) (h_s : μ.ok s) : μ.ok (State.atbCmd s v) := by
  unfold State.atbCmd
  try dsimp only
  repeat' (first | with_reducible assumption | intro _ | with_reducible apply Keep.State_planDisarm | with_reducible apply Keep.State_planArm | with_reducible apply Keep.State_updAtb | with_reducible apply Keep.ite | with_reducible apply Keep.mk)

theorem Keep.State_aevCfg {μ : Mark} (s : State) (v : Nat) (h_s : μ.ok s) : μ.ok (State.aevCfg s v) := by
  unfold State.aevCfg
  try dsimp only
  repeat' (first | with_reducible assumption | with_reducible apply Keep.set | with_reducible apply Keep.ite | with_reducible apply Keep.mk)

theorem Keep.State_portHook {μ : Mark} (s : State) (fs : List (Fld × Nat)) (m : Master) (a v : Nat) (h_s : μ.ok s) : μ.okOpt (State.portHook s fs m a v) := by
  unfold State.portHook
  try dsimp only
  repeat' (first | with_reducible assumption | intro _ | with_reducible apply Keep.set | with_reducible apply Keep.forN | with_reducible apply Keep.forL | with_reducible apply Keep.State_utxCtrl | with_reducible apply Keep.State_utxCmd | with_reducible apply Keep.State_utxOwned | with_reducible apply Keep.State_refreshPwr | with_reducible apply Keep.State_modCfg | with_reducible apply Keep.State_steer | with_reducible apply Keep.State_rfsOwned | with_reducible apply Keep.State_rfsFreq | with_reducible apply Keep.State_rfsCmd | with_reducible apply Keep.State_capCtrl | with_reducible apply Keep.State_rxCtrl | with_reducible apply Keep.State_rxVecWrite | with_reducible apply Keep.State_rxTrim | with_reducible apply Keep.State_antWrite | with_reducible apply Keep.State_isoWrite | with_reducible apply Keep.State_geoWrite | with_reducible apply Keep.State_leaseCmd | with_reducible apply Keep.State_shfErr | with_reducible apply Keep.State_beamWrite | with_reducible apply Keep.State_bwWrite | with_reducible apply Keep.State_queSet | with_reducible apply Keep.State_queCfg | with_reducible apply Keep.State_quePush | with_reducible apply Keep.State_atbCtrl | with_reducible apply Keep.State_atbCmd | with_reducible apply Keep.State_plainWrite | with_reducible apply Keep.State_planWrite | with_reducible apply Keep.State_aevCfg | with_reducible apply Keep.ite | with_reducible apply Keep.iteP | with_reducible apply Keep.orElse | with_reducible apply Keep.map | with_reducible apply Keep.iteOpt | with_reducible apply Keep.optSome | with_reducible apply Keep.optNone | with_reducible apply Keep.mk)

theorem Keep.State_portReadFx {μ : Mark} (s : State) (m : Master) (a : Nat) (h_s : μ.ok s) : μ.ok (State.portReadFx s m a) := by
  unfold State.portReadFx
  try dsimp only
  repeat' (first | with_reducible assumption | intro _ | with_reducible apply Keep.fresh | with_reducible apply Keep.State_latch | with_reducible apply Keep.State_quePop | with_reducible apply Keep.State_bwNext | with_reducible apply Keep.State_planNext | with_reducible apply Keep.ite | with_reducible apply Keep.iteP | with_reducible apply Keep.orElse | with_reducible apply Keep.map | with_reducible apply Keep.iteOpt | with_reducible apply Keep.optSome | with_reducible apply Keep.optNone | with_reducible apply Keep.getD | with_reducible apply Keep.mk)

theorem Keep.State_portRead {μ : Mark} (s : State) (n blk off : Nat) (h_s : μ.ok s) : μ.ok (State.portRead s n blk off).2 := by
  unfold State.portRead
  try dsimp only
  repeat' (first | with_reducible assumption | with_reducible apply Keep.State_portReadFx | with_reducible apply Keep.State_rcClear | with_reducible apply Keep.ite | with_reducible apply Keep.iteP | with_reducible apply Keep.getD | split | with_reducible refine Keep.fromSome (by with_reducible assumption) ?_ | with_reducible refine Keep.fromInr (by with_reducible assumption) ?_ | with_reducible refine Keep.fromInl (by with_reducible assumption) ?_ | with_reducible refine Keep.fromPair (by with_reducible assumption) ?_ | with_reducible refine Keep.fromPair1 (by with_reducible assumption) ?_)

theorem Keep.State_portWrite {μ : Mark} (s : State) (n blk off v : Nat) (h_s : μ.ok s) : μ.ok (State.portWrite s n blk off v) := by
  unfold State.portWrite
  try dsimp only
  repeat' (first | with_reducible assumption | with_reducible apply Keep.State_portHook | with_reducible apply Keep.State_plainWrite | with_reducible apply Keep.ite | with_reducible apply Keep.getD | split | with_reducible refine Keep.fromSome (by with_reducible assumption) ?_ | with_reducible refine Keep.fromInr (by with_reducible assumption) ?_ | with_reducible refine Keep.fromInl (by with_reducible assumption) ?_ | with_reducible refine Keep.fromPair (by with_reducible assumption) ?_ | with_reducible refine Keep.fromPair1 (by with_reducible assumption) ?_)

end Sys2Proof.Machine
end

