-- ==== Sys2Proof/Laws/KeepLsi.lean ====
section
/-! SUPPORT. What the operations of Machine/Lsi.lean keep of a mark. -/

namespace Sys2Proof.Machine

open Sys2Proof

set_option linter.unreachableTactic false
set_option linter.unusedTactic false

theorem Keep.State_setG {μ : Mark} (s : State) (n k v : Nat) (h_s : μ.ok s) : μ.ok (State.setG s n k v) := by
  unfold State.setG
  try dsimp only
  repeat' (first | with_reducible assumption | with_reducible apply Keep.set | with_reducible apply Keep.State_setSeq | with_reducible apply Keep.ite | with_reducible apply Keep.mk)

theorem Keep.State_pcNext {μ : Mark} (s : State) (n : Nat) (h_s : μ.ok s) : μ.ok (State.pcNext s n) := by
  unfold State.pcNext
  try dsimp only
  repeat' (first | with_reducible assumption | with_reducible apply Keep.set | with_reducible apply Keep.ite)

theorem Keep.State_seqDo {μ : Mark} (s : State) (n : Nat) (g : State → State) (h_s : μ.ok s) (h_g : ∀ t, μ.ok t → μ.ok (g t)) : μ.okOut (State.seqDo s n g) := by
  unfold State.seqDo
  try dsimp only
  repeat' (first | with_reducible assumption | intro _ | with_reducible apply h_g | with_reducible apply Keep.State_seqFault | with_reducible apply Keep.next | with_reducible apply Keep.ite | with_reducible apply Keep.iteO)

theorem Keep.State_seqOp {μ : Mark} (s : State) (n : Nat) (g : State → State) (h_s : μ.ok s) (h_g : ∀ t, μ.ok t → μ.ok (g t)) : μ.okOut (State.seqOp s n g) := by
  unfold State.seqOp
  try dsimp only
  repeat' (first | with_reducible assumption | intro _ | with_reducible apply h_g | with_reducible apply Keep.State_seqDo | with_reducible apply Keep.State_pcNext | with_reducible apply Keep.next | with_reducible apply Keep.ite | with_reducible apply Keep.iteO)

theorem Keep.State_flagZN {μ : Mark} (s : State) (n v : Nat) (h_s : μ.ok s) : μ.ok (State.flagZN s n v) := by
  unfold State.flagZN
  try dsimp only
  repeat' (first | with_reducible assumption | with_reducible apply Keep.State_setFlag | with_reducible apply Keep.ite)

theorem Keep.State_aluZN {μ : Mark} (s : State) (n d v : Nat) (h_s : μ.ok s) : μ.ok (State.aluZN s n d v) := by
  unfold State.aluZN
  try dsimp only
  repeat' (first | with_reducible assumption | with_reducible apply Keep.State_flagZN | with_reducible apply Keep.State_setG | with_reducible apply Keep.ite)

theorem Keep.State_aluZNC {μ : Mark} (s : State) (n d v : Nat) (c : Bool) (h_s : μ.ok s) : μ.ok (State.aluZNC s n d v c) := by
  unfold State.aluZNC
  try dsimp only
  repeat' (first | with_reducible assumption | with_reducible apply Keep.State_setFlag | with_reducible apply Keep.State_aluZN | with_reducible apply Keep.ite)

theorem Keep.State_aluAdd {μ : Mark} (s : State) (n d x y : Nat) (h_s : μ.ok s) : μ.ok (State.aluAdd s n d x y) := by
  unfold State.aluAdd
  try dsimp only
  repeat' (first | with_reducible assumption | with_reducible apply Keep.State_aluZNC | with_reducible apply Keep.ite)

theorem Keep.State_aluSub {μ : Mark} (s : State) (n d x y : Nat) (h_s : μ.ok s) : μ.ok (State.aluSub s n d x y) := by
  unfold State.aluSub
  try dsimp only
  repeat' (first | with_reducible assumption | with_reducible apply Keep.State_aluZNC | with_reducible apply Keep.ite)

theorem Keep.State_aluShl {μ : Mark} (s : State) (n d x k : Nat) (h_s : μ.ok s) : μ.ok (State.aluShl s n d x k) := by
  unfold State.aluShl
  try dsimp only
  repeat' (first | with_reducible assumption | with_reducible apply Keep.State_aluZN | with_reducible apply Keep.State_aluZNC | with_reducible apply Keep.ite)

theorem Keep.State_aluShr {μ : Mark} (s : State) (n d x k : Nat) (h_s : μ.ok s) : μ.ok (State.aluShr s n d x k) := by
  unfold State.aluShr
  try dsimp only
  repeat' (first | with_reducible assumption | with_reducible apply Keep.State_aluZN | with_reducible apply Keep.State_aluZNC | with_reducible apply Keep.ite)

theorem Keep.State_setStack {μ : Mark} (s : State) (n : Nat) (l : List Nat) (h_s : μ.ok s) : μ.ok (State.setStack s n l) := by
  unfold State.setStack
  try dsimp only
  repeat' (first | with_reducible assumption | with_reducible apply Keep.set | with_reducible apply Keep.State_setSeq | with_reducible apply Keep.ite | with_reducible apply Keep.mk)

theorem Keep.State_seqLoad {μ : Mark} (s : State) (n d a imm w : Nat) (h_s : μ.ok s) : μ.okOut (State.seqLoad s n d a imm w) := by
  unfold State.seqLoad
  try dsimp only
  repeat' (first | with_reducible assumption | intro _ | with_reducible apply Keep.State_seqDo | with_reducible apply Keep.State_seqFault | with_reducible apply Keep.State_pcNext | with_reducible apply Keep.State_setG | with_reducible apply Keep.next | with_reducible apply Keep.ite | with_reducible apply Keep.iteO)

theorem Keep.State_seqPut {μ : Mark} (s : State) (n ea : Nat) (b : List Nat) (h_s : μ.ok s) : μ.ok (State.seqPut s n ea b) := by
  unfold State.seqPut
  try dsimp only
  repeat' (first | with_reducible assumption | with_reducible apply Keep.wrBytes | with_reducible apply Keep.State_freshPar | with_reducible apply Keep.State_setEng | with_reducible apply Keep.ite | with_reducible apply Keep.iteP | split | with_reducible refine Keep.fromSome (by with_reducible assumption) ?_ | with_reducible refine Keep.fromInr (by with_reducible assumption) ?_ | with_reducible refine Keep.fromInl (by with_reducible assumption) ?_ | with_reducible refine Keep.fromPair (by with_reducible assumption) ?_ | with_reducible refine Keep.fromPair1 (by with_reducible assumption) ?_ | with_reducible apply Keep.mk)

theorem Keep.State_seqStore {μ : Mark} (s : State) (n d a imm w : Nat) (h_s : μ.ok s) : μ.okOut (State.seqStore s n d a imm w) := by
  unfold State.seqStore
  try dsimp only
  repeat' (first | with_reducible assumption | intro _ | with_reducible apply Keep.State_seqDo | with_reducible apply Keep.State_seqFault | with_reducible apply Keep.State_pcNext | with_reducible apply Keep.State_seqPut | with_reducible apply Keep.next | with_reducible apply Keep.ite | with_reducible apply Keep.iteO)

theorem Keep.c_execLsiIllegal {μ : Mark} (n w : Nat) (s : State) (h_s : μ.ok s) : μ.okOut (execLsiIllegal n w s) := by
  unfold execLsiIllegal
  try dsimp only
  repeat' (first | with_reducible assumption | intro _ | with_reducible apply Keep.State_seqDo | with_reducible apply Keep.State_seqFault | with_reducible apply Keep.next | with_reducible apply Keep.ite | with_reducible apply Keep.iteO)

theorem Keep.c_execLsiNop {μ : Mark} (n : Nat) (s : State) (h_s : μ.ok s) : μ.okOut (execLsiNop n s) := by
  unfold execLsiNop
  try dsimp only
  repeat' (first | with_reducible assumption | intro _ | with_reducible apply Keep.State_seqOp | with_reducible apply Keep.next | with_reducible apply Keep.ite | with_reducible apply Keep.iteO)

theorem Keep.c_execLsiAdd {μ : Mark} (n d a b : Nat) (s : State) (h_s : μ.ok s) : μ.okOut (execLsiAdd n d a b s) := by
  unfold execLsiAdd
  try dsimp only
  repeat' (first | with_reducible assumption | intro _ | with_reducible apply Keep.State_seqOp | with_reducible apply Keep.State_aluAdd | with_reducible apply Keep.next | with_reducible apply Keep.ite | with_reducible apply Keep.iteO)

theorem Keep.c_execLsiSub {μ : Mark} (n d a b : Nat) (s : State) (h_s : μ.ok s) : μ.okOut (execLsiSub n d a b s) := by
  unfold execLsiSub
  try dsimp only
  repeat' (first | with_reducible assumption | intro _ | with_reducible apply Keep.State_seqOp | with_reducible apply Keep.State_aluSub | with_reducible apply Keep.next | with_reducible apply Keep.ite | with_reducible apply Keep.iteO)

theorem Keep.c_execLsiAnd {μ : Mark} (n d a b : Nat) (s : State) (h_s : μ.ok s) : μ.okOut (execLsiAnd n d a b s) := by
  unfold execLsiAnd
  try dsimp only
  repeat' (first | with_reducible assumption | intro _ | with_reducible apply Keep.State_seqOp | with_reducible apply Keep.State_aluZN | with_reducible apply Keep.next | with_reducible apply Keep.ite | with_reducible apply Keep.iteO)

theorem Keep.c_execLsiOr {μ : Mark} (n d a b : Nat) (s : State) (h_s : μ.ok s) : μ.okOut (execLsiOr n d a b s) := by
  unfold execLsiOr
  try dsimp only
  repeat' (first | with_reducible assumption | intro _ | with_reducible apply Keep.State_seqOp | with_reducible apply Keep.State_aluZN | with_reducible apply Keep.next | with_reducible apply Keep.ite | with_reducible apply Keep.iteO)

theorem Keep.c_execLsiXor {μ : Mark} (n d a b : Nat) (s : State) (h_s : μ.ok s) : μ.okOut (execLsiXor n d a b s) := by
  unfold execLsiXor
  try dsimp only
  repeat' (first | with_reducible assumption | intro _ | with_reducible apply Keep.State_seqOp | with_reducible apply Keep.State_aluZN | with_reducible apply Keep.next | with_reducible apply Keep.ite | with_reducible apply Keep.iteO)

theorem Keep.c_execLsiShl {μ : Mark} (n d a b : Nat) (s : State) (h_s : μ.ok s) : μ.okOut (execLsiShl n d a b s) := by
  unfold execLsiShl
  try dsimp only
  repeat' (first | with_reducible assumption | intro _ | with_reducible apply Keep.State_seqOp | with_reducible apply Keep.State_aluShl | with_reducible apply Keep.next | with_reducible apply Keep.ite | with_reducible apply Keep.iteO)

theorem Keep.c_execLsiShr {μ : Mark} (n d a b : Nat) (s : State) (h_s : μ.ok s) : μ.okOut (execLsiShr n d a b s) := by
  unfold execLsiShr
  try dsimp only
  repeat' (first | with_reducible assumption | intro _ | with_reducible apply Keep.State_seqOp | with_reducible apply Keep.State_aluShr | with_reducible apply Keep.next | with_reducible apply Keep.ite | with_reducible apply Keep.iteO)

theorem Keep.c_execLsiMinu {μ : Mark} (n d a b : Nat) (s : State) (h_s : μ.ok s) : μ.okOut (execLsiMinu n d a b s) := by
  unfold execLsiMinu
  try dsimp only
  repeat' (first | with_reducible assumption | intro _ | with_reducible apply Keep.State_seqOp | with_reducible apply Keep.State_aluZN | with_reducible apply Keep.next | with_reducible apply Keep.ite | with_reducible apply Keep.iteO)

theorem Keep.c_execLsiMaxu {μ : Mark} (n d a b : Nat) (s : State) (h_s : μ.ok s) : μ.okOut (execLsiMaxu n d a b s) := by
  unfold execLsiMaxu
  try dsimp only
  repeat' (first | with_reducible assumption | intro _ | with_reducible apply Keep.State_seqOp | with_reducible apply Keep.State_aluZN | with_reducible apply Keep.next | with_reducible apply Keep.ite | with_reducible apply Keep.iteO)

theorem Keep.c_execLsiMul {μ : Mark} (n d a b : Nat) (s : State) (h_s : μ.ok s) : μ.okOut (execLsiMul n d a b s) := by
  unfold execLsiMul
  try dsimp only
  repeat' (first | with_reducible assumption | intro _ | with_reducible apply Keep.State_seqOp | with_reducible apply Keep.State_aluZN | with_reducible apply Keep.next | with_reducible apply Keep.ite | with_reducible apply Keep.iteO)

theorem Keep.c_execLsiExt {μ : Mark} (n d a pos len : Nat) (s : State) (h_s : μ.ok s) : μ.okOut (execLsiExt n d a pos len s) := by
  unfold execLsiExt
  try dsimp only
  repeat' (first | with_reducible assumption | intro _ | with_reducible apply Keep.State_seqOp | with_reducible apply Keep.State_aluZN | with_reducible apply Keep.next | with_reducible apply Keep.ite | with_reducible apply Keep.iteO)

theorem Keep.c_execLsiClz {μ : Mark} (n d a : Nat) (s : State) (h_s : μ.ok s) : μ.okOut (execLsiClz n d a s) := by
  unfold execLsiClz
  try dsimp only
  repeat' (first | with_reducible assumption | intro _ | with_reducible apply Keep.State_seqOp | with_reducible apply Keep.State_setFlag | with_reducible apply Keep.State_setG | with_reducible apply Keep.next | with_reducible apply Keep.ite | with_reducible apply Keep.iteO)

theorem Keep.c_execLsiCmp {μ : Mark} (n a b : Nat) (s : State) (h_s : μ.ok s) : μ.okOut (execLsiCmp n a b s) := by
  unfold execLsiCmp
  try dsimp only
  repeat' (first | with_reducible assumption | intro _ | with_reducible apply Keep.State_seqOp | with_reducible apply Keep.State_aluSub | with_reducible apply Keep.next | with_reducible apply Keep.ite | with_reducible apply Keep.iteO)

theorem Keep.c_execLsiAddi {μ : Mark} (n d a imm : Nat) (s : State) (h_s : μ.ok s) : μ.okOut (execLsiAddi n d a imm s) := by
  unfold execLsiAddi
  try dsimp only
  repeat' (first | with_reducible assumption | intro _ | with_reducible apply Keep.State_seqOp | with_reducible apply Keep.State_aluAdd | with_reducible apply Keep.next | with_reducible apply Keep.ite | with_reducible apply Keep.iteO)

theorem Keep.c_execLsiAndi {μ : Mark} (n d a imm : Nat) (s : State) (h_s : μ.ok s) : μ.okOut (execLsiAndi n d a imm s) := by
  unfold execLsiAndi
  try dsimp only
  repeat' (first | with_reducible assumption | intro _ | with_reducible apply Keep.State_seqOp | with_reducible apply Keep.State_aluZN | with_reducible apply Keep.next | with_reducible apply Keep.ite | with_reducible apply Keep.iteO)

theorem Keep.c_execLsiOri {μ : Mark} (n d a imm : Nat) (s : State) (h_s : μ.ok s) : μ.okOut (execLsiOri n d a imm s) := by
  unfold execLsiOri
  try dsimp only
  repeat' (first | with_reducible assumption | intro _ | with_reducible apply Keep.State_seqOp | with_reducible apply Keep.State_aluZN | with_reducible apply Keep.next | with_reducible apply Keep.ite | with_reducible apply Keep.iteO)

theorem Keep.c_execLsiXori {μ : Mark} (n d a imm : Nat) (s : State) (h_s : μ.ok s) : μ.okOut (execLsiXori n d a imm s) := by
  unfold execLsiXori
  try dsimp only
  repeat' (first | with_reducible assumption | intro _ | with_reducible apply Keep.State_seqOp | with_reducible apply Keep.State_aluZN | with_reducible apply Keep.next | with_reducible apply Keep.ite | with_reducible apply Keep.iteO)

theorem Keep.c_execLsiShli {μ : Mark} (n d a imm : Nat) (s : State) (h_s : μ.ok s) : μ.okOut (execLsiShli n d a imm s) := by
  unfold execLsiShli
  try dsimp only
  repeat' (first | with_reducible assumption | intro _ | with_reducible apply Keep.State_seqOp | with_reducible apply Keep.State_aluShl | with_reducible apply Keep.next | with_reducible apply Keep.ite | with_reducible apply Keep.iteO)

theorem Keep.c_execLsiShri {μ : Mark} (n d a imm : Nat) (s : State) (h_s : μ.ok s) : μ.okOut (execLsiShri n d a imm s) := by
  unfold execLsiShri
  try dsimp only
  repeat' (first | with_reducible assumption | intro _ | with_reducible apply Keep.State_seqOp | with_reducible apply Keep.State_aluShr | with_reducible apply Keep.next | with_reducible apply Keep.ite | with_reducible apply Keep.iteO)

theorem Keep.c_execLsiLui {μ : Mark} (n d imm : Nat) (s : State) (h_s : μ.ok s) : μ.okOut (execLsiLui n d imm s) := by
  unfold execLsiLui
  try dsimp only
  repeat' (first | with_reducible assumption | intro _ | with_reducible apply Keep.State_seqOp | with_reducible apply Keep.State_setG | with_reducible apply Keep.next | with_reducible apply Keep.ite | with_reducible apply Keep.iteO)

theorem Keep.c_execLsiCmpi {μ : Mark} (n a imm : Nat) (s : State) (h_s : μ.ok s) : μ.okOut (execLsiCmpi n a imm s) := by
  unfold execLsiCmpi
  try dsimp only
  repeat' (first | with_reducible assumption | intro _ | with_reducible apply Keep.State_seqOp | with_reducible apply Keep.State_aluSub | with_reducible apply Keep.next | with_reducible apply Keep.ite | with_reducible apply Keep.iteO)

theorem Keep.c_execLsiLdw {μ : Mark} (n d a imm : Nat) (s : State) (h_s : μ.ok s) : μ.okOut (execLsiLdw n d a imm s) := by
  unfold execLsiLdw
  try dsimp only
  repeat' (first | with_reducible assumption | with_reducible apply Keep.State_seqLoad | with_reducible apply Keep.next | with_reducible apply Keep.ite | with_reducible apply Keep.iteO)

theorem Keep.c_execLsiLdh {μ : Mark} (n d a imm : Nat) (s : State) (h_s : μ.ok s) : μ.okOut (execLsiLdh n d a imm s) := by
  unfold execLsiLdh
  try dsimp only
  repeat' (first | with_reducible assumption | with_reducible apply Keep.State_seqLoad | with_reducible apply Keep.next | with_reducible apply Keep.ite | with_reducible apply Keep.iteO)

theorem Keep.c_execLsiLdb {μ : Mark} (n d a imm : Nat) (s : State) (h_s : μ.ok s) : μ.okOut (execLsiLdb n d a imm s) := by
  unfold execLsiLdb
  try dsimp only
  repeat' (first | with_reducible assumption | with_reducible apply Keep.State_seqLoad | with_reducible apply Keep.next | with_reducible apply Keep.ite | with_reducible apply Keep.iteO)

theorem Keep.c_execLsiStw {μ : Mark} (n d a imm : Nat) (s : State) (h_s : μ.ok s) : μ.okOut (execLsiStw n d a imm s) := by
  unfold execLsiStw
  try dsimp only
  repeat' (first | with_reducible assumption | with_reducible apply Keep.State_seqStore | with_reducible apply Keep.next | with_reducible apply Keep.ite | with_reducible apply Keep.iteO)

theorem Keep.c_execLsiSth {μ : Mark} (n d a imm : Nat) (s : State) (h_s : μ.ok s) : μ.okOut (execLsiSth n d a imm s) := by
  unfold execLsiSth
  try dsimp only
  repeat' (first | with_reducible assumption | with_reducible apply Keep.State_seqStore | with_reducible apply Keep.next | with_reducible apply Keep.ite | with_reducible apply Keep.iteO)

theorem Keep.c_execLsiStb {μ : Mark} (n d a imm : Nat) (s : State) (h_s : μ.ok s) : μ.okOut (execLsiStb n d a imm s) := by
  unfold execLsiStb
  try dsimp only
  repeat' (first | with_reducible assumption | with_reducible apply Keep.State_seqStore | with_reducible apply Keep.next | with_reducible apply Keep.ite | with_reducible apply Keep.iteO)

theorem Keep.c_execLsiBr {μ : Mark} (n cond tgt : Nat) (s : State) (h_s : μ.ok s) : μ.okOut (execLsiBr n cond tgt s) := by
  unfold execLsiBr
  try dsimp only
  repeat' (first | with_reducible assumption | intro _ | with_reducible apply Keep.set | with_reducible apply Keep.State_seqDo | with_reducible apply Keep.State_seqFault | with_reducible apply Keep.State_pcNext | with_reducible apply Keep.next | with_reducible apply Keep.ite | with_reducible apply Keep.iteO)

theorem Keep.c_execLsiDbnz {μ : Mark} (n d tgt : Nat) (s : State) (h_s : μ.ok s) : μ.okOut (execLsiDbnz n d tgt s) := by
  unfold execLsiDbnz
  try dsimp only
  repeat' (first | with_reducible assumption | intro _ | with_reducible apply Keep.set | with_reducible apply Keep.State_seqDo | with_reducible apply Keep.State_setG | with_reducible apply Keep.State_pcNext | with_reducible apply Keep.next | with_reducible apply Keep.ite | with_reducible apply Keep.iteO)

theorem Keep.c_execLsiCall {μ : Mark} (n tgt : Nat) (s : State) (h_s : μ.ok s) : μ.okOut (execLsiCall n tgt s) := by
  unfold execLsiCall
  try dsimp only
  repeat' (first | with_reducible assumption | intro _ | with_reducible apply Keep.set | with_reducible apply Keep.State_seqDo | with_reducible apply Keep.State_seqFault | with_reducible apply Keep.State_setStack | with_reducible apply Keep.next | with_reducible apply Keep.ite | with_reducible apply Keep.iteO)

theorem Keep.c_execLsiRet {μ : Mark} (n : Nat) (s : State) (h_s : μ.ok s) : μ.okOut (execLsiRet n s) := by
  unfold execLsiRet
  try dsimp only
  repeat' (first | with_reducible assumption | intro _ | with_reducible apply Keep.set | with_reducible apply Keep.State_seqDo | with_reducible apply Keep.State_seqFault | with_reducible apply Keep.State_setStack | with_reducible apply Keep.next | with_reducible apply Keep.ite | with_reducible apply Keep.iteO | split | with_reducible refine Keep.fromSome (by with_reducible assumption) ?_ | with_reducible refine Keep.fromInr (by with_reducible assumption) ?_ | with_reducible refine Keep.fromInl (by with_reducible assumption) ?_ | with_reducible refine Keep.fromPair (by with_reducible assumption) ?_ | with_reducible refine Keep.fromPair1 (by with_reducible assumption) ?_)

theorem Keep.c_execLsiJr {μ : Mark} (n a : Nat) (s : State) (h_s : μ.ok s) : μ.okOut (execLsiJr n a s) := by
  unfold execLsiJr
  try dsimp only
  repeat' (first | with_reducible assumption | intro _ | with_reducible apply Keep.set | with_reducible apply Keep.State_seqDo | with_reducible apply Keep.next | with_reducible apply Keep.ite | with_reducible apply Keep.iteO)

theorem Keep.c_execLsiHalt {μ : Mark} (n : Nat) (s : State) (h_s : μ.ok s) : μ.okOut (execLsiHalt n s) := by
  unfold execLsiHalt
  try dsimp only
  repeat' (first | with_reducible assumption | intro _ | with_reducible apply Keep.set | with_reducible apply Keep.State_seqOp | with_reducible apply Keep.State_leaseEndAny | with_reducible apply Keep.next | with_reducible apply Keep.ite | with_reducible apply Keep.iteO)

theorem Keep.State_exitReport {μ : Mark} (s : State) (n : Nat) (h_s : μ.ok s) : μ.ok (State.exitReport s n) := by
  unfold State.exitReport
  try dsimp only
  repeat' (first | with_reducible assumption | with_reducible apply Keep.State_logA | with_reducible apply Keep.ite | split | with_reducible refine Keep.fromSome (by with_reducible assumption) ?_ | with_reducible refine Keep.fromInr (by with_reducible assumption) ?_ | with_reducible refine Keep.fromInl (by with_reducible assumption) ?_ | with_reducible refine Keep.fromPair (by with_reducible assumption) ?_ | with_reducible refine Keep.fromPair1 (by with_reducible assumption) ?_)

theorem Keep.c_execLsiDone {μ : Mark} (n : Nat) (s : State) (h_s : μ.ok s) : μ.okOut (execLsiDone n s) := by
  unfold execLsiDone
  try dsimp only
  repeat' (first | with_reducible assumption | intro _ | with_reducible apply Keep.set | with_reducible apply Keep.State_seqOp | with_reducible apply Keep.State_exitReport | with_reducible apply Keep.State_leaseEndAny | with_reducible apply Keep.next | with_reducible apply Keep.ite | with_reducible apply Keep.iteO)

theorem Keep.c_execLsiEvt {μ : Mark} (n e : Nat) (s : State) (h_s : μ.ok s) : μ.okOut (execLsiEvt n e s) := by
  unfold execLsiEvt
  try dsimp only
  repeat' (first | with_reducible assumption | intro _ | with_reducible apply Keep.State_seqOp | with_reducible apply Keep.State_setBit | with_reducible apply Keep.next | with_reducible apply Keep.ite | with_reducible apply Keep.iteO)

theorem Keep.State_setSreg {μ : Mark} (s : State) (n k v : Nat) (h_s : μ.ok s) : μ.okOpt (State.setSreg s n k v) := by
  unfold State.setSreg
  try dsimp only
  repeat' (first | with_reducible assumption | with_reducible apply Keep.set | with_reducible apply Keep.State_setFlag | with_reducible apply Keep.State_setSeq | with_reducible apply Keep.ite | with_reducible apply Keep.orElse | with_reducible apply Keep.map | with_reducible apply Keep.iteOpt | with_reducible apply Keep.optSome | with_reducible apply Keep.optNone | split | with_reducible refine Keep.fromSome (by with_reducible assumption) ?_ | with_reducible refine Keep.fromInr (by with_reducible assumption) ?_ | with_reducible refine Keep.fromInl (by with_reducible assumption) ?_ | with_reducible refine Keep.fromPair (by with_reducible assumption) ?_ | with_reducible refine Keep.fromPair1 (by with_reducible assumption) ?_ | with_reducible apply Keep.mk)

theorem Keep.c_execLsiRds {μ : Mark} (n d sreg : Nat) (s : State) (h_s : μ.ok s) : μ.okOut (execLsiRds n d sreg s) := by
  unfold execLsiRds
  try dsimp only
  repeat' (first | with_reducible assumption | intro _ | with_reducible apply Keep.State_seqDo | with_reducible apply Keep.State_pcNext | with_reducible apply Keep.State_setG | with_reducible apply Keep.State_seqFault | with_reducible apply Keep.next | with_reducible apply Keep.ite | with_reducible apply Keep.iteO | split | with_reducible refine Keep.fromSome (by with_reducible assumption) ?_ | with_reducible refine Keep.fromInr (by with_reducible assumption) ?_ | with_reducible refine Keep.fromInl (by with_reducible assumption) ?_ | with_reducible refine Keep.fromPair (by with_reducible assumption) ?_ | with_reducible refine Keep.fromPair1 (by with_reducible assumption) ?_)

theorem Keep.c_execLsiWrs {μ : Mark} (n d sreg : Nat) (s : State) (h_s : μ.ok s) : μ.okOut (execLsiWrs n d sreg s) := by
  unfold execLsiWrs
  try dsimp only
  repeat' (first | with_reducible assumption | intro _ | with_reducible apply Keep.State_seqDo | with_reducible apply Keep.State_setSreg | with_reducible apply Keep.State_pcNext | with_reducible apply Keep.State_seqFault | with_reducible apply Keep.next | with_reducible apply Keep.ite | with_reducible apply Keep.iteO | split | with_reducible refine Keep.fromSome (by with_reducible assumption) ?_ | with_reducible refine Keep.fromInr (by with_reducible assumption) ?_ | with_reducible refine Keep.fromInl (by with_reducible assumption) ?_ | with_reducible refine Keep.fromPair (by with_reducible assumption) ?_ | with_reducible refine Keep.fromPair1 (by with_reducible assumption) ?_)

theorem Keep.c_execLsiRdpos {μ : Mark} (n d : Nat) (s : State) (h_s : μ.ok s) : μ.okOut (execLsiRdpos n d s) := by
  unfold execLsiRdpos
  try dsimp only
  repeat' (first | with_reducible assumption | intro _ | with_reducible apply Keep.State_seqDo | with_reducible apply Keep.State_seqFault | with_reducible apply Keep.State_pcNext | with_reducible apply Keep.State_setG | with_reducible apply Keep.next | with_reducible apply Keep.ite | with_reducible apply Keep.iteO)

theorem Keep.c_execLsiPld {μ : Mark} (n d a blk off : Nat) (s : State) (h_s : μ.ok s) : μ.okOut (execLsiPld n d a blk off s) := by
  unfold execLsiPld
  try dsimp only
  repeat' (first | with_reducible assumption | intro _ | with_reducible apply Keep.State_seqDo | with_reducible apply Keep.State_seqFault | with_reducible apply Keep.State_portRead | with_reducible apply Keep.State_pcNext | with_reducible apply Keep.State_setG | with_reducible apply Keep.State_seqResult | with_reducible apply Keep.next | with_reducible apply Keep.ite | with_reducible apply Keep.iteO)

theorem Keep.State_portPut {μ : Mark} (s : State) (n blk ea v : Nat) (h_s : μ.ok s) : μ.ok (State.portPut s n blk ea v).1 := by
  unfold State.portPut
  try dsimp only
  repeat' (first | with_reducible assumption | with_reducible apply Keep.State_portWrite | with_reducible apply Keep.ite | with_reducible apply Keep.iteP | split | with_reducible refine Keep.fromSome (by with_reducible assumption) ?_ | with_reducible refine Keep.fromInr (by with_reducible assumption) ?_ | with_reducible refine Keep.fromInl (by with_reducible assumption) ?_ | with_reducible refine Keep.fromPair (by with_reducible assumption) ?_ | with_reducible refine Keep.fromPair1 (by with_reducible assumption) ?_)

theorem Keep.c_execLsiPst {μ : Mark} (n d a blk off : Nat) (s : State) (h_s : μ.ok s) : μ.okOut (execLsiPst n d a blk off s) := by
  unfold execLsiPst
  try dsimp only
  repeat' (first | with_reducible assumption | intro _ | with_reducible apply Keep.set | with_reducible apply Keep.State_seqDo | with_reducible apply Keep.State_seqFault | with_reducible apply Keep.State_pcNext | with_reducible apply Keep.State_portPut | with_reducible apply Keep.State_seqResult | with_reducible apply Keep.next | with_reducible apply Keep.ite | with_reducible apply Keep.iteO)

theorem Keep.State_rqsUhf {μ : Mark} (s : State) (n sh chmask req : Nat) (h_s : μ.ok s) : μ.ok (State.rqsUhf s n sh chmask req) := by
  unfold State.rqsUhf
  try dsimp only
  repeat' (first | with_reducible assumption | intro _ | with_reducible apply Keep.forL | with_reducible apply Keep.State_setOps | with_reducible apply Keep.State_seqEvent | with_reducible apply Keep.State_rqsAnswer | with_reducible apply Keep.State_utxRefuse | with_reducible apply Keep.State_setUtx | with_reducible apply Keep.State_utxRequest | with_reducible apply Keep.ite | with_reducible apply Keep.mk)

theorem Keep.State_seqRqs {μ : Mark} (s : State) (n chmask req : Nat) (h_s : μ.ok s) : μ.ok (State.seqRqs s n chmask req).2 := by
  unfold State.seqRqs
  try dsimp only
  repeat' (first | with_reducible assumption | with_reducible apply Keep.State_rqsUhf | with_reducible apply Keep.State_setOps | with_reducible apply Keep.State_hfRequest | with_reducible apply Keep.ite | with_reducible apply Keep.iteP | split | with_reducible refine Keep.fromSome (by with_reducible assumption) ?_ | with_reducible refine Keep.fromInr (by with_reducible assumption) ?_ | with_reducible refine Keep.fromInl (by with_reducible assumption) ?_ | with_reducible refine Keep.fromPair (by with_reducible assumption) ?_ | with_reducible refine Keep.fromPair1 (by with_reducible assumption) ?_ | with_reducible apply Keep.mk)

theorem Keep.c_execLsiRqs {μ : Mark} (n chmask req : Nat) (s : State) (h_s : μ.ok s) : μ.okOut (execLsiRqs n chmask req s) := by
  unfold execLsiRqs
  try dsimp only
  repeat' (first | with_reducible assumption | intro _ | with_reducible apply Keep.State_seqOp | with_reducible apply Keep.State_seqRqs | with_reducible apply Keep.State_seqResult | with_reducible apply Keep.next | with_reducible apply Keep.ite | with_reducible apply Keep.iteO)

theorem Keep.State_seqLock {μ : Mark} (s : State) (n v : Nat) (full : Bool) (h_s : μ.ok s) : μ.ok (State.seqLock s n v full).2 := by
  unfold State.seqLock
  try dsimp only
  repeat' (first | with_reducible assumption | with_reducible apply Keep.State_setOps | with_reducible apply Keep.State_rfsFreq | with_reducible apply Keep.State_rfsLock | with_reducible apply Keep.ite | with_reducible apply Keep.iteP | split | with_reducible refine Keep.fromSome (by with_reducible assumption) ?_ | with_reducible refine Keep.fromInr (by with_reducible assumption) ?_ | with_reducible refine Keep.fromInl (by with_reducible assumption) ?_ | with_reducible refine Keep.fromPair (by with_reducible assumption) ?_ | with_reducible refine Keep.fromPair1 (by with_reducible assumption) ?_ | with_reducible apply Keep.mk)

theorem Keep.c_execLsiLock {μ : Mark} (n a full : Nat) (s : State) (h_s : μ.ok s) : μ.okOut (execLsiLock n a full s) := by
  unfold execLsiLock
  try dsimp only
  repeat' (first | with_reducible assumption | intro _ | with_reducible apply Keep.State_seqOp | with_reducible apply Keep.State_seqLock | with_reducible apply Keep.State_seqResult | with_reducible apply Keep.next | with_reducible apply Keep.ite | with_reducible apply Keep.iteO)

theorem Keep.State_seqTxf {μ : Mark} (s : State) (n fidx : Nat) (h_s : μ.ok s) : μ.okSum (State.seqTxf s n fidx) := by
  unfold State.seqTxf
  try dsimp only
  repeat' (first | with_reducible assumption | with_reducible apply Keep.State_txfUhf | with_reducible apply Keep.State_txfHf | with_reducible apply Keep.State_txfTag | with_reducible apply Keep.ite | with_reducible apply Keep.iteS | with_reducible apply Keep.inl | with_reducible apply Keep.inr | split | with_reducible refine Keep.fromSome (by with_reducible assumption) ?_ | with_reducible refine Keep.fromInr (by with_reducible assumption) ?_ | with_reducible refine Keep.fromInl (by with_reducible assumption) ?_ | with_reducible refine Keep.fromPair (by with_reducible assumption) ?_ | with_reducible refine Keep.fromPair1 (by with_reducible assumption) ?_)

theorem Keep.c_execLsiTxf {μ : Mark} (n fidx : Nat) (s : State) (h_s : μ.ok s) : μ.okOut (execLsiTxf n fidx s) := by
  unfold execLsiTxf
  try dsimp only
  repeat' (first | with_reducible assumption | intro _ | with_reducible apply Keep.State_seqOp | with_reducible apply Keep.State_seqTxf | with_reducible apply Keep.State_seqResult | with_reducible apply Keep.next | with_reducible apply Keep.ite | with_reducible apply Keep.iteO | split | with_reducible refine Keep.fromSome (by with_reducible assumption) ?_ | with_reducible refine Keep.fromInr (by with_reducible assumption) ?_ | with_reducible refine Keep.fromInl (by with_reducible assumption) ?_ | with_reducible refine Keep.fromPair (by with_reducible assumption) ?_ | with_reducible refine Keep.fromPair1 (by with_reducible assumption) ?_)

theorem Keep.State_seqPush {μ : Mark} (s : State) (n q : Nat) (words : List Nat) (h_s : μ.ok s) : μ.ok (State.seqPush s n q words).2 := by
  unfold State.seqPush
  try dsimp only
  repeat' (first | with_reducible assumption | with_reducible apply Keep.set | with_reducible apply Keep.State_reserve | with_reducible apply Keep.State_seqResult | with_reducible apply Keep.ite | with_reducible apply Keep.iteP | split | with_reducible refine Keep.fromSome (by with_reducible assumption) ?_ | with_reducible refine Keep.fromInr (by with_reducible assumption) ?_ | with_reducible refine Keep.fromInl (by with_reducible assumption) ?_ | with_reducible refine Keep.fromPair (by with_reducible assumption) ?_ | with_reducible refine Keep.fromPair1 (by with_reducible assumption) ?_)

theorem Keep.c_execLsiPush {μ : Mark} (n a q : Nat) (s : State) (h_s : μ.ok s) : μ.okOut (execLsiPush n a q s) := by
  unfold execLsiPush
  try dsimp only
  repeat' (first | with_reducible assumption | intro _ | with_reducible apply Keep.State_seqOp | with_reducible apply Keep.State_seqPush | with_reducible apply Keep.next | with_reducible apply Keep.ite | with_reducible apply Keep.iteO)

theorem Keep.c_execLsiPushb {μ : Mark} (n a q cnt : Nat) (s : State) (h_s : μ.ok s) : μ.okOut (execLsiPushb n a q cnt s) := by
  unfold execLsiPushb
  try dsimp only
  repeat' (first | with_reducible assumption | intro _ | with_reducible apply Keep.State_seqDo | with_reducible apply Keep.State_seqFault | with_reducible apply Keep.State_pcNext | with_reducible apply Keep.State_seqPush | with_reducible apply Keep.next | with_reducible apply Keep.ite | with_reducible apply Keep.iteO)

theorem Keep.c_execLsiPop {μ : Mark} (n d q : Nat) (s : State) (h_s : μ.ok s) : μ.okOut (execLsiPop n d q s) := by
  unfold execLsiPop
  try dsimp only
  repeat' (first | with_reducible assumption | intro _ | with_reducible apply Keep.State_seqOp | with_reducible apply Keep.State_quePop | with_reducible apply Keep.State_setG | with_reducible apply Keep.State_seqResult | with_reducible apply Keep.next | with_reducible apply Keep.ite | with_reducible apply Keep.iteO)

theorem Keep.c_execLsiPushrec {μ : Mark} (n q : Nat) (s : State) (h_s : μ.ok s) : μ.okOut (execLsiPushrec n q s) := by
  unfold execLsiPushrec
  try dsimp only
  repeat' (first | with_reducible assumption | intro _ | with_reducible apply Keep.State_seqOp | with_reducible apply Keep.State_seqResult | with_reducible apply Keep.State_seqPush | with_reducible apply Keep.State_setSeq | with_reducible apply Keep.next | with_reducible apply Keep.ite | with_reducible apply Keep.iteO | with_reducible apply Keep.mk)

theorem Keep.c_execLsiStrec {μ : Mark} (n a : Nat) (s : State) (h_s : μ.ok s) : μ.okOut (execLsiStrec n a s) := by
  unfold execLsiStrec
  try dsimp only
  repeat' (first | with_reducible assumption | intro _ | with_reducible apply Keep.State_seqDo | with_reducible apply Keep.State_pcNext | with_reducible apply Keep.State_seqResult | with_reducible apply Keep.State_seqFault | with_reducible apply Keep.State_seqPut | with_reducible apply Keep.next | with_reducible apply Keep.ite | with_reducible apply Keep.iteO)

theorem Keep.c_execLsiWait {μ : Mark} (n mask unit count : Nat) (s : State) (h_s : μ.ok s) : μ.okOut (execLsiWait n mask unit count s) := by
  unfold execLsiWait
  try dsimp only
  repeat' (first | with_reducible assumption | intro _ | with_reducible apply Keep.State_seqOp | with_reducible apply Keep.State_waitIssue | with_reducible apply Keep.next | with_reducible apply Keep.ite | with_reducible apply Keep.iteO | with_reducible apply Keep.mk)

theorem Keep.c_execLsiWaitr {μ : Mark} (n mask b : Nat) (s : State) (h_s : μ.ok s) : μ.okOut (execLsiWaitr n mask b s) := by
  unfold execLsiWaitr
  try dsimp only
  repeat' (first | with_reducible assumption | intro _ | with_reducible apply Keep.State_seqOp | with_reducible apply Keep.State_waitIssue | with_reducible apply Keep.next | with_reducible apply Keep.ite | with_reducible apply Keep.iteO | with_reducible apply Keep.mk)

theorem Keep.c_execLsiClrev {μ : Mark} (n mask : Nat) (s : State) (h_s : μ.ok s) : μ.okOut (execLsiClrev n mask s) := by
  unfold execLsiClrev
  try dsimp only
  repeat' (first | with_reducible assumption | intro _ | with_reducible apply Keep.set | with_reducible apply Keep.State_seqOp | with_reducible apply Keep.next | with_reducible apply Keep.ite | with_reducible apply Keep.iteO)

end Sys2Proof.Machine
end

