-- ==== Sys2Proof/Laws/KeepRgeOps.lean ====
section
/-! SUPPORT. What the operations of Machine/RgeOps.lean keep of a mark. -/

namespace Sys2Proof.Machine

open Sys2Proof

set_option linter.unreachableTactic false
set_option linter.unusedTactic false

theorem Keep.State_killChain {μ : Mark} (s : State) (n : Nat) (h_s : μ.ok s) : μ.ok (State.killChain s n) := by
  unfold State.killChain
  try dsimp only
  repeat' (first | with_reducible assumption | with_reducible apply Keep.State_giveUp | with_reducible apply Keep.State_rgeDeny | with_reducible apply Keep.State_rgeRefuse | with_reducible apply Keep.State_withdraw | with_reducible apply Keep.ite | with_reducible apply Keep.mk)

theorem Keep.State_killNow {μ : Mark} (s : State) (h_s : μ.ok s) : μ.ok (State.killNow s) := by
  unfold State.killNow
  try dsimp only
  repeat' (first | with_reducible assumption | intro _ | with_reducible apply Keep.set | with_reducible apply Keep.forN | with_reducible apply Keep.State_killChain | with_reducible apply Keep.State_hfKill | with_reducible apply Keep.ite | with_reducible apply Keep.mk)

theorem Keep.State_killBy {μ : Mark} (s : State) (status : Fld) (code : Nat) (h_s : μ.ok s) : μ.ok (State.killBy s status code) := by
  unfold State.killBy
  try dsimp only
  repeat' (first | with_reducible assumption | with_reducible apply Keep.set | with_reducible apply Keep.State_rgeLog | with_reducible apply Keep.State_bump | with_reducible apply Keep.State_killNow | with_reducible apply Keep.ite)

theorem Keep.State_killReg {μ : Mark} (s : State) (h_s : μ.ok s) : μ.ok (State.killReg s) := by
  unfold State.killReg
  try dsimp only
  repeat' (first | with_reducible assumption | with_reducible apply Keep.set | with_reducible apply Keep.State_killBy | with_reducible apply Keep.ite)

theorem Keep.State_killRelease {μ : Mark} (s : State) (h_s : μ.ok s) : μ.ok (State.killRelease s) := by
  unfold State.killRelease
  try dsimp only
  repeat' (first | with_reducible assumption | with_reducible apply Keep.set | with_reducible apply Keep.ite)

theorem Keep.State_killRegClear {μ : Mark} (s : State) (h_s : μ.ok s) : μ.ok (State.killRegClear s) := by
  unfold State.killRegClear
  try dsimp only
  repeat' (first | with_reducible assumption | with_reducible apply Keep.set | with_reducible apply Keep.State_killRelease | with_reducible apply Keep.ite)

theorem Keep.State_setGuard {μ : Mark} (s : State) (g : Nat) (h_s : μ.ok s) : μ.ok (State.setGuard s g) := by
  unfold State.setGuard
  try dsimp only
  repeat' (first | with_reducible assumption | with_reducible apply Keep.set | with_reducible apply Keep.State_voteClean | with_reducible apply Keep.ite)

theorem Keep.State_guardUp {μ : Mark} (s : State) (g : Nat) (h_s : μ.ok s) : μ.ok (State.guardUp s g) := by
  unfold State.guardUp
  try dsimp only
  repeat' (first | with_reducible assumption | intro _ | with_reducible apply Keep.set | with_reducible apply Keep.forN | with_reducible apply Keep.State_setGuard | with_reducible apply Keep.State_refreshPwr | with_reducible apply Keep.ite | with_reducible apply Keep.iteP)

theorem Keep.State_holdOff {μ : Mark} (s : State) (n : Nat) (h_s : μ.ok s) : μ.ok (State.holdOff s n) := by
  unfold State.holdOff
  try dsimp only
  repeat' (first | with_reducible assumption | with_reducible apply Keep.State_setBit | with_reducible apply Keep.ite)

theorem Keep.State_violate {μ : Mark} (s : State) (n code : Nat) (h_s : μ.ok s) : μ.ok (State.violate s n code) := by
  unfold State.violate
  try dsimp only
  repeat' (first | with_reducible assumption | with_reducible apply Keep.set | with_reducible apply Keep.State_rgeLog | with_reducible apply Keep.State_rgeLast | with_reducible apply Keep.State_withdraw | with_reducible apply Keep.State_bump | with_reducible apply Keep.State_holdOff | with_reducible apply Keep.ite)

theorem Keep.State_violCount {μ : Mark} (s : State) (h_s : μ.ok s) : μ.ok (State.violCount s).2 := by
  unfold State.violCount
  try dsimp only
  repeat' (first | with_reducible assumption | with_reducible apply Keep.ite | with_reducible apply Keep.iteP | split | with_reducible refine Keep.fromSome (by with_reducible assumption) ?_ | with_reducible refine Keep.fromInr (by with_reducible assumption) ?_ | with_reducible refine Keep.fromInl (by with_reducible assumption) ?_ | with_reducible refine Keep.fromPair (by with_reducible assumption) ?_ | with_reducible refine Keep.fromPair1 (by with_reducible assumption) ?_ | with_reducible apply Keep.mk)

theorem Keep.State_quietLatch {μ : Mark} (s : State) (h_s : μ.ok s) : μ.ok (State.quietLatch s) := by
  unfold State.quietLatch
  try dsimp only
  repeat' (first | with_reducible assumption | intro _ | with_reducible apply Keep.set | with_reducible apply Keep.forN | with_reducible apply Keep.State_rgeLog | with_reducible apply Keep.State_withdraw | with_reducible apply Keep.State_rampDown | with_reducible apply Keep.ite)

end Sys2Proof.Machine
end

