-- ==== Sys2Proof/Laws/KeepPwrOps.lean ====
section
/-! SUPPORT. What the operations of Machine/PwrOps.lean keep of a mark. -/

namespace Sys2Proof.Machine

open Sys2Proof

set_option linter.unreachableTactic false
set_option linter.unusedTactic false

theorem Keep.State_setMode {μ : Mark} (s : State) (m : Nat) (h_s : μ.ok s) : μ.ok (State.setMode s m) := by
  unfold State.setMode
  try dsimp only
  repeat' (first | with_reducible assumption | with_reducible apply Keep.set | with_reducible apply Keep.State_logP | with_reducible apply Keep.ite)

theorem Keep.State_resetRange {μ : Mark} (s : State) (lo hi : Nat) (h_s : μ.ok s) : μ.ok (State.resetRange s lo hi) := by
  unfold State.resetRange
  try dsimp only
  repeat' (first | with_reducible assumption | intro _ | with_reducible apply Keep.ite | with_reducible apply Keep.mkMem | with_reducible apply Keep.mkRegs | with_reducible apply Keep.mkRegsFilter | with_reducible apply Keep.mkReset | with_reducible apply Keep.mk)

theorem Keep.State_outEn {μ : Mark} (s : State) (n : Nat) (en : Bool) (h_s : μ.ok s) : μ.ok (State.outEn s n en) := by
  unfold State.outEn
  try dsimp only
  repeat' (first | with_reducible assumption | with_reducible apply Keep.set | with_reducible apply Keep.ite)

theorem Keep.State_auxGate {μ : Mark} (s : State) (h_s : μ.ok s) : μ.ok (State.auxGate s) := by
  unfold State.auxGate
  try dsimp only
  repeat' (first | with_reducible assumption | with_reducible apply Keep.State_outEn | with_reducible apply Keep.ite)

theorem Keep.State_calStop {μ : Mark} (s : State) (seqs : List Nat) (code : Nat) (h_s : μ.ok s) : μ.ok (State.calStop s seqs code) := by
  unfold State.calStop
  try dsimp only
  repeat' (first | with_reducible assumption | with_reducible apply Keep.State_calAborted | with_reducible apply Keep.ite)

theorem Keep.State_radioOff {μ : Mark} (s : State) (h_s : μ.ok s) : μ.ok (State.radioOff s) := by
  unfold State.radioOff
  try dsimp only
  repeat' (first | with_reducible assumption | intro _ | with_reducible apply Keep.set | with_reducible apply Keep.wipe | with_reducible apply Keep.forN | with_reducible apply Keep.State_leaseEndAny | with_reducible apply Keep.State_calStop | with_reducible apply Keep.State_resetRange | with_reducible apply Keep.State_setBit | with_reducible apply Keep.State_outEn | with_reducible apply Keep.State_clkSpread | with_reducible apply Keep.foldl | with_reducible apply Keep.ite | with_reducible apply Keep.mk)

theorem Keep.State_trimApply {μ : Mark} (s : State) (h_s : μ.ok s) : μ.ok (State.trimApply s) := by
  unfold State.trimApply
  try dsimp only
  repeat' (first | with_reducible assumption | intro _ | with_reducible apply Keep.set | with_reducible apply Keep.forN | with_reducible apply Keep.ite)

theorem Keep.State_radioOn {μ : Mark} (s : State) (h_s : μ.ok s) : μ.ok (State.radioOn s) := by
  unfold State.radioOn
  try dsimp only
  repeat' (first | with_reducible assumption | intro _ | with_reducible apply Keep.set | with_reducible apply Keep.forN | with_reducible apply Keep.State_resetRange | with_reducible apply Keep.State_setBit | with_reducible apply Keep.State_outEn | with_reducible apply Keep.State_trimApply | with_reducible apply Keep.State_setRst | with_reducible apply Keep.ite)

theorem Keep.State_hfrPower {μ : Mark} (s : State) (en : Bool) (h_s : μ.ok s) : μ.ok (State.hfrPower s en) := by
  unfold State.hfrPower
  try dsimp only
  repeat' (first | with_reducible assumption | with_reducible apply Keep.State_setBit | with_reducible apply Keep.State_auxGate | with_reducible apply Keep.State_calStop | with_reducible apply Keep.State_hfrOff | with_reducible apply Keep.ite)

theorem Keep.State_fsEngage {μ : Mark} (s : State) (h_s : μ.ok s) : μ.ok (State.fsEngage s) := by
  unfold State.fsEngage
  try dsimp only
  repeat' (first | with_reducible assumption | with_reducible apply Keep.set | with_reducible apply Keep.State_bump | with_reducible apply Keep.ite | with_reducible apply Keep.mk)

theorem Keep.State_radioStop {μ : Mark} (s : State) (h_s : μ.ok s) : μ.ok (State.radioStop s) := by
  unfold State.radioStop
  try dsimp only
  repeat' (first | with_reducible assumption | with_reducible apply Keep.set | with_reducible apply Keep.State_killReg | with_reducible apply Keep.State_voteClean | with_reducible apply Keep.State_radioOff | with_reducible apply Keep.State_hfrPower | with_reducible apply Keep.State_killRegClear | with_reducible apply Keep.ite)

theorem Keep.State_enterQuiet {μ : Mark} (s : State) (cause : Nat) (h_s : μ.ok s) : μ.ok (State.enterQuiet s cause) := by
  unfold State.enterQuiet
  try dsimp only
  repeat' (first | with_reducible assumption | with_reducible apply Keep.State_setBit | with_reducible apply Keep.State_radioStop | with_reducible apply Keep.State_setMode | with_reducible apply Keep.ite)

theorem Keep.State_enterLampKeep {μ : Mark} (s : State) (cause : Nat) (h_s : μ.ok s) : μ.ok (State.enterLampKeep s cause) := by
  unfold State.enterLampKeep
  try dsimp only
  repeat' (first | with_reducible assumption | with_reducible apply Keep.State_setBit | with_reducible apply Keep.State_radioStop | with_reducible apply Keep.State_setMode | with_reducible apply Keep.ite)

theorem Keep.State_resetCore {μ : Mark} (s : State) (h_s : μ.ok s) : μ.ok (State.resetCore s) := by
  unfold State.resetCore
  try dsimp only
  repeat' (first | with_reducible assumption | intro _ | with_reducible apply Keep.ite | with_reducible apply Keep.mkMem | with_reducible apply Keep.mkRegs | with_reducible apply Keep.mkRegsFilter | with_reducible apply Keep.mkReset | with_reducible apply Keep.mk)

theorem Keep.State_dropCore {μ : Mark} (s : State) (h_s : μ.ok s) : μ.ok (State.dropCore s) := by
  unfold State.dropCore
  try dsimp only
  repeat' (first | with_reducible assumption | with_reducible apply Keep.ite | with_reducible apply Keep.mk)

theorem Keep.State_wdtPark {μ : Mark} (s : State) (n : Nat) (h_s : μ.ok s) : μ.ok (State.wdtPark s n) := by
  unfold State.wdtPark
  try dsimp only
  repeat' (first | with_reducible assumption | with_reducible apply Keep.set | with_reducible apply Keep.ite | with_reducible apply Keep.mk)

theorem Keep.State_coreOff {μ : Mark} (s : State) (h_s : μ.ok s) : μ.ok (State.coreOff s) := by
  unfold State.coreOff
  try dsimp only
  repeat' (first | with_reducible assumption | intro _ | with_reducible apply Keep.forN | with_reducible apply Keep.State_wdtPark | with_reducible apply Keep.ite | with_reducible apply Keep.mkMem | with_reducible apply Keep.mkRegs | with_reducible apply Keep.mkRegsFilter | with_reducible apply Keep.mkReset | with_reducible apply Keep.mk)

theorem Keep.State_ctrStart {μ : Mark} (s : State) (h_s : μ.ok s) : μ.ok (State.ctrStart s) := by
  unfold State.ctrStart
  try dsimp only
  repeat' (first | with_reducible assumption | with_reducible apply Keep.ite | with_reducible apply Keep.mk)

theorem Keep.State_enterFailsafe {μ : Mark} (s : State) (cause : Nat) (h_s : μ.ok s) : μ.ok (State.enterFailsafe s cause) := by
  unfold State.enterFailsafe
  try dsimp only
  repeat' (first | with_reducible assumption | with_reducible apply Keep.set | with_reducible apply Keep.State_setBit | with_reducible apply Keep.State_radioStop | with_reducible apply Keep.State_coreOff | with_reducible apply Keep.State_fsEngage | with_reducible apply Keep.State_outEn | with_reducible apply Keep.State_auxGate | with_reducible apply Keep.State_ctrStart | with_reducible apply Keep.State_setMode | with_reducible apply Keep.ite)

theorem Keep.State_coreReset {μ : Mark} (s : State) (core : Nat) (h_s : μ.ok s) : μ.ok (State.coreReset s core) := by
  unfold State.coreReset
  try dsimp only
  repeat' (first | with_reducible assumption | intro _ | with_reducible apply Keep.set | with_reducible apply Keep.State_enterFailsafe | with_reducible apply Keep.State_enterLampKeep | with_reducible apply Keep.ite | with_reducible apply Keep.mk)

end Sys2Proof.Machine
end

