-- ==== Sys2Proof/Laws/KeepMap.lean ====
section
/-! SUPPORT. What the operations of Machine/Map.lean keep of a mark. -/

namespace Sys2Proof.Machine

open Sys2Proof

set_option linter.unreachableTactic false
set_option linter.unusedTactic false

theorem Keep.State_mapError {μ : Mark} (s : State) (init a : Nat) (write : Bool) (h_s : μ.ok s) : μ.ok (State.mapError s init a write) := by
  unfold State.mapError
  try dsimp only
  repeat' (first | with_reducible assumption | with_reducible apply Keep.State_busError | with_reducible apply Keep.ite)

end Sys2Proof.Machine
end

