-- ==== Sys2Proof/Laws/KeepRge.lean ====
section
/-! SUPPORT. What the operations of Machine/Rge.lean keep of a mark. -/

namespace Sys2Proof.Machine

open Sys2Proof

set_option linter.unreachableTactic false
set_option linter.unusedTactic false

theorem Keep.c_execGrantRequest {μ : Mark} (n : Nat) (s : State) (h_s : μ.ok s) : μ.okOut (execGrantRequest n s) := by
  unfold execGrantRequest
  try dsimp only
  repeat' (first | with_reducible assumption | with_reducible apply Keep.State_rgeRequest | with_reducible apply Keep.next | with_reducible apply Keep.ite | with_reducible apply Keep.iteO)

theorem Keep.State_lbtEnd {μ : Mark} (s : State) (n power : Nat) (h_s : μ.ok s) : μ.ok (State.lbtEnd s n power) := by
  unfold State.lbtEnd
  try dsimp only
  repeat' (first | with_reducible assumption | with_reducible apply Keep.State_giveUp | with_reducible apply Keep.State_antHold | with_reducible apply Keep.State_rgeDeny | with_reducible apply Keep.State_rgeGrant | with_reducible apply Keep.ite)

theorem Keep.c_execLbtDecision {μ : Mark} (n power : Nat) (s : State) (h_s : μ.ok s) : μ.okOut (execLbtDecision n power s) := by
  unfold execLbtDecision
  try dsimp only
  repeat' (first | with_reducible assumption | with_reducible apply Keep.State_lbtEnd | with_reducible apply Keep.next | with_reducible apply Keep.ite | with_reducible apply Keep.iteO)

theorem Keep.State_rgeEscalate {μ : Mark} (s : State) (h_s : μ.ok s) : μ.ok (State.rgeEscalate s) := by
  unfold State.rgeEscalate
  try dsimp only
  repeat' (first | with_reducible assumption | with_reducible apply Keep.State_quietLatch | with_reducible apply Keep.State_enterQuiet | with_reducible apply Keep.ite | split | with_reducible refine Keep.fromSome (by with_reducible assumption) ?_ | with_reducible refine Keep.fromInr (by with_reducible assumption) ?_ | with_reducible refine Keep.fromInl (by with_reducible assumption) ?_ | with_reducible refine Keep.fromPair (by with_reducible assumption) ?_ | with_reducible refine Keep.fromPair1 (by with_reducible assumption) ?_ | with_reducible apply Keep.mk)

theorem Keep.State_rgeViolation {μ : Mark} (s : State) (n code : Nat) (h_s : μ.ok s) : μ.ok (State.rgeViolation s n code) := by
  unfold State.rgeViolation
  try dsimp only
  repeat' (first | with_reducible assumption | with_reducible apply Keep.State_violate | with_reducible apply Keep.State_violCount | with_reducible apply Keep.State_rgeEscalate | with_reducible apply Keep.ite)

theorem Keep.c_execRgeViolation {μ : Mark} (n code fwd : Nat) (s : State) (h_s : μ.ok s) : μ.okOut (execRgeViolation n code fwd s) := by
  unfold execRgeViolation
  try dsimp only
  repeat' (first | with_reducible assumption | with_reducible apply Keep.State_rgeViolation | with_reducible apply Keep.next | with_reducible apply Keep.ite | with_reducible apply Keep.iteO | with_reducible apply Keep.mk)

theorem Keep.State_rgeWatch {μ : Mark} (s : State) (codes : List Nat) (h_s : μ.ok s) : μ.ok (State.rgeWatch s codes) := by
  unfold State.rgeWatch
  try dsimp only
  repeat' (first | with_reducible assumption | intro _ | with_reducible apply Keep.forN | with_reducible apply Keep.State_rgeViolation | with_reducible apply Keep.ite | split | with_reducible refine Keep.fromSome (by with_reducible assumption) ?_ | with_reducible refine Keep.fromInr (by with_reducible assumption) ?_ | with_reducible refine Keep.fromInl (by with_reducible assumption) ?_ | with_reducible refine Keep.fromPair (by with_reducible assumption) ?_ | with_reducible refine Keep.fromPair1 (by with_reducible assumption) ?_)

theorem Keep.c_execKillPin {μ : Mark} (s : State) (h_s : μ.ok s) : μ.okOut (execKillPin s) := by
  unfold execKillPin
  try dsimp only
  repeat' (first | with_reducible assumption | with_reducible apply Keep.set | with_reducible apply Keep.State_killBy | with_reducible apply Keep.next | with_reducible apply Keep.ite | with_reducible apply Keep.iteO)

theorem Keep.c_execKillPinRelease {μ : Mark} (s : State) (h_s : μ.ok s) : μ.okOut (execKillPinRelease s) := by
  unfold execKillPinRelease
  try dsimp only
  repeat' (first | with_reducible assumption | with_reducible apply Keep.set | with_reducible apply Keep.State_killRelease | with_reducible apply Keep.next | with_reducible apply Keep.ite | with_reducible apply Keep.iteO)

theorem Keep.c_execKillReg {μ : Mark} (_m : Master) (s : State) (h_s : μ.ok s) : μ.okOut (execKillReg _m s) := by
  unfold execKillReg
  try dsimp only
  repeat' (first | with_reducible assumption | with_reducible apply Keep.State_killReg | with_reducible apply Keep.next | with_reducible apply Keep.ite | with_reducible apply Keep.iteO)

theorem Keep.c_execKillRegClear {μ : Mark} (_m : Master) (s : State) (h_s : μ.ok s) : μ.okOut (execKillRegClear _m s) := by
  unfold execKillRegClear
  try dsimp only
  repeat' (first | with_reducible assumption | with_reducible apply Keep.State_killRegClear | with_reducible apply Keep.next | with_reducible apply Keep.ite | with_reducible apply Keep.iteO)

theorem Keep.c_execQuietClr {μ : Mark} (m : Master) (s : State) (h_s : μ.ok s) : μ.okOut (execQuietClr m s) := by
  unfold execQuietClr
  try dsimp only
  repeat' (first | with_reducible assumption | with_reducible apply Keep.set | with_reducible apply Keep.next | with_reducible apply Keep.ite | with_reducible apply Keep.iteO)

theorem Keep.State_rgeHand {μ : Mark} (s : State) (e : RgeEntry) (h_s : μ.ok s) : μ.ok (State.rgeHand s e) := by
  unfold State.rgeHand
  try dsimp only
  repeat' (first | with_reducible assumption | with_reducible apply Keep.State_setObj | with_reducible apply Keep.State_logA | with_reducible apply Keep.ite)

theorem Keep.State_rgePop {μ : Mark} (s : State) (m : Master) (h_s : μ.ok s) : μ.ok (State.rgePop s m).2 := by
  unfold State.rgePop
  try dsimp only
  repeat' (first | with_reducible assumption | with_reducible apply Keep.State_latch | with_reducible apply Keep.State_rgeHand | with_reducible apply Keep.ite | with_reducible apply Keep.iteP | split | with_reducible refine Keep.fromSome (by with_reducible assumption) ?_ | with_reducible refine Keep.fromInr (by with_reducible assumption) ?_ | with_reducible refine Keep.fromInl (by with_reducible assumption) ?_ | with_reducible refine Keep.fromPair (by with_reducible assumption) ?_ | with_reducible refine Keep.fromPair1 (by with_reducible assumption) ?_ | with_reducible apply Keep.mk)

theorem Keep.c_execRgeLogPop {μ : Mark} (m : Master) (s : State) (h_s : μ.ok s) : μ.okOut (execRgeLogPop m s) := by
  unfold execRgeLogPop
  try dsimp only
  repeat' (first | with_reducible assumption | with_reducible apply Keep.State_rgePop | with_reducible apply Keep.State_respond | with_reducible apply Keep.next | with_reducible apply Keep.ite | with_reducible apply Keep.iteO)

theorem Keep.State_rfEnWrite {μ : Mark} (s : State) (m : Master) (v : Nat) (h_s : μ.ok s) : μ.ok (State.rfEnWrite s m v) := by
  unfold State.rfEnWrite
  try dsimp only
  repeat' (first | with_reducible assumption | with_reducible apply Keep.set | with_reducible apply Keep.State_voteClean | with_reducible apply Keep.ite)

theorem Keep.c_execRfEnWrite {μ : Mark} (m : Master) (v : Nat) (s : State) (h_s : μ.ok s) : μ.okOut (execRfEnWrite m v s) := by
  unfold execRfEnWrite
  try dsimp only
  repeat' (first | with_reducible assumption | with_reducible apply Keep.State_rfEnWrite | with_reducible apply Keep.next | with_reducible apply Keep.ite | with_reducible apply Keep.iteO)

end Sys2Proof.Machine
end

