-- ==== Sys2Proof/Laws/KeepLum.lean ====
section
/-! SUPPORT. What the operations of Machine/Lum.lean keep of a mark. -/

namespace Sys2Proof.Machine

open Sys2Proof

set_option linter.unreachableTactic false
set_option linter.unusedTactic false

theorem Keep.State_updLum {μ : Mark} (s : State) (g : Lum → Lum) (h_s : μ.ok s) : μ.ok (State.updLum s g) := by
  unfold State.updLum
  try dsimp only
  repeat' (first | with_reducible assumption | with_reducible apply Keep.ite | with_reducible apply Keep.mk)

theorem Keep.State_outApply {μ : Mark} (s : State) (l : Nat) (h_s : μ.ok s) : μ.ok (State.outApply s l) := by
  unfold State.outApply
  try dsimp only
  repeat' (first | with_reducible assumption | intro _ | with_reducible apply Keep.set | with_reducible apply Keep.State_updLum | with_reducible apply Keep.ite | with_reducible apply Keep.mk)

theorem Keep.State_fadeStep {μ : Mark} (s : State) (h_s : μ.ok s) : μ.ok (State.fadeStep s) := by
  unfold State.fadeStep
  try dsimp only
  repeat' (first | with_reducible assumption | with_reducible apply Keep.State_outApply | with_reducible apply Keep.ite)

theorem Keep.State_levelTo {μ : Mark} (s : State) (t : Nat) (h_s : μ.ok s) : μ.ok (State.levelTo s t) := by
  unfold State.levelTo
  try dsimp only
  repeat' (first | with_reducible assumption | with_reducible apply Keep.set | with_reducible apply Keep.State_fadeStep | with_reducible apply Keep.ite)

theorem Keep.State_levelWrite {μ : Mark} (s : State) (v : Nat) (h_s : μ.ok s) : μ.ok (State.levelWrite s v) := by
  unfold State.levelWrite
  try dsimp only
  repeat' (first | with_reducible assumption | with_reducible apply Keep.set | with_reducible apply Keep.State_levelTo | with_reducible apply Keep.ite)

theorem Keep.c_execLevelWrite {μ : Mark} (_m : Master) (v : Nat) (s : State) (h_s : μ.ok s) : μ.okOut (execLevelWrite _m v s) := by
  unfold execLevelWrite
  try dsimp only
  repeat' (first | with_reducible assumption | with_reducible apply Keep.State_levelWrite | with_reducible apply Keep.next | with_reducible apply Keep.ite | with_reducible apply Keep.iteO)

theorem Keep.c_execPresentLevelUpdate {μ : Mark} (s : State) (h_s : μ.ok s) : μ.okOut (execPresentLevelUpdate s) := by
  unfold execPresentLevelUpdate
  try dsimp only
  repeat' (first | with_reducible assumption | with_reducible apply Keep.State_fadeStep | with_reducible apply Keep.next | with_reducible apply Keep.ite | with_reducible apply Keep.iteO)

theorem Keep.State_curveNext {μ : Mark} (s : State) (h_s : μ.ok s) : μ.ok (State.curveNext s) := by
  unfold State.curveNext
  try dsimp only
  repeat' (first | with_reducible assumption | with_reducible apply Keep.set | with_reducible apply Keep.ite)

theorem Keep.State_curveWrite {μ : Mark} (s : State) (v : Nat) (h_s : μ.ok s) : μ.ok (State.curveWrite s v) := by
  unfold State.curveWrite
  try dsimp only
  repeat' (first | with_reducible assumption | intro _ | with_reducible apply Keep.set | with_reducible apply Keep.State_updLum | with_reducible apply Keep.State_curveNext | with_reducible apply Keep.ite | with_reducible apply Keep.mk)

theorem Keep.c_execCurveDataAccess {μ : Mark} (_m : Master) (write : Bool) (v : Nat) (s : State) (h_s : μ.ok s) : μ.okOut (execCurveDataAccess _m write v s) := by
  unfold execCurveDataAccess
  try dsimp only
  repeat' (first | with_reducible assumption | with_reducible apply Keep.State_curveWrite | with_reducible apply Keep.State_respond | with_reducible apply Keep.State_curveNext | with_reducible apply Keep.next | with_reducible apply Keep.ite | with_reducible apply Keep.iteO)

theorem Keep.State_pwmTick {μ : Mark} (s : State) (h_s : μ.ok s) : μ.ok (State.pwmTick s) := by
  unfold State.pwmTick
  try dsimp only
  repeat' (first | with_reducible assumption | intro _ | with_reducible apply Keep.State_updLum | with_reducible apply Keep.ite | with_reducible apply Keep.mk)

theorem Keep.State_daliBegin {μ : Mark} (s : State) (again auto : Bool) (b : List Bool) (h_s : μ.ok s) : μ.ok (State.daliBegin s again auto b) := by
  unfold State.daliBegin
  try dsimp only
  repeat' (first | with_reducible assumption | intro _ | with_reducible apply Keep.set | with_reducible apply Keep.State_updLum | with_reducible apply Keep.ite | with_reducible apply Keep.mk)

theorem Keep.State_daliIdle {μ : Mark} (s : State) (h_s : μ.ok s) : μ.ok (State.daliIdle s) := by
  unfold State.daliIdle
  try dsimp only
  repeat' (first | with_reducible assumption | intro _ | with_reducible apply Keep.set | with_reducible apply Keep.State_updLum | with_reducible apply Keep.ite | with_reducible apply Keep.mk)

theorem Keep.State_daliErr {μ : Mark} (s : State) (h_s : μ.ok s) : μ.ok (State.daliErr s) := by
  unfold State.daliErr
  try dsimp only
  repeat' (first | with_reducible assumption | with_reducible apply Keep.set | with_reducible apply Keep.State_bump | with_reducible apply Keep.ite)

theorem Keep.State_daliCmd {μ : Mark} (s : State) (v : Nat) (h_s : μ.ok s) : μ.ok (State.daliCmd s v) := by
  unfold State.daliCmd
  try dsimp only
  repeat' (first | with_reducible assumption | with_reducible apply Keep.set | with_reducible apply Keep.State_daliBegin | with_reducible apply Keep.ite)

theorem Keep.c_execDaliSend {μ : Mark} (_m : Master) (v : Nat) (s : State) (h_s : μ.ok s) : μ.okOut (execDaliSend _m v s) := by
  unfold execDaliSend
  try dsimp only
  repeat' (first | with_reducible assumption | with_reducible apply Keep.State_daliCmd | with_reducible apply Keep.next | with_reducible apply Keep.ite | with_reducible apply Keep.iteO)

theorem Keep.c_execDaliCollision {μ : Mark} (s : State) (h_s : μ.ok s) : μ.okOut (execDaliCollision s) := by
  unfold execDaliCollision
  try dsimp only
  repeat' (first | with_reducible assumption | with_reducible apply Keep.set | with_reducible apply Keep.State_daliIdle | with_reducible apply Keep.State_daliErr | with_reducible apply Keep.next | with_reducible apply Keep.ite | with_reducible apply Keep.iteO)

theorem Keep.State_daliSent {μ : Mark} (s : State) (h_s : μ.ok s) : μ.ok (State.daliSent s) := by
  unfold State.daliSent
  try dsimp only
  repeat' (first | with_reducible assumption | intro _ | with_reducible apply Keep.set | with_reducible apply Keep.State_updLum | with_reducible apply Keep.State_daliIdle | with_reducible apply Keep.ite | with_reducible apply Keep.mk)

theorem Keep.c_execDaliDone {μ : Mark} (s : State) (h_s : μ.ok s) : μ.okOut (execDaliDone s) := by
  unfold execDaliDone
  try dsimp only
  repeat' (first | with_reducible assumption | with_reducible apply Keep.State_daliSent | with_reducible apply Keep.next | with_reducible apply Keep.ite | with_reducible apply Keep.iteO)

theorem Keep.c_execDaliBackwardFrame {μ : Mark} (data : Nat) (framingOk : Bool) (s : State) (h_s : μ.ok s) : μ.okOut (execDaliBackwardFrame data framingOk s) := by
  unfold execDaliBackwardFrame
  try dsimp only
  repeat' (first | with_reducible assumption | with_reducible apply Keep.set | with_reducible apply Keep.State_daliIdle | with_reducible apply Keep.State_daliErr | with_reducible apply Keep.next | with_reducible apply Keep.ite | with_reducible apply Keep.iteO)

theorem Keep.c_execDaliNoAnswer {μ : Mark} (s : State) (h_s : μ.ok s) : μ.okOut (execDaliNoAnswer s) := by
  unfold execDaliNoAnswer
  try dsimp only
  repeat' (first | with_reducible assumption | with_reducible apply Keep.set | with_reducible apply Keep.State_daliIdle | with_reducible apply Keep.next | with_reducible apply Keep.ite | with_reducible apply Keep.iteO)

theorem Keep.c_execAutoDapcSend {μ : Mark} (s : State) (h_s : μ.ok s) : μ.okOut (execAutoDapcSend s) := by
  unfold execAutoDapcSend
  try dsimp only
  repeat' (first | with_reducible assumption | intro _ | with_reducible apply Keep.State_updLum | with_reducible apply Keep.State_daliBegin | with_reducible apply Keep.State_bump | with_reducible apply Keep.next | with_reducible apply Keep.ite | with_reducible apply Keep.iteO | split | with_reducible refine Keep.fromSome (by with_reducible assumption) ?_ | with_reducible refine Keep.fromInr (by with_reducible assumption) ?_ | with_reducible refine Keep.fromInl (by with_reducible assumption) ?_ | with_reducible refine Keep.fromPair (by with_reducible assumption) ?_ | with_reducible refine Keep.fromPair1 (by with_reducible assumption) ?_ | with_reducible apply Keep.mk)

theorem Keep.State_lampKick {μ : Mark} (s : State) (h_s : μ.ok s) : μ.ok (State.lampKick s) := by
  unfold State.lampKick
  try dsimp only
  repeat' (first | with_reducible assumption | intro _ | with_reducible apply Keep.State_updLum | with_reducible apply Keep.ite | with_reducible apply Keep.mk)

theorem Keep.c_execKick {μ : Mark} (_m : Master) (s : State) (h_s : μ.ok s) : μ.okOut (execKick _m s) := by
  unfold execKick
  try dsimp only
  repeat' (first | with_reducible assumption | with_reducible apply Keep.State_lampKick | with_reducible apply Keep.next | with_reducible apply Keep.ite | with_reducible apply Keep.iteO)

theorem Keep.State_fsClr {μ : Mark} (s : State) (m : Master) (h_s : μ.ok s) : μ.ok (State.fsClr s m) := by
  unfold State.fsClr
  try dsimp only
  repeat' (first | with_reducible assumption | with_reducible apply Keep.set | with_reducible apply Keep.ite)

theorem Keep.c_execFsClr {μ : Mark} (m : Master) (s : State) (h_s : μ.ok s) : μ.okOut (execFsClr m s) := by
  unfold execFsClr
  try dsimp only
  repeat' (first | with_reducible assumption | with_reducible apply Keep.State_fsClr | with_reducible apply Keep.next | with_reducible apply Keep.ite | with_reducible apply Keep.iteO)

theorem Keep.c_execFsForce {μ : Mark} (_m : Master) (s : State) (h_s : μ.ok s) : μ.okOut (execFsForce _m s) := by
  unfold execFsForce
  try dsimp only
  repeat' (first | with_reducible assumption | with_reducible apply Keep.set | with_reducible apply Keep.State_fsEngage | with_reducible apply Keep.next | with_reducible apply Keep.ite | with_reducible apply Keep.iteO)

theorem Keep.c_execKeepaliveLapse {μ : Mark} (s : State) (h_s : μ.ok s) : μ.okOut (execKeepaliveLapse s) := by
  unfold execKeepaliveLapse
  try dsimp only
  repeat' (first | with_reducible assumption | with_reducible apply Keep.State_fsEngage | with_reducible apply Keep.next | with_reducible apply Keep.ite | with_reducible apply Keep.iteO)

theorem Keep.State_luxLevel {μ : Mark} (s : State) (lux target : Nat) (h_s : μ.ok s) : μ.ok (State.luxLevel s lux target).2 := by
  unfold State.luxLevel
  try dsimp only
  repeat' (first | with_reducible assumption | intro _ | with_reducible apply Keep.fresh | with_reducible apply Keep.ite | with_reducible apply Keep.iteP)

theorem Keep.State_luxLoop {μ : Mark} (s : State) (pa : Nat) (h_s : μ.ok s) : μ.ok (State.luxLoop s pa) := by
  unfold State.luxLoop
  try dsimp only
  repeat' (first | with_reducible assumption | intro _ | with_reducible apply Keep.State_updLum | with_reducible apply Keep.State_luxLevel | with_reducible apply Keep.State_levelTo | with_reducible apply Keep.ite | with_reducible apply Keep.mk)

theorem Keep.State_pdAgain {μ : Mark} (s : State) (h_s : μ.ok s) : μ.ok (State.pdAgain s) := by
  unfold State.pdAgain
  try dsimp only
  repeat' (first | with_reducible assumption | with_reducible apply Keep.State_pdBegin | with_reducible apply Keep.ite | with_reducible apply Keep.mk)

theorem Keep.State_pdLand {μ : Mark} (s : State) (range pa : Nat) (clip : Bool) (h_s : μ.ok s) : μ.ok (State.pdLand s range pa clip) := by
  unfold State.pdLand
  try dsimp only
  repeat' (first | with_reducible assumption | with_reducible apply Keep.set | with_reducible apply Keep.State_bump | with_reducible apply Keep.State_luxLoop | with_reducible apply Keep.State_pdAgain | with_reducible apply Keep.ite)

theorem Keep.c_execPdRdy {μ : Mark} (range pa : Nat) (clip : Bool) (s : State) (h_s : μ.ok s) : μ.okOut (execPdRdy range pa clip s) := by
  unfold execPdRdy
  try dsimp only
  repeat' (first | with_reducible assumption | with_reducible apply Keep.State_pdLand | with_reducible apply Keep.next | with_reducible apply Keep.ite | with_reducible apply Keep.iteO)

theorem Keep.State_setOccupied {μ : Mark} (s : State) (b : Bool) (h_s : μ.ok s) : μ.ok (State.setOccupied s b) := by
  unfold State.setOccupied
  try dsimp only
  repeat' (first | with_reducible assumption | intro _ | with_reducible apply Keep.State_updLum | with_reducible apply Keep.ite | with_reducible apply Keep.mk)

theorem Keep.c_execMotion {μ : Mark} (filt : Nat) (s : State) (h_s : μ.ok s) : μ.okOut (execMotion filt s) := by
  unfold execMotion
  try dsimp only
  repeat' (first | with_reducible assumption | intro _ | with_reducible apply Keep.set | with_reducible apply Keep.State_bump | with_reducible apply Keep.State_updLum | with_reducible apply Keep.State_setOccupied | with_reducible apply Keep.next | with_reducible apply Keep.ite | with_reducible apply Keep.iteO | with_reducible apply Keep.mk)

theorem Keep.c_execPirRearm {μ : Mark} (filt : Nat) (s : State) (h_s : μ.ok s) : μ.okOut (execPirRearm filt s) := by
  unfold execPirRearm
  try dsimp only
  repeat' (first | with_reducible assumption | intro _ | with_reducible apply Keep.set | with_reducible apply Keep.State_updLum | with_reducible apply Keep.next | with_reducible apply Keep.ite | with_reducible apply Keep.iteO | with_reducible apply Keep.mk)

theorem Keep.c_execOccupancyHoldEnd {μ : Mark} (s : State) (h_s : μ.ok s) : μ.okOut (execOccupancyHoldEnd s) := by
  unfold execOccupancyHoldEnd
  try dsimp only
  repeat' (first | with_reducible assumption | with_reducible apply Keep.State_setOccupied | with_reducible apply Keep.next | with_reducible apply Keep.ite | with_reducible apply Keep.iteO)

end Sys2Proof.Machine
end

