-- ==== Sys2Proof/Laws/KeepClk.lean ====
section
/-! SUPPORT. What the operations of Machine/Clk.lean keep of a mark. -/

namespace Sys2Proof.Machine

open Sys2Proof

set_option linter.unreachableTactic false
set_option linter.unusedTactic false

theorem Keep.State_bypassChain {μ : Mark} (s : State) (n : Nat) (h_s : μ.ok s) : μ.ok (State.bypassChain s n) := by
  unfold State.bypassChain
  try dsimp only
  repeat' (first | with_reducible assumption | with_reducible apply Keep.set | with_reducible apply Keep.State_noteErr | with_reducible apply Keep.State_bump | with_reducible apply Keep.State_rampDown | with_reducible apply Keep.ite)

theorem Keep.State_clkBypass {μ : Mark} (s : State) (h_s : μ.ok s) : μ.ok (State.clkBypass s) := by
  unfold State.clkBypass
  try dsimp only
  repeat' (first | with_reducible assumption | intro _ | with_reducible apply Keep.set | with_reducible apply Keep.forN | with_reducible apply Keep.State_bypassChain | with_reducible apply Keep.State_engAbort | with_reducible apply Keep.State_captureCut | with_reducible apply Keep.State_clkSpread | with_reducible apply Keep.ite)

theorem Keep.State_clkReturn {μ : Mark} (s : State) (h_s : μ.ok s) : μ.ok (State.clkReturn s) := by
  unfold State.clkReturn
  try dsimp only
  repeat' (first | with_reducible assumption | with_reducible apply Keep.set | with_reducible apply Keep.State_clkSpread | with_reducible apply Keep.ite)

theorem Keep.State_pllSearch {μ : Mark} (s : State) (h_s : μ.ok s) : μ.ok (State.pllSearch s) := by
  unfold State.pllSearch
  try dsimp only
  repeat' (first | with_reducible assumption | with_reducible apply Keep.ite | with_reducible apply Keep.mk)

theorem Keep.c_execPllLol {μ : Mark} (s : State) (h_s : μ.ok s) : μ.okOut (execPllLol s) := by
  unfold execPllLol
  try dsimp only
  repeat' (first | with_reducible assumption | with_reducible apply Keep.set | with_reducible apply Keep.State_logHW | with_reducible apply Keep.State_clkBypass | with_reducible apply Keep.State_pllSearch | with_reducible apply Keep.State_bump | with_reducible apply Keep.next | with_reducible apply Keep.ite | with_reducible apply Keep.iteO)

theorem Keep.c_execPllLock {μ : Mark} (band : Nat) (s : State) (h_s : μ.ok s) : μ.okOut (execPllLock band s) := by
  unfold execPllLock
  try dsimp only
  repeat' (first | with_reducible assumption | with_reducible apply Keep.set | with_reducible apply Keep.next | with_reducible apply Keep.ite | with_reducible apply Keep.iteO | with_reducible apply Keep.mk)

theorem Keep.State_relock {μ : Mark} (s : State) (h_s : μ.ok s) : μ.ok (State.relock s) := by
  unfold State.relock
  try dsimp only
  repeat' (first | with_reducible assumption | with_reducible apply Keep.set | with_reducible apply Keep.State_clkReturn | with_reducible apply Keep.ite)

theorem Keep.c_execRelock {μ : Mark} (s : State) (h_s : μ.ok s) : μ.okOut (execRelock s) := by
  unfold execRelock
  try dsimp only
  repeat' (first | with_reducible assumption | with_reducible apply Keep.State_relock | with_reducible apply Keep.next | with_reducible apply Keep.ite | with_reducible apply Keep.iteO)

theorem Keep.State_clkErr {μ : Mark} (s : State) (h_s : μ.ok s) : μ.ok (State.clkErr s) := by
  unfold State.clkErr
  try dsimp only
  repeat' (first | with_reducible assumption | with_reducible apply Keep.set | with_reducible apply Keep.ite)

theorem Keep.State_clkCmdReturn {μ : Mark} (s : State) (h_s : μ.ok s) : μ.ok (State.clkCmdReturn s) := by
  unfold State.clkCmdReturn
  try dsimp only
  repeat' (first | with_reducible assumption | with_reducible apply Keep.State_clkErr | with_reducible apply Keep.State_clkReturn | with_reducible apply Keep.ite)

theorem Keep.c_execClkReturn {μ : Mark} (_m : Master) (s : State) (h_s : μ.ok s) : μ.okOut (execClkReturn _m s) := by
  unfold execClkReturn
  try dsimp only
  repeat' (first | with_reducible assumption | with_reducible apply Keep.State_clkCmdReturn | with_reducible apply Keep.next | with_reducible apply Keep.ite | with_reducible apply Keep.iteO)

theorem Keep.State_clkCmdBypass {μ : Mark} (s : State) (m : Master) (h_s : μ.ok s) : μ.ok (State.clkCmdBypass s m) := by
  unfold State.clkCmdBypass
  try dsimp only
  repeat' (first | with_reducible assumption | with_reducible apply Keep.State_clkBypass | with_reducible apply Keep.State_clkErr | with_reducible apply Keep.ite)

theorem Keep.c_execClkBypass {μ : Mark} (m : Master) (s : State) (h_s : μ.ok s) : μ.okOut (execClkBypass m s) := by
  unfold execClkBypass
  try dsimp only
  repeat' (first | with_reducible assumption | with_reducible apply Keep.State_clkCmdBypass | with_reducible apply Keep.next | with_reducible apply Keep.ite | with_reducible apply Keep.iteO)

theorem Keep.State_multWrite {μ : Mark} (s : State) (m : Master) (v : Nat) (h_s : μ.ok s) : μ.ok (State.multWrite s m v) := by
  unfold State.multWrite
  try dsimp only
  repeat' (first | with_reducible assumption | with_reducible apply Keep.set | with_reducible apply Keep.State_clkBypass | with_reducible apply Keep.State_pllSearch | with_reducible apply Keep.State_clkErr | with_reducible apply Keep.ite)

theorem Keep.c_execPllMultWrite {μ : Mark} (m : Master) (v : Nat) (s : State) (h_s : μ.ok s) : μ.okOut (execPllMultWrite m v s) := by
  unfold execPllMultWrite
  try dsimp only
  repeat' (first | with_reducible assumption | with_reducible apply Keep.State_multWrite | with_reducible apply Keep.next | with_reducible apply Keep.ite | with_reducible apply Keep.iteO)

theorem Keep.State_divWrite {μ : Mark} (s : State) (n v : Nat) (h_s : μ.ok s) : μ.ok (State.divWrite s n v) := by
  unfold State.divWrite
  try dsimp only
  repeat' (first | with_reducible assumption | with_reducible apply Keep.set | with_reducible apply Keep.State_clkErr | with_reducible apply Keep.ite)

theorem Keep.c_execClkDivWrite {μ : Mark} (_m : Master) (n v : Nat) (s : State) (h_s : μ.ok s) : μ.okOut (execClkDivWrite _m n v s) := by
  unfold execClkDivWrite
  try dsimp only
  repeat' (first | with_reducible assumption | with_reducible apply Keep.State_divWrite | with_reducible apply Keep.next | with_reducible apply Keep.ite | with_reducible apply Keep.iteO)

theorem Keep.State_outEnWrite {μ : Mark} (s : State) (m : Master) (n : Nat) (en : Bool) (h_s : μ.ok s) : μ.ok (State.outEnWrite s m n en) := by
  unfold State.outEnWrite
  try dsimp only
  repeat' (first | with_reducible assumption | with_reducible apply Keep.State_outEn | with_reducible apply Keep.State_clkErr | with_reducible apply Keep.ite)

theorem Keep.c_execClkOutEnWrite {μ : Mark} (m : Master) (n : Nat) (en : Bool) (s : State) (h_s : μ.ok s) : μ.okOut (execClkOutEnWrite m n en s) := by
  unfold execClkOutEnWrite
  try dsimp only
  repeat' (first | with_reducible assumption | with_reducible apply Keep.State_outEnWrite | with_reducible apply Keep.next | with_reducible apply Keep.ite | with_reducible apply Keep.iteO)

theorem Keep.c_execClkDelayWrite {μ : Mark} (_m : Master) (n v : Nat) (s : State) (h_s : μ.ok s) : μ.okOut (execClkDelayWrite _m n v s) := by
  unfold execClkDelayWrite
  try dsimp only
  repeat' (first | with_reducible assumption | with_reducible apply Keep.set | with_reducible apply Keep.next | with_reducible apply Keep.ite | with_reducible apply Keep.iteO)

theorem Keep.c_execSlowXtalQualified {μ : Mark} (s : State) (h_s : μ.ok s) : μ.okOut (execSlowXtalQualified s) := by
  unfold execSlowXtalQualified
  try dsimp only
  repeat' (first | with_reducible assumption | with_reducible apply Keep.set | with_reducible apply Keep.next | with_reducible apply Keep.ite | with_reducible apply Keep.iteO)

theorem Keep.State_slowFail {μ : Mark} (s : State) (h_s : μ.ok s) : μ.ok (State.slowFail s) := by
  unfold State.slowFail
  try dsimp only
  repeat' (first | with_reducible assumption | with_reducible apply Keep.set | with_reducible apply Keep.State_logHW | with_reducible apply Keep.ite | with_reducible apply Keep.mk)

theorem Keep.c_execSlowFail {μ : Mark} (s : State) (h_s : μ.ok s) : μ.okOut (execSlowFail s) := by
  unfold execSlowFail
  try dsimp only
  repeat' (first | with_reducible assumption | with_reducible apply Keep.State_slowFail | with_reducible apply Keep.next | with_reducible apply Keep.ite | with_reducible apply Keep.iteO)

theorem Keep.State_slowRetry {μ : Mark} (s : State) (h_s : μ.ok s) : μ.ok (State.slowRetry s) := by
  unfold State.slowRetry
  try dsimp only
  repeat' (first | with_reducible assumption | with_reducible apply Keep.ite | with_reducible apply Keep.mk)

theorem Keep.c_execSlowRetry {μ : Mark} (_m : Master) (s : State) (h_s : μ.ok s) : μ.okOut (execSlowRetry _m s) := by
  unfold execSlowRetry
  try dsimp only
  repeat' (first | with_reducible assumption | with_reducible apply Keep.State_slowRetry | with_reducible apply Keep.next | with_reducible apply Keep.ite | with_reducible apply Keep.iteO)

end Sys2Proof.Machine
end

