-- ==== Sys2Proof/Laws/KeepCal.lean ====
section
/-! SUPPORT. What the operations of Machine/Cal.lean keep of a mark. -/

namespace Sys2Proof.Machine

open Sys2Proof

set_option linter.unreachableTactic false
set_option linter.unusedTactic false

theorem Keep.State_calAbort {μ : Mark} (s : State) (code : Nat) (h_s : μ.ok s) : μ.ok (State.calAbort s code) := by
  unfold State.calAbort
  try dsimp only
  repeat' (first | with_reducible assumption | intro _ | with_reducible apply Keep.forL | with_reducible apply Keep.State_calAborted | with_reducible apply Keep.State_calRelock | with_reducible apply Keep.ite)

theorem Keep.State_calRun {μ : Mark} (s : State) (seq target : Nat) (h_s : μ.ok s) : μ.ok (State.calRun s seq target) := by
  unfold State.calRun
  try dsimp only
  repeat' (first | with_reducible assumption | intro _ | with_reducible apply Keep.set | with_reducible apply Keep.forL | with_reducible apply Keep.State_calAborted | with_reducible apply Keep.State_rfsCalStart | with_reducible apply Keep.ite | with_reducible apply Keep.mk)

theorem Keep.c_execCalRun {μ : Mark} (_m : Master) (seq target : Nat) (s : State) (h_s : μ.ok s) : μ.okOut (execCalRun _m seq target s) := by
  unfold execCalRun
  try dsimp only
  repeat' (first | with_reducible assumption | with_reducible apply Keep.set | with_reducible apply Keep.State_calRun | with_reducible apply Keep.next | with_reducible apply Keep.ite | with_reducible apply Keep.iteO)

theorem Keep.State_calStamp {μ : Mark} (s : State) (h_s : μ.ok s) : μ.ok (State.calStamp s) := by
  unfold State.calStamp
  try dsimp only
  repeat' (first | with_reducible assumption | with_reducible apply Keep.State_setCal | with_reducible apply Keep.ite)

theorem Keep.State_calCommit {μ : Mark} (s : State) (readbackOk : Bool) (h_s : μ.ok s) : μ.ok (State.calCommit s readbackOk) := by
  unfold State.calCommit
  try dsimp only
  repeat' (first | with_reducible assumption | with_reducible apply Keep.set | with_reducible apply Keep.wr8 | with_reducible apply Keep.wrBytes | with_reducible apply Keep.fresh | with_reducible apply Keep.State_calStamp | with_reducible apply Keep.State_voteClean | with_reducible apply Keep.State_bump | with_reducible apply Keep.State_logHW | with_reducible apply Keep.ite | with_reducible apply Keep.iteP | with_reducible apply Keep.mk)

theorem Keep.State_calCmdCommit {μ : Mark} (s : State) (readbackOk : Bool) (h_s : μ.ok s) : μ.ok (State.calCmdCommit s readbackOk) := by
  unfold State.calCmdCommit
  try dsimp only
  repeat' (first | with_reducible assumption | with_reducible apply Keep.set | with_reducible apply Keep.State_calCommit | with_reducible apply Keep.ite | with_reducible apply Keep.mk)

theorem Keep.c_execCalCommit {μ : Mark} (_m : Master) (readbackOk : Bool) (s : State) (h_s : μ.ok s) : μ.okOut (execCalCommit _m readbackOk s) := by
  unfold execCalCommit
  try dsimp only
  repeat' (first | with_reducible assumption | with_reducible apply Keep.State_calCmdCommit | with_reducible apply Keep.next | with_reducible apply Keep.ite | with_reducible apply Keep.iteO)

theorem Keep.State_calBootStore {μ : Mark} (s : State) (h_s : μ.ok s) : μ.ok (State.calBootStore s) := by
  unfold State.calBootStore
  try dsimp only
  repeat' (first | with_reducible assumption | with_reducible apply Keep.fresh | with_reducible apply Keep.State_calCmdCommit | with_reducible apply Keep.ite | with_reducible apply Keep.iteP)

theorem Keep.State_calBootRun {μ : Mark} (s : State) (l : List Nat) (h_s : μ.ok s) : μ.ok (State.calBootRun s l) := by
  induction l generalizing s with
  | nil =>
    unfold State.calBootRun
    repeat' (first | with_reducible assumption | with_reducible apply Keep.State_calBootStore | with_reducible apply Keep.State_calRun | with_reducible apply Keep.ite | split | with_reducible refine Keep.fromSome (by with_reducible assumption) ?_ | with_reducible refine Keep.fromInr (by with_reducible assumption) ?_ | with_reducible refine Keep.fromInl (by with_reducible assumption) ?_ | with_reducible refine Keep.fromPair (by with_reducible assumption) ?_ | with_reducible refine Keep.fromPair1 (by with_reducible assumption) ?_ | with_reducible apply Keep.mk)
  | cons q r ih =>
    unfold State.calBootRun
    try dsimp only
    repeat' (first | with_reducible assumption | with_reducible apply ih | with_reducible apply Keep.State_calBootStore | with_reducible apply Keep.State_calRun | with_reducible apply Keep.ite | split | with_reducible refine Keep.fromSome (by with_reducible assumption) ?_ | with_reducible refine Keep.fromInr (by with_reducible assumption) ?_ | with_reducible refine Keep.fromInl (by with_reducible assumption) ?_ | with_reducible refine Keep.fromPair (by with_reducible assumption) ?_ | with_reducible refine Keep.fromPair1 (by with_reducible assumption) ?_ | with_reducible apply Keep.mk)

theorem Keep.State_calBootGo {μ : Mark} (s : State) (h_s : μ.ok s) : μ.ok (State.calBootGo s) := by
  unfold State.calBootGo
  try dsimp only
  repeat' (first | with_reducible assumption | with_reducible apply Keep.State_calBootRun | with_reducible apply Keep.ite | split | with_reducible refine Keep.fromSome (by with_reducible assumption) ?_ | with_reducible refine Keep.fromInr (by with_reducible assumption) ?_ | with_reducible refine Keep.fromInl (by with_reducible assumption) ?_ | with_reducible refine Keep.fromPair (by with_reducible assumption) ?_ | with_reducible refine Keep.fromPair1 (by with_reducible assumption) ?_)

theorem Keep.State_calBootStart {μ : Mark} (s : State) (h_s : μ.ok s) : μ.ok (State.calBootStart s) := by
  unfold State.calBootStart
  try dsimp only
  repeat' (first | with_reducible assumption | with_reducible apply Keep.State_calBootGo | with_reducible apply Keep.ite | with_reducible apply Keep.mk)

theorem Keep.State_calOwed {μ : Mark} (s : State) (h_s : μ.ok s) : μ.ok (State.calOwed s) := by
  unfold State.calOwed
  try dsimp only
  repeat' (first | with_reducible assumption | with_reducible apply Keep.State_calCommit | with_reducible apply Keep.State_calBootGo | with_reducible apply Keep.ite | with_reducible apply Keep.mk)

theorem Keep.c_execCalAbort {μ : Mark} (_m : Master) (s : State) (h_s : μ.ok s) : μ.okOut (execCalAbort _m s) := by
  unfold execCalAbort
  try dsimp only
  repeat' (first | with_reducible assumption | with_reducible apply Keep.State_calAbort | with_reducible apply Keep.State_calOwed | with_reducible apply Keep.next | with_reducible apply Keep.ite | with_reducible apply Keep.iteO)

theorem Keep.State_calApply {μ : Mark} (s : State) (seq key : Nat) (v : List Nat) (h_s : μ.ok s) : μ.ok (State.calApply s seq key v) := by
  unfold State.calApply
  try dsimp only
  repeat' (first | with_reducible assumption | intro _ | with_reducible apply Keep.set | with_reducible apply Keep.State_setCal | with_reducible apply Keep.State_synthTrims | with_reducible apply Keep.State_calRelock | with_reducible apply Keep.State_hintUpdate | with_reducible apply Keep.State_refreshPwr | with_reducible apply Keep.ite | with_reducible apply Keep.iteP | with_reducible apply Keep.getD)

theorem Keep.State_sweepDone {μ : Mark} (s : State) (seq : Nat) (h_s : μ.ok s) : μ.ok (State.sweepDone s seq) := by
  unfold State.sweepDone
  try dsimp only
  repeat' (first | with_reducible assumption | with_reducible apply Keep.set | with_reducible apply Keep.ite | with_reducible apply Keep.mk)

theorem Keep.State_calEnd {μ : Mark} (s : State) (code : Nat) (res : List (Nat × List Nat)) (h_s : μ.ok s) : μ.ok (State.calEnd s code res) := by
  unfold State.calEnd
  try dsimp only
  repeat' (first | with_reducible assumption | intro _ | with_reducible apply Keep.forL | with_reducible apply Keep.State_calAbort | with_reducible apply Keep.State_calApply | with_reducible apply Keep.State_sweepDone | with_reducible apply Keep.State_calFinished | with_reducible apply Keep.ite)

theorem Keep.c_execCalSequenceEnd {μ : Mark} (code : Nat) (res : List (Nat × List Nat)) (s : State) (h_s : μ.ok s) : μ.okOut (execCalSequenceEnd code res s) := by
  unfold execCalSequenceEnd
  try dsimp only
  repeat' (first | with_reducible assumption | with_reducible apply Keep.State_calEnd | with_reducible apply Keep.State_calOwed | with_reducible apply Keep.next | with_reducible apply Keep.ite | with_reducible apply Keep.iteO)

theorem Keep.State_calWatch {μ : Mark} (s : State) (h_s : μ.ok s) : μ.ok (State.calWatch s) := by
  unfold State.calWatch
  try dsimp only
  repeat' (first | with_reducible assumption | with_reducible apply Keep.State_calAbort | with_reducible apply Keep.State_calOwed | with_reducible apply Keep.State_calBootGo | with_reducible apply Keep.ite)

theorem Keep.State_vcore {μ : Mark} (s : State) (slow : Nat) (h_s : μ.ok s) : μ.ok (State.vcore s slow) := by
  unfold State.vcore
  try dsimp only
  repeat' (first | with_reducible assumption | with_reducible apply Keep.set | with_reducible apply Keep.State_margin | with_reducible apply Keep.ite)

theorem Keep.c_execAgeRoMeasure {μ : Mark} (core radio aon : Nat) (s : State) (h_s : μ.ok s) : μ.okOut (execAgeRoMeasure core radio aon s) := by
  unfold execAgeRoMeasure
  try dsimp only
  repeat' (first | with_reducible assumption | with_reducible apply Keep.set | with_reducible apply Keep.State_vcore | with_reducible apply Keep.next | with_reducible apply Keep.ite | with_reducible apply Keep.iteO)

theorem Keep.State_guardCand {μ : Mark} (s : State) (h_s : μ.ok s) : μ.ok (State.guardCand s) := by
  unfold State.guardCand
  try dsimp only
  repeat' (first | with_reducible assumption | intro _ | with_reducible apply Keep.set | with_reducible apply Keep.State_guardUp | with_reducible apply Keep.State_margin | with_reducible apply Keep.ite | with_reducible apply Keep.getD | with_reducible apply Keep.mk)

theorem Keep.c_execAgePaSample {μ : Mark} (n fwd : Nat) (s : State) (h_s : μ.ok s) : μ.okOut (execAgePaSample n fwd s) := by
  unfold execAgePaSample
  try dsimp only
  repeat' (first | with_reducible assumption | intro _ | with_reducible apply Keep.set | with_reducible apply Keep.State_guardCand | with_reducible apply Keep.next | with_reducible apply Keep.ite | with_reducible apply Keep.iteO | with_reducible apply Keep.mk)

theorem Keep.c_execAgeBgMeasure {μ : Mark} (drift : Nat) (s : State) (h_s : μ.ok s) : μ.okOut (execAgeBgMeasure drift s) := by
  unfold execAgeBgMeasure
  try dsimp only
  repeat' (first | with_reducible assumption | with_reducible apply Keep.set | with_reducible apply Keep.State_guardCand | with_reducible apply Keep.State_margin | with_reducible apply Keep.next | with_reducible apply Keep.ite | with_reducible apply Keep.iteO)

theorem Keep.c_execAgeMramMeasure {μ : Mark} (w : Nat) (s : State) (h_s : μ.ok s) : μ.okOut (execAgeMramMeasure w s) := by
  unfold execAgeMramMeasure
  try dsimp only
  repeat' (first | with_reducible assumption | with_reducible apply Keep.set | with_reducible apply Keep.State_margin | with_reducible apply Keep.next | with_reducible apply Keep.ite | with_reducible apply Keep.iteO)

theorem Keep.c_execDueHint {μ : Mark} (s : State) (h_s : μ.ok s) : μ.okOut (execDueHint s) := by
  unfold execDueHint
  try dsimp only
  repeat' (first | with_reducible assumption | with_reducible apply Keep.set | with_reducible apply Keep.next | with_reducible apply Keep.ite | with_reducible apply Keep.iteO)

theorem Keep.c_execDueScrub {μ : Mark} (s : State) (h_s : μ.ok s) : μ.okOut (execDueScrub s) := by
  unfold execDueScrub
  try dsimp only
  repeat' (first | with_reducible assumption | with_reducible apply Keep.set | with_reducible apply Keep.next | with_reducible apply Keep.ite | with_reducible apply Keep.iteO)

end Sys2Proof.Machine
end

