-- ==== Sys2Proof/Laws/KeepMpt.lean ====
section
/-! SUPPORT. What the operations of Machine/Mpt.lean keep of a mark. -/

namespace Sys2Proof.Machine

open Sys2Proof

set_option linter.unreachableTactic false
set_option linter.unusedTactic false

theorem Keep.State_updMpt {μ : Mark} (s : State) (g : Mpt → Mpt) (h_s : μ.ok s) : μ.ok (State.updMpt s g) := by
  unfold State.updMpt
  try dsimp only
  repeat' (first | with_reducible assumption | with_reducible apply Keep.ite | with_reducible apply Keep.mk)

theorem Keep.State_setRegion {μ : Mark} (s : State) (r : Nat) (g : MptRegion) (h_s : μ.ok s) : μ.ok (State.setRegion s r g) := by
  unfold State.setRegion
  try dsimp only
  repeat' (first | with_reducible assumption | intro _ | with_reducible apply Keep.set | with_reducible apply Keep.State_updMpt | with_reducible apply Keep.ite | with_reducible apply Keep.mk)

theorem Keep.State_mptCmdErr {μ : Mark} (s : State) (h_s : μ.ok s) : μ.ok (State.mptCmdErr s) := by
  unfold State.mptCmdErr
  try dsimp only
  repeat' (first | with_reducible assumption | with_reducible apply Keep.set | with_reducible apply Keep.ite)

theorem Keep.State_mptErr {μ : Mark} (s : State) (code sel off : Nat) (h_s : μ.ok s) : μ.ok (State.mptErr s code sel off) := by
  unfold State.mptErr
  try dsimp only
  repeat' (first | with_reducible assumption | with_reducible apply Keep.set | with_reducible apply Keep.State_bump | with_reducible apply Keep.ite)

theorem Keep.State_cacheInv {μ : Mark} (s : State) (h_s : μ.ok s) : μ.ok (State.cacheInv s) := by
  unfold State.cacheInv
  try dsimp only
  repeat' (first | with_reducible assumption | intro _ | with_reducible apply Keep.State_updMpt | with_reducible apply Keep.ite | with_reducible apply Keep.mk)

theorem Keep.State_cacheDrop {μ : Mark} (s : State) (sel a len : Nat) (h_s : μ.ok s) : μ.ok (State.cacheDrop s sel a len) := by
  unfold State.cacheDrop
  try dsimp only
  repeat' (first | with_reducible assumption | intro _ | with_reducible apply Keep.State_updMpt | with_reducible apply Keep.ite | with_reducible apply Keep.mk)

theorem Keep.State_txnBegin {μ : Mark} (s : State) (t : MptTxn) (h_s : μ.ok s) : μ.ok (State.txnBegin s t) := by
  unfold State.txnBegin
  try dsimp only
  repeat' (first | with_reducible assumption | intro _ | with_reducible apply Keep.set | with_reducible apply Keep.State_updMpt | with_reducible apply Keep.ite | with_reducible apply Keep.mk)

theorem Keep.State_txnEnd {μ : Mark} (s : State) (h_s : μ.ok s) : μ.ok (State.txnEnd s) := by
  unfold State.txnEnd
  try dsimp only
  repeat' (first | with_reducible assumption | intro _ | with_reducible apply Keep.set | with_reducible apply Keep.State_updMpt | with_reducible apply Keep.ite | with_reducible apply Keep.mk)

theorem Keep.State_txnNext {μ : Mark} (s : State) (h_s : μ.ok s) : μ.ok (State.txnNext s) := by
  unfold State.txnNext
  try dsimp only
  repeat' (first | with_reducible assumption | with_reducible apply Keep.State_txnBegin | with_reducible apply Keep.ite | split | with_reducible refine Keep.fromSome (by with_reducible assumption) ?_ | with_reducible refine Keep.fromInr (by with_reducible assumption) ?_ | with_reducible refine Keep.fromInl (by with_reducible assumption) ?_ | with_reducible refine Keep.fromPair (by with_reducible assumption) ?_ | with_reducible refine Keep.fromPair1 (by with_reducible assumption) ?_)

theorem Keep.State_cachePut {μ : Mark} (s : State) (c : CacheLine) (h_s : μ.ok s) : μ.ok (State.cachePut s c) := by
  unfold State.cachePut
  try dsimp only
  repeat' (first | with_reducible assumption | intro _ | with_reducible apply Keep.set | with_reducible apply Keep.State_updMpt | with_reducible apply Keep.ite | with_reducible apply Keep.mk)

theorem Keep.State_xipFail {μ : Mark} (s : State) (m : Master) (a : Nat) (h_s : μ.ok s) : μ.ok (State.xipFail s m a) := by
  unfold State.xipFail
  try dsimp only
  repeat' (first | with_reducible assumption | with_reducible apply Keep.State_busError | with_reducible apply Keep.State_respond | with_reducible apply Keep.ite)

theorem Keep.State_xipRead {μ : Mark} (s : State) (m : Master) (a : Nat) (h_s : μ.ok s) : μ.ok (State.xipRead s m a) := by
  unfold State.xipRead
  try dsimp only
  repeat' (first | with_reducible assumption | intro _ | with_reducible apply Keep.State_mptErr | with_reducible apply Keep.State_xipFail | with_reducible apply Keep.State_cachePut | with_reducible apply Keep.State_bump | with_reducible apply Keep.State_respond | with_reducible apply Keep.State_updMpt | with_reducible apply Keep.State_txnNext | with_reducible apply Keep.ite | split | with_reducible refine Keep.fromSome (by with_reducible assumption) ?_ | with_reducible refine Keep.fromInr (by with_reducible assumption) ?_ | with_reducible refine Keep.fromInl (by with_reducible assumption) ?_ | with_reducible refine Keep.fromPair (by with_reducible assumption) ?_ | with_reducible refine Keep.fromPair1 (by with_reducible assumption) ?_ | with_reducible apply Keep.mk)

theorem Keep.c_execXipFetch {μ : Mark} (m : Master) (addr : Nat) (s : State) (h_s : μ.ok s) : μ.okOut (execXipFetch m addr s) := by
  unfold execXipFetch
  try dsimp only
  repeat' (first | with_reducible assumption | with_reducible apply Keep.State_xipFail | with_reducible apply Keep.State_busError | with_reducible apply Keep.State_respond | with_reducible apply Keep.State_xipRead | with_reducible apply Keep.next | with_reducible apply Keep.ite | with_reducible apply Keep.iteO | split | with_reducible refine Keep.fromSome (by with_reducible assumption) ?_ | with_reducible refine Keep.fromInr (by with_reducible assumption) ?_ | with_reducible refine Keep.fromInl (by with_reducible assumption) ?_ | with_reducible refine Keep.fromPair (by with_reducible assumption) ?_ | with_reducible refine Keep.fromPair1 (by with_reducible assumption) ?_)

theorem Keep.c_execXipFillDone {μ : Mark} (line : List Nat) (s : State) (h_s : μ.ok s) : μ.okOut (execXipFillDone line s) := by
  unfold execXipFillDone
  try dsimp only
  repeat' (first | with_reducible assumption | intro _ | with_reducible apply Keep.State_updMpt | with_reducible apply Keep.State_txnEnd | with_reducible apply Keep.State_bump | with_reducible apply Keep.State_respond | with_reducible apply Keep.State_cachePut | with_reducible apply Keep.State_txnNext | with_reducible apply Keep.next | with_reducible apply Keep.ite | with_reducible apply Keep.iteO | split | with_reducible refine Keep.fromSome (by with_reducible assumption) ?_ | with_reducible refine Keep.fromInr (by with_reducible assumption) ?_ | with_reducible refine Keep.fromInl (by with_reducible assumption) ?_ | with_reducible refine Keep.fromPair (by with_reducible assumption) ?_ | with_reducible refine Keep.fromPair1 (by with_reducible assumption) ?_ | with_reducible apply Keep.mk)

theorem Keep.c_execCacheInv {μ : Mark} (_m : Master) (s : State) (h_s : μ.ok s) : μ.okOut (execCacheInv _m s) := by
  unfold execCacheInv
  try dsimp only
  repeat' (first | with_reducible assumption | with_reducible apply Keep.State_cacheInv | with_reducible apply Keep.next | with_reducible apply Keep.ite | with_reducible apply Keep.iteO)

theorem Keep.State_xwinWrite {μ : Mark} (s : State) (n v : Nat) (h_s : μ.ok s) : μ.ok (State.xwinWrite s n v) := by
  unfold State.xwinWrite
  try dsimp only
  repeat' (first | with_reducible assumption | with_reducible apply Keep.set | with_reducible apply Keep.State_cacheInv | with_reducible apply Keep.ite)

theorem Keep.c_execXwinWrite {μ : Mark} (_m : Master) (n v : Nat) (s : State) (h_s : μ.ok s) : μ.okOut (execXwinWrite _m n v s) := by
  unfold execXwinWrite
  try dsimp only
  repeat' (first | with_reducible assumption | with_reducible apply Keep.State_xwinWrite | with_reducible apply Keep.next | with_reducible apply Keep.ite | with_reducible apply Keep.iteO)

theorem Keep.State_ibufPut {μ : Mark} (s : State) (b : List Nat) (h_s : μ.ok s) : μ.ok (State.ibufPut s b) := by
  unfold State.ibufPut
  try dsimp only
  repeat' (first | with_reducible assumption | intro _ | with_reducible apply Keep.set | with_reducible apply Keep.forN | with_reducible apply Keep.ite)

theorem Keep.State_indCmd {μ : Mark} (s : State) (v : Nat) (h_s : μ.ok s) : μ.ok (State.indCmd s v) := by
  unfold State.indCmd
  try dsimp only
  repeat' (first | with_reducible assumption | intro _ | with_reducible apply Keep.set | with_reducible apply Keep.State_mptCmdErr | with_reducible apply Keep.State_mptErr | with_reducible apply Keep.State_bump | with_reducible apply Keep.State_updMpt | with_reducible apply Keep.State_txnNext | with_reducible apply Keep.ite | split | with_reducible refine Keep.fromSome (by with_reducible assumption) ?_ | with_reducible refine Keep.fromInr (by with_reducible assumption) ?_ | with_reducible refine Keep.fromInl (by with_reducible assumption) ?_ | with_reducible refine Keep.fromPair (by with_reducible assumption) ?_ | with_reducible refine Keep.fromPair1 (by with_reducible assumption) ?_ | with_reducible apply Keep.mk)

theorem Keep.c_execIndGo {μ : Mark} (_m : Master) (v : Nat) (s : State) (h_s : μ.ok s) : μ.okOut (execIndGo _m v s) := by
  unfold execIndGo
  try dsimp only
  repeat' (first | with_reducible assumption | with_reducible apply Keep.State_indCmd | with_reducible apply Keep.next | with_reducible apply Keep.ite | with_reducible apply Keep.iteO)

theorem Keep.State_indIdle {μ : Mark} (s : State) (h_s : μ.ok s) : μ.ok (State.indIdle s) := by
  unfold State.indIdle
  try dsimp only
  repeat' (first | with_reducible assumption | intro _ | with_reducible apply Keep.set | with_reducible apply Keep.State_updMpt | with_reducible apply Keep.ite | with_reducible apply Keep.mk)

theorem Keep.State_indData {μ : Mark} (s : State) (data : List Nat) (h_s : μ.ok s) : μ.ok (State.indData s data) := by
  unfold State.indData
  try dsimp only
  repeat' (first | with_reducible assumption | intro _ | with_reducible apply Keep.set | with_reducible apply Keep.State_cacheDrop | with_reducible apply Keep.State_ibufPut | with_reducible apply Keep.State_setBit | with_reducible apply Keep.State_updMpt | with_reducible apply Keep.State_indIdle | with_reducible apply Keep.ite | split | with_reducible refine Keep.fromSome (by with_reducible assumption) ?_ | with_reducible refine Keep.fromInr (by with_reducible assumption) ?_ | with_reducible refine Keep.fromInl (by with_reducible assumption) ?_ | with_reducible refine Keep.fromPair (by with_reducible assumption) ?_ | with_reducible refine Keep.fromPair1 (by with_reducible assumption) ?_ | with_reducible apply Keep.mk)

theorem Keep.c_execIndDone {μ : Mark} (data : List Nat) (s : State) (h_s : μ.ok s) : μ.okOut (execIndDone data s) := by
  unfold execIndDone
  try dsimp only
  repeat' (first | with_reducible assumption | with_reducible apply Keep.State_txnEnd | with_reducible apply Keep.State_indData | with_reducible apply Keep.State_txnNext | with_reducible apply Keep.next | with_reducible apply Keep.ite | with_reducible apply Keep.iteO)

theorem Keep.c_execPollRead {μ : Mark} (status : Nat) (s : State) (h_s : μ.ok s) : μ.okOut (execPollRead status s) := by
  unfold execPollRead
  try dsimp only
  repeat' (first | with_reducible assumption | intro _ | with_reducible apply Keep.set | with_reducible apply Keep.State_updMpt | with_reducible apply Keep.State_indIdle | with_reducible apply Keep.next | with_reducible apply Keep.ite | with_reducible apply Keep.iteO | with_reducible apply Keep.mk)

theorem Keep.State_indTimeout {μ : Mark} (s : State) (code : Nat) (h_s : μ.ok s) : μ.ok (State.indTimeout s code) := by
  unfold State.indTimeout
  try dsimp only
  repeat' (first | with_reducible assumption | with_reducible apply Keep.set | with_reducible apply Keep.State_mptErr | with_reducible apply Keep.State_indIdle | with_reducible apply Keep.ite)

theorem Keep.c_execPollTimeout {μ : Mark} (s : State) (h_s : μ.ok s) : μ.okOut (execPollTimeout s) := by
  unfold execPollTimeout
  try dsimp only
  repeat' (first | with_reducible assumption | with_reducible apply Keep.State_indTimeout | with_reducible apply Keep.next | with_reducible apply Keep.ite | with_reducible apply Keep.iteO)

theorem Keep.State_grnStop {μ : Mark} (s : State) (code : Nat) (h_s : μ.ok s) : μ.ok (State.grnStop s code) := by
  unfold State.grnStop
  try dsimp only
  repeat' (first | with_reducible assumption | with_reducible apply Keep.set | with_reducible apply Keep.State_logA | with_reducible apply Keep.ite)

theorem Keep.c_execTxnTimeout {μ : Mark} (s : State) (h_s : μ.ok s) : μ.okOut (execTxnTimeout s) := by
  unfold execTxnTimeout
  try dsimp only
  repeat' (first | with_reducible assumption | intro _ | with_reducible apply Keep.set | with_reducible apply Keep.State_updMpt | with_reducible apply Keep.State_txnEnd | with_reducible apply Keep.State_mptErr | with_reducible apply Keep.State_logHW | with_reducible apply Keep.State_xipFail | with_reducible apply Keep.State_txnNext | with_reducible apply Keep.State_indTimeout | with_reducible apply Keep.State_bump | with_reducible apply Keep.State_grnStop | with_reducible apply Keep.next | with_reducible apply Keep.ite | with_reducible apply Keep.iteO | split | with_reducible refine Keep.fromSome (by with_reducible assumption) ?_ | with_reducible refine Keep.fromInr (by with_reducible assumption) ?_ | with_reducible refine Keep.fromInl (by with_reducible assumption) ?_ | with_reducible refine Keep.fromPair (by with_reducible assumption) ?_ | with_reducible refine Keep.fromPair1 (by with_reducible assumption) ?_ | with_reducible apply Keep.mk)

theorem Keep.State_ibufWrite {μ : Mark} (s : State) (off width v : Nat) (h_s : μ.ok s) : μ.ok (State.ibufWrite s off width v) := by
  unfold State.ibufWrite
  try dsimp only
  repeat' (first | with_reducible assumption | with_reducible apply Keep.set | with_reducible apply Keep.State_mptCmdErr | with_reducible apply Keep.ite)

theorem Keep.c_execIbufWrite {μ : Mark} (_m : Master) (addr width v : Nat) (s : State) (h_s : μ.ok s) : μ.okOut (execIbufWrite _m addr width v s) := by
  unfold execIbufWrite
  try dsimp only
  repeat' (first | with_reducible assumption | with_reducible apply Keep.State_ibufWrite | with_reducible apply Keep.next | with_reducible apply Keep.ite | with_reducible apply Keep.iteO)

theorem Keep.State_rcfgWrite {μ : Mark} (s : State) (r v : Nat) (h_s : μ.ok s) : μ.ok (State.rcfgWrite s r v) := by
  unfold State.rcfgWrite
  try dsimp only
  repeat' (first | with_reducible assumption | with_reducible apply Keep.set | with_reducible apply Keep.State_mptCmdErr | with_reducible apply Keep.State_setRegion | with_reducible apply Keep.State_cacheInv | with_reducible apply Keep.ite | with_reducible apply Keep.mk)

theorem Keep.c_execRcfgWrite {μ : Mark} (_m : Master) (v : Nat) (s : State) (h_s : μ.ok s) : μ.okOut (execRcfgWrite _m v s) := by
  unfold execRcfgWrite
  try dsimp only
  repeat' (first | with_reducible assumption | with_reducible apply Keep.State_rcfgWrite | with_reducible apply Keep.next | with_reducible apply Keep.ite | with_reducible apply Keep.iteO)

theorem Keep.State_regionWrite {μ : Mark} (s : State) (g : MptRegion → MptRegion) (h_s : μ.ok s) : μ.ok (State.regionWrite s g) := by
  unfold State.regionWrite
  try dsimp only
  repeat' (first | with_reducible assumption | with_reducible apply Keep.State_mptCmdErr | with_reducible apply Keep.State_setRegion | with_reducible apply Keep.ite)

end Sys2Proof.Machine
end

