-- ==== Sys2Proof/Laws/KeepGrnOps.lean ====
section
/-! SUPPORT. What the operations of Machine/GrnOps.lean keep of a mark. -/

namespace Sys2Proof.Machine

open Sys2Proof

set_option linter.unreachableTactic false
set_option linter.unusedTactic false

theorem Keep.State_updGrn {μ : Mark} (s : State) (g : Grn → Grn) (h_s : μ.ok s) : μ.ok (State.updGrn s g) := by
  unfold State.updGrn
  try dsimp only
  repeat' (first | with_reducible assumption | with_reducible apply Keep.ite | with_reducible apply Keep.mk)

theorem Keep.State_extWrite {μ : Mark} (s : State) (sel off : Nat) (b : List Nat) (h_s : μ.ok s) : μ.ok (State.extWrite s sel off b) := by
  unfold State.extWrite
  try dsimp only
  repeat' (first | with_reducible assumption | intro _ | with_reducible apply Keep.State_updMpt | with_reducible apply Keep.State_cacheDrop | with_reducible apply Keep.ite | with_reducible apply Keep.mk)

theorem Keep.State_extZero {μ : Mark} (s : State) (sel off n : Nat) (h_s : μ.ok s) : μ.ok (State.extZero s sel off n) := by
  unfold State.extZero
  try dsimp only
  repeat' (first | with_reducible assumption | intro _ | with_reducible apply Keep.State_updMpt | with_reducible apply Keep.State_cacheDrop | with_reducible apply Keep.State_extWrite | with_reducible apply Keep.ite | with_reducible apply Keep.mk)

theorem Keep.State_grnDma {μ : Mark} (s : State) (a : Nat) (w : List (List Nat)) (h_s : μ.ok s) : μ.ok (State.grnDma s a w).2 := by
  induction w generalizing s a with
  | nil =>
    unfold State.grnDma
    repeat' (first | with_reducible assumption | intro _ | with_reducible apply Keep.wrBytes | with_reducible apply Keep.State_mapError | with_reducible apply Keep.State_grnStop | with_reducible apply Keep.State_updGrn | with_reducible apply Keep.ite | with_reducible apply Keep.iteP | split | with_reducible refine Keep.fromSome (by with_reducible assumption) ?_ | with_reducible refine Keep.fromInr (by with_reducible assumption) ?_ | with_reducible refine Keep.fromInl (by with_reducible assumption) ?_ | with_reducible refine Keep.fromPair (by with_reducible assumption) ?_ | with_reducible refine Keep.fromPair1 (by with_reducible assumption) ?_ | with_reducible apply Keep.mk)
  | cons b r ih =>
    unfold State.grnDma
    try dsimp only
    repeat' (first | with_reducible assumption | with_reducible apply ih | intro _ | with_reducible apply Keep.wrBytes | with_reducible apply Keep.State_mapError | with_reducible apply Keep.State_grnStop | with_reducible apply Keep.State_updGrn | with_reducible apply Keep.ite | with_reducible apply Keep.iteP | split | with_reducible refine Keep.fromSome (by with_reducible assumption) ?_ | with_reducible refine Keep.fromInr (by with_reducible assumption) ?_ | with_reducible refine Keep.fromInl (by with_reducible assumption) ?_ | with_reducible refine Keep.fromPair (by with_reducible assumption) ?_ | with_reducible refine Keep.fromPair1 (by with_reducible assumption) ?_ | with_reducible apply Keep.mk)

theorem Keep.State_grnEnable {μ : Mark} (s : State) (en : Bool) (h_s : μ.ok s) : μ.ok (State.grnEnable s en) := by
  unfold State.grnEnable
  try dsimp only
  repeat' (first | with_reducible assumption | with_reducible apply Keep.set | with_reducible apply Keep.ite)

theorem Keep.State_grnPause {μ : Mark} (s : State) (h_s : μ.ok s) : μ.ok (State.grnPause s) := by
  unfold State.grnPause
  try dsimp only
  repeat' (first | with_reducible assumption | with_reducible apply Keep.set | with_reducible apply Keep.ite)

theorem Keep.State_entryPut {μ : Mark} (s : State) (h : Nat) (e : List Nat) (h_s : μ.ok s) : μ.ok (State.entryPut s h e) := by
  unfold State.entryPut
  try dsimp only
  repeat' (first | with_reducible assumption | with_reducible apply Keep.State_extWrite | with_reducible apply Keep.ite)

theorem Keep.State_ringDrain {μ : Mark} (s : State) (l : List (Nat × List Nat)) (h_s : μ.ok s) : μ.ok (State.ringDrain s l) := by
  induction l generalizing s with
  | nil =>
    unfold State.ringDrain
    repeat' (first | with_reducible assumption | intro _ | with_reducible apply Keep.set | with_reducible apply Keep.State_updGrn | with_reducible apply Keep.State_grnDma | with_reducible apply Keep.ite | split | with_reducible refine Keep.fromSome (by with_reducible assumption) ?_ | with_reducible refine Keep.fromInr (by with_reducible assumption) ?_ | with_reducible refine Keep.fromInl (by with_reducible assumption) ?_ | with_reducible refine Keep.fromPair (by with_reducible assumption) ?_ | with_reducible refine Keep.fromPair1 (by with_reducible assumption) ?_ | with_reducible apply Keep.mk)
  | cons n r ih =>
    unfold State.ringDrain
    try dsimp only
    repeat' (first | with_reducible assumption | with_reducible apply ih | intro _ | with_reducible apply Keep.set | with_reducible apply Keep.State_updGrn | with_reducible apply Keep.State_grnDma | with_reducible apply Keep.ite | split | with_reducible refine Keep.fromSome (by with_reducible assumption) ?_ | with_reducible refine Keep.fromInr (by with_reducible assumption) ?_ | with_reducible refine Keep.fromInl (by with_reducible assumption) ?_ | with_reducible refine Keep.fromPair (by with_reducible assumption) ?_ | with_reducible refine Keep.fromPair1 (by with_reducible assumption) ?_ | with_reducible apply Keep.mk)

theorem Keep.State_note {μ : Mark} (s : State) (kind h : Nat) (e : List Nat) (h_s : μ.ok s) : μ.ok (State.note s kind h e) := by
  unfold State.note
  try dsimp only
  repeat' (first | with_reducible assumption | with_reducible apply Keep.State_bump | with_reducible apply Keep.State_ringDrain | with_reducible apply Keep.ite)

theorem Keep.State_ringMark {μ : Mark} (s : State) (h_s : μ.ok s) : μ.ok (State.ringMark s) := by
  unfold State.ringMark
  try dsimp only
  repeat' (first | with_reducible assumption | intro _ | with_reducible apply Keep.set | with_reducible apply Keep.when | with_reducible apply Keep.ite)

theorem Keep.State_setJseq {μ : Mark} (s : State) (q : Nat) (h_s : μ.ok s) : μ.ok (State.setJseq s q) := by
  unfold State.setJseq
  try dsimp only
  repeat' (first | with_reducible assumption | with_reducible apply Keep.set | with_reducible apply Keep.ite)

theorem Keep.State_blockWrite {μ : Mark} (s : State) (h_s : μ.ok s) : μ.ok (State.blockWrite s) := by
  unfold State.blockWrite
  try dsimp only
  repeat' (first | with_reducible assumption | intro _ | with_reducible apply Keep.State_mapError | with_reducible apply Keep.State_grnStop | with_reducible apply Keep.State_extWrite | with_reducible apply Keep.State_setJseq | with_reducible apply Keep.State_updGrn | with_reducible apply Keep.ite | split | with_reducible refine Keep.fromSome (by with_reducible assumption) ?_ | with_reducible refine Keep.fromInr (by with_reducible assumption) ?_ | with_reducible refine Keep.fromInl (by with_reducible assumption) ?_ | with_reducible refine Keep.fromPair (by with_reducible assumption) ?_ | with_reducible refine Keep.fromPair1 (by with_reducible assumption) ?_ | with_reducible apply Keep.mk)

theorem Keep.State_journal {μ : Mark} (s : State) (rec : List Nat) (h_s : μ.ok s) : μ.ok (State.journal s rec) := by
  unfold State.journal
  try dsimp only
  repeat' (first | with_reducible assumption | intro _ | with_reducible apply Keep.State_grnDma | with_reducible apply Keep.State_updGrn | with_reducible apply Keep.State_blockWrite | with_reducible apply Keep.ite | with_reducible apply Keep.mk)

theorem Keep.State_sectorPart {μ : Mark} (s : State) (v : Int) (step : Nat) (h_s : μ.ok s) : μ.ok (State.sectorPart s v step).2 := by
  unfold State.sectorPart
  try dsimp only
  repeat' (first | with_reducible assumption | with_reducible apply Keep.fresh | with_reducible apply Keep.ite | with_reducible apply Keep.iteP)

theorem Keep.State_sectorOf {μ : Mark} (s : State) (rec : List Nat) (band : Nat) (h_s : μ.ok s) : μ.ok (State.sectorOf s rec band).2 := by
  unfold State.sectorOf
  try dsimp only
  repeat' (first | with_reducible assumption | with_reducible apply Keep.State_sectorPart | with_reducible apply Keep.ite | with_reducible apply Keep.iteP)

theorem Keep.State_foldSector {μ : Mark} (s : State) (h : Nat) (e rec : List Nat) (quiet : Bool) (h_s : μ.ok s) : μ.ok (State.foldSector s h e rec quiet).2 := by
  unfold State.foldSector
  try dsimp only
  repeat' (first | with_reducible assumption | intro _ | with_reducible apply Keep.State_sectorOf | with_reducible apply Keep.State_updGrn | with_reducible apply Keep.State_note | with_reducible apply Keep.ite | with_reducible apply Keep.iteP | with_reducible apply Keep.mk)

theorem Keep.State_badgeSeen {μ : Mark} (s : State) (e rec : List Nat) (h_s : μ.ok s) : μ.ok (State.badgeSeen s e rec) := by
  unfold State.badgeSeen
  try dsimp only
  repeat' (first | with_reducible assumption | with_reducible apply Keep.State_setOccupied | with_reducible apply Keep.ite)

theorem Keep.State_foldEnd {μ : Mark} (s : State) (h : Nat) (e rec : List Nat) (quiet : Bool) (h_s : μ.ok s) : μ.ok (State.foldEnd s h e rec quiet) := by
  unfold State.foldEnd
  try dsimp only
  repeat' (first | with_reducible assumption | intro _ | with_reducible apply Keep.when | with_reducible apply Keep.State_note | with_reducible apply Keep.State_entryPut | with_reducible apply Keep.State_badgeSeen | with_reducible apply Keep.ite)

theorem Keep.State_foldIndex {μ : Mark} (s : State) (recs : List (List Nat)) (replay : Bool) (h_s : μ.ok s) : μ.ok (State.foldIndex s recs replay).2 := by
  unfold State.foldIndex
  try dsimp only
  repeat' (first | with_reducible assumption | intro _ | with_reducible apply Keep.set | with_reducible apply Keep.fresh | with_reducible apply Keep.when | with_reducible apply Keep.State_note | with_reducible apply Keep.State_foldSector | with_reducible apply Keep.State_foldEnd | with_reducible apply Keep.State_sectorOf | with_reducible apply Keep.State_updGrn | with_reducible apply Keep.ite | with_reducible apply Keep.iteP | split | with_reducible refine Keep.fromSome (by with_reducible assumption) ?_ | with_reducible refine Keep.fromInr (by with_reducible assumption) ?_ | with_reducible refine Keep.fromInl (by with_reducible assumption) ?_ | with_reducible refine Keep.fromPair (by with_reducible assumption) ?_ | with_reducible refine Keep.fromPair1 (by with_reducible assumption) ?_ | with_reducible apply Keep.mk)

theorem Keep.State_popWords {μ : Mark} (s : State) (q n : Nat) (h_s : μ.ok s) : μ.ok (State.popWords s q n) := by
  unfold State.popWords
  try dsimp only
  repeat' (first | with_reducible assumption | intro _ | with_reducible apply Keep.forN | with_reducible apply Keep.State_quePop | with_reducible apply Keep.ite)

theorem Keep.State_grnFold {μ : Mark} (s : State) (h_s : μ.ok s) : μ.ok (State.grnFold s) := by
  unfold State.grnFold
  try dsimp only
  repeat' (first | with_reducible assumption | intro _ | with_reducible apply Keep.set | with_reducible apply Keep.forL | with_reducible apply Keep.State_popWords | with_reducible apply Keep.State_foldIndex | with_reducible apply Keep.State_bump | with_reducible apply Keep.State_setObj | with_reducible apply Keep.State_journal | with_reducible apply Keep.State_ringMark | with_reducible apply Keep.ite)

theorem Keep.State_superWrite {μ : Mark} (s : State) (copyB : Bool) (gen : Nat) (h_s : μ.ok s) : μ.ok (State.superWrite s copyB gen) := by
  unfold State.superWrite
  try dsimp only
  repeat' (first | with_reducible assumption | intro _ | with_reducible apply Keep.State_extWrite | with_reducible apply Keep.State_updGrn | with_reducible apply Keep.ite | with_reducible apply Keep.mk)

theorem Keep.State_grnCommit {μ : Mark} (s : State) (h_s : μ.ok s) : μ.ok (State.grnCommit s) := by
  unfold State.grnCommit
  try dsimp only
  repeat' (first | with_reducible assumption | with_reducible apply Keep.set | with_reducible apply Keep.State_blockWrite | with_reducible apply Keep.State_superWrite | with_reducible apply Keep.State_grnStop | with_reducible apply Keep.ite)

theorem Keep.State_clearTorn {μ : Mark} (s : State) (h_s : μ.ok s) : μ.ok (State.clearTorn s) := by
  unfold State.clearTorn
  try dsimp only
  repeat' (first | with_reducible assumption | intro _ | with_reducible apply Keep.set | with_reducible apply Keep.forL | with_reducible apply Keep.State_extZero | with_reducible apply Keep.ite)

theorem Keep.State_grnRecover {μ : Mark} (s : State) (h_s : μ.ok s) : μ.ok (State.grnRecover s) := by
  unfold State.grnRecover
  try dsimp only
  repeat' (first | with_reducible assumption | intro _ | with_reducible apply Keep.set | with_reducible apply Keep.forL | with_reducible apply Keep.State_grnStop | with_reducible apply Keep.State_updGrn | with_reducible apply Keep.State_clearTorn | with_reducible apply Keep.State_foldIndex | with_reducible apply Keep.State_setJseq | with_reducible apply Keep.ite | split | with_reducible refine Keep.fromSome (by with_reducible assumption) ?_ | with_reducible refine Keep.fromInr (by with_reducible assumption) ?_ | with_reducible refine Keep.fromInl (by with_reducible assumption) ?_ | with_reducible refine Keep.fromPair (by with_reducible assumption) ?_ | with_reducible refine Keep.fromPair1 (by with_reducible assumption) ?_ | with_reducible apply Keep.mk)

theorem Keep.State_grnFormat {μ : Mark} (s : State) (h_s : μ.ok s) : μ.ok (State.grnFormat s) := by
  unfold State.grnFormat
  try dsimp only
  repeat' (first | with_reducible assumption | intro _ | with_reducible apply Keep.set | with_reducible apply Keep.freshL | with_reducible apply Keep.State_extZero | with_reducible apply Keep.State_setJseq | with_reducible apply Keep.State_updGrn | with_reducible apply Keep.State_superWrite | with_reducible apply Keep.ite | with_reducible apply Keep.iteP | with_reducible apply Keep.getD | with_reducible apply Keep.mk)

end Sys2Proof.Machine
end

