-- ==== Sys2Proof/Laws/KeepGrn.lean ====
section
/-! SUPPORT. What the operations of Machine/Grn.lean keep of a mark. -/

namespace Sys2Proof.Machine

open Sys2Proof

set_option linter.unreachableTactic false
set_option linter.unusedTactic false

theorem Keep.c_execGrnEnable {μ : Mark} (_m : Master) (s : State) (h_s : μ.ok s) : μ.okOut (execGrnEnable _m s) := by
  unfold execGrnEnable
  try dsimp only
  repeat' (first | with_reducible assumption | with_reducible apply Keep.State_grnEnable | with_reducible apply Keep.next | with_reducible apply Keep.ite | with_reducible apply Keep.iteO)

theorem Keep.c_execRecordFold {μ : Mark} (s : State) (h_s : μ.ok s) : μ.okOut (execRecordFold s) := by
  unfold execRecordFold
  try dsimp only
  repeat' (first | with_reducible assumption | with_reducible apply Keep.State_ringMark | with_reducible apply Keep.State_grnFold | with_reducible apply Keep.State_grnStop | with_reducible apply Keep.next | with_reducible apply Keep.ite | with_reducible apply Keep.iteO)

theorem Keep.State_sweepSlot {μ : Mark} (s : State) (h : Nat) (h_s : μ.ok s) : μ.ok (State.sweepSlot s h) := by
  unfold State.sweepSlot
  try dsimp only
  repeat' (first | with_reducible assumption | with_reducible apply Keep.State_note | with_reducible apply Keep.State_entryPut | with_reducible apply Keep.ite)

theorem Keep.c_execSweepStep {μ : Mark} (s : State) (h_s : μ.ok s) : μ.okOut (execSweepStep s) := by
  unfold execSweepStep
  try dsimp only
  repeat' (first | with_reducible assumption | intro _ | with_reducible apply Keep.forL | with_reducible apply Keep.State_sweepSlot | with_reducible apply Keep.State_grnStop | with_reducible apply Keep.next | with_reducible apply Keep.ite | with_reducible apply Keep.iteO)

theorem Keep.State_grnCmd {μ : Mark} (s : State) (g : State → State) (h_s : μ.ok s) (h_g : ∀ t, μ.ok t → μ.ok (g t)) : μ.ok (State.grnCmd s g) := by
  unfold State.grnCmd
  try dsimp only
  repeat' (first | with_reducible assumption | intro _ | with_reducible apply h_g | with_reducible apply Keep.State_grnStop | with_reducible apply Keep.ite)

theorem Keep.c_execGrnFormat {μ : Mark} (s : State) (h_s : μ.ok s) : μ.okOut (execGrnFormat s) := by
  unfold execGrnFormat
  try dsimp only
  repeat' (first | with_reducible assumption | with_reducible apply Keep.State_grnCmd | with_reducible apply Keep.State_grnFormat | with_reducible apply Keep.next | with_reducible apply Keep.ite | with_reducible apply Keep.iteO)

theorem Keep.c_execGrnRecover {μ : Mark} (s : State) (h_s : μ.ok s) : μ.okOut (execGrnRecover s) := by
  unfold execGrnRecover
  try dsimp only
  repeat' (first | with_reducible assumption | with_reducible apply Keep.State_grnCmd | with_reducible apply Keep.State_grnRecover | with_reducible apply Keep.next | with_reducible apply Keep.ite | with_reducible apply Keep.iteO)

theorem Keep.c_execGrnCommit {μ : Mark} (s : State) (h_s : μ.ok s) : μ.okOut (execGrnCommit s) := by
  unfold execGrnCommit
  try dsimp only
  repeat' (first | with_reducible assumption | with_reducible apply Keep.State_grnCommit | with_reducible apply Keep.next | with_reducible apply Keep.ite | with_reducible apply Keep.iteO)

theorem Keep.c_execGrnCommitTimer {μ : Mark} (s : State) (h_s : μ.ok s) : μ.okOut (execGrnCommitTimer s) := by
  unfold execGrnCommitTimer
  try dsimp only
  repeat' (first | with_reducible assumption | with_reducible apply Keep.State_grnCommit | with_reducible apply Keep.next | with_reducible apply Keep.ite | with_reducible apply Keep.iteO)

theorem Keep.State_nrTail {μ : Mark} (s : State) (v : Nat) (h_s : μ.ok s) : μ.ok (State.nrTail s v) := by
  unfold State.nrTail
  try dsimp only
  repeat' (first | with_reducible assumption | with_reducible apply Keep.set | with_reducible apply Keep.State_ringDrain | with_reducible apply Keep.ite)

theorem Keep.c_execNrTailWrite {μ : Mark} (_m : Master) (v : Nat) (s : State) (h_s : μ.ok s) : μ.okOut (execNrTailWrite _m v s) := by
  unfold execNrTailWrite
  try dsimp only
  repeat' (first | with_reducible assumption | with_reducible apply Keep.State_nrTail | with_reducible apply Keep.next | with_reducible apply Keep.ite | with_reducible apply Keep.iteO)

theorem Keep.State_tagWatch {μ : Mark} (s : State) (body : List Nat) (h_s : μ.ok s) : μ.ok (State.tagWatch s body) := by
  unfold State.tagWatch
  try dsimp only
  repeat' (first | with_reducible assumption | with_reducible apply Keep.State_entryPut | with_reducible apply Keep.ite | split | with_reducible refine Keep.fromSome (by with_reducible assumption) ?_ | with_reducible refine Keep.fromInr (by with_reducible assumption) ?_ | with_reducible refine Keep.fromInl (by with_reducible assumption) ?_ | with_reducible refine Keep.fromPair (by with_reducible assumption) ?_ | with_reducible refine Keep.fromPair1 (by with_reducible assumption) ?_)

theorem Keep.c_execTagWatch {μ : Mark} (body : List Nat) (s : State) (h_s : μ.ok s) : μ.okOut (execTagWatch body s) := by
  unfold execTagWatch
  try dsimp only
  repeat' (first | with_reducible assumption | with_reducible apply Keep.State_tagWatch | with_reducible apply Keep.next | with_reducible apply Keep.ite | with_reducible apply Keep.iteO)

theorem Keep.State_tagQuery {μ : Mark} (s : State) (body : List Nat) (h_s : μ.ok s) : μ.ok (State.tagQuery s body) := by
  unfold State.tagQuery
  try dsimp only
  repeat' (first | with_reducible assumption | with_reducible apply Keep.State_setObj | with_reducible apply Keep.ite | split | with_reducible refine Keep.fromSome (by with_reducible assumption) ?_ | with_reducible refine Keep.fromInr (by with_reducible assumption) ?_ | with_reducible refine Keep.fromInl (by with_reducible assumption) ?_ | with_reducible refine Keep.fromPair (by with_reducible assumption) ?_ | with_reducible refine Keep.fromPair1 (by with_reducible assumption) ?_)

theorem Keep.c_execTagQuery {μ : Mark} (body : List Nat) (s : State) (h_s : μ.ok s) : μ.okOut (execTagQuery body s) := by
  unfold execTagQuery
  try dsimp only
  repeat' (first | with_reducible assumption | with_reducible apply Keep.State_tagQuery | with_reducible apply Keep.next | with_reducible apply Keep.ite | with_reducible apply Keep.iteO)

theorem Keep.State_grnCmdWrite {μ : Mark} (s : State) (v : Nat) (h_s : μ.ok s) : μ.ok (State.grnCmdWrite s v) := by
  unfold State.grnCmdWrite
  try dsimp only
  repeat' (first | with_reducible assumption | with_reducible apply Keep.State_grnCmd | with_reducible apply Keep.State_grnFormat | with_reducible apply Keep.State_grnRecover | with_reducible apply Keep.State_grnCommit | with_reducible apply Keep.ite)

end Sys2Proof.Machine
end

