-- ==== Sys2Proof/Laws/KeepHfr.lean ====
section
/-! SUPPORT. What the operations of Machine/Hfr.lean keep of a mark. -/

namespace Sys2Proof.Machine

open Sys2Proof

set_option linter.unreachableTactic false
set_option linter.unusedTactic false

theorem Keep.c_execHfLeaseGo {μ : Mark} (_m : Master) (target seq entry : Nat) (s : State) (h_s : μ.ok s) : μ.okOut (execHfLeaseGo _m target seq entry s) := by
  unfold execHfLeaseGo
  try dsimp only
  repeat' (first | with_reducible assumption | with_reducible apply Keep.State_hfLeaseGo | with_reducible apply Keep.next | with_reducible apply Keep.ite | with_reducible apply Keep.iteO)

theorem Keep.c_execHfLeaseRelease {μ : Mark} (_m : Master) (target : Nat) (s : State) (h_s : μ.ok s) : μ.okOut (execHfLeaseRelease _m target s) := by
  unfold execHfLeaseRelease
  try dsimp only
  repeat' (first | with_reducible assumption | with_reducible apply Keep.State_hfrEnd | with_reducible apply Keep.State_hftEnd | with_reducible apply Keep.next | with_reducible apply Keep.ite | with_reducible apply Keep.iteO)

theorem Keep.c_execHfStateDone {μ : Mark} (railOk : Bool) (s : State) (h_s : μ.ok s) : μ.okOut (execHfStateDone railOk s) := by
  unfold execHfStateDone
  try dsimp only
  repeat' (first | with_reducible assumption | with_reducible apply Keep.State_hfStepDone | with_reducible apply Keep.State_hfFrameEnd | with_reducible apply Keep.next | with_reducible apply Keep.ite | with_reducible apply Keep.iteO | split | with_reducible refine Keep.fromSome (by with_reducible assumption) ?_ | with_reducible refine Keep.fromInr (by with_reducible assumption) ?_ | with_reducible refine Keep.fromInl (by with_reducible assumption) ?_ | with_reducible refine Keep.fromPair (by with_reducible assumption) ?_ | with_reducible refine Keep.fromPair1 (by with_reducible assumption) ?_)

theorem Keep.c_execHfSynthTimeout {μ : Mark} (s : State) (h_s : μ.ok s) : μ.okOut (execHfSynthTimeout s) := by
  unfold execHfSynthTimeout
  try dsimp only
  repeat' (first | with_reducible assumption | intro _ | with_reducible apply Keep.State_updHfr | with_reducible apply Keep.State_hfAnswer | with_reducible apply Keep.next | with_reducible apply Keep.ite | with_reducible apply Keep.iteO | with_reducible apply Keep.mk)

theorem Keep.c_execDrvFault {μ : Mark} (s : State) (h_s : μ.ok s) : μ.okOut (execDrvFault s) := by
  unfold execDrvFault
  try dsimp only
  repeat' (first | with_reducible assumption | intro _ | with_reducible apply Keep.set | with_reducible apply Keep.State_hfFieldOff | with_reducible apply Keep.State_updHfr | with_reducible apply Keep.State_hfAnswer | with_reducible apply Keep.next | with_reducible apply Keep.ite | with_reducible apply Keep.iteO | with_reducible apply Keep.mk)

theorem Keep.c_execHfFrameHoldRelease {μ : Mark} (s : State) (h_s : μ.ok s) : μ.okOut (execHfFrameHoldRelease s) := by
  unfold execHfFrameHoldRelease
  try dsimp only
  repeat' (first | with_reducible assumption | intro _ | with_reducible apply Keep.State_updHfr | with_reducible apply Keep.State_hfBegin | with_reducible apply Keep.next | with_reducible apply Keep.ite | with_reducible apply Keep.iteO | split | with_reducible refine Keep.fromSome (by with_reducible assumption) ?_ | with_reducible refine Keep.fromInr (by with_reducible assumption) ?_ | with_reducible refine Keep.fromInl (by with_reducible assumption) ?_ | with_reducible refine Keep.fromPair (by with_reducible assumption) ?_ | with_reducible refine Keep.fromPair1 (by with_reducible assumption) ?_ | with_reducible apply Keep.mk)

theorem Keep.c_execHfReplyDecision {μ : Mark} (ev : HfEvidence) (s : State) (h_s : μ.ok s) : μ.okOut (execHfReplyDecision ev s) := by
  unfold execHfReplyDecision
  try dsimp only
  repeat' (first | with_reducible assumption | with_reducible apply Keep.State_hfReply | with_reducible apply Keep.State_hfProgress | with_reducible apply Keep.next | with_reducible apply Keep.ite | with_reducible apply Keep.iteO | split | with_reducible refine Keep.fromSome (by with_reducible assumption) ?_ | with_reducible refine Keep.fromInr (by with_reducible assumption) ?_ | with_reducible refine Keep.fromInl (by with_reducible assumption) ?_ | with_reducible refine Keep.fromPair (by with_reducible assumption) ?_ | with_reducible refine Keep.fromPair1 (by with_reducible assumption) ?_)

theorem Keep.c_execHfWaitExpiry {μ : Mark} (s : State) (h_s : μ.ok s) : μ.okOut (execHfWaitExpiry s) := by
  unfold execHfWaitExpiry
  try dsimp only
  repeat' (first | with_reducible assumption | with_reducible apply Keep.State_hfDecision | with_reducible apply Keep.State_hfProgress | with_reducible apply Keep.next | with_reducible apply Keep.ite | with_reducible apply Keep.iteO | split | with_reducible refine Keep.fromSome (by with_reducible assumption) ?_ | with_reducible refine Keep.fromInr (by with_reducible assumption) ?_ | with_reducible refine Keep.fromInl (by with_reducible assumption) ?_ | with_reducible refine Keep.fromPair (by with_reducible assumption) ?_ | with_reducible refine Keep.fromPair1 (by with_reducible assumption) ?_)

theorem Keep.c_execHfWtxAnswer {μ : Mark} (s : State) (h_s : μ.ok s) : μ.okOut (execHfWtxAnswer s) := by
  unfold execHfWtxAnswer
  try dsimp only
  repeat' (first | with_reducible assumption | intro _ | with_reducible apply Keep.State_updHfr | with_reducible apply Keep.State_bump | with_reducible apply Keep.next | with_reducible apply Keep.ite | with_reducible apply Keep.iteO | split | with_reducible refine Keep.fromSome (by with_reducible assumption) ?_ | with_reducible refine Keep.fromInr (by with_reducible assumption) ?_ | with_reducible refine Keep.fromInl (by with_reducible assumption) ?_ | with_reducible refine Keep.fromPair (by with_reducible assumption) ?_ | with_reducible refine Keep.fromPair1 (by with_reducible assumption) ?_ | with_reducible apply Keep.mk)

theorem Keep.c_execFtDataAccess {μ : Mark} (write : Bool) (v : Nat) (s : State) (h_s : μ.ok s) : μ.okOut (execFtDataAccess write v s) := by
  unfold execFtDataAccess
  try dsimp only
  repeat' (first | with_reducible assumption | intro _ | with_reducible apply Keep.set | with_reducible apply Keep.State_respond | with_reducible apply Keep.State_updHfr | with_reducible apply Keep.next | with_reducible apply Keep.ite | with_reducible apply Keep.iteO | with_reducible apply Keep.mk)

theorem Keep.c_execTagGuardRelease {μ : Mark} (s : State) (h_s : μ.ok s) : μ.okOut (execTagGuardRelease s) := by
  unfold execTagGuardRelease
  try dsimp only
  repeat' (first | with_reducible assumption | with_reducible apply Keep.set | with_reducible apply Keep.State_tagRelease | with_reducible apply Keep.next | with_reducible apply Keep.ite | with_reducible apply Keep.iteO)

theorem Keep.State_glShow {μ : Mark} (s : State) (h_s : μ.ok s) : μ.ok (State.glShow s) := by
  unfold State.glShow
  try dsimp only
  repeat' (first | with_reducible assumption | with_reducible apply Keep.set | with_reducible apply Keep.ite)

theorem Keep.State_glEval {μ : Mark} (s : State) (amp phase : Int) (h_s : μ.ok s) : μ.ok (State.glEval s amp phase) := by
  unfold State.glEval
  try dsimp only
  repeat' (first | with_reducible assumption | with_reducible apply Keep.set | with_reducible apply Keep.State_glShow | with_reducible apply Keep.State_bump | with_reducible apply Keep.ite | with_reducible apply Keep.mk)

theorem Keep.c_execGleanerPing {μ : Mark} (amp phase : Nat) (s : State) (h_s : μ.ok s) : μ.okOut (execGleanerPing amp phase s) := by
  unfold execGleanerPing
  try dsimp only
  repeat' (first | with_reducible assumption | with_reducible apply Keep.set | with_reducible apply Keep.State_bump | with_reducible apply Keep.State_tagGuard | with_reducible apply Keep.State_glEval | with_reducible apply Keep.next | with_reducible apply Keep.ite | with_reducible apply Keep.iteO)

theorem Keep.c_execGlArm {μ : Mark} (s : State) (h_s : μ.ok s) : μ.okOut (execGlArm s) := by
  unfold execGlArm
  try dsimp only
  repeat' (first | with_reducible assumption | with_reducible apply Keep.set | with_reducible apply Keep.next | with_reducible apply Keep.ite | with_reducible apply Keep.iteO | with_reducible apply Keep.mk)

theorem Keep.c_execGlResume {μ : Mark} (s : State) (h_s : μ.ok s) : μ.okOut (execGlResume s) := by
  unfold execGlResume
  try dsimp only
  repeat' (first | with_reducible assumption | with_reducible apply Keep.set | with_reducible apply Keep.next | with_reducible apply Keep.ite | with_reducible apply Keep.iteO)

theorem Keep.c_execGlRebase {μ : Mark} (s : State) (h_s : μ.ok s) : μ.okOut (execGlRebase s) := by
  unfold execGlRebase
  try dsimp only
  repeat' (first | with_reducible assumption | with_reducible apply Keep.set | with_reducible apply Keep.next | with_reducible apply Keep.ite | with_reducible apply Keep.iteO | with_reducible apply Keep.mk)

theorem Keep.c_execGlStop {μ : Mark} (s : State) (h_s : μ.ok s) : μ.okOut (execGlStop s) := by
  unfold execGlStop
  try dsimp only
  repeat' (first | with_reducible assumption | with_reducible apply Keep.State_glOff | with_reducible apply Keep.next | with_reducible apply Keep.ite | with_reducible apply Keep.iteO)

end Sys2Proof.Machine
end

