-- ==== Sys2Proof/Laws/KeepSysCmd.lean ====
section
/-! SUPPORT. What the operations of Machine/SysCmd.lean keep of a mark. -/

namespace Sys2Proof.Machine

open Sys2Proof

set_option linter.unreachableTactic false
set_option linter.unusedTactic false

theorem Keep.State_swiSet {μ : Mark} (s : State) (v : Nat) (h_s : μ.ok s) : μ.ok (State.swiSet s v) := by
  unfold State.swiSet
  try dsimp only
  repeat' (first | with_reducible assumption | intro _ | with_reducible apply Keep.set | with_reducible apply Keep.when | with_reducible apply Keep.State_wakeP | with_reducible apply Keep.ite)

theorem Keep.c_execSwiSet {μ : Mark} (_m : Master) (v : Nat) (s : State) (h_s : μ.ok s) : μ.okOut (execSwiSet _m v s) := by
  unfold execSwiSet
  try dsimp only
  repeat' (first | with_reducible assumption | with_reducible apply Keep.State_swiSet | with_reducible apply Keep.next | with_reducible apply Keep.ite | with_reducible apply Keep.iteO)

theorem Keep.State_hostIrq {μ : Mark} (s : State) (v : Nat) (h_s : μ.ok s) : μ.ok (State.hostIrq s v) := by
  unfold State.hostIrq
  try dsimp only
  repeat' (first | with_reducible assumption | with_reducible apply Keep.set | with_reducible apply Keep.ite)

theorem Keep.c_execHostIrqSet {μ : Mark} (_m : Master) (s : State) (h_s : μ.ok s) : μ.okOut (execHostIrqSet _m s) := by
  unfold execHostIrqSet
  try dsimp only
  repeat' (first | with_reducible assumption | with_reducible apply Keep.State_hostIrq | with_reducible apply Keep.next | with_reducible apply Keep.ite | with_reducible apply Keep.iteO)

theorem Keep.c_execHostIrqClr {μ : Mark} (_m : Master) (s : State) (h_s : μ.ok s) : μ.okOut (execHostIrqClr _m s) := by
  unfold execHostIrqClr
  try dsimp only
  repeat' (first | with_reducible assumption | with_reducible apply Keep.State_hostIrq | with_reducible apply Keep.next | with_reducible apply Keep.ite | with_reducible apply Keep.iteO)

theorem Keep.c_execUptMatch {μ : Mark} (s : State) (h_s : μ.ok s) : μ.okOut (execUptMatch s) := by
  unfold execUptMatch
  try dsimp only
  repeat' (first | with_reducible assumption | with_reducible apply Keep.set | with_reducible apply Keep.State_wakeP | with_reducible apply Keep.next | with_reducible apply Keep.ite | with_reducible apply Keep.iteO)

theorem Keep.State_wdtLoad {μ : Mark} (s : State) (n : Nat) (h_s : μ.ok s) : μ.ok (State.wdtLoad s n) := by
  unfold State.wdtLoad
  try dsimp only
  repeat' (first | with_reducible assumption | with_reducible apply Keep.set | with_reducible apply Keep.ite | with_reducible apply Keep.mk)

theorem Keep.State_wdtHold {μ : Mark} (s : State) (n : Nat) (h_s : μ.ok s) : μ.ok (State.wdtHold s n) := by
  unfold State.wdtHold
  try dsimp only
  repeat' (first | with_reducible assumption | with_reducible apply Keep.set | with_reducible apply Keep.ite | with_reducible apply Keep.mk)

theorem Keep.State_wdtCtrl {μ : Mark} (s : State) (n : Nat) (m : Master) (v : Nat) (h_s : μ.ok s) : μ.ok (State.wdtCtrl s n m v) := by
  unfold State.wdtCtrl
  try dsimp only
  repeat' (first | with_reducible assumption | with_reducible apply Keep.set | with_reducible apply Keep.State_wdtHold | with_reducible apply Keep.State_wdtLoad | with_reducible apply Keep.ite)

theorem Keep.c_execWdtEnable {μ : Mark} (m : Master) (n : Nat) (s : State) (h_s : μ.ok s) : μ.okOut (execWdtEnable m n s) := by
  unfold execWdtEnable
  try dsimp only
  repeat' (first | with_reducible assumption | with_reducible apply Keep.set | with_reducible apply Keep.State_wdtLoad | with_reducible apply Keep.next | with_reducible apply Keep.ite | with_reducible apply Keep.iteO)

theorem Keep.State_wdtKick {μ : Mark} (s : State) (n : Nat) (m : Master) (key : Nat) (h_s : μ.ok s) : μ.ok (State.wdtKick s n m key) := by
  unfold State.wdtKick
  try dsimp only
  repeat' (first | with_reducible assumption | with_reducible apply Keep.set | with_reducible apply Keep.State_wdtLoad | with_reducible apply Keep.ite)

theorem Keep.c_execWdtKick {μ : Mark} (m : Master) (n key : Nat) (s : State) (h_s : μ.ok s) : μ.okOut (execWdtKick m n key s) := by
  unfold execWdtKick
  try dsimp only
  repeat' (first | with_reducible assumption | with_reducible apply Keep.State_wdtKick | with_reducible apply Keep.next | with_reducible apply Keep.ite | with_reducible apply Keep.iteO)

theorem Keep.c_execWdtWarn {μ : Mark} (n : Nat) (s : State) (h_s : μ.ok s) : μ.okOut (execWdtWarn n s) := by
  unfold execWdtWarn
  try dsimp only
  repeat' (first | with_reducible assumption | with_reducible apply Keep.set | with_reducible apply Keep.next | with_reducible apply Keep.ite | with_reducible apply Keep.iteO)

theorem Keep.State_tmrHold {μ : Mark} (s : State) (n : Nat) (h_s : μ.ok s) : μ.ok (State.tmrHold s n) := by
  unfold State.tmrHold
  try dsimp only
  repeat' (first | with_reducible assumption | with_reducible apply Keep.set | with_reducible apply Keep.ite)

theorem Keep.State_debug {μ : Mark} (s : State) (core : Nat) (halt : Bool) (h_s : μ.ok s) : μ.ok (State.debug s core halt) := by
  unfold State.debug
  try dsimp only
  repeat' (first | with_reducible assumption | intro _ | with_reducible apply Keep.forN | with_reducible apply Keep.State_tmrHold | with_reducible apply Keep.State_wdtHold | with_reducible apply Keep.ite | with_reducible apply Keep.mk)

theorem Keep.c_execDebugHalt {μ : Mark} (core : Nat) (s : State) (h_s : μ.ok s) : μ.okOut (execDebugHalt core s) := by
  unfold execDebugHalt
  try dsimp only
  repeat' (first | with_reducible assumption | with_reducible apply Keep.State_sourceEvent | with_reducible apply Keep.State_debug | with_reducible apply Keep.next | with_reducible apply Keep.ite | with_reducible apply Keep.iteO)

theorem Keep.c_execDebugRelease {μ : Mark} (core : Nat) (s : State) (h_s : μ.ok s) : μ.okOut (execDebugRelease core s) := by
  unfold execDebugRelease
  try dsimp only
  repeat' (first | with_reducible assumption | with_reducible apply Keep.State_debug | with_reducible apply Keep.next | with_reducible apply Keep.ite | with_reducible apply Keep.iteO)

end Sys2Proof.Machine
end

