-- ==== Sys2Proof/Laws/KeepRegW.lean ====
section
/-! SUPPORT. What the operations of Machine/RegW.lean keep of a mark. -/

namespace Sys2Proof.Machine

open Sys2Proof

set_option linter.unreachableTactic false
set_option linter.unusedTactic false

theorem Keep.State_coreWrite {μ : Mark} (s : State) (m : Master) (fs : List (Fld × Nat)) (v : Nat) (h_s : μ.ok s) : μ.ok (State.coreWrite s m fs v) := by
  unfold State.coreWrite
  try dsimp only
  repeat' (first | with_reducible assumption | with_reducible apply Keep.State_plainWrite | with_reducible apply Keep.ite)

theorem Keep.State_domCtrl {μ : Mark} (s : State) (m : Master) (v : Nat) (h_s : μ.ok s) : μ.ok (State.domCtrl s m v) := by
  unfold State.domCtrl
  try dsimp only
  repeat' (first | with_reducible assumption | with_reducible apply Keep.set | with_reducible apply Keep.State_radioOn | with_reducible apply Keep.State_radioOff | with_reducible apply Keep.State_hfrPower | with_reducible apply Keep.State_setBit | with_reducible apply Keep.ite)

theorem Keep.c_execDomCtrlWrite {μ : Mark} (m : Master) (v : Nat) (s : State) (h_s : μ.ok s) : μ.okOut (execDomCtrlWrite m v s) := by
  unfold execDomCtrlWrite
  try dsimp only
  repeat' (first | with_reducible assumption | with_reducible apply Keep.State_domCtrl | with_reducible apply Keep.next | with_reducible apply Keep.ite | with_reducible apply Keep.iteO)

theorem Keep.State_clkCmd {μ : Mark} (s : State) (m : Master) (v : Nat) (h_s : μ.ok s) : μ.ok (State.clkCmd s m v) := by
  unfold State.clkCmd
  try dsimp only
  repeat' (first | with_reducible assumption | with_reducible apply Keep.State_clkCmdBypass | with_reducible apply Keep.State_clkCmdReturn | with_reducible apply Keep.State_slowRetry | with_reducible apply Keep.ite)

theorem Keep.State_clkOut {μ : Mark} (s : State) (n : Nat) (m : Master) (v : Nat) (h_s : μ.ok s) : μ.ok (State.clkOut s n m v) := by
  unfold State.clkOut
  try dsimp only
  repeat' (first | with_reducible assumption | with_reducible apply Keep.set | with_reducible apply Keep.State_outEnWrite | with_reducible apply Keep.State_divWrite | with_reducible apply Keep.ite)

theorem Keep.State_tmrCmd {μ : Mark} (s : State) (n v : Nat) (h_s : μ.ok s) : μ.ok (State.tmrCmd s n v) := by
  unfold State.tmrCmd
  try dsimp only
  repeat' (first | with_reducible assumption | with_reducible apply Keep.State_tmrArm | with_reducible apply Keep.State_tmrCmdStart | with_reducible apply Keep.State_tmrStop | with_reducible apply Keep.ite)

theorem Keep.State_tmrCtrl {μ : Mark} (s : State) (n : Nat) (fs : List (Fld × Nat)) (v : Nat) (h_s : μ.ok s) : μ.ok (State.tmrCtrl s n fs v) := by
  unfold State.tmrCtrl
  try dsimp only
  repeat' (first | with_reducible assumption | with_reducible apply Keep.set | with_reducible apply Keep.State_plainWrite | with_reducible apply Keep.State_tmrHold | with_reducible apply Keep.ite)

theorem Keep.State_rgeCtrl {μ : Mark} (s : State) (m : Master) (v : Nat) (h_s : μ.ok s) : μ.ok (State.rgeCtrl s m v) := by
  unfold State.rgeCtrl
  try dsimp only
  repeat' (first | with_reducible assumption | with_reducible apply Keep.set | with_reducible apply Keep.State_rfEnWrite | with_reducible apply Keep.ite)

theorem Keep.State_hfrCtrl {μ : Mark} (s : State) (fs : List (Fld × Nat)) (v : Nat) (h_s : μ.ok s) : μ.ok (State.hfrCtrl s fs v) := by
  unfold State.hfrCtrl
  try dsimp only
  repeat' (first | with_reducible assumption | with_reducible apply Keep.State_plainWrite | with_reducible apply Keep.State_glOff | with_reducible apply Keep.ite)

theorem Keep.State_glCmd {μ : Mark} (s : State) (v : Nat) (h_s : μ.ok s) : μ.ok (State.glCmd s v) := by
  unfold State.glCmd
  try dsimp only
  repeat' (first | with_reducible assumption | intro _ | with_reducible apply Keep.after | with_reducible apply Keep.c_execGlArm | with_reducible apply Keep.c_execGlResume | with_reducible apply Keep.c_execGlRebase | with_reducible apply Keep.c_execGlStop | with_reducible apply Keep.ite)

theorem Keep.State_hftCtrl {μ : Mark} (s : State) (fs : List (Fld × Nat)) (v : Nat) (h_s : μ.ok s) : μ.ok (State.hftCtrl s fs v) := by
  unfold State.hftCtrl
  try dsimp only
  repeat' (first | with_reducible assumption | intro _ | with_reducible apply Keep.set | with_reducible apply Keep.when | with_reducible apply Keep.State_plainWrite | with_reducible apply Keep.State_tagDrop | with_reducible apply Keep.State_passClear | with_reducible apply Keep.ite)

theorem Keep.State_wcmd {μ : Mark} (s : State) (m : Master) (fs : List (Fld × Nat)) (v : Nat) (h_s : μ.ok s) : μ.ok (State.wcmd s m fs v) := by
  unfold State.wcmd
  try dsimp only
  repeat' (first | with_reducible assumption | with_reducible apply Keep.State_plainWrite | with_reducible apply Keep.State_wiredGo | with_reducible apply Keep.State_wiredDone | with_reducible apply Keep.ite)

theorem Keep.State_pcmd {μ : Mark} (s : State) (m : Master) (v : Nat) (h_s : μ.ok s) : μ.ok (State.pcmd s m v) := by
  unfold State.pcmd
  try dsimp only
  repeat' (first | with_reducible assumption | with_reducible apply Keep.set | with_reducible apply Keep.after | with_reducible apply Keep.c_execPcmdReject | with_reducible apply Keep.c_execPcmdRespond | with_reducible apply Keep.ite)

theorem Keep.State_fsCtrl {μ : Mark} (s : State) (m : Master) (fs : List (Fld × Nat)) (v : Nat) (h_s : μ.ok s) : μ.ok (State.fsCtrl s m fs v) := by
  unfold State.fsCtrl
  try dsimp only
  repeat' (first | with_reducible assumption | with_reducible apply Keep.set | with_reducible apply Keep.State_plainWrite | with_reducible apply Keep.State_lampKick | with_reducible apply Keep.State_fsEngage | with_reducible apply Keep.State_fsClr | with_reducible apply Keep.ite)

theorem Keep.State_grnCtrl {μ : Mark} (s : State) (fs : List (Fld × Nat)) (v : Nat) (h_s : μ.ok s) : μ.ok (State.grnCtrl s fs v) := by
  unfold State.grnCtrl
  try dsimp only
  repeat' (first | with_reducible assumption | intro _ | with_reducible apply Keep.State_plainWrite | with_reducible apply Keep.State_grnEnable | with_reducible apply Keep.State_grnPause | with_reducible apply Keep.ite)

theorem Keep.State_calCmd {μ : Mark} (s : State) (m : Master) (v : Nat) (h_s : μ.ok s) : μ.ok (State.calCmd s m v) := by
  unfold State.calCmd
  try dsimp only
  repeat' (first | with_reducible assumption | with_reducible apply Keep.set | with_reducible apply Keep.fresh | with_reducible apply Keep.after | with_reducible apply Keep.c_execCalAbort | with_reducible apply Keep.State_calRun | with_reducible apply Keep.State_calCmdCommit | with_reducible apply Keep.ite | with_reducible apply Keep.iteP)

theorem Keep.State_bootPtrWrite {μ : Mark} (s : State) (m : Master) (fs : List (Fld × Nat)) (v : Nat) (h_s : μ.ok s) : μ.ok (State.bootPtrWrite s m fs v) := by
  unfold State.bootPtrWrite
  try dsimp only
  repeat' (first | with_reducible assumption | with_reducible apply Keep.State_plainWrite | with_reducible apply Keep.ite | with_reducible apply Keep.mk)

theorem Keep.State_irqCfgWrite {μ : Mark} (s : State) (v : Nat) (h_s : μ.ok s) : μ.ok (State.irqCfgWrite s v) := by
  unfold State.irqCfgWrite
  try dsimp only
  repeat' (first | with_reducible assumption | with_reducible apply Keep.set | with_reducible apply Keep.ite | split | with_reducible refine Keep.fromSome (by with_reducible assumption) ?_ | with_reducible refine Keep.fromInr (by with_reducible assumption) ?_ | with_reducible refine Keep.fromInl (by with_reducible assumption) ?_ | with_reducible refine Keep.fromPair (by with_reducible assumption) ?_ | with_reducible refine Keep.fromPair1 (by with_reducible assumption) ?_ | with_reducible apply Keep.mk)

theorem Keep.State_hfCmd {μ : Mark} (s : State) (fs : List (Fld × Nat)) (v : Nat) (h_s : μ.ok s) : μ.ok (State.hfCmd s fs v) := by
  unfold State.hfCmd
  try dsimp only
  repeat' (first | with_reducible assumption | with_reducible apply Keep.State_plainWrite | with_reducible apply Keep.State_hftEnd | with_reducible apply Keep.State_hfrEnd | with_reducible apply Keep.State_hfLeaseGo | with_reducible apply Keep.ite)

theorem Keep.State_nodeHook {μ : Mark} (s : State) (fs : List (Fld × Nat)) (m : Master) (a v : Nat) (h_s : μ.ok s) : μ.okOpt (State.nodeHook s fs m a v) := by
  unfold State.nodeHook
  try dsimp only
  repeat' (first | with_reducible assumption | intro _ | with_reducible apply Keep.set | with_reducible apply Keep.forL | with_reducible apply Keep.after | with_reducible apply Keep.State_coreWrite | with_reducible apply Keep.State_irqCfgWrite | with_reducible apply Keep.State_swiSet | with_reducible apply Keep.State_wdtCtrl | with_reducible apply Keep.State_plainWrite | with_reducible apply Keep.State_wdtKick | with_reducible apply Keep.State_clkSpread | with_reducible apply Keep.State_multWrite | with_reducible apply Keep.State_clkCmd | with_reducible apply Keep.State_clkOut | with_reducible apply Keep.State_domCtrl | with_reducible apply Keep.State_seqCmd | with_reducible apply Keep.State_seqEvent | with_reducible apply Keep.State_seqStart | with_reducible apply Keep.State_seqStop | with_reducible apply Keep.State_hfCmd | with_reducible apply Keep.State_tmrStart | with_reducible apply Keep.State_tmrStop | with_reducible apply Keep.State_tmrCtrl | with_reducible apply Keep.State_tmrCmd | with_reducible apply Keep.State_rgeCtrl | with_reducible apply Keep.State_killReg | with_reducible apply Keep.State_killRegClear | with_reducible apply Keep.State_hfrCtrl | with_reducible apply Keep.c_execFtDataAccess | with_reducible apply Keep.State_glCmd | with_reducible apply Keep.State_hftCtrl | with_reducible apply Keep.State_wcmd | with_reducible apply Keep.State_pcmd | with_reducible apply Keep.State_levelWrite | with_reducible apply Keep.State_curveWrite | with_reducible apply Keep.State_fsCtrl | with_reducible apply Keep.State_daliCmd | with_reducible apply Keep.State_indCmd | with_reducible apply Keep.State_cacheInv | with_reducible apply Keep.State_xwinWrite | with_reducible apply Keep.State_rcfgWrite | with_reducible apply Keep.State_regionWrite | with_reducible apply Keep.State_grnCtrl | with_reducible apply Keep.State_grnCmdWrite | with_reducible apply Keep.State_nrTail | with_reducible apply Keep.State_hostIrq | with_reducible apply Keep.State_calCmd | with_reducible apply Keep.State_bootPtrWrite | with_reducible apply Keep.ite | with_reducible apply Keep.orElse | with_reducible apply Keep.map | with_reducible apply Keep.iteOpt | with_reducible apply Keep.optSome | with_reducible apply Keep.optNone | with_reducible apply Keep.mk)

theorem Keep.State_wordWrite {μ : Mark} (s : State) (b : Blk) (m : Master) (a v : Nat) (h_s : μ.ok s) : μ.ok (State.wordWrite s b m a v) := by
  unfold State.wordWrite
  try dsimp only
  repeat' (first | with_reducible assumption | with_reducible apply Keep.State_portHook | with_reducible apply Keep.State_nodeHook | with_reducible apply Keep.State_plainWrite | with_reducible apply Keep.ite | with_reducible apply Keep.orElse | with_reducible apply Keep.map | with_reducible apply Keep.iteOpt | with_reducible apply Keep.optSome | with_reducible apply Keep.optNone | with_reducible apply Keep.getD)

theorem Keep.State_fieldWrite {μ : Mark} (s : State) (f : Fld) (n : Nat) (m : Master) (v : Nat) (h_s : μ.ok s) : μ.ok (State.fieldWrite s f n m v) := by
  unfold State.fieldWrite
  try dsimp only
  repeat' (first | with_reducible assumption | intro _ | with_reducible apply Keep.State_wordWrite | with_reducible apply Keep.ite | split | with_reducible refine Keep.fromSome (by with_reducible assumption) ?_ | with_reducible refine Keep.fromInr (by with_reducible assumption) ?_ | with_reducible refine Keep.fromInl (by with_reducible assumption) ?_ | with_reducible refine Keep.fromPair (by with_reducible assumption) ?_ | with_reducible refine Keep.fromPair1 (by with_reducible assumption) ?_)

end Sys2Proof.Machine
end

