-- ==== Sys2Proof/Laws/KeepPush.lean ====
section
/-! SUPPORT. What the operations of Machine/Push.lean keep of a mark. -/

namespace Sys2Proof.Machine

open Sys2Proof

set_option linter.unreachableTactic false
set_option linter.unusedTactic false

theorem Keep.State_pushField {μ : Mark} (s : State) (f : Fld) (v : Nat) (h_s : μ.ok s) : μ.ok (State.pushField s f v) := by
  unfold State.pushField
  try dsimp only
  repeat' (first | with_reducible assumption | intro _ | with_reducible apply Keep.forN | with_reducible apply Keep.State_fieldWrite | with_reducible apply Keep.ite)

theorem Keep.State_pushGeometry {μ : Mark} (s : State) (t : List Nat) (h_s : μ.ok s) : μ.ok (State.pushGeometry s t) := by
  unfold State.pushGeometry
  try dsimp only
  repeat' (first | with_reducible assumption | with_reducible apply Keep.State_geoLoad | with_reducible apply Keep.ite | with_reducible apply Keep.mk)

theorem Keep.State_pushBeams {μ : Mark} (s : State) (sh : Nat) (t : List Nat) (h_s : μ.ok s) : μ.ok (State.pushBeams s sh t) := by
  unfold State.pushBeams
  try dsimp only
  repeat' (first | with_reducible assumption | intro _ | with_reducible apply Keep.set | with_reducible apply Keep.forN | with_reducible apply Keep.ite | with_reducible apply Keep.mk)

theorem Keep.State_pushHfTable {μ : Mark} (s : State) (t : List Nat) (h_s : μ.ok s) : μ.ok (State.pushHfTable s t) := by
  unfold State.pushHfTable
  try dsimp only
  repeat' (first | with_reducible assumption | intro _ | with_reducible apply Keep.set | with_reducible apply Keep.State_updHfr | with_reducible apply Keep.foldl | with_reducible apply Keep.ite | with_reducible apply Keep.mk)

theorem Keep.State_pushCurve {μ : Mark} (s : State) (t : List Nat) (h_s : μ.ok s) : μ.ok (State.pushCurve s t) := by
  unfold State.pushCurve
  try dsimp only
  repeat' (first | with_reducible assumption | intro _ | with_reducible apply Keep.set | with_reducible apply Keep.State_updLum | with_reducible apply Keep.foldl | with_reducible apply Keep.ite | with_reducible apply Keep.mk)

theorem Keep.State_pushRegions {μ : Mark} (s : State) (t : List Nat) (h_s : μ.ok s) : μ.ok (State.pushRegions s t) := by
  unfold State.pushRegions
  try dsimp only
  repeat' (first | with_reducible assumption | intro _ | with_reducible apply Keep.forN | with_reducible apply Keep.State_rcfgWrite | with_reducible apply Keep.State_setRegion | with_reducible apply Keep.ite | with_reducible apply Keep.mk)

theorem Keep.State_pushWord {μ : Mark} (s : State) (a v : Nat) (h_s : μ.ok s) : μ.ok (State.pushWord s a v) := by
  unfold State.pushWord
  try dsimp only
  repeat' (first | with_reducible assumption | with_reducible apply Keep.State_wordWrite | with_reducible apply Keep.ite | split | with_reducible refine Keep.fromSome (by with_reducible assumption) ?_ | with_reducible refine Keep.fromInr (by with_reducible assumption) ?_ | with_reducible refine Keep.fromInl (by with_reducible assumption) ?_ | with_reducible refine Keep.fromPair (by with_reducible assumption) ?_ | with_reducible refine Keep.fromPair1 (by with_reducible assumption) ?_)

theorem Keep.State_pushSpecial {μ : Mark} (s : State) (i sub : Nat) (t : List Nat) (h_s : μ.ok s) : μ.ok (State.pushSpecial s i sub t) := by
  unfold State.pushSpecial
  try dsimp only
  repeat' (first | with_reducible assumption | intro _ | with_reducible apply Keep.set | with_reducible apply Keep.forN | with_reducible apply Keep.State_atbSource | with_reducible apply Keep.State_pushField | with_reducible apply Keep.State_atbStandaloneClear | with_reducible apply Keep.State_clkSpread | with_reducible apply Keep.State_fieldWrite | with_reducible apply Keep.State_pushGeometry | with_reducible apply Keep.State_pushBeams | with_reducible apply Keep.State_pushHfTable | with_reducible apply Keep.State_pushCurve | with_reducible apply Keep.State_pushWord | with_reducible apply Keep.State_xwinWrite | with_reducible apply Keep.State_pushRegions | with_reducible apply Keep.ite)

theorem Keep.State_push {μ : Mark} (s : State) (i sub : Nat) (h_s : μ.ok s) : μ.ok (State.push s i sub) := by
  unfold State.push
  try dsimp only
  repeat' (first | with_reducible assumption | intro _ | with_reducible apply Keep.forL | with_reducible apply Keep.State_pushField | with_reducible apply Keep.State_pushSpecial | with_reducible apply Keep.ite | split | with_reducible refine Keep.fromSome (by with_reducible assumption) ?_ | with_reducible refine Keep.fromInr (by with_reducible assumption) ?_ | with_reducible refine Keep.fromInl (by with_reducible assumption) ?_ | with_reducible refine Keep.fromPair (by with_reducible assumption) ?_ | with_reducible refine Keep.fromPair1 (by with_reducible assumption) ?_)

theorem Keep.State_pushAll {μ : Mark} (s : State) (h_s : μ.ok s) : μ.ok (State.pushAll s) := by
  unfold State.pushAll
  try dsimp only
  repeat' (first | with_reducible assumption | intro _ | with_reducible apply Keep.forL | with_reducible apply Keep.State_push | with_reducible apply Keep.ite)

theorem Keep.State_pushRadio {μ : Mark} (s : State) (h_s : μ.ok s) : μ.ok (State.pushRadio s) := by
  unfold State.pushRadio
  try dsimp only
  repeat' (first | with_reducible assumption | intro _ | with_reducible apply Keep.forL | with_reducible apply Keep.State_push | with_reducible apply Keep.ite)

end Sys2Proof.Machine
end

