-- ==== Sys2Proof/Laws/KeepView.lean ====
section
/-! SUPPORT. What the operations of Machine/View.lean keep of a mark. -/

namespace Sys2Proof.Machine

open Sys2Proof

set_option linter.unreachableTactic false
set_option linter.unusedTactic false

theorem Keep.State_irqTake {μ : Mark} (s : State) (h_s : μ.ok s) : μ.ok (State.irqTake s) := by
  unfold State.irqTake
  try dsimp only
  repeat' (first | with_reducible assumption | with_reducible apply Keep.set | with_reducible apply Keep.ite | split | with_reducible refine Keep.fromSome (by with_reducible assumption) ?_ | with_reducible refine Keep.fromInr (by with_reducible assumption) ?_ | with_reducible refine Keep.fromInl (by with_reducible assumption) ?_ | with_reducible refine Keep.fromPair (by with_reducible assumption) ?_ | with_reducible refine Keep.fromPair1 (by with_reducible assumption) ?_ | with_reducible apply Keep.mk)

theorem Keep.State_nodeReadFx {μ : Mark} (s : State) (m : Master) (a : Nat) (h_s : μ.ok s) : μ.okOpt (State.nodeReadFx s m a) := by
  unfold State.nodeReadFx
  try dsimp only
  repeat' (first | with_reducible assumption | intro _ | with_reducible apply Keep.set | with_reducible apply Keep.fresh | with_reducible apply Keep.State_rgePop | with_reducible apply Keep.State_latch | with_reducible apply Keep.State_curveNext | with_reducible apply Keep.ite | with_reducible apply Keep.iteP | with_reducible apply Keep.orElse | with_reducible apply Keep.map | with_reducible apply Keep.iteOpt | with_reducible apply Keep.optSome | with_reducible apply Keep.optNone | with_reducible apply Keep.mk)

end Sys2Proof.Machine
end

