-- ==== Sys2Proof/Laws/KeepDict.lean ====
section
/-! SUPPORT. What the operations of Machine/Dict.lean keep of a mark. -/

namespace Sys2Proof.Machine

open Sys2Proof

set_option linter.unreachableTactic false
set_option linter.unusedTactic false

theorem Keep.State_objStore {μ : Mark} (s : State) (i sub : Nat) (v : List Nat) (h_s : μ.ok s) : μ.ok (State.objStore s i sub v) := by
  unfold State.objStore
  try dsimp only
  repeat' (first | with_reducible assumption | with_reducible apply Keep.State_setObj | with_reducible apply Keep.State_push | with_reducible apply Keep.ite)

end Sys2Proof.Machine
end

