-- ==== Sys2Proof/Laws/KeepBoot.lean ====
section
/-! SUPPORT. What the operations of Machine/Boot.lean keep of a mark. -/

namespace Sys2Proof.Machine

open Sys2Proof

set_option linter.unreachableTactic false
set_option linter.unusedTactic false

theorem Keep.State_wipeRetention {μ : Mark} (s : State) (h_s : μ.ok s) : μ.ok (State.wipeRetention s) := by
  unfold State.wipeRetention
  try dsimp only
  repeat' (first | with_reducible assumption | with_reducible apply Keep.set | with_reducible apply Keep.wipe | with_reducible apply Keep.ite)

theorem Keep.State_wipeRecord {μ : Mark} (s : State) (r : Nat) (h_s : μ.ok s) : μ.ok (State.wipeRecord s r) := by
  unfold State.wipeRecord
  try dsimp only
  repeat' (first | with_reducible assumption | intro _ | with_reducible apply Keep.set | with_reducible apply Keep.State_updHft | with_reducible apply Keep.ite | with_reducible apply Keep.mk)

theorem Keep.State_wipeSite {μ : Mark} (s : State) (h_s : μ.ok s) : μ.ok (State.wipeSite s) := by
  unfold State.wipeSite
  try dsimp only
  repeat' (first | with_reducible assumption | intro _ | with_reducible apply Keep.forL | with_reducible apply Keep.State_wipeRecord | with_reducible apply Keep.State_clearObj | with_reducible apply Keep.State_wipeRetention | with_reducible apply Keep.ite | with_reducible apply Keep.mk)

theorem Keep.State_lcWipe {μ : Mark} (s : State) (old new : Nat) (h_s : μ.ok s) : μ.ok (State.lcWipe s old new) := by
  unfold State.lcWipe
  try dsimp only
  repeat' (first | with_reducible assumption | intro _ | with_reducible apply Keep.forN | with_reducible apply Keep.State_wipeSite | with_reducible apply Keep.State_clearObj | with_reducible apply Keep.State_wipeRetention | with_reducible apply Keep.ite | with_reducible apply Keep.mk)

theorem Keep.State_lcFinish {μ : Mark} (s : State) (h_s : μ.ok s) : μ.ok (State.lcFinish s) := by
  unfold State.lcFinish
  try dsimp only
  repeat' (first | with_reducible assumption | with_reducible apply Keep.State_lcWipe | with_reducible apply Keep.State_logP | with_reducible apply Keep.ite | split | with_reducible refine Keep.fromSome (by with_reducible assumption) ?_ | with_reducible refine Keep.fromInr (by with_reducible assumption) ?_ | with_reducible refine Keep.fromInl (by with_reducible assumption) ?_ | with_reducible refine Keep.fromPair (by with_reducible assumption) ?_ | with_reducible refine Keep.fromPair1 (by with_reducible assumption) ?_ | with_reducible apply Keep.mk)

theorem Keep.State_bootPtrLoad {μ : Mark} (s : State) (h_s : μ.ok s) : μ.ok (State.bootPtrLoad s) := by
  unfold State.bootPtrLoad
  try dsimp only
  repeat' (first | with_reducible assumption | with_reducible apply Keep.set | with_reducible apply Keep.ite)

theorem Keep.State_bootPtrTo {μ : Mark} (s : State) (v : Nat) (h_s : μ.ok s) : μ.ok (State.bootPtrTo s v) := by
  unfold State.bootPtrTo
  try dsimp only
  repeat' (first | with_reducible assumption | with_reducible apply Keep.State_bootPtrLoad | with_reducible apply Keep.ite | with_reducible apply Keep.mk)

theorem Keep.State_bootTrial {μ : Mark} (s : State) (h_s : μ.ok s) : μ.ok (State.bootTrial s) := by
  unfold State.bootTrial
  try dsimp only
  repeat' (first | with_reducible assumption | with_reducible apply Keep.State_bootPtrLoad | with_reducible apply Keep.State_bootPtrTo | with_reducible apply Keep.ite)

theorem Keep.State_bootVotes {μ : Mark} (s : State) (h_s : μ.ok s) : μ.ok (State.bootVotes s) := by
  unfold State.bootVotes
  try dsimp only
  repeat' (first | with_reducible assumption | intro _ | with_reducible apply Keep.set | with_reducible apply Keep.State_lcFinish | with_reducible apply Keep.State_bootTrial | with_reducible apply Keep.State_fsEngage | with_reducible apply Keep.ite | with_reducible apply Keep.mk)

theorem Keep.State_bootClocks {μ : Mark} (s : State) (h_s : μ.ok s) : μ.ok (State.bootClocks s) := by
  unfold State.bootClocks
  try dsimp only
  repeat' (first | with_reducible assumption | intro _ | with_reducible apply Keep.set | with_reducible apply Keep.fresh | with_reducible apply Keep.State_outEn | with_reducible apply Keep.State_auxGate | with_reducible apply Keep.ite | with_reducible apply Keep.iteP | with_reducible apply Keep.mkMem | with_reducible apply Keep.mkRegs | with_reducible apply Keep.mkRegsFilter | with_reducible apply Keep.mkReset | with_reducible apply Keep.mk)

theorem Keep.State_bootReport {μ : Mark} (s : State) (fw : Option Nat) (pair : Option (Nat × Nat)) (h_s : μ.ok s) : μ.ok (State.bootReport s fw pair) := by
  unfold State.bootReport
  try dsimp only
  repeat' (first | with_reducible assumption | intro _ | with_reducible apply Keep.set | with_reducible apply Keep.forL | with_reducible apply Keep.State_logP | with_reducible apply Keep.ite | with_reducible apply Keep.getD)

theorem Keep.State_bootProfile {μ : Mark} (s : State) (h_s : μ.ok s) : μ.ok (State.bootProfile s) := by
  unfold State.bootProfile
  try dsimp only
  repeat' (first | with_reducible assumption | with_reducible apply Keep.set | with_reducible apply Keep.ite | with_reducible apply Keep.mk)

theorem Keep.State_calLoad {μ : Mark} (s : State) (bank : Nat) (h_s : μ.ok s) : μ.ok (State.calLoad s bank) := by
  unfold State.calLoad
  try dsimp only
  repeat' (first | with_reducible assumption | intro _ | with_reducible apply Keep.set | with_reducible apply Keep.State_setGuard | with_reducible apply Keep.ite | with_reducible apply Keep.mk)

theorem Keep.State_calNone {μ : Mark} (s : State) (h_s : μ.ok s) : μ.ok (State.calNone s) := by
  unfold State.calNone
  try dsimp only
  repeat' (first | with_reducible assumption | with_reducible apply Keep.State_setCal | with_reducible apply Keep.State_setGuard | with_reducible apply Keep.ite | with_reducible apply Keep.mk)

theorem Keep.State_bootCal {μ : Mark} (s : State) (h_s : μ.ok s) : μ.ok (State.bootCal s) := by
  unfold State.bootCal
  try dsimp only
  repeat' (first | with_reducible assumption | intro _ | with_reducible apply Keep.set | with_reducible apply Keep.State_calLoad | with_reducible apply Keep.State_bump | with_reducible apply Keep.State_logP | with_reducible apply Keep.State_calNone | with_reducible apply Keep.ite | with_reducible apply Keep.mk)

theorem Keep.State_odLoad {μ : Mark} (s : State) (h_s : μ.ok s) : μ.ok (State.odLoad s) := by
  unfold State.odLoad
  try dsimp only
  repeat' (first | with_reducible assumption | intro _ | with_reducible apply Keep.set | with_reducible apply Keep.foldl | with_reducible apply Keep.ite | with_reducible apply Keep.mk)

theorem Keep.State_recObj {μ : Mark} (s : State) (i sub : Nat) (v : List Nat) (h_s : μ.ok s) : μ.ok (State.recObj s i sub v) := by
  unfold State.recObj
  try dsimp only
  repeat' (first | with_reducible assumption | with_reducible apply Keep.State_objStore | with_reducible apply Keep.ite | split | with_reducible refine Keep.fromSome (by with_reducible assumption) ?_ | with_reducible refine Keep.fromInr (by with_reducible assumption) ?_ | with_reducible refine Keep.fromInl (by with_reducible assumption) ?_ | with_reducible refine Keep.fromPair (by with_reducible assumption) ?_ | with_reducible refine Keep.fromPair1 (by with_reducible assumption) ?_)

theorem Keep.State_recApply {μ : Mark} (s : State) (r : Nat) (h_s : μ.ok s) : μ.ok (State.recApply s r) := by
  unfold State.recApply
  try dsimp only
  repeat' (first | with_reducible assumption | intro _ | with_reducible apply Keep.forL | with_reducible apply Keep.State_recObj | with_reducible apply Keep.ite)

theorem Keep.State_fwStart {μ : Mark} (s : State) (h_s : μ.ok s) : μ.ok (State.fwStart s) := by
  unfold State.fwStart
  try dsimp only
  repeat' (first | with_reducible assumption | intro _ | with_reducible apply Keep.forL | with_reducible apply Keep.State_setBit | with_reducible apply Keep.State_outEn | with_reducible apply Keep.State_auxGate | with_reducible apply Keep.State_odLoad | with_reducible apply Keep.State_recApply | with_reducible apply Keep.State_setObj | with_reducible apply Keep.State_pushAll | with_reducible apply Keep.State_levelTo | with_reducible apply Keep.State_ctrStart | with_reducible apply Keep.ite | split | with_reducible refine Keep.fromSome (by with_reducible assumption) ?_ | with_reducible refine Keep.fromInr (by with_reducible assumption) ?_ | with_reducible refine Keep.fromInl (by with_reducible assumption) ?_ | with_reducible refine Keep.fromPair (by with_reducible assumption) ?_ | with_reducible refine Keep.fromPair1 (by with_reducible assumption) ?_)

theorem Keep.State_stayQuiet {μ : Mark} (s : State) (h_s : μ.ok s) : μ.ok (State.stayQuiet s) := by
  unfold State.stayQuiet
  try dsimp only
  repeat' (first | with_reducible assumption | with_reducible apply Keep.set | with_reducible apply Keep.State_setMode | with_reducible apply Keep.ite)

theorem Keep.State_radioStart {μ : Mark} (s : State) (h_s : μ.ok s) : μ.ok (State.radioStart s) := by
  unfold State.radioStart
  try dsimp only
  repeat' (first | with_reducible assumption | with_reducible apply Keep.set | with_reducible apply Keep.State_radioOn | with_reducible apply Keep.State_pushRadio | with_reducible apply Keep.State_hfrPower | with_reducible apply Keep.State_voteClean | with_reducible apply Keep.State_calBootStart | with_reducible apply Keep.ite)

theorem Keep.State_step7 {μ : Mark} (s : State) (h_s : μ.ok s) : μ.ok (State.step7 s) := by
  unfold State.step7
  try dsimp only
  repeat' (first | with_reducible assumption | with_reducible apply Keep.State_stayQuiet | with_reducible apply Keep.State_radioStart | with_reducible apply Keep.State_setBit | with_reducible apply Keep.ite)

theorem Keep.State_bringUp {μ : Mark} (s : State) (h_s : μ.ok s) : μ.ok (State.bringUp s) := by
  unfold State.bringUp
  try dsimp only
  repeat' (first | with_reducible assumption | intro _ | with_reducible apply Keep.set | with_reducible apply Keep.State_bootVotes | with_reducible apply Keep.State_bootClocks | with_reducible apply Keep.State_bootReport | with_reducible apply Keep.State_enterFailsafe | with_reducible apply Keep.State_bootProfile | with_reducible apply Keep.State_bootCal | with_reducible apply Keep.State_fwStart | with_reducible apply Keep.State_setBit | with_reducible apply Keep.State_enterLampKeep | with_reducible apply Keep.State_step7 | with_reducible apply Keep.ite | split | with_reducible refine Keep.fromSome (by with_reducible assumption) ?_ | with_reducible refine Keep.fromInr (by with_reducible assumption) ?_ | with_reducible refine Keep.fromInl (by with_reducible assumption) ?_ | with_reducible refine Keep.fromPair (by with_reducible assumption) ?_ | with_reducible refine Keep.fromPair1 (by with_reducible assumption) ?_ | with_reducible apply Keep.mk)

theorem Keep.State_copiesFresh {μ : Mark} (s : State) (h_s : μ.ok s) : μ.ok (State.copiesFresh s) := by
  unfold State.copiesFresh
  try dsimp only
  repeat' (first | with_reducible assumption | intro _ | with_reducible apply Keep.ite | with_reducible apply Keep.mk)

theorem Keep.State_warmBase {μ : Mark} (s : State) (h_s : μ.ok s) : μ.ok (State.warmBase s) := by
  unfold State.warmBase
  try dsimp only
  repeat' (first | with_reducible assumption | intro _ | with_reducible apply Keep.set | with_reducible apply Keep.State_resetCore | with_reducible apply Keep.State_dropCore | with_reducible apply Keep.State_setBit | with_reducible apply Keep.State_copiesFresh | with_reducible apply Keep.State_killBy | with_reducible apply Keep.ite | with_reducible apply Keep.mkMem | with_reducible apply Keep.mkRegs | with_reducible apply Keep.mkRegsFilter | with_reducible apply Keep.mkReset | with_reducible apply Keep.mk)

theorem Keep.State_lcBegin {μ : Mark} (s : State) (new : Nat) (h_s : μ.ok s) : μ.ok (State.lcBegin s new) := by
  unfold State.lcBegin
  try dsimp only
  repeat' (first | with_reducible assumption | with_reducible apply Keep.ite | with_reducible apply Keep.mk)

theorem Keep.State_rise {μ : Mark} (s : State) (h_s : μ.ok s) : μ.ok (State.rise s) := by
  unfold State.rise
  try dsimp only
  repeat' (first | with_reducible assumption | with_reducible apply Keep.set | with_reducible apply Keep.State_bringUp | with_reducible apply Keep.State_lcBegin | with_reducible apply Keep.State_warmBase | with_reducible apply Keep.ite)

theorem Keep.State_warm {μ : Mark} (s : State) (h_s : μ.ok s) : μ.ok (State.warm s) := by
  unfold State.warm
  try dsimp only
  repeat' (first | with_reducible assumption | with_reducible apply Keep.State_warmBase | with_reducible apply Keep.State_rise | with_reducible apply Keep.ite)

end Sys2Proof.Machine
end

