-- ==== Sys2Proof/Laws/KeepBus.lean ====
section
/-! SUPPORT. What the operations of Machine/Bus.lean keep of a mark. -/

namespace Sys2Proof.Machine

open Sys2Proof

set_option linter.unreachableTactic false
set_option linter.unusedTactic false

theorem Keep.State_censCopy {μ : Mark} (s : State) (m : Master) (a : Nat) (h_s : μ.ok s) : μ.ok (State.censCopy s m a) := by
  unfold State.censCopy
  try dsimp only
  repeat' (first | with_reducible assumption | intro _ | with_reducible apply Keep.State_setObj | with_reducible apply Keep.ite | split | with_reducible refine Keep.fromSome (by with_reducible assumption) ?_ | with_reducible refine Keep.fromInr (by with_reducible assumption) ?_ | with_reducible refine Keep.fromInl (by with_reducible assumption) ?_ | with_reducible refine Keep.fromPair (by with_reducible assumption) ?_ | with_reducible refine Keep.fromPair1 (by with_reducible assumption) ?_)

theorem Keep.State_regRead {μ : Mark} (s : State) (b : Blk) (m : Master) (a w : Nat) (h_s : μ.ok s) : μ.ok (State.regRead s b m a w).2 := by
  unfold State.regRead
  try dsimp only
  repeat' (first | with_reducible assumption | with_reducible apply Keep.State_portReadFx | with_reducible apply Keep.State_nodeReadFx | with_reducible apply Keep.State_rcClear | with_reducible apply Keep.State_censCopy | with_reducible apply Keep.ite | with_reducible apply Keep.iteP | with_reducible apply Keep.orElse | with_reducible apply Keep.map | with_reducible apply Keep.iteOpt | with_reducible apply Keep.optSome | with_reducible apply Keep.optNone | with_reducible apply Keep.getD)

theorem Keep.State_regWrite {μ : Mark} (s : State) (b : Blk) (m : Master) (a w v : Nat) (h_s : μ.ok s) : μ.okOpt (State.regWrite s b m a w v) := by
  unfold State.regWrite
  try dsimp only
  repeat' (first | with_reducible assumption | intro _ | with_reducible apply Keep.State_ibufWrite | with_reducible apply Keep.State_wordWrite | with_reducible apply Keep.State_plainWrite | with_reducible apply Keep.ite | with_reducible apply Keep.orElse | with_reducible apply Keep.map | with_reducible apply Keep.iteOpt | with_reducible apply Keep.optSome | with_reducible apply Keep.optNone)

theorem Keep.State_busFault {μ : Mark} (s : State) (m : Master) (a : Nat) (write : Bool) (h_s : μ.ok s) : μ.ok (State.busFault s m a write).2 := by
  unfold State.busFault
  try dsimp only
  repeat' (first | with_reducible assumption | with_reducible apply Keep.State_busError | with_reducible apply Keep.State_mapError | with_reducible apply Keep.ite | with_reducible apply Keep.iteP)

theorem Keep.State_xipBus {μ : Mark} (s : State) (m : Master) (a w : Nat) (h_s : μ.ok s) : μ.ok (State.xipBus s m a w).2 := by
  unfold State.xipBus
  try dsimp only
  repeat' (first | with_reducible assumption | with_reducible apply Keep.State_respond | with_reducible apply Keep.State_xipRead | with_reducible apply Keep.ite | with_reducible apply Keep.iteP)

theorem Keep.State_busRead1 {μ : Mark} (s : State) (m : Master) (a w : Nat) (h_s : μ.ok s) : μ.ok (State.busRead1 s m a w).2 := by
  unfold State.busRead1
  try dsimp only
  repeat' (first | with_reducible assumption | with_reducible apply Keep.fresh | with_reducible apply Keep.State_busFault | with_reducible apply Keep.State_regRead | with_reducible apply Keep.State_xipBus | with_reducible apply Keep.ite | with_reducible apply Keep.iteP | split | with_reducible refine Keep.fromSome (by with_reducible assumption) ?_ | with_reducible refine Keep.fromInr (by with_reducible assumption) ?_ | with_reducible refine Keep.fromInl (by with_reducible assumption) ?_ | with_reducible refine Keep.fromPair (by with_reducible assumption) ?_ | with_reducible refine Keep.fromPair1 (by with_reducible assumption) ?_)

theorem Keep.State_busWrite1 {μ : Mark} (s : State) (m : Master) (a w v : Nat) (h_s : μ.ok s) : μ.ok (State.busWrite1 s m a w v).2 := by
  unfold State.busWrite1
  try dsimp only
  repeat' (first | with_reducible assumption | with_reducible apply Keep.wrBytes | with_reducible apply Keep.State_busFault | with_reducible apply Keep.State_regWrite | with_reducible apply Keep.State_freshPar | with_reducible apply Keep.ite | with_reducible apply Keep.iteP | split | with_reducible refine Keep.fromSome (by with_reducible assumption) ?_ | with_reducible refine Keep.fromInr (by with_reducible assumption) ?_ | with_reducible refine Keep.fromInl (by with_reducible assumption) ?_ | with_reducible refine Keep.fromPair (by with_reducible assumption) ?_ | with_reducible refine Keep.fromPair1 (by with_reducible assumption) ?_)

theorem Keep.State_busRead {μ : Mark} (s : State) (m : Master) (a w : Nat) (h_s : μ.ok s) : μ.ok (State.busRead s m a w).2 := by
  unfold State.busRead
  try dsimp only
  repeat' (first | with_reducible assumption | with_reducible apply Keep.State_busRead1 | with_reducible apply Keep.ite | with_reducible apply Keep.iteP | split | with_reducible refine Keep.fromSome (by with_reducible assumption) ?_ | with_reducible refine Keep.fromInr (by with_reducible assumption) ?_ | with_reducible refine Keep.fromInl (by with_reducible assumption) ?_ | with_reducible refine Keep.fromPair (by with_reducible assumption) ?_ | with_reducible refine Keep.fromPair1 (by with_reducible assumption) ?_)

theorem Keep.State_busWrite {μ : Mark} (s : State) (m : Master) (a w v : Nat) (h_s : μ.ok s) : μ.ok (State.busWrite s m a w v).2 := by
  unfold State.busWrite
  try dsimp only
  repeat' (first | with_reducible assumption | with_reducible apply Keep.State_busWrite1 | with_reducible apply Keep.ite | with_reducible apply Keep.iteP | split | with_reducible refine Keep.fromSome (by with_reducible assumption) ?_ | with_reducible refine Keep.fromInr (by with_reducible assumption) ?_ | with_reducible refine Keep.fromInl (by with_reducible assumption) ?_ | with_reducible refine Keep.fromPair (by with_reducible assumption) ?_ | with_reducible refine Keep.fromPair1 (by with_reducible assumption) ?_)

theorem Keep.State_readCmd {μ : Mark} (s : State) (m : Master) (a w : Nat) (h_s : μ.ok s) : μ.okOut (State.readCmd s m a w) := by
  unfold State.readCmd
  try dsimp only
  repeat' (first | with_reducible assumption | with_reducible apply Keep.State_portRead | with_reducible apply Keep.State_respond | with_reducible apply Keep.State_busRead | with_reducible apply Keep.next | with_reducible exact Keep.refused | with_reducible apply Keep.ite | with_reducible apply Keep.iteO | split | with_reducible refine Keep.fromSome (by with_reducible assumption) ?_ | with_reducible refine Keep.fromInr (by with_reducible assumption) ?_ | with_reducible refine Keep.fromInl (by with_reducible assumption) ?_ | with_reducible refine Keep.fromPair (by with_reducible assumption) ?_ | with_reducible refine Keep.fromPair1 (by with_reducible assumption) ?_)

theorem Keep.State_writeCmd {μ : Mark} (s : State) (m : Master) (a w v : Nat) (h_s : μ.ok s) : μ.okOut (State.writeCmd s m a w v) := by
  unfold State.writeCmd
  try dsimp only
  repeat' (first | with_reducible assumption | with_reducible apply Keep.State_portWrite | with_reducible apply Keep.State_busWrite | with_reducible apply Keep.State_respond | with_reducible apply Keep.next | with_reducible exact Keep.refused | with_reducible apply Keep.ite | with_reducible apply Keep.iteO | split | with_reducible refine Keep.fromSome (by with_reducible assumption) ?_ | with_reducible refine Keep.fromInr (by with_reducible assumption) ?_ | with_reducible refine Keep.fromInl (by with_reducible assumption) ?_ | with_reducible refine Keep.fromPair (by with_reducible assumption) ?_ | with_reducible refine Keep.fromPair1 (by with_reducible assumption) ?_)

theorem Keep.c_execRegisterWrite {μ : Mark} (m : Master) (addr width value : Nat) (s : State) (h_s : μ.ok s) : μ.okOut (execRegisterWrite m addr width value s) := by
  unfold execRegisterWrite
  try dsimp only
  repeat' (first | with_reducible assumption | with_reducible apply Keep.State_writeCmd | with_reducible apply Keep.next | with_reducible apply Keep.ite | with_reducible apply Keep.iteO)

theorem Keep.c_execRcRead {μ : Mark} (m : Master) (addr width : Nat) (s : State) (h_s : μ.ok s) : μ.okOut (execRcRead m addr width s) := by
  unfold execRcRead
  try dsimp only
  repeat' (first | with_reducible assumption | with_reducible apply Keep.State_readCmd | with_reducible apply Keep.next | with_reducible apply Keep.ite | with_reducible apply Keep.iteO)

theorem Keep.c_execLoReadShadow {μ : Mark} (m : Master) (addr : Nat) (s : State) (h_s : μ.ok s) : μ.okOut (execLoReadShadow m addr s) := by
  unfold execLoReadShadow
  try dsimp only
  repeat' (first | with_reducible assumption | with_reducible apply Keep.State_readCmd | with_reducible apply Keep.next | with_reducible apply Keep.ite | with_reducible apply Keep.iteO)

theorem Keep.c_execIrqCfgWrite {μ : Mark} (m : Master) (value : Nat) (s : State) (h_s : μ.ok s) : μ.okOut (execIrqCfgWrite m value s) := by
  unfold execIrqCfgWrite
  try dsimp only
  repeat' (first | with_reducible assumption | with_reducible apply Keep.State_writeCmd | with_reducible apply Keep.next | with_reducible apply Keep.ite | with_reducible apply Keep.iteO)

theorem Keep.c_execSeqMemoryWrite {μ : Mark} (m : Master) (addr width value : Nat) (s : State) (h_s : μ.ok s) : μ.okOut (execSeqMemoryWrite m addr width value s) := by
  unfold execSeqMemoryWrite
  try dsimp only
  repeat' (first | with_reducible assumption | with_reducible apply Keep.State_writeCmd | with_reducible apply Keep.next | with_reducible apply Keep.ite | with_reducible apply Keep.iteO)

end Sys2Proof.Machine
end

