-- ==== Sys2Proof/Laws/KeepPwr.lean ====
section
/-! SUPPORT. What the operations of Machine/Pwr.lean keep of a mark. -/

namespace Sys2Proof.Machine

open Sys2Proof

set_option linter.unreachableTactic false
set_option linter.unusedTactic false

theorem Keep.State_coldBase {μ : Mark} (s0 : State) (h_s0 : μ.ok s0) : μ.ok (State.coldBase s0) := by
  unfold State.coldBase
  try dsimp only
  repeat' (first | with_reducible assumption | intro _ | with_reducible apply Keep.set | with_reducible apply Keep.forN | with_reducible apply Keep.State_commitCut | with_reducible apply Keep.State_setFails | with_reducible apply Keep.State_killBy | with_reducible apply Keep.ite | with_reducible apply Keep.mkMem | with_reducible apply Keep.mkRegs | with_reducible apply Keep.mkRegsFilter | with_reducible apply Keep.mkReset | with_reducible apply Keep.mk)

theorem Keep.State_lineOn {μ : Mark} (s : State) (cls : Nat) (h_s : μ.ok s) : μ.ok (State.lineOn s cls) := by
  unfold State.lineOn
  try dsimp only
  repeat' (first | with_reducible assumption | with_reducible apply Keep.set | with_reducible apply Keep.ite)

theorem Keep.State_powerOn {μ : Mark} (s : State) (cls : Nat) (h_s : μ.ok s) : μ.ok (State.powerOn s cls) := by
  unfold State.powerOn
  try dsimp only
  repeat' (first | with_reducible assumption | with_reducible apply Keep.State_lineOn | with_reducible apply Keep.State_rise | with_reducible apply Keep.State_coldBase | with_reducible apply Keep.State_tagRelease | with_reducible apply Keep.State_copiesFresh | with_reducible apply Keep.ite)

theorem Keep.c_execPowerOn {μ : Mark} (cls : Nat) (s : State) (h_s : μ.ok s) : μ.okOut (execPowerOn cls s) := by
  unfold execPowerOn
  try dsimp only
  repeat' (first | with_reducible assumption | with_reducible apply Keep.State_powerOn | with_reducible apply Keep.next | with_reducible apply Keep.ite | with_reducible apply Keep.iteO)

theorem Keep.State_softReset {μ : Mark} (s : State) (h_s : μ.ok s) : μ.ok (State.softReset s) := by
  unfold State.softReset
  try dsimp only
  repeat' (first | with_reducible assumption | with_reducible apply Keep.set | with_reducible apply Keep.State_warm | with_reducible apply Keep.ite)

theorem Keep.c_execWarmReset {μ : Mark} (s : State) (h_s : μ.ok s) : μ.okOut (execWarmReset s) := by
  unfold execWarmReset
  try dsimp only
  repeat' (first | with_reducible assumption | with_reducible apply Keep.State_softReset | with_reducible apply Keep.next | with_reducible apply Keep.ite | with_reducible apply Keep.iteO)

theorem Keep.c_execResetNPin {μ : Mark} (s : State) (h_s : μ.ok s) : μ.okOut (execResetNPin s) := by
  unfold execResetNPin
  try dsimp only
  repeat' (first | with_reducible assumption | with_reducible apply Keep.set | with_reducible apply Keep.State_warm | with_reducible apply Keep.next | with_reducible apply Keep.ite | with_reducible apply Keep.iteO)

theorem Keep.c_execCoreReset {μ : Mark} (core : Nat) (s : State) (h_s : μ.ok s) : μ.okOut (execCoreReset core s) := by
  unfold execCoreReset
  try dsimp only
  repeat' (first | with_reducible assumption | with_reducible apply Keep.State_coreReset | with_reducible apply Keep.next | with_reducible apply Keep.ite | with_reducible apply Keep.iteO)

theorem Keep.State_brownOut {μ : Mark} (s : State) (mv : Nat) (vharv : Bool) (h_s : μ.ok s) : μ.ok (State.brownOut s mv vharv) := by
  unfold State.brownOut
  try dsimp only
  repeat' (first | with_reducible assumption | with_reducible apply Keep.set | with_reducible apply Keep.State_warmBase | with_reducible apply Keep.State_logP | with_reducible apply Keep.State_setBit | with_reducible apply Keep.State_coldBase | with_reducible apply Keep.ite)

theorem Keep.c_execBrownOut {μ : Mark} (mv : Nat) (vharv : Bool) (s : State) (h_s : μ.ok s) : μ.okOut (execBrownOut mv vharv s) := by
  unfold execBrownOut
  try dsimp only
  repeat' (first | with_reducible assumption | with_reducible apply Keep.State_brownOut | with_reducible apply Keep.next | with_reducible apply Keep.ite | with_reducible apply Keep.iteO)

theorem Keep.c_execFieldOff {μ : Mark} (s : State) (h_s : μ.ok s) : μ.okOut (execFieldOff s) := by
  unfold execFieldOff
  try dsimp only
  repeat' (first | with_reducible assumption | with_reducible apply Keep.set | with_reducible apply Keep.State_tagDrop | with_reducible apply Keep.State_passClear | with_reducible apply Keep.State_coldBase | with_reducible apply Keep.next | with_reducible apply Keep.ite | with_reducible apply Keep.iteO)

theorem Keep.c_execRefFail {μ : Mark} (s : State) (h_s : μ.ok s) : μ.okOut (execRefFail s) := by
  unfold execRefFail
  try dsimp only
  repeat' (first | with_reducible assumption | with_reducible apply Keep.set | with_reducible apply Keep.State_fsEngage | with_reducible apply Keep.State_warmBase | with_reducible apply Keep.next | with_reducible apply Keep.ite | with_reducible apply Keep.iteO | with_reducible apply Keep.mk)

theorem Keep.c_execRefclkRecovery {μ : Mark} (s : State) (h_s : μ.ok s) : μ.okOut (execRefclkRecovery s) := by
  unfold execRefclkRecovery
  try dsimp only
  repeat' (first | with_reducible assumption | with_reducible apply Keep.State_logP | with_reducible apply Keep.State_rise | with_reducible apply Keep.next | with_reducible apply Keep.ite | with_reducible apply Keep.iteO | with_reducible apply Keep.mk)

theorem Keep.c_execWdtExpiry {μ : Mark} (n : Nat) (s : State) (h_s : μ.ok s) : μ.okOut (execWdtExpiry n s) := by
  unfold execWdtExpiry
  try dsimp only
  repeat' (first | with_reducible assumption | with_reducible apply Keep.set | with_reducible apply Keep.State_warmBase | with_reducible apply Keep.State_bootVotes | with_reducible apply Keep.State_logP | with_reducible apply Keep.State_enterFailsafe | with_reducible apply Keep.State_logHW | with_reducible apply Keep.State_bumpG | with_reducible apply Keep.State_wakeP | with_reducible apply Keep.State_wdtLoad | with_reducible apply Keep.State_coreReset | with_reducible apply Keep.next | with_reducible apply Keep.ite | with_reducible apply Keep.iteO)

theorem Keep.State_quietLeave {μ : Mark} (s : State) (h_s : μ.ok s) : μ.ok (State.quietLeave s) := by
  unfold State.quietLeave
  try dsimp only
  repeat' (first | with_reducible assumption | with_reducible apply Keep.set | with_reducible apply Keep.State_step7 | with_reducible apply Keep.ite)

theorem Keep.c_execQuietExit {μ : Mark} (s : State) (h_s : μ.ok s) : μ.okOut (execQuietExit s) := by
  unfold execQuietExit
  try dsimp only
  repeat' (first | with_reducible assumption | intro _ | with_reducible apply Keep.State_setBit | with_reducible apply Keep.State_quietLeave | with_reducible apply Keep.next | with_reducible apply Keep.ite | with_reducible apply Keep.iteO)

theorem Keep.c_execLew {μ : Mark} (lineMv : Nat) (s : State) (h_s : μ.ok s) : μ.okOut (execLew lineMv s) := by
  unfold execLew
  try dsimp only
  repeat' (first | with_reducible assumption | with_reducible apply Keep.set | with_reducible apply Keep.State_bump | with_reducible apply Keep.State_wakeP | with_reducible apply Keep.State_killReg | with_reducible apply Keep.State_grnCommit | with_reducible apply Keep.next | with_reducible apply Keep.ite | with_reducible apply Keep.iteO)

theorem Keep.c_execLewEnd {μ : Mark} (s : State) (h_s : μ.ok s) : μ.okOut (execLewEnd s) := by
  unfold execLewEnd
  try dsimp only
  repeat' (first | with_reducible assumption | with_reducible apply Keep.set | with_reducible apply Keep.fresh | with_reducible apply Keep.State_killRegClear | with_reducible apply Keep.State_quietLeave | with_reducible apply Keep.next | with_reducible apply Keep.ite | with_reducible apply Keep.iteO | with_reducible apply Keep.iteP)

theorem Keep.State_therm {μ : Mark} (s : State) (tMain tPower : Nat) (h_s : μ.ok s) : μ.ok (State.therm s tMain tPower) := by
  unfold State.therm
  try dsimp only
  repeat' (first | with_reducible assumption | with_reducible apply Keep.set | with_reducible apply Keep.ite)

theorem Keep.c_execThermalWarn {μ : Mark} (tMain tPower : Nat) (s : State) (h_s : μ.ok s) : μ.okOut (execThermalWarn tMain tPower s) := by
  unfold execThermalWarn
  try dsimp only
  repeat' (first | with_reducible assumption | with_reducible apply Keep.set | with_reducible apply Keep.State_therm | with_reducible apply Keep.State_bump | with_reducible apply Keep.State_wakeP | with_reducible apply Keep.next | with_reducible apply Keep.ite | with_reducible apply Keep.iteO)

theorem Keep.c_execThermalCapStep {μ : Mark} (s : State) (h_s : μ.ok s) : μ.okOut (execThermalCapStep s) := by
  unfold execThermalCapStep
  try dsimp only
  repeat' (first | with_reducible assumption | with_reducible apply Keep.set | with_reducible apply Keep.next | with_reducible apply Keep.ite | with_reducible apply Keep.iteO)

theorem Keep.c_execThermalQuiet {μ : Mark} (tMain tPower : Nat) (s : State) (h_s : μ.ok s) : μ.okOut (execThermalQuiet tMain tPower s) := by
  unfold execThermalQuiet
  try dsimp only
  repeat' (first | with_reducible assumption | with_reducible apply Keep.State_therm | with_reducible apply Keep.State_wakeP | with_reducible apply Keep.State_enterQuiet | with_reducible apply Keep.next | with_reducible apply Keep.ite | with_reducible apply Keep.iteO)

theorem Keep.c_execHardTherm {μ : Mark} (tMain tPower : Nat) (s : State) (h_s : μ.ok s) : μ.okOut (execHardTherm tMain tPower s) := by
  unfold execHardTherm
  try dsimp only
  repeat' (first | with_reducible assumption | with_reducible apply Keep.set | with_reducible apply Keep.State_therm | with_reducible apply Keep.State_killNow | with_reducible apply Keep.State_radioOff | with_reducible apply Keep.State_hfrPower | with_reducible apply Keep.State_voteClean | with_reducible apply Keep.State_killRelease | with_reducible apply Keep.State_wakeP | with_reducible apply Keep.State_logP | with_reducible apply Keep.State_setBit | with_reducible apply Keep.State_setMode | with_reducible apply Keep.next | with_reducible apply Keep.ite | with_reducible apply Keep.iteO)

theorem Keep.State_planLoad {μ : Mark} (s : State) (id n act : Nat) (site : Bool) (e : Nat → List Nat) (h_s : μ.ok s) : μ.ok (State.planLoad s id n act site e) := by
  unfold State.planLoad
  try dsimp only
  repeat' (first | with_reducible assumption | intro _ | with_reducible apply Keep.set | with_reducible apply Keep.State_planArm | with_reducible apply Keep.foldl | with_reducible apply Keep.ite | with_reducible apply Keep.mk)

theorem Keep.State_budgetRelease {μ : Mark} (s : State) (h_s : μ.ok s) : μ.ok (State.budgetRelease s) := by
  unfold State.budgetRelease
  try dsimp only
  repeat' (first | with_reducible assumption | intro _ | with_reducible apply Keep.State_leaseRelease | with_reducible apply Keep.foldl | with_reducible apply Keep.ite)

theorem Keep.State_planReload {μ : Mark} (s : State) (h_s : μ.ok s) : μ.ok (State.planReload s) := by
  unfold State.planReload
  try dsimp only
  repeat' (first | with_reducible assumption | intro _ | with_reducible apply Keep.State_planLoad | with_reducible apply Keep.ite)

theorem Keep.State_budgetMin {μ : Mark} (s : State) (h_s : μ.ok s) : μ.ok (State.budgetMin s) := by
  unfold State.budgetMin
  try dsimp only
  repeat' (first | with_reducible assumption | with_reducible apply Keep.State_setBit | with_reducible apply Keep.State_quietLeave | with_reducible apply Keep.State_enterQuiet | with_reducible apply Keep.ite)

theorem Keep.State_budgetChange {μ : Mark} (s : State) (h_s : μ.ok s) : μ.ok (State.budgetChange s) := by
  unfold State.budgetChange
  try dsimp only
  repeat' (first | with_reducible assumption | intro _ | with_reducible apply Keep.State_budgetRelease | with_reducible apply Keep.State_planReload | with_reducible apply Keep.State_budgetMin | with_reducible apply Keep.ite)

theorem Keep.c_execPdClassChange {μ : Mark} (cls : Nat) (s : State) (h_s : μ.ok s) : μ.okOut (execPdClassChange cls s) := by
  unfold execPdClassChange
  try dsimp only
  repeat' (first | with_reducible assumption | with_reducible apply Keep.set | with_reducible apply Keep.State_bump | with_reducible apply Keep.State_wakeP | with_reducible apply Keep.State_budgetChange | with_reducible apply Keep.next | with_reducible apply Keep.ite | with_reducible apply Keep.iteO)

theorem Keep.State_votePut {μ : Mark} (s : State) (f v : Nat) (h_s : μ.ok s) : μ.ok (State.votePut s f v) := by
  unfold State.votePut
  try dsimp only
  repeat' (first | with_reducible assumption | with_reducible apply Keep.set | with_reducible apply Keep.ite | with_reducible apply Keep.mk)

theorem Keep.State_scrub {μ : Mark} (s : State) (f : Nat) (c : Nat × Nat × Nat) (h_s : μ.ok s) : μ.ok (State.scrub s f c) := by
  unfold State.scrub
  try dsimp only
  repeat' (first | with_reducible assumption | intro _ | with_reducible apply Keep.set | with_reducible apply Keep.State_votePut | with_reducible apply Keep.State_fsEngage | with_reducible apply Keep.State_wakeP | with_reducible apply Keep.State_logP | with_reducible apply Keep.State_enterFailsafe | with_reducible apply Keep.State_bump | with_reducible apply Keep.State_logHW | with_reducible apply Keep.ite | split | with_reducible refine Keep.fromSome (by with_reducible assumption) ?_ | with_reducible refine Keep.fromInr (by with_reducible assumption) ?_ | with_reducible refine Keep.fromInl (by with_reducible assumption) ?_ | with_reducible refine Keep.fromPair (by with_reducible assumption) ?_ | with_reducible refine Keep.fromPair1 (by with_reducible assumption) ?_ | with_reducible apply Keep.mk)

theorem Keep.c_execVoteScrub {μ : Mark} (f c0 c1 c2 : Nat) (s : State) (h_s : μ.ok s) : μ.okOut (execVoteScrub f c0 c1 c2 s) := by
  unfold execVoteScrub
  try dsimp only
  repeat' (first | with_reducible assumption | with_reducible apply Keep.State_scrub | with_reducible apply Keep.next | with_reducible apply Keep.ite | with_reducible apply Keep.iteO)

end Sys2Proof.Machine
end

