-- ==== Sys2Proof/Laws/KeepObj.lean ====
section
/-! SUPPORT. What the operations of Machine/Obj.lean keep of a mark. -/

namespace Sys2Proof.Machine

open Sys2Proof

set_option linter.unreachableTactic false
set_option linter.unusedTactic false

theorem Keep.State_recWrite {μ : Mark} (s : State) (r : Nat) (d : List Nat) (h_s : μ.ok s) : μ.ok (State.recWrite s r d) := by
  unfold State.recWrite
  try dsimp only
  repeat' (first | with_reducible assumption | intro _ | with_reducible apply Keep.set | with_reducible apply Keep.forN | with_reducible apply Keep.State_wiredGo | with_reducible apply Keep.ite)

theorem Keep.State_owedGo {μ : Mark} (s : State) (h_s : μ.ok s) : μ.ok (State.owedGo s) := by
  unfold State.owedGo
  try dsimp only
  repeat' (first | with_reducible assumption | intro _ | with_reducible apply Keep.State_recWrite | with_reducible apply Keep.foldl | with_reducible apply Keep.ite | with_reducible apply Keep.mk)

theorem Keep.State_recOwe {μ : Mark} (s : State) (l : List Nat) (h_s : μ.ok s) : μ.ok (State.recOwe s l) := by
  unfold State.recOwe
  try dsimp only
  repeat' (first | with_reducible assumption | with_reducible apply Keep.State_owedGo | with_reducible apply Keep.ite | with_reducible apply Keep.mk)

theorem Keep.State_fieldRise {μ : Mark} (s : State) (h_s : μ.ok s) : μ.ok (State.fieldRise s) := by
  unfold State.fieldRise
  try dsimp only
  repeat' (first | with_reducible assumption | with_reducible apply Keep.State_lcBegin | with_reducible apply Keep.State_softReset | with_reducible apply Keep.ite)

theorem Keep.State_committed {μ : Mark} (s : State) (r : Nat) (h_s : μ.ok s) : μ.ok (State.committed s r) := by
  unfold State.committed
  try dsimp only
  repeat' (first | with_reducible assumption | with_reducible apply Keep.State_recApply | with_reducible apply Keep.State_owedGo | with_reducible apply Keep.State_fieldRise | with_reducible apply Keep.ite)

theorem Keep.c_execTagCommitDone {μ : Mark} (s : State) (h_s : μ.ok s) : μ.okOut (execTagCommitDone s) := by
  unfold execTagCommitDone
  try dsimp only
  repeat' (first | with_reducible assumption | with_reducible apply Keep.State_commitDone | with_reducible apply Keep.State_committed | with_reducible apply Keep.next | with_reducible apply Keep.ite | with_reducible apply Keep.iteO | split | with_reducible refine Keep.fromSome (by with_reducible assumption) ?_ | with_reducible refine Keep.fromInr (by with_reducible assumption) ?_ | with_reducible refine Keep.fromInl (by with_reducible assumption) ?_ | with_reducible refine Keep.fromPair (by with_reducible assumption) ?_ | with_reducible refine Keep.fromPair1 (by with_reducible assumption) ?_)

theorem Keep.State_storeAll {μ : Mark} (s : State) (h_s : μ.ok s) : μ.ok (State.storeAll s) := by
  unfold State.storeAll
  try dsimp only
  repeat' (first | with_reducible assumption | intro _ | with_reducible apply Keep.ite | with_reducible apply Keep.mk)

theorem Keep.State_restoreAll {μ : Mark} (s : State) (h_s : μ.ok s) : μ.ok (State.restoreAll s) := by
  unfold State.restoreAll
  try dsimp only
  repeat' (first | with_reducible assumption | intro _ | with_reducible apply Keep.forL | with_reducible apply Keep.State_push | with_reducible apply Keep.State_recOwe | with_reducible apply Keep.State_budgetChange | with_reducible apply Keep.ite | with_reducible apply Keep.mk)

theorem Keep.State_imgWrite {μ : Mark} (s : State) (kind : Nat) (v : List Nat) (h_s : μ.ok s) : μ.ok (State.imgWrite s kind v) := by
  unfold State.imgWrite
  try dsimp only
  repeat' (first | with_reducible assumption | with_reducible apply Keep.wrBytes | with_reducible apply Keep.ite)

theorem Keep.State_lcRequest {μ : Mark} (s : State) (v : Nat) (h_s : μ.ok s) : μ.ok (State.lcRequest s v).2 := by
  unfold State.lcRequest
  try dsimp only
  repeat' (first | with_reducible assumption | with_reducible apply Keep.State_lcBegin | with_reducible apply Keep.State_softReset | with_reducible apply Keep.ite | with_reducible apply Keep.iteP)

theorem Keep.State_bootRequest {μ : Mark} (s : State) (h_s : μ.ok s) : μ.ok (State.bootRequest s) := by
  unfold State.bootRequest
  try dsimp only
  repeat' (first | with_reducible assumption | intro _ | with_reducible apply Keep.State_bootPtrTo | with_reducible apply Keep.State_voteClean | with_reducible apply Keep.State_softReset | with_reducible apply Keep.ite | with_reducible apply Keep.mk)

theorem Keep.State_confirm {μ : Mark} (s : State) (h_s : μ.ok s) : μ.ok (State.confirm s).2 := by
  unfold State.confirm
  try dsimp only
  repeat' (first | with_reducible assumption | intro _ | with_reducible apply Keep.set | with_reducible apply Keep.forN | with_reducible apply Keep.State_bootPtrTo | with_reducible apply Keep.State_voteClean | with_reducible apply Keep.ite | with_reducible apply Keep.iteP | split | with_reducible refine Keep.fromSome (by with_reducible assumption) ?_ | with_reducible refine Keep.fromInr (by with_reducible assumption) ?_ | with_reducible refine Keep.fromInl (by with_reducible assumption) ?_ | with_reducible refine Keep.fromPair (by with_reducible assumption) ?_ | with_reducible refine Keep.fromPair1 (by with_reducible assumption) ?_ | with_reducible apply Keep.mk)

theorem Keep.State_planObj {μ : Mark} (s : State) (t : List Nat) (h_s : μ.ok s) : μ.ok (State.planObj s t).2 := by
  unfold State.planObj
  try dsimp only
  repeat' (first | with_reducible assumption | intro _ | with_reducible apply Keep.set | with_reducible apply Keep.State_planLoad | with_reducible apply Keep.ite | with_reducible apply Keep.iteP | split | with_reducible refine Keep.fromSome (by with_reducible assumption) ?_ | with_reducible refine Keep.fromInr (by with_reducible assumption) ?_ | with_reducible refine Keep.fromInl (by with_reducible assumption) ?_ | with_reducible refine Keep.fromPair (by with_reducible assumption) ?_ | with_reducible refine Keep.fromPair1 (by with_reducible assumption) ?_)

theorem Keep.State_recObjWrite {μ : Mark} (s : State) (r : Nat) (d : List Nat) (h_s : μ.ok s) : μ.ok (State.recObjWrite s r d).2 := by
  unfold State.recObjWrite
  try dsimp only
  repeat' (first | with_reducible assumption | with_reducible apply Keep.State_recWrite | with_reducible apply Keep.ite | with_reducible apply Keep.iteP)

theorem Keep.c_oneOnly {μ : Mark} (v : List Nat) (r : Nat × State) (s : State) (h_r : μ.ok r.2) (h_s : μ.ok s) : μ.ok (oneOnly v r s).2 := by
  unfold oneOnly
  try dsimp only
  repeat' (first | with_reducible assumption | with_reducible apply Keep.ite | with_reducible apply Keep.iteP)

theorem Keep.State_objAfter {μ : Mark} (s : State) (i sub : Nat) (h_s : μ.ok s) : μ.ok (State.objAfter s i sub) := by
  unfold State.objAfter
  try dsimp only
  repeat' (first | with_reducible assumption | with_reducible apply Keep.State_budgetChange | with_reducible apply Keep.State_budgetMin | with_reducible apply Keep.State_recOwe | with_reducible apply Keep.ite)

theorem Keep.State_objApply {μ : Mark} (s : State) (d : ObjDef) (i sub : Nat) (v : List Nat) (h_s : μ.ok s) : μ.ok (State.objApply s d i sub v).2 := by
  unfold State.objApply
  try dsimp only
  repeat' (first | with_reducible assumption | with_reducible apply Keep.set | with_reducible apply Keep.fresh | with_reducible apply Keep.State_planObj | with_reducible apply Keep.State_setObj | with_reducible apply Keep.c_oneOnly | with_reducible apply Keep.State_storeAll | with_reducible apply Keep.State_restoreAll | with_reducible apply Keep.State_lcRequest | with_reducible apply Keep.State_imgWrite | with_reducible apply Keep.State_confirm | with_reducible apply Keep.State_bootRequest | with_reducible apply Keep.State_softReset | with_reducible apply Keep.State_recObjWrite | with_reducible apply Keep.State_anchorEval | with_reducible apply Keep.State_killReg | with_reducible apply Keep.State_killRegClear | with_reducible apply Keep.State_tagQuery | with_reducible apply Keep.State_tagWatch | with_reducible apply Keep.State_calRun | with_reducible apply Keep.State_calCmdCommit | with_reducible apply Keep.State_objStore | with_reducible apply Keep.State_objAfter | with_reducible apply Keep.ite | with_reducible apply Keep.iteP)

theorem Keep.State_odPut {μ : Mark} (s : State) (i sub ty : Nat) (v : List Nat) (h_s : μ.ok s) : μ.ok (State.odPut s i sub ty v).2 := by
  unfold State.odPut
  try dsimp only
  repeat' (first | with_reducible assumption | with_reducible apply Keep.State_objApply | with_reducible apply Keep.ite | with_reducible apply Keep.iteP | split | with_reducible refine Keep.fromSome (by with_reducible assumption) ?_ | with_reducible refine Keep.fromInr (by with_reducible assumption) ?_ | with_reducible refine Keep.fromInl (by with_reducible assumption) ?_ | with_reducible refine Keep.fromPair (by with_reducible assumption) ?_ | with_reducible refine Keep.fromPair1 (by with_reducible assumption) ?_)

theorem Keep.State_odWrite {μ : Mark} (s : State) (i sub ty : Nat) (v : List Nat) (h_s : μ.ok s) : μ.ok (State.odWrite s i sub ty v).2 := by
  unfold State.odWrite
  try dsimp only
  repeat' (first | with_reducible assumption | with_reducible apply Keep.State_odPut | with_reducible apply Keep.ite | with_reducible apply Keep.iteP)

theorem Keep.c_execPendingPlanWrite {μ : Mark} (body : List Nat) (s : State) (h_s : μ.ok s) : μ.okOut (execPendingPlanWrite body s) := by
  unfold execPendingPlanWrite
  try dsimp only
  repeat' (first | with_reducible assumption | with_reducible apply Keep.State_odWrite | with_reducible apply Keep.next | with_reducible apply Keep.ite | with_reducible apply Keep.iteO)

theorem Keep.c_execStore {μ : Mark} (s : State) (h_s : μ.ok s) : μ.okOut (execStore s) := by
  unfold execStore
  try dsimp only
  repeat' (first | with_reducible assumption | with_reducible apply Keep.State_odWrite | with_reducible apply Keep.next | with_reducible apply Keep.ite | with_reducible apply Keep.iteO)

theorem Keep.c_execRestore {μ : Mark} (s : State) (h_s : μ.ok s) : μ.okOut (execRestore s) := by
  unfold execRestore
  try dsimp only
  repeat' (first | with_reducible assumption | with_reducible apply Keep.State_odWrite | with_reducible apply Keep.next | with_reducible apply Keep.ite | with_reducible apply Keep.iteO)

theorem Keep.c_execLcRequest {μ : Mark} (v : Nat) (s : State) (h_s : μ.ok s) : μ.okOut (execLcRequest v s) := by
  unfold execLcRequest
  try dsimp only
  repeat' (first | with_reducible assumption | with_reducible apply Keep.State_odWrite | with_reducible apply Keep.next | with_reducible apply Keep.ite | with_reducible apply Keep.iteO)

theorem Keep.c_execBootRequest {μ : Mark} (v : Nat) (s : State) (h_s : μ.ok s) : μ.okOut (execBootRequest v s) := by
  unfold execBootRequest
  try dsimp only
  repeat' (first | with_reducible assumption | with_reducible apply Keep.State_odWrite | with_reducible apply Keep.next | with_reducible apply Keep.ite | with_reducible apply Keep.iteO)

theorem Keep.c_execConfirm {μ : Mark} (s : State) (h_s : μ.ok s) : μ.okOut (execConfirm s) := by
  unfold execConfirm
  try dsimp only
  repeat' (first | with_reducible assumption | with_reducible apply Keep.State_odWrite | with_reducible apply Keep.next | with_reducible apply Keep.ite | with_reducible apply Keep.iteO)

theorem Keep.c_execRestart {μ : Mark} (s : State) (h_s : μ.ok s) : μ.okOut (execRestart s) := by
  unfold execRestart
  try dsimp only
  repeat' (first | with_reducible assumption | with_reducible apply Keep.State_softReset | with_reducible apply Keep.next | with_reducible apply Keep.ite | with_reducible apply Keep.iteO)

end Sys2Proof.Machine
end

