-- ==== Sys2Proof/Laws/KeepTot.lean ====
section
/-! SUPPORT. What the operations of Machine/Tot.lean keep of a mark. -/

namespace Sys2Proof.Machine

open Sys2Proof

set_option linter.unreachableTactic false
set_option linter.unusedTactic false

theorem Keep.State_updNet {μ : Mark} (s : State) (g : Net → Net) (h_s : μ.ok s) : μ.ok (State.updNet s g) := by
  unfold State.updNet
  try dsimp only
  repeat' (first | with_reducible assumption | with_reducible apply Keep.ite | with_reducible apply Keep.mk)

theorem Keep.State_netCount {μ : Mark} (s : State) (k : Nat) (h_s : μ.ok s) : μ.ok (State.netCount s k) := by
  unfold State.netCount
  try dsimp only
  repeat' (first | with_reducible assumption | intro _ | with_reducible apply Keep.set | with_reducible apply Keep.State_updNet | with_reducible apply Keep.ite | with_reducible apply Keep.mk)

theorem Keep.State_totSend {μ : Mark} (s : State) (ty dst kid flags tid : Nat) (key p : List Nat) (h_s : μ.ok s) : μ.ok (State.totSend s ty dst kid flags tid key p) := by
  unfold State.totSend
  try dsimp only
  repeat' (first | with_reducible assumption | with_reducible apply Keep.State_sourceEvent | with_reducible apply Keep.State_netCount | with_reducible apply Keep.ite | with_reducible apply Keep.mk)

theorem Keep.State_totOut {μ : Mark} (s : State) (ty dst kid flags tid : Nat) (p : List Nat) (h_s : μ.ok s) : μ.ok (State.totOut s ty dst kid flags tid p) := by
  unfold State.totOut
  try dsimp only
  repeat' (first | with_reducible assumption | with_reducible apply Keep.State_totSend | with_reducible apply Keep.State_netCount | with_reducible apply Keep.ite | split | with_reducible refine Keep.fromSome (by with_reducible assumption) ?_ | with_reducible refine Keep.fromInr (by with_reducible assumption) ?_ | with_reducible refine Keep.fromInl (by with_reducible assumption) ?_ | with_reducible refine Keep.fromPair (by with_reducible assumption) ?_ | with_reducible refine Keep.fromPair1 (by with_reducible assumption) ?_)

theorem Keep.State_totSeen {μ : Mark} (s : State) (src ctr : Nat) (h_s : μ.ok s) : μ.ok (State.totSeen s src ctr) := by
  unfold State.totSeen
  try dsimp only
  repeat' (first | with_reducible assumption | with_reducible apply Keep.set | with_reducible apply Keep.ite | with_reducible apply Keep.mk)

theorem Keep.State_totOpen {μ : Mark} (s : State) (d : List Nat) (h_s : μ.ok s) : μ.ok (State.totOpen s d).1 := by
  unfold State.totOpen
  try dsimp only
  repeat' (first | with_reducible assumption | with_reducible apply Keep.State_netCount | with_reducible apply Keep.State_totSeen | with_reducible apply Keep.ite | with_reducible apply Keep.iteP | split | with_reducible refine Keep.fromSome (by with_reducible assumption) ?_ | with_reducible refine Keep.fromInr (by with_reducible assumption) ?_ | with_reducible refine Keep.fromInl (by with_reducible assumption) ?_ | with_reducible refine Keep.fromPair (by with_reducible assumption) ?_ | with_reducible refine Keep.fromPair1 (by with_reducible assumption) ?_ | with_reducible apply Keep.mk)

theorem Keep.State_totReply {μ : Mark} (s : State) (m : TotMsg) (ty : Nat) (p : List Nat) (h_s : μ.ok s) : μ.ok (State.totReply s m ty p) := by
  unfold State.totReply
  try dsimp only
  repeat' (first | with_reducible assumption | with_reducible apply Keep.State_totSend | with_reducible apply Keep.ite)

theorem Keep.State_totPut {μ : Mark} (s : State) (i sub ty : Nat) (v : List Nat) (h_s : μ.ok s) : μ.ok (State.totPut s i sub ty v).2 := by
  unfold State.totPut
  try dsimp only
  repeat' (first | with_reducible assumption | with_reducible apply Keep.c_oneOnly | with_reducible apply Keep.State_softReset | with_reducible apply Keep.State_odWrite | with_reducible apply Keep.ite | with_reducible apply Keep.iteP)

theorem Keep.State_totRead {μ : Mark} (s : State) (m : TotMsg) (h_s : μ.ok s) : μ.ok (State.totRead s m) := by
  unfold State.totRead
  try dsimp only
  repeat' (first | with_reducible assumption | with_reducible apply Keep.fresh | with_reducible apply Keep.State_totReply | with_reducible apply Keep.ite | with_reducible apply Keep.iteP)

theorem Keep.State_writeAll {μ : Mark} (s : State) (es : List (List Nat × List Nat)) (h_s : μ.ok s) : μ.ok (State.writeAll s es).2.1 := by
  induction es generalizing s with
  | nil =>
    unfold State.writeAll
    repeat' (first | with_reducible assumption | intro _ | with_reducible apply Keep.State_totPut | with_reducible apply Keep.ite | with_reducible apply Keep.iteP | split | with_reducible refine Keep.fromSome (by with_reducible assumption) ?_ | with_reducible refine Keep.fromInr (by with_reducible assumption) ?_ | with_reducible refine Keep.fromInl (by with_reducible assumption) ?_ | with_reducible refine Keep.fromPair (by with_reducible assumption) ?_ | with_reducible refine Keep.fromPair1 (by with_reducible assumption) ?_)
  | cons e r ih =>
    unfold State.writeAll
    try dsimp only
    repeat' (first | with_reducible assumption | with_reducible apply ih | intro _ | with_reducible apply Keep.State_totPut | with_reducible apply Keep.ite | with_reducible apply Keep.iteP | split | with_reducible refine Keep.fromSome (by with_reducible assumption) ?_ | with_reducible refine Keep.fromInr (by with_reducible assumption) ?_ | with_reducible refine Keep.fromInl (by with_reducible assumption) ?_ | with_reducible refine Keep.fromPair (by with_reducible assumption) ?_ | with_reducible refine Keep.fromPair1 (by with_reducible assumption) ?_)

theorem Keep.State_totWrite {μ : Mark} (s : State) (m : TotMsg) (h_s : μ.ok s) : μ.ok (State.totWrite s m) := by
  unfold State.totWrite
  try dsimp only
  repeat' (first | with_reducible assumption | with_reducible apply Keep.State_writeAll | with_reducible apply Keep.State_totReply | with_reducible apply Keep.ite)

theorem Keep.State_setXfers {μ : Mark} (s : State) (l : List Xfer) (h_s : μ.ok s) : μ.ok (State.setXfers s l) := by
  unfold State.setXfers
  try dsimp only
  repeat' (first | with_reducible assumption | intro _ | with_reducible apply Keep.State_updNet | with_reducible apply Keep.ite | with_reducible apply Keep.mk)

theorem Keep.State_xferPut {μ : Mark} (s : State) (x : Xfer) (h_s : μ.ok s) : μ.ok (State.xferPut s x) := by
  unfold State.xferPut
  try dsimp only
  repeat' (first | with_reducible assumption | intro _ | with_reducible apply Keep.State_setXfers | with_reducible apply Keep.ite)

theorem Keep.State_xferDrop {μ : Mark} (s : State) (x : Xfer) (h_s : μ.ok s) : μ.ok (State.xferDrop s x) := by
  unfold State.xferDrop
  try dsimp only
  repeat' (first | with_reducible assumption | intro _ | with_reducible apply Keep.State_setXfers | with_reducible apply Keep.ite)

theorem Keep.State_xferSend {μ : Mark} (s : State) (x : Xfer) (ty : Nat) (p : List Nat) (h_s : μ.ok s) : μ.ok (State.xferSend s x ty p) := by
  unfold State.xferSend
  try dsimp only
  repeat' (first | with_reducible assumption | with_reducible apply Keep.State_totOut | with_reducible apply Keep.ite)

theorem Keep.State_xferWindow {μ : Mark} (s : State) (x : Xfer) (h_s : μ.ok s) : μ.ok (State.xferWindow s x) := by
  unfold State.xferWindow
  try dsimp only
  repeat' (first | with_reducible assumption | intro _ | with_reducible apply Keep.forN | with_reducible apply Keep.State_xferSend | with_reducible apply Keep.ite)

theorem Keep.State_xferInit {μ : Mark} (s : State) (m : TotMsg) (h_s : μ.ok s) : μ.ok (State.xferInit s m) := by
  unfold State.xferInit
  try dsimp only
  repeat' (first | with_reducible assumption | intro _ | with_reducible apply Keep.fresh | with_reducible apply Keep.State_xferDrop | with_reducible apply Keep.State_totReply | with_reducible apply Keep.State_setXfers | with_reducible apply Keep.State_xferWindow | with_reducible apply Keep.ite | with_reducible apply Keep.iteP | split | with_reducible refine Keep.fromSome (by with_reducible assumption) ?_ | with_reducible refine Keep.fromInr (by with_reducible assumption) ?_ | with_reducible refine Keep.fromInl (by with_reducible assumption) ?_ | with_reducible refine Keep.fromPair (by with_reducible assumption) ?_ | with_reducible refine Keep.fromPair1 (by with_reducible assumption) ?_ | with_reducible apply Keep.mk)

theorem Keep.State_imgSegment {μ : Mark} (s : State) (x : Xfer) (off : Nat) (seg : List Nat) (h_s : μ.ok s) : μ.ok (State.imgSegment s x off seg) := by
  unfold State.imgSegment
  try dsimp only
  repeat' (first | with_reducible assumption | with_reducible apply Keep.wrBytes | with_reducible apply Keep.ite)

theorem Keep.State_xferData {μ : Mark} (s : State) (m : TotMsg) (h_s : μ.ok s) : μ.ok (State.xferData s m) := by
  unfold State.xferData
  try dsimp only
  repeat' (first | with_reducible assumption | intro _ | with_reducible apply Keep.State_totReply | with_reducible apply Keep.State_xferDrop | with_reducible apply Keep.State_xferPut | with_reducible apply Keep.State_imgSegment | with_reducible apply Keep.ite | split | with_reducible refine Keep.fromSome (by with_reducible assumption) ?_ | with_reducible refine Keep.fromInr (by with_reducible assumption) ?_ | with_reducible refine Keep.fromInl (by with_reducible assumption) ?_ | with_reducible refine Keep.fromPair (by with_reducible assumption) ?_ | with_reducible refine Keep.fromPair1 (by with_reducible assumption) ?_ | with_reducible apply Keep.mk)

theorem Keep.State_xferAck {μ : Mark} (s : State) (m : TotMsg) (h_s : μ.ok s) : μ.ok (State.xferAck s m) := by
  unfold State.xferAck
  try dsimp only
  repeat' (first | with_reducible assumption | with_reducible apply Keep.State_xferPut | with_reducible apply Keep.State_xferWindow | with_reducible apply Keep.ite | split | with_reducible refine Keep.fromSome (by with_reducible assumption) ?_ | with_reducible refine Keep.fromInr (by with_reducible assumption) ?_ | with_reducible refine Keep.fromInl (by with_reducible assumption) ?_ | with_reducible refine Keep.fromPair (by with_reducible assumption) ?_ | with_reducible refine Keep.fromPair1 (by with_reducible assumption) ?_ | with_reducible apply Keep.mk)

theorem Keep.State_xferApply {μ : Mark} (s : State) (x : Xfer) (h_s : μ.ok s) : μ.ok (State.xferApply s x).2 := by
  unfold State.xferApply
  try dsimp only
  repeat' (first | with_reducible assumption | with_reducible apply Keep.State_imgWrite | with_reducible apply Keep.State_odPut | with_reducible apply Keep.ite | with_reducible apply Keep.iteP | split | with_reducible refine Keep.fromSome (by with_reducible assumption) ?_ | with_reducible refine Keep.fromInr (by with_reducible assumption) ?_ | with_reducible refine Keep.fromInl (by with_reducible assumption) ?_ | with_reducible refine Keep.fromPair (by with_reducible assumption) ?_ | with_reducible refine Keep.fromPair1 (by with_reducible assumption) ?_)

theorem Keep.State_xferEnd {μ : Mark} (s : State) (m : TotMsg) (h_s : μ.ok s) : μ.ok (State.xferEnd s m) := by
  unfold State.xferEnd
  try dsimp only
  repeat' (first | with_reducible assumption | with_reducible apply Keep.State_xferDrop | with_reducible apply Keep.State_xferApply | with_reducible apply Keep.State_totReply | with_reducible apply Keep.ite | split | with_reducible refine Keep.fromSome (by with_reducible assumption) ?_ | with_reducible refine Keep.fromInr (by with_reducible assumption) ?_ | with_reducible refine Keep.fromInl (by with_reducible assumption) ?_ | with_reducible refine Keep.fromPair (by with_reducible assumption) ?_ | with_reducible refine Keep.fromPair1 (by with_reducible assumption) ?_)

theorem Keep.State_xferAbort {μ : Mark} (s : State) (m : TotMsg) (h_s : μ.ok s) : μ.ok (State.xferAbort s m) := by
  unfold State.xferAbort
  try dsimp only
  repeat' (first | with_reducible assumption | with_reducible apply Keep.State_xferDrop | with_reducible apply Keep.ite | split | with_reducible refine Keep.fromSome (by with_reducible assumption) ?_ | with_reducible refine Keep.fromInr (by with_reducible assumption) ?_ | with_reducible refine Keep.fromInl (by with_reducible assumption) ?_ | with_reducible refine Keep.fromPair (by with_reducible assumption) ?_ | with_reducible refine Keep.fromPair1 (by with_reducible assumption) ?_)

theorem Keep.State_setSubs {μ : Mark} (s : State) (l : List Subscr) (h_s : μ.ok s) : μ.ok (State.setSubs s l) := by
  unfold State.setSubs
  try dsimp only
  repeat' (first | with_reducible assumption | intro _ | with_reducible apply Keep.State_updNet | with_reducible apply Keep.ite | with_reducible apply Keep.mk)

theorem Keep.State_subPut {μ : Mark} (s : State) (x : Subscr) (h_s : μ.ok s) : μ.ok (State.subPut s x) := by
  unfold State.subPut
  try dsimp only
  repeat' (first | with_reducible assumption | intro _ | with_reducible apply Keep.State_setSubs | with_reducible apply Keep.ite)

theorem Keep.State_subDrop {μ : Mark} (s : State) (x : Subscr) (h_s : μ.ok s) : μ.ok (State.subDrop s x) := by
  unfold State.subDrop
  try dsimp only
  repeat' (first | with_reducible assumption | intro _ | with_reducible apply Keep.State_setSubs | with_reducible apply Keep.ite)

theorem Keep.State_notifyPump {μ : Mark} (s : State) (src fuel : Nat) (h_s : μ.ok s) : μ.ok (State.notifyPump s src fuel) := by
  induction fuel generalizing s with
  | zero =>
    unfold State.notifyPump
    repeat' (first | with_reducible assumption | intro _ | with_reducible apply Keep.State_subPut | with_reducible apply Keep.State_totSend | with_reducible apply Keep.ite | split | with_reducible refine Keep.fromSome (by with_reducible assumption) ?_ | with_reducible refine Keep.fromInr (by with_reducible assumption) ?_ | with_reducible refine Keep.fromInl (by with_reducible assumption) ?_ | with_reducible refine Keep.fromPair (by with_reducible assumption) ?_ | with_reducible refine Keep.fromPair1 (by with_reducible assumption) ?_ | with_reducible apply Keep.mk)
  | succ k ih =>
    unfold State.notifyPump
    try dsimp only
    repeat' (first | with_reducible assumption | with_reducible apply ih | intro _ | with_reducible apply Keep.State_subPut | with_reducible apply Keep.State_totSend | with_reducible apply Keep.ite | split | with_reducible refine Keep.fromSome (by with_reducible assumption) ?_ | with_reducible refine Keep.fromInr (by with_reducible assumption) ?_ | with_reducible refine Keep.fromInl (by with_reducible assumption) ?_ | with_reducible refine Keep.fromPair (by with_reducible assumption) ?_ | with_reducible refine Keep.fromPair1 (by with_reducible assumption) ?_ | with_reducible apply Keep.mk)

theorem Keep.State_notifyGo {μ : Mark} (s : State) (src : Nat) (h_s : μ.ok s) : μ.ok (State.notifyGo s src) := by
  unfold State.notifyGo
  try dsimp only
  repeat' (first | with_reducible assumption | with_reducible apply Keep.State_notifyPump | with_reducible apply Keep.ite)

theorem Keep.State_notifyPut {μ : Mark} (s : State) (x : Subscr) (p : List Nat) (h_s : μ.ok s) : μ.ok (State.notifyPut s x p) := by
  unfold State.notifyPut
  try dsimp only
  repeat' (first | with_reducible assumption | intro _ | with_reducible apply Keep.set | with_reducible apply Keep.State_updNet | with_reducible apply Keep.State_subPut | with_reducible apply Keep.State_netCount | with_reducible apply Keep.ite | with_reducible apply Keep.mk)

theorem Keep.State_subscribe {μ : Mark} (s : State) (m : TotMsg) (h_s : μ.ok s) : μ.ok (State.subscribe s m) := by
  unfold State.subscribe
  try dsimp only
  repeat' (first | with_reducible assumption | intro _ | with_reducible apply Keep.State_totReply | with_reducible apply Keep.State_subDrop | with_reducible apply Keep.State_subPut | with_reducible apply Keep.State_setSubs | with_reducible apply Keep.ite | split | with_reducible refine Keep.fromSome (by with_reducible assumption) ?_ | with_reducible refine Keep.fromInr (by with_reducible assumption) ?_ | with_reducible refine Keep.fromInl (by with_reducible assumption) ?_ | with_reducible refine Keep.fromPair (by with_reducible assumption) ?_ | with_reducible refine Keep.fromPair1 (by with_reducible assumption) ?_ | with_reducible apply Keep.mk)

theorem Keep.State_notifyAck {μ : Mark} (s : State) (m : TotMsg) (h_s : μ.ok s) : μ.ok (State.notifyAck s m) := by
  unfold State.notifyAck
  try dsimp only
  repeat' (first | with_reducible assumption | intro _ | with_reducible apply Keep.State_subPut | with_reducible apply Keep.State_notifyGo | with_reducible apply Keep.ite | split | with_reducible refine Keep.fromSome (by with_reducible assumption) ?_ | with_reducible refine Keep.fromInr (by with_reducible assumption) ?_ | with_reducible refine Keep.fromInl (by with_reducible assumption) ?_ | with_reducible refine Keep.fromPair (by with_reducible assumption) ?_ | with_reducible refine Keep.fromPair1 (by with_reducible assumption) ?_ | with_reducible apply Keep.mk)

theorem Keep.State_windowClose {μ : Mark} (s : State) (h_s : μ.ok s) : μ.ok (State.windowClose s) := by
  unfold State.windowClose
  try dsimp only
  repeat' (first | with_reducible assumption | intro _ | with_reducible apply Keep.forL | with_reducible apply Keep.State_nrTail | with_reducible apply Keep.State_notifyPut | with_reducible apply Keep.foldl | with_reducible apply Keep.ite | split | with_reducible refine Keep.fromSome (by with_reducible assumption) ?_ | with_reducible refine Keep.fromInr (by with_reducible assumption) ?_ | with_reducible refine Keep.fromInl (by with_reducible assumption) ?_ | with_reducible refine Keep.fromPair (by with_reducible assumption) ?_ | with_reducible refine Keep.fromPair1 (by with_reducible assumption) ?_)

theorem Keep.State_notifyDue {μ : Mark} (s : State) (x : Subscr) (h_s : μ.ok s) : μ.ok (State.notifyDue s x) := by
  unfold State.notifyDue
  try dsimp only
  repeat' (first | with_reducible assumption | with_reducible apply Keep.fresh | with_reducible apply Keep.State_windowClose | with_reducible apply Keep.State_notifyGo | with_reducible apply Keep.State_notifyPut | with_reducible apply Keep.ite | with_reducible apply Keep.iteP | with_reducible apply Keep.mk)

theorem Keep.State_planMcast {μ : Mark} (s : State) (m : TotMsg) (h_s : μ.ok s) : μ.ok (State.planMcast s m) := by
  unfold State.planMcast
  try dsimp only
  repeat' (first | with_reducible assumption | intro _ | with_reducible apply Keep.State_odWrite | with_reducible apply Keep.State_planDisarm | with_reducible apply Keep.State_updNet | with_reducible apply Keep.ite | split | with_reducible refine Keep.fromSome (by with_reducible assumption) ?_ | with_reducible refine Keep.fromInr (by with_reducible assumption) ?_ | with_reducible refine Keep.fromInl (by with_reducible assumption) ?_ | with_reducible refine Keep.fromPair (by with_reducible assumption) ?_ | with_reducible refine Keep.fromPair1 (by with_reducible assumption) ?_ | with_reducible apply Keep.mk)

theorem Keep.State_totRecover {μ : Mark} (s : State) (m : TotMsg) (ty : Nat) (h_s : μ.ok s) : μ.ok (State.totRecover s m ty) := by
  unfold State.totRecover
  try dsimp only
  repeat' (first | with_reducible assumption | with_reducible apply Keep.State_totRead | with_reducible apply Keep.State_totWrite | with_reducible apply Keep.State_xferInit | with_reducible apply Keep.State_xferData | with_reducible apply Keep.State_xferAck | with_reducible apply Keep.State_xferEnd | with_reducible apply Keep.State_xferAbort | with_reducible apply Keep.ite)

theorem Keep.State_totDispatch {μ : Mark} (s : State) (m : TotMsg) (h_s : μ.ok s) : μ.ok (State.totDispatch s m) := by
  unfold State.totDispatch
  try dsimp only
  repeat' (first | with_reducible assumption | with_reducible apply Keep.State_netCount | with_reducible apply Keep.State_totRecover | with_reducible apply Keep.State_subscribe | with_reducible apply Keep.State_notifyAck | with_reducible apply Keep.State_planMcast | with_reducible apply Keep.ite)

theorem Keep.State_totRx {μ : Mark} (s : State) (d : List Nat) (h_s : μ.ok s) : μ.ok (State.totRx s d) := by
  unfold State.totRx
  try dsimp only
  repeat' (first | with_reducible assumption | intro _ | with_reducible apply Keep.State_updNet | with_reducible apply Keep.State_totOpen | with_reducible apply Keep.State_totDispatch | with_reducible apply Keep.ite | split | with_reducible refine Keep.fromSome (by with_reducible assumption) ?_ | with_reducible refine Keep.fromInr (by with_reducible assumption) ?_ | with_reducible refine Keep.fromInl (by with_reducible assumption) ?_ | with_reducible refine Keep.fromPair (by with_reducible assumption) ?_ | with_reducible refine Keep.fromPair1 (by with_reducible assumption) ?_ | with_reducible apply Keep.mk)

theorem Keep.State_totCmd {μ : Mark} (s : State) (ty : Nat) (d : List Nat) (h_s : μ.ok s) : μ.okOut (State.totCmd s ty d) := by
  unfold State.totCmd
  try dsimp only
  repeat' (first | with_reducible assumption | with_reducible apply Keep.State_totRx | with_reducible apply Keep.next | with_reducible apply Keep.ite | with_reducible apply Keep.iteO)

theorem Keep.c_execReadReq {μ : Mark} (d : List Nat) (s : State) (h_s : μ.ok s) : μ.okOut (execReadReq d s) := by
  unfold execReadReq
  try dsimp only
  repeat' (first | with_reducible assumption | with_reducible apply Keep.State_totCmd | with_reducible apply Keep.next | with_reducible apply Keep.ite | with_reducible apply Keep.iteO)

theorem Keep.c_execWriteReq {μ : Mark} (d : List Nat) (s : State) (h_s : μ.ok s) : μ.okOut (execWriteReq d s) := by
  unfold execWriteReq
  try dsimp only
  repeat' (first | with_reducible assumption | with_reducible apply Keep.State_totCmd | with_reducible apply Keep.next | with_reducible apply Keep.ite | with_reducible apply Keep.iteO)

theorem Keep.c_execXferInit {μ : Mark} (d : List Nat) (s : State) (h_s : μ.ok s) : μ.okOut (execXferInit d s) := by
  unfold execXferInit
  try dsimp only
  repeat' (first | with_reducible assumption | with_reducible apply Keep.State_totCmd | with_reducible apply Keep.next | with_reducible apply Keep.ite | with_reducible apply Keep.iteO)

theorem Keep.c_execXferData {μ : Mark} (d : List Nat) (s : State) (h_s : μ.ok s) : μ.okOut (execXferData d s) := by
  unfold execXferData
  try dsimp only
  repeat' (first | with_reducible assumption | with_reducible apply Keep.State_totCmd | with_reducible apply Keep.next | with_reducible apply Keep.ite | with_reducible apply Keep.iteO)

theorem Keep.c_execXferAck {μ : Mark} (d : List Nat) (s : State) (h_s : μ.ok s) : μ.okOut (execXferAck d s) := by
  unfold execXferAck
  try dsimp only
  repeat' (first | with_reducible assumption | with_reducible apply Keep.State_totCmd | with_reducible apply Keep.next | with_reducible apply Keep.ite | with_reducible apply Keep.iteO)

theorem Keep.c_execXferEnd {μ : Mark} (d : List Nat) (s : State) (h_s : μ.ok s) : μ.okOut (execXferEnd d s) := by
  unfold execXferEnd
  try dsimp only
  repeat' (first | with_reducible assumption | with_reducible apply Keep.State_totCmd | with_reducible apply Keep.next | with_reducible apply Keep.ite | with_reducible apply Keep.iteO)

theorem Keep.c_execXferAbort {μ : Mark} (d : List Nat) (s : State) (h_s : μ.ok s) : μ.okOut (execXferAbort d s) := by
  unfold execXferAbort
  try dsimp only
  repeat' (first | with_reducible assumption | with_reducible apply Keep.State_totCmd | with_reducible apply Keep.next | with_reducible apply Keep.ite | with_reducible apply Keep.iteO)

theorem Keep.c_execSubscribe {μ : Mark} (d : List Nat) (s : State) (h_s : μ.ok s) : μ.okOut (execSubscribe d s) := by
  unfold execSubscribe
  try dsimp only
  repeat' (first | with_reducible assumption | with_reducible apply Keep.State_totCmd | with_reducible apply Keep.next | with_reducible apply Keep.ite | with_reducible apply Keep.iteO)

theorem Keep.c_execNotifyAck {μ : Mark} (d : List Nat) (s : State) (h_s : μ.ok s) : μ.okOut (execNotifyAck d s) := by
  unfold execNotifyAck
  try dsimp only
  repeat' (first | with_reducible assumption | with_reducible apply Keep.State_totCmd | with_reducible apply Keep.next | with_reducible apply Keep.ite | with_reducible apply Keep.iteO)

theorem Keep.c_execPlanMcast {μ : Mark} (d : List Nat) (s : State) (h_s : μ.ok s) : μ.okOut (execPlanMcast d s) := by
  unfold execPlanMcast
  try dsimp only
  repeat' (first | with_reducible assumption | with_reducible apply Keep.State_totCmd | with_reducible apply Keep.next | with_reducible apply Keep.ite | with_reducible apply Keep.iteO)

theorem Keep.c_execTotUnknownType {μ : Mark} (d : List Nat) (s : State) (h_s : μ.ok s) : μ.okOut (execTotUnknownType d s) := by
  unfold execTotUnknownType
  try dsimp only
  repeat' (first | with_reducible assumption | with_reducible apply Keep.State_totRx | with_reducible apply Keep.next | with_reducible apply Keep.ite | with_reducible apply Keep.iteO)

theorem Keep.State_netTime {μ : Mark} (s : State) (g : State → State) (h_s : μ.ok s) (h_g : ∀ t, μ.ok t → μ.ok (g t)) : μ.okOut (State.netTime s g) := by
  unfold State.netTime
  try dsimp only
  repeat' (first | with_reducible assumption | intro _ | with_reducible apply h_g | with_reducible apply Keep.State_updNet | with_reducible apply Keep.next | with_reducible apply Keep.ite | with_reducible apply Keep.iteO | with_reducible apply Keep.mk)

theorem Keep.c_execXferResendTimeout {μ : Mark} (k : Nat) (s : State) (h_s : μ.ok s) : μ.okOut (execXferResendTimeout k s) := by
  unfold execXferResendTimeout
  try dsimp only
  repeat' (first | with_reducible assumption | intro _ | with_reducible apply Keep.State_netTime | with_reducible apply Keep.State_xferPut | with_reducible apply Keep.State_xferWindow | with_reducible apply Keep.State_xferDrop | with_reducible apply Keep.State_xferSend | with_reducible apply Keep.next | with_reducible apply Keep.ite | with_reducible apply Keep.iteO | split | with_reducible refine Keep.fromSome (by with_reducible assumption) ?_ | with_reducible refine Keep.fromInr (by with_reducible assumption) ?_ | with_reducible refine Keep.fromInl (by with_reducible assumption) ?_ | with_reducible refine Keep.fromPair (by with_reducible assumption) ?_ | with_reducible refine Keep.fromPair1 (by with_reducible assumption) ?_ | with_reducible apply Keep.mk)

theorem Keep.c_execXferIdleTimeout {μ : Mark} (k : Nat) (s : State) (h_s : μ.ok s) : μ.okOut (execXferIdleTimeout k s) := by
  unfold execXferIdleTimeout
  try dsimp only
  repeat' (first | with_reducible assumption | intro _ | with_reducible apply Keep.State_netTime | with_reducible apply Keep.State_xferDrop | with_reducible apply Keep.State_xferSend | with_reducible apply Keep.next | with_reducible apply Keep.ite | with_reducible apply Keep.iteO | split | with_reducible refine Keep.fromSome (by with_reducible assumption) ?_ | with_reducible refine Keep.fromInr (by with_reducible assumption) ?_ | with_reducible refine Keep.fromInl (by with_reducible assumption) ?_ | with_reducible refine Keep.fromPair (by with_reducible assumption) ?_ | with_reducible refine Keep.fromPair1 (by with_reducible assumption) ?_)

theorem Keep.c_execNotifySend {μ : Mark} (k : Nat) (s : State) (h_s : μ.ok s) : μ.okOut (execNotifySend k s) := by
  unfold execNotifySend
  try dsimp only
  repeat' (first | with_reducible assumption | intro _ | with_reducible apply Keep.State_netTime | with_reducible apply Keep.State_notifyDue | with_reducible apply Keep.next | with_reducible apply Keep.ite | with_reducible apply Keep.iteO | split | with_reducible refine Keep.fromSome (by with_reducible assumption) ?_ | with_reducible refine Keep.fromInr (by with_reducible assumption) ?_ | with_reducible refine Keep.fromInl (by with_reducible assumption) ?_ | with_reducible refine Keep.fromPair (by with_reducible assumption) ?_ | with_reducible refine Keep.fromPair1 (by with_reducible assumption) ?_)

theorem Keep.c_execNotifyResendTimeout {μ : Mark} (k : Nat) (s : State) (h_s : μ.ok s) : μ.okOut (execNotifyResendTimeout k s) := by
  unfold execNotifyResendTimeout
  try dsimp only
  repeat' (first | with_reducible assumption | intro _ | with_reducible apply Keep.State_netTime | with_reducible apply Keep.State_netCount | with_reducible apply Keep.State_subPut | with_reducible apply Keep.State_totOut | with_reducible apply Keep.State_subDrop | with_reducible apply Keep.State_notifyGo | with_reducible apply Keep.next | with_reducible apply Keep.ite | with_reducible apply Keep.iteO | split | with_reducible refine Keep.fromSome (by with_reducible assumption) ?_ | with_reducible refine Keep.fromInr (by with_reducible assumption) ?_ | with_reducible refine Keep.fromInl (by with_reducible assumption) ?_ | with_reducible refine Keep.fromPair (by with_reducible assumption) ?_ | with_reducible refine Keep.fromPair1 (by with_reducible assumption) ?_ | with_reducible apply Keep.mk)

theorem Keep.c_execSubscriptionExpiry {μ : Mark} (k : Nat) (s : State) (h_s : μ.ok s) : μ.okOut (execSubscriptionExpiry k s) := by
  unfold execSubscriptionExpiry
  try dsimp only
  repeat' (first | with_reducible assumption | intro _ | with_reducible apply Keep.State_netTime | with_reducible apply Keep.State_subDrop | with_reducible apply Keep.State_notifyGo | with_reducible apply Keep.next | with_reducible apply Keep.ite | with_reducible apply Keep.iteO | split | with_reducible refine Keep.fromSome (by with_reducible assumption) ?_ | with_reducible refine Keep.fromInr (by with_reducible assumption) ?_ | with_reducible refine Keep.fromInl (by with_reducible assumption) ?_ | with_reducible refine Keep.fromPair (by with_reducible assumption) ?_ | with_reducible refine Keep.fromPair1 (by with_reducible assumption) ?_)

end Sys2Proof.Machine
end

