-- ==== Sys2Proof/Laws/KeepEth.lean ====
section
/-! SUPPORT. What the operations of Machine/Eth.lean keep of a mark. -/

namespace Sys2Proof.Machine

open Sys2Proof

set_option linter.unreachableTactic false
set_option linter.unusedTactic false

theorem Keep.c_execPhyLinkChange {μ : Mark} (up : Bool) (level sqi : Nat) (s : State) (h_s : μ.ok s) : μ.okOut (execPhyLinkChange up level sqi s) := by
  unfold execPhyLinkChange
  try dsimp only
  repeat' (first | with_reducible assumption | intro _ | with_reducible apply Keep.State_updNet | with_reducible apply Keep.State_sourceEvent | with_reducible apply Keep.next | with_reducible apply Keep.ite | with_reducible apply Keep.iteO | with_reducible apply Keep.mk)

theorem Keep.State_slaacAdd {μ : Mark} (s : State) (l : List (List Nat)) (h_s : μ.ok s) : μ.ok (State.slaacAdd s l) := by
  unfold State.slaacAdd
  try dsimp only
  repeat' (first | with_reducible assumption | intro _ | with_reducible apply Keep.State_updNet | with_reducible apply Keep.ite | with_reducible apply Keep.mk)

theorem Keep.State_ipRx {μ : Mark} (s : State) (p : List Nat) (h_s : μ.ok s) : μ.ok (State.ipRx s p) := by
  unfold State.ipRx
  try dsimp only
  repeat' (first | with_reducible assumption | with_reducible apply Keep.State_totRx | with_reducible apply Keep.State_slaacAdd | with_reducible apply Keep.ite)

theorem Keep.c_execMacFrameRx {μ : Mark} (frame : List Nat) (fcsOk : Bool) (s : State) (h_s : μ.ok s) : μ.okOut (execMacFrameRx frame fcsOk s) := by
  unfold execMacFrameRx
  try dsimp only
  repeat' (first | with_reducible assumption | intro _ | with_reducible apply Keep.State_updNet | with_reducible apply Keep.State_sourceEvent | with_reducible apply Keep.State_ipRx | with_reducible apply Keep.next | with_reducible apply Keep.ite | with_reducible apply Keep.iteO | with_reducible apply Keep.mk)

theorem Keep.State_ptpLock {μ : Mark} (s : State) (h_s : μ.ok s) : μ.ok (State.ptpLock s) := by
  unfold State.ptpLock
  try dsimp only
  repeat' (first | with_reducible assumption | with_reducible apply Keep.set | with_reducible apply Keep.State_sourceEvent | with_reducible apply Keep.State_synthEnter | with_reducible apply Keep.ite)

theorem Keep.State_ptpLose {μ : Mark} (s : State) (h_s : μ.ok s) : μ.ok (State.ptpLose s) := by
  unfold State.ptpLose
  try dsimp only
  repeat' (first | with_reducible assumption | intro _ | with_reducible apply Keep.set | with_reducible apply Keep.State_sourceEvent | with_reducible apply Keep.State_updNet | with_reducible apply Keep.State_updAtb | with_reducible apply Keep.State_atbEnter | with_reducible apply Keep.ite | with_reducible apply Keep.mk)

theorem Keep.State_ptpSync {μ : Mark} (s : State) (offset : Int) (delay ptpNs : Nat) (h_s : μ.ok s) : μ.ok (State.ptpSync s offset delay ptpNs) := by
  unfold State.ptpSync
  try dsimp only
  repeat' (first | with_reducible assumption | with_reducible apply Keep.State_ptpLose | with_reducible apply Keep.State_ptpLock | with_reducible apply Keep.ite | with_reducible apply Keep.mk)

theorem Keep.c_execPtpSyncRx {μ : Mark} (offset : Int) (delay ptpNs : Nat) (s : State) (h_s : μ.ok s) : μ.okOut (execPtpSyncRx offset delay ptpNs s) := by
  unfold execPtpSyncRx
  try dsimp only
  repeat' (first | with_reducible assumption | with_reducible apply Keep.State_sourceEvent | with_reducible apply Keep.State_ptpSync | with_reducible apply Keep.next | with_reducible apply Keep.ite | with_reducible apply Keep.iteO)

theorem Keep.c_execPtpLoss {μ : Mark} (s : State) (h_s : μ.ok s) : μ.okOut (execPtpLoss s) := by
  unfold execPtpLoss
  try dsimp only
  repeat' (first | with_reducible assumption | with_reducible apply Keep.State_ptpLose | with_reducible apply Keep.next | with_reducible apply Keep.ite | with_reducible apply Keep.iteO)

end Sys2Proof.Machine
end

