-- ==== Sys2Proof/Laws/KeepHlk.lean ====
section
/-! SUPPORT. What the operations of Machine/Hlk.lean keep of a mark. -/

namespace Sys2Proof.Machine

open Sys2Proof

set_option linter.unreachableTactic false
set_option linter.unusedTactic false

theorem Keep.State_updHlk {μ : Mark} (s : State) (g : Hlk → Hlk) (h_s : μ.ok s) : μ.ok (State.updHlk s g) := by
  unfold State.updHlk
  try dsimp only
  repeat' (first | with_reducible assumption | with_reducible apply Keep.ite | with_reducible apply Keep.mk)

theorem Keep.State_hlShow {μ : Mark} (s : State) (h_s : μ.ok s) : μ.ok (State.hlShow s) := by
  unfold State.hlShow
  try dsimp only
  repeat' (first | with_reducible assumption | with_reducible apply Keep.set | with_reducible apply Keep.ite)

theorem Keep.c_execHlCsFall {μ : Mark} (sclk : Bool) (s : State) (h_s : μ.ok s) : μ.okOut (execHlCsFall sclk s) := by
  unfold execHlCsFall
  try dsimp only
  repeat' (first | with_reducible assumption | intro _ | with_reducible apply Keep.set | with_reducible apply Keep.State_updHlk | with_reducible apply Keep.next | with_reducible apply Keep.ite | with_reducible apply Keep.iteO | with_reducible apply Keep.mk)

theorem Keep.State_hlEnd {μ : Mark} (s : State) (clocks : Nat) (h_s : μ.ok s) : μ.ok (State.hlEnd s clocks) := by
  unfold State.hlEnd
  try dsimp only
  repeat' (first | with_reducible assumption | intro _ | with_reducible apply Keep.State_updHlk | with_reducible apply Keep.State_hlShow | with_reducible apply Keep.ite | with_reducible apply Keep.mk)

theorem Keep.State_hlReject {μ : Mark} (s : State) (bit : Nat) (f : Fld) (h_s : μ.ok s) : μ.ok (State.hlReject s bit f) := by
  unfold State.hlReject
  try dsimp only
  repeat' (first | with_reducible assumption | intro _ | with_reducible apply Keep.set | with_reducible apply Keep.State_updHlk | with_reducible apply Keep.State_bump | with_reducible apply Keep.ite | with_reducible apply Keep.mk)

theorem Keep.State_hlAccept {μ : Mark} (s : State) (f : List Nat) (h_s : μ.ok s) : μ.ok (State.hlAccept s f) := by
  unfold State.hlAccept
  try dsimp only
  repeat' (first | with_reducible assumption | intro _ | with_reducible apply Keep.set | with_reducible apply Keep.State_updHlk | with_reducible apply Keep.State_bump | with_reducible apply Keep.ite | with_reducible apply Keep.mk)

theorem Keep.State_hlResult {μ : Mark} (s : State) (f : List Nat) (eob : Bool) (body : List Nat) (h_s : μ.ok s) : μ.ok (State.hlResult s f eob body) := by
  unfold State.hlResult
  try dsimp only
  repeat' (first | with_reducible assumption | intro _ | with_reducible apply Keep.State_updHlk | with_reducible apply Keep.State_hlShow | with_reducible apply Keep.ite | with_reducible apply Keep.mk)

theorem Keep.State_hlFrame {μ : Mark} (s : State) (ty : Nat) (f : List Nat) (g : State → Out) (h_s : μ.ok s) (h_g : ∀ t, μ.ok t → μ.okOut (g t)) : μ.okOut (State.hlFrame s ty f g) := by
  unfold State.hlFrame
  try dsimp only
  repeat' (first | with_reducible assumption | intro _ | with_reducible apply h_g | with_reducible apply Keep.State_hlEnd | with_reducible apply Keep.State_hlReject | with_reducible apply Keep.State_hlAccept | with_reducible apply Keep.next | with_reducible apply Keep.ite | with_reducible apply Keep.iteO | split | with_reducible refine Keep.fromSome (by with_reducible assumption) ?_ | with_reducible refine Keep.fromInr (by with_reducible assumption) ?_ | with_reducible refine Keep.fromInl (by with_reducible assumption) ?_ | with_reducible refine Keep.fromPair (by with_reducible assumption) ?_ | with_reducible refine Keep.fromPair1 (by with_reducible assumption) ?_)

theorem Keep.c_execHlFrameReject {μ : Mark} (clocks : Nat) (frame : List Nat) (s : State) (h_s : μ.ok s) : μ.okOut (execHlFrameReject clocks frame s) := by
  unfold execHlFrameReject
  try dsimp only
  repeat' (first | with_reducible assumption | with_reducible apply Keep.State_hlEnd | with_reducible apply Keep.State_hlReject | with_reducible apply Keep.next | with_reducible apply Keep.ite | with_reducible apply Keep.iteO | split | with_reducible refine Keep.fromSome (by with_reducible assumption) ?_ | with_reducible refine Keep.fromInr (by with_reducible assumption) ?_ | with_reducible refine Keep.fromInl (by with_reducible assumption) ?_ | with_reducible refine Keep.fromPair (by with_reducible assumption) ?_ | with_reducible refine Keep.fromPair1 (by with_reducible assumption) ?_)

theorem Keep.c_execHlNop {μ : Mark} (frame : List Nat) (s : State) (h_s : μ.ok s) : μ.okOut (execHlNop frame s) := by
  unfold execHlNop
  try dsimp only
  repeat' (first | with_reducible assumption | intro _ | with_reducible apply Keep.State_hlFrame | with_reducible apply Keep.next | with_reducible apply Keep.ite | with_reducible apply Keep.iteO)

theorem Keep.c_execHlSync {μ : Mark} (frame : List Nat) (s : State) (h_s : μ.ok s) : μ.okOut (execHlSync frame s) := by
  unfold execHlSync
  try dsimp only
  repeat' (first | with_reducible assumption | intro _ | with_reducible apply Keep.State_hlFrame | with_reducible apply Keep.next | with_reducible apply Keep.ite | with_reducible apply Keep.iteO)

theorem Keep.State_hlWord {μ : Mark} (p : State × HlRun) (w : Option Nat) (h_p : μ.ok p.1) : μ.ok (State.hlWord p w).1 := by
  unfold State.hlWord
  try dsimp only
  repeat' (first | with_reducible assumption | with_reducible apply Keep.State_busWrite | with_reducible apply Keep.State_busRead | with_reducible apply Keep.ite | with_reducible apply Keep.iteP | split | with_reducible refine Keep.fromSome (by with_reducible assumption) ?_ | with_reducible refine Keep.fromInr (by with_reducible assumption) ?_ | with_reducible refine Keep.fromInl (by with_reducible assumption) ?_ | with_reducible refine Keep.fromPair (by with_reducible assumption) ?_ | with_reducible refine Keep.fromPair1 (by with_reducible assumption) ?_ | with_reducible apply Keep.mk)

theorem Keep.State_hlWords {μ : Mark} (s : State) (f : List Nat) (start : Option Nat) (ws : List (Option Nat)) (read : Bool)
    (h_s : μ.ok s) : μ.okOut (s.hlWords f start ws read) := by
  have hp : ∀ (l : List (Option Nat)) (p : State × HlRun), μ.ok p.1 → μ.ok (l.foldl State.hlWord p).1 := by
    intro l
    induction l with
    | nil => exact fun p h => h
    | cons x r ih => exact fun p h => ih _ (Keep.State_hlWord p x h)
  have h1 := hp ws (s, { ptr := start }) h_s
  unfold State.hlWords
  generalize ws.foldl State.hlWord (s, { ptr := start }) = p at h1 ⊢
  dsimp only
  split
  · exact Keep.refused
  · apply Keep.next
    apply Keep.State_hlResult
    repeat' (first | with_reducible assumption | with_reducible apply Keep.set | with_reducible apply Keep.State_bump | with_reducible apply Keep.ite | split)

theorem Keep.c_execRegRead {μ : Mark} (frame : List Nat) (s : State) (h_s : μ.ok s) : μ.okOut (execRegRead frame s) := by
  unfold execRegRead
  try dsimp only
  repeat' (first | with_reducible assumption | intro _ | with_reducible apply Keep.State_hlFrame | with_reducible apply Keep.State_hlWords | with_reducible apply Keep.next | with_reducible apply Keep.ite | with_reducible apply Keep.iteO)

theorem Keep.c_execRegWriteAt {μ : Mark} (frame : List Nat) (s : State) (h_s : μ.ok s) : μ.okOut (execRegWriteAt frame s) := by
  unfold execRegWriteAt
  try dsimp only
  repeat' (first | with_reducible assumption | intro _ | with_reducible apply Keep.State_hlFrame | with_reducible apply Keep.State_hlWords | with_reducible apply Keep.next | with_reducible apply Keep.ite | with_reducible apply Keep.iteO)

theorem Keep.c_execRegWriteNext {μ : Mark} (frame : List Nat) (s : State) (h_s : μ.ok s) : μ.okOut (execRegWriteNext frame s) := by
  unfold execRegWriteNext
  try dsimp only
  repeat' (first | with_reducible assumption | intro _ | with_reducible apply Keep.State_hlFrame | with_reducible apply Keep.State_hlWords | with_reducible apply Keep.next | with_reducible apply Keep.ite | with_reducible apply Keep.iteO)

theorem Keep.State_hlObjRead {μ : Mark} (s : State) (f : List Nat) (h_s : μ.ok s) : μ.ok (State.hlObjRead s f) := by
  unfold State.hlObjRead
  try dsimp only
  repeat' (first | with_reducible assumption | with_reducible apply Keep.fresh | with_reducible apply Keep.State_hlResult | with_reducible apply Keep.ite | with_reducible apply Keep.iteP | split | with_reducible refine Keep.fromSome (by with_reducible assumption) ?_ | with_reducible refine Keep.fromInr (by with_reducible assumption) ?_ | with_reducible refine Keep.fromInl (by with_reducible assumption) ?_ | with_reducible refine Keep.fromPair (by with_reducible assumption) ?_ | with_reducible refine Keep.fromPair1 (by with_reducible assumption) ?_)

theorem Keep.c_execObjRead {μ : Mark} (frame : List Nat) (s : State) (h_s : μ.ok s) : μ.okOut (execObjRead frame s) := by
  unfold execObjRead
  try dsimp only
  repeat' (first | with_reducible assumption | intro _ | with_reducible apply Keep.State_hlFrame | with_reducible apply Keep.State_hlObjRead | with_reducible apply Keep.next | with_reducible apply Keep.ite | with_reducible apply Keep.iteO)

theorem Keep.State_hlUnstage {μ : Mark} (s : State) (i sub : Nat) (h_s : μ.ok s) : μ.ok (State.hlUnstage s i sub) := by
  unfold State.hlUnstage
  try dsimp only
  repeat' (first | with_reducible assumption | intro _ | with_reducible apply Keep.State_setXfers | with_reducible apply Keep.ite)

theorem Keep.State_hlObjDone {μ : Mark} (s : State) (f : List Nat) (c next : Nat) (h_s : μ.ok s) : μ.ok (State.hlObjDone s f c next) := by
  unfold State.hlObjDone
  try dsimp only
  repeat' (first | with_reducible assumption | with_reducible apply Keep.State_hlResult | with_reducible apply Keep.ite)

theorem Keep.State_hlSegment {μ : Mark} (s : State) (f : List Nat) (x : Xfer) (h_s : μ.ok s) : μ.ok (State.hlSegment s f x) := by
  unfold State.hlSegment
  try dsimp only
  repeat' (first | with_reducible assumption | with_reducible apply Keep.State_hlObjDone | with_reducible apply Keep.State_hlUnstage | with_reducible apply Keep.State_imgSegment | with_reducible apply Keep.State_setXfers | with_reducible apply Keep.State_odPut | with_reducible apply Keep.ite | with_reducible apply Keep.mk)

theorem Keep.State_hlOpen {μ : Mark} (s : State) (f : List Nat) (i sub : Nat) (h_s : μ.ok s) : μ.ok (State.hlOpen s f i sub) := by
  unfold State.hlOpen
  try dsimp only
  repeat' (first | with_reducible assumption | with_reducible apply Keep.State_hlObjDone | with_reducible apply Keep.State_setXfers | with_reducible apply Keep.State_hlSegment | with_reducible apply Keep.ite | with_reducible apply Keep.mk)

theorem Keep.State_hlObjWrite {μ : Mark} (s : State) (f : List Nat) (h_s : μ.ok s) : μ.ok (State.hlObjWrite s f) := by
  unfold State.hlObjWrite
  try dsimp only
  repeat' (first | with_reducible assumption | with_reducible apply Keep.State_hlObjDone | with_reducible apply Keep.State_hlSegment | with_reducible apply Keep.State_hlOpen | with_reducible apply Keep.State_odWrite | with_reducible apply Keep.ite | split | with_reducible refine Keep.fromSome (by with_reducible assumption) ?_ | with_reducible refine Keep.fromInr (by with_reducible assumption) ?_ | with_reducible refine Keep.fromInl (by with_reducible assumption) ?_ | with_reducible refine Keep.fromPair (by with_reducible assumption) ?_ | with_reducible refine Keep.fromPair1 (by with_reducible assumption) ?_)

theorem Keep.c_execObjWrite {μ : Mark} (frame : List Nat) (s : State) (h_s : μ.ok s) : μ.okOut (execObjWrite frame s) := by
  unfold execObjWrite
  try dsimp only
  repeat' (first | with_reducible assumption | intro _ | with_reducible apply Keep.State_hlFrame | with_reducible apply Keep.State_hlObjWrite | with_reducible apply Keep.next | with_reducible apply Keep.ite | with_reducible apply Keep.iteO)

theorem Keep.c_execHlStagedWriteTimeout {μ : Mark} (s : State) (h_s : μ.ok s) : μ.okOut (execHlStagedWriteTimeout s) := by
  unfold execHlStagedWriteTimeout
  try dsimp only
  repeat' (first | with_reducible assumption | intro _ | with_reducible apply Keep.State_hlUnstage | with_reducible apply Keep.next | with_reducible apply Keep.ite | with_reducible apply Keep.iteO | split | with_reducible refine Keep.fromSome (by with_reducible assumption) ?_ | with_reducible refine Keep.fromInr (by with_reducible assumption) ?_ | with_reducible refine Keep.fromInl (by with_reducible assumption) ?_ | with_reducible refine Keep.fromPair (by with_reducible assumption) ?_ | with_reducible refine Keep.fromPair1 (by with_reducible assumption) ?_)

end Sys2Proof.Machine
end

