-- ==== Sys2Proof/Laws/KeepTick.lean ====
section
/-! SUPPORT. What the operations of Machine/Tick.lean keep of a mark. -/

namespace Sys2Proof.Machine

open Sys2Proof

set_option linter.unreachableTactic false
set_option linter.unusedTactic false

theorem Keep.State_tmrTick {μ : Mark} (s : State) (n : Nat) (h_s : μ.ok s) : μ.ok (State.tmrTick s n) := by
  unfold State.tmrTick
  try dsimp only
  repeat' (first | with_reducible assumption | with_reducible apply Keep.set | with_reducible apply Keep.ite | with_reducible apply Keep.mk)

theorem Keep.State_dmaTake {μ : Mark} (s : State) (h_s : μ.ok s) : μ.ok (State.dmaTake s) := by
  unfold State.dmaTake
  try dsimp only
  repeat' (first | with_reducible assumption | intro _ | with_reducible apply Keep.forL | with_reducible apply Keep.State_updGrn | with_reducible apply Keep.State_regWrite | with_reducible apply Keep.ite | with_reducible apply Keep.getD | split | with_reducible refine Keep.fromSome (by with_reducible assumption) ?_ | with_reducible refine Keep.fromInr (by with_reducible assumption) ?_ | with_reducible refine Keep.fromInl (by with_reducible assumption) ?_ | with_reducible refine Keep.fromPair (by with_reducible assumption) ?_ | with_reducible refine Keep.fromPair1 (by with_reducible assumption) ?_ | with_reducible apply Keep.mk)

theorem Keep.State_busTick {μ : Mark} (s : State) (h_s : μ.ok s) : μ.ok (State.busTick s) := by
  unfold State.busTick
  try dsimp only
  repeat' (first | with_reducible assumption | intro _ | with_reducible apply Keep.forN | with_reducible apply Keep.State_irqTake | with_reducible apply Keep.State_dmaTake | with_reducible apply Keep.State_tmrTick | with_reducible apply Keep.ite | with_reducible apply Keep.mk)

theorem Keep.State_phaseTick {μ : Mark} (s : State) (h_s : μ.ok s) : μ.ok (State.phaseTick s) := by
  unfold State.phaseTick
  try dsimp only
  repeat' (first | with_reducible assumption | intro _ | with_reducible apply Keep.State_updAtb | with_reducible apply Keep.ite | with_reducible apply Keep.mk)

theorem Keep.State_slowTick {μ : Mark} (s : State) (h_s : μ.ok s) : μ.ok (State.slowTick s) := by
  unfold State.slowTick
  try dsimp only
  repeat' (first | with_reducible assumption | with_reducible apply Keep.set | with_reducible apply Keep.State_aonEdge | with_reducible apply Keep.ite)

theorem Keep.State_searchTick {μ : Mark} (s : State) (m : Nat) (h_s : μ.ok s) : μ.ok (State.searchTick s m) := by
  unfold State.searchTick
  try dsimp only
  repeat' (first | with_reducible assumption | with_reducible apply Keep.set | with_reducible apply Keep.State_rfsSearch | with_reducible apply Keep.State_setSynth | with_reducible apply Keep.ite | split | with_reducible refine Keep.fromSome (by with_reducible assumption) ?_ | with_reducible refine Keep.fromInr (by with_reducible assumption) ?_ | with_reducible refine Keep.fromInl (by with_reducible assumption) ?_ | with_reducible refine Keep.fromPair (by with_reducible assumption) ?_ | with_reducible refine Keep.fromPair1 (by with_reducible assumption) ?_ | with_reducible apply Keep.mk)

theorem Keep.State_fwdTick {μ : Mark} (s : State) (n : Nat) (h_s : μ.ok s) : μ.ok (State.fwdTick s n) := by
  unfold State.fwdTick
  try dsimp only
  repeat' (first | with_reducible assumption | with_reducible apply Keep.set | with_reducible apply Keep.fresh | with_reducible apply Keep.ite | with_reducible apply Keep.iteP)

theorem Keep.State_onTick {μ : Mark} (s : State) (n : Nat) (h_s : μ.ok s) : μ.ok (State.onTick s n) := by
  unfold State.onTick
  try dsimp only
  repeat' (first | with_reducible assumption | with_reducible apply Keep.set | with_reducible apply Keep.State_bump | with_reducible apply Keep.ite | with_reducible apply Keep.mk)

theorem Keep.State_occTick {μ : Mark} (s : State) (c : Nat) (h_s : μ.ok s) : μ.ok (State.occTick s c) := by
  unfold State.occTick
  try dsimp only
  repeat' (first | with_reducible assumption | with_reducible apply Keep.set | with_reducible apply Keep.ite | with_reducible apply Keep.mk)

theorem Keep.State_tenTick {μ : Mark} (s : State) (h_s : μ.ok s) : μ.ok (State.tenTick s) := by
  unfold State.tenTick
  try dsimp only
  repeat' (first | with_reducible assumption | intro _ | with_reducible apply Keep.forN | with_reducible apply Keep.forL | with_reducible apply Keep.State_onTick | with_reducible apply Keep.State_occTick | with_reducible apply Keep.State_rgeWatch | with_reducible apply Keep.State_calWatch | with_reducible apply Keep.ite)

theorem Keep.State_usTick {μ : Mark} (s : State) (h_s : μ.ok s) : μ.ok (State.usTick s) := by
  unfold State.usTick
  try dsimp only
  repeat' (first | with_reducible assumption | intro _ | with_reducible apply Keep.forN | with_reducible apply Keep.State_fwdTick | with_reducible apply Keep.State_rgeWatch | with_reducible apply Keep.ite)

theorem Keep.State_binTick {μ : Mark} (s : State) (h_s : μ.ok s) : μ.ok (State.binTick s) := by
  unfold State.binTick
  try dsimp only
  repeat' (first | with_reducible assumption | with_reducible apply Keep.ite | with_reducible apply Keep.mk)

end Sys2Proof.Machine
end

