-- ==== Sys2Proof/Laws/KeepStep.lean ====
section
/-! SUPPORT. What a step keeps: a command leaves the queue behind it, the time and the canonical forms; a cycle of the clocks
moves time by one. -/

namespace Sys2Proof.Machine

open Sys2Proof

/-- What every command keeps. -/
theorem Keep.exec_next {μ : Mark} (i : Instr) (s : State) (h : μ.ok s) : μ.okOut (exec i s) := by
  cases i
  case registerWrite m addr width value => exact Keep.c_execRegisterWrite m addr width value s h
  case rcRead m addr width => exact Keep.c_execRcRead m addr width s h
  case loReadShadow m addr => exact Keep.c_execLoReadShadow m addr s h
  case irqCfgWrite m value => exact Keep.c_execIrqCfgWrite m value s h
  case seqMemoryWrite m addr width value => exact Keep.c_execSeqMemoryWrite m addr width value s h
  case debugHalt core => exact Keep.c_execDebugHalt core s h
  case debugRelease core => exact Keep.c_execDebugRelease core s h
  case atbEnable => exact Keep.c_execAtbEnable s h
  case atbDisable => exact Keep.c_execAtbDisable s h
  case atbSourceChange src => exact Keep.c_execAtbSourceChange src s h
  case atbStandaloneClear => exact Keep.c_execAtbStandaloneClear s h
  case atbOffsetWrite v => exact Keep.c_execAtbOffsetWrite v s h
  case mainsSyncEdge rising held angle spacing => exact Keep.c_execMainsSyncEdge rising held angle spacing s h
  case holdover => exact Keep.c_execHoldover s h
  case holdExpired => exact Keep.c_execHoldExpired s h
  case cycleBoundary ptpNs => exact Keep.c_execCycleBoundary ptpNs s h
  case anchorEvaluate ptpNs => exact Keep.c_execAnchorEvaluate ptpNs s h
  case adjGo => exact Keep.c_execAdjGo s h
  case planArm => exact Keep.c_execPlanArm s h
  case planDisarm => exact Keep.c_execPlanDisarm s h
  case planDataAccess write v => exact Keep.c_execPlanDataAccess write v s h
  case pendingPlanWrite body => exact Keep.c_execPendingPlanWrite body s h
  case slotPrep slot => exact Keep.c_execSlotPrep slot s h
  case slotStart slot => exact Keep.c_execSlotStart slot s h
  case slotEnd slot => exact Keep.c_execSlotEnd slot s h
  case atbCapture ch src rising ns => exact Keep.c_execAtbCapture ch src rising ns s h
  case angleEvent ev => exact Keep.c_execAngleEvent ev s h
  case utxReqOff n m => exact Keep.c_execUtxReqOff n m s h
  case utxReqStandby n m => exact Keep.c_execUtxReqStandby n m s h
  case utxReqReady n m => exact Keep.c_execUtxReqReady n m s h
  case utxReqCw n m => exact Keep.c_execUtxReqCw n m s h
  case utxReqListen n m => exact Keep.c_execUtxReqListen n m s h
  case biasUpDone n => exact Keep.c_execBiasUpDone n s h
  case rampUpDone n => exact Keep.c_execRampUpDone n s h
  case rampDownDone n => exact Keep.c_execRampDownDone n s h
  case receiveReady sheaf => exact Keep.c_execReceiveReady sheaf s h
  case turnaroundEdge sheaf => exact Keep.c_execTurnaroundEdge sheaf s h
  case waitFail n => exact Keep.c_execWaitFail n s h
  case paFault n fwd => exact Keep.c_execPaFault n fwd s h
  case utxPwrWrite n m idx => exact Keep.c_execUtxPwrWrite n m idx s h
  case utxModCfgWrite n m value => exact Keep.c_execUtxModCfgWrite n m value s h
  case utxSteerWrite n m steer => exact Keep.c_execUtxSteerWrite n m steer s h
  case utxLoSrcWrite n m src => exact Keep.c_execUtxLoSrcWrite n m src s h
  case rfsFreqWrite n m value => exact Keep.c_execRfsFreqWrite n m value s h
  case rfsLock n m => exact Keep.c_execRfsLock n m s h
  case rfsFull n m => exact Keep.c_execRfsFull n m s h
  case rfsCal n m => exact Keep.c_execRfsCal n m s h
  case hintMiss n => exact Keep.c_execHintMiss n s h
  case synthLocked n band lockTime vtune => exact Keep.c_execSynthLocked n band lockTime vtune s h
  case synthLossOfLock n => exact Keep.c_execSynthLossOfLock n s h
  case tempCalStart n => exact Keep.c_execTempCalStart n s h
  case synthCalDone n temp bands => exact Keep.c_execSynthCalDone n temp bands s h
  case paRailReached => exact Keep.c_execPaRailReached s h
  case nullFirstHold ch resid crs vecI vecQ => exact Keep.c_execNullFirstHold ch resid crs vecI vecQ s h
  case holdLost ch resid crs vecI vecQ => exact Keep.c_execHoldLost ch resid crs vecI vecQ s h
  case rejoin ch resid crs vecI vecQ => exact Keep.c_execRejoin ch resid crs vecI vecQ s h
  case overload ch => exact Keep.c_execOverload ch s h
  case cnvSat ch vecI vecQ resid => exact Keep.c_execCnvSat ch vecI vecQ resid s h
  case foreignToneLock ch fofs level => exact Keep.c_execForeignToneLock ch fofs level s h
  case preambleDetect sheaf => exact Keep.c_execPreambleDetect sheaf s h
  case replyDecision sheaf ev => exact Keep.c_execReplyDecision sheaf ev s h
  case emptyDecision sheaf ev => exact Keep.c_execEmptyDecision sheaf ev s h
  case urxTrimWrite ch m iq value => exact Keep.c_execUrxTrimWrite ch m iq value s h
  case cnvVecWrite ch m value => exact Keep.c_execCnvVecWrite ch m value s h
  case capArm => exact Keep.c_execCapArm s h
  case capTrig => exact Keep.c_execCapTrig s h
  case capStop stored before ptr samples => exact Keep.c_execCapStop stored before ptr samples s h
  case captureTrigger src unit => exact Keep.c_execCaptureTrigger src unit s h
  case captureDone before ptr samples => exact Keep.c_execCaptureDone before ptr samples s h
  case grantRequest n => exact Keep.c_execGrantRequest n s h
  case lbtDecision n power => exact Keep.c_execLbtDecision n power s h
  case rgeViolation n code fwd => exact Keep.c_execRgeViolation n code fwd s h
  case killPin => exact Keep.c_execKillPin s h
  case killPinRelease => exact Keep.c_execKillPinRelease s h
  case killReg m => exact Keep.c_execKillReg m s h
  case killRegClear m => exact Keep.c_execKillRegClear m s h
  case quietClr m => exact Keep.c_execQuietClr m s h
  case rgeLogPop m => exact Keep.c_execRgeLogPop m s h
  case rfEnWrite m v => exact Keep.c_execRfEnWrite m v s h
  case leaseGo sh m slot seq => exact Keep.c_execLeaseGo sh m slot seq s h
  case leaseRelease sh m => exact Keep.c_execLeaseRelease sh m s h
  case leaseFreed sh => exact Keep.c_execLeaseFreed sh s h
  case antSelWrite m value => exact Keep.c_execAntSelWrite m value s h
  case beamSelWrite sh m sel => exact Keep.c_execBeamSelWrite sh m sel s h
  case isoWrite m value => exact Keep.c_execIsoWrite m value s h
  case geoDataWrite m value => exact Keep.c_execGeoDataWrite m value s h
  case bwDataAccess sh write v => exact Keep.c_execBwDataAccess sh write v s h
  case bearRdy sh => exact Keep.c_execBearRdy sh s h
  case cfCommandParsed sh bits level => exact Keep.c_execCfCommandParsed sh bits level s h
  case cfLost sh level => exact Keep.c_execCfLost sh level s h
  case cfSearch sh level => exact Keep.c_execCfSearch sh level s h
  case frameHoldRelease sh => exact Keep.c_execFrameHoldRelease sh s h
  case seqStart n m => exact Keep.c_execSeqStart n m s h
  case seqIdle n m => exact Keep.c_execSeqIdle n m s h
  case seqStop n m => exact Keep.c_execSeqStop n m s h
  case seqReset n m => exact Keep.c_execSeqReset n m s h
  case gcmdStart m mask => exact Keep.c_execGcmdStart m mask s h
  case gcmdStop m mask => exact Keep.c_execGcmdStop m mask s h
  case doorbell n m => exact Keep.c_execDoorbell n m s h
  case hfLeaseGo m target seq entry => exact Keep.c_execHfLeaseGo m target seq entry s h
  case hfLeaseRelease m target => exact Keep.c_execHfLeaseRelease m target s h
  case waitEventEnd n => exact Keep.c_execWaitEventEnd n s h
  case waitExpiry n => exact Keep.c_execWaitExpiry n s h
  case pushDrain n => exact Keep.c_execPushDrain n s h
  case lsiIllegal n w => exact Keep.c_execLsiIllegal n w s h
  case lsiNop n => exact Keep.c_execLsiNop n s h
  case lsiAdd n d a b => exact Keep.c_execLsiAdd n d a b s h
  case lsiSub n d a b => exact Keep.c_execLsiSub n d a b s h
  case lsiAnd n d a b => exact Keep.c_execLsiAnd n d a b s h
  case lsiOr n d a b => exact Keep.c_execLsiOr n d a b s h
  case lsiXor n d a b => exact Keep.c_execLsiXor n d a b s h
  case lsiShl n d a b => exact Keep.c_execLsiShl n d a b s h
  case lsiShr n d a b => exact Keep.c_execLsiShr n d a b s h
  case lsiMinu n d a b => exact Keep.c_execLsiMinu n d a b s h
  case lsiMaxu n d a b => exact Keep.c_execLsiMaxu n d a b s h
  case lsiMul n d a b => exact Keep.c_execLsiMul n d a b s h
  case lsiExt n d a pos len => exact Keep.c_execLsiExt n d a pos len s h
  case lsiClz n d a => exact Keep.c_execLsiClz n d a s h
  case lsiCmp n a b => exact Keep.c_execLsiCmp n a b s h
  case lsiAddi n d a imm => exact Keep.c_execLsiAddi n d a imm s h
  case lsiAndi n d a imm => exact Keep.c_execLsiAndi n d a imm s h
  case lsiOri n d a imm => exact Keep.c_execLsiOri n d a imm s h
  case lsiXori n d a imm => exact Keep.c_execLsiXori n d a imm s h
  case lsiShli n d a imm => exact Keep.c_execLsiShli n d a imm s h
  case lsiShri n d a imm => exact Keep.c_execLsiShri n d a imm s h
  case lsiLui n d imm => exact Keep.c_execLsiLui n d imm s h
  case lsiCmpi n a imm => exact Keep.c_execLsiCmpi n a imm s h
  case lsiLdw n d a imm => exact Keep.c_execLsiLdw n d a imm s h
  case lsiLdh n d a imm => exact Keep.c_execLsiLdh n d a imm s h
  case lsiLdb n d a imm => exact Keep.c_execLsiLdb n d a imm s h
  case lsiStw n d a imm => exact Keep.c_execLsiStw n d a imm s h
  case lsiSth n d a imm => exact Keep.c_execLsiSth n d a imm s h
  case lsiStb n d a imm => exact Keep.c_execLsiStb n d a imm s h
  case lsiBr n cond tgt => exact Keep.c_execLsiBr n cond tgt s h
  case lsiDbnz n d tgt => exact Keep.c_execLsiDbnz n d tgt s h
  case lsiCall n tgt => exact Keep.c_execLsiCall n tgt s h
  case lsiRet n => exact Keep.c_execLsiRet n s h
  case lsiJr n a => exact Keep.c_execLsiJr n a s h
  case lsiHalt n => exact Keep.c_execLsiHalt n s h
  case lsiDone n => exact Keep.c_execLsiDone n s h
  case lsiEvt n e => exact Keep.c_execLsiEvt n e s h
  case lsiRds n d sreg => exact Keep.c_execLsiRds n d sreg s h
  case lsiWrs n d sreg => exact Keep.c_execLsiWrs n d sreg s h
  case lsiRdpos n d => exact Keep.c_execLsiRdpos n d s h
  case lsiPld n d a blk off => exact Keep.c_execLsiPld n d a blk off s h
  case lsiPst n d a blk off => exact Keep.c_execLsiPst n d a blk off s h
  case lsiRqs n chmask req => exact Keep.c_execLsiRqs n chmask req s h
  case lsiLock n a full => exact Keep.c_execLsiLock n a full s h
  case lsiTxf n fidx => exact Keep.c_execLsiTxf n fidx s h
  case lsiPush n a q => exact Keep.c_execLsiPush n a q s h
  case lsiPushb n a q cnt => exact Keep.c_execLsiPushb n a q cnt s h
  case lsiPop n d q => exact Keep.c_execLsiPop n d q s h
  case lsiPushrec n q => exact Keep.c_execLsiPushrec n q s h
  case lsiStrec n a => exact Keep.c_execLsiStrec n a s h
  case lsiWait n mask unit count => exact Keep.c_execLsiWait n mask unit count s h
  case lsiWaitr n mask b => exact Keep.c_execLsiWaitr n mask b s h
  case lsiClrev n mask => exact Keep.c_execLsiClrev n mask s h
  case hfStateDone railOk => exact Keep.c_execHfStateDone railOk s h
  case hfSynthTimeout => exact Keep.c_execHfSynthTimeout s h
  case drvFault => exact Keep.c_execDrvFault s h
  case hfFrameHoldRelease => exact Keep.c_execHfFrameHoldRelease s h
  case hfReplyDecision ev => exact Keep.c_execHfReplyDecision ev s h
  case hfWaitExpiry => exact Keep.c_execHfWaitExpiry s h
  case hfWtxAnswer => exact Keep.c_execHfWtxAnswer s h
  case ftDataAccess write v => exact Keep.c_execFtDataAccess write v s h
  case tagGuardRelease => exact Keep.c_execTagGuardRelease s h
  case gleanerPing amp phase => exact Keep.c_execGleanerPing amp phase s h
  case glArm => exact Keep.c_execGlArm s h
  case glResume => exact Keep.c_execGlResume s h
  case glRebase => exact Keep.c_execGlRebase s h
  case glStop => exact Keep.c_execGlStop s h
  case fieldOn vharv avail => exact Keep.c_execFieldOn vharv avail s h
  case fieldOff => exact Keep.c_execFieldOff s h
  case tagReqa => exact Keep.c_execTagReqa s h
  case tagWupa => exact Keep.c_execTagWupa s h
  case tagAnticoll level known => exact Keep.c_execTagAnticoll level known s h
  case tagSelect level cln => exact Keep.c_execTagSelect level cln s h
  case tagRats fsdi cid => exact Keep.c_execTagRats fsdi cid s h
  case tagHlta => exact Keep.c_execTagHlta s h
  case tagPps dri dsi => exact Keep.c_execTagPps dri dsi s h
  case tagDeselect => exact Keep.c_execTagDeselect s h
  case tagWtxResponse => exact Keep.c_execTagWtxResponse s h
  case tagWtxRequest => exact Keep.c_execTagWtxRequest s h
  case tagSelectNdefApp a => exact Keep.c_execTagSelectNdefApp a s h
  case tagSelectFile a => exact Keep.c_execTagSelectFile a s h
  case tagReadBinary a => exact Keep.c_execTagReadBinary a s h
  case tagUpdateBinary a => exact Keep.c_execTagUpdateBinary a s h
  case getInfo a => exact Keep.c_execGetInfo a s h
  case verify a => exact Keep.c_execVerify a s h
  case auth1 a => exact Keep.c_execAuth1 a s h
  case auth2 a => exact Keep.c_execAuth2 a s h
  case readRecord a => exact Keep.c_execReadRecord a s h
  case writeRecord a => exact Keep.c_execWriteRecord a s h
  case incCounter a => exact Keep.c_execIncCounter a s h
  case readCounters a => exact Keep.c_execReadCounters a s h
  case tagPassthroughApdu a => exact Keep.c_execTagPassthroughApdu a s h
  case tagCommitDone => exact Keep.c_execTagCommitDone s h
  case lockoutEnd => exact Keep.c_execLockoutEnd s h
  case wiredRead m record nowait => exact Keep.c_execWiredRead m record nowait s h
  case wiredWrite m record nowait => exact Keep.c_execWiredWrite m record nowait s h
  case wgrant => exact Keep.c_execWgrant s h
  case pcmdRespond m rlen => exact Keep.c_execPcmdRespond m rlen s h
  case pcmdReject m => exact Keep.c_execPcmdReject m s h
  case passthroughTimeout => exact Keep.c_execPassthroughTimeout s h
  case levelWrite m v => exact Keep.c_execLevelWrite m v s h
  case curveDataAccess m write v => exact Keep.c_execCurveDataAccess m write v s h
  case daliSend m v => exact Keep.c_execDaliSend m v s h
  case daliCollision => exact Keep.c_execDaliCollision s h
  case daliDone => exact Keep.c_execDaliDone s h
  case daliBackwardFrame data framingOk => exact Keep.c_execDaliBackwardFrame data framingOk s h
  case daliNoAnswer => exact Keep.c_execDaliNoAnswer s h
  case autoDapcSend => exact Keep.c_execAutoDapcSend s h
  case kick m => exact Keep.c_execKick m s h
  case fsClr m => exact Keep.c_execFsClr m s h
  case fsForce m => exact Keep.c_execFsForce m s h
  case keepaliveLapse => exact Keep.c_execKeepaliveLapse s h
  case pdRdy range pa clip => exact Keep.c_execPdRdy range pa clip s h
  case motion filt => exact Keep.c_execMotion filt s h
  case pirRearm filt => exact Keep.c_execPirRearm filt s h
  case indGo m v => exact Keep.c_execIndGo m v s h
  case indDone data => exact Keep.c_execIndDone data s h
  case pollRead status => exact Keep.c_execPollRead status s h
  case pollTimeout => exact Keep.c_execPollTimeout s h
  case txnTimeout => exact Keep.c_execTxnTimeout s h
  case xipFetch m addr => exact Keep.c_execXipFetch m addr s h
  case xipFillDone line => exact Keep.c_execXipFillDone line s h
  case cacheInv m => exact Keep.c_execCacheInv m s h
  case xwinWrite m n v => exact Keep.c_execXwinWrite m n v s h
  case rcfgWrite m v => exact Keep.c_execRcfgWrite m v s h
  case ibufWrite m addr width v => exact Keep.c_execIbufWrite m addr width v s h
  case grnEnable m => exact Keep.c_execGrnEnable m s h
  case recordFold => exact Keep.c_execRecordFold s h
  case sweepStep => exact Keep.c_execSweepStep s h
  case grnFormat => exact Keep.c_execGrnFormat s h
  case grnRecover => exact Keep.c_execGrnRecover s h
  case grnCommit => exact Keep.c_execGrnCommit s h
  case grnCommitTimer => exact Keep.c_execGrnCommitTimer s h
  case nrTailWrite m v => exact Keep.c_execNrTailWrite m v s h
  case tagWatch body => exact Keep.c_execTagWatch body s h
  case tagQuery body => exact Keep.c_execTagQuery body s h
  case phyLinkChange up level sqi => exact Keep.c_execPhyLinkChange up level sqi s h
  case macFrameRx frame fcsOk => exact Keep.c_execMacFrameRx frame fcsOk s h
  case pdClassChange cls => exact Keep.c_execPdClassChange cls s h
  case ptpSyncRx offset delay ptpNs => exact Keep.c_execPtpSyncRx offset delay ptpNs s h
  case ptpLoss => exact Keep.c_execPtpLoss s h
  case readReq d => exact Keep.c_execReadReq d s h
  case writeReq d => exact Keep.c_execWriteReq d s h
  case xferInit d => exact Keep.c_execXferInit d s h
  case xferData d => exact Keep.c_execXferData d s h
  case xferAck d => exact Keep.c_execXferAck d s h
  case xferEnd d => exact Keep.c_execXferEnd d s h
  case xferAbort d => exact Keep.c_execXferAbort d s h
  case subscribe d => exact Keep.c_execSubscribe d s h
  case notifyAck d => exact Keep.c_execNotifyAck d s h
  case planMcast d => exact Keep.c_execPlanMcast d s h
  case totUnknownType d => exact Keep.c_execTotUnknownType d s h
  case xferResendTimeout k => exact Keep.c_execXferResendTimeout k s h
  case xferIdleTimeout k => exact Keep.c_execXferIdleTimeout k s h
  case notifySend k => exact Keep.c_execNotifySend k s h
  case notifyResendTimeout k => exact Keep.c_execNotifyResendTimeout k s h
  case subscriptionExpiry k => exact Keep.c_execSubscriptionExpiry k s h
  case store => exact Keep.c_execStore s h
  case restore => exact Keep.c_execRestore s h
  case hlCsFall sclk => exact Keep.c_execHlCsFall sclk s h
  case hlFrameReject clocks frame => exact Keep.c_execHlFrameReject clocks frame s h
  case hlNop frame => exact Keep.c_execHlNop frame s h
  case hlSync frame => exact Keep.c_execHlSync frame s h
  case regRead frame => exact Keep.c_execRegRead frame s h
  case regWriteAt frame => exact Keep.c_execRegWriteAt frame s h
  case regWriteNext frame => exact Keep.c_execRegWriteNext frame s h
  case objRead frame => exact Keep.c_execObjRead frame s h
  case objWrite frame => exact Keep.c_execObjWrite frame s h
  case hlStagedWriteTimeout => exact Keep.c_execHlStagedWriteTimeout s h
  case hostIrqSet m => exact Keep.c_execHostIrqSet m s h
  case hostIrqClr m => exact Keep.c_execHostIrqClr m s h
  case quePush q m v mismatch => exact Keep.c_execQuePush q m v mismatch s h
  case quePop q m mismatch => exact Keep.c_execQuePop q m mismatch s h
  case queFlush m mask => exact Keep.c_execQueFlush m mask s h
  case queEnable q m base depth => exact Keep.c_execQueEnable q m base depth s h
  case queDisable q m => exact Keep.c_execQueDisable q m s h
  case tmrArm n m => exact Keep.c_execTmrArm n m s h
  case tmrStart n m => exact Keep.c_execTmrStart n m s h
  case tmrStop n m => exact Keep.c_execTmrStop n m s h
  case tmrGstart m mask => exact Keep.c_execTmrGstart m mask s h
  case tmrGstop m mask => exact Keep.c_execTmrGstop m mask s h
  case tmrExpiry n => exact Keep.c_execTmrExpiry n s h
  case tmrCapture n src rising => exact Keep.c_execTmrCapture n src rising s h
  case uptMatch => exact Keep.c_execUptMatch s h
  case voteScrub f c0 c1 c2 => exact Keep.c_execVoteScrub f c0 c1 c2 s h
  case refFail => exact Keep.c_execRefFail s h
  case refclkRecovery => exact Keep.c_execRefclkRecovery s h
  case slowXtalQualified => exact Keep.c_execSlowXtalQualified s h
  case slowFail => exact Keep.c_execSlowFail s h
  case slowRetry m => exact Keep.c_execSlowRetry m s h
  case pllLol => exact Keep.c_execPllLol s h
  case pllLock band => exact Keep.c_execPllLock band s h
  case relock => exact Keep.c_execRelock s h
  case clkReturn m => exact Keep.c_execClkReturn m s h
  case clkBypass m => exact Keep.c_execClkBypass m s h
  case pllMultWrite m v => exact Keep.c_execPllMultWrite m v s h
  case clkDivWrite m n v => exact Keep.c_execClkDivWrite m n v s h
  case clkOutEnWrite m n en => exact Keep.c_execClkOutEnWrite m n en s h
  case clkDelayWrite m n v => exact Keep.c_execClkDelayWrite m n v s h
  case powerOn cls => exact Keep.c_execPowerOn cls s h
  case warmReset => exact Keep.c_execWarmReset s h
  case resetNPin => exact Keep.c_execResetNPin s h
  case coreReset core => exact Keep.c_execCoreReset core s h
  case lew lineMv => exact Keep.c_execLew lineMv s h
  case lewEnd => exact Keep.c_execLewEnd s h
  case brownOut mv vharv => exact Keep.c_execBrownOut mv vharv s h
  case domCtrlWrite m v => exact Keep.c_execDomCtrlWrite m v s h
  case thermalWarn tMain tPower => exact Keep.c_execThermalWarn tMain tPower s h
  case thermalCapStep => exact Keep.c_execThermalCapStep s h
  case thermalQuiet tMain tPower => exact Keep.c_execThermalQuiet tMain tPower s h
  case hardTherm tMain tPower => exact Keep.c_execHardTherm tMain tPower s h
  case quietExit => exact Keep.c_execQuietExit s h
  case lcRequest v => exact Keep.c_execLcRequest v s h
  case bootRequest v => exact Keep.c_execBootRequest v s h
  case confirm => exact Keep.c_execConfirm s h
  case restart => exact Keep.c_execRestart s h
  case swiSet m v => exact Keep.c_execSwiSet m v s h
  case calRun m seq target => exact Keep.c_execCalRun m seq target s h
  case calAbort m => exact Keep.c_execCalAbort m s h
  case calSequenceEnd code res => exact Keep.c_execCalSequenceEnd code res s h
  case calCommit m readbackOk => exact Keep.c_execCalCommit m readbackOk s h
  case ageRoMeasure core radio aon => exact Keep.c_execAgeRoMeasure core radio aon s h
  case agePaSample n fwd => exact Keep.c_execAgePaSample n fwd s h
  case ageBgMeasure drift => exact Keep.c_execAgeBgMeasure drift s h
  case ageMramMeasure w => exact Keep.c_execAgeMramMeasure w s h
  case wdtEnable m n => exact Keep.c_execWdtEnable m n s h
  case wdtKick m n key => exact Keep.c_execWdtKick m n key s h
  case wdtWarn n => exact Keep.c_execWdtWarn n s h
  case wdtExpiry n => exact Keep.c_execWdtExpiry n s h
  case frameEnd sh => exact Keep.c_execFrameEnd sh s h
  case antennaSettle n => exact Keep.c_execAntennaSettle n s h
  case presentLevelUpdate => exact Keep.c_execPresentLevelUpdate s h
  case temperatureTrigger n temp => exact Keep.c_execTemperatureTrigger n temp s h
  case dueHint => exact Keep.c_execDueHint s h
  case dueScrub => exact Keep.c_execDueScrub s h
  case occupancyHoldEnd => exact Keep.c_execOccupancyHoldEnd s h

/-- A cycle of the clocks: time advances by one, and the rest of the mark is kept. -/
theorem Keep.tick_ok {μ : Mark} (s : State) (h : μ.ok s) : Mark.ok { μ with time := μ.time + 1 } s.tick := by
  have h0 : Mark.ok { μ with time := μ.time + 1 } { s with now := s.now + 1 } :=
    ⟨h.1, congrArg (· + 1) h.2, h.3, h.4, h.5⟩
  unfold State.tick
  dsimp only
  repeat' (first | with_reducible assumption | intro _ | with_reducible apply Keep.when | with_reducible apply Keep.forN | with_reducible apply Keep.State_busTick | with_reducible apply Keep.State_phaseTick | with_reducible apply Keep.State_slowTick | with_reducible apply Keep.State_searchTick | with_reducible apply Keep.State_usTick | with_reducible apply Keep.State_faultTick | with_reducible apply Keep.State_pwmTick | with_reducible apply Keep.State_binTick | with_reducible apply Keep.State_tenTick)

end Sys2Proof.Machine
end

