-- ==== Sys2Proof/Laws/NoImage.lean ====
section
/-! SUPPORT. What bring-up leaves where neither firmware slot holds an acceptable image: FAILSAFE, with CORE off. -/

namespace Sys2Proof.Machine

open Sys2Proof

/-- A log entry is written to memory alone. -/
theorem State.get_logP (s : State) (code inst data : Nat) (f : Fld) (n : Nat) : (s.logP code inst data).get f n = s.get f n := by
  have h : (s.logP code inst data).regs = s.regs := by
    unfold State.logP State.faultLog
    simp only [State.wrBytes_regs, State.wr32]
  rw [State.get, State.get, h]

/-- A bit made 0 reads as 0. -/
theorem bitOf_putBit_false (v k : Nat) : bitOf (putBit v k false) k = false := by
  unfold putBit
  by_cases h : bitOf v k = true
  · have h2 : v / 2 ^ k % 2 = 1 := by simpa [bitOf] using h
    have hle : 2 ^ k ≤ v := by
      by_contra hc
      rw [Nat.div_eq_of_lt (by omega)] at h2
      omega
    have : (v - 2 ^ k) / 2 ^ k = v / 2 ^ k - 1 := by
      have := Nat.sub_mul_div v (2 ^ k) 1
      simpa using this
    have hp : v - 2 ^ k + b2n false * 2 ^ k = v - 2 ^ k := by simp [b2n]
    rw [if_pos h, hp, bitOf, this]
    have : (v / 2 ^ k - 1) % 2 = 0 := by omega
    simp [this]
  · simp [h, b2n]

theorem State.get_setMode_ne (s : State) (m : Nat) (f : Fld) (n : Nat) (h : f.key n ≠ SYS.MODE_MODE.key 0) :
    (s.setMode m).get f n = s.get f n := by
  unfold State.setMode
  split
  · rfl
  · split
    · exact State.get_set_ne _ _ _ _ _ _ h
    · rw [State.get_logP]; exact State.get_set_ne _ _ _ _ _ _ h

/-- FAILSAFE entered from another mode leaves CORE unpowered (R497). -/
theorem State.enterFailsafe_core (s : State) (c : Nat) (h : s.mode ≠ mdFAILSAFE) : (s.enterFailsafe c).bit PWR.STATE_DOM 3 = false := by
  have hm : (s.setBit SYS.MODE_CAUSE c true).mode ≠ mdFAILSAFE := by
    have : (s.setBit SYS.MODE_CAUSE c true).mode = s.mode := State.get_setBit_ne s SYS.MODE_CAUSE SYS.MODE_MODE true c 0 0 (by decide)
    rw [this]; exact h
  unfold State.enterFailsafe
  simp only [beq_iff_eq, hm, if_false]
  generalize State.fsEngage _ = u
  rw [State.bit, State.get_setMode_ne _ _ _ _ (by decide)]
  show bitOf (State.get (State.set (State.auxGate _) RGE.STATE_HOLD 15) PWR.STATE_DOM) 3 = false
  rw [State.get_set_ne _ _ _ _ _ _ (by decide)]
  unfold State.auxGate
  rw [State.outEn, State.get_set_ne _ _ _ _ _ _ (by decide)]
  rw [State.outEn, State.get_set_ne _ _ _ _ _ _ (by decide)]
  show bitOf (State.get (State.set _ PWR.STATE_DOM _ 0) PWR.STATE_DOM) 3 = false
  rw [State.get_set_same]
  have : ∀ v, bitOf (v % 2 ^ PWR.STATE_DOM.width) 3 = bitOf v 3 := fun v => by
    have hw : PWR.STATE_DOM.width = 4 := rfl
    rw [hw, bitOf, bitOf, show v % 2 ^ 4 / 2 ^ 3 % 2 = v / 2 ^ 3 % 2 by omega]
  rw [this]
  exact bitOf_putBit_false _ _

/-- Without an acceptable firmware image no field life begins (R485, R494). -/
theorem State.bringUp_noImage (s : State)
    (h : ∀ k, k < 2 → (s.bootVotes.bootClocks.set SYS.MODE_MODE mdQUIET).imgOk 0 k = false) : s.bringUp.wantsField = false := by
  have e : s.bringUp = ((s.bootVotes.bootClocks.set SYS.MODE_MODE mdQUIET).bootReport none none).enterFailsafe csNOIMAGE := by
    unfold State.bringUp
    have : (bootOrder ((s.bootVotes.bootClocks.set SYS.MODE_MODE mdQUIET).get AON.BOOT_PTR_FW)).find?
        (fun k => (s.bootVotes.bootClocks.set SYS.MODE_MODE mdQUIET).imgOk 0 k) = none := by
      simp only [bootOrder, List.find?_eq_none, List.mem_cons, List.not_mem_nil, or_false]
      rintro x hx
      rw [h x (by omega)]
      simp
    simp only [this]
  have hm : ((s.bootVotes.bootClocks.set SYS.MODE_MODE mdQUIET).bootReport none none).mode = mdQUIET := by
    unfold State.bootReport
    refine State.forL_keep (fun t => t.mode = mdQUIET) _ _ _ ?_ fun k _ t ht => by
      rw [State.mode, State.get_logP]; exact ht
    unfold State.mode
    iterate 6 rw [State.get_set_ne _ _ SYS.MODE_MODE _ _ _ (by decide)]
    rw [State.get_set_same]; decide
  rw [e, State.wantsField, State.enterFailsafe_core _ _ (by rw [hm]; decide)]
  simp

end Sys2Proof.Machine
end

