-- ==== Sys2Proof/Machine/Pins.lean ====
section
/-! DEFINITION. The levels at the device's digital output balls, as functions of State (R547, R551). -/

namespace Sys2Proof.Machine

open Sys2Proof

/-- What a ball shows: driven high or low, left to its weak pull, or at high impedance without one (R547). -/
inductive Ball where
  | high
  | low
  | pullUp
  | pullDown
  | highZ
  deriving DecidableEq, Repr

/-- A ball driven to a level. -/
def Ball.drive (b : Bool) : Ball := if b then .high else .low

/-- AON is supplied, from the line or from the field (R23). -/
def State.aonOn (s : State) : Bool := s.on HFT.STATE_LINE || s.on PWR.STATE_HARV

/-- A reset is asserted: without the line (COLD, or only the tag runs), or while REF_FAIL holds WARM (R25, R466, R484). -/
def State.inReset (s : State) : Bool := s.coreP.refHeld || !s.on HFT.STATE_LINE

/-- An output that COLD and WARM leave to its pull (R547). -/
def State.ball (s : State) (idle : Ball) (level : Bool) : Ball := if s.inReset then idle else Ball.drive level

/-- UTXn_PA_EN: pulled down without AON, driven low during WARM, else the level that PA.PA_EN shows (R90, R547). -/
def State.paEnBall (s : State) (n : Nat) : Ball :=
  if !s.aonOn then .pullDown else if s.inReset then .low else Ball.drive (s.on UTX.PA_PA_EN n)

/-- Pin i of ANTn_SEL: a bit of SHF.ANT_SEL.ANTn (R159, R547). -/
def State.antSelBall (s : State) (n i : Nat) : Ball := s.ball .pullDown ((s.antOf n).testBit i)

/-- MP_CS_N of select k: low while a transaction on that select is under way (R354, R547). -/
def State.mpCsBall (s : State) (k : Nat) : Ball := s.ball .pullUp (!(s.mpt.txn.any fun t => t.sel == k))

/-- MP_RESET_N (R355). -/
def State.mpResetBall (s : State) : Ball := s.ball .highZ s.mpResetN

/-- HL_MISO is driven only where the link runs (R420, R547). -/
def State.misoDriven (s : State) : Bool := !s.inReset && s.mode != mdFAILSAFE && s.hlOn

/-- HL_IRQ_N: open drain, asserted low while a result waits or HOST_IRQ.LEVEL is 1; released where the link does not run
(R420, R425, R547). -/
def State.irqBall (s : State) : Ball :=
  if s.misoDriven && (!s.hlk.results.isEmpty || s.on HLK.HOST_IRQ_LEVEL) then .low else .highZ

/-- DALI_TX between frames: pulled up before AON is released, driven from then on (R341, R345, R547). -/
def State.daliBall (s : State) : Ball := if s.aonOn then Ball.drive s.daliTx else .pullUp

/-- DIM_PWM: driven by the AON stage as soon as AON is released, through every WARM (R335, R547). -/
def State.dimPwmBall (s : State) : Ball := if s.aonOn then Ball.drive s.dimPwm else .highZ

/-- A low pulse on RESET_N, of a length in nanoseconds, that passes the fixed filter of 1.0 µs (R551). -/
def resetFilter (ns : Nat) : Bool := decide (1000 ≤ ns)

/-- A low pulse on RFKILL_N that passes its fixed filter of 0.40 µs (R146, R551). -/
def rfkillFilter (ns : Nat) : Bool := decide (400 ≤ ns)

end Sys2Proof.Machine
end

