-- ==== Sys2Proof/WellFormed.lean ====
section
/-! DEFINITION. Which commands are well formed: every operand within what the wires, fields and numbers of the spec can carry.
A sequencer instruction's operands are within the fields of its word (R214). -/

namespace Sys2Proof

/-- One operand with the bound it must keep: a number below a limit, one of a few widths, the bytes of a body, a master. -/
inductive Operand where
  | below (v limit : Nat)
  | oneOf (v : Nat) (l : List Nat)
  | bytes (l : List Nat)
  | master (m : Master)
  deriving DecidableEq, Repr

/-- Whether an operand keeps its bound. -/
def Operand.ok : Operand → Bool
  | .below v limit => decide (v < limit)
  | .oneOf v l => l.contains v
  | .bytes l => l.all fun b => decide (b < 256)
  | .master (.seq n) => decide (n < 16)
  | .master _ => true

/-- The bounded operands of a command: numbers of units (R16, R22, R34, R48, R68), the fields of an instruction word (R214),
register words of 32 bits (R437), access widths (R437), and byte strings. -/
def Instr.operands (i : Instr) : List Operand :=
  match i with
  | .registerWrite m addr width value => [.master m, .below addr 4294967296, .oneOf width [1, 2, 4, 8], .below value 18446744073709551616]
  | .rcRead m addr width => [.master m, .below addr 4294967296, .oneOf width [1, 2, 4, 8]]
  | .loReadShadow m addr => [.master m, .below addr 4294967296]
  | .irqCfgWrite m value => [.master m, .below value 4294967296]
  | .seqMemoryWrite m addr width value => [.master m, .below addr 4294967296, .oneOf width [1, 2, 4, 8], .below value 18446744073709551616]
  | .debugHalt core => [.below core 2]
  | .debugRelease core => [.below core 2]
  | .atbEnable => []
  | .atbDisable => []
  | .atbSourceChange src => [.below src 2]
  | .atbStandaloneClear => []
  | .atbOffsetWrite v => [.below v 4294967296]
  | .mainsSyncEdge _ _ angle _ => [.below angle 65536]
  | .holdover => []
  | .holdExpired => []
  | .cycleBoundary ptpNs => [.below ptpNs 18446744073709551616]
  | .anchorEvaluate ptpNs => [.below ptpNs 18446744073709551616]
  | .adjGo => []
  | .planArm => []
  | .planDisarm => []
  | .planDataAccess _ v => [.below v 4294967296]
  | .pendingPlanWrite body => [.bytes body]
  | .slotPrep slot => [.below slot 32]
  | .slotStart slot => [.below slot 32]
  | .slotEnd slot => [.below slot 32]
  | .atbCapture ch src _ _ => [.below ch 4, .below src 4]
  | .angleEvent ev => [.below ev 8]
  | .utxReqOff n m => [.below n 4, .master m]
  | .utxReqStandby n m => [.below n 4, .master m]
  | .utxReqReady n m => [.below n 4, .master m]
  | .utxReqCw n m => [.below n 4, .master m]
  | .utxReqListen n m => [.below n 4, .master m]
  | .biasUpDone n => [.below n 4]
  | .rampUpDone n => [.below n 4]
  | .rampDownDone n => [.below n 4]
  | .receiveReady sheaf => [.below sheaf 4]
  | .turnaroundEdge sheaf => [.below sheaf 4]
  | .waitFail n => [.below n 4]
  | .paFault n _ => [.below n 4]
  | .utxPwrWrite n m idx => [.below n 4, .master m, .below idx 128]
  | .utxModCfgWrite n m value => [.below n 4, .master m, .below value 4294967296]
  | .utxSteerWrite n m _ => [.below n 4, .master m]
  | .utxLoSrcWrite n m src => [.below n 4, .master m, .below src 4]
  | .rfsFreqWrite n m value => [.below n 4, .master m, .below value 4294967296]
  | .rfsLock n m => [.below n 4, .master m]
  | .rfsFull n m => [.below n 4, .master m]
  | .rfsCal n m => [.below n 4, .master m]
  | .hintMiss n => [.below n 4]
  | .synthLocked n _ _ _ => [.below n 4]
  | .synthLossOfLock n => [.below n 4]
  | .tempCalStart n => [.below n 4]
  | .synthCalDone n _ _ => [.below n 4]
  | .paRailReached => []
  | .nullFirstHold ch _ _ _ _ => [.below ch 16]
  | .holdLost ch _ _ _ _ => [.below ch 16]
  | .rejoin ch _ _ _ _ => [.below ch 16]
  | .overload ch => [.below ch 16]
  | .cnvSat ch _ _ _ => [.below ch 16]
  | .foreignToneLock ch _ _ => [.below ch 16]
  | .preambleDetect sheaf => [.below sheaf 4]
  | .replyDecision sheaf _ => [.below sheaf 4]
  | .emptyDecision sheaf _ => [.below sheaf 4]
  | .urxTrimWrite ch m _ value => [.below ch 16, .master m, .below value 4294967296]
  | .cnvVecWrite ch m value => [.below ch 16, .master m, .below value 4294967296]
  | .capArm => []
  | .capTrig => []
  | .capStop _ _ _ _ => []
  | .captureTrigger _ unit => [.below unit 16]
  | .captureDone _ _ _ => []
  | .grantRequest n => [.below n 4]
  | .lbtDecision n _ => [.below n 4]
  | .rgeViolation n _ _ => [.below n 4]
  | .killPin => []
  | .killPinRelease => []
  | .killReg m => [.master m]
  | .killRegClear m => [.master m]
  | .quietClr m => [.master m]
  | .rgeLogPop m => [.master m]
  | .rfEnWrite m v => [.master m, .below v 2]
  | .leaseGo sh m slot seq => [.below sh 4, .master m, .below slot 32, .below seq 16]
  | .leaseRelease sh m => [.below sh 4, .master m]
  | .leaseFreed sh => [.below sh 4]
  | .antSelWrite m value => [.master m, .below value 4294967296]
  | .beamSelWrite sh m _ => [.below sh 4, .master m]
  | .isoWrite m value => [.master m, .below value 4294967296]
  | .geoDataWrite m value => [.master m, .below value 4294967296]
  | .bwDataAccess sh _ v => [.below sh 4, .below v 4294967296]
  | .bearRdy sh => [.below sh 4]
  | .cfCommandParsed sh _ _ => [.below sh 4]
  | .cfLost sh _ => [.below sh 4]
  | .cfSearch sh _ => [.below sh 4]
  | .frameHoldRelease sh => [.below sh 4]
  | .seqStart n m => [.below n 16, .master m]
  | .seqIdle n m => [.below n 16, .master m]
  | .seqStop n m => [.below n 16, .master m]
  | .seqReset n m => [.below n 16, .master m]
  | .gcmdStart m mask => [.master m, .below mask 65536]
  | .gcmdStop m mask => [.master m, .below mask 65536]
  | .doorbell n m => [.below n 16, .master m]
  | .hfLeaseGo m target seq entry => [.master m, .below target 2, .below seq 16, .below entry 65536]
  | .hfLeaseRelease m target => [.master m, .below target 2]
  | .waitEventEnd n => [.below n 16]
  | .waitExpiry n => [.below n 16]
  | .pushDrain n => [.below n 16]
  | .lsiIllegal n w => [.below n 16, .below w 4294967296]
  | .lsiNop n => [.below n 16]
  | .lsiAdd n d a b => [.below n 16, .below d 16, .below a 16, .below b 16]
  | .lsiSub n d a b => [.below n 16, .below d 16, .below a 16, .below b 16]
  | .lsiAnd n d a b => [.below n 16, .below d 16, .below a 16, .below b 16]
  | .lsiOr n d a b => [.below n 16, .below d 16, .below a 16, .below b 16]
  | .lsiXor n d a b => [.below n 16, .below d 16, .below a 16, .below b 16]
  | .lsiShl n d a b => [.below n 16, .below d 16, .below a 16, .below b 16]
  | .lsiShr n d a b => [.below n 16, .below d 16, .below a 16, .below b 16]
  | .lsiMinu n d a b => [.below n 16, .below d 16, .below a 16, .below b 16]
  | .lsiMaxu n d a b => [.below n 16, .below d 16, .below a 16, .below b 16]
  | .lsiMul n d a b => [.below n 16, .below d 16, .below a 16, .below b 16]
  | .lsiExt n d a pos len => [.below n 16, .below d 16, .below a 16, .below pos 32, .below len 33]
  | .lsiClz n d a => [.below n 16, .below d 16, .below a 16]
  | .lsiCmp n a b => [.below n 16, .below a 16, .below b 16]
  | .lsiAddi n d a imm => [.below n 16, .below d 16, .below a 16, .below imm 262144]
  | .lsiAndi n d a imm => [.below n 16, .below d 16, .below a 16, .below imm 262144]
  | .lsiOri n d a imm => [.below n 16, .below d 16, .below a 16, .below imm 262144]
  | .lsiXori n d a imm => [.below n 16, .below d 16, .below a 16, .below imm 262144]
  | .lsiShli n d a imm => [.below n 16, .below d 16, .below a 16, .below imm 262144]
  | .lsiShri n d a imm => [.below n 16, .below d 16, .below a 16, .below imm 262144]
  | .lsiLui n d imm => [.below n 16, .below d 16, .below imm 262144]
  | .lsiCmpi n a imm => [.below n 16, .below a 16, .below imm 262144]
  | .lsiLdw n d a imm => [.below n 16, .below d 16, .below a 16, .below imm 262144]
  | .lsiLdh n d a imm => [.below n 16, .below d 16, .below a 16, .below imm 262144]
  | .lsiLdb n d a imm => [.below n 16, .below d 16, .below a 16, .below imm 262144]
  | .lsiStw n d a imm => [.below n 16, .below d 16, .below a 16, .below imm 262144]
  | .lsiSth n d a imm => [.below n 16, .below d 16, .below a 16, .below imm 262144]
  | .lsiStb n d a imm => [.below n 16, .below d 16, .below a 16, .below imm 262144]
  | .lsiBr n cond tgt => [.below n 16, .below cond 16, .below tgt 8192]
  | .lsiDbnz n d tgt => [.below n 16, .below d 16, .below tgt 8192]
  | .lsiCall n tgt => [.below n 16, .below tgt 8192]
  | .lsiRet n => [.below n 16]
  | .lsiJr n a => [.below n 16, .below a 16]
  | .lsiHalt n => [.below n 16]
  | .lsiDone n => [.below n 16]
  | .lsiEvt n e => [.below n 16, .below e 8]
  | .lsiRds n d sreg => [.below n 16, .below d 16, .below sreg 256]
  | .lsiWrs n d sreg => [.below n 16, .below d 16, .below sreg 256]
  | .lsiRdpos n d => [.below n 16, .below d 16]
  | .lsiPld n d a blk off => [.below n 16, .below d 16, .below a 16, .below blk 8, .below off 16384]
  | .lsiPst n d a blk off => [.below n 16, .below d 16, .below a 16, .below blk 8, .below off 16384]
  | .lsiRqs n chmask req => [.below n 16, .below chmask 16, .below req 8]
  | .lsiLock n a full => [.below n 16, .below a 16, .below full 2]
  | .lsiTxf n fidx => [.below n 16, .below fidx 64]
  | .lsiPush n a q => [.below n 16, .below a 16, .below q 16]
  | .lsiPushb n a q cnt => [.below n 16, .below a 16, .below q 16, .below cnt 17]
  | .lsiPop n d q => [.below n 16, .below d 16, .below q 16]
  | .lsiPushrec n q => [.below n 16, .below q 16]
  | .lsiStrec n a => [.below n 16, .below a 16]
  | .lsiWait n mask unit count => [.below n 16, .below mask 1024, .below unit 4, .below count 16384]
  | .lsiWaitr n mask b => [.below n 16, .below mask 1024, .below b 16]
  | .lsiClrev n mask => [.below n 16, .below mask 1024]
  | .hfStateDone _ => []
  | .hfSynthTimeout => []
  | .drvFault => []
  | .hfFrameHoldRelease => []
  | .hfReplyDecision _ => []
  | .hfWaitExpiry => []
  | .hfWtxAnswer => []
  | .ftDataAccess _ v => [.below v 4294967296]
  | .tagGuardRelease => []
  | .gleanerPing _ _ => []
  | .glArm => []
  | .glResume => []
  | .glRebase => []
  | .glStop => []
  | .fieldOn _ _ => []
  | .fieldOff => []
  | .tagReqa => []
  | .tagWupa => []
  | .tagAnticoll level _ => [.below level 3]
  | .tagSelect level cln => [.below level 3, .bytes cln]
  | .tagRats _ _ => []
  | .tagHlta => []
  | .tagPps _ _ => []
  | .tagDeselect => []
  | .tagWtxResponse => []
  | .tagWtxRequest => []
  | .tagSelectNdefApp a => [.bytes a.data]
  | .tagSelectFile a => [.bytes a.data]
  | .tagReadBinary a => [.bytes a.data]
  | .tagUpdateBinary a => [.bytes a.data]
  | .getInfo a => [.bytes a.data]
  | .verify a => [.bytes a.data]
  | .auth1 a => [.bytes a.data]
  | .auth2 a => [.bytes a.data]
  | .readRecord a => [.bytes a.data]
  | .writeRecord a => [.bytes a.data]
  | .incCounter a => [.bytes a.data]
  | .readCounters a => [.bytes a.data]
  | .tagPassthroughApdu a => [.bytes a.data]
  | .tagCommitDone => []
  | .lockoutEnd => []
  | .wiredRead m record _ => [.master m, .below record 256]
  | .wiredWrite m record _ => [.master m, .below record 256]
  | .wgrant => []
  | .pcmdRespond m _ => [.master m]
  | .pcmdReject m => [.master m]
  | .passthroughTimeout => []
  | .levelWrite m v => [.master m, .below v 4294967296]
  | .curveDataAccess m _ v => [.master m, .below v 4294967296]
  | .daliSend m v => [.master m, .below v 4294967296]
  | .daliCollision => []
  | .daliDone => []
  | .daliBackwardFrame _ _ => []
  | .daliNoAnswer => []
  | .autoDapcSend => []
  | .kick m => [.master m]
  | .fsClr m => [.master m]
  | .fsForce m => [.master m]
  | .keepaliveLapse => []
  | .pdRdy _ _ _ => []
  | .motion _ => []
  | .pirRearm _ => []
  | .indGo m v => [.master m, .below v 4294967296]
  | .indDone data => [.bytes data]
  | .pollRead _ => []
  | .pollTimeout => []
  | .txnTimeout => []
  | .xipFetch m addr => [.master m, .below addr 4294967296]
  | .xipFillDone line => [.bytes line]
  | .cacheInv m => [.master m]
  | .xwinWrite m n v => [.master m, .below n 4, .below v 4294967296]
  | .rcfgWrite m v => [.master m, .below v 4294967296]
  | .ibufWrite m addr width v => [.master m, .below addr 4294967296, .oneOf width [1, 2, 4, 8], .below v 4294967296]
  | .grnEnable m => [.master m]
  | .recordFold => []
  | .sweepStep => []
  | .grnFormat => []
  | .grnRecover => []
  | .grnCommit => []
  | .grnCommitTimer => []
  | .nrTailWrite m v => [.master m, .below v 4294967296]
  | .tagWatch body => [.bytes body]
  | .tagQuery body => [.bytes body]
  | .phyLinkChange _ _ _ => []
  | .macFrameRx frame _ => [.bytes frame]
  | .pdClassChange _ => []
  | .ptpSyncRx _ _ ptpNs => [.below ptpNs 18446744073709551616]
  | .ptpLoss => []
  | .readReq d => [.bytes d]
  | .writeReq d => [.bytes d]
  | .xferInit d => [.bytes d]
  | .xferData d => [.bytes d]
  | .xferAck d => [.bytes d]
  | .xferEnd d => [.bytes d]
  | .xferAbort d => [.bytes d]
  | .subscribe d => [.bytes d]
  | .notifyAck d => [.bytes d]
  | .planMcast d => [.bytes d]
  | .totUnknownType d => [.bytes d]
  | .xferResendTimeout _ => []
  | .xferIdleTimeout _ => []
  | .notifySend _ => []
  | .notifyResendTimeout _ => []
  | .subscriptionExpiry _ => []
  | .store => []
  | .restore => []
  | .hlCsFall _ => []
  | .hlFrameReject _ frame => [.bytes frame]
  | .hlNop frame => [.bytes frame]
  | .hlSync frame => [.bytes frame]
  | .regRead frame => [.bytes frame]
  | .regWriteAt frame => [.bytes frame]
  | .regWriteNext frame => [.bytes frame]
  | .objRead frame => [.bytes frame]
  | .objWrite frame => [.bytes frame]
  | .hlStagedWriteTimeout => []
  | .hostIrqSet m => [.master m]
  | .hostIrqClr m => [.master m]
  | .quePush q m v _ => [.below q 16, .master m, .below v 4294967296]
  | .quePop q m _ => [.below q 16, .master m]
  | .queFlush m mask => [.master m, .below mask 65536]
  | .queEnable q m _ _ => [.below q 16, .master m]
  | .queDisable q m => [.below q 16, .master m]
  | .tmrArm n m => [.below n 16, .master m]
  | .tmrStart n m => [.below n 16, .master m]
  | .tmrStop n m => [.below n 16, .master m]
  | .tmrGstart m mask => [.master m, .below mask 65536]
  | .tmrGstop m mask => [.master m, .below mask 65536]
  | .tmrExpiry n => [.below n 16]
  | .tmrCapture n _ _ => [.below n 16]
  | .uptMatch => []
  | .voteScrub _ _ _ _ => []
  | .refFail => []
  | .refclkRecovery => []
  | .slowXtalQualified => []
  | .slowFail => []
  | .slowRetry m => [.master m]
  | .pllLol => []
  | .pllLock _ => []
  | .relock => []
  | .clkReturn m => [.master m]
  | .clkBypass m => [.master m]
  | .pllMultWrite m v => [.master m, .below v 4294967296]
  | .clkDivWrite m n v => [.master m, .below n 6, .below v 4294967296]
  | .clkOutEnWrite m n _ => [.master m, .below n 6]
  | .clkDelayWrite m n v => [.master m, .below n 6, .below v 4294967296]
  | .powerOn _ => []
  | .warmReset => []
  | .resetNPin => []
  | .coreReset core => [.below core 2]
  | .lew _ => []
  | .lewEnd => []
  | .brownOut _ _ => []
  | .domCtrlWrite m v => [.master m, .below v 4294967296]
  | .thermalWarn _ _ => []
  | .thermalCapStep => []
  | .thermalQuiet _ _ => []
  | .hardTherm _ _ => []
  | .quietExit => []
  | .lcRequest v => [.below v 4294967296]
  | .bootRequest v => [.below v 4294967296]
  | .confirm => []
  | .restart => []
  | .swiSet m v => [.master m, .below v 4294967296]
  | .calRun m seq _ => [.master m, .below seq 16]
  | .calAbort m => [.master m]
  | .calSequenceEnd _ _ => []
  | .calCommit m _ => [.master m]
  | .ageRoMeasure _ _ _ => []
  | .agePaSample n _ => [.below n 4]
  | .ageBgMeasure _ => []
  | .ageMramMeasure _ => []
  | .wdtEnable m n => [.master m, .below n 3]
  | .wdtKick m n _ => [.master m, .below n 3]
  | .wdtWarn n => [.below n 3]
  | .wdtExpiry n => [.below n 3]
  | .frameEnd sh => [.below sh 4]
  | .antennaSettle n => [.below n 4]
  | .presentLevelUpdate => []
  | .temperatureTrigger n _ => [.below n 4]
  | .dueHint => []
  | .dueScrub => []
  | .occupancyHoldEnd => []

/-- A command is well formed when each of its bounded operands is. -/
def Instr.wf (i : Instr) : Bool := i.operands.all Operand.ok

end Sys2Proof
end

