-- ==== Sys2Proof/Tests/Slice0.lean ====
section
/-! SUPPORT. The model's own tests: an ill-formed command for each check of well-formedness, values from outside the model,
single steps, and for every obligation with hypotheses a state and operands that meet them, clause by clause. -/

namespace Sys2Proof.Machine

open Sys2Proof

set_option Elab.async false
set_option maxRecDepth 2000

/-! ### Well-formedness -/

theorem test_wf_below : Instr.wf (.debugHalt 2) = false := by decide
theorem test_wf_oneOf : Instr.wf (.registerWrite .coreB 0x40000000 3 0) = false := by decide
theorem test_wf_bytes : Instr.wf (.hlNop [256]) = false := by decide
theorem test_wf_master : Instr.wf (.registerWrite (.seq 16) 0x40000000 4 0) = false := by decide
theorem test_wf_accepts : Instr.wf (.registerWrite (.seq 15) 0x40000000 4 0) = true := by decide

/-! ### Values from outside the model -/

/-- The check value of CRC-32C over the digits 1 to 9. -/
theorem test_crc32c : crc32c [0x31, 0x32, 0x33, 0x34, 0x35, 0x36, 0x37, 0x38, 0x39] = 0xE3069283 := by decide +kernel

/-- The AES-128 example of FIPS 197, appendix B. -/
theorem test_aes : aesEnc [0x2B, 0x7E, 0x15, 0x16, 0x28, 0xAE, 0xD2, 0xA6, 0xAB, 0xF7, 0x15, 0x88, 0x09, 0xCF, 0x4F, 0x3C]
    [0x32, 0x43, 0xF6, 0xA8, 0x88, 0x5A, 0x30, 0x8D, 0x31, 0x31, 0x98, 0xA2, 0xE0, 0x37, 0x07, 0x34] =
    [0x39, 0x25, 0x84, 0x1D, 0x02, 0xDC, 0x09, 0xFB, 0xDC, 0x11, 0x85, 0x97, 0x19, 0x6A, 0x0B, 0x32] := by decide +kernel

/-- SHA-256 of the bytes of `abc` (FIPS 180-4), its first word. -/
theorem test_sha256 : (sha256 [0x61, 0x62, 0x63]).take 4 = [0xBA, 0x78, 0x16, 0xBF] := by decide +kernel

/-- The example beside R120: a residual of −50 dBm under GAIN 7 applies code 6. -/
theorem test_agc : agcGain 7 (-50 * 256) = 6 := by decide

/-! ### Single steps -/

theorem test_step_idle : (match step State.reset with
    | .next t => t.now == 1 && t.pending == []
    | _ => false) = true := by decide +kernel

theorem test_fetch_word : State.reset.withFetchWord 32 7 = State.reset := rfl

theorem test_core_step : Sys2Proof.core.step = step := rfl

/-! ### LSI words, written out from the formats of R214 and the opcodes of R215 -/

/-- ADD, format R: D 2, A 5, B 7. -/
theorem test_lsi_add : lsiDecode 3 0b00000100100101011100000000000000 = some (.lsiAdd 3 2 5 7) := by decide

/-- EXT: D 1, A 2, POS 31, LEN 32. -/
theorem test_lsi_ext : lsiDecode 3 0b00101100010010000011111111110000 = some (.lsiExt 3 1 2 31 32) := by decide

/-- LDH, format I: D 15, A 14, IMM all ones. -/
theorem test_lsi_ldh : lsiDecode 3 0b01100111111110111111111111111111 = some (.lsiLdh 3 15 14 0x3FFFF) := by decide

/-- BR, format B: COND 12, TGT all ones. -/
theorem test_lsi_br : lsiDecode 3 0b10000011000000000001111111111111 = some (.lsiBr 3 12 8191) := by decide

/-- PST, format P: source 4, A 9, BLK 5, OFFSET 0x0104. -/
theorem test_lsi_pst : lsiDecode 3 0b10110101001001101000000100000100 = some (.lsiPst 3 4 9 5 0x104) := by decide

/-- WRS, format S: source 6, special register 0x81. -/
theorem test_lsi_wrs : lsiDecode 3 0b10100101100000000000000010000001 = some (.lsiWrs 3 6 0x81) := by decide

/-- TXF, format F: FIDX 33. -/
theorem test_lsi_txf : lsiDecode 3 0b11001010000100000000000000000000 = some (.lsiTxf 3 33) := by decide

/-- PUSHB, format Q: A 8, Q 10, N 16. -/
theorem test_lsi_pushb : lsiDecode 3 0b11010110001010011110000000000000 = some (.lsiPushb 3 8 10 16) := by decide

/-- WAIT, format W: MASK 0x201, UNIT 2, COUNT 0x2001. -/
theorem test_lsi_wait : lsiDecode 3 0b11110010000000011010000000000001 = some (.lsiWait 3 0x201 2 0x2001) := by decide

/-- WAITR, format WR: MASK 0x201, B 11. -/
theorem test_lsi_waitr : lsiDecode 3 0b11110110000000010000000000001011 = some (.lsiWaitr 3 0x201 11) := by decide

/-- RQS: CHMASK 9, REQ 4. -/
theorem test_lsi_rqs : lsiDecode 3 0b11000010010000000000000000000100 = some (.lsiRqs 3 9 4) := by decide

/-- ADD with a bit set in [13:0]. -/
theorem test_lsi_unused : lsiDecode 3 0b00000100100101011100000000000001 = none := by decide

/-- 0x0E is no opcode. -/
theorem test_lsi_absent : lsiDecode 3 0b00111000000000000000000000000000 = none := by decide

/-! ### States that meet the hypotheses -/

/-- The reset state with register fields set. -/
def wst (l : List (Fld × Nat × Nat)) : State := l.foldl (fun s p => s.set p.1 p.2.2 p.2.1) State.reset

/-- A region profile with one channel that ends at 0 dBm, with its flags. -/
def wProf (flags : Nat) : List Nat :=
  List.replicate 18 0 ++ [1, flags] ++ toLe 4 865000 ++ toLe 4 868000 ++ List.replicate 12 0 ++ [0, 0] ++ List.replicate 6 0 ++
  toLe 4 (crc32c (List.replicate 260 0)) ++ List.replicate 12 0 ++ toLe 4 865700 ++ [0, 0] ++ toLe 2 0x2100

/-- A state in which the enforcer refuses chain 0 nothing. -/
def wRge (s : State) (flags : Nat) : State :=
  let s := s.set RGE.STATE_PROFILE_OK 1
  let s := s.set RGE.CTRL_RF_EN 1
  let s := s.set RGE.STATE_HOLD 0
  let s := s.set RGE.STATE_WINDOW 1
  let s := s.set RGE.STATE_QUIET_LATCH 0
  let s := if flags == 2 then ((s.set SHF.LEASE_STATE_HELD 1).set SHF.COMP_TXMASK 1).set SHF.COMP_RXMASK 1 else s
  let s := (s.setObj 0x3130 0 (List.replicate 276 0)).setObj 0x3100 0 (List.replicate 1040 0)
  let s := s.setSynth 0 { applied := 865700 }
  { s with rge.profile := wProf flags }

/-- A state whose sequencer 0 holds the shortest image that loads. -/
def wSeq (s : State) : State :=
  s.wrBytes (seqBase 0) (toLe 4 0x5145534C ++ [1,1,0,0] ++ [0,0,0,0] ++ toLe 4 36 ++ toLe 4 (crc32c [0,0,0,0]) ++ List.replicate 12 0)

/-- A site key. -/
def wKey : List Nat := List.replicate 16 9

/-- A TOT header from node 8 of site 7 with counter 0, under KEY_ID 5. -/
def wHdr (ty dst n : Nat) : List Nat :=
  [1, ty, 7, 0, 8, 0, dst % 256, dst / 256, 5, 0, 1, 0, 0, 0, 0, 0, 0, 0, 0, 0, n, 0, 0, 0]

/-- A sealed datagram. -/
def wDg (ty dst : Nat) (p : List Nat) : List Nat :=
  wHdr ty dst p.length ++ gcmSeal wKey [8, 0, 0, 0, 0, 0, 0, 0, 0, 0, 0, 0] (wHdr ty dst p.length) p

/-- The message that it carries. -/
def wMsg (ty dst : Nat) (p : List Nat) : TotMsg := { hdr := wHdr ty dst p.length, body := p, key := wKey }

theorem wKey_block (b : List Nat) : (aesEnc wKey b).length = 16 := aesEnc_length _ _ (by decide +kernel) (by decide +kernel)
theorem aesCmac_wKey (m : List Nat) : (aesCmac wKey m).length = 16 := by unfold aesCmac; exact wKey_block _

theorem wDg_length (ty dst : Nat) (p : List Nat) : (wDg ty dst p).length = p.length + 40 := by
  simp [wDg, wHdr, gcmSeal_length _ _ _ _ wKey_block]

theorem wDg_open (s : State) (ty dst : Nat) (p : List Nat) (h : s.siteId = 7 ∧ s.nodeId = 3 ∧ s.totKey 5 = some wKey ∧
    s.totFresh 8 0 = true) (hd : dst = 3 ∨ dst = 0xFFFF) (hp : p.length < 256) :
    s.unsent.totOpen (wDg ty dst p) = (s.unsent.totSeen 8 0, some (wMsg ty dst p)) := by
  have hl := wDg_length ty dst p
  have e0 : byteAt (wDg ty dst p) 0 = 1 := rfl
  have e1 : le16 (wDg ty dst p) 20 = p.length := rfl
  have e2 : le16 (wDg ty dst p) 2 = 7 := rfl
  have e3 : le16 (wDg ty dst p) 6 = dst := by show dst % 256 + 256 * (dst / 256) = dst; omega
  have e4 : le16 (wDg ty dst p) 4 = 8 := rfl
  have e5 : le64 (wDg ty dst p) 12 = 0 := rfl
  have e6 : byteAt (wDg ty dst p) 8 = 5 := rfl
  have e7 : slice (wDg ty dst p) 4 2 ++ [0, 0] ++ slice (wDg ty dst p) 12 8 = [8, 0, 0, 0, 0, 0, 0, 0, 0, 0, 0, 0] := rfl
  have e8 : (wDg ty dst p).take 24 = wHdr ty dst p.length := rfl
  have e9 : (wDg ty dst p).drop 24 = gcmSeal wKey [8, 0, 0, 0, 0, 0, 0, 0, 0, 0, 0, 0] (wHdr ty dst p.length) p := rfl
  have u1 : s.unsent.siteId = 7 := h.1
  have u2 : s.unsent.nodeId = 3 := h.2.1
  have u3 : s.unsent.totKey 5 = some wKey := h.2.2.1
  have u4 : s.unsent.totFresh 8 0 = true := h.2.2.2
  unfold State.totOpen
  simp only [e0, e1, e2, e3, e4, e5, e6, e7, e8, e9, hl, u1, u2, u3, u4, gcmOpen_gcmSeal _ _ _ _ wKey_block]
  have : ¬(p.length + 40 < 40) := by omega
  rcases hd with rfl | rfl <;> simp [this, wMsg]

/-- Node 3 of site 7 with a site key. -/
def wNode (s : State) : State :=
  let s := (s.setObj 0x0102 1 [3, 0]).setObj 0x0102 2 [7, 0]
  { s with hft.slots := Tab.set none s.hft.slots 0x10 (some (recSlot ([5, 1, 0, 0] ++ wKey) 0x10 1)) }

/-- The least sealed datagram with its tag spoilt. -/
def wBad : List Nat := wHdr 1 3 0 ++ (gcmTag wKey [8, 0, 0, 0, 0, 0, 0, 0, 0, 0, 0, 0] (wHdr 1 3 0) []).map (· + 1)

theorem wBad_length : wBad.length = 40 := by
  simp [wBad, wHdr, gcmTag_length _ _ _ _ wKey_block]

theorem wBad_open : gcmOpen wKey [8, 0, 0, 0, 0, 0, 0, 0, 0, 0, 0, 0] (wHdr 1 3 0)
    ((gcmTag wKey [8, 0, 0, 0, 0, 0, 0, 0, 0, 0, 0, 0] (wHdr 1 3 0) []).map (· + 1)) = none := by
  have hl := gcmTag_length wKey [8, 0, 0, 0, 0, 0, 0, 0, 0, 0, 0, 0] (wHdr 1 3 0) [] wKey_block
  generalize ht : gcmTag wKey [8, 0, 0, 0, 0, 0, 0, 0, 0, 0, 0, 0] (wHdr 1 3 0) [] = t at hl
  have hn : t ≠ t.map (· + 1) := fun e => by
    cases t with
    | nil => simp at hl
    | cons x r => simp at e
  simp [gcmOpen, hl, ht, hn]

/-- A transfer of node 8. -/
def wXfer : Xfer :=
  { src := 8, tid := 1, kid := 5, index := 0x1001, sub := 0, out := false, kind := 0, total := 8, crc := 0, data := [], next := 0, segs := 0, resends := 0, host := false }

/-- A subscription of node 8 with a notification unacknowledged. -/
def wSubscr : Subscr :=
  { src := 8, id := 4, mode := 1, index := 0x1001, sub := 0, minMs := 0, life := 9, conf := true, waiting := some (4 :: List.replicate 7 0), resends := 0, queued := [], since := 0, last := [] }

/-- A census record with a sound CRC. -/
def wRec : List Nat :=
  let b := List.replicate 11 0 ++ [2, 0, 0, 0, 0, 0, 0x80, 0, 0] ++ List.replicate 4 0 ++ [1, 2] ++ List.replicate 34 0
  b ++ toLe 4 (crc32c b)

/-- The words of a record. -/
def recWords (b : List Nat) : List Nat := (List.range 16).map fun i => le32 b (4 * i)

/-- A Granary index of one slot with one entry. -/
def wEnt (s : State) : State :=
  ((s.set GRN.GEOM_IDX_LOG2 0).entryPut 0 (toLe 4 (crc32c [1, 2]) ++ [2, 3] ++ List.replicate 18 0 ++ padTo 32 [1, 2]))

/-- A superblock with a sound CRC. -/
def wSup : List Nat :=
  let b := [0x47, 0x53, 0x42, 0x31] ++ List.replicate 56 0
  b ++ toLe 4 (crc32c b)

/-- A Granary whose first superblock stands. -/
def wSuper (s : State) : State := (s.set GRN.GEOM_IDX_LOG2 0).extWrite s.grnSel (s.superOff false) wSup

/-- A Host Link frame with its CRC. -/
def wFr (ty n : Nat) (b : List Nat) : List Nat :=
  let f := [1, ty, 0, n] ++ b
  let f := f ++ List.replicate (60 - f.length) 0
  f ++ toLe 4 (crc32c f)

/-- A frame to a group address. -/
def wFrame : List Nat := [1, 1, 1, 1, 1, 1] ++ List.replicate 6 0 ++ [8, 0] ++ List.replicate 8 0

/-- A sound frame to a group address is taken, whatever the node's own address. -/
theorem macTakes_group (f : List Nat) (h : 18 ≤ f.length ∧ f.length ≤ 1518 ∧ ofBe (slice f 12 2) ≠ 0x8100 ∧
    ofBe (slice f 12 2) ≠ 0x8808 ∧ bitOf (byteAt f 0) 0 = true) : macTakes f true = true := by
  simp [macTakes, h]

theorem witness_StepIdlesOneCycle :
    (∃ (s : State), s.Inv ∧ s.pending = []) :=
  ⟨State.reset, ⟨by decide +kernel, by decide +kernel⟩, by decide +kernel⟩

theorem witness_StepKeepsCanonicalForm :
    (∃ (s t : State), s.Inv ∧ step s = .next t) :=
  ⟨State.reset, ({ State.reset with now := State.reset.now + 1 } : State), ⟨by decide +kernel,
    by decide +kernel⟩, rfl⟩

theorem witness_CommandsKeepQueueAndTime :
    (∃ (i : Instr) (s t : State), s.Inv ∧ exec i s = .next t) :=
  ⟨(.quietExit), State.reset, State.reset, ⟨by decide +kernel, by decide +kernel⟩, rfl⟩

theorem witness_RegisterAccess :
    (∃ (m : Master) (a w : Nat), masterNum m < 4 ∧ (w = 1 ∨ w = 2 ∨ w = 4) ∧ a % w = 0 ∧ 0x10000000 ≤ a ∧
      a < 0x10400000) ∧
    (∃ (m : Master) (n : Nat), masterNum m < 4 ∧ n < 16) ∧
    (∃ (m : Master) (n : Nat), masterNum m < 4 ∧ n < 16) ∧
    (∃ (m : Master) (a w : Nat), masterNum m < 4 ∧ (w = 1 ∨ w = 2 ∨ w = 4) ∧ mapRow a = none ∧ a < 4294967296) ∧
    (∃ (m : Master) (n : Nat), masterNum m < 4 ∧ n < 16) ∧
    (∃ (m : Master), masterNum m < 4) :=
  ⟨⟨Master.coreP, 268435456, 1, by decide +kernel⟩,
   ⟨Master.coreP, 0, by decide +kernel⟩,
   ⟨Master.coreP, 0, by decide +kernel⟩,
   ⟨Master.coreP, 0x4FF00000, 1, by decide +kernel⟩,
   ⟨Master.coreP, 0, by decide +kernel⟩,
   ⟨Master.coreP, by decide +kernel⟩⟩

theorem witness_SequencerMemoryWrite :
    (∃ (s : State) (m : Master) (n off w : Nat), masterNum m < 3 ∧ n < 16 ∧ (w = 1 ∨ w = 2 ∨ w = 4) ∧ off % w = 0 ∧
      off < 0x8000 ∧ s.get LSC.STATE_STATE n = 0) ∧
    (∃ (s : State) (m : Master) (n off w : Nat), masterNum m < 3 ∧ n < 16 ∧ (w = 1 ∨ w = 2 ∨ w = 4) ∧ off % w = 0 ∧
      off < 0x8000 ∧ s.get LSC.STATE_STATE n ≠ 0) :=
  ⟨⟨(wst [(LSC.STATE_STATE, 0, 0)]), Master.coreP, 0, 0, 1, by decide +kernel⟩,
   ⟨(wst [(LSC.STATE_STATE, 0, 1)]), Master.coreP, 0, 0, 1, by decide +kernel⟩⟩

theorem witness_InterruptConfigAndDoorbells :
    (∃ (s : State) (m : Master), masterNum m < 4 ∧ s.bus.irqNew = none) ∧
    (∃ (v : Nat), bitOf v 4 = false) ∧
    (∃ (v : Nat), bitOf v 4 = true) :=
  ⟨⟨({ State.reset with bus.irqNew := none } : State), Master.coreP, by decide +kernel⟩,
   ⟨0, by decide +kernel⟩,
   ⟨16, by decide +kernel⟩⟩

theorem witness_DebugHaltFreezesTimers :
    (∃ (core : Nat), core < 2) ∧
    (∃ (core : Nat), core < 2) :=
  ⟨⟨0, by decide +kernel⟩,
   ⟨0, by decide +kernel⟩⟩

theorem witness_WatchdogEnableKickWarn :
    (∃ (s : State) (m : Master) (n : Nat), n < 2 ∧ wdtWriter n m = true ∧ s.get SYS.WDT_CTRL_EN n = 0) ∧
    (∃ (s : State) (n : Nat), n < 2 ∧ s.get SYS.WDT_CTRL_EN n ≠ 0) ∧
    (∃ (s : State) (m : Master) (n : Nat), n < 2 ∧ wdtWriter n m = true ∧ s.get SYS.WDT_CTRL_EN n = 1) ∧
    (∃ (s : State) (m : Master) (n : Nat), n < 2 ∧ wdtWriter n m = true ∧ s.get SYS.WDT_CTRL_EN n = 0) ∧
    (∃ (m : Master) (n key : Nat), n < 2 ∧ wdtWriter n m = true ∧ key < 65536 ∧ key ≠ 0xA55A) ∧
    (∃ (m : Master) (n : Nat), n < 2 ∧ wdtWriter n m = false) ∧
    (∃ (s : State) (n : Nat), n < 2 ∧ s.get SYS.WDT_CTRL_EN n = 1 ∧ s.wdtHalted n = false) ∧
    (∃ (s : State) (n : Nat), n < 2 ∧ (s.get SYS.WDT_CTRL_EN n = 0 ∨ s.wdtHalted n = true)) :=
  ⟨⟨(wst [(SYS.WDT_CTRL_EN, 0, 0)]), Master.coreP, 0, by decide +kernel⟩,
   ⟨(wst [(SYS.WDT_CTRL_EN, 0, 1)]), 0, by decide +kernel⟩,
   ⟨(wst [(SYS.WDT_CTRL_EN, 0, 1)]), Master.coreP, 0, by decide +kernel⟩,
   ⟨(wst [(SYS.WDT_CTRL_EN, 0, 0)]), Master.coreP, 0, by decide +kernel⟩,
   ⟨Master.coreP, 0, 0, by decide +kernel⟩,
   ⟨(.seq 0), 0, by decide +kernel⟩,
   ⟨(wst [(SYS.WDT_CTRL_EN, 0, 1)]), 0, by decide +kernel⟩,
   ⟨(wst [(SYS.WDT_CTRL_EN, 0, 0)]), 0, by decide +kernel⟩⟩

theorem witness_TimersCountAndCapture :
    (∃ (s : State) (n : Nat), s.get TMR.STATE_STATE n ≤ 1) ∧
    (∃ (s : State) (n : Nat), 2 ≤ s.get TMR.STATE_STATE n) ∧
    (∃ (s : State) (n : Nat), s.get TMR.STATE_STATE n = 1) ∧
    (∃ (s : State) (n : Nat), s.get TMR.STATE_STATE n ≠ 1) ∧
    (∃ (s : State) (n : Nat), n < 16 ∧ s.get TMR.STATE_STATE n = 2) ∧
    (∃ (s : State) (n : Nat), s.get TMR.STATE_STATE n ≠ 2) ∧
    (∃ (s : State) (n src : Nat) (rising : Bool), n < 16 ∧ 1 ≤ src ∧ src ≤ 4 ∧ s.get TMR.CTRL_CAP_SRC n = src ∧
      (s.get TMR.CTRL_CAP_EDGE n = 0 ∧ rising = true ∨ s.get TMR.CTRL_CAP_EDGE n = 1 ∧
      rising = false ∨ 2 ≤ s.get TMR.CTRL_CAP_EDGE n) ∧ 2 ≤ s.get TMR.STATE_STATE n ∧ bitOf s.tmrUnread n = false) ∧
    (∃ (s : State) (n src : Nat) (rising : Bool), n < 16 ∧ 1 ≤ src ∧ src ≤ 4 ∧ s.get TMR.CTRL_CAP_SRC n = src ∧
      (s.get TMR.CTRL_CAP_EDGE n = 0 ∧ rising = true ∨ s.get TMR.CTRL_CAP_EDGE n = 1 ∧
      rising = false ∨ 2 ≤ s.get TMR.CTRL_CAP_EDGE n) ∧ 2 ≤ s.get TMR.STATE_STATE n ∧ bitOf s.tmrUnread n = true) ∧
    (∃ (s : State) (n src : Nat) (rising : Bool),
      (s.get TMR.CTRL_CAP_SRC n ≠ src ∨ s.get TMR.STATE_STATE n < 2 ∨ s.get TMR.CTRL_CAP_EDGE n = 0 ∧
      rising = false ∨ s.get TMR.CTRL_CAP_EDGE n = 1 ∧ rising = true)) :=
  ⟨⟨State.reset, 0, by decide +kernel⟩,
   ⟨(wst [(TMR.STATE_STATE, 0, 2)]), 0, by decide +kernel⟩,
   ⟨(wst [(TMR.STATE_STATE, 0, 1)]), 0, by decide +kernel⟩,
   ⟨(wst [(TMR.STATE_STATE, 0, 2)]), 0, by decide +kernel⟩,
   ⟨(wst [(TMR.STATE_STATE, 0, 2)]), 0, by decide +kernel⟩,
   ⟨(wst [(TMR.STATE_STATE, 0, 3)]), 0, by decide +kernel⟩,
   ⟨(wst [(TMR.CTRL_CAP_SRC, 0, 1), (TMR.CTRL_CAP_EDGE, 0, 0), (TMR.STATE_STATE, 0, 2)]), 0, 1, true,
    by decide +kernel⟩,
   ⟨(({ (wst [(TMR.CTRL_CAP_SRC, 0, 1), (TMR.CTRL_CAP_EDGE, 0, 0), (TMR.STATE_STATE, 0, 2)]) with tmrUnread := 1 } : State) : State),
    0, 1, true, by decide +kernel⟩,
   ⟨(wst [(TMR.CTRL_CAP_SRC, 0, 1)]), 0, 0, false, by decide +kernel⟩⟩

theorem witness_GrantDecisions :
    (∃ (s : State) (n : Nat), n < 4 ∧ (s.utxAt n).want = some 3 ∧ s.get UTX.STATE_STATE n = 2 ∧
      s.get UTX.STATE_RAMP n = 0 ∧ s.get UTX.STATE_WAIT n = 0 ∧ (s.utxAt n).grantAsked = false ∧
      s.bit RGE.STATE_WINDOW n = true ∧ s.profFlag 1 = false ∧ s.rgeCheck n false = 0) ∧
    (∃ (s : State) (n : Nat), n < 4 ∧ (s.utxAt n).want = some 3 ∧ s.get UTX.STATE_STATE n = 2 ∧
      s.get UTX.STATE_RAMP n = 0 ∧ s.get UTX.STATE_WAIT n = 0 ∧ (s.utxAt n).grantAsked = false ∧
      s.bit RGE.STATE_WINDOW n = true ∧ s.rgeCheck n false ≠ 0) ∧
    (∃ (s : State) (n power : Nat), n < 4 ∧ (s.utxAt n).grantAsked = true ∧ s.profFlag 1 = true ∧
      s.rgeCheck n false = 0 ∧ sint 16 power ≤ sint 16 (le16 s.rge.profile 40)) ∧
    (∃ (s : State) (n power : Nat), n < 4 ∧ (s.utxAt n).grantAsked = true ∧ s.profFlag 1 = true ∧
      s.rgeCheck n false = 0 ∧ sint 16 (le16 s.rge.profile 40) < sint 16 power) :=
  ⟨⟨(wRge ((wst [(UTX.STATE_STATE, 0, 2), (UTX.STATE_RAMP, 0, 0), (UTX.STATE_WAIT, 0, 0), (RGE.STATE_WINDOW, 0, 1)]).setUtx 0 { want := some 3, grantAsked := false }) 0 : State),
    0, by decide +kernel⟩,
   ⟨((wst [(UTX.STATE_STATE, 0, 2), (UTX.STATE_RAMP, 0, 0), (UTX.STATE_WAIT, 0, 0), (RGE.STATE_WINDOW, 0, 1)]).setUtx 0 { want := some 3, grantAsked := false }),
    0, by decide +kernel⟩,
   ⟨(wRge (State.reset.setUtx 0 { grantAsked := true }) 2 : State), 0, 0, by decide +kernel⟩,
   ⟨(wRge (State.reset.setUtx 0 { grantAsked := true }) 2 : State), 0, 5, by decide +kernel⟩⟩

theorem witness_KillAndViolations :
    (∃ (s : State) (n code fwd : Nat), n < 4 ∧ s.granted n = true ∧ s.rge.viols = [] ∧
      s.get RGE.CNT_VIOL_COUNT < 0xFFFFFFFF ∧ ((code = 20 ∧
      s.khz (s.loOf n) ≠ s.chanKhz (Tab.get 0 s.rge.granted n)) ∨ (code = 16 ∧ s.get UTX.PA_PA_EN n = 1 ∧
      s.get UTX.STATE_RAMP n = 0 ∧ s.fwdLimit n < sint 16 fwd) ∨ (code = 17 ∧ le16 s.rge.profile 32 ≠ 0 ∧
      le16 s.rge.profile 32 * 240000 < s.now - Tab.get 0 s.rge.onTime n) ∨ (code = 18 ∧ s.profFlag 2 = true ∧
      le16 s.rge.profile 28 * 100 ≤ s.occUnits (Tab.get 0 s.rge.granted n)) ∨ (code = 19 ∧ s.profFlag 3 = true ∧
      le16 s.rge.profile 34 ≤ s.dutyPermil n))) ∧
    (∃ (s : State) (n code fwd : Nat), (s.underCheck n = false ∨ s.breached n code fwd = false)) ∧
    (∃ (s : State), s.get RGE.KILL_PIN = 0) ∧
    (∃ (s : State), s.get RGE.KILL_KILL = 0) ∧
    (∃ (s : State), s.get RGE.KILL_PIN ≠ 0) ∧
    (∃ (s : State), s.get RGE.KILL_KILL ≠ 0) ∧
    (∃ (s : State), s.get RGE.STATE_KILL_ACTIVE = 1 ∧ s.get RGE.KILL_KILL = 0) ∧
    (∃ (s : State), s.get RGE.KILL_KILL ≠ 0) ∧
    (∃ (s : State), s.get RGE.STATE_KILL_ACTIVE = 1 ∧ s.get RGE.KILL_PIN = 0) ∧
    (∃ (s : State), s.get RGE.KILL_PIN ≠ 0) ∧
    (∃ (m : Master), m ≠ .coreP) ∧
    (∃ (s : State) (m : Master) (e : RgeEntry) (r : List RgeEntry), m ≠ .coreB ∧ s.rge.log = e :: r) ∧
    (∃ (s : State) (e : RgeEntry) (r : List RgeEntry), s.rge.log = e :: r) ∧
    (∃ (s : State), s.rge.log = []) :=
  ⟨⟨(({ (({ (let s : State := wst [(RGE.STATE_GRANT, 0, 1)]; ({ s with rge.granted := Tab.set 0 s.rge.granted 0 1 } : State)) with rge.viols := [] } : State).set SHF.LEASE_STATE_HELD 1).set SHF.COMP_TXMASK 1 with rge.granted := [(0, 1)], rge.profile := wProf 0, rge.viols := [] } : State) : State),
    0, 20, 0, by decide +kernel⟩,
   ⟨State.reset, 0, 0, 0, by decide +kernel⟩,
   ⟨(wst [(RGE.KILL_PIN, 0, 0)]), by decide +kernel⟩,
   ⟨(wst [(RGE.KILL_KILL, 0, 0)]), by decide +kernel⟩,
   ⟨(wst [(RGE.KILL_PIN, 0, 1)]), by decide +kernel⟩,
   ⟨(wst [(RGE.KILL_KILL, 0, 1)]), by decide +kernel⟩,
   ⟨(wst [(RGE.STATE_KILL_ACTIVE, 0, 1), (RGE.KILL_KILL, 0, 0)]), by decide +kernel⟩,
   ⟨(wst [(RGE.KILL_KILL, 0, 1)]), by decide +kernel⟩,
   ⟨(wst [(RGE.STATE_KILL_ACTIVE, 0, 1), (RGE.KILL_PIN, 0, 0)]), by decide +kernel⟩,
   ⟨(wst [(RGE.KILL_PIN, 0, 1)]), by decide +kernel⟩,
   ⟨Master.coreB, by decide +kernel⟩,
   ⟨({ State.reset with rge.log := ({ code := 1, chain := 0, chan := 0, angle := 0, cycle := 0 } : RgeEntry) :: ([] : List RgeEntry) } : State),
    Master.coreP, ({ code := 1, chain := 0, chan := 0, angle := 0, cycle := 0 } : RgeEntry), ([] : List RgeEntry),
    by decide +kernel⟩,
   ⟨({ State.reset with rge.log := ({ code := 1, chain := 0, chan := 0, angle := 0, cycle := 0 } : RgeEntry) :: ([] : List RgeEntry) } : State),
    ({ code := 1, chain := 0, chan := 0, angle := 0, cycle := 0 } : RgeEntry), ([] : List RgeEntry),
    by decide +kernel⟩,
   ⟨({ State.reset with rge.log := [] } : State), by decide +kernel⟩⟩

theorem witness_ChainRequests :
    (∃ (s : State) (n : Nat) (m : Master), n < 4 ∧ s.ownerOk (s.chainSheaf n) m = true ∧ s.get UTX.STATE_STATE n = 1 ∧
      s.carrier n = false ∧ (s.utxAt n).ramp = none) ∧
    (∃ (s : State) (n : Nat) (m : Master), n < 4 ∧ s.ownerOk (s.chainSheaf n) m = true ∧ s.get UTX.STATE_STATE n = 2 ∧
      s.carrier n = false ∧ (s.utxAt n).ramp = none ∧ s.heldOff n = false ∧ (s.synthAt (s.loOf n)).relock = false) ∧
    (∃ (s : State) (n : Nat) (m : Master), n < 4 ∧ s.ownerOk (s.chainSheaf n) m = true ∧ s.get UTX.STATE_STATE n = 1 ∧
      s.carrier n = false ∧ (s.utxAt n).ramp = none ∧ s.heldOff n = false ∧ s.sst (s.loOf n) = 4) ∧
    (∃ (s : State) (n : Nat) (m : Master), n < 4 ∧ s.ownerOk (s.chainSheaf n) m = true ∧ s.get UTX.STATE_STATE n = 2 ∧
      s.carrier n = false ∧ (s.utxAt n).ramp = none ∧ s.heldOff n = false ∧ s.sst (s.loOf n) = 4 ∧
      s.supplyOk = true) ∧
    (∃ (s : State) (n : Nat) (m : Master), n < 4 ∧ s.ownerOk (s.chainSheaf n) m = true ∧ s.get UTX.STATE_STATE n = 2 ∧
      s.carrier n = false ∧ (s.utxAt n).ramp = none ∧ s.heldOff n = false ∧ s.sst (s.loOf n) = 4 ∧
      s.supplyOk = true ∧ s.get CLK.STATE_ON_BYPASS = 0 ∧ (s.utxAt n).antSettling = false ∧
      (s.utxAt n).grantAsked = false ∧ s.rampTable.isSome = true ∧
      (s.powerTable n (bandGroup (s.khz (s.loOf n)))).isSome = true ∧ s.bit RGE.STATE_WINDOW n = true ∧
      s.profFlag 1 = false ∧ s.rgeCheck n false = 0) ∧
    (∃ (s : State) (n : Nat) (m : Master), s.ownerOk (s.chainSheaf n) m = false) ∧
    (∃ (s : State) (n : Nat) (m : Master), s.ownerOk (s.chainSheaf n) m = true ∧ s.heldOff n = true) :=
  ⟨⟨((wst [(UTX.STATE_STATE, 0, 1)]).setUtx 0 { ramp := none }), 0, Master.coreP, by decide +kernel⟩,
   ⟨((wst [(UTX.STATE_STATE, 0, 2)]).setUtx 0 { ramp := none }), 0, Master.coreP, by decide +kernel⟩,
   ⟨((wst [(UTX.STATE_STATE, 0, 1), (RFS.STATE_STATE, 0, 4)]).setUtx 0 { ramp := none }), 0, Master.coreP,
    by decide +kernel⟩,
   ⟨((wst [(UTX.STATE_STATE, 0, 2), (RFS.STATE_STATE, 0, 4)]).setUtx 0 { ramp := none }), 0, Master.coreP,
    by decide +kernel⟩,
   ⟨(wRge ((wst [(UTX.STATE_STATE, 0, 2), (CLK.STATE_ON_BYPASS, 0, 0), (RGE.STATE_WINDOW, 0, 1), (RFS.STATE_STATE, 0, 4)]).setUtx 0 { ramp := none, antSettling := false, grantAsked := false }) 0 : State),
    0, Master.coreP, by decide +kernel⟩,
   ⟨State.reset, 0, (.seq 0), by decide +kernel⟩,
   ⟨(wst [(SHF.LEASE_STATE_HELD, 0, 1)]), 0, (.seq 0), by decide +kernel⟩⟩

theorem witness_ChainEventsAndFaults :
    (∃ (s : State) (n : Nat), n < 4 ∧ (s.utxAt n).biasUp = true ∧ (s.utxAt n).want = none) ∧
    (∃ (s : State) (n : Nat) (r : Ramp), n < 4 ∧ (s.utxAt n).ramp = some r ∧ r.up = true ∧ (s.utxAt n).want = none ∧
      s.get UTX.CNT_KEY_COUNT n < 0xFFFFFFFF) ∧
    (∃ (s : State) (n : Nat) (r : Ramp), n < 4 ∧ (s.utxAt n).ramp = some r ∧ r.up = false ∧ (s.utxAt n).want = none ∧
      (s.utxAt n).downTo ≤ 2) ∧
    (∃ (s : State) (n : Nat), n < 4 ∧ s.get UTX.STATE_WAIT n = 1 ∧ (s.utxAt n).rqs = false) ∧
    (∃ (s : State), (∀ n, n < 4 → (s.utxAt n).want = none)) ∧
    (∃ (s : State) (n : Nat), (s.utxAt n).antSettling = true ∧ (s.utxAt n).want = none) ∧
    (∃ (s : State) (n fwd : Nat), s.carrier n = true ∧ (s.utxAt n).ramp = none ∧ s.get UTX.STATE_STATE n ≠ 4 ∧
      s.get UTX.CTRL_PA_CHECK n = 0 ∧ (s.set UTX.FWD_FWD fwd n).paOut n = true) ∧
    (∃ (s : State) (n : Nat), s.carrier n = true ∧ (s.utxAt n).ramp = none ∧ s.get UTX.STATE_STATE n = 4 ∧
      s.get UTX.CTRL_PA_CHECK n = 0 ∧ s.paOut n = true) ∧
    (∃ (s : State) (n fwd : Nat), n < 4 ∧ s.carrier n = true ∧ (s.utxAt n).ramp = none ∧
      s.get UTX.CTRL_PA_CHECK n = 1 ∧ (s.get UTX.STATE_STATE n = 4 ∧
      s.paOut n = true ∨ s.get UTX.STATE_STATE n ≠ 4 ∧ (s.set UTX.FWD_FWD fwd n).paOut n = true)) :=
  ⟨⟨(State.reset.setUtx 0 { biasUp := true, want := none }), 0, by decide +kernel⟩,
   ⟨(State.reset.setUtx 0 { ramp := some ({ up := true, fast := false, pos := 0, since := 0 } : Ramp), want := none }),
    0, ({ up := true, fast := false, pos := 0, since := 0 } : Ramp), by decide +kernel⟩,
   ⟨(State.reset.setUtx 0 { ramp := some ({ up := false, fast := false, pos := 0, since := 0 } : Ramp), want := none }),
    0, ({ up := false, fast := false, pos := 0, since := 0 } : Ramp), by decide +kernel⟩,
   ⟨((wst [(UTX.STATE_WAIT, 0, 1)]).setUtx 0 { rqs := false }), 0, by decide +kernel⟩,
   ⟨State.reset, by decide +kernel⟩,
   ⟨(State.reset.setUtx 0 { antSettling := true, want := none }), 0, by decide +kernel⟩,
   ⟨((wst [(UTX.STATE_CARRIER, 0, 1), (UTX.STATE_STATE, 0, 5), (UTX.CTRL_PA_CHECK, 0, 0), (UTX.FWD_FWD, 0, 0x4000)]).setUtx 0 { ramp := none }),
    0, 0x4000, by decide +kernel⟩,
   ⟨((wst [(UTX.STATE_CARRIER, 0, 1), (UTX.STATE_STATE, 0, 4), (UTX.CTRL_PA_CHECK, 0, 0), (UTX.FWD_FWD, 0, 0x4000)]).setUtx 0 { ramp := none }),
    0, by decide +kernel⟩,
   ⟨((wst [(UTX.STATE_CARRIER, 0, 1), (UTX.CTRL_PA_CHECK, 0, 1), (UTX.STATE_STATE, 0, 4), (UTX.FWD_FWD, 0, 0x4000)]).setUtx 0 { ramp := none }),
    0, 0x4000, by decide +kernel⟩⟩

theorem witness_ChainRegisterWrites :
    (∃ (s : State) (n : Nat) (m : Master), s.ownerOk (s.chainSheaf n) m = true ∧ s.get UTX.STATE_RAMP n = 1 ∧ n < 4) ∧
    (∃ (s : State) (n : Nat) (m : Master) (v : Nat), n < 4 ∧ v < 128 ∧ s.ownerOk (s.chainSheaf n) m = true ∧
      s.get UTX.STATE_RAMP n = 0 ∧ s.get UTX.STATE_STATE n ≠ 4) ∧
    (∃ (s : State) (n : Nat) (m : Master), s.ownerOk (s.chainSheaf n) m = true) ∧
    (∃ (s : State) (n : Nat) (m : Master), s.ownerOk (s.chainSheaf n) m = true ∧ s.get UTX.STATE_STATE n ≠ 4) ∧
    (∃ (s : State) (n : Nat) (m : Master), s.ownerOk (s.chainSheaf n) m = true ∧ s.get UTX.STATE_STATE n = 4 ∧
      (s.utxAt n).steerHeld = none) ∧
    (∃ (s : State) (n src : Nat), n < 4 ∧ src < 4 ∧ src ≠ s.get UTX.CTRL_LO_SRC n ∧
      (src = n ∨ s.get UTX.CTRL_LO_SRC src = src) ∧ s.get UTX.STATE_STATE n ≤ 1 ∧ s.get UTX.STATE_STATE src ≤ 1) ∧
    (∃ (s : State) (n src : Nat), src < 4 ∧ src ≠ s.get UTX.CTRL_LO_SRC n ∧ 1 < s.get UTX.STATE_STATE n) ∧
    (∃ (s : State) (n src : Nat), src < 4 ∧ src ≠ s.get UTX.CTRL_LO_SRC n ∧ src ≠ n ∧ s.get UTX.CTRL_LO_SRC src ≠ src) :=
  ⟨⟨(wst [(UTX.STATE_RAMP, 0, 1)]), 0, Master.coreP, by decide +kernel⟩,
   ⟨(wst [(UTX.STATE_RAMP, 0, 0), (UTX.STATE_STATE, 0, 5)]), 0, Master.coreP, 0, by decide +kernel⟩,
   ⟨State.reset, 0, Master.coreP, by decide +kernel⟩,
   ⟨(wst [(UTX.STATE_STATE, 0, 5)]), 0, Master.coreP, by decide +kernel⟩,
   ⟨((wst [(UTX.STATE_STATE, 0, 4)]).setUtx 0 { steerHeld := none }), 0, Master.coreP, by decide +kernel⟩,
   ⟨(wst [(UTX.CTRL_LO_SRC, 0, 2)]), 0, 1, by decide +kernel⟩,
   ⟨(wst [(UTX.CTRL_LO_SRC, 0, 2), (UTX.STATE_STATE, 0, 2)]), 0, 1, by decide +kernel⟩,
   ⟨(wst [(UTX.CTRL_LO_SRC, 0, 2), (UTX.CTRL_LO_SRC, 1, 2)]), 0, 1, by decide +kernel⟩⟩

theorem witness_Synthesizers :
    (∃ (s : State) (n : Nat) (m : Master), s.ownerOk (s.synthSheaf n) m = true ∧ (∀ c, c < 4 → s.carrier c = false)) ∧
    (∃ (s : State) (n : Nat) (m : Master), n < 4 ∧ s.ownerOk (s.synthSheaf n) m = true ∧ s.get UTX.CTRL_LO_SRC n = n ∧
      (∀ c, c < 4 → s.carrier c = false) ∧ (s.sst n = 1 ∨ s.sst n = 4) ∧ 840000 ≤ s.get RFS.FREQ_KHZ n ∧
      s.get RFS.FREQ_KHZ n ≤ 960000) ∧
    (∃ (s : State) (n : Nat) (m : Master), n < 4 ∧ s.ownerOk (s.synthSheaf n) m = true ∧ s.get UTX.CTRL_LO_SRC n = n ∧
      (∀ c, c < 4 → s.carrier c = false) ∧ (s.sst n = 1 ∨ s.sst n = 4) ∧ 840000 ≤ s.get RFS.FREQ_KHZ n ∧
      s.get RFS.FREQ_KHZ n ≤ 960000) ∧
    (∃ (s : State) (n : Nat) (m : Master), n < 4 ∧ s.ownerOk (s.synthSheaf n) m = true ∧ s.get UTX.CTRL_LO_SRC n = n ∧
      s.get CAL.STATE_BUSY = 0 ∧ (∀ c, c < 4 → s.inUse c = false)) ∧
    (∃ (s : State) (n : Nat), n < 4 ∧ s.get UTX.CTRL_LO_SRC n = n ∧ s.tcalDue n = true ∧ s.calFree n = true ∧
      s.calHolds [7, 8] n = false) ∧
    (∃ (s : State) (n band : Nat), n < 4 ∧ band < 64 ∧ s.sst n = 3 ∧ (∀ c, c < 4 → (s.utxAt c).want = none)) ∧
    (∃ (s : State) (n : Nat), n < 4 ∧ s.get RFS.STATE_HINT_USED n = 1 ∧ s.sst n = 2) ∧
    (∃ (s : State) (n : Nat), n < 4 ∧ s.sst n = 4) ∧
    (∃ (s : State) (n : Nat), s.sst n ≠ 4) ∧
    (∃ (n temp : Nat), n < 4 ∧ temp < 65536) ∧
    (∃ (s : State) (n temp : Nat), n < 4 ∧ temp < 65536 ∧ s.sst n = 6 ∧ s.calHolds [7] n = false ∧
      s.get UTX.CTRL_LO_SRC n = n ∧ (∀ c, c < 4 → s.carrier c = false) ∧ 840000 ≤ s.get RFS.FREQ_KHZ n ∧
      s.get RFS.FREQ_KHZ n ≤ 960000) :=
  ⟨⟨State.reset, 0, Master.coreP, by decide +kernel⟩,
   ⟨(wst [(UTX.CTRL_LO_SRC, 0, 0), (RFS.STATE_STATE, 0, 1), (RFS.FREQ_KHZ, 0, 840000)]), 0, Master.coreP,
    by decide +kernel⟩,
   ⟨(wst [(UTX.CTRL_LO_SRC, 0, 0), (RFS.STATE_STATE, 0, 1), (RFS.FREQ_KHZ, 0, 840000)]), 0, Master.coreP,
    by decide +kernel⟩,
   ⟨(wst [(UTX.CTRL_LO_SRC, 0, 0), (CAL.STATE_BUSY, 0, 0)]), 0, Master.coreP, by decide +kernel⟩,
   ⟨(wst [(UTX.CTRL_LO_SRC, 0, 0), (RFS.STATE_STATE, 0, 1)]), 0, by decide +kernel⟩,
   ⟨(wst [(RFS.STATE_STATE, 0, 3)]), 0, 0, by decide +kernel⟩,
   ⟨(wst [(RFS.STATE_HINT_USED, 0, 1), (RFS.STATE_STATE, 0, 2)]), 0, by decide +kernel⟩,
   ⟨(wst [(RFS.STATE_STATE, 0, 4)]), 0, by decide +kernel⟩,
   ⟨State.reset, 0, by decide +kernel⟩,
   ⟨0, 0, by decide +kernel⟩,
   ⟨(wst [(RFS.STATE_STATE, 0, 6), (UTX.CTRL_LO_SRC, 0, 0), (RFS.FREQ_KHZ, 0, 840000)]), 0, 0, by decide +kernel⟩⟩

theorem witness_NullersAndReceiveChains :
    (∃ (s : State) (ch resid vi vq : Nat), ch < 16 ∧ resid < 65536 ∧ vi < 4096 ∧ vq < 4096 ∧
      (s.get URX.STATE_STATE ch = 2 ∨ s.get URX.STATE_STATE ch = 3 ∨ s.get URX.STATE_STATE ch = 4) ∧
      (s.urxAt ch).everHeld = false ∧ sint 16 resid ≤ sint 16 (s.get URX.HOLD_CFG_LIM)) ∧
    (∃ (s : State) (ch resid : Nat), ch < 16 ∧ resid < 65536 ∧
      (s.get URX.STATE_STATE ch = 3 ∨ s.get URX.STATE_STATE ch = 2 ∨ s.get URX.STATE_STATE ch = 4) ∧
      s.get URX.STATE_NULL_READY ch = 1 ∧ sint 16 (s.get URX.HOLD_CFG_LIM) < sint 16 resid ∧
      s.get URX.CNT_HOLD_COUNT ch < 0xFFFFFFFF) ∧
    (∃ (s : State) (resid : Nat), sint 16 resid ≤ sint 16 (s.get URX.HOLD_CFG_LIM)) ∧
    (∃ (s : State) (ch resid : Nat), ch < 16 ∧ resid < 65536 ∧
      (s.get URX.STATE_STATE ch = 3 ∨ s.get URX.STATE_STATE ch = 4) ∧ s.get URX.STATE_NULL_READY ch = 0 ∧
      sint 16 resid ≤ sint 16 (s.get URX.HOLD_CFG_LIM) - 256 * (s.get URX.HOLD_CFG_HYST : Nat)) ∧
    (∃ (s : State) (ch : Nat), ch < 16 ∧ s.get URX.STATE_STATE ch ≠ 0 ∧ s.get URX.CNT_OVL_COUNT ch < 0xFFFFFFFF) ∧
    (∃ (s : State) (ch vi vq : Nat), ch < 16 ∧ vi < 4096 ∧ vq < 4096 ∧
      (s.get URX.STATE_STATE ch = 3 ∨ s.get URX.STATE_STATE ch = 2 ∨ s.get URX.STATE_STATE ch = 4) ∧
      s.loopRuns ch = true ∧ s.vecLegal ch 0 vi vq = true ∧ vecMag vi vq = 2047) ∧
    (∃ (s : State) (ch : Nat), s.loopRuns ch = false ∧
      (s.get URX.CNV_CTRL_CRS ch ≠ 0 ∨ vecMag (s.get URX.CNV_VEC_VEC_I ch) (s.get URX.CNV_VEC_VEC_Q ch) ≠ 2047)) ∧
    (∃ (s : State) (ch : Nat), s.get URX.STATE_STATE ch ≤ 1) ∧
    (∃ (s : State) (ch : Nat), 1 < s.get URX.STATE_STATE ch) ∧
    (∃ (s : State) (ch : Nat), ch < 16 ∧ s.get URX.CNV_CTRL_FREEZE ch = 1 ∧ s.rxSheaf ch = none) ∧
    (∃ (s : State) (ch : Nat), (s.get URX.CNV_CTRL_FREEZE ch = 0 ∨ s.rxSheaf ch ≠ none)) ∧
    (∃ (s : State) (ch fofs : Nat), fofs < 65536 ∧ s.get URX.STATE_STATE ch = 5 ∧ s.get URX.DIG_CFG_FTRK = 1 ∧
      (sint 16 fofs).natAbs ≤ 20000) ∧
    (∃ (s : State) (ch fofs : Nat),
      (s.get URX.STATE_STATE ch ≠ 5 ∨ s.get URX.DIG_CFG_FTRK = 0 ∨ 20000 < (sint 16 fofs).natAbs)) :=
  ⟨⟨((wst [(URX.STATE_STATE, 0, 2)]).setUrx 0 { everHeld := false }), 0, 0x8000, 0, 0, by decide +kernel⟩,
   ⟨(wst [(URX.STATE_STATE, 0, 3), (URX.STATE_NULL_READY, 0, 1)]), 0, 0, by decide +kernel⟩,
   ⟨State.reset, 0x8000, by decide +kernel⟩,
   ⟨(wst [(URX.STATE_STATE, 0, 3), (URX.STATE_NULL_READY, 0, 0)]), 0, 0x8000, by decide +kernel⟩,
   ⟨(wst [(URX.STATE_STATE, 0, 1)]), 0, by decide +kernel⟩,
   ⟨(wst [(URX.STATE_STATE, 0, 3), (URX.CNV_CTRL_FREEZE, 0, 0), (URX.CNV_CTRL_CRS, 0, 0), (SHF.LEASE_STATE_HELD, 0, 1), (SHF.COMP_TXMASK, 0, 1), (SHF.COMP_RXMASK, 0, 1), (UTX.STATE_CARRIER, 0, 1)]),
    0, 2047, 0, by decide +kernel⟩,
   ⟨(wst [(URX.CNV_CTRL_CRS, 0, 1)]), 0, by decide +kernel⟩,
   ⟨State.reset, 0, by decide +kernel⟩,
   ⟨(wst [(URX.STATE_STATE, 0, 2)]), 0, by decide +kernel⟩,
   ⟨(wst [(URX.CNV_CTRL_FREEZE, 0, 1)]), 0, by decide +kernel⟩,
   ⟨(wst [(URX.CNV_CTRL_FREEZE, 0, 0)]), 0, by decide +kernel⟩,
   ⟨(wst [(URX.STATE_STATE, 0, 5), (URX.DIG_CFG_FTRK, 0, 1)]), 0, 0, by decide +kernel⟩,
   ⟨(wst [(URX.STATE_STATE, 0, 6)]), 0, 0, by decide +kernel⟩⟩

theorem witness_Captures :
    (∃ (s : State), s.get URX.CAP_STATUS_ARMED = 0 ∧ s.get URX.CAP_STATUS_RUNNING = 0 ∧ s.capBad = false) ∧
    (∃ (s : State), (s.get URX.CAP_STATUS_ARMED ≠ 0 ∨ s.get URX.CAP_STATUS_RUNNING ≠ 0 ∨ s.capBad = true)) ∧
    (∃ (s : State), s.get URX.CAP_CFG_TSRC = 0 ∧ s.get URX.CAP_STATUS_ARMED = 1 ∧
      (s.radio.capture.triggered = false ∨ s.get URX.CAP_STATUS_RUNNING = 0)) ∧
    (∃ (s : State), s.get URX.CAP_CFG_TSRC = 0 ∧ s.get URX.CAP_STATUS_RUNNING = 1 ∧ s.radio.capture.triggered = true) ∧
    (∃ (s : State), (s.get URX.CAP_CFG_TSRC ≠ 0 ∨ s.get URX.CAP_STATUS_ARMED = 0 ∧ s.get URX.CAP_STATUS_RUNNING = 0)) ∧
    (∃ (s : State) (src unit : Nat), s.get URX.CAP_CFG_TSRC = src ∧ s.get URX.CAP_STATUS_ARMED = 1 ∧
      (s.radio.capture.triggered = false ∨ s.get URX.CAP_STATUS_RUNNING = 0) ∧ (src = 5 ∧
      s.get URX.CAP_CFG_TSHEAF = unit ∨ 2 ≤ src ∧ src ≤ 4 ∧ bitOf (s.get URX.CAP_CFG_MASK) unit = true ∨ src = 1 ∧
      (setBits 16 (s.get URX.CAP_CFG_MASK)).head? = some unit)) ∧
    (∃ (s : State) (src unit : Nat), s.get URX.CAP_CFG_TSRC = src ∧ s.get URX.CAP_STATUS_RUNNING = 1 ∧
      s.radio.capture.triggered = true ∧ (src = 5 ∧ s.get URX.CAP_CFG_TSHEAF = unit ∨ 2 ≤ src ∧ src ≤ 4 ∧
      bitOf (s.get URX.CAP_CFG_MASK) unit = true ∨ src = 1 ∧
      (setBits 16 (s.get URX.CAP_CFG_MASK)).head? = some unit)) ∧
    (∃ (s : State) (src unit : Nat), (s.get URX.CAP_CFG_TSRC ≠ src ∨ src = 5 ∧
      s.get URX.CAP_CFG_TSHEAF ≠ unit ∨ 2 ≤ src ∧ src ≤ 4 ∧ bitOf (s.get URX.CAP_CFG_MASK) unit = false ∨ src = 1 ∧
      (setBits 16 (s.get URX.CAP_CFG_MASK)).head? ≠ some unit ∨ s.get URX.CAP_STATUS_ARMED = 0 ∧
      s.get URX.CAP_STATUS_RUNNING = 0)) ∧
    (∃ (s : State) (before ptr c b p n fit : Nat), s.radio.capture.triggered = true ∧
      s.get URX.CAP_STATUS_RUNNING = 1 ∧ n = max 1 s.capChains ∧ fit = 262144 / n ∧
      b = (if s.get URX.CAP_CFG_RING = 0 then 0 else max (s.get URX.CAP_PRE_INSTANTS) (min before (fit - s.get URX.CAP_LEN_INSTANTS))) ∧
      c = min fit (b + s.get URX.CAP_LEN_INSTANTS) ∧ p = (if s.get URX.CAP_CFG_RING ≠ 0 ∧
      c = fit then ptr % fit else 0)) ∧
    (∃ (s : State), (s.radio.capture.triggered = false ∨ s.get URX.CAP_STATUS_RUNNING = 0)) ∧
    (∃ (s : State) (stored ptr c p n fit : Nat), (s.get URX.CAP_STATUS_ARMED = 1 ∨ s.get URX.CAP_STATUS_RUNNING = 1) ∧
      n = max 1 s.capChains ∧ fit = 262144 / n ∧
      c = min fit (if s.get URX.CAP_CFG_RING ≠ 0 then stored else if s.radio.capture.triggered = true then min stored (s.get URX.CAP_LEN_INSTANTS) else 0) ∧
      p = (if s.get URX.CAP_CFG_RING ≠ 0 ∧ c = fit then ptr % fit else 0)) ∧
    (∃ (s : State), s.get URX.CAP_STATUS_ARMED = 0 ∧ s.get URX.CAP_STATUS_RUNNING = 0) :=
  ⟨⟨(wst [(URX.CAP_STATUS_ARMED, 0, 0), (URX.CAP_STATUS_RUNNING, 0, 0), (URX.CAP_CFG_MASK, 0, 1), (URX.CAP_LEN_INSTANTS, 0, 1)]),
    by decide +kernel⟩,
   ⟨(wst [(URX.CAP_STATUS_ARMED, 0, 1)]), by decide +kernel⟩,
   ⟨({ (wst [(URX.CAP_CFG_TSRC, 0, 0), (URX.CAP_STATUS_ARMED, 0, 1)]) with radio.capture.triggered := false } : State),
    by decide +kernel⟩,
   ⟨({ (wst [(URX.CAP_CFG_TSRC, 0, 0), (URX.CAP_STATUS_RUNNING, 0, 1)]) with radio.capture.triggered := true } : State),
    by decide +kernel⟩,
   ⟨(wst [(URX.CAP_CFG_TSRC, 0, 1)]), by decide +kernel⟩,
   ⟨({ (wst [(URX.CAP_CFG_TSRC, 0, 5), (URX.CAP_STATUS_ARMED, 0, 1), (URX.CAP_CFG_TSHEAF, 0, 0)]) with radio.capture.triggered := false } : State),
    5, 0, by decide +kernel⟩,
   ⟨({ (wst [(URX.CAP_CFG_TSRC, 0, 5), (URX.CAP_STATUS_RUNNING, 0, 1), (URX.CAP_CFG_TSHEAF, 0, 0)]) with radio.capture.triggered := true } : State),
    5, 0, by decide +kernel⟩,
   ⟨(wst [(URX.CAP_CFG_TSRC, 0, 1)]), 0, 0, by decide +kernel⟩,
   ⟨({ (wst [(URX.CAP_STATUS_RUNNING, 0, 1)]) with radio.capture.triggered := true } : State), 0, 0, 0, 0, 0, _, _,
    by decide +kernel, by decide +kernel, rfl, rfl, by decide +kernel, by decide +kernel, by decide +kernel⟩,
   ⟨({ State.reset with radio.capture.triggered := false } : State), by decide +kernel⟩,
   ⟨(wst [(URX.CAP_STATUS_ARMED, 0, 1)]), 0, 0, 0, 0, (max 1 (wst [(URX.CAP_STATUS_ARMED, 0, 1)]).capChains),
    (262144 / max 1 (wst [(URX.CAP_STATUS_ARMED, 0, 1)]).capChains), by decide +kernel⟩,
   ⟨(wst [(URX.CAP_STATUS_ARMED, 0, 0), (URX.CAP_STATUS_RUNNING, 0, 0)]), by decide +kernel⟩⟩

theorem witness_SheafLeases :
    (∃ (s : State) (sh slot seq : Nat) (m : Master) (p : LeasePlan), sh < 4 ∧ slot < 32 ∧ seq < 16 ∧ mayGo m = true ∧
      ((s.set SHF.LEASE_CMD_SLOT slot sh).set SHF.LEASE_CMD_SEQ seq sh).leaseTry sh slot seq = Sum.inr p) ∧
    (∃ (s : State) (sh slot seq code other : Nat) (margin : Int) (m : Master), mayGo m = true ∧
      ((s.set SHF.LEASE_CMD_SLOT slot sh).set SHF.LEASE_CMD_SEQ seq sh).leaseTry sh slot seq = Sum.inl (code,
      other, margin)) ∧
    (∃ (s : State) (sh slot seq : Nat) (m : Master), sh < 4 ∧ slot < 32 ∧ seq < 16 ∧ mayGo m = true ∧
      (s.radioReady = false ∨ s.get SHF.LEASE_STATE_HELD sh = 1 ∨ s.leaseSlot sh slot = none ∨ s.get LSC.STATE_STATE seq = 0 ∨ s.get LSC.STATE_STATE seq = 4 ∨ s.seqBound seq = true)) ∧
    (∃ (m : Master), mayGo m = false) ∧
    (∃ (s : State) (sh : Nat) (m : Master), sh < 4 ∧
      (m = .coreB ∨ m = .coreP ∨ m = .seq (s.get SHF.LEASE_STATE_OWNER sh)) ∧ s.get SHF.LEASE_STATE_HELD sh = 1 ∧
      (∀ c, c < 4 → s.bit SHF.COMP_TXMASK c sh = true → s.get UTX.STATE_CARRIER c = 0)) ∧
    (∃ (s : State) (sh k : Nat) (m : Master), sh < 4 ∧ k < 4 ∧
      (m = .coreB ∨ m = .coreP ∨ m = .seq (s.get SHF.LEASE_STATE_OWNER sh)) ∧ s.get SHF.LEASE_STATE_HELD sh = 1 ∧
      s.bit SHF.COMP_TXMASK k sh = true ∧ s.get UTX.STATE_CARRIER k = 1) ∧
    (∃ (s : State) (sh : Nat) (m : Master), (m = .coreB ∨ m = .coreP) ∧ s.get SHF.LEASE_STATE_HELD sh = 0) ∧
    (∃ (s : State) (sh : Nat) (m : Master), s.mayRelease sh m = false) ∧
    (∃ (s : State) (sh : Nat) (how : LeaseEnd), sh < 4 ∧ s.get SHF.LEASE_STATE_HELD sh = 1 ∧
      (s.sheafAt sh).ending = some how ∧ (∀ c, c < 4 → s.bit SHF.COMP_TXMASK c sh = true →
      s.get UTX.STATE_CARRIER c = 0)) ∧
    (∃ (s : State) (sh : Nat), ((s.sheafAt sh).ending = none ∨ s.get SHF.LEASE_STATE_HELD sh = 0)) ∧
    (∃ (s : State) (sh k : Nat), k < 4 ∧ s.bit SHF.COMP_TXMASK k sh = true ∧ s.get UTX.STATE_CARRIER k = 1) :=
  ⟨⟨(({ (wst [(PWR.STATE_DOM, 0, 1), (SYS.MODE_MODE, 0, 0), (ATB.STATE_STATE, 0, 4), (LSC.STATE_STATE, 0, 1)]) with atb.actWords := Tab.set 0 (Tab.set 0 [] 0 0x30002000) 1 0xC0000000, atb.actSlots := 1, atb.angle := 0x2000, atb.running := [(0, 1)] } : State) : State),
    0, 0, 0, Master.coreB, ({ entry := [0x30002000, 0xC0000000, 0, 0], started := true, chains := [], lo := 0 } : LeasePlan),
    by decide +kernel⟩,
   ⟨State.reset, 0, 0, 0, 11, 0, (0 : Int), Master.coreB, by decide +kernel⟩,
   ⟨State.reset, 0, 0, 0, Master.coreB, by decide +kernel⟩,
   ⟨.coreA, by decide +kernel⟩,
   ⟨(wst [(SHF.LEASE_STATE_HELD, 0, 1)]), 0, Master.coreP, by decide +kernel⟩,
   ⟨(wst [(SHF.LEASE_STATE_HELD, 0, 1), (UTX.STATE_CARRIER, 0, 1), (SHF.COMP_TXMASK, 0, 1)]), 0, 0, Master.coreP,
    by decide +kernel⟩,
   ⟨(wst [(SHF.LEASE_STATE_HELD, 0, 0)]), 0, Master.coreP, by decide +kernel⟩,
   ⟨State.reset, 0, .coreA, by decide +kernel⟩,
   ⟨((wst [(SHF.LEASE_STATE_HELD, 0, 1)]).setSheaf 0 { ending := some LeaseEnd.cut }), 0, LeaseEnd.cut,
    by decide +kernel⟩,
   ⟨(State.reset.setSheaf 0 { ending := none }), 0, by decide +kernel⟩,
   ⟨(wst [(UTX.STATE_CARRIER, 0, 1), (SHF.COMP_TXMASK, 0, 1)]), 0, 0, by decide +kernel⟩⟩

theorem witness_ApertureWrites :
    (∃ (s : State) (m : Master) (v : Nat), (∀ n, n < 4 → s.carrier n = false) ∧ (∀ n, n < 4 → s.chainSheaf n = none) ∧
      masterIsCore m = true ∧ v < 65536) ∧
    (∃ (s : State) (m : Master) (v n : Nat), n < 4 ∧ bits v (4 * n + 3) (4 * n) ≠ s.antOf n ∧
      (s.carrier n = true ∨ s.antWriter n m = false)) ∧
    (∃ (s : State) (sh v n : Nat), n < 4 ∧ s.chainSheaf n = some sh ∧ s.carrier n = false ∧ (∀ k, k < 4 → k ≠ n →
      bits v (4 * k + 3) (4 * k) = s.antOf k) ∧ s.antPairOk n (bits v (4 * n + 3) (4 * n)) = true) ∧
    (∃ (s : State) (v n : Nat), n < 4 ∧ bits v (4 * n + 3) (4 * n) ≠ s.antOf n ∧ (∀ k, k < 4 → k ≠ n →
      bits v (4 * k + 3) (4 * k) = s.antOf k) ∧ s.antPairOk n (bits v (4 * n + 3) (4 * n)) = false) ∧
    (∃ (s : State), s.noLease = true) ∧
    (∃ (s : State), s.noLease = true) ∧
    (∃ (s : State), s.noLease = false) ∧
    (∃ (s : State) (sh v : Nat), sh < 4 ∧ v < 4294967296 ∧ s.get SHF.LEASE_STATE_HELD sh = 0) ∧
    (∃ (s : State) (sh : Nat), s.get SHF.LEASE_STATE_HELD sh = 1) ∧
    (∃ (s : State) (sh : Nat), s.get SHF.BW_ADDR_ENTRY sh < 16) ∧
    (∃ (s : State) (sh : Nat), 16 ≤ s.get SHF.BW_ADDR_ENTRY sh) ∧
    (∃ (s : State) (sh sel : Nat), sel < s.get SHF.BEAM_NBEAMS sh) ∧
    (∃ (s : State) (sh sel : Nat), s.get SHF.BEAM_NBEAMS sh ≤ sel) :=
  ⟨⟨State.reset, Master.coreP, 0, by decide +kernel⟩,
   ⟨(wst [(UTX.STATE_CARRIER, 0, 1), (SHF.LEASE_STATE_HELD, 0, 1), (SHF.COMP_TXMASK, 0, 1)]), (.seq 5), 1, 0,
    by decide +kernel⟩,
   ⟨(wst [(SHF.LEASE_STATE_HELD, 0, 1), (SHF.COMP_TXMASK, 0, (2 ^ 0))]), 0, 0, 0, by decide +kernel⟩,
   ⟨((let s := (wst [(SHF.LEASE_STATE_HELD, 0, 1), (SHF.LEASE_STATE_HELD, 1, 1), (SHF.COMP_TXMASK, 0, 1), (SHF.COMP_TXMASK, 1, 2)]); (s.setSheaf 0 { s.sheafAt 0 with slotWords := [0, 0x40000000, 0, 0] }).setSheaf 1 { s.sheafAt 1 with slotWords := [0, 0x40000000, 0, 0] }) : State),
    1, 0, by decide +kernel⟩,
   ⟨State.reset, by decide +kernel⟩,
   ⟨State.reset, by decide +kernel⟩,
   ⟨(wst [(SHF.LEASE_STATE_HELD, 0, 1)]), by decide +kernel⟩,
   ⟨(wst [(SHF.LEASE_STATE_HELD, 0, 0)]), 0, 0, by decide +kernel⟩,
   ⟨(wst [(SHF.LEASE_STATE_HELD, 0, 1)]), 0, by decide +kernel⟩,
   ⟨State.reset, 0, by decide +kernel⟩,
   ⟨(wst [(SHF.BW_ADDR_ENTRY, 0, 16)]), 0, by decide +kernel⟩,
   ⟨(wst [(SHF.BEAM_NBEAMS, 0, 1)]), 0, 0, by decide +kernel⟩,
   ⟨State.reset, 0, 16, by decide +kernel⟩⟩

theorem witness_BearingAndCommandFollow :
    (∃ (s : State) (sh tag mask : Nat) (r : Bearing), sh < 4 ∧ tag < 65536 ∧ (s.sheafAt sh).bearDue = some (tag,
      mask) ∧ s.get SHF.BEAR_CFG_EN = 1 ∧ s.bearMin ≤ popcount 16 mask ∧
      ((setBits 16 mask).map s.bearInput).all (fun e => e.i == 0 && e.q == 0) = false ∧
      r = bearing ((setBits 16 mask).map s.bearInput) (s.khz (s.get SHF.COMP_LO_USED sh)) (s.get SHF.BEAR_CFG_FOV)) ∧
    (∃ (s : State) (sh tag mask : Nat), sh < 4 ∧ tag < 65536 ∧ (s.sheafAt sh).bearDue = some (tag, mask) ∧
      s.get SHF.BEAR_CFG_EN = 1 ∧ s.bearMin ≤ popcount 16 mask ∧
      ((setBits 16 mask).map s.bearInput).all (fun e => e.i == 0 && e.q == 0) = true) ∧
    (∃ (s : State) (sh tag mask : Nat), sh < 4 ∧ tag < 65536 ∧ (s.sheafAt sh).bearDue = some (tag, mask) ∧
      (s.get SHF.BEAR_CFG_EN = 0 ∨ popcount 16 mask < s.bearMin)) ∧
    (∃ (s : State) (sh : Nat), (s.sheafAt sh).bearDue = none) ∧
    (∃ (s : State) (sh level : Nat) (b : List Bool), sh < 4 ∧ s.get SHF.LEASE_STATE_HELD sh = 1 ∧
      (s.get SHF.CF_STATE_STATE sh = 1 ∨ s.get SHF.CF_STATE_STATE sh = 2) ∧
      sint 16 (s.get SHF.CF_CFG_MIN sh) ≤ sint 16 level ∧ cfCode b ≠ 0 ∧ cfCrcOk b = true) ∧
    (∃ (s : State) (sh level : Nat) (b : List Bool), sh < 4 ∧ s.get SHF.LEASE_STATE_HELD sh = 1 ∧
      (s.get SHF.CF_STATE_STATE sh = 1 ∨ s.get SHF.CF_STATE_STATE sh = 2) ∧
      sint 16 (s.get SHF.CF_CFG_MIN sh) ≤ sint 16 level ∧ cfCode b ≠ 0 ∧ cfCrcOk b = false) ∧
    (∃ (s : State) (sh level : Nat) (b : List Bool), sh < 4 ∧ s.get SHF.LEASE_STATE_HELD sh = 1 ∧
      (s.get SHF.CF_STATE_STATE sh = 1 ∨ s.get SHF.CF_STATE_STATE sh = 2) ∧
      sint 16 (s.get SHF.CF_CFG_MIN sh) ≤ sint 16 level ∧ cfCode b = 0) ∧
    (∃ (s : State) (sh level : Nat), s.get SHF.LEASE_STATE_HELD sh = 1 ∧
      (s.get SHF.CF_STATE_STATE sh = 1 ∨ s.get SHF.CF_STATE_STATE sh = 2) ∧
      sint 16 level < sint 16 (s.get SHF.CF_CFG_MIN sh)) ∧
    (∃ (s : State) (sh : Nat),
      (s.get SHF.LEASE_STATE_HELD sh = 0 ∨ s.get SHF.CF_STATE_STATE sh = 0 ∨ s.get SHF.CF_STATE_STATE sh = 3)) ∧
    (∃ (s : State) (sh level : Nat), (s.get SHF.CF_STATE_STATE sh = 2 ∨ s.get SHF.CF_STATE_STATE sh = 1 ∧
      (s.sheafAt sh).cfSeen = true) ∧ sint 16 level < sint 16 (s.get SHF.CF_CFG_MIN sh)) ∧
    (∃ (s : State) (sh level : Nat),
      (s.get SHF.CF_STATE_STATE sh = 0 ∨ s.get SHF.CF_STATE_STATE sh = 3 ∨ s.get SHF.CF_STATE_STATE sh = 1 ∧
      (s.sheafAt sh).cfSeen = false ∨ sint 16 (s.get SHF.CF_CFG_MIN sh) ≤ sint 16 level)) ∧
    (∃ (s : State) (sh level : Nat), sh < 4 ∧ s.get SHF.CF_STATE_STATE sh = 3 ∧
      sint 16 (s.get SHF.CF_CFG_MIN sh) + 768 ≤ sint 16 level) ∧
    (∃ (s : State) (sh level : Nat),
      (s.get SHF.CF_STATE_STATE sh ≠ 3 ∨ sint 16 level < sint 16 (s.get SHF.CF_CFG_MIN sh) + 768)) :=
  ⟨⟨((wst [(SHF.BEAR_CFG_EN, 0, 1), (URX.PHASOR_I, 0, 100), (URX.PHASOR_I, 1, 100), (URX.PHASOR_I, 2, 100), (SHF.BEAR_CFG_MIN_CHAINS, 0, 3)]).setSheaf 0 { bearDue := some (0, 7) }),
    0, 0, 7, _, by decide +kernel, by decide +kernel, by decide +kernel, by decide +kernel, by decide +kernel,
    by decide +kernel, rfl⟩,
   ⟨((wst [(SHF.BEAR_CFG_EN, 0, 1)]).setSheaf 0 { bearDue := some (0, 0xFFFF) }), 0, 0, 0xFFFF, by decide +kernel⟩,
   ⟨((wst [(SHF.BEAR_CFG_EN, 0, 0)]).setSheaf 0 { bearDue := some (0, 0) }), 0, 0, 0, by decide +kernel⟩,
   ⟨(State.reset.setSheaf 0 { bearDue := none }), 0, by decide +kernel⟩,
   ⟨(wst [(SHF.LEASE_STATE_HELD, 0, 1), (SHF.CF_STATE_STATE, 0, 1)]), 0, 0, [false, false, false, false],
    by decide +kernel⟩,
   ⟨(wst [(SHF.LEASE_STATE_HELD, 0, 1), (SHF.CF_STATE_STATE, 0, 1)]), 0, 0, ([true, false, false, false] ++ List.replicate 18 false),
    by decide +kernel⟩,
   ⟨(wst [(SHF.LEASE_STATE_HELD, 0, 1), (SHF.CF_STATE_STATE, 0, 1)]), 0, 0, ([] : List Bool), by decide +kernel⟩,
   ⟨(wst [(SHF.LEASE_STATE_HELD, 0, 1), (SHF.CF_STATE_STATE, 0, 1)]), 0, 0x8000, by decide +kernel⟩,
   ⟨(wst [(SHF.LEASE_STATE_HELD, 0, 0)]), 0, by decide +kernel⟩,
   ⟨(wst [(SHF.CF_STATE_STATE, 0, 2)]), 0, 0x8000, by decide +kernel⟩,
   ⟨(wst [(SHF.CF_STATE_STATE, 0, 0)]), 0, 0, by decide +kernel⟩,
   ⟨(wst [(SHF.CF_STATE_STATE, 0, 3)]), 0, 0, by decide +kernel⟩,
   ⟨(wst [(SHF.CF_STATE_STATE, 0, 4)]), 0, 0, by decide +kernel⟩⟩

theorem witness_FramesAndWindows :
    (∃ (s : State) (sh : Nat) (f : Frame), sh < 4 ∧ (s.engAt sh).sending = some f ∧ s.get SHF.LEASE_STATE_HELD sh = 1 ∧
      (∀ c, c < 4 → (s.utxAt c).want = none)) ∧
    (∃ (s : State) (sh : Nat), (s.engAt sh).taRunning = true ∧ (s.engAt sh).held = none) ∧
    (∃ (s : State) (sh c : Nat) (f : Frame), sh < 4 ∧ (s.engAt sh).taRunning = true ∧ (s.engAt sh).held = some (f,
      .turnaround) ∧ c ∈ s.txReady sh) ∧
    (∃ (s : State) (sh : Nat), (s.engAt sh).held = none) ∧
    (∃ (s : State) (sh c : Nat) (f : Frame), sh < 4 ∧ (s.engAt sh).held = some (f, .hold) ∧ c ∈ s.txReady sh) ∧
    (∃ (s : State) (sh c : Nat) (f : Frame), sh < 4 ∧ (s.engAt sh).afterFrame = some f ∧ c ∈ s.txOf sh ∧
      s.carrier c = true ∧ s.get UTX.STATE_STATE c = 3 ∧ (s.utxAt c).ramp = none ∧ (∀ k, k < 4 →
      (s.utxAt k).want = none)) ∧
    (∃ (s : State) (sh : Nat) (f : Frame), (s.engAt sh).window = some f ∧ (s.engAt sh).preamble = false) ∧
    (∃ (s : State) (sh : Nat) (f : Frame), sh < 4 ∧ (s.engAt sh).window = some f ∧ (s.engAt sh).preamble = true ∧
      s.get LSC.CNT_RXD_COUNT (s.get SHF.LEASE_STATE_OWNER sh) < 0xFFFFFFFF) ∧
    (∃ (s : State) (sh : Nat) (f : Frame), sh < 4 ∧ (s.engAt sh).window = some f ∧ (s.engAt sh).preamble = false ∧
      s.get LSC.CNT_RXD_COUNT (s.get SHF.LEASE_STATE_OWNER sh) < 0xFFFFFFFF) :=
  ⟨⟨((wst [(SHF.LEASE_STATE_HELD, 0, 1)]).setEng 0 { sending := some ({ seq := 0, cmd := 0, reply := false, kind := .none, bear := false, delayed := false, trunc := false, checkCrc := false } : Frame) }),
    0, ({ seq := 0, cmd := 0, reply := false, kind := .none, bear := false, delayed := false, trunc := false, checkCrc := false } : Frame),
    by decide +kernel⟩,
   ⟨(State.reset.setEng 0 { taRunning := true, held := none }), 0, by decide +kernel⟩,
   ⟨((wst [(SHF.LEASE_STATE_HELD, 0, 1), (SHF.COMP_TXMASK, 0, 1), (UTX.STATE_CARRIER, 0, 1), (UTX.STATE_STATE, 0, 3)]).setEng 0 { taRunning := true, held := some (({ seq := 0, cmd := 0, reply := false, kind := .none, bear := false, delayed := false, trunc := false, checkCrc := false } : Frame), .turnaround) }),
    0, 0, ({ seq := 0, cmd := 0, reply := false, kind := .none, bear := false, delayed := false, trunc := false, checkCrc := false } : Frame),
    by decide +kernel⟩,
   ⟨(State.reset.setEng 0 { held := none }), 0, by decide +kernel⟩,
   ⟨((wst [(SHF.LEASE_STATE_HELD, 0, 1), (SHF.COMP_TXMASK, 0, 1), (UTX.STATE_CARRIER, 0, 1), (UTX.STATE_STATE, 0, 3)]).setEng 0 { held := some (({ seq := 0, cmd := 0, reply := false, kind := .none, bear := false, delayed := false, trunc := false, checkCrc := false } : Frame), .hold) }),
    0, 0, ({ seq := 0, cmd := 0, reply := false, kind := .none, bear := false, delayed := false, trunc := false, checkCrc := false } : Frame),
    by decide +kernel⟩,
   ⟨(((wst [(UTX.STATE_CARRIER, 0, 1), (UTX.STATE_STATE, 0, 3), (SHF.LEASE_STATE_HELD, 0, 1), (SHF.COMP_TXMASK, 0, 1)]).setEng 0 { afterFrame := some ({ seq := 0, cmd := 0, reply := false, kind := .none, bear := false, delayed := false, trunc := false, checkCrc := false } : Frame) }).setUtx 0 { ramp := none }),
    0, 0, ({ seq := 0, cmd := 0, reply := false, kind := .none, bear := false, delayed := false, trunc := false, checkCrc := false } : Frame),
    by decide +kernel⟩,
   ⟨(State.reset.setEng 0 { window := some ({ seq := 0, cmd := 0, reply := false, kind := .none, bear := false, delayed := false, trunc := false, checkCrc := false } : Frame), preamble := false }),
    0, ({ seq := 0, cmd := 0, reply := false, kind := .none, bear := false, delayed := false, trunc := false, checkCrc := false } : Frame),
    by decide +kernel⟩,
   ⟨(State.reset.setEng 0 { window := some ({ seq := 0, cmd := 0, reply := false, kind := .none, bear := false, delayed := false, trunc := false, checkCrc := false } : Frame), preamble := true }),
    0, ({ seq := 0, cmd := 0, reply := false, kind := .none, bear := false, delayed := false, trunc := false, checkCrc := false } : Frame),
    by decide +kernel⟩,
   ⟨(State.reset.setEng 0 { window := some ({ seq := 0, cmd := 0, reply := false, kind := .none, bear := false, delayed := false, trunc := false, checkCrc := false } : Frame), preamble := false }),
    0, ({ seq := 0, cmd := 0, reply := false, kind := .none, bear := false, delayed := false, trunc := false, checkCrc := false } : Frame),
    by decide +kernel⟩⟩

theorem witness_SequencersAndPushBuffers :
    (∃ (s : State) (n : Nat), n < 16 ∧ s.get LSC.STATE_STATE n = 0 ∧ s.loadCheck n = 0) ∧
    (∃ (s : State) (n : Nat), n < 16 ∧ s.get LSC.STATE_STATE n = 0 ∧ s.loadCheck n = 0) ∧
    (∃ (s : State) (n : Nat), s.get LSC.STATE_STATE n = 0 ∧ s.loadCheck n ≠ 0) ∧
    (∃ (s : State) (n : Nat), s.get LSC.STATE_STATE n ≠ 0) ∧
    (∃ (s : State) (n : Nat), n < 16 ∧ s.seqBound n = false ∧
      (s.get LSC.STATE_STATE n = 1 ∨ s.get LSC.STATE_STATE n = 2 ∨ s.get LSC.STATE_STATE n = 3)) ∧
    (∃ (s : State) (n : Nat), (s.get LSC.STATE_STATE n = 0 ∨ s.get LSC.STATE_STATE n = 4)) ∧
    (∃ (s : State) (n sh : Nat), n < 16 ∧ s.seqSheaf n = some sh ∧ s.holdsHfr n = false ∧ s.holdsHft n = false ∧
      (s.get LSC.STATE_STATE n = 1 ∨ s.get LSC.STATE_STATE n = 2 ∨ s.get LSC.STATE_STATE n = 3)) ∧
    (∃ (n : Nat), n < 16) ∧
    (∃ (s : State) (n : Nat) (w : WaitRec), n < 16 ∧ s.get LSC.STATE_STATE n = 3 ∧ (s.opsAt n).wait = some w ∧
      s.waitBits n w.mask ≠ 0) ∧
    (∃ (s : State) (n : Nat) (w : WaitRec), n < 16 ∧ s.get LSC.STATE_STATE n = 3 ∧ (s.opsAt n).wait = some w ∧
      s.waitBits n w.mask = 0) ∧
    (∃ (s : State) (n : Nat), (s.get LSC.STATE_STATE n ≠ 3 ∨ (s.opsAt n).wait = none)) ∧
    (∃ (s : State) (n : Nat) (w : WaitRec), n < 16 ∧ s.get LSC.STATE_STATE n = 3 ∧ (s.opsAt n).wait = some w ∧
      s.waitBits n w.mask = 0) ∧
    (∃ (s : State) (n : Nat) (w : WaitRec), n < 16 ∧ s.get LSC.STATE_STATE n = 3 ∧ (s.opsAt n).wait = some w ∧
      s.waitBits n w.mask ≠ 0) ∧
    (∃ (s : State) (n : Nat) (b : PushBlock) (r : List PushBlock), n < 16 ∧ b.queue < 16 ∧ (s.opsAt n).push = b :: r ∧
      s.drainNext = some n) ∧
    (∃ (s : State) (n : Nat), ((s.opsAt n).push = [] ∨ s.drainNext ≠ some n)) :=
  ⟨⟨(wSeq (wst [(LSC.STATE_STATE, 0, 0), (LSC.PC_INIT_WADDR, 0, 8)]) : State), 0, by decide +kernel⟩,
   ⟨(wSeq (wst [(LSC.STATE_STATE, 0, 0), (LSC.PC_INIT_WADDR, 0, 8)]) : State), 0, by decide +kernel⟩,
   ⟨(wst [(LSC.STATE_STATE, 0, 0)]), 0, by decide +kernel⟩,
   ⟨(wst [(LSC.STATE_STATE, 0, 1)]), 0, by decide +kernel⟩,
   ⟨(wst [(LSC.STATE_STATE, 0, 1)]), 0, by decide +kernel⟩,
   ⟨(wst [(LSC.STATE_STATE, 0, 0)]), 0, by decide +kernel⟩,
   ⟨(wst [(SHF.LEASE_STATE_HELD, 0, 1), (SHF.LEASE_STATE_OWNER, 0, 0), (LSC.STATE_STATE, 0, 1)]), 0, 0,
    by decide +kernel⟩,
   ⟨0, by decide +kernel⟩,
   ⟨((wst [(LSC.STATE_STATE, 0, 3), (LSC.EVP_EVP, 0, 1)]).setOps 0 { wait := some ({ mask := 1, unit := 1, bound := 0 } : WaitRec) }),
    0, ({ mask := 1, unit := 1, bound := 0 } : WaitRec), by decide +kernel⟩,
   ⟨((wst [(LSC.STATE_STATE, 0, 3)]).setOps 0 { wait := some ({ mask := 1, unit := 1, bound := 0 } : WaitRec) }), 0,
    ({ mask := 1, unit := 1, bound := 0 } : WaitRec), by decide +kernel⟩,
   ⟨(wst [(LSC.STATE_STATE, 0, 4)]), 0, by decide +kernel⟩,
   ⟨((wst [(LSC.STATE_STATE, 0, 3)]).setOps 0 { wait := some ({ mask := 1, unit := 1, bound := 0 } : WaitRec) }), 0,
    ({ mask := 1, unit := 1, bound := 0 } : WaitRec), by decide +kernel⟩,
   ⟨((wst [(LSC.STATE_STATE, 0, 3), (LSC.EVP_EVP, 0, 1)]).setOps 0 { wait := some ({ mask := 1, unit := 1, bound := 0 } : WaitRec) }),
    0, ({ mask := 1, unit := 1, bound := 0 } : WaitRec), by decide +kernel⟩,
   ⟨(State.reset.setOps 0 { push := ({ queue := 0, words := [1] } : PushBlock) :: ([] : List PushBlock) }), 0,
    ({ queue := 0, words := [1] } : PushBlock), ([] : List PushBlock), by decide +kernel⟩,
   ⟨(State.reset.setOps 0 { push := [] }), 0, by decide +kernel⟩⟩

theorem witness_LsiArithmeticAndLogic :
    (∃ (s : State) (n : Nat), s.seqRuns n = true) ∧
    (∃ (s : State) (n : Nat), s.seqRuns n = true) ∧
    (∃ (s : State) (n : Nat), s.seqRuns n = true) :=
  ⟨⟨(wst [(LSC.STATE_STATE, 0, 2)]), 0, by decide +kernel⟩,
   ⟨(wst [(LSC.STATE_STATE, 0, 2)]), 0, by decide +kernel⟩,
   ⟨(wst [(LSC.STATE_STATE, 0, 2)]), 0, by decide +kernel⟩⟩

theorem witness_LsiLoadsAndStores :
    (∃ (s : State) (n a imm : Nat), s.seqRuns n = true ∧ s.seqEa n a imm ≤ 0x7FFF ∧
      s.parBad n (s.seqEa n a imm) = false) ∧
    (∃ (s : State) (n a imm : Nat), s.seqRuns n = true ∧ s.seqEa n a imm ≤ 0x7FFF ∧
      s.parBad n (s.seqEa n a imm) = false ∧ s.seqEa n a imm % 4 = 0) ∧
    (∃ (s : State) (n a imm : Nat), s.seqRuns n = true ∧ s.seqEa n a imm ≤ 0x7FFF ∧
      s.parBad n (s.seqEa n a imm) = false ∧ s.seqEa n a imm % 2 = 0) ∧
    (∃ (s : State) (n a imm : Nat), s.seqRuns n = true ∧ s.seqEa n a imm ≤ 0x7FFF) ∧
    (∃ (s : State) (n a imm : Nat), s.seqRuns n = true ∧ s.seqEa n a imm ≤ 0x7FFF ∧ s.seqEa n a imm % 4 = 0) ∧
    (∃ (s : State) (n a imm : Nat), s.seqRuns n = true ∧ s.seqEa n a imm ≤ 0x7FFF ∧ s.seqEa n a imm % 2 = 0) :=
  ⟨⟨(wst [(LSC.STATE_STATE, 0, 2)]), 0, 0, 0, by decide +kernel⟩,
   ⟨(wst [(LSC.STATE_STATE, 0, 2)]), 0, 0, 0, by decide +kernel⟩,
   ⟨(wst [(LSC.STATE_STATE, 0, 2)]), 0, 0, 0, by decide +kernel⟩,
   ⟨(wst [(LSC.STATE_STATE, 0, 2)]), 0, 0, 0, by decide +kernel⟩,
   ⟨(wst [(LSC.STATE_STATE, 0, 2)]), 0, 0, 0, by decide +kernel⟩,
   ⟨(wst [(LSC.STATE_STATE, 0, 2)]), 0, 0, 0, by decide +kernel⟩⟩

theorem witness_LsiFlowAndFaults :
    (∃ (s : State) (n : Nat), n < 16 ∧ s.seqRuns n = true) ∧
    (∃ (s : State) (n : Nat), n < 16 ∧ s.get LSC.STATE_STATE n = 2 ∧ s.parBad n (4 * s.get LSC.STATE_PCW n) = true) ∧
    (∃ (s : State) (n : Nat), n < 16 ∧ s.Inv ∧ s.pending = [] ∧ s.get LSC.STATE_STATE n = 4) ∧
    (∃ (n w : Nat), lsiDecode n w ≠ none) ∧
    (∃ (s : State) (n : Nat), n < 16 ∧ s.seqRuns n = true) ∧
    (∃ (s : State) (n d : Nat), n < 16 ∧ s.seqRuns n = true ∧ d % 16 ≠ 0) ∧
    (∃ (s : State) (n d : Nat), n < 16 ∧ s.seqRuns n = true ∧ d % 16 = 0) ∧
    (∃ (s : State) (n : Nat), n < 16 ∧ s.seqRuns n = true ∧ (s.seqAt n).stack.length < 8) ∧
    (∃ (s : State) (n : Nat), n < 16 ∧ s.seqRuns n = true ∧ s.seqBound n = false) :=
  ⟨⟨(wst [(LSC.STATE_STATE, 0, 2)]), 0, by decide +kernel⟩,
   ⟨(({ (wst [(LSC.STATE_STATE, 0, 2)]) with radio.badWords := [seqBase 0 + 32] } : State) : State), 0,
    by decide +kernel⟩,
   ⟨(wst [(LSC.STATE_STATE, 0, 4)]), 0, by decide +kernel, by unfold State.Inv; decide +kernel, by decide +kernel,
    by decide +kernel⟩,
   ⟨0, 0, by decide +kernel⟩,
   ⟨(wst [(LSC.STATE_STATE, 0, 2)]), 0, by decide +kernel⟩,
   ⟨(wst [(LSC.STATE_STATE, 0, 2)]), 0, 1, by decide +kernel⟩,
   ⟨(wst [(LSC.STATE_STATE, 0, 2)]), 0, 0, by decide +kernel⟩,
   ⟨(wst [(LSC.STATE_STATE, 0, 2)]), 0, by decide +kernel⟩,
   ⟨(wst [(LSC.STATE_STATE, 0, 2)]), 0, by decide +kernel⟩⟩

theorem witness_LsiSpecialsPortAndWaits :
    (∃ (s : State) (n : Nat), n < 16 ∧ s.seqRuns n = true) ∧
    (∃ (s : State) (n d : Nat), n < 16 ∧ s.seqRuns n = true ∧ s.greg n d % 4 = 0 ∧ s.greg n d ≤ 0x7DFC) ∧
    (∃ (s : State) (n d : Nat), n < 16 ∧ s.seqRuns n = true ∧ d % 16 ≠ 0 ∧ d % 16 ≠ 15) ∧
    (∃ (s : State) (n k : Nat), n < 16 ∧ k < 4 ∧ s.seqRuns n = true) ∧
    (∃ (s : State) (n k : Nat), n < 16 ∧ k < 4 ∧ s.seqRuns n = true ∧ s.ownerOk (s.chainSheaf k) (.seq n) = false) ∧
    (∃ (s : State) (n mask unit cnt : Nat), n < 16 ∧ s.seqRuns n = true ∧ s.waitBits n (mask % 1024) = 0 ∧
      cnt % 16384 ≠ 0 ∧ (unit % 4 ≠ 2 ∨ s.get ATB.STATE_STATE ≠ 0)) ∧
    (∃ (s : State) (n mask b : Nat), n < 16 ∧ s.seqRuns n = true ∧ s.waitBits n (mask % 1024) = 0 ∧ s.greg n b ≠ 0) ∧
    (∃ (s : State) (n mask : Nat), n < 16 ∧ s.seqRuns n = true ∧ s.waitBits n (mask % 1024) ≠ 0) ∧
    (∃ (s : State) (n mask unit cnt : Nat), n < 16 ∧ s.seqRuns n = true ∧ s.waitBits n (mask % 1024) = 0 ∧
      (cnt % 16384 = 0 ∨ unit % 4 = 2 ∧ s.get ATB.STATE_STATE = 0)) ∧
    (∃ (s : State) (n mask b : Nat), n < 16 ∧ s.seqRuns n = true ∧ s.waitBits n (mask % 1024) = 0 ∧ s.greg n b = 0) :=
  ⟨⟨(wst [(LSC.STATE_STATE, 0, 2)]), 0, by decide +kernel⟩,
   ⟨(wst [(LSC.STATE_STATE, 0, 2)]), 0, 0, by decide +kernel⟩,
   ⟨(wst [(LSC.STATE_STATE, 0, 2)]), 0, 1, by decide +kernel⟩,
   ⟨(wst [(LSC.STATE_STATE, 0, 2)]), 0, 0, by decide +kernel⟩,
   ⟨(wst [(LSC.STATE_STATE, 0, 2)]), 0, 0, by decide +kernel⟩,
   ⟨(wst [(LSC.STATE_STATE, 0, 2)]), 0, 0, 0, 1, by decide +kernel⟩,
   ⟨((wst [(LSC.STATE_STATE, 0, 2)]).setG 0 1 9 : State), 0, 0, 1, by decide +kernel⟩,
   ⟨(wst [(LSC.STATE_STATE, 0, 2), (LSC.EVP_EVP, 0, 1)]), 0, 1, by decide +kernel⟩,
   ⟨(wst [(LSC.STATE_STATE, 0, 2)]), 0, 0, 0, 0, by decide +kernel⟩,
   ⟨(wst [(LSC.STATE_STATE, 0, 2)]), 0, 0, 0, by decide +kernel⟩⟩

theorem witness_LsiRadioAndQueues :
    (∃ (s : State) (n sh c : Nat), n < 16 ∧ sh < 4 ∧ c < 4 ∧ s.seqRuns n = true ∧ s.get LSC.STATE_LTYPE n = sh + 1 ∧
      s.seqSheaf n = some sh ∧ (s.opsAt n).cutting = false ∧ s.get SHF.COMP_ROLE sh ≠ roleLISTEN ∧
      s.bit SHF.COMP_TXMASK c sh = true ∧ s.chainSheaf c = some sh ∧ s.get UTX.STATE_STATE c = 2 ∧
      s.carrier c = false ∧ (s.utxAt c).ramp = none ∧ (s.synthAt (s.loOf c)).relock = false) ∧
    (∃ (s : State) (n sh c req : Nat), n < 16 ∧ sh < 4 ∧ c < 4 ∧ s.seqRuns n = true ∧
      s.get LSC.STATE_LTYPE n = sh + 1 ∧ s.seqSheaf n = some sh ∧ (s.opsAt n).cutting = false ∧
      (s.get SHF.COMP_ROLE sh ≠ roleLISTEN ∨ req ≠ 4) ∧ (s.bit SHF.COMP_TXMASK c sh = false ∨ req = 0 ∨ 5 < req)) ∧
    (∃ (s : State) (n sh lo a : Nat), n < 16 ∧ sh < 4 ∧ lo < 4 ∧ s.seqRuns n = true ∧
      s.get LSC.STATE_LTYPE n = sh + 1 ∧ s.seqSheaf n = some sh ∧ (s.opsAt n).cutting = false ∧
      s.get SHF.COMP_LO_USED sh = lo ∧ s.get UTX.CTRL_LO_SRC lo = lo ∧ (s.sst lo = 1 ∨ s.sst lo = 4) ∧
      (s.synthAt lo).bootFull = none ∧ (∀ c, c < 4 → s.carrier c = false) ∧ 840000 ≤ bits (s.greg n a) 19 0 ∧
      bits (s.greg n a) 19 0 ≤ 960000) ∧
    (∃ (s : State) (n sh fidx : Nat), n < 16 ∧ sh < 4 ∧ fidx < 64 ∧ s.seqRuns n = true ∧
      s.get LSC.STATE_LTYPE n = sh + 1 ∧ s.seqSheaf n = some sh ∧ (s.opsAt n).cutting = false ∧
      s.get SHF.COMP_ROLE sh ≠ roleLISTEN ∧ (s.engAt sh).sending = none ∧ (s.engAt sh).held = none ∧
      (s.seqAt n).fmtBase ≠ 0 ∧ fidx < (s.seqAt n).nfmt ∧
      operandBad (s.frameEntry n fidx) ((List.range 4).map fun k => Tab.get 0 (s.seqAt n).g (12 + k)) = false ∧
      s.txReady sh ≠ [] ∧ (∀ c ∈ s.txReady sh, s.get UTX.MOD_CFG_MODE c ≠ 3) ∧ (∀ c ∈ s.txReady sh,
      s.shapeLen (s.get UTX.MOD_CFG_SHAPE c) = 0) ∧ (s.engAt sh).taRunning = true) ∧
    (∃ (s : State) (n sh fidx : Nat), n < 16 ∧ sh < 4 ∧ fidx < 64 ∧ s.seqRuns n = true ∧
      s.get LSC.STATE_LTYPE n = sh + 1 ∧ s.seqSheaf n = some sh ∧ (s.opsAt n).cutting = false ∧
      s.get SHF.COMP_ROLE sh ≠ roleLISTEN ∧ (s.engAt sh).sending = none ∧ (s.engAt sh).held = none ∧
      (s.seqAt n).fmtBase ≠ 0 ∧ fidx < (s.seqAt n).nfmt ∧
      operandBad (s.frameEntry n fidx) ((List.range 4).map fun k => Tab.get 0 (s.seqAt n).g (12 + k)) = false ∧
      s.txReady sh ≠ [] ∧ (∀ c ∈ s.txReady sh, s.get UTX.MOD_CFG_MODE c ≠ 3) ∧ (∀ c ∈ s.txReady sh,
      s.shapeLen (s.get UTX.MOD_CFG_SHAPE c) = 0) ∧ (s.engAt sh).taRunning = false ∧
      (s.engAt sh).taExpired = false ∧ (s.engAt sh).minGap = false) ∧
    (∃ (s : State) (n sh fidx : Nat), n < 16 ∧ sh < 4 ∧ fidx < 64 ∧ s.seqRuns n = true ∧
      s.get LSC.STATE_LTYPE n = sh + 1 ∧ s.seqSheaf n = some sh ∧ (s.opsAt n).cutting = false ∧
      s.get SHF.COMP_ROLE sh = roleLISTEN) ∧
    (∃ (s : State) (n sh fidx : Nat), n < 16 ∧ sh < 4 ∧ fidx < 64 ∧ s.seqRuns n = true ∧
      s.get LSC.STATE_LTYPE n = sh + 1 ∧ s.seqSheaf n = some sh ∧ (s.opsAt n).cutting = false ∧
      s.get SHF.COMP_ROLE sh ≠ roleLISTEN ∧ ((s.engAt sh).sending ≠ none ∨ (s.engAt sh).held ≠ none)) ∧
    (∃ (s : State) (n sh fidx : Nat), n < 16 ∧ sh < 4 ∧ fidx < 64 ∧ s.seqRuns n = true ∧
      s.get LSC.STATE_LTYPE n = sh + 1 ∧ s.seqSheaf n = some sh ∧ (s.opsAt n).cutting = false ∧
      s.get SHF.COMP_ROLE sh ≠ roleLISTEN ∧ (s.engAt sh).sending = none ∧ (s.engAt sh).held = none ∧
      ((s.seqAt n).fmtBase = 0 ∨ (s.seqAt n).nfmt ≤ fidx)) ∧
    (∃ (s : State) (n sh fidx : Nat), n < 16 ∧ sh < 4 ∧ fidx < 64 ∧ s.seqRuns n = true ∧
      s.get LSC.STATE_LTYPE n = sh + 1 ∧ s.seqSheaf n = some sh ∧ (s.opsAt n).cutting = false ∧
      s.get SHF.COMP_ROLE sh ≠ roleLISTEN ∧ (s.engAt sh).sending = none ∧ (s.engAt sh).held = none ∧
      (s.seqAt n).fmtBase ≠ 0 ∧ fidx < (s.seqAt n).nfmt ∧
      operandBad (s.frameEntry n fidx) ((List.range 4).map fun k => Tab.get 0 (s.seqAt n).g (12 + k)) = true) ∧
    (∃ (s : State) (n sh fidx : Nat), n < 16 ∧ sh < 4 ∧ fidx < 64 ∧ s.seqRuns n = true ∧
      s.get LSC.STATE_LTYPE n = sh + 1 ∧ s.seqSheaf n = some sh ∧ (s.opsAt n).cutting = false ∧
      s.get SHF.COMP_ROLE sh ≠ roleLISTEN ∧ (s.engAt sh).sending = none ∧ (s.engAt sh).held = none ∧
      (s.seqAt n).fmtBase ≠ 0 ∧ fidx < (s.seqAt n).nfmt ∧
      operandBad (s.frameEntry n fidx) ((List.range 4).map fun k => Tab.get 0 (s.seqAt n).g (12 + k)) = false ∧
      s.txReady sh = []) ∧
    (∃ (s : State) (n : Nat), s.seqRuns n = true ∧ (s.get LSC.STATE_LTYPE n = 0 ∨ (s.opsAt n).cutting = true)) ∧
    (∃ (s : State) (n q : Nat), n < 16 ∧ q < 16 ∧ s.seqRuns n = true ∧ 1 ≤ s.queRoom q ∧ s.pushHeld n < 32 ∧
      s.get QUE.LEVEL_RSV q < 8191) ∧
    (∃ (s : State) (n a q cnt : Nat), n < 16 ∧ q < 16 ∧ s.seqRuns n = true ∧ 1 ≤ cnt ∧ s.greg n a % 4 = 0 ∧
      s.greg n a + 4 * cnt ≤ 0x8000 ∧ (s.queRoom q = 0 ∨ 32 ≤ s.pushHeld n)) ∧
    (∃ (s : State) (n a q cnt : Nat), n < 16 ∧ q < 16 ∧ cnt ≤ 32 ∧ s.seqRuns n = true ∧ s.greg n a % 4 = 0 ∧
      s.greg n a + 4 * cnt ≤ 0x8000 ∧ cnt ≤ s.queRoom q ∧ s.pushHeld n + cnt ≤ 32) ∧
    (∃ (s : State) (n q w : Nat) (r : List Nat), n < 16 ∧ q < 16 ∧ w < 4294967296 ∧ s.seqRuns n = true ∧
      s.queWords q = w :: r) ∧
    (∃ (s : State) (n q : Nat), n < 16 ∧ q < 16 ∧ s.seqRuns n = true ∧ s.queWords q = []) ∧
    (∃ (s : State) (n q k : Nat), n < 16 ∧ q < 16 ∧ s.seqRuns n = true ∧ (s.seqAt n).recBank.length = 64 ∧
      ((s.seqAt n).recCont = [] ∧ k = 16 ∨ (s.seqAt n).recCont.length = 64 ∧ k = 32) ∧ k ≤ s.queRoom q ∧
      s.pushHeld n + k ≤ 32) ∧
    (∃ (s : State) (n a k : Nat), n < 16 ∧ s.seqRuns n = true ∧ (s.seqAt n).recBank.length = 64 ∧
      ((s.seqAt n).recCont = [] ∧ k = 64 ∨ (s.seqAt n).recCont.length = 64 ∧ k = 128) ∧ s.greg n a % 4 = 0 ∧
      s.greg n a + k ≤ 0x8000) ∧
    (∃ (s : State) (n : Nat), n < 16 ∧ s.seqRuns n = true ∧ (s.seqAt n).recBank = [] ∧ (s.seqAt n).recCont = []) :=
  ⟨⟨(((wst [(LSC.STATE_STATE, 0, 2), (LSC.STATE_LTYPE, 0, 0 + 1), (SHF.LEASE_STATE_HELD, 0, 1), (SHF.LEASE_STATE_OWNER, 0, 0), (SHF.COMP_TXMASK, 0, 1), (UTX.STATE_STATE, 0, 2)]).setOps 0 { cutting := false }).setUtx 0 { ramp := none }),
    0, 0, 0, by decide +kernel⟩,
   ⟨((wst [(LSC.STATE_STATE, 0, 2), (LSC.STATE_LTYPE, 0, 0 + 1), (SHF.LEASE_STATE_HELD, 0, 1), (SHF.LEASE_STATE_OWNER, 0, 0)]).setOps 0 { cutting := false }),
    0, 0, 0, 0, by decide +kernel⟩,
   ⟨(((wst [(LSC.STATE_STATE, 0, 2), (LSC.STATE_LTYPE, 0, 0 + 1), (SHF.LEASE_STATE_HELD, 0, 1), (SHF.LEASE_STATE_OWNER, 0, 0), (SHF.COMP_LO_USED, 0, 0), (UTX.CTRL_LO_SRC, 0, 0), (RFS.STATE_STATE, 0, 1)]).setOps 0 { cutting := false }).setG 0 1 900000 : State),
    0, 0, 0, 1, by decide +kernel⟩,
   ⟨((let s := (((wst [(LSC.STATE_STATE, 0, 2), (LSC.STATE_LTYPE, 0, 0 + 1), (SHF.LEASE_STATE_HELD, 0, 1), (SHF.LEASE_STATE_OWNER, 0, 0), (SHF.COMP_TXMASK, 0, 1), (UTX.STATE_CARRIER, 0, 1), (UTX.STATE_STATE, 0, 3)]).setOps 0 { cutting := false }).setEng 0 { sending := none, held := none, taRunning := true }); (s.setSeq 0 { s.seqAt 0 with fmtBase := 0x100, nfmt := 1 }).setObj 0x3120 0 (List.replicate 148 0)) : State),
    0, 0, 0, by decide +kernel⟩,
   ⟨((let s := (((wst [(LSC.STATE_STATE, 0, 2), (LSC.STATE_LTYPE, 0, 0 + 1), (SHF.LEASE_STATE_HELD, 0, 1), (SHF.LEASE_STATE_OWNER, 0, 0), (UTX.STATE_CARRIER, 0, 1), (UTX.STATE_STATE, 0, 3), (SHF.COMP_TXMASK, 0, 1)]).setOps 0 { cutting := false }).setEng 0 { sending := none, held := none, taRunning := false, taExpired := false, minGap := false }); (s.setSeq 0 { s.seqAt 0 with fmtBase := 0x100, nfmt := 1 }).setObj 0x3120 0 (List.replicate 148 0)) : State),
    0, 0, 0, by decide +kernel⟩,
   ⟨((wst [(LSC.STATE_STATE, 0, 2), (LSC.STATE_LTYPE, 0, 0 + 1), (SHF.LEASE_STATE_HELD, 0, 1), (SHF.LEASE_STATE_OWNER, 0, 0), (SHF.COMP_ROLE, 0, roleLISTEN)]).setOps 0 { cutting := false }),
    0, 0, 0, by decide +kernel⟩,
   ⟨((let s := ((wst [(LSC.STATE_STATE, 0, 2), (LSC.STATE_LTYPE, 0, 0 + 1), (SHF.LEASE_STATE_HELD, 0, 1), (SHF.LEASE_STATE_OWNER, 0, 0)]).setOps 0 { cutting := false }); s.setEng 0 { s.engAt 0 with sending := some { seq := 0, cmd := 0, reply := false, kind := .none, bear := false, delayed := false, trunc := false, checkCrc := false } }) : State),
    0, 0, 0, by decide +kernel⟩,
   ⟨((((wst [(LSC.STATE_STATE, 0, 2), (LSC.STATE_LTYPE, 0, 0 + 1), (SHF.LEASE_STATE_HELD, 0, 1), (SHF.LEASE_STATE_OWNER, 0, 0)]).setOps 0 { cutting := false }).setEng 0 { sending := none, held := none }).setSeq 0 { fmtBase := 0 }),
    0, 0, 0, by decide +kernel⟩,
   ⟨((let s := (((wst [(LSC.STATE_STATE, 0, 2), (LSC.STATE_LTYPE, 0, 0 + 1), (SHF.LEASE_STATE_HELD, 0, 1), (SHF.LEASE_STATE_OWNER, 0, 0)]).setOps 0 { cutting := false }).setEng 0 { sending := none, held := none }); (s.setSeq 0 { s.seqAt 0 with fmtBase := 0x100, nfmt := 1 }).setObj 0x3120 0 (List.replicate 148 0)).wrBytes ((let s := (((wst [(LSC.STATE_STATE, 0, 2), (LSC.STATE_LTYPE, 0, 0 + 1), (SHF.LEASE_STATE_HELD, 0, 1), (SHF.LEASE_STATE_OWNER, 0, 0)]).setOps 0 { cutting := false }).setEng 0 { sending := none, held := none }); (s.setSeq 0 { s.seqAt 0 with fmtBase := 0x100, nfmt := 1 }).setObj 0x3120 0 (List.replicate 148 0)).fmtAt 0 + 20) [32, 0, 0, 0, 0xFF, 0xFF, 0xFF, 0xFF] : State),
    0, 0, 0, by decide +kernel⟩,
   ⟨((let s := (((wst [(LSC.STATE_STATE, 0, 2), (LSC.STATE_LTYPE, 0, 0 + 1), (SHF.LEASE_STATE_HELD, 0, 1), (SHF.LEASE_STATE_OWNER, 0, 0)]).setOps 0 { cutting := false }).setEng 0 { sending := none, held := none }); (s.setSeq 0 { s.seqAt 0 with fmtBase := 0x100, nfmt := 1 }).setObj 0x3120 0 (List.replicate 148 0)) : State),
    0, 0, 0, by decide +kernel⟩,
   ⟨(wst [(LSC.STATE_STATE, 0, 2), (LSC.STATE_LTYPE, 0, 0)]), 0, by decide +kernel⟩,
   ⟨(wst [(LSC.STATE_STATE, 0, 2), (QUE.QCFG_EN, 0, 1), (QUE.QCFG_DEPTH, 0, 1)]), 0, 0, by decide +kernel⟩,
   ⟨(wst [(LSC.STATE_STATE, 0, 2)]), 0, 0, 0, 1, by decide +kernel⟩,
   ⟨(wst [(LSC.STATE_STATE, 0, 2)]), 0, 0, 0, 0, by decide +kernel⟩,
   ⟨({ (wst [(LSC.STATE_STATE, 0, 2)]) with que := Tab.set [] [] 0 (0 :: ([] : List Nat)) } : State), 0, 0, 0,
    ([] : List Nat), by decide +kernel⟩,
   ⟨({ (wst [(LSC.STATE_STATE, 0, 2)]) with que := Tab.set [] [] 0 ([]) } : State), 0, 0, by decide +kernel⟩,
   ⟨((wst [(LSC.STATE_STATE, 0, 2), (QUE.QCFG_EN, 0, 1), (QUE.QCFG_DEPTH, 0, 1)]).setSeq 0 { recBank := List.replicate 64 0, recCont := [] }),
    0, 0, 16, by decide +kernel⟩,
   ⟨((wst [(LSC.STATE_STATE, 0, 2)]).setSeq 0 { recBank := List.replicate 64 0, recCont := [] }), 0, 0, 64,
    by decide +kernel⟩,
   ⟨((wst [(LSC.STATE_STATE, 0, 2)]).setSeq 0 { recBank := [], recCont := [] }), 0, by decide +kernel⟩⟩

theorem witness_HfLeasesTableAndGuard :
    (∃ (s : State) (seq entry : Nat), seq < 16 ∧ entry < 8192 ∧ s.bit PWR.STATE_DOM 1 = true ∧ s.get HFR.CTRL_EN ≠ 0 ∧
      s.get LSC.HF_STATE_HFR_HELD = 0 ∧ s.get LSC.STATE_STATE seq ≠ seqSTOPPED ∧
      s.get LSC.STATE_STATE seq ≠ seqFAULT ∧ s.seqBound seq = false) ∧
    (∃ (s : State) (seq entry : Nat), seq < 16 ∧ entry < 8192 ∧ s.bit PWR.STATE_DOM 1 = true ∧
      s.get LSC.HF_STATE_HFT_HELD = 0 ∧ s.get LSC.STATE_STATE seq ≠ seqSTOPPED ∧
      s.get LSC.STATE_STATE seq ≠ seqFAULT ∧ s.seqBound seq = false) ∧
    (∃ (s : State) (target seq entry : Nat), target < 2 ∧ seq < 16 ∧ entry < 8192 ∧
      (s.bit PWR.STATE_DOM 1 = false ∨ target = 0 ∧ s.get HFR.CTRL_EN = 0)) ∧
    (∃ (s : State) (target seq entry : Nat), target < 2 ∧ seq < 16 ∧ entry < 8192 ∧ s.bit PWR.STATE_DOM 1 = true ∧
      (target = 0 ∧ s.get HFR.CTRL_EN ≠ 0 ∧ s.get LSC.HF_STATE_HFR_HELD ≠ 0 ∨ target = 1 ∧
      s.get LSC.HF_STATE_HFT_HELD ≠ 0)) ∧
    (∃ (s : State) (target seq entry : Nat), target < 2 ∧ seq < 16 ∧ entry < 8192 ∧ s.bit PWR.STATE_DOM 1 = true ∧
      (target = 0 ∧ s.get HFR.CTRL_EN ≠ 0 ∧ s.get LSC.HF_STATE_HFR_HELD = 0 ∨ target = 1 ∧
      s.get LSC.HF_STATE_HFT_HELD = 0) ∧
      (s.get LSC.STATE_STATE seq = seqSTOPPED ∨ s.get LSC.STATE_STATE seq = seqFAULT ∨ s.seqBound seq = true)) ∧
    (∃ (s : State), s.get LSC.HF_STATE_HFT_HELD ≠ 0) ∧
    (∃ (s : State), s.get LSC.HF_STATE_HFT_HELD = 0) ∧
    (∃ (s : State), s.get LSC.HF_STATE_HFR_HELD = 0) ∧
    (∃ (s : State), s.get LSC.HF_STATE_HFR_HELD ≠ 0 ∧ s.get LSC.HF_STATE_HFR_OWNER < 16 ∧ 3 ≤ s.hst ∧
      s.hfr.window = none) ∧
    (∃ (s : State) (f : HfFrame), s.get LSC.HF_STATE_HFR_HELD ≠ 0 ∧ s.get LSC.HF_STATE_HFR_OWNER < 16 ∧
      s.hst = txLISTEN ∧ s.hfr.window = some f ∧ f.seq < 16) ∧
    (∃ (s : State), s.get LSC.HF_STATE_HFR_HELD ≠ 0 ∧ s.get LSC.HF_STATE_HFR_OWNER < 16 ∧ s.hst < 3 ∧
      s.hfr.window = none) ∧
    (∃ (s : State), s.get LSC.HF_STATE_HFR_HELD = 0) ∧
    (∃ (s : State), s.get LSC.HF_STATE_HFR_HELD ≠ 0) ∧
    (∃ (s : State), s.get HFT.STATE_GUARD ≠ 0 ∧ s.hst < 3) ∧
    (∃ (s : State), (3 ≤ s.hst ∨ s.get HFT.STATE_GUARD = 0)) :=
  ⟨⟨(wst [(HFR.CTRL_EN, 0, 1), (LSC.HF_STATE_HFR_HELD, 0, 0), (PWR.STATE_DOM, 0, 2), (LSC.STATE_STATE, 0, 1)]), 0, 0,
    by decide +kernel⟩,
   ⟨(wst [(LSC.HF_STATE_HFT_HELD, 0, 0), (PWR.STATE_DOM, 0, 2), (LSC.STATE_STATE, 0, 1)]), 0, 0, by decide +kernel⟩,
   ⟨State.reset, 0, 0, 0, by decide +kernel⟩,
   ⟨(wst [(HFR.CTRL_EN, 0, 1), (LSC.HF_STATE_HFR_HELD, 0, 1), (PWR.STATE_DOM, 0, 2)]), 0, 0, 0, by decide +kernel⟩,
   ⟨(wst [(HFR.CTRL_EN, 0, 1), (LSC.HF_STATE_HFR_HELD, 0, 0), (LSC.STATE_STATE, 0, seqSTOPPED), (PWR.STATE_DOM, 0, 2)]),
    0, 0, 0, by decide +kernel⟩,
   ⟨(wst [(LSC.HF_STATE_HFT_HELD, 0, 1)]), by decide +kernel⟩,
   ⟨(wst [(LSC.HF_STATE_HFT_HELD, 0, 0)]), by decide +kernel⟩,
   ⟨(wst [(LSC.HF_STATE_HFR_HELD, 0, 0)]), by decide +kernel⟩,
   ⟨({ (wst [(LSC.HF_STATE_HFR_HELD, 0, 1), (HFR.STATE_STATE, 0, 3), (HFR.STATE_FIELD, 0, 1)]) with hfr.window := none } : State),
    by decide +kernel⟩,
   ⟨({ (wst [(LSC.HF_STATE_HFR_HELD, 0, 1), (HFR.STATE_STATE, 0, txLISTEN)]) with hfr.window := some ({ seq := 0, entry := [], ops := [], bits := [] } : HfFrame) } : State),
    ({ seq := 0, entry := [], ops := [], bits := [] } : HfFrame), by decide +kernel⟩,
   ⟨({ (wst [(LSC.HF_STATE_HFR_HELD, 0, 1)]) with hfr.window := none } : State), by decide +kernel⟩,
   ⟨(wst [(LSC.HF_STATE_HFR_HELD, 0, 0)]), by decide +kernel⟩,
   ⟨(wst [(LSC.HF_STATE_HFR_HELD, 0, 1)]), by decide +kernel⟩,
   ⟨(wst [(HFT.STATE_GUARD, 0, 1)]), by decide +kernel⟩,
   ⟨(wst [(HFR.STATE_STATE, 0, 3)]), by decide +kernel⟩⟩

theorem witness_HfFieldAndWindows :
    (∃ (s : State) (r : Bool) (k : Nat), k < 3 ∧ s.hfr.step = some k ∧ (k = 1 → s.hst = 0 → r = true)) ∧
    (∃ (s : State), s.hfr.step = some 1 ∧ s.hst = 0) ∧
    (∃ (s : State), s.hfr.step = some 3 ∧ s.hfr.window = none) ∧
    (∃ (s : State) (f : HfFrame), s.hfr.step = none ∧ s.hfr.sending = some f ∧
      (s.hfr.want = none ∨ s.hfr.want = some 3) ∧ f.seq < 16) ∧
    (∃ (s : State), s.hfr.step = none ∧ s.hfr.sending = none) ∧
    (∃ (s : State), s.hfr.step = some 2 ∧ s.hst = 1) ∧
    (∃ (s : State), (s.hfr.step ≠ some 2 ∨ s.hst ≠ 1)) ∧
    (∃ (s : State), (3 ≤ s.hst ∨ s.get HFR.STATE_FIELD ≠ 0) ∧ s.hfr.window = none) ∧
    (∃ (s : State) (f : HfFrame), (3 ≤ s.hst ∨ s.get HFR.STATE_FIELD ≠ 0) ∧ s.hfr.window = some f ∧ f.seq < 16) ∧
    (∃ (s : State), s.hst < 3 ∧ s.get HFR.STATE_FIELD = 0) ∧
    (∃ (s : State) (f : HfFrame), s.hfr.held = some f) ∧
    (∃ (s : State), s.hfr.held = none) ∧
    (∃ (s : State) (f : HfFrame) (ev : HfEvidence) (c c' p : Nat), s.hfr.window = some f ∧ f.seq < 16 ∧
      s.hfr.wtxReply = [] ∧ (heProto f.entry = 0 ∧ heRxRate f.entry = 0 ∨ heProto f.entry = 2) ∧
      heRxMax f.entry ≤ 1023 ∧ ev.coll = some c' ∧ (if ev.collPar then c' - 1 else c') = c ∧ c ≤ ev.bits.length ∧
      (if heAnticoll f.entry = true ∧ f.ops.getD 1 0 < 40 then f.ops.getD 1 0 else 0) = p ∧
      (p = 0 ∨ p + 16 ≤ f.bits.length)) ∧
    (∃ (s : State) (f : HfFrame) (ev : HfEvidence) (b : List Bool) (ok : Bool), s.hfr.window = some f ∧ f.seq < 16 ∧
      s.hfr.wtxReply = [] ∧ heAnticoll f.entry = false ∧ heIsodep f.entry = false ∧ heRxMax f.entry ≤ 1023 ∧
      ev.coll = none ∧ b = (if heRxCrc f.entry then ev.bits.take (ev.bits.length - 16) else ev.bits) ∧
      ok = (!heRxCrc f.entry || hfCrcOk (heProto f.entry) ev.bits)) ∧
    (∃ (s : State) (f : HfFrame) (ev : HfEvidence), s.hfr.window = some f ∧ f.seq < 16 ∧ s.hfr.wtxReply = [] ∧
      (ev.coll = none ∨ heProto f.entry = 1 ∨ heProto f.entry = 0 ∧ heRxRate f.entry ≠ 0)) ∧
    (∃ (s : State) (f : HfFrame) (ev : HfEvidence) (b : List Bool), s.hfr.window = some f ∧ f.seq < 16 ∧
      s.hfr.wtxReply = [] ∧ heAnticoll f.entry = false ∧ heIsodep f.entry = true ∧ ev.coll = none ∧
      ev.codingBad = false ∧ heProto f.entry = 1 ∧
      b = (if heRxCrc f.entry then ev.bits.take (ev.bits.length - 16) else ev.bits) ∧
      (heRxCrc f.entry = false ∨ hfCrcOk 1 ev.bits = true) ∧
      b.length ≤ min (8 * heRxMax f.entry) (8 * (0x8000 - (s.seqAt f.seq).rxb)) ∧
      wtxmOf (packLsb ((b.length + 7) / 8) b) ≠ 0 ∧ heRxMax f.entry ≤ 1023) ∧
    (∃ (s : State), (s.hfr.window = none ∨ s.hfr.wtxReply ≠ [])) ∧
    (∃ (s : State) (f : HfFrame), s.hfr.window = some f ∧ f.seq < 16 ∧ s.hfr.wtxReply = []) ∧
    (∃ (s : State), (s.hfr.window = none ∨ s.hfr.wtxReply ≠ [])) ∧
    (∃ (s : State), (s.hfr.window = none ∨ s.hfr.wtxReply = [])) ∧
    (∃ (s : State) (f : HfFrame), s.hfr.window = some f ∧ s.hfr.wtxReply ≠ []) :=
  ⟨⟨({ State.reset with hfr.step := some 0 } : State), false, 0, by decide +kernel⟩,
   ⟨({ (wst [(HFR.STATE_STATE, 0, 0)]) with hfr.step := some 1 } : State), by decide +kernel⟩,
   ⟨({ ({ State.reset with hfr.step := some 3 } : State) with hfr.window := none } : State), by decide +kernel⟩,
   ⟨({ ({ ({ State.reset with hfr.step := none } : State) with hfr.sending := some ({ seq := 0, entry := [], ops := [], bits := [] } : HfFrame) } : State) with hfr.want := none } : State),
    ({ seq := 0, entry := [], ops := [], bits := [] } : HfFrame), by decide +kernel⟩,
   ⟨({ ({ State.reset with hfr.step := none } : State) with hfr.sending := none } : State), by decide +kernel⟩,
   ⟨({ (wst [(HFR.STATE_STATE, 0, 1)]) with hfr.step := some 2 } : State), by decide +kernel⟩,
   ⟨State.reset, by decide +kernel⟩,
   ⟨({ (wst [(HFR.STATE_STATE, 0, 3), (HFR.STATE_FIELD, 0, 1)]) with hfr.window := none } : State), by decide +kernel⟩,
   ⟨({ (wst [(HFR.STATE_STATE, 0, 3), (HFR.STATE_FIELD, 0, 1)]) with hfr.window := some ({ seq := 0, entry := [], ops := [], bits := [] } : HfFrame) } : State),
    ({ seq := 0, entry := [], ops := [], bits := [] } : HfFrame), by decide +kernel⟩,
   ⟨(wst [(HFR.STATE_FIELD, 0, 0)]), by decide +kernel⟩,
   ⟨({ State.reset with hfr.held := some ({ seq := 0, entry := [], ops := [], bits := [] } : HfFrame) } : State),
    ({ seq := 0, entry := [], ops := [], bits := [] } : HfFrame), by decide +kernel⟩,
   ⟨({ State.reset with hfr.held := none } : State), by decide +kernel⟩,
   ⟨({ ({ State.reset with hfr.window := some ({ seq := 0, entry := [], ops := [], bits := [] } : HfFrame) } : State) with hfr.wtxReply := [] } : State),
    ({ seq := 0, entry := [], ops := [], bits := [] } : HfFrame), ({ rssi := 0, coll := some 0 } : HfEvidence), 0,
    0, 0, by decide +kernel⟩,
   ⟨({ ({ State.reset with hfr.window := some ({ seq := 0, entry := [], ops := [], bits := [] } : HfFrame) } : State) with hfr.wtxReply := [] } : State),
    ({ seq := 0, entry := [], ops := [], bits := [] } : HfFrame), ({ rssi := 0, coll := none } : HfEvidence),
    ([] : List Bool), true, by decide +kernel⟩,
   ⟨({ ({ State.reset with hfr.window := some ({ seq := 0, entry := [2], ops := [], bits := [] } : HfFrame) } : State) with hfr.wtxReply := [] } : State),
    ({ seq := 0, entry := [2], ops := [], bits := [] } : HfFrame), ({ rssi := 0, coll := none } : HfEvidence),
    by decide +kernel⟩,
   ⟨({ ({ State.reset with hfr.window := some ({ seq := 0, entry := [1, 0, 0x40, 0, 0, 0, 10, 0], ops := [], bits := [] } : HfFrame) } : State) with hfr.wtxReply := [] } : State),
    ({ seq := 0, entry := [1, 0, 0x40, 0, 0, 0, 10, 0], ops := [], bits := [] } : HfFrame), ({ rssi := 0, coll := none, bits := unpackLsb [0xF2, 1] } : HfEvidence),
    (unpackLsb [0xF2, 1]), by decide +kernel⟩,
   ⟨({ State.reset with hfr.window := none } : State), by decide +kernel⟩,
   ⟨((let s := ({ ({ State.reset with hfr.window := some ({ seq := 0, entry := [], ops := [], bits := [] } : HfFrame) } : State) with hfr.wtxReply := [] } : State); ({ s with hfr.waitCyc := 100000000 } : State)) : State),
    ({ seq := 0, entry := [], ops := [], bits := [] } : HfFrame), by decide +kernel⟩,
   ⟨({ State.reset with hfr.window := none } : State), by decide +kernel⟩,
   ⟨({ State.reset with hfr.window := none } : State), by decide +kernel⟩,
   ⟨((let s := ({ State.reset with hfr.window := some ({ seq := 0, entry := [], ops := [], bits := [] } : HfFrame) } : State); ({ s with hfr.wtxReply := [0xF2, 1] } : State)) : State),
    ({ seq := 0, entry := [], ops := [], bits := [] } : HfFrame), by decide +kernel⟩⟩

theorem witness_GleanerCommands :
    (∃ (s : State), s.get HFR.STATE_GL_STATE = 0 ∧ s.get HFR.CTRL_GL_EN ≠ 0 ∧ s.bit PWR.STATE_DOM 1 = true) ∧
    (∃ (s : State), (s.get HFR.STATE_GL_STATE ≠ 0 ∨ s.get HFR.CTRL_GL_EN = 0 ∨ s.bit PWR.STATE_DOM 1 = false)) ∧
    (∃ (s : State), s.get HFR.STATE_GL_STATE ≠ 0) ∧
    (∃ (s : State), s.get HFR.STATE_GL_STATE = 0) ∧
    (∃ (s : State) (amp phase : Nat), amp < 65536 ∧ phase < 65536 ∧ s.get HFR.CTRL_GL_EN ≠ 0 ∧
      s.get SYS.MODE_MODE = 0 ∧ s.bit PWR.STATE_DOM 1 = true ∧ s.get LSC.HF_STATE_HFR_HELD = 0 ∧
      s.get HFR.STATE_GL_STATE = 1 ∧ s.get HFR.STATE_TAG_FIELD = 0) ∧
    (∃ (s : State) (amp phase : Nat), s.get HFR.CTRL_GL_EN ≠ 0 ∧ s.get SYS.MODE_MODE = 0 ∧
      s.bit PWR.STATE_DOM 1 = true ∧ s.get LSC.HF_STATE_HFR_HELD = 0 ∧ s.get HFR.STATE_GL_STATE = 1 ∧
      s.get HFR.STATE_TAG_FIELD = 0 ∧ s.glBlanked = false ∧ s.gl.rebase = false ∧
      (5 * 65536 * s.get HFR.GL_THR_AMP_THR < (sint 16 amp * 65536 - s.gl.baseAmp).natAbs ∨ 10 * 65536 * s.get HFR.GL_THR_PH_THR < (wrapPhase (sint 16 phase * 65536 - s.gl.basePhase)).natAbs)) ∧
    (∃ (s : State) (amp phase : Nat) (k d : Int), s.get HFR.CTRL_GL_EN ≠ 0 ∧ s.get SYS.MODE_MODE = 0 ∧
      s.bit PWR.STATE_DOM 1 = true ∧ s.get LSC.HF_STATE_HFR_HELD = 0 ∧ s.get HFR.STATE_GL_STATE = 1 ∧
      s.get HFR.STATE_TAG_FIELD = 0 ∧ s.glBlanked = false ∧ s.gl.rebase = false ∧
      (sint 16 amp * 65536 - s.gl.baseAmp).natAbs ≤ 5 * 65536 * s.get HFR.GL_THR_AMP_THR ∧
      (wrapPhase (sint 16 phase * 65536 - s.gl.basePhase)).natAbs ≤ 10 * 65536 * s.get HFR.GL_THR_PH_THR ∧
      k = ((10 * max 10 (min 100 (s.get HFR.GL_CFG_PERIOD)) : Nat) : Int) ∧
      d = ((1000 * max 1 (s.get HFR.GL_CFG_TAU) : Nat) : Int)) ∧
    (∃ (s : State), s.get HFR.CTRL_GL_EN ≠ 0 ∧ s.get SYS.MODE_MODE = 0 ∧ s.bit PWR.STATE_DOM 1 = true ∧
      s.get LSC.HF_STATE_HFR_HELD = 0 ∧ s.get HFR.STATE_GL_STATE = 1 ∧ s.get HFR.STATE_TAG_FIELD ≠ 0) ∧
    (∃ (s : State),
      (s.get HFR.CTRL_GL_EN = 0 ∨ s.get SYS.MODE_MODE ≠ 0 ∨ s.bit PWR.STATE_DOM 1 = false ∨ s.get LSC.HF_STATE_HFR_HELD ≠ 0 ∨ s.get HFR.STATE_GL_STATE ≠ 1)) :=
  ⟨⟨(wst [(HFR.STATE_GL_STATE, 0, 0), (HFR.CTRL_GL_EN, 0, 1), (PWR.STATE_DOM, 0, 2)]), by decide +kernel⟩,
   ⟨(wst [(HFR.STATE_GL_STATE, 0, 1)]), by decide +kernel⟩,
   ⟨(wst [(HFR.STATE_GL_STATE, 0, 1)]), by decide +kernel⟩,
   ⟨(wst [(HFR.STATE_GL_STATE, 0, 0)]), by decide +kernel⟩,
   ⟨(wst [(HFR.CTRL_GL_EN, 0, 1), (SYS.MODE_MODE, 0, 0), (LSC.HF_STATE_HFR_HELD, 0, 0), (HFR.STATE_GL_STATE, 0, 1), (HFR.STATE_TAG_FIELD, 0, 0), (PWR.STATE_DOM, 0, 2)]),
    0, 0, by decide +kernel⟩,
   ⟨({ (wst [(HFR.CTRL_GL_EN, 0, 1), (SYS.MODE_MODE, 0, 0), (LSC.HF_STATE_HFR_HELD, 0, 0), (HFR.STATE_GL_STATE, 0, 1), (HFR.STATE_TAG_FIELD, 0, 0), (PWR.STATE_DOM, 0, 2)]) with gl.rebase := false } : State),
    0x4000, 0, by decide +kernel⟩,
   ⟨({ (wst [(HFR.CTRL_GL_EN, 0, 1), (SYS.MODE_MODE, 0, 0), (LSC.HF_STATE_HFR_HELD, 0, 0), (HFR.STATE_GL_STATE, 0, 1), (HFR.STATE_TAG_FIELD, 0, 0), (PWR.STATE_DOM, 0, 2)]) with gl.rebase := false } : State),
    0, 0, _, _, by decide +kernel, by decide +kernel, by decide +kernel, by decide +kernel, by decide +kernel,
    by decide +kernel, by decide +kernel, by decide +kernel, by decide +kernel, by decide +kernel, rfl, rfl⟩,
   ⟨(wst [(HFR.CTRL_GL_EN, 0, 1), (SYS.MODE_MODE, 0, 0), (LSC.HF_STATE_HFR_HELD, 0, 0), (HFR.STATE_GL_STATE, 0, 1), (HFR.STATE_TAG_FIELD, 0, 1), (PWR.STATE_DOM, 0, 2)]),
    by decide +kernel⟩,
   ⟨(wst [(HFR.CTRL_GL_EN, 0, 0)]), by decide +kernel⟩⟩

theorem witness_TagFieldAndLayers :
    (∃ (s : State), s.get HFT.STATE_GUARD = 0 ∧ s.get HFT.CTRL_EN ≠ 0 ∧ s.get HFT.STATE_LINE ≠ 0) ∧
    (∃ (s : State), s.get HFT.STATE_LINE ≠ 0 ∧ (s.get HFT.STATE_GUARD ≠ 0 ∨ s.get HFT.CTRL_EN = 0)) ∧
    (∃ (s : State), s.get HFT.STATE_LINE = 0 ∧ s.get HFT.STATE_GUARD ≠ 0) ∧
    (∃ (s : State), s.get HFT.STATE_LINE = 0 ∧ s.get HFT.STATE_GUARD = 0) ∧
    (∃ (s : State), s.get HFT.STATE_GUARD = 0 ∧ s.get HFT.CTRL_EN ≠ 0 ∧ s.get HFT.STATE_LINE = 0 ∧
      s.hft.marker = none ∧ s.hft.genP = s.hft.genB ∧ s.tagSound) ∧
    (∃ (s : State) (r g : Nat), s.get HFT.STATE_GUARD = 0 ∧ s.get HFT.STATE_LINE = 0 ∧ s.tagSound ∧
      s.hft.marker = some (r, g) ∧ r < 256) ∧
    (∃ (s : State), s.get HFT.STATE_LINE ≠ 0) ∧
    (∃ (s : State), s.get HFT.STATE_LINE = 0) ∧
    (∃ (s : State), s.get HFT.STATE_LOCKOUT ≠ 0 ∧ s.get HFT.STATE_FIELD = 0) ∧
    (∃ (s : State), (s.get HFT.STATE_FIELD ≠ 0 ∨ s.get HFT.STATE_LOCKOUT = 0)) ∧
    (∃ (s : State), s.tgSt = tgIDLE) ∧
    (∃ (s : State), s.tgSt ≠ tgIDLE) ∧
    (∃ (s : State), (s.tgSt = tgIDLE ∨ s.tgSt = tgHALT)) ∧
    (∃ (s : State), s.tgSt ≠ tgIDLE ∧ s.tgSt ≠ tgHALT) ∧
    (∃ (s : State) (k : Nat), s.tgSt = tgREADY ∧ 1 ≤ s.hft.cascade ∧ s.hft.cascade ≤ 2 ∧ k < 40) ∧
    (∃ (s : State) (level : Nat) (known : List Bool),
      (s.tgSt ≠ tgREADY ∨ level ≠ s.hft.cascade ∨ 40 ≤ known.length ∨ (unpackLsb (tagCln level)).take known.length ≠ known)) ∧
    (∃ (s : State), s.tgSt = tgREADY ∧ s.hft.cascade = 1) ∧
    (∃ (s : State), s.tgSt = tgREADY ∧ s.hft.cascade = 2) ∧
    (∃ (s : State) (level : Nat) (cln : List Nat), (s.tgSt ≠ tgREADY ∨ level ≠ s.hft.cascade ∨ cln ≠ tagCln level)) ∧
    (∃ (s : State) (cid : Nat), s.tgSt = tgACTIVE ∧ cid ≤ 14) ∧
    (∃ (s : State) (cid : Nat), (s.tgSt ≠ tgACTIVE ∨ 14 < cid)) ∧
    (∃ (s : State), s.tgSt = tgACTIVE) ∧
    (∃ (s : State), s.tgSt ≠ tgACTIVE) ∧
    (∃ (s : State), tgOPEN ≤ s.tgSt ∧ s.tgSt ≤ tgFACTORY) ∧
    (∃ (s : State) (dri dsi : Nat), (dri ≠ 0 ∨ dsi ≠ 0 ∨ s.tgSt < tgOPEN)) ∧
    (∃ (s : State), tgOPEN ≤ s.tgSt ∧ s.tgSt ≤ tgFACTORY) ∧
    (∃ (s : State), tgOPEN ≤ s.tgSt ∧ s.tgSt ≤ tgFACTORY ∧
      (s.get HFT.PSTAT_PENDING ≠ 0 ∨ s.hft.fieldWait ≠ none ∨ s.hft.commit.any (fun c => c.field && c.answer != []) = true)) ∧
    (∃ (s : State), s.get HFT.PSTAT_PENDING = 0 ∧ s.hft.fieldWait = none ∧
      s.hft.commit.any (fun c => c.field && c.answer != []) = false) ∧
    (∃ (s : State), s.tgSt < tgOPEN) ∧
    (∃ (s : State), tgOPEN ≤ s.tgSt ∧ s.tgSt ≤ tgFACTORY) :=
  ⟨⟨(wst [(HFT.STATE_GUARD, 0, 0), (HFT.CTRL_EN, 0, 1), (HFT.STATE_LINE, 0, 1)]), by decide +kernel⟩,
   ⟨(wst [(HFT.STATE_LINE, 0, 1), (HFT.STATE_GUARD, 0, 1)]), by decide +kernel⟩,
   ⟨(wst [(HFT.STATE_LINE, 0, 0), (HFT.STATE_GUARD, 0, 1)]), by decide +kernel⟩,
   ⟨(wst [(HFT.STATE_LINE, 0, 0), (HFT.STATE_GUARD, 0, 0)]), by decide +kernel⟩,
   ⟨(let s : State := ({ (wst [(HFT.STATE_GUARD, 0, 0), (HFT.CTRL_EN, 0, 1), (HFT.STATE_LINE, 0, 0)]) with hft.marker := none } : State); ({ s with hft.genP := s.hft.genB } : State)),
    by decide +kernel, by decide +kernel, by decide +kernel, by decide +kernel, by decide +kernel,
    by unfold State.tagSound; decide +kernel⟩,
   ⟨({ (wst [(HFT.STATE_GUARD, 0, 0), (HFT.STATE_LINE, 0, 0)]) with hft.marker := some (0, 0) } : State), 0, 0,
    by decide +kernel, by decide +kernel, by unfold State.tagSound; decide +kernel, by decide +kernel,
    by decide +kernel⟩,
   ⟨(wst [(HFT.STATE_LINE, 0, 1)]), by decide +kernel⟩,
   ⟨(wst [(HFT.STATE_LINE, 0, 0)]), by decide +kernel⟩,
   ⟨(wst [(HFT.STATE_LOCKOUT, 0, 1), (HFT.STATE_FIELD, 0, 0)]), by decide +kernel⟩,
   ⟨(wst [(HFT.STATE_FIELD, 0, 1)]), by decide +kernel⟩,
   ⟨(wst [(HFT.STATE_TSTATE, 0, tgIDLE)]), by decide +kernel⟩,
   ⟨State.reset, by decide +kernel⟩,
   ⟨(wst [(HFT.STATE_TSTATE, 0, tgIDLE)]), by decide +kernel⟩,
   ⟨State.reset, by decide +kernel⟩,
   ⟨(wst [(HFT.STATE_TSTATE, 0, tgREADY)]), 0, by decide +kernel⟩,
   ⟨State.reset, 0, ([] : List Bool), by decide +kernel⟩,
   ⟨({ (wst [(HFT.STATE_TSTATE, 0, tgREADY)]) with hft.cascade := 1 } : State), by decide +kernel⟩,
   ⟨({ (wst [(HFT.STATE_TSTATE, 0, tgREADY)]) with hft.cascade := 2 } : State), by decide +kernel⟩,
   ⟨State.reset, 0, ([] : List Nat), by decide +kernel⟩,
   ⟨(wst [(HFT.STATE_TSTATE, 0, tgACTIVE)]), 0, by decide +kernel⟩,
   ⟨State.reset, 0, by decide +kernel⟩,
   ⟨(wst [(HFT.STATE_TSTATE, 0, tgACTIVE)]), by decide +kernel⟩,
   ⟨State.reset, by decide +kernel⟩,
   ⟨(wst [(HFT.STATE_TSTATE, 0, tgOPEN)]), by decide +kernel⟩,
   ⟨State.reset, 1, 0, by decide +kernel⟩,
   ⟨(wst [(HFT.STATE_TSTATE, 0, tgOPEN)]), by decide +kernel⟩,
   ⟨(wst [(HFT.STATE_TSTATE, 0, tgOPEN), (HFT.PSTAT_PENDING, 0, 1)]), by decide +kernel⟩,
   ⟨({ (wst [(HFT.PSTAT_PENDING, 0, 0)]) with hft.fieldWait := none } : State), by decide +kernel⟩,
   ⟨State.reset, by decide +kernel⟩,
   ⟨(wst [(HFT.STATE_TSTATE, 0, tgOPEN)]), by decide +kernel⟩⟩

theorem witness_TagFilesAndCommits :
    (∃ (s : State) (c : Instr) (a : Apdu), apduOf c = some a ∧ (s.tgSt < tgOPEN ∨ 255 < a.data.length ∨ 256 < a.le)) ∧
    (∃ (s : State) (c : Instr) (a : Apdu), apduOf c = some a ∧ tgOPEN ≤ s.tgSt ∧ a.data.length ≤ 255 ∧ a.le ≤ 256 ∧
      s.wiredBusy = true) ∧
    (∃ (s : State) (c : Instr) (a : Apdu), apduOf c = some a ∧ s.tagFree ∧ a.data.length ≤ 255 ∧ a.le ≤ 256) ∧
    (∃ (s : State) (c : Instr) (a : Apdu) (d : List Nat), apduOf c = some a ∧ s.tgSt = tgFACTORY ∧
      s.wiredBusy = false ∧ a.le ≤ 256 ∧ a.data = d ++ (aesCmac s.hft.sk (toLe 2 s.hft.ctr ++ [a.cla, a.ins, a.p1, a.p2] ++ d)).take 8 ∧
      a.data.length = d.length + 8 ∧ a.data.length ≤ 255) ∧
    (∃ (s : State) (c : Instr) (a : Apdu), apduOf c = some a ∧ s.tgSt = tgFACTORY ∧ s.wiredBusy = false ∧
      a.data.length ≤ 255 ∧ a.le ≤ 256 ∧ (∀ d, a.data ≠ d ++ (aesCmac s.hft.sk (toLe 2 s.hft.ctr ++ [a.cla, a.ins, a.p1, a.p2] ++ d)).take 8)) ∧
    (∃ (s : State) (a : Apdu), s.tagFree ∧ a.le ≤ 256 ∧ a.p2 = 0 ∧ a.data = [0xD2, 0x76, 0x00, 0x00, 0x85, 0x01, 0x01]) ∧
    (∃ (s : State) (a : Apdu), s.tagFree ∧ a.le ≤ 256 ∧ a.p2 = 0x0C ∧ s.hft.app = true ∧ (a.data = [0xE1, 0x03] ∨ a.data = [0xE1, 0x04])) ∧
    (∃ (s : State) (a : Apdu), s.tagFree ∧ a.data.length ≤ 255 ∧ s.hft.file = 3 ∧ a.p1 = 0 ∧ 1 ≤ a.le ∧
      a.p2 + a.le ≤ 15) ∧
    (∃ (s : State) (a : Apdu), s.tagFree ∧ a.data.length ≤ 255 ∧ s.hft.file = 4 ∧ 1 ≤ a.le ∧ a.le ≤ 248 ∧
      256 * a.p1 + a.p2 + a.le ≤ 992 ∧ (∀ r, 1 ≤ r → r ≤ 4 → s.readRefusal r = none)) ∧
    (∃ (s : State) (a : Apdu), s.tagFree ∧ a.p1 = 0 ∧ a.p2 = 0 ∧ a.data = [] ∧ a.le = 16) ∧
    (∃ (s : State) (a : Apdu), s.tagFree ∧ a.p1 = 0 ∧ a.p2 = 0 ∧ a.data = [] ∧ a.le = 12) ∧
    (∃ (s : State) (a : Apdu), s.tagFree ∧ a.data = [] ∧ 1 ≤ a.le ∧ a.p2 + a.le ≤ 248 ∧ s.readRefusal a.p1 = none) ∧
    (∃ (s : State) (c : Instr) (a : Apdu) (off sw : Nat), s.tagFree ∧ a.data.length ≤ 255 ∧ a.le ≤ 256 ∧
      off = 256 * a.p1 + a.p2 ∧ (c = .tagSelectNdefApp a ∧ (a.p2 ≠ 0 ∧ sw = 0x6A86 ∨ a.p2 = 0 ∧ a.data ≠ [0xD2, 0x76, 0x00, 0x00, 0x85, 0x01, 0x01] ∧
      sw = 0x6A82) ∨ c = .tagSelectFile a ∧ (a.p2 ≠ 0x0C ∧ sw = 0x6A86 ∨ a.p2 = 0x0C ∧
      (s.hft.app = false ∨ a.data ≠ [0xE1, 0x03] ∧ a.data ≠ [0xE1, 0x04]) ∧
      sw = 0x6A82) ∨ (c = .tagReadBinary a ∨ c = .tagUpdateBinary a) ∧ s.hft.file = 0 ∧
      sw = 0x6A82 ∨ c = .tagReadBinary a ∧ s.hft.file = 3 ∧ (15 ≤ off ∧ sw = 0x6A86 ∨ off < 15 ∧
      (a.le = 0 ∨ 15 < off + a.le) ∧ sw = 0x6700) ∨ c = .tagReadBinary a ∧ s.hft.file = 4 ∧ (992 ≤ off ∧
      sw = 0x6A86 ∨ off < 992 ∧ (a.le = 0 ∨ 248 < a.le ∨ 992 < off + a.le) ∧
      sw = 0x6700) ∨ c = .tagUpdateBinary a ∧ s.hft.file = 3 ∧ sw = 0x6982 ∨ c = .tagUpdateBinary a ∧
      s.hft.file = 4 ∧ (992 ≤ off ∧ sw = 0x6A86 ∨ off < 992 ∧ (a.data = [] ∨ 992 < off + a.data.length) ∧
      sw = 0x6700) ∨ c = .getInfo a ∧ (off ≠ 0 ∧ sw = 0x6A86 ∨ off = 0 ∧ (a.data ≠ [] ∨ a.le ≠ 16) ∧
      sw = 0x6700) ∨ c = .readCounters a ∧ (off ≠ 0 ∧ sw = 0x6A86 ∨ off = 0 ∧ (a.data ≠ [] ∨ a.le ≠ 12) ∧
      sw = 0x6700) ∨ (c = .readRecord a ∨ c = .writeRecord a) ∧ 248 ≤ a.p2 ∧ sw = 0x6A86 ∨ c = .readRecord a ∧
      a.p2 < 248 ∧ (a.data ≠ [] ∨ a.le = 0 ∨ 248 < a.p2 + a.le) ∧ sw = 0x6700 ∨ c = .writeRecord a ∧ a.p2 < 248 ∧
      (a.data = [] ∨ 248 < a.p2 + a.data.length) ∧ sw = 0x6700 ∨ c = .readRecord a ∧ a.data = [] ∧ 1 ≤ a.le ∧
      a.p2 + a.le ≤ 248 ∧ s.readRefusal a.p1 = some sw ∨ c = .writeRecord a ∧ a.data ≠ [] ∧
      a.p2 + a.data.length ≤ 248 ∧ s.writeRefusal a.p1 = some sw ∨ c = .incCounter a ∧ ((3 < a.p1 ∨ a.p2 ≠ 0) ∧
      sw = 0x6A86 ∨ a.p1 ≤ 3 ∧ a.p2 = 0 ∧ (a.data ≠ [] ∨ a.le ≠ 3) ∧ sw = 0x6700 ∨ a.p1 ≤ 3 ∧ a.p2 = 0 ∧
      a.data = [] ∧ a.le = 3 ∧ (s.tgSt = tgOPEN ∨ 2 ≤ a.p1) ∧ sw = 0x6982))) ∧
    (∃ (s : State) (a : Apdu), s.tagFree ∧ a.data ≠ [] ∧ a.le ≤ 256 ∧ a.p2 + a.data.length ≤ 248 ∧
      s.writeRefusal a.p1 = none ∧ s.harvestOk a = true) ∧
    (∃ (s : State) (a : Apdu) (r : Nat) (d : List Nat) (rest : List (Nat × List Nat)), s.tagFree ∧ s.hft.file = 4 ∧
      a.data ≠ [] ∧ a.le ≤ 256 ∧ a.data.length ≤ 255 ∧ 256 * a.p1 + a.p2 + a.data.length ≤ 992 ∧ (∀ k, 1 ≤ k →
      k ≤ 4 → s.writeRefusal k = none) ∧ s.harvestOk a = true ∧ s.ndefWrites (256 * a.p1 + a.p2) a.data = (r,
      d) :: rest) ∧
    (∃ (s : State) (a : Apdu), s.tagFree ∧ s.harvestOk a = false ∧ a.data ≠ [] ∧ a.data.length ≤ 255 ∧ a.le ≤ 256) ∧
    (∃ (s : State) (a : Apdu), s.tgSt = tgINSTALLER ∧ s.wiredBusy = false ∧ a.p1 < 2 ∧ a.p2 = 0 ∧ a.data = [] ∧
      a.le = 3) ∧
    (∃ (s : State) (c : Commit), s.hft.commit = some c ∧ c.field = true ∧ c.slot.length = 256 ∧
      (s.recPrimary c.record).length = 256 ∧ s.bit PWR.STATE_DOM 3 = false) ∧
    (∃ (s : State) (c : Commit), s.hft.commit = some c ∧ c.field = false ∧ c.slot.length = 256 ∧ c.record < 256 ∧
      (s.recPrimary c.record).length = 256 ∧ s.bit PWR.STATE_DOM 3 = false ∧ s.hft.fieldWait = none) ∧
    (∃ (s : State), s.hft.commit = none) :=
  ⟨⟨State.reset, (.getInfo ({ ins := 0x10 } : Apdu)), ({ ins := 0x10 } : Apdu), by decide +kernel⟩,
   ⟨({ (wst [(HFT.STATE_TSTATE, 0, tgOPEN)]) with hft.wiredWait := some (0, false) } : State),
    (.getInfo ({ ins := 0x10 } : Apdu)), ({ ins := 0x10 } : Apdu), by decide +kernel⟩,
   ⟨({ ({ (wst [(HFT.STATE_TSTATE, 0, tgINSTALLER)]) with hft.commit := none } : State) with hft.wiredWait := none } : State),
    (.getInfo ({ ins := 0x10 } : Apdu)), ({ ins := 0x10 } : Apdu), by decide +kernel,
    by unfold State.tagFree; decide +kernel, by decide +kernel, by decide +kernel⟩,
   ⟨(({ ({ ({ (wst [(HFT.STATE_TSTATE, 0, tgFACTORY)]) with hft.commit := none } : State) with hft.wiredWait := none } : State) with hft.sk := List.replicate 16 3 } : State) : State),
    (.getInfo ({ ins := 0x10, data := (aesCmac (List.replicate 16 3) (toLe 2 0 ++ [0x90, 0x10, 0, 0])).take 8 } : Apdu)),
    ({ ins := 0x10, data := (aesCmac (List.replicate 16 3) (toLe 2 0 ++ [0x90, 0x10, 0, 0])).take 8 } : Apdu),
    ([] : List Nat), by decide +kernel⟩,
   ⟨(({ ({ ({ (wst [(HFT.STATE_TSTATE, 0, tgFACTORY)]) with hft.commit := none } : State) with hft.wiredWait := none } : State) with hft.sk := wKey } : State) : State),
    (.getInfo ({ ins := 0x10 } : Apdu)), ({ ins := 0x10 } : Apdu), rfl, by decide +kernel, by decide +kernel,
    by decide +kernel, by decide +kernel, fun d h => absurd (congrArg List.length h) (by simp [aesCmac_wKey])⟩,
   ⟨({ ({ (wst [(HFT.STATE_TSTATE, 0, tgINSTALLER)]) with hft.commit := none } : State) with hft.wiredWait := none } : State),
    ({ cla := 0x90, p2 := 0, data := [0xD2, 0x76, 0x00, 0x00, 0x85, 0x01, 0x01] } : Apdu),
    by unfold State.tagFree; decide +kernel, by decide +kernel, by decide +kernel, by decide +kernel⟩,
   ⟨({ ({ ({ (wst [(HFT.STATE_TSTATE, 0, tgINSTALLER)]) with hft.commit := none } : State) with hft.wiredWait := none } : State) with hft.app := true } : State),
    ({ cla := 0x90, p2 := 0x0C, data := [0xE1, 0x03] } : Apdu), by unfold State.tagFree; decide +kernel,
    by decide +kernel, by decide +kernel, by decide +kernel, by decide +kernel⟩,
   ⟨({ ({ ({ (wst [(HFT.STATE_TSTATE, 0, tgINSTALLER)]) with hft.commit := none } : State) with hft.wiredWait := none } : State) with hft.file := 3 } : State),
    ({ cla := 0x90, p1 := 0, le := 1 } : Apdu), by unfold State.tagFree; decide +kernel, by decide +kernel,
    by decide +kernel, by decide +kernel, by decide +kernel, by decide +kernel⟩,
   ⟨({ ({ ({ (wst [(HFT.STATE_TSTATE, 0, tgINSTALLER)]) with hft.commit := none } : State) with hft.wiredWait := none } : State) with hft.file := 4 } : State),
    ({ cla := 0x90, le := 1 } : Apdu), by unfold State.tagFree; decide +kernel, by decide +kernel,
    by decide +kernel, by decide +kernel, by decide +kernel, by decide +kernel, by decide +kernel⟩,
   ⟨({ ({ (wst [(HFT.STATE_TSTATE, 0, tgINSTALLER)]) with hft.commit := none } : State) with hft.wiredWait := none } : State),
    ({ cla := 0x90, p1 := 0, p2 := 0, data := [], le := 16 } : Apdu), by unfold State.tagFree; decide +kernel,
    by decide +kernel, by decide +kernel, by decide +kernel, by decide +kernel⟩,
   ⟨({ ({ (wst [(HFT.STATE_TSTATE, 0, tgINSTALLER)]) with hft.commit := none } : State) with hft.wiredWait := none } : State),
    ({ cla := 0x90, p1 := 0, p2 := 0, data := [], le := 12 } : Apdu), by unfold State.tagFree; decide +kernel,
    by decide +kernel, by decide +kernel, by decide +kernel, by decide +kernel⟩,
   ⟨({ ({ (wst [(HFT.STATE_TSTATE, 0, tgINSTALLER)]) with hft.commit := none } : State) with hft.wiredWait := none } : State),
    ({ cla := 0x90, data := [], le := 1 } : Apdu), by unfold State.tagFree; decide +kernel, by decide +kernel,
    by decide +kernel, by decide +kernel, by decide +kernel⟩,
   ⟨({ ({ (wst [(HFT.STATE_TSTATE, 0, tgINSTALLER)]) with hft.commit := none } : State) with hft.wiredWait := none } : State),
    (.tagSelectNdefApp ({ cla := 0, p2 := 1 } : Apdu)), ({ cla := 0, p2 := 1 } : Apdu), 1, 0x6A86,
    by unfold State.tagFree; decide +kernel, by decide +kernel, by decide +kernel, by decide +kernel, .inl ⟨rfl,
    .inl ⟨by decide, rfl⟩⟩⟩,
   ⟨({ ({ (wst [(HFT.STATE_TSTATE, 0, 6)]) with hft.commit := none } : State) with hft.wiredWait := none } : State),
    ({ ins := 0, p1 := 1, data := [1], vharv := 3000, avail := 3000 } : Apdu),
    by unfold State.tagFree; decide +kernel, by decide +kernel, by decide +kernel, by decide +kernel,
    by decide +kernel, by decide +kernel⟩,
   ⟨({ ({ ({ (wst [(HFT.STATE_TSTATE, 0, tgINSTALLER)]) with hft.commit := none } : State) with hft.wiredWait := none } : State) with hft.file := 4 } : State),
    ({ cla := 0, data := [1], vharv := 3000, avail := 3000 } : Apdu), 1,
    (slice (patch ((List.range 4).flatMap fun i => ({ ({ ({ (wst [(HFT.STATE_TSTATE, 0, tgINSTALLER)]) with hft.commit := none } : State) with hft.wiredWait := none } : State) with hft.file := 4 } : State).recData (i + 1)) 0 [1]) 0 248),
    ([] : List (Nat × List Nat)), by unfold State.tagFree; decide +kernel, by decide +kernel, by decide +kernel,
    by decide +kernel, by decide +kernel, by decide +kernel, by decide +kernel, by decide +kernel,
    by decide +kernel⟩,
   ⟨({ ({ (wst [(HFT.STATE_TSTATE, 0, tgINSTALLER)]) with hft.commit := none } : State) with hft.wiredWait := none } : State),
    ({ cla := 0x90, data := [1] } : Apdu), by unfold State.tagFree; decide +kernel, by decide +kernel,
    by decide +kernel, by decide +kernel, by decide +kernel⟩,
   ⟨({ ({ (wst [(HFT.STATE_TSTATE, 0, tgINSTALLER)]) with hft.commit := none } : State) with hft.wiredWait := none } : State),
    ({ vharv := 3000, avail := 3000, le := 3 } : Apdu), by decide +kernel⟩,
   ⟨({ State.reset with hft.commit := some ({ record := 0, gen := 1, slot := List.replicate 256 0, field := true, rest := [], answer := [] } : Commit) } : State),
    ({ record := 0, gen := 1, slot := List.replicate 256 0, field := true, rest := [], answer := [] } : Commit),
    by decide +kernel⟩,
   ⟨({ ({ (wst [(HFT.STATE_TSTATE, 0, 5)]) with hft.commit := some ({ record := 0, gen := 1, slot := List.replicate 256 0, field := false, rest := [], answer := [] } : Commit) } : State) with hft.fieldWait := none } : State),
    ({ record := 0, gen := 1, slot := List.replicate 256 0, field := false, rest := [], answer := [] } : Commit),
    by decide +kernel⟩,
   ⟨({ State.reset with hft.commit := none } : State), by decide +kernel⟩⟩

theorem witness_TagAuthenticationAndPassthrough :
    (∃ (s : State) (a : Apdu) (pw : List Nat), s.tagFree ∧ a.le ≤ 256 ∧ a.p1 = 0 ∧ a.p2 = 0 ∧
      s.get HFT.STATE_LOCKOUT = 0 ∧ a.data.length = 8 ∧ pw = (s.recData 0x20).take 8 ∧ s.hft.fails ≤ 8) ∧
    (∃ (s : State) (a : Apdu) (c : Instr), s.tagFree ∧ a.data.length ≤ 255 ∧ a.le ≤ 256 ∧ s.get HFT.STATE_LOCKOUT ≠ 0 ∧
      (c = .verify a ∨ c = .auth1 a ∨ c = .auth2 a)) ∧
    (∃ (s : State) (a : Apdu) (c : Instr) (sw : Nat), s.tagFree ∧ a.data.length ≤ 255 ∧ a.le ≤ 256 ∧
      s.get HFT.STATE_LOCKOUT = 0 ∧ (c = .verify a ∧ ((a.p1 ≠ 0 ∨ a.p2 ≠ 0) ∧ sw = 0x6A86 ∨ a.p1 = 0 ∧ a.p2 = 0 ∧
      a.data.length ≠ 8 ∧ sw = 0x6700) ∨ c = .auth1 a ∧ ((3 < a.p1 ∨ a.p2 ≠ 0) ∧ sw = 0x6A86 ∨ a.p1 ≤ 3 ∧
      a.p2 = 0 ∧ (a.data ≠ [] ∨ a.le ≠ 16) ∧ sw = 0x6700 ∨ a.p1 ≤ 3 ∧ a.p2 = 0 ∧ a.data = [] ∧ a.le = 16 ∧
      s.lc = lcRETIRED ∧ sw = 0x6985 ∨ a.p1 ≤ 3 ∧ a.p2 = 0 ∧ a.data = [] ∧ a.le = 16 ∧ s.lc ≠ lcRETIRED ∧
      s.obj 0x4105 (a.p1 + 1) [] = [] ∧ sw = 0x6A88) ∨ c = .auth2 a ∧ ((a.p1 ≠ 0 ∨ a.p2 ≠ 0) ∧
      sw = 0x6A86 ∨ a.p1 = 0 ∧ a.p2 = 0 ∧ s.hft.rndB = [] ∧ sw = 0x6985 ∨ a.p1 = 0 ∧ a.p2 = 0 ∧ s.hft.rndB ≠ [] ∧
      a.data.length ≠ 32 ∧ sw = 0x6700))) ∧
    (∃ (s : State) (a : Apdu) (key : List Nat), s.tagFree ∧ a.p1 ≤ 3 ∧ a.p2 = 0 ∧ a.data = [] ∧ a.le = 16 ∧
      s.get HFT.STATE_LOCKOUT = 0 ∧ s.lc ≠ lcRETIRED ∧ s.obj 0x4105 (a.p1 + 1) [] = key ∧ key ≠ []) ∧
    (∃ (s : State) (a : Apdu), s.tagFree ∧ a.le ≤ 256 ∧ a.p1 = 0 ∧ a.p2 = 0 ∧ s.get HFT.STATE_LOCKOUT = 0 ∧
      s.hft.rndB ≠ [] ∧ a.data.length = 32) ∧
    (∃ (s : State) (m : Master) (r : Nat), r < 256 ∧ s.get HFT.WSTAT_PENDING = 0 ∧ s.hft.commit = none ∧
      s.get HFT.STATE_GUARD = 0 ∧ (bitOf (s.rights r) 6 = false ∨ m ≠ .hostLink) ∧ s.hft.fieldWait = none) ∧
    (∃ (s : State) (r : Nat), r < 256 ∧ s.get HFT.WSTAT_PENDING = 0 ∧ s.hft.commit = none ∧ s.get HFT.STATE_GUARD = 0 ∧
      bitOf (s.rights r) 5 = false ∧ (bitOf (s.rights r) 4 = false ∨ s.lcSealed = false)) ∧
    (∃ (s : State) (m : Master) (r : Nat), r < 256 ∧ s.get HFT.WSTAT_PENDING = 0 ∧ bitOf (s.rights r) 6 = true ∧
      m = .hostLink) ∧
    (∃ (s : State) (r : Nat), r < 256 ∧ s.get HFT.WSTAT_PENDING = 0 ∧
      (bitOf (s.rights r) 5 = true ∨ bitOf (s.rights r) 4 = true ∧ s.lcSealed = true)) ∧
    (∃ (s : State), s.get HFT.WSTAT_PENDING ≠ 0) ∧
    (∃ (s : State) (r : Nat), r < 256 ∧ s.get HFT.WSTAT_PENDING = 0 ∧ s.hft.commit ≠ none) ∧
    (∃ (s : State) (r : Nat) (nw : Bool), r < 256 ∧ s.get HFT.WSTAT_PENDING = 0 ∧ (s.hft.commit ≠ none ∧
      nw = false ∨ s.hft.commit = none ∧ s.get HFT.STATE_GUARD ≠ 0)) ∧
    (∃ (s : State) (r : Nat), s.hft.wiredWait = some (r, true) ∧ s.hft.commit = none ∧ s.get HFT.STATE_GUARD = 0) ∧
    (∃ (s : State) (r : Nat), r < 256 ∧ s.hft.wiredWait = some (r, false) ∧ s.hft.commit = none ∧
      s.get HFT.STATE_GUARD = 0 ∧ s.hft.fieldWait = none) ∧
    (∃ (s : State), (s.hft.wiredWait = none ∨ s.hft.commit ≠ none ∨ s.get HFT.STATE_GUARD ≠ 0)) ∧
    (∃ (s : State) (a : Apdu), s.tagFree ∧ a.cla = 0x90 ∧ 0x80 ≤ a.ins ∧ a.ins ≤ 0xBF ∧ a.p1 < 256 ∧ a.p2 < 256 ∧
      a.data.length ≤ 255 ∧ a.le ≤ 256 ∧ (∀ x ∈ a.data, x < 256) ∧ s.get HFT.CTRL_PASS = 1 ∧
      s.bit PWR.STATE_DOM 3 = true) ∧
    (∃ (s : State) (a : Apdu) (n : Nat), s.tagFree ∧ a.cla = 0x90 ∧ 0x80 ≤ a.ins ∧ a.ins ≤ 0xBF ∧ a.data.length ≤ 255 ∧
      a.le ≤ 256 ∧ s.get HFT.CTRL_PASS = 2 ∧ s.bit PWR.STATE_DOM 3 = true ∧ s.get LSC.HF_STATE_HFT_HELD ≠ 0 ∧
      s.get LSC.HF_STATE_HFT_OWNER = n ∧ n < 16) ∧
    (∃ (s : State) (a : Apdu) (sw : Nat), s.tagFree ∧ a.data.length ≤ 255 ∧ a.le ≤ 256 ∧ (a.cla ≠ 0 ∧ a.cla ≠ 0x90 ∧
      sw = 0x6E00 ∨ a.cla = 0 ∧ a.ins ≠ 0xA4 ∧ a.ins ≠ 0xB0 ∧ a.ins ≠ 0xD6 ∧ sw = 0x6D00 ∨ a.cla = 0x90 ∧
      (0xBF < a.ins ∨ a.ins < 0x80 ∧ a.ins ∉ [0x10, 0x20, 0x30, 0x31, 0x40, 0x42, 0x44, 0x46]) ∧
      sw = 0x6D00 ∨ a.cla = 0x90 ∧ 0x80 ≤ a.ins ∧ a.ins ≤ 0xBF ∧
      ((s.get HFT.CTRL_PASS = 0 ∨ s.get HFT.CTRL_PASS = 3) ∧
      sw = 0x6D00 ∨ (s.get HFT.CTRL_PASS = 1 ∨ s.get HFT.CTRL_PASS = 2) ∧ s.bit PWR.STATE_DOM 3 = false ∧
      sw = 0x6F00 ∨ s.get HFT.CTRL_PASS = 2 ∧ s.get LSC.HF_STATE_HFT_HELD = 0 ∧ sw = 0x6F00))) ∧
    (∃ (s : State) (n : Nat), s.get HFT.PSTAT_PENDING ≠ 0 ∧ s.hft.passSeq = false ∧ 2 ≤ n ∧ n ≤ 258) ∧
    (∃ (s : State) (n : Nat), s.get HFT.PSTAT_PENDING ≠ 0 ∧ s.hft.passSeq = false ∧ s.hft.macCtr = none ∧ 2 ≤ n ∧
      n ≤ 258) ∧
    (∃ (s : State) (n : Nat), (s.get HFT.PSTAT_PENDING = 0 ∨ s.hft.passSeq = true ∨ n < 2 ∨ 258 < n)) ∧
    (∃ (s : State), s.get HFT.PSTAT_PENDING ≠ 0 ∧ s.hft.passSeq = false) ∧
    (∃ (s : State), s.get HFT.PSTAT_PENDING ≠ 0) ∧
    (∃ (s : State), (s.get HFT.PSTAT_PENDING = 0 ∨ s.hft.passSeq = true)) ∧
    (∃ (s : State), s.get HFT.PSTAT_PENDING = 0) :=
  ⟨⟨({ ({ (wst [(HFT.STATE_TSTATE, 0, tgINSTALLER), (HFT.STATE_LOCKOUT, 0, 0)]) with hft.commit := none } : State) with hft.wiredWait := none } : State),
    ({ cla := 0x90, p1 := 0, p2 := 0, data := List.replicate 8 0 } : Apdu), _,
    by unfold State.tagFree; decide +kernel, by decide +kernel, by decide +kernel, by decide +kernel,
    by decide +kernel, by decide +kernel, rfl, by decide +kernel⟩,
   ⟨({ ({ (wst [(HFT.STATE_TSTATE, 0, tgINSTALLER), (HFT.STATE_LOCKOUT, 0, 1)]) with hft.commit := none } : State) with hft.wiredWait := none } : State),
    ({ p1 := 1 } : Apdu), (.verify ({ p1 := 1 } : Apdu)), by unfold State.tagFree; decide +kernel,
    by decide +kernel, by decide +kernel, by decide +kernel, by decide +kernel⟩,
   ⟨({ ({ (wst [(HFT.STATE_TSTATE, 0, tgINSTALLER), (HFT.STATE_LOCKOUT, 0, 0)]) with hft.commit := none } : State) with hft.wiredWait := none } : State),
    ({ p1 := 1 } : Apdu), (.verify ({ p1 := 1 } : Apdu)), 0x6A86, by unfold State.tagFree; decide +kernel,
    by decide +kernel, by decide +kernel, by decide +kernel, by decide +kernel⟩,
   ⟨(({ ({ (wst [(HFT.STATE_TSTATE, 0, tgINSTALLER), (HFT.STATE_LOCKOUT, 0, 0)]) with hft.commit := none } : State) with hft.wiredWait := none } : State).setObj 0x4105 1 (List.replicate 16 3) : State),
    ({ le := 16 } : Apdu), (List.replicate 16 3), by unfold State.tagFree; decide +kernel, by decide +kernel,
    by decide +kernel, by decide +kernel, by decide +kernel, by decide +kernel, by decide +kernel,
    by decide +kernel, by decide +kernel⟩,
   ⟨((let s := ({ ({ (wst [(HFT.STATE_TSTATE, 0, tgINSTALLER), (HFT.STATE_LOCKOUT, 0, 0)]) with hft.commit := none } : State) with hft.wiredWait := none } : State); ({ s with hft.rndB := List.replicate 16 5, hft.key := List.replicate 16 3 } : State)) : State),
    ({ data := xorBytes (aesDec (List.replicate 16 3) (List.replicate 16 0)) (rot1 (List.replicate 16 5)) ++ List.replicate 16 0 } : Apdu),
    by unfold State.tagFree; decide +kernel, by decide +kernel, by decide +kernel, by decide +kernel,
    by decide +kernel, by decide +kernel, by decide +kernel⟩,
   ⟨({ ({ (wst [(HFT.WSTAT_PENDING, 0, 0), (HFT.STATE_GUARD, 0, 0)]) with hft.commit := none } : State) with hft.fieldWait := none } : State),
    Master.coreP, 0, by decide +kernel⟩,
   ⟨({ (wst [(HFT.WSTAT_PENDING, 0, 0), (HFT.STATE_GUARD, 0, 0)]) with hft.commit := none } : State), 1,
    by decide +kernel⟩,
   ⟨(wst [(HFT.WSTAT_PENDING, 0, 0)]), Master.hostLink, 0x10, by decide +kernel⟩,
   ⟨(wst [(HFT.WSTAT_PENDING, 0, 0)]), 0, by decide +kernel⟩,
   ⟨(wst [(HFT.WSTAT_PENDING, 0, 1)]), by decide +kernel⟩,
   ⟨((let s := (wst [(HFT.WSTAT_PENDING, 0, 0)]); ({ s with hft.commit := some { record := 0, gen := 1, slot := [], field := true, rest := [], answer := [] } } : State)) : State),
    1, by decide +kernel⟩,
   ⟨((let s := (wst [(HFT.WSTAT_PENDING, 0, 0)]); ({ s with hft.commit := some { record := 0, gen := 1, slot := [], field := true, rest := [], answer := [] } } : State)) : State),
    1, false, by decide +kernel⟩,
   ⟨({ ({ (wst [(HFT.STATE_GUARD, 0, 0)]) with hft.wiredWait := some (0, true) } : State) with hft.commit := none } : State),
    0, by decide +kernel⟩,
   ⟨({ ({ ({ (wst [(HFT.STATE_GUARD, 0, 0)]) with hft.wiredWait := some (0, false) } : State) with hft.commit := none } : State) with hft.fieldWait := none } : State),
    0, by decide +kernel⟩,
   ⟨({ State.reset with hft.wiredWait := none } : State), by decide +kernel⟩,
   ⟨({ ({ (wst [(HFT.STATE_TSTATE, 0, tgINSTALLER), (HFT.CTRL_PASS, 0, 1), (PWR.STATE_DOM, 0, 8)]) with hft.commit := none } : State) with hft.wiredWait := none } : State),
    ({ cla := 0x90, ins := 0x80 } : Apdu), by unfold State.tagFree; decide +kernel, by decide +kernel,
    by decide +kernel, by decide +kernel, by decide +kernel, by decide +kernel, by decide +kernel,
    by decide +kernel, by decide +kernel, by decide +kernel, by decide +kernel⟩,
   ⟨({ ({ (wst [(HFT.STATE_TSTATE, 0, tgINSTALLER), (HFT.CTRL_PASS, 0, 2), (LSC.HF_STATE_HFT_HELD, 0, 1), (LSC.HF_STATE_HFT_OWNER, 0, 0), (PWR.STATE_DOM, 0, 8)]) with hft.commit := none } : State) with hft.wiredWait := none } : State),
    ({ cla := 0x90, ins := 0x80 } : Apdu), 0, by unfold State.tagFree; decide +kernel, by decide +kernel,
    by decide +kernel, by decide +kernel, by decide +kernel, by decide +kernel, by decide +kernel,
    by decide +kernel, by decide +kernel, by decide +kernel, by decide +kernel⟩,
   ⟨({ ({ (wst [(HFT.STATE_TSTATE, 0, tgINSTALLER)]) with hft.commit := none } : State) with hft.wiredWait := none } : State),
    ({ cla := 1 } : Apdu), 0x6E00, by unfold State.tagFree; decide +kernel, by decide +kernel, by decide +kernel,
    by decide +kernel⟩,
   ⟨({ (wst [(HFT.PSTAT_PENDING, 0, 1)]) with hft.passSeq := false } : State), 2, by decide +kernel⟩,
   ⟨({ ({ (wst [(HFT.PSTAT_PENDING, 0, 1)]) with hft.passSeq := false } : State) with hft.macCtr := none } : State),
    2, by decide +kernel⟩,
   ⟨(wst [(HFT.PSTAT_PENDING, 0, 0)]), 0, by decide +kernel⟩,
   ⟨({ (wst [(HFT.PSTAT_PENDING, 0, 1)]) with hft.passSeq := false } : State), by decide +kernel⟩,
   ⟨(wst [(HFT.PSTAT_PENDING, 0, 1)]), by decide +kernel⟩,
   ⟨(wst [(HFT.PSTAT_PENDING, 0, 0)]), by decide +kernel⟩,
   ⟨(wst [(HFT.PSTAT_PENDING, 0, 0)]), by decide +kernel⟩⟩

theorem witness_AtbSourceEdgesAndHoldover :
    (∃ (s : State), s.get ATB.CTRL_EN = 0 ∧ s.get ATB.CTRL_SRC = 0 ∧ s.atbSt = abOFF ∧ (∀ k, k < 4 →
      s.runningSlot k = 0)) ∧
    (∃ (s : State), s.get ATB.CTRL_EN = 0 ∧ s.get ATB.CTRL_SRC = 1 ∧ s.atbSt = abOFF ∧ (∀ k, k < 4 →
      s.runningSlot k = 0) ∧ (s.atb.anchor = none ∨ s.get ATB.STATE_PTP_OK = 0)) ∧
    (∃ (s : State), s.get ATB.CTRL_EN ≠ 0) ∧
    (∃ (s : State), s.get ATB.CTRL_EN ≠ 0 ∧ s.atbSt ≠ abOFF ∧ (∀ k, k < 4 → s.runningSlot k = 0)) ∧
    (∃ (s : State), s.get ATB.CTRL_EN = 0) ∧
    (∃ (s : State) (src : Nat), s.get ATB.CTRL_EN ≠ 0 ∧ src % 2 ≠ s.get ATB.CTRL_SRC ∧ (∀ k, k < 4 →
      s.runningSlot k = 0)) ∧
    (∃ (s : State) (src : Nat), src % 2 = s.get ATB.CTRL_SRC) ∧
    (∃ (s : State) (src : Nat), src % 2 ≠ s.get ATB.CTRL_SRC ∧ s.get ATB.CTRL_EN = 0) ∧
    (∃ (s : State), (∀ k, k < 4 → s.runningSlot k = 0)) ∧
    (∃ (s : State) (rising : Bool) (held angle spacing p g : Nat) (err : Int), angle < 65536 ∧
      s.mainsPasses rising held = true ∧ (s.atbSt = abLOCKED ∨ s.atbSt = abHOLDOVER) ∧ s.get ATB.CTRL_SRC = 0 ∧
      (∀ k, k < 4 → s.runningSlot k = 0) ∧ p = spacing / max 1 ((2 * spacing + s.atbPeriod) / (2 * s.atbPeriod)) ∧
      err = angleErr angle s.atb.offApplied ∧ err.natAbs ≤ 1024 ∧ s.freqOk p = true ∧ p < 4294967296 ∧
      g = (if err.natAbs ≤ 16 then s.atb.goodEdges + 1 else 0)) ∧
    (∃ (s : State) (rising : Bool) (held angle spacing p : Nat), angle < 65536 ∧ s.mainsPasses rising held = true ∧
      (s.atbSt = abLOCKED ∨ s.atbSt = abHOLDOVER) ∧ s.get ATB.CTRL_SRC = 0 ∧
      p = spacing / max 1 ((2 * spacing + s.atbPeriod) / (2 * s.atbPeriod)) ∧
      1024 < (angleErr angle s.atb.offApplied).natAbs ∧ s.freqOk p = true) ∧
    (∃ (s : State) (rising : Bool) (held angle spacing p : Nat), angle < 65536 ∧ s.mainsPasses rising held = true ∧
      (s.atbSt = abLOCKED ∨ s.atbSt = abHOLDOVER) ∧ s.get ATB.CTRL_SRC = 0 ∧
      p = spacing / max 1 ((2 * spacing + s.atbPeriod) / (2 * s.atbPeriod)) ∧
      (angleErr angle s.atb.offApplied).natAbs ≤ 1024 ∧ s.freqOk p = false) ∧
    (∃ (s : State) (rising : Bool) (held angle spacing p : Nat), angle < 65536 ∧ s.mainsPasses rising held = true ∧
      (s.atbSt = abLOCKED ∨ s.atbSt = abHOLDOVER) ∧ s.get ATB.CTRL_SRC = 0 ∧
      p = spacing / max 1 ((2 * spacing + s.atbPeriod) / (2 * s.atbPeriod)) ∧
      1024 < (angleErr angle s.atb.offApplied).natAbs ∧ s.freqOk p = false) ∧
    (∃ (s : State) (rising : Bool) (held angle spacing g : Nat) (err : Int), angle < 65536 ∧
      s.mainsPasses rising held = true ∧ s.atbSt = abACQUIRE ∧ s.atb.acqStepped = true ∧ s.get ATB.CTRL_SRC = 0 ∧
      (∀ k, k < 4 → s.runningSlot k = 0) ∧ s.freqOk spacing = true ∧ spacing < 4294967296 ∧
      err = angleErr angle s.atb.offApplied ∧ g = (if err.natAbs ≤ 16 then s.atb.goodEdges + 1 else 0)) ∧
    (∃ (s : State) (rising : Bool) (held angle spacing : Nat), angle < 65536 ∧ s.mainsPasses rising held = true ∧
      s.get ATB.CTRL_SRC = 0 ∧ (s.atbSt = abFREE ∨ s.atbSt = abSYNTH ∨ s.atbSt = abACQUIRE ∧
      s.atb.acqStepped = false) ∧ (∀ k, k < 4 → s.runningSlot k = 0) ∧ s.freqOk spacing = true ∧
      spacing < 4294967296) ∧
    (∃ (s : State) (rising : Bool) (held spacing : Nat), s.mainsPasses rising held = true ∧ s.get ATB.CTRL_SRC = 0 ∧
      (s.atbSt = abACQUIRE ∨ s.atbSt = abFREE ∨ s.atbSt = abSYNTH) ∧ s.freqOk spacing = false) ∧
    (∃ (s : State) (rising : Bool) (held : Nat),
      (s.atbSt = abOFF ∨ s.get ATB.CTRL_SRC ≠ 0 ∨ s.mainsPasses rising held = false)) ∧
    (∃ (s : State), (s.atbSt = abLOCKED ∨ s.atbSt = abSYNTH ∧ s.get ATB.CTRL_SRC ≠ 0) ∧ (∀ k, k < 4 →
      s.runningSlot k = 0)) ∧
    (∃ (s : State), s.atbSt ≠ abLOCKED ∧ (s.atbSt ≠ abSYNTH ∨ s.get ATB.CTRL_SRC = 0)) ∧
    (∃ (s : State), s.atbSt = abHOLDOVER ∧ (s.get ATB.STATE_PTP_OK = 0 ∨ s.get ATB.CTRL_SRC ≠ 0) ∧ (∀ k, k < 4 →
      s.runningSlot k = 0)) ∧
    (∃ (s : State), s.atbSt = abHOLDOVER ∧ s.get ATB.CTRL_SRC = 0 ∧ s.get ATB.STATE_PTP_OK ≠ 0 ∧ (∀ k, k < 4 →
      s.runningSlot k = 0)) ∧
    (∃ (s : State), s.atbSt ≠ abHOLDOVER) :=
  ⟨⟨(wst [(ATB.CTRL_EN, 0, 0), (ATB.CTRL_SRC, 0, 0), (ATB.STATE_STATE, 0, abOFF)]), by decide +kernel⟩,
   ⟨({ (wst [(ATB.CTRL_EN, 0, 0), (ATB.CTRL_SRC, 0, 1), (ATB.STATE_STATE, 0, abOFF)]) with atb.anchor := none } : State),
    by decide +kernel⟩,
   ⟨(wst [(ATB.CTRL_EN, 0, 1)]), by decide +kernel⟩,
   ⟨(wst [(ATB.CTRL_EN, 0, 1), (ATB.STATE_STATE, 0, 2)]), by decide +kernel⟩,
   ⟨(wst [(ATB.CTRL_EN, 0, 0)]), by decide +kernel⟩,
   ⟨(wst [(ATB.CTRL_EN, 0, 1), (ATB.CTRL_SRC, 0, 0)]), 1, by decide +kernel⟩,
   ⟨State.reset, 0, by decide +kernel⟩,
   ⟨(wst [(ATB.CTRL_EN, 0, 0), (ATB.CTRL_SRC, 0, 0)]), 1, by decide +kernel⟩,
   ⟨State.reset, by decide +kernel⟩,
   ⟨(wst [(ATB.STATE_STATE, 0, abLOCKED), (ATB.CTRL_SRC, 0, 0), (ATB.CTRL_MPOL, 0, 0), (ATB.CTRL_NOM, 0, 0)]), true,
    100000, 0, 204800000, _, 1, (0 : Int), by decide +kernel, by decide +kernel, by decide +kernel,
    by decide +kernel, by decide +kernel, rfl, by decide +kernel, by decide +kernel, by decide +kernel,
    by decide +kernel, by decide +kernel⟩,
   ⟨(wst [(ATB.STATE_STATE, 0, abLOCKED), (ATB.CTRL_SRC, 0, 0), (ATB.CTRL_MPOL, 0, 0), (ATB.CTRL_NOM, 0, 0)]), true,
    100000, 2000, 204800000, _, by decide +kernel, by decide +kernel, by decide +kernel, by decide +kernel, rfl,
    by decide +kernel, by decide +kernel⟩,
   ⟨(wst [(ATB.STATE_STATE, 0, abLOCKED), (ATB.CTRL_SRC, 0, 0), (ATB.CTRL_MPOL, 0, 0), (ATB.CTRL_NOM, 0, 0)]), true,
    100000, 0, 300000000, _, by decide +kernel, by decide +kernel, by decide +kernel, by decide +kernel, rfl,
    by decide +kernel, by decide +kernel⟩,
   ⟨(wst [(ATB.STATE_STATE, 0, abLOCKED), (ATB.CTRL_SRC, 0, 0), (ATB.CTRL_MPOL, 0, 0), (ATB.CTRL_NOM, 0, 0)]), true,
    100000, 2000, 300000000, _, by decide +kernel, by decide +kernel, by decide +kernel, by decide +kernel, rfl,
    by decide +kernel, by decide +kernel⟩,
   ⟨({ (wst [(ATB.STATE_STATE, 0, abACQUIRE), (ATB.CTRL_SRC, 0, 0), (ATB.CTRL_MPOL, 0, 0), (ATB.CTRL_NOM, 0, 0)]) with atb.acqStepped := true } : State),
    true, 100000, 0, 204800000, 1, (0 : Int), by decide +kernel⟩,
   ⟨(wst [(ATB.CTRL_SRC, 0, 0), (ATB.STATE_STATE, 0, abFREE), (ATB.CTRL_MPOL, 0, 0), (ATB.CTRL_NOM, 0, 0)]), true,
    100000, 0, 204800000, by decide +kernel⟩,
   ⟨(wst [(ATB.CTRL_SRC, 0, 0), (ATB.STATE_STATE, 0, abACQUIRE), (ATB.CTRL_MPOL, 0, 0), (ATB.CTRL_NOM, 0, 0)]), true,
    100000, 0, by decide +kernel⟩,
   ⟨(wst [(ATB.STATE_STATE, 0, abOFF)]), false, 0, by decide +kernel⟩,
   ⟨(wst [(ATB.STATE_STATE, 0, abLOCKED)]), by decide +kernel⟩,
   ⟨State.reset, by decide +kernel⟩,
   ⟨(wst [(ATB.STATE_STATE, 0, abHOLDOVER), (ATB.STATE_PTP_OK, 0, 0)]), by decide +kernel⟩,
   ⟨(wst [(ATB.STATE_STATE, 0, abHOLDOVER), (ATB.CTRL_SRC, 0, 0), (ATB.STATE_PTP_OK, 0, 1)]), by decide +kernel⟩,
   ⟨State.reset, by decide +kernel⟩⟩

theorem witness_AtbBoundariesAndPlans :
    (∃ (s : State), s.atbSt ≠ abOFF ∧ (∀ k, k < 4 → s.runningSlot k = 0) ∧ s.atb.adjArmed = false ∧
      (s.get ATB.OFFSET_OFFSET = s.atb.offApplied ∨ s.get ATB.CTRL_SRC ≠ 0) ∧ s.get ATB.PLAN_CTRL_ARMED = 0) ∧
    (∃ (s : State), s.atbSt ≠ abOFF ∧ (∀ k, k < 4 → s.runningSlot k = 0) ∧ s.atb.adjArmed = false ∧
      (s.get ATB.OFFSET_OFFSET = s.atb.offApplied ∨ s.get ATB.CTRL_SRC ≠ 0) ∧ s.get ATB.PLAN_CTRL_ARMED = 1) ∧
    (∃ (s : State), s.atbSt ≠ abOFF ∧ (∀ k, k < 4 → s.runningSlot k = 0) ∧ s.atb.adjArmed = false ∧
      s.get ATB.OFFSET_OFFSET ≠ s.atb.offApplied ∧ s.get ATB.CTRL_SRC = 0) ∧
    (∃ (s : State), s.atbSt = abOFF) ∧
    (∃ (s : State), (s.atbSt = abOFF ∨ s.atbSt = abACQUIRE)) ∧
    (∃ (s : State), s.atbSt ≠ abOFF ∧ s.atbSt ≠ abACQUIRE ∧ s.get ATB.STATE_PTP_OK = 0) ∧
    (∃ (s : State) (ns : Nat), s.atbSt ≠ abOFF ∧ s.atbSt ≠ abACQUIRE ∧ s.get ATB.STATE_PTP_OK ≠ 0 ∧
      (∀ x ∈ s.atb.stamps, s.quarterCycle ((x : Int) - ns).natAbs = false)) ∧
    (∃ (s : State) (ns i : Nat), (s.atbSt = abLOCKED ∨ s.atbSt = abSYNTH ∨ s.get ATB.CTRL_SRC = 0 ∧
      (s.atbSt = abHOLDOVER ∨ s.atbSt = abFREE)) ∧ s.get ATB.STATE_PTP_OK ≠ 0 ∧ s.anchorFind ns = some i) ∧
    (∃ (s : State) (ns : Nat), s.atbSt = abLOCKED ∧ s.get ATB.STATE_PTP_OK ≠ 0 ∧ s.atb.stamps = [ns]) ∧
    (∃ (s : State), s.get ATB.PLAN_CTRL_ARMED ≠ 0) ∧
    (∃ (s : State) (c : Nat), s.get ATB.PLAN_CTRL_ARMED = 0 ∧
      s.planCheck (s.get ATB.PLAN_CTRL_SLOTS) (s.get ATB.PLAN_ACT_ACT_CYCLE) false = c) ∧
    (∃ (s : State), s.get ATB.PLAN_CTRL_ARMED = 0 ∧ 32 < s.get ATB.PLAN_CTRL_SLOTS) ∧
    (∃ (s : State), s.get ATB.PLAN_CTRL_ARMED = 0 ∧ s.get ATB.PLAN_CTRL_SLOTS = 0 ∧
      cycAfter (s.get ATB.PLAN_ACT_ACT_CYCLE) s.atb.cycle = true) ∧
    (∃ (s : State), s.get ATB.PLAN_ADDR_BANKSEL = 0 ∧ s.get ATB.PLAN_CTRL_ARMED = 0) ∧
    (∃ (s : State), (s.get ATB.PLAN_ADDR_BANKSEL ≠ 0 ∨ s.get ATB.PLAN_CTRL_ARMED ≠ 0)) ∧
    (∃ (s : State), s.odBar 0x2100 0 = odOK ∧ s.xferOpen 0x2100 0 = false ∧ s.get ATB.PLAN_CTRL_ARMED ≠ 0) ∧
    (∃ (s : State) (b : List Nat), s.odBar 0x2100 0 = odOK ∧ s.xferOpen 0x2100 0 = false ∧
      s.get ATB.PLAN_CTRL_ARMED = 0 ∧ (∀ r, tblRule 0x2100 = some r → s.tableAbort r b = 0) ∧ byteAt b 18 = 0 ∧
      le16 b 20 = s.siteId ∧ cycAfter (le32 b 24 % 4294967296) s.atb.cycle = true) :=
  ⟨⟨({ (wst [(ATB.STATE_STATE, 0, 2), (ATB.PLAN_CTRL_ARMED, 0, 0)]) with atb.adjArmed := false } : State),
    by decide +kernel⟩,
   ⟨({ (wst [(ATB.STATE_STATE, 0, 2), (ATB.PLAN_CTRL_ARMED, 0, 1)]) with atb.adjArmed := false } : State),
    by decide +kernel⟩,
   ⟨({ (wst [(ATB.STATE_STATE, 0, 2), (ATB.CTRL_SRC, 0, 0), (ATB.OFFSET_OFFSET, 0, 5)]) with atb.adjArmed := false } : State),
    by decide +kernel⟩,
   ⟨(wst [(ATB.STATE_STATE, 0, abOFF)]), by decide +kernel⟩,
   ⟨(wst [(ATB.STATE_STATE, 0, abOFF)]), by decide +kernel⟩,
   ⟨(wst [(ATB.STATE_STATE, 0, 2), (ATB.STATE_PTP_OK, 0, 0)]), by decide +kernel⟩,
   ⟨(wst [(ATB.STATE_STATE, 0, 2), (ATB.STATE_PTP_OK, 0, 1)]), 0, by decide +kernel⟩,
   ⟨(({ (wst [(ATB.STATE_STATE, 0, abLOCKED), (ATB.STATE_PTP_OK, 0, 1)]) with atb.stamps := [0] } : State) : State),
    0, 0, by decide +kernel⟩,
   ⟨({ (wst [(ATB.STATE_STATE, 0, abLOCKED), (ATB.STATE_PTP_OK, 0, 1)]) with atb.stamps := [0] } : State), 0,
    by decide +kernel⟩,
   ⟨(wst [(ATB.PLAN_CTRL_ARMED, 0, 1)]), by decide +kernel⟩,
   ⟨(wst [(ATB.PLAN_CTRL_ARMED, 0, 0)]), ((wst [(ATB.PLAN_CTRL_ARMED, 0, 0)]).planCheck ((wst [(ATB.PLAN_CTRL_ARMED, 0, 0)]).get ATB.PLAN_CTRL_SLOTS) ((wst [(ATB.PLAN_CTRL_ARMED, 0, 0)]).get ATB.PLAN_ACT_ACT_CYCLE) false),
    by decide +kernel⟩,
   ⟨(wst [(ATB.PLAN_CTRL_ARMED, 0, 0), (ATB.PLAN_CTRL_SLOTS, 0, 33)]), by decide +kernel⟩,
   ⟨(wst [(ATB.PLAN_CTRL_ARMED, 0, 0), (ATB.PLAN_CTRL_SLOTS, 0, 0), (ATB.PLAN_ACT_ACT_CYCLE, 0, 1)]),
    by decide +kernel⟩,
   ⟨(wst [(ATB.PLAN_ADDR_BANKSEL, 0, 0), (ATB.PLAN_CTRL_ARMED, 0, 0)]), by decide +kernel⟩,
   ⟨(wst [(ATB.PLAN_ADDR_BANKSEL, 0, 1)]), by decide +kernel⟩,
   ⟨(wst [(ATB.PLAN_CTRL_ARMED, 0, 1), (SYS.MODE_MODE, 0, 0)]), by decide +kernel⟩,
   ⟨(({ (wst [(ATB.PLAN_CTRL_ARMED, 0, 0), (SYS.MODE_MODE, 0, 0)]) with coreP.levels := [(0x21, 1)] } : State) : State),
    (tbl1 0x21 1 ([1, 0, 0, 0, 0, 0, 0, 0] ++ [1, 0, 0, 0] ++ [0, 0, 0, 0])), by decide +kernel⟩⟩

theorem witness_AtbSlotsAndEvents :
    (∃ (s : State) (k : Nat) (e : List Nat), e = slotWords s.atb.actWords k ∧ s.suppressed = false ∧ s.atbSt ≠ abOFF ∧
      k < s.atb.actSlots ∧ slDue e s.atb.cycle = true ∧ s.get ATB.PREP_PREP_LEAD ≤ slStart e ∧
      s.slotPrepped k s.atb.cycle = false ∧ s.slotSeen k = false ∧ s.atb.angle ≤ slStart e) ∧
    (∃ (s : State) (k : Nat) (e : List Nat), e = slotWords (s.planFor true).1 k ∧ s.suppressed = false ∧
      s.atbSt ≠ abOFF ∧ k < (s.planFor true).2 ∧ slDue e s.nextCycle = true ∧
      slStart e < s.get ATB.PREP_PREP_LEAD ∧ s.slotPrepped k s.nextCycle = false ∧
      (s.atb.actSlots ≤ k ∨ slDue (slotWords s.atb.actWords k) s.atb.cycle = false ∨ s.slotSeen k = true ∨ slStart (slotWords s.atb.actWords k) < s.get ATB.PREP_PREP_LEAD)) ∧
    (∃ (s : State), (s.suppressed = true ∨ s.atbSt = abOFF)) ∧
    (∃ (s : State) (k : Nat) (e : List Nat), e = slotWords s.atb.actWords k ∧ k < 32 ∧ s.suppressed = false ∧
      s.atbSt ≠ abOFF ∧ k < s.atb.actSlots ∧ slDue e s.atb.cycle = true ∧ s.slotSeen k = false ∧
      s.atb.angle ≤ slStart e ∧ (∀ c ∈ slChains e, (s.utxAt c).grantAsked = false) ∧
      (s.slotLeased (slSheaf e) k = true → slRole e ≠ roleLISTEN)) ∧
    (∃ (s : State) (k : Nat) (e : List Nat), e = slotWords s.atb.actWords k ∧ k < 32 ∧ s.suppressed = false ∧
      s.atbSt ≠ abOFF ∧ k < s.atb.actSlots ∧ slDue e s.atb.cycle = true ∧ s.slotSeen k = false ∧
      s.atb.angle = slStart e ∧ s.slotLeased (slSheaf e) k = false ∧ slCarries e = false) ∧
    (∃ (s : State) (k : Nat) (e : List Nat), e = slotWords s.atb.actWords k ∧ s.suppressed = true ∧ s.atbSt ≠ abOFF ∧
      k < s.atb.actSlots ∧ slDue e s.atb.cycle = true ∧ s.slotSeen k = false ∧ s.atb.angle ≤ slStart e) ∧
    (∃ (s : State) (k : Nat),
      (s.atb.actSlots ≤ k ∨ s.atbSt = abOFF ∨ s.slotSeen k = true ∨ slDue (slotWords s.atb.actWords k) s.atb.cycle = false ∨ slStart (slotWords s.atb.actWords k) < s.atb.angle)) ∧
    (∃ (s : State) (k : Nat) (e : List Nat), e = slotWords s.atb.actWords k ∧ s.runningSlot (slSheaf e) = k + 1 ∧ (∀ c,
      c < 4 → s.carrier c = false) ∧ slRole e ≠ roleLISTEN ∧ s.slotLeased (slSheaf e) k = false) ∧
    (∃ (s : State) (k : Nat) (e : List Nat), e = slotWords s.atb.actWords k ∧ s.runningSlot (slSheaf e) = k + 1 ∧ (∀ c,
      c < 4 → s.carrier c = false) ∧ s.slotLeased (slSheaf e) k = true) ∧
    (∃ (s : State) (k c : Nat) (e : List Nat), e = slotWords s.atb.actWords k ∧ s.runningSlot (slSheaf e) = k + 1 ∧
      c ∈ slChains e ∧ s.carrier c = true ∧ s.bit RGE.STATE_GRANT c = true ∧ s.slotLeased (slSheaf e) k = false) ∧
    (∃ (s : State) (k : Nat), s.runningSlot (slSheaf (slotWords s.atb.actWords k)) ≠ k + 1) ∧
    (∃ (s : State) (ch src ns : Nat) (rising : Bool), ch < 4 ∧ s.capSelects ch src rising ns = true) ∧
    (∃ (s : State) (ch src ns : Nat) (rising : Bool), ch < 4 ∧ s.capSelects ch src rising ns = false) ∧
    (∃ (s : State) (ev : Nat), ev < 8 ∧ (Tab.get 0 s.aev.mode ev = 1 ∨ Tab.get 0 s.aev.mode ev = 2) ∧ s.atbSt ≠ abOFF ∧
      Tab.get 0 s.aev.fired ev ≠ s.atb.cycle + 1) ∧
    (∃ (s : State) (ev : Nat), (s.aevReady ev = false ∨ s.atbSt = abOFF)) :=
  ⟨⟨(({ (wst [(ATB.STATE_STATE, 0, 4), (ATB.STATE_CYCLE_VALID, 0, 1), (ATB.PREP_PREP_LEAD, 0, 10)]) with atb.actWords := Tab.set 0 (Tab.set 0 [] 0 0x30002000) 1 0xC0000000, atb.actSlots := 1, atb.angle := 0x2000 } : State) : State),
    0, [0x30002000, 0xC0000000, 0, 0], by decide +kernel⟩,
   ⟨(({ (wst [(ATB.STATE_STATE, 0, 4), (ATB.STATE_CYCLE_VALID, 0, 1), (ATB.PREP_PREP_LEAD, 0, 0x2010)]) with atb.actWords := Tab.set 0 (Tab.set 0 [] 0 0x30002000) 1 0xC0000000, atb.actSlots := 1, atb.angle := 0x2000 } : State) : State),
    0, [0x30002000, 0xC0000000, 0, 0], by decide +kernel⟩,
   ⟨State.reset, by decide +kernel⟩,
   ⟨(({ (wst [(ATB.STATE_STATE, 0, 4), (ATB.STATE_CYCLE_VALID, 0, 1)]) with atb.actWords := Tab.set 0 (Tab.set 0 [] 0 0x30002000) 1 0xC0000000, atb.actSlots := 1, atb.angle := 0x2000 } : State) : State),
    0, [0x30002000, 0xC0000000, 0, 0], by decide +kernel⟩,
   ⟨(({ ({ (wst [(ATB.STATE_STATE, 0, 4), (ATB.STATE_CYCLE_VALID, 0, 1)]) with atb.angle := slStart [0x30002000, 0xC0000000, 0, 0] } : State) with atb.actWords := Tab.set 0 (Tab.set 0 [] 0 0x30002000) 1 0xC0000000, atb.actSlots := 1, atb.angle := 0x2000 } : State) : State),
    0, [0x30002000, 0xC0000000, 0, 0], by decide +kernel⟩,
   ⟨(({ (wst [(ATB.STATE_STATE, 0, 1)]) with atb.actWords := Tab.set 0 (Tab.set 0 [] 0 0x30002000) 1 0xC0000000, atb.actSlots := 1, atb.angle := 0x2000 } : State) : State),
    0, [0x30002000, 0xC0000000, 0, 0], by decide +kernel⟩,
   ⟨State.reset, 0, by decide +kernel⟩,
   ⟨(({ (wst [(ATB.STATE_STATE, 0, 4), (ATB.STATE_CYCLE_VALID, 0, 1)]) with atb.actWords := Tab.set 0 (Tab.set 0 [] 0 0x30002000) 1 0x80000000, atb.actSlots := 1, atb.angle := 0x3000, atb.running := [(0, 1)] } : State) : State),
    0, [0x30002000, 0x80000000, 0, 0], by decide +kernel⟩,
   ⟨(({ (wst [(SHF.LEASE_STATE_HELD, 0, 1)]) with atb.actWords := Tab.set 0 (Tab.set 0 [] 0 0x30002000) 1 0xC0000000, atb.actSlots := 1, atb.angle := 0x2000, atb.running := [(0, 1)] } : State) : State),
    0, [0x30002000, 0xC0000000, 0, 0], by decide +kernel⟩,
   ⟨(({ (wst [(UTX.STATE_CARRIER, 0, 1), (RGE.STATE_GRANT, 0, 1)]) with atb.actWords := Tab.set 0 (Tab.set 0 [] 0 0x30002000) 1 0x00000400, atb.actSlots := 1, atb.angle := 0x2000, atb.running := [(0, 1)] } : State) : State),
    0, 0, [0x30002000, 0x00000400, 0, 0], by decide +kernel⟩,
   ⟨State.reset, 0, by decide +kernel⟩,
   ⟨(wst [(ATB.CAP_CFG_SRC0, 0, 1), (ATB.CAP_CFG_EDGE0, 0, 1)]), 0, 1, 1000000, true, by decide +kernel⟩,
   ⟨State.reset, 0, 0, 0, false, by decide +kernel⟩,
   ⟨(({ (wst [(ATB.STATE_STATE, 0, 2)]) with aev.mode := [(0, 1)] } : State) : State), 0, by decide +kernel⟩,
   ⟨(({ State.reset with aev.mode := [(0, 1)], aev.fired := [(0, 1)] } : State) : State), 0, by decide +kernel⟩⟩

theorem witness_CycleAdjustAtTheNextBoundary :
    (∃ (s : State), s.atbSt ≠ abOFF ∧ s.atb.adjArmed = true) ∧
    (∃ (s : State), s.atbSt ≠ abOFF ∧ s.atb.adjArmed = true ∧ s.get ATB.CYCLE_ADJ_DELTA = 0 ∧
      s.get ATB.OFFSET_OFFSET = s.atb.offApplied ∧ (∀ k, k < 4 → s.runningSlot k = 0)) :=
  ⟨⟨({ (wst [(ATB.STATE_STATE, 0, 2)]) with atb.adjArmed := true } : State), by decide +kernel⟩,
   ⟨({ (wst [(ATB.STATE_STATE, 0, 2), (ATB.CYCLE_ADJ_DELTA, 0, 0)]) with atb.adjArmed := true } : State),
    by decide +kernel⟩⟩

theorem witness_LevelCurveAndDali :
    (∃ (v : Nat), 65536 ≤ v ∧ v < 4294967296) ∧
    (∃ (v : Nat), v < 65536) ∧
    (∃ (s : State) (l : Nat), s.get LUM.OUT_NOW ≠ s.lumTarget ∧ s.get LUM.LEVEL_FADE_RATE ≠ 0 ∧
      l = (if s.get LUM.OUT_NOW < s.lumTarget then min s.lumTarget (s.get LUM.OUT_NOW + s.get LUM.LEVEL_FADE_RATE) else max s.lumTarget (s.get LUM.OUT_NOW - s.get LUM.LEVEL_FADE_RATE))) ∧
    (∃ (s : State), s.get LUM.OUT_NOW ≠ s.lumTarget ∧ s.get LUM.LEVEL_FADE_RATE = 0) ∧
    (∃ (s : State), s.get LUM.OUT_NOW = s.lumTarget) ∧
    (∃ (s : State), s.get LUM.OUT_NOW = s.lumTarget) ∧
    (∃ (s : State), s.get LUM.OUT_NOW ≠ s.lumTarget) ∧
    (∃ (s : State) (v : Nat), s.get LUM.DALI_RX_BUSY = 0 ∧ 2147483648 ≤ v ∧ v < 4294967296) ∧
    (∃ (s : State) (v : Nat), s.get LUM.DALI_RX_BUSY ≠ 0 ∧ 2147483648 ≤ v ∧ v < 4294967296) ∧
    (∃ (v : Nat), v < 2147483648) ∧
    (∃ (s : State), s.lum.sending = true) ∧
    (∃ (s : State), s.lum.sending = false) ∧
    (∃ (s : State), s.lum.sending = true ∧ s.lum.again = true) ∧
    (∃ (s : State), s.lum.sending = true ∧ s.lum.again = false ∧ s.lum.auto = false ∧ s.get LUM.DALI_CMD_EXPECT = 1) ∧
    (∃ (s : State), s.lum.sending = true ∧ s.lum.again = false ∧ (s.get LUM.DALI_CMD_EXPECT = 0 ∨ s.lum.auto = true)) ∧
    (∃ (s : State), s.lum.window = true) ∧
    (∃ (s : State), s.lum.window = true) ∧
    (∃ (s : State), s.lum.window = true) ∧
    (∃ (s : State), s.lum.window = false) ∧
    (∃ (s : State) (a : Nat), s.lum.queued = some a ∧ s.get LUM.DALI_RX_BUSY = 0) ∧
    (∃ (s : State), (s.lum.queued = none ∨ s.get LUM.DALI_RX_BUSY ≠ 0)) :=
  ⟨⟨65536, by decide +kernel⟩,
   ⟨0, by decide +kernel⟩,
   ⟨(wst [(LUM.LEVEL_FADE_RATE, 0, 1), (LUM.LEVEL_TARGET, 0, 1000)]), _, by decide +kernel, by decide +kernel, rfl⟩,
   ⟨(wst [(LUM.LEVEL_FADE_RATE, 0, 0), (LUM.OUT_NOW, 0, 1000), (LUM.LEVEL_TARGET, 0, 0)]), by decide +kernel⟩,
   ⟨State.reset, by decide +kernel⟩,
   ⟨State.reset, by decide +kernel⟩,
   ⟨(wst [(LUM.OUT_NOW, 0, 1000), (LUM.LEVEL_TARGET, 0, 0)]), by decide +kernel⟩,
   ⟨(wst [(LUM.DALI_RX_BUSY, 0, 0)]), 2147483648, by decide +kernel⟩,
   ⟨(wst [(LUM.DALI_RX_BUSY, 0, 1)]), 2147483648, by decide +kernel⟩,
   ⟨0, by decide +kernel⟩,
   ⟨({ State.reset with lum.sending := true } : State), by decide +kernel⟩,
   ⟨({ State.reset with lum.sending := false } : State), by decide +kernel⟩,
   ⟨({ ({ State.reset with lum.sending := true } : State) with lum.again := true } : State), by decide +kernel⟩,
   ⟨({ ({ ({ (wst [(LUM.DALI_CMD_EXPECT, 0, 1)]) with lum.sending := true } : State) with lum.again := false } : State) with lum.auto := false } : State),
    by decide +kernel⟩,
   ⟨({ ({ (wst [(LUM.DALI_CMD_EXPECT, 0, 0)]) with lum.sending := true } : State) with lum.again := false } : State),
    by decide +kernel⟩,
   ⟨({ State.reset with lum.window := true } : State), by decide +kernel⟩,
   ⟨({ State.reset with lum.window := true } : State), by decide +kernel⟩,
   ⟨({ State.reset with lum.window := true } : State), by decide +kernel⟩,
   ⟨({ State.reset with lum.window := false } : State), by decide +kernel⟩,
   ⟨({ (wst [(LUM.DALI_RX_BUSY, 0, 0)]) with lum.queued := some 0 } : State), 0, by decide +kernel⟩,
   ⟨({ State.reset with lum.queued := none } : State), by decide +kernel⟩⟩

theorem witness_FailsafeAndSensors :
    (∃ (s : State), s.mode ≠ mdFAILSAFE ∧ s.get LUM.FS_CTRL_FORCE = 0 ∧ s.lum.kicked = true) ∧
    (∃ (s : State) (m : Master),
      (m ≠ .coreA ∨ s.mode = mdFAILSAFE ∨ s.get LUM.FS_CTRL_FORCE ≠ 0 ∨ s.lum.kicked = false)) ∧
    (∃ (s : State), s.get LUM.FS_CTRL_ENGAGED = 0) ∧
    (∃ (s : State), s.get LUM.FS_CTRL_ENGAGED ≠ 0) ∧
    (∃ (s : State), s.get LUM.FS_CTRL_KA_MS ≠ 0 ∧ s.get LUM.FS_CTRL_ENGAGED = 0) ∧
    (∃ (s : State), (s.get LUM.FS_CTRL_KA_MS = 0 ∨ s.get LUM.FS_CTRL_ENGAGED ≠ 0)) ∧
    (∃ (s : State) (r pa : Nat), r < 4 ∧ pa < 16777216 ∧ (s.lum.pdLeft = some 0 ∨ s.atbSt = abOFF)) ∧
    (∃ (s : State), s.lum.pdLeft ≠ some 0 ∧ s.atbSt ≠ abOFF) ∧
    (∃ (s : State) (f : Nat), s.get LUM.PIR_CFG_EN ≠ 0 ∧ s.lum.disarmed = false ∧
      s.get LUM.PIR_CFG_THR ≤ (sint 16 f).natAbs) ∧
    (∃ (s : State) (f : Nat),
      (s.lum.disarmed = true ∨ (sint 16 f).natAbs < s.get LUM.PIR_CFG_THR ∨ s.get LUM.PIR_CFG_EN = 0)) ∧
    (∃ (s : State) (f : Nat), s.get LUM.PIR_CFG_EN ≠ 0 ∧ s.lum.disarmed = true ∧
      (sint 16 f).natAbs < s.get LUM.PIR_CFG_THR) ∧
    (∃ (s : State) (f : Nat),
      (s.lum.disarmed = false ∨ s.get LUM.PIR_CFG_THR ≤ (sint 16 f).natAbs ∨ s.get LUM.PIR_CFG_EN = 0)) :=
  ⟨⟨({ (wst [(SYS.MODE_MODE, 0, 0), (LUM.FS_CTRL_FORCE, 0, 0)]) with lum.kicked := true } : State), by decide +kernel⟩,
   ⟨State.reset, Master.coreP, by decide +kernel⟩,
   ⟨(wst [(LUM.FS_CTRL_ENGAGED, 0, 0)]), by decide +kernel⟩,
   ⟨(wst [(LUM.FS_CTRL_ENGAGED, 0, 1)]), by decide +kernel⟩,
   ⟨(wst [(LUM.FS_CTRL_KA_MS, 0, 1), (LUM.FS_CTRL_ENGAGED, 0, 0)]), by decide +kernel⟩,
   ⟨(wst [(LUM.FS_CTRL_KA_MS, 0, 0)]), by decide +kernel⟩,
   ⟨({ State.reset with lum.pdLeft := some 0 } : State), 0, 0, by decide +kernel⟩,
   ⟨(wst [(ATB.STATE_STATE, 0, 2)]), by decide +kernel⟩,
   ⟨({ (wst [(LUM.PIR_CFG_EN, 0, 1)]) with lum.disarmed := false } : State), 0x7FFF, by decide +kernel⟩,
   ⟨({ State.reset with lum.disarmed := true } : State), 0, by decide +kernel⟩,
   ⟨({ (wst [(LUM.PIR_CFG_EN, 0, 1)]) with lum.disarmed := true } : State), 0, by decide +kernel⟩,
   ⟨({ State.reset with lum.disarmed := false } : State), 0, by decide +kernel⟩⟩

theorem witness_MemoryPortCommands :
    (∃ (s : State) (v sel a n : Nat) (b : List Nat), 2147483648 ≤ v ∧ v < 4294967296 ∧ s.get MPT.STATE_BUSY = 0 ∧
      s.get MPT.CTRL_EN ≠ 0 ∧ sel = bits v 27 26 ∧ a = s.get MPT.IND_ADDR_ADDR ∧
      n = min 256 (s.get MPT.IND_FMT_LEN) ∧ (bits v 28 28 = 1 → ∀ g ∈ s.touched sel a n, a % 16 = 0 ∧ n % 16 = 0 ∧
      g.first ≤ a ∧ a + n ≤ g.stop) ∧
      b = (if bits v 28 28 = 1 then s.throughRegions sel a (s.ibufBytes n) else s.ibufBytes n)) ∧
    (∃ (s : State) (v sel a n : Nat), 2147483648 ≤ v ∧ v < 4294967296 ∧ s.get MPT.STATE_BUSY = 0 ∧
      s.get MPT.CTRL_EN ≠ 0 ∧ sel = bits v 27 26 ∧ a = s.get MPT.IND_ADDR_ADDR ∧
      n = min 256 (s.get MPT.IND_FMT_LEN) ∧ bits v 28 28 = 1 ∧ (∃ g ∈ s.touched sel a n, ¬(a % 16 = 0 ∧
      n % 16 = 0 ∧ g.first ≤ a ∧ a + n ≤ g.stop))) ∧
    (∃ (s : State) (v : Nat), 2147483648 ≤ v ∧ v < 4294967296 ∧ (s.get MPT.STATE_BUSY ≠ 0 ∨ s.get MPT.CTRL_EN = 0)) ∧
    (∃ (v : Nat), v < 2147483648) ∧
    (∃ (s : State) (d b : List Nat), s.onInd = true ∧ s.get MPT.IND_CMD_WRITE = 0 ∧
      d.length = min 256 (s.get MPT.IND_FMT_LEN) ∧ (∀ x ∈ d, x < 256) ∧
      b = (if s.get MPT.IND_CMD_ADDR = 0 then d else s.throughRegions (s.get MPT.IND_CMD_SEL) (s.get MPT.IND_ADDR_ADDR) d) ∧
      b.length = d.length ∧ (∀ x ∈ b, x < 256)) ∧
    (∃ (s : State), s.onInd = true ∧ s.get MPT.IND_CMD_WRITE ≠ 0) ∧
    (∃ (s : State), s.onInd = false) ∧
    (∃ (s : State) (st : Nat), s.get MPT.STATE_BUSY ≠ 0 ∧ s.mpt.dataDone = true ∧ s.mpt.txn = none ∧
      (st % 256).land (s.get MPT.POLL_CFG_MASK) = s.get MPT.POLL_CFG_MATCH) ∧
    (∃ (s : State) (st : Nat), s.get MPT.STATE_BUSY ≠ 0 ∧ s.mpt.dataDone = true ∧ s.mpt.txn = none ∧
      (st % 256).land (s.get MPT.POLL_CFG_MASK) ≠ s.get MPT.POLL_CFG_MATCH) ∧
    (∃ (s : State), (s.get MPT.STATE_BUSY = 0 ∨ s.mpt.dataDone = false ∨ s.mpt.txn ≠ none)) ∧
    (∃ (s : State), s.get MPT.STATE_BUSY ≠ 0 ∧ s.mpt.dataDone = true) ∧
    (∃ (s : State), (s.mpt.dataDone = false ∨ s.get MPT.STATE_BUSY = 0)) ∧
    (∃ (s : State) (f : Nat × Nat) (r : List (Nat × Nat)), s.onFill = true ∧ s.mpt.fills = f :: r) ∧
    (∃ (s : State), s.onFill = false ∧ s.get MPT.STATE_BUSY ≠ 0 ∧ s.mpt.fills = []) ∧
    (∃ (s : State), s.onFill = false ∧ s.get MPT.STATE_BUSY = 0 ∧
      (s.get GRN.STATE_STATE = 2 ∨ s.get GRN.STATE_STATE = 4)) ∧
    (∃ (s : State), s.onFill = false ∧ s.get MPT.STATE_BUSY = 0 ∧ s.get GRN.STATE_STATE ≠ 2 ∧ s.get GRN.STATE_STATE ≠ 4) ∧
    (∃ (s : State) (k : Nat), k < 64 ∧ s.get MPT.STATE_BUSY = 0) ∧
    (∃ (s : State) (a : Nat), a < 256 ∧ s.get MPT.STATE_BUSY = 0) ∧
    (∃ (s : State), s.get MPT.STATE_BUSY ≠ 0) ∧
    (∃ (s : State) (m : Master) (a : Nat) (c : CacheLine), (m = .coreA ∨ m = .coreB ∨ m = .coreP) ∧ 0x80000000 ≤ a ∧
      a < 0x100000000 ∧ a % 4 = 0 ∧ s.get MPT.CTRL_EN ≠ 0 ∧ s.get MPT.CTRL_XIP_EN ≠ 0 ∧
      s.get MPT.XWIN_EN ((a - 0x80000000) / 0x20000000) ≠ 0 ∧
      (s.xipMap a).2 < 2 ^ s.get MPT.SEL_CFG_SIZE (s.xipMap a).1 ∧ s.bit MPT.STATE_POLLING (s.xipMap a).1 = false ∧
      s.get MPT.CTRL_CACHE_EN ≠ 0 ∧
      (Tab.get [] s.mpt.cache ((s.xipMap a).2 / 64 % 256)).find? (fun c => c.sel == (s.xipMap a).1 && c.line == (s.xipMap a).2 / 64) = some c) ∧
    (∃ (s : State) (m : Master) (a : Nat), (m = .coreA ∨ m = .coreB ∨ m = .coreP) ∧ 0x80000000 ≤ a ∧ a < 0x100000000 ∧
      a % 4 = 0 ∧ s.get MPT.CTRL_EN ≠ 0 ∧ s.get MPT.CTRL_XIP_EN ≠ 0 ∧
      s.get MPT.XWIN_EN ((a - 0x80000000) / 0x20000000) ≠ 0 ∧
      (s.xipMap a).2 < 2 ^ s.get MPT.SEL_CFG_SIZE (s.xipMap a).1 ∧ s.bit MPT.STATE_POLLING (s.xipMap a).1 = false ∧
      (s.get MPT.CTRL_CACHE_EN = 0 ∨ (Tab.get [] s.mpt.cache ((s.xipMap a).2 / 64 % 256)).find? (fun c => c.sel == (s.xipMap a).1 && c.line == (s.xipMap a).2 / 64) = none)) ∧
    (∃ (s : State) (m : Master) (a : Nat), (m = .coreA ∨ m = .coreB ∨ m = .coreP) ∧ 0x80000000 ≤ a ∧ a < 0x100000000 ∧
      a % 4 = 0 ∧
      (s.get MPT.CTRL_EN = 0 ∨ s.get MPT.CTRL_XIP_EN = 0 ∨ s.get MPT.XWIN_EN ((a - 0x80000000) / 0x20000000) = 0 ∨ 2 ^ s.get MPT.SEL_CFG_SIZE (s.xipMap a).1 ≤ (s.xipMap a).2)) ∧
    (∃ (s : State) (m : Master) (a : Nat), (m = .coreA ∨ m = .coreB ∨ m = .coreP) ∧ 0x80000000 ≤ a ∧ a < 0x100000000 ∧
      a % 4 = 0 ∧ s.get MPT.CTRL_EN ≠ 0 ∧ s.get MPT.CTRL_XIP_EN ≠ 0 ∧
      s.get MPT.XWIN_EN ((a - 0x80000000) / 0x20000000) ≠ 0 ∧
      (s.xipMap a).2 < 2 ^ s.get MPT.SEL_CFG_SIZE (s.xipMap a).1 ∧ s.bit MPT.STATE_POLLING (s.xipMap a).1 = true) ∧
    (∃ (a : Nat), 0x80000000 ≤ a ∧ a < 0x100000000 ∧ a % 4 = 0) ∧
    (∃ (a : Nat), 0x80000000 ≤ a ∧ a < 0x100000000 ∧ a % 4 = 0) ∧
    (∃ (a : Nat), (a < 0x80000000 ∨ 0x100000000 ≤ a ∨ a % 4 ≠ 0)) ∧
    (∃ (s : State) (f : Nat × Nat) (r : List (Nat × Nat)) (l b : List Nat), s.mpt.fills = f :: r ∧ s.onFill = true ∧
      l.length = 64 ∧ (∀ x ∈ l, x < 256) ∧ b = s.throughRegions (s.xipMap f.2).1 ((s.xipMap f.2).2 / 64 * 64) l) ∧
    (∃ (s : State), (s.mpt.fills = [] ∨ s.onFill = false)) ∧
    (∃ (n : Nat), n < 4) ∧
    (∃ (s : State) (v : Nat), (s.region (s.get MPT.RSEL_REGION)).en = true ∧ bitOf v 31 = true ∧ v < 4294967296) ∧
    (∃ (v : Nat), bitOf v 31 = false ∧ v < 4294967296) ∧
    (∃ (s : State) (v : Nat) (g : MptRegion),
      g = { s.region (s.get MPT.RSEL_REGION) with cfg := bits v 31 28 * 2 ^ 28 + v % 256 } ∧
      (s.region (s.get MPT.RSEL_REGION)).en = false ∧ bitOf v 31 = true ∧ v < 4294967296 ∧
      s.regionRefuse (s.get MPT.RSEL_REGION) g = 0) ∧
    (∃ (s : State) (v c : Nat) (g : MptRegion),
      g = { s.region (s.get MPT.RSEL_REGION) with cfg := bits v 31 28 * 2 ^ 28 + v % 256 } ∧
      (s.region (s.get MPT.RSEL_REGION)).en = false ∧ bitOf v 31 = true ∧ v < 4294967296 ∧
      s.regionRefuse (s.get MPT.RSEL_REGION) g = c ∧ c ≠ 0) :=
  ⟨⟨(wst [(MPT.STATE_BUSY, 0, 0), (MPT.CTRL_EN, 0, 1)]), 2147483648, (bits 2147483648 27 26), 0, 0, ([] : List Nat),
    by decide +kernel⟩,
   ⟨(({ (wst [(MPT.STATE_BUSY, 0, 0), (MPT.CTRL_EN, 0, 1), (MPT.IND_ADDR_ADDR, 0, 1), (MPT.IND_FMT_LEN, 0, 0)]) with mpt.regions := [(0, { cfg := 0x80000000, start := 0, last := 100 })] } : State) : State),
    2415919104, 0, 1, 0, by decide +kernel⟩,
   ⟨(wst [(MPT.STATE_BUSY, 0, 1)]), 2147483648, by decide +kernel⟩,
   ⟨0, by decide +kernel⟩,
   ⟨(({ (wst [(MPT.IND_CMD_WRITE, 0, 0), (MPT.IND_FMT_LEN, 0, 0), (MPT.IND_CMD_ADDR, 0, 0)]) with mpt.txn := some { fill := false } } : State) : State),
    ([] : List Nat), ([] : List Nat), by decide +kernel⟩,
   ⟨(({ (wst [(MPT.IND_CMD_WRITE, 0, 1), (MPT.IND_FMT_LEN, 0, 0)]) with mpt.txn := some { fill := false } } : State) : State),
    by decide +kernel⟩,
   ⟨State.reset, by decide +kernel⟩,
   ⟨({ ({ (wst [(MPT.STATE_BUSY, 0, 1)]) with mpt.dataDone := true } : State) with mpt.txn := none } : State), 0,
    by decide +kernel⟩,
   ⟨({ ({ (wst [(MPT.STATE_BUSY, 0, 1), (MPT.POLL_CFG_MASK, 0, 1), (MPT.POLL_CFG_MATCH, 0, 1)]) with mpt.dataDone := true } : State) with mpt.txn := none } : State),
    0, by decide +kernel⟩,
   ⟨(wst [(MPT.STATE_BUSY, 0, 0), (MPT.POLL_CFG_MASK, 0, 1), (MPT.POLL_CFG_MATCH, 0, 1)]), by decide +kernel⟩,
   ⟨({ (wst [(MPT.STATE_BUSY, 0, 1)]) with mpt.dataDone := true } : State), by decide +kernel⟩,
   ⟨({ State.reset with mpt.dataDone := false } : State), by decide +kernel⟩,
   ⟨(({ ({ State.reset with mpt.fills := (0, 0) :: ([] : List (Nat × Nat)) } : State) with mpt.fills := [(0, 0)], mpt.txn := some { fill := true } } : State) : State),
    (0, 0), ([] : List (Nat × Nat)), by decide +kernel⟩,
   ⟨({ (wst [(MPT.STATE_BUSY, 0, 1)]) with mpt.fills := [] } : State), by decide +kernel⟩,
   ⟨(wst [(MPT.STATE_BUSY, 0, 0), (GRN.STATE_STATE, 0, 2)]), by decide +kernel⟩,
   ⟨(wst [(MPT.STATE_BUSY, 0, 0), (GRN.STATE_STATE, 0, 5)]), by decide +kernel⟩,
   ⟨(wst [(MPT.STATE_BUSY, 0, 0)]), 0, by decide +kernel⟩,
   ⟨(wst [(MPT.STATE_BUSY, 0, 0)]), 0, by decide +kernel⟩,
   ⟨(wst [(MPT.STATE_BUSY, 0, 1)]), by decide +kernel⟩,
   ⟨(({ (wst [(MPT.CTRL_EN, 0, 1), (MPT.CTRL_XIP_EN, 0, 1), (MPT.CTRL_CACHE_EN, 0, 1), (MPT.XWIN_EN, 0, 1), (MPT.SEL_CFG_SIZE, 0, 16)]) with mpt.cache := [(0, [{ sel := 0, line := 0, data := List.replicate 64 7 }])] } : State) : State),
    Master.coreP, 0x80000004, ({ sel := 0, line := 0, data := List.replicate 64 7 } : CacheLine), by decide +kernel⟩,
   ⟨(wst [(MPT.CTRL_EN, 0, 1), (MPT.CTRL_XIP_EN, 0, 1), (MPT.CTRL_CACHE_EN, 0, 0), (MPT.XWIN_EN, 0, 1)]),
    Master.coreP, 2147483648, by decide +kernel⟩,
   ⟨(wst [(MPT.CTRL_EN, 0, 0)]), Master.coreP, 2147483648, by decide +kernel⟩,
   ⟨(wst [(MPT.CTRL_EN, 0, 1), (MPT.CTRL_XIP_EN, 0, 1), (MPT.XWIN_EN, 0, 1), (MPT.STATE_POLLING, 0, 1), (MPT.SEL_CFG_SIZE, 0, 16)]),
    Master.coreP, 2147483648, by decide +kernel⟩,
   ⟨2147483648, by decide +kernel⟩,
   ⟨2147483648, by decide +kernel⟩,
   ⟨0, by decide +kernel⟩,
   ⟨(({ ({ State.reset with mpt.fills := (0, 0) :: ([] : List (Nat × Nat)) } : State) with mpt.fills := [(0, 0)], mpt.txn := some { fill := true } } : State) : State),
    (0, 0), ([] : List (Nat × Nat)), (List.replicate 64 1), _, by decide +kernel, by decide +kernel,
    by decide +kernel, by decide +kernel, rfl⟩,
   ⟨({ State.reset with mpt.fills := [] } : State), by decide +kernel⟩,
   ⟨0, by decide +kernel⟩,
   ⟨(({ State.reset with mpt.regions := [(0, { cfg := 0x80000000 })] } : State) : State), 2147483648,
    by decide +kernel⟩,
   ⟨0, by decide +kernel⟩,
   ⟨((wst [(MPT.SEL_CFG_SIZE, 0, 16)]).setObj 0x0136 1 (List.replicate 16 3) : State), 0x80000000,
    ({ cfg := 0x80000000, start := 0, last := 0, nonce := 0 } : MptRegion), by decide +kernel⟩,
   ⟨(wst [(MPT.SEL_CFG_SIZE, 0, 1)]), 0x80000000, 6, ({ cfg := 0x80000000, start := 0, last := 0, nonce := 0 } : MptRegion),
    by decide +kernel⟩⟩

theorem witness_GranaryEngine :
    (∃ (s : State), s.get GRN.CTRL_EN = 0 ∧ s.geomBad = false ∧ s.journalKey.length = 16) ∧
    (∃ (s : State), s.get GRN.CTRL_EN = 0 ∧ s.geomBad = true) ∧
    (∃ (s : State), s.get GRN.CTRL_EN = 0 ∧ s.geomBad = false ∧ s.journalKey.length ≠ 16) ∧
    (∃ (s : State), s.get GRN.CTRL_EN ≠ 0) ∧
    (∃ (s : State) (q : Nat), q = s.get GRN.CTRL_QSRC ∧ q < 16 ∧ s.get GRN.STATE_STATE = 2 ∧
      16 ≤ (s.queWords q).length ∧ s.ringFull = false ∧ s.grn.notes = [] ∧ s.get MPT.CTRL_EN ≠ 0) ∧
    (∃ (s : State) (r : List Nat) (h q : Nat), q = s.get GRN.CTRL_QSRC ∧ q < 16 ∧ s.get GRN.STATE_STATE = 2 ∧
      (s.queWords q).length = 16 ∧ r = wordsRec (s.queWords q) 0 ∧ recOk r = true ∧ recCont r = false ∧
      s.ringFull = false ∧ s.grn.notes = [] ∧ s.get MPT.CTRL_EN ≠ 0 ∧ s.grnFind (fullId [r]) = some h ∧
      enPRESENT (s.entry h) = true ∧ enWATCH (s.entry h) = false ∧ le16 r 16 = 0x8000 ∧ s.grn.nrec < 62 ∧
      0x10000000 ≤ s.get GRN.JSTAGE_VALUE ∧ s.get GRN.JSTAGE_VALUE < 0x103FF000) ∧
    (∃ (s : State) (q : Nat), q = s.get GRN.CTRL_QSRC ∧ q < 16 ∧ s.get GRN.STATE_STATE = 2 ∧
      (s.queWords q).length = 16 ∧
      (recOk (wordsRec (s.queWords q) 0) = false ∨ recCont (wordsRec (s.queWords q) 0) = true) ∧
      s.ringFull = false ∧ s.grn.notes = [] ∧ s.get MPT.CTRL_EN ≠ 0) ∧
    (∃ (s : State), s.get GRN.STATE_STATE = 2 ∧ 16 ≤ (s.queWords (s.get GRN.CTRL_QSRC)).length ∧
      (s.ringFull = true ∨ s.grn.notes ≠ [])) ∧
    (∃ (s : State), (s.get GRN.STATE_STATE ≠ 2 ∨ (s.queWords (s.get GRN.CTRL_QSRC)).length < 16)) ∧
    (∃ (s : State), (s.get GRN.STATE_STATE ≠ 2 ∨ s.get GRN.CTRL_SWEEP_EN = 0)) ∧
    (∃ (s : State), s.get GRN.CTRL_SWEEP_EN ≠ 0 ∧ s.get GRN.STATE_STATE = 2 ∧ s.get MPT.CTRL_EN ≠ 0) ∧
    (∃ (s : State) (c : Instr), s.get MPT.CTRL_EN = 0 ∧ (c = .sweepStep ∧ s.get GRN.CTRL_SWEEP_EN ≠ 0 ∧
      s.get GRN.STATE_STATE = 2 ∨ c = .recordFold ∧ s.get GRN.STATE_STATE = 2 ∧
      16 ≤ (s.queWords (s.get GRN.CTRL_QSRC)).length ∧ s.ringFull = false ∧
      s.grn.notes = [] ∨ (c = .grnFormat ∨ c = .grnRecover) ∧
      s.get GRN.CTRL_EN ≠ 0 ∨ (c = .grnCommit ∨ c = .grnCommitTimer) ∧
      (s.get GRN.STATE_STATE = 2 ∨ s.get GRN.STATE_STATE = 3))) ∧
    (∃ (s : State), s.get GRN.CTRL_EN ≠ 0 ∧ s.get MPT.CTRL_EN ≠ 0) ∧
    (∃ (s : State), s.get GRN.CTRL_EN ≠ 0 ∧ s.get MPT.CTRL_EN ≠ 0 ∧
      (s.superRead false ≠ none ∨ s.superRead true ≠ none)) ∧
    (∃ (s : State), s.get GRN.CTRL_EN ≠ 0 ∧ s.get MPT.CTRL_EN ≠ 0 ∧ s.superRead false = none ∧ s.superRead true = none) ∧
    (∃ (s : State), s.get GRN.CTRL_EN = 0) ∧
    (∃ (s : State) (c : Instr), (c = .grnCommit ∨ c = .grnCommitTimer) ∧
      (s.get GRN.STATE_STATE = 2 ∨ s.get GRN.STATE_STATE = 3) ∧ s.get MPT.CTRL_EN ≠ 0 ∧
      (s.grn.nrec = 0 ∨ dmaBar (s.get GRN.JSTAGE_VALUE + 64) (16 * s.grn.nrec) = none)) ∧
    (∃ (s : State) (c : Instr), (c = .grnCommit ∨ c = .grnCommitTimer) ∧ s.get GRN.STATE_STATE ≠ 2 ∧
      s.get GRN.STATE_STATE ≠ 3) ∧
    (∃ (s : State), s.grn.notes = []) ∧
    (∃ (s : State) (v a : Nat) (n : Nat × List Nat), s.grn.notes = [n] ∧ n.2.length = 63 ∧
      (s.set GRN.NR_TAIL_VALUE v).ringFull = false ∧ s.get GRN.STATE_STATE ≠ 5 ∧
      a = s.get GRN.NRING_BASE_VALUE + 64 * (s.get GRN.NR_HEAD_VALUE % s.get GRN.NRING_CFG_ENTRIES) ∧
      0x10000000 ≤ a ∧ a < 0x103FFF00) ∧
    (∃ (s : State) (v : Nat), s.grn.notes ≠ [] ∧ (s.set GRN.NR_TAIL_VALUE v).ringFull = true) ∧
    (∃ (s : State) (id : List Nat) (h : Nat), s.grnFind id = some h ∧ s.get GRN.CTRL_EN ≠ 0) ∧
    (∃ (s : State) (id : List Nat), (s.grnFind id = none ∨ s.get GRN.CTRL_EN = 0)) ∧
    (∃ (s : State) (id : List Nat) (h : Nat), s.grnFind id = some h ∧ s.get GRN.CTRL_EN ≠ 0) ∧
    (∃ (s : State) (id : List Nat), (s.grnFind id = none ∨ s.get GRN.CTRL_EN = 0)) :=
  ⟨⟨((wst [(GRN.CTRL_EN, 0, 0), (MPT.SEL_CFG_SIZE, 0, 28), (GRN.GEOM_JBLOCKS, 0, 16)]).setObj 0x6019 0 (List.replicate 16 3) : State),
    by decide +kernel⟩,
   ⟨(wst [(GRN.CTRL_EN, 0, 0)]), by decide +kernel⟩,
   ⟨(wst [(GRN.CTRL_EN, 0, 0), (MPT.SEL_CFG_SIZE, 0, 28), (GRN.GEOM_JBLOCKS, 0, 16)]), by decide +kernel⟩,
   ⟨(wst [(GRN.CTRL_EN, 0, 1)]), by decide +kernel⟩,
   ⟨(({ ({ (wst [(GRN.STATE_STATE, 0, 2), (MPT.CTRL_EN, 0, 1), (GRN.NRING_CFG_ENTRIES, 0, 4), (GRN.CTRL_QSRC, 0, 0)]) with grn.notes := [] } : State) with que := [(0, List.replicate 16 1)] } : State) : State),
    0, by decide +kernel⟩,
   ⟨(({ wEnt ({ (wst [(GRN.STATE_STATE, 0, 2), (MPT.CTRL_EN, 0, 1), (GRN.JSTAGE_VALUE, 0, 0x10000000), (GRN.NRING_CFG_ENTRIES, 0, 4), (GRN.CTRL_QSRC, 0, 0)]) with grn.notes := [] } : State) with que := [(0, recWords wRec)] } : State) : State),
    wRec, 0, 0, by decide +kernel⟩,
   ⟨(({ ({ (wst [(GRN.STATE_STATE, 0, 2), (MPT.CTRL_EN, 0, 1), (GRN.NRING_CFG_ENTRIES, 0, 4), (GRN.CTRL_QSRC, 0, 0)]) with grn.notes := [] } : State) with que := [(0, List.replicate 16 1)] } : State) : State),
    0, by decide +kernel⟩,
   ⟨(({ (wst [(GRN.STATE_STATE, 0, 2), (GRN.CTRL_QSRC, 0, 0)]) with grn.notes := [(0, [])], que := [(0, List.replicate 16 1)] } : State) : State),
    by decide +kernel⟩,
   ⟨(wst [(GRN.STATE_STATE, 0, 3)]), by decide +kernel⟩,
   ⟨(wst [(GRN.STATE_STATE, 0, 3)]), by decide +kernel⟩,
   ⟨(wst [(GRN.CTRL_SWEEP_EN, 0, 1), (GRN.STATE_STATE, 0, 2), (MPT.CTRL_EN, 0, 1)]), by decide +kernel⟩,
   ⟨(wst [(MPT.CTRL_EN, 0, 0), (GRN.CTRL_SWEEP_EN, 0, 1), (GRN.STATE_STATE, 0, 2)]), .sweepStep, by decide +kernel⟩,
   ⟨(wst [(GRN.CTRL_EN, 0, 1), (MPT.CTRL_EN, 0, 1)]), by decide +kernel⟩,
   ⟨(wSuper (wst [(GRN.CTRL_EN, 0, 1), (MPT.CTRL_EN, 0, 1)]) : State), by decide +kernel⟩,
   ⟨(wst [(GRN.CTRL_EN, 0, 1), (MPT.CTRL_EN, 0, 1)]), by decide +kernel⟩,
   ⟨(wst [(GRN.CTRL_EN, 0, 0)]), by decide +kernel⟩,
   ⟨({ (wst [(GRN.STATE_STATE, 0, 2), (MPT.CTRL_EN, 0, 1)]) with grn.nrec := 0 } : State), .grnCommit,
    by decide +kernel⟩,
   ⟨(wst [(GRN.STATE_STATE, 0, 4)]), .grnCommit, by decide +kernel⟩,
   ⟨({ State.reset with grn.notes := [] } : State), by decide +kernel⟩,
   ⟨(({ ({ (wst [(GRN.STATE_STATE, 0, 6), (GRN.NRING_CFG_ENTRIES, 0, 4), (GRN.NRING_BASE_VALUE, 0, 268435456)]) with grn.notes := [((0, List.replicate 63 0) : Nat × List Nat)] } : State) with grn.notes := [(0, List.replicate 63 0)] } : State) : State),
    0, 0x10000000, ((0, List.replicate 63 0) : Nat × List Nat), by decide +kernel⟩,
   ⟨(({ (wst [(GRN.NRING_CFG_ENTRIES, 0, 0)]) with grn.notes := [(0, List.replicate 63 0)] } : State) : State), 0,
    by decide +kernel⟩,
   ⟨(wEnt (wst [(GRN.CTRL_EN, 0, 1)]) : State), [1,2], 0, by decide +kernel⟩,
   ⟨State.reset, ([] : List Nat), by decide +kernel⟩,
   ⟨(wEnt (wst [(GRN.CTRL_EN, 0, 1)]) : State), [1,2], 0, by decide +kernel⟩,
   ⟨State.reset, ([] : List Nat), by decide +kernel⟩⟩

theorem witness_NetworkEvents :
    (∃ (s : State) (f : List Nat) (ok : Bool), (macTakes f ok = false ∨ s.net.linkUp = false ∨ s.coreP.refHeld = true)) ∧
    (∃ (s : State) (f : List Nat) (ok : Bool), macTakes f ok = true ∧ s.net.linkUp = true ∧ s.coreP.refHeld = false ∧
      ofBe (slice f 12 2) ≠ 0x86DD) ∧
    (∃ (s : State) (f p : List Nat) (ok : Bool), macTakes f ok = true ∧ s.net.linkUp = true ∧ s.coreP.refHeld = false ∧
      ofBe (slice f 12 2) = 0x86DD ∧ p = slice f 14 (f.length - 18) ∧
      (p.length < 40 + ofBe (slice p 4 2) ∨ byteAt p 0 / 16 ≠ 6 ∨ (s.ipv6.contains (slice p 24 16) = false ∧
      s.groups.contains (slice p 24 16) = false))) ∧
    (∃ (s : State) (f p d : List Nat) (ok : Bool), macTakes f ok = true ∧ s.net.linkUp = true ∧
      s.coreP.refHeld = false ∧ ofBe (slice f 12 2) = 0x86DD ∧ p = slice f 14 (f.length - 18) ∧
      40 + ofBe (slice p 4 2) ≤ p.length ∧ byteAt p 0 / 16 = 6 ∧
      (s.ipv6.contains (slice p 24 16) = true ∨ s.groups.contains (slice p 24 16) = true) ∧ byteAt p 6 = 17 ∧
      d = slice p 40 (ofBe (slice p 4 2)) ∧ 8 ≤ ofBe (slice p 4 2) ∧ ofBe (slice d 4 2) = ofBe (slice p 4 2) ∧
      ofBe (slice d 6 2) ≠ 0 ∧ inetOk p d 17 = true ∧ ofBe (slice d 2 2) = 42980) ∧
    (∃ (s : State) (f : List Nat) (ok : Bool), macTakes f ok = true ∧ s.net.linkUp = true ∧ s.coreP.refHeld = false ∧
      ofBe (slice f 12 2) = 0x86DD) ∧
    (∃ (s : State), s.bit PWR.STATE_DOM 3 = false) ∧
    (∃ (s : State) (o : Int), s.bit PWR.STATE_DOM 3 = true ∧ o.natAbs ≤ 1000 ∧ s.net.ptpGood < 7) ∧
    (∃ (s : State) (o : Int), s.bit PWR.STATE_DOM 3 = true ∧ o.natAbs ≤ 1000 ∧ 7 ≤ s.net.ptpGood ∧
      s.get ATB.STATE_PTP_OK ≠ 0) ∧
    (∃ (s u : State) (o : Int) (delay ns : Nat), s.bit PWR.STATE_DOM 3 = true ∧ o.natAbs ≤ 1000 ∧ 7 ≤ s.net.ptpGood ∧
      s.get ATB.STATE_PTP_OK = 0 ∧
      u = ((({ s.sourceEvent 104 with net := { s.net with ptpOffset := unsignedOf 32 o, ptpDelay := delay % 4294967296, ptpGood := 8 }, atb := { s.atb with ptpNs := ns, ptpAt := s.now } } : State).sourceEvent 105).set ATB.STATE_PTP_OK 1)) ∧
    (∃ (s u : State) (o : Int) (delay ns : Nat), s.bit PWR.STATE_DOM 3 = true ∧ o.natAbs ≤ 1000 ∧ 7 ≤ s.net.ptpGood ∧
      s.get ATB.STATE_PTP_OK = 0 ∧
      u = ((({ s.sourceEvent 104 with net := { s.net with ptpOffset := unsignedOf 32 o, ptpDelay := delay % 4294967296, ptpGood := 8 }, atb := { s.atb with ptpNs := ns, ptpAt := s.now } } : State).sourceEvent 105).set ATB.STATE_PTP_OK 1) ∧
      s.atb.anchor = none) ∧
    (∃ (s u : State) (o : Int) (delay ns : Nat), s.bit PWR.STATE_DOM 3 = true ∧ o.natAbs ≤ 1000 ∧ 7 ≤ s.net.ptpGood ∧
      s.get ATB.STATE_PTP_OK = 0 ∧
      u = ((({ s.sourceEvent 104 with net := { s.net with ptpOffset := unsignedOf 32 o, ptpDelay := delay % 4294967296, ptpGood := 8 }, atb := { s.atb with ptpNs := ns, ptpAt := s.now } } : State).sourceEvent 105).set ATB.STATE_PTP_OK 1) ∧
      s.get ATB.CTRL_SRC = 0) ∧
    (∃ (s : State) (o : Int), s.bit PWR.STATE_DOM 3 = true ∧ 1000 < o.natAbs ∧ o.natAbs ≤ 10000) ∧
    (∃ (s : State) (o : Int), s.bit PWR.STATE_DOM 3 = true ∧ 10000 < o.natAbs ∧
      (s.get ATB.STATE_PTP_OK = 0 ∨ s.get ATB.CTRL_SRC = 0 ∨ s.atbSt ≠ abSYNTH)) ∧
    (∃ (s : State), s.bit PWR.STATE_DOM 3 = true ∧
      (s.get ATB.STATE_PTP_OK = 0 ∨ s.get ATB.CTRL_SRC = 0 ∨ s.atbSt ≠ abSYNTH)) ∧
    (∃ (s : State) (c : Instr) (o : Int) (delay ns : Nat), s.bit PWR.STATE_DOM 3 = true ∧
      (c = .ptpLoss ∨ (c = .ptpSyncRx o delay ns ∧ 10000 < o.natAbs)) ∧ s.get ATB.STATE_PTP_OK ≠ 0 ∧
      s.get ATB.CTRL_SRC ≠ 0 ∧ s.atbSt = abSYNTH) ∧
    (∃ (s : State) (c : Nat), s.get PWR.STATE_CLASS = c % 256) ∧
    (∃ (s u : State) (c : Nat), s.get PWR.STATE_CLASS ≠ c % 256 ∧
      u = (((s.set PWR.STATE_CLASS c).set PWR.STATUS_CLASS_CHG 1).bump PWR.CNT_CLASS_COUNT PWR.STATUS_SAT).wakeP 2) ∧
    (∃ (s u : State) (c : Nat), s.get PWR.STATE_CLASS ≠ c % 256 ∧
      u = (((s.set PWR.STATE_CLASS c).set PWR.STATUS_CLASS_CHG 1).bump PWR.CNT_CLASS_COUNT PWR.STATUS_SAT).wakeP 2 ∧
      s.mode = mdFAILSAFE) ∧
    (∃ (s u : State) (c : Nat), s.get PWR.STATE_CLASS ≠ c % 256 ∧
      u = (((s.set PWR.STATE_CLASS c).set PWR.STATUS_CLASS_CHG 1).bump PWR.CNT_CLASS_COUNT PWR.STATUS_SAT).wakeP 2 ∧
      s.mode = mdFULL ∧ u.carrierSheaves = [] ∧ u.atb.actSlots = 0 ∧ u.fits u.keptCost = true ∧ u.budgetOk = true) :=
  ⟨⟨State.reset, ([] : List Nat), false, by decide +kernel⟩,
   ⟨({ ({ State.reset with net.linkUp := true } : State) with coreP.refHeld := false } : State), wFrame, true,
    macTakes_group _ (by decide +kernel), by decide +kernel, by decide +kernel, by decide +kernel⟩,
   ⟨({ ({ State.reset with net.linkUp := true } : State) with coreP.refHeld := false } : State), [51, 51, 0, 0, 0, 1, 0, 0, 0, 0, 0, 0, 134, 221, 0, 0, 0, 0, 0, 0, 0, 0],
    [0, 0, 0, 0], true, macTakes_group _ (by decide +kernel), by decide +kernel, by decide +kernel,
    by decide +kernel, by decide +kernel, by decide +kernel⟩,
   ⟨({ ({ State.reset with net.linkUp := true } : State) with coreP.refHeld := false } : State), [51, 51, 0, 0, 0, 1, 0, 0, 0, 0, 0, 0, 134, 221, 96, 0, 0, 0, 0, 8, 17, 64, 254, 128, 0, 0, 0, 0, 0, 0, 0, 0, 0, 0, 0, 0, 0, 9, 255, 2, 0, 0, 0, 0, 0, 0, 0, 0, 0, 0, 0, 0, 0, 1, 15, 160, 167, 228, 0, 8, 74, 204, 0, 0, 0, 0],
    _, [15, 160, 167, 228, 0, 8, 74, 204], true, macTakes_group _ (by decide +kernel), by decide +kernel,
    by decide +kernel, by decide +kernel, rfl, by decide +kernel, by decide +kernel, .inr (by decide +kernel),
    by decide +kernel, by decide +kernel, by decide +kernel, by decide +kernel, by decide +kernel,
    by decide +kernel, by decide +kernel⟩,
   ⟨({ ({ State.reset with net.linkUp := true } : State) with coreP.refHeld := false } : State), [51, 51, 0, 0, 0, 1, 0, 0, 0, 0, 0, 0, 134, 221, 0, 0, 0, 0, 0, 0, 0, 0],
    true, macTakes_group _ (by decide +kernel), by decide +kernel, by decide +kernel, by decide +kernel⟩,
   ⟨State.reset, by decide +kernel⟩,
   ⟨(wst [(PWR.STATE_DOM, 0, 8)]), (0 : Int), by decide +kernel⟩,
   ⟨(({ (wst [(ATB.STATE_PTP_OK, 0, 1), (PWR.STATE_DOM, 0, 8)]) with net.ptpGood := 7 } : State) : State), (5 : Int),
    by decide +kernel⟩,
   ⟨(({ (wst [(ATB.STATE_PTP_OK, 0, 0), (PWR.STATE_DOM, 0, 8)]) with net.ptpGood := 7 } : State) : State), _,
    (5 : Int), 0, 0, by decide +kernel, by decide +kernel, by decide +kernel, by decide +kernel, rfl⟩,
   ⟨(({ ({ (wst [(ATB.STATE_PTP_OK, 0, 0), (PWR.STATE_DOM, 0, 8)]) with atb.anchor := none } : State) with net.ptpGood := 7 } : State) : State),
    _, (5 : Int), 0, 0, by decide +kernel, by decide +kernel, by decide +kernel, by decide +kernel, rfl,
    by decide +kernel⟩,
   ⟨(({ (wst [(ATB.STATE_PTP_OK, 0, 0), (ATB.CTRL_SRC, 0, 0), (PWR.STATE_DOM, 0, 8)]) with net.ptpGood := 7 } : State) : State),
    _, (5 : Int), 0, 0, by decide +kernel, by decide +kernel, by decide +kernel, by decide +kernel, rfl,
    by decide +kernel⟩,
   ⟨(wst [(PWR.STATE_DOM, 0, 8)]), (5000 : Int), by decide +kernel⟩,
   ⟨(wst [(ATB.STATE_PTP_OK, 0, 0), (PWR.STATE_DOM, 0, 8)]), (-10001 : Int), by decide +kernel⟩,
   ⟨(wst [(ATB.STATE_PTP_OK, 0, 0), (PWR.STATE_DOM, 0, 8)]), by decide +kernel⟩,
   ⟨(wst [(ATB.STATE_PTP_OK, 0, 1), (ATB.CTRL_SRC, 0, 1), (ATB.STATE_STATE, 0, abSYNTH), (PWR.STATE_DOM, 0, 8)]),
    .ptpLoss, (0 : Int), 0, 0, by decide +kernel⟩,
   ⟨(wst [(PWR.STATE_CLASS, 0, 0 % 256)]), 0, by decide +kernel⟩,
   ⟨State.reset, _, 0, by decide +kernel, rfl⟩,
   ⟨(wst [(SYS.MODE_MODE, 0, mdFAILSAFE)]), _, 0, by decide +kernel, rfl, by decide +kernel⟩,
   ⟨(((wst [(SYS.MODE_MODE, 0, mdFULL)]).setObj 0x1015 0 [0, 0, 0, 0]).setObj 0x1012 0 [0, 0, 0, 0] : State), _, 15,
    by decide +kernel, rfl, by decide +kernel, by decide +kernel, by decide +kernel, by decide +kernel,
    by decide +kernel⟩⟩

theorem witness_TotDatagrams :
    (∃ (s : State) (d : List Nat) (c : Instr), s.coreP.refHeld = true ∧ isTot d c) ∧
    (∃ (d : List Nat) (k : Nat) (c : Instr), byteAt d 1 ≠ k ∧ ((k = 0x01 ∧ c = .readReq d) ∨ (k = 0x03 ∧
      c = .writeReq d) ∨ (k = 0x10 ∧ c = .xferInit d) ∨ (k = 0x11 ∧ c = .xferData d) ∨ (k = 0x12 ∧
      c = .xferAck d) ∨ (k = 0x13 ∧ c = .xferEnd d) ∨ (k = 0x14 ∧ c = .xferAbort d) ∨ (k = 0x20 ∧
      c = .subscribe d) ∨ (k = 0x23 ∧ c = .notifyAck d) ∨ (k = 0x30 ∧ c = .planMcast d))) ∧
    (∃ (d : List Nat), totTypes.contains (byteAt d 1) = true) ∧
    (∃ (s : State) (d : List Nat) (c : Instr), s.coreP.refHeld = false ∧
      (d.length < 40 ∨ byteAt d 0 ≠ 1 ∨ le16 d 20 ≠ d.length - 40) ∧ isTot d c) ∧
    (∃ (s : State) (d : List Nat) (c : Instr), s.coreP.refHeld = false ∧ 40 ≤ d.length ∧ byteAt d 0 = 1 ∧
      le16 d 20 = d.length - 40 ∧ (le16 d 2 ≠ s.siteId ∨ s.siteId = 0) ∧ isTot d c) ∧
    (∃ (s : State) (d : List Nat) (c : Instr), s.coreP.refHeld = false ∧ 40 ≤ d.length ∧ byteAt d 0 = 1 ∧
      le16 d 20 = d.length - 40 ∧ le16 d 2 = s.siteId ∧ s.siteId ≠ 0 ∧ (s.nodeId = 0 ∨ (le16 d 6 ≠ s.nodeId ∧
      le16 d 6 ≠ 0xFFFF)) ∧ isTot d c) ∧
    (∃ (s : State) (d : List Nat) (c : Instr), s.coreP.refHeld = false ∧ 40 ≤ d.length ∧ byteAt d 0 = 1 ∧
      le16 d 20 = d.length - 40 ∧ le16 d 2 = s.siteId ∧ s.siteId ≠ 0 ∧ s.nodeId ≠ 0 ∧
      (le16 d 6 = s.nodeId ∨ le16 d 6 = 0xFFFF) ∧ s.totKey (byteAt d 8) = none ∧ isTot d c) ∧
    (∃ (s : State) (d key : List Nat) (c : Instr), s.coreP.refHeld = false ∧ 40 ≤ d.length ∧ byteAt d 0 = 1 ∧
      le16 d 20 = d.length - 40 ∧ le16 d 2 = s.siteId ∧ s.siteId ≠ 0 ∧ s.nodeId ≠ 0 ∧
      (le16 d 6 = s.nodeId ∨ le16 d 6 = 0xFFFF) ∧ s.totKey (byteAt d 8) = some key ∧
      s.totFresh (le16 d 4) (le64 d 12) = false ∧ isTot d c) ∧
    (∃ (s : State) (d key : List Nat) (c : Instr), s.coreP.refHeld = false ∧ 40 ≤ d.length ∧ byteAt d 0 = 1 ∧
      le16 d 20 = d.length - 40 ∧ le16 d 2 = s.siteId ∧ s.siteId ≠ 0 ∧ s.nodeId ≠ 0 ∧
      (le16 d 6 = s.nodeId ∨ le16 d 6 = 0xFFFF) ∧ s.totKey (byteAt d 8) = some key ∧
      s.totFresh (le16 d 4) (le64 d 12) = true ∧ gcmOpen key (slice d 4 2 ++ [0, 0] ++ slice d 12 8) (d.take 24) (d.drop 24) = none ∧
      isTot d c) ∧
    (∃ (s t : State) (d : List Nat) (m : TotMsg), s.coreP.refHeld = false ∧ s.unsent.totOpen d = (t, some m) ∧
      totTypes.contains (byteAt d 1) = false) ∧
    (∃ (s t : State) (d : List Nat) (m : TotMsg), s.coreP.refHeld = false ∧ s.unsent.totOpen d = (t, some m) ∧
      byteAt d 1 = 0x01 ∧ m.group = false) ∧
    (∃ (s t : State) (d : List Nat) (m : TotMsg), s.coreP.refHeld = false ∧ s.unsent.totOpen d = (t, some m) ∧
      byteAt d 1 = 0x01 ∧ m.group = true) ∧
    (∃ (s t : State) (d h v : List Nat) (m : TotMsg), s.coreP.refHeld = false ∧ s.unsent.totOpen d = (t, some m) ∧
      byteAt d 1 = 0x03 ∧ m.group = false ∧ totEntries m.body.length m.body = [(h, v)] ∧
      resetObj (le16 h 0) = false) ∧
    (∃ (s t : State) (d h v h2 v2 : List Nat) (m : TotMsg), s.coreP.refHeld = false ∧ s.unsent.totOpen d = (t,
      some m) ∧ byteAt d 1 = 0x03 ∧ m.group = false ∧ totEntries m.body.length m.body = [(h, v), (h2, v2)] ∧
      (t.totPut (le16 h 0) (byteAt h 2) (byteAt h 3) v).1 ≠ odOK) ∧
    (∃ (s t : State) (d w : List Nat) (v : State) (m : TotMsg), s.coreP.refHeld = false ∧ s.unsent.totOpen d = (t,
      some m) ∧ byteAt d 1 = 0x03 ∧ t.writeAll (totEntries m.body.length m.body) = (w, v, false) ∧ m.group = false) ∧
    (∃ (s t : State) (d w : List Nat) (v : State) (b : Bool) (m : TotMsg), s.coreP.refHeld = false ∧
      s.unsent.totOpen d = (t, some m) ∧ byteAt d 1 = 0x03 ∧ t.writeAll (totEntries m.body.length m.body) = (w, v,
      b) ∧ (m.group = true ∨ b = true)) ∧
    (∃ (s t : State) (d : List Nat) (m : TotMsg), s.coreP.refHeld = false ∧ s.unsent.totOpen d = (t, some m) ∧
      byteAt d 1 = 0x10 ∧ m.group = true) ∧
    (∃ (s t u : State) (d : List Nat) (m : TotMsg) (e : Nat), s.coreP.refHeld = false ∧ s.unsent.totOpen d = (t,
      some m) ∧ byteAt d 1 = 0x10 ∧ m.group = false ∧
      u = { t with net := { t.net with xfers := t.net.xfers.filter fun y => !y.is m.src m.tid } } ∧
      (((1 < byteAt m.body 3 ∨ 1 < byteAt m.body 4) ∧ e = odRANGE) ∨ (byteAt m.body 3 ≤ 1 ∧ byteAt m.body 4 ≤ 1 ∧
      4 ≤ u.net.xfers.length ∧ e = odBUSY) ∨ (byteAt m.body 3 = 1 ∧ byteAt m.body 4 ≤ 1 ∧ u.net.xfers.length < 4 ∧
      e ≠ odOK ∧ e = u.xferOutBar (le16 m.body 0) (byteAt m.body 2) (byteAt m.body 4)) ∨ (byteAt m.body 3 = 0 ∧
      byteAt m.body 4 ≤ 1 ∧ u.net.xfers.length < 4 ∧ e ≠ odOK ∧
      e = u.xferInBar (le16 m.body 0) (byteAt m.body 2) (byteAt m.body 4) (le32 m.body 5)))) ∧
    (∃ (s t u : State) (d : List Nat) (m : TotMsg), s.coreP.refHeld = false ∧ s.unsent.totOpen d = (t, some m) ∧
      byteAt d 1 = 0x10 ∧ m.group = false ∧
      u = { t with net := { t.net with xfers := t.net.xfers.filter fun y => !y.is m.src m.tid } } ∧
      u.net.xfers.length < 4 ∧ byteAt m.body 3 = 0 ∧ byteAt m.body 4 ≤ 1 ∧
      u.xferInBar (le16 m.body 0) (byteAt m.body 2) (byteAt m.body 4) (le32 m.body 5) = odOK) ∧
    (∃ (s t u : State) (d v : List Nat) (m : TotMsg) (x : Xfer), s.coreP.refHeld = false ∧ s.unsent.totOpen d = (t,
      some m) ∧ byteAt d 1 = 0x10 ∧ m.group = false ∧
      u = { t with net := { t.net with xfers := t.net.xfers.filter fun y => !y.is m.src m.tid } } ∧
      u.net.xfers.length < 4 ∧ byteAt m.body 3 = 1 ∧ byteAt m.body 4 ≤ 1 ∧
      u.xferOutBar (le16 m.body 0) (byteAt m.body 2) (byteAt m.body 4) = odOK ∧
      v = (u.totGet (le16 m.body 0) (byteAt m.body 2)).2.2 ∧ x = { src := m.src, tid := m.tid, kid := m.kid, index := le16 m.body 0, sub := byteAt m.body 2, out := true, kind := byteAt m.body 4, total := v.length, crc := crc32c v, data := v, next := 0, segs := 0, resends := 0, host := false }) ∧
    (∃ (s t : State) (d : List Nat) (m : TotMsg) (c : Instr), s.coreP.refHeld = false ∧ s.unsent.totOpen d = (t,
      some m) ∧ (t.xferOf m.src m.tid = none ∨ m.group = true) ∧ ((byteAt d 1 = 0x11 ∧
      c = .xferData d) ∨ (byteAt d 1 = 0x12 ∧ c = .xferAck d) ∨ (byteAt d 1 = 0x13 ∧
      c = .xferEnd d) ∨ (byteAt d 1 = 0x14 ∧ c = .xferAbort d))) ∧
    (∃ (s t : State) (d : List Nat) (m : TotMsg) (x : Xfer), s.coreP.refHeld = false ∧ s.unsent.totOpen d = (t,
      some m) ∧ byteAt d 1 = 0x11 ∧ m.group = false ∧ t.net.xfers = [x] ∧ x.is m.src m.tid = true ∧ x.out = false ∧
      x.kind = 0 ∧ x.index ≠ 0x0130 ∧ le32 m.body 0 = x.data.length ∧ 4 < m.body.length ∧ m.body.length ≤ 1028 ∧
      x.data.length + (m.body.length - 4) ≤ x.total) ∧
    (∃ (s t : State) (d : List Nat) (m : TotMsg) (x y : Xfer), s.coreP.refHeld = false ∧ s.unsent.totOpen d = (t,
      some m) ∧ byteAt d 1 = 0x11 ∧ m.group = false ∧ t.xferOf m.src m.tid = some x ∧ x.out = false ∧
      le32 m.body 0 = x.data.length ∧ 4 < m.body.length ∧ m.body.length ≤ 1028 ∧
      x.data.length + (m.body.length - 4) ≤ x.total ∧ y = { x with data := x.data ++ m.body.drop 4, segs := x.segs + 1 } ∧
      (x.kind = 0 ∨ y.segs % 16 = 0 ∨ y.data.length = x.total)) ∧
    (∃ (s t : State) (d : List Nat) (m : TotMsg) (x y : Xfer), s.coreP.refHeld = false ∧ s.unsent.totOpen d = (t,
      some m) ∧ byteAt d 1 = 0x11 ∧ m.group = false ∧ t.xferOf m.src m.tid = some x ∧ x.out = false ∧
      le32 m.body 0 = x.data.length ∧ 4 < m.body.length ∧ m.body.length ≤ 1028 ∧
      x.data.length + (m.body.length - 4) ≤ x.total ∧ y = { x with data := x.data ++ m.body.drop 4, segs := x.segs + 1 } ∧
      x.kind ≠ 0 ∧ y.segs % 16 ≠ 0 ∧ y.data.length ≠ x.total) ∧
    (∃ (s t : State) (d : List Nat) (m : TotMsg) (x : Xfer), s.coreP.refHeld = false ∧ s.unsent.totOpen d = (t,
      some m) ∧ byteAt d 1 = 0x11 ∧ m.group = false ∧ t.xferOf m.src m.tid = some x ∧ x.out = true) ∧
    (∃ (s t : State) (d : List Nat) (m : TotMsg) (x : Xfer), s.coreP.refHeld = false ∧ s.unsent.totOpen d = (t,
      some m) ∧ byteAt d 1 = 0x11 ∧ m.group = false ∧ t.xferOf m.src m.tid = some x ∧ x.out = false ∧
      (1028 < m.body.length ∨ x.total < le32 m.body 0 + (m.body.length - 4) ∨ x.data.length + (if x.kind = 0 then 1024 else 16384) ≤ le32 m.body 0)) ∧
    (∃ (s t : State) (d : List Nat) (m : TotMsg) (x : Xfer), s.coreP.refHeld = false ∧ s.unsent.totOpen d = (t,
      some m) ∧ byteAt d 1 = 0x11 ∧ m.group = false ∧ t.xferOf m.src m.tid = some x ∧ x.out = false ∧
      m.body.length ≤ 1028 ∧ le32 m.body 0 + (m.body.length - 4) ≤ x.total ∧
      le32 m.body 0 < x.data.length + (if x.kind = 0 then 1024 else 16384) ∧
      (le32 m.body 0 ≠ x.data.length ∨ m.body.length ≤ 4)) ∧
    (∃ (s t : State) (d : List Nat) (m : TotMsg) (x : Xfer), s.coreP.refHeld = false ∧ s.unsent.totOpen d = (t,
      some m) ∧ byteAt d 1 = 0x13 ∧ m.group = false ∧ t.net.xfers = [x] ∧ x.is m.src m.tid = true ∧ x.out = false ∧
      resetObj x.index = false) ∧
    (∃ (s t v : State) (d : List Nat) (m : TotMsg) (x : Xfer) (e : Nat), s.coreP.refHeld = false ∧
      s.unsent.totOpen d = (t, some m) ∧ byteAt d 1 = 0x13 ∧ m.group = false ∧ t.xferOf m.src m.tid = some x ∧
      x.out = false ∧ (t.xferDrop x).xferApply x = (e, v) ∧ x.data.length ≠ x.total) ∧
    (∃ (s t v : State) (d : List Nat) (m : TotMsg) (x : Xfer) (e : Nat), s.coreP.refHeld = false ∧
      s.unsent.totOpen d = (t, some m) ∧ byteAt d 1 = 0x13 ∧ m.group = false ∧ t.xferOf m.src m.tid = some x ∧
      x.out = false ∧ (t.xferDrop x).xferApply x = (e, v) ∧ x.data.length = x.total ∧ crc32c x.data ≠ x.crc) ∧
    (∃ (s t v : State) (d : List Nat) (m : TotMsg) (x : Xfer) (e : Nat), s.coreP.refHeld = false ∧
      s.unsent.totOpen d = (t, some m) ∧ byteAt d 1 = 0x13 ∧ m.group = false ∧ t.xferOf m.src m.tid = some x ∧
      x.out = false ∧ (t.xferDrop x).xferApply x = (e, v) ∧ (e ≠ odOK ∨ resetObj x.index = false)) ∧
    (∃ (s t v : State) (d : List Nat) (m : TotMsg) (x : Xfer) (e : Nat), s.coreP.refHeld = false ∧
      s.unsent.totOpen d = (t, some m) ∧ byteAt d 1 = 0x13 ∧ m.group = false ∧ t.xferOf m.src m.tid = some x ∧
      x.out = false ∧ (t.xferDrop x).xferApply x = (e, v) ∧ e = odOK ∧ resetObj x.index = true) ∧
    (∃ (s t : State) (d : List Nat) (m : TotMsg) (x : Xfer), s.coreP.refHeld = false ∧ s.unsent.totOpen d = (t,
      some m) ∧ byteAt d 1 = 0x13 ∧ m.group = false ∧ t.xferOf m.src m.tid = some x ∧ x.out = true) ∧
    (∃ (s t : State) (d : List Nat) (m : TotMsg) (x : Xfer), s.coreP.refHeld = false ∧ s.unsent.totOpen d = (t,
      some m) ∧ byteAt d 1 = 0x12 ∧ m.group = false ∧ t.net.xfers = [x] ∧ x.is m.src m.tid = true ∧ x.out = true ∧
      x.next < le32 m.body 0 ∧ le32 m.body 0 ≤ x.total) ∧
    (∃ (s t : State) (d : List Nat) (m : TotMsg) (x y : Xfer), s.coreP.refHeld = false ∧ s.unsent.totOpen d = (t,
      some m) ∧ byteAt d 1 = 0x12 ∧ m.group = false ∧ t.xferOf m.src m.tid = some x ∧ x.out = true ∧
      x.next ≤ le32 m.body 0 ∧ le32 m.body 0 ≤ x.total ∧ y = { x with next := le32 m.body 0, resends := if x.next < le32 m.body 0 then 0 else x.resends }) ∧
    (∃ (s t : State) (d : List Nat) (m : TotMsg) (x : Xfer), s.coreP.refHeld = false ∧ s.unsent.totOpen d = (t,
      some m) ∧ byteAt d 1 = 0x12 ∧ m.group = false ∧ t.xferOf m.src m.tid = some x ∧
      (x.out = false ∨ x.total < le32 m.body 0 ∨ le32 m.body 0 < x.next)) ∧
    (∃ (s t : State) (d : List Nat) (m : TotMsg) (x : Xfer), s.coreP.refHeld = false ∧ s.unsent.totOpen d = (t,
      some m) ∧ byteAt d 1 = 0x14 ∧ m.group = false ∧ t.xferOf m.src m.tid = some x) :=
  ⟨⟨({ State.reset with coreP.refHeld := true } : State), [0, 1], (.readReq [0, 1]), by decide +kernel, .inl ⟨rfl,
    rfl⟩⟩,
   ⟨([] : List Nat), 1, (.readReq ([] : List Nat)), by decide +kernel⟩,
   ⟨[1, 1], by decide +kernel⟩,
   ⟨({ State.reset with coreP.refHeld := false } : State), [0, 1], (.readReq [0, 1]), by decide +kernel,
    by decide +kernel, .inl ⟨rfl, rfl⟩⟩,
   ⟨({ State.reset with coreP.refHeld := false } : State), (wDg 1 3 []), (.readReq (wDg 1 3 [])), by decide +kernel,
    by decide +kernel, by decide +kernel, by decide +kernel, by decide +kernel, .inl ⟨rfl, rfl⟩⟩,
   ⟨(wNode ({ State.reset with coreP.refHeld := false } : State) : State), (wDg 1 4 []), (.readReq (wDg 1 4 [])),
    by decide +kernel, by decide +kernel, by decide +kernel, by decide +kernel, by decide +kernel,
    by decide +kernel, by decide +kernel, .inl ⟨rfl, rfl⟩⟩,
   ⟨(({ wNode ({ State.reset with coreP.refHeld := false } : State) with hft.slots := [] } : State) : State),
    (wDg 1 3 []), (.readReq (wDg 1 3 [])), by decide +kernel, by decide +kernel, by decide +kernel,
    by decide +kernel, by decide +kernel, by decide +kernel, by decide +kernel, by decide +kernel,
    by decide +kernel, .inl ⟨rfl, rfl⟩⟩,
   ⟨(({ wNode ({ State.reset with coreP.refHeld := false } : State) with nv.replay := [(8, 70)] } : State) : State),
    (wDg 1 3 []), wKey, (.readReq (wDg 1 3 [])), by decide +kernel, by decide +kernel, by decide +kernel,
    by decide +kernel, by decide +kernel, by decide +kernel, by decide +kernel, by decide +kernel,
    by decide +kernel, by decide +kernel, .inl ⟨rfl, rfl⟩⟩,
   ⟨(wNode ({ State.reset with coreP.refHeld := false } : State) : State), wBad, wKey, (.readReq wBad),
    by decide +kernel, by decide +kernel, by decide +kernel, by decide +kernel, by decide +kernel,
    by decide +kernel, by decide +kernel, by decide +kernel, by decide +kernel, by decide +kernel,
    by decide +kernel, .inl ⟨rfl, rfl⟩⟩,
   ⟨(wNode ({ State.reset with coreP.refHeld := false } : State) : State), _, (wDg 0x55 3 []), (wMsg 0x55 3 []),
    by decide +kernel, wDg_open _ _ _ _ (by decide +kernel) (by decide) (by decide), by decide +kernel⟩,
   ⟨(wNode ({ State.reset with coreP.refHeld := false } : State) : State), _, (wDg 0x01 3 ([] : List Nat)),
    (wMsg 0x01 3 ([] : List Nat)), by decide +kernel, wDg_open _ _ _ _ (by decide +kernel) (by decide) (by decide),
    by decide +kernel, by decide +kernel⟩,
   ⟨(wNode ({ State.reset with coreP.refHeld := false } : State) : State), _, (wDg 0x01 0xFFFF ([] : List Nat)),
    (wMsg 0x01 0xFFFF ([] : List Nat)), by decide +kernel,
    wDg_open _ _ _ _ (by decide +kernel) (by decide) (by decide), by decide +kernel, by decide +kernel⟩,
   ⟨(wNode ({ State.reset with coreP.refHeld := false } : State) : State), _, (wDg 0x03 3 [0x01, 0x10, 0, 0, 0, 0, 1, 0, 5]),
    [0x01, 0x10, 0, 0, 0, 0, 1, 0], [5], (wMsg 0x03 3 [0x01, 0x10, 0, 0, 0, 0, 1, 0, 5]), by decide +kernel,
    wDg_open _ _ _ _ (by decide +kernel) (by decide) (by decide), by decide +kernel, by decide +kernel,
    by decide +kernel, by decide +kernel⟩,
   ⟨(wNode ({ State.reset with coreP.refHeld := false } : State) : State), _, (wDg 0x03 3 [0xFF, 0xFF, 0, 0, 0, 0, 1, 0, 5, 0x02, 0x10, 0, 0, 0, 0, 1, 0, 5]),
    [0xFF, 0xFF, 0, 0, 0, 0, 1, 0], [5], [0x02, 0x10, 0, 0, 0, 0, 1, 0], [5], (wMsg 0x03 3 [0xFF, 0xFF, 0, 0, 0, 0, 1, 0, 5, 0x02, 0x10, 0, 0, 0, 0, 1, 0, 5]),
    by decide +kernel, wDg_open _ _ _ _ (by decide +kernel) (by decide) (by decide), by decide +kernel,
    by decide +kernel, by decide +kernel, by decide +kernel⟩,
   ⟨(wNode ({ State.reset with coreP.refHeld := false } : State) : State), _, (wDg 0x03 3 [0x01, 0x10, 0, 0, 0, 0, 1, 0, 5]),
    _, _, (wMsg 0x03 3 [0x01, 0x10, 0, 0, 0, 0, 1, 0, 5]), by decide +kernel,
    wDg_open _ _ _ _ (by decide +kernel) (by decide) (by decide), by decide +kernel,
    Prod.ext rfl (Prod.ext rfl (by decide +kernel)), by decide +kernel⟩,
   ⟨(wNode ({ State.reset with coreP.refHeld := false } : State) : State), _, (wDg 0x03 0xFFFF [0x01, 0x10, 0, 0, 0, 0, 1, 0, 5]),
    _, _, _, (wMsg 0x03 0xFFFF [0x01, 0x10, 0, 0, 0, 0, 1, 0, 5]), by decide +kernel,
    wDg_open _ _ _ _ (by decide +kernel) (by decide) (by decide), by decide +kernel,
    Prod.ext rfl (Prod.ext rfl rfl), by decide +kernel⟩,
   ⟨(wNode ({ State.reset with coreP.refHeld := false } : State) : State), _, (wDg 0x10 0xFFFF ([] : List Nat)),
    (wMsg 0x10 0xFFFF ([] : List Nat)), by decide +kernel,
    wDg_open _ _ _ _ (by decide +kernel) (by decide) (by decide), by decide +kernel, by decide +kernel⟩,
   ⟨(wNode ({ State.reset with coreP.refHeld := false } : State) : State), _, _, (wDg 0x10 3 [0, 0, 0, 2, 0]),
    (wMsg 0x10 3 [0, 0, 0, 2, 0]), odRANGE, by decide +kernel,
    wDg_open _ _ _ _ (by decide +kernel) (by decide) (by decide), by decide +kernel, by decide +kernel, rfl,
    by decide +kernel⟩,
   ⟨(((wNode ({ State.reset with coreP.refHeld := false } : State)).set SYS.MODE_MODE 0).set SYS.LC_STATE 1 : State),
    _, _, (wDg 0x10 3 [0x00, 0x33, 0, 0, 0, 8, 0, 0, 0, 0, 0, 0, 0]), (wMsg 0x10 3 [0x00, 0x33, 0, 0, 0, 8, 0, 0, 0, 0, 0, 0, 0]),
    by decide +kernel, wDg_open _ _ _ _ (by decide +kernel) (by decide) (by decide), by decide +kernel,
    by decide +kernel, rfl, by decide +kernel, by decide +kernel, by decide +kernel, by decide +kernel⟩,
   ⟨((wNode ({ State.reset with coreP.refHeld := false } : State)).set SYS.MODE_MODE 0 : State), _, _,
    (wDg 0x10 3 [0x01, 0x10, 0, 1, 0, 0, 0, 0, 0, 0, 0, 0, 0]), _, (wMsg 0x10 3 [0x01, 0x10, 0, 1, 0, 0, 0, 0, 0, 0, 0, 0, 0]),
    _, by decide +kernel, wDg_open _ _ _ _ (by decide +kernel) (by decide) (by decide), by decide +kernel,
    by decide +kernel, rfl, by decide +kernel, by decide +kernel, by decide +kernel, by decide +kernel, rfl, rfl⟩,
   ⟨(wNode ({ State.reset with coreP.refHeld := false } : State) : State), _, (wDg 0x11 3 ([] : List Nat)),
    (wMsg 0x11 3 ([] : List Nat)), (.xferData (wDg 0x11 3 ([] : List Nat))), by decide +kernel,
    wDg_open _ _ _ _ (by decide +kernel) (by decide) (by decide), by decide +kernel, by decide +kernel⟩,
   ⟨(State.setXfers (wNode ({ State.reset with coreP.refHeld := false } : State)) [wXfer] : State), _,
    (wDg 0x11 3 [0, 0, 0, 0, 6]), (wMsg 0x11 3 [0, 0, 0, 0, 6]), wXfer, by decide +kernel,
    wDg_open _ _ _ _ (by decide +kernel) (by decide) (by decide), by decide +kernel, by decide +kernel,
    by decide +kernel, by decide +kernel, by decide +kernel, by decide +kernel, by decide +kernel,
    by decide +kernel, by decide +kernel, by decide +kernel, by decide +kernel⟩,
   ⟨(State.setXfers (wNode ({ State.reset with coreP.refHeld := false } : State)) [wXfer] : State), _,
    (wDg 0x11 3 [0, 0, 0, 0, 6]), (wMsg 0x11 3 [0, 0, 0, 0, 6]), wXfer, ({ wXfer with data := [6], segs := 1 } : Xfer),
    by decide +kernel, wDg_open _ _ _ _ (by decide +kernel) (by decide) (by decide), by decide +kernel,
    by decide +kernel, by decide +kernel, by decide +kernel, by decide +kernel, by decide +kernel,
    by decide +kernel, by decide +kernel, by decide +kernel, by decide +kernel⟩,
   ⟨(State.setXfers (wNode ({ State.reset with coreP.refHeld := false } : State)) [({ wXfer with kind := 1 } : Xfer)] : State),
    _, (wDg 0x11 3 [0, 0, 0, 0, 6]), (wMsg 0x11 3 [0, 0, 0, 0, 6]), ({ wXfer with kind := 1 } : Xfer),
    ({ wXfer with kind := 1, data := [6], segs := 1 } : Xfer), by decide +kernel,
    wDg_open _ _ _ _ (by decide +kernel) (by decide) (by decide), by decide +kernel, by decide +kernel,
    by decide +kernel, by decide +kernel, by decide +kernel, by decide +kernel, by decide +kernel,
    by decide +kernel, by decide +kernel, by decide +kernel, by decide +kernel, by decide +kernel⟩,
   ⟨(State.setXfers (wNode ({ State.reset with coreP.refHeld := false } : State)) [({ wXfer with out := true } : Xfer)] : State),
    _, (wDg 0x11 3 [0, 0, 0, 0, 6]), (wMsg 0x11 3 [0, 0, 0, 0, 6]), ({ wXfer with out := true } : Xfer),
    by decide +kernel, wDg_open _ _ _ _ (by decide +kernel) (by decide) (by decide), by decide +kernel,
    by decide +kernel, by decide +kernel, by decide +kernel⟩,
   ⟨(State.setXfers (wNode ({ State.reset with coreP.refHeld := false } : State)) [wXfer] : State), _,
    (wDg 0x11 3 [0, 0, 0, 1, 6]), (wMsg 0x11 3 [0, 0, 0, 1, 6]), wXfer, by decide +kernel,
    wDg_open _ _ _ _ (by decide +kernel) (by decide) (by decide), by decide +kernel, by decide +kernel,
    by decide +kernel, by decide +kernel, by decide +kernel⟩,
   ⟨(State.setXfers (wNode ({ State.reset with coreP.refHeld := false } : State)) [wXfer] : State), _,
    (wDg 0x11 3 [1, 0, 0, 0, 6]), (wMsg 0x11 3 [1, 0, 0, 0, 6]), wXfer, by decide +kernel,
    wDg_open _ _ _ _ (by decide +kernel) (by decide) (by decide), by decide +kernel, by decide +kernel,
    by decide +kernel, by decide +kernel, by decide +kernel, by decide +kernel, by decide +kernel,
    by decide +kernel⟩,
   ⟨(State.setXfers (wNode ({ State.reset with coreP.refHeld := false } : State)) [wXfer] : State), _,
    (wDg 0x13 3 ([] : List Nat)), (wMsg 0x13 3 ([] : List Nat)), wXfer, by decide +kernel,
    wDg_open _ _ _ _ (by decide +kernel) (by decide) (by decide), by decide +kernel, by decide +kernel,
    by decide +kernel, by decide +kernel, by decide +kernel, by decide +kernel⟩,
   ⟨(State.setXfers (wNode ({ State.reset with coreP.refHeld := false } : State)) [wXfer] : State), _, _,
    (wDg 0x13 3 ([] : List Nat)), (wMsg 0x13 3 ([] : List Nat)), wXfer, _, by decide +kernel,
    wDg_open _ _ _ _ (by decide +kernel) (by decide) (by decide), by decide +kernel, by decide +kernel,
    by decide +kernel, by decide +kernel, (Prod.eta _).symm, by decide +kernel⟩,
   ⟨(State.setXfers (wNode ({ State.reset with coreP.refHeld := false } : State)) [({ wXfer with total := 0, crc := 1 } : Xfer)] : State),
    _, _, (wDg 0x13 3 ([] : List Nat)), (wMsg 0x13 3 ([] : List Nat)), ({ wXfer with total := 0, crc := 1 } : Xfer),
    _, by decide +kernel, wDg_open _ _ _ _ (by decide +kernel) (by decide) (by decide), by decide +kernel,
    by decide +kernel, by decide +kernel, by decide +kernel, (Prod.eta _).symm, by decide +kernel,
    by decide +kernel⟩,
   ⟨(State.setXfers (wNode ({ State.reset with coreP.refHeld := false } : State)) [wXfer] : State), _, _,
    (wDg 0x13 3 ([] : List Nat)), (wMsg 0x13 3 ([] : List Nat)), wXfer, _, by decide +kernel,
    wDg_open _ _ _ _ (by decide +kernel) (by decide) (by decide), by decide +kernel, by decide +kernel,
    by decide +kernel, by decide +kernel, (Prod.eta _).symm, by decide +kernel⟩,
   ⟨((State.setXfers (wNode ({ State.reset with coreP.refHeld := false } : State)) [({ wXfer with index := 0x0142, total := 1, data := [1], crc := crc32c [1] } : Xfer)]).set SYS.MODE_MODE 0 : State),
    _, _, (wDg 0x13 3 ([] : List Nat)), (wMsg 0x13 3 ([] : List Nat)), ({ wXfer with index := 0x0142, total := 1, data := [1], crc := crc32c [1] } : Xfer),
    _, by decide +kernel, wDg_open _ _ _ _ (by decide +kernel) (by decide) (by decide), by decide +kernel,
    by decide +kernel, by decide +kernel, by decide +kernel, (Prod.eta _).symm, by decide +kernel,
    by decide +kernel⟩,
   ⟨(State.setXfers (wNode ({ State.reset with coreP.refHeld := false } : State)) [({ wXfer with out := true } : Xfer)] : State),
    _, (wDg 0x13 3 ([] : List Nat)), (wMsg 0x13 3 ([] : List Nat)), ({ wXfer with out := true } : Xfer),
    by decide +kernel, wDg_open _ _ _ _ (by decide +kernel) (by decide) (by decide), by decide +kernel,
    by decide +kernel, by decide +kernel, by decide +kernel⟩,
   ⟨(State.setXfers (wNode ({ State.reset with coreP.refHeld := false } : State)) [{ wXfer with out := true }] : State),
    _, (wDg 0x12 3 [4, 0, 0, 0]), (wMsg 0x12 3 [4, 0, 0, 0]), ({ wXfer with out := true } : Xfer),
    by decide +kernel, wDg_open _ _ _ _ (by decide +kernel) (by decide) (by decide), by decide +kernel,
    by decide +kernel, by decide +kernel, by decide +kernel, by decide +kernel, by decide +kernel,
    by decide +kernel⟩,
   ⟨(State.setXfers (wNode ({ State.reset with coreP.refHeld := false } : State)) [({ wXfer with out := true } : Xfer)] : State),
    _, (wDg 0x12 3 [4, 0, 0, 0]), (wMsg 0x12 3 [4, 0, 0, 0]), ({ wXfer with out := true } : Xfer),
    ({ wXfer with out := true, next := 4 } : Xfer), by decide +kernel,
    wDg_open _ _ _ _ (by decide +kernel) (by decide) (by decide), by decide +kernel, by decide +kernel,
    by decide +kernel, by decide +kernel, by decide +kernel, by decide +kernel, by decide +kernel⟩,
   ⟨(State.setXfers (wNode ({ State.reset with coreP.refHeld := false } : State)) [wXfer] : State), _,
    (wDg 0x12 3 [4, 0, 0, 0]), (wMsg 0x12 3 [4, 0, 0, 0]), wXfer, by decide +kernel,
    wDg_open _ _ _ _ (by decide +kernel) (by decide) (by decide), by decide +kernel, by decide +kernel,
    by decide +kernel, by decide +kernel⟩,
   ⟨(State.setXfers (wNode ({ State.reset with coreP.refHeld := false } : State)) [wXfer] : State), _,
    (wDg 0x14 3 [1, 0]), (wMsg 0x14 3 [1, 0]), wXfer, by decide +kernel,
    wDg_open _ _ _ _ (by decide +kernel) (by decide) (by decide), by decide +kernel, by decide +kernel,
    by decide +kernel⟩⟩

theorem witness_TotSubscriptionsAndTimes :
    (∃ (s t : State) (d : List Nat) (m : TotMsg) (c : Instr), s.coreP.refHeld = false ∧ s.unsent.totOpen d = (t,
      some m) ∧ ((byteAt d 1 = 0x20 ∧ c = .subscribe d ∧ m.group = true) ∨ (byteAt d 1 = 0x30 ∧ c = .planMcast d ∧
      m.group = false) ∨ (byteAt d 1 = 0x23 ∧ c = .notifyAck d ∧ m.group = true) ∨ (s.mode = mdFAILSAFE ∧
      ((byteAt d 1 = 0x20 ∧ c = .subscribe d) ∨ (byteAt d 1 = 0x23 ∧ c = .notifyAck d) ∨ (byteAt d 1 = 0x30 ∧
      c = .planMcast d))))) ∧
    (∃ (s t : State) (d : List Nat) (m : TotMsg), s.coreP.refHeld = false ∧ s.mode ≠ mdFAILSAFE ∧
      s.unsent.totOpen d = (t, some m) ∧ byteAt d 1 = 0x20 ∧ m.group = false ∧ byteAt m.body 1 ≤ 2 ∧
      (byteAt m.body 1 = 2 ∨ (t.totGet (le16 m.body 2) (byteAt m.body 4)).1 = odOK) ∧ le16 m.body 7 ≠ 0 ∧
      (t.net.subs.find? fun x => x.is m.src (byteAt m.body 0)) = none ∧ t.net.subs.length < 16) ∧
    (∃ (s t : State) (d : List Nat) (m : TotMsg) (x y : Subscr), s.coreP.refHeld = false ∧ s.mode ≠ mdFAILSAFE ∧
      s.unsent.totOpen d = (t, some m) ∧ byteAt d 1 = 0x20 ∧ m.group = false ∧ byteAt m.body 1 ≤ 2 ∧
      (byteAt m.body 1 = 2 ∨ (t.totGet (le16 m.body 2) (byteAt m.body 4)).1 = odOK) ∧ le16 m.body 7 ≠ 0 ∧
      (t.net.subs.find? fun x => x.is m.src (byteAt m.body 0)) = some y ∧ x = { src := m.src, id := byteAt m.body 0, mode := byteAt m.body 1, index := le16 m.body 2, sub := byteAt m.body 4, minMs := le16 m.body 5, life := le16 m.body 7, conf := bitOf (byteAt m.hdr 9) 0, waiting := y.waiting, resends := y.resends, queued := y.queued, since := t.now, last := y.last }) ∧
    (∃ (s t : State) (d : List Nat) (m : TotMsg) (e : Nat), s.coreP.refHeld = false ∧ s.mode ≠ mdFAILSAFE ∧
      s.unsent.totOpen d = (t, some m) ∧ byteAt d 1 = 0x20 ∧ m.group = false ∧ le16 m.body 7 ≠ 0 ∧
      ((2 < byteAt m.body 1 ∧ e = odRANGE) ∨ (byteAt m.body 1 < 2 ∧
      e = (t.totGet (le16 m.body 2) (byteAt m.body 4)).1 ∧ e ≠ odOK) ∨ (byteAt m.body 1 = 2 ∧
      (t.net.subs.find? fun x => x.is m.src (byteAt m.body 0)) = none ∧ 16 ≤ t.net.subs.length ∧ e = odBUSY))) ∧
    (∃ (s t : State) (d : List Nat) (m : TotMsg), s.coreP.refHeld = false ∧ s.mode ≠ mdFAILSAFE ∧
      s.unsent.totOpen d = (t, some m) ∧ byteAt d 1 = 0x20 ∧ m.group = false ∧ le16 m.body 7 = 0) ∧
    (∃ (s t : State) (d p : List Nat) (m : TotMsg) (x : Subscr), s.coreP.refHeld = false ∧ s.mode ≠ mdFAILSAFE ∧
      s.unsent.totOpen d = (t, some m) ∧ byteAt d 1 = 0x23 ∧ m.group = false ∧ t.net.subs = [x] ∧ x.src = m.src ∧
      x.waiting = some p ∧ notifySeq p = le32 m.body 0 ∧ x.queued = []) ∧
    (∃ (s t : State) (d p : List Nat) (m : TotMsg) (x : Subscr), s.coreP.refHeld = false ∧ s.mode ≠ mdFAILSAFE ∧
      s.unsent.totOpen d = (t, some m) ∧ byteAt d 1 = 0x23 ∧ m.group = false ∧ t.net.subs = [x] ∧ x.src = m.src ∧
      x.waiting = some p ∧ notifySeq p = le32 m.body 0) ∧
    (∃ (s t : State) (d : List Nat) (m : TotMsg), s.coreP.refHeld = false ∧ s.mode ≠ mdFAILSAFE ∧
      s.unsent.totOpen d = (t, some m) ∧ byteAt d 1 = 0x23 ∧ m.group = false ∧ (∀ x ∈ t.net.subs, x.src = m.src →
      ∀ p, x.waiting = some p → notifySeq p ≠ le32 m.body 0)) ∧
    (∃ (s t : State) (d : List Nat) (m : TotMsg), s.coreP.refHeld = false ∧ s.mode ≠ mdFAILSAFE ∧
      s.unsent.totOpen d = (t, some m) ∧ byteAt d 1 = 0x30 ∧ m.group = true ∧ m.body.length < 20) ∧
    (∃ (s t v : State) (d : List Nat) (m : TotMsg), s.coreP.refHeld = false ∧ s.mode ≠ mdFAILSAFE ∧
      s.unsent.totOpen d = (t, some m) ∧ byteAt d 1 = 0x30 ∧ m.group = true ∧ 20 ≤ m.body.length ∧
      ((le64 m.body 4 = 0 ∧ v = t) ∨ (le64 m.body 4 ≠ 0 ∧
      v = ((t.odWrite 0x2020 1 3 (slice m.body 0 4)).2.odWrite 0x2020 2 4 (slice m.body 4 8)).2)) ∧
      (planEntry (byteAt m.body 18) v.nodeId (m.body.drop 20) = none ∨ cycAfter (le32 m.body 12) v.net.planSeq = false ∨ v.odReach 0x2100 true ≠ odOK)) ∧
    (∃ (s t v w : State) (d p : List Nat) (m : TotMsg), s.coreP.refHeld = false ∧ s.mode ≠ mdFAILSAFE ∧
      s.unsent.totOpen d = (t, some m) ∧ byteAt d 1 = 0x30 ∧ m.group = true ∧ 20 ≤ m.body.length ∧
      ((le64 m.body 4 = 0 ∧ v = t) ∨ (le64 m.body 4 ≠ 0 ∧
      v = ((t.odWrite 0x2020 1 3 (slice m.body 0 4)).2.odWrite 0x2020 2 4 (slice m.body 4 8)).2)) ∧
      planEntry (byteAt m.body 18) v.nodeId (m.body.drop 20) = some p ∧
      cycAfter (le32 m.body 12) v.net.planSeq = true ∧ v.odReach 0x2100 true = odOK ∧
      w = (v.planDisarm.odWrite 0x2100 0 12 p).2) ∧
    (∃ (s : State), s.coreP.refHeld = true) ∧
    (∃ (s : State) (k : Nat), s.coreP.refHeld = false ∧ s.net.subs.length ≤ k ∧ s.net.xfers.length ≤ k) ∧
    (∃ (s : State) (x : Xfer), s.coreP.refHeld = false ∧ s.net.xfers = [x] ∧ x.out = true ∧ x.host = false ∧
      x.resends < s.objNum 0x1036 0 3 % 256) ∧
    (∃ (s : State) (k : Nat) (x : Xfer), s.coreP.refHeld = false ∧ s.net.xfers[k]? = some x ∧ x.out = false) ∧
    (∃ (s : State) (k : Nat) (x : Xfer), s.coreP.refHeld = false ∧ s.net.xfers[k]? = some x ∧ x.out = true ∧
      x.resends < s.objNum 0x1036 0 3 % 256) ∧
    (∃ (s : State) (k : Nat) (x : Xfer), s.coreP.refHeld = false ∧ s.net.xfers[k]? = some x ∧ x.out = true ∧
      s.objNum 0x1036 0 3 % 256 ≤ x.resends) ∧
    (∃ (s : State) (k : Nat) (x : Xfer), s.coreP.refHeld = false ∧ s.net.xfers[k]? = some x ∧ x.host = true) ∧
    (∃ (s : State) (k : Nat) (x : Xfer), s.coreP.refHeld = false ∧ s.net.xfers[k]? = some x ∧ x.host = false) ∧
    (∃ (s : State) (x : Xfer), s.coreP.refHeld = false ∧ s.net.xfers = [x] ∧ x.host = false) ∧
    (∃ (s : State) (x : Subscr), s.coreP.refHeld = false ∧ s.net.subs = [x] ∧ x.mode = 1) ∧
    (∃ (s : State) (k : Nat) (x : Subscr) (p : List Nat), s.coreP.refHeld = false ∧ s.net.subs[k]? = some x ∧
      p = readEntry (toLe 2 x.index ++ [x.sub]) (s.unsent.totGet x.index x.sub) 1187 ∧ x.mode = 2) ∧
    (∃ (s : State) (k : Nat) (x : Subscr) (p : List Nat), s.coreP.refHeld = false ∧ s.net.subs[k]? = some x ∧
      p = readEntry (toLe 2 x.index ++ [x.sub]) (s.unsent.totGet x.index x.sub) 1187 ∧ x.mode = 0 ∧ p = x.last) ∧
    (∃ (s : State) (k : Nat) (x : Subscr) (p : List Nat), s.coreP.refHeld = false ∧ s.net.subs[k]? = some x ∧
      p = readEntry (toLe 2 x.index ++ [x.sub]) (s.unsent.totGet x.index x.sub) 1187 ∧ x.mode ≠ 2 ∧
      (x.mode ≠ 0 ∨ p ≠ x.last)) ∧
    (∃ (s : State) (x : Subscr) (p key : List Nat), s.coreP.refHeld = false ∧ s.net.subs = [x] ∧ x.waiting = some p ∧
      s.totKey (s.objNum 0x1034 0 0 % 256) = some key ∧ x.resends < s.objNum 0x1036 0 3 % 256) ∧
    (∃ (s : State) (k : Nat) (x : Subscr), s.coreP.refHeld = false ∧ s.net.subs[k]? = some x) ∧
    (∃ (s : State) (k : Nat) (x : Subscr), s.coreP.refHeld = false ∧ s.net.subs[k]? = some x ∧ x.waiting = none) ∧
    (∃ (s : State) (x : Subscr), s.coreP.refHeld = false ∧ s.net.subs = [x]) :=
  ⟨⟨(wNode ({ State.reset with coreP.refHeld := false } : State) : State), _, (wDg 0x20 0xFFFF ([] : List Nat)),
    (wMsg 0x20 0xFFFF ([] : List Nat)), (.subscribe (wDg 0x20 0xFFFF ([] : List Nat))), by decide +kernel,
    wDg_open _ _ _ _ (by decide +kernel) (by decide) (by decide), by decide +kernel⟩,
   ⟨(wNode ({ (wst [(SYS.MODE_MODE, 0, 0)]) with coreP.refHeld := false } : State) : State), _, (wDg 0x20 3 [4, 2, 0x01, 0x10, 0, 0, 0, 9, 0]),
    (wMsg 0x20 3 [4, 2, 0x01, 0x10, 0, 0, 0, 9, 0]), by decide +kernel, by decide +kernel,
    wDg_open _ _ _ _ (by decide +kernel) (by decide) (by decide), by decide +kernel, by decide +kernel,
    by decide +kernel, by decide +kernel, by decide +kernel, by decide +kernel, by decide +kernel⟩,
   ⟨(State.setSubs (wNode ({ (wst [(SYS.MODE_MODE, 0, 0)]) with coreP.refHeld := false } : State)) [wSubscr] : State),
    _, (wDg 0x20 3 [4, 2, 0x01, 0x10, 0, 0, 0, 9, 0]), (wMsg 0x20 3 [4, 2, 0x01, 0x10, 0, 0, 0, 9, 0]), _, wSubscr,
    by decide +kernel, by decide +kernel, wDg_open _ _ _ _ (by decide +kernel) (by decide) (by decide),
    by decide +kernel, by decide +kernel, by decide +kernel, by decide +kernel, by decide +kernel,
    by decide +kernel, rfl⟩,
   ⟨(wNode ({ (wst [(SYS.MODE_MODE, 0, 0)]) with coreP.refHeld := false } : State) : State), _, (wDg 0x20 3 [4, 3, 0x01, 0x10, 0, 0, 0, 9, 0]),
    (wMsg 0x20 3 [4, 3, 0x01, 0x10, 0, 0, 0, 9, 0]), odRANGE, by decide +kernel, by decide +kernel,
    wDg_open _ _ _ _ (by decide +kernel) (by decide) (by decide), by decide +kernel, by decide +kernel,
    by decide +kernel, by decide +kernel⟩,
   ⟨(State.setSubs (wNode ({ (wst [(SYS.MODE_MODE, 0, 0)]) with coreP.refHeld := false } : State)) [wSubscr] : State),
    _, (wDg 0x20 3 [4, 2, 0x01, 0x10, 0, 0, 0, 0, 0]), (wMsg 0x20 3 [4, 2, 0x01, 0x10, 0, 0, 0, 0, 0]),
    by decide +kernel, by decide +kernel, wDg_open _ _ _ _ (by decide +kernel) (by decide) (by decide),
    by decide +kernel, by decide +kernel, by decide +kernel⟩,
   ⟨(State.setSubs (wNode ({ (wst [(SYS.MODE_MODE, 0, 0)]) with coreP.refHeld := false } : State)) [wSubscr] : State),
    _, (wDg 0x23 3 [0, 0, 0, 0]), (4 :: List.replicate 7 0), (wMsg 0x23 3 [0, 0, 0, 0]), wSubscr,
    by decide +kernel, by decide +kernel, wDg_open _ _ _ _ (by decide +kernel) (by decide) (by decide),
    by decide +kernel, by decide +kernel, by decide +kernel, by decide +kernel, by decide +kernel,
    by decide +kernel, by decide +kernel⟩,
   ⟨(State.setSubs (wNode ({ (wst [(SYS.MODE_MODE, 0, 0)]) with coreP.refHeld := false } : State)) [wSubscr] : State),
    _, (wDg 0x23 3 [0, 0, 0, 0]), (4 :: List.replicate 7 0), (wMsg 0x23 3 [0, 0, 0, 0]), wSubscr,
    by decide +kernel, by decide +kernel, wDg_open _ _ _ _ (by decide +kernel) (by decide) (by decide),
    by decide +kernel, by decide +kernel, by decide +kernel, by decide +kernel, by decide +kernel,
    by decide +kernel⟩,
   ⟨(wNode ({ (wst [(SYS.MODE_MODE, 0, 0)]) with coreP.refHeld := false } : State) : State), _, (wDg 0x23 3 [0, 0, 0, 0]),
    (wMsg 0x23 3 [0, 0, 0, 0]), by decide +kernel, by decide +kernel,
    wDg_open _ _ _ _ (by decide +kernel) (by decide) (by decide), by decide +kernel, by decide +kernel,
    by decide +kernel⟩,
   ⟨(wNode ({ (wst [(SYS.MODE_MODE, 0, 0)]) with coreP.refHeld := false } : State) : State), _,
    (wDg 0x30 0xFFFF ([] : List Nat)), (wMsg 0x30 0xFFFF ([] : List Nat)), by decide +kernel, by decide +kernel,
    wDg_open _ _ _ _ (by decide +kernel) (by decide) (by decide), by decide +kernel, by decide +kernel,
    by decide +kernel⟩,
   ⟨(wNode ({ (wst [(SYS.MODE_MODE, 0, 0)]) with coreP.refHeld := false } : State) : State), _,
    ((wNode ({ (wst [(SYS.MODE_MODE, 0, 0)]) with coreP.refHeld := false } : State) : State).unsent.totSeen 8 0 : State),
    (wDg 0x30 0xFFFF (List.replicate 20 0)), (wMsg 0x30 0xFFFF (List.replicate 20 0)), by decide +kernel,
    by decide +kernel, wDg_open _ _ _ _ (by decide +kernel) (by decide) (by decide), by decide +kernel,
    by decide +kernel, by decide +kernel, by decide +kernel, by decide +kernel⟩,
   ⟨((wNode ({ (wst [(SYS.MODE_MODE, 0, 0)]) with coreP.refHeld := false } : State)).set SYS.MODE_MODE 0 : State), _,
    (((wNode ({ (wst [(SYS.MODE_MODE, 0, 0)]) with coreP.refHeld := false } : State)).set SYS.MODE_MODE 0 : State).unsent.totSeen 8 0 : State),
    _, (wDg 0x30 0xFFFF (List.replicate 12 0 ++ [1, 0, 0, 0, 0, 0, 1, 0] ++ [3, 0, 1, 0, 7])), [7],
    (wMsg 0x30 0xFFFF (List.replicate 12 0 ++ [1, 0, 0, 0, 0, 0, 1, 0] ++ [3, 0, 1, 0, 7])), by decide +kernel,
    by decide +kernel, wDg_open _ _ _ _ (by decide +kernel) (by decide) (by decide), by decide +kernel,
    by decide +kernel, by decide +kernel, by decide +kernel, by decide +kernel, by decide +kernel,
    by decide +kernel, rfl⟩,
   ⟨({ State.reset with coreP.refHeld := true } : State), by decide +kernel⟩,
   ⟨({ State.reset with coreP.refHeld := false } : State), 0, by decide +kernel⟩,
   ⟨({ ({ State.reset with coreP.refHeld := false } : State) with net.xfers := [({ src := 0, tid := 0, kid := 0, index := 0, sub := 0, out := true, kind := 0, total := 0, crc := 0, data := [], next := 0, segs := 0, resends := 0, host := false } : Xfer)] } : State),
    ({ src := 0, tid := 0, kid := 0, index := 0, sub := 0, out := true, kind := 0, total := 0, crc := 0, data := [], next := 0, segs := 0, resends := 0, host := false } : Xfer),
    by decide +kernel⟩,
   ⟨(State.setXfers ({ State.reset with coreP.refHeld := false } : State) [({ src := 0, tid := 0, kid := 0, index := 0, sub := 0, out := false, kind := 0, total := 0, crc := 0, data := [], next := 0, segs := 0, resends := 0, host := false } : Xfer)] : State),
    0, ({ src := 0, tid := 0, kid := 0, index := 0, sub := 0, out := false, kind := 0, total := 0, crc := 0, data := [], next := 0, segs := 0, resends := 0, host := false } : Xfer),
    by decide +kernel⟩,
   ⟨(State.setXfers ({ State.reset with coreP.refHeld := false } : State) [({ src := 0, tid := 0, kid := 0, index := 0, sub := 0, out := true, kind := 0, total := 0, crc := 0, data := [], next := 0, segs := 0, resends := 0, host := false } : Xfer)] : State),
    0, ({ src := 0, tid := 0, kid := 0, index := 0, sub := 0, out := true, kind := 0, total := 0, crc := 0, data := [], next := 0, segs := 0, resends := 0, host := false } : Xfer),
    by decide +kernel⟩,
   ⟨(((State.setXfers ({ State.reset with coreP.refHeld := false } : State) [({ wXfer with out := true } : Xfer)] : State).setObj 0x1036 0 [0, 0, 0, 0, 0, 0, 0, 0]) : State),
    0, ({ wXfer with out := true } : Xfer), by decide +kernel⟩,
   ⟨(State.setXfers ({ State.reset with coreP.refHeld := false } : State) [({ src := 0, tid := 0, kid := 0, index := 0, sub := 0, out := false, kind := 0, total := 0, crc := 0, data := [], next := 0, segs := 0, resends := 0, host := true } : Xfer)] : State),
    0, ({ src := 0, tid := 0, kid := 0, index := 0, sub := 0, out := false, kind := 0, total := 0, crc := 0, data := [], next := 0, segs := 0, resends := 0, host := true } : Xfer),
    by decide +kernel⟩,
   ⟨(State.setXfers ({ State.reset with coreP.refHeld := false } : State) [({ src := 0, tid := 0, kid := 0, index := 0, sub := 0, out := false, kind := 0, total := 0, crc := 0, data := [], next := 0, segs := 0, resends := 0, host := false } : Xfer)] : State),
    0, ({ src := 0, tid := 0, kid := 0, index := 0, sub := 0, out := false, kind := 0, total := 0, crc := 0, data := [], next := 0, segs := 0, resends := 0, host := false } : Xfer),
    by decide +kernel⟩,
   ⟨({ ({ State.reset with coreP.refHeld := false } : State) with net.xfers := [({ src := 0, tid := 0, kid := 0, index := 0, sub := 0, out := false, kind := 0, total := 0, crc := 0, data := [], next := 0, segs := 0, resends := 0, host := false } : Xfer)] } : State),
    ({ src := 0, tid := 0, kid := 0, index := 0, sub := 0, out := false, kind := 0, total := 0, crc := 0, data := [], next := 0, segs := 0, resends := 0, host := false } : Xfer),
    by decide +kernel⟩,
   ⟨({ ({ State.reset with coreP.refHeld := false } : State) with net.subs := [({ src := 0, id := 0, mode := 1, index := 0, sub := 0, minMs := 0, life := 0, conf := false, waiting := none, resends := 0, queued := [], since := 0, last := [] } : Subscr)] } : State),
    ({ src := 0, id := 0, mode := 1, index := 0, sub := 0, minMs := 0, life := 0, conf := false, waiting := none, resends := 0, queued := [], since := 0, last := [] } : Subscr),
    by decide +kernel⟩,
   ⟨(State.setSubs (State.setSubs ({ (wst [(SYS.MODE_MODE, 0, 0)]) with coreP.refHeld := false } : State) [({ src := 8, id := 4, mode := 2, index := 0x1001, sub := 0, minMs := 0, life := 9, conf := false, waiting := none, resends := 0, queued := [], since := 0, last := [] } : Subscr)] : State) [({ src := 8, id := 4, mode := 2, index := 0x1001, sub := 0, minMs := 0, life := 9, conf := false, waiting := none, resends := 0, queued := [], since := 0, last := [] } : Subscr)] : State),
    0, ({ src := 8, id := 4, mode := 2, index := 0x1001, sub := 0, minMs := 0, life := 9, conf := false, waiting := none, resends := 0, queued := [], since := 0, last := [] } : Subscr),
    _, by decide +kernel, by decide +kernel, rfl, by decide +kernel⟩,
   ⟨(State.setSubs (State.setSubs ({ (wst [(SYS.MODE_MODE, 0, 0)]) with coreP.refHeld := false } : State) [({ src := 8, id := 4, mode := 0, index := 0x1001, sub := 0, minMs := 0, life := 9, conf := false, waiting := none, resends := 0, queued := [], since := 0, last := readEntry (toLe 2 0x1001 ++ [0]) ((wst [(SYS.MODE_MODE, 0, 0)]).totGet 0x1001 0) 1187 } : Subscr)] : State) [({ src := 8, id := 4, mode := 0, index := 0x1001, sub := 0, minMs := 0, life := 9, conf := false, waiting := none, resends := 0, queued := [], since := 0, last := readEntry (toLe 2 0x1001 ++ [0]) ((wst [(SYS.MODE_MODE, 0, 0)]).totGet 0x1001 0) 1187 } : Subscr)] : State),
    0, ({ src := 8, id := 4, mode := 0, index := 0x1001, sub := 0, minMs := 0, life := 9, conf := false, waiting := none, resends := 0, queued := [], since := 0, last := readEntry (toLe 2 0x1001 ++ [0]) ((wst [(SYS.MODE_MODE, 0, 0)]).totGet 0x1001 0) 1187 } : Subscr),
    _, by decide +kernel, by decide +kernel, rfl, by decide +kernel, by decide +kernel⟩,
   ⟨(State.setSubs (State.setSubs ({ (wst [(SYS.MODE_MODE, 0, 0)]) with coreP.refHeld := false } : State) [({ src := 8, id := 4, mode := 1, index := 0x1001, sub := 0, minMs := 0, life := 9, conf := false, waiting := none, resends := 0, queued := [], since := 0, last := [] } : Subscr)] : State) [({ src := 8, id := 4, mode := 1, index := 0x1001, sub := 0, minMs := 0, life := 9, conf := false, waiting := none, resends := 0, queued := [], since := 0, last := [] } : Subscr)] : State),
    0, ({ src := 8, id := 4, mode := 1, index := 0x1001, sub := 0, minMs := 0, life := 9, conf := false, waiting := none, resends := 0, queued := [], since := 0, last := [] } : Subscr),
    _, by decide +kernel, by decide +kernel, rfl, by decide +kernel, by decide +kernel⟩,
   ⟨((State.setSubs (wNode ({ ({ State.reset with coreP.refHeld := false } : State) with net.subs := [wSubscr] } : State)) [wSubscr]).setObj 0x1034 0 [5] : State),
    wSubscr, (4 :: List.replicate 7 0), wKey, by decide +kernel⟩,
   ⟨(State.setSubs ({ State.reset with coreP.refHeld := false } : State) [({ src := 0, id := 0, mode := 1, index := 0, sub := 0, minMs := 0, life := 0, conf := false, waiting := none, resends := 0, queued := [], since := 0, last := [] } : Subscr)] : State),
    0, ({ src := 0, id := 0, mode := 1, index := 0, sub := 0, minMs := 0, life := 0, conf := false, waiting := none, resends := 0, queued := [], since := 0, last := [] } : Subscr),
    by decide +kernel⟩,
   ⟨(State.setSubs ({ State.reset with coreP.refHeld := false } : State) [({ src := 0, id := 0, mode := 1, index := 0, sub := 0, minMs := 0, life := 0, conf := false, waiting := none, resends := 0, queued := [], since := 0, last := [] } : Subscr)] : State),
    0, ({ src := 0, id := 0, mode := 1, index := 0, sub := 0, minMs := 0, life := 0, conf := false, waiting := none, resends := 0, queued := [], since := 0, last := [] } : Subscr),
    by decide +kernel⟩,
   ⟨({ ({ State.reset with coreP.refHeld := false } : State) with net.subs := [({ src := 0, id := 0, mode := 1, index := 0, sub := 0, minMs := 0, life := 0, conf := false, waiting := none, resends := 0, queued := [], since := 0, last := [] } : Subscr)] } : State),
    ({ src := 0, id := 0, mode := 1, index := 0, sub := 0, minMs := 0, life := 0, conf := false, waiting := none, resends := 0, queued := [], since := 0, last := [] } : Subscr),
    by decide +kernel⟩⟩

theorem witness_HostLink :
    (∃ (s : State), s.hlOn = true) ∧
    (∃ (s : State) (c : Instr) (f : List Nat) (k : Nat) (b : Bool), s.hlOn = false ∧ c ∈ [Instr.hlCsFall b, .hlFrameReject k f, .hlNop f, .hlSync f, .regRead f, .regWriteAt f, .regWriteNext f, .objRead f, .objWrite f]) ∧
    (∃ (c : Instr) (f : List Nat) (ty : Nat), byteAt f 1 ≠ ty ∧ (ty, c) ∈ [(0x00, Instr.hlNop f), (0x01, .hlSync f), (0x11, .regRead f), (0x12, .regWriteAt f), (0x13, .regWriteNext f), (0x20, .objRead f), (0x21, .objWrite f)]) ∧
    (∃ (s t : State) (f : List Nat) (k bit : Nat) (g : Fld), s.hlOn = true ∧ s.hlEnd k = t ∧ ((k < 512 ∧ bit = 2 ∧
      g = HLK.STATUS_SHORT) ∨ (512 < k ∧ bit = 3 ∧ g = HLK.STATUS_LONG) ∨ (k = 512 ∧
      (f.length ≠ 64 ∨ crc32c (f.take 60) ≠ le32 f 60) ∧ bit = 0 ∧ g = HLK.STATUS_BAD_CRC) ∨ (k = 512 ∧
      f.length = 64 ∧ crc32c (f.take 60) = le32 f 60 ∧ s.hlk.seen = true ∧ byteAt f 1 ≠ 1 ∧
      byteAt f 0 ≠ (s.get HLK.STATE_LAST_ALIVE + 1) % 256 ∧ bit = 1 ∧ g = HLK.STATUS_BAD_ALIVE) ∨ (k = 512 ∧
      f.length = 64 ∧ crc32c (f.take 60) = le32 f 60 ∧
      (s.hlk.seen = false ∨ byteAt f 1 = 1 ∨ byteAt f 0 = (s.get HLK.STATE_LAST_ALIVE + 1) % 256) ∧
      t.hlk.results.length < 8 ∧ s.hlTypeOk f = false ∧ bit = 5 ∧ g = HLK.STATUS_BAD_TYPE))) ∧
    (∃ (s t : State) (f : List Nat), s.hlOn = true ∧ s.hlEnd 512 = t ∧ f.length = 64 ∧ crc32c (f.take 60) = le32 f 60 ∧
      (s.hlk.seen = false ∨ byteAt f 1 = 1 ∨ byteAt f 0 = (s.get HLK.STATE_LAST_ALIVE + 1) % 256) ∧
      8 ≤ t.hlk.results.length) ∧
    (∃ (s : State) (f : List Nat) (p : Nat × Fld) (c : Instr), s.hlOn = true ∧ (s.hlEnd 512).hlCheck 512 f = some p ∧
      (byteAt f 1, c) ∈ [(0x00, Instr.hlNop f), (0x01, .hlSync f), (0x11, .regRead f), (0x12, .regWriteAt f), (0x13, .regWriteNext f), (0x20, .objRead f), (0x21, .objWrite f)]) ∧
    (∃ (s : State) (f : List Nat), s.hlOn = true ∧ (s.hlEnd 512).hlCheck 512 f = none) ∧
    (∃ (s t : State) (f : List Nat) (c : Instr), s.hlOn = true ∧ (s.hlEnd 512).hlCheck 512 f = none ∧
      t = (s.hlEnd 512).hlAccept f ∧ ((byteAt f 1 = 0 ∧ c = .hlNop f) ∨ (byteAt f 1 = 1 ∧ c = .hlSync f))) ∧
    (∃ (s : State) (f : List Nat), s.hlOn = true ∧ (s.hlEnd 512).hlCheck 512 f = none ∧ byteAt f 1 = 0x11 ∧
      byteAt f 3 = 1 ∧ 0x10000000 ≤ le32 f 4 ∧ le32 f 4 < 0x103FFFFC ∧ le32 f 4 % 4 = 0) ∧
    (∃ (s : State) (f : List Nat), s.hlOn = true ∧ (s.hlEnd 512).hlCheck 512 f = none ∧ byteAt f 1 = 0x12 ∧
      byteAt f 3 = 1 ∧ 0x10000000 ≤ le32 f 4 ∧ le32 f 4 < 0x103FFFFC ∧ le32 f 4 % 4 = 0) ∧
    (∃ (s : State) (f : List Nat) (a : Nat), s.hlOn = true ∧ (s.hlEnd 512).hlCheck 512 f = none ∧ byteAt f 1 = 0x13 ∧
      byteAt f 3 = 1 ∧ s.get HLK.STATE_PTR_VALID = 1 ∧ a = s.get HLK.PTR_ADDR ∧ 0x10000000 ≤ a ∧ a < 0x103FFFFC ∧
      a % 4 = 0) ∧
    (∃ (s t : State) (f : List Nat), s.hlOn = true ∧ (s.hlEnd 512).hlCheck 512 f = none ∧ byteAt f 1 = 0x13 ∧
      s.get HLK.STATE_PTR_VALID = 0 ∧ t = (s.hlEnd 512).hlAccept f) ∧
    (∃ (s t u v w : State) (f : List Nat) (a : Nat) (c : Instr) (b : List Nat), s.hlOn = true ∧
      (s.hlEnd 512).hlCheck 512 f = none ∧ t = (s.hlEnd 512).hlAccept f ∧ ((byteAt f 1 = 0x11 ∧ c = .regRead f ∧
      a = le32 f 4 ∧ t.busRead .hostLink a 4 = (.error, u) ∧ b = []) ∨ (byteAt f 1 = 0x12 ∧ c = .regWriteAt f ∧
      a = le32 f 4 ∧ t.busWrite .hostLink a 4 (le32 f 8) = (.error, u) ∧
      b = toLe 4 2147483648) ∨ (byteAt f 1 = 0x13 ∧ c = .regWriteNext f ∧ s.get HLK.STATE_PTR_VALID ≠ 0 ∧
      a = s.get HLK.PTR_ADDR ∧ t.busWrite .hostLink a 4 (le32 f 4) = (.error, u) ∧ b = toLe 4 2147483648)) ∧
      v = ((u.set HLK.STATE_PTR_VALID 0).set HLK.STATUS_BUS_ERR 1).bump HLK.CNT_BUSERR_COUNT HLK.STATUS_SAT ∧
      w = v.set HLK.ERR_INFO_ERR 2147483648) ∧
    (∃ (s t : State) (f : List Nat), s.hlOn = true ∧ (s.hlEnd 512).hlCheck 512 f = none ∧
      t = (s.hlEnd 512).hlAccept f ∧ byteAt f 1 = 0x11) ∧
    (∃ (s t : State) (f : List Nat), s.hlOn = true ∧ (s.hlEnd 512).hlCheck 512 f = none ∧
      t = (s.hlEnd 512).hlAccept f ∧ byteAt f 1 = 0x12) ∧
    (∃ (s t : State) (f : List Nat), s.hlOn = true ∧ (s.hlEnd 512).hlCheck 512 f = none ∧
      t = (s.hlEnd 512).hlAccept f ∧ byteAt f 1 = 0x13) ∧
    (∃ (s : State) (f : List Nat) (g : Nat × List Nat), s.hlOn = true ∧ (s.hlEnd 512).hlCheck 512 f = none ∧
      byteAt f 1 = 0x20 ∧ g = ((s.hlEnd 512).hlAccept f).hlGet (le16 f 4) (byteAt f 6) ∧ g.1 = odOK ∧
      le32 f 8 ≤ g.2.length) ∧
    (∃ (s : State) (f : List Nat) (g : Nat × List Nat), s.hlOn = true ∧ (s.hlEnd 512).hlCheck 512 f = none ∧
      byteAt f 1 = 0x20 ∧ g = ((s.hlEnd 512).hlAccept f).hlGet (le16 f 4) (byteAt f 6) ∧ g.1 = odOK ∧
      g.2.length < le32 f 8) ∧
    (∃ (s : State) (f : List Nat) (g : Nat × List Nat), s.hlOn = true ∧ (s.hlEnd 512).hlCheck 512 f = none ∧
      byteAt f 1 = 0x20 ∧ g = ((s.hlEnd 512).hlAccept f).hlGet (le16 f 4) (byteAt f 6) ∧ g.1 ≠ odOK) ∧
    (∃ (s t : State) (f : List Nat) (i sub : Nat), s.hlOn = true ∧ (s.hlEnd 512).hlCheck 512 f = none ∧
      byteAt f 1 = 0x21 ∧ t = (s.hlEnd 512).hlAccept f ∧ i = le16 f 4 ∧ sub = byteAt f 6 ∧
      t.hlStaged i sub = none ∧ le32 f 8 ≠ 0) ∧
    (∃ (s t : State) (f : List Nat) (i sub : Nat), s.hlOn = true ∧ (s.hlEnd 512).hlCheck 512 f = none ∧
      byteAt f 1 = 0x21 ∧ t = (s.hlEnd 512).hlAccept f ∧ i = le16 f 4 ∧ sub = byteAt f 6 ∧
      t.hlStaged i sub = none ∧ le32 f 8 = 0 ∧ byteAt f 18 = 1 ∧ le32 f 12 ≠ le16 f 16) ∧
    (∃ (s t u : State) (f : List Nat) (i sub e : Nat), s.hlOn = true ∧ (s.hlEnd 512).hlCheck 512 f = none ∧
      byteAt f 1 = 0x21 ∧ t = (s.hlEnd 512).hlAccept f ∧ i = le16 f 4 ∧ sub = byteAt f 6 ∧
      t.hlStaged i sub = none ∧ le32 f 8 = 0 ∧ byteAt f 18 = 1 ∧ le32 f 12 = le16 f 16 ∧
      t.odWrite i sub (byteAt f 7) (slice f 20 (le16 f 16)) = (e, u) ∧ (e ≠ odOK ∨ resetObj i = false)) ∧
    (∃ (s t u : State) (f : List Nat) (i sub : Nat), s.hlOn = true ∧ (s.hlEnd 512).hlCheck 512 f = none ∧
      byteAt f 1 = 0x21 ∧ t = (s.hlEnd 512).hlAccept f ∧ i = le16 f 4 ∧ sub = byteAt f 6 ∧
      t.hlStaged i sub = none ∧ le32 f 8 = 0 ∧ byteAt f 18 = 1 ∧ le32 f 12 = le16 f 16 ∧
      t.odWrite i sub (byteAt f 7) (slice f 20 (le16 f 16)) = (odOK, u) ∧ resetObj i = true) ∧
    (∃ (s t : State) (f : List Nat) (i sub e : Nat), s.hlOn = true ∧ (s.hlEnd 512).hlCheck 512 f = none ∧
      byteAt f 1 = 0x21 ∧ t = (s.hlEnd 512).hlAccept f ∧ i = le16 f 4 ∧ sub = byteAt f 6 ∧
      t.hlStaged i sub = none ∧ le32 f 8 = 0 ∧ byteAt f 18 = 0 ∧ ((e = t.odBar i sub ∧
      e ≠ odOK) ∨ (t.odBar i sub = odOK ∧ e = odBUSY ∧
      (t.xferOpen i sub = true ∨ 4 ≤ t.net.xfers.length)) ∨ (t.odBar i sub = odOK ∧ t.xferOpen i sub = false ∧
      t.net.xfers.length < 4 ∧ i ≠ 0x0130 ∧ 4194304 < le32 f 12 ∧ e = odNO_MEMORY) ∨ (t.odBar i sub = odOK ∧
      t.xferOpen i sub = false ∧ t.net.xfers.length < 4 ∧ i = 0x0130 ∧ s.get PWR.STATE_LEW ≠ 0 ∧
      e = odSTATE) ∨ (t.odBar i sub = odOK ∧ t.xferOpen i sub = false ∧ t.net.xfers.length < 4 ∧ i = 0x0130 ∧
      s.get PWR.STATE_LEW = 0 ∧ imgSize (sub - 1) < le32 f 12 ∧ e = odNO_MEMORY))) ∧
    (∃ (s t : State) (f : List Nat) (i sub : Nat) (x : Xfer), s.hlOn = true ∧ (s.hlEnd 512).hlCheck 512 f = none ∧
      byteAt f 1 = 0x21 ∧ t = (s.hlEnd 512).hlAccept f ∧ i = le16 f 4 ∧ sub = byteAt f 6 ∧
      t.hlStaged i sub = none ∧ le32 f 8 = 0 ∧ byteAt f 18 = 0 ∧ t.odBar i sub = odOK ∧ t.xferOpen i sub = false ∧
      t.net.xfers.length < 4 ∧ (i ≠ 0x0130 ∨ s.get PWR.STATE_LEW = 0) ∧
      le32 f 12 ≤ (if i = 0x0130 then imgSize (sub - 1) else 4194304) ∧ x = { src := 0, tid := 0, kid := 0, index := i, sub := sub, out := false, kind := 0, total := le32 f 12, crc := 0, data := [], next := 0, segs := 0, resends := 0, host := true }) ∧
    (∃ (s t : State) (f : List Nat) (i sub : Nat), s.hlOn = true ∧ (s.hlEnd 512).hlCheck 512 f = none ∧
      byteAt f 1 = 0x21 ∧ t = (s.hlEnd 512).hlAccept f ∧ i = le16 f 4 ∧ sub = byteAt f 6 ∧
      t.hlStaged i sub = none ∧ le32 f 8 = 0 ∧ byteAt f 18 = 0 ∧ t.odBar i sub = odOK ∧ t.xferOpen i sub = false ∧
      t.net.xfers.length < 4 ∧ i ≠ 0x0130 ∧ le32 f 12 ≤ 4194304 ∧ le16 f 16 ≤ le32 f 12) ∧
    (∃ (s t : State) (f : List Nat) (x y : Xfer), s.hlOn = true ∧ (s.hlEnd 512).hlCheck 512 f = none ∧
      byteAt f 1 = 0x21 ∧ t = (s.hlEnd 512).hlAccept f ∧ t.hlStaged (le16 f 4) (byteAt f 6) = some x ∧
      y = { x with data := x.data ++ slice f 20 (le16 f 16) } ∧ le32 f 8 = 0 ∧ byteAt f 18 = 1) ∧
    (∃ (s t : State) (f : List Nat) (x y : Xfer), s.hlOn = true ∧ (s.hlEnd 512).hlCheck 512 f = none ∧
      byteAt f 1 = 0x21 ∧ t = (s.hlEnd 512).hlAccept f ∧ t.hlStaged (le16 f 4) (byteAt f 6) = some x ∧
      y = { x with data := x.data ++ slice f 20 (le16 f 16) } ∧ (le32 f 8 ≠ 0 ∨ byteAt f 18 ≠ 1) ∧
      (le32 f 8 ≠ x.data.length ∨ x.total < y.data.length)) ∧
    (∃ (s t u : State) (f : List Nat) (x y : Xfer), s.hlOn = true ∧ (s.hlEnd 512).hlCheck 512 f = none ∧
      byteAt f 1 = 0x21 ∧ t = (s.hlEnd 512).hlAccept f ∧ t.hlStaged (le16 f 4) (byteAt f 6) = some x ∧
      y = { x with data := x.data ++ slice f 20 (le16 f 16) } ∧ byteAt f 18 = 0 ∧ le32 f 8 = x.data.length ∧
      y.data.length ≤ x.total ∧ u = ((t.hlUnstage x.index x.sub).imgSegment x (le32 f 8) (slice f 20 (le16 f 16)))) ∧
    (∃ (s t u : State) (f : List Nat) (x y : Xfer), s.hlOn = true ∧ (s.hlEnd 512).hlCheck 512 f = none ∧
      byteAt f 1 = 0x21 ∧ t = (s.hlEnd 512).hlAccept f ∧ t.hlStaged (le16 f 4) (byteAt f 6) = some x ∧
      y = { x with data := x.data ++ slice f 20 (le16 f 16) } ∧ byteAt f 18 = 1 ∧ le32 f 8 ≠ 0 ∧
      le32 f 8 = x.data.length ∧ y.data.length < x.total ∧
      u = ((t.hlUnstage x.index x.sub).imgSegment x (le32 f 8) (slice f 20 (le16 f 16)))) ∧
    (∃ (s t u : State) (f : List Nat) (x y : Xfer) (e : Nat), s.hlOn = true ∧ (s.hlEnd 512).hlCheck 512 f = none ∧
      byteAt f 1 = 0x21 ∧ t = (s.hlEnd 512).hlAccept f ∧ t.hlStaged (le16 f 4) (byteAt f 6) = some x ∧
      y = { x with data := x.data ++ slice f 20 (le16 f 16) } ∧ byteAt f 18 = 1 ∧ le32 f 8 ≠ 0 ∧
      le32 f 8 = x.data.length ∧ y.data.length = x.total ∧
      ((t.hlUnstage x.index x.sub).imgSegment x (le32 f 8) (slice f 20 (le16 f 16))).odPut x.index x.sub (byteAt f 7) y.data = (e,
      u) ∧ (e ≠ odOK ∨ resetObj x.index = false)) ∧
    (∃ (s : State) (x : Xfer), (s.net.xfers.find? fun y => y.host) = some x) ∧
    (∃ (s : State), (∀ y ∈ s.net.xfers, y.host = false)) :=
  ⟨⟨(wst [(HLK.CTRL_EN, 0, 1), (PWR.STATE_DOM, 0, 8)]), by decide +kernel⟩,
   ⟨State.reset, (.hlCsFall false), ([] : List Nat), 0, false, by decide +kernel⟩,
   ⟨(.hlNop [0, 5]), [0, 5], 0, by decide +kernel⟩,
   ⟨(wst [(HLK.CTRL_EN, 0, 1), (PWR.STATE_DOM, 0, 8)]), _, ([] : List Nat), 0, 2, HLK.STATUS_SHORT, by decide +kernel,
    rfl, by decide +kernel⟩,
   ⟨(({ ({ (wst [(HLK.CTRL_EN, 0, 1), (PWR.STATE_DOM, 0, 8)]) with hlk.seen := false } : State) with hlk.results := List.replicate 8 { typ := 0, tag := 0, eob := false, body := [] } } : State) : State),
    _, (wFr 0 0 []), by decide +kernel, rfl, by decide +kernel, by decide +kernel, by decide +kernel,
    by decide +kernel⟩,
   ⟨(wst [(HLK.CTRL_EN, 0, 1), (PWR.STATE_DOM, 0, 8)]), (wFr 0 1 []), ((5, HLK.STATUS_BAD_TYPE) : Nat × Fld),
    (.hlNop (wFr 0 1 [])), by decide +kernel⟩,
   ⟨(wst [(HLK.CTRL_EN, 0, 1), (PWR.STATE_DOM, 0, 8), (SYS.MODE_MODE, 0, 0), (HLK.CTRL_OBJ_EN, 0, 1), (HLK.CTRL_WR_EN, 0, 1)]),
    (wFr 0 0 []), by decide +kernel⟩,
   ⟨(wst [(HLK.CTRL_EN, 0, 1), (PWR.STATE_DOM, 0, 8)]), _, (wFr 0 0 []), (.hlNop (wFr 0 0 [])), by decide +kernel,
    by decide +kernel, rfl, by decide +kernel⟩,
   ⟨(wst [(HLK.CTRL_EN, 0, 1), (PWR.STATE_DOM, 0, 8)]), (wFr 0x11 1 (toLe 4 0x10000000)), by decide +kernel⟩,
   ⟨(wst [(HLK.CTRL_EN, 0, 1), (PWR.STATE_DOM, 0, 8), (HLK.CTRL_WR_EN, 0, 1)]),
    (wFr 0x12 1 (toLe 4 0x10000000 ++ toLe 4 77)), by decide +kernel⟩,
   ⟨(wst [(HLK.CTRL_EN, 0, 1), (PWR.STATE_DOM, 0, 8), (HLK.STATE_PTR_VALID, 0, 1), (HLK.CTRL_WR_EN, 0, 1), (HLK.PTR_ADDR, 0, 0x10000000)]),
    (wFr 0x13 1 (toLe 4 77)), 0x10000000, by decide +kernel⟩,
   ⟨(wst [(HLK.CTRL_EN, 0, 1), (PWR.STATE_DOM, 0, 8), (HLK.STATE_PTR_VALID, 0, 0), (SYS.MODE_MODE, 0, 0), (HLK.CTRL_OBJ_EN, 0, 1), (HLK.CTRL_WR_EN, 0, 1)]),
    _, (wFr 0x13 1 [0, 0, 0, 0]), by decide +kernel, by decide +kernel, by decide +kernel, by decide +kernel, rfl⟩,
   ⟨(wst [(HLK.CTRL_EN, 0, 1), (PWR.STATE_DOM, 0, 8), (SYS.MODE_MODE, 0, 0), (HLK.CTRL_OBJ_EN, 0, 1), (HLK.CTRL_WR_EN, 0, 1)]),
    _, (((((wst [(HLK.CTRL_EN, 0, 1), (PWR.STATE_DOM, 0, 8), (SYS.MODE_MODE, 0, 0), (HLK.CTRL_OBJ_EN, 0, 1), (HLK.CTRL_WR_EN, 0, 1)]).hlEnd 512).hlAccept (wFr 0x11 1 [0, 0, 0, 0xF0]) : State).busRead .hostLink (le32 (wFr 0x11 1 [0, 0, 0, 0xF0]) 4) 4).2 : State),
    _, _, (wFr 0x11 1 [0, 0, 0, 0xF0]), (le32 (wFr 0x11 1 [0, 0, 0, 0xF0]) 4), (.regRead (wFr 0x11 1 [0, 0, 0, 0xF0])),
    ([] : List Nat), by decide +kernel, by decide +kernel, rfl, by decide +kernel, rfl, rfl⟩,
   ⟨(wst [(HLK.CTRL_EN, 0, 1), (PWR.STATE_DOM, 0, 8), (SYS.MODE_MODE, 0, 0), (HLK.CTRL_OBJ_EN, 0, 1), (HLK.CTRL_WR_EN, 0, 1)]),
    _, (wFr 0x11 1 [0, 0, 0, 0x10]), by decide +kernel, by decide +kernel, rfl, by decide +kernel⟩,
   ⟨(wst [(HLK.CTRL_EN, 0, 1), (PWR.STATE_DOM, 0, 8), (SYS.MODE_MODE, 0, 0), (HLK.CTRL_OBJ_EN, 0, 1), (HLK.CTRL_WR_EN, 0, 1)]),
    _, (wFr 0x12 1 [0, 0, 0, 0x10, 0, 0, 0, 0]), by decide +kernel, by decide +kernel, rfl, by decide +kernel⟩,
   ⟨(wst [(HLK.CTRL_EN, 0, 1), (PWR.STATE_DOM, 0, 8), (SYS.MODE_MODE, 0, 0), (HLK.CTRL_OBJ_EN, 0, 1), (HLK.CTRL_WR_EN, 0, 1)]),
    _, (wFr 0x13 1 [0, 0, 0, 0]), by decide +kernel, by decide +kernel, rfl, by decide +kernel⟩,
   ⟨(wst [(HLK.CTRL_EN, 0, 1), (PWR.STATE_DOM, 0, 8), (SYS.MODE_MODE, 0, 0), (HLK.CTRL_OBJ_EN, 0, 1), (HLK.CTRL_WR_EN, 0, 1)]),
    (wFr 0x20 0 [0x01, 0x10, 0, 0, 0, 0, 0, 0]), _, by decide +kernel, by decide +kernel, by decide +kernel, rfl,
    by decide +kernel, by decide +kernel⟩,
   ⟨(wst [(HLK.CTRL_EN, 0, 1), (PWR.STATE_DOM, 0, 8), (SYS.MODE_MODE, 0, 0), (HLK.CTRL_OBJ_EN, 0, 1), (HLK.CTRL_WR_EN, 0, 1)]),
    (wFr 0x20 0 [0x01, 0x10, 0, 0, 0, 0, 0, 1]), _, by decide +kernel, by decide +kernel, by decide +kernel, rfl,
    by decide +kernel, by decide +kernel⟩,
   ⟨(wst [(HLK.CTRL_EN, 0, 1), (PWR.STATE_DOM, 0, 8), (SYS.MODE_MODE, 0, 0), (HLK.CTRL_OBJ_EN, 0, 1), (HLK.CTRL_WR_EN, 0, 1)]),
    (wFr 0x20 0 [0xFF, 0xFF, 0, 0, 0, 0, 0, 0]), _, by decide +kernel, by decide +kernel, by decide +kernel, rfl,
    by decide +kernel⟩,
   ⟨(wst [(HLK.CTRL_EN, 0, 1), (PWR.STATE_DOM, 0, 8), (SYS.MODE_MODE, 0, 0), (HLK.CTRL_OBJ_EN, 0, 1), (HLK.CTRL_WR_EN, 0, 1)]),
    _, (wFr 0x21 0 [1, 16, 0, 0, 4, 0, 0, 0, 8, 0, 0, 0, 1, 0, 0, 0, 7]), (le16 (wFr 0x21 0 [1, 16, 0, 0, 4, 0, 0, 0, 8, 0, 0, 0, 1, 0, 0, 0, 7]) 4),
    (byteAt (wFr 0x21 0 [1, 16, 0, 0, 4, 0, 0, 0, 8, 0, 0, 0, 1, 0, 0, 0, 7]) 6), by decide +kernel,
    by decide +kernel, by decide +kernel, rfl, by decide +kernel, by decide +kernel, by decide +kernel,
    by decide +kernel⟩,
   ⟨(wst [(HLK.CTRL_EN, 0, 1), (PWR.STATE_DOM, 0, 8), (SYS.MODE_MODE, 0, 0), (HLK.CTRL_OBJ_EN, 0, 1), (HLK.CTRL_WR_EN, 0, 1)]),
    _, (wFr 0x21 0 [1, 16, 0, 0, 0, 0, 0, 0, 8, 0, 0, 0, 1, 0, 1, 0, 7]), (le16 (wFr 0x21 0 [1, 16, 0, 0, 0, 0, 0, 0, 8, 0, 0, 0, 1, 0, 1, 0, 7]) 4),
    (byteAt (wFr 0x21 0 [1, 16, 0, 0, 0, 0, 0, 0, 8, 0, 0, 0, 1, 0, 1, 0, 7]) 6), by decide +kernel,
    by decide +kernel, by decide +kernel, rfl, by decide +kernel, by decide +kernel, by decide +kernel,
    by decide +kernel, by decide +kernel, by decide +kernel⟩,
   ⟨(wst [(HLK.CTRL_EN, 0, 1), (PWR.STATE_DOM, 0, 8), (SYS.MODE_MODE, 0, 0), (HLK.CTRL_OBJ_EN, 0, 1), (HLK.CTRL_WR_EN, 0, 1)]),
    _, _, (wFr 0x21 0 [1, 16, 0, 0, 0, 0, 0, 0, 1, 0, 0, 0, 1, 0, 1, 0, 7]), (le16 (wFr 0x21 0 [1, 16, 0, 0, 0, 0, 0, 0, 1, 0, 0, 0, 1, 0, 1, 0, 7]) 4),
    (byteAt (wFr 0x21 0 [1, 16, 0, 0, 0, 0, 0, 0, 1, 0, 0, 0, 1, 0, 1, 0, 7]) 6), _, by decide +kernel,
    by decide +kernel, by decide +kernel, rfl, by decide +kernel, by decide +kernel, by decide +kernel,
    by decide +kernel, by decide +kernel, by decide +kernel, (Prod.eta _).symm, by decide +kernel⟩,
   ⟨(wst [(HLK.CTRL_EN, 0, 1), (PWR.STATE_DOM, 0, 8), (SYS.MODE_MODE, 0, 0), (HLK.CTRL_OBJ_EN, 0, 1), (HLK.CTRL_WR_EN, 0, 1)]),
    _, _, (wFr 0x21 0 [66, 1, 0, 1, 0, 0, 0, 0, 1, 0, 0, 0, 1, 0, 1, 0, 1]), (le16 (wFr 0x21 0 [66, 1, 0, 1, 0, 0, 0, 0, 1, 0, 0, 0, 1, 0, 1, 0, 1]) 4),
    (byteAt (wFr 0x21 0 [66, 1, 0, 1, 0, 0, 0, 0, 1, 0, 0, 0, 1, 0, 1, 0, 1]) 6), by decide +kernel,
    by decide +kernel, by decide +kernel, rfl, by decide +kernel, by decide +kernel, by decide +kernel,
    by decide +kernel, by decide +kernel, by decide +kernel, Prod.ext (by decide +kernel) rfl, by decide +kernel⟩,
   ⟨(wst [(HLK.CTRL_EN, 0, 1), (PWR.STATE_DOM, 0, 8), (SYS.MODE_MODE, 0, 0), (HLK.CTRL_OBJ_EN, 0, 1), (HLK.CTRL_WR_EN, 0, 1)]),
    _, (wFr 0x21 0 [1, 16, 0, 0, 0, 0, 0, 0, 1, 0, 64, 0, 1, 0, 0, 0, 7]), (le16 (wFr 0x21 0 [1, 16, 0, 0, 0, 0, 0, 0, 1, 0, 64, 0, 1, 0, 0, 0, 7]) 4),
    (byteAt (wFr 0x21 0 [1, 16, 0, 0, 0, 0, 0, 0, 1, 0, 64, 0, 1, 0, 0, 0, 7]) 6), odNO_MEMORY, by decide +kernel,
    by decide +kernel, by decide +kernel, rfl, by decide +kernel, by decide +kernel, by decide +kernel,
    by decide +kernel, by decide +kernel, by decide +kernel⟩,
   ⟨(wst [(HLK.CTRL_EN, 0, 1), (PWR.STATE_DOM, 0, 8), (SYS.MODE_MODE, 0, 0), (HLK.CTRL_OBJ_EN, 0, 1), (HLK.CTRL_WR_EN, 0, 1)]),
    _, (wFr 0x21 0 [1, 16, 0, 0, 0, 0, 0, 0, 8, 0, 0, 0, 1, 0, 0, 0, 7]), (le16 (wFr 0x21 0 [1, 16, 0, 0, 0, 0, 0, 0, 8, 0, 0, 0, 1, 0, 0, 0, 7]) 4),
    (byteAt (wFr 0x21 0 [1, 16, 0, 0, 0, 0, 0, 0, 8, 0, 0, 0, 1, 0, 0, 0, 7]) 6), _, by decide +kernel,
    by decide +kernel, by decide +kernel, rfl, by decide +kernel, by decide +kernel, by decide +kernel,
    by decide +kernel, by decide +kernel, by decide +kernel, by decide +kernel, by decide +kernel,
    by decide +kernel, by decide +kernel, rfl⟩,
   ⟨(wst [(HLK.CTRL_EN, 0, 1), (PWR.STATE_DOM, 0, 8), (SYS.MODE_MODE, 0, 0), (HLK.CTRL_OBJ_EN, 0, 1), (HLK.CTRL_WR_EN, 0, 1)]),
    _, (wFr 0x21 0 [1, 16, 0, 0, 0, 0, 0, 0, 8, 0, 0, 0, 1, 0, 0, 0, 7]), (le16 (wFr 0x21 0 [1, 16, 0, 0, 0, 0, 0, 0, 8, 0, 0, 0, 1, 0, 0, 0, 7]) 4),
    (byteAt (wFr 0x21 0 [1, 16, 0, 0, 0, 0, 0, 0, 8, 0, 0, 0, 1, 0, 0, 0, 7]) 6), by decide +kernel,
    by decide +kernel, by decide +kernel, rfl, by decide +kernel, by decide +kernel, by decide +kernel,
    by decide +kernel, by decide +kernel, by decide +kernel, by decide +kernel, by decide +kernel,
    by decide +kernel, by decide +kernel, by decide +kernel⟩,
   ⟨(State.setXfers (wst [(HLK.CTRL_EN, 0, 1), (PWR.STATE_DOM, 0, 8), (SYS.MODE_MODE, 0, 0), (HLK.CTRL_OBJ_EN, 0, 1), (HLK.CTRL_WR_EN, 0, 1)]) [({ src := 0, tid := 0, kid := 0, index := 0x1001, sub := 0, out := false, kind := 0, total := 8, crc := 0, data := [], next := 0, segs := 0, resends := 0, host := true } : Xfer)] : State),
    _, (wFr 0x21 0 [1, 16, 0, 0, 0, 0, 0, 0, 8, 0, 0, 0, 0, 0, 1, 0]), ({ src := 0, tid := 0, kid := 0, index := 0x1001, sub := 0, out := false, kind := 0, total := 8, crc := 0, data := [], next := 0, segs := 0, resends := 0, host := true } : Xfer),
    _, by decide +kernel, by decide +kernel, by decide +kernel, rfl, by decide +kernel, rfl, by decide +kernel,
    by decide +kernel⟩,
   ⟨(State.setXfers (wst [(HLK.CTRL_EN, 0, 1), (PWR.STATE_DOM, 0, 8), (SYS.MODE_MODE, 0, 0), (HLK.CTRL_OBJ_EN, 0, 1), (HLK.CTRL_WR_EN, 0, 1)]) [({ src := 0, tid := 0, kid := 0, index := 0x1001, sub := 0, out := false, kind := 0, total := 8, crc := 0, data := [], next := 0, segs := 0, resends := 0, host := true } : Xfer)] : State),
    _, (wFr 0x21 0 [1, 16, 0, 0, 4, 0, 0, 0, 8, 0, 0, 0, 0, 0, 0, 0]), ({ src := 0, tid := 0, kid := 0, index := 0x1001, sub := 0, out := false, kind := 0, total := 8, crc := 0, data := [], next := 0, segs := 0, resends := 0, host := true } : Xfer),
    _, by decide +kernel, by decide +kernel, by decide +kernel, rfl, by decide +kernel, rfl, by decide +kernel,
    by decide +kernel⟩,
   ⟨(State.setXfers (wst [(HLK.CTRL_EN, 0, 1), (PWR.STATE_DOM, 0, 8), (SYS.MODE_MODE, 0, 0), (HLK.CTRL_OBJ_EN, 0, 1), (HLK.CTRL_WR_EN, 0, 1)]) [({ src := 0, tid := 0, kid := 0, index := 0x1001, sub := 0, out := false, kind := 0, total := 8, crc := 0, data := [], next := 0, segs := 0, resends := 0, host := true } : Xfer)] : State),
    _, _, (wFr 0x21 0 [1, 16, 0, 0, 0, 0, 0, 0, 8, 0, 0, 0, 1, 0, 0, 0, 7]), ({ src := 0, tid := 0, kid := 0, index := 0x1001, sub := 0, out := false, kind := 0, total := 8, crc := 0, data := [], next := 0, segs := 0, resends := 0, host := true } : Xfer),
    _, by decide +kernel, by decide +kernel, by decide +kernel, rfl, by decide +kernel, rfl, by decide +kernel,
    by decide +kernel, by decide +kernel, rfl⟩,
   ⟨(State.setXfers (wst [(HLK.CTRL_EN, 0, 1), (PWR.STATE_DOM, 0, 8), (SYS.MODE_MODE, 0, 0), (HLK.CTRL_OBJ_EN, 0, 1), (HLK.CTRL_WR_EN, 0, 1)]) [({ src := 0, tid := 0, kid := 0, index := 0x1001, sub := 0, out := false, kind := 0, total := 8, crc := 0, data := [6], next := 0, segs := 0, resends := 0, host := true } : Xfer)] : State),
    _, _, (wFr 0x21 0 [1, 16, 0, 0, 1, 0, 0, 0, 8, 0, 0, 0, 1, 0, 1, 0, 7]), ({ src := 0, tid := 0, kid := 0, index := 0x1001, sub := 0, out := false, kind := 0, total := 8, crc := 0, data := [6], next := 0, segs := 0, resends := 0, host := true } : Xfer),
    _, by decide +kernel, by decide +kernel, by decide +kernel, rfl, by decide +kernel, rfl, by decide +kernel,
    by decide +kernel, by decide +kernel, by decide +kernel, rfl⟩,
   ⟨(State.setXfers (wst [(HLK.CTRL_EN, 0, 1), (PWR.STATE_DOM, 0, 8), (SYS.MODE_MODE, 0, 0), (HLK.CTRL_OBJ_EN, 0, 1), (HLK.CTRL_WR_EN, 0, 1)]) [({ src := 0, tid := 0, kid := 0, index := 0x1001, sub := 0, out := false, kind := 0, total := 2, crc := 0, data := [6], next := 0, segs := 0, resends := 0, host := true } : Xfer)] : State),
    _, _, (wFr 0x21 0 [1, 16, 0, 0, 1, 0, 0, 0, 2, 0, 0, 0, 1, 0, 1, 0, 7]), ({ src := 0, tid := 0, kid := 0, index := 0x1001, sub := 0, out := false, kind := 0, total := 2, crc := 0, data := [6], next := 0, segs := 0, resends := 0, host := true } : Xfer),
    _, _, by decide +kernel, by decide +kernel, by decide +kernel, rfl, by decide +kernel, rfl, by decide +kernel,
    by decide +kernel, by decide +kernel, by decide +kernel, (Prod.eta _).symm, by decide +kernel⟩,
   ⟨(State.setXfers State.reset [({ src := 0, tid := 0, kid := 0, index := 0x1001, sub := 0, out := false, kind := 0, total := 8, crc := 0, data := [], next := 0, segs := 0, resends := 0, host := true } : Xfer)] : State),
    ({ src := 0, tid := 0, kid := 0, index := 0x1001, sub := 0, out := false, kind := 0, total := 8, crc := 0, data := [], next := 0, segs := 0, resends := 0, host := true } : Xfer),
    by decide +kernel⟩,
   ⟨State.reset, by decide +kernel⟩⟩

theorem witness_QueueOperations :
    (∃ (s : State) (q : Nat) (m : Master), reachesData m = true ∧ s.get QUE.QCFG_EN q ≠ 0 ∧
      (s.queWords q).length + s.get QUE.LEVEL_RSV q < (s.get QUE.QCFG_DEPTH q + 1) * 64 ∧
      (s.queWords q).length ≠ s.get QUE.WM_WM q) ∧
    (∃ (s : State) (q : Nat) (m : Master), reachesData m = true ∧ s.get QUE.QCFG_EN q ≠ 0 ∧
      (s.queWords q).length + s.get QUE.LEVEL_RSV q < (s.get QUE.QCFG_DEPTH q + 1) * 64 ∧
      (s.queWords q).length = s.get QUE.WM_WM q) ∧
    (∃ (s : State) (q : Nat) (m : Master), reachesData m = true ∧
      (s.get QUE.QCFG_EN q = 0 ∨ (s.get QUE.QCFG_DEPTH q + 1) * 64 ≤ (s.queWords q).length + s.get QUE.LEVEL_RSV q)) ∧
    (∃ (s : State) (q w : Nat) (r : List Nat) (m : Master), reachesData m = true ∧ s.queWords q = w :: r ∧
      r.length ≠ s.get QUE.WM_WM q) ∧
    (∃ (s : State) (q w : Nat) (r : List Nat) (m : Master), reachesData m = true ∧ s.queWords q = w :: r ∧
      r.length = s.get QUE.WM_WM q) ∧
    (∃ (s : State) (q : Nat) (m : Master), reachesData m = true ∧ s.queWords q = []) ∧
    (∃ (s : State) (q : Nat) (m : Master), reachesData m = true ∧ s.get QUE.QCFG_EN q ≠ 0 ∧
      s.get QUE.LEVEL_RSV q < (s.get QUE.QCFG_DEPTH q + 1) * 64) ∧
    (∃ (s : State) (q : Nat) (m : Master), reachesData m = true ∧
      (s.get QUE.QCFG_EN q = 0 ∨ (s.get QUE.QCFG_DEPTH q + 1) * 64 ≤ s.get QUE.LEVEL_RSV q)) ∧
    (∃ (m : Master), reachesData m = true) ∧
    (∃ (s : State) (q : Nat), s.get QUE.QCFG_EN q ≠ 0) ∧
    (∃ (s : State) (q base depth : Nat), s.get QUE.QCFG_EN q = 0 ∧ s.queWords q = [] ∧
      ((s.set QUE.QCFG_BASE base q).set QUE.QCFG_DEPTH depth q).queClash q = false) ∧
    (∃ (s u : State) (q base depth : Nat), s.get QUE.QCFG_EN q = 0 ∧
      u = (s.set QUE.QCFG_BASE base q).set QUE.QCFG_DEPTH depth q ∧ u.queClash q = true) ∧
    (∃ (s u : State) (q base depth : Nat), s.get QUE.QCFG_EN q = 0 ∧
      u = (s.set QUE.QCFG_BASE base q).set QUE.QCFG_DEPTH depth q ∧ u.queClash q = false) ∧
    (∃ (s : State) (q base depth : Nat), s.get QUE.QCFG_EN q = 0 ∧ base < 256 ∧ depth < 256 ∧ 255 < base + depth) ∧
    (∃ (s : State) (q p base depth : Nat), q < 16 ∧ p < 16 ∧ q ≠ p ∧ s.get QUE.QCFG_EN q = 0 ∧ base < 256 ∧
      depth < 256 ∧ s.get QUE.QCFG_EN p ≠ 0 ∧ base ≤ s.get QUE.QCFG_BASE p + s.get QUE.QCFG_DEPTH p ∧
      s.get QUE.QCFG_BASE p ≤ base + depth) ∧
    (∃ (s : State) (q : Nat), s.get QUE.QCFG_EN q = 0) ∧
    (∃ (s : State) (q : Nat), s.get QUE.QCFG_EN q ≠ 0) :=
  ⟨⟨(wst [(QUE.QCFG_EN, 0, 1), (QUE.WM_WM, 0, 9)]), 0, Master.coreP, by decide +kernel⟩,
   ⟨(wst [(QUE.QCFG_EN, 0, 1)]), 0, Master.coreP, by decide +kernel⟩,
   ⟨(wst [(QUE.QCFG_EN, 0, 0)]), 0, Master.coreP, by decide +kernel⟩,
   ⟨({ (wst [(QUE.WM_WM, 0, 9)]) with que := Tab.set [] [] 0 (5 :: ([] : List Nat)) } : State), 0, 5, ([] : List Nat),
    Master.coreP, by decide +kernel⟩,
   ⟨({ State.reset with que := Tab.set [] [] 0 (5 :: ([] : List Nat)) } : State), 0, 5, ([] : List Nat),
    Master.coreP, by decide +kernel⟩,
   ⟨({ State.reset with que := Tab.set [] [] 0 ([]) } : State), 0, Master.coreP, by decide +kernel⟩,
   ⟨(wst [(QUE.QCFG_EN, 0, 1)]), 0, Master.coreP, by decide +kernel⟩,
   ⟨(wst [(QUE.QCFG_EN, 0, 0)]), 0, Master.coreP, by decide +kernel⟩,
   ⟨Master.coreP, by decide +kernel⟩,
   ⟨(wst [(QUE.QCFG_EN, 0, 1)]), 0, by decide +kernel⟩,
   ⟨({ (wst [(QUE.QCFG_EN, 0, 0)]) with que := Tab.set [] [] 0 ([]) } : State), 0, 0, 0, by decide +kernel⟩,
   ⟨(wst [(QUE.QCFG_EN, 0, 0)]), (((wst [(QUE.QCFG_EN, 0, 0)]).set QUE.QCFG_BASE 200 0).set QUE.QCFG_DEPTH 255 0), 0,
    200, 255, by decide +kernel⟩,
   ⟨(wst [(QUE.QCFG_EN, 0, 0)]), (((wst [(QUE.QCFG_EN, 0, 0)]).set QUE.QCFG_BASE 0 0).set QUE.QCFG_DEPTH 0 0), 0, 0,
    0, by decide +kernel⟩,
   ⟨(wst [(QUE.QCFG_EN, 0, 0)]), 0, 200, 56, by decide +kernel⟩,
   ⟨(wst [(QUE.QCFG_EN, 0, 0), (QUE.QCFG_EN, 1, 1)]), 0, 1, 0, 0, by decide +kernel⟩,
   ⟨(wst [(QUE.QCFG_EN, 0, 0)]), 0, by decide +kernel⟩,
   ⟨(wst [(QUE.QCFG_EN, 0, 1)]), 0, by decide +kernel⟩⟩

theorem witness_ClocksAndLossOfLock :
    (∃ (s : State), s.coreP.pllLocked = true) ∧
    (∃ (s : State), s.coreP.pllLocked = false) ∧
    (∃ (s : State), s.coreP.pllLocked = false ∧ s.get CLK.STATE_PLL_STATE = 1) ∧
    (∃ (s : State), (s.coreP.pllLocked = true ∨ s.get CLK.STATE_PLL_STATE ≠ 1)) ∧
    (∃ (s : State), (s.coreP.pllLocked = false ∨ s.get CLK.STATE_PLL_STATE ≠ 1)) ∧
    (∃ (s : State), s.coreP.pllLocked = true ∧ s.get CLK.STATE_PLL_STATE = 1 ∧ s.get CLK.CTRL_AUTO_RETURN = 0) ∧
    (∃ (s : State), s.coreP.pllLocked = true ∧ s.get CLK.STATE_PLL_STATE = 1 ∧ s.get CLK.CTRL_AUTO_RETURN ≠ 0) ∧
    (∃ (s : State), s.get CLK.STATE_PLL_STATE < 2) ∧
    (∃ (s : State), 2 ≤ s.get CLK.STATE_PLL_STATE ∧ s.get CLK.STATE_ON_BYPASS = 0) ∧
    (∃ (s : State), 2 ≤ s.get CLK.STATE_PLL_STATE ∧ s.get CLK.STATE_ON_BYPASS ≠ 0) ∧
    (∃ (m : Master), m ≠ .coreP) ∧
    (∃ (s : State) (m : Master) (v : Nat), (m ≠ .coreP ∨ s.bit PWR.STATE_DOM 0 = true ∨ v < 12 ∨ 24 < v)) ∧
    (∃ (s : State) (v : Nat), s.bit PWR.STATE_DOM 0 = false ∧ 12 ≤ v ∧ v ≤ 24) ∧
    (∃ (v : Nat), (v = 2 ∨ v = 4 ∨ v = 8)) ∧
    (∃ (n v : Nat), (n ≠ 0 ∨ (v ≠ 2 ∧ v ≠ 4 ∧ v ≠ 8))) ∧
    (∃ (m : Master), m ≠ .coreP) ∧
    (∃ (s : State), s.coreP.slowHeld = false ∧ s.coreP.refHeld = false) ∧
    (∃ (s : State), (s.coreP.slowHeld = true ∨ s.coreP.refHeld = true)) ∧
    (∃ (s : State), s.get CLK.STATE_SLOW_RC = 0) ∧
    (∃ (s : State), s.get CLK.STATE_SLOW_RC ≠ 0) ∧
    (∃ (s : State), s.get CLK.STATE_SLOW_RC ≠ 0) ∧
    (∃ (s : State), s.get CLK.STATE_SLOW_RC = 0) :=
  ⟨⟨({ State.reset with coreP.pllLocked := true } : State), by decide +kernel⟩,
   ⟨({ State.reset with coreP.pllLocked := false } : State), by decide +kernel⟩,
   ⟨({ (wst [(CLK.STATE_PLL_STATE, 0, 1)]) with coreP.pllLocked := false } : State), by decide +kernel⟩,
   ⟨({ State.reset with coreP.pllLocked := true } : State), by decide +kernel⟩,
   ⟨({ State.reset with coreP.pllLocked := false } : State), by decide +kernel⟩,
   ⟨({ (wst [(CLK.STATE_PLL_STATE, 0, 1), (CLK.CTRL_AUTO_RETURN, 0, 0)]) with coreP.pllLocked := true } : State),
    by decide +kernel⟩,
   ⟨({ (wst [(CLK.STATE_PLL_STATE, 0, 1), (CLK.CTRL_AUTO_RETURN, 0, 1)]) with coreP.pllLocked := true } : State),
    by decide +kernel⟩,
   ⟨State.reset, by decide +kernel⟩,
   ⟨(wst [(CLK.STATE_PLL_STATE, 0, 2), (CLK.STATE_ON_BYPASS, 0, 0)]), by decide +kernel⟩,
   ⟨(wst [(CLK.STATE_PLL_STATE, 0, 2), (CLK.STATE_ON_BYPASS, 0, 1)]), by decide +kernel⟩,
   ⟨Master.coreB, by decide +kernel⟩,
   ⟨State.reset, Master.coreB, 0, by decide +kernel⟩,
   ⟨State.reset, 12, by decide +kernel⟩,
   ⟨2, by decide +kernel⟩,
   ⟨1, 0, by decide +kernel⟩,
   ⟨Master.coreB, by decide +kernel⟩,
   ⟨({ ({ State.reset with coreP.slowHeld := false } : State) with coreP.refHeld := false } : State),
    by decide +kernel⟩,
   ⟨({ State.reset with coreP.slowHeld := true } : State), by decide +kernel⟩,
   ⟨(wst [(CLK.STATE_SLOW_RC, 0, 0)]), by decide +kernel⟩,
   ⟨(wst [(CLK.STATE_SLOW_RC, 0, 1)]), by decide +kernel⟩,
   ⟨(wst [(CLK.STATE_SLOW_RC, 0, 1)]), by decide +kernel⟩,
   ⟨(wst [(CLK.STATE_SLOW_RC, 0, 0)]), by decide +kernel⟩⟩

theorem witness_WarmResets :
    (∃ (s : State) (c : Instr) (f : Fld), s.coreP.refHeld = true ∧ s.get RGE.KILL_PIN = 0 ∧ ((c = .warmReset ∧
      f = SYS.RST_CAUSE_SOFT) ∨ (c = .restart ∧ f = SYS.RST_CAUSE_SOFT) ∨ (c = .resetNPin ∧ f = SYS.RST_CAUSE_PIN))) ∧
    (∃ (s : State) (c : Instr) (f : Fld), s.coreP.refHeld = true ∧ s.get RGE.KILL_PIN ≠ 0 ∧ ((c = .warmReset ∧
      f = SYS.RST_CAUSE_SOFT) ∨ (c = .restart ∧ f = SYS.RST_CAUSE_SOFT) ∨ (c = .resetNPin ∧ f = SYS.RST_CAUSE_PIN))) ∧
    (∃ (s u : State) (c : Instr) (f : Fld), s.coreP.refHeld = false ∧ ((c = .warmReset ∧
      f = SYS.RST_CAUSE_SOFT) ∨ (c = .restart ∧ f = SYS.RST_CAUSE_SOFT) ∨ (c = .resetNPin ∧
      f = SYS.RST_CAUSE_PIN)) ∧ u = (s.set f 1).warmBase ∧ (∀ k, k < 2 →
      (u.bootVotes.bootClocks.set SYS.MODE_MODE 1).imgOk 0 k = false)) ∧
    (∃ (s u : State) (c : Instr) (f : Fld), s.coreP.refHeld = false ∧ ((c = .warmReset ∧
      f = SYS.RST_CAUSE_SOFT) ∨ (c = .restart ∧ f = SYS.RST_CAUSE_SOFT) ∨ (c = .resetNPin ∧
      f = SYS.RST_CAUSE_PIN)) ∧ u = (s.set f 1).warmBase) ∧
    (∃ (s u : State) (cls : Nat), ((s.get PWR.STATE_HARV = 0 ∧
      u = (s.coldBase.lineOn cls).tagRelease.copiesFresh) ∨ (s.get PWR.STATE_HARV ≠ 0 ∧ u = s.lineOn cls))) ∧
    (∃ (mv : Nat), 4500 ≤ mv) ∧
    (∃ (s : State) (mv : Nat) (b : Bool), mv < 4500 ∧ (b = false ∨ s.get HFT.STATE_FIELD = 0)) ∧
    (∃ (s : State) (mv : Nat), mv < 4500 ∧ s.get HFT.STATE_FIELD ≠ 0) :=
  ⟨⟨({ (wst [(RGE.KILL_PIN, 0, 0)]) with coreP.refHeld := true } : State), .warmReset, SYS.RST_CAUSE_SOFT,
    by decide +kernel⟩,
   ⟨({ (wst [(RGE.KILL_PIN, 0, 1)]) with coreP.refHeld := true } : State), .warmReset, SYS.RST_CAUSE_SOFT,
    by decide +kernel⟩,
   ⟨({ State.reset with coreP.refHeld := false } : State),
    ((({ State.reset with coreP.refHeld := false } : State).set SYS.RST_CAUSE_SOFT 1).warmBase), .warmReset,
    SYS.RST_CAUSE_SOFT, by decide +kernel⟩,
   ⟨({ State.reset with coreP.refHeld := false } : State),
    ((({ State.reset with coreP.refHeld := false } : State).set SYS.RST_CAUSE_SOFT 1).warmBase), .warmReset,
    SYS.RST_CAUSE_SOFT, by decide +kernel⟩,
   ⟨(wst [(PWR.STATE_HARV, 0, 0)]), (((wst [(PWR.STATE_HARV, 0, 0)]).coldBase.lineOn 0).tagRelease.copiesFresh), 0,
    by decide +kernel⟩,
   ⟨4500, by decide +kernel⟩,
   ⟨State.reset, 0, false, by decide +kernel⟩,
   ⟨(wst [(HFT.STATE_FIELD, 0, 1)]), 0, by decide +kernel⟩⟩

theorem witness_CoreResetsWatchdogsAndScrub :
    (∃ (s : State), s.coreP.refHeld = false) ∧
    (∃ (s : State), s.coreP.refHeld = true) ∧
    (∃ (s : State), s.coreP.refHeld = false) ∧
    (∃ (s u : State), s.coreP.refHeld = true ∧ u = ({ s with coreP.refHeld := false } : State).logP 0x21 0 0) ∧
    (∃ (s : State), s.coreP.resets = []) ∧
    (∃ (s u : State) (k : Nat) (l : List (Nat × Nat)), k < 2 ∧ l = ((s.now, k) :: s.coreP.resets).take 8 ∧
      u = { s.set (if k = 0 then SYS.RST_CAUSE_CORE_A else SYS.RST_CAUSE_CORE_B) 1 with coreP.resets := l } ∧
      (∀ e ∈ l, s.now ≤ e.1 + 240000000 → e.2 = k) ∧
      (l.filter fun e => decide (s.now ≤ e.1 + 144000000000)).length < 3) ∧
    (∃ (s u : State) (k : Nat) (l : List (Nat × Nat)), k < 2 ∧ l = ((s.now, k) :: s.coreP.resets).take 8 ∧
      u = { s.set (if k = 0 then SYS.RST_CAUSE_CORE_A else SYS.RST_CAUSE_CORE_B) 1 with coreP.resets := l } ∧
      (∀ e ∈ l, s.now ≤ e.1 + 240000000 → e.2 = k) ∧
      3 ≤ (l.filter fun e => decide (s.now ≤ e.1 + 144000000000)).length) ∧
    (∃ (s u : State) (k : Nat) (l : List (Nat × Nat)), k < 2 ∧ l = ((s.now, k) :: s.coreP.resets).take 8 ∧
      u = { s.set (if k = 0 then SYS.RST_CAUSE_CORE_A else SYS.RST_CAUSE_CORE_B) 1 with coreP.resets := l } ∧
      (∃ e ∈ l, s.now ≤ e.1 + 240000000 ∧ e.2 ≠ k)) ∧
    (∃ (s : State) (n : Nat), n < 2 ∧ (s.get SYS.WDT_CTRL_EN n = 0 ∨ s.wdtHalted n = true)) ∧
    (∃ (s : State) (n : Nat), n < 2 ∧ s.get SYS.WDT_CTRL_EN n ≠ 0 ∧ s.wdtHalted n = false ∧
      s.get SYS.WDT_STATE_AFTER n = 0 ∧ s.coreP.resets = []) ∧
    (∃ (s : State) (n : Nat), n < 2 ∧ s.get SYS.WDT_CTRL_EN n ≠ 0 ∧ s.wdtHalted n = false ∧
      s.get SYS.WDT_STATE_AFTER n = 0) ∧
    (∃ (s : State) (f : Nat), Tab.get (0, 0, 0) s.badVotes (f % 7) = (0, 0, 0)) ∧
    (∃ (s : State) (f c : Nat) (i : Instr), f < 7 ∧ Tab.get (0, 0, 0) s.badVotes f = (0, 0, 0) ∧ 0 < c ∧
      c < 2 ^ ((s.voteValue f).2 + 1) ∧ i ∈ [Instr.voteScrub f c 0 0, .voteScrub f 0 c 0, .voteScrub f 0 0 c]) ∧
    (∃ (s : State) (f : Nat), f < 7 ∧ Tab.get (0, 0, 0) s.badVotes f = (0, 0, 0)) ∧
    (∃ (s : State) (f a b c w : Nat), f < 7 ∧ Tab.get (0, 0, 0) s.badVotes f = (0, 0, 0) ∧ w = (s.voteValue f).2 ∧
      a < 2 ^ (w + 1) ∧ b < 2 ^ (w + 1) ∧ c < 2 ^ (w + 1) ∧ voteLost w (a, b, c) = true) :=
  ⟨⟨({ State.reset with coreP.refHeld := false } : State), by decide +kernel⟩,
   ⟨({ State.reset with coreP.refHeld := true } : State), by decide +kernel⟩,
   ⟨({ State.reset with coreP.refHeld := false } : State), by decide +kernel⟩,
   ⟨({ State.reset with coreP.refHeld := true } : State), _, by decide +kernel, rfl⟩,
   ⟨({ State.reset with coreP.resets := [] } : State), by decide +kernel⟩,
   ⟨State.reset, _, 0, (((State.reset.now, 0) :: State.reset.coreP.resets).take 8), by decide +kernel,
    by decide +kernel, rfl, by decide +kernel, by decide +kernel⟩,
   ⟨(({ State.reset with coreP.resets := [(0, 0), (0, 0)] } : State) : State), _, 0, _, by decide +kernel, rfl, rfl,
    by decide +kernel, by decide +kernel⟩,
   ⟨(({ State.reset with coreP.resets := [(0, 1)] } : State) : State), _, 0, _, by decide +kernel, rfl, rfl,
    by decide +kernel⟩,
   ⟨(wst [(SYS.WDT_CTRL_EN, 0, 0)]), 0, by decide +kernel⟩,
   ⟨({ (wst [(SYS.WDT_CTRL_EN, 0, 1), (SYS.WDT_STATE_AFTER, 0, 0)]) with coreP.resets := [] } : State), 0,
    by decide +kernel⟩,
   ⟨(wst [(SYS.WDT_CTRL_EN, 0, 1), (SYS.WDT_STATE_AFTER, 0, 0)]), 0, by decide +kernel⟩,
   ⟨State.reset, 0, by decide +kernel⟩,
   ⟨State.reset, 0, 1, (.voteScrub 0 1 0 0), by decide +kernel⟩,
   ⟨State.reset, 0, by decide +kernel⟩,
   ⟨State.reset, 0, 1, 2, 4, 3, by decide +kernel⟩⟩

theorem witness_SecondWatchdogExpiry :
    (∃ (s : State) (n : Nat), n < 2 ∧ s.get SYS.WDT_CTRL_EN n ≠ 0 ∧ s.wdtHalted n = false ∧
      s.get SYS.WDT_STATE_AFTER n ≠ 0) :=
  ⟨(wst [(SYS.WDT_CTRL_EN, 0, 1), (SYS.WDT_STATE_AFTER, 0, 1)]), 0, by decide +kernel⟩

theorem witness_LineAndTemperature :
    (∃ (s : State) (mv : Nat), (s.get PWR.STATE_LEW ≠ 0 ∨ s.get PWR.LEW_CFG_LEW_MV ≤ mv)) ∧
    (∃ (s u : State) (mv : Nat), s.get PWR.STATE_LEW = 0 ∧ mv < s.get PWR.LEW_CFG_LEW_MV ∧
      u = (((((s.set PWR.LINE_LINE_MV mv).set PWR.STATE_LINE_OK (if 20000 < mv then 1 else 0)).set PWR.STATE_LEW 1).set PWR.STATUS_LEW 1).bump PWR.CNT_LEW_COUNT PWR.STATUS_SAT).setBit AON.WAKE_WAKE 0 true ∧
      s.bit PWR.STATE_DOM 3 = false) ∧
    (∃ (s u : State) (mv : Nat), s.get PWR.STATE_LEW = 0 ∧ mv < s.get PWR.LEW_CFG_LEW_MV ∧
      u = (((((s.set PWR.LINE_LINE_MV mv).set PWR.STATE_LINE_OK (if 20000 < mv then 1 else 0)).set PWR.STATE_LEW 1).set PWR.STATUS_LEW 1).bump PWR.CNT_LEW_COUNT PWR.STATUS_SAT).setBit AON.WAKE_WAKE 0 true ∧
      s.bit PWR.STATE_DOM 3 = true) ∧
    (∃ (s : State), s.get PWR.STATE_LEW = 0) ∧
    (∃ (s : State), s.get PWR.STATE_LEW ≠ 0 ∧ 20000 ≤ s.get PWR.LEW_CFG_LEW_MV + 100 * s.get PWR.LEW_CFG_HYST ∧
      s.mode ≠ 1 ∧ s.get RGE.STATE_KILL_ACTIVE ≠ 0 ∧ s.get RGE.KILL_PIN = 0) ∧
    (∃ (s : State), s.get PWR.STATE_LEW ≠ 0 ∧ (s.mode ≠ 1 ∨ s.quietCauses ≠ 0)) ∧
    (∃ (s u : State) (b : Nat), s.get PWR.STATE_LEW ≠ 0 ∧ s.mode = 1 ∧ s.quietCauses = 0 ∧
      (20000 ≤ s.get PWR.LEW_CFG_LEW_MV + 100 * s.get PWR.LEW_CFG_HYST → u = s ∧ b = 1) ∧
      (s.get PWR.LEW_CFG_LEW_MV + 100 * s.get PWR.LEW_CFG_HYST < 20000 → u = s.fresh.2 ∧ b = s.fresh.1 % 2)) ∧
    (∃ (m : Master), m ≠ .coreP) ∧
    (∃ (s : State) (v : Nat), bitOf v 0 = false ∧ bitOf v 1 = false ∧ s.bit PWR.STATE_DOM 0 = false ∧
      s.bit PWR.STATE_DOM 1 = false) ∧
    (∃ (s : State) (v : Nat), bitOf v 0 = true ∧ bitOf v 1 = true ∧ s.bit PWR.STATE_DOM 0 = false ∧
      s.get CLK.PLL_CFG_MULT = 24) ∧
    (∃ (s : State) (v : Nat), bitOf v 0 = true ∧ (s.bit PWR.STATE_DOM 0 = true ∨ s.get CLK.PLL_CFG_MULT = 24)) ∧
    (∃ (s : State) (v : Nat), bitOf v 0 = true ∧ s.bit PWR.STATE_DOM 0 = false ∧ s.get CLK.PLL_CFG_MULT ≠ 24) ∧
    (∃ (s : State) (v : Nat), bitOf v 0 = false ∧ s.bit PWR.STATE_DOM 0 = true) ∧
    (∃ (s : State) (v : Nat), bitOf v 0 = false ∧ s.bit PWR.STATE_DOM 0 = false) ∧
    (∃ (s : State) (a b : Nat), a < 65536 ∧ b < 65536 ∧
      ((8 * s.get PWR.THERM_CFG_WARN_C : Nat) : Int) ≤ max (sint 16 a) (sint 16 b)) ∧
    (∃ (s : State) (a b : Nat), a < 65536 ∧ b < 65536 ∧
      max (sint 16 a) (sint 16 b) < ((8 * s.get PWR.THERM_CFG_WARN_C : Nat) : Int)) ∧
    (∃ (s : State), ((8 * s.get PWR.THERM_CFG_WARN_C : Nat) : Int) ≤ s.hotter) ∧
    (∃ (s : State), s.hotter < 8 * ((s.get PWR.THERM_CFG_WARN_C : Int) - s.get PWR.THERM_CFG_HYST)) ∧
    (∃ (s : State), 8 * ((s.get PWR.THERM_CFG_WARN_C : Int) - s.get PWR.THERM_CFG_HYST) ≤ s.hotter ∧
      s.hotter < ((8 * s.get PWR.THERM_CFG_WARN_C : Nat) : Int)) ∧
    (∃ (s : State) (a b : Nat), a < 65536 ∧ b < 65536 ∧
      max (sint 16 a) (sint 16 b) < ((8 * s.get PWR.THERM_CFG_QUIET_C : Nat) : Int)) ∧
    (∃ (s : State) (a b : Nat), a < 65536 ∧ b < 65536 ∧
      ((8 * s.get PWR.THERM_CFG_QUIET_C : Nat) : Int) ≤ max (sint 16 a) (sint 16 b) ∧ s.mode ≠ 0) ∧
    (∃ (s : State) (a b : Nat), a < 65536 ∧ b < 65536 ∧
      ((8 * s.get PWR.THERM_CFG_QUIET_C : Nat) : Int) ≤ max (sint 16 a) (sint 16 b) ∧ s.mode = 0) ∧
    (∃ (s : State) (a b : Nat), a < 65536 ∧ b < 65536 ∧
      max (sint 16 a) (sint 16 b) < ((8 * s.get PWR.THERM_CFG_HARD_C : Nat) : Int)) ∧
    (∃ (s : State) (a b : Nat), a < 65536 ∧ b < 65536 ∧
      ((8 * s.get PWR.THERM_CFG_HARD_C : Nat) : Int) ≤ max (sint 16 a) (sint 16 b)) ∧
    (∃ (s : State), s.mode ≠ 1) ∧
    (∃ (s u v w : State), s.mode = 1 ∧ u = (if s.coreP.quietHeld = true then s else s.setBit SYS.MODE_CAUSE 0 false) ∧
      v = (if s.hotter < 8 * ((s.get PWR.THERM_CFG_QUIET_C : Int) - s.get PWR.THERM_CFG_HYST) then u.setBit SYS.MODE_CAUSE 2 false else u) ∧
      w = (if s.budgetOk = true then v.setBit SYS.MODE_CAUSE 1 false else v) ∧ w.quietCauses ≠ 0) ∧
    (∃ (s u v w : State), s.mode = 1 ∧ u = (if s.coreP.quietHeld = true then s else s.setBit SYS.MODE_CAUSE 0 false) ∧
      v = (if s.hotter < 8 * ((s.get PWR.THERM_CFG_QUIET_C : Int) - s.get PWR.THERM_CFG_HYST) then u.setBit SYS.MODE_CAUSE 2 false else u) ∧
      w = (if s.budgetOk = true then v.setBit SYS.MODE_CAUSE 1 false else v) ∧ w.quietCauses = 0) ∧
    (∃ (s : State), s.mode = 1 ∧ s.coreP.quietHeld = true ∧ s.budgetOk = false ∧ s.quietCauses ≠ 0 ∧
      8 * ((s.get PWR.THERM_CFG_QUIET_C : Int) - s.get PWR.THERM_CFG_HYST) ≤ s.hotter) ∧
    (∃ (s : State), s.mode = 1 ∧ s.coreP.quietHeld = false ∧ s.budgetOk = true ∧ s.get PWR.STATE_LEW = 0 ∧
      s.hotter < 8 * ((s.get PWR.THERM_CFG_QUIET_C : Int) - s.get PWR.THERM_CFG_HYST) ∧
      s.hotter < ((8 * s.get PWR.THERM_CFG_WARN_C : Nat) : Int)) :=
  ⟨⟨(wst [(PWR.STATE_LEW, 0, 1)]), 0, by decide +kernel⟩,
   ⟨(wst [(PWR.STATE_LEW, 0, 0), (PWR.LEW_CFG_LEW_MV, 0, 1)]), _, 0, by decide +kernel, by decide +kernel, rfl,
    by decide +kernel⟩,
   ⟨(wst [(PWR.STATE_LEW, 0, 0), (PWR.LEW_CFG_LEW_MV, 0, 1), (PWR.STATE_DOM, 0, 8)]), _, 0, by decide +kernel,
    by decide +kernel, rfl, by decide +kernel⟩,
   ⟨(wst [(PWR.STATE_LEW, 0, 0)]), by decide +kernel⟩,
   ⟨(wst [(PWR.STATE_LEW, 0, 1), (RGE.STATE_KILL_ACTIVE, 0, 1), (RGE.KILL_PIN, 0, 0)]), by decide +kernel⟩,
   ⟨(wst [(PWR.STATE_LEW, 0, 1)]), by decide +kernel⟩,
   ⟨(wst [(PWR.STATE_LEW, 0, 1), (SYS.MODE_MODE, 0, 1), (SYS.MODE_CAUSE, 0, 0), (PWR.LEW_CFG_LEW_MV, 0, 20000)]),
    ((wst [(PWR.STATE_LEW, 0, 1), (SYS.MODE_MODE, 0, 1), (SYS.MODE_CAUSE, 0, 0), (PWR.LEW_CFG_LEW_MV, 0, 20000)]) : State),
    1, by decide +kernel⟩,
   ⟨Master.coreB, by decide +kernel⟩,
   ⟨State.reset, 0, by decide +kernel⟩,
   ⟨(wst [(CLK.PLL_CFG_MULT, 0, 24)]), 3, by decide +kernel⟩,
   ⟨(wst [(PWR.STATE_DOM, 0, 1)]), 1, by decide +kernel⟩,
   ⟨(wst [(CLK.PLL_CFG_MULT, 0, 25)]), 1, by decide +kernel⟩,
   ⟨(wst [(PWR.STATE_DOM, 0, 1)]), 0, by decide +kernel⟩,
   ⟨State.reset, 0, by decide +kernel⟩,
   ⟨State.reset, 0x7FFF, 0, by decide +kernel⟩,
   ⟨State.reset, 0, 0, by decide +kernel⟩,
   ⟨(wst [(PWR.THERM_T_MAIN, 0, 0x7000)]), by decide +kernel⟩,
   ⟨State.reset, by decide +kernel⟩,
   ⟨(wst [(PWR.THERM_T_MAIN, 0, 399), (PWR.THERM_CFG_WARN_C, 0, 50), (PWR.THERM_CFG_HYST, 0, 5)]), by decide +kernel⟩,
   ⟨State.reset, 0, 0, by decide +kernel⟩,
   ⟨State.reset, 0x7FFF, 0, by decide +kernel⟩,
   ⟨(wst [(SYS.MODE_MODE, 0, 0)]), 0x7FFF, 0, by decide +kernel⟩,
   ⟨State.reset, 0, 0, by decide +kernel⟩,
   ⟨State.reset, 0x7FFF, 0, by decide +kernel⟩,
   ⟨State.reset, by decide +kernel⟩,
   ⟨(({ (wst [(SYS.MODE_MODE, 0, 1), (SYS.MODE_CAUSE, 0, 1)]) with coreP.quietHeld := true } : State) : State), _, _,
    _, by decide +kernel, rfl, rfl, rfl, by decide +kernel⟩,
   ⟨(wst [(SYS.MODE_MODE, 0, 1)]), _, _, _, by decide +kernel, rfl, rfl, rfl, by decide +kernel⟩,
   ⟨({ (wst [(SYS.MODE_MODE, 0, 1), (PWR.THERM_T_MAIN, 0, 0x7000), (SYS.MODE_CAUSE, 0, 1)]) with coreP.quietHeld := true } : State),
    by decide +kernel⟩,
   ⟨((({ (wst [(SYS.MODE_MODE, 0, 1), (PWR.STATE_LEW, 0, 0)]) with coreP.quietHeld := false } : State).setObj 0x1015 0 [0, 0, 0, 0]).setObj 0x1012 0 [0, 0, 0, 0] : State),
    by decide +kernel⟩⟩

theorem witness_ObjectCommands :
    (∃ (s : State) (v : Nat) (c : Instr), s.mode = 3 ∧
      (c = .store ∨ c = .restore ∨ c = .lcRequest v ∨ c = .bootRequest v ∨ c = .confirm)) ∧
    (∃ (s : State) (v i : Nat) (c : Instr), s.xferOpen i 0 = true ∧ (i, c) ∈ [(0x0110, Instr.store), (0x0111, .restore), (0x0121, .lcRequest v), (0x0137, .bootRequest v), (0x0133, .confirm)]) ∧
    (∃ (s : State), s.mode ≠ 3 ∧ s.xferOpen 0x0110 0 = false ∧ s.get PWR.STATE_LEW = 0 ∧ s.nv.odPtr = true) ∧
    (∃ (s : State), s.mode ≠ 3 ∧ s.xferOpen 0x0110 0 = false ∧ s.get PWR.STATE_LEW = 0 ∧ s.nv.odPtr = false) ∧
    (∃ (s : State), s.get PWR.STATE_LEW ≠ 0) ∧
    (∃ (s : State), s.mode ≠ 3 ∧ s.xferOpen 0x0111 0 = false) ∧
    (∃ (s : State) (v : Nat), v < 2 ^ 32 ∧
      (v / 256 ≠ 0x4C4331 ∨ s.lcAllowed (v % 256) = false ∨ s.get PWR.STATE_LEW ≠ 0 ∨ s.imgXfer = true)) ∧
    (∃ (s : State) (new : Nat), s.mode ≠ 3 ∧ s.xferOpen 0x0121 0 = false ∧ s.imgXfer = false ∧ new < 256 ∧
      s.lcAllowed new = true ∧ s.get PWR.STATE_LEW = 0 ∧ s.coreP.refHeld = true) ∧
    (∃ (s : State) (new : Nat), s.mode ≠ 3 ∧ s.xferOpen 0x0121 0 = false ∧ s.imgXfer = false ∧ new < 256 ∧
      s.lcAllowed new = true ∧ s.get PWR.STATE_LEW = 0) ∧
    (∃ (v : Nat), v % 256 ≠ 1) ∧
    (∃ (s : State), s.mode ≠ 3 ∧ s.xferOpen 0x0137 0 = false ∧ s.coreP.refHeld = true ∧ s.get AON.BOOT_PTR_FW < 2 ∧
      s.get AON.BOOT_PTR_LSQ < 2 ∧ s.get AON.BOOT_PTR_TBL < 2) ∧
    (∃ (s : State) (v : Nat), s.mode ≠ 3 ∧ s.xferOpen 0x0137 0 = false ∧ v % 256 = 1) ∧
    (∃ (s : State), s.mode ≠ 0) ∧
    (∃ (s : State), s.mode = 0 ∧ s.xferOpen 0x0133 0 = false) :=
  ⟨⟨(wst [(SYS.MODE_MODE, 0, 3)]), 0, .store, by decide +kernel⟩,
   ⟨(State.setXfers State.reset [({ wXfer with index := 0x0110, sub := 0 } : Xfer)] : State), 0, 0x0110, .store,
    by decide +kernel⟩,
   ⟨({ (wst [(SYS.MODE_MODE, 0, 0), (PWR.STATE_LEW, 0, 0)]) with nv.odPtr := true } : State), by decide +kernel⟩,
   ⟨({ (wst [(SYS.MODE_MODE, 0, 0), (PWR.STATE_LEW, 0, 0)]) with nv.odPtr := false } : State), by decide +kernel⟩,
   ⟨(wst [(PWR.STATE_LEW, 0, 1)]), by decide +kernel⟩,
   ⟨(wst [(SYS.MODE_MODE, 0, 0)]), by decide +kernel⟩,
   ⟨State.reset, 0, by decide +kernel⟩,
   ⟨({ (wst [(SYS.MODE_MODE, 0, 0), (PWR.STATE_LEW, 0, 0), (SYS.LC_STATE, 0, 2)]) with coreP.refHeld := true } : State),
    4, by decide +kernel⟩,
   ⟨(wst [(SYS.MODE_MODE, 0, 0), (PWR.STATE_LEW, 0, 0), (SYS.LC_STATE, 0, 2)]), 4, by decide +kernel⟩,
   ⟨0, by decide +kernel⟩,
   ⟨({ (wst [(SYS.MODE_MODE, 0, 0)]) with coreP.refHeld := true } : State), by decide +kernel⟩,
   ⟨(wst [(SYS.MODE_MODE, 0, 0)]), 1, by decide +kernel⟩,
   ⟨State.reset, by decide +kernel⟩,
   ⟨(wst [(SYS.MODE_MODE, 0, 0)]), by decide +kernel⟩⟩

theorem witness_SealingNeedsAProfile :
    (∃ (s : State), s.lc = lcFACTORY ∧ s.get RGE.STATE_PROFILE_OK = 0) :=
  ⟨(wst [(SYS.LC_STATE, 0, lcFACTORY), (RGE.STATE_PROFILE_OK, 0, 0)]), by decide +kernel⟩

theorem witness_CalibrationSequences :
    (∃ (s : State), s.get CAL.STATE_BUSY ≠ 0) ∧
    (∃ (s u : State) (q t : Nat), q < 16 ∧ t < 65536 ∧ s.get CAL.STATE_BUSY = 0 ∧
      u = (s.set CAL.CMD_SEQ q).set CAL.CMD_TARGET t ∧ (q = 0 ∨ 13 < q ∨ 2 ^ calUnits q ≤ t)) ∧
    (∃ (s u : State) (q t : Nat), 1 ≤ q ∧ q ≤ 13 ∧ t < 65536 ∧ t < 2 ^ calUnits q ∧ s.get CAL.STATE_BUSY = 0 ∧
      u = (s.set CAL.CMD_SEQ q).set CAL.CMD_TARGET t ∧ u.calPre q (u.calNamed q t) ≠ 0) ∧
    (∃ (s u : State) (q t : Nat), 1 ≤ q ∧ q ≤ 13 ∧ q ≠ 7 ∧ t < 65536 ∧ t < 2 ^ calUnits q ∧ s.get CAL.STATE_BUSY = 0 ∧
      u = (s.set CAL.CMD_SEQ q).set CAL.CMD_TARGET t ∧ u.calPre q (u.calNamed q t) = 0) ∧
    (∃ (s u : State) (t : Nat), t < 16 ∧ s.get CAL.STATE_BUSY = 0 ∧ u = (s.set CAL.CMD_SEQ 7).set CAL.CMD_TARGET t ∧
      u.calPre 7 (u.calNamed 7 t) = 0) ∧
    (∃ (s : State), s.get CAL.STATE_BUSY = 0) ∧
    (∃ (s : State), s.get CAL.STATE_BUSY ≠ 0) ∧
    (∃ (s : State), s.get CAL.STATE_BUSY ≠ 0 ∧ s.get CAL.STATE_SEQ ≠ 7 ∧ s.get CAL.STATE_SEQ < 16 ∧
      s.age.commitWait = false ∧ s.age.bootSet = none) ∧
    (∃ (s : State), s.get CAL.STATE_BUSY ≠ 0 ∧ s.get CAL.STATE_SEQ = 7 ∧ s.age.commitWait = false ∧
      s.age.bootSet = none) ∧
    (∃ (s : State), s.get CAL.STATE_BUSY = 0) ∧
    (∃ (s : State) (p : Nat), s.get CAL.STATE_BUSY ≠ 0 ∧
      p = s.calPre (s.get CAL.STATE_SEQ) (s.calNamed (s.get CAL.STATE_SEQ) s.calTarget) ∧ p ≠ 0) ∧
    (∃ (s : State) (code p : Nat), s.get CAL.STATE_BUSY ≠ 0 ∧
      p = s.calPre (s.get CAL.STATE_SEQ) (s.calNamed (s.get CAL.STATE_SEQ) s.calTarget) ∧ p = 0 ∧
      (code = 8 ∨ code = 9)) ∧
    (∃ (s : State) (code p : Nat), s.get CAL.STATE_BUSY ≠ 0 ∧
      p = s.calPre (s.get CAL.STATE_SEQ) (s.calNamed (s.get CAL.STATE_SEQ) s.calTarget) ∧ p = 0 ∧ code ≠ 0 ∧
      code ≠ 8 ∧ code ≠ 9) ∧
    (∃ (s : State) (code p e : Nat), s.get CAL.STATE_BUSY ≠ 0 ∧ s.get CAL.STATE_SEQ ≠ 7 ∧ s.age.commitWait = false ∧
      s.age.bootSet = none ∧ p = s.calPre (s.get CAL.STATE_SEQ) (s.calNamed (s.get CAL.STATE_SEQ) s.calTarget) ∧
      ((p ≠ 0 ∧ e = p) ∨ (p = 0 ∧ (code = 8 ∨ code = 9) ∧ e = code))) ∧
    (∃ (s : State) (q : Nat) (named : List Nat) (res mine : List (Nat × List Nat)), s.get CAL.STATE_BUSY ≠ 0 ∧
      q = s.get CAL.STATE_SEQ ∧ named = s.calNamed q s.calTarget ∧ s.calPre q named = 0 ∧
      mine = (res.filter fun r => calUnits q == 0 || named.contains (calUnit q r.1)) ∧ (∀ r ∈ mine,
      calInRange q r.2 = true)) ∧
    (∃ (s : State) (k a b : Nat), s.get CAL.STATE_BUSY ≠ 0 ∧ s.get CAL.STATE_SEQ = 2 ∧ s.age.commitWait = false ∧
      s.age.bootSet = none ∧ k < 16 ∧ (s.calTarget = 0 ∨ (s.calTarget < 65536 ∧ bitOf s.calTarget k = true)) ∧
      s.calPre 2 (s.calNamed 2 s.calTarget) = 0 ∧ inRange (-128) 127 a = true ∧ inRange (-128) 127 b = true) ∧
    (∃ (s : State) (k a b : Nat), s.get CAL.STATE_BUSY ≠ 0 ∧ s.get CAL.STATE_SEQ = 2 ∧ s.age.commitWait = false ∧
      s.age.bootSet = none ∧ k < 16 ∧ (s.calTarget = 0 ∨ (s.calTarget < 65536 ∧ bitOf s.calTarget k = true)) ∧
      s.calPre 2 (s.calNamed 2 s.calTarget) = 0 ∧ (inRange (-128) 127 a = false ∨ inRange (-128) 127 b = false)) :=
  ⟨⟨(wst [(CAL.STATE_BUSY, 0, 1)]), by decide +kernel⟩,
   ⟨(wst [(CAL.STATE_BUSY, 0, 0)]), (((wst [(CAL.STATE_BUSY, 0, 0)]).set CAL.CMD_SEQ 0).set CAL.CMD_TARGET 0), 0, 0,
    by decide +kernel⟩,
   ⟨(wst [(CAL.STATE_BUSY, 0, 0), (PWR.STATE_DOM, 0, 0)]), (((wst [(CAL.STATE_BUSY, 0, 0), (PWR.STATE_DOM, 0, 0)]).set CAL.CMD_SEQ 2).set CAL.CMD_TARGET 0),
    2, 0, by decide +kernel⟩,
   ⟨(wst [(CAL.STATE_BUSY, 0, 0)]), (((wst [(CAL.STATE_BUSY, 0, 0)]).set CAL.CMD_SEQ 1).set CAL.CMD_TARGET 0), 1, 0,
    by decide +kernel⟩,
   ⟨(wst [(CAL.STATE_BUSY, 0, 0), (PWR.STATE_DOM, 0, 1)]), (((wst [(CAL.STATE_BUSY, 0, 0), (PWR.STATE_DOM, 0, 1)]).set CAL.CMD_SEQ 7).set CAL.CMD_TARGET 0),
    0, by decide +kernel⟩,
   ⟨(wst [(CAL.STATE_BUSY, 0, 0)]), by decide +kernel⟩,
   ⟨(wst [(CAL.STATE_BUSY, 0, 1)]), by decide +kernel⟩,
   ⟨({ ({ (wst [(CAL.STATE_BUSY, 0, 1), (CAL.STATE_SEQ, 0, 8)]) with age.commitWait := false } : State) with age.bootSet := none } : State),
    by decide +kernel⟩,
   ⟨({ ({ (wst [(CAL.STATE_BUSY, 0, 1), (CAL.STATE_SEQ, 0, 7)]) with age.commitWait := false } : State) with age.bootSet := none } : State),
    by decide +kernel⟩,
   ⟨(wst [(CAL.STATE_BUSY, 0, 0)]), by decide +kernel⟩,
   ⟨(wst [(CAL.STATE_BUSY, 0, 1), (CAL.STATE_SEQ, 0, 2), (PWR.STATE_DOM, 0, 0)]), 10, by decide +kernel⟩,
   ⟨(wst [(CAL.STATE_BUSY, 0, 1)]), 8, 0, by decide +kernel⟩,
   ⟨(wst [(CAL.STATE_BUSY, 0, 1)]), 1, 0, by decide +kernel⟩,
   ⟨({ ({ (wst [(CAL.STATE_BUSY, 0, 1), (CAL.STATE_SEQ, 0, 2), (PWR.STATE_DOM, 0, 0)]) with age.commitWait := false } : State) with age.bootSet := none } : State),
    0, 10, 10, by decide +kernel⟩,
   ⟨(wst [(CAL.STATE_BUSY, 0, 1), (CAL.STATE_SEQ, 0, 1)]), 1, _, ([] : List (Nat × List Nat)),
    ([] : List (Nat × List Nat)), by decide +kernel, by decide +kernel, rfl, by decide +kernel, by decide +kernel,
    by decide +kernel⟩,
   ⟨({ ({ (wst [(CAL.STATE_BUSY, 0, 1), (CAL.STATE_SEQ, 0, 2), (PWR.STATE_DOM, 0, 1)]) with age.commitWait := false } : State) with age.bootSet := none } : State),
    15, 0, 0, by decide +kernel⟩,
   ⟨({ ({ (wst [(CAL.STATE_BUSY, 0, 1), (CAL.STATE_SEQ, 0, 2), (PWR.STATE_DOM, 0, 1)]) with age.commitWait := false } : State) with age.bootSet := none } : State),
    0, 128, 0, by decide +kernel⟩⟩

theorem witness_ResultOutOfRangeAborts :
    (∃ (s : State) (res : List (Nat × List Nat)) (r : Nat × List Nat), s.get CAL.STATE_BUSY ≠ 0 ∧
      s.get CAL.STATE_SEQ < 16 ∧
      s.calPre (s.get CAL.STATE_SEQ) (s.calNamed (s.get CAL.STATE_SEQ) s.calTarget) = 0 ∧ r ∈ res ∧
      (calUnits (s.get CAL.STATE_SEQ) = 0 ∨ (s.calNamed (s.get CAL.STATE_SEQ) s.calTarget).contains (calUnit (s.get CAL.STATE_SEQ) r.1) = true) ∧
      calInRange (s.get CAL.STATE_SEQ) r.2 = false) ∧
    (∃ (s : State) (res : List (Nat × List Nat)) (r : Nat × List Nat), s.get CAL.STATE_BUSY ≠ 0 ∧
      s.get CAL.STATE_SEQ < 16 ∧
      s.calPre (s.get CAL.STATE_SEQ) (s.calNamed (s.get CAL.STATE_SEQ) s.calTarget) = 0 ∧ r ∈ res ∧
      (calUnits (s.get CAL.STATE_SEQ) = 0 ∨ (s.calNamed (s.get CAL.STATE_SEQ) s.calTarget).contains (calUnit (s.get CAL.STATE_SEQ) r.1) = true) ∧
      calInRange (s.get CAL.STATE_SEQ) r.2 = false ∧ s.age.commitWait = false ∧ s.age.bootSet = none) :=
  ⟨⟨(wst [(CAL.STATE_BUSY, 0, 1), (PWR.STATE_DOM, 0, 1), (CAL.STATE_SEQ, 0, 2)]), [(0, [128, 0])], (0, [128, 0]),
    by decide +kernel⟩,
   ⟨({ ({ (wst [(CAL.STATE_BUSY, 0, 1), (CAL.STATE_SEQ, 0, 2), (PWR.STATE_DOM, 0, 1)]) with age.commitWait := false } : State) with age.bootSet := none } : State),
    [((0, [128, 0]) : Nat × List Nat)], ((0, [128, 0]) : Nat × List Nat), by decide +kernel⟩⟩

theorem witness_CommitsAndAgeing :
    (∃ (s : State), s.get PWR.STATE_LEW ≠ 0) ∧
    (∃ (s : State), s.get PWR.STATE_LEW = 0 ∧ s.get CAL.STATE_BUSY ≠ 0) ∧
    (∃ (s : State) (b : Nat), s.get PWR.STATE_LEW = 0 ∧ s.get CAL.STATE_BUSY = 0 ∧ s.get CAL.BANK_PTR = b ∧ b < 2) ∧
    (∃ (s : State) (b : Nat), s.get PWR.STATE_LEW = 0 ∧ s.get CAL.STATE_BUSY = 0 ∧ s.get CAL.BANK_PTR = b ∧ b < 2) ∧
    (∃ (s : State), s.bit AGE.CTRL_EN 0 = false) ∧
    (∃ (s : State) (a b c : Nat), s.bit AGE.CTRL_EN 0 = true ∧ a < 65536 ∧ b < 65536 ∧ c < 65536) ∧
    (∃ (s : State) (n : Nat),
      (s.bit AGE.CTRL_EN 1 = false ∨ s.ust n ≠ 3 ∨ s.carrier n = false ∨ s.get UTX.STATE_RAMP n ≠ 0)) ∧
    (∃ (s : State) (n : Nat), n < 4 ∧ s.bit AGE.CTRL_EN 1 = true ∧ s.ust n = 3 ∧ s.carrier n = true ∧
      s.get UTX.STATE_RAMP n = 0 ∧ s.age.pa = []) ∧
    (∃ (s : State) (n fwd k x : Nat), s.bit AGE.CTRL_EN 1 = true ∧ s.ust n = 3 ∧ s.carrier n = true ∧
      s.get UTX.STATE_RAMP n = 0 ∧ k = 4 * n + s.get UTX.PWR_GROUP n ∧
      x = unsignedOf 16 (sint 16 fwd - sint 16 (s.get UTX.FWD_EXPECT n))) ∧
    (∃ (s : State), s.bit AGE.CTRL_EN 2 = false) ∧
    (∃ (s : State) (d : Nat), s.bit AGE.CTRL_EN 2 = true ∧ d < 65536) ∧
    (∃ (s : State), s.bit AGE.CTRL_EN 3 = false) ∧
    (∃ (s : State) (w : Nat), s.bit AGE.CTRL_EN 3 = true ∧ w < 65536) :=
  ⟨⟨(wst [(PWR.STATE_LEW, 0, 1)]), by decide +kernel⟩,
   ⟨(wst [(PWR.STATE_LEW, 0, 0), (CAL.STATE_BUSY, 0, 1)]), by decide +kernel⟩,
   ⟨(wst [(PWR.STATE_LEW, 0, 0), (CAL.STATE_BUSY, 0, 0), (CAL.BANK_PTR, 0, 0)]), 0, by decide +kernel⟩,
   ⟨(wst [(PWR.STATE_LEW, 0, 0), (CAL.STATE_BUSY, 0, 0), (CAL.BANK_PTR, 0, 0)]), 0, by decide +kernel⟩,
   ⟨(wst [(AGE.CTRL_EN, 0, 0)]), by decide +kernel⟩,
   ⟨(wst [(AGE.CTRL_EN, 0, 1)]), 0, 0, 0, by decide +kernel⟩,
   ⟨State.reset, 0, by decide +kernel⟩,
   ⟨({ (wst [(UTX.STATE_STATE, 0, 3), (UTX.STATE_CARRIER, 0, 1), (UTX.STATE_RAMP, 0, 0), (AGE.CTRL_EN, 0, 2)]) with age.pa := [] } : State),
    0, by decide +kernel⟩,
   ⟨(wst [(UTX.STATE_STATE, 0, 3), (UTX.STATE_CARRIER, 0, 1), (UTX.STATE_RAMP, 0, 0), (AGE.CTRL_EN, 0, 2)]), 0, 0, 0,
    0, by decide +kernel⟩,
   ⟨(wst [(AGE.CTRL_EN, 0, 0)]), by decide +kernel⟩,
   ⟨(wst [(AGE.CTRL_EN, 0, 4)]), 0, by decide +kernel⟩,
   ⟨(wst [(AGE.CTRL_EN, 0, 0)]), by decide +kernel⟩,
   ⟨(wst [(AGE.CTRL_EN, 0, 8)]), 0, by decide +kernel⟩⟩

/-! ### The cases within a clause -/

/-- Sequencer 0 in RUN, leasing nothing. -/
def wRun : State := wst [(LSC.STATE_STATE, 0, 2), (LSC.STATE_LTYPE, 0, 0)]

theorem witness_memory_faults : wRun.get LSC.STATE_STATE = 2 ∧ wRun.get LSC.STATE_LTYPE = 0 ∧ wRun.seqEa 0 0 0x8000 = 0x8000 ∧
    wRun.seqEa 0 0 2 = 2 ∧ wRun.seqEa 0 0 0x7FFC = 0x7FFC ∧ (wRun.seqAt 0).stack = [] := by decide +kernel

theorem witness_call_depth : ((wRun.setSeq 0 { stack := List.replicate 8 1 }).seqAt 0).stack.length = 8 ∧
    ((wRun.setSeq 0 { stack := List.replicate 7 1 }).seqAt 0).stack.length = 7 := by decide +kernel

theorem witness_wait_cases : wRun.waitBits 0 1 = 0 ∧ (wRun.set LSC.EVP_EVP 1).waitBits 0 1 ≠ 0 ∧ (wRun.setG 0 2 9).greg 0 2 ≠ 0 ∧
    (wRun.set LSC.EVP_EVP 1).get LSC.STATE_STATE = 2 := by decide +kernel

theorem witness_port_owner : wRun.ownerOk (wRun.chainSheaf 0) (.seq 0) = false ∧ (wRun.setG 0 1 0x7DFC).greg 0 1 = 0x7DFC := by
  decide +kernel

/-- A class change after which everything fits. -/
def wFits : State :=
  let s := ((State.reset.setObj 0x1015 0 [0, 0, 0, 0]).setObj 0x1012 0 [0, 0, 0, 0]).set SYS.MODE_MODE 0
  (((s.set PWR.STATE_CLASS 15).set PWR.STATUS_CLASS_CHG 1).set PWR.CNT_CLASS_COUNT 1).setBit AON.WAKE_WAKE 2 true

theorem witness_class_fits : wFits.mode = mdFULL ∧ wFits.carrierSheaves = [] ∧ wFits.atb.actSlots = 0 ∧
    wFits.fits wFits.keptCost = true ∧ wFits.budgetOk = true := by decide +kernel

/-- Operands at the ends of their ranges, for every form of the LSI word statement. -/
theorem witness_LsiWordsSpellTheirInstructions :
    (∃ d a b : Nat, d < 16 ∧ a < 16 ∧ b < 16) ∧ (∃ pos len : Nat, pos < 32 ∧ 1 ≤ len ∧ len ≤ 32) ∧
    (∃ imm : Nat, imm < 2 ^ 18) ∧ (∃ k tgt : Nat, k ≤ 12 ∧ tgt < 2 ^ 13) ∧ (∃ d sr e : Nat, d < 16 ∧ sr < 256 ∧ e < 8 ∧ d ≠ 15) ∧
    (∃ blk off : Nat, blk < 8 ∧ off < 2 ^ 14) ∧ (∃ ch req full fidx : Nat, ch < 16 ∧ req < 8 ∧ full < 2 ∧ fidx < 64) ∧
    (∃ q cnt : Nat, q < 16 ∧ 1 ≤ cnt ∧ cnt ≤ 16) ∧ (∃ mask unit cnt : Nat, mask < 1024 ∧ unit < 4 ∧ cnt < 2 ^ 14) ∧
    (∃ w : Nat, bits w 31 26 ∈ [0x0E, 0x0F, 0x1E, 0x1F, 0x2B, 0x2E, 0x2F, 0x33, 0x39, 0x3A, 0x3B, 0x3F]) ∧
    (∃ w : Nat, bits w 31 26 = 0x20 ∧ 12 < bits w 25 22) ∧ (∃ w : Nat, bits w 31 26 = 0x2A ∧ bits w 25 22 = 15) ∧
    ∃ w : Nat, bits w 31 26 ≤ 0x0A ∧ bits w 13 0 ≠ 0 :=
  ⟨⟨15, 15, 15, by decide⟩, ⟨31, 32, by decide⟩, ⟨262143, by decide⟩, ⟨12, 8191, by decide⟩, ⟨14, 255, 7, by decide⟩,
   ⟨7, 16383, by decide⟩, ⟨15, 7, 1, 63, by decide⟩, ⟨15, 16, by decide⟩, ⟨1023, 3, 16383, by decide⟩,
   ⟨0xFFFFFFFF, by decide⟩, ⟨0x83400000, by decide⟩, ⟨0xABC00000, by decide⟩, ⟨0x2BFFFFFF, by decide⟩⟩

end Sys2Proof.Machine
end

section
/-! PROOFS. R17: what a core's write comes to in the memory of a STOPPED sequencer. The bytes are stored, and the words they fall
in take fresh parity (assumption 53), which `Obligations.SequencerMemoryWrite` leaves out. -/

namespace Sys2Proof.Machine

open Sys2Proof

/-! ### Byte writes and parity -/

/-- A byte write leaves the radio's part of the state, which holds the words whose parity fails. -/
@[simp] theorem State.wrBytes_radio (s : State) (l : List Nat) (a : Nat) : (s.wrBytes a l).radio = s.radio := by
  induction l generalizing s a with
  | nil => rfl
  | cons x r ih => rw [State.wrBytes, ih]; rfl

/-- Fresh parity clears exactly the failing words that the written bytes meet. -/
@[simp] theorem State.freshPar_badWords (s : State) (a len : Nat) :
    (s.freshPar a len).radio.badWords = s.radio.badWords.filter fun w => decide (w + 4 ≤ a) || decide (a + len ≤ w) := by
  unfold State.freshPar
  split
  · next h => simp [List.isEmpty_iff.mp h]
  · rfl

/-! ### An address in a sequencer's memory -/

/-- The memories of sequencers 0 to 15 make up row 3 of R22's table. -/
theorem mapRow_seqBase {n off : Nat} (hn : n < 16) (hoff : off < 0x8000) : mapRow (seqBase n + off) = some 3 := by
  unfold seqBase
  rw [mapRow, if_neg (by omega), if_neg (by simp; omega), if_neg (by simp; omega), if_pos (by simp; omega)]

/-- The sequencer that an address of row 3 belongs to. -/
theorem seqIndex_seqBase {n off : Nat} (hn : n < 16) (hoff : off < 0x8000) : (seqBase n + off) / 0x8000 % 16 = n := by
  unfold seqBase
  omega

/-- R22 lets the three cores write the sequencer memories. -/
theorem mapOk_seqBase {m : Master} {n off : Nat} (hm : masterNum m < 3) (hn : n < 16) (hoff : off < 0x8000) :
    mapOk (busInit m) (seqBase n + off) true = true := by
  have hw : masterNum m = 0 ∨ masterNum m = 1 ∨ masterNum m = 2 := by omega
  rw [mapOk, mapRow_seqBase hn hoff]
  simpa [mapWriters, busInit] using hw

/-- A sequencer's memory is aligned as its offsets are. -/
theorem busAligned_seqBase {off w : Nat} (n : Nat) (hw : w = 1 ∨ w = 2 ∨ w = 4) (hoff : off % w = 0) :
    busAligned (seqBase n + off) w = true := by
  rcases hw with rfl | rfl | rfl <;> simp [busAligned, seqBase] <;> omega

/-! ### The write -/

/-- One access to a STOPPED sequencer's memory stores its bytes, with fresh parity. -/
theorem State.busWrite1_seqBase_stopped {s : State} {m : Master} {n off w : Nat} (v : Nat) (hm : masterNum m < 3) (hn : n < 16)
    (hw : w = 1 ∨ w = 2 ∨ w = 4) (hal : off % w = 0) (hoff : off < 0x8000) (hst : s.get LSC.STATE_STATE n = 0) :
    s.busWrite1 m (seqBase n + off) w v =
      (.ok 0, (s.wrBytes (seqBase n + off) (toLe w v)).freshPar (seqBase n + off) w) := by
  simp [State.busWrite1, mapOk_seqBase hm hn hoff, busAligned_seqBase n hw hal, mapRow_seqBase hn hoff,
    seqIndex_seqBase hn hoff, hst, seqSTOPPED]

/-- SEQ_MEMORY_WRITE by a core to a STOPPED sequencer's memory: the bytes, and fresh parity of their words. -/
theorem exec_seqMemoryWrite_stopped {s : State} {m : Master} {n off w : Nat} (v : Nat) (hm : masterNum m < 3) (hn : n < 16)
    (hw : w = 1 ∨ w = 2 ∨ w = 4) (hal : off % w = 0) (hoff : off < 0x8000) (hst : s.get LSC.STATE_STATE n = 0) :
    exec (.seqMemoryWrite m (seqBase n + off) w v) s =
      .next ((s.wrBytes (seqBase n + off) (toLe w v)).freshPar (seqBase n + off) w) := by
  have hw8 : w ≠ 8 := by omega
  have hwr := State.busWrite1_seqBase_stopped v hm hn hw hal hoff hst
  have hcmd : exec (.seqMemoryWrite m (seqBase n + off) w v) s = s.writeCmd m (seqBase n + off) w v := by
    simp [exec, execSeqMemoryWrite, mapRow_seqBase hn hoff]
  rw [hcmd]
  cases m with
  | seq k => simp [masterNum] at hm; omega
  | _ => simp [State.writeCmd, State.busWrite, hw8, hwr]

/-! ### The refutation -/

/-- The state after reset, sequencer 0 STOPPED, with a parity fault in the first word of its memory. -/
def seqParityFault : State := { State.reset with radio.badWords := [seqBase 0] }

/-- Refutes O8: its first clause says that the write stores the bytes and does nothing else, and the word written also takes fresh
parity (assumption 53). Where the word that Core A writes had failed its parity, it fails no more in the state the command leaves,
and still fails in the state the clause names. The clause ranges over every state; that list is empty from reset on, and a premise
that it is empty, or `freshPar` in the conclusion, would mend the clause. -/
theorem not_sequencerMemoryWrite : ¬ Obligations.SequencerMemoryWrite := by
  unfold Obligations.SequencerMemoryWrite
  rintro ⟨hstopped, -⟩
  have hst : seqParityFault.get LSC.STATE_STATE 0 = 0 := by decide
  have hclause := hstopped seqParityFault .coreA 0 0 4 0 (by decide) (by decide) (by decide) (by decide) (by decide) hst
  rw [exec_seqMemoryWrite_stopped 0 (by decide) (by decide) (by decide) (by decide) (by decide) hst] at hclause
  have hbad := congrArg (fun t : State => t.radio.badWords) (Host.Outcome.next.inj hclause)
  simp [seqParityFault, seqBase] at hbad

end Sys2Proof.Machine
end

section
/-! PROOFS. The timebase as the other blocks leave it: no operation on a sequencer, a sheaf, a chain or a lease writes the ATB's
registers or its own state. -/

namespace Sys2Proof.Machine

open Sys2Proof

/-! ### The timebase as the other blocks leave it -/

/-- The timebase: its own state, and its registers as functions of their reset value and key. -/
structure Timebase where
  atb : Atb
  reg : Nat → Nat → Nat

/-- The key of a register field in the ATB's block (R22). -/
def atbKey (k : Nat) : Bool := decide (0x40030000 * 32 ≤ k) && decide (k < 0x40040000 * 32)

/-- What a state holds of the timebase. The reset value is an argument, as a key unlisted in `regs` reads as it. -/
def State.timebase (s : State) : Timebase := ⟨s.atb, fun d k => if atbKey k then Tab.get d s.regs k else 0⟩

/-- No register of the field lies in the ATB's block: its block is a later one, or an earlier one in which it has one register. -/
def Fld.offAtb (f : Fld) : Bool :=
  decide (0x40040000 ≤ f.addr) || (f.stride == 0 && decide (f.key 0 < 0x40030000 * 32))

theorem Fld.atbKey_of_offAtb {f : Fld} (h : f.offAtb = true) (n : Nat) : atbKey (f.key n) = false := by
  simp only [Fld.offAtb, Bool.or_eq_true, Bool.and_eq_true, decide_eq_true_eq, beq_iff_eq] at h
  simp only [atbKey, Bool.and_eq_false_iff, decide_eq_false_iff_not]
  rcases h with hlate | ⟨hone, hearly⟩
  · right
    have : f.addr ≤ f.at n := Nat.le_add_right ..
    simp only [Fld.key]
    omega
  · left
    have : f.key n = f.key 0 := by simp [Fld.key, Fld.at, hone]
    omega

/-- A register of the ATB's block reads the same in two states of one timebase. -/
theorem State.get_of_timebase {s t : State} (h : t.timebase = s.timebase) {f : Fld} {n : Nat} (hf : atbKey (f.key n) = true) :
    t.get f n = s.get f n := by
  have := congrFun (congrFun (congrArg Timebase.reg h) (f.rst n)) (f.key n)
  simpa [State.timebase, State.get, hf] using this

theorem State.atb_of_timebase {s t : State} (h : t.timebase = s.timebase) : t.atb = s.atb := congrArg Timebase.atb h

section
variable (s : State)

theorem State.timebase_set {f : Fld} (h : f.offAtb = true) (v n : Nat) : (s.set f v n).timebase = s.timebase := by
  simp only [State.timebase, State.set_atb, Timebase.mk.injEq, true_and]
  funext d k
  split
  · next hk =>
    have hne : k ≠ f.key n := fun e => by simp [e, Fld.atbKey_of_offAtb h] at hk
    exact Tab.get_set_ne _ _ _ _ hne
  · rfl

theorem State.timebase_setBit {f : Fld} (h : f.offAtb = true) (k : Nat) (b : Bool) (n : Nat) :
    (s.setBit f k b n).timebase = s.timebase := s.timebase_set h _ n

theorem State.timebase_bump {c f : Fld} (hc : c.offAtb = true) (hf : f.offAtb = true) (n k : Nat) :
    (s.bump c f n k).timebase = s.timebase := by
  unfold State.bump
  split
  · exact s.timebase_set hc _ n
  · rw [State.timebase_set _ hf, State.timebase_set _ hc]

theorem State.timebase_forL {α : Type} {g : α → State → State} (h : ∀ i t, (g i t).timebase = t.timebase) (l : List α) :
    (s.forL l g).timebase = s.timebase :=
  State.forL_keep (·.timebase = s.timebase) g l s rfl fun i _ t ht => (h i t).trans ht

theorem State.timebase_forN {g : Nat → State → State} (h : ∀ i t, (g i t).timebase = t.timebase) (k : Nat) :
    (s.forN k g).timebase = s.timebase := s.timebase_forL h _

/-! ### Sequencers, sheaves and chains -/

@[simp] theorem State.timebase_setSeq (n : Nat) (q : Seq) : (s.setSeq n q).timebase = s.timebase := rfl
@[simp] theorem State.timebase_setOps (n : Nat) (o : SeqOps) : (s.setOps n o).timebase = s.timebase := rfl
@[simp] theorem State.timebase_setEng (sh : Nat) (e : FrameEng) : (s.setEng sh e).timebase = s.timebase := rfl
@[simp] theorem State.timebase_setSheaf (sh : Nat) (x : Sheaf) : (s.setSheaf sh x).timebase = s.timebase := rfl
@[simp] theorem State.timebase_setUtx (n : Nat) (u : UtxChain) : (s.setUtx n u).timebase = s.timebase := rfl
@[simp] theorem State.timebase_setUrx (ch : Nat) (u : UrxChain) : (s.setUrx ch u).timebase = s.timebase := rfl
@[simp] theorem State.timebase_setSynth (n : Nat) (y : Synth) : (s.setSynth n y).timebase = s.timebase := rfl
@[simp] theorem State.timebase_buckUpdate : s.buckUpdate.timebase = s.timebase := rfl
@[simp] theorem State.timebase_fresh : s.fresh.2.timebase = s.timebase := rfl
@[simp] theorem State.timebase_pulse (pin : Nat) : (s.pulse pin).timebase = s.timebase := rfl

@[simp] theorem State.timebase_seqEvent (n ev : Nat) : (s.seqEvent n ev).timebase = s.timebase :=
  s.timebase_setBit (by decide) _ _ n

@[simp] theorem State.timebase_sheafEvent (sh ev : Nat) : (s.sheafEvent sh ev).timebase = s.timebase := by
  unfold State.sheafEvent
  split <;> simp

@[simp] theorem State.timebase_seqOver (n : Nat) : (s.seqOver n).timebase = s.timebase := by
  unfold State.seqOver
  dsimp only
  split <;> simp

@[simp] theorem State.timebase_seqFree (n : Nat) : (s.seqFree n).timebase = s.timebase := by
  simp (disch := decide) [State.seqFree, State.timebase_set]

/-! ### Receive chains -/

@[simp] theorem State.timebase_setRst (ch st : Nat) : (s.setRst ch st).timebase = s.timebase := by
  unfold State.setRst
  split <;> simp (disch := decide) [State.timebase_set]

@[simp] theorem State.timebase_rxIdle (ch : Nat) : (s.rxIdle ch).timebase = s.timebase := by
  simp (disch := decide) [State.rxIdle, State.timebase_set]

@[simp] theorem State.timebase_rxCloseForeign (sh : Nat) : (s.rxCloseForeign sh).timebase = s.timebase :=
  s.timebase_forL (fun ch t => by split <;> simp) _

@[simp] theorem State.timebase_rxCache (sh : Nat) : (s.rxCache sh).timebase = s.timebase :=
  s.timebase_forL (fun ch t => by split <;> simp) _

@[simp] theorem State.timebase_rxEnter (ch : Nat) : (s.rxEnter ch).timebase = s.timebase := by
  unfold State.rxEnter
  dsimp only
  split <;> simp (disch := decide) [State.timebase_set]

@[simp] theorem State.timebase_rxPolicy (ch : Nat) : (s.rxPolicy ch).timebase = s.timebase := by
  unfold State.rxPolicy
  dsimp only
  repeat' split
  all_goals simp (disch := decide) [State.timebase_set]

@[simp] theorem State.timebase_rxGain (ch level : Nat) : (s.rxGain ch level).timebase = s.timebase :=
  s.timebase_set (by decide) _ ch

@[simp] theorem State.timebase_setVec (ch crs i q : Nat) : (s.setVec ch crs i q).timebase = s.timebase := by
  simp (disch := decide) [State.setVec, State.timebase_set]

@[simp] theorem State.timebase_rxOpenCw (sh : Nat) : (s.rxOpenCw sh).timebase = s.timebase := by
  refine s.timebase_forL (fun ch t => ?_) _
  dsimp only
  repeat' split
  all_goals simp (disch := decide) [State.timebase_set]

@[simp] theorem State.timebase_rxOpenForeign (sh : Nat) : (s.rxOpenForeign sh).timebase = s.timebase := by
  refine s.timebase_forL (fun ch t => ?_) _
  dsimp only
  split
  · rfl
  · simp (disch := decide) [State.timebase_set]

@[simp] theorem State.timebase_engAbort (sh : Nat) : (s.engAbort sh).timebase = s.timebase :=
  (State.timebase_forL _ (fun ch t => t.timebase_setUrx ch _) _).trans (s.timebase_setEng sh _)

@[simp] theorem State.timebase_windowShut (sh : Nat) : (s.windowShut sh).timebase = s.timebase := by
  unfold State.windowShut
  split
  · rfl
  · exact (State.timebase_forL _ (fun ch t => t.timebase_setUrx ch _) _).trans (s.timebase_setEng sh _)

/-! ### Transmit chains and the enforcer -/

@[simp] theorem State.timebase_setUst (n st : Nat) : (s.setUst n st).timebase = s.timebase := by
  unfold State.setUst
  split <;> simp (disch := decide) [State.timebase_set]

@[simp] theorem State.timebase_rampDownFrom (n : Nat) (u : UtxChain) : (s.rampDownFrom n u).timebase = s.timebase := by
  unfold State.rampDownFrom
  dsimp only
  repeat' split
  all_goals simp (disch := decide) [State.timebase_set]

@[simp] theorem State.timebase_rampDown (n : Nat) (fast : Bool) (dest err : Nat) :
    (s.rampDown n fast dest err).timebase = s.timebase := by
  unfold State.rampDown
  dsimp only
  split
  · rfl
  · split
    · split <;> simp
    · simp

@[simp] theorem State.timebase_endGrant (n : Nat) : (s.endGrant n).timebase = s.timebase :=
  s.timebase_setBit (by decide) _ _ _

@[simp] theorem State.timebase_utxDeny (n : Nat) : (s.utxDeny n).timebase = s.timebase := by
  simp (disch := decide) [State.utxDeny, State.noteErr, State.timebase_bump, State.timebase_set]

@[simp] theorem State.timebase_withdraw (n : Nat) (fast : Bool) : (s.withdraw n fast).timebase = s.timebase := by
  simp [State.withdraw]

@[simp] theorem State.timebase_rgeLog (code n : Nat) (chan : Option Nat) : (s.rgeLog code n chan).timebase = s.timebase := by
  unfold State.rgeLog
  dsimp only
  split
  · rfl
  · exact State.timebase_set _ (by decide) _ _

@[simp] theorem State.timebase_slotCut (e : List Nat) : (s.slotCut e).timebase = s.timebase :=
  s.timebase_forL (fun c t => by simp (disch := decide) [State.timebase_bump, State.timebase_set]) _

@[simp] theorem State.timebase_endWait (n : Nat) : (s.endWait n).timebase = s.timebase := s.timebase_set (by decide) _ n

@[simp] theorem State.timebase_giveUp (n : Nat) : (s.giveUp n).timebase = s.timebase := by
  simp (disch := decide) [State.giveUp, State.unPre, State.timebase_setBit]

@[simp] theorem State.timebase_utxWindow (n : Nat) (isOpen : Bool) : (s.utxWindow n isOpen).timebase = s.timebase := by
  unfold State.utxWindow
  dsimp only
  repeat' split
  all_goals simp

@[simp] theorem State.timebase_forceDown (n : Nat) (fast : Bool) : (s.forceDown n fast).timebase = s.timebase := by
  unfold State.forceDown
  dsimp only
  repeat' split
  all_goals simp

@[simp] theorem State.timebase_applyPwr (n : Nat) : (s.applyPwr n).timebase = s.timebase := by
  simp (disch := decide) [State.applyPwr, State.timebase_set]

@[simp] theorem State.timebase_refreshPwr (n : Nat) : (s.refreshPwr n).timebase = s.timebase := by
  unfold State.refreshPwr
  split <;> simp

@[simp] theorem State.timebase_markChain (c : Nat) (leased : Bool) (seq : Nat) :
    (s.markChain c leased seq).timebase = s.timebase := by
  simp (disch := decide) [State.markChain, State.timebase_set]

/-! ### Leases -/

theorem State.timebase_setRadio (r : Radio) : ({ s with radio := r } : State).timebase = s.timebase := rfl

@[simp] theorem State.timebase_censusLatch (sh : Nat) (part : Bool) : (s.censusLatch sh part).timebase = s.timebase := by
  unfold State.censusLatch
  dsimp only
  split
  · split <;> simp (disch := decide) [State.timebase_set]
  · refine (State.timebase_setRadio _ _).trans ?_
    split <;> simp (disch := decide) [State.timebase_set]

@[simp] theorem State.timebase_clkSpread : s.clkSpread.timebase = s.timebase := by
  unfold State.clkSpread
  dsimp only
  split <;> simp (disch := decide) [State.timebase_bump, State.timebase_set]

@[simp] theorem State.timebase_spurFree (sh : Nat) : (s.spurFree sh).timebase = s.timebase := by
  simp [State.spurFree]

@[simp] theorem State.timebase_geoLoad (t : List Nat) : (s.geoLoad t).timebase = s.timebase := by
  unfold State.geoLoad
  refine (State.timebase_setRadio _ _).trans ?_
  rw [State.timebase_forN _ fun k u => u.timebase_setRadio _, State.timebase_forN _ fun k u => u.timebase_setRadio _]

@[simp] theorem State.timebase_geoDue : s.geoDue.timebase = s.timebase := by
  unfold State.geoDue
  split <;> simp

@[simp] theorem State.timebase_rfsPower (m : Nat) : (s.rfsPower m).timebase = s.timebase := by
  unfold State.rfsPower
  dsimp only
  repeat' split
  all_goals simp (disch := decide) [State.timebase_set]

@[simp] theorem State.timebase_rfsRelease (m : Nat) : (s.rfsRelease m).timebase = s.timebase := by
  unfold State.rfsRelease
  dsimp only
  split <;> simp

@[simp] theorem State.timebase_leaseFree (sh : Nat) : (s.leaseFree sh).timebase = s.timebase := by
  have hidle : ((s.forL (s.rxOf sh) fun ch t => if rxIDLE < t.rst ch then t.rxIdle ch else t).engAbort sh).timebase =
      s.timebase := by
    rw [State.timebase_engAbort, State.timebase_forL]
    intro ch t
    split <;> simp
  unfold State.leaseFree
  dsimp only
  rw [State.timebase_geoDue, State.timebase_rfsRelease, State.timebase_seqFree, State.timebase_spurFree,
    State.timebase_set _ (by decide), State.timebase_setSheaf, State.timebase_forL _ fun c t => by simp]
  split <;> simp (disch := decide) [State.timebase_set, hidle]

@[simp] theorem State.timebase_leaseEnd (sh : Nat) (how : LeaseEnd) : (s.leaseEnd sh how).timebase = s.timebase := by
  have hdown (t : State) (l : List Nat) (fast : Bool) : (t.forL l fun c u => u.forceDown c fast).timebase = t.timebase :=
    t.timebase_forL (fun c u => by simp) l
  unfold State.leaseEnd
  split
  · rfl
  · extract_lets sheaf s1 s2
    have h2 : s2.timebase = s.timebase := by
      unfold s2
      split <;> simp [s1, hdown]
    split <;> simp [h2]

@[simp] theorem State.timebase_slotEndLease (sh : Nat) : (s.slotEndLease sh).timebase = s.timebase := by
  unfold State.slotEndLease
  dsimp only
  split <;> simp (disch := decide) [State.timebase_set]
end
end Sys2Proof.Machine
end

section
/-! PROOFS. R48, R57: what a boundary makes of CYCLE, its adjustment and OFFSET. -/

namespace Sys2Proof.Machine

open Sys2Proof

/-! ### What a boundary's CYCLE rests on -/

/-- What a boundary reads and writes of CYCLE, its adjustment and OFFSET (R48, R57). -/
structure CycleAdj where
  cycle : Nat
  armed : Bool
  offApplied : Nat
  src : Nat
  offset : Nat
  delta : Nat
  stepped : Nat
  valid : Nat

/-- The part of a state that CYCLE rests on at a boundary. -/
def State.cycleAdj (s : State) : CycleAdj where
  cycle := s.atb.cycle
  armed := s.atb.adjArmed
  offApplied := s.atb.offApplied
  src := s.get ATB.CTRL_SRC
  offset := s.get ATB.OFFSET_OFFSET
  delta := s.get ATB.CYCLE_ADJ_DELTA
  stepped := s.get ATB.STATUS_CYCLE_STEP
  valid := s.get ATB.STATE_CYCLE_VALID

/-- The keys of the registers among them. -/
def cycleAdjKeys : List Nat := [ATB.CTRL_SRC.key 0, ATB.OFFSET_OFFSET.key 0, ATB.CYCLE_ADJ_DELTA.key 0,
  ATB.STATUS_CYCLE_STEP.key 0, ATB.STATE_CYCLE_VALID.key 0]

/-- The next cycle begun (R57). -/
def CycleAdj.begun (a : CycleAdj) : CycleAdj := { a with cycle := (a.cycle + 1) % 4294967296 }

/-- An armed adjustment applied (R48). -/
def CycleAdj.applied (a : CycleAdj) : CycleAdj :=
  if a.armed then { a with armed := false, cycle := (a.cycle + a.delta) % 4294967296, stepped := 1, valid := 1 } else a

/-- A new OFFSET applied, a backward step taking one cycle back (R57). -/
def CycleAdj.offsetDone (a : CycleAdj) : CycleAdj :=
  if a.src ≠ 0 ∨ a.offset = a.offApplied then a
  else { a with
    offApplied := a.offset
    cycle := if (65536 + a.offset - a.offApplied) % 65536 < 32768 then a.cycle else (a.cycle + 4294967295) % 4294967296 }

theorem State.cycleAdj_of_timebase {s t : State} (h : t.timebase = s.timebase) : t.cycleAdj = s.cycleAdj := by
  simp only [State.cycleAdj, State.atb_of_timebase h]
  congr 1 <;> exact State.get_of_timebase h (by decide)

section
variable (s : State)

theorem State.cycleAdj_set {f : Fld} {n : Nat} (h : f.key n ∉ cycleAdjKeys) (v : Nat) : (s.set f v n).cycleAdj = s.cycleAdj := by
  simp only [cycleAdjKeys, List.mem_cons, List.not_mem_nil, or_false, not_or] at h
  obtain ⟨hsrc, hoffset, hdelta, hstep, hvalid⟩ := h
  simp [State.cycleAdj, State.get_set_ne _ _ _ _ _ _ (Ne.symm hsrc), State.get_set_ne _ _ _ _ _ _ (Ne.symm hoffset),
    State.get_set_ne _ _ _ _ _ _ (Ne.symm hdelta), State.get_set_ne _ _ _ _ _ _ (Ne.symm hstep),
    State.get_set_ne _ _ _ _ _ _ (Ne.symm hvalid)]

theorem State.cycleAdj_updAtb {g : Atb → Atb} (hc : (g s.atb).cycle = s.atb.cycle) (ha : (g s.atb).adjArmed = s.atb.adjArmed)
    (ho : (g s.atb).offApplied = s.atb.offApplied) : (s.updAtb g).cycleAdj = s.cycleAdj := by
  simp [State.cycleAdj, State.updAtb, hc, ha, ho, State.get]

theorem State.cycleAdj_forL {α : Type} {g : α → State → State} (h : ∀ i t, (g i t).cycleAdj = t.cycleAdj) (l : List α) :
    (s.forL l g).cycleAdj = s.cycleAdj :=
  State.forL_keep (·.cycleAdj = s.cycleAdj) g l s rfl fun i _ t ht => (h i t).trans ht

theorem State.cycleAdj_forN {g : Nat → State → State} (h : ∀ i t, (g i t).cycleAdj = t.cycleAdj) (k : Nat) :
    (s.forN k g).cycleAdj = s.cycleAdj := s.cycleAdj_forL h _

/-! ### Slots -/

@[simp] theorem State.cycleAdj_slotEnd (sh : Nat) : (s.slotEnd sh).cycleAdj = s.cycleAdj := by
  unfold State.slotEnd
  split
  · rfl
  · extract_lets k e s1 s2 s3 eng s4
    have h1 : s1.cycleAdj = s.cycleAdj := by
      rw [State.cycleAdj_set _ (by decide), State.setBit, State.cycleAdj_set _ (by decide)]
      exact s.cycleAdj_updAtb rfl rfl rfl
    have h3 : s3.timebase = s1.timebase := by
      rw [State.timebase_slotCut]
      exact s1.timebase_forL (fun c t => t.timebase_setBit (by decide) _ _ _) _
    have h4 : s4.timebase = s1.timebase := by
      unfold s4
      split <;> simp (disch := decide) [State.timebase_set, h3]
    refine Eq.trans (State.cycleAdj_of_timebase ?_) h1
    split <;> simp [h4]

@[simp] theorem State.cycleAdj_slotEndAll : s.slotEndAll.cycleAdj = s.cycleAdj := s.cycleAdj_forN (fun _ _ => by simp) 4

@[simp] theorem State.cycleAdj_slotCheck : s.slotCheck.cycleAdj = s.cycleAdj := by
  unfold State.slotCheck
  split <;> simp

@[simp] theorem State.timebase_prepMark (k : Nat) (e : List Nat) (on : Bool) : (s.prepMark k e on).timebase = s.timebase := by
  refine s.timebase_forL (fun c t => ?_) _
  rfl

@[simp] theorem State.cycleAdj_prepMark (k : Nat) (e : List Nat) (on : Bool) : (s.prepMark k e on).cycleAdj = s.cycleAdj :=
  State.cycleAdj_of_timebase (s.timebase_prepMark k e on)

@[simp] theorem State.cycleAdj_slotPrep (k : Nat) (e : List Nat) (cyc : Nat) : (s.slotPrep k e cyc).cycleAdj = s.cycleAdj := by
  unfold State.slotPrep
  extract_lets s1
  have h1 : s1.cycleAdj = s.cycleAdj := (State.cycleAdj_set _ (by decide) _).trans (s.cycleAdj_updAtb rfl rfl rfl)
  split <;> simp [h1]

@[simp] theorem State.cycleAdj_slotSuppress (k : Nat) (e : List Nat) : (s.slotSuppress k e).cycleAdj = s.cycleAdj := by
  unfold State.slotSuppress
  extract_lets s1
  have h1 : s1.cycleAdj = s.cycleAdj := by
    rw [State.cycleAdj_prepMark, State.cycleAdj_set _ (by decide)]
    exact s.cycleAdj_updAtb rfl rfl rfl
  split
  · rw [State.cycleAdj_of_timebase (s1.timebase_sheafEvent _ _), h1]
  · exact h1

@[simp] theorem State.cycleAdj_stepPass (a b : Nat) : (s.stepPass a b).cycleAdj = s.cycleAdj := by
  refine s.cycleAdj_forL (fun p t => ?_) _
  dsimp only
  repeat' split
  all_goals simp

@[simp] theorem State.cycleAdj_stepPassNext (b : Nat) : (s.stepPassNext b).cycleAdj = s.cycleAdj := by
  refine s.cycleAdj_forN (fun k t => ?_) _
  dsimp only
  split <;> simp

/-! ### Angle-triggered events and photodiode integrations -/

@[simp] theorem State.cycleAdj_setAev (e : AtbEvents) : ({ s with aev := e } : State).cycleAdj = s.cycleAdj := rfl
@[simp] theorem State.cycleAdj_pdSpoil : s.pdSpoil.cycleAdj = s.cycleAdj := rfl

@[simp] theorem State.cycleAdj_pdTrigger : s.pdTrigger.cycleAdj = s.cycleAdj := by
  unfold State.pdTrigger
  split <;> rfl

@[simp] theorem State.cycleAdj_pdBoundary : s.pdBoundary.cycleAdj = s.cycleAdj := by
  unfold State.pdBoundary
  split
  · rfl
  · split <;> rfl

@[simp] theorem State.cycleAdj_aevFire (ev : Nat) : (s.aevFire ev).cycleAdj = s.cycleAdj := by
  unfold State.aevFire
  extract_lets route mode fired aev s1 s2 s3
  have h1 : s1.cycleAdj = s.cycleAdj := (State.cycleAdj_setAev _ _).trans (s.cycleAdj_set (by decide) _)
  have h2 : s2.cycleAdj = s.cycleAdj := by
    unfold s2
    split
    · rw [State.cycleAdj_of_timebase (s1.timebase_forN (fun n t => t.timebase_seqEvent n _) 16), h1]
    · exact h1
  have h3 : s3.cycleAdj = s.cycleAdj := by
    unfold s3
    split <;> simp [h2]
  split
  · rw [State.cycleAdj_of_timebase (s3.timebase_pulse 4), h3]
  · exact h3

@[simp] theorem State.cycleAdj_aevPass (lo hi : Nat) : (s.aevPass lo hi).cycleAdj = s.cycleAdj := by
  refine s.cycleAdj_forN (fun ev t => ?_) 8
  dsimp only
  split <;> simp

/-! ### The boundary -/

@[simp] theorem State.cycleAdj_synthSteer (t : Nat) : (s.synthSteer t).cycleAdj = s.cycleAdj := by
  unfold State.synthSteer
  split <;> exact s.cycleAdj_updAtb rfl rfl rfl

@[simp] theorem State.cycleAdj_when {g : State → State} {c : Bool} (h : ∀ t, (g t).cycleAdj = t.cycleAdj) :
    (s.when c g).cycleAdj = s.cycleAdj := by
  unfold State.when
  split
  · exact h s
  · rfl

@[simp] theorem State.cycleAdj_atbEnter (st : Nat) : (s.atbEnter st).cycleAdj = s.cycleAdj := by
  unfold State.atbEnter
  split
  · rfl
  · extract_lets s1 s2 s3 s4 s5 s6
    have h1 : s1.cycleAdj = s.cycleAdj := s.cycleAdj_set (by decide) st
    have h2 : s2.cycleAdj = s1.cycleAdj := s1.cycleAdj_when fun t => t.cycleAdj_set (by decide) 1
    have h3 : s3.cycleAdj = s2.cycleAdj := s2.cycleAdj_when fun t =>
      (State.cycleAdj_updAtb _ rfl rfl rfl).trans (t.cycleAdj_set (by decide) 1)
    have h4 : s4.cycleAdj = s3.cycleAdj := s3.cycleAdj_when fun t => t.cycleAdj_updAtb rfl rfl rfl
    have h5 : s5.cycleAdj = s4.cycleAdj := s4.cycleAdj_when fun t => t.cycleAdj_updAtb rfl rfl rfl
    have h6 : s6.cycleAdj = s5.cycleAdj := s5.cycleAdj_when fun t => t.cycleAdj_synthSteer _
    rw [State.cycleAdj_slotCheck, State.cycleAdj_when _ fun t => t.cycleAdj_pdSpoil, h6, h5, h4, h3, h2, h1]

theorem State.cycleAdj_adjApply : s.adjApply.cycleAdj = s.cycleAdj.applied := by
  unfold State.adjApply CycleAdj.applied
  by_cases h : s.atb.adjArmed = true
  · rw [if_pos h, if_pos (show s.cycleAdj.armed = true from h)]
    simp (disch := decide) [State.cycleAdj, State.get_set_ne]
    exact ⟨rfl, rfl, rfl⟩
  · rw [if_neg h, if_neg (show ¬ s.cycleAdj.armed = true from h)]

theorem State.cycleAdj_offsetApply : s.offsetApply.cycleAdj = s.cycleAdj.offsetDone := by
  have hsame : (s.on ATB.CTRL_SRC || s.get ATB.OFFSET_OFFSET == s.atb.offApplied) = true ↔
      s.cycleAdj.src ≠ 0 ∨ s.cycleAdj.offset = s.cycleAdj.offApplied := by simp [State.on, State.cycleAdj]
  unfold State.offsetApply CycleAdj.offsetDone
  by_cases h : s.cycleAdj.src ≠ 0 ∨ s.cycleAdj.offset = s.cycleAdj.offApplied
  · rw [if_pos (hsame.2 h), if_pos h]
  · rw [if_neg (mt hsame.1 h), if_neg h]
    dsimp only
    rw [State.cycleAdj_updAtb _ rfl rfl rfl, State.cycleAdj_atbEnter]
    rfl

@[simp] theorem State.cycleAdj_planSwap : s.planSwap.cycleAdj = s.cycleAdj := by
  unfold State.planSwap
  split
  · dsimp only
    simp (disch := decide) only [State.cycleAdj_set]
    exact s.cycleAdj_updAtb rfl rfl rfl
  · rfl

theorem State.cycleAdj_setRge (x : Rge) : ({ s with rge := x } : State).cycleAdj = s.cycleAdj := rfl

@[simp] theorem State.cycleAdj_prepClean : s.prepClean.cycleAdj = s.cycleAdj :=
  s.cycleAdj_forN (fun _ t => t.cycleAdj_setRge _) 4

@[simp] theorem State.cycleAdj_offsetPass (cyc : Nat) : (s.offsetPass cyc).cycleAdj = s.cycleAdj := by
  unfold State.offsetPass
  split <;> simp
/-- A boundary up to its adjustment: the slots ended, the next cycle begun. -/
def State.boundaryBegin (s : State) (ns : Nat) : State :=
  let cyc := (s.atb.cycle + 1) % 4294967296
  let s1 := (s.updAtb fun a => { a with
    angle := 0, frac := 0, cycle := cyc, stamps := (ns :: a.stamps).take 256 }).set ATB.STATUS_CYCLE 1
  if cyc == 0 then s1.set ATB.STATUS_WRAP 1 else s1

/-- A boundary from its adjustment on: OFFSET, the plan, the slots that a step of OFFSET passes, and SYNTH's steering. -/
def State.boundaryEnd (s : State) (ns : Nat) : State :=
  let s1 := (s.pdBoundary.offsetApply.planSwap.prepClean).offsetPass s.atb.cycle
  s1.when (s1.atbSt == abSYNTH) fun t => t.synthSteer ns

theorem State.boundary_eq (ns : Nat) : s.boundary ns = ((s.slotEndAll.boundaryBegin ns).adjApply).boundaryEnd ns := by
  unfold State.boundary State.boundaryBegin State.boundaryEnd
  generalize s.slotEndAll = t
  rfl

theorem State.cycleAdj_boundaryBegin (ns : Nat) : (s.boundaryBegin ns).cycleAdj = s.cycleAdj.begun := by
  unfold State.boundaryBegin
  extract_lets cyc s1
  have h1 : s1.cycleAdj = s.cycleAdj.begun := (State.cycleAdj_set _ (by decide) 1).trans rfl
  split
  · rw [State.cycleAdj_set _ (by decide), h1]
  · exact h1

theorem State.cycleAdj_boundaryEnd (ns : Nat) : (s.boundaryEnd ns).cycleAdj = s.cycleAdj.offsetDone := by
  simp [State.boundaryEnd, State.cycleAdj_offsetApply]

/-- What a boundary makes of CYCLE and its adjustment (R48, R57). -/
theorem State.cycleAdj_boundary (ns : Nat) : (s.boundary ns).cycleAdj = s.cycleAdj.begun.applied.offsetDone := by
  rw [State.boundary_eq, State.cycleAdj_boundaryEnd, State.cycleAdj_adjApply, State.cycleAdj_boundaryBegin,
    State.cycleAdj_slotEndAll]

/-- The next cycle begun and an armed adjustment applied. -/
theorem CycleAdj.begun_applied_of_armed {a : CycleAdj} (h : a.armed = true) : a.begun.applied =
    { a with armed := false, cycle := (a.cycle + 1 + a.delta) % 4294967296, stepped := 1, valid := 1 } := by
  simp [CycleAdj.applied, CycleAdj.begun, h]

/-- CYCLE after a boundary with an armed adjustment: one more, the adjustment added, one less for a backward step of OFFSET. -/
theorem CycleAdj.cycle_of_armed {a : CycleAdj} (h : a.armed = true) :
    a.begun.applied.offsetDone.cycle = (a.cycle + 1 + a.delta +
      (if a.src = 0 ∧ 32768 ≤ (65536 + a.offset - a.offApplied) % 65536 then 4294967295 else 0)) % 4294967296 := by
  rw [CycleAdj.begun_applied_of_armed h, CycleAdj.offsetDone]
  split
  · next hsame =>
    have hnone : ¬ (a.src = 0 ∧ 32768 ≤ (65536 + a.offset - a.offApplied) % 65536) := by
      simp only at hsame
      omega
    simp [hnone]
  · next hstep =>
    simp only at hstep ⊢
    split <;> split <;> omega

/-- An OFFSET applied leaves the adjustment's marks. -/
theorem CycleAdj.offsetDone_marks (a : CycleAdj) :
    a.offsetDone.armed = a.armed ∧ a.offsetDone.stepped = a.stepped ∧ a.offsetDone.valid = a.valid := by
  unfold CycleAdj.offsetDone
  split <;> exact ⟨rfl, rfl, rfl⟩

end
end Sys2Proof.Machine
end

section
/-! PROOFS. R48: an adjustment of 0 beside a boundary without one, and the statement settled. -/

namespace Sys2Proof.Machine

open Sys2Proof

/-! ### An adjustment of 0 -/

/-- What a key reads after a write to it does not rest on what stood there before, under any default. -/
theorem Tab.get_set_same_congr {α : Type} [DecidableEq α] (c d : α) (t u : Tab α) (k : Nat) (v : α) :
    Tab.get c (Tab.set d t k v) k = Tab.get c (Tab.set d u k v) k := by
  unfold Tab.set
  split
  · rw [Tab.get_erase_same, Tab.get_erase_same]
  · rw [Tab.get_ins_same c _ k v (Tab.erase_no_key t k), Tab.get_ins_same c _ k v (Tab.erase_no_key u k)]

/-- What an adjustment applied sets in the registers (R48). -/
def stepKeys : List Nat := [ATB.STATUS_CYCLE_STEP.key 0, ATB.STATE_CYCLE_VALID.key 0]

/-- Two states alike in the timebase's state, the memory and the registers, but for what an adjustment applied sets. -/
structure SameButStep (u t : State) : Prop where
  atb : t.atb = u.atb
  mem : t.mem = u.mem
  regs : regsSame u t stepKeys

section
variable {u t : State}

theorem SameButStep.on (h : SameButStep u t) {f : Fld} {n : Nat} (hf : f.key n ∉ stepKeys) : t.on f n = u.on f n := by
  rw [State.on, State.on, h.regs f n hf]

theorem SameButStep.set (h : SameButStep u t) (f : Fld) (v n : Nat) : SameButStep (u.set f v n) (t.set f v n) where
  atb := h.atb
  mem := h.mem
  regs g m hg := by
    by_cases hk : g.key m = f.key n
    · simp only [State.get, State.set, hk]
      exact Tab.get_set_same_congr _ _ _ _ _ _
    · rw [State.get_set_ne _ _ _ _ _ _ hk, State.get_set_ne _ _ _ _ _ _ hk, h.regs g m hg]

/-- A write to one of the step's registers, in one of the states, goes unnoticed. -/
theorem SameButStep.setStep (h : SameButStep u t) {f : Fld} {n : Nat} (hf : f.key n ∈ stepKeys) (v : Nat) :
    SameButStep u (t.set f v n) where
  atb := h.atb
  mem := h.mem
  regs g m hg := by
    have hne : g.key m ≠ f.key n := fun e => hg (e ▸ hf)
    rw [State.get_set_ne _ _ _ _ _ _ hne, h.regs g m hg]

theorem SameButStep.updAtb (h : SameButStep u t) {g g' : Atb → Atb} (hg : g' t.atb = g u.atb) :
    SameButStep (u.updAtb g) (t.updAtb g') where
  atb := hg
  mem := h.mem
  regs := h.regs

theorem SameButStep.setRge (h : SameButStep u t) (x y : Rge) : SameButStep { u with rge := x } { t with rge := y } where
  atb := h.atb
  mem := h.mem
  regs := h.regs

theorem SameButStep.setLum (h : SameButStep u t) (x y : Lum) : SameButStep { u with lum := x } { t with lum := y } where
  atb := h.atb
  mem := h.mem
  regs := h.regs
end

/-- A boundary counts towards the photodiode's integration, in the luminaire's state alone. -/
theorem State.pdBoundary_eq (s : State) : ∃ x : Lum, s.pdBoundary = { s with lum := x } := by
  unfold State.pdBoundary
  split
  · exact ⟨_, rfl⟩
  · split
    · exact ⟨s.lum, rfl⟩
    · exact ⟨_, rfl⟩

/-- The marks of prepared slots are in the enforcer's state alone. -/
theorem State.prepClean_eq (s : State) : ∃ x : Rge, s.prepClean = { s with rge := x } := by
  refine State.forN_keep (fun t => ∃ x : Rge, t = { s with rge := x }) _ 4 s ⟨s.rge, rfl⟩ ?_
  rintro c - _ ⟨x, rfl⟩
  exact ⟨_, rfl⟩

section
variable {u t : State}

theorem SameButStep.pdBoundary (h : SameButStep u t) : SameButStep u.pdBoundary t.pdBoundary := by
  obtain ⟨x, hx⟩ := u.pdBoundary_eq
  obtain ⟨y, hy⟩ := t.pdBoundary_eq
  rw [hx, hy]
  exact h.setLum x y

theorem SameButStep.prepClean (h : SameButStep u t) : SameButStep u.prepClean t.prepClean := by
  obtain ⟨x, hx⟩ := u.prepClean_eq
  obtain ⟨y, hy⟩ := t.prepClean_eq
  rw [hx, hy]
  exact h.setRge x y

theorem SameButStep.planSwap (h : SameButStep u t) : SameButStep u.planSwap t.planSwap := by
  unfold State.planSwap
  rw [h.on (by decide), h.regs ATB.PLAN_ACT_ACT_CYCLE 0 (by decide), h.atb]
  split
  · dsimp only
    rw [h.regs ATB.PLAN_CTRL_ACTIVE_BANK 0 (by decide), h.regs ATB.PLAN_CTRL_PLAN_ID 0 (by decide),
      h.regs ATB.PLAN_CTRL_SLOTS 0 (by decide)]
    exact ((((h.updAtb (by rw [h.atb])).set _ _ _).set _ _ _).set _ _ _).set _ _ _
  · exact h

theorem SameButStep.synthSteer (h : SameButStep u t) (ns : Nat) : SameButStep (u.synthSteer ns) (t.synthSteer ns) := by
  have hnom : t.on ATB.CTRL_NOM = u.on ATB.CTRL_NOM := h.on (by decide)
  have hgrid (a : Anchor) : t.gridAngle a ns = u.gridAngle a ns := by simp only [State.gridAngle, State.atbP3, hnom]
  unfold State.synthSteer
  rw [h.atb]
  split
  · exact h.updAtb (by rw [h.atb])
  · exact h.updAtb (by simp only [h.atb, hgrid, State.atbNominal, hnom])

theorem SameButStep.whenSynth (h : SameButStep u t) (ns : Nat) :
    SameButStep (u.when (u.atbSt == abSYNTH) fun x => x.synthSteer ns) (t.when (t.atbSt == abSYNTH) fun x => x.synthSteer ns) := by
  have hst : t.atbSt = u.atbSt := h.regs ATB.STATE_STATE 0 (by decide)
  unfold State.when
  rw [hst]
  split
  · exact h.synthSteer ns
  · exact h
end

/-! ### A boundary at which no step of OFFSET is due -/

theorem State.offsetApply_of_settled {s : State} (h : s.get ATB.OFFSET_OFFSET = s.atb.offApplied) : s.offsetApply = s := by
  simp [State.offsetApply, h]

theorem State.offsetPass_of_start {s : State} (h : s.atb.angle = 0) (cyc : Nat) : s.offsetPass cyc = s := by
  simp [State.offsetPass, h]

theorem State.planSwap_angle (s : State) : s.planSwap.atb.angle = s.atb.angle := by
  unfold State.planSwap
  split <;> rfl

/-- The end of such a boundary: the photodiode's count, the plan, and SYNTH's steering. -/
theorem State.boundaryEnd_of_settled {s : State} (hoff : s.get ATB.OFFSET_OFFSET = s.atb.offApplied) (hangle : s.atb.angle = 0)
    (ns : Nat) : s.boundaryEnd ns = (s.pdBoundary.planSwap.prepClean).when (s.pdBoundary.planSwap.prepClean.atbSt == abSYNTH)
      fun t => t.synthSteer ns := by
  have hsettled : s.pdBoundary.offsetApply = s.pdBoundary := by
    obtain ⟨x, hx⟩ := s.pdBoundary_eq
    rw [hx]
    exact State.offsetApply_of_settled hoff
  have hstart : s.pdBoundary.planSwap.prepClean.atb.angle = 0 := by
    obtain ⟨x, hx⟩ := s.pdBoundary_eq
    obtain ⟨y, hy⟩ := s.pdBoundary.planSwap.prepClean_eq
    rw [hy]
    exact (State.planSwap_angle _).trans (hx ▸ hangle)
  rw [State.boundaryEnd, hsettled, State.offsetPass_of_start hstart]

theorem SameButStep.boundaryEnd {u t : State} (h : SameButStep u t) (hoff : u.get ATB.OFFSET_OFFSET = u.atb.offApplied)
    (hangle : u.atb.angle = 0) (ns : Nat) : SameButStep (u.boundaryEnd ns) (t.boundaryEnd ns) := by
  have hoff' : t.get ATB.OFFSET_OFFSET = t.atb.offApplied := by rw [h.regs _ 0 (by decide), h.atb, hoff]
  rw [State.boundaryEnd_of_settled hoff hangle, State.boundaryEnd_of_settled hoff' (h.atb ▸ hangle)]
  exact h.pdBoundary.planSwap.prepClean.whenSynth ns

/-- Where no slot runs, none ends. -/
theorem State.slotEndAll_of_idle {s : State} (h : ∀ k, k < 4 → s.runningSlot k = 0) : s.slotEndAll = s :=
  State.forN_keep (· = s) _ 4 s rfl fun k hk t ht => by
    subst ht
    simp [State.slotEnd, h k hk]

/-- The same state, its adjustment not armed. -/
def State.disarmed (s : State) : State := { s with atb := { s.atb with adjArmed := false } }

theorem State.boundaryBegin_disarmed (s : State) (ns : Nat) : s.disarmed.boundaryBegin ns = (s.boundaryBegin ns).disarmed := by
  unfold State.boundaryBegin
  dsimp only [State.disarmed]
  split <;> rfl

theorem State.boundaryBegin_angle (s : State) (ns : Nat) : (s.boundaryBegin ns).atb.angle = 0 := by
  unfold State.boundaryBegin
  dsimp only
  split <;> rfl

/-- An adjustment of 0 leaves CYCLE, and so sets its two bits alone. -/
theorem State.sameButStep_adjApply {s : State} (harmed : s.atb.adjArmed = true) (hzero : s.get ATB.CYCLE_ADJ_DELTA = 0)
    (hcycle : s.atb.cycle < 4294967296) : SameButStep s.disarmed s.adjApply := by
  have hbase : SameButStep s.disarmed (s.updAtb fun a => { a with
      adjArmed := false, cycle := (a.cycle + s.get ATB.CYCLE_ADJ_DELTA) % 4294967296 }) :=
    { atb := by simp [State.updAtb, State.disarmed, hzero, Nat.mod_eq_of_lt hcycle]
      mem := rfl
      regs := fun _ _ _ => rfl }
  rw [State.adjApply, if_pos harmed]
  exact (hbase.setStep (by decide) 1).setStep (by decide) 1

/-- At a boundary with no slot running and no OFFSET due, an armed adjustment of 0 sets its two bits alone. -/
theorem State.sameButStep_boundary {s : State} (harmed : s.atb.adjArmed = true) (hzero : s.get ATB.CYCLE_ADJ_DELTA = 0)
    (hoff : s.get ATB.OFFSET_OFFSET = s.atb.offApplied) (hidle : ∀ k, k < 4 → s.runningSlot k = 0) (ns : Nat) :
    SameButStep (s.disarmed.boundary ns) (s.boundary ns) := by
  have hadj := s.cycleAdj_boundaryBegin ns
  have harmed' : (s.boundaryBegin ns).atb.adjArmed = true := (congrArg CycleAdj.armed hadj).trans harmed
  have hzero' : (s.boundaryBegin ns).get ATB.CYCLE_ADJ_DELTA = 0 := (congrArg CycleAdj.delta hadj).trans hzero
  have hcycle' : (s.boundaryBegin ns).atb.cycle < 4294967296 :=
    (congrArg CycleAdj.cycle hadj).trans_lt (Nat.mod_lt _ (by decide))
  have hoff' : (s.boundaryBegin ns).get ATB.OFFSET_OFFSET = (s.boundaryBegin ns).atb.offApplied :=
    (congrArg CycleAdj.offset hadj).trans (hoff.trans (congrArg CycleAdj.offApplied hadj).symm)
  have hnone : (s.boundaryBegin ns).disarmed.adjApply = (s.boundaryBegin ns).disarmed := rfl
  rw [State.boundary_eq, State.boundary_eq, State.slotEndAll_of_idle hidle,
    State.slotEndAll_of_idle (s := s.disarmed) hidle, State.boundaryBegin_disarmed, hnone]
  exact (State.sameButStep_adjApply harmed' hzero' hcycle').boundaryEnd hoff' (s.boundaryBegin_angle ns) ns

/-! ### R48 -/

theorem exec_cycleBoundary {s : State} (h : s.atbSt ≠ abOFF) (ns : Nat) : exec (.cycleBoundary ns) s = .next (s.boundary ns) :=
  if_neg (by simpa using h)

/-- A boundary with an armed adjustment (R48, R57). -/
theorem State.boundary_of_armed {s : State} (harmed : s.atb.adjArmed = true) (ns : Nat) :
    (s.boundary ns).atb.cycle = (s.atb.cycle + 1 + s.get ATB.CYCLE_ADJ_DELTA +
      (if s.get ATB.CTRL_SRC = 0 ∧ 32768 ≤ (65536 + s.get ATB.OFFSET_OFFSET - s.atb.offApplied) % 65536 then 4294967295
        else 0)) % 4294967296 ∧
    (s.boundary ns).atb.adjArmed = false ∧ (s.boundary ns).get ATB.STATUS_CYCLE_STEP = 1 ∧
    (s.boundary ns).get ATB.STATE_CYCLE_VALID = 1 := by
  have hadj := s.cycleAdj_boundary ns
  generalize s.boundary ns = t at hadj ⊢
  have hcycle := CycleAdj.cycle_of_armed (a := s.cycleAdj) harmed
  obtain ⟨hflag, hstep, hvalid⟩ := s.cycleAdj.begun.applied.offsetDone_marks
  rw [← hadj] at hcycle hflag hstep hvalid
  rw [CycleAdj.begun_applied_of_armed (a := s.cycleAdj) harmed] at hflag hstep hvalid
  exact ⟨hcycle, hflag, hstep, hvalid⟩

/-- Settles O40: what a boundary makes of CYCLE, its adjustment and OFFSET, and, for an adjustment of 0, the two runs of the
boundary side by side. -/
theorem cycleAdjustAtTheNextBoundary : Obligations.CycleAdjustAtTheNextBoundary := by
  unfold Obligations.CycleAdjustAtTheNextBoundary
  refine ⟨fun s => rfl, fun s ns hon harmed => ?_, fun s ns hon harmed hzero hoff hidle => ?_⟩
  · exact ⟨s.boundary ns, exec_cycleBoundary hon ns, State.boundary_of_armed harmed ns⟩
  · obtain ⟨hatb, hmem, hregs⟩ := State.sameButStep_boundary harmed hzero hoff hidle ns
    exact ⟨s.boundary ns, s.disarmed.boundary ns, exec_cycleBoundary hon ns, exec_cycleBoundary (s := s.disarmed) hon ns,
      hatb, hmem, hregs⟩

end Sys2Proof.Machine
end

section
/-! PROOFS. R134: a request for SEALED in FACTORY without a valid profile. LC_REQUEST is a write of object 0x0121, which changes
nothing where no transition of R494 takes the code it names. -/

namespace Sys2Proof.Machine

open Sys2Proof

/-! ### The transition (R494) -/

/-- R134, R494: FACTORY gives way to SEALED with a valid profile and a signing key. -/
theorem State.lcAllowed_factory_sealed {s : State} (hlc : s.lc = lcFACTORY) :
    s.lcAllowed lcSEALED =
      (s.on RGE.STATE_PROFILE_OK && (s.objBytes 0x0135 1 != [] || s.objBytes 0x0135 2 != [])) := by
  simp [State.lcAllowed, hlc]

/-- A request for a transition that is not allowed leaves the state, whether it finds an image transfer open or not. -/
theorem State.lcRequest_of_not_allowed {s : State} {v : Nat} (h : s.lcAllowed (v % 256) = false) : (s.lcRequest v).2 = s := by
  unfold State.lcRequest
  split
  · rfl
  · simp [h]

/-! ### The write of LC_REQUEST -/

/-- A write of LC_REQUEST is checked as a value and then taken as a request. -/
theorem State.objApply_lcRequest (s : State) (d : ObjDef) (sub : Nat) (b : List Nat) :
    s.objApply d 0x0121 sub b =
      if s.odCheck d 0x0121 sub b != odOK then (s.odCheck d 0x0121 sub b, s) else s.lcRequest (ofLe b) := rfl

/-- A value put into an object leaves the state where applying it would; every other answer is an abort. -/
theorem State.odPut_of_objApply {s : State} {i sub ty : Nat} {b : List Nat} (h : ∀ d, (s.objApply d i sub b).2 = s) :
    (s.odPut i sub ty b).2 = s := by
  unfold State.odPut
  extract_lets bar
  by_cases hbar : bar = odOK
  · cases objFind i sub with
    | none => simp [hbar]
    | some d => by_cases hty : ty = d.ty <;> simp [hbar, hty, h]
  · simp [hbar]

/-- So does the whole write: an open transfer of the object refuses it. -/
theorem State.odWrite_of_objApply {s : State} {i sub ty : Nat} {b : List Nat} (h : ∀ d, (s.objApply d i sub b).2 = s) :
    (s.odWrite i sub ty b).2 = s := by
  unfold State.odWrite
  split
  · rfl
  · exact State.odPut_of_objApply h

/-- The command leaves the state where the request that its word makes would. -/
theorem exec_lcRequest_of_refused {s : State} {v : Nat} (h : (s.lcRequest (ofLe (toLe 4 v))).2 = s) :
    exec (.lcRequest v) s = .next s := by
  refine congrArg Host.Outcome.next (State.odWrite_of_objApply fun d => ?_)
  rw [State.objApply_lcRequest]
  split
  · rfl
  · exact h

/-- Settles O56: without a valid profile the transition from FACTORY to SEALED is not allowed, so its request is refused. -/
theorem sealingNeedsAProfile : Obligations.SealingNeedsAProfile := by
  unfold Obligations.SealingNeedsAProfile
  intro s hlc hprof
  have hbar : s.lcAllowed lcSEALED = false := by
    rw [State.lcAllowed_factory_sealed hlc]
    simp [State.on, hprof]
  have hcode : ofLe (toLe 4 0x4C433102) % 256 = lcSEALED := by decide
  exact exec_lcRequest_of_refused (State.lcRequest_of_not_allowed (by rw [hcode, hbar]))

end Sys2Proof.Machine
end

section
/-! PROOFS. R507: a result outside its trim's range aborts the sequence with RANGE. A sequence that has such a result is not the
synthesizers' (`calInRange` bounds none of theirs), so its abort re-locks nothing and writes only Fulling's own registers. -/

namespace Sys2Proof.Machine

open Sys2Proof

/-! ### A counter advanced -/

section
variable (s : State) (cnt sat : Fld) (n k : Nat)

@[simp] theorem State.bump_calWork : (s.bump cnt sat n k).calWork = s.calWork := by
  unfold State.bump
  split <;> rfl

@[simp] theorem State.bump_mem : (s.bump cnt sat n k).mem = s.mem := by
  unfold State.bump
  split <;> rfl

@[simp] theorem State.bump_age : (s.bump cnt sat n k).age = s.age := by
  unfold State.bump
  split <;> rfl
end

/-- A field that is neither the counter nor its SAT bit reads as before. -/
theorem State.get_bump_ne (s : State) {cnt sat f : Fld} {n j : Nat} (hcnt : f.key j ≠ cnt.key n) (hsat : f.key j ≠ sat.key n)
    (k : Nat) : (s.bump cnt sat n k).get f j = s.get f j := by
  unfold State.bump
  split
  · exact State.get_set_ne _ _ _ _ _ _ hcnt
  · rw [State.get_set_ne _ _ _ _ _ _ hsat, State.get_set_ne _ _ _ _ _ _ hcnt]

/-! ### What an abort writes (R513) -/

section
variable (s : State) (seq code : Nat)

@[simp] theorem State.calAborted_calWork : (s.calAborted seq code).calWork = s.calWork := by simp [State.calAborted]

@[simp] theorem State.calAborted_mem : (s.calAborted seq code).mem = s.mem := by simp [State.calAborted]

@[simp] theorem State.calAborted_age : (s.calAborted seq code).age = s.age := by simp [State.calAborted]

theorem State.get_calAborted_busy : (s.calAborted seq code).get CAL.STATE_BUSY = 0 := by
  simp (disch := decide) [State.calAborted, State.get_bump_ne, State.get_set_ne]

theorem State.get_calAborted_code (h : code < 16) : (s.calAborted seq code).get CAL.RESULT_CODE = code := by
  have hfits : code % 2 ^ CAL.RESULT_CODE.width = code := Nat.mod_eq_of_lt h
  simp (disch := decide) [State.calAborted, State.get_bump_ne, State.get_set_ne, hfits]

theorem State.get_calAborted_seq (h : seq < 16) : (s.calAborted seq code).get CAL.RESULT_SEQ = seq := by
  have hfits : seq % 2 ^ CAL.RESULT_SEQ.width = seq := Nat.mod_eq_of_lt h
  simp (disch := decide) [State.calAborted, State.get_bump_ne, State.get_set_ne, hfits]

theorem State.get_calAborted_aborted : (s.calAborted seq code).get CAL.STATUS_ABORTED = 1 := by
  simp (disch := decide) [State.calAborted, State.get_bump_ne, Fld.width]
end

/-- Only a synthesizer calibration's abort re-locks (R81). -/
theorem State.calAbort_of_ne_synth {s : State} (h : s.get CAL.STATE_SEQ ≠ 7) (code : Nat) :
    s.calAbort code = s.calAborted (s.get CAL.STATE_SEQ) code := by
  simp [State.calAbort, h]

/-! ### A sequence's end -/

/-- Every result of a synthesizer calibration lies in range. -/
theorem calInRange_synth (v : List Nat) : calInRange 7 v = true := rfl

/-- With no commit waiting and no boot set under way, nothing is owed to the end of a sequence (R514, R516). -/
theorem State.calOwed_of_none {s : State} (hcommit : s.age.commitWait = false) (hboot : s.age.bootSet = none) : s.calOwed = s := by
  simp [State.calOwed, State.calBootGo, hcommit, hboot]

/-- The end of a running sequence, and then what was owed to it. -/
theorem exec_calSequenceEnd_busy {s : State} (h : s.get CAL.STATE_BUSY ≠ 0) (code : Nat) (res : List (Nat × List Nat)) :
    exec (.calSequenceEnd code res) s = .next (s.calEnd code res).calOwed :=
  congrArg Host.Outcome.next (if_pos (bne_iff_ne.mpr h))

/-- A result of one of the units out of range aborts with RANGE where the preconditions hold (R507). -/
theorem State.calEnd_of_out_of_range {s : State} {res : List (Nat × List Nat)} {r : Nat × List Nat}
    (hpre : s.calPre (s.get CAL.STATE_SEQ) (s.calNamed (s.get CAL.STATE_SEQ) s.calTarget) = 0) (hmem : r ∈ res)
    (hunit : calUnits (s.get CAL.STATE_SEQ) = 0 ∨
      (s.calNamed (s.get CAL.STATE_SEQ) s.calTarget).contains (calUnit (s.get CAL.STATE_SEQ) r.1) = true)
    (hout : calInRange (s.get CAL.STATE_SEQ) r.2 = false) : s.calEnd 0 res = s.calAbort 8 := by
  unfold State.calEnd
  extract_lets seq named pre mine
  have hpre0 : pre = 0 := hpre
  have hmine : r ∈ mine := List.mem_filter.mpr ⟨hmem, by simpa using hunit⟩
  have hall : (mine.all fun r => calInRange seq r.2) = false := List.all_eq_false.mpr ⟨r, hmine, by simp [seq, hout]⟩
  simp [hpre0, hall]

/-- Settles O58: the end aborts with RANGE, and the abort of a sequence other than the synthesizers' leaves all but registers. -/
theorem resultOutOfRangeAborts : Obligations.ResultOutOfRangeAborts := by
  unfold Obligations.ResultOutOfRangeAborts
  intro s res r hbusy hseq hpre hmem hunit hout
  have hne : s.get CAL.STATE_SEQ ≠ 7 := by
    intro h
    rw [h, calInRange_synth] at hout
    contradiction
  have hend : exec (.calSequenceEnd 0 res) s = .next (s.calAbort 8).calOwed := by
    rw [exec_calSequenceEnd_busy hbusy, State.calEnd_of_out_of_range hpre hmem hunit hout]
  refine ⟨hend, ?_⟩
  rw [State.calAbort_of_ne_synth hne]
  refine ⟨s.get_calAborted_busy _ _, s.get_calAborted_code _ _ (by decide), s.get_calAborted_seq _ _ hseq,
    s.get_calAborted_aborted _ _, fun hcommit hboot => ?_⟩
  rw [State.calOwed_of_none (by simpa using hcommit) (by simpa using hboot)]
  exact ⟨s.calAborted_calWork _ _, s.calAborted_mem _ _⟩

end Sys2Proof.Machine
end

section
/-! PROOFS. R536: a watchdog's second expiry. WARM puts the watchdogs, the queues and the radio back to what reset makes them and
keeps RST_CAUSE; the votes of bring-up, the log entry and FAILSAFE leave that as it is, and FAILSAFE takes the dim outputs. -/

namespace Sys2Proof.Machine

open Sys2Proof

/-! ### Registers through a WARM's reset -/

section
variable (s : State) {f : Fld} {n : Nat}

/-- A field of the AON or MRAM domain keeps its value. -/
theorem State.get_resetCore_kept (h : keptKey (f.key n) = true) : s.resetCore.get f n = s.get f n := by
  have := Tab.get_clear_keep (f.rst n) (fun k => !keptKey k) s.regs (k := f.key n) (by simp [h])
  simpa [Tab.clear, State.get, State.resetCore] using this

/-- Every other field reads as its reset value. -/
theorem State.get_resetCore_reset (h : keptKey (f.key n) = false) : s.resetCore.get f n = f.rst n := by
  have := Tab.get_clear_gone (f.rst n) (fun k => !keptKey k) s.regs (k := f.key n) (by simp [h])
  simpa [Tab.clear, State.get, State.resetCore] using this
end

/-! ### What a WARM for WDT2 leaves -/

/-- Registers, each with its number and value, as such a WARM leaves them: the cause is shown, the watchdogs are off, no chain has a
grant and the HF reader is off. -/
def warmRegs : List (Fld × Nat × Nat) :=
  [(SYS.RST_CAUSE_WDT2, 0, 1), (SYS.WDT_CTRL_EN, 0, 0), (SYS.WDT_CTRL_EN, 1, 0), (RGE.STATE_GRANT, 0, 0), (HFR.STATE_STATE, 0, 0)]

/-- A state as such a WARM leaves it: these registers, the queues empty, transmit chains and HF reader as after reset. -/
structure WarmRest (s : State) : Prop where
  reg : ∀ p ∈ warmRegs, s.get p.1 p.2.1 = p.2.2
  que : s.que = []
  utx : s.radio.utx = []
  hfr : s.hfr = {}

/-- Field `f` number `n` is none of these registers. -/
def Fld.offWarm (f : Fld) (n : Nat) : Bool := warmRegs.all fun p => p.1.key p.2.1 != f.key n

namespace WarmRest
variable {s t : State} (h : WarmRest s)
include h

/-- Whatever changes neither registers nor queues, chains or HF reader leaves it so. -/
theorem of_same (hregs : t.regs = s.regs) (hque : t.que = s.que) (hutx : t.radio.utx = s.radio.utx) (hhfr : t.hfr = s.hfr) :
    WarmRest t where
  reg p hp := by rw [State.get, hregs]; exact h.reg p hp
  que := hque.trans h.que
  utx := hutx.trans h.utx
  hfr := hhfr.trans h.hfr

theorem withNv (x : Nv) : WarmRest { s with nv := x } := h.of_same rfl rfl rfl rfl

theorem clearObj (i k : Nat) : WarmRest (s.clearObj i k) := h.of_same rfl rfl rfl rfl

theorem wipeRecord (r : Nat) : WarmRest (s.wipeRecord r) := h.of_same rfl rfl rfl rfl

theorem wipe (lo hi : Nat) : WarmRest (s.wipe lo hi) := h.of_same rfl rfl rfl rfl

theorem ctrStart : WarmRest s.ctrStart := h.of_same rfl rfl rfl rfl

theorem set (f : Fld) (v : Nat) (n : Nat := 0) (hf : f.offWarm n = true := by decide) : WarmRest (s.set f v n) where
  reg p hp := by
    have hne : p.1.key p.2.1 ≠ f.key n := by simpa using List.all_eq_true.mp hf p hp
    rw [State.get_set_ne _ _ _ _ _ _ hne, h.reg p hp]
  que := h.que
  utx := h.utx
  hfr := h.hfr

theorem setBit (f : Fld) (k : Nat) (b : Bool) (n : Nat := 0) (hf : f.offWarm n = true := by decide) :
    WarmRest (s.setBit f k b n) := h.set f _ n hf

theorem bump (cnt sat : Fld) (n : Nat := 0) (k : Nat := 1) (hcnt : cnt.offWarm n = true := by decide)
    (hsat : sat.offWarm n = true := by decide) : WarmRest (s.bump cnt sat n k) := by
  unfold State.bump
  split
  · exact h.set cnt _ n hcnt
  · exact (h.set cnt _ n hcnt).set sat 1 n hsat

theorem wrBytes (l : List Nat) (a : Nat) : WarmRest (s.wrBytes a l) := by
  induction l generalizing s a with
  | nil => exact h
  | cons x r ih =>
    have hbyte : WarmRest (s.wr8 a x) := h.of_same rfl rfl rfl rfl
    rw [State.wrBytes]
    exact ih hbyte (a + 1)

theorem logP (code inst data : Nat) : WarmRest (s.logP code inst data) := ((h.wrBytes _ _).wrBytes _ _).wrBytes _ _

/-! ### The kill that a low RFKILL_N asserts again (R26, R146) -/

theorem not_granted (n : Nat) : s.granted n = false := by
  have hgrant : s.get RGE.STATE_GRANT = 0 := h.reg (RGE.STATE_GRANT, 0, 0) (by decide)
  simp [State.granted, State.bit, hgrant, bitOf]

/-- No chain asks for a grant or has one: the kill takes none back. -/
theorem killChain (n : Nat) : s.killChain n = s := by
  have hask : (s.utxAt n).grantAsked = false := by simp [State.utxAt, h.utx]
  simp [State.killChain, hask, h.not_granted n]

/-- The field is off and no change of it is asked for: the kill has nothing to drop. -/
theorem hfKill : s.hfKill = s := by
  have hoff : s.hst = 0 := h.reg (HFR.STATE_STATE, 0, 0) (by decide)
  simp [State.hfKill, hoff, h.hfr]

theorem killNow : WarmRest s.killNow := by
  have hactive : WarmRest { s.set RGE.STATE_KILL_ACTIVE 1 with rge.cutMask := 0, rge.cutAt := s.now } :=
    (h.set RGE.STATE_KILL_ACTIVE 1).of_same rfl rfl rfl rfl
  have hchains := State.forN_keep WarmRest (fun n t => t.killChain n) 4 _ hactive fun n _ t ht => by rwa [ht.killChain n]
  rw [State.killNow, hchains.hfKill]
  exact hchains

theorem rgeLog (code n : Nat) (chan : Option Nat) : WarmRest (s.rgeLog code n chan) := by
  unfold State.rgeLog
  split
  · exact h.of_same rfl rfl rfl rfl
  · exact (h.set RGE.STATUS_LOG_OVR 1).of_same rfl rfl rfl rfl

theorem killBy (status : Fld) (code : Nat) (hf : status.offWarm 0 = true := by decide) : WarmRest (s.killBy status code) :=
  (((h.set status 1 0 hf).rgeLog code 0 none).bump RGE.CNT_KILL_COUNT RGE.STATUS_SAT).killNow

/-! ### Steps of bring-up -/

theorem fsEngage : WarmRest s.fsEngage := by
  unfold State.fsEngage
  split
  · exact h
  · exact (((h.set LUM.FS_CTRL_ENGAGED 1).set LUM.STATUS_FS_ENGAGED 1).bump LUM.CNT_FS_COUNT LUM.STATUS_SAT).of_same rfl rfl rfl rfl

theorem wipeRetention : WarmRest s.wipeRetention := ((h.wipe _ _).set AON.STATUS_RET_LOST 1).set AON.SCRATCH_DATA 0

theorem wipeSite : WarmRest s.wipeSite := by
  have hrecords := State.forL_keep WarmRest (fun r t => t.wipeRecord r) [0x10, 0x11, 0x12, 0x20] s h fun r _ _ ht => ht.wipeRecord r
  exact ((hrecords.clearObj 0x6019 0).clearObj 0x6011 0).wipeRetention.withNv _

theorem clearObjs (i k : Nat) : WarmRest (s.forN k fun j t => t.clearObj i (j + 1)) :=
  State.forN_keep WarmRest _ k s h fun j _ _ ht => ht.clearObj i (j + 1)

theorem lcWipe (old new : Nat) : WarmRest (s.lcWipe old new) := by
  unfold State.lcWipe
  split
  · exact ((h.wipeSite.clearObjs 0x4105 4).clearObjs 0x0136 16).withNv _
  · split
    · exact h.wipeSite
    · split
      · exact h.wipeRetention.withNv _
      · exact h.wipeRetention

theorem lcFinish : WarmRest s.lcFinish := by
  unfold State.lcFinish
  split
  · exact h
  · exact ((h.lcWipe _ _).withNv _).logP _ _ _

theorem bootPtrLoad : WarmRest s.bootPtrLoad :=
  ((((h.set AON.BOOT_PTR_FW _).set AON.BOOT_PTR_LSQ _).set AON.BOOT_PTR_TBL _).set AON.BOOT_PTR_TRIES _).set AON.BOOT_PTR_TRIAL _

theorem bootPtrTo (v : Nat) : WarmRest (s.bootPtrTo v) := (h.withNv _).bootPtrLoad

theorem bootTrial : WarmRest s.bootTrial := by
  unfold State.bootTrial
  dsimp only
  split
  · exact h.bootPtrLoad
  · split
    · exact h.bootPtrTo _
    · exact h.bootPtrTo _

theorem bootVotes : WarmRest s.bootVotes := by
  unfold State.bootVotes
  extract_lets s1 nv coreP s2 s3
  have h1 : WarmRest s1 := h.lcFinish
  have h2 : WarmRest s2 := h1.of_same rfl rfl rfl rfl
  have h3 : WarmRest s3 := ((h2.set SYS.LC_STATE _).set CAL.BANK_PTR _).bootTrial
  exact ((h3.set LUM.FS_LEVEL_FS_PWM _).set LUM.FS_LEVEL_FS_DAC _).fsEngage

theorem wdtPark (n : Nat) : WarmRest (s.wdtPark n) := by
  unfold State.wdtPark
  dsimp only
  split
  · exact h
  · exact h.of_same rfl rfl rfl rfl

theorem coreOff : WarmRest s.coreOff := by
  have hparked := State.forN_keep WarmRest (fun n t => t.wdtPark n) 2 s h fun n _ _ ht => ht.wdtPark n
  exact hparked.of_same rfl rfl rfl rfl

theorem setMode (m : Nat) : WarmRest (s.setMode m) := by
  unfold State.setMode
  split
  · exact h
  · split
    · exact h.set SYS.MODE_MODE m
    · exact (h.set SYS.MODE_MODE m).logP _ _ _

end WarmRest

/-- WARM with WDT2 set beforehand leaves a state so (R25, R536). -/
theorem State.warmBase_rest {s : State} (hcause : s.get SYS.RST_CAUSE_WDT2 = 1) : WarmRest s.warmBase := by
  unfold State.warmBase
  extract_lets pin s1 coreP s2 s3 s4
  have hkept : keptKey (SYS.RST_CAUSE_WDT2.key 0) = true := by decide +kernel
  have hreset : ∀ p ∈ warmRegs.tail, keptKey (p.1.key p.2.1) = false ∧ p.1.rst p.2.1 = p.2.2 := by decide +kernel
  have h2 : WarmRest s2 :=
    { reg := fun p hp => by
        rcases List.mem_cons.mp hp with rfl | htail
        · exact (s.get_resetCore_kept hkept).trans hcause
        · obtain ⟨hkey, hval⟩ := hreset p htail
          exact (s.get_resetCore_reset hkey).trans hval
      que := rfl
      utx := rfl
      hfr := rfl }
  have h3 : WarmRest s3 :=
    (((h2.setBit PWR.STATE_DOM 0 false).setBit PWR.STATE_DOM 1 false).set PWR.STATE_BUCKB_ON 0).set PWR.DOM_CTRL_RADIO 0
  have h4 : WarmRest s4 := (h3.set PWR.DOM_CTRL_HFR 0).of_same rfl rfl rfl rfl
  split
  · exact (h4.set RGE.KILL_PIN 1).killBy RGE.STATUS_KILL_PIN 25
  · exact h4

/-! ### FAILSAFE entered from QUIET (R497) -/

theorem bitOf_eq_testBit (v k : Nat) : bitOf v k = v.testBit k := by
  rw [Nat.testBit_eq_decide_div_mod_eq]
  rfl

/-- A bit made 1 reads as 1. -/
theorem bitOf_putBit_true (v k : Nat) : bitOf (putBit v k true) k = true := by
  unfold putBit
  cases h : bitOf v k with
  | true =>
    have hle : 2 ^ k ≤ v := Nat.ge_two_pow_of_testBit ((bitOf_eq_testBit v k).symm.trans h)
    simp [b2n, Nat.sub_add_cancel hle, h]
  | false =>
    rw [bitOf_eq_testBit] at h
    simp [b2n, bitOf_eq_testBit, Nat.add_comm v, Nat.testBit_two_pow_add_eq, h]

/-- A bit within a field's width is that of the value written. -/
theorem bitOf_mod_two_pow (v : Nat) {k w : Nat} (h : k < w) : bitOf (v % 2 ^ w) k = bitOf v k := by
  simp [bitOf_eq_testBit, Nat.testBit_mod_two_pow, h]

section
variable (s : State)

/-- The log of Core P lies in AON retention SRAM (R530): a byte below it reads as before. -/
theorem State.rd8_logP_below (code inst data : Nat) {a : Nat} (ha : a < 0x28000000) :
    (s.logP code inst data).rd8 a = s.rd8 a := by
  simp (disch := omega) only [State.logP, State.faultLog, State.wr32, State.rd8_wrBytes_out]

theorem State.rd8_setMode_below (m : Nat) {a : Nat} (ha : a < 0x28000000) : (s.setMode m).rd8 a = s.rd8 a := by
  unfold State.setMode
  split
  · rfl
  · split
    · rfl
    · exact (State.rd8_logP_below _ _ _ _ ha).trans rfl

theorem State.setMode_mode {m : Nat} (hm : m < 4) : (s.setMode m).mode = m := by
  have hset : (s.set SYS.MODE_MODE m).mode = m := (s.get_set_same _ _ _).trans (Nat.mod_eq_of_lt hm)
  unfold State.setMode
  split
  · next h => exact beq_iff_eq.mp h
  · split
    · exact hset
    · exact (State.get_logP _ _ _ _ _ _).trans hset

theorem State.wdtPark_regs (n : Nat) : (s.wdtPark n).regs = s.regs := by
  unfold State.wdtPark
  dsimp only
  split <;> rfl

/-- CORE's power-off names no register. -/
theorem State.get_coreOff (f : Fld) (n : Nat) : s.coreOff.get f n = s.get f n := by
  have hregs : (s.forN 2 fun n t => t.wdtPark n).regs = s.regs :=
    State.forN_keep (·.regs = s.regs) _ 2 s rfl fun n _ t ht => (t.wdtPark_regs n).trans ht
  exact congrArg (fun r => Tab.get (f.rst n) r (f.key n)) hregs

/-- It loses system SRAM and the memories below it. -/
theorem State.rd8_coreOff {a : Nat} (ha : a < 0x28000000) : s.coreOff.rd8 a = 0 :=
  congrArg BitVec.toNat (Tab.get_clear_gone 0 (fun b => decide (b < 0x28000000)) _ (decide_eq_true ha))

theorem State.fsEngage_mem : s.fsEngage.mem = s.mem := by
  unfold State.fsEngage
  split
  · rfl
  · simp

theorem State.fsEngage_engaged : s.fsEngage.get LUM.FS_CTRL_ENGAGED ≠ 0 := by
  unfold State.fsEngage
  split
  · next h => simpa [State.on] using h
  · have hset : (s.set LUM.FS_CTRL_ENGAGED 1).get LUM.FS_CTRL_ENGAGED = 1 := s.get_set_same _ _ _
    have hkeep := (State.get_bump_ne ((s.set LUM.FS_CTRL_ENGAGED 1).set LUM.STATUS_FS_ENGAGED 1) (cnt := LUM.CNT_FS_COUNT)
      (sat := LUM.STATUS_SAT) (f := LUM.FS_CTRL_ENGAGED) (n := 0) (j := 0) (by decide) (by decide) 1).trans
      ((State.get_set_ne _ _ _ _ _ _ (by decide)).trans hset)
    exact ne_of_eq_of_ne hkeep one_ne_zero

/-- Only registers of LUM are written where the failsafe takes the pins. -/
theorem State.get_fsEngage_ne {f : Fld} {n : Nat} (h : f.key n < LUM.ID_BLOCK.addr * 32) : s.fsEngage.get f n = s.get f n := by
  have hne : ∀ g : Fld, LUM.ID_BLOCK.addr * 32 ≤ g.key 0 → f.key n ≠ g.key 0 := fun g hg => by omega
  unfold State.fsEngage
  split
  · rfl
  · refine (State.get_bump_ne _ (hne _ (by decide)) (hne _ (by decide)) 1).trans ?_
    rw [State.get_set_ne _ _ _ _ _ _ (hne _ (by decide)), State.get_set_ne _ _ _ _ _ _ (hne _ (by decide))]
end

theorem State.get_ctrStart (s : State) (f : Fld) (n : Nat) : s.ctrStart.get f n = s.get f n := rfl

/-- FAILSAFE entered, up to the mode that shows it. -/
def State.failsafeBegin (s : State) (cause : Nat) : State :=
  let s1 := (s.setBit SYS.MODE_CAUSE cause true).coreOff.fsEngage
  ((((s1.setBit PWR.STATE_DOM 3 false).outEn 0 false).auxGate).set RGE.STATE_HOLD 15).ctrStart

/-- In QUIET the radio is off already. -/
theorem State.enterFailsafe_of_quiet {s : State} (h : s.mode = mdQUIET) (cause : Nat) :
    s.enterFailsafe cause = (s.failsafeBegin cause).setMode mdFAILSAFE := by
  have hmode : (s.setBit SYS.MODE_CAUSE cause true).mode = mdQUIET := (State.get_set_ne _ _ _ _ _ _ (by decide)).trans h
  simp [State.enterFailsafe, State.failsafeBegin, hmode, mdQUIET, mdFAILSAFE, mdFULL]

section
variable (s : State) (cause : Nat)

theorem State.rd8_failsafeBegin {a : Nat} (ha : a < 0x28000000) : (s.failsafeBegin cause).rd8 a = 0 := by
  unfold State.failsafeBegin
  extract_lets s1
  have hmem : s1.mem = (s.setBit SYS.MODE_CAUSE cause true).coreOff.mem := State.fsEngage_mem _
  have hlow : s1.rd8 a = 0 := (congrArg (fun m => (Tab.get 0 m a).toNat) hmem).trans (State.rd8_coreOff _ ha)
  clear_value s1
  exact hlow

/-- A field that is none of FAILSAFE's own reads as the failsafe on the pins left it. -/
theorem State.get_failsafeBegin {f : Fld} {n : Nat} (hdom : f.key n ≠ PWR.STATE_DOM.key 0) (hout : f.key n ≠ CLK.OUT_EN.key 0)
    (haux : f.key n ≠ CLK.OUT_EN.key 4) (hhold : f.key n ≠ RGE.STATE_HOLD.key 0) :
    (s.failsafeBegin cause).get f n = ((s.setBit SYS.MODE_CAUSE cause true).coreOff.fsEngage).get f n := by
  unfold State.failsafeBegin
  extract_lets s1
  rw [State.get_ctrStart, State.get_set_ne _ _ _ _ _ _ hhold, State.auxGate, State.outEn,
    State.get_set_ne _ _ _ _ _ _ haux, State.outEn, State.get_set_ne _ _ _ _ _ _ hout, State.get_setBit_ne _ _ _ _ _ _ _ hdom]

theorem State.failsafeBegin_engaged : (s.failsafeBegin cause).get LUM.FS_CTRL_ENGAGED ≠ 0 := by
  rw [State.get_failsafeBegin _ _ (by decide) (by decide) (by decide) (by decide)]
  exact State.fsEngage_engaged _

/-- The cause of the entry is shown in MODE. -/
theorem State.failsafeBegin_cause (h : cause < SYS.MODE_CAUSE.width) : (s.failsafeBegin cause).bit SYS.MODE_CAUSE cause = true := by
  rw [State.bit, State.get_failsafeBegin _ _ (by decide) (by decide) (by decide) (by decide),
    State.get_fsEngage_ne _ (by decide), State.get_coreOff, State.setBit, State.get_set_same,
    bitOf_mod_two_pow _ h]
  exact bitOf_putBit_true _ _

theorem WarmRest.failsafeBegin {s : State} (h : WarmRest s) (cause : Nat) : WarmRest (s.failsafeBegin cause) := by
  unfold State.failsafeBegin
  extract_lets s1
  have h1 : WarmRest s1 := (h.setBit SYS.MODE_CAUSE cause true).coreOff.fsEngage
  have hgated : WarmRest ((s1.setBit PWR.STATE_DOM 3 false).outEn 0 false).auxGate :=
    ((h1.setBit PWR.STATE_DOM 3 false).set CLK.OUT_EN _ 0).set CLK.OUT_EN _ 4
  exact (hgated.set RGE.STATE_HOLD 15).ctrStart
end

/-! ### R536 -/

/-- The state in which a second expiry enters FAILSAFE: WARM, the votes of bring-up, Core P's entry, and QUIET. -/
def State.secondExpiry (s : State) (n : Nat) : State :=
  (((s.set SYS.RST_CAUSE_WDT2 1).warmBase.bootVotes).logP 0x22 (n % 2) 0).set SYS.MODE_MODE mdQUIET

theorem State.secondExpiry_rest (s : State) (n : Nat) : WarmRest (s.secondExpiry n) :=
  WarmRest.set ((State.warmBase_rest (s.get_set_same _ _ _)).bootVotes.logP _ _ _) SYS.MODE_MODE _

theorem State.secondExpiry_mode (s : State) (n : Nat) : (s.secondExpiry n).mode = mdQUIET := State.get_set_same _ _ _ _

theorem exec_wdtExpiry_second {s : State} {n : Nat} (hn : n < 2) (hen : s.get SYS.WDT_CTRL_EN n ≠ 0) (hrun : s.wdtHalted n = false)
    (hafter : s.get SYS.WDT_STATE_AFTER n ≠ 0) :
    exec (.wdtExpiry n) s = .next ((s.secondExpiry n).enterFailsafe csVOTE) := by
  have hmod : n % 2 = n := Nat.mod_eq_of_lt hn
  have hcmd : exec (.wdtExpiry n) s = execWdtExpiry n s := rfl
  rw [hcmd]
  simp [execWdtExpiry, State.secondExpiry, State.on, hmod, hen, hrun, hafter]

/-- Settles O53: the state after WARM keeps WDT2 and has the watchdogs off; FAILSAFE entered from it adds the rest. -/
theorem secondWatchdogExpiry : Obligations.SecondWatchdogExpiry := by
  unfold Obligations.SecondWatchdogExpiry
  intro s n hn hen hrun hafter
  have hrest : WarmRest (((s.secondExpiry n).failsafeBegin csVOTE).setMode mdFAILSAFE) :=
    ((s.secondExpiry_rest n).failsafeBegin csVOTE).setMode mdFAILSAFE
  refine ⟨((s.secondExpiry n).failsafeBegin csVOTE).setMode mdFAILSAFE, ?_, State.setMode_mode _ (by decide),
    hrest.reg (SYS.RST_CAUSE_WDT2, 0, 1) (by decide), ?_, ?_, fun a ha => ?_, hrest.que, fun k hk => ?_⟩
  · rw [exec_wdtExpiry_second hn hen hrun hafter, State.enterFailsafe_of_quiet (s.secondExpiry_mode n)]
  · rw [State.bit, State.get_setMode_ne _ _ _ _ (by decide)]
    exact State.failsafeBegin_cause _ csVOTE (by decide)
  · rw [State.get_setMode_ne _ _ _ _ (by decide)]
    exact State.failsafeBegin_engaged _ _
  · rw [State.rd8_setMode_below _ _ ha]
    exact State.rd8_failsafeBegin _ _ ha
  · exact hrest.reg (SYS.WDT_CTRL_EN, k, 0) (by interval_cases k <;> decide)

end Sys2Proof.Machine
end

section
/-! PROOFS. Register fields after writes to others: whether two fields can share a key is computed from their rows, so that a
read passes the writes of every other field. -/

namespace Sys2Proof.Machine

open Sys2Proof

/-! ### Fields with different keys -/

/-- Two fields of one stride whose keys differ modulo it share no key, whatever the indices. -/
def Fld.apart (f g : Fld) : Bool := f.stride == g.stride && f.key 0 % (f.stride * 32) != g.key 0 % (f.stride * 32)

/-- Every register of one field lies below every register of the other. -/
def Fld.below (f g : Fld) : Bool := decide (0 < f.count) && decide (f.key (f.count - 1) < g.key 0)

theorem Fld.key_eq (f : Fld) (n : Nat) : f.key n = f.key 0 + n * (f.stride * 32) := by
  simp only [Fld.key, Fld.at]; ring

theorem Fld.key_ne_of_apart {f g : Fld} (h : f.apart g = true) (n k : Nat) : f.key n ≠ g.key k := by
  simp only [Fld.apart, Bool.and_eq_true, beq_iff_eq, bne_iff_ne] at h
  obtain ⟨hs, hr⟩ := h
  intro e
  rw [Fld.key_eq f, Fld.key_eq g, ← hs] at e
  have := congrArg (· % (f.stride * 32)) e
  simp only [Nat.add_mul_mod_self_right] at this
  exact hr this

theorem Fld.key_mono (f : Fld) {n k : Nat} (h : n ≤ k) : f.key n ≤ f.key k := by
  rw [Fld.key_eq f n, Fld.key_eq f k]
  exact Nat.add_le_add_left (Nat.mul_le_mul_right _ h) _

theorem Fld.key_lt_of_below {f g : Fld} (h : f.below g = true) {n : Nat} (hn : n < f.count) (k : Nat) : f.key n < g.key k := by
  simp only [Fld.below, Bool.and_eq_true, decide_eq_true_eq] at h
  have h1 : f.key n ≤ f.key (f.count - 1) := f.key_mono (by omega)
  have h2 : g.key 0 ≤ g.key k := g.key_mono (Nat.zero_le _)
  omega

theorem Fld.key_ne_of_instance {f : Fld} (hs : f.stride ≠ 0) {n k : Nat} (h : n ≠ k) : f.key n ≠ f.key k := by
  intro e
  rw [Fld.key_eq f n, Fld.key_eq f k] at e
  have : 0 < f.stride * 32 := by omega
  exact h (Nat.eq_of_mul_eq_mul_right this (by omega))

/-! ### Reads past writes -/

section
variable (s : State) {f g : Fld} {n k : Nat}

/-- A read passes a write to a field that is apart. -/
theorem State.get_set_apart (h : g.apart f = true) (v : Nat) : (s.set f v n).get g k = s.get g k :=
  State.get_set_ne s f g v n k (Fld.key_ne_of_apart h k n)

/-- A read passes a write to a field of a later block. -/
theorem State.get_set_above (h : g.below f = true) (hk : k < g.count) (v : Nat) : (s.set f v n).get g k = s.get g k :=
  State.get_set_ne s f g v n k (Nat.ne_of_lt (Fld.key_lt_of_below h hk n))

/-- A read passes a write to a field of an earlier block. -/
theorem State.get_set_below (h : f.below g = true) (hn : n < f.count) (v : Nat) : (s.set f v n).get g k = s.get g k :=
  State.get_set_ne s f g v n k (Nat.ne_of_gt (Fld.key_lt_of_below h hn k))

/-- A read passes a write to another index. -/
theorem State.get_set_instance (hs : f.stride ≠ 0) (h : k ≠ n) (v : Nat) : (s.set f v n).get f k = s.get f k :=
  State.get_set_ne s f f v n k (Fld.key_ne_of_instance hs h)

/-- A value that fits its field reads as written. -/
theorem State.get_set_fits {v : Nat} (h : v < 2 ^ f.width) : (s.set f v n).get f n = v := by
  rw [State.get_set_same, Nat.mod_eq_of_lt h]

/-- What is changed beside the registers is not seen by a read. -/
@[simp] theorem State.get_mk {a0 a1 a2 a3 a5 a6 a7 a8 a9 a10 a11 a12 a13 a14 a15 a16 a17 a18 a19 a20 a21 a22 a23 a24 a25 a26 a27
    a28 a29} : (State.mk a0 a1 a2 a3 s.regs a5 a6 a7 a8 a9 a10 a11 a12 a13 a14 a15 a16 a17 a18 a19 a20 a21 a22 a23 a24 a25 a26 a27
      a28 a29).get f n = s.get f n := rfl

/-- Two writes of one field: the later stands. -/
theorem State.get_bump_same (h : s.get f n < 0xFFFFFFFF) (hf : f.width = 32) : (s.bump f g n).get f n = s.get f n + 1 := by
  rw [State.bump_below s f g n 1 (by omega), State.get_set_fits]
  rw [hf]; omega

theorem State.get_bump_apart {c : Fld} (hc : g.apart c = true) (hf : g.apart f = true) (j : Nat) :
    (s.bump c f n j).get g k = s.get g k :=
  State.get_bump_ne s (Fld.key_ne_of_apart hc k n) (Fld.key_ne_of_apart hf k n) j
end

end Sys2Proof.Machine
end

section
/-! PROOFS. What an event counter's advance leaves: all but the counter and its SAT bit. -/

namespace Sys2Proof.Machine

open Sys2Proof

section
variable (s : State) (c f : Fld) (n k : Nat)

@[simp] theorem State.bump_pending : (s.bump c f n k).pending = s.pending := by unfold State.bump; split <;> rfl
@[simp] theorem State.bump_now : (s.bump c f n k).now = s.now := by unfold State.bump; split <;> rfl
@[simp] theorem State.bump_dsp : (s.bump c f n k).dsp = s.dsp := by unfold State.bump; split <;> rfl
@[simp] theorem State.bump_freeCount : (s.bump c f n k).freeCount = s.freeCount := by unfold State.bump; split <;> rfl
@[simp] theorem State.bump_objs : (s.bump c f n k).objs = s.objs := by unfold State.bump; split <;> rfl
@[simp] theorem State.bump_badVotes : (s.bump c f n k).badVotes = s.badVotes := by unfold State.bump; split <;> rfl
@[simp] theorem State.bump_bus : (s.bump c f n k).bus = s.bus := by unfold State.bump; split <;> rfl
@[simp] theorem State.bump_atb : (s.bump c f n k).atb = s.atb := by unfold State.bump; split <;> rfl
@[simp] theorem State.bump_aev : (s.bump c f n k).aev = s.aev := by unfold State.bump; split <;> rfl
@[simp] theorem State.bump_radio : (s.bump c f n k).radio = s.radio := by unfold State.bump; split <;> rfl
@[simp] theorem State.bump_rge : (s.bump c f n k).rge = s.rge := by unfold State.bump; split <;> rfl
@[simp] theorem State.bump_hfr : (s.bump c f n k).hfr = s.hfr := by unfold State.bump; split <;> rfl
@[simp] theorem State.bump_gl : (s.bump c f n k).gl = s.gl := by unfold State.bump; split <;> rfl
@[simp] theorem State.bump_hft : (s.bump c f n k).hft = s.hft := by unfold State.bump; split <;> rfl
@[simp] theorem State.bump_que : (s.bump c f n k).que = s.que := by unfold State.bump; split <;> rfl
@[simp] theorem State.bump_tmrPre : (s.bump c f n k).tmrPre = s.tmrPre := by unfold State.bump; split <;> rfl
@[simp] theorem State.bump_tmrUnread : (s.bump c f n k).tmrUnread = s.tmrUnread := by unfold State.bump; split <;> rfl
@[simp] theorem State.bump_pulses : (s.bump c f n k).pulses = s.pulses := by unfold State.bump; split <;> rfl
@[simp] theorem State.bump_calTarget : (s.bump c f n k).calTarget = s.calTarget := by unfold State.bump; split <;> rfl
@[simp] theorem State.bump_nv : (s.bump c f n k).nv = s.nv := by unfold State.bump; split <;> rfl
@[simp] theorem State.bump_coreP : (s.bump c f n k).coreP = s.coreP := by unfold State.bump; split <;> rfl
@[simp] theorem State.bump_lum : (s.bump c f n k).lum = s.lum := by unfold State.bump; split <;> rfl
@[simp] theorem State.bump_mpt : (s.bump c f n k).mpt = s.mpt := by unfold State.bump; split <;> rfl
@[simp] theorem State.bump_grn : (s.bump c f n k).grn = s.grn := by unfold State.bump; split <;> rfl
@[simp] theorem State.bump_net : (s.bump c f n k).net = s.net := by unfold State.bump; split <;> rfl
@[simp] theorem State.bump_hlk : (s.bump c f n k).hlk = s.hlk := by unfold State.bump; split <;> rfl

end
end Sys2Proof.Machine
end

section
/-! PROOFS. What stored bytes and entries of the fault log leave: all but the memory. -/

namespace Sys2Proof.Machine

open Sys2Proof

theorem State.wrBytes_form (s : State) (a : Nat) (l : List Nat) : ∃ x, s.wrBytes a l = { s with mem := x } := by
  induction l generalizing s a with
  | nil => exact ⟨_, rfl⟩
  | cons b r ih =>
    obtain ⟨x, hx⟩ := ih (s.wr8 a b) (a + 1)
    exact ⟨x, hx⟩

theorem State.faultLog_form (s : State) (base cap code inst data : Nat) :
    ∃ x, s.faultLog base cap code inst data = { s with mem := x } := by
  unfold State.faultLog State.wr32
  extract_lets fresh head count count' entry
  obtain ⟨x, hx⟩ := s.wrBytes_form base (toLe 4 0x31544C46)
  rw [hx]
  obtain ⟨y, hy⟩ := State.wrBytes_form { s with mem := x } (base + 16 + 16 * head) entry
  rw [hy]
  exact State.wrBytes_form _ _ _

end Sys2Proof.Machine
end

section
/-! PROOFS. Repetitions over a list without duplicates. -/

namespace Sys2Proof.Machine

open Sys2Proof

/-- The one turn `i` leads from `P` to `Q`, and every other turn keeps both. -/
theorem State.forL_once {α : Type} (P Q : State → Prop) (g : α → State → State) {l : List α} {i : α} (hnd : l.Nodup) (hi : i ∈ l)
    (s : State) (h0 : P s) (hp : ∀ j ∈ l, j ≠ i → ∀ t, P t → P (g j t)) (hpq : ∀ t, P t → Q (g i t))
    (hq : ∀ j ∈ l, j ≠ i → ∀ t, Q t → Q (g j t)) : Q (s.forL l g) := by
  induction l generalizing s with
  | nil => simp at hi
  | cons a r ih =>
    rw [List.nodup_cons] at hnd
    rcases List.mem_cons.1 hi with rfl | hr
    · exact State.forL_keep Q g r (g i s) (hpq s h0) fun j hj => hq j (by simp [hj]) fun e => hnd.1 (e ▸ hj)
    · have ha : a ≠ i := fun e => hnd.1 (e ▸ hr)
      exact ih hnd.2 hr (g a s) (hp a (by simp) ha s h0) (fun j hj => hp j (by simp [hj])) fun j hj => hq j (by simp [hj])

theorem State.forN_once (P Q : State → Prop) (g : Nat → State → State) {k i : Nat} (hi : i < k) (s : State) (h0 : P s)
    (hp : ∀ j, j < k → j ≠ i → ∀ t, P t → P (g j t)) (hpq : ∀ t, P t → Q (g i t))
    (hq : ∀ j, j < k → j ≠ i → ∀ t, Q t → Q (g j t)) : Q (s.forN k g) := by
  rw [State.forN_eq]
  exact State.forL_once P Q g List.nodup_range (List.mem_range.2 hi) s h0 (fun j hj => hp j (List.mem_range.1 hj)) hpq
    fun j hj => hq j (List.mem_range.1 hj)

theorem setBits_nodup (w mask : Nat) : (setBits w mask).Nodup := List.nodup_range.filter _

end Sys2Proof.Machine
end

section
/-! PROOFS. The step and the state after reset. -/

namespace Sys2Proof.Machine

open Sys2Proof

/-- Settles O1: with a command in front, `step` is `exec` of it on the rest. -/
theorem stepRunsFrontCommand : Obligations.StepRunsFrontCommand := by
  unfold Obligations.StepRunsFrontCommand
  intro s c r
  rfl

/-- The mark that a canonical state bears. -/
def State.mark (s : State) : Mark := ⟨s.pending, s.now, s.freeCount⟩

theorem State.mark_ok {s : State} (h : s.Inv) : s.mark.ok s := ⟨rfl, rfl, Nat.le_refl _, h.1, h.2⟩

theorem Mark.ok.inv {w : Mark} {s : State} (h : w.ok s) : s.Inv := ⟨h.mem, h.regs⟩

/-- Settles O2: the tick keeps the mark but for the time, which it moves by one. -/
theorem stepIdlesOneCycle : Obligations.StepIdlesOneCycle := by
  unfold Obligations.StepIdlesOneCycle
  intro s hs hidle
  have hok := Keep.tick_ok s (State.mark_ok hs)
  exact ⟨s.tick, by simp [step, hidle], hok.now, hok.pending.trans hidle⟩

/-- Settles O3: the register file of the reset state lists nothing, so that every field reads its row's reset value. -/
theorem resetLeavesTheTables : Obligations.ResetLeavesTheTables := by
  unfold Obligations.ResetLeavesTheTables
  refine ⟨fun f n => rfl, rfl, fun a => rfl, rfl, rfl, rfl, fun n hn => rfl⟩

/-- Settles O4: the reset state lists neither bytes nor fields. -/
theorem resetIsCanonical : Obligations.ResetIsCanonical := by
  unfold Obligations.ResetIsCanonical
  exact ⟨rfl, rfl⟩

/-- Settles O5: a command keeps the mark of the state that it runs on, and the tick the mark moved by one. -/
theorem stepKeepsCanonicalForm : Obligations.StepKeepsCanonicalForm := by
  unfold Obligations.StepKeepsCanonicalForm
  intro s t hs hstep
  unfold step at hstep
  split at hstep
  · next c rest _ =>
    have hrest : ({ s with pending := rest } : State).Inv := hs
    exact ((Keep.exec_next c _ (State.mark_ok hrest)).all t hstep).inv
  · cases hstep
    exact (Keep.tick_ok s (State.mark_ok hs)).inv

/-- Settles O6: a command keeps the mark of the state that it runs on. -/
theorem commandsKeepQueueAndTime : Obligations.CommandsKeepQueueAndTime := by
  unfold Obligations.CommandsKeepQueueAndTime
  intro i s t hs hexec
  have hok := (Keep.exec_next i s (State.mark_ok hs)).all t hexec
  exact ⟨hok.pending, hok.now, hok.draws⟩

end Sys2Proof.Machine
end

section
/-! PROOFS. R10, R19, R22, R437, R440, R445: accesses by a core or the Host Link bridge, in the system SRAM, outside the map, and to
registers whose words no block's own rule takes. -/

namespace Sys2Proof.Machine

open Sys2Proof

/-! ### Accesses by the cores and the bridge -/

theorem State.writeCmd_of_num {s : State} {m : Master} (hm : masterNum m < 4) (a w v : Nat) :
    s.writeCmd m a w v = match s.busWrite m a w v with
      | (.ok _, t) => .next t
      | (.error, t) => .next (t.respond 0 true)
      | (.unlisted b, _) => .refused (.registersNotGiven b) := by
  cases m with
  | seq n => simp only [masterNum] at hm; omega
  | coreA | coreB | coreP | hostLink => rfl

theorem State.readCmd_of_num {s : State} {m : Master} (hm : masterNum m < 4) (a w : Nat) :
    s.readCmd m a w = match s.busRead m a w with
      | (.ok v, t) => .next (t.respond v false)
      | (.error, t) => .next (t.respond 0 true)
      | (.unlisted b, _) => .refused (.registersNotGiven b) := by
  cases m with
  | seq n => simp only [masterNum] at hm; omega
  | coreA | coreB | coreP | hostLink => rfl

theorem State.busWrite_of_narrow {s : State} {w : Nat} (hw : w = 1 ∨ w = 2 ∨ w = 4) (m : Master) (a v : Nat) :
    s.busWrite m a w v = s.busWrite1 m a w v := by
  have : w ≠ 8 := by omega
  simp [State.busWrite, this]

theorem busAligned_of_mod {a w : Nat} (hw : w = 1 ∨ w = 2 ∨ w = 4) (ha : a % w = 0) : busAligned a w = true := by
  rcases hw with rfl | rfl | rfl <;> simp [busAligned, ha]

/-! ### System SRAM and addresses outside the map -/

theorem mapRow_sram {a : Nat} (hlo : 0x10000000 ≤ a) (hhi : a < 0x10400000) : mapRow a = some 1 := by
  have : ¬a < 0x10000 := by omega
  simp [mapRow, this, hlo, hhi]

theorem mapOk_sram {m : Master} {a : Nat} (hm : masterNum m < 4) (hlo : 0x10000000 ≤ a) (hhi : a < 0x10400000) (write : Bool) :
    mapOk (busInit m) a write = true := by
  cases write <;> simp [mapOk, mapRow_sram hlo hhi, mapWriters, mapReaders, busInit] <;> omega

theorem exec_registerWrite_sram (s : State) {m : Master} {a w : Nat} (hm : masterNum m < 4) (hw : w = 1 ∨ w = 2 ∨ w = 4)
    (ha : a % w = 0) (hlo : 0x10000000 ≤ a) (hhi : a < 0x10400000) (v : Nat) :
    exec (.registerWrite m a w v) s = .next (s.wrBytes a (toLe w v)) := by
  change s.writeCmd m a w v = _
  rw [State.writeCmd_of_num hm, State.busWrite_of_narrow hw]
  simp [State.busWrite1, mapOk_sram hm hlo hhi, busAligned_of_mod hw ha, mapRow_sram hlo hhi]

theorem mapOk_of_unmapped {a : Nat} (h : mapRow a = none) (init : Nat) (write : Bool) : mapOk init a write = false := by
  simp [mapOk, h]

theorem exec_registerWrite_unmapped (s : State) {m : Master} {a w : Nat} (hm : masterNum m < 4) (hw : w = 1 ∨ w = 2 ∨ w = 4)
    (ha : mapRow a = none) (v : Nat) :
    exec (.registerWrite m a w v) s = .next ((s.busError a (masterNum m) true false).respond 0 true) := by
  change s.writeCmd m a w v = _
  rw [State.writeCmd_of_num hm, State.busWrite_of_narrow hw]
  simp [State.busWrite1, mapOk_of_unmapped ha, State.busFault, State.mapError, ha, busInit]

theorem State.faultLog_regs (s : State) (base cap code inst data : Nat) : (s.faultLog base cap code inst data).regs = s.regs := by
  unfold State.faultLog State.wr32
  simp only [State.wrBytes_regs]

/-- The log entry and its time-out are no registers: a bus error's fields read as written. -/
theorem State.get_busError (s : State) (a init : Nat) (write denied : Bool) (f : Fld) (n : Nat) :
    (s.busError a init write denied).get f n =
      ((((((s.set SYS.BUSERR_ADDR_VALUE a).set SYS.BUSERR_INFO_INIT init).set SYS.BUSERR_INFO_WR (b2n write)).set
        SYS.BUSERR_INFO_DENIED (b2n denied)).set SYS.STATUS_BUS_ERR 1).bump SYS.CNT_BUSERR_COUNT SYS.STATUS_SAT).get f n := by
  unfold State.busError
  dsimp only
  split
  · rfl
  · simp only [State.get, State.logHW, State.faultLog_regs]

/-! ### Registers that a word is stored to -/

/-- `a` is the address of a register of block `b`, with the fields `fs`, that every core and the bridge reach. -/
structure RegAt (a : Nat) (b : Blk) (fs : List (Fld × Nat)) : Prop where
  row : mapRow a = some 7
  bridge : mapBlockOk 3 a = true
  block : blockAt a = some b
  aligned : a % 4 = 0
  decode : b.decode a = a
  fields : b.at a = fs

namespace RegAt
variable {a : Nat} {b : Blk} {fs : List (Fld × Nat)} (h : RegAt a b fs) (s : State) {m : Master} (hm : masterNum m < 4)
include h hm

theorem mapOk (write : Bool) : mapOk (busInit m) a write = true := by
  have hwindow : mapBlockOk (masterNum m) a = true := by
    have hbridge := h.bridge
    by_cases h3 : masterNum m = 3
    · rw [h3]; exact hbridge
    · have : masterNum m ≠ colGRN := by simp only [colGRN]; omega
      simp [mapBlockOk, h3, this]
  cases write <;> simp [Sys2Proof.Machine.mapOk, h.row, mapWriters, mapReaders, busInit, hwindow] <;> omega

/-- A word written reaches the register's block. -/
theorem exec_registerWrite_word (hibuf : (MPT.IBUF_DATA.inst a).isSome = false) (v : Nat) :
    exec (.registerWrite m a 4 v) s = .next (s.wordWrite b m a (v % 4294967296)) := by
  have hal : busAligned a 4 = true := busAligned_of_mod (by decide) h.aligned
  change s.writeCmd m a 4 v = _
  rw [State.writeCmd_of_num hm, State.busWrite_of_narrow (by decide)]
  simp [State.busWrite1, h.mapOk hm, hal, h.row, h.block, State.regWrite, h.aligned, h.decode, hibuf]

/-- A word written is stored where the register's block has no rule of its own for it. -/
theorem exec_registerWrite (hibuf : (MPT.IBUF_DATA.inst a).isSome = false) (hport : ∀ v, s.portHook fs m a v = none)
    (hnode : ∀ v, s.nodeHook fs m a v = none) (v : Nat) :
    exec (.registerWrite m a 4 v) s = .next (s.plainWrite fs (v % 4294967296) 0xFFFFFFFF) := by
  rw [h.exec_registerWrite_word s hm hibuf]
  simp [State.wordWrite, h.fields, hport, hnode]

/-- A word read is answered, and clears the register's read-clear bits. -/
theorem readCmd {v : Nat} {t : State} (hv : ((s.portView m a) <|> (s.nodeView m a)).getD (s.wordOf fs) = v)
    (hfx : ((s.portReadFx m a).nodeReadFx m a).getD (s.portReadFx m a) = t) (hcens : WNW.CENS_E_PARTIAL.inst a = none) :
    s.readCmd m a 4 = .next ((t.rcClear fs 0xFFFFFFFF).respond (v % 4294967296) false) := by
  have hal : busAligned a 4 = true := busAligned_of_mod (by decide) h.aligned
  subst hv hfx
  rw [State.readCmd_of_num hm]
  simp [State.busRead, State.busRead1, h.mapOk hm, hal, h.row, h.block, State.regRead, h.aligned, h.decode, h.fields, laneValue,
    laneMask, State.censCopy, hcens]

end RegAt

/-- A whole word stored replaces a field that fills it. -/
theorem fieldMerge_full {f : Fld} (hhi : f.hi = 31) (hlo : f.lo = 0) (old v : Nat) :
    fieldMerge f old (v % 4294967296) 0xFFFFFFFF = v % 4294967296 := by
  have hmask : Nat.land (v % 4294967296) 4294967295 = v % 4294967296 := by
    show (v % 4294967296) &&& (2 ^ 32 - 1) = _
    rw [Nat.and_two_pow_sub_one_eq_mod]; omega
  simp only [fieldMerge, bits, Fld.width, hhi, hlo]
  norm_num
  exact hmask

theorem State.set_mod (s : State) (f : Fld) (v n : Nat) : s.set f (v % 2 ^ f.width) n = s.set f v n := by
  simp [State.set]

/-- The timers' block (R20, R439). -/
def tmrBlock : Blk := ⟨0x40040000, 0x01C, some 0x7FC, TMR.fields⟩

theorem blockAt_tmr {a : Nat} (h : a / 65536 = 0x4004) : blockAt a = some tmrBlock := by
  simp [blockAt, blocks, List.find?, h, tmrBlock]

/-- The fields of a timer's STATUS word, as its table lists them. -/
def tmrStatus (n : Nat) : List (Fld × Nat) :=
  [(TMR.STATUS_CMD_ERR, n), (TMR.STATUS_SAT, n), (TMR.STATUS_OVR, n), (TMR.STATUS_CAPT, n), (TMR.STATUS_DONE, n)]

theorem regAt_tmrLoad {n : Nat} (hn : n < 16) : RegAt (TMR.LOAD_LOAD.at n) tmrBlock [(TMR.LOAD_LOAD, n)] := by
  have hblock : TMR.LOAD_LOAD.at n / 65536 = 0x4004 := by simp only [Fld.at, TMR.LOAD_LOAD]; omega
  interval_cases n <;> exact ⟨rfl, rfl, blockAt_tmr hblock, rfl, rfl, rfl⟩

theorem regAt_tmrCount {n : Nat} (hn : n < 16) : RegAt (TMR.COUNT_COUNT.at n) tmrBlock [(TMR.COUNT_COUNT, n)] := by
  have hblock : TMR.COUNT_COUNT.at n / 65536 = 0x4004 := by simp only [Fld.at, TMR.COUNT_COUNT]; omega
  interval_cases n <;> exact ⟨rfl, rfl, blockAt_tmr hblock, rfl, rfl, rfl⟩

theorem regAt_tmrStatus {n : Nat} (hn : n < 16) : RegAt (TMR.STATUS_DONE.at n) tmrBlock (tmrStatus n) := by
  have hblock : TMR.STATUS_DONE.at n / 65536 = 0x4004 := by simp only [Fld.at, TMR.STATUS_DONE]; omega
  interval_cases n <;> exact ⟨rfl, rfl, blockAt_tmr hblock, rfl, rfl, rfl⟩

/-- The timebase's block (R20, R439). -/
def atbBlock : Blk := ⟨0x40030000, 0x07C, none, ATB.fields⟩

theorem regAt_atbPos : RegAt (ATB.POS_LO_ANGLE.at 0) atbBlock [(ATB.POS_LO_ANGLE, 0)] :=
  ⟨rfl, rfl, by simp [blockAt, blocks, List.find?, atbBlock, Fld.at, ATB.POS_LO_ANGLE], rfl, rfl, rfl⟩

/-! ### The statement -/

/-- A read-clear bit read with its whole word is cleared, whatever it held. -/
theorem fieldMerge_clear {f : Fld} (h : bits 0xFFFFFFFF f.hi f.lo = 2 ^ f.width - 1) (old : Nat) :
    fieldMerge f old 0 0xFFFFFFFF = 0 := by
  have hv : bits 0 f.hi f.lo = 0 := by simp [bits]
  simp only [fieldMerge, h, hv, Nat.sub_self]
  show (old &&& 0) ||| (0 &&& _) = 0
  simp

theorem State.rcClear_cons (s : State) {f : Fld} (hrc : f.acc = .rc) (haon : f.aon = false)
    (hbits : bits 0xFFFFFFFF f.hi f.lo = 2 ^ f.width - 1) (n : Nat) (r : List (Fld × Nat)) :
    s.rcClear ((f, n) :: r) 0xFFFFFFFF = (s.set f 0 n).rcClear r 0xFFFFFFFF := by
  simp [State.rcClear, State.forL, hrc, haon, fieldMerge_clear hbits]

theorem exec_registerWrite_tmrLoad (s : State) {m : Master} (hm : masterNum m < 4) {n : Nat} (hn : n < 16) (v : Nat) :
    exec (.registerWrite m (TMR.LOAD_LOAD.at n) 4 v) s = .next (s.set TMR.LOAD_LOAD v n) := by
  rw [(regAt_tmrLoad hn).exec_registerWrite s hm (by interval_cases n <;> rfl) (by interval_cases n <;> exact fun _ => rfl)
    (by interval_cases n <;> exact fun _ => rfl)]
  have hplain : s.plainWrite [(TMR.LOAD_LOAD, n)] (v % 4294967296) 0xFFFFFFFF =
      s.set TMR.LOAD_LOAD (fieldMerge TMR.LOAD_LOAD (s.get TMR.LOAD_LOAD n) (v % 4294967296) 0xFFFFFFFF) n := rfl
  rw [hplain, fieldMerge_full rfl rfl]
  exact congrArg _ (s.set_mod TMR.LOAD_LOAD v n)

theorem exec_registerWrite_tmrCount (s : State) {m : Master} (hm : masterNum m < 4) {n : Nat} (hn : n < 16) (v : Nat) :
    exec (.registerWrite m (TMR.COUNT_COUNT.at n) 4 v) s = .next s :=
  (regAt_tmrCount hn).exec_registerWrite s hm (by interval_cases n <;> rfl) (by interval_cases n <;> exact fun _ => rfl)
    (by interval_cases n <;> exact fun _ => rfl) v

theorem State.rcClear_tmrStatus (s : State) (n : Nat) : s.rcClear (tmrStatus n) 0xFFFFFFFF =
    ((((s.set TMR.STATUS_CMD_ERR 0 n).set TMR.STATUS_SAT 0 n).set TMR.STATUS_OVR 0 n).set TMR.STATUS_CAPT 0 n).set
      TMR.STATUS_DONE 0 n := by
  simp only [tmrStatus]
  iterate 5 rw [State.rcClear_cons _ rfl rfl rfl]
  rfl

theorem State.wordOf_tmrStatus (s : State) (n : Nat) : s.wordOf (tmrStatus n) =
    s.get TMR.STATUS_DONE n + 2 * s.get TMR.STATUS_CAPT n + 4 * s.get TMR.STATUS_OVR n + 8 * s.get TMR.STATUS_SAT n +
      16 * s.get TMR.STATUS_CMD_ERR n := by
  have : s.wordOf (tmrStatus n) = 0 + s.get TMR.STATUS_CMD_ERR n * 16 + s.get TMR.STATUS_SAT n * 8 +
      s.get TMR.STATUS_OVR n * 4 + s.get TMR.STATUS_CAPT n * 2 + s.get TMR.STATUS_DONE n * 1 := rfl
  omega

/-- Settles O7: one lemma for each kind of register and access. -/
theorem registerAccess : Obligations.RegisterAccess := by
  unfold Obligations.RegisterAccess
  refine ⟨fun s m a w v hm hw ha hlo hhi => exec_registerWrite_sram s hm hw ha hlo hhi v,
    fun s m n v hm hn => exec_registerWrite_tmrLoad s hm hn v, fun s m n v hm hn => exec_registerWrite_tmrCount s hm hn v,
    ?_, ?_, ?_⟩
  · intro s m a w v hm hw hmap ha
    refine ⟨_, exec_registerWrite_unmapped s hm hw hmap v, ?_⟩
    have haddr : a < 2 ^ SYS.BUSERR_ADDR_VALUE.width := ha
    have hinit : masterNum m < 2 ^ SYS.BUSERR_INFO_INIT.width := Nat.lt_trans hm (by decide)
    simp (disch := first | decide | assumption) only [State.respond, State.get_mk, State.get_busError, State.get_bump_apart,
      State.get_set_apart, State.get_set_fits, b2n, if_true, Bool.false_eq_true, if_false, and_self]
  · intro s m n hm hn
    change s.readCmd m (TMR.STATUS_DONE.at n) 4 = _
    rw [(regAt_tmrStatus hn).readCmd s hm (v := s.wordOf (tmrStatus n)) (t := s) (by interval_cases n <;> rfl)
      (by interval_cases n <;> rfl) (by interval_cases n <;> rfl), State.rcClear_tmrStatus, State.wordOf_tmrStatus]
  · intro s m hm
    exact regAt_atbPos.readCmd s hm rfl rfl rfl

end Sys2Proof.Machine
end

section
/-! PROOFS. R28, R432, R445, R503: the interrupt configuration, the doorbells and the uptime compare. -/

namespace Sys2Proof.Machine

open Sys2Proof

/-- SYS's block (R20, R439). -/
def sysBlock : Blk := ⟨0x40000000, 0x0FC, none, SYS.fields⟩

theorem exec_irqCfgWrite (s : State) {m : Master} (hm : masterNum m < 4) (v : Nat) :
    exec (.irqCfgWrite m v) s = .next (s.irqCfgWrite (v % 4294967296)) := by
  have hblock : blockAt (SYS.IRQ_CFG_A_EN.at 0) = some sysBlock := by
    simp [blockAt, blocks, sysBlock, Fld.at, SYS.IRQ_CFG_A_EN]
  have hreg : RegAt (SYS.IRQ_CFG_A_EN.at 0) sysBlock (sysBlock.at (SYS.IRQ_CFG_A_EN.at 0)) := ⟨rfl, rfl, hblock, rfl, rfl, rfl⟩
  exact hreg.exec_registerWrite_word s hm rfl v

theorem State.irqTake_irqCfgWrite (s : State) (v : Nat) : (s.irqCfgWrite v).irqTake.irqCfgOf (s.get SYS.IRQ_SEL_SRC) = v % 256 := by
  simp [State.irqCfgWrite, State.irqTake, State.irqCfgOf]

/-- Settles O9: the word written waits in `irqNew`, and the doorbells are single register writes. -/
theorem interruptConfigAndDoorbells : Obligations.InterruptConfigAndDoorbells := by
  unfold Obligations.InterruptConfigAndDoorbells
  refine ⟨fun s m v hm hnew => ⟨_, exec_irqCfgWrite s hm v, ?_⟩, fun s m v hv => ?_, fun s m v hv => ?_, fun s m => rfl,
    fun s m => rfl, fun s => rfl⟩
  · have hv : v % 4294967296 % 256 = v % 256 := by omega
    refine ⟨?_, rfl, rfl, ?_, ?_⟩
    · simp [State.irqCfgWrite, hnew]
    · simp [State.irqCfgWrite, hv]
    · rw [State.irqTake_irqCfgWrite, hv]
  · change Host.Outcome.next (s.swiSet v) = _
    simp [State.swiSet, State.when, hv]
  · change Host.Outcome.next (s.swiSet v) = _
    simp [State.swiSet, State.when, State.wakeP, hv]

end Sys2Proof.Machine
end

section
/-! PROOFS. R27, R456 to R459: the timers' states under a debug halt, a group command and an expiry. -/

namespace Sys2Proof.Machine

open Sys2Proof

/-! ### Timers changed in their states alone -/

/-- `t` is `s` but for the timers' states and prescalers, and timer `n` is in state `v`. -/
structure TimersAs (s t : State) (n v : Nat) : Prop where
  mem : t.mem = s.mem
  objs : t.objs = s.objs
  que : t.que = s.que
  bus : t.bus = s.bus
  field : ∀ f : Fld, f.apart TMR.STATE_STATE = true → ∀ k, t.get f k = s.get f k
  state : t.get TMR.STATE_STATE n = v

theorem TimersAs.refl (s : State) (n : Nat) : TimersAs s s n (s.get TMR.STATE_STATE n) := ⟨rfl, rfl, rfl, rfl, fun _ _ _ => rfl, rfl⟩

section
variable {s t : State} {n v : Nat} (h : TimersAs s t n v)
include h

theorem TimersAs.set (x : Nat) : TimersAs s (t.set TMR.STATE_STATE x n) n (x % 4) where
  mem := h.mem
  objs := h.objs
  que := h.que
  bus := h.bus
  field f hf k := (State.get_set_apart t hf x).trans (h.field f hf k)
  state := t.get_set_same _ _ _

theorem TimersAs.set_other {j : Nat} (hj : j ≠ n) (x : Nat) : TimersAs s (t.set TMR.STATE_STATE x j) n v where
  mem := h.mem
  objs := h.objs
  que := h.que
  bus := h.bus
  field f hf k := (State.get_set_apart t hf x).trans (h.field f hf k)
  state := (State.get_set_instance t (by decide) hj.symm x).trans h.state

theorem TimersAs.tmrHalted (k : Nat) : t.tmrHalted k = s.tmrHalted k := by
  simp only [State.tmrHalted, State.on, h.field _ (by decide : TMR.CTRL_DBGRUN.apart TMR.STATE_STATE = true),
    h.field _ (by decide : TMR.CTRL_OWNER.apart TMR.STATE_STATE = true), h.bus]

/-- Another timer's hold leaves timer `n`. -/
theorem TimersAs.tmrHold_other {j : Nat} (hj : j ≠ n) : TimersAs s (t.tmrHold j) n v := by
  unfold State.tmrHold
  dsimp only
  split
  · exact h.set_other hj _
  · split
    · exact h.set_other hj _
    · exact h

end

/-- The state that a timer takes where its halt is looked at afresh (R456). -/
def tmrHeld (v : Nat) (halted : Bool) : Nat := if v = 2 ∧ halted then 3 else if v = 3 ∧ !halted then 2 else v

theorem TimersAs.tmrHold_same {s t : State} {n v : Nat} (h : TimersAs s t n v) :
    TimersAs s (t.tmrHold n) n (tmrHeld v (s.tmrHalted n)) := by
  unfold State.tmrHold tmrHeld
  simp only [h.state, h.tmrHalted, tmRUNNING, tmFROZEN]
  by_cases h2 : v = 2 ∧ s.tmrHalted n = true
  · simpa [h2] using h.set 3
  · by_cases h3 : v = 3 ∧ s.tmrHalted n = false
    · simpa [h3] using h.set 2
    · simpa [h2, h3] using h

/-- Every timer's halt looked at afresh. -/
theorem TimersAs.holdAll (s : State) {n : Nat} (hn : n < 16) :
    TimersAs s (s.forN 16 fun k t => t.tmrHold k) n (tmrHeld (s.get TMR.STATE_STATE n) (s.tmrHalted n)) :=
  State.forN_once (fun t => TimersAs s t n (s.get TMR.STATE_STATE n))
    (fun t => TimersAs s t n (tmrHeld (s.get TMR.STATE_STATE n) (s.tmrHalted n))) (fun k t => t.tmrHold k) hn s (.refl s n)
    (fun _ _ hj _ ht => ht.tmrHold_other hj) (fun _ ht => ht.tmrHold_same) fun _ _ hj _ ht => ht.tmrHold_other hj

/-! ### Debug halts (R27) -/

/-- A watchdog's count taken into hold is Core P's own record. -/
theorem State.wdtHold_eq (s : State) (n : Nat) : ∃ x : CoreP, s.wdtHold n = { s with coreP := x } := by
  unfold State.wdtHold
  dsimp only
  repeat' split
  all_goals exact ⟨_, rfl⟩

theorem TimersAs.wdtHold {s t : State} {n v : Nat} (h : TimersAs s t n v) (k : Nat) : TimersAs s (t.wdtHold k) n v := by
  obtain ⟨x, hx⟩ := t.wdtHold_eq k
  rw [hx]
  exact ⟨h.mem, h.objs, h.que, h.bus, h.field, h.state⟩

/-- A core marked halted or released. -/
def State.haltMark (s : State) (core : Nat) (halt : Bool) : State :=
  if core == 0 then { s with bus.haltedA := halt } else if core == 1 then { s with bus.haltedB := halt } else s

theorem State.debug_eq (s : State) (core : Nat) (halt : Bool) : s.debug core halt =
    ((s.haltMark core halt).forN 16 fun n t => t.tmrHold n).forN 2 fun n t => t.wdtHold n := rfl

theorem TimersAs.debug (s : State) (core : Nat) (halt : Bool) {n : Nat} (hn : n < 16) :
    TimersAs (s.haltMark core halt) (s.debug core halt) n
      (tmrHeld ((s.haltMark core halt).get TMR.STATE_STATE n) ((s.haltMark core halt).tmrHalted n)) := by
  rw [State.debug_eq]
  have hheld := TimersAs.holdAll (s.haltMark core halt) hn
  generalize tmrHeld _ _ = v at hheld ⊢
  generalize State.forN (s.haltMark core halt) _ _ = u at hheld ⊢
  exact State.forN_keep (fun t => TimersAs (s.haltMark core halt) t n v) (fun n t => t.wdtHold n) 2 u hheld
    fun k _ _ ht => ht.wdtHold k

theorem State.haltMark_get (s : State) (core : Nat) (halt : Bool) (f : Fld) (n : Nat) : (s.haltMark core halt).get f n = s.get f n := by
  unfold State.haltMark
  split
  · rfl
  · split <;> rfl

/-- Whether the halted or released core freezes timer `n` (R456). -/
theorem State.haltMark_tmrHalted (s : State) {core : Nat} (hcore : core < 2) (halt : Bool) (n : Nat) :
    (s.haltMark core halt).tmrHalted n = if s.get TMR.CTRL_OWNER n = core then !s.on TMR.CTRL_DBGRUN n && halt else s.tmrHalted n := by
  by_cases hown : s.get TMR.CTRL_OWNER n = core
  · interval_cases core <;> simp [State.tmrHalted, State.haltMark, State.on, hown]
  · have hbeq : (s.get TMR.CTRL_OWNER n == core) = false := by simpa using hown
    interval_cases core <;> simp [State.tmrHalted, State.haltMark, State.on, hown, hbeq]

theorem tmrHeld_running {b : Bool} : tmrHeld 2 b = if b then 3 else 2 := by cases b <;> rfl
theorem tmrHeld_frozen {b : Bool} : tmrHeld 3 b = if b then 3 else 2 := by cases b <;> rfl
theorem tmrHeld_stopped {v : Nat} (h : v < 2) (b : Bool) : tmrHeld v b = v := by
  have : v ≠ 2 ∧ v ≠ 3 := by omega
  simp [tmrHeld, this]

theorem State.debug_state (s : State) {core : Nat} (hcore : core < 2) (halt : Bool) {n : Nat} (hn : n < 16) :
    (s.debug core halt).get TMR.STATE_STATE n = tmrHeld (s.get TMR.STATE_STATE n)
      (if s.get TMR.CTRL_OWNER n = core then !s.on TMR.CTRL_DBGRUN n && halt else s.tmrHalted n) := by
  rw [(TimersAs.debug s core halt hn).state, State.haltMark_get, s.haltMark_tmrHalted hcore]

theorem State.debug_count (s : State) (core : Nat) (halt : Bool) {n : Nat} (hn : n < 16) :
    (s.debug core halt).get TMR.COUNT_COUNT n = s.get TMR.COUNT_COUNT n := by
  rw [(TimersAs.debug s core halt hn).field TMR.COUNT_COUNT (by decide), State.haltMark_get]

theorem State.haltMark_mem (s : State) (core : Nat) (halt : Bool) : (s.haltMark core halt).mem = s.mem := by
  unfold State.haltMark; split <;> [rfl; split <;> rfl]
theorem State.haltMark_objs (s : State) (core : Nat) (halt : Bool) : (s.haltMark core halt).objs = s.objs := by
  unfold State.haltMark; split <;> [rfl; split <;> rfl]
theorem State.haltMark_que (s : State) (core : Nat) (halt : Bool) : (s.haltMark core halt).que = s.que := by
  unfold State.haltMark; split <;> [rfl; split <;> rfl]

/-- Settles O10: each timer's state follows from the one look at its halt. -/
theorem debugHaltFreezesTimers : Obligations.DebugHaltFreezesTimers := by
  unfold Obligations.DebugHaltFreezesTimers
  constructor
  · intro s core hcore
    have hany := TimersAs.debug (s.sourceEvent 122) core true (by decide : 0 < 16)
    refine ⟨_, rfl, hany.mem.trans (State.haltMark_mem ..), hany.objs.trans (State.haltMark_objs ..),
      hany.que.trans (State.haltMark_que ..), ?_, ?_, fun n hn hst hdbg hown => ?_, fun n hn hst hor hhalt => ?_,
      fun n hn hst hhalt => ?_, fun n hn hst => ?_, fun n hn => State.debug_count _ core true hn⟩
    · rw [hany.bus]; interval_cases core <;> rfl
    · rw [hany.bus]; interval_cases core <;> rfl
    · have hrun : (s.sourceEvent 122).get TMR.STATE_STATE n = 2 := hst
      have hclear : (s.sourceEvent 122).on TMR.CTRL_DBGRUN n = false := by
        show (s.get TMR.CTRL_DBGRUN n != 0) = false
        simp [hdbg]
      have hmine : (s.sourceEvent 122).get TMR.CTRL_OWNER n = core := hown
      rw [State.debug_state _ hcore true hn, hrun, tmrHeld_running, hmine, hclear]
      simp
    · have hrun : (s.sourceEvent 122).get TMR.STATE_STATE n = 2 := hst
      have hfree : (s.sourceEvent 122).tmrHalted n = false := hhalt
      rw [State.debug_state _ hcore true hn, hrun, tmrHeld_running, hfree]
      rcases hor with hdbg | hown
      · have hset : (s.sourceEvent 122).on TMR.CTRL_DBGRUN n = true := by
          show (s.get TMR.CTRL_DBGRUN n != 0) = true
          simpa using hdbg
        simp [hset]
      · have hother : (s.sourceEvent 122).get TMR.CTRL_OWNER n ≠ core := hown
        simp [hother]
    · have hfrozen : (s.sourceEvent 122).get TMR.STATE_STATE n = 3 := hst
      have hheld : (s.sourceEvent 122).tmrHalted n = true := hhalt
      rw [State.debug_state _ hcore true hn, hfrozen, tmrHeld_frozen, hheld]
      have hclear : (s.sourceEvent 122).on TMR.CTRL_DBGRUN n = false := by
        simp only [State.tmrHalted, Bool.and_eq_true, Bool.not_eq_true'] at hheld
        exact hheld.1
      simp [hclear]
    · rw [State.debug_state _ hcore true hn]
      exact tmrHeld_stopped hst _
  · intro s core hcore
    have hany := TimersAs.debug s core false (by decide : 0 < 16)
    refine ⟨_, rfl, hany.mem.trans (State.haltMark_mem ..), hany.objs.trans (State.haltMark_objs ..),
      hany.que.trans (State.haltMark_que ..), ?_, ?_, fun n hn hst hown => ?_, fun n hn hst hown hhalt => ?_,
      fun n hn hst hhalt => ?_, fun n hn hst => ?_, fun n hn => State.debug_count _ core false hn⟩
    · rw [hany.bus]; interval_cases core <;> rfl
    · rw [hany.bus]; interval_cases core <;> rfl
    · simp [State.debug_state s hcore false hn, hst, tmrHeld_frozen, hown]
    · simp [State.debug_state s hcore false hn, hst, tmrHeld_frozen, hown, hhalt]
    · simp [State.debug_state s hcore false hn, hst, tmrHeld_running, hhalt]
    · rw [State.debug_state s hcore false hn]
      exact tmrHeld_stopped hst _

end Sys2Proof.Machine
end

section
/-! PROOFS. R446: a capture of a COUNT that its field cannot hold. -/

namespace Sys2Proof.Machine

open Sys2Proof

/-- Timer 0 runs and captures on rising edges of source 1; its COUNT lists 2^32, which the invariant of the data does not exclude. -/
def tmrWide : State := { State.reset with
  regs := [(TMR.CTRL_CAP_SRC.key 0, 1), (TMR.COUNT_COUNT.key 0, 4294967296), (TMR.STATE_STATE.key 0, 2)] }

/-- Refutes O12: CAPT takes COUNT cut to its 32 bits, and the capture clause, stated for every state, says that it takes the whole
of it: a COUNT of 2^32 is captured as 0. -/
theorem not_timersCountAndCapture : ¬ Obligations.TimersCountAndCapture := by
  unfold Obligations.TimersCountAndCapture
  rintro ⟨-, -, -, -, -, -, -, -, -, hcapture, -⟩
  obtain ⟨t, hexec, hcount, -⟩ := hcapture tmrWide 0 1 true (by decide) (by decide) (by decide) (by decide) (by decide) (by decide)
    (by decide)
  cases hexec
  exact absurd hcount (by decide)

end Sys2Proof.Machine
end

section
/-! PROOFS. R534, R535, R537: the watchdogs' count. -/

namespace Sys2Proof.Machine

open Sys2Proof

section
variable (s : State) (n : Nat)

theorem State.wdtLoad_regs : (s.wdtLoad n).regs = s.regs := by unfold State.wdtLoad; split <;> rfl
theorem State.wdtLoad_mem : (s.wdtLoad n).mem = s.mem := by unfold State.wdtLoad; split <;> rfl

theorem State.get_wdtLoad (f : Fld) (k : Nat) : (s.wdtLoad n).get f k = s.get f k := by
  simp only [State.get, State.wdtLoad_regs]

theorem State.wdtFull_eq : s.wdtFull n = 240000 * max 1 (s.get SYS.WDT_TIMEOUT_MS n) := by
  simp only [State.wdtFull, usTicks]; omega

/-- A count loaded runs from now. -/
theorem State.wdtLoad_due (h : s.wdtHalted n = false) :
    Tab.get 0 (s.wdtLoad n).coreP.wdtDue n = s.now + 240000 * max 1 (s.get SYS.WDT_TIMEOUT_MS n) := by
  simp [State.wdtLoad, h, State.wdtFull_eq]

/-- A count loaded while its core is halted is held. -/
theorem State.wdtLoad_held (h : s.wdtHalted n = true) :
    Tab.get 0 (s.wdtLoad n).coreP.wdtHeld n = 240000 * max 1 (s.get SYS.WDT_TIMEOUT_MS n) ∧
      Tab.get 0 (s.wdtLoad n).coreP.wdtDue n = 0 := by
  simp [State.wdtLoad, h, State.wdtFull_eq, Tab.get_erase_same]

/-- EN and AFTER are not what a load depends on. -/
theorem State.wdtHalted_set {f : Fld} (h : SYS.WDT_CTRL_DBGRUN.apart f = true) (v k : Nat) :
    (s.set f v k).wdtHalted n = s.wdtHalted n := by
  simp only [State.wdtHalted, State.on, State.get_set_apart s h, State.set_bus]

theorem State.wdtLoad_set {f : Fld} (h : SYS.WDT_CTRL_DBGRUN.apart f = true) (hms : SYS.WDT_TIMEOUT_MS.apart f = true) (v k : Nat) :
    (s.wdtHalted n = false →
      Tab.get 0 ((s.set f v k).wdtLoad n).coreP.wdtDue n = s.now + 240000 * max 1 (s.get SYS.WDT_TIMEOUT_MS n)) ∧
    (s.wdtHalted n = true →
      Tab.get 0 ((s.set f v k).wdtLoad n).coreP.wdtHeld n = 240000 * max 1 (s.get SYS.WDT_TIMEOUT_MS n) ∧
      Tab.get 0 ((s.set f v k).wdtLoad n).coreP.wdtDue n = 0) := by
  rw [← s.wdtHalted_set n h v k, ← State.get_set_apart s hms v (n := k)]
  exact ⟨State.wdtLoad_due _ _, State.wdtLoad_held _ _⟩
end

/-- Settles O11: a writer's enable and kick load the count, and the halt decides whether it runs. -/
theorem watchdogEnableKickWarn : Obligations.WatchdogEnableKickWarn := by
  unfold Obligations.WatchdogEnableKickWarn
  have hmod : ∀ {n : Nat}, n < 2 → n % 2 = n := Nat.mod_eq_of_lt
  refine ⟨fun s m n hn hw hen => ?_, fun s m n hn hen => ?_, fun s m n hn hw hen => ?_, fun s m n hn hw hen => ?_,
    fun s m n key hn hw hkey hbad => ?_, fun s m n key hn hw => ?_, fun s n hn hen hrun => ?_, fun s n hn hor => ?_⟩
  · have hexec : exec (.wdtEnable m n) s = .next ((s.set SYS.WDT_CTRL_EN 1 n).wdtLoad n) := by
      change execWdtEnable m n s = _
      simp [execWdtEnable, hmod hn, hw, State.on, hen]
    refine ⟨_, hexec, ?_, State.wdtLoad_mem _ _, State.wdtLoad_set s n (by decide) (by decide) 1 n⟩
    rw [State.get_wdtLoad]
    exact State.get_set_same _ _ _ _
  · change execWdtEnable m n s = _
    simp [execWdtEnable, hmod hn, State.on, hen]
  · have hexec : exec (.wdtKick m n 0xA55A) s = .next ((s.set SYS.WDT_STATE_AFTER 0 n).wdtLoad n) := by
      change execWdtKick m n 0xA55A s = _
      simp [execWdtKick, State.wdtKick, hmod hn, hw, State.on, hen]
    refine ⟨_, hexec, ?_, State.wdtLoad_mem _ _, State.wdtLoad_set s n (by decide) (by decide) 0 n⟩
    rw [State.get_wdtLoad]
    exact State.get_set_same _ _ _ _
  · change execWdtKick m n 0xA55A s = _
    simp [execWdtKick, State.wdtKick, hmod hn, hw, State.on, hen]
  · change execWdtKick m n key s = _
    simp [execWdtKick, State.wdtKick, hmod hn, hw, Nat.mod_eq_of_lt hkey, hbad]
  · constructor
    · change execWdtKick m n key s = _
      simp [execWdtKick, State.wdtKick, hmod hn, hw]
    · change execWdtEnable m n s = _
      simp [execWdtEnable, hmod hn, hw]
  · change execWdtWarn n s = _
    simp [execWdtWarn, hmod hn, State.on, hen, hrun]
  · change execWdtWarn n s = _
    rcases hor with hen | hheld
    · simp [execWdtWarn, hmod hn, State.on, hen]
    · simp [execWdtWarn, hmod hn, hheld]

end Sys2Proof.Machine
end

section
/-! PROOFS. R138, R159: a request that comes while the antenna switch settles. -/

namespace Sys2Proof.Machine

open Sys2Proof

/-- Chain 0 is to key up inside its window while RF_EN is 0 and its antenna switch has not settled. -/
def keySettling : State :=
  ((State.reset.set UTX.STATE_STATE 2).set RGE.STATE_WINDOW 1).setUtx 0 { want := some 3, antSettling := true }

/-- Refutes O13: its second clause has every failed check denied, and a request made while the antenna switch settles waits for it
(R159) before it is decided: `keySettling` is not denied, for RF_EN, and DENY stays 0. -/
theorem not_grantDecisions : ¬ Obligations.GrantDecisions := by
  unfold Obligations.GrantDecisions
  rintro ⟨-, hdenied, -, -⟩
  obtain ⟨t, hexec, -, -, -, hdeny, -⟩ := hdenied keySettling 0 (by decide) (by decide) (by decide) (by decide) (by decide)
    (by decide) (by decide) (by decide)
  cases hexec
  exact absurd hdeny (by decide)

end Sys2Proof.Machine
end

section
/-! PROOFS. What the radio's operations leave: those of the receive side reach no register below URX and no transmit chain's own
state, and those of the transmit chains no register below UTX. -/

namespace Sys2Proof.Machine

open Sys2Proof

/-! ### States that differ in late registers and the radio's own state -/

/-- The first keys of the register file that lie in UTX's and in URX's block (R20). -/
def txKey : Nat := 0x40060000 * 32
def rxKey : Nat := 0x40080000 * 32

/-- The key of the AON domain's wake inputs, which no command of the radio reaches. -/
def wakeKey : Nat := AON.WAKE_WAKE.key 0

/-- No register of the field is that one, whichever its index. -/
def Fld.offWake (f : Fld) : Bool :=
  f.lo != 0 || (if f.stride = 0 then f.addr != 0x40190018 else decide (0x40190018 % f.stride ≠ f.addr % f.stride))

theorem Fld.key_ne_wake {f : Fld} (hlo : f.lo < 32) (h : f.offWake = true) (n : Nat) : f.key n ≠ wakeKey := by
  have hwake : wakeKey = 0x40190018 * 32 := by decide
  intro heq
  rw [hwake] at heq
  have hparts : f.lo = 0 ∧ f.addr + n * f.stride = 0x40190018 := by
    simp only [Fld.key, Fld.at] at heq
    omega
  obtain ⟨hl, ha⟩ := hparts
  simp only [Fld.offWake, hl, bne_self_eq_false, Bool.false_or] at h
  split at h
  next h0 => simp [← ha, h0] at h
  next => simp [← ha, Nat.add_mul_mod_self_right] at h

/-- Every register of the field lies from key `b` on and is not that one. -/
def Fld.after (f : Fld) (b : Nat) : Bool := decide (b ≤ f.key 0) && decide (f.lo < 32) && f.offWake

theorem Fld.key_ne_of_after {f : Fld} {b : Nat} (h : f.after b = true) (n : Nat) {k : Nat} (hk : k < b ∨ k = wakeKey) : k ≠ f.key n := by
  simp only [Fld.after, Bool.and_eq_true, decide_eq_true_eq] at h
  obtain ⟨⟨hb, hlo⟩, hoff⟩ := h
  rcases hk with hk | rfl
  · have := f.key_mono (Nat.zero_le n)
    omega
  · exact (Fld.key_ne_wake hlo hoff n).symm

/-- `t` is `s` but for registers from key `b` on, the radio's own state and the open values drawn. -/
structure Beyond (b : Nat) (s t : State) : Prop where
  form : ∃ regs radio free, t = { s with regs := regs, radio := radio, freeCount := free }
  reg : ∀ d k, k < b ∨ k = wakeKey → Tab.get d t.regs k = Tab.get d s.regs k

/-- `t` is `s` but for registers from URX on, the receive chains, frame engines and sequencers, and the open values drawn. -/
structure RxSide (s t : State) : Prop where
  form : ∃ regs urx eng seqs ops free, t = { s with
    regs := regs, radio := { s.radio with urx := urx, eng := eng, seqs := seqs, seqOps := ops }, freeCount := free }
  reg : ∀ d k, k < rxKey ∨ k = wakeKey → Tab.get d t.regs k = Tab.get d s.regs k

namespace Beyond
variable {b : Nat} {s t u : State}

theorem refl (b : Nat) (s : State) : Beyond b s s := ⟨⟨_, _, _, rfl⟩, fun _ _ _ => rfl⟩

theorem ite {c : Prop} [Decidable c] (h : Beyond b s t) (h' : Beyond b s u) : Beyond b s (if c then t else u) := by
  split <;> assumption

theorem trans (h : Beyond b s t) (h' : Beyond b t u) : Beyond b s u := by
  obtain ⟨⟨r, x, c, rfl⟩, hr⟩ := h
  obtain ⟨⟨r', x', c', rfl⟩, hr'⟩ := h'
  exact ⟨⟨_, _, _, rfl⟩, fun d k hk => (hr' d k hk).trans (hr d k hk)⟩

section
variable (h : Beyond b s t)
include h

theorem mem : t.mem = s.mem := by obtain ⟨⟨r, x, c, rfl⟩, -⟩ := h; rfl
theorem objs : t.objs = s.objs := by obtain ⟨⟨r, x, c, rfl⟩, -⟩ := h; rfl
theorem rge : t.rge = s.rge := by obtain ⟨⟨r, x, c, rfl⟩, -⟩ := h; rfl
theorem now : t.now = s.now := by obtain ⟨⟨r, x, c, rfl⟩, -⟩ := h; rfl
theorem atb : t.atb = s.atb := by obtain ⟨⟨r, x, c, rfl⟩, -⟩ := h; rfl

theorem get {f : Fld} {n : Nat} (hf : f.key n < b) : t.get f n = s.get f n := h.reg _ _ (.inl hf)

theorem set {f : Fld} (hf : f.after b = true) (v n : Nat) : Beyond b s (t.set f v n) :=
  h.trans ⟨⟨_, _, _, rfl⟩, fun _ _ hk => Tab.get_set_ne _ _ _ _ (Fld.key_ne_of_after hf n hk)⟩

theorem setBit {f : Fld} (hf : f.after b = true) (k : Nat) (x : Bool) (n : Nat) : Beyond b s (t.setBit f k x n) := h.set hf _ n

theorem bump {c f : Fld} (hc : c.after b = true) (hf : f.after b = true) (n k : Nat) : Beyond b s (t.bump c f n k) := by
  unfold State.bump
  split
  · exact h.set hc _ n
  · exact (h.set hc _ n).set hf _ n

theorem withRadio (x : Radio) : Beyond b s { t with radio := x } := h.trans ⟨⟨_, _, _, rfl⟩, fun _ _ _ => rfl⟩

theorem forL {α : Type} {g : α → State → State} {l : List α} (hg : ∀ i u, Beyond b s u → Beyond b s (g i u)) :
    Beyond b s (t.forL l g) := State.forL_keep (Beyond b s) g l t h fun i _ u hu => hg i u hu

theorem forN {g : Nat → State → State} {k : Nat} (hg : ∀ i u, Beyond b s u → Beyond b s (g i u)) : Beyond b s (t.forN k g) :=
  h.forL hg
end
end Beyond

namespace RxSide
variable {s t u : State}

theorem refl (s : State) : RxSide s s := ⟨⟨_, _, _, _, _, _, rfl⟩, fun _ _ _ => rfl⟩

theorem ite {c : Prop} [Decidable c] (h : RxSide s t) (h' : RxSide s u) : RxSide s (if c then t else u) := by
  split <;> assumption

theorem trans (h : RxSide s t) (h' : RxSide t u) : RxSide s u := by
  obtain ⟨⟨r, x, y, z, o, c, rfl⟩, hr⟩ := h
  obtain ⟨⟨r', x', y', z', o', c', rfl⟩, hr'⟩ := h'
  exact ⟨⟨_, _, _, _, _, _, rfl⟩, fun d k hk => (hr' d k hk).trans (hr d k hk)⟩

theorem beyond (h : RxSide s t) {b : Nat} (hb : b ≤ rxKey) : Beyond b s t := by
  obtain ⟨⟨r, x, y, z, o, c, rfl⟩, hr⟩ := h
  exact ⟨⟨_, _, _, rfl⟩, fun d k hk => hr d k (hk.imp_left fun hk => Nat.lt_of_lt_of_le hk hb)⟩

section
variable (h : RxSide s t)
include h

theorem mem : t.mem = s.mem := (h.beyond (Nat.le_refl _)).mem
theorem rge : t.rge = s.rge := (h.beyond (Nat.le_refl _)).rge
theorem now : t.now = s.now := (h.beyond (Nat.le_refl _)).now
theorem utxAt (n : Nat) : t.utxAt n = s.utxAt n := by obtain ⟨⟨r, x, y, z, o, c, rfl⟩, -⟩ := h; rfl
theorem synthAt (n : Nat) : t.synthAt n = s.synthAt n := by obtain ⟨⟨r, x, y, z, o, c, rfl⟩, -⟩ := h; rfl

theorem get {f : Fld} {n : Nat} (hf : f.key n < rxKey) : t.get f n = s.get f n := h.reg _ _ (.inl hf)

theorem set {f : Fld} (hf : f.after rxKey = true) (v n : Nat) : RxSide s (t.set f v n) := by
  exact h.trans ⟨⟨_, _, _, _, _, _, rfl⟩, fun _ _ hk => Tab.get_set_ne _ _ _ _ (Fld.key_ne_of_after hf n hk)⟩

theorem setBit {f : Fld} (hf : f.after rxKey = true) (k : Nat) (x : Bool) (n : Nat) : RxSide s (t.setBit f k x n) := h.set hf _ n

theorem bump {c f : Fld} (hc : c.after rxKey = true) (hf : f.after rxKey = true) (n k : Nat) : RxSide s (t.bump c f n k) := by
  unfold State.bump
  split
  · exact h.set hc _ n
  · exact (h.set hc _ n).set hf _ n

theorem setUrx (n : Nat) (x : UrxChain) : RxSide s (t.setUrx n x) := h.trans ⟨⟨_, _, _, _, _, _, rfl⟩, fun _ _ _ => rfl⟩
theorem setEng (n : Nat) (x : FrameEng) : RxSide s (t.setEng n x) := h.trans ⟨⟨_, _, _, _, _, _, rfl⟩, fun _ _ _ => rfl⟩
theorem setSeq (n : Nat) (x : Seq) : RxSide s (t.setSeq n x) := h.trans ⟨⟨_, _, _, _, _, _, rfl⟩, fun _ _ _ => rfl⟩
theorem setOps (n : Nat) (x : SeqOps) : RxSide s (t.setOps n x) := h.trans ⟨⟨_, _, _, _, _, _, rfl⟩, fun _ _ _ => rfl⟩
theorem fresh : RxSide s t.fresh.2 := h.trans ⟨⟨_, _, _, _, _, _, rfl⟩, fun _ _ _ => rfl⟩

theorem forL {α : Type} {g : α → State → State} {l : List α} (hg : ∀ i u, RxSide s u → RxSide s (g i u)) : RxSide s (t.forL l g) :=
  State.forL_keep (RxSide s) g l t h fun i _ u hu => hg i u hu

theorem forN {g : Nat → State → State} {k : Nat} (hg : ∀ i u, RxSide s u → RxSide s (g i u)) : RxSide s (t.forN k g) := h.forL hg

/-- The receive chains of a sheaf, of which there are sixteen. -/
theorem forRx {g : Nat → State → State} {v : State} {sh : Nat} (hg : ∀ ch, ch < 16 → ∀ u, RxSide s u → RxSide s (g ch u)) :
    RxSide s (t.forL (v.rxOf sh) g) := by
  refine State.forL_keep (RxSide s) g _ t h fun ch hch u hu => hg ch ?_ u hu
  unfold State.rxOf at hch
  split at hch
  · exact ((mem_setBits _ _ _).1 hch).1
  · cases hch

/-- A register of a chain written whose place in the chain's block WAKE has in AON's. -/
theorem setChain {f : Fld} (hf : rxKey ≤ f.key 0) (hw : ∀ ch, ch < 16 → f.key ch ≠ wakeKey) (v : Nat) {ch : Nat} (hch : ch < 16) :
    RxSide s (t.set f v ch) := by
  refine h.trans ⟨⟨_, _, _, _, _, _, rfl⟩, fun _ k hk => Tab.get_set_ne _ _ _ _ ?_⟩
  rcases hk with hk | rfl
  · have := f.key_mono (Nat.zero_le ch)
    omega
  · exact (hw ch hch).symm

/-! ### Receive chains -/

theorem setRst (ch st : Nat) : RxSide s (t.setRst ch st) := .ite h ((h.set (by decide) _ _).set (by decide) _ _)

theorem rxIdle (ch : Nat) : RxSide s (t.rxIdle ch) := ((h.setUrx _ _).set (by decide) _ _).setRst _ _

theorem setVec {ch : Nat} (hch : ch < 16) (crs i q : Nat) : RxSide s (t.setVec ch crs i q) :=
  ((h.set (by decide) _ _).setChain (by decide) (by decide) _ hch).set (by decide) _ _

theorem jamReport (ch : Nat) : RxSide s (t.jamReport ch) := by
  unfold State.jamReport
  extract_lets i q r
  have hr : RxSide s r.2 := by
    by_cases hz : (vecSq i q == 0) = true
    · simpa only [r, hz, if_true] using h.fresh
    · simpa only [r, hz, Bool.false_eq_true, if_false] using h
  exact (hr.set (by decide) _ _).set (by decide) _ _

theorem seedVec {ch : Nat} (hch : ch < 16) (lo : Nat) : RxSide s (t.seedVec ch lo) := by
  unfold State.seedVec
  dsimp only
  split
  · exact h.setVec hch _ _ _
  · exact h.fresh.setVec hch _ _ _

theorem rxAcquire (sh : Nat) : RxSide s (t.rxAcquire sh) :=
  h.forRx fun _ hch _ hu => .ite hu (((((hu.setUrx _ _).seedVec hch _).jamReport _).set (by decide) _ _).setRst _ _)

theorem rxCache (sh : Nat) : RxSide s (t.rxCache sh) :=
  h.forL fun _ _ hu => .ite (hu.setUrx _ _) hu

theorem rxCarrierGone (sh : Nat) : RxSide s (t.rxCarrierGone sh) :=  .ite h (h.forL fun _ _ hu => .ite (hu.rxIdle _) hu)

theorem rxPolicy (ch : Nat) : RxSide s (t.rxPolicy ch) := by
  have h1 : RxSide s ((t.set URX.STATE_EXCL 1 ch).setUrx ch { t.urxAt ch with rejoined := false }) :=
    (h.set (by decide) _ _).setUrx _ _
  exact .ite h (.ite ((h1.setUrx _ _).rxIdle _) h1)

theorem rxGain (ch level : Nat) : RxSide s (t.rxGain ch level) := h.set (by decide) _ _

theorem rxEnter (ch : Nat) : RxSide s (t.rxEnter ch) := by
  unfold State.rxEnter
  extract_lets s1 x
  have h1 : RxSide s s1 := by
    simp only [s1]
    split
    · exact h.set (by decide) _ _
    · exact h
  exact (h1.setUrx _ _).set (by decide) _ _

theorem rxOpenCw (sh : Nat) : RxSide s (t.rxOpenCw sh) :=
  h.forL fun ch u hu => by
    have h1 : RxSide s ((if u.rst ch == rxACQUIRE || u.rst ch == rxTRACK then u.setRst ch rxCW else u).rxEnter ch) :=
      RxSide.rxEnter (.ite (hu.setRst _ _) hu) _
    have hlate := ((h1.set (f := URX.STATUS_ACQ_LATE) (by decide) 1 ch).set (f := URX.STATUS_HOLD_LOST) (by decide) 1 ch).rxPolicy ch
    refine .ite (RxSide.rxGain ?_ _ _) ?_ <;> exact .ite (hlate.setUrx _ _) h1

theorem rxOpenForeign (sh : Nat) : RxSide s (t.rxOpenForeign sh) :=
  h.forRx fun _ hch _ hu => .ite hu ((((((hu.setRst _ _).setVec hch _ _ _).rxEnter _).set (by decide) _ _).fresh).rxGain _ _)

theorem rxCloseForeign (sh : Nat) : RxSide s (t.rxCloseForeign sh) :=
  h.forL fun _ _ hu => .ite (hu.rxIdle _) hu

theorem windowShut (sh : Nat) : RxSide s (t.windowShut sh) := .ite h ((h.setEng _ _).forL fun _ _ hu => hu.setUrx _ _)

theorem engAbort (sh : Nat) : RxSide s (t.engAbort sh) := (h.setEng _ _).forL fun _ _ hu => hu.setUrx _ _

theorem utxWindow (n : Nat) (isOpen : Bool) : RxSide s (t.utxWindow n isOpen) := by
  unfold State.utxWindow
  split
  · exact .ite (.ite (h.rxOpenCw _) (h.rxOpenForeign _)) (.ite h (.ite (h.windowShut _) (h.rxCloseForeign _)))
  · exact h

/-! ### Sequencers -/

theorem seqEvent (n ev : Nat) : RxSide s (t.seqEvent n ev) := h.setBit (by decide) _ _ _

theorem rqsAnswer (n ch err : Nat) : RxSide s (t.rqsAnswer n ch err) := by
  unfold State.rqsAnswer
  split
  · exact h
  · exact .ite ((h.setOps _ _).seqEvent _ _) (.ite ((h.setOps _ _).seqEvent _ _) (h.setOps _ _))

end
end RxSide

end Sys2Proof.Machine
end

section
/-! PROOFS. What the transmit side's operations leave: no register below UTX, and no state but the radio's own. -/

namespace Sys2Proof.Machine

open Sys2Proof

namespace Beyond
variable {s t : State} (h : Beyond txKey s t)
include h

theorem setUtx (n : Nat) (u : UtxChain) : Beyond txKey s (t.setUtx n u) := h.withRadio _
theorem buckUpdate : Beyond txKey s t.buckUpdate := h.withRadio _
theorem rxSide {u : State} (h' : RxSide t u) : Beyond txKey s u := h.trans (h'.beyond (by decide))

theorem utxDeny (n : Nat) : Beyond txKey s (t.utxDeny n) :=
  ((h.set (f := UTX.STATE_LAST_ERR) (by decide) _ n).set (f := UTX.STATUS_RGE_DENY) (by decide) _ n).bump (by decide) (by decide) _ _

theorem endWait (n : Nat) : Beyond txKey s (t.endWait n) := h.set (f := UTX.STATE_WAIT) (by decide) _ n

theorem utxReport (n err : Nat) : Beyond txKey s (t.utxReport n err) := by
  have h1 := h.setUtx n { t.utxAt n with rqs := false }
  unfold State.utxReport
  dsimp only
  split
  · split
    · exact h1.rxSide ((RxSide.refl _).rqsAnswer _ _ _)
    · exact h1
  · exact h

theorem setUst (n st : Nat) : Beyond txKey s (t.setUst n st) :=
  .ite h ((h.set (f := UTX.STATE_STATE) (by decide) _ n).set (f := UTX.STATUS_STATE_CHG) (by decide) _ n).buckUpdate

theorem rampDownFrom (n : Nat) (u : UtxChain) : Beyond txKey s (t.rampDownFrom n u) := by
  have h1 := (h.setUtx n { u with steerHeld := none }).set (f := UTX.STATE_RAMP) (by decide) 1 n
  have h2 := Beyond.ite (c := (t.ust n == txMOD) = true) (h1.setUst n txCW) h1
  unfold State.rampDownFrom
  dsimp only
  split
  · exact .ite (h2.rxSide ((RxSide.refl _).rxCache _)) (h2.rxSide (((RxSide.refl _).rxCache _).engAbort _))
  · exact h2

theorem rampDown (n : Nat) (fast : Bool) (dest err : Nat) : Beyond txKey s (t.rampDown n fast dest err) := by
  unfold State.rampDown
  split
  · exact h
  · dsimp only
    split
    · exact .ite (h.rampDownFrom _ _) (h.setUtx _ _)
    · exact h.rampDownFrom _ _

end Beyond

end Sys2Proof.Machine
end

section
/-! PROOFS. R140 to R148: violations, the kill, and the enforcer's log. -/

namespace Sys2Proof.Machine

open Sys2Proof

/-! ### One bit of a field -/

/-- A power of two added where its bit is 0 leaves every other bit. -/
theorem bitOf_add_two_pow {w j k : Nat} (hw : bitOf w j = false) (h : k ≠ j) : bitOf (w + 2 ^ j) k = bitOf w k := by
  rcases Nat.lt_or_gt_of_ne h with hlt | hgt
  · rw [bitOf_eq_testBit, bitOf_eq_testBit, Nat.add_comm]
    exact Nat.testBit_two_pow_add_gt hlt w
  · obtain ⟨i, rfl⟩ := Nat.exists_eq_add_of_lt hgt
    have heven : w / 2 ^ j % 2 = 0 := by simpa [bitOf] using hw
    have hdiv : ∀ x, x / 2 ^ (j + i + 1) = x / 2 ^ j / 2 / 2 ^ i := fun x => by
      rw [Nat.div_div_eq_div_mul, Nat.div_div_eq_div_mul]
      congr 1; ring
    have hnext : (w + 2 ^ j) / 2 ^ j = w / 2 ^ j + 1 := Nat.add_div_right _ (by positivity)
    have hhalf : (w / 2 ^ j + 1) / 2 = w / 2 ^ j / 2 := by omega
    rw [bitOf, bitOf, hdiv, hdiv, hnext, hhalf]

theorem bitOf_putBit_ne (v : Nat) {k j : Nat} (b : Bool) (h : k ≠ j) : bitOf (putBit v j b) k = bitOf v k := by
  cases hv : bitOf v j with
  | false => cases b <;> simp [putBit, hv, b2n, bitOf_add_two_pow hv h]
  | true =>
    have hle : 2 ^ j ≤ v := Nat.ge_two_pow_of_testBit ((bitOf_eq_testBit v j).symm.trans hv)
    have hlow : bitOf (v - 2 ^ j) j = false := by simpa [putBit, hv, b2n] using bitOf_putBit_false v j
    have hback : bitOf (v - 2 ^ j + 2 ^ j) k = bitOf (v - 2 ^ j) k := bitOf_add_two_pow hlow h
    rw [Nat.sub_add_cancel hle] at hback
    cases b <;> simp [putBit, hv, b2n, hback, Nat.sub_add_cancel hle]
/-- A bit of a four-bit field made `b` reads as `b`, and the other bits as before. -/
theorem State.bit_setBit_false (s : State) {f : Fld} {k : Nat} (h : k < f.width) (n : Nat) :
    (s.setBit f k false n).bit f k n = false := by
  rw [State.bit, State.setBit, State.get_set_same, bitOf_mod_two_pow _ h, bitOf_putBit_false]

theorem State.bit_setBit_true (s : State) {f : Fld} {k : Nat} (h : k < f.width) (n : Nat) :
    (s.setBit f k true n).bit f k n = true := by
  rw [State.bit, State.setBit, State.get_set_same, bitOf_mod_two_pow _ h, bitOf_putBit_true]

theorem State.bit_setBit_ne (s : State) {f : Fld} {k j : Nat} (h : k < f.width) (hj : k ≠ j) (b : Bool) (n : Nat) :
    (s.setBit f j b n).bit f k n = s.bit f k n := by
  rw [State.bit, State.setBit, State.get_set_same, bitOf_mod_two_pow _ h, bitOf_putBit_ne _ _ hj, State.bit]

/-! ### Entries of the log and refusals -/

section
variable (s : State)

theorem State.get_rgeLog {f : Fld} (h : f.apart RGE.STATUS_LOG_OVR = true) (code n : Nat) (chan : Option Nat) (k : Nat) :
    (s.rgeLog code n chan).get f k = s.get f k := by
  unfold State.rgeLog
  dsimp only
  split
  · rfl
  · exact State.get_set_apart _ h _

theorem State.rgeLog_mem (code n : Nat) (chan : Option Nat) : (s.rgeLog code n chan).mem = s.mem := by
  unfold State.rgeLog
  dsimp only
  split <;> rfl

/-- An entry of the log changes the enforcer's records in the log alone. -/
theorem State.rgeLog_rge (code n : Nat) (chan : Option Nat) : ∃ l, (s.rgeLog code n chan).rge = { s.rge with log := l } := by
  unfold State.rgeLog
  dsimp only
  split <;> exact ⟨_, rfl⟩

theorem State.rgeLog_now (code n : Nat) (chan : Option Nat) : (s.rgeLog code n chan).now = s.now := by
  unfold State.rgeLog
  dsimp only
  split <;> rfl
end

/-! ### Violations (R140, R142, R143) -/

/-- A chain's grant withdrawn: beside GRANT only what lies beyond the enforcer's registers changes. -/
theorem Beyond.withdraw (s : State) (n : Nat) (fast : Bool) : Beyond txKey (s.endGrant n) (s.withdraw n fast) :=
  ((Beyond.refl _ _).utxDeny n).rampDown n fast txREADY errRGE_DENY

/-- The log and the chain's last code, before the grant is withdrawn. -/
def State.violNoted (s : State) (n code : Nat) : State := (s.rgeLog code n (some (Tab.get 0 s.rge.granted n))).rgeLast n code

theorem State.violNoted_get (s : State) {f : Fld} (h : f.apart RGE.STATUS_LOG_OVR = true) (n code k : Nat) :
    (s.violNoted n code).get f k = s.get f k := s.get_rgeLog h code n _ k

theorem State.violate_of_granted {s : State} {n : Nat} (h : s.granted n = true) (code : Nat) : s.violate n code =
    ((((s.violNoted n code).withdraw n true).bump RGE.CNT_VIOL_COUNT RGE.STATUS_SAT).set RGE.STATUS_VIOL 1).holdOff n := by
  have hnoted : (s.violNoted n code).granted n = true := by
    simp only [State.granted, State.bit, s.violNoted_get (by decide : RGE.STATE_GRANT.apart RGE.STATUS_LOG_OVR = true)]
    exact h
  unfold State.violate
  rw [← State.violNoted]
  simp [hnoted]

section
variable {s : State} {n : Nat} (code : Nat)

theorem State.violate_granted (h : s.granted n = true) (hn : n < 4) : (s.violate n code).granted n = false := by
  rw [State.violate_of_granted h, State.granted, State.bit]
  simp (disch := decide) only [State.holdOff, State.setBit, State.get_set_apart, State.get_bump_apart]
  rw [(Beyond.withdraw (s.violNoted n code) n true).get (by decide)]
  exact State.bit_setBit_false _ hn 0

theorem State.violate_held (h : s.granted n = true) (hn : n < 4) : (s.violate n code).bit RGE.STATE_HOLD n = true := by
  rw [State.violate_of_granted h]
  exact State.bit_setBit_true _ hn 0

theorem State.violate_viol (h : s.granted n = true) : (s.violate n code).get RGE.STATUS_VIOL = 1 := by
  rw [State.violate_of_granted h]
  simp (disch := decide) only [State.holdOff, State.setBit, State.get_set_apart, State.get_set_fits]

theorem State.violate_count (h : s.granted n = true) (hcount : s.get RGE.CNT_VIOL_COUNT < 0xFFFFFFFF) :
    (s.violate n code).get RGE.CNT_VIOL_COUNT = s.get RGE.CNT_VIOL_COUNT + 1 := by
  have hbefore : ((s.violNoted n code).withdraw n true).get RGE.CNT_VIOL_COUNT = s.get RGE.CNT_VIOL_COUNT := by
    rw [(Beyond.withdraw _ n true).get (by decide)]
    simp (disch := decide) only [State.endGrant, State.setBit, State.get_set_apart, State.violNoted_get]
  rw [State.violate_of_granted h]
  simp (disch := decide) only [State.holdOff, State.setBit, State.get_set_apart]
  rw [State.get_bump_same _ (hbefore ▸ hcount) rfl, hbefore]

theorem State.violate_rge (h : s.granted n = true) : ∃ l, (s.violate n code).rge =
    { s.rge with log := l, lastCode := Tab.set 0 s.rge.lastCode n code } := by
  obtain ⟨l, hl⟩ := s.rgeLog_rge code n (some (Tab.get 0 s.rge.granted n))
  refine ⟨l, ?_⟩
  have hnoted : (s.violNoted n code).rge = { s.rge with log := l, lastCode := Tab.set 0 s.rge.lastCode n code } := by
    simp [State.violNoted, State.rgeLast, hl]
  rw [State.violate_of_granted h]
  simp only [State.holdOff, State.setBit_rge, State.set_rge, State.bump_rge]
  rw [(Beyond.withdraw _ n true).rge]
  exact hnoted

theorem State.violate_now (h : s.granted n = true) : (s.violate n code).now = s.now := by
  rw [State.violate_of_granted h]
  simp only [State.holdOff, State.setBit_now, State.set_now, State.bump_now]
  rw [(Beyond.withdraw _ n true).now]
  exact s.rgeLog_now ..

theorem State.violate_mem (h : s.granted n = true) : (s.violate n code).mem = s.mem := by
  rw [State.violate_of_granted h]
  simp only [State.holdOff, State.setBit_mem, State.set_mem, State.bump_mem]
  rw [(Beyond.withdraw _ n true).mem]
  exact s.rgeLog_mem ..

/-- A first violation is counted, and no escalation follows. -/
theorem State.rgeViolation_first (h : s.granted n = true) (hv : s.rge.viols = []) :
    s.rgeViolation n code = { s.violate n code with rge.viols := [s.now] } := by
  obtain ⟨l, hl⟩ := State.violate_rge code h
  have hnone : (s.violate n code).rge.viols = [] := by rw [hl]; exact hv
  simp [State.rgeViolation, State.violCount, hnone, State.violate_now code h]
end

end Sys2Proof.Machine
end

section
/-! PROOFS. R146, R148: the kill leaves no chain with a grant, and the enforcer's other registers of the assertion. -/

namespace Sys2Proof.Machine

open Sys2Proof

/-! ### What the kill does to one chain -/

/-- The enforcer's registers that a refusal writes. -/
def refusalFlds : List Fld :=
  [RGE.STATE_PREGRANT, RGE.STATUS_DENY, RGE.CNT_DENY_COUNT, RGE.STATUS_SAT, RGE.STATUS_LOG_OVR]

/-- A register of the enforcer that neither a refusal nor a withdrawal writes. -/
def Fld.offKill (f : Fld) : Bool :=
  f.apart RGE.STATE_GRANT && refusalFlds.all f.apart && decide (f.key 0 < txKey)

theorem Fld.offKill_iff (f : Fld) : f.offKill = true ↔
    f.apart RGE.STATE_GRANT = true ∧ (∀ g ∈ refusalFlds, f.apart g = true) ∧ f.key 0 < txKey := by
  simp [Fld.offKill, and_assoc]

theorem grant_apart_refusal {f : Fld} (h : f ∈ refusalFlds) : RGE.STATE_GRANT.apart f = true := by
  have : ∀ g ∈ refusalFlds, RGE.STATE_GRANT.apart g = true := by decide
  exact this f h

/-- `t` has the enforcer's registers of `s` but for those that refusals and withdrawals write, and grants no chain that `s` does not. -/
structure Refused (s t : State) : Prop where
  kept : ∀ f : Fld, f.offKill = true → t.get f 0 = s.get f 0
  grants : ∀ n, n < 4 → s.granted n = false → t.granted n = false

namespace Refused
variable {s t u : State}

theorem refl (s : State) : Refused s s := ⟨fun _ _ => rfl, fun _ _ h => h⟩

theorem trans (h : Refused s t) (h' : Refused t u) : Refused s u :=
  ⟨fun f hf => (h'.kept f hf).trans (h.kept f hf), fun n hn hs => h'.grants n hn (h.grants n hn hs)⟩

theorem granted_of_get (h : t.get RGE.STATE_GRANT = s.get RGE.STATE_GRANT) (n : Nat) : t.granted n = s.granted n := by
  simp only [State.granted, State.bit, h]

section
variable (h : Refused s t)
include h

theorem beyond (h' : Beyond txKey t u) : Refused s u :=
  h.trans ⟨fun f hf => h'.get ((Fld.offKill_iff f).1 hf).2.2, fun n _ hn => by rwa [granted_of_get (h'.get (by decide))]⟩

theorem set {f : Fld} (hf : f ∈ refusalFlds) (v : Nat) : Refused s (t.set f v) :=
  h.trans ⟨fun g hg => State.get_set_apart t (((Fld.offKill_iff g).1 hg).2.1 f hf) v, fun n _ hn => by
    rwa [granted_of_get (State.get_set_apart t (grant_apart_refusal hf) v)]⟩

theorem bump {c f : Fld} (hc : c ∈ refusalFlds) (hf : f ∈ refusalFlds) (k : Nat) : Refused s (t.bump c f 0 k) := by
  unfold State.bump
  split
  · exact h.set hc _
  · exact (h.set hc _).set hf _

theorem withRge (x : Rge) : Refused s { t with rge := x } := h.trans ⟨fun _ _ => rfl, fun _ _ hn => hn⟩

theorem ite {c : Prop} [Decidable c] (h' : Refused s u) : Refused s (if c then t else u) := by split <;> assumption

theorem giveUp (n : Nat) : Refused s (t.giveUp n) :=
  (h.beyond ((Beyond.refl _ _).setUtx _ _)).set (f := RGE.STATE_PREGRANT) (by decide) _

theorem rgeLog (code n : Nat) (chan : Option Nat) : Refused s (t.rgeLog code n chan) :=
  (h.withRge _).ite ((h.withRge _).set (by decide) 1)

theorem rgeRefuse (n code : Nat) : Refused s (t.rgeRefuse n code) :=
  (((h.rgeLog _ _ _).withRge _).bump (by decide) (by decide) _).set (by decide) _

theorem rgeDeny (n code : Nat) : Refused s (t.rgeDeny n code) := by
  unfold State.rgeDeny
  extract_lets s2
  have h2 : Refused s s2 := (h.rgeRefuse n code).beyond ((Beyond.refl _ _).utxDeny n)
  exact h2.beyond ((((Beyond.refl _ _).setUtx n _).endWait n).utxReport n _)

theorem endGrant (n : Nat) : Refused s (t.endGrant n) :=
  h.trans ⟨fun f hf => State.get_set_apart t ((Fld.offKill_iff f).1 hf).1 _, fun k hk hn => by
    by_cases hkn : k = n
    · exact hkn ▸ State.bit_setBit_false t hk 0
    · exact (State.bit_setBit_ne t hk hkn false 0).trans hn⟩

theorem withdraw (n : Nat) (fast : Bool) : Refused s (t.withdraw n fast) := (h.endGrant n).beyond (Beyond.withdraw t n fast)

theorem killChain (n : Nat) : Refused s (t.killChain n) := by
  unfold State.killChain
  extract_lets s1 s2
  have h1 : Refused s s1 := ((h.giveUp n).rgeDeny n 11).ite h
  have h2 : Refused s s2 := (h1.rgeRefuse n 11).ite h1
  exact ((h2.withdraw n true).withRge _).ite h1

end
end Refused

theorem State.granted_withRge (s : State) (x : Rge) (n : Nat) : ({ s with rge := x } : State).granted n = s.granted n := rfl

/-- A chain killed has no grant. -/
theorem State.killChain_granted (s : State) {n : Nat} (hn : n < 4) : (s.killChain n).granted n = false := by
  unfold State.killChain
  extract_lets s1 s2
  clear_value s2
  split
  · have hgone : (s2.withdraw n true).get RGE.STATE_GRANT = (s2.endGrant n).get RGE.STATE_GRANT :=
      (Beyond.withdraw s2 n true).get (by decide)
    rw [State.granted_withRge, Refused.granted_of_get hgone n]
    exact State.bit_setBit_false s2 hn 0
  · next h => simpa using h

/-! ### The HF driver (R146, R279) -/

/-- `t` has the registers of `s` below URX, and AON's wake inputs; network, Core P, stores and objects are as before. -/
structure EarlyRegs (s t : State) : Prop where
  reg : ∀ d k, k < rxKey ∨ k = wakeKey → Tab.get d t.regs k = Tab.get d s.regs k
  rest : t.net = s.net ∧ t.coreP = s.coreP ∧ t.nv = s.nv ∧ t.objs = s.objs ∧ t.now = s.now

namespace EarlyRegs
variable {s t u : State}

theorem refl (s : State) : EarlyRegs s s := ⟨fun _ _ _ => rfl, rfl, rfl, rfl, rfl, rfl⟩

theorem ite {c : Prop} [Decidable c] (h : EarlyRegs s t) (h' : EarlyRegs s u) : EarlyRegs s (if c then t else u) := by
  split <;> assumption

section
variable (h : EarlyRegs s t)
include h

theorem get {f : Fld} {n : Nat} (hf : f.key n < rxKey) : t.get f n = s.get f n := h.reg _ _ (.inl hf)

theorem rxSide (h' : RxSide t u) : EarlyRegs s u := by
  obtain ⟨⟨r, x, y, z, o, c, rfl⟩, hr⟩ := h'
  exact ⟨fun d k hk => (hr d k hk).trans (h.reg d k hk), h.rest⟩

theorem wrBytes (a : Nat) (l : List Nat) : EarlyRegs s (t.wrBytes a l) := by
  obtain ⟨x, hx⟩ := t.wrBytes_form a l
  rw [hx]
  exact ⟨h.reg, h.rest⟩

theorem set {f : Fld} (hf : f.after rxKey = true) (v n : Nat) : EarlyRegs s (t.set f v n) := h.rxSide ((RxSide.refl _).set hf v n)

theorem bump {c f : Fld} (hc : c.after rxKey = true) (hf : f.after rxKey = true) (n k : Nat) : EarlyRegs s (t.bump c f n k) :=
  h.rxSide ((RxSide.refl _).bump hc hf n k)

theorem updHfr (g : Hfr → Hfr) : EarlyRegs s (t.updHfr g) := ⟨h.reg, h.rest⟩

theorem hfToCw : EarlyRegs s t.hfToCw := by
  unfold State.hfToCw State.hfDrive
  exact (h.set (f := HFR.STATE_STATE) (by decide) txCW 0).updHfr _

theorem freshPar (a len : Nat) : EarlyRegs s (t.freshPar a len) := .ite h ⟨h.reg, h.rest⟩

theorem when {c : Bool} {g : State → State} (hg : EarlyRegs s (g t)) : EarlyRegs s (t.when c g) := .ite hg h

theorem hfDeliver (n rxstat : Nat) (l : List Bool) : EarlyRegs s (t.hfDeliver n rxstat l) := by
  have hstored : EarlyRegs s (t.wrBytes (seqBase n + (t.seqAt n).rxb)
      (packLsb (min ((l.length + 31) / 32 * 4) (0x8000 - (t.seqAt n).rxb)) l)) := h.wrBytes _ _
  exact (hstored.freshPar _ _).rxSide ((((RxSide.refl _).setSeq n _).seqEvent n _).bump (by decide) (by decide) _ _)

theorem hfDecision (f : HfFrame) (herr collpos cls : Nat) (crcOk : Bool) (payload : List Bool) :
    EarlyRegs s (t.hfDecision f herr collpos cls crcOk payload) := by
  unfold State.hfDecision
  extract_lets wtx bad rxstat s1 s2 s3 s4
  have h1 : EarlyRegs s s1 :=
    (((h.updHfr _).set (f := HFR.HSEQ_SEQ) (by decide) _ 0).set (f := HFR.STATUS_FRAME_DONE) (by decide) 1 0).bump
      (by decide) (by decide) _ _
  have h2 : EarlyRegs s s2 := .ite ((h1.set (by decide) _ _).bump (by decide) (by decide) _ _) h1
  have h3 : EarlyRegs s s3 := .ite (h2.set (by decide) _ _) (.ite (h2.set (by decide) _ _) h2)
  have hwtx := h3.set (f := HFR.LAST_RX_WTXN) (by decide) wtx 0
  have h4 : EarlyRegs s s4 := hwtx.when hwtx.hfToCw
  exact h4.hfDeliver _ _ _

theorem hfFieldOff : EarlyRegs s t.hfFieldOff := by
  unfold State.hfFieldOff
  extract_lets s1 s2
  have h2 : EarlyRegs s s2 := .ite ((h.updHfr _).set (f := HFR.STATE_STATE) (by decide) _ 0) (h.updHfr _)
  split
  · exact h2.hfDecision _ _ _ _ _ _
  · exact h2

theorem hfAnswer (err : Nat) : EarlyRegs s (t.hfAnswer err) := by
  unfold State.hfAnswer
  extract_lets s1
  have h1 : EarlyRegs s s1 := (h.updHfr _).when ((h.updHfr _).set (f := HFR.STATE_LAST_ERR) (by decide) _ 0)
  split
  · exact h1.rxSide ((RxSide.refl _).rqsAnswer _ _ _)
  · exact h1

theorem hfKill : EarlyRegs s t.hfKill := by
  unfold State.hfKill
  extract_lets s1 s2
  have h1 : EarlyRegs s s1 := .ite
    (((h.hfFieldOff.set (f := HFR.STATE_STATE) (by decide) 2 0).set (f := HFR.STATE_FIELD) (by decide) 0 0).set
      (f := HFR.STATUS_KILLED) (by decide) 1 0) h
  have h2 : EarlyRegs s s2 := .ite (h1.updHfr _) h1
  exact .ite (h2.hfAnswer _) h2

theorem hfProgress : EarlyRegs s t.hfProgress := by
  unfold State.hfProgress
  split
  · extract_lets st
    exact .ite (h.hfAnswer 0) (.ite (.ite (h.hfFieldOff.updHfr _) h) (h.updHfr _))
  · exact h

/-! ### The end of the reader's lease, and of Fulling's sequences -/

theorem seqFree (n : Nat) : EarlyRegs s (t.seqFree n) := h.rxSide ((((RxSide.refl t).setSeq n _).setOps n _).set (by decide) 0 n)

theorem hfrEnd : EarlyRegs s t.hfrEnd := by
  unfold State.hfrEnd
  split
  · exact h
  · extract_lets s1 s2
    have h2 : EarlyRegs s s2 := h.hfFieldOff.updHfr _
    exact (((h2.set (f := LSC.HF_STATE_HFR_HELD) (by decide) 0 0).set (f := LSC.HF_STATE_HFR_OWNER) (by decide) 0 0).seqFree _).hfProgress

theorem hftEnd : EarlyRegs s t.hftEnd := .ite (((h.set (by decide) 0 0).set (by decide) 0 0).seqFree _) h

theorem glOff : EarlyRegs s t.glOff := by
  have h0 : EarlyRegs s { t with gl := {} } := ⟨h.reg, h.rest⟩
  exact h0.set (by decide) 0 0

theorem hfrOff : EarlyRegs s t.hfrOff := by
  unfold State.hfrOff
  extract_lets s1
  have h1 : EarlyRegs s s1 := h.hfrEnd
  refine glOff ?_
  refine EarlyRegs.set ?_ (by decide) 0 0
  refine EarlyRegs.set ?_ (by decide) 0 0
  refine EarlyRegs.set ?_ (by decide) 0 0
  exact h1.updHfr _

theorem calAborted (seq code : Nat) : EarlyRegs s (t.calAborted seq code) :=
  ((((((h.set (by decide) 0 0).set (by decide) 0 0).set (by decide) _ 0).set (by decide) _ 0).set (by decide) 0 0).set
    (by decide) 1 0).bump (by decide) (by decide) 0 1

theorem calStop (l : List Nat) (code : Nat) : EarlyRegs s (t.calStop l code) := .ite (h.calAborted _ code) h

end
end EarlyRegs

/-! ### The kill asserted -/

/-- The kill in force, before it reaches the chains. -/
def State.killMarked (s : State) : State :=
  { s.set RGE.STATE_KILL_ACTIVE 1 with rge.cutMask := 0, rge.cutAt := s.now }

theorem State.killNow_eq (s : State) : s.killNow = (s.killMarked.forN 4 fun n t => t.killChain n).hfKill := rfl

/-- What the kill leaves of the enforcer's registers, and that no chain has a grant. -/
theorem State.killNow_get (s : State) {f : Fld} (hf : f.offKill = true) : s.killNow.get f 0 = (s.set RGE.STATE_KILL_ACTIVE 1).get f 0 := by
  rw [State.killNow_eq]
  have hmarked : s.killMarked.get f 0 = (s.set RGE.STATE_KILL_ACTIVE 1).get f 0 := rfl
  rw [← hmarked]
  generalize s.killMarked = u
  have hchains : Refused u (u.forN 4 fun n t => t.killChain n) :=
    State.forN_keep (Refused u) (fun n t => t.killChain n) 4 u (.refl _) fun n _ t ht => ht.killChain n
  have hkey : f.key 0 < rxKey := Nat.lt_trans ((Fld.offKill_iff f).1 hf).2.2 (by decide)
  rw [((EarlyRegs.refl _).hfKill).get hkey, hchains.kept f hf]

theorem State.killNow_granted (s : State) {n : Nat} (hn : n < 4) : s.killNow.granted n = false := by
  rw [State.killNow_eq]
  generalize s.killMarked = u
  have hchains : (u.forN 4 fun n t => t.killChain n).granted n = false :=
    State.forN_hit (fun _ => True) (fun t => t.granted n = false) (fun n t => t.killChain n) 4 n u hn trivial
      (fun _ _ _ _ => trivial) (fun t _ => t.killChain_granted hn) fun j _ t ht => ((Refused.refl t).killChain j).grants n hn ht
  rw [Refused.granted_of_get (((EarlyRegs.refl _).hfKill).get (by decide)), hchains]

/-- An assertion shows KILL_ACTIVE and its status bit, and leaves the enforcer's other registers. -/
theorem State.killBy_get (s : State) {status f : Fld} (code : Nat) (hf : f.offKill = true) (hlog : f.apart RGE.CNT_KILL_COUNT = true)
    (hactive : f.apart RGE.STATE_KILL_ACTIVE = true) : (s.killBy status code).get f 0 = (s.set status 1).get f 0 := by
  have hrefusal := ((Fld.offKill_iff f).1 hf).2.1
  unfold State.killBy
  rw [State.killNow_get _ hf, State.get_set_apart _ hactive, State.get_bump_apart _ hlog (hrefusal _ (by decide)),
    State.get_rgeLog _ (hrefusal _ (by decide))]

theorem State.killBy_active (s : State) (status : Fld) (code : Nat) : (s.killBy status code).get RGE.STATE_KILL_ACTIVE = 1 := by
  unfold State.killBy
  rw [State.killNow_get _ (by decide)]
  exact State.get_set_fits _ (by decide)

/-! ### The log handed to Core A (R144, R533) -/

/-- An entry of ring A lies within the ring (R530). -/
theorem State.memSame_logA (s : State) (code inst data : Nat) : memSame s (s.logA code inst data) 0x2803F520 1040 := by
  intro x hx
  have hhead : ∀ a : Nat, a % 64 < 64 := fun a => Nat.mod_lt _ (by decide)
  simp only [State.logA, State.faultLog, State.wr32]
  rw [State.rd8_wrBytes_out _ _ _ _ (by simp [toLe]; omega), State.rd8_wrBytes_out, State.rd8_wrBytes_out _ _ _ _ (by simp [toLe]; omega)]
  simp only [toLe, List.length_append, List.length_map, List.length_range, List.length_cons, List.length_nil]
  split
  · omega
  · have := hhead (ofLe (s.rdBytes (0x2803F520 + 4) 2))
    omega

/-- Core B's pop takes the oldest entry; beside it Core A's log and its object are all that changes. -/
theorem exec_rgeLogPop_coreB {s : State} {e : RgeEntry} {r : List RgeEntry} (h : s.rge.log = e :: r) :
    ∃ t, exec (.rgeLogPop .coreB) s = .next t ∧ t.rge.log = r ∧ t.bus.resp = { value := rgeEntryWord e, error := false } ∧
      t.regs = s.regs ∧ memSame s t 0x2803F520 1040 := by
  let s1 : State := ({ s with rge.log := r } : State).latch (RGE.LOG_LO_VALID.at 0) .coreB e.cycle
  let s2 := s1.setObj 0x3312 0 ((s.obj 0x3312 0 [] ++ toLe 4 (rgeEntryWord e) ++ toLe 4 e.cycle).drop
    ((s.obj 0x3312 0 [] ++ toLe 4 (rgeEntryWord e) ++ toLe 4 e.cycle).length - 512))
  have hexec : exec (.rgeLogPop .coreB) s = .next ((s2.logA 0x40 e.chain (2048 * (e.code % 32) + e.chan % 64)).respond
      (rgeEntryWord e) false) := by
    change execRgeLogPop .coreB s = _
    simp only [execRgeLogPop, State.rgePop, h]
    rfl
  have hmem := s2.memSame_logA 0x40 e.chain (2048 * (e.code % 32) + e.chan % 64)
  obtain ⟨x, hx⟩ := s2.faultLog_form 0x2803F520 64 0x40 e.chain (2048 * (e.code % 32) + e.chan % 64)
  rw [State.logA, hx] at hexec hmem
  exact ⟨_, hexec, rfl, rfl, rfl, hmem⟩

/-- A first violation, told by the command: what it leaves of the enforcer's records beside the violation's own state. -/
theorem exec_rgeViolation_first {s : State} {n code fwd : Nat} (hgrant : s.granted n = true) (hviols : s.rge.viols = [])
    (hcheck : s.underCheck n = true) (hbreached : s.breached n code fwd = true) :
    ∃ x : Rge, exec (.rgeViolation n code fwd) s = .next { s.violate n code with rge := x } ∧ Tab.get 0 x.lastCode n = code ∧
      x.viols = [s.now] := by
  obtain ⟨l, hrge⟩ := State.violate_rge code hgrant
  have hexec : exec (.rgeViolation n code fwd) s = .next { s.rgeViolation n code with
      rge.cutMask := putBit (s.rgeViolation n code).rge.cutMask n false } := by
    change execRgeViolation n code fwd s = _
    simp [execRgeViolation, hcheck, hbreached]
  rw [State.rgeViolation_first code hgrant hviols] at hexec
  refine ⟨_, hexec, ?_, rfl⟩
  simp [hrge]

/-- Settles O14: a breach is a first violation, an assertion of the kill reaches every chain, and a pop takes the oldest entry. -/
theorem killAndViolations : Obligations.KillAndViolations := by
  unfold Obligations.KillAndViolations
  refine ⟨fun s n code fwd hn hgrant hviols hcount hbreach => ?_, fun s n code fwd hor => ?_, fun s hpin => ?_, fun s m hreg => ?_,
    fun s hpin => ?_, fun s m hreg => ?_, fun s hact hreg => ?_, fun s hreg => ?_, fun s m hact hpin => ?_, fun s m hpin => ?_,
    fun s => rfl, fun s v => rfl, fun s m v hm => ?_, fun s m e r hm hlog => ?_, fun s e r hlog => exec_rgeLogPop_coreB hlog,
    fun s m hlog => ?_⟩
  · have hcheck : s.underCheck n = true := by simp [State.underCheck, hgrant]
    have hbreached : s.breached n code fwd = true := by
      rcases hbreach with ⟨rfl, h⟩ | ⟨rfl, hpa, hramp, h⟩ | ⟨rfl, h0, h⟩ | ⟨rfl, h0, h⟩ | ⟨rfl, h0, h⟩
      · simp [State.breached, h]
      · simp [State.breached, State.on, hpa, hramp, h]
      · simp [State.breached, h0, h]
      · simp [State.breached, h0, h]
      · simp [State.breached, h0, h]
    obtain ⟨x, hexec, hlast, htimes⟩ := exec_rgeViolation_first hgrant hviols hcheck hbreached
    refine ⟨_, hexec, ?_, ?_, ?_, ?_, hlast, htimes, State.violate_mem code hgrant⟩
    · rw [State.granted_withRge, State.violate_granted code hgrant hn]
    · rw [State.bit, State.get_mk]
      exact State.violate_held code hgrant hn
    · rw [State.get_mk, State.violate_viol code hgrant]
    · rw [State.get_mk, State.violate_count code hgrant hcount]
  · change execRgeViolation n code fwd s = _
    rcases hor with h | h <;> simp [execRgeViolation, h]
  · have hexec : exec .killPin s = .next ((s.set RGE.KILL_PIN 1).killBy RGE.STATUS_KILL_PIN 25) := by
      change execKillPin s = _
      simp [execKillPin, State.on, hpin]
    refine ⟨_, hexec, ?_, ?_, State.killBy_active _ _ _, fun n hn => State.killNow_granted _ hn⟩
    · rw [State.killBy_get _ _ (by decide) (by decide) (by decide)]
      simp (disch := decide) only [State.get_set_apart, State.get_set_fits]
    · rw [State.killBy_get _ _ (by decide) (by decide) (by decide)]
      exact State.get_set_fits _ (by decide)
  · have hexec : exec (.killReg m) s = .next ((s.set RGE.KILL_KILL 1).killBy RGE.STATUS_KILL_REG 26) := by
      change execKillReg m s = _
      simp [execKillReg, State.killReg, State.on, hreg]
    refine ⟨_, hexec, ?_, ?_, State.killBy_active _ _ _, fun n hn => State.killNow_granted _ hn⟩
    · rw [State.killBy_get _ _ (by decide) (by decide) (by decide)]
      simp (disch := decide) only [State.get_set_apart, State.get_set_fits]
    · rw [State.killBy_get _ _ (by decide) (by decide) (by decide)]
      exact State.get_set_fits _ (by decide)
  · change execKillPin s = _
    simp [execKillPin, State.on, hpin]
  · change execKillReg m s = _
    simp [execKillReg, State.killReg, State.on, hreg]
  · change execKillPinRelease s = _
    simp (disch := decide) [execKillPinRelease, State.killRelease, State.on, State.get_set_apart, hact, hreg]
  · change execKillPinRelease s = _
    simp (disch := decide) [execKillPinRelease, State.killRelease, State.on, State.get_set_apart, hreg]
  · change execKillRegClear m s = _
    simp (disch := decide) [execKillRegClear, State.killRegClear, State.killRelease, State.on, State.get_set_apart, hact, hpin]
  · change execKillRegClear m s = _
    simp (disch := decide) [execKillRegClear, State.killRegClear, State.killRelease, State.on, State.get_set_apart, hpin]
  · have hbeq : (m == Master.coreP) = false := by simpa using hm
    constructor
    · change execQuietClr m s = _
      simp [execQuietClr, hbeq]
    · change execRfEnWrite m v s = _
      simp [execRfEnWrite, State.rfEnWrite, hbeq]
  · have hbeq : (m == Master.coreB) = false := by simpa using hm
    change execRgeLogPop m s = _
    simp [execRgeLogPop, State.rgePop, hlog, hbeq, rgeEntryWord]
  · change execRgeLogPop m s = _
    simp [execRgeLogPop, State.rgePop, hlog]

end Sys2Proof.Machine
end

section
/-! PROOFS. R211, R215: what an instruction of a link sequencer leaves, and the arithmetic and logic instructions. -/

namespace Sys2Proof.Machine

open Sys2Proof

/-! ### Registers, flags and the program counter -/

section
variable (s : State) (n : Nat)

/-- The general register written reads the word cut to 32 bits, G0 always 0 (R211). -/
theorem State.greg_setG_same (d v : Nat) : (s.setG n d v).greg n d = if d % 16 = 0 then 0 else v % 2 ^ 32 := by
  by_cases h : d % 16 = 0 <;> simp [State.setG, State.greg, h, Tab.get_set_same]

theorem State.greg_setG_ne {d k : Nat} (h : k % 16 ≠ d % 16) (v : Nat) : (s.setG n d v).greg n k = s.greg n k := by
  by_cases hd : d % 16 = 0 <;> simp [State.setG, State.greg, hd, Tab.get_set_ne _ _ _ _ h]

@[simp] theorem State.get_setG (d v : Nat) (f : Fld) (k : Nat) : (s.setG n d v).get f k = s.get f k := by
  unfold State.setG; split <;> rfl

@[simp] theorem State.flag_setG (d v k : Nat) : (s.setG n d v).flag n k = s.flag n k := by simp [State.flag, State.bit]

@[simp] theorem State.greg_set (f : Fld) (v j k : Nat) : (s.set f v j).greg n k = s.greg n k := rfl

@[simp] theorem State.greg_setFlag (j : Nat) (b : Bool) (k : Nat) : (s.setFlag n j b).greg n k = s.greg n k := rfl

@[simp] theorem State.greg_pcNext (k : Nat) : (s.pcNext n).greg n k = s.greg n k := rfl

@[simp] theorem State.flag_pcNext (k : Nat) : (s.pcNext n).flag n k = s.flag n k := by
  simp (disch := decide) only [State.flag, State.bit, State.pcNext, State.get_set_apart]

theorem State.flag_setFlag_same {k : Nat} (h : k < 5) (b : Bool) : (s.setFlag n k b).flag n k = b := by
  cases b
  · exact State.bit_setBit_false s h n
  · exact State.bit_setBit_true s h n

theorem State.flag_setFlag_ne {j k : Nat} (h : k < 5) (hj : k ≠ j) (b : Bool) : (s.setFlag n j b).flag n k = s.flag n k :=
  State.bit_setBit_ne s h hj b n

theorem State.pcw_pcNext : (s.pcNext n).get LSC.STATE_PCW n = (s.get LSC.STATE_PCW n + 1) % 8192 :=
  State.get_set_same _ _ _ _

end

/-! ### The frame of an instruction -/

section
variable {s t : State} {n d : Nat} {ks : List Nat}

theorem seqFrame.refl (s : State) (n d : Nat) (ks : List Nat) : seqFrame s s n d ks :=
  ⟨rfl, rfl, rfl, rfl, fun _ _ => rfl, fun _ _ => rfl, fun _ _ _ => rfl⟩

/-- A register of the frame's exceptions may be written. -/
theorem seqFrame.set (h : seqFrame s t n d ks) {f : Fld} {j : Nat} (hf : f.key j ∈ ks) (v : Nat) :
    seqFrame s (t.set f v j) n d ks := by
  obtain ⟨hm, hq, ho, hops, hg, hs, hr⟩ := h
  refine ⟨hm, hq, ho, hops, hg, hs, fun g k hk => ?_⟩
  rw [State.get_set_ne t f g v j k fun e => hk (e ▸ hf), hr g k hk]

theorem seqFrame.setFlag (h : seqFrame s t n d ks) (hf : LSC.STATE_FLAGS.key n ∈ ks) (k : Nat) (b : Bool) :
    seqFrame s (t.setFlag n k b) n d ks := h.set hf _

theorem seqFrame.pcNext (h : seqFrame s t n d ks) (hf : LSC.STATE_PCW.key n ∈ ks) : seqFrame s (t.pcNext n) n d ks := h.set hf _

/-- The destination may be written. -/
theorem seqFrame.setG (h : seqFrame s t n d ks) (v : Nat) : seqFrame s (t.setG n d v) n d ks := by
  obtain ⟨hm, hq, ho, hops, hg, hs, hr⟩ := h
  refine ⟨?_, ?_, ?_, ?_, fun k hk => (State.greg_setG_ne t n hk v).trans (hg k hk), fun m hmn => ?_, fun g k hk => ?_⟩
  · rw [← hm]; unfold State.setG; split <;> rfl
  · rw [← hq]; unfold State.setG; split <;> rfl
  · rw [← ho]; unfold State.setG; split <;> rfl
  · rw [← hops]; unfold State.setG; split <;> rfl
  · rw [← hs m hmn]
    unfold State.setG
    split
    · rfl
    · exact State.seqAt_setSeq_ne t n m _ hmn
  · rw [State.get_setG, hr g k hk]

end

/-! ### Running an instruction -/

section
variable {s : State} {n : Nat} (h : s.seqRuns n = true)
include h

theorem State.seqDo_of_runs (g : State → State) : s.seqDo n g = .next (g s) := by
  obtain ⟨hst, hpar⟩ := by simpa [State.seqRuns] using h
  simp [State.seqDo, hst, hpar]

theorem State.seqOp_of_runs (g : State → State) : s.seqOp n g = .next (g (s.pcNext n)) := State.seqDo_of_runs h _

end

/-! ### Arithmetic and logic done -/

section
variable (s : State) (n d v : Nat)

/-- A result with Z, N and C, after the step of the program counter (R211). -/
theorem aluDone_aluZNC (c : Bool) : aluDone s ((s.pcNext n).aluZNC n d v c) n d (v % 2 ^ 32) c := by
  have hframe : seqFrame s ((s.pcNext n).aluZNC n d v c) n d [LSC.STATE_PCW.key n, LSC.STATE_FLAGS.key n] :=
    (((((seqFrame.refl s n d _).pcNext (by simp)).setFlag (by simp) flC c).setFlag (by simp) flZ _).setFlag (by simp) flN _).setG v
  refine ⟨State.greg_setG_same _ n d v, ?_, ?_, ?_, ?_, ?_, ?_, hframe⟩ <;>
    simp (disch := decide) [State.aluZNC, State.aluZN, State.flagZN, State.flag_setFlag_same, State.flag_setFlag_ne, beq_eq_decide]
  simp (disch := decide) only [State.setFlag, State.setBit, State.get_set_apart, State.pcw_pcNext]

/-- A result with Z and N, which keeps C (R211). -/
theorem aluDone_aluZN : aluDone s ((s.pcNext n).aluZN n d v) n d (v % 2 ^ 32) (s.flag n flC) := by
  have hframe : seqFrame s ((s.pcNext n).aluZN n d v) n d [LSC.STATE_PCW.key n, LSC.STATE_FLAGS.key n] :=
    ((((seqFrame.refl s n d _).pcNext (by simp)).setFlag (by simp) flZ _).setFlag (by simp) flN _).setG v
  refine ⟨State.greg_setG_same _ n d v, ?_, ?_, ?_, ?_, ?_, ?_, hframe⟩ <;>
    simp (disch := decide) [State.aluZN, State.flagZN, State.flag_setFlag_same, State.flag_setFlag_ne, beq_eq_decide]
  simp (disch := decide) only [State.setFlag, State.setBit, State.get_set_apart, State.pcw_pcNext]

/-- A left shift (R215): C is the last bit shifted out, kept for a count of 0. -/
theorem aluDone_aluShl (x k : Nat) : aluDone s ((s.pcNext n).aluShl n d x k) n d (x * 2 ^ k % 2 ^ 32)
    (if k = 0 then s.flag n flC else bitOf x (32 - k)) := by
  by_cases hk : k = 0
  · subst hk; simpa [State.aluShl] using aluDone_aluZN s n d x
  · simpa [State.aluShl, hk] using aluDone_aluZNC s n d (x * 2 ^ k % 4294967296) (bitOf x (32 - k))

/-- A right shift (R215). -/
theorem aluDone_aluShr (x k : Nat) : aluDone s ((s.pcNext n).aluShr n d x k) n d (x / 2 ^ k % 2 ^ 32)
    (if k = 0 then s.flag n flC else bitOf x (k - 1)) := by
  by_cases hk : k = 0
  · subst hk; simpa [State.aluShr] using aluDone_aluZN s n d x
  · simpa [State.aluShr, hk] using aluDone_aluZNC s n d (x / 2 ^ k) (bitOf x (k - 1))

end

/-! ### Leading zeros -/

theorem clz32_le (v : Nat) : clz32 v ≤ 32 := by
  unfold clz32
  cases h : (List.range 32).find? fun i => bitOf v (31 - i) with
  | none => simp
  | some i => simpa using (List.mem_range.1 (List.mem_of_find?_eq_some h)).le

theorem bitOf_of_lt_clz32 {v i : Nat} (hi : i < clz32 v) : bitOf v (31 - i) = false := by
  have hlt := lt_of_lt_of_le hi (clz32_le v)
  unfold clz32 at hi
  cases h : (List.range 32).find? fun i => bitOf v (31 - i) with
  | none => simpa using (List.find?_eq_none.1 h) i (List.mem_range.2 hlt)
  | some k =>
    rw [h] at hi
    obtain ⟨-, -, hbefore⟩ := List.find?_range_eq_some.1 h
    simpa using hbefore i hi

theorem bitOf_clz32 {v : Nat} (h : clz32 v < 32) : bitOf v (31 - clz32 v) = true := by
  unfold clz32 at h ⊢
  cases hf : (List.range 32).find? fun i => bitOf v (31 - i) with
  | none => simp [hf] at h
  | some k => simpa using List.find?_some hf

theorem clz_done (s : State) (n d k : Nat) (hk : k ≤ 32) :
    let t := ((s.pcNext n).setFlag n flZ (k == 0)).setG n d k
    t.greg n d = (if d % 16 = 0 then 0 else k) ∧
      t.flag n flZ = decide (k = 0) ∧ t.flag n flN = s.flag n flN ∧ t.flag n flC = s.flag n flC ∧
      t.get LSC.STATE_PCW n = (s.get LSC.STATE_PCW n + 1) % 8192 ∧
      seqFrame s t n d [LSC.STATE_PCW.key n, LSC.STATE_FLAGS.key n] := by
  have hframe : seqFrame s (((s.pcNext n).setFlag n flZ (k == 0)).setG n d k) n d [LSC.STATE_PCW.key n, LSC.STATE_FLAGS.key n] :=
    (((seqFrame.refl s n d _).pcNext (by simp)).setFlag (by simp) flZ _).setG k
  refine ⟨?_, ?_, ?_, ?_, ?_, hframe⟩
  · rw [State.greg_setG_same, Nat.mod_eq_of_lt (b := 2 ^ 32) (by omega)]
  · simp (disch := decide) [State.flag_setFlag_same, beq_eq_decide]
  · simp (disch := decide) [State.flag_setFlag_ne]
  · simp (disch := decide) [State.flag_setFlag_ne]
  · rw [State.get_setG]
    simp (disch := decide) only [State.setFlag, State.setBit, State.get_set_apart, State.pcw_pcNext]

/-- An instruction that runs `g` after the step of the program counter, with what `g` brings about. -/
theorem exec_of_seqOp {s : State} {n : Nat} (h : s.seqRuns n = true) (c : Instr) (g : State → State)
    (hc : exec c s = s.seqOp n g) {P : State → Prop} (hp : P (g (s.pcNext n))) : ∃ t, exec c s = .next t ∧ P t :=
  ⟨_, hc.trans (State.seqOp_of_runs h g), hp⟩

theorem aluDone_aluAdd (s : State) (n d x y : Nat) :
    aluDone s ((s.pcNext n).aluAdd n d x y) n d ((x + y) % 2 ^ 32) (decide (2 ^ 32 ≤ x + y)) := by
  simpa [State.aluAdd] using aluDone_aluZNC s n d ((x + y) % 4294967296) (decide (4294967296 ≤ x + y))

theorem aluDone_aluSub (s : State) (n d x y : Nat) : aluDone s ((s.pcNext n).aluSub n d x y) n d (sub32 x y) (decide (y ≤ x)) := by
  simpa [State.aluSub, sub32] using aluDone_aluZNC s n d (sub32 x y) (decide (y ≤ x))

/-- Settles O26: each instruction is one of the results with its flags, on the operands that the step of the program counter
leaves. -/
theorem lsiArithmeticAndLogic : Obligations.LsiArithmeticAndLogic := by
  unfold Obligations.LsiArithmeticAndLogic
  refine ⟨fun s n d a b imm h => ⟨?_, ?_, ?_, ?_, ?_, ?_, ?_, ?_⟩,
    fun s n d a b imm pos len h => ⟨?_, ?_, ?_, ?_, ?_, ?_, ?_, ?_, ?_, ?_, ?_⟩, fun s n d a imm h => ⟨?_, ?_, ?_⟩⟩
  · exact exec_of_seqOp h _ (fun t => t.aluAdd n d (t.greg n a) (t.greg n b)) rfl (aluDone_aluAdd s n d _ _)
  · exact exec_of_seqOp h _ (fun t => t.aluSub n d (t.greg n a) (t.greg n b)) rfl (aluDone_aluSub s n d _ _)
  · exact exec_of_seqOp h _ (fun t => t.aluAdd n d (t.greg n a) (sext18 imm)) rfl (aluDone_aluAdd s n d _ _)
  · exact exec_of_seqOp h _ (fun t => t.aluSub n 0 (t.greg n a) (t.greg n b)) rfl (aluDone_aluSub s n 0 _ _)
  · exact exec_of_seqOp h _ (fun t => t.aluSub n 0 (t.greg n a) (sext18 imm)) rfl (aluDone_aluSub s n 0 _ _)
  · exact exec_of_seqOp h _ (fun t => t.aluZN n d (t.greg n a * t.greg n b % 4294967296)) rfl (by simpa using aluDone_aluZN s n d (s.greg n a * s.greg n b % 4294967296))
  · exact exec_of_seqOp h _ (fun t => t.aluZN n d (min (t.greg n a) (t.greg n b))) rfl (aluDone_aluZN s n d _)
  · exact exec_of_seqOp h _ (fun t => t.aluZN n d (max (t.greg n a) (t.greg n b))) rfl (aluDone_aluZN s n d _)
  · exact exec_of_seqOp h _ (fun t => t.aluZN n d (Nat.land (t.greg n a) (t.greg n b))) rfl (aluDone_aluZN s n d _)
  · exact exec_of_seqOp h _ (fun t => t.aluZN n d (Nat.lor (t.greg n a) (t.greg n b))) rfl (aluDone_aluZN s n d _)
  · exact exec_of_seqOp h _ (fun t => t.aluZN n d (Nat.xor (t.greg n a) (t.greg n b))) rfl (aluDone_aluZN s n d _)
  · exact exec_of_seqOp h _ (fun t => t.aluZN n d (Nat.land (t.greg n a) (imm % 262144))) rfl (aluDone_aluZN s n d _)
  · exact exec_of_seqOp h _ (fun t => t.aluZN n d (Nat.lor (t.greg n a) (imm % 262144))) rfl (aluDone_aluZN s n d _)
  · exact exec_of_seqOp h _ (fun t => t.aluZN n d (Nat.xor (t.greg n a) (imm % 262144))) rfl (aluDone_aluZN s n d _)
  · exact exec_of_seqOp h _ (fun t => t.aluShl n d (t.greg n a) (t.greg n b % 32)) rfl (aluDone_aluShl s n d _ _)
  · exact exec_of_seqOp h _ (fun t => t.aluShr n d (t.greg n a) (t.greg n b % 32)) rfl (aluDone_aluShr s n d _ _)
  · exact exec_of_seqOp h _ (fun t => t.aluShl n d (t.greg n a) (imm % 32)) rfl (aluDone_aluShl s n d _ _)
  · exact exec_of_seqOp h _ (fun t => t.aluShr n d (t.greg n a) (imm % 32)) rfl (aluDone_aluShr s n d _ _)
  · exact exec_of_seqOp h _ (fun t => t.aluZN n d (t.greg n a / 2 ^ (pos % 32) % 2 ^ len)) rfl (aluDone_aluZN s n d _)
  · exact State.seqOp_of_runs h fun t => t
  · refine exec_of_seqOp h _ (fun t => t.setG n d (imm % 262144 * 16384)) rfl
      ⟨?_, ?_, ((seqFrame.refl s n d _).pcNext (by simp)).setG _⟩
    · rw [State.greg_setG_same, Nat.mod_eq_of_lt (b := 2 ^ 32) (by omega)]
    · rw [State.get_setG, State.pcw_pcNext]
  · exact ⟨_, clz32 (s.greg n a),
      State.seqOp_of_runs h fun t => (t.setFlag n flZ (clz32 (t.greg n a) == 0)).setG n d (clz32 (t.greg n a)),
      clz32_le _, fun i => bitOf_of_lt_clz32, bitOf_clz32, clz_done s n d _ (clz32_le _)⟩

end Sys2Proof.Machine
end

section
/-! PROOFS. R212, R215: the loads and stores of a link sequencer. -/

namespace Sys2Proof.Machine

open Sys2Proof

/-! ### Blocks of bytes -/

section
variable (s : State)

/-- A byte inside a stored block reads as stored. -/
theorem State.rd8_wrBytes_in (l : List Nat) (a : Nat) {i : Nat} (hi : i < l.length) : (s.wrBytes a l).rd8 (a + i) = l[i] % 256 := by
  induction l generalizing s a i with
  | nil => simp at hi
  | cons x r ih =>
    rw [State.wrBytes]
    cases i with
    | zero => rw [State.rd8_wrBytes_out _ _ _ _ (by omega)]; exact State.rd8_wr8_same s a x
    | succ i =>
      have := ih (s.wr8 a x) (a + 1) (i := i) (by simpa using hi)
      simpa [Nat.add_assoc, Nat.add_comm 1] using this

theorem toLe_length (w v : Nat) : (toLe w v).length = w := by simp [toLe]

/-- A number stored little-endian reads as stored. -/
theorem State.rdBytes_wrBytes_toLe (a w v : Nat) : (s.wrBytes a (toLe w v)).rdBytes a w = toLe w v := by
  refine List.ext_getElem (by simp [State.rdBytes, toLe]) fun i hi _ => ?_
  have hi' : i < (toLe w v).length := by simpa [State.rdBytes, toLe] using hi
  have hread := s.rd8_wrBytes_in (toLe w v) a hi'
  simpa [State.rdBytes, toLe] using hread

theorem State.rd8_lt (a : Nat) : s.rd8 a < 256 := (Tab.get 0 s.mem a).isLt

/-- A little-endian number is below what its bytes hold. -/
theorem ofLe_lt (l : List Nat) : ofLe l < 256 ^ l.length := by
  induction l with
  | nil => simp [ofLe]
  | cons x r ih =>
    have hstep : ofLe (x :: r) = x % 256 + 256 * ofLe r := rfl
    have := Nat.mod_lt x (show 0 < 256 by decide)
    rw [hstep, List.length_cons, Nat.pow_succ]
    omega

theorem ofLe_rdBytes_lt (a : Nat) {w : Nat} (hw : w ≤ 4) : ofLe (s.rdBytes a w) < 2 ^ 32 := by
  calc ofLe (s.rdBytes a w) < 256 ^ (s.rdBytes a w).length := ofLe_lt _
    _ = 256 ^ w := by simp [State.rdBytes]
    _ ≤ 256 ^ 4 := Nat.pow_le_pow_right (by decide) hw
    _ = 2 ^ 32 := by decide

theorem ofLe_rdBytes_one (a : Nat) : ofLe (s.rdBytes a 1) = s.rd8 a := by
  have := s.rd8_lt a
  simp [State.rdBytes, ofLe]
  omega

end

/-! ### Loads -/

theorem memFault_ok {ea w : Nat} (h : ea ≤ 0x7FFF) (hw : ea % w = 0) : memFault ea w = 0 := by
  simp [memFault, hw, Nat.not_lt.2 h]

section
variable {s : State} {n : Nat} (h : s.seqRuns n = true) (d a imm w : Nat) (hea : s.seqEa n a imm ≤ 0x7FFF)
  (halign : s.seqEa n a imm % w = 0)
include h hea halign

/-- A load from a sound word takes the bytes there (R215). -/
theorem State.seqLoad_of_runs (hw : w ≤ 4) (hpar : s.parBad n (s.seqEa n a imm) = false) : ∃ t, s.seqLoad n d a imm w = .next t ∧
    t.greg n d = (if d % 16 = 0 then 0 else ofLe (s.rdBytes (seqBase n + s.seqEa n a imm) w)) ∧
    t.get LSC.STATE_PCW n = (s.get LSC.STATE_PCW n + 1) % 8192 ∧ seqFrame s t n d [LSC.STATE_PCW.key n] := by
  refine ⟨(s.pcNext n).setG n d (ofLe (s.rdBytes (seqBase n + s.seqEa n a imm) w)), ?_, ?_, ?_,
    ((seqFrame.refl s n d _).pcNext (by simp)).setG _⟩
  · rw [State.seqLoad, State.seqDo_of_runs h]
    simp [memFault_ok hea halign, hpar]
  · rw [State.greg_setG_same, Nat.mod_eq_of_lt (ofLe_rdBytes_lt s _ hw)]
  · rw [State.get_setG, State.pcw_pcNext]

/-! ### Stores -/

omit h hea halign in
/-- What a store does: the bytes, and what a frame on air will send of them (R212, R223). -/
theorem State.seqPut_form (ea : Nat) (b : List Nat) : ∃ r, s.seqPut n ea b = { s.wrBytes (seqBase n + ea) b with radio := r } ∧
    r.seqs = s.radio.seqs ∧ r.seqOps = s.radio.seqOps := by
  obtain ⟨x, hx⟩ := State.wrBytes_form s (seqBase n + ea) b
  have hpar : ∃ r, (s.wrBytes (seqBase n + ea) b).freshPar (seqBase n + ea) b.length =
      { s.wrBytes (seqBase n + ea) b with radio := r } ∧ r.seqs = s.radio.seqs ∧ r.seqOps = s.radio.seqOps := by
    unfold State.freshPar
    split
    · exact ⟨_, rfl, by rw [hx], by rw [hx]⟩
    · exact ⟨_, rfl, by rw [hx], by rw [hx]⟩
  obtain ⟨r, hr, hseqs, hops⟩ := hpar
  unfold State.seqPut
  dsimp only
  rw [hr]
  split
  · exact ⟨r, rfl, hseqs, hops⟩
  · split
    · split
      · exact ⟨_, rfl, hseqs, hops⟩
      · exact ⟨r, rfl, hseqs, hops⟩
    · exact ⟨r, rfl, hseqs, hops⟩

/-- A store of the low bytes of GD (R215). -/
theorem State.seqStore_of_runs : ∃ t, s.seqStore n d a imm w = .next t ∧
    t.rdBytes (seqBase n + s.seqEa n a imm) w = toLe w (s.greg n d) ∧ memSame s t (seqBase n + s.seqEa n a imm) w ∧
    t.get LSC.STATE_PCW n = (s.get LSC.STATE_PCW n + 1) % 8192 ∧ regsSame s t [LSC.STATE_PCW.key n] ∧ t.que = s.que ∧
    t.objs = s.objs ∧ (∀ m, t.seqAt m = s.seqAt m) ∧ t.radio.seqOps = s.radio.seqOps := by
  obtain ⟨r, hput, hseqs, hops⟩ := State.seqPut_form (s := s.pcNext n) (n := n) (s.seqEa n a imm) (toLe w (s.greg n d))
  obtain ⟨x, hx⟩ := State.wrBytes_form (s.pcNext n) (seqBase n + s.seqEa n a imm) (toLe w (s.greg n d))
  have hrd : ∀ y, ((s.pcNext n).seqPut n (s.seqEa n a imm) (toLe w (s.greg n d))).rd8 y =
      ((s.pcNext n).wrBytes (seqBase n + s.seqEa n a imm) (toLe w (s.greg n d))).rd8 y := fun y => by rw [hput]; rfl
  refine ⟨(s.pcNext n).seqPut n (s.seqEa n a imm) (toLe w (s.greg n d)), ?_, ?_⟩
  · rw [State.seqStore, State.seqDo_of_runs h]
    simp [memFault_ok hea halign]
  refine ⟨?_, fun y hy => ?_, ?_, fun f k hk => ?_, ?_, ?_, fun m => ?_, ?_⟩
  · refine Eq.trans ?_ ((s.pcNext n).rdBytes_wrBytes_toLe (seqBase n + s.seqEa n a imm) w (s.greg n d))
    simp only [State.rdBytes, hrd]
  · exact (hrd y).trans (State.rd8_wrBytes_out _ _ _ _ (by rwa [toLe_length]))
  · rw [← State.pcw_pcNext, hput, hx]; rfl
  · rw [hput, hx]; exact State.get_set_ne s _ _ _ _ _ (by simpa using hk)
  · rw [hput, hx]; rfl
  · rw [hput, hx]; rfl
  · rw [hput]; exact congrArg (fun t => Tab.get {} t m) hseqs
  · rw [hput]; exact hops

end

/-- Settles O27: a load takes the bytes, a store leaves them, at the effective address. -/
theorem lsiLoadsAndStores : Obligations.LsiLoadsAndStores := by
  unfold Obligations.LsiLoadsAndStores
  refine ⟨fun s n d a imm h hea hpar => ⟨fun hal => ?_, fun hal => ?_, ?_⟩,
    fun s n d a imm h hea => ⟨fun hal => ?_, fun hal => ?_, ?_⟩⟩
  · exact State.seqLoad_of_runs h d a imm 4 hea hal (by decide) hpar
  · exact State.seqLoad_of_runs h d a imm 2 hea hal (by decide) hpar
  · change ∃ t, s.seqLoad n d a imm 1 = .next t ∧ _
    simpa only [ofLe_rdBytes_one] using State.seqLoad_of_runs h d a imm 1 hea (Nat.mod_one _) (by decide) hpar
  · exact State.seqStore_of_runs h d a imm 4 hea hal
  · exact State.seqStore_of_runs h d a imm 2 hea hal
  · obtain ⟨t, ht, hrd, hrest⟩ := State.seqStore_of_runs h d a imm 1 hea (Nat.mod_one _)
    exact ⟨t, ht, by simpa [State.rdBytes, toLe] using hrd, hrest⟩

end Sys2Proof.Machine
end

section
/-! PROOFS. R214 to R217: the words of the LSI encodings. -/

namespace Sys2Proof.Machine

open Sys2Proof

/-! ### The decoder by the opcode's range -/

section
variable {n op w : Nat} {i : Instr}

theorem lsiDecode_of_alu (op : Nat) (hop : bits w 31 26 = op) (h : op ≤ 0x1D) (hi : lsiAlu n op w = some i) : lsiDecode n w = some i := by
  subst hop; simpa [lsiDecode, h] using hi

theorem lsiDecode_of_flow (op : Nat) (hop : bits w 31 26 = op) (h : ¬op ≤ 0x1D) (h' : op ≤ 0x2D) (hi : lsiFlow n op w = some i) :
    lsiDecode n w = some i := by
  subst hop; simpa [lsiDecode, h, h'] using hi

theorem lsiDecode_of_radio (op : Nat) (hop : bits w 31 26 = op) (h : ¬op ≤ 0x2D) (hi : lsiRadio n op w = some i) :
    lsiDecode n w = some i := by
  subst hop; simpa [lsiDecode, h, show ¬bits w 31 26 ≤ 0x1D by omega] using hi

end

/-! ### Formats R and I -/

/-- The fields of a word with the opcode `op`, the registers `d` and `a` and the rest `r`. -/
theorem lsiFields {op d a r w : Nat} (hop : op < 64) (hd : d < 16) (ha : a < 16) (hr : r < 2 ^ 18)
    (hw : w = op * 2 ^ 26 + d * 2 ^ 22 + a * 2 ^ 18 + r) :
    bits w 31 26 = op ∧ bits w 25 22 = d ∧ bits w 21 18 = a ∧ bits w 17 0 = r ∧ bits w 17 14 = r / 2 ^ 14 ∧ bits w 13 0 = r % 2 ^ 14 := by
  simp only [bits]; omega

theorem lsiDecode_formatR (n : Nat) {d a b : Nat} (hd : d < 16) (ha : a < 16) (hb : b < 16) :
    ∀ p ∈ [(0x01, Instr.lsiAdd n d a b), (0x02, .lsiSub n d a b), (0x03, .lsiAnd n d a b), (0x04, .lsiOr n d a b),
      (0x05, .lsiXor n d a b), (0x06, .lsiShl n d a b), (0x07, .lsiShr n d a b), (0x08, .lsiMinu n d a b), (0x09, .lsiMaxu n d a b),
      (0x0A, .lsiMul n d a b)],
      lsiDecode n (p.1 * 2 ^ 26 + d * 2 ^ 22 + a * 2 ^ 18 + b * 2 ^ 14) = some p.2 := by
  intro p hp
  have hop : p.1 ≤ 0x0A := by revert p; simp
  obtain ⟨h1, h2, h3, -, h4, h5⟩ := lsiFields (r := b * 2 ^ 14) (by omega : p.1 < 64) hd ha (by omega) rfl
  refine lsiDecode_of_alu p.1 h1 (by omega) ?_
  rw [Nat.mul_mod_left] at h5
  rw [Nat.mul_div_cancel _ (by decide)] at h4
  generalize p.1 * 2 ^ 26 + d * 2 ^ 22 + a * 2 ^ 18 + b * 2 ^ 14 = w at *
  revert p
  simp [lsiAlu, lsiOnly, h2, h3, h4, h5]

theorem lsiDecode_formatI (n : Nat) {d a imm : Nat} (hd : d < 16) (ha : a < 16) (himm : imm < 2 ^ 18) :
    ∀ p ∈ [(0x10, Instr.lsiAddi n d a imm), (0x11, .lsiAndi n d a imm), (0x12, .lsiOri n d a imm), (0x13, .lsiXori n d a imm),
      (0x14, .lsiShli n d a imm), (0x15, .lsiShri n d a imm), (0x18, .lsiLdw n d a imm), (0x19, .lsiLdh n d a imm),
      (0x1A, .lsiLdb n d a imm), (0x1B, .lsiStw n d a imm), (0x1C, .lsiSth n d a imm), (0x1D, .lsiStb n d a imm)],
      lsiDecode n (p.1 * 2 ^ 26 + d * 2 ^ 22 + a * 2 ^ 18 + imm) = some p.2 := by
  intro p hp
  have hop : p.1 ≤ 0x1D := by revert p; simp
  obtain ⟨h1, h2, h3, h4, -, -⟩ := lsiFields (by omega : p.1 < 64) hd ha himm rfl
  refine lsiDecode_of_alu p.1 h1 hop ?_
  generalize p.1 * 2 ^ 26 + d * 2 ^ 22 + a * 2 ^ 18 + imm = w at *
  revert p
  simp [lsiAlu, h2, h3, h4]

/-- Settles O60: a word's fields are read off its sum, and the arm of its opcode takes them. -/
theorem lsiWordsSpellTheirInstructions : Obligations.LsiWordsSpellTheirInstructions := by
  unfold Obligations.LsiWordsSpellTheirInstructions
  refine ⟨fun n d a b hd ha hb => lsiDecode_formatR n hd ha hb, fun n d a pos len hd ha hpos h1 hlen => ?_,
    fun n d a b hd ha hb => ⟨?_, ?_⟩, fun n d a imm hd ha himm => ⟨lsiDecode_formatI n hd ha himm, ?_, ?_⟩,
    fun n k d a tgt hk hd ha htgt => ⟨?_, ?_, ?_, ?_⟩, fun n => ⟨?_, ?_, ?_, ?_⟩,
    fun n d sr e hd hsr he => ⟨?_, ?_, ?_, fun hd15 => ?_⟩, fun n d a blk off hd ha hblk hoff => ⟨?_, ?_⟩,
    fun n chmask req a full fidx hc hreq ha hf hfidx => ⟨?_, ?_, ?_⟩,
    fun n d q cnt hd hq h1 hcnt => ⟨?_, ?_, ?_, ?_, ?_⟩, fun n mask unit cnt b hm hu hc hb => ⟨?_, ?_, ?_⟩,
    fun n w h => ?_, fun n w hop hd => ?_, fun n w hop hd => ?_, fun n w hop hrest => ?_⟩
  · refine lsiDecode_of_alu 0x0B ?_ (by decide) ?_ <;> simp [lsiAlu, lsiOnly, bits] <;> omega
  · refine lsiDecode_of_alu 0x0C ?_ (by decide) ?_ <;> simp [lsiAlu, lsiOnly, bits] <;> omega
  · refine lsiDecode_of_alu 0x0D ?_ (by decide) ?_ <;> simp [lsiAlu, lsiOnly, bits] <;> omega
  · refine lsiDecode_of_alu 0x16 ?_ (by decide) ?_ <;> simp [lsiAlu, lsiOnly, bits] <;> omega
  · refine lsiDecode_of_alu 0x17 ?_ (by decide) ?_ <;> simp [lsiAlu, lsiOnly, bits] <;> omega
  · refine lsiDecode_of_flow 0x20 ?_ (by decide) (by decide) ?_ <;> simp [lsiFlow, lsiOnly] <;> simp only [bits] <;> omega
  · refine lsiDecode_of_flow 0x21 ?_ (by decide) (by decide) ?_ <;> simp [lsiFlow, lsiOnly, bits] <;> omega
  · refine lsiDecode_of_flow 0x22 ?_ (by decide) (by decide) ?_ <;> simp [lsiFlow, lsiOnly, bits] <;> omega
  · refine lsiDecode_of_flow 0x24 ?_ (by decide) (by decide) ?_ <;> simp [lsiFlow, lsiOnly, bits] <;> omega
  · rfl
  · rfl
  · rfl
  · rfl
  · refine lsiDecode_of_flow 0x27 ?_ (by decide) (by decide) ?_ <;> simp [lsiFlow, lsiOnly, bits] <;> omega
  · refine lsiDecode_of_flow 0x28 ?_ (by decide) (by decide) ?_ <;> simp [lsiFlow, lsiOnly, bits] <;> omega
  · refine lsiDecode_of_flow 0x29 ?_ (by decide) (by decide) ?_ <;> simp [lsiFlow, lsiOnly, bits] <;> omega
  · refine lsiDecode_of_flow 0x2A ?_ (by decide) (by decide) ?_ <;> simp [lsiFlow, lsiOnly, bits] <;> omega
  · refine lsiDecode_of_flow 0x2C ?_ (by decide) (by decide) ?_ <;> simp [lsiFlow, lsiOnly, bits] <;> omega
  · refine lsiDecode_of_flow 0x2D ?_ (by decide) (by decide) ?_ <;> simp [lsiFlow, lsiOnly, bits] <;> omega
  · refine lsiDecode_of_radio 0x30 ?_ (by decide) ?_ <;> simp [lsiRadio, lsiOnly, bits] <;> omega
  · refine lsiDecode_of_radio 0x31 ?_ (by decide) ?_ <;> simp [lsiRadio, lsiOnly, bits] <;> omega
  · refine lsiDecode_of_radio 0x32 ?_ (by decide) ?_ <;> simp [lsiRadio, lsiOnly, bits] <;> omega
  · refine lsiDecode_of_radio 0x34 ?_ (by decide) ?_ <;> simp [lsiRadio, lsiOnly, bits] <;> omega
  · refine lsiDecode_of_radio 0x35 ?_ (by decide) ?_ <;> simp [lsiRadio, lsiOnly, bits] <;> omega
  · refine lsiDecode_of_radio 0x36 ?_ (by decide) ?_ <;> simp [lsiRadio, lsiOnly, bits] <;> omega
  · refine lsiDecode_of_radio 0x37 ?_ (by decide) ?_ <;> simp [lsiRadio, lsiOnly, bits] <;> omega
  · refine lsiDecode_of_radio 0x38 ?_ (by decide) ?_ <;> simp [lsiRadio, lsiOnly, bits] <;> omega
  · refine lsiDecode_of_radio 0x3C ?_ (by decide) ?_ <;> simp [lsiRadio, bits] <;> omega
  · refine lsiDecode_of_radio 0x3D ?_ (by decide) ?_ <;> simp [lsiRadio, lsiOnly, bits] <;> omega
  · refine lsiDecode_of_radio 0x3E ?_ (by decide) ?_ <;> simp [lsiRadio, lsiOnly, bits] <;> omega
  · revert h
    generalize hop : bits w 31 26 = op
    simp only [List.mem_cons, List.not_mem_nil, or_false]
    rintro (rfl | rfl | rfl | rfl | rfl | rfl | rfl | rfl | rfl | rfl | rfl | rfl) <;>
      simp [lsiDecode, hop, lsiAlu, lsiFlow, lsiRadio]
  · simp [lsiDecode, hop, lsiFlow, lsiOnly, Nat.not_le.2 hd]
  · simp [lsiDecode, hop, lsiFlow, lsiOnly, hd]
  · have hwide : bits w 25 0 ≠ 0 := by simp only [bits] at hrest ⊢; omega
    revert hop
    generalize hop : bits w 31 26 = op
    intro hle
    interval_cases op <;> simp [lsiDecode, hop, lsiAlu, lsiOnly, hrest, hwide]

end Sys2Proof.Machine
end

section
/-! PROOFS. R446, R448: the overflow count of a queue that is disabled. -/

namespace Sys2Proof.Machine

open Sys2Proof

/-- Queue 0 is enabled and empty, nothing is held for it, and its overflow count lists 2^32. -/
def queWide : State := { State.reset with regs := [(QUE.QCFG_EN.key 0, 1), (QUE.CNT_OVF_COUNT.key 0, 4294967296)] }

/-- Refutes O49: a disable with nothing to discard leaves the overflow count alone, and its last clause, stated for every state, says
that the count then stands at no more than 0xFFFFFFFF: `queWide` keeps 2^32. -/
theorem not_queueOperations : ¬ Obligations.QueueOperations := by
  unfold Obligations.QueueOperations
  rintro ⟨-, -, -, -, -, -, -, -, -, -, -, -, -, -, -, -, -, hdisable⟩
  obtain ⟨t, hexec, -, -, -, -, -, -, -, hcount, -⟩ := hdisable queWide 0 .coreA (by decide)
  cases hexec
  exact absurd hcount (by decide)

end Sys2Proof.Machine
end

section
/-! PROOFS. R124, R126, R127, R129: the sample-buffer capture. -/

namespace Sys2Proof.Machine

open Sys2Proof

/-! ### Words of memory -/

theorem ofLe_cons (x : Nat) (r : List Nat) : ofLe (x :: r) = x % 256 + 256 * ofLe r := rfl

theorem toLe_succ (w v : Nat) : toLe (w + 1) v = v % 256 :: toLe w (v / 256) := by
  simp only [toLe, List.range_succ_eq_map, List.map_cons, List.map_map, pow_zero, Nat.div_one]
  congr 1
  exact List.map_congr_left fun i _ => by simp [pow_succ', Nat.div_div_eq_div_mul]

/-- A number spelled little-endian reads back, cut to its bytes. -/
theorem ofLe_toLe (w v : Nat) : ofLe (toLe w v) = v % 256 ^ w := by
  induction w generalizing v with
  | zero => simp [toLe, ofLe, Nat.mod_one]
  | succ w ih => rw [toLe_succ, ofLe_cons, ih, Nat.mod_mod, pow_succ', Nat.mod_mul]

section
variable (s : State)

theorem State.rd32_wr32_same (a v : Nat) : (s.wr32 a v).rd32 a = v % 2 ^ 32 := by
  rw [State.rd32, State.wr32, State.rdBytes_wrBytes_toLe, ofLe_toLe]; rfl

/-- A word that a stored one does not touch reads as before. -/
theorem State.rd32_wr32_ne {a b : Nat} (h : b + 4 ≤ a ∨ a + 4 ≤ b) (v : Nat) : (s.wr32 a v).rd32 b = s.rd32 b := by
  have hbyte : ∀ i, i < 4 → (s.wr32 a v).rd8 (b + i) = s.rd8 (b + i) := fun i hi =>
    State.rd8_wrBytes_out _ _ _ _ (by rw [toLe_length]; omega)
  simp only [State.rd32, State.rdBytes]
  rw [List.map_congr_left fun i hi => hbyte i (List.mem_range.1 hi)]

theorem State.wr32_form (a v : Nat) : ∃ x, s.wr32 a v = { s with mem := x } := s.wrBytes_form a _

end

/-! ### The words stored -/

theorem sampleWord_lt (point w : Nat) : sampleWord point w < 2 ^ 32 := by
  have hext : ∀ v, (if point == 0 then unsignedOf 16 (sint 14 v) else v % 65536) < 65536 := fun v => by
    split
    · unfold unsignedOf; omega
    · exact Nat.mod_lt _ (by decide)
  have h1 := hext (w / 65536)
  have h2 := hext w
  unfold sampleWord
  dsimp only
  omega

/-- The place of the `k`-th word of a capture in the buffer. -/
def capAt (ptr chains size k : Nat) : Nat := 0x18000000 + 4 * ((ptr * chains + k) % max 1 size)

theorem capAt_apart {ptr chains size j k : Nat} (hj : j < size) (hk : k < size) (h : j ≠ k) :
    capAt ptr chains size k + 4 ≤ capAt ptr chains size j ∨ capAt ptr chains size j + 4 ≤ capAt ptr chains size k := by
  have hne : (ptr * chains + j) % size ≠ (ptr * chains + k) % size := fun e =>
    h (Nat.ModEq.eq_of_lt_of_lt (Nat.ModEq.add_left_cancel' _ e) hj hk)
  have hmax : max 1 size = size := by omega
  simp only [capAt, hmax]
  omega

theorem capAt_bound {size : Nat} (hsize : size ≤ 262144) (ptr chains k : Nat) :
    0x18000000 ≤ capAt ptr chains size k ∧ capAt ptr chains size k + 4 ≤ 0x18000000 + 1048576 := by
  have : (ptr * chains + k) % max 1 size < max 1 size := Nat.mod_lt _ (by omega)
  simp only [capAt]
  omega

section
variable (s : State) (words : List Nat)

/-- One word stored, drawn where the command does not carry it. -/
def State.capTurn (ptr chains size k : Nat) : State := (s.capWord words k).2.wr32 (capAt ptr chains size k) (s.capWord words k).1

theorem State.capStore_eq (ptr size count : Nat) :
    s.capStore ptr size count words = s.forN count fun k t => t.capTurn words ptr s.capChains size k := rfl

theorem State.capWord_form (k : Nat) : ∃ c, (s.capWord words k).2 = { s with freeCount := c } := by
  unfold State.capWord
  split
  · exact ⟨s.freeCount, rfl⟩
  · exact ⟨_, rfl⟩

theorem State.capTurn_form (ptr chains size k : Nat) :
    ∃ x c, s.capTurn words ptr chains size k = { s with mem := x, freeCount := c } := by
  obtain ⟨c, hc⟩ := s.capWord_form words k
  obtain ⟨x, hx⟩ := (s.capWord words k).2.wr32_form (capAt ptr chains size k) (s.capWord words k).1
  refine ⟨x, c, ?_⟩
  rw [State.capTurn, hx, hc]

theorem State.rd32_capTurn_same {ptr chains size k : Nat} (hk : k < words.length) :
    (s.capTurn words ptr chains size k).rd32 (capAt ptr chains size k) = sampleWord (s.get URX.CAP_CFG_POINT) (words.getD k 0) := by
  rw [State.capTurn, State.rd32_wr32_same]
  have := sampleWord_lt (s.get URX.CAP_CFG_POINT) words[k]
  simpa [State.capWord, hk] using this

theorem State.rd8_capTurn_out {ptr chains size k y : Nat} (hy : y < capAt ptr chains size k ∨ capAt ptr chains size k + 4 ≤ y) :
    (s.capTurn words ptr chains size k).rd8 y = s.rd8 y := by
  obtain ⟨c, hc⟩ := s.capWord_form words k
  rw [State.capTurn, State.wr32, State.rd8_wrBytes_out _ _ _ _ (by rw [toLe_length]; omega), hc]
  rfl

theorem State.rd32_capTurn_ne {ptr chains size j k : Nat} (hj : j < size) (hk : k < size) (h : j ≠ k) :
    (s.capTurn words ptr chains size j).rd32 (capAt ptr chains size k) = s.rd32 (capAt ptr chains size k) := by
  obtain ⟨c, hc⟩ := s.capWord_form words j
  rw [State.capTurn, State.rd32_wr32_ne _ (capAt_apart hj hk h), hc]
  rfl

/-! ### A whole capture stored -/

theorem State.capStore_form (ptr size count : Nat) : ∃ x c, s.capStore ptr size count words = { s with mem := x, freeCount := c } := by
  rw [State.capStore_eq]
  refine State.forN_keep (fun t => ∃ x c, t = { s with mem := x, freeCount := c }) _ count s ⟨s.mem, s.freeCount, rfl⟩ ?_
  rintro k - t ⟨x, c, rfl⟩
  exact State.capTurn_form _ words ptr _ size k

theorem State.rd8_capStore_out {size : Nat} (hsize : size ≤ 262144) (ptr count : Nat) : memSame s (s.capStore ptr size count words)
    0x18000000 1048576 := by
  intro y hy
  rw [State.capStore_eq]
  refine State.forN_keep (fun t => t.rd8 y = s.rd8 y) _ count s rfl fun k _ t ht => ?_
  have := capAt_bound hsize ptr s.capChains k
  exact (t.rd8_capTurn_out words (by omega)).trans ht

theorem State.rd32_capStore {size count k : Nat} (ptr : Nat) (hcount : count ≤ size) (hk : k < count) (hw : k < words.length) :
    (s.capStore ptr size count words).rd32 (capAt ptr s.capChains size k) =
      sampleWord (s.get URX.CAP_CFG_POINT) (words.getD k 0) := by
  rw [State.capStore_eq]
  refine State.forN_once (fun t => t.get URX.CAP_CFG_POINT = s.get URX.CAP_CFG_POINT)
    (fun t => t.rd32 (capAt ptr s.capChains size k) = sampleWord (s.get URX.CAP_CFG_POINT) (words.getD k 0)) _ hk s rfl ?_ ?_ ?_
  · intro j _ _ t ht
    obtain ⟨x, c, hx⟩ := t.capTurn_form words ptr s.capChains size j
    rw [hx]; exact ht
  · intro t ht
    rw [State.rd32_capTurn_same t words hw, ht]
  · intro j hj hjk t ht
    rw [State.rd32_capTurn_ne t words (by omega) (by omega) hjk, ht]

end

/-! ### The end of a capture -/

/-- The registers that the end of a capture writes. -/
def capEndFlds : List Fld :=
  [URX.CAP_STATUS_DONE, URX.CAP_STATUS_RUNNING, URX.CAP_STATUS_ARMED, URX.CAP_COUNT_INDEX, URX.CAP_PTR_INDEX, URX.CAP_TIDX_INDEX,
    URX.CAP_STAMP_LO_ANGLE, URX.CAP_STAMP_HI_CYCLE]

/-- The trigger's index and stamp, where it has come. -/
def State.capMark (s : State) (c : Capture) (at_ : Nat) : State :=
  if c.triggered then ((s.set URX.CAP_TIDX_INDEX at_).set URX.CAP_STAMP_LO_ANGLE c.angle).set URX.CAP_STAMP_HI_CYCLE c.cycle else s

/-- The registers at the end of a capture of `c` instants from `p` on. -/
def State.capRegs (s : State) (c p : Nat) : State :=
  ((((s.set URX.CAP_STATUS_ARMED 0).set URX.CAP_STATUS_RUNNING 0).set URX.CAP_STATUS_DONE 1).set URX.CAP_COUNT_INDEX c).set
    URX.CAP_PTR_INDEX p

/-- `t` has the registers and the memory of `u`, and no capture. -/
structure CapOver (u t : State) : Prop where
  regs : t.regs = u.regs
  mem : t.mem = u.mem
  ended : t.radio.capture = {}

section
variable (s : State) (count before ptr : Nat) (words : List Nat)

theorem State.capEnd_over {n fit c p : Nat} (hn : n = max 1 s.capChains) (hfit : fit = 262144 / n) (hc : c = min fit count)
    (hp : p = if s.get URX.CAP_CFG_RING ≠ 0 ∧ c = fit then ptr % fit else 0) :
    CapOver (((s.capStore p (fit * n) (c * n) words).capRegs c p).capMark s.radio.capture ((p + before) % fit))
      (s.capEnd count before ptr words) := by
  have hp' : (if (s.on URX.CAP_CFG_RING && c == fit) = true then ptr % fit else 0) = p := by
    rw [hp]; simp [State.on]
  subst hn hfit hc
  unfold State.capEnd
  dsimp only
  rw [hp']
  unfold State.capMark
  generalize s.capStore p _ _ words = t
  split <;> exact ⟨rfl, rfl, rfl⟩

end

section
variable (s : State)

theorem State.capMark_mem (c : Capture) (at_ : Nat) : (s.capMark c at_).mem = s.mem := by unfold State.capMark; split <;> rfl

theorem State.capRegs_mem (c p : Nat) : (s.capRegs c p).mem = s.mem := rfl

theorem State.get_capMark (c : Capture) (at_ : Nat) {f : Fld} (h1 : f.apart URX.CAP_TIDX_INDEX = true)
    (h2 : f.apart URX.CAP_STAMP_LO_ANGLE = true) (h3 : f.apart URX.CAP_STAMP_HI_CYCLE = true) (k : Nat) :
    (s.capMark c at_).get f k = s.get f k := by
  unfold State.capMark
  split
  · rw [State.get_set_apart _ h3, State.get_set_apart _ h2, State.get_set_apart _ h1]
  · rfl

theorem capMark_triggered {c : Capture} (h : c.triggered = true) {at_ : Nat} (hat : at_ < 262144) :
    (s.capMark c at_).get URX.CAP_TIDX_INDEX = at_ ∧ (s.capMark c at_).get URX.CAP_STAMP_LO_ANGLE = c.angle % 65536 ∧
      (s.capMark c at_).get URX.CAP_STAMP_HI_CYCLE = c.cycle % 4294967296 := by
  have hfits : at_ < 2 ^ URX.CAP_TIDX_INDEX.width := lt_trans hat (by decide)
  simp only [State.capMark, h, if_true]
  refine ⟨?_, ?_, State.get_set_same _ _ _ _⟩
  · simp (disch := first | decide | assumption) only [State.get_set_apart, State.get_set_fits]
  · rw [State.get_set_apart _ (by decide), State.get_set_same]; rfl

theorem regsSame_capMark (c : Capture) (at_ : Nat) {u : State} (h : regsSame u s (capEndFlds.map fun f => f.key 0)) :
    regsSame u (s.capMark c at_) (capEndFlds.map fun f => f.key 0) := by
  intro f n hk
  unfold State.capMark
  split
  · have hout : ∀ g ∈ capEndFlds, f.key n ≠ g.key 0 := fun g hg e => hk (List.mem_map.2 ⟨g, hg, e.symm⟩)
    rw [State.get_set_ne _ _ _ _ _ _ (hout _ (by simp [capEndFlds])), State.get_set_ne _ _ _ _ _ _ (hout _ (by simp [capEndFlds])),
      State.get_set_ne _ _ _ _ _ _ (hout _ (by simp [capEndFlds]))]
    exact h f n hk
  · exact h f n hk

theorem regsSame_capRegs (c p : Nat) : regsSame s (s.capRegs c p) (capEndFlds.map fun f => f.key 0) := by
  intro f n hk
  have hout : ∀ g ∈ capEndFlds, f.key n ≠ g.key 0 := fun g hg e => hk (List.mem_map.2 ⟨g, hg, e.symm⟩)
  unfold State.capRegs
  rw [State.get_set_ne _ _ _ _ _ _ (hout _ (by simp [capEndFlds])), State.get_set_ne _ _ _ _ _ _ (hout _ (by simp [capEndFlds])),
    State.get_set_ne _ _ _ _ _ _ (hout _ (by simp [capEndFlds])), State.get_set_ne _ _ _ _ _ _ (hout _ (by simp [capEndFlds])),
    State.get_set_ne _ _ _ _ _ _ (hout _ (by simp [capEndFlds]))]

end

/-- What the end of a capture leaves (R124, R126, R129): of a capture of `s` of `c` instants from `p` on, `fit` of `n` words each being
what the buffer holds. -/
structure CapEnded (s t : State) (c p at_ fit n : Nat) (words : List Nat) : Prop where
  done : t.get URX.CAP_STATUS_DONE = 1
  running : t.get URX.CAP_STATUS_RUNNING = 0
  armed : t.get URX.CAP_STATUS_ARMED = 0
  ended : t.radio.capture.triggered = false
  count : t.get URX.CAP_COUNT_INDEX = c
  start : t.get URX.CAP_PTR_INDEX = p
  untriggered : s.radio.capture.triggered = false → t.get URX.CAP_TIDX_INDEX = s.get URX.CAP_TIDX_INDEX ∧
    t.get URX.CAP_STAMP_LO_ANGLE = s.get URX.CAP_STAMP_LO_ANGLE ∧ t.get URX.CAP_STAMP_HI_CYCLE = s.get URX.CAP_STAMP_HI_CYCLE
  triggered : s.radio.capture.triggered = true → t.get URX.CAP_TIDX_INDEX = at_ ∧
    t.get URX.CAP_STAMP_LO_ANGLE = s.radio.capture.angle % 65536 ∧ t.get URX.CAP_STAMP_HI_CYCLE = s.radio.capture.cycle % 4294967296
  words : ∀ k, k < min (c * s.capChains) words.length → t.rd32 (0x18000000 + 4 * ((p * s.capChains + k) % (fit * n))) =
    sampleWord (s.get URX.CAP_CFG_POINT) (words.getD k 0)
  regs : regsSame s t (capEndFlds.map fun f => f.key 0)
  mem : memSame s t 0x18000000 1048576

theorem State.capEnd_ended (s : State) (count before ptr : Nat) (words : List Nat) {n fit c p : Nat} (hn : n = max 1 s.capChains)
    (hfit : fit = 262144 / n) (hc : c = min fit count)
    (hp : p = if s.get URX.CAP_CFG_RING ≠ 0 ∧ c = fit then ptr % fit else 0) :
    CapEnded s (s.capEnd count before ptr words) c p ((p + before) % fit) fit n words := by
  obtain ⟨hregs, hmem, hended⟩ := s.capEnd_over count before ptr words hn hfit hc hp
  have hchains : s.capChains ≤ 16 := by
    simpa [State.capChains, popcount, setBits] using List.length_filter_le (fun k => bitOf (s.get URX.CAP_CFG_MASK) k) (List.range 16)
  have hfit0 : 0 < fit := by rw [hfit]; exact Nat.div_pos (by omega) (by omega)
  have hsize : fit * n ≤ 262144 := hfit ▸ Nat.div_mul_le_self _ _
  have hfitle : fit ≤ 262144 := le_trans (Nat.le_mul_of_pos_right _ (by omega)) hsize
  have hple : p < 262144 := by
    have := Nat.mod_lt ptr hfit0
    rw [hp]; split <;> omega
  have hcw : c < 2 ^ URX.CAP_COUNT_INDEX.width := lt_of_le_of_lt (show c ≤ 262144 by omega) (by decide)
  have hpw : p < 2 ^ URX.CAP_PTR_INDEX.width := lt_trans hple (by decide)
  obtain ⟨x, k, hstore⟩ := s.capStore_form words p (fit * n) (c * n)
  have hout := s.rd8_capStore_out words hsize p (c * n)
  have hwords := fun {k} => s.rd32_capStore words (count := c * n) (k := k) p (Nat.mul_le_mul_right n (show c ≤ fit by omega))
  generalize hu : s.capStore p (fit * n) (c * n) words = u at *
  have hget : ∀ f j, (s.capEnd count before ptr words).get f j =
      ((u.capRegs c p).capMark s.radio.capture ((p + before) % fit)).get f j := fun f j => by simp only [State.get, hregs]
  have hrd : ∀ y, (s.capEnd count before ptr words).rd8 y = u.rd8 y := fun y => by
    rw [State.rd8, hmem, State.capMark_mem, State.capRegs_mem, State.rd8]
  have husame : ∀ f j, u.get f j = s.get f j := fun f j => by rw [hstore, State.get_mk]
  refine ⟨?_, ?_, ?_, by rw [hended], ?_, ?_, fun h => ⟨?_, ?_, ?_⟩, fun h => ?_, fun k hk => ?_, ?_, ?_⟩
  · rw [hget, State.get_capMark _ _ _ (by decide) (by decide) (by decide)]
    simp (disch := first | decide | assumption) only [State.capRegs, State.get_set_apart, State.get_set_fits]
  · rw [hget, State.get_capMark _ _ _ (by decide) (by decide) (by decide)]
    simp (disch := first | decide | assumption) only [State.capRegs, State.get_set_apart, State.get_set_fits]
  · rw [hget, State.get_capMark _ _ _ (by decide) (by decide) (by decide)]
    simp (disch := first | decide | assumption) only [State.capRegs, State.get_set_apart, State.get_set_fits]
  · rw [hget, State.get_capMark _ _ _ (by decide) (by decide) (by decide)]
    simp (disch := first | decide | assumption) only [State.capRegs, State.get_set_apart, State.get_set_fits]
  · rw [hget, State.get_capMark _ _ _ (by decide) (by decide) (by decide)]
    simp (disch := first | decide | assumption) only [State.capRegs, State.get_set_fits]
  · rw [hget, State.capMark, h]
    simp (disch := decide) only [State.capRegs, State.get_set_apart, husame, Bool.false_eq_true, if_false]
  · rw [hget, State.capMark, h]
    simp (disch := decide) only [State.capRegs, State.get_set_apart, husame, Bool.false_eq_true, if_false]
  · rw [hget, State.capMark, h]
    simp (disch := decide) only [State.capRegs, State.get_set_apart, husame, Bool.false_eq_true, if_false]
  · simpa only [hget] using capMark_triggered (u.capRegs c p) h (lt_of_lt_of_le (Nat.mod_lt _ hfit0) hfitle)
  · have hch : n = s.capChains := by
      rcases Nat.eq_zero_or_pos s.capChains with h0 | h1
      · simp [h0] at hk
      · omega
    have hsame : (s.capEnd count before ptr words).rd32 (capAt p s.capChains (fit * n) k) = u.rd32 (capAt p s.capChains (fit * n) k) := by
      simp only [State.rd32, State.rdBytes, hrd]
    have hmax : max 1 (fit * n) = fit * n := Nat.max_eq_right (Nat.mul_pos hfit0 (by omega))
    have hread := hwords (k := k) (by rw [hch]; omega) (by omega)
    rw [← hsame] at hread
    simpa only [capAt, hmax] using hread
  · intro f j hk
    rw [hget, ← husame f j]
    exact regsSame_capMark _ _ _ (regsSame_capRegs u c p) f j hk
  · intro y hy
    rw [hrd]
    exact hout y hy

/-! ### Arming and triggers -/

section
variable {s : State}

/-- The trigger that arrives starts the storing (R126). -/
def State.capStart (s : State) : State :=
  (({ s with radio.capture := { triggered := true, angle := s.atb.angle, cycle := s.atb.cycle } } : State).set
    URX.CAP_STATUS_ARMED 0).set URX.CAP_STATUS_RUNNING 1

theorem State.capTrigger_start {src unit : Nat} (hit : s.capHit src unit = true) (harmed : s.get URX.CAP_STATUS_ARMED = 1)
    (hidle : s.radio.capture.triggered = false ∨ s.get URX.CAP_STATUS_RUNNING = 0) : s.capTrigger src unit = s.capStart := by
  have hlost : (s.radio.capture.triggered && s.on URX.CAP_STATUS_RUNNING) = false := by
    rcases hidle with h | h <;> simp [State.on, h]
  have harmed' : s.on URX.CAP_STATUS_ARMED = true := by simp [State.on, harmed]
  simp only [State.capTrigger, hit, hlost, harmed', Bool.not_true, Bool.false_eq_true, if_false, if_true]
  rfl

theorem State.capTrigger_lost {src unit : Nat} (hit : s.capHit src unit = true) (hrun : s.get URX.CAP_STATUS_RUNNING = 1)
    (htrig : s.radio.capture.triggered = true) : s.capTrigger src unit = s.set URX.CAP_STATUS_TRIG_LOST 1 := by
  simp [State.capTrigger, hit, htrig, State.on, hrun]

theorem State.capTrigger_missed {src unit : Nat} (hit : s.capHit src unit = false) : s.capTrigger src unit = s := by
  simp [State.capTrigger, hit]

theorem State.capTrigger_idle (src unit : Nat) (harmed : s.get URX.CAP_STATUS_ARMED = 0) (hrun : s.get URX.CAP_STATUS_RUNNING = 0) :
    s.capTrigger src unit = s := by
  simp [State.capTrigger, State.on, harmed, hrun]

theorem State.capHit_unit {src unit : Nat} (hsrc : s.get URX.CAP_CFG_TSRC = src)
    (h : src = 5 ∧ s.get URX.CAP_CFG_TSHEAF = unit ∨ 2 ≤ src ∧ src ≤ 4 ∧ bitOf (s.get URX.CAP_CFG_MASK) unit = true ∨
      src = 1 ∧ (setBits 16 (s.get URX.CAP_CFG_MASK)).head? = some unit) : s.capHit src unit = true := by
  rcases h with ⟨rfl, h⟩ | ⟨h2, h4, h⟩ | ⟨rfl, h⟩
  · simp [State.capHit, hsrc, h]
  · simp [State.capHit, hsrc, h, h2, h4]
  · simp [State.capHit, hsrc, h]

theorem State.capHit_other {src unit : Nat} (h : s.get URX.CAP_CFG_TSRC ≠ src ∨ src = 5 ∧ s.get URX.CAP_CFG_TSHEAF ≠ unit ∨
      2 ≤ src ∧ src ≤ 4 ∧ bitOf (s.get URX.CAP_CFG_MASK) unit = false ∨
      src = 1 ∧ (setBits 16 (s.get URX.CAP_CFG_MASK)).head? ≠ some unit) : s.capHit src unit = false := by
  rcases h with h | ⟨rfl, h⟩ | ⟨h2, h4, h⟩ | ⟨rfl, h⟩
  · simp [State.capHit, h]
  · simp [State.capHit, h]
  · have h0 : src ≠ 0 := by omega
    have h1 : src ≠ 1 := by omega
    have h5 : src ≠ 5 := by omega
    simp [State.capHit, h, h0, h1, h5]
  · simp [State.capHit, h]

theorem State.capBad_false_iff : s.capBad = false ↔ s.capChains ≠ 0 ∧ s.get URX.CAP_CFG_POINT ≠ 3 ∧ s.get URX.CAP_CFG_TSRC < 6 ∧
    s.get URX.CAP_LEN_INSTANTS ≠ 0 ∧
    ((if s.get URX.CAP_CFG_RING = 0 then 0 else s.get URX.CAP_PRE_INSTANTS) + s.get URX.CAP_LEN_INSTANTS) * s.capChains ≤ 262144 := by
  by_cases hring : s.get URX.CAP_CFG_RING = 0 <;> simp [State.capBad, State.on, hring, and_assoc]

end

/-- Settles O20: the checks and the triggers by the branch that takes them, the end of a capture by `State.capEnd_ended`. -/
theorem captures : Obligations.Captures := by
  unfold Obligations.Captures
  refine ⟨fun s => State.capBad_false_iff, fun s ha hr hbad => ?_, fun s h => ?_, fun s hsrc ha hidle => ?_, fun s hsrc hr ht => ?_,
    fun s h => ?_, fun s src unit hsrc ha hidle hu => ?_, fun s src unit hsrc hr ht hu => ?_, fun s src unit h => ?_,
    fun s before ptr c b p n fit words ht hr hn hfit hb hc hp => ?_, fun s before ptr words h => ?_,
    fun s stored before ptr c p n fit words h hn hfit hc hp => ?_, fun s stored before ptr words ha hr => ?_⟩
  · change execCapArm s = _
    simp [execCapArm, State.capArm, State.on, ha, hr, hbad]
  · change execCapArm s = _
    rcases h with h | h | h <;> simp [execCapArm, State.capArm, State.on, h]
  · change execCapTrig s = _
    rw [execCapTrig, State.capTrigger_start (by simp [State.capHit, hsrc]) ha hidle]
    rfl
  · change execCapTrig s = _
    rw [execCapTrig, State.capTrigger_lost (by simp [State.capHit, hsrc]) hr ht]
  · change execCapTrig s = _
    rw [execCapTrig]
    rcases h with h | ⟨ha, hr⟩
    · rw [State.capTrigger_missed (by simp [State.capHit, h])]
    · rw [State.capTrigger_idle _ _ ha hr]
  · change execCaptureTrigger src unit s = _
    rw [execCaptureTrigger, State.capTrigger_start (State.capHit_unit hsrc hu) ha hidle]
    rfl
  · change execCaptureTrigger src unit s = _
    rw [execCaptureTrigger, State.capTrigger_lost (State.capHit_unit hsrc hu) hr ht]
  · change execCaptureTrigger src unit s = _
    rw [execCaptureTrigger]
    rcases h with h | h | h | h | ⟨ha, hr⟩
    · rw [State.capTrigger_missed (State.capHit_other (.inl h))]
    · rw [State.capTrigger_missed (State.capHit_other (.inr (.inl h)))]
    · rw [State.capTrigger_missed (State.capHit_other (.inr (.inr (.inl h))))]
    · rw [State.capTrigger_missed (State.capHit_other (.inr (.inr (.inr h))))]
    · rw [State.capTrigger_idle _ _ ha hr]
  · have hbefore : s.capBefore before = b := by
      rw [hb, State.capBefore, hfit, hn]
      by_cases hring : s.get URX.CAP_CFG_RING = 0 <;> simp [State.on, hring]
    have hexec : exec (.captureDone before ptr words) s = .next (s.capEnd (b + s.get URX.CAP_LEN_INSTANTS) b ptr words) := by
      change execCaptureDone before ptr words s = _
      simp [execCaptureDone, ht, State.on, hr, hbefore]
    have hended := s.capEnd_ended (b + s.get URX.CAP_LEN_INSTANTS) b ptr words hn hfit hc hp
    obtain ⟨htidx, hlo, hhi⟩ := hended.triggered ht
    exact ⟨_, hexec, hended.done, hended.running, hended.armed, hended.ended, hended.count, hended.start, htidx, hlo, hhi,
      hended.words, hended.regs, hended.mem⟩
  · change execCaptureDone before ptr words s = _
    rcases h with h | h <;> simp [execCaptureDone, State.on, h]
  · have hsofar : c = min fit (s.capSoFar stored) := by
      rw [hc, State.capSoFar]
      by_cases hring : s.get URX.CAP_CFG_RING = 0 <;> simp [State.on, hring]
    have hexec : exec (.capStop stored before ptr words) s = .next (s.capEnd (s.capSoFar stored)
        (if s.on URX.CAP_CFG_RING then min before (s.capSoFar stored) else 0) ptr words) := by
      change execCapStop stored before ptr words s = _
      rcases h with h | h <;> simp [execCapStop, State.capStop, State.on, h]
    have hended := s.capEnd_ended (s.capSoFar stored) (if s.on URX.CAP_CFG_RING then min before (s.capSoFar stored) else 0) ptr words
      hn hfit hsofar hp
    exact ⟨_, hexec, hended.done, hended.running, hended.armed, hended.ended, hended.count, hended.start, hended.untriggered,
      fun ht => (hended.triggered ht).2, hended.words, hended.regs, hended.mem⟩
  · change execCapStop stored before ptr words s = _
    simp [execCapStop, State.on, ha, hr]

end Sys2Proof.Machine
end

section
/-! PROOFS. R106, R109, R110 to R118, R123: the receive chains' nullers and their registers. -/

namespace Sys2Proof.Machine

open Sys2Proof

theorem unsignedOf_lt (w : Nat) (x : Int) : unsignedOf w x < 2 ^ w := by
  unfold unsignedOf
  have := Int.emod_nonneg x (show ((2 ^ w : Nat) : Int) ≠ 0 by positivity)
  have := Int.emod_lt_of_pos x (show (0 : Int) < ((2 ^ w : Nat) : Int) by positivity)
  omega

/-! ### Registers clear of a list -/

/-- The key of `f` under `k` is none of those of `l` under `n`. -/
def Fld.clear (f : Fld) (k : Nat) (l : List Fld) (n : Nat) : Prop := ∀ g ∈ l, f.key k ≠ g.key n

theorem Fld.clear_of_apart {f : Fld} {l : List Fld} (h : ∀ g ∈ l, f.apart g = true) (k n : Nat) : f.clear k l n :=
  fun g hg => Fld.key_ne_of_apart (h g hg) k n

theorem Fld.clear_of_below {f : Fld} {l : List Fld} (h : ∀ g ∈ l, f.below g = true) {k : Nat} (hk : k < f.count) (n : Nat) :
    f.clear k l n := fun g hg => Nat.ne_of_lt (Fld.key_lt_of_below (h g hg) hk n)

section
variable {s : State} {f g : Fld} {k n : Nat} {l : List Fld}

theorem State.get_set_clear (h : f.clear k l n) (hg : g ∈ l) (v : Nat) : (s.set g v n).get f k = s.get f k :=
  State.get_set_ne s g f v n k (h g hg)

theorem State.get_bump_clear {c : Fld} (h : f.clear k l n) (hc : c ∈ l) (hg : g ∈ l) (j : Nat) :
    (s.bump c g n j).get f k = s.get f k := State.get_bump_ne s (h c hc) (h g hg) j

@[simp] theorem State.get_setUrx (s : State) (f : Fld) (k n : Nat) (u : UrxChain) : (s.setUrx n u).get f k = s.get f k := rfl

end

/-! ### JAM and DEPTH -/

section
variable (s : State) (ch : Nat)

theorem State.get_jamReport {f : Fld} {k : Nat} (h : f.clear k [URX.JAM_VALUE, URX.CNV_MON_DEPTH] ch) :
    (s.jamReport ch).get f k = s.get f k := by
  unfold State.jamReport
  extract_lets i q r
  rw [State.get_set_clear h (by decide), State.get_set_clear h (by decide)]
  by_cases hz : (vecSq i q == 0) = true
  · simp only [r, hz, if_true]; rfl
  · simp only [r, hz, Bool.false_eq_true, if_false]

/-- JAM follows from the vector, unless that is 0 (R110). -/
theorem State.jam_jamReport (h : vecSq (s.get URX.CNV_VEC_VEC_I ch) (s.get URX.CNV_VEC_VEC_Q ch) ≠ 0) :
    (s.jamReport ch).get URX.JAM_VALUE ch = unsignedOf 16 (jamOf (s.get URX.CNV_CTRL_CRS ch) (s.get URX.CNV_VEC_VEC_I ch)
      (s.get URX.CNV_VEC_VEC_Q ch)) := by
  unfold State.jamReport
  extract_lets i q r
  have hr : r = (unsignedOf 16 (jamOf (s.get URX.CNV_CTRL_CRS ch) i q), s) := by
    simp only [r]; rw [if_neg (by simpa using h)]
  rw [hr, State.get_set_apart _ (by decide)]
  exact State.get_set_fits _ (unsignedOf_lt 16 _)

theorem State.mem_jamReport : (s.jamReport ch).mem = s.mem := ((RxSide.refl s).jamReport ch).mem

end

/-! ### A measurement -/

/-- The registers of a vector. -/
def vecFlds : List Fld := [URX.CNV_CTRL_CRS, URX.CNV_VEC_VEC_I, URX.CNV_VEC_VEC_Q]

/-- What a measurement leaves on the chain (R110, R112, R113). -/
structure Measured (s t : State) (ch resid crs i q : Nat) : Prop where
  resid : t.get URX.CNV_MON_RESID ch = resid
  taken : s.loopRuns ch = true → s.vecLegal ch crs i q = true → t.get URX.CNV_CTRL_CRS ch = crs ∧ t.get URX.CNV_VEC_VEC_I ch = i ∧
    t.get URX.CNV_VEC_VEC_Q ch = q ∧ (vecSq i q ≠ 0 → t.get URX.JAM_VALUE ch = unsignedOf 16 (jamOf crs i q))
  kept : s.loopRuns ch = false → t.get URX.CNV_CTRL_CRS ch = s.get URX.CNV_CTRL_CRS ch ∧
    t.get URX.CNV_VEC_VEC_I ch = s.get URX.CNV_VEC_VEC_I ch ∧ t.get URX.CNV_VEC_VEC_Q ch = s.get URX.CNV_VEC_VEC_Q ch
  mem : t.mem = s.mem

/-- The registers that a measurement writes. -/
def measuredFlds : List Fld := vecFlds ++ [URX.CNV_MON_RESID, URX.JAM_VALUE, URX.CNV_MON_DEPTH]

section
variable {s t : State} {ch resid crs i q : Nat}

/-- A register that a measurement does not write may be written after it. -/
theorem Measured.set (h : Measured s t ch resid crs i q) {f : Fld} (hf : ∀ g ∈ measuredFlds, g.apart f = true) (v k : Nat) :
    Measured s (t.set f v k) ch resid crs i q := by
  have hget : ∀ g ∈ measuredFlds, (t.set f v k).get g ch = t.get g ch := fun g hg => State.get_set_apart _ (hf g hg) v
  have hresid := hget URX.CNV_MON_RESID (by decide)
  have hcrs := hget URX.CNV_CTRL_CRS (by decide)
  have hi := hget URX.CNV_VEC_VEC_I (by decide)
  have hq := hget URX.CNV_VEC_VEC_Q (by decide)
  have hjam := hget URX.JAM_VALUE (by decide)
  exact ⟨hresid.trans h.resid, fun h1 h2 => by rw [hcrs, hi, hq, hjam]; exact h.taken h1 h2,
    fun h1 => by rw [hcrs, hi, hq]; exact h.kept h1, h.mem⟩

theorem Measured.setUrx (h : Measured s t ch resid crs i q) (k : Nat) (u : UrxChain) : Measured s (t.setUrx k u) ch resid crs i q :=
  ⟨h.resid, h.taken, h.kept, h.mem⟩

theorem Measured.setRst (h : Measured s t ch resid crs i q) (k st : Nat) : Measured s (t.setRst k st) ch resid crs i q := by
  unfold State.setRst
  split
  · exact h
  · exact (h.set (by decide) _ _).set (by decide) _ _

theorem State.mem_rxMeasure (s : State) (ch resid crs i q : Nat) : (s.rxMeasure ch resid crs i q).mem = s.mem := by
  refine ((RxSide.refl _).jamReport ch).mem.trans ?_
  rw [State.set_mem]
  split
  · rfl
  · rfl

theorem State.get_rxMeasure (s : State) (ch resid crs i q : Nat) {f : Fld} {k : Nat} (h : f.clear k measuredFlds ch) :
    (s.rxMeasure ch resid crs i q).get f k = s.get f k := by
  have hvec : ∀ u : State, (u.setVec ch crs i q).get f k = u.get f k := fun u => by
    rw [State.setVec, State.get_set_clear h (by decide), State.get_set_clear h (by decide), State.get_set_clear h (by decide)]
  have hjam : f.clear k [URX.JAM_VALUE, URX.CNV_MON_DEPTH] ch := fun g hg => h g (by simp [measuredFlds] at hg ⊢; tauto)
  rw [State.rxMeasure, State.get_jamReport _ _ hjam, State.get_set_clear h (by decide)]
  split
  · exact hvec s
  · rfl

theorem State.setVec_get (s : State) (ch : Nat) {crs i q : Nat} (hcrs : crs < 4) (hi : i < 4096) (hq : q < 4096) :
    (s.setVec ch crs i q).get URX.CNV_CTRL_CRS ch = crs ∧ (s.setVec ch crs i q).get URX.CNV_VEC_VEC_I ch = i ∧
      (s.setVec ch crs i q).get URX.CNV_VEC_VEC_Q ch = q := by
  have hc : crs < 2 ^ URX.CNV_CTRL_CRS.width := hcrs
  have hi' : i < 2 ^ URX.CNV_VEC_VEC_I.width := hi
  have hq' : q < 2 ^ URX.CNV_VEC_VEC_Q.width := hq
  refine ⟨?_, ?_, ?_⟩ <;>
    simp (disch := first | decide | assumption) only [State.setVec, State.get_set_apart, State.get_set_fits]

/-- A measurement of a chain, its figures within their registers (R110, R112, R113). -/
theorem State.rxMeasure_measured (s : State) (ch : Nat) {resid crs i q : Nat} (hr : resid < 65536) (hi : i < 4096) (hq : q < 4096) :
    Measured s (s.rxMeasure ch resid crs i q) ch resid crs i q := by
  have hr' : resid < 2 ^ URX.CNV_MON_RESID.width := hr
  have hmeas : ∀ u : State, ∀ f, f ∈ vecFlds → ((u.set URX.CNV_MON_RESID resid ch).jamReport ch).get f ch = u.get f ch := by
    intro u f hf
    have hap : ∀ g ∈ vecFlds, (∀ j ∈ [URX.JAM_VALUE, URX.CNV_MON_DEPTH], g.apart j = true) ∧ g.apart URX.CNV_MON_RESID = true := by
      decide
    obtain ⟨h1, h2⟩ := hap f hf
    rw [State.get_jamReport _ _ (Fld.clear_of_apart h1 _ _), State.get_set_apart _ h2]
  refine ⟨?_, fun hloop hlegal => ?_, fun hloop => ?_, ?_⟩
  · rw [State.rxMeasure, State.get_jamReport _ _ (Fld.clear_of_apart (by decide) _ _), State.get_set_fits _ hr']
  · have hcrs : crs < 4 := by
      simp only [State.vecLegal, Bool.and_eq_true, decide_eq_true_eq] at hlegal
      exact hlegal.1.2
    obtain ⟨hc, hvi, hvq⟩ := s.setVec_get ch hcrs hi hq
    simp only [State.rxMeasure, hloop, hlegal, Bool.and_self, if_true]
    refine ⟨(hmeas _ _ (by decide)).trans hc, (hmeas _ _ (by decide)).trans hvi, (hmeas _ _ (by decide)).trans hvq, fun hsq => ?_⟩
    rw [State.jam_jamReport] <;> simp (disch := decide) only [State.get_set_apart, hc, hvi, hvq]
    exact hsq
  · simp only [State.rxMeasure, hloop, Bool.false_and, Bool.false_eq_true, if_false]
    exact ⟨hmeas _ _ (by decide), hmeas _ _ (by decide), hmeas _ _ (by decide)⟩
  · rw [State.rxMeasure, State.mem_jamReport]
    change (if _ then _ else _ : State).mem = _
    split <;> rfl

end

/-! ### The hold policy -/

section
variable (s : State) (ch : Nat)

theorem State.setRst_state (st : Nat) (h : st < 8) : (s.setRst ch st).get URX.STATE_STATE ch = st := by
  have h' : st < 2 ^ URX.STATE_STATE.width := h
  unfold State.setRst
  split
  · next heq => simpa [State.rst] using heq
  · rw [State.get_set_apart _ (by decide), State.get_set_fits _ h']

theorem State.get_setRst {f : Fld} {k : Nat} (h : f.clear k [URX.STATE_STATE, URX.STATUS_STATE_CHG] ch) (st : Nat) :
    (s.setRst ch st).get f k = s.get f k := by
  unfold State.setRst
  split
  · rfl
  · rw [State.get_set_clear h (by decide), State.get_set_clear h (by decide)]

/-- The registers that the policy writes. -/
def policyFlds : List Fld := [URX.STATE_EXCL, URX.STATE_NULL_READY, URX.STATE_STATE, URX.STATUS_STATE_CHG]

theorem State.get_rxPolicy {f : Fld} {k : Nat} (h : f.clear k policyFlds ch) : (s.rxPolicy ch).get f k = s.get f k := by
  have h1 : ∀ u : State, (u.set URX.STATE_EXCL 1 ch).get f k = u.get f k := fun u => State.get_set_clear h (by decide) _
  unfold State.rxPolicy
  dsimp only
  split
  · rfl
  · split
    · rw [State.rxIdle, State.get_setRst _ _ fun g hg => h g (by simp [policyFlds] at hg ⊢; tauto),
        State.get_set_clear h (by decide)]
      exact h1 s
    · exact h1 s

theorem State.rxPolicy_state : (s.rxPolicy ch).get URX.STATE_STATE ch =
    if s.get URX.HOLD_CFG_POLICY = 2 then 1 else s.get URX.STATE_STATE ch := by
  unfold State.rxPolicy
  dsimp only
  by_cases h0 : s.get URX.HOLD_CFG_POLICY = 0
  · simp [h0]
  · by_cases h2 : s.get URX.HOLD_CFG_POLICY = 2
    · simp only [h2, beq_self_eq_true, if_true]
      exact State.setRst_state _ _ _ (by decide)
    · simp only [h0, h2, beq_iff_eq, if_false]
      exact State.get_set_apart s (f := URX.STATE_EXCL) (by decide) 1

theorem State.rxPolicy_excl : (s.rxPolicy ch).get URX.STATE_EXCL ch =
    if s.get URX.HOLD_CFG_POLICY = 0 then s.get URX.STATE_EXCL ch else 1 := by
  unfold State.rxPolicy
  dsimp only
  by_cases h0 : s.get URX.HOLD_CFG_POLICY = 0
  · simp [h0]
  · simp only [h0, beq_iff_eq, if_false]
    have hset : (s.set URX.STATE_EXCL 1 ch).get URX.STATE_EXCL ch = 1 := State.get_set_fits _ (by decide)
    split
    · rw [State.rxIdle, State.get_setRst _ _ (Fld.clear_of_apart (by decide) _ _), State.get_set_apart _ (by decide)]
      exact hset
    · exact hset

theorem State.rxPolicy_nullReady (h : s.get URX.STATE_NULL_READY ch = 0) : (s.rxPolicy ch).get URX.STATE_NULL_READY ch = 0 := by
  have hkeep : (s.set URX.STATE_EXCL 1 ch).get URX.STATE_NULL_READY ch = 0 := (State.get_set_apart _ (by decide) _).trans h
  unfold State.rxPolicy
  dsimp only
  split
  · exact h
  · split
    · rw [State.rxIdle, State.get_setRst _ _ (Fld.clear_of_apart (by decide) _ _)]
      exact State.get_set_fits _ (by decide)
    · exact hkeep

theorem Measured.rxPolicy {t : State} {resid crs i q : Nat} (h : Measured s t ch resid crs i q) (k : Nat) :
    Measured s (t.rxPolicy k) ch resid crs i q := by
  have h1 : Measured s ((t.set URX.STATE_EXCL 1 k).setUrx k { t.urxAt k with rejoined := false }) ch resid crs i q :=
    (h.set (by decide) _ _).setUrx _ _
  unfold State.rxPolicy
  dsimp only
  split
  · exact h
  · split
    · exact (((h1.setUrx _ _).setUrx _ _).set (by decide) _ _).setRst _ _
    · exact h1

end

/-! ### The commands -/

section
variable {s : State} {ch : Nat}

theorem State.rxNulling_of (h : s.get URX.STATE_STATE ch = 2 ∨ s.get URX.STATE_STATE ch = 3 ∨ s.get URX.STATE_STATE ch = 4) :
    s.rxNulling ch = true := by
  rcases h with h | h | h <;> simp [State.rxNulling, State.rst, h, rxACQUIRE, rxTRACK, rxCW]

/-- The chain after its first hold: NULL_READY, and TRACK out of ACQUIRE (R106, R114). -/
theorem firstHold_state (t : State) (hst : t.get URX.STATE_STATE ch = s.get URX.STATE_STATE ch)
    (h : s.get URX.STATE_STATE ch = 2 ∨ s.get URX.STATE_STATE ch = 3 ∨ s.get URX.STATE_STATE ch = 4) :
    (if s.rst ch == rxACQUIRE then t.setRst ch rxTRACK else t).get URX.STATE_STATE ch =
      if s.get URX.STATE_STATE ch = 4 then 4 else 3 := by
  rcases h with h | h | h
  · simpa [State.rst, h, rxACQUIRE, rxTRACK] using State.setRst_state t ch 3 (by decide)
  · simpa [State.rst, h, rxACQUIRE] using hst
  · simpa [State.rst, h, rxACQUIRE] using hst

theorem exec_nullFirstHold {resid crs vi vq : Nat} (hr : resid < 65536) (hi : vi < 4096) (hq : vq < 4096)
    (hst : s.get URX.STATE_STATE ch = 2 ∨ s.get URX.STATE_STATE ch = 3 ∨ s.get URX.STATE_STATE ch = 4)
    (hever : (s.urxAt ch).everHeld = false) (hlim : sint 16 resid ≤ sint 16 (s.get URX.HOLD_CFG_LIM)) :
    ∃ t, exec (.nullFirstHold ch resid crs vi vq) s = .next t ∧ t.get URX.STATE_NULL_READY ch = 1 ∧
      t.get URX.STATE_STATE ch = (if s.get URX.STATE_STATE ch = 4 then 4 else 3) ∧ Measured s t ch resid crs vi vq := by
  have hmeas := s.rxMeasure_measured ch (crs := crs) hr hi hq
  have hstate := s.get_rxMeasure ch resid crs vi vq (f := URX.STATE_STATE) (Fld.clear_of_apart (by decide) ch _)
  have hexec : exec (.nullFirstHold ch resid crs vi vq) s = execNullFirstHold ch resid crs vi vq s := rfl
  rw [hexec, execNullFirstHold, if_pos (by simp [State.rxNulling_of hst, hever, hlim])]
  generalize s.rxMeasure ch resid crs vi vq = m at *
  generalize hu : (m.set URX.STATE_NULL_READY 1 ch).setUrx ch
    { (m.set URX.STATE_NULL_READY 1 ch).urxAt ch with everHeld := true, rejoined := true } = u
  have hready : u.get URX.STATE_NULL_READY ch = 1 := by rw [← hu, State.get_setUrx, State.get_set_fits _ (by decide)]
  have hust : u.get URX.STATE_STATE ch = s.get URX.STATE_STATE ch := by
    rw [← hu, State.get_setUrx, State.get_set_apart _ (by decide), hstate]
  have hum : Measured s u ch resid crs vi vq := by rw [← hu]; exact (hmeas.set (by decide) _ _).setUrx _ _
  dsimp only
  rw [hu]
  refine ⟨_, rfl, ?_, firstHold_state u hust hst, ?_⟩
  · split
    · exact (State.get_setRst _ _ (Fld.clear_of_apart (by decide) _ _) _).trans hready
    · exact hready
  · split
    · exact hum.setRst _ _
    · exact hum

/-- The registers that a lost hold writes before the policy. -/
def lostFlds : List Fld := [URX.STATUS_HOLD_LOST, URX.CNT_HOLD_COUNT, URX.STATUS_SAT, URX.STATE_NULL_READY] ++ measuredFlds

theorem exec_holdLost {resid crs vi vq : Nat} (hr : resid < 65536)
    (hst : s.get URX.STATE_STATE ch = 3 ∨ s.get URX.STATE_STATE ch = 2 ∨ s.get URX.STATE_STATE ch = 4)
    (hready : s.get URX.STATE_NULL_READY ch = 1) (hlim : sint 16 (s.get URX.HOLD_CFG_LIM) < sint 16 resid)
    (hcount : s.get URX.CNT_HOLD_COUNT ch < 0xFFFFFFFF) :
    ∃ t, exec (.holdLost ch resid crs vi vq) s = .next t ∧ t.get URX.STATE_NULL_READY ch = 0 ∧ t.get URX.STATUS_HOLD_LOST ch = 1 ∧
      t.get URX.CNT_HOLD_COUNT ch = s.get URX.CNT_HOLD_COUNT ch + 1 ∧ t.get URX.CNV_MON_RESID ch = resid ∧
      t.get URX.STATE_STATE ch = (if s.get URX.HOLD_CFG_POLICY = 2 then 1 else s.get URX.STATE_STATE ch) ∧
      t.get URX.STATE_EXCL ch = (if s.get URX.HOLD_CFG_POLICY = 0 then s.get URX.STATE_EXCL ch else 1) ∧ t.mem = s.mem := by
  have hnull : s.rxNulling ch = true := State.rxNulling_of (by tauto)
  have hmem : (((((s.set URX.STATUS_HOLD_LOST 1 ch).bump URX.CNT_HOLD_COUNT URX.STATUS_SAT ch).rxMeasure ch resid crs vi vq).set
      URX.STATE_NULL_READY 0 ch).rxPolicy ch).mem = s.mem := by
    rw [((RxSide.refl _).rxPolicy ch).mem, State.set_mem, State.mem_rxMeasure, State.bump_mem, State.set_mem]
  have hexec : exec (.holdLost ch resid crs vi vq) s = execHoldLost ch resid crs vi vq s := rfl
  rw [hexec, execHoldLost, if_neg (by omega), if_pos (by simp [hnull, State.on, hready])]
  have hkeep : ∀ (f : Fld) (k : Nat), f.clear k lostFlds ch →
      (((((s.set URX.STATUS_HOLD_LOST 1 ch).bump URX.CNT_HOLD_COUNT URX.STATUS_SAT ch).rxMeasure ch resid crs vi vq).set
        URX.STATE_NULL_READY 0 ch)).get f k = s.get f k := fun f k h => by
    rw [State.get_set_clear h (by decide), State.get_rxMeasure _ _ _ _ _ _ fun g hg => h g (by simp [lostFlds, hg]),
      State.get_bump_clear h (by decide) (by decide), State.get_set_clear h (by decide)]
  have hresid : resid < 2 ^ URX.CNV_MON_RESID.width := hr
  refine ⟨_, rfl, ?_, ?_, ?_, ?_, ?_, ?_, hmem⟩
  · exact State.rxPolicy_nullReady _ _ (State.get_set_fits _ (by decide))
  · rw [State.get_rxPolicy _ _ (Fld.clear_of_apart (by decide) _ _), State.get_set_apart _ (by decide), State.get_rxMeasure _ _ _ _ _ _ (Fld.clear_of_apart (by decide) _ _),
      State.get_bump_apart _ (by decide) (by decide), State.get_set_fits _ (by decide)]
  · have hc : (s.set URX.STATUS_HOLD_LOST 1 ch).get URX.CNT_HOLD_COUNT ch = s.get URX.CNT_HOLD_COUNT ch :=
      State.get_set_apart _ (by decide) _
    rw [State.get_rxPolicy _ _ (Fld.clear_of_apart (by decide) _ _), State.get_set_apart _ (by decide), State.get_rxMeasure _ _ _ _ _ _ (Fld.clear_of_apart (by decide) _ _),
      State.get_bump_same _ (by rw [hc]; exact hcount) (by decide), hc]
  · rw [State.get_rxPolicy _ _ (Fld.clear_of_apart (by decide) _ _), State.get_set_apart _ (by decide), State.rxMeasure,
      State.get_jamReport _ _ (Fld.clear_of_apart (by decide) _ _), State.get_set_fits _ hresid]
  · rw [State.rxPolicy_state, hkeep _ _ (Fld.clear_of_below (by decide) (by decide) _), hkeep _ _ (Fld.clear_of_apart (by decide) _ _)]
  · rw [State.rxPolicy_excl, hkeep _ _ (Fld.clear_of_below (by decide) (by decide) _), hkeep _ _ (Fld.clear_of_apart (by decide) _ _)]

theorem exec_rejoin {resid crs vi vq : Nat} (hr : resid < 65536)
    (hst : s.get URX.STATE_STATE ch = 3 ∨ s.get URX.STATE_STATE ch = 4) (hready : s.get URX.STATE_NULL_READY ch = 0)
    (hlim : sint 16 resid ≤ sint 16 (s.get URX.HOLD_CFG_LIM) - 256 * (s.get URX.HOLD_CFG_HYST : Nat)) :
    ∃ t, exec (.rejoin ch resid crs vi vq) s = .next t ∧ t.get URX.STATE_NULL_READY ch = 1 ∧ t.get URX.STATUS_REJOIN ch = 1 ∧
      t.get URX.CNV_MON_RESID ch = resid ∧ t.get URX.STATE_STATE ch = s.get URX.STATE_STATE ch ∧ (t.urxAt ch).rejoined = true ∧
      t.mem = s.mem := by
  have hst' : (s.rst ch == rxTRACK || s.rst ch == rxCW) = true := by
    rcases hst with h | h <;> simp [State.rst, h, rxTRACK, rxCW]
  have hresid : resid < 2 ^ URX.CNV_MON_RESID.width := hr
  have hmr : (s.rxMeasure ch resid crs vi vq).get URX.CNV_MON_RESID ch = resid := by
    rw [State.rxMeasure, State.get_jamReport _ _ (Fld.clear_of_apart (by decide) _ _), State.get_set_fits _ hresid]
  have hms := s.get_rxMeasure ch resid crs vi vq (f := URX.STATE_STATE) (Fld.clear_of_apart (by decide) ch _)
  have hexec : exec (.rejoin ch resid crs vi vq) s = execRejoin ch resid crs vi vq s := rfl
  rw [hexec, execRejoin, if_pos (by simp only [hst', State.on, hready]; simpa using hlim)]
  have hmem := s.mem_rxMeasure ch resid crs vi vq
  generalize s.rxMeasure ch resid crs vi vq = m at *
  refine ⟨_, rfl, ?_, ?_, ?_, ?_, ?_, hmem⟩
  · rw [State.get_setUrx, State.get_set_apart _ (by decide), State.get_set_fits _ (by decide)]
  · rw [State.get_setUrx, State.get_set_fits _ (by decide)]
  · rw [State.get_setUrx, State.get_set_apart _ (by decide), State.get_set_apart _ (by decide), hmr]
  · rw [State.get_setUrx, State.get_set_apart _ (by decide), State.get_set_apart _ (by decide), hms]
  · rw [State.urxAt_setUrx_same]

theorem exec_overload (hch : ch < 16) (hst : s.get URX.STATE_STATE ch ≠ 0) (hcount : s.get URX.CNT_OVL_COUNT ch < 0xFFFFFFFF) :
    ∃ t, exec (.overload ch) s = .next t ∧ t.get URX.STATUS_OVERLOAD ch = 1 ∧ t.bit URX.OVL_SUM_OVL ch = true ∧
      t.get URX.CNT_OVL_COUNT ch = s.get URX.CNT_OVL_COUNT ch + 1 ∧
      t.get URX.STATE_STATE ch = (if s.get URX.HOLD_CFG_POLICY = 2 then 1 else s.get URX.STATE_STATE ch) ∧
      t.get URX.STATE_EXCL ch = (if s.get URX.HOLD_CFG_POLICY = 0 then s.get URX.STATE_EXCL ch else 1) ∧ t.mem = s.mem := by
  have hoff : (s.rst ch == rxOFF) = false := by simpa [State.rst, rxOFF] using hst
  have hexec : exec (.overload ch) s = execOverload ch s := rfl
  rw [hexec, execOverload, hoff]
  simp only [Bool.false_eq_true, if_false]
  generalize ({ ((s.set URX.STATUS_OVERLOAD 1 ch).bump URX.CNT_OVL_COUNT URX.STATUS_SAT ch).urxAt ch with
    ovlNow := true
    ovlStop := if (s.on URX.STATE_NULL_READY ch && s.get URX.HOLD_CFG_POLICY == 2) = true then some s.now
      else (((s.set URX.STATUS_OVERLOAD 1 ch).bump URX.CNT_OVL_COUNT URX.STATUS_SAT ch).urxAt ch).ovlStop } : UrxChain) = x
  have hside : RxSide s (((((s.set URX.STATUS_OVERLOAD 1 ch).bump URX.CNT_OVL_COUNT URX.STATUS_SAT ch).setUrx ch x).setBit
      URX.OVL_SUM_OVL ch true).rxPolicy ch) :=
    ((((((RxSide.refl s).set (by decide) _ _).bump (by decide) (by decide) _ _).setUrx _ _).setBit (by decide) _ _ _).rxPolicy _)
  have hkeep : ∀ (f : Fld) (k : Nat), f.clear k [URX.STATUS_OVERLOAD, URX.CNT_OVL_COUNT, URX.STATUS_SAT] ch →
      f.key k ≠ URX.OVL_SUM_OVL.key 0 →
      ((((s.set URX.STATUS_OVERLOAD 1 ch).bump URX.CNT_OVL_COUNT URX.STATUS_SAT ch).setUrx ch x).setBit URX.OVL_SUM_OVL ch true).get f k =
        s.get f k := fun f k h hs => by
    rw [State.get_setBit_ne _ _ _ _ _ _ _ hs, State.get_setUrx, State.get_bump_clear h (by decide) (by decide),
      State.get_set_clear h (by decide)]
  have hsum : ∀ g : Fld, URX.OVL_SUM_OVL.below g = true → g.key ch ≠ URX.OVL_SUM_OVL.key 0 := fun g hg =>
    Nat.ne_of_gt (Fld.key_lt_of_below hg (by decide) ch)
  have hpolicy := hkeep URX.HOLD_CFG_POLICY 0 (Fld.clear_of_below (by decide) (by decide) _) (by decide)
  have hcov : (s.set URX.STATUS_OVERLOAD 1 ch).get URX.CNT_OVL_COUNT ch = s.get URX.CNT_OVL_COUNT ch :=
    State.get_set_apart _ (by decide) _
  refine ⟨_, rfl, ?_, ?_, ?_, ?_, ?_, hside.mem⟩
  · rw [State.get_rxPolicy _ _ (Fld.clear_of_apart (by decide) _ _), State.get_setBit_ne _ _ _ _ _ _ _ (hsum _ (by decide)),
      State.get_setUrx, State.get_bump_apart _ (by decide) (by decide), State.get_set_fits _ (by decide)]
  · rw [State.bit, State.get_rxPolicy _ _ (Fld.clear_of_below (by decide) (by decide) _)]
    exact State.bit_setBit_true _ hch 0
  · rw [State.get_rxPolicy _ _ (Fld.clear_of_apart (by decide) _ _), State.get_setBit_ne _ _ _ _ _ _ _ (hsum _ (by decide)),
      State.get_setUrx, State.get_bump_same _ (by rw [hcov]; exact hcount) (by decide), hcov]
  · rw [State.rxPolicy_state, hpolicy, hkeep _ _ (Fld.clear_of_apart (by decide) _ _) (hsum _ (by decide))]
  · rw [State.rxPolicy_excl, hpolicy, hkeep _ _ (Fld.clear_of_apart (by decide) _ _) (hsum _ (by decide))]

theorem vecSq_ne_zero_of_mag {i q : Nat} (h : vecMag i q = 2047) : vecSq i q ≠ 0 := by
  intro h0
  simp [vecMag, h0] at h

theorem exec_cnvSat {vi vq resid : Nat} (hi : vi < 4096) (hq : vq < 4096)
    (hst : s.get URX.STATE_STATE ch = 3 ∨ s.get URX.STATE_STATE ch = 2 ∨ s.get URX.STATE_STATE ch = 4) (hloop : s.loopRuns ch = true)
    (hlegal : s.vecLegal ch 0 vi vq = true) (hmag : vecMag vi vq = 2047) :
    ∃ t, exec (.cnvSat ch vi vq resid) s = .next t ∧ t.get URX.STATUS_CNV_SAT ch = 1 ∧ t.get URX.CNV_CTRL_CRS ch = 0 ∧
      t.get URX.CNV_VEC_VEC_I ch = vi ∧ t.get URX.CNV_VEC_VEC_Q ch = vq ∧
      t.get URX.JAM_VALUE ch = unsignedOf 16 (jamOf 0 vi vq) ∧ t.mem = s.mem := by
  have hnull : s.rxNulling ch = true := State.rxNulling_of (by tauto)
  have hcut : s.rxMeasure ch resid 0 vi vq = s.rxMeasure ch (resid % 65536) 0 vi vq := by
    have hset : ∀ u : State, u.set URX.CNV_MON_RESID resid ch = u.set URX.CNV_MON_RESID (resid % 65536) ch := fun u => by
      simp only [State.set, show resid % 65536 % 2 ^ URX.CNV_MON_RESID.width = resid % 2 ^ URX.CNV_MON_RESID.width from
        Nat.mod_mod _ _]
    rw [State.rxMeasure, State.rxMeasure, hset]
  have hmeas := s.rxMeasure_measured ch (resid := resid % 65536) (crs := 0) (Nat.mod_lt _ (by decide)) hi hq
  rw [← hcut] at hmeas
  obtain ⟨hcrs, hvi, hvq, hjam⟩ := hmeas.taken hloop hlegal
  have hexec : exec (.cnvSat ch vi vq resid) s = execCnvSat ch vi vq resid s := rfl
  rw [hexec, execCnvSat]
  rw [if_pos (by simp [hnull, hcrs, hvi, hvq, hmag])]
  refine ⟨_, rfl, State.get_set_fits _ (by decide), ?_, ?_, ?_, ?_, hmeas.mem⟩ <;> rw [State.get_set_apart _ (by decide)]
  · exact hcrs
  · exact hvi
  · exact hvq
  · exact hjam (vecSq_ne_zero_of_mag hmag)

theorem exec_cnvVecWrite (m : Master) (v : Nat) (hfreeze : s.get URX.CNV_CTRL_FREEZE ch = 1) (hsheaf : s.rxSheaf ch = none) :
    ∃ t, exec (.cnvVecWrite ch m v) s = .next t ∧ t.get URX.CNV_VEC_VEC_I ch = bits v 11 0 ∧ t.get URX.CNV_VEC_VEC_Q ch = bits v 27 16 ∧
      (vecSq (bits v 11 0) (bits v 27 16) ≠ 0 → t.get URX.JAM_VALUE ch =
        unsignedOf 16 (jamOf (s.get URX.CNV_CTRL_CRS ch) (bits v 11 0) (bits v 27 16))) ∧ t.mem = s.mem ∧
      regsSame s t [URX.CNV_VEC_VEC_I.key ch, URX.CNV_VEC_VEC_Q.key ch, URX.JAM_VALUE.key ch, URX.CNV_MON_DEPTH.key ch] := by
  have hi : bits v 11 0 < 2 ^ URX.CNV_VEC_VEC_I.width := Nat.mod_lt _ (by decide)
  have hq : bits v 27 16 < 2 ^ URX.CNV_VEC_VEC_Q.width := Nat.mod_lt _ (by decide)
  have hexec : exec (.cnvVecWrite ch m v) s =
      .next (((s.set URX.CNV_VEC_VEC_Q (bits v 27 16) ch).set URX.CNV_VEC_VEC_I (bits v 11 0) ch).jamReport ch) := by
    change Host.Outcome.next (s.rxVecWrite ch v) = _
    rw [State.rxVecWrite, if_pos (by simp [State.on, hfreeze, hsheaf])]
  have hvi : ((s.set URX.CNV_VEC_VEC_Q (bits v 27 16) ch).set URX.CNV_VEC_VEC_I (bits v 11 0) ch).get URX.CNV_VEC_VEC_I ch = bits v 11 0 :=
    State.get_set_fits _ hi
  have hvq : ((s.set URX.CNV_VEC_VEC_Q (bits v 27 16) ch).set URX.CNV_VEC_VEC_I (bits v 11 0) ch).get URX.CNV_VEC_VEC_Q ch =
      bits v 27 16 := by rw [State.get_set_apart _ (by decide), State.get_set_fits _ hq]
  have hcrs : ((s.set URX.CNV_VEC_VEC_Q (bits v 27 16) ch).set URX.CNV_VEC_VEC_I (bits v 11 0) ch).get URX.CNV_CTRL_CRS ch =
      s.get URX.CNV_CTRL_CRS ch := by rw [State.get_set_apart _ (by decide), State.get_set_apart _ (by decide)]
  refine ⟨_, hexec, ?_, ?_, fun hsq => ?_, State.mem_jamReport _ _, fun f k hk => ?_⟩
  · rw [State.get_jamReport _ _ (Fld.clear_of_apart (by decide) _ _), hvi]
  · rw [State.get_jamReport _ _ (Fld.clear_of_apart (by decide) _ _), hvq]
  · rw [State.jam_jamReport, hcrs, hvi, hvq]
    rw [hvi, hvq]; exact hsq
  · simp only [List.mem_cons, List.not_mem_nil, or_false, not_or] at hk
    obtain ⟨h1, h2, h3, h4⟩ := hk
    rw [State.get_jamReport _ _ (by simp [Fld.clear, h3, h4]), State.get_set_ne _ _ _ _ _ _ h1, State.get_set_ne _ _ _ _ _ _ h2]

theorem exec_foreignToneLock {fofs : Nat} (level : Nat) (hf : fofs < 65536) (hst : s.get URX.STATE_STATE ch = 5)
    (htrk : s.get URX.DIG_CFG_FTRK = 1) (hofs : (sint 16 fofs).natAbs ≤ 20000) :
    ∃ t, exec (.foreignToneLock ch fofs level) s = .next t ∧
      t.get URX.FOFS_VALUE ch = (if sint 16 level < -15360 then 0 else fofs) ∧ t.mem = s.mem ∧
      regsSame s t [URX.FOFS_VALUE.key ch] := by
  have hcarrier : (s.cfCarrier ch level).mem = s.mem ∧ (s.cfCarrier ch level).regs = s.regs := by
    unfold State.cfCarrier
    split
    · split <;> exact ⟨rfl, rfl⟩
    · exact ⟨rfl, rfl⟩
  have hexec : exec (.foreignToneLock ch fofs level) s = .next ((s.cfCarrier ch level).set URX.FOFS_VALUE
      (if sint 16 level < -15360 then 0 else fofs) ch) := by
    change execForeignToneLock ch fofs level s = _
    simp [execForeignToneLock, State.rst, hst, rxFOREIGN, State.on, htrk, hofs]
  refine ⟨_, hexec, State.get_set_fits _ ?_, hcarrier.1, fun f k hk => ?_⟩
  · split
    · decide
    · exact hf
  · rw [State.get_set_ne _ _ _ _ _ _ (by simpa using hk)]
    simp only [State.get, hcarrier.2]

end

/-- Settles O19: each event is its measurement, the policy and the bits it sets; each write its register or CMD_ERR. -/
theorem nullersAndReceiveChains : Obligations.NullersAndReceiveChains := by
  unfold Obligations.NullersAndReceiveChains
  refine ⟨fun s ch resid crs vi vq hch hr hi hq hst hever hlim => ?_,
    fun s ch resid crs vi vq hch hr hst hready hlim hcount => exec_holdLost hr hst hready hlim hcount,
    fun s ch resid crs vi vq hlim => ?_, fun s ch resid crs vi vq hch hr hst hready hlim => exec_rejoin hr hst hready hlim,
    fun s ch hch hst hcount => exec_overload hch hst hcount,
    fun s ch vi vq resid hch hi hq hst hloop hlegal hmag => exec_cnvSat hi hq hst hloop hlegal hmag,
    fun s ch vi vq resid hloop hnot => ?_, fun s ch m v hst => ⟨?_, ?_⟩, fun s ch m iq v hst => ?_,
    fun s ch m v hch hfreeze hsheaf => exec_cnvVecWrite m v hfreeze hsheaf, fun s ch m v h => ?_,
    fun s ch fofs level hf hst htrk hofs => exec_foreignToneLock level hf hst htrk hofs, fun s ch fofs level h => ?_⟩
  · obtain ⟨t, ht, hready, hstate, hmeas⟩ := exec_nullFirstHold (crs := crs) hr hi hq hst hever hlim
    exact ⟨t, ht, hready, hstate, hmeas.resid, hmeas.taken, hmeas.kept, hmeas.mem⟩
  · change execHoldLost ch resid crs vi vq s = _
    simp [execHoldLost, hlim]
  · change execCnvSat ch vi vq resid s = _
    have hkeep : ∀ f ∈ vecFlds, (s.rxMeasure ch resid 0 vi vq).get f ch = s.get f ch := by
      have hap : ∀ f ∈ vecFlds, ∀ g ∈ [URX.CNV_MON_RESID, URX.JAM_VALUE, URX.CNV_MON_DEPTH], f.apart g = true := by decide
      intro f hf
      have hclear := Fld.clear_of_apart (hap f hf) ch ch
      simp only [State.rxMeasure, hloop, Bool.false_and, Bool.false_eq_true, if_false]
      rw [State.get_jamReport _ _ fun g hg => hclear g (List.mem_cons_of_mem _ hg), State.get_set_clear hclear (by decide)]
    have hno : ¬(s.get URX.CNV_CTRL_CRS ch = 0 ∧ vecMag (s.get URX.CNV_VEC_VEC_I ch) (s.get URX.CNV_VEC_VEC_Q ch) = 2047) := by tauto
    unfold execCnvSat
    dsimp only
    rw [hkeep _ (by decide), hkeep _ (by decide), hkeep _ (by decide), if_neg]
    simp only [Bool.and_eq_true, beq_iff_eq]
    tauto
  · change Host.Outcome.next (s.rxTrim ch true v) = _
    simp [State.rxTrim, State.rst, rxIDLE, Nat.not_lt.2 hst]
  · change Host.Outcome.next (s.rxTrim ch false v) = _
    simp [State.rxTrim, State.rst, rxIDLE, Nat.not_lt.2 hst]
  · change Host.Outcome.next (s.rxTrim ch iq v) = _
    simp [State.rxTrim, State.rst, rxIDLE, hst]
  · change Host.Outcome.next (s.rxVecWrite ch v) = _
    rcases h with h | h
    · simp [State.rxVecWrite, State.on, h]
    · simp [State.rxVecWrite, h]
  · change execForeignToneLock ch fofs level s = _
    rcases h with h | h | h
    · simp [execForeignToneLock, State.rst, rxFOREIGN, h]
    · simp [execForeignToneLock, State.on, h]
    · simp [execForeignToneLock, Nat.not_le.2 h]

end Sys2Proof.Machine
end

section
/-! PROOFS. R69 to R72, R84: what each operation on a transmit chain leaves of the chain's registers and of its own state. -/

namespace Sys2Proof.Machine

open Sys2Proof

/-! ### Operations that the chain's own registers do not see -/

/-- A register of UTX, or of a block before it: no operation on a synthesizer, a sheaf or a sequencer writes it. -/
def Fld.upToTx (f : Fld) : Bool := f.below RFS.ID_BLOCK

theorem Fld.key_lt_rx {f : Fld} (h : f.upToTx = true) {k : Nat} (hk : k < f.count) : f.key k < rxKey :=
  Nat.lt_of_lt_of_le (Fld.key_lt_of_below h hk 0) (by decide)

section
variable (s : State) {f : Fld} {k : Nat} (hf : f.upToTx = true) (hk : k < f.count)
include hf hk

theorem State.get_set_rfs {g : Fld} (hg : RFS.ID_BLOCK.key 0 ≤ g.key 0) (v n : Nat) : (s.set g v n).get f k = s.get f k := by
  have h1 := Fld.key_lt_of_below hf hk 0
  have h2 := g.key_mono (Nat.zero_le n)
  exact State.get_set_ne _ _ _ _ _ _ (by omega)

theorem State.get_utxReport (n err : Nat) : (s.utxReport n err).get f k = s.get f k := by
  unfold State.utxReport
  dsimp only
  split
  · split
    · rw [((RxSide.refl _).rqsAnswer _ _ _).get (Fld.key_lt_rx hf hk)]; rfl
    · rfl
  · rfl

theorem State.get_rfsPower (m : Nat) : (s.rfsPower m).get f k = s.get f k := by
  unfold State.rfsPower
  extract_lets wanted
  split
  · split
    · exact s.get_set_rfs hf hk (by decide) _ _
    · rfl
  · rw [State.get_set_rfs _ hf hk (by decide), State.get_set_rfs _ hf hk (by decide)]
    rfl

theorem State.get_rfsRelease (m : Nat) : (s.rfsRelease m).get f k = s.get f k := by
  rw [State.rfsRelease, State.get_rfsPower _ hf hk]
  split <;> rfl

theorem State.get_utxWindow (n : Nat) (isOpen : Bool) : (s.utxWindow n isOpen).get f k = s.get f k :=
  ((RxSide.refl s).utxWindow n isOpen).get (Fld.key_lt_rx hf hk)

theorem State.get_utxReached (hwait : f.apart UTX.STATE_WAIT = true) (n : Nat) : (s.utxReached n).get f k = s.get f k := by
  unfold State.utxReached
  extract_lets u s1
  have h1 : s1.get f k = s.get f k := by
    simp only [s1]
    rw [State.get_utxReport _ hf hk, State.endWait, State.get_set_apart _ hwait]
    rfl
  split
  · rw [State.get_rfsRelease _ hf hk, h1]
  · exact h1
end

/-! ### The chain's own state -/

section
variable (s : State)

@[simp] theorem State.utxAt_setBit (f : Fld) (j : Nat) (b : Bool) (n k : Nat) : (s.setBit f j b n).utxAt k = s.utxAt k := rfl
@[simp] theorem State.utxAt_endWait (n k : Nat) : (s.endWait n).utxAt k = s.utxAt k := rfl
@[simp] theorem State.utxAt_setSynth (m k : Nat) (y : Synth) : (s.setSynth m y).utxAt k = s.utxAt k := rfl
@[simp] theorem State.utxAt_buckUpdate (k : Nat) : s.buckUpdate.utxAt k = s.utxAt k := rfl

theorem State.utxAt_setUtx_ne {n k : Nat} (h : k ≠ n) (u : UtxChain) : (s.setUtx n u).utxAt k = s.utxAt k := by
  simp [State.utxAt, State.setUtx, Tab.get_set_ne _ _ _ _ h]

@[simp] theorem State.utxAt_setUst (n st k : Nat) : (s.setUst n st).utxAt k = s.utxAt k := by
  unfold State.setUst
  split <;> rfl

@[simp] theorem State.utxAt_applyPwr (n k : Nat) : (s.applyPwr n).utxAt k = s.utxAt k := by
  unfold State.applyPwr
  extract_lets g i x a bias present
  simp only [State.utxAt_buckUpdate, State.utxAt_set]

@[simp] theorem State.utxAt_refreshPwr (n k : Nat) : (s.refreshPwr n).utxAt k = s.utxAt k := by
  unfold State.refreshPwr
  split
  · rfl
  · exact s.utxAt_applyPwr n k

@[simp] theorem State.utxAt_rfsPower (m k : Nat) : (s.rfsPower m).utxAt k = s.utxAt k := by
  unfold State.rfsPower
  extract_lets wanted
  split
  · split <;> rfl
  · rfl

@[simp] theorem State.utxAt_rfsRelease (m k : Nat) : (s.rfsRelease m).utxAt k = s.utxAt k := by
  rw [State.rfsRelease, State.utxAt_rfsPower]
  split <;> rfl

@[simp] theorem State.utxAt_utxWindow (n : Nat) (isOpen : Bool) (k : Nat) : (s.utxWindow n isOpen).utxAt k = s.utxAt k :=
  ((RxSide.refl s).utxWindow n isOpen).utxAt k

/-- An answer given leaves the chain with no RQS, and else as it was. -/
theorem State.utxAt_utxReport (n err : Nat) : (s.utxReport n err).utxAt n = { s.utxAt n with rqs := false } := by
  unfold State.utxReport
  dsimp only
  split
  · split
    · rw [((RxSide.refl _).rqsAnswer _ _ _).utxAt, State.utxAt_setUtx_same]
    · rw [State.utxAt_setUtx_same]
  · next h =>
    have hrqs : (s.utxAt n).rqs = false := by simpa using h
    rw [← hrqs]

theorem State.utxReached_want (n : Nat) : ((s.utxReached n).utxAt n).want = none := by
  unfold State.utxReached
  extract_lets u s1
  have h1 : (s1.utxAt n).want = none := by simp only [s1, State.utxAt_utxReport, State.utxAt_endWait, State.utxAt_setUtx_same]
  split
  · rw [State.utxAt_rfsRelease, h1]
  · exact h1
end

/-! ### The memory -/

namespace Beyond
variable {s t : State} (h : Beyond txKey s t)
include h

theorem rfsPower (m : Nat) : Beyond txKey s (t.rfsPower m) :=
  .ite (.ite (h.set (f := RFS.STATE_STATE) (by decide) _ _) h)
    (((h.withRadio _).set (f := RFS.STATE_STATE) (by decide) _ _).set (f := RFS.STATE_CAL_PENDING) (by decide) _ _)

theorem rfsRelease (m : Nat) : Beyond txKey s (t.rfsRelease m) := by
  have h1 : Beyond txKey s (if (t.fed m).all fun c => t.ust c == txOFF then t.setSynth m { t.synthAt m with byCommand := false } else t) :=
    .ite (h.withRadio _) h
  exact h1.rfsPower m

theorem applyPwr (n : Nat) : Beyond txKey s (t.applyPwr n) := by
  unfold State.applyPwr
  extract_lets g i x a bias present
  exact (((((((h.set (by decide) _ _).set (by decide) _ _).set (by decide) _ _).set (by decide) _ _).set (by decide) _ _).set
    (by decide) _ _).set (by decide) _ _).buckUpdate

theorem refreshPwr (n : Nat) : Beyond txKey s (t.refreshPwr n) := .ite h (h.applyPwr n)

theorem utxWindow (n : Nat) (isOpen : Bool) : Beyond txKey s (t.utxWindow n isOpen) := h.rxSide ((RxSide.refl t).utxWindow n isOpen)

theorem utxReached (n : Nat) : Beyond txKey s (t.utxReached n) := by
  unfold State.utxReached
  extract_lets u s1
  have h1 : Beyond txKey s s1 := ((h.setUtx _ _).endWait _).utxReport _ _
  exact .ite (h1.rfsRelease _) h1

end Beyond

end Sys2Proof.Machine
end

section
/-! PROOFS. R72, R84, R88 to R99: the events and the register writes of a transmit chain. -/

namespace Sys2Proof.Machine

open Sys2Proof

/-! ### What the operations leave of the chain's registers -/

/-- The registers that take the effective entry. -/
def pwrFlds : List Fld :=
  [UTX.PWR_EFF_IDX, UTX.PWR_GROUP, UTX.FWD_EXPECT, UTX.PA_DRV, UTX.PA_SUPPLY, UTX.PA_BIAS, UTX.PHASE_TRIM]

section
variable (s : State) {f : Fld} {n k : Nat}

theorem State.utxProgress_none {fuel : Nat} (h : (s.utxAt n).want = none) : s.utxProgress fuel n = s := by
  cases fuel with
  | zero => rfl
  | succ fuel => simp [State.utxProgress, h]

theorem State.get_buckUpdate : s.buckUpdate.get f k = s.get f k := rfl

theorem State.get_applyPwr (h : f.clear k pwrFlds n) : (s.applyPwr n).get f k = s.get f k := by
  unfold State.applyPwr
  extract_lets g i x a bias present
  rw [State.get_buckUpdate, State.get_set_clear h (by decide), State.get_set_clear h (by decide), State.get_set_clear h (by decide),
    State.get_set_clear h (by decide), State.get_set_clear h (by decide), State.get_set_clear h (by decide),
    State.get_set_clear h (by decide)]

theorem State.get_refreshPwr (h : f.clear k pwrFlds n) : (s.refreshPwr n).get f k = s.get f k := by
  unfold State.refreshPwr
  split
  · rfl
  · exact s.get_applyPwr h

theorem State.effIdx_applyPwr : (s.applyPwr n).get UTX.PWR_EFF_IDX n = s.effTarget n % 128 := by
  unfold State.applyPwr
  extract_lets g i x a bias present
  simp (disch := decide) only [State.get_buckUpdate, State.get_set_apart]
  exact State.get_set_same _ _ _ _

theorem State.get_setUst (h : f.clear k [UTX.STATE_STATE, UTX.STATUS_STATE_CHG] n) (st : Nat) :
    (s.setUst n st).get f k = s.get f k := by
  unfold State.setUst
  split
  · rfl
  · rw [State.get_buckUpdate, State.get_set_clear h (by decide), State.get_set_clear h (by decide)]

theorem State.mem_setUst (s : State) (n st : Nat) : (s.setUst n st).mem = s.mem := ((Beyond.refl txKey s).setUst n st).mem

theorem State.ust_setUst {st : Nat} (h : st < 8) : (s.setUst n st).get UTX.STATE_STATE n = st := by
  have h' : st < 2 ^ UTX.STATE_STATE.width := h
  unfold State.setUst
  split
  · next heq => simpa [State.ust] using heq
  · rw [State.get_buckUpdate, State.get_set_apart _ (by decide), State.get_set_fits _ h']

end

/-! ### The chain's events -/

section
variable (s : State) {n : Nat}

theorem exec_biasUpDone (hn : n < 4) (hbias : (s.utxAt n).biasUp = true) (hwant : (s.utxAt n).want = none) :
    ∃ t, exec (.biasUpDone n) s = .next t ∧ t.get UTX.STATE_STATE n = 1 ∧ (t.utxAt n).biasUp = false ∧ t.mem = s.mem := by
  have hu : (((s.setUtx n { s.utxAt n with biasUp := false }).setUst n txSTANDBY).rfsPower (s.loOf n)).utxAt n =
      { s.utxAt n with biasUp := false } := by
    rw [State.utxAt_rfsPower, State.utxAt_setUst, State.utxAt_setUtx_same]
  have hexec : exec (.biasUpDone n) s = execBiasUpDone n s := rfl
  rw [hexec, execBiasUpDone, if_pos hbias, State.utxProgress_none _ (by rw [hu]; exact hwant)]
  refine ⟨_, rfl, ?_, by rw [hu], ((((Beyond.refl txKey s).setUtx _ _).setUst _ _).rfsPower _).mem⟩
  rw [State.get_rfsPower _ (by decide) hn]
  exact State.ust_setUst _ (by decide)

theorem exec_rampUpDone {r : Ramp} (hramp : (s.utxAt n).ramp = some r) (hup : r.up = true) (hwant : (s.utxAt n).want = none)
    (hcount : s.get UTX.CNT_KEY_COUNT n < 0xFFFFFFFF) :
    ∃ t, exec (.rampUpDone n) s = .next t ∧ t.get UTX.STATE_RAMP n = 0 ∧ t.get UTX.STATUS_RAMP_DONE n = 1 ∧
      t.get UTX.CNT_KEY_COUNT n = s.get UTX.CNT_KEY_COUNT n + 1 ∧ (t.utxAt n).ramp = none ∧ t.mem = s.mem := by
  have hexec : exec (.rampUpDone n) s = execRampUpDone n s := rfl
  rw [hexec, execRampUpDone, hramp]
  dsimp only
  rw [if_pos hup]
  generalize hd : ((s.setUtx n { s.utxAt n with ramp := none }).set UTX.STATE_RAMP 0 n).set UTX.STATUS_RAMP_DONE 1 n = d
  have hdu : d.utxAt n = { s.utxAt n with ramp := none } := by rw [← hd]; simp
  have hu : ((d.bump UTX.CNT_KEY_COUNT UTX.STATUS_SAT n).applyPwr n).utxAt n = { s.utxAt n with ramp := none } := by
    rw [State.utxAt_applyPwr, State.utxAt, State.bump_radio]; exact hdu
  have hbeyond : Beyond txKey s d := by
    rw [← hd]
    exact (((Beyond.refl txKey s).setUtx _ _).set (by decide) _ _).set (by decide) _ _
  have hc : d.get UTX.CNT_KEY_COUNT n = s.get UTX.CNT_KEY_COUNT n := by
    rw [← hd, State.get_set_apart _ (by decide), State.get_set_apart _ (by decide), State.get_setUtx]
  rw [State.utxProgress_none _ (by rw [hu]; exact hwant)]
  refine ⟨_, rfl, ?_, ?_, ?_, by rw [hu], ((hbeyond.bump (by decide) (by decide) _ _).applyPwr _).mem⟩
  · rw [State.get_applyPwr _ (Fld.clear_of_apart (by decide) _ _), State.get_bump_apart _ (by decide) (by decide), ← hd,
      State.get_set_apart _ (by decide), State.get_set_fits _ (by decide)]
  · rw [State.get_applyPwr _ (Fld.clear_of_apart (by decide) _ _), State.get_bump_apart _ (by decide) (by decide), ← hd,
      State.get_set_fits _ (by decide)]
  · rw [State.get_applyPwr _ (Fld.clear_of_apart (by decide) _ _), State.get_bump_same _ (by rw [hc]; exact hcount) (by decide), hc]

theorem exec_rampDownDone {r : Ramp} (hn : n < 4) (hramp : (s.utxAt n).ramp = some r) (hup : r.up = false) (hwant : (s.utxAt n).want = none)
    (hto : (s.utxAt n).downTo ≤ 2) :
    ∃ t, exec (.rampDownDone n) s = .next t ∧ t.get UTX.STATE_CARRIER n = 0 ∧ t.get UTX.STATE_RAMP n = 0 ∧
      t.get UTX.PA_PA_EN n = 0 ∧ t.granted n = false ∧ t.get UTX.STATE_STATE n = (s.utxAt n).downTo ∧ t.mem = s.mem := by
  have hexec : exec (.rampDownDone n) s = execRampDownDone n s := rfl
  rw [hexec, execRampDownDone, hramp]
  dsimp only
  rw [if_neg (by simp [hup])]
  unfold State.rampDownEnd
  extract_lets u s1 src s1' s2 s3 s4
  have hs1 : ∀ f : Fld, f.clear n [UTX.STATUS_RAMP_DONE] n → f.key n ≠ RGE.STATE_GRANT.key 0 →
      f.clear n [UTX.STATE_STATE, UTX.STATUS_STATE_CHG] n → s2.get f n = s1.get f n := fun f h1 h2 h3 => by
    simp only [s2]
    rw [State.get_setUst _ h3, State.endGrant, State.get_setBit_ne _ _ _ _ _ _ _ h2, State.get_set_clear h1 (by decide)]
    exact State.get_mk _
  have hs3 : RxSide s2 s3 := by
    simp only [s3]
    split
    · exact (RxSide.refl s2).rxCarrierGone _
    · exact RxSide.refl s2
  have hs4 : ∀ f : Fld, f.upToTx = true → n < f.count → f.clear n pwrFlds n → s4.get f n = s2.get f n := fun f h1 h2 h3 => by
    simp only [s4]
    rw [State.get_refreshPwr _ h3, hs3.get (Fld.key_lt_rx h1 h2)]
  have hgrant : s4.get RGE.STATE_GRANT 0 = s2.get RGE.STATE_GRANT 0 := by
    simp only [s4]
    rw [State.get_refreshPwr _ (Fld.clear_of_below (by decide) (by decide) _), hs3.get (by decide)]
  have hwant4 : (s4.utxAt n).want = none := by
    have h2 : (s2.utxAt n).want = none := by
      simp only [s2, State.utxAt_setUst, State.endGrant, State.utxAt_setBit, State.utxAt_set]
      have h1 : s1'.utxAt n = s1.utxAt n := rfl
      rw [h1]
      simp only [s1, State.utxAt_set, State.utxAt_setUtx_same]
      exact hwant
    simp only [s4, State.utxAt_refreshPwr, hs3.utxAt, h2]
  have hmem : s4.mem = s.mem := by
    have hb1 : s1.mem = s.mem := rfl
    have hb1' : s1'.mem = s1.mem := rfl
    have hb2 : s2.mem = s1'.mem := State.mem_setUst _ _ _
    have hb4 : Beyond txKey s2 s4 := ((Beyond.refl txKey s2).rxSide hs3).refreshPwr n
    rw [hb4.mem, hb2, hb1', hb1]
  have hfail : (u.downErr != 0 && u.want.isSome) = false := by
    have : u.want = none := hwant
    simp [this]
  have hpin : ∀ f : Fld, RGE.STATE_GRANT.below f = true → f.key n ≠ RGE.STATE_GRANT.key 0 := fun f h =>
    Nat.ne_of_gt (Fld.key_lt_of_below h (by decide) n)
  rw [hfail]
  simp only [Bool.false_eq_true, if_false]
  rw [State.utxProgress_none _ hwant4]
  refine ⟨s4, rfl, ?_, ?_, ?_, ?_, ?_, hmem⟩
  · rw [hs4 _ (by decide) hn (Fld.clear_of_apart (by decide) _ _), hs1 _ (Fld.clear_of_apart (by decide) _ _) (hpin _ (by decide))
      (Fld.clear_of_apart (by decide) _ _)]
    simp only [s1]
    rw [State.get_set_apart _ (by decide), State.get_set_fits _ (by decide)]
  · rw [hs4 _ (by decide) hn (Fld.clear_of_apart (by decide) _ _), hs1 _ (Fld.clear_of_apart (by decide) _ _) (hpin _ (by decide))
      (Fld.clear_of_apart (by decide) _ _)]
    simp only [s1]
    rw [State.get_set_apart _ (by decide), State.get_set_apart _ (by decide), State.get_set_fits _ (by decide)]
  · rw [hs4 _ (by decide) hn (Fld.clear_of_apart (by decide) _ _), hs1 _ (Fld.clear_of_apart (by decide) _ _) (hpin _ (by decide))
      (Fld.clear_of_apart (by decide) _ _)]
    simp only [s1]
    rw [State.get_set_fits _ (by decide)]
  · rw [State.granted, State.bit, hgrant]
    simp only [s2]
    rw [State.get_setUst _ (Fld.clear_of_below (by decide) (by decide) _)]
    exact State.bit_setBit_false _ hn 0
  · rw [hs4 _ (by decide) hn (Fld.clear_of_apart (by decide) _ _)]
    exact State.ust_setUst _ (show (s.utxAt n).downTo < 8 by omega)

theorem exec_waitFail (hwait : s.get UTX.STATE_WAIT n = 1) (hrqs : (s.utxAt n).rqs = false) :
    ∃ t, exec (.waitFail n) s = .next t ∧ t.get UTX.STATE_STATE n = s.get UTX.STATE_STATE n ∧ t.get UTX.STATUS_WAIT_FAIL n = 1 ∧
      t.get UTX.STATE_WAIT n = 0 ∧ (t.utxAt n).want = none ∧
      t.get UTX.STATE_LAST_ERR n = (if s.sst (s.loOf n) = 4 then 4 else 3) := by
  obtain ⟨e, he, hcode⟩ : ∃ e, (if s.sst (s.loOf n) == synLOCKED then errSUPPLY_NOT_READY else errSYNTH_NOT_READY) = e ∧
      (e == errSYNTH_NOT_READY || e == errSUPPLY_NOT_READY) = true ∧ e = (if s.sst (s.loOf n) = 4 then 4 else 3) := by
    refine ⟨_, rfl, ?_, ?_⟩ <;> by_cases h : s.sst (s.loOf n) = 4 <;> simp [h, synLOCKED, errSUPPLY_NOT_READY, errSYNTH_NOT_READY]
  obtain ⟨hkind, hval⟩ := hcode
  have hexec : exec (.waitFail n) s = .next (s.utxFail n e) := by
    change execWaitFail n s = _
    rw [execWaitFail, if_pos (by simp [State.on, hwait]), he]
  have hfit : e < 2 ^ UTX.STATE_LAST_ERR.width := by rw [hval]; split <;> decide
  have hfail : s.utxFail n e = (((s.noteErr n e).set UTX.STATUS_WAIT_FAIL 1 n).setUtx n { s.utxAt n with want := none }).endWait n := by
    have hu : ((((s.noteErr n e).set UTX.STATUS_WAIT_FAIL 1 n).setUtx n
        { ((s.noteErr n e).set UTX.STATUS_WAIT_FAIL 1 n).utxAt n with want := none }).endWait n).utxAt n = { s.utxAt n with want := none } := by
      simp [State.noteErr]
    unfold State.utxFail
    simp only [hkind, if_true]
    rw [State.utxReport, hu, if_neg (by simp [hrqs])]
    rfl
  rw [hfail] at hexec
  refine ⟨_, hexec, ?_, ?_, State.get_set_fits _ (by decide), ?_, ?_⟩
  · rw [State.endWait, State.get_set_apart _ (by decide), State.get_setUtx, State.get_set_apart _ (by decide), State.noteErr,
      State.get_set_apart _ (by decide)]
  · rw [State.endWait, State.get_set_apart _ (by decide), State.get_setUtx, State.get_set_fits _ (by decide)]
  · simp
  · rw [State.endWait, State.get_set_apart _ (by decide), State.get_setUtx, State.get_set_apart _ (by decide), State.noteErr,
      State.get_set_fits _ hfit, hval]

end

/-! ### A ramp-down begun -/

section
variable (s : State) (n : Nat) (u : UtxChain)

/-- The chain's registers and own state as a ramp-down begins, before its sheaf is told (R96, R100). -/
def State.rampDownOwn (s : State) (n : Nat) (u : UtxChain) : State :=
  let s1 := (s.setUtx n { u with steerHeld := none }).set UTX.STATE_RAMP 1 n
  if s.ust n == txMOD then s1.setUst n txCW else s1

theorem State.rampDownFrom_side : RxSide (s.rampDownOwn n u) (s.rampDownFrom n u) := by
  change RxSide (s.rampDownOwn n u) (match s.chainSheaf n with
    | some sh => if s.othersOn sh n then (s.rampDownOwn n u).rxCache sh else ((s.rampDownOwn n u).rxCache sh).engAbort sh
    | none => s.rampDownOwn n u)
  split
  · exact .ite ((RxSide.refl _).rxCache _) (((RxSide.refl _).rxCache _).engAbort _)
  · exact RxSide.refl _

theorem State.utxAt_rampDownOwn : (s.rampDownOwn n u).utxAt n = { u with steerHeld := none } := by
  unfold State.rampDownOwn
  extract_lets s1
  have h1 : s1.utxAt n = { u with steerHeld := none } := by simp only [s1, State.utxAt_set, State.utxAt_setUtx_same]
  split
  · rw [State.utxAt_setUst, h1]
  · exact h1

theorem State.get_rampDownOwn {f : Fld} {k : Nat} (h : f.clear k [UTX.STATE_RAMP, UTX.STATE_STATE, UTX.STATUS_STATE_CHG] n) :
    (s.rampDownOwn n u).get f k = s.get f k := by
  unfold State.rampDownOwn
  extract_lets s1
  have h1 : s1.get f k = s.get f k := by simp only [s1]; rw [State.get_set_clear h (by decide), State.get_setUtx]
  split
  · rw [State.get_setUst _ fun g hg => h g (List.mem_cons_of_mem _ hg), h1]
  · exact h1

theorem State.rampDownOwn_ramp : (s.rampDownOwn n u).get UTX.STATE_RAMP n = 1 := by
  unfold State.rampDownOwn
  extract_lets s1
  have h1 : s1.get UTX.STATE_RAMP n = 1 := State.get_set_fits _ (by decide)
  split
  · rw [State.get_setUst _ (Fld.clear_of_apart (by decide) _ _), h1]
  · exact h1

variable {s n}

theorem State.rampDown_steady (hcarrier : s.carrier n = true) (hramp : (s.utxAt n).ramp = none) (fast : Bool) (dest : Nat) {err : Nat}
    (herr : err ≠ 0) : ∃ r, r.up = false ∧ r.fast = fast ∧ s.rampDown n fast dest err =
      s.rampDownFrom n { s.utxAt n with ramp := some r, downTo := dest, downErr := err } := by
  refine ⟨{ up := false, fast := fast, pos := rampFrom (s.rampTable.getD []) fast (s.amplitude n), since := s.now }, rfl, rfl, ?_⟩
  unfold State.rampDown
  simp [hcarrier, hramp, herr]

end

/-! ### A fault of the PA -/

section
variable {s : State} {n fwd : Nat}

/-- The chain with FWD taken, which MOD holds (R91). -/
def State.fwdTaken (s : State) (n fwd : Nat) : State := if s.ust n == txMOD then s else s.set UTX.FWD_FWD fwd n

/-- A PA fault flagged and counted (R91). -/
def State.paFlag (s : State) (n : Nat) : State := (s.set UTX.STATUS_PA_FAULT 1 n).bump UTX.CNT_FAULT_COUNT UTX.STATUS_SAT n

theorem exec_paFault (hcarrier : s.carrier n = true) (hramp : (s.utxAt n).ramp = none) (hout : (s.fwdTaken n fwd).paOut n = true) :
    exec (.paFault n fwd) s = .next (if s.on UTX.CTRL_PA_CHECK n then
      (((s.fwdTaken n fwd).paFlag n).noteErr n errPA_FAULT).rampDown n false txREADY errPA_FAULT else (s.fwdTaken n fwd).paFlag n) := by
  change execPaFault n fwd s = _
  unfold execPaFault State.paFlag
  dsimp only
  change (if s.carrier n && (s.utxAt n).ramp.isNone && (s.fwdTaken n fwd).paOut n then _ else _) = _
  rw [if_pos (by simp [hcarrier, hramp, hout])]
  unfold State.fwdTaken
  split <;> rfl

theorem State.get_fwdTaken {f : Fld} {k : Nat} (h : f.clear k [UTX.FWD_FWD] n) : (s.fwdTaken n fwd).get f k = s.get f k := by
  unfold State.fwdTaken
  split
  · rfl
  · exact State.get_set_clear h (by decide) _

theorem State.utxAt_fwdTaken (k : Nat) : (s.fwdTaken n fwd).utxAt k = s.utxAt k := by
  unfold State.fwdTaken; split <;> rfl

theorem exec_paFault_down (hn : n < 4) (hcarrier : s.carrier n = true) (hramp : (s.utxAt n).ramp = none)
    (hcheck : s.get UTX.CTRL_PA_CHECK n = 1) (hout : (s.fwdTaken n fwd).paOut n = true) :
    ∃ t r, exec (.paFault n fwd) s = .next t ∧ t.get UTX.STATUS_PA_FAULT n = 1 ∧ t.get UTX.STATE_LAST_ERR n = 9 ∧
      t.get UTX.STATE_RAMP n = 1 ∧ (t.utxAt n).ramp = some r ∧ r.up = false ∧ r.fast = false ∧ (t.utxAt n).downTo = 2 := by
  have hexec := exec_paFault hcarrier hramp hout
  rw [if_pos (by simp [State.on, hcheck])] at hexec
  generalize hv : ((s.fwdTaken n fwd).paFlag n).noteErr n errPA_FAULT = v at hexec
  have hvc : v.get UTX.STATE_CARRIER n = s.get UTX.STATE_CARRIER n := by
    rw [← hv, State.noteErr, State.get_set_apart _ (by decide), State.paFlag, State.get_bump_apart _ (by decide) (by decide),
      State.get_set_apart _ (by decide), State.get_fwdTaken (Fld.clear_of_apart (by decide) _ _)]
  have hvu : v.utxAt n = s.utxAt n := by
    rw [← hv, State.noteErr, State.utxAt_set, State.paFlag, State.utxAt, State.bump_radio]
    exact State.utxAt_fwdTaken n
  have hvf : v.get UTX.STATUS_PA_FAULT n = 1 := by
    rw [← hv, State.noteErr, State.get_set_apart _ (by decide), State.paFlag, State.get_bump_apart _ (by decide) (by decide),
      State.get_set_fits _ (by decide)]
  have hve : v.get UTX.STATE_LAST_ERR n = 9 := by rw [← hv]; exact State.get_set_fits _ (by decide)
  obtain ⟨r, hup, hfast, hdown⟩ := State.rampDown_steady (s := v) (n := n) (by rw [State.carrier, State.on, hvc]; exact hcarrier)
    (by rw [hvu]; exact hramp) false txREADY (err := errPA_FAULT) (by decide)
  rw [hdown] at hexec
  have hside := v.rampDownFrom_side n { v.utxAt n with ramp := some r, downTo := txREADY, downErr := errPA_FAULT }
  refine ⟨_, r, hexec, ?_, ?_, ?_, ?_, hup, hfast, ?_⟩
  · rw [hside.get (Fld.key_lt_rx (by decide) hn), State.get_rampDownOwn _ _ _ (Fld.clear_of_apart (by decide) _ _), hvf]
  · rw [hside.get (Fld.key_lt_rx (by decide) hn), State.get_rampDownOwn _ _ _ (Fld.clear_of_apart (by decide) _ _), hve]
  · rw [hside.get (Fld.key_lt_rx (by decide) hn), State.rampDownOwn_ramp]
  · rw [hside.utxAt, State.utxAt_rampDownOwn]
  · rw [hside.utxAt, State.utxAt_rampDownOwn]; rfl

end

/-- Settles O16: each event by its own lemma; where nothing is outstanding the chain goes no further. -/
theorem chainEventsAndFaults : Obligations.ChainEventsAndFaults := by
  unfold Obligations.ChainEventsAndFaults
  refine ⟨fun s n hn => exec_biasUpDone s hn, fun s n r hn => exec_rampUpDone s, fun s n r hn => exec_rampDownDone s hn,
    fun s n hn => exec_waitFail s, fun s hwant => ?_, fun s n hset hwant => ?_, fun s n fwd hc hr hst hcheck hout => ?_,
    fun s n fwd hc hr hst hcheck hout => ?_, fun s n fwd hn hc hr hcheck hout => exec_paFault_down hn hc hr hcheck ?_⟩
  · change execPaRailReached s = _
    rw [execPaRailReached]
    have hkeep := State.forN_keep (fun t => t = ({ s with radio.buckLevel := s.buckTarget } : State)) (fun n t => t.utxProgress 8 n) 4
      { s with radio.buckLevel := s.buckTarget } rfl fun i hi t ht => by
        subst ht
        exact State.utxProgress_none _ (hwant i hi)
    rw [hkeep]
  · change execAntennaSettle n s = _
    rw [execAntennaSettle, if_pos hset, State.utxProgress_none _ (by rw [State.utxAt_setUtx_same]; exact hwant)]
  · have htaken : s.fwdTaken n fwd = s.set UTX.FWD_FWD fwd n := if_neg (by simpa [State.ust, txMOD] using hst)
    rw [exec_paFault hc hr (by rw [htaken]; exact hout), htaken, if_neg (by simp [State.on, hcheck])]
    rfl
  · have htaken : s.fwdTaken n fwd = s := if_pos (by simp [State.ust, txMOD, hst])
    rw [exec_paFault hc hr (by rw [htaken]; exact hout), htaken, if_neg (by simp [State.on, hcheck])]
    rfl
  · rcases hout with ⟨hst, hout⟩ | ⟨hst, hout⟩
    · rw [State.fwdTaken, if_pos (by simp [State.ust, txMOD, hst])]; exact hout
    · rw [State.fwdTaken, if_neg (by simpa [State.ust, txMOD] using hst)]; exact hout

/-! ### What the chain's reckoning sees of a write -/

section
variable {s t : State}

/-- The leases and their composition read the same. -/
def SheavesAs (s t : State) : Prop :=
  ∀ sh, sh < 4 → t.get SHF.LEASE_STATE_HELD sh = s.get SHF.LEASE_STATE_HELD sh ∧ t.get SHF.COMP_TXMASK sh = s.get SHF.COMP_TXMASK sh ∧
    t.get SHF.COMP_LO_USED sh = s.get SHF.COMP_LO_USED sh

theorem find?_congr_range {p q : Nat → Bool} {k : Nat} (h : ∀ i, i < k → p i = q i) :
    (List.range k).find? p = (List.range k).find? q := by
  have : ∀ l : List Nat, (∀ i ∈ l, p i = q i) → l.find? p = l.find? q := by
    intro l hl
    induction l with
    | nil => rfl
    | cons a r ih =>
      rw [List.find?_cons, List.find?_cons, hl a (by simp), ih fun i hi => hl i (by simp [hi])]
  exact this _ fun i hi => h i (List.mem_range.1 hi)

theorem SheavesAs.chainSheaf (h : SheavesAs s t) (n : Nat) : t.chainSheaf n = s.chainSheaf n := by
  refine find?_congr_range fun sh hsh => ?_
  obtain ⟨h1, h2, h3⟩ := h sh hsh
  simp only [State.on, State.bit, h1, h2, h3]

theorem SheavesAs.set_tx (s : State) {f : Fld} (hf : f.below SHF.ID_BLOCK = true) {n : Nat} (hn : n < f.count) (v : Nat) :
    SheavesAs s (s.set f v n) := fun sh _ => by
  have hkey := fun (g : Fld) (hg : SHF.ID_BLOCK.key 0 ≤ g.key 0) => State.get_set_ne s f g v n sh (by
    have h1 := Fld.key_lt_of_below hf hn 0
    have h2 := g.key_mono (Nat.zero_le sh)
    omega)
  exact ⟨hkey _ (by decide), hkey _ (by decide), hkey _ (by decide)⟩

end

/-! ### Writes -/

section
variable {s : State} {n : Nat} {m : Master}

theorem State.utxOwned_of_ok (h : s.ownerOk (s.chainSheaf n) m = true) (g : State → State) : s.utxOwned n m g = g s := if_pos h

theorem exec_utxPwrWrite (hn : n < 4) {v : Nat} (hv : v < 128) (how : s.ownerOk (s.chainSheaf n) m = true)
    (hramp : s.get UTX.STATE_RAMP n = 0) (hst : s.get UTX.STATE_STATE n ≠ 4) :
    ∃ t, exec (.utxPwrWrite n m v) s = .next t ∧ t.get UTX.PWR_IDX n = v ∧
      t.get UTX.PWR_EFF_IDX n = max v (max (s.slotCeil n) (s.ceilOf (s.chanNow n))) % 128 ∧ t.mem = s.mem := by
  have hvw : v < 2 ^ UTX.PWR_IDX.width := hv
  have hidx : (s.set UTX.PWR_IDX v n).get UTX.PWR_IDX n = v := State.get_set_fits _ hvw
  have hslot : (s.set UTX.PWR_IDX v n).slotCeil n = s.slotCeil n := by
    rw [State.slotCeil, (SheavesAs.set_tx s (by decide) hn v).chainSheaf]
    rfl
  have hceil : (s.set UTX.PWR_IDX v n).ceilOf ((s.set UTX.PWR_IDX v n).chanNow n) = s.ceilOf (s.chanNow n) := by
    simp (disch := first | decide | assumption) only [State.ceilOf, State.chanNow, State.findChan, State.nchan, State.profOk, State.on, State.khz,
      State.loOf, State.get_set_apart, State.get_set_above]
    rfl
  have hexec : exec (.utxPwrWrite n m v) s = .next ((s.set UTX.PWR_IDX v n).applyPwr n) := by
    change Host.Outcome.next (s.utxOwned n m fun t => (t.set UTX.PWR_IDX v n).refreshPwr n) = _
    rw [State.utxOwned_of_ok how, State.refreshPwr, if_neg]
    simp (disch := decide) only [State.ust, State.on, State.get_set_apart]
    simp [hramp, hst, txMOD]
  refine ⟨_, hexec, ?_, ?_, (((Beyond.refl txKey s).set (by decide) _ _).applyPwr _).mem⟩
  · rw [State.get_applyPwr _ (Fld.clear_of_apart (by decide) _ _), hidx]
  · rw [State.effIdx_applyPwr, State.effTarget, hidx, hslot, hceil]

theorem exec_utxLoSrcWrite (hn : n < 4) {src : Nat} (hsrc : src < 4) (hnew : src ≠ s.get UTX.CTRL_LO_SRC n)
    (hlead : src = n ∨ s.get UTX.CTRL_LO_SRC src = src) (hst : s.get UTX.STATE_STATE n ≤ 1) (hst' : s.get UTX.STATE_STATE src ≤ 1) :
    ∃ t, exec (.utxLoSrcWrite n m src) s = .next t ∧ t.get UTX.CTRL_LO_SRC n = src ∧
      t.get UTX.STATE_STATE n = s.get UTX.STATE_STATE n ∧ t.mem = s.mem := by
  have hw : src < 2 ^ UTX.CTRL_LO_SRC.width := hsrc
  have hmember : (src != n && s.isMember src) = false := by
    rcases hlead with h | h <;> simp [State.isMember, State.loOf, h]
  have hexec : exec (.utxLoSrcWrite n m src) s =
      .next (((((s.set UTX.CTRL_LO_SRC src n).rfsPower (s.loOf n)).rfsPower src).rfsPower n).refreshPwr n) := by
    change Host.Outcome.next (s.loSrc n (src % 4)) = _
    rw [Nat.mod_eq_of_lt hsrc, State.loSrc]
    rw [if_neg (by simpa [State.loOf] using hnew), if_neg]
    have h1 : decide (txSTANDBY < s.ust n) = false := decide_eq_false (Nat.not_lt.2 hst)
    have h2 : decide (txSTANDBY < s.ust src) = false := decide_eq_false (Nat.not_lt.2 hst')
    simp [hmember, h1, h2]
  refine ⟨_, hexec, ?_, ?_,
    (((((Beyond.refl txKey s).set (by decide) _ _).rfsPower _).rfsPower _).rfsPower _).refreshPwr _ |>.mem⟩
  · rw [State.get_refreshPwr _ (Fld.clear_of_apart (by decide) _ _), State.get_rfsPower _ (by decide) hn,
      State.get_rfsPower _ (by decide) hn, State.get_rfsPower _ (by decide) hn, State.get_set_fits _ hw]
  · rw [State.get_refreshPwr _ (Fld.clear_of_apart (by decide) _ _), State.get_rfsPower _ (by decide) hn,
      State.get_rfsPower _ (by decide) hn, State.get_rfsPower _ (by decide) hn, State.get_set_apart _ (by decide)]

/-- A write of LO_SRC is refused above STANDBY, and to a source that is a gang member (R97). -/
theorem exec_utxLoSrcWrite_refused {src : Nat} (hsrc : src < 4) (hnew : src ≠ s.get UTX.CTRL_LO_SRC n)
    (h : ((src != n && s.isMember src) || decide (txSTANDBY < s.ust n) || decide (txSTANDBY < s.ust src)) = true) :
    exec (.utxLoSrcWrite n m src) s = .next ((s.set UTX.STATE_LAST_ERR 8 n).set UTX.STATUS_CMD_ERR 1 n) := by
  change Host.Outcome.next (s.loSrc n (src % 4)) = _
  rw [Nat.mod_eq_of_lt hsrc, State.loSrc]
  rw [if_neg (by simpa [State.loOf] using hnew), if_pos h]
  rfl

end

/-- Settles O17: a write by the owner is stored, with what follows it. -/
theorem chainRegisterWrites : Obligations.ChainRegisterWrites := by
  unfold Obligations.ChainRegisterWrites
  refine ⟨fun s n m v how hramp hn => ?_, fun s n m v hn hv how hramp hst => exec_utxPwrWrite hn hv how hramp hst,
    fun s n m v how => ?_, fun s n m v how hst => ?_, fun s n m v how hst hheld => ?_,
    fun s n m src hn hsrc hnew hlead hst hst' => exec_utxLoSrcWrite hn hsrc hnew hlead hst hst',
    fun s n m src hsrc hnew hst => exec_utxLoSrcWrite_refused hsrc hnew ?_,
    fun s n m src hsrc hnew hne hmember => exec_utxLoSrcWrite_refused hsrc hnew ?_⟩
  · change Host.Outcome.next (s.utxOwned n m fun t => (t.set UTX.PWR_IDX v n).refreshPwr n) = _
    rw [State.utxOwned_of_ok how, State.refreshPwr, if_pos]
    simp (disch := decide) only [State.ust, State.on, State.get_set_apart]
    simp [hramp]
  · exact congrArg Host.Outcome.next (State.utxOwned_of_ok how _)
  · change Host.Outcome.next (s.utxOwned n m fun t => t.steer n v) = _
    rw [State.utxOwned_of_ok how, State.steer]
    simp [State.ust, txMOD, hst]
  · change Host.Outcome.next (s.utxOwned n m fun t => t.steer n v) = _
    rw [State.utxOwned_of_ok how, State.steer]
    simp [State.ust, txMOD, hst, hheld]
  · simp [State.ust, txSTANDBY, hst]
  · simp [State.isMember, State.loOf, hne, hmember]

end Sys2Proof.Machine
end

section
/-! PROOFS. R70 to R72, R84, R138, R158: the state requests of a transmit chain. -/

namespace Sys2Proof.Machine

open Sys2Proof

/-! ### The request taken -/

/-- A request for state `w` noted, before it is carried on. -/
def State.utxAsked (s : State) (n w : Nat) : State :=
  let s1 := (s.setUtx n { s.utxAt n with want := some w, downErr := 0 }).endWait n
  if w == txCW then s1 else s1.giveUp n

theorem State.utxRequest_eq (s : State) (n w : Nat) : s.utxRequest n w = (s.utxAsked n w).utxProgress 8 n := rfl

section
variable (s : State) (n w : Nat)

theorem State.utxAt_utxAsked : (s.utxAsked n w).utxAt n =
    { s.utxAt n with want := some w, downErr := 0, grantAsked := (s.utxAt n).grantAsked && w == txCW } := by
  unfold State.utxAsked
  extract_lets u s1
  have h1 : s1.utxAt n = { s.utxAt n with want := some w, downErr := 0 } := by
    simp only [s1, u, State.utxAt_endWait, State.utxAt_setUtx_same]
  split
  · next h => rw [h1, h, Bool.and_true]
  · next h =>
    rw [State.giveUp, State.unPre, State.utxAt_setBit, State.utxAt_setUtx_same, h1]
    simp [h, u]

theorem State.get_utxAsked {f : Fld} {k : Nat} (h : f.clear k [UTX.STATE_WAIT] n) (h' : f.key k ≠ RGE.STATE_PREGRANT.key 0) :
    (s.utxAsked n w).get f k = s.get f k := by
  unfold State.utxAsked
  extract_lets u s1
  have h1 : s1.get f k = s.get f k := by
    simp only [s1, State.endWait]
    rw [State.get_set_clear h (by decide), State.get_setUtx]
  split
  · exact h1
  · rw [State.giveUp, State.unPre, State.get_setBit_ne _ _ _ _ _ _ _ h', State.get_setUtx, h1]

/-- What a noted request leaves, beside the chain's own state and two registers. -/
theorem State.utxAsked_form : ∃ r x, s.utxAsked n w = { s with regs := r, radio.utx := x } := by
  unfold State.utxAsked
  extract_lets u s1
  split
  · exact ⟨_, _, rfl⟩
  · exact ⟨_, _, rfl⟩

theorem State.mem_utxAsked : (s.utxAsked n w).mem = s.mem := by
  obtain ⟨r, x, h⟩ := s.utxAsked_form n w
  rw [h]

theorem State.synthAt_utxAsked (m : Nat) : (s.utxAsked n w).synthAt m = s.synthAt m := by
  obtain ⟨r, x, h⟩ := s.utxAsked_form n w
  rw [h]; rfl

theorem State.tx_utxAsked {f : Fld} (h : f.apart UTX.STATE_WAIT = true) (h' : RGE.STATE_PREGRANT.below f = true) (k : Nat) :
    (s.utxAsked n w).get f k = s.get f k :=
  s.get_utxAsked n w (Fld.clear_of_apart (by simpa using h) k n) (Nat.ne_of_gt (Fld.key_lt_of_below h' (by decide) k))

end

/-! ### One turn of a request carried on -/

section
variable {s : State} {n w : Nat} (fuel : Nat) (hwant : (s.utxAt n).want = some w) (hramp : (s.utxAt n).ramp = none)
  (hcarrier : s.carrier n = false)
include hwant hramp hcarrier

theorem State.utxProgress_reached (hst : s.ust n = w) (hmod : w ≠ 4) : s.utxProgress (fuel + 1) n = s.utxReached n := by
  simp [State.utxProgress, hwant, hramp, hcarrier, hst, txMOD, hmod]

theorem State.utxProgress_off (hst : s.ust n = 1) (hw : w = 0) :
    s.utxProgress (fuel + 1) n = ((s.setUst n txOFF).rfsPower (s.loOf n)).utxProgress fuel n := by
  subst hw
  simp [State.utxProgress, hwant, hramp, hcarrier, hst, txMOD, txLISTEN, txREADY, txSTANDBY, txOFF]

theorem State.utxProgress_down (hst : s.ust n = 2) (hw : w < 2) (hrelock : (s.synthAt (s.loOf n)).relock = false) :
    s.utxProgress (fuel + 1) n = (s.setUst n txSTANDBY).utxProgress fuel n := by
  have h2 : w ≠ 2 := by omega
  simp [State.utxProgress, hwant, hramp, hcarrier, hst, txMOD, txLISTEN, txREADY, hw, h2, hrelock]

theorem State.utxProgress_up (hst : s.ust n = 1) (hw : 1 < w) (hready : (s.utxStandby n).ust n = 2) :
    s.utxProgress (fuel + 1) n = (s.utxStandby n).utxProgress fuel n := by
  have h0 : w ≠ 0 := by omega
  have h1 : w ≠ 1 := by omega
  simp [State.utxProgress, hwant, hramp, hcarrier, hst, txMOD, txLISTEN, txREADY, txSTANDBY, txOFF, h0, h1, hready]

theorem State.utxProgress_listen (hst : s.ust n = 2) (hw : w = 5) (hwait : (s.utxKey n 5).on UTX.STATE_WAIT n = false)
    (hkept : ((s.utxKey n 5).utxAt n).want = some 5) :
    s.utxProgress (fuel + 1) n = (((s.utxKey n 5).setUst n txLISTEN).utxWindow n true).utxProgress fuel n := by
  subst hw
  simp [State.utxProgress, hwant, hramp, hcarrier, hst, txMOD, txLISTEN, txREADY, hwait, hkept]

theorem State.utxProgress_key (hst : s.ust n = 2) (hw : w = 3) : s.utxProgress (fuel + 1) n = s.utxKey n 3 := by
  subst hw
  simp [State.utxProgress, hwant, hramp, hcarrier, hst, txMOD, txLISTEN, txREADY]

end

/-! ### A request that is reached -/

/-- The chain has reached `w`, no request is outstanding, and the memory is that of `s`. -/
structure AtState (s t : State) (n w : Nat) : Prop where
  state : t.get UTX.STATE_STATE n = w
  want : (t.utxAt n).want = none
  mem : t.mem = s.mem

theorem State.utxProgress_atState {s u : State} {n w : Nat} (hn : n < 4) (fuel : Nat) (hwant : (u.utxAt n).want = some w)
    (hramp : (u.utxAt n).ramp = none) (hcarrier : u.carrier n = false) (hst : u.ust n = w) (hmod : w ≠ 4) (hmem : u.mem = s.mem) :
    AtState s (u.utxProgress (fuel + 1) n) n w := by
  rw [State.utxProgress_reached fuel hwant hramp hcarrier hst hmod]
  refine ⟨?_, State.utxReached_want _ _, ?_⟩
  · rw [State.get_utxReached _ (by decide) hn (by decide)]
    exact hst
  · exact ((Beyond.refl txKey u).utxReached n).mem.trans hmem

section
variable {s : State} {n : Nat} {m : Master}

theorem State.utxReq_of_free (how : s.ownerOk (s.chainSheaf n) m = true) {w : Nat} (h : s.heldOff n = false ∨ w = 0) :
    s.utxReq n m w = (s.utxAsked n w).utxProgress 8 n := by
  rw [State.utxReq, State.utxOwned_of_ok how, if_neg (by rcases h with h | h <;> simp [h, txOFF]), State.utxRequest_eq]

variable (hn : n < 4) (how : s.ownerOk (s.chainSheaf n) m = true) (hcarrier : s.carrier n = false) (hramp : (s.utxAt n).ramp = none)
include hn how hcarrier hramp

omit how in
/-- What the request finds once it is noted: the chain's own state, and the registers of UTX and of the synthesizers. -/
theorem State.utxAsked_start (w : Nat) : ((s.utxAsked n w).utxAt n).want = some w ∧ ((s.utxAsked n w).utxAt n).ramp = none ∧
    (s.utxAsked n w).carrier n = false ∧ (s.utxAsked n w).ust n = s.ust n ∧ (s.utxAsked n w).loOf n = s.loOf n ∧
    (s.utxAsked n w).sst (s.loOf n) = s.sst (s.loOf n) ∧ (s.utxAsked n w).mem = s.mem := by
  have hu := s.utxAt_utxAsked n w
  have hget : ∀ f : Fld, f.apart UTX.STATE_WAIT = true → RGE.STATE_PREGRANT.below f = true → ∀ k,
      (s.utxAsked n w).get f k = s.get f k := fun f h h' k => s.tx_utxAsked n w h h' k
  refine ⟨by rw [hu], by rw [hu]; exact hramp, ?_, hget _ (by decide) (by decide) n, hget _ (by decide) (by decide) n, ?_,
    s.mem_utxAsked n w⟩
  · rw [State.carrier, State.on, hget _ (by decide) (by decide)]; exact hcarrier
  · refine s.get_utxAsked n w (fun g hg => ?_) (Nat.ne_of_gt (Fld.key_lt_of_below (by decide) (by decide) _))
    simp only [List.mem_singleton] at hg
    subst hg
    exact Nat.ne_of_gt (Fld.key_lt_of_below (f := UTX.STATE_WAIT) (by decide) hn _)

theorem exec_utxReqOff (hst : s.get UTX.STATE_STATE n = 1) :
    ∃ t, exec (.utxReqOff n m) s = .next t ∧ AtState s t n 0 := by
  refine ⟨_, congrArg Host.Outcome.next (State.utxReq_of_free how (.inr rfl)), ?_⟩
  obtain ⟨hw, hr, hc, hs, -, -, hmem⟩ := State.utxAsked_start hn hcarrier hramp 0
  replace hs : (s.utxAsked n 0).ust n = 1 := hs.trans hst
  change AtState s ((s.utxAsked n 0).utxProgress 8 n) n 0
  generalize s.utxAsked n 0 = a at *
  rw [State.utxProgress_off 7 hw hr hc hs rfl]
  have hau : ((a.setUst n txOFF).rfsPower (a.loOf n)).utxAt n = a.utxAt n := by rw [State.utxAt_rfsPower, State.utxAt_setUst]
  refine State.utxProgress_atState hn 6 (by rw [hau, hw]) (by rw [hau, hr]) ?_ ?_ (by decide) ?_
  · rw [State.carrier, State.on, State.get_rfsPower _ (by decide) hn, State.get_setUst _ (Fld.clear_of_apart (by decide) _ _)]
    exact hc
  · rw [State.ust, State.get_rfsPower _ (by decide) hn]
    exact State.ust_setUst _ (by decide)
  · exact (((Beyond.refl txKey a).setUst _ _).rfsPower _).mem.trans hmem

theorem exec_utxReqStandby (hst : s.get UTX.STATE_STATE n = 2) (hfree : s.heldOff n = false)
    (hrelock : (s.synthAt (s.loOf n)).relock = false) : ∃ t, exec (.utxReqStandby n m) s = .next t ∧ AtState s t n 1 := by
  refine ⟨_, congrArg Host.Outcome.next (State.utxReq_of_free how (.inl hfree)), ?_⟩
  obtain ⟨hw, hr, hc, hs, hlo, -, hmem⟩ := State.utxAsked_start hn hcarrier hramp 1
  have hsyn := s.synthAt_utxAsked n 1 (s.loOf n)
  replace hs : (s.utxAsked n 1).ust n = 2 := hs.trans hst
  change AtState s ((s.utxAsked n 1).utxProgress 8 n) n 1
  generalize s.utxAsked n 1 = a at *
  rw [State.utxProgress_down 7 hw hr hc hs (by decide) (by rw [hlo, hsyn]; exact hrelock)]
  refine State.utxProgress_atState hn 6 (by rw [State.utxAt_setUst, hw]) (by rw [State.utxAt_setUst, hr]) ?_ ?_ (by decide) ?_
  · rw [State.carrier, State.on, State.get_setUst _ (Fld.clear_of_apart (by decide) _ _)]
    exact hc
  · exact State.ust_setUst _ (by decide)
  · rw [State.mem_setUst, hmem]

theorem exec_utxReqReady (hst : s.get UTX.STATE_STATE n = 1) (hfree : s.heldOff n = false) (hlock : s.sst (s.loOf n) = 4) :
    ∃ t, exec (.utxReqReady n m) s = .next t ∧ AtState s t n 2 := by
  refine ⟨_, congrArg Host.Outcome.next (State.utxReq_of_free how (.inl hfree)), ?_⟩
  obtain ⟨hw, hr, hc, hs, hlo, hsst, hmem⟩ := State.utxAsked_start hn hcarrier hramp 2
  replace hs : (s.utxAsked n 2).ust n = 1 := hs.trans hst
  change AtState s ((s.utxAsked n 2).utxProgress 8 n) n 2
  generalize s.utxAsked n 2 = a at *
  have hup : a.utxStandby n = ((a.setUst n txREADY).endWait n).refreshPwr n := by
    simp [State.utxStandby, hlo, hsst, hlock, synLOCKED]
  have hget : ∀ f : Fld, f.clear n pwrFlds n → f.clear n [UTX.STATE_WAIT] n → (a.utxStandby n).get f n = (a.setUst n txREADY).get f n :=
    fun f h1 h2 => by rw [hup, State.get_refreshPwr _ h1, State.endWait, State.get_set_clear h2 (by decide)]
  have hready : (a.utxStandby n).ust n = 2 :=
    (hget _ (Fld.clear_of_apart (by decide) _ _) (Fld.clear_of_apart (by decide) _ _)).trans (State.ust_setUst _ (by decide))
  have hau : (a.utxStandby n).utxAt n = a.utxAt n := by
    rw [hup, State.utxAt_refreshPwr, State.utxAt_endWait, State.utxAt_setUst]
  rw [State.utxProgress_up 7 hw hr hc hs (by decide) hready]
  refine State.utxProgress_atState hn 6 (by rw [hau, hw]) (by rw [hau, hr]) ?_ hready (by decide) ?_
  · rw [State.carrier, State.on, hget _ (Fld.clear_of_apart (by decide) _ _) (Fld.clear_of_apart (by decide) _ _),
      State.get_setUst _ (Fld.clear_of_apart (by decide) _ _)]
    exact hc
  · rw [hup]
    exact ((((Beyond.refl txKey a).setUst _ _).endWait _).refreshPwr _).mem.trans hmem

omit hn how hcarrier hramp in
theorem State.supplyOk_utxAsked (s : State) (n w : Nat) : (s.utxAsked n w).supplyOk = s.supplyOk := by
  have hust : ∀ c, (s.utxAsked n w).ust c = s.ust c := fun c => s.tx_utxAsked n w (by decide) (by decide) c
  have hsup : ∀ c, (s.utxAsked n w).get UTX.PA_SUPPLY c = s.get UTX.PA_SUPPLY c := fun c => s.tx_utxAsked n w (by decide) (by decide) c
  obtain ⟨r, x, h⟩ := s.utxAsked_form n w
  have hlevel : (s.utxAsked n w).radio.buckLevel = s.radio.buckLevel := by rw [h]
  have htarget : (s.utxAsked n w).buckTarget = s.buckTarget := by simp only [State.buckTarget, hust, hsup]
  rw [State.supplyOk, htarget, hlevel, State.supplyOk]

theorem exec_utxReqListen (hst : s.get UTX.STATE_STATE n = 2) (hfree : s.heldOff n = false) (hlock : s.sst (s.loOf n) = 4)
    (hsupply : s.supplyOk = true) : ∃ t, exec (.utxReqListen n m) s = .next t ∧ AtState s t n 5 := by
  refine ⟨_, congrArg Host.Outcome.next (State.utxReq_of_free how (.inl hfree)), ?_⟩
  obtain ⟨hw, hr, hc, hs, hlo, hsst, hmem⟩ := State.utxAsked_start hn hcarrier hramp 5
  have hsup := s.supplyOk_utxAsked n 5
  replace hs : (s.utxAsked n 5).ust n = 2 := hs.trans hst
  change AtState s ((s.utxAsked n 5).utxProgress 8 n) n 5
  generalize s.utxAsked n 5 = a at *
  have hkey : a.utxKey n 5 = a.endWait n := by
    simp [State.utxKey, hlo, hsst, hlock, hsup, hsupply, synLOCKED, synCOAST, txCW, txLISTEN]
  rw [State.utxProgress_listen 7 hw hr hc hs rfl
    (by rw [hkey, State.on, State.endWait, State.get_set_fits _ (by decide)]; rfl) (by rw [hkey, State.utxAt_endWait, hw]), hkey]
  refine State.utxProgress_atState hn 6 (by simp [hw]) (by simp [hr]) ?_ ?_ (by decide) ?_
  · rw [State.carrier, State.on, State.get_utxWindow _ (by decide) hn, State.get_setUst _ (Fld.clear_of_apart (by decide) _ _),
      State.endWait, State.get_set_apart _ (by decide)]
    exact hc
  · rw [State.ust, State.get_utxWindow _ (by decide) hn]
    exact State.ust_setUst _ (by decide)
  · exact ((((Beyond.refl txKey a).endWait _).setUst _ _).utxWindow _ _).mem.trans hmem

end

/-! ### A request for carrier (R84, R138) -/

section
variable {s : State} {n : Nat}

/-- The enforcer's checks do not look at a chain's WAIT. -/
theorem State.rgeCheck_setWait (hn : n < 4) (v c : Nat) (pre : Bool) : (s.set UTX.STATE_WAIT v n).rgeCheck c pre = s.rgeCheck c pre := by
  have hrx : ∀ sh, (s.set UTX.STATE_WAIT v n).get SHF.COMP_RXMASK sh = s.get SHF.COMP_RXMASK sh :=
    fun sh => State.get_set_below s (by decide) hn v
  have hsheaf : (s.set UTX.STATE_WAIT v n).sheafRx c = s.sheafRx c := by
    rw [State.sheafRx, (SheavesAs.set_tx s (f := UTX.STATE_WAIT) (by decide) hn v).chainSheaf c, State.sheafRx]
    cases s.chainSheaf c with
    | none => rfl
    | some sh => exact hrx sh
  have hchan : (s.set UTX.STATE_WAIT v n).chanNow c = s.chanNow c := by
    simp (disch := first | decide | assumption) only [State.chanNow, State.findChan, State.nchan, State.profOk, State.on, State.khz,
      State.loOf, State.get_set_apart, State.get_set_above]
    rfl
  have hceil : ∀ x, (s.set UTX.STATE_WAIT v n).ceilOf x = s.ceilOf x := fun x => by
    simp (disch := first | decide | assumption) only [State.ceilOf, State.get_set_above]
    rfl
  have hon : ∀ f : Fld, f.below UTX.STATE_WAIT = true → 0 < f.count → (s.set UTX.STATE_WAIT v n).on f = s.on f := fun f hf hc => by
    rw [State.on, State.get_set_above s hf hc, State.on]
  have hlo : (s.set UTX.STATE_WAIT v n).loOf c = s.loOf c := State.get_set_apart s (by decide) v
  have heff : (s.set UTX.STATE_WAIT v n).get UTX.PWR_EFF_IDX c = s.get UTX.PWR_EFF_IDX c := State.get_set_apart s (by decide) v
  have hguard : (s.set UTX.STATE_WAIT v n).get RGE.GUARD_GUARD = s.get RGE.GUARD_GUARD := State.get_set_above s (by decide) (by decide) v
  have hlc : (s.set UTX.STATE_WAIT v n).get SYS.LC_STATE = s.get SYS.LC_STATE := State.get_set_above s (by decide) (by decide) v
  have hhold : (s.set UTX.STATE_WAIT v n).bit RGE.STATE_HOLD c = s.bit RGE.STATE_HOLD c := by
    rw [State.bit, State.get_set_above s (by decide) (by decide), State.bit]
  have hwin : (s.set UTX.STATE_WAIT v n).bit RGE.STATE_WINDOW c = s.bit RGE.STATE_WINDOW c := by
    rw [State.bit, State.get_set_above s (by decide) (by decide), State.bit]
  have hprof : (s.set UTX.STATE_WAIT v n).profOk = s.profOk := hon _ (by decide) (by decide)
  have hflag : ∀ k, (s.set UTX.STATE_WAIT v n).profFlag k = s.profFlag k := fun k => by rw [State.profFlag, hprof]; rfl
  unfold State.rgeCheck
  rw [hsheaf, hchan, hceil, hlo, heff, hguard, hlc, hhold, hwin, hprof, hflag, hflag, hflag, hon RGE.CTRL_TESTWIN (by decide) (by decide),
    hon RGE.CTRL_RF_EN (by decide) (by decide), hon RGE.STATE_QUIET_LATCH (by decide) (by decide),
    hon RGE.STATE_KILL_ACTIVE (by decide) (by decide)]
  rfl

theorem State.rgeCheck_setUtx (s : State) (n c : Nat) (u : UtxChain) (pre : Bool) : (s.setUtx n u).rgeCheck c pre = s.rgeCheck c pre := rfl

theorem State.profFlag_setUtx (s : State) (n k : Nat) (u : UtxChain) : (s.setUtx n u).profFlag k = s.profFlag k := rfl

/-- A chain that has been granted ramps up to carrier. -/
structure KeyedUp (t : State) (n : Nat) : Prop where
  state : t.get UTX.STATE_STATE n = 3
  carrier : t.get UTX.STATE_CARRIER n = 1
  ramps : t.get UTX.STATE_RAMP n = 1
  grant : t.granted n = true
  ramp : ∃ r, (t.utxAt n).ramp = some r ∧ r.up = true

theorem KeyedUp.rxSide {t u : State} (hn : n < 4) (h : KeyedUp t n) (hu : RxSide t u) : KeyedUp u n := by
  obtain ⟨hst, hcar, hramps, hgrant, hramp⟩ := h
  have hget : ∀ f : Fld, f.upToTx = true → ∀ k, k < f.count → u.get f k = t.get f k := fun f hf k hk => hu.get (Fld.key_lt_rx hf hk)
  refine ⟨?_, ?_, ?_, ?_, ?_⟩
  · rw [hget _ (by decide) _ hn, hst]
  · rw [hget _ (by decide) _ hn, hcar]
  · rw [hget _ (by decide) _ hn, hramps]
  · rw [State.granted, State.bit, hget _ (by decide) _ (by decide)]
    exact hgrant
  · rw [hu.utxAt]
    exact hramp

/-- RF comes on in a chain that is in CW, granted and ramping up. -/
theorem State.carrier_keyedUp (b : State) (hst : b.get UTX.STATE_STATE n = 3) (hgrant : b.granted n = true)
    (hramp : ∃ r, (b.utxAt n).ramp = some r ∧ r.up = true) (pa : Nat) :
    KeyedUp (((b.set UTX.STATE_CARRIER 1 n).set UTX.STATE_RAMP 1 n).set UTX.PA_PA_EN pa n) n := by
  refine ⟨?_, ?_, ?_, ?_, hramp⟩
  · rw [State.get_set_apart _ (by decide), State.get_set_apart _ (by decide), State.get_set_apart _ (by decide), hst]
  · rw [State.get_set_apart _ (by decide), State.get_set_apart _ (by decide), State.get_set_fits _ (by decide)]
  · rw [State.get_set_apart _ (by decide), State.get_set_fits _ (by decide)]
  · rw [State.granted, State.bit, State.get_set_above _ (by decide) (by decide), State.get_set_above _ (by decide) (by decide),
      State.get_set_above _ (by decide) (by decide)]
    exact hgrant

theorem State.rampUp_keyedUp (a : State) (hn : n < 4) (hgrant : a.granted n = true) : KeyedUp (a.rampUp n) n := by
  unfold State.rampUp
  extract_lets t u b c r d
  have hst : b.get UTX.STATE_STATE n = 3 := State.ust_setUst _ (by decide)
  have hb : b.granted n = true := by
    rw [State.granted, State.bit, State.get_setUst _ (Fld.clear_of_below (by decide) (by decide) _), State.endWait,
      State.get_set_above _ (by decide) (by decide)]
    exact hgrant
  have hbu : (b.utxAt n).ramp = some { up := true, fast := false, pos := 0, since := a.now } := by
    simp only [b, State.utxAt_setUst, State.utxAt_endWait, State.utxAt_setUtx_same]
  have hc : KeyedUp c n := b.carrier_keyedUp hst hb ⟨_, hbu, rfl⟩ _
  clear_value b
  have hd : KeyedUp d n := by
    obtain ⟨h1, h2, h3, h4, h5⟩ := hc
    exact ⟨h1, h2, h3, h4, h5⟩
  clear_value d
  cases a.chainSheaf n with
  | none => exact hd
  | some sh => exact hd.rxSide hn ((RxSide.refl d).rxAcquire sh)

theorem State.rgeGrant_keyedUp (s : State) (hn : n < 4) : KeyedUp (s.rgeGrant n) n :=
  State.rampUp_keyedUp _ hn (State.bit_setBit_true _ (Nat.lt_of_lt_of_le hn (by decide)) 0)

/-- A request with its grant not asked yet, that no check denies, is granted at once inside the window. -/
theorem State.rgeRequest_granted (hset : (s.utxAt n).antSettling = false) (hwin : s.bit RGE.STATE_WINDOW n = true)
    (hlbt : s.profFlag 1 = false) (hcheck : s.rgeCheck n false = 0) :
    s.rgeRequest n = (s.setUtx n { s.utxAt n with grantAsked := true }).rgeGrant n := by
  simp [State.rgeRequest, hwin, State.rgeDecide, hset, State.profFlag_setUtx, hlbt, State.rgeCheck_setUtx, hcheck]

theorem exec_utxReqCw {m : Master} (hn : n < 4) (how : s.ownerOk (s.chainSheaf n) m = true) (hcarrier : s.carrier n = false)
    (hramp : (s.utxAt n).ramp = none) (hst : s.get UTX.STATE_STATE n = 2) (hfree : s.heldOff n = false)
    (hlock : s.sst (s.loOf n) = 4) (hsupply : s.supplyOk = true) (hbypass : s.get CLK.STATE_ON_BYPASS = 0)
    (hset : (s.utxAt n).antSettling = false) (hasked : (s.utxAt n).grantAsked = false) (hrt : s.rampTable.isSome = true)
    (hpt : (s.powerTable n (bandGroup (s.khz (s.loOf n)))).isSome = true) (hwin : s.bit RGE.STATE_WINDOW n = true)
    (hlbt : s.profFlag 1 = false) (hcheck : s.rgeCheck n false = 0) : ∃ t, exec (.utxReqCw n m) s = .next t ∧ KeyedUp t n := by
  refine ⟨_, congrArg Host.Outcome.next (State.utxReq_of_free how (.inl hfree)), ?_⟩
  obtain ⟨hw, hr, hc, hs, hlo, hsst, -⟩ := State.utxAsked_start hn hcarrier hramp 3
  replace hs : (s.utxAsked n 3).ust n = 2 := hs.trans hst
  have hau : ((s.utxAsked n 3).utxAt n).antSettling = false := by rw [State.utxAt_utxAsked]; exact hset
  have hag : ((s.utxAsked n 3).utxAt n).grantAsked = false := by rw [State.utxAt_utxAsked]; simp [hasked]
  have hsup := s.supplyOk_utxAsked n 3
  have hbp : (s.utxAsked n 3).on CLK.STATE_ON_BYPASS = false := by
    rw [State.on, s.get_utxAsked n 3 (Fld.clear_of_below (by decide) (by decide) _) (by decide), hbypass]; rfl
  change KeyedUp ((s.utxAsked n 3).utxProgress 8 n) n
  rw [State.utxProgress_key 7 hw hr hc hs rfl]
  have hrt' : (s.utxAsked n 3).rampTable = s.rampTable := rfl
  have hpt' : (s.utxAsked n 3).powerTable n (bandGroup ((s.utxAsked n 3).khz (s.loOf n))) =
      s.powerTable n (bandGroup (s.khz (s.loOf n))) := rfl
  have hwin' : (s.utxAsked n 3).bit RGE.STATE_WINDOW n = true := by
    rw [State.bit, s.get_utxAsked n 3 (Fld.clear_of_below (by decide) (by decide) _) (by decide)]; exact hwin
  have hlbt' : (s.utxAsked n 3).profFlag 1 = false := by
    rw [State.profFlag, State.profOk, State.on, s.get_utxAsked n 3 (Fld.clear_of_below (by decide) (by decide) _) (by decide)]
    exact hlbt
  have hcheck' : (s.utxAsked n 3).rgeCheck n false = 0 := by
    rw [← hcheck, ← State.rgeCheck_setUtx s n n { s.utxAt n with want := some 3, downErr := 0 } false]
    exact State.rgeCheck_setWait hn 0 n false
  have hkey : (s.utxAsked n 3).utxKey n 3 = ((s.utxAsked n 3).endWait n).rgeRequest n := by
    simp [State.utxKey, hlo, hsst, hlock, hsup, hsupply, hbp, hau, hag, hrt', hpt', Option.isNone_eq_false_iff.mpr hrt,
      Option.isNone_eq_false_iff.mpr hpt, synLOCKED, synCOAST, txCW, txLISTEN]
  rw [hkey, State.rgeRequest_granted]
  · exact State.rgeGrant_keyedUp _ hn
  · rw [State.utxAt_endWait, hau]
  · rw [State.bit, State.endWait, State.get_set_above _ (by decide) (by decide)]; exact hwin'
  · rw [State.profFlag, State.profOk, State.on, State.endWait, State.get_set_above _ (by decide) (by decide)]; exact hlbt'
  · rw [State.endWait, State.rgeCheck_setWait hn, hcheck']

/-! ### Requests that are refused (R72, R158) -/

section
variable {m : Master}

theorem State.utxOwned_of_not (h : s.ownerOk (s.chainSheaf n) m = false) (g : State → State) : s.utxOwned n m g = s.utxRefuse n 2 := by
  rw [State.utxOwned, if_neg (by simp [h]), errNOT_OWNER]

theorem State.utxReq_of_not (h : s.ownerOk (s.chainSheaf n) m = false) (w : Nat) : s.utxReq n m w = s.utxRefuse n 2 :=
  State.utxOwned_of_not h _

theorem State.utxReq_of_held (how : s.ownerOk (s.chainSheaf n) m = true) (h : s.heldOff n = true) {w : Nat} (hw : w ≠ 0) :
    s.utxReq n m w = s.utxRefuse n 1 := by
  rw [State.utxReq, State.utxOwned_of_ok how, if_pos (by simp [h, txOFF, hw]), errBAD_STATE]

end

end

/-- Settles O15: each request is carried on through the chain's states, and one that may not be made is refused. -/
theorem chainRequests : Obligations.ChainRequests := by
  refine ⟨?_, ?_, ?_, ?_, ?_, ?_, ?_⟩
  · intro s n m hn how hst hcarrier hramp
    obtain ⟨t, ht, h⟩ := exec_utxReqOff hn how hcarrier hramp hst
    exact ⟨t, ht, h.state, h.want, h.mem⟩
  · intro s n m hn how hst hcarrier hramp hfree hrelock
    obtain ⟨t, ht, h⟩ := exec_utxReqStandby hn how hcarrier hramp hst hfree hrelock
    exact ⟨t, ht, h.state, h.want, h.mem⟩
  · intro s n m hn how hst hcarrier hramp hfree hlock
    obtain ⟨t, ht, h⟩ := exec_utxReqReady hn how hcarrier hramp hst hfree hlock
    exact ⟨t, ht, h.state, h.want, h.mem⟩
  · intro s n m hn how hst hcarrier hramp hfree hlock hsupply
    obtain ⟨t, ht, h⟩ := exec_utxReqListen hn how hcarrier hramp hst hfree hlock hsupply
    exact ⟨t, ht, h.state, h.want, h.mem⟩
  · intro s n m hn how hst hcarrier hramp hfree hlock hsupply hbypass hset hasked hrt hpt hwin hlbt hcheck
    obtain ⟨t, ht, h⟩ := exec_utxReqCw hn how hcarrier hramp hst hfree hlock hsupply hbypass hset hasked hrt hpt hwin hlbt hcheck
    exact ⟨t, ht, h.state, h.carrier, h.ramps, h.grant, h.ramp⟩
  · intro s n m v how
    have hreq := State.utxReq_of_not how
    have howned := State.utxOwned_of_not how
    exact ⟨congrArg _ (hreq _), congrArg _ (hreq _), congrArg _ (hreq _), congrArg _ (hreq _), congrArg _ (hreq _),
      congrArg _ (howned _), congrArg _ (howned _), congrArg _ (howned _)⟩
  · intro s n m how hheld
    have hreq := fun w hw => State.utxReq_of_held how hheld (w := w) hw
    exact ⟨congrArg _ (hreq 1 (by decide)), congrArg _ (hreq 2 (by decide)), congrArg _ (hreq 3 (by decide)),
      congrArg _ (hreq 5 (by decide))⟩

end Sys2Proof.Machine
end

section
/-! PROOFS. R78: a lock commanded while the power-up that an earlier command began is under way. -/

namespace Sys2Proof.Machine

open Sys2Proof

/-- Synthesizer 0 is in IDLE, where a chain's request has taken it, and the power-up of an earlier LOCK is under way. -/
def synBooting : State :=
  ((State.reset.set RFS.STATE_STATE 1).set RFS.FREQ_KHZ 840000).setSynth 0
    { byCommand := true, bootFull := some false, settleAt := some 48000 }

/-- Refutes O18: its second clause has LOCK begin a search from every IDLE. One whose power-up by an earlier command is still under
way locks at the end of it: `synBooting` stays in IDLE. -/
theorem not_synthesizers : ¬ Obligations.Synthesizers := by
  unfold Obligations.Synthesizers
  rintro ⟨-, hlock, -⟩
  have hquiet : ∀ c, c < 4 → synBooting.carrier c = false := by decide
  obtain ⟨t, hexec, hstate, -⟩ := hlock synBooting 0 .coreA (by decide) (by decide) (by decide) hquiet (by decide) (by decide) (by decide)
  cases hexec
  exact absurd hstate (by decide)

end Sys2Proof.Machine
end

section
/-! PROOFS. R156: the code of a refused lease where HELD lists more than its bit. -/

namespace Sys2Proof.Machine

open Sys2Proof

/-- The RADIO domain is powered in FULL, no plan runs, and the HELD bit of sheaf 0 lists 2. -/
def sheafHeldWide : State :=
  { State.reset with regs := [(SYS.MODE_MODE.key 0, 0), (PWR.STATE_DOM.key 0, 1), (SHF.LEASE_STATE_HELD.key 0, 2)] }

/-- Refutes O21: its third clause, stated for every state, takes a sheaf for unleased unless its HELD reads 1, and the model takes it for
leased unless HELD reads 0: `sheafHeldWide` refuses a slot that no plan has with the code 1, where the clause says 2. -/
theorem not_sheafLeases : ¬ Obligations.SheafLeases := by
  unfold Obligations.SheafLeases
  rintro ⟨-, -, hrefused, -⟩
  obtain ⟨t, hexec, -, -, -, hcode⟩ := hrefused sheafHeldWide 0 0 0 .coreB (by decide) (by decide) (by decide) (by decide)
    (.inr (.inr (.inl (by decide))))
  cases hexec
  exact absurd hcode (by decide)

end Sys2Proof.Machine
end

section
/-! PROOFS. R219: the event latch of a wait that ends, where EVP lists more than its ten bits. -/

namespace Sys2Proof.Machine

open Sys2Proof

/-- Sequencer 0 waits for event 0, and its latch lists that event and a bit past the ten of EVP. -/
def waitEventsWide : State :=
  ({ State.reset with regs := [(LSC.STATE_STATE.key 0, 3), (LSC.EVP_EVP.key 0, 1025)] } : State).setOps 0
    { wait := some { mask := 1, unit := 0, bound := 1 } }

/-- Refutes O25: where a masked event ends a wait, its clause, stated for every state, has EVP keep all that it lists but for that event,
and the latch is cut to its ten bits: `waitEventsWide` keeps 0, not 1024. -/
theorem not_sequencersAndPushBuffers : ¬ Obligations.SequencersAndPushBuffers := by
  unfold Obligations.SequencersAndPushBuffers
  rintro ⟨-, -, -, -, -, -, -, -, -, -, -, hevent, -⟩
  obtain ⟨t, hexec, -, -, -, -, hlatch, -⟩ := hevent waitEventsWide 0 { mask := 1, unit := 0, bound := 1 } (by decide) (by decide) (by decide)
    (by decide)
  cases hexec
  exact absurd hlatch (by decide)

end Sys2Proof.Machine
end

section
/-! PROOFS. R22, R209, R233: a sequencer in FAULT that the Granary DMA resets and starts anew within the same cycle. -/

namespace Sys2Proof.Machine

open Sys2Proof

/-- An image of one zero word from byte 32 on, with its header (R232, R233): address and byte of what is not 0. -/
def oneWordImage : List Host.Cell :=
  [(0x20000000, 0x4C), (0x20000001, 0x53), (0x20000002, 0x45), (0x20000003, 0x51), (0x20000004, 1), (0x2000000C, 36),
    (0x20000010, 0xC7), (0x20000011, 0x4B), (0x20000012, 0x67), (0x20000013, 0x48)]

/-- Sequencer 0 is in FAULT over a sound image, and the DMA has sent RESET and then IDLE to its CMD. -/
def faultRestarted : State :=
  { State.reset with
    now := 5, regs := [(LSC.STATE_STATE.key 0, 4)], mem := oneWordImage
    grn.dma := [(LSC.CMD_RESET.at 0, 8), (LSC.CMD_IDLE.at 0, 2)] }

/-- Refutes O28: its third clause has every idle cycle after a fault end in STOPPED. A register write that the DMA delivers in that
cycle comes before the reset of R209: `faultRestarted` is reset and put into IDLE by it, and stays there. -/
theorem not_lsiFlowAndFaults : ¬ Obligations.LsiFlowAndFaults := by
  unfold Obligations.LsiFlowAndFaults
  rintro ⟨-, -, hstopped, -⟩
  obtain ⟨t, hstep, hstate⟩ := hstopped faultRestarted 0 (by decide) ⟨by decide, by decide⟩ rfl (by decide)
  have htick : t = faultRestarted.tick := (Host.Outcome.next.inj hstep).symm
  rw [htick] at hstate
  exact absurd hstate (by decide +kernel)

end Sys2Proof.Machine
end

section
/-! PROOFS. R281: the guard of the commissioning tag where it is already asserted. -/

namespace Sys2Proof.Machine

open Sys2Proof

/-- The reader is about to reach CW, and the tag's GUARD, one bit wide, lists 2. -/
def hfGuardWide : State :=
  { State.reset with regs := [(HFT.STATE_GUARD.key 0, 2)], hfr := { State.reset.hfr with step := some 3 } }

/-- Refutes O32: its third clause, stated for every state, has GUARD read 1 once the reader is in CW, and a guard that reads other than 0
is left as it is: `hfGuardWide` keeps 2. -/
theorem not_hfFieldAndWindows : ¬ Obligations.HfFieldAndWindows := by
  unfold Obligations.HfFieldAndWindows
  rintro ⟨-, -, hcw, -⟩
  obtain ⟨t, hexec, -, -, hguard, -⟩ := hcw hfGuardWide true rfl rfl
  cases hexec
  exact absurd hguard (by decide)

/-- The Gleaner is armed in FULL with its domain powered, and the tag's GUARD, one bit wide, lists 2. -/
def glGuardWide : State :=
  { State.reset with regs := [(SYS.MODE_MODE.key 0, 0), (PWR.STATE_DOM.key 0, 2), (HFR.CTRL_GL_EN.key 0, 1),
      (HFR.STATE_GL_STATE.key 0, 1), (HFT.STATE_GUARD.key 0, 2)] }

/-- Refutes O33: its seventh clause, stated for every state, has GUARD read 1 after a ping, and a guard that reads other than 0 is left as
it is: `glGuardWide` keeps 2. -/
theorem not_gleanerCommands : ¬ Obligations.GleanerCommands := by
  unfold Obligations.GleanerCommands
  rintro ⟨-, -, -, -, -, -, hping, -⟩
  obtain ⟨t, hexec, -, -, hguard, -⟩ := hping glGuardWide 0 0 (by decide) (by decide) (by decide) (by decide) (by decide) (by decide)
    (by decide) (by decide)
  cases hexec
  exact absurd hguard (by decide)

end Sys2Proof.Machine
end

section
/-! PROOFS. R323, R328: an APDU while a wired operation runs, where TSTATE lists the code of no state. -/

namespace Sys2Proof.Machine

open Sys2Proof

/-- TSTATE lists 8, the code of no state, and a wired operation waits. -/
def tagStateWide : State :=
  { State.reset with regs := [(HFT.STATE_TSTATE.key 0, 8)], hft := { State.reset.hft with wiredWait := some (0, false) } }

/-- Refutes O35: its second clause, stated for every state, has an APDU wait in every state from OPEN on, and no command acts outside OPEN
and the two secured states: `tagStateWide` ignores it. -/
theorem not_tagFilesAndCommits : ¬ Obligations.TagFilesAndCommits := by
  unfold Obligations.TagFilesAndCommits
  rintro ⟨-, hwaits, -⟩
  have hexec := hwaits tagStateWide (.tagPassthroughApdu {}) {} rfl (by decide) (by decide) (by decide) (by decide)
  have hwait := congrArg (fun t => t.hft.fieldWait) (Host.Outcome.next.inj hexec)
  exact absurd hwait (by decide)

end Sys2Proof.Machine
end

section
/-! PROOFS. R157, R230: the end of a leased slot whose composition names a synthesizer that is none. -/

namespace Sys2Proof.Machine

open Sys2Proof

/-- Slot 0 runs on sheaf 0 under the lease of sequencer 0, and LO_USED lists 1284 beside the role LISTEN: the bias of that chain lies at the
address of the sequencer's event latch. -/
def slotLeaseWide : State :=
  { State.reset with
    regs := [(SHF.LEASE_STATE_HELD.key 0, 1), (SHF.COMP_LO_USED.key 0, 1284), (SHF.COMP_ROLE.key 0, roleLISTEN)]
    atb := { State.reset.atb with running := [(0, 1)] } }

/-- Refutes O39: its ninth clause, stated for every state, has the end of a leased slot latch SLE for the holder; freeing the lease of
`slotLeaseWide` writes the bias of chain 1284, and the latch with it. -/
theorem not_atbSlotsAndEvents : ¬ Obligations.AtbSlotsAndEvents := by
  unfold Obligations.AtbSlotsAndEvents
  rintro ⟨-, -, -, -, -, -, -, -, hleased, -⟩
  obtain ⟨t, hexec, -, -, hlatched, -⟩ := hleased slotLeaseWide 0 _ rfl (by decide) (by decide) (by decide)
  cases hexec
  exact absurd hlatched (by decide +kernel)

end Sys2Proof.Machine
end

section
/-! PROOFS. R336, R346: a fade and a photodiode result where a register lists more than its field holds. -/

namespace Sys2Proof.Machine

open Sys2Proof

/-- A fade of rate 1 under way from a present level of 200,000, which NOW's 16 bits do not hold. -/
def fadeWide : State :=
  { State.reset with regs := [(LUM.OUT_NOW.key 0, 200000), (LUM.LEVEL_FADE_RATE.key 0, 1)] }

/-- Refutes O41: its third clause, stated for every state, keeps the stepped level whole; from `fadeWide` the step gives 199,999, and NOW
keeps its low 16 bits. -/
theorem not_levelCurveAndDali : ¬ Obligations.LevelCurveAndDali := by
  unfold Obligations.LevelCurveAndDali
  rintro ⟨-, -, hfade, -⟩
  obtain ⟨t, hexec, hnow, -⟩ := hfade fadeWide _ (by decide) (by decide) rfl
  cases hexec
  exact absurd hnow (by decide)

/-- The ATB is OFF, AUTO is 0, and the forced range lists 4, which RANGE's two bits do not hold. -/
def forcedRangeWide : State :=
  { State.reset with regs := [(LUM.PD_CFG_AUTO.key 0, 0), (LUM.PD_CFG_RANGE.key 0, 4), (ATB.STATE_STATE.key 0, abOFF)] }

/-- Refutes O42: its eighth clause, stated for every state, has a result carry the forced range whole; the result of `forcedRangeWide`
keeps its low two bits. -/
theorem not_failsafeAndSensors : ¬ Obligations.FailsafeAndSensors := by
  unfold Obligations.FailsafeAndSensors
  rintro ⟨-, -, -, -, -, -, -, hresult, -⟩
  obtain ⟨t, hexec, hrange, -⟩ := hresult forcedRangeWide 0 0 false (by decide) (by decide) (.inr (by decide))
  cases hexec
  exact absurd hrange (by decide)

end Sys2Proof.Machine
end

section
/-! PROOFS. R359, R365: an indirect command refused by a region, where IND_ADDR lists more than its field holds. -/

namespace Sys2Proof.Machine

open Sys2Proof

/-- Region 0 covers select 0 to past 2^32, and IND_ADDR lists 2^32 + 1, aligned to no region. -/
def indAddrWide : State :=
  { State.reset with
    regs := [(MPT.CTRL_EN.key 0, 1), (MPT.IND_ADDR_ADDR.key 0, 4294967297)]
    mpt := { State.reset.mpt with regions := [(0, { cfg := 2147483648, last := 8589934592 })] } }

/-- Refutes O43: its second clause, stated for every state, keeps the offset of the refused command whole; ERR_ADDR keeps the low 32 bits
of that of `indAddrWide`. -/
theorem not_memoryPortCommands : ¬ Obligations.MemoryPortCommands := by
  unfold Obligations.MemoryPortCommands
  rintro ⟨-, hrefused, -⟩
  obtain ⟨t, hexec, -, -, -, haddr, -⟩ := hrefused indAddrWide .coreA 2415919104 0 4294967297 _ (by decide) (by decide) (by decide)
    (by decide) (by decide) (by decide) rfl (by decide) ⟨indAddrWide.region 0, by decide +kernel, by decide⟩
  cases hexec
  exact absurd haddr (by decide +kernel)

end Sys2Proof.Machine
end

section
/-! PROOFS. R25, R26, R486: what WARM leaves. The registers outside AON and MRAM are at their reset values, so no chain has a grant and
no HF field stands: the kill that a low RFKILL_N asserts again finds nothing to end and writes registers of the enforcer alone. -/

namespace Sys2Proof.Machine

open Sys2Proof

/-! ### A kill that finds nothing to end -/

/-- No chain has or asks for a grant, and the HF reader is as after reset. -/
structure State.Still (s : State) : Prop where
  grant : s.get RGE.STATE_GRANT = 0
  hst : s.get HFR.STATE_STATE = 0
  utx : s.radio.utx = []
  hfr : s.hfr = {}

/-- The registers and the enforcer's state are all in which `t` may differ from `s`. -/
def RgeOnly (s t : State) : Prop := ∃ r g, t = { s with regs := r, rge := g }

namespace RgeOnly
variable {s t u : State}

theorem refl : RgeOnly s s := ⟨s.regs, s.rge, rfl⟩

theorem trans (h : RgeOnly s t) (h' : RgeOnly t u) : RgeOnly s u := by
  obtain ⟨r, g, rfl⟩ := h
  obtain ⟨r', g', rfl⟩ := h'
  exact ⟨r', g', rfl⟩

theorem set (f : Fld) (v n : Nat) : RgeOnly s (s.set f v n) := ⟨_, s.rge, rfl⟩

theorem bump (c d : Fld) (n k : Nat) : RgeOnly s (s.bump c d n k) := by
  unfold State.bump
  split
  · exact set _ _ _
  · exact (set _ _ _).trans (set _ _ _)

theorem rgeLog (code n : Nat) (chan : Option Nat) : RgeOnly s (s.rgeLog code n chan) := by
  unfold State.rgeLog
  extract_lets e
  split
  · exact ⟨s.regs, _, rfl⟩
  · exact ⟨_, _, rfl⟩

section
variable (h : RgeOnly s t)
include h
theorem mem : t.mem = s.mem := by obtain ⟨r, g, rfl⟩ := h; rfl
theorem nv : t.nv = s.nv := by obtain ⟨r, g, rfl⟩ := h; rfl
theorem objs : t.objs = s.objs := by obtain ⟨r, g, rfl⟩ := h; rfl
theorem que : t.que = s.que := by obtain ⟨r, g, rfl⟩ := h; rfl
theorem coreP : t.coreP = s.coreP := by obtain ⟨r, g, rfl⟩ := h; rfl
theorem radio : t.radio = s.radio := by obtain ⟨r, g, rfl⟩ := h; rfl
theorem hfr : t.hfr = s.hfr := by obtain ⟨r, g, rfl⟩ := h; rfl
end
end RgeOnly

namespace State.Still
variable {s : State} (h : s.Still)
include h

theorem killChain (n : Nat) : s.killChain n = s := by
  have hask : (s.utxAt n).grantAsked = false := by simp [State.utxAt, h.utx]
  have hgrant : s.granted n = false := by simp [State.granted, State.bit, h.grant, bitOf]
  simp [State.killChain, hask, hgrant]

theorem hfKill : s.hfKill = s := by
  have hoff : s.hst = 0 := h.hst
  simp [State.hfKill, hoff, h.hfr]

/-- The kill in force shows KILL_ACTIVE and begins its record of cuts. -/
theorem killNow : s.killNow = { s.set RGE.STATE_KILL_ACTIVE 1 with rge.cutMask := 0, rge.cutAt := s.now } := by
  unfold State.killNow
  extract_lets source enforcer s1
  have h1 : s1.Still :=
    ⟨(s.get_set_apart (f := RGE.STATE_KILL_ACTIVE) (n := 0) (by decide) 1).trans h.grant,
      (s.get_set_apart (f := RGE.STATE_KILL_ACTIVE) (n := 0) (by decide) 1).trans h.hst, h.utx, h.hfr⟩
  have hchains : (s1.forN 4 fun n t => t.killChain n) = s1 :=
    State.forN_keep (· = s1) _ 4 s1 rfl fun n _ t ht => by rw [ht, h1.killChain]
  rw [hchains, h1.hfKill]

end State.Still

section
variable {s : State} (h : s.Still) (status : Fld) (code : Nat)
include h

/-- What the input's status, its entry in the log and its count leave, the kill finds still. -/
theorem State.Still.logged (hgrant : RGE.STATE_GRANT.apart status = true) (hst : HFR.STATE_STATE.apart status = true) :
    ((((s.set status 1).rgeLog code 0 none).bump RGE.CNT_KILL_COUNT RGE.STATUS_SAT).Still) := by
  have hsame : RgeOnly s (((s.set status 1).rgeLog code 0 none).bump RGE.CNT_KILL_COUNT RGE.STATUS_SAT) :=
    ((RgeOnly.set _ _ _).trans (RgeOnly.rgeLog _ _ _)).trans (RgeOnly.bump _ _ _ _)
  refine ⟨?_, ?_, ?_, ?_⟩
  · rw [State.get_bump_apart _ (by decide) (by decide), State.get_rgeLog _ (by decide), State.get_set_apart _ hgrant]
    exact h.grant
  · rw [State.get_bump_apart _ (by decide) (by decide), State.get_rgeLog _ (by decide), State.get_set_apart _ hst]
    exact h.hst
  · exact (congrArg Radio.utx hsame.radio).trans h.utx
  · exact hsame.hfr.trans h.hfr

theorem State.Still.killBy_only (hgrant : RGE.STATE_GRANT.apart status = true) (hst : HFR.STATE_STATE.apart status = true) :
    RgeOnly s (s.killBy status code) := by
  unfold State.killBy
  rw [(h.logged status code hgrant hst).killNow]
  have hlog : RgeOnly s (((s.set status 1).rgeLog code 0 none).bump RGE.CNT_KILL_COUNT RGE.STATUS_SAT) :=
    ((RgeOnly.set _ _ _).trans (RgeOnly.rgeLog _ _ _)).trans (RgeOnly.bump _ _ _ _)
  exact hlog.trans ⟨_, _, rfl⟩

end

theorem State.get_rgeLog_ne (s : State) {f : Fld} {n : Nat} (h : f.key n ≠ RGE.STATUS_LOG_OVR.key 0) (code k : Nat) (chan : Option Nat) :
    (s.rgeLog code k chan).get f n = s.get f n := by
  unfold State.rgeLog
  extract_lets e
  split
  · rfl
  · exact State.get_set_ne _ _ _ _ _ _ h

/-- What a kill by the pin writes. -/
def killPinFlds : List Fld :=
  [RGE.STATE_KILL_ACTIVE, RGE.STATUS_KILL_PIN, RGE.STATUS_LOG_OVR, RGE.CNT_KILL_COUNT, RGE.STATUS_SAT]

theorem State.Still.get_killPin {s : State} (h : s.Still) {f : Fld} {n : Nat} (hf : f.clear n killPinFlds 0)
    (code : Nat) : (s.killBy RGE.STATUS_KILL_PIN code).get f n = s.get f n := by
  have hne : ∀ g ∈ killPinFlds, ∀ v (u : State), (u.set g v).get f n = u.get f n := fun g hg v u =>
    State.get_set_ne _ _ _ _ _ _ (hf g hg)
  unfold State.killBy
  rw [(h.logged _ code (by decide) (by decide)).killNow, State.get_mk, hne _ (by decide),
    State.get_bump_ne _ (hf _ (by decide)) (hf _ (by decide)), State.get_rgeLog_ne _ (hf _ (by decide)), hne _ (by decide)]

theorem State.Still.killPin_active {s : State} (h : s.Still) (code : Nat) :
    (s.killBy RGE.STATUS_KILL_PIN code).get RGE.STATE_KILL_ACTIVE = 1 := by
  unfold State.killBy
  rw [(h.logged _ code (by decide) (by decide)).killNow, State.get_mk]
  exact State.get_set_same _ _ _ _

theorem State.Still.killPin_status {s : State} (h : s.Still) (code : Nat) :
    (s.killBy RGE.STATUS_KILL_PIN code).get RGE.STATUS_KILL_PIN = 1 := by
  unfold State.killBy
  rw [(h.logged _ code (by decide) (by decide)).killNow, State.get_mk]
  rw [State.get_set_apart _ (by decide), State.get_bump_apart _ (by decide) (by decide), State.get_rgeLog _ (by decide)]
  exact State.get_set_same _ _ _ _

/-! ### WARM -/

/-- The state that WARM leaves but for a kill that stands: AON's registers, MRAM and what lies above system SRAM go on. -/
def State.warmCore (s : State) : State :=
  let s1 := s.resetCore.dropCore
  let s2 : State := { s1 with
    radio := {}, atb := {}, aev := {}, rge := {}, pulses := []
    coreP := { s1.coreP with resets := [], escalated := none, quietHeld := false, pllLocked := false, fwHdr := [], levels := [] }
    mem := Tab.clear (fun a => decide (a < 0x28000000)) s1.mem }
  let s3 := (((s2.setBit PWR.STATE_DOM 0 false).setBit PWR.STATE_DOM 1 false).set PWR.STATE_BUCKB_ON 0).set PWR.DOM_CTRL_RADIO 0
  (s3.set PWR.DOM_CTRL_HFR 0).copiesFresh

/-- The power registers that show the domains off. -/
def warmFlds : List Fld := [PWR.STATE_DOM, PWR.STATE_BUCKB_ON, PWR.DOM_CTRL_RADIO, PWR.DOM_CTRL_HFR]

section
variable (s : State)

theorem State.warmBase_eq :
    s.warmBase = if s.on RGE.KILL_PIN then (s.warmCore.set RGE.KILL_PIN 1).killBy RGE.STATUS_KILL_PIN 25 else s.warmCore := rfl

theorem State.rd8_warmCore (a : Nat) : s.warmCore.rd8 a = if a < 0x28000000 then 0 else s.rd8 a := by
  have hmem : s.warmCore.mem = Tab.clear (fun b => decide (b < 0x28000000)) s.mem := rfl
  rw [State.rd8, hmem]
  split
  · next h => exact congrArg BitVec.toNat (Tab.get_clear_gone 0 _ _ (decide_eq_true h))
  · next h => exact congrArg BitVec.toNat (Tab.get_clear_keep 0 _ _ (decide_eq_false h))

/-- Beside the power registers that show the domains off, a register reads as the reset of the core leaves it. -/
theorem State.get_warmCore {f : Fld} {n : Nat} (h : f.clear n warmFlds 0) : s.warmCore.get f n = s.resetCore.get f n := by
  unfold State.warmCore
  extract_lets s1 coreP s2 s3
  have hne : ∀ g ∈ warmFlds, ∀ v (u : State), (u.set g v).get f n = u.get f n := fun g hg v u =>
    State.get_set_clear h hg v
  have hs3 : s3.get f n = s2.get f n := by
    rw [hne _ (by decide), hne _ (by decide), State.setBit, hne _ (by decide), State.setBit, hne _ (by decide)]
  exact (hne PWR.DOM_CTRL_HFR (by decide) 0 s3).trans hs3

end

section
variable (s : State)

/-- No grant and no HF field outlives a WARM. -/
theorem State.warmCore_still : s.warmCore.Still where
  grant := (s.get_warmCore (Fld.clear_of_apart (by decide) _ _)).trans (s.get_resetCore_reset (by decide +kernel))
  hst := (s.get_warmCore (Fld.clear_of_apart (by decide) _ _)).trans (s.get_resetCore_reset (by decide +kernel))
  utx := rfl
  hfr := rfl

theorem State.warmPinned_still : (s.warmCore.set RGE.KILL_PIN 1).Still where
  grant := (State.get_set_apart _ (by decide) _).trans s.warmCore_still.grant
  hst := (State.get_set_apart _ (by decide) _).trans s.warmCore_still.hst
  utx := rfl
  hfr := rfl

/-- A kill that stands adds registers and the enforcer's records alone. -/
theorem State.warmBase_only : RgeOnly s.warmCore s.warmBase := by
  rw [State.warmBase_eq]
  split
  · exact (RgeOnly.set _ _ _).trans (s.warmPinned_still.killBy_only _ _ (by decide) (by decide))
  · exact .refl

theorem State.warmCore_nv : s.warmCore.nv = s.nv := by
  simp [State.warmCore, State.copiesFresh, State.setBit, State.resetCore, State.dropCore]
theorem State.warmCore_objs : s.warmCore.objs = s.objs := by
  simp [State.warmCore, State.copiesFresh, State.setBit, State.resetCore, State.dropCore]
theorem State.warmCore_que : s.warmCore.que = [] := by
  simp [State.warmCore, State.copiesFresh, State.setBit, State.resetCore, State.dropCore]
theorem State.warmCore_refHeld : s.warmCore.coreP.refHeld = s.coreP.refHeld := by unfold State.warmCore; rfl

theorem State.warmBase_nv : s.warmBase.nv = s.nv := s.warmBase_only.nv.trans s.warmCore_nv
theorem State.warmBase_objs : s.warmBase.objs = s.objs := s.warmBase_only.objs.trans s.warmCore_objs
theorem State.warmBase_que : s.warmBase.que = [] := s.warmBase_only.que.trans s.warmCore_que
theorem State.warmBase_refHeld : s.warmBase.coreP.refHeld = s.coreP.refHeld :=
  (congrArg CoreP.refHeld s.warmBase_only.coreP).trans s.warmCore_refHeld

theorem State.rd8_warmBase (a : Nat) : s.warmBase.rd8 a = if a < 0x28000000 then 0 else s.rd8 a :=
  (congrArg (fun m => (Tab.get 0 m a).toNat) s.warmBase_only.mem).trans (s.rd8_warmCore a)

/-- A register of AON keeps its value but for those that show the domains off. -/
theorem State.get_warmBase_kept {f : Fld} {n : Nat} (hkept : keptKey (f.key n) = true) (hf : f.clear n warmFlds 0) :
    s.warmBase.get f n = s.get f n := by
  have hcore : s.warmCore.get f n = s.get f n := (s.get_warmCore hf).trans (s.get_resetCore_kept hkept)
  have hne : ∀ g ∈ RGE.KILL_PIN :: killPinFlds, f.key n ≠ g.key 0 := by
    have hlost : ∀ g ∈ RGE.KILL_PIN :: killPinFlds, keptKey (g.key 0) = false := by decide +kernel
    intro g hg heq
    exact Bool.false_ne_true ((hlost g hg).symm.trans ((congrArg keptKey heq).symm.trans hkept))
  rw [State.warmBase_eq]
  split
  · rw [s.warmPinned_still.get_killPin (fun g hg => hne g (List.mem_cons_of_mem _ hg)),
      State.get_set_ne _ _ _ _ _ _ (hne _ (by decide)), hcore]
  · exact hcore

end

/-- A reset is held while REF_FAIL holds the device (R466). -/
theorem State.warm_of_held {s : State} (h : s.coreP.refHeld = true) : s.warm = s.warmBase := by
  rw [State.warm, s.warmBase_refHeld, h, if_pos rfl]

end Sys2Proof.Machine
end

section
/-! PROOFS. R409 to R412, R493, R494, R500: the commands that are writes of one object. Each is the write of its object's value, so
outside FAILSAFE and with no transfer open to the object it has the effect that the object's write has, and else none. -/

namespace Sys2Proof.Machine

open Sys2Proof

/-! ### The write of an object that is a command -/

/-- Outside FAILSAFE an object of the communication profile may be reached (R411). -/
theorem State.odReach_of_low {s : State} {i : Nat} (hmode : s.mode ≠ mdFAILSAFE) (hlow : 0x0100 ≤ i) (hhigh : i ≤ 0x1FFF)
    (hindex : odIndex i = true) (w : Bool) : s.odReach i w = odOK := by
  have : ¬ 0xF000 ≤ i := by omega
  simp [State.odReach, this, hindex, hlow, hhigh, hmode]

/-- In FAILSAFE no object is reached (R411, R498). -/
theorem State.odReach_failsafe {s : State} {i : Nat} (hmode : s.mode = mdFAILSAFE) (w : Bool) : s.odReach i w ≠ odOK := by
  have hlamp : (mdFAILSAFE == mdLAMP) = false := by decide
  unfold State.odReach
  rw [hmode, hlamp]
  split
  · split <;> decide
  · split
    · decide
    · simp [odOK, odSTATE]

/-- The write-only objects of one value: STORE, RESTORE, LC_REQUEST, CONFIRM and BOOT_REQUEST, each with its type and its length. -/
def cmdObjs : List (Nat × Nat × Nat) := [(0x0110, 1, 1), (0x0111, 1, 1), (0x0121, 3, 4), (0x0133, 1, 1), (0x0137, 1, 1)]

/-- The entry of such an object. -/
def cmdObj (i ty : Nat) : ObjDef := ⟨i, 1, 0, 1, ty, .wo, .own, [], []⟩

theorem objFind_cmd : ∀ p ∈ cmdObjs, objFind p.1 0 = some (cmdObj p.1 p.2.1) := by decide +kernel

theorem odIndex_cmd : ∀ p ∈ cmdObjs, odIndex p.1 = true ∧ 0x0100 ≤ p.1 ∧ p.1 ≤ 0x1FFF := by decide +kernel

/-- Every value of the right length passes its check. -/
theorem State.odCheck_cmd (s : State) {p : Nat × Nat × Nat} (hp : p ∈ cmdObjs) {v : List Nat} (hv : v.length = p.2.2) :
    s.odCheck (cmdObj p.1 p.2.1) p.1 0 v = odOK := by
  have hlen : ∀ p ∈ cmdObjs, tyLenOk p.2.1 p.2.2 = true ∧ p.2.1 ≠ 12 ∧ p.2.1 ≠ 10 ∧
      ∀ x, objInRange (cmdObj p.1 p.2.1) p.1 0 x = true := by
    simp [cmdObjs, tyLenOk, tyBytes, objInRange, cmdObj, toLe_length]
  obtain ⟨hty, h12, h10, hrange⟩ := hlen p hp
  have hobj : (cmdObj p.1 p.2.1).ty = p.2.1 := rfl
  simp [State.odCheck, hobj, hv, hty, h12, h10, hrange]

section
variable {s : State} {i ty : Nat}

/-- In FAILSAFE the write of an object has no effect, whatever it holds (R498). -/
theorem State.odWrite_failsafe (hmode : s.mode = mdFAILSAFE) (v : List Nat) : (s.odWrite i 0 ty v).2 = s := by
  have hbar : s.odBar i 0 ≠ odOK := by simp [State.odBar, State.odReach_failsafe hmode]
  simp [State.odWrite, State.odPut, hbar]

/-- While a transfer to the object is open its write has none (R409). -/
theorem State.odWrite_xfer (hxfer : s.xferOpen i 0 = true) (v : List Nat) : (s.odWrite i 0 ty v).2 = s := by
  unfold State.odWrite
  by_cases hbar : s.odBar i 0 = odOK
  · simp [hbar, hxfer]
  · simp [State.odPut, hbar]

end

/-- Else the value of a command's object takes effect. -/
theorem State.odWrite_cmd {s : State} {p : Nat × Nat × Nat} (hp : p ∈ cmdObjs) (hmode : s.mode ≠ mdFAILSAFE)
    (hxfer : s.xferOpen p.1 0 = false) (v : List Nat) :
    s.odWrite p.1 0 p.2.1 v = s.objApply (cmdObj p.1 p.2.1) p.1 0 v := by
  obtain ⟨hindex, hlow, hhigh⟩ := odIndex_cmd p hp
  have hacc : (cmdObj p.1 p.2.1).acc = .wo := rfl
  have hty : (cmdObj p.1 p.2.1).ty = p.2.1 := rfl
  have hbar : s.odBar p.1 0 = odOK := by
    simp [State.odBar, State.odReach_of_low hmode hlow hhigh hindex, objFind_cmd p hp, hacc]
  simp [State.odWrite, State.odPut, hbar, hxfer, objFind_cmd p hp, hty]

/-! ### Their effects -/

section
variable {s : State} {v : List Nat}

theorem State.objApply_store :
    s.objApply (cmdObj 0x0110 1) 0x0110 0 [1] = if s.on PWR.STATE_LEW then (odSTATE, s) else (odOK, s.storeAll) := rfl

theorem State.objApply_restore : s.objApply (cmdObj 0x0111 1) 0x0111 0 [1] = (odOK, s.restoreAll) := rfl

theorem State.objApply_bootRequest (n : Nat) :
    s.objApply (cmdObj 0x0137 1) 0x0137 0 (toLe 1 n) =
      if ofLe (toLe 1 n) == 1 then (odOK, s.bootRequest) else (odRANGE, s) := rfl

/-- A request that the rules allow leaves its pending record and asserts WARM (R494, R495). -/
theorem State.lcRequest_allowed {new : Nat} (himg : s.imgXfer = false) (hnew : new < 256) (hallowed : s.lcAllowed new = true)
    (hlew : s.get PWR.STATE_LEW = 0) : s.lcRequest (0x4C433100 + new) = (odOK, (s.lcBegin new).softReset) := by
  have hmagic : (0x4C433100 + new) / 256 = 0x4C4331 := by omega
  have hcode : (0x4C433100 + new) % 256 = new := by omega
  simp [State.lcRequest, himg, hmagic, hcode, hallowed, State.on, hlew]

theorem State.lcRequest_refused {n : Nat}
    (h : n / 256 ≠ 0x4C4331 ∨ s.lcAllowed (n % 256) = false ∨ s.get PWR.STATE_LEW ≠ 0 ∨ s.imgXfer = true) :
    (s.lcRequest n).2 = s := by
  unfold State.lcRequest
  split
  · rfl
  · next himg =>
    rcases h with h | h | h | h
    · simp [h]
    · simp [h]
    · simp [State.on, h]
    · exact absurd h himg

end

section
variable {s : State}

theorem exec_store {s : State} (hmode : s.mode ≠ mdFAILSAFE) (hxfer : s.xferOpen 0x0110 0 = false) :
    exec .store s = .next (if s.on PWR.STATE_LEW then s else s.storeAll) := by
  have h := State.odWrite_cmd (p := (0x0110, 1, 1)) (by decide) hmode hxfer [1]
  rw [State.objApply_store] at h
  refine (congrArg (fun r => Host.Outcome.next r.2) h).trans ?_
  split <;> rfl

theorem exec_store_lew (hlew : s.get PWR.STATE_LEW ≠ 0) : exec .store s = .next s := by
  have hon : s.on PWR.STATE_LEW = true := by simpa [State.on] using hlew
  by_cases hmode : s.mode = mdFAILSAFE
  · exact congrArg Host.Outcome.next (State.odWrite_failsafe hmode [1])
  · cases hxfer : s.xferOpen 0x0110 0 with
    | true => exact congrArg Host.Outcome.next (State.odWrite_xfer hxfer [1])
    | false => rw [exec_store hmode hxfer, if_pos hon]

theorem exec_restore (hmode : s.mode ≠ mdFAILSAFE) (hxfer : s.xferOpen 0x0111 0 = false) :
    exec .restore s = .next s.restoreAll := by
  have hexec : exec .restore s = .next (s.odWrite 0x0111 0 1 [1]).2 := rfl
  have h : s.odWrite 0x0111 0 1 [1] = s.objApply (cmdObj 0x0111 1) 0x0111 0 [1] :=
    State.odWrite_cmd (p := (0x0111, 1, 1)) (by decide) hmode hxfer [1]
  rw [hexec, h, State.objApply_restore]

theorem exec_lcRequest {v : Nat} (hv : v < 2 ^ 32) (hmode : s.mode ≠ mdFAILSAFE) (hxfer : s.xferOpen 0x0121 0 = false) :
    exec (.lcRequest v) s = .next (s.lcRequest v).2 := by
  have h := State.odWrite_cmd (p := (0x0121, 3, 4)) (by decide) hmode hxfer (toLe 4 v)
  have hcheck := s.odCheck_cmd (p := (0x0121, 3, 4)) (by decide) (toLe_length 4 v)
  rw [State.objApply_lcRequest, hcheck, ofLe_toLe, Nat.mod_eq_of_lt (show v < 256 ^ 4 from hv)] at h
  exact congrArg (fun r => Host.Outcome.next r.2) h

theorem exec_lcRequest_allowed {new : Nat} (hmode : s.mode ≠ mdFAILSAFE) (hxfer : s.xferOpen 0x0121 0 = false)
    (himg : s.imgXfer = false) (hnew : new < 256) (hallowed : s.lcAllowed new = true) (hlew : s.get PWR.STATE_LEW = 0) :
    exec (.lcRequest (0x4C433100 + new)) s = .next ((s.lcBegin new).set SYS.RST_CAUSE_SOFT 1).warm := by
  rw [exec_lcRequest (by omega) hmode hxfer, State.lcRequest_allowed himg hnew hallowed hlew]
  rfl

/-- Only the code 1 asks for a boot of the spare images (R493). -/
theorem exec_bootRequest {v : Nat} (hmode : s.mode ≠ mdFAILSAFE) (hxfer : s.xferOpen 0x0137 0 = false) (hv : v % 256 = 1) :
    exec (.bootRequest v) s = .next s.bootRequest := by
  have h := State.odWrite_cmd (p := (0x0137, 1, 1)) (by decide) hmode hxfer (toLe 1 v)
  rw [State.objApply_bootRequest, ofLe_toLe, pow_one, hv] at h
  exact congrArg (fun r => Host.Outcome.next r.2) h

theorem exec_bootRequest_other {v : Nat} (hv : v % 256 ≠ 1) : exec (.bootRequest v) s = .next s := by
  by_cases hmode : s.mode = mdFAILSAFE
  · exact congrArg Host.Outcome.next (State.odWrite_failsafe hmode _)
  · cases hxfer : s.xferOpen 0x0137 0 with
    | true => exact congrArg Host.Outcome.next (State.odWrite_xfer hxfer _)
    | false =>
      have h := State.odWrite_cmd (p := (0x0137, 1, 1)) (by decide) hmode hxfer (toLe 1 v)
      rw [State.objApply_bootRequest, ofLe_toLe, pow_one, if_neg (by simpa using hv)] at h
      exact congrArg (fun r => Host.Outcome.next r.2) h

theorem exec_confirm (hmode : s.mode ≠ mdFAILSAFE) (hxfer : s.xferOpen 0x0133 0 = false) :
    exec .confirm s = .next s.confirm.2 := by
  have h := State.odWrite_cmd (p := (0x0133, 1, 1)) (by decide) hmode hxfer [1]
  exact congrArg (fun r => Host.Outcome.next r.2) h

theorem exec_confirm_other (hmode : s.mode ≠ mdFULL) : exec .confirm s = .next s := by
  by_cases hfail : s.mode = mdFAILSAFE
  · exact congrArg Host.Outcome.next (State.odWrite_failsafe hfail [1])
  · cases hxfer : s.xferOpen 0x0133 0 with
    | true => exact congrArg Host.Outcome.next (State.odWrite_xfer hxfer [1])
    | false =>
      rw [exec_confirm hfail hxfer]
      simp [State.confirm, hmode]

end

/-! ### The boot pointer and the rollback counters (R493) -/

section
variable (s : State) (v : Nat)

@[simp] theorem State.bootPtrTo_nv : (s.bootPtrTo v).nv = { s.nv with bootPtr := v } := rfl
@[simp] theorem State.bootPtrTo_mem : (s.bootPtrTo v).mem = s.mem := rfl
@[simp] theorem State.bootPtrTo_objs : (s.bootPtrTo v).objs = s.objs := rfl
@[simp] theorem State.bootPtrTo_coreP : (s.bootPtrTo v).coreP = s.coreP := rfl

@[simp] theorem State.get_voteClean (f : Fld) (n : Nat) : (s.voteClean v).get f n = s.get f n := rfl

theorem State.bootPtrTo_trial : (s.bootPtrTo v).get AON.BOOT_PTR_TRIAL = v / 256 % 2 := State.get_set_same _ _ _ _

/-- The spare slot is one of two. -/
theorem State.imgSpare_lt (kind : Nat) : s.imgSpare kind < 2 := by
  unfold State.imgSpare
  split <;> omega

/-- CONFIRM's counter `k`: raised to that of the image in use. -/
def State.rollTo (s t : State) (k : Nat) : Nat :=
  match s.imgUsed k with
  | some slot => max (Tab.get 0 t.nv.rollP k) (le32 (if k == 0 then s.coreP.fwHdr else s.imgHdr k slot) 16)
  | none => Tab.get 0 t.nv.rollP k

/-- The primary copies of all three counters raised. -/
def State.rolled (s : State) : State := s.forN 3 fun k t => { t with nv.rollP := Tab.set 0 t.nv.rollP k (s.rollTo t k) }

theorem State.le_rollTo (t : State) (k : Nat) : Tab.get 0 t.nv.rollP k ≤ s.rollTo t k := by
  unfold State.rollTo
  split
  · exact le_max_left _ _
  · exact le_rfl

/-- No counter falls. -/
theorem State.le_rolled (k : Nat) : Tab.get 0 s.nv.rollP k ≤ Tab.get 0 s.rolled.nv.rollP k := by
  refine State.forN_keep (fun t => Tab.get 0 s.nv.rollP k ≤ Tab.get 0 t.nv.rollP k) _ 3 s le_rfl fun n _ t ht => ?_
  refine ht.trans ?_
  by_cases hk : k = n
  · subst hk
    exact (s.le_rollTo t k).trans_eq (Tab.get_set_same _ _ _ _).symm
  · exact (Tab.get_set_ne _ _ _ _ hk).symm.le

/-- The pointer, memory and the objects stay. -/
theorem State.rolled_kept : s.rolled.nv.bootPtr = s.nv.bootPtr ∧ s.rolled.mem = s.mem ∧ s.rolled.objs = s.objs :=
  State.forN_keep (fun t => t.nv.bootPtr = s.nv.bootPtr ∧ t.mem = s.mem ∧ t.objs = s.objs) _ 3 s ⟨rfl, rfl, rfl⟩
    fun _ _ _ ht => ht

theorem State.confirm_full (hmode : s.mode = mdFULL) :
    s.confirm.2 = (({ s.rolled with nv.rollB := s.rolled.nv.rollP } : State).bootPtrTo (s.rolled.nv.bootPtr % 256)).voteClean 5 := by
  simp [State.confirm, hmode]
  rfl

end

/-- The word that BOOT_REQUEST gives the pointer: the spare slots that hold accepted images, a trial with three tries. -/
def State.bootWord (s : State) : Nat :=
  let pick := fun (k : Nat) (f : Fld) => if s.imgOk k (s.imgSpare k) then s.imgSpare k else s.get f
  pick 0 AON.BOOT_PTR_FW + 2 * pick 1 AON.BOOT_PTR_LSQ + 4 * pick 2 AON.BOOT_PTR_TBL + 3 * 16 + 256

/-- BOOT_REQUEST's state before its reset. -/
def State.bootAsked (s : State) : State :=
  (({ s with nv.bootPrev := s.nv.bootPtr } : State).bootPtrTo s.bootWord).voteClean 5

section
variable (s : State)

theorem State.bootRequest_eq : s.bootRequest = s.bootAsked.softReset := rfl

theorem State.bootAsked_nv : s.bootAsked.nv = { s.nv with bootPrev := s.nv.bootPtr, bootPtr := s.bootWord } := rfl

/-- The word shows a trial with three tries, and the spare firmware slot where it holds an accepted image. -/
theorem State.bootWord_parts {s : State} (hfw : s.get AON.BOOT_PTR_FW < 2) (hlsq : s.get AON.BOOT_PTR_LSQ < 2)
    (htbl : s.get AON.BOOT_PTR_TBL < 2) :
    bitOf s.bootWord 8 = true ∧ bits s.bootWord 7 4 = 3 ∧
      (s.imgOk 0 (s.imgSpare 0) = true → s.bootWord % 2 = s.imgSpare 0) := by
  have hpick : ∀ k (f : Fld), s.get f < 2 → (if s.imgOk k (s.imgSpare k) then s.imgSpare k else s.get f) < 2 := by
    intro k f hf
    split
    · exact s.imgSpare_lt k
    · exact hf
  have h0 := hpick 0 _ hfw
  have h1 := hpick 1 _ hlsq
  have h2 := hpick 2 _ htbl
  unfold State.bootWord
  extract_lets pick
  have hp0 : pick 0 AON.BOOT_PTR_FW < 2 := h0
  have hp1 : pick 1 AON.BOOT_PTR_LSQ < 2 := h1
  have hp2 : pick 2 AON.BOOT_PTR_TBL < 2 := h2
  have hspare : s.imgOk 0 (s.imgSpare 0) = true → pick 0 AON.BOOT_PTR_FW = s.imgSpare 0 := fun h => if_pos h
  generalize pick 0 AON.BOOT_PTR_FW = a at *
  generalize pick 1 AON.BOOT_PTR_LSQ = b at *
  generalize pick 2 AON.BOOT_PTR_TBL = c at *
  refine ⟨?_, ?_, fun h => ?_⟩
  · simp [bitOf]
    omega
  · simp only [bits]
    omega
  · have := hspare h
    omega

/-- A software reset of a held device keeps MRAM and the objects and notes its cause. -/
theorem State.softReset_held {s : State} (hheld : s.coreP.refHeld = true) :
    s.softReset.nv = s.nv ∧ s.softReset.get SYS.RST_CAUSE_SOFT = 1 ∧ s.softReset.objs = s.objs := by
  have hwarm : s.softReset = (s.set SYS.RST_CAUSE_SOFT 1).warmBase := State.warm_of_held hheld
  rw [hwarm, State.warmBase_nv, State.warmBase_objs, State.get_warmBase_kept _ (by decide +kernel) (Fld.clear_of_apart (by decide) _ _)]
  exact ⟨rfl, State.get_set_same _ _ _ _, rfl⟩

end

/-- Settles O55: each command is the write of its object, refused in FAILSAFE and under an open transfer, and its effect is the
object's. -/
theorem objectCommands : Obligations.ObjectCommands := by
  unfold Obligations.ObjectCommands
  refine ⟨?_, ?_, ?_, ?_, ?_, ?_, ?_, ?_, ?_, ?_, ?_, ?_, ?_, ?_⟩
  · intro s v c hmode hc
    rcases hc with rfl | rfl | rfl | rfl | rfl <;> exact congrArg Host.Outcome.next (State.odWrite_failsafe hmode _)
  · intro s v i c hxfer hic
    simp only [List.mem_cons, Prod.mk.injEq, List.not_mem_nil, or_false] at hic
    rcases hic with ⟨rfl, rfl⟩ | ⟨rfl, rfl⟩ | ⟨rfl, rfl⟩ | ⟨rfl, rfl⟩ | ⟨rfl, rfl⟩ <;>
      exact congrArg Host.Outcome.next (State.odWrite_xfer hxfer _)
  · intro s hmode hxfer hlew hptr
    rw [exec_store hmode hxfer]
    simp [State.on, hlew, State.storeAll, State.odBank, hptr]
  · intro s hmode hxfer hlew hptr
    rw [exec_store hmode hxfer]
    simp [State.on, hlew, State.storeAll, State.odBank, hptr]
  · exact fun s => exec_store_lew
  · exact fun s => exec_restore
  · intro s v hv hno
    refine exec_lcRequest_of_refused ?_
    rw [ofLe_toLe, Nat.mod_eq_of_lt (show v < 256 ^ 4 from hv)]
    exact State.lcRequest_refused hno
  · intro s new hmode hxfer himg hnew hallowed hlew hheld
    obtain ⟨hnv, hsoft, hobjs⟩ := State.softReset_held (s := s.lcBegin new) hheld
    exact ⟨_, exec_lcRequest_allowed hmode hxfer himg hnew hallowed hlew, hnv, hsoft, hobjs⟩
  · exact fun s new => exec_lcRequest_allowed
  · exact fun s v => exec_bootRequest_other
  · intro s hmode hxfer hheld hfw hlsq htbl
    obtain ⟨hnv, hsoft, -⟩ := State.softReset_held (s := s.bootAsked) hheld
    obtain ⟨htrial, htries, hspare⟩ := State.bootWord_parts hfw hlsq htbl
    refine ⟨_, exec_bootRequest hmode hxfer rfl, ?_⟩
    rw [s.bootRequest_eq, hnv, s.bootAsked_nv]
    exact ⟨rfl, htrial, htries, hsoft, hspare⟩
  · exact fun s v => exec_bootRequest
  · exact fun s => exec_confirm_other
  · intro s hmode hxfer
    have hfail : s.mode ≠ mdFAILSAFE := by rw [hmode]; decide
    refine ⟨_, exec_confirm hfail hxfer, ?_⟩
    rw [s.confirm_full hmode]
    have hle := s.le_rolled
    obtain ⟨hptr, hmem, hobjs⟩ := s.rolled_kept
    have htrial : s.rolled.nv.bootPtr % 256 / 256 = 0 := by omega
    refine ⟨?_, ?_, ?_, fun k _ => ?_, ?_, ?_⟩
    · rw [State.voteClean_nv, State.bootPtrTo_nv, hptr]
    · rw [State.get_voteClean, State.bootPtrTo_trial, htrial]
    · rw [State.voteClean_nv, State.bootPtrTo_nv]
    · rw [State.voteClean_nv, State.bootPtrTo_nv]
      exact hle k
    · rw [State.voteClean_mem, State.bootPtrTo_mem, hmem]
    · rw [State.voteClean_objs, State.bootPtrTo_objs, hobjs]

end Sys2Proof.Machine
end

section
/-! PROOFS. R505 to R516: Fulling's sequences. A run, an abort and an end each write Fulling's own registers; what the synthesizers of a
calibration do on top leaves those registers, the working record and memory. -/

namespace Sys2Proof.Machine

open Sys2Proof

/-! ### Registers that an operation leaves -/

/-- No register of `g` lies under a key of `K`. -/
def Fld.off (g : Fld) (K : List Nat) : Bool := K.all fun k => k % (g.stride * 32) != g.key 0 % (g.stride * 32)

theorem Fld.key_notMem_of_off {g : Fld} {K : List Nat} (h : g.off K = true) (n : Nat) : g.key n ∉ K := by
  intro hmem
  have hne : g.key n % (g.stride * 32) ≠ g.key 0 % (g.stride * 32) := by
    simpa using List.all_eq_true.mp h _ hmem
  refine hne ?_
  rw [g.key_eq n, Nat.add_mul_mod_self_right]

/-- The registers under the keys of `K` read in `t` as in `s`. -/
def Keeps (K : List Nat) (s t : State) : Prop := ∀ (f : Fld) (n : Nat), f.key n ∈ K → t.get f n = s.get f n

namespace Keeps
variable {K : List Nat} {s t u : State}

theorem refl (K : List Nat) (s : State) : Keeps K s s := fun _ _ _ => rfl

theorem trans (h : Keeps K s t) (h' : Keeps K t u) : Keeps K s u := fun f n hf => (h' f n hf).trans (h f n hf)

/-- What is changed beside the registers is not seen. -/
theorem of_regs (h : t.regs = s.regs) : Keeps K s t := fun f n _hf => congrArg (Tab.get (f.rst n) · (f.key n)) h

theorem set_key (h : Keeps K s t) {g : Fld} {n : Nat} (hg : g.key n ∉ K) (v : Nat) : Keeps K s (t.set g v n) :=
  h.trans fun _ _ hf => State.get_set_ne _ _ _ _ _ _ fun heq => hg (heq ▸ hf)

theorem set (h : Keeps K s t) (g : Fld) (v n : Nat) (hg : g.off K = true := by decide) : Keeps K s (t.set g v n) :=
  h.set_key (Fld.key_notMem_of_off hg n) v

theorem setBit (h : Keeps K s t) (g : Fld) (k : Nat) (b : Bool) (n : Nat) (hg : g.off K = true := by decide) :
    Keeps K s (t.setBit g k b n) := h.set g _ n hg

theorem bump (h : Keeps K s t) (c d : Fld) (n k : Nat) (hc : c.off K = true := by decide) (hd : d.off K = true := by decide) :
    Keeps K s (t.bump c d n k) := by
  unfold State.bump
  split
  · exact h.set c _ n hc
  · exact (h.set c _ n hc).set d _ n hd

theorem setOps (h : Keeps K s t) (n : Nat) (o : SeqOps) : Keeps K s (t.setOps n o) := h.trans (of_regs rfl)

theorem setSynth (h : Keeps K s t) (n : Nat) (y : Synth) : Keeps K s (t.setSynth n y) := h.trans (of_regs rfl)

theorem forL {α : Type} (h : Keeps K s t) (l : List α) {g : α → State → State} (hg : ∀ i ∈ l, ∀ u, Keeps K s u → Keeps K s (g i u)) :
    Keeps K s (t.forL l g) := State.forL_keep (Keeps K s) g l t h hg

theorem forN (h : Keeps K s t) (k : Nat) {g : Nat → State → State} (hg : ∀ i, i < k → ∀ u, Keeps K s u → Keeps K s (g i u)) :
    Keeps K s (t.forN k g) := State.forN_keep (Keeps K s) g k t h hg

theorem get (h : Keeps K s t) {f : Fld} {n : Nat} (hf : f.key n ∈ K := by decide) : t.get f n = s.get f n := h f n hf

end Keeps

/-- An event counter stands at one more, or at its largest (R446). -/
theorem State.get_bump_min (s : State) {c d : Fld} (n : Nat) (hw : c.width = 32) (hd : c.apart d = true) :
    (s.bump c d n).get c n = min 0xFFFFFFFF (s.get c n + 1) := by
  unfold State.bump
  split
  · next h => rw [State.get_set_fits _ (by rw [hw]; omega), min_eq_right h]
  · next h => rw [State.get_set_apart _ hd, State.get_set_fits _ (by rw [hw]; decide), min_eq_left (by omega)]

/-! ### What a calibration's synthesizers change -/

/-- The registers and the radio are all in which `t` may differ from `s`. -/
def RadioOnly (s t : State) : Prop := ∃ r x, t = { s with regs := r, radio := x }

namespace RadioOnly
variable {s t u : State}

theorem refl : RadioOnly s s := ⟨s.regs, s.radio, rfl⟩

theorem trans (h : RadioOnly s t) (h' : RadioOnly t u) : RadioOnly s u := by
  obtain ⟨r, x, rfl⟩ := h
  obtain ⟨r', x', rfl⟩ := h'
  exact ⟨r', x', rfl⟩

theorem set (h : RadioOnly s t) (f : Fld) (v n : Nat) : RadioOnly s (t.set f v n) := h.trans ⟨_, t.radio, rfl⟩

theorem bump (h : RadioOnly s t) (c d : Fld) (n k : Nat) : RadioOnly s (t.bump c d n k) := by
  unfold State.bump
  split
  · exact h.set _ _ _
  · exact (h.set _ _ _).set _ _ _

theorem setOps (h : RadioOnly s t) (n : Nat) (o : SeqOps) : RadioOnly s (t.setOps n o) := h.trans ⟨t.regs, _, rfl⟩

theorem setSynth (h : RadioOnly s t) (n : Nat) (y : Synth) : RadioOnly s (t.setSynth n y) := h.trans ⟨t.regs, _, rfl⟩

theorem forL {α : Type} (h : RadioOnly s t) (l : List α) {g : α → State → State}
    (hg : ∀ i ∈ l, ∀ u, RadioOnly s u → RadioOnly s (g i u)) : RadioOnly s (t.forL l g) :=
  State.forL_keep (RadioOnly s) g l t h hg

theorem forN (h : RadioOnly s t) (k : Nat) {g : Nat → State → State}
    (hg : ∀ i, i < k → ∀ u, RadioOnly s u → RadioOnly s (g i u)) : RadioOnly s (t.forN k g) :=
  State.forN_keep (RadioOnly s) g k t h hg

section
variable (h : RadioOnly s t)
include h
theorem mem : t.mem = s.mem := by obtain ⟨r, x, rfl⟩ := h; rfl
theorem age : t.age = s.age := by obtain ⟨r, x, rfl⟩ := h; rfl
theorem calWork : t.calWork = s.calWork := by obtain ⟨r, x, rfl⟩ := h; rfl
theorem calTarget : t.calTarget = s.calTarget := by obtain ⟨r, x, rfl⟩ := h; rfl
end

theorem lockAnswer (h : RadioOnly s t) (m err : Nat) : RadioOnly s (t.lockAnswer m err) := by
  refine h.forN 4 fun sh _ u hu => ?_
  dsimp only
  split
  · split
    · exact (hu.setOps _ _).set _ _ _
    · exact hu
  · exact hu

theorem rfsLock (h : RadioOnly s t) (m : Nat) (full : Bool) : RadioOnly s (t.rfsLock m full) := by
  unfold State.rfsLock
  extract_lets carrying
  split
  · exact (h.set _ _ _).lockAnswer _ _
  · split
    · exact h
    · split
      · exact ((h.set _ _ _).forL _ fun c _ u hu => (hu.set _ _ _).set _ _ _).lockAnswer _ _
      · split
        · exact (h.set _ _ _).lockAnswer _ _
        · split
          · exact h.setSynth _ _
          · exact ((h.setSynth _ _).set _ _ _).set _ _ _

theorem calRelock (h : RadioOnly s t) (n : Nat) : RadioOnly s (t.calRelock n) := (h.set _ _ _).rfsLock _ _

theorem rfsCalStart (h : RadioOnly s t) (n : Nat) : RadioOnly s (t.rfsCalStart n) := ((h.setSynth _ _).set _ _ _).set _ _ _
end RadioOnly

/-- Fulling's state and result. -/
def calKeys : List Nat := [CAL.STATE_BUSY, CAL.STATE_SEQ, CAL.RESULT_CODE, CAL.RESULT_SEQ, CAL.STATUS_ABORTED].map fun f => f.key 0

namespace Keeps
variable {s t : State} (h : Keeps calKeys s t)
include h

theorem lockAnswer (m err : Nat) : Keeps calKeys s (t.lockAnswer m err) := by
  refine h.forN 4 fun sh _ u hu => ?_
  dsimp only
  split
  · split
    · exact (hu.setOps _ _).setBit LSC.EVP_EVP _ _ _
    · exact hu
  · exact hu

theorem rfsLock (m : Nat) (full : Bool) : Keeps calKeys s (t.rfsLock m full) := by
  unfold State.rfsLock
  extract_lets carrying
  split
  · exact (h.set RFS.STATUS_REFUSED _ _).lockAnswer _ _
  · split
    · exact h
    · split
      · exact ((h.set RFS.STATUS_REFUSED _ _).forL _ fun c _ u hu =>
          (hu.set UTX.STATE_LAST_ERR _ _).set UTX.STATUS_CMD_ERR _ _).lockAnswer _ _
      · split
        · exact (h.set RFS.STATUS_RANGE_ERR _ _).lockAnswer _ _
        · split
          · exact h.setSynth _ _
          · exact ((h.setSynth _ _).set RFS.STATE_HINT_USED _ _).set RFS.STATE_STATE _ _

theorem calRelock (n : Nat) : Keeps calKeys s (t.calRelock n) := (h.set RFS.STATE_STATE _ _).rfsLock _ _

theorem rfsCalStart (n : Nat) : Keeps calKeys s (t.rfsCalStart n) :=
  ((h.setSynth _ _).set RFS.STATE_CAL_PENDING _ _).set RFS.STATE_STATE _ _
end Keeps

end Sys2Proof.Machine
end

section
/-! PROOFS. R505 to R516: what CMD.RUN, CMD.ABORT and the end of a sequence do. -/

namespace Sys2Proof.Machine

open Sys2Proof

/-! ### CMD.RUN (R509, R512) -/

section
variable {s : State} {seq target : Nat}

theorem State.calRun_busy (h : s.get CAL.STATE_BUSY ≠ 0) : s.calRun seq target = s.set CAL.STATUS_CMD_ERR 1 := by
  simp [State.calRun, State.on, h]

theorem State.calRun_unknown (hidle : s.get CAL.STATE_BUSY = 0) (h : seq = 0 ∨ 13 < seq ∨ 2 ^ calUnits seq ≤ target) :
    s.calRun seq target = s.calAborted seq 12 := by
  have : (seq == 0 || 13 < seq || decide (2 ^ calUnits seq ≤ target)) = true := by simpa [or_assoc] using h
  simp [State.calRun, State.on, hidle, this]

theorem State.calRun_known (hidle : s.get CAL.STATE_BUSY = 0) (h1 : 1 ≤ seq) (h13 : seq ≤ 13) (ht : target < 2 ^ calUnits seq) :
    s.calRun seq target =
      if s.calPre seq (s.calNamed seq target) ≠ 0 then s.calAborted seq (s.calPre seq (s.calNamed seq target))
      else if seq = 7 then
        ({ (s.set CAL.STATE_BUSY 1).set CAL.STATE_SEQ seq with calTarget := target } : State).forL (s.calNamed seq target)
          fun n t => if t.isMember n then t.set RFS.STATUS_REFUSED 1 n else t.rfsCalStart n
      else { (s.set CAL.STATE_BUSY 1).set CAL.STATE_SEQ seq with calTarget := target } := by
  have hknown : (seq == 0 || 13 < seq || decide (2 ^ calUnits seq ≤ target)) = false := by
    simp only [Bool.or_eq_false_iff, beq_eq_false_iff_ne, decide_eq_false_iff_not]
    omega
  simp [State.calRun, State.on, hidle, hknown]

/-- The run that CMD asks for. -/
def State.calAsked (s : State) (q t : Nat) : State := (s.set CAL.CMD_SEQ q).set CAL.CMD_TARGET t

theorem exec_calRun {m : Master} (hseq : seq < 16) (ht : target < 65536) :
    exec (.calRun m seq target) s = .next ((s.calAsked seq target).calRun seq target) := by
  have hq : (s.calAsked seq target).get CAL.CMD_SEQ = seq :=
    (State.get_set_apart _ (by decide) _).trans (State.get_set_fits _ hseq)
  have htarget : (s.calAsked seq target).get CAL.CMD_TARGET = target := State.get_set_fits _ ht
  have hexec : exec (.calRun m seq target) s = .next ((s.calAsked seq target).calRun ((s.calAsked seq target).get CAL.CMD_SEQ)
    ((s.calAsked seq target).get CAL.CMD_TARGET)) := rfl
  rw [hexec, hq, htarget]

/-- Writing CMD leaves every other register. -/
theorem State.get_calAsked {f : Fld} (hs : f.apart CAL.CMD_SEQ = true) (ht : f.apart CAL.CMD_TARGET = true) :
    (s.calAsked seq target).get f = s.get f :=
  (State.get_set_apart _ ht _).trans (State.get_set_apart _ hs _)

end

theorem ite_lt_both {c : Prop} [Decidable c] {a b k : Nat} (ha : a < k) (hb : b < k) : (if c then a else b) < k := by
  split
  · exact ha
  · exact hb

/-- No precondition's code is out of RESULT's range. -/
theorem State.calPre_lt (s : State) (seq : Nat) (units : List Nat) : s.calPre seq units < 16 := by
  unfold State.calPre
  extract_lets rx fld
  repeat' apply ite_lt_both
  all_goals decide

theorem State.get_calAborted_count (s : State) (seq code : Nat) :
    (s.calAborted seq code).get CAL.CNT_ABORT_COUNT = min 0xFFFFFFFF (s.get CAL.CNT_ABORT_COUNT + 1) := by
  unfold State.calAborted
  rw [State.get_bump_min _ _ (by decide) (by decide)]
  simp (disch := decide) only [State.get_set_apart]

/-- A run that aborts at once (R509, R513). -/
theorem State.calAsked_aborted (s : State) {q t code : Nat} (hq : q < 16) (hcode : code < 16) :
    let v := (s.calAsked q t).calAborted q code
    v.get CAL.RESULT_CODE = code ∧ v.get CAL.RESULT_SEQ = q ∧ v.get CAL.STATUS_ABORTED = 1 ∧ v.get CAL.STATE_BUSY = 0 ∧
      v.get CAL.CNT_ABORT_COUNT = min 0xFFFFFFFF (s.get CAL.CNT_ABORT_COUNT + 1) ∧ v.mem = s.mem ∧ v.calWork = s.calWork := by
  intro v
  refine ⟨State.get_calAborted_code _ _ _ hcode, State.get_calAborted_seq _ _ _ hq, State.get_calAborted_aborted _ _ _,
    State.get_calAborted_busy _ _ _, ?_, State.calAborted_mem _ _ _, State.calAborted_calWork _ _ _⟩
  rw [State.get_calAborted_count, State.get_calAsked (by decide) (by decide)]

/-! ### A synthesizer calibration begun (R82, R512) -/

/-- One unit of the run: a gang member's synthesizer refuses it. -/
def State.calUnitStart (n : Nat) (t : State) : State := if t.isMember n then t.set RFS.STATUS_REFUSED 1 n else t.rfsCalStart n

/-- It is not a synthesizer's registers that say which chain is a gang member. -/
theorem State.isMember_calUnitStart (t : State) (k : Nat) {n : Nat} (hn : n < 4) :
    (State.calUnitStart k t).isMember n = t.isMember n := by
  have hlo : (State.calUnitStart k t).get UTX.CTRL_LO_SRC n = t.get UTX.CTRL_LO_SRC n := by
    unfold State.calUnitStart
    split
    · exact State.get_set_above _ (by decide) hn _
    · unfold State.rfsCalStart
      extract_lets y s1
      rw [State.get_set_above _ (by decide) hn, State.get_set_above _ (by decide) hn]
      rfl
  exact congrArg (· != n) hlo

theorem State.sst_calUnitStart_ne (t : State) {k n : Nat} (h : n ≠ k) : (State.calUnitStart k t).sst n = t.sst n := by
  unfold State.calUnitStart
  split
  · exact State.get_set_apart _ (by decide) _
  · unfold State.rfsCalStart
    extract_lets y s1
    exact (State.get_set_instance _ (by decide) h _).trans (State.get_set_apart _ (by decide) _)

theorem State.sst_calUnitStart (t : State) {n : Nat} (h : t.isMember n = false) : (State.calUnitStart n t).sst n = synCAL := by
  unfold State.calUnitStart
  rw [if_neg (by simp [h])]
  exact State.get_set_fits _ (by decide)

theorem State.refused_calUnitStart (t : State) (k n : Nat) (h : t.get RFS.STATUS_REFUSED n = 1 ∨ (n = k ∧ t.isMember n = true)) :
    (State.calUnitStart k t).get RFS.STATUS_REFUSED n = 1 := by
  unfold State.calUnitStart
  split
  · by_cases hn : n = k
    · subst hn
      exact State.get_set_fits _ (by decide)
    · rw [State.get_set_instance _ (by decide) hn]
      exact h.resolve_right fun h' => hn h'.1
  · next hk =>
    have hget : t.get RFS.STATUS_REFUSED n = 1 := h.resolve_right fun h' => hk (h'.1 ▸ h'.2)
    unfold State.rfsCalStart
    extract_lets y s1
    rw [State.get_set_apart _ (by decide), State.get_set_apart _ (by decide)]
    exact hget

section
variable (s : State) (l : List Nat)

theorem Keeps.calUnits : Keeps calKeys s (s.forL l State.calUnitStart) :=
  (Keeps.refl _ s).forL l fun n _ u hu => by
    unfold State.calUnitStart
    split
    · exact hu.set RFS.STATUS_REFUSED _ _
    · exact hu.rfsCalStart n

theorem RadioOnly.calUnits : RadioOnly s (s.forL l State.calUnitStart) :=
  RadioOnly.refl.forL l fun n _ u hu => by
    unfold State.calUnitStart
    split
    · exact hu.set _ _ _
    · exact hu.rfsCalStart n

variable {l} {n : Nat}

/-- Each unit named that no gang binds is in CAL. -/
theorem State.calUnits_started (hnd : l.Nodup) (hn : n ∈ l) (hlt : n < 4) (hfree : s.isMember n = false) :
    (s.forL l State.calUnitStart).sst n = synCAL :=
  State.forL_once (fun t => t.isMember n = false) (fun t => t.sst n = synCAL) State.calUnitStart hnd hn s hfree
    (fun k _ _ t ht => (t.isMember_calUnitStart k hlt).trans ht) (fun t ht => t.sst_calUnitStart ht)
    (fun _ _ hk t ht => (t.sst_calUnitStart_ne hk.symm).trans ht)

/-- Each gang member among them refuses. -/
theorem State.calUnits_refused (hnd : l.Nodup) (hn : n ∈ l) (hlt : n < 4) (hmember : s.isMember n = true) :
    (s.forL l State.calUnitStart).get RFS.STATUS_REFUSED n = 1 :=
  State.forL_once (fun t => t.isMember n = true) (fun t => t.get RFS.STATUS_REFUSED n = 1) State.calUnitStart hnd hn s hmember
    (fun k _ _ t ht => (t.isMember_calUnitStart k hlt).trans ht) (fun t ht => t.refused_calUnitStart n n (.inr ⟨rfl, ht⟩))
    (fun k _ _ t ht => t.refused_calUnitStart k n (.inl ht))

end

/-- The units of a synthesizer calibration are synthesizers, each named once. -/
theorem State.calNamed_synth (s : State) (t : Nat) : (s.calNamed 7 t).Nodup ∧ ∀ n ∈ s.calNamed 7 t, n < 4 := by
  unfold State.calNamed
  have hunits : calUnits 7 = 4 := by decide
  split
  · exact ⟨setBits_nodup _ _, fun n hn => hunits ▸ ((mem_setBits _ _ _).mp hn).1⟩
  · rw [if_neg (by decide), hunits]
    exact ⟨List.nodup_range, fun n hn => List.mem_range.mp hn⟩

end Sys2Proof.Machine
end

section
/-! PROOFS. R505 to R516: how a sequence ends, and what it leaves in the working record. -/

namespace Sys2Proof.Machine

open Sys2Proof

/-! ### The working record -/

section
variable (s : State)

theorem State.setCal_form (o : Nat) (b : List Nat) : ∃ w, s.setCal o b = { s with calWork := w } := by
  induction b generalizing s o with
  | nil => exact ⟨_, rfl⟩
  | cons x r ih =>
    obtain ⟨w, hw⟩ := ih { s with calWork := Tab.set 0 s.calWork o (x % 256) } (o + 1)
    exact ⟨w, by rw [State.setCal, hw]⟩

@[simp] theorem State.get_setCal (o : Nat) (b : List Nat) (f : Fld) (n : Nat) : (s.setCal o b).get f n = s.get f n := by
  obtain ⟨w, hw⟩ := s.setCal_form o b
  rw [hw]
  rfl

@[simp] theorem State.mem_setCal (o : Nat) (b : List Nat) : (s.setCal o b).mem = s.mem := by
  obtain ⟨w, hw⟩ := s.setCal_form o b
  rw [hw]

@[simp] theorem State.age_setCal (o : Nat) (b : List Nat) : (s.setCal o b).age = s.age := by
  obtain ⟨w, hw⟩ := s.setCal_form o b
  rw [hw]

@[simp] theorem State.calByte_set (f : Fld) (v n k : Nat) : (s.set f v n).calByte k = s.calByte k := rfl

/-- A byte of the record outside the bytes written stays. -/
theorem State.calByte_setCal_out {o k : Nat} {b : List Nat} (h : k < o ∨ o + b.length ≤ k) :
    (s.setCal o b).calByte k = s.calByte k := by
  induction b generalizing s o with
  | nil => rfl
  | cons x r ih =>
    simp only [List.length_cons] at h
    rw [State.setCal, ih _ (by omega)]
    exact Tab.get_set_ne _ _ _ _ (by omega)

/-- The first byte written reads back. -/
theorem State.calByte_setCal_head (o x : Nat) (r : List Nat) : (s.setCal o (x :: r)).calByte o = x % 256 := by
  rw [State.setCal, State.calByte_setCal_out _ (by omega)]
  exact Tab.get_set_same _ _ _ _

/-- The second byte written reads back. -/
theorem State.calByte_setCal_second (o x y : Nat) (r : List Nat) : (s.setCal o (x :: y :: r)).calByte (o + 1) = y % 256 := by
  rw [State.setCal]
  exact State.calByte_setCal_head _ _ _ _

end

/-! ### The end of a sequence (R505, R507, R510) -/

section
variable {s : State} {code : Nat} {res : List (Nat × List Nat)}

theorem State.calEnd_of_pre (h : s.calPre (s.get CAL.STATE_SEQ) (s.calNamed (s.get CAL.STATE_SEQ) s.calTarget) ≠ 0) :
    s.calEnd code res = s.calAbort (s.calPre (s.get CAL.STATE_SEQ) (s.calNamed (s.get CAL.STATE_SEQ) s.calTarget)) := by
  simp [State.calEnd, h]

theorem State.calEnd_measured (h : s.calPre (s.get CAL.STATE_SEQ) (s.calNamed (s.get CAL.STATE_SEQ) s.calTarget) = 0)
    (hcode : code = 8 ∨ code = 9) : s.calEnd code res = s.calAbort code := by
  simp [State.calEnd, h, hcode]

theorem State.calEnd_unknown (h : s.calPre (s.get CAL.STATE_SEQ) (s.calNamed (s.get CAL.STATE_SEQ) s.calTarget) = 0)
    (h0 : code ≠ 0) (h8 : code ≠ 8) (h9 : code ≠ 9) : s.calEnd code res = s := by
  simp [State.calEnd, h, h0, h8, h9]

/-- No measurement's code changes nothing, and with it nothing that was owed to the end while the sequence still runs. -/
theorem State.calBootRun_busy {l : List Nat} (hbusy : s.get CAL.STATE_BUSY ≠ 0) : s.calBootRun l = { s with age.bootSet := some l } := by
  cases l <;> simp [State.calBootRun, State.on, hbusy]

theorem State.calOwed_busy (hbusy : s.get CAL.STATE_BUSY ≠ 0) : s.calOwed = s := by
  have hgo : s.calBootGo = s := by
    unfold State.calBootGo
    split
    · next l hl => rw [State.calBootRun_busy hbusy, ← hl]
    · rfl
  simp [State.calOwed, State.on, hbusy, hgo]

theorem State.calEnd_in_range {q : Nat} {named : List Nat} {mine : List (Nat × List Nat)} (hq : q = s.get CAL.STATE_SEQ)
    (hnamed : named = s.calNamed q s.calTarget) (hpre : s.calPre q named = 0)
    (hmine : mine = res.filter fun r => calUnits q == 0 || named.contains (calUnit q r.1))
    (hrange : ∀ r ∈ mine, calInRange q r.2 = true) :
    s.calEnd 0 res = ((s.forL mine fun r t => t.calApply q r.1 r.2).sweepDone q).calFinished q
      (unitMask ((mine.map fun r => calUnit q r.1).filter fun u => named.contains u)) := by
  subst hq hnamed
  have hall : (mine.all fun r => calInRange (s.get CAL.STATE_SEQ) r.2) = true := List.all_eq_true.mpr hrange
  unfold State.calEnd
  extract_lets seq named pre mine'
  have hpre' : pre = 0 := hpre
  have hmine' : mine' = mine := hmine.symm
  rw [hpre', hmine', if_neg (by decide), if_neg (by decide), if_neg (by decide), if_neg (by rw [hall]; decide)]

end

/-! ### What a finished sequence shows (R513, R515) -/

section
variable (s : State) (seq units : Nat)

theorem State.calFinished_form : ∃ w v, s.calFinished seq units =
    { ((((((((s.set CAL.STATE_BUSY 0).set CAL.STATE_SEQ 0).set CAL.RESULT_SEQ seq).set CAL.RESULT_CODE 0).set
      CAL.RESULT_UNIT units).set CAL.STATUS_DONE 1).bump CAL.CNT_RUN_COUNT CAL.STATUS_SAT).set CAL.VALID_VALID v) with calWork := w } := by
  unfold State.calFinished State.calValid
  extract_lets v
  obtain ⟨w, hw⟩ := State.setCal_form ((((((((s.set CAL.STATE_BUSY 0).set CAL.STATE_SEQ 0).set CAL.RESULT_SEQ seq).set CAL.RESULT_CODE
    0).set CAL.RESULT_UNIT units).set CAL.STATUS_DONE 1).bump CAL.CNT_RUN_COUNT CAL.STATUS_SAT)) 0x18 (toLe 4 v)
  rw [hw]
  exact ⟨w, v, rfl⟩

theorem State.calFinished_shows (hseq : seq < 16) (hunits : units < 65536) :
    let t := s.calFinished seq units
    t.get CAL.STATE_BUSY = 0 ∧ t.get CAL.RESULT_CODE = 0 ∧ t.get CAL.RESULT_SEQ = seq ∧ t.get CAL.RESULT_UNIT = units ∧
      t.get CAL.STATUS_DONE = 1 ∧ t.get CAL.CNT_RUN_COUNT = min 0xFFFFFFFF (s.get CAL.CNT_RUN_COUNT + 1) ∧ t.mem = s.mem ∧
      t.age = s.age := by
  intro t
  obtain ⟨w, v, hform⟩ := s.calFinished_form seq units
  have ht : t = _ := hform
  have h0 : 0 < 2 ^ CAL.STATE_BUSY.width := by decide
  have hcode : 0 < 2 ^ CAL.RESULT_CODE.width := by decide
  have hdone : 1 < 2 ^ CAL.STATUS_DONE.width := by decide
  have hseq' : seq < 2 ^ CAL.RESULT_SEQ.width := hseq
  have hunits' : units < 2 ^ CAL.RESULT_UNIT.width := hunits
  have hcount : t.get CAL.CNT_RUN_COUNT = min 0xFFFFFFFF (s.get CAL.CNT_RUN_COUNT + 1) := by
    rw [ht, State.get_mk, State.get_set_apart _ (by decide), State.get_bump_min _ _ (by decide) (by decide)]
    simp (disch := decide) only [State.get_set_apart]
  refine ⟨?_, ?_, ?_, ?_, ?_, hcount, ?_, ?_⟩
  all_goals rw [ht]
  · simp (disch := first | decide | assumption) only [State.get_mk, State.get_set_apart, State.get_set_fits, State.get_bump_apart]
  · simp (disch := first | decide | assumption) only [State.get_mk, State.get_set_apart, State.get_set_fits, State.get_bump_apart]
  · simp (disch := first | decide | assumption) only [State.get_mk, State.get_set_apart, State.get_set_fits, State.get_bump_apart]
  · simp (disch := first | decide | assumption) only [State.get_mk, State.get_set_apart, State.get_set_fits, State.get_bump_apart]
  · simp (disch := first | decide | assumption) only [State.get_mk, State.get_set_apart, State.get_set_fits, State.get_bump_apart]
  · simp
  · simp

/-- Registers other than Fulling's read as before. -/
theorem State.get_calFinished {f : Fld} {n : Nat} (hf : f.clear n [CAL.STATE_BUSY, CAL.STATE_SEQ, CAL.RESULT_SEQ, CAL.RESULT_CODE,
    CAL.RESULT_UNIT, CAL.STATUS_DONE, CAL.CNT_RUN_COUNT, CAL.STATUS_SAT, CAL.VALID_VALID] 0) :
    (s.calFinished seq units).get f n = s.get f n := by
  obtain ⟨w, v, hform⟩ := s.calFinished_form seq units
  rw [hform, State.get_mk, State.get_set_clear hf (by decide), State.get_bump_clear hf (by decide) (by decide),
    State.get_set_clear hf (by decide), State.get_set_clear hf (by decide), State.get_set_clear hf (by decide),
    State.get_set_clear hf (by decide), State.get_set_clear hf (by decide), State.get_set_clear hf (by decide)]

/-- Of the working record a finished sequence writes VALID alone. -/
theorem State.calByte_calFinished {k : Nat} (hk : k < 0x18 ∨ 0x1C ≤ k) : (s.calFinished seq units).calByte k = s.calByte k := by
  unfold State.calFinished State.calValid
  extract_lets v
  rw [State.calByte_set, State.calByte_setCal_out _ (by simpa [toLe_length] using hk)]
  simp [State.calByte]

/-- The results of the sequence are valid. -/
theorem State.calFinished_valid (hseq : seq < 32) : bitOf ((s.calFinished seq units).get CAL.VALID_VALID) seq = true := by
  unfold State.calFinished State.calValid
  extract_lets v
  rw [State.get_set_same, bitOf_mod_two_pow _ (show seq < CAL.VALID_VALID.width from hseq), bitOf_eq_testBit]
  simp [v]

end

/-! ### The receive offsets, sequence 2 (R506, R508) -/

section
variable {s : State} {k a b : Nat}

/-- The state before the sequence is reported as finished. -/
def State.ofsApplied (s : State) (k a b : Nat) : State :=
  ((s.setCal (0x20 + 2 * k) [b % 256, a % 256]).set URX.OFS_TRIM_OFS_I a k).set URX.OFS_TRIM_OFS_Q b k

/-- The chain is one of the units named. -/
theorem State.calNamed_ofs (hk : k < 16) (ht : s.calTarget = 0 ∨ (s.calTarget < 65536 ∧ bitOf s.calTarget k = true)) :
    (s.calNamed 2 s.calTarget).contains k = true := by
  have hunits : calUnits 2 = 16 := by decide
  rw [List.contains_iff_mem]
  unfold State.calNamed
  rcases ht with h0 | ⟨-, hbit⟩
  · rw [h0, if_neg (by decide), if_neg (by decide), hunits]
    exact List.mem_range.mpr hk
  · have hne : s.calTarget ≠ 0 := fun h => by simp [h, bitOf] at hbit
    rw [if_pos (by simpa using hne), hunits]
    exact (mem_setBits _ _ _).mpr ⟨hk, hbit⟩

theorem calInRange_ofs : calInRange 2 [a, b] = (inRange (-128) 127 a && inRange (-128) 127 b) := rfl

theorem State.calEnd_ofs (hseq : s.get CAL.STATE_SEQ = 2) (hk : k < 16)
    (ht : s.calTarget = 0 ∨ (s.calTarget < 65536 ∧ bitOf s.calTarget k = true)) (hpre : s.calPre 2 (s.calNamed 2 s.calTarget) = 0)
    (ha : inRange (-128) 127 a = true) (hb : inRange (-128) 127 b = true) :
    s.calEnd 0 [(k, [a, b])] = (s.ofsApplied k a b).calFinished 2 (2 ^ k) := by
  have hnamed := State.calNamed_ofs hk ht
  have hunit : calUnit 2 k = k := rfl
  have hmem : k ∈ s.calNamed 2 s.calTarget := List.contains_iff_mem.mp hnamed
  have hmine : [(k, [a, b])] = [(k, [a, b])].filter fun r => calUnits 2 == 0 || (s.calNamed 2 s.calTarget).contains (calUnit 2 r.1) := by
    simp [hunit, hmem]
  rw [State.calEnd_in_range (q := 2) hseq.symm rfl hpre hmine (by simp [calInRange_ofs, ha, hb])]
  have hmask : unitMask (([(k, [a, b])].map fun r => calUnit 2 r.1).filter fun u => (s.calNamed 2 s.calTarget).contains u) = 2 ^ k := by
    simp [hunit, hmem, unitMask]
  rw [hmask]
  rfl

theorem State.ofsApplied_get {f : Fld} {n : Nat} (hi : f.key n ≠ URX.OFS_TRIM_OFS_I.key k) (hq : f.key n ≠ URX.OFS_TRIM_OFS_Q.key k) :
    (s.ofsApplied k a b).get f n = s.get f n := by
  unfold State.ofsApplied
  rw [State.get_set_ne _ _ _ _ _ _ hq, State.get_set_ne _ _ _ _ _ _ hi, State.get_setCal]

/-- Trims are no registers of Fulling. -/
theorem ofs_clear (k : Nat) {f : Fld} (h : URX.OFS_TRIM_OFS_I.below f = true) (h' : URX.OFS_TRIM_OFS_Q.below f = true) (hk : k < 16) :
    f.key 0 ≠ URX.OFS_TRIM_OFS_I.key k ∧ f.key 0 ≠ URX.OFS_TRIM_OFS_Q.key k :=
  ⟨Nat.ne_of_gt (Fld.key_lt_of_below h hk 0), Nat.ne_of_gt (Fld.key_lt_of_below h' hk 0)⟩

end

/-- A sequence that keeps its results of one receive chain's offsets in the record and the chain's trims. -/
theorem State.calOfs_done {s : State} {k a b : Nat} (hk : k < 16) :
    let v := (s.ofsApplied k a b).calFinished 2 (2 ^ k)
    v.get CAL.STATE_BUSY = 0 ∧ v.get CAL.RESULT_CODE = 0 ∧ v.get CAL.RESULT_SEQ = 2 ∧ v.get CAL.RESULT_UNIT = 2 ^ k ∧
      v.get CAL.STATUS_DONE = 1 ∧ v.get CAL.CNT_RUN_COUNT = min 0xFFFFFFFF (s.get CAL.CNT_RUN_COUNT + 1) ∧
      v.get URX.OFS_TRIM_OFS_I k = a % 2 ^ URX.OFS_TRIM_OFS_I.width ∧
      v.get URX.OFS_TRIM_OFS_Q k = b % 2 ^ URX.OFS_TRIM_OFS_Q.width ∧ v.calByte (0x20 + 2 * k) = b % 256 ∧
      v.calByte (0x21 + 2 * k) = a % 256 ∧ bitOf (v.get CAL.VALID_VALID) 2 = true ∧ v.mem = s.mem := by
  intro v
  have hpow : 2 ^ k < 65536 := Nat.pow_lt_pow_right (n := 16) (by decide) hk
  obtain ⟨hbusy, hcode, hseq, hunit, hdone, hcount, hmem, -⟩ := (s.ofsApplied k a b).calFinished_shows 2 (2 ^ k) (by decide) hpow
  have hrun := ofs_clear k (f := CAL.CNT_RUN_COUNT) (by decide) (by decide) hk
  rw [State.ofsApplied_get hrun.1 hrun.2] at hcount
  have htrim : ∀ f ∈ [URX.OFS_TRIM_OFS_I, URX.OFS_TRIM_OFS_Q], v.get f k = (s.ofsApplied k a b).get f k := by
    intro f hf
    refine State.get_calFinished _ _ _ (Fld.clear_of_below ?_ ?_ 0)
    · revert f
      decide
    · simp only [List.mem_cons, List.not_mem_nil, or_false] at hf
      rcases hf with rfl | rfl <;> exact hk
  have hbyte : ∀ i, 0x20 ≤ i → v.calByte i = (s.setCal (0x20 + 2 * k) [b % 256, a % 256]).calByte i := fun i hi =>
    State.calByte_calFinished _ _ _ (.inr (by omega))
  refine ⟨hbusy, hcode, hseq, hunit, hdone, hcount, ?_, ?_, ?_, ?_, State.calFinished_valid _ _ _ (by decide), ?_⟩
  · rw [htrim _ (by decide), State.ofsApplied, State.get_set_apart _ (by decide), State.get_set_same]
  · rw [htrim _ (by decide), State.ofsApplied, State.get_set_same]
  · rw [hbyte _ (by omega), State.calByte_setCal_head, Nat.mod_mod]
  · have : 0x21 + 2 * k = 0x20 + 2 * k + 1 := by omega
    rw [hbyte _ (by omega), this, State.calByte_setCal_second, Nat.mod_mod]
  · rw [hmem]
    simp [State.ofsApplied]

end Sys2Proof.Machine
end

section
/-! PROOFS. O57, from the lemmas on runs, aborts and ends. -/

namespace Sys2Proof.Machine

open Sys2Proof

/-- With nothing owed to its end, an abort of any sequence but the synthesizers' shows its code and leaves the trims (R513). -/
theorem State.calAbort_shows {s : State} {code : Nat} (hne : s.get CAL.STATE_SEQ ≠ 7) (hcode : code < 16)
    (hwait : s.age.commitWait = false) (hboot : s.age.bootSet = none) :
    let v := (s.calAbort code).calOwed
    v = s.calAborted (s.get CAL.STATE_SEQ) code ∧ v.get CAL.STATE_BUSY = 0 ∧ v.get CAL.RESULT_CODE = code ∧
      v.get CAL.STATUS_ABORTED = 1 ∧ v.mem = s.mem ∧ v.calWork = s.calWork := by
  intro v
  have hv : v = s.calAborted (s.get CAL.STATE_SEQ) code := by
    have habort := State.calAbort_of_ne_synth hne code
    exact (congrArg State.calOwed habort).trans (State.calOwed_of_none (by simpa using hwait) (by simpa using hboot))
  refine ⟨hv, ?_⟩
  rw [hv]
  exact ⟨s.get_calAborted_busy _ _, s.get_calAborted_code _ _ hcode, s.get_calAborted_aborted _ _, s.calAborted_mem _ _,
    s.calAborted_calWork _ _⟩

/-- One unit of a synthesizer calibration that aborts: it re-locks where it is in CAL (R81). -/
def State.calUnitEnd (n : Nat) (t : State) : State := if t.sst n == synCAL then t.calRelock n else t

/-- An abort of a synthesizer calibration re-locks its synthesizers on top; Fulling's registers and the record stay (R81, R513). -/
theorem State.calAbort_synth {s : State} (hseq : s.get CAL.STATE_SEQ = 7) (code : Nat) :
    Keeps calKeys (s.calAborted 7 code) (s.calAbort code) ∧ RadioOnly (s.calAborted 7 code) (s.calAbort code) := by
  have habort : s.calAbort code = (s.calAborted 7 code).forL (s.calNamed 7 s.calTarget) State.calUnitEnd := by
    simp only [State.calAbort, hseq]
    rfl
  rw [habort]
  constructor
  · refine (Keeps.refl _ _).forL _ fun n _ u hu => ?_
    unfold State.calUnitEnd
    split
    · exact hu.calRelock n
    · exact hu
  · refine RadioOnly.refl.forL _ fun n _ u hu => ?_
    unfold State.calUnitEnd
    split
    · exact hu.calRelock n
    · exact hu

/-- A run of the synthesizers' sequence that no precondition bars (R82, R509). -/
theorem State.calRun_synth {s : State} {t : Nat} (ht : t < 16) (hidle : s.get CAL.STATE_BUSY = 0)
    (hpre : (s.calAsked 7 t).calPre 7 ((s.calAsked 7 t).calNamed 7 t) = 0) :
    (s.calAsked 7 t).calRun 7 t =
      ({ ((s.calAsked 7 t).set CAL.STATE_BUSY 1).set CAL.STATE_SEQ 7 with calTarget := t } : State).forL
        ((s.calAsked 7 t).calNamed 7 t) State.calUnitStart := by
  rw [State.calRun_known ((State.get_calAsked (by decide) (by decide)).trans hidle) (by decide) (by decide)
    (show t < 2 ^ calUnits 7 from ht), if_neg (not_not.mpr hpre), if_pos rfl]
  rfl

/-- Which chain is a gang member is no matter of Fulling's registers. -/
theorem State.isMember_calBegun {s : State} {q t n : Nat} (hn : n < 4) :
    ({ ((s.calAsked q t).set CAL.STATE_BUSY 1).set CAL.STATE_SEQ q with calTarget := t } : State).isMember n = s.isMember n := by
  have hlo : (((s.calAsked q t).set CAL.STATE_BUSY 1).set CAL.STATE_SEQ q).get UTX.CTRL_LO_SRC n = s.get UTX.CTRL_LO_SRC n := by
    rw [State.get_set_above _ (by decide) hn, State.get_set_above _ (by decide) hn, State.calAsked,
      State.get_set_above _ (by decide) hn, State.get_set_above _ (by decide) hn]
  exact congrArg (· != n) hlo

/-- Settles O57: a run is refused, aborted or begun; an abort and an end write Fulling's registers, results the trims they are for. -/
theorem calibrationSequences : Obligations.CalibrationSequences := by
  unfold Obligations.CalibrationSequences
  refine ⟨?_, ?_, ?_, ?_, ?_, ?_, ?_, ?_, ?_, ?_, ?_, ?_, ?_, ?_, ?_⟩
  · intro s m q t hbusy
    have hget : (s.calAsked q t).get CAL.STATE_BUSY ≠ 0 := by rwa [State.get_calAsked (by decide) (by decide)]
    exact congrArg Host.Outcome.next (State.calRun_busy hget)
  · rintro s u m q t hq ht hidle rfl hbad
    have hget : (s.calAsked q t).get CAL.STATE_BUSY = 0 := (State.get_calAsked (by decide) (by decide)).trans hidle
    refine ⟨_, (exec_calRun hq ht).trans (congrArg Host.Outcome.next (State.calRun_unknown hget hbad)), ?_⟩
    exact s.calAsked_aborted hq (by decide)
  · rintro s u m q t h1 h13 ht hunits hidle rfl hpre
    have hget : (s.calAsked q t).get CAL.STATE_BUSY = 0 := (State.get_calAsked (by decide) (by decide)).trans hidle
    refine ⟨_, (exec_calRun (by omega) ht).trans (congrArg Host.Outcome.next
      ((State.calRun_known hget h1 h13 hunits).trans (if_pos hpre))), ?_⟩
    exact s.calAsked_aborted (by omega) (State.calPre_lt _ _ _)
  · rintro s u m q t h1 h13 h7 ht hunits hidle rfl hpre
    have hget : (s.calAsked q t).get CAL.STATE_BUSY = 0 := (State.get_calAsked (by decide) (by decide)).trans hidle
    have hpre' : (s.calAsked q t).calPre q ((s.calAsked q t).calNamed q t) = 0 := hpre
    rw [exec_calRun (by omega) ht, State.calRun_known hget h1 h13 hunits, if_neg (not_not.mpr hpre'), if_neg h7]
    rfl
  · rintro s u m t ht hidle rfl hpre
    obtain ⟨hnd, hlt⟩ := (s.calAsked 7 t).calNamed_synth t
    refine ⟨_, (exec_calRun (by decide) (by omega)).trans (congrArg Host.Outcome.next (State.calRun_synth ht hidle hpre)), ?_⟩
    have hkeep := Keeps.calUnits ({ ((s.calAsked 7 t).set CAL.STATE_BUSY 1).set CAL.STATE_SEQ 7 with calTarget := t } : State)
      ((s.calAsked 7 t).calNamed 7 t)
    have honly := RadioOnly.calUnits ({ ((s.calAsked 7 t).set CAL.STATE_BUSY 1).set CAL.STATE_SEQ 7 with calTarget := t } : State)
      ((s.calAsked 7 t).calNamed 7 t)
    refine ⟨?_, ?_, honly.calTarget, fun n hn hfree => ?_, fun n hn hmember => ?_, honly.mem⟩
    · rw [hkeep.get, State.get_mk, State.get_set_apart _ (by decide), State.get_set_fits _ (by decide)]
    · rw [hkeep.get, State.get_mk, State.get_set_fits _ (by decide)]
    · exact State.calUnits_started _ hnd hn (hlt n hn) ((State.isMember_calBegun (hlt n hn)).trans hfree)
    · exact State.calUnits_refused _ hnd hn (hlt n hn) ((State.isMember_calBegun (hlt n hn)).trans hmember)
  · intro s m hidle
    have hexec : exec (.calAbort m) s = .next (if s.on CAL.STATE_BUSY then (s.calAbort 11).calOwed else s) := rfl
    rw [hexec, State.on, hidle]
    rfl
  · exact fun s m hbusy => congrArg Host.Outcome.next (if_pos (bne_iff_ne.mpr hbusy))
  · intro s m hbusy hne hlt hwait hboot
    obtain ⟨hv, hidle, hcode, haborted, hmem, hwork⟩ := State.calAbort_shows (code := 11) hne (by decide) hwait hboot
    refine ⟨_, congrArg Host.Outcome.next (if_pos (bne_iff_ne.mpr hbusy)), hidle, hcode, ?_, haborted, hmem, hwork⟩
    rw [hv, State.get_calAborted_seq _ _ _ hlt]
  · intro s m hbusy hseq hwait hboot
    obtain ⟨hkeep, honly⟩ := State.calAbort_synth hseq 11
    refine ⟨_, congrArg Host.Outcome.next (if_pos (bne_iff_ne.mpr hbusy)), ?_⟩
    have howed : (s.calAbort 11).calOwed = s.calAbort 11 := by
      refine State.calOwed_of_none ?_ ?_
      · rw [honly.age, State.calAborted_age, hwait]
      · rw [honly.age, State.calAborted_age, hboot]
    rw [howed, hkeep.get, hkeep.get, hkeep.get, hkeep.get, honly.calWork]
    exact ⟨s.get_calAborted_busy _ _, s.get_calAborted_code _ _ (by decide), s.get_calAborted_seq _ _ (by decide),
      s.get_calAborted_aborted _ _, s.calAborted_calWork _ _⟩
  · intro s code res hidle
    have hexec : exec (.calSequenceEnd code res) s = .next (if s.on CAL.STATE_BUSY then (s.calEnd code res).calOwed else s) := rfl
    rw [hexec, State.on, hidle]
    rfl
  · rintro s code p res hbusy rfl
    rw [exec_calSequenceEnd_busy hbusy]
    refine ⟨fun hp => ?_, fun hp hcode => ?_, fun hp h0 h8 h9 => ?_⟩
    · rw [State.calEnd_of_pre hp]
    · rw [State.calEnd_measured hp hcode]
    · rw [State.calEnd_unknown hp h0 h8 h9, State.calOwed_busy hbusy]
  · rintro s code p e res hbusy hne hwait hboot rfl hwhy
    rw [exec_calSequenceEnd_busy hbusy]
    have habort : s.calEnd code res = s.calAbort e ∧ e < 16 := by
      rcases hwhy with ⟨hp, rfl⟩ | ⟨hp, hcode, rfl⟩
      · exact ⟨State.calEnd_of_pre hp, State.calPre_lt _ _ _⟩
      · exact ⟨State.calEnd_measured hp hcode, by omega⟩
    rw [habort.1]
    obtain ⟨-, hidle, hcode, haborted, hmem, hwork⟩ := State.calAbort_shows hne habort.2 hwait hboot
    exact ⟨_, rfl, hidle, hcode, haborted, hmem, hwork⟩
  · intro s q named res mine hbusy hq hnamed hpre hmine hrange
    rw [exec_calSequenceEnd_busy hbusy, State.calEnd_in_range hq hnamed hpre hmine hrange]
  · intro s k a b hbusy hseq hwait hboot hk ht hpre ha hb
    have hdone := State.calOfs_done (s := s) (a := a) (b := b) hk
    refine ⟨_, ?_, hdone⟩
    have hage : ((s.ofsApplied k a b).calFinished 2 (2 ^ k)).age = s.age := by
      obtain ⟨w, v, hform⟩ := (s.ofsApplied k a b).calFinished_form 2 (2 ^ k)
      rw [hform]
      simp [State.ofsApplied]
    rw [exec_calSequenceEnd_busy hbusy, State.calEnd_ofs hseq hk ht hpre ha hb,
      State.calOwed_of_none (by rw [hage, hwait]) (by rw [hage, hboot])]
  · intro s k a b hbusy hseq hwait hboot hk ht hpre hout
    have hrange : calInRange 2 [a, b] = false := by
      rw [calInRange_ofs]
      rcases hout with h | h <;> simp [h]
    have hend : s.calEnd 0 [(k, [a, b])] = s.calAbort 8 := by
      refine State.calEnd_of_out_of_range (r := (k, [a, b])) ?_ (by simp) (.inr ?_) ?_
      · rw [hseq, hpre]
      · rw [hseq]
        exact State.calNamed_ofs hk ht
      · rw [hseq, hrange]
    have hne : s.get CAL.STATE_SEQ ≠ 7 := by rw [hseq]; decide
    obtain ⟨hv, hidle, hcode, haborted, hmem, hwork⟩ := State.calAbort_shows (code := 8) hne (by decide) hwait hboot
    refine ⟨_, ?_, hidle, hcode, haborted, hwork, ?_, hmem⟩
    · rw [exec_calSequenceEnd_busy hbusy, hend]
    · rw [hv]
      unfold State.calAborted
      rw [State.get_bump_ne _ (Nat.ne_of_lt (Fld.key_lt_of_below (by decide) hk 0)) (Nat.ne_of_lt (Fld.key_lt_of_below (by decide) hk 0))]
      rw [State.get_set_above _ (by decide) hk, State.get_set_above _ (by decide) hk, State.get_set_above _ (by decide) hk,
        State.get_set_above _ (by decide) hk, State.get_set_above _ (by decide) hk, State.get_set_above _ (by decide) hk]

end Sys2Proof.Machine
end

section
/-! PROOFS. R515 to R523: commits of the calibration record and the ageing monitors. A commit writes the bank out of force; a monitor
writes registers, and ring HW of the fault log where a margin is exhausted. -/

namespace Sys2Proof.Machine

open Sys2Proof

/-! ### Memory outside a range -/

namespace memSame
variable {s t u : State} {a n : Nat}

theorem of_mem (h : t.mem = s.mem) : memSame s t a n := fun x _ => congrArg (fun m => (Tab.get 0 m x).toNat) h

theorem trans (h : memSame s t a n) (h' : memSame t u a n) : memSame s u a n := fun x hx => (h' x hx).trans (h x hx)

end memSame

/-- An entry of ring HW lies within the ring (R530). -/
theorem State.memSame_logHW (s : State) (code inst data : Nat) : memSame s (s.logHW code inst data) 0x2803F000 1040 := by
  intro x hx
  have hhead : ∀ a : Nat, a % 64 < 64 := fun a => Nat.mod_lt _ (by decide)
  simp only [State.logHW, State.faultLog, State.wr32]
  rw [State.rd8_wrBytes_out _ _ _ _ (by simp [toLe]; omega), State.rd8_wrBytes_out, State.rd8_wrBytes_out _ _ _ _ (by simp [toLe]; omega)]
  simp only [toLe, List.length_append, List.length_map, List.length_range, List.length_cons, List.length_nil]
  split
  · omega
  · have := hhead (ofLe (s.rdBytes (0x2803F000 + 4) 2))
    omega

section
variable (s : State) (code inst data : Nat)

/-- An entry of the fault log changes memory alone. -/
theorem State.logHW_form : ∃ x, s.logHW code inst data = { s with mem := x } := s.faultLog_form _ _ _ _ _

@[simp] theorem State.get_logHW (f : Fld) (n : Nat) : (s.logHW code inst data).get f n = s.get f n := by
  obtain ⟨x, hx⟩ := s.logHW_form code inst data
  rw [hx, State.get_mk]

@[simp] theorem State.age_logHW : (s.logHW code inst data).age = s.age := by
  obtain ⟨x, hx⟩ := s.logHW_form code inst data
  rw [hx]

@[simp] theorem State.nv_logHW : (s.logHW code inst data).nv = s.nv := by
  obtain ⟨x, hx⟩ := s.logHW_form code inst data
  rw [hx]

end

/-! ### Margins (R521, R522) -/

/-- What a margin's warning writes. -/
def marginFlds : List Fld := [AGE.STATUS_WARN, AGE.CNT_WARN_COUNT, AGE.STATUS_SAT, AGE.STATUS_EXHAUST]

theorem marginPct_le (num den : Int) : marginPct num den ≤ 100 := by
  unfold marginPct
  split
  · omega
  · omega

section
variable (s : State) (k pct : Nat)

/-- The warning of margin `k`. -/
def State.marginWarn (s : State) (k pct : Nat) : State :=
  if decide (pct ≤ s.get AGE.MARGIN0_WARN_PCT) && !bitOf s.age.warned k then
    (s.setBit AGE.STATUS_WARN k true).bump AGE.CNT_WARN_COUNT AGE.STATUS_SAT else s

/-- The exhaustion of margin `k`. -/
def State.marginEmpty (s t : State) (k pct : Nat) : State :=
  if pct == 0 && !bitOf s.age.exhausted k then (t.set AGE.STATUS_EXHAUST 1).logHW 0x08 k 0 else t

theorem State.margin_form : ∃ a, s.margin k pct = { s.marginEmpty (s.marginWarn k pct) k pct with age := a } := ⟨_, rfl⟩

theorem State.get_marginWarn {f : Fld} {n : Nat} (h : f.clear n marginFlds 0) : (s.marginWarn k pct).get f n = s.get f n := by
  unfold State.marginWarn
  split
  · rw [State.get_bump_clear h (by decide) (by decide), State.setBit, State.get_set_clear h (by decide)]
  · rfl

theorem State.mem_marginWarn : (s.marginWarn k pct).mem = s.mem := by
  unfold State.marginWarn
  split
  · rw [State.bump_mem]
    rfl
  · rfl

theorem State.get_margin {f : Fld} {n : Nat} (h : f.clear n marginFlds 0) : (s.margin k pct).get f n = s.get f n := by
  obtain ⟨a, ha⟩ := s.margin_form k pct
  rw [ha, State.get_mk, State.marginEmpty]
  split
  · rw [State.get_logHW, State.get_set_clear h (by decide), State.get_marginWarn _ _ _ h]
  · exact State.get_marginWarn _ _ _ h

theorem State.memSame_margin : memSame s (s.margin k pct) 0x2803F000 1040 := by
  obtain ⟨a, ha⟩ := s.margin_form k pct
  have hwarn : memSame s (s.marginWarn k pct) 0x2803F000 1040 := .of_mem (s.mem_marginWarn k pct)
  have hempty : memSame s (s.marginEmpty (s.marginWarn k pct) k pct) 0x2803F000 1040 := by
    unfold State.marginEmpty
    split
    · exact hwarn.trans (.trans (.of_mem (State.set_mem _ _ _ _)) (State.memSame_logHW _ _ _ _))
    · exact hwarn
  rw [ha]
  exact hempty

/-- A margin that has come to 0 for the first time shows EXHAUST. -/
theorem State.margin_exhaust (hpct : pct = 0) (hfirst : bitOf s.age.exhausted k = false) :
    (s.margin k pct).get AGE.STATUS_EXHAUST = 1 := by
  obtain ⟨a, ha⟩ := s.margin_form k pct
  rw [ha, State.get_mk, State.marginEmpty, if_pos (by simp [hpct, hfirst]), State.get_logHW]
  exact State.get_set_fits _ (by decide)

/-- Of the exhausted margins it is the margin's own mark that moves. -/
theorem State.margin_exhausted_ne {j : Nat} (hj : j ≠ k) : bitOf (s.margin k pct).age.exhausted j = bitOf s.age.exhausted j :=
  bitOf_putBit_ne _ _ hj

end

/-! ### The commit (R515, R516) -/

/-- A calibration record is its header and the body of the working record. -/
def State.calImage (s : State) : List Nat := tblHeader 0x80 1 s.calBody ++ s.calBody

section
variable (s : State)

theorem State.calImage_length : s.calImage.length = 8192 := by
  simp [State.calImage, State.calBody, tblHeader, toLe_length]

/-- The stamp fills the working record alone. -/
theorem State.calStamp_form : ∃ w, s.calStamp = { s with calWork := w } := by
  unfold State.calStamp
  extract_lets gen s1 s2
  obtain ⟨w1, h1⟩ := s.setCal_form 0x10 (toLe 4 gen)
  have hs1 : s1 = { s with calWork := w1 } := h1
  have hs2 : ∃ w, s2 = { s with calWork := w } := by
    simp only [s2]
    split
    · obtain ⟨w, hw⟩ := s1.setCal_form 0x14 (toLe 2 (s.get AGE.GUARD_CAND_GUARD))
      exact ⟨w, by rw [hw, hs1]⟩
    · exact ⟨w1, hs1⟩
  obtain ⟨w2, h2⟩ := hs2
  obtain ⟨w, hw⟩ := s2.setCal_form 0x4A0 (toLe 2 (s.get AGE.RO_CORE_SLOW) ++ toLe 2 (s.get AGE.RO_RADIO_SLOW) ++
    toLe 2 (s.get AGE.RO_AON_SLOW) ++ toLe 2 (s.get AGE.BG_LO) ++ toLe 2 (s.get AGE.HINT_HI) ++ toLe 2 s.age.slowAtSweep)
  exact ⟨w, by rw [hw, h2]⟩

/-- GEN of the stamped record, as 32 bits little-endian. -/
theorem State.calStamp_byte {i : Nat} (hi : i < 4) :
    s.calStamp.calByte (0x10 + i) = (s.get CAL.BANK_GEN + 1) % 4294967296 / 256 ^ i % 256 := by
  unfold State.calStamp
  extract_lets gen s1 s2
  have hs2 : s2.calByte (0x10 + i) = s1.calByte (0x10 + i) := by
    simp only [s2]
    split
    · exact State.calByte_setCal_out _ (by omega)
    · rfl
  have hs1 : s1.calByte (0x10 + i) = gen / 256 ^ i % 256 := by
    interval_cases i <;> simp [s1, toLe, State.setCal, State.calByte, List.range_succ, Tab.get_set_ne]
  rw [State.calByte_setCal_out _ (by omega), hs2, hs1]

/-- The generation that a commit advances to. -/
theorem State.calStamp_gen :
    s.calStamp.cal16 0x10 + 65536 * s.calStamp.cal16 0x12 = (s.get CAL.BANK_GEN + 1) % 4294967296 := by
  have h0 := s.calStamp_byte (i := 0) (by decide)
  have h1 := s.calStamp_byte (i := 1) (by decide)
  have h2 := s.calStamp_byte (i := 2) (by decide)
  have h3 := s.calStamp_byte (i := 3) (by decide)
  simp only [State.cal16, h0, h1, h2, h3, Nat.reduceAdd]
  omega

end

end Sys2Proof.Machine
end

section
/-! PROOFS. R515 to R523: what a commit writes, and the readings of the monitors. -/

namespace Sys2Proof.Machine

open Sys2Proof

/-! ### The bank written (R516) -/

/-- The stamped record written into a bank. -/
def State.calWritten (s : State) (bank : Nat) : State := s.calStamp.wrBytes (calBase bank) s.calStamp.calImage

section
variable (s : State) (bank : Nat)

theorem State.calWritten_form : ∃ w m, s.calWritten bank = { s with calWork := w, mem := m } := by
  obtain ⟨w, hw⟩ := s.calStamp_form
  unfold State.calWritten
  rw [hw]
  obtain ⟨m, hm⟩ := State.wrBytes_form { s with calWork := w } (calBase bank) (State.calImage { s with calWork := w })
  exact ⟨w, m, hm⟩

theorem State.get_calWritten (f : Fld) (n : Nat) : (s.calWritten bank).get f n = s.get f n := by
  obtain ⟨w, m, h⟩ := s.calWritten_form bank
  rw [h, State.get_mk]

theorem State.nv_calWritten : (s.calWritten bank).nv = s.nv := by
  obtain ⟨w, m, h⟩ := s.calWritten_form bank
  rw [h]

/-- Only the bank is written. -/
theorem State.memSame_calWritten : memSame s (s.calWritten bank) (calBase bank) 8192 := by
  obtain ⟨w, hw⟩ := s.calStamp_form
  intro x hx
  have hout : (s.calWritten bank).rd8 x = s.calStamp.rd8 x :=
    State.rd8_wrBytes_out _ _ _ _ (by rw [State.calImage_length]; exact hx)
  rw [hout, hw]
  rfl

/-- It begins with the marker of a table. -/
theorem State.rd32_calWritten : (s.calWritten bank).rd32 (calBase bank) = 0x314C4254 := by
  have hbyte : ∀ i (hi : i < 4), (s.calWritten bank).rd8 (calBase bank + i) = [0x54, 0x42, 0x4C, 0x31][i] := by
    intro i hi
    have hlen : i < s.calStamp.calImage.length := by rw [State.calImage_length]; omega
    refine (s.calStamp.rd8_wrBytes_in _ _ hlen).trans ?_
    interval_cases i <;> rfl
  have h0 := hbyte 0 (by decide)
  have h1 := hbyte 1 (by decide)
  have h2 := hbyte 2 (by decide)
  have h3 := hbyte 3 (by decide)
  simp only [State.rd32, State.rdBytes, List.range_succ, List.range_zero, List.nil_append, List.cons_append, List.map_cons, List.map_nil,
    h0, h1, h2, h3]
  rfl

end

/-! ### CMD.COMMIT -/

section
variable {s : State} {m : Master} {b : Nat}

/-- The pointer flipped and the generation advanced. -/
def State.calFlipped (s : State) (bank : Nat) : State :=
  (((({ s.calWritten bank with nv.calPtr := bank } : State).set CAL.BANK_PTR bank).voteClean 6).set CAL.BANK_GEN
    (s.calStamp.cal16 0x10 + 65536 * s.calStamp.cal16 0x12)).set CAL.STATUS_COMMIT_DONE 1

theorem exec_calCommit {ok : Bool} (hlew : s.get PWR.STATE_LEW = 0) (hidle : s.get CAL.STATE_BUSY = 0) :
    exec (.calCommit m ok) s = .next (s.calCommit ok) := by
  have hexec : exec (.calCommit m ok) s = .next (s.calCmdCommit ok) := rfl
  have hlew' : ¬ s.on PWR.STATE_LEW = true := by simp [State.on, hlew]
  have hidle' : ¬ s.on CAL.STATE_BUSY = true := by simp [State.on, hidle]
  rw [hexec, State.calCmdCommit, if_neg hlew', if_neg hidle']

theorem State.calCommit_done :
    s.calCommit true = (s.calFlipped (1 - s.get CAL.BANK_PTR)).bump CAL.CNT_COMMIT_COUNT CAL.STATUS_SAT := by
  unfold State.calCommit State.calFlipped State.calWritten State.calImage
  simp only [if_true]

theorem State.rd32_of_mem {s t : State} (h : t.mem = s.mem) (a : Nat) : t.rd32 a = s.rd32 a := by
  have hbyte : ∀ x, t.rd8 x = s.rd8 x := fun x => congrArg (fun m => (Tab.get 0 m x).toNat) h
  simp only [State.rd32, State.rdBytes, hbyte]

theorem State.calFlipped_shows (hb : b < 2) :
    let t := (s.calFlipped b).bump CAL.CNT_COMMIT_COUNT CAL.STATUS_SAT
    t.get CAL.BANK_PTR = b ∧ t.nv.calPtr = b ∧ t.get CAL.STATUS_COMMIT_DONE = 1 ∧
      t.get CAL.BANK_GEN = (s.get CAL.BANK_GEN + 1) % 2147483648 ∧
      t.get CAL.CNT_COMMIT_COUNT = min 0xFFFFFFFF (s.get CAL.CNT_COMMIT_COUNT + 1) ∧
      t.rd32 (calBase b) = 0x314C4254 ∧ memSame s t (calBase b) 8192 := by
  intro t
  have hmem : t.mem = (s.calWritten b).mem := by
    simp only [t, State.bump_mem, State.calFlipped, State.set_mem, State.voteClean_mem]
  have hptr : b < 2 ^ CAL.BANK_PTR.width := hb
  have hwidth : 2 ^ CAL.BANK_GEN.width = 2147483648 := by decide
  refine ⟨?_, ?_, ?_, ?_, ?_, ?_, ?_⟩
  · simp only [t]
    rw [State.get_bump_apart _ (by decide) (by decide), State.calFlipped, State.get_set_apart _ (by decide),
      State.get_set_apart _ (by decide), State.get_voteClean, State.get_set_fits _ hptr]
  · simp only [t, State.bump_nv, State.calFlipped, State.set_nv, State.voteClean_nv]
  · simp (disch := decide) only [t, State.calFlipped, State.get_bump_apart, State.get_set_fits]
  · simp (disch := decide) only [t, State.calFlipped, State.get_bump_apart, State.get_set_apart, State.get_set_same]
    rw [s.calStamp_gen, hwidth]
    omega
  · simp only [t]
    rw [State.get_bump_min _ _ (by decide) (by decide), State.calFlipped, State.get_set_apart _ (by decide),
      State.get_set_apart _ (by decide), State.get_voteClean, State.get_set_apart _ (by decide), State.get_mk, State.get_calWritten]
  · exact (State.rd32_of_mem hmem _).trans (s.rd32_calWritten b)
  · exact (s.memSame_calWritten b).trans (.of_mem hmem)

/-- A bank whose read-back fails: one byte of its body differs. -/
def State.calSpoiled (s : State) (bank : Nat) : State :=
  let u := s.calWritten bank
  let a := calBase bank + 16 + u.fresh.1 % 8176
  u.fresh.2.wr8 a (u.rd8 a + 1)

theorem State.calCommit_fail :
    s.calCommit false =
      (((s.calSpoiled (1 - s.get CAL.BANK_PTR)).set CAL.STATUS_COMMIT_FAIL 1).bump CAL.CNT_FAIL_COUNT CAL.STATUS_SAT).logHW 0x07 0
        (1 - s.get CAL.BANK_PTR) := by
  unfold State.calCommit State.calSpoiled State.calWritten State.calImage
  simp only [Bool.false_eq_true, if_false]

/-- A byte stored after an open value has been drawn changes no register and no MRAM. -/
theorem State.get_fresh_wr8 (u : State) (a v : Nat) (f : Fld) (n : Nat) : (u.fresh.2.wr8 a v).get f n = u.get f n := rfl
theorem State.nv_fresh_wr8 (u : State) (a v : Nat) : (u.fresh.2.wr8 a v).nv = u.nv := rfl

theorem State.memSame_fresh_wr8 (u : State) {a v b n : Nat} (ha : b ≤ a ∧ a < b + n) : memSame u (u.fresh.2.wr8 a v) b n := by
  intro x hx
  exact State.rd8_wr8_ne _ _ (by rintro rfl; exact hx ha)

theorem State.get_calSpoiled (s : State) (bank : Nat) (f : Fld) (n : Nat) : (s.calSpoiled bank).get f n = s.get f n := by
  rw [State.calSpoiled, State.get_fresh_wr8, State.get_calWritten]

theorem State.nv_calSpoiled (s : State) (bank : Nat) : (s.calSpoiled bank).nv = s.nv := by
  rw [State.calSpoiled, State.nv_fresh_wr8, State.nv_calWritten]

theorem State.memSame_calSpoiled (s : State) (bank : Nat) : memSame s (s.calSpoiled bank) (calBase bank) 8192 := by
  refine (s.memSame_calWritten bank).trans (State.memSame_fresh_wr8 _ ?_)
  have : (s.calWritten bank).fresh.1 % 8176 < 8176 := Nat.mod_lt _ (by decide)
  omega

end

/-! ### The monitors (R518 to R522) -/

section
variable {s : State}

theorem exec_ageRoMeasure_off {a b c : Nat} (h : s.bit AGE.CTRL_EN 0 = false) : exec (.ageRoMeasure a b c) s = .next s := by
  have hexec : exec (.ageRoMeasure a b c) s = execAgeRoMeasure a b c s := rfl
  rw [hexec, execAgeRoMeasure, h]
  rfl

/-- The slowdowns of the three oscillators taken. -/
def State.slowTaken (s : State) (a b c : Nat) : State :=
  ((s.set AGE.RO_CORE_SLOW a).set AGE.RO_RADIO_SLOW b).set AGE.RO_AON_SLOW c

/-- The target of the 0.8 V rail for a slowdown (R519). -/
def State.vWanted (s : State) (slow : Nat) : Nat :=
  if s.on AGE.CTRL_AVS_EN then max (s.get AGE.VCORE_VTARGET) (vTarget slow) else s.get AGE.VCORE_VTARGET

theorem State.vcore_form (s : State) (slow : Nat) : ∃ pct,
    s.vcore slow = ((s.set AGE.VCORE_VTARGET (s.vWanted slow)).set AGE.MARGIN0_A pct).margin 0 pct := ⟨_, rfl⟩

theorem State.memSame_vcore (s : State) (slow : Nat) : memSame s (s.vcore slow) 0x2803F000 1040 := by
  obtain ⟨pct, h⟩ := s.vcore_form slow
  rw [h]
  exact .trans (.of_mem rfl) (State.memSame_margin _ _ _)

/-- It writes the target, the margin and what a warning writes. -/
theorem State.get_vcore {f : Fld} (s : State) (slow : Nat) (hv : f.apart AGE.VCORE_VTARGET = true) (ha : f.apart AGE.MARGIN0_A = true)
    (hm : ∀ g ∈ marginFlds, f.apart g = true) : (s.vcore slow).get f = s.get f := by
  obtain ⟨pct, h⟩ := s.vcore_form slow
  rw [h, State.get_margin _ _ _ (Fld.clear_of_apart hm _ _), State.get_set_apart _ ha, State.get_set_apart _ hv]

theorem State.get_vcore_target (s : State) (slow : Nat) : (s.vcore slow).get AGE.VCORE_VTARGET = s.vWanted slow % 65536 := by
  obtain ⟨pct, h⟩ := s.vcore_form slow
  rw [h, State.get_margin _ _ _ (Fld.clear_of_apart (by decide) _ _), State.get_set_apart _ (by decide), State.get_set_same]
  rfl

/-- The hint sweep falls due where the radio's oscillator has moved since the last one (R521). -/
def State.roDue (s t : State) (a b c : Nat) : State :=
  if 50 ≤ ((((s.slowTaken a b c).get AGE.RO_RADIO_SLOW : Nat) : Int) - s.age.slowAtSweep).natAbs then t.set AGE.STATUS_DUE_HINT 1 else t

theorem exec_ageRoMeasure_on {a b c : Nat} (h : s.bit AGE.CTRL_EN 0 = true) :
    exec (.ageRoMeasure a b c) s = .next (s.roDue ((s.slowTaken a b c).vcore
      (max ((s.slowTaken a b c).get AGE.RO_CORE_SLOW) ((s.slowTaken a b c).get AGE.RO_RADIO_SLOW))) a b c) := by
  have hexec : exec (.ageRoMeasure a b c) s = execAgeRoMeasure a b c s := rfl
  rw [hexec, execAgeRoMeasure, if_pos h]
  rfl

theorem exec_ageBgMeasure_off {d : Nat} (h : s.bit AGE.CTRL_EN 2 = false) : exec (.ageBgMeasure d) s = .next s := by
  have hexec : exec (.ageBgMeasure d) s = execAgeBgMeasure d s := rfl
  rw [hexec, execAgeBgMeasure, h]
  rfl

theorem exec_ageMramMeasure_off {w : Nat} (h : s.bit AGE.CTRL_EN 3 = false) : exec (.ageMramMeasure w) s = .next s := by
  have hexec : exec (.ageMramMeasure w) s = execAgeMramMeasure w s := rfl
  rw [hexec, execAgeMramMeasure, h]
  rfl

end

/-- What an oscillator reading leaves. -/
theorem State.roDue_shows {s : State} {a b c : Nat} (ha : a < 65536) (hb : b < 65536) (hc : c < 65536) :
    let t := s.roDue ((s.slowTaken a b c).vcore
      (max ((s.slowTaken a b c).get AGE.RO_CORE_SLOW) ((s.slowTaken a b c).get AGE.RO_RADIO_SLOW))) a b c
    t.get AGE.RO_CORE_SLOW = a ∧ t.get AGE.RO_RADIO_SLOW = b ∧ t.get AGE.RO_AON_SLOW = c ∧
      t.get AGE.VCORE_VTARGET = (if s.get AGE.CTRL_AVS_EN = 0 then s.get AGE.VCORE_VTARGET
        else max (s.get AGE.VCORE_VTARGET) (vTarget (max a b))) % 65536 ∧
      (50 ≤ ((b : Int) - s.age.slowAtSweep).natAbs → t.get AGE.STATUS_DUE_HINT = 1) ∧ memSame s t 0x2803F000 1040 := by
  intro t
  have hcore : (s.slowTaken a b c).get AGE.RO_CORE_SLOW = a := by
    rw [State.slowTaken, State.get_set_apart _ (by decide), State.get_set_apart _ (by decide), State.get_set_fits _ ha]
  have hradio : (s.slowTaken a b c).get AGE.RO_RADIO_SLOW = b := by
    rw [State.slowTaken, State.get_set_apart _ (by decide), State.get_set_fits _ hb]
  have haon : (s.slowTaken a b c).get AGE.RO_AON_SLOW = c := State.get_set_fits _ hc
  have htaken : ∀ f : Fld, f.apart AGE.RO_CORE_SLOW = true → f.apart AGE.RO_RADIO_SLOW = true → f.apart AGE.RO_AON_SLOW = true →
      (s.slowTaken a b c).get f = s.get f := fun f h1 h2 h3 => by
    rw [State.slowTaken, State.get_set_apart _ h3, State.get_set_apart _ h2, State.get_set_apart _ h1]
  have hkeep : ∀ f : Fld, f.apart AGE.STATUS_DUE_HINT = true → t.get f = ((s.slowTaken a b c).vcore (max a b)).get f := by
    intro f hf
    simp only [t, hcore, hradio, State.roDue]
    split
    · exact State.get_set_apart _ hf _
    · rfl
  have hgone : t.mem = ((s.slowTaken a b c).vcore (max a b)).mem := by
    simp only [t, hcore, hradio, State.roDue]
    split <;> rfl
  refine ⟨?_, ?_, ?_, ?_, fun hdue => ?_, ?_⟩
  · rw [hkeep _ (by decide), State.get_vcore _ _ (by decide) (by decide) (by decide), hcore]
  · rw [hkeep _ (by decide), State.get_vcore _ _ (by decide) (by decide) (by decide), hradio]
  · rw [hkeep _ (by decide), State.get_vcore _ _ (by decide) (by decide) (by decide), haon]
  · rw [hkeep _ (by decide), State.get_vcore_target, State.vWanted, State.on, htaken _ (by decide) (by decide) (by decide),
      htaken _ (by decide) (by decide) (by decide)]
    by_cases h : s.get AGE.CTRL_AVS_EN = 0 <;> simp [h]
  · simp only [t, hradio, State.roDue]
    rw [if_pos hdue]
    exact State.get_set_fits _ (by decide)
  · exact (((memSame.of_mem rfl).trans ((s.slowTaken a b c).memSame_vcore (max a b))).trans (.of_mem hgone))

/-- What a reading of the MRAM's sense window leaves (R521). -/
def State.mramTaken (s : State) (w : Nat) : State :=
  (((s.set AGE.MRAM_LO w).set AGE.MRAM_HI (scrubDays w)).set AGE.MARGIN1_A
    (marginPct ((w : Int) - 150) ((Config.mramW0 : Int) - 150))).margin 3 (marginPct ((w : Int) - 150) ((Config.mramW0 : Int) - 150))

theorem exec_ageMramMeasure_on {s : State} {w : Nat} (h : s.bit AGE.CTRL_EN 3 = true) :
    exec (.ageMramMeasure w) s = .next (s.mramTaken w) := by
  have hexec : exec (.ageMramMeasure w) s = execAgeMramMeasure w s := rfl
  rw [hexec, execAgeMramMeasure, if_pos h]
  rfl

theorem State.mramTaken_shows (s : State) {w : Nat} (hw : w < 65536) :
    let t := s.mramTaken w
    t.get AGE.MRAM_LO = w ∧ t.get AGE.MRAM_HI = (if 400 ≤ w then 30 else if 250 ≤ w then 7 else 1) ∧
      t.get AGE.MARGIN1_A = marginPct ((w : Int) - 150) ((Config.mramW0 : Int) - 150) ∧ t.get AGE.MARGIN1_A ≤ 100 ∧
      memSame s t 0x2803F000 1040 := by
  intro t
  have hpct := marginPct_le ((w : Int) - 150) ((Config.mramW0 : Int) - 150)
  have hkeep : ∀ f : Fld, (∀ g ∈ marginFlds, f.apart g = true) → t.get f =
      (((s.set AGE.MRAM_LO w).set AGE.MRAM_HI (scrubDays w)).set AGE.MARGIN1_A
        (marginPct ((w : Int) - 150) ((Config.mramW0 : Int) - 150))).get f := fun f hf =>
    State.get_margin _ _ _ (Fld.clear_of_apart hf _ _)
  have hmargin : t.get AGE.MARGIN1_A = marginPct ((w : Int) - 150) ((Config.mramW0 : Int) - 150) := by
    rw [hkeep _ (by decide), State.get_set_fits _ (lt_of_le_of_lt hpct (by decide))]
  have hdays : scrubDays w < 2 ^ AGE.MRAM_HI.width := by
    unfold scrubDays
    split_ifs <;> decide
  refine ⟨?_, ?_, hmargin, hmargin.trans_le hpct, .trans (.of_mem rfl) (State.memSame_margin _ _ _)⟩
  · rw [hkeep _ (by decide), State.get_set_apart _ (by decide), State.get_set_apart _ (by decide), State.get_set_fits _ hw]
  · rw [hkeep _ (by decide), State.get_set_apart _ (by decide), State.get_set_fits _ hdays]
    rfl

end Sys2Proof.Machine
end

section
/-! PROOFS. R518 to R521: the guard candidate, and the readings that lead to one. O59. -/

namespace Sys2Proof.Machine

open Sys2Proof

/-! ### GUARD raised (R139, R520) -/

theorem RadioOnly.refreshPwr {s t : State} (h : RadioOnly s t) (n : Nat) : RadioOnly s (t.refreshPwr n) := by
  unfold State.refreshPwr
  split
  · exact h
  · unfold State.applyPwr
    extract_lets g i table at_ bias present
    refine RadioOnly.trans (((((((h.set _ _ _).set _ _ _).set _ _ _).set _ _ _).set _ _ _).set _ _ _).set _ _ _) ⟨_, _, rfl⟩

section
variable (s : State) (c : Nat)

/-- Raising GUARD writes the enforcer's registers and steps the chains' power down: no memory and no ageing record moves. -/
theorem State.guardUp_rest : (s.guardUp c).age = s.age ∧ (s.guardUp c).mem = s.mem := by
  unfold State.guardUp
  split
  · exact ⟨rfl, rfl⟩
  · have honly := RadioOnly.refl (s := (s.setGuard c).set RGE.STATUS_GUARD_UP 1) |>.forN 4 (g := fun n t => t.refreshPwr n)
      fun n _ u hu => hu.refreshPwr n
    exact ⟨honly.age.trans rfl, honly.mem.trans rfl⟩

/-- A register of AGE is none that it writes. -/
theorem State.get_guardUp {f : Fld} (hpwr : ∀ g ∈ pwrFlds, g.below f = true) (hcnt : ∀ g ∈ pwrFlds, 4 ≤ g.count)
    (hg : f.apart RGE.GUARD_GUARD = true) (hs : f.apart RGE.GUARD_STEPS = true) (hu : f.apart RGE.STATUS_GUARD_UP = true) :
    (s.guardUp c).get f = s.get f := by
  unfold State.guardUp
  split
  · rfl
  · refine (State.forN_keep (fun t => t.get f = ((s.setGuard c).set RGE.STATUS_GUARD_UP 1).get f) _ 4 _ rfl
      fun n hn t ht => ?_).trans ?_
    · rw [State.get_refreshPwr, ht]
      exact fun g hg => Nat.ne_of_gt (Fld.key_lt_of_below (hpwr g hg) (lt_of_lt_of_le hn (hcnt g hg)) 0)
    · rw [State.get_set_apart _ hu, State.setGuard, State.get_voteClean, State.get_set_apart _ hs, State.get_set_apart _ hg]

/-! ### The guard candidate -/

/-- The chains and groups with at least 256 samples. -/
def State.paFull (s : State) : Tab (List (Nat × Nat)) := s.age.pa.filter fun e => decide (256 ≤ e.2.length)

theorem State.guardCand_none (h : s.paFull = []) : s.guardCand = s := if_pos (by simpa [State.paFull] using h)

/-- A candidate noted, and GUARD raised to it where it lies above. -/
def State.guardTaken (s : State) (c : Nat) : State :=
  let s1 : State := { s.set AGE.GUARD_CAND_GUARD c with age.candidate := true }
  if s.get RGE.GUARD_GUARD < c then (s1.guardUp c).set AGE.STATUS_GUARD_UP 1 else s1

/-- The least candidate that covers every such chain and group. -/
def State.guardLeast (s : State) : Nat :=
  ((List.range 769).find? fun c => s.paFull.all fun e => guardCovers e.2 (sint 16 (s.get AGE.BG_LO)).natAbs c).getD 768

theorem State.guardCand_form : s.guardCand = s ∨ ∃ c pct, s.guardCand = ((s.guardTaken c).set AGE.MARGIN0_B pct).margin 1 pct := by
  by_cases hfull : s.paFull = []
  · exact .inl (s.guardCand_none hfull)
  · refine .inr ⟨s.guardLeast, marginPct (768 - (s.guardLeast : Int)) 768, ?_⟩
    exact if_neg (by simpa [State.paFull] using hfull)

theorem State.guardTaken_rest : (s.guardTaken c).age.exhausted = s.age.exhausted ∧ (s.guardTaken c).mem = s.mem := by
  unfold State.guardTaken
  extract_lets source age s1
  obtain ⟨hage, hmem⟩ := s1.guardUp_rest c
  split
  · exact ⟨congrArg (·.exhausted) hage, hmem⟩
  · exact ⟨rfl, rfl⟩

theorem State.get_guardTaken_bg : (s.guardTaken c).get AGE.BG_LO = s.get AGE.BG_LO := by
  unfold State.guardTaken
  extract_lets source age s1
  have h1 : s1.get AGE.BG_LO = s.get AGE.BG_LO := State.get_set_apart _ (by decide) _
  split
  · rw [State.get_set_apart _ (by decide),
      State.get_guardUp _ _ (by decide) (by decide) (by decide) (by decide) (by decide), h1]
  · exact h1

/-- The candidate leaves the band-gap reading, memory outside ring HW, and the marks of the other margins. -/
theorem State.guardCand_rest : s.guardCand.get AGE.BG_LO = s.get AGE.BG_LO ∧ memSame s s.guardCand 0x2803F000 1040 ∧
    bitOf s.guardCand.age.exhausted 2 = bitOf s.age.exhausted 2 := by
  rcases s.guardCand_form with h | ⟨c, pct, h⟩
  · rw [h]
    exact ⟨rfl, .of_mem rfl, rfl⟩
  · obtain ⟨hexhausted, hmem⟩ := s.guardTaken_rest c
    rw [h]
    refine ⟨?_, ?_, ?_⟩
    · rw [State.get_margin _ _ _ (Fld.clear_of_apart (by decide) _ _), State.get_set_apart _ (by decide), State.get_guardTaken_bg]
    · exact (memSame.of_mem hmem).trans (.trans (.of_mem (State.set_mem _ _ _ _)) (State.memSame_margin _ _ _))
    · rw [State.margin_exhausted_ne _ _ _ (by decide), State.set_age, hexhausted]

end

/-! ### The band-gap reading -/

/-- What a reading of the band gap leaves (R520, R521). -/
def State.bgTaken (s : State) (d : Nat) : State :=
  ((s.set AGE.BG_LO d).guardCand.set AGE.MARGIN0_C (marginPct (6000 - ((sint 16 d).natAbs : Int)) 6000)).margin 2
    (marginPct (6000 - ((sint 16 d).natAbs : Int)) 6000)

theorem exec_ageBgMeasure_on {s : State} {d : Nat} (h : s.bit AGE.CTRL_EN 2 = true) :
    exec (.ageBgMeasure d) s = .next (s.bgTaken d) := by
  have hexec : exec (.ageBgMeasure d) s = execAgeBgMeasure d s := rfl
  rw [hexec, execAgeBgMeasure, if_pos h]
  rfl

/-- The margin of the band gap in whole percents of its 6,000 µV. -/
theorem marginPct_bg (x : Nat) : marginPct (6000 - (x : Int)) 6000 = 100 * (6000 - x) / 6000 := by
  unfold marginPct
  split
  · next h =>
    have : 6000 ≤ x := by
      simp only [Bool.or_eq_true, decide_eq_true_eq] at h
      omega
    omega
  · next h =>
    simp only [Bool.or_eq_true, decide_eq_true_eq, not_or, not_le] at h
    omega

theorem State.bgTaken_shows (s : State) {d : Nat} (hd : d < 65536) :
    let t := s.bgTaken d
    t.get AGE.BG_LO = d ∧ t.get AGE.MARGIN0_C = 100 * (6000 - (sint 16 d).natAbs) / 6000 ∧
      (100 * (6000 - (sint 16 d).natAbs) / 6000 = 0 → bitOf s.age.exhausted 2 = false → t.get AGE.STATUS_EXHAUST = 1) ∧
      memSame s t 0x2803F000 1040 := by
  intro t
  obtain ⟨hbg, hmem, hexhausted⟩ := (s.set AGE.BG_LO d).guardCand_rest
  have hpct := marginPct_le (6000 - ((sint 16 d).natAbs : Int)) 6000
  have hkeep : ∀ f : Fld, (∀ g ∈ marginFlds, f.apart g = true) → t.get f =
      ((s.set AGE.BG_LO d).guardCand.set AGE.MARGIN0_C (marginPct (6000 - ((sint 16 d).natAbs : Int)) 6000)).get f := fun f hf =>
    State.get_margin _ _ _ (Fld.clear_of_apart hf _ _)
  refine ⟨?_, ?_, fun hzero hfirst => ?_, ?_⟩
  · rw [hkeep _ (by decide), State.get_set_apart _ (by decide), hbg, State.get_set_fits _ hd]
  · rw [hkeep _ (by decide), State.get_set_fits _ (lt_of_le_of_lt hpct (by decide)), marginPct_bg]
  · refine State.margin_exhaust _ _ _ ((marginPct_bg _).trans hzero) ?_
    rw [State.set_age, hexhausted, State.set_age, hfirst]
  · exact ((memSame.of_mem (State.set_mem _ _ _ _)).trans hmem).trans (.trans (.of_mem (State.set_mem _ _ _ _)) (State.memSame_margin _ _ _))

/-! ### The carrier samples -/

/-- The chain is one whose carrier the monitor samples. -/
def State.paSampled (s : State) (n : Nat) : Bool :=
  s.bit AGE.CTRL_EN 1 && s.ust n == txCW && s.carrier n && !s.on UTX.STATE_RAMP n

/-- The chain and group of a sample. -/
def State.paKey (s : State) (n : Nat) : Nat := 4 * n + s.get UTX.PWR_GROUP n

/-- The samples of its last 24 h with the new one. -/
def State.paJoined (s : State) (n fwd : Nat) : List (Nat × Nat) :=
  (s.now, unsignedOf 16 (sint 16 fwd - sint 16 (s.get UTX.FWD_EXPECT n))) ::
    (Tab.get [] s.age.pa (s.paKey n)).filter fun e => decide (s.now ≤ e.1 + dayTicks)

/-- A sample taken: FWD shows it. -/
def State.paTaken (s : State) (n fwd : Nat) : State :=
  { s.set UTX.FWD_FWD fwd n with age.pa := Tab.set [] s.age.pa (s.paKey n) (s.paJoined n fwd) }

section
variable {s : State} {n fwd : Nat}

theorem exec_agePaSample_off (h : s.paSampled n = false) : exec (.agePaSample n fwd) s = .next s := by
  have hexec : exec (.agePaSample n fwd) s = execAgePaSample n fwd s := rfl
  rw [hexec, execAgePaSample, if_neg (Bool.not_eq_true _ ▸ h)]

theorem exec_agePaSample_on (h : s.paSampled n = true) : exec (.agePaSample n fwd) s = .next (s.paTaken n fwd).guardCand := by
  have hexec : exec (.agePaSample n fwd) s = execAgePaSample n fwd s := rfl
  have hnow : decide (s.now ≤ s.now + dayTicks) = true := decide_eq_true (Nat.le_add_right _ _)
  have hon : (s.bit AGE.CTRL_EN 1 && s.ust n == txCW && s.carrier n && !s.on UTX.STATE_RAMP n) = true := h
  rw [hexec, execAgePaSample, if_pos hon]
  simp only [List.filter_cons, hnow, if_true]
  rfl

theorem State.paSampled_of (hen : s.bit AGE.CTRL_EN 1 = true) (hst : s.ust n = 3) (hcarrier : s.carrier n = true)
    (hramp : s.get UTX.STATE_RAMP n = 0) : s.paSampled n = true := by
  simp [State.paSampled, hen, hst, hcarrier, State.on, hramp, txCW]

end

/-- Settles O59: a commit writes the bank out of force and no other memory; each monitor acts where it is enabled. -/
theorem commitsAndAgeing : Obligations.CommitsAndAgeing := by
  unfold Obligations.CommitsAndAgeing
  refine ⟨?_, ?_, ?_, ?_, ?_, ?_, ?_, ?_, ?_, ?_, ?_, ?_, ?_, ?_, ?_⟩
  · intro s m ok hlew
    exact congrArg Host.Outcome.next (if_pos (bne_iff_ne.mpr hlew))
  · intro s m ok hlew hbusy
    have hlew' : ¬ s.on PWR.STATE_LEW = true := by simp [State.on, hlew]
    exact congrArg Host.Outcome.next ((if_neg hlew').trans (if_pos (bne_iff_ne.mpr hbusy)))
  · rintro s m b hlew hidle rfl hb
    refine ⟨_, (exec_calCommit hlew hidle).trans (congrArg Host.Outcome.next State.calCommit_done), ?_⟩
    exact State.calFlipped_shows (by omega)
  · rintro s m b hlew hidle rfl hb
    refine ⟨_, (exec_calCommit hlew hidle).trans (congrArg Host.Outcome.next State.calCommit_fail), ?_, ?_, ?_, ?_, ?_,
      fun a hbank hring => ?_⟩
    · rw [State.get_logHW, State.get_bump_apart _ (by decide) (by decide), State.get_set_apart _ (by decide), State.get_calSpoiled]
    · rw [State.nv_logHW, State.bump_nv, State.set_nv, State.nv_calSpoiled]
    · rw [State.get_logHW, State.get_bump_apart _ (by decide) (by decide), State.get_set_fits _ (by decide)]
    · rw [State.get_logHW, State.get_bump_apart _ (by decide) (by decide), State.get_set_apart _ (by decide), State.get_calSpoiled]
    · rw [State.get_logHW, State.get_bump_min _ _ (by decide) (by decide), State.get_set_apart _ (by decide), State.get_calSpoiled]
    · have hspoiled := s.memSame_calSpoiled (1 - s.get CAL.BANK_PTR) a hbank
      refine (State.memSame_logHW _ _ _ _ a hring).trans (Eq.trans ?_ hspoiled)
      exact congrArg (fun m => (Tab.get 0 m a).toNat) ((State.bump_mem _ _ _ _ _).trans (State.set_mem _ _ _ _))
  · exact fun s a b c => exec_ageRoMeasure_off
  · exact fun s a b c hen ha hb hc => ⟨_, exec_ageRoMeasure_on hen, State.roDue_shows ha hb hc⟩
  · intro s n fwd hoff
    refine exec_agePaSample_off ?_
    unfold State.paSampled State.on
    rcases hoff with h | h | h | h
    · simp [h]
    · simp [txCW, h]
    · simp [h]
    · simp [h]
  · intro s n fwd _ hen hst hcarrier hramp hpa
    have hone : s.paTaken n fwd = { s.set UTX.FWD_FWD fwd n with age.pa :=
        [(4 * n + s.get UTX.PWR_GROUP n, [(s.now, unsignedOf 16 (sint 16 fwd - sint 16 (s.get UTX.FWD_EXPECT n)))])] } := by
      simp [State.paTaken, State.paJoined, State.paKey, hpa, Tab.set, Tab.erase, Tab.ins]
    rw [exec_agePaSample_on (State.paSampled_of hen hst hcarrier hramp), State.guardCand_none, hone]
    rw [hone]
    rfl
  · rintro s n fwd k x hen hst hcarrier hramp rfl rfl
    exact exec_agePaSample_on (State.paSampled_of hen hst hcarrier hramp)
  · exact fun s d => exec_ageBgMeasure_off
  · exact fun s d hen hd => ⟨_, exec_ageBgMeasure_on hen, s.bgTaken_shows hd⟩
  · exact fun s w => exec_ageMramMeasure_off
  · exact fun s w hen hw => ⟨_, exec_ageMramMeasure_on hen, s.mramTaken_shows hw⟩
  · exact fun s => rfl
  · exact fun s => rfl

end Sys2Proof.Machine
end

section
/-! PROOFS. R465 to R478: the clock block. Moving the outputs to bypass writes the block's registers, ramps the chains down and ends
windows and captures; what it leaves of the block's registers is read off the parts one by one. -/

namespace Sys2Proof.Machine

open Sys2Proof

/-- The registers are all in which `t` may differ from `s`. -/
def RegsOnly (s t : State) : Prop := ∃ r, t = { s with regs := r }

namespace RegsOnly
variable {s t u : State}

theorem refl : RegsOnly s s := ⟨s.regs, rfl⟩

theorem set (h : RegsOnly s t) (f : Fld) (v n : Nat) : RegsOnly s (t.set f v n) := by
  obtain ⟨r, rfl⟩ := h
  exact ⟨_, rfl⟩

theorem bump (h : RegsOnly s t) (c d : Fld) (n k : Nat) : RegsOnly s (t.bump c d n k) := by
  unfold State.bump
  split
  · exact h.set _ _ _
  · exact (h.set _ _ _).set _ _ _

theorem trans (h : RegsOnly s t) (h' : RegsOnly t u) : RegsOnly s u := by
  obtain ⟨r, rfl⟩ := h
  obtain ⟨r', rfl⟩ := h'
  exact ⟨r', rfl⟩

section
variable (h : RegsOnly s t)
include h
theorem mem : t.mem = s.mem := by obtain ⟨r, rfl⟩ := h; rfl
theorem coreP : t.coreP = s.coreP := by obtain ⟨r, rfl⟩ := h; rfl
theorem radio : t.radio = s.radio := by obtain ⟨r, rfl⟩ := h; rfl
theorem engAt (n : Nat) : t.engAt n = s.engAt n := by obtain ⟨r, rfl⟩ := h; rfl
end
end RegsOnly

/-! ### Spreading (R475, R476) -/

/-- What bringing the spreading up to date writes. -/
def spreadFlds : List Fld :=
  [CLK.STATE_SS_SUSP, CLK.STATE_SS_ACTIVE, CLK.SPUR_CUR_MATCH, CLK.SPUR_CUR_ENTRY, CLK.CNT_SUSP_COUNT, CLK.STATUS_SAT]

section
variable (s : State)

theorem State.clkSpread_only : RegsOnly s s.clkSpread := by
  unfold State.clkSpread
  extract_lets m run active hits s1
  have h1 : RegsOnly s s1 := by
    simp only [s1]
    split
    · exact RegsOnly.refl.bump _ _ _ _
    · exact .refl
  exact (((h1.set _ _ _).set _ _ _).set _ _ _).set _ _ _

theorem State.get_clkSpread {f : Fld} {n : Nat} (h : f.clear n spreadFlds 0) : s.clkSpread.get f n = s.get f n := by
  unfold State.clkSpread
  extract_lets m run active hits s1
  have h1 : s1.get f n = s.get f n := by
    simp only [s1]
    split
    · exact State.get_bump_clear h (by decide) (by decide) _
    · rfl
  rw [State.get_set_clear h (by decide), State.get_set_clear h (by decide), State.get_set_clear h (by decide),
    State.get_set_clear h (by decide), h1]

/-- On bypass nothing spreads. -/
theorem State.clkSpread_bypass (h : s.get CLK.STATE_ON_BYPASS ≠ 0) : s.clkSpread.get CLK.STATE_SS_ACTIVE = 0 := by
  unfold State.clkSpread
  extract_lets m run active hits s1
  have hoff : active = false := by simp [active, State.on, h]
  rw [State.get_set_apart _ (by decide), State.get_set_apart _ (by decide), hoff]
  exact State.get_set_fits _ (by decide)

end

/-! ### The return (R472, R473) -/

/-- What a return writes beside the spreading. -/
def returnFlds : List Fld := [CLK.STATE_ON_BYPASS, CLK.STATE_PLL_STATE, CLK.STATUS_RETURNED, CLK.STATE_PHY_AON]

/-- The block's registers as the outputs return. -/
def State.clkBack (s : State) : State :=
  (((s.set CLK.STATE_ON_BYPASS 0).set CLK.STATE_PLL_STATE 3).set CLK.STATUS_RETURNED 1).set CLK.STATE_PHY_AON
    (b2n (s.get CLK.PLL_CFG_MULT != 24))

section
variable (s : State)

theorem State.clkReturn_eq : s.clkReturn = s.clkBack.clkSpread := rfl

theorem State.clkReturn_only : RegsOnly s s.clkReturn := RegsOnly.trans ⟨_, rfl⟩ s.clkBack.clkSpread_only

theorem State.get_clkReturn {f : Fld} {n : Nat} (h : f.clear n (returnFlds ++ spreadFlds) 0) : s.clkReturn.get f n = s.get f n := by
  have hback : f.clear n returnFlds 0 := fun g hg => h g (List.mem_append_left _ hg)
  rw [State.clkReturn_eq, State.get_clkSpread _ fun g hg => h g (List.mem_append_right _ hg), State.clkBack,
    State.get_set_clear hback (by decide), State.get_set_clear hback (by decide), State.get_set_clear hback (by decide),
    State.get_set_clear hback (by decide)]

theorem State.clkReturn_shows :
    s.clkReturn.get CLK.STATE_ON_BYPASS = 0 ∧ s.clkReturn.get CLK.STATE_PLL_STATE = 3 ∧ s.clkReturn.get CLK.STATUS_RETURNED = 1 ∧
      s.clkReturn.get CLK.STATE_PHY_AON = if s.get CLK.PLL_CFG_MULT = 24 then 0 else 1 := by
  have hspread : ∀ f : Fld, (∀ g ∈ spreadFlds, f.apart g = true) → s.clkReturn.get f = s.clkBack.get f := fun f hf =>
    s.clkBack.get_clkSpread (Fld.clear_of_apart hf _ _)
  refine ⟨?_, ?_, ?_, ?_⟩
  · rw [hspread _ (by decide), State.clkBack, State.get_set_apart _ (by decide), State.get_set_apart _ (by decide),
      State.get_set_apart _ (by decide), State.get_set_fits _ (by decide)]
  · rw [hspread _ (by decide), State.clkBack, State.get_set_apart _ (by decide), State.get_set_apart _ (by decide),
      State.get_set_fits _ (by decide)]
  · rw [hspread _ (by decide), State.clkBack, State.get_set_apart _ (by decide), State.get_set_fits _ (by decide)]
  · rw [hspread _ (by decide), State.clkBack, State.get_set_same]
    by_cases h : s.get CLK.PLL_CFG_MULT = 24
    · simp [h, b2n]
    · simp [h, b2n, Fld.width]
      decide

end

/-! ### A chain on bypass (R96, R471) -/

section
variable (s : State) {f : Fld} {k : Nat}

/-- A ramp-down leaves the registers of UTX but for the chain's ramp and state. -/
theorem State.get_rampDownFrom (hup : f.upToTx = true) (hk : k < f.count) (hramp : f.apart UTX.STATE_RAMP = true)
    (hst : ∀ g ∈ [UTX.STATE_STATE, UTX.STATUS_STATE_CHG], f.apart g = true) (n : Nat) (u : UtxChain) :
    (s.rampDownFrom n u).get f k = s.get f k := by
  have hlt := Fld.key_lt_rx hup hk
  unfold State.rampDownFrom
  extract_lets s1 s2
  have h1 : s1.get f k = s.get f k := State.get_set_apart _ hramp _
  have h2 : s2.get f k = s.get f k := by
    simp only [s2]
    split
    · rw [State.get_setUst, h1]
      exact Fld.clear_of_apart hst _ _
    · exact h1
  split
  · split
    · rw [((RxSide.refl s2).rxCache _).get hlt, h2]
    · rw [(((RxSide.refl s2).rxCache _).engAbort _).get hlt, h2]
  · exact h2

theorem State.get_rampDown (hup : f.upToTx = true) (hk : k < f.count) (hramp : f.apart UTX.STATE_RAMP = true)
    (hst : ∀ g ∈ [UTX.STATE_STATE, UTX.STATUS_STATE_CHG], f.apart g = true) (n : Nat) (fast : Bool) (dest err : Nat) :
    (s.rampDown n fast dest err).get f k = s.get f k := by
  unfold State.rampDown
  split
  · rfl
  · extract_lets u pos start err'
    split
    · split
      · exact s.get_rampDownFrom hup hk hramp hst _ _
      · rfl
    · exact s.get_rampDownFrom hup hk hramp hst _ _

end
end Sys2Proof.Machine
end

section
/-! PROOFS. R470, R471: loss of lock and bypass; O50. -/

namespace Sys2Proof.Machine

open Sys2Proof

/-! ### The chains ramped down and the windows closed -/

/-- The loss of lock is shown on chain `n`. -/
def State.lolShown (s : State) (n : Nat) : Prop := s.get UTX.STATUS_LOL_RAMP n = 1 ∧ s.get UTX.STATE_LAST_ERR n = errLOL

section
variable (s : State)

theorem Beyond.bypassChain {t : State} (h : Beyond txKey s t) (n : Nat) : Beyond txKey s (t.bypassChain n) :=
  .ite ((((h.set (f := UTX.STATUS_LOL_RAMP) (by decide) 1 n).set (f := UTX.STATE_LAST_ERR) (by decide) errLOL n).bump
    (c := UTX.CNT_FAULT_COUNT) (f := UTX.STATUS_SAT) (by decide) (by decide) n 1).rampDown n true txREADY errLOL) h

/-- A chain's register that neither the ramp-down nor the report of the loss writes. -/
theorem State.get_bypassChain {f : Fld} {k : Nat} (hup : f.upToTx = true) (hk : k < f.count) (n : Nat)
    (hf : f.clear k [UTX.STATUS_LOL_RAMP, UTX.STATE_LAST_ERR, UTX.CNT_FAULT_COUNT, UTX.STATUS_SAT] n)
    (hramp : f.apart UTX.STATE_RAMP = true) (hst : ∀ g ∈ [UTX.STATE_STATE, UTX.STATUS_STATE_CHG], f.apart g = true) :
    (s.bypassChain n).get f k = s.get f k := by
  unfold State.bypassChain
  split
  · rw [State.get_rampDown _ hup hk hramp hst, State.get_bump_clear hf (by decide) (by decide), State.noteErr,
      State.get_set_clear hf (by decide), State.get_set_clear hf (by decide)]
  · rfl

theorem State.carrier_bypassChain {k : Nat} (hk : k < 4) (n : Nat) : (s.bypassChain n).carrier k = s.carrier k :=
  congrArg (· != 0) (s.get_bypassChain (by decide) hk n (Fld.clear_of_apart (by decide) _ _) (by decide) (by decide))

/-- Another chain's turn leaves what is shown on a chain. -/
theorem State.lolShown_bypassChain {n k : Nat} (hn : n < 4) (hne : n ≠ k) (h : s.lolShown n) : (s.bypassChain k).lolShown n := by
  obtain ⟨hramp, herr⟩ := h
  have hclear : ∀ f ∈ [UTX.STATUS_LOL_RAMP, UTX.STATE_LAST_ERR],
      f.clear n [UTX.STATUS_LOL_RAMP, UTX.STATE_LAST_ERR, UTX.CNT_FAULT_COUNT, UTX.STATUS_SAT] k := by
    intro f hf g hg
    by_cases hfg : f = g
    · subst hfg
      refine Fld.key_ne_of_instance ?_ hne
      revert f
      decide
    · refine Fld.key_ne_of_apart ?_ _ _
      revert f g
      decide
  refine ⟨(s.get_bypassChain (by decide) hn k (hclear _ (by decide)) (by decide) (by decide)).trans hramp,
    (s.get_bypassChain (by decide) hn k (hclear _ (by decide)) (by decide) (by decide)).trans herr⟩

/-- Its own turn shows the loss where it carries. -/
theorem State.bypassChain_shown {n : Nat} (hn : n < 4) (h : s.carrier n = true) : (s.bypassChain n).lolShown n := by
  unfold State.bypassChain
  rw [if_pos h]
  constructor
  · rw [State.get_rampDown _ (by decide) hn (by decide) (by decide), State.get_bump_apart _ (by decide) (by decide), State.noteErr,
      State.get_set_apart _ (by decide), State.get_set_fits _ (by decide)]
  · rw [State.get_rampDown _ (by decide) hn (by decide) (by decide), State.get_bump_apart _ (by decide) (by decide), State.noteErr,
      State.get_set_fits _ (by decide)]

/-- All four chains ramped down. -/
def State.chainsDown (s : State) : State := s.forN 4 fun n t => t.bypassChain n

/-- All four sheaves without a frame or window. -/
def State.windowsDown (s : State) : State := s.forN 4 fun sh t => t.engAbort sh

theorem State.chainsDown_shown {n : Nat} (hn : n < 4) (h : s.carrier n = true) : s.chainsDown.lolShown n :=
  State.forN_once (fun t => t.carrier n = true) (fun t => t.lolShown n) _ hn s h
    (fun k _ _ t ht => (t.carrier_bypassChain hn k).trans ht) (fun t ht => t.bypassChain_shown hn ht)
    (fun _ _ hk t ht => t.lolShown_bypassChain hn hk.symm ht)

theorem State.chainsDown_beyond : Beyond txKey s s.chainsDown := (Beyond.refl txKey s).forN fun n _ hu => Beyond.bypassChain s hu n

theorem State.windowsDown_side : RxSide s s.windowsDown := (RxSide.refl s).forN fun n _ hu => hu.engAbort n

theorem State.engAt_setUrxs (l : List Nat) (k : Nat) :
    (s.forL l fun ch t => t.setUrx ch { t.urxAt ch with frozen := false }).engAt k = s.engAt k :=
  State.forL_keep (fun t => t.engAt k = s.engAt k) _ l s rfl fun _ _ _ ht => ht

/-- An abort ends its own sheaf's window alone. -/
theorem State.engAbort_window (sh : Nat) : ((s.engAbort sh).engAt sh).window = none := by
  unfold State.engAbort
  extract_lets eng s1
  rw [State.engAt_setUrxs]
  exact congrArg FrameEng.window (Tab.get_set_same _ _ _ _)

theorem State.engAbort_window_ne {sh k : Nat} (h : k ≠ sh) : ((s.engAbort sh).engAt k).window = (s.engAt k).window := by
  unfold State.engAbort
  extract_lets eng s1
  rw [State.engAt_setUrxs]
  exact congrArg FrameEng.window (Tab.get_set_ne _ _ _ _ h)

theorem State.windowsDown_window {sh : Nat} (h : sh < 4) : (s.windowsDown.engAt sh).window = none :=
  State.forN_once (fun _ => True) (fun t => (t.engAt sh).window = none) _ h s trivial (fun _ _ _ _ _ => trivial)
    (fun t _ => t.engAbort_window sh) (fun _ _ hk t ht => (t.engAbort_window_ne hk.symm).trans ht)

end

/-! ### The capture cut (R129, R471) -/

/-- What a cut leaves: registers below URX, the frame engines and Core P's state. -/
structure CutRest (s t : State) : Prop where
  get : ∀ (f : Fld) (n : Nat), f.key n < rxKey → t.get f n = s.get f n
  engAt : ∀ sh, t.engAt sh = s.engAt sh
  coreP : t.coreP = s.coreP

namespace CutRest
variable {s t : State}

theorem set (h : CutRest s t) {f : Fld} (hf : rxKey ≤ f.key 0) (v n : Nat) : CutRest s (t.set f v n) where
  get g k hg := by
    have hle : f.key 0 ≤ f.key n := Fld.key_mono f (Nat.zero_le n)
    rw [State.get_set_ne _ _ _ _ _ _ (by omega), h.get g k hg]
  engAt := h.engAt
  coreP := h.coreP

theorem capEnd (h : CutRest s t) (count before ptr : Nat) (l : List Nat) : CutRest s (t.capEnd count before ptr l) := by
  unfold State.capEnd
  extract_lets n fit c p s1 s2 source radio s3
  have h1 : CutRest s s1 := by
    obtain ⟨x, y, hform⟩ := t.capStore_form (words := l) p (fit * n) (c * n)
    have hs1 : s1 = { t with mem := x, freeCount := y } := hform
    rw [hs1]
    exact ⟨h.get, h.engAt, h.coreP⟩
  have h2 : CutRest s s2 := (((h1.set (by decide) _ _).set (by decide) _ _).set (by decide) _ _).set (by decide) _ _
  have h3 : CutRest s s3 := by
    have hset := h2.set (f := URX.CAP_PTR_INDEX) (by decide) p 0
    exact ⟨hset.get, hset.engAt, hset.coreP⟩
  split
  · exact ((h3.set (by decide) _ _).set (by decide) _ _).set (by decide) _ _
  · exact h3

theorem captureCut (s : State) : CutRest s s.captureCut := by
  unfold State.captureCut State.capStop
  extract_lets d c
  split
  · have h0 : CutRest s d.2 := ⟨fun _ _ _ => rfl, fun _ => rfl, rfl⟩
    exact h0.capEnd _ _ _ _
  · exact ⟨fun _ _ _ => rfl, fun _ => rfl, rfl⟩

end CutRest

/-! ### Bypass -/

/-- The block's registers as the outputs move to bypass. -/
def State.bypassMarked (s : State) : State :=
  ((s.set CLK.STATE_ON_BYPASS 1).set CLK.STATE_PHY_AON 1).set CLK.STATE_PLL_STATE 1

section
variable (s : State)

theorem State.clkBypass_eq : s.clkBypass = s.bypassMarked.chainsDown.windowsDown.captureCut.clkSpread := rfl

/-- A register below the chains' that neither bypass nor the spreading writes itself. -/
theorem State.get_clkBypass {f : Fld} {n : Nat} (hlt : f.key n < txKey) (h : f.clear n spreadFlds 0) :
    s.clkBypass.get f n = s.bypassMarked.get f n := by
  have hrx : f.key n < rxKey := lt_of_lt_of_le hlt (by decide)
  rw [State.clkBypass_eq, State.get_clkSpread _ h, (CutRest.captureCut _).get _ _ hrx, (State.windowsDown_side _).get hrx,
    (State.chainsDown_beyond _).get hlt]

/-- A register that none of it writes. -/
theorem State.get_clkBypass_other {f : Fld} {n : Nat} (hlt : f.key n < txKey) (h : f.clear n spreadFlds 0)
    (hmark : f.clear n [CLK.STATE_ON_BYPASS, CLK.STATE_PHY_AON, CLK.STATE_PLL_STATE] 0) : s.clkBypass.get f n = s.get f n := by
  rw [s.get_clkBypass hlt h, State.bypassMarked, State.get_set_clear hmark (by decide), State.get_set_clear hmark (by decide),
    State.get_set_clear hmark (by decide)]

theorem State.clkBypass_coreP : s.clkBypass.coreP = s.coreP := by
  rw [State.clkBypass_eq, (State.clkSpread_only _).coreP, (CutRest.captureCut _).coreP]
  obtain ⟨⟨r, x, y, z, o, c, hside⟩, -⟩ := s.bypassMarked.chainsDown.windowsDown_side
  obtain ⟨⟨r', x', c', hbeyond⟩, -⟩ := s.bypassMarked.chainsDown_beyond
  rw [hside, hbeyond]
  rfl

/-- What the block shows on bypass. -/
theorem State.clkBypass_shows :
    s.clkBypass.get CLK.STATE_ON_BYPASS = 1 ∧ s.clkBypass.get CLK.STATE_PHY_AON = 1 ∧ s.clkBypass.get CLK.STATE_PLL_STATE = 1 ∧
      s.clkBypass.get CLK.STATE_SS_ACTIVE = 0 := by
  have hmark : s.bypassMarked.get CLK.STATE_ON_BYPASS = 1 := by
    rw [State.bypassMarked, State.get_set_apart _ (by decide), State.get_set_apart _ (by decide), State.get_set_fits _ (by decide)]
  have hcut : s.bypassMarked.chainsDown.windowsDown.captureCut.get CLK.STATE_ON_BYPASS = 1 := by
    rw [(CutRest.captureCut _).get _ _ (by decide), (State.windowsDown_side _).get (by decide), (State.chainsDown_beyond _).get (by decide),
      hmark]
  refine ⟨?_, ?_, ?_, ?_⟩
  · rw [s.get_clkBypass (by decide) (Fld.clear_of_apart (by decide) _ _), hmark]
  · rw [s.get_clkBypass (by decide) (Fld.clear_of_apart (by decide) _ _), State.bypassMarked, State.get_set_apart _ (by decide),
      State.get_set_fits _ (by decide)]
  · rw [s.get_clkBypass (by decide) (Fld.clear_of_apart (by decide) _ _), State.bypassMarked, State.get_set_fits _ (by decide)]
  · rw [State.clkBypass_eq]
    exact State.clkSpread_bypass _ (by rw [hcut]; decide)

/-- Every chain that carried shows the loss of lock. -/
theorem State.clkBypass_lol {n : Nat} (hn : n < 4) (h : s.carrier n = true) : s.clkBypass.lolShown n := by
  have hmark : s.bypassMarked.carrier n = true := by
    have : s.bypassMarked.get UTX.STATE_CARRIER n = s.get UTX.STATE_CARRIER n := by
      rw [State.bypassMarked, State.get_set_below _ (by decide) (by decide), State.get_set_below _ (by decide) (by decide),
        State.get_set_below _ (by decide) (by decide)]
    exact (congrArg (· != 0) this).trans h
  obtain ⟨hramp, herr⟩ := s.bypassMarked.chainsDown_shown hn hmark
  have hkeep : ∀ f : Fld, f.upToTx = true → n < f.count → f.clear n spreadFlds 0 →
      s.clkBypass.get f n = s.bypassMarked.chainsDown.get f n := fun f hup hk hclear => by
    rw [State.clkBypass_eq, State.get_clkSpread _ hclear, (CutRest.captureCut _).get _ _ (Fld.key_lt_rx hup hk),
      (State.windowsDown_side _).get (Fld.key_lt_rx hup hk)]
  have hspread : ∀ f ∈ [UTX.STATUS_LOL_RAMP, UTX.STATE_LAST_ERR], f.clear n spreadFlds 0 := by
    intro f hf g hg
    have hbelow : ∀ f ∈ [UTX.STATUS_LOL_RAMP, UTX.STATE_LAST_ERR], ∀ g ∈ spreadFlds, g.below f = true ∧ 0 < g.count := by decide
    exact Nat.ne_of_gt (Fld.key_lt_of_below (hbelow f hf g hg).1 (hbelow f hf g hg).2 n)
  exact ⟨(hkeep _ (by decide) hn (hspread _ (by decide))).trans hramp, (hkeep _ (by decide) hn (hspread _ (by decide))).trans herr⟩

/-- No sheaf has a window. -/
theorem State.clkBypass_window {sh : Nat} (hsh : sh < 4) : (s.clkBypass.engAt sh).window = none := by
  rw [State.clkBypass_eq, (State.clkSpread_only _).engAt, (CutRest.captureCut _).engAt]
  exact State.windowsDown_window _ hsh

end

/-! ### The commands -/

section
variable {s : State}

/-- A loss of lock, its log entry aside. -/
def State.lolTaken (s : State) : State :=
  (s.clkBypass.pllSearch.set CLK.STATUS_LOL 1).bump CLK.CNT_LOL_COUNT CLK.STATUS_SAT

theorem exec_pllLol (h : s.coreP.pllLocked = true) :
    exec .pllLol s = .next (s.logHW 0x05 0 (s.get CLK.STATE_BAND)).lolTaken := if_pos h

theorem State.get_pllSearch (s : State) (f : Fld) (n : Nat) : s.pllSearch.get f n = s.get f n := rfl
theorem State.engAt_pllSearch (s : State) (n : Nat) : s.pllSearch.engAt n = s.engAt n := rfl
theorem State.pllLocked_pllSearch (s : State) : s.pllSearch.coreP.pllLocked = false := rfl

/-- A loss of lock: what the block, the chains and the sheaves show (R470, R471). -/
theorem State.lol_shows (s : State) :
    s.lolTaken.get CLK.STATE_ON_BYPASS = 1 ∧ s.lolTaken.get CLK.STATE_PHY_AON = 1 ∧ s.lolTaken.get CLK.STATE_PLL_STATE = 1 ∧
      s.lolTaken.get CLK.STATUS_LOL = 1 ∧ s.lolTaken.get CLK.CNT_LOL_COUNT = min 0xFFFFFFFF (s.get CLK.CNT_LOL_COUNT + 1) ∧
      s.lolTaken.get CLK.STATE_SS_ACTIVE = 0 ∧ s.lolTaken.coreP.pllLocked = false ∧
      (∀ n, n < 4 → s.carrier n = true → s.lolTaken.lolShown n) ∧ (∀ sh, sh < 4 → (s.lolTaken.engAt sh).window = none) := by
  obtain ⟨hbypass, hphy, hpll, hss⟩ := s.clkBypass_shows
  have hkeep : ∀ (f : Fld) (n : Nat), f.clear n [CLK.STATUS_LOL, CLK.CNT_LOL_COUNT, CLK.STATUS_SAT] 0 →
      s.lolTaken.get f n = s.clkBypass.get f n := fun f n hf => by
    rw [State.lolTaken, State.get_bump_clear hf (by decide) (by decide), State.get_set_clear hf (by decide), State.get_pllSearch]
  have hchain : ∀ f ∈ [UTX.STATUS_LOL_RAMP, UTX.STATE_LAST_ERR], ∀ n,
      f.clear n [CLK.STATUS_LOL, CLK.CNT_LOL_COUNT, CLK.STATUS_SAT] 0 := by
    intro f hf n g hg
    have hbelow : ∀ f ∈ [UTX.STATUS_LOL_RAMP, UTX.STATE_LAST_ERR], ∀ g ∈ [CLK.STATUS_LOL, CLK.CNT_LOL_COUNT, CLK.STATUS_SAT],
        g.below f = true ∧ 0 < g.count := by decide
    exact Nat.ne_of_gt (Fld.key_lt_of_below (hbelow f hf g hg).1 (hbelow f hf g hg).2 n)
  have hregs : RegsOnly s.clkBypass.pllSearch s.lolTaken := (RegsOnly.refl.set _ _ _).bump _ _ _ _
  refine ⟨?_, ?_, ?_, ?_, ?_, ?_, ?_, fun n hn hc => ?_, fun sh hsh => ?_⟩
  · rw [hkeep _ _ (Fld.clear_of_apart (by decide) _ _), hbypass]
  · rw [hkeep _ _ (Fld.clear_of_apart (by decide) _ _), hphy]
  · rw [hkeep _ _ (Fld.clear_of_apart (by decide) _ _), hpll]
  · rw [State.lolTaken, State.get_bump_apart _ (by decide) (by decide), State.get_set_fits _ (by decide)]
  · rw [State.lolTaken, State.get_bump_min _ _ (by decide) (by decide), State.get_set_apart _ (by decide), State.get_pllSearch,
      s.get_clkBypass_other (by decide) (Fld.clear_of_apart (by decide) _ _) (Fld.clear_of_apart (by decide) _ _)]
  · rw [hkeep _ _ (Fld.clear_of_apart (by decide) _ _), hss]
  · rw [hregs.coreP, State.pllLocked_pllSearch]
  · obtain ⟨hramp, herr⟩ := s.clkBypass_lol hn hc
    exact ⟨(hkeep _ _ (hchain _ (by decide) n)).trans hramp, (hkeep _ _ (hchain _ (by decide) n)).trans herr⟩
  · rw [hregs.engAt, State.engAt_pllSearch]
    exact s.clkBypass_window hsh

/-- A log entry is seen neither by a chain's carrier nor by the count. -/
theorem State.carrier_logHW (s : State) (code inst data n : Nat) : (s.logHW code inst data).carrier n = s.carrier n :=
  congrArg (· != 0) (s.get_logHW _ _ _ _ _)

theorem exec_relock_idle (h : s.coreP.pllLocked = false ∨ s.get CLK.STATE_PLL_STATE ≠ 1) : exec .relock s = .next s := by
  refine congrArg Host.Outcome.next (if_neg ?_)
  rcases h with h | h <;> simp [h]

/-- Lock held (R472). -/
def State.lockHeld (s : State) : State := (s.set CLK.STATE_PLL_STATE 2).set CLK.STATUS_RELOCK 1

theorem exec_relock (hlock : s.coreP.pllLocked = true) (hsearch : s.get CLK.STATE_PLL_STATE = 1) :
    exec .relock s = .next (if s.get CLK.CTRL_AUTO_RETURN = 0 then s.lockHeld else s.lockHeld.clkReturn) := by
  have hauto : s.lockHeld.get CLK.CTRL_AUTO_RETURN = s.get CLK.CTRL_AUTO_RETURN := by
    rw [State.lockHeld, State.get_set_apart _ (by decide), State.get_set_apart _ (by decide)]
  have hexec : exec .relock s = .next s.relock := congrArg Host.Outcome.next (if_pos (by simp [hlock, hsearch]))
  have hrelock : s.relock = if s.lockHeld.on CLK.CTRL_AUTO_RETURN then s.lockHeld.clkReturn else s.lockHeld := rfl
  rw [hexec, hrelock, State.on, hauto]
  by_cases h : s.get CLK.CTRL_AUTO_RETURN = 0 <;> simp [h]

/-- The registers that a return writes, as a list of keys. -/
theorem State.regsSame_clkReturn (s : State) {l : List Fld} (hl : ∀ g ∈ returnFlds ++ spreadFlds, g ∈ l) :
    regsSame s s.clkReturn (l.map fun f => f.key 0) := fun _f _n hf =>
  s.get_clkReturn fun g hg heq => hf (List.mem_map.mpr ⟨g, hl g hg, heq.symm⟩)

end

/-- Settles O50: bypass, return and the block's writes, each from what it writes; what cannot be at the moment changes nothing. -/
theorem clocksAndLossOfLock : Obligations.ClocksAndLossOfLock := by
  unfold Obligations.ClocksAndLossOfLock
  refine ⟨?_, ?_, ?_, ?_, ?_, ?_, ?_, ?_, ?_, ?_, ?_, ?_, ?_, ?_, ?_, ?_, ?_, ?_, ?_, ?_, ?_, ?_, ?_, ?_, ?_⟩
  · intro s hlock
    obtain ⟨hbypass, hphy, hpll, hlol, hcount, hss, hsearch, hchains, hwindows⟩ :=
      (s.logHW 0x05 0 (s.get CLK.STATE_BAND)).lol_shows
    refine ⟨_, exec_pllLol hlock, hbypass, hphy, hpll, hlol, ?_, hss, hsearch, fun n hn hc => ?_, hwindows⟩
    · rw [hcount, State.get_logHW]
    · exact hchains n hn ((s.carrier_logHW _ _ _ n).trans hc)
  · intro s hlock
    exact if_neg (by simp [hlock])
  · intro s band hlock hsearch
    exact congrArg Host.Outcome.next (if_neg (by simp [hlock, hsearch]))
  · intro s band hno
    refine congrArg Host.Outcome.next (if_pos ?_)
    rcases hno with h | h <;> simp [h]
  · exact fun s => exec_relock_idle
  · intro s hlock hsearch hauto
    rw [exec_relock hlock hsearch, if_pos hauto]
    rfl
  · intro s hlock hsearch hauto
    obtain ⟨hbypass, hpll, hreturned, hphy⟩ := s.lockHeld.clkReturn_shows
    refine ⟨_, (exec_relock hlock hsearch).trans (congrArg Host.Outcome.next (if_neg hauto)), hbypass, hpll, ?_, hreturned, ?_, ?_,
      fun f n hf => ?_⟩
    · rw [State.get_clkReturn _ (Fld.clear_of_apart (by decide) _ _), State.lockHeld, State.get_set_fits _ (by decide)]
    · rw [hphy, State.lockHeld, State.get_set_apart _ (by decide), State.get_set_apart _ (by decide)]
    · exact s.lockHeld.clkReturn_only.mem
    · have hclear : f.clear n [CLK.STATE_ON_BYPASS, CLK.STATE_PLL_STATE, CLK.STATUS_RELOCK, CLK.STATUS_RETURNED, CLK.STATE_PHY_AON,
          CLK.STATE_SS_SUSP, CLK.STATE_SS_ACTIVE, CLK.SPUR_CUR_MATCH, CLK.SPUR_CUR_ENTRY, CLK.CNT_SUSP_COUNT, CLK.STATUS_SAT] 0 :=
        fun g hg heq => hf (List.mem_map.mpr ⟨g, hg, heq.symm⟩)
      have hsub : ∀ g ∈ returnFlds ++ spreadFlds, g ∈ [CLK.STATE_ON_BYPASS, CLK.STATE_PLL_STATE, CLK.STATUS_RELOCK, CLK.STATUS_RETURNED,
          CLK.STATE_PHY_AON, CLK.STATE_SS_SUSP, CLK.STATE_SS_ACTIVE, CLK.SPUR_CUR_MATCH, CLK.SPUR_CUR_ENTRY, CLK.CNT_SUSP_COUNT,
          CLK.STATUS_SAT] := by decide
      rw [State.get_clkReturn _ fun g hg => hclear g (hsub g hg), State.lockHeld, State.get_set_clear hclear (by decide),
        State.get_set_clear hclear (by decide)]
  · exact fun s m hlt => congrArg Host.Outcome.next (if_pos hlt)
  · intro s m hge hoff
    refine congrArg Host.Outcome.next ((if_neg (by omega)).trans (if_neg ?_))
    simp [State.on, hoff]
  · intro s m hge hon
    obtain ⟨hbypass, hpll, hreturned, hphy⟩ := s.clkReturn_shows
    refine ⟨_, congrArg Host.Outcome.next ((if_neg (by omega)).trans (if_pos (bne_iff_ne.mpr hon))), hbypass, hpll, hreturned, hphy,
      s.clkReturn_only.mem, s.regsSame_clkReturn (by decide)⟩
  · exact fun s m hm => congrArg Host.Outcome.next (if_neg (by simpa using hm))
  · intro s
    obtain ⟨hbypass, hphy, hpll, hss⟩ := s.clkBypass_shows
    have hexec : exec (.clkBypass .coreP) s = .next s.clkBypass := rfl
    refine ⟨s.clkBypass, hexec, hbypass, hpll, hphy, ?_, hss, ?_, fun n hn hc => s.clkBypass_lol hn hc,
      fun sh hsh => s.clkBypass_window hsh⟩
    swap
    · rw [s.clkBypass_coreP]
    exact s.get_clkBypass_other (by decide) (Fld.clear_of_apart (by decide) _ _) (Fld.clear_of_apart (by decide) _ _)
  · intro s m v hno
    refine congrArg Host.Outcome.next (if_neg ?_)
    rcases hno with h | h | h | h
    · simp [h]
    · simp [h]
    · simp [Nat.not_le.mpr h]
    · simp [Nat.not_le.mpr h]
  · intro s v hoff hlow hhigh
    have hv : v < 2 ^ CLK.PLL_CFG_MULT.width := lt_of_le_of_lt hhigh (by decide)
    obtain ⟨hbypass, -, hpll, -⟩ := (s.set CLK.PLL_CFG_MULT v).clkBypass_shows
    refine ⟨(s.set CLK.PLL_CFG_MULT v).clkBypass.pllSearch, congrArg Host.Outcome.next (if_pos (by simp [hoff, hlow, hhigh])), ?_, ?_, ?_,
      ?_, State.pllLocked_pllSearch _⟩
    all_goals rw [State.get_pllSearch]
    rotate_left
    · exact hbypass
    · exact hpll
    rotate_left
    · exact (State.get_clkBypass_other _ (by decide) (Fld.clear_of_apart (by decide) _ _) (Fld.clear_of_apart (by decide) _ _)).trans
        (State.get_set_fits _ hv)
    · exact (State.get_clkBypass_other _ (by decide) (Fld.clear_of_apart (by decide) _ _) (Fld.clear_of_apart (by decide) _ _)).trans
        (State.get_set_apart _ (by decide) _)
  · intro s m v hv
    refine congrArg Host.Outcome.next (if_pos ?_)
    rcases hv with rfl | rfl | rfl <;> rfl
  · intro s m n v hno
    refine congrArg Host.Outcome.next (if_neg ?_)
    rcases hno with h | ⟨h2, h4, h8⟩
    · simp [h]
    · simp [h2, h4, h8]
  · exact fun s n en => rfl
  · exact fun s m n en hm => congrArg Host.Outcome.next (if_neg (by simpa using hm))
  · exact fun s m n v => rfl
  · exact fun s hslow href => congrArg Host.Outcome.next (if_neg (by simp [hslow, href]))
  · intro s hno
    refine congrArg Host.Outcome.next (if_pos ?_)
    rcases hno with h | h <;> simp [h]
  · intro s hxtal
    refine ⟨s.slowFail, congrArg Host.Outcome.next (if_neg (by simp [State.on, hxtal])), ?_, ?_, rfl, ?_, fun f n hf => ?_⟩
    all_goals unfold State.slowFail
    · rw [State.get_mk, State.get_logHW, State.get_set_apart _ (by decide), State.get_set_fits _ (by decide)]
    · rw [State.get_mk, State.get_logHW, State.get_set_fits _ (by decide)]
    · have hring := State.memSame_logHW ((s.set CLK.STATE_SLOW_RC 1).set CLK.STATUS_SLOW_FAIL 1) 0x0A 0 0
      generalize ((s.set CLK.STATE_SLOW_RC 1).set CLK.STATUS_SLOW_FAIL 1).logHW 0x0A 0 0 = u at hring ⊢
      exact fun x hx => hring x hx
    · simp only [List.mem_cons, List.not_mem_nil, or_false, not_or] at hf
      rw [State.get_mk, State.get_logHW, State.get_set_ne _ _ _ _ _ _ hf.2, State.get_set_ne _ _ _ _ _ _ hf.1]
  · exact fun s hrc => congrArg Host.Outcome.next (if_pos (bne_iff_ne.mpr hrc))
  · exact fun s m hrc => congrArg Host.Outcome.next (if_pos (bne_iff_ne.mpr hrc))
  · exact fun s m hxtal => congrArg Host.Outcome.next (if_neg (by simp [State.on, hxtal]))

end Sys2Proof.Machine
end

section
/-! PROOFS. R46 to R50, R55 to R58: the cycle boundary with no slot running, the anchor, and plans. -/

namespace Sys2Proof.Machine

open Sys2Proof

/-! ### States that differ beside registers, memory and timebase -/

/-- The luminaire's and the enforcer's own state are all in which `t` may differ from `s`. -/
def LampSide (s t : State) : Prop := ∃ l r, t = { s with lum := l, rge := r }

namespace LampSide
variable {s t u : State}

theorem refl : LampSide s s := ⟨s.lum, s.rge, rfl⟩

theorem trans (h : LampSide s t) (h' : LampSide t u) : LampSide s u := by
  obtain ⟨l, r, rfl⟩ := h
  obtain ⟨l', r', rfl⟩ := h'
  exact ⟨l', r', rfl⟩

section
variable (h : LampSide s t)
include h
theorem get (f : Fld) (n : Nat) : t.get f n = s.get f n := by obtain ⟨l, r, rfl⟩ := h; rfl
theorem atb : t.atb = s.atb := by obtain ⟨l, r, rfl⟩ := h; rfl
theorem mem : t.mem = s.mem := by obtain ⟨l, r, rfl⟩ := h; rfl
end

theorem pdBoundary (s : State) : LampSide s s.pdBoundary := by
  unfold State.pdBoundary State.pdBegin
  split
  · exact ⟨_, s.rge, rfl⟩
  · split
    · exact refl
    · exact ⟨_, s.rge, rfl⟩

theorem pdSpoil (s : State) : LampSide s s.pdSpoil := ⟨_, s.rge, rfl⟩

theorem prepClean (s : State) : LampSide s s.prepClean :=
  State.forN_keep (LampSide s) _ 4 s refl fun _ _ t ht => ht.trans ⟨t.lum, _, rfl⟩

end LampSide

/-! ### The parts of a boundary (R57) -/

section
variable (s : State)

/-- With no slot running none ends. -/
theorem State.slotEndAll_idle {s : State} (h : ∀ k, k < 4 → s.runningSlot k = 0) : s.slotEndAll = s :=
  State.forN_keep (· = s) _ 4 s rfl fun k hk t ht => by
    rw [ht, State.slotEnd, if_pos (by simpa using h k hk)]

/-- The count of cycles, its angle and its timestamp as the boundary sets them. -/
def State.boundaryMark (s : State) (ns : Nat) : State :=
  let cyc := (s.atb.cycle + 1) % 4294967296
  let s2 := (s.updAtb fun a => { a with
    angle := 0, frac := 0, cycle := cyc, stamps := (ns :: a.stamps).take 256 }).set ATB.STATUS_CYCLE 1
  if cyc == 0 then s2.set ATB.STATUS_WRAP 1 else s2

/-- What follows the mark: an integration's count, an OFFSET written, an armed plan, and slots passed. -/
def State.boundaryRest (s : State) : State := (s.pdBoundary.offsetApply.planSwap.prepClean).offsetPass s.atb.cycle

theorem State.boundaryMark_atb (ns : Nat) : (s.boundaryMark ns).atb = { s.atb with
    angle := 0, frac := 0, cycle := (s.atb.cycle + 1) % 4294967296, stamps := (ns :: s.atb.stamps).take 256 } := by
  unfold State.boundaryMark
  extract_lets cyc s2
  split <;> rfl

theorem State.boundaryMark_mem (ns : Nat) : (s.boundaryMark ns).mem = s.mem := by
  unfold State.boundaryMark
  extract_lets cyc s2
  split <;> rfl

theorem State.get_boundaryMark {f : Fld} {n : Nat} (h : f.clear n [ATB.STATUS_CYCLE, ATB.STATUS_WRAP] 0) (ns : Nat) :
    (s.boundaryMark ns).get f n = s.get f n := by
  unfold State.boundaryMark
  extract_lets cyc s2
  have h2 : s2.get f n = s.get f n := State.get_set_clear h (by decide) 1
  split
  · rw [State.get_set_clear h (by decide), h2]
  · exact h2

theorem State.boundaryMark_status (ns : Nat) : (s.boundaryMark ns).get ATB.STATUS_CYCLE = 1 := by
  unfold State.boundaryMark
  extract_lets cyc s2
  have h2 : s2.get ATB.STATUS_CYCLE = 1 := State.get_set_fits _ (by decide)
  split
  · rw [State.get_set_apart _ (by decide), h2]
  · exact h2

theorem State.boundaryMark_wrap {s : State} (h : s.atb.cycle = 4294967295) (ns : Nat) :
    (s.boundaryMark ns).get ATB.STATUS_WRAP = 1 := by
  unfold State.boundaryMark
  extract_lets cyc s2
  have hcyc : cyc = 0 := by simp only [cyc, h, Nat.reduceAdd, Nat.mod_self]
  rw [if_pos (by rw [hcyc]; rfl)]
  exact State.get_set_fits _ (by decide)

/-- A boundary with no slot running and no adjustment armed. -/
theorem exec_cycleBoundary_idle {s : State} (hon : s.atbSt ≠ abOFF) (hidle : ∀ k, k < 4 → s.runningSlot k = 0)
    (hadj : s.atb.adjArmed = false) (ns : Nat) :
    exec (.cycleBoundary ns) s = .next ((s.boundaryMark ns).boundaryRest.when ((s.boundaryMark ns).boundaryRest.atbSt == abSYNTH)
      fun t => t.synthSteer ns) := by
  have hexec : exec (.cycleBoundary ns) s = .next (s.boundary ns) := if_neg (by simpa using hon)
  have hnone : (s.boundaryMark ns).adjApply = s.boundaryMark ns := if_neg (by rw [s.boundaryMark_atb]; simp [hadj])
  have hbound : s.boundary ns = ((s.slotEndAll.boundaryMark ns).adjApply.boundaryRest).when
    ((s.slotEndAll.boundaryMark ns).adjApply.boundaryRest.atbSt == abSYNTH) fun t => t.synthSteer ns := by
    unfold State.boundary State.boundaryMark State.boundaryRest
    dsimp only
  rw [hexec, hbound, State.slotEndAll_idle hidle, hnone]

/-! ### No OFFSET, no plan -/

/-- An OFFSET that has been applied, or that the source leaves alone, brings no step. -/
theorem State.offsetApply_none {s : State} (h : s.get ATB.OFFSET_OFFSET = s.atb.offApplied ∨ s.get ATB.CTRL_SRC ≠ 0) :
    s.offsetApply = s := by
  refine if_pos ?_
  rcases h with h | h <;> simp [State.on, h]

theorem State.offsetPass_none {s : State} (h : s.atb.angle = 0) (cyc : Nat) : s.offsetPass cyc = s := if_neg (by simp [h])

/-- The rate steered moves nothing else of the timebase. -/
theorem State.synthSteer_form (ns : Nat) : ∃ r, s.synthSteer ns = s.updAtb fun a => { a with rate := r } := by
  unfold State.synthSteer
  split
  · exact ⟨_, rfl⟩
  · exact ⟨_, rfl⟩

theorem State.steered_form (c : Bool) (ns : Nat) :
    ∃ r, s.when c (fun t => t.synthSteer ns) = s.updAtb fun a => { a with rate := r } := by
  cases c with
  | true => exact s.synthSteer_form ns
  | false => exact ⟨s.atb.rate, rfl⟩

end

/-- Without an OFFSET to apply, the rest of a boundary is the armed plan's. -/
theorem State.boundaryRest_plan {s : State} (ns : Nat)
    (hoff : s.get ATB.OFFSET_OFFSET = s.atb.offApplied ∨ s.get ATB.CTRL_SRC ≠ 0) :
    ∃ p, LampSide (s.boundaryMark ns) p ∧ LampSide p.planSwap (s.boundaryMark ns).boundaryRest := by
  have hlamp := LampSide.pdBoundary (s.boundaryMark ns)
  refine ⟨(s.boundaryMark ns).pdBoundary, hlamp, ?_⟩
  have hnone : (s.boundaryMark ns).pdBoundary.offsetApply = (s.boundaryMark ns).pdBoundary := by
    refine State.offsetApply_none ?_
    rw [hlamp.get, hlamp.get, hlamp.atb, s.boundaryMark_atb, s.get_boundaryMark (Fld.clear_of_apart (by decide) _ _),
      s.get_boundaryMark (Fld.clear_of_apart (by decide) _ _)]
    exact hoff
  have hclean := LampSide.prepClean (s.boundaryMark ns).pdBoundary.planSwap
  have hangle : (s.boundaryMark ns).pdBoundary.planSwap.atb.angle = 0 := by
    have h0 : (s.boundaryMark ns).pdBoundary.atb.angle = 0 := by rw [hlamp.atb, s.boundaryMark_atb]
    unfold State.planSwap
    split
    · exact h0
    · exact h0
  unfold State.boundaryRest
  rw [hnone, State.offsetPass_none (by rw [hclean.atb, hangle])]
  exact hclean

end Sys2Proof.Machine
end

section
/-! PROOFS. R55 to R58: an armed plan taken at the boundary, and an OFFSET's step. -/

namespace Sys2Proof.Machine

open Sys2Proof

/-! ### The plan swapped in (R57, R58) -/

section
variable {s : State}

theorem State.planSwap_off (h : s.get ATB.PLAN_CTRL_ARMED = 0) : s.planSwap = s := if_neg (by simp [State.on, h])

theorem State.planSwap_later (h : cycAfter (s.get ATB.PLAN_ACT_ACT_CYCLE) s.atb.cycle = true) : s.planSwap = s :=
  if_neg (by simp [h])

/-- An armed plan whose cycle has come. -/
theorem State.planSwap_due (harmed : s.get ATB.PLAN_CTRL_ARMED = 1) (hdue : cycAfter (s.get ATB.PLAN_ACT_ACT_CYCLE) s.atb.cycle = false) :
    s.planSwap.atb = { s.atb with
        actWords := s.atb.pendWords, pendWords := s.atb.actWords, actSlots := s.get ATB.PLAN_CTRL_SLOTS
        actId := s.get ATB.PLAN_CTRL_PLAN_ID, actCycle := s.get ATB.PLAN_ACT_ACT_CYCLE } ∧
      s.planSwap.get ATB.PLAN_CTRL_ARMED = 0 ∧ s.planSwap.get ATB.STATUS_PLAN_ACT = 1 ∧ s.planSwap.mem = s.mem := by
  have hswap : s.planSwap = ((((s.updAtb fun a => { a with
      actWords := a.pendWords, pendWords := a.actWords, actSlots := s.get ATB.PLAN_CTRL_SLOTS
      actId := s.get ATB.PLAN_CTRL_PLAN_ID, actCycle := s.get ATB.PLAN_ACT_ACT_CYCLE }).set ATB.PLAN_CTRL_ARMED 0).set
      ATB.PLAN_CTRL_ACTIVE_BANK (1 - s.get ATB.PLAN_CTRL_ACTIVE_BANK)).set
      ATB.CUR_SLOT_ACTIVE_PLAN_ID (s.get ATB.PLAN_CTRL_PLAN_ID)).set ATB.STATUS_PLAN_ACT 1 := if_pos (by simp [State.on, harmed, hdue])
  refine ⟨by rw [hswap]; rfl, ?_, ?_, by rw [hswap]; rfl⟩
  · rw [hswap, State.get_set_apart _ (by decide), State.get_set_apart _ (by decide), State.get_set_apart _ (by decide),
      State.get_set_fits _ (by decide)]
  · rw [hswap, State.get_set_fits _ (by decide)]

end

/-- The boundary that applies no OFFSET finds the plan as it stood. -/
theorem State.marked_plan {s p : State} {ns : Nat} (hp : LampSide (s.boundaryMark ns) p) :
    p.get ATB.PLAN_CTRL_ARMED = s.get ATB.PLAN_CTRL_ARMED ∧ p.get ATB.PLAN_ACT_ACT_CYCLE = s.get ATB.PLAN_ACT_ACT_CYCLE ∧
      p.get ATB.PLAN_CTRL_SLOTS = s.get ATB.PLAN_CTRL_SLOTS ∧ p.atb = { s.atb with
        angle := 0, frac := 0, cycle := (s.atb.cycle + 1) % 4294967296, stamps := (ns :: s.atb.stamps).take 256 } ∧
      p.mem = s.mem := by
  refine ⟨?_, ?_, ?_, hp.atb.trans (s.boundaryMark_atb ns), hp.mem.trans (s.boundaryMark_mem ns)⟩
  all_goals rw [hp.get, s.get_boundaryMark (Fld.clear_of_apart (by decide) _ _)]

/-! ### Slots and events that a step passes (R43, R44) -/

section

/-- Slots and angle events that a step of the angle passes change of the timebase the slots' marks and the bits that tell of them. -/
structure Passed (s t : State) : Prop where
  atb : ∃ p q, t.atb = { s.atb with slotPrep := p, slotStart := q }
  get : ∀ (f : Fld) (n : Nat), atbKey (f.key n) = true →
    f.clear n [ATB.STATUS_SLOT_PREP, ATB.STATUS_SLOT_SUPPRESSED, ATB.AEV_STATUS_FIRED] 0 → t.get f n = s.get f n

namespace Passed
variable {s t u : State}

theorem refl (s : State) : Passed s s := ⟨⟨_, _, rfl⟩, fun _ _ _ _ => rfl⟩

theorem trans (h : Passed s t) (h' : Passed t u) : Passed s u := by
  obtain ⟨p, q, hp⟩ := h.atb
  obtain ⟨p', q', hq⟩ := h'.atb
  exact ⟨⟨p', q', by rw [hq, hp]⟩, fun f n hk hf => (h'.get f n hk hf).trans (h.get f n hk hf)⟩

theorem of_timebase (hb : u.timebase = t.timebase) : Passed t u :=
  ⟨⟨t.atb.slotPrep, t.atb.slotStart, State.atb_of_timebase hb⟩, fun _ _ hk _ => State.get_of_timebase hb hk⟩

theorem lamp (h : LampSide t u) : Passed t u := ⟨⟨_, _, h.atb⟩, fun f n _ _ => h.get f n⟩

section
variable (h : Passed s t)
include h

theorem set (f : Fld) (hf : f ∈ [ATB.STATUS_SLOT_PREP, ATB.STATUS_SLOT_SUPPRESSED, ATB.AEV_STATUS_FIRED]) (v : Nat) :
    Passed s (t.set f v) :=
  h.trans ⟨⟨_, _, rfl⟩, fun _ _ _ hg => State.get_set_clear hg hf v⟩

theorem prepMark (k : Nat) (e : List Nat) (on : Bool) : Passed s (t.prepMark k e on) :=
  State.forL_keep (Passed s) _ _ t h fun _ _ u hu => hu.trans (lamp ⟨u.lum, _, rfl⟩)

theorem slotPrep (k : Nat) (e : List Nat) (cyc : Nat) : Passed s (t.slotPrep k e cyc) := by
  have h0 : Passed t (t.updAtb fun a => { a with slotPrep := Tab.set 0 a.slotPrep k (cyc + 1) }) :=
    ⟨⟨_, _, rfl⟩, fun _ _ _ _ => rfl⟩
  have h1 := (h.trans h0).set ATB.STATUS_SLOT_PREP (by decide) 1
  unfold State.slotPrep
  extract_lets s1
  split
  · exact h1.prepMark k e true
  · exact h1

theorem slotSuppress (k : Nat) (e : List Nat) : Passed s (t.slotSuppress k e) := by
  have h0 : Passed t (t.updAtb fun a => { a with slotStart := Tab.set 0 a.slotStart k (a.cycle + 1) }) :=
    ⟨⟨_, _, rfl⟩, fun _ _ _ _ => rfl⟩
  have h1 := ((h.trans h0).set ATB.STATUS_SLOT_SUPPRESSED (by decide) 1).prepMark k e false
  unfold State.slotSuppress
  extract_lets s1
  split
  · exact h1.trans (of_timebase (State.timebase_sheafEvent _ _ _))
  · exact h1

theorem stepPass (a b : Nat) : Passed s (t.stepPass a b) := by
  refine State.forL_keep (Passed s) _ _ t h fun p _ u hu => ?_
  dsimp only
  split
  · exact hu
  · split
    · exact hu.slotSuppress _ _
    · split
      · exact hu.slotPrep _ _ _
      · exact hu

theorem stepPassNext (b : Nat) : Passed s (t.stepPassNext b) := by
  unfold State.stepPassNext
  extract_lets next
  refine State.forN_keep (Passed s) _ _ t h fun k _ u hu => ?_
  dsimp only
  split
  · exact hu.slotPrep _ _ _
  · exact hu

theorem aevFire (ev : Nat) : Passed s (t.aevFire ev) := by
  unfold State.aevFire
  extract_lets route mode source aev s1 s2 s3
  have h1 : Passed s s1 := by
    have hset := h.set ATB.AEV_STATUS_FIRED (by decide) (putBit (t.get ATB.AEV_STATUS_FIRED) ev true)
    exact ⟨hset.atb, hset.get⟩
  have h2 : Passed s s2 := by
    simp only [s2]
    split
    · exact h1.trans (of_timebase (State.timebase_forN _ (fun n u => State.timebase_seqEvent u n evAEV) 16))
    · exact h1
  have h3 : Passed s s3 := by
    simp only [s3]
    split
    · unfold State.pdTrigger State.pdBegin
      split
      · exact h2.trans (lamp ⟨_, s2.rge, rfl⟩)
      · exact h2
    · exact h2
  split
  · exact h3.trans (of_timebase (State.timebase_pulse _ _))
  · exact h3

theorem aevPass (lo hi : Nat) : Passed s (t.aevPass lo hi) := by
  refine State.forN_keep (Passed s) _ _ t h fun k _ u hu => ?_
  dsimp only
  split
  · exact hu.aevFire _
  · exact hu

theorem offsetPass (cyc : Nat) : Passed s (t.offsetPass cyc) := by
  unfold State.offsetPass
  split
  · exact ((h.stepPass _ _).stepPassNext _).aevPass _ _
  · exact h

end
end Passed
end

/-! ### An OFFSET's step (R43, R57) -/

section
variable {s : State}

/-- What the step leaves of the timebase: the angle, the OFFSET applied, ACQUIRE entered anew. -/
structure Stepped (d off : Nat) (t : State) : Prop where
  angle : t.atb.angle = d
  applied : t.atb.offApplied = off
  st : t.atbSt = abACQUIRE
  notStepped : t.atb.acqStepped = false
  good : t.atb.goodEdges = 0

namespace Stepped
variable {d off : Nat} {t u : State} (h : Stepped d off t)
include h

theorem of_timebase (hb : u.timebase = t.timebase) : Stepped d off u where
  angle := (congrArg Atb.angle (State.atb_of_timebase hb)).trans h.angle
  applied := (congrArg Atb.offApplied (State.atb_of_timebase hb)).trans h.applied
  st := (State.get_of_timebase hb (by decide)).trans h.st
  notStepped := (congrArg Atb.acqStepped (State.atb_of_timebase hb)).trans h.notStepped
  good := (congrArg Atb.goodEdges (State.atb_of_timebase hb)).trans h.good

theorem set (f : Fld) (v n : Nat) (hf : ATB.STATE_STATE.key 0 ≠ f.key n) : Stepped d off (t.set f v n) :=
  ⟨h.angle, h.applied, (State.get_set_ne _ _ _ _ _ _ hf).trans h.st, h.notStepped, h.good⟩

/-- A change of the timebase's own state that leaves these. -/
theorem updAtb (g : Atb → Atb) (hg : ∀ a, (g a).angle = a.angle ∧ (g a).offApplied = a.offApplied ∧ (g a).acqStepped = a.acqStepped ∧
    (g a).goodEdges = a.goodEdges) : Stepped d off (t.updAtb g) := by
  obtain ⟨hangle, happlied, hstep, hgood⟩ := hg t.atb
  exact ⟨hangle.trans h.angle, happlied.trans h.applied, h.st, hstep.trans h.notStepped, hgood.trans h.good⟩

theorem lamp (hl : LampSide t u) : Stepped d off u where
  angle := (congrArg Atb.angle hl.atb).trans h.angle
  applied := (congrArg Atb.offApplied hl.atb).trans h.applied
  st := (hl.get _ _).trans h.st
  notStepped := (congrArg Atb.acqStepped hl.atb).trans h.notStepped
  good := (congrArg Atb.goodEdges hl.atb).trans h.good

/-- What slots and events passed leave. -/
theorem passed (hp : Passed t u) : Stepped d off u := by
  obtain ⟨p, q, hatb⟩ := hp.atb
  exact ⟨(congrArg Atb.angle hatb : _).trans h.angle, (congrArg Atb.offApplied hatb : _).trans h.applied,
    (hp.get _ _ (by decide) (Fld.clear_of_apart (by decide) _ _)).trans h.st,
    (congrArg Atb.acqStepped hatb : _).trans h.notStepped, (congrArg Atb.goodEdges hatb : _).trans h.good⟩

theorem planSwap : Stepped d off t.planSwap := by
  unfold State.planSwap
  split
  · refine Stepped.set ?_ _ _ _ (by decide)
    refine Stepped.set ?_ _ _ _ (by decide)
    refine Stepped.set ?_ _ _ _ (by decide)
    refine Stepped.set ?_ _ _ _ (by decide)
    exact h.updAtb _ fun _ => ⟨rfl, rfl, rfl, rfl⟩
  · exact h

theorem offsetPass (cyc : Nat) : Stepped d off (t.offsetPass cyc) := h.passed ((Passed.refl t).offsetPass cyc)

end Stepped
end

end Sys2Proof.Machine
end

section
/-! PROOFS. R46 to R50, R55 to R58: an OFFSET's step at a boundary, the anchor, and the checks of a plan. -/

namespace Sys2Proof.Machine

open Sys2Proof

theorem State.slotCheck_idle {s : State} (h : ∀ k, k < 4 → s.runningSlot k = 0) : s.slotCheck = s := by
  unfold State.slotCheck
  split
  · exact State.slotEndAll_idle h
  · rfl

/-- ACQUIRE entered with no slot running: the state and its run of edges, beside what an integration notes. -/
theorem State.atbEnter_acquire {s : State} (hidle : ∀ k, k < 4 → s.runningSlot k = 0) (hne : s.atbSt ≠ abACQUIRE) :
    LampSide ((s.set ATB.STATE_STATE abACQUIRE).updAtb fun a => { a with acqStepped := false, goodEdges := 0 })
      (s.atbEnter abACQUIRE) := by
  have hbody : s.atbEnter abACQUIRE = (((s.set ATB.STATE_STATE abACQUIRE).updAtb fun a =>
      { a with acqStepped := false, goodEdges := 0 }).when ((s.atbSt == abLOCKED || s.atbSt == abSYNTH) &&
        abACQUIRE != abLOCKED && abACQUIRE != abSYNTH) State.pdSpoil).slotCheck := if_neg (by simpa using hne)
  rw [hbody]
  cases ((s.atbSt == abLOCKED || s.atbSt == abSYNTH) && abACQUIRE != abLOCKED && abACQUIRE != abSYNTH) with
  | true =>
    have hcheck : (((s.set ATB.STATE_STATE abACQUIRE).updAtb fun a =>
      { a with acqStepped := false, goodEdges := 0 }).when true State.pdSpoil).slotCheck = _ := State.slotCheck_idle hidle
    rw [hcheck]
    exact LampSide.pdSpoil _
  | false =>
    have hcheck : (((s.set ATB.STATE_STATE abACQUIRE).updAtb fun a =>
      { a with acqStepped := false, goodEdges := 0 }).when false State.pdSpoil).slotCheck = _ := State.slotCheck_idle hidle
    rw [hcheck]
    exact LampSide.refl

/-- An OFFSET written since is a step of the angle into ACQUIRE. -/
theorem State.offsetApply_step {s : State} (hidle : ∀ k, k < 4 → s.runningSlot k = 0)
    (hoff : s.get ATB.OFFSET_OFFSET ≠ s.atb.offApplied) (hsrc : s.get ATB.CTRL_SRC = 0) :
    Stepped ((65536 + s.get ATB.OFFSET_OFFSET - s.atb.offApplied) % 65536) (s.get ATB.OFFSET_OFFSET) s.offsetApply := by
  generalize hd : (65536 + s.get ATB.OFFSET_OFFSET - s.atb.offApplied) % 65536 = d
  have happly : s.offsetApply = ((s.pdSpoil.updAtb fun a => { a with
      offApplied := s.get ATB.OFFSET_OFFSET, angle := d
      cycle := if d < 32768 then a.cycle else (a.cycle + 4294967295) % 4294967296 }).atbEnter abACQUIRE).updAtb fun a =>
        { a with acqStepped := false, goodEdges := 0 } := by
    rw [← hd]
    exact if_neg (by simp [State.on, hsrc, hoff])
  rw [happly]
  generalize hu : (s.pdSpoil.updAtb fun a => { a with
      offApplied := s.get ATB.OFFSET_OFFSET, angle := d
      cycle := if d < 32768 then a.cycle else (a.cycle + 4294967295) % 4294967296 }) = u
  have hangle : u.atb.angle = d := by rw [← hu]; rfl
  have hoffApplied : u.atb.offApplied = s.get ATB.OFFSET_OFFSET := by rw [← hu]; rfl
  have hrun : ∀ k, k < 4 → u.runningSlot k = 0 := by rw [← hu]; exact hidle
  by_cases hst : u.atbSt = abACQUIRE
  · have henter : u.atbEnter abACQUIRE = u := if_pos (by simpa using hst)
    rw [henter]
    exact ⟨hangle, hoffApplied, hst, rfl, rfl⟩
  · have hlamp := State.atbEnter_acquire hrun hst
    refine ⟨(congrArg Atb.angle hlamp.atb).trans hangle, (congrArg Atb.offApplied hlamp.atb).trans hoffApplied,
      (hlamp.get _ _).trans ?_, rfl, rfl⟩
    exact State.get_set_fits u (show abACQUIRE < 2 ^ ATB.STATE_STATE.width by decide)

/-! ### The object of a pending plan -/

/-- A value put into the plan's object goes to the arming. -/
theorem State.odWrite_plan {s : State} (hbar : s.odBar 0x2100 0 = odOK) (hxfer : s.xferOpen 0x2100 0 = false) (b : List Nat) :
    s.odWrite 0x2100 0 12 b = s.planObj b := by
  have hfind : objFind 0x2100 0 = some ⟨0x2100, 1, 0, 1, 12, .rw, .comp, [], []⟩ := by decide +kernel
  simp [State.odWrite, State.odPut, hbar, hxfer, hfind, State.objApply]

/-- An armed plan keeps another from its place. -/
theorem State.planObj_busy {s : State} (harmed : s.get ATB.PLAN_CTRL_ARMED ≠ 0) (b : List Nat) :
    (s.planObj b).2 = s.set ATB.PLAN_CTRL_REFUSE 14 :=
  congrArg Prod.snd (if_pos (show (s.get ATB.PLAN_CTRL_ARMED != 0) = true by simpa using harmed))

/-! ### The checks of a plan (R55) -/

section
variable {s : State}

theorem State.planCheck_long {n : Nat} (h : 32 < n) (act : Nat) (site : Bool) : s.planCheck n act site = 1 := if_pos h

/-- Of an empty plan the cycle is all that is checked. -/
theorem State.planCheck_empty {act : Nat} (h : cycAfter act s.atb.cycle = true) : s.planCheck 0 act false = 0 := by
  simp [State.planCheck, anyNext, anyPair, gapShort, h]

/-- The plan object's figures laid into the pending plan, with no slots. -/
def State.planLaid (s : State) (id act : Nat) : State :=
  ((({ s with net.adjusted := 0, atb.pendWords := [] } : State).set ATB.PLAN_CTRL_PLAN_ID id).set ATB.PLAN_CTRL_SLOTS 0).set
    ATB.PLAN_ACT_ACT_CYCLE act

theorem State.planLoad_none (harmed : s.get ATB.PLAN_CTRL_ARMED = 0) (id act : Nat) (site : Bool) (e : Nat → List Nat) :
    s.planLoad id 0 act site e = (s.planLaid id act).planArm site := by
  unfold State.planLoad
  exact if_neg (by simp [State.on, harmed])

theorem State.get_planLaid {f : Fld} {n : Nat}
    (h : f.clear n [ATB.PLAN_CTRL_PLAN_ID, ATB.PLAN_CTRL_SLOTS, ATB.PLAN_ACT_ACT_CYCLE] 0) (id act : Nat) :
    (s.planLaid id act).get f n = s.get f n := by
  unfold State.planLaid
  rw [State.get_set_clear h (by decide), State.get_set_clear h (by decide), State.get_set_clear h (by decide), State.get_mk]

theorem State.planLaid_slots (id act : Nat) : (s.planLaid id act).get ATB.PLAN_CTRL_SLOTS = 0 := by
  unfold State.planLaid
  rw [State.get_set_apart _ (by decide), State.get_set_fits _ (by decide)]

theorem State.planLaid_act (id act : Nat) : (s.planLaid id act).get ATB.PLAN_ACT_ACT_CYCLE = act % 4294967296 :=
  State.get_set_same _ _ _ _

theorem State.planLaid_id (id act : Nat) : (s.planLaid id act).get ATB.PLAN_CTRL_PLAN_ID = id % 65536 := by
  unfold State.planLaid
  rw [State.get_set_apart _ (by decide), State.get_set_apart _ (by decide), State.get_set_same]
  rfl

/-- A plan that no check of the object refuses is loaded. -/
theorem State.planObj_load {b : List Nat} (harmed : s.get ATB.PLAN_CTRL_ARMED = 0)
    (htable : ∀ r, tblRule 0x2100 = some r → s.tableAbort r b = 0) :
    (s.planObj b).2 = s.planLoad (le16 b 16) (byteAt b 18) (le32 b 24) (le16 b 20 != s.siteId) fun k =>
      (List.range 4).map fun w => le32 b (32 + 16 * k + 4 * w) := by
  have hoff : s.on ATB.PLAN_CTRL_ARMED = false := by simp [State.on, harmed]
  have hload : ∀ c : Nat, c = odOK → ∀ t r : State, (if (c != odOK) = true then (c, s) else
      (if r.get ATB.PLAN_CTRL_REFUSE == 0 then odOK else if r.get ATB.PLAN_CTRL_REFUSE == 15 then odSITE else odTABLE_INVALID, t)).2 = t := by
    rintro c rfl t r
    rfl
  unfold State.planObj
  rw [hoff, if_neg Bool.false_ne_true]
  refine hload _ ?_ _ _
  split
  · next r hr => exact htable r hr
  · rfl

/-- No slots and a later cycle pass every check of ARM. -/
theorem State.planLaid_armed (harmed : s.get ATB.PLAN_CTRL_ARMED = 0) (id : Nat) {act : Nat}
    (hcyc : cycAfter (act % 4294967296) s.atb.cycle = true) :
    (s.planLaid id act).planArm false = ((s.planLaid id act).set ATB.PLAN_CTRL_REFUSE 0).set ATB.PLAN_CTRL_ARMED 1 := by
  have hoff : (s.planLaid id act).on ATB.PLAN_CTRL_ARMED = false := by
    simp [State.on, State.get_planLaid (f := ATB.PLAN_CTRL_ARMED) (Fld.clear_of_apart (by decide) _ _), harmed]
  have hcheck : (s.planLaid id act).planCheck ((s.planLaid id act).get ATB.PLAN_CTRL_SLOTS)
      ((s.planLaid id act).get ATB.PLAN_ACT_ACT_CYCLE) false = 0 := by
    rw [State.planLaid_slots, State.planLaid_act]
    exact State.planCheck_empty hcyc
  rw [State.planArm, hoff, if_neg Bool.false_ne_true, hcheck]
  rfl

/-- A plan for this site with no slots and for a later cycle, that no check of the object refuses, is armed. -/
theorem State.planObj_empty {b : List Nat} (harmed : s.get ATB.PLAN_CTRL_ARMED = 0)
    (htable : ∀ r, tblRule 0x2100 = some r → s.tableAbort r b = 0) (hslots : byteAt b 18 = 0) (hsite : le16 b 20 = s.siteId)
    (hcyc : cycAfter (le32 b 24 % 4294967296) s.atb.cycle = true) :
    (s.planObj b).2 = ((s.planLaid (le16 b 16) (le32 b 24)).set ATB.PLAN_CTRL_REFUSE 0).set ATB.PLAN_CTRL_ARMED 1 := by
  rw [State.planObj_load harmed htable, hslots, hsite, bne_self_eq_false, State.planLoad_none harmed,
    State.planLaid_armed harmed _ hcyc]

/-- The plan armed shows as such. -/
theorem State.planArmed_shows (id act : Nat) :
    (((s.planLaid id act).set ATB.PLAN_CTRL_REFUSE 0).set ATB.PLAN_CTRL_ARMED 1).get ATB.PLAN_CTRL_ARMED = 1 ∧
      (((s.planLaid id act).set ATB.PLAN_CTRL_REFUSE 0).set ATB.PLAN_CTRL_ARMED 1).get ATB.PLAN_CTRL_REFUSE = 0 ∧
      (((s.planLaid id act).set ATB.PLAN_CTRL_REFUSE 0).set ATB.PLAN_CTRL_ARMED 1).get ATB.PLAN_CTRL_SLOTS = 0 ∧
      (((s.planLaid id act).set ATB.PLAN_CTRL_REFUSE 0).set ATB.PLAN_CTRL_ARMED 1).get ATB.PLAN_CTRL_PLAN_ID = id % 65536 := by
  refine ⟨State.get_set_fits _ (by decide), ?_, ?_, ?_⟩
  · rw [State.get_set_apart _ (by decide), State.get_set_fits _ (by decide)]
  · rw [State.get_set_apart _ (by decide), State.get_set_apart _ (by decide), State.planLaid_slots]
  · rw [State.get_set_apart _ (by decide), State.get_set_apart _ (by decide), State.planLaid_id]

end

/-! ### The anchor (R46, R47) -/

section
variable {s : State} {ns : Nat}

/-- What an accepted anchor of cycle `cyc` leaves, `d` the cycles to be taken up. -/
def State.anchored (s : State) (ns cyc d : Nat) : State :=
  (((s.setObj 0x2020 2 (toLe 8 ns)).set ATB.CYCLE_ADJ_DELTA d).updAtb fun a => { a with
      adjArmed := true, anchor := some { cycle := cyc, ptpNs := ns } }).setObj 0x2020 3 [0]

theorem State.anchored_written (s : State) (ns cyc d : Nat) : s.anchored ns cyc d =
    ({ (s.setObj 0x2020 2 (toLe 8 ns)).set ATB.CYCLE_ADJ_DELTA d with
      atb := { s.atb with adjArmed := true, anchor := some { cycle := cyc, ptpNs := ns } } } : State).setObj 0x2020 3 [0] := rfl

theorem State.get_anchored {f : Fld} {n : Nat} (h : f.clear n [ATB.CYCLE_ADJ_DELTA] 0) (cyc d : Nat) :
    (s.anchored ns cyc d).get f n = s.get f n :=
  (State.get_set_clear h (by decide) d : ((s.setObj 0x2020 2 (toLe 8 ns)).set ATB.CYCLE_ADJ_DELTA d).get f n = _)

/-- An anchor taken where SYNTH is not entered through it. -/
theorem State.anchorEval_taken {i d : Nat}
    (hst : s.atbSt = abLOCKED ∨ s.atbSt = abSYNTH ∨ s.get ATB.CTRL_SRC = 0 ∧ (s.atbSt = abHOLDOVER ∨ s.atbSt = abFREE))
    (hptp : s.get ATB.STATE_PTP_OK ≠ 0) (hfind : s.anchorFind ns = some i)
    (hd : (ofLe (s.obj 0x2020 1 [0, 0, 0, 0]) + i + 4294967296 - s.atb.cycle) % 4294967296 = d) :
    s.anchorEval ns = (s.anchored ns (ofLe (s.obj 0x2020 1 [0, 0, 0, 0])) d).when (s.atbSt == abSYNTH) fun t =>
      t.synthSteer t.ptpNow := by
  have hreach : (s.atbSt == abOFF || s.atbSt == abACQUIRE) = false := by
    rcases hst with h | h | ⟨-, h | h⟩ <;> rw [h] <;> rfl
  have hon : (!s.on ATB.STATE_PTP_OK) = false := by simp [State.on, hptp]
  unfold State.anchorEval
  rw [hreach, hon, hfind]
  simp only [Bool.false_eq_true, if_false]
  rw [hd]
  generalize ofLe (s.obj 0x2020 1 [0, 0, 0, 0]) = cyc
  have hstay : (s.anchored ns cyc d).synthEnter = s.anchored ns cyc d := by
    have hsrc := s.get_anchored (ns := ns) (f := ATB.CTRL_SRC) (n := 0) (Fld.clear_of_apart (by decide) _ _) cyc d
    have hstate : (s.anchored ns cyc d).atbSt = s.atbSt := State.get_anchored (Fld.clear_of_apart (by decide) _ _) cyc d
    refine if_neg ?_
    rcases hst with h | h | ⟨h, -⟩
    · simp [hstate, h, abLOCKED, abFREE, abHOLDOVER]
    · simp [hstate, h, abSYNTH, abFREE, abHOLDOVER]
    · simp [State.on, hsrc, h]
  exact congrArg (fun u : State => u.when (s.atbSt == abSYNTH) fun t => t.synthSteer t.ptpNow) hstay

/-- The boundary taken for an anchor at its own time. -/
theorem State.anchorFind_own (h : s.atb.stamps = [ns]) : s.anchorFind ns = some 0 := by
  have hnear : s.quarterCycle 0 = true := by simp [State.quarterCycle]
  simp [State.anchorFind, h, List.range_succ, hnear]

/-- No boundary near an anchor. -/
theorem State.anchorFind_none (h : ∀ x ∈ s.atb.stamps, s.quarterCycle ((x : Int) - ns).natAbs = false) : s.anchorFind ns = none := by
  have hfar : (List.range s.atb.stamps.length).filter (fun i =>
      s.quarterCycle ((s.atb.stamps.getD i 0 : Int) - ns).natAbs) = [] := by
    refine List.filter_eq_nil_iff.mpr fun i hi => ?_
    have hlen := List.mem_range.mp hi
    rw [List.getD_eq_getElem _ _ hlen, h _ (List.getElem_mem hlen)]
    exact Bool.false_ne_true
  unfold State.anchorFind
  dsimp only
  rw [hfar]
  rfl

theorem State.obj_of_entry {i sub : Nat} {v : List Nat} (h : Tab.get none s.objs (i * 256 + sub) = some v) (d : List Nat) :
    s.obj i sub d = v := by
  unfold State.obj
  rw [h]

theorem State.anchored_delta (cyc : Nat) {d : Nat} (hd : d < 4294967296) : (s.anchored ns cyc d).get ATB.CYCLE_ADJ_DELTA = d := by
  have hw : 2 ^ ATB.CYCLE_ADJ_DELTA.width = 4294967296 := by decide
  have hset : (s.anchored ns cyc d).get ATB.CYCLE_ADJ_DELTA = d % 2 ^ ATB.CYCLE_ADJ_DELTA.width :=
    State.get_set_same (s.setObj 0x2020 2 (toLe 8 ns)) ATB.CYCLE_ADJ_DELTA d 0
  rw [hset, hw, Nat.mod_eq_of_lt hd]

/-- The anchor's time and its result. -/
theorem State.anchored_objs (cyc d : Nat) : Tab.get none (s.anchored ns cyc d).objs (0x2020 * 256 + 3) = some [0] ∧
    Tab.get none (s.anchored ns cyc d).objs (0x2020 * 256 + 2) = some (toLe 8 ns) := by
  have hobjs : (s.anchored ns cyc d).objs = Tab.set none (Tab.set none s.objs (0x2020 * 256 + 2) (some (toLe 8 ns)))
      (0x2020 * 256 + 3) (some [0]) := rfl
  rw [hobjs, Tab.get_set_same, Tab.get_set_ne _ _ _ _ (by decide), Tab.get_set_same]
  exact ⟨rfl, rfl⟩

theorem State.steeredNow_form (u : State) (c : Bool) :
    ∃ r, u.when c (fun t => t.synthSteer t.ptpNow) = u.updAtb fun a => { a with rate := r } := by
  cases c with
  | true => exact u.synthSteer_form u.ptpNow
  | false => exact ⟨u.atb.rate, rfl⟩

/-- What an accepted anchor leaves, whatever rate SYNTH then takes. -/
theorem State.anchored_shows (cyc : Nat) {d : Nat} (hd : d < 4294967296) (c : Bool) :
    ∃ t, (s.anchored ns cyc d).when c (fun t => t.synthSteer t.ptpNow) = t ∧ t.get ATB.CYCLE_ADJ_DELTA = d ∧
      t.atb.adjArmed = true ∧ t.atb.anchor = some { cycle := cyc, ptpNs := ns } ∧ t.obj 0x2020 3 [] = [0] ∧
      t.obj 0x2020 2 [] = toLe 8 ns ∧ t.atb.cycle = s.atb.cycle ∧ t.atb.angle = s.atb.angle ∧ t.mem = s.mem ∧
      regsSame s t [ATB.CYCLE_ADJ_DELTA.key 0] := by
  obtain ⟨r, hform⟩ := (s.anchored ns cyc d).steeredNow_form c
  obtain ⟨hobj3, hobj2⟩ := s.anchored_objs (ns := ns) cyc d
  have hget : ∀ (f : Fld) (n : Nat), ((s.anchored ns cyc d).updAtb fun a => { a with rate := r }).get f n =
      (s.anchored ns cyc d).get f n := fun f n => rfl
  have hobj : ∀ (sub : Nat) (e : List Nat), ((s.anchored ns cyc d).updAtb fun a => { a with rate := r }).obj 0x2020 sub e =
      (s.anchored ns cyc d).obj 0x2020 sub e := fun sub e => rfl
  have hsame : regsSame s (s.anchored ns cyc d) [ATB.CYCLE_ADJ_DELTA.key 0] := fun f n hf =>
    State.get_anchored (by simpa [Fld.clear] using hf) cyc d
  exact ⟨_, hform, (hget _ 0).trans (State.anchored_delta cyc hd), rfl, rfl, (hobj 3 []).trans (State.obj_of_entry hobj3 []),
    (hobj 2 []).trans (State.obj_of_entry hobj2 []), rfl, rfl, rfl, fun f n hf => (hget f n).trans (hsame f n hf)⟩

end

/-- In LOCKED_MAINS an anchor at the latest boundary's own time. -/
theorem State.anchorEvaluate_own {s : State} {ns d : Nat} (hst : s.atbSt = abLOCKED) (hptp : s.get ATB.STATE_PTP_OK ≠ 0)
    (hstamps : s.atb.stamps = [ns])
    (hd : (ofLe (s.obj 0x2020 1 [0, 0, 0, 0]) + 4294967296 - s.atb.cycle) % 4294967296 = d) :
    exec (.anchorEvaluate ns) s = .next (({ (s.setObj 0x2020 2 (toLe 8 ns)).set ATB.CYCLE_ADJ_DELTA d with
      atb := { s.atb with adjArmed := true, anchor := some { cycle := ofLe (s.obj 0x2020 1 [0, 0, 0, 0]), ptpNs := ns } } } :
        State).setObj 0x2020 3 [0]) := by
  have hsyn : (s.atbSt == abSYNTH) = false := by rw [hst]; rfl
  have htaken := State.anchorEval_taken (d := d) (.inl hst) hptp (State.anchorFind_own hstamps)
    ((congrArg (fun x => (x + 4294967296 - s.atb.cycle) % 4294967296) (Nat.add_zero _)).trans hd)
  rw [hsyn, State.when, if_neg Bool.false_ne_true, s.anchored_written] at htaken
  exact congrArg Host.Outcome.next htaken

/-! ### The boundary's clauses -/

theorem State.planSwap_cycle (s : State) : s.planSwap.atb.cycle = s.atb.cycle := by
  unfold State.planSwap
  split <;> rfl

theorem State.planSwap_mem (s : State) : s.planSwap.mem = s.mem := by
  unfold State.planSwap
  split <;> rfl

section
variable {s : State} (ns : Nat) (hon : s.atbSt ≠ abOFF) (hidle : ∀ k, k < 4 → s.runningSlot k = 0) (hadj : s.atb.adjArmed = false)
include hon hidle hadj

/-- Without an OFFSET to apply, a boundary is its mark and the armed plan's. -/
theorem exec_cycleBoundary_plan (hoff : s.get ATB.OFFSET_OFFSET = s.atb.offApplied ∨ s.get ATB.CTRL_SRC ≠ 0) :
    ∃ p u r, LampSide (s.boundaryMark ns) p ∧ LampSide p.planSwap u ∧
      exec (.cycleBoundary ns) s = .next (u.updAtb fun a => { a with rate := r }) := by
  obtain ⟨p, hp, hrest⟩ := State.boundaryRest_plan ns hoff
  obtain ⟨r, hr⟩ := (s.boundaryMark ns).boundaryRest.steered_form ((s.boundaryMark ns).boundaryRest.atbSt == abSYNTH) ns
  exact ⟨p, _, r, hp, hrest, (exec_cycleBoundary_idle hon hidle hadj ns).trans (congrArg Host.Outcome.next hr)⟩

/-- An OFFSET written since steps the angle, whatever plan is armed. -/
theorem exec_cycleBoundary_step (hoff : s.get ATB.OFFSET_OFFSET ≠ s.atb.offApplied) (hsrc : s.get ATB.CTRL_SRC = 0) :
    ∃ t, exec (.cycleBoundary ns) s = .next t ∧
      Stepped ((65536 + s.get ATB.OFFSET_OFFSET - s.atb.offApplied) % 65536) (s.get ATB.OFFSET_OFFSET) t := by
  have hlamp := LampSide.pdBoundary (s.boundaryMark ns)
  have hget : ∀ f : Fld, f.clear 0 [ATB.STATUS_CYCLE, ATB.STATUS_WRAP] 0 → (s.boundaryMark ns).pdBoundary.get f = s.get f :=
    fun f hf => (hlamp.get f 0).trans (s.get_boundaryMark hf ns)
  have hoffset := hget ATB.OFFSET_OFFSET (Fld.clear_of_apart (by decide) _ _)
  have happlied : (s.boundaryMark ns).pdBoundary.atb.offApplied = s.atb.offApplied := by rw [hlamp.atb, s.boundaryMark_atb]
  have hstep := State.offsetApply_step (s := (s.boundaryMark ns).pdBoundary)
    (fun k hk => by
      have := hidle k hk
      rw [State.runningSlot, hlamp.atb, s.boundaryMark_atb]
      exact this)
    (by rw [hoffset, happlied]; exact hoff)
    ((hget ATB.CTRL_SRC (Fld.clear_of_apart (by decide) _ _)).trans hsrc)
  rw [hoffset, happlied] at hstep
  generalize (65536 + s.get ATB.OFFSET_OFFSET - s.atb.offApplied) % 65536 = d at hstep ⊢
  have hrest : Stepped d (s.get ATB.OFFSET_OFFSET) (s.boundaryMark ns).boundaryRest :=
    (hstep.planSwap.lamp (LampSide.prepClean _)).offsetPass _
  refine ⟨_, exec_cycleBoundary_idle hon hidle hadj ns, ?_⟩
  have hsyn : ((s.boundaryMark ns).boundaryRest.atbSt == abSYNTH) = false := by
    rw [hrest.st]
    decide
  rw [hsyn]
  exact hrest

end

/-- Settles O38: each part of a boundary by what it leaves of the timebase, an anchor by the way of its evaluation, a plan by the
figures that arm it. -/
theorem atbBoundariesAndPlans : Obligations.AtbBoundariesAndPlans := by
  unfold Obligations.AtbBoundariesAndPlans
  refine ⟨fun s ns hon hidle hadj hoff harm => ?_, fun s ns hon hidle hadj hoff harm => ?_,
    fun s ns hon hidle hadj hoff hsrc => ?_, fun s ns h => if_pos (by simpa using h), fun s ns h => ?_,
    fun s ns h1 h2 h3 => ?_, fun s ns h1 h2 h3 h4 => ?_, fun s ns i hst hptp hfind => ?_,
    fun s ns hst hptp hstamps => ?_, fun s h => ?_, fun s c h hc => ?_, fun s h hn => ?_, fun s h hn hc => ?_, fun s => rfl,
    fun s v hbank harm => ?_, fun s v h => ?_, fun s v => ?_, fun s b hbar hx h => ?_,
    fun s b hbar hx h htab hslots hsite hcyc => ?_⟩
  case refine_1 =>
    obtain ⟨p, u, r, hp, hu, hexec⟩ := exec_cycleBoundary_plan ns hon hidle hadj hoff
    obtain ⟨harmed, -, -, hatb, hmem⟩ := State.marked_plan hp
    have hswap : p.planSwap = p := State.planSwap_off (harmed.trans harm)
    rw [hswap] at hu
    have hu' : u.atb = _ := hu.atb.trans hatb
    have hget := fun (f : Fld) n => (hu.get f n).trans (hp.get f n)
    refine ⟨_, hexec, ?_, ?_, ?_, ?_, fun h => ?_, ?_, hu.mem.trans hmem, fun f n hf => ?_⟩
    · exact congrArg Atb.cycle hu'
    · exact congrArg Atb.angle hu'
    · exact congrArg Atb.frac hu'
    · exact (hget _ 0).trans (s.boundaryMark_status ns)
    · exact (hget _ 0).trans (State.boundaryMark_wrap h ns)
    · exact congrArg Atb.stamps hu'
    · exact (hget f n).trans (s.get_boundaryMark (by simpa [Fld.clear] using hf) ns)
  case refine_2 =>
    obtain ⟨p, u, r, hp, hu, hexec⟩ := exec_cycleBoundary_plan ns hon hidle hadj hoff
    obtain ⟨harmed, hact, hslots, hatb, hmem⟩ := State.marked_plan hp
    refine ⟨_, hexec, fun hdue => ?_, fun hlater => ?_, ?_, ?_⟩
    · obtain ⟨hsatb, hsarm, hsact, hsmem⟩ := State.planSwap_due (harmed.trans harm) (by rw [hact, hatb]; exact hdue)
      have hu' := (hu.atb.trans hsatb)
      rw [hatb, hslots] at hu'
      exact ⟨congrArg Atb.actWords hu', congrArg Atb.pendWords hu', congrArg Atb.actSlots hu',
        (hu.get _ 0).trans hsarm, (hu.get _ 0).trans hsact⟩
    · have hswap : p.planSwap = p := State.planSwap_later (by rw [hact, hatb]; exact hlater)
      rw [hswap] at hu
      have hu' : u.atb = _ := hu.atb.trans hatb
      exact ⟨(congrArg Atb.actWords hu' : _), (congrArg Atb.pendWords hu' : _), (hu.get _ 0).trans (harmed.trans harm)⟩
    · exact (congrArg Atb.cycle hu.atb).trans (p.planSwap_cycle.trans (congrArg Atb.cycle hatb))
    · exact hu.mem.trans (p.planSwap_mem.trans hmem)
  case refine_3 =>
    obtain ⟨t, hexec, hstep⟩ := exec_cycleBoundary_step ns hon hidle hadj hoff hsrc
    exact ⟨t, hexec, hstep.angle, hstep.applied, hstep.st, hstep.notStepped, hstep.good⟩
  case refine_4 => exact congrArg Host.Outcome.next (if_pos (by simpa using h))
  case refine_5 =>
    exact congrArg Host.Outcome.next ((if_neg (by simp [h1, h2])).trans (if_pos (by simp [State.on, h3])))
  case refine_6 =>
    refine congrArg Host.Outcome.next ((if_neg (by simp [h1, h2])).trans ((if_neg (by simp [State.on, h3])).trans ?_))
    rw [State.anchorFind_none h4]
  case refine_7 =>
    generalize hd : (ofLe (s.obj 0x2020 1 [0, 0, 0, 0]) + i + 4294967296 - s.atb.cycle) % 4294967296 = d
    obtain ⟨t, ht, hrest⟩ := State.anchored_shows (s := s) (ns := ns) (ofLe (s.obj 0x2020 1 [0, 0, 0, 0]))
      (hd ▸ Nat.mod_lt _ (by decide)) (s.atbSt == abSYNTH)
    exact ⟨t, congrArg Host.Outcome.next ((State.anchorEval_taken hst hptp hfind hd).trans ht), hrest⟩
  case refine_8 => exact State.anchorEvaluate_own hst hptp hstamps rfl
  case refine_9 => exact congrArg Host.Outcome.next (if_pos (by simpa [State.on] using h))
  case refine_10 =>
    refine congrArg Host.Outcome.next ((if_neg (by simp [State.on, h])).trans ?_)
    rw [hc]
    by_cases h0 : c = 0
    · rw [h0]; rfl
    · simp [h0, b2n]
  case refine_11 =>
    refine congrArg Host.Outcome.next ((if_neg (by simp [State.on, h])).trans ?_)
    rw [State.planCheck_long hn]
    rfl
  case refine_12 =>
    refine congrArg Host.Outcome.next ((if_neg (by simp [State.on, h])).trans ?_)
    rw [hn, State.planCheck_empty hc]
    rfl
  case refine_13 =>
    have hopen : (s.on ATB.PLAN_ADDR_BANKSEL || s.on ATB.PLAN_CTRL_ARMED) = false := by simp [State.on, hbank, harm]
    exact congrArg (fun t : State => Host.Outcome.next t.planNext) (if_neg (by simp [hopen]))
  case refine_14 =>
    have hshut : (s.on ATB.PLAN_ADDR_BANKSEL || s.on ATB.PLAN_CTRL_ARMED) = true := by
      rcases h with h | h <;> simp [State.on, h]
    have hw : s.planWrite v = s.planNext := congrArg State.planNext (if_pos hshut)
    exact congrArg Host.Outcome.next hw
  case refine_15 =>
    have hread : s.planRead = Tab.get 0 (if s.get ATB.PLAN_ADDR_BANKSEL = 0 then s.atb.pendWords else s.atb.actWords)
        (s.get ATB.PLAN_ADDR_WADDR) := by
      by_cases hbank : s.get ATB.PLAN_ADDR_BANKSEL = 0 <;> simp [State.planRead, State.on, hbank]
    exact congrArg (fun w => Host.Outcome.next (s.planNext.respond w false)) hread
  case refine_16 => exact congrArg Host.Outcome.next ((congrArg Prod.snd (State.odWrite_plan hbar hx b)).trans (State.planObj_busy h b))
  case refine_17 =>
    obtain ⟨harmed, hrefuse, hnone, hid⟩ := s.planArmed_shows (le16 b 16) (le32 b 24)
    exact ⟨_, congrArg Host.Outcome.next ((congrArg Prod.snd (State.odWrite_plan hbar hx b)).trans
      (State.planObj_empty h htab hslots hsite hcyc)), harmed, hrefuse, hnone, hid, rfl⟩

end Sys2Proof.Machine
end

section
/-! PROOFS. R398 to R404: datagrams received, opened and refused, and the requests that open. -/

namespace Sys2Proof.Machine

open Sys2Proof

/-! ### Datagrams received (R399, R400) -/

section
variable (s : State) {d : List Nat}

@[simp] theorem State.unsent_siteId : s.unsent.siteId = s.siteId := rfl
@[simp] theorem State.unsent_nodeId : s.unsent.nodeId = s.nodeId := rfl
@[simp] theorem State.unsent_totKey (k : Nat) : s.unsent.totKey k = s.totKey k := rfl
@[simp] theorem State.unsent_totFresh (src ctr : Nat) : s.unsent.totFresh src ctr = s.totFresh src ctr := rfl

/-- A datagram of the command's own TYPE is received. -/
theorem exec_of_isTot {c : Instr} (h : isTot d c) : exec c s = .next (s.totRx d) := by
  have hcmd : ∀ k, byteAt d 1 = k → s.totCmd k d = .next (s.totRx d) := fun k hk =>
    congrArg Host.Outcome.next (if_pos (by simpa using hk))
  rcases h with ⟨h, rfl⟩ | ⟨h, rfl⟩ | ⟨h, rfl⟩ | ⟨h, rfl⟩ | ⟨h, rfl⟩ | ⟨h, rfl⟩ | ⟨h, rfl⟩ | ⟨h, rfl⟩ | ⟨h, rfl⟩ | ⟨h, rfl⟩ | ⟨h, rfl⟩
  case inr.inr.inr.inr.inr.inr.inr.inr.inr.inr => exact congrArg Host.Outcome.next (if_neg (by rw [h]; decide))
  all_goals exact hcmd _ h

theorem State.totRx_held (h : s.coreP.refHeld = true) : s.totRx d = s := if_pos h

variable {s}

/-- A datagram that does not open leaves what its failing check says. -/
theorem State.totRx_shut {t : State} (hheld : s.coreP.refHeld = false) (h : s.unsent.totOpen d = (t, none)) : s.totRx d = t := by
  have hopen : (s.updNet fun n => { n with sent := [] }).totOpen d = (t, none) := h
  rw [State.totRx, if_neg (by simp [hheld]), hopen]

/-- A datagram that opens does what its message does. -/
theorem State.totRx_open {t : State} {m : TotMsg} (hheld : s.coreP.refHeld = false) (h : s.unsent.totOpen d = (t, some m)) :
    s.totRx d = t.totDispatch m := by
  have hopen : (s.updNet fun n => { n with sent := [] }).totOpen d = (t, some m) := h
  rw [State.totRx, if_neg (by simp [hheld]), hopen]

/-- A command of the datagram's TYPE, the datagram opened. -/
theorem exec_opened {c : Instr} {t : State} {m : TotMsg} (hheld : s.coreP.refHeld = false)
    (h : s.unsent.totOpen d = (t, some m)) (hc : isTot d c) : exec c s = .next (t.totDispatch m) := by
  rw [exec_of_isTot s hc, State.totRx_open hheld h]

/-- A command of the datagram's TYPE, the datagram refused. -/
theorem exec_shut {c : Instr} {t : State} (hheld : s.coreP.refHeld = false) (h : s.unsent.totOpen d = (t, none)) (hc : isTot d c) :
    exec c s = .next t := by
  rw [exec_of_isTot s hc, State.totRx_shut hheld h]

end

/-! ### The checks in order (R399) -/

/-- The first check passes: length and version. -/
structure WellFormed (d : List Nat) : Prop where
  long : 40 ≤ d.length
  version : byteAt d 0 = 1
  length : le16 d 20 = d.length - 40

/-- And the datagram is for this site and this node. -/
structure Addressed (s : State) (d : List Nat) : Prop extends WellFormed d where
  site : le16 d 2 = s.siteId
  sited : s.siteId ≠ 0
  noded : s.nodeId ≠ 0
  node : le16 d 6 = s.nodeId ∨ le16 d 6 = 0xFFFF

section
variable {s : State} {d : List Nat}

theorem State.totOpen_malformed (h : d.length < 40 ∨ byteAt d 0 ≠ 1 ∨ le16 d 20 ≠ d.length - 40) :
    s.totOpen d = (s.netCount 1, none) := by
  rw [State.totOpen]
  exact if_pos (by simpa [or_assoc] using h)

theorem WellFormed.passes (h : WellFormed d) :
    (decide (d.length < 40) || byteAt d 0 != 1 || le16 d 20 != d.length - 40) = false := by
  simp [h.version, h.length, Nat.not_lt.mpr h.long]

theorem State.totOpen_site (h : WellFormed d) (hsite : le16 d 2 ≠ s.siteId ∨ s.siteId = 0) : s.totOpen d = (s.netCount 2, none) := by
  rw [State.totOpen, h.passes, if_neg Bool.false_ne_true]
  exact if_pos (by simpa using hsite)

theorem State.totOpen_other (h : WellFormed d) (hsite : le16 d 2 = s.siteId) (hsited : s.siteId ≠ 0)
    (hnode : s.nodeId = 0 ∨ (le16 d 6 ≠ s.nodeId ∧ le16 d 6 ≠ 0xFFFF)) : s.totOpen d = (s, none) := by
  rw [State.totOpen, h.passes, if_neg Bool.false_ne_true, if_neg (by simp [hsite, hsited])]
  exact if_pos (by simpa using hnode)

/-- What an addressed datagram is asked further: its key, its counter, its tag. -/
def State.totUnseal (s : State) (d : List Nat) : State × Option TotMsg :=
  match s.totKey (byteAt d 8) with
  | none => (s.netCount 3, none)
  | some key =>
    if !s.totFresh (le16 d 4) (le64 d 12) then (s.netCount 4, none)
    else match gcmOpen key (slice d 4 2 ++ [0, 0] ++ slice d 12 8) (d.take 24) (d.drop 24) with
      | none => (s.netCount 5, none)
      | some p => (s.totSeen (le16 d 4) (le64 d 12), some { hdr := d.take 24, body := p, key := key })

theorem State.totOpen_addressed (h : Addressed s d) : s.totOpen d = s.totUnseal d := by
  have hnode : ¬ (s.nodeId == 0 || (le16 d 6 != s.nodeId && le16 d 6 != 0xFFFF)) = true := by
    rcases h.node with hn | hn <;> simp [hn, h.noded]
  rw [State.totOpen, h.toWellFormed.passes, if_neg Bool.false_ne_true, if_neg (by simp [h.site, h.sited]), if_neg hnode]
  rfl

theorem State.totOpen_key (h : Addressed s d) (hkey : s.totKey (byteAt d 8) = none) : s.totOpen d = (s.netCount 3, none) := by
  rw [State.totOpen_addressed h, State.totUnseal, hkey]

theorem State.totOpen_counter {key : List Nat} (h : Addressed s d) (hkey : s.totKey (byteAt d 8) = some key)
    (hfresh : s.totFresh (le16 d 4) (le64 d 12) = false) : s.totOpen d = (s.netCount 4, none) := by
  rw [State.totOpen_addressed h, State.totUnseal, hkey]
  exact if_pos (by simp [hfresh])

theorem State.totOpen_tag {key : List Nat} (h : Addressed s d) (hkey : s.totKey (byteAt d 8) = some key)
    (hfresh : s.totFresh (le16 d 4) (le64 d 12) = true)
    (htag : gcmOpen key (slice d 4 2 ++ [0, 0] ++ slice d 12 8) (d.take 24) (d.drop 24) = none) :
    s.totOpen d = (s.netCount 5, none) := by
  rw [State.totOpen_addressed h, State.totUnseal, hkey]
  exact (if_neg (by simp [hfresh])).trans (by rw [htag])

/-- What opens a datagram: its header stays, and of the state the replay windows alone change. -/
theorem State.totOpen_opened {t : State} {m : TotMsg} (h : s.totOpen d = (t, some m)) :
    m.hdr = d.take 24 ∧ t = s.totSeen (le16 d 4) (le64 d 12) := by
  unfold State.totOpen at h
  extract_lets hdr at h
  split at h
  · cases h
  · split at h
    · cases h
    · split at h
      · cases h
      · split at h
        · cases h
        · split at h
          · cases h
          · split at h
            · cases h
            · cases h
              exact ⟨rfl, rfl⟩

/-- The TYPE of a message that opens is the datagram's. -/
theorem State.opened_type {t : State} {m : TotMsg} (h : s.totOpen d = (t, some m)) : byteAt m.hdr 1 = byteAt d 1 := by
  rw [(State.totOpen_opened h).1]
  simp [byteAt, List.getD_eq_getElem?_getD]

theorem State.mode_totSeen (s : State) (src ctr : Nat) : (s.totSeen src ctr).mode = s.mode := by
  unfold State.totSeen
  extract_lets h w
  split
  · rfl
  · split <;> rfl

/-- Opening a datagram leaves the mode. -/
theorem State.opened_mode {t : State} {m : TotMsg} (h : s.totOpen d = (t, some m)) : t.mode = s.mode := by
  rw [(State.totOpen_opened h).2, State.mode_totSeen]

end

/-! ### Dispatch (R401) -/

section
variable {s t : State} {d : List Nat} {m : TotMsg}

/-- The messages that FAILSAFE serves too. -/
theorem State.totDispatch_served {k : Nat} (hk : k ∈ [1, 3, 0x10, 0x11, 0x12, 0x13, 0x14]) (h : byteAt m.hdr 1 = k) :
    t.totDispatch m = t.totRecover m k := by
  have hlist : ∀ j ∈ [1, 3, 0x10, 0x11, 0x12, 0x13, 0x14],
      totTypes.contains j = true ∧ (j == 0x20) = false ∧ (j == 0x23) = false ∧ (j == 0x30) = false := by decide
  obtain ⟨hin, h20, h23, h30⟩ := hlist k hk
  rw [State.totDispatch, h]
  simp only [hin, h20, h23, h30, Bool.not_true, Bool.false_eq_true, if_false]
  split <;> rfl

theorem State.totDispatch_unknown (h : totTypes.contains (byteAt m.hdr 1) = false) : t.totDispatch m = t.netCount 1 :=
  if_pos (by rw [h]; decide)

/-- A command whose message FAILSAFE serves too, the datagram opened. -/
theorem exec_served {c : Instr} {k : Nat} (hk : k ∈ [1, 3, 0x10, 0x11, 0x12, 0x13, 0x14]) (hheld : s.coreP.refHeld = false)
    (hopen : s.unsent.totOpen d = (t, some m)) (h : byteAt d 1 = k) (hc : isTot d c) : exec c s = .next (t.totRecover m k) := by
  rw [exec_opened hheld hopen hc, State.totDispatch_served hk ((State.opened_type hopen).trans h)]

end

end Sys2Proof.Machine
end

section
/-! PROOFS. R401 to R404: requests and transfers. -/

namespace Sys2Proof.Machine

open Sys2Proof

section
variable {t : State} {m : TotMsg}

/-! ### Reads and writes (R402) -/

theorem State.totRead_group (h : m.group = true) : t.totRead m = t := if_pos h

theorem State.totRead_own (h : m.group = false) :
    t.totRead m = t.fresh.2.totReply m 2 (t.readAll (totEntries m.body.length m.body) 0) := if_neg (by simp [h])

/-- A WRITE_REQ whose entries came out so. -/
theorem State.totWrite_of_all {w : List Nat} {v : State} {b : Bool}
    (h : t.writeAll (totEntries m.body.length m.body) = (w, v, b)) :
    t.totWrite m = if m.group || b then v else v.totReply m 4 w := by
  unfold State.totWrite
  rw [h]

/-- One entry, whatever its STATUS, that no reset overtakes. -/
theorem State.writeAll_one {h v : List Nat} (hreset : resetObj (le16 h 0) = false) :
    t.writeAll [(h, v)] = (h.take 4 ++ toLe 2 (t.totPut (le16 h 0) (byteAt h 2) (byteAt h 3) v).1 ++ [0, 0],
      (t.totPut (le16 h 0) (byteAt h 2) (byteAt h 3) v).2, false) := by
  by_cases hok : (t.totPut (le16 h 0) (byteAt h 2) (byteAt h 3) v).1 = odOK
  · simp [State.writeAll, hok, hreset]
  · simp [State.writeAll, hok]

/-- An entry that aborts leaves the next one undone. -/
theorem State.writeAll_abort {h v h2 v2 : List Nat} (hbad : (t.totPut (le16 h 0) (byteAt h 2) (byteAt h 3) v).1 ≠ odOK) :
    t.writeAll [(h, v), (h2, v2)] = (h.take 4 ++ toLe 2 (t.totPut (le16 h 0) (byteAt h 2) (byteAt h 3) v).1 ++ [0, 0] ++
      (h2.take 4 ++ toLe 2 odNOT_DONE ++ [0, 0]), (t.totPut (le16 h 0) (byteAt h 2) (byteAt h 3) v).2, false) := by
  simp [State.writeAll, hbad]

/-! ### Transfers named (R403) -/

/-- A transfer names itself. -/
theorem Xfer.is_self {x : Xfer} (h : x.host = false) : x.is x.src x.tid = true := by simp [Xfer.is, h]

theorem Xfer.is_iff {x : Xfer} {src tid : Nat} : x.is src tid = true ↔ x.host = false ∧ x.src = src ∧ x.tid = tid := by
  simp [Xfer.is, and_assoc]

/-- The transfer found is the one named. -/
theorem State.xferOf_is {src tid : Nat} {x : Xfer} (h : t.xferOf src tid = some x) : x.is src tid = true :=
  List.find?_some (p := fun y : Xfer => y.is src tid) h

/-- The state without the transfer that a message names. -/
def State.xferClear (t : State) (src tid : Nat) : State :=
  { t with net := { t.net with xfers := t.net.xfers.filter fun y => !y.is src tid } }

theorem State.xferDrop_named {src tid : Nat} {x : Xfer} (h : x.is src tid = true) : t.xferDrop x = t.xferClear src tid := by
  obtain ⟨-, rfl, rfl⟩ := Xfer.is_iff.mp h
  rfl

/-- Without one nothing is dropped. -/
theorem State.xferClear_none {src tid : Nat} (h : t.xferOf src tid = none) : t.xferClear src tid = t := by
  have hall : t.net.xfers.filter (fun y => !y.is src tid) = t.net.xfers :=
    List.filter_eq_self.mpr fun y hy => by simpa using List.find?_eq_none.mp h y hy
  rw [State.xferClear, hall]

/-- A sole transfer is the one named, is replaced by itself changed, and is dropped. -/
theorem State.xferOf_sole {src tid : Nat} {x : Xfer} (h : t.net.xfers = [x]) (hx : x.is src tid = true) :
    t.xferOf src tid = some x := by
  simp [State.xferOf, h, hx]

theorem State.xferPut_sole {x y : Xfer} (h : t.net.xfers = [x]) (hx : x.is y.src y.tid = true) :
    t.xferPut y = { t with net := { t.net with xfers := [y] } } := by
  simp [State.xferPut, State.setXfers, State.updNet, h, hx]

theorem State.xferDrop_sole {src tid : Nat} {x : Xfer} (h : t.net.xfers = [x]) (hx : x.is src tid = true) :
    t.xferDrop x = { t with net := { t.net with xfers := [] } } := by
  rw [State.xferDrop_named hx, State.xferClear, h]
  simp [hx]

/-! ### XFER_INIT -/

/-- A transfer to the node as XFER_INIT names it. -/
def xferIn (m : TotMsg) : Xfer :=
  { src := m.src, tid := m.tid, kid := m.kid, index := le16 m.body 0, sub := byteAt m.body 2, out := false, kind := byteAt m.body 4
    total := le32 m.body 5, crc := le32 m.body 9, data := [], next := 0, segs := 0, resends := 0, host := false }

/-- A transfer of the value `v` from the node. -/
def xferOut (m : TotMsg) (v : List Nat) : Xfer :=
  { src := m.src, tid := m.tid, kid := m.kid, index := le16 m.body 0, sub := byteAt m.body 2, out := true, kind := byteAt m.body 4
    total := v.length, crc := crc32c v, data := v, next := 0, segs := 0, resends := 0, host := false }

/-- XFER_INIT with its name free: the refusals in order, then the transfer opened. -/
def State.xferOffer (u : State) (m : TotMsg) : State :=
  let cOut := u.xferOutBar (le16 m.body 0) (byteAt m.body 2) (byteAt m.body 4)
  let cIn := u.xferInBar (le16 m.body 0) (byteAt m.body 2) (byteAt m.body 4) (le32 m.body 5)
  let v := (u.totGet (le16 m.body 0) (byteAt m.body 2)).2.2
  let refuse := fun (c : Nat) => u.totReply m 0x14 (toLe 2 c)
  if 1 < byteAt m.body 3 || 1 < byteAt m.body 4 then refuse odRANGE
  else if 4 ≤ u.net.xfers.length then refuse odBUSY
  else if byteAt m.body 3 == 1 then
    if cOut != odOK then refuse cOut
    else ((u.setXfers (u.net.xfers ++ [xferOut m v])).fresh.2.totReply m 0x10
      (m.body.take 5 ++ toLe 4 v.length ++ toLe 4 (crc32c v))).xferWindow (xferOut m v)
  else if cIn != odOK then refuse cIn
  else (u.setXfers (u.net.xfers ++ [xferIn m])).totReply m 0x12 (toLe 4 0)

/-- XFER_INIT begins without the transfer of its name. -/
theorem State.xferInit_offer (hgroup : m.group = false) : t.xferInit m = (t.xferClear m.src m.tid).xferOffer m := by
  have hclear : (match t.xferOf m.src m.tid with
      | some x => t.xferDrop x
      | none => t) = t.xferClear m.src m.tid := by
    split
    · next x hx => exact State.xferDrop_named (State.xferOf_is hx)
    · next hx => exact (State.xferClear_none hx).symm
  rw [← hclear]
  exact if_neg (by simp [hgroup])

section
variable {u : State}

/-- The refusals in order. -/
theorem State.xferOffer_refused {e : Nat}
    (h : ((1 < byteAt m.body 3 ∨ 1 < byteAt m.body 4) ∧ e = odRANGE) ∨
      (byteAt m.body 3 ≤ 1 ∧ byteAt m.body 4 ≤ 1 ∧ 4 ≤ u.net.xfers.length ∧ e = odBUSY) ∨
      (byteAt m.body 3 = 1 ∧ byteAt m.body 4 ≤ 1 ∧ u.net.xfers.length < 4 ∧ e ≠ odOK ∧
        e = u.xferOutBar (le16 m.body 0) (byteAt m.body 2) (byteAt m.body 4)) ∨
      (byteAt m.body 3 = 0 ∧ byteAt m.body 4 ≤ 1 ∧ u.net.xfers.length < 4 ∧ e ≠ odOK ∧
        e = u.xferInBar (le16 m.body 0) (byteAt m.body 2) (byteAt m.body 4) (le32 m.body 5))) :
    u.xferOffer m = u.totReply m 0x14 (toLe 2 e) := by
  unfold State.xferOffer
  dsimp only
  rcases h with ⟨hrange, rfl⟩ | ⟨hdir, hkind, hfull, rfl⟩ | ⟨hdir, hkind, hroom, hne, hbar⟩ | ⟨hdir, hkind, hroom, hne, hbar⟩
  · exact if_pos (by simpa using hrange)
  · rw [if_neg (by simp; omega), if_pos hfull]
  · rw [if_neg (by simp; omega), if_neg (by omega), if_pos (by simp [hdir]), ← hbar, if_pos (by simpa using hne)]
  · rw [if_neg (by simp; omega), if_neg (by omega), if_neg (by simp [hdir]), ← hbar, if_pos (by simpa using hne)]

/-- A transfer to the node opened. -/
theorem State.xferOffer_in (hroom : u.net.xfers.length < 4) (hdir : byteAt m.body 3 = 0) (hkind : byteAt m.body 4 ≤ 1)
    (hbar : u.xferInBar (le16 m.body 0) (byteAt m.body 2) (byteAt m.body 4) (le32 m.body 5) = odOK) :
    u.xferOffer m = (u.setXfers (u.net.xfers ++ [xferIn m])).totReply m 0x12 (toLe 4 0) := by
  unfold State.xferOffer
  dsimp only
  rw [if_neg (by simp; omega), if_neg (by omega), if_neg (by simp [hdir]), hbar, if_neg (by decide)]

/-- A transfer from the node opened. -/
theorem State.xferOffer_out {v : List Nat} (hroom : u.net.xfers.length < 4) (hdir : byteAt m.body 3 = 1)
    (hkind : byteAt m.body 4 ≤ 1) (hbar : u.xferOutBar (le16 m.body 0) (byteAt m.body 2) (byteAt m.body 4) = odOK)
    (hv : v = (u.totGet (le16 m.body 0) (byteAt m.body 2)).2.2) :
    u.xferOffer m = ((u.setXfers (u.net.xfers ++ [xferOut m v])).fresh.2.totReply m 0x10
      (m.body.take 5 ++ toLe 4 v.length ++ toLe 4 (crc32c v))).xferWindow (xferOut m v) := by
  unfold State.xferOffer
  dsimp only
  rw [if_neg (by simp; omega), if_neg (by omega), if_pos (by simp [hdir]), hbar, if_neg (by decide), hv]

end

/-! ### Segments, acknowledgements and ends -/

section
variable {x : Xfer} (hgroup : m.group = false) (hof : t.xferOf m.src m.tid = some x)
include hgroup hof

theorem State.xferData_out (hout : x.out = true) : t.xferData m = t := by
  simp [State.xferData, hof, hgroup, hout]

variable (hin : x.out = false)

section
include hin

theorem State.xferData_fail (h : 1028 < m.body.length ∨ x.total < le32 m.body 0 + (m.body.length - 4) ∨
    x.data.length + (if x.kind = 0 then 1024 else 16384) ≤ le32 m.body 0) :
    t.xferData m = (t.xferDrop x).totReply m 0x14 (toLe 2 odSEQUENCE) := by
  unfold State.xferData
  rw [hof]
  dsimp only
  rw [if_neg (by simp [hgroup, hin])]
  refine if_pos ?_
  have hlong : 1024 < m.body.length - 4 ↔ 1028 < m.body.length := by omega
  simpa [hlong, or_assoc] using h

theorem State.xferData_repeat (hlen : m.body.length ≤ 1028) (htotal : le32 m.body 0 + (m.body.length - 4) ≤ x.total)
    (hwin : le32 m.body 0 < x.data.length + (if x.kind = 0 then 1024 else 16384))
    (h : le32 m.body 0 ≠ x.data.length ∨ m.body.length ≤ 4) : t.xferData m = t.totReply m 0x12 (toLe 4 x.data.length) := by
  have hshort : ¬ 1028 < m.body.length := by omega
  have hlong : 1024 < m.body.length - 4 ↔ 1028 < m.body.length := by omega
  unfold State.xferData
  rw [hof]
  dsimp only
  rw [if_neg (by simp [hgroup, hin]), if_neg (by simpa [hlong, hshort] using ⟨htotal, hwin⟩)]
  exact if_pos (by simpa using h)

/-- A segment in place: staged, and acknowledged where its KIND asks. -/
theorem State.xferData_staged {y : Xfer} (hoff : le32 m.body 0 = x.data.length) (hsome : 4 < m.body.length)
    (hlen : m.body.length ≤ 1028) (htotal : x.data.length + (m.body.length - 4) ≤ x.total)
    (hy : y = { x with data := x.data ++ m.body.drop 4, segs := x.segs + 1 }) :
    t.xferData m = if x.kind = 0 ∨ y.segs % 16 = 0 ∨ y.data.length = x.total then
        ((t.xferPut y).imgSegment x (le32 m.body 0) (m.body.drop 4)).totReply m 0x12 (toLe 4 y.data.length)
      else (t.xferPut y).imgSegment x (le32 m.body 0) (m.body.drop 4) := by
  have hwin : le32 m.body 0 < x.data.length + (if x.kind = 0 then 1024 else 16384) := by split <;> omega
  have hshort : ¬ 1028 < m.body.length := by omega
  have hlong : 1024 < m.body.length - 4 ↔ 1028 < m.body.length := by omega
  have htot : le32 m.body 0 + (m.body.length - 4) ≤ x.total := by omega
  unfold State.xferData
  rw [hof]
  dsimp only
  rw [if_neg (by simp [hgroup, hin]), if_neg (by simpa [hlong, hshort] using ⟨htot, hwin⟩), if_neg (by simp [hoff]; omega), hy]
  simp [or_assoc]

end

theorem State.xferEnd_out (hout : x.out = true) : t.xferEnd m = t.xferDrop x := by
  simp [State.xferEnd, hof, hgroup, hout]

include hin in
/-- The end of a transfer to the node: applied, and answered where no reset overtakes it. -/
theorem State.xferEnd_in {e : Nat} {v : State} (happly : (t.xferDrop x).xferApply x = (e, v)) :
    t.xferEnd m = if e == odOK && resetObj x.index then v else v.totReply m 0x13 (toLe 2 e) := by
  unfold State.xferEnd
  rw [hof]
  dsimp only
  rw [if_neg (by simp [hgroup]), if_neg (by simp [hin]), happly]

theorem State.xferAck_moves {y : Xfer} (hout : x.out = true) (hlow : x.next ≤ le32 m.body 0) (hhigh : le32 m.body 0 ≤ x.total)
    (hy : y = { x with next := le32 m.body 0, resends := if x.next < le32 m.body 0 then 0 else x.resends }) :
    t.xferAck m = (t.xferPut y).xferWindow y := by
  unfold State.xferAck
  rw [hof]
  dsimp only
  rw [if_neg (by simp [hgroup, hout]; omega), hy]

omit hgroup in
theorem State.xferAck_stays (h : x.out = false ∨ x.total < le32 m.body 0 ∨ le32 m.body 0 < x.next) : t.xferAck m = t := by
  unfold State.xferAck
  rw [hof]
  refine if_pos ?_
  rcases h with h | h | h <;> simp [h]

theorem State.xferAbort_drops : t.xferAbort m = t.xferDrop x := by
  simp [State.xferAbort, hof, hgroup]

end

/-- What names no transfer of the node, or goes to the group, changes nothing. -/
theorem State.xferMsg_unnamed (h : t.xferOf m.src m.tid = none ∨ m.group = true) :
    t.xferData m = t ∧ t.xferAck m = t ∧ t.xferEnd m = t ∧ t.xferAbort m = t := by
  unfold State.xferData State.xferAck State.xferEnd State.xferAbort
  cases hof : t.xferOf m.src m.tid with
  | none => exact ⟨rfl, rfl, rfl, rfl⟩
  | some x =>
    have hgroup : m.group = true := by simpa [hof] using h
    simp [hgroup]

/-- What is short of its TOTAL, or fails its CRC, is not applied. -/
theorem State.xferApply_short {x : Xfer} (h : x.data.length ≠ x.total) : t.xferApply x = (odSEQUENCE, t) := if_pos (by simpa using h)

theorem State.xferApply_crc {x : Xfer} (h : x.data.length = x.total) (hcrc : crc32c x.data ≠ x.crc) : t.xferApply x = (odCRC, t) :=
  (if_neg (by simp [h])).trans (if_pos (by simpa using hcrc))

end

end Sys2Proof.Machine
end

section
/-! PROOFS. The obligation on datagrams. -/

namespace Sys2Proof.Machine

open Sys2Proof

/-- The TYPE of a command's datagram, of those that FAILSAFE serves too. -/
theorem isTot_served {d : List Nat} {c : Instr}
    (h : (byteAt d 1 = 0x11 ∧ c = .xferData d) ∨ (byteAt d 1 = 0x12 ∧ c = .xferAck d) ∨ (byteAt d 1 = 0x13 ∧ c = .xferEnd d) ∨
      (byteAt d 1 = 0x14 ∧ c = .xferAbort d)) : isTot d c := by
  rcases h with h | h | h | h
  · exact .inr (.inr (.inr (.inl h)))
  · exact .inr (.inr (.inr (.inr (.inl h))))
  · exact .inr (.inr (.inr (.inr (.inr (.inl h)))))
  · exact .inr (.inr (.inr (.inr (.inr (.inr (.inl h))))))

section
variable {s t : State} {d : List Nat} {m : TotMsg} (hheld : s.coreP.refHeld = false) (hopen : s.unsent.totOpen d = (t, some m))
include hheld hopen

theorem exec_readReq_open (h : byteAt d 1 = 0x01) : exec (.readReq d) s = .next (t.totRead m) :=
  exec_served (by decide) hheld hopen h (.inl ⟨h, rfl⟩)

theorem exec_writeReq_open (h : byteAt d 1 = 0x03) : exec (.writeReq d) s = .next (t.totWrite m) :=
  exec_served (by decide) hheld hopen h (.inr (.inl ⟨h, rfl⟩))

theorem exec_xferInit_open (h : byteAt d 1 = 0x10) : exec (.xferInit d) s = .next (t.xferInit m) :=
  exec_served (by decide) hheld hopen h (.inr (.inr (.inl ⟨h, rfl⟩)))

theorem exec_xferData_open (h : byteAt d 1 = 0x11) : exec (.xferData d) s = .next (t.xferData m) :=
  exec_served (by decide) hheld hopen h (isTot_served (.inl ⟨h, rfl⟩))

theorem exec_xferAck_open (h : byteAt d 1 = 0x12) : exec (.xferAck d) s = .next (t.xferAck m) :=
  exec_served (by decide) hheld hopen h (isTot_served (.inr (.inl ⟨h, rfl⟩)))

theorem exec_xferEnd_open (h : byteAt d 1 = 0x13) : exec (.xferEnd d) s = .next (t.xferEnd m) :=
  exec_served (by decide) hheld hopen h (isTot_served (.inr (.inr (.inl ⟨h, rfl⟩))))

theorem exec_xferAbort_open (h : byteAt d 1 = 0x14) : exec (.xferAbort d) s = .next (t.xferAbort m) :=
  exec_served (by decide) hheld hopen h (isTot_served (.inr (.inr (.inr ⟨h, rfl⟩))))

/-- WRITE_REQ answered with what its entries came to. -/
theorem exec_writeReq_answered {w : List Nat} {v : State} (h : byteAt d 1 = 0x03) (hgroup : m.group = false)
    (hall : t.writeAll (totEntries m.body.length m.body) = (w, v, false)) :
    exec (.writeReq d) s = .next (v.totReply m 0x04 w) := by
  rw [exec_writeReq_open hheld hopen h, State.totWrite_of_all hall, hgroup]
  rfl

end

/-- Settles O46: a datagram is opened or refused by the checks in order, and each message that opens does what its function says. -/
theorem totDatagrams : Obligations.TotDatagrams := by
  unfold Obligations.TotDatagrams
  refine ⟨?_, ?_, ?_, ?_, ?_, ?_, ?_, ?_, ?_, ?_, ?_, ?_, ?_, ?_, ?_, ?_, ?_, ?_, ?_, ?_, ?_, ?_, ?_, ?_, ?_, ?_, ?_, ?_, ?_, ?_,
    ?_, ?_, ?_⟩
  · intro s d c hheld hc
    rw [exec_of_isTot s hc, s.totRx_held hheld]
  · intro s d k c hk hc
    have hcmd : s.totCmd k d = .next s := congrArg Host.Outcome.next (if_neg (by simpa using hk))
    rcases hc with ⟨rfl, rfl⟩ | ⟨rfl, rfl⟩ | ⟨rfl, rfl⟩ | ⟨rfl, rfl⟩ | ⟨rfl, rfl⟩ | ⟨rfl, rfl⟩ | ⟨rfl, rfl⟩ | ⟨rfl, rfl⟩ |
      ⟨rfl, rfl⟩ | ⟨rfl, rfl⟩
    all_goals exact hcmd
  · exact fun s d h => congrArg Host.Outcome.next (if_pos h)
  · exact fun s d c hheld h hc => exec_shut hheld (State.totOpen_malformed h) hc
  · exact fun s d c hheld h1 h2 h3 h hc => exec_shut hheld (State.totOpen_site ⟨h1, h2, h3⟩ h) hc
  · exact fun s d c hheld h1 h2 h3 h4 h5 h hc => exec_shut hheld (State.totOpen_other ⟨h1, h2, h3⟩ h4 h5 h) hc
  · exact fun s d c hheld h1 h2 h3 h4 h5 h6 h7 h hc => exec_shut hheld (State.totOpen_key ⟨⟨h1, h2, h3⟩, h4, h5, h6, h7⟩ h) hc
  · exact fun s d key c hheld h1 h2 h3 h4 h5 h6 h7 hk h hc =>
      exec_shut hheld (State.totOpen_counter ⟨⟨h1, h2, h3⟩, h4, h5, h6, h7⟩ hk h) hc
  · exact fun s d key c hheld h1 h2 h3 h4 h5 h6 h7 hk hf h hc =>
      exec_shut hheld (State.totOpen_tag ⟨⟨h1, h2, h3⟩, h4, h5, h6, h7⟩ hk hf h) hc
  · intro s t d m hheld hopen h
    have hc : isTot d (.totUnknownType d) := .inr (.inr (.inr (.inr (.inr (.inr (.inr (.inr (.inr (.inr ⟨h, rfl⟩)))))))))
    rw [exec_opened hheld hopen hc, State.totDispatch_unknown (by rw [State.opened_type hopen]; exact h)]
  · intro s t d m hheld hopen h hgroup
    rw [exec_readReq_open hheld hopen h, State.totRead_own hgroup]
  · intro s t d m hheld hopen h hgroup
    rw [exec_readReq_open hheld hopen h, State.totRead_group hgroup]
  · intro s t d h v m hheld hopen hty hgroup hent hreset
    exact exec_writeReq_answered hheld hopen hty hgroup (by rw [hent]; exact State.writeAll_one hreset)
  · intro s t d h v h2 v2 m hheld hopen hty hgroup hent hbad
    exact exec_writeReq_answered hheld hopen hty hgroup (by rw [hent]; exact State.writeAll_abort hbad)
  · intro s t d w v m hheld hopen hty hall hgroup
    exact exec_writeReq_answered hheld hopen hty hgroup hall
  · intro s t d w v b m hheld hopen hty hall hb
    rw [exec_writeReq_open hheld hopen hty, State.totWrite_of_all hall, if_pos (by simpa using hb)]
  · intro s t d m hheld hopen hty hgroup
    rw [exec_xferInit_open hheld hopen hty]
    exact congrArg Host.Outcome.next (if_pos hgroup)
  · intro s t u d m e hheld hopen hty hgroup hu h
    rw [exec_xferInit_open hheld hopen hty, State.xferInit_offer hgroup]
    subst hu
    exact congrArg Host.Outcome.next (State.xferOffer_refused h)
  · intro s t u d m hheld hopen hty hgroup hu hroom hdir hkind hbar
    rw [exec_xferInit_open hheld hopen hty, State.xferInit_offer hgroup]
    subst hu
    exact congrArg Host.Outcome.next (State.xferOffer_in hroom hdir hkind hbar)
  · intro s t u d v m x hheld hopen hty hgroup hu hroom hdir hkind hbar hv hx
    rw [exec_xferInit_open hheld hopen hty, State.xferInit_offer hgroup]
    subst hu hx
    exact congrArg Host.Outcome.next (State.xferOffer_out hroom hdir hkind hbar hv)
  · intro s t d m c hheld hopen hnone hc
    obtain ⟨hdata, hack, hend, habort⟩ := State.xferMsg_unnamed hnone
    rcases hc with ⟨h, rfl⟩ | ⟨h, rfl⟩ | ⟨h, rfl⟩ | ⟨h, rfl⟩
    · rw [exec_xferData_open hheld hopen h, hdata]
    · rw [exec_xferAck_open hheld hopen h, hack]
    · rw [exec_xferEnd_open hheld hopen h, hend]
    · rw [exec_xferAbort_open hheld hopen h, habort]
  · intro s t d m x hheld hopen hty hgroup hsole hx hin hkind hindex hoff hsome hlen htotal
    rw [exec_xferData_open hheld hopen hty,
      State.xferData_staged hgroup (State.xferOf_sole hsole hx) hin hoff hsome hlen htotal rfl, if_pos (.inl hkind),
      State.xferPut_sole (y := { x with data := x.data ++ m.body.drop 4, segs := x.segs + 1 }) hsole
        (Xfer.is_self (Xfer.is_iff.mp hx).1), State.imgSegment, if_pos (by simpa using hindex)]
    simp
  · intro s t d m x y hheld hopen hty hgroup hof hin hoff hsome hlen htotal hy
    rw [exec_xferData_open hheld hopen hty, State.xferData_staged hgroup hof hin hoff hsome hlen htotal hy]
    exact ⟨fun h => by rw [if_pos h], fun h1 h2 h3 => by rw [if_neg (by simp [h1, h2, h3])]⟩
  · intro s t d m x hheld hopen hty hgroup hof hout
    rw [exec_xferData_open hheld hopen hty, State.xferData_out hgroup hof hout]
  · intro s t d m x hheld hopen hty hgroup hof hin h
    rw [exec_xferData_open hheld hopen hty, State.xferData_fail hgroup hof hin h]
  · intro s t d m x hheld hopen hty hgroup hof hin hlen htotal hwin h
    rw [exec_xferData_open hheld hopen hty, State.xferData_repeat hgroup hof hin hlen htotal hwin h]
  · intro s t d m x hheld hopen hty hgroup hsole hx hin hreset
    rw [exec_xferEnd_open hheld hopen hty, State.xferEnd_in hgroup (State.xferOf_sole hsole hx) hin
      (Prod.eta ((t.xferDrop x).xferApply x)).symm, hreset, Bool.and_false, if_neg Bool.false_ne_true, State.xferDrop_sole hsole hx]
  · intro s t v d m x e hheld hopen hty hgroup hof hin happly
    refine ⟨fun h => ?_, fun h hcrc => ?_, fun h => ?_, fun h hreset => ?_⟩
    · rw [State.xferApply_short h] at happly
      cases happly
      exact ⟨rfl, rfl⟩
    · rw [State.xferApply_crc h hcrc] at happly
      cases happly
      exact ⟨rfl, rfl⟩
    · rw [exec_xferEnd_open hheld hopen hty, State.xferEnd_in hgroup hof hin happly, if_neg]
      rcases h with h | h <;> simp [h]
    · rw [exec_xferEnd_open hheld hopen hty, State.xferEnd_in hgroup hof hin happly, if_pos (by simp [h, hreset])]
  · intro s t d m x hheld hopen hty hgroup hof hout
    rw [exec_xferEnd_open hheld hopen hty, State.xferEnd_out hgroup hof hout]
  · intro s t d m x hheld hopen hty hgroup hsole hx hout hlow hhigh
    rw [exec_xferAck_open hheld hopen hty, State.xferAck_moves hgroup (State.xferOf_sole hsole hx) hout hlow.le hhigh rfl,
      if_pos hlow, State.xferPut_sole (y := { x with next := le32 m.body 0, resends := 0 }) hsole
        (Xfer.is_self (Xfer.is_iff.mp hx).1)]
  · intro s t d m x y hheld hopen hty hgroup hof hout hlow hhigh hy
    rw [exec_xferAck_open hheld hopen hty, State.xferAck_moves hgroup hof hout hlow hhigh hy]
  · intro s t d m x hheld hopen hty hgroup hof h
    rw [exec_xferAck_open hheld hopen hty, State.xferAck_stays hof h]
  · intro s t d m x hheld hopen hty hgroup hof
    rw [exec_xferAbort_open hheld hopen hty, State.xferAbort_drops hgroup hof]

end Sys2Proof.Machine
end

section
/-! PROOFS. R397, R403, R405 to R407: subscriptions, the plan multicast and the network's times. -/

namespace Sys2Proof.Machine

open Sys2Proof

/-! ### Dispatch of what FAILSAFE does not serve (R401, R498) -/

section
variable {s t : State} {d : List Nat} {m : TotMsg}

/-- In FAILSAFE subscriptions, their acknowledgements and plans are not served. -/
theorem State.totDispatch_failsafe {k : Nat} (hk : k ∈ [0x20, 0x23, 0x30]) (h : byteAt m.hdr 1 = k) (hmode : t.mode = mdFAILSAFE) :
    t.totDispatch m = t := by
  have hlist : ∀ j ∈ [0x20, 0x23, 0x30], totTypes.contains j = true ∧ (j == 1) = false ∧ (j == 3) = false ∧ (j == 0x10) = false ∧
      (j == 0x11) = false ∧ (j == 0x12) = false ∧ (j == 0x13) = false ∧ (j == 0x14) = false := by decide
  obtain ⟨hin, h1, h3, h10, h11, h12, h13, h14⟩ := hlist k hk
  rw [State.totDispatch, h, hin, hmode]
  simp [State.totRecover, h1, h3, h10, h11, h12, h13, h14]

theorem State.totDispatch_subscribe (h : byteAt m.hdr 1 = 0x20) (hmode : t.mode ≠ mdFAILSAFE) :
    t.totDispatch m = t.subscribe m := by
  rw [State.totDispatch, h, if_neg (by decide), if_neg (by simpa using hmode)]
  rfl

theorem State.totDispatch_notifyAck (h : byteAt m.hdr 1 = 0x23) (hmode : t.mode ≠ mdFAILSAFE) :
    t.totDispatch m = t.notifyAck m := by
  rw [State.totDispatch, h, if_neg (by decide), if_neg (by simpa using hmode)]
  rfl

theorem State.totDispatch_planMcast (h : byteAt m.hdr 1 = 0x30) (hmode : t.mode ≠ mdFAILSAFE) :
    t.totDispatch m = t.planMcast m := by
  rw [State.totDispatch, h, if_neg (by decide), if_neg (by simpa using hmode)]
  rfl

theorem isTot_subscribe (h : byteAt d 1 = 0x20) : isTot d (.subscribe d) := by simp [isTot, h]

theorem isTot_notifyAck (h : byteAt d 1 = 0x23) : isTot d (.notifyAck d) := by simp [isTot, h]

theorem isTot_planMcast (h : byteAt d 1 = 0x30) : isTot d (.planMcast d) := by simp [isTot, h]

section
variable (hheld : s.coreP.refHeld = false) (hopen : s.unsent.totOpen d = (t, some m))
include hheld hopen

theorem exec_unserved {c : Instr} {k : Nat} (hk : k ∈ [0x20, 0x23, 0x30]) (h : byteAt d 1 = k) (hc : isTot d c)
    (hmode : s.mode = mdFAILSAFE) : exec c s = .next t := by
  rw [exec_opened hheld hopen hc, State.totDispatch_failsafe hk ((State.opened_type hopen).trans h)
    ((State.opened_mode hopen).trans hmode)]

variable (hmode : s.mode ≠ mdFAILSAFE)
include hmode

theorem exec_subscribe_open (h : byteAt d 1 = 0x20) : exec (.subscribe d) s = .next (t.subscribe m) := by
  rw [exec_opened hheld hopen (isTot_subscribe h), State.totDispatch_subscribe ((State.opened_type hopen).trans h)
    (by rw [State.opened_mode hopen]; exact hmode)]

theorem exec_notifyAck_open (h : byteAt d 1 = 0x23) : exec (.notifyAck d) s = .next (t.notifyAck m) := by
  rw [exec_opened hheld hopen (isTot_notifyAck h), State.totDispatch_notifyAck ((State.opened_type hopen).trans h)
    (by rw [State.opened_mode hopen]; exact hmode)]

theorem exec_planMcast_open (h : byteAt d 1 = 0x30) : exec (.planMcast d) s = .next (t.planMcast m) := by
  rw [exec_opened hheld hopen (isTot_planMcast h), State.totDispatch_planMcast ((State.opened_type hopen).trans h)
    (by rw [State.opened_mode hopen]; exact hmode)]

end
end

/-! ### SUBSCRIBE (R405) -/

section
variable {t : State} {m : TotMsg}

theorem Subscr.is_iff {x : Subscr} {src id : Nat} : x.is src id = true ↔ x.src = src ∧ x.id = id := by simp [Subscr.is]

/-- The subscription that a SUBSCRIBE names. -/
def State.subOf (t : State) (m : TotMsg) : Option Subscr := t.net.subs.find? fun x => x.is m.src (byteAt m.body 0)

/-- The subscription that a SUBSCRIBE asks for. -/
def newSub (t : State) (m : TotMsg) : Subscr :=
  { src := m.src, id := byteAt m.body 0, mode := byteAt m.body 1, index := le16 m.body 2, sub := byteAt m.body 4
    minMs := le16 m.body 5, life := le16 m.body 7, conf := bitOf (byteAt m.hdr 9) 0, waiting := none, resends := 0, queued := []
    since := t.now, last := [] }

/-- The answer of a SUBSCRIBE. -/
def State.subSay (t : State) (m : TotMsg) (e : Nat) : State := t.totReply m 0x21 ([byteAt m.body 0] ++ toLe 2 e)

theorem State.subscribe_group (h : m.group = true) : t.subscribe m = t := if_pos h

variable (hgroup : m.group = false)
include hgroup

/-- LIFE_S 0 ends the subscription named. -/
theorem State.subscribe_end (hlife : le16 m.body 7 = 0) : t.subscribe m =
    ({ t with net := { t.net with subs := t.net.subs.filter fun x => !x.is m.src (byteAt m.body 0) } } : State).subSay m odOK := by
  have hdrop : (match t.net.subs.find? fun x => x.is m.src (byteAt m.body 0) with
      | some x => t.subDrop x
      | none => t) = { t with net := { t.net with subs := t.net.subs.filter fun x => !x.is m.src (byteAt m.body 0) } } := by
    split
    · next x hx =>
      obtain ⟨hsrc, hid⟩ := Subscr.is_iff.mp (List.find?_some (p := fun y : Subscr => y.is m.src (byteAt m.body 0)) hx)
      rw [State.subDrop, hsrc, hid]
      rfl
    · next hx =>
      have hall : t.net.subs.filter (fun x => !x.is m.src (byteAt m.body 0)) = t.net.subs :=
        List.filter_eq_self.mpr fun y hy => by simpa using List.find?_eq_none.mp hx y hy
      rw [hall]
  rw [← hdrop]
  exact (if_neg (by simp [hgroup])).trans (if_pos (by simp [hlife]))

variable (hlife : le16 m.body 7 ≠ 0)
include hlife

theorem State.subscribe_mode (hmode : 2 < byteAt m.body 1) : t.subscribe m = t.subSay m odRANGE := by
  unfold State.subscribe
  dsimp only
  rw [if_neg (by simp [hgroup]), if_neg (by simpa using hlife), if_pos hmode]
  rfl

theorem State.subscribe_entry (hmode : byteAt m.body 1 < 2) (he : (t.totGet (le16 m.body 2) (byteAt m.body 4)).1 ≠ odOK) :
    t.subscribe m = t.subSay m (t.totGet (le16 m.body 2) (byteAt m.body 4)).1 := by
  unfold State.subscribe
  dsimp only
  rw [if_neg (by simp [hgroup]), if_neg (by simpa using hlife), if_neg (by omega), if_pos hmode, if_pos (by simpa using he)]
  rfl

/-- A subscription that nothing of its own refuses: in the place of its name, or at the end where there is room. -/
theorem State.subscribe_taken (hmode : byteAt m.body 1 ≤ 2)
    (hentry : byteAt m.body 1 = 2 ∨ (t.totGet (le16 m.body 2) (byteAt m.body 4)).1 = odOK) :
    t.subscribe m = match t.subOf m with
      | some y => (t.subPut { newSub t m with
          waiting := y.waiting, resends := y.resends, queued := y.queued, last := y.last }).subSay m odOK
      | none => if 16 ≤ t.net.subs.length then t.subSay m odBUSY
          else (t.setSubs (t.net.subs ++ [newSub t m])).subSay m odOK := by
  have hok : (if byteAt m.body 1 < 2 then (t.totGet (le16 m.body 2) (byteAt m.body 4)).1 else odOK) = odOK := by
    rcases hentry with h | h
    · exact if_neg (by omega)
    · rw [h, ite_self]
  unfold State.subscribe
  dsimp only
  rw [if_neg (by simp [hgroup]), if_neg (by simpa using hlife), if_neg (by omega), hok, if_neg (by decide)]
  rfl

end

/-! ### Notifications (R405, R406) -/

section
variable {t : State} {m : TotMsg}

/-- A subscriber for whom nothing waits is sent nothing. -/
theorem State.notifyGo_none {src : Nat} (h : t.notifyQueued src = 0) : t.notifyGo src = t := by
  rw [State.notifyGo, h]
  rfl

theorem State.subPut_sole {x y : Subscr} (h : t.net.subs = [x]) (hsrc : x.src = y.src) (hid : x.id = y.id) :
    t.subPut y = { t with net := { t.net with subs := [y] } } := by
  simp [State.subPut, State.setSubs, State.updNet, h, Subscr.is, hsrc, hid]

theorem State.subDrop_sole {x : Subscr} (h : t.net.subs = [x]) : t.subDrop x = { t with net := { t.net with subs := [] } } := by
  simp [State.subDrop, State.setSubs, State.updNet, h, Subscr.is]

/-- The acknowledgement that waits. -/
theorem State.notifyAck_sole {x : Subscr} {p : List Nat} (hgroup : m.group = false) (h : t.net.subs = [x]) (hsrc : x.src = m.src)
    (hwait : x.waiting = some p) (hseq : notifySeq p = le32 m.body 0) :
    t.notifyAck m = ({ t with net := { t.net with subs := [{ x with waiting := none, resends := 0 }] } } : State).notifyGo m.src := by
  rw [← State.subPut_sole (y := { x with waiting := none, resends := 0 }) h rfl rfl]
  simp [State.notifyAck, h, hsrc, hwait, hseq, hgroup]

/-- An acknowledgement of nothing that waits. -/
theorem State.notifyAck_none (h : ∀ x ∈ t.net.subs, x.src = m.src → ∀ p, x.waiting = some p → notifySeq p ≠ le32 m.body 0) :
    t.notifyAck m = t := by
  unfold State.notifyAck
  split
  · next x hx =>
    have hwaits := List.find?_some hx
    cases hwait : x.waiting with
    | none => simp [hwait] at hwaits
    | some p =>
      simp only [hwait, Bool.and_eq_true, beq_iff_eq] at hwaits
      exact absurd hwaits.2 (h x (List.mem_of_find?_eq_some hx) hwaits.1 p hwait)
  · rfl

theorem State.notifyAck_group (h : m.group = true) : t.notifyAck m = t := by
  unfold State.notifyAck
  split
  · exact if_pos h
  · rfl

/-- Sending what is queued draws no number. -/
theorem State.nseqs_notifyPump (src fuel : Nat) : ∀ t : State, (t.notifyPump src fuel).net.nseqs = t.net.nseqs := by
  induction fuel with
  | zero => exact fun t => rfl
  | succ k ih =>
    intro t
    unfold State.notifyPump
    extract_lets kid
    split
    · rfl
    · split
      · exact (ih _).trans rfl
      · rfl

theorem State.nseqs_notifyPut (t : State) (x : Subscr) (p : List Nat) : (t.notifyPut x p).net.nseqs =
    Tab.set 0 t.net.nseqs x.src ((Tab.get 0 t.net.nseqs x.src + 1) % 4294967296) := by
  unfold State.notifyPut
  extract_lets n s1
  split <;> rfl

/-! ### The plan multicast (R407) -/

theorem State.planMcast_own (h : m.group = false) : t.planMcast m = t := by
  unfold State.planMcast
  extract_lets b s1
  exact if_pos (by simp [h])

/-- The state once the time that a plan multicast carries has been set. -/
def State.mcastTimed (t : State) (m : TotMsg) : State :=
  if le64 m.body 4 == 0 then t
  else ((t.odWrite 0x2020 1 3 (slice m.body 0 4)).2.odWrite 0x2020 2 4 (slice m.body 4 8)).2

theorem State.mcastTimed_of {v : State} (h : (le64 m.body 4 = 0 ∧ v = t) ∨ (le64 m.body 4 ≠ 0 ∧
    v = ((t.odWrite 0x2020 1 3 (slice m.body 0 4)).2.odWrite 0x2020 2 4 (slice m.body 4 8)).2)) : t.mcastTimed m = v := by
  rcases h with ⟨h, rfl⟩ | ⟨h, rfl⟩
  · exact if_pos (by simp [h])
  · exact if_neg (by simp [h])

theorem State.planMcast_short (h : m.body.length < 20) : t.planMcast m = t := by
  unfold State.planMcast
  extract_lets b s1
  exact if_pos (by simp [b, h])

/-- A plan multicast of its full length, once the time it carries has been set. -/
theorem State.planMcast_long (hgroup : m.group = true) (hlen : 20 ≤ m.body.length) :
    t.planMcast m = match planEntry (byteAt m.body 18) (t.mcastTimed m).nodeId (m.body.drop 20) with
    | none => t.mcastTimed m
    | some plan =>
      if !cycAfter (le32 m.body 12) (t.mcastTimed m).net.planSeq || (t.mcastTimed m).odReach 0x2100 true != odOK then
        t.mcastTimed m
      else (((t.mcastTimed m).planDisarm.odWrite 0x2100 0 12 plan).2).updNet fun n => { n with planSeq := le32 m.body 12 } :=
  if_neg (by simp [hgroup, hlen])

/-! ### Times that pass (R403, R405, R406) -/

theorem State.netTime_held {s : State} (h : s.coreP.refHeld = true) (g : State → State) : s.netTime g = .next s :=
  congrArg Host.Outcome.next (if_pos h)

theorem State.netTime_runs {s : State} (h : s.coreP.refHeld = false) (g : State → State) : s.netTime g = .next (g s.unsent) :=
  congrArg Host.Outcome.next (if_neg (by simp [h]))

end

end Sys2Proof.Machine
end

section
/-! PROOFS. The obligation on subscriptions and the network's times. -/

namespace Sys2Proof.Machine

open Sys2Proof

section
variable {s : State} {k : Nat}

theorem exec_netTimes_held (h : s.coreP.refHeld = true) (c : Instr)
    (hc : c ∈ [Instr.xferResendTimeout k, .xferIdleTimeout k, .notifySend k, .notifyResendTimeout k, .subscriptionExpiry k]) : exec c s = .next s := by
  simp only [List.mem_cons, List.not_mem_nil, or_false] at hc
  rcases hc with rfl | rfl | rfl | rfl | rfl
  · change execXferResendTimeout k s = _
    rw [execXferResendTimeout, State.netTime_held h]
  · change execXferIdleTimeout k s = _
    rw [execXferIdleTimeout, State.netTime_held h]
  · change execNotifySend k s = _
    rw [execNotifySend, State.netTime_held h]
  · change execNotifyResendTimeout k s = _
    rw [execNotifyResendTimeout, State.netTime_held h]
  · change execSubscriptionExpiry k s = _
    rw [execSubscriptionExpiry, State.netTime_held h]

variable (hheld : s.coreP.refHeld = false)
include hheld

/-- The time of what there is not. -/
theorem exec_netTimes_none (hsubs : s.net.subs[k]? = none) (hxfers : s.net.xfers[k]? = none) (c : Instr)
    (hc : c ∈ [Instr.xferResendTimeout k, .xferIdleTimeout k, .notifySend k, .notifyResendTimeout k, .subscriptionExpiry k]) :
    exec c s = .next s.unsent := by
  have hs : s.unsent.net.subs[k]? = none := hsubs
  have hx : s.unsent.net.xfers[k]? = none := hxfers
  simp only [List.mem_cons, List.not_mem_nil, or_false] at hc
  rcases hc with rfl | rfl | rfl | rfl | rfl
  · change execXferResendTimeout k s = _
    rw [execXferResendTimeout, State.netTime_runs hheld]
    simp only [hx]
  · change execXferIdleTimeout k s = _
    rw [execXferIdleTimeout, State.netTime_runs hheld]
    simp only [hx]
  · change execNotifySend k s = _
    rw [execNotifySend, State.netTime_runs hheld]
    simp only [hs]
  · change execNotifyResendTimeout k s = _
    rw [execNotifyResendTimeout, State.netTime_runs hheld]
    simp only [hs]
  · change execSubscriptionExpiry k s = _
    rw [execSubscriptionExpiry, State.netTime_runs hheld]
    simp only [hs]

section
variable {x : Xfer} (hx : s.net.xfers[k]? = some x)
include hx

theorem exec_resend_in (hout : x.out = false) : exec (.xferResendTimeout k) s = .next s.unsent := by
  have hx' : s.unsent.net.xfers[k]? = some x := hx
  change execXferResendTimeout k s = _
  rw [execXferResendTimeout, State.netTime_runs hheld]
  refine congrArg Host.Outcome.next ?_
  simp only [hx', hout, Bool.not_false, if_true]

theorem exec_resend_again (hout : x.out = true) (hleft : x.resends < s.objNum 0x1036 0 3 % 256) :
    exec (.xferResendTimeout k) s = .next ((s.unsent.xferPut { x with resends := x.resends + 1 }).xferWindow x) := by
  have hx' : s.unsent.net.xfers[k]? = some x := hx
  change execXferResendTimeout k s = _
  rw [execXferResendTimeout, State.netTime_runs hheld]
  refine congrArg Host.Outcome.next ?_
  simp only [hx', hout, Bool.not_true, Bool.false_eq_true, if_false]
  exact if_pos hleft

theorem exec_resend_aborts (hout : x.out = true) (hleft : s.objNum 0x1036 0 3 % 256 ≤ x.resends) :
    exec (.xferResendTimeout k) s = .next ((s.unsent.xferDrop x).xferSend x 0x14 (toLe 2 odTIMEOUT)) := by
  have hx' : s.unsent.net.xfers[k]? = some x := hx
  change execXferResendTimeout k s = _
  rw [execXferResendTimeout, State.netTime_runs hheld]
  refine congrArg Host.Outcome.next ?_
  simp only [hx', hout, Bool.not_true, Bool.false_eq_true, if_false]
  exact if_neg (Nat.not_lt.mpr hleft)

theorem exec_idle_host (hhost : x.host = true) : exec (.xferIdleTimeout k) s = .next s.unsent := by
  have hx' : s.unsent.net.xfers[k]? = some x := hx
  change execXferIdleTimeout k s = _
  rw [execXferIdleTimeout, State.netTime_runs hheld]
  refine congrArg Host.Outcome.next ?_
  simp only [hx', hhost, if_true]

theorem exec_idle_aborts (hhost : x.host = false) :
    exec (.xferIdleTimeout k) s = .next ((s.unsent.xferDrop x).xferSend x 0x14 (toLe 2 odTIMEOUT)) := by
  have hx' : s.unsent.net.xfers[k]? = some x := hx
  change execXferIdleTimeout k s = _
  rw [execXferIdleTimeout, State.netTime_runs hheld]
  refine congrArg Host.Outcome.next ?_
  simp only [hx', hhost, Bool.false_eq_true, if_false]

end

section
variable {x : Subscr} (hx : s.net.subs[k]? = some x)
include hx

theorem exec_notifySend_due : exec (.notifySend k) s = .next (s.unsent.notifyDue x) := by
  have hx' : s.unsent.net.subs[k]? = some x := hx
  change execNotifySend k s = _
  rw [execNotifySend, State.netTime_runs hheld]
  refine congrArg Host.Outcome.next ?_
  simp only [hx']

theorem exec_expiry : exec (.subscriptionExpiry k) s = .next ((s.unsent.subDrop x).notifyGo x.src) := by
  have hx' : s.unsent.net.subs[k]? = some x := hx
  change execSubscriptionExpiry k s = _
  rw [execSubscriptionExpiry, State.netTime_runs hheld]
  refine congrArg Host.Outcome.next ?_
  simp only [hx']

theorem exec_notifyResend_none (hwait : x.waiting = none) : exec (.notifyResendTimeout k) s = .next s.unsent := by
  have hx' : s.unsent.net.subs[k]? = some x := hx
  change execNotifyResendTimeout k s = _
  rw [execNotifyResendTimeout, State.netTime_runs hheld]
  refine congrArg Host.Outcome.next ?_
  simp only [hx', hwait]

variable {p : List Nat} (hwait : x.waiting = some p)
include hwait

theorem exec_notifyResend_keyless (hkey : s.totKey (s.objNum 0x1034 0 0 % 256) = none) :
    exec (.notifyResendTimeout k) s = .next (s.unsent.netCount 7) := by
  have hx' : s.unsent.net.subs[k]? = some x := hx
  have hkey' : s.unsent.totKey (s.unsent.objNum 0x1034 0 0 % 256) = none := hkey
  change execNotifyResendTimeout k s = _
  rw [execNotifyResendTimeout, State.netTime_runs hheld]
  refine congrArg Host.Outcome.next ?_
  simp only [hx', hwait, hkey']
  rfl

variable {key : List Nat} (hkey : s.totKey (s.objNum 0x1034 0 0 % 256) = some key)
include hkey

theorem exec_notifyResend_again (hleft : x.resends < s.objNum 0x1036 0 3 % 256) :
    exec (.notifyResendTimeout k) s = .next ((s.unsent.subPut { x with resends := x.resends + 1 }).totSend
      0x22 x.src (s.objNum 0x1034 0 0 % 256) (b2n x.conf) (notifySeq p) key p) := by
  have hx' : s.unsent.net.subs[k]? = some x := hx
  have hkey' : s.unsent.totKey (s.unsent.objNum 0x1034 0 0 % 256) = some key := hkey
  change execNotifyResendTimeout k s = _
  rw [execNotifyResendTimeout, State.netTime_runs hheld]
  refine congrArg Host.Outcome.next ?_
  simp only [hx', hwait, hkey']
  rw [if_neg (by simp), if_pos (show x.resends < s.unsent.objNum 0x1036 0 3 % 256 from hleft), State.totOut]
  change (match (s.unsent.totKey (s.unsent.objNum 0x1034 0 0 % 256)) with
    | some key => _
    | none => _) = _
  rw [hkey', ← hwait]
  rfl

theorem exec_notifyResend_drops (hleft : s.objNum 0x1036 0 3 % 256 ≤ x.resends) :
    exec (.notifyResendTimeout k) s = .next ((s.unsent.subDrop x).notifyGo x.src) := by
  have hx' : s.unsent.net.subs[k]? = some x := hx
  have hkey' : s.unsent.totKey (s.unsent.objNum 0x1034 0 0 % 256) = some key := hkey
  change execNotifyResendTimeout k s = _
  rw [execNotifyResendTimeout, State.netTime_runs hheld]
  refine congrArg Host.Outcome.next ?_
  simp only [hx', hwait, hkey']
  rw [if_neg (by simp), if_neg (show ¬ x.resends < s.unsent.objNum 0x1036 0 3 % 256 from Nat.not_lt.mpr hleft)]

end
end

/-- Settles O47: the messages that FAILSAFE does not serve, each by its function; and each time that passes, by what it finds. -/
theorem totSubscriptionsAndTimes : Obligations.TotSubscriptionsAndTimes := by
  unfold Obligations.TotSubscriptionsAndTimes
  refine ⟨?_, ?_, ?_, ?_, ?_, ?_, ?_, ?_, ?_, ?_, ?_, ?_, ?_, ?_, ?_, ?_, ?_, ?_, ?_, ?_, ?_⟩
  · intro s t d m c hheld hopen hc
    by_cases hmode : s.mode = mdFAILSAFE
    · rcases hc with ⟨h, rfl, -⟩ | ⟨h, rfl, -⟩ | ⟨h, rfl, -⟩ | ⟨-, ⟨h, rfl⟩ | ⟨h, rfl⟩ | ⟨h, rfl⟩⟩
      · exact exec_unserved hheld hopen (by decide) h (isTot_subscribe h) hmode
      · exact exec_unserved hheld hopen (by decide) h (isTot_planMcast h) hmode
      · exact exec_unserved hheld hopen (by decide) h (isTot_notifyAck h) hmode
      · exact exec_unserved hheld hopen (by decide) h (isTot_subscribe h) hmode
      · exact exec_unserved hheld hopen (by decide) h (isTot_notifyAck h) hmode
      · exact exec_unserved hheld hopen (by decide) h (isTot_planMcast h) hmode
    · rcases hc with ⟨h, rfl, hgroup⟩ | ⟨h, rfl, hgroup⟩ | ⟨h, rfl, hgroup⟩ | ⟨hfail, -⟩
      · rw [exec_subscribe_open hheld hopen hmode h, State.subscribe_group hgroup]
      · rw [exec_planMcast_open hheld hopen hmode h, State.planMcast_own hgroup]
      · rw [exec_notifyAck_open hheld hopen hmode h, State.notifyAck_group hgroup]
      · exact absurd hfail hmode
  · intro s t d m hheld hmode hopen hty hgroup hm hentry hlife hnone hroom
    rw [exec_subscribe_open hheld hopen hmode hty, State.subscribe_taken hgroup hlife hm hentry, State.subOf, hnone]
    exact congrArg Host.Outcome.next (if_neg (Nat.not_le.mpr hroom))
  · intro s t d m x y hheld hmode hopen hty hgroup hm hentry hlife hsome hx
    rw [exec_subscribe_open hheld hopen hmode hty, State.subscribe_taken hgroup hlife hm hentry, State.subOf, hsome, hx]
    rfl
  · intro s t d m e hheld hmode hopen hty hgroup hlife h
    rw [exec_subscribe_open hheld hopen hmode hty]
    rcases h with ⟨hm, rfl⟩ | ⟨hm, rfl, he⟩ | ⟨hm, hnone, hfull, rfl⟩
    · rw [State.subscribe_mode hgroup hlife hm, State.subSay]
    · rw [State.subscribe_entry hgroup hlife hm he, State.subSay]
    · rw [State.subscribe_taken hgroup hlife hm.le (.inl hm), State.subOf, hnone]
      exact congrArg Host.Outcome.next (if_pos hfull)
  · intro s t d m hheld hmode hopen hty hgroup hlife
    rw [exec_subscribe_open hheld hopen hmode hty, State.subscribe_end hgroup hlife, State.subSay]
  · intro s t d p m x hheld hmode hopen hty hgroup hsole hsrc hwait hseq hqueue
    rw [exec_notifyAck_open hheld hopen hmode hty, State.notifyAck_sole hgroup hsole hsrc hwait hseq, State.notifyGo_none]
    simp [State.notifyQueued, hqueue]
  · intro s t d p m x hheld hmode hopen hty hgroup hsole hsrc hwait hseq
    rw [exec_notifyAck_open hheld hopen hmode hty, State.notifyAck_sole hgroup hsole hsrc hwait hseq]
  · intro s t d m hheld hmode hopen hty hgroup h
    rw [exec_notifyAck_open hheld hopen hmode hty, State.notifyAck_none h]
  · intro s t d m hheld hmode hopen hty hgroup h
    rw [exec_planMcast_open hheld hopen hmode hty, State.planMcast_short h]
  · intro s t v d m hheld hmode hopen hty hgroup hlen hv h
    rw [exec_planMcast_open hheld hopen hmode hty, State.planMcast_long hgroup hlen, State.mcastTimed_of hv]
    split
    · rfl
    · next p hp =>
      rw [if_pos]
      rcases h with h | h | h
      · rw [h] at hp; cases hp
      · simp [h]
      · simp [h]
  · intro s t v w d p m hheld hmode hopen hty hgroup hlen hv hp hafter hreach hw
    rw [exec_planMcast_open hheld hopen hmode hty, State.planMcast_long hgroup hlen, State.mcastTimed_of hv, hp]
    dsimp only
    rw [if_neg (by simp [hafter, hreach]), ← hw]
    rfl
  · exact fun s k hheld c hc => exec_netTimes_held hheld c hc
  · exact fun s k hheld hsubs hxfers c hc => exec_netTimes_none hheld (List.getElem?_eq_none hsubs) (List.getElem?_eq_none hxfers) c hc
  · intro s x hheld hsole hout hhost hleft
    rw [exec_resend_again hheld (by rw [hsole]; rfl) hout hleft, State.xferPut_sole (t := s.unsent) (x := x) (y := { x with resends := x.resends + 1 }) hsole (Xfer.is_self hhost)]
  · intro s k x hheld hx
    exact ⟨exec_resend_in hheld hx, exec_resend_again hheld hx, exec_resend_aborts hheld hx, exec_idle_host hheld hx,
      exec_idle_aborts hheld hx⟩
  · intro s x hheld hsole hhost
    rw [exec_idle_aborts hheld (by rw [hsole]; rfl) hhost, State.xferDrop_sole (t := s.unsent) hsole (Xfer.is_self hhost)]
  · intro s x hheld hsole hm
    refine ⟨_, exec_notifySend_due hheld (by rw [hsole]; rfl), ?_⟩
    rw [State.notifyDue, if_neg (by simp [hm])]
    dsimp only
    rw [if_neg (by simp [hm]), State.notifyGo, State.nseqs_notifyPump, State.nseqs_notifyPut, Tab.get_set_same]
    rfl
  · intro s k x p hheld hx hp
    rw [exec_notifySend_due hheld hx, State.notifyDue, hp]
    refine ⟨fun hm => by rw [if_pos (by simp [hm])], fun hm hlast => ?_, fun hm hlast => ?_⟩
    · rw [if_neg (by simp [hm])]
      exact congrArg Host.Outcome.next (if_pos (by simp [hm, hlast]))
    · rw [if_neg (by simpa using hm)]
      exact congrArg Host.Outcome.next (if_neg (by simpa [Decidable.imp_iff_not_or] using hlast))
  · intro s x p key hheld hsole hwait hkey hleft
    rw [exec_notifyResend_again hheld (by rw [hsole]; rfl) hwait hkey hleft, State.subPut_sole (t := s.unsent) (y := { x with resends := x.resends + 1 }) hsole rfl rfl]
  · intro s k x hheld hx
    exact ⟨exec_notifyResend_none hheld hx, fun p hw hk => exec_notifyResend_keyless hheld hx hw hk,
      fun p key hw hk hl => exec_notifyResend_again hheld hx hw hk hl,
      fun p key hw hk hl => exec_notifyResend_drops hheld hx hw hk hl, exec_expiry hheld hx⟩
  · intro s x hheld hsole
    rw [exec_expiry hheld (by rw [hsole]; rfl), State.subDrop_sole (t := s.unsent) hsole, State.notifyGo_none (by rfl)]

end Sys2Proof.Machine
end

section
/-! PROOFS. R417 to R426: Host Link transactions and the checks of a frame. -/

namespace Sys2Proof.Machine

open Sys2Proof

/-! ### The end of a transaction and an accepted frame -/

section
variable (s : State)

theorem State.get_hlShow {f : Fld} {n : Nat} (h : f.clear n [HLK.STATE_READY, HLK.STATE_OUTSTANDING] 0) :
    s.hlShow.get f n = s.get f n := by
  rw [State.hlShow, State.get_set_clear h (by decide), State.get_set_clear h (by decide)]

theorem State.get_hlEnd {f : Fld} {n : Nat} (h : f.clear n [HLK.STATE_READY, HLK.STATE_OUTSTANDING] 0) (k : Nat) :
    (s.hlEnd k).get f n = s.get f n := (State.get_hlShow _ h).trans rfl

theorem State.mem_hlEnd (k : Nat) : (s.hlEnd k).mem = s.mem := rfl

/-- The result that the reply carried is delivered by exactly 512 clocks (R423). -/
theorem State.results_hlEnd (k : Nat) : (s.hlEnd k).hlk.results = s.hlk.results.drop (b2n (s.hlk.carries && k == 512)) := by
  have hres : (s.hlEnd k).hlk.results = if (s.hlk.carries && k == 512) = true then s.hlk.results.drop 1 else s.hlk.results := rfl
  rw [hres]
  cases s.hlk.carries && k == 512 <;> rfl

theorem State.seen_hlEnd (k : Nat) : (s.hlEnd k).hlk.seen = s.hlk.seen := rfl

theorem State.hlTypeOk_hlEnd (k : Nat) (f : List Nat) : (s.hlEnd k).hlTypeOk f = s.hlTypeOk f := by
  simp only [State.hlTypeOk, State.on, State.get_hlEnd _ (Fld.clear_of_apart (f := HLK.CTRL_WR_EN) (by decide) _ _),
    State.get_hlEnd _ (Fld.clear_of_apart (f := HLK.CTRL_OBJ_EN) (by decide) _ _)]

/-- What an accepted frame may change of the registers. -/
def hlAcceptFlds : List Fld := [HLK.STATUS_FRAME_OK, HLK.STATE_LAST_ALIVE, HLK.CNT_OK_COUNT, HLK.STATUS_SAT]

theorem State.get_hlAccept {f : Fld} {n : Nat} (h : f.clear n hlAcceptFlds 0) (b : List Nat) : (s.hlAccept b).get f n = s.get f n := by
  rw [State.hlAccept, State.get_bump_clear h (by decide) (by decide), State.get_set_clear h (by decide),
    State.get_set_clear h (by decide)]
  rfl

theorem State.hlk_bump (c d : Fld) (n k : Nat) : (s.bump c d n k).hlk = s.hlk := by
  unfold State.bump
  split <;> rfl

theorem State.mem_bump (c d : Fld) (n k : Nat) : (s.bump c d n k).mem = s.mem := by
  unfold State.bump
  split <;> rfl

theorem State.hlk_hlAccept (b : List Nat) : (s.hlAccept b).hlk = { s.hlk with flags := 0, seen := true } := by
  rw [State.hlAccept, State.hlk_bump]
  rfl

theorem State.mem_hlAccept (b : List Nat) : (s.hlAccept b).mem = s.mem := by
  rw [State.hlAccept, State.mem_bump]
  rfl

/-- The state in which an accepted frame is served. -/
def State.hlServed (s : State) (f : List Nat) : State := (s.hlEnd 512).hlAccept f

/-- What a transaction whose frame is accepted may change of the registers. -/
def hlServedFlds : List Fld := hlAcceptFlds ++ [HLK.STATE_READY, HLK.STATE_OUTSTANDING]

theorem State.get_hlServed {g : Fld} {n : Nat} (h : g.clear n hlServedFlds 0) (f : List Nat) :
    (s.hlServed f).get g n = s.get g n := by
  have hend : g.clear n [HLK.STATE_READY, HLK.STATE_OUTSTANDING] 0 := fun e he => h e (List.mem_append_right _ he)
  have hacc : g.clear n hlAcceptFlds 0 := fun e he => h e (List.mem_append_left _ he)
  rw [State.hlServed, State.get_hlAccept _ hacc, State.get_hlEnd _ hend]

theorem State.mem_hlServed (f : List Nat) : (s.hlServed f).mem = s.mem := by
  rw [State.hlServed, State.mem_hlAccept, State.mem_hlEnd]

theorem State.results_hlServed (f : List Nat) : (s.hlServed f).hlk.results = s.hlk.results.drop (b2n s.hlk.carries) := by
  have hacc : (s.hlServed f).hlk.results = (s.hlEnd 512).hlk.results := by rw [State.hlServed, State.hlk_hlAccept]
  rw [hacc, State.results_hlEnd]
  simp

/-- The figures of an accepted frame. -/
theorem State.hlServed_shows (f : List Nat) : (s.hlServed f).get HLK.STATUS_FRAME_OK = 1 ∧
    (s.hlServed f).get HLK.STATE_LAST_ALIVE = byteAt f 0 % 256 ∧
    (s.hlServed f).get HLK.CNT_OK_COUNT = min (s.get HLK.CNT_OK_COUNT + 1) 0xFFFFFFFF := by
  unfold State.hlServed State.hlAccept
  refine ⟨?_, ?_, ?_⟩
  · rw [State.get_bump_apart _ (by decide) (by decide), State.get_set_fits _ (by decide)]
  · rw [State.get_bump_apart _ (by decide) (by decide), State.get_set_apart _ (by decide), State.get_set_same]
    rfl
  · rw [State.get_bump_min _ _ (by decide) (by decide), State.get_set_apart _ (by decide), State.get_set_apart _ (by decide), min_comm]
    exact congrArg (fun x => min (x + 1) 0xFFFFFFFF) (s.get_hlEnd (Fld.clear_of_apart (by decide) _ _) 512)

end

/-! ### Frames checked (R422) -/

section
variable {s : State} {f : List Nat}

theorem exec_regRead_frame (f : List Nat) (s : State) : exec (.regRead f) s = s.hlFrame 0x11 f fun t =>
    t.hlWords f (some (le32 f 4)) (List.replicate (byteAt f 3) none) true := rfl

theorem exec_regWriteAt_frame (f : List Nat) (s : State) : exec (.regWriteAt f) s = s.hlFrame 0x12 f fun t =>
    t.hlWords f (some (le32 f 4)) (hlPayload f 8) false := rfl

theorem exec_regWriteNext_frame (f : List Nat) (s : State) : exec (.regWriteNext f) s = s.hlFrame 0x13 f fun t =>
    t.hlWords f t.hlPtr (hlPayload f 4) false := rfl

theorem exec_objRead_frame (f : List Nat) (s : State) : exec (.objRead f) s = s.hlFrame 0x20 f fun t => .next (t.hlObjRead f) := rfl

theorem exec_objWrite_frame (f : List Nat) (s : State) : exec (.objWrite f) s = s.hlFrame 0x21 f fun t => .next (t.hlObjWrite f) := rfl

theorem exec_hlNop_frame (f : List Nat) (s : State) : exec (.hlNop f) s = s.hlFrame 0x00 f fun t => .next t := rfl

theorem exec_hlSync_frame (f : List Nat) (s : State) : exec (.hlSync f) s = s.hlFrame 0x01 f fun t => .next t := rfl

/-- The frames of R426, each with its TYPE. -/
theorem exec_hlFrame {ty : Nat} {c : Instr} (hc : (ty, c) ∈ [(0x00, Instr.hlNop f), (0x01, .hlSync f), (0x11, .regRead f),
    (0x12, .regWriteAt f), (0x13, .regWriteNext f), (0x20, .objRead f), (0x21, .objWrite f)]) :
    ∃ g, ∀ s : State, exec c s = s.hlFrame ty f g := by
  simp only [List.mem_cons, Prod.mk.injEq, List.not_mem_nil, or_false] at hc
  rcases hc with ⟨rfl, rfl⟩ | ⟨rfl, rfl⟩ | ⟨rfl, rfl⟩ | ⟨rfl, rfl⟩ | ⟨rfl, rfl⟩ | ⟨rfl, rfl⟩ | ⟨rfl, rfl⟩
  · exact ⟨_, exec_hlNop_frame f⟩
  · exact ⟨_, exec_hlSync_frame f⟩
  · exact ⟨_, exec_regRead_frame f⟩
  · exact ⟨_, exec_regWriteAt_frame f⟩
  · exact ⟨_, exec_regWriteNext_frame f⟩
  · exact ⟨_, exec_objRead_frame f⟩
  · exact ⟨_, exec_objWrite_frame f⟩

theorem State.hlFrame_off (h : s.hlOn = false) (ty : Nat) (g : State → Out) : s.hlFrame ty f g = .next s := if_pos (by simp [h])

theorem State.hlFrame_other {ty : Nat} (h : byteAt f 1 ≠ ty) (g : State → Out) : s.hlFrame ty f g = .next s := if_pos (by simp [h])

section
variable (hon : s.hlOn = true) {ty : Nat} (hty : byteAt f 1 = ty)
include hon hty

theorem State.hlFrame_rejected {p : Nat × Fld} (h : (s.hlEnd 512).hlCheck 512 f = some p) (g : State → Out) :
    s.hlFrame ty f g = .next ((s.hlEnd 512).hlReject p.1 p.2) := by
  rw [State.hlFrame, if_neg (by simp [hon, hty])]
  dsimp only
  rw [h]

theorem State.hlFrame_served (h : (s.hlEnd 512).hlCheck 512 f = none) (g : State → Out) :
    s.hlFrame ty f g = g (s.hlServed f) := by
  rw [State.hlFrame, if_neg (by simp [hon, hty])]
  dsimp only
  rw [h, State.hlServed]

end

/-- A transaction whose frame fails a check. -/
theorem exec_hlFrameReject (hon : s.hlOn = true) {k : Nat} {p : Nat × Fld} (h : (s.hlEnd k).hlCheck k f = some p) :
    exec (.hlFrameReject k f) s = .next ((s.hlEnd k).hlReject p.1 p.2) := by
  have hexec : exec (.hlFrameReject k f) s = execHlFrameReject k f s := rfl
  rw [hexec, execHlFrameReject, if_neg (by simp [hon])]
  dsimp only
  rw [h]

theorem exec_hlFrameReject_none (hon : s.hlOn = true) {k : Nat} (h : (s.hlEnd k).hlCheck k f = none) :
    exec (.hlFrameReject k f) s = .next s := by
  have hexec : exec (.hlFrameReject k f) s = execHlFrameReject k f s := rfl
  rw [hexec, execHlFrameReject, if_neg (by simp [hon])]
  dsimp only
  rw [h]

/-- A frame that a check rejects, other than BUSY, sets one flag and one status bit and is counted. -/
theorem State.hlReject_once {bit : Nat} (h : bit ≠ 4) (g : Fld) : s.hlReject bit g =
    (({ s with hlk := { s.hlk with flags := 2 ^ bit } } : State).set g 1).bump HLK.CNT_REJ_COUNT HLK.STATUS_SAT :=
  if_neg (by simpa using h)

/-- The checks after the length, the CRC right. -/
theorem State.hlCheck_whole (hlen : f.length = 64) (hcrc : crc32c (f.take 60) = le32 f 60) : s.hlCheck 512 f =
    if s.hlk.seen && byteAt f 1 != 1 && byteAt f 0 != (s.get HLK.STATE_LAST_ALIVE + 1) % 256 then some (1, HLK.STATUS_BAD_ALIVE)
    else if 8 ≤ s.hlk.results.length then some (4, HLK.STATUS_BUSY)
    else if !s.hlTypeOk f then some (5, HLK.STATUS_BAD_TYPE)
    else none := by
  rw [State.hlCheck, if_neg (by decide), if_neg (by decide), if_neg (by simp [hlen, hcrc])]

theorem State.hlCheck_alive (hlen : f.length = 64) (hcrc : crc32c (f.take 60) = le32 f 60)
    (h : s.hlk.seen = false ∨ byteAt f 1 = 1 ∨ byteAt f 0 = (s.get HLK.STATE_LAST_ALIVE + 1) % 256) : s.hlCheck 512 f =
    if 8 ≤ s.hlk.results.length then some (4, HLK.STATUS_BUSY)
    else if !s.hlTypeOk f then some (5, HLK.STATUS_BAD_TYPE)
    else none := by
  rw [State.hlCheck_whole hlen hcrc, if_neg]
  rcases h with h | h | h <;> simp [h]

/-- A frame accepted passed the check of its TYPE. -/
theorem State.hlTypeOk_of_accepted (h : (s.hlEnd 512).hlCheck 512 f = none) : s.hlTypeOk f = true := by
  unfold State.hlCheck at h
  rw [if_neg (by decide), if_neg (by decide)] at h
  split at h
  · cases h
  · split at h
    · cases h
    · split at h
      · cases h
      · split at h
        · cases h
        · next hok => simpa [State.hlTypeOk_hlEnd] using hok

/-- The first failing check but BUSY, in order. -/
theorem State.hlCheck_fails {t : State} {k bit : Nat} {g : Fld} (ht : s.hlEnd k = t)
    (h : (k < 512 ∧ bit = 2 ∧ g = HLK.STATUS_SHORT) ∨ (512 < k ∧ bit = 3 ∧ g = HLK.STATUS_LONG) ∨
      (k = 512 ∧ (f.length ≠ 64 ∨ crc32c (f.take 60) ≠ le32 f 60) ∧ bit = 0 ∧ g = HLK.STATUS_BAD_CRC) ∨
      (k = 512 ∧ f.length = 64 ∧ crc32c (f.take 60) = le32 f 60 ∧ s.hlk.seen = true ∧ byteAt f 1 ≠ 1 ∧
        byteAt f 0 ≠ (s.get HLK.STATE_LAST_ALIVE + 1) % 256 ∧ bit = 1 ∧ g = HLK.STATUS_BAD_ALIVE) ∨
      (k = 512 ∧ f.length = 64 ∧ crc32c (f.take 60) = le32 f 60 ∧ (s.hlk.seen = false ∨ byteAt f 1 = 1 ∨
        byteAt f 0 = (s.get HLK.STATE_LAST_ALIVE + 1) % 256) ∧ t.hlk.results.length < 8 ∧ s.hlTypeOk f = false ∧ bit = 5 ∧
        g = HLK.STATUS_BAD_TYPE)) : t.hlCheck k f = some (bit, g) ∧ bit ≠ 4 := by
  have hseen : t.hlk.seen = s.hlk.seen := by rw [← ht, State.seen_hlEnd]
  have halive : t.get HLK.STATE_LAST_ALIVE = s.get HLK.STATE_LAST_ALIVE := by
    rw [← ht, State.get_hlEnd _ (Fld.clear_of_apart (by decide) _ _)]
  have htype : t.hlTypeOk f = s.hlTypeOk f := by rw [← ht, State.hlTypeOk_hlEnd]
  rcases h with ⟨hk, rfl, rfl⟩ | ⟨hk, rfl, rfl⟩ | ⟨rfl, hbad, rfl, rfl⟩ | ⟨rfl, hlen, hcrc, hs, h1, h0, rfl, rfl⟩ |
    ⟨rfl, hlen, hcrc, hs, hroom, hbad, rfl, rfl⟩
  · exact ⟨if_pos hk, by decide⟩
  · exact ⟨(if_neg (by omega)).trans (if_pos hk), by decide⟩
  · exact ⟨(if_neg (by decide)).trans ((if_neg (by decide)).trans (if_pos (by simpa using hbad))), by decide⟩
  · rw [State.hlCheck_whole hlen hcrc, if_pos (by simp [hseen, hs, h1, halive, h0])]
    exact ⟨rfl, by decide⟩
  · rw [State.hlCheck_alive hlen hcrc (by rw [hseen, halive]; exact hs), if_neg (by omega), if_pos (by simp [htype, hbad])]
    exact ⟨rfl, by decide⟩

end

end Sys2Proof.Machine
end

section
/-! PROOFS. R427 to R430: register frames along the block pointer. -/

namespace Sys2Proof.Machine

open Sys2Proof

/-! ### Results and words -/

/-- A frame condition by fields whose keys are apart from all those of a list. -/
theorem regsSame_of_clear {s t : State} {l : List Fld} (h : ∀ (f : Fld) (n : Nat), f.clear n l 0 → t.get f n = s.get f n) :
    regsSame s t (l.map fun g => g.key 0) :=
  fun f n hf => h f n fun _ hg heq => hf (heq ▸ List.mem_map_of_mem hg)

section
variable (s : State) (f : List Nat)

theorem State.get_hlResult {g : Fld} {n : Nat} (h : g.clear n [HLK.STATE_READY, HLK.STATE_OUTSTANDING] 0) (eob : Bool)
    (body : List Nat) : (s.hlResult f eob body).get g n = s.get g n := (State.get_hlShow _ h).trans rfl

theorem State.results_hlResult (eob : Bool) (body : List Nat) : (s.hlResult f eob body).hlk.results =
    s.hlk.results ++ [{ typ := byteAt f 1, tag := byteAt f 2, eob := eob, body := body }] := rfl

theorem State.mem_hlResult (eob : Bool) (body : List Nat) : (s.hlResult f eob body).mem = s.mem := rfl

/-- Without a pointer the words that are left do nothing. -/
theorem State.hlWord_stopped {p : State × HlRun} (h : p.2.ptr = none) (ws : List (Option Nat)) : ws.foldl State.hlWord p = p := by
  induction ws with
  | nil => rfl
  | cons w ws ih =>
    have hw : State.hlWord p w = p := by
      unfold State.hlWord
      rw [h]
    rw [List.foldl_cons, hw, ih]

/-- A word's access on the bus: read, or written. -/
def State.hlAccess (s : State) (a : Nat) (w : Option Nat) : BusRes × State :=
  match w with
  | some v => s.busWrite .hostLink a 4 v
  | none => s.busRead .hostLink a 4

variable {s f}

theorem State.hlWord_ok {a v : Nat} {u : State} {w : Option Nat} (h : s.hlAccess a w = (.ok v, u)) :
    State.hlWord (s, { ptr := some a }) w = (u, { ptr := nextAddr a, done := 1, vals := [v] }) := by
  cases w with
  | none =>
    have hb : s.busRead .hostLink a 4 = (.ok v, u) := h
    simp only [State.hlWord, hb]
    rfl
  | some x =>
    have hb : s.busWrite .hostLink a 4 x = (.ok v, u) := h
    simp only [State.hlWord, hb]
    rfl

theorem State.hlWord_error {a : Nat} {u : State} {w : Option Nat} (h : s.hlAccess a w = (.error, u)) :
    State.hlWord (s, { ptr := some a }) w = (u, { ptr := none, fault := some 0 }) := by
  cases w with
  | none =>
    have hb : s.busRead .hostLink a 4 = (.error, u) := h
    simp only [State.hlWord, hb]
  | some x =>
    have hb : s.busWrite .hostLink a 4 x = (.error, u) := h
    simp only [State.hlWord, hb]

/-- One word done, the pointer at the next. -/
theorem State.hlWords_one {a v b : Nat} {u : State} {w : Option Nat} (h : s.hlAccess a w = (.ok v, u)) (hb : nextAddr a = some b)
    (read : Bool) : s.hlWords f (some a) [w] read =
      .next (((u.set HLK.STATE_PTR_VALID 1).set HLK.PTR_ADDR b).hlResult f false (if read then toLe 4 v else toLe 4 1)) := by
  have hone : [w].foldl State.hlWord (s, { ptr := some a }) = (u, { ptr := some b, done := 1, vals := [v] }) := by
    rw [List.foldl_cons, State.hlWord_ok h, hb, List.foldl_nil]
  unfold State.hlWords
  rw [hone]
  cases read with
  | true => simp [b2n]
  | false => rfl

/-- A bus error at the first word: the rest is not done. -/
theorem State.hlWords_error {a : Nat} {u : State} {w : Option Nat} (h : s.hlAccess a w = (.error, u)) (ws : List (Option Nat))
    (read : Bool) : s.hlWords f (some a) (w :: ws) read =
      .next (((((u.set HLK.STATE_PTR_VALID 0).set HLK.STATUS_BUS_ERR 1).bump HLK.CNT_BUSERR_COUNT HLK.STATUS_SAT).set
        HLK.ERR_INFO_ERR 2147483648).hlResult f false (if read then [] else toLe 4 2147483648)) := by
  have hall : (w :: ws).foldl State.hlWord (s, { ptr := some a }) = (u, { ptr := none, fault := some 0 }) := by
    rw [List.foldl_cons, State.hlWord_error h, State.hlWord_stopped rfl]
  unfold State.hlWords
  rw [hall]
  cases read <;> rfl

/-- Without a valid pointer nothing is written, and the block has ended. -/
theorem State.hlWords_none (ws : List (Option Nat)) :
    s.hlWords f none ws false = .next ((s.set HLK.STATE_PTR_VALID 0).hlResult f true (toLe 4 0)) := by
  unfold State.hlWords
  rw [State.hlWord_stopped rfl]
  rfl

/-! ### One word of system SRAM -/

theorem nextAddr_sram {a : Nat} (hlo : 0x10000000 ≤ a) (hhi : a < 0x103FFFFC) : nextAddr a = some (a + 4) := by
  simp [nextAddr, mapRow_sram hlo (by omega : a < 0x10400000), mapRow_sram (by omega : 0x10000000 ≤ a + 4) (by omega : a + 4 < 0x10400000)]

theorem State.hlAccess_sram {a : Nat} (hlo : 0x10000000 ≤ a) (hhi : a < 0x10400000) (ha : a % 4 = 0) :
    (∀ s : State, s.hlAccess a none = (.ok (s.rd32 a), s)) ∧
      (∀ (s : State) (v : Nat), s.hlAccess a (some v) = (.ok 0, s.wrBytes a (toLe 4 v))) := by
  refine ⟨fun s => ?_, fun s v => ?_⟩
  · simp [State.hlAccess, State.busRead, State.busRead1, mapOk_sram (m := .hostLink) (by decide) hlo hhi,
      busAligned_of_mod (w := 4) (by decide) ha, mapRow_sram hlo hhi, State.rd32]
  · simp [State.hlAccess, State.busWrite, State.busWrite1, mapOk_sram (m := .hostLink) (by decide) hlo hhi,
      busAligned_of_mod (w := 4) (by decide) ha, mapRow_sram hlo hhi]

/-- What a register frame of one sound word leaves. -/
theorem State.hlWorded_shows (u : State) {b : Nat} (hb : b < 4294967296) (body : List Nat) :
    (((u.set HLK.STATE_PTR_VALID 1).set HLK.PTR_ADDR b).hlResult f false body).get HLK.PTR_ADDR = b ∧
      (((u.set HLK.STATE_PTR_VALID 1).set HLK.PTR_ADDR b).hlResult f false body).get HLK.STATE_PTR_VALID = 1 := by
  have hw : b < 2 ^ HLK.PTR_ADDR.width := hb
  refine ⟨?_, ?_⟩
  · rw [State.get_hlResult _ _ (Fld.clear_of_apart (by decide) _ _), State.get_set_fits _ hw]
  · rw [State.get_hlResult _ _ (Fld.clear_of_apart (by decide) _ _), State.get_set_apart _ (by decide), State.get_set_fits _ (by decide)]

/-- The registers of a register frame without a bus error. -/
def hlWordFlds : List Fld := [HLK.STATUS_FRAME_OK, HLK.STATE_LAST_ALIVE, HLK.CNT_OK_COUNT, HLK.STATUS_SAT, HLK.STATE_READY,
  HLK.STATE_OUTSTANDING, HLK.PTR_ADDR, HLK.STATE_PTR_VALID]

theorem hlServedFlds_of_word {g : Fld} {n : Nat} (h : g.clear n hlWordFlds 0) : g.clear n hlServedFlds 0 :=
  fun e he => h e ((by decide : ∀ x ∈ hlServedFlds, x ∈ hlWordFlds) e he)

end

end Sys2Proof.Machine
end

section
/-! PROOFS. R431: object frames. -/

namespace Sys2Proof.Machine

open Sys2Proof

section
variable {s t : State} {f : List Nat}

/-! ### Reads -/

/-- The type that an object's answer names. -/
def objTy (f : List Nat) : Nat :=
  match objFind (le16 f 4) (byteAt f 6) with
  | some d => d.ty
  | none => 0

theorem objTy_of {d : ObjDef} (h : objFind (le16 f 4) (byteAt f 6) = some d) : objTy f = d.ty := by
  unfold objTy
  rw [h]

/-- What an OBJ_READ answers. -/
def State.hlReadBody (t : State) (f : List Nat) : List Nat :=
  let r := t.hlGet (le16 f 4) (byteAt f 6)
  if r.1 != odOK then toLe 2 r.1
  else if r.2.length < le32 f 8 then toLe 2 odSEQUENCE ++ [objTy f, 0] ++ toLe 4 r.2.length
  else toLe 2 odOK ++ [objTy f, 0] ++ toLe 4 r.2.length ++ toLe 2 ((r.2.drop (le32 f 8)).take 44).length ++ [0, 0] ++
    (r.2.drop (le32 f 8)).take 44

theorem State.hlObjRead_body (t : State) (f : List Nat) : t.hlObjRead f = t.fresh.2.hlResult f false (t.hlReadBody f) := rfl

/-- An OBJ_READ accepted answers and leaves the rest. -/
theorem exec_objRead_served (hon : s.hlOn = true) (hok : (s.hlEnd 512).hlCheck 512 f = none) (hty : byteAt f 1 = 0x20) :
    exec (.objRead f) s = .next ((s.hlServed f).fresh.2.hlResult f false ((s.hlServed f).hlReadBody f)) := by
  rw [exec_objRead_frame, State.hlFrame_served hon hty hok, State.hlObjRead_body]

/-- What such an answer leaves. -/
theorem State.hlAnswered_shows (s : State) (f b : List Nat) {ty : Nat} (hty : byteAt f 1 = ty) :
    ((s.hlServed f).fresh.2.hlResult f false b).hlk.results = s.hlk.results.drop (b2n s.hlk.carries) ++
        [{ typ := ty, tag := byteAt f 2, eob := false, body := b }] ∧
      ((s.hlServed f).fresh.2.hlResult f false b).mem = s.mem ∧
      regsSame s ((s.hlServed f).fresh.2.hlResult f false b) (hlWordFlds.map fun g => g.key 0) := by
  refine ⟨?_, ?_, regsSame_of_clear fun g n hg => ?_⟩
  · rw [State.results_hlResult, hty]
    exact congrArg (· ++ _) (s.results_hlServed f)
  · exact (State.mem_hlResult _ _ _ _).trans (s.mem_hlServed f)
  · rw [State.get_hlResult _ _ (fun e he => hg e ((by decide : ∀ x ∈ [HLK.STATE_READY, HLK.STATE_OUTSTANDING], x ∈ hlWordFlds) e he))]
    exact s.get_hlServed (hlServedFlds_of_word hg) f

/-! ### A single write, or a staged one opened -/

theorem exec_objWrite_served (hon : s.hlOn = true) (hok : (s.hlEnd 512).hlCheck 512 f = none) (hty : byteAt f 1 = 0x21) :
    exec (.objWrite f) s = .next ((s.hlServed f).hlObjWrite f) := by
  rw [exec_objWrite_frame, State.hlFrame_served hon hty hok]

/-- The power rail's warning stands as before the frame. -/
theorem State.lew_hlServed (s : State) (f : List Nat) : (s.hlServed f).get PWR.STATE_LEW = s.get PWR.STATE_LEW :=
  s.get_hlServed (Fld.clear_of_apart (by decide) _ _) f

section
variable (hnone : t.hlStaged (le16 f 4) (byteAt f 6) = none)
include hnone

theorem State.hlObjWrite_late (h : le32 f 8 ≠ 0) : t.hlObjWrite f = t.hlObjDone f odSEQUENCE 0 := by
  unfold State.hlObjWrite
  dsimp only
  rw [hnone]
  exact if_pos (by simpa using h)

variable (hoff : le32 f 8 = 0)
include hoff

theorem State.hlObjWrite_open (hlast : byteAt f 18 = 0) : t.hlObjWrite f = t.hlOpen f (le16 f 4) (byteAt f 6) := by
  unfold State.hlObjWrite
  dsimp only
  rw [hnone]
  exact (if_neg (by simp [hoff])).trans (if_pos (by simp [hlast]))

variable (hlast : byteAt f 18 = 1)
include hlast

theorem State.hlObjWrite_length (h : le32 f 12 ≠ le16 f 16) : t.hlObjWrite f = t.hlObjDone f odSEQUENCE 0 := by
  unfold State.hlObjWrite
  dsimp only
  rw [hnone]
  exact (if_neg (by simp [hoff])).trans ((if_neg (by simp [hlast])).trans (if_pos (by simpa using h)))

/-- A single write, its STATUS answered where no reset overtakes it. -/
theorem State.hlObjWrite_single (h : le32 f 12 = le16 f 16) {e : Nat} {u : State}
    (hw : t.odWrite (le16 f 4) (byteAt f 6) (byteAt f 7) (slice f 20 (le16 f 16)) = (e, u)) :
    t.hlObjWrite f = if e == odOK && resetObj (le16 f 4) then u else u.hlObjDone f e (if e == odOK then le16 f 16 else 0) := by
  unfold State.hlObjWrite
  dsimp only
  rw [hnone]
  dsimp only
  rw [if_neg (by simp [hoff]), if_neg (by simp [hlast]), if_neg (by simp [h]), hw]

end

/-- The staged write that a first segment opens. -/
def stagedXfer (f : List Nat) (i sub : Nat) : Xfer :=
  { src := 0, tid := 0, kid := 0, index := i, sub := sub, out := false, kind := 0, total := le32 f 12, crc := 0, data := []
    next := 0, segs := 0, resends := 0, host := true }

section
variable {i sub : Nat}

/-- The refusals of a staged write, in order. -/
theorem State.hlOpen_refused {e : Nat} (h : (e = t.odBar i sub ∧ e ≠ odOK) ∨
    (t.odBar i sub = odOK ∧ e = odBUSY ∧ (t.xferOpen i sub = true ∨ 4 ≤ t.net.xfers.length)) ∨
    (t.odBar i sub = odOK ∧ t.xferOpen i sub = false ∧ t.net.xfers.length < 4 ∧ i ≠ 0x0130 ∧ 4194304 < le32 f 12 ∧
      e = odNO_MEMORY) ∨
    (t.odBar i sub = odOK ∧ t.xferOpen i sub = false ∧ t.net.xfers.length < 4 ∧ i = 0x0130 ∧ t.get PWR.STATE_LEW ≠ 0 ∧ e = odSTATE) ∨
    (t.odBar i sub = odOK ∧ t.xferOpen i sub = false ∧ t.net.xfers.length < 4 ∧ i = 0x0130 ∧ t.get PWR.STATE_LEW = 0 ∧
      imgSize (sub - 1) < le32 f 12 ∧ e = odNO_MEMORY)) : t.hlOpen f i sub = t.hlObjDone f e 0 := by
  unfold State.hlOpen
  dsimp only
  rcases h with ⟨rfl, he⟩ | ⟨hbar, rfl, hbusy⟩ | ⟨hbar, hx, hroom, hi, hbig, rfl⟩ | ⟨hbar, hx, hroom, hi, hlew, rfl⟩ |
    ⟨hbar, hx, hroom, hi, hlew, hbig, rfl⟩
  · exact if_pos (by simpa using he)
  · rw [if_neg (by simp [hbar]), if_pos (by simpa using hbusy)]
  · rw [if_neg (by simp [hbar]), if_neg (by simpa [hx] using hroom), if_neg (by simp [hi])]
    exact if_pos (by simp [hi, hbig])
  · rw [if_neg (by simp [hbar]), if_neg (by simpa [hx] using hroom), if_pos (by simp [hi, State.on, hlew])]
  · rw [if_neg (by simp [hbar]), if_neg (by simpa [hx] using hroom), if_neg (by simp [State.on, hlew])]
    exact if_pos (by simp [hi, hbig])

variable (hbar : t.odBar i sub = odOK) (hx : t.xferOpen i sub = false) (hroom : t.net.xfers.length < 4)
include hbar hx hroom

/-- A staged write opened, its first segment taken. -/
theorem State.hlOpen_taken (hlew : i ≠ 0x0130 ∨ t.get PWR.STATE_LEW = 0)
    (hfits : le32 f 12 ≤ (if i = 0x0130 then imgSize (sub - 1) else 4194304)) :
    t.hlOpen f i sub = (t.setXfers (t.net.xfers ++ [stagedXfer f i sub])).hlSegment f (stagedXfer f i sub) := by
  have hlew' : ¬ (i == 0x0130 && t.on PWR.STATE_LEW) = true := by
    rcases hlew with h | h <;> simp [State.on, h]
  unfold State.hlOpen
  dsimp only
  rw [if_neg (by simp [hbar]), if_neg (by simpa [hx] using hroom), if_neg hlew']
  exact if_neg (by simpa using hfits)

end

/-! ### Segments -/

section
variable {x : Xfer}

/-- A segment out of place. -/
theorem State.hlSegment_place (h : le32 f 8 ≠ x.data.length ∨ x.total < (x.data ++ slice f 20 (le16 f 16)).length) :
    t.hlSegment f x = t.hlObjDone f odSEQUENCE x.data.length := by
  unfold State.hlSegment
  dsimp only
  exact if_pos (by simpa using h)

variable (hoff : le32 f 8 = x.data.length) (hfits : (x.data ++ slice f 20 (le16 f 16)).length ≤ x.total)
include hoff hfits

/-- A segment in place: staged with those before it, or the last. -/
theorem State.hlSegment_more (hlast : byteAt f 18 = 0) {u : State}
    (hu : u = (t.hlUnstage x.index x.sub).imgSegment x (le32 f 8) (slice f 20 (le16 f 16))) :
    t.hlSegment f x = (u.setXfers (u.net.xfers ++ [{ x with data := x.data ++ slice f 20 (le16 f 16) }])).hlObjDone f odOK
      (x.data ++ slice f 20 (le16 f 16)).length := by
  unfold State.hlSegment
  dsimp only
  rw [if_neg (by rw [List.length_append] at *; simp [hoff]; omega), if_pos (by simp [hlast]), hu]

theorem State.hlSegment_short (hlast : byteAt f 18 = 1) (hshort : (x.data ++ slice f 20 (le16 f 16)).length ≠ x.total) :
    t.hlSegment f x = ((t.hlUnstage x.index x.sub).imgSegment x (le32 f 8) (slice f 20 (le16 f 16))).hlObjDone f odSEQUENCE
      (x.data ++ slice f 20 (le16 f 16)).length := by
  unfold State.hlSegment
  dsimp only
  rw [if_neg (by rw [List.length_append] at *; simp [hoff]; omega), if_neg (by simp [hlast]), if_pos (by simpa using hshort)]

/-- The last segment: the value applied, its STATUS answered where no reset overtakes it. -/
theorem State.hlSegment_last (hlast : byteAt f 18 = 1) (hwhole : (x.data ++ slice f 20 (le16 f 16)).length = x.total) {e : Nat}
    {u : State} (hput : ((t.hlUnstage x.index x.sub).imgSegment x (le32 f 8) (slice f 20 (le16 f 16))).odPut x.index x.sub
      (byteAt f 7) (x.data ++ slice f 20 (le16 f 16)) = (e, u)) :
    t.hlSegment f x = if e == odOK && resetObj x.index then u else u.hlObjDone f e (x.data ++ slice f 20 (le16 f 16)).length := by
  unfold State.hlSegment
  dsimp only
  rw [if_neg (by rw [List.length_append] at *; simp [hoff]; omega), if_neg (by simp [hlast]),
    if_neg (by rw [List.length_append] at hwhole; simpa using hwhole), hput]

end

/-- A staged write of an object other than an image, its first segment in place. -/
theorem State.hlSegment_first {i sub : Nat} (hi : i ≠ 0x0130) (hoff : le32 f 8 = 0) (hlast : byteAt f 18 = 0)
    (hfits : le16 f 16 ≤ le32 f 12) :
    (t.setXfers (t.net.xfers ++ [stagedXfer f i sub])).hlSegment f (stagedXfer f i sub) =
      (t.setXfers ((t.net.xfers.filter fun y => !(y.host && y.index == i && y.sub == sub)) ++
        [{ stagedXfer f i sub with data := slice f 20 (le16 f 16) }])).hlObjDone f odOK (le16 f 16) := by
  have hlen : (slice f 20 (le16 f 16)).length = le16 f 16 := by simp [slice]
  have hsame : ∀ u : State, u.imgSegment (stagedXfer f i sub) (le32 f 8) (slice f 20 (le16 f 16)) = u := fun u =>
    if_pos (by simpa [stagedXfer] using hi)
  have hgone : (t.net.xfers ++ [stagedXfer f i sub]).filter (fun y => !(y.host && y.index == i && y.sub == sub)) =
      t.net.xfers.filter fun y => !(y.host && y.index == i && y.sub == sub) := by
    simp [List.filter_append, stagedXfer]
  have hunstage : (t.setXfers (t.net.xfers ++ [stagedXfer f i sub])).hlUnstage i sub =
      t.setXfers (t.net.xfers.filter fun y => !(y.host && y.index == i && y.sub == sub)) := by
    rw [← hgone]
    rfl
  rw [State.hlSegment_more (x := stagedXfer f i sub) hoff (by simpa [stagedXfer, hlen] using hfits) hlast (hsame _).symm]
  change (((t.setXfers _).hlUnstage i sub).setXfers (((t.setXfers _).hlUnstage i sub).net.xfers ++ _)).hlObjDone f odOK
    (slice f 20 (le16 f 16)).length = _
  rw [hunstage, hlen]
  rfl

/-- An object with a staged write: another single write waits, a segment goes on. -/
theorem State.hlObjWrite_staged {x : Xfer} (hx : t.hlStaged (le16 f 4) (byteAt f 6) = some x) :
    t.hlObjWrite f = if le32 f 8 == 0 && byteAt f 18 == 1 then t.hlObjDone f odBUSY 0 else t.hlSegment f x := by
  unfold State.hlObjWrite
  dsimp only
  rw [hx]

end

end Sys2Proof.Machine
end

section
/-! PROOFS. The obligation on the Host Link. -/

namespace Sys2Proof.Machine

open Sys2Proof

section
variable {s : State} {f : List Nat} {a : Nat} (hlo : 0x10000000 ≤ a) (hhi : a < 0x103FFFFC) (ha : a % 4 = 0)
include hlo hhi ha

/-- One word of system SRAM read. -/
theorem State.hlWords_read (t : State) : t.hlWords f (some a) [none] true =
    .next (((t.set HLK.STATE_PTR_VALID 1).set HLK.PTR_ADDR (a + 4)).hlResult f false (toLe 4 (t.rd32 a))) :=
  State.hlWords_one ((State.hlAccess_sram hlo (by omega) ha).1 t) (nextAddr_sram hlo hhi) true

/-- One word of system SRAM written. -/
theorem State.hlWords_write (t : State) (v : Nat) : t.hlWords f (some a) [some v] false =
    .next ((((t.wrBytes a (toLe 4 v)).set HLK.STATE_PTR_VALID 1).set HLK.PTR_ADDR (a + 4)).hlResult f false (toLe 4 1)) :=
  State.hlWords_one ((State.hlAccess_sram hlo (by omega) ha).2 t v) (nextAddr_sram hlo hhi) false

end

/-- A frame served, and then nothing but memory, leaves these registers and results. -/
theorem State.hlWorded_rest {s u : State} {f : List Nat} {x : List Host.Cell} (hu : u = { s.hlServed f with mem := x }) (b : Nat)
    {ty : Nat} (hty : byteAt f 1 = ty) (body : List Nat) :
    (((u.set HLK.STATE_PTR_VALID 1).set HLK.PTR_ADDR b).hlResult f false body).hlk.results =
        s.hlk.results.drop (b2n s.hlk.carries) ++ [{ typ := ty, tag := byteAt f 2, eob := false, body := body }] ∧
      (((u.set HLK.STATE_PTR_VALID 1).set HLK.PTR_ADDR b).hlResult f false body).mem = x ∧
      regsSame s (((u.set HLK.STATE_PTR_VALID 1).set HLK.PTR_ADDR b).hlResult f false body) (hlWordFlds.map fun g => g.key 0) := by
  subst hu
  refine ⟨?_, rfl, regsSame_of_clear fun g n hg => ?_⟩
  · rw [State.results_hlResult, hty]
    exact congrArg (· ++ _) (s.results_hlServed f)
  · rw [State.get_hlResult _ _ (fun e he => hg e ((by decide : ∀ x ∈ [HLK.STATE_READY, HLK.STATE_OUTSTANDING], x ∈ hlWordFlds) e he)),
      State.get_set_clear hg (by decide), State.get_set_clear hg (by decide)]
    exact s.get_hlServed (hlServedFlds_of_word hg) f

section
variable {s : State} {f : List Nat} (hon : s.hlOn = true) (hok : (s.hlEnd 512).hlCheck 512 f = none)
include hon hok

theorem exec_regRead_served (hty : byteAt f 1 = 0x11) :
    exec (.regRead f) s = (s.hlServed f).hlWords f (some (le32 f 4)) (List.replicate (byteAt f 3) none) true := by
  rw [exec_regRead_frame, State.hlFrame_served hon hty hok]

theorem exec_regWriteAt_served (hty : byteAt f 1 = 0x12) :
    exec (.regWriteAt f) s = (s.hlServed f).hlWords f (some (le32 f 4)) (hlPayload f 8) false := by
  rw [exec_regWriteAt_frame, State.hlFrame_served hon hty hok]

theorem exec_regWriteNext_served (hty : byteAt f 1 = 0x13) :
    exec (.regWriteNext f) s = (s.hlServed f).hlWords f (s.hlServed f).hlPtr (hlPayload f 4) false := by
  rw [exec_regWriteNext_frame, State.hlFrame_served hon hty hok]

omit hon in
/-- A register frame that is accepted has a word. -/
theorem count_of_accepted (hty : byteAt f 1 = 0x11 ∨ byteAt f 1 = 0x12 ∨ byteAt f 1 = 0x13) : ∃ n, byteAt f 3 = n + 1 := by
  have htype := State.hlTypeOk_of_accepted hok
  have hpos : 1 ≤ byteAt f 3 := by
    rcases hty with h | h | h
    all_goals
      simp [State.hlTypeOk, h] at htype
      omega
  exact ⟨byteAt f 3 - 1, by omega⟩

end

/-- The pointer as the frame finds it. -/
theorem State.hlPtr_served (s : State) (f : List Nat) :
    (s.hlServed f).hlPtr = if s.get HLK.STATE_PTR_VALID = 0 then none else some (s.get HLK.PTR_ADDR) := by
  have hvalid := s.get_hlServed (g := HLK.STATE_PTR_VALID) (n := 0) (Fld.clear_of_apart (by decide) _ _) f
  have haddr := s.get_hlServed (g := HLK.PTR_ADDR) (n := 0) (Fld.clear_of_apart (by decide) _ _) f
  by_cases h : s.get HLK.STATE_PTR_VALID = 0 <;> simp [State.hlPtr, State.on, hvalid, haddr, h]

theorem hlPayload_succ (f : List Nat) (o : Nat) {n : Nat} (h : byteAt f 3 = n + 1) : ∃ ws, hlPayload f o = some (le32 f o) :: ws := by
  unfold hlPayload
  rw [h, List.range_succ_eq_map, List.map_cons]
  exact ⟨_, rfl⟩

theorem hlPayload_one (f : List Nat) (o : Nat) (h : byteAt f 3 = 1) : hlPayload f o = [some (le32 f o)] := by
  unfold hlPayload
  rw [h]
  rfl

/-- What is written depends on what memory held alone. -/
theorem State.mem_wrBytes_congr {t s : State} (h : t.mem = s.mem) (a : Nat) (l : List Nat) :
    (t.wrBytes a l).mem = (s.wrBytes a l).mem := by
  induction l generalizing t s a with
  | nil => exact h
  | cons b r ih => exact ih (congrArg (fun m => Tab.set 0 m a (BitVec.ofNat 8 b)) h) (a + 1)

/-- A word written for the host, and nothing else of memory. -/
theorem State.mem_wrBytes_served (s : State) (f : List Nat) (a v : Nat) :
    ((s.hlServed f).wrBytes a (toLe 4 v)).mem = (s.wrBytes a (toLe 4 v)).mem ∧
      memSame s ((s.hlServed f).wrBytes a (toLe 4 v)) a 4 := by
  have hrd : ∀ x, (s.hlServed f).rd8 x = s.rd8 x := fun x => congrArg (fun m => (Tab.get 0 m x).toNat) (s.mem_hlServed f)
  refine ⟨State.mem_wrBytes_congr (s.mem_hlServed f) _ _, fun x hx => ?_⟩
  rw [State.rd8_wrBytes_out _ _ _ _ (by rwa [toLe_length]), hrd]

section
variable {s : State} {f : List Nat} (hon : s.hlOn = true) (hok : (s.hlEnd 512).hlCheck 512 f = none)
include hon hok

/-- A word of system SRAM read by a frame. -/
theorem exec_regRead_sram (hty : byteAt f 1 = 0x11) (hn : byteAt f 3 = 1) (hlo : 0x10000000 ≤ le32 f 4) (hhi : le32 f 4 < 0x103FFFFC)
    (ha : le32 f 4 % 4 = 0) : ∃ t, exec (.regRead f) s = .next t ∧ t.get HLK.PTR_ADDR = le32 f 4 + 4 ∧
      t.get HLK.STATE_PTR_VALID = 1 ∧ t.hlk.results = s.hlk.results.drop (b2n s.hlk.carries) ++
        [{ typ := 0x11, tag := byteAt f 2, eob := false, body := toLe 4 (s.rd32 (le32 f 4)) }] ∧
      t.mem = s.mem ∧ regsSame s t (hlWordFlds.map fun g => g.key 0) := by
  have hrd : (s.hlServed f).rd32 (le32 f 4) = s.rd32 (le32 f 4) := State.rd32_of_mem (s.mem_hlServed f) _
  have hexec := exec_regRead_served hon hok hty
  rw [hn, List.replicate_one, State.hlWords_read hlo hhi ha, hrd] at hexec
  generalize s.rd32 (le32 f 4) = v at hexec ⊢
  generalize le32 f 4 = a at hexec hlo hhi ⊢
  obtain ⟨hptr, hvalid⟩ := (s.hlServed f).hlWorded_shows (f := f) (b := a + 4) (by omega) (toLe 4 v)
  obtain ⟨hres, hmem, hsame⟩ := State.hlWorded_rest (s := s) (u := s.hlServed f) rfl (a + 4) hty (toLe 4 v)
  exact ⟨_, hexec, hptr, hvalid, hres, hmem.trans (s.mem_hlServed f), hsame⟩

/-- A word of system SRAM written by a frame that names its address. -/
theorem exec_regWriteAt_sram (hty : byteAt f 1 = 0x12) (hn : byteAt f 3 = 1) (hlo : 0x10000000 ≤ le32 f 4)
    (hhi : le32 f 4 < 0x103FFFFC) (ha : le32 f 4 % 4 = 0) : ∃ t, exec (.regWriteAt f) s = .next t ∧
      t.get HLK.PTR_ADDR = le32 f 4 + 4 ∧ t.get HLK.STATE_PTR_VALID = 1 ∧
      t.hlk.results = s.hlk.results.drop (b2n s.hlk.carries) ++ [{ typ := 0x12, tag := byteAt f 2, eob := false, body := toLe 4 1 }] ∧
      t.mem = (s.wrBytes (le32 f 4) (toLe 4 (le32 f 8))).mem ∧ memSame s t (le32 f 4) 4 ∧
      regsSame s t (hlWordFlds.map fun g => g.key 0) := by
  have hexec := exec_regWriteAt_served hon hok hty
  rw [hlPayload_one f 8 hn, State.hlWords_write hlo hhi ha] at hexec
  generalize le32 f 8 = v at hexec ⊢
  generalize le32 f 4 = a at hexec hlo hhi ⊢
  obtain ⟨x, hx⟩ := (s.hlServed f).wrBytes_form a (toLe 4 v)
  obtain ⟨hmem, hout⟩ := s.mem_wrBytes_served f a v
  obtain ⟨hptr, hvalid⟩ := ((s.hlServed f).wrBytes a (toLe 4 v)).hlWorded_shows (f := f) (b := a + 4) (by omega) (toLe 4 1)
  obtain ⟨hres, hx', hsame⟩ := State.hlWorded_rest hx (a + 4) hty (toLe 4 1)
  have hkept := hx'.trans (congrArg State.mem hx).symm
  exact ⟨_, hexec, hptr, hvalid, hres, hkept.trans hmem, hout.trans (memSame.of_mem hkept), hsame⟩

/-- A word of system SRAM written at the pointer. -/
theorem exec_regWriteNext_sram {a : Nat} (hty : byteAt f 1 = 0x13) (hn : byteAt f 3 = 1) (hv : s.get HLK.STATE_PTR_VALID = 1)
    (hptr0 : a = s.get HLK.PTR_ADDR) (hlo : 0x10000000 ≤ a) (hhi : a < 0x103FFFFC) (ha : a % 4 = 0) :
    ∃ t, exec (.regWriteNext f) s = .next t ∧ t.get HLK.PTR_ADDR = a + 4 ∧
      t.hlk.results = s.hlk.results.drop (b2n s.hlk.carries) ++ [{ typ := 0x13, tag := byteAt f 2, eob := false, body := toLe 4 1 }] ∧
      t.mem = (s.wrBytes a (toLe 4 (le32 f 4))).mem ∧ memSame s t a 4 ∧ regsSame s t (hlWordFlds.map fun g => g.key 0) := by
  have hexec := exec_regWriteNext_served hon hok hty
  rw [hlPayload_one f 4 hn, s.hlPtr_served f, if_neg (by omega), ← hptr0, State.hlWords_write hlo hhi ha] at hexec
  generalize le32 f 4 = v at hexec ⊢
  obtain ⟨x, hx⟩ := (s.hlServed f).wrBytes_form a (toLe 4 v)
  obtain ⟨hmem, hout⟩ := s.mem_wrBytes_served f a v
  obtain ⟨hptr, -⟩ := ((s.hlServed f).wrBytes a (toLe 4 v)).hlWorded_shows (f := f) (b := a + 4) (by omega) (toLe 4 1)
  obtain ⟨hres, hx', hsame⟩ := State.hlWorded_rest hx (a + 4) hty (toLe 4 1)
  have hkept := hx'.trans (congrArg State.mem hx).symm
  exact ⟨_, hexec, hptr, hres, hkept.trans hmem, hout.trans (memSame.of_mem hkept), hsame⟩

end

/-- Settles O48: a frame is checked in order and served by its TYPE, words along the bus and objects through the dictionary. -/
theorem hostLink : Obligations.HostLink := by
  unfold Obligations.HostLink
  refine ⟨?_, ?_, ?_, ?_, ?_, ?_, ?_, ?_, ?_, ?_, ?_, ?_, ?_, ?_, ?_, ?_, ?_, ?_, ?_, ?_, ?_⟩
  · exact fun s c hon => if_neg (by simp [hon])
  · intro s c f k b hoff hc
    simp only [List.mem_cons, List.not_mem_nil, or_false] at hc
    rcases hc with rfl | rfl | rfl | rfl | rfl | rfl | rfl | rfl | rfl
    · exact if_pos (by simp [hoff])
    · exact if_pos (by simp [hoff])
    · exact State.hlFrame_off hoff _ _
    · exact State.hlFrame_off hoff _ _
    · rw [exec_regRead_frame, State.hlFrame_off hoff]
    · rw [exec_regWriteAt_frame, State.hlFrame_off hoff]
    · rw [exec_regWriteNext_frame, State.hlFrame_off hoff]
    · rw [exec_objRead_frame, State.hlFrame_off hoff]
    · rw [exec_objWrite_frame, State.hlFrame_off hoff]
  · intro s c f ty hty hc
    obtain ⟨g, hg⟩ := exec_hlFrame hc
    rw [hg, State.hlFrame_other hty]
  · intro s t f k bit g hon ht h
    obtain ⟨hcheck, hbusy⟩ := State.hlCheck_fails ht h
    rw [← ht] at hcheck
    refine ⟨?_, ?_, ?_, ?_⟩
    · rw [exec_hlFrameReject hon hcheck, State.hlReject_once hbusy, ht]
    · rw [← ht, State.mem_hlEnd]
    · rw [← ht, State.results_hlEnd]
    · rw [← ht]
      exact regsSame_of_clear (l := [HLK.STATE_READY, HLK.STATE_OUTSTANDING]) fun e n he => s.get_hlEnd he k
  · intro s t f hon ht hlen hcrc halive hfull
    have hcheck : (s.hlEnd 512).hlCheck 512 f = some (4, HLK.STATUS_BUSY) := by
      rw [State.hlCheck_alive hlen hcrc (by rw [State.seen_hlEnd, State.get_hlEnd _ (Fld.clear_of_apart (by decide) _ _)]; exact halive),
        if_pos (by rw [ht]; exact hfull)]
    rw [exec_hlFrameReject hon hcheck, ht]
    rfl
  · intro s f p c hon hcheck hc
    obtain ⟨g, hg⟩ := exec_hlFrame hc
    rw [hg, State.hlFrame_rejected hon rfl hcheck, exec_hlFrameReject hon hcheck]
  · exact fun s f hon hcheck => exec_hlFrameReject_none hon hcheck
  · intro s t f c hon hok ht hc
    obtain ⟨hframe, halive, hcount⟩ := s.hlServed_shows f
    have hexec : exec c s = .next (s.hlServed f) := by
      rcases hc with ⟨hty, rfl⟩ | ⟨hty, rfl⟩
      · rw [exec_hlNop_frame, State.hlFrame_served hon hty hok]
      · rw [exec_hlSync_frame, State.hlFrame_served hon hty hok]
    have hhlk : t.hlk = { (s.hlEnd 512).hlk with flags := 0, seen := true } := by rw [ht, State.hlk_hlAccept]
    have hserved : t = s.hlServed f := ht
    refine ⟨hserved ▸ hexec, hserved ▸ hframe, hserved ▸ halive, hserved ▸ hcount, congrArg Hlk.flags hhlk, congrArg Hlk.seen hhlk,
      hserved ▸ s.results_hlServed f, hserved ▸ s.mem_hlServed f, ?_⟩
    rw [hserved]
    exact regsSame_of_clear (l := hlServedFlds) fun e n he => s.get_hlServed he f
  · exact fun s f hon hok hty hn hlo hhi ha => exec_regRead_sram hon hok hty hn hlo hhi ha
  · exact fun s f hon hok hty hn hlo hhi ha => exec_regWriteAt_sram hon hok hty hn hlo hhi ha
  · exact fun s f a hon hok hty hn hv hptr hlo hhi ha => exec_regWriteNext_sram hon hok hty hn hv hptr hlo hhi ha
  · intro s t f hon hok hty hv ht
    rw [exec_regWriteNext_served hon hok hty, s.hlPtr_served f, if_pos hv, State.hlWords_none, ht]
    rfl
  · intro s t u v w f a c b hon hok ht h hv hw
    have hserved : s.hlServed f = t := ht.symm
    rcases h with ⟨hty, rfl, rfl, herr, rfl⟩ | ⟨hty, rfl, rfl, herr, rfl⟩ | ⟨hty, rfl, hptr, rfl, herr, rfl⟩
    · obtain ⟨n, hn⟩ := count_of_accepted hok (.inl hty)
      rw [exec_regRead_served hon hok hty, hn, List.replicate_succ, hserved, State.hlWords_error (w := none) herr, hw, hv]
      rfl
    · obtain ⟨n, hn⟩ := count_of_accepted hok (.inr (.inl hty))
      obtain ⟨ws, hws⟩ := hlPayload_succ f 8 hn
      rw [exec_regWriteAt_served hon hok hty, hws, hserved, State.hlWords_error (w := some _) herr, hw, hv]
      rfl
    · obtain ⟨n, hn⟩ := count_of_accepted hok (.inr (.inr hty))
      obtain ⟨ws, hws⟩ := hlPayload_succ f 4 hn
      rw [exec_regWriteNext_served hon hok hty, hws, s.hlPtr_served f, if_neg hptr, hserved, State.hlWords_error (w := some _) herr,
        hw, hv]
      rfl
  · intro s t f hon hok ht
    rw [ht]
    exact ⟨exec_regRead_served hon hok, exec_regWriteAt_served hon hok, exec_regWriteNext_served hon hok⟩
  · intro s f g hon hok hty hg hgot hlen
    have hbody : (s.hlServed f).hlReadBody f = toLe 2 odOK ++ [objTy f, 0] ++ toLe 4 g.2.length ++
        toLe 2 ((g.2.drop (le32 f 8)).take 44).length ++ [0, 0] ++ (g.2.drop (le32 f 8)).take 44 := by
      have hgs : (s.hlServed f).hlGet (le16 f 4) (byteAt f 6) = g := hg.symm
      rw [State.hlReadBody, hgs]
      exact (if_neg (by simp [hgot])).trans (if_neg (by omega))
    obtain ⟨hres, hmem, hsame⟩ := s.hlAnswered_shows f ((s.hlServed f).hlReadBody f) hty
    exact ⟨_, objTy f, exec_objRead_served hon hok hty, hbody ▸ hres, fun d hd => objTy_of hd, hmem, hsame⟩
  · intro s f g hon hok hty hg hgot hlen
    have hbody : (s.hlServed f).hlReadBody f = toLe 2 odSEQUENCE ++ [objTy f, 0] ++ toLe 4 g.2.length := by
      have hgs : (s.hlServed f).hlGet (le16 f 4) (byteAt f 6) = g := hg.symm
      rw [State.hlReadBody, hgs]
      exact (if_neg (by simp [hgot])).trans (if_pos hlen)
    obtain ⟨hres, hmem, hsame⟩ := s.hlAnswered_shows f ((s.hlServed f).hlReadBody f) hty
    exact ⟨_, objTy f, exec_objRead_served hon hok hty, hbody ▸ hres, fun d hd => objTy_of hd, hmem, hsame⟩
  · intro s f g hon hok hty hg hgot
    have hbody : (s.hlServed f).hlReadBody f = toLe 2 g.1 := by
      have hgs : (s.hlServed f).hlGet (le16 f 4) (byteAt f 6) = g := hg.symm
      rw [State.hlReadBody, hgs]
      exact if_pos (by simpa using hgot)
    obtain ⟨hres, hmem, hsame⟩ := s.hlAnswered_shows f ((s.hlServed f).hlReadBody f) hty
    exact ⟨_, exec_objRead_served hon hok hty, hbody ▸ hres, hmem, hsame⟩
  · intro s t u f i sub e hon hok hty ht hi hsub hnone
    have hserved : s.hlServed f = t := ht.symm
    have hlew : t.get PWR.STATE_LEW = s.get PWR.STATE_LEW := hserved ▸ s.lew_hlServed f
    subst hi hsub
    rw [exec_objWrite_served hon hok hty, hserved]
    refine ⟨fun hoff => ?_, fun hoff hlast hne => ?_, fun hoff hlast heq hw he => ?_, fun hoff hlast heq hw hreset => ?_,
      fun hoff hlast => ⟨fun h => ?_, fun x hbar hx hroom himg hfits hxe => ?_, fun hbar hx hroom himg hbig hfits => ?_⟩⟩
    · rw [State.hlObjWrite_late hnone hoff]
    · rw [State.hlObjWrite_length hnone hoff hlast hne]
    · rw [State.hlObjWrite_single hnone hoff hlast heq hw, if_neg (by rcases he with he | he <;> simp [he])]
      simp
    · rw [State.hlObjWrite_single hnone hoff hlast heq hw, if_pos (by simp [hreset])]
    · rw [State.hlObjWrite_open hnone hoff hlast, State.hlOpen_refused (by rw [hlew]; exact h)]
    · rw [State.hlObjWrite_open hnone hoff hlast, State.hlOpen_taken hbar hx hroom (by rw [hlew]; exact himg) hfits, hxe]
      rfl
    · rw [State.hlObjWrite_open hnone hoff hlast, State.hlOpen_taken hbar hx hroom (.inl himg) (by rw [if_neg himg]; exact hbig),
        State.hlSegment_first himg hoff hlast hfits]
      rfl
  · intro s t u f x y e hon hok hty ht hx hy
    have hserved : s.hlServed f = t := ht.symm
    have hdata : y.data = x.data ++ slice f 20 (le16 f 16) := by rw [hy]
    rw [exec_objWrite_served hon hok hty, hserved, State.hlObjWrite_staged hx, hdata]
    refine ⟨fun hoff hlast => ?_, fun hnew hbad => ?_, fun hlast hoff hfits hu => ?_, fun hlast hoff0 hoff hshort hu => ?_,
      fun hlast hoff0 hoff hwhole hput he => ?_⟩
    · rw [if_pos (by simp [hoff, hlast])]
    · rw [if_neg (by rcases hnew with h | h <;> simp [h]), State.hlSegment_place hbad]
    · rw [if_neg (by simp [hlast]), State.hlSegment_more hoff hfits hlast hu, hy]
      rfl
    · rw [if_neg (by simp [hoff0]), State.hlSegment_short hoff hshort.le hlast hshort.ne, hu]
    · rw [if_neg (by simp [hoff0]), State.hlSegment_last hoff hwhole.le hlast hwhole hput,
        if_neg (by rcases he with he | he <;> simp [he])]
  · intro s x hx
    have hexec : exec .hlStagedWriteTimeout s = execHlStagedWriteTimeout s := rfl
    rw [hexec, execHlStagedWriteTimeout, hx]
    rfl
  · intro s hnone
    have hfind : (s.net.xfers.find? fun y => y.host) = none := List.find?_eq_none.mpr fun y hy => by simp [hnone y hy]
    have hexec : exec .hlStagedWriteTimeout s = execHlStagedWriteTimeout s := rfl
    rw [hexec, execHlStagedWriteTimeout, hfind]

end Sys2Proof.Machine
end

section
/-! PROOFS. What the ends of slots and of leases leave: the registers of SYS and PWR, the network and Core P's own state. -/

namespace Sys2Proof.Machine

open Sys2Proof

/-- The key of the enforcer's RF_EN. -/
def rfEnKey : Nat := RGE.CTRL_RF_EN.key 0

/-- A key of SYS's or of PWR's block (R20), that of AON's wake inputs or that of RF_EN. -/
def calmKey (k : Nat) : Bool :=
  decide (k < 0x40010000 * 32) || (decide (0x40020000 * 32 ≤ k) && decide (k < 0x40030000 * 32)) || k == wakeKey || k == rfEnKey

/-- No register of the field is RF_EN, whichever its index. -/
def Fld.offRfEn (f : Fld) : Bool := f.lo != 0 || decide (0x40050004 < f.addr) || (f.stride == 0 && f.addr != 0x40050004)

theorem Fld.key_ne_rfEn {f : Fld} (hlo : f.lo < 32) (h : f.offRfEn = true) (n : Nat) : f.key n ≠ rfEnKey := by
  have hkey : rfEnKey = 0x40050004 * 32 := by decide
  have hinst : f.stride = 0 → n * f.stride = 0 := fun h0 => by rw [h0, Nat.mul_zero]
  simp only [Fld.offRfEn, Bool.or_eq_true, Bool.and_eq_true, bne_iff_ne, beq_iff_eq, decide_eq_true_eq] at h
  rw [hkey]
  simp only [Fld.key, Fld.at]
  omega

/-- No register of the field is one of those: its block is a later one, or it has one register in CLK's. -/
def Fld.aired (f : Fld) : Bool :=
  (decide (0x40030000 ≤ f.addr) || (f.stride == 0 && decide (0x40010000 * 32 ≤ f.key 0) && decide (f.key 0 < 0x40020000 * 32))) &&
    decide (f.lo < 32) && f.offWake && f.offRfEn

theorem calmKey_false {k : Nat} : calmKey k = false ↔
    ¬ k < 0x40010000 * 32 ∧ ¬ (0x40020000 * 32 ≤ k ∧ k < 0x40030000 * 32) ∧ k ≠ wakeKey ∧ k ≠ rfEnKey := by
  simp [calmKey, and_assoc]

theorem Fld.calm_of_aired {f : Fld} (h : f.aired = true) (n : Nat) : calmKey (f.key n) = false := by
  simp only [Fld.aired, Bool.or_eq_true, Bool.and_eq_true, decide_eq_true_eq, beq_iff_eq] at h
  obtain ⟨⟨⟨hplace, hlo⟩, hoff⟩, hrf⟩ := h
  rw [calmKey_false]
  have hwake := Fld.key_ne_wake hlo hoff n
  have hrfEn := Fld.key_ne_rfEn hlo hrf n
  rcases hplace with hlate | ⟨⟨hone, hlow⟩, hhi⟩
  · have : f.addr ≤ f.at n := Nat.le_add_right ..
    refine ⟨?_, ?_, hwake, hrfEn⟩ <;> simp only [Fld.key] <;> omega
  · have : f.key n = f.key 0 := by simp [Fld.key, Fld.at, hone]
    exact ⟨by omega, by omega, hwake, hrfEn⟩

/-- `t` is `s` in what the ends of slots and leases leave. -/
structure Aired (s t : State) : Prop where
  reg : ∀ d k, calmKey k = true → Tab.get d t.regs k = Tab.get d s.regs k
  net : t.net = s.net
  coreP : t.coreP = s.coreP
  nv : t.nv = s.nv
  objs : t.objs = s.objs
  now : t.now = s.now

namespace Aired
variable {s t u : State}

theorem refl (s : State) : Aired s s := ⟨fun _ _ _ => rfl, rfl, rfl, rfl, rfl, rfl⟩

theorem trans (h : Aired s t) (h' : Aired t u) : Aired s u :=
  ⟨fun d k hk => (h'.reg d k hk).trans (h.reg d k hk), h'.net.trans h.net, h'.coreP.trans h.coreP, h'.nv.trans h.nv,
    h'.objs.trans h.objs, h'.now.trans h.now⟩

theorem ite {c : Prop} [Decidable c] (h : Aired s t) (h' : Aired s u) : Aired s (if c then t else u) := by
  split <;> assumption

section
variable (h : Aired s t)
include h

theorem get {f : Fld} {n : Nat} (hf : calmKey (f.key n) = true) : t.get f n = s.get f n := h.reg _ _ hf

theorem setKey {f : Fld} {n : Nat} (hf : calmKey (f.key n) = false) (v : Nat) : Aired s (t.set f v n) := by
  refine h.trans ⟨fun d k hk => Tab.get_set_ne _ _ _ _ fun e => ?_, rfl, rfl, rfl, rfl, rfl⟩
  rw [e, hf] at hk
  cases hk

theorem set {f : Fld} (hf : f.aired = true) (v n : Nat) : Aired s (t.set f v n) := h.setKey (Fld.calm_of_aired hf n) v

/-- A register of one of the four sheaves. -/
theorem setSh {f : Fld} (hf : ∀ sh, sh < 4 → calmKey (f.key sh) = false) (v : Nat) {sh : Nat} (hsh : sh < 4) :
    Aired s (t.set f v sh) := h.setKey (hf sh hsh) v

theorem setBit {f : Fld} (hf : f.aired = true) (k : Nat) (b : Bool) (n : Nat) : Aired s (t.setBit f k b n) := h.set hf _ n

theorem bump {c f : Fld} (hc : c.aired = true) (hf : f.aired = true) (n k : Nat) : Aired s (t.bump c f n k) := by
  unfold State.bump
  split
  · exact h.set hc _ n
  · exact (h.set hc _ n).set hf _ n

/-- What touches late registers and the radio's own state alone. -/
theorem beyond {b : Nat} (hb : 0x40060000 * 32 ≤ b) (h' : Beyond b t u) : Aired s u := by
  refine h.trans ⟨fun d k hk => h'.reg d k ?_, ?_, ?_, ?_, h'.objs, h'.now⟩
  · simp only [calmKey, Bool.or_eq_true, Bool.and_eq_true, decide_eq_true_eq, beq_iff_eq] at hk
    have hrf : rfEnKey = 0x40050004 * 32 := by decide
    omega
  all_goals
    obtain ⟨⟨r, x, c, rfl⟩, -⟩ := h'
    rfl

theorem tx (h' : Beyond txKey t u) : Aired s u := h.beyond (by decide) h'
theorem rx (h' : RxSide t u) : Aired s u := h.beyond (b := rxKey) (by decide) (h'.beyond (Nat.le_refl _))

theorem forL {α : Type} {g : α → State → State} {l : List α} (hg : ∀ i u, Aired s u → Aired s (g i u)) : Aired s (t.forL l g) :=
  State.forL_keep (Aired s) g l t h fun i _ u hu => hg i u hu

theorem forN {g : Nat → State → State} {k : Nat} (hg : ∀ i u, Aired s u → Aired s (g i u)) : Aired s (t.forN k g) := h.forL hg

theorem withRadio (x : Radio) : Aired s { t with radio := x } := h.trans ⟨fun _ _ _ => rfl, rfl, rfl, rfl, rfl, rfl⟩
theorem withRge (x : Rge) : Aired s { t with rge := x } := h.trans ⟨fun _ _ _ => rfl, rfl, rfl, rfl, rfl, rfl⟩
theorem updAtb (g : Atb → Atb) : Aired s (t.updAtb g) := h.trans ⟨fun _ _ _ => rfl, rfl, rfl, rfl, rfl, rfl⟩
theorem pdSpoil : Aired s t.pdSpoil := h.trans ⟨fun _ _ _ => rfl, rfl, rfl, rfl, rfl, rfl⟩
theorem setOps (n : Nat) (o : SeqOps) : Aired s (t.setOps n o) := h.withRadio _
theorem setSeq (n : Nat) (q : Seq) : Aired s (t.setSeq n q) := h.withRadio _
theorem setSheaf (n : Nat) (x : Sheaf) : Aired s (t.setSheaf n x) := h.withRadio _
theorem setEng (n : Nat) (x : FrameEng) : Aired s (t.setEng n x) := h.withRadio _
theorem when {c : Bool} {g : State → State} (hg : ∀ u, Aired s u → Aired s (g u)) : Aired s (t.when c g) := .ite (hg t h) h

/-! ### Sequencers, chains and grants -/

theorem seqEvent (n ev : Nat) : Aired s (t.seqEvent n ev) := h.setBit (by decide) _ _ _

theorem seqOver (n : Nat) : Aired s (t.seqOver n) := by
  unfold State.seqOver
  extract_lets s1
  split
  · exact (h.seqEvent n _).setOps _ _
  · exact h.seqEvent n _

theorem rgeLog (code n : Nat) (chan : Option Nat) : Aired s (t.rgeLog code n chan) := by
  unfold State.rgeLog
  extract_lets e
  split
  · exact h.withRge _
  · exact (h.withRge _).set (by decide) _ _

theorem endGrant (n : Nat) : Aired s (t.endGrant n) := h.setBit (by decide) _ _ _

theorem withdraw (n : Nat) (fast : Bool) : Aired s (t.withdraw n fast) := (h.endGrant n).tx (Beyond.withdraw t n fast)

theorem giveUp (n : Nat) : Aired s (t.giveUp n) := (h.withRadio _).setBit (by decide) _ _ _

theorem forceDown (n : Nat) (fast : Bool) : Aired s (t.forceDown n fast) := by
  unfold State.forceDown
  extract_lets u s1
  have h1 : Aired s s1 := (((h.withRadio _ : Aired s (t.setUtx n _)).giveUp n)).tx ((Beyond.refl txKey _).endWait n)
  split
  · exact h1.tx ((Beyond.refl txKey _).rampDown n fast _ _)
  · split
    · exact h1.tx ((((Beyond.refl txKey _).utxWindow n false).setUtx n _).setUst n _)
    · exact h1

theorem slotCut (e : List Nat) : Aired s (t.slotCut e) :=
  h.forL fun c u hu => (((hu.rgeLog _ _ _).bump (by decide) (by decide) 0 1).set (by decide) 1 0).withdraw c true

/-! ### The end of a lease -/

theorem clkSpread : Aired s t.clkSpread := by
  unfold State.clkSpread
  extract_lets m run active hits s1
  have h1 : Aired s s1 := .ite (h.bump (by decide) (by decide) 0 1) h
  exact (((h1.set (by decide) _ 0).set (by decide) _ 0).set (by decide) _ 0).set (by decide) _ 0

theorem markChain (c : Nat) (leased : Bool) (q : Nat) : Aired s (t.markChain c leased q) :=
  (h.set (by decide) _ c).set (by decide) _ c

theorem seqFree (n : Nat) : Aired s (t.seqFree n) := ((h.setSeq n _).setOps n _).set (by decide) _ n

theorem censusLatch {sh : Nat} (hsh : sh < 4) (part : Bool) : Aired s (t.censusLatch sh part) := by
  unfold State.censusLatch
  extract_lets c s1 s2 s3 s4
  have h1 : Aired s s1 := .ite (h.set (by decide) 1 sh) h
  have h2 : Aired s s2 := ((((h1.set (by decide) _ sh).set (by decide) _ sh).set (by decide) _ sh).set (by decide) _ sh).set
    (by decide) _ sh
  have h3 : Aired s s3 := (((h2.set (by decide) _ sh).set (by decide) _ sh).set (by decide) _ sh).set (by decide) _ sh
  have h4 : Aired s s4 := ((h3.set (by decide) _ sh).set (by decide) _ sh).setSh (by decide) 1 hsh
  exact .ite h4 (h4.withRadio _)

theorem geoDue : Aired s t.geoDue := by
  unfold State.geoDue State.geoLoad
  refine .ite ?_ h
  extract_lets at_ pos s1
  have h1 : Aired s s1 := h.forN fun k u hu => hu.withRadio _
  exact (h1.forN fun k u hu => hu.withRadio _).withRadio _

theorem leaseFree {sh : Nat} (hsh : sh < 4) : Aired s (t.leaseFree sh) := by
  unfold State.leaseFree
  extract_lets seq lo listen s1 s2 s3 chains s4 shf s5
  have h1 : Aired s s1 := h.rx (((RxSide.refl t).forL fun ch u hu => .ite (hu.rxIdle ch) hu).engAbort sh)
  have h2 : Aired s s2 := .ite (h1.censusLatch hsh true) h1
  have h3 : Aired s s3 := ((h2.set (by decide) _ sh).set (by decide) _ sh).set (by decide) 1 sh
  have h4 : Aired s s4 := h3.forL fun c u hu => (hu.markChain c false 0).tx ((Beyond.refl txKey _).refreshPwr c)
  have h5 : Aired s s5 := (((h4.setSheaf sh _).setSh (by decide) 0 hsh).setSheaf sh _).clkSpread
  exact ((h5.seqFree seq).tx ((Beyond.refl txKey _).rfsRelease lo)).geoDue

theorem leaseEnd {sh : Nat} (hsh : sh < 4) (how : LeaseEnd) : Aired s (t.leaseEnd sh how) := by
  unfold State.leaseEnd
  refine .ite h ?_
  extract_lets shf s1 s2
  have h1 : Aired s s1 := (h.setSheaf sh _).rx ((RxSide.refl _).engAbort sh)
  have h2 : Aired s s2 := by
    cases how with
    | cut => exact h1
    | release => exact h1.forL fun c u hu => hu.forceDown c false
    | fault => exact h1.forL fun c u hu => hu.forceDown c true
  exact .ite (h2.leaseFree hsh) h2

theorem slotEndLease {sh : Nat} (hsh : sh < 4) : Aired s (t.slotEndLease sh) := by
  unfold State.slotEndLease
  extract_lets n s1 o s2
  have h1 : Aired s s1 := (h.seqOver n).set (by decide) 1 n
  have h2 : Aired s s2 := by
    simp only [s2]
    split
    · exact (h1.setOps n _).seqEvent n _
    · exact h1
  exact (h2.setOps n _).leaseEnd hsh _

/-! ### The end of a slot, a state of the timebase -/

theorem slotEnd {sh : Nat} (hsh : sh < 4) : Aired s (t.slotEnd sh) := by
  unfold State.slotEnd
  refine .ite h ?_
  extract_lets k e s1 s2 s3 eng s4
  have h1 : Aired s s1 := ((h.updAtb _).setBit (by decide) _ _ _).set (by decide) 1 0
  have h2 : Aired s s2 := h1.forL fun c u hu => hu.setBit (by decide) _ _ _
  have h3 : Aired s s3 := h2.slotCut e
  have h4 : Aired s s4 :=
    .ite (((h3.rx (.forL (.refl _) fun ch u hu => .ite (hu.rxIdle ch) hu)).setSh (by decide) 0 hsh).setEng sh _) h3
  exact .ite (h4.slotEndLease hsh) h4

theorem slotEndAll : Aired s t.slotEndAll := 
  State.forN_keep (Aired s) _ 4 t h fun _ hsh _ hu => hu.slotEnd hsh

theorem slotCheck : Aired s t.slotCheck := .ite h.slotEndAll h

theorem atbEnter (st : Nat) : Aired s (t.atbEnter st) := by
  unfold State.atbEnter
  refine .ite h ?_
  extract_lets s1 s2 s3 s4 s5 s6
  have h1 : Aired s s1 := h.set (by decide) st 0
  have h2 : Aired s s2 := h1.when fun u hu => hu.set (by decide) 1 0
  have h3 : Aired s s3 := h2.when fun u hu => (hu.set (by decide) 1 0).updAtb _
  have h4 : Aired s s4 := h3.when fun u hu => hu.updAtb _
  have h5 : Aired s s5 := h4.when fun u hu => hu.updAtb _
  have h6 : Aired s s6 := h5.when fun u hu => by
    obtain ⟨r, hr⟩ := u.synthSteer_form u.ptpNow
    rw [hr]
    exact hu.updAtb _
  exact (h6.when fun u hu => hu.pdSpoil).slotCheck

end
end Aired

end Sys2Proof.Machine
end

section
/-! PROOFS. What the ends of slots leave of the timebase, and HOLDOVER entered. -/

namespace Sys2Proof.Machine

open Sys2Proof

/-- The ends of slots change of the timebase the slots that run, and of its registers IN_SLOT and SLOT_END. -/
structure SlotsEnd (s t : State) : Prop where
  atb : ∃ r, t.atb = { s.atb with running := r }
  get : ∀ (f : Fld) (n : Nat), atbKey (f.key n) = true → f.clear n [ATB.CUR_SLOT_IN_SLOT, ATB.STATUS_SLOT_END] 0 →
    t.get f n = s.get f n

namespace SlotsEnd
variable {s t u : State}

theorem refl (s : State) : SlotsEnd s s := ⟨⟨_, rfl⟩, fun _ _ _ _ => rfl⟩

theorem trans (h : SlotsEnd s t) (h' : SlotsEnd t u) : SlotsEnd s u := by
  obtain ⟨r, hr⟩ := h.atb
  obtain ⟨r', hr'⟩ := h'.atb
  exact ⟨⟨r', by rw [hr', hr]⟩, fun f n hk hf => (h'.get f n hk hf).trans (h.get f n hk hf)⟩

theorem slotEnd (s : State) (sh : Nat) : SlotsEnd s (s.slotEnd sh) := by
  unfold State.slotEnd
  split
  · exact refl s
  · extract_lets k e s1 s2 s3 eng s4
    have h1 : SlotsEnd s s1 := ⟨⟨_, rfl⟩, fun f n _ hf => (State.get_set_clear hf (by decide) 1).trans
      (State.get_set_clear (s := s.updAtb fun a => { a with running := Tab.set 0 a.running sh 0 }) hf (by decide) _)⟩
    have h3 : s3.timebase = s1.timebase := by
      rw [State.timebase_slotCut]
      exact s1.timebase_forL (fun c t => t.timebase_setBit (by decide) _ _ _) _
    have h4 : s4.timebase = s1.timebase := by
      unfold s4
      split <;> simp (disch := decide) [State.timebase_set, h3]
    have hend : ∀ v : State, v.timebase = s1.timebase → SlotsEnd s v := fun v hv =>
      h1.trans ⟨⟨s1.atb.running, State.atb_of_timebase hv⟩, fun f n hk _ => State.get_of_timebase hv hk⟩
    refine hend _ ?_
    split <;> simp [h4]

theorem slotEndAll (s : State) : SlotsEnd s s.slotEndAll :=
  State.forN_keep (SlotsEnd s) _ 4 s (refl s) fun sh _ t ht => ht.trans (slotEnd t sh)

theorem slotCheck (s : State) : SlotsEnd s s.slotCheck := by
  unfold State.slotCheck
  split
  · exact slotEndAll s
  · exact refl s

end SlotsEnd

/-- HOLDOVER entered: since when, at which rate, and SYNC_LOST; then the slots that it suppresses end. -/
theorem State.atbEnter_holdover {s : State} (hne : s.atbSt ≠ abHOLDOVER) : ∃ u,
    LampSide (((s.set ATB.STATE_STATE abHOLDOVER).set ATB.STATUS_SYNC_LOST 1).updAtb fun a => { a with
      holdAt := s.now, rate := if s.on ATB.CTRL_SRC then 0 else s.atbPeriod }) u ∧ s.atbEnter abHOLDOVER = u.slotCheck := by
  have hbody : s.atbEnter abHOLDOVER = ((((s.set ATB.STATE_STATE abHOLDOVER).set ATB.STATUS_SYNC_LOST 1).updAtb fun a => { a with
      holdAt := s.now, rate := if s.on ATB.CTRL_SRC then 0 else s.atbPeriod }).when
        ((s.atbSt == abLOCKED || s.atbSt == abSYNTH) && abHOLDOVER != abLOCKED && abHOLDOVER != abSYNTH) State.pdSpoil).slotCheck :=
    if_neg (by simpa using hne)
  refine ⟨_, ?_, hbody⟩
  generalize ((s.atbSt == abLOCKED || s.atbSt == abSYNTH) && abHOLDOVER != abLOCKED && abHOLDOVER != abSYNTH) = c
  cases c with
  | true => exact LampSide.pdSpoil _
  | false => exact LampSide.refl

/-- What HOLDOVER shows once entered. -/
theorem State.atbEnter_holdover_shows {s : State} (hne : s.atbSt ≠ abHOLDOVER) :
    (s.atbEnter abHOLDOVER).atbSt = abHOLDOVER ∧ (s.atbEnter abHOLDOVER).get ATB.STATUS_SYNC_LOST = 1 ∧
      (s.atbEnter abHOLDOVER).get ATB.STATE_PTP_OK = s.get ATB.STATE_PTP_OK ∧
      (s.atbEnter abHOLDOVER).atb.holdAt = s.now ∧ (s.atbEnter abHOLDOVER).atb.anchor = s.atb.anchor ∧
      (s.atbEnter abHOLDOVER).atb.goodEdges = s.atb.goodEdges := by
  obtain ⟨u, hu, henter⟩ := State.atbEnter_holdover hne
  have hend := SlotsEnd.slotCheck u
  obtain ⟨r, hr⟩ := hend.atb
  have hget : ∀ f : Fld, f.clear 0 [ATB.CUR_SLOT_IN_SLOT, ATB.STATUS_SLOT_END] 0 → atbKey (f.key 0) = true →
      u.slotCheck.get f = ((s.set ATB.STATE_STATE abHOLDOVER).set ATB.STATUS_SYNC_LOST 1).get f := fun f hf hk =>
    (hend.get f 0 hk hf).trans (hu.get f 0)
  rw [hu.atb] at hr
  rw [henter]
  refine ⟨?_, ?_, ?_, (congrArg Atb.holdAt hr : _), (congrArg Atb.anchor hr : _), (congrArg Atb.goodEdges hr : _)⟩
  · refine (hget ATB.STATE_STATE (Fld.clear_of_apart (by decide) _ _) (by decide)).trans ?_
    rw [State.get_set_apart _ (by decide), State.get_set_fits _ (by decide)]
  · refine (hget _ (Fld.clear_of_apart (by decide) _ _) (by decide)).trans ?_
    rw [State.get_set_fits _ (by decide)]
  · refine (hget _ (Fld.clear_of_apart (by decide) _ _) (by decide)).trans ?_
    rw [State.get_set_apart _ (by decide), State.get_set_apart _ (by decide)]

end Sys2Proof.Machine
end

section
/-! PROOFS. R31, R384, R385, R390, R392, R393, R395: link, frames, the PTP servo and the power class. -/

namespace Sys2Proof.Machine

open Sys2Proof

/-! ### Frames (R385, R392) -/

section
variable {s : State} {f : List Nat} {ok : Bool}

/-- A frame kept, with its source. -/
def State.framed (s : State) (f : List Nat) : State := ({ s with net := { s.net with frame := f } } : State).sourceEvent 101

theorem exec_macFrameRx_refused (h : macTakes f ok = false ∨ s.net.linkUp = false ∨ s.coreP.refHeld = true) :
    exec (.macFrameRx f ok) s = .next s := by
  refine if_pos ?_
  rcases h with h | h | h <;> simp [h]

section
variable (hmac : macTakes f ok = true) (hlink : s.net.linkUp = true) (hheld : s.coreP.refHeld = false)
include hmac hlink hheld

theorem exec_macFrameRx_taken : exec (.macFrameRx f ok) s = .next (if ofBe (slice f 12 2) == 0x86DD then
    (s.framed f).ipRx (slice f 14 (f.length - 18)) else s.framed f) := if_neg (by simp [hmac, hlink, hheld])

theorem exec_macFrameRx_ip (hty : ofBe (slice f 12 2) = 0x86DD) :
    exec (.macFrameRx f ok) s = .next ((s.framed f).ipRx (slice f 14 (f.length - 18))) := by
  rw [exec_macFrameRx_taken hmac hlink hheld, if_pos (by simp [hty])]

end

/-- A packet of another version, short of its length, or for no address of the node. -/
theorem State.ipRx_other {p : List Nat} (h : p.length < 40 + ofBe (slice p 4 2) ∨ byteAt p 0 / 16 ≠ 6 ∨
    (s.ipv6.contains (slice p 24 16) = false ∧ s.groups.contains (slice p 24 16) = false)) : s.ipRx p = s := by
  refine if_pos ?_
  rcases h with h | h | ⟨h, h'⟩
  · rw [decide_eq_true h]; rfl
  · rw [show (byteAt p 0 / 16 != 6) = true by simpa using h, Bool.or_true, Bool.true_or]
  · rw [h, h']; simp

/-- A whole UDP datagram to port 42980. -/
theorem State.ipRx_tot {p d : List Nat} (hlen : 40 + ofBe (slice p 4 2) ≤ p.length) (hver : byteAt p 0 / 16 = 6)
    (hdst : s.ipv6.contains (slice p 24 16) = true ∨ s.groups.contains (slice p 24 16) = true) (hnext : byteAt p 6 = 17)
    (hd : d = slice p 40 (ofBe (slice p 4 2))) (h8 : 8 ≤ ofBe (slice p 4 2)) (hudp : ofBe (slice d 4 2) = ofBe (slice p 4 2))
    (hsum : ofBe (slice d 6 2) ≠ 0) (hok : inetOk p d 17 = true) (hport : ofBe (slice d 2 2) = 42980) :
    s.ipRx p = s.totRx (d.drop 8) := by
  have haddr : (s.ipv6.contains (slice p 24 16) || s.groups.contains (slice p 24 16)) = true := by
    rcases hdst with h | h <;> rw [h] <;> simp
  unfold State.ipRx
  dsimp only
  rw [← hd, haddr, if_neg (by simp [hlen, hver]), if_pos (by simp [hnext]), if_neg]
  simp [h8, hudp, hsum, hok, hport]

end

/-! ### The servo (R395) -/

section
variable {s : State}

/-- A Sync's figures kept, `good` the run of good ones. -/
def State.synced (s : State) (o : Int) (delay ns good : Nat) : State :=
  { s.sourceEvent 104 with
    net := { s.net with ptpOffset := unsignedOf 32 o, ptpDelay := delay % 4294967296, ptpGood := good }
    atb := { s.atb with ptpNs := ns, ptpAt := s.now } }

/-- The servo runs with the CORE domain. -/
theorem exec_ptp_off (h : s.bit PWR.STATE_DOM 3 = false) (o : Int) (delay ns : Nat) :
    exec (.ptpSyncRx o delay ns) s = .next s ∧ exec .ptpLoss s = .next s :=
  ⟨congrArg Host.Outcome.next (if_neg (by simp [h])), congrArg Host.Outcome.next (if_neg (by simp [h]))⟩

theorem exec_ptpLoss_on (h : s.bit PWR.STATE_DOM 3 = true) : exec .ptpLoss s = .next s.ptpLose :=
  congrArg Host.Outcome.next (if_pos h)

theorem State.ptpSync_eq (o : Int) (delay ns : Nat) : (s.sourceEvent 104).ptpSync o delay ns =
    if 10000 < o.natAbs then (s.synced o delay ns (if decide (o.natAbs ≤ 1000) then min 8 (s.net.ptpGood + 1) else 0)).ptpLose
    else if 8 ≤ (if decide (o.natAbs ≤ 1000) then min 8 (s.net.ptpGood + 1) else 0) then
      (s.synced o delay ns (if decide (o.natAbs ≤ 1000) then min 8 (s.net.ptpGood + 1) else 0)).ptpLock
    else s.synced o delay ns (if decide (o.natAbs ≤ 1000) then min 8 (s.net.ptpGood + 1) else 0) := by
  unfold State.ptpSync State.synced
  generalize decide (o.natAbs ≤ 1000) = ok
  cases ok with
  | true => rfl
  | false => rfl

theorem exec_ptpSyncRx_on (h : s.bit PWR.STATE_DOM 3 = true) (o : Int) (delay ns : Nat) : exec (.ptpSyncRx o delay ns) s =
    .next (if 10000 < o.natAbs then (s.synced o delay ns 0).ptpLose
      else if 1000 < o.natAbs then s.synced o delay ns 0
      else if 7 ≤ s.net.ptpGood then (s.synced o delay ns 8).ptpLock
      else s.synced o delay ns (s.net.ptpGood + 1)) := by
  have hexec : exec (.ptpSyncRx o delay ns) s = .next ((s.sourceEvent 104).ptpSync o delay ns) :=
    congrArg Host.Outcome.next (if_pos h)
  rw [hexec, State.ptpSync_eq]
  by_cases hfar : 1000 < o.natAbs
  · have hbad : decide (o.natAbs ≤ 1000) = false := by simpa using hfar
    simp [hbad, hfar]
  · have hgood : decide (o.natAbs ≤ 1000) = true := by simpa using hfar
    have hnear : ¬ 10000 < o.natAbs := by omega
    simp only [hgood, if_true, hnear, if_false, hfar]
    by_cases h7 : 7 ≤ s.net.ptpGood
    · rw [if_pos h7, Nat.min_eq_left (by omega), if_pos (Nat.le_refl _)]
    · rw [if_neg h7, Nat.min_eq_right (by omega), if_neg (by omega)]

theorem State.get_synced (o : Int) (delay ns good : Nat) (f : Fld) (n : Nat) : (s.synced o delay ns good).get f n = s.get f n := by
  unfold State.synced
  rw [State.get_mk]
  rfl

/-- The lock lost. -/
def State.unlocked (s : State) : State :=
  (({ s with net := { s.net with ptpGood := 0 } } : State).sourceEvent 105).set ATB.STATE_PTP_OK 0

theorem State.get_unlocked {f : Fld} (h : f.apart ATB.STATE_PTP_OK = true) : s.unlocked.get f = s.get f :=
  State.get_set_apart _ h 0

theorem State.ptpLose_eq (s : State) : s.ptpLose = if s.on ATB.STATE_PTP_OK && s.unlocked.on ATB.CTRL_SRC && s.unlocked.atbSt == abSYNTH
    then (s.unlocked.updAtb fun a => { a with goodEdges := 0 }).atbEnter abHOLDOVER else s.unlocked := rfl

/-- Where SYNTH does not run, the loss of lock is all. -/
theorem State.ptpLose_alone (h : s.get ATB.STATE_PTP_OK = 0 ∨ s.get ATB.CTRL_SRC = 0 ∨ s.atbSt ≠ abSYNTH) : s.ptpLose = s.unlocked := by
  rw [State.ptpLose_eq, if_neg]
  have hst : s.unlocked.atbSt = s.atbSt := State.get_unlocked (by decide)
  rcases h with h | h | h
  · simp [State.on, h]
  · simp [State.on, State.get_unlocked (s := s) (f := ATB.CTRL_SRC) (by decide), h]
  · simp [hst, h]

/-- Where it does, it goes on in HOLDOVER. -/
theorem State.ptpLose_synth (hptp : s.get ATB.STATE_PTP_OK ≠ 0) (hsrc : s.get ATB.CTRL_SRC ≠ 0) (hst : s.atbSt = abSYNTH) :
    s.ptpLose.atbSt = abHOLDOVER ∧ s.ptpLose.get ATB.STATE_PTP_OK = 0 ∧ s.ptpLose.net.ptpGood = 0 ∧ s.ptpLose.atb.goodEdges = 0 ∧
      s.ptpLose.get ATB.STATUS_SYNC_LOST = 1 ∧ s.ptpLose.atb.holdAt = s.now ∧ s.ptpLose.atb.anchor = s.atb.anchor := by
  have hst' : s.unlocked.atbSt = abSYNTH := (State.get_unlocked (by decide)).trans hst
  have hlose : s.ptpLose = (s.unlocked.updAtb fun a => { a with goodEdges := 0 }).atbEnter abHOLDOVER := by
    rw [State.ptpLose_eq, if_pos]
    simp [State.on, State.get_unlocked (s := s) (f := ATB.CTRL_SRC) (by decide), hptp, hsrc, hst']
  have hne : (s.unlocked.updAtb fun a => { a with goodEdges := 0 }).atbSt ≠ abHOLDOVER := by
    rw [show (s.unlocked.updAtb fun a => { a with goodEdges := 0 }).atbSt = abSYNTH from hst']
    decide
  obtain ⟨hhold, hlost, hok, hat, hanchor, hgood⟩ := State.atbEnter_holdover_shows hne
  have hnet := ((Aired.refl (s.unlocked.updAtb fun a => { a with goodEdges := 0 })).atbEnter abHOLDOVER).net
  rw [hlose]
  refine ⟨hhold, hok.trans ?_, ?_, hgood, hlost, hat, hanchor⟩
  · exact State.get_set_fits (({ s with net := { s.net with ptpGood := 0 } } : State).sourceEvent 105)
      (show 0 < 2 ^ ATB.STATE_PTP_OK.width by decide)
  · rw [hnet]
    rfl

/-- The lock: SYNTH where an anchor is held for it. -/
theorem State.ptpLock_held (h : s.get ATB.STATE_PTP_OK ≠ 0) : s.ptpLock = s := if_pos (by simpa [State.on] using h)

theorem State.ptpLock_new (h : s.get ATB.STATE_PTP_OK = 0) : s.ptpLock = ((s.sourceEvent 105).set ATB.STATE_PTP_OK 1).synthEnter :=
  if_neg (by simp [State.on, h])

end

/-! ### SYNTH entered (R49) -/

section
variable {s : State}

theorem State.synthEnter_anchorless (h : s.atb.anchor = none) : s.synthEnter = s := by
  unfold State.synthEnter
  rw [h]

theorem State.synthEnter_mains (h : s.get ATB.CTRL_SRC = 0) : s.synthEnter = s := by
  unfold State.synthEnter
  split
  · exact if_neg (by simp [State.on, h])
  · rfl

theorem State.synthEnter_ptpless (h : s.get ATB.STATE_PTP_OK = 0) : s.synthEnter = s := by
  unfold State.synthEnter
  split
  · exact if_neg (by simp [State.on, h])
  · rfl

section
variable {a : Anchor} (hanchor : s.atb.anchor = some a) (hptp : s.get ATB.STATE_PTP_OK ≠ 0) (hsrc : s.get ATB.CTRL_SRC ≠ 0)
include hanchor hptp hsrc

theorem State.synthEnter_holdover (hst : s.atbSt = abHOLDOVER) : s.synthEnter = s.atbEnter abSYNTH := by
  unfold State.synthEnter
  rw [hanchor]
  dsimp only
  rw [if_pos (by simp [State.on, hptp, hsrc, hst]), if_neg (by rw [hst]; decide)]

theorem State.synthEnter_free (hst : s.atbSt = abFREE) : s.synthEnter =
    ((s.atbEnter abSYNTH).phaseStep (s.gridAngle a s.ptpNow)).synthSteer
      ((s.atbEnter abSYNTH).phaseStep (s.gridAngle a s.ptpNow)).ptpNow := by
  unfold State.synthEnter
  rw [hanchor]
  dsimp only
  rw [if_pos (by simp [State.on, hptp, hsrc, hst]), if_pos (by simp [hst])]

end
end

/-! ### The power class (R390) -/

theorem State.budgetChange_failsafe {s : State} (h : s.mode = mdFAILSAFE) : s.budgetChange = s := if_pos (by simp [h])

/-- A budget that nothing exceeds, without leases or a plan, in FULL. -/
theorem State.budgetChange_fits {s : State} (hmode : s.mode = mdFULL) (hlease : s.carrierSheaves = []) (hslots : s.atb.actSlots = 0)
    (hfits : s.fits s.keptCost = true) (hok : s.budgetOk = true) : s.budgetChange = s.setBit SYS.MODE_CAUSE csBUDGET false := by
  have hrel : s.budgetRelease = s := by
    simp [State.budgetRelease, hlease]
  have hmode' : (s.setBit SYS.MODE_CAUSE csBUDGET false).mode = mdFULL :=
    (State.get_set_apart s (g := SYS.MODE_MODE) (f := SYS.MODE_CAUSE) (by decide) _).trans hmode
  have hmin : s.budgetMin = s.setBit SYS.MODE_CAUSE csBUDGET false := by
    have hquiet : (s.setBit SYS.MODE_CAUSE csBUDGET false).quietLeave = s.setBit SYS.MODE_CAUSE csBUDGET false :=
      if_neg (by rw [hmode']; simp [mdFULL, mdQUIET])
    rw [State.budgetMin, if_neg (by rw [hmode]; decide), if_pos hok, hquiet]
  unfold State.budgetChange
  rw [if_neg (by rw [hmode]; decide)]
  simp [hslots, hfits, hrel, hmin]

/-- Settles O45: what a frame's headers and a Sync's offset let through, and what a lock, its loss and a power class bring. -/
theorem networkEvents : Obligations.NetworkEvents := by
  unfold Obligations.NetworkEvents
  refine ⟨fun s level sqi => rfl, fun s level sqi => rfl, fun s f ok h => exec_macFrameRx_refused h,
    fun s f ok hmac hlink hheld hty => ?_, fun s f p ok hmac hlink hheld hty hp h => ?_,
    fun s f p d ok hmac hlink hheld hty hp h1 h2 h3 h4 h5 h6 h7 h8 h9 h10 => ?_, fun s f ok hmac hlink hheld hty => ?_,
    fun s o delay ns h => exec_ptp_off h o delay ns, fun s o delay ns h ho hg => ?_, fun s o delay ns h ho hg hptp => ?_,
    fun s u o delay ns h ho hg hptp hu => ?_, fun s o delay ns h h1 h2 => ?_, fun s o delay ns h ho hsyn => ?_,
    fun s h hsyn => ?_, fun s c o delay ns h hc hptp hsrc hst => ?_, fun s c h => if_pos (by simp [h]), fun s u c h hu => ?_⟩
  · rw [exec_macFrameRx_taken hmac hlink hheld, if_neg (by simpa using hty)]
    rfl
  · rw [exec_macFrameRx_ip hmac hlink hheld hty, ← hp, State.ipRx_other (s := s.framed f) h]
    rfl
  · rw [exec_macFrameRx_ip hmac hlink hheld hty, ← hp, State.ipRx_tot (s := s.framed f) h1 h2 h3 h4 h5 h6 h7 h8 h9 h10]
    rfl
  · rw [exec_macFrameRx_ip hmac hlink hheld hty]
    rfl
  · rw [exec_ptpSyncRx_on h, if_neg (by omega), if_neg (by omega), if_neg (by omega)]
    rfl
  · rw [exec_ptpSyncRx_on h, if_neg (by omega), if_neg (by omega), if_pos hg,
      State.ptpLock_held (by rw [State.get_synced]; exact hptp)]
    rfl
  · have hexec : exec (.ptpSyncRx o delay ns) s = .next u.synthEnter := by
      rw [exec_ptpSyncRx_on h, if_neg (by omega), if_neg (by omega), if_pos hg,
        State.ptpLock_new (by rw [State.get_synced]; exact hptp), hu]
      rfl
    have hanchor : u.atb.anchor = s.atb.anchor := by rw [hu]; rfl
    have hok : u.get ATB.STATE_PTP_OK ≠ 0 := by rw [hu, State.get_set_fits _ (by decide)]; decide
    have hsrc : u.get ATB.CTRL_SRC = s.get ATB.CTRL_SRC := by rw [hu, State.get_set_apart _ (by decide)]; rfl
    have hst : u.atbSt = s.atbSt := by rw [hu]; exact State.get_set_apart _ (by decide) _
    refine ⟨fun ha => ?_, fun h0 => ?_, fun a ha h0 hs => ?_, fun a ha h0 hs => ?_⟩
    · rw [hexec, State.synthEnter_anchorless (hanchor.trans ha)]
    · rw [hexec, State.synthEnter_mains (hsrc.trans h0)]
    · rw [hexec, State.synthEnter_holdover (hanchor.trans ha) hok (by rw [hsrc]; exact h0) (hst.trans hs)]
    · rw [hexec, State.synthEnter_free (hanchor.trans ha) hok (by rw [hsrc]; exact h0) (hst.trans hs)]
  · rw [exec_ptpSyncRx_on h, if_neg (by omega), if_pos h1]
    rfl
  · rw [exec_ptpSyncRx_on h, if_pos ho, State.ptpLose_alone (s := s.synced o delay ns 0) hsyn]
    rfl
  · rw [exec_ptpLoss_on h, State.ptpLose_alone hsyn]
    rfl
  · rcases hc with rfl | ⟨rfl, ho⟩
    · exact ⟨_, exec_ptpLoss_on h, State.ptpLose_synth hptp hsrc hst⟩
    · exact ⟨_, (exec_ptpSyncRx_on h o delay ns).trans (congrArg Host.Outcome.next (if_pos ho)),
        State.ptpLose_synth (s := s.synced o delay ns 0) hptp hsrc hst⟩
  · have hexec : exec (.pdClassChange c) s = .next u.budgetChange := by
      rw [hu]
      exact if_neg (by simpa using h)
    have hmode : u.mode = s.mode := by
      rw [hu]
      refine (State.get_set_apart _ (g := SYS.MODE_MODE) (f := AON.WAKE_WAKE) (by decide) _).trans ?_
      rw [State.get_bump_apart _ (by decide) (by decide), State.get_set_apart _ (by decide), State.get_set_apart _ (by decide)]
      rfl
    refine ⟨fun hm => ?_, fun hm hl hs hf hb => ?_, hexec⟩
    · rw [hexec, State.budgetChange_failsafe (hmode.trans hm)]
    · rw [hexec, State.budgetChange_fits (hmode.trans hm) hl hs hf hb]

end Sys2Proof.Machine
end

section
/-! PROOFS. R38 to R49, R62, R566, R567: the timebase's source, mains edges and holdover. -/

namespace Sys2Proof.Machine

open Sys2Proof

theorem Fld.clear_sub {f : Fld} {k n : Nat} {l l' : List Fld} (h : f.clear k l n) (hl : ∀ g ∈ l', g ∈ l) : f.clear k l' n :=
  fun g hg => h g (hl g hg)

/-! ### A state entered with no slot running (R41, R62) -/

section
variable {s : State} {st : Nat}

/-- What a state brings at its entry, before the slots that it suppresses end. -/
def State.enterBody (s : State) (st : Nat) : State :=
  let s1 := s.set ATB.STATE_STATE st
  let s2 := s1.when (st == abLOCKED || st == abSYNTH) fun t => t.set ATB.STATUS_LOCKED 1
  let s3 := s2.when (st == abHOLDOVER) fun t => (t.set ATB.STATUS_SYNC_LOST 1).updAtb fun a => { a with holdAt := t.now }
  let s4 := s3.when (st == abACQUIRE) fun t => t.updAtb fun a => { a with acqStepped := false, goodEdges := 0 }
  let s5 := s4.when (st == abHOLDOVER) fun t => t.updAtb fun a => { a with
    rate := if s.on ATB.CTRL_SRC then 0 else s.atbPeriod }
  s5.when (st == abSYNTH) fun t => t.synthSteer t.ptpNow

theorem State.enterBody_plain (h : st = abOFF ∨ st = abFREE) : s.enterBody st = s.set ATB.STATE_STATE st := by
  rcases h with rfl | rfl <;> rfl

theorem State.enterBody_locked : s.enterBody abLOCKED = (s.set ATB.STATE_STATE abLOCKED).set ATB.STATUS_LOCKED 1 := rfl

theorem State.enterBody_synth : s.enterBody abSYNTH =
    ((s.set ATB.STATE_STATE abSYNTH).set ATB.STATUS_LOCKED 1).synthSteer
      ((s.set ATB.STATE_STATE abSYNTH).set ATB.STATUS_LOCKED 1).ptpNow := rfl

theorem State.enterBody_acquire : s.enterBody abACQUIRE =
    (s.set ATB.STATE_STATE abACQUIRE).updAtb fun a => { a with acqStepped := false, goodEdges := 0 } := rfl

theorem State.enterBody_holdover : s.enterBody abHOLDOVER =
    ((s.set ATB.STATE_STATE abHOLDOVER).set ATB.STATUS_SYNC_LOST 1).updAtb fun a => { a with
      holdAt := s.now, rate := if s.on ATB.CTRL_SRC then 0 else s.atbPeriod } := rfl

theorem State.when_running (c : Bool) {g : State → State} (h : ∀ t, (g t).atb.running = t.atb.running) :
    (s.when c g).atb.running = s.atb.running := by
  cases c with
  | true => exact h s
  | false => rfl

theorem State.enterBody_running (s : State) (st : Nat) : (s.enterBody st).atb.running = s.atb.running := by
  unfold State.enterBody
  extract_lets s1 s2 s3 s4 s5
  have h2 : s2.atb.running = s.atb.running := s1.when_running _ fun _ => rfl
  have h3 : s3.atb.running = s2.atb.running := s2.when_running _ fun _ => rfl
  have h4 : s4.atb.running = s3.atb.running := s3.when_running _ fun _ => rfl
  have h5 : s5.atb.running = s4.atb.running := s4.when_running _ fun _ => rfl
  have hsynth : (s5.when (st == abSYNTH) fun t => t.synthSteer t.ptpNow).atb.running = s5.atb.running :=
    State.when_running _ fun t => by
      obtain ⟨r, hr⟩ := t.synthSteer_form t.ptpNow
      rw [hr]
      rfl
  rw [hsynth, h5, h4, h3, h2]

/-- A state left that was locked spoils the integration that runs. -/
theorem State.atbEnter_body (hne : s.atbSt ≠ st) : s.atbEnter st =
    ((s.enterBody st).when ((s.atbSt == abLOCKED || s.atbSt == abSYNTH) && st != abLOCKED && st != abSYNTH) State.pdSpoil).slotCheck :=
  if_neg (by simpa using hne)

/-- No slot running, none ends. -/
theorem State.atbEnter_idle (hne : s.atbSt ≠ st) (hidle : ∀ k, k < 4 → s.runningSlot k = 0) :
    s.atbEnter st = (s.enterBody st).when ((s.atbSt == abLOCKED || s.atbSt == abSYNTH) && st != abLOCKED && st != abSYNTH)
      State.pdSpoil := by
  have hidle' : ∀ k, k < 4 → (s.enterBody st).runningSlot k = 0 := fun k hk => by
    rw [State.runningSlot, s.enterBody_running]
    exact hidle k hk
  rw [State.atbEnter_body hne]
  generalize ((s.atbSt == abLOCKED || s.atbSt == abSYNTH) && st != abLOCKED && st != abSYNTH) = c
  cases c with
  | true => exact State.slotCheck_idle hidle'
  | false => exact State.slotCheck_idle hidle'

theorem State.atbEnter_lamp (hne : s.atbSt ≠ st) (hidle : ∀ k, k < 4 → s.runningSlot k = 0) :
    LampSide (s.enterBody st) (s.atbEnter st) := by
  rw [State.atbEnter_idle hne hidle]
  generalize ((s.atbSt == abLOCKED || s.atbSt == abSYNTH) && st != abLOCKED && st != abSYNTH) = c
  cases c with
  | true => exact LampSide.pdSpoil _
  | false => exact LampSide.refl

/-- From a state that was not locked, or to one that is, nothing is spoilt. -/
theorem State.atbEnter_calm (hne : s.atbSt ≠ st) (hidle : ∀ k, k < 4 → s.runningSlot k = 0)
    (hcalm : s.atbSt ≠ abLOCKED ∧ s.atbSt ≠ abSYNTH ∨ st = abLOCKED ∨ st = abSYNTH) : s.atbEnter st = s.enterBody st := by
  rw [State.atbEnter_idle hne hidle, show ((s.atbSt == abLOCKED || s.atbSt == abSYNTH) && st != abLOCKED && st != abSYNTH) = false from ?_]
  · rfl
  · rcases hcalm with ⟨h1, h2⟩ | h | h <;> simp_all

end

/-! ### Enable, disable and source (R62, R566, R567) -/

section
variable {s : State}

/-- The nominal rate, with which the timebase is enabled. -/
def State.atbOn (s : State) : State := (s.set ATB.CTRL_EN 1).updAtb fun a => { a with rate := 0 }

theorem State.get_atbOn {f : Fld} (h : f.apart ATB.CTRL_EN = true) : s.atbOn.get f = s.get f := State.get_set_apart s h 1

theorem State.atbEnable_eq (hen : s.get ATB.CTRL_EN = 0) :
    s.atbEnable = (s.atbOn.atbEnter (if s.on ATB.CTRL_SRC then abFREE else abACQUIRE)).synthEnter := if_neg (by simp [State.on, hen])

section
variable (hen : s.get ATB.CTRL_EN = 0) (hst : s.atbSt = abOFF) (hidle : ∀ k, k < 4 → s.runningSlot k = 0)
include hen hst hidle

theorem State.atbEnable_acquire (hsrc : s.get ATB.CTRL_SRC = 0) : s.atbEnable = { (s.set ATB.CTRL_EN 1).set ATB.STATE_STATE abACQUIRE with
      atb := { s.atb with rate := 0, acqStepped := false, goodEdges := 0 } } := by
  have hst' : s.atbOn.atbSt = abOFF := (State.get_atbOn (by decide)).trans hst
  rw [State.atbEnable_eq hen, if_neg (by simp [State.on, hsrc]), State.atbEnter_calm (s := s.atbOn) (by rw [hst']; decide) hidle
    (.inl (by rw [hst']; decide)), State.enterBody_acquire]
  refine State.synthEnter_mains ?_
  rw [State.get_updAtb, State.get_set_apart _ (by decide), State.get_atbOn (by decide), hsrc]

theorem State.atbEnable_free (hsrc : s.get ATB.CTRL_SRC = 1) (hfree : s.atb.anchor = none ∨ s.get ATB.STATE_PTP_OK = 0) :
    s.atbEnable = { (s.set ATB.CTRL_EN 1).set ATB.STATE_STATE abFREE with atb := { s.atb with rate := 0 } } := by
  have hst' : s.atbOn.atbSt = abOFF := (State.get_atbOn (by decide)).trans hst
  rw [State.atbEnable_eq hen, if_pos (by simp [State.on, hsrc]), State.atbEnter_calm (s := s.atbOn) (by rw [hst']; decide) hidle
    (.inl (by rw [hst']; decide)), State.enterBody_plain (.inr rfl)]
  rcases hfree with hnone | hptp
  · exact State.synthEnter_anchorless hnone
  · refine State.synthEnter_ptpless ?_
    exact (State.get_set_apart s.atbOn (g := ATB.STATE_PTP_OK) (f := ATB.STATE_STATE) (by decide) _).trans
      ((State.get_atbOn (by decide)).trans hptp)

end

/-- A disabled timebase's position, without its anchor. -/
def State.atbShut (s : State) : State := ((s.set ATB.CTRL_EN 0).set ATB.STATE_CYCLE_VALID 0).updAtb fun a => { a with anchor := none }

theorem State.get_atbShut {f : Fld} {n : Nat} (h : f.clear n [ATB.CTRL_EN, ATB.STATE_CYCLE_VALID, ATB.STATE_STATE] 0) :
    s.atbShut.get f n = s.get f n := by
  unfold State.atbShut
  rw [State.get_updAtb, State.get_set_clear h (by decide), State.get_set_clear h (by decide)]

theorem State.atbDisable_shows (hen : s.get ATB.CTRL_EN ≠ 0) (hst : s.atbSt ≠ abOFF) (hidle : ∀ k, k < 4 → s.runningSlot k = 0) :
    s.atbDisable.get ATB.CTRL_EN = 0 ∧ s.atbDisable.get ATB.STATE_CYCLE_VALID = 0 ∧ s.atbDisable.atbSt = abOFF ∧
      s.atbDisable.atb = { s.atb with anchor := none } ∧ s.atbDisable.mem = s.mem ∧
      regsSame s s.atbDisable [ATB.CTRL_EN.key 0, ATB.STATE_CYCLE_VALID.key 0, ATB.STATE_STATE.key 0] := by
  have hst' : s.atbShut.atbSt = s.atbSt :=
    (State.get_set_apart (s.set ATB.CTRL_EN 0) (g := ATB.STATE_STATE) (f := ATB.STATE_CYCLE_VALID) (by decide) 0).trans
      (State.get_set_apart s (by decide) 0)
  have hlamp := State.atbEnter_lamp (s := s.atbShut) (st := abOFF) (by rw [hst']; exact hst) hidle
  rw [State.enterBody_plain (.inl rfl)] at hlamp
  have hbody : s.atbDisable = s.atbShut.atbEnter abOFF := if_pos (by simpa [State.on] using hen)
  rw [hbody, State.atbSt]
  refine ⟨?_, ?_, ?_, hlamp.atb, hlamp.mem, ?_⟩
  · rw [hlamp.get, State.get_set_apart _ (by decide), State.atbShut, State.get_updAtb, State.get_set_apart _ (by decide),
      State.get_set_fits _ (by decide)]
  · rw [hlamp.get, State.get_set_apart _ (by decide), State.atbShut, State.get_updAtb, State.get_set_fits _ (by decide)]
  · rw [hlamp.get, State.get_set_fits _ (by decide)]
  · refine regsSame_of_clear (l := [ATB.CTRL_EN, ATB.STATE_CYCLE_VALID, ATB.STATE_STATE]) fun f n hf => ?_
    rw [hlamp.get, State.get_set_clear hf (by decide), State.get_atbShut hf]

/-- The timebase as another source finds it. -/
def State.atbSourced (s : State) (src : Nat) : State :=
  ((s.set ATB.CTRL_SRC src).set ATB.STATE_CYCLE_VALID 0).updAtb fun a => { a with anchor := none }

theorem State.get_atbSourced {f : Fld} {n : Nat} (h : f.clear n [ATB.CTRL_SRC, ATB.STATE_CYCLE_VALID] 0) (src : Nat) :
    (s.atbSourced src).get f n = s.get f n := by
  unfold State.atbSourced
  rw [State.get_updAtb, State.get_set_clear h (by decide), State.get_set_clear h (by decide)]

theorem State.atbSourced_src (src : Nat) : (s.atbSourced src).get ATB.CTRL_SRC = src % 2 := by
  unfold State.atbSourced
  rw [State.get_updAtb, State.get_set_apart _ (by decide), State.get_set_same]
  rfl

theorem State.atbSourced_valid (src : Nat) : (s.atbSourced src).get ATB.STATE_CYCLE_VALID = 0 := by
  unfold State.atbSourced
  rw [State.get_updAtb, State.get_set_fits _ (by decide)]

/-- ACQUIRE or FREE entered: the state, and in ACQUIRE its run of edges. -/
theorem State.atbEnter_restart {st : Nat} (hst : st = abFREE ∨ st = abACQUIRE) (hidle : ∀ k, k < 4 → s.runningSlot k = 0) :
    ∃ u, s.atbEnter st = u ∧ u.atbSt = st ∧ { u.atb with acqStepped := false, goodEdges := 0 } = { s.atb with acqStepped := false, goodEdges := 0 } ∧ u.mem = s.mem ∧
      ∀ (f : Fld) (n : Nat), f.clear n [ATB.STATE_STATE] 0 → u.get f n = s.get f n := by
  by_cases hne : s.atbSt = st
  · exact ⟨s, if_pos (by simpa using hne), hne, rfl, rfl, fun _ _ _ => rfl⟩
  · have hlamp := State.atbEnter_lamp hne hidle
    refine ⟨_, rfl, ?_⟩
    rw [State.atbSt]
    rcases hst with rfl | rfl
    · rw [State.enterBody_plain (.inr rfl)] at hlamp
      refine ⟨?_, by rw [hlamp.atb]; rfl, hlamp.mem, fun f n hf => ?_⟩
      · rw [hlamp.get, State.get_set_fits _ (by decide)]
      · rw [hlamp.get, State.get_set_clear hf (by decide)]
    · rw [State.enterBody_acquire] at hlamp
      refine ⟨?_, by rw [hlamp.atb]; rfl, hlamp.mem, fun f n hf => ?_⟩
      · rw [hlamp.get, State.get_updAtb, State.get_set_fits _ (by decide)]
      · rw [hlamp.get, State.get_updAtb, State.get_set_clear hf (by decide)]

theorem State.atbSource_shows {src : Nat} (hen : s.get ATB.CTRL_EN ≠ 0) (hsrc : src % 2 ≠ s.get ATB.CTRL_SRC)
    (hidle : ∀ k, k < 4 → s.runningSlot k = 0) : (s.atbSource src).get ATB.CTRL_SRC = src % 2 ∧
      (s.atbSource src).get ATB.STATE_CYCLE_VALID = 0 ∧ (s.atbSource src).atbSt = (if src % 2 = 1 then abFREE else abACQUIRE) ∧
      (s.atbSource src).atb = { s.atb with anchor := none, acqStepped := false, goodEdges := 0 } ∧ (s.atbSource src).mem = s.mem ∧
      regsSame s (s.atbSource src) [ATB.CTRL_SRC.key 0, ATB.STATE_CYCLE_VALID.key 0, ATB.STATE_STATE.key 0] := by
  have htarget : (if src % 2 = 1 then abFREE else abACQUIRE) = abFREE ∨ (if src % 2 = 1 then abFREE else abACQUIRE) = abACQUIRE := by
    split
    · exact .inl rfl
    · exact .inr rfl
  obtain ⟨u, henter, hst, hatb, hmem, hget⟩ := State.atbEnter_restart (s := s.atbSourced src) htarget hidle
  have hrun : ∀ k, k < 4 → u.runningSlot k = 0 := fun k hk => by
    have hrunning : u.atb.running = s.atb.running := (congrArg Atb.running hatb : _)
    rw [State.runningSlot, hrunning]
    exact hidle k hk
  have hbody : s.atbSource src = ((s.slotEndAll.atbSourced src).atbEnter (if src % 2 == 1 then abFREE else abACQUIRE)
      |>.updAtb fun a => { a with acqStepped := false, goodEdges := 0 }).slotCheck := by
    unfold State.atbSource
    rw [if_neg (by simpa using hsrc), if_neg (by simp [State.on, hen])]
    rfl
  have hend : s.atbSource src = u.updAtb fun a => { a with acqStepped := false, goodEdges := 0 } := by
    rw [hbody, State.slotEndAll_idle hidle]
    simp only [beq_iff_eq, henter]
    exact State.slotCheck_idle hrun
  rw [hend]
  refine ⟨?_, ?_, hst, hatb, hmem, regsSame_of_clear (l := [ATB.CTRL_SRC, ATB.STATE_CYCLE_VALID, ATB.STATE_STATE]) fun f n hf => ?_⟩
  · exact (hget _ _ (Fld.clear_of_apart (by decide) _ _)).trans (State.atbSourced_src src)
  · exact (hget _ _ (Fld.clear_of_apart (by decide) _ _)).trans (State.atbSourced_valid src)
  · exact (hget f n (Fld.clear_sub hf (by decide))).trans (State.get_atbSourced (Fld.clear_sub hf (by decide)) src)

end

/-! ### Mains edges (R38, R39, R41) -/

section
variable {s : State} {rising : Bool} {held angle spacing : Nat}

theorem exec_mainsEdge_ignored (h : s.atbSt = abOFF ∨ s.get ATB.CTRL_SRC ≠ 0 ∨ s.mainsPasses rising held = false) :
    exec (.mainsSyncEdge rising held angle spacing) s = .next s := by
  by_cases hpass : s.mainsPasses rising held = true
  · refine congrArg Host.Outcome.next ((if_pos hpass).trans (if_pos ?_))
    rcases h with h | h | h
    · simp [h]
    · simp [State.on, h]
    · rw [h] at hpass
      exact absurd hpass (by decide)
  · exact congrArg Host.Outcome.next (if_neg hpass)

section
variable (hpass : s.mainsPasses rising held = true) (hsrc : s.get ATB.CTRL_SRC = 0)
include hpass hsrc

/-- An edge while the timebase runs on the mains. -/
theorem exec_mainsEdge_loop (hangle : angle < 65536) (hst : s.atbSt = abLOCKED ∨ s.atbSt = abHOLDOVER) {p : Nat}
    (hp : p = spacing / max 1 ((2 * spacing + s.atbPeriod) / (2 * s.atbPeriod))) :
    exec (.mainsSyncEdge rising held angle spacing) s = .next
      (if (decide (1024 < (angleErr angle s.atb.offApplied).natAbs) || !s.freqOk p) = true then
        (s.when (decide (1024 < (angleErr angle s.atb.offApplied).natAbs)) fun t => t.set ATB.STATUS_BAD_EDGE 1).when (!s.freqOk p)
          fun t => t.set ATB.STATUS_FREQ_RANGE 1
      else s.edgeAccept (angleErr angle s.atb.offApplied) p) := by
  have hon : (s.atbSt == abOFF || s.on ATB.CTRL_SRC) = false := by
    rcases hst with h | h <;> simp [State.on, hsrc, h, abLOCKED, abHOLDOVER, abOFF]
  refine congrArg Host.Outcome.next ((if_pos hpass).trans ?_)
  unfold State.mainsEdge
  dsimp only
  rw [if_neg (by simp [hon]), if_pos (by rcases hst with h | h <;> simp [h]), Nat.mod_eq_of_lt hangle, ← hp]

/-- An edge while it does not. -/
theorem exec_mainsEdge_search (hst : s.atbSt = abACQUIRE ∨ s.atbSt = abFREE ∨ s.atbSt = abSYNTH) :
    exec (.mainsSyncEdge rising held angle spacing) s = .next
      (if (!s.freqOk spacing) = true then (s.set ATB.STATUS_FREQ_RANGE 1).updAtb fun a => { a with goodEdges := 0 }
      else s.edgeAccept (angleErr (angle % 65536) (if (s.atbSt == abACQUIRE && s.atb.acqStepped) = true then s.atb.offApplied
        else s.get ATB.OFFSET_OFFSET)) spacing) := by
  have hon : (s.atbSt == abOFF || s.on ATB.CTRL_SRC) = false := by
    rcases hst with h | h | h <;> simp [State.on, hsrc, h, abACQUIRE, abFREE, abSYNTH, abOFF]
  refine congrArg Host.Outcome.next ((if_pos hpass).trans ?_)
  unfold State.mainsEdge
  dsimp only
  rw [if_neg (by simp [hon]), if_neg]
  rcases hst with h | h | h <;> simp [h, abACQUIRE, abFREE, abSYNTH, abLOCKED, abHOLDOVER]

end

/-! ### An edge that the loop takes -/

/-- The phase error and the period that an accepted edge leaves. -/
def State.edgeShown (s : State) (err : Int) (p : Nat) : State :=
  (s.set ATB.PHERR_PHERR (unsignedOf 16 err)).set ATB.PERIOD_PERIOD p

theorem State.get_edgeShown {f : Fld} {n : Nat} (h : f.clear n [ATB.PHERR_PHERR, ATB.PERIOD_PERIOD] 0) (err : Int) (p : Nat) :
    (s.edgeShown err p).get f n = s.get f n := by
  unfold State.edgeShown
  rw [State.get_set_clear h (by decide), State.get_set_clear h (by decide)]

theorem State.edgeShown_err (err : Int) (p : Nat) : (s.edgeShown err p).get ATB.PHERR_PHERR = unsignedOf 16 err := by
  unfold State.edgeShown
  rw [State.get_set_apart _ (by decide), State.get_set_fits]
  exact unsignedOf_lt 16 err

theorem State.edgeShown_period (err : Int) {p : Nat} (hp : p < 4294967296) : (s.edgeShown err p).get ATB.PERIOD_PERIOD = p := by
  have hw : 2 ^ ATB.PERIOD_PERIOD.width = 4294967296 := by decide
  exact State.get_set_fits _ (by rw [hw]; exact hp)

theorem State.edgeShown_nominal (err : Int) (p : Nat) : (s.edgeShown err p).atbNominal = s.atbNominal := by
  unfold State.atbNominal State.on
  rw [State.get_edgeShown (Fld.clear_of_apart (by decide) _ _)]

/-- What the loop makes of an edge: its figures, the rate, and the run of good edges. -/
def State.edgeLooped (s : State) (err : Int) (p : Nat) : State :=
  (s.edgeShown err p).updAtb fun a => { a with
    rate := max 1 (Config.dpllPeriod (s.get ATB.CTRL_BW) (unsignedOf 16 err) s.atbRate p)
    goodEdges := if err.natAbs ≤ 16 then s.atb.goodEdges + 1 else 0 }

theorem State.edgeAccept_loop {err : Int} {p : Nat} (hst : s.atbSt = abLOCKED ∨ s.atbSt = abHOLDOVER ∨
    s.atbSt = abACQUIRE ∧ s.atb.acqStepped = true) : s.edgeAccept err p =
    if 8 ≤ (if err.natAbs ≤ 16 then s.atb.goodEdges + 1 else 0) && s.atbSt != abLOCKED then (s.edgeLooped err p).atbEnter abLOCKED
    else s.edgeLooped err p := by
  have hlater : (s.atbSt == abFREE || s.atbSt == abSYNTH || (s.atbSt == abACQUIRE && !s.atb.acqStepped)) = false := by
    rcases hst with h | h | ⟨h, h'⟩
    · rw [h]; rfl
    · rw [h]; rfl
    · rw [h, h']; rfl
  have hrun : ((s.edgeShown err p).dpllRun err p).updAtb (fun a => { a with
      goodEdges := if err.natAbs ≤ 16 then s.atb.goodEdges + 1 else 0 }) = s.edgeLooped err p := by
    have hbw : (s.edgeShown err p).get ATB.CTRL_BW = s.get ATB.CTRL_BW := State.get_edgeShown (Fld.clear_of_apart (by decide) _ _) _ _
    have hrate : (s.edgeShown err p).atbRate = s.atbRate := by
      unfold State.atbRate
      rw [State.edgeShown_nominal]
      rfl
    unfold State.dpllRun
    rw [hbw, hrate]
    rfl
  unfold State.edgeAccept
  dsimp only
  rw [hlater, if_neg (by decide), ← hrun]
  rfl

/-- An accepted edge after the first. -/
theorem State.edgeAccept_shows {err : Int} {p g : Nat} (hst : s.atbSt = abLOCKED ∨ s.atbSt = abHOLDOVER ∨
    s.atbSt = abACQUIRE ∧ s.atb.acqStepped = true) (hidle : ∀ k, k < 4 → s.runningSlot k = 0) (hp : p < 4294967296)
    (hg : g = if err.natAbs ≤ 16 then s.atb.goodEdges + 1 else 0) :
    (s.edgeAccept err p).get ATB.PHERR_PHERR = unsignedOf 16 err ∧ (s.edgeAccept err p).get ATB.PERIOD_PERIOD = p ∧
      (s.edgeAccept err p).atbSt = (if 8 ≤ g then abLOCKED else s.atbSt) ∧
      (8 ≤ g → s.atbSt ≠ abLOCKED → (s.edgeAccept err p).get ATB.STATUS_LOCKED = 1) ∧
      (s.edgeAccept err p).atb = { s.atb with
        rate := max 1 (Config.dpllPeriod (s.get ATB.CTRL_BW) (unsignedOf 16 err) s.atbRate p), goodEdges := g } ∧
      (s.edgeAccept err p).mem = s.mem := by
  rw [State.edgeAccept_loop hst, ← hg]
  have hatb : (s.edgeLooped err p).atb = { s.atb with
      rate := max 1 (Config.dpllPeriod (s.get ATB.CTRL_BW) (unsignedOf 16 err) s.atbRate p), goodEdges := g } := by rw [hg]; rfl
  have hget : (s.edgeLooped err p).get ATB.STATE_STATE = s.get ATB.STATE_STATE :=
    State.get_edgeShown (Fld.clear_of_apart (by decide) _ _) err p
  by_cases henter : 8 ≤ g ∧ s.atbSt ≠ abLOCKED
  · obtain ⟨h8, hne⟩ := henter
    rw [if_pos (by simp [h8, hne]), State.atbEnter_calm (s := s.edgeLooped err p) (fun h => hne (hget.symm.trans h)) hidle (.inr (.inl rfl)),
      State.enterBody_locked, if_pos h8, State.atbSt]
    refine ⟨?_, ?_, ?_, fun _ _ => State.get_set_fits _ (by decide), hatb, rfl⟩
    · rw [State.get_set_apart _ (by decide), State.get_set_apart _ (by decide)]
      exact State.edgeShown_err err p
    · rw [State.get_set_apart _ (by decide), State.get_set_apart _ (by decide)]
      exact State.edgeShown_period err hp
    · rw [State.get_set_apart _ (by decide), State.get_set_fits _ (by decide)]
  · rw [if_neg (by simpa using henter)]
    refine ⟨State.edgeShown_err err p, State.edgeShown_period err hp, hget.trans ?_, fun h hn => absurd ⟨h, hn⟩ henter, hatb, rfl⟩
    split
    · exact Decidable.byContradiction fun hne => henter ⟨by assumption, hne⟩
    · rfl

end

end Sys2Proof.Machine
end

section
/-! PROOFS. R39, R43, R45: the first edge's step, HOLDOVER and its limit. -/

namespace Sys2Proof.Machine

open Sys2Proof

/-! ### What a step of the angle leaves (R43) -/

/-- The registers of the timebase that a step of the angle leaves alone. -/
def movedFlds : List Fld := [ATB.OFFSET_OFFSET, ATB.STATE_STATE, ATB.PERIOD_PERIOD, ATB.PHERR_PHERR]

/-- From `s` to `t` the angle may have been stepped: the OFFSET applied and `movedFlds` are as before, and CYCLE_VALID too where no
adjustment was armed. -/
structure Moved (s t : State) : Prop where
  applied : t.atb.offApplied = s.atb.offApplied
  valid : s.atb.adjArmed = false → t.atb.adjArmed = false ∧ t.get ATB.STATE_CYCLE_VALID = s.get ATB.STATE_CYCLE_VALID
  get : ∀ f ∈ movedFlds, t.get f = s.get f

namespace Moved
variable {s t u : State}

theorem refl (s : State) : Moved s s := ⟨rfl, fun h => ⟨h, rfl⟩, fun _ _ => rfl⟩

theorem trans (h : Moved s t) (h' : Moved t u) : Moved s u where
  applied := h'.applied.trans h.applied
  valid hadj := by
    obtain ⟨harm, hval⟩ := h.valid hadj
    obtain ⟨harm', hval'⟩ := h'.valid harm
    exact ⟨harm', hval'.trans hval⟩
  get f hf := (h'.get f hf).trans (h.get f hf)

theorem lamp (h : LampSide s t) : Moved s t :=
  ⟨congrArg Atb.offApplied h.atb, fun hadj => ⟨(congrArg Atb.adjArmed h.atb).trans hadj, h.get _ _⟩, fun f _ => h.get f 0⟩

theorem passed (h : Passed s t) : Moved s t := by
  obtain ⟨p, q, hatb⟩ := h.atb
  have hget : ∀ f ∈ ATB.STATE_CYCLE_VALID :: movedFlds, t.get f = s.get f := fun f hf =>
    h.get f 0 ((by decide : ∀ f ∈ ATB.STATE_CYCLE_VALID :: movedFlds, atbKey (f.key 0) = true) f hf) (Fld.clear_of_apart
      ((by decide : ∀ f ∈ ATB.STATE_CYCLE_VALID :: movedFlds, ∀ g ∈ [ATB.STATUS_SLOT_PREP, ATB.STATUS_SLOT_SUPPRESSED,
        ATB.AEV_STATUS_FIRED], f.apart g = true) f hf) _ _)
  exact ⟨(congrArg Atb.offApplied hatb : _), fun hadj => ⟨(congrArg Atb.adjArmed hatb : _).trans hadj,
    hget _ (List.mem_cons_self ..)⟩, fun f hf => hget f (List.mem_cons_of_mem _ hf)⟩

theorem slots (h : SlotsEnd s t) : Moved s t := by
  obtain ⟨r, hatb⟩ := h.atb
  have hget : ∀ f ∈ ATB.STATE_CYCLE_VALID :: movedFlds, t.get f = s.get f := fun f hf =>
    h.get f 0 ((by decide : ∀ f ∈ ATB.STATE_CYCLE_VALID :: movedFlds, atbKey (f.key 0) = true) f hf) (Fld.clear_of_apart
      ((by decide : ∀ f ∈ ATB.STATE_CYCLE_VALID :: movedFlds, ∀ g ∈ [ATB.CUR_SLOT_IN_SLOT, ATB.STATUS_SLOT_END],
        f.apart g = true) f hf) _ _)
  exact ⟨(congrArg Atb.offApplied hatb : _), fun hadj => ⟨(congrArg Atb.adjArmed hatb : _).trans hadj,
    hget _ (List.mem_cons_self ..)⟩, fun f hf => hget f (List.mem_cons_of_mem _ hf)⟩

section
variable (h : Moved s t)
include h

/-- A change of the timebase's own state beside the OFFSET applied and the arming. -/
theorem updAtb (g : Atb → Atb) (hg : ∀ a, (g a).offApplied = a.offApplied ∧ (g a).adjArmed = a.adjArmed) : Moved s (t.updAtb g) := by
  obtain ⟨happlied, hadj⟩ := hg t.atb
  exact h.trans ⟨happlied, fun h => ⟨hadj.trans h, rfl⟩, fun _ _ => rfl⟩

theorem set (f : Fld) (v : Nat) (hf : ∀ g ∈ ATB.STATE_CYCLE_VALID :: movedFlds, g.apart f = true) : Moved s (t.set f v) :=
  h.trans ⟨rfl, fun h => ⟨h, State.get_set_apart t (hf _ (List.mem_cons_self ..)) v⟩,
    fun g hg => State.get_set_apart t (hf g (List.mem_cons_of_mem _ hg)) v⟩

theorem aevPass (lo hi : Nat) : Moved s (t.aevPass lo hi) := h.trans (passed ((Passed.refl t).aevPass lo hi))

theorem stepPassNext (a b : Nat) : Moved s ((t.stepPass a b).stepPassNext b) :=
  h.trans (passed (((Passed.refl t).stepPass a b).stepPassNext b))

theorem slotEndAll : Moved s t.slotEndAll := h.trans (slots (SlotsEnd.slotEndAll t))

theorem pdSpoil : Moved s t.pdSpoil := h.trans (lamp (LampSide.pdSpoil t))

end

theorem boundaryMark (s : State) (ns : Nat) : Moved s (s.boundaryMark ns) := by
  unfold State.boundaryMark
  extract_lets cyc s2
  have h2 : Moved s s2 := by
    refine Moved.set ?_ _ _ (by decide)
    exact Moved.updAtb (refl s) _ fun _ => ⟨rfl, rfl⟩
  split
  · exact h2.set _ _ (by decide)
  · exact h2

/-- Of an adjustment only one that is armed makes CYCLE valid. -/
theorem adjApply (s : State) : Moved s s.adjApply := by
  unfold State.adjApply
  split
  next hadj =>
    refine ⟨rfl, fun h => absurd hadj (by rw [h]; decide), fun f hf => ?_⟩
    have hf' := (by decide : ∀ f ∈ movedFlds, f.apart ATB.STATE_CYCLE_VALID = true ∧ f.apart ATB.STATUS_CYCLE_STEP = true) f hf
    obtain ⟨hvalid, hstep⟩ := hf'
    rw [State.get_set_apart _ hvalid, State.get_set_apart _ hstep, State.get_updAtb]
  next => exact refl s

theorem planSwap (s : State) : Moved s s.planSwap := by
  unfold State.planSwap
  split
  · refine Moved.set ?_ _ _ (by decide)
    refine Moved.set ?_ _ _ (by decide)
    refine Moved.set ?_ _ _ (by decide)
    refine Moved.set ?_ _ _ (by decide)
    exact Moved.updAtb (refl s) _ fun _ => ⟨rfl, rfl⟩
  · exact refl s

/-- A boundary at which no OFFSET waits. -/
theorem boundary {s : State} (hoff : s.get ATB.OFFSET_OFFSET = s.atb.offApplied) (ns : Nat) : Moved s (s.boundary ns) := by
  have hform : s.boundary ns = ((s.slotEndAll.boundaryMark ns).adjApply.boundaryRest).when
    ((s.slotEndAll.boundaryMark ns).adjApply.boundaryRest.atbSt == abSYNTH) fun t => t.synthSteer ns := by
    unfold State.boundary State.boundaryMark State.boundaryRest
    dsimp only
  have hmark : Moved s (s.slotEndAll.boundaryMark ns).adjApply :=
    ((refl s).slotEndAll.trans (boundaryMark _ ns)).trans (adjApply _)
  have hrest : Moved s (s.slotEndAll.boundaryMark ns).adjApply.boundaryRest := by
    generalize (s.slotEndAll.boundaryMark ns).adjApply = m at hmark
    have hlamp := LampSide.pdBoundary m
    have hnone : m.pdBoundary.offsetApply = m.pdBoundary := State.offsetApply_none (.inl (by
      rw [hlamp.get, hlamp.atb, hmark.applied, hmark.get _ (by decide)]
      exact hoff))
    unfold State.boundaryRest
    rw [hnone]
    exact (((hmark.trans (lamp hlamp)).trans (planSwap _)).trans (lamp (LampSide.prepClean _))).trans
      (passed ((Passed.refl _).offsetPass _))
  rw [hform]
  obtain ⟨r, hr⟩ := State.steered_form (s := (s.slotEndAll.boundaryMark ns).adjApply.boundaryRest)
    ((s.slotEndAll.boundaryMark ns).adjApply.boundaryRest.atbSt == abSYNTH) ns
  rw [hr]
  exact hrest.updAtb _ fun _ => ⟨rfl, rfl⟩

theorem stepShort (s : State) (new : Nat) : Moved s (s.stepShort new) := by
  have h1 : Moved s s.slotEndAll.pdSpoil := (refl s).slotEndAll.pdSpoil
  unfold State.stepShort
  extract_lets old d s1
  split
  · exact (refl s).updAtb _ fun _ => ⟨rfl, rfl⟩
  · split
    · refine Moved.aevPass ?_ _ _
      refine Moved.updAtb ?_ _ fun _ => ⟨rfl, rfl⟩
      exact h1.stepPassNext old new
    · split
      · exact h1.updAtb _ fun _ => ⟨rfl, rfl⟩
      · exact h1.updAtb _ fun _ => ⟨rfl, rfl⟩

theorem phaseStep {s : State} (hoff : s.get ATB.OFFSET_OFFSET = s.atb.offApplied) (new : Nat) : Moved s (s.phaseStep new) := by
  have h0 : Moved s ((s.slotEndAll.stepPass s.atb.angle 65536).aevPass (s.atb.angle + 1) 65536) :=
    ((refl s).slotEndAll.trans (passed ((Passed.refl _).stepPass _ _))).aevPass _ _
  unfold State.phaseStep
  extract_lets old d s1
  split
  · have h1 : Moved s s1 := h0.trans (boundary (by
      rw [h0.applied, h0.get _ (by decide)]
      exact hoff) _)
    refine Moved.pdSpoil ?_
    refine Moved.aevPass ?_ _ _
    refine Moved.updAtb ?_ _ fun _ => ⟨rfl, rfl⟩
    exact h1.stepPassNext 0 new
  · exact stepShort s new

end Moved

/-- Events passed leave the angle. -/
theorem State.aevPass_angle (s : State) (lo hi : Nat) : (s.aevPass lo hi).atb.angle = s.atb.angle := by
  obtain ⟨p, q, hatb⟩ := ((Passed.refl s).aevPass lo hi).atb
  exact (congrArg Atb.angle hatb : _)

theorem State.stepShort_angle (s : State) (new : Nat) : (s.stepShort new).atb.angle = new := by
  unfold State.stepShort
  extract_lets old d s1
  split
  · rfl
  · split
    · rw [State.aevPass_angle]
      rfl
    · split <;> rfl

theorem State.phaseStep_angle (s : State) (new : Nat) : (s.phaseStep new).atb.angle = new := by
  have hend : ∀ u : State, ((u.updAtb fun a => { a with angle := new, frac := 0 }).aevPass 0 (new + 1)).pdSpoil.atb.angle = new :=
    fun u => by
      rw [(LampSide.pdSpoil _).atb, State.aevPass_angle]
      rfl
  unfold State.phaseStep
  extract_lets old d s1
  split
  · exact hend _
  · exact s.stepShort_angle new

/-! ### The first edge (R39, R43) -/

section
variable {s : State} {err : Int} {p : Nat}

/-- The timebase as the first edge finds it in ACQUIRE, its OFFSET taken. -/
def State.firstEdge (s : State) (err : Int) (p : Nat) : State :=
  (((s.edgeShown err p).atbEnter abACQUIRE).set ATB.STATE_CYCLE_VALID 0).updAtb fun a => { a with
    offApplied := s.get ATB.OFFSET_OFFSET, rate := p }

theorem State.edgeAccept_first (hst : s.atbSt = abFREE ∨ s.atbSt = abSYNTH ∨ s.atbSt = abACQUIRE ∧ s.atb.acqStepped = false) :
    s.edgeAccept err p = (((s.firstEdge err p).phaseStep (s.get ATB.OFFSET_OFFSET)).updAtb fun a =>
      { a with acqStepped := true, goodEdges := 0 }).slotCheck := by
  have hfirst : (s.atbSt == abFREE || s.atbSt == abSYNTH || (s.atbSt == abACQUIRE && !s.atb.acqStepped)) = true := by
    rcases hst with h | h | ⟨h, h'⟩
    · simp [h]
    · simp [h]
    · simp [h, h']
  exact if_pos hfirst

theorem State.firstEdge_shows (hidle : ∀ k, k < 4 → s.runningSlot k = 0) (hp : p < 4294967296) :
    (s.firstEdge err p).atbSt = abACQUIRE ∧ (s.firstEdge err p).atb.adjArmed = s.atb.adjArmed ∧
      (s.firstEdge err p).get ATB.STATE_CYCLE_VALID = 0 ∧ (s.firstEdge err p).get ATB.OFFSET_OFFSET = s.get ATB.OFFSET_OFFSET ∧
      (s.firstEdge err p).get ATB.PERIOD_PERIOD = p ∧ (s.firstEdge err p).get ATB.PHERR_PHERR = unsignedOf 16 err := by
  obtain ⟨u, henter, hst, hatb, -, hget⟩ := State.atbEnter_restart (s := s.edgeShown err p) (.inr rfl) hidle
  have hform : s.firstEdge err p = (u.set ATB.STATE_CYCLE_VALID 0).updAtb fun a => { a with
      offApplied := s.get ATB.OFFSET_OFFSET, rate := p } := by rw [← henter]; rfl
  rw [hform, State.atbSt]
  simp only [State.get_updAtb]
  refine ⟨?_, (congrArg Atb.adjArmed hatb : _), State.get_set_fits _ (by decide), ?_, ?_, ?_⟩
  · rw [State.get_set_apart _ (by decide)]
    exact hst
  · rw [State.get_set_apart _ (by decide), hget _ _ (Fld.clear_of_apart (by decide) _ _),
      State.get_edgeShown (Fld.clear_of_apart (by decide) _ _)]
  · rw [State.get_set_apart _ (by decide), hget _ _ (Fld.clear_of_apart (by decide) _ _), State.edgeShown_period err hp]
  · rw [State.get_set_apart _ (by decide), hget _ _ (Fld.clear_of_apart (by decide) _ _), State.edgeShown_err]

/-- The first edge steps the angle to OFFSET and begins the run of good ones. -/
theorem State.edgeAccept_first_shows (hst : s.atbSt = abFREE ∨ s.atbSt = abSYNTH ∨ s.atbSt = abACQUIRE ∧ s.atb.acqStepped = false)
    (hidle : ∀ k, k < 4 → s.runningSlot k = 0) (hp : p < 4294967296) :
    (s.edgeAccept err p).atbSt = abACQUIRE ∧ (s.edgeAccept err p).atb.angle = s.get ATB.OFFSET_OFFSET ∧
      (s.edgeAccept err p).atb.offApplied = s.get ATB.OFFSET_OFFSET ∧ (s.edgeAccept err p).atb.acqStepped = true ∧
      (s.edgeAccept err p).atb.goodEdges = 0 ∧ (s.edgeAccept err p).get ATB.PERIOD_PERIOD = p ∧
      (s.edgeAccept err p).get ATB.PHERR_PHERR = unsignedOf 16 err ∧
      (s.atb.adjArmed = false → (s.edgeAccept err p).get ATB.STATE_CYCLE_VALID = 0) := by
  obtain ⟨hacq, hadj, hvalid, hoffset, hperiod, hpherr⟩ := State.firstEdge_shows (err := err) hidle hp
  have hmoved := Moved.phaseStep (s := s.firstEdge err p) hoffset (s.get ATB.OFFSET_OFFSET)
  have hangle := (s.firstEdge err p).phaseStep_angle (s.get ATB.OFFSET_OFFSET)
  rw [State.edgeAccept_first hst]
  generalize (s.firstEdge err p).phaseStep (s.get ATB.OFFSET_OFFSET) = v at hmoved hangle
  have hend := SlotsEnd.slotCheck (v.updAtb fun a => { a with acqStepped := true, goodEdges := 0 })
  obtain ⟨r, hr⟩ := hend.atb
  have hall := (hmoved.updAtb (fun a => { a with acqStepped := true, goodEdges := 0 }) fun _ => ⟨rfl, rfl⟩).trans (Moved.slots hend)
  refine ⟨(hall.get _ (by decide)).trans hacq, (congrArg Atb.angle hr : _).trans hangle, hall.applied, (congrArg Atb.acqStepped hr : _),
    (congrArg Atb.goodEdges hr : _), (hall.get _ (by decide)).trans hperiod, (hall.get _ (by decide)).trans hpherr, fun h => ?_⟩
  exact (hall.valid (hadj.trans h)).2.trans hvalid

end

/-! ### HOLDOVER and its limit (R41, R45) -/

section
variable {s : State}

theorem exec_holdover_none (h1 : s.atbSt ≠ abLOCKED) (h2 : s.atbSt ≠ abSYNTH ∨ s.get ATB.CTRL_SRC = 0) : exec .holdover s = .next s := by
  refine if_neg ?_
  rcases h2 with h | h
  · simp [h1, h]
  · simp [State.on, h1, h]

theorem exec_holdover_enters (h : s.atbSt = abLOCKED ∨ s.atbSt = abSYNTH ∧ s.get ATB.CTRL_SRC ≠ 0) :
    exec .holdover s = .next ((s.updAtb fun a => { a with goodEdges := 0 }).atbEnter abHOLDOVER) := by
  refine if_pos ?_
  rcases h with h | ⟨h, h'⟩
  · simp [h]
  · simp [State.on, h, h']

/-- HOLDOVER from a state that was locked, no slot running. -/
theorem State.atbEnter_holdover_shown (h : s.atbSt = abLOCKED ∨ s.atbSt = abSYNTH) (hidle : ∀ k, k < 4 → s.runningSlot k = 0) :
    s.atbEnter abHOLDOVER = (s.enterBody abHOLDOVER).pdSpoil := by
  have hne : s.atbSt ≠ abHOLDOVER := by rcases h with h | h <;> rw [h] <;> decide
  have hlocked : ((s.atbSt == abLOCKED || s.atbSt == abSYNTH) && abHOLDOVER != abLOCKED && abHOLDOVER != abSYNTH) = true := by
    rcases h with h | h <;> rw [h] <;> rfl
  rw [State.atbEnter_idle hne hidle, hlocked]
  rfl

theorem exec_holdover_shows (h : s.atbSt = abLOCKED ∨ s.atbSt = abSYNTH ∧ s.get ATB.CTRL_SRC ≠ 0)
    (hidle : ∀ k, k < 4 → s.runningSlot k = 0) :
    ∃ t, exec .holdover s = .next t ∧ t.atbSt = abHOLDOVER ∧ t.get ATB.STATUS_SYNC_LOST = 1 ∧
      t.atb = { s.atb with goodEdges := 0, holdAt := s.now, rate := if s.get ATB.CTRL_SRC = 0 then s.atbPeriod else 0 } ∧
      t.lum.pdUnsync = true ∧ t.mem = s.mem ∧ regsSame s t [ATB.STATE_STATE.key 0, ATB.STATUS_SYNC_LOST.key 0] := by
  have hfrom : (s.updAtb fun a => { a with goodEdges := 0 }).atbSt = abLOCKED ∨
      (s.updAtb fun a => { a with goodEdges := 0 }).atbSt = abSYNTH := h.imp id And.left
  refine ⟨_, exec_holdover_enters h, ?_⟩
  rw [State.atbEnter_holdover_shown hfrom hidle, State.enterBody_holdover, State.atbSt]
  have hlamp := LampSide.pdSpoil (((((s.updAtb fun a => { a with goodEdges := 0 }).set ATB.STATE_STATE abHOLDOVER).set
    ATB.STATUS_SYNC_LOST 1)).updAtb fun a => { a with
      holdAt := (s.updAtb fun a => { a with goodEdges := 0 }).now
      rate := if (s.updAtb fun a => { a with goodEdges := 0 }).on ATB.CTRL_SRC then 0 else (s.updAtb fun a => { a with goodEdges := 0 }).atbPeriod })
  have hrate : (if (s.updAtb fun a => { a with goodEdges := 0 }).on ATB.CTRL_SRC then 0 else
      (s.updAtb fun a => { a with goodEdges := 0 }).atbPeriod) = if s.get ATB.CTRL_SRC = 0 then s.atbPeriod else 0 := by
    by_cases h0 : s.get ATB.CTRL_SRC = 0
    · rw [if_pos h0, if_neg (by simp [State.on, h0])]
      rfl
    · rw [if_neg h0, if_pos (by simp [State.on, h0])]
  rw [hrate] at hlamp ⊢
  refine ⟨?_, ?_, hlamp.atb, rfl, hlamp.mem, regsSame_of_clear (l := [ATB.STATE_STATE, ATB.STATUS_SYNC_LOST]) fun f n hf => ?_⟩
  · rw [hlamp.get, State.get_updAtb, State.get_set_apart _ (by decide), State.get_set_fits _ (by decide)]
  · rw [hlamp.get, State.get_updAtb, State.get_set_fits _ (by decide)]
  · rw [hlamp.get, State.get_updAtb, State.get_set_clear hf (by decide), State.get_set_clear hf (by decide), State.get_updAtb]

section
variable (hst : s.atbSt = abHOLDOVER)
include hst

theorem exec_holdExpired_enters : exec .holdExpired s = .next ((s.set ATB.STATUS_HOLD_EXPIRED 1).atbEnter
    (if !s.on ATB.CTRL_SRC && s.on ATB.STATE_PTP_OK then abSYNTH else abFREE)) := if_pos (by simp [hst])

theorem State.holdExpired_st : (s.set ATB.STATUS_HOLD_EXPIRED 1).atbSt = abHOLDOVER :=
  (State.get_set_apart s (g := ATB.STATE_STATE) (f := ATB.STATUS_HOLD_EXPIRED) (by decide) 1).trans hst

theorem exec_holdExpired_free (h : s.get ATB.STATE_PTP_OK = 0 ∨ s.get ATB.CTRL_SRC ≠ 0) (hidle : ∀ k, k < 4 → s.runningSlot k = 0) :
    exec .holdExpired s = .next ((s.set ATB.STATUS_HOLD_EXPIRED 1).set ATB.STATE_STATE abFREE) := by
  have hst' := State.holdExpired_st hst
  rw [exec_holdExpired_enters hst, if_neg (by rcases h with h | h <;> simp [State.on, h]), State.atbEnter_calm (s := s.set ATB.STATUS_HOLD_EXPIRED 1) (by rw [hst']; decide) hidle
    (.inl (by rw [hst']; decide)), State.enterBody_plain (.inr rfl)]

theorem exec_holdExpired_synth (hsrc : s.get ATB.CTRL_SRC = 0) (hptp : s.get ATB.STATE_PTP_OK ≠ 0)
    (hidle : ∀ k, k < 4 → s.runningSlot k = 0) :
    ∃ t, exec .holdExpired s = .next t ∧ t.atbSt = abSYNTH ∧ t.get ATB.STATUS_HOLD_EXPIRED = 1 ∧ t.get ATB.STATUS_LOCKED = 1 ∧
      (s.atb.anchor = none → t.atb = { s.atb with rate := 0 }) ∧ t.atb.cycle = s.atb.cycle ∧ t.atb.angle = s.atb.angle ∧ t.mem = s.mem ∧
      regsSame s t [ATB.STATUS_HOLD_EXPIRED.key 0, ATB.STATE_STATE.key 0, ATB.STATUS_LOCKED.key 0] := by
  have hst' := State.holdExpired_st hst
  refine ⟨_, exec_holdExpired_enters hst, ?_⟩
  rw [if_pos (by simp [State.on, hsrc, hptp]), State.atbEnter_calm (s := s.set ATB.STATUS_HOLD_EXPIRED 1) (by rw [hst']; decide) hidle (.inr (.inr rfl)), State.enterBody_synth]
  generalize hu : ((s.set ATB.STATUS_HOLD_EXPIRED 1).set ATB.STATE_STATE abSYNTH).set ATB.STATUS_LOCKED 1 = u
  have hatb : u.atb = s.atb := by rw [← hu]; rfl
  obtain ⟨r, hr⟩ := u.synthSteer_form u.ptpNow
  have hanchorless : s.atb.anchor = none → u.synthSteer u.ptpNow = u.updAtb fun a => { a with rate := 0 } := fun ha => by
    unfold State.synthSteer
    rw [hatb, ha]
  refine ⟨?_, ?_, ?_, fun ha => by rw [hanchorless ha, ← hatb]; rfl, by rw [hr, ← hatb]; rfl, by rw [hr, ← hatb]; rfl, by rw [hr, ← hu]; rfl,
    regsSame_of_clear (l := [ATB.STATUS_HOLD_EXPIRED, ATB.STATE_STATE, ATB.STATUS_LOCKED]) fun f n hf => ?_⟩
  · rw [State.atbSt, hr, State.get_updAtb, ← hu, State.get_set_apart _ (by decide), State.get_set_fits _ (by decide)]
  · rw [hr, State.get_updAtb, ← hu, State.get_set_apart _ (by decide), State.get_set_apart _ (by decide), State.get_set_fits _ (by decide)]
  · rw [hr, State.get_updAtb, ← hu, State.get_set_fits _ (by decide)]
  · rw [hr, State.get_updAtb, ← hu, State.get_set_clear hf (by decide), State.get_set_clear hf (by decide), State.get_set_clear hf (by decide)]

end
end

/-- Settles O37: by the state that each command enters with no slot running, the loop's figures for the edges that it takes, and the step
of the first one, whose slots, events and boundary leave the OFFSET applied. -/
theorem atbSourceEdgesAndHoldover : Obligations.AtbSourceEdgesAndHoldover := by
  unfold Obligations.AtbSourceEdgesAndHoldover
  refine ⟨fun s hen hsrc hst hidle => congrArg Host.Outcome.next (State.atbEnable_acquire hen hst hidle hsrc),
    fun s hen hsrc hst hidle hfree => congrArg Host.Outcome.next (State.atbEnable_free hen hst hidle hsrc hfree),
    fun s hen => congrArg Host.Outcome.next (if_pos (by simpa [State.on] using hen)),
    fun s hen hst hidle => ⟨_, rfl, State.atbDisable_shows hen hst hidle⟩,
    fun s hen => congrArg Host.Outcome.next (if_neg (by simp [State.on, hen])),
    fun s src hen hsrc hidle => ⟨_, rfl, State.atbSource_shows hen hsrc hidle⟩,
    fun s src hsrc => congrArg Host.Outcome.next (if_pos (by simpa using hsrc)), fun s src hsrc hen => ?_, fun s hidle => ?_,
    fun s v => rfl, fun s rising held angle spacing p g err hangle hpass hst hsrc hidle hp herr hnear hfreq hlt hg => ?_,
    fun s rising held angle spacing p hangle hpass hst hsrc hp => ?_,
    fun s rising held angle spacing g err hangle hpass hst hstep hsrc hidle hfreq hlt herr hg => ?_,
    fun s rising held angle spacing hangle hpass hsrc hst hidle hfreq hlt => ?_,
    fun s rising held angle spacing hpass hsrc hst hfreq => ?_, fun s rising held angle spacing h => exec_mainsEdge_ignored h,
    fun s h hidle => exec_holdover_shows h hidle, fun s h1 h2 => exec_holdover_none h1 h2,
    fun s hst h hidle => exec_holdExpired_free hst h hidle, fun s hst hsrc hptp hidle => exec_holdExpired_synth hst hsrc hptp hidle,
    fun s hst => if_neg (by simpa using hst)⟩
  · exact congrArg Host.Outcome.next ((if_neg (by simpa using hsrc)).trans (if_pos (by simp [State.on, hen])))
  · exact congrArg Host.Outcome.next (State.slotCheck_idle (s := s.set ATB.CTRL_STANDALONE 0) hidle)
  · have hexec := exec_mainsEdge_loop (held := held) (rising := rising) hpass hsrc hangle hst hp
    rw [if_neg (by simp [← herr, hfreq, hnear]), ← herr] at hexec
    obtain ⟨h1, h2, h3, -, h5, h6⟩ := State.edgeAccept_shows (hst.imp id .inl) hidle hlt hg
    exact ⟨_, hexec, h1, h2, h3, h5, h6⟩
  · have hexec := exec_mainsEdge_loop (held := held) (rising := rising) hpass hsrc hangle hst hp
    refine ⟨fun hfar hfreq => ?_, fun hnear hfreq => ?_, fun hfar hfreq => ?_⟩
    · rw [hexec, decide_eq_true hfar, hfreq]
      rfl
    · rw [hexec, decide_eq_false (Nat.not_lt.2 hnear), hfreq]
      rfl
    · rw [hexec, decide_eq_true hfar, hfreq]
      rfl
  · have hexec := exec_mainsEdge_search (held := held) (rising := rising) (angle := angle) (spacing := spacing) hpass hsrc (.inl hst)
    rw [if_neg (by simp [hfreq]), if_pos (by simp [hst, hstep]), Nat.mod_eq_of_lt hangle, ← herr] at hexec
    obtain ⟨h1, h2, h3, h4, h5, h6⟩ := State.edgeAccept_shows (.inr (.inr ⟨hst, hstep⟩)) hidle hlt hg
    rw [hst] at h3
    exact ⟨_, hexec, h1, h2, h3, fun h => h4 h (by rw [hst]; decide), h5, h6⟩
  · have hst' : s.atbSt = abACQUIRE ∨ s.atbSt = abFREE ∨ s.atbSt = abSYNTH := by
      rcases hst with h | h | ⟨h, -⟩
      · exact .inr (.inl h)
      · exact .inr (.inr h)
      · exact .inl h
    have hfirst : (s.atbSt == abACQUIRE && s.atb.acqStepped) = false := by
      rcases hst with h | h | ⟨h, h'⟩
      · rw [h]; rfl
      · rw [h]; rfl
      · rw [h', Bool.and_false]
    have hexec := exec_mainsEdge_search (held := held) (rising := rising) (angle := angle) (spacing := spacing) hpass hsrc hst'
    rw [if_neg (by simp [hfreq]), if_neg (by simp [hfirst]), Nat.mod_eq_of_lt hangle] at hexec
    exact ⟨_, hexec, State.edgeAccept_first_shows hst hidle hlt⟩
  · rw [exec_mainsEdge_search hpass hsrc hst, if_pos (by simp [hfreq])]
    rfl

end Sys2Proof.Machine
end

section
/-! PROOFS. R8, R23, R25, R26, R484, R485, R494: what WARM and COLD leave, and a bring-up without firmware. -/

namespace Sys2Proof.Machine

open Sys2Proof

/-! ### A reset while REF_FAIL holds the device (R25, R466) -/

/-- The causes of a software reset and of the pin. -/
def warmCauses : List Fld := [SYS.RST_CAUSE_SOFT, SYS.RST_CAUSE_PIN]

/-- Each of these commands notes its cause and asserts WARM. -/
theorem exec_warm {s : State} {c : Instr} {f : Fld} (h : (c = .warmReset ∧ f = SYS.RST_CAUSE_SOFT) ∨
    (c = .restart ∧ f = SYS.RST_CAUSE_SOFT) ∨ (c = .resetNPin ∧ f = SYS.RST_CAUSE_PIN)) :
    f ∈ warmCauses ∧ exec c s = .next (s.set f 1).warm := by
  rcases h with ⟨rfl, rfl⟩ | ⟨rfl, rfl⟩ | ⟨rfl, rfl⟩
  · exact ⟨by decide, rfl⟩
  · exact ⟨by decide, rfl⟩
  · exact ⟨by decide, rfl⟩

theorem warmCauses_kept : ∀ f ∈ warmCauses, keptKey (f.key 0) = true ∧ (∀ g ∈ warmFlds, f.apart g = true) ∧
    RGE.KILL_PIN.apart f = true ∧ 1 < 2 ^ f.width := by decide +kernel

theorem warmFlds_kept : ∀ g ∈ warmFlds, keptKey (g.key 0) = true := by decide +kernel

section
variable {s : State} {f : Fld} (hf : f ∈ warmCauses)
include hf

/-- The cause outlives the reset. -/
theorem State.warmBase_cause : (s.set f 1).warmBase.get f = 1 := by
  obtain ⟨hkept, hclear, -, hfits⟩ := warmCauses_kept f hf
  rw [State.get_warmBase_kept _ hkept (Fld.clear_of_apart hclear _ _), State.get_set_fits _ hfits]

theorem State.warmBase_pin : (s.set f 1).get RGE.KILL_PIN = s.get RGE.KILL_PIN := by
  obtain ⟨-, -, hpin, -⟩ := warmCauses_kept f hf
  exact State.get_set_apart s hpin 1

/-- Without the kill's pin every register outside AON and MRAM reads its reset value. -/
theorem State.warmBase_reset (hpin : s.get RGE.KILL_PIN = 0) {g : Fld} {n : Nat} (hg : keptKey (g.key n) = false) :
    (s.set f 1).warmBase.get g n = g.rst n := by
  have hclear : g.clear n warmFlds 0 := fun x hx heq => by
    rw [heq, warmFlds_kept x hx] at hg
    exact absurd hg (by decide)
  rw [State.warmBase_eq, if_neg (by rw [State.on, State.warmBase_pin hf, hpin]; decide), State.get_warmCore _ hclear]
  exact State.get_resetCore_reset _ hg

omit hf in
theorem State.warmBase_kept {g : Fld} {n : Nat} (hg : keptKey (g.key n) = true) (hne : g.key n ≠ f.key 0) (hclear : g.clear n warmFlds 0) :
    (s.set f 1).warmBase.get g n = s.get g n :=
  (State.get_warmBase_kept _ hg hclear).trans (State.get_set_ne _ _ _ _ _ _ hne)

/-- With it the kill stands again. -/
theorem State.warmBase_killed (hpin : s.get RGE.KILL_PIN ≠ 0) : (s.set f 1).warmBase.get RGE.KILL_PIN = 1 ∧
    (s.set f 1).warmBase.get RGE.STATE_KILL_ACTIVE = 1 ∧ (s.set f 1).warmBase.get RGE.STATUS_KILL_PIN = 1 := by
  have hstill := (s.set f 1).warmPinned_still
  rw [State.warmBase_eq, if_pos (by simpa [State.on, State.warmBase_pin hf] using hpin)]
  refine ⟨?_, hstill.killPin_active 25, hstill.killPin_status 25⟩
  rw [hstill.get_killPin (Fld.clear_of_apart (by decide) _ _), State.get_set_fits _ (by decide)]

end

theorem State.rd8_warmBase_low (s : State) {a : Nat} (h : a < 0x28000000) : s.warmBase.rd8 a = 0 := by rw [s.rd8_warmBase, if_pos h]

theorem State.rd8_warmBase_high (s : State) {a : Nat} (h : 0x28000000 ≤ a) : s.warmBase.rd8 a = s.rd8 a := by
  rw [s.rd8_warmBase, if_neg (Nat.not_lt.2 h)]

/-- A reset that nothing holds is followed by bring-up. -/
theorem State.warm_runs {s : State} (h : s.coreP.refHeld = false) : s.warm = s.warmBase.rise := by
  rw [State.warm, s.warmBase_refHeld, h, if_neg (by decide)]

/-! ### A bring-up without firmware (R487, R491) -/

section
variable (s : State)

theorem State.get_bootReport {f : Fld} (h : ∀ g ∈ [SYS.BOOT_FW, SYS.BOOT_LSQ, SYS.BOOT_TBL, SYS.BOOT_TRIAL, SYS.BOOT_FAIL,
    SYS.BOOT_RESULT], f.apart g = true) (fw : Option Nat) (pair : Option (Nat × Nat)) : (s.bootReport fw pair).get f = s.get f := by
  have hclear : f.clear 0 [SYS.BOOT_FW, SYS.BOOT_LSQ, SYS.BOOT_TBL, SYS.BOOT_TRIAL, SYS.BOOT_FAIL, SYS.BOOT_RESULT] 0 :=
    Fld.clear_of_apart h _ _
  unfold State.bootReport
  extract_lets rej fail s1 s2
  have h2 : s2.get f = s.get f := by
    rw [State.get_set_clear hclear (by decide), State.get_set_clear hclear (by decide), State.get_set_clear hclear (by decide),
      State.get_set_clear hclear (by decide), State.get_set_clear hclear (by decide), State.get_set_clear hclear (by decide)]
  exact State.forL_keep (fun t => t.get f = s.get f) _ _ s2 h2 fun k _ t ht => (State.get_logP _ _ _ _ _ _).trans ht

end

/-- FAILSAFE entered from QUIET shows itself. -/
theorem State.enterFailsafe_shows {s : State} (h : s.mode = mdQUIET) {cause : Nat} (hc : cause < SYS.MODE_CAUSE.width) :
    (s.enterFailsafe cause).mode = 3 ∧ (s.enterFailsafe cause).bit SYS.MODE_CAUSE cause = true ∧
      (s.enterFailsafe cause).get LUM.FS_CTRL_ENGAGED ≠ 0 ∧ (s.enterFailsafe cause).bit PWR.STATE_DOM 3 = false := by
  refine ⟨?_, ?_, ?_, State.enterFailsafe_core s cause (by rw [h]; decide)⟩
  all_goals rw [State.enterFailsafe_of_quiet h]
  · exact State.setMode_mode _ (by decide)
  · rw [State.bit, State.get_setMode_ne _ _ _ _ (by decide)]
    exact State.failsafeBegin_cause _ cause hc
  · rw [State.get_setMode_ne _ _ _ _ (by decide)]
    exact State.failsafeBegin_engaged _ _

/-- No firmware image that is accepted. -/
theorem State.bringUp_imageless {s : State} (h : ∀ k, k < 2 → (s.bootVotes.bootClocks.set SYS.MODE_MODE 1).imgOk 0 k = false) :
    s.bringUp = ((s.bootVotes.bootClocks.set SYS.MODE_MODE 1).bootReport none none).enterFailsafe csNOIMAGE := by
  unfold State.bringUp
  extract_lets s1
  have hnone : (bootOrder (s1.get AON.BOOT_PTR_FW)).find? (fun k => s1.imgOk 0 k) = none := by
    refine List.find?_eq_none.2 fun k hk => ?_
    have hlt : k < 2 := by
      rcases List.mem_cons.1 hk with rfl | hk
      · exact Nat.mod_lt _ (by decide)
      · rw [List.mem_singleton.1 hk]
        omega
    exact Bool.eq_false_iff.1 (h k hlt)
  rw [hnone]
  rfl

/-- Out of CORE there is no commissioned node. -/
theorem State.wantsField_off {s : State} (h : s.bit PWR.STATE_DOM 3 = false) : s.wantsField = false := by simp [State.wantsField, h]

/-! ### COLD (R23, R25) -/

/-- A commit cut short leaves registers, memory and the stores beside the tag's. -/
theorem State.commitCut_form (s : State) : ∃ h k, s.commitCut = { s with hft := h, freeCount := k } := by
  unfold State.commitCut
  split
  · exact ⟨_, _, rfl⟩
  · extract_lets k s1
    split
    · exact ⟨_, _, rfl⟩
    · exact ⟨_, _, rfl⟩

/-- The tag's counters shown again. -/
def State.monoShown (s : State) : State := s.forN 4 fun c t => t.set HFT.MONO_VALUE (t.mono c) c

theorem State.monoShown_form (s : State) : ∃ r, s.monoShown = { s with regs := r } :=
  State.forN_keep (fun t => ∃ r, t = { s with regs := r }) _ 4 s ⟨s.regs, rfl⟩ fun _ _ t ht => by
    obtain ⟨r, rfl⟩ := ht
    exact ⟨_, rfl⟩

/-- A state at its reset values but for what outlives COLD. -/
def State.coldStart (s : State) : State :=
  let h : Hft := { slots := s.hft.slots, backup := s.hft.backup, genP := s.hft.genP, genB := s.hft.genB
                   marker := s.hft.marker, failed := s.hft.failed, fails := s.hft.fails
                   monoP := s.hft.monoP, monoB := s.hft.monoB, monoBad := s.hft.monoBad }
  { State.reset with
    pending := s.pending, now := s.now, freeCount := s.freeCount, objs := s.objs, nv := s.nv, hft := h
    mpt := { ext := s.mpt.ext }, mem := Tab.clear (fun a => decide (a < 0x30000000)) s.mem }

/-- What COLD leaves but for a kill that stands: the tag's state in MRAM, the stores, and the memories on the Memory Port. -/
def State.coldCore (s0 : State) : State :=
  let s := s0.commitCut
  let s2 := ((s.coldStart.setFails s.hft.fails).set HFT.STATE_LOCKOUT (b2n (8 ≤ s.hft.fails))).monoShown
  ((s2.set HFT.STATE_FIELD (s.get HFT.STATE_FIELD)).set HFR.STATE_TAG_FIELD (s.get HFR.STATE_TAG_FIELD)).set
    SYS.LC_STATE s.nv.lc

/-- The registers that show what MRAM keeps. -/
def coldFlds : List Fld := [HFT.STATE_FAILS, HFT.STATE_LOCKOUT, HFT.STATE_FIELD, HFR.STATE_TAG_FIELD, SYS.LC_STATE]

section
variable (s : State)

theorem State.coldBase_eq : s.coldBase =
    if s.commitCut.on RGE.KILL_PIN then (s.coldCore.set RGE.KILL_PIN 1).killBy RGE.STATUS_KILL_PIN 25 else s.coldCore := rfl

/-- Registers and the tag's state set over a state leave the rest of it. -/
theorem State.coldCore_form : ∃ r h, s.coldCore = { s.commitCut.coldStart with regs := r, hft := h } := by
  unfold State.coldCore
  dsimp only
  obtain ⟨r, hr⟩ := ((s.commitCut.coldStart.setFails s.commitCut.hft.fails).set HFT.STATE_LOCKOUT
    (b2n (8 ≤ s.commitCut.hft.fails))).monoShown_form
  rw [hr]
  exact ⟨_, _, rfl⟩

/-- Another register reads its reset value. -/
theorem State.get_coldCore {f : Fld} (h : ∀ g ∈ coldFlds, f.apart g = true) (hm : ∀ c, c < 4 → f.key 0 ≠ HFT.MONO_VALUE.key c) :
    s.coldCore.get f = f.rst 0 := by
  have hclear : f.clear 0 coldFlds 0 := Fld.clear_of_apart h _ _
  unfold State.coldCore State.setFails
  dsimp only
  generalize hu : ((s.commitCut.coldStart.updHft fun y => { y with fails := s.commitCut.hft.fails }).set HFT.STATE_FAILS
    s.commitCut.hft.fails).set HFT.STATE_LOCKOUT (b2n (8 ≤ s.commitCut.hft.fails)) = u
  have h1 : u.get f = f.rst 0 := by
    rw [← hu, State.get_set_clear hclear (by decide), State.get_set_clear hclear (by decide)]
    rfl
  have h2 : u.monoShown.get f = f.rst 0 := State.forN_keep (fun t => t.get f = f.rst 0) _ 4 u h1 fun k hk t ht =>
    (State.get_set_ne _ _ _ _ _ _ (hm k hk)).trans ht
  rw [State.get_set_clear hclear (by decide), State.get_set_clear hclear (by decide), State.get_set_clear hclear (by decide), h2]

theorem State.coldPinned_still : (s.coldCore.set RGE.KILL_PIN 1).Still where
  grant := (State.get_set_apart _ (by decide) _).trans (s.get_coldCore (by decide) (by decide))
  hst := (State.get_set_apart _ (by decide) _).trans (s.get_coldCore (by decide) (by decide))
  utx := by
    obtain ⟨r, h, hcore⟩ := s.coldCore_form
    rw [hcore]
    rfl
  hfr := by
    obtain ⟨r, h, hcore⟩ := s.coldCore_form
    rw [hcore]
    rfl

theorem State.coldBase_only : RgeOnly s.coldCore s.coldBase := by
  rw [State.coldBase_eq]
  split
  · exact (RgeOnly.set _ _ _).trans (s.coldPinned_still.killBy_only _ _ (by decide) (by decide))
  · exact .refl

theorem State.get_coldBase {f : Fld} (h : ∀ g ∈ coldFlds, f.apart g = true) (hm : ∀ c, c < 4 → f.key 0 ≠ HFT.MONO_VALUE.key c)
    (hpin : ∀ g ∈ RGE.KILL_PIN :: killPinFlds, f.apart g = true) : s.coldBase.get f = f.rst 0 := by
  rw [State.coldBase_eq]
  split
  · rw [s.coldPinned_still.get_killPin (Fld.clear_of_apart (fun g hg => hpin g (List.mem_cons_of_mem _ hg)) _ _),
      State.get_set_apart _ (hpin _ (List.mem_cons_self ..)), s.get_coldCore h hm]
  · exact s.get_coldCore h hm

/-- COLD clears the memories of the device and leaves those on the Memory Port. -/
theorem State.rd8_coldBase (a : Nat) : s.coldBase.rd8 a = if a < 0x30000000 then 0 else s.rd8 a := by
  obtain ⟨r, h, hcore⟩ := s.coldCore_form
  obtain ⟨y, k, hcut⟩ := s.commitCut_form
  have hmem : s.coldBase.mem = Tab.clear (fun b => decide (b < 0x30000000)) s.mem := by
    rw [s.coldBase_only.mem, hcore, hcut]
    rfl
  rw [State.rd8, hmem]
  split
  · next ha => exact congrArg BitVec.toNat (Tab.get_clear_gone 0 _ _ (decide_eq_true ha))
  · next ha => exact congrArg BitVec.toNat (Tab.get_clear_keep 0 _ _ (decide_eq_false ha))

theorem State.coldBase_stores : s.coldBase.nv = s.nv ∧ s.coldBase.objs = s.objs ∧ s.coldBase.que = [] := by
  obtain ⟨r, h, hcore⟩ := s.coldCore_form
  obtain ⟨y, k, hcut⟩ := s.commitCut_form
  refine ⟨?_, ?_, ?_⟩
  · rw [s.coldBase_only.nv, hcore, hcut]
    rfl
  · rw [s.coldBase_only.objs, hcore, hcut]
    rfl
  · rw [s.coldBase_only.que, hcore]
    rfl

end

/-! ### A brown-out with the field at hand (R23, R484) -/

section
variable (s : State)

theorem exec_brownOut (mv : Nat) (b : Bool) : exec (.brownOut mv b) s = .next (s.brownOut mv b) := rfl

/-- The device under WARM with AON on harvest. -/
def State.browned (s : State) (mv : Nat) : State :=
  ((s.set PWR.STATUS_BROWN_OUT 1).set SYS.RST_CAUSE_BROWN_OUT 1).warmBase.logP 0x23 0 (mv / 16)

theorem State.brownOut_harvest {mv : Nat} (hmv : mv < 4500) (hfield : s.get HFT.STATE_FIELD ≠ 0) : s.brownOut mv true =
    ((((s.browned mv).set PWR.STATE_LINE_OK 0).set PWR.STATE_HARV 1).set HFT.STATE_LINE 0).setBit PWR.STATE_DOM 3 false :=
  (if_neg (Nat.not_le.2 hmv)).trans (if_pos (by simpa [State.on] using hfield))

theorem State.browned_status (mv : Nat) : (s.browned mv).get PWR.STATUS_BROWN_OUT = 1 := by
  unfold State.browned
  rw [State.get_logP, State.get_warmBase_kept _ (by decide +kernel) (Fld.clear_of_apart (by decide) _ _), State.get_set_apart _ (by decide),
    State.get_set_fits _ (by decide)]

theorem State.browned_cause (mv : Nat) : (s.browned mv).get SYS.RST_CAUSE_BROWN_OUT = 1 := by
  unfold State.browned
  rw [State.get_logP, State.get_warmBase_kept _ (by decide +kernel) (Fld.clear_of_apart (by decide) _ _), State.get_set_fits _ (by decide)]

theorem State.rd8_browned (mv : Nat) {a : Nat} (h : a < 0x28000000) : (s.browned mv).rd8 a = 0 :=
  (State.rd8_logP_below _ _ _ _ h).trans (State.rd8_warmBase_low _ h)

theorem State.browned_stores (mv : Nat) : (s.browned mv).nv = s.nv ∧ (s.browned mv).objs = s.objs ∧ (s.browned mv).que = [] := by
  unfold State.browned State.logP
  generalize hw : ((s.set PWR.STATUS_BROWN_OUT 1).set SYS.RST_CAUSE_BROWN_OUT 1).warmBase = w
  obtain ⟨x, hx⟩ := w.faultLog_form 0x2803F410 16 0x23 0 (mv / 16)
  rw [hx, ← hw]
  exact ⟨State.warmBase_nv _, State.warmBase_objs _, State.warmBase_que _⟩

/-- A register written leaves the stores and the queues. -/
theorem State.stores_set {s v : State} (h : v.nv = s.nv ∧ v.objs = s.objs ∧ v.que = []) (f : Fld) (x : Nat) :
    (v.set f x).nv = s.nv ∧ (v.set f x).objs = s.objs ∧ (v.set f x).que = [] := h

theorem exec_brownOut_harvest {mv : Nat} (hmv : mv < 4500) (hfield : s.get HFT.STATE_FIELD ≠ 0) :
    ∃ t, exec (.brownOut mv true) s = .next t ∧ t.get PWR.STATUS_BROWN_OUT = 1 ∧ t.get SYS.RST_CAUSE_BROWN_OUT = 1 ∧
      t.get PWR.STATE_HARV = 1 ∧ t.get HFT.STATE_LINE = 0 ∧ t.bit PWR.STATE_DOM 3 = false ∧
      (∀ a, a < 0x28000000 → t.rd8 a = 0) ∧ t.nv = s.nv ∧ t.objs = s.objs ∧ t.que = [] := by
  obtain ⟨hnv, hobjs, hque⟩ := s.browned_stores mv
  have hstatus := s.browned_status mv
  have hcause := s.browned_cause mv
  have hlow : ∀ a, a < 0x28000000 → (s.browned mv).rd8 a = 0 := fun a ha => s.rd8_browned mv ha
  rw [exec_brownOut, s.brownOut_harvest hmv hfield]
  refine ⟨_, rfl, ?_⟩
  generalize s.browned mv = u at hnv hobjs hque hstatus hcause hlow
  have hmem : ((((u.set PWR.STATE_LINE_OK 0).set PWR.STATE_HARV 1).set HFT.STATE_LINE 0).setBit PWR.STATE_DOM 3 false).mem = u.mem := by
    simp only [State.set_mem, State.setBit_mem]
  obtain ⟨hnv', hobjs', hque'⟩ := State.stores_set (State.stores_set (State.stores_set (State.stores_set ⟨hnv, hobjs, hque⟩
    PWR.STATE_LINE_OK 0) PWR.STATE_HARV 1) HFT.STATE_LINE 0) PWR.STATE_DOM
      (putBit ((((u.set PWR.STATE_LINE_OK 0).set PWR.STATE_HARV 1).set HFT.STATE_LINE 0).get PWR.STATE_DOM) 3 false)
  refine ⟨?_, ?_, ?_, ?_, State.bit_setBit_false _ (by decide) 0, fun a ha => ?_, hnv', hobjs', hque'⟩
  · rw [State.setBit, State.get_set_apart _ (by decide), State.get_set_apart _ (by decide), State.get_set_apart _ (by decide),
      State.get_set_apart _ (by decide), hstatus]
  · rw [State.setBit, State.get_set_apart _ (by decide), State.get_set_apart _ (by decide), State.get_set_apart _ (by decide),
      State.get_set_apart _ (by decide), hcause]
  · rw [State.setBit, State.get_set_apart _ (by decide), State.get_set_apart _ (by decide), State.get_set_fits _ (by decide)]
  · rw [State.setBit, State.get_set_apart _ (by decide), State.get_set_fits _ (by decide)]
  · rw [State.rd8, hmem]
    exact hlow a ha

end

/-- Settles O51: by what WARM and COLD leave of registers, memories and stores, and by the bring-up that finds no firmware. -/
theorem warmResets : Obligations.WarmResets := by
  unfold Obligations.WarmResets
  refine ⟨fun s c f hheld hpin hc => ?_, fun s c f hheld hpin hc => ?_, fun s u c f hheld hc hu himg => ?_, fun s u c f hheld hc hu => ?_,
    fun s u cls hu => ?_, fun s mv b hmv => (exec_brownOut s mv b).trans (congrArg _ (if_pos hmv)), fun s mv b hmv hfield => ?_,
    fun s mv hmv hfield => exec_brownOut_harvest s hmv hfield⟩
  · obtain ⟨hf, hexec⟩ := exec_warm (s := s) hc
    rw [State.warm_of_held (s := s.set f 1) hheld] at hexec
    refine ⟨_, hexec, State.warmBase_cause hf, fun g n hg => State.warmBase_reset hf hpin hg, fun g n hg hne => ?_,
      fun a ha => State.rd8_warmBase_low _ ha, fun a ha => State.rd8_warmBase_high _ ha, State.warmBase_nv _, State.warmBase_objs _,
      State.warmBase_que _⟩
    refine State.warmBase_kept hg (fun heq => hne (heq ▸ List.mem_map_of_mem (List.mem_cons_self ..))) fun x hx heq => hne ?_
    exact heq ▸ List.mem_map_of_mem (List.mem_cons_of_mem _ ((by decide : ∀ x ∈ warmFlds, x ∈ [SYS.LC_STATE, CAL.BANK_PTR,
      PWR.STATE_DOM, PWR.STATE_BUCKB_ON, PWR.DOM_CTRL_RADIO, PWR.DOM_CTRL_HFR]) x hx))
  · obtain ⟨hf, hexec⟩ := exec_warm (s := s) hc
    rw [State.warm_of_held (s := s.set f 1) hheld] at hexec
    obtain ⟨hkill, hactive, hstatus⟩ := State.warmBase_killed hf hpin
    exact ⟨_, hexec, State.warmBase_cause hf, hkill, hactive, hstatus, fun a ha => State.rd8_warmBase_low _ ha, State.warmBase_nv _,
      State.warmBase_objs _, State.warmBase_que _⟩
  · obtain ⟨hf, hexec⟩ := exec_warm (s := s) hc
    have hmode : ((u.bootVotes.bootClocks.set SYS.MODE_MODE 1).bootReport none none).mode = mdQUIET :=
      (State.get_bootReport _ (by decide) none none).trans (State.get_set_fits _ (by decide))
    obtain ⟨hfs, hcause, hengaged, hdom⟩ := State.enterFailsafe_shows hmode (cause := csNOIMAGE) (by decide)
    rw [State.warm_runs (s := s.set f 1) hheld, ← hu, State.rise, State.bringUp_imageless himg, State.wantsField_off hdom,
      if_neg (by decide)] at hexec
    exact ⟨_, hexec, hfs, hcause, hengaged, hdom⟩
  · obtain ⟨hf, hexec⟩ := exec_warm (s := s) hc
    rw [hexec, State.warm_runs (s := s.set f 1) hheld, ← hu]
    rfl
  · rcases hu with ⟨hharv, rfl⟩ | ⟨hharv, rfl⟩
    · exact congrArg Host.Outcome.next (if_neg (by simp [State.on, hharv]))
    · exact congrArg Host.Outcome.next (if_pos (by simpa [State.on] using hharv))
  · have hcold : exec (.brownOut mv b) s = .next s.coldBase :=
      (exec_brownOut s mv b).trans (congrArg _ ((if_neg (Nat.not_le.2 hmv)).trans (if_neg (by
        rcases hfield with h | h <;> simp [State.on, h]))))
    obtain ⟨hnv, hobjs, hque⟩ := s.coldBase_stores
    refine ⟨_, hcold, fun a ha => ?_, fun a ha => ?_, hnv, hobjs, hque, s.get_coldBase (by decide) (by decide) (by decide),
      s.get_coldBase (by decide) (by decide) (by decide)⟩
    · rw [s.rd8_coldBase, if_pos ha]
    · rw [s.rd8_coldBase, if_neg (Nat.not_lt.2 ha)]

end Sys2Proof.Machine
end

section
/-! PROOFS. What the kill, the end of every lease and the domains' switching leave: the registers of SYS, AON's wake inputs, and the
registers of PWR beside those that show the domains. -/

namespace Sys2Proof.Machine

open Sys2Proof

namespace Aired
variable {s t u : State} (h : Aired s t)
include h


/-! ### The kill (R146) -/

theorem rgeRefuse (n code : Nat) : Aired s (t.rgeRefuse n code) :=
  (((h.rgeLog _ _ _).withRge _).bump (by decide) (by decide) 0 1).set (by decide) 1 0

theorem rgeDeny (n code : Nat) : Aired s (t.rgeDeny n code) := by
  unfold State.rgeDeny
  extract_lets s2
  have h2 : Aired s s2 := (h.rgeRefuse n code).tx ((Beyond.refl _ _).utxDeny n)
  exact h2.tx ((((Beyond.refl _ _).setUtx n _).endWait n).utxReport n _)

theorem killChain (n : Nat) : Aired s (t.killChain n) := by
  unfold State.killChain
  extract_lets s1 s2
  have h1 : Aired s s1 := .ite ((h.giveUp n).rgeDeny n 11) h
  have h2 : Aired s s2 := .ite (h1.rgeRefuse n 11) h1
  exact .ite ((h2.withdraw n true).withRge _) h1

/-- What the HF reader and Fulling's sequences touch. -/
theorem early (h' : EarlyRegs t u) : Aired s u := by
  obtain ⟨hnet, hcore, hnv, hobjs, hnow⟩ := h'.rest
  refine h.trans ⟨fun d k hk => h'.reg d k ?_, hnet, hcore, hnv, hobjs, hnow⟩
  have hrx : rxKey = 0x40080000 * 32 := rfl
  have hrf : rfEnKey = 0x40050004 * 32 := by decide
  simp only [calmKey, Bool.or_eq_true, Bool.and_eq_true, decide_eq_true_eq, beq_iff_eq] at hk
  omega

theorem hfKill : Aired s t.hfKill := h.early (EarlyRegs.refl t).hfKill

theorem killNow : Aired s t.killNow := by
  unfold State.killNow
  exact (((h.set (by decide) 1 0).withRge _).forN fun n _ hu => hu.killChain n).hfKill

theorem killBy {status : Fld} (hs : status.aired = true) (code : Nat) : Aired s (t.killBy status code) :=
  (((h.set hs 1 0).rgeLog code 0 none).bump (by decide) (by decide) 0 1).killNow

theorem killReg : Aired s t.killReg := .ite h ((h.set (by decide) 1 0).killBy (by decide) 26)

theorem killRelease : Aired s t.killRelease := .ite ((h.set (by decide) 0 0).set (by decide) 15 0) h

theorem killRegClear : Aired s t.killRegClear := (h.set (by decide) 0 0).killRelease

theorem voteClean (k : Nat) : Aired s (t.voteClean k) := h.trans ⟨fun _ _ _ => rfl, rfl, rfl, rfl, rfl, rfl⟩

/-! ### Leases of every kind, and sequences of Fulling -/

theorem hfrEnd : Aired s t.hfrEnd := h.early (EarlyRegs.refl t).hfrEnd
theorem hftEnd : Aired s t.hftEnd := h.early (EarlyRegs.refl t).hftEnd
theorem hfrOff : Aired s t.hfrOff := h.early (EarlyRegs.refl t).hfrOff
theorem calStop (l : List Nat) (code : Nat) : Aired s (t.calStop l code) := h.early ((EarlyRegs.refl t).calStop l code)

theorem seqLeaseEnd (n : Nat) (how : LeaseEnd) : Aired s (t.seqLeaseEnd n how) := by
  unfold State.seqLeaseEnd
  split
  next sh hsh => exact h.leaseEnd (List.mem_range.1 (List.mem_of_find?_eq_some hsh)) how
  next => exact h

theorem leaseEndAny (n : Nat) (how : LeaseEnd) : Aired s (t.leaseEndAny n how) :=
  .ite h.hfrEnd (.ite h.hftEnd (h.seqLeaseEnd n how))

/-- The clock outputs are CLK's. -/
theorem outEn {n : Nat} (hn : n < 5) (en : Bool) : Aired s (t.outEn n en) :=
  h.setKey ((by decide : ∀ k, k < 5 → calmKey (CLK.OUT_EN.key k) = false) n hn) _

theorem auxGate : Aired s t.auxGate := h.outEn (by decide) _

theorem fsEngage : Aired s t.fsEngage := by
  unfold State.fsEngage
  refine .ite h ?_
  exact (((h.set (by decide) 1 0).set (by decide) 1 0).bump (by decide) (by decide) 0 1).trans
    ⟨fun _ _ _ => rfl, rfl, rfl, rfl, rfl, rfl⟩

/-- The registers of RADIO's blocks at their reset values (R487). -/
theorem radioRange : Aired s (t.resetRange 0x40060000 0x400C0000) := by
  refine h.trans ⟨fun d k hk => ?_, rfl, rfl, rfl, rfl, rfl⟩
  refine Tab.get_clear_keep d (fun k => decide (0x40060000 ≤ k / 32) && decide (k / 32 < 0x400C0000)) t.regs ?_
  simp only [calmKey, Bool.or_eq_true, Bool.and_eq_true, decide_eq_true_eq, beq_iff_eq] at hk
  simp only [Bool.and_eq_false_iff, decide_eq_false_iff_not]
  have hwake : wakeKey = 0x40190018 * 32 := by decide
  have hrf : rfEnKey = 0x40050004 * 32 := by decide
  omega

theorem wipe (lo hi : Nat) : Aired s (t.wipe lo hi) := h.trans ⟨fun _ _ _ => rfl, rfl, rfl, rfl, rfl, rfl⟩

end Aired

/-! ### The domains RADIO and HFR switched off (R487, R497) -/

/-- `t` has those registers of `s` but for the listed ones, and the core resets that Core P remembers. -/
structure Downed (l : List Fld) (s t : State) : Prop where
  reg : ∀ d k, calmKey k = true → k ∉ l.map (·.key 0) → Tab.get d t.regs k = Tab.get d s.regs k
  resets : t.coreP.resets = s.coreP.resets

/-- What leaving FULL writes of them: the domains, and RF_EN. -/
def stopFlds : List Fld := RGE.CTRL_RF_EN :: warmFlds

namespace Downed
variable {l : List Fld} {s t u : State}

theorem refl (l : List Fld) (s : State) : Downed l s s := ⟨fun _ _ _ _ => rfl, rfl⟩

section
variable (h : Downed l s t)
include h

theorem trans (h' : Downed l t u) : Downed l s u :=
  ⟨fun d k hk hw => (h'.reg d k hk hw).trans (h.reg d k hk hw), h'.resets.trans h.resets⟩

theorem aired (h' : Aired t u) : Downed l s u := h.trans ⟨fun d k hk _ => h'.reg d k hk, congrArg CoreP.resets h'.coreP⟩

theorem ite {c : Prop} [Decidable c] (h' : Downed l s u) : Downed l s (if c then t else u) := by split <;> assumption

theorem get {f : Fld} {n : Nat} (hf : calmKey (f.key n) = true) (hw : f.key n ∉ l.map (·.key 0)) : t.get f n = s.get f n :=
  h.reg _ _ hf hw

theorem set {f : Fld} (hf : f ∈ l) (v : Nat) : Downed l s (t.set f v) := by
  refine h.trans ⟨fun d k _ hw => Tab.get_set_ne _ _ _ _ fun e => hw ?_, rfl⟩
  exact e ▸ List.mem_map_of_mem hf

theorem radioOff (hl : warmFlds ⊆ l) : Downed l s t.radioOff := by
  unfold State.radioOff
  extract_lets capturing s1 off r s2 s3 s4 s5
  have h1 : Aired t s1 := ((Aired.refl t).forN fun n _ hu => hu.leaseEndAny n .fault).calStop _ 10
  have hr : Aired t r := h1.radioRange
  have h2 : Aired t s2 := hr.withRadio _
  have h3 : Aired t s3 := ((h2.wipe _ _).wipe _ _).forN fun q _ hu => hu.set (f := QUE.LEVEL_RSV) (by decide) 0 q
  have h4 : Aired t s4 := ((h3.set (f := RGE.STATE_GRANT) (by decide) 0 0).set (f := RGE.STATE_PREGRANT) (by decide) 0 0).set
    (f := CAL.STATE_APPLIED) (by decide) 0 0
  have h5 : Downed l s s5 := (((h.aired h4).set (f := PWR.STATE_DOM) (hl (by decide)) _).set (f := PWR.STATE_BUCKB_ON)
    (hl (by decide)) 0).aired ((Aired.refl _).outEn (by decide) false)
  have h6 : Downed l s (if capturing then s5.set URX.CAP_STATUS_ABORT 1 else s5) :=
    (h5.aired ((Aired.refl _).set (by decide) 1 0)).ite h5
  exact h6.aired (Aired.refl _).clkSpread

theorem hfrOff (hl : warmFlds ⊆ l) : Downed l s (t.hfrPower false) := by
  have h1 : Aired t (t.calStop [11, 12] 10).hfrOff := ((Aired.refl t).calStop _ 10).hfrOff
  exact ((h.aired h1).set (f := PWR.STATE_DOM) (hl (by decide)) _).aired (Aired.refl _).auxGate

end

theorem radioStop (h : Downed stopFlds s t) : Downed stopFlds s t.radioStop := by
  have hl : warmFlds ⊆ stopFlds := List.subset_cons_self _ _
  unfold State.radioStop
  extract_lets s1 s2
  have h1 : Downed stopFlds s s1 := ((((h.aired (Aired.refl t).killReg).set (f := RGE.CTRL_RF_EN) (by decide) 0).aired
    ((Aired.refl _).voteClean 3)).radioOff hl).hfrOff hl
  have h2 : Downed stopFlds s s2 := (h1.set (f := PWR.DOM_CTRL_RADIO) (by decide) 0).set (f := PWR.DOM_CTRL_HFR) (by decide) 0
  exact h2.ite (h2.aired (Aired.refl _).killRegClear)

/-- With more fields listed. -/
theorem mono {l' : List Fld} (h : Downed l s t) (hl : l ⊆ l') : Downed l' s t :=
  ⟨fun d k hk hw => h.reg d k hk fun hm => hw (List.map_subset _ hl hm), h.resets⟩

theorem ctrStart (h : Downed l s t) : Downed l s t.ctrStart := ⟨h.reg, h.resets⟩

theorem logP (h : Downed l s t) (code inst data : Nat) : Downed l s (t.logP code inst data) := by
  obtain ⟨x, hx⟩ := t.faultLog_form 0x2803F410 16 code inst data
  rw [State.logP, hx]
  exact ⟨h.reg, h.resets⟩

theorem setMode {m : Nat} (h : Downed l s t) (hm : SYS.MODE_MODE ∈ l) : Downed l s (t.setMode m) := by
  have hset := h.set hm m
  unfold State.setMode
  exact h.ite (hset.ite (hset.logP _ _ _))

theorem coreOff (h : Downed l s t) : Downed l s t.coreOff := by
  have hparked := State.forN_keep (fun u => u.regs = t.regs ∧ u.coreP.resets = t.coreP.resets) (fun n u => u.wdtPark n) 2 t ⟨rfl, rfl⟩
    fun n _ u hu => ⟨(u.wdtPark_regs n).trans hu.1, (by unfold State.wdtPark; dsimp only; split <;> rfl : _ = _).trans hu.2⟩
  exact h.trans ⟨fun d k _ _ => congrArg (Tab.get d · k) hparked.1, hparked.2⟩

end Downed

/-! ### The modes that a trigger leads to (R497) -/

/-- What a change of mode writes of them beside its cause. -/
def modeFlds : List Fld := SYS.MODE_MODE :: stopFlds

section
variable (s : State) (c : Nat)

theorem State.enterFailsafe_downed : Downed modeFlds (s.setBit SYS.MODE_CAUSE c true) (s.enterFailsafe c) := by
  unfold State.enterFailsafe
  extract_lets s1 s2
  have hcause := Downed.refl modeFlds s1
  have hstop : Downed modeFlds s1 s1.radioStop := ((Downed.refl _ s1).radioStop).mono (by decide)
  have h2 : Downed modeFlds s1 s2 := ((((hstop.ite hcause).coreOff.aired (Aired.refl _).fsEngage).set (f := PWR.STATE_DOM)
    (by decide) _).aired ((Aired.refl _).outEn (by decide) false))
  have h3 : Downed modeFlds s1 (s2.auxGate.set RGE.STATE_HOLD 15) :=
    h2.aired ((Aired.refl s2).auxGate.set (f := RGE.STATE_HOLD) (by decide) 15 0)
  exact hcause.ite (h3.ctrStart.setMode (by decide))

theorem State.enterLampKeep_downed : Downed modeFlds (s.setBit SYS.MODE_CAUSE c true) (s.enterLampKeep c) := by
  unfold State.enterLampKeep
  extract_lets s1
  have hcause := Downed.refl modeFlds s1
  have hstop : Downed modeFlds s1 s1.radioStop := ((Downed.refl _ s1).radioStop).mono (by decide)
  exact hcause.ite ((hstop.ite hcause).setMode (by decide))

/-- The registers of SYS beside the mode's word, and AON's wake inputs. -/
theorem Downed.shows {t : State} (h : Downed modeFlds (s.setBit SYS.MODE_CAUSE c true) t) {f : Fld} {n : Nat}
    (hf : calmKey (f.key n) = true) (hw : f.key n ∉ (SYS.MODE_CAUSE :: modeFlds).map (·.key 0)) : t.get f n = s.get f n := by
  rw [List.map_cons, List.mem_cons, not_or] at hw
  exact (h.get hf hw.2).trans (s.get_set_ne _ _ _ _ _ hw.1)

/-- The cause stays on record. -/
theorem Downed.cause {t : State} (h : Downed modeFlds (s.setBit SYS.MODE_CAUSE c true) t) (hc : c < 8) :
    t.bit SYS.MODE_CAUSE c = true :=
  (congrArg (bitOf · c) (h.get (f := SYS.MODE_CAUSE) (n := 0) (by decide) (by decide))).trans (State.bit_setBit_true s hc 0)

theorem State.mode_setCause (b : Bool) : (s.setBit SYS.MODE_CAUSE c b).mode = s.mode := State.get_set_ne _ _ _ _ _ _ (by decide)

theorem State.enterFailsafe_mode : (s.enterFailsafe c).mode = 3 := by
  unfold State.enterFailsafe
  extract_lets s1 s2
  split
  · next h => exact beq_iff_eq.1 h
  · exact State.setMode_mode _ (by decide)

theorem State.enterLampKeep_mode : (s.enterLampKeep c).mode = if s.mode = 3 then 3 else 2 := by
  have hmode := s.mode_setCause c true
  unfold State.enterLampKeep
  extract_lets s1
  by_cases h : s.mode = 3
  · rw [if_pos (by rw [hmode, h]; rfl), if_pos h, hmode, h]
  · rw [if_neg (by rw [hmode]; simpa [mdFAILSAFE] using h), if_neg h]
    exact State.setMode_mode _ (by decide)

end

end Sys2Proof.Machine
end

section
/-! PROOFS. Loss of REFCLK, core resets, the watchdogs' expiry and the vote scrub (O52). -/

namespace Sys2Proof.Machine

open Sys2Proof

/-! ### Loss of REFCLK (R466) -/

section
variable (s : State)

/-- What a loss of REFCLK leaves, the hold beside it. -/
def State.refLost : State := ((s.set CLK.STATUS_REF_FAIL 1).set SYS.RST_CAUSE_REF_FAIL 1).fsEngage.warmBase

theorem execRefFail_eq : execRefFail s = if s.coreP.refHeld then .next s else .next { s.refLost with coreP := { s.refLost.coreP with refHeld := true } } := rfl

theorem State.get_refLost {f : Fld} (hkept : keptKey (f.key 0) = true) (hclear : f.clear 0 warmFlds 0)
    (hlow : f.key 0 < LUM.ID_BLOCK.addr * 32) :
    s.refLost.get f = ((s.set CLK.STATUS_REF_FAIL 1).set SYS.RST_CAUSE_REF_FAIL 1).get f :=
  (State.get_warmBase_kept _ hkept hclear).trans (State.get_fsEngage_ne _ hlow)

theorem State.fsEngage_stores : s.fsEngage.nv = s.nv ∧ s.fsEngage.objs = s.objs :=
  ⟨(Aired.refl s).fsEngage.nv, (Aired.refl s).fsEngage.objs⟩

theorem exec_refFail_shows (h : s.coreP.refHeld = false) :
    ∃ t, exec .refFail s = .next t ∧ t.coreP.refHeld = true ∧ t.get CLK.STATUS_REF_FAIL = 1 ∧
      t.get SYS.RST_CAUSE_REF_FAIL = 1 ∧ (∀ a, a < 0x28000000 → t.rd8 a = 0) ∧ t.nv = s.nv ∧ t.objs = s.objs := by
  have hexec : exec .refFail s = execRefFail s := rfl
  have hfail : s.refLost.get CLK.STATUS_REF_FAIL = 1 := by
    rw [s.get_refLost (by decide +kernel) (Fld.clear_of_apart (by decide) _ _) (by decide), State.get_set_apart _ (by decide),
      State.get_set_fits _ (by decide)]
  have hcause : s.refLost.get SYS.RST_CAUSE_REF_FAIL = 1 := by
    rw [s.get_refLost (by decide +kernel) (Fld.clear_of_apart (by decide) _ _) (by decide), State.get_set_fits _ (by decide)]
  have hmem : ∀ a, a < 0x28000000 → s.refLost.rd8 a = 0 := fun a ha => (State.rd8_warmBase _ a).trans (if_pos ha)
  have hnv : s.refLost.nv = s.nv := (State.warmBase_nv _).trans (State.fsEngage_stores _).1
  have hobjs : s.refLost.objs = s.objs := (State.warmBase_objs _).trans (State.fsEngage_stores _).2
  rw [hexec, execRefFail_eq, if_neg (by simp [h])]
  generalize s.refLost = u at *
  exact ⟨_, rfl, rfl, hfail, hcause, hmem, hnv, hobjs⟩

end

/-! ### Core resets (R25, R497) -/

/-- The cause that a reset of core `k` leaves. -/
def coreCause (k : Nat) : Fld := if k = 0 then SYS.RST_CAUSE_CORE_A else SYS.RST_CAUSE_CORE_B

section
variable (s : State) {k : Nat}

/-- A reset of core `k`, its cause set and itself remembered. -/
def State.coreNoted (k : Nat) : State :=
  { s.set (coreCause k) 1 with coreP := { s.coreP with resets := ((s.now, k) :: s.coreP.resets).take 8 } }

/-- The resets remembered with this one that came at most `d` ticks ago. -/
def State.resetsNear (k d : Nat) : List (Nat × Nat) :=
  (((s.now, k) :: s.coreP.resets).take 8).filter fun e => decide (s.now ≤ e.1 + d)

theorem State.coreReset_eq (hk : k < 2) : s.coreReset k =
    if (s.resetsNear k 240000000).any fun e => e.2 != k then (s.coreNoted k).enterFailsafe csVOTE
    else if 3 ≤ (s.resetsNear k 144000000000).length then (s.coreNoted k).enterLampKeep csAPP else s.coreNoted k := by
  obtain rfl | rfl : k = 0 ∨ k = 1 := by omega
  · rfl
  · rfl

/-- A reset that is alone, or of no other core and of fewer than three, is remembered and no more. -/
theorem State.coreReset_quiet (hk : k < 2) (hown : ∀ e ∈ s.resetsNear k 240000000, e.2 = k)
    (hfew : (s.resetsNear k 144000000000).length < 3) : s.coreReset k = s.coreNoted k := by
  rw [s.coreReset_eq hk, if_neg (by simpa using fun a b he => hown (a, b) he), if_neg (by omega)]

theorem State.coreReset_lamp (hk : k < 2) (hown : ∀ e ∈ s.resetsNear k 240000000, e.2 = k)
    (hmany : 3 ≤ (s.resetsNear k 144000000000).length) : s.coreReset k = (s.coreNoted k).enterLampKeep csAPP := by
  rw [s.coreReset_eq hk, if_neg (by simpa using fun a b he => hown (a, b) he), if_pos hmany]

theorem State.coreReset_failsafe (hk : k < 2) (hother : ∃ e ∈ s.resetsNear k 240000000, e.2 ≠ k) :
    s.coreReset k = (s.coreNoted k).enterFailsafe csVOTE := by
  rw [s.coreReset_eq hk, if_pos (by simpa using hother)]

/-- Whatever mode it leads to, SYS's registers beside the mode's word and the causes keep their values. -/
theorem State.coreReset_downed (hk : k < 2) :
    (s.coreReset k).coreP.resets = ((s.now, k) :: s.coreP.resets).take 8 ∧
    ∀ (f : Fld) (n : Nat), calmKey (f.key n) = true → f.key n ∉ (SYS.MODE_CAUSE :: modeFlds).map (·.key 0) →
      (s.coreReset k).get f n = (s.set (coreCause k) 1).get f n := by
  rw [s.coreReset_eq hk]
  split
  · have h := (s.coreNoted k).enterFailsafe_downed csVOTE
    exact ⟨h.resets, fun f n hf hw => h.shows _ _ hf hw⟩
  · split
    · have h := (s.coreNoted k).enterLampKeep_downed csAPP
      exact ⟨h.resets, fun f n hf hw => h.shows _ _ hf hw⟩
    · exact ⟨rfl, fun _ _ _ _ => rfl⟩

theorem exec_coreReset (hk : k < 2) : exec (.coreReset k) s = .next (s.coreReset k) :=
  congrArg (fun j => Host.Outcome.next (s.coreReset j)) (Nat.mod_eq_of_lt hk)

theorem State.coreNoted_mode : (s.coreNoted k).mode = s.mode := by
  have hmode : (s.coreNoted k).mode = (s.set (coreCause k) 1).mode := rfl
  rw [hmode, coreCause]
  split
  · exact s.get_set_ne SYS.RST_CAUSE_CORE_A SYS.MODE_MODE 1 0 0 (by decide)
  · exact s.get_set_ne SYS.RST_CAUSE_CORE_B SYS.MODE_MODE 1 0 0 (by decide)

theorem State.coreNoted_mem : (s.coreNoted k).mem = s.mem := rfl

theorem State.mem_resetsNear {d : Nat} {e : Nat × Nat} :
    e ∈ s.resetsNear k d ↔ e ∈ ((s.now, k) :: s.coreP.resets).take 8 ∧ s.now ≤ e.1 + d := by
  rw [State.resetsNear, List.mem_filter, decide_eq_true_iff]

end

/-! ### A watchdog's first expiry (R535, R537) -/

section
variable (s : State) {n : Nat}

theorem exec_wdtExpiry_off (hn : n < 2) (h : s.get SYS.WDT_CTRL_EN n = 0 ∨ s.wdtHalted n = true) : exec (.wdtExpiry n) s = .next s := by
  have hexec : exec (.wdtExpiry n) s = execWdtExpiry n s := rfl
  rw [hexec, execWdtExpiry, Nat.mod_eq_of_lt hn]
  exact if_pos (by simpa [State.on] using h)

/-- A first expiry of watchdog `n`, logged, flagged and counted. -/
def State.wdtCounted (n : Nat) : State :=
  (((s.logHW 0x06 n 0).set SYS.WDT_STATUS_EXPIRED 1 n).set SYS.WDT_STATE_AFTER 1 n).bump SYS.WDT_CNT_COUNT SYS.WDT_STATUS_SAT n

/-- Core P woken by it and the count reloaded, before the core is reset. -/
def State.wdtExpired (n : Nat) : State := ((s.wdtCounted n).wakeP 3).wdtLoad n

theorem exec_wdtExpiry_first (hn : n < 2) (hen : s.get SYS.WDT_CTRL_EN n ≠ 0) (hrun : s.wdtHalted n = false)
    (hfirst : s.get SYS.WDT_STATE_AFTER n = 0) : exec (.wdtExpiry n) s = .next ((s.wdtExpired n).coreReset n) := by
  have hexec : exec (.wdtExpiry n) s = execWdtExpiry n s := rfl
  rw [hexec, execWdtExpiry, Nat.mod_eq_of_lt hn]
  exact (if_neg (by simp [State.on, hen, hrun])).trans (if_neg (by simp [State.on, hfirst]))

theorem State.wdtLoad_rest : (s.wdtLoad n).regs = s.regs ∧ (s.wdtLoad n).mem = s.mem ∧ (s.wdtLoad n).now = s.now ∧
    (s.wdtLoad n).coreP.resets = s.coreP.resets := by
  unfold State.wdtLoad
  split <;> exact ⟨rfl, rfl, rfl, rfl⟩

theorem State.bump_rest (c d : Fld) : (s.bump c d n).mem = s.mem ∧ (s.bump c d n).now = s.now ∧ (s.bump c d n).coreP = s.coreP := by
  unfold State.bump
  split <;> exact ⟨rfl, rfl, rfl⟩

/-- The watchdog's own registers, and the wake input. -/
theorem State.wdtExpired_shows (hn : n < 2) :
    (s.wdtExpired n).get SYS.WDT_STATUS_EXPIRED n = 1 ∧ (s.wdtExpired n).get SYS.WDT_STATE_AFTER n = 1 ∧
    (s.wdtExpired n).get SYS.WDT_CNT_COUNT n = min 0xFFFFFFFF (s.get SYS.WDT_CNT_COUNT n + 1) ∧
    (s.wdtExpired n).bit AON.WAKE_WAKE 3 = true ∧ (s.wdtExpired n).mode = s.mode := by
  have hload : ∀ (f : Fld) (j : Nat), (s.wdtExpired n).get f j = ((s.wdtCounted n).wakeP 3).get f j := fun f j =>
    congrArg (fun r => Tab.get (f.rst j) r (f.key j)) (State.wdtLoad_rest _).1
  have hwake : ∀ (f : Fld) (j : Nat), f.key j ≠ AON.WAKE_WAKE.key 0 → (s.wdtExpired n).get f j = (s.wdtCounted n).get f j :=
    fun f j hne => (hload f j).trans (State.get_set_ne _ _ _ _ _ _ hne)
  refine ⟨?_, ?_, ?_, ?_, ?_⟩
  · rw [hwake _ _ (by interval_cases n <;> decide), State.wdtCounted, State.get_bump_apart _ (by decide) (by decide),
      State.get_set_apart _ (by decide), State.get_set_fits _ (by decide)]
  · rw [hwake _ _ (by interval_cases n <;> decide), State.wdtCounted, State.get_bump_apart _ (by decide) (by decide),
      State.get_set_fits _ (by decide)]
  · rw [hwake _ _ (by interval_cases n <;> decide), State.wdtCounted, State.get_bump_min _ _ rfl (by decide),
      State.get_set_apart _ (by decide), State.get_set_apart _ (by decide), State.get_logHW]
  · exact (congrArg (bitOf · 3) (hload AON.WAKE_WAKE 0)).trans (State.bit_setBit_true _ (by decide) 0)
  · have hmode := hwake SYS.MODE_MODE 0 (by decide)
    have hclear : SYS.MODE_MODE.clear 0 [SYS.WDT_CNT_COUNT, SYS.WDT_STATUS_SAT, SYS.WDT_STATE_AFTER, SYS.WDT_STATUS_EXPIRED] n :=
      Fld.clear_of_below (by decide) (by decide) n
    rw [State.wdtCounted, State.get_bump_clear hclear (by decide) (by decide), State.get_set_clear hclear (by decide),
      State.get_set_clear hclear (by decide), State.get_logHW] at hmode
    exact hmode

theorem State.counted_rest (s : State) (n : Nat) :
    (((s.set SYS.WDT_STATUS_EXPIRED 1 n).set SYS.WDT_STATE_AFTER 1 n).bump SYS.WDT_CNT_COUNT SYS.WDT_STATUS_SAT n).mem = s.mem ∧
    (((s.set SYS.WDT_STATUS_EXPIRED 1 n).set SYS.WDT_STATE_AFTER 1 n).bump SYS.WDT_CNT_COUNT SYS.WDT_STATUS_SAT n).now = s.now ∧
    (((s.set SYS.WDT_STATUS_EXPIRED 1 n).set SYS.WDT_STATE_AFTER 1 n).bump SYS.WDT_CNT_COUNT SYS.WDT_STATUS_SAT n).coreP = s.coreP :=
  State.bump_rest _ _ _

theorem State.wdtCounted_rest : (s.wdtCounted n).now = s.now ∧ (s.wdtCounted n).coreP = s.coreP ∧
    memSame s (s.wdtCounted n) 0x2803F000 1040 := by
  obtain ⟨hmem, hnow, hcore⟩ := State.counted_rest (s.logHW 0x06 n 0) n
  obtain ⟨x, hx⟩ := s.logHW_form 0x06 n 0
  exact ⟨hnow.trans (by rw [hx]), hcore.trans (by rw [hx]), (s.memSame_logHW 0x06 n 0).trans (.of_mem hmem)⟩

theorem State.wakeP_rest (j : Nat) : (s.wakeP j).mem = s.mem ∧ (s.wakeP j).now = s.now ∧ (s.wakeP j).coreP = s.coreP := ⟨rfl, rfl, rfl⟩

/-- The time and the resets remembered stay, and memory but for the log. -/
theorem State.wdtExpired_rest : (s.wdtExpired n).now = s.now ∧ (s.wdtExpired n).coreP.resets = s.coreP.resets ∧
    memSame s (s.wdtExpired n) 0x2803F000 1040 := by
  obtain ⟨hnow, hcore, hlog⟩ := s.wdtCounted_rest (n := n)
  rw [State.wdtExpired]
  generalize s.wdtCounted n = u at hnow hcore hlog ⊢
  obtain ⟨hmem, hnow₁, hcore₁⟩ := u.wakeP_rest 3
  obtain ⟨-, hmem₂, hnow₂, hresets⟩ := (u.wakeP 3).wdtLoad_rest (n := n)
  exact ⟨hnow₂.trans (hnow₁.trans hnow), hresets.trans (congrArg CoreP.resets (hcore₁.trans hcore)),
    hlog.trans (.of_mem (hmem₂.trans hmem))⟩

end

/-! ### The vote scrub (R443, R444) -/

/-- GUARD's word is that of its two fields. -/
theorem State.regWord_guard (s : State) : s.regWord RGE.GUARD_GUARD = s.get RGE.GUARD_STEPS * 65536 + s.get RGE.GUARD_GUARD := by
  have hfields : (blockAt RGE.GUARD_GUARD.addr).map (·.at (RGE.GUARD_GUARD.at 0)) = some [(RGE.GUARD_STEPS, 0), (RGE.GUARD_GUARD, 0)] := by
    decide +kernel
  unfold State.regWord
  split
  next b hb =>
    rw [hb, Option.map_some, Option.some.injEq] at hfields
    have hword : s.wordOf [(RGE.GUARD_STEPS, 0), (RGE.GUARD_GUARD, 0)] = 0 + s.get RGE.GUARD_STEPS * 65536 + s.get RGE.GUARD_GUARD * 1 := rfl
    rw [hfields, hword]
    omega
  next hb => rw [hb] at hfields; cases hfields

/-- The fields of which the voted values are made. -/
def votedFlds : List Fld := [SYS.LC_STATE, RGE.STATE_PROFILE_SEL, RGE.GUARD_STEPS, RGE.GUARD_GUARD, RGE.CTRL_RF_EN, LUM.FS_LEVEL_FS_PWM,
  LUM.FS_LEVEL_FS_DAC, AON.BOOT_PTR_FW, AON.BOOT_PTR_LSQ, AON.BOOT_PTR_TBL, AON.BOOT_PTR_TRIES, AON.BOOT_PTR_TRIAL, CAL.BANK_PTR]

section
variable {s t : State}

/-- A voted value is made of those fields and of the enforcer's profile. -/
theorem State.voteValue_congr (hget : ∀ f ∈ votedFlds, t.get f = s.get f) (hprof : t.rge.profile = s.rge.profile) (f : Nat) :
    t.voteValue f = s.voteValue f := by
  simp only [votedFlds, List.forall_mem_cons, List.not_mem_nil, false_implies, implies_true, and_true] at hget
  obtain ⟨h0, h1, h2, h3, h4, h5, h6, h7, h8, h9, h10, h11, h12⟩ := hget
  simp only [State.voteValue, State.regWord_guard, h0, h1, h2, h3, h4, h5, h6, h7, h8, h9, h10, h11, h12, hprof]

/-- No flips at all are valid. -/
theorem voteValid_zero (w : Nat) : voteValid w 0 = true := by
  have hnone : setBits (w + 1) 0 = [] := List.filter_eq_nil_iff.2 fun k _ => by simp [bitOf]
  simp [voteValid, popcount, hnone]

/-- Flips of one copy alone: the two others are valid and equal. -/
theorem voteFix_single {w c : Nat} (hc : 0 < c) {m : Nat × Nat × Nat} (hm : m ∈ [(c, 0, 0), (0, c, 0), (0, 0, c)]) :
    voteLost w m = false ∧ voteFix w m = some 0 := by
  have hzero := voteValid_zero w
  have hne : c ≠ 0 := by omega
  simp only [List.mem_cons, List.not_mem_nil, or_false] at hm
  cases hvalid : voteValid w c <;> rcases hm with rfl | rfl | rfl <;>
    simp [voteLost, voteFix, hzero, hvalid, hne, hne.symm]

/-- Flips of sound copies are those of the edge. -/
theorem cut_sound {w c : Nat} (hc : c < 2 ^ (w + 1)) : (0 : Nat).xor (c % 2 ^ (w + 1)) = c := by
  rw [Nat.mod_eq_of_lt hc]
  exact Nat.zero_xor c

end

section
variable (s : State) {f : Nat}

/-- Field `f` whose copies lose their majority. -/
def State.voteGone (f : Nat) (m : Nat × Nat × Nat) : State :=
  ((({ s with badVotes := Tab.set (0, 0, 0) s.badVotes f m } : State).fsEngage).wakeP 4).logP 0x20 f 0

/-- Field `f` of which one copy is corrected. -/
def State.voteMended (f : Nat) : State :=
  (((({ s with badVotes := Tab.set (0, 0, 0) s.badVotes f (0, 0, 0) } : State).set SYS.STATUS_VOTE_FIX 1).bump SYS.CNT_VOTE_COUNT
    SYS.STATUS_SAT).set SYS.VOTE_INFO_FIELD f).logHW 0x02 f 0

theorem exec_voteScrub (hf : f < 7) (a b c : Nat) : exec (.voteScrub f a b c) s = .next (s.scrub f (a, b, c)) :=
  congrArg (fun j => Host.Outcome.next (s.scrub j (a, b, c))) (Nat.mod_eq_of_lt hf)

theorem State.scrub_lost {a b c : Nat} (hold : Tab.get (0, 0, 0) s.badVotes f = (0, 0, 0)) (ha : a < 2 ^ ((s.voteValue f).2 + 1))
    (hb : b < 2 ^ ((s.voteValue f).2 + 1)) (hc : c < 2 ^ ((s.voteValue f).2 + 1)) (hlost : voteLost (s.voteValue f).2 (a, b, c) = true) :
    s.scrub f (a, b, c) = (s.voteGone f (a, b, c)).enterFailsafe csVOTE := by
  have hsound : voteLost (s.voteValue f).2 (0, 0, 0) = false := by simp [voteLost, voteValid_zero]
  simp only [State.scrub, hold, cut_sound ha, cut_sound hb, cut_sound hc, hlost, hsound]
  rfl

theorem State.scrub_single {c : Nat} {m : Nat × Nat × Nat} (hold : Tab.get (0, 0, 0) s.badVotes f = (0, 0, 0)) (hpos : 0 < c)
    (hc : c < 2 ^ ((s.voteValue f).2 + 1)) (hm : m ∈ [(c, 0, 0), (0, c, 0), (0, 0, c)]) :
    s.scrub f m = if 1 ≤ f && f ≤ 3 then (s.voteMended f).set RGE.STATUS_VOTE_FIX 1 else s.voteMended f := by
  obtain ⟨hkept, hfix⟩ := voteFix_single (w := (s.voteValue f).2) hpos hm
  have hcut : ((0 : Nat).xor (m.1 % 2 ^ ((s.voteValue f).2 + 1)), (0 : Nat).xor (m.2.1 % 2 ^ ((s.voteValue f).2 + 1)),
      (0 : Nat).xor (m.2.2 % 2 ^ ((s.voteValue f).2 + 1))) = m := by
    simp only [List.mem_cons, List.not_mem_nil, or_false] at hm
    rcases hm with rfl | rfl | rfl <;> simp only [cut_sound hc, cut_sound (Nat.two_pow_pos _)]
  simp only [State.scrub, hold, hcut, hkept, hfix, Nat.zero_mod]
  rfl

/-- Copies without flips stay as they are. -/
theorem State.scrub_none (hold : Tab.get (0, 0, 0) s.badVotes f = (0, 0, 0)) :
    s.scrub f (0, 0, 0) = { s with badVotes := Tab.set (0, 0, 0) s.badVotes f (0, 0, 0) } := by
  have hsound : voteLost (s.voteValue f).2 (0, 0, 0) = false := by simp [voteLost, voteValid_zero]
  have hnone : voteFix (s.voteValue f).2 (0, 0, 0) = none := by simp [voteFix, voteValid_zero]
  have hshift : voteShift (s.voteValue f).2 (flipMajority 0 0 0) = 0 := by
    have hbits : setBits (s.voteValue f).2 0 = [] := List.filter_eq_nil_iff.2 fun k _ => by simp [bitOf]
    simp [voteShift, flipMajority, popcount, hbits]
  have hxor : Nat.xor 0 0 = 0 := rfl
  simp only [State.scrub, hold, Nat.zero_mod, hxor, hsound, hnone, hshift]
  rfl

end

section
variable (s : State) {f : Nat}

theorem State.get_voteMended {g : Fld} (hg : g.clear 0 [SYS.STATUS_VOTE_FIX, SYS.CNT_VOTE_COUNT, SYS.STATUS_SAT, SYS.VOTE_INFO_FIELD] 0) :
    (s.voteMended f).get g = s.get g := by
  rw [State.voteMended, State.get_logHW, State.get_set_clear hg (by decide), State.get_bump_clear hg (by decide) (by decide),
    State.get_set_clear hg (by decide), State.get_mk]

/-- What the correction leaves, in its own registers and in the rest. -/
theorem State.voteMended_shows (hf : f < 7) :
    (s.voteMended f).get SYS.STATUS_VOTE_FIX = 1 ∧
    (s.voteMended f).get SYS.CNT_VOTE_COUNT = min 0xFFFFFFFF (s.get SYS.CNT_VOTE_COUNT + 1) ∧
    (s.voteMended f).get SYS.VOTE_INFO_FIELD = f := by
  refine ⟨?_, ?_, ?_⟩
  · rw [State.voteMended, State.get_logHW, State.get_set_apart _ (by decide), State.get_bump_apart _ (by decide) (by decide),
      State.get_set_fits _ (by decide)]
  · rw [State.voteMended, State.get_logHW, State.get_set_apart _ (by decide), State.get_bump_min _ _ rfl (by decide),
      State.get_set_apart _ (by decide), State.get_mk]
  · have hfits : f < 2 ^ SYS.VOTE_INFO_FIELD.width := Nat.lt_trans hf (by decide)
    rw [State.voteMended, State.get_logHW, State.get_set_fits _ hfits]

theorem State.bump_votes (c d : Fld) (n : Nat) : (s.bump c d n).rge = s.rge ∧ (s.bump c d n).badVotes = s.badVotes := by
  unfold State.bump
  split <;> exact ⟨rfl, rfl⟩

theorem State.voteMended_rest : (s.voteMended f).rge = s.rge ∧
    (s.voteMended f).badVotes = Tab.set (0, 0, 0) s.badVotes f (0, 0, 0) ∧ memSame s (s.voteMended f) 0x2803F000 1040 := by
  rw [State.voteMended]
  obtain ⟨hrge, hvotes⟩ := State.bump_votes (({ s with badVotes := Tab.set (0, 0, 0) s.badVotes f (0, 0, 0) } : State).set
    SYS.STATUS_VOTE_FIX 1) SYS.CNT_VOTE_COUNT SYS.STATUS_SAT 0
  obtain ⟨hmem, -, -⟩ := State.bump_rest (n := 0) (({ s with badVotes := Tab.set (0, 0, 0) s.badVotes f (0, 0, 0) } : State).set
    SYS.STATUS_VOTE_FIX 1) SYS.CNT_VOTE_COUNT SYS.STATUS_SAT
  generalize State.bump _ SYS.CNT_VOTE_COUNT SYS.STATUS_SAT = u at hrge hvotes hmem ⊢
  have hlog := (u.set SYS.VOTE_INFO_FIELD f).memSame_logHW 0x02 f 0
  obtain ⟨x, hx⟩ := (u.set SYS.VOTE_INFO_FIELD f).logHW_form 0x02 f 0
  rw [hx] at hlog ⊢
  exact ⟨hrge, hvotes, (memSame.of_mem (t := u.set SYS.VOTE_INFO_FIELD f) hmem).trans hlog⟩

theorem exec_voteScrub_single {c : Nat} {i : Instr} (hf : f < 7) (hold : Tab.get (0, 0, 0) s.badVotes f = (0, 0, 0)) (hpos : 0 < c)
    (hc : c < 2 ^ ((s.voteValue f).2 + 1)) (hi : i ∈ [Instr.voteScrub f c 0 0, .voteScrub f 0 c 0, .voteScrub f 0 0 c]) :
    exec i s = .next (if 1 ≤ f && f ≤ 3 then (s.voteMended f).set RGE.STATUS_VOTE_FIX 1 else s.voteMended f) := by
  simp only [List.mem_cons, List.not_mem_nil, or_false] at hi
  rcases hi with rfl | rfl | rfl <;> rw [exec_voteScrub s hf, s.scrub_single hold hpos hc (by simp)]

theorem votedFlds_apart : ∀ g ∈ votedFlds, ∀ h ∈ [SYS.STATUS_VOTE_FIX, SYS.CNT_VOTE_COUNT, SYS.STATUS_SAT, SYS.VOTE_INFO_FIELD],
    g.apart h = true := by decide +kernel

/-- One copy corrected: the field keeps its value, and the correction is told and counted. -/
theorem exec_voteScrub_mends {c : Nat} {i : Instr} (hf : f < 7) (hold : Tab.get (0, 0, 0) s.badVotes f = (0, 0, 0)) (hpos : 0 < c)
    (hc : c < 2 ^ ((s.voteValue f).2 + 1)) (hi : i ∈ [Instr.voteScrub f c 0 0, .voteScrub f 0 c 0, .voteScrub f 0 0 c]) :
    ∃ t, exec i s = .next t ∧ (t.voteValue f).1 = (s.voteValue f).1 ∧ t.get SYS.STATUS_VOTE_FIX = 1 ∧
      t.get SYS.CNT_VOTE_COUNT = min 0xFFFFFFFF (s.get SYS.CNT_VOTE_COUNT + 1) ∧ t.get SYS.VOTE_INFO_FIELD = f ∧ t.mode = s.mode ∧
      (1 ≤ f → f ≤ 3 → t.get RGE.STATUS_VOTE_FIX = 1) ∧ Tab.get (0, 0, 0) t.badVotes f = (0, 0, 0) ∧
      memSame s t 0x2803F000 1040 := by
  obtain ⟨hfix, hcount, hinfo⟩ := s.voteMended_shows hf
  obtain ⟨hrge, hvotes, hmem⟩ := s.voteMended_rest (f := f)
  have hmode : (s.voteMended f).mode = s.mode := s.get_voteMended (Fld.clear_of_apart (by decide) _ _)
  have hgets : ∀ g ∈ votedFlds, (s.voteMended f).get g = s.get g := fun g hg =>
    s.get_voteMended (Fld.clear_of_apart (votedFlds_apart g hg) _ _)
  have hclean : Tab.get (0, 0, 0) (s.voteMended f).badVotes f = (0, 0, 0) := hvotes ▸ Tab.get_set_same _ _ _ _
  refine ⟨_, exec_voteScrub_single s hf hold hpos hc hi, ?_⟩
  generalize s.voteMended f = u at *
  split
  next hrange =>
    have hset : ∀ g : Fld, g.apart RGE.STATUS_VOTE_FIX = true → (u.set RGE.STATUS_VOTE_FIX 1).get g = u.get g :=
      fun g hg => u.get_set_apart hg 1
    have hvote : (u.set RGE.STATUS_VOTE_FIX 1).voteValue f = s.voteValue f := State.voteValue_congr
      (fun g hg => (hset g ((by decide : ∀ g ∈ votedFlds, g.apart RGE.STATUS_VOTE_FIX = true) g hg)).trans (hgets g hg))
      (congrArg Rge.profile hrge) f
    exact ⟨congrArg Prod.fst hvote, (hset _ (by decide)).trans hfix,
      (hset _ (by decide)).trans hcount, (hset _ (by decide)).trans hinfo, (hset SYS.MODE_MODE (by decide)).trans hmode,
      fun _ _ => u.get_set_fits (by decide), hclean, hmem⟩
  next hrange =>
    exact ⟨congrArg Prod.fst (State.voteValue_congr hgets (congrArg Rge.profile hrge) f), hfix, hcount, hinfo, hmode,
      fun h1 h3 => absurd (by simp [h1, h3]) hrange, hclean, hmem⟩

/-- A lost majority leads to FAILSAFE. -/
theorem exec_voteScrub_loses {a b c w : Nat} (hf : f < 7) (hold : Tab.get (0, 0, 0) s.badVotes f = (0, 0, 0))
    (hw : w = (s.voteValue f).2) (ha : a < 2 ^ (w + 1)) (hb : b < 2 ^ (w + 1)) (hc : c < 2 ^ (w + 1))
    (hlost : voteLost w (a, b, c) = true) :
    ∃ t, exec (.voteScrub f a b c) s = .next t ∧ t.mode = 3 ∧ t.bit SYS.MODE_CAUSE 6 = true := by
  subst hw
  refine ⟨_, (exec_voteScrub s hf a b c).trans (congrArg Host.Outcome.next (s.scrub_lost hold ha hb hc hlost)), ?_, ?_⟩
  · exact State.enterFailsafe_mode _ _
  · exact (State.enterFailsafe_downed _ csVOTE).cause _ _ (by decide)

/-- The same bit flipped in two copies. -/
theorem voteLost_pair (w : Nat) : voteLost w (1, 1, 0) = true := by
  have hone : voteValid w 1 = false := by
    have hbits : setBits (w + 1) 1 = [0] := by
      have htail : (List.range' 1 w).filter (fun k => bitOf 1 k) = [] := List.filter_eq_nil_iff.2 fun k hk => by
        have hpos : 1 ≤ k := (List.mem_range'_1.1 hk).1
        have hpow : 1 < 2 ^ k := Nat.one_lt_two_pow (by omega)
        simp [bitOf, Nat.div_eq_of_lt hpow]
      rw [setBits, List.range_eq_range', List.range'_succ, List.filter_cons, Nat.zero_add, htail]
      rfl
    simp [voteValid, popcount, hbits]
  simp [voteLost, hone, voteValid_zero]

end

/-! ### The whole (O52) -/

section
variable (s : State)

/-- A reset with none remembered is remembered. -/
theorem exec_coreReset_alone {k : Nat} (hk : k < 2) (h : s.coreP.resets = []) :
    s.coreReset k = s.coreNoted k ∧ ((s.now, k) :: s.coreP.resets).take 8 = [(s.now, k)] := by
  have hone : ((s.now, k) :: s.coreP.resets).take 8 = [(s.now, k)] := by rw [h]; rfl
  refine ⟨s.coreReset_quiet hk (fun e he => ?_) ?_, hone⟩
  · have hmem := ((State.mem_resetsNear s).1 he).1
    rw [hone, List.mem_singleton] at hmem
    rw [hmem]
  · have hle := List.length_filter_le (fun e => decide (s.now ≤ e.1 + 144000000000)) [(s.now, k)]
    rw [State.resetsNear, hone]
    exact Nat.lt_of_le_of_lt hle (by simp)

/-- The registers that a first expiry shows, whichever mode the reset of its core leads to. -/
theorem State.wdtExpired_reset {n : Nat} (hn : n < 2) :
    ((s.wdtExpired n).coreReset n).get SYS.WDT_STATUS_EXPIRED n = 1 ∧ ((s.wdtExpired n).coreReset n).get SYS.WDT_STATE_AFTER n = 1 ∧
    ((s.wdtExpired n).coreReset n).get SYS.WDT_CNT_COUNT n = min 0xFFFFFFFF (s.get SYS.WDT_CNT_COUNT n + 1) ∧
    ((s.wdtExpired n).coreReset n).get (coreCause n) = 1 ∧ ((s.wdtExpired n).coreReset n).bit AON.WAKE_WAKE 3 = true ∧
    ((s.wdtExpired n).coreReset n).coreP.resets = ((s.now, n) :: s.coreP.resets).take 8 := by
  obtain ⟨hexp, hafter, hcount, hwake, -⟩ := s.wdtExpired_shows hn
  obtain ⟨hnow, hres, -⟩ := s.wdtExpired_rest (n := n)
  obtain ⟨hresets, hget⟩ := (s.wdtExpired n).coreReset_downed hn
  rw [hnow, hres] at hresets
  generalize s.wdtExpired n = u at *
  have hset : ∀ (f : Fld) (j : Nat), f.key j ≠ (coreCause n).key 0 → (u.set (coreCause n) 1).get f j = u.get f j :=
    fun f j hne => State.get_set_ne u _ _ 1 0 j hne
  refine ⟨?_, ?_, ?_, ?_, ?_, hresets⟩
  · rw [hget _ _ (by interval_cases n <;> decide) (by interval_cases n <;> decide), hset _ _ (by interval_cases n <;> decide), hexp]
  · rw [hget _ _ (by interval_cases n <;> decide) (by interval_cases n <;> decide), hset _ _ (by interval_cases n <;> decide), hafter]
  · rw [hget _ _ (by interval_cases n <;> decide) (by interval_cases n <;> decide), hset _ _ (by interval_cases n <;> decide), hcount]
  · rw [hget _ _ (by interval_cases n <;> decide) (by interval_cases n <;> decide)]
    exact u.get_set_fits (by interval_cases n <;> decide)
  · refine (congrArg (bitOf · 3) ?_).trans hwake
    rw [hget _ _ (by decide) (by decide), hset _ _ (by interval_cases n <;> decide)]

end

/-- Settles O52: the loss of REFCLK, the resets of a core by the mode they lead to, a watchdog's first expiry, and the scrub by the
copies that have flipped. -/
theorem coreResetsWatchdogsAndScrub : Obligations.CoreResetsWatchdogsAndScrub := by
  unfold Obligations.CoreResetsWatchdogsAndScrub
  refine ⟨exec_refFail_shows, fun s h => ?_, fun s h => ?_, ?_, ?_, ?_, fun s n hn h => exec_wdtExpiry_off s hn h, ?_, ?_, ?_,
    fun s f c i hf hold hpos hc hi => exec_voteScrub_mends s hf hold hpos hc hi, fun s f hf hold => ?_,
    fun s f a b c w hf hold hw ha hb hc hlost => exec_voteScrub_loses s hf hold hw ha hb hc hlost⟩
  · exact if_pos h
  · exact if_neg (by simp [h])
  · rintro s u hheld rfl
    exact if_pos hheld
  · intro s h
    obtain ⟨hA, htakeA⟩ := exec_coreReset_alone s (k := 0) (by decide) h
    obtain ⟨hB, htakeB⟩ := exec_coreReset_alone s (k := 1) (by decide) h
    rw [exec_coreReset s (by decide), exec_coreReset s (by decide), hA, hB, State.coreNoted, State.coreNoted, htakeA, htakeB]
    exact ⟨rfl, rfl⟩
  · rintro s u k l hk rfl rfl
    have hown : (∀ e ∈ ((s.now, k) :: s.coreP.resets).take 8, s.now ≤ e.1 + 240000000 → e.2 = k) →
        ∀ e ∈ s.resetsNear k 240000000, e.2 = k := fun h e he =>
      h e ((State.mem_resetsNear s).1 he).1 ((State.mem_resetsNear s).1 he).2
    refine ⟨fun h hfew => ?_, fun h hmany => ?_, fun ⟨e, he, hnear, hne⟩ => ?_⟩
    · rw [exec_coreReset s hk, s.coreReset_quiet hk (hown h) hfew]
      rfl
    · refine ⟨_, exec_coreReset s hk, ?_, ?_⟩
      · rw [s.coreReset_lamp hk (hown h) hmany, State.enterLampKeep_mode, s.coreNoted_mode]
      · rw [s.coreReset_lamp hk (hown h) hmany]
        exact (State.enterLampKeep_downed _ csAPP).cause _ _ (by decide)
    · have hother : ∃ e ∈ s.resetsNear k 240000000, e.2 ≠ k := ⟨e, (State.mem_resetsNear s).2 ⟨he, hnear⟩, hne⟩
      refine ⟨_, exec_coreReset s hk, ?_, ?_⟩
      · rw [s.coreReset_failsafe hk hother, State.enterFailsafe_mode]
      · rw [s.coreReset_failsafe hk hother]
        exact (State.enterFailsafe_downed _ csVOTE).cause _ _ (by decide)
  · intro s n hn hen hrun hfirst hnone
    obtain ⟨hexp, hafter, hcount, hcause, hwake, hresets⟩ := s.wdtExpired_reset hn
    obtain ⟨hnow, hres, hmem⟩ := s.wdtExpired_rest (n := n)
    obtain ⟨halone, -⟩ := exec_coreReset_alone (s.wdtExpired n) hn (hres.trans hnone)
    refine ⟨_, exec_wdtExpiry_first s hn hen hrun hfirst, hexp, hafter, hcount, hcause, hwake, ?_, ?_, ?_⟩
    · obtain ⟨-, -, -, -, hmode⟩ := s.wdtExpired_shows hn
      rw [halone, State.coreNoted_mode, hmode]
    · rw [hresets, hnone]
      rfl
    · rw [halone]
      exact hmem.trans (.of_mem (State.coreNoted_mem _))
  · intro s n hn hen hrun hfirst
    obtain ⟨hexp, hafter, hcount, hcause, hwake, hresets⟩ := s.wdtExpired_reset hn
    exact ⟨_, exec_wdtExpiry_first s hn hen hrun hfirst, hexp, hafter, hcount, hcause, hwake, hresets⟩
  · intro s f hold
    refine ⟨_, congrArg Host.Outcome.next (s.scrub_none hold), rfl, rfl, fun k => ?_⟩
    by_cases hk : k = f % 7
    · subst hk
      exact (Tab.get_set_same (0, 0, 0) s.badVotes (f % 7) (0, 0, 0)).trans hold.symm
    · exact Tab.get_set_ne (0, 0, 0) (0, 0, 0) s.badVotes (0, 0, 0) hk
  · exact exec_voteScrub_loses s hf hold rfl (by rw [pow_succ]; have := Nat.two_pow_pos (s.voteValue f).2; omega)
      (by rw [pow_succ]; have := Nat.two_pow_pos (s.voteValue f).2; omega) (Nat.two_pow_pos _) (voteLost_pair _)

end Sys2Proof.Machine
end

section
/-! PROOFS. The domains RADIO and HFR switched on and off, and what the boot set of Fulling leaves (R487, R514). -/

namespace Sys2Proof.Machine

open Sys2Proof

/-! ### RADIO off, HFR on and off -/

/-- The field is none of the clock outputs' enables. -/
def Fld.offOut (f : Fld) : Bool := (List.range 5).all fun n => f.key 0 != CLK.OUT_EN.key n

theorem State.get_outEn (s : State) {f : Fld} {n : Nat} (hn : n < 5) (en : Bool) (hf : f.offOut = true) :
    (s.outEn n en).get f = s.get f :=
  State.get_set_ne s CLK.OUT_EN f _ n 0 (by simpa using List.all_eq_true.1 hf n (List.mem_range.2 hn))

section
variable (s : State)

/-- RADIO switched off, from the state in which its leases and sequences have ended and its registers are reset. -/
def State.radioGone (s : State) : State :=
  (((((s.set RGE.STATE_GRANT 0).set RGE.STATE_PREGRANT 0).set CAL.STATE_APPLIED 0).setBit PWR.STATE_DOM 0 false).set
    PWR.STATE_BUCKB_ON 0).outEn 2 false

theorem State.radioOff_eq : ∃ u c, Aired s u ∧
    s.radioOff = (if c = true then u.radioGone.set URX.CAP_STATUS_ABORT 1 else u.radioGone).clkSpread := by
  unfold State.radioOff
  extract_lets capturing s1 off r s2 s3 s4 s5
  have h1 : Aired s s1 := ((Aired.refl s).forN fun n _ hu => hu.leaseEndAny n .fault).calStop _ 10
  have hr : Aired s r := h1.radioRange
  have h2 : Aired s s2 := hr.withRadio _
  have h3 : Aired s s3 := ((h2.wipe _ _).wipe _ _).forN fun q _ hu => hu.set (f := QUE.LEVEL_RSV) (by decide) 0 q
  exact ⟨s3, capturing, h3, rfl⟩

theorem State.get_radioOff : ∃ u, Aired s u ∧ ∀ f : Fld, f.clear 0 (URX.CAP_STATUS_ABORT :: spreadFlds) 0 →
    s.radioOff.get f = u.radioGone.get f := by
  obtain ⟨u, c, hu, h⟩ := s.radioOff_eq
  refine ⟨u, hu, fun f hf => ?_⟩
  rw [h, State.get_clkSpread _ fun g hg => hf g (List.mem_cons_of_mem _ hg)]
  split
  · exact State.get_set_clear hf (List.mem_cons_self ..) 1
  · rfl

theorem State.bit_radioGone {k : Nat} (hk : k < 4) : s.radioGone.bit PWR.STATE_DOM k = (!(k == 0) && s.bit PWR.STATE_DOM k) := by
  have hrest : ∀ u : State, ((u.set PWR.STATE_BUCKB_ON 0).outEn 2 false).bit PWR.STATE_DOM k = u.bit PWR.STATE_DOM k := fun u =>
    congrArg (bitOf · k) (by rw [State.get_outEn _ (by decide) _ (by decide), State.get_set_apart _ (by decide)])
  have hpre : ∀ u : State, (((u.set RGE.STATE_GRANT 0).set RGE.STATE_PREGRANT 0).set CAL.STATE_APPLIED 0).bit PWR.STATE_DOM k =
      u.bit PWR.STATE_DOM k := fun u => congrArg (bitOf · k) (by
    rw [State.get_set_apart _ (by decide), State.get_set_apart _ (by decide), State.get_set_apart _ (by decide)])
  rw [State.radioGone, hrest]
  by_cases h0 : k = 0
  · subst h0
    exact State.bit_setBit_false _ (by decide) 0
  · rw [State.bit_setBit_ne _ hk h0, hpre]
    simp [h0]

/-- What shows RADIO off. -/
theorem State.radioOff_shows : s.radioOff.get RGE.STATE_GRANT = 0 ∧ s.radioOff.get PWR.STATE_BUCKB_ON = 0 ∧
    (∀ k, k < 4 → s.radioOff.bit PWR.STATE_DOM k = (!(k == 0) && s.bit PWR.STATE_DOM k)) := by
  obtain ⟨u, hu, hget⟩ := s.get_radioOff
  refine ⟨?_, ?_, fun k hk => ?_⟩
  · rw [hget _ (Fld.clear_of_apart (by decide) _ _), State.radioGone, State.get_outEn _ (by decide) _ (by decide),
      State.get_set_apart _ (by decide), State.setBit, State.get_set_apart _ (by decide), State.get_set_apart _ (by decide),
      State.get_set_apart _ (by decide), State.get_set_fits _ (by decide)]
  · rw [hget _ (Fld.clear_of_apart (by decide) _ _), State.radioGone, State.get_outEn _ (by decide) _ (by decide),
      State.get_set_fits _ (by decide)]
  · have hdom : u.bit PWR.STATE_DOM k = s.bit PWR.STATE_DOM k := congrArg (bitOf · k) (hu.get (f := PWR.STATE_DOM) (n := 0) (by decide))
    rw [State.bit, hget _ (Fld.clear_of_apart (by decide) _ _)]
    exact (u.bit_radioGone hk).trans (by rw [hdom])

/-- HFR's switch reaches no register before the radio's late blocks but those of the domains and of the clock outputs. -/
theorem State.get_hfrPower {f : Fld} (en : Bool) (hf : f.key 0 < rxKey) (hclear : f.apart PWR.STATE_DOM = true)
    (hclk : f.offOut = true) : (s.hfrPower en).get f = s.get f := by
  unfold State.hfrPower
  split
  · rw [State.auxGate, State.get_outEn _ (by decide) _ hclk, State.setBit, State.get_set_apart _ hclear]
  · rw [State.auxGate, State.get_outEn _ (by decide) _ hclk, State.setBit, State.get_set_apart _ hclear]
    exact ((EarlyRegs.refl s).calStop [11, 12] 10).hfrOff.get hf

theorem State.bit_hfrPower (en : Bool) {k : Nat} (hk : k < 4) :
    (s.hfrPower en).bit PWR.STATE_DOM k = if k = 1 then en else s.bit PWR.STATE_DOM k := by
  have hgate : ∀ u : State, u.auxGate.bit PWR.STATE_DOM k = u.bit PWR.STATE_DOM k := fun u =>
    congrArg (bitOf · k) (u.get_outEn (by decide) _ (by decide))
  have hold : (s.calStop [11, 12] 10).hfrOff.bit PWR.STATE_DOM k = s.bit PWR.STATE_DOM k :=
    congrArg (bitOf · k) (((EarlyRegs.refl s).calStop [11, 12] 10).hfrOff.get (f := PWR.STATE_DOM) (n := 0) (by decide))
  by_cases h1 : k = 1
  · subst h1
    cases en
    · exact (hgate _).trans (State.bit_setBit_false _ (by decide) 0)
    · exact (hgate _).trans (State.bit_setBit_true _ (by decide) 0)
  · rw [if_neg h1]
    cases en
    · exact (hgate _).trans ((State.bit_setBit_ne _ hk h1 false 0).trans hold)
    · exact (hgate _).trans (State.bit_setBit_ne _ hk h1 true 0)

/-! ### RADIO on -/

/-- RADIO powered, its registers at their reset values. -/
def State.radioUp : State := (((s.resetRange 0x40060000 0x400C0000).setBit PWR.STATE_DOM 0 true).set PWR.STATE_BUCKB_ON 1).outEn 2 true

/-- Enabled receive chains are in IDLE. -/
def State.rxIdles : State := s.forN 16 fun ch t => if t.on URX.CTRL_EN ch then t.setRst ch rxIDLE else t

theorem State.radioOn_eq : s.radioOn = if s.bit PWR.STATE_DOM 0 then s else s.radioUp.trimApply.rxIdles := rfl

end

namespace Aired
variable {s t u : State} (h : Aired s t)
include h

theorem rxIdles : Aired s t.rxIdles := h.forN fun ch _ hu => .ite (hu.rx ((RxSide.refl _).setRst ch rxIDLE)) hu

theorem trimApply : Aired s t.trimApply := by
  unfold State.trimApply
  extract_lets s1 s2
  have h1 : Aired s s1 := h.forN fun k u hu =>
    (((hu.set (f := URX.OFS_TRIM_OFS_I) (by decide) _ k).set (f := URX.OFS_TRIM_OFS_Q) (by decide) _ k).set (f := URX.IQ_TRIM_PHASE)
      (by decide) _ k).set (f := URX.IQ_TRIM_GAIN) (by decide) _ k
  have h2 : Aired s s2 := h1.forN fun n u hu =>
    (hu.set (f := RFS.TEMP_CAL_TEMP) (by decide) _ n).set (f := UTX.PHASE_TRIM) (by decide) _ n
  exact h2.set (f := CAL.STATE_APPLIED) (by decide) 1 0

end Aired

theorem State.rxIdles_rest (s : State) : s.rxIdles.get CAL.STATE_APPLIED = s.get CAL.STATE_APPLIED ∧ s.rxIdles.mem = s.mem := by
  refine State.forN_keep (fun t => t.get CAL.STATE_APPLIED = s.get CAL.STATE_APPLIED ∧ t.mem = s.mem) _ 16 s ⟨rfl, rfl⟩
    fun ch hch t ⟨hget, hmem⟩ => ?_
  split
  · have hclear : CAL.STATE_APPLIED.clear 0 [URX.STATE_STATE, URX.STATUS_STATE_CHG] ch :=
      (by decide : ∀ ch, ch < 16 → ∀ g ∈ [URX.STATE_STATE, URX.STATUS_STATE_CHG], CAL.STATE_APPLIED.key 0 ≠ g.key ch) ch hch
    refine ⟨(State.get_setRst t ch hclear rxIDLE).trans hget, Eq.trans ?_ hmem⟩
    unfold State.setRst
    split <;> rfl
  · exact ⟨hget, hmem⟩

theorem State.trimApply_rest (s : State) : s.trimApply.get CAL.STATE_APPLIED = 1 ∧ s.trimApply.mem = s.mem := by
  unfold State.trimApply
  extract_lets s1 s2
  have h1 : s1.mem = s.mem := State.forN_keep (·.mem = s.mem) _ 16 s rfl fun _ _ _ h => by simpa only [State.set_mem] using h
  have h2 : s2.mem = s.mem := State.forN_keep (·.mem = s.mem) _ 4 s1 h1 fun _ _ _ h => by simpa only [State.set_mem] using h
  exact ⟨s2.get_set_fits (by decide), (s2.set_mem _ _ _).trans h2⟩

section
variable (s : State)

/-- RADIO's and buck B's bits, once powered. -/
theorem State.radioUp_shows : s.radioUp.get PWR.STATE_BUCKB_ON = 1 ∧ s.radioUp.mem = s.mem ∧
    ∀ k, k < 4 → s.radioUp.bit PWR.STATE_DOM k = (k == 0 || s.bit PWR.STATE_DOM k) := by
  refine ⟨?_, rfl, fun k hk => ?_⟩
  · rw [State.radioUp, State.get_outEn _ (by decide) _ (by decide), State.get_set_fits _ (by decide)]
  · have hrest : ∀ u : State, ((u.set PWR.STATE_BUCKB_ON 1).outEn 2 true).bit PWR.STATE_DOM k = u.bit PWR.STATE_DOM k := fun u =>
      congrArg (bitOf · k) (by rw [State.get_outEn _ (by decide) _ (by decide), State.get_set_apart _ (by decide)])
    rw [State.radioUp, hrest]
    by_cases h0 : k = 0
    · subst h0
      exact State.bit_setBit_true _ (by decide) 0
    · rw [State.bit_setBit_ne _ hk h0]
      have hreset : (s.resetRange 0x40060000 0x400C0000).get PWR.STATE_DOM = s.get PWR.STATE_DOM :=
        (Aired.refl s).radioRange.get (by decide)
      rw [State.bit, hreset, beq_false_of_ne h0, Bool.false_or]
      rfl

/-- What shows RADIO on. -/
theorem State.radioOn_shows : (∀ k, k < 4 → s.radioOn.bit PWR.STATE_DOM k = (k == 0 || s.bit PWR.STATE_DOM k)) ∧
    s.radioOn.mem = s.mem ∧
    (s.bit PWR.STATE_DOM 0 = false → s.radioOn.get PWR.STATE_BUCKB_ON = 1 ∧ s.radioOn.get CAL.STATE_APPLIED = 1) := by
  obtain ⟨hbuck, hmem, hdom⟩ := s.radioUp_shows
  rw [s.radioOn_eq]
  split
  next h =>
    refine ⟨fun k hk => ?_, rfl, fun hoff => absurd h (by simp [hoff])⟩
    by_cases h0 : k = 0
    · subst h0
      exact h
    · simp [h0]
  next h =>
    generalize s.radioUp = u at hbuck hmem hdom ⊢
    have hair : Aired u u.trimApply.rxIdles := (Aired.refl u).trimApply.rxIdles
    obtain ⟨happlied, hmem₁⟩ := u.trimApply_rest
    obtain ⟨happlied', hmem₂⟩ := u.trimApply.rxIdles_rest
    exact ⟨fun k hk => (congrArg (bitOf · k) (hair.get (f := PWR.STATE_DOM) (n := 0) (by decide))).trans (hdom k hk),
      hmem₂.trans (hmem₁.trans hmem), fun _ => ⟨(hair.get (by decide)).trans hbuck, happlied'.trans happlied⟩⟩

end

/-! ### The boot set (R514) -/

namespace Downed
variable {l : List Fld} {s t : State} (h : Downed l s t)
include h

theorem withAge (x : Ageing) : Downed l s { t with age := x } := ⟨h.reg, h.resets⟩
theorem withNv (x : Nv) : Downed l s { t with nv := x } := ⟨h.reg, h.resets⟩
theorem withTarget (x : Nat) : Downed l s { t with calTarget := x } := ⟨h.reg, h.resets⟩
theorem withMem (x : Tab (BitVec 8)) : Downed l s { t with mem := x } := ⟨h.reg, h.resets⟩
theorem withCal (w : Tab Nat) (x : Tab (BitVec 8)) : Downed l s { t with calWork := w, mem := x } := ⟨h.reg, h.resets⟩
theorem fresh : Downed l s t.fresh.2 := ⟨h.reg, h.resets⟩
theorem voteClean (k : Nat) : Downed l s (t.voteClean k) := h.aired ((Aired.refl t).voteClean k)
theorem setSynth (n : Nat) (y : Synth) : Downed l s (t.setSynth n y) := ⟨h.reg, h.resets⟩

theorem setAired {f : Fld} (hf : f.aired = true) (v n : Nat) : Downed l s (t.set f v n) := h.aired ((Aired.refl t).set hf v n)

theorem bumpAired {c f : Fld} (hc : c.aired = true) (hf : f.aired = true) (n k : Nat) : Downed l s (t.bump c f n k) :=
  h.aired ((Aired.refl t).bump hc hf n k)

theorem calWritten (bank : Nat) : Downed l s (t.calWritten bank) := by
  obtain ⟨w, m, hw⟩ := t.calWritten_form bank
  rw [hw]
  exact h.withCal w m

theorem calSpoiled (bank : Nat) : Downed l s (t.calSpoiled bank) := (h.calWritten bank).fresh.withMem _

theorem calFlipped (bank : Nat) : Downed l s (t.calFlipped bank) := by
  unfold State.calFlipped
  exact ((((((h.calWritten bank).withNv _).setAired (f := CAL.BANK_PTR) (by decide) bank 0).voteClean 6).setAired (f := CAL.BANK_GEN)
    (by decide) _ 0).setAired (f := CAL.STATUS_COMMIT_DONE) (by decide) 1 0)

theorem logHW (code inst data : Nat) : Downed l s (t.logHW code inst data) := by
  obtain ⟨m, hm⟩ := t.logHW_form code inst data
  rw [hm]
  exact h.withMem m

theorem calCommit (ok : Bool) : Downed l s (t.calCommit ok) := by
  cases ok
  · rw [t.calCommit_fail]
    exact (((h.calSpoiled _).setAired (f := CAL.STATUS_COMMIT_FAIL) (by decide) 1 0).bumpAired (c := CAL.CNT_FAIL_COUNT)
      (f := CAL.STATUS_SAT) (by decide) (by decide) 0 1).logHW _ _ _
  · rw [t.calCommit_done]
    exact (h.calFlipped _).bumpAired (by decide) (by decide) 0 1

theorem calCmdCommit (ok : Bool) : Downed l s (t.calCmdCommit ok) :=
  (h.setAired (by decide) 1 0).ite ((h.withAge _).ite (h.calCommit ok))

theorem rfsCalStart (n : Nat) : Downed l s (t.rfsCalStart n) :=
  ((h.setSynth n _).setAired (f := RFS.STATE_CAL_PENDING) (by decide) 0 n).setAired (f := RFS.STATE_STATE) (by decide) synCAL n

theorem forL {α : Type} {g : α → State → State} {is : List α} (hg : ∀ i u, Downed l s u → Downed l s (g i u)) :
    Downed l s (t.forL is g) := State.forL_keep (Downed l s) g is t h fun i _ u hu => hg i u hu

theorem calRun (seq target : Nat) : Downed l s (t.calRun seq target) := by
  unfold State.calRun
  extract_lets units code sq s1
  have h1 : Downed l s s1 :=
    ((h.setAired (f := CAL.STATE_BUSY) (by decide) 1 0).setAired (f := CAL.STATE_SEQ) (by decide) seq 0).withTarget target
  have habort : ∀ c, Downed l s (t.calAborted seq c) := fun c => h.aired ((Aired.refl t).early ((EarlyRegs.refl t).calAborted seq c))
  have hunits : Downed l s (s1.forL units fun n t => if t.isMember n then t.set RFS.STATUS_REFUSED 1 n else t.rfsCalStart n) :=
    h1.forL fun n u hu => (hu.setAired (f := RFS.STATUS_REFUSED) (by decide) 1 n).ite (hu.rfsCalStart n)
  exact (h.setAired (by decide) 1 0).ite ((habort 12).ite ((habort _).ite (hunits.ite h1)))

theorem calBootStore : Downed l s t.calBootStore := (h.fresh.calCmdCommit _).ite h

omit h in
theorem calBootRun (is : List Nat) : ∀ {t}, Downed l s t → Downed l s (t.calBootRun is) := by
  induction is with
  | nil => exact fun h => (h.withAge _).ite (h.withAge _).calBootStore
  | cons q r ih => exact fun h => (h.withAge _).ite (ih (h.calRun q 0))

theorem calBootStart : Downed l s t.calBootStart := by
  have hgo : t.calBootStart = State.calBootRun { t with age.bootSet := some (setBits 16 (t.objNum 0x7402 0 0x297E)) }
    (setBits 16 (t.objNum 0x7402 0 0x297E)) := rfl
  rw [hgo]
  exact (h.withAge _).calBootRun _

end Downed

end Sys2Proof.Machine
end

section
/-! PROOFS. The line warning, the power domains, the thermal governor and QUIET (O54). -/

namespace Sys2Proof.Machine

open Sys2Proof

/-! ### The line warning (R483) -/

section
variable (s : State) {mv : Nat}

/-- The line's voltage as it is shown. -/
def State.lineShown (mv : Nat) : State := (s.set PWR.LINE_LINE_MV mv).set PWR.STATE_LINE_OK (if 20000 < mv then 1 else 0)

/-- A warning, set and counted. -/
def State.lewSet (mv : Nat) : State :=
  ((((s.lineShown mv).set PWR.STATE_LEW 1).set PWR.STATUS_LEW 1).bump PWR.CNT_LEW_COUNT PWR.STATUS_SAT).setBit AON.WAKE_WAKE 0 true

theorem execLew_eq (mv : Nat) : execLew mv s = if s.on PWR.STATE_LEW || s.get PWR.LEW_CFG_LEW_MV ≤ mv then .next (s.lineShown mv)
    else .next (if (s.lewSet mv).killReg.bit PWR.STATE_DOM 3 then (s.lewSet mv).killReg.grnCommit else (s.lewSet mv).killReg) := by
  have hline : (s.set PWR.LINE_LINE_MV mv).set PWR.STATE_LINE_OK (b2n (20000 < mv)) = s.lineShown mv := by
    simp only [State.lineShown, b2n, decide_eq_true_eq]
  simp only [execLew, hline]
  rfl

theorem exec_lew (mv : Nat) : exec (.lew mv) s = execLew mv s := rfl

theorem exec_lew_shows (h : s.get PWR.STATE_LEW ≠ 0 ∨ s.get PWR.LEW_CFG_LEW_MV ≤ mv) : exec (.lew mv) s = .next (s.lineShown mv) := by
  rw [exec_lew, execLew_eq]
  exact if_pos (by simpa [State.on] using h)

/-- The warning reaches no bit of the domains. -/
theorem State.lewSet_dom : (s.lewSet mv).killReg.bit PWR.STATE_DOM 3 = s.bit PWR.STATE_DOM 3 := by
  have hkill : (s.lewSet mv).killReg.get PWR.STATE_DOM = (s.lewSet mv).get PWR.STATE_DOM := (Aired.refl _).killReg.get (by decide)
  have hset : (s.lewSet mv).get PWR.STATE_DOM = s.get PWR.STATE_DOM := by
    rw [State.lewSet, State.setBit, State.get_set_apart _ (by decide), State.get_bump_apart _ (by decide) (by decide),
      State.get_set_apart _ (by decide), State.get_set_apart _ (by decide), State.lineShown, State.get_set_apart _ (by decide),
      State.get_set_apart _ (by decide)]
  exact congrArg (bitOf · 3) (hkill.trans hset)

theorem exec_lew_warns (hlew : s.get PWR.STATE_LEW = 0) (hmv : mv < s.get PWR.LEW_CFG_LEW_MV) :
    exec (.lew mv) s = .next (if s.bit PWR.STATE_DOM 3 then (s.lewSet mv).killReg.grnCommit else (s.lewSet mv).killReg) := by
  have hon : ¬ (s.on PWR.STATE_LEW || decide (s.get PWR.LEW_CFG_LEW_MV ≤ mv)) = true := by
    simp only [State.on, hlew, bne_self_eq_false, Bool.false_or, decide_eq_true_eq]
    omega
  rw [exec_lew, execLew_eq, if_neg hon, s.lewSet_dom]

/-- The end of a warning, the line's flag given as `b`. -/
def State.lewOver (b : Nat) : State := (((s.set PWR.STATE_LINE_OK b).set PWR.STATE_LEW 0).set PWR.STATUS_LEW_END 1).killRegClear

/-- The line has come back above 20 V for certain. -/
def State.lineSure : Bool := decide (20000 ≤ s.get PWR.LEW_CFG_LEW_MV + 100 * s.get PWR.LEW_CFG_HYST)

theorem exec_lewEnd_on (h : s.get PWR.STATE_LEW ≠ 0) : exec .lewEnd s = .next
    (if s.lineSure then s.lewOver 1 else s.fresh.2.lewOver (s.fresh.1 % 2)).quietLeave := by
  have hexec : exec .lewEnd s = execLewEnd s := rfl
  rw [hexec, execLewEnd, if_pos (by simpa [State.on] using h)]
  cases hsure : s.lineSure
  all_goals
    simp only [State.lineSure] at hsure
    simp only [hsure]
    rfl

theorem State.killRelease_get {f : Fld} (h : f.clear 0 [RGE.STATE_KILL_ACTIVE, RGE.STATE_HOLD] 0) :
    s.killRelease.get f = s.get f ∧ s.killRelease.mem = s.mem := by
  unfold State.killRelease
  split
  · exact ⟨by rw [State.get_set_clear h (by decide), State.get_set_clear h (by decide)], rfl⟩
  · exact ⟨rfl, rfl⟩

theorem State.lewOver_shows (b : Nat) : (s.lewOver b).get PWR.STATE_LEW = 0 ∧ (s.lewOver b).get PWR.STATUS_LEW_END = 1 ∧
    (s.lewOver b).get RGE.KILL_KILL = 0 ∧ (s.lewOver b).mode = s.mode ∧ (s.lewOver b).mem = s.mem ∧
    (s.lewOver b).quietCauses = s.quietCauses := by
  have hget : ∀ f : Fld, f.clear 0 [RGE.STATE_KILL_ACTIVE, RGE.STATE_HOLD] 0 → (s.lewOver b).get f =
      ((((s.set PWR.STATE_LINE_OK b).set PWR.STATE_LEW 0).set PWR.STATUS_LEW_END 1).set RGE.KILL_KILL 0).get f := fun f hf =>
    (State.killRelease_get _ hf).1
  have hrest : ∀ f : Fld, f.clear 0 [PWR.STATE_LINE_OK, PWR.STATE_LEW, PWR.STATUS_LEW_END, RGE.KILL_KILL, RGE.STATE_KILL_ACTIVE,
      RGE.STATE_HOLD] 0 → (s.lewOver b).get f = s.get f := fun f hf => by
    rw [hget f fun g hg => hf g (by revert g; decide), State.get_set_clear hf (by decide), State.get_set_clear hf (by decide),
      State.get_set_clear hf (by decide), State.get_set_clear hf (by decide)]
  refine ⟨?_, ?_, ?_, hrest _ (Fld.clear_of_apart (by decide) _ _),
    (State.killRelease_get (f := SYS.MODE_MODE) _ (Fld.clear_of_apart (by decide) _ _)).2,
    congrArg (· % 8) (hrest _ (Fld.clear_of_apart (by decide) _ _))⟩
  · rw [hget _ (Fld.clear_of_apart (by decide) _ _), State.get_set_apart _ (by decide), State.get_set_apart _ (by decide),
      State.get_set_fits _ (by decide)]
  · rw [hget _ (Fld.clear_of_apart (by decide) _ _), State.get_set_apart _ (by decide), State.get_set_fits _ (by decide)]
  · rw [hget _ (Fld.clear_of_apart (by decide) _ _), State.get_set_fits _ (by decide)]

theorem State.quietLeave_stays (h : s.mode ≠ 1 ∨ s.quietCauses ≠ 0) : s.quietLeave = s := by
  refine if_neg fun hq => ?_
  simp only [Bool.and_eq_true, beq_iff_eq, mdQUIET] at hq
  exact h.elim (· hq.1) (· hq.2)

theorem State.quietLeave_goes (hmode : s.mode = 1) (h : s.quietCauses = 0) : s.quietLeave = (s.set RGE.STATE_QUIET_LATCH 0).step7 :=
  if_pos (by simp [hmode, h, mdQUIET])

end

section
variable (s : State)

theorem exec_lewEnd_holds (hlew : s.get PWR.STATE_LEW ≠ 0) (hsure : 20000 ≤ s.get PWR.LEW_CFG_LEW_MV + 100 * s.get PWR.LEW_CFG_HYST)
    (hmode : s.mode ≠ 1) (hactive : s.get RGE.STATE_KILL_ACTIVE ≠ 0) (hpin : s.get RGE.KILL_PIN = 0) :
    exec .lewEnd s = .next ((((((s.set PWR.STATE_LINE_OK 1).set PWR.STATE_LEW 0).set PWR.STATUS_LEW_END 1).set
      RGE.KILL_KILL 0).set RGE.STATE_KILL_ACTIVE 0).set RGE.STATE_HOLD 15) := by
  obtain ⟨-, -, -, hmode', -, -⟩ := s.lewOver_shows 1
  rw [exec_lewEnd_on s hlew, if_pos (by simpa [State.lineSure] using hsure),
    State.quietLeave_stays _ (.inl (by rw [hmode']; exact hmode))]
  refine congrArg Host.Outcome.next (if_pos ?_)
  simp only [State.on, Bool.and_eq_true, bne_iff_ne, ne_eq, Bool.not_eq_true', bne_eq_false_iff_eq]
  refine ⟨⟨?_, ?_⟩, ?_⟩
  · rw [State.get_set_apart _ (by decide), State.get_set_apart _ (by decide), State.get_set_apart _ (by decide),
      State.get_set_apart _ (by decide)]
    exact hactive
  · exact State.get_set_fits _ (by decide)
  · rw [State.get_set_apart _ (by decide), State.get_set_apart _ (by decide), State.get_set_apart _ (by decide),
      State.get_set_apart _ (by decide)]
    exact hpin

theorem exec_lewEnd_shows (hlew : s.get PWR.STATE_LEW ≠ 0) (hstay : s.mode ≠ 1 ∨ s.quietCauses ≠ 0) :
    ∃ t, exec .lewEnd s = .next t ∧ t.get PWR.STATE_LEW = 0 ∧ t.get PWR.STATUS_LEW_END = 1 ∧ t.get RGE.KILL_KILL = 0 ∧
      t.mode = s.mode ∧ t.mem = s.mem := by
  have hover : ∀ (u : State) (b : Nat), u.mode = s.mode → u.quietCauses = s.quietCauses → u.mem = s.mem →
      (u.lewOver b).quietLeave.get PWR.STATE_LEW = 0 ∧ (u.lewOver b).quietLeave.get PWR.STATUS_LEW_END = 1 ∧
      (u.lewOver b).quietLeave.get RGE.KILL_KILL = 0 ∧ (u.lewOver b).quietLeave.mode = s.mode ∧ (u.lewOver b).quietLeave.mem = s.mem := by
    intro u b hmode hquiet hmem
    obtain ⟨hlew', hend, hkill, hmode', hmem', hquiet'⟩ := u.lewOver_shows b
    rw [State.quietLeave_stays _ (by rw [hmode', hquiet', hmode, hquiet]; exact hstay)]
    exact ⟨hlew', hend, hkill, hmode'.trans hmode, hmem'.trans hmem⟩
  refine ⟨_, exec_lewEnd_on s hlew, ?_⟩
  split
  · exact hover s 1 rfl rfl rfl
  · exact hover s.fresh.2 _ rfl rfl rfl

theorem exec_lewEnd_leaves {u : State} {b : Nat} (hlew : s.get PWR.STATE_LEW ≠ 0) (hmode : s.mode = 1) (hquiet : s.quietCauses = 0)
    (hsure : 20000 ≤ s.get PWR.LEW_CFG_LEW_MV + 100 * s.get PWR.LEW_CFG_HYST → u = s ∧ b = 1)
    (hopen : s.get PWR.LEW_CFG_LEW_MV + 100 * s.get PWR.LEW_CFG_HYST < 20000 → u = s.fresh.2 ∧ b = s.fresh.1 % 2) :
    exec .lewEnd s = .next ((u.lewOver b).set RGE.STATE_QUIET_LATCH 0).step7 := by
  have hleave : ∀ (u : State) (b : Nat), u.mode = s.mode → u.quietCauses = s.quietCauses →
      (u.lewOver b).quietLeave = ((u.lewOver b).set RGE.STATE_QUIET_LATCH 0).step7 := by
    intro u b hm hq
    obtain ⟨-, -, -, hmode', -, hquiet'⟩ := u.lewOver_shows b
    exact State.quietLeave_goes _ (hmode'.trans (hm.trans hmode)) (hquiet'.trans (hq.trans hquiet))
  rw [exec_lewEnd_on s hlew]
  cases h : s.lineSure
  · obtain ⟨rfl, rfl⟩ := hopen (by simpa [State.lineSure] using h)
    exact congrArg Host.Outcome.next (hleave _ _ rfl rfl)
  · obtain ⟨rfl, rfl⟩ := hsure (by simpa [State.lineSure] using h)
    exact congrArg Host.Outcome.next (hleave _ _ rfl rfl)

end

/-! ### The domains (R473, R487) -/

section
variable (s : State) (v : Nat)

/-- RADIO's bit of DOM_CTRL taken. -/
def State.domRadio : State :=
  if bitOf v 0 && !s.bit PWR.STATE_DOM 0 && s.get CLK.PLL_CFG_MULT != 24 then s.set PWR.STATUS_CMD_ERR 1
  else if bitOf v 0 then (s.radioOn).set PWR.DOM_CTRL_RADIO 1
  else if s.bit PWR.STATE_DOM 0 then (s.radioOff).set PWR.DOM_CTRL_RADIO 0
  else s.set PWR.DOM_CTRL_RADIO 0

/-- HFR's bit of DOM_CTRL taken. -/
def State.domHfr : State := if bitOf v 1 then s.hfrPower true else if s.bit PWR.STATE_DOM 1 then s.hfrPower false else s

/-- DOM_CTRL's stored bits. -/
def State.domKept : State :=
  ((s.set PWR.DOM_CTRL_HFR (bits v 1 1)).set PWR.DOM_CTRL_MRAM (bits v 2 2)).setBit PWR.STATE_DOM 2 (bitOf v 2)

theorem exec_domCtrl : exec (.domCtrlWrite .coreP v) s = .next (((s.domRadio v).domHfr v).domKept v) := rfl

theorem State.domKept_shows : (s.domKept v).get PWR.DOM_CTRL_HFR = bits v 1 1 ∧ (s.domKept v).get PWR.DOM_CTRL_MRAM = bits v 2 2 ∧
    (∀ k, k < 4 → (s.domKept v).bit PWR.STATE_DOM k = if k = 2 then bitOf v 2 else s.bit PWR.STATE_DOM k) ∧
    ∀ f : Fld, f.clear 0 [PWR.DOM_CTRL_HFR, PWR.DOM_CTRL_MRAM, PWR.STATE_DOM] 0 → (s.domKept v).get f = s.get f := by
  have hbit : ∀ k, bits v k k < 2 := fun k => Nat.lt_of_lt_of_eq (Nat.mod_lt _ (Nat.two_pow_pos _)) (by simp)
  refine ⟨?_, ?_, fun k hk => ?_, fun f hf => ?_⟩
  · rw [State.domKept, State.setBit, State.get_set_apart _ (by decide), State.get_set_apart _ (by decide),
      State.get_set_fits _ (hbit 1)]
  · rw [State.domKept, State.setBit, State.get_set_apart _ (by decide), State.get_set_fits _ (hbit 2)]
  · have hpre : ((s.set PWR.DOM_CTRL_HFR (bits v 1 1)).set PWR.DOM_CTRL_MRAM (bits v 2 2)).bit PWR.STATE_DOM k = s.bit PWR.STATE_DOM k :=
      congrArg (bitOf · k) (by rw [State.get_set_apart _ (by decide), State.get_set_apart _ (by decide)])
    rw [State.domKept]
    by_cases h2 : k = 2
    · subst h2
      cases bitOf v 2
      · exact State.bit_setBit_false _ (by decide) 0
      · exact State.bit_setBit_true _ (by decide) 0
    · rw [State.bit_setBit_ne _ hk h2, hpre, if_neg h2]
  · rw [State.domKept, State.setBit, State.get_set_clear hf (by decide), State.get_set_clear hf (by decide),
      State.get_set_clear hf (by decide)]

theorem State.domHfr_shows : (∀ k, k < 4 → (s.domHfr v).bit PWR.STATE_DOM k = if k = 1 then bitOf v 1 else s.bit PWR.STATE_DOM k) ∧
    ∀ f : Fld, f.key 0 < rxKey → f.apart PWR.STATE_DOM = true → f.offOut = true → (s.domHfr v).get f = s.get f := by
  unfold State.domHfr
  split
  next hv => exact ⟨fun k hk => by rw [s.bit_hfrPower true hk, hv], fun f hf h1 h2 => s.get_hfrPower true hf h1 h2⟩
  next hv =>
    have hoff : bitOf v 1 = false := by simpa using hv
    split
    next => exact ⟨fun k hk => by rw [s.bit_hfrPower false hk, hoff], fun f hf h1 h2 => s.get_hfrPower false hf h1 h2⟩
    next hdom =>
      refine ⟨fun k _ => ?_, fun _ _ _ _ => rfl⟩
      split
      next h => rw [h, hoff]; simpa using hdom
      next => rfl

/-- What DOM_CTRL shows after a write, RADIO's bit aside. -/
theorem State.domCtrl_shows : (((s.domRadio v).domHfr v).domKept v).bit PWR.STATE_DOM 0 = (s.domRadio v).bit PWR.STATE_DOM 0 ∧
    (((s.domRadio v).domHfr v).domKept v).bit PWR.STATE_DOM 1 = bitOf v 1 ∧
    (((s.domRadio v).domHfr v).domKept v).bit PWR.STATE_DOM 2 = bitOf v 2 ∧
    (((s.domRadio v).domHfr v).domKept v).get PWR.DOM_CTRL_HFR = bits v 1 1 ∧
    (((s.domRadio v).domHfr v).domKept v).get PWR.DOM_CTRL_MRAM = bits v 2 2 ∧
    ∀ f : Fld, f.key 0 < rxKey → (∀ g ∈ [PWR.DOM_CTRL_HFR, PWR.DOM_CTRL_MRAM, PWR.STATE_DOM], f.apart g = true) → f.offOut = true →
      (((s.domRadio v).domHfr v).domKept v).get f = (s.domRadio v).get f := by
  obtain ⟨hhfr, hmram, hkept, hrest⟩ := ((s.domRadio v).domHfr v).domKept_shows v
  obtain ⟨hdom, hother⟩ := (s.domRadio v).domHfr_shows v
  refine ⟨(hkept 0 (by decide)).trans (hdom 0 (by decide)), (hkept 1 (by decide)).trans (hdom 1 (by decide)), hkept 2 (by decide),
    hhfr, hmram, fun f hf hclear hout => ?_⟩
  exact (hrest f (Fld.clear_of_apart hclear _ _)).trans (hother f hf (hclear _ (by decide)) hout)

end

theorem bits_of_bitOf_false {v k : Nat} (h : bitOf v k = false) : bits v k k = 0 := by
  have hbit : v / 2 ^ k % 2 ≠ 1 := by simpa [bitOf] using h
  have hwidth : 2 ^ (k + 1 - k) = 2 := by simp
  rw [bits, hwidth]
  omega

section
variable (s : State) {v : Nat}

/-- Both off already: the stored bits alone. -/
theorem exec_domCtrl_stays (h0 : bitOf v 0 = false) (h1 : bitOf v 1 = false) (hradio : s.bit PWR.STATE_DOM 0 = false)
    (hhfr : s.bit PWR.STATE_DOM 1 = false) :
    exec (.domCtrlWrite .coreP v) s = .next ((((s.set PWR.DOM_CTRL_RADIO 0).set PWR.DOM_CTRL_HFR 0).set PWR.DOM_CTRL_MRAM
      (bits v 2 2)).setBit PWR.STATE_DOM 2 (bitOf v 2)) := by
  have hR : s.domRadio v = s.set PWR.DOM_CTRL_RADIO 0 := by simp [State.domRadio, h0, hradio]
  have hdom : (s.set PWR.DOM_CTRL_RADIO 0).bit PWR.STATE_DOM 1 = false :=
    (congrArg (bitOf · 1) (s.get_set_apart (f := PWR.DOM_CTRL_RADIO) (g := PWR.STATE_DOM) (n := 0) (k := 0) (by decide) 0)).trans hhfr
  have hH : (s.set PWR.DOM_CTRL_RADIO 0).domHfr v = s.set PWR.DOM_CTRL_RADIO 0 := by simp [State.domHfr, h1, hdom]
  rw [exec_domCtrl, hR, hH, State.domKept, bits_of_bitOf_false h1]

theorem State.domKept_mem : (s.domKept v).mem = s.mem := rfl

theorem State.hfrPower_mem : (s.hfrPower true).mem = s.mem := rfl

theorem State.domRadio_refused (h0 : bitOf v 0 = true) (hradio : s.bit PWR.STATE_DOM 0 = false) (hmult : s.get CLK.PLL_CFG_MULT ≠ 24) :
    s.domRadio v = s.set PWR.STATUS_CMD_ERR 1 := by simp [State.domRadio, h0, hradio, hmult]

theorem State.domRadio_on (h0 : bitOf v 0 = true) (h : s.bit PWR.STATE_DOM 0 = true ∨ s.get CLK.PLL_CFG_MULT = 24) :
    s.domRadio v = s.radioOn.set PWR.DOM_CTRL_RADIO 1 := by rcases h with h | h <;> simp [State.domRadio, h0, h]

theorem State.domRadio_off (h0 : bitOf v 0 = false) (h : s.bit PWR.STATE_DOM 0 = true) :
    s.domRadio v = s.radioOff.set PWR.DOM_CTRL_RADIO 0 := by simp [State.domRadio, h0, h]

theorem State.domRadio_stays (h0 : bitOf v 0 = false) (h : s.bit PWR.STATE_DOM 0 = false) :
    s.domRadio v = s.set PWR.DOM_CTRL_RADIO 0 := by simp [State.domRadio, h0, h]

/-- The domains' bits pass a write of another field. -/
theorem State.bit_dom_set (t : State) {f : Fld} (h : PWR.STATE_DOM.apart f = true) (w k : Nat) :
    (t.set f w).bit PWR.STATE_DOM k = t.bit PWR.STATE_DOM k := congrArg (bitOf · k) (t.get_set_apart h w)

theorem exec_domCtrl_on (h0 : bitOf v 0 = true) (h : s.bit PWR.STATE_DOM 0 = true ∨ s.get CLK.PLL_CFG_MULT = 24) :
    ∃ t, exec (.domCtrlWrite .coreP v) s = .next t ∧ t.bit PWR.STATE_DOM 0 = true ∧ t.bit PWR.STATE_DOM 1 = bitOf v 1 ∧
      t.bit PWR.STATE_DOM 2 = bitOf v 2 ∧ t.get PWR.DOM_CTRL_RADIO = 1 ∧ t.get PWR.DOM_CTRL_HFR = bits v 1 1 ∧
      t.get PWR.DOM_CTRL_MRAM = bits v 2 2 := by
  obtain ⟨hd0, hd1, hd2, hhfr, hmram, hrest⟩ := s.domCtrl_shows v
  obtain ⟨hdom, -, -⟩ := s.radioOn_shows
  refine ⟨_, exec_domCtrl s v, hd0.trans ?_, hd1, hd2, (hrest _ (by decide) (by decide) (by decide)).trans ?_, hhfr, hmram⟩
  · rw [s.domRadio_on h0 h, State.bit_dom_set _ (by decide), hdom 0 (by decide)]
    rfl
  · rw [s.domRadio_on h0 h, State.get_set_fits _ (by decide)]

theorem exec_domCtrl_both (h0 : bitOf v 0 = true) (h1 : bitOf v 1 = true) (hradio : s.bit PWR.STATE_DOM 0 = false)
    (hmult : s.get CLK.PLL_CFG_MULT = 24) :
    ∃ t, exec (.domCtrlWrite .coreP v) s = .next t ∧ t.bit PWR.STATE_DOM 0 = true ∧ t.bit PWR.STATE_DOM 1 = true ∧
      t.get PWR.STATE_BUCKB_ON = 1 ∧ t.get PWR.DOM_CTRL_RADIO = 1 ∧ t.get CAL.STATE_APPLIED = 1 ∧ t.mem = s.mem := by
  obtain ⟨t, ht, hd0, hd1, -, hctrl, -, -⟩ := exec_domCtrl_on s h0 (.inr hmult)
  obtain ⟨-, -, -, -, -, hrest⟩ := s.domCtrl_shows v
  obtain ⟨-, hmem, hpowered⟩ := s.radioOn_shows
  obtain ⟨hbuck, happlied⟩ := hpowered hradio
  have hR := s.domRadio_on h0 (.inr hmult)
  have hH : (s.radioOn.set PWR.DOM_CTRL_RADIO 1).domHfr v = (s.radioOn.set PWR.DOM_CTRL_RADIO 1).hfrPower true := if_pos h1
  have hbuck' := (hrest PWR.STATE_BUCKB_ON (by decide) (by decide) (by decide))
  rw [exec_domCtrl, Host.Outcome.next.injEq] at ht
  rw [ht, hR, State.get_set_apart _ (by decide), hbuck] at hbuck'
  rw [hR, hH] at ht
  refine ⟨t, by rw [exec_domCtrl, hR, hH, ht], hd0, hd1.trans h1, hbuck', hctrl, ?_, ?_⟩
  · rw [← ht, State.domKept, State.setBit, State.get_set_apart _ (by decide), State.get_set_apart _ (by decide),
      State.get_set_apart _ (by decide)]
    unfold State.hfrPower
    rw [if_pos rfl, State.auxGate, State.get_outEn _ (by decide) _ (by decide), State.setBit, State.get_set_apart _ (by decide),
      State.get_set_apart _ (by decide), happlied]
  · rw [← ht, State.domKept_mem, State.hfrPower_mem, State.set_mem]
    exact hmem

theorem exec_domCtrl_refused (h0 : bitOf v 0 = true) (hradio : s.bit PWR.STATE_DOM 0 = false) (hmult : s.get CLK.PLL_CFG_MULT ≠ 24) :
    ∃ t, exec (.domCtrlWrite .coreP v) s = .next t ∧ t.bit PWR.STATE_DOM 0 = false ∧ t.get PWR.STATUS_CMD_ERR = 1 ∧
      t.bit PWR.STATE_DOM 1 = bitOf v 1 ∧ t.get PWR.DOM_CTRL_HFR = bits v 1 1 := by
  obtain ⟨hd0, hd1, -, hhfr, -, hrest⟩ := s.domCtrl_shows v
  refine ⟨_, exec_domCtrl s v, hd0.trans ?_, (hrest _ (by decide) (by decide) (by decide)).trans ?_, hd1, hhfr⟩
  · rw [s.domRadio_refused h0 hradio hmult, State.bit_dom_set _ (by decide), hradio]
  · rw [s.domRadio_refused h0 hradio hmult, State.get_set_fits _ (by decide)]

theorem exec_domCtrl_off (h0 : bitOf v 0 = false) (hradio : s.bit PWR.STATE_DOM 0 = true) :
    ∃ t, exec (.domCtrlWrite .coreP v) s = .next t ∧ t.bit PWR.STATE_DOM 0 = false ∧ t.get PWR.STATE_BUCKB_ON = 0 ∧
      t.get PWR.DOM_CTRL_RADIO = 0 ∧ t.get RGE.STATE_GRANT = 0 ∧ t.bit PWR.STATE_DOM 1 = bitOf v 1 ∧
      t.get PWR.DOM_CTRL_HFR = bits v 1 1 := by
  obtain ⟨hd0, hd1, -, hhfr, -, hrest⟩ := s.domCtrl_shows v
  obtain ⟨hgrant, hbuck, hdom⟩ := s.radioOff_shows
  have hR := s.domRadio_off h0 hradio
  refine ⟨_, exec_domCtrl s v, hd0.trans ?_, (hrest _ (by decide) (by decide) (by decide)).trans ?_,
    (hrest _ (by decide) (by decide) (by decide)).trans ?_, (hrest _ (by decide) (by decide) (by decide)).trans ?_, hd1, hhfr⟩
  · rw [hR, State.bit_dom_set _ (by decide), hdom 0 (by decide)]
    rfl
  · rw [hR, State.get_set_apart _ (by decide), hbuck]
  · rw [hR, State.get_set_fits _ (by decide)]
  · rw [hR, State.get_set_apart _ (by decide), hgrant]

theorem exec_domCtrl_stopped (h0 : bitOf v 0 = false) (hradio : s.bit PWR.STATE_DOM 0 = false) :
    ∃ t, exec (.domCtrlWrite .coreP v) s = .next t ∧ t.bit PWR.STATE_DOM 0 = false ∧ t.get PWR.DOM_CTRL_RADIO = 0 ∧
      t.bit PWR.STATE_DOM 1 = bitOf v 1 ∧ t.get PWR.DOM_CTRL_HFR = bits v 1 1 := by
  obtain ⟨hd0, hd1, -, hhfr, -, hrest⟩ := s.domCtrl_shows v
  refine ⟨_, exec_domCtrl s v, hd0.trans ?_, (hrest _ (by decide) (by decide) (by decide)).trans ?_, hd1, hhfr⟩
  · rw [s.domRadio_stays h0 hradio, State.bit_dom_set _ (by decide), hradio]
  · rw [s.domRadio_stays h0 hradio, State.get_set_fits _ (by decide)]

end

/-! ### Temperatures (R499) -/

section
variable (s : State) {a b : Nat}

theorem State.get_therm (a b : Nat) {f : Fld} (hf : f.clear 0 [PWR.THERM_T_MAIN, PWR.THERM_T_POWER] 0) : (s.therm a b).get f = s.get f := by
  rw [State.therm, State.get_set_clear hf (by decide), State.get_set_clear hf (by decide)]

theorem State.hotter_therm (ha : a < 65536) (hb : b < 65536) : (s.therm a b).hotter = max (sint 16 a) (sint 16 b) := by
  have hmain : (s.therm a b).get PWR.THERM_T_MAIN = a := by
    rw [State.therm, State.get_set_apart _ (by decide), State.get_set_fits _ ha]
  have hpower : (s.therm a b).get PWR.THERM_T_POWER = b := State.get_set_fits _ hb
  rw [State.hotter, hmain, hpower]

/-- The hotter die, as it has just been reported, against a threshold of THERM_CFG. -/
theorem State.atLeast_therm (ha : a < 65536) (hb : b < 65536) {f : Fld} (hf : f.clear 0 [PWR.THERM_T_MAIN, PWR.THERM_T_POWER] 0) :
    (s.therm a b).atLeast ((s.therm a b).get f) = decide (((8 * s.get f : Nat) : Int) ≤ max (sint 16 a) (sint 16 b)) := by
  rw [State.atLeast, s.hotter_therm ha hb, s.get_therm a b hf]

end

/-! ### QUIET entered (R497, R499) -/

section
variable (s : State)

/-- Radio taken away: both domains are off, RF_EN is 0 and no chain has a grant. -/
theorem State.radioStop_shows : s.radioStop.bit PWR.STATE_DOM 0 = false ∧ s.radioStop.bit PWR.STATE_DOM 1 = false ∧
    s.radioStop.get RGE.CTRL_RF_EN = 0 ∧ s.radioStop.get RGE.STATE_GRANT = 0 := by
  have hkilled : ((s.killReg.set RGE.CTRL_RF_EN 0).voteClean 3).get RGE.CTRL_RF_EN = 0 :=
    (State.get_voteClean ..).trans (State.get_set_fits _ (by decide))
  unfold State.radioStop
  extract_lets s1 s2
  obtain ⟨hgrant, -, hdom⟩ := ((s.killReg.set RGE.CTRL_RF_EN 0).voteClean 3).radioOff_shows
  have hrf := ((Downed.refl warmFlds ((s.killReg.set RGE.CTRL_RF_EN 0).voteClean 3)).radioOff (List.Subset.refl _)).get
    (f := RGE.CTRL_RF_EN) (n := 0) (by decide) (by decide)
  have hpower : ∀ f : Fld, f.key 0 < rxKey → f.apart PWR.STATE_DOM = true → f.offOut = true →
      s1.get f = State.get (State.radioOff _) f := fun f h1 h2 h3 => State.get_hfrPower _ false h1 h2 h3
  have h2 : s2.bit PWR.STATE_DOM 0 = false ∧ s2.bit PWR.STATE_DOM 1 = false ∧ s2.get RGE.CTRL_RF_EN = 0 ∧ s2.get RGE.STATE_GRANT = 0 := by
    refine ⟨?_, ?_, ?_, ?_⟩
    · rw [State.bit_dom_set _ (by decide), State.bit_dom_set _ (by decide), State.bit_hfrPower _ false (by decide)]
      exact hdom 0 (by decide)
    · rw [State.bit_dom_set _ (by decide), State.bit_dom_set _ (by decide), State.bit_hfrPower _ false (by decide)]
      rfl
    · rw [State.get_set_apart _ (by decide), State.get_set_apart _ (by decide), hpower _ (by decide) (by decide) (by decide), hrf, hkilled]
    · rw [State.get_set_apart _ (by decide), State.get_set_apart _ (by decide), hpower _ (by decide) (by decide) (by decide), hgrant]
  have hclear : ∀ (u : State) (f : Fld), f.clear 0 [RGE.KILL_KILL, RGE.STATE_KILL_ACTIVE, RGE.STATE_HOLD] 0 →
      u.killRegClear.get f = u.get f := fun u f hf =>
    (State.killRelease_get _ fun g hg => hf g (List.mem_cons_of_mem _ hg)).1.trans (State.get_set_clear hf (by decide) 0)
  split
  · exact h2
  · obtain ⟨h0, h1, hen, hgr⟩ := h2
    exact ⟨(congrArg (bitOf · 0) (hclear s2 PWR.STATE_DOM (Fld.clear_of_apart (by decide) _ _))).trans h0,
      (congrArg (bitOf · 1) (hclear s2 PWR.STATE_DOM (Fld.clear_of_apart (by decide) _ _))).trans h1,
      (hclear s2 _ (Fld.clear_of_apart (by decide) _ _)).trans hen, (hclear s2 _ (Fld.clear_of_apart (by decide) _ _)).trans hgr⟩

theorem State.enterQuiet_stays (c : Nat) (h : s.mode ≠ 0) : s.enterQuiet c = s.setBit SYS.MODE_CAUSE c true :=
  if_neg (by rw [s.mode_setCause c true]; simpa [mdFULL] using h)

/-- QUIET from FULL. -/
theorem State.enterQuiet_shows {c : Nat} (hc : c < 8) (h : s.mode = 0) :
    (s.enterQuiet c).mode = 1 ∧ (s.enterQuiet c).bit SYS.MODE_CAUSE c = true ∧ (s.enterQuiet c).bit PWR.STATE_DOM 0 = false ∧
    (s.enterQuiet c).bit PWR.STATE_DOM 1 = false ∧ (s.enterQuiet c).get RGE.CTRL_RF_EN = 0 ∧
    (s.enterQuiet c).get RGE.STATE_GRANT = 0 := by
  have hfull : s.enterQuiet c = ((s.setBit SYS.MODE_CAUSE c true).radioStop).setMode mdQUIET :=
    if_pos (by rw [s.mode_setCause c true, h]; rfl)
  rw [hfull]
  obtain ⟨h0, h1, hen, hgr⟩ := (s.setBit SYS.MODE_CAUSE c true).radioStop_shows
  have hcause := ((Downed.refl stopFlds (s.setBit SYS.MODE_CAUSE c true)).radioStop.mono (List.subset_cons_self SYS.MODE_MODE _)).setMode
    (m := mdQUIET) (List.mem_cons_self ..)
  have hmode : ∀ f : Fld, f.key 0 ≠ SYS.MODE_MODE.key 0 → (((s.setBit SYS.MODE_CAUSE c true).radioStop).setMode mdQUIET).get f =
      (s.setBit SYS.MODE_CAUSE c true).radioStop.get f := fun f hf => State.get_setMode_ne _ _ _ _ hf
  exact ⟨State.setMode_mode _ (by decide), Downed.cause s c hcause hc, (congrArg (bitOf · 0) (hmode _ (by decide))).trans h0,
    (congrArg (bitOf · 1) (hmode _ (by decide))).trans h1, (hmode _ (by decide)).trans hen, (hmode _ (by decide)).trans hgr⟩

end

/-! ### HARD_C (R499) -/

section
variable (s : State) {a b : Nat}

/-- Carriers killed and both domains off. -/
def State.hardOff : State :=
  ((((s.killNow.radioOff).hfrPower false).set PWR.DOM_CTRL_RADIO 0).set PWR.DOM_CTRL_HFR 0).set RGE.CTRL_RF_EN 0

/-- What Core P then does. -/
def State.hardNoted : State :=
  (((((s.voteClean 3).killRelease.set PWR.STATUS_HARD_THERM 1).wakeP 1).logP 0x24 0
    (unsignedOf 16 (sint 16 ((s.voteClean 3).get PWR.THERM_T_MAIN) / 8))).setBit SYS.MODE_CAUSE csTHERMAL true)

theorem exec_hardTherm (h : (s.therm a b).atLeast ((s.therm a b).get PWR.THERM_CFG_HARD_C) = true) :
    exec (.hardTherm a b) s = .next (if (s.therm a b).hardOff.hardNoted.mode == mdFULL then (s.therm a b).hardOff.hardNoted.setMode mdQUIET
      else (s.therm a b).hardOff.hardNoted) := by
  have hexec : exec (.hardTherm a b) s = execHardTherm a b s := rfl
  rw [hexec]
  exact if_neg (by rw [h]; decide)

theorem State.hardOff_shows : s.hardOff.bit PWR.STATE_DOM 0 = false ∧ s.hardOff.bit PWR.STATE_DOM 1 = false ∧
    s.hardOff.get RGE.CTRL_RF_EN = 0 ∧ s.hardOff.get RGE.STATE_GRANT = 0 ∧ s.hardOff.mode = s.mode := by
  obtain ⟨hgrant, -, hdom⟩ := s.killNow.radioOff_shows
  refine ⟨?_, ?_, ?_, ?_, ?_⟩
  · rw [State.hardOff, State.bit_dom_set _ (by decide), State.bit_dom_set _ (by decide), State.bit_dom_set _ (by decide),
      State.bit_hfrPower _ false (by decide)]
    exact hdom 0 (by decide)
  · rw [State.hardOff, State.bit_dom_set _ (by decide), State.bit_dom_set _ (by decide), State.bit_dom_set _ (by decide),
      State.bit_hfrPower _ false (by decide)]
    rfl
  · rw [State.hardOff, State.get_set_fits _ (by decide)]
  · rw [State.hardOff, State.get_set_apart _ (by decide), State.get_set_apart _ (by decide), State.get_set_apart _ (by decide),
      State.get_hfrPower _ false (by decide) (by decide) (by decide), hgrant]
  · have hdown : Downed stopFlds s s.hardOff := ((((((Downed.refl stopFlds s).aired (Aired.refl s).killNow).radioOff
      (List.subset_cons_self _ _)).hfrOff (List.subset_cons_self _ _)).set (f := PWR.DOM_CTRL_RADIO) (by decide) 0).set
      (f := PWR.DOM_CTRL_HFR) (by decide) 0).set (f := RGE.CTRL_RF_EN) (by decide) 0
    exact hdown.get (f := SYS.MODE_MODE) (n := 0) (by decide) (by decide)

theorem State.get_hardNoted {f : Fld} (hf : f.clear 0 [RGE.STATE_KILL_ACTIVE, RGE.STATE_HOLD, PWR.STATUS_HARD_THERM, AON.WAKE_WAKE,
    SYS.MODE_CAUSE] 0) : s.hardNoted.get f = s.get f := by
  rw [State.hardNoted, State.setBit, State.get_set_clear hf (by decide), State.get_logP, State.wakeP, State.setBit,
    State.get_set_clear hf (by decide), State.get_set_clear hf (by decide),
    (State.killRelease_get _ fun g hg => hf g (by revert g; decide)).1, State.get_voteClean]

theorem State.hardNoted_shows : s.hardNoted.get PWR.STATUS_HARD_THERM = 1 ∧ s.hardNoted.bit SYS.MODE_CAUSE 2 = true := by
  refine ⟨?_, State.bit_setBit_true _ (by decide) 0⟩
  rw [State.hardNoted, State.setBit, State.get_set_apart _ (by decide), State.get_logP, State.wakeP, State.setBit,
    State.get_set_apart _ (by decide), State.get_set_fits _ (by decide)]

theorem exec_hardTherm_shows (ha : a < 65536) (hb : b < 65536)
    (h : ((8 * s.get PWR.THERM_CFG_HARD_C : Nat) : Int) ≤ max (sint 16 a) (sint 16 b)) :
    ∃ t, exec (.hardTherm a b) s = .next t ∧ t.get PWR.STATUS_HARD_THERM = 1 ∧ t.bit PWR.STATE_DOM 0 = false ∧
      t.bit PWR.STATE_DOM 1 = false ∧ t.get RGE.CTRL_RF_EN = 0 ∧ t.get RGE.STATE_GRANT = 0 ∧ t.bit SYS.MODE_CAUSE 2 = true ∧
      t.mode = (if s.mode = 0 then 1 else s.mode) := by
  have hat : (s.therm a b).atLeast ((s.therm a b).get PWR.THERM_CFG_HARD_C) = true := by
    rw [s.atLeast_therm ha hb (Fld.clear_of_apart (by decide) _ _)]
    exact decide_eq_true h
  obtain ⟨h0, h1, hen, hgr, hmode⟩ := (s.therm a b).hardOff_shows
  obtain ⟨hhard, hcause⟩ := (s.therm a b).hardOff.hardNoted_shows
  have hget : ∀ f : Fld, f.clear 0 [RGE.STATE_KILL_ACTIVE, RGE.STATE_HOLD, PWR.STATUS_HARD_THERM, AON.WAKE_WAKE, SYS.MODE_CAUSE] 0 →
      (s.therm a b).hardOff.hardNoted.get f = (s.therm a b).hardOff.get f := fun f hf => State.get_hardNoted _ hf
  have hdom := hget PWR.STATE_DOM (Fld.clear_of_apart (by decide) _ _)
  have hen' := (hget _ (Fld.clear_of_apart (by decide) _ _)).trans hen
  have hgr' := (hget _ (Fld.clear_of_apart (by decide) _ _)).trans hgr
  have h0' := (congrArg (bitOf · 0) hdom).trans h0
  have h1' := (congrArg (bitOf · 1) hdom).trans h1
  have hm : (s.therm a b).hardOff.hardNoted.mode = s.mode :=
    (hget SYS.MODE_MODE (Fld.clear_of_apart (by decide) _ _)).trans (hmode.trans (s.get_therm a b (Fld.clear_of_apart (by decide) _ _)))
  refine ⟨_, exec_hardTherm s hat, ?_⟩
  generalize (s.therm a b).hardOff.hardNoted = u at hhard hcause hen' hgr' h0' h1' hm ⊢
  have hset : ∀ f : Fld, f.key 0 ≠ SYS.MODE_MODE.key 0 → (u.setMode mdQUIET).get f = u.get f := fun f hf => State.get_setMode_ne _ _ _ _ hf
  by_cases hfull : s.mode = 0
  · rw [if_pos (by rw [hm, hfull]; rfl), if_pos hfull]
    exact ⟨(hset _ (by decide)).trans hhard, (congrArg (bitOf · 0) (hset _ (by decide))).trans h0',
      (congrArg (bitOf · 1) (hset _ (by decide))).trans h1', (hset _ (by decide)).trans hen', (hset _ (by decide)).trans hgr',
      (congrArg (bitOf · 2) (hset _ (by decide))).trans hcause, State.setMode_mode _ (by decide)⟩
  · rw [if_neg (by rw [hm]; simpa [mdFULL] using hfull), if_neg hfull]
    exact ⟨hhard, h0', h1', hen', hgr', hcause, hm⟩

end

/-! ### QUIET left (R497) -/

section
variable (s : State)

/-- The causes of QUIET that have cleared, dropped in the order of their bits' clauses. -/
def State.quietDropped : State :=
  let u := if s.coreP.quietHeld = true then s else s.setBit SYS.MODE_CAUSE 0 false
  let v := if s.hotter < 8 * ((s.get PWR.THERM_CFG_QUIET_C : Int) - s.get PWR.THERM_CFG_HYST) then u.setBit SYS.MODE_CAUSE 2 false else u
  if s.budgetOk = true then v.setBit SYS.MODE_CAUSE 1 false else v

theorem exec_quietExit (hmode : s.mode = 1) : exec .quietExit s = .next s.quietDropped.quietLeave := by
  have hexec : exec .quietExit s = execQuietExit s := rfl
  rw [hexec, execQuietExit, if_neg (by simp [hmode, mdQUIET])]
  unfold State.quietDropped
  cases s.coreP.quietHeld <;> simp only [decide_eq_true_eq] <;> rfl

/-- What the dropping of causes leaves. -/
theorem State.quietDropped_rest : s.quietDropped.objs = s.objs ∧
    ∀ f : Fld, f.key 0 ≠ SYS.MODE_CAUSE.key 0 → s.quietDropped.get f = s.get f := by
  unfold State.quietDropped
  have hset : ∀ (t : State) (k : Nat), (t.objs = s.objs ∧ ∀ f : Fld, f.key 0 ≠ SYS.MODE_CAUSE.key 0 → t.get f = s.get f) →
      ((t.setBit SYS.MODE_CAUSE k false).objs = s.objs ∧
        ∀ f : Fld, f.key 0 ≠ SYS.MODE_CAUSE.key 0 → (t.setBit SYS.MODE_CAUSE k false).get f = s.get f) := fun t k ht =>
    ⟨ht.1, fun f hf => (State.get_setBit_ne t _ _ _ _ _ _ hf).trans (ht.2 f hf)⟩
  extract_lets u v
  have hu : u.objs = s.objs ∧ ∀ f : Fld, f.key 0 ≠ SYS.MODE_CAUSE.key 0 → u.get f = s.get f := by
    rw [show u = if s.coreP.quietHeld = true then s else s.setBit SYS.MODE_CAUSE 0 false from rfl]
    split
    · exact ⟨rfl, fun _ _ => rfl⟩
    · exact hset s 0 ⟨rfl, fun _ _ => rfl⟩
  have hv : v.objs = s.objs ∧ ∀ f : Fld, f.key 0 ≠ SYS.MODE_CAUSE.key 0 → v.get f = s.get f := by
    rw [show v = if _ then u.setBit SYS.MODE_CAUSE 2 false else u from rfl]
    split
    · exact hset u 2 hu
    · exact hu
  split
  · exact hset v 1 hv
  · exact hv

theorem State.budgetOk_congr {t : State} (hobjs : t.objs = s.objs) (hget : t.get PWR.STATE_CLASS = s.get PWR.STATE_CLASS) :
    t.budgetOk = s.budgetOk := by
  have hnum : ∀ i j d, t.objNum i j d = s.objNum i j d := fun i j d => by rw [State.objNum, State.objNum, State.obj, hobjs]; rfl
  have hclass : t.classMw = s.classMw := by simp only [State.classMw, hnum, hget]
  have hpa : t.budget = s.budget := by simp only [State.budget, hnum, hclass]
  rw [State.budgetOk, State.budgetOk, hnum, hpa]

/-- Core P's step 7 with radio: FULL, and RF_EN. -/
theorem State.radioStart_shows : s.radioStart.mode = 0 ∧ s.radioStart.get RGE.CTRL_RF_EN = 1 := by
  unfold State.radioStart
  extract_lets s1 s2
  have hboot := (Downed.refl [] ((s2.voteClean 3).set SYS.MODE_MODE mdFULL)).calBootStart
  refine ⟨(hboot.get (f := SYS.MODE_MODE) (n := 0) (by decide) (by decide)).trans (State.get_set_fits _ (by decide)),
    (hboot.get (f := RGE.CTRL_RF_EN) (n := 0) (by decide) (by decide)).trans ?_⟩
  rw [State.get_set_apart _ (by decide), State.get_voteClean]
  exact State.get_set_fits _ (by decide)

theorem State.step7_radio (hlew : s.get PWR.STATE_LEW = 0) (hbudget : s.budgetOk = true)
    (hcool : s.hotter < ((8 * s.get PWR.THERM_CFG_WARN_C : Nat) : Int)) : s.step7 = s.radioStart := by
  have hhot : decide (((8 * s.get PWR.THERM_CFG_WARN_C : Nat) : Int) ≤ s.hotter) = false := decide_eq_false (by omega)
  unfold State.step7
  rw [if_neg (by simp [State.on, hlew])]
  exact if_pos (by rw [hbudget, hhot]; rfl)

/-- With every cause cleared, FULL. -/
theorem exec_quietExit_full (hmode : s.mode = 1) (hheld : s.coreP.quietHeld = false) (hbudget : s.budgetOk = true)
    (hlew : s.get PWR.STATE_LEW = 0) (hquiet : s.hotter < 8 * ((s.get PWR.THERM_CFG_QUIET_C : Int) - s.get PWR.THERM_CFG_HYST))
    (hwarn : s.hotter < ((8 * s.get PWR.THERM_CFG_WARN_C : Nat) : Int)) :
    ∃ t, exec .quietExit s = .next t ∧ t.mode = 0 ∧ t.get RGE.CTRL_RF_EN = 1 := by
  obtain ⟨hobjs, hget⟩ := s.quietDropped_rest
  have hnone : s.quietDropped.quietCauses = 0 := by
    have hall : s.quietDropped = ((s.setBit SYS.MODE_CAUSE 0 false).setBit SYS.MODE_CAUSE 2 false).setBit SYS.MODE_CAUSE 1 false := by
      simp only [State.quietDropped, hheld, hbudget, if_pos hquiet]
      rfl
    have h1 : s.quietDropped.bit SYS.MODE_CAUSE 1 = false := by rw [hall]; exact State.bit_setBit_false _ (by decide) 0
    have h2 : s.quietDropped.bit SYS.MODE_CAUSE 2 = false := by
      rw [hall, State.bit_setBit_ne _ (by decide) (by decide)]; exact State.bit_setBit_false _ (by decide) 0
    have h0 : s.quietDropped.bit SYS.MODE_CAUSE 0 = false := by
      rw [hall, State.bit_setBit_ne _ (by decide) (by decide), State.bit_setBit_ne _ (by decide) (by decide)]
      exact State.bit_setBit_false _ (by decide) 0
    simp only [State.bit, bitOf, beq_eq_false_iff_ne, pow_zero, Nat.div_one, pow_one] at h0 h1 h2
    rw [State.quietCauses]
    omega
  have hm : s.quietDropped.mode = 1 := (hget SYS.MODE_MODE (by decide)).trans hmode
  have hpass : ∀ f : Fld, f.key 0 ≠ SYS.MODE_CAUSE.key 0 → f.apart RGE.STATE_QUIET_LATCH = true →
      (s.quietDropped.set RGE.STATE_QUIET_LATCH 0).get f = s.get f := fun f hf ha => (State.get_set_apart _ ha 0).trans (hget f hf)
  have hhot : (s.quietDropped.set RGE.STATE_QUIET_LATCH 0).hotter = s.hotter := by
    rw [State.hotter, State.hotter, hpass _ (by decide) (by decide), hpass _ (by decide) (by decide)]
  have hstart : (s.quietDropped.set RGE.STATE_QUIET_LATCH 0).step7 = (s.quietDropped.set RGE.STATE_QUIET_LATCH 0).radioStart := by
    refine State.step7_radio _ ((hpass _ (by decide) (by decide)).trans hlew) ?_ ?_
    · exact (State.budgetOk_congr (t := s.quietDropped.set RGE.STATE_QUIET_LATCH 0) s hobjs (hpass _ (by decide) (by decide))).trans hbudget
    · rw [hhot, hpass _ (by decide) (by decide)]
      exact hwarn
  rw [exec_quietExit s hmode, State.quietLeave_goes _ hm hnone, hstart]
  exact ⟨_, rfl, State.radioStart_shows _⟩

end

/-- Settles O54: the line warning, DOM_CTRL by its bits, the thermal thresholds and the ways into and out of QUIET. -/
theorem lineAndTemperature : Obligations.LineAndTemperature := by
  unfold Obligations.LineAndTemperature
  refine ⟨fun s mv h => exec_lew_shows s h, ?_, fun s h => if_neg (by simp [State.on, h]), exec_lewEnd_holds, exec_lewEnd_shows,
    fun s u b hlew hmode hquiet hsure hopen => exec_lewEnd_leaves s hlew hmode hquiet hsure hopen, ?_,
    fun s v h0 h1 hr hh => exec_domCtrl_stays s h0 h1 hr hh, fun s v h0 h1 hr hm => exec_domCtrl_both s h0 h1 hr hm,
    fun s v h0 h => exec_domCtrl_on s h0 h, fun s v h0 hr hm => exec_domCtrl_refused s h0 hr hm,
    fun s v h0 hr => exec_domCtrl_off s h0 hr, fun s v h0 hr => exec_domCtrl_stopped s h0 hr, ?_, ?_, ?_, ?_, ?_, ?_, ?_, ?_, ?_,
    fun s a b ha hb h => exec_hardTherm_shows s ha hb h, fun s h => if_pos (by simpa [mdQUIET] using h), ?_, ?_, exec_quietExit_full⟩
  · rintro s u mv hlew hmv rfl
    exact ⟨fun hdom => (exec_lew_warns s hlew hmv).trans (congrArg Host.Outcome.next (if_neg (by simp [hdom]))),
      fun hdom => (exec_lew_warns s hlew hmv).trans (congrArg Host.Outcome.next (if_pos hdom))⟩
  · intro s m v hm
    have hexec : exec (.domCtrlWrite m v) s = .next (s.domCtrl m v) := rfl
    rw [hexec, State.domCtrl, if_pos (by simpa using hm)]
  · intro s a b ha hb h
    have hat := s.atLeast_therm ha hb (f := PWR.THERM_CFG_WARN_C) (Fld.clear_of_apart (by decide) _ _)
    exact congrArg Host.Outcome.next (if_pos (hat.trans (decide_eq_true h)))
  · intro s a b ha hb h
    have hat := s.atLeast_therm ha hb (f := PWR.THERM_CFG_WARN_C) (Fld.clear_of_apart (by decide) _ _)
    exact congrArg Host.Outcome.next (if_neg (by rw [hat]; simpa using h))
  · intro s h
    exact congrArg Host.Outcome.next (if_pos (decide_eq_true h))
  · intro s h
    have hcool : ¬ s.atLeast (s.get PWR.THERM_CFG_WARN_C) = true := by
      rw [State.atLeast, decide_eq_true_iff]
      omega
    exact congrArg Host.Outcome.next ((if_neg hcool).trans (if_pos h))
  · intro s hlow hhigh
    have hcool : ¬ s.atLeast (s.get PWR.THERM_CFG_WARN_C) = true := by
      rw [State.atLeast, decide_eq_true_iff]
      omega
    exact congrArg Host.Outcome.next ((if_neg hcool).trans (if_neg (by omega)))
  · intro s a b ha hb h
    have hat := s.atLeast_therm ha hb (f := PWR.THERM_CFG_QUIET_C) (Fld.clear_of_apart (by decide) _ _)
    exact congrArg Host.Outcome.next (if_neg (by rw [hat]; simpa using h))
  · intro s a b ha hb h hmode
    have hat := s.atLeast_therm ha hb (f := PWR.THERM_CFG_QUIET_C) (Fld.clear_of_apart (by decide) _ _)
    have hm : ((s.therm a b).wakeP 1).mode = s.mode := by
      rw [State.mode, State.wakeP, State.setBit, State.get_set_apart _ (by decide), s.get_therm a b (Fld.clear_of_apart (by decide) _ _)]
      rfl
    exact congrArg Host.Outcome.next ((if_pos (hat.trans (decide_eq_true h))).trans (State.enterQuiet_stays _ csTHERMAL (by rw [hm]; exact hmode)))
  · intro s a b ha hb h hmode
    have hat := s.atLeast_therm ha hb (f := PWR.THERM_CFG_QUIET_C) (Fld.clear_of_apart (by decide) _ _)
    have hm : ((s.therm a b).wakeP 1).mode = 0 := by
      rw [State.mode, State.wakeP, State.setBit, State.get_set_apart _ (by decide), s.get_therm a b (Fld.clear_of_apart (by decide) _ _)]
      exact hmode
    exact ⟨_, congrArg Host.Outcome.next (if_pos (hat.trans (decide_eq_true h))), State.enterQuiet_shows _ (by decide) hm⟩
  · intro s a b ha hb h
    have hat := s.atLeast_therm ha hb (f := PWR.THERM_CFG_HARD_C) (Fld.clear_of_apart (by decide) _ _)
    exact if_pos (by rw [hat]; simpa using h)
  · rintro s u v w hmode rfl rfl rfl
    exact ⟨fun hq => (exec_quietExit s hmode).trans (congrArg Host.Outcome.next (State.quietLeave_stays _ (.inr hq))),
      fun hq => (exec_quietExit s hmode).trans (congrArg Host.Outcome.next (State.quietLeave_goes _
        ((s.quietDropped_rest.2 SYS.MODE_MODE (by decide)).trans hmode) hq))⟩
  · intro s hmode hheld hbudget hq hhot
    have hsame : s.quietDropped = s := by
      simp only [State.quietDropped, hheld, hbudget, if_neg (Int.not_lt.2 hhot)]
      rfl
    rw [exec_quietExit s hmode, hsame, State.quietLeave_stays _ (.inr hq)]

end Sys2Proof.Machine
end

section
/-! PROOFS. Antenna, isolation, geometry and beam writes (O22). -/

namespace Sys2Proof.Machine

open Sys2Proof

/-! ### The antenna of one chain (R159, R160) -/

/-- The antenna field of chain `n`. -/
def antFld (n : Nat) : Fld :=
  match n with
  | 0 => SHF.ANT_SEL_ANT0
  | 1 => SHF.ANT_SEL_ANT1
  | 2 => SHF.ANT_SEL_ANT2
  | _ => SHF.ANT_SEL_ANT3

theorem antFld_width : ∀ n, n < 4 → (antFld n).width = 4 := by decide

theorem antFld_apart : ∀ j, j < 4 → ∀ n, n < 4 → j ≠ n → (antFld j).apart (antFld n) = true := by decide

/-- The fields that an antenna's write leaves: none of the four, nor the error flag beside them. -/
def antFlds : List Fld := [SHF.ANT_SEL_ANT0, SHF.ANT_SEL_ANT1, SHF.ANT_SEL_ANT2, SHF.ANT_SEL_ANT3]

theorem antFld_mem : ∀ n, n < 4 → antFld n ∈ antFlds := by decide

section
variable (s : State) {m : Master} {n v : Nat}

theorem State.antOf_eq (n : Nat) : s.antOf n = s.get (antFld n) := by
  match n with
  | 0 | 1 | 2 | _ + 3 => rfl

theorem State.setAnt_eq (n v : Nat) : s.setAnt n v = s.set (antFld n) v := by
  match n with
  | 0 | 1 | 2 | _ + 3 => rfl

/-- An antenna taken: the field, and the switch that settles; `x` are the receive chains' own states. -/
def State.antTaken (n v : Nat) (x : Tab UrxChain) : State :=
  let t := (s.set (antFld n) v).setUtx n { s.utxAt n with antSettling := s.get SHF.ANT_CFG_SETTLE != 0 }
  { t with radio := { t.radio with urx := x } }

theorem State.antWrite_same (h : v = s.antOf n) : s.antWrite n v m = s := if_pos (by simpa using h)

theorem State.antWrite_refused (hne : v ≠ s.antOf n) (h : s.carrier n = true ∨ s.antWriter n m = false ∨ s.antPairOk n v = false) :
    s.antWrite n v m = s.set SHF.GSTATUS_CMD_ERR 1 := by
  unfold State.antWrite
  rw [if_neg (by simpa using hne), if_pos (by rcases h with h | h | h <;> simp [h])]

theorem State.rxForget_form (ch : Nat) : ∃ x, s.rxForget ch = { s with radio := { s.radio with urx := x } } := ⟨_, rfl⟩

theorem State.antWrite_taken (hne : v ≠ s.antOf n) (hcar : s.carrier n = false) (hw : s.antWriter n m = true)
    (hp : s.antPairOk n v = true) : ∃ x, s.antWrite n v m = s.antTaken n v x := by
  unfold State.antWrite
  rw [if_neg (by simpa using hne), if_neg (by simp [hcar, hw, hp]), State.setAnt_eq]
  refine State.forN_keep (fun t => ∃ x, t = s.antTaken n v x) _ 16 _ ⟨_, rfl⟩ fun ch _ t ⟨x, hx⟩ => ?_
  split
  · obtain ⟨y, hy⟩ := t.rxForget_form ch
    exact ⟨y, by rw [hy, hx]; rfl⟩
  · exact ⟨x, hx⟩

theorem State.antTaken_mem (x : Tab UrxChain) : (s.antTaken n v x).mem = s.mem := rfl

theorem State.get_antTaken (x : Tab UrxChain) {f : Fld} {k : Nat} (hf : f.key k ≠ (antFld n).key 0) :
    (s.antTaken n v x).get f k = s.get f k := State.get_set_ne s (antFld n) f v 0 k hf

theorem State.antTaken_ant (hn : n < 4) (hv : v < 16) (x : Tab UrxChain) : (s.antTaken n v x).antOf n = v := by
  have hfit : v < 2 ^ (antFld n).width := by rw [antFld_width n hn]; exact hv
  exact (State.antOf_eq _ n).trans (s.get_set_fits hfit)

theorem State.antTaken_settling (x : Tab UrxChain) :
    ((s.antTaken n v x).utxAt n).antSettling = decide (s.get SHF.ANT_CFG_SETTLE ≠ 0) := by
  have hutx : (s.antTaken n v x).utxAt n = { s.utxAt n with antSettling := s.get SHF.ANT_CFG_SETTLE != 0 } :=
    State.utxAt_setUtx_same ..
  rw [hutx]
  by_cases h : s.get SHF.ANT_CFG_SETTLE = 0 <;> simp [h]

theorem State.antTaken_utx {k : Nat} (hk : k ≠ n) (x : Tab UrxChain) : (s.antTaken n v x).utxAt k = s.utxAt k :=
  State.utxAt_setUtx_ne _ hk _

end

/-! ### A write of ANT_SEL, antenna by antenna -/

/-- `t` is `s` but for antennas, their settling, the receive chains' own states, and the fields listed. -/
structure AntSide (l : List Fld) (s t : State) : Prop where
  get : ∀ f k, f.key k ∉ l.map (·.key 0) → t.get f k = s.get f k
  mem : t.mem = s.mem

namespace AntSide
variable {l : List Fld} {s t : State}

theorem refl (l : List Fld) (s : State) : AntSide l s s := ⟨fun _ _ _ => rfl, rfl⟩

section
variable (h : AntSide l s t)
include h

theorem taken {n v : Nat} (hn : antFld n ∈ l) (x : Tab UrxChain) : AntSide l s (t.antTaken n v x) := by
  refine ⟨fun f k hf => (t.get_antTaken x fun e => hf ?_).trans (h.get f k hf), (t.antTaken_mem x).trans h.mem⟩
  rw [e]
  exact List.mem_map_of_mem (f := (·.key 0)) hn

theorem refused (he : SHF.GSTATUS_CMD_ERR ∈ l) : AntSide l s (t.set SHF.GSTATUS_CMD_ERR 1) := by
  refine ⟨fun f k hf => (State.get_set_ne t _ f 1 0 k fun e => hf ?_).trans (h.get f k hf), (t.set_mem _ _ _).trans h.mem⟩
  rw [e]
  exact List.mem_map_of_mem (f := (·.key 0)) he

end

/-- Carriers and leases are read from other fields. -/
theorem leases (h : AntSide (SHF.GSTATUS_CMD_ERR :: antFlds) s t) {n : Nat} (hn : n < 4) : t.carrier n = s.carrier n ∧
    t.chainSheaf n = s.chainSheaf n ∧ ∀ m, t.antWriter n m = s.antWriter n m := by
  have hoff : ∀ f ∈ [UTX.STATE_CARRIER, SHF.LEASE_STATE_HELD, SHF.COMP_TXMASK, SHF.COMP_LO_USED, SHF.LEASE_STATE_OWNER], ∀ k, k < 4 →
      f.key k ∉ (SHF.GSTATUS_CMD_ERR :: antFlds).map (·.key 0) := by decide
  have hcar : t.carrier n = s.carrier n := congrArg (· != 0) (h.get UTX.STATE_CARRIER n (hoff _ (by decide) n hn))
  have hsheaf : t.chainSheaf n = s.chainSheaf n := SheavesAs.chainSheaf (fun sh hsh => ⟨h.get _ _ (hoff _ (by decide) sh hsh),
    h.get _ _ (hoff _ (by decide) sh hsh), h.get _ _ (hoff _ (by decide) sh hsh)⟩) n
  refine ⟨hcar, hsheaf, fun m => ?_⟩
  unfold State.antWriter
  rw [hsheaf]
  split
  next sh hsh =>
    have hlt : sh < 4 := List.mem_range.1 (List.mem_of_find?_eq_some hsh)
    rw [h.get _ _ (hoff SHF.LEASE_STATE_OWNER (by decide) sh hlt)]
  next => rfl

end AntSide

section
variable (s : State) {m : Master} {n v : Nat}

theorem bits_lt_16 (v j : Nat) : bits v (4 * j + 3) (4 * j) < 16 :=
  Nat.lt_of_lt_of_eq (Nat.mod_lt _ (Nat.two_pow_pos _)) (by rw [show 4 * j + 3 + 1 - 4 * j = 4 by omega]; rfl)

theorem State.antOf_set_err (j : Nat) : (s.set SHF.GSTATUS_CMD_ERR 1).antOf j = s.antOf j := by
  rw [State.antOf_eq, State.antOf_eq]
  refine State.get_set_ne _ _ _ _ _ _ ?_
  match j with
  | 0 | 1 | 2 => decide
  | _ + 3 => exact (by decide : SHF.ANT_SEL_ANT3.key 0 ≠ SHF.GSTATUS_CMD_ERR.key 0)

theorem State.antTaken_ant_ne {j : Nat} (hj : j < 4) (hn : n < 4) (hne : j ≠ n) (x : Tab UrxChain) :
    (s.antTaken n v x).antOf j = s.antOf j := by
  rw [State.antOf_eq, State.antOf_eq]
  exact s.get_antTaken x (Fld.key_ne_of_apart (antFld_apart j hj n hn hne) 0 0)

/-- What one antenna's write does: nothing, the error, or the antenna taken. -/
theorem State.antWrite_cases :
    (v = s.antOf n ∧ s.antWrite n v m = s) ∨
    (v ≠ s.antOf n ∧ (s.carrier n = true ∨ s.antWriter n m = false ∨ s.antPairOk n v = false) ∧
      s.antWrite n v m = s.set SHF.GSTATUS_CMD_ERR 1) ∨
    (v ≠ s.antOf n ∧ s.carrier n = false ∧ s.antWriter n m = true ∧ ∃ x, s.antWrite n v m = s.antTaken n v x) := by
  by_cases hsame : v = s.antOf n
  · exact .inl ⟨hsame, s.antWrite_same hsame⟩
  by_cases hno : s.carrier n = true ∨ s.antWriter n m = false ∨ s.antPairOk n v = false
  · exact .inr (.inl ⟨hsame, hno, s.antWrite_refused hsame hno⟩)
  · simp only [not_or, Bool.not_eq_true, Bool.not_eq_false] at hno
    obtain ⟨hcar, hw, hp⟩ := hno
    exact .inr (.inr ⟨hsame, hcar, hw, s.antWrite_taken hsame hcar hw hp⟩)

theorem AntSide.antWrite {t : State} (h : AntSide (SHF.GSTATUS_CMD_ERR :: antFlds) s t) (hn : n < 4) :
    AntSide (SHF.GSTATUS_CMD_ERR :: antFlds) s (t.antWrite n v m) := by
  rcases t.antWrite_cases (m := m) (n := n) (v := v) with ⟨-, he⟩ | ⟨-, -, he⟩ | ⟨-, -, -, x, he⟩ <;> rw [he]
  · exact h
  · exact h.refused (List.mem_cons_self ..)
  · exact h.taken (List.mem_cons_of_mem _ (antFld_mem n hn)) x

theorem State.antWrite_other {j : Nat} (hj : j < 4) (hn : n < 4) (hne : n ≠ j) : (s.antWrite j v m).antOf n = s.antOf n := by
  rcases s.antWrite_cases (m := m) (n := j) (v := v) with ⟨-, he⟩ | ⟨-, -, he⟩ | ⟨-, -, -, x, he⟩ <;> rw [he]
  · exact s.antOf_set_err n
  · exact s.antTaken_ant_ne hn hj hne x

/-- ANT_SEL's fields in turn. -/
theorem exec_antSelWrite (m : Master) (v : Nat) : exec (.antSelWrite m v) s =
    .next (s.forN 4 fun n t => t.antWrite n (bits v (4 * n + 3) (4 * n)) m) := rfl

/-- Cores select the antennas of chains that neither carry nor are leased. -/
theorem exec_antSelWrite_free (hcar : ∀ n, n < 4 → s.carrier n = false) (hsheaf : ∀ n, n < 4 → s.chainSheaf n = none)
    (hm : masterIsCore m = true) :
    ∃ t, exec (.antSelWrite m v) s = .next t ∧ t.mem = s.mem ∧ (∀ n, n < 4 → t.antOf n = bits v (4 * n + 3) (4 * n)) ∧
      (∀ n, n < 4 → s.antOf n ≠ bits v (4 * n + 3) (4 * n) →
        (t.utxAt n).antSettling = decide (s.get SHF.ANT_CFG_SETTLE ≠ 0)) ∧
      t.get SHF.GSTATUS_CMD_ERR = s.get SHF.GSTATUS_CMD_ERR := by
  have hstep : ∀ (j : Nat), j < 4 → ∀ t : State, AntSide antFlds s t → ∀ w, w < 16 →
      (w = t.antOf j ∧ t.antWrite j w m = t) ∨ (w ≠ t.antOf j ∧ ∃ x, t.antWrite j w m = t.antTaken j w x) := by
    intro j hj t ht w _
    have hwide : AntSide (SHF.GSTATUS_CMD_ERR :: antFlds) s t :=
      ⟨fun f k hf => ht.get f k fun hm' => hf (by rw [List.map_cons]; exact List.mem_cons_of_mem _ hm'), ht.mem⟩
    obtain ⟨hc, hs, hw⟩ := hwide.leases hj
    have hpair : t.antPairOk j w = true := by unfold State.antPairOk; rw [hs, hsheaf j hj]
    have hwriter : t.antWriter j m = true := by rw [hw, State.antWriter, hsheaf j hj]; exact hm
    by_cases hsame : w = t.antOf j
    · exact .inl ⟨hsame, t.antWrite_same hsame⟩
    · exact .inr ⟨hsame, t.antWrite_taken hsame (hc.trans (hcar j hj)) hwriter hpair⟩
  have hkeep : ∀ (j : Nat), j < 4 → ∀ t : State, AntSide antFlds s t → AntSide antFlds s (t.antWrite j (bits v (4 * j + 3) (4 * j)) m) := by
    intro j hj t ht
    rcases hstep j hj t ht _ (bits_lt_16 v j) with ⟨-, he⟩ | ⟨-, x, he⟩ <;> rw [he]
    · exact ht
    · exact ht.taken (antFld_mem j hj) x
  have hall := State.forN_keep (AntSide antFlds s) (fun n t => t.antWrite n (bits v (4 * n + 3) (4 * n)) m) 4 s (.refl _ _)
    fun j hj t ht => hkeep j hj t ht
  have hone : ∀ n, n < 4 →
      let t := s.forN 4 fun n t => t.antWrite n (bits v (4 * n + 3) (4 * n)) m
      AntSide antFlds s t ∧ t.antOf n = bits v (4 * n + 3) (4 * n) ∧
        (s.antOf n ≠ bits v (4 * n + 3) (4 * n) → (t.utxAt n).antSettling = decide (s.get SHF.ANT_CFG_SETTLE ≠ 0)) := by
    intro n hn
    refine State.forN_once (fun t => AntSide antFlds s t ∧ t.antOf n = s.antOf n)
      (fun t => AntSide antFlds s t ∧ t.antOf n = bits v (4 * n + 3) (4 * n) ∧
        (s.antOf n ≠ bits v (4 * n + 3) (4 * n) → (t.utxAt n).antSettling = decide (s.get SHF.ANT_CFG_SETTLE ≠ 0)))
      _ hn s ⟨.refl _ _, rfl⟩ (fun j hj hne t ⟨ht, ha⟩ => ⟨hkeep j hj t ht, (t.antWrite_other hj hn hne.symm).trans ha⟩) ?_ ?_
    · rintro t ⟨ht, ha⟩
      refine ⟨hkeep n hn t ht, ?_⟩
      rcases hstep n hn t ht _ (bits_lt_16 v n) with ⟨hsame, he⟩ | ⟨-, x, he⟩ <;> rw [he]
      · exact ⟨hsame.symm, fun hne => absurd (ha ▸ hsame.symm) hne⟩
      · refine ⟨t.antTaken_ant hn (bits_lt_16 v n) x, fun _ => ?_⟩
        rw [t.antTaken_settling x, ht.get _ _ (by decide)]
    · rintro j hj hne t ⟨ht, ha, hset⟩
      refine ⟨hkeep j hj t ht, (t.antWrite_other hj hn hne.symm).trans ha, fun h => ?_⟩
      rcases hstep j hj t ht _ (bits_lt_16 v j) with ⟨-, he⟩ | ⟨-, x, he⟩ <;> rw [he]
      · exact hset h
      · rw [t.antTaken_utx hne.symm x]
        exact hset h
  exact ⟨_, exec_antSelWrite s m v, hall.mem, fun n hn =>
    let ⟨_, ha, _⟩ := hone n hn; ha, fun n hn => let ⟨_, _, hset⟩ := hone n hn; hset, hall.get _ _ (by decide)⟩

end

section
variable (s : State) {m : Master} {n v : Nat}

/-- A field written that may not change keeps its value, and sets CMD_ERR. -/
theorem exec_antSelWrite_refused (hn : n < 4) (hne : bits v (4 * n + 3) (4 * n) ≠ s.antOf n)
    (hno : s.carrier n = true ∨ s.antWriter n m = false) :
    ∃ t, exec (.antSelWrite m v) s = .next t ∧ t.antOf n = s.antOf n ∧ t.get SHF.GSTATUS_CMD_ERR = 1 ∧ t.mem = s.mem := by
  have hwidth : (1 : Nat) < 2 ^ SHF.GSTATUS_CMD_ERR.width := by decide
  have herr : ∀ (t : State) (j w : Nat), t.get SHF.GSTATUS_CMD_ERR = 1 → (t.antWrite j w m).get SHF.GSTATUS_CMD_ERR = 1 := by
    intro t j w ht
    rcases t.antWrite_cases (m := m) (n := j) (v := w) with ⟨-, he⟩ | ⟨-, -, he⟩ | ⟨-, -, -, x, he⟩ <;> rw [he]
    · exact ht
    · exact t.get_set_fits hwidth
    · rw [t.get_antTaken x (by match j with
        | 0 | 1 | 2 => decide
        | _ + 3 => exact (by decide : SHF.GSTATUS_CMD_ERR.key 0 ≠ SHF.ANT_SEL_ANT3.key 0))]
      exact ht
  have hend := State.forN_once (fun t => AntSide (SHF.GSTATUS_CMD_ERR :: antFlds) s t ∧ t.antOf n = s.antOf n)
    (fun t => AntSide (SHF.GSTATUS_CMD_ERR :: antFlds) s t ∧ t.antOf n = s.antOf n ∧ t.get SHF.GSTATUS_CMD_ERR = 1)
    (fun n t => t.antWrite n (bits v (4 * n + 3) (4 * n)) m) hn s ⟨.refl _ _, rfl⟩
    (fun j hj hne t ⟨ht, ha⟩ => ⟨ht.antWrite s hj, (t.antWrite_other hj hn hne.symm).trans ha⟩) (fun t ⟨ht, ha⟩ => by
      obtain ⟨hc, -, hw⟩ := ht.leases hn
      rw [t.antWrite_refused (by rw [ha]; exact hne) (hno.imp (hc.trans ·) fun h => .inl ((hw m).trans h))]
      exact ⟨ht.refused (List.mem_cons_self ..), (t.antOf_set_err n).trans ha, t.get_set_fits hwidth⟩)
    (fun j hj hne t ⟨ht, ha, he⟩ => ⟨ht.antWrite s hj, (t.antWrite_other hj hn hne.symm).trans ha, herr t j _ he⟩)
  obtain ⟨hside, hant, herr'⟩ := hend
  exact ⟨_, exec_antSelWrite s m v, hant, herr', hside.mem⟩

/-- A write that changes the antenna of chain `n` alone. -/
theorem exec_antSelWrite_one (hn : n < 4) (hothers : ∀ k, k < 4 → k ≠ n → bits v (4 * k + 3) (4 * k) = s.antOf k) :
    exec (.antSelWrite m v) s = .next (s.antWrite n (bits v (4 * n + 3) (4 * n)) m) := by
  rw [exec_antSelWrite]
  refine congrArg Host.Outcome.next ?_
  refine State.forN_once (· = s) (· = s.antWrite n (bits v (4 * n + 3) (4 * n)) m)
    (fun n t => t.antWrite n (bits v (4 * n + 3) (4 * n)) m) hn s rfl ?_ ?_ ?_
  · rintro j hj hne t rfl
    exact t.antWrite_same (hothers j hj hne)
  · rintro t rfl
    rfl
  · rintro j hj hne t rfl
    exact State.antWrite_same _ ((hothers j hj hne).trans (s.antWrite_other hn hj hne).symm)

/-- The holder of a lease selects the antenna of a chain of it. -/
theorem exec_antSelWrite_leased {sh : Nat} (hn : n < 4) (hsheaf : s.chainSheaf n = some sh) (hcar : s.carrier n = false)
    (hothers : ∀ k, k < 4 → k ≠ n → bits v (4 * k + 3) (4 * k) = s.antOf k) (hpair : s.antPairOk n (bits v (4 * n + 3) (4 * n)) = true) :
    ∃ t, exec (.antSelWrite (.seq (s.get SHF.LEASE_STATE_OWNER sh)) v) s = .next t ∧ t.antOf n = bits v (4 * n + 3) (4 * n) ∧
      t.get SHF.GSTATUS_CMD_ERR = s.get SHF.GSTATUS_CMD_ERR ∧ t.mem = s.mem := by
  refine ⟨_, exec_antSelWrite_one s hn hothers, ?_⟩
  by_cases hsame : bits v (4 * n + 3) (4 * n) = s.antOf n
  · rw [s.antWrite_same hsame]
    exact ⟨hsame.symm, rfl, rfl⟩
  · have hw : s.antWriter n (.seq (s.get SHF.LEASE_STATE_OWNER sh)) = true := by
      rw [State.antWriter, hsheaf]
      exact beq_self_eq_true _
    obtain ⟨x, hx⟩ := s.antWrite_taken hsame hcar hw hpair
    rw [hx]
    exact ⟨s.antTaken_ant hn (bits_lt_16 v n) x,
      s.get_antTaken x ((by decide : ∀ n, n < 4 → SHF.GSTATUS_CMD_ERR.key 0 ≠ (antFld n).key 0) n hn), s.antTaken_mem x⟩

/-- An antenna that another leased sheaf forbids changes nothing. -/
theorem exec_antSelWrite_apart (hn : n < 4) (hne : bits v (4 * n + 3) (4 * n) ≠ s.antOf n)
    (hothers : ∀ k, k < 4 → k ≠ n → bits v (4 * k + 3) (4 * k) = s.antOf k)
    (hpair : s.antPairOk n (bits v (4 * n + 3) (4 * n)) = false) :
    exec (.antSelWrite m v) s = .next (s.set SHF.GSTATUS_CMD_ERR 1) := by
  rw [exec_antSelWrite_one s hn hothers, s.antWrite_refused hne (.inr (.inr hpair))]

/-! ### Geometry and beams (R162, R165, R167, R168) -/

theorem exec_geoDataWrite_taken (h : s.noLease = true) :
    ∃ t, exec (.geoDataWrite m v) s = .next t ∧ t.geoOf (s.get SHF.GEO_ADDR_CHAIN) = (bits v 15 0, bits v 31 16) ∧
      (∀ k, k ≠ s.get SHF.GEO_ADDR_CHAIN → t.geoOf k = s.geoOf k) ∧ t.regs = s.regs ∧ t.mem = s.mem := by
  refine ⟨_, congrArg Host.Outcome.next (if_pos h), ?_, fun k hk => ?_, rfl, rfl⟩
  · exact Prod.ext (Tab.get_set_same _ _ _ _) (Tab.get_set_same _ _ _ _)
  · exact Prod.ext (Tab.get_set_ne _ _ _ _ hk) (Tab.get_set_ne _ _ _ _ hk)

/-- A beam word stored, before the address moves on. -/
def State.beamStored (sh v : Nat) : State :=
  { s.set SHF.BEAM_NBEAMS (s.get SHF.BW_ADDR_BEAM sh + 1) sh with
    radio.shf.beam := Tab.set (beamDefault (s.get SHF.BW_ADDR_BEAM sh) (s.get SHF.BW_ADDR_ENTRY sh)) s.radio.shf.beam
      (sh * 1024 + s.get SHF.BW_ADDR_BEAM sh * 32 + s.get SHF.BW_ADDR_ENTRY sh) (v % 4294967296) }

theorem exec_bwWrite_stored {sh : Nat} (h : s.get SHF.LEASE_STATE_HELD sh = 0) :
    exec (.bwDataAccess sh true v) s = .next ((s.beamStored sh v).bwNext sh) := by
  have hfree : (s.on SHF.LEASE_STATE_HELD sh) = false := by simp [State.on, h]
  have hexec : exec (.bwDataAccess sh true v) s = .next (s.bwWrite sh v) := rfl
  rw [hexec, State.bwWrite, hfree]
  rfl

theorem exec_bwWrite_refused {sh : Nat} (h : s.get SHF.LEASE_STATE_HELD sh = 1) :
    exec (.bwDataAccess sh true v) s = .next ((s.set SHF.STATUS_CMD_ERR 1 sh).bwNext sh) := by
  have hheld : (s.on SHF.LEASE_STATE_HELD sh) = true := by simp [State.on, h]
  have hexec : exec (.bwDataAccess sh true v) s = .next (s.bwWrite sh v) := rfl
  rw [hexec, State.bwWrite, hheld]
  rfl

theorem State.bwNext_within {sh : Nat} (h : s.get SHF.BW_ADDR_ENTRY sh < 16) :
    s.bwNext sh = s.set SHF.BW_ADDR_ENTRY (s.get SHF.BW_ADDR_ENTRY sh + 1) sh := if_pos h

theorem State.bwNext_wraps {sh : Nat} (h : 16 ≤ s.get SHF.BW_ADDR_ENTRY sh) :
    s.bwNext sh = (s.set SHF.BW_ADDR_ENTRY 0 sh).set SHF.BW_ADDR_BEAM (s.get SHF.BW_ADDR_BEAM sh + 1) sh := if_neg (by omega)

theorem State.bwNext_rest (sh : Nat) : (s.bwNext sh).radio = s.radio ∧ (s.bwNext sh).mem = s.mem := by
  unfold State.bwNext
  split <;> exact ⟨rfl, rfl⟩

theorem State.get_beamStored {sh : Nat} {f : Fld} {k : Nat} (hf : f.apart SHF.BEAM_NBEAMS = true) :
    (s.beamStored sh v).get f k = s.get f k := (State.get_mk ..).trans (s.get_set_apart hf _)

theorem exec_bwWrite_shows {sh : Nat} (hv : v < 4294967296) (h : s.get SHF.LEASE_STATE_HELD sh = 0) :
    ∃ t, exec (.bwDataAccess sh true v) s = .next t ∧
      t.beamWord sh (s.get SHF.BW_ADDR_BEAM sh) (s.get SHF.BW_ADDR_ENTRY sh) = v ∧
      (s.get SHF.BW_ADDR_ENTRY sh < 16 → t.get SHF.BW_ADDR_ENTRY sh = s.get SHF.BW_ADDR_ENTRY sh + 1 ∧
        t.get SHF.BW_ADDR_BEAM sh = s.get SHF.BW_ADDR_BEAM sh) ∧
      (16 ≤ s.get SHF.BW_ADDR_ENTRY sh → t.get SHF.BW_ADDR_ENTRY sh = 0 ∧
        t.get SHF.BW_ADDR_BEAM sh = (s.get SHF.BW_ADDR_BEAM sh + 1) % 16) ∧ t.mem = s.mem := by
  obtain ⟨hradio, hmem⟩ := (s.beamStored sh v).bwNext_rest sh
  have hentry : (s.beamStored sh v).get SHF.BW_ADDR_ENTRY sh = s.get SHF.BW_ADDR_ENTRY sh := s.get_beamStored (by decide)
  have hbeam : (s.beamStored sh v).get SHF.BW_ADDR_BEAM sh = s.get SHF.BW_ADDR_BEAM sh := s.get_beamStored (by decide)
  refine ⟨_, exec_bwWrite_stored s h, ?_, fun hlt => ?_, fun hge => ?_, hmem⟩
  · rw [State.beamWord, hradio]
    exact (Tab.get_set_same _ _ _ _).trans (Nat.mod_eq_of_lt hv)
  · rw [State.bwNext_within _ (by rw [hentry]; exact hlt), hentry]
    have hfit : s.get SHF.BW_ADDR_ENTRY sh + 1 < 2 ^ SHF.BW_ADDR_ENTRY.width := Nat.lt_of_le_of_lt (Nat.succ_le_of_lt hlt) (by decide)
    exact ⟨State.get_set_fits _ hfit, (State.get_set_apart _ (by decide) _).trans hbeam⟩
  · rw [State.bwNext_wraps _ (by rw [hentry]; exact hge), hbeam]
    exact ⟨(State.get_set_apart _ (by decide) _).trans (State.get_set_fits _ (by decide)), State.get_set_same _ _ _ _⟩

end

/-- Settles O22: ANT_SEL antenna by antenna, and each of the aperture's other writes by whether it is taken. -/
theorem apertureWrites : Obligations.ApertureWrites := by
  unfold Obligations.ApertureWrites
  refine ⟨fun s m v hcar hsheaf hm _ => exec_antSelWrite_free s hcar hsheaf hm,
    fun s m v n hn hne hno => exec_antSelWrite_refused s hn hne hno,
    fun s sh v n hn hsheaf hcar hothers hpair => exec_antSelWrite_leased s hn hsheaf hcar hothers hpair,
    fun s m v n hn hne hothers hpair => exec_antSelWrite_apart s hn hne hothers hpair,
    fun s m v h => congrArg Host.Outcome.next (if_pos h), fun s m v h => exec_geoDataWrite_taken s h, fun s m v h => ?_,
    fun s sh v _ hv h => exec_bwWrite_shows s hv h, fun s sh v h => exec_bwWrite_refused s h, fun s sh v h => ?_, fun s sh v h => ?_,
    fun s sh sel m h => congrArg Host.Outcome.next (if_neg (by omega)), fun s sh sel m h => congrArg Host.Outcome.next (if_pos h)⟩
  · exact ⟨congrArg Host.Outcome.next (if_neg (by simp [h])), congrArg Host.Outcome.next (if_neg (by simp [h]))⟩
  · exact congrArg (fun t : State => Host.Outcome.next (t.respond (s.beamWord sh (s.get SHF.BW_ADDR_BEAM sh)
      (s.get SHF.BW_ADDR_ENTRY sh)) false)) (s.bwNext_within h)
  · exact congrArg (fun t : State => Host.Outcome.next (t.respond (s.beamWord sh (s.get SHF.BW_ADDR_BEAM sh)
      (s.get SHF.BW_ADDR_ENTRY sh)) false)) (s.bwNext_wraps h)

end Sys2Proof.Machine
end

section
/-! PROOFS. Bearing results and command follow (O23). -/

namespace Sys2Proof.Machine

open Sys2Proof

/-! ### A bearing result lands (R170, R172) -/

/-- `t` has the registers of `s` below QUE, and SHF's own state of the sheaves. -/
structure QueSide (s t : State) : Prop where
  reg : ∀ f n, f.key n < QUE.ID_BLOCK.key 0 → t.get f n = s.get f n
  sheaf : t.radio.sheaf = s.radio.sheaf

namespace QueSide
variable {s t : State}

theorem refl (s : State) : QueSide s s := ⟨fun _ _ _ => rfl, rfl⟩

section
variable (h : QueSide s t)
include h

theorem set {g : Fld} (hg : QUE.ID_BLOCK.key 0 ≤ g.key 0) (v q : Nat) : QueSide s (t.set g v q) := by
  refine ⟨fun f n hf => (State.get_set_ne t g f v q n ?_).trans (h.reg f n hf), h.sheaf⟩
  have := g.key_mono (Nat.zero_le q)
  omega

theorem bump {c g : Fld} (hc : QUE.ID_BLOCK.key 0 ≤ c.key 0) (hg : QUE.ID_BLOCK.key 0 ≤ g.key 0) (q j : Nat) :
    QueSide s (t.bump c g q j) := by
  unfold State.bump
  split
  · exact h.set hc _ q
  · exact (h.set hc _ q).set hg _ q

theorem quePut (q w : Nat) : QueSide s (t.quePut q w) := by
  unfold State.quePut
  refine QueSide.bump ?_ (by decide) (by decide) q 1
  unfold State.queSet
  extract_lets wm old s1
  have h1 : QueSide s s1 := ⟨h.reg, h.sheaf⟩
  split
  · exact h1.set (by decide) 1 q
  · split
    · exact h1.set (by decide) 1 q
    · exact h1

end
end QueSide

section
variable (s : State) {sh az el qual tag : Nat}

/-- The result registers, before the push. -/
def State.bearShown (sh az el qual tag : Nat) : State :=
  let s1 := if s.on SHF.STATUS_BEAR_RDY sh then s.set SHF.STATUS_BEAR_OVR 1 sh else s
  let s2 := ((((s1.set SHF.BEAR_AZ az sh).set SHF.BEAR_EL el sh).set SHF.BEAR_Q_QUAL qual sh).set SHF.BEAR_Q_SEQ tag
    sh).set SHF.STATUS_BEAR_RDY 1 sh
  s2.setSheaf sh { s2.sheafAt sh with bearDue := none }

/-- A result without room in its queue is overrun as one unread is. -/
theorem State.bearLand_eq : ∃ t, QueSide (s.bearShown sh az el qual tag) t ∧
    (s.bearLand sh az el qual tag = t ∨ s.bearLand sh az el qual tag = t.set SHF.STATUS_BEAR_OVR 1 sh) := by
  unfold State.bearLand
  extract_lets s1 s2 x s3 q
  have h3 : s3 = s.bearShown sh az el qual tag := rfl
  rw [h3]
  split
  · exact ⟨_, .refl _, .inl rfl⟩
  · split
    · exact ⟨_, .refl _, .inr rfl⟩
    · exact ⟨_, ((QueSide.refl _).quePut q _).quePut q _, .inl rfl⟩

/-- The fields of a result. -/
def bearFlds : List Fld := [SHF.BEAR_AZ, SHF.BEAR_EL, SHF.BEAR_Q_QUAL, SHF.BEAR_Q_SEQ, SHF.STATUS_BEAR_RDY, SHF.STATUS_BEAR_OVR]

theorem State.bearShown_shows : (s.bearShown sh az el qual tag).get SHF.BEAR_AZ sh = az % 65536 ∧
    (s.bearShown sh az el qual tag).get SHF.BEAR_EL sh = el % 65536 ∧
    (s.bearShown sh az el qual tag).get SHF.BEAR_Q_QUAL sh = qual % 65536 ∧
    (s.bearShown sh az el qual tag).get SHF.BEAR_Q_SEQ sh = tag % 65536 ∧
    (s.bearShown sh az el qual tag).get SHF.STATUS_BEAR_RDY sh = 1 ∧
    (s.get SHF.STATUS_BEAR_RDY sh = 1 → (s.bearShown sh az el qual tag).get SHF.STATUS_BEAR_OVR sh = 1) ∧
    (∀ f n, f.clear n bearFlds sh → (s.bearShown sh az el qual tag).get f n = s.get f n) ∧
    ((s.bearShown sh az el qual tag).sheafAt sh).bearDue = none := by
  unfold State.bearShown
  extract_lets s1 s2 x
  have hsheaf : ∀ (y : Sheaf) (f : Fld) (n : Nat), (s2.setSheaf sh y).get f n = s2.get f n := fun _ _ _ => rfl
  simp only [hsheaf]
  refine ⟨?_, ?_, ?_, ?_, State.get_set_fits _ (by decide), fun hrdy => ?_, fun f n hf => ?_, by rw [State.sheafAt_setSheaf_same]⟩
  · rw [State.get_set_apart _ (by decide), State.get_set_apart _ (by decide), State.get_set_apart _ (by decide),
      State.get_set_apart _ (by decide), State.get_set_same]
    rfl
  · rw [State.get_set_apart _ (by decide), State.get_set_apart _ (by decide), State.get_set_apart _ (by decide), State.get_set_same]
    rfl
  · rw [State.get_set_apart _ (by decide), State.get_set_apart _ (by decide), State.get_set_same]
    rfl
  · rw [State.get_set_apart _ (by decide), State.get_set_same]
    rfl
  · have h1 : s1 = s.set SHF.STATUS_BEAR_OVR 1 sh := if_pos (by simp [State.on, hrdy])
    rw [State.get_set_apart _ (by decide), State.get_set_apart _ (by decide), State.get_set_apart _ (by decide),
      State.get_set_apart _ (by decide), State.get_set_apart _ (by decide), h1, State.get_set_fits _ (by decide)]
  · rw [State.get_set_clear hf (by decide), State.get_set_clear hf (by decide), State.get_set_clear hf (by decide),
      State.get_set_clear hf (by decide), State.get_set_clear hf (by decide)]
    simp only [s1]
    split
    · exact State.get_set_clear hf (by decide) 1
    · rfl

/-- What a landed result shows; SHF's registers lie below QUE's. -/
theorem State.bearLand_shows (hsh : sh < 4) : (s.bearLand sh az el qual tag).get SHF.BEAR_AZ sh = az % 65536 ∧
    (s.bearLand sh az el qual tag).get SHF.BEAR_EL sh = el % 65536 ∧
    (s.bearLand sh az el qual tag).get SHF.BEAR_Q_QUAL sh = qual % 65536 ∧
    (s.bearLand sh az el qual tag).get SHF.BEAR_Q_SEQ sh = tag % 65536 ∧
    (s.bearLand sh az el qual tag).get SHF.STATUS_BEAR_RDY sh = 1 ∧
    (s.get SHF.STATUS_BEAR_RDY sh = 1 → (s.bearLand sh az el qual tag).get SHF.STATUS_BEAR_OVR sh = 1) ∧
    (s.bearLand sh az el qual tag).get SHF.CNT_BEAR_COUNT sh = s.get SHF.CNT_BEAR_COUNT sh ∧
    ((s.bearLand sh az el qual tag).sheafAt sh).bearDue = none := by
  obtain ⟨haz, hel, hqual, htag, hrdy, hovr, hrest, hdue⟩ := s.bearShown_shows (sh := sh) (az := az) (el := el) (qual := qual) (tag := tag)
  obtain ⟨t, ht, hland⟩ := s.bearLand_eq (sh := sh) (az := az) (el := el) (qual := qual) (tag := tag)
  have hlow : ∀ f ∈ [SHF.BEAR_AZ, SHF.BEAR_EL, SHF.BEAR_Q_QUAL, SHF.BEAR_Q_SEQ, SHF.STATUS_BEAR_RDY, SHF.STATUS_BEAR_OVR,
      SHF.CNT_BEAR_COUNT], t.get f sh = (s.bearShown sh az el qual tag).get f sh := fun f hf =>
    ht.reg f sh ((by decide : ∀ sh, sh < 4 → ∀ f ∈ [SHF.BEAR_AZ, SHF.BEAR_EL, SHF.BEAR_Q_QUAL, SHF.BEAR_Q_SEQ, SHF.STATUS_BEAR_RDY,
      SHF.STATUS_BEAR_OVR, SHF.CNT_BEAR_COUNT], f.key sh < QUE.ID_BLOCK.key 0) sh hsh f hf)
  have hcount := hrest SHF.CNT_BEAR_COUNT sh (Fld.clear_of_apart (by decide) _ _)
  have hdue' : (t.sheafAt sh).bearDue = none := (congrArg (fun x => (Tab.get ({} : Sheaf) x sh).bearDue) ht.sheaf).trans hdue
  rcases hland with hland | hland <;> rw [hland]
  · exact ⟨(hlow _ (by decide)).trans haz, (hlow _ (by decide)).trans hel, (hlow _ (by decide)).trans hqual,
      (hlow _ (by decide)).trans htag, (hlow _ (by decide)).trans hrdy, fun h => (hlow _ (by decide)).trans (hovr h),
      (hlow _ (by decide)).trans hcount, hdue'⟩
  · have hset : ∀ f : Fld, f.apart SHF.STATUS_BEAR_OVR = true → (t.set SHF.STATUS_BEAR_OVR 1 sh).get f sh = t.get f sh :=
      fun f hf => t.get_set_apart hf 1
    exact ⟨(hset _ (by decide)).trans ((hlow _ (by decide)).trans haz), (hset _ (by decide)).trans ((hlow _ (by decide)).trans hel),
      (hset _ (by decide)).trans ((hlow _ (by decide)).trans hqual), (hset _ (by decide)).trans ((hlow _ (by decide)).trans htag),
      (hset _ (by decide)).trans ((hlow _ (by decide)).trans hrdy), fun _ => t.get_set_fits (by decide),
      (hset _ (by decide)).trans ((hlow _ (by decide)).trans hcount), hdue'⟩

end

theorem State.sheafAt_bump (s : State) (c d : Fld) (n sh : Nat) : (s.bump c d n).sheafAt sh = s.sheafAt sh := by
  unfold State.bump
  split <;> rfl

section
variable (s : State) {sh tag mask : Nat}

theorem exec_bearRdy_fails (hdue : (s.sheafAt sh).bearDue = some (tag, mask)) (h : s.get SHF.BEAR_CFG_EN = 0 ∨ popcount 16 mask < s.bearMin) :
    exec (.bearRdy sh) s = .next (((s.bearLand sh 0x8000 0x8000 0 tag).set SHF.STATUS_BEAR_FAIL 1 sh).bump SHF.CNT_BFAIL_COUNT
      SHF.STATUS_SAT sh) := by
  have hexec : exec (.bearRdy sh) s = execBearRdy sh s := rfl
  rw [hexec, execBearRdy, hdue]
  exact if_pos (by simpa [State.on] using h)

theorem exec_bearRdy_lands (hdue : (s.sheafAt sh).bearDue = some (tag, mask)) (hen : s.get SHF.BEAR_CFG_EN = 1)
    (hmin : s.bearMin ≤ popcount 16 mask) :
    exec (.bearRdy sh) s = .next (((s.bearResult sh mask).2.bearLand sh (s.bearResult sh mask).1.1 (s.bearResult sh mask).1.2.1
      (s.bearResult sh mask).1.2.2 tag).bump SHF.CNT_BEAR_COUNT SHF.STATUS_SAT sh) := by
  have hexec : exec (.bearRdy sh) s = execBearRdy sh s := rfl
  rw [hexec, execBearRdy, hdue]
  exact if_neg (by simpa [State.on, hen] using hmin)

theorem unsignedOf_mod (i : Int) : unsignedOf 16 i % 65536 = unsignedOf 16 i := by
  refine Nat.mod_eq_of_lt ?_
  unfold unsignedOf
  omega

theorem State.bearResult_points {r : Bearing}
    (hnz : ((setBits 16 mask).map s.bearInput).all (fun e => e.i == 0 && e.q == 0) = false)
    (hr : r = bearing ((setBits 16 mask).map s.bearInput) (s.khz (s.get SHF.COMP_LO_USED sh)) (s.get SHF.BEAR_CFG_FOV)) :
    s.bearResult sh mask = ((unsignedOf 16 r.az, unsignedOf 16 r.el, qualWord (popcount 16 mask) r.ambig r.edge r.coh), s) := by
  subst hr
  exact if_neg (by rw [hnz]; decide)

theorem State.bearResult_open (hz : ((setBits 16 mask).map s.bearInput).all (fun e => e.i == 0 && e.q == 0) = true) :
    ∃ az el qual k, s.bearResult sh mask = ((az, el, qual), { s with freeCount := k }) := ⟨_, _, _, _, if_pos hz⟩

end

/-! ### Command follow (R174, R175, R177) -/

/-- `t` has the registers of `s` from SHF on, and its memory. -/
structure LateRegs (s t : State) : Prop where
  get : ∀ f n, SHF.ID_BLOCK.key 0 ≤ f.key n → t.get f n = s.get f n
  mem : t.mem = s.mem

namespace LateRegs
variable {s t : State}

theorem refl (s : State) : LateRegs s s := ⟨fun _ _ _ => rfl, rfl⟩

section
variable (h : LateRegs s t)
include h

theorem set {g : Fld} {k : Nat} (hg : g.key k < SHF.ID_BLOCK.key 0) (v : Nat) : LateRegs s (t.set g v k) :=
  ⟨fun f n hf => (State.get_set_ne t g f v k n (by omega)).trans (h.get f n hf), h.mem⟩

theorem withRadio (x : Radio) : LateRegs s { t with radio := x } := ⟨h.get, h.mem⟩

theorem setUrx (ch : Nat) (u : UrxChain) : LateRegs s (t.setUrx ch u) := h.withRadio _

theorem rxEnter {ch : Nat} (hch : ch < 16) : LateRegs s (t.rxEnter ch) := by
  unfold State.rxEnter
  extract_lets s1 u
  have h1 : LateRegs s s1 := by
    simp only [s1]
    split
    · exact h.set ((by decide : ∀ ch, ch < 16 → URX.STATE_EXCL.key ch < SHF.ID_BLOCK.key 0) ch hch) 0
    · exact h
  exact (h1.setUrx ch _).set (by decide) _

theorem rxGain {ch : Nat} (hch : ch < 16) (level : Nat) : LateRegs s (t.rxGain ch level) :=
  h.set ((by decide : ∀ ch, ch < 16 → URX.STATE_GAIN_APP.key ch < SHF.ID_BLOCK.key 0) ch hch) _

theorem steer {c : Nat} (hc : c < 4) (v : Nat) : LateRegs s (t.steer c v) := by
  unfold State.steer
  extract_lets x s1
  have h1 : LateRegs s s1 := by
    simp only [s1]
    split
    · exact h.withRadio _
    · exact h
  exact h1.set ((by decide : ∀ c, c < 4 → UTX.PHASE_STEER.key c < SHF.ID_BLOCK.key 0) c hc) v

theorem windowOpen (sh : Nat) (f : Frame) : LateRegs s (t.windowOpen sh f) := by
  unfold State.windowOpen
  extract_lets s1
  have h1 : LateRegs s s1 := by
    simp only [s1]
    unfold State.beamApply
    split
    · exact h
    · next b hb =>
      refine State.forL_keep (LateRegs s) _ _ _ (h.withRadio _) fun c hc u hu => hu.steer ?_ _
      unfold State.txOf at hc
      split at hc
      · exact ((mem_setBits _ _ _).1 hc).1
      · cases hc
  exact h1.withRadio _

end
end LateRegs

section
variable (s : State) {sh level : Nat} {b : List Bool}

/-- The level measured, which leaves every other register. -/
theorem State.cfLevel_shows : (s.cfLevel sh level).get SHF.CF_STATE_LEVEL sh = level % 65536 ∧ (s.cfLevel sh level).mem = s.mem ∧
    ∀ f n, f.key n ≠ SHF.CF_STATE_LEVEL.key sh → (s.cfLevel sh level).get f n = s.get f n := by
  have hset : (s.set SHF.CF_STATE_LEVEL level sh).get SHF.CF_STATE_LEVEL sh = level % 65536 := s.get_set_same _ _ _
  unfold State.cfLevel
  extract_lets s1
  split
  · exact ⟨hset, rfl, fun f n hf => State.get_set_ne _ _ _ _ _ _ hf⟩
  · exact ⟨hset, rfl, fun f n hf => State.get_set_ne _ _ _ _ _ _ hf⟩

theorem State.cfLevel_low (h : sint 16 level < sint 16 (s.get SHF.CF_CFG_MIN sh)) :
    s.cfLevel sh level = s.set SHF.CF_STATE_LEVEL level sh := if_pos h

theorem State.cfLevel_seen (h : sint 16 (s.get SHF.CF_CFG_MIN sh) ≤ sint 16 level) : ((s.cfLevel sh level).sheafAt sh).cfSeen = true := by
  have hlevel : s.cfLevel sh level = (s.set SHF.CF_STATE_LEVEL level sh).setSheaf sh
      { (s.set SHF.CF_STATE_LEVEL level sh).sheafAt sh with cfSeen := true } := if_neg (by omega)
  rw [hlevel, State.sheafAt_setSheaf_same]

theorem exec_cf (sh level : Nat) (b : List Bool) : exec (.cfCommandParsed sh b level) s = execCfCommandParsed sh b level s := rfl

theorem exec_cf_idle (h : s.get SHF.LEASE_STATE_HELD sh = 0 ∨ s.get SHF.CF_STATE_STATE sh = 0 ∨ s.get SHF.CF_STATE_STATE sh = 3) :
    exec (.cfCommandParsed sh b level) s = .next s := by
  rw [exec_cf]
  exact if_pos (by rcases h with h | h | h <;> simp [State.on, h])

/-- A command on a sheaf that follows. -/
theorem exec_cf_follows (hheld : s.get SHF.LEASE_STATE_HELD sh = 1)
    (hst : s.get SHF.CF_STATE_STATE sh = 1 ∨ s.get SHF.CF_STATE_STATE sh = 2) :
    exec (.cfCommandParsed sh b level) s =
      if sint 16 level < sint 16 (s.get SHF.CF_CFG_MIN sh) then .next (s.cfLevel sh level)
      else
        let s2 := (s.cfLevel sh level).setEng sh { (s.cfLevel sh level).engAt sh with captRn := none }
        if cfCode b == 0 then .next ((s2.set SHF.CF_STATE_LAST_CMD 255 sh).bump SHF.CNT_CFERR_COUNT SHF.STATUS_SAT sh)
        else if !cfCrcOk b then .next ((s2.set SHF.STATUS_CF_ERR 1 sh).bump SHF.CNT_CFERR_COUNT SHF.STATUS_SAT sh)
        else .next ((s.cfLevel sh level).cfParsed sh b) := by
  rw [exec_cf]
  exact if_neg (by rcases hst with h | h <;> simp [State.on, h, hheld])

end

section
variable (s : State) {sh : Nat} {b : List Bool}

theorem State.told_mem (n k : Nat) (x : Seq) (e : FrameEng) : (((s.setSeq n x).setEng sh e).seqEvent n k).mem = s.mem := rfl

theorem State.get_withEng (e : FrameEng) (f : Fld) (n : Nat) : (s.setEng sh e).get f n = s.get f n := rfl

/-- A parsed command taken up, in the registers that show it. -/
def State.cfCounted (sh : Nat) (b : List Bool) : State :=
  ((s.set SHF.CF_STATE_STATE 2 sh).set SHF.CF_STATE_LAST_CMD (cfLast (cfCode b)) sh).bump SHF.CNT_CF_COUNT SHF.STATUS_SAT sh

/-- The sequencer told of it, before the window that it may open; `x` and `e` are the sequencer's and the frame engine's own states. -/
def State.cfTaken (sh : Nat) (b : List Bool) (x : Seq) (e : FrameEng) : State :=
  (((s.cfCounted sh b).setSeq (s.get SHF.LEASE_STATE_OWNER sh) x).setEng sh e).seqEvent (s.get SHF.LEASE_STATE_OWNER sh) evCFC

theorem State.cfCounted_mem : (s.cfCounted sh b).mem = s.mem := by
  obtain ⟨hmem, -, -⟩ := State.bump_rest (n := sh) ((s.set SHF.CF_STATE_STATE 2 sh).set SHF.CF_STATE_LAST_CMD (cfLast (cfCode b)) sh)
    SHF.CNT_CF_COUNT SHF.STATUS_SAT
  exact hmem.trans ((State.set_mem _ _ _ _).trans (s.set_mem _ _ _))

theorem State.cfTaken_shows (hsh : sh < 4) (x : Seq) (e : FrameEng) : (s.cfTaken sh b x e).get SHF.CF_STATE_STATE sh = 2 ∧
    (s.cfTaken sh b x e).get SHF.CF_STATE_LAST_CMD sh = cfLast (cfCode b) % 256 ∧
    (s.cfTaken sh b x e).get SHF.CF_STATE_LEVEL sh = s.get SHF.CF_STATE_LEVEL sh ∧
    (s.get SHF.CNT_CF_COUNT sh < 0xFFFFFFFF → (s.cfTaken sh b x e).get SHF.CNT_CF_COUNT sh = s.get SHF.CNT_CF_COUNT sh + 1) ∧
    (s.cfTaken sh b x e).bit LSC.EVP_EVP 7 (s.get SHF.LEASE_STATE_OWNER sh) = true ∧ (s.cfTaken sh b x e).mem = s.mem := by
  have hevp : ∀ f : Fld, f.below LSC.EVP_EVP = true → sh < f.count → (s.cfTaken sh b x e).get f sh = (s.cfCounted sh b).get f sh :=
    fun f hb hc => by rw [State.cfTaken, State.seqEvent, State.setBit, State.get_set_above _ hb hc,
      State.get_withEng, State.get_setSeq]
  refine ⟨?_, ?_, ?_, fun h => ?_, State.bit_setBit_true _ (by decide) _, ?_⟩
  · rw [hevp _ (by decide) hsh, State.cfCounted, State.get_bump_apart _ (by decide) (by decide),
      State.get_set_apart _ (by decide), State.get_set_fits _ (by decide)]
  · rw [hevp _ (by decide) hsh, State.cfCounted, State.get_bump_apart _ (by decide) (by decide), State.get_set_same]
    rfl
  · rw [hevp _ (by decide) hsh, State.cfCounted, State.get_bump_apart _ (by decide) (by decide),
      State.get_set_apart _ (by decide), State.get_set_apart _ (by decide)]
  · have hcnt : ((s.set SHF.CF_STATE_STATE 2 sh).set SHF.CF_STATE_LAST_CMD (cfLast (cfCode b)) sh).get SHF.CNT_CF_COUNT sh =
        s.get SHF.CNT_CF_COUNT sh := by rw [State.get_set_apart _ (by decide), State.get_set_apart _ (by decide)]
    rw [hevp _ (by decide) hsh, State.cfCounted, State.get_bump_same _ (by rw [hcnt]; exact h) rfl, hcnt]
  · rw [State.cfTaken, State.told_mem, State.cfCounted_mem]

/-- The window leaves the registers from SHF on. -/
theorem State.cfParsed_late : ∃ x e, LateRegs (s.cfTaken sh b x e) (s.cfParsed sh b) := by
  unfold State.cfParsed
  extract_lets n code replies e carry x s1 s2 y s3
  refine ⟨{ x with cfcmd := 256 * b2n replies + cfLast code }, { e with captRn := none, window := none, preamble := false }, ?_⟩
  have h2 : s.cfTaken sh b { x with cfcmd := 256 * b2n replies + cfLast code }
      { e with captRn := none, window := none, preamble := false } = s2 := rfl
  rw [h2]
  have h3 : LateRegs s2 s3 := by
    simp only [s3]
    split
    · exact (LateRegs.refl s2).withRadio _
    · exact .refl s2
  split
  · refine LateRegs.windowOpen ?_ sh _
    refine State.forL_keep (LateRegs s2) _ _ _ h3 fun ch hch u hu => ?_
    have hlt : ch < 16 := by
      unfold State.rxOf at hch
      split at hch
      · exact ((mem_setBits _ _ _).1 hch).1
      · cases hch
    exact (hu.rxEnter hlt).rxGain hlt _
  · exact h3

end

section
variable (s : State) {sh level : Nat} {b : List Bool}

theorem exec_cf_parsed (hsh : sh < 4) (hheld : s.get SHF.LEASE_STATE_HELD sh = 1)
    (hst : s.get SHF.CF_STATE_STATE sh = 1 ∨ s.get SHF.CF_STATE_STATE sh = 2)
    (hmin : sint 16 (s.get SHF.CF_CFG_MIN sh) ≤ sint 16 level) (hcode : cfCode b ≠ 0) (hcrc : cfCrcOk b = true) :
    ∃ t, exec (.cfCommandParsed sh b level) s = .next t ∧ t.get SHF.CF_STATE_STATE sh = 2 ∧
      t.get SHF.CF_STATE_LEVEL sh = level % 65536 ∧ t.get SHF.CF_STATE_LAST_CMD sh = cfLast (cfCode b) % 256 ∧
      (s.get SHF.CNT_CF_COUNT sh < 0xFFFFFFFF → t.get SHF.CNT_CF_COUNT sh = s.get SHF.CNT_CF_COUNT sh + 1) ∧
      t.bit LSC.EVP_EVP 7 (s.get SHF.LEASE_STATE_OWNER sh) = true ∧ t.mem = s.mem := by
  obtain ⟨hlevel, hmem, hrest⟩ := s.cfLevel_shows (sh := sh) (level := level)
  have hexec : exec (.cfCommandParsed sh b level) s = .next ((s.cfLevel sh level).cfParsed sh b) := by
    rw [exec_cf_follows s hheld hst, if_neg (by omega)]
    exact (if_neg (by simpa using hcode)).trans (if_neg (by simp [hcrc]))
  have howner : (s.cfLevel sh level).get SHF.LEASE_STATE_OWNER sh = s.get SHF.LEASE_STATE_OWNER sh :=
    hrest _ _ (Fld.key_ne_of_apart (by decide) _ _)
  have hcount : (s.cfLevel sh level).get SHF.CNT_CF_COUNT sh = s.get SHF.CNT_CF_COUNT sh :=
    hrest _ _ (Fld.key_ne_of_apart (by decide) _ _)
  obtain ⟨x, e, hlate⟩ := (s.cfLevel sh level).cfParsed_late (sh := sh) (b := b)
  obtain ⟨hstate, hlast, hlev, hcnt, hevp, htaken⟩ := (s.cfLevel sh level).cfTaken_shows (b := b) hsh x e
  rw [howner] at hevp
  have hkey : ∀ (f : Fld) (n : Nat), SHF.ID_BLOCK.key 0 ≤ f.key 0 → SHF.ID_BLOCK.key 0 ≤ f.key n := fun f n h =>
    Nat.le_trans h (f.key_mono (Nat.zero_le n))
  refine ⟨_, hexec, (hlate.get _ _ (hkey _ _ (by decide))).trans hstate, ((hlate.get _ _ (hkey _ _ (by decide))).trans hlev).trans hlevel,
    (hlate.get _ _ (hkey _ _ (by decide))).trans hlast, fun h => ?_,
    (congrArg (bitOf · 7) (hlate.get LSC.EVP_EVP _ (hkey _ _ (by decide)))).trans hevp, hlate.mem.trans (htaken.trans hmem)⟩
  rw [hlate.get _ _ (hkey _ _ (by decide)), hcnt (by rw [hcount]; exact h), hcount]

/-- What an error in a command changes: its count, and `f` set to `v`. -/
theorem State.cfErr_shows {f : Fld} (v : Nat) (hf : ∀ g ∈ [SHF.CF_STATE_STATE, SHF.CF_STATE_LEVEL, SHF.CNT_CFERR_COUNT], g.apart f = true) (hsat : f.apart SHF.CNT_CFERR_COUNT = true ∧ f.apart SHF.STATUS_SAT = true) (e : FrameEng) :
    let t := (((s.cfLevel sh level).setEng sh e).set f v sh).bump SHF.CNT_CFERR_COUNT SHF.STATUS_SAT sh
    t.get SHF.CF_STATE_STATE sh = s.get SHF.CF_STATE_STATE sh ∧ t.get SHF.CF_STATE_LEVEL sh = level % 65536 ∧
    t.get f sh = v % 2 ^ f.width ∧
    (s.get SHF.CNT_CFERR_COUNT sh < 0xFFFFFFFF → t.get SHF.CNT_CFERR_COUNT sh = s.get SHF.CNT_CFERR_COUNT sh + 1) ∧
    t.mem = s.mem := by
  obtain ⟨hlevel, hmem, hrest⟩ := s.cfLevel_shows (sh := sh) (level := level)
  have hcount : (((s.cfLevel sh level).setEng sh e).set f v sh).get SHF.CNT_CFERR_COUNT sh = s.get SHF.CNT_CFERR_COUNT sh := by
    rw [State.get_set_apart _ (hf _ (by decide)), State.get_withEng, hrest _ _ (Fld.key_ne_of_apart (by decide) _ _)]
  obtain ⟨hbump, -, -⟩ := State.bump_rest (n := sh) (((s.cfLevel sh level).setEng sh e).set f v sh) SHF.CNT_CFERR_COUNT SHF.STATUS_SAT
  refine ⟨?_, ?_, ?_, fun h => ?_, hbump.trans hmem⟩
  · rw [State.get_bump_apart _ (by decide) (by decide), State.get_set_apart _ (hf _ (by decide)), State.get_withEng,
      hrest _ _ (Fld.key_ne_of_apart (by decide) _ _)]
  · rw [State.get_bump_apart _ (by decide) (by decide), State.get_set_apart _ (hf _ (by decide)), State.get_withEng, hlevel]
  · rw [State.get_bump_apart _ hsat.1 hsat.2, State.get_set_same]
  · rw [State.get_bump_same _ (by rw [hcount]; exact h) rfl, hcount]

end

/-- Settles O23: bearing results by whether the estimator has what it needs, and command follow by level, code and CRC. -/
theorem bearingAndCommandFollow : Obligations.BearingAndCommandFollow := by
  unfold Obligations.BearingAndCommandFollow
  refine ⟨?_, ?_, ?_, ?_, fun s sh level b hsh hheld hst hmin hcode hcrc => exec_cf_parsed s hsh hheld hst hmin hcode hcrc, ?_, ?_, ?_,
    fun s sh level b h => exec_cf_idle s h, ?_, ?_, ?_, ?_⟩
  · intro s sh tag mask r hsh htag hdue hen hmin hnz hr
    obtain ⟨haz, hel, hqual, hseq, hrdy, hovr, hcount, hdue'⟩ := s.bearLand_shows (az := unsignedOf 16 r.az) (el := unsignedOf 16 r.el)
      (qual := qualWord (popcount 16 mask) r.ambig r.edge r.coh) (tag := tag) hsh
    have hexec := exec_bearRdy_lands s hdue hen hmin
    rw [s.bearResult_points hnz hr] at hexec
    refine ⟨_, hexec, ?_, ?_, ?_, ?_, ?_, fun h => ?_, fun h => ?_, ?_⟩
    · rw [State.get_bump_apart _ (by decide) (by decide), haz, unsignedOf_mod]
    · rw [State.get_bump_apart _ (by decide) (by decide), hel, unsignedOf_mod]
    · rw [State.get_bump_apart _ (by decide) (by decide), hqual]
    · rw [State.get_bump_apart _ (by decide) (by decide), hseq, Nat.mod_eq_of_lt htag]
    · rw [State.get_bump_apart _ (by decide) (by decide), hrdy]
    · rw [State.get_bump_apart _ (by decide) (by decide), hovr h]
    · rw [State.get_bump_same _ (by rw [hcount]; exact h) rfl, hcount]
    · rw [State.sheafAt_bump]
      exact hdue'
  · intro s sh tag mask hsh htag hdue hen hmin hz
    obtain ⟨az, el, qual, k, hres⟩ := s.bearResult_open (sh := sh) hz
    have hexec := exec_bearRdy_lands s hdue hen hmin
    rw [hres] at hexec
    obtain ⟨-, -, -, hseq, hrdy, -, -, hdue'⟩ := ({ s with freeCount := k } : State).bearLand_shows (az := az) (el := el) (qual := qual)
      (tag := tag) hsh
    refine ⟨_, hexec, ?_, ?_, ?_⟩
    · rw [State.get_bump_apart _ (by decide) (by decide), hseq, Nat.mod_eq_of_lt htag]
    · rw [State.get_bump_apart _ (by decide) (by decide), hrdy]
    · rw [State.sheafAt_bump]
      exact hdue'
  · intro s sh tag mask hsh htag hdue hno
    obtain ⟨haz, hel, hqual, hseq, hrdy, -, -, hdue'⟩ := s.bearLand_shows (az := 0x8000) (el := 0x8000) (qual := 0) (tag := tag) hsh
    refine ⟨_, exec_bearRdy_fails s hdue hno, ?_, ?_, ?_, ?_, ?_, ?_, ?_⟩
    · rw [State.get_bump_apart _ (by decide) (by decide), State.get_set_apart _ (by decide), haz]
    · rw [State.get_bump_apart _ (by decide) (by decide), State.get_set_apart _ (by decide), hel]
    · rw [State.get_bump_apart _ (by decide) (by decide), State.get_set_apart _ (by decide), hqual]
    · rw [State.get_bump_apart _ (by decide) (by decide), State.get_set_apart _ (by decide), hseq, Nat.mod_eq_of_lt htag]
    · rw [State.get_bump_apart _ (by decide) (by decide), State.get_set_fits _ (by decide)]
    · rw [State.get_bump_apart _ (by decide) (by decide), State.get_set_apart _ (by decide), hrdy]
    · rw [State.sheafAt_bump]
      exact hdue'
  · intro s sh hdue
    have hexec : exec (.bearRdy sh) s = execBearRdy sh s := rfl
    rw [hexec, execBearRdy, hdue]
  · intro s sh level b hsh hheld hst hmin hcode hcrc
    have hexec := exec_cf_follows s (b := b) (level := level) hheld hst
    rw [if_neg (by omega)] at hexec
    have hexec' := hexec.trans ((if_neg (by simpa using hcode)).trans (if_pos (by simp [hcrc])))
    obtain ⟨hstate, hlevel, hset, hcount, hmem⟩ := s.cfErr_shows (sh := sh) (level := level) (f := SHF.STATUS_CF_ERR) 1 (by decide)
      (by decide) { (s.cfLevel sh level).engAt sh with captRn := none }
    refine ⟨_, hexec', hstate, hlevel, hset, hcount, ?_, hmem⟩
    obtain ⟨-, -, hrest⟩ := s.cfLevel_shows (sh := sh) (level := level)
    have hclear : LSC.EVP_EVP.clear 0 [SHF.CNT_CFERR_COUNT, SHF.STATUS_SAT, SHF.STATUS_CF_ERR, SHF.CF_STATE_LEVEL] sh :=
      (by decide : ∀ sh, sh < 4 → ∀ g ∈ [SHF.CNT_CFERR_COUNT, SHF.STATUS_SAT, SHF.STATUS_CF_ERR, SHF.CF_STATE_LEVEL],
        LSC.EVP_EVP.key 0 ≠ g.key sh) sh hsh
    rw [State.get_bump_clear hclear (by decide) (by decide), State.get_set_clear hclear (by decide), State.get_withEng,
      hrest _ _ (hclear _ (by decide))]
  · intro s sh level b hsh hheld hst hmin hcode
    have hexec := exec_cf_follows s (b := b) (level := level) hheld hst
    rw [if_neg (by omega)] at hexec
    have hexec' := hexec.trans (if_pos (by simp [hcode]))
    obtain ⟨hstate, -, hset, hcount, hmem⟩ := s.cfErr_shows (sh := sh) (level := level) (f := SHF.CF_STATE_LAST_CMD) 255 (by decide)
      (by decide) { (s.cfLevel sh level).engAt sh with captRn := none }
    exact ⟨_, hexec', hstate, hset, hcount, hmem⟩
  · intro s sh level b hheld hst hlow
    rw [exec_cf_follows s hheld hst, if_pos hlow, s.cfLevel_low hlow]
  · intro s sh level hst hlow
    have hexec : exec (.cfLost sh level) s = execCfLost sh level s := rfl
    rw [hexec, execCfLost, if_pos (by rcases hst with h | ⟨h, hseen⟩ <;> simp [*]), s.cfLevel_low hlow]
    rfl
  · intro s sh level h
    have hexec : exec (.cfLost sh level) s = execCfLost sh level s := rfl
    rw [hexec, execCfLost]
    refine if_neg ?_
    rcases h with h | h | ⟨h, hseen⟩ | h
    · simp [h]
    · simp [h]
    · simp [h, hseen]
    · simp only [Bool.and_eq_true, decide_eq_true_eq, not_and, not_lt]
      exact fun _ => h
  · intro s sh level hsh hst hmin
    obtain ⟨hlevel, hmem, hrest⟩ := s.cfLevel_shows (sh := sh) (level := level)
    have hexec : exec (.cfSearch sh level) s = execCfSearch sh level s := rfl
    refine ⟨_, hexec.trans (if_pos (by simp [hst, hmin])), State.get_set_fits _ (by decide), ?_, s.cfLevel_seen (by omega), hmem, ?_⟩
    · rw [State.get_set_apart _ (by decide), hlevel]
    · intro f n hf
      rw [List.mem_cons, List.mem_singleton, not_or] at hf
      rw [State.get_set_ne _ _ _ _ _ _ hf.1, hrest f n hf.2]
  · intro s sh level h
    have hexec : exec (.cfSearch sh level) s = execCfSearch sh level s := rfl
    rw [hexec, execCfSearch]
    refine if_neg ?_
    simp only [Bool.and_eq_true, beq_iff_eq, decide_eq_true_eq, not_and, not_le]
    exact fun h3 => h.elim (absurd h3) id

end Sys2Proof.Machine
end

section
/-! PROOFS. R71, R74, R75, R198, R223: frames that begin and end. -/

namespace Sys2Proof.Machine

open Sys2Proof

/-! ### What the operations on a transmit chain leave -/

theorem State.txOf_lt {s : State} {sh c : Nat} (h : c ∈ s.txOf sh) : c < 4 := by
  unfold State.txOf at h
  split at h
  · exact ((mem_setBits _ _ _).1 h).1
  · cases h

theorem State.rxOf_lt {s : State} {sh ch : Nat} (h : ch ∈ s.rxOf sh) : ch < 16 := by
  unfold State.rxOf at h
  split at h
  · exact ((mem_setBits _ _ _).1 h).1
  · cases h

theorem State.txReady_lt {s : State} {sh c : Nat} (h : c ∈ s.txReady sh) : c < 4 := State.txOf_lt (List.mem_filter.1 h).1

theorem Fld.late_of_tx {g : Fld} (hg : g.below SHF.ID_BLOCK = true) {k : Nat} (hk : k < g.count) : g.key k < SHF.ID_BLOCK.key 0 :=
  Fld.key_lt_of_below hg hk 0

namespace LateRegs
variable {s t : State} (h : LateRegs s t)
include h

theorem setTx {g : Fld} (hg : g.below SHF.ID_BLOCK = true) {c : Nat} (hc : c < g.count) (v : Nat) : LateRegs s (t.set g v c) :=
  h.set (Fld.late_of_tx hg hc) v

theorem setUst {c : Nat} (hc : c < 4) (st : Nat) : LateRegs s (t.setUst c st) := by
  unfold State.setUst
  split
  · exact h
  · exact ((h.setTx (by decide) hc _).setTx (g := UTX.STATUS_STATE_CHG) (by decide) hc _).withRadio _

theorem refreshPwr {c : Nat} (hc : c < 4) : LateRegs s (t.refreshPwr c) := by
  unfold State.refreshPwr
  split
  · exact h
  · unfold State.applyPwr
    extract_lets g i x a bias present
    exact (((((((h.setTx (by decide) hc _).setTx (g := UTX.PWR_GROUP) (by decide) hc _).setTx (g := UTX.FWD_EXPECT) (by decide) hc _).setTx
      (g := UTX.PA_DRV) (by decide) hc _).setTx (g := UTX.PA_SUPPLY) (by decide) hc _).setTx (g := UTX.PA_BIAS) (by decide) hc _).setTx
      (g := UTX.PHASE_TRIM) (by decide) hc _).withRadio _

end LateRegs

theorem State.engAt_setUst (s : State) (c st sh : Nat) : (s.setUst c st).engAt sh = s.engAt sh := by
  unfold State.setUst
  split <;> rfl

theorem State.engAt_set (s : State) (f : Fld) (v n sh : Nat) : (s.set f v n).engAt sh = s.engAt sh := rfl

theorem State.engAt_buckUpdate (s : State) (sh : Nat) : s.buckUpdate.engAt sh = s.engAt sh := rfl

theorem State.engAt_applyPwr (s : State) (c sh : Nat) : (s.applyPwr c).engAt sh = s.engAt sh := by
  unfold State.applyPwr
  extract_lets g i x a bias present
  simp only [State.engAt_buckUpdate, State.engAt_set]

theorem State.engAt_refreshPwr (s : State) (c sh : Nat) : (s.refreshPwr c).engAt sh = s.engAt sh := by
  unfold State.refreshPwr
  split
  · rfl
  · exact s.engAt_applyPwr c sh

/-- A chain given a state keeps every other chain's. -/
theorem State.ust_setUst_other (s : State) {c k st : Nat} (h : k ≠ c) :
    (s.setUst c st).get UTX.STATE_STATE k = s.get UTX.STATE_STATE k :=
  s.get_setUst (fun g hg => by
    simp only [List.mem_cons, List.not_mem_nil, or_false] at hg
    rcases hg with rfl | rfl
    · exact Fld.key_ne_of_instance (by decide) h
    · exact Fld.key_ne_of_apart (by decide) _ _) st

/-- A chain that stands in `st` stands in it still where any chain is given that state. -/
theorem State.ust_setUst_keep (s : State) {c k st : Nat} (hst : st < 8) (h : s.get UTX.STATE_STATE k = st) :
    (s.setUst c st).get UTX.STATE_STATE k = st := by
  by_cases hk : k = c
  · rw [hk]; exact s.ust_setUst hst
  · rw [s.ust_setUst_other hk, h]

/-! ### A frame begins -/

section
variable (s : State) (sh : Nat) (f : Frame)

/-- A frame that begins on chain `c`, as the engine and the chain show it. -/
def Sends (s t : State) (sh c : Nat) (f : Frame) : Prop :=
  ∃ g, (t.engAt sh).sending = some g ∧ g.cmd = f.cmd ∧ (t.engAt sh).held = none ∧ (t.engAt sh).taRunning = false ∧
    t.get UTX.STATE_STATE c = 4 ∧ t.mem = s.mem

/-- The engine as the frame that begins leaves it. -/
def Sending (s : State) (sh : Nat) (f : Frame) (t : State) : Prop :=
  (∃ g, (t.engAt sh).sending = some g ∧ g.cmd = f.cmd) ∧ (t.engAt sh).held = none ∧ (t.engAt sh).taRunning = false ∧ t.mem = s.mem

theorem Sending.of_eng {s t u : State} {sh : Nat} {f : Frame} (h : Sending s sh f t) (he : u.engAt sh = t.engAt sh) (hm : u.mem = t.mem) :
    Sending s sh f u := by
  unfold Sending
  rw [he, hm]
  exact h

theorem State.beginFrame_sends {on : List Nat} {c : Nat} (hc : c ∈ on) : Sends s (s.beginFrame sh f on) sh c f := by
  have hne : (on == []) = false := by
    cases on with
    | nil => cases hc
    | cons a r => rfl
  unfold State.beginFrame
  extract_lets e f0 f' s1 s2
  rw [hne, if_neg (by decide)]
  have h1 : Sending s sh f s1 := by
    simp only [s1, Sending, State.engAt_setEng_same]
    exact ⟨⟨f', rfl, rfl⟩, trivial, trivial, rfl⟩
  have h2 : Sending s sh f s2 := State.forL_keep (Sending s sh f) _ _ _ h1 fun ch _ u hu => hu.of_eng rfl rfl
  have hturn : ∀ j t, Sending s sh f t →
      Sending s sh f ((t.setUtx j { t.utxAt j with modNow := t.modWord j, depthNow := modDepth (t.modWord j) }).setUst j txMOD) :=
    fun j t ht => ht.of_eng (State.engAt_setUst _ _ _ _) (State.mem_setUst _ _ _)
  obtain ⟨⟨⟨g, hg, hcmd⟩, hheld, hta, hm⟩, hust⟩ := State.forL_hit (Sending s sh f)
    (fun t => Sending s sh f t ∧ t.get UTX.STATE_STATE c = 4) _ on c s2 hc h2 (fun j _ t ht => hturn j t ht)
    (fun t ht => ⟨hturn c t ht, State.ust_setUst _ (by decide)⟩)
    (fun j _ t ht => ⟨hturn j t ht.1, State.ust_setUst_keep _ (by decide) ht.2⟩)
  exact ⟨g, hg, hcmd, hheld, hta, hust, hm⟩

end

section
variable (s : State) {sh c : Nat} {f : Frame}

theorem exec_turnaroundEdge_expired (hta : (s.engAt sh).taRunning = true) (hheld : (s.engAt sh).held = none) :
    exec (.turnaroundEdge sh) s = .next (s.setEng sh { s.engAt sh with taRunning := false, taExpired := true }) := by
  have hexec : exec (.turnaroundEdge sh) s = execTurnaroundEdge sh s := rfl
  rw [hexec]
  unfold execTurnaroundEdge
  dsimp only
  rw [if_pos hta, hheld]

theorem exec_turnaroundEdge_held (hta : (s.engAt sh).taRunning = true) (hheld : (s.engAt sh).held = some (f, .turnaround))
    (hc : c ∈ s.txReady sh) : ∃ t, exec (.turnaroundEdge sh) s = .next t ∧ Sends s t sh c f := by
  have hexec : exec (.turnaroundEdge sh) s = execTurnaroundEdge sh s := rfl
  rw [hexec]
  unfold execTurnaroundEdge
  dsimp only
  rw [if_pos hta, hheld]
  exact ⟨_, rfl, s.beginFrame_sends sh f hc⟩

theorem exec_frameHoldRelease_idle (hheld : (s.engAt sh).held = none) :
    exec (.frameHoldRelease sh) s = .next (s.setEng sh { s.engAt sh with minGap := false }) := by
  have hexec : exec (.frameHoldRelease sh) s = execFrameHoldRelease sh s := rfl
  rw [hexec]
  unfold execFrameHoldRelease
  dsimp only
  rw [hheld]

theorem exec_frameHoldRelease_held (hheld : (s.engAt sh).held = some (f, .hold)) (hc : c ∈ s.txReady sh) :
    ∃ t, exec (.frameHoldRelease sh) s = .next t ∧ Sends s t sh c f := by
  have hexec : exec (.frameHoldRelease sh) s = execFrameHoldRelease sh s := rfl
  rw [hexec]
  unfold execFrameHoldRelease
  dsimp only
  rw [hheld]
  have hbegin := State.beginFrame_sends (s.setEng sh { s.engAt sh with minGap := false }) sh f (on := s.txReady sh) hc
  dsimp only at hbegin
  rw [hheld] at hbegin
  obtain ⟨g, hg, hcmd, hrest⟩ := hbegin
  exact ⟨_, rfl, g, hg, hcmd, hrest⟩

end

/-! ### A frame ends -/

section
variable (s : State) {sh : Nat} {f : Frame}

/-- The frame engine once the frame on air has ended (R71). -/
def endedEng (e : FrameEng) (f : Frame) : FrameEng :=
  { e with sending := none, minGap := true, afterFrame := if f.reply then some f else none }

/-- What every turn over the chains keeps at the end of a frame. -/
structure FrameEnded (s : State) (sh : Nat) (f : Frame) (b t : State) : Prop where
  eng : t.engAt sh = endedEng (s.engAt sh) f
  late : LateRegs b t
  want : ∀ c, c < 4 → (t.utxAt c).want = none

/-- A chain that leaves MOD at the end of its frame: what was held for it takes effect (R88, R92, R99). -/
def State.chainFrameEnd (t : State) (c : Nat) : State := ((t.setUtx c { t.utxAt c with steerHeld := none }).setUst c txCW).refreshPwr c

theorem State.want_chainFrameEnd (t : State) (c k : Nat) : ((t.chainFrameEnd c).utxAt k).want = (t.utxAt k).want := by
  unfold State.chainFrameEnd
  rw [State.utxAt_refreshPwr, State.utxAt_setUst]
  by_cases hk : k = c
  · rw [hk, State.utxAt_setUtx_same]
  · rw [State.utxAt_setUtx_ne _ hk]

theorem State.ust_chainFrameEnd (t : State) (c : Nat) : (t.chainFrameEnd c).get UTX.STATE_STATE c = 3 := by
  unfold State.chainFrameEnd
  rw [State.get_refreshPwr _ (Fld.clear_of_apart (by decide) _ _)]
  exact State.ust_setUst _ (by decide)

theorem State.ust_chainFrameEnd_keep (t : State) (c : Nat) {k : Nat} (h : t.get UTX.STATE_STATE k = 3) :
    (t.chainFrameEnd c).get UTX.STATE_STATE k = 3 := by
  unfold State.chainFrameEnd
  rw [State.get_refreshPwr _ (Fld.clear_of_apart (by decide) _ _)]
  exact State.ust_setUst_keep _ (by decide) h

theorem FrameEnded.turn {s b t : State} {sh c : Nat} {f : Frame} (hc : c < 4) (h : FrameEnded s sh f b t) :
    FrameEnded s sh f b ((t.chainFrameEnd c).utxProgress 8 c) ∧ (t.chainFrameEnd c).utxProgress 8 c = t.chainFrameEnd c := by
  have hp : (t.chainFrameEnd c).utxProgress 8 c = t.chainFrameEnd c :=
    State.utxProgress_none _ (by rw [State.want_chainFrameEnd]; exact h.want c hc)
  rw [hp]
  refine ⟨⟨?_, ((h.late.withRadio _).setUst hc _).refreshPwr hc, fun k hk => by rw [State.want_chainFrameEnd]; exact h.want k hk⟩, rfl⟩
  unfold State.chainFrameEnd
  rw [State.engAt_refreshPwr, State.engAt_setUst]
  exact h.eng

theorem State.sheafEvent_held (hheld : s.get SHF.LEASE_STATE_HELD sh = 1) (ev : Nat) :
    s.sheafEvent sh ev = s.seqEvent (s.get SHF.LEASE_STATE_OWNER sh) ev := by
  simp [State.sheafEvent, State.sheafSeq, State.on, hheld]

theorem exec_frameEnd (hsh : sh < 4) (hsend : (s.engAt sh).sending = some f) (hheld : s.get SHF.LEASE_STATE_HELD sh = 1)
    (hwant : ∀ c, c < 4 → (s.utxAt c).want = none) :
    ∃ t, exec (.frameEnd sh) s = .next t ∧ (t.engAt sh).sending = none ∧
      (t.engAt sh).afterFrame = (if f.reply then some f else none) ∧ (t.engAt sh).minGap = true ∧
      t.bit LSC.EVP_EVP 1 (s.get SHF.LEASE_STATE_OWNER sh) = true ∧ t.mem = s.mem ∧
      ∀ c, c < 4 → c ∈ s.txOf sh → s.get UTX.STATE_STATE c = 4 → t.get UTX.STATE_STATE c = 3 := by
  have hexec : exec (.frameEnd sh) s = execFrameEnd sh s := rfl
  rw [hexec, execFrameEnd, hsend]
  dsimp only
  refine ⟨_, rfl, ?_⟩
  unfold State.frameEnd
  extract_lets e s1 on
  have hs1 : s1 = (s.setEng sh (endedEng (s.engAt sh) f)).seqEvent (s.get SHF.LEASE_STATE_OWNER sh) evTXE :=
    State.sheafEvent_held (s.setEng sh (endedEng (s.engAt sh) f)) hheld _
  have h1 : FrameEnded s sh f s1 s1 := ⟨by rw [hs1]; exact State.engAt_setEng_same _ _ _, .refl _, by rw [hs1]; exact hwant⟩
  have hlt : ∀ c ∈ on, c < 4 := fun c hc => State.txOf_lt (List.mem_filter.1 hc).1
  generalize ht : (s1.forL on fun c t => (((t.setUtx c { t.utxAt c with steerHeld := none }).setUst c txCW).refreshPwr c).utxProgress 8 c) = t
  have hend : FrameEnded s sh f s1 t := by
    rw [← ht]
    exact State.forL_keep (FrameEnded s sh f s1) _ _ _ h1 fun c hc u hu => (hu.turn (hlt c hc)).1
  have hevp : t.bit LSC.EVP_EVP 1 (s.get SHF.LEASE_STATE_OWNER sh) = true := by
    rw [State.bit, hend.late.get _ _ (Nat.le_trans (by decide) (LSC.EVP_EVP.key_mono (Nat.zero_le _))), hs1]
    exact State.bit_setBit_true _ (by decide) _
  refine ⟨by rw [hend.eng]; rfl, by rw [hend.eng]; rfl, by rw [hend.eng]; rfl, hevp, by rw [hend.late.mem, hs1]; rfl, ?_⟩
  intro c hc hin hust
  have hust1 : s1.ust c = txMOD := by
    rw [hs1, State.ust, State.seqEvent, State.setBit, State.get_set_above _ (by decide) hc]
    exact hust
  have hon : c ∈ on := by
    refine List.mem_filter.2 ⟨?_, by simp [hust1]⟩
    rw [hs1, State.txOf, State.on]
    rw [State.seqEvent, State.setBit, State.get_set_above _ (by decide) hsh, State.get_set_above _ (by decide) hsh]
    exact hin
  rw [← ht]
  exact (State.forL_hit (FrameEnded s sh f s1) (fun u => FrameEnded s sh f s1 u ∧ u.get UTX.STATE_STATE c = 3) _ on c s1 hon h1
    (fun j hj u hu => (hu.turn (hlt j hj)).1)
    (fun u hu => ⟨(hu.turn hc).1, by
      change ((u.chainFrameEnd c).utxProgress 8 c).get UTX.STATE_STATE c = 3
      rw [(hu.turn hc).2]
      exact u.ust_chainFrameEnd c⟩)
    (fun j hj u hu => ⟨(hu.1.turn (hlt j hj)).1, by
      change ((u.chainFrameEnd j).utxProgress 8 j).get UTX.STATE_STATE c = 3
      rw [(hu.1.turn (hlt j hj)).2]
      exact u.ust_chainFrameEnd_keep j hu.2⟩)).2

end

/-! ### A window opens -/

section
variable (s : State) {sh : Nat} {f : Frame}

/-- A loop whose every turn changes nothing. -/
theorem State.forL_same {α : Type} {g : α → State → State} {l : List α} (h : ∀ i ∈ l, g i s = s) : s.forL l g = s :=
  State.forL_keep (fun t => t = s) g l s rfl fun i hi t ht => by rw [ht]; exact h i hi

theorem State.steer_rest (c v : Nat) : (s.steer c v).radio.eng = s.radio.eng ∧
    (∀ k, ((s.steer c v).utxAt k).want = (s.utxAt k).want) ∧
    ∀ k, (s.steer c v).get UTX.STATE_STATE k = s.get UTX.STATE_STATE k := by
  unfold State.steer
  extract_lets x s1
  have h1 : s1.radio.eng = s.radio.eng ∧ (∀ k, (s1.utxAt k).want = (s.utxAt k).want) ∧ s1.regs = s.regs := by
    simp only [s1]
    split
    · refine ⟨rfl, fun k => ?_, rfl⟩
      by_cases hk : k = c
      · rw [hk, State.utxAt_setUtx_same]
      · rw [State.utxAt_setUtx_ne _ hk]
    · exact ⟨rfl, fun _ => rfl, rfl⟩
  obtain ⟨heng, hwant, hregs⟩ := h1
  refine ⟨heng, hwant, fun k => ?_⟩
  rw [State.get_set_apart _ (by decide), State.get, State.get, hregs]

/-- What the window of a frame leaves as it was when it opens: memory, every chain's request and its state. -/
theorem State.windowOpen_rest : (∀ k, ((s.windowOpen sh f).utxAt k).want = (s.utxAt k).want) ∧
    (∀ k, (s.windowOpen sh f).get UTX.STATE_STATE k = s.get UTX.STATE_STATE k) := by
  have hbeam : (∀ k, ((s.beamApply sh).utxAt k).want = (s.utxAt k).want) ∧
      ∀ k, (s.beamApply sh).get UTX.STATE_STATE k = s.get UTX.STATE_STATE k := by
    unfold State.beamApply
    split
    · exact ⟨fun _ => rfl, fun _ => rfl⟩
    · refine State.forL_keep (fun t => (∀ k, (t.utxAt k).want = (s.utxAt k).want) ∧
        ∀ k, t.get UTX.STATE_STATE k = s.get UTX.STATE_STATE k) _ _ _ ⟨fun _ => rfl, fun _ => rfl⟩ fun c _ u hu => ?_
      obtain ⟨-, hwant, hust⟩ := u.steer_rest c (bits (s.beamWord sh _ 16) (8 * c + 5) (8 * c))
      exact ⟨fun k => (hwant k).trans (hu.1 k), fun k => (hust k).trans (hu.2 k)⟩
  exact hbeam

theorem State.windowOpen_eng : ((s.windowOpen sh f).engAt sh).window = some f ∧ ((s.windowOpen sh f).engAt sh).preamble = false := by
  unfold State.windowOpen
  extract_lets s1
  rw [State.engAt_setEng_same]
  exact ⟨rfl, rfl⟩

theorem exec_receiveReady {c : Nat} (hafter : (s.engAt sh).afterFrame = some f) (hc : c ∈ s.txOf sh) (hcar : s.carrier c = true)
    (hust : s.get UTX.STATE_STATE c = 3) (hramp : (s.utxAt c).ramp = none) (hwant : ∀ k, k < 4 → (s.utxAt k).want = none) :
    ∃ t, exec (.receiveReady sh) s = .next t ∧ (t.engAt sh).window = some f ∧ (t.engAt sh).preamble = false ∧
      t.get UTX.STATE_STATE c = 5 ∧ t.mem = s.mem := by
  have hexec : exec (.receiveReady sh) s = execReceiveReady sh s := rfl
  rw [hexec, execReceiveReady, hafter]
  dsimp only
  generalize hon : ((s.txOf sh).filter fun c => s.carrier c && s.ust c == txCW && (s.utxAt c).ramp.isNone) = on
  have hin : c ∈ on := by rw [← hon]; exact List.mem_filter.2 ⟨hc, by simp [hcar, State.ust, hust, txCW, hramp]⟩
  have hlt : ∀ k ∈ on, k < 4 := fun k hk => by rw [← hon] at hk; exact State.txOf_lt (List.mem_filter.1 hk).1
  have hne : (on == []) = false := by
    cases on with
    | nil => cases hin
    | cons a r => rfl
  rw [hne, if_neg (by decide)]
  generalize ha : (s.forL on fun c t => t.setUst c txLISTEN) = a
  have hq : (a.mem = s.mem ∧ ∀ k, (a.utxAt k).want = (s.utxAt k).want) ∧ a.get UTX.STATE_STATE c = 5 := by
    rw [← ha]
    have hturn : ∀ j (t : State), (t.mem = s.mem ∧ ∀ k, (t.utxAt k).want = (s.utxAt k).want) →
        ((t.setUst j txLISTEN).mem = s.mem ∧ ∀ k, ((t.setUst j txLISTEN).utxAt k).want = (s.utxAt k).want) := fun j t ht =>
      ⟨(State.mem_setUst _ _ _).trans ht.1, fun k => by rw [State.utxAt_setUst]; exact ht.2 k⟩
    exact State.forL_hit (fun t => t.mem = s.mem ∧ ∀ k, (t.utxAt k).want = (s.utxAt k).want)
      (fun t => (t.mem = s.mem ∧ ∀ k, (t.utxAt k).want = (s.utxAt k).want) ∧ t.get UTX.STATE_STATE c = 5) _ on c s hin
      ⟨rfl, fun _ => rfl⟩ (fun j _ t ht => hturn j t ht) (fun t ht => ⟨hturn c t ht, t.ust_setUst (by decide)⟩)
      (fun j _ t ht => ⟨hturn j t ht.1, t.ust_setUst_keep (by decide) ht.2⟩)
  obtain ⟨⟨hmema, hwanta⟩, husta⟩ := hq
  have hrx : RxSide a (a.rxOpenCw sh) := (RxSide.refl a).rxOpenCw sh
  have hc4 : c < 4 := hlt c hin
  obtain ⟨hwantw, hustw⟩ := (a.rxOpenCw sh).windowOpen_rest (sh := sh) (f := f)
  have hsame : ((a.rxOpenCw sh).windowOpen sh f).forL on (fun c t => t.utxProgress 8 c) = (a.rxOpenCw sh).windowOpen sh f :=
    State.forL_same _ fun k hk => State.utxProgress_none _ (by rw [hwantw, hrx.utxAt, hwanta]; exact hwant k (hlt k hk))
  rw [hsame]
  obtain ⟨hwin, hpre⟩ := (a.rxOpenCw sh).windowOpen_eng (sh := sh) (f := f)
  refine ⟨_, rfl, hwin, hpre, ?_, ?_⟩
  · rw [hustw, hrx.get (Fld.key_lt_rx (by decide) hc4), husta]
  · rw [((LateRegs.refl (a.rxOpenCw sh)).windowOpen sh f).mem, hrx.mem, hmema]

theorem exec_preambleDetect (hwin : (s.engAt sh).window = some f) (hpre : (s.engAt sh).preamble = false) :
    ∃ t, exec (.preambleDetect sh) s = .next t ∧ (t.engAt sh).preamble = true ∧ (t.engAt sh).window = some f ∧ t.regs = s.regs ∧
      t.mem = s.mem := by
  have hexec : exec (.preambleDetect sh) s = execPreambleDetect sh s := rfl
  rw [hexec]
  unfold execPreambleDetect
  dsimp only
  rw [if_pos (by simp [hwin, hpre])]
  refine ⟨_, rfl, ?_⟩
  have h0 : State.engAt (s.setEng sh { s.engAt sh with preamble := true }) sh = { s.engAt sh with preamble := true } :=
    State.engAt_setEng_same _ _ _
  exact State.forL_keep (fun t => (t.engAt sh).preamble = true ∧ (t.engAt sh).window = some f ∧ t.regs = s.regs ∧ t.mem = s.mem) _ _ _
    ⟨by rw [h0], by rw [h0]; exact hwin, rfl, rfl⟩ fun ch _ u hu => hu

end

end Sys2Proof.Machine
end

section
/-! PROOFS. R122, R197, R199, R225: what a decided window leaves. -/

namespace Sys2Proof.Machine

open Sys2Proof

/-! ### The registers and the engine that the outputs of a decision do not reach -/

/-- `t` is `s` as far as the reply counter, the sequencers' registers and sheaf `sh`'s window and turnaround go. -/
structure Reported (sh : Nat) (s t : State) : Prop where
  seq : t.get URX.REPLY_SEQ_SEQ = s.get URX.REPLY_SEQ_SEQ
  late : ∀ f n, LSC.ID_BLOCK.key 0 ≤ f.key n → t.get f n = s.get f n
  window : (t.engAt sh).window = (s.engAt sh).window
  turn : (t.engAt sh).taRunning = (s.engAt sh).taRunning

/-- A register of a receive chain or of the Winnower. -/
def Fld.rxOut (g : Fld) : Bool := URX.REPLY_SEQ_SEQ.below g && g.below LSC.ID_BLOCK

namespace Reported
variable {sh : Nat} {s t : State}

theorem refl (sh : Nat) (s : State) : Reported sh s s := ⟨rfl, fun _ _ _ => rfl, rfl, rfl⟩

section
variable (h : Reported sh s t)
include h

theorem set {g : Fld} (hg : g.rxOut = true) {k : Nat} (hk : k < g.count) (v : Nat) : Reported sh s (t.set g v k) := by
  simp only [Fld.rxOut, Bool.and_eq_true] at hg
  obtain ⟨hlo, hhi⟩ := hg
  exact ⟨(State.get_set_above t hlo (by decide) v).trans h.seq, fun f n hf =>
    (State.get_set_ne t g f v k n (by have := Fld.key_lt_of_below hhi hk 0; omega)).trans (h.late f n hf), h.window, h.turn⟩

theorem bump {c g : Fld} (hc : c.rxOut = true) (hg : g.rxOut = true) {k : Nat} (hk : k < c.count) (hk' : k < g.count) (j : Nat) :
    Reported sh s (t.bump c g k j) := by
  unfold State.bump
  split
  · exact h.set hc hk _
  · exact (h.set hc hk _).set hg hk' _

theorem setUrx (ch : Nat) (u : UrxChain) : Reported sh s (t.setUrx ch u) := ⟨h.seq, h.late, h.window, h.turn⟩

theorem withCensus (x : Tab (List Nat)) : Reported sh s { t with radio.census := x } := ⟨h.seq, h.late, h.window, h.turn⟩

theorem ite {c : Prop} [Decidable c] {u : State} (h' : Reported sh s u) : Reported sh s (if c then t else u) := by
  split <;> assumption

theorem rxOutputs (seq sx : Nat) (isEmpty : Bool) (ev : ReplyEvidence) : Reported sh s (t.rxOutputs sx seq isEmpty ev) := by
  unfold State.rxOutputs
  refine State.forL_keep (Reported sh s) _ _ _ h fun ch hch v hv => ?_
  have hc : ch < 16 := State.rxOf_lt hch
  extract_lets ph u t1 t2 t3
  have h1 : Reported sh s t1 := (((hv.set (g := URX.PHASOR_I) (by decide) hc _).set (g := URX.PHASOR_Q) (by decide) hc _).set
    (g := URX.RSSI_RSSI) (by decide) hc _).set (g := URX.RSSI_NOISE) (by decide) hc _
  have h2 : Reported sh s t2 := (((((h1.set (g := URX.REPLY_SEQ) (by decide) hc _).set (g := URX.REPLY_HELD) (by decide) hc _).set
    (g := URX.REPLY_EXCL) (by decide) hc _).set (g := URX.REPLY_OVL) (by decide) hc _).set (g := URX.REPLY_COAST) (by decide) hc _).set
    (g := URX.REPLY_FOREIGN) (by decide) hc _
  have h3 : Reported sh s t3 := h2.setUrx _ _
  exact .ite h3 (h3.bump (by decide) (by decide) hc hc _)

theorem censAdd (k n sx : Nat) : Reported sh s (t.censAdd sx k n) := h.withCensus _

theorem censusLatch {sx : Nat} (hsx : sx < 4) (p : Bool) : Reported sh s (t.censusLatch sx p) := by
  unfold State.censusLatch
  extract_lets c s1 s2 s3 s4
  have h1 : Reported sh s s1 := .ite (h.set (by decide) hsx _) h
  have h2 : Reported sh s s2 := ((((h1.set (g := WNW.CENS_A_LOW) (by decide) hsx _).set (g := WNW.CENS_A_HIGH) (by decide) hsx _).set
    (g := WNW.CENS_B_LOW) (by decide) hsx _).set (g := WNW.CENS_B_HIGH) (by decide) hsx _).set (g := WNW.CENS_C_LOW) (by decide) hsx _
  have h3 : Reported sh s s3 := (((h2.set (g := WNW.CENS_C_HIGH) (by decide) hsx _).set (g := WNW.CENS_D_HIGH) (by decide) hsx _).set
    (g := WNW.CENS_D_LOW) (by decide) hsx _).set (g := WNW.CENS_E_MISS) (by decide) hsx _
  have h4 : Reported sh s s4 := ((h3.set (g := WNW.CENS_E_RECOV) (by decide) hsx _).set (g := WNW.CENS_E_PARTIAL) (by decide) hsx _).set
    (g := WNW.STATUS_CENS_RDY) (by decide) hsx _
  exact .ite h4 (h4.withCensus _)

theorem censCount {sx : Nat} (hsx : sx < 4) (kind : ReplyKind) (v : Verdict) (pcFail miss : Bool) :
    Reported sh s (t.censCount sx kind v pcFail miss) := by
  unfold State.censCount
  refine .ite h ?_
  extract_lets s1 s2
  have h1 : Reported sh s s1 := by
    have h0 : Reported sh s (t.when pcFail fun u => u.censAdd sx 7 1) := .ite (h.censAdd _ _ _) h
    exact .ite (h0.censAdd _ _ _) h0
  have h2 : Reported sh s s2 := by
    have h0 : Reported sh s ((s1.censAdd sx 0 1).censAdd sx (1 + v.cls) 1) := (h1.censAdd _ _ _).censAdd _ _ _
    exact .ite ((h0.censAdd _ _ _).censAdd _ _ _) h0
  exact .ite (.ite (h2.censusLatch hsx _) h2) h1

end

theorem setCaptRn (h : Reported sh s t) (x : Option Nat) : Reported sh s (t.setEng sh { t.engAt sh with captRn := x }) :=
  ⟨h.seq, h.late, by rw [State.engAt_setEng_same]; exact h.window, by rw [State.engAt_setEng_same]; exact h.turn⟩

end Reported

/-! ### The Winnower's registers -/

/-- A register of a sheaf's Winnower past the word DEC. -/
def Fld.pastDec (g : Fld) : Bool := decide (0x400A0404 ≤ g.addr) && g.stride == 0x100

/-- Instance `k` of the field lies before every register past the word DEC of sheaf `sh`. -/
def Fld.uptoDec (f : Fld) (k sh : Nat) : Prop := f.key k < (0x400A0404 + sh * 0x100) * 32

theorem Fld.key_ne_pastDec {f g : Fld} {k sh : Nat} (h : f.uptoDec k sh) (hg : g.pastDec = true) : f.key k ≠ g.key sh := by
  simp only [Fld.pastDec, Bool.and_eq_true, decide_eq_true_eq, beq_iff_eq] at hg
  obtain ⟨haddr, hstride⟩ := hg
  simp only [Fld.uptoDec] at h
  generalize f.key k = x at h ⊢
  simp only [Fld.key, Fld.at, hstride]
  omega

section
variable (s : State) {f g : Fld} {k sh : Nat} (h : f.uptoDec k sh) (hg : g.pastDec = true)
include h hg

theorem State.get_set_pastDec (v : Nat) : (s.set g v sh).get f k = s.get f k :=
  State.get_set_ne s g f v sh k (Fld.key_ne_pastDec h hg)

theorem State.get_bump_pastDec {c : Fld} (hc : c.pastDec = true) (j : Nat) : (s.bump c g sh j).get f k = s.get f k :=
  State.get_bump_ne s (Fld.key_ne_pastDec h hc) (Fld.key_ne_pastDec h hg) j
end

theorem State.get_censAdd (t : State) (f : Fld) (k sh i n : Nat) : (t.censAdd sh i n).get f k = t.get f k := rfl

/-- A register that `g` leaves, it leaves under a condition too. -/
theorem State.get_when (t : State) {f : Fld} {k : Nat} {g : State → State} (c : Bool) (hg : (g t).get f k = t.get f k) :
    (t.when c g).get f k = t.get f k := by
  cases c
  · rfl
  · exact hg

section
variable (s : State) {f : Fld} {k sh : Nat} (h : f.uptoDec k sh)
include h

theorem State.get_censusLatch (p : Bool) : (s.censusLatch sh p).get f k = s.get f k := by
  unfold State.censusLatch
  extract_lets c s1 s2 s3 s4
  have h1 : s1.get f k = s.get f k := by
    simp only [s1]
    split
    · exact State.get_set_pastDec _ h (by decide) _
    · rfl
  have h4 : s4.get f k = s.get f k := by
    simp only [s4, s3, s2]
    rw [State.get_set_pastDec _ h (by decide), State.get_set_pastDec _ h (by decide), State.get_set_pastDec _ h (by decide),
      State.get_set_pastDec _ h (by decide), State.get_set_pastDec _ h (by decide), State.get_set_pastDec _ h (by decide),
      State.get_set_pastDec _ h (by decide), State.get_set_pastDec _ h (by decide), State.get_set_pastDec _ h (by decide),
      State.get_set_pastDec _ h (by decide), State.get_set_pastDec _ h (by decide), State.get_set_pastDec _ h (by decide), h1]
  split
  · exact h4
  · exact h4

theorem State.get_censCount (kind : ReplyKind) (v : Verdict) (pcFail miss : Bool) :
    (s.censCount sh kind v pcFail miss).get f k = s.get f k := by
  unfold State.censCount
  split
  · rfl
  extract_lets s1 s2
  have h1 : s1.get f k = s.get f k := by
    simp only [s1]
    rw [State.get_when _ _ (State.get_censAdd _ _ _ _ _ _), State.get_when _ _ (State.get_censAdd _ _ _ _ _ _)]
  have h2 : s2.get f k = s.get f k := by
    simp only [s2]
    rw [State.get_when _ _ (by rw [State.get_censAdd, State.get_censAdd]), State.get_censAdd, State.get_censAdd, h1]
  split
  · split
    · rw [State.get_censusLatch _ h, h2]
    · exact h2
  · exact h1

end

section
variable (s : State) {sh : Nat} (seq : Nat) (f : Frame) (cfg : WnwCfg) (v : Verdict) (ev : ReplyEvidence) (crcOk isEmpty : Bool)

theorem Reported.wnwReport {s t : State} (h : Reported sh s t) (hsh : sh < 4) :
    Reported sh s (t.wnwReport sh seq f cfg v ev crcOk isEmpty) := by
  unfold State.wnwReport
  extract_lets carry miss first s1 s2 s3 s4 s5 s6 s7 s8 s9 e
  have h1 : Reported sh s s1 := ((((((h.set (g := WNW.DEC_SEQ) (by decide) hsh _).set (g := WNW.DEC_SPAT_OFF) (by decide) hsh _).set
    (g := WNW.DEC_NS) (by decide) hsh _).set (g := WNW.DEC_NB) (by decide) hsh _).set (g := WNW.DEC_CARRY) (by decide) hsh _).set
    (g := WNW.DEC_CAPT) (by decide) hsh _).set (g := WNW.DEC_CLASS) (by decide) hsh _
  have h2 : Reported sh s s2 := ((h1.set (g := WNW.METRIC_SPREAD) (by decide) hsh _).set (g := WNW.METRIC_LEV) (by decide) hsh _).set
    (g := WNW.METRIC_VIOL) (by decide) hsh _
  have h3 : Reported sh s s3 := (((h2.set (g := WNW.CAPINFO_SINR) (by decide) hsh _).set (g := WNW.CAPINFO_PR) (by decide) hsh _).set
    (g := WNW.CAPINFO_CORR) (by decide) hsh _).set (g := WNW.CAPINFO_NULLS) (by decide) hsh _
  have h4 : Reported sh s s4 := h3.set (by decide) hsh _
  have h5 : Reported sh s s5 := .ite (h4.set (by decide) hsh _) h4
  have h6 : Reported sh s s6 := (((h5.set (g := WNW.OTHER01_RN0) (by decide) hsh _).set (g := WNW.OTHER01_RN1) (by decide) hsh _).set
    (g := WNW.OTHER2_RN2) (by decide) hsh _).set (g := WNW.OTHER2_VALID) (by decide) hsh _
  have h7 : Reported sh s s7 := .ite (h6.bump (by decide) (by decide) hsh hsh _) h6
  have h8 : Reported sh s s8 := .ite (h7.bump (by decide) (by decide) hsh hsh _) h7
  have h9 : Reported sh s s9 := .ite ((h8.set (g := WNW.STATUS_CAPT_MISS) (by decide) hsh _).bump (by decide) (by decide) hsh hsh _) h8
  exact (h9.setCaptRn _).censCount hsh _ _ _ _

/-- The class and the capture of a decision, as the Winnower reports them. -/
theorem State.wnwReport_dec (s : State) :
    (s.wnwReport sh seq f cfg v ev crcOk isEmpty).get WNW.DEC_CLASS sh = v.cls % 8 ∧
    (s.wnwReport sh seq f cfg v ev crcOk isEmpty).get WNW.DEC_CAPT sh = b2n v.capt % 2 := by
  have hkept : ∀ g : Fld, g.uptoDec sh sh →
      (s.wnwReport sh seq f cfg v ev crcOk isEmpty).get g sh = State.get (((((((s.set WNW.DEC_SEQ seq sh).set
        WNW.DEC_SPAT_OFF (b2n v.spatOff) sh).set WNW.DEC_NS v.ns sh).set WNW.DEC_NB v.nb sh).set WNW.DEC_CARRY
        (b2n (f.carry && cfg.carryEn)) sh).set WNW.DEC_CAPT (b2n v.capt) sh).set WNW.DEC_CLASS v.cls sh) g sh := fun g h => by
    unfold State.wnwReport
    extract_lets carry miss first s1 s2 s3 s4 s5 s6 s7 s8 s9 e
    have h4 : s4.get g sh = s1.get g sh := by
      simp only [s4, s3, s2]
      rw [State.get_set_pastDec _ h (by decide), State.get_set_pastDec _ h (by decide), State.get_set_pastDec _ h (by decide),
        State.get_set_pastDec _ h (by decide), State.get_set_pastDec _ h (by decide), State.get_set_pastDec _ h (by decide),
        State.get_set_pastDec _ h (by decide), State.get_set_pastDec _ h (by decide)]
    have h5 : s5.get g sh = s4.get g sh := by
      simp only [s5]
      split
      · exact State.get_set_pastDec _ h (by decide) _
      · rfl
    have h6 : s6.get g sh = s5.get g sh := by
      simp only [s6]
      rw [State.get_set_pastDec _ h (by decide), State.get_set_pastDec _ h (by decide), State.get_set_pastDec _ h (by decide),
        State.get_set_pastDec _ h (by decide)]
    have h7 : s7.get g sh = s6.get g sh := State.get_when _ _ (State.get_bump_pastDec _ h (by decide) (by decide) _)
    have h8 : s8.get g sh = s7.get g sh := State.get_when _ _ (State.get_bump_pastDec _ h (by decide) (by decide) _)
    have h9 : s9.get g sh = s8.get g sh := State.get_when _ _ (by
      rw [State.get_bump_pastDec _ h (by decide) (by decide), State.get_set_pastDec _ h (by decide)])
    rw [State.get_censCount _ h]
    exact (h9.trans h8).trans ((h7.trans h6).trans (h5.trans h4))
  refine ⟨?_, ?_⟩
  · rw [hkept WNW.DEC_CLASS (by simp only [Fld.uptoDec, Fld.key, Fld.at, WNW.DEC_CLASS]; omega)]
    exact State.get_set_same _ _ _ _
  · rw [hkept WNW.DEC_CAPT (by simp only [Fld.uptoDec, Fld.key, Fld.at, WNW.DEC_CAPT]; omega), State.get_set_apart _ (by decide)]
    exact State.get_set_same _ _ _ _

end

/-! ### The decision delivered to the sequencer -/

section
variable (s : State) {n rxstat : Nat} {payload : List Bool}

theorem State.seqDecision_shows (hcnt : s.get LSC.CNT_RXD_COUNT n < 0xFFFFFFFF) :
    (s.seqDecision n rxstat payload).bit LSC.EVP_EVP 0 n = true ∧
    (s.seqDecision n rxstat payload).get LSC.CNT_RXD_COUNT n = s.get LSC.CNT_RXD_COUNT n + 1 ∧
    ((s.seqDecision n rxstat payload).seqAt n).rxstat = rxstat ∧
    (∀ sh, (s.seqDecision n rxstat payload).engAt sh = s.engAt sh) ∧
    ∀ f k, f.below LSC.ID_BLOCK = true → k < f.count → (s.seqDecision n rxstat payload).get f k = s.get f k := by
  unfold State.seqDecision
  extract_lets k s1 q
  have h1 : s1.regs = s.regs ∧ s1.radio.eng = s.radio.eng := by
    obtain ⟨x, hx⟩ := s.wrBytes_form (seqBase n + (s.seqAt n).rxb) (packBits k payload)
    simp only [s1, hx, State.freshPar]
    split <;> exact ⟨rfl, rfl⟩
  obtain ⟨hregs, heng⟩ := h1
  generalize hq : ({ q with
    rxstat := rxstat, rxrn := ofBitsMsb ((payload ++ List.replicate 16 false).take 16), dects := s.dsp % 4294967296 } : Seq) = q'
  have hget : ∀ f i, ((s1.setSeq n q').seqEvent n evRXD).get f i = (s.seqEvent n evRXD).get f i := fun f i => by
    simp only [State.seqEvent, State.setBit, State.get, State.set, State.setSeq, hregs]
  have hc : ((s1.setSeq n q').seqEvent n evRXD).get LSC.CNT_RXD_COUNT n = s.get LSC.CNT_RXD_COUNT n := by
    rw [hget, State.seqEvent, State.setBit, State.get_set_apart _ (by decide)]
  refine ⟨?_, ?_, ?_, fun sh => ?_, fun f i hf hi => ?_⟩
  · rw [State.bit, State.get_bump_apart _ (by decide) (by decide), hget]
    exact State.bit_setBit_true s (by decide) n
  · rw [State.get_bump_same _ (by rw [hc]; exact hcnt) (by decide), hc]
  · rw [State.seqAt, State.bump_radio]
    exact (congrArg Seq.rxstat (State.seqAt_setSeq_same s1 n q')).trans (by rw [← hq])
  · rw [State.engAt, State.bump_radio]
    exact congrArg (fun x => Tab.get {} x sh) heng
  · have hlsc : ∀ g : Fld, LSC.ID_BLOCK.key 0 ≤ g.key 0 → f.key i ≠ g.key n := fun g hg => by
      have hlow := Fld.key_lt_of_below hf hi 0
      have hup := g.key_mono (Nat.zero_le n)
      omega
    rw [State.get_bump_ne _ (hlsc _ (by decide)) (hlsc _ (by decide)), hget]
    exact State.get_set_ne _ _ _ _ _ _ (hlsc _ (by decide))

theorem State.recUhf_rest (sh : Nat) (f : Frame) (v : Verdict) (capt : Bool) (ev : ReplyEvidence) (n : Nat) :
    (s.recUhf n sh f v capt ev).regs = s.regs ∧ (s.recUhf n sh f v capt ev).radio.eng = s.radio.eng := by
  unfold State.recUhf
  extract_lets
  split <;> exact ⟨rfl, rfl⟩

end

/-! ### A window decided -/

section
variable (s : State) {sh : Nat} {f : Frame} (isEmpty : Bool) (ev : ReplyEvidence)

/-- What every decision leaves: the window closed, the turnaround, the reply numbered, RXD and the count of its sequencer. -/
structure Decides (s t : State) (sh : Nat) (isEmpty : Bool) : Prop where
  window : (t.engAt sh).window = none
  turn : (t.engAt sh).taRunning = (!isEmpty && !(s.get SHF.COMP_ROLE sh == roleLISTEN))
  seq : t.get URX.REPLY_SEQ_SEQ = (s.get URX.REPLY_SEQ_SEQ + 1) % 65536
  evp : t.bit LSC.EVP_EVP 0 (s.get SHF.LEASE_STATE_OWNER sh) = true
  count : t.get LSC.CNT_RXD_COUNT (s.get SHF.LEASE_STATE_OWNER sh) = s.get LSC.CNT_RXD_COUNT (s.get SHF.LEASE_STATE_OWNER sh) + 1

theorem Decides.of_same {s t u : State} {sh : Nat} {isEmpty : Bool} (h : Decides s t sh isEmpty) (hr : u.regs = t.regs)
    (he : u.radio.eng = t.radio.eng) : Decides s u sh isEmpty := by
  have heng : u.engAt sh = t.engAt sh := congrArg (fun x => Tab.get ({} : FrameEng) x sh) he
  have hget : ∀ f n, u.get f n = t.get f n := fun f n => by rw [State.get, State.get, hr]
  exact ⟨by rw [heng]; exact h.window, by rw [heng]; exact h.turn, by rw [hget]; exact h.seq,
    by rw [State.bit, hget]; exact h.evp, by rw [hget]; exact h.count⟩

theorem State.decideWindow_decides (hsh : sh < 4)
    (hcnt : s.get LSC.CNT_RXD_COUNT (s.get SHF.LEASE_STATE_OWNER sh) < 0xFFFFFFFF) :
    Decides s (s.decideWindow sh f isEmpty ev) sh isEmpty := by
  unfold State.decideWindow
  extract_lets n seq e v crcOk capt hdr listen rxstat s1 s2 s3 s4 mask x
  have hs1 : (s1.engAt sh).window = none ∧ (s1.engAt sh).taRunning = (!isEmpty && !listen) := by
    simp only [s1, State.engAt_setEng_same]
    exact ⟨trivial, trivial⟩
  have hr : Reported sh s1 s2 := ((Reported.refl sh s1).rxOutputs _ _ _ _).wnwReport _ _ _ _ _ _ _ hsh
  have hlate : ∀ g : Fld, LSC.ID_BLOCK.key 0 ≤ g.key 0 → s2.get g n = s.get g n := fun g hg => by
    have hup := g.key_mono (Nat.zero_le n)
    rw [hr.late g n (by omega)]
    have hlow : URX.REPLY_SEQ_SEQ.key 0 < LSC.ID_BLOCK.key 0 := by decide
    exact State.get_set_ne s URX.REPLY_SEQ_SEQ g seq 0 n (by omega)
  have hcnt2 : s2.get LSC.CNT_RXD_COUNT n < 0xFFFFFFFF := by rw [hlate _ (by decide)]; exact hcnt
  obtain ⟨hevp, hcount, -, heng, hkeep⟩ := s2.seqDecision_shows (rxstat := rxstat) (payload := v.payload) hcnt2
  have h3 : Decides s s3 sh isEmpty := by
    refine ⟨?_, ?_, ?_, hevp, by rw [hcount, hlate _ (by decide)]⟩
    · rw [heng, hr.window, hs1.1]
    · rw [heng, hr.turn, hs1.2]
    · rw [hkeep _ _ (by decide) (by decide), hr.seq]
      exact State.get_set_fits _ (Nat.mod_lt _ (by decide))
  have h4 : Decides s s4 sh isEmpty := by
    simp only [s4]
    split
    · obtain ⟨hregs, hengs⟩ := s3.recUhf_rest sh f v capt ev n
      exact h3.of_same hregs hengs
    · exact h3
  split
  · exact h4.of_same rfl rfl
  · exact h4

theorem exec_replyDecision (hsh : sh < 4) (hwin : (s.engAt sh).window = some f) (hpre : (s.engAt sh).preamble = true)
    (hcnt : s.get LSC.CNT_RXD_COUNT (s.get SHF.LEASE_STATE_OWNER sh) < 0xFFFFFFFF) :
    ∃ t, exec (.replyDecision sh ev) s = .next t ∧ Decides s t sh false := by
  have hexec : exec (.replyDecision sh ev) s = execReplyDecision sh ev s := rfl
  rw [hexec, execReplyDecision, hwin]
  dsimp only
  rw [if_pos hpre]
  exact ⟨_, rfl, s.decideWindow_decides false ev hsh hcnt⟩

theorem exec_emptyDecision (hwin : (s.engAt sh).window = some f) (hpre : (s.engAt sh).preamble = false) :
    exec (.emptyDecision sh ev) s = .next (s.decideWindow sh f true ev) := by
  have hexec : exec (.emptyDecision sh ev) s = execEmptyDecision sh ev s := rfl
  rw [hexec, execEmptyDecision, hwin]
  dsimp only
  rw [if_neg (by simp [hpre])]

/-- What an EMPTY decision shows beside: class 0, no capture, and an RXSTAT without length. -/
theorem State.decideWindow_empty (hsh : sh < 4)
    (hcnt : s.get LSC.CNT_RXD_COUNT (s.get SHF.LEASE_STATE_OWNER sh) < 0xFFFFFFFF) :
    (s.decideWindow sh f true ev).get WNW.DEC_CLASS sh = 0 ∧ (s.decideWindow sh f true ev).get WNW.DEC_CAPT sh = 0 ∧
    ((s.decideWindow sh f true ev).seqAt (s.get SHF.LEASE_STATE_OWNER sh)).rxstat / 65536 = 0 := by
  unfold State.decideWindow
  extract_lets n seq e v crcOk capt hdr listen rxstat s1 s2 s3 s4 mask x
  have hr : Reported sh s1 s2 := ((Reported.refl sh s1).rxOutputs _ _ _ _).wnwReport _ _ _ _ _ _ _ hsh
  have hcnt2 : s2.get LSC.CNT_RXD_COUNT n < 0xFFFFFFFF := by
    have hup := LSC.CNT_RXD_COUNT.key_mono (Nat.zero_le n)
    have hlow : URX.REPLY_SEQ_SEQ.key 0 < LSC.ID_BLOCK.key 0 ∧ LSC.ID_BLOCK.key 0 ≤ LSC.CNT_RXD_COUNT.key 0 := by decide
    rw [hr.late _ n (by omega)]
    exact lt_of_eq_of_lt (State.get_set_ne s URX.REPLY_SEQ_SEQ _ seq 0 n (by omega)) hcnt
  obtain ⟨-, -, hstat, -, hkeep⟩ := s2.seqDecision_shows (rxstat := rxstat) (payload := v.payload) hcnt2
  obtain ⟨hcls, hcap⟩ := (s1.rxOutputs sh seq true ev).wnwReport_dec (sh := sh) seq f e.wnw v ev crcOk true
  have hv : v.payload = [] ∧ v.cls = 0 ∧ v.capt = false := ⟨rfl, rfl, rfl⟩
  obtain ⟨hpay, hcls0, hcap0⟩ := hv
  have h4 : s4 = s3 := if_neg (by simp [crcOk])
  have hsmall : rxstat < 65536 := by
    have hb : ∀ b, b2n b ≤ 1 := fun b => by cases b <;> decide
    have hh : hdr = false := by simp [hdr, hpay]
    have h1 := hb listen
    have h2 := hb f.delayed
    have h3 := hb crcOk
    have h5 := hb capt
    simp only [rxstat, hpay, hh, hcls0, List.length_nil, b2n, Bool.false_eq_true, if_false]
    simp only [b2n] at h1 h2 h3 h5
    omega
  have hend : s3.get WNW.DEC_CLASS sh = 0 ∧ s3.get WNW.DEC_CAPT sh = 0 ∧ (s3.seqAt n).rxstat / 65536 = 0 := by
    refine ⟨?_, ?_, by rw [hstat]; omega⟩
    · rw [hkeep _ _ (by decide) hsh, hcls, hcls0]
    · rw [hkeep _ _ (by decide) hsh, hcap, hcap0]
      rfl
  rw [h4]
  split
  · exact hend
  · exact hend

end

/-- Settles O24: a frame that ends leaves TXE and MOD behind, one that was held begins when its wait is over, and the window of the frame
just sent opens, takes one preamble and closes with one decision. -/
theorem framesAndWindows : Obligations.FramesAndWindows := by
  unfold Obligations.FramesAndWindows
  refine ⟨fun s sh f hsh hsend hheld hwant => exec_frameEnd s hsh hsend hheld hwant, fun s sh => exec_turnaroundEdge_expired s,
    fun s sh c f _ hta hheld hc => ?_, fun s sh => exec_frameHoldRelease_idle s, fun s sh c f _ hheld hc => ?_,
    fun s sh c f _ hafter hc hcar hust hramp hwant => exec_receiveReady s hafter hc hcar hust hramp hwant,
    fun s sh f => exec_preambleDetect s, fun s sh f ev hsh hwin hpre hcnt => ?_, fun s sh f ev hsh hwin hpre hcnt => ?_⟩
  · obtain ⟨t, hexec, g, hg, hcmd, hnone, hrun, hust, hmem⟩ := exec_turnaroundEdge_held s hta hheld hc
    exact ⟨t, g, hexec, hg, hcmd, hnone, hrun, hust, hmem⟩
  · obtain ⟨t, hexec, g, hg, hcmd, hnone, -, hust, hmem⟩ := exec_frameHoldRelease_held s hheld hc
    exact ⟨t, g, hexec, hg, hcmd, hnone, hust, hmem⟩
  · obtain ⟨t, hexec, h⟩ := exec_replyDecision s ev hsh hwin hpre hcnt
    exact ⟨t, hexec, h.window, h.turn, h.seq, h.evp, h.count⟩
  · have h := s.decideWindow_decides (f := f) true ev hsh hcnt
    obtain ⟨hcls, hcap, hstat⟩ := s.decideWindow_empty (f := f) ev hsh hcnt
    exact ⟨_, exec_emptyDecision s ev hwin hpre, h.window, h.turn, hcls, hcap, h.seq, h.evp, hstat⟩

end Sys2Proof.Machine
end

section
/-! PROOFS. R228, R229, R300: HF leases taken, refused and released. -/

namespace Sys2Proof.Machine

open Sys2Proof

/-! ### A lease asked for -/

section
variable (s : State) {seq entry : Nat}

/-- HF_CMD's fields as GO writes them. -/
def State.hfCmdSet (s : State) (target seq entry : Nat) : State :=
  ((s.set LSC.HF_CMD_TARGET target).set LSC.HF_CMD_SEQ seq).set LSC.HF_CMD_ENTRY entry

/-- No register of the field shares the key of `g`, a register of index 0 alone. -/
def Fld.spares (f g : Fld) : Bool := f.apart g || (g.below f && decide (0 < g.count))

theorem Fld.key_ne_of_spares {f g : Fld} (h : f.spares g = true) (k : Nat) : f.key k ≠ g.key 0 := by
  simp only [Fld.spares, Bool.or_eq_true] at h
  rcases h with h | h
  · exact Fld.key_ne_of_apart h _ _
  · simp only [Bool.and_eq_true, decide_eq_true_eq] at h
    exact Nat.ne_of_gt (Fld.key_lt_of_below h.1 h.2 k)

/-- A register other than HF_CMD's three fields. -/
def Fld.offHfCmd (f : Fld) : Bool := f.spares LSC.HF_CMD_TARGET && f.spares LSC.HF_CMD_SEQ && f.spares LSC.HF_CMD_ENTRY

theorem State.get_hfCmdSet {f : Fld} (hf : f.offHfCmd = true) (target k : Nat) : (s.hfCmdSet target seq entry).get f k = s.get f k := by
  simp only [Fld.offHfCmd, Bool.and_eq_true] at hf
  obtain ⟨⟨h1, h2⟩, h3⟩ := hf
  rw [State.hfCmdSet, State.get_set_ne _ _ _ _ _ _ (Fld.key_ne_of_spares h3 k), State.get_set_ne _ _ _ _ _ _ (Fld.key_ne_of_spares h2 k),
    State.get_set_ne _ _ _ _ _ _ (Fld.key_ne_of_spares h1 k)]

/-- The fields written by GO leave every lease as it was. -/
theorem State.seqBound_hfCmdSet (target n : Nat) : (s.hfCmdSet target seq entry).seqBound n = s.seqBound n := by
  have hsheaf : (s.hfCmdSet target seq entry).seqSheaf n = s.seqSheaf n := by
    unfold State.seqSheaf
    refine find?_congr_range fun sh hsh => ?_
    have hget : ∀ f : Fld, f.below LSC.ID_BLOCK = true → sh < f.count → (s.hfCmdSet target seq entry).get f sh = s.get f sh := fun f hf hc => by
      have hlow := Fld.key_lt_of_below hf hc 0
      have hup : LSC.ID_BLOCK.key 0 ≤ LSC.HF_CMD_TARGET.key 0 ∧ LSC.ID_BLOCK.key 0 ≤ LSC.HF_CMD_SEQ.key 0 ∧
        LSC.ID_BLOCK.key 0 ≤ LSC.HF_CMD_ENTRY.key 0 := by decide
      obtain ⟨h1, h2, h3⟩ := hup
      rw [State.hfCmdSet, State.get_set_ne _ _ _ _ _ _ (by omega), State.get_set_ne _ _ _ _ _ _ (by omega),
        State.get_set_ne _ _ _ _ _ _ (by omega)]
    rw [State.on, State.on, hget _ (by decide) hsh, hget _ (by decide) hsh]
  simp only [State.seqBound, hsheaf, State.holdsHfr, State.holdsHft, State.on]
  rw [State.get_hfCmdSet _ (by decide), State.get_hfCmdSet _ (by decide), State.get_hfCmdSet _ (by decide),
    State.get_hfCmdSet _ (by decide)]

theorem State.hfLeaseCheck_hfCmdSet (target n : Nat) : (s.hfCmdSet target seq entry).hfLeaseCheck target n = s.hfLeaseCheck target n := by
  unfold State.hfLeaseCheck
  rw [State.seqBound_hfCmdSet, State.bit, State.bit, State.on, State.on, State.on, State.on, State.on, State.on,
    State.get_hfCmdSet _ (by decide), State.get_hfCmdSet _ (by decide), State.get_hfCmdSet _ (by decide),
    State.get_hfCmdSet _ (by decide), State.get_hfCmdSet _ (by decide)]

theorem exec_hfLeaseGo {m : Master} {target : Nat} (ht : target < 2) (hseq : seq < 16) (hentry : entry < 8192) :
    exec (.hfLeaseGo m target seq entry) s = .next (s.hfLeaseGo target seq entry) := by
  have hexec : exec (.hfLeaseGo m target seq entry) s = execHfLeaseGo m target seq entry s := rfl
  rw [hexec, execHfLeaseGo, Nat.mod_eq_of_lt ht, Nat.mod_eq_of_lt hseq, Nat.mod_eq_of_lt hentry]

theorem State.hfLeaseGo_refused {target c : Nat} (hc : s.hfLeaseCheck target seq = c) (h0 : c ≠ 0) :
    s.hfLeaseGo target seq entry = (s.hfCmdSet target seq entry).set LSC.HF_STATE_REFUSE c := by
  have hcheck := (s.hfLeaseCheck_hfCmdSet (seq := seq) (entry := entry) target seq).trans hc
  unfold State.hfLeaseGo
  extract_lets s0 c0
  have hc0 : c0 = c := hcheck
  rw [hc0, if_pos (by simpa using h0)]
  rfl

/-- The check of GO passes where the target is free and the sequencer can take a lease. -/
theorem State.hfLeaseCheck_free {target : Nat} (hdom : s.bit PWR.STATE_DOM 1 = true) (hen : target = 0 → s.get HFR.CTRL_EN ≠ 0)
    (hfree : (if target = 0 then s.get LSC.HF_STATE_HFR_HELD else s.get LSC.HF_STATE_HFT_HELD) = 0)
    (hstop : s.get LSC.STATE_STATE seq ≠ seqSTOPPED) (hfault : s.get LSC.STATE_STATE seq ≠ seqFAULT) (hbound : s.seqBound seq = false) :
    s.hfLeaseCheck target seq = 0 := by
  unfold State.hfLeaseCheck
  by_cases ht : target = 0
  · rw [if_pos ht] at hfree
    simp [hdom, ht, hen ht, State.on, hfree, hstop, hfault, hbound]
  · rw [if_neg ht] at hfree
    simp [hdom, ht, State.on, hfree, hstop, hfault, hbound]

end

section
variable (s : State) {n ltype entry c0 c1 c2 c3 : Nat}

/-- What a lease taken shows of its sequencer, and the registers it writes (R228). -/
theorem State.seqLease_shows (hl : ltype < 8) (he : entry < 8192) :
    (s.seqLease n ltype (4 * entry) c0 c1 c2 c3).get LSC.STATE_LTYPE n = ltype ∧
    (s.get LSC.STATE_STATE n = seqIDLE → (s.seqLease n ltype (4 * entry) c0 c1 c2 c3).get LSC.STATE_STATE n = seqRUN ∧
      (s.seqLease n ltype (4 * entry) c0 c1 c2 c3).get LSC.STATE_PCW n = entry ∧
      (s.seqLease n ltype (4 * entry) c0 c1 c2 c3).get LSC.EVP_EVP n = 0) ∧
    (s.get LSC.STATE_STATE n ≠ seqIDLE → (s.seqLease n ltype (4 * entry) c0 c1 c2 c3).bit LSC.EVP_EVP evLSE n = true ∧
      (s.seqLease n ltype (4 * entry) c0 c1 c2 c3).get LSC.STATE_STATE n = s.get LSC.STATE_STATE n ∧
      (s.seqLease n ltype (4 * entry) c0 c1 c2 c3).get LSC.STATE_PCW n = s.get LSC.STATE_PCW n) ∧
    (s.seqLease n ltype (4 * entry) c0 c1 c2 c3).mem = s.mem ∧
    regsSame s (s.seqLease n ltype (4 * entry) c0 c1 c2 c3)
      [LSC.STATE_LTYPE.key n, LSC.EVP_EVP.key n, LSC.STATE_PCW.key n, LSC.STATE_STATE.key n] := by
  have hfit : ltype < 2 ^ LSC.STATE_LTYPE.width := hl
  have hpc : entry < 2 ^ LSC.STATE_PCW.width := he
  unfold State.seqLease
  rw [Nat.mul_div_cancel_left _ (by decide)]
  extract_lets q s1
  have h1 : ∀ f k, f.key k ≠ LSC.STATE_LTYPE.key n → s1.get f k = s.get f k := fun f k hk => State.get_set_ne _ _ _ _ _ _ hk
  have hltype : s1.get LSC.STATE_LTYPE n = ltype := State.get_set_fits _ hfit
  by_cases hidle : s.get LSC.STATE_STATE n = seqIDLE
  · rw [if_pos (by simp [hidle])]
    refine ⟨?_, fun _ => ⟨State.get_set_fits _ (by decide), ?_, ?_⟩, fun h => absurd hidle h, rfl, fun f k hk => ?_⟩
    · rw [State.get_set_apart _ (by decide), State.get_set_apart _ (by decide), State.get_set_apart _ (by decide), hltype]
    · rw [State.get_set_apart _ (by decide), State.get_set_fits _ hpc]
    · rw [State.get_set_apart _ (by decide), State.get_set_apart _ (by decide), State.get_set_fits _ (by decide)]
    · simp only [List.mem_cons, List.not_mem_nil, or_false, not_or] at hk
      obtain ⟨ha, hb, hc, hd⟩ := hk
      rw [State.get_set_ne _ _ _ _ _ _ hd, State.get_set_ne _ _ _ _ _ _ hc, State.get_set_ne _ _ _ _ _ _ hb, h1 _ _ ha]
  · rw [if_neg (by simpa using hidle)]
    refine ⟨?_, fun h => absurd h hidle, fun _ => ⟨State.bit_setBit_true _ (by decide) _, ?_, ?_⟩, rfl, fun f k hk => ?_⟩
    · rw [State.seqEvent, State.setBit, State.get_set_apart _ (by decide), hltype]
    · rw [State.seqEvent, State.setBit, State.get_set_apart _ (by decide), h1 _ _ (Fld.key_ne_of_apart (by decide) _ _)]
    · rw [State.seqEvent, State.setBit, State.get_set_apart _ (by decide), h1 _ _ (Fld.key_ne_of_apart (by decide) _ _)]
    · simp only [List.mem_cons, List.not_mem_nil, or_false, not_or] at hk
      obtain ⟨ha, hb, -, -⟩ := hk
      rw [State.seqEvent, State.setBit, State.get_set_ne _ _ _ _ _ _ hb, h1 _ _ ha]

end

/-- What a lease of the reader or the tag taken by sequencer `seq` leaves, whose bits are `held` and `owner`. -/
def HfLeased (s t : State) (held owner : Fld) (seq entry ltype : Nat) : Prop :=
  t.get held = 1 ∧ t.get owner = seq ∧ t.get LSC.STATE_LTYPE seq = ltype ∧
  (s.get LSC.STATE_STATE seq = seqIDLE → t.get LSC.STATE_STATE seq = seqRUN ∧ t.get LSC.STATE_PCW seq = entry ∧ t.get LSC.EVP_EVP seq = 0) ∧
  (s.get LSC.STATE_STATE seq ≠ seqIDLE → t.bit LSC.EVP_EVP evLSE seq = true) ∧ t.mem = s.mem ∧
  regsSame s t [LSC.HF_CMD_TARGET.key 0, LSC.HF_CMD_SEQ.key 0, LSC.HF_CMD_ENTRY.key 0, held.key 0,
    owner.key 0, LSC.STATE_LTYPE.key seq, LSC.EVP_EVP.key seq, LSC.STATE_PCW.key seq, LSC.STATE_STATE.key seq] ∧
  (s.get LSC.STATE_STATE seq ≠ seqIDLE → t.get LSC.STATE_STATE seq = s.get LSC.STATE_STATE seq ∧
    t.get LSC.STATE_PCW seq = s.get LSC.STATE_PCW seq)

section
variable (s : State) {seq entry target ltype : Nat} {held owner : Fld}

/-- The bits of a target's lease, as far as the sequencers' own registers go. -/
def Fld.hfBit (f : Fld) : Bool :=
  LSC.STATE_LTYPE.spares f && LSC.EVP_EVP.spares f && LSC.STATE_PCW.spares f && LSC.STATE_STATE.spares f

theorem State.hfLeased (hh : held.hfBit = true) (ho : owner.hfBit = true) (hho : held.apart owner = true) (hw : held.width = 1)
    (how : owner.width = 4) (hseq : seq < 16) (hentry : entry < 8192) (hl : ltype < 8) :
    HfLeased s ((((s.hfCmdSet target seq entry).set held 1).set owner seq).seqLease seq ltype (4 * entry) 0 0 ltype 0)
      held owner seq entry ltype := by
  generalize hb : (((s.hfCmdSet target seq entry).set held 1).set owner seq) = b
  obtain ⟨hltype, hidle, hother, hmem, hregs⟩ := b.seqLease_shows (n := seq) (c0 := 0) (c1 := 0) (c2 := ltype) (c3 := 0) hl hentry
  have hout : ∀ f : Fld, f.hfBit = true → f.key 0 ∉ [LSC.STATE_LTYPE.key seq, LSC.EVP_EVP.key seq, LSC.STATE_PCW.key seq,
      LSC.STATE_STATE.key seq] := fun f hf => by
    simp only [Fld.hfBit, Bool.and_eq_true] at hf
    obtain ⟨⟨⟨h1, h2⟩, h3⟩, h4⟩ := hf
    simp only [List.mem_cons, List.not_mem_nil, or_false, not_or]
    exact ⟨(Fld.key_ne_of_spares h1 _).symm, (Fld.key_ne_of_spares h2 _).symm, (Fld.key_ne_of_spares h3 _).symm, (Fld.key_ne_of_spares h4 _).symm⟩
  have hown : ∀ f : Fld, f.spares held = true → f.spares owner = true → f.offHfCmd = true → b.get f seq = s.get f seq := fun f h1 h2 h3 => by
    rw [← hb, State.get_set_ne _ _ _ _ _ _ (Fld.key_ne_of_spares h2 _), State.get_set_ne _ _ _ _ _ _ (Fld.key_ne_of_spares h1 _),
      State.get_hfCmdSet _ h3]
  have hbits : ∀ f : Fld, f.hfBit = true → LSC.STATE_STATE.spares f = true ∧ LSC.STATE_PCW.spares f = true := fun f hf => by
    simp only [Fld.hfBit, Bool.and_eq_true] at hf
    exact ⟨hf.2, hf.1.2⟩
  have hstb := hown LSC.STATE_STATE (hbits _ hh).1 (hbits _ ho).1 (by decide)
  have hpcb := hown LSC.STATE_PCW (hbits _ hh).2 (hbits _ ho).2 (by decide)
  rw [hstb] at hidle hother
  rw [hpcb] at hother
  refine ⟨?_, ?_, hltype, hidle, fun h => (hother h).1, ?_, fun f k hk => ?_, fun h => (hother h).2⟩
  · rw [hregs _ _ (hout _ hh), ← hb, State.get_set_apart _ hho, State.get_set_fits _ (by rw [hw]; decide)]
  · rw [hregs _ _ (hout _ ho), ← hb, State.get_set_fits _ (by rw [how]; exact hseq)]
  · rw [hmem, ← hb]
    rfl
  · simp only [List.mem_cons, List.not_mem_nil, or_false, not_or] at hk
    obtain ⟨h1, h2, h3, h4, h5, h6, h7, h8, h9⟩ := hk
    rw [hregs f k (by simp only [List.mem_cons, List.not_mem_nil, or_false, not_or]; exact ⟨h6, h7, h8, h9⟩), ← hb,
      State.get_set_ne _ _ _ _ _ _ h5, State.get_set_ne _ _ _ _ _ _ h4, State.hfCmdSet, State.get_set_ne _ _ _ _ _ _ h3,
      State.get_set_ne _ _ _ _ _ _ h2, State.get_set_ne _ _ _ _ _ _ h1]

end

section
variable (s : State) {seq entry : Nat} {m : Master}

theorem State.hfLeaseGo_taken {target : Nat} (hc : s.hfLeaseCheck target seq = 0) : s.hfLeaseGo target seq entry =
    if target = 0 then
      (((s.hfCmdSet target seq entry).set LSC.HF_STATE_HFR_HELD 1).set LSC.HF_STATE_HFR_OWNER seq).seqLease seq 5 (4 * entry) 0 0 5 0
    else (((s.hfCmdSet target seq entry).set LSC.HF_STATE_HFT_HELD 1).set LSC.HF_STATE_HFT_OWNER seq).seqLease seq 6 (4 * entry) 0 0 6 0 := by
  have hcheck := (s.hfLeaseCheck_hfCmdSet (seq := seq) (entry := entry) target seq).trans hc
  unfold State.hfLeaseGo
  extract_lets s0 c0
  have hc0 : c0 = 0 := hcheck
  rw [hc0, if_neg (by decide)]
  by_cases ht : target = 0
  · rw [if_pos (by simpa using ht), if_pos ht]
    rfl
  · rw [if_neg (by simpa using ht), if_neg ht]
    rfl

theorem State.seqFree_regs (n : Nat) {f : Fld} {k : Nat} (h : f.key k ≠ LSC.STATE_LTYPE.key n) : (s.seqFree n).get f k = s.get f k :=
  State.get_set_ne _ _ _ _ _ _ h

end

/-! ### A lease given back -/

section
variable (s : State) {n : Nat}

theorem State.seqFree_rxstat (n k : Nat) : ((s.seqFree n).seqAt k).rxstat = (s.seqAt k).rxstat := by
  have hseq : (s.seqFree n).seqAt k = (s.setSeq n { s.seqAt n with ctx0 := 0, ctx1 := 0, ctx2 := 0, ctx3 := 0 }).seqAt k := rfl
  rw [hseq]
  by_cases hk : k = n
  · rw [hk, State.seqAt_setSeq_same]
  · rw [State.seqAt_setSeq_ne _ _ _ _ hk]

/-- The reader once the frame on air and the frame held are dropped, and MOD left. -/
def State.hfDropped (s : State) : State :=
  let s1 := s.updHfr fun h => { h with sending := none, held := none }
  if s1.hst == txMOD then s1.set HFR.STATE_STATE txCW else s1

theorem State.hfFieldOff_none (hw : s.hfr.window = none) : s.hfFieldOff = s.hfDropped := by
  have h : s.hfDropped.hfr.window = none := by
    unfold State.hfDropped
    dsimp only
    split <;> exact hw
  unfold State.hfFieldOff
  change (match s.hfDropped.hfr.window with
    | some f => s.hfDropped.hfDecision f 6 0 0 (!heRxCrc f.entry) []
    | none => s.hfDropped) = s.hfDropped
  rw [h]

theorem State.hfFieldOff_some {f : HfFrame} (hw : s.hfr.window = some f) :
    s.hfFieldOff = s.hfDropped.hfDecision f 6 0 0 (!heRxCrc f.entry) [] := by
  have h : s.hfDropped.hfr.window = some f := by
    unfold State.hfDropped
    dsimp only
    split <;> exact hw
  unfold State.hfFieldOff
  change (match s.hfDropped.hfr.window with
    | some f => s.hfDropped.hfDecision f 6 0 0 (!heRxCrc f.entry) []
    | none => s.hfDropped) = _
  rw [h]

theorem State.hfDropped_shows : s.hfDropped.hst = (if s.hst = txMOD then txCW else s.hst) ∧
    s.hfDropped.hfr = { s.hfr with sending := none, held := none } ∧ s.hfDropped.mem = s.mem ∧
    ∀ f : Fld, f.apart HFR.STATE_STATE = true → ∀ k, s.hfDropped.get f k = s.get f k := by
  unfold State.hfDropped
  extract_lets s1
  have hst1 : s1.hst = s.hst := rfl
  by_cases h : s.hst = txMOD
  · rw [hst1, if_pos (by simp [h]), if_pos h]
    exact ⟨State.get_set_fits _ (by decide), rfl, rfl, fun f hf k => State.get_set_apart _ hf _⟩
  · rw [hst1, if_neg (by simpa using h), if_neg h]
    exact ⟨hst1, rfl, rfl, fun _ _ _ => rfl⟩

/-- The request that is left when the reader's lease ends: down from a field that stands, and no step up to one (R300). -/
def hfRelease (h : Hfr) (st : Nat) : Hfr :=
  { h with
    want := if 3 ≤ st || h.step == some 3 then some 2 else none
    step := if 3 ≤ st then some 2 else if h.step == some 3 then none else h.step, minGap := false }

/-- The reader's lease over, and its sequencer freed, before the field moves on. -/
def State.hfFreed (s : State) (n : Nat) : State :=
  (((s.hfFieldOff.updHfr fun h => hfRelease h s.hfFieldOff.hst).set LSC.HF_STATE_HFR_HELD 0).set LSC.HF_STATE_HFR_OWNER 0).seqFree n

theorem State.hfrEnd_held (hheld : s.get LSC.HF_STATE_HFR_HELD ≠ 0) :
    s.hfrEnd = (s.hfFreed (s.get LSC.HF_STATE_HFR_OWNER)).hfProgress := by
  have hseq : s.hfSeq = some (s.get LSC.HF_STATE_HFR_OWNER) := by simp [State.hfSeq, State.on, hheld]
  unfold State.hfrEnd
  rw [hseq]
  rfl

theorem State.hfrEnd_free (hheld : s.get LSC.HF_STATE_HFR_HELD = 0) : s.hfrEnd = s := by
  have hseq : s.hfSeq = none := by simp [State.hfSeq, State.on, hheld]
  unfold State.hfrEnd
  rw [hseq]

theorem State.hfFreed_shows : (s.hfFreed n).get LSC.HF_STATE_HFR_HELD = 0 ∧ (s.hfFreed n).get LSC.STATE_LTYPE n = 0 ∧
    (s.hfFreed n).hfr = hfRelease s.hfFieldOff.hfr s.hfFieldOff.hst ∧ (s.hfFreed n).mem = s.hfFieldOff.mem ∧
    (∀ k, ((s.hfFreed n).seqAt k).rxstat = (s.hfFieldOff.seqAt k).rxstat) ∧
    ∀ f k, f.key k ∉ [LSC.HF_STATE_HFR_HELD.key 0, LSC.HF_STATE_HFR_OWNER.key 0, LSC.STATE_LTYPE.key n] →
      (s.hfFreed n).get f k = s.hfFieldOff.get f k := by
  unfold State.hfFreed
  generalize s.hfFieldOff = u
  refine ⟨?_, State.get_set_fits _ (by decide), rfl, rfl, fun k => ?_, fun f k hk => ?_⟩
  · rw [State.seqFree_regs _ _ (Fld.key_ne_of_spares (by decide) _).symm, State.get_set_apart _ (by decide), State.get_set_fits _ (by decide)]
  · rw [State.seqFree_rxstat]
    rfl
  · simp only [List.mem_cons, List.not_mem_nil, or_false, not_or] at hk
    obtain ⟨h1, h2, h3⟩ := hk
    rw [State.seqFree_regs _ _ h3, State.get_set_ne _ _ _ _ _ _ h2, State.get_set_ne _ _ _ _ _ _ h1]
    rfl

theorem State.hfProgress_stepping {k : Nat} (h : s.hfr.step = some k) : s.hfProgress = s := by
  unfold State.hfProgress
  rw [h]
  split
  · next hw => cases hw
  · rfl

theorem State.hfProgress_idle (h : s.hfr.want = none) : s.hfProgress = s := by
  unfold State.hfProgress
  rw [h]

/-- A request reached without a lease ends, and nobody is answered. -/
theorem State.hfProgress_reached (hheld : s.get LSC.HF_STATE_HFR_HELD = 0) (hwant : s.hfr.want = some s.hst) (hstep : s.hfr.step = none) :
    s.hfProgress = s.updHfr fun h => { h with want := none } := by
  have hseq : (s.updHfr fun h => { h with want := none }).hfSeq = none := by
    have hget : (s.updHfr fun h => { h with want := none }).get LSC.HF_STATE_HFR_HELD = 0 := hheld
    simp [State.hfSeq, State.on, hget]
  unfold State.hfProgress
  rw [hwant, hstep]
  dsimp only
  rw [if_pos (by simp)]
  unfold State.hfAnswer
  extract_lets s1
  have h1 : s1 = s.updHfr fun h => { h with want := none } := rfl
  rw [h1, hseq]

theorem exec_hfLeaseRelease_tag (m : Master) : exec (.hfLeaseRelease m 1) s = .next s.hftEnd := rfl

theorem State.hftEnd_held (h : s.get LSC.HF_STATE_HFT_HELD ≠ 0) : s.hftEnd =
    ((s.set LSC.HF_STATE_HFT_HELD 0).set LSC.HF_STATE_HFT_OWNER 0).seqFree (s.get LSC.HF_STATE_HFT_OWNER) := by
  have hon : s.on LSC.HF_STATE_HFT_HELD = true := by simpa [State.on] using h
  exact if_pos hon

theorem State.hftEnd_free (h : s.get LSC.HF_STATE_HFT_HELD = 0) : s.hftEnd = s := by
  have hon : ¬s.on LSC.HF_STATE_HFT_HELD = true := by simp [State.on, h]
  exact if_neg hon

/-- The key of a register outside LSC is none of those that the end of a lease writes. -/
theorem hfr_not_freed {n : Nat} (hn : n < 16) {f : Fld} (h : ∀ k, k < 16 → f.key 0 ≠ LSC.STATE_LTYPE.key k)
    (h1 : f.key 0 ≠ LSC.HF_STATE_HFR_HELD.key 0) (h2 : f.key 0 ≠ LSC.HF_STATE_HFR_OWNER.key 0) :
    f.key 0 ∉ [LSC.HF_STATE_HFR_HELD.key 0, LSC.HF_STATE_HFR_OWNER.key 0, LSC.STATE_LTYPE.key n] := by
  simp only [List.mem_cons, List.not_mem_nil, or_false, not_or]
  exact ⟨h1, h2, h n hn⟩

theorem State.hfrEnd_down (hheld : s.get LSC.HF_STATE_HFR_HELD ≠ 0) (hn : s.get LSC.HF_STATE_HFR_OWNER < 16) (hst : 3 ≤ s.hst)
    (hwin : s.hfr.window = none) :
    s.hfrEnd.get LSC.HF_STATE_HFR_HELD = 0 ∧ s.hfrEnd.get LSC.STATE_LTYPE (s.get LSC.HF_STATE_HFR_OWNER) = 0 ∧
    s.hfrEnd.hfr.want = some 2 ∧ s.hfrEnd.hfr.step = some 2 ∧ s.hfrEnd.hfr.sending = none ∧ s.hfrEnd.hfr.held = none ∧
    s.hfrEnd.hst = (if s.hst = txMOD then txCW else s.hst) ∧ s.hfrEnd.get HFR.STATE_FIELD = s.get HFR.STATE_FIELD ∧
    s.hfrEnd.mem = s.mem := by
  rw [s.hfrEnd_held hheld]
  obtain ⟨hh, hl, hhfr, hmem, -, hregs⟩ := s.hfFreed_shows (n := s.get LSC.HF_STATE_HFR_OWNER)
  obtain ⟨hstd, hhfrd, hmemd, hregsd⟩ := s.hfDropped_shows
  rw [s.hfFieldOff_none hwin] at hhfr hmem hregs
  have h3 : 3 ≤ s.hfDropped.hst := by
    rw [hstd]
    split
    · decide
    · exact hst
  have hrel : (s.hfFreed (s.get LSC.HF_STATE_HFR_OWNER)).hfr.want = some 2 ∧ (s.hfFreed (s.get LSC.HF_STATE_HFR_OWNER)).hfr.step = some 2 ∧
      (s.hfFreed (s.get LSC.HF_STATE_HFR_OWNER)).hfr.sending = none ∧ (s.hfFreed (s.get LSC.HF_STATE_HFR_OWNER)).hfr.held = none := by
    rw [hhfr, hhfrd, hfRelease]
    simp [h3]
  obtain ⟨hwant, hstep, hsend, hheldn⟩ := hrel
  rw [State.hfProgress_stepping _ hstep]
  refine ⟨hh, hl, hwant, hstep, hsend, hheldn, ?_, ?_, by rw [hmem, hmemd]⟩
  · rw [State.hst, hregs _ _ (hfr_not_freed hn (by decide) (by decide) (by decide)), ← State.hst, hstd]
  · rw [hregs _ _ (hfr_not_freed hn (by decide) (by decide) (by decide)), hregsd _ (by decide)]

theorem State.hfrEnd_off (hheld : s.get LSC.HF_STATE_HFR_HELD ≠ 0) (hn : s.get LSC.HF_STATE_HFR_OWNER < 16) (hst : s.hst < 3)
    (hwin : s.hfr.window = none) :
    s.hfrEnd.get LSC.HF_STATE_HFR_HELD = 0 ∧ s.hfrEnd.get LSC.STATE_LTYPE (s.get LSC.HF_STATE_HFR_OWNER) = 0 ∧
    s.hfrEnd.hst = s.hst ∧ s.hfrEnd.mem = s.mem ∧
    (s.hfr.step ≠ some 3 → s.hfrEnd.hfr.want = none ∧ s.hfrEnd.hfr.step = s.hfr.step) ∧
    (s.hfr.step = some 3 → s.hst = 2 → s.hfrEnd.hfr.want = none ∧ s.hfrEnd.hfr.step = none) := by
  rw [s.hfrEnd_held hheld]
  obtain ⟨hh, hl, hhfr, hmem, -, hregs⟩ := s.hfFreed_shows (n := s.get LSC.HF_STATE_HFR_OWNER)
  obtain ⟨hstd, hhfrd, hmemd, -⟩ := s.hfDropped_shows
  rw [s.hfFieldOff_none hwin] at hhfr hmem hregs
  have hstd' : s.hfDropped.hst = s.hst := by
    rw [hstd, if_neg (by simp only [txMOD]; omega)]
  have hstf : (s.hfFreed (s.get LSC.HF_STATE_HFR_OWNER)).hst = s.hst := by
    rw [State.hst, hregs _ _ (hfr_not_freed hn (by decide) (by decide) (by decide)), ← State.hst, hstd']
  have hlow : ¬3 ≤ s.hst := by omega
  generalize hu : s.hfFreed (s.get LSC.HF_STATE_HFR_OWNER) = u at *
  rw [hstd', hhfrd] at hhfr
  by_cases hstep : s.hfr.step = some 3
  · have hw : u.hfr.want = some 2 ∧ u.hfr.step = none := by
      rw [hhfr, hfRelease]
      simp [hlow, hstep]
    obtain ⟨hwant, hnone⟩ := hw
    by_cases h2 : s.hst = 2
    · rw [u.hfProgress_reached hh (by rw [hwant, hstf, h2]) hnone]
      exact ⟨hh, hl, hstf, by rw [← hmemd, ← hmem]; rfl, fun h => absurd hstep h, fun _ _ => ⟨rfl, hnone⟩⟩
    · have hp : u.hfProgress = u.updHfr fun h => { h with step := some (if u.hst < 2 then u.hst + 1 else u.hst - 1) } := by
        unfold State.hfProgress
        rw [hwant, hnone]
        dsimp only
        rw [if_neg (by rw [hstf]; simpa using fun h : 2 = s.hst => h2 h.symm), if_neg (by rw [hstf]; exact hlow)]
      rw [hp]
      exact ⟨hh, hl, hstf, by rw [← hmemd, ← hmem]; rfl, fun h => absurd hstep h, fun _ h => absurd h h2⟩
  · have hw : u.hfr.want = none ∧ u.hfr.step = s.hfr.step := by
      rw [hhfr, hfRelease]
      simp [hlow, hstep]
    obtain ⟨hwant, hsame⟩ := hw
    rw [u.hfProgress_idle hwant]
    exact ⟨hh, hl, hstf, by rw [hmem, hmemd], fun _ => ⟨hwant, hsame⟩, fun h => absurd h hstep⟩

end

/-! ### An open window when the lease ends -/

section
variable (s : State) {n : Nat}

/-- A decision delivered to sequencer `n`: RXD, RXSTAT, and no register of the reader. -/
theorem State.hfDeliver_shows (hn : n < 16) (rxstat : Nat) (l : List Bool) :
    (s.hfDeliver n rxstat l).bit LSC.EVP_EVP evRXD n = true ∧ ((s.hfDeliver n rxstat l).seqAt n).rxstat = rxstat ∧
    (s.hfDeliver n rxstat l).hfr = s.hfr ∧
    ∀ f : Fld, LSC.EVP_EVP.below f = true → LSC.CNT_RXD_COUNT.below f = true → LSC.STATUS_SAT.below f = true →
      (s.hfDeliver n rxstat l).get f = s.get f := by
  unfold State.hfDeliver
  extract_lets k s1 q
  have h1 : s1.regs = s.regs ∧ s1.hfr = s.hfr := by
    obtain ⟨x, hx⟩ := s.wrBytes_form (seqBase n + (s.seqAt n).rxb) (packLsb k l)
    simp only [s1, hx, State.freshPar]
    split <;> exact ⟨rfl, rfl⟩
  obtain ⟨hregs, hhfr⟩ := h1
  generalize hq : ({ q with
    rxstat := rxstat, rxrn := ofBitsMsb ((l ++ List.replicate 16 false).take 16), dects := s.dsp % 4294967296 } : Seq) = q'
  have hkeep : ∀ (t : State) (c g : Fld) (i : Nat), (t.bump c g i).hfr = t.hfr := fun t c g i => by
    unfold State.bump
    split <;> rfl
  refine ⟨?_, ?_, ?_, fun f he hc hs => ?_⟩
  · rw [State.bit, State.get_bump_apart _ (by decide) (by decide)]
    exact State.bit_setBit_true (s1.setSeq n q') (by decide) n
  · rw [State.seqAt, State.bump_radio]
    exact (congrArg Seq.rxstat (State.seqAt_setSeq_same s1 n q')).trans (by rw [← hq])
  · rw [hkeep]
    exact hhfr
  · rw [State.get_bump_ne _ (Nat.ne_of_gt (Fld.key_lt_of_below hc hn 0)) (Nat.ne_of_gt (Fld.key_lt_of_below hs hn 0)), State.seqEvent,
      State.setBit, State.get_set_below _ he hn]
    simp only [State.get, State.setSeq, hregs]

theorem State.get_hfToCw (f : Fld) (k : Nat) : s.hfToCw.get f k = (s.set HFR.STATE_STATE txCW).get f k := rfl

/-- A decision of the window of frame `f`, which leaves LISTEN for CW. -/
theorem State.hfDecision_shows {f : HfFrame} (hn : f.seq < 16) (hst : s.hst = txLISTEN) {herr collpos cls : Nat} (h0 : herr ≠ 0)
    (hlow : 256 * min 255 collpos + cls < 65536 - 144) (crcOk : Bool) :
    (s.hfDecision f herr collpos cls crcOk []).hfr.window = none ∧ (s.hfDecision f herr collpos cls crcOk []).hst = txCW ∧
    ((s.hfDecision f herr collpos cls crcOk []).seqAt f.seq).rxstat / 536870912 = herr ∧
    (s.hfDecision f herr collpos cls crcOk []).bit LSC.EVP_EVP evRXD f.seq = true ∧
    (s.hfDecision f herr collpos cls crcOk []).get HFR.STATUS_FRAME_ERR = 1 := by
  unfold State.hfDecision
  extract_lets wtx bad rxstat s1 s2 s3 s4
  obtain ⟨hevp, hstat, hhfr, hget⟩ := s4.hfDeliver_shows hn rxstat []
  have hbump : ∀ (t : State) (c g : Fld) (i : Nat), (t.bump c g i).hfr = t.hfr := fun t c g i => by
    unfold State.bump
    split <;> rfl
  have h1 : s1.hfr.window = none ∧ s1.hst = txLISTEN := by
    simp only [s1]
    refine ⟨by rw [hbump]; rfl, ?_⟩
    rw [State.hst, State.get_bump_apart _ (by decide) (by decide), State.get_set_apart _ (by decide), State.get_set_apart _ (by decide)]
    exact hst
  have h2 : s2.hfr.window = none ∧ s2.hst = txLISTEN ∧ s2.get HFR.STATUS_FRAME_ERR = 1 := by
    have hbad : bad = true := by simp [bad, h0]
    simp only [s2, hbad, if_true]
    refine ⟨by rw [hbump]; exact h1.1, ?_, ?_⟩
    · rw [State.hst, State.get_bump_apart _ (by decide) (by decide), State.get_set_apart _ (by decide)]
      exact h1.2
    · rw [State.get_bump_apart _ (by decide) (by decide), State.get_set_fits _ (by decide)]
  have h3 : s3.hfr.window = none ∧ s3.hst = txLISTEN ∧ s3.get HFR.STATUS_FRAME_ERR = 1 := by
    obtain ⟨hw, hs, he⟩ := h2
    simp only [s3]
    split
    · exact ⟨hw, (State.get_set_apart _ (by decide) _).trans hs, (State.get_set_apart _ (by decide) _).trans he⟩
    · split
      · exact ⟨hw, (State.get_set_apart _ (by decide) _).trans hs, (State.get_set_apart _ (by decide) _).trans he⟩
      · exact ⟨hw, hs, he⟩
  have h4 : s4.hfr.window = none ∧ s4.hst = txCW ∧ s4.get HFR.STATUS_FRAME_ERR = 1 := by
    obtain ⟨hw, hs, he⟩ := h3
    simp only [s4, State.when, hs]
    rw [if_pos (by decide)]
    refine ⟨hw, ?_, ?_⟩
    · rw [State.hst, State.get_hfToCw, State.get_set_fits _ (by decide)]
    · rw [State.get_hfToCw, State.get_set_apart _ (by decide), State.get_set_apart _ (by decide)]
      exact he
  obtain ⟨hw, hs, he⟩ := h4
  refine ⟨by rw [hhfr]; exact hw, by rw [State.hst, hget _ (by decide) (by decide) (by decide)]; exact hs, ?_, hevp,
    by rw [hget _ (by decide) (by decide) (by decide)]; exact he⟩
  have hb : ∀ b, b2n b ≤ 1 := fun b => by cases b <;> decide
  have hb1 := hb (wtx != 0)
  have hb2 := hb crcOk
  rw [hstat]
  simp only [rxstat, List.length_nil]
  omega

theorem State.hfrEnd_window {f : HfFrame} (hheld : s.get LSC.HF_STATE_HFR_HELD ≠ 0) (hn : s.get LSC.HF_STATE_HFR_OWNER < 16)
    (hst : s.hst = txLISTEN) (hwin : s.hfr.window = some f) (hf : f.seq < 16) :
    s.hfrEnd.get LSC.HF_STATE_HFR_HELD = 0 ∧ s.hfrEnd.get LSC.STATE_LTYPE (s.get LSC.HF_STATE_HFR_OWNER) = 0 ∧
    s.hfrEnd.hfr.want = some 2 ∧ s.hfrEnd.hfr.step = some 2 ∧ s.hfrEnd.hfr.window = none ∧ s.hfrEnd.hst = txCW ∧
    (s.hfrEnd.seqAt f.seq).rxstat / 536870912 = 6 ∧ s.hfrEnd.bit LSC.EVP_EVP evRXD f.seq = true ∧
    s.hfrEnd.get HFR.STATUS_FRAME_ERR = 1 := by
  rw [s.hfrEnd_held hheld]
  obtain ⟨hh, hl, hhfr, -, hstat, hregs⟩ := s.hfFreed_shows (n := s.get LSC.HF_STATE_HFR_OWNER)
  obtain ⟨hstd, -, -, -⟩ := s.hfDropped_shows
  have hst5 : s.hfDropped.hst = txLISTEN := by rw [hstd, hst, if_neg (by decide)]
  obtain ⟨hw, hst3, hrx, hevp, herr⟩ := s.hfDropped.hfDecision_shows hf hst5 (herr := 6) (collpos := 0) (cls := 0) (by decide) (by decide)
    (!heRxCrc f.entry)
  rw [← s.hfFieldOff_some hwin] at hw hst3 hrx hevp herr
  have h3 : 3 ≤ s.hfFieldOff.hst := by rw [hst3]; decide
  have hrel : (s.hfFreed (s.get LSC.HF_STATE_HFR_OWNER)).hfr.want = some 2 ∧ (s.hfFreed (s.get LSC.HF_STATE_HFR_OWNER)).hfr.step = some 2 ∧
      (s.hfFreed (s.get LSC.HF_STATE_HFR_OWNER)).hfr.window = none := by
    rw [hhfr, hfRelease]
    simp [h3, hw]
  obtain ⟨hwant, hstep, hnone⟩ := hrel
  rw [State.hfProgress_stepping _ hstep]
  refine ⟨hh, hl, hwant, hstep, hnone, ?_, by rw [hstat]; exact hrx, ?_, ?_⟩
  · rw [State.hst, hregs _ _ (hfr_not_freed hn (by decide) (by decide) (by decide))]
    exact hst3
  · rw [State.bit, hregs]
    · exact hevp
    · simp only [List.mem_cons, List.not_mem_nil, or_false, not_or]
      exact ⟨Fld.key_ne_of_spares (by decide) _, Fld.key_ne_of_spares (by decide) _, Fld.key_ne_of_apart (by decide) _ _⟩
  · rw [hregs _ _ (hfr_not_freed hn (by decide) (by decide) (by decide))]
    exact herr

end

/-! ### The HF frame table -/

section
variable (s : State)

theorem exec_ftDataAccess_free (v : Nat) (hheld : s.get LSC.HF_STATE_HFR_HELD = 0) :
    exec (.ftDataAccess true v) s = .next { (s.set HFR.FT_ADDR_WADDR (s.get HFR.FT_ADDR_WADDR + 1)) with
      hfr := { s.hfr with table := Tab.set 0 s.hfr.table (s.get HFR.FT_ADDR_WADDR) (v % 4294967296) } } := by
  have hexec : exec (.ftDataAccess true v) s = execFtDataAccess true v s := rfl
  have hseq : s.hfSeq.isSome = false := by simp [State.hfSeq, State.on, hheld]
  rw [hexec]
  unfold execFtDataAccess
  extract_lets a s1
  rw [if_neg (by decide), if_neg (by simp [hseq])]
  rfl

theorem exec_ftDataAccess_leased (v : Nat) (hheld : s.get LSC.HF_STATE_HFR_HELD ≠ 0) :
    exec (.ftDataAccess true v) s = .next ((s.set HFR.FT_ADDR_WADDR (s.get HFR.FT_ADDR_WADDR + 1)).set HFR.STATUS_CMD_ERR 1) := by
  have hexec : exec (.ftDataAccess true v) s = execFtDataAccess true v s := rfl
  have hseq : s.hfSeq.isSome = true := by simp [State.hfSeq, State.on, hheld]
  rw [hexec]
  unfold execFtDataAccess
  extract_lets a s1
  rw [if_neg (by decide), if_pos hseq]

theorem exec_ftDataAccess_read (v : Nat) : exec (.ftDataAccess false v) s =
    .next ((s.set HFR.FT_ADDR_WADDR (s.get HFR.FT_ADDR_WADDR + 1)).respond (Tab.get 0 s.hfr.table (s.get HFR.FT_ADDR_WADDR)) false) := rfl

end

end Sys2Proof.Machine
end

section
/-! PROOFS. R281, R312, R326, R327: the recovery pass and the release of the tag's engine. -/

namespace Sys2Proof.Machine

open Sys2Proof

/-- The registers of index 0 alone that the recovery pass writes. -/
def recovFlds : List Fld := [HFT.RECOV_ACTION, HFT.RECOV_RECORD, HFT.STATUS_RECOVERED, HFT.STATUS_RECOV_FAIL]

/-- A register that the recovery pass does not write. -/
def Fld.offRecovery (f : Fld) : Bool := recovFlds.all f.apart && (HFT.MONO_VALUE.below f || f.below HFT.MONO_VALUE)

/-- `t` is `s` but for the tag's own state, and its registers RECOV, STATUS and MONO. -/
structure TagRecovered (s t : State) : Prop where
  form : ∃ regs hft, t = { s with regs := regs, hft := hft }
  get : ∀ f : Fld, f.offRecovery = true → ∀ k, k < f.count → t.get f k = s.get f k

namespace TagRecovered
variable {s t : State}

theorem refl (s : State) : TagRecovered s s := ⟨⟨_, _, rfl⟩, fun _ _ _ _ => rfl⟩

section
variable (h : TagRecovered s t)
include h

theorem mem : t.mem = s.mem := by
  obtain ⟨⟨r, x, rfl⟩, -⟩ := h
  rfl

theorem set {g : Fld} (hg : g ∈ recovFlds) (v : Nat) : TagRecovered s (t.set g v) := by
  obtain ⟨⟨r, x, rfl⟩, hget⟩ := h
  refine ⟨⟨_, x, rfl⟩, fun f hf i hi => ?_⟩
  have hall := hf
  simp only [Fld.offRecovery, Bool.and_eq_true, List.all_eq_true] at hall
  exact (State.get_set_apart _ (hall.1 g hg) _).trans (hget f hf i hi)

theorem setMonoValue {c : Nat} (hc : c < 4) (v : Nat) : TagRecovered s (t.set HFT.MONO_VALUE v c) := by
  obtain ⟨⟨r, x, rfl⟩, hget⟩ := h
  refine ⟨⟨_, x, rfl⟩, fun f hf i hi => ?_⟩
  have hside := hf
  simp only [Fld.offRecovery, Bool.and_eq_true, Bool.or_eq_true] at hside
  rcases hside.2 with hside | hside
  · exact (State.get_set_below _ hside hc _).trans (hget f hf i hi)
  · exact (State.get_set_above _ hside hi _).trans (hget f hf i hi)

theorem updHft (g : Hft → Hft) : TagRecovered s (t.updHft g) := by
  obtain ⟨⟨r, x, rfl⟩, hget⟩ := h
  exact ⟨⟨_, _, rfl⟩, hget⟩

theorem recovered (a r : Nat) : TagRecovered s (t.recovered a r) := by
  unfold State.recovered
  extract_lets s1
  have h1 : TagRecovered s s1 := ((h.set (g := HFT.RECOV_ACTION) (by simp [recovFlds]) _).set (g := HFT.RECOV_RECORD) (by simp [recovFlds]) _).set
    (g := HFT.STATUS_RECOVERED) (by simp [recovFlds]) _
  split
  · exact (h1.set (g := HFT.STATUS_RECOV_FAIL) (by simp [recovFlds]) _).updHft _
  · exact h1

theorem recoverMarked (r g : Nat) : TagRecovered s (t.recoverMarked r g) := by
  unfold State.recoverMarked
  extract_lets x clear
  split
  · exact (h.updHft _).recovered _ _
  · split
    · exact ((h.updHft _).updHft _).recovered _ _
    · exact ((h.updHft _).updHft _).recovered _ _

theorem recoverGens : TagRecovered s t.recoverGens := by
  unfold State.recoverGens
  extract_lets ks
  exact State.forL_keep (TagRecovered s) _ _ _ h fun r _ u hu => (hu.updHft _).recovered _ _

theorem setMono {c : Nat} (hc : c < 4) (v : Nat) : TagRecovered s (t.setMono c v) := (h.updHft _).setMonoValue hc _

theorem recoverMono : TagRecovered s t.recoverMono := by
  unfold State.recoverMono
  refine State.forN_keep (TagRecovered s) _ _ _ h fun c hc u hu => ?_
  extract_lets p b
  split
  · split
    · exact hu
    · exact (hu.setMono hc _).recovered _ _
  · split
    · exact (hu.setMono hc _).recovered _ _
    · split
      · exact hu
      · exact (hu.setMono hc _).recovered _ _

theorem recoverSlots : TagRecovered s t.recoverSlots := by
  unfold State.recoverSlots
  refine State.forL_keep (TagRecovered s) _ _ _ h fun r _ u hu => ?_
  split
  · exact hu
  · exact hu.recovered _ _

theorem recoveryPass : TagRecovered s t.recoveryPass := by
  unfold State.recoveryPass
  extract_lets s1
  have h1 : TagRecovered s s1 := by
    simp only [s1]
    split
    · exact h.recoverMarked _ _
    · exact h.recoverGens
  exact h1.recoverSlots.recoverMono

end
end TagRecovered

section
variable (s : State)

theorem State.get_recoveryPass {f : Fld} (hf : f.offRecovery = true) {k : Nat} (hk : k < f.count) :
    s.recoveryPass.get f k = s.get f k := (TagRecovered.refl s).recoveryPass.get f hf k hk

theorem State.mem_recoveryPass : s.recoveryPass.mem = s.mem := (TagRecovered.refl s).recoveryPass.mem

/-- The engine released enters IDLE where a field supplies an enabled tag. -/
theorem State.tagRelease_idle (hfield : s.get HFT.STATE_FIELD ≠ 0) (hen : s.get HFT.CTRL_EN ≠ 0) :
    s.tagRelease = s.recoveryPass.set HFT.STATE_TSTATE tgIDLE := by
  unfold State.tagRelease
  extract_lets s1
  refine if_pos ?_
  simp only [s1, State.on]
  rw [s.get_recoveryPass (by decide) (by decide),
    s.get_recoveryPass (by decide) (by decide)]
  simp [hfield, hen]

theorem State.tagRelease_dark (h : s.get HFT.STATE_FIELD = 0 ∨ s.get HFT.CTRL_EN = 0) : s.tagRelease = s.recoveryPass := by
  unfold State.tagRelease
  extract_lets s1
  refine if_neg ?_
  simp only [s1, State.on]
  rw [s.get_recoveryPass (by decide) (by decide),
    s.get_recoveryPass (by decide) (by decide)]
  rcases h with h | h <;> simp [h]

theorem exec_tagGuardRelease (hguard : s.get HFT.STATE_GUARD ≠ 0) (hst : s.hst < 3) :
    ∃ t, exec .tagGuardRelease s = .next t ∧ t.get HFT.STATE_GUARD = 0 ∧ t.mem = s.mem ∧
      (s.get HFT.STATE_FIELD ≠ 0 → s.get HFT.CTRL_EN ≠ 0 → t.get HFT.STATE_TSTATE = tgIDLE) ∧
      (s.get HFT.STATE_FIELD = 0 ∨ s.get HFT.CTRL_EN = 0 →
        t = (s.set HFT.STATE_GUARD 0).recoveryPass ∧ t.get HFT.STATE_TSTATE = s.get HFT.STATE_TSTATE) := by
  have hexec : exec .tagGuardRelease s = .next (s.set HFT.STATE_GUARD 0).tagRelease :=
    if_pos (by simp [State.on, hguard, hst])
  generalize hu : s.set HFT.STATE_GUARD 0 = u at hexec
  have hfield : u.get HFT.STATE_FIELD = s.get HFT.STATE_FIELD := by rw [← hu, State.get_set_apart _ (by decide)]
  have hen : u.get HFT.CTRL_EN = s.get HFT.CTRL_EN := by rw [← hu, State.get_set_apart _ (by decide)]
  have hts : u.get HFT.STATE_TSTATE = s.get HFT.STATE_TSTATE := by rw [← hu, State.get_set_apart _ (by decide)]
  have hmem : u.recoveryPass.mem = s.mem := by rw [u.mem_recoveryPass, ← hu]; rfl
  have hguardu : u.recoveryPass.get HFT.STATE_GUARD = 0 := by
    rw [u.get_recoveryPass (by decide) (by decide), ← hu, State.get_set_fits _ (by decide)]
  have htsu : u.recoveryPass.get HFT.STATE_TSTATE = s.get HFT.STATE_TSTATE := by
    rw [u.get_recoveryPass (by decide) (by decide), hts]
  by_cases hsup : s.get HFT.STATE_FIELD = 0 ∨ s.get HFT.CTRL_EN = 0
  · rw [u.tagRelease_dark (by rw [hfield, hen]; exact hsup)] at hexec
    refine ⟨_, hexec, hguardu, hmem, fun h1 h2 => absurd hsup (not_or.2 ⟨h1, h2⟩), fun _ => ⟨rfl, htsu⟩⟩
  · obtain ⟨h1, h2⟩ := not_or.1 hsup
    rw [u.tagRelease_idle (by rw [hfield]; exact h1) (by rw [hen]; exact h2)] at hexec
    have hmemt : (u.recoveryPass.set HFT.STATE_TSTATE tgIDLE).mem = s.mem := (State.set_mem _ _ _ _).trans hmem
    exact ⟨_, hexec, by rw [State.get_set_apart _ (by decide)]; exact hguardu, hmemt, fun _ _ => State.get_set_fits _ (by decide),
      fun h => absurd h hsup⟩

theorem exec_tagGuardRelease_none (h : 3 ≤ s.hst ∨ s.get HFT.STATE_GUARD = 0) : exec .tagGuardRelease s = .next s := by
  have hcond : ¬(s.on HFT.STATE_GUARD && decide (s.hst < 3)) = true := by
    rcases h with h | h
    · simp [Nat.not_lt.2 h]
    · simp [State.on, h]
  exact if_neg hcond

end

/-- Settles O31: a lease is refused by the first check that fails and else taken, its end ramps the field down and decides an open
window, and the guard's release runs the recovery pass. -/
theorem hfLeasesTableAndGuard : Obligations.HfLeasesTableAndGuard := by
  unfold Obligations.HfLeasesTableAndGuard
  refine ⟨fun s m seq entry hs he hdom hen hheld hstop hfault hbound => ?_, fun s m seq entry hs he hdom hheld hstop hfault hbound => ?_,
    fun s m target seq entry ht hs he h => ?_, fun s m target seq entry ht hs he hdom h => ?_,
    fun s m target seq entry ht hs he hdom h hst => ?_, fun s m h => ?_, fun s m h => ?_, fun s m h => ?_, fun s m h hn hst hw => ?_,
    fun s m f h hn hst hw hf => ?_, fun s m h hn hst hw => ?_, fun s v => exec_ftDataAccess_free s v,
    fun s v => exec_ftDataAccess_leased s v, fun s v => exec_ftDataAccess_read s v, fun s => exec_tagGuardRelease s,
    fun s => exec_tagGuardRelease_none s⟩
  · have hcheck := s.hfLeaseCheck_free (target := 0) hdom (fun _ => hen) (by rw [if_pos rfl]; exact hheld) hstop hfault hbound
    rw [exec_hfLeaseGo s (by decide) hs he, s.hfLeaseGo_taken hcheck, if_pos rfl]
    exact ⟨_, rfl, s.hfLeased (by decide) (by decide) (by decide) rfl rfl hs he (by decide)⟩
  · have hcheck := s.hfLeaseCheck_free (target := 1) hdom (fun h => absurd h (by decide)) (by rw [if_neg (by decide)]; exact hheld) hstop
      hfault hbound
    rw [exec_hfLeaseGo s (by decide) hs he, s.hfLeaseGo_taken hcheck, if_neg (by decide)]
    exact ⟨_, rfl, s.hfLeased (by decide) (by decide) (by decide) rfl rfl hs he (by decide)⟩
  · have hcheck : s.hfLeaseCheck target seq = 11 := by
      unfold State.hfLeaseCheck
      rcases h with h | ⟨h0, h⟩
      · simp [h]
      · simp [h0, State.on, h]
    rw [exec_hfLeaseGo s ht hs he, s.hfLeaseGo_refused hcheck (by decide)]
    rfl
  · have hcheck : s.hfLeaseCheck target seq = 1 := by
      unfold State.hfLeaseCheck
      rcases h with ⟨h0, hen, h⟩ | ⟨h0, h⟩
      · simp [hdom, h0, State.on, hen, h]
      · simp [hdom, h0, State.on, h]
    rw [exec_hfLeaseGo s ht hs he, s.hfLeaseGo_refused hcheck (by decide)]
    rfl
  · have hbusy : (s.get LSC.STATE_STATE seq == seqSTOPPED || s.get LSC.STATE_STATE seq == seqFAULT || s.seqBound seq) = true := by
      rcases hst with h | h | h <;> simp [h]
    have hcheck : s.hfLeaseCheck target seq = 3 := by
      unfold State.hfLeaseCheck
      dsimp only
      rw [hbusy]
      rcases h with ⟨h0, hen, h⟩ | ⟨h0, h⟩
      · simp [hdom, h0, State.on, hen, h]
      · simp [hdom, h0, State.on, h]
    rw [exec_hfLeaseGo s ht hs he, s.hfLeaseGo_refused hcheck (by decide)]
    rfl
  · exact (exec_hfLeaseRelease_tag s m).trans (congrArg Host.Outcome.next (s.hftEnd_held h))
  · exact (exec_hfLeaseRelease_tag s m).trans (congrArg Host.Outcome.next (s.hftEnd_free h))
  · exact congrArg Host.Outcome.next (s.hfrEnd_free h)
  · exact ⟨_, rfl, s.hfrEnd_down h hn hst hw⟩
  · exact ⟨_, rfl, s.hfrEnd_window h hn hst hw hf⟩
  · exact ⟨_, rfl, s.hfrEnd_off h hn hst hw⟩

end Sys2Proof.Machine
end

section
/-! PROOFS. R308, R313, R316, R323: an APDU that the tag runs at once, and its answer where no MAC is carried. -/

namespace Sys2Proof.Machine

open Sys2Proof

/-! ### Big-endian words -/

theorem toBe_two {v : Nat} (h : v < 65536) : toBe 2 v = [v / 256, v % 256] := by
  have h1 : v / 256 % 256 = v / 256 := Nat.mod_eq_of_lt (by omega)
  simp [toBe, toLe, List.range_succ, h1]

/-- Two bytes are the big-endian word that they spell. -/
theorem toBe_ofBe_two {x y : Nat} (hx : x < 256) (hy : y < 256) : toBe 2 (ofBe [x, y]) = [x, y] := by
  have hv : ofBe [x, y] = y + 256 * x := by simp [ofBe, ofLe, Nat.mod_eq_of_lt hx, Nat.mod_eq_of_lt hy]
  rw [hv, toBe_two (by omega)]
  have h1 : (y + 256 * x) / 256 = x := by omega
  have h2 : (y + 256 * x) % 256 = y := by omega
  rw [h1, h2]

/-! ### What starting an APDU leaves -/

section
variable (s : State)

/-- The tag's own state as an APDU starts on it. -/
def Hft.started (h : Hft) : Hft := { h with fieldWait := none, macCtr := none }

theorem State.apduStart_form : ∃ r, s.apduStart = { s with regs := r, hft := s.hft.started } := by
  unfold State.apduStart State.bump
  split <;> exact ⟨_, rfl⟩

theorem State.apduStart_hft : s.apduStart.hft = s.hft.started := by
  obtain ⟨r, h⟩ := s.apduStart_form
  rw [h]

theorem State.apduStart_mem : s.apduStart.mem = s.mem := by
  obtain ⟨r, h⟩ := s.apduStart_form
  rw [h]

/-- A register that counts no command. -/
def Fld.offCmd (f : Fld) : Bool := f.apart HFT.CNT_CMD_COUNT && f.apart HFT.STATUS_SAT

theorem State.get_apduStart {f : Fld} (h : f.offCmd = true) (k : Nat) : s.apduStart.get f k = s.get f k := by
  simp only [Fld.offCmd, Bool.and_eq_true] at h
  exact State.get_bump_apart _ h.1 h.2 _

/-- An APDU in OPEN or SECURED_INSTALLER runs at once while nothing wired is in progress. -/
theorem State.apduIn_free {a : Apdu} (h : s.tagFree) (hd : a.data.length ≤ 255) (hl : a.le ≤ 256) :
    s.apduIn a = .next (s.apduStart.apduRun a) := by
  obtain ⟨hst, hbusy⟩ := h
  have hin : [tgOPEN, tgINSTALLER, tgFACTORY].contains s.tgSt = true := by
    rcases hst with hst | hst <;> rw [hst] <;> decide
  have hplain : (s.apduStart.tgSt == tgFACTORY) = false := by
    rw [State.tgSt, s.get_apduStart (by decide), ← State.tgSt]
    rcases hst with hst | hst <;> rw [hst] <;> decide
  have hshort : Apdu.short a = true := by simp [Apdu.short, hd, hl]
  have hrun : s.tagApdu a = s.apduStart.apduRun a := by
    unfold State.tagApdu
    rw [hbusy, if_neg (by decide)]
    change (if s.apduStart.tgSt == tgFACTORY then s.apduStart.apduMac a else s.apduStart.apduRun a) = s.apduStart.apduRun a
    rw [hplain, if_neg (by decide)]
  unfold State.apduIn State.tagIn
  rw [if_pos hin]
  dsimp only
  rw [if_pos hshort, hrun]

/-- An answer where no MAC is carried: the data and the status word. -/
theorem State.tagAnswer_plain (h : s.hft.macCtr = none) (data : List Nat) (sw : Nat) :
    s.tagAnswer data sw = s.tagReply (data ++ toBe 2 sw) := by
  unfold State.tagAnswer State.rApdu
  rw [h]

theorem State.withLen_ok {a : Apdu} {k : Nat} {g : State → State} (h : a.data.length = k) : s.withLen a k g = g s :=
  if_pos (by simpa using h)

theorem State.withLen_bad {a : Apdu} {k : Nat} {g : State → State} (h : a.data.length ≠ k) : s.withLen a k g = s.tagAnswer [] 0x6700 :=
  if_neg (by simpa using h)

@[simp] theorem State.tagReply_reply (b : List Nat) : (s.tagReply b).hft.reply = b := rfl
@[simp] theorem State.tagReply_mem (b : List Nat) : (s.tagReply b).mem = s.mem := rfl
@[simp] theorem State.get_tagReply (b : List Nat) (f : Fld) (k : Nat) : (s.tagReply b).get f k = s.get f k := rfl
@[simp] theorem State.tgSt_tagReply (b : List Nat) : (s.tagReply b).tgSt = s.tgSt := rfl
@[simp] theorem State.tagReply_fails (b : List Nat) : (s.tagReply b).hft.fails = s.hft.fails := rfl
@[simp] theorem State.tagReply_rndB (b : List Nat) : (s.tagReply b).hft.rndB = s.hft.rndB := rfl
@[simp] theorem State.tagReply_sk (b : List Nat) : (s.tagReply b).hft.sk = s.hft.sk := rfl
@[simp] theorem State.tagReply_key (b : List Nat) : (s.tagReply b).hft.key = s.hft.key := rfl
@[simp] theorem State.tagReply_ctr (b : List Nat) : (s.tagReply b).hft.ctr = s.hft.ctr := rfl

/-! ### A return to OPEN, and a failure counted -/

/-- The tag's own state in OPEN without authentication. -/
def Hft.opened (h : Hft) : Hft := { h with rndB := [], sk := [], macCtr := none }

theorem State.tagOpen_hft : s.tagOpen.hft = s.hft.opened := rfl

theorem State.tagOpen_tgSt : s.tagOpen.tgSt = tgOPEN := State.get_set_fits _ (by decide)

theorem State.get_tagOpen {f : Fld} (h : f.apart HFT.STATE_TSTATE = true) (k : Nat) : s.tagOpen.get f k = s.get f k := by
  rw [State.tagOpen, State.get_set_apart _ h]
  rfl

theorem State.tagOpen_mem : s.tagOpen.mem = s.mem := rfl

/-- The failure counted, before the lockout (R317). -/
def State.failCounted (s : State) : State :=
  ((s.setFails (min 8 (s.hft.fails + 1))).set HFT.STATUS_AUTH_FAIL 1).bump HFT.CNT_AUTHFAIL_COUNT HFT.STATUS_SAT

theorem State.setFails_hft (k : Nat) : (s.setFails k).hft = { s.hft with fails := k } := rfl

theorem State.failCounted_hft : s.failCounted.hft = { s.hft with fails := min 8 (s.hft.fails + 1) } := by
  rw [State.failCounted, State.bump_hft, State.set_hft, State.setFails_hft]

theorem State.failCounted_mem : s.failCounted.mem = s.mem :=
  (State.bump_mem _ _ _ _ _).trans ((State.set_mem _ _ _ _).trans rfl)

theorem State.authFail_eq : s.authFail =
    if 7 ≤ s.hft.fails then (s.failCounted.set HFT.STATE_LOCKOUT 1).set HFT.STATUS_LOCKOUT 1 else s.failCounted := by
  have hf : s.failCounted.hft.fails = min 8 (s.hft.fails + 1) := by rw [s.failCounted_hft]
  unfold State.authFail
  change (if 8 ≤ s.failCounted.hft.fails then (s.failCounted.set HFT.STATE_LOCKOUT 1).set HFT.STATUS_LOCKOUT 1 else s.failCounted) = _
  rw [hf]
  by_cases h : 7 ≤ s.hft.fails
  · rw [if_pos h, if_pos (by omega)]
  · rw [if_neg h, if_neg (by omega)]

theorem State.failCounted_shows : s.failCounted.get HFT.STATE_FAILS = min 8 (s.hft.fails + 1) ∧
    s.failCounted.get HFT.STATUS_AUTH_FAIL = 1 ∧ s.failCounted.tgSt = s.tgSt ∧
    s.failCounted.get HFT.STATE_LOCKOUT = s.get HFT.STATE_LOCKOUT := by
  have hfit : min 8 (s.hft.fails + 1) < 2 ^ HFT.STATE_FAILS.width := lt_of_le_of_lt (Nat.min_le_left _ _) (by decide)
  have hkept : ∀ f : Fld, (s.updHft fun h => { h with fails := min 8 (s.hft.fails + 1) }).get f = s.get f := fun _ => rfl
  unfold State.failCounted State.setFails
  refine ⟨?_, ?_, ?_, ?_⟩
  · rw [State.get_bump_apart _ (by decide) (by decide), State.get_set_apart _ (by decide), State.get_set_fits _ hfit]
  · rw [State.get_bump_apart _ (by decide) (by decide), State.get_set_fits _ (by decide)]
  · rw [State.tgSt, State.get_bump_apart _ (by decide) (by decide), State.get_set_apart _ (by decide), State.get_set_apart _ (by decide),
      hkept]
    rfl
  · rw [State.get_bump_apart _ (by decide) (by decide), State.get_set_apart _ (by decide), State.get_set_apart _ (by decide), hkept]

/-- A failure counted, and at the eighth the lockout. -/
theorem State.authFail_shows (h0 : s.get HFT.STATE_LOCKOUT = 0) : s.authFail.hft = { s.hft with fails := min 8 (s.hft.fails + 1) } ∧
    s.authFail.get HFT.STATE_FAILS = min 8 (s.hft.fails + 1) ∧ s.authFail.get HFT.STATUS_AUTH_FAIL = 1 ∧
    s.authFail.tgSt = s.tgSt ∧ s.authFail.get HFT.STATE_LOCKOUT = (if 7 ≤ s.hft.fails then 1 else 0) ∧
    (7 ≤ s.hft.fails → s.authFail.get HFT.STATUS_LOCKOUT = 1) ∧ s.authFail.mem = s.mem := by
  obtain ⟨hfails, hfail, hst, hlock⟩ := s.failCounted_shows
  have hhft := s.failCounted_hft
  have hmem := s.failCounted_mem
  rw [s.authFail_eq]
  by_cases h : 7 ≤ s.hft.fails
  · rw [if_pos h, if_pos h]
    refine ⟨by rw [State.set_hft, State.set_hft, hhft], ?_, ?_, ?_, ?_, fun _ => State.get_set_fits _ (by decide),
      by rw [State.set_mem, State.set_mem, hmem]⟩
    · rw [State.get_set_apart _ (by decide), State.get_set_apart _ (by decide), hfails]
    · rw [State.get_set_apart _ (by decide), State.get_set_apart _ (by decide), hfail]
    · rw [State.tgSt, State.get_set_apart _ (by decide), State.get_set_apart _ (by decide), ← State.tgSt, hst]
    · rw [State.get_set_apart _ (by decide), State.get_set_fits _ (by decide)]
  · rw [if_neg h, if_neg h]
    exact ⟨hhft, hfails, hfail, hst, hlock.trans h0, fun h7 => absurd h7 h, hmem⟩

end

end Sys2Proof.Machine
end

section
/-! PROOFS. R314, R315, R317: VERIFY, AUTH1 and AUTH2. -/

namespace Sys2Proof.Machine

open Sys2Proof

section
variable (s : State) {a : Apdu}

theorem exec_verify (h : s.tagFree) (hd : a.data.length ≤ 255) (hl : a.le ≤ 256) :
    exec (.verify a) s = .next (s.apduStart.cVerify { a with cla := 0x90, ins := 0x20 }) :=
  s.apduIn_free (a := { a with cla := 0x90, ins := 0x20 }) h hd hl

theorem exec_auth1 (h : s.tagFree) (hd : a.data.length ≤ 255) (hl : a.le ≤ 256) :
    exec (.auth1 a) s = .next (s.apduStart.cAuth1 { a with cla := 0x90, ins := 0x30 }) :=
  s.apduIn_free (a := { a with cla := 0x90, ins := 0x30 }) h hd hl

theorem exec_auth2 (h : s.tagFree) (hd : a.data.length ≤ 255) (hl : a.le ≤ 256) :
    exec (.auth2 a) s = .next (s.apduStart.cAuth2 { a with cla := 0x90, ins := 0x31 }) :=
  s.apduIn_free (a := { a with cla := 0x90, ins := 0x31 }) h hd hl

/-- VERIFY and AUTH1 begin from OPEN (R314, R315). -/
theorem State.openStart_shows : s.apduStart.tagOpen.hft = s.hft.started.opened ∧ s.apduStart.tagOpen.tgSt = tgOPEN ∧
    s.apduStart.tagOpen.get HFT.STATE_LOCKOUT = s.get HFT.STATE_LOCKOUT ∧ s.apduStart.tagOpen.mem = s.mem := by
  refine ⟨by rw [State.tagOpen_hft, s.apduStart_hft], State.tagOpen_tgSt _, ?_, by rw [State.tagOpen_mem, s.apduStart_mem]⟩
  rw [State.get_tagOpen _ (by decide), s.get_apduStart (by decide)]

theorem State.recData_started {r : Nat} (h : r ≠ 0) : s.apduStart.recData r = s.recData r := by
  simp [State.recData, h, State.recPrimary, s.apduStart_hft, Hft.started]

/-- An answer that OPEN gives at the start of VERIFY or AUTH1, nothing evaluated. -/
def OpenAnswer (s t : State) (sw : Nat) : Prop :=
  t.hft.reply = toBe 2 sw ∧ t.hft.fails = s.hft.fails ∧ t.hft.rndB = [] ∧ t.hft.sk = [] ∧ t.tgSt = tgOPEN ∧
    t.get HFT.STATE_LOCKOUT = s.get HFT.STATE_LOCKOUT ∧ t.mem = s.mem

theorem State.openAnswer (sw : Nat) : OpenAnswer s (s.apduStart.tagOpen.tagAnswer [] sw) sw := by
  obtain ⟨hhft, hst, hlock, hmem⟩ := s.openStart_shows
  rw [State.tagAnswer_plain _ (by rw [hhft]; rfl)]
  refine ⟨by simp, ?_, ?_, ?_, hst, hlock, hmem⟩
  · rw [State.tagReply_fails, hhft]
    rfl
  · rw [State.tagReply_rndB, hhft]
    rfl
  · rw [State.tagReply_sk, hhft]
    rfl

/-- The refusals of VERIFY, in order (R314, R317). -/
theorem State.cVerify_refused {sw : Nat} (h : s.get HFT.STATE_LOCKOUT ≠ 0 ∧ sw = 0x6983 ∨
    s.get HFT.STATE_LOCKOUT = 0 ∧ ((a.p1 ≠ 0 ∨ a.p2 ≠ 0) ∧ sw = 0x6A86 ∨ a.p1 = 0 ∧ a.p2 = 0 ∧ a.data.length ≠ 8 ∧ sw = 0x6700)) :
    s.apduStart.cVerify { a with cla := 0x90, ins := 0x20 } = s.apduStart.tagOpen.tagAnswer [] sw := by
  obtain ⟨-, -, hlock, -⟩ := s.openStart_shows
  unfold State.cVerify
  extract_lets pw t
  have ht : t.get HFT.STATE_LOCKOUT = s.get HFT.STATE_LOCKOUT := hlock
  rcases h with ⟨hl, rfl⟩ | ⟨hl, ⟨hp, rfl⟩ | ⟨h1, h2, hlen, rfl⟩⟩
  · exact if_pos (by simp [State.on, ht, hl])
  · rw [if_neg (by simp [State.on, ht, hl])]
    exact if_pos (by simpa using hp)
  · rw [if_neg (by simp [State.on, ht, hl]), if_neg (by simp [h1, h2])]
    exact t.withLen_bad hlen

/-- VERIFY with eight bytes for a password (R314, R317). -/
theorem State.cVerify_tried (hl : s.get HFT.STATE_LOCKOUT = 0) (h1 : a.p1 = 0) (h2 : a.p2 = 0) (hlen : a.data.length = 8) :
    s.apduStart.cVerify { a with cla := 0x90, ins := 0x20 } =
      if ((s.recData 0x20).take 8).all fun x => x == 0 then s.apduStart.tagOpen.tagAnswer [] 0x6985
      else if a.data == (s.recData 0x20).take 8 then
        ((s.apduStart.tagOpen.setFails 0).set HFT.STATE_TSTATE tgINSTALLER).tagAnswer [] 0x9000
      else s.apduStart.tagOpen.authFail.tagAnswer [] (0x63C0 + (8 - s.apduStart.tagOpen.authFail.hft.fails)) := by
  obtain ⟨-, -, hlock, -⟩ := s.openStart_shows
  unfold State.cVerify
  extract_lets pw t
  have ht : t.get HFT.STATE_LOCKOUT = s.get HFT.STATE_LOCKOUT := hlock
  have hpw : pw = (s.recData 0x20).take 8 := by simp only [pw]; rw [s.recData_started (by decide)]
  rw [if_neg (by simp [State.on, ht, hl]), if_neg (by simp [h1, h2]), t.withLen_ok (a := { a with cla := 0x90, ins := 0x20 }) hlen, hpw]

/-- SECURED_INSTALLER entered, FAILS cleared. -/
theorem State.installer_shows : ((s.setFails 0).set HFT.STATE_TSTATE tgINSTALLER).hft = { s.hft with fails := 0 } ∧
    ((s.setFails 0).set HFT.STATE_TSTATE tgINSTALLER).tgSt = tgINSTALLER ∧
    ((s.setFails 0).set HFT.STATE_TSTATE tgINSTALLER).get HFT.STATE_FAILS = 0 ∧
    ((s.setFails 0).set HFT.STATE_TSTATE tgINSTALLER).mem = s.mem := by
  refine ⟨by rw [State.set_hft, State.setFails_hft], State.get_set_fits _ (by decide), ?_, rfl⟩
  rw [State.get_set_apart _ (by decide), State.setFails, State.get_set_fits _ (by decide)]

theorem exec_verify_tried {pw : List Nat} (h : s.tagFree) (hle : a.le ≤ 256) (h1 : a.p1 = 0) (h2 : a.p2 = 0)
    (hl : s.get HFT.STATE_LOCKOUT = 0) (hlen : a.data.length = 8) (hpw : pw = (s.recData 0x20).take 8) :
    ∃ t, exec (.verify a) s = .next t ∧ t.mem = s.mem ∧ t.hft.rndB = [] ∧ t.hft.sk = [] ∧
      ((∀ x ∈ pw, x = 0) → t.tgSt = tgOPEN ∧ t.hft.fails = s.hft.fails ∧ t.hft.reply = [0x69, 0x85]) ∧
      ((∃ x ∈ pw, x ≠ 0) → a.data = pw →
        t.tgSt = tgINSTALLER ∧ t.hft.fails = 0 ∧ t.get HFT.STATE_FAILS = 0 ∧ t.hft.reply = [0x90, 0x00]) ∧
      ((∃ x ∈ pw, x ≠ 0) → a.data ≠ pw → t.tgSt = tgOPEN ∧ t.hft.fails = min 8 (s.hft.fails + 1) ∧
        t.get HFT.STATE_FAILS = min 8 (s.hft.fails + 1) ∧ t.get HFT.STATUS_AUTH_FAIL = 1 ∧
        t.hft.reply = [0x63, 0xC0 + (8 - min 8 (s.hft.fails + 1))] ∧
        t.get HFT.STATE_LOCKOUT = (if 7 ≤ s.hft.fails then 1 else 0) ∧ (7 ≤ s.hft.fails → t.get HFT.STATUS_LOCKOUT = 1)) := by
  obtain ⟨hhft, hst, hlock, hmem⟩ := s.openStart_shows
  refine ⟨_, exec_verify s h (by omega) hle, ?_⟩
  rw [s.cVerify_tried hl h1 h2 hlen, ← hpw]
  by_cases hzero : ∀ x ∈ pw, x = 0
  · rw [if_pos (by simpa using hzero)]
    obtain ⟨hreply, hfails, hrnd, hsk, hopen, -, hm⟩ := s.openAnswer 0x6985
    exact ⟨hm, hrnd, hsk, fun _ => ⟨hopen, hfails, hreply⟩, fun ⟨x, hx, hx0⟩ => absurd (hzero x hx) hx0,
      fun ⟨x, hx, hx0⟩ => absurd (hzero x hx) hx0⟩
  · rw [if_neg (by simpa using hzero)]
    by_cases hdata : a.data = pw
    · rw [if_pos (by simpa using hdata)]
      obtain ⟨hfree, hinst, hzeroed, hm⟩ := s.apduStart.tagOpen.installer_shows
      rw [hhft] at hfree
      generalize (s.apduStart.tagOpen.setFails 0).set HFT.STATE_TSTATE tgINSTALLER = u at *
      rw [State.tagAnswer_plain _ (by rw [hfree]; rfl)]
      exact ⟨by rw [State.tagReply_mem, hm, hmem], by rw [State.tagReply_rndB, hfree]; rfl, by rw [State.tagReply_sk, hfree]; rfl,
        fun hz => absurd hz hzero, fun _ _ => ⟨by rw [State.tgSt_tagReply, hinst], by rw [State.tagReply_fails, hfree],
          by rw [State.get_tagReply, hzeroed], by rw [State.tagReply_reply, toBe_two (by decide)]; rfl⟩, fun _ hne => absurd hdata hne⟩
    · rw [if_neg (by simpa using hdata)]
      obtain ⟨hfh, hfails, hfail, hfst, hflock, hfstat, hfmem⟩ := s.apduStart.tagOpen.authFail_shows (hlock.trans hl)
      rw [hhft] at hfh hfails hflock hfstat
      generalize s.apduStart.tagOpen.authFail = u at *
      rw [State.tagAnswer_plain _ (by rw [hfh]; rfl), hfh]
      refine ⟨by rw [State.tagReply_mem, hfmem, hmem], by rw [State.tagReply_rndB, hfh]; rfl, by rw [State.tagReply_sk, hfh]; rfl,
        fun hz => absurd hz hzero, fun _ heq => absurd heq hdata, fun _ _ => ⟨by rw [State.tgSt_tagReply, hfst, hst],
          by rw [State.tagReply_fails, hfh]; rfl, hfails, hfail, ?_, hflock, hfstat⟩⟩
      have hk : 8 - min 8 (s.hft.fails + 1) < 8 := by omega
      rw [State.tagReply_reply, List.nil_append]
      change toBe 2 (0x63C0 + (8 - min 8 (s.hft.fails + 1))) = _
      rw [toBe_two (by omega)]
      generalize 8 - min 8 (s.hft.fails + 1) = k at hk ⊢
      have hd : (0x63C0 + k) / 256 = 0x63 ∧ (0x63C0 + k) % 256 = 0xC0 + k := by omega
      rw [hd.1, hd.2]

/-! ### AUTH1 -/

theorem State.openStart_rest : (∀ i j d, s.apduStart.tagOpen.obj i j d = s.obj i j d) ∧
    s.apduStart.tagOpen.freeCount = s.freeCount ∧ s.apduStart.tagOpen.lc = s.lc := by
  have hobjs : s.apduStart.tagOpen.objs = s.objs := by
    have h1 : s.apduStart.tagOpen.objs = s.apduStart.objs := rfl
    rw [h1, State.apduStart, State.bump_objs]
  have hfree : s.apduStart.tagOpen.freeCount = s.freeCount := by
    have h1 : s.apduStart.tagOpen.freeCount = s.apduStart.freeCount := rfl
    rw [h1, State.apduStart, State.bump_freeCount]
  refine ⟨fun i j d => by rw [State.obj, State.obj, hobjs], hfree, ?_⟩
  rw [State.lc, State.lc, State.get_tagOpen _ (by decide), s.get_apduStart (by decide)]

/-- The refusals of AUTH1, in order (R315, R317). -/
theorem State.cAuth1_refused {sw : Nat} (h : s.get HFT.STATE_LOCKOUT ≠ 0 ∧ sw = 0x6983 ∨
    s.get HFT.STATE_LOCKOUT = 0 ∧ ((3 < a.p1 ∨ a.p2 ≠ 0) ∧ sw = 0x6A86 ∨ a.p1 ≤ 3 ∧ a.p2 = 0 ∧ (a.data ≠ [] ∨ a.le ≠ 16) ∧ sw = 0x6700 ∨
       a.p1 ≤ 3 ∧ a.p2 = 0 ∧ a.data = [] ∧ a.le = 16 ∧ s.lc = lcRETIRED ∧ sw = 0x6985 ∨
       a.p1 ≤ 3 ∧ a.p2 = 0 ∧ a.data = [] ∧ a.le = 16 ∧ s.lc ≠ lcRETIRED ∧ s.obj 0x4105 (a.p1 + 1) [] = [] ∧ sw = 0x6A88)) :
    s.apduStart.cAuth1 { a with cla := 0x90, ins := 0x30 } = s.apduStart.tagOpen.tagAnswer [] sw := by
  obtain ⟨-, -, hlock, -⟩ := s.openStart_shows
  obtain ⟨hobj, -, hlc⟩ := s.openStart_rest
  unfold State.cAuth1
  extract_lets t
  have ht : t.get HFT.STATE_LOCKOUT = s.get HFT.STATE_LOCKOUT := hlock
  have htlc : t.lc = s.lc := hlc
  have htobj : t.obj 0x4105 (a.p1 + 1) [] = s.obj 0x4105 (a.p1 + 1) [] := hobj _ _ _
  rcases h with ⟨hl, rfl⟩ | ⟨hl, ⟨hp, rfl⟩ | ⟨h1, h2, hlen, rfl⟩ | ⟨h1, h2, hd, hle, hret, rfl⟩ | ⟨h1, h2, hd, hle, hret, hkey, rfl⟩⟩
  · exact if_pos (by simp [State.on, ht, hl])
  · rw [if_neg (by simp [State.on, ht, hl])]
    exact if_pos (by simpa using hp)
  · rw [if_neg (by simp [State.on, ht, hl]), if_neg (by simp [h2]; omega)]
    exact if_pos (by simpa using hlen)
  · rw [if_neg (by simp [State.on, ht, hl]), if_neg (by simp [h2]; omega), if_neg (by simp [hd, hle])]
    exact if_pos (by simp [htlc, hret])
  · rw [if_neg (by simp [State.on, ht, hl]), if_neg (by simp [h2]; omega), if_neg (by simp [hd, hle]), if_neg (by simpa [htlc] using hret)]
    dsimp only
    rw [htobj, hkey]

theorem exec_auth1_challenge {key : List Nat} (h : s.tagFree) (h1 : a.p1 ≤ 3) (h2 : a.p2 = 0) (hd : a.data = []) (hle : a.le = 16)
    (hl : s.get HFT.STATE_LOCKOUT = 0) (hret : s.lc ≠ lcRETIRED) (hobj : s.obj 0x4105 (a.p1 + 1) [] = key) (hkey : key ≠ []) :
    ∃ t, exec (.auth1 a) s = .next t ∧ t.tgSt = tgOPEN ∧ t.hft.rndB = (s.freshL 16 256).1 ∧ t.hft.key = key ∧
      t.hft.reply = aesEnc key (s.freshL 16 256).1 ++ [0x90, 0x00] ∧ t.mem = s.mem := by
  obtain ⟨hhft, hst, hlock, hmem⟩ := s.openStart_shows
  obtain ⟨hobjs, hfree, hlc⟩ := s.openStart_rest
  refine ⟨_, exec_auth1 s h (by simp [hd]) (by omega), ?_⟩
  unfold State.cAuth1
  extract_lets t
  have ht : t.get HFT.STATE_LOCKOUT = s.get HFT.STATE_LOCKOUT := hlock
  have htlc : t.lc = s.lc := hlc
  have htobj : t.obj 0x4105 (a.p1 + 1) [] = key := (hobjs _ _ _).trans hobj
  have hthft : t.hft = s.hft.started.opened := hhft
  have htst : t.tgSt = tgOPEN := hst
  have htmem : t.mem = s.mem := hmem
  have hrnd : (t.freshL 16 256).1 = (s.freshL 16 256).1 := by
    have htfree : t.freeCount = s.freeCount := hfree
    simp only [State.freshL, htfree]
  rw [if_neg (by simp [State.on, ht, hl]), if_neg (by simp [h2]; omega), if_neg (by simp [hd, hle]), if_neg (by simpa [htlc] using hret)]
  clear_value t
  dsimp only
  rw [htobj]
  cases key with
  | nil => exact absurd rfl hkey
  | cons k ks =>
    dsimp only
    have hmac : ((t.freshL 16 256).2.updHft fun x => { x with rndB := (t.freshL 16 256).1, key := k :: ks }).hft.macCtr = none := by
      have heq : ((t.freshL 16 256).2.updHft fun x => { x with rndB := (t.freshL 16 256).1, key := k :: ks }).hft.macCtr = t.hft.macCtr := rfl
      rw [heq, hthft]
      rfl
    rw [State.tagAnswer_plain _ hmac, toBe_two (by decide), hrnd]
    exact ⟨htst, rfl, rfl, rfl, htmem⟩

/-! ### AUTH2 -/

/-- The refusals of AUTH2, in order (R315, R317). -/
theorem State.cAuth2_refused {sw : Nat} (h : s.get HFT.STATE_LOCKOUT ≠ 0 ∧ sw = 0x6983 ∨
    s.get HFT.STATE_LOCKOUT = 0 ∧ ((a.p1 ≠ 0 ∨ a.p2 ≠ 0) ∧ sw = 0x6A86 ∨ a.p1 = 0 ∧ a.p2 = 0 ∧ s.hft.rndB = [] ∧ sw = 0x6985 ∨
       a.p1 = 0 ∧ a.p2 = 0 ∧ s.hft.rndB ≠ [] ∧ a.data.length ≠ 32 ∧ sw = 0x6700)) :
    s.apduStart.cAuth2 { a with cla := 0x90, ins := 0x31 } = s.apduStart.tagAnswer [] sw := by
  have ht : s.apduStart.get HFT.STATE_LOCKOUT = s.get HFT.STATE_LOCKOUT := s.get_apduStart (by decide) _
  have hrnd : s.apduStart.hft.rndB = s.hft.rndB := by rw [s.apduStart_hft]; rfl
  unfold State.cAuth2
  rcases h with ⟨hl, rfl⟩ | ⟨hl, ⟨hp, rfl⟩ | ⟨h1, h2, hno, rfl⟩ | ⟨h1, h2, hno, hlen, rfl⟩⟩
  · exact if_pos (by simp [State.on, ht, hl])
  · rw [if_neg (by simp [State.on, ht, hl])]
    exact if_pos (by simpa using hp)
  · rw [if_neg (by simp [State.on, ht, hl]), if_neg (by simp [h1, h2])]
    exact if_pos (by simp [hrnd, hno])
  · rw [if_neg (by simp [State.on, ht, hl]), if_neg (by simp [h1, h2]), if_neg (by simpa [hrnd] using hno)]
    exact State.withLen_bad _ hlen

/-- The state in which a rotated challenge that is right leaves the tag (R315). -/
def State.factory (t : State) (sk : List Nat) : State :=
  ((t.updHft fun h => { h with sk := sk, ctr := 0, macCtr := none, rndB := [] }).setFails 0).set HFT.STATE_TSTATE tgFACTORY

theorem State.factory_shows (sk : List Nat) : (s.factory sk).tgSt = tgFACTORY ∧
    (s.factory sk).hft = { s.hft with sk := sk, ctr := 0, macCtr := none, rndB := [], fails := 0 } ∧ (s.factory sk).mem = s.mem :=
  ⟨State.get_set_fits _ (by decide), by rw [State.factory, State.set_hft, State.setFails_hft]; rfl, rfl⟩

/-- AUTH2 after an AUTH1 (R315, R317). -/
theorem State.cAuth2_tried (hl : s.get HFT.STATE_LOCKOUT = 0) (h1 : a.p1 = 0) (h2 : a.p2 = 0) (hno : s.hft.rndB ≠ [])
    (hlen : a.data.length = 32) :
    s.apduStart.cAuth2 { a with cla := 0x90, ins := 0x31 } =
      if xorBytes (aesDec s.hft.key (a.data.drop 16)) (a.data.take 16) == rot1 s.hft.rndB then
        (s.apduStart.factory (aesEnc s.hft.key ((aesDec s.hft.key (a.data.take 16)).take 8 ++ s.hft.rndB.take 8))).tagAnswer
          (aesEnc s.hft.key (rot1 (aesDec s.hft.key (a.data.take 16)))) 0x9000
      else s.apduStart.tagOpen.authFail.tagAnswer [] 0x6300 := by
  have ht : s.apduStart.get HFT.STATE_LOCKOUT = s.get HFT.STATE_LOCKOUT := s.get_apduStart (by decide) _
  have hrnd : s.apduStart.hft.rndB = s.hft.rndB := by rw [s.apduStart_hft]; rfl
  have hkey : s.apduStart.hft.key = s.hft.key := by rw [s.apduStart_hft]; rfl
  unfold State.cAuth2
  rw [if_neg (by simp [State.on, ht, hl]), if_neg (by simp [h1, h2]), if_neg (by simpa [hrnd] using hno),
    State.withLen_ok _ (a := { a with cla := 0x90, ins := 0x31 }) hlen]
  dsimp only
  rw [hrnd, hkey]
  rfl

theorem exec_auth2_tried (h : s.tagFree) (hle : a.le ≤ 256) (h1 : a.p1 = 0) (h2 : a.p2 = 0) (hl : s.get HFT.STATE_LOCKOUT = 0)
    (hno : s.hft.rndB ≠ []) (hlen : a.data.length = 32) :
    ∃ t, exec (.auth2 a) s = .next t ∧ t.hft.rndB = [] ∧ t.mem = s.mem ∧
      (xorBytes (aesDec s.hft.key (a.data.drop 16)) (a.data.take 16) = rot1 s.hft.rndB →
        t.tgSt = tgFACTORY ∧ t.hft.fails = 0 ∧ t.hft.ctr = 0 ∧
        t.hft.sk = aesEnc s.hft.key ((aesDec s.hft.key (a.data.take 16)).take 8 ++ s.hft.rndB.take 8) ∧
        t.hft.reply = aesEnc s.hft.key (rot1 (aesDec s.hft.key (a.data.take 16))) ++ [0x90, 0x00]) ∧
      (xorBytes (aesDec s.hft.key (a.data.drop 16)) (a.data.take 16) ≠ rot1 s.hft.rndB →
        t.tgSt = tgOPEN ∧ t.hft.fails = min 8 (s.hft.fails + 1) ∧ t.hft.sk = [] ∧ t.hft.reply = [0x63, 0x00]) := by
  refine ⟨_, exec_auth2 s h (by omega) hle, ?_⟩
  rw [s.cAuth2_tried hl h1 h2 hno hlen]
  by_cases hright : xorBytes (aesDec s.hft.key (a.data.drop 16)) (a.data.take 16) = rot1 s.hft.rndB
  · rw [if_pos (by simpa using hright)]
    obtain ⟨hst, hhft, hmem⟩ := s.apduStart.factory_shows
      (aesEnc s.hft.key ((aesDec s.hft.key (a.data.take 16)).take 8 ++ s.hft.rndB.take 8))
    generalize s.apduStart.factory _ = u at *
    rw [State.tagAnswer_plain _ (by rw [hhft]), toBe_two (by decide)]
    exact ⟨by rw [State.tagReply_rndB, hhft], by rw [State.tagReply_mem, hmem, s.apduStart_mem], fun _ =>
      ⟨by rw [State.tgSt_tagReply, hst], by rw [State.tagReply_fails, hhft], by rw [State.tagReply_ctr, hhft],
        by rw [State.tagReply_sk, hhft], rfl⟩, fun hne => absurd hright hne⟩
  · rw [if_neg (by simpa using hright)]
    obtain ⟨hhft, hst, hlock, hmem⟩ := s.openStart_shows
    obtain ⟨hfh, -, -, hfst, -, -, hfmem⟩ := s.apduStart.tagOpen.authFail_shows (hlock.trans hl)
    rw [hhft] at hfh
    generalize s.apduStart.tagOpen.authFail = u at *
    rw [State.tagAnswer_plain _ (by rw [hfh]; rfl), toBe_two (by decide)]
    exact ⟨by rw [State.tagReply_rndB, hfh]; rfl, by rw [State.tagReply_mem, hfmem, hmem], fun heq => absurd heq hright, fun _ =>
      ⟨by rw [State.tgSt_tagReply, hfst, hst], by rw [State.tagReply_fails, hfh]; rfl, by rw [State.tagReply_sk, hfh]; rfl, rfl⟩⟩

/-- An answer of AUTH2 that evaluates nothing. -/
theorem State.startAnswer (sw : Nat) : (s.apduStart.tagAnswer [] sw).hft.reply = toBe 2 sw ∧
    (s.apduStart.tagAnswer [] sw).hft.fails = s.hft.fails ∧ (s.apduStart.tagAnswer [] sw).tgSt = s.tgSt ∧
    (s.apduStart.tagAnswer [] sw).get HFT.STATE_LOCKOUT = s.get HFT.STATE_LOCKOUT ∧ (s.apduStart.tagAnswer [] sw).mem = s.mem := by
  have hhft := s.apduStart_hft
  have hst : s.apduStart.tgSt = s.tgSt := s.get_apduStart (by decide) _
  have hl : s.apduStart.get HFT.STATE_LOCKOUT = s.get HFT.STATE_LOCKOUT := s.get_apduStart (by decide) _
  have hmem := s.apduStart_mem
  generalize s.apduStart = u at *
  rw [State.tagAnswer_plain _ (by rw [hhft]; rfl)]
  exact ⟨rfl, by rw [State.tagReply_fails, hhft]; rfl, hst, hl, hmem⟩

theorem exec_locked {c : Instr} (h : s.tagFree) (hd : a.data.length ≤ 255) (hle : a.le ≤ 256) (hl : s.get HFT.STATE_LOCKOUT ≠ 0)
    (hc : c = .verify a ∨ c = .auth1 a ∨ c = .auth2 a) :
    ∃ t, exec c s = .next t ∧ t.hft.reply = [0x69, 0x83] ∧ t.hft.fails = s.hft.fails ∧ t.get HFT.STATE_LOCKOUT = s.get HFT.STATE_LOCKOUT ∧
      t.tgSt = (if c = .auth2 a then s.tgSt else tgOPEN) ∧ t.mem = s.mem := by
  obtain ⟨hreply, hfails, -, -, hopen, hlock, hmem⟩ := s.openAnswer 0x6983
  rcases hc with rfl | rfl | rfl
  · refine ⟨_, exec_verify s h hd hle, ?_⟩
    rw [s.cVerify_refused (.inl ⟨hl, rfl⟩), if_neg (by simp)]
    exact ⟨hreply, hfails, hlock, hopen, hmem⟩
  · refine ⟨_, exec_auth1 s h hd hle, ?_⟩
    rw [s.cAuth1_refused (.inl ⟨hl, rfl⟩), if_neg (by simp)]
    exact ⟨hreply, hfails, hlock, hopen, hmem⟩
  · refine ⟨_, exec_auth2 s h hd hle, ?_⟩
    rw [s.cAuth2_refused (.inl ⟨hl, rfl⟩), if_pos rfl]
    obtain ⟨hr, hf, hst, hk, hm⟩ := s.startAnswer 0x6983
    exact ⟨hr, hf, hk, hst, hm⟩

theorem exec_auth_refused {c : Instr} {sw : Nat} (h : s.tagFree) (hd : a.data.length ≤ 255) (hle : a.le ≤ 256)
    (hl : s.get HFT.STATE_LOCKOUT = 0)
    (hc : c = .verify a ∧ ((a.p1 ≠ 0 ∨ a.p2 ≠ 0) ∧ sw = 0x6A86 ∨ a.p1 = 0 ∧ a.p2 = 0 ∧ a.data.length ≠ 8 ∧ sw = 0x6700) ∨
     c = .auth1 a ∧ ((3 < a.p1 ∨ a.p2 ≠ 0) ∧ sw = 0x6A86 ∨ a.p1 ≤ 3 ∧ a.p2 = 0 ∧ (a.data ≠ [] ∨ a.le ≠ 16) ∧ sw = 0x6700 ∨
       a.p1 ≤ 3 ∧ a.p2 = 0 ∧ a.data = [] ∧ a.le = 16 ∧ s.lc = lcRETIRED ∧ sw = 0x6985 ∨
       a.p1 ≤ 3 ∧ a.p2 = 0 ∧ a.data = [] ∧ a.le = 16 ∧ s.lc ≠ lcRETIRED ∧ s.obj 0x4105 (a.p1 + 1) [] = [] ∧ sw = 0x6A88) ∨
     c = .auth2 a ∧ ((a.p1 ≠ 0 ∨ a.p2 ≠ 0) ∧ sw = 0x6A86 ∨ a.p1 = 0 ∧ a.p2 = 0 ∧ s.hft.rndB = [] ∧ sw = 0x6985 ∨
       a.p1 = 0 ∧ a.p2 = 0 ∧ s.hft.rndB ≠ [] ∧ a.data.length ≠ 32 ∧ sw = 0x6700)) :
    ∃ t, exec c s = .next t ∧ t.hft.reply = toBe 2 sw ∧ t.hft.fails = s.hft.fails ∧ t.tgSt = (if c = .auth2 a then s.tgSt else tgOPEN) ∧
      (c = .auth1 a → t.hft.rndB = []) ∧ t.mem = s.mem := by
  obtain ⟨hreply, hfails, hrnd, -, hopen, -, hmem⟩ := s.openAnswer sw
  rcases hc with ⟨rfl, hc⟩ | ⟨rfl, hc⟩ | ⟨rfl, hc⟩
  · refine ⟨_, exec_verify s h hd hle, ?_⟩
    rw [s.cVerify_refused (.inr ⟨hl, hc⟩), if_neg (by simp)]
    exact ⟨hreply, hfails, hopen, fun hne => absurd hne (by simp), hmem⟩
  · refine ⟨_, exec_auth1 s h hd hle, ?_⟩
    rw [s.cAuth1_refused (.inr ⟨hl, hc⟩), if_neg (by simp)]
    exact ⟨hreply, hfails, hopen, fun _ => hrnd, hmem⟩
  · refine ⟨_, exec_auth2 s h hd hle, ?_⟩
    rw [s.cAuth2_refused (.inr ⟨hl, hc⟩), if_pos rfl]
    obtain ⟨hr, hf, hst, -, hm⟩ := s.startAnswer sw
    exact ⟨hr, hf, hst, fun hne => absurd hne (by simp), hm⟩

end

end Sys2Proof.Machine
end

section
/-! PROOFS. R319, R325, R328, R329: wired access to the tag's records. -/

namespace Sys2Proof.Machine

open Sys2Proof

/-! ### A wired operation ends, and a commit begins -/

section
variable (s : State)

/-- The registers of a wired operation. -/
def wiredFlds : List Fld := [HFT.WCMD_RECORD, HFT.WCMD_NOWAIT, HFT.WCMD_OP, HFT.WSTAT_PENDING, HFT.WSTAT_RECORD, HFT.WSTAT_RESULT,
  HFT.WSTAT_GEN, HFT.STATUS_WGRANT]

theorem State.wiredDone_shows {r result : Nat} (hr : r < 256) (hres : result < 16) :
    (s.wiredDone r result).get HFT.WSTAT_PENDING = 0 ∧ (s.wiredDone r result).get HFT.WSTAT_RESULT = result ∧
    (s.wiredDone r result).get HFT.WSTAT_RECORD = r ∧ (s.wiredDone r result).hft = s.hft ∧ (s.wiredDone r result).mem = s.mem ∧
    ∀ f k, f.clear k wiredFlds 0 → (s.wiredDone r result).get f k = s.get f k := by
  have hrf : r < 2 ^ HFT.WSTAT_RECORD.width := hr
  have hresf : result < 2 ^ HFT.WSTAT_RESULT.width := hres
  unfold State.wiredDone
  refine ⟨?_, ?_, ?_, rfl, rfl, fun f k h => ?_⟩
  · rw [State.get_set_apart _ (by decide), State.get_set_apart _ (by decide), State.get_set_apart _ (by decide),
      State.get_set_fits _ (by decide)]
  · rw [State.get_set_apart _ (by decide), State.get_set_apart _ (by decide), State.get_set_fits _ hresf]
  · rw [State.get_set_apart _ (by decide), State.get_set_fits _ hrf]
  · rw [State.get_set_clear h (by decide), State.get_set_clear h (by decide), State.get_set_clear h (by decide),
      State.get_set_clear h (by decide)]

theorem State.fieldGo_none (h : s.hft.fieldWait = none) : s.fieldGo = s := by
  unfold State.fieldGo
  rw [h]

theorem State.wbuf_congr {t : State} (h : ∀ i, t.get HFT.WBUF_DATA i = s.get HFT.WBUF_DATA i) : t.wbuf = s.wbuf := by
  unfold State.wbuf
  simp only [h]

/-- A word of WBUF is none of a wired operation's registers. -/
theorem wbuf_clear (i : Nat) : HFT.WBUF_DATA.clear i wiredFlds 0 := fun g hg => by
  have hlow : g.key 0 < HFT.WBUF_DATA.key 0 := by
    simp only [wiredFlds, List.mem_cons, List.not_mem_nil, or_false] at hg
    rcases hg with rfl | rfl | rfl | rfl | rfl | rfl | rfl | rfl <;> decide
  have hup := HFT.WBUF_DATA.key_mono (Nat.zero_le i)
  omega

/-! ### Under the grant -/

/-- The commit of a wired write. -/
def wiredCommit (s : State) (r : Nat) : Commit :=
  let g := (Tab.get 0 s.hft.genP r + 1) % 65536
  { record := r, gen := g, slot := recSlot s.wbuf r g, field := false, rest := [], answer := [] }

theorem State.wiredRun_write {r : Nat} : ∃ c, (s.wiredRun r true).get HFT.STATUS_WGRANT = 1 ∧ (s.wiredRun r true).hft.wiredWait = none ∧
    (s.wiredRun r true).hft.commit = some c ∧ c.record = r ∧ c.field = false ∧ c.gen = (Tab.get 0 s.hft.genP r + 1) % 65536 ∧
    c.slot = recSlot s.wbuf r c.gen ∧ (s.wiredRun r true).mem = s.mem ∧
    ∀ f, f.apart HFT.STATUS_WGRANT = true → (s.wiredRun r true).get f = s.get f := by
  have hrun : s.wiredRun r true = ((s.set HFT.STATUS_WGRANT 1).updHft fun h => { h with wiredWait := none }).commitStart r s.wbuf false [] [] := rfl
  rw [hrun]
  refine ⟨wiredCommit s r, ?_, rfl, rfl, rfl, rfl, rfl, rfl, rfl, fun f hf => ?_⟩
  · exact State.get_set_fits s (f := HFT.STATUS_WGRANT) (v := 1) (by decide)
  · exact State.get_set_apart s hf 1

theorem State.wiredRun_read {r : Nat} (hr : r < 256) (hwait : s.hft.fieldWait = none) :
    (s.wiredRun r false).get HFT.STATUS_WGRANT = 1 ∧ (s.wiredRun r false).hft.wiredWait = none ∧
    (s.wiredRun r false).get HFT.WSTAT_PENDING = 0 ∧ (s.wiredRun r false).get HFT.WSTAT_RECORD = r ∧
    (s.hft.failed.contains r = false → (s.wiredRun r false).get HFT.WSTAT_RESULT = 0 ∧
      ∀ i, i < 62 → (s.wiredRun r false).get HFT.WBUF_DATA i = le32 (s.recData r) (4 * i) % 4294967296) ∧
    (s.hft.failed.contains r = true → (s.wiredRun r false).get HFT.WSTAT_RESULT = 4 ∧
      ∀ i, (s.wiredRun r false).get HFT.WBUF_DATA i = s.get HFT.WBUF_DATA i) ∧ (s.wiredRun r false).mem = s.mem := by
  generalize hb : ((s.set HFT.STATUS_WGRANT 1).updHft fun h => { h with wiredWait := none }) = b
  have hbg : ∀ f k, b.get f k = (s.set HFT.STATUS_WGRANT 1).get f k := fun f k => by rw [← hb]; rfl
  have hbh : b.hft = { s.hft with wiredWait := none } := by rw [← hb]; rfl
  have hbm : b.mem = s.mem := by rw [← hb]; rfl
  have hgrant : b.get HFT.STATUS_WGRANT = 1 := by rw [hbg, State.get_set_fits _ (by decide)]
  by_cases hfail : s.hft.failed.contains r = true
  · have hrun : s.wiredRun r false = (b.wiredDone r 4).fieldGo := by
      rw [← hb]
      exact if_pos hfail
    obtain ⟨hp, hres, hrec, hh, hm, hkeep⟩ := b.wiredDone_shows hr (result := 4) (by decide)
    rw [hrun, State.fieldGo_none _ (by rw [hh, hbh]; exact hwait)]
    refine ⟨?_, by rw [hh, hbh], hp, hrec, fun h => absurd (hfail.symm.trans h) (by decide), fun _ => ⟨hres, fun i => ?_⟩, by rw [hm, hbm]⟩
    · unfold State.wiredDone
      rw [State.get_set_apart _ (by decide), State.get_set_apart _ (by decide), State.get_set_apart _ (by decide),
        State.get_set_apart _ (by decide), hgrant]
    · rw [hkeep _ _ (wbuf_clear i), hbg, State.get_set_clear (wbuf_clear i) (by decide)]
  · generalize hd : s.recData r = d
    generalize hw : (b.forN 62 fun i t => t.set HFT.WBUF_DATA (le32 d (4 * i)) i) = w
    have hrun : s.wiredRun r false = (w.wiredDone r 0).fieldGo := by
      rw [← hw, ← hb, ← hd]
      exact if_neg hfail
    have hloop : (w.hft = b.hft ∧ w.mem = b.mem) ∧ w.get HFT.STATUS_WGRANT = 1 := by
      rw [← hw]
      exact State.forN_keep (fun t => (t.hft = b.hft ∧ t.mem = b.mem) ∧ t.get HFT.STATUS_WGRANT = 1) _ _ _ ⟨⟨rfl, rfl⟩, hgrant⟩
        fun i _ t ht => ⟨ht.1, by
          rw [State.get_set_above _ (by decide) (by decide)]
          exact ht.2⟩
    have hwords : ∀ i, i < 62 → w.get HFT.WBUF_DATA i = le32 d (4 * i) % 4294967296 := fun i hi => by
      rw [← hw]
      exact State.forN_once (fun _ => True) (fun t => t.get HFT.WBUF_DATA i = le32 d (4 * i) % 4294967296) _ hi b trivial
        (fun _ _ _ _ _ => trivial) (fun t _ => State.get_set_same _ _ _ _)
        (fun j _ hj t ht => (State.get_set_instance _ (by decide) (Ne.symm hj) _).trans ht)
    obtain ⟨⟨hwh, hwm⟩, hwg⟩ := hloop
    obtain ⟨hp, hres, hrec, hh, hm, hkeep⟩ := w.wiredDone_shows hr (result := 0) (by decide)
    rw [hrun, State.fieldGo_none _ (by rw [hh, hwh, hbh]; exact hwait)]
    refine ⟨?_, by rw [hh, hwh, hbh], hp, hrec, fun _ => ⟨hres, fun i hi => by rw [hkeep _ _ (wbuf_clear i), hwords i hi]⟩,
      fun h => absurd h hfail, by rw [hm, hwm, hbm]⟩
    unfold State.wiredDone
    rw [State.get_set_apart _ (by decide), State.get_set_apart _ (by decide), State.get_set_apart _ (by decide),
      State.get_set_apart _ (by decide), hwg]

end

/-! ### A wired GO -/

section
variable (s : State) {m : Master} {r : Nat} {nw w : Bool}

/-- The rights let the access by master `m` through (R319). -/
def State.wiredAllows (s : State) (m : Master) (r : Nat) (w : Bool) : Prop :=
  if w then bitOf (s.rights r) 5 = false ∧ (bitOf (s.rights r) 4 = false ∨ s.lcSealed = false)
  else bitOf (s.rights r) 6 = false ∨ m ≠ .hostLink

/-- The registers of WCMD as a GO writes them. -/
def State.wiredAsked (s : State) (r : Nat) (nw w : Bool) : State :=
  ((s.set HFT.WCMD_RECORD r).set HFT.WCMD_NOWAIT (b2n nw)).set HFT.WCMD_OP (if w then 2 else 1)

/-- A GO that is to be granted, or waits. -/
def State.wiredPends (s : State) (r : Nat) (nw w : Bool) : State :=
  ((s.wiredAsked r nw w).set HFT.WSTAT_PENDING 1).set HFT.WSTAT_RECORD r

/-- A wired GO while none is pending, by its cases. -/
theorem State.wiredGo_eq (hp : s.get HFT.WSTAT_PENDING = 0) : s.wiredGo m r nw w =
    if (if w then bitOf (s.rights r) 5 || (bitOf (s.rights r) 4 && s.lcSealed) else bitOf (s.rights r) 6 && m == .hostLink) then
      (s.wiredAsked r nw w).wiredDone r 2
    else if s.hft.commit.isSome then
      if nw then (s.wiredAsked r nw w).wiredDone r 1
      else (s.wiredPends r nw w).updHft fun h => { h with wiredWait := some (r, w) }
    else if s.on HFT.STATE_GUARD then (s.wiredPends r nw w).updHft fun h => { h with wiredWait := some (r, w) }
    else (s.wiredPends r nw w).wiredRun r w := by
  unfold State.wiredGo
  extract_lets rt denied s1 s2
  exact if_neg (by simp [State.on, hp])

theorem State.wiredAllows_iff : s.wiredAllows m r w ↔
    (if w then bitOf (s.rights r) 5 || (bitOf (s.rights r) 4 && s.lcSealed) else bitOf (s.rights r) 6 && m == .hostLink) = false := by
  cases w
  · cases h6 : bitOf (s.rights r) 6 <;> simp [State.wiredAllows, h6]
  · cases h4 : bitOf (s.rights r) 4 <;> simp [State.wiredAllows, h4]

theorem State.wiredGo_denied (hp : s.get HFT.WSTAT_PENDING = 0) (h : ¬s.wiredAllows m r w) :
    s.wiredGo m r nw w = (s.wiredAsked r nw w).wiredDone r 2 := by
  rw [s.wiredGo_eq hp]
  exact if_pos (by rw [s.wiredAllows_iff, Bool.not_eq_false] at h; exact h)

theorem State.wiredGo_granted (hp : s.get HFT.WSTAT_PENDING = 0) (h : s.wiredAllows m r w) (hc : s.hft.commit = none)
    (hg : s.get HFT.STATE_GUARD = 0) : s.wiredGo m r nw w = (s.wiredPends r nw w).wiredRun r w := by
  rw [s.wiredGo_eq hp, if_neg (by rw [s.wiredAllows_iff.1 h]; decide), if_neg (by simp [hc]), if_neg (by simp [State.on, hg])]

theorem State.wiredGo_busy (hp : s.get HFT.WSTAT_PENDING = 0) (h : s.wiredAllows m r w) (hc : s.hft.commit ≠ none) :
    s.wiredGo m r true w = (s.wiredAsked r true w).wiredDone r 1 := by
  rw [s.wiredGo_eq hp, if_neg (by rw [s.wiredAllows_iff.1 h]; decide), if_pos (Option.isSome_iff_ne_none.2 hc), if_pos rfl]

theorem State.wiredGo_waits (hp : s.get HFT.WSTAT_PENDING = 0) (h : s.wiredAllows m r w)
    (hb : s.hft.commit ≠ none ∧ nw = false ∨ s.hft.commit = none ∧ s.get HFT.STATE_GUARD ≠ 0) :
    s.wiredGo m r nw w = (s.wiredPends r nw w).updHft fun h => { h with wiredWait := some (r, w) } := by
  rw [s.wiredGo_eq hp, if_neg (by rw [s.wiredAllows_iff.1 h]; decide)]
  rcases hb with ⟨hc, rfl⟩ | ⟨hc, hg⟩
  · rw [if_pos (Option.isSome_iff_ne_none.2 hc), if_neg (by decide)]
  · rw [if_neg (by simp [hc]), if_pos (by simpa [State.on] using hg)]

theorem State.wiredAsked_shows : (s.wiredAsked r nw w).hft = s.hft ∧ (s.wiredAsked r nw w).mem = s.mem ∧
    ∀ f k, f.clear k wiredFlds 0 → (s.wiredAsked r nw w).get f k = s.get f k :=
  ⟨rfl, rfl, fun f k h => by
    unfold State.wiredAsked
    rw [State.get_set_clear h (by decide), State.get_set_clear h (by decide), State.get_set_clear h (by decide)]⟩

theorem State.wiredPends_shows (hr : r < 256) : (s.wiredPends r nw w).hft = s.hft ∧ (s.wiredPends r nw w).mem = s.mem ∧
    (s.wiredPends r nw w).get HFT.WSTAT_PENDING = 1 ∧ (s.wiredPends r nw w).get HFT.WSTAT_RECORD = r ∧
    ∀ f k, f.clear k wiredFlds 0 → (s.wiredPends r nw w).get f k = s.get f k := by
  have hfit : r < 2 ^ HFT.WSTAT_RECORD.width := hr
  unfold State.wiredPends
  refine ⟨rfl, rfl, ?_, State.get_set_fits _ hfit, fun f k h => ?_⟩
  · rw [State.get_set_apart _ (by decide), State.get_set_fits _ (by decide)]
  · rw [State.get_set_clear h (by decide), State.get_set_clear h (by decide), s.wiredAsked_shows.2.2 f k h]

theorem exec_wiredRead (hr : r < 256) : exec (.wiredRead m r nw) s = .next (s.wiredGo m r nw false) := by
  have hexec : exec (.wiredRead m r nw) s = execWiredRead m r nw s := rfl
  rw [hexec, execWiredRead, Nat.mod_eq_of_lt hr]

theorem exec_wiredWrite (hr : r < 256) : exec (.wiredWrite m r nw) s = .next (s.wiredGo m r nw true) := by
  have hexec : exec (.wiredWrite m r nw) s = execWiredWrite m r nw s := rfl
  rw [hexec, execWiredWrite, Nat.mod_eq_of_lt hr]

/-- DATA of a record, which no register of a wired operation moves. -/
theorem State.recData_congr {t : State} (hh : t.hft = s.hft) (hlc : t.lc = s.lc) (r : Nat) : t.recData r = s.recData r := by
  unfold State.recData State.recPrimary
  rw [hh, hlc]

theorem exec_wiredRead_granted (hr : r < 256) (hp : s.get HFT.WSTAT_PENDING = 0) (hc : s.hft.commit = none)
    (hg : s.get HFT.STATE_GUARD = 0) (ha : bitOf (s.rights r) 6 = false ∨ m ≠ .hostLink) (hwait : s.hft.fieldWait = none) :
    ∃ t, exec (.wiredRead m r nw) s = .next t ∧ t.get HFT.WSTAT_PENDING = 0 ∧ t.get HFT.WSTAT_RECORD = r ∧ t.get HFT.STATUS_WGRANT = 1 ∧
      (s.hft.failed.contains r = false → t.get HFT.WSTAT_RESULT = 0 ∧
        ∀ i, i < 62 → t.get HFT.WBUF_DATA i = le32 (s.recData r) (4 * i) % 4294967296) ∧
      (s.hft.failed.contains r = true → t.get HFT.WSTAT_RESULT = 4 ∧
        ∀ i, i < 62 → t.get HFT.WBUF_DATA i = s.get HFT.WBUF_DATA i) ∧ t.mem = s.mem := by
  obtain ⟨hh, hm, -, -, hkeep⟩ := s.wiredPends_shows (nw := nw) (w := false) hr
  refine ⟨_, exec_wiredRead s hr, ?_⟩
  rw [s.wiredGo_granted hp (w := false) ha hc hg]
  have hlc : (s.wiredPends r nw false).lc = s.lc := hkeep _ _ (Fld.clear_of_apart (by decide) _ _)
  have hdata := s.recData_congr hh hlc r
  generalize s.wiredPends r nw false = b at *
  obtain ⟨hgrant, -, hpend, hrec, hok, hbad, hmem⟩ := b.wiredRun_read hr (by rw [hh]; exact hwait)
  rw [hh, hdata] at hok
  rw [hh] at hbad
  exact ⟨hpend, hrec, hgrant, hok, fun h => ⟨(hbad h).1, fun i _ => by rw [(hbad h).2 i, hkeep _ _ (wbuf_clear i)]⟩, by rw [hmem, hm]⟩

theorem exec_wiredWrite_granted (hr : r < 256) (hp : s.get HFT.WSTAT_PENDING = 0) (hc : s.hft.commit = none)
    (hg : s.get HFT.STATE_GUARD = 0) (h5 : bitOf (s.rights r) 5 = false) (h4 : bitOf (s.rights r) 4 = false ∨ s.lcSealed = false) :
    ∃ t c, exec (.wiredWrite m r nw) s = .next t ∧ t.get HFT.WSTAT_PENDING = 1 ∧ t.get HFT.STATUS_WGRANT = 1 ∧
      t.hft.commit = some c ∧ c.record = r ∧ c.field = false ∧ c.gen = (Tab.get 0 s.hft.genP r + 1) % 65536 ∧
      c.slot = recSlot s.wbuf r c.gen ∧ t.mem = s.mem := by
  obtain ⟨hh, hm, hpend, -, hkeep⟩ := s.wiredPends_shows (nw := nw) (w := true) hr
  have hbuf : (s.wiredPends r nw true).wbuf = s.wbuf := s.wbuf_congr fun i => hkeep _ _ (wbuf_clear i)
  obtain ⟨c, hgrant, -, hcom, hrec, hfield, hgen, hslot, hmem, hother⟩ := (s.wiredPends r nw true).wiredRun_write (r := r)
  refine ⟨_, c, exec_wiredWrite s hr, ?_⟩
  rw [s.wiredGo_granted hp (w := true) ⟨h5, h4⟩ hc hg]
  exact ⟨by rw [hother _ (by decide), hpend], hgrant, hcom, hrec, hfield, by rw [hgen, hh], by rw [hslot, hbuf], by rw [hmem, hm]⟩

/-- A wired access that the rights deny. -/
theorem State.wiredGo_denied_shows (hr : r < 256) (hp : s.get HFT.WSTAT_PENDING = 0) (h : ¬s.wiredAllows m r w) :
    (s.wiredGo m r nw w).get HFT.WSTAT_RESULT = 2 ∧ (s.wiredGo m r nw w).get HFT.WSTAT_PENDING = 0 ∧ (s.wiredGo m r nw w).hft = s.hft ∧
    (s.wiredGo m r nw w).mem = s.mem ∧ ∀ i, i < 62 → (s.wiredGo m r nw w).get HFT.WBUF_DATA i = s.get HFT.WBUF_DATA i := by
  rw [s.wiredGo_denied hp h]
  obtain ⟨hah, ham, hag⟩ := s.wiredAsked_shows (r := r) (nw := nw) (w := w)
  obtain ⟨hpend, hres, -, hh, hm, hkeep⟩ := (s.wiredAsked r nw w).wiredDone_shows hr (result := 2) (by decide)
  exact ⟨hres, hpend, hh.trans hah, hm.trans ham, fun i _ => (hkeep _ _ (wbuf_clear i)).trans (hag _ _ (wbuf_clear i))⟩

theorem State.wiredGo_pending (hp : s.get HFT.WSTAT_PENDING ≠ 0) : s.wiredGo m r nw w = s := by
  unfold State.wiredGo
  extract_lets rt denied s1 s2
  exact if_pos (by simpa [State.on] using hp)

theorem State.wiredGo_busy_shows (hr : r < 256) (hp : s.get HFT.WSTAT_PENDING = 0) (h : s.wiredAllows m r w) (hc : s.hft.commit ≠ none) :
    (s.wiredGo m r true w).get HFT.WSTAT_RESULT = 1 ∧ (s.wiredGo m r true w).get HFT.WSTAT_PENDING = 0 ∧
    (s.wiredGo m r true w).hft = s.hft ∧ (s.wiredGo m r true w).mem = s.mem := by
  rw [s.wiredGo_busy hp h hc]
  obtain ⟨hah, ham, -⟩ := s.wiredAsked_shows (r := r) (nw := true) (w := w)
  obtain ⟨hpend, hres, -, hh, hm, -⟩ := (s.wiredAsked r true w).wiredDone_shows hr (result := 1) (by decide)
  exact ⟨hres, hpend, hh.trans hah, hm.trans ham⟩

theorem State.wiredGo_waits_shows (hr : r < 256) (hp : s.get HFT.WSTAT_PENDING = 0) (h : s.wiredAllows m r w)
    (hb : s.hft.commit ≠ none ∧ nw = false ∨ s.hft.commit = none ∧ s.get HFT.STATE_GUARD ≠ 0) :
    (s.wiredGo m r nw w).get HFT.WSTAT_PENDING = 1 ∧ (s.wiredGo m r nw w).get HFT.WSTAT_RECORD = r ∧
    (s.wiredGo m r nw w).hft.wiredWait = some (r, w) ∧ (s.wiredGo m r nw w).hft.commit = s.hft.commit ∧
    (s.wiredGo m r nw w).mem = s.mem := by
  rw [s.wiredGo_waits hp h hb]
  obtain ⟨hh, hm, hpend, hrec, -⟩ := s.wiredPends_shows (nw := nw) (w := w) hr
  generalize s.wiredPends r nw w = u at *
  exact ⟨hpend, hrec, rfl, by rw [← hh]; rfl, hm⟩

/-! ### WGRANT -/

theorem exec_wgrant_granted (h : s.hft.wiredWait = some (r, w)) (hc : s.hft.commit = none) (hg : s.get HFT.STATE_GUARD = 0) :
    exec .wgrant s = .next (s.wiredRun r w) := by
  have hexec : exec .wgrant s = execWgrant s := rfl
  rw [hexec, execWgrant, h]
  exact if_neg (by simp [hc, State.on, hg])

theorem exec_wgrant_none (h : s.hft.wiredWait = none ∨ s.hft.commit ≠ none ∨ s.get HFT.STATE_GUARD ≠ 0) : exec .wgrant s = .next s := by
  have hexec : exec .wgrant s = execWgrant s := rfl
  rw [hexec, execWgrant]
  cases hw : s.hft.wiredWait with
  | none => rfl
  | some p =>
    rw [hw] at h
    rcases h with h | h | h
    · cases h
    · exact if_pos (by simp [Option.isSome_iff_ne_none.2 h])
    · exact if_pos (by simp [State.on, h])

end

end Sys2Proof.Machine
end

section
/-! PROOFS. R324, R331: APDUs that the tag passes through, and their answers. -/

namespace Sys2Proof.Machine

open Sys2Proof

/-! ### Bytes and words -/

theorem toLe_le32 {b : List Nat} (hb : ∀ x ∈ b, x < 256) (i : Nat) :
    toLe 4 (le32 b i % 4294967296) = [byteAt b i, byteAt b (i + 1), byteAt b (i + 2), byteAt b (i + 3)] := by
  have hbyte : ∀ j, byteAt b j < 256 := fun j => by
    unfold byteAt
    rw [List.getD_eq_getElem?_getD]
    cases hj : b[j]? with
    | none => decide
    | some x => exact hb x (List.mem_of_getElem? hj)
  have h0 := hbyte i
  have h1 := hbyte (i + 1)
  have h2 := hbyte (i + 2)
  have h3 := hbyte (i + 3)
  have hword : le32 b i = byteAt b i + 256 * byteAt b (i + 1) + 65536 * (byteAt b (i + 2) + 256 * byteAt b (i + 3)) := rfl
  rw [hword]
  generalize byteAt b i = p, byteAt b (i + 1) = q, byteAt b (i + 2) = r, byteAt b (i + 3) = t at *
  rw [Nat.mod_eq_of_lt (by omega)]
  simp only [toLe_succ, List.cons.injEq]
  refine ⟨by omega, by omega, by omega, by omega, rfl⟩

/-- The words of a byte list spell its bytes. -/
theorem words_bytes {b : List Nat} (hb : ∀ x ∈ b, x < 256) (k : Nat) :
    ((List.range k).flatMap fun i => toLe 4 (le32 b (4 * i) % 4294967296)) = (List.range (4 * k)).map (byteAt b) := by
  induction k with
  | zero => rfl
  | succ k ih =>
    have hr : 4 * (k + 1) = 4 * k + 1 + 1 + 1 + 1 := by omega
    rw [List.range_succ, List.flatMap_append, ih, hr]
    simp [List.range_succ, toLe_le32 hb]

theorem bytes_range (b : List Nat) : (List.range b.length).map (byteAt b) = b := by
  refine List.ext_getElem (by simp) fun i h1 h2 => ?_
  simp [byteAt, h2]

section
variable (s : State)

theorem State.pbuf_length (n : Nat) : (s.pbuf n).length = n := by
  have hlen : ∀ k, ((List.range k).flatMap fun i => toLe 4 (s.get HFT.PBUF_DATA i)).length = 4 * k := fun k => by
    simp [List.length_flatMap, toLe_length, Nat.mul_comm]
  rw [State.pbuf, List.length_take, hlen]
  omega

theorem State.pbuf_byte {n x : Nat} (h : x ∈ s.pbuf n) : x < 256 := by
  obtain ⟨i, -, hx⟩ := List.mem_flatMap.1 (List.mem_of_mem_take h)
  obtain ⟨j, -, rfl⟩ := List.mem_map.1 hx
  exact Nat.mod_lt _ (by decide)

/-- PBUF whose words spell a byte list reads as it. -/
theorem State.pbuf_eq {b : List Nat} (hb : ∀ x ∈ b, x < 256)
    (h : ∀ i, i < (b.length + 3) / 4 → s.get HFT.PBUF_DATA i = le32 b (4 * i) % 4294967296) : s.pbuf b.length = b := by
  have hwords : ((List.range ((b.length + 3) / 4)).flatMap fun i => toLe 4 (s.get HFT.PBUF_DATA i)) =
      (List.range (4 * ((b.length + 3) / 4))).map (byteAt b) := by
    rw [← words_bytes hb]
    refine List.flatMap_congr fun i hi => ?_
    rw [h i (List.mem_range.1 hi)]
  rw [State.pbuf, hwords, ← List.map_take, List.take_range, Nat.min_eq_left (by omega), bytes_range]

/-! ### An APDU passed through -/

/-- A command of the tag's own, by CLA and INS (R323). -/
def tagKnows (a : Apdu) : Prop :=
  a.cla = 0 ∧ (a.ins = 0xA4 ∨ a.ins = 0xB0 ∨ a.ins = 0xD6) ∨
    a.cla = 0x90 ∧ a.ins ∈ [0x10, 0x20, 0x30, 0x31, 0x40, 0x42, 0x44, 0x46]

theorem State.apduRun_pass {a : Apdu} (h : ¬tagKnows a) : s.apduRun a = s.cPass a := by
  have hne : ∀ c i, (a.cla = c ∧ a.ins = i → tagKnows a) → ¬((a.cla == c && a.ins == i) = true) := fun c i hk hb => by
    simp only [Bool.and_eq_true, beq_iff_eq] at hb
    exact h (hk hb)
  unfold State.apduRun
  rw [if_neg (hne _ _ fun hk => .inl (by simp [hk])), if_neg (hne _ _ fun hk => .inl (by simp [hk])),
    if_neg (hne _ _ fun hk => .inl (by simp [hk])), if_neg (hne _ _ fun hk => .inr (by simp [hk])),
    if_neg (hne _ _ fun hk => .inr (by simp [hk])), if_neg (hne _ _ fun hk => .inr (by simp [hk])),
    if_neg (hne _ _ fun hk => .inr (by simp [hk])), if_neg (hne _ _ fun hk => .inr (by simp [hk])),
    if_neg (hne _ _ fun hk => .inr (by simp [hk])), if_neg (hne _ _ fun hk => .inr (by simp [hk])),
    if_neg (hne _ _ fun hk => .inr (by simp [hk]))]

theorem exec_tagPassthroughApdu {a : Apdu} (h : s.tagFree) (hd : a.data.length ≤ 255) (hl : a.le ≤ 256) (hk : ¬tagKnows a) :
    exec (.tagPassthroughApdu a) s = .next (s.apduStart.cPass a) := by
  have hexec : exec (.tagPassthroughApdu a) s = s.apduIn a := rfl
  rw [hexec, s.apduIn_free h hd hl, State.apduRun_pass _ hk]

/-- The instructions that are passed through are none of the tag's own. -/
theorem not_tagKnows_of_range {a : Apdu} (hcla : a.cla = 0x90) (h1 : 0x80 ≤ a.ins) (h2 : a.ins ≤ 0xBF) : ¬tagKnows a := by
  rintro (⟨h, -⟩ | ⟨-, h⟩)
  · omega
  · simp only [List.mem_cons, List.not_mem_nil, or_false] at h
    omega

theorem apduBytes_length {a : Apdu} (h : a.data.length ≤ 255) : (apduBytes a).length ≤ 261 := by
  unfold apduBytes
  split <;> split <;> simp <;> omega

theorem apduBytes_byte {a : Apdu} (hcla : a.cla < 256) (hins : a.ins < 256) (h1 : a.p1 < 256) (h2 : a.p2 < 256) (hlen : a.data.length ≤ 255)
    (hd : ∀ x ∈ a.data, x < 256) : ∀ x ∈ apduBytes a, x < 256 := by
  intro x hx
  unfold apduBytes at hx
  rcases List.mem_append.1 hx with hx | hx
  · rcases List.mem_append.1 hx with hx | hx
    · simp only [List.mem_cons, List.not_mem_nil, or_false] at hx
      omega
    · split at hx
      · cases hx
      · rcases List.mem_cons.1 hx with rfl | hx
        · omega
        · exact hd x hx
  · split at hx
    · cases hx
    · rcases List.mem_singleton.1 hx with rfl
      exact Nat.mod_lt _ (by decide)

/-- Bytes put into PBUF, which leave every register before it. -/
theorem State.pbufPut_shows (b : List Nat) : (s.pbufPut b).hft = s.hft ∧ (s.pbufPut b).mem = s.mem ∧
    (∀ i, i < (b.length + 3) / 4 → (s.pbufPut b).get HFT.PBUF_DATA i = le32 b (4 * i) % 4294967296) ∧
    ∀ f, f.below HFT.PBUF_DATA = true → 0 < f.count → (s.pbufPut b).get f = s.get f := by
  have hside : ((s.pbufPut b).hft = s.hft ∧ (s.pbufPut b).mem = s.mem) ∧
      ∀ f, f.below HFT.PBUF_DATA = true → 0 < f.count → (s.pbufPut b).get f = s.get f := by
    unfold State.pbufPut
    exact State.forN_keep (fun t => (t.hft = s.hft ∧ t.mem = s.mem) ∧
      ∀ f, f.below HFT.PBUF_DATA = true → 0 < f.count → t.get f = s.get f)
      (fun i t => t.set HFT.PBUF_DATA (le32 b (4 * i)) i) _ s ⟨⟨rfl, rfl⟩, fun _ _ _ => rfl⟩ fun i _ t ht => ⟨ht.1, fun f hf hc => (State.get_set_above _ hf hc _).trans (ht.2 f hf hc)⟩
  obtain ⟨⟨hh, hm⟩, hg⟩ := hside
  refine ⟨hh, hm, fun i hi => ?_, hg⟩
  exact State.forN_once (fun _ => True) (fun t => t.get HFT.PBUF_DATA i = le32 b (4 * i) % 4294967296) _ hi s trivial
    (fun _ _ _ _ _ => trivial) (fun t _ => State.get_set_same _ _ _ _)
    (fun j _ hj t ht => (State.get_set_instance _ (by decide) (Ne.symm hj) _).trans ht)

/-- A register of the tag before PBUF passes the tail of an APDU handed to the core. -/
theorem State.pbuf_above (t : State) {g : Fld} (hg : g.below HFT.PBUF_DATA = true) (hc : 0 < g.count) (v i : Nat) :
    (t.set g v).get HFT.PBUF_DATA i = t.get HFT.PBUF_DATA i := State.get_set_below _ hg hc _

/-- The gates of a passed-through APDU with a target (R331). -/
theorem State.cPass_core {a : Apdu} (hcla : a.cla = 0x90) (h1 : 0x80 ≤ a.ins) (h2 : a.ins ≤ 0xBF) (hpass : s.get HFT.CTRL_PASS = 1)
    (hdom : s.bit PWR.STATE_DOM 3 = true) : s.cPass a =
      ((((s.pbufPut (apduBytes a)).set HFT.PSTAT_CLEN (apduBytes a).length).set HFT.PSTAT_PENDING 1).set HFT.STATUS_PASS_REQ 1).updHft
        fun h => { h with passSeq := false } := by
  unfold State.cPass
  extract_lets b n
  rw [if_neg (by simp [hcla]), if_neg (by simp; omega), if_neg (by simp [hpass]), if_neg (by simp [hdom]), if_pos (by simp [hpass])]

theorem State.cPass_seq {a : Apdu} (hcla : a.cla = 0x90) (h1 : 0x80 ≤ a.ins) (h2 : a.ins ≤ 0xBF) (hpass : s.get HFT.CTRL_PASS = 2)
    (hdom : s.bit PWR.STATE_DOM 3 = true) (hheld : s.get LSC.HF_STATE_HFT_HELD ≠ 0) : s.cPass a =
      (((s.set HFT.PSTAT_CLEN (apduBytes a).length).set HFT.PSTAT_PENDING 1).updHft fun h => { h with passSeq := true }).hfDeliver
        (s.get LSC.HF_STATE_HFT_OWNER) (65536 * (8 * (apduBytes a).length) + 17) (unpackLsb (apduBytes a)) := by
  unfold State.cPass
  extract_lets b n
  rw [if_neg (by simp [hcla]), if_neg (by simp; omega), if_neg (by simp [hpass]), if_neg (by simp [hdom]), if_neg (by simp [hpass]),
    if_neg (by simpa [State.on] using hheld)]

theorem exec_passthrough_core {a : Apdu} (h : s.tagFree) (hcla : a.cla = 0x90) (h1 : 0x80 ≤ a.ins) (h2 : a.ins ≤ 0xBF) (hp1 : a.p1 < 256)
    (hp2 : a.p2 < 256) (hlen : a.data.length ≤ 255) (hle : a.le ≤ 256) (hbytes : ∀ x ∈ a.data, x < 256) (hpass : s.get HFT.CTRL_PASS = 1)
    (hdom : s.bit PWR.STATE_DOM 3 = true) :
    ∃ t, exec (.tagPassthroughApdu a) s = .next t ∧ t.get HFT.PSTAT_PENDING = 1 ∧ t.get HFT.PSTAT_CLEN = (apduBytes a).length ∧
      t.get HFT.STATUS_PASS_REQ = 1 ∧ t.hft.passSeq = false ∧ t.pbuf (apduBytes a).length = apduBytes a ∧ t.hft.reply = s.hft.reply ∧
      t.mem = s.mem := by
  refine ⟨_, exec_tagPassthroughApdu s h hlen hle (not_tagKnows_of_range hcla h1 h2), ?_⟩
  have hst : s.apduStart.get HFT.CTRL_PASS = 1 := (s.get_apduStart (by decide) _).trans hpass
  have hsd : s.apduStart.bit PWR.STATE_DOM 3 = true := by rw [State.bit, s.get_apduStart (by decide)]; exact hdom
  have hh := s.apduStart_hft
  have hm := s.apduStart_mem
  generalize s.apduStart = u at *
  rw [u.cPass_core hcla h1 h2 hst hsd]
  have hb := apduBytes_byte (a := a) (by omega) (by omega) hp1 hp2 hlen hbytes
  have hclen : (apduBytes a).length < 2 ^ HFT.PSTAT_CLEN.width := lt_of_le_of_lt (apduBytes_length hlen) (by decide)
  generalize apduBytes a = b at *
  obtain ⟨hph, hpm, hpw, -⟩ := u.pbufPut_shows b
  generalize u.pbufPut b = p at *
  have hkept : ∀ (t : State) (g : Hft → Hft) (f : Fld) (k : Nat), (t.updHft g).get f k = t.get f k := fun _ _ _ _ => rfl
  refine ⟨?_, ?_, ?_, rfl, ?_, ?_, ?_⟩
  · rw [hkept, State.get_set_apart _ (by decide), State.get_set_fits _ (by decide)]
  · rw [hkept, State.get_set_apart _ (by decide), State.get_set_apart _ (by decide), State.get_set_fits _ hclen]
  · rw [hkept, State.get_set_fits _ (by decide)]
  · refine State.pbuf_eq _ hb fun i hi => ?_
    rw [hkept, State.pbuf_above _ (by decide) (by decide), State.pbuf_above _ (by decide) (by decide),
      State.pbuf_above _ (by decide) (by decide), hpw i hi]
  · have heq : ∀ (t : State), (t.updHft fun h => { h with passSeq := false }).hft.reply = t.hft.reply := fun _ => rfl
    rw [heq, State.set_hft, State.set_hft, State.set_hft, hph, hh]
    rfl
  · have heq : ∀ (t : State), (t.updHft fun h => { h with passSeq := false }).mem = t.mem := fun _ => rfl
    rw [heq, State.set_mem, State.set_mem, State.set_mem, hpm, hm]

theorem State.hfDeliver_hft (n rxstat : Nat) (l : List Bool) : (s.hfDeliver n rxstat l).hft = s.hft := by
  unfold State.hfDeliver
  extract_lets k s1 q
  have h1 : s1.hft = s.hft := by
    obtain ⟨x, hx⟩ := s.wrBytes_form (seqBase n + (s.seqAt n).rxb) (packLsb k l)
    simp only [s1, hx, State.freshPar]
    split <;> rfl
  rw [State.bump_hft]
  exact h1

theorem exec_passthrough_seq {a : Apdu} {n : Nat} (h : s.tagFree) (hcla : a.cla = 0x90) (h1 : 0x80 ≤ a.ins) (h2 : a.ins ≤ 0xBF)
    (hlen : a.data.length ≤ 255) (hle : a.le ≤ 256) (hpass : s.get HFT.CTRL_PASS = 2) (hdom : s.bit PWR.STATE_DOM 3 = true)
    (hheld : s.get LSC.HF_STATE_HFT_HELD ≠ 0) (hn : s.get LSC.HF_STATE_HFT_OWNER = n) (hn16 : n < 16) :
    ∃ t, exec (.tagPassthroughApdu a) s = .next t ∧ t.get HFT.PSTAT_PENDING = 1 ∧ t.hft.passSeq = true ∧
      (t.seqAt n).rxstat = 65536 * (8 * (apduBytes a).length) + 17 ∧ t.bit LSC.EVP_EVP evRXD n = true ∧ t.hft.reply = s.hft.reply := by
  refine ⟨_, exec_tagPassthroughApdu s h hlen hle (not_tagKnows_of_range hcla h1 h2), ?_⟩
  have hst : s.apduStart.get HFT.CTRL_PASS = 2 := (s.get_apduStart (by decide) _).trans hpass
  have hsd : s.apduStart.bit PWR.STATE_DOM 3 = true := by rw [State.bit, s.get_apduStart (by decide)]; exact hdom
  have hsh : s.apduStart.get LSC.HF_STATE_HFT_HELD ≠ 0 := by rw [s.get_apduStart (by decide)]; exact hheld
  have hso : s.apduStart.get LSC.HF_STATE_HFT_OWNER = n := (s.get_apduStart (by decide) _).trans hn
  have hh := s.apduStart_hft
  generalize s.apduStart = u at *
  rw [u.cPass_seq hcla h1 h2 hst hsd hsh, hso]
  generalize hb : ((u.set HFT.PSTAT_CLEN (apduBytes a).length).set HFT.PSTAT_PENDING 1).updHft (fun h => { h with passSeq := true }) = b
  have hbp : b.get HFT.PSTAT_PENDING = 1 := by
    rw [← hb]
    exact State.get_set_fits (u.set HFT.PSTAT_CLEN (apduBytes a).length) (f := HFT.PSTAT_PENDING) (v := 1) (by decide)
  have hbh : b.hft = { u.hft with passSeq := true } := by rw [← hb]; rfl
  obtain ⟨hevp, hrx, -, hget⟩ := b.hfDeliver_shows hn16 (65536 * (8 * (apduBytes a).length) + 17) (unpackLsb (apduBytes a))
  have hdh := b.hfDeliver_hft n (65536 * (8 * (apduBytes a).length) + 17) (unpackLsb (apduBytes a))
  exact ⟨by rw [hget _ (by decide) (by decide) (by decide), hbp], by rw [hdh, hbh], hrx, hevp, by rw [hdh, hbh, hh]; rfl⟩

/-- The gates of an APDU that the tag answers itself (R324, R331). -/
theorem exec_passthrough_refused {a : Apdu} {sw : Nat} (h : s.tagFree) (hlen : a.data.length ≤ 255) (hle : a.le ≤ 256)
    (hsw : a.cla ≠ 0 ∧ a.cla ≠ 0x90 ∧ sw = 0x6E00 ∨ a.cla = 0 ∧ a.ins ≠ 0xA4 ∧ a.ins ≠ 0xB0 ∧ a.ins ≠ 0xD6 ∧ sw = 0x6D00 ∨
     a.cla = 0x90 ∧ (0xBF < a.ins ∨ a.ins < 0x80 ∧ a.ins ∉ [0x10, 0x20, 0x30, 0x31, 0x40, 0x42, 0x44, 0x46]) ∧ sw = 0x6D00 ∨
     a.cla = 0x90 ∧ 0x80 ≤ a.ins ∧ a.ins ≤ 0xBF ∧ ((s.get HFT.CTRL_PASS = 0 ∨ s.get HFT.CTRL_PASS = 3) ∧ sw = 0x6D00 ∨
       (s.get HFT.CTRL_PASS = 1 ∨ s.get HFT.CTRL_PASS = 2) ∧ s.bit PWR.STATE_DOM 3 = false ∧ sw = 0x6F00 ∨
       s.get HFT.CTRL_PASS = 2 ∧ s.get LSC.HF_STATE_HFT_HELD = 0 ∧ sw = 0x6F00)) :
    exec (.tagPassthroughApdu a) s = .next (s.apduStart.tagReply (toBe 2 sw)) := by
  have hpass : s.apduStart.get HFT.CTRL_PASS = s.get HFT.CTRL_PASS := s.get_apduStart (by decide) _
  have hdom : s.apduStart.bit PWR.STATE_DOM 3 = s.bit PWR.STATE_DOM 3 := by rw [State.bit, State.bit, s.get_apduStart (by decide)]
  have hheld : s.apduStart.get LSC.HF_STATE_HFT_HELD = s.get LSC.HF_STATE_HFT_HELD := s.get_apduStart (by decide) _
  have hknown : ¬tagKnows a := by
    rcases hsw with ⟨h0, h9, -⟩ | ⟨h0, hA, hB, hD, -⟩ | ⟨h9, hi, -⟩ | ⟨h9, h1, h2, -⟩
    · rintro (⟨hc, -⟩ | ⟨hc, -⟩)
      · exact h0 hc
      · exact h9 hc
    · rintro (⟨-, hi | hi | hi⟩ | ⟨hc, -⟩)
      · exact hA hi
      · exact hB hi
      · exact hD hi
      · omega
    · rintro (⟨hc, -⟩ | ⟨-, hk⟩)
      · omega
      · rcases hi with hi | ⟨-, hi⟩
        · simp only [List.mem_cons, List.not_mem_nil, or_false] at hk
          omega
        · exact hi hk
    · exact not_tagKnows_of_range h9 h1 h2
  have hplain : s.apduStart.tagAnswer [] sw = s.apduStart.tagReply (toBe 2 sw) :=
    State.tagAnswer_plain _ (by rw [s.apduStart_hft]; rfl) _ _
  rw [exec_tagPassthroughApdu s h hlen hle hknown, ← hplain]
  refine congrArg Host.Outcome.next ?_
  unfold State.cPass
  extract_lets b n
  rcases hsw with ⟨h0, h9, rfl⟩ | ⟨h0, -, -, -, rfl⟩ | ⟨h9, hi, rfl⟩ | ⟨h9, h1, h2, hq⟩
  · rw [if_pos (by simpa using h9), if_neg (by simpa using h0)]
  · rw [if_pos (by simp [h0]), if_pos (by simp [h0])]
  · rw [if_neg (by simp [h9])]
    refine if_pos ?_
    rcases hi with hi | ⟨hi, -⟩ <;> simp [hi]
  · rw [if_neg (by simp [h9]), if_neg (by simp; omega), hpass, hdom]
    rcases hq with ⟨hp, rfl⟩ | ⟨hp, hoff, rfl⟩ | ⟨hp, hfree, rfl⟩
    · exact if_pos (by rcases hp with hp | hp <;> simp [hp])
    · rw [if_neg (by rcases hp with hp | hp <;> simp [hp])]
      exact if_pos (by simp [hoff])
    · rw [if_neg (by simp [hp])]
      by_cases hd : s.bit PWR.STATE_DOM 3 = true
      · rw [if_neg (by simp [hd]), if_neg (by simp [hp])]
        exact if_pos (by simp [State.on, hheld, hfree])
      · exact if_pos (by simpa using hd)

/-! ### The core's answer -/

theorem State.rApdu_congr {t : State} (hm : t.hft.macCtr = s.hft.macCtr) (hk : t.hft.sk = s.hft.sk) (hst : t.tgSt = s.tgSt)
    (data : List Nat) (sw : Nat) : t.rApdu data sw = s.rApdu data sw := by
  unfold State.rApdu
  rw [hm, hk, hst]

theorem exec_pcmdRespond {m : Master} {n : Nat} (hp : s.get HFT.PSTAT_PENDING ≠ 0) (hq : s.hft.passSeq = false) (h2 : 2 ≤ n) (hn : n ≤ 258) :
    exec (.pcmdRespond m n) s = .next (((s.set HFT.PCMD_RLEN n).set HFT.PSTAT_PENDING 0).tagReply
      (s.rApdu ((s.pbuf n).take (n - 2)) (ofBe ((s.pbuf n).drop (n - 2))))) := by
  have hexec : exec (.pcmdRespond m n) s = execPcmdRespond m n s := rfl
  rw [hexec]
  unfold execPcmdRespond
  extract_lets s1
  rw [if_pos (by simp [State.passCore, State.on, hp, hq, h2, hn])]
  refine congrArg Host.Outcome.next ?_
  unfold State.passAnswer
  rw [s.pbuf_length]
  have hr : s1.passClear.rApdu ((s.pbuf n).take (n - 2)) (ofBe ((s.pbuf n).drop (n - 2))) =
      s.rApdu ((s.pbuf n).take (n - 2)) (ofBe ((s.pbuf n).drop (n - 2))) := by
    refine s.rApdu_congr (t := s1.passClear) rfl rfl ?_ _ _
    rw [State.tgSt, State.passClear, State.get_set_apart _ (by decide), State.get_set_apart _ (by decide), State.tgSt]
  unfold State.tagAnswer
  rw [hr]
  rfl

theorem exec_pcmdRespond_none {m : Master} {n : Nat} (h : s.get HFT.PSTAT_PENDING = 0 ∨ s.hft.passSeq = true ∨ n < 2 ∨ 258 < n) :
    exec (.pcmdRespond m n) s = .next (s.set HFT.PCMD_RLEN n) := by
  have hexec : exec (.pcmdRespond m n) s = execPcmdRespond m n s := rfl
  rw [hexec]
  unfold execPcmdRespond
  extract_lets s1
  refine if_neg ?_
  rcases h with h | h | h | h
  · simp [State.passCore, State.on, h]
  · simp [State.passCore, h]
  · simp only [Bool.and_eq_true, decide_eq_true_eq, not_and]
    omega
  · simp only [Bool.and_eq_true, decide_eq_true_eq, not_and]
    omega

/-- An answer's data and status word are the bytes that the core left. -/
theorem State.pbuf_split {n : Nat} (h2 : 2 ≤ n) : (s.pbuf n).take (n - 2) ++ toBe 2 (ofBe ((s.pbuf n).drop (n - 2))) = s.pbuf n := by
  have hlen : ((s.pbuf n).drop (n - 2)).length = 2 := by
    rw [List.length_drop, s.pbuf_length]
    omega
  obtain ⟨x, y, hxy⟩ := List.length_eq_two.1 hlen
  have hx : x < 256 := s.pbuf_byte (List.mem_of_mem_drop (by rw [hxy]; simp))
  have hy : y < 256 := s.pbuf_byte (List.mem_of_mem_drop (by rw [hxy]; simp))
  rw [hxy, toBe_ofBe_two hx hy, ← hxy, List.take_append_drop]

theorem exec_pcmdRespond_plain {m : Master} {n : Nat} (hp : s.get HFT.PSTAT_PENDING ≠ 0) (hq : s.hft.passSeq = false)
    (hmac : s.hft.macCtr = none) (h2 : 2 ≤ n) (hn : n ≤ 258) :
    ∃ t, exec (.pcmdRespond m n) s = .next t ∧ t.get HFT.PSTAT_PENDING = 0 ∧ t.hft.reply = s.pbuf n ∧ t.get HFT.PCMD_RLEN = n ∧
      t.mem = s.mem ∧ regsSame s t [HFT.PSTAT_PENDING.key 0, HFT.PCMD_RLEN.key 0] := by
  have hfit : n < 2 ^ HFT.PCMD_RLEN.width := lt_of_le_of_lt hn (by decide)
  refine ⟨_, exec_pcmdRespond s hp hq h2 hn, ?_, ?_, ?_, rfl, fun f k hk => ?_⟩
  · rw [State.get_tagReply, State.get_set_fits _ (by decide)]
  · have hr : s.rApdu ((s.pbuf n).take (n - 2)) (ofBe ((s.pbuf n).drop (n - 2))) = s.pbuf n := by
      unfold State.rApdu
      rw [hmac]
      exact s.pbuf_split h2
    rw [State.tagReply_reply, hr]
  · rw [State.get_tagReply, State.get_set_apart _ (by decide), State.get_set_fits _ hfit]
  · simp only [List.mem_cons, List.not_mem_nil, or_false, not_or] at hk
    rw [State.get_tagReply, State.get_set_ne _ _ _ _ _ _ hk.1, State.get_set_ne _ _ _ _ _ _ hk.2]

/-- An answer that the tag itself makes, of a status word alone. -/
theorem State.passAnswer_word (sw : Nat) (hsw : sw < 65536) :
    s.passAnswer [sw / 256, sw % 256] = (s.set HFT.PSTAT_PENDING 0).tagReply (s.rApdu [] sw) := by
  have hv : ofBe [sw / 256, sw % 256] = sw := by
    have h1 : ofBe [sw / 256, sw % 256] = sw % 256 % 256 + 256 * (sw / 256 % 256) := by simp [ofBe, ofLe]
    rw [h1]
    omega
  have hr : s.passClear.rApdu [] sw = s.rApdu [] sw := by
    refine s.rApdu_congr (t := s.passClear) rfl rfl ?_ _ _
    rw [State.tgSt, State.passClear, State.get_set_apart _ (by decide), State.tgSt]
  have heq : s.passAnswer [sw / 256, sw % 256] = s.passClear.tagAnswer [] (ofBe [sw / 256, sw % 256]) := rfl
  rw [heq, hv, State.tagAnswer, hr]
  rfl

theorem exec_pcmdReject {m : Master} (hp : s.get HFT.PSTAT_PENDING ≠ 0) (hq : s.hft.passSeq = false) :
    exec (.pcmdReject m) s = .next ((s.set HFT.PSTAT_PENDING 0).tagReply (s.rApdu [] 0x6D00)) := by
  rw [← s.passAnswer_word 0x6D00 (by decide)]
  have hcore : s.passCore = true := by simp [State.passCore, State.on, hp, hq]
  exact congrArg Host.Outcome.next (if_pos hcore)

theorem exec_passthroughTimeout (hp : s.get HFT.PSTAT_PENDING ≠ 0) :
    exec .passthroughTimeout s = .next ((s.set HFT.PSTAT_PENDING 0).tagReply (s.rApdu [] 0x6F00)) := by
  rw [← s.passAnswer_word 0x6F00 (by decide)]
  have hon : s.on HFT.PSTAT_PENDING = true := by simpa [State.on] using hp
  exact congrArg Host.Outcome.next (if_pos hon)

theorem exec_pcmdReject_none {m : Master} (h : s.get HFT.PSTAT_PENDING = 0 ∨ s.hft.passSeq = true) : exec (.pcmdReject m) s = .next s := by
  have hcore : ¬s.passCore = true := by
    rcases h with h | h <;> simp [State.passCore, State.on, h]
  exact congrArg Host.Outcome.next (if_neg hcore)

theorem exec_passthroughTimeout_none (h : s.get HFT.PSTAT_PENDING = 0) : exec .passthroughTimeout s = .next s := by
  have hon : ¬s.on HFT.PSTAT_PENDING = true := by simp [State.on, h]
  exact congrArg Host.Outcome.next (if_neg hon)

end

/-- Settles O36: each authentication command answers its first failed check or acts, a wired access is granted, denied, refused or waits
by the rights, the commit and the guard, and an APDU passed through has one target or an answer of the tag's own. -/
theorem tagAuthenticationAndPassthrough : Obligations.TagAuthenticationAndPassthrough := by
  unfold Obligations.TagAuthenticationAndPassthrough
  refine ⟨fun s a pw h hle h1 h2 hl hlen hpw _ => exec_verify_tried s h hle h1 h2 hl hlen hpw,
    fun s a c h hd hle hl hc => exec_locked s h hd hle hl hc, fun s a c sw h hd hle hl hc => exec_auth_refused s h hd hle hl hc,
    fun s a key h h1 h2 hd hle hl hret hobj hkey => exec_auth1_challenge s h h1 h2 hd hle hl hret hobj hkey,
    fun s a h hle h1 h2 hl hno hlen => exec_auth2_tried s h hle h1 h2 hl hno hlen,
    fun s m r nw hr hp hc hg ha hw => exec_wiredRead_granted s hr hp hc hg ha hw,
    fun s m r nw hr hp hc hg h5 h4 => exec_wiredWrite_granted s hr hp hc hg h5 h4, fun s m r nw hr hp => ⟨fun h6 hm => ?_, fun hden => ?_⟩,
    fun s m r nw hp => ⟨?_, ?_⟩, fun s m r hr hp hc c hcmd => ?_, fun s m r nw w hr hp hb c hcmd => ?_, fun s r hw hc hg => ?_,
    fun s r hr hw hc hg hf => ?_, fun s h => exec_wgrant_none s h,
    fun s a h hcla h1 h2 hp1 hp2 hlen hle hbytes hpass hdom => exec_passthrough_core s h hcla h1 h2 hp1 hp2 hlen hle hbytes hpass hdom,
    fun s a n h hcla h1 h2 hlen hle hpass hdom hheld hn hn16 => exec_passthrough_seq s h hcla h1 h2 hlen hle hpass hdom hheld hn hn16,
    fun s a sw h hlen hle hsw => exec_passthrough_refused s h hlen hle hsw, fun s m n hp hq h2 hn => exec_pcmdRespond s hp hq h2 hn,
    fun s m n hp hq hmac h2 hn => exec_pcmdRespond_plain s hp hq hmac h2 hn, fun s m n h => exec_pcmdRespond_none s h,
    fun s m hp hq => exec_pcmdReject s hp hq, fun s hp => exec_passthroughTimeout s hp, fun s m h => exec_pcmdReject_none s h,
    fun s h => exec_passthroughTimeout_none s h⟩
  · have hden : ¬s.wiredAllows m r false := by simp [State.wiredAllows, h6, hm]
    obtain ⟨hres, hpend, hh, hmem, hbuf⟩ := s.wiredGo_denied_shows (nw := nw) hr hp hden
    exact ⟨_, exec_wiredRead s hr, hres, hpend, hh, hmem, hbuf⟩
  · have hnot : ¬s.wiredAllows m r true := by
      rcases hden with h5 | ⟨h4, hs⟩
      · simp [State.wiredAllows, h5]
      · simp [State.wiredAllows, h4, hs]
    obtain ⟨hres, hpend, hh, hmem, -⟩ := s.wiredGo_denied_shows (nw := nw) hr hp hnot
    exact ⟨_, exec_wiredWrite s hr, hres, hpend, hh, hmem⟩
  · exact congrArg Host.Outcome.next (s.wiredGo_pending hp)
  · exact congrArg Host.Outcome.next (s.wiredGo_pending hp)
  · rcases hcmd with ⟨rfl, h6⟩ | ⟨rfl, h5, h4⟩
    · exact ⟨_, exec_wiredRead s hr, s.wiredGo_busy_shows hr hp (w := false) h6 hc⟩
    · exact ⟨_, exec_wiredWrite s hr, s.wiredGo_busy_shows hr hp (w := true) ⟨h5, h4⟩ hc⟩
  · rcases hcmd with ⟨rfl, rfl, h6⟩ | ⟨rfl, rfl, h5, h4⟩
    · exact ⟨_, exec_wiredRead s hr, s.wiredGo_waits_shows hr hp (w := false) h6 hb⟩
    · exact ⟨_, exec_wiredWrite s hr, s.wiredGo_waits_shows hr hp (w := true) ⟨h5, h4⟩ hb⟩
  · obtain ⟨c, hgrant, hwait, hcom, hrec, -, -, hslot, hmem, -⟩ := s.wiredRun_write (r := r)
    exact ⟨_, c, exec_wgrant_granted s hw hc hg, hgrant, hwait, hcom, hrec, hslot, hmem⟩
  · obtain ⟨hgrant, hwait, hpend, -, hok, hbad, hmem⟩ := s.wiredRun_read hr hf
    exact ⟨_, exec_wgrant_granted s hw hc hg, hgrant, hwait, hpend, hok, fun h => (hbad h).1, hmem⟩

end Sys2Proof.Machine
end

section
/-! PROOFS. R312, R326, R327: the recovery pass over an MRAM that needs no repair beside a commit marker. -/

namespace Sys2Proof.Machine

open Sys2Proof

section
variable (s : State)

theorem State.recoverMono_sound (h1 : s.hft.monoP = s.hft.monoB) (h2 : s.hft.monoBad = []) : s.recoverMono = s := by
  refine State.forN_keep (fun t => t = s) _ _ _ rfl fun c _ t ht => ?_
  rw [ht]
  dsimp only
  rw [h2, h1, if_neg (by simp), if_neg (by simp), if_pos (by simp)]

theorem State.recoverSlots_sound (h : ∀ r ∈ s.hft.slots.map Prod.fst, slotOk (s.recPrimary r) = true) : s.recoverSlots = s := by
  refine State.forL_keep (fun t => t = s) _ _ _ rfl fun r hr t ht => ?_
  rw [ht]
  exact if_pos (by rw [h r hr]; rfl)

theorem State.recoverGens_sound (h : s.hft.genP = s.hft.genB) : s.recoverGens = s := by
  unfold State.recoverGens
  extract_lets ks
  have hks : ks = [] := by simp [ks, h]
  rw [hks]
  rfl

theorem State.recoveryPass_sound (h : s.tagSound) (hm : s.hft.marker = none) (hg : s.hft.genP = s.hft.genB) : s.recoveryPass = s := by
  obtain ⟨hslots, hmono, hbad⟩ := h
  unfold State.recoveryPass
  rw [hm]
  dsimp only
  rw [s.recoverGens_sound hg, s.recoverSlots_sound hslots, s.recoverMono_sound hmono hbad]

/-- The pass over a marked commit does no more than the marker asks where the rest of the MRAM is sound after it. -/
theorem State.recoveryPass_marked {r g : Nat} (hm : s.hft.marker = some (r, g)) (h : (s.recoverMarked r g).tagSound) :
    s.recoveryPass = s.recoverMarked r g := by
  obtain ⟨hslots, hmono, hbad⟩ := h
  unfold State.recoveryPass
  rw [hm]
  dsimp only
  rw [State.recoverSlots_sound _ hslots, State.recoverMono_sound _ hmono hbad]

/-! ### A record repaired -/

/-- What the pass shows of an act on record `r`. -/
theorem State.recovered_shows {a r : Nat} (ha : a < 8) (hr : r < 256) : (s.recovered a r).get HFT.RECOV_ACTION = a ∧
    (s.recovered a r).get HFT.RECOV_RECORD = r ∧ (s.recovered a r).get HFT.STATUS_RECOVERED = 1 ∧
    (a = 5 → (s.recovered a r).get HFT.STATUS_RECOV_FAIL = 1 ∧ (s.recovered a r).hft.failed.contains r = true) ∧
    (a ≠ 5 → (s.recovered a r).hft = s.hft) ∧
    ∃ l, (s.recovered a r).hft = { s.hft with failed := l } := by
  have hfa : a < 2 ^ HFT.RECOV_ACTION.width := ha
  have hfr : r < 2 ^ HFT.RECOV_RECORD.width := hr
  unfold State.recovered
  extract_lets s1
  have h1 : s1.get HFT.RECOV_ACTION = a ∧ s1.get HFT.RECOV_RECORD = r ∧ s1.get HFT.STATUS_RECOVERED = 1 := by
    refine ⟨?_, ?_, State.get_set_fits _ (by decide)⟩
    · simp only [s1]
      rw [State.get_set_apart _ (by decide), State.get_set_apart _ (by decide), State.get_set_fits _ hfa]
    · simp only [s1]
      rw [State.get_set_apart _ (by decide), State.get_set_fits _ hfr]
  have hh : s1.hft = s.hft := rfl
  obtain ⟨hact, hrec, hstat⟩ := h1
  clear_value s1
  by_cases h5 : a = 5
  · rw [if_pos (by simp [h5])]
    have hkept : ∀ f : Fld, f.apart HFT.STATUS_RECOV_FAIL = true →
        ((s1.set HFT.STATUS_RECOV_FAIL 1).updHft fun h => { h with
          failed := if h.failed.contains r then h.failed else h.failed ++ [r] }).get f = s1.get f := fun f hf => State.get_set_apart s1 hf 1
    refine ⟨by rw [hkept _ (by decide), hact], by rw [hkept _ (by decide), hrec], by rw [hkept _ (by decide), hstat],
      fun _ => ⟨State.get_set_fits s1 (f := HFT.STATUS_RECOV_FAIL) (v := 1) (by decide), ?_⟩, fun h => absurd h5 h, ?_⟩
    · change (if s1.hft.failed.contains r then s1.hft.failed else s1.hft.failed ++ [r]).contains r = true
      split
      · assumption
      · simp
    · exact ⟨_, congrArg (fun h : Hft => { h with failed := if h.failed.contains r then h.failed else h.failed ++ [r] }) hh⟩
  · rw [if_neg (by simpa using h5)]
    exact ⟨hact, hrec, hstat, fun h => absurd h h5, fun _ => hh, s.hft.failed, hh⟩

theorem State.recPrimary_congr {t : State} (h : t.hft.slots = s.hft.slots) (r : Nat) : t.recPrimary r = s.recPrimary r := by
  unfold State.recPrimary
  rw [h]

/-- Soundness is about slots and counters alone. -/
theorem State.tagSound_congr {t : State} (h : s.tagSound) (hs : t.hft.slots = s.hft.slots) (hp : t.hft.monoP = s.hft.monoP)
    (hb : t.hft.monoB = s.hft.monoB) (hbad : t.hft.monoBad = s.hft.monoBad) : t.tagSound := by
  obtain ⟨hslots, hmono, hno⟩ := h
  refine ⟨fun r hr => ?_, by rw [hp, hb, hmono], by rw [hbad, hno]⟩
  rw [hs] at hr
  rw [s.recPrimary_congr hs]
  exact hslots r hr

theorem Tab.mem_keys_erase {α : Type} (t : Tab α) (k : Nat) {j : Nat} (h : j ∈ (Tab.erase t k).map Prod.fst) : j ∈ t.map Prod.fst := by
  induction t with
  | nil => exact h
  | cons e t ih =>
    obtain ⟨i, w⟩ := e
    rw [List.map_cons, List.mem_cons]
    unfold Tab.erase at h
    split at h
    · exact .inr (ih h)
    · rw [List.map_cons, List.mem_cons] at h
      exact h.imp_right ih

theorem Tab.mem_keys_ins {α : Type} (t : Tab α) (k : Nat) (v : α) {j : Nat} (h : j ∈ (Tab.ins t k v).map Prod.fst) :
    j = k ∨ j ∈ t.map Prod.fst := by
  induction t with
  | nil => exact .inl (List.mem_singleton.1 h)
  | cons e t ih =>
    obtain ⟨i, w⟩ := e
    unfold Tab.ins at h
    split at h
    · rwa [List.map_cons, List.mem_cons] at h
    · rw [List.map_cons, List.mem_cons] at h ⊢
      rcases h with h | h
      · exact .inr (.inl h)
      · exact (ih h).imp_right .inr

/-- The keys of a table after a write are those before, and the one written. -/
theorem Tab.mem_keys_set {α : Type} [DecidableEq α] (d : α) (t : Tab α) (k : Nat) (v : α) {j : Nat} (h : j ∈ (Tab.set d t k v).map Prod.fst) :
    j = k ∨ j ∈ t.map Prod.fst := by
  unfold Tab.set at h
  split at h
  · exact .inr (Tab.mem_keys_erase t k h)
  · exact (Tab.mem_keys_ins _ k v h).imp_right (Tab.mem_keys_erase t k)

/-- The three outcomes for a marked record (R326, R327). -/
theorem State.recoverMarked_done {r g : Nat} (h : Tab.get 0 s.hft.genB r = g) :
    s.recoverMarked r g = (s.updHft fun h => { h with marker := none }).recovered 3 r := by
  unfold State.recoverMarked
  exact if_pos (by simpa using h)

/-- The tag's own state with record `r` rolled forward to the backup slot. -/
def Hft.rolled (h : Hft) (r g : Nat) : Hft :=
  { h with slots := Tab.set none h.slots r (some h.backup), genP := Tab.set 0 h.genP r g, genB := Tab.set 0 h.genB r g, marker := none }

theorem State.recoverMarked_rolled {r g : Nat} (h : Tab.get 0 s.hft.genB r ≠ g) (hok : slotOk s.hft.backup = true)
    (hr : byteAt s.hft.backup 248 = r) : s.recoverMarked r g = (s.updHft fun h => h.rolled r g).recovered 2 r := by
  unfold State.recoverMarked
  rw [if_neg (by simpa using h)]
  exact if_pos (by simp [hok, hr])

theorem State.recoverMarked_lost {r g : Nat} (h : Tab.get 0 s.hft.genB r ≠ g) (hbad : ¬(slotOk s.hft.backup && byteAt s.hft.backup 248 == r) = true) :
    s.recoverMarked r g = (s.updHft fun h => { h with genP := Tab.set 0 h.genP r (Tab.get 0 h.genB r), marker := none }).recovered 5 r := by
  unfold State.recoverMarked
  rw [if_neg (by simpa using h)]
  exact if_neg hbad

/-- What the pass over a marked record shows. -/
def Repaired (s t : State) (r g : Nat) : Prop :=
  t.hft.marker = none ∧ t.get HFT.STATUS_RECOVERED = 1 ∧ t.get HFT.RECOV_RECORD = r ∧
  (Tab.get 0 s.hft.genB r = g → t.get HFT.RECOV_ACTION = 3 ∧ t.hft.slots = s.hft.slots) ∧
  (Tab.get 0 s.hft.genB r ≠ g → slotOk s.hft.backup = true → byteAt s.hft.backup 248 = r →
    t.get HFT.RECOV_ACTION = 2 ∧ Tab.get none t.hft.slots r = some s.hft.backup ∧ Tab.get 0 t.hft.genP r = g ∧
    Tab.get 0 t.hft.genB r = g) ∧
  (Tab.get 0 s.hft.genB r ≠ g → slotOk s.hft.backup = false → t.get HFT.RECOV_ACTION = 5 ∧ t.get HFT.STATUS_RECOV_FAIL = 1 ∧
    t.hft.slots = s.hft.slots ∧ Tab.get 0 t.hft.genP r = Tab.get 0 s.hft.genB r ∧ t.hft.failed.contains r = true)

theorem State.recoverMarked_shows {r g : Nat} (hr : r < 256) (h : s.tagSound) :
    (s.recoverMarked r g).tagSound ∧ Repaired s (s.recoverMarked r g) r g := by
  by_cases hdone : Tab.get 0 s.hft.genB r = g
  · rw [s.recoverMarked_done hdone]
    obtain ⟨hact, hrec, hstat, -, hsame, -⟩ := (s.updHft fun h => { h with marker := none }).recovered_shows (a := 3) (by decide) hr
    have hh := hsame (by decide)
    generalize (s.updHft fun h => { h with marker := none }).recovered 3 r = u at *
    exact ⟨s.tagSound_congr h (by rw [hh]; rfl) (by rw [hh]; rfl) (by rw [hh]; rfl) (by rw [hh]; rfl), by rw [hh]; rfl, hstat, hrec,
      fun _ => ⟨hact, by rw [hh]; rfl⟩, fun hne => absurd hdone hne, fun hne => absurd hdone hne⟩
  · by_cases hok : (slotOk s.hft.backup && byteAt s.hft.backup 248 == r) = true
    · have hparts := hok
      simp only [Bool.and_eq_true, beq_iff_eq] at hparts
      obtain ⟨hslot, hbyte⟩ := hparts
      rw [s.recoverMarked_rolled hdone hslot hbyte]
      obtain ⟨hact, hrec, hstat, -, hsame, -⟩ := (s.updHft fun h => h.rolled r g).recovered_shows (a := 2) (by decide) hr
      have hh : ((s.updHft fun h => h.rolled r g).recovered 2 r).hft = s.hft.rolled r g := hsame (by decide)
      generalize (s.updHft fun h => h.rolled r g).recovered 2 r = u at *
      obtain ⟨hslots, hmono, hbad⟩ := h
      refine ⟨⟨fun k hk => ?_, by rw [hh]; exact hmono, by rw [hh]; exact hbad⟩, by rw [hh]; rfl, hstat, hrec,
        fun heq => absurd heq hdone, fun _ _ _ => ⟨hact, ?_, ?_, ?_⟩, fun _ hno => absurd (hslot.symm.trans hno) (by decide)⟩
      · have hs : u.hft.slots = Tab.set none s.hft.slots r (some s.hft.backup) := by rw [hh]; rfl
        rw [hs] at hk
        by_cases hkr : k = r
        · rw [State.recPrimary, hs, hkr, Tab.get_set_same]
          exact hslot
        · rcases Tab.mem_keys_set (none : Option (List Nat)) _ _ _ hk with hk | hk
          · exact absurd hk hkr
          · have hp := hslots k hk
            rw [State.recPrimary, hs, Tab.get_set_ne (none : Option (List Nat)) _ _ _ hkr]
            exact hp
      · rw [hh]
        exact Tab.get_set_same (none : Option (List Nat)) s.hft.slots r (some s.hft.backup)
      · rw [hh]
        exact Tab.get_set_same 0 s.hft.genP r g
      · rw [hh]
        exact Tab.get_set_same 0 s.hft.genB r g
    · rw [s.recoverMarked_lost hdone hok]
      generalize hv : (s.updHft fun h => { h with genP := Tab.set 0 h.genP r (Tab.get 0 h.genB r), marker := none }) = v
      have hvh : v.hft = { s.hft with genP := Tab.set 0 s.hft.genP r (Tab.get 0 s.hft.genB r), marker := none } := by rw [← hv]; rfl
      obtain ⟨hact, hrec, hstat, hfail, -, l, hl⟩ := v.recovered_shows (a := 5) (by decide) hr
      obtain ⟨hflag, hlist⟩ := hfail rfl
      rw [hvh] at hl
      generalize v.recovered 5 r = u at *
      refine ⟨s.tagSound_congr h (by rw [hl]) (by rw [hl]) (by rw [hl]) (by rw [hl]), by rw [hl], hstat, hrec,
        fun heq => absurd heq hdone, fun _ hs hb => absurd (by simp [hs, hb]) hok, fun _ _ => ⟨hact, hflag, by rw [hl], ?_, hlist⟩⟩
      rw [hl]
      exact Tab.get_set_same _ _ _ _

end

/-! ### The engine released -/

section
variable (s : State)

theorem State.tagRelease_same : s.tagRelease.hft = s.recoveryPass.hft ∧
    ∀ f, f.apart HFT.STATE_TSTATE = true → ∀ k, s.tagRelease.get f k = s.recoveryPass.get f k := by
  unfold State.tagRelease
  extract_lets s1
  have hs1 : s1 = s.recoveryPass := rfl
  clear_value s1
  rw [← hs1]
  split
  · exact ⟨rfl, fun f hf k => State.get_set_apart _ hf _⟩
  · exact ⟨rfl, fun _ _ _ => rfl⟩

theorem Repaired.released {r g : Nat} (hm : s.hft.marker = some (r, g)) (hr : r < 256) (h : s.tagSound) : Repaired s s.tagRelease r g := by
  obtain ⟨hsound, hrep⟩ := s.recoverMarked_shows (g := g) hr h
  obtain ⟨hh, hg⟩ := s.tagRelease_same
  rw [s.recoveryPass_marked hm hsound] at hh hg
  unfold Repaired at hrep ⊢
  rw [hh, hg _ (by decide), hg _ (by decide), hg _ (by decide), hg _ (by decide)]
  exact hrep

end

/-! ### The field arrives (R23, R281, R312, R313) -/

section
variable (s : State) (vharv avail : Nat)

/-- The field reported with what it supplies. -/
def State.fieldSeen : State :=
  ((((s.set HFT.STATE_FIELD 1).set HFT.STATUS_FIELD_ON 1).set HFR.STATE_TAG_FIELD 1).set HFT.HARV_VHARV vharv).set HFT.HARV_AVAIL avail

/-- A field that is the tag's one supply. -/
def State.fieldSupplied : State := ((s.fieldSeen vharv avail).set PWR.STATE_HARV 1).setBit AON.WAKE_WAKE 5 true

/-- The registers of a field that arrives. -/
def fieldFlds : List Fld := [HFT.STATE_FIELD, HFT.STATUS_FIELD_ON, HFR.STATE_TAG_FIELD, HFT.HARV_VHARV, HFT.HARV_AVAIL, PWR.STATE_HARV,
  AON.WAKE_WAKE]

theorem State.get_fieldSeen {f : Fld} (h : f.clear 0 fieldFlds 0) : (s.fieldSeen vharv avail).get f = s.get f := by
  unfold State.fieldSeen
  rw [State.get_set_clear h (by decide), State.get_set_clear h (by decide), State.get_set_clear h (by decide),
    State.get_set_clear h (by decide), State.get_set_clear h (by decide)]

theorem State.get_fieldSupplied {f : Fld} (h : f.clear 0 fieldFlds 0) : (s.fieldSupplied vharv avail).get f = s.get f := by
  unfold State.fieldSupplied State.setBit
  rw [State.get_set_clear h (by decide), State.get_set_clear h (by decide), s.get_fieldSeen vharv avail h]

theorem State.fieldSupplied_hft : (s.fieldSupplied vharv avail).hft = s.hft := by
  unfold State.fieldSupplied State.fieldSeen State.setBit
  simp only [State.set_hft]

theorem State.fieldSupplied_shows : (s.fieldSupplied vharv avail).get HFT.STATE_FIELD = 1 ∧
    (s.fieldSupplied vharv avail).get PWR.STATE_HARV = 1 ∧ (s.fieldSupplied vharv avail).bit AON.WAKE_WAKE 5 = true ∧
    (s.fieldSupplied vharv avail).mem = s.mem := by
  refine ⟨?_, ?_, State.bit_setBit_true _ (by decide) _, ?_⟩
  · unfold State.fieldSupplied State.fieldSeen State.setBit
    rw [State.get_set_apart _ (by decide), State.get_set_apart _ (by decide), State.get_set_apart _ (by decide),
      State.get_set_apart _ (by decide), State.get_set_apart _ (by decide), State.get_set_apart _ (by decide),
      State.get_set_fits _ (by decide)]
  · unfold State.fieldSupplied State.setBit
    rw [State.get_set_apart _ (by decide), State.get_set_fits _ (by decide)]
  · unfold State.fieldSupplied State.fieldSeen State.setBit
    simp only [State.set_mem]

/-- What a field reported leads to. -/
def State.fieldMet (u : State) : Out :=
  if u.on HFT.STATE_GUARD then .next u
  else if u.on HFT.STATE_LINE then .next (u.when (u.on HFT.CTRL_EN) fun t => t.set HFT.STATE_TSTATE tgIDLE)
  else .next u.tagRelease

theorem State.exec_fieldOn_met : exec (.fieldOn vharv avail) s =
    (((s.fieldSeen vharv avail).when (!(s.fieldSeen vharv avail).on HFT.STATE_LINE) fun t => t.set PWR.STATE_HARV 1).setBit
      AON.WAKE_WAKE 5 true).fieldMet := rfl

theorem State.exec_fieldOn_lit (h : s.get HFT.STATE_LINE ≠ 0) : exec (.fieldOn vharv avail) s =
    (let u := (s.fieldSeen vharv avail).setBit AON.WAKE_WAKE 5 true
     if u.on HFT.STATE_GUARD then .next u else .next (u.when (u.on HFT.CTRL_EN) fun t => t.set HFT.STATE_TSTATE tgIDLE)) := by
  have hline : (s.fieldSeen vharv avail).on HFT.STATE_LINE = true := by
    rw [State.on, s.get_fieldSeen vharv avail (Fld.clear_of_apart (by decide) _ _)]
    simpa using h
  have hline' : ((s.fieldSeen vharv avail).setBit AON.WAKE_WAKE 5 true).on HFT.STATE_LINE = true := by
    rw [State.on, State.setBit, State.get_set_apart _ (by decide)]
    exact hline
  rw [State.exec_fieldOn_met, hline, Bool.not_true, State.when, if_neg (by decide), State.fieldMet, if_pos hline']

theorem State.exec_fieldOn_dark (h : s.get HFT.STATE_LINE = 0) : exec (.fieldOn vharv avail) s =
    (if (s.fieldSupplied vharv avail).on HFT.STATE_GUARD then .next (s.fieldSupplied vharv avail)
     else .next (s.fieldSupplied vharv avail).tagRelease) := by
  have hline : (s.fieldSeen vharv avail).on HFT.STATE_LINE = false := by
    rw [State.on, s.get_fieldSeen vharv avail (Fld.clear_of_apart (by decide) _ _), h]
    rfl
  have hline' : ¬(s.fieldSupplied vharv avail).on HFT.STATE_LINE = true := by
    rw [State.on, s.get_fieldSupplied vharv avail (Fld.clear_of_apart (by decide) _ _), h]
    decide
  rw [State.exec_fieldOn_met, hline, Bool.not_false, State.when, if_pos rfl, ← State.fieldSupplied, State.fieldMet, if_neg hline']

theorem State.exec_fieldOn_freed (hl : s.get HFT.STATE_LINE = 0) (hg : s.get HFT.STATE_GUARD = 0) :
    exec (.fieldOn vharv avail) s = .next (s.fieldSupplied vharv avail).tagRelease := by
  rw [s.exec_fieldOn_dark vharv avail hl]
  refine if_neg ?_
  rw [State.on, s.get_fieldSupplied vharv avail (Fld.clear_of_apart (by decide) _ _), hg]
  decide

theorem State.exec_fieldOn_guarded (hl : s.get HFT.STATE_LINE = 0) (hg : s.get HFT.STATE_GUARD ≠ 0) :
    exec (.fieldOn vharv avail) s = .next (s.fieldSupplied vharv avail) := by
  rw [s.exec_fieldOn_dark vharv avail hl]
  refine if_pos ?_
  rw [State.on, s.get_fieldSupplied vharv avail (Fld.clear_of_apart (by decide) _ _)]
  simpa using hg

theorem State.exec_fieldOn_starts (hg : s.get HFT.STATE_GUARD = 0) (he : s.get HFT.CTRL_EN ≠ 0) (hl : s.get HFT.STATE_LINE ≠ 0) :
    exec (.fieldOn vharv avail) s =
      .next (((s.fieldSeen vharv avail).setBit AON.WAKE_WAKE 5 true).set HFT.STATE_TSTATE tgIDLE) := by
  rw [s.exec_fieldOn_lit vharv avail hl]
  have hget : ∀ f : Fld, f.clear 0 fieldFlds 0 → ((s.fieldSeen vharv avail).setBit AON.WAKE_WAKE 5 true).get f = s.get f :=
    fun f hf => (State.get_set_clear hf (by decide) _).trans (s.get_fieldSeen vharv avail hf)
  generalize (s.fieldSeen vharv avail).setBit AON.WAKE_WAKE 5 true = u at *
  dsimp only
  rw [State.when, State.on, State.on, hget _ (Fld.clear_of_apart (by decide) _ _), hget _ (Fld.clear_of_apart (by decide) _ _),
    if_neg (by simp [hg]), if_pos (by simpa using he)]

theorem State.exec_fieldOn_reports (hl : s.get HFT.STATE_LINE ≠ 0) (h : s.get HFT.STATE_GUARD ≠ 0 ∨ s.get HFT.CTRL_EN = 0) :
    exec (.fieldOn vharv avail) s = .next ((s.fieldSeen vharv avail).setBit AON.WAKE_WAKE 5 true) := by
  rw [s.exec_fieldOn_lit vharv avail hl]
  have hget : ∀ f : Fld, f.clear 0 fieldFlds 0 → ((s.fieldSeen vharv avail).setBit AON.WAKE_WAKE 5 true).get f = s.get f :=
    fun f hf => (State.get_set_clear hf (by decide) _).trans (s.get_fieldSeen vharv avail hf)
  generalize (s.fieldSeen vharv avail).setBit AON.WAKE_WAKE 5 true = u at *
  dsimp only
  rw [State.when, State.on, State.on, hget _ (Fld.clear_of_apart (by decide) _ _), hget _ (Fld.clear_of_apart (by decide) _ _)]
  by_cases hg : s.get HFT.STATE_GUARD = 0
  · rw [if_neg (by simp [hg]), if_neg (by simpa [hg] using h)]
  · exact if_pos (by simpa using hg)

/-- Without the line the field supplies an engine that runs the pass (R312). -/
theorem exec_fieldOn_supplied (hl : s.get HFT.STATE_LINE = 0) (hg : s.get HFT.STATE_GUARD = 0) :
    ∃ t, exec (.fieldOn vharv avail) s = .next t ∧ t.get HFT.STATE_FIELD = 1 ∧ t.get PWR.STATE_HARV = 1 ∧
      t.bit AON.WAKE_WAKE 5 = true ∧ t.get HFT.STATE_TSTATE = (if s.get HFT.CTRL_EN = 0 then s.get HFT.STATE_TSTATE else tgIDLE) ∧
      t.mem = s.mem := by
  refine ⟨_, s.exec_fieldOn_freed vharv avail hl hg, ?_⟩
  obtain ⟨hfield, hharv, hwake, hmem⟩ := s.fieldSupplied_shows vharv avail
  have hen := s.get_fieldSupplied vharv avail (f := HFT.CTRL_EN) (Fld.clear_of_apart (by decide) _ _)
  have hts := s.get_fieldSupplied vharv avail (f := HFT.STATE_TSTATE) (Fld.clear_of_apart (by decide) _ _)
  generalize s.fieldSupplied vharv avail = u at *
  obtain ⟨-, hsame⟩ := u.tagRelease_same
  refine ⟨by rw [hsame _ (by decide), u.get_recoveryPass (by decide) (by decide), hfield],
    by rw [hsame _ (by decide), u.get_recoveryPass (by decide) (by decide), hharv],
    by rw [State.bit, hsame _ (by decide), u.get_recoveryPass (by decide) (by decide)]; exact hwake, ?_⟩
  by_cases he : s.get HFT.CTRL_EN = 0
  · rw [if_pos he, u.tagRelease_dark (.inr (hen.trans he)), u.get_recoveryPass (by decide) (by decide), hts, u.mem_recoveryPass, hmem]
    exact ⟨rfl, rfl⟩
  · rw [if_neg he, u.tagRelease_idle (by rw [hfield]; decide) (by rw [hen]; exact he), State.set_mem, u.mem_recoveryPass, hmem]
    exact ⟨State.get_set_fits _ (by decide), rfl⟩

theorem exec_fieldOn_sound (hg : s.get HFT.STATE_GUARD = 0) (he : s.get HFT.CTRL_EN ≠ 0) (hl : s.get HFT.STATE_LINE = 0)
    (hm : s.hft.marker = none) (hgen : s.hft.genP = s.hft.genB) (h : s.tagSound) :
    exec (.fieldOn vharv avail) s = .next ((s.fieldSupplied vharv avail).set HFT.STATE_TSTATE tgIDLE) := by
  rw [s.exec_fieldOn_freed vharv avail hl hg]
  obtain ⟨hfield, -⟩ := s.fieldSupplied_shows vharv avail
  have hen := s.get_fieldSupplied vharv avail (f := HFT.CTRL_EN) (Fld.clear_of_apart (by decide) _ _)
  have hh := s.fieldSupplied_hft vharv avail
  generalize s.fieldSupplied vharv avail = u at *
  have hsound : u.tagSound := s.tagSound_congr h (by rw [hh]) (by rw [hh]) (by rw [hh]) (by rw [hh])
  rw [u.tagRelease_idle (by rw [hfield]; decide) (by rw [hen]; exact he), u.recoveryPass_sound hsound (by rw [hh, hm]) (by rw [hh, hgen])]

theorem exec_fieldOn_marked {r g : Nat} (hg : s.get HFT.STATE_GUARD = 0) (hl : s.get HFT.STATE_LINE = 0) (h : s.tagSound)
    (hm : s.hft.marker = some (r, g)) (hr : r < 256) :
    ∃ t, exec (.fieldOn vharv avail) s = .next t ∧ Repaired s t r g := by
  refine ⟨_, s.exec_fieldOn_freed vharv avail hl hg, ?_⟩
  have hh := s.fieldSupplied_hft vharv avail
  generalize s.fieldSupplied vharv avail = u at *
  have hsound : u.tagSound := s.tagSound_congr h (by rw [hh]) (by rw [hh]) (by rw [hh]) (by rw [hh])
  have hrep := Repaired.released u (by rw [hh, hm]) hr hsound
  unfold Repaired at hrep ⊢
  rw [hh] at hrep
  exact hrep

end

end Sys2Proof.Machine
end

section
/-! PROOFS. R25, R313, R317: the field leaves, and a lockout ends. -/

namespace Sys2Proof.Machine

open Sys2Proof

section
variable (s : State)

/-- The field gone, with what it supplied. -/
def State.fieldGone : State :=
  ((((s.set HFT.STATE_FIELD 0).set HFT.STATUS_FIELD_OFF 1).set HFR.STATE_TAG_FIELD 0).set HFT.HARV_VHARV 0).set HFT.HARV_AVAIL 0

/-- The registers of a field that leaves. -/
def goneFlds : List Fld := [HFT.STATE_FIELD, HFT.STATUS_FIELD_OFF, HFR.STATE_TAG_FIELD, HFT.HARV_VHARV, HFT.HARV_AVAIL]

theorem State.get_fieldGone {f : Fld} {k : Nat} (h : f.clear k goneFlds 0) : s.fieldGone.get f k = s.get f k := by
  unfold State.fieldGone
  rw [State.get_set_clear h (by decide), State.get_set_clear h (by decide), State.get_set_clear h (by decide),
    State.get_set_clear h (by decide), State.get_set_clear h (by decide)]

theorem State.fieldGone_hft : s.fieldGone.hft = s.hft := by
  unfold State.fieldGone
  simp only [State.set_hft]

theorem State.fieldGone_mem : s.fieldGone.mem = s.mem := by
  unfold State.fieldGone
  simp only [State.set_mem]

theorem State.fieldGone_field : s.fieldGone.get HFT.STATE_FIELD = 0 := by
  unfold State.fieldGone
  rw [State.get_set_apart _ (by decide), State.get_set_apart _ (by decide), State.get_set_apart _ (by decide),
    State.get_set_apart _ (by decide), State.get_set_fits _ (by decide)]

theorem State.fieldGone_off : s.fieldGone.get HFT.STATUS_FIELD_OFF = 1 := by
  unfold State.fieldGone
  rw [State.get_set_apart _ (by decide), State.get_set_apart _ (by decide), State.get_set_apart _ (by decide),
    State.get_set_fits _ (by decide)]

theorem State.fieldGone_seen : s.fieldGone.get HFR.STATE_TAG_FIELD = 0 := by
  unfold State.fieldGone
  rw [State.get_set_apart _ (by decide), State.get_set_apart _ (by decide), State.get_set_fits _ (by decide)]

theorem State.fieldGone_vharv : s.fieldGone.get HFT.HARV_VHARV = 0 := by
  unfold State.fieldGone
  rw [State.get_set_apart _ (by decide), State.get_set_fits _ (by decide)]

theorem State.fieldGone_avail : s.fieldGone.get HFT.HARV_AVAIL = 0 := State.get_set_fits _ (by decide)

/-- A session dropped. -/
def Hft.dropped (h : Hft) : Hft :=
  { h with rndB := [], key := [], sk := [], ctr := 0, macCtr := none, app := false, file := 0, cascade := 1, fieldWait := none, commit := h.commit.map fun c => { c with answer := [] } }

theorem State.tagDrop_hft (st : Nat) : (s.tagDrop st).hft = s.hft.dropped := rfl

theorem State.tagDrop_state {st : Nat} (h : st < 16) : (s.tagDrop st).tgSt = st :=
  State.get_set_fits (s.updHft Hft.dropped) (f := HFT.STATE_TSTATE) h

theorem State.tagDrop_mem (st : Nat) : (s.tagDrop st).mem = s.mem := rfl

theorem State.get_passClear {f : Fld} {k : Nat} (h : f.clear k [HFT.PSTAT_PENDING] 0) : s.passClear.get f k = s.get f k :=
  State.get_set_clear h (by decide) 0

/-- A session that ends with what the core was asked. -/
def State.dropped (st : Nat) : State := (s.tagDrop st).passClear

theorem State.dropped_hft (st : Nat) : (s.dropped st).hft = s.hft.dropped := (State.set_hft _ _ _ _).trans (s.tagDrop_hft st)

theorem State.dropped_mem (st : Nat) : (s.dropped st).mem = s.mem := (State.set_mem _ _ _ _).trans (s.tagDrop_mem st)

theorem State.dropped_pending (st : Nat) : (s.dropped st).get HFT.PSTAT_PENDING = 0 := State.get_set_fits _ (by decide)

theorem State.dropped_state {st : Nat} (h : st < 16) : (s.dropped st).get HFT.STATE_TSTATE = st :=
  (State.get_passClear _ (Fld.clear_of_apart (by decide) _ _)).trans (s.tagDrop_state h)

theorem State.get_dropped {f : Fld} {k : Nat} (h : f.clear k [HFT.STATE_TSTATE, HFT.PSTAT_PENDING] 0) (st : Nat) :
    (s.dropped st).get f k = s.get f k := by
  unfold State.dropped State.passClear State.tagDrop
  rw [State.get_set_clear h (by decide), State.get_set_clear h (by decide)]
  rfl

/-- Losing the field with the line on (R313). -/
theorem exec_fieldOff_lit (h : s.get HFT.STATE_LINE ≠ 0) :
    ∃ t, exec .fieldOff s = .next t ∧ t.get HFT.STATE_FIELD = 0 ∧ t.get HFT.STATUS_FIELD_OFF = 1 ∧ t.get HFR.STATE_TAG_FIELD = 0 ∧
      t.get HFT.STATE_TSTATE = tgNO_FIELD ∧ t.get HFT.PSTAT_PENDING = 0 ∧ t.get HFT.HARV_VHARV = 0 ∧ t.get HFT.HARV_AVAIL = 0 ∧
      t.hft.sk = [] ∧ t.hft.rndB = [] ∧ t.hft.app = false ∧ t.hft.fieldWait = none ∧
      t.hft.commit = s.hft.commit.map (fun c => { c with answer := [] }) ∧ t.mem = s.mem ∧
      regsSame s t [HFT.STATE_FIELD.key 0, HFT.STATUS_FIELD_OFF.key 0, HFR.STATE_TAG_FIELD.key 0, HFT.STATE_TSTATE.key 0,
        HFT.PSTAT_PENDING.key 0, HFT.HARV_VHARV.key 0, HFT.HARV_AVAIL.key 0] := by
  have hexec : exec .fieldOff s = if s.fieldGone.on HFT.STATE_LINE then .next (s.fieldGone.dropped tgNO_FIELD) else
    .next s.fieldGone.coldBase := rfl
  have hline : s.fieldGone.on HFT.STATE_LINE = true := by
    rw [State.on, s.get_fieldGone (Fld.clear_of_apart (by decide) _ _)]
    simpa using h
  rw [hexec, if_pos hline]
  have hh : (s.fieldGone.dropped tgNO_FIELD).hft = s.hft.dropped := by rw [s.fieldGone.dropped_hft, s.fieldGone_hft]
  refine ⟨_, rfl, ?_, ?_, ?_, s.fieldGone.dropped_state (by decide), s.fieldGone.dropped_pending _, ?_, ?_, by rw [hh]; rfl, by rw [hh]; rfl,
    by rw [hh]; rfl, by rw [hh]; rfl, by rw [hh]; rfl, by rw [s.fieldGone.dropped_mem, s.fieldGone_mem], fun f n hf => ?_⟩
  · rw [s.fieldGone.get_dropped (Fld.clear_of_apart (by decide) _ _), s.fieldGone_field]
  · rw [s.fieldGone.get_dropped (Fld.clear_of_apart (by decide) _ _), s.fieldGone_off]
  · rw [s.fieldGone.get_dropped (Fld.clear_of_apart (by decide) _ _), s.fieldGone_seen]
  · rw [s.fieldGone.get_dropped (Fld.clear_of_apart (by decide) _ _), s.fieldGone_vharv]
  · rw [s.fieldGone.get_dropped (Fld.clear_of_apart (by decide) _ _), s.fieldGone_avail]
  · have hclear : ∀ g : Fld, g.key 0 ∈ [HFT.STATE_FIELD.key 0, HFT.STATUS_FIELD_OFF.key 0, HFR.STATE_TAG_FIELD.key 0, HFT.STATE_TSTATE.key 0,
        HFT.PSTAT_PENDING.key 0, HFT.HARV_VHARV.key 0, HFT.HARV_AVAIL.key 0] → f.key n ≠ g.key 0 := fun g hg hfg => hf (hfg ▸ hg)
    unfold State.dropped State.passClear State.tagDrop
    rw [State.get_set_ne _ _ _ _ _ _ (hclear _ (by simp)), State.get_set_ne _ _ _ _ _ _ (hclear _ (by simp))]
    change s.fieldGone.get f n = _
    unfold State.fieldGone
    rw [State.get_set_ne _ _ _ _ _ _ (hclear _ (by simp)), State.get_set_ne _ _ _ _ _ _ (hclear _ (by simp)),
      State.get_set_ne _ _ _ _ _ _ (hclear _ (by simp)), State.get_set_ne _ _ _ _ _ _ (hclear _ (by simp)),
      State.get_set_ne _ _ _ _ _ _ (hclear _ (by simp))]

/-! ### COLD with the field (R25, R311) -/

theorem State.commitPrefix_keeps (c : Commit) (k : Nat) : (s.commitPrefix c k).hft.fails = s.hft.fails ∧
    (s.commitPrefix c k).hft.monoP = s.hft.monoP := by
  unfold State.commitPrefix
  dsimp only [State.updHft]
  constructor <;> (split <;> split <;> split <;> split <;> split <;> rfl)

theorem State.commitCut_keeps : s.commitCut.hft.fails = s.hft.fails ∧ s.commitCut.hft.monoP = s.hft.monoP := by
  unfold State.commitCut
  split
  · exact ⟨rfl, rfl⟩
  · next c _ =>
    extract_lets k s1
    obtain ⟨hfails, hmono⟩ := s.fresh.2.commitPrefix_keeps c k
    have h1 : s1.hft.fails = s.hft.fails ∧ s1.hft.monoP = s.hft.monoP := ⟨hfails, hmono⟩
    clear_value s1
    split
    · exact h1
    · exact h1

/-- What COLD keeps of the tag's own state. -/
theorem State.coldCore_hft : s.coldCore.hft.commit = none ∧ s.coldCore.hft.sk = [] ∧ s.coldCore.hft.fails = s.commitCut.hft.fails ∧
    s.coldCore.hft.monoP = s.commitCut.hft.monoP ∧ s.coldCore.hft.slots = s.commitCut.hft.slots ∧
    s.coldCore.hft.marker = s.commitCut.hft.marker := by
  have hh : s.coldCore.hft = { s.commitCut.coldStart.hft with fails := s.commitCut.hft.fails } := by
    unfold State.coldCore
    dsimp only
    obtain ⟨r, hr⟩ := ((s.commitCut.coldStart.setFails s.commitCut.hft.fails).set HFT.STATE_LOCKOUT
      (b2n (8 ≤ s.commitCut.hft.fails))).monoShown_form
    rw [hr]
    simp only [State.set_hft, State.setFails_hft]
  rw [hh]
  exact ⟨rfl, rfl, rfl, rfl, rfl, rfl⟩

theorem State.coldBase_hft : s.coldBase.hft = s.coldCore.hft := by
  obtain ⟨r, g, h⟩ := s.coldBase_only
  rw [h]

theorem State.coldBase_field (h : s.get HFT.STATE_FIELD = 0) : s.coldBase.get HFT.STATE_FIELD = 0 := by
  have hcut : s.commitCut.get HFT.STATE_FIELD = 0 := by
    obtain ⟨y, k, hcut⟩ := s.commitCut_form
    rw [hcut]
    exact h
  have hcore : s.coldCore.get HFT.STATE_FIELD = 0 := by
    unfold State.coldCore
    dsimp only
    rw [State.get_set_apart _ (by decide), State.get_set_apart _ (by decide), hcut, State.get_set_fits _ (by decide)]
  rw [State.coldBase_eq]
  split
  · rw [s.coldPinned_still.get_killPin (Fld.clear_of_apart (by decide) _ _), State.get_set_apart _ (by decide), hcore]
  · exact hcore

/-- Losing the field without the line (R25, R311, R313). -/
theorem exec_fieldOff_dark (h : s.get HFT.STATE_LINE = 0) :
    ∃ t, exec .fieldOff s = .next t ∧ t.hft.commit = none ∧ t.get HFT.STATE_TSTATE = tgNO_FIELD ∧ t.get HFT.STATE_FIELD = 0 ∧
      t.get PWR.STATE_HARV = 0 ∧ t.hft.sk = [] ∧ t.hft.fails = s.hft.fails ∧ t.hft.monoP = s.hft.monoP ∧
      (s.hft.commit = none → t.hft.slots = s.hft.slots ∧ t.hft.marker = s.hft.marker) := by
  have hexec : exec .fieldOff s = if s.fieldGone.on HFT.STATE_LINE then .next (s.fieldGone.dropped tgNO_FIELD) else
    .next s.fieldGone.coldBase := rfl
  have hline : ¬s.fieldGone.on HFT.STATE_LINE = true := by
    rw [State.on, s.get_fieldGone (Fld.clear_of_apart (by decide) _ _), h]
    decide
  rw [hexec, if_neg hline]
  have hh := s.fieldGone_hft
  have hfield := s.fieldGone_field
  generalize s.fieldGone = u at *
  obtain ⟨hcommit, hsk, hfails, hmono, hslots, hmarker⟩ := u.coldCore_hft
  obtain ⟨hcf, hcm⟩ := u.commitCut_keeps
  rw [← u.coldBase_hft] at hcommit hsk hfails hmono hslots hmarker
  refine ⟨_, rfl, hcommit, u.get_coldBase (by decide) (by decide) (by decide), u.coldBase_field hfield,
    u.get_coldBase (by decide) (by decide) (by decide), hsk, by rw [hfails, hcf, hh], by rw [hmono, hcm, hh], fun hnone => ?_⟩
  have hcut : u.commitCut = u := by
    unfold State.commitCut
    rw [hh, hnone]
  rw [hslots, hmarker, hcut, hh]
  exact ⟨rfl, rfl⟩

/-! ### The end of a lockout (R317) -/

theorem exec_lockoutEnd_due (hl : s.get HFT.STATE_LOCKOUT ≠ 0) (hf : s.get HFT.STATE_FIELD = 0) :
    ∃ t, exec .lockoutEnd s = .next t ∧ t.hft.fails = 0 ∧ t.get HFT.STATE_FAILS = 0 ∧ t.get HFT.STATE_LOCKOUT = 0 ∧ t.mem = s.mem ∧
      regsSame s t [HFT.STATE_FAILS.key 0, HFT.STATE_LOCKOUT.key 0] := by
  have hexec : exec .lockoutEnd s = if s.on HFT.STATE_LOCKOUT && !s.on HFT.STATE_FIELD then
    .next ((s.setFails 0).set HFT.STATE_LOCKOUT 0) else .next s := rfl
  rw [hexec, if_pos (by simpa [State.on, hf] using hl)]
  refine ⟨_, rfl, by rw [State.set_hft, State.setFails_hft], ?_, State.get_set_fits _ (by decide), rfl, fun f n hfn => ?_⟩
  · rw [State.get_set_apart _ (by decide), State.setFails, State.get_set_fits _ (by decide)]
  · rw [State.get_set_ne _ _ _ _ _ _ fun h => hfn (by rw [h]; simp), State.setFails,
      State.get_set_ne _ _ _ _ _ _ fun h => hfn (by rw [h]; simp)]
    rfl

theorem exec_lockoutEnd_not (h : s.get HFT.STATE_FIELD ≠ 0 ∨ s.get HFT.STATE_LOCKOUT = 0) : exec .lockoutEnd s = .next s := by
  have hexec : exec .lockoutEnd s = if s.on HFT.STATE_LOCKOUT && !s.on HFT.STATE_FIELD then
    .next ((s.setFails 0).set HFT.STATE_LOCKOUT 0) else .next s := rfl
  rw [hexec, if_neg]
  rcases h with h | h
  · simp [State.on, h]
  · simp [State.on, h]

end

end Sys2Proof.Machine
end

section
/-! PROOFS. R304, R305, R307, R313: the tag's layers 3 and 4, and O34. -/

namespace Sys2Proof.Machine

open Sys2Proof

section
variable (s : State)

/-- Another state than those named ignores a command of layers 3 and 4. -/
theorem State.tagIn_out {sts : List Nat} (h : s.tgSt ∉ sts) (g : State → State) : s.tagIn sts g = .next s :=
  congrArg Host.Outcome.next (if_neg (by simpa using h))

theorem State.tagIn_in {sts : List Nat} (h : s.tgSt ∈ sts) (g : State → State) : s.tagIn sts g = .next (g s) :=
  congrArg Host.Outcome.next (if_pos (by simpa using h))

/-- A command that its own conditions have ignored changes nothing, whatever the state. -/
theorem State.tagIn_same {sts : List Nat} {g : State → State} (h : s.tgSt ∈ sts → g s = s) : s.tagIn sts g = .next s := by
  by_cases hs : s.tgSt ∈ sts
  · rw [s.tagIn_in hs, h hs]
  · exact s.tagIn_out hs g

/-- The states with layer 4 open are the three from OPEN on. -/
theorem State.tgSt_open (h : tgOPEN ≤ s.tgSt) (h' : s.tgSt ≤ tgFACTORY) : s.tgSt ∈ [tgOPEN, tgINSTALLER, tgFACTORY] := by
  change 5 ≤ s.tgSt at h
  change s.tgSt ≤ 7 at h'
  change s.tgSt ∈ [5, 6, 7]
  simp only [List.mem_cons, List.not_mem_nil, or_false]
  omega

theorem State.tgSt_below (h : s.tgSt < tgOPEN) : s.tgSt ∉ [tgOPEN, tgINSTALLER, tgFACTORY] := by
  change s.tgSt < 5 at h
  change s.tgSt ∉ [5, 6, 7]
  simp only [List.mem_cons, List.not_mem_nil, or_false]
  omega

theorem exec_tagReqa : exec .tagReqa s = s.tagIn [tgIDLE] State.tagWake := rfl
theorem exec_tagWupa : exec .tagWupa s = s.tagIn [tgIDLE, tgHALT] State.tagWake := rfl

theorem regsSame_tagDrop (st : Nat) : regsSame s (s.tagDrop st) [HFT.STATE_TSTATE.key 0] := fun _ _ hf =>
  State.get_set_ne (s.updHft Hft.dropped) _ _ _ _ _ fun h => hf (by rw [h]; simp)

/-- READY entered (R305). -/
theorem State.tagWake_shows : s.tagWake.tgSt = tgREADY ∧ s.tagWake.hft.reply = [0x44, 0x00] ∧ s.tagWake.hft.blocks = [] ∧
    s.tagWake.hft.cascade = 1 ∧ s.tagWake.mem = s.mem ∧ regsSame s s.tagWake [HFT.STATE_TSTATE.key 0] :=
  ⟨s.tagDrop_state (st := tgREADY) (by decide), rfl, rfl, rfl, rfl, regsSame_tagDrop s tgREADY⟩

theorem exec_tagReqa_idle (h : s.tgSt = tgIDLE) :
    ∃ t, exec .tagReqa s = .next t ∧ t.tgSt = tgREADY ∧ t.hft.reply = [0x44, 0x00] ∧ t.hft.blocks = [] ∧ t.hft.cascade = 1 ∧
      t.mem = s.mem ∧ regsSame s t [HFT.STATE_TSTATE.key 0] := by
  rw [exec_tagReqa, s.tagIn_in (by simp [h])]
  exact ⟨_, rfl, s.tagWake_shows⟩

theorem exec_tagWupa_wakes (h : s.tgSt = tgIDLE ∨ s.tgSt = tgHALT) :
    ∃ t, exec .tagWupa s = .next t ∧ t.tgSt = tgREADY ∧ t.hft.reply = [0x44, 0x00] ∧ t.hft.blocks = [] ∧ t.hft.cascade = 1 ∧
      t.mem = s.mem ∧ regsSame s t [HFT.STATE_TSTATE.key 0] := by
  rw [exec_tagWupa, s.tagIn_in (by simpa using h)]
  exact ⟨_, rfl, s.tagWake_shows⟩

/-! ### Anticollision and selection (R305) -/

theorem length_unpackLsb (b : List Nat) : (unpackLsb b).length = 8 * b.length := by
  induction b with
  | nil => rfl
  | cons x b ih =>
    rw [unpackLsb, List.flatMap_cons, List.length_append, ← unpackLsb, ih, List.length_reverse, List.length_cons]
    have hx : (bitsMsb 8 x).length = 8 := by simp [bitsMsb]
    omega

theorem length_tagCln {level : Nat} (h : 1 ≤ level) (h' : level ≤ 2) : (tagCln level).length = 5 := by
  obtain rfl | rfl : level = 1 ∨ level = 2 := by omega
  · rfl
  · rfl

theorem exec_tagAnticoll (level : Nat) (known : List Bool) : exec (.tagAnticoll level known) s = s.tagIn [tgREADY] fun t =>
    if level == t.hft.cascade && known.length < 40 && (unpackLsb (tagCln level)).take known.length == known then
      t.tagSend (packLsb ((47 - known.length) / 8) ((unpackLsb (tagCln level)).drop known.length))
    else t := rfl

theorem exec_tagAnticoll_match {k : Nat} (h : s.tgSt = tgREADY) (h1 : 1 ≤ s.hft.cascade) (h2 : s.hft.cascade ≤ 2) (hk : k < 40) :
    exec (.tagAnticoll s.hft.cascade ((unpackLsb (tagCln s.hft.cascade)).take k)) s =
      .next { s with hft := { s.hft with reply := packLsb ((47 - k) / 8) ((unpackLsb (tagCln s.hft.cascade)).drop k), blocks := [] } } := by
  have hlen : ((unpackLsb (tagCln s.hft.cascade)).take k).length = k := by
    rw [List.length_take, length_unpackLsb, length_tagCln h1 h2]
    omega
  rw [exec_tagAnticoll, s.tagIn_in (by simp [h])]
  dsimp only
  rw [hlen, if_pos (by simp [hk])]
  rfl

theorem exec_tagAnticoll_other {level : Nat} {known : List Bool} (h : s.tgSt ≠ tgREADY ∨ level ≠ s.hft.cascade ∨ 40 ≤ known.length ∨
    (unpackLsb (tagCln level)).take known.length ≠ known) : exec (.tagAnticoll level known) s = .next s := by
  refine s.tagIn_same fun hs => if_neg ?_
  have hready : s.tgSt = tgREADY := by simpa using hs
  simp only [Bool.and_eq_true, beq_iff_eq, decide_eq_true_eq]
  rintro ⟨⟨hlevel, hlen⟩, hknown⟩
  rcases h with h | h | h | h
  · exact h hready
  · exact h hlevel
  · omega
  · exact h hknown

theorem exec_tagSelect_1 (h : s.tgSt = tgREADY) (hc : s.hft.cascade = 1) :
    exec (.tagSelect 1 (tagCln 1)) s = .next { s with hft := { s.hft with cascade := 2, reply := [0x04], blocks := [] } } :=
  (s.tagIn_in (by simp [h]) _).trans (congrArg Host.Outcome.next ((if_pos (by simp [hc])).trans (if_pos rfl)))

theorem exec_tagSelect_2 (h : s.tgSt = tgREADY) (hc : s.hft.cascade = 2) :
    exec (.tagSelect 2 (tagCln 2)) s =
      .next { s.set HFT.STATE_TSTATE tgACTIVE with hft := { s.hft with reply := [0x20], blocks := [] } } :=
  (s.tagIn_in (by simp [h]) _).trans (congrArg Host.Outcome.next ((if_pos (by simp [hc])).trans (if_neg (by decide))))

theorem exec_tagSelect_other {level : Nat} {cln : List Nat} (h : s.tgSt ≠ tgREADY ∨ level ≠ s.hft.cascade ∨ cln ≠ tagCln level) :
    exec (.tagSelect level cln) s = .next s := by
  refine s.tagIn_same fun hs => if_neg ?_
  have hready : s.tgSt = tgREADY := by simpa using hs
  simp only [Bool.and_eq_true, beq_iff_eq]
  rintro ⟨hlevel, hcln⟩
  rcases h with h | h | h
  · exact h hready
  · exact h hlevel
  · exact h hcln

/-! ### Layer 4 (R304, R307, R313) -/

theorem exec_tagRats (fsdi cid : Nat) : exec (.tagRats fsdi cid) s = s.tagIn [tgACTIVE] fun t =>
    if 14 < cid then t
    else ((t.tagDrop tgOPEN).updHft fun h => { h with cid := cid, fsd := fsdOf fsdi }).tagSend [0x05, 0x78, 0x00, 0x70, 0x02] := rfl

theorem exec_tagRats_opens {fsdi cid : Nat} (h : s.tgSt = tgACTIVE) (hc : cid ≤ 14) :
    ∃ t, exec (.tagRats fsdi cid) s = .next t ∧ t.tgSt = tgOPEN ∧ t.hft.cid = cid ∧ t.hft.fsd = fsdOf fsdi ∧
      t.hft.reply = [0x05, 0x78, 0x00, 0x70, 0x02] ∧ t.mem = s.mem ∧ regsSame s t [HFT.STATE_TSTATE.key 0] := by
  rw [exec_tagRats, s.tagIn_in (by simp [h]), if_neg (Nat.not_lt.2 hc)]
  exact ⟨_, rfl, s.tagDrop_state (st := tgOPEN) (by decide), rfl, rfl, rfl, rfl, regsSame_tagDrop s tgOPEN⟩

theorem exec_tagRats_other {fsdi cid : Nat} (h : s.tgSt ≠ tgACTIVE ∨ 14 < cid) : exec (.tagRats fsdi cid) s = .next s := by
  refine (exec_tagRats s fsdi cid).trans (s.tagIn_same fun hs => if_pos ?_)
  exact h.resolve_left (not_not.2 (by simpa using hs))

theorem exec_tagHlta : exec .tagHlta s = s.tagIn [tgACTIVE] fun t => t.tagDrop tgHALT := rfl

theorem exec_tagHlta_halts (h : s.tgSt = tgACTIVE) :
    ∃ t, exec .tagHlta s = .next t ∧ t.tgSt = tgHALT ∧ t.hft.reply = s.hft.reply ∧ t.mem = s.mem ∧
      regsSame s t [HFT.STATE_TSTATE.key 0] :=
  ⟨_, (exec_tagHlta s).trans (s.tagIn_in (by simp [h]) _), s.tagDrop_state (st := tgHALT) (by decide), rfl, rfl, regsSame_tagDrop s tgHALT⟩

theorem exec_tagPps (dri dsi : Nat) : exec (.tagPps dri dsi) s = s.tagIn [tgOPEN, tgINSTALLER, tgFACTORY] fun t =>
    if dri == 0 && dsi == 0 then t.tagSend [0xD0 + t.hft.cid] else t := rfl

theorem exec_tagPps_accepted (h : tgOPEN ≤ s.tgSt) (h' : s.tgSt ≤ tgFACTORY) :
    exec (.tagPps 0 0) s = .next { s with hft := { s.hft with reply := [0xD0 + s.hft.cid], blocks := [] } } :=
  (exec_tagPps s 0 0).trans (s.tagIn_in (s.tgSt_open h h') _)

theorem exec_tagPps_other {dri dsi : Nat} (h : dri ≠ 0 ∨ dsi ≠ 0 ∨ s.tgSt < tgOPEN) : exec (.tagPps dri dsi) s = .next s := by
  refine s.tagIn_same fun hs => if_neg ?_
  simp only [Bool.and_eq_true, beq_iff_eq]
  rintro ⟨hdri, hdsi⟩
  rcases h with h | h | h
  · exact h hdri
  · exact h hdsi
  · exact s.tgSt_below h hs

theorem exec_tagDeselect : exec .tagDeselect s = s.tagIn [tgOPEN, tgINSTALLER, tgFACTORY] fun t => (t.dropped tgHALT).tagSend [0xC2] := rfl

theorem exec_tagDeselect_halts (h : tgOPEN ≤ s.tgSt) (h' : s.tgSt ≤ tgFACTORY) :
    ∃ t, exec .tagDeselect s = .next t ∧ t.tgSt = tgHALT ∧ t.hft.reply = [0xC2] ∧ t.hft.blocks = [] ∧ t.hft.sk = [] ∧
      t.get HFT.PSTAT_PENDING = 0 ∧ t.mem = s.mem ∧ regsSame s t [HFT.STATE_TSTATE.key 0, HFT.PSTAT_PENDING.key 0] := by
  have hexec : exec .tagDeselect s = .next ((s.dropped tgHALT).tagSend [0xC2]) :=
    (exec_tagDeselect s).trans (s.tagIn_in (s.tgSt_open h h') _)
  refine ⟨_, hexec, s.dropped_state (st := tgHALT) (by decide), rfl, rfl, ?_, s.dropped_pending tgHALT, s.dropped_mem tgHALT, fun f n hf => ?_⟩
  · exact congrArg Hft.sk (s.dropped_hft tgHALT)
  · have hne : f.key n ≠ HFT.STATE_TSTATE.key 0 := fun hk => hf (by rw [hk]; simp)
    have hne' : f.key n ≠ HFT.PSTAT_PENDING.key 0 := fun hk => hf (by rw [hk]; simp)
    exact (State.get_set_ne (s.tagDrop tgHALT) HFT.PSTAT_PENDING f 0 0 n hne').trans
      (State.get_set_ne (s.updHft Hft.dropped) HFT.STATE_TSTATE f tgHALT 0 n hne)

theorem exec_tagWtxRequest : exec .tagWtxRequest s = s.tagIn [tgOPEN, tgINSTALLER, tgFACTORY] fun t =>
    if t.tagOwes then t.tagSend [0xF2, 0x01] else t := rfl

/-- An answer is owed exactly while the core, the arbiter or a commit has one outstanding. -/
theorem State.tagOwes_iff : s.tagOwes = true ↔ s.get HFT.PSTAT_PENDING ≠ 0 ∨ s.hft.fieldWait ≠ none ∨
    s.hft.commit.any (fun c => c.field && c.answer != []) = true := by
  unfold State.tagOwes
  rw [Bool.or_eq_true, Bool.or_eq_true, Option.isSome_iff_ne_none, State.on]
  cases s.hft.commit with
  | none => simp [or_comm]
  | some c =>
    simp only [Option.any_some, bne_iff_ne, ne_eq]
    tauto

theorem exec_tagWtxResponse : exec .tagWtxResponse s = s.tagIn [tgOPEN, tgINSTALLER, tgFACTORY] fun t => t.tagSend [] := rfl

theorem exec_tagWtxRequest_owed (h : tgOPEN ≤ s.tgSt) (h' : s.tgSt ≤ tgFACTORY)
    (ho : s.get HFT.PSTAT_PENDING ≠ 0 ∨ s.hft.fieldWait ≠ none ∨ s.hft.commit.any (fun c => c.field && c.answer != []) = true) :
    exec .tagWtxRequest s = .next { s with hft := { s.hft with reply := [0xF2, 0x01], blocks := [] } } :=
  (s.tagIn_in (s.tgSt_open h h') _).trans (congrArg Host.Outcome.next (if_pos (s.tagOwes_iff.2 ho)))

theorem exec_tagWtxRequest_none (hp : s.get HFT.PSTAT_PENDING = 0) (hw : s.hft.fieldWait = none)
    (hc : s.hft.commit.any (fun c => c.field && c.answer != []) = false) : exec .tagWtxRequest s = .next s := by
  refine s.tagIn_same fun _ => if_neg ?_
  rw [s.tagOwes_iff, hp, hw, hc]
  simp

end

/-- Settles O34: the pass does what the marker asks and no more where MRAM is sound, and each command of layers 3 and 4 acts only in
the states named. -/
theorem tagFieldAndLayers : Obligations.TagFieldAndLayers := by
  unfold Obligations.TagFieldAndLayers
  refine ⟨fun s v a hg he hl => s.exec_fieldOn_starts v a hg he hl, fun s v a hl h => s.exec_fieldOn_reports v a hl h,
    fun s v a hl hg => s.exec_fieldOn_guarded v a hl hg, fun s v a hl hg => exec_fieldOn_supplied s v a hl hg,
    fun s v a hg he hl hm hgen h => exec_fieldOn_sound s v a hg he hl hm hgen h,
    fun s v a _ _ hg hl h hm hr => exec_fieldOn_marked s v a hg hl h hm hr, fun s h => exec_fieldOff_lit s h,
    fun s h => exec_fieldOff_dark s h, fun s hl hf => exec_lockoutEnd_due s hl hf, fun s h => exec_lockoutEnd_not s h,
    fun s h => exec_tagReqa_idle s h, fun s h => (exec_tagReqa s).trans (s.tagIn_out (by simpa using h) _), fun s h => exec_tagWupa_wakes s h,
    fun s h1 h2 => (exec_tagWupa s).trans (s.tagIn_out (by simp [h1, h2]) _), fun s _ h h1 h2 hk => exec_tagAnticoll_match s h h1 h2 hk,
    fun s _ _ h => exec_tagAnticoll_other s h, fun s h hc => exec_tagSelect_1 s h hc, fun s h hc => exec_tagSelect_2 s h hc,
    fun s _ _ h => exec_tagSelect_other s h, fun s _ _ h hc => exec_tagRats_opens s h hc, fun s _ _ h => exec_tagRats_other s h,
    fun s h => exec_tagHlta_halts s h, fun s h => (exec_tagHlta s).trans (s.tagIn_out (by simpa using h) _), fun s h h' => exec_tagPps_accepted s h h',
    fun s _ _ h => exec_tagPps_other s h, fun s h h' => exec_tagDeselect_halts s h h', fun s h h' ho => exec_tagWtxRequest_owed s h h' ho,
    fun s hp hw hc => exec_tagWtxRequest_none s hp hw hc,
    fun s h => ⟨(exec_tagDeselect s).trans (s.tagIn_out (s.tgSt_below h) _), (exec_tagWtxRequest s).trans (s.tagIn_out (s.tgSt_below h) _),
      (exec_tagWtxResponse s).trans (s.tagIn_out (s.tgSt_below h) _)⟩,
    fun s h h' => (exec_tagWtxResponse s).trans (s.tagIn_in (s.tgSt_open h h') _)⟩

end Sys2Proof.Machine
end

section
/-! PROOFS. R367 to R379: what the Granary's operations leave unchanged. -/

namespace Sys2Proof.Machine

open Sys2Proof

theorem Fld.clear_of_above {f : Fld} {l : List Fld} {n : Nat} (h : ∀ g ∈ l, g.below f = true ∧ n < g.count) (k : Nat) : f.clear k l n :=
  fun g hg => (Nat.ne_of_lt (Fld.key_lt_of_below (h g hg).1 (h g hg).2 k)).symm

/-! ### Words popped from a queue (R449) -/

section
variable (s : State) (q : Nat)

/-- The registers of queue `q` that a pop writes. -/
def popFlds : List Fld := [QUE.STATUS_UNF, QUE.STATUS_WM_UP, QUE.STATUS_WM_DN, QUE.CNT_POP_COUNT, QUE.STATUS_SAT]

/-- A register above the queues' is none of those that a pop writes. -/
theorem Fld.clear_popFlds {f : Fld} (h : ∀ g ∈ popFlds, g.below f = true ∧ 15 < g.count) {q : Nat} (hq : q < 16) : f.clear 0 popFlds q :=
  Fld.clear_of_above (fun g hg => ⟨(h g hg).1, Nat.lt_of_le_of_lt (Nat.le_of_lt_succ hq) (h g hg).2⟩) 0

/-- A state that differs in queue `q` and its registers alone. -/
def Popped (q : Nat) (s t : State) : Prop :=
  (∃ r d, t = { s with regs := r, que := d }) ∧ ∀ (f : Fld) k, f.clear k popFlds q → t.get f k = s.get f k

theorem Popped.refl : Popped q s s := ⟨⟨_, _, rfl⟩, fun _ _ _ => rfl⟩

theorem Popped.trans {q : Nat} {s t u : State} (h : Popped q s t) (h' : Popped q t u) : Popped q s u := by
  obtain ⟨⟨r, d, rfl⟩, hg⟩ := h
  obtain ⟨⟨r', d', rfl⟩, hg'⟩ := h'
  exact ⟨⟨_, _, rfl⟩, fun f k hf => (hg' f k hf).trans (hg f k hf)⟩

theorem queSet_popped (w : List Nat) : Popped q s (s.queSet q w) := by
  unfold State.queSet
  extract_lets wm old s1
  split
  · exact ⟨⟨_, _, rfl⟩, fun f k hf => State.get_set_clear (s := s1) hf (by decide) _⟩
  · split
    · exact ⟨⟨_, _, rfl⟩, fun f k hf => State.get_set_clear (s := s1) hf (by decide) _⟩
    · exact ⟨⟨_, _, rfl⟩, fun _ _ _ => rfl⟩

theorem bump_popped (c : Fld) (hc : c ∈ popFlds) (d : Fld) (hd : d ∈ popFlds) : Popped q s (s.bump c d q) := by
  refine ⟨?_, fun f k hf => State.get_bump_clear hf hc hd _⟩
  unfold State.bump
  split
  · exact ⟨_, _, rfl⟩
  · exact ⟨_, _, rfl⟩

theorem quePop_popped : Popped q s (s.quePop q).2 := by
  unfold State.quePop
  split
  · exact ⟨⟨_, _, rfl⟩, fun f k hf => State.get_set_clear hf (by decide) _⟩
  · exact (queSet_popped s q _).trans (bump_popped _ q _ (by decide) _ (by decide))

theorem popWords_popped (n : Nat) : Popped q s (s.popWords q n) :=
  State.forN_keep (Popped q s) (fun _ t => (t.quePop q).2) n s (Popped.refl s q) fun _ _ t ht => ht.trans (quePop_popped t q)

theorem State.queWords_queSet (w : List Nat) : (s.queSet q w).queWords q = w := by
  have h : ({ s with que := Tab.set [] s.que q w } : State).queWords q = w := Tab.get_set_same [] s.que q w
  unfold State.queSet
  extract_lets wm old s1
  split
  · exact h
  · split
    · exact h
    · exact h

theorem State.queWords_quePop : (s.quePop q).2.queWords q = (s.queWords q).tail := by
  unfold State.quePop
  split
  · next h => exact h.trans (by rw [h]; rfl)
  · next w r h =>
    rw [State.queWords, State.bump_que, h]
    exact s.queWords_queSet q r

theorem State.popWords_succ (n : Nat) : s.popWords q (n + 1) = ((s.popWords q n).quePop q).2 := by
  unfold State.popWords State.forN
  rw [List.range_succ, List.foldl_append]
  rfl

theorem State.queWords_popWords (n : Nat) : (s.popWords q n).queWords q = (s.queWords q).drop n := by
  induction n with
  | zero => rfl
  | succ n ih => rw [s.popWords_succ, State.queWords_quePop, ih, List.tail_drop]

end

/-! ### The queues beside a fold -/

section
variable (s : State)

theorem State.faultLog_que (base cap code inst data : Nat) : (s.faultLog base cap code inst data).que = s.que := by
  obtain ⟨x, hx⟩ := s.faultLog_form base cap code inst data
  rw [hx]

theorem State.grnStop_que (code : Nat) : (s.grnStop code).que = s.que := by
  unfold State.grnStop State.logA
  rw [State.faultLog_que, State.set_que, State.set_que, State.set_que]

theorem State.busError_que (a init : Nat) (write denied : Bool) : (s.busError a init write denied).que = s.que := by
  unfold State.busError
  extract_lets s1 s2 info u
  have h2 : s2.que = s.que := by
    simp only [s2, s1, State.bump_que, State.set_que]
  have hu : u.que = s.que := (State.faultLog_que _ _ _ _ _ _).trans h2
  clear_value u s2
  split
  · exact h2
  · exact hu

theorem State.grnDma_que (w : List (List Nat)) : ∀ (s : State) (a : Nat), (s.grnDma a w).2.que = s.que := by
  induction w with
  | nil => exact fun _ _ => rfl
  | cons b r ih =>
    intro s a
    unfold State.grnDma
    split
    · rfl
    · split
      · exact (State.grnStop_que _ _).trans (State.busError_que _ _ _ _ _)
      · split
        · obtain ⟨x, hx⟩ := s.wrBytes_form a b
          rw [ih, hx]
        · exact ih _ _

theorem State.ringDrain_que (l : List (Nat × List Nat)) : ∀ s : State, (s.ringDrain l).que = s.que := by
  induction l with
  | nil => exact fun _ => rfl
  | cons n r ih =>
    intro s
    unfold State.ringDrain
    extract_lets head slot d
    have hd : d.2.que = s.que := State.grnDma_que _ _ _
    clear_value d
    split
    · rfl
    · split
      · exact (ih _).trans hd
      · exact hd

theorem State.note_que (kind h : Nat) (e : List Nat) : (s.note kind h e).que = s.que := by
  unfold State.note
  extract_lets s1
  have h1 : s1.que = s.que := by
    simp only [s1]
    split
    · exact State.bump_que ..
    · split
      · exact State.bump_que ..
      · split
        · exact State.bump_que ..
        · rfl
  exact (State.ringDrain_que _ _).trans h1

theorem State.when_que {c : Bool} {g : State → State} (h : (g s).que = s.que) : (s.when c g).que = s.que := by
  unfold State.when
  split
  · exact h
  · rfl

theorem State.entryPut_que (h : Nat) (e : List Nat) : (s.entryPut h e).que = s.que := rfl

theorem State.badgeSeen_que (e rec : List Nat) : (s.badgeSeen e rec).que = s.que := by
  unfold State.badgeSeen
  split
  · rfl
  · rfl

theorem State.foldEnd_que (h : Nat) (e rec : List Nat) (quiet : Bool) : (s.foldEnd h e rec quiet).que = s.que := by
  unfold State.foldEnd
  rw [State.badgeSeen_que, State.entryPut_que, State.when_que]
  exact s.note_que _ _ _

theorem State.sectorPart_que (v : Int) (step : Nat) : (s.sectorPart v step).2.que = s.que := by
  unfold State.sectorPart
  split
  · rfl
  · rfl

theorem State.sectorOf_que (rec : List Nat) (band : Nat) : (s.sectorOf rec band).2.que = s.que := by
  unfold State.sectorOf
  extract_lets a
  have ha : a.2.que = s.que := State.sectorPart_que _ _ _
  clear_value a
  split
  · exact ha
  · exact (State.sectorPart_que _ _ _).trans ha

theorem State.foldSector_que (h : Nat) (e rec : List Nat) (quiet : Bool) : (s.foldSector h e rec quiet).2.que = s.que := by
  unfold State.foldSector
  split
  · rfl
  · extract_lets q
    have hq : q.2.que = s.que := State.sectorOf_que _ _ _
    clear_value q
    split
    · exact hq
    · split
      · exact hq
      · split
        · cases quiet
          · exact (State.note_que _ _ _ _).trans hq
          · exact hq
        · exact hq

/-- The entry of an identity found, with the sighting in it. -/
def seenEntry (e rec : List Nat) : List Nat :=
  let e1 := enFlag e 1 true
  let e2 := if notOlder e1 rec then lastFrom e1 rec else e1
  patch e2 22 (toLe 2 (min 0xFFFF (le16 e2 22 + 1)))

/-- A sighting folded into slot `h`, which holds its identity. -/
def State.foldKnown (h : Nat) (rec : List Nat) (replay : Bool) : State :=
  let s1 := s.when (!enPRESENT (s.entry h) && !replay) fun t => t.note 1 h (enFlag (s.entry h) 1 true)
  let q := s1.foldSector h (seenEntry (s.entry h) rec) rec replay
  q.2.foldEnd h q.1 rec replay

theorem State.foldIndex_known {recs : List (List Nat)} {h : Nat} (hfind : s.grnFind (fullId recs) = some h) (replay : Bool) :
    s.foldIndex recs replay = (true, s.foldKnown h (recs.headD []) replay) := by
  unfold State.foldIndex
  extract_lets rec0 id
  have hid : s.grnFind id = some h := hfind
  clear_value id
  rw [hid]
  rfl

theorem State.foldKnown_que (h : Nat) (rec : List Nat) (replay : Bool) : (s.foldKnown h rec replay).que = s.que := by
  unfold State.foldKnown
  extract_lets s1 q
  have h1 : s1.que = s.que := State.when_que s (State.note_que _ _ _ _)
  have hq : q.2.que = s.que := (State.foldSector_que _ _ _ _ _).trans h1
  clear_value q
  exact (State.foldEnd_que _ _ _ _ _).trans hq

theorem State.foldIndex_que (recs : List (List Nat)) (replay : Bool) : (s.foldIndex recs replay).2.que = s.que := by
  cases hfind : s.grnFind (fullId recs) with
  | some h =>
    rw [s.foldIndex_known hfind]
    exact s.foldKnown_que _ _ _
  | none =>
    unfold State.foldIndex
    extract_lets rec0 id placed f q
    have hid : s.grnFind id = none := hfind
    have hq : q.2.que = s.que := by
      simp only [q]
      cases placed
      · rfl
      · exact State.sectorOf_que _ _ _
    clear_value id rec0 q
    rw [hid]
    dsimp only
    cases s.grnRoom id with
    | none => exact State.set_que _ _ _ _
    | some h => exact (State.foldEnd_que _ _ _ _ _).trans ((State.when_que _ (State.note_que _ _ _ _)).trans ((State.when_que q.2 rfl).trans hq))

theorem State.blockWrite_que : s.blockWrite.que = s.que := by
  unfold State.blockWrite
  split
  · rfl
  · split
    · exact (State.grnStop_que _ _).trans (State.busError_que _ _ _ _ _)
    · rfl

theorem State.journal_que (rec : List Nat) : (s.journal rec).que = s.que := by
  unfold State.journal
  extract_lets n d s1
  have hd : d.2.que = s.que := State.grnDma_que _ _ _
  have h1 : s1.que = s.que := hd
  clear_value s1 d
  split
  · exact hd
  · skip
    split
    · exact (State.blockWrite_que s1).trans h1
    · exact h1

theorem State.ringMark_que : s.ringMark.que = s.que := State.when_que s rfl

end

end Sys2Proof.Machine
end

section
/-! PROOFS. R22, R367, R369, R374, R379: the Granary's DMA into system SRAM, and the fold of a record. -/

namespace Sys2Proof.Machine

open Sys2Proof

/-! ### Words written by DMA (R22) -/

section
variable (s : State)

theorem mapOk_granary {a : Nat} (hlo : 0x10000000 ≤ a) (hhi : a < 0x10400000) (write : Bool) : mapOk colGRN a write = true := by
  cases write <;> simp [mapOk, mapRow_sram hlo hhi, mapWriters, mapReaders, colGRN]

/-- Words that lie in system SRAM are written at once, and nothing else is. -/
theorem State.grnDma_sram (w : List (List Nat)) : ∀ (s : State) (a : Nat), s.get GRN.STATE_STATE ≠ 5 → (∀ b ∈ w, b.length = 4) →
    0x10000000 ≤ a → a + 4 * w.length ≤ 0x10400000 →
    ∃ x, s.grnDma a w = (true, { s with mem := x }) ∧ memSame s { s with mem := x } a (4 * w.length) := by
  induction w with
  | nil => exact fun s a _ _ _ _ => ⟨s.mem, rfl, fun _ _ => rfl⟩
  | cons b r ih =>
    intro s a hst hlen hlo hhi
    rw [List.length_cons] at hhi
    obtain ⟨x, hx⟩ := s.wrBytes_form a b
    have hin := hlen b (List.mem_cons_self ..)
    obtain ⟨y, hy, hsame⟩ := ih { s with mem := x } (a + 4) hst (fun c hc => hlen c (List.mem_cons_of_mem _ hc)) (by omega) (by omega)
    refine ⟨y, ?_, fun c hc => ?_⟩
    · unfold State.grnDma
      rw [if_neg (by simpa using hst), mapOk_granary hlo (by omega), mapRow_sram hlo (by omega), hx]
      exact hy
    · rw [List.length_cons] at hc
      have hkeep : (s.wrBytes a b).rd8 c = s.rd8 c := s.rd8_wrBytes_out _ _ _ (by omega)
      rw [hx] at hkeep
      exact (hsame c (by omega)).trans hkeep

theorem length_words4 (b : List Nat) : (words4 b).length = (b.length + 3) / 4 := by simp [words4]

theorem length_slice (b : List Nat) (off n : Nat) : (slice b off n).length = n := by simp [slice]

theorem length_of_mem_words4 {b w : List Nat} (h : w ∈ words4 b) : w.length = 4 := by
  obtain ⟨k, -, rfl⟩ := List.mem_map.1 h
  exact length_slice _ _ _

/-! ### An entry with a sighting in it (R368, R369) -/

theorem byteAt_append_left {a b : List Nat} {i : Nat} (h : i < a.length) : byteAt (a ++ b) i = byteAt a i := by
  simp [byteAt, List.getD_eq_getElem?_getD, List.getElem?_append_left h]

theorem byteAt_slice {b : List Nat} {n i : Nat} (h : i < n) : byteAt (slice b 0 n) i = byteAt b i := by
  simp [byteAt, slice, List.getD_eq_getElem?_getD, h]

/-- A patch leaves the bytes below it. -/
theorem byteAt_patch_below (b : List Nat) {off i : Nat} (v : List Nat) (h : i < off) : byteAt (patch b off v) i = byteAt b i := by
  unfold patch
  rw [List.append_assoc, byteAt_append_left (by rwa [length_slice]), byteAt_slice h]

theorem byteAt_patch_one (b : List Nat) (off v : Nat) : byteAt (patch b off [v]) off = v := by
  simp [byteAt, patch, List.getD_eq_getElem?_getD, length_slice]

theorem enWATCH_enFlag_present (e : List Nat) (b : Bool) : enWATCH (enFlag e 1 b) = enWATCH e := by
  unfold enWATCH enFlag
  rw [byteAt_patch_one, bitOf_putBit_ne _ _ (by decide)]

theorem enWATCH_seenEntry (e rec : List Nat) : enWATCH (seenEntry e rec) = enWATCH e := by
  rw [← enWATCH_enFlag_present e true]
  unfold seenEntry enWATCH
  dsimp only
  rw [byteAt_patch_below _ _ (by decide)]
  split
  · exact congrArg (fun x => bitOf x 3) (byteAt_patch_below _ _ (by decide))
  · rfl

/-- A record without a bearing leaves the sector. -/
theorem State.foldSector_open {rec : List Nat} (hb : le16 rec 16 = 0x8000) (h : Nat) (e : List Nat) (quiet : Bool) :
    s.foldSector h e rec quiet = (e, s) := if_pos (by simp [hb])

/-- A sighting without bearing of an unwatched tag that is present notifies nothing. -/
theorem State.foldKnown_quiet {h : Nat} {rec : List Nat} (hp : enPRESENT (s.entry h) = true) (hw : enWATCH (s.entry h) = false)
    (hb : le16 rec 16 = 0x8000) :
    s.foldKnown h rec false = (s.entryPut h (seenEntry (s.entry h) rec)).badgeSeen (seenEntry (s.entry h) rec) rec := by
  unfold State.foldKnown
  dsimp only
  rw [hp, State.when, if_neg (by decide), s.foldSector_open hb]
  unfold State.foldEnd
  rw [enWATCH_seenEntry, hw, State.when, if_neg (by decide)]

/-- Such a fold leaves the registers, memory and the engine's own state. -/
theorem State.foldKnown_leaves {h : Nat} {rec : List Nat} (hp : enPRESENT (s.entry h) = true) (hw : enWATCH (s.entry h) = false)
    (hb : le16 rec 16 = 0x8000) : (s.foldKnown h rec false).regs = s.regs ∧ (s.foldKnown h rec false).mem = s.mem ∧
    (s.foldKnown h rec false).grn = s.grn := by
  rw [s.foldKnown_quiet hp hw hb]
  unfold State.badgeSeen
  split
  · exact ⟨rfl, rfl, rfl⟩
  · exact ⟨rfl, rfl, rfl⟩

end

/-! ### The index after a pop -/

/-- A pop leaves what the engine reads of the index. -/
theorem Popped.extRead {q : Nat} {s t : State} (h : Popped q s t) (sel off n : Nat) : t.extRead sel off n = s.extRead sel off n := by
  obtain ⟨⟨r, d, rfl⟩, -⟩ := h
  rfl

section
variable {q : Nat} {s t : State} (h : Popped q s t) (hq : q < 16)
include h hq

theorem Popped.get_grn {f : Fld} (hf : ∀ g ∈ popFlds, g.below f = true ∧ 15 < g.count) : t.get f = s.get f :=
  h.2 f 0 (Fld.clear_popFlds hf hq)

theorem Popped.slotOff (k : Nat) : t.slotOff k = s.slotOff k := by
  unfold State.slotOff State.grnBase
  rw [h.get_grn hq (by decide)]

theorem Popped.entry (k : Nat) : t.entry k = s.entry k := by
  unfold State.entry State.grnSel
  rw [h.extRead, h.slotOff hq, h.get_grn hq (by decide)]

theorem Popped.grnFind (id : List Nat) : t.grnFind id = s.grnFind id := by
  have hslots : t.grnSlots = s.grnSlots := by
    unfold State.grnSlots
    rw [h.get_grn hq (by decide)]
  unfold State.grnFind State.probe
  rw [hslots, funext fun k => h.entry hq k]

end

end Sys2Proof.Machine
end

section
/-! PROOFS. R367, R369, R374, R379: the engine's folds. -/

namespace Sys2Proof.Machine

open Sys2Proof

section
variable (s : State)

theorem State.popWords_zero (q : Nat) : s.popWords q 0 = s := rfl

/-- A counter read after it is bumped depends on what it read before alone. -/
theorem State.get_bump_congr {t : State} {c d : Fld} (h : t.get c = s.get c) (hd : c.apart d = true) :
    (t.bump c d).get c = (s.bump c d).get c := by
  unfold State.bump
  rw [h]
  split
  · rw [State.get_set_same, State.get_set_same]
  · rw [State.get_set_apart _ hd, State.get_set_apart _ hd, State.get_set_same, State.get_set_same]

/-! ### When a fold runs -/

theorem exec_recordFold_waits (h : s.get GRN.STATE_STATE ≠ 2 ∨ (s.queWords (s.get GRN.CTRL_QSRC)).length < 16) :
    exec .recordFold s = .next s := if_pos (by simpa using h)

/-- A fold that a whole record asks for in RUN. -/
theorem exec_recordFold_asked (hst : s.get GRN.STATE_STATE = 2) (hlen : 16 ≤ (s.queWords (s.get GRN.CTRL_QSRC)).length) :
    exec .recordFold s = if s.ringFull || s.grn.notes != [] then .next s.ringMark
      else if s.on MPT.CTRL_EN then .next s.grnFold else .next (s.grnStop 2) := if_neg (by simp [hst, hlen])

theorem exec_recordFold_held (hst : s.get GRN.STATE_STATE = 2) (hlen : 16 ≤ (s.queWords (s.get GRN.CTRL_QSRC)).length)
    (h : s.ringFull = true ∨ s.grn.notes ≠ []) :
    exec .recordFold s = .next (if s.ringFull then s.set GRN.STATUS_NRING_FULL 1 else s) := by
  rw [exec_recordFold_asked s hst hlen, if_pos (by simpa using h)]
  rfl

theorem exec_recordFold_portless (hst : s.get GRN.STATE_STATE = 2) (hlen : 16 ≤ (s.queWords (s.get GRN.CTRL_QSRC)).length)
    (hr : s.ringFull = false) (hn : s.grn.notes = []) (hp : s.get MPT.CTRL_EN = 0) : exec .recordFold s = .next (s.grnStop 2) := by
  rw [exec_recordFold_asked s hst hlen, if_neg (by simp [hr, hn]), if_neg (by simp [State.on, hp])]

theorem exec_recordFold_folds (hst : s.get GRN.STATE_STATE = 2) (hlen : 16 ≤ (s.queWords (s.get GRN.CTRL_QSRC)).length)
    (hr : s.ringFull = false) (hn : s.grn.notes = []) (hp : s.get MPT.CTRL_EN ≠ 0) : exec .recordFold s = .next s.grnFold := by
  rw [exec_recordFold_asked s hst hlen, if_neg (by simp [hr, hn]), if_pos (by simpa [State.on] using hp)]

/-! ### What a fold takes off the queue -/

/-- A record that checks, with its continuations, folded. -/
def State.foldTaken (q : Nat) (recs : List (List Nat)) : State :=
  let r := (s.popWords q (16 * recs.length)).foldIndex recs false
  let s1 := if r.1 then r.2.bump GRN.CNT_REC_COUNT GRN.STATUS_SAT
    else r.2.setObj 0x6030 6 (toLe 4 (r.2.objNum 0x6030 6 0 + 1))
  (s1.forL recs fun b t => t.journal b).ringMark

/-- A record that does not check, counted. -/
def State.foldBad (q : Nat) : State := ((s.popWords q 16).set GRN.STATUS_REC_BAD 1).bump GRN.CNT_BAD_COUNT GRN.STATUS_SAT

theorem State.grnFold_good {r : List Nat} (hr : r = wordsRec (s.queWords (s.get GRN.CTRL_QSRC)) 0) (hok : recOk r = true)
    (hc : recCont r = false) :
    s.grnFold = s.foldTaken (s.get GRN.CTRL_QSRC) (r :: contRecs 8 (s.queWords (s.get GRN.CTRL_QSRC)) 1) := by
  subst hr
  exact if_pos (by rw [hok, hc]; rfl)

theorem State.grnFold_bad {r : List Nat} (hr : r = wordsRec (s.queWords (s.get GRN.CTRL_QSRC)) 0)
    (h : recOk r = false ∨ recCont r = true) :
    s.grnFold = (s.foldBad (s.get GRN.CTRL_QSRC)).popWords (s.get GRN.CTRL_QSRC)
      (resyncLen ((s.foldBad (s.get GRN.CTRL_QSRC)).queWords (s.get GRN.CTRL_QSRC))
        ((s.foldBad (s.get GRN.CTRL_QSRC)).queWords (s.get GRN.CTRL_QSRC)).length) := by
  subst hr
  refine if_neg ?_
  rcases h with h | h
  · simp [h]
  · simp [h]

theorem State.foldTaken_words (q : Nat) (recs : List (List Nat)) :
    (s.foldTaken q recs).queWords q = (s.queWords q).drop (16 * recs.length) := by
  have hque : (s.foldTaken q recs).que = (s.popWords q (16 * recs.length)).que := by
    unfold State.foldTaken
    extract_lets r s1
    have hr : r.2.que = (s.popWords q (16 * recs.length)).que := State.foldIndex_que _ _ _
    have h1 : s1.que = r.2.que := by
      simp only [s1]
      split
      · exact State.bump_que ..
      · rfl
    rw [State.ringMark_que, ← hr, ← h1]
    exact State.forL_keep (fun t => t.que = s1.que) (fun b t => t.journal b) recs s1 rfl fun b _ t ht => (t.journal_que b).trans ht
  rw [State.queWords, hque]
  exact s.queWords_popWords q _

theorem State.foldBad_words (q : Nat) : (s.foldBad q).queWords q = (s.queWords q).drop 16 := by
  unfold State.foldBad
  rw [State.queWords, State.bump_que, State.set_que]
  exact s.queWords_popWords q 16

/-- A fold takes one record at least. -/
theorem State.grnFold_takes : ∃ k, 16 ≤ k ∧
    s.grnFold.queWords (s.get GRN.CTRL_QSRC) = (s.queWords (s.get GRN.CTRL_QSRC)).drop k := by
  by_cases h : recOk (wordsRec (s.queWords (s.get GRN.CTRL_QSRC)) 0) = true ∧
      recCont (wordsRec (s.queWords (s.get GRN.CTRL_QSRC)) 0) = false
  · obtain ⟨hok, hc⟩ := h
    rw [s.grnFold_good rfl hok hc, State.foldTaken_words]
    exact ⟨_, by rw [List.length_cons]; omega, rfl⟩
  · rw [s.grnFold_bad rfl (by simpa [imp_iff_not_or] using h), State.queWords_popWords, State.foldBad_words, List.drop_drop]
    exact ⟨_, by omega, rfl⟩

theorem exec_recordFold_takes {q : Nat} (hq : q = s.get GRN.CTRL_QSRC) (hst : s.get GRN.STATE_STATE = 2)
    (hlen : 16 ≤ (s.queWords q).length) (hr : s.ringFull = false) (hn : s.grn.notes = []) (hp : s.get MPT.CTRL_EN ≠ 0) :
    ∃ t, exec .recordFold s = .next t ∧ (t.queWords q).length + 16 ≤ (s.queWords q).length := by
  subst hq
  obtain ⟨k, hk, hwords⟩ := s.grnFold_takes
  refine ⟨_, exec_recordFold_folds s hst hlen hr hn hp, ?_⟩
  rw [hwords, List.length_drop]
  omega

/-! ### A bad record (R453) -/

/-- The registers of the queue lie below the engine's, so a pop keeps the counts of the engine. -/
theorem exec_recordFold_bad {q : Nat} (hq : q = s.get GRN.CTRL_QSRC) (hq16 : q < 16) (hst : s.get GRN.STATE_STATE = 2)
    (hlen : (s.queWords q).length = 16)
    (hbad : recOk (wordsRec (s.queWords q) 0) = false ∨ recCont (wordsRec (s.queWords q) 0) = true) (hr : s.ringFull = false)
    (hn : s.grn.notes = []) (hp : s.get MPT.CTRL_EN ≠ 0) :
    ∃ t, exec .recordFold s = .next t ∧ t.queWords q = [] ∧ t.get GRN.STATUS_REC_BAD = 1 ∧
      t.get GRN.CNT_BAD_COUNT = (s.bump GRN.CNT_BAD_COUNT GRN.STATUS_SAT).get GRN.CNT_BAD_COUNT ∧ t.grn = s.grn ∧ t.mpt = s.mpt ∧
      t.mem = s.mem := by
  subst hq
  have hexec := exec_recordFold_folds s hst (by omega) hr hn hp
  have hrest : (s.foldBad (s.get GRN.CTRL_QSRC)).queWords (s.get GRN.CTRL_QSRC) = [] := by
    rw [s.foldBad_words, List.drop_eq_nil_of_le (by omega)]
  rw [s.grnFold_bad rfl hbad, hrest, List.length_nil, resyncLen, State.popWords_zero] at hexec
  have hpop := popWords_popped s (s.get GRN.CTRL_QSRC) 16
  generalize hq : s.get GRN.CTRL_QSRC = q at *
  refine ⟨s.foldBad q, hexec, hrest, ?_, ?_, ?_⟩
  · unfold State.foldBad
    rw [State.get_bump_apart _ (by decide) (by decide), State.get_set_fits _ (by decide)]
  · unfold State.foldBad
    refine State.get_bump_congr s ?_ (by decide)
    rw [State.get_set_apart _ (by decide), hpop.get_grn hq16 (by decide)]
  · unfold State.foldBad
    rw [State.bump_grn, State.bump_mpt, State.bump_mem, State.set_grn, State.set_mpt, State.set_mem]
    obtain ⟨⟨r, d, hform⟩, -⟩ := hpop
    rw [hform]
    exact ⟨rfl, rfl, rfl⟩

/-! ### A record staged (R372) -/

/-- The engine's own state with one more record staged. -/
def Grn.staged (g : Grn) (c : Nat) : Grn := { g with nrec := g.nrec + 1, firstCycle := c }

/-- A record that does not fill the staged block is written to its place in system SRAM. -/
theorem State.journal_stages (rec : List Nat) (hst : s.get GRN.STATE_STATE ≠ 5) (hn : s.grn.nrec < 62)
    (hlo : 0x10000000 ≤ s.get GRN.JSTAGE_VALUE) (hhi : s.get GRN.JSTAGE_VALUE < 0x103FF000) :
    ∃ x c, s.journal rec = { s with mem := x, grn := s.grn.staged c } ∧
      memSame s { s with mem := x } (s.get GRN.JSTAGE_VALUE + 64 + 64 * s.grn.nrec) 64 := by
  have hlen : (words4 (padTo 64 rec)).length = 16 := by rw [length_words4, padTo, length_slice]
  obtain ⟨x, hx, hsame⟩ := State.grnDma_sram (words4 (padTo 64 rec)) s (s.get GRN.JSTAGE_VALUE + 64 + 64 * s.grn.nrec) hst
    (fun b hb => length_of_mem_words4 hb) (by omega) (by omega)
  rw [hlen] at hsame
  refine ⟨x, if s.grn.nrec == 0 then le32 rec 0 else s.grn.firstCycle, ?_, hsame⟩
  unfold State.journal
  dsimp only
  rw [hx, if_neg (by simp), if_neg (by simp; omega)]
  rfl

theorem contRecs_alone {w : List Nat} (h : w.length = 16) (n : Nat) : contRecs n w 1 = [] := by
  cases n with
  | zero => rfl
  | succ n =>
    unfold contRecs
    refine if_neg ?_
    rw [h]
    simp

/-- A record of a present, unwatched tag without bearing: counted and staged. -/
theorem exec_recordFold_counted {r : List Nat} {h q : Nat} (hq : q = s.get GRN.CTRL_QSRC) (hq16 : q < 16)
    (hst : s.get GRN.STATE_STATE = 2) (hlen : (s.queWords q).length = 16) (hr : r = wordsRec (s.queWords q) 0) (hok : recOk r = true)
    (hc : recCont r = false) (hfull : s.ringFull = false) (hnotes : s.grn.notes = []) (hp : s.get MPT.CTRL_EN ≠ 0)
    (hfind : s.grnFind (fullId [r]) = some h) (hpres : enPRESENT (s.entry h) = true) (hwatch : enWATCH (s.entry h) = false)
    (hb : le16 r 16 = 0x8000) (hn : s.grn.nrec < 62) (hlo : 0x10000000 ≤ s.get GRN.JSTAGE_VALUE)
    (hhi : s.get GRN.JSTAGE_VALUE < 0x103FF000) :
    ∃ t, exec .recordFold s = .next t ∧ t.queWords q = [] ∧
      t.get GRN.CNT_REC_COUNT = (s.bump GRN.CNT_REC_COUNT GRN.STATUS_SAT).get GRN.CNT_REC_COUNT ∧
      t.grn.nrec = s.grn.nrec + 1 ∧ t.get GRN.NR_HEAD_VALUE = s.get GRN.NR_HEAD_VALUE ∧
      memSame s t (s.get GRN.JSTAGE_VALUE + 64 + 64 * s.grn.nrec) 64 := by
  subst hq
  have hexec := exec_recordFold_folds s hst (by omega) hfull hnotes hp
  have hgood := s.grnFold_good hr hok hc
  rw [contRecs_alone hlen] at hgood
  have hwords := s.foldTaken_words (s.get GRN.CTRL_QSRC) [r]
  rw [List.length_singleton, List.drop_eq_nil_of_le (by omega)] at hwords
  rw [hgood] at hexec
  have hpop := popWords_popped s (s.get GRN.CTRL_QSRC) 16
  have htaken : s.foldTaken (s.get GRN.CTRL_QSRC) [r] =
      ((((s.popWords (s.get GRN.CTRL_QSRC) 16).foldKnown h r false).bump GRN.CNT_REC_COUNT GRN.STATUS_SAT).journal r).ringMark := by
    unfold State.foldTaken
    rw [List.length_singleton, State.foldIndex_known _ (recs := [r]) ((hpop.grnFind hq16 _).trans hfind)]
    rfl
  generalize hq : s.get GRN.CTRL_QSRC = q at *
  generalize s.popWords q 16 = p at *
  rw [htaken] at hexec hwords
  have hentry := hpop.entry hq16 h
  obtain ⟨hregs, hmem, hgrn⟩ := p.foldKnown_leaves (rec := r) (by rw [hentry]; exact hpres) (by rw [hentry]; exact hwatch) hb
  generalize p.foldKnown h r false = k at *
  have hget : ∀ f : Fld, (∀ g ∈ popFlds, g.below f = true ∧ 15 < g.count) → k.get f = s.get f := fun f hf => by
    rw [← hpop.get_grn hq16 hf, State.get, hregs]
    rfl
  have hbump : ∀ f : Fld, (∀ g ∈ popFlds, g.below f = true ∧ 15 < g.count) → f.apart GRN.CNT_REC_COUNT = true →
      f.apart GRN.STATUS_SAT = true → (k.bump GRN.CNT_REC_COUNT GRN.STATUS_SAT).get f = s.get f := fun f hf hc hs => by
    rw [State.get_bump_apart _ hc hs, hget f hf]
  have hgrnb : (k.bump GRN.CNT_REC_COUNT GRN.STATUS_SAT).grn = s.grn := by
    obtain ⟨⟨_, _, hform⟩, -⟩ := hpop
    rw [State.bump_grn, hgrn, hform]
  have hmemb : (k.bump GRN.CNT_REC_COUNT GRN.STATUS_SAT).mem = s.mem := by
    obtain ⟨⟨_, _, hform⟩, -⟩ := hpop
    rw [State.bump_mem, hmem, hform]
  have hcnt : (k.bump GRN.CNT_REC_COUNT GRN.STATUS_SAT).get GRN.CNT_REC_COUNT =
      (s.bump GRN.CNT_REC_COUNT GRN.STATUS_SAT).get GRN.CNT_REC_COUNT := State.get_bump_congr s (hget _ (by decide)) (by decide)
  generalize k.bump GRN.CNT_REC_COUNT GRN.STATUS_SAT = b at *
  have hstage : b.get GRN.JSTAGE_VALUE = s.get GRN.JSTAGE_VALUE := hbump _ (by decide) (by decide) (by decide)
  have hstate : b.get GRN.STATE_STATE = 2 := (hbump _ (by decide) (by decide) (by decide)).trans hst
  have hhead : b.get GRN.NR_HEAD_VALUE = s.get GRN.NR_HEAD_VALUE := hbump _ (by decide) (by decide) (by decide)
  obtain ⟨x, c, hj, hsame⟩ := b.journal_stages r (by rw [hstate]; decide) (by rw [hgrnb]; exact hn) (by rw [hstage]; exact hlo)
    (by rw [hstage]; exact hhi)
  rw [hj] at hexec hwords
  rw [hstage, hgrnb] at hsame
  have hrd : memSame s { b with mem := x, grn := b.grn.staged c } (s.get GRN.JSTAGE_VALUE + 64 + 64 * s.grn.nrec) 64 := fun y hy => by
    have h1 := hsame y hy
    unfold State.rd8 at h1 ⊢
    rw [hmemb] at h1
    exact h1
  refine ⟨_, hexec, hwords, ?_, ?_, ?_, ?_⟩
  · unfold State.ringMark State.when
    split
    · rw [State.get_set_apart _ (by decide)]
      exact hcnt
    · exact hcnt
  · unfold State.ringMark State.when
    split
    · rw [State.set_grn, hgrnb]
      rfl
    · rw [hgrnb]
      rfl
  · unfold State.ringMark State.when
    split
    · rw [State.get_set_apart _ (by decide)]
      exact hhead
    · exact hhead
  · unfold State.ringMark State.when
    split
    · exact hrd
    · exact hrd

end

end Sys2Proof.Machine
end

section
/-! PROOFS. R367, R370, R373 to R379: the engine's commands, and O44. -/

namespace Sys2Proof.Machine

open Sys2Proof

section
variable (s : State)

/-! ### The engine enabled (R367) -/

theorem State.pauseState : (if s.on GRN.CTRL_PAUSE then 3 else 2) = if s.get GRN.CTRL_PAUSE = 0 then 2 else 3 := by
  unfold State.on
  by_cases h : s.get GRN.CTRL_PAUSE = 0
  · rw [if_neg (by simp [h]), if_pos h]
  · rw [if_pos (by simpa using h), if_neg h]

theorem exec_grnEnable (m : Master) : exec (.grnEnable m) s =
    .next (if s.on GRN.CTRL_EN then s else if s.geomBad then s.set GRN.STATE_ERR 1
      else if s.journalKey.length != 16 then s.set GRN.STATE_ERR 4
      else ((s.set GRN.CTRL_EN 1).set GRN.STATE_ERR 0).set GRN.STATE_STATE (if s.on GRN.CTRL_PAUSE then 3 else 2)) := rfl

theorem exec_grnEnable_on (m : Master) (h : s.get GRN.CTRL_EN ≠ 0) : exec (.grnEnable m) s = .next s := by
  rw [exec_grnEnable, if_pos (by simpa [State.on] using h)]

theorem exec_grnEnable_off (m : Master) (h : s.get GRN.CTRL_EN = 0) : exec (.grnEnable m) s =
    .next (if s.geomBad then s.set GRN.STATE_ERR 1 else if s.journalKey.length != 16 then s.set GRN.STATE_ERR 4
      else ((s.set GRN.CTRL_EN 1).set GRN.STATE_ERR 0).set GRN.STATE_STATE (if s.get GRN.CTRL_PAUSE = 0 then 2 else 3)) := by
  rw [exec_grnEnable, if_neg (by simp [State.on, h]), s.pauseState]

/-! ### The engine stopped (R379) -/

theorem State.grnStop_shows {code : Nat} (h : code < 8) : (s.grnStop code).get GRN.STATE_STATE = 5 ∧
    (s.grnStop code).get GRN.STATE_ERR = code ∧ (s.grnStop code).get GRN.STATUS_ENGINE_ERR = 1 ∧ (s.grnStop code).grn = s.grn ∧
    (s.grnStop code).mpt = s.mpt := by
  unfold State.grnStop State.logA
  have hstate : (((s.set GRN.STATE_STATE 5).set GRN.STATE_ERR code).set GRN.STATUS_ENGINE_ERR 1).get GRN.STATE_STATE = 5 := by
    rw [State.get_set_apart _ (by decide), State.get_set_apart _ (by decide), State.get_set_fits _ (by decide)]
  have herr : (((s.set GRN.STATE_STATE 5).set GRN.STATE_ERR code).set GRN.STATUS_ENGINE_ERR 1).get GRN.STATE_ERR = code := by
    rw [State.get_set_apart _ (by decide), State.get_set_fits (f := GRN.STATE_ERR) _ (Nat.lt_of_lt_of_le h (by decide))]
  have hflag : (((s.set GRN.STATE_STATE 5).set GRN.STATE_ERR code).set GRN.STATUS_ENGINE_ERR 1).get GRN.STATUS_ENGINE_ERR = 1 :=
    State.get_set_fits _ (by decide)
  have hgrn : (((s.set GRN.STATE_STATE 5).set GRN.STATE_ERR code).set GRN.STATUS_ENGINE_ERR 1).grn = s.grn := by
    simp only [State.set_grn]
  have hmpt : (((s.set GRN.STATE_STATE 5).set GRN.STATE_ERR code).set GRN.STATUS_ENGINE_ERR 1).mpt = s.mpt := by
    simp only [State.set_mpt]
  generalize ((s.set GRN.STATE_STATE 5).set GRN.STATE_ERR code).set GRN.STATUS_ENGINE_ERR 1 = u at *
  obtain ⟨x, hx⟩ := u.faultLog_form 0x2803F520 64 0x41 0 code
  rw [hx]
  exact ⟨hstate, herr, hflag, hgrn, hmpt⟩

/-- A command without the Memory Port. -/
theorem exec_portless {c : Instr} (hp : s.get MPT.CTRL_EN = 0)
    (h : c = .sweepStep ∧ s.get GRN.CTRL_SWEEP_EN ≠ 0 ∧ s.get GRN.STATE_STATE = 2 ∨
      c = .recordFold ∧ s.get GRN.STATE_STATE = 2 ∧ 16 ≤ (s.queWords (s.get GRN.CTRL_QSRC)).length ∧ s.ringFull = false ∧ s.grn.notes = [] ∨
      (c = .grnFormat ∨ c = .grnRecover) ∧ s.get GRN.CTRL_EN ≠ 0 ∨
      (c = .grnCommit ∨ c = .grnCommitTimer) ∧ (s.get GRN.STATE_STATE = 2 ∨ s.get GRN.STATE_STATE = 3)) :
    exec c s = .next (s.grnStop 2) := by
  have hport : ¬s.on MPT.CTRL_EN = true := by simp [State.on, hp]
  rcases h with ⟨rfl, hsw, hst⟩ | ⟨rfl, hst, hlen, hr, hn⟩ | ⟨rfl | rfl, hen⟩ | ⟨rfl | rfl, hst⟩
  · exact (if_pos (by simpa [State.on, hst] using hsw)).trans (if_neg hport)
  · exact exec_recordFold_portless s hst hlen hr hn hp
  · exact congrArg Host.Outcome.next ((if_pos (by simpa [State.on] using hen)).trans (if_neg hport))
  · exact congrArg Host.Outcome.next ((if_pos (by simpa [State.on] using hen)).trans (if_neg hport))
  · exact congrArg Host.Outcome.next ((if_pos (by simpa using hst)).trans (if_neg hport))
  · exact congrArg Host.Outcome.next ((if_pos (by simpa using hst)).trans (if_neg hport))

/-! ### The sweep (R370) -/

theorem exec_sweepStep_off (h : s.get GRN.STATE_STATE ≠ 2 ∨ s.get GRN.CTRL_SWEEP_EN = 0) : exec .sweepStep s = .next s := by
  refine if_neg ?_
  rcases h with h | h
  · simp [h]
  · simp [State.on, h]

theorem exec_sweepStep_walks (he : s.get GRN.CTRL_SWEEP_EN ≠ 0) (hst : s.get GRN.STATE_STATE = 2) (hp : s.get MPT.CTRL_EN ≠ 0) :
    exec .sweepStep s = .next (s.heldSlots.foldl (fun t h => t.sweepSlot h) s) :=
  (if_pos (by simpa [State.on, hst] using he)).trans (if_pos (by simpa [State.on] using hp))

/-! ### FORMAT and RECOVER (R373, R378) -/

theorem State.grnCmd_runs (he : s.get GRN.CTRL_EN ≠ 0) (hp : s.get MPT.CTRL_EN ≠ 0) (g : State → State) : s.grnCmd g = g s :=
  (if_pos (by simpa [State.on] using he)).trans (if_pos (by simpa [State.on] using hp))

theorem State.grnCmd_off (he : s.get GRN.CTRL_EN = 0) (g : State → State) : s.grnCmd g = s := if_neg (by simp [State.on, he])

theorem exec_grnFormat : exec .grnFormat s = .next (s.grnCmd State.grnFormat) := rfl
theorem exec_grnRecover : exec .grnRecover s = .next (s.grnCmd State.grnRecover) := rfl

/-- Bytes written by the engine reach the memory on its select alone. -/
theorem State.extWrite_form (sel off : Nat) (b : List Nat) : ∃ m, s.extWrite sel off b = { s with mpt := m } := ⟨_, rfl⟩

theorem State.extZero_form (sel off n : Nat) : ∃ m, s.extZero sel off n = { s with mpt := m } := by
  unfold State.extZero
  split
  · exact ⟨_, rfl⟩
  · exact s.extWrite_form _ _ _

/-- The engine's own state under a new superblock. -/
def Grn.under (g : Grn) (copyB : Bool) (gen : Nat) : Grn := { g with gen := gen, copyB := copyB }

theorem State.superWrite_form (copyB : Bool) (gen : Nat) : ∃ m, s.superWrite copyB gen = { s with mpt := m, grn := s.grn.under copyB gen } := by
  unfold State.superWrite
  extract_lets q b
  obtain ⟨m, hm⟩ := s.extWrite_form s.grnSel (s.superOff copyB) (b ++ toLe 4 (crc32c b))
  rw [hm]
  exact ⟨m, rfl⟩

/-- What stands before FORMAT ends in RUN or PAUSED: an empty index under generation 1. -/
theorem State.grnFormat_empties : ∃ v : State, s.grnFormat = (v.set GRN.STATE_ERR 0).set GRN.STATE_STATE (if s.on GRN.CTRL_PAUSE then 3 else 2) ∧
    v.get GRN.JSEQ_LO_VALUE = 0 ∧ v.get GRN.JSEQ_HI_VALUE = 0 ∧ v.get GRN.OCC_VALUE = 0 ∧ v.grn.gen = 1 ∧ v.grn.copyB = false ∧
    v.grn.nrec = 0 ∧ v.mem = s.mem := by
  unfold State.grnFormat
  extract_lets d s1 s2
  have h1 : s1.mem = s.mem := by
    obtain ⟨m, hm⟩ := d.2.extZero_form s.grnSel (s.slotOff 0) (64 * s.grnSlots)
    obtain ⟨m', hm'⟩ := (d.2.extZero s.grnSel (s.slotOff 0) (64 * s.grnSlots)).extZero_form s.grnSel s.grnBase 8192
    simp only [s1]
    rw [hm', hm]
    rfl
  have hlo : s2.get GRN.JSEQ_LO_VALUE = 0 := by
    change ((s1.setJseq 0).set GRN.OCC_VALUE 0).get GRN.JSEQ_LO_VALUE = 0
    rw [State.get_set_apart _ (by decide), State.setJseq, State.get_set_apart _ (by decide), State.get_set_fits _ (by decide)]
  have hhi : s2.get GRN.JSEQ_HI_VALUE = 0 := by
    change ((s1.setJseq 0).set GRN.OCC_VALUE 0).get GRN.JSEQ_HI_VALUE = 0
    rw [State.get_set_apart _ (by decide), State.setJseq, State.get_set_fits _ (by decide)]
  have hocc : s2.get GRN.OCC_VALUE = 0 := State.get_set_fits (s1.setJseq 0) (f := GRN.OCC_VALUE) (v := 0) (by decide)
  have hn : s2.grn.nrec = 0 := rfl
  have hmem : s2.mem = s1.mem := by
    change ((s1.setJseq 0).set GRN.OCC_VALUE 0).mem = s1.mem
    rw [State.set_mem, State.setJseq, State.set_mem, State.set_mem]
  clear_value s2
  obtain ⟨m, hm⟩ := s2.superWrite_form false 1
  rw [hm]
  exact ⟨{ s2 with mpt := m, grn := s2.grn.under false 1 }, rfl, hlo, hhi, hocc, rfl, rfl, hn, hmem.trans h1⟩

theorem exec_grnFormat_runs (he : s.get GRN.CTRL_EN ≠ 0) (hp : s.get MPT.CTRL_EN ≠ 0) :
    ∃ t, exec .grnFormat s = .next t ∧ t.get GRN.STATE_STATE = (if s.get GRN.CTRL_PAUSE = 0 then 2 else 3) ∧
      t.get GRN.STATE_ERR = 0 ∧ t.jseq = 0 ∧ t.get GRN.OCC_VALUE = 0 ∧ t.grn.gen = 1 ∧ t.grn.copyB = false ∧ t.grn.nrec = 0 ∧
      t.mem = s.mem := by
  rw [exec_grnFormat, s.grnCmd_runs he hp]
  obtain ⟨v, hv, hlo, hhi, hocc, hgen, hcopy, hn, hmem⟩ := s.grnFormat_empties
  rw [hv, s.pauseState]
  refine ⟨_, rfl, ?_, ?_, ?_, ?_, ?_, ?_, ?_, ?_⟩
  · rw [State.get_set_fits (f := GRN.STATE_STATE) _ (by split <;> decide)]
  · rw [State.get_set_apart _ (by decide), State.get_set_fits _ (by decide)]
  · unfold State.jseq
    rw [State.get_set_apart _ (by decide), State.get_set_apart _ (by decide), hlo, State.get_set_apart _ (by decide),
      State.get_set_apart _ (by decide), hhi]
  · rw [State.get_set_apart _ (by decide), State.get_set_apart _ (by decide), hocc]
  · rw [State.set_grn, State.set_grn, hgen]
  · rw [State.set_grn, State.set_grn, hcopy]
  · rw [State.set_grn, State.set_grn, hn]
  · rw [State.set_mem, State.set_mem, hmem]

/-- RECOVER without a valid superblock (R378). -/
theorem State.grnRecover_none (ha : s.superRead false = none) (hb : s.superRead true = none) : s.grnRecover = s.grnStop 3 := by
  unfold State.grnRecover
  rw [ha, hb]

/-- RECOVER from a superblock ends with its marks. -/
theorem State.grnRecover_some (h : s.superRead false ≠ none ∨ s.superRead true ≠ none) :
    ∃ v : State, s.grnRecover = ((v.set GRN.STATE_ERR 0).set GRN.STATE_STATE (if s.on GRN.CTRL_PAUSE then 3 else 2)).set GRN.STATUS_RECOV_DONE 1 := by
  unfold State.grnRecover
  extract_lets pick
  cases hpick : pick with
  | none =>
    simp only [pick] at hpick
    cases ha : s.superRead false <;> cases hb : s.superRead true <;> simp [ha, hb] at hpick h
    split at hpick <;> cases hpick
  | some p => exact ⟨_, rfl⟩

theorem exec_grnRecover_done (he : s.get GRN.CTRL_EN ≠ 0) (hp : s.get MPT.CTRL_EN ≠ 0)
    (h : s.superRead false ≠ none ∨ s.superRead true ≠ none) :
    ∃ t, exec .grnRecover s = .next t ∧ t.get GRN.STATUS_RECOV_DONE = 1 ∧ t.get GRN.STATE_ERR = 0 ∧
      t.get GRN.STATE_STATE = (if s.get GRN.CTRL_PAUSE = 0 then 2 else 3) := by
  rw [exec_grnRecover, s.grnCmd_runs he hp]
  obtain ⟨v, hv⟩ := s.grnRecover_some h
  rw [hv, s.pauseState]
  refine ⟨_, rfl, State.get_set_fits _ (by decide), ?_, ?_⟩
  · rw [State.get_set_apart _ (by decide), State.get_set_apart _ (by decide), State.get_set_fits _ (by decide)]
  · rw [State.get_set_apart _ (by decide), State.get_set_fits (f := GRN.STATE_STATE) _ (by split <;> decide)]

theorem exec_grnRecover_fails (he : s.get GRN.CTRL_EN ≠ 0) (hp : s.get MPT.CTRL_EN ≠ 0) (ha : s.superRead false = none)
    (hb : s.superRead true = none) : exec .grnRecover s = .next (s.grnStop 3) := by
  rw [exec_grnRecover, s.grnCmd_runs he hp, s.grnRecover_none ha hb]

/-! ### Commits (R377) -/

theorem exec_commit {c : Instr} (hc : c = .grnCommit ∨ c = .grnCommitTimer) : exec c s = .next s.grnCommit := by
  rcases hc with rfl | rfl
  · rfl
  · rfl

/-- The staged block written leaves no record staged; the other marks of the engine, and system SRAM, stay. -/
theorem State.blockWrite_staged (h : s.grn.nrec = 0 ∨ dmaBar (s.get GRN.JSTAGE_VALUE + 64) (16 * s.grn.nrec) = none) :
    s.blockWrite.get GRN.STATE_STATE = s.get GRN.STATE_STATE ∧ s.blockWrite.grn = { s.grn with nrec := 0 } ∧ s.blockWrite.mem = s.mem := by
  by_cases hn : s.grn.nrec = 0
  · have hsame : s.blockWrite = s := if_pos (by simp [hn])
    rw [hsame]
    exact ⟨rfl, by rw [← hn], rfl⟩
  · have hbar := h.resolve_left hn
    unfold State.blockWrite
    rw [if_neg (by simpa using hn), hbar]
    extract_lets seq body head s1
    obtain ⟨m, hm⟩ := s.extWrite_form s.grnSel (s.blockOff seq) (head ++ toLe 4 (crc32c (head ++ body)) ++ body)
    have h1 : s1 = { s with mpt := m } := hm
    clear_value s1
    rw [h1]
    refine ⟨?_, rfl, rfl⟩
    change (({ s with mpt := m } : State).set GRN.JSEQ_LO_VALUE _ |>.set GRN.JSEQ_HI_VALUE _).get GRN.STATE_STATE = _
    rw [State.get_set_apart _ (by decide), State.get_set_apart _ (by decide)]
    rfl

theorem exec_commit_done {c : Instr} (hc : c = .grnCommit ∨ c = .grnCommitTimer)
    (hst : s.get GRN.STATE_STATE = 2 ∨ s.get GRN.STATE_STATE = 3) (hp : s.get MPT.CTRL_EN ≠ 0)
    (h : s.grn.nrec = 0 ∨ dmaBar (s.get GRN.JSTAGE_VALUE + 64) (16 * s.grn.nrec) = none) :
    ∃ t, exec c s = .next t ∧ t.get GRN.STATUS_COMMIT_DONE = 1 ∧ t.grn.gen = (s.grn.gen + 1) % 4294967296 ∧
      t.grn.copyB = !s.grn.copyB ∧ t.grn.nrec = 0 ∧ t.mem = s.mem := by
  obtain ⟨hstate, hgrn, hmem⟩ := s.blockWrite_staged h
  have hcommit : s.grnCommit =
      (s.blockWrite.superWrite (!s.blockWrite.grn.copyB) ((s.blockWrite.grn.gen + 1) % 4294967296)).set GRN.STATUS_COMMIT_DONE 1 := by
    refine (if_pos (by simpa using hst)).trans ((if_pos (by simpa [State.on] using hp)).trans (if_neg ?_))
    rw [hstate]
    rcases hst with hst | hst <;> rw [hst] <;> decide
  rw [exec_commit s hc, hcommit]
  generalize s.blockWrite = b at *
  obtain ⟨m, hm⟩ := b.superWrite_form (!b.grn.copyB) ((b.grn.gen + 1) % 4294967296)
  rw [hm, hgrn]
  exact ⟨_, rfl, State.get_set_fits _ (by decide), rfl, rfl, rfl, hmem⟩

theorem exec_commit_out {c : Instr} (hc : c = .grnCommit ∨ c = .grnCommitTimer) (h2 : s.get GRN.STATE_STATE ≠ 2)
    (h3 : s.get GRN.STATE_STATE ≠ 3) : exec c s = .next s := by
  rw [exec_commit s hc]
  exact congrArg Host.Outcome.next (if_neg (by simp [h2, h3]))

/-! ### The notification ring (R374) -/

theorem exec_nrTailWrite (m : Master) (v : Nat) : exec (.nrTailWrite m v) s =
    .next ((s.set GRN.NR_TAIL_VALUE v).ringDrain s.grn.notes) := rfl

theorem State.ringDrain_nil (h : s.grn.notes = []) : s.ringDrain [] = s := by
  change ({ s with grn := { s.grn with notes := [] } } : State) = s
  rw [← h]

theorem exec_nrTailWrite_none (m : Master) (v : Nat) (h : s.grn.notes = []) :
    exec (.nrTailWrite m v) s = .next (s.set GRN.NR_TAIL_VALUE v) := by
  rw [exec_nrTailWrite, h]
  exact congrArg Host.Outcome.next (State.ringDrain_nil (s.set GRN.NR_TAIL_VALUE v) h)

theorem exec_nrTailWrite_full (m : Master) (v : Nat) (h : s.grn.notes ≠ []) (hf : (s.set GRN.NR_TAIL_VALUE v).ringFull = true) :
    exec (.nrTailWrite m v) s = .next ((s.set GRN.NR_TAIL_VALUE v).set GRN.STATUS_NRING_FULL 1) := by
  rw [exec_nrTailWrite]
  have hu : (s.set GRN.NR_TAIL_VALUE v).grn.notes = s.grn.notes := rfl
  generalize s.set GRN.NR_TAIL_VALUE v = u at *
  cases hn : s.grn.notes with
  | nil => exact absurd hn h
  | cons n r =>
    rw [hn] at hu
    refine congrArg Host.Outcome.next ((if_pos hf).trans ?_)
    change ({ u.set GRN.STATUS_NRING_FULL 1 with grn := { u.grn with notes := n :: r } } : State) = _
    rw [← hu]
    rfl

/-- One notification that finds room. -/
theorem State.ringDrain_one {n : Nat × List Nat} {a : Nat} (hlen : n.2.length = 63) (hroom : s.ringFull = false)
    (hst : s.get GRN.STATE_STATE ≠ 5)
    (ha : a = s.get GRN.NRING_BASE_VALUE + 64 * (s.get GRN.NR_HEAD_VALUE % s.get GRN.NRING_CFG_ENTRIES)) (hlo : 0x10000000 ≤ a)
    (hhi : a < 0x103FFF00) :
    (s.ringDrain [n]).get GRN.NR_HEAD_VALUE = (s.get GRN.NR_HEAD_VALUE + 1) % 4294967296 ∧ (s.ringDrain [n]).get GRN.STATUS_NOTE = 1 ∧
      (s.ringDrain [n]).grn.notes = [] ∧ memSame s (s.ringDrain [n]) a 64 := by
  have hwords : (words4 (n.1 % 256 :: n.2)).length = 16 := by rw [length_words4, List.length_cons, hlen]
  obtain ⟨x, hx, hsame⟩ := State.grnDma_sram (words4 (n.1 % 256 :: n.2)) s a hst (fun b hb => length_of_mem_words4 hb) hlo (by omega)
  rw [hwords] at hsame
  have hdrain : s.ringDrain [n] =
      ((({ s with mem := x } : State).set GRN.NR_HEAD_VALUE (s.get GRN.NR_HEAD_VALUE + 1)).set GRN.STATUS_NOTE 1).ringDrain [] := by
    refine (if_neg (by simp [hroom])).trans ?_
    dsimp only
    rw [← ha, hx, if_pos rfl]
  rw [hdrain]
  refine ⟨?_, State.get_set_fits (({ s with mem := x } : State).set GRN.NR_HEAD_VALUE (s.get GRN.NR_HEAD_VALUE + 1)) (f := GRN.STATUS_NOTE)
    (v := 1) (by decide), rfl, hsame⟩
  change ((({ s with mem := x } : State).set GRN.NR_HEAD_VALUE (s.get GRN.NR_HEAD_VALUE + 1)).set GRN.STATUS_NOTE 1).get GRN.NR_HEAD_VALUE = _
  rw [State.get_set_apart _ (by decide), State.get_set_same]
  rfl

theorem exec_nrTailWrite_one (m : Master) {v a : Nat} {n : Nat × List Nat} (hn : s.grn.notes = [n]) (hlen : n.2.length = 63)
    (hroom : (s.set GRN.NR_TAIL_VALUE v).ringFull = false) (hst : s.get GRN.STATE_STATE ≠ 5)
    (ha : a = s.get GRN.NRING_BASE_VALUE + 64 * (s.get GRN.NR_HEAD_VALUE % s.get GRN.NRING_CFG_ENTRIES)) (hlo : 0x10000000 ≤ a)
    (hhi : a < 0x103FFF00) :
    ∃ t, exec (.nrTailWrite m v) s = .next t ∧ t.get GRN.NR_HEAD_VALUE = (s.get GRN.NR_HEAD_VALUE + 1) % 4294967296 ∧
      t.get GRN.STATUS_NOTE = 1 ∧ t.grn.notes = [] ∧ memSame s t a 64 := by
  rw [exec_nrTailWrite, hn]
  have hget : ∀ f : Fld, f.apart GRN.NR_TAIL_VALUE = true → (s.set GRN.NR_TAIL_VALUE v).get f = s.get f := fun f hf => State.get_set_apart _ hf _
  have hmem : ∀ t, memSame (s.set GRN.NR_TAIL_VALUE v) t a 64 → memSame s t a 64 := fun _ h => h
  obtain ⟨hhead, hnote, hnone, hsame⟩ := (s.set GRN.NR_TAIL_VALUE v).ringDrain_one (n := n) (a := a) hlen hroom
    (by rw [hget _ (by decide)]; exact hst) (by rw [hget _ (by decide), hget _ (by decide), hget _ (by decide)]; exact ha) hlo hhi
  rw [hget _ (by decide)] at hhead
  exact ⟨_, rfl, hhead, hnote, hnone, hmem _ hsame⟩

/-! ### Watch and query (R371, R382) -/

theorem exec_tagWatch (body : List Nat) : exec (.tagWatch body) s = .next (s.tagWatch body) := rfl

theorem exec_tagWatch_found {id : List Nat} {h : Nat} (b : Nat) (hf : s.grnFind id = some h) (he : s.get GRN.CTRL_EN ≠ 0) :
    exec (.tagWatch (id ++ [b])) s = .next (s.entryPut h (enFlag (s.entry h) 3 (b == 1))) := by
  rw [exec_tagWatch]
  unfold State.tagWatch
  dsimp only
  rw [List.dropLast_concat, List.getLastD_concat, hf]
  exact congrArg Host.Outcome.next (if_pos (by simpa [State.on] using he))

theorem exec_tagWatch_absent {id : List Nat} (b : Nat) (h : s.grnFind id = none ∨ s.get GRN.CTRL_EN = 0) :
    exec (.tagWatch (id ++ [b])) s = .next s := by
  rw [exec_tagWatch]
  unfold State.tagWatch
  dsimp only
  rw [List.dropLast_concat]
  cases hf : s.grnFind id with
  | none => rfl
  | some k => exact congrArg Host.Outcome.next (if_neg (by simpa [State.on, hf] using h))

theorem exec_tagQuery (id : List Nat) : exec (.tagQuery id) s = .next (s.tagQuery id) := rfl

theorem exec_tagQuery_found {id : List Nat} {h : Nat} (hf : s.grnFind id = some h) (he : s.get GRN.CTRL_EN ≠ 0) :
    exec (.tagQuery id) s = .next (s.setObj 0x6021 0 (s.entry h)) := by
  rw [exec_tagQuery, State.tagQuery, hf]
  dsimp only
  rw [if_pos (by simpa [State.on] using he)]

theorem exec_tagQuery_absent {id : List Nat} (h : s.grnFind id = none ∨ s.get GRN.CTRL_EN = 0) :
    exec (.tagQuery id) s = .next (s.setObj 0x6021 0 []) := by
  rw [exec_tagQuery, State.tagQuery]
  cases hf : s.grnFind id with
  | none => rfl
  | some k =>
    dsimp only
    rw [if_neg (by simpa [State.on, hf] using h)]

end

/-- Settles O44: a fold drops what it takes off its queue and nothing else of the queues, and the engine's commands end in the marks that
the statement names. -/
theorem granaryEngine : Obligations.GranaryEngine := by
  unfold Obligations.GranaryEngine
  refine ⟨fun s m he hg hk => ?_, fun s m he hg => ?_, fun s m he hg hk => ?_, fun s m he => exec_grnEnable_on s m he,
    fun s _ hq _ hst hlen hr hn hp => exec_recordFold_takes s hq hst hlen hr hn hp,
    fun s _ _ _ hq hq16 hst hlen hr hok hc hf hn hp hfind hpres hw hb hrec hlo hhi =>
      exec_recordFold_counted s hq hq16 hst hlen hr hok hc hf hn hp hfind hpres hw hb hrec hlo hhi,
    fun s _ hq hq16 hst hlen hbad hr hn hp => exec_recordFold_bad s hq hq16 hst hlen hbad hr hn hp,
    fun s hst hlen h => exec_recordFold_held s hst hlen h, fun s h => exec_recordFold_waits s h, fun s h => exec_sweepStep_off s h,
    fun s he hst hp => exec_sweepStep_walks s he hst hp,
    fun s _ hp h => ⟨_, exec_portless s hp h, s.grnStop_shows (by decide)⟩, fun s he hp => exec_grnFormat_runs s he hp,
    fun s he hp h => exec_grnRecover_done s he hp h,
    fun s he hp ha hb => ⟨_, exec_grnRecover_fails s he hp ha hb, s.grnStop_shows (by decide)⟩,
    fun s he => ⟨congrArg Host.Outcome.next (s.grnCmd_off he _), congrArg Host.Outcome.next (s.grnCmd_off he _)⟩,
    fun s _ hc hst hp h => exec_commit_done s hc hst hp h, fun s _ hc h2 h3 => exec_commit_out s hc h2 h3,
    fun s m v h => exec_nrTailWrite_none s m v h, fun s m _ _ _ hn hlen hroom hst ha hlo hhi =>
      exec_nrTailWrite_one s m hn hlen hroom hst ha hlo hhi, fun s m v h hf => exec_nrTailWrite_full s m v h hf,
    fun s _ b _ hf he => exec_tagWatch_found s b hf he, fun s _ b h => exec_tagWatch_absent s b h,
    fun s _ _ hf he => exec_tagQuery_found s hf he, fun s _ h => exec_tagQuery_absent s h⟩
  · rw [exec_grnEnable_off s m he, if_neg (by simp [hg]), if_neg (by simp [hk])]
  · rw [exec_grnEnable_off s m he, if_pos hg]
  · rw [exec_grnEnable_off s m he, if_neg (by simp [hg]), if_pos (by simpa using hk)]

end Sys2Proof.Machine
end

section
/-! PROOFS. R60, R213, R219, R220: special registers, position, events and waits of a link sequencer. -/

namespace Sys2Proof.Machine

open Sys2Proof

section
variable {s : State} {n d : Nat}

/-! ### Special registers read (R213) -/

/-- The special registers with what they hold. -/
def State.sregs (s : State) (n : Nat) : List (Nat × Nat) :=
  [(0x00, (s.seqAt n).ctx0), (0x01, (s.seqAt n).ctx1), (0x02, (s.seqAt n).ctx2), (0x03, (s.seqAt n).ctx3),
    (0x04, s.get LSC.EVP_EVP n), (0x05, (s.seqAt n).why), (0x07, s.get LSC.DIAG_ERR n), (0x08, (s.seqAt n).rxstat),
    (0x09, (s.seqAt n).rxrn), (0x0A, (s.seqAt n).rxb), (0x0C, (s.seqAt n).recFlags), (0x0E, s.get LSC.MBOX_IN_DATA n),
    (0x0F, s.get LSC.MBOX_OUT_DATA n), (0x10, (s.seqAt n).cfcmd), (0x12, (s.seqAt n).dects), (0x13, n),
    (0x06, 16 * b2n (s.flag n flF) + 8 * b2n (s.flag n flT) + 4 * b2n (s.flag n flC) + 2 * b2n (s.flag n flN) + b2n (s.flag n flZ)),
    (0x0B, 65536 * (s.seqAt n).nfmt + (s.seqAt n).fmtBase), (0x11, s.dsp),
    (0x0D, 2 * b2n (!(s.seqAt n).recCont.isEmpty) + b2n (!(s.seqAt n).recBank.isEmpty))]

theorem State.sreg_of_mem {k v : Nat} (h : (k, v) ∈ s.sregs n) : ∃ w, s.sreg n k = some w ∧ w % 2 ^ 32 = v % 2 ^ 32 := by
  have hall : ∀ p ∈ s.sregs n, ∃ w, s.sreg n p.1 = some w ∧ w % 2 ^ 32 = p.2 % 2 ^ 32 := by
    unfold State.sregs
    simp only [List.forall_mem_cons, List.not_mem_nil, false_implies, implies_true, and_true]
    refine ⟨?_, ?_, ?_, ?_, ?_, ?_, ?_, ?_, ?_, ?_, ?_, ?_, ?_, ?_, ?_, ?_, ?_, ?_, ?_, ?_⟩
    case refine_19 => exact ⟨_, rfl, Nat.mod_mod _ _⟩
    all_goals exact ⟨_, rfl, rfl⟩
  exact hall _ h

theorem exec_lsiRds_listed (h : s.seqRuns n = true) {k v : Nat} (hv : (k, v) ∈ s.sregs n) :
    ∃ t, exec (.lsiRds n d k) s = .next t ∧ t.greg n d = (if d % 16 = 0 then 0 else v % 2 ^ 32) ∧
      t.get LSC.STATE_PCW n = (s.get LSC.STATE_PCW n + 1) % 8192 ∧ seqFrame s t n d [LSC.STATE_PCW.key n] := by
  obtain ⟨w, hw, hmod⟩ := State.sreg_of_mem hv
  have hexec : exec (.lsiRds n d k) s = .next ((s.pcNext n).setG n d w) := by
    change execLsiRds n d k s = _
    unfold execLsiRds
    rw [State.seqDo_of_runs h, hw]
  refine ⟨_, hexec, ?_, ?_, ((seqFrame.refl s n d _).pcNext (by simp)).setG w⟩
  · rw [State.greg_setG_same, hmod]
  · rw [State.get_setG, State.pcw_pcNext]

/-! ### Special registers written (R213) -/

theorem exec_lsiWrs_taken (h : s.seqRuns n = true) {k : Nat} {t : State} (ht : s.setSreg n k (s.greg n d) = some t) :
    exec (.lsiWrs n d k) s = .next (t.pcNext n) := by
  change execLsiWrs n d k s = _
  unfold execLsiWrs
  rw [State.seqDo_of_runs h, ht]

/-- The flags as a word of special register FLAGS sets them. -/
def State.flagsTaken (s : State) (n v : Nat) : State :=
  ((((s.setFlag n flF (bitOf v 4)).setFlag n flT (bitOf v 3)).setFlag n flC (bitOf v 2)).setFlag n flN (bitOf v 1)).setFlag n flZ (bitOf v 0)

theorem State.setSreg_flags (s : State) (n v : Nat) : s.setSreg n 0x06 v = some (s.flagsTaken n v) := rfl

theorem State.flagsTaken_frame (s : State) (n d v : Nat) : seqFrame s (s.flagsTaken n v) n d [LSC.STATE_PCW.key n, LSC.STATE_FLAGS.key n] :=
  (((((seqFrame.refl s n d _).setFlag (by simp) flF _).setFlag (by simp) flT _).setFlag (by simp) flC _).setFlag (by simp) flN _).setFlag
    (by simp) flZ _

theorem State.setFlag_radio (s : State) (n k : Nat) (b : Bool) : (s.setFlag n k b).radio = s.radio := State.set_radio ..

theorem State.flagsTaken_radio (s : State) (n v : Nat) : (s.flagsTaken n v).radio = s.radio := by
  unfold State.flagsTaken
  simp only [State.setFlag_radio]

theorem exec_lsiWrs_flags (h : s.seqRuns n = true) :
    ∃ t, exec (.lsiWrs n d 0x06) s = .next t ∧ t.flag n flF = bitOf (s.greg n d) 4 ∧ t.flag n flT = bitOf (s.greg n d) 3 ∧
      t.flag n flC = bitOf (s.greg n d) 2 ∧ t.flag n flN = bitOf (s.greg n d) 1 ∧ t.flag n flZ = bitOf (s.greg n d) 0 ∧
      t.get LSC.STATE_PCW n = (s.get LSC.STATE_PCW n + 1) % 8192 ∧ t.mem = s.mem ∧ t.seqAt n = s.seqAt n ∧
      regsSame s t [LSC.STATE_PCW.key n, LSC.STATE_FLAGS.key n] := by
  obtain ⟨hmem, -, -, -, -, -, hregs⟩ := (s.flagsTaken_frame n d (s.greg n d)).pcNext (by simp)
  refine ⟨_, exec_lsiWrs_taken h (s.setSreg_flags n _), ?_, ?_, ?_, ?_, ?_, ?_, hmem, ?_, hregs⟩
  · simp (disch := decide) only [State.flagsTaken, State.flag_pcNext, State.flag_setFlag_ne, State.flag_setFlag_same]
  · simp (disch := decide) only [State.flagsTaken, State.flag_pcNext, State.flag_setFlag_ne, State.flag_setFlag_same]
  · simp (disch := decide) only [State.flagsTaken, State.flag_pcNext, State.flag_setFlag_ne, State.flag_setFlag_same]
  · simp (disch := decide) only [State.flagsTaken, State.flag_pcNext, State.flag_setFlag_ne, State.flag_setFlag_same]
  · rw [State.flag_pcNext, State.flagsTaken, State.flag_setFlag_same _ _ (by decide)]
  · rw [State.pcw_pcNext, State.flagsTaken]
    simp (disch := decide) only [State.setFlag, State.setBit, State.get_set_apart]
  · rw [State.seqAt, State.pcNext, State.set_radio, State.flagsTaken_radio]
    rfl

theorem exec_lsiWrs_recFlags (h : s.seqRuns n = true) : exec (.lsiWrs n d 0x0C) s =
    .next ((s.setSeq n { s.seqAt n with recFlags := s.greg n d % 65536 }).set LSC.STATE_PCW (s.get LSC.STATE_PCW n + 1) n) :=
  exec_lsiWrs_taken h rfl

theorem exec_lsiWrs_mbox (h : s.seqRuns n = true) : exec (.lsiWrs n d 0x0F) s =
    .next ((s.set LSC.MBOX_OUT_DATA (s.greg n d) n).set LSC.STATE_PCW (s.get LSC.STATE_PCW n + 1) n) := by
  rw [exec_lsiWrs_taken h rfl, State.pcNext, State.get_set_apart _ (by decide)]

theorem exec_lsiWrs_rxb (h : s.seqRuns n = true) (hal : s.greg n d % 4 = 0) (hin : s.greg n d ≤ 0x7DFC) :
    exec (.lsiWrs n d 0x0A) s = .next ((s.setSeq n { s.seqAt n with rxb := s.greg n d }).set LSC.STATE_PCW
      (s.get LSC.STATE_PCW n + 1) n) := exec_lsiWrs_taken h (if_pos (by simp [hal, hin]))

/-! ### Position and events (R60, R219) -/

theorem exec_lsiRdpos_two (h : s.seqRuns n = true) (h0 : d % 16 ≠ 0) (h15 : d % 16 ≠ 15) :
    ∃ t, exec (.lsiRdpos n d) s = .next t ∧ t.greg n d = s.atb.angle % 2 ^ 32 ∧
      t.greg n (d + 1) = s.atb.cycle % 2 ^ 32 ∧ t.mem = s.mem ∧ regsSame s t [LSC.STATE_PCW.key n] := by
  have hexec : exec (.lsiRdpos n d) s = .next (((s.pcNext n).setG n d s.atb.angle).setG n (d + 1) s.atb.cycle) := by
    change execLsiRdpos n d s = _
    unfold execLsiRdpos
    rw [State.seqDo_of_runs h, if_neg (by simpa using h15)]
  obtain ⟨hmem, -, -, -, -, -, hregs⟩ :=
    ((seqFrame.refl s n d [LSC.STATE_PCW.key n]).pcNext (by simp)).setG s.atb.angle
  generalize hu : (s.pcNext n).setG n d s.atb.angle = u at *
  refine ⟨_, hexec, ?_, ?_, ?_, fun f k hk => ?_⟩
  · rw [State.greg_setG_ne _ _ (by omega), ← hu, State.greg_setG_same, if_neg h0]
  · rw [State.greg_setG_same, if_neg (by omega)]
  · rw [← hmem]
    unfold State.setG
    split
    · rfl
    · rfl
  · rw [State.get_setG, hregs f k hk]

theorem exec_lsiClrev_masked (h : s.seqRuns n = true) (m : Nat) : exec (.lsiClrev n m) s =
    .next ((s.set LSC.STATE_PCW (s.get LSC.STATE_PCW n + 1) n).set LSC.EVP_EVP
      (s.get LSC.EVP_EVP n - Nat.land (s.get LSC.EVP_EVP n) (m % 1024)) n) := by
  have hexec : exec (.lsiClrev n m) s = .next ((s.pcNext n).set LSC.EVP_EVP
      ((s.pcNext n).get LSC.EVP_EVP n - Nat.land ((s.pcNext n).get LSC.EVP_EVP n) (m % 1024)) n) := by
    change execLsiClrev n m s = _
    unfold execLsiClrev
    rw [State.seqOp_of_runs h]
  have hevp : (s.pcNext n).get LSC.EVP_EVP n = s.get LSC.EVP_EVP n := State.get_set_apart _ (by decide) _
  rw [hexec, hevp]
  rfl

/-! ### Waits (R219, R220) -/

/-- A sheaf lease reads as before where one of the sequencers' own registers is written. -/
theorem State.seqSheaf_set (s : State) {f : Fld} (hf : SHF.LEASE_STATE_HELD.below f = true) (hf' : SHF.LEASE_STATE_OWNER.below f = true)
    (v m k : Nat) : (s.set f v m).seqSheaf k = s.seqSheaf k := by
  refine find?_congr_range fun sh hsh => ?_
  rw [State.on, State.on, State.get_set_above s hf hsh, State.get_set_above s hf' hsh]

theorem State.waitBits_pcNext (s : State) (n mask : Nat) : (s.pcNext n).waitBits n mask = s.waitBits n mask := by
  unfold State.waitBits State.pcNext
  rw [State.get_set_apart _ (by decide), State.seqSheaf_set s (by decide) (by decide)]

/-- A wait that no event ends and no bound either. -/
theorem State.waitIssue_waits {w : WaitRec} (hb : s.waitBits n w.mask = 0) (hw : w.bound ≠ 0)
    (hu : w.unit ≠ 2 ∨ s.get ATB.STATE_STATE ≠ 0) :
    s.waitIssue n w = (s.setOps n { s.opsAt n with wait := some w }).set LSC.STATE_STATE 3 n := by
  unfold State.waitIssue
  dsimp only
  rw [hb, if_neg (by decide), if_neg]
  · rfl
  · simp only [Bool.or_eq_true, Bool.and_eq_true, beq_iff_eq]
    rintro (h | ⟨h1, h2⟩)
    · exact hw h
    · exact hu.elim (fun h => h h1) fun h => h h2

theorem State.waitIssue_expires {w : WaitRec} (hb : s.waitBits n w.mask = 0) (hw : w.bound = 0 ∨ w.unit = 2 ∧ s.get ATB.STATE_STATE = 0) :
    s.waitIssue n w = s.waitExpire n := by
  unfold State.waitIssue
  dsimp only
  rw [hb, if_neg (by decide), if_pos (by simpa using hw)]

theorem State.waitIssue_ends {w : WaitRec} (hb : s.waitBits n w.mask ≠ 0) : s.waitIssue n w = s.waitEvent n (s.waitBits n w.mask) :=
  if_pos (by simpa using hb)

theorem State.get_seqResult {f : Fld} (hf : f.apart LSC.STATE_FLAGS = true) (hd : f.apart LSC.DIAG_ERR = true) (err : Nat) :
    (s.seqResult n err).get f n = s.get f n := by
  unfold State.seqResult State.setFlag State.setBit
  split
  · exact State.get_set_apart _ hf _
  · rw [State.get_set_apart _ hd, State.get_set_apart _ hf]

theorem State.seqResult_mem (err : Nat) : (s.seqResult n err).mem = s.mem := by
  unfold State.seqResult
  split
  · rfl
  · rfl

theorem State.seqAt_seqResult (err m : Nat) : (s.seqResult n err).seqAt m = s.seqAt m := by
  unfold State.seqResult
  split
  · rfl
  · rfl

theorem State.flag_seqResult_ne {k err : Nat} (hk : k < 5) (hF : k ≠ flF) : (s.seqResult n err).flag n k = s.flag n k := by
  unfold State.seqResult
  split
  · exact s.flag_setFlag_ne n hk hF _
  · have hdiag : ((s.setFlag n flF true).set LSC.DIAG_ERR err n).flag n k = (s.setFlag n flF true).flag n k := by
      rw [State.flag, State.bit, State.get_set_apart _ (by decide)]
      rfl
    rw [hdiag]
    exact s.flag_setFlag_ne n hk hF _

/-- A wait ended by an event (R219). -/
theorem State.waitEvent_shows (why : Nat) : (s.waitEvent n why).get LSC.STATE_STATE n = s.get LSC.STATE_STATE n ∧
    ((s.waitEvent n why).seqAt n).why = why ∧ (s.waitEvent n why).flag n flT = false ∧ (s.waitEvent n why).mem = s.mem := by
  unfold State.waitEvent
  extract_lets o err q s1
  have hst : s1.get LSC.STATE_STATE n = s.get LSC.STATE_STATE n := by
    simp only [s1]
    rw [State.get_set_apart _ (by decide)]
    rfl
  have hwhy : (s1.seqAt n).why = why := by
    simp only [s1]
    change ((s.setSeq n { s.seqAt n with why := why }).seqAt n).why = why
    rw [State.seqAt_setSeq_same]
  have hmem : s1.mem = s.mem := rfl
  clear_value s1 err
  refine ⟨?_, ?_, ?_, ?_⟩
  · rw [State.get_seqResult (by decide) (by decide), State.setFlag, State.setBit, State.get_set_apart _ (by decide)]
    exact hst
  · rw [State.seqAt_seqResult]
    exact hwhy
  · rw [State.flag_seqResult_ne (by decide) (by decide), State.flag_setFlag_same _ _ (by decide)]
  · rw [State.seqResult_mem]
    exact hmem

/-- A wait ended by its bound (R219). -/
theorem State.waitExpire_shows : (s.waitExpire n).get LSC.STATE_STATE n = s.get LSC.STATE_STATE n ∧
    ((s.waitExpire n).seqAt n).why = 0 ∧ (s.waitExpire n).flag n flT = true ∧ (s.waitExpire n).flag n flF = false ∧
    (s.waitExpire n).mem = s.mem := by
  unfold State.waitExpire
  extract_lets q o s1
  have hst : s1.get LSC.STATE_STATE n = s.get LSC.STATE_STATE n := rfl
  have hwhy : (s1.seqAt n).why = 0 := by
    change ((s.setSeq n { s.seqAt n with why := 0 }).seqAt n).why = 0
    rw [State.seqAt_setSeq_same]
  have hmem : s1.mem = s.mem := rfl
  clear_value s1
  have hflag : ∀ k, ((((s1.setFlag n flT true).setFlag n flF false).set LSC.STATUS_TMO 1 n).bump LSC.CNT_TMO_COUNT LSC.STATUS_SAT n).flag
      n k = ((s1.setFlag n flT true).setFlag n flF false).flag n k := fun k => by
    rw [State.flag, State.bit, State.get_bump_apart _ (by decide) (by decide), State.get_set_apart _ (by decide)]
    rfl
  refine ⟨?_, ?_, ?_, ?_, ?_⟩
  · rw [State.get_bump_apart _ (by decide) (by decide), State.get_set_apart _ (by decide), State.setFlag, State.setBit,
      State.get_set_apart _ (by decide), State.setFlag, State.setBit, State.get_set_apart _ (by decide), hst]
  · rw [State.seqAt, State.bump_radio]
    exact hwhy
  · rw [hflag, State.flag_setFlag_ne _ _ (by decide) (by decide), State.flag_setFlag_same _ _ (by decide)]
  · rw [hflag, State.flag_setFlag_same _ _ (by decide)]
  · rw [State.bump_mem]
    exact hmem

end

end Sys2Proof.Machine
end

section
/-! PROOFS. R16, R219, R220, R222: the port (R222) and the waits of a link sequencer, and O29. -/

namespace Sys2Proof.Machine

open Sys2Proof

/-! ### The port (R222) -/

section
variable {s : State} {n d k q : Nat}

/-- Offset `off` of port block `blk` is a register at `a` of block `b`, with the fields `fs`. -/
structure PortAt (blk off a : Nat) (b : Blk) (fs : List (Fld × Nat)) : Prop where
  block : blockAt (portBase blk) = some b
  decode : b.decode (portBase blk + off) = a
  fields : b.at a = fs
  sound : portFault blk off = 0
  fits : off < 4294967296

/-- The synthesizers' block, the queues' block and the transmit chains' block (R20, R439). -/
def rfsBlock : Blk := ⟨0x40070000, 0x31C, none, RFS.fields⟩
def queBlock : Blk := ⟨0x400C0000, 0x01C, some 0x7FC, QUE.fields⟩
def utxBlock : Blk := ⟨0x40060000, 0x33C, none, UTX.fields⟩

theorem portAt_freq (hk : k < 4) : PortAt 1 (RFS.FREQ_KHZ.at k % 65536) (RFS.FREQ_KHZ.at k) rfsBlock [(RFS.FREQ_CHAN, k), (RFS.FREQ_KHZ, k)] := by
  have hblock : blockAt (portBase 1) = some rfsBlock := by simp [blockAt, blocks, List.find?, rfsBlock, portBase]
  interval_cases k <;> exact ⟨hblock, rfl, rfl, rfl, by decide⟩

theorem portAt_wm (hq : q < 16) : PortAt 5 (QUE.WM_WM.at q % 65536) (QUE.WM_WM.at q) queBlock [(QUE.WM_WM, q)] := by
  have hblock : blockAt (portBase 5) = some queBlock := by simp [blockAt, blocks, List.find?, queBlock, portBase]
  interval_cases q <;> exact ⟨hblock, rfl, rfl, rfl, by decide⟩

/-- The fields of a chain's PWR word. -/
def pwrFields (k : Nat) : List (Fld × Nat) := [(UTX.PWR_EFF_IDX, k), (UTX.PWR_GROUP, k), (UTX.PWR_IDX, k)]

theorem portAt_pwr (hk : k < 4) : PortAt 0 (UTX.PWR_IDX.at k % 65536) (UTX.PWR_IDX.at k) utxBlock (pwrFields k) := by
  have hblock : blockAt (portBase 0) = some utxBlock := by simp [blockAt, blocks, List.find?, utxBlock, portBase]
  interval_cases k <;> exact ⟨hblock, rfl, rfl, rfl, by decide⟩

section
variable {blk off a : Nat} {b : Blk} {fs : List (Fld × Nat)} (h : PortAt blk off a b fs)
include h

theorem PortAt.read (s : State) (n : Nat) : s.portRead n blk off =
    ((s.portView (.seq n) a).getD (s.wordOf fs), (s.portReadFx (.seq n) a).rcClear fs 0xFFFFFFFF) := by
  unfold State.portRead
  rw [h.block]
  dsimp only
  rw [h.decode, h.fields]

theorem PortAt.put (s : State) (n v : Nat) : s.portPut n blk off v =
    ((s.portHook fs (.seq n) a v).getD (s.plainWrite fs v 0xFFFFFFFF), s.portDenied (.seq n) a v) := by
  unfold State.portPut State.portWrite
  rw [h.block]
  dsimp only
  rw [h.decode, h.fields]

/-- A port access whose register operand is G0 goes to its offset. -/
theorem PortAt.portEa (s : State) (n : Nat) : s.portEa n 0 off = off := by
  have hfits := h.fits
  have hg : s.greg n 0 = 0 := rfl
  rw [State.portEa, hg]
  omega

theorem PortAt.pld (hrun : s.seqRuns n = true) (d : Nat) : exec (.lsiPld n d 0 blk off) s =
    .next ((((s.portRead n blk off).2.pcNext n).setG n d (s.portRead n blk off).1).seqResult n 0) := by
  change execLsiPld n d 0 blk off s = _
  unfold execLsiPld
  rw [State.seqDo_of_runs hrun, h.portEa]
  dsimp only
  rw [h.sound, if_neg (by decide)]

theorem PortAt.pst (hrun : s.seqRuns n = true) (d : Nat) : exec (.lsiPst n d 0 blk off) s =
    .next (let r := (s.pcNext n).portPut n blk off (s.greg n d)
      if r.2 then (r.1.set LSC.STATUS_PORT_DENY 1 n).seqResult n 24 else r.1.seqResult n 0) := by
  change execLsiPst n d 0 blk off s = _
  unfold execLsiPst
  rw [State.seqDo_of_runs hrun, h.portEa]
  dsimp only
  rw [h.sound, if_neg (by decide)]

end

theorem State.portRead_freq (s : State) (n : Nat) (hk : k < 4) : s.portRead n 1 (RFS.FREQ_KHZ.at k % 65536) =
    (s.wordOf [(RFS.FREQ_CHAN, k), (RFS.FREQ_KHZ, k)], s) := by
  have hview : s.portView (.seq n) (RFS.FREQ_KHZ.at k) = none := by interval_cases k <;> rfl
  have hfx : s.portReadFx (.seq n) (RFS.FREQ_KHZ.at k) = s := by interval_cases k <;> rfl
  rw [(portAt_freq hk).read, hview, hfx]
  rfl

/-- PLD of a synthesizer's FREQ (R222). -/
theorem exec_lsiPld_freq (hrun : s.seqRuns n = true) (hk : k < 4) :
    ∃ t, exec (.lsiPld n d 0 1 (RFS.FREQ_KHZ.at k % 65536)) s = .next t ∧
      t.greg n d = (if d % 16 = 0 then 0 else (s.get RFS.FREQ_KHZ k + 2 ^ 20 * s.get RFS.FREQ_CHAN k) % 2 ^ 32) ∧
      t.flag n flF = false ∧ seqFrame s t n d [LSC.STATE_PCW.key n, LSC.STATE_FLAGS.key n] := by
  have hword : s.wordOf [(RFS.FREQ_CHAN, k), (RFS.FREQ_KHZ, k)] = s.get RFS.FREQ_KHZ k + 2 ^ 20 * s.get RFS.FREQ_CHAN k := by
    have : s.wordOf [(RFS.FREQ_CHAN, k), (RFS.FREQ_KHZ, k)] = 0 + s.get RFS.FREQ_CHAN k * 2 ^ 20 + s.get RFS.FREQ_KHZ k * 2 ^ 0 := rfl
    omega
  have hexec := (portAt_freq hk).pld hrun d
  rw [s.portRead_freq n hk, hword] at hexec
  refine ⟨_, hexec, ?_, State.flag_setFlag_same _ n (by decide) _,
    (((seqFrame.refl s n d _).pcNext (by simp)).setG _).setFlag (by simp) flF false⟩
  exact (State.greg_setFlag _ n _ _ _).trans (State.greg_setG_same _ n d _)

/-- A whole word written replaces WM. -/
theorem fieldMerge_wm (old v : Nat) : fieldMerge QUE.WM_WM old v 0xFFFFFFFF = v % 2 ^ QUE.WM_WM.width := by
  have h0 : Nat.land old 0 = 0 := Nat.and_zero old
  have hand : Nat.land (v % 2 ^ 15) (2 ^ 15 - 1) = v % 2 ^ 15 := (Nat.and_two_pow_sub_one_eq_mod (v % 2 ^ 15) 15).trans (Nat.mod_mod _ _)
  have hv : bits v QUE.WM_WM.hi QUE.WM_WM.lo = v % 2 ^ 15 := by simp [bits, QUE.WM_WM]
  have hm : bits 0xFFFFFFFF QUE.WM_WM.hi QUE.WM_WM.lo = 2 ^ 15 - 1 := rfl
  have hw : QUE.WM_WM.width = 15 := rfl
  unfold fieldMerge
  dsimp only
  rw [hv, hm, hw, Nat.sub_self, h0, hand]
  exact Nat.zero_or _

theorem State.portPut_wm (s : State) (n v : Nat) (hq : q < 16) : s.portPut n 5 (QUE.WM_WM.at q % 65536) v = (s.set QUE.WM_WM v q, false) := by
  have hhook : s.portHook [(QUE.WM_WM, q)] (.seq n) (QUE.WM_WM.at q) v = none := by interval_cases q <;> rfl
  have hdeny : s.portDenied (.seq n) (QUE.WM_WM.at q) v = false := by interval_cases q <;> rfl
  have hplain : s.plainWrite [(QUE.WM_WM, q)] v 0xFFFFFFFF =
      s.set QUE.WM_WM (fieldMerge QUE.WM_WM (s.get QUE.WM_WM q) v 0xFFFFFFFF) q := rfl
  rw [(portAt_wm hq).put, hhook, hdeny]
  exact congrArg (·, false) (hplain.trans (by rw [fieldMerge_wm, State.set_mod]))

/-- PST to a queue's watermark (R222). -/
theorem exec_lsiPst_wm (hn : n < 16) (hrun : s.seqRuns n = true) (hq : q < 16) :
    ∃ t, exec (.lsiPst n d 0 5 (QUE.WM_WM.at q % 65536)) s = .next t ∧
      t.get QUE.WM_WM q = s.greg n d % 2 ^ QUE.WM_WM.width ∧ t.flag n flF = false ∧
      regsSame s t [LSC.STATE_PCW.key n, LSC.STATE_FLAGS.key n, QUE.WM_WM.key q] ∧ t.mem = s.mem := by
  have hexec := (portAt_wm hq).pst hrun d
  rw [State.portPut_wm _ n _ hq] at hexec
  refine ⟨_, hexec, ?_, State.flag_setFlag_same _ n (by decide) _, fun f j hj => ?_, ?_⟩
  · change ((((s.pcNext n).set QUE.WM_WM (s.greg n d) q).setFlag n flF false)).get QUE.WM_WM q = _
    rw [State.setFlag, State.setBit, State.get_set_below _ (by decide) hn, State.get_set_same]
  · change ((((s.pcNext n).set QUE.WM_WM (s.greg n d) q).setFlag n flF false)).get f j = _
    rw [State.setFlag, State.setBit, State.get_set_ne _ _ _ _ _ _ fun h => hj (by rw [h]; simp),
      State.get_set_ne _ _ _ _ _ _ fun h => hj (by rw [h]; simp), State.pcNext,
      State.get_set_ne _ _ _ _ _ _ fun h => hj (by rw [h]; simp)]
  · exact (State.set_mem _ _ _ _).trans ((State.set_mem _ _ _ _).trans (State.set_mem _ _ _ _))

/-- What a chain's ownership rests on reads as before where one of the sequencers' own registers is written. -/
theorem State.chainOwner_set (s : State) {f : Fld} (hh : SHF.LEASE_STATE_HELD.below f = true) (ht : SHF.COMP_TXMASK.below f = true)
    (hl : SHF.COMP_LO_USED.below f = true) (ho : SHF.LEASE_STATE_OWNER.below f = true) (v m : Nat) (w : Master) :
    (s.set f v m).ownerOk ((s.set f v m).chainSheaf k) w = s.ownerOk (s.chainSheaf k) w := by
  have hsh : (s.set f v m).chainSheaf k = s.chainSheaf k := SheavesAs.chainSheaf (fun sh hsh => ⟨State.get_set_above s hh hsh v,
    State.get_set_above s ht hsh v, State.get_set_above s hl hsh v⟩) k
  rw [hsh]
  cases hc : s.chainSheaf k with
  | none => rfl
  | some sh =>
    have hlt : sh < 4 := List.mem_range.1 (List.mem_of_find?_eq_some hc)
    unfold State.ownerOk
    dsimp only
    rw [State.get_set_above s ho hlt v]

/-- PST to a chain that another holds (R72, R222). -/
theorem exec_lsiPst_denied (hrun : s.seqRuns n = true) (hk : k < 4) (how : s.ownerOk (s.chainSheaf k) (.seq n) = false) :
    ∃ t, exec (.lsiPst n d 0 0 (UTX.PWR_IDX.at k % 65536)) s = .next t ∧
      t.get UTX.PWR_IDX k = s.get UTX.PWR_IDX k ∧ t.flag n flF = true ∧ t.get LSC.DIAG_ERR n = 24 ∧
      t.get LSC.STATUS_PORT_DENY n = 1 ∧ t.get UTX.STATE_LAST_ERR k = 2 := by
  have hown : (s.pcNext n).ownerOk ((s.pcNext n).chainSheaf k) (.seq n) = false := by
    rw [State.pcNext, State.chainOwner_set s (by decide) (by decide) (by decide) (by decide)]
    exact how
  have hput : (s.pcNext n).portPut n 0 (UTX.PWR_IDX.at k % 65536) (s.greg n d) = ((s.pcNext n).utxRefuse k 2, true) := by
    have hhook : ∀ (u : State) v, u.portHook (pwrFields k) (.seq n) (UTX.PWR_IDX.at k) v =
        some (u.utxOwned k (.seq n) fun t => (t.set UTX.PWR_IDX (bits v 6 0) k).refreshPwr k) := by
      interval_cases k <;> exact fun _ _ => rfl
    have hdeny : ∀ (u : State) v, u.portDenied (.seq n) (UTX.PWR_IDX.at k) v = !u.ownerOk (u.chainSheaf k) (.seq n) := by
      interval_cases k <;> exact fun _ _ => rfl
    rw [(portAt_pwr hk).put, hhook, hdeny, hown, State.utxOwned_of_not hown]
    rfl
  have hexec := (portAt_pwr hk).pst hrun d
  rw [hput] at hexec
  have hidx : ((s.pcNext n).utxRefuse k 2).get UTX.PWR_IDX k = s.get UTX.PWR_IDX k := by
    unfold State.utxRefuse State.noteErr State.pcNext
    rw [State.get_set_apart _ (by decide), State.get_set_apart _ (by decide), State.get_set_above _ (by decide) hk]
  have herr : ((s.pcNext n).utxRefuse k 2).get UTX.STATE_LAST_ERR k = 2 := by
    unfold State.utxRefuse State.noteErr
    rw [State.get_set_apart _ (by decide), State.get_set_fits _ (by decide)]
  generalize (s.pcNext n).utxRefuse k 2 = u at *
  have hexec' : exec (.lsiPst n d 0 0 (UTX.PWR_IDX.at k % 65536)) s =
      .next ((((u.set LSC.STATUS_PORT_DENY 1 n).setFlag n flF true).set LSC.DIAG_ERR 24 n)) := hexec
  refine ⟨_, hexec', ?_, ?_, State.get_set_fits _ (by decide), ?_, ?_⟩
  · rw [State.get_set_above _ (by decide) hk, State.setFlag, State.setBit, State.get_set_above _ (by decide) hk,
      State.get_set_above _ (by decide) hk, hidx]
  · rw [State.flag, State.bit, State.get_set_apart _ (by decide)]
    exact State.flag_setFlag_same _ n (by decide) _
  · rw [State.get_set_apart _ (by decide), State.setFlag, State.setBit, State.get_set_apart _ (by decide), State.get_set_fits _ (by decide)]
  · rw [State.get_set_above _ (by decide) hk, State.setFlag, State.setBit, State.get_set_above _ (by decide) hk,
      State.get_set_above _ (by decide) hk, herr]

/-! ### Waits (R219, R220) -/

theorem exec_lsiWait (hrun : s.seqRuns n = true) (mask unit cnt : Nat) : exec (.lsiWait n mask unit cnt) s =
    .next ((s.pcNext n).waitIssue n { mask := mask % 1024, unit := unit % 4, bound := cnt % 16384 }) := by
  change execLsiWait n mask unit cnt s = _
  unfold execLsiWait
  rw [State.seqOp_of_runs hrun]

theorem exec_lsiWaitr (hrun : s.seqRuns n = true) (mask b : Nat) : exec (.lsiWaitr n mask b) s =
    .next ((s.pcNext n).waitIssue n { mask := mask % 1024, unit := 0, bound := s.greg n b }) := by
  change execLsiWaitr n mask b s = _
  unfold execLsiWaitr
  rw [State.seqOp_of_runs hrun, State.greg_pcNext]

theorem State.seqRuns_state (hrun : s.seqRuns n = true) : s.get LSC.STATE_STATE n = 2 := by
  obtain ⟨hst, -⟩ := by simpa [State.seqRuns] using hrun
  exact hst

theorem State.pcNext_state (s : State) (n : Nat) : (s.pcNext n).get LSC.STATE_STATE n = s.get LSC.STATE_STATE n :=
  State.get_set_apart _ (by decide) _

theorem State.pcNext_atb (s : State) (n : Nat) : (s.pcNext n).get ATB.STATE_STATE = s.get ATB.STATE_STATE :=
  State.get_set_above _ (by decide) (by decide) _

/-- A wait that begins. -/
theorem exec_wait_begins {c : Instr} {w : WaitRec} (hc : exec c s = .next ((s.pcNext n).waitIssue n w))
    (hb : s.waitBits n w.mask = 0) (hw : w.bound ≠ 0) (hu : w.unit ≠ 2 ∨ s.get ATB.STATE_STATE ≠ 0) :
    exec c s = .next (((s.set LSC.STATE_PCW (s.get LSC.STATE_PCW n + 1) n).setOps n { s.opsAt n with wait := some w }).set
      LSC.STATE_STATE 3 n) := by
  rw [hc, State.waitIssue_waits (by rw [s.waitBits_pcNext]; exact hb) hw (by rw [s.pcNext_atb]; exact hu)]
  rfl

theorem exec_wait_expires (hrun : s.seqRuns n = true) {c : Instr} {w : WaitRec} (hc : exec c s = .next ((s.pcNext n).waitIssue n w))
    (hb : s.waitBits n w.mask = 0) (hw : w.bound = 0 ∨ w.unit = 2 ∧ s.get ATB.STATE_STATE = 0) :
    ∃ t, exec c s = .next t ∧
      t.get LSC.STATE_STATE n = 2 ∧ (t.seqAt n).why = 0 ∧ t.flag n flT = true ∧ t.flag n flF = false ∧ t.mem = s.mem := by
  rw [hc, State.waitIssue_expires (by rw [s.waitBits_pcNext]; exact hb) (by rw [s.pcNext_atb]; exact hw)]
  obtain ⟨hst, hwhy, hT, hF, hmem⟩ := (s.pcNext n).waitExpire_shows (n := n)
  exact ⟨_, rfl, by rw [hst, s.pcNext_state, State.seqRuns_state hrun], hwhy, hT, hF, hmem⟩

theorem exec_wait_ends (hrun : s.seqRuns n = true) {c : Instr} {w : WaitRec} (hc : exec c s = .next ((s.pcNext n).waitIssue n w))
    (hb : s.waitBits n w.mask ≠ 0) :
    ∃ t, exec c s = .next t ∧ t.get LSC.STATE_STATE n = 2 ∧ (t.seqAt n).why = s.waitBits n w.mask ∧ t.flag n flT = false ∧
      t.mem = s.mem := by
  rw [hc, State.waitIssue_ends (by rw [s.waitBits_pcNext]; exact hb), s.waitBits_pcNext]
  obtain ⟨hst, hwhy, hT, hmem⟩ := (s.pcNext n).waitEvent_shows (n := n) (s.waitBits n w.mask)
  exact ⟨_, rfl, by rw [hst, s.pcNext_state, State.seqRuns_state hrun], hwhy, hT, hmem⟩

end

/-- Settles O29: each instruction by the lemma of its group. -/
theorem lsiSpecialsPortAndWaits : Obligations.LsiSpecialsPortAndWaits := by
  unfold Obligations.LsiSpecialsPortAndWaits
  refine ⟨fun s n d m _ hrun => ⟨fun _ _ hv => exec_lsiRds_listed hrun hv, exec_lsiWrs_flags hrun, exec_lsiWrs_recFlags hrun,
      exec_lsiWrs_mbox hrun, fun hal hin => exec_lsiWrs_rxb hrun hal hin, fun h0 h15 => exec_lsiRdpos_two hrun h0 h15,
      exec_lsiClrev_masked hrun m⟩,
    fun s n d k hn hk hrun => ⟨exec_lsiPld_freq hrun hk, fun _ hq => exec_lsiPst_wm hn hrun hq,
      fun how => exec_lsiPst_denied hrun hk how⟩,
    fun s n mask unit cnt b _ hrun => ⟨fun hb hcnt hu => exec_wait_begins (exec_lsiWait hrun mask unit cnt) hb hcnt hu,
      fun hb hg => exec_wait_begins (exec_lsiWaitr hrun mask b) hb hg (.inl (show (0 : Nat) ≠ 2 by decide)), fun hb c hc => ?_,
      fun hb hw => exec_wait_expires hrun (exec_lsiWait hrun mask unit cnt) hb hw,
      fun hb hg => exec_wait_expires hrun (exec_lsiWaitr hrun mask b) hb (.inl hg)⟩⟩
  rcases List.mem_cons.1 hc with rfl | hc
  · exact exec_wait_ends hrun (exec_lsiWait hrun mask unit cnt) hb
  · rw [List.mem_singleton.1 hc]
    exact exec_wait_ends hrun (exec_lsiWaitr hrun mask b) hb

end Sys2Proof.Machine
end

section
/-! PROOFS. R226, R227, R449: blocks pushed, words popped and records stored by a link sequencer. -/

namespace Sys2Proof.Machine

open Sys2Proof

section
variable {s : State} {n q : Nat}

/-! ### What the step past the instruction leaves -/

/-- A register of a queue reads past a write to a sequencer's own. -/
theorem State.get_que_seqResult {f : Fld} (hflags : LSC.STATE_FLAGS.below f = true) (hdiag : LSC.DIAG_ERR.below f = true) (hn : n < 16)
    (err k : Nat) : (s.seqResult n err).get f k = s.get f k := by
  unfold State.seqResult State.setFlag State.setBit
  split
  · exact State.get_set_below _ hflags hn _
  · rw [State.get_set_below _ hdiag hn, State.get_set_below _ hflags hn]

theorem State.queRoom_pcNext (s : State) (hn : n < 16) (q : Nat) : (s.pcNext n).queRoom q = s.queRoom q := by
  have hen : (s.pcNext n).get QUE.QCFG_EN q = s.get QUE.QCFG_EN q := State.get_set_below s (by decide) hn _
  have hdepth : (s.pcNext n).get QUE.QCFG_DEPTH q = s.get QUE.QCFG_DEPTH q := State.get_set_below s (by decide) hn _
  have hrsv : (s.pcNext n).get QUE.LEVEL_RSV q = s.get QUE.LEVEL_RSV q := State.get_set_below s (by decide) hn _
  rw [State.queRoom, State.queDepth, State.on, hen, hdepth, hrsv]
  rfl

theorem State.rsv_pcNext (s : State) (hn : n < 16) (q : Nat) : (s.pcNext n).get QUE.LEVEL_RSV q = s.get QUE.LEVEL_RSV q :=
  State.get_set_below s (by decide) hn _

theorem State.pushHeld_pcNext (s : State) (m n : Nat) : (s.pcNext n).pushHeld m = s.pushHeld m := rfl

theorem State.queWords_pcNext (s : State) (q n : Nat) : (s.pcNext n).queWords q = s.queWords q := rfl

theorem State.recBytes_pcNext (s : State) (m n : Nat) : (s.pcNext n).recBytes m = s.recBytes m := rfl

theorem State.seqResult_que (err : Nat) : (s.seqResult n err).que = s.que := by
  unfold State.seqResult
  split
  · rfl
  · rfl

theorem State.seqResult_radio (err : Nat) : (s.seqResult n err).radio = s.radio := by
  unfold State.seqResult
  split
  · rfl
  · rfl

theorem State.flag_seqResult_ok : (s.seqResult n 0).flag n flF = false := State.flag_setFlag_same _ n (by decide) _

/-- An instruction that fails sets F and ERR (R212). -/
theorem State.seqResult_fails {err : Nat} (he : err ≠ 0) (herr : err < 256) :
    (s.seqResult n err).flag n flF = true ∧ (s.seqResult n err).get LSC.DIAG_ERR n = err := by
  have hform : s.seqResult n err = (s.setFlag n flF true).set LSC.DIAG_ERR err n := if_neg (by simpa using he)
  rw [hform]
  refine ⟨?_, State.get_set_fits _ herr⟩
  rw [State.flag, State.bit, State.get_set_apart _ (by decide)]
  exact State.flag_setFlag_same s n (by decide) true

/-! ### Blocks pushed (R227) -/

/-- What the push of a block `b` leaves, in the sequencer's buffer and beside it. -/
def BlockPushed (n : Nat) (b : PushBlock) (s t : State) : Prop :=
  (t.opsAt n).push = (s.opsAt n).push ++ [b] ∧
  (s.get QUE.LEVEL_RSV b.queue + b.words.length < 8192 →
    t.get QUE.LEVEL_RSV b.queue = s.get QUE.LEVEL_RSV b.queue + b.words.length) ∧
  t.flag n flF = false ∧ t.que = s.que ∧ t.mem = s.mem

theorem State.seqPush_room {words : List Nat} (hn : n < 16) (hq : q < 16) (hroom : words.length ≤ s.queRoom q)
    (hheld : s.pushHeld n + words.length ≤ 32) :
    ∃ t, s.seqPush n q words = (0, t) ∧ BlockPushed n { queue := q, words := words } s t := by
  have hres : s.reserve n q words = some (((s.setOps n { s.opsAt n with push := (s.opsAt n).push ++ [{ queue := q, words := words }] }).set
      QUE.LEVEL_RSV (s.get QUE.LEVEL_RSV q + words.length) q).bump LSC.CNT_PUSH_COUNT LSC.STATUS_SAT n words.length) :=
    if_pos (by simp [hroom, hheld])
  unfold State.seqPush
  rw [Nat.mod_eq_of_lt hq, hres]
  refine ⟨_, rfl, ?_, fun hfit => ?_, State.flag_seqResult_ok, ?_, ?_⟩
  · rw [State.opsAt, State.seqResult_radio, State.bump_radio, State.set_radio]
    exact congrArg SeqOps.push (State.opsAt_setOps_same s n _)
  · rw [State.get_que_seqResult (by decide) (by decide) hn, State.get_bump_ne _ (Nat.ne_of_gt (Fld.key_lt_of_below (by decide) hn _))
      (Nat.ne_of_gt (Fld.key_lt_of_below (by decide) hn _)), State.get_set_fits _ hfit]
  · rw [State.seqResult_que, State.bump_que]
    rfl
  · rw [State.seqResult_mem, State.bump_mem]
    rfl

/-- What a push without room leaves. -/
def PushRefused (n : Nat) (s t : State) : Prop :=
  t.radio.seqOps = s.radio.seqOps ∧ t.flag n flF = true ∧ t.get LSC.DIAG_ERR n = 22 ∧ t.get LSC.STATUS_QFULL n = 1 ∧
    t.que = s.que ∧ t.mem = s.mem

theorem State.seqPush_full {words : List Nat} (hq : q < 16) (hwords : 1 ≤ words.length) (hfull : s.queRoom q = 0 ∨ 32 ≤ s.pushHeld n) :
    PushRefused n s (s.seqPush n q words).2 := by
  have hres : s.reserve n q words = none := if_neg (by simp; omega)
  obtain ⟨hF, herr⟩ := (s.set LSC.STATUS_QFULL 1 n).seqResult_fails (n := n) (err := 22) (by decide) (by decide)
  unfold State.seqPush
  rw [Nat.mod_eq_of_lt hq, hres]
  refine ⟨?_, hF, herr, ?_, ?_, ?_⟩
  · rw [State.seqResult_radio, State.set_radio]
  · rw [State.get_seqResult (by decide) (by decide), State.get_set_fits _ (by decide)]
  · rw [State.seqResult_que, State.set_que]
  · rw [State.seqResult_mem, State.set_mem]

theorem BlockPushed.of_pcNext {b : PushBlock} {t : State} (hn : n < 16) (h : BlockPushed n b (s.pcNext n) t) : BlockPushed n b s t := by
  unfold BlockPushed at h
  rw [s.rsv_pcNext hn] at h
  exact h

theorem exec_lsiPush (hrun : s.seqRuns n = true) (a q : Nat) :
    exec (.lsiPush n a q) s = .next ((s.pcNext n).seqPush n q [s.greg n a]).2 := by
  change execLsiPush n a q s = _
  unfold execLsiPush
  rw [State.seqOp_of_runs hrun, State.greg_pcNext]

/-- The words that PUSHB sends. -/
def State.pushWords (s : State) (n a cnt : Nat) : List Nat := (List.range cnt).map fun i => s.rd32 (seqBase n + s.greg n a + 4 * i)

theorem blockFault_ok {ea len : Nat} (hal : ea % 4 = 0) (hin : ea + len ≤ 0x8000) : blockFault ea len = 0 := by
  simp [blockFault, hal, Nat.not_lt.2 hin]

theorem exec_lsiPushb (hrun : s.seqRuns n = true) {a cnt : Nat} (hal : s.greg n a % 4 = 0) (hin : s.greg n a + 4 * cnt ≤ 0x8000) (q : Nat) :
    exec (.lsiPushb n a q cnt) s = .next ((s.pcNext n).seqPush n q (s.pushWords n a cnt)).2 := by
  change execLsiPushb n a q cnt s = _
  unfold execLsiPushb
  rw [State.seqDo_of_runs hrun]
  dsimp only
  rw [blockFault_ok hal hin]
  rfl

theorem exec_push_refused (hn : n < 16) (hq : q < 16) (hrun : s.seqRuns n = true) {a cnt : Nat} (hcnt : 1 ≤ cnt) (hal : s.greg n a % 4 = 0)
    (hin : s.greg n a + 4 * cnt ≤ 0x8000) (hfull : s.queRoom q = 0 ∨ 32 ≤ s.pushHeld n) :
    ∀ c ∈ [Instr.lsiPush n a q, Instr.lsiPushb n a q cnt], ∃ t, exec c s = .next t ∧ PushRefused n s t := by
  have hfull' : (s.pcNext n).queRoom q = 0 ∨ 32 ≤ (s.pcNext n).pushHeld n := by rwa [s.queRoom_pcNext hn, State.pushHeld_pcNext]
  intro c hc
  rcases List.mem_cons.1 hc with rfl | hc
  · exact ⟨_, exec_lsiPush hrun a q, State.seqPush_full (s := s.pcNext n) hq (by simp) hfull'⟩
  · rw [List.mem_singleton.1 hc]
    exact ⟨_, exec_lsiPushb hrun hal hin q, State.seqPush_full (s := s.pcNext n) hq (by simpa [State.pushWords] using hcnt) hfull'⟩

/-- A block pushed from the state past the instruction. -/
theorem State.seqPush_pcNext {words : List Nat} (hn : n < 16) (hq : q < 16) (hroom : words.length ≤ s.queRoom q)
    (hheld : s.pushHeld n + words.length ≤ 32) :
    ∃ t, (s.pcNext n).seqPush n q words = (0, t) ∧ BlockPushed n { queue := q, words := words } s t := by
  obtain ⟨t, ht, hpushed⟩ := State.seqPush_room (s := s.pcNext n) hn hq (by rwa [s.queRoom_pcNext hn]) hheld
  exact ⟨t, ht, hpushed.of_pcNext hn⟩

/-! ### Words popped (R449) -/

theorem exec_lsiPop (hrun : s.seqRuns n = true) (hq : q < 16) (d : Nat) : exec (.lsiPop n d q) s =
    .next ((((s.pcNext n).quePop q).2.setG n d ((s.pcNext n).quePop q).1).seqResult n (if (s.queWords q).isEmpty then 23 else 0)) := by
  change execLsiPop n d q s = _
  unfold execLsiPop
  rw [State.seqOp_of_runs hrun, Nat.mod_eq_of_lt hq]
  rfl

theorem State.quePop_mem (s : State) (q : Nat) : (s.quePop q).2.mem = s.mem := by
  obtain ⟨⟨r, d, hform⟩, -⟩ := quePop_popped s q
  rw [hform]

theorem State.setG_que (d v : Nat) : (s.setG n d v).que = s.que := by
  unfold State.setG
  split
  · rfl
  · rfl

theorem State.setG_mem (d v : Nat) : (s.setG n d v).mem = s.mem := by
  unfold State.setG
  split
  · rfl
  · rfl

theorem State.greg_seqResult (err k : Nat) : (s.seqResult n err).greg n k = s.greg n k := by
  rw [State.greg, State.greg, State.seqAt_seqResult]

theorem State.queWords_seqResult (err : Nat) : (s.seqResult n err).queWords q = s.queWords q := by
  rw [State.queWords, State.queWords, State.seqResult_que]

theorem exec_lsiPop_word (hq : q < 16) {w : Nat} {r : List Nat} (hw : w < 4294967296) (hrun : s.seqRuns n = true)
    (hwords : s.queWords q = w :: r) (d : Nat) :
    ∃ t, exec (.lsiPop n d q) s = .next t ∧ t.greg n d = (if d % 16 = 0 then 0 else w) ∧ t.queWords q = r ∧
      t.flag n flF = false ∧ t.mem = s.mem := by
  have hword : ((s.pcNext n).quePop q).1 = w := by
    rw [State.quePop, State.queWords_pcNext, hwords]
  have hrest : ((s.pcNext n).quePop q).2.queWords q = r := by
    rw [State.queWords_quePop, State.queWords_pcNext, hwords]
    rfl
  have hmem := (s.pcNext n).quePop_mem q
  have hexec := exec_lsiPop hrun hq d
  rw [hword, hwords] at hexec
  generalize ((s.pcNext n).quePop q).2 = u at hexec hrest hmem
  refine ⟨_, hexec, ?_, ?_, State.flag_seqResult_ok, ?_⟩
  · rw [State.greg_seqResult, State.greg_setG_same, Nat.mod_eq_of_lt (show w < 2 ^ 32 from hw)]
  · rw [State.queWords_seqResult, State.queWords, State.setG_que]
    exact hrest
  · rw [State.seqResult_mem, State.setG_mem, hmem]
    rfl

theorem exec_lsiPop_empty (hn : n < 16) (hq : q < 16) (hrun : s.seqRuns n = true) (hwords : s.queWords q = []) (d : Nat) :
    ∃ t, exec (.lsiPop n d q) s = .next t ∧ t.greg n d = 0 ∧ t.flag n flF = true ∧ t.get LSC.DIAG_ERR n = 23 ∧
      t.get QUE.STATUS_UNF q = 1 ∧ t.mem = s.mem := by
  have hpop : (s.pcNext n).quePop q = (0, (s.pcNext n).set QUE.STATUS_UNF 1 q) := by
    rw [State.quePop, State.queWords_pcNext, hwords]
  have hexec := exec_lsiPop hrun hq d
  rw [hpop, hwords] at hexec
  obtain ⟨hF, herr⟩ := (((s.pcNext n).set QUE.STATUS_UNF 1 q).setG n d 0).seqResult_fails (n := n) (err := 23) (by decide) (by decide)
  refine ⟨_, hexec, ?_, hF, herr, ?_, ?_⟩
  · rw [State.greg_seqResult, State.greg_setG_same]
    exact ite_self 0
  · change (State.seqResult _ n 23).get _ q = 1
    rw [State.get_que_seqResult (by decide) (by decide) hn, State.get_setG, State.get_set_fits _ (by decide)]
  · rw [State.seqResult_mem, State.setG_mem]
    rfl

/-! ### Records (R226, R251) -/

/-- A record bank with its CRC-32C in place. -/
def sealedBank (b : List Nat) : List Nat := b.take 60 ++ toLe 4 (crc32c (b.take 60))

theorem sealedBank_length {b : List Nat} (h : b.length = 64) : (sealedBank b).length = 64 := by
  simp [sealedBank, toLe_length, h]

/-- The record of sequencer `n` is `k` bytes: its bank, and its continuation where it has one. -/
def State.recLength (s : State) (n k : Nat) : Prop :=
  (s.seqAt n).recBank.length = 64 ∧ ((s.seqAt n).recCont = [] ∧ k = 64 ∨ (s.seqAt n).recCont.length = 64 ∧ k = 128)

theorem State.recBytes_bank (hbank : (s.seqAt n).recBank.length = 64) (hcont : (s.seqAt n).recCont = []) :
    s.recBytes n = sealedBank (s.seqAt n).recBank := by
  have hne : (s.seqAt n).recBank ≠ [] := fun h => by simp [h] at hbank
  simp [State.recBytes, hne, hcont, sealedBank]

theorem State.recBytes_both (hbank : (s.seqAt n).recBank.length = 64) (hcont : (s.seqAt n).recCont.length = 64) :
    s.recBytes n = sealedBank (s.seqAt n).recBank ++ sealedBank (s.seqAt n).recCont := by
  have hne : (s.seqAt n).recBank ≠ [] := fun h => by simp [h] at hbank
  have hne' : (s.seqAt n).recCont ≠ [] := fun h => by simp [h] at hcont
  simp [State.recBytes, hne, hne', sealedBank]

theorem State.recBytes_none (hbank : (s.seqAt n).recBank = []) (hcont : (s.seqAt n).recCont = []) : s.recBytes n = [] := by
  simp [State.recBytes, hbank, hcont]

theorem State.recLength.bytes {k : Nat} (h : s.recLength n k) : (s.recBytes n).length = k := by
  obtain ⟨hbank, ⟨hcont, rfl⟩ | ⟨hcont, rfl⟩⟩ := h
  · rw [State.recBytes_bank hbank hcont, sealedBank_length hbank]
  · rw [State.recBytes_both hbank hcont, List.length_append, sealedBank_length hbank, sealedBank_length hcont]

theorem State.recLength.pos {k : Nat} (h : s.recLength n k) : 0 < k := by
  obtain ⟨-, ⟨-, rfl⟩ | ⟨-, rfl⟩⟩ := h
  · decide
  · decide

theorem State.recLength.ne_nil {k : Nat} (h : s.recLength n k) : s.recBytes n ≠ [] :=
  List.ne_nil_of_length_pos (by rw [h.bytes]; exact h.pos)

/-- The words of a record as PUSHREC sends them. -/
def State.recWords (s : State) (n k : Nat) : List Nat := (List.range k).map fun i => le32 (s.recBytes n) (4 * i)

theorem exec_lsiPushrec_room (hn : n < 16) (hq : q < 16) (hrun : s.seqRuns n = true) {k : Nat} (hrec : s.recLength n (4 * k))
    (hroom : k ≤ s.queRoom q) (hheld : s.pushHeld n + k ≤ 32) :
    ∃ t, exec (.lsiPushrec n q) s = .next t ∧ (t.opsAt n).push = (s.opsAt n).push ++ [{ queue := q, words := s.recWords n k }] ∧
      (t.seqAt n).recBank = [] ∧ (t.seqAt n).recCont = [] ∧ t.flag n flF = false ∧ t.mem = s.mem := by
  have hlen : (s.recWords n k).length = k := by simp [State.recWords]
  obtain ⟨t, ht, hpush, -, hflag, -, hmem⟩ := State.seqPush_pcNext (s := s) (words := s.recWords n k) hn hq (by rwa [hlen])
    (by rwa [hlen])
  have hexec : exec (.lsiPushrec n q) s = .next (t.setSeq n { t.seqAt n with recBank := [], recCont := [] }) := by
    change execLsiPushrec n q s = _
    unfold execLsiPushrec
    rw [State.seqOp_of_runs hrun, State.recBytes_pcNext]
    dsimp only
    rw [if_neg (by simpa using hrec.ne_nil), hrec.bytes, Nat.mul_div_cancel_left k (by decide)]
    rw [show (s.pcNext n).seqPush n q ((List.range k).map fun i => le32 (s.recBytes n) (4 * i)) = (0, t) from ht]
    rfl
  have hseq := t.seqAt_setSeq_same n { t.seqAt n with recBank := [], recCont := [] }
  exact ⟨_, hexec, hpush, by rw [hseq], by rw [hseq], hflag, hmem⟩

/-- A number inside a stored block reads as stored. -/
theorem State.rdBytes_wrBytes_mid (s : State) (a w v : Nat) (l r : List Nat) :
    (s.wrBytes a (l ++ toLe w v ++ r)).rdBytes (a + l.length) w = toLe w v := by
  refine List.ext_getElem (by simp [State.rdBytes, toLe]) fun i hi hi' => ?_
  have hlen := toLe_length w v
  have hread := s.rd8_wrBytes_in (l ++ toLe w v ++ r) a (i := l.length + i) (by simp; omega)
  have hval : (toLe w v)[i] % 256 = (toLe w v)[i] := by simp [toLe]
  rw [List.getElem_append_left (by simp; omega), List.getElem_append_right (by omega), ← Nat.add_assoc] at hread
  simpa [State.rdBytes, hval] using hread

theorem State.rd32_wrBytes_mid (s : State) (a v : Nat) (l r : List Nat) :
    (s.wrBytes a (l ++ toLe 4 v ++ r)).rd32 (a + l.length) = v % 2 ^ 32 := by
  rw [State.rd32, State.rdBytes_wrBytes_mid]
  exact ofLe_toLe 4 v

/-- The CRC of each bank of a stored record stands at its end. -/
theorem State.recLength.crcs {k : Nat} (h : s.recLength n k) (u : State) (a : Nat) :
    (u.wrBytes a (s.recBytes n)).rd32 (a + 60) = crc32c ((s.seqAt n).recBank.take 60) % 2 ^ 32 ∧
    (k = 128 → (u.wrBytes a (s.recBytes n)).rd32 (a + 124) = crc32c ((s.seqAt n).recCont.take 60) % 2 ^ 32) := by
  obtain ⟨hbank, hk⟩ := h
  have htake : ((s.seqAt n).recBank.take 60).length = 60 := by simp [hbank]
  rcases hk with ⟨hcont, rfl⟩ | ⟨hcont, rfl⟩
  · have hread := u.rd32_wrBytes_mid a (crc32c ((s.seqAt n).recBank.take 60)) ((s.seqAt n).recBank.take 60) []
    rw [htake, List.append_nil] at hread
    rw [State.recBytes_bank hbank hcont]
    exact ⟨hread, fun hk => absurd hk (by decide)⟩
  · have hread := u.rd32_wrBytes_mid a (crc32c ((s.seqAt n).recBank.take 60)) ((s.seqAt n).recBank.take 60) (sealedBank (s.seqAt n).recCont)
    have hread' := u.rd32_wrBytes_mid a (crc32c ((s.seqAt n).recCont.take 60))
      (sealedBank (s.seqAt n).recBank ++ (s.seqAt n).recCont.take 60) []
    have htake' : (sealedBank (s.seqAt n).recBank ++ (s.seqAt n).recCont.take 60).length = 124 := by
      simp [sealedBank_length hbank, hcont]
    rw [htake] at hread
    rw [htake', List.append_nil, List.append_assoc] at hread'
    rw [State.recBytes_both hbank hcont]
    exact ⟨hread, fun _ => hread'⟩

theorem exec_lsiStrec_stored (hrun : s.seqRuns n = true) {a k : Nat} (hrec : s.recLength n k) (hal : s.greg n a % 4 = 0)
    (hin : s.greg n a + k ≤ 0x8000) :
    ∃ t, exec (.lsiStrec n a) s = .next t ∧ memSame s t (seqBase n + s.greg n a) k ∧
      t.rd32 (seqBase n + s.greg n a + 60) = crc32c ((s.seqAt n).recBank.take 60) % 2 ^ 32 ∧
      (k = 128 → t.rd32 (seqBase n + s.greg n a + 124) = crc32c ((s.seqAt n).recCont.take 60) % 2 ^ 32) ∧ t.seqAt n = s.seqAt n ∧
      t.flag n flF = false := by
  have hexec : exec (.lsiStrec n a) s = .next (((s.pcNext n).seqPut n (s.greg n a) (s.recBytes n)).seqResult n 0) := by
    change execLsiStrec n a s = _
    unfold execLsiStrec
    rw [State.seqDo_of_runs hrun]
    dsimp only
    rw [if_neg (by simpa using hrec.ne_nil), hrec.bytes, blockFault_ok hal hin]
    rfl
  obtain ⟨r, hput, hseqs, -⟩ := State.seqPut_form (s := s.pcNext n) (n := n) (s.greg n a) (s.recBytes n)
  have hmem : (((s.pcNext n).seqPut n (s.greg n a) (s.recBytes n)).seqResult n 0).mem =
      ((s.pcNext n).wrBytes (seqBase n + s.greg n a) (s.recBytes n)).mem := by
    rw [State.seqResult_mem, hput]
  obtain ⟨hcrc, hcrc'⟩ := hrec.crcs (s.pcNext n) (seqBase n + s.greg n a)
  refine ⟨_, hexec, fun y hy => ?_, ?_, fun hk => ?_, ?_, State.flag_seqResult_ok⟩
  · rw [State.rd8, hmem]
    exact State.rd8_wrBytes_out (s.pcNext n) _ _ _ (by rwa [hrec.bytes])
  · rw [← hcrc]
    simp only [State.rd32, State.rdBytes, State.rd8, hmem]
  · rw [← hcrc' hk]
    simp only [State.rd32, State.rdBytes, State.rd8, hmem]
  · rw [State.seqAt_seqResult, hput]
    exact congrArg (fun t => Tab.get {} t n) hseqs

theorem exec_record_none (hrun : s.seqRuns n = true) (hbank : (s.seqAt n).recBank = []) (hcont : (s.seqAt n).recCont = []) (a q : Nat) :
    ∀ c ∈ [Instr.lsiPushrec n q, Instr.lsiStrec n a],
      ∃ t, exec c s = .next t ∧ t.flag n flF = true ∧ t.get LSC.DIAG_ERR n = 21 ∧ t.mem = s.mem := by
  have hexec : ∀ c ∈ [Instr.lsiPushrec n q, Instr.lsiStrec n a], exec c s = .next ((s.pcNext n).seqResult n 21) := by
    intro c hc
    rcases List.mem_cons.1 hc with rfl | hc
    · change execLsiPushrec n q s = _
      unfold execLsiPushrec
      rw [State.seqOp_of_runs hrun, State.recBytes_pcNext, State.recBytes_none hbank hcont]
      rfl
    · rw [List.mem_singleton.1 hc]
      change execLsiStrec n a s = _
      unfold execLsiStrec
      rw [State.seqDo_of_runs hrun, State.recBytes_none hbank hcont]
      rfl
  obtain ⟨hF, herr⟩ := (s.pcNext n).seqResult_fails (n := n) (err := 21) (by decide) (by decide)
  exact fun c hc => ⟨_, hexec c hc, hF, herr, by rw [State.seqResult_mem]; rfl⟩

end

end Sys2Proof.Machine
end

section
/-! PROOFS. R218, R224: the requests of a link sequencer for the states of its chains. -/

namespace Sys2Proof.Machine

open Sys2Proof

/-! ### What a chain's operations leave of the leases -/

theorem LateRegs.sheaves {s t : State} (h : LateRegs s t) : SheavesAs s t := by
  have hget : ∀ f : Fld, SHF.ID_BLOCK.key 0 ≤ f.key 0 → ∀ k, t.get f k = s.get f k :=
    fun f hf k => h.get f k (hf.trans (f.key_mono (Nat.zero_le k)))
  exact fun sh _ => ⟨hget _ (by decide) sh, hget _ (by decide) sh, hget _ (by decide) sh⟩

theorem LateRegs.owner {s t : State} (h : LateRegs s t) (sh : Nat) : t.get SHF.LEASE_STATE_OWNER sh = s.get SHF.LEASE_STATE_OWNER sh :=
  h.get _ sh (Nat.le_trans (by decide) (SHF.LEASE_STATE_OWNER.key_mono (Nat.zero_le sh)))

section
variable (s : State) {n c : Nat}

theorem State.utxAsked_late (hc : c < 4) (w : Nat) : LateRegs s (s.utxAsked c w) := by
  unfold State.utxAsked
  extract_lets u s1
  have h1 : LateRegs s s1 := ((LateRegs.refl s).withRadio _).setTx (g := UTX.STATE_WAIT) (by decide) hc 0
  split
  · exact h1
  · exact (h1.withRadio _).setTx (g := RGE.STATE_PREGRANT) (by decide) (by decide) _

theorem State.opsAt_utxAsked (w m : Nat) : (s.utxAsked c w).opsAt m = s.opsAt m := by
  obtain ⟨r, x, h⟩ := s.utxAsked_form c w
  rw [h]
  rfl

theorem State.opsAt_setUst (st m : Nat) : (s.setUst c st).opsAt m = s.opsAt m := by
  unfold State.setUst
  split
  · rfl
  · rfl

end

/-! ### The answer of RQS (R218) -/

section
variable {s : State} {n sh c req : Nat}

theorem putBit_alone (hc : c < 4) : putBit (2 ^ c) c false = 0 := by
  interval_cases c <;> decide

theorem setBits_alone (hc : c < 4) : setBits 4 (2 ^ c) = [c] := by
  interval_cases c <;> decide

/-- The answer for the one chain asked ends the request. -/
theorem State.rqsAnswer_alone (hc : c < 4) (h : (s.opsAt n).rqs = some { mask := 2 ^ c }) (err : Nat) :
    s.rqsAnswer n c err = (s.setOps n { s.opsAt n with rqs := none, rqsErr := err }).seqEvent n evRDY := by
  unfold State.rqsAnswer
  rw [h]
  dsimp only
  rw [putBit_alone hc]
  by_cases he : err = 0
  · rw [if_neg (by simp [he]), if_pos (by decide), he]
  · rw [if_pos (by simpa using he)]

/-- What an answered RQS shows: RDY is latched and no request is under way. -/
def Answered (n err : Nat) (s t : State) : Prop :=
  t.bit LSC.EVP_EVP 2 n = true ∧ (t.opsAt n).rqs = none ∧ (t.opsAt n).rqsErr = err ∧ t.flag n flF = false ∧ t.mem = s.mem

theorem State.answered (a : State) (o : SeqOps) (ho : o.rqs = none) : Answered n o.rqsErr a (((a.setOps n o).seqEvent n evRDY).seqResult n 0) := by
  have hops : (((a.setOps n o).seqEvent n evRDY).seqResult n 0).opsAt n = o := by
    rw [State.opsAt, State.seqResult_radio]
    exact State.opsAt_setOps_same a n o
  refine ⟨?_, by rw [hops, ho], by rw [hops], State.flag_seqResult_ok, by rw [State.seqResult_mem]; rfl⟩
  rw [State.bit, State.get_seqResult (by decide) (by decide)]
  exact State.bit_setBit_true _ (by decide) n

/-- A register of a chain reads past what an answer writes. -/
theorem State.get_answered (a : State) (o : SeqOps) {f : Fld} (hf : f.below LSC.ID_BLOCK = true) {k : Nat} (hk : k < f.count) :
    (((a.setOps n o).seqEvent n evRDY).seqResult n 0).get f k = a.get f k := by
  have hset : ∀ (t : State) (g : Fld) (v : Nat), LSC.ID_BLOCK.key 0 ≤ g.key 0 → (t.set g v n).get f k = t.get f k := fun t g v hg => by
    have h1 := Fld.key_lt_of_below hf hk 0
    have h2 := g.key_mono (Nat.zero_le n)
    exact State.get_set_ne t g f v n k (by omega)
  have hform : ((a.setOps n o).seqEvent n evRDY).seqResult n 0 = ((a.setOps n o).seqEvent n evRDY).setFlag n flF false := rfl
  rw [hform, State.setFlag, State.setBit, hset _ _ _ (by decide), State.seqEvent, State.setBit, hset _ _ _ (by decide)]
  rfl

/-! ### RQS (R224) -/

/-- Sequencer `n` leases sheaf `sh` and no cut runs. -/
def SheafLeased (s : State) (n sh : Nat) : Prop :=
  s.get LSC.STATE_LTYPE n = sh + 1 ∧ s.seqSheaf n = some sh ∧ (s.opsAt n).cutting = false

theorem SheafLeased.owner (h : SheafLeased s n sh) : s.get SHF.LEASE_STATE_OWNER sh = n := by
  obtain ⟨-, hsheaf, -⟩ := h
  have hfound := List.find?_some hsheaf
  simp only [Bool.and_eq_true, beq_iff_eq] at hfound
  exact hfound.2

theorem SheafLeased.radioErr (h : SheafLeased s n sh) : s.radioErr n = 0 := by
  obtain ⟨htype, -, hcut⟩ := h
  simp [State.radioErr, htype, hcut]

theorem SheafLeased.pcNext (h : SheafLeased s n sh) : SheafLeased (s.pcNext n) n sh := by
  obtain ⟨htype, hsheaf, hcut⟩ := h
  refine ⟨?_, ?_, hcut⟩
  · rw [State.pcNext, State.get_set_apart _ (by decide), htype]
  · rw [State.pcNext, State.seqSheaf_set s (by decide) (by decide), hsheaf]

/-- The state in which sequencer `n` waits for chain `c`. -/
def State.rqsNoted (s : State) (n c : Nat) : State :=
  (s.pcNext n).setOps n { (s.pcNext n).opsAt n with rqs := some { mask := 2 ^ c }, rqsErr := 0 }

/-- A register below the sequencers' own reads past the request noted. -/
theorem State.get_rqsNoted {f : Fld} (hf : f.below LSC.STATE_PCW = true) {k : Nat} (hk : k < f.count) :
    (s.rqsNoted n c).get f k = s.get f k := State.get_set_above s hf hk _

theorem State.opsAt_rqsNoted (s : State) (n c : Nat) :
    ((s.rqsNoted n c).opsAt n) = { s.opsAt n with rqs := some { mask := 2 ^ c }, rqsErr := 0 } := State.opsAt_setOps_same _ n _

theorem exec_lsiRqs_alone (hrun : s.seqRuns n = true) (hl : SheafLeased s n sh) (hsh : sh < 4) (hc : c < 4)
    (hrole : s.get SHF.COMP_ROLE sh ≠ roleLISTEN ∨ req ≠ 4) :
    exec (.lsiRqs n (2 ^ c) req) s = .next ((
      if !s.bit SHF.COMP_TXMASK c sh then (s.rqsNoted n c).rqsAnswer n c errNOT_OWNER
      else if req == 0 || 5 < req then ((s.rqsNoted n c).utxRefuse c errBAD_STATE).rqsAnswer n c errBAD_STATE
      else ((s.rqsNoted n c).setUtx c { (s.rqsNoted n c).utxAt c with rqs := true }).utxRequest c
        (if req == 5 then txLISTEN else req - 1)).seqResult n 0) := by
  have hrole' : (s.pcNext n).get SHF.COMP_ROLE sh = s.get SHF.COMP_ROLE sh := State.get_set_above s (by decide) hsh _
  have htx : (s.pcNext n).get SHF.COMP_TXMASK sh = s.get SHF.COMP_TXMASK sh := State.get_set_above s (by decide) hsh _
  have hrqs : (s.pcNext n).seqRqs n (2 ^ c) req = (0, (s.pcNext n).rqsUhf n sh (2 ^ c) req) := by
    obtain ⟨-, hsheaf, -⟩ := hl.pcNext
    unfold State.seqRqs
    rw [hl.pcNext.radioErr, if_neg (by decide), hsheaf]
    dsimp only
    rw [hrole', if_neg]
    simp only [Bool.and_eq_true, beq_iff_eq, not_and_or]
    exact hrole
  have hexec : exec (.lsiRqs n (2 ^ c) req) s = .next (((s.pcNext n).rqsUhf n sh (2 ^ c) req).seqResult n 0) := by
    change execLsiRqs n (2 ^ c) req s = _
    unfold execLsiRqs
    rw [State.seqOp_of_runs hrun, hrqs]
  have hpow : (2 ^ c == 0) = false := by simp
  rw [hexec]
  unfold State.rqsUhf
  dsimp only
  rw [hpow, if_neg Bool.false_ne_true, hpow, if_neg Bool.false_ne_true, setBits_alone hc, htx]
  rfl

/-- A request that is refused at once (R224). -/
theorem exec_lsiRqs_refused (hrun : s.seqRuns n = true) (hl : SheafLeased s n sh) (hsh : sh < 4) (hc : c < 4)
    (hrole : s.get SHF.COMP_ROLE sh ≠ roleLISTEN ∨ req ≠ 4) (hbad : s.bit SHF.COMP_TXMASK c sh = false ∨ req = 0 ∨ 5 < req) :
    ∃ t, exec (.lsiRqs n (2 ^ c) req) s = .next t ∧ t.get UTX.STATE_STATE c = s.get UTX.STATE_STATE c ∧
      Answered n (if s.bit SHF.COMP_TXMASK c sh then 1 else 2) s t := by
  have hops := congrArg SeqOps.rqs (s.opsAt_rqsNoted n c)
  have hstate : (s.rqsNoted n c).get UTX.STATE_STATE c = s.get UTX.STATE_STATE c := State.get_rqsNoted (by decide) hc
  rw [exec_lsiRqs_alone hrun hl hsh hc hrole]
  cases hbit : s.bit SHF.COMP_TXMASK c sh with
  | false =>
    rw [if_pos (by decide), State.rqsAnswer_alone hc hops]
    exact ⟨_, rfl, (State.get_answered _ _ (by decide) hc).trans hstate, State.answered _ _ rfl⟩
  | true =>
    have hreq : (req == 0 || decide (5 < req)) = true := by
      rcases hbad with h | h | h
      · rw [h] at hbit; cases hbit
      · simp [h]
      · simp [h]
    rw [if_neg (by decide), if_pos hreq, State.rqsAnswer_alone (s := (s.rqsNoted n c).utxRefuse c errBAD_STATE) hc hops]
    refine ⟨_, rfl, (State.get_answered _ _ (by decide) hc).trans ?_, State.answered _ _ rfl⟩
    rw [State.utxRefuse, State.get_set_apart _ (by decide), State.noteErr, State.get_set_apart _ (by decide), hstate]

/-- The answer that a chain with an RQS gives (R218). -/
theorem State.utxReport_alone (d : State) (hc : c < 4) (hrqs : (d.utxAt c).rqs = true) (hsheaf : d.chainSheaf c = some sh)
    (how : d.get SHF.LEASE_STATE_OWNER sh = n) (hops : (d.opsAt n).rqs = some { mask := 2 ^ c }) (err : Nat) :
    d.utxReport c err = ((d.setUtx c { d.utxAt c with rqs := false }).setOps n { d.opsAt n with rqs := none, rqsErr := err }).seqEvent n
      evRDY := by
  unfold State.utxReport
  dsimp only
  rw [if_pos hrqs, hsheaf]
  dsimp only
  rw [how]
  exact State.rqsAnswer_alone (s := d.setUtx c { d.utxAt c with rqs := false }) hc hops err

/-- A chain that has reached what it was asked for, before it answers. -/
def State.askedMet (b : State) (c : Nat) : State :=
  let u := b.utxAt c
  (b.setUtx c { u with want := none, biasUp := u.biasUp && b.ust c != txOFF }).endWait c

/-- What a chain in STANDBY, asked for STANDBY, answers (R218). -/
theorem State.utxReached_answers (b : State) (hc : c < 4) (hst : b.get UTX.STATE_STATE c = 1) (hrqs : (b.utxAt c).rqs = true)
    (hsheaf : b.chainSheaf c = some sh) (how : b.get SHF.LEASE_STATE_OWNER sh = n) (hops : (b.opsAt n).rqs = some { mask := 2 ^ c }) :
    ∃ (a : State) (o : SeqOps), b.utxReached c = (a.setOps n o).seqEvent n evRDY ∧ o.rqs = none ∧ a.get UTX.STATE_STATE c = 1 ∧
      a.mem = b.mem := by
  have hoff : ¬ (b.ust c == txOFF) = true := by simp [State.ust, hst, txOFF]
  have hform : b.utxReached c = (b.askedMet c).utxReport c 0 := if_neg hoff
  have hmet : LateRegs b (b.askedMet c) := ((LateRegs.refl b).withRadio _).setTx (g := UTX.STATE_WAIT) (by decide) hc 0
  have hst' : (b.askedMet c).get UTX.STATE_STATE c = 1 := by
    rw [State.askedMet, State.endWait, State.get_set_apart _ (by decide), State.get_setUtx, hst]
  have hrqs' : ((b.askedMet c).utxAt c).rqs = true := by
    rw [State.askedMet, State.utxAt_endWait, State.utxAt_setUtx_same]
    exact hrqs
  have hops' : ((b.askedMet c).opsAt n).rqs = some { mask := 2 ^ c } := hops
  rw [hform, State.utxReport_alone _ hc hrqs' ((hmet.sheaves.chainSheaf c).trans hsheaf) ((hmet.owner sh).trans how) hops']
  exact ⟨_, _, rfl, rfl, hst', hmet.mem⟩

/-- A chain in READY that is asked for STANDBY reaches it at once and answers (R70, R218). -/
theorem State.utxRequest_answers (w : State) (hc : c < 4) (hst : w.get UTX.STATE_STATE c = 2) (hcarrier : w.carrier c = false)
    (hramp : (w.utxAt c).ramp = none) (hrelock : (w.synthAt (w.loOf c)).relock = false) (hrqs : (w.utxAt c).rqs = true)
    (hsheaf : w.chainSheaf c = some sh) (how : w.get SHF.LEASE_STATE_OWNER sh = n) (hops : (w.opsAt n).rqs = some { mask := 2 ^ c }) :
    ∃ (a : State) (o : SeqOps), w.utxRequest c 1 = (a.setOps n o).seqEvent n evRDY ∧ o.rqs = none ∧ a.get UTX.STATE_STATE c = 1 ∧
      a.mem = w.mem := by
  obtain ⟨hwant, hr, hcar, hust, hlo, -, -⟩ := State.utxAsked_start hc hcarrier hramp 1
  have hf := w.utxAsked_late hc 1
  have hrqs' : ((w.utxAsked c 1).utxAt c).rqs = true := by rw [State.utxAt_utxAsked, hrqs]
  have hops' := w.opsAt_utxAsked (c := c) 1 n
  have hsyn := w.synthAt_utxAsked c 1 (w.loOf c)
  rw [State.utxRequest_eq]
  generalize w.utxAsked c 1 = a at *
  have hbst : (a.setUst c txSTANDBY).get UTX.STATE_STATE c = 1 := State.ust_setUst a (by decide)
  have hbf := hf.setUst hc txSTANDBY
  have hbu := a.utxAt_setUst c txSTANDBY c
  rw [State.utxProgress_down 7 hwant hr hcar (hust.trans hst) (by decide) (by rw [hlo, hsyn]; exact hrelock),
    State.utxProgress_reached 6 (by rw [hbu]; exact hwant) (by rw [hbu]; exact hr)
      (by rw [State.carrier, State.on, State.get_setUst _ (Fld.clear_of_apart (by decide) _ _)]; exact hcar) hbst (by decide)]
  obtain ⟨e, o, he, ho, hest, hemem⟩ := State.utxReached_answers (a.setUst c txSTANDBY) hc hbst (by rw [hbu, hrqs'])
    ((hbf.sheaves.chainSheaf c).trans hsheaf) ((hbf.owner sh).trans how) (by rw [State.opsAt_setUst, hops', hops])
  exact ⟨e, o, he, ho, hest, hemem.trans hbf.mem⟩

theorem exec_lsiRqs_standby (hrun : s.seqRuns n = true) (hl : SheafLeased s n sh) (hsh : sh < 4) (hc : c < 4)
    (hrole : s.get SHF.COMP_ROLE sh ≠ roleLISTEN) (htx : s.bit SHF.COMP_TXMASK c sh = true) (hsheaf : s.chainSheaf c = some sh)
    (hst : s.get UTX.STATE_STATE c = 2) (hcarrier : s.carrier c = false) (hramp : (s.utxAt c).ramp = none)
    (hrelock : (s.synthAt (s.loOf c)).relock = false) :
    ∃ t, exec (.lsiRqs n (2 ^ c) 2) s = .next t ∧ t.get UTX.STATE_STATE c = 1 ∧ ∃ err, Answered n err s t := by
  have hnoted : ∀ f : Fld, f.below LSC.STATE_PCW = true → ∀ k, k < f.count → (s.rqsNoted n c).get f k = s.get f k :=
    fun f hf k hk => State.get_rqsNoted hf hk
  have hsheaves : SheavesAs s (s.rqsNoted n c) :=
    fun i hi => ⟨hnoted _ (by decide) i hi, hnoted _ (by decide) i hi, hnoted _ (by decide) i hi⟩
  have hlo : (s.rqsNoted n c).loOf c = s.loOf c := hnoted _ (by decide) c hc
  have hcar : (s.rqsNoted n c).carrier c = false := by
    rw [State.carrier, State.on, hnoted _ (by decide) c hc]
    exact hcarrier
  have hutx : ((s.rqsNoted n c).setUtx c { (s.rqsNoted n c).utxAt c with rqs := true }).utxAt c = { s.utxAt c with rqs := true } :=
    State.utxAt_setUtx_same ..
  obtain ⟨a, o, ha, ho, hast, hmem⟩ := State.utxRequest_answers
    ((s.rqsNoted n c).setUtx c { (s.rqsNoted n c).utxAt c with rqs := true }) hc ((hnoted _ (by decide) c hc).trans hst) hcar
    (by rw [hutx]; exact hramp) (by rw [← hlo] at hrelock; exact hrelock) (by rw [hutx]) ((hsheaves.chainSheaf c).trans hsheaf)
    ((hnoted _ (by decide) sh hsh).trans hl.owner) (congrArg SeqOps.rqs (s.opsAt_rqsNoted n c))
  obtain ⟨h1, h2, h3, h4, h5⟩ := a.answered (n := n) o ho
  rw [exec_lsiRqs_alone hrun hl hsh hc (.inl hrole), htx, if_neg (by decide), if_neg (by decide)]
  exact ⟨_, congrArg (fun u => Host.Outcome.next (u.seqResult n 0)) ha, (State.get_answered a o (by decide) hc).trans hast, _, h1, h2, h3, h4,
    h5.trans hmem⟩

end

end Sys2Proof.Machine
end

section
/-! PROOFS. R78, R81, R224: LOCK of the synthesizer that a link sequencer leases. -/

namespace Sys2Proof.Machine

open Sys2Proof

/-! ### A word written and a search begun (R78) -/

section
variable {s : State} {n sh m : Nat}

/-- No chain of a synthesizer carries where none does at all. -/
theorem State.fed_carrying (h : ∀ c, c < 4 → s.carrier c = false) (m : Nat) : (s.fed m).filter (fun c => s.carrier c) = [] := by
  rw [List.filter_eq_nil_iff]
  intro c hc
  have hlt : c < 4 := List.mem_range.1 (List.mem_filter.1 hc).1
  simp [h c hlt]

/-- A synthesizer that may search at once: fed to its own chain, in IDLE or LOCKED, with no boot under way. -/
def LockFree (s : State) (m : Nat) : Prop :=
  s.get UTX.CTRL_LO_SRC m = m ∧ (s.sst m = 1 ∨ s.sst m = 4) ∧ (s.synthAt m).bootFull = none ∧ ∀ c, c < 4 → s.carrier c = false

/-- A state that reads the same registers up to the synthesizers', and their own state. -/
theorem LockFree.congr {t : State} (h : LockFree s m) (hm : m < 4) (hget : ∀ f ∈ [UTX.CTRL_LO_SRC, RFS.STATE_STATE, UTX.STATE_CARRIER],
    ∀ k, k < 4 → t.get f k = s.get f k) (hsyn : t.synthAt m = s.synthAt m) : LockFree t m := by
  obtain ⟨hlo, hst, hboot, hcar⟩ := h
  refine ⟨?_, ?_, by rw [hsyn, hboot], fun c hc => ?_⟩
  · rw [hget _ (by simp) m hm, hlo]
  · rw [State.sst, hget _ (by simp) m hm]
    exact hst
  · rw [State.carrier, State.on, hget _ (by simp) c hc]
    exact hcar c hc

theorem LockFree.rfsFreq (h : LockFree s m) (v : Nat) :
    s.rfsFreq m v = (s.set RFS.FREQ_CHAN (bits v 25 20) m).set RFS.FREQ_KHZ (bits v 19 0) m := by
  obtain ⟨-, -, -, hcar⟩ := h
  exact if_neg (by simp [State.fed_carrying hcar])

theorem LockFree.rfsLock (h : LockFree s m) (hlow : 840000 ≤ s.get RFS.FREQ_KHZ m) (hhigh : s.get RFS.FREQ_KHZ m ≤ 960000) (full : Bool) :
    s.rfsLock m full = s.rfsSearch m full := by
  obtain ⟨hlo, hst, hboot, hcar⟩ := h
  have hmember : s.isMember m = false := by simp [State.isMember, State.loOf, hlo]
  have hcal : (s.sst m == synCAL) = false := by rcases hst with h | h <;> simp [h, synCAL]
  have hoff : (s.sst m == synOFF) = false := by rcases hst with h | h <;> simp [h, synOFF]
  unfold State.rfsLock
  dsimp only
  rw [State.fed_carrying hcar, hmember, hcal, hoff, hboot]
  simp [Nat.not_lt.2 hlow, Nat.not_lt.2 hhigh]

/-- What a search begun leaves. -/
theorem State.rfsSearch_begun (full : Bool) : (s.rfsSearch m full).get RFS.STATE_STATE m = 2 ∧
    (∀ f : Fld, f.apart RFS.STATE_STATE = true → f.apart RFS.STATE_HINT_USED = true → ∀ k, (s.rfsSearch m full).get f k = s.get f k) ∧
    (full = true → (s.rfsSearch m full).get RFS.STATE_HINT_USED m = 0) ∧ (∀ k, (s.rfsSearch m full).opsAt k = s.opsAt k) ∧
    (s.rfsSearch m full).mem = s.mem := by
  unfold State.rfsSearch
  extract_lets h hinted at_ y
  refine ⟨State.get_set_fits _ (by decide), fun f h1 h2 k => ?_, fun hfull => ?_, fun _ => rfl, rfl⟩
  · rw [State.get_set_apart _ h1, State.get_set_apart _ h2]
    rfl
  · rw [State.get_set_apart _ (by decide), State.get_set_fits]
    · simp [hinted, hfull, b2n]
    · simp [hinted, hfull, b2n]

/-! ### LOCK (R224) -/

/-- The state in which sequencer `n` waits for its synthesizer. -/
def State.lockNoted (s : State) (n : Nat) : State :=
  (s.pcNext n).setOps n { (s.pcNext n).opsAt n with lockPending := true, lockErr := 0 }

theorem exec_lsiLock (hrun : s.seqRuns n = true) (hl : SheafLeased s n sh) (hsh : sh < 4) (a full : Nat) :
    exec (.lsiLock n a full) s = .next ((((s.lockNoted n).rfsFreq (s.get SHF.COMP_LO_USED sh) (s.greg n a)).rfsLock
      (s.get SHF.COMP_LO_USED sh) (full == 1)).seqResult n 0) := by
  have hlo : (s.pcNext n).get SHF.COMP_LO_USED sh = s.get SHF.COMP_LO_USED sh := State.get_set_above s (by decide) hsh _
  have hlock : (s.pcNext n).seqLock n (s.greg n a) (full == 1) = (0, ((s.lockNoted n).rfsFreq (s.get SHF.COMP_LO_USED sh)
      (s.greg n a)).rfsLock (s.get SHF.COMP_LO_USED sh) (full == 1)) := by
    obtain ⟨-, hsheaf, -⟩ := hl.pcNext
    unfold State.seqLock
    rw [hl.pcNext.radioErr, if_neg (by decide), hsheaf]
    dsimp only
    rw [hlo]
    rfl
  change execLsiLock n a full s = _
  unfold execLsiLock
  rw [State.seqOp_of_runs hrun, State.greg_pcNext, hlock]

theorem exec_lsiLock_begins (hrun : s.seqRuns n = true) (hl : SheafLeased s n sh) (hsh : sh < 4) {lo a : Nat} (hm : lo < 4)
    (hlo : s.get SHF.COMP_LO_USED sh = lo) (hfree : LockFree s lo) (hlow : 840000 ≤ bits (s.greg n a) 19 0)
    (hhigh : bits (s.greg n a) 19 0 ≤ 960000) (full : Nat) :
    ∃ t, exec (.lsiLock n a full) s = .next t ∧ t.get RFS.STATE_STATE lo = 2 ∧ t.get RFS.FREQ_KHZ lo = bits (s.greg n a) 19 0 ∧
      t.get RFS.FREQ_CHAN lo = bits (s.greg n a) 25 20 ∧ (full = 1 → t.get RFS.STATE_HINT_USED lo = 0) ∧ t.flag n flF = false ∧
      (t.opsAt n).lockPending = true ∧ t.mem = s.mem := by
  have hnoted : LockFree (s.lockNoted n) lo := hfree.congr hm (fun f hf k hk => by
    simp only [List.mem_cons, List.not_mem_nil, or_false] at hf
    rcases hf with rfl | rfl | rfl
    · exact State.get_set_above s (by decide) hk _
    · exact State.get_set_above s (by decide) hk _
    · exact State.get_set_above s (by decide) hk _) rfl
  have hops : (s.lockNoted n).opsAt n = { s.opsAt n with lockPending := true, lockErr := 0 } := State.opsAt_setOps_same _ n _
  have hmem : (s.lockNoted n).mem = s.mem := rfl
  rw [exec_lsiLock hrun hl hsh, hlo, hnoted.rfsFreq]
  generalize s.lockNoted n = v at *
  have hkhz : bits (s.greg n a) 19 0 < 2 ^ RFS.FREQ_KHZ.width := by
    change _ < 1048576
    omega
  have hchan : bits (s.greg n a) 25 20 < 2 ^ RFS.FREQ_CHAN.width := Nat.mod_lt _ (by decide)
  generalize bits (s.greg n a) 25 20 = ch at *
  generalize bits (s.greg n a) 19 0 = khz at *
  have hw : LockFree ((v.set RFS.FREQ_CHAN ch lo).set RFS.FREQ_KHZ khz lo) lo := hnoted.congr hm (fun f hf k hk => by
    simp only [List.mem_cons, List.not_mem_nil, or_false] at hf
    rcases hf with rfl | rfl | rfl
    · rw [State.get_set_above _ (by decide) hk, State.get_set_above _ (by decide) hk]
    · rw [State.get_set_apart _ (by decide), State.get_set_apart _ (by decide)]
    · rw [State.get_set_above _ (by decide) hk, State.get_set_above _ (by decide) hk]) rfl
  have hwk : ((v.set RFS.FREQ_CHAN ch lo).set RFS.FREQ_KHZ khz lo).get RFS.FREQ_KHZ lo = khz := State.get_set_fits _ hkhz
  have hwc : ((v.set RFS.FREQ_CHAN ch lo).set RFS.FREQ_KHZ khz lo).get RFS.FREQ_CHAN lo = ch := by
    rw [State.get_set_apart _ (by decide), State.get_set_fits _ hchan]
  have hwops : ((v.set RFS.FREQ_CHAN ch lo).set RFS.FREQ_KHZ khz lo).opsAt n = v.opsAt n := rfl
  have hwmem : ((v.set RFS.FREQ_CHAN ch lo).set RFS.FREQ_KHZ khz lo).mem = v.mem := rfl
  rw [hw.rfsLock (by rw [hwk]; exact hlow) (by rw [hwk]; exact hhigh)]
  generalize (v.set RFS.FREQ_CHAN ch lo).set RFS.FREQ_KHZ khz lo = w at *
  obtain ⟨hst, hget, hhint, hkeep, hwm⟩ := w.rfsSearch_begun (m := lo) (full == 1)
  generalize w.rfsSearch lo (full == 1) = z at *
  have hres : ∀ f : Fld, f.below LSC.STATE_FLAGS = true → lo < f.count → (z.seqResult n 0).get f lo = z.get f lo :=
    fun f hf hk => State.get_set_above z hf hk _
  refine ⟨_, rfl, ?_, ?_, ?_, fun hfull => ?_, State.flag_seqResult_ok, ?_, ?_⟩
  · rw [hres _ (by decide) hm, hst]
  · rw [hres _ (by decide) hm, hget _ (by decide) (by decide), hwk]
  · rw [hres _ (by decide) hm, hget _ (by decide) (by decide), hwc]
  · rw [hres _ (by decide) hm, hhint (by simp [hfull])]
  · rw [State.opsAt, State.seqResult_radio]
    exact congrArg SeqOps.lockPending ((hkeep n).trans (hwops.trans hops))
  · rw [State.seqResult_mem, hwm, hwmem, hmem]

end

end Sys2Proof.Machine
end

section
/-! PROOFS. R73 to R75, R223, R224: the frames that a link sequencer issues under a sheaf lease. -/

namespace Sys2Proof.Machine

open Sys2Proof

/-! ### What the check of a frame looks at -/

/-- The chains' states and the leases read the same, beside the same radio state and memory. -/
def TxSame (s t : State) : Prop :=
  t.radio = s.radio ∧ t.mem = s.mem ∧
    ∀ f ∈ [UTX.STATE_STATE, UTX.STATE_CARRIER, SHF.LEASE_STATE_HELD, SHF.COMP_TXMASK], ∀ k, k < 4 → t.get f k = s.get f k

section
variable {s t : State} {n sh fidx : Nat}

theorem TxSame.refl (s : State) : TxSame s s := ⟨rfl, rfl, fun _ _ _ _ => rfl⟩

/-- A write of a register that none of these is. -/
theorem TxSame.set (h : TxSame s t) {g : Fld} {j : Nat} (v : Nat)
    (hg : ∀ f ∈ [UTX.STATE_STATE, UTX.STATE_CARRIER, SHF.LEASE_STATE_HELD, SHF.COMP_TXMASK], ∀ k, k < 4 → f.key k ≠ g.key j) :
    TxSame s (t.set g v j) := by
  obtain ⟨hr, hm, hget⟩ := h
  exact ⟨hr, hm, fun f hf k hk => (State.get_set_ne t g f v j k (hg f hf k hk)).trans (hget f hf k hk)⟩

/-- A sequencer's own register is none of these. -/
theorem TxSame.setLsc (h : TxSame s t) {g : Fld} (hg : LSC.ID_BLOCK.key 0 ≤ g.key 0) (v j : Nat) : TxSame s (t.set g v j) := by
  refine h.set v fun f hf k hk => ?_
  have hall : ∀ x ∈ [UTX.STATE_STATE, UTX.STATE_CARRIER, SHF.LEASE_STATE_HELD, SHF.COMP_TXMASK],
      x.below LSC.ID_BLOCK = true ∧ x.count = 4 := by decide
  obtain ⟨hbelow, hcount⟩ := hall f hf
  have h1 := Fld.key_lt_of_below hbelow (hcount ▸ hk) 0
  have h2 := g.key_mono (Nat.zero_le j)
  omega

theorem TxSame.setPad (h : TxSame s t) {c : Nat} (hc : c < 4) (v : Nat) : TxSame s (t.set UTX.MOD_CFG_PAD v c) := by
  refine h.set v fun f hf k _ => ?_
  simp only [List.mem_cons, List.not_mem_nil, or_false] at hf
  rcases hf with rfl | rfl | rfl | rfl
  · exact Fld.key_ne_of_apart (by decide) _ _
  · exact Fld.key_ne_of_apart (by decide) _ _
  · exact Nat.ne_of_gt (Fld.key_lt_of_below (by decide) hc _)
  · exact Nat.ne_of_gt (Fld.key_lt_of_below (by decide) hc _)

theorem TxSame.bumpLsc (h : TxSame s t) {g x : Fld} (hg : LSC.ID_BLOCK.key 0 ≤ g.key 0) (hx : LSC.ID_BLOCK.key 0 ≤ x.key 0) (j : Nat) :
    TxSame s (t.bump g x j) := by
  unfold State.bump
  split
  · exact h.setLsc hg _ _
  · exact (h.setLsc hg _ _).setLsc hx _ _

theorem TxSame.txReady (h : TxSame s t) (hsh : sh < 4) : t.txReady sh = s.txReady sh := by
  obtain ⟨hr, -, hget⟩ := h
  have htx : t.txOf sh = s.txOf sh := by
    rw [State.txOf, State.on, hget _ (by simp) sh hsh, hget _ (by simp) sh hsh]
    rfl
  unfold State.txReady
  rw [htx]
  refine List.filter_congr fun c hc => ?_
  have hlt := State.txOf_lt hc
  rw [State.carrier, State.on, State.ust, hget _ (by simp) c hlt, hget _ (by simp) c hlt, State.utxAt, hr]
  rfl

theorem State.pcNext_txSame (s : State) (n : Nat) : TxSame s (s.pcNext n) := (TxSame.refl s).setLsc (by decide) _ _

/-! ### Frames that are not sent (R224) -/

/-- The operand registers of sequencer `n`. -/
def State.txfOps (s : State) (n : Nat) : List Nat := (List.range 4).map fun k => Tab.get 0 (s.seqAt n).g (12 + k)

/-- The engine of sheaf `sh` can take a frame: no LISTEN, no cut, none on air and none held. -/
def TxfOpen (s : State) (n sh : Nat) : Prop :=
  s.get SHF.COMP_ROLE sh ≠ roleLISTEN ∧ (s.opsAt n).cutting = false ∧ (s.engAt sh).sending = none ∧ (s.engAt sh).held = none

/-- The frame's index is within the table of sequencer `n`. -/
def TxfListed (s : State) (n fidx : Nat) : Prop := (s.seqAt n).fmtBase ≠ 0 ∧ fidx < (s.seqAt n).nfmt

theorem State.txfUhf_listen (h : s.get SHF.COMP_ROLE sh = roleLISTEN) : s.txfUhf n sh fidx = .inl (17, s) := by
  simp [State.txfUhf, h]

theorem State.txfUhf_busy (hrole : s.get SHF.COMP_ROLE sh ≠ roleLISTEN) (hcut : (s.opsAt n).cutting = false)
    (h : (s.engAt sh).sending ≠ none ∨ (s.engAt sh).held ≠ none) : s.txfUhf n sh fidx = .inl (18, s) := by
  have hsome : ((s.engAt sh).sending.isSome || (s.engAt sh).held.isSome) = true := by
    simpa [Option.isSome_iff_ne_none] using h
  simp [State.txfUhf, hrole, hcut, hsome]

theorem State.txfUhf_unlisted (hopen : TxfOpen s n sh) (h : (s.seqAt n).fmtBase = 0 ∨ (s.seqAt n).nfmt ≤ fidx) :
    s.txfUhf n sh fidx = .inl (19, s) := by
  obtain ⟨hrole, hcut, hsend, hheld⟩ := hopen
  simp [State.txfUhf, hrole, hcut, hsend, hheld, h]

theorem State.txfUhf_operand (hopen : TxfOpen s n sh) (hlist : TxfListed s n fidx)
    (h : operandBad (s.frameEntry n fidx) (s.txfOps n) = true) : s.txfUhf n sh fidx = .inl (20, s) := by
  obtain ⟨hrole, hcut, hsend, hheld⟩ := hopen
  obtain ⟨hbase, hidx⟩ := hlist
  rw [State.txfOps] at h
  simp [State.txfUhf, hrole, hcut, hsend, hheld, hbase, Nat.not_le.2 hidx, h]

theorem State.txfUhf_unready (hopen : TxfOpen s n sh) (hlist : TxfListed s n fidx)
    (hop : operandBad (s.frameEntry n fidx) (s.txfOps n) = false) (h : s.txReady sh = []) :
    s.txfUhf n sh fidx = .inl (1, s) := by
  obtain ⟨hrole, hcut, hsend, hheld⟩ := hopen
  obtain ⟨hbase, hidx⟩ := hlist
  rw [State.txfOps] at hop
  simp [State.txfUhf, hrole, hcut, hsend, hheld, hbase, Nat.not_le.2 hidx, hop, h, errBAD_STATE]

theorem State.txfUhf_issues (hopen : TxfOpen s n sh) (hlist : TxfListed s n fidx)
    (hop : operandBad (s.frameEntry n fidx) (s.txfOps n) = false) (hready : s.txReady sh ≠ [])
    (hmode : ∀ c ∈ s.txReady sh, s.get UTX.MOD_CFG_MODE c ≠ 3) (hshape : ∀ c ∈ s.txReady sh, s.shapeLen (s.get UTX.MOD_CFG_SHAPE c) = 0) :
    s.txfUhf n sh fidx = .inr (s.issueFrame n sh (s.mkFrame n (s.frameEntry n fidx) (s.txfOps n))) := by
  obtain ⟨hrole, hcut, hsend, hheld⟩ := hopen
  obtain ⟨hbase, hidx⟩ := hlist
  have hbad : (s.txReady sh).filter (fun c => s.get UTX.MOD_CFG_MODE c == 3) = [] := by
    rw [List.filter_eq_nil_iff]
    intro c hc
    simp [hmode c hc]
  have hlong : ∀ w, (s.txReady sh).filter (fun c => decide (w < s.shapeLen (s.get UTX.MOD_CFG_SHAPE c))) = [] := fun w => by
    rw [List.filter_eq_nil_iff]
    intro c hc
    simp [hshape c hc]
  rw [State.txfOps] at hop ⊢
  unfold State.txfUhf
  dsimp only
  rw [hbad, hlong]
  simp [hrole, hcut, hsend, hheld, hbase, Nat.not_le.2 hidx, hop, hready]

/-! ### TXF (R223, R224) -/

theorem State.seqTxf_uhf (hl : SheafLeased s n sh) : s.seqTxf n fidx = s.txfUhf n sh fidx := by
  have herr := hl.radioErr
  obtain ⟨-, hsheaf, -⟩ := hl
  unfold State.seqTxf
  rw [herr, if_neg (by decide), hsheaf]

section
variable (hrun : s.seqRuns n = true) (hl : SheafLeased s n sh) (hidx : fidx < 64)
include hrun hl hidx

theorem exec_lsiTxf_issued (h : (s.pcNext n).txfUhf n sh fidx = .inr t) : exec (.lsiTxf n fidx) s = .next (t.seqResult n 0) := by
  change execLsiTxf n fidx s = _
  unfold execLsiTxf
  rw [State.seqOp_of_runs hrun, Nat.mod_eq_of_lt hidx, State.seqTxf_uhf hl.pcNext, h]

/-- A frame that is not sent sets F and ERR (R224). -/
theorem exec_lsiTxf_fails {err : Nat} (h : (s.pcNext n).txfUhf n sh fidx = .inl (err, s.pcNext n)) (he : err ≠ 0) (herr : err < 256) :
    ∃ t, exec (.lsiTxf n fidx) s = .next t ∧ t.flag n flF = true ∧ t.get LSC.DIAG_ERR n = err ∧ t.mem = s.mem := by
  have hexec : exec (.lsiTxf n fidx) s = .next ((s.pcNext n).seqResult n err) := by
    change execLsiTxf n fidx s = _
    unfold execLsiTxf
    rw [State.seqOp_of_runs hrun, Nat.mod_eq_of_lt hidx, State.seqTxf_uhf hl.pcNext, h]
  obtain ⟨hF, hdiag⟩ := (s.pcNext n).seqResult_fails (n := n) he herr
  exact ⟨_, hexec, hF, hdiag, by rw [State.seqResult_mem]; rfl⟩

end

theorem State.role_pcNext (s : State) (hsh : sh < 4) (n : Nat) : (s.pcNext n).get SHF.COMP_ROLE sh = s.get SHF.COMP_ROLE sh :=
  State.get_set_above s (by decide) hsh _

theorem TxfOpen.pcNext (h : TxfOpen s n sh) (hsh : sh < 4) : TxfOpen (s.pcNext n) n sh := by
  obtain ⟨hrole, hcut, hsend, hheld⟩ := h
  exact ⟨by rw [s.role_pcNext hsh]; exact hrole, hcut, hsend, hheld⟩

/-! ### The frame issued (R74, R75, R195, R223) -/

/-- What stands once the frame is counted and the window closed. -/
def State.issueNoted (s : State) (n sh : Nat) (f : Frame) : State :=
  (s.forL (s.txOf sh) fun c t => t.set UTX.MOD_CFG_PAD (lkPad f.link) c).bump LSC.CNT_TXF_COUNT LSC.STATUS_SAT n

theorem State.issueNoted_txSame (s : State) (n sh : Nat) (f : Frame) : TxSame s (s.issueNoted n sh f) :=
  (State.forL_keep (TxSame s) _ _ _ (TxSame.refl s) fun _ hc _ ht => ht.setPad (State.txOf_lt hc) _).bumpLsc (by decide) (by decide) n

/-- The engine with its window closed. -/
def FrameEng.shut (e : FrameEng) : FrameEng := { e with window := none, preamble := false }

/-- Where a frame goes from the state `u` whose engine of sheaf `sh` is `e`. -/
def State.issueTo (u : State) (sh : Nat) (e : FrameEng) (f : Frame) : State :=
  if e.taRunning then (u.setEng sh e).setEng sh { e with held := some (f, .turnaround) }
  else if e.taExpired then (u.setEng sh e).lateFrame sh f
  else if e.minGap then (u.setEng sh e).setEng sh { e with held := some (f, .hold) }
  else (u.setEng sh e).beginFrame sh { f with began := 24 } ((u.setEng sh e).txReady sh)

theorem State.issueFrame_eq (s : State) (n sh : Nat) (f : Frame) :
    s.issueFrame n sh f = (s.issueNoted n sh f).issueTo sh (s.engAt sh).shut f := by
  obtain ⟨hr, -, -⟩ := s.issueNoted_txSame n sh f
  have he : (s.issueNoted n sh f).engAt sh = s.engAt sh := by rw [State.engAt, hr]; rfl
  rw [← he]
  rfl

/-- The frame is held while the turnaround runs (R75). -/
theorem State.issueFrame_held (f : Frame) (h : (s.engAt sh).taRunning = true) :
    ((s.issueFrame n sh f).engAt sh).held = some (f, .turnaround) ∧ (s.issueFrame n sh f).mem = s.mem := by
  obtain ⟨-, hm, -⟩ := s.issueNoted_txSame n sh f
  rw [State.issueFrame_eq, State.issueTo, if_pos (show (s.engAt sh).shut.taRunning = true from h)]
  refine ⟨by rw [State.engAt_setEng_same], ?_⟩
  rw [← hm]
  rfl

theorem State.beginFrame_seq (f : Frame) {on : List Nat} (h : on ≠ []) :
    ∃ g, ((s.beginFrame sh f on).engAt sh).sending = some g ∧ g.seq = f.seq := by
  unfold State.beginFrame
  extract_lets e f0 f' s1 s2
  rw [if_neg (by simpa using h)]
  have h1 : (s1.engAt sh).sending = some f' := by simp only [s1, State.engAt_setEng_same]
  have h2 : (s2.engAt sh).sending = some f' := State.forL_keep (fun t => (t.engAt sh).sending = some f') _ _ _ h1 fun _ _ _ ht => ht
  refine ⟨f', State.forL_keep (fun t => (t.engAt sh).sending = some f') _ _ _ h2 fun c _ t ht => ?_, rfl⟩
  rw [State.engAt_setUst]
  exact ht

/-- The frame begins on every chain that can send it (R75). -/
theorem State.issueFrame_begins (f : Frame) (hsh : sh < 4) (hta : (s.engAt sh).taRunning = false) (hx : (s.engAt sh).taExpired = false)
    (hgap : (s.engAt sh).minGap = false) (hready : s.txReady sh ≠ []) :
    (∃ g, ((s.issueFrame n sh f).engAt sh).sending = some g ∧ g.seq = f.seq) ∧
      (∀ c ∈ s.txReady sh, (s.issueFrame n sh f).get UTX.STATE_STATE c = 4) ∧ (s.issueFrame n sh f).mem = s.mem := by
  have hrdy : ((s.issueNoted n sh f).setEng sh (s.engAt sh).shut).txReady sh = s.txReady sh :=
    (s.issueNoted_txSame n sh f).txReady hsh
  obtain ⟨-, hm, -⟩ := s.issueNoted_txSame n sh f
  obtain ⟨hta', hx', hgap'⟩ : (s.engAt sh).shut.taRunning = false ∧ (s.engAt sh).shut.taExpired = false ∧
    (s.engAt sh).shut.minGap = false := ⟨hta, hx, hgap⟩
  rw [State.issueFrame_eq, State.issueTo, hta', hx', hgap', if_neg Bool.false_ne_true, if_neg Bool.false_ne_true,
    if_neg Bool.false_ne_true, hrdy]
  have hsends := fun c hc => ((s.issueNoted n sh f).setEng sh (s.engAt sh).shut).beginFrame_sends sh { f with began := 24 }
    (on := s.txReady sh) (c := c) hc
  obtain ⟨c, hc⟩ := List.exists_mem_of_ne_nil _ hready
  refine ⟨State.beginFrame_seq { f with began := 24 } hready, fun c hc => ?_, ?_⟩
  · obtain ⟨-, -, -, -, -, hst, -⟩ := hsends c hc
    exact hst
  · obtain ⟨-, -, -, -, -, -, hmem⟩ := hsends c hc
    exact hmem.trans hm

/-! ### TXF of a sound frame -/

/-- TXF of frame `fidx` finds it sound and its chains ready. -/
def TxfSound (s : State) (n sh fidx : Nat) : Prop :=
  TxfOpen s n sh ∧ TxfListed s n fidx ∧ operandBad (s.frameEntry n fidx) (s.txfOps n) = false ∧ s.txReady sh ≠ [] ∧
    (∀ c ∈ s.txReady sh, s.get UTX.MOD_CFG_MODE c ≠ 3) ∧ ∀ c ∈ s.txReady sh, s.shapeLen (s.get UTX.MOD_CFG_SHAPE c) = 0

theorem TxfSound.issues (h : TxfSound s n sh fidx) (hsh : sh < 4) : (s.pcNext n).txfUhf n sh fidx =
    .inr ((s.pcNext n).issueFrame n sh ((s.pcNext n).mkFrame n (s.frameEntry n fidx) (s.txfOps n))) := by
  obtain ⟨hopen, hlist, hop, hready, hmode, hshape⟩ := h
  have hrdy := (s.pcNext_txSame n).txReady hsh
  refine State.txfUhf_issues (s := s.pcNext n) (hopen.pcNext hsh) hlist hop (by rw [hrdy]; exact hready) (fun c hc => ?_) fun c hc => ?_
  · rw [hrdy] at hc
    rw [State.pcNext, State.get_set_above _ (by decide) (State.txReady_lt hc)]
    exact hmode c hc
  · rw [hrdy] at hc
    rw [State.pcNext, State.get_set_above _ (by decide) (State.txReady_lt hc)]
    exact hshape c hc

section
variable (hrun : s.seqRuns n = true) (hl : SheafLeased s n sh) (hsh : sh < 4) (hidx : fidx < 64) (h : TxfSound s n sh fidx)
include hrun hl hsh hidx h

theorem exec_lsiTxf_held (hta : (s.engAt sh).taRunning = true) :
    ∃ t f, exec (.lsiTxf n fidx) s = .next t ∧ (t.engAt sh).held = some (f, .turnaround) ∧ t.flag n flF = false ∧ t.mem = s.mem := by
  obtain ⟨hheld, hmem⟩ := State.issueFrame_held (s := s.pcNext n) (n := n) (sh := sh)
    ((s.pcNext n).mkFrame n (s.frameEntry n fidx) (s.txfOps n)) hta
  refine ⟨_, (s.pcNext n).mkFrame n (s.frameEntry n fidx) (s.txfOps n), exec_lsiTxf_issued hrun hl hidx (h.issues hsh), ?_,
    State.flag_seqResult_ok, ?_⟩
  · rw [State.engAt, State.seqResult_radio]
    exact hheld
  · rw [State.seqResult_mem, hmem]
    rfl

theorem exec_lsiTxf_begins (hta : (s.engAt sh).taRunning = false) (hx : (s.engAt sh).taExpired = false)
    (hgap : (s.engAt sh).minGap = false) :
    ∃ t f, exec (.lsiTxf n fidx) s = .next t ∧ (t.engAt sh).sending = some f ∧ f.seq = n ∧ t.flag n flF = false ∧
      (∀ c ∈ s.txReady sh, t.get UTX.STATE_STATE c = 4) ∧ t.mem = s.mem := by
  have hexec := exec_lsiTxf_issued hrun hl hidx (h.issues hsh)
  have hrdy := (s.pcNext_txSame n).txReady hsh
  obtain ⟨-, -, -, hready, -, -⟩ := h
  obtain ⟨⟨g, hg, hseq⟩, hst, hmem⟩ := State.issueFrame_begins (s := s.pcNext n) (n := n) (sh := sh)
    ((s.pcNext n).mkFrame n (s.frameEntry n fidx) (s.txfOps n)) hsh hta hx hgap (by rw [hrdy]; exact hready)
  rw [hrdy] at hst
  refine ⟨_, g, hexec, ?_, hseq, State.flag_seqResult_ok, fun c hc => ?_, ?_⟩
  · rw [State.engAt, State.seqResult_radio]
    exact hg
  · exact (State.get_set_above _ (by decide) (State.txReady_lt hc) _).trans (hst c hc)
  · rw [State.seqResult_mem, hmem]
    rfl

end

/-! ### Without a lease, and while a cut runs (R224, R230) -/

theorem exec_radio_none (hrun : s.seqRuns n = true) (hnone : s.get LSC.STATE_LTYPE n = 0 ∨ (s.opsAt n).cutting = true)
    (c r a full fidx : Nat) :
    let e := ((s.set LSC.STATE_PCW (s.get LSC.STATE_PCW n + 1) n).setFlag n flF true).set LSC.DIAG_ERR
      (if s.get LSC.STATE_LTYPE n = 0 then 16 else 25) n
    exec (.lsiRqs n c r) s = .next e ∧ exec (.lsiLock n a full) s = .next e ∧ exec (.lsiTxf n fidx) s = .next e := by
  intro e
  have htype : (s.pcNext n).get LSC.STATE_LTYPE n = s.get LSC.STATE_LTYPE n := State.get_set_apart _ (by decide) _
  have herr : (s.pcNext n).radioErr n = if s.get LSC.STATE_LTYPE n = 0 then 16 else 25 := by
    rw [State.radioErr, htype]
    by_cases h : s.get LSC.STATE_LTYPE n = 0
    · simp [h]
    · have hcut : ((s.pcNext n).opsAt n).cutting = true := hnone.resolve_left h
      simp [h, hcut]
  have hne : (s.pcNext n).radioErr n ≠ 0 := by
    rw [herr]
    split
    · decide
    · decide
  have hne' : ((s.pcNext n).radioErr n != 0) = true := by simpa using hne
  have hres : (s.pcNext n).seqResult n ((s.pcNext n).radioErr n) = e := by
    rw [State.seqResult, if_neg (by simpa using hne), herr]
    rfl
  refine ⟨?_, ?_, ?_⟩
  · change execLsiRqs n c r s = _
    unfold execLsiRqs State.seqRqs
    rw [State.seqOp_of_runs hrun, if_pos hne', hres]
  · change execLsiLock n a full s = _
    unfold execLsiLock State.seqLock
    rw [State.seqOp_of_runs hrun, if_pos hne', hres]
  · change execLsiTxf n fidx s = _
    unfold execLsiTxf State.seqTxf
    rw [State.seqOp_of_runs hrun, if_pos hne']
    exact congrArg Host.Outcome.next hres

end

/-- Settles O30: each instruction by the lemmas of its group. -/
theorem lsiRadioAndQueues : Obligations.LsiRadioAndQueues := by
  unfold Obligations.LsiRadioAndQueues
  refine ⟨?_, ?_, ?_, ?_, ?_, ?_, ?_, ?_, ?_, ?_, ?_, ?_, ?_, ?_⟩
  · intro s n sh c _ hsh hc hrun htype hsheaf hcut hrole htx hchain hst hcar hramp hrelock
    obtain ⟨t, hexec, hstate, err, hrdy, hrqs, -, hF, hmem⟩ :=
      exec_lsiRqs_standby hrun ⟨htype, hsheaf, hcut⟩ hsh hc hrole htx hchain hst hcar hramp hrelock
    exact ⟨t, hexec, hstate, hrdy, hrqs, hF, hmem⟩
  · intro s n sh c req _ hsh hc hrun htype hsheaf hcut hrole hbad
    exact exec_lsiRqs_refused hrun ⟨htype, hsheaf, hcut⟩ hsh hc hrole hbad
  · intro s n sh lo a full _ hsh hm hrun htype hsheaf hcut hlo hsrc hst hboot hcar hlow hhigh
    exact exec_lsiLock_begins hrun ⟨htype, hsheaf, hcut⟩ hsh hm hlo ⟨hsrc, hst, hboot, hcar⟩ hlow hhigh full
  · intro s n sh fidx _ hsh hidx hrun htype hsheaf hcut hrole hsend hheld hbase hlist hop hready hmode hshape
    have hsound : TxfSound s n sh fidx := ⟨⟨hrole, hcut, hsend, hheld⟩, ⟨hbase, hlist⟩, hop, hready, hmode, hshape⟩
    exact ⟨exec_lsiTxf_held hrun ⟨htype, hsheaf, hcut⟩ hsh hidx hsound, exec_lsiTxf_begins hrun ⟨htype, hsheaf, hcut⟩ hsh hidx hsound⟩
  · intro s n sh fidx _ hsh hidx hrun htype hsheaf hcut
    have hl : SheafLeased s n sh := ⟨htype, hsheaf, hcut⟩
    have hrole' := s.role_pcNext hsh n
    have hrdy := (s.pcNext_txSame n).txReady hsh
    have hfails := fun err h (he : err ≠ 0) herr => exec_lsiTxf_fails hrun hl hidx (err := err) h he herr
    refine ⟨fun hrole => hfails 17 (State.txfUhf_listen (hrole'.trans hrole)) (by decide) (by decide),
      fun hrole hbusy => hfails 18 (State.txfUhf_busy (by rw [hrole']; exact hrole) hcut hbusy) (by decide) (by decide),
      fun hrole hsend hheld => ?_⟩
    have hopen : TxfOpen (s.pcNext n) n sh := TxfOpen.pcNext ⟨hrole, hcut, hsend, hheld⟩ hsh
    exact ⟨fun hlist => hfails 19 (State.txfUhf_unlisted hopen hlist) (by decide) (by decide),
      fun hbase hlist => ⟨fun hop => hfails 20 (State.txfUhf_operand hopen ⟨hbase, hlist⟩ hop) (by decide) (by decide),
        fun hop hready => hfails 1 (State.txfUhf_unready hopen ⟨hbase, hlist⟩ hop (hrdy.trans hready)) (by decide) (by decide)⟩⟩
  · exact fun s n c r a full fidx hrun hnone => exec_radio_none hrun hnone c r a full fidx
  · intro s n a q hn hq hrun hroom hheld hrsv
    obtain ⟨t, ht, hpush, hlevel, hF, hque, hmem⟩ := State.seqPush_pcNext (s := s) (words := [s.greg n a]) hn hq hroom hheld
    refine ⟨t, ?_, hpush, hlevel (Nat.succ_lt_succ hrsv), hF, hque, hmem⟩
    rw [exec_lsiPush hrun, ht]
  · exact fun s n a q cnt hn hq hrun hcnt hal hin hfull => exec_push_refused hn hq hrun hcnt hal hin hfull
  · intro s n a q cnt hn hq _ hrun hal hin hroom hheld
    have hlen : (s.pushWords n a cnt).length = cnt := by simp [State.pushWords]
    obtain ⟨t, ht, hpush, -, hF, hque, hmem⟩ := State.seqPush_pcNext (s := s) (words := s.pushWords n a cnt) hn hq (by rwa [hlen])
      (by rwa [hlen])
    refine ⟨t, ?_, hpush, hF, hque, hmem⟩
    rw [exec_lsiPushb hrun hal hin, ht]
  · exact fun s n d q w r _ hq hw hrun hwords => exec_lsiPop_word hq hw hrun hwords d
  · exact fun s n d q hn hq hrun hwords => exec_lsiPop_empty hn hq hrun hwords d
  · intro s n q k hn hq hrun hbank hcont hroom hheld
    refine exec_lsiPushrec_room hn hq hrun ⟨hbank, ?_⟩ hroom hheld
    exact hcont.imp (fun ⟨hnone, hk⟩ => ⟨hnone, by rw [hk]⟩) fun ⟨hlen, hk⟩ => ⟨hlen, by rw [hk]⟩
  · exact fun s n a k _ hrun hbank hcont hal hin => exec_lsiStrec_stored hrun ⟨hbank, hcont⟩ hal hin
  · exact fun s n a q _ hrun hbank hcont => exec_record_none hrun hbank hcont a q

end Sys2Proof.Machine
end
